-- ==== Sys2Proof/Machine/Tab.lean ====
section
/-! DEFINITION. Sparse tables: lists of (key, value) with rising keys. Every memory, register file and per-cell,
per-lane or per-slot table of the state is one of these; a key that is not listed holds the table's default. -/

namespace Sys2Proof.Machine

/-- A sparse table from natural keys. -/
abbrev Tab (α : Type) := List (Nat × α)

/-- The listed value of a key, if any. -/
def Tab.find {α : Type} : Tab α → Nat → Option α
  | [], _ => none
  | (k, v) :: t, x => if k = x then some v else Tab.find t x

/-- The value of a key, `d` where none is listed. -/
def Tab.get {α : Type} (d : α) (t : Tab α) (x : Nat) : α := (Tab.find t x).getD d

/-- Insert or replace, keeping the keys rising. -/
def Tab.put {α : Type} : Tab α → Nat → α → Tab α
  | [], x, v => [(x, v)]
  | (k, w) :: t, x, v =>
    if x < k then (x, v) :: (k, w) :: t
    else if x = k then (x, v) :: t
    else (k, w) :: Tab.put t x v

/-- Remove a key. -/
def Tab.erase {α : Type} : Tab α → Nat → Tab α
  | [], _ => []
  | (k, w) :: t, x => if k = x then Tab.erase t x else (k, w) :: Tab.erase t x

/-- Write a key: the default is not listed. -/
def Tab.set {α : Type} [DecidableEq α] (d : α) (t : Tab α) (x : Nat) (v : α) : Tab α :=
  if v = d then Tab.erase t x else Tab.put t x v

/-- The keys rise strictly from `lo` on. -/
def Tab.risesFrom {α : Type} : Nat → Tab α → Bool
  | _, [] => true
  | lo, (k, _) :: t => decide (lo ≤ k) && Tab.risesFrom (k + 1) t

/-- No entry holds the default. -/
def Tab.noDefault {α : Type} [DecidableEq α] (d : α) : Tab α → Bool
  | [] => true
  | (_, v) :: t => decide (v ≠ d) && Tab.noDefault d t

/-- The canonical form: keys rise strictly and no entry holds the default. -/
def Tab.wf {α : Type} [DecidableEq α] (d : α) (t : Tab α) : Bool :=
  Tab.risesFrom 0 t && Tab.noDefault d t

/-- Keep the entries whose key satisfies a test. -/
def Tab.keep {α : Type} (p : Nat → Bool) : Tab α → Tab α
  | [] => []
  | (k, w) :: t => if p k then (k, w) :: Tab.keep p t else Tab.keep p t

/-- Change every listed value. -/
def Tab.map {α : Type} (f : Nat → α → α) : Tab α → Tab α
  | [] => []
  | (k, w) :: t => (k, f k w) :: Tab.map f t

end Sys2Proof.Machine
end

