-- ==== Sys2Proof/Machine/Reg.lean ====
section
/-! DEFINITION. How registers are described (R4 to R8): blocks, access codes, fields and registers. A register file
is a sparse table of field values: the key is made of the copy, the register's offset and the field's lowest bit, and
a field that is not listed holds its reset value. Reserved bits have no field: they read 0 and ignore writes (R5). -/

namespace Sys2Proof.Machine

/-- The role of the device (R11 to R16). -/
inductive Role where
  | none | manager | concentrator | cell
deriving DecidableEq, Repr

/-- The register blocks in the order of their numbers, bits [20:16] of the block's offset (19_clocks_power_reset). -/
inductive Blk where
  | global | tollgate | hostq | secure | time | eth | trunk | leaf | loom | spindle | gate | adc | angle | reel
  | can | safety | pair | debug
deriving DecidableEq, Repr

/-- The number of a block. -/
def Blk.num : Blk → Nat
  | .global => 0 | .tollgate => 1 | .hostq => 2 | .secure => 3 | .time => 4 | .eth => 5 | .trunk => 6 | .leaf => 7
  | .loom => 8 | .spindle => 9 | .gate => 10 | .adc => 11 | .angle => 12 | .reel => 13 | .can => 14 | .safety => 15
  | .pair => 16 | .debug => 17

/-- The block of a number. -/
def Blk.ofNum : Nat → Option Blk
  | 0 => some .global | 1 => some .tollgate | 2 => some .hostq | 3 => some .secure | 4 => some .time | 5 => some .eth
  | 6 => some .trunk | 7 => some .leaf | 8 => some .loom | 9 => some .spindle | 10 => some .gate | 11 => some .adc
  | 12 => some .angle | 13 => some .reel | 14 => some .can | 15 => some .safety | 16 => some .pair | 17 => some .debug
  | _ => none

/-- Access codes (R4). -/
inductive Acc where
  | rw | ro | wo | w1c | rc
deriving DecidableEq, Repr

/-- How a register is held: one copy; one copy for each configuration set (R52); a written copy and a copy in force
(R51); or a SAFETY parameter, which both channels hold (R338). -/
inductive Copy where
  | live | set | shadow | param
deriving DecidableEq, Repr

/-- A field: block, offset in the block, index strides, lowest bit, width, copy, access code, and its reset value in the
MANAGER, the CONCENTRATOR and the CELL. -/
structure Fld where
  blk  : Blk
  off  : Nat
  s1   : Nat
  s2   : Nat
  lo   : Nat
  w    : Nat
  copy : Copy
  acc  : Acc
  rst  : Nat
  rstK : Nat
  rstC : Nat
deriving DecidableEq, Repr

/-- A register or an array of registers: block, offset, counts and strides, whether it has 64 bits, copy, fields. -/
structure Reg where
  blk  : Blk
  off  : Nat
  n1   : Nat
  s1   : Nat
  n2   : Nat
  s2   : Nat
  wide : Bool
  copy : Copy
  flds : List Fld
deriving Repr

/-- The key of a field in a register file: copy `bank`, indices `i` and `j`. -/
def Fld.key (F : Fld) (bank i j : Nat) : Nat := (bank * 0x20000 + F.off + F.s1 * i + F.s2 * j) * 64 + F.lo

/-- The reset value of a field in a role (R6, R199, R275, R448). -/
def Fld.reset (F : Fld) : Role → Nat
  | .concentrator => F.rstK
  | .cell => F.rstC
  | _ => F.rst

/-- The bank that holds a shadow register's copy in force (R51). -/
def inForce : Nat := 2

/-- The lane registers of block LEAF have the layout of those of TRUNK (R199). -/
def Fld.onLeaf (F : Fld) : Fld := { F with blk := .leaf }

end Sys2Proof.Machine
end

