-- ==== Sys2Proof/Machine/Status.lean ====
section
/-! DEFINITION. The completion codes of R9. -/

namespace Sys2Proof.Machine

/-- The completion codes of R9, in the order of their numbers. -/
inductive Status where
  | ok | retired | timeout | denied | badsig | staleEpoch | late | overflow | ecc | invalid | busy | tripActive
  | cancelLate
deriving DecidableEq, Repr

/-- The number of a completion code (R9). -/
def Status.code : Status → Nat
  | .ok => 0x00 | .retired => 0x01 | .timeout => 0x02 | .denied => 0x03 | .badsig => 0x04 | .staleEpoch => 0x05
  | .late => 0x06 | .overflow => 0x07 | .ecc => 0x08 | .invalid => 0x09 | .busy => 0x0A | .tripActive => 0x0B
  | .cancelLate => 0x0C

/-- The completion code of a number; codes 0x0D to 0xFF are not issued (R9). -/
def Status.ofCode : Nat → Option Status
  | 0x00 => some .ok | 0x01 => some .retired | 0x02 => some .timeout | 0x03 => some .denied | 0x04 => some .badsig
  | 0x05 => some .staleEpoch | 0x06 => some .late | 0x07 => some .overflow | 0x08 => some .ecc | 0x09 => some .invalid
  | 0x0A => some .busy | 0x0B => some .tripActive | 0x0C => some .cancelLate
  | _ => none

end Sys2Proof.Machine
end

