-- ==== Sys2Proof/Word.lean ====
section
/-! DEFINITION. The word types of the model: bytes, the 32-bit words of Loom and of the registers, 64-bit registers,
the accumulator, and the byte memories' cells. -/

namespace Sys2Proof

/-- A byte of a lane block, a frame or a memory. -/
abbrev Byte := BitVec 8

/-- A Loom word, a 32-bit register or a sample word. -/
abbrev Word := BitVec 32

/-- A 64-bit register or a Loom program word. -/
abbrev DWord := BitVec 64

end Sys2Proof
end

