-- ==== Sys2Proof/Wire.lean ====
section
/-! DEFINITION. What a command carries as a record of fields: a received ordered set, and what an input shows beside the event itself. -/

namespace Sys2Proof

/-- An intact /TRN/ (07_skein_lanes, R171 to R175, R192): the sender's role and plane codes, lane number, lane mode and
primary lane, training state (coded as `LANE_STAT.STATE`), RDY, the power state it asks for, the hop delay it reports plus 1
(0 none), and whether it has received the result. -/
structure Trn where
  role   : Nat
  plane  : Nat
  lane   : Nat
  mode   : Nat
  prim   : Nat
  state  : Nat
  rdy    : Bool
  pwr    : Nat
  result : Nat
  got    : Bool
deriving DecidableEq, Repr

/-- What an /RDBK/ carries (R186, R188): a request, the reply with the turnaround T in units of 78.125 ps, or the hop delay in force in
2⁻⁸ ns. -/
inductive Rdbk where
  | ask | reply (t : Nat) | result (d : Nat)
deriving DecidableEq, Repr

/-- How a lane was lost (R180): the cause as `LOSS_CAUSE` codes it, and the code groups that came up to the loss (R169). -/
structure LaneLost where
  cause  : Nat
  groups : List Nat
deriving DecidableEq, Repr

/-- What the two channels of the safety controller sample of an output pair (R326). -/
structure Readback where
  x : Bool
  y : Bool
deriving DecidableEq, Repr

/-- A CAN frame that has been sent: how long ago in ns its start of frame was (R427), and the measured delay of the transceiver in CAN
clocks (R423). -/
structure CanSent where
  ago   : Nat
  delay : Nat
deriving DecidableEq, Repr

/-- A CAN frame that has been received: how long ago in ns its start of frame was (R427), and its edges, each by its bit rate and the tq that
it comes later than the one before it puts it (R423). -/
structure CanSeen where
  ago   : Nat
  edges : List (Bool × Int)
deriving DecidableEq, Repr

/-- A supply out of range (R437), and whether the check of AON's contents holds when the device starts again (R262). -/
structure Excursion where
  supply : Nat
  aonOk  : Bool
deriving DecidableEq, Repr

end Sys2Proof
end

