-- ==== Sys2Proof/Machine/Dev.lean ====
section
/-! DEFINITION. What the device holds, block by block: everything the spec gives the machine but the queue of commands.
A register is held by its fields in its block's register file (Machine/Reg, Machine/RegTab1 to 3); what the spec names
beside the registers is a field of the block's structure here. -/

namespace Sys2Proof.Machine

/-- What the device put on its balls, links and rings in the last command: the newest first. -/
inductive Out where
  /-- A completion of an internal or firmware request (R9): a code that names the request, an index, the status. -/
  | done (what : Nat) (idx : Nat) (st : Status)
  /-- An interrupt message of a function and vector (R397). -/
  | msix (fn : Nat) (vec : Nat)
  /-- A write of host memory with a function's requester ID (R387). -/
  | hostWrite (fn : Nat) (addr : Nat) (bytes : List Byte)
  /-- An Ethernet frame sent on a port (R351, R360). -/
  | ethTx (port : Nat) (bytes : List Byte)
  /-- A pulse on ball `WMKk` (R287). -/
  | wmkPulse (k : Nat)
  /-- A pulse on `BYP_X` (0) or `BYP_Y` (1) (R255). -/
  | bypPulse (ch : Nat)
  /-- A block sent on a lane (lane n of TRUNK is n, lane n of LEAF is 64 + n), which K28.5 opens (R200): its second code group, and its
  bytes with the CRC. A Roadblock is its eight K30.7 alone. -/
  | lane (l : Nat) (kind : Nat) (data : List Byte)
  /-- The /TRN/ that a lane sends from now on, with /IDL/ between, until the next one (R21, R469), or the power request of R192. -/
  | trn (l : Nat) (t : Trn)
  /-- An /RDBK/ (R186, R188): what it carries. -/
  | rdbk (l : Nat) (r : Rdbk)
deriving DecidableEq, Repr

/-- The levels of the strap balls (R11, R13). -/
structure Straps where
  s1 : Bool
  s0 : Bool
  plane : Bool
deriving DecidableEq, Repr

/-- The fourth sample of the straps (R12), and whether the check of AON's contents holds at the latch (R262). -/
structure LastSample where
  straps : Straps
  aonOk  : Bool
deriving DecidableEq, Repr

/-- How an arm of a cycle is commanded: by selection (R150), in carrier mode (R163), or not at all (R470). -/
inductive ArmKind where
  | selection | carrier | passive
deriving DecidableEq, Repr

/-- An arm's work for one cycle (R41, R43, R48). -/
structure ArmWork where
  arm   : Nat
  kind  : ArmKind
  /-- Station time in ns at the end of its Milestone assembly. -/
  fin   : Option Nat
  aband : Bool
deriving DecidableEq, Repr

/-- A control cycle whose work may still be in progress: its number, the configuration set it runs under (R40), the
station time of its boundary, and the stamping values that apply to it (R47). -/
structure CycRec where
  n     : Nat
  set   : Nat
  t0    : Nat
  stampFixed : Bool
  allow : Nat
  fixed : Nat
  arms  : List ArmWork
  /-- The latency of the cycle is recorded (R48). -/
  done  : Bool
deriving DecidableEq, Repr

/-- A configuration swap request that has not completed (R52, R53, R74). -/
structure Swap where
  target  : Nat
  /-- The submission ring and index of the CFG_SWAP descriptor that made the request; none for a register write. -/
  ring    : Option (Nat × Nat)
  /-- The status of the checks once they have ended. -/
  checked : Option Status
  /-- The sets have exchanged and the request waits for the runs of the old set (R74). -/
  exchanged : Bool
  /-- The CORE cycle of the request, counted from FRC 0. -/
  since   : Nat
deriving DecidableEq, Repr

/-- Block GLOBAL and what the whole device shares: role, straps, cycle, configuration set, resets, power. -/
structure Glob where
  regs    : Tab Nat
  /-- `PORST_N` is low or has not yet risen (R439). -/
  por     : Bool
  straps  : Straps
  /-- The role copy a CELL keeps in AON (R15); none before the first latch. -/
  aonRole : Role
  /-- The cycles still worked on, newest first (R40, R41). -/
  cycles  : List CycRec
  /-- A cycle is running (R37). -/
  running : Bool
  /-- Number of the last boundary taken, plus one; 0 before the first (R36). -/
  nextCyc : Nat
  /-- `CYCLE_CTL.STAMP` in force (R49). -/
  stampInForce : Bool
  /-- `GLOBAL.STAMP` has been written and waits for its transfer (R46, R47). -/
  stampWr : Bool
  swap    : Option Swap
  /-- A swap has completed with OK since power-on reset (R447, R468). -/
  swapOk  : Bool
  /-- Blocks whose per-block reset is in progress (R441). -/
  blkRst  : List Nat
  /-- When each began, by block number, in CORE nanoseconds since FRC 0. -/
  rstAt   : Tab Nat
  /-- Islands gated on and not yet ready (R438), by island number. -/
  ramp    : List Nat
  /-- When each was gated on, in CORE nanoseconds since FRC 0. -/
  rampAt  : Tab Nat
  /-- A warm reset that waits for the boundary (R440): bit of `RST_CAUSE`. -/
  warm    : Option Nat
  /-- Captured upper words of 64-bit registers, per master and offset (R7). -/
  caps    : Tab Nat
  /-- Latest fingerprint read from each cell: 0 none, else value plus 1 (R27). -/
  idfp    : Tab Nat
  /-- Cells whose fingerprint read is outstanding (R27). -/
  idPend  : List Nat
  /-- The epoch of a cell's SECURE block as the last reply told it (R57). -/
  idEp    : Tab Nat
deriving DecidableEq, Repr

/-- Block TIME (R343 to R350). -/
structure Time where
  regs   : Tab Nat
  /-- The free-running counter, in ticks (R343). -/
  frc    : Nat
  /-- CORE nanoseconds since the tick, 0 to 4: the model's own resolution below a tick. -/
  fifth  : Nat
  /-- Conversion base: ticks and station time in 2⁻⁴⁰ ns (R344). -/
  bF     : Nat
  bT     : Int
  /-- INC and step that take effect at the next tick (R346, R347). -/
  pendInc  : Option Nat
  pendStep : Option Int
  /-- FRC at which HOLDOVER was entered (R348). -/
  holdAt : Option Nat
  /-- FRC at the last accepted write of INC (R348). -/
  kickAt : Nat
  /-- The last beacons of the source lane: beacon time and FRC at arrival, newest first (R350). -/
  hist   : List (Int × Nat)
  /-- TQ of the latest intact beacon (R350). -/
  srcTq  : Bool
deriving DecidableEq, Repr

/-- A table entry of Tollgate (R400, R401). -/
structure TgEntry where
  en     : Bool
  master : Nat
  r      : Bool
  w      : Bool
  x      : Bool
  base   : Nat
  limit  : Nat
deriving DecidableEq, Repr

/-- A logged denial (R405). -/
structure Deny where
  time   : Nat
  master : Nat
  target : Nat
  off    : Nat
  acc    : Nat
  life   : Bool
deriving DecidableEq, Repr

/-- Block TOLLGATE (R400 to R407). -/
structure Toll where
  regs : Tab Nat
  /-- Table entries written since power-on reset, by copy, target and entry; the others hold R404's. -/
  tg   : Tab TgEntry
  log  : List Deny
deriving DecidableEq, Repr

/-- A completion entry on its way to a completion ring (R393). -/
structure CqEntry where
  tag    : Nat
  status : Status
  op     : Nat
  epoch  : Nat
  notice : Bool
  sq     : Nat
  sqHead : Nat
  irq    : Bool
  payload : List Byte
deriving DecidableEq, Repr

/-- A descriptor that the device has fetched (R389, R392). -/
structure Desc where
  idx   : Nat
  bytes : List Byte
  /-- Started: in progress, or an RX_BUF whose buffer waits for a frame. -/
  started : Bool
  /-- The finished completion, held until every earlier descriptor of the ring has completed (R392). -/
  fin   : Option CqEntry
deriving DecidableEq, Repr

/-- A submission ring (R387, R388); the index of the next descriptor to fetch is `SQ_STAT.HEAD`. -/
structure Sq where
  tail : Nat
  /-- The index after the last completed descriptor (R393). -/
  cons : Nat
  /-- Descriptors fetched and not completed, in ring order. -/
  act  : List Desc
deriving DecidableEq, Repr

/-- A completion ring (R393 to R397); the index of the next entry is `CQ_STAT.TAIL`. -/
structure Cq where
  /-- Entries written and not freed by the host (R394). -/
  used   : Nat
  /-- PHASE of the next entry (R393). -/
  phase  : Bool
  /-- Completion entries that wait to be written, oldest first. -/
  wait   : List CqEntry
  /-- Notices held for want of room, oldest first (R395). -/
  held   : List CqEntry
  /-- Notices were lost: the next entry carries OVF (R395). -/
  ovf    : Bool
  /-- Entries written since the last signal, and station time in ns of the first of them (R397). -/
  since  : Nat
  sinceAt : Nat
deriving DecidableEq, Repr

/-- A direct BAR write that was applied: its CORE cycle, offset, bytes and data (R392). -/
structure DirectWr where
  cyc : Nat
  off : Nat
  n   : Nat
  v   : Nat
deriving DecidableEq, Repr

/-- Block HOSTQ and the PCIe function (R384 to R399). -/
structure Hostq where
  regs : Tab Nat
  sq   : Tab Sq
  cq   : Tab Cq
  /-- Masked MSI-X vectors and those pending behind a mask, as function * 64 + vector (R397). -/
  masked : List Nat
  msiPend : List Nat
  /-- The last direct write of BAR0 (R392). -/
  direct : Option DirectWr
deriving DecidableEq, Repr

/-- A run that is due and has not started: its slot, its cycle, the configuration set, mode, bank and program it runs
(R40, R126, R128), the dependency entries that have arrived (R64), and whether its graft has arrived (R83). -/
structure Run where
  slot  : Nat
  cyc   : Nat
  set   : Nat
  mode  : Nat
  bank  : Nat
  base  : Nat
  len   : Nat
  /-- Station time of the run's own cycle boundary, ns. -/
  t0    : Nat
  arr   : List Nat
  graft : Bool
  /-- The deadline has expired (R65). -/
  late  : Bool
deriving DecidableEq, Repr

/-- A run in execution on a shuttle: the next instruction, P and ACC (R93), the start time in ns after the run's
boundary (R67), the egress words written (R78), and whether its graft was missing (R83). -/
structure Exec where
  run   : Run
  pc    : Nat
  p     : Bool
  acc   : Int
  start : Nat
  /-- CORE cycles of the instructions done so far (R60). -/
  el    : Nat
  wrote : List Nat
  noGraft : Bool
deriving DecidableEq, Repr

/-- The hand-over state of a slot (R131 to R134): the record of the outgoing mode, the value written by the previous run while
slewing, the first cycle whose runs take the hand-over, and the record of a hand-over that only a run of an earlier cycle takes, for its
bank (R127). -/
structure HandOver where
  oldRec : Nat
  prevY  : Int
  cyc    : Nat
  early  : Option Nat
deriving DecidableEq, Repr

/-- A write of a data RAM word not long ago (R71, R92): word address (2²⁰ more for a pending link copy), the station time in ns of
its CORE cycle, who wrote (a shuttle, 16 the ingress, 17 the host, 18 the device itself), the writing slot, the value before. -/
structure MemWr where
  addr : Nat
  tm   : Nat
  port : Nat
  slot : Nat
  old  : Nat
deriving DecidableEq, Repr

/-- An egress value kept for the standby comparison (R84). -/
structure CmpVal where
  cyc : Nat
  o   : Nat
  v   : Nat
deriving DecidableEq, Repr

/-- What the active unit sent with its grafts for one cycle (R138). -/
structure AdoptRec where
  k0    : Nat
  k1    : Nat
  dwell : Nat
  modes : List (Nat × Nat)
deriving DecidableEq, Repr

/-- Block LOOM (03_loom_engine, 05_loom_schedules_handover). -/
structure Loom where
  regs  : Tab Nat
  /-- Data RAM, four bytes a word, little-endian (R68). -/
  ram   : List Host.Cell
  /-- Pending copies of the link words written in this cycle, by word address (R69). -/
  link  : Tab Nat
  /-- Program and coefficient stores of sets 0 and 1 (R72). -/
  prog0 : List Host.Cell
  prog1 : List Host.Cell
  coef0 : List Host.Cell
  coef1 : List Host.Cell
  /-- Memory words that hold an error: 1 correctable, 2 uncorrectable (R81, R82), by memory and address. -/
  ecc   : Tab Nat
  /-- Runs in execution, by shuttle (R59). -/
  sh    : Tab Exec
  /-- Runs due and not started, at most one a slot (R63). -/
  due   : List Run
  /-- Values latched at the boundary for the ingress words, by word (R75). -/
  latch : Tab Nat
  /-- The mode last requested for a slot, plus 4 while the change is pending (R129). -/
  modeReq : Tab Nat
  ho    : Tab HandOver
  /-- Grafts received and not yet written, by cycle * 64 + slot (R83). -/
  graft : Tab (List Nat)
  /-- Egress values of the standby comparison: own and the active unit's (R84). -/
  cmpOwn : List CmpVal
  cmpAct : List CmpVal
  /-- Cycles with a run that was excluded or aborted (R84), and cycles that the active unit ran under another schedule or configuration:
  nothing of these is compared (R138, R293). -/
  cmpMiss : List Nat
  cmpVoid : List Nat
  /-- Indices, dwell and modes to adopt at the next boundary (R138). -/
  adopt : Option AdoptRec
  /-- The own indices, dwell and modes of the last cycles (R138). -/
  sched : Tab AdoptRec
  /-- The sets have exchanged since the last boundary, while no cycle ran (R53, R136). -/
  newSet : Bool
  /-- Runs that have ended: cycle, slot, END (R67). -/
  ends   : List (Nat × Nat × Nat)
  /-- Word writes of the last CORE cycles (R71). -/
  recent : List MemWr
deriving DecidableEq, Repr


/-- A report that the MANAGER has received from a cell (R144, R218): sample cycle, voltage, cell state, position, and whether no
update has started since. -/
structure SpRep where
  k     : Nat
  v     : Nat
  st    : Nat
  pos   : Nat
  fresh : Bool
deriving DecidableEq, Repr

/-- A cell record of Spindle (R140 to R160). -/
structure SpCell where
  /-- STATE (R160) and CAUSE (R156). -/
  st    : Nat
  cause : Nat
  /-- V_est in the buffers of even and odd boundaries (R150), V_dly, RC_FINE. -/
  v0    : Nat
  v1    : Nat
  vd    : Nat
  rc    : Nat
  /-- The last usable report and its sequence; strikes; the last 16 codes, newest in bits [1:0] (R141). -/
  vrep  : Nat
  seq   : Nat
  strikes : Nat
  hist  : Nat
  /-- POS_CMD, and commanded positions not yet in force as execution time in ns and code (R141). -/
  posCmd : Nat
  pend  : List (Nat × Nat)
  /-- The latest usable report shows the gates held off, and its position (R141, R163, R166). -/
  held  : Bool
  tpos  : Nat
  sw    : Nat
  innov : Int
  age   : Nat
  bad   : Nat
  good  : Nat
  clow  : Bool
  /-- Reports not yet taken. -/
  reps  : List SpRep
  /-- The capacitance window: the boundary and V_rep of the usable report of its first edge, A_g, and a window that has ended and is
  to be judged, with its edge reports (R147). -/
  capR  : Option (Nat × Nat)
  capA  : Int
  capDue : Option (Option Nat × Int × Option Nat)
  /-- Consecutive cycles in AVAILABLE (R159); the cycle in which DRIFT was set (R160). -/
  availN : Nat
  drift : Nat
  /-- A bypass-switch request waits for an assembly since this station time in ns; requests sent; updates since the last one (R160). -/
  closeReq : Option Nat
  closeN : Nat
  closeT : Nat
  /-- Host ops that wait for the update (R161): HOST cause, UNLOCK, CLOSE. -/
  hostOp : Option Bool
  unlock : Bool
  close : Bool
  /-- The OP and PARAM of an op of R162 that waits for an assembly, and the station time in ns at which its write was accepted. -/
  op    : Option (Nat × Nat × Nat)
  /-- The words of the record that hold an error: 1 correctable, 2 uncorrectable (R164). -/
  ecc   : Tab Nat
deriving DecidableEq, Repr

/-- Work of an arm for a cycle as Loom hands it over (R78): the values written or defaulted, and the station time in ns of the
last write. -/
structure SpWork where
  cyc  : Nat
  n    : Option Nat
  pol  : Option Nat
  duty : Option Nat
  tm   : Nat
deriving DecidableEq, Repr

/-- An arm of Spindle. -/
structure SpArm where
  /-- The last 16 values of i, newest first (R142). -/
  cur   : List Int
  /-- A sample held for a delayed update: its cycle, its word, and the last valid sample of its channel (R142, R150). -/
  heldW : Option (Nat × Nat × Int)
  /-- The boundary of the last update done, 0 for none (R143), and the station time in ns at which it ends. -/
  upd   : Nat
  updEnd : Nat
  /-- The aggregates latched, and the boundary they are of, plus 1 (R149). -/
  items : List Nat
  itemsAt : Nat
  wk    : List SpWork
  /-- A selection that waits for its assembly: cycle and commands as g and code, and the station time in ns at which it ends
  (R154). -/
  sel   : Option (Nat × List (Nat × Nat))
  selEnd : Nat
  /-- The station time in ns from which the arm's Milestone assembly is free for the next cycle (R40, R41). -/
  asmFree : Nat
deriving DecidableEq, Repr

/-- A write of `CELL_CMD` ops 0x5 to 0x8 whose commands have not all been placed (R162): its cells still to place, its op and, for a
REG_WR descriptor, ring and index; for a direct BAR write, its function. -/
structure SpReq where
  cells : List Nat
  op    : Nat
  desc  : Option (Nat × Nat)
  fn    : Option Nat
deriving DecidableEq, Repr

/-- Block SPINDLE (06_spindle_balancing). -/
structure Spin where
  regs : Tab Nat
  cell : Tab SpCell
  arm  : Tab SpArm
  reqs : List SpReq
  /-- The cell whose record waits for the next update to take the written words (R167). -/
  recPend : Option Nat
  /-- The station time in ns up to which the capture of a record is in progress (R167). -/
  recTill : Nat
deriving DecidableEq, Repr

/-- The last intact /SOF/ of a lane (R203): plane, ACTIVE, TRIP, RELINQ, GEN, CYC, the station time of its arrival in ns, and
whether a Roadblock has arrived on the lane since (R229, R310). -/
structure SofSeen where
  plane  : Nat
  active : Bool
  trip   : Bool
  relinq : Bool
  gen    : Nat
  cyc    : Nat
  tm     : Nat
  rb     : Bool
deriving DecidableEq, Repr

/-- A remote register request that the MANAGER holds (R222 to R225): lane, destination, request fields, the ring and index of
its descriptor (none for the fingerprint read of R27, which is of cell `cell`), its TAG and time of departure once sent. -/
structure RrReq where
  lane  : Nat
  dest  : Nat
  port  : Nat
  op    : Nat
  epoch : Nat
  addr  : Nat
  data  : Nat
  desc  : Option (Nat × Nat)
  cell  : Nat
  sent  : Option (Nat × Nat)
deriving DecidableEq, Repr

/-- A request that a CONCENTRATOR holds for a leaf port (R223): the trunk lane it came on, its packet, and whether it has
left for the cell. -/
structure RrFwd where
  lane : Nat
  port : Nat
  pkt  : List Byte
  sent : Bool
deriving DecidableEq, Repr

/-- A reply waiting for an upstream frame (R223): lane, packet, and the station time in ns from which it may go. -/
structure RrRep where
  lane : Nat
  pkt  : List Byte
  after : Nat
deriving DecidableEq, Repr

/-- What one trunk lane carries of an upstream superframe (R205, R212, R219): the lane, its first port and the number of records, and the
bytes up to the records. -/
structure UpPart where
  lane  : Nat
  first : Nat
  ports : Nat
  head  : List Byte
deriving DecidableEq, Repr

/-- An upstream superframe of a CONCENTRATOR (R205): its cycle, the station time in ns of its first bit, and, once that has come, the
parts that are not complete. -/
structure UpFrame where
  n     : Nat
  t0    : Nat
  parts : Option (List UpPart)
deriving DecidableEq, Repr

/-- What the Skein protocol holds beside the lane registers (08_skein_protocol). -/
structure Proto where
  /-- The last intact /SOF/ by lane, and consecutive missed superframes by lane (R202, R247). -/
  sof   : Tab SofSeen
  miss  : Tab Nat
  /-- UPOFF and NPORT of the latest beacon of the lane that a CONCENTRATOR takes station time from, by lane (R204, R205, R212, R219). -/
  upoff : Tab Nat
  nport : Tab Nat
  /-- Upstream superframes of a CONCENTRATOR that are not complete, oldest first (R205, R219). -/
  up    : List UpFrame
  /-- Requests of the MANAGER, in order of arrival. -/
  rr    : List RrReq
  /-- Last departure of a TAG, by lane, destination, port and TAG: station time in ns plus 1 (R224). -/
  tags  : Tab Nat
  fwd   : List RrFwd
  rep   : List RrRep
  /-- The latest records of a leaf port, newest first, each with the station time of its CRC's last bit (R219). -/
  tlm   : Tab (List (List Byte × Nat))
  /-- Next port in rotation for DPORT, and the ports whose D changed since it was reported (R219). -/
  dport : Nat
  dchg  : List Nat
  /-- A Roadblock was relayed since the previous status record (R219); the lane and time of the last one acted on (R212). -/
  rbRel : Bool
  rbAt  : Option (Nat × Nat)
  /-- D reported for a leaf port behind a trunk lane, by lane * 128 + port, plus 1 (R219). -/
  ldel  : Tab Nat
  /-- Ports in RUN behind a primary trunk lane, by lane * 128 + port (R219). -/
  run   : Tab Nat
  /-- Outside the MANAGER: CYC and beacon time, in 2⁻⁴⁰ ns, of the last intact /SOF/ of each lane since RUN; the period and phase
  in ns that each lane has given (R247), and those of the time lane; 0 for no period. -/
  pSeen : Tab (Nat × Nat)
  pLane : Tab (Nat × Nat)
  per   : Nat
  ph    : Nat
  /-- Cycle, plus 1, in which a leaf port was last sent a request (R223). -/
  rrCyc : Tab Nat
deriving DecidableEq, Repr


/-- A lane beside its registers (07_skein_lanes). -/
structure LaneSt where
  /-- Symbol alignment taken, and consecutive intact /TRN/ since (R173). -/
  aligned : Bool
  trn     : Nat
  /-- The partner has been seen in ALIGN or later in this attempt (R178). -/
  seenUp  : Bool
  /-- The partner sends RDY; own windows settled in succession; settled (R174). -/
  rdy     : Bool
  setN    : Nat
  settled : Bool
  /-- The receiver is locked at a rate (R170, R172), and the rate the hunt tries. -/
  lock    : Bool
  hunt    : Nat
  /-- One attempt out of LANE_ABSENT (R177); the 2 µs transmitter idle is in progress (R181). -/
  once    : Bool
  idle    : Bool
  /-- Equaliser taps, and their values at the start of the drift interval (R184). -/
  taps    : List Int
  tapRef  : List Int
  tapMs   : Nat
  /-- R_k of the exchanges so far, in units of 78.125 ps, newest first (R186, R188). -/
  rks     : List Int
  /-- The measurement is complete (upstream), the result received (downstream). -/
  meas    : Bool
  /-- A remeasurement is in progress (R188). -/
  rem     : Bool
  /-- Remeasurements beyond JUMP_LIM in succession, and D follows each D_new (R188). -/
  jump    : Nat
  follow  : Bool
  /-- A power state to enter after the superframe in progress, and the target of an exit from L3 (R192, R194). -/
  pwrPend : Option Nat
  exit    : Option Nat
  /-- The first /SOF/ in RUN is still to leave (R175, R191). -/
  first   : Bool
  /-- The receiver (R169, R180): running disparity, none where not known yet; the last bit; code groups since K28.5; which of the last 16
  code groups were code violations; and the state of the test sequence of R195. -/
  rd      : Option Bool
  bit     : Nat
  gap     : Nat
  viol    : List Bool
  prbs    : Nat
deriving DecidableEq, Repr

/-- Blocks TRUNK and LEAF: lane n of TRUNK is lane n here, lane n of LEAF is lane 64 + n. -/
structure Lanes where
  trunk : Tab Nat
  leaf  : Tab Nat
  st    : Tab LaneSt
deriving DecidableEq, Repr


/-- A decoded Milestone in a CELL's queue (R209, R215): CARRIER_VALID is `cv`; `late` tells that it was late at decode. -/
structure GCmd where
  op     : Nat
  param  : Nat
  exec   : Nat
  cv     : Bool
  duty   : Nat
  cper   : Nat
  cphase : Nat
deriving DecidableEq, Repr

/-- `GATE.DT_CFG` as a transition takes it (R239), in units of 2⁻⁶ ns. -/
structure DtCfg where
  min    : Nat
  max    : Nat
  margin : Nat
  tmo    : Nat
deriving DecidableEq, Repr

/-- A leg's transition (R234, R237, R238). Times are in units of 2⁻⁶ ns: T0 of station time, the others after T0. -/
structure Trans where
  t0    : Nat
  /-- The incoming switch: the upper one, or the lower one. -/
  hi    : Bool
  /-- The command's EXEC or the carrier edge that caused it, for SWT (R239). -/
  exec  : Nat
  /-- t_node once the node has been seen, and t_d once the incoming switch is on. -/
  node  : Option Nat
  on    : Option Nat
  /-- The dead-time settings that it started with (R239). -/
  cfg   : DtCfg
deriving DecidableEq, Repr

/-- A leg: its outputs are driven, the levels of the upper and lower output, its transition, and consecutive transitions with
SENSE_FAIL (R232, R233, R238); T0 and dead time of the on edge of the switch that is on, in 2⁻⁶ ns of station time (R244). -/
structure Leg where
  drv : Bool
  hi  : Bool
  lo  : Bool
  tr  : Option Trans
  sf  : Nat
  onAt : Nat
deriving DecidableEq, Repr

/-- Carrier values (R240, R241). -/
structure Carr where
  duty   : Nat
  cper   : Nat
  cphase : Nat
deriving DecidableEq, Repr

/-- Block GATE and the CELL role (09_cell_role). -/
structure Gate where
  regs : Tab Nat
  /-- DORMANT (R259), and since when in ns `CPG` has been high with `VDD_AON` below 3.0 V (R460). -/
  dormant : Bool
  cpg     : Bool
  aonLow  : Bool
  /-- Calibration of the wake is done; station time in ns at which VCAP first reached VSTART (R259). -/
  calDone : Bool
  vstart  : Option Nat
  legA  : Leg
  legB  : Leg
  /-- Levels of `BYP_X`, `BYP_Y` and `AUX_SW`, and the channels that fired, bit 0 X, bit 1 Y (R255). -/
  bypX  : Bool
  bypY  : Bool
  auxSw : Bool
  /-- The auxiliary supply may start (R253); `AUX_SW` is driven since its first soft start (R232); channel Y is active since a wake (R260). -/
  auxArm : Bool
  auxDrv : Bool
  yOn    : Bool
  fired : Nat
  /-- Queued commands in order of EXEC (R215), and those that wait for a transition (R236). -/
  cmds  : List GCmd
  wait  : List GCmd
  /-- Carrier shadows, loaded since the wake; the values in force; the period in progress as start and end in units of
  2⁻⁶ ns, and its edges to come as time and position (R240 to R243). -/
  shadow : Option Carr
  force  : Option Carr
  period : Option (Nat × Nat)
  edges  : List (Nat × Nat)
  /-- A carrier edge, with its position and time, that waits for a transition (R236), and the time in units of 2⁻⁶ ns from which the next
  carrier boundary counts where no period is in progress (R243). -/
  edgeWait : Option (Nat × Nat)
  carrAt : Nat
  /-- The followed plane (0 none, 1 A, 2 B), its generation, and the age of the token of each plane (R218, R298). -/
  fplane : Nat
  gen    : Nat
  tage   : Tab Nat
  /-- Consecutive superframes for which the followed plane has not been a candidate (R299). -/
  lost   : Nat
  /-- Telemetry flags since the previous record (R218): LATE, BADCMD, OVF; DESAT until its cause clears. -/
  late   : Bool
  badcmd : Bool
  ovf    : Bool
  desat  : Bool
  /-- Stamps of node changes not yet reported: time in units of 2⁻⁶ ns and offset, oldest first (R239). -/
  swt    : List (Nat × Int)
  /-- Changes of position since the last sample instant: time in units of 2⁻⁶ ns and the position before (R218). -/
  posLog : List (Nat × Nat)
  /-- Levels of `CDS_*`: bit 0 A_HI, 1 A_LO, 2 B_HI, 3 B_LO (R244). -/
  cds    : Nat
  /-- Boundaries and conversions in succession of R250. -/
  xchk   : Nat
  ovxN   : Nat
  /-- Station times in ns of the desaturation trips in the window (R245). -/
  trips  : List Nat
  /-- Auxiliary supply: soft-start periods done; PER of the computation (R251, R253). -/
  ssN    : Nat
  /-- KEY1 was written at this station time in ns (R257). -/
  key1   : Option Nat
  /-- The event log, by entry: 128 bits (R262, R265). -/
  log    : Tab Nat
  /-- Real-time clock: ticks before the last power-on reset (R262). -/
  rtc0   : Nat
  /-- Station time in ns since which the cell has been in RUN (R265, LIFE 1). -/
  runAt  : Option Nat
  /-- OTP bits to be programmed (R256). -/
  otpDue : Nat
deriving DecidableEq, Repr


/-- A conversion: the corrected value in units of 2⁻³² code, before rounding, and its overload mark (R270, R271). -/
structure AdcConv where
  num : Int
  ovr : Bool
deriving DecidableEq, Repr

/-- What ADC_MEAN forms (R276): the sum of DATA and the number of non-NOCONV words since the last boundary, and their
marks. -/
structure AdcMean where
  n     : Nat
  sum   : Int
  valid : Bool
  ovr   : Bool
  novr  : Bool
deriving DecidableEq, Repr

/-- A channel of the converter block. -/
structure AdcCh where
  /-- The latest conversion instants, newest first, none for an instant without a conversion (R273). -/
  hist   : List (Option AdcConv)
  /-- Words still to be marked VALID = 0 (R272). -/
  inv    : Nat
  /-- Station time in ns before which the channel sends NOCONV words (R272, R277). -/
  nocUntil : Nat
  /-- The channel is in input overload, and the instant up to which its neighbours carry NOVR (R271). -/
  ovl    : Bool
  novrTo : Nat
  /-- Words that still carry OVR after an overload (R271). -/
  hold   : Nat
  /-- The latest word at a cycle boundary, its instant, and the mean formed there (R276). -/
  bndT   : Nat
  bndW   : Nat
  bndM   : AdcMean
  /-- The latest valid sample at a cycle boundary (R142). -/
  bndOk  : Int
  /-- The mean of the words since. -/
  mean   : AdcMean
deriving DecidableEq, Repr

/-- Block ADC (10_adc). -/
structure Adc where
  regs : Tab Nat
  ch   : Tab AdcCh
  /-- Station time of the latest conversion instant (R267). -/
  last : Option Nat
  /-- Station time of conversion index 0 in the CELL (R267); none before the first boundary after the wake. -/
  origin : Option Int
  /-- The channels being calibrated (R275). -/
  cal  : Nat
deriving DecidableEq, Repr

/-- An instance of the angle tracker. -/
structure AngInst where
  /-- θ̂ in angle LSB and ω̂ in angle LSB an update (R280). -/
  theta : Nat
  omega : Int
  /-- The amplitude lies in its window: VALID but for an index fault (R283). -/
  ok    : Bool
  /-- Consecutive updates outside and inside the window (R283). -/
  outN  : Nat
  inN   : Nat
  /-- S and C, normalised with 0x4000 = nominal amplitude, and A² in Q2.14 (R279, R283). -/
  sn    : Int
  cn    : Int
  a2    : Nat
  /-- The averages over the excitation period: sums and their numbers, the sign of the latest reference, and whether a whole period is
  under way (R279). -/
  accS  : Int
  accC  : Int
  numS  : Nat
  numC  : Nat
  excNeg : Bool
  excOn  : Bool
  /-- Station time in ns of the latest update. -/
  upT   : Nat
  /-- Correction to apply at the next update (R284). -/
  corr  : Option Int
  /-- The angle without wrapping, and its history: time in ns and angle, newest first (R281). -/
  turn  : Int
  hist  : List (Nat × Int)
  /-- The last crossing of a mark and the time between the last two, in units of 78.125 ps (R281). -/
  mark  : Option Nat
  span  : Option Nat
  /-- Since when the speed has been at most STILL_SPD (R282). -/
  slowAt : Option Nat
deriving DecidableEq, Repr

/-- Block ANGLE (11_angle_tracker). -/
structure Ang where
  regs : Tab Nat
  inst : Tab AngInst
  /-- The levels of `WMK0` to `WMK7`, and which of them are pulses in progress (R287). -/
  wmk   : Nat
  pulse : Nat
  /-- When the pulse in progress ends, in ns (R287). -/
  pulseEnd : Tab Nat
  /-- Where and when a compare last looked at its instance's unwrapped angle, and the compares armed at standstill (R286). -/
  seen   : Tab (Nat × Int)
  either : Nat
  /-- When Loom last wrote a target (R286). -/
  loomAt : Tab Nat
  /-- The levels of `PRB0` to `PRB3` (R285, R368). -/
  prb   : Nat
deriving DecidableEq, Repr

/-- A channel of the safety controller, SX or SY (R314). -/
structure SafeCh where
  /-- Qualified line levels: bit k = line k closed (R319); the lines in their test window (R320). -/
  lines : Nat
  win   : Nat
  /-- State and causes of each instance (R323, R336). -/
  st    : Tab Nat
  cause : Tab Nat
  /-- Output commands: bit j = pair j on (R326). -/
  out   : Nat
  /-- Readbacks as last checked: bit k = `SRBk` (R326). -/
  rb    : Nat
  /-- Active levels of `TRIP0` to `TRIP7` (R331). -/
  trip  : Nat
  /-- Line pairs whose lines disagreed for DISC_T and have not since read open together (R321, R336). -/
  disc  : Nat
  /-- Lines that failed the check of R320, and the consecutive passes since (R336). -/
  itFail : Nat
  itPass : Tab Nat
  /-- Output pairs that failed a readback check (R326, R336). -/
  outFail : Nat
deriving DecidableEq, Repr

/-- Block SAFETY (13_safety_controller): the registers hold channel SX's copy of the parameters. -/
structure Safe where
  regs : Tab Nat
  /-- Channel SY's copy of the parameters (R314, R338). -/
  yPar : Tab Nat
  /-- The channels (R314). -/
  x    : SafeCh
  y    : SafeCh
  /-- When each condition that a time limit watches began, in FRC ticks (`Dev.holds`), and the ends of test pulses and off commands. -/
  since : Tab Nat
  /-- The balls `SO` and `TP` are driven: the controller has been in RUN since power-on (R17, R337). -/
  driven : Bool
  /-- The output of a pair that is being pulsed: 1 SX's, 2 SY's (R326). -/
  pulsed : Tab Nat
  /-- The channels differed at the last exchange (R317), and a reset came since the last one (R335). -/
  diff : Bool
  xRst : Bool
  /-- Channels whose clock, and whose parameter copy, failed the last check (R317): bit 0 SX, bit 1 SY. -/
  clkBad : Nat
  parBad : Nat
  /-- Brake test: θ0, whether it started from LOCKOUT, and FRC at the last PASS (R332, R333). -/
  btTheta : Nat
  btLock  : Bool
  btPassAt : Nat
deriving DecidableEq, Repr

/-- A frame in a transmit queue (R355, R357, R360, R361). -/
structure EthFrame where
  bytes  : List Byte
  /-- The launch time L in short time, and whether the frame is held for it. -/
  launch : Option Nat
  held   : Bool
  /-- The ID of the stamp asked for. -/
  stamp  : Option Nat
  /-- The submission ring and index of its descriptor. -/
  desc   : Option (Nat × Nat)
  /-- Ingress port and stamp of a forwarded frame, in 2⁻⁴⁰ ns. -/
  ingress : Option (Nat × Int)
deriving DecidableEq, Repr

/-- A transmit stamp (R355): ID, port, time in 2⁻⁴⁰ ns. -/
structure TxStamp where
  id   : Nat
  port : Nat
  time : Int
deriving DecidableEq, Repr

/-- An entry of the duplicate table (R352): source, sequence number, the ports it came on. -/
structure DupEntry where
  src : Nat
  seq : Nat
  ports : Nat
  made : Nat
deriving DecidableEq, Repr

/-- A sampled-value stream: the elements of its last frame with their good marks, and when its reception completed
(R358, R359). -/
structure SvStream where
  elems : List (Nat × Bool)
  arr   : Option Nat
deriving DecidableEq, Repr

/-- Block ETH (R351 to R364). -/
structure Eth where
  regs : Tab Nat
  /-- Transmit queues, by port * 4 + queue, the head first (R360). -/
  txq  : Tab (List EthFrame)
  /-- The transmit stamp queue, oldest first (R355). -/
  txts : List TxStamp
  /-- The duplicate table, oldest first (R352). -/
  dup  : List DupEntry
  /-- Learned addresses: address, port, FRC when learned (R352). -/
  learn : List (Nat × Nat × Nat)
  sv   : Tab SvStream
  /-- Sequence numbers of the node's redundant and supervision frames (R352). -/
  seq  : Nat
  supSeq : Nat
  /-- FRC at the last supervision frame (R352). -/
  supAt : Nat
deriving DecidableEq, Repr

/-- What Reel holds of a channel entry: the latest update at or before the last frame, and the updates since, newest
first, as station time in ns and value (R369, R370). -/
structure ReelCh where
  last : Nat
  upd  : List (Nat × Nat)
deriving DecidableEq, Repr

/-- A trigger unit: not armed after it fired, and its previous update as time in ns and value (R372). -/
structure ReelTrg where
  spent : Bool
  prev  : Option (Nat × Int)
deriving DecidableEq, Repr

/-- A recorder instance: its state and slot stand in `INST_STAT`. -/
structure ReelInst where
  /-- Station time of the last frame instant, ns (R369). -/
  lastT : Nat
  /-- Triggers up to this instant fall in IDLE or in an earlier record (R377). -/
  from_ : Nat
  /-- Frames written in the slot (R375). -/
  count : Nat
  /-- Triggers fired and not yet assigned to a frame: unit and time in units of 78.125 ps (R374). -/
  fired : List (Nat × Nat)
  /-- The record's trigger: frame instant, units that fired, first unit and time (R374). -/
  t0    : Nat
  src   : Nat
  first : Nat
  trgT  : Nat
  /-- Frames before the trigger frame and from it on (R376). -/
  pre   : Nat
  post  : Nat
  postTrg : Nat
  flags : Nat
  cfgid : Nat
  /-- The header's copies of the missed triggers (R377). -/
  missed : Nat
  missedAt : Nat
  /-- The slot was taken from an unreleased record (R375). -/
  ovwr  : Bool
  /-- SEQ of the next record (R378). -/
  seq   : Nat
deriving DecidableEq, Repr

/-- Block REEL (15_reel_recorder). -/
structure Reel where
  regs : Tab Nat
  /-- The recorder memory, by BAR4 offset (R365). -/
  ram  : List Host.Cell
  /-- Its words that hold an error, by 8-byte unit: 1 correctable, 2 uncorrectable (R366). -/
  ecc  : Tab Nat
  ch   : Tab ReelCh
  /-- The latest value of each source, by KIND * 2^16 + SEL (R367). -/
  src  : Tab Nat
  trg  : Tab ReelTrg
  inst : Tab ReelInst
  /-- SEQ of the closed record in a slot, by instance * 256 + slot (R375). -/
  seqs : Tab Nat
  /-- The DIG word at its last update, and the events since (R368). -/
  dig  : Nat
  ev   : Nat
deriving DecidableEq, Repr

/-- A CAN frame (R424, R426): ID word, DLC, BRS and data. -/
structure CanFrame where
  id   : Nat
  dlc  : Nat
  brs  : Bool
  data : List Byte
deriving DecidableEq, Repr

/-- A pending frame: its descriptor as ring, index and TAG (none for the mailbox), and whether a late cancel forbids a
retry (R425). -/
structure CanTx where
  frame : CanFrame
  desc  : Option (Nat × Nat × Nat)
  last  : Bool
deriving DecidableEq, Repr

/-- A received frame: time of its SOF in 2⁻⁴⁰ ns, ESI and OWN (R426). -/
structure CanRx where
  frame : CanFrame
  time  : Int
  esi   : Bool
  own   : Bool
deriving DecidableEq, Repr

/-- A controller. -/
structure CanCtl where
  /-- Pending frames in the order of their descriptors. -/
  pend : List CanTx
  /-- The receive FIFO of a CONCENTRATOR, oldest first (R430). -/
  fifo : List CanRx
  /-- Bus-off recovery is under way, and integration on 11 recessive bits (R428, R429, R421). -/
  recov : Bool
  integ : Bool
deriving DecidableEq, Repr

/-- Block CAN (18_can_utility). -/
structure Can where
  regs : Tab Nat
  ctl  : Tab CanCtl
deriving DecidableEq, Repr

/-- The counts of a vote (R304): the sample cycle, R, L, S, F, and the records with FPLANE = o whose GEN is higher than the own
one (`h`) or equal (`e`). -/
structure Vote where
  cyc : Nat
  r : Nat
  l : Nat
  s : Nat
  /-- Records that follow the partner, by GEN; the counts of them are formed when the vote is complete. -/
  gens : Tab Nat
  f : Nat
  h : Nat
  e : Nat
deriving DecidableEq, Repr

/-- A list of Milestones from the active unit (R166, R293): cycle, GEN, EXEC, entries; none for an omitted list. -/
structure MList where
  cyc  : Nat
  gen  : Nat
  exec : Nat
  list : Option (List Nat)
deriving DecidableEq, Repr

/-- Block PAIR (12_plane_redundancy). -/
structure Pair where
  regs  : Tab Nat
  /-- The partner's generation as tracked (R305), and its last intact /SOF/ with its time of arrival in ns (R290). -/
  pgen  : Nat
  psof  : Option SofSeen
  /-- Since the last boundary: evidence of a relinquish (R305), and of a higher active partner (R307). -/
  relSeen : Bool
  depSeen : Bool
  /-- A granted host claim and a host relinquish wait for the boundary (R305, R306); FIT_HOLD has been reached. -/
  claim : Bool
  relq  : Bool
  fitDue : Bool
  /-- The next /SOF/ shows RELINQ = 1 (R303). -/
  relinq : Bool
  /-- The votes being counted and the latest complete one; silent votes with quorum in succession (R304, R305). -/
  acc   : List Vote
  vote  : Option Vote
  conf  : Nat
  /-- Cycles for which the fitness condition has held (R306). -/
  fit   : Nat
  /-- The cycle by which a vote must show a takeover after a relinquish (R308). -/
  watch : Option Nat
  /-- RESUME waits for the boundary (R303). -/
  resume : Bool
  /-- Sticky critical bits, and stalled counters of the partner (R301, R302). -/
  crit  : Nat
  stall : Nat
  /-- Conditions of critical bits that no register shows: a clock is bad (R434), the configuration check failed (R302), a debug halt
  (R444). -/
  clkBad : Bool
  cfgChk : Bool
  halted : Bool
  /-- |skew| exceeds its limit (R291). -/
  skewBad : Bool
  /-- The level of `PAIR_HB_O` (R296). -/
  hb    : Bool
  /-- Coverage counters: own and the partner's (R302). -/
  cov   : Nat
  pcov  : Nat
  /-- Own and partner's cell-map digests (R28). -/
  mapOwn : Option (List Byte)
  mapPar : Option (List Byte)
  /-- The own CFGID before the last swap, and the cycle from which the present one holds (R293). -/
  cfgOld : Nat
  cfgAt  : Nat
  /-- The partner's CFGID differs for the cycle (R293); events of the cycle for the health word: bit 0 SPINDLE_UE, 6 GRAFT_LATE,
  8 LIST_DROP (R301). -/
  cfgBad : Bool
  cycEvt : Nat
  /-- Lists of the active unit of the last cycles, by arm and cycle (R166), and the station time in tenths of a ns up to which the lane of the lists is taken
  (R294). -/
  mlist : Tab MList
  tk1   : Nat
deriving DecidableEq, Repr


/-- A request to the signing engine (R417): the ring and index of its descriptor, none for a register request; the nonce;
and, once it has started, the quote body and the capture time (R416). -/
structure SecReq where
  desc  : Option (Nat × Nat)
  nonce : List Byte
  body  : List Byte
  sec   : Nat
  ns    : Nat
deriving DecidableEq, Repr

/-- Block SECURE and the OTP (R408 to R420). -/
structure Sec where
  regs  : Tab Nat
  /-- Owner key hashes programmed in OTP, by slot (R408). -/
  slots : Tab (List Byte)
  /-- The identity seed has been erased (R410). -/
  noSeed : Bool
  /-- The challenge (R410). -/
  chal  : List Byte
  /-- The image slot to be tried next: 0, 1, or 2 for none (R412); firmware runs; SVN of the running image. -/
  boot  : Nat
  fw    : Bool
  imgSvn : Nat
  /-- The request in the engine and those that wait, in order (R417). -/
  reqs  : List SecReq
deriving DecidableEq, Repr


/-- The debug port and block DEBUG (R443 to R445): the instruction register, the boundary register, the bypass bit, and the status and
data of the last DBG_ACCESS; the management cores are halted in a MANAGER or CONCENTRATOR (R444). -/
structure Dbg where
  regs : Tab Nat
  ir   : Nat
  bsr  : List Bool
  byp  : Bool
  acc  : Option (Status × Nat)
deriving DecidableEq, Repr

/-- A W1C or RC field that an event has reached (R4): which, its value before, and what the events of the cycle would make of 0. -/
structure Fresh where
  key : Nat
  old : Nat
  ev  : Nat
deriving DecidableEq, Repr

/-- The fields that events have reached in one CORE cycle (R4): the cycle, counted from FRC 0, and the fields. -/
structure Events where
  cyc : Nat
  l   : List Fresh
deriving DecidableEq, Repr

/-- The device. -/
structure Dev where
  /-- The role latched from the straps (R11 to R16). -/
  role  : Role
  glob  : Glob
  sec   : Sec
  time  : Time
  toll  : Toll
  hostq : Hostq
  lanes : Lanes
  proto : Proto
  loom  : Loom
  spin  : Spin
  gate  : Gate
  adc   : Adc
  ang   : Ang
  safe  : Safe
  reel  : Reel
  eth   : Eth
  can   : Can
  pair  : Pair
  dbg   : Dbg
  /-- Events of the CORE cycle in progress (R4). -/
  events : Events
  /-- What the last command put on the balls, links and rings, newest first. -/
  out   : List Out
  /-- The completion of the last command where it is an access or a request: status and data (R9). -/
  cpl   : Option (Status × Nat)
  /-- The model's own counter of the free values taken (log entry 2). -/
  free  : Nat
deriving DecidableEq, Repr

end Sys2Proof.Machine
end

