-- ==== Sys2Proof/Syntax.lean ====
section
/-! DEFINITION. The commands of the block: one constructor for each row of the command table, with what the row needs to be told: the
register's index and value, the bytes that arrive, the levels and times that an input shows. -/

namespace Sys2Proof

open Sys2Proof.Machine

/-- A command. Each constructor cites the rule of its row; commands with operands stand before those without. -/
inductive Instr where
  /-- Rise of PORST_N starts the power-on sequence in which the always-on logic samples the straps and latches the role (R12). -/
  | porstNRise (a b c : Straps) (d : LastSample)
  /-- When the boot ROM finishes reading and hashing a flash image slot, it starts the firmware, tries the next slot, or enters RECOVERY (R412). -/
  | bootImageCheck (image : List Byte)
  /-- An arm's Milestone assembly that has not completed by the boundary of cycle n + 2 is abandoned and OVERRUN is recorded (R41). -/
  | assemblyAbandon (arm : Nat)
  /-- An arm's Milestone assembly completes and its Milestones are stamped with their execution time and sent (R43). -/
  | milestoneAssemblyEnd (arm : Nat)
  /-- A write of GLOBAL.CYCLE_CTL sets RUN, STAMP and PERIOD, subject to the period and RUN checks (R37). -/
  | cycleCtlWrite (run stamp : Bool) (period : Nat)
  /-- A write of GLOBAL.CYCLE_PHASE sets the boundary offset, or completes with INVALID or BUSY (R34). -/
  | cyclePhaseWrite (phase : Nat)
  /-- A 64-bit write of GLOBAL.CFG_SWAP requests a configuration swap at a target cycle (R52). -/
  | globalCfgSwapWrite (target : Nat)
  /-- A write to a register without a row of its own sets its fields under the access codes and checks of its chapter (R4). -/
  | registerWrite (master off n value : Nat)
  /-- A shuttle dispatches the lowest-numbered ready slot once all its dependencies have arrived and the shuttle is free (R59). -/
  | runDispatch (sh : Nat)
  /-- A run whose dependencies have not arrived by its deadline becomes ready with IN_LATE set (R65). -/
  | deadlineExpiry (slot : Nat)
  /-- A run ends after its last instruction, its times are recorded and dependent slots are released (R67). -/
  | runEnd (sh : Nat)
  /-- An ingress port writes its word for the cycle into data RAM and marks it arrived (R75). -/
  | ingressWrite (word : Nat)
  /-- A host write to Loom memory through BAR2 updates a store or data RAM, and an egress word goes on to its port (R72). -/
  | bar2Write (fn off n value : Nat)
  /-- A write of LOOM.CTL enables or stops slot runs and selects the view (R86). -/
  | loomCtlWrite (enable view scrub : Bool)
  /-- A write of LOOM.SLOT_RATE is checked and then transfers at a run point of the old schedule (R62). -/
  | slotRateWrite (slot every phase : Nat)
  /-- Loom instruction that does nothing for one cycle (R101). -/
  | nop (sh : Nat)
  /-- Loom instruction that copies a word (R101). -/
  | mov (sh : Nat)
  /-- Loom instruction that writes a 32-bit immediate (R101). -/
  | movi (sh : Nat)
  /-- Loom instruction that loads a table word at a clamped index (R102). -/
  | ldx (sh : Nat)
  /-- Loom instruction that stores a word into a table at a clamped index (R102). -/
  | stx (sh : Nat)
  /-- Loom instruction that adds a shifted word, with saturation (R101). -/
  | add (sh : Nat)
  /-- Loom instruction that subtracts a shifted word, with saturation (R101). -/
  | sub (sh : Nat)
  /-- Loom instruction that sets ACC to a product and writes it scaled (R103). -/
  | mul (sh : Nat)
  /-- Loom instruction that adds a product to ACC and writes it scaled (R103). -/
  | mac (sh : Nat)
  /-- Loom instruction that subtracts a product from ACC and writes it scaled (R103). -/
  | msu (sh : Nat)
  /-- Loom instruction that negates a word (R104). -/
  | neg (sh : Nat)
  /-- Loom instruction that writes the magnitude of a word (R104). -/
  | abs (sh : Nat)
  /-- Loom instruction that adds angles modulo 2^32 (R106). -/
  | addw (sh : Nat)
  /-- Loom instruction that subtracts angles modulo 2^32 (R106). -/
  | subw (sh : Nat)
  /-- Loom instruction that limits a word to a pair of bounds (R105). -/
  | lim (sh : Nat)
  /-- Loom instruction that writes the lesser of two words (R101). -/
  | min (sh : Nat)
  /-- Loom instruction that writes the greater of two words (R101). -/
  | max (sh : Nat)
  /-- Fused PI block with output limits and conditional integration (R109). -/
  | pi (sh : Nat)
  /-- Fused PI block with a resonant term (R110). -/
  | pir (sh : Nat)
  /-- First-order low-pass filter block (R111). -/
  | lpf1 (sh : Nat)
  /-- First-order high-pass filter block (R111). -/
  | hpf1 (sh : Nat)
  /-- Rate-limiting block with separate rise and fall steps (R112). -/
  | ramp (sh : Nat)
  /-- Stateless dead-band block (R113). -/
  | dead (sh : Nat)
  /-- Hysteresis comparator block (R114). -/
  | hyst (sh : Nat)
  /-- Clarke transform with zero-sequence output (R115). -/
  | clk (sh : Nat)
  /-- Park transform (R116). -/
  | prk (sh : Nat)
  /-- Inverse Park transform (R116). -/
  | iprk (sh : Nat)
  /-- Writes sine and cosine of an angle in Q1.30 (R116). -/
  | sincos (sh : Nat)
  /-- Writes the angle and magnitude of a point (R117). -/
  | atn2 (sh : Nat)
  /-- Scaled square root (R118). -/
  | sqrt (sh : Nat)
  /-- Scaled reciprocal (R118). -/
  | rcp (sh : Nat)
  /-- Scaled division (R118). -/
  | div (sh : Nat)
  /-- Interpolated table lookup (R119). -/
  | lut1 (sh : Nat)
  /-- Compares for equality and sets P and d (R107). -/
  | cmpeq (sh : Nat)
  /-- Compares for inequality and sets P and d (R107). -/
  | cmpne (sh : Nat)
  /-- Compares for less than and sets P and d (R107). -/
  | cmplt (sh : Nat)
  /-- Compares for less than or equal and sets P and d (R107). -/
  | cmple (sh : Nat)
  /-- Compares for greater than and sets P and d (R107). -/
  | cmpgt (sh : Nat)
  /-- Compares for greater than or equal and sets P and d (R107). -/
  | cmpge (sh : Nat)
  /-- Selects one of two words by P (R101). -/
  | sel (sh : Nat)
  /-- Bitwise AND (R101). -/
  | and (sh : Nat)
  /-- Bitwise OR (R101). -/
  | or (sh : Nat)
  /-- Bitwise XOR (R101). -/
  | xor (sh : Nat)
  /-- Bitwise NOT (R101). -/
  | not (sh : Nat)
  /-- Sets P from a word being non-zero (R101). -/
  | pset (sh : Nat)
  /-- ANDs P with a word being non-zero (R101). -/
  | pand (sh : Nat)
  /-- ORs P with a word being non-zero (R101). -/
  | por (sh : Nat)
  /-- Inverts P (R101). -/
  | pnot (sh : Nat)
  /-- Writes P to a word (R107). -/
  | pget (sh : Nat)
  /-- The estimator update integrates charge, corrects against usable reports and evaluates the cell state transitions of an arm (R143). -/
  | spindleUpdate (arm : Nat)
  /-- A cell whose AGE reaches STALE_LIM takes cause STALE (R145). -/
  | stale (cell : Nat)
  /-- A cell whose BAD_CNT reaches EXCL_CNT takes cause DRIFT and a strike (R157). -/
  | drift (cell : Nat)
  /-- A cell whose GOOD_CNT reaches READMIT_CNT becomes AVAILABLE (R158). -/
  | readmit (cell : Nat)
  /-- A cell whose STRIKES reach STRIKE_MAX moves to LOCKED, or to CLOSING with BYP_ON_LOCK (R159). -/
  | locked (cell : Nat)
  /-- STRIKES decrements after each decay period spent in AVAILABLE (R159). -/
  | strikeDecay (cell : Nat)
  /-- A cell excluded only by DRIFT moves to PROBATION after READMIT_HOLD cycles (R160). -/
  | readmitHoldExpiry (cell : Nat)
  /-- A CLOSING cell without a BYPASSED report for 16 updates repeats its bypass-switch request or sets CLOSE_FAIL (R160). -/
  | closeRepeat (cell : Nat)
  /-- SW_CNT of every cell is cleared at each boundary of a multiple of 2^RATE_WIN (R153). -/
  | rateWindowEnd (arm : Nat)
  /-- At the end of a capacitance window the ratio is accepted into RC_FINE or the window is rejected (R147). -/
  | capWindowEnd (arm : Nat)
  /-- Selection turns the arm's insertion count into the set of insert, bypass and swap commands for the cycle (R154). -/
  | selection (arm : Nat)
  /-- SPINDLE.CELL_CMD op EXCLUDE sets cause HOST on a cell (R156). -/
  | exclude (cell : Nat)
  /-- SPINDLE.CELL_CMD op RELEASE clears cause HOST on a cell (R156). -/
  | release (cell : Nat)
  /-- SPINDLE.CELL_CMD op UNLOCK returns a LOCKED cell to PENDING (R160). -/
  | unlock (cell : Nat)
  /-- SPINDLE.CELL_CMD op CLOSE moves a cell to CLOSING and sends a bypass-switch request (R160). -/
  | cellCmdClose (cell : Nat)
  /-- SPINDLE.CELL_CMD op CELL_RELEASE sends a CONFIG RELEASE Milestone to a cell or an arm (R162). -/
  | cellRelease (all : Bool) (index : Nat)
  /-- SPINDLE.CELL_CMD op MODE_MS sends a CONFIG MILESTONE-mode Milestone (R162). -/
  | modeMs (all : Bool) (index : Nat)
  /-- SPINDLE.CELL_CMD op MODE_CARRIER sends a CONFIG CARRIER-mode Milestone (R162). -/
  | modeCarrier (all : Bool) (index : Nat)
  /-- SPINDLE.CELL_CMD op CELL_BLOCK sends a BLOCK Milestone (R162). -/
  | cellBlock (all : Bool) (index : Nat)
  /-- A write of SPINDLE.REC_IDX captures a cell record or applies written record words at the next update (R167). -/
  | recIdxWrite (wr : Bool) (cell : Nat)
  /-- Setting LANE_CFG.EN starts training from DETECT (R179). -/
  | laneEnable (lane : Nat)
  /-- Clearing LANE_CFG.EN puts the lane in DISABLED with the transmitter idle (R179). -/
  | laneDisable (lane : Nat)
  /-- A write of LANE_CFG.RATE sends the lane to DETECT and retrains it (R179). -/
  | rateWrite (lane rate : Nat)
  /-- A non-zero LANE_CFG.LOOP write enters a test loop, and a write of 0 ends it (R195). -/
  | loopWrite (lane loop : Nat)
  /-- A write of PWR = L1 at the upstream end enters L1 after the superframe in progress (R192). -/
  | pwrL1 (lane : Nat)
  /-- A write of PWR = L3 enters L3 with taps and delay stored (R192). -/
  | pwrL3 (lane : Nat)
  /-- A write of PWR = L0 returns the lane from L1, or starts the exit from L3 (R194). -/
  | pwrL0 (lane : Nat)
  /-- The L3 exit ends with the delay verified, or fails with LOSS_CAUSE 0x5 (R194). -/
  | l3ExitComplete (lane : Nat) (exchanges : List Int)
  /-- The downstream end tries its next lane rate after 1 ms without lock (R172). -/
  | rateHuntStep (lane : Nat)
  /-- The downstream receiver locks at a rate and the lane enters ALIGN (R172). -/
  | rateLock (lane : Nat)
  /-- An intact /TRN/ is received and advances ALIGN, ADAPT or SYNC, or restarts the attempt (R173). -/
  | trnReceive (lane : Nat) (trn : Trn)
  /-- A 1024-symbol window ends, updates the equaliser if its density qualifies, and counts towards settling (R182). -/
  | adaptWindow (lane : Nat) (groups : List Nat) (taps : List Int)
  /-- A delay exchange is received and, after the last exchange, the hop delay is computed (R186). -/
  | rdbkReceive (lane t1 t2 t3 t4 result : Nat)
  /-- Expiry of a training state timer is a failed attempt that starts a back-off or enters LANE_ABSENT (R176). -/
  | trainingTimeout (lane : Nat)
  /-- The back-off ends and the next training attempt begins (R176). -/
  | backoffEnd (lane : Nat)
  /-- Signal appearing after at least 100 ns without signal ends back-off or starts an attempt from LANE_ABSENT (R177). -/
  | signalAppear (lane : Nat)
  /-- A lane in LANE_ABSENT makes one attempt every second (R177). -/
  | absentRetry (lane : Nat)
  /-- A lane in RUN or L1 is lost on signal, comma or code-violation loss and returns to DETECT (R180). -/
  | laneLoss (lane : Nat) (lost : LaneLost)
  /-- The 2 µs transmitter idle after leaving RUN ends and the attempt begins (R181). -/
  | idleEnd (lane : Nat)
  /-- Every INTERVAL ms the upstream end remeasures and slews the hop delay (R188). -/
  | remeasureInterval (lane : Nat)
  /-- A far-end loop ends when LOOP_TMO expires (R198). -/
  | loopTimeout (lane : Nat)
  /-- LANE_CMD op RETRAIN sends the lane to DETECT (R179). -/
  | retrain (lane : Nat)
  /-- LANE_CMD op UNFREEZE ends an equaliser freeze (R184). -/
  | unfreeze (lane : Nat)
  /-- LANE_CMD op REMEASURE starts a delay remeasurement at once (R188). -/
  | remeasure (lane : Nat)
  /-- An intact /SOF/ and beacon are received and update station time, plane state and counts (R204). -/
  | sofReceive (lane : Nat) (data : List Byte) (clean : Bool)
  /-- A downstream end counts a missed superframe when no intact /SOF/ arrives within 1.5 P and each further P (R202). -/
  | sofMiss (lane : Nat)
  /-- A CONCENTRATOR checks a trunk /MS/ section and forwards one leaf entry per non-NONE slot (R208). -/
  | msSectionForward (lane : Nat) (data : List Byte) (clean : Bool)
  /-- A CELL decodes a leaf /MS/ entry, checks it, and queues or executes it under the late rules (R213). -/
  | msEntryDecode (lane : Nat) (data : List Byte) (clean : Bool)
  /-- A receiver acts on two consecutive K30.7, relaying the stop or performing the block action (R229). -/
  | roadblock (lane run : Nat)
  /-- A write of TRUNK.RB_CTL sets or clears the host trip demand and the PAIR source enable (R228). -/
  | rbCtlWrite (host pairEn : Bool)
  /-- A remote register request is received and is executed, queued or forwarded (R223). -/
  | rrRequest (lane : Nat) (data : List Byte) (clean : Bool)
  /-- A remote register reply is received and matched to its request, or discarded as stale (R224). -/
  | rrReply (lane : Nat) (data : List Byte) (clean : Bool)
  /-- A remote request without a reply completes with TIMEOUT after TMO (R225). -/
  | rrTimeout (lane dest port tag : Nat)
  /-- A CONCENTRATOR receives a cell's telemetry block for placing in its upstream superframe (R219). -/
  | telemetryRecordReceive (lane : Nat) (data : List Byte) (clean : Bool)
  /-- The MANAGER takes the records of a received upstream block into use (R220). -/
  | telemetryUse (lane : Nat) (data : List Byte) (clean : Bool)
  /-- The switching node sense changes to the incoming side and the incoming switch's on time is set (R237). -/
  | nodeSeen (leg tn : Nat)
  /-- The incoming switch turns on at the end of the adaptive dead time (R237). -/
  | incomingOn (leg : Nat)
  /-- With the node not seen by DT_MAX, the incoming switch turns on and DT_MAXED is set (R238). -/
  | dtMaxExpiry (leg : Nat)
  /-- The node not seen within NODE_TMO sets SENSE_FAIL, and four in a row move the cell to FAULT (R238). -/
  | nodeTimeout (leg : Nat)
  /-- A desaturation input high for DESAT_FILT cycles turns every gate off and moves the cell to FAULT (R244). -/
  | desatTrip (levels : Nat)
  /-- A bypass output in pulse mode gives its pulse once every second (R255). -/
  | bypassPulse (y : Bool)
  /-- CPG rises and the cell runs its wake sequence (R260). -/
  | cpgRise (aonHigh : Bool) (a b c d : Straps) (aonOk : Bool)
  /-- A read of GATE.LOG_DATA at 0x00F8 returns an event log entry and advances RD (R265). -/
  | logRead (master : Nat)
  /-- A grid instant produces a channel's sample word with its correction, filter and overload marks (R268). -/
  | conversion (raws : List Int)
  /-- ADC.CAL START begins self-calibration of the masked channels (R275). -/
  | calStart (mask : Nat)
  /-- Self-calibration ends and the offset and gain results are written or rejected (R275). -/
  | calibrationDone (results : List (Int × Nat))
  /-- Every 50 ns the angle tracker updates its angle and speed estimate (R280). -/
  | trackerUpdate (inst : Nat)
  /-- The amplitude outside its window for AFILT updates invalidates the angle (R283). -/
  | ampFault (inst : Nat)
  /-- The amplitude inside the window for AFILT updates resynchronises the angle (R283). -/
  | resync (inst : Nat)
  /-- Speed at or below STILL_SPD for STILL_T sets STILL (R282). -/
  | still (inst : Nat)
  /-- An enabled probe edge latches the angle and time, or counts a miss (R285). -/
  | probeEdge (probe : Nat) (rising : Bool)
  /-- A read of the upper word of PRB_CAP returns the capture and clears FULL (R285). -/
  | prbCapRead (master probe : Nat)
  /-- A write of a Waymark target arms the compare and classifies it as ahead or late (R286). -/
  | wmkTgtWrite (mark target : Nat)
  /-- The angle crosses an armed target and the Waymark output fires (R286). -/
  | wmkCrossing (mark : Nat)
  /-- A Waymark pulse of WIDTH µs ends (R287). -/
  | wmkPulseEnd (mark : Nat)
  /-- A STATE pair exchange block, its bytes in two parts, is received with the partner's health, schedule and mode values (R293). -/
  | pxState (lane : Nat) (head body : List Byte) (clean : Bool)
  /-- A GRAFT pair exchange block, its bytes in two parts, is received and buffered for the standby's next run (R293). -/
  | pxGraft (lane : Nat) (head body : List Byte) (clean : Bool)
  /-- An MLIST pair exchange block, its bytes in two parts, gives the standby Spindle the active unit's commands (R293). -/
  | pxMlist (lane : Nat) (head body : List Byte) (clean : Bool)
  /-- A MAPDIG block is received and compared with the own cell-map digest (R28). -/
  | pxMapdig (lane : Nat) (data : List Byte) (clean : Bool)
  /-- A partner diagnostic counter unchanged for four intervals sets COVERAGE_STALL (R302). -/
  | coverageStall (counter : Nat)
  /-- Each channel checks the other's tick count over 1 ms (R317). -/
  | clockCheck (y : Bool) (ticks : Nat)
  /-- The other channel's supply outside its window for 10 µs is a controller fault (R317). -/
  | supplyFault (y inside : Bool)
  /-- Every 100 ms each channel recomputes the CRC of its parameters (R317). -/
  | paramCrcCheck (y : Bool)
  /-- A safety line qualifies at a new level after IN_FILT samples, which may make a demand (R319). -/
  | lineQualify (y : Bool) (line : Nat) (closed : Bool)
  /-- A TP source pulses low and the lines assigned to it are checked (R320). -/
  | testPulse (tp openX openY : Nat)
  /-- A line not closed again within 500 µs after its test pulse is cause INTEST (R320). -/
  | intestCheck (line : Nat)
  /-- A pair whose lines disagree for DISC_T is cause DISC (R321). -/
  | discrepancy (pair : Nat)
  /-- A brake feedback mismatch lasting FB_T is cause FB (R325). -/
  | fbFault (inst : Nat)
  /-- An output of an on pair is pulsed off and its readback is checked (R326). -/
  | offPulse (pair : Nat) (y : Bool) (seen : Readback)
  /-- CAT1_T expires and the instance enters DEMAND (R328). -/
  | cat1Timeout (inst : Nat)
  /-- An enabled TRIPk input becoming active latches a trip demand (R330). -/
  | tripInput (trip : Nat) (high : Bool)
  /-- A write of SAFETY.TRIP_CLR clears latched trip demands whose inputs are inactive (R330). -/
  | tripClr (mask : Nat)
  /-- A valid SRST falling edge resets instances from READY or LOCKOUT (R334). -/
  | srstPulse (lenX lenY skew : Nat)
  /-- A write of SAFETY.INST_REQ requests brake release or guard unlock, which each channel grants on its own conditions (R324). -/
  | instReqWrite (value : Nat)
  /-- A write of TIME.INC changes the time rate and restarts the kick timer (R346). -/
  | timeIncWrite (value : Nat)
  /-- A write of TIME.STEP steps the offset once per epoch while RUN = 0 (R347). -/
  | timeStepWrite (value : Nat)
  /-- A read of TIME.NOW_LO captures station time (R344). -/
  | nowCapture (master : Nat)
  /-- An Ethernet frame is received, stamped, checked for duplicates and routed to streams, the switch or the host (R351). -/
  | frameReceive (port : Nat) (data : List Byte) (ok : Bool)
  /-- No matched frame for LOSS_TMO sets LOST (R359). -/
  | svLost (stream : Nat)
  /-- A held frame is launched at its launch time (R361). -/
  | frameLaunch (port queue : Nat)
  /-- An Ethernet frame leaves its port and its transmit stamp is queued (R355). -/
  | frameSent (port : Nat)
  /-- A port's link goes down, its epoch increments and its queued frames retire (R361). -/
  | linkDown (port : Nat)
  /-- A read of ETH.TXTS_LO removes and returns the oldest transmit stamp (R355). -/
  | txtsRead (master : Nat)
  /-- A frame instant of a Reel instance is assembled and written into its slot ring (R369). -/
  | reelFrame (inst : Nat)
  /-- The last POST frame is written, the header closes and the instance enters REARM (R375). -/
  | reelRecordClose (inst : Nat)
  /-- Two frame instants after a record closes, the instance takes a slot or becomes FULL (R375). -/
  | rearmEnd (inst : Nat)
  /-- INST_CMD op ARM starts pre-trigger recording (R375). -/
  | reelArm (inst : Nat)
  /-- INST_CMD op STOP returns the instance to IDLE (R375). -/
  | reelStop (inst : Nat)
  /-- A write of REEL.FORCE fires the HOST trigger units of the named instances (R372). -/
  | reelForce (mask : Nat)
  /-- A write of REEL.RELEASE frees a closed record's slot (R379). -/
  | reelRelease (inst slot : Nat)
  /-- A write of SQ_DB adds descriptors to a submission ring (R388). -/
  | sqDoorbell (fn ring value : Nat)
  /-- A write of CQ_DB frees completion entries (R388). -/
  | cqDoorbell (fn ring value : Nat)
  /-- A descriptor fetch from host memory completes, or fails and puts the ring in ERROR (R396). -/
  | descriptorFetch (ring : Nat) (data : List Byte) (bad : Option Status)
  /-- A host memory read ends in a completion timeout or an unsuccessful completion (R396). -/
  | hostReadTimeout (ring : Nat) (fetch timeout : Bool) (data : List Byte)
  /-- Descriptor NOP completes with no action (R390). -/
  | hostqNop (ring : Nat)
  /-- Descriptor REG_RD reads a register (R390). -/
  | regRd (ring : Nat)
  /-- Descriptor REG_WR writes a register (R390). -/
  | regWr (ring : Nat)
  /-- Descriptor COPY_IN copies host memory into a BAR region (R390). -/
  | copyIn (ring : Nat) (data : List Byte)
  /-- Descriptor COPY_OUT copies a BAR region to host memory (R390). -/
  | copyOut (ring : Nat)
  /-- Descriptor REMOTE issues a remote register access over a lane (R390). -/
  | remote (ring : Nat)
  /-- Descriptor CFG_SWAP requests a configuration swap (R390). -/
  | cfgSwap (ring : Nat)
  /-- Descriptor ETH_TX queues an Ethernet frame, optionally stamped or launched at a time (R390). -/
  | ethTx (ring : Nat) (data : List Byte)
  /-- Descriptor RX_BUF supplies a receive buffer (R390). -/
  | rxBuf (ring : Nat)
  /-- Descriptor CAN_TX queues a CAN frame for transmission (R424). -/
  | canTx (ring : Nat) (data : List Byte)
  /-- Descriptor CAN_CANCEL cancels a pending CAN frame if it has not passed arbitration (R425). -/
  | canCancel (ring : Nat) (late : Bool)
  /-- SECURE descriptor SUBOP QUOTE writes a signed attestation quote to host memory (R416). -/
  | quoteDesc (ring : Nat)
  /-- SECURE descriptor SUBOP CERT writes the identity certificate to host memory (R416). -/
  | cert (ring : Nat)
  /-- SECURE descriptor SUBOP COMMAND reads and executes a command record (R410). -/
  | command (ring : Nat) (data : List Byte)
  /-- SECURE descriptor SUBOP FW_LOAD loads a firmware image in RECOVERY (R416). -/
  | fwLoad (ring : Nat) (data : List Byte)
  /-- A completion entry is written to its CQ once there is room (R394). -/
  | cqEntryWrite (cq : Nat)
  /-- TIME µs after the first unsignalled entry, the CQ signals (R397). -/
  | irqCoalesceTimeout (cq : Nat)
  /-- A function level reset disables the function's rings and retires its descriptors (R399). -/
  | flr (fn : Nat)
  /-- A read of DENY_LOG at 0x0018 removes the oldest denial entry (R405). -/
  | denyLogRead (master : Nat)
  /-- Command SET_OWNER programs owner slot 0 and enters DEVELOP (R410). -/
  | setOwner (arg pub sig : List Byte)
  /-- Command SEAL moves the lifecycle to SEALED (R410). -/
  | seal (arg pub sig : List Byte)
  /-- Command ADD_KEY programs an owner key hash into the lowest free slot (R410). -/
  | addKey (arg pub sig : List Byte)
  /-- Command REVOKE revokes an owner key slot (R410). -/
  | revoke (arg pub sig : List Byte)
  /-- Command RETURN erases the identity seed and enters RETURNED (R410). -/
  | returnCmd (arg pub sig : List Byte)
  /-- Command FW_COMMIT raises the OTP security version (R410). -/
  | fwCommit (arg pub sig : List Byte)
  /-- SECURE.CMD op EXTEND extends one of M5 to M7 (R415). -/
  | extend (idx : Nat)
  /-- A write of CAN.CFG.EN = 1 checks the bit timing and puts the controller on the bus (R422). -/
  | canEnable (ctl : Nat)
  /-- Clearing CAN.CFG.EN takes the controller off the bus and retires its frames (R429). -/
  | canDisable (ctl : Nat)
  /-- A CAN frame becomes valid for the transmitter and its CAN_TX completes (R424). -/
  | canFrameSent (ctl : Nat) (sent : CanSent)
  /-- A valid CAN frame is received into a buffer or the mailbox FIFO (R426). -/
  | canFrameReceived (ctl : Nat) (frame : CanFrame) (esi own : Bool) (seen : CanSeen)
  /-- A CAN error updates TEC and REC, the error state and the lone-node count (R428). -/
  | canError (ctl lec : Nat) (tx : Bool) (more : Nat)
  /-- Bus-off recovery ends after 128 occurrences of 11 recessive bits (R428). -/
  | recovered (ctl : Nat)
  /-- CAN.CMD op RECOVER starts bus-off recovery (R428). -/
  | recover (ctl : Nat)
  /-- CAN.CMD op TX queues the CONCENTRATOR mailbox frame (R430). -/
  | tx (ctl : Nat)
  /-- CAN.CMD op CANCEL cancels the mailbox frame (R430). -/
  | cancel (ctl : Nat) (late : Bool)
  /-- A read of RXF_ID moves the oldest frame from the FIFO into the read window (R430). -/
  | rxfRead (master ctl : Nat)
  /-- At the end of each 1 ms window the clock monitor judges REFCLK and CORE (R434). -/
  | clockMonitorWindow (core ref : Int) (refLost : Bool)
  /-- A monitored clock with no edge for 100 ns sets CLOCK at once (R434). -/
  | clockStop (clock : Nat)
  /-- A supply out of range for 2 µs applies a power-on reset to the islands it feeds (R437). -/
  | supplyExcursion (out : Excursion)
  /-- A write of PWR_CTL or PWR_LANE gates islands off or on (R438). -/
  | pwrCtlWrite (lane : Bool) (value : Nat)
  /-- A gated island becomes ready 20 µs after being gated on (R438). -/
  | islandReady (island : Nat)
  /-- GLOBAL.RST_CTL op WARM requests a warm reset (R439). -/
  | warm (key : Nat)
  /-- A write of GLOBAL.BLK_RST starts a per-block reset (R442). -/
  | blkRst (go : Bool) (num : Nat)
  /-- A per-block reset returns the block's logic to reset values, increments its epoch and sets DONE (R441). -/
  | blockResetDone (num : Nat)
  /-- DEBUG.CMD op RESET with the right key starts a warm reset (R444). -/
  | reset (key : Nat)
  /-- JTAG instruction EXTEST drives every ball from the boundary register (R443). -/
  | extest (bits : List Bool)
  /-- JTAG instruction SAMPLE/PRELOAD selects the boundary register without driving balls (R443). -/
  | samplePreload (bits : List Bool)
  /-- JTAG DBG_ACCESS makes one register access as master DEBUG at each Update-DR (R443). -/
  | dbgAccess (op epoch addr data : Nat)
  /-- JTAG instruction BYPASS selects the 1-bit bypass register (R443). -/
  | tapBypass (code : Nat)
  /-- In ALIGN the receiver takes symbol alignment when it sees four K28.5 at one bit position within 128 symbols with no code violation (R173). -/
  | commaAlignment (lane : Nat)
  /-- An Ethernet port's link comes up after training or auto-negotiation and PORT_STAT.LINK is set (R351). -/
  | linkUp (port : Nat)
  /-- A received FD frame with res recessive and FD = 1 sets PROT_EXC and makes the controller integrate for 11 recessive bits without an error frame (R421). -/
  | protocolException (ctl : Nat)
  /-- A readback not on again within 200 µs after an off-pulse, or not off from 200 µs after an off command, is cause OUTTEST (R326). -/
  | outtestCheck (pair seenX seenY : Nat)
  /-- OUTTEST clears after both readbacks read off for 1 s, and FB clears after both feedback lines read applied for FB_T (R336). -/
  | safetyCauseClear (inst : Nat)
  /-- A cell whose CPG rose while VDD_AON was below 3.0 V starts its wake when VDD_AON reaches 3.0 V (R460). -/
  | vddAonWakeLevel (a b c d : Straps) (aonOk : Bool)
  /-- Station time reaches a cycle boundary and the boundary's transfers, sample, superframe and cycle-count change take place (R34). -/
  | cycleBoundary
  /-- A host PAIR.CMD op CLAIM is granted when no cell follows the partner and the partner is not active, otherwise DENIED (R305). -/
  | claim
  /-- The checks of the shadow set end and the swap is scheduled or completes with its status (R53). -/
  | swapChecksDone
  /-- The scrubber reads every Loom memory word once every 50 ms and corrects or records errors (R81). -/
  | scrubPass
  /-- Milestone INSERT_POS falls due and puts the cell IN with positive polarity (R235). -/
  | insertPos
  /-- Milestone INSERT_NEG falls due and puts a full-bridge cell IN with negative polarity (R235). -/
  | insertNeg
  /-- Milestone BYPASS falls due and puts the cell OUT (R235). -/
  | bypass
  /-- Milestone BLOCK falls due and performs the block action (R235). -/
  | block
  /-- Milestone CLOSE falls due and fires bypass channel X (R235). -/
  | close
  /-- Milestone CARRIER falls due and loads the carrier shadow registers (R241). -/
  | carrier
  /-- CONFIG PARAM 0x01 falls due and stops the carrier (R243). -/
  | configMilestone
  /-- CONFIG PARAM 0x02 falls due and puts the cell into CARRIER mode (R243). -/
  | configCarrier
  /-- CONFIG RELEASE falls due and moves the cell to RUN if its conditions hold, otherwise it is refused (R258). -/
  | configRelease
  /-- A command due during a transition takes effect in the cycle after the transition's last on edge (R236). -/
  | deferredCommand
  /-- At a carrier boundary the shadows transfer and a new carrier period starts (R241). -/
  | carrierBoundary
  /-- A carrier edge time is reached and the cell changes position (R240). -/
  | carrierEdge
  /-- When both lanes' missed-superframe counts reach 3, the cell performs the block action with cause LANE (R247). -/
  | cellLaneLoss
  /-- A cell in RUN whose followed plane has not been a candidate for 64 superframes performs the block action (R299). -/
  | followedPlaneLost
  /-- A voltage cross-check mismatch on 16 consecutive boundaries moves the cell to FAULT (R250). -/
  | vsense
  /-- VCAP at or above OVX on 4 consecutive conversions fires channel X (R250). -/
  | ovx
  /-- The SAFE-island comparator sees AIN3 above OVY for Y_FILT ticks and fires bypass channel Y (R254). -/
  | channelYFire
  /-- Programming of the next OTP bypass bit completes (R256). -/
  | otpBypassRecord
  /-- At each switching period boundary the auxiliary shadows transfer if their tags match and the on-time starts (R252). -/
  | auxPeriodBoundary
  /-- The auxiliary supply on-time ends and AUX_SW turns off (R251). -/
  | auxOnEnd
  /-- The primary current exceeds ILIM and the on-time ends at once (R253). -/
  | auxIlim
  /-- VAUX below UV for 1 ms moves the cell to FAULT with cause AUX (R253). -/
  | auxUndervoltage
  /-- VCAP reaches VSTART and the auxiliary supply soft start begins (R253). -/
  | auxStart
  /-- GATE.MAINT op FIRE fires channel X (R254). -/
  | maintFire
  /-- GATE.MAINT op KEY1 opens the 1 ms maintenance window (R257). -/
  | key1
  /-- GATE.MAINT op KEY2 clears the bypass and moves the cell to READY when its conditions hold (R257). -/
  | key2
  /-- CPG falls and the cell turns its gates off, saves its state to AON and enters DORMANT (R261). -/
  | cpgFall
  /-- A WAKING cell with calibration done, VAUX good and a valid time lane becomes READY (R259). -/
  | cellReady
  /-- A cell not READY 100 ms after VCAP reached VSTART moves to FAULT with cause WAKE (R259). -/
  | wakeTimeout
  /-- A qualified IDX edge compares the angle with IDX_POS and corrects or faults (R284). -/
  | indexEdge
  /-- No intact partner /SOF/ within 2 P, or no PAIR lane in RUN, drops XLINK_UP (R290). -/
  | crosslinkLost
  /-- No heartbeat edge for HB_TMO cycles sets HB_LOST (R296). -/
  | hbLost
  /-- The last trunk block of a sample cycle completes the unit's vote (R304). -/
  | voteComplete
  /-- The fitness condition held for FIT_HOLD cycles makes the active unit relinquish (R306). -/
  | fitHoldExpiry
  /-- No vote after a relinquish shows the cells following a higher generation within CLAIM_TMO, so a trip is raised (R308). -/
  | orphan
  /-- PAIR.CMD op RELINQUISH hands over control from an ACTIVE unit (R306). -/
  | relinquish
  /-- PAIR.CMD op RESUME returns a RELINQUISHED unit to STANDBY (R303). -/
  | resume
  /-- PAIR.CMD op PAIR_TRIP_CLR releases the PAIR trip source (R310). -/
  | pairTripClr
  /-- PAIR.CMD op FAULT sets HOST_FAULT (R301). -/
  | fault
  /-- PAIR.CMD op CLEAR clears critical bits whose condition has gone (R301). -/
  | clear
  /-- Every 1 µs the SAFE channels exchange and compare their line levels, states and commands (R317). -/
  | xcmpExchange
  /-- A channel difference lasting XCMP_T is a controller fault (R317). -/
  | xcmpFault
  /-- A write of SAFETY.CTL.RUN = 1 checks both parameter copies and enters RUN (R338). -/
  | safetyRun
  /-- A write of SAFETY.CTL.RUN = 0 returns the controller to CONFIG when no instance runs (R338). -/
  | safetyConfig
  /-- BT_CMD op START begins a brake test when its conditions hold (R332). -/
  | btStart
  /-- BT_CMD op ABORT ends a brake test as ABORTED (R332). -/
  | btAbort
  /-- The torque not reached within BT_TMO aborts the brake test (R332). -/
  | btTorqueTimeout
  /-- Every 1 µs during HOLD each channel samples the shaft movement and fails the test beyond BT_ANG (R332). -/
  | btSample
  /-- BT_T elapses in HOLD and the brake test passes (R332). -/
  | btHoldEnd
  /-- The hours since the last pass reach BT_INT and BT_DUE is set (R333). -/
  | btDue
  /-- A TIME.CTL write of SYNC = FREE sets TQ to 0 (R348). -/
  | syncFree
  /-- A TIME.CTL write of SYNC = LOCKED sets TQ to 1 (R348). -/
  | syncLocked
  /-- A TIME.CTL write of SYNC = HOLDOVER enters holdover (R348). -/
  | syncHoldover
  /-- No INC write for KICK_TMO moves a LOCKED timebase to HOLDOVER (R348). -/
  | kickLost
  /-- HOLD_LIM minutes in HOLDOVER clear TQ (R348). -/
  | holdExp
  /-- PRP or HSR supervision frames are sent every SUP_INT (R352). -/
  | supervisionFrame
  /-- A duplicate-table entry is forgotten DD_AGE ms after it was made (R352). -/
  | ddEntryAge
  /-- SECURE.CMD op QUOTE signs a quote with the nonce in NONCE (R416). -/
  | quote
  /-- The signing engine finishes a quote and sets QDONE (R417). -/
  | quoteDone
  /-- A failed TRNG health test sets RNG_FAIL until power-on reset (R419). -/
  | rngFail
  /-- WRST_N low for 100 ns or longer requests a warm reset (R439). -/
  | wrstN
  /-- The MGMT watchdog expires and requests a warm reset (R439). -/
  | wdogExpiry
  /-- The warm reset takes effect at the next boundary after the relinquishing /SOF/ (R440). -/
  | warmReset
  /-- DEBUG.CMD op HALT stops the management cores, or performs the block action in a CELL (R444). -/
  | halt
  /-- DEBUG.CMD op RESUME lets the halted cores continue (R444). -/
  | resumeDebug
  /-- JTAG instruction IDCODE selects the 32-bit identification register (R443). -/
  | idcode
  /-- PORST_N going low applies the power-on reset: no ball is driven and no island leaves reset until it rises again (R439). -/
  | porstNFall
  /-- An edge on the heartbeat input PAIR_HB_I restarts the HB_TMO count and ends HB_LOST (R296). -/
  | pairHbIEdge
  /-- The boot ROM finishes deriving the identity key and forming M0 and M4, sets ID_READY and, in the CONCENTRATOR and CELL, ends (R412). -/
  | idReady
  /-- Every 100 ms the MANAGER recomputes CFGID over the active set, sets CFG_CHECK on a difference and advances its coverage counter (R302). -/
  | configurationCheck
deriving DecidableEq, Repr

end Sys2Proof
end

