-- ==== Sys2Proof/Decode.lean ====
section
/-! DEFINITION. Commands as words: the command table gives no row any bits, because no command of this hardware has an encoding of its own
(a register write is told by its address, R4; a descriptor by its bytes, R389). -/

namespace Sys2Proof

/-- The command that a word spells by the table's bits: none, since no row has bits. -/
def decodeTableWord (_nbits _w : Nat) : Option Instr := none

end Sys2Proof
end

