-- ==== Sys2Proof/Config.lean ====
section
/-! DEFINITION. What the spec leaves to the part or does not state: constants and functions without a body. Nothing can
be proved of their values (log entry 2). -/

namespace Sys2Proof

/-- The value in codes to which the tracker's S and C are normalised as 0x4000 (R283 names no scale; log entry 2). -/
opaque Config.angNominal : Nat

/-- Where ISO 11898-1 lets REC fall to after a valid frame from above 127: 119 plus this, at most 8 (R428; log entry 2). -/
opaque Config.canRec : Nat → Nat

/-- The identity public key of the part, 64 bytes (R408; log entry 2). -/
opaque Config.idPub : List Byte

/-- The certificate held in OTP, and its length (R408, R420; log entry 2). -/
opaque Config.cert : List Byte

/-- The digest of the boot ROM (R415) and the hash of the vendor root key in mask ROM (R408; log entry 2). -/
opaque Config.romDigest : List Byte
opaque Config.vendorHash : List Byte

/-- ECDSA P-256 verification: public key, digest, signature (17_security; log entry 2). -/
opaque Config.verify : List Byte → List Byte → List Byte → Bool

/-- The signature of a configuration set carries no public key in its registers: whether a digest was signed by one of the
keys with these hashes (R408, R413; log entry 2). -/
opaque Config.verifySet : List (List Byte) → List Byte → List Byte → Bool

/-- The signature of a digest by the identity key (R416; log entry 2). -/
opaque Config.sign : List Byte → List Byte

/-- Random words and challenges of the TRNG (R410, R419; log entry 2). -/
opaque Config.random : Nat → Nat
opaque Config.chal : Nat → List Byte

/-- What extends M4 for the key where no owner slot verified the firmware (R415 names none; log entry 2). -/
opaque Config.noSlot : List Byte

/-- TON where VCAP is 0 (R251 divides by it; log entry 2). -/
opaque Config.auxTon : Nat

/-- Temperatures of the die, which no command brings in, and the temperature that a code of the board thermistor stands for (R219, R249;
log entry 2). -/
opaque Config.temp : Nat → Nat
opaque Config.therm : Int → Nat

/-- The innovation shown where V_rep · 2¹⁶ − V_dly lies outside its 32 signed bits, and the arm current where INEG negates the
code −0x8000 (R140, R142; log entry 2). -/
opaque Config.innov : Int → Int
opaque Config.negCode : Int

/-- The vendor's JEDEC manufacturer code (R443; log entry 2). -/
opaque Config.jedec : Nat

/-- The whole number that `REEL.RATE` shows of a write rate that is not whole: numerator and denominator (R383 names no rounding; log
entry 2). -/
opaque Config.bpus : Nat → Nat → Nat

/-- Whether a CANCEL written to `CAN.CMD` finds its frame at or after the sample point of R425 (log entry 2). -/
opaque Config.canLate : Nat → Bool

/-- Whether a bit error beyond the reach of the secondary sample point is one of a recessive bit (R423 does not say; log entry 2). -/
opaque Config.canBit : Nat → Bool

/-- Where the PRBS-31 sequence of a near-end loop starts (R195 names no start; log entry 2). -/
opaque Config.prbsSeed : Nat

/-- R353: what a stamping unit reads beside the true instant, in 2⁻⁴⁰ ns, within the uncertainty of its point: by direction
(true: transmit), port and instant. -/
opaque Config.stampErr : Bool → Nat → Nat → Int

/-- R353: the constants stored at vendor test for the PCS stamping point, in 2⁻⁴⁰ ns, by direction and rate (true: 10GBASE-R). -/
opaque Config.pcsCorr : Bool → Bool → Int

/-- R361: how far from L, in ns and within 8 ns, the first bit of a launched frame leaves, by port and L. -/
opaque Config.launchErr : Nat → Nat → Int

/-- The time in ns that signing takes in a CONCENTRATOR, which R417 does not state. -/
opaque Config.concSign : Nat

end Sys2Proof
end

