-- ==== Sys2Proof/Machine/Bits.lean ====
section
/-! DEFINITION. Bit fields, sign, saturation, short time, byte order and cyclic redundancy checks: the plain
arithmetic that the chapters of the spec share. -/

namespace Sys2Proof.Machine

/-- Bits [lo + w - 1 : lo] of a natural number. -/
def bits (v lo w : Nat) : Nat := v / 2 ^ lo % 2 ^ w

/-- Bit `i` of a natural number. -/
def bitOf (v i : Nat) : Bool := decide (v / 2 ^ i % 2 = 1)

/-- A Boolean as a bit. -/
def b2n (b : Bool) : Nat := if b then 1 else 0

/-- `v` with bits [lo + w - 1 : lo] replaced by `x`. -/
def putBits (v lo w x : Nat) : Nat := v - bits v lo w * 2 ^ lo + x % 2 ^ w * 2 ^ lo

/-- `v` with bit `i` set to `b`. -/
def putBit (v i : Nat) (b : Bool) : Nat := putBits v i 1 (b2n b)

/-- The two's-complement value of the low `w` bits. -/
def sgn (w v : Nat) : Int :=
  if v % 2 ^ w < 2 ^ (w - 1) then ((v % 2 ^ w : Nat) : Int) else ((v % 2 ^ w : Nat) : Int) - 2 ^ w

/-- The low `w` bits of an integer. -/
def wrap (w : Nat) (x : Int) : Nat := (x % 2 ^ w).toNat

/-- Saturation to a signed number of `w` bits. -/
def satS (w : Nat) (x : Int) : Int := max (-(2 ^ (w - 1))) (min x (2 ^ (w - 1) - 1))

/-- Saturation to an unsigned number of `w` bits. -/
def satU (w : Nat) (x : Int) : Nat := (max 0 (min x (2 ^ w - 1))).toNat

/-- An integer between two bounds. -/
def clampI (lo hi x : Int) : Int := max lo (min x hi)

/-- A saturating counter of `w` bits. -/
def satAdd (w v n : Nat) : Nat := min (2 ^ w - 1) (v + n)

/-- Short times are compared by the sign of their 32-bit difference: `a` counts as earlier than `b` (R3). -/
def earlier (a b : Nat) : Bool := decide (sgn 32 (wrap 32 ((a : Int) - (b : Int))) < 0)

/-- Little-endian bytes of a number (R7). -/
def bytesOf : Nat → Nat → List Byte
  | 0, _ => []
  | n + 1, v => BitVec.ofNat 8 v :: bytesOf n (v / 256)

/-- The number spelled by little-endian bytes (R7). -/
def ofBytes : List Byte → Nat
  | [] => 0
  | b :: bs => b.toNat + 256 * ofBytes bs

/-- The number spelled by big-endian bytes. -/
def ofBytesBE (l : List Byte) : Nat := ofBytes l.reverse

/-- Bytes [from, from + n) of a list, missing bytes 0. -/
def slice (l : List Byte) (start n : Nat) : List Byte :=
  ((l.drop start).take n) ++ List.replicate (n - ((l.drop start).take n).length) 0

/-- The little-endian number in bytes [start, start + n) of a list. -/
def field (l : List Byte) (start n : Nat) : Nat := ofBytes (slice l start n)

/-- Big-endian bytes of a number. -/
def beBytes (n v : Nat) : List Byte := (bytesOf n v).reverse

/-- The big-endian number in bytes [start, start + n) of a list. -/
def fieldBE (l : List Byte) (start n : Nat) : Nat := ofBytes (slice l start n).reverse

/-- One step of a cyclic redundancy check of `w` bits, most significant bit first. -/
def crcStep (w poly crc : Nat) (b : Bool) : Nat :=
  let top := bitOf crc (w - 1) != b
  let sh := crc * 2 % 2 ^ w
  if top then Nat.xor sh poly else sh

/-- The bits of a byte, most significant first. -/
def byteBits (b : Byte) : List Bool := (List.range 8).map fun i => b.getLsbD (7 - i)

/-- A cyclic redundancy check over bytes, each most significant bit first. -/
def crc (w poly init : Nat) (l : List Byte) : Nat :=
  (l.flatMap byteBits).foldl (crcStep w poly) init

/-- One reflected step (least significant bit first), as IEEE 802.3 CRC-32 uses. -/
def crcRStep (poly crc : Nat) (b : Bool) : Nat :=
  let low := bitOf crc 0 != b
  let sh := crc / 2
  if low then Nat.xor sh poly else sh

/-- A reflected cyclic redundancy check over bytes, each least significant bit first. -/
def crcR (poly init : Nat) (l : List Byte) : Nat :=
  (l.flatMap fun b => (byteBits b).reverse).foldl (crcRStep poly) init

/-- CRC-32 with the IEEE 802.3 polynomial (R200). -/
def crc32 (l : List Byte) : Nat := Nat.xor 0xFFFFFFFF (crcR 0xEDB88320 0xFFFFFFFF l)

/-- The data bytes of a block with their CRC-32 after them (R200). -/
def withCrc (l : List Byte) : List Byte := l ++ beBytes 4 (crc32 l)

/-- The data bytes of a received block, and whether its last four bytes are their CRC-32 (R200, R202). -/
def crcBody (l : List Byte) : List Byte := l.take (l.length - 4)
def crcOk (l : List Byte) : Bool := decide (l = withCrc (crcBody l))

/-- The indices of the set bits of a mask below `n`. -/
def bitList (n v : Nat) : List Nat := (List.range n).filter fun i => bitOf v i

/-- Replace element `i` of a list. -/
def setAt {α : Type} : List α → Nat → α → List α
  | [], _, _ => []
  | _ :: t, 0, v => v :: t
  | h :: t, n + 1, v => h :: setAt t n v

/-- The integer square root, by bits from the top: the greatest r < 2^n with r * r ≤ v. -/
def isqrtFrom : Nat → Nat → Nat → Nat
  | 0, _, r => r
  | n + 1, v, r => if (r + 2 ^ n) * (r + 2 ^ n) ≤ v then isqrtFrom n v (r + 2 ^ n) else isqrtFrom n v r

/-- The integer square root of a number below 2^(2n). -/
def isqrt (n v : Nat) : Nat := isqrtFrom n v 0

end Sys2Proof.Machine
end

