-- ==== Sys2Proof/Machine/Flags.lean ====
section
/-! DEFINITION. Rounding, saturation and the exact transforms of the Loom instruction set (R79, R96 to R99, R115 to
R118): every result is the exact mathematical value rounded once. -/

namespace Sys2Proof.Machine

/-- Division by a positive number with the rounding of R97: towards minus infinity, or to nearest with ties away from
zero. -/
def roundDiv (rnd : Bool) (x : Int) (d : Nat) : Int :=
  if rnd then
    (if 0 ≤ x then (2 * x + (d : Int)) / (2 * (d : Int)) else -((2 * -x + (d : Int)) / (2 * (d : Int))))
  else x / (d : Int)

/-- Right shift with the rounding of R97. -/
def shr (rnd : Bool) (x : Int) (n : Nat) : Int := roundDiv rnd x (2 ^ n)

/-- Division by a number of either sign (not 0) with the rounding of R97. -/
def roundQuot (rnd : Bool) (x d : Int) : Int :=
  if 0 < d then roundDiv rnd x d.toNat else roundDiv rnd (-x) (-d).toNat

/-- A value outside the 32-bit range saturates (R79). -/
def outside32 (x : Int) : Bool := decide (x < -(2 ^ 31)) || decide (2 ^ 31 - 1 < x)

/-- The lesser of the limits nearest to `x`, as a word (R79). -/
def satWord (x : Int) : Word := BitVec.ofInt 32 (satS 32 x)

/-- The range of the accumulator (R103). -/
def satAcc (x : Int) : Int := satS 72 x

/-- √v rounded: v is a natural number below 2^(2n) (R118, R117). -/
def rootRound (rnd : Bool) (n v : Nat) : Nat :=
  if rnd then (isqrt (n + 1) (4 * v) + 1) / 2 else isqrt n v

/-- (b − c) / √3 rounded under R97; irrational unless the difference is 0 (R115). -/
def overRoot3 (rnd : Bool) (m : Int) : Int :=
  let k := m.natAbs
  if rnd then
    let r : Int := ((isqrt 36 (4 * k * k / 3) + 1) / 2 : Nat)
    if 0 ≤ m then r else -r
  else if 0 ≤ m then (isqrt 35 (k * k / 3) : Nat) else -((isqrt 35 (k * k / 3) + 1 : Nat) : Int)

/-- Fraction bits of the fixed-point numbers in which sines are formed. -/
def trigBits : Nat := 200

/-- π with 224 fraction bits. -/
def piFix : Nat := 0x3243f6a8885a308d313198a2e03707344a4093822299f31d0082efa98

/-- A power series Σ ± t with t ← t · x² / (k (k + 1)): the terms of the sine (start x, k = 2) and the cosine
(start 1, k = 1), in fixed point. -/
def trigSeries : Nat → Nat → Int → Int → Int → Int
  | 0, _, _, _, sum => sum
  | n + 1, k, x2, t, sum =>
    let t' := -(t * x2 / 2 ^ trigBits / ((k : Int) * ((k : Int) + 1)))
    trigSeries n (k + 2) x2 t' (sum + t')

/-- Sine and cosine, in fixed point, of a half-LSB angle below a quarter turn: `h` counts halves of 2⁻³² turn. -/
def sinCosQuarter (h : Nat) : Int × Int :=
  let x : Int := (h * piFix / 2 ^ (32 + (224 - trigBits)) : Nat)
  let x2 := x * x / 2 ^ trigBits
  (trigSeries 40 2 x2 x x, trigSeries 40 1 x2 (2 ^ trigBits) (2 ^ trigBits))

/-- Sine and cosine, in fixed point, of any angle of `h` halves of 2⁻³² turn; exact at quarter turns. -/
def sinCosFix (h : Nat) : Int × Int :=
  let sc := sinCosQuarter (h % 2 ^ 31)
  match h / 2 ^ 31 % 4 with
  | 0 => (sc.1, sc.2)
  | 1 => (sc.2, -sc.1)
  | 2 => (-sc.1, -sc.2)
  | _ => (-sc.2, sc.1)

/-- SINCOS: sine and cosine of an angle word in Q1.30, to nearest with ties away from zero (R116). -/
def sinCosQ30 (angle : Nat) : Int × Int :=
  let sc := sinCosFix (2 * (angle % 2 ^ 32))
  (roundDiv true sc.1 (2 ^ (trigBits - 30)), roundDiv true sc.2 (2 ^ (trigBits - 30)))

/-- Whether the point (x, y) lies at an angle of at least `h` halves of an angle LSB: both angles are taken in one turn
from 0, and `h` lies in the same half turn as the point. -/
def atLeastAngle (x y : Int) (h : Nat) : Bool :=
  let sc := sinCosFix h
  decide (0 ≤ y * sc.2 - x * sc.1)

/-- The greatest angle word whose lower rounding boundary the point has reached, by bits from the top, starting at
`base` halves. -/
def angleSearch (x y : Int) : Nat → Nat → Nat
  | 0, a => a
  | n + 1, a =>
    let c := a + 2 ^ n
    if decide (c ≤ 2 ^ 31) && atLeastAngle x y (2 * c - 1) then angleSearch x y n c else angleSearch x y n a

/-- ATN2: the angle of a point other than the origin in units of 2⁻³² turn, rounded to nearest (R117). -/
def angleOf (x y : Int) : Nat :=
  if 0 ≤ y ∧ ¬ (y = 0 ∧ x < 0) then angleSearch x y 32 0 % 2 ^ 32
  else (2 ^ 31 + angleSearch (-x) (-y) 32 0) % 2 ^ 32

/-- ATN2: the magnitude of a point, to nearest (R117). -/
def magnitude (x y : Int) : Int := (rootRound true 33 (x * x + y * y).toNat : Nat)

end Sys2Proof.Machine
end

