-- ==== Sys2Proof/Machine/Mem.lean ====
section
/-! DEFINITION. The addressed memories (R68, R72, R365): lists of address and byte in one canonical form. A byte that
nothing has written reads 0 (log entry 5). -/

namespace Sys2Proof.Machine

/-- An addressed memory. -/
abbrev Mem := List Host.Cell

/-- Read a byte. -/
def Mem.read (m : Mem) (a : Nat) : Byte := Tab.get 0 m a

/-- Write a byte: a byte that an unlisted address reads as is not listed. -/
def Mem.write (m : Mem) (a : Nat) (b : Byte) : Mem := Tab.set 0 m a b

/-- The canonical form: addresses rise strictly and no listed byte is 0. -/
def Mem.wf (m : Mem) : Bool := Tab.wf (0 : Byte) m

/-- Write bytes from an address on. -/
def Mem.writeList : Mem → Nat → List Byte → Mem
  | m, _, [] => m
  | m, a, b :: bs => Mem.writeList (m.write a b) (a + 1) bs

/-- Read `n` bytes from an address on. -/
def Mem.readList (m : Mem) : Nat → Nat → List Byte
  | _, 0 => []
  | a, n + 1 => m.read a :: Mem.readList m (a + 1) n

/-- Read a little-endian number of `n` bytes (R7). -/
def Mem.load (m : Mem) (a n : Nat) : Nat := ofBytes (m.readList a n)

/-- Write a little-endian number of `n` bytes (R7). -/
def Mem.store (m : Mem) (a n v : Nat) : Mem := m.writeList a (bytesOf n v)

end Sys2Proof.Machine
end

