-- ==== Sys2Proof/Machine/RegTab1.lean ====
section
/-! DEFINITION. The register fields of the blocks GLOBAL, TIME, LOOM, SPINDLE, and the registers
they make up, copied from the register tables of the spec's chapters: one `Fld` a field (its offset, strides, bits,
access code and reset value) and one `Reg` a register. A field named by no `Fld` is reserved (R5). -/

namespace Sys2Proof.Machine.F

/-! Block GLOBAL (01_roles_topology R18, 02_control_cycle R48, 02_control_cycle R49, 02_control_cycle R53, 19_clocks_power_reset R448). -/
def GLOBAL_ROLE_FAULT : Fld := ⟨.global, 0x8, 0, 0, 8, 4, .live, .ro, 0, 0, 0⟩
def GLOBAL_ROLE_PLANE : Fld := ⟨.global, 0x8, 0, 0, 6, 2, .live, .ro, 0, 0, 0⟩
def GLOBAL_ROLE_STRAP : Fld := ⟨.global, 0x8, 0, 0, 4, 2, .live, .ro, 0, 0, 0⟩
def GLOBAL_ROLE_ROLE : Fld := ⟨.global, 0x8, 0, 0, 0, 3, .live, .ro, 0, 0, 0⟩
/-- `GLOBAL.ROLE`. -/
def regGlobalRole : Reg := ⟨.global, 0x8, 1, 0, 1, 0, false, .live, [GLOBAL_ROLE_FAULT, GLOBAL_ROLE_PLANE, GLOBAL_ROLE_STRAP, GLOBAL_ROLE_ROLE]⟩
def GLOBAL_CYCLE_CTL_RUN : Fld := ⟨.global, 0x100, 0, 0, 31, 1, .live, .rw, 0, 0, 0⟩
def GLOBAL_CYCLE_CTL_STAMP : Fld := ⟨.global, 0x100, 0, 0, 16, 1, .live, .rw, 0, 0, 0⟩
def GLOBAL_CYCLE_CTL_PERIOD : Fld := ⟨.global, 0x100, 0, 0, 0, 11, .live, .rw, 20, 20, 20⟩
/-- `GLOBAL.CYCLE_CTL`. -/
def regGlobalCycleCtl : Reg := ⟨.global, 0x100, 1, 0, 1, 0, false, .live, [GLOBAL_CYCLE_CTL_RUN, GLOBAL_CYCLE_CTL_STAMP, GLOBAL_CYCLE_CTL_PERIOD]⟩
def GLOBAL_CYCLE_PHASE_PHASE : Fld := ⟨.global, 0x104, 0, 0, 0, 17, .live, .rw, 0, 0, 0⟩
/-- `GLOBAL.CYCLE_PHASE`. -/
def regGlobalCyclePhase : Reg := ⟨.global, 0x104, 1, 0, 1, 0, false, .live, [GLOBAL_CYCLE_PHASE_PHASE]⟩
def GLOBAL_STAMP_FIXED : Fld := ⟨.global, 0x108, 0, 0, 16, 16, .shadow, .rw, 0, 0, 0⟩
def GLOBAL_STAMP_ALLOW : Fld := ⟨.global, 0x108, 0, 0, 0, 16, .shadow, .rw, 0, 0, 0⟩
/-- `GLOBAL.STAMP`. -/
def regGlobalStamp : Reg := ⟨.global, 0x108, 1, 0, 1, 0, false, .shadow, [GLOBAL_STAMP_FIXED, GLOBAL_STAMP_ALLOW]⟩
def GLOBAL_ALLOW_MEAS_GMAX : Fld := ⟨.global, 0x10C, 0, 0, 16, 13, .live, .ro, 0, 0, 0⟩
def GLOBAL_ALLOW_MEAS_DMAX : Fld := ⟨.global, 0x10C, 0, 0, 0, 16, .live, .ro, 0, 0, 0⟩
/-- `GLOBAL.ALLOW_MEAS`. -/
def regGlobalAllowMeas : Reg := ⟨.global, 0x10C, 1, 0, 1, 0, false, .live, [GLOBAL_ALLOW_MEAS_GMAX, GLOBAL_ALLOW_MEAS_DMAX]⟩
def GLOBAL_CYCLE_CNT_CYCLE : Fld := ⟨.global, 0x110, 0, 0, 0, 64, .live, .ro, 0, 0, 0⟩
/-- `GLOBAL.CYCLE_CNT`. -/
def regGlobalCycleCnt : Reg := ⟨.global, 0x110, 1, 0, 1, 0, true, .live, [GLOBAL_CYCLE_CNT_CYCLE]⟩
def GLOBAL_CYCLE_STAT_OVR_CNT : Fld := ⟨.global, 0x118, 0, 0, 24, 8, .live, .rc, 0, 0, 0⟩
def GLOBAL_CYCLE_STAT_SLIP_CNT : Fld := ⟨.global, 0x118, 0, 0, 16, 8, .live, .rc, 0, 0, 0⟩
def GLOBAL_CYCLE_STAT_SWAP_FAIL : Fld := ⟨.global, 0x118, 0, 0, 5, 1, .live, .w1c, 0, 0, 0⟩
def GLOBAL_CYCLE_STAT_SWAP_DONE : Fld := ⟨.global, 0x118, 0, 0, 4, 1, .live, .w1c, 0, 0, 0⟩
def GLOBAL_CYCLE_STAT_ALLOW_SHORT : Fld := ⟨.global, 0x118, 0, 0, 2, 1, .live, .w1c, 0, 0, 0⟩
def GLOBAL_CYCLE_STAT_STAMP_SLIP : Fld := ⟨.global, 0x118, 0, 0, 1, 1, .live, .w1c, 0, 0, 0⟩
def GLOBAL_CYCLE_STAT_OVERRUN : Fld := ⟨.global, 0x118, 0, 0, 0, 1, .live, .w1c, 0, 0, 0⟩
/-- `GLOBAL.CYCLE_STAT`. -/
def regGlobalCycleStat : Reg := ⟨.global, 0x118, 1, 0, 1, 0, false, .live, [GLOBAL_CYCLE_STAT_OVR_CNT, GLOBAL_CYCLE_STAT_SLIP_CNT, GLOBAL_CYCLE_STAT_SWAP_FAIL, GLOBAL_CYCLE_STAT_SWAP_DONE, GLOBAL_CYCLE_STAT_ALLOW_SHORT, GLOBAL_CYCLE_STAT_STAMP_SLIP, GLOBAL_CYCLE_STAT_OVERRUN]⟩
def GLOBAL_LAT_MAX : Fld := ⟨.global, 0x11C, 0, 0, 16, 16, .live, .rc, 0, 0, 0⟩
def GLOBAL_LAT_LAST : Fld := ⟨.global, 0x11C, 0, 0, 0, 16, .live, .ro, 0, 0, 0⟩
/-- `GLOBAL.LAT`. -/
def regGlobalLat : Reg := ⟨.global, 0x11C, 1, 0, 1, 0, false, .live, [GLOBAL_LAT_MAX, GLOBAL_LAT_LAST]⟩
def GLOBAL_CFG_SWAP_TARGET : Fld := ⟨.global, 0x120, 0, 0, 0, 64, .live, .wo, 0, 0, 0⟩
/-- `GLOBAL.CFG_SWAP`. -/
def regGlobalCfgSwap : Reg := ⟨.global, 0x120, 1, 0, 1, 0, true, .live, [GLOBAL_CFG_SWAP_TARGET]⟩
def GLOBAL_CFG_STAT_STATUS : Fld := ⟨.global, 0x128, 0, 0, 8, 8, .live, .ro, 0, 0, 0⟩
def GLOBAL_CFG_STAT_PENDING : Fld := ⟨.global, 0x128, 0, 0, 1, 1, .live, .ro, 0, 0, 0⟩
def GLOBAL_CFG_STAT_ACTIVE : Fld := ⟨.global, 0x128, 0, 0, 0, 1, .live, .ro, 0, 0, 0⟩
/-- `GLOBAL.CFG_STAT`. -/
def regGlobalCfgStat : Reg := ⟨.global, 0x128, 1, 0, 1, 0, false, .live, [GLOBAL_CFG_STAT_STATUS, GLOBAL_CFG_STAT_PENDING, GLOBAL_CFG_STAT_ACTIVE]⟩
def GLOBAL_PARTID_PARTID : Fld := ⟨.global, 0x0, 0, 0, 0, 32, .live, .ro, 24900, 24900, 24900⟩
/-- `GLOBAL.PARTID`. -/
def regGlobalPartid : Reg := ⟨.global, 0x0, 1, 0, 1, 0, false, .live, [GLOBAL_PARTID_PARTID]⟩
def GLOBAL_STEP_STEP : Fld := ⟨.global, 0x4, 0, 0, 0, 8, .live, .ro, 176, 176, 176⟩
/-- `GLOBAL.STEP`. -/
def regGlobalStep : Reg := ⟨.global, 0x4, 1, 0, 1, 0, false, .live, [GLOBAL_STEP_STEP]⟩
def GLOBAL_CLK_STAT_PLL_LOCK : Fld := ⟨.global, 0x10, 0, 0, 31, 1, .live, .ro, 0, 0, 0⟩
def GLOBAL_CLK_STAT_ON_OSC : Fld := ⟨.global, 0x10, 0, 0, 30, 1, .live, .ro, 1, 1, 1⟩
def GLOBAL_CLK_STAT_HOLD : Fld := ⟨.global, 0x10, 0, 0, 29, 1, .live, .ro, 0, 0, 0⟩
def GLOBAL_CLK_STAT_MON_REF_LOST : Fld := ⟨.global, 0x10, 0, 0, 23, 1, .live, .w1c, 0, 0, 0⟩
def GLOBAL_CLK_STAT_CORE_BAD : Fld := ⟨.global, 0x10, 0, 0, 22, 1, .live, .w1c, 0, 0, 0⟩
def GLOBAL_CLK_STAT_REFCLK_BAD : Fld := ⟨.global, 0x10, 0, 0, 21, 1, .live, .w1c, 0, 0, 0⟩
/-- `GLOBAL.CLK_STAT`. -/
def regGlobalClkStat : Reg := ⟨.global, 0x10, 1, 0, 1, 0, false, .live, [GLOBAL_CLK_STAT_PLL_LOCK, GLOBAL_CLK_STAT_ON_OSC, GLOBAL_CLK_STAT_HOLD, GLOBAL_CLK_STAT_MON_REF_LOST, GLOBAL_CLK_STAT_CORE_BAD, GLOBAL_CLK_STAT_REFCLK_BAD]⟩
def GLOBAL_CLK_MON_CORE_PPM : Fld := ⟨.global, 0x18, 0, 0, 16, 16, .live, .ro, 0, 0, 0⟩
def GLOBAL_CLK_MON_REF_PPM : Fld := ⟨.global, 0x18, 0, 0, 0, 16, .live, .ro, 0, 0, 0⟩
/-- `GLOBAL.CLK_MON`. -/
def regGlobalClkMon : Reg := ⟨.global, 0x18, 1, 0, 1, 0, false, .live, [GLOBAL_CLK_MON_CORE_PPM, GLOBAL_CLK_MON_REF_PPM]⟩
def GLOBAL_PWR_CTL_REEL_ON : Fld := ⟨.global, 0x20, 0, 0, 31, 1, .live, .rw, 1, 1, 1⟩
def GLOBAL_PWR_CTL_ETH_ON : Fld := ⟨.global, 0x20, 0, 0, 27, 4, .live, .rw, 15, 15, 15⟩
def GLOBAL_PWR_CTL_ADC_ON : Fld := ⟨.global, 0x20, 0, 0, 0, 16, .live, .rw, 65535, 3, 15⟩
/-- `GLOBAL.PWR_CTL`. -/
def regGlobalPwrCtl : Reg := ⟨.global, 0x20, 1, 0, 1, 0, false, .live, [GLOBAL_PWR_CTL_REEL_ON, GLOBAL_PWR_CTL_ETH_ON, GLOBAL_PWR_CTL_ADC_ON]⟩
def GLOBAL_PWR_LANE_TRK_ON : Fld := ⟨.global, 0x28, 0, 0, 16, 6, .live, .rw, 63, 63, 63⟩
def GLOBAL_PWR_LANE_LEAF_ON : Fld := ⟨.global, 0x28, 0, 0, 0, 16, .live, .rw, 65535, 65535, 65535⟩
/-- `GLOBAL.PWR_LANE`. -/
def regGlobalPwrLane : Reg := ⟨.global, 0x28, 1, 0, 1, 0, true, .live, [GLOBAL_PWR_LANE_TRK_ON, GLOBAL_PWR_LANE_LEAF_ON]⟩
def GLOBAL_PWR_STAT_READY : Fld := ⟨.global, 0x24, 0, 0, 31, 1, .live, .ro, 0, 0, 0⟩
/-- `GLOBAL.PWR_STAT`. -/
def regGlobalPwrStat : Reg := ⟨.global, 0x24, 1, 0, 1, 0, false, .live, [GLOBAL_PWR_STAT_READY]⟩
def GLOBAL_RST_CTL_OP : Fld := ⟨.global, 0x30, 0, 0, 16, 16, .live, .wo, 0, 0, 0⟩
/-- `GLOBAL.RST_CTL`. -/
def regGlobalRstCtl : Reg := ⟨.global, 0x30, 1, 0, 1, 0, false, .live, [GLOBAL_RST_CTL_OP]⟩
def GLOBAL_BLK_RST_GO : Fld := ⟨.global, 0x34, 0, 0, 31, 1, .live, .wo, 0, 0, 0⟩
def GLOBAL_BLK_RST_BLOCK : Fld := ⟨.global, 0x34, 0, 0, 0, 5, .live, .wo, 0, 0, 0⟩
/-- `GLOBAL.BLK_RST`. -/
def regGlobalBlkRst : Reg := ⟨.global, 0x34, 1, 0, 1, 0, false, .live, [GLOBAL_BLK_RST_GO, GLOBAL_BLK_RST_BLOCK]⟩
def GLOBAL_BLK_STAT_DONE : Fld := ⟨.global, 0x38, 0, 0, 31, 1, .live, .w1c, 0, 0, 0⟩
def GLOBAL_BLK_STAT_BUSY : Fld := ⟨.global, 0x38, 0, 0, 30, 1, .live, .ro, 0, 0, 0⟩
def GLOBAL_BLK_STAT_BLOCK : Fld := ⟨.global, 0x38, 0, 0, 16, 5, .live, .ro, 0, 0, 0⟩
def GLOBAL_BLK_STAT_RETIRED : Fld := ⟨.global, 0x38, 0, 0, 0, 16, .live, .rc, 0, 0, 0⟩
/-- `GLOBAL.BLK_STAT`. -/
def regGlobalBlkStat : Reg := ⟨.global, 0x38, 1, 0, 1, 0, false, .live, [GLOBAL_BLK_STAT_DONE, GLOBAL_BLK_STAT_BUSY, GLOBAL_BLK_STAT_BLOCK, GLOBAL_BLK_STAT_RETIRED]⟩
def GLOBAL_RST_CAUSE_WAKE : Fld := ⟨.global, 0x40, 0, 0, 10, 1, .live, .w1c, 0, 0, 0⟩
def GLOBAL_RST_CAUSE_DEBUG : Fld := ⟨.global, 0x40, 0, 0, 9, 1, .live, .w1c, 0, 0, 0⟩
def GLOBAL_RST_CAUSE_WDOG : Fld := ⟨.global, 0x40, 0, 0, 8, 1, .live, .w1c, 0, 0, 0⟩
def GLOBAL_RST_CAUSE_HOST : Fld := ⟨.global, 0x40, 0, 0, 7, 1, .live, .w1c, 0, 0, 0⟩
def GLOBAL_RST_CAUSE_WRST : Fld := ⟨.global, 0x40, 0, 0, 6, 1, .live, .w1c, 0, 0, 0⟩
def GLOBAL_RST_CAUSE_SUP_DRAM : Fld := ⟨.global, 0x40, 0, 0, 5, 1, .live, .w1c, 0, 0, 0⟩
def GLOBAL_RST_CAUSE_SUP_IO : Fld := ⟨.global, 0x40, 0, 0, 4, 1, .live, .w1c, 0, 0, 0⟩
def GLOBAL_RST_CAUSE_SUP_ADC : Fld := ⟨.global, 0x40, 0, 0, 3, 1, .live, .w1c, 0, 0, 0⟩
def GLOBAL_RST_CAUSE_SUP_SERDES : Fld := ⟨.global, 0x40, 0, 0, 2, 1, .live, .w1c, 0, 0, 0⟩
def GLOBAL_RST_CAUSE_SUP_CORE : Fld := ⟨.global, 0x40, 0, 0, 1, 1, .live, .w1c, 0, 0, 0⟩
def GLOBAL_RST_CAUSE_POR : Fld := ⟨.global, 0x40, 0, 0, 0, 1, .live, .w1c, 1, 1, 1⟩
/-- `GLOBAL.RST_CAUSE`. -/
def regGlobalRstCause : Reg := ⟨.global, 0x40, 1, 0, 1, 0, false, .live, [GLOBAL_RST_CAUSE_WAKE, GLOBAL_RST_CAUSE_DEBUG, GLOBAL_RST_CAUSE_WDOG, GLOBAL_RST_CAUSE_HOST, GLOBAL_RST_CAUSE_WRST, GLOBAL_RST_CAUSE_SUP_DRAM, GLOBAL_RST_CAUSE_SUP_IO, GLOBAL_RST_CAUSE_SUP_ADC, GLOBAL_RST_CAUSE_SUP_SERDES, GLOBAL_RST_CAUSE_SUP_CORE, GLOBAL_RST_CAUSE_POR]⟩
/-- The registers of block GLOBAL. -/
def regsGlobal : List Reg :=
  [regGlobalRole, regGlobalCycleCtl, regGlobalCyclePhase, regGlobalStamp, regGlobalAllowMeas, regGlobalCycleCnt, regGlobalCycleStat, regGlobalLat, regGlobalCfgSwap, regGlobalCfgStat, regGlobalPartid, regGlobalStep] ++
  [regGlobalClkStat, regGlobalClkMon, regGlobalPwrCtl, regGlobalPwrLane, regGlobalPwrStat, regGlobalRstCtl, regGlobalBlkRst, regGlobalBlkStat, regGlobalRstCause]

/-! Block TIME (14_timebase_ethernet R363). -/
def TIME_CTL_SYNC : Fld := ⟨.time, 0x0, 0, 0, 30, 2, .live, .rw, 0, 0, 0⟩
def TIME_CTL_MODE : Fld := ⟨.time, 0x0, 0, 0, 28, 2, .live, .ro, 0, 1, 2⟩
def TIME_CTL_HOLD_LIM : Fld := ⟨.time, 0x0, 0, 0, 16, 12, .live, .rw, 0, 0, 0⟩
def TIME_CTL_KICK_TMO : Fld := ⟨.time, 0x0, 0, 0, 0, 16, .live, .rw, 3000, 3000, 3000⟩
/-- `TIME.CTL`. -/
def regTimeCtl : Reg := ⟨.time, 0x0, 1, 0, 1, 0, false, .live, [TIME_CTL_SYNC, TIME_CTL_MODE, TIME_CTL_HOLD_LIM, TIME_CTL_KICK_TMO]⟩
def TIME_STAT_TQ : Fld := ⟨.time, 0x4, 0, 0, 31, 1, .live, .ro, 0, 0, 0⟩
def TIME_STAT_STEP_AVAIL : Fld := ⟨.time, 0x4, 0, 0, 30, 1, .live, .ro, 1, 1, 1⟩
def TIME_STAT_HOLD_EXP : Fld := ⟨.time, 0x4, 0, 0, 29, 1, .live, .w1c, 0, 0, 0⟩
def TIME_STAT_KICK_LOST : Fld := ⟨.time, 0x4, 0, 0, 28, 1, .live, .w1c, 0, 0, 0⟩
def TIME_STAT_STEPPED : Fld := ⟨.time, 0x4, 0, 0, 27, 1, .live, .w1c, 0, 0, 0⟩
def TIME_STAT_HOLD_MIN : Fld := ⟨.time, 0x4, 0, 0, 0, 16, .live, .ro, 0, 0, 0⟩
/-- `TIME.STAT`. -/
def regTimeStat : Reg := ⟨.time, 0x4, 1, 0, 1, 0, false, .live, [TIME_STAT_TQ, TIME_STAT_STEP_AVAIL, TIME_STAT_HOLD_EXP, TIME_STAT_KICK_LOST, TIME_STAT_STEPPED, TIME_STAT_HOLD_MIN]⟩
def TIME_INC_INC : Fld := ⟨.time, 0x8, 0, 0, 0, 48, .live, .rw, 5497558138880, 5497558138880, 5497558138880⟩
/-- `TIME.INC`. -/
def regTimeInc : Reg := ⟨.time, 0x8, 1, 0, 1, 0, true, .live, [TIME_INC_INC]⟩
def TIME_STEP_S : Fld := ⟨.time, 0x10, 0, 0, 0, 64, .live, .wo, 0, 0, 0⟩
/-- `TIME.STEP`. -/
def regTimeStep : Reg := ⟨.time, 0x10, 1, 0, 1, 0, true, .live, [TIME_STEP_S]⟩
def TIME_PTP_CFG_EN : Fld := ⟨.time, 0x18, 0, 0, 31, 1, .live, .rw, 0, 0, 0⟩
def TIME_PTP_CFG_SLAVE_ONLY : Fld := ⟨.time, 0x18, 0, 0, 30, 1, .live, .rw, 1, 1, 1⟩
def TIME_PTP_CFG_TWO_STEP : Fld := ⟨.time, 0x18, 0, 0, 29, 1, .live, .rw, 1, 1, 1⟩
def TIME_PTP_CFG_DOMAIN : Fld := ⟨.time, 0x18, 0, 0, 16, 8, .live, .rw, 0, 0, 0⟩
def TIME_PTP_CFG_PORTS : Fld := ⟨.time, 0x18, 0, 0, 0, 4, .live, .rw, 3, 3, 3⟩
/-- `TIME.PTP_CFG`. -/
def regTimePtpCfg : Reg := ⟨.time, 0x18, 1, 0, 1, 0, false, .live, [TIME_PTP_CFG_EN, TIME_PTP_CFG_SLAVE_ONLY, TIME_PTP_CFG_TWO_STEP, TIME_PTP_CFG_DOMAIN, TIME_PTP_CFG_PORTS]⟩
def TIME_NOW_LO_NS : Fld := ⟨.time, 0x20, 0, 0, 32, 32, .live, .ro, 0, 0, 0⟩
def TIME_NOW_LO_SUB : Fld := ⟨.time, 0x20, 0, 0, 26, 6, .live, .ro, 0, 0, 0⟩
/-- `TIME.NOW_LO`. -/
def regTimeNowLo : Reg := ⟨.time, 0x20, 1, 0, 1, 0, true, .live, [TIME_NOW_LO_NS, TIME_NOW_LO_SUB]⟩
def TIME_NOW_HI_SEC : Fld := ⟨.time, 0x28, 0, 0, 0, 48, .live, .ro, 0, 0, 0⟩
/-- `TIME.NOW_HI`. -/
def regTimeNowHi : Reg := ⟨.time, 0x28, 1, 0, 1, 0, true, .live, [TIME_NOW_HI_SEC]⟩
def TIME_FRC_FRC : Fld := ⟨.time, 0x30, 0, 0, 0, 64, .live, .ro, 0, 0, 0⟩
/-- `TIME.FRC`. -/
def regTimeFrc : Reg := ⟨.time, 0x30, 1, 0, 1, 0, true, .live, [TIME_FRC_FRC]⟩
def TIME_LANE_ERR_ERR : Fld := ⟨.time, 0x38, 0, 0, 0, 32, .live, .ro, 0, 0, 0⟩
/-- `TIME.LANE_ERR`. -/
def regTimeLaneErr : Reg := ⟨.time, 0x38, 1, 0, 1, 0, false, .live, [TIME_LANE_ERR_ERR]⟩
/-- The registers of block TIME. -/
def regsTime : List Reg :=
  [regTimeCtl, regTimeStat, regTimeInc, regTimeStep, regTimePtpCfg, regTimeNowLo, regTimeNowHi, regTimeFrc, regTimeLaneErr]

/-! Block LOOM (03_loom_engine R87, 05_loom_schedules_handover R139). -/
def LOOM_CTL_ENABLE : Fld := ⟨.loom, 0x0, 0, 0, 31, 1, .live, .rw, 0, 0, 0⟩
def LOOM_CTL_VIEW : Fld := ⟨.loom, 0x0, 0, 0, 30, 1, .live, .rw, 0, 0, 0⟩
def LOOM_CTL_SCRUB_EN : Fld := ⟨.loom, 0x0, 0, 0, 29, 1, .live, .rw, 1, 1, 1⟩
/-- `LOOM.CTL`. -/
def regLoomCtl : Reg := ⟨.loom, 0x0, 1, 0, 1, 0, false, .live, [LOOM_CTL_ENABLE, LOOM_CTL_VIEW, LOOM_CTL_SCRUB_EN]⟩
def LOOM_STAT_LAST_SLOT : Fld := ⟨.loom, 0x4, 0, 0, 16, 6, .live, .ro, 0, 0, 0⟩
def LOOM_STAT_END : Fld := ⟨.loom, 0x4, 0, 0, 0, 16, .live, .ro, 65535, 65535, 65535⟩
/-- `LOOM.STAT`. -/
def regLoomStat : Reg := ⟨.loom, 0x4, 1, 0, 1, 0, false, .live, [LOOM_STAT_LAST_SLOT, LOOM_STAT_END]⟩
def LOOM_CHK_STAT_CODE : Fld := ⟨.loom, 0x8, 0, 0, 24, 8, .live, .ro, 0, 0, 0⟩
def LOOM_CHK_STAT_SLOT : Fld := ⟨.loom, 0x8, 0, 0, 18, 6, .live, .ro, 0, 0, 0⟩
def LOOM_CHK_STAT_WHERE : Fld := ⟨.loom, 0x8, 0, 0, 0, 18, .live, .ro, 0, 0, 0⟩
/-- `LOOM.CHK_STAT`. -/
def regLoomChkStat : Reg := ⟨.loom, 0x8, 1, 0, 1, 0, false, .live, [LOOM_CHK_STAT_CODE, LOOM_CHK_STAT_SLOT, LOOM_CHK_STAT_WHERE]⟩
def LOOM_ECC_STAT_MEM : Fld := ⟨.loom, 0x10, 0, 0, 62, 2, .live, .ro, 0, 0, 0⟩
def LOOM_ECC_STAT_SET : Fld := ⟨.loom, 0x10, 0, 0, 61, 1, .live, .ro, 0, 0, 0⟩
def LOOM_ECC_STAT_UE : Fld := ⟨.loom, 0x10, 0, 0, 60, 1, .live, .w1c, 0, 0, 0⟩
def LOOM_ECC_STAT_BANK : Fld := ⟨.loom, 0x10, 0, 0, 56, 4, .live, .ro, 0, 0, 0⟩
def LOOM_ECC_STAT_ADDR : Fld := ⟨.loom, 0x10, 0, 0, 32, 20, .live, .ro, 0, 0, 0⟩
def LOOM_ECC_STAT_UE_CNT : Fld := ⟨.loom, 0x10, 0, 0, 16, 16, .live, .rc, 0, 0, 0⟩
def LOOM_ECC_STAT_CE_CNT : Fld := ⟨.loom, 0x10, 0, 0, 0, 16, .live, .rc, 0, 0, 0⟩
/-- `LOOM.ECC_STAT`. -/
def regLoomEccStat : Reg := ⟨.loom, 0x10, 1, 0, 1, 0, true, .live, [LOOM_ECC_STAT_MEM, LOOM_ECC_STAT_SET, LOOM_ECC_STAT_UE, LOOM_ECC_STAT_BANK, LOOM_ECC_STAT_ADDR, LOOM_ECC_STAT_UE_CNT, LOOM_ECC_STAT_CE_CNT]⟩
def LOOM_CMP_CTL_EN : Fld := ⟨.loom, 0x20, 0, 0, 31, 1, .live, .rw, 0, 0, 0⟩
def LOOM_CMP_CTL_LIMIT : Fld := ⟨.loom, 0x20, 0, 0, 0, 8, .live, .rw, 8, 8, 8⟩
/-- `LOOM.CMP_CTL`. -/
def regLoomCmpCtl : Reg := ⟨.loom, 0x20, 1, 0, 1, 0, false, .live, [LOOM_CMP_CTL_EN, LOOM_CMP_CTL_LIMIT]⟩
def LOOM_CMP_STAT_DIVERGE : Fld := ⟨.loom, 0x24, 0, 0, 31, 1, .live, .w1c, 0, 0, 0⟩
def LOOM_CMP_STAT_FIRST_O : Fld := ⟨.loom, 0x24, 0, 0, 20, 11, .live, .ro, 0, 0, 0⟩
def LOOM_CMP_STAT_FIRST_VALID : Fld := ⟨.loom, 0x24, 0, 0, 19, 1, .live, .ro, 0, 0, 0⟩
def LOOM_CMP_STAT_CONSEC : Fld := ⟨.loom, 0x24, 0, 0, 8, 8, .live, .ro, 0, 0, 0⟩
def LOOM_CMP_STAT_MISS_CNT : Fld := ⟨.loom, 0x24, 0, 0, 0, 8, .live, .rc, 0, 0, 0⟩
/-- `LOOM.CMP_STAT`. -/
def regLoomCmpStat : Reg := ⟨.loom, 0x24, 1, 0, 1, 0, false, .live, [LOOM_CMP_STAT_DIVERGE, LOOM_CMP_STAT_FIRST_O, LOOM_CMP_STAT_FIRST_VALID, LOOM_CMP_STAT_CONSEC, LOOM_CMP_STAT_MISS_CNT]⟩
def LOOM_CMP_CNT_MISMATCH : Fld := ⟨.loom, 0x28, 0, 0, 0, 32, .live, .rc, 0, 0, 0⟩
/-- `LOOM.CMP_CNT`. -/
def regLoomCmpCnt : Reg := ⟨.loom, 0x28, 1, 0, 1, 0, false, .live, [LOOM_CMP_CNT_MISMATCH]⟩
def LOOM_GRAFT_STAT_LATE_CNT : Fld := ⟨.loom, 0x2C, 0, 0, 16, 16, .live, .rc, 0, 0, 0⟩
def LOOM_GRAFT_STAT_WORDS : Fld := ⟨.loom, 0x2C, 0, 0, 0, 9, .live, .ro, 0, 0, 0⟩
/-- `LOOM.GRAFT_STAT`. -/
def regLoomGraftStat : Reg := ⟨.loom, 0x2C, 1, 0, 1, 0, false, .live, [LOOM_GRAFT_STAT_LATE_CNT, LOOM_GRAFT_STAT_WORDS]⟩
def LOOM_SLOT_CTL_EN : Fld := ⟨.loom, 0x1000, 64, 0, 31, 1, .set, .rw, 0, 0, 0⟩
def LOOM_SLOT_CTL_SHUTTLE : Fld := ⟨.loom, 0x1000, 64, 0, 24, 4, .set, .rw, 0, 0, 0⟩
def LOOM_SLOT_CTL_DEADLINE : Fld := ⟨.loom, 0x1000, 64, 0, 0, 16, .set, .rw, 0, 0, 0⟩
/-- `LOOM.SLOT_CTL[64]`. -/
def regLoomSlotCtl : Reg := ⟨.loom, 0x1000, 64, 64, 1, 0, false, .set, [LOOM_SLOT_CTL_EN, LOOM_SLOT_CTL_SHUTTLE, LOOM_SLOT_CTL_DEADLINE]⟩
def LOOM_SLOT_RATE_PHASE : Fld := ⟨.loom, 0x1004, 64, 0, 16, 6, .shadow, .rw, 0, 0, 0⟩
def LOOM_SLOT_RATE_DIV : Fld := ⟨.loom, 0x1004, 64, 0, 0, 7, .shadow, .rw, 1, 1, 1⟩
/-- `LOOM.SLOT_RATE[64]`. -/
def regLoomSlotRate : Reg := ⟨.loom, 0x1004, 64, 64, 1, 0, false, .shadow, [LOOM_SLOT_RATE_PHASE, LOOM_SLOT_RATE_DIV]⟩
def LOOM_SLOT_PROG_LEN : Fld := ⟨.loom, 0x1008, 64, 0, 18, 14, .set, .rw, 0, 0, 0⟩
def LOOM_SLOT_PROG_BASE : Fld := ⟨.loom, 0x1008, 64, 0, 0, 18, .set, .rw, 0, 0, 0⟩
/-- `LOOM.SLOT_PROG[64]`. -/
def regLoomSlotProg : Reg := ⟨.loom, 0x1008, 64, 64, 1, 0, false, .set, [LOOM_SLOT_PROG_LEN, LOOM_SLOT_PROG_BASE]⟩
def LOOM_SLOT_GRAFT_LEN : Fld := ⟨.loom, 0x100C, 64, 0, 20, 12, .set, .rw, 0, 0, 0⟩
def LOOM_SLOT_GRAFT_BASE : Fld := ⟨.loom, 0x100C, 64, 0, 0, 20, .set, .rw, 0, 0, 0⟩
/-- `LOOM.SLOT_GRAFT[64]`. -/
def regLoomSlotGraft : Reg := ⟨.loom, 0x100C, 64, 64, 1, 0, false, .set, [LOOM_SLOT_GRAFT_LEN, LOOM_SLOT_GRAFT_BASE]⟩
def LOOM_BASE_SPACE : Fld := ⟨.loom, 0x1010, 64, 4, 31, 1, .set, .rw, 0, 0, 0⟩
def LOOM_BASE_ADDR : Fld := ⟨.loom, 0x1010, 64, 4, 0, 20, .set, .rw, 0, 0, 0⟩
/-- `LOOM.BASE[64][4]`. -/
def regLoomBase : Reg := ⟨.loom, 0x1010, 64, 64, 4, 4, false, .set, [LOOM_BASE_SPACE, LOOM_BASE_ADDR]⟩
def LOOM_SLOT_FLAGS_OUT_DEFAULT : Fld := ⟨.loom, 0x1020, 64, 0, 9, 1, .live, .w1c, 0, 0, 0⟩
def LOOM_SLOT_FLAGS_GRAFT_LATE : Fld := ⟨.loom, 0x1020, 64, 0, 8, 1, .live, .w1c, 0, 0, 0⟩
def LOOM_SLOT_FLAGS_ECC_ABORT : Fld := ⟨.loom, 0x1020, 64, 0, 7, 1, .live, .w1c, 0, 0, 0⟩
def LOOM_SLOT_FLAGS_CLASH : Fld := ⟨.loom, 0x1020, 64, 0, 6, 1, .live, .w1c, 0, 0, 0⟩
def LOOM_SLOT_FLAGS_SKIP : Fld := ⟨.loom, 0x1020, 64, 0, 5, 1, .live, .w1c, 0, 0, 0⟩
def LOOM_SLOT_FLAGS_HOLD : Fld := ⟨.loom, 0x1020, 64, 0, 4, 1, .live, .w1c, 0, 0, 0⟩
def LOOM_SLOT_FLAGS_IN_LATE : Fld := ⟨.loom, 0x1020, 64, 0, 3, 1, .live, .w1c, 0, 0, 0⟩
def LOOM_SLOT_FLAGS_DOM : Fld := ⟨.loom, 0x1020, 64, 0, 2, 1, .live, .w1c, 0, 0, 0⟩
def LOOM_SLOT_FLAGS_DIVZ : Fld := ⟨.loom, 0x1020, 64, 0, 1, 1, .live, .w1c, 0, 0, 0⟩
def LOOM_SLOT_FLAGS_SAT : Fld := ⟨.loom, 0x1020, 64, 0, 0, 1, .live, .w1c, 0, 0, 0⟩
/-- `LOOM.SLOT_FLAGS[64]`. -/
def regLoomSlotFlags : Reg := ⟨.loom, 0x1020, 64, 64, 1, 0, false, .live, [LOOM_SLOT_FLAGS_OUT_DEFAULT, LOOM_SLOT_FLAGS_GRAFT_LATE, LOOM_SLOT_FLAGS_ECC_ABORT, LOOM_SLOT_FLAGS_CLASH, LOOM_SLOT_FLAGS_SKIP, LOOM_SLOT_FLAGS_HOLD, LOOM_SLOT_FLAGS_IN_LATE, LOOM_SLOT_FLAGS_DOM, LOOM_SLOT_FLAGS_DIVZ, LOOM_SLOT_FLAGS_SAT]⟩
def LOOM_SLOT_TIME_TIME : Fld := ⟨.loom, 0x1024, 64, 0, 0, 16, .live, .ro, 0, 0, 0⟩
/-- `LOOM.SLOT_TIME[64]`. -/
def regLoomSlotTime : Reg := ⟨.loom, 0x1024, 64, 64, 1, 0, false, .live, [LOOM_SLOT_TIME_TIME]⟩
def LOOM_SLOT_LAT_END_MAX : Fld := ⟨.loom, 0x1028, 64, 0, 48, 16, .live, .rc, 0, 0, 0⟩
def LOOM_SLOT_LAT_END : Fld := ⟨.loom, 0x1028, 64, 0, 16, 16, .live, .ro, 65535, 65535, 65535⟩
def LOOM_SLOT_LAT_START : Fld := ⟨.loom, 0x1028, 64, 0, 0, 16, .live, .ro, 65535, 65535, 65535⟩
/-- `LOOM.SLOT_LAT[64]`. -/
def regLoomSlotLat : Reg := ⟨.loom, 0x1028, 64, 64, 1, 0, true, .live, [LOOM_SLOT_LAT_END_MAX, LOOM_SLOT_LAT_END, LOOM_SLOT_LAT_START]⟩
def LOOM_SLOT_CNT_SKIP_CNT : Fld := ⟨.loom, 0x1030, 64, 0, 48, 16, .live, .rc, 0, 0, 0⟩
def LOOM_SLOT_CNT_LATE_CNT : Fld := ⟨.loom, 0x1030, 64, 0, 32, 16, .live, .rc, 0, 0, 0⟩
def LOOM_SLOT_CNT_RUNS : Fld := ⟨.loom, 0x1030, 64, 0, 0, 32, .live, .ro, 0, 0, 0⟩
/-- `LOOM.SLOT_CNT[64]`. -/
def regLoomSlotCnt : Reg := ⟨.loom, 0x1030, 64, 64, 1, 0, true, .live, [LOOM_SLOT_CNT_SKIP_CNT, LOOM_SLOT_CNT_LATE_CNT, LOOM_SLOT_CNT_RUNS]⟩
def LOOM_SLOT_DEP_EN : Fld := ⟨.loom, 0x2000, 32, 4, 31, 1, .set, .rw, 0, 0, 0⟩
def LOOM_SLOT_DEP_KIND : Fld := ⟨.loom, 0x2000, 32, 4, 30, 1, .set, .rw, 0, 0, 0⟩
def LOOM_SLOT_DEP_INDEX : Fld := ⟨.loom, 0x2000, 32, 4, 0, 11, .set, .rw, 0, 0, 0⟩
/-- `LOOM.SLOT_DEP[64][8]`. -/
def regLoomSlotDep : Reg := ⟨.loom, 0x2000, 64, 32, 8, 4, false, .set, [LOOM_SLOT_DEP_EN, LOOM_SLOT_DEP_KIND, LOOM_SLOT_DEP_INDEX]⟩
def LOOM_IN_MAP_EN : Fld := ⟨.loom, 0x4000, 4, 0, 31, 1, .set, .rw, 0, 0, 0⟩
def LOOM_IN_MAP_SRC : Fld := ⟨.loom, 0x4000, 4, 0, 27, 4, .set, .rw, 0, 0, 0⟩
def LOOM_IN_MAP_FMT : Fld := ⟨.loom, 0x4000, 4, 0, 26, 1, .set, .rw, 0, 0, 0⟩
def LOOM_IN_MAP_SEL : Fld := ⟨.loom, 0x4000, 4, 0, 0, 16, .set, .rw, 0, 0, 0⟩
/-- `LOOM.IN_MAP[2048]`. -/
def regLoomInMap : Reg := ⟨.loom, 0x4000, 2048, 4, 1, 0, false, .set, [LOOM_IN_MAP_EN, LOOM_IN_MAP_SRC, LOOM_IN_MAP_FMT, LOOM_IN_MAP_SEL]⟩
def LOOM_OUT_MAP_TOL : Fld := ⟨.loom, 0x6000, 8, 0, 48, 16, .set, .rw, 0, 0, 0⟩
def LOOM_OUT_MAP_CMP : Fld := ⟨.loom, 0x6000, 8, 0, 47, 1, .set, .rw, 0, 0, 0⟩
def LOOM_OUT_MAP_WRAP : Fld := ⟨.loom, 0x6000, 8, 0, 46, 1, .set, .rw, 0, 0, 0⟩
def LOOM_OUT_MAP_EN : Fld := ⟨.loom, 0x6000, 8, 0, 31, 1, .set, .rw, 0, 0, 0⟩
def LOOM_OUT_MAP_DST : Fld := ⟨.loom, 0x6000, 8, 0, 27, 4, .set, .rw, 0, 0, 0⟩
def LOOM_OUT_MAP_SEL : Fld := ⟨.loom, 0x6000, 8, 0, 0, 16, .set, .rw, 0, 0, 0⟩
/-- `LOOM.OUT_MAP[2048]`. -/
def regLoomOutMap : Reg := ⟨.loom, 0x6000, 2048, 8, 1, 0, true, .set, [LOOM_OUT_MAP_TOL, LOOM_OUT_MAP_CMP, LOOM_OUT_MAP_WRAP, LOOM_OUT_MAP_EN, LOOM_OUT_MAP_DST, LOOM_OUT_MAP_SEL]⟩
def LOOM_HOST_IN_VALUE : Fld := ⟨.loom, 0xA000, 4, 0, 0, 32, .shadow, .rw, 0, 0, 0⟩
/-- `LOOM.HOST_IN[256]`. -/
def regLoomHostIn : Reg := ⟨.loom, 0xA000, 256, 4, 1, 0, false, .shadow, [LOOM_HOST_IN_VALUE]⟩
def LOOM_HOST_OUT_VALUE : Fld := ⟨.loom, 0xA400, 4, 0, 0, 32, .live, .ro, 0, 0, 0⟩
/-- `LOOM.HOST_OUT[256]`. -/
def regLoomHostOut : Reg := ⟨.loom, 0xA400, 256, 4, 1, 0, false, .live, [LOOM_HOST_OUT_VALUE]⟩
def LOOM_IN_BAD_BAD : Fld := ⟨.loom, 0xA800, 4, 0, 0, 32, .live, .ro, 0, 0, 0⟩
/-- `LOOM.IN_BAD[64]`. -/
def regLoomInBad : Reg := ⟨.loom, 0xA800, 64, 4, 1, 0, false, .live, [LOOM_IN_BAD_BAD]⟩
def LOOM_SCHED_VAR_EN : Fld := ⟨.loom, 0xB000, 4, 0, 31, 1, .set, .rw, 0, 0, 0⟩
def LOOM_SCHED_VAR_NBP : Fld := ⟨.loom, 0xB000, 4, 0, 28, 3, .set, .rw, 0, 0, 0⟩
def LOOM_SCHED_VAR_ADDR : Fld := ⟨.loom, 0xB000, 4, 0, 0, 20, .set, .rw, 0, 0, 0⟩
/-- `LOOM.SCHED_VAR[2]`. -/
def regLoomSchedVar : Reg := ⟨.loom, 0xB000, 2, 4, 1, 0, false, .set, [LOOM_SCHED_VAR_EN, LOOM_SCHED_VAR_NBP, LOOM_SCHED_VAR_ADDR]⟩
def LOOM_SCHED_HYS_HYS : Fld := ⟨.loom, 0xB008, 4, 0, 0, 31, .set, .rw, 0, 0, 0⟩
/-- `LOOM.SCHED_HYS[2]`. -/
def regLoomSchedHys : Reg := ⟨.loom, 0xB008, 2, 4, 1, 0, false, .set, [LOOM_SCHED_HYS_HYS]⟩
def LOOM_SCHED_DWELL_DWELL : Fld := ⟨.loom, 0xB010, 0, 0, 0, 16, .set, .rw, 0, 0, 0⟩
/-- `LOOM.SCHED_DWELL`. -/
def regLoomSchedDwell : Reg := ⟨.loom, 0xB010, 1, 0, 1, 0, false, .set, [LOOM_SCHED_DWELL_DWELL]⟩
def LOOM_SCHED_BP_BP : Fld := ⟨.loom, 0xB024, 32, 4, 0, 32, .set, .rw, 0, 0, 0⟩
/-- `LOOM.SCHED_BP[2][7]`. -/
def regLoomSchedBp : Reg := ⟨.loom, 0xB024, 2, 32, 7, 4, false, .set, [LOOM_SCHED_BP_BP]⟩
def LOOM_REGION_MAP_BANK : Fld := ⟨.loom, 0xB060, 4, 0, 0, 32, .set, .rw, 0, 0, 0⟩
/-- `LOOM.REGION_MAP[8]`. -/
def regLoomRegionMap : Reg := ⟨.loom, 0xB060, 8, 4, 1, 0, false, .set, [LOOM_REGION_MAP_BANK]⟩
def LOOM_SCHED_FORCE_FORCE : Fld := ⟨.loom, 0xB080, 0, 0, 31, 1, .shadow, .rw, 0, 0, 0⟩
def LOOM_SCHED_FORCE_REGION : Fld := ⟨.loom, 0xB080, 0, 0, 0, 6, .shadow, .rw, 0, 0, 0⟩
/-- `LOOM.SCHED_FORCE`. -/
def regLoomSchedForce : Reg := ⟨.loom, 0xB080, 1, 0, 1, 0, false, .shadow, [LOOM_SCHED_FORCE_FORCE, LOOM_SCHED_FORCE_REGION]⟩
def LOOM_SCHED_STAT_HOLD : Fld := ⟨.loom, 0xB084, 0, 0, 31, 1, .live, .w1c, 0, 0, 0⟩
def LOOM_SCHED_STAT_ADOPT : Fld := ⟨.loom, 0xB084, 0, 0, 30, 1, .live, .w1c, 0, 0, 0⟩
def LOOM_SCHED_STAT_FORCED : Fld := ⟨.loom, 0xB084, 0, 0, 29, 1, .live, .ro, 0, 0, 0⟩
def LOOM_SCHED_STAT_K1 : Fld := ⟨.loom, 0xB084, 0, 0, 24, 3, .live, .ro, 0, 0, 0⟩
def LOOM_SCHED_STAT_K0 : Fld := ⟨.loom, 0xB084, 0, 0, 20, 3, .live, .ro, 0, 0, 0⟩
def LOOM_SCHED_STAT_REGION : Fld := ⟨.loom, 0xB084, 0, 0, 8, 6, .live, .ro, 0, 0, 0⟩
/-- `LOOM.SCHED_STAT`. -/
def regLoomSchedStat : Reg := ⟨.loom, 0xB084, 1, 0, 1, 0, false, .live, [LOOM_SCHED_STAT_HOLD, LOOM_SCHED_STAT_ADOPT, LOOM_SCHED_STAT_FORCED, LOOM_SCHED_STAT_K1, LOOM_SCHED_STAT_K0, LOOM_SCHED_STAT_REGION]⟩
def LOOM_SCHED_CNT_CHANGES : Fld := ⟨.loom, 0xB088, 0, 0, 16, 16, .live, .rc, 0, 0, 0⟩
def LOOM_SCHED_CNT_DWELL_LEFT : Fld := ⟨.loom, 0xB088, 0, 0, 0, 16, .live, .ro, 0, 0, 0⟩
/-- `LOOM.SCHED_CNT`. -/
def regLoomSchedCnt : Reg := ⟨.loom, 0xB088, 1, 0, 1, 0, false, .live, [LOOM_SCHED_CNT_CHANGES, LOOM_SCHED_CNT_DWELL_LEFT]⟩
def LOOM_SLOT_BANK_SCHED : Fld := ⟨.loom, 0xC000, 64, 0, 31, 1, .set, .rw, 0, 0, 0⟩
def LOOM_SLOT_BANK_FBANK : Fld := ⟨.loom, 0xC000, 64, 0, 0, 4, .set, .rw, 0, 0, 0⟩
/-- `LOOM.SLOT_BANK[64]`. -/
def regLoomSlotBank : Reg := ⟨.loom, 0xC000, 64, 64, 1, 0, false, .set, [LOOM_SLOT_BANK_SCHED, LOOM_SLOT_BANK_FBANK]⟩
def LOOM_MODE_PROG_LEN : Fld := ⟨.loom, 0xC004, 64, 4, 18, 14, .set, .rw, 0, 0, 0⟩
def LOOM_MODE_PROG_BASE : Fld := ⟨.loom, 0xC004, 64, 4, 0, 18, .set, .rw, 0, 0, 0⟩
/-- `LOOM.MODE_PROG[64][3]`. -/
def regLoomModeProg : Reg := ⟨.loom, 0xC004, 64, 64, 3, 4, false, .set, [LOOM_MODE_PROG_LEN, LOOM_MODE_PROG_BASE]⟩
def LOOM_HO_REC_EN : Fld := ⟨.loom, 0xC010, 64, 4, 31, 1, .set, .rw, 0, 0, 0⟩
def LOOM_HO_REC_ADDR : Fld := ⟨.loom, 0xC010, 64, 4, 0, 20, .set, .rw, 0, 0, 0⟩
/-- `LOOM.HO_REC[64][4]`. -/
def regLoomHoRec : Reg := ⟨.loom, 0xC010, 64, 64, 4, 4, false, .set, [LOOM_HO_REC_EN, LOOM_HO_REC_ADDR]⟩
def LOOM_HO_WINDOW_WINDOW : Fld := ⟨.loom, 0xC020, 64, 0, 0, 32, .set, .rw, 0, 0, 0⟩
/-- `LOOM.HO_WINDOW[64]`. -/
def regLoomHoWindow : Reg := ⟨.loom, 0xC020, 64, 64, 1, 0, false, .set, [LOOM_HO_WINDOW_WINDOW]⟩
def LOOM_HO_SLEW_SWAP : Fld := ⟨.loom, 0xC024, 64, 0, 31, 1, .set, .rw, 0, 0, 0⟩
def LOOM_HO_SLEW_BANK : Fld := ⟨.loom, 0xC024, 64, 0, 30, 1, .set, .rw, 0, 0, 0⟩
def LOOM_HO_SLEW_SLEW : Fld := ⟨.loom, 0xC024, 64, 0, 0, 30, .set, .rw, 0, 0, 0⟩
/-- `LOOM.HO_SLEW[64]`. -/
def regLoomHoSlew : Reg := ⟨.loom, 0xC024, 64, 64, 1, 0, false, .set, [LOOM_HO_SLEW_SWAP, LOOM_HO_SLEW_BANK, LOOM_HO_SLEW_SLEW]⟩
def LOOM_MODE_REQ_SRC : Fld := ⟨.loom, 0xC028, 64, 0, 31, 1, .shadow, .rw, 0, 0, 0⟩
def LOOM_MODE_REQ_MODE : Fld := ⟨.loom, 0xC028, 64, 0, 20, 2, .shadow, .rw, 0, 0, 0⟩
def LOOM_MODE_REQ_ADDR : Fld := ⟨.loom, 0xC028, 64, 0, 0, 20, .shadow, .rw, 0, 0, 0⟩
/-- `LOOM.MODE_REQ[64]`. -/
def regLoomModeReq : Reg := ⟨.loom, 0xC028, 64, 64, 1, 0, false, .shadow, [LOOM_MODE_REQ_SRC, LOOM_MODE_REQ_MODE, LOOM_MODE_REQ_ADDR]⟩
def LOOM_MODE_STAT_HO_WIDE : Fld := ⟨.loom, 0xC02C, 64, 0, 31, 1, .live, .w1c, 0, 0, 0⟩
def LOOM_MODE_STAT_HO_CLIP : Fld := ⟨.loom, 0xC02C, 64, 0, 30, 1, .live, .w1c, 0, 0, 0⟩
def LOOM_MODE_STAT_MODE_BAD : Fld := ⟨.loom, 0xC02C, 64, 0, 29, 1, .live, .w1c, 0, 0, 0⟩
def LOOM_MODE_STAT_ADOPT : Fld := ⟨.loom, 0xC02C, 64, 0, 28, 1, .live, .w1c, 0, 0, 0⟩
def LOOM_MODE_STAT_SLEWING : Fld := ⟨.loom, 0xC02C, 64, 0, 27, 1, .live, .ro, 0, 0, 0⟩
def LOOM_MODE_STAT_PENDING : Fld := ⟨.loom, 0xC02C, 64, 0, 26, 1, .live, .ro, 0, 0, 0⟩
def LOOM_MODE_STAT_MODE : Fld := ⟨.loom, 0xC02C, 64, 0, 20, 2, .live, .ro, 0, 0, 0⟩
def LOOM_MODE_STAT_BANK : Fld := ⟨.loom, 0xC02C, 64, 0, 16, 4, .live, .ro, 0, 0, 0⟩
def LOOM_MODE_STAT_TIME : Fld := ⟨.loom, 0xC02C, 64, 0, 0, 16, .live, .ro, 0, 0, 0⟩
/-- `LOOM.MODE_STAT[64]`. -/
def regLoomModeStat : Reg := ⟨.loom, 0xC02C, 64, 64, 1, 0, false, .live, [LOOM_MODE_STAT_HO_WIDE, LOOM_MODE_STAT_HO_CLIP, LOOM_MODE_STAT_MODE_BAD, LOOM_MODE_STAT_ADOPT, LOOM_MODE_STAT_SLEWING, LOOM_MODE_STAT_PENDING, LOOM_MODE_STAT_MODE, LOOM_MODE_STAT_BANK, LOOM_MODE_STAT_TIME]⟩
def LOOM_HO_LAST_DELTA : Fld := ⟨.loom, 0xC030, 64, 0, 0, 32, .live, .ro, 0, 0, 0⟩
/-- `LOOM.HO_LAST[64]`. -/
def regLoomHoLast : Reg := ⟨.loom, 0xC030, 64, 64, 1, 0, false, .live, [LOOM_HO_LAST_DELTA]⟩
def LOOM_MODE_CNT_HO_CNT : Fld := ⟨.loom, 0xC034, 64, 0, 16, 16, .live, .rc, 0, 0, 0⟩
def LOOM_MODE_CNT_WIDE_CNT : Fld := ⟨.loom, 0xC034, 64, 0, 0, 16, .live, .rc, 0, 0, 0⟩
/-- `LOOM.MODE_CNT[64]`. -/
def regLoomModeCnt : Reg := ⟨.loom, 0xC034, 64, 64, 1, 0, false, .live, [LOOM_MODE_CNT_HO_CNT, LOOM_MODE_CNT_WIDE_CNT]⟩
/-- The registers of block LOOM. -/
def regsLoom : List Reg :=
  [regLoomCtl, regLoomStat, regLoomChkStat, regLoomEccStat, regLoomCmpCtl, regLoomCmpStat, regLoomCmpCnt, regLoomGraftStat, regLoomSlotCtl, regLoomSlotRate, regLoomSlotProg, regLoomSlotGraft] ++
  [regLoomBase, regLoomSlotFlags, regLoomSlotTime, regLoomSlotLat, regLoomSlotCnt, regLoomSlotDep, regLoomInMap, regLoomOutMap, regLoomHostIn, regLoomHostOut, regLoomInBad, regLoomSchedVar] ++
  [regLoomSchedHys, regLoomSchedDwell, regLoomSchedBp, regLoomRegionMap, regLoomSchedForce, regLoomSchedStat, regLoomSchedCnt, regLoomSlotBank, regLoomModeProg, regLoomHoRec, regLoomHoWindow, regLoomHoSlew] ++
  [regLoomModeReq, regLoomModeStat, regLoomHoLast, regLoomModeCnt]

/-! Block SPINDLE (06_spindle_balancing R167). -/
def SPINDLE_CTL_EN : Fld := ⟨.spindle, 0x0, 0, 0, 31, 1, .live, .rw, 0, 0, 0⟩
def SPINDLE_CTL_VIEW : Fld := ⟨.spindle, 0x0, 0, 0, 30, 1, .live, .rw, 0, 0, 0⟩
def SPINDLE_CTL_BYP_ON_LOCK : Fld := ⟨.spindle, 0x0, 0, 0, 29, 1, .live, .rw, 0, 0, 0⟩
/-- `SPINDLE.CTL`. -/
def regSpindleCtl : Reg := ⟨.spindle, 0x0, 1, 0, 1, 0, false, .live, [SPINDLE_CTL_EN, SPINDLE_CTL_VIEW, SPINDLE_CTL_BYP_ON_LOCK]⟩
def SPINDLE_CHK_STAT_CODE : Fld := ⟨.spindle, 0x4, 0, 0, 24, 8, .live, .ro, 0, 0, 0⟩
def SPINDLE_CHK_STAT_ARM : Fld := ⟨.spindle, 0x4, 0, 0, 20, 4, .live, .ro, 0, 0, 0⟩
/-- `SPINDLE.CHK_STAT`. -/
def regSpindleChkStat : Reg := ⟨.spindle, 0x4, 1, 0, 1, 0, false, .live, [SPINDLE_CHK_STAT_CODE, SPINDLE_CHK_STAT_ARM]⟩
def SPINDLE_EST_CFG_STALE_LIM : Fld := ⟨.spindle, 0x10, 0, 0, 24, 8, .set, .rw, 16, 16, 16⟩
def SPINDLE_EST_CFG_KCORR : Fld := ⟨.spindle, 0x10, 0, 0, 0, 17, .set, .rw, 8192, 8192, 8192⟩
/-- `SPINDLE.EST_CFG`. -/
def regSpindleEstCfg : Reg := ⟨.spindle, 0x10, 1, 0, 1, 0, false, .set, [SPINDLE_EST_CFG_STALE_LIM, SPINDLE_EST_CFG_KCORR]⟩
def SPINDLE_EXCL_ERR_READMIT_ERR : Fld := ⟨.spindle, 0x14, 0, 0, 16, 16, .set, .rw, 32, 32, 32⟩
def SPINDLE_EXCL_ERR_EXCL_ERR : Fld := ⟨.spindle, 0x14, 0, 0, 0, 16, .set, .rw, 128, 128, 128⟩
/-- `SPINDLE.EXCL_ERR`. -/
def regSpindleExclErr : Reg := ⟨.spindle, 0x14, 1, 0, 1, 0, false, .set, [SPINDLE_EXCL_ERR_READMIT_ERR, SPINDLE_EXCL_ERR_EXCL_ERR]⟩
def SPINDLE_EXCL_CNT_STRIKE_MAX : Fld := ⟨.spindle, 0x18, 0, 0, 24, 8, .set, .rw, 3, 3, 3⟩
def SPINDLE_EXCL_CNT_EXCL_CNT : Fld := ⟨.spindle, 0x18, 0, 0, 16, 8, .set, .rw, 4, 4, 4⟩
def SPINDLE_EXCL_CNT_READMIT_CNT : Fld := ⟨.spindle, 0x18, 0, 0, 8, 8, .set, .rw, 64, 64, 64⟩
def SPINDLE_EXCL_CNT_STRIKE_DECAY : Fld := ⟨.spindle, 0x18, 0, 0, 4, 4, .set, .rw, 6, 6, 6⟩
/-- `SPINDLE.EXCL_CNT`. -/
def regSpindleExclCnt : Reg := ⟨.spindle, 0x18, 1, 0, 1, 0, false, .set, [SPINDLE_EXCL_CNT_STRIKE_MAX, SPINDLE_EXCL_CNT_EXCL_CNT, SPINDLE_EXCL_CNT_READMIT_CNT, SPINDLE_EXCL_CNT_STRIKE_DECAY]⟩
def SPINDLE_HOLD_READMIT_HOLD : Fld := ⟨.spindle, 0x1C, 0, 0, 0, 16, .set, .rw, 4096, 4096, 4096⟩
/-- `SPINDLE.HOLD`. -/
def regSpindleHold : Reg := ⟨.spindle, 0x1C, 1, 0, 1, 0, false, .set, [SPINDLE_HOLD_READMIT_HOLD]⟩
def SPINDLE_CAP_CFG_CAP_EN : Fld := ⟨.spindle, 0x20, 0, 0, 31, 1, .set, .rw, 0, 0, 0⟩
def SPINDLE_CAP_CFG_CAP_EXCL : Fld := ⟨.spindle, 0x20, 0, 0, 30, 1, .set, .rw, 0, 0, 0⟩
def SPINDLE_CAP_CFG_CAP_WIN : Fld := ⟨.spindle, 0x20, 0, 0, 26, 4, .set, .rw, 7, 7, 7⟩
def SPINDLE_CAP_CFG_CAP_MIN : Fld := ⟨.spindle, 0x20, 0, 0, 16, 10, .set, .rw, 64, 64, 64⟩
def SPINDLE_CAP_CFG_CAP_GAIN : Fld := ⟨.spindle, 0x20, 0, 0, 0, 16, .set, .rw, 256, 256, 256⟩
/-- `SPINDLE.CAP_CFG`. -/
def regSpindleCapCfg : Reg := ⟨.spindle, 0x20, 1, 0, 1, 0, false, .set, [SPINDLE_CAP_CFG_CAP_EN, SPINDLE_CAP_CFG_CAP_EXCL, SPINDLE_CAP_CFG_CAP_WIN, SPINDLE_CAP_CFG_CAP_MIN, SPINDLE_CAP_CFG_CAP_GAIN]⟩
def SPINDLE_CAP_LIM_RC_LIM : Fld := ⟨.spindle, 0x24, 0, 0, 0, 16, .set, .rw, 18204, 18204, 18204⟩
/-- `SPINDLE.CAP_LIM`. -/
def regSpindleCapLim : Reg := ⟨.spindle, 0x24, 1, 0, 1, 0, false, .set, [SPINDLE_CAP_LIM_RC_LIM]⟩
def SPINDLE_CELL_CMD_OP : Fld := ⟨.spindle, 0x30, 0, 0, 28, 4, .live, .wo, 0, 0, 0⟩
def SPINDLE_CELL_CMD_ALL : Fld := ⟨.spindle, 0x30, 0, 0, 27, 1, .live, .wo, 0, 0, 0⟩
def SPINDLE_CELL_CMD_G : Fld := ⟨.spindle, 0x30, 0, 0, 0, 13, .live, .wo, 0, 0, 0⟩
/-- `SPINDLE.CELL_CMD`. -/
def regSpindleCellCmd : Reg := ⟨.spindle, 0x30, 1, 0, 1, 0, false, .live, [SPINDLE_CELL_CMD_OP, SPINDLE_CELL_CMD_ALL, SPINDLE_CELL_CMD_G]⟩
def SPINDLE_REC_IDX_BUSY : Fld := ⟨.spindle, 0x34, 0, 0, 31, 1, .live, .ro, 0, 0, 0⟩
def SPINDLE_REC_IDX_WR : Fld := ⟨.spindle, 0x34, 0, 0, 30, 1, .live, .wo, 0, 0, 0⟩
def SPINDLE_REC_IDX_G : Fld := ⟨.spindle, 0x34, 0, 0, 0, 13, .live, .rw, 0, 0, 0⟩
/-- `SPINDLE.REC_IDX`. -/
def regSpindleRecIdx : Reg := ⟨.spindle, 0x34, 1, 0, 1, 0, false, .live, [SPINDLE_REC_IDX_BUSY, SPINDLE_REC_IDX_WR, SPINDLE_REC_IDX_G]⟩
def SPINDLE_REC0_V_EST : Fld := ⟨.spindle, 0x40, 0, 0, 0, 32, .live, .rw, 0, 0, 0⟩
/-- `SPINDLE.REC0`. -/
def regSpindleRec0 : Reg := ⟨.spindle, 0x40, 1, 0, 1, 0, false, .live, [SPINDLE_REC0_V_EST]⟩
def SPINDLE_REC1_V_DLY : Fld := ⟨.spindle, 0x44, 0, 0, 0, 32, .live, .rw, 0, 0, 0⟩
/-- `SPINDLE.REC1`. -/
def regSpindleRec1 : Reg := ⟨.spindle, 0x44, 1, 0, 1, 0, false, .live, [SPINDLE_REC1_V_DLY]⟩
def SPINDLE_REC2_V_REP : Fld := ⟨.spindle, 0x48, 0, 0, 16, 16, .live, .ro, 0, 0, 0⟩
def SPINDLE_REC2_SEQ : Fld := ⟨.spindle, 0x48, 0, 0, 8, 8, .live, .ro, 0, 0, 0⟩
def SPINDLE_REC2_STRIKES : Fld := ⟨.spindle, 0x48, 0, 0, 0, 8, .live, .ro, 0, 0, 0⟩
/-- `SPINDLE.REC2`. -/
def regSpindleRec2 : Reg := ⟨.spindle, 0x48, 1, 0, 1, 0, false, .live, [SPINDLE_REC2_V_REP, SPINDLE_REC2_SEQ, SPINDLE_REC2_STRIKES]⟩
def SPINDLE_REC3_RC_FINE : Fld := ⟨.spindle, 0x4C, 0, 0, 0, 32, .live, .rw, 1073741824, 1073741824, 1073741824⟩
/-- `SPINDLE.REC3`. -/
def regSpindleRec3 : Reg := ⟨.spindle, 0x4C, 1, 0, 1, 0, false, .live, [SPINDLE_REC3_RC_FINE]⟩
def SPINDLE_REC4_HIST : Fld := ⟨.spindle, 0x50, 0, 0, 0, 32, .live, .ro, 0, 0, 0⟩
/-- `SPINDLE.REC4`. -/
def regSpindleRec4 : Reg := ⟨.spindle, 0x50, 1, 0, 1, 0, false, .live, [SPINDLE_REC4_HIST]⟩
def SPINDLE_REC5_STATE : Fld := ⟨.spindle, 0x54, 0, 0, 28, 4, .live, .ro, 0, 0, 0⟩
def SPINDLE_REC5_POS_CMD : Fld := ⟨.spindle, 0x54, 0, 0, 26, 2, .live, .ro, 0, 0, 0⟩
def SPINDLE_REC5_POS_FORCE : Fld := ⟨.spindle, 0x54, 0, 0, 24, 2, .live, .ro, 0, 0, 0⟩
def SPINDLE_REC5_CAUSE : Fld := ⟨.spindle, 0x54, 0, 0, 16, 8, .live, .ro, 0, 0, 0⟩
def SPINDLE_REC5_SW_CNT : Fld := ⟨.spindle, 0x54, 0, 0, 8, 8, .live, .ro, 0, 0, 0⟩
/-- `SPINDLE.REC5`. -/
def regSpindleRec5 : Reg := ⟨.spindle, 0x54, 1, 0, 1, 0, false, .live, [SPINDLE_REC5_STATE, SPINDLE_REC5_POS_CMD, SPINDLE_REC5_POS_FORCE, SPINDLE_REC5_CAUSE, SPINDLE_REC5_SW_CNT]⟩
def SPINDLE_REC6_INNOV : Fld := ⟨.spindle, 0x58, 0, 0, 0, 32, .live, .ro, 0, 0, 0⟩
/-- `SPINDLE.REC6`. -/
def regSpindleRec6 : Reg := ⟨.spindle, 0x58, 1, 0, 1, 0, false, .live, [SPINDLE_REC6_INNOV]⟩
def SPINDLE_REC7_AGE : Fld := ⟨.spindle, 0x5C, 0, 0, 24, 8, .live, .ro, 0, 0, 0⟩
def SPINDLE_REC7_BAD_CNT : Fld := ⟨.spindle, 0x5C, 0, 0, 16, 8, .live, .ro, 0, 0, 0⟩
def SPINDLE_REC7_GOOD_CNT : Fld := ⟨.spindle, 0x5C, 0, 0, 8, 8, .live, .ro, 0, 0, 0⟩
/-- `SPINDLE.REC7`. -/
def regSpindleRec7 : Reg := ⟨.spindle, 0x5C, 1, 0, 1, 0, false, .live, [SPINDLE_REC7_AGE, SPINDLE_REC7_BAD_CNT, SPINDLE_REC7_GOOD_CNT]⟩
def SPINDLE_ECC_STAT_UE_CNT : Fld := ⟨.spindle, 0x60, 0, 0, 16, 16, .live, .rc, 0, 0, 0⟩
def SPINDLE_ECC_STAT_CE_CNT : Fld := ⟨.spindle, 0x60, 0, 0, 0, 16, .live, .rc, 0, 0, 0⟩
/-- `SPINDLE.ECC_STAT`. -/
def regSpindleEccStat : Reg := ⟨.spindle, 0x60, 1, 0, 1, 0, false, .live, [SPINDLE_ECC_STAT_UE_CNT, SPINDLE_ECC_STAT_CE_CNT]⟩
def SPINDLE_ARM_CFG_INEG : Fld := ⟨.spindle, 0x1000, 64, 0, 31, 1, .set, .rw, 0, 0, 0⟩
def SPINDLE_ARM_CFG_LAG : Fld := ⟨.spindle, 0x1000, 64, 0, 24, 4, .set, .rw, 0, 0, 0⟩
def SPINDLE_ARM_CFG_ICH : Fld := ⟨.spindle, 0x1000, 64, 0, 20, 4, .set, .rw, 0, 0, 0⟩
def SPINDLE_ARM_CFG_SWAP_MAX : Fld := ⟨.spindle, 0x1000, 64, 0, 16, 4, .set, .rw, 0, 0, 0⟩
def SPINDLE_ARM_CFG_IDEAD : Fld := ⟨.spindle, 0x1000, 64, 0, 0, 16, .set, .rw, 0, 0, 0⟩
/-- `SPINDLE.ARM_CFG[12]`. -/
def regSpindleArmCfg : Reg := ⟨.spindle, 0x1000, 12, 64, 1, 0, false, .set, [SPINDLE_ARM_CFG_INEG, SPINDLE_ARM_CFG_LAG, SPINDLE_ARM_CFG_ICH, SPINDLE_ARM_CFG_SWAP_MAX, SPINDLE_ARM_CFG_IDEAD]⟩
def SPINDLE_ARM_K_KARM : Fld := ⟨.spindle, 0x1004, 64, 0, 0, 32, .set, .rw, 0, 0, 0⟩
/-- `SPINDLE.ARM_K[12]`. -/
def regSpindleArmK : Reg := ⟨.spindle, 0x1004, 12, 64, 1, 0, false, .set, [SPINDLE_ARM_K_KARM]⟩
def SPINDLE_ARM_BAND_BAND : Fld := ⟨.spindle, 0x1008, 64, 0, 0, 32, .set, .rw, 0, 0, 0⟩
/-- `SPINDLE.ARM_BAND[12]`. -/
def regSpindleArmBand : Reg := ⟨.spindle, 0x1008, 12, 64, 1, 0, false, .set, [SPINDLE_ARM_BAND_BAND]⟩
def SPINDLE_ARM_RATE_RATE_WIN : Fld := ⟨.spindle, 0x100C, 64, 0, 28, 4, .set, .rw, 10, 10, 10⟩
def SPINDLE_ARM_RATE_RATE_MAX : Fld := ⟨.spindle, 0x100C, 64, 0, 0, 8, .set, .rw, 0, 0, 0⟩
/-- `SPINDLE.ARM_RATE[12]`. -/
def regSpindleArmRate : Reg := ⟨.spindle, 0x100C, 12, 64, 1, 0, false, .set, [SPINDLE_ARM_RATE_RATE_WIN, SPINDLE_ARM_RATE_RATE_MAX]⟩
def SPINDLE_ARM_STAT_CHARGING : Fld := ⟨.spindle, 0x1010, 64, 0, 8, 1, .live, .ro, 0, 0, 0⟩
def SPINDLE_ARM_STAT_POS_FROM_TLM : Fld := ⟨.spindle, 0x1010, 64, 0, 7, 1, .live, .w1c, 0, 0, 0⟩
def SPINDLE_ARM_STAT_CLOSE_FAIL : Fld := ⟨.spindle, 0x1010, 64, 0, 6, 1, .live, .w1c, 0, 0, 0⟩
def SPINDLE_ARM_STAT_EST_SAT : Fld := ⟨.spindle, 0x1010, 64, 0, 5, 1, .live, .w1c, 0, 0, 0⟩
def SPINDLE_ARM_STAT_CAP_SEEN : Fld := ⟨.spindle, 0x1010, 64, 0, 4, 1, .live, .w1c, 0, 0, 0⟩
def SPINDLE_ARM_STAT_LATE_REP : Fld := ⟨.spindle, 0x1010, 64, 0, 3, 1, .live, .w1c, 0, 0, 0⟩
def SPINDLE_ARM_STAT_ISRC_BAD : Fld := ⟨.spindle, 0x1010, 64, 0, 2, 1, .live, .w1c, 0, 0, 0⟩
def SPINDLE_ARM_STAT_N_LIMIT : Fld := ⟨.spindle, 0x1010, 64, 0, 1, 1, .live, .w1c, 0, 0, 0⟩
def SPINDLE_ARM_STAT_ANY_EXCL : Fld := ⟨.spindle, 0x1010, 64, 0, 0, 1, .live, .ro, 0, 0, 0⟩
/-- `SPINDLE.ARM_STAT[12]`. -/
def regSpindleArmStat : Reg := ⟨.spindle, 0x1010, 12, 64, 1, 0, false, .live, [SPINDLE_ARM_STAT_CHARGING, SPINDLE_ARM_STAT_POS_FROM_TLM, SPINDLE_ARM_STAT_CLOSE_FAIL, SPINDLE_ARM_STAT_EST_SAT, SPINDLE_ARM_STAT_CAP_SEEN, SPINDLE_ARM_STAT_LATE_REP, SPINDLE_ARM_STAT_ISRC_BAD, SPINDLE_ARM_STAT_N_LIMIT, SPINDLE_ARM_STAT_ANY_EXCL]⟩
def SPINDLE_ARM_CNT_AVAIL : Fld := ⟨.spindle, 0x1014, 64, 0, 16, 16, .live, .ro, 0, 0, 0⟩
def SPINDLE_ARM_CNT_N_IN : Fld := ⟨.spindle, 0x1014, 64, 0, 0, 16, .live, .ro, 0, 0, 0⟩
/-- `SPINDLE.ARM_CNT[12]`. -/
def regSpindleArmCnt : Reg := ⟨.spindle, 0x1014, 12, 64, 1, 0, false, .live, [SPINDLE_ARM_CNT_AVAIL, SPINDLE_ARM_CNT_N_IN]⟩
def SPINDLE_ARM_TIME_UPD : Fld := ⟨.spindle, 0x1018, 64, 0, 16, 16, .live, .ro, 0, 0, 0⟩
def SPINDLE_ARM_TIME_SEL : Fld := ⟨.spindle, 0x1018, 64, 0, 0, 16, .live, .ro, 0, 0, 0⟩
/-- `SPINDLE.ARM_TIME[12]`. -/
def regSpindleArmTime : Reg := ⟨.spindle, 0x1018, 12, 64, 1, 0, false, .live, [SPINDLE_ARM_TIME_UPD, SPINDLE_ARM_TIME_SEL]⟩
def SPINDLE_ARM_MISC_LATE_CNT : Fld := ⟨.spindle, 0x101C, 64, 0, 16, 16, .live, .rc, 0, 0, 0⟩
def SPINDLE_ARM_MISC_SWAPS : Fld := ⟨.spindle, 0x101C, 64, 0, 0, 16, .live, .rc, 0, 0, 0⟩
/-- `SPINDLE.ARM_MISC[12]`. -/
def regSpindleArmMisc : Reg := ⟨.spindle, 0x101C, 12, 64, 1, 0, false, .live, [SPINDLE_ARM_MISC_LATE_CNT, SPINDLE_ARM_MISC_SWAPS]⟩
def SPINDLE_ARM_AGE_CAP_SKIP : Fld := ⟨.spindle, 0x1020, 64, 0, 16, 16, .live, .rc, 0, 0, 0⟩
def SPINDLE_ARM_AGE_AGE_MAX : Fld := ⟨.spindle, 0x1020, 64, 0, 0, 8, .live, .rc, 0, 0, 0⟩
/-- `SPINDLE.ARM_AGE[12]`. -/
def regSpindleArmAge : Reg := ⟨.spindle, 0x1020, 12, 64, 1, 0, false, .live, [SPINDLE_ARM_AGE_CAP_SKIP, SPINDLE_ARM_AGE_AGE_MAX]⟩
def SPINDLE_CELL_STAT_STATE : Fld := ⟨.spindle, 0x4000, 4, 0, 28, 4, .live, .ro, 0, 0, 0⟩
def SPINDLE_CELL_STAT_POS : Fld := ⟨.spindle, 0x4000, 4, 0, 26, 2, .live, .ro, 0, 0, 0⟩
def SPINDLE_CELL_STAT_RLIM : Fld := ⟨.spindle, 0x4000, 4, 0, 25, 1, .live, .ro, 0, 0, 0⟩
def SPINDLE_CELL_STAT_CLOW : Fld := ⟨.spindle, 0x4000, 4, 0, 24, 1, .live, .ro, 0, 0, 0⟩
def SPINDLE_CELL_STAT_CAUSE : Fld := ⟨.spindle, 0x4000, 4, 0, 16, 8, .live, .ro, 0, 0, 0⟩
def SPINDLE_CELL_STAT_V : Fld := ⟨.spindle, 0x4000, 4, 0, 0, 16, .live, .ro, 0, 0, 0⟩
/-- `SPINDLE.CELL_STAT[6144]`. -/
def regSpindleCellStat : Reg := ⟨.spindle, 0x4000, 6144, 4, 1, 0, false, .live, [SPINDLE_CELL_STAT_STATE, SPINDLE_CELL_STAT_POS, SPINDLE_CELL_STAT_RLIM, SPINDLE_CELL_STAT_CLOW, SPINDLE_CELL_STAT_CAUSE, SPINDLE_CELL_STAT_V]⟩
/-- The registers of block SPINDLE. -/
def regsSpindle : List Reg :=
  [regSpindleCtl, regSpindleChkStat, regSpindleEstCfg, regSpindleExclErr, regSpindleExclCnt, regSpindleHold, regSpindleCapCfg, regSpindleCapLim, regSpindleCellCmd, regSpindleRecIdx, regSpindleRec0, regSpindleRec1] ++
  [regSpindleRec2, regSpindleRec3, regSpindleRec4, regSpindleRec5, regSpindleRec6, regSpindleRec7, regSpindleEccStat, regSpindleArmCfg, regSpindleArmK, regSpindleArmBand, regSpindleArmRate, regSpindleArmStat] ++
  [regSpindleArmCnt, regSpindleArmTime, regSpindleArmMisc, regSpindleArmAge, regSpindleCellStat]

end Sys2Proof.Machine.F
end

