-- ==== Sys2Proof/Machine/RegTab2.lean ====
section
/-! DEFINITION. The register fields of the blocks TRUNK, LANE (TRUNK and LEAF), GATE, ADC, ANGLE, PAIR, and the registers
they make up, copied from the register tables of the spec's chapters: one `Fld` a field (its offset, strides, bits,
access code and reset value) and one `Reg` a register. A field named by no `Fld` is reserved (R5). -/

namespace Sys2Proof.Machine.F

/-! Block TRUNK (01_roles_topology R24, 07_skein_lanes R199, 08_skein_protocol R231). -/
def TRUNK_CELL_MAP_IDFP : Fld := ⟨.trunk, 0x3FC0, 8, 0, 32, 32, .set, .rw, 0, 0, 0⟩
def TRUNK_CELL_MAP_VALID : Fld := ⟨.trunk, 0x3FC0, 8, 0, 31, 1, .set, .rw, 0, 0, 0⟩
def TRUNK_CELL_MAP_FB : Fld := ⟨.trunk, 0x3FC0, 8, 0, 30, 1, .set, .rw, 0, 0, 0⟩
def TRUNK_CELL_MAP_ARM : Fld := ⟨.trunk, 0x3FC0, 8, 0, 26, 4, .set, .rw, 0, 0, 0⟩
def TRUNK_CELL_MAP_POS : Fld := ⟨.trunk, 0x3FC0, 8, 0, 16, 10, .set, .rw, 0, 0, 0⟩
def TRUNK_CELL_MAP_CONC : Fld := ⟨.trunk, 0x3FC0, 8, 0, 8, 6, .set, .rw, 0, 0, 0⟩
def TRUNK_CELL_MAP_PORT : Fld := ⟨.trunk, 0x3FC0, 8, 0, 0, 7, .set, .rw, 0, 0, 0⟩
/-- `TRUNK.CELL_MAP[6144]`. -/
def regTrunkCellMap : Reg := ⟨.trunk, 0x3FC0, 6144, 8, 1, 0, true, .set, [TRUNK_CELL_MAP_IDFP, TRUNK_CELL_MAP_VALID, TRUNK_CELL_MAP_FB, TRUNK_CELL_MAP_ARM, TRUNK_CELL_MAP_POS, TRUNK_CELL_MAP_CONC, TRUNK_CELL_MAP_PORT]⟩
def TRUNK_LANE_MAP_MODE : Fld := ⟨.trunk, 0x4, 64, 0, 28, 4, .set, .rw, 0, 0, 0⟩
def TRUNK_LANE_MAP_PRIM : Fld := ⟨.trunk, 0x4, 64, 0, 0, 6, .set, .rw, 0, 0, 0⟩
/-- `TRUNK.LANE_MAP[48]`. -/
def regTrunkLaneMap : Reg := ⟨.trunk, 0x4, 48, 64, 1, 0, false, .set, [TRUNK_LANE_MAP_MODE, TRUNK_LANE_MAP_PRIM]⟩
def TRUNK_SF_CFG_NPORT : Fld := ⟨.trunk, 0x14, 64, 0, 8, 8, .set, .rw, 128, 128, 128⟩
def TRUNK_SF_CFG_UPOFF : Fld := ⟨.trunk, 0x14, 64, 0, 0, 8, .set, .rw, 48, 48, 48⟩
/-- `TRUNK.SF_CFG[48]`. -/
def regTrunkSfCfg : Reg := ⟨.trunk, 0x14, 48, 64, 1, 0, false, .set, [TRUNK_SF_CFG_NPORT, TRUNK_SF_CFG_UPOFF]⟩
def TRUNK_CARRIER_CPHASE : Fld := ⟨.trunk, 0x3F40, 8, 0, 32, 32, .shadow, .rw, 0, 0, 0⟩
def TRUNK_CARRIER_CPER : Fld := ⟨.trunk, 0x3F40, 8, 0, 0, 32, .shadow, .rw, 0, 0, 0⟩
/-- `TRUNK.CARRIER[12]`. -/
def regTrunkCarrier : Reg := ⟨.trunk, 0x3F40, 12, 8, 1, 0, true, .shadow, [TRUNK_CARRIER_CPHASE, TRUNK_CARRIER_CPER]⟩
/-- The registers of block TRUNK. -/
def regsTrunk : List Reg :=
  [regTrunkCellMap, regTrunkLaneMap, regTrunkSfCfg, regTrunkCarrier]

/-! Block LANE (07_skein_lanes R199, 08_skein_protocol R231). -/
def LANE_LANE_CFG_EN : Fld := ⟨.trunk, 0x0, 64, 0, 31, 1, .live, .rw, 0, 1, 1⟩
def LANE_LANE_CFG_PWR : Fld := ⟨.trunk, 0x0, 64, 0, 29, 2, .live, .rw, 0, 0, 0⟩
def LANE_LANE_CFG_LOOP : Fld := ⟨.trunk, 0x0, 64, 0, 26, 3, .live, .rw, 0, 0, 0⟩
def LANE_LANE_CFG_TXINV : Fld := ⟨.trunk, 0x0, 64, 0, 25, 1, .live, .rw, 0, 0, 0⟩
def LANE_LANE_CFG_RXINV : Fld := ⟨.trunk, 0x0, 64, 0, 24, 1, .live, .rw, 0, 0, 0⟩
def LANE_LANE_CFG_RATE : Fld := ⟨.trunk, 0x0, 64, 0, 22, 2, .live, .rw, 2, 2, 2⟩
def LANE_LANE_CFG_ASYM : Fld := ⟨.trunk, 0x0, 64, 0, 0, 16, .live, .rw, 0, 0, 0⟩
/-- `LANE.LANE_CFG[128]`. -/
def regLaneLaneCfg : Reg := ⟨.trunk, 0x0, 128, 64, 1, 0, false, .live, [LANE_LANE_CFG_EN, LANE_LANE_CFG_PWR, LANE_LANE_CFG_LOOP, LANE_LANE_CFG_TXINV, LANE_LANE_CFG_RXINV, LANE_LANE_CFG_RATE, LANE_LANE_CFG_ASYM]⟩
def LANE_LANE_STAT_STATE : Fld := ⟨.trunk, 0x8, 64, 0, 29, 3, .live, .ro, 0, 0, 0⟩
def LANE_LANE_STAT_HOLDOFF : Fld := ⟨.trunk, 0x8, 64, 0, 28, 1, .live, .ro, 0, 0, 0⟩
def LANE_LANE_STAT_RETRY : Fld := ⟨.trunk, 0x8, 64, 0, 24, 4, .live, .ro, 0, 0, 0⟩
def LANE_LANE_STAT_PSTATE : Fld := ⟨.trunk, 0x8, 64, 0, 22, 2, .live, .ro, 0, 0, 0⟩
def LANE_LANE_STAT_RATE_IN : Fld := ⟨.trunk, 0x8, 64, 0, 20, 2, .live, .ro, 0, 0, 0⟩
def LANE_LANE_STAT_TIME_VALID : Fld := ⟨.trunk, 0x8, 64, 0, 19, 1, .live, .ro, 0, 0, 0⟩
def LANE_LANE_STAT_ROLE_CONFLICT : Fld := ⟨.trunk, 0x8, 64, 0, 18, 1, .live, .ro, 0, 0, 0⟩
def LANE_LANE_STAT_ADAPT_FROZEN : Fld := ⟨.trunk, 0x8, 64, 0, 17, 1, .live, .ro, 0, 0, 0⟩
def LANE_LANE_STAT_SLEWING : Fld := ⟨.trunk, 0x8, 64, 0, 16, 1, .live, .ro, 0, 0, 0⟩
def LANE_LANE_STAT_CARRYING : Fld := ⟨.trunk, 0x8, 64, 0, 15, 1, .live, .ro, 0, 0, 0⟩
def LANE_LANE_STAT_EPOCH : Fld := ⟨.trunk, 0x8, 64, 0, 0, 4, .live, .ro, 0, 0, 0⟩
/-- `LANE.LANE_STAT[128]`. -/
def regLaneLaneStat : Reg := ⟨.trunk, 0x8, 128, 64, 1, 0, false, .live, [LANE_LANE_STAT_STATE, LANE_LANE_STAT_HOLDOFF, LANE_LANE_STAT_RETRY, LANE_LANE_STAT_PSTATE, LANE_LANE_STAT_RATE_IN, LANE_LANE_STAT_TIME_VALID, LANE_LANE_STAT_ROLE_CONFLICT, LANE_LANE_STAT_ADAPT_FROZEN, LANE_LANE_STAT_SLEWING, LANE_LANE_STAT_CARRYING, LANE_LANE_STAT_EPOCH]⟩
def LANE_LANE_PEER_P_MODE : Fld := ⟨.trunk, 0xC, 64, 0, 18, 2, .live, .ro, 0, 0, 0⟩
def LANE_LANE_PEER_P_ROLE : Fld := ⟨.trunk, 0xC, 64, 0, 15, 3, .live, .ro, 0, 0, 0⟩
def LANE_LANE_PEER_P_PLANE : Fld := ⟨.trunk, 0xC, 64, 0, 13, 2, .live, .ro, 0, 0, 0⟩
def LANE_LANE_PEER_P_LANE : Fld := ⟨.trunk, 0xC, 64, 0, 6, 7, .live, .ro, 0, 0, 0⟩
def LANE_LANE_PEER_P_PRIM : Fld := ⟨.trunk, 0xC, 64, 0, 0, 6, .live, .ro, 0, 0, 0⟩
/-- `LANE.LANE_PEER[128]`. -/
def regLaneLanePeer : Reg := ⟨.trunk, 0xC, 128, 64, 1, 0, false, .live, [LANE_LANE_PEER_P_MODE, LANE_LANE_PEER_P_ROLE, LANE_LANE_PEER_P_PLANE, LANE_LANE_PEER_P_LANE, LANE_LANE_PEER_P_PRIM]⟩
def LANE_LANE_EVT_LOSS : Fld := ⟨.trunk, 0x10, 64, 0, 7, 1, .live, .w1c, 0, 0, 0⟩
def LANE_LANE_EVT_DELAY_JUMP : Fld := ⟨.trunk, 0x10, 64, 0, 6, 1, .live, .w1c, 0, 0, 0⟩
def LANE_LANE_EVT_FREEZE : Fld := ⟨.trunk, 0x10, 64, 0, 5, 1, .live, .w1c, 0, 0, 0⟩
def LANE_LANE_EVT_ABSENT : Fld := ⟨.trunk, 0x10, 64, 0, 4, 1, .live, .w1c, 0, 0, 0⟩
def LANE_LANE_EVT_CONFLICT : Fld := ⟨.trunk, 0x10, 64, 0, 3, 1, .live, .w1c, 0, 0, 0⟩
def LANE_LANE_EVT_RETRAINED : Fld := ⟨.trunk, 0x10, 64, 0, 2, 1, .live, .w1c, 0, 0, 0⟩
def LANE_LANE_EVT_LOOP_END : Fld := ⟨.trunk, 0x10, 64, 0, 1, 1, .live, .w1c, 0, 0, 0⟩
def LANE_LANE_EVT_SWITCHED : Fld := ⟨.trunk, 0x10, 64, 0, 0, 1, .live, .w1c, 0, 0, 0⟩
/-- `LANE.LANE_EVT[128]`. -/
def regLaneLaneEvt : Reg := ⟨.trunk, 0x10, 128, 64, 1, 0, false, .live, [LANE_LANE_EVT_LOSS, LANE_LANE_EVT_DELAY_JUMP, LANE_LANE_EVT_FREEZE, LANE_LANE_EVT_ABSENT, LANE_LANE_EVT_CONFLICT, LANE_LANE_EVT_RETRAINED, LANE_LANE_EVT_LOOP_END, LANE_LANE_EVT_SWITCHED]⟩
def LANE_LANE_DELAY_MEAS : Fld := ⟨.trunk, 0x18, 64, 0, 32, 32, .live, .ro, 0, 0, 0⟩
def LANE_LANE_DELAY_DELAY : Fld := ⟨.trunk, 0x18, 64, 0, 0, 32, .live, .ro, 0, 0, 0⟩
/-- `LANE.LANE_DELAY[128]`. -/
def regLaneLaneDelay : Reg := ⟨.trunk, 0x18, 128, 64, 1, 0, true, .live, [LANE_LANE_DELAY_MEAS, LANE_LANE_DELAY_DELAY]⟩
def LANE_LANE_ERR_CV_CNT : Fld := ⟨.trunk, 0x20, 64, 0, 48, 16, .live, .rc, 0, 0, 0⟩
def LANE_LANE_ERR_DISP_CNT : Fld := ⟨.trunk, 0x20, 64, 0, 32, 16, .live, .rc, 0, 0, 0⟩
def LANE_LANE_ERR_LOSS_CNT : Fld := ⟨.trunk, 0x20, 64, 0, 16, 16, .live, .rc, 0, 0, 0⟩
def LANE_LANE_ERR_LOSS_CAUSE : Fld := ⟨.trunk, 0x20, 64, 0, 0, 4, .live, .ro, 0, 0, 0⟩
/-- `LANE.LANE_ERR[128]`. -/
def regLaneLaneErr : Reg := ⟨.trunk, 0x20, 128, 64, 1, 0, true, .live, [LANE_LANE_ERR_CV_CNT, LANE_LANE_ERR_DISP_CNT, LANE_LANE_ERR_LOSS_CNT, LANE_LANE_ERR_LOSS_CAUSE]⟩
def LANE_LANE_ADAPT_DENS : Fld := ⟨.trunk, 0x28, 64, 0, 24, 8, .live, .ro, 0, 0, 0⟩
def LANE_LANE_ADAPT_SKIP_CNT : Fld := ⟨.trunk, 0x28, 64, 0, 0, 16, .live, .rc, 0, 0, 0⟩
/-- `LANE.LANE_ADAPT[128]`. -/
def regLaneLaneAdapt : Reg := ⟨.trunk, 0x28, 128, 64, 1, 0, false, .live, [LANE_LANE_ADAPT_DENS, LANE_LANE_ADAPT_SKIP_CNT]⟩
def LANE_LANE_CMD_OP : Fld := ⟨.trunk, 0x2C, 64, 0, 28, 4, .live, .wo, 0, 0, 0⟩
/-- `LANE.LANE_CMD[128]`. -/
def regLaneLaneCmd : Reg := ⟨.trunk, 0x2C, 128, 64, 1, 0, false, .live, [LANE_LANE_CMD_OP]⟩
def LANE_ADAPT_CFG_DRIFT_LIM : Fld := ⟨.trunk, 0x3F00, 0, 0, 0, 8, .live, .rw, 4, 4, 4⟩
/-- `LANE.ADAPT_CFG`. -/
def regLaneAdaptCfg : Reg := ⟨.trunk, 0x3F00, 1, 0, 1, 0, false, .live, [LANE_ADAPT_CFG_DRIFT_LIM]⟩
def LANE_REMEAS_CFG_INTERVAL : Fld := ⟨.trunk, 0x3F04, 0, 0, 24, 8, .live, .rw, 1, 1, 1⟩
def LANE_REMEAS_CFG_SLEW : Fld := ⟨.trunk, 0x3F04, 0, 0, 16, 8, .live, .rw, 20, 20, 20⟩
def LANE_REMEAS_CFG_JUMP_LIM : Fld := ⟨.trunk, 0x3F04, 0, 0, 0, 16, .live, .rw, 512, 512, 512⟩
/-- `LANE.REMEAS_CFG`. -/
def regLaneRemeasCfg : Reg := ⟨.trunk, 0x3F04, 1, 0, 1, 0, false, .live, [LANE_REMEAS_CFG_INTERVAL, LANE_REMEAS_CFG_SLEW, LANE_REMEAS_CFG_JUMP_LIM]⟩
def LANE_LOOP_CFG_LOOP_TMO : Fld := ⟨.trunk, 0x3F08, 0, 0, 0, 16, .live, .rw, 100, 100, 100⟩
/-- `LANE.LOOP_CFG`. -/
def regLaneLoopCfg : Reg := ⟨.trunk, 0x3F08, 1, 0, 1, 0, false, .live, [LANE_LOOP_CFG_LOOP_TMO]⟩
def LANE_RB_CTL_HOST : Fld := ⟨.trunk, 0x3F10, 0, 0, 31, 1, .live, .rw, 0, 0, 0⟩
def LANE_RB_CTL_PAIR_EN : Fld := ⟨.trunk, 0x3F10, 0, 0, 30, 1, .live, .rw, 1, 1, 1⟩
/-- `LANE.RB_CTL`. -/
def regLaneRbCtl : Reg := ⟨.trunk, 0x3F10, 1, 0, 1, 0, false, .live, [LANE_RB_CTL_HOST, LANE_RB_CTL_PAIR_EN]⟩
def LANE_RB_STAT_SINGLE_CNT : Fld := ⟨.trunk, 0x3F14, 0, 0, 16, 16, .live, .rc, 0, 0, 0⟩
def LANE_RB_STAT_RB_CNT : Fld := ⟨.trunk, 0x3F14, 0, 0, 8, 8, .live, .rc, 0, 0, 0⟩
def LANE_RB_STAT_HOLD : Fld := ⟨.trunk, 0x3F14, 0, 0, 2, 1, .live, .ro, 0, 0, 0⟩
def LANE_RB_STAT_SEEN : Fld := ⟨.trunk, 0x3F14, 0, 0, 1, 1, .live, .w1c, 0, 0, 0⟩
def LANE_RB_STAT_SENT : Fld := ⟨.trunk, 0x3F14, 0, 0, 0, 1, .live, .w1c, 0, 0, 0⟩
/-- `LANE.RB_STAT`. -/
def regLaneRbStat : Reg := ⟨.trunk, 0x3F14, 1, 0, 1, 0, false, .live, [LANE_RB_STAT_SINGLE_CNT, LANE_RB_STAT_RB_CNT, LANE_RB_STAT_HOLD, LANE_RB_STAT_SEEN, LANE_RB_STAT_SENT]⟩
def LANE_RRA_CFG_TMO : Fld := ⟨.trunk, 0x3F18, 0, 0, 0, 16, .live, .rw, 50, 50, 50⟩
/-- `LANE.RRA_CFG`. -/
def regLaneRraCfg : Reg := ⟨.trunk, 0x3F18, 1, 0, 1, 0, false, .live, [LANE_RRA_CFG_TMO]⟩
def LANE_RRA_STAT_TMO_CNT : Fld := ⟨.trunk, 0x3F1C, 0, 0, 16, 16, .live, .rc, 0, 0, 0⟩
def LANE_RRA_STAT_LATE_CNT : Fld := ⟨.trunk, 0x3F1C, 0, 0, 8, 8, .live, .rc, 0, 0, 0⟩
def LANE_RRA_STAT_BUSY_CNT : Fld := ⟨.trunk, 0x3F1C, 0, 0, 0, 8, .live, .rc, 0, 0, 0⟩
/-- `LANE.RRA_STAT`. -/
def regLaneRraStat : Reg := ⟨.trunk, 0x3F1C, 1, 0, 1, 0, false, .live, [LANE_RRA_STAT_TMO_CNT, LANE_RRA_STAT_LATE_CNT, LANE_RRA_STAT_BUSY_CNT]⟩
def LANE_SF_ERR_SOF_CRC : Fld := ⟨.trunk, 0x3F20, 0, 0, 48, 16, .live, .rc, 0, 0, 0⟩
def LANE_SF_ERR_MS_CRC : Fld := ⟨.trunk, 0x3F20, 0, 0, 32, 16, .live, .rc, 0, 0, 0⟩
def LANE_SF_ERR_RR_CRC : Fld := ⟨.trunk, 0x3F20, 0, 0, 16, 16, .live, .rc, 0, 0, 0⟩
def LANE_SF_ERR_TLM_CRC : Fld := ⟨.trunk, 0x3F20, 0, 0, 0, 16, .live, .rc, 0, 0, 0⟩
/-- `LANE.SF_ERR`. -/
def regLaneSfErr : Reg := ⟨.trunk, 0x3F20, 1, 0, 1, 0, true, .live, [LANE_SF_ERR_SOF_CRC, LANE_SF_ERR_MS_CRC, LANE_SF_ERR_RR_CRC, LANE_SF_ERR_TLM_CRC]⟩
def LANE_MS_STAT_LATE_CNT : Fld := ⟨.trunk, 0x3F28, 0, 0, 48, 16, .live, .rc, 0, 0, 0⟩
def LANE_MS_STAT_BADCMD_CNT : Fld := ⟨.trunk, 0x3F28, 0, 0, 32, 16, .live, .rc, 0, 0, 0⟩
def LANE_MS_STAT_TRIP_CNT : Fld := ⟨.trunk, 0x3F28, 0, 0, 16, 16, .live, .rc, 0, 0, 0⟩
def LANE_MS_STAT_OTHER_CNT : Fld := ⟨.trunk, 0x3F28, 0, 0, 0, 16, .live, .rc, 0, 0, 0⟩
/-- `LANE.MS_STAT`. -/
def regLaneMsStat : Reg := ⟨.trunk, 0x3F28, 1, 0, 1, 0, true, .live, [LANE_MS_STAT_LATE_CNT, LANE_MS_STAT_BADCMD_CNT, LANE_MS_STAT_TRIP_CNT, LANE_MS_STAT_OTHER_CNT]⟩
def LANE_SF_MISS_NOREP_CNT : Fld := ⟨.trunk, 0x3F30, 0, 0, 16, 16, .live, .rc, 0, 0, 0⟩
def LANE_SF_MISS_SOF_MISS : Fld := ⟨.trunk, 0x3F30, 0, 0, 0, 16, .live, .rc, 0, 0, 0⟩
/-- `LANE.SF_MISS`. -/
def regLaneSfMiss : Reg := ⟨.trunk, 0x3F30, 1, 0, 1, 0, false, .live, [LANE_SF_MISS_NOREP_CNT, LANE_SF_MISS_SOF_MISS]⟩
def LANE_SF_CHK_CODE : Fld := ⟨.trunk, 0x3F34, 0, 0, 24, 8, .live, .ro, 0, 0, 0⟩
def LANE_SF_CHK_LANE : Fld := ⟨.trunk, 0x3F34, 0, 0, 18, 6, .live, .ro, 0, 0, 0⟩
/-- `LANE.SF_CHK`. -/
def regLaneSfChk : Reg := ⟨.trunk, 0x3F34, 1, 0, 1, 0, false, .live, [LANE_SF_CHK_CODE, LANE_SF_CHK_LANE]⟩
def LANE_MS_SPAN_LANE : Fld := ⟨.trunk, 0x3F38, 0, 0, 16, 6, .live, .ro, 0, 0, 0⟩
def LANE_MS_SPAN_SPAN : Fld := ⟨.trunk, 0x3F38, 0, 0, 0, 16, .live, .ro, 0, 0, 0⟩
/-- `LANE.MS_SPAN`. -/
def regLaneMsSpan : Reg := ⟨.trunk, 0x3F38, 1, 0, 1, 0, false, .live, [LANE_MS_SPAN_LANE, LANE_MS_SPAN_SPAN]⟩
/-- The registers of block LANE. -/
def regsLane : List Reg :=
  [regLaneLaneCfg, regLaneLaneStat, regLaneLanePeer, regLaneLaneEvt, regLaneLaneDelay, regLaneLaneErr, regLaneLaneAdapt, regLaneLaneCmd, regLaneAdaptCfg, regLaneRemeasCfg, regLaneLoopCfg, regLaneRbCtl] ++
  [regLaneRbStat, regLaneRraCfg, regLaneRraStat, regLaneSfErr, regLaneMsStat, regLaneSfMiss, regLaneSfChk, regLaneMsSpan]

/-! Block GATE (09_cell_role R265). -/
def GATE_CTL_FB : Fld := ⟨.gate, 0x0, 0, 0, 31, 1, .live, .rw, 0, 0, 0⟩
def GATE_CTL_BYP_ON_DESAT : Fld := ⟨.gate, 0x0, 0, 0, 30, 1, .live, .rw, 0, 0, 0⟩
def GATE_CTL_OVX_EN : Fld := ⟨.gate, 0x0, 0, 0, 29, 1, .live, .rw, 1, 1, 1⟩
def GATE_CTL_TEMP_SRC : Fld := ⟨.gate, 0x0, 0, 0, 28, 1, .live, .rw, 0, 0, 0⟩
def GATE_CTL_AUX_AUTO : Fld := ⟨.gate, 0x0, 0, 0, 27, 1, .live, .rw, 1, 1, 1⟩
/-- `GATE.CTL`. -/
def regGateCtl : Reg := ⟨.gate, 0x0, 1, 0, 1, 0, false, .live, [GATE_CTL_FB, GATE_CTL_BYP_ON_DESAT, GATE_CTL_OVX_EN, GATE_CTL_TEMP_SRC, GATE_CTL_AUX_AUTO]⟩
def GATE_STAT_STATE : Fld := ⟨.gate, 0x4, 0, 0, 29, 3, .live, .ro, 0, 0, 0⟩
def GATE_STAT_POS : Fld := ⟨.gate, 0x4, 0, 0, 27, 2, .live, .ro, 3, 3, 3⟩
def GATE_STAT_MODE : Fld := ⟨.gate, 0x4, 0, 0, 26, 1, .live, .ro, 0, 0, 0⟩
def GATE_STAT_TRIP_HOLD : Fld := ⟨.gate, 0x4, 0, 0, 25, 1, .live, .ro, 0, 0, 0⟩
def GATE_STAT_TIME_HOLD : Fld := ⟨.gate, 0x4, 0, 0, 24, 1, .live, .ro, 0, 0, 0⟩
def GATE_STAT_TLANE : Fld := ⟨.gate, 0x4, 0, 0, 22, 2, .live, .ro, 0, 0, 0⟩
def GATE_STAT_CAUSE : Fld := ⟨.gate, 0x4, 0, 0, 8, 9, .live, .ro, 0, 0, 0⟩
def GATE_STAT_DESAT_N : Fld := ⟨.gate, 0x4, 0, 0, 4, 4, .live, .ro, 0, 0, 0⟩
def GATE_STAT_DESAT_LOCK : Fld := ⟨.gate, 0x4, 0, 0, 3, 1, .live, .ro, 0, 0, 0⟩
def GATE_STAT_CARR_IDLE : Fld := ⟨.gate, 0x4, 0, 0, 2, 1, .live, .ro, 0, 0, 0⟩
/-- `GATE.STAT`. -/
def regGateStat : Reg := ⟨.gate, 0x4, 1, 0, 1, 0, false, .live, [GATE_STAT_STATE, GATE_STAT_POS, GATE_STAT_MODE, GATE_STAT_TRIP_HOLD, GATE_STAT_TIME_HOLD, GATE_STAT_TLANE, GATE_STAT_CAUSE, GATE_STAT_DESAT_N, GATE_STAT_DESAT_LOCK, GATE_STAT_CARR_IDLE]⟩
def GATE_EVT_TIME_STEP : Fld := ⟨.gate, 0x8, 0, 0, 11, 1, .live, .w1c, 0, 0, 0⟩
def GATE_EVT_REL_REFUSE : Fld := ⟨.gate, 0x8, 0, 0, 10, 1, .live, .w1c, 0, 0, 0⟩
def GATE_EVT_AUX_ILIM : Fld := ⟨.gate, 0x8, 0, 0, 9, 1, .live, .w1c, 0, 0, 0⟩
def GATE_EVT_AUX_STALE : Fld := ⟨.gate, 0x8, 0, 0, 8, 1, .live, .w1c, 0, 0, 0⟩
def GATE_EVT_OV_WARN : Fld := ⟨.gate, 0x8, 0, 0, 7, 1, .live, .w1c, 0, 0, 0⟩
def GATE_EVT_SENSE_FAIL : Fld := ⟨.gate, 0x8, 0, 0, 6, 1, .live, .w1c, 0, 0, 0⟩
def GATE_EVT_DT_MAXED : Fld := ⟨.gate, 0x8, 0, 0, 5, 1, .live, .w1c, 0, 0, 0⟩
def GATE_EVT_DEFER : Fld := ⟨.gate, 0x8, 0, 0, 4, 1, .live, .w1c, 0, 0, 0⟩
def GATE_EVT_DESAT : Fld := ⟨.gate, 0x8, 0, 0, 3, 1, .live, .w1c, 0, 0, 0⟩
def GATE_EVT_LANE_LOSS : Fld := ⟨.gate, 0x8, 0, 0, 2, 1, .live, .w1c, 0, 0, 0⟩
def GATE_EVT_ROADBLOCK : Fld := ⟨.gate, 0x8, 0, 0, 1, 1, .live, .w1c, 0, 0, 0⟩
def GATE_EVT_BYP_FIRED : Fld := ⟨.gate, 0x8, 0, 0, 0, 1, .live, .w1c, 0, 0, 0⟩
/-- `GATE.EVT`. -/
def regGateEvt : Reg := ⟨.gate, 0x8, 1, 0, 1, 0, false, .live, [GATE_EVT_TIME_STEP, GATE_EVT_REL_REFUSE, GATE_EVT_AUX_ILIM, GATE_EVT_AUX_STALE, GATE_EVT_OV_WARN, GATE_EVT_SENSE_FAIL, GATE_EVT_DT_MAXED, GATE_EVT_DEFER, GATE_EVT_DESAT, GATE_EVT_LANE_LOSS, GATE_EVT_ROADBLOCK, GATE_EVT_BYP_FIRED]⟩
def GATE_CMD_CNT_DEFER_CNT : Fld := ⟨.gate, 0xC, 0, 0, 24, 8, .live, .rc, 0, 0, 0⟩
def GATE_CMD_CNT_NOTRUN_CNT : Fld := ⟨.gate, 0xC, 0, 0, 16, 8, .live, .rc, 0, 0, 0⟩
def GATE_CMD_CNT_REFUSE_CNT : Fld := ⟨.gate, 0xC, 0, 0, 8, 8, .live, .rc, 0, 0, 0⟩
/-- `GATE.CMD_CNT`. -/
def regGateCmdCnt : Reg := ⟨.gate, 0xC, 1, 0, 1, 0, false, .live, [GATE_CMD_CNT_DEFER_CNT, GATE_CMD_CNT_NOTRUN_CNT, GATE_CMD_CNT_REFUSE_CNT]⟩
def GATE_DT_CFG_NODE_TMO : Fld := ⟨.gate, 0x10, 0, 0, 48, 16, .live, .rw, 1000, 1000, 1000⟩
def GATE_DT_CFG_MARGIN : Fld := ⟨.gate, 0x10, 0, 0, 32, 16, .live, .rw, 300, 300, 300⟩
def GATE_DT_CFG_DT_MAX : Fld := ⟨.gate, 0x10, 0, 0, 16, 16, .live, .rw, 1800, 1800, 1800⟩
def GATE_DT_CFG_DT_MIN : Fld := ⟨.gate, 0x10, 0, 0, 0, 16, .live, .rw, 1000, 1000, 1000⟩
/-- `GATE.DT_CFG`. -/
def regGateDtCfg : Reg := ⟨.gate, 0x10, 1, 0, 1, 0, true, .live, [GATE_DT_CFG_NODE_TMO, GATE_DT_CFG_MARGIN, GATE_DT_CFG_DT_MAX, GATE_DT_CFG_DT_MIN]⟩
def GATE_DT_STAT_LAST : Fld := ⟨.gate, 0x18, 0, 0, 16, 16, .live, .ro, 0, 0, 0⟩
def GATE_DT_STAT_MAXED_CNT : Fld := ⟨.gate, 0x18, 0, 0, 8, 8, .live, .rc, 0, 0, 0⟩
def GATE_DT_STAT_SF_CNT : Fld := ⟨.gate, 0x18, 0, 0, 0, 8, .live, .rc, 0, 0, 0⟩
/-- `GATE.DT_STAT`. -/
def regGateDtStat : Reg := ⟨.gate, 0x18, 1, 0, 1, 0, false, .live, [GATE_DT_STAT_LAST, GATE_DT_STAT_MAXED_CNT, GATE_DT_STAT_SF_CNT]⟩
def GATE_DESAT_CFG_DESAT_BLANK : Fld := ⟨.gate, 0x1C, 0, 0, 16, 16, .live, .rw, 3000, 3000, 3000⟩
def GATE_DESAT_CFG_DESAT_FILT : Fld := ⟨.gate, 0x1C, 0, 0, 12, 4, .live, .rw, 4, 4, 4⟩
def GATE_DESAT_CFG_DESAT_MAX : Fld := ⟨.gate, 0x1C, 0, 0, 8, 4, .live, .rw, 3, 3, 3⟩
def GATE_DESAT_CFG_DESAT_WIN : Fld := ⟨.gate, 0x1C, 0, 0, 0, 8, .live, .rw, 60, 60, 60⟩
/-- `GATE.DESAT_CFG`. -/
def regGateDesatCfg : Reg := ⟨.gate, 0x1C, 1, 0, 1, 0, false, .live, [GATE_DESAT_CFG_DESAT_BLANK, GATE_DESAT_CFG_DESAT_FILT, GATE_DESAT_CFG_DESAT_MAX, GATE_DESAT_CFG_DESAT_WIN]⟩
def GATE_EDGE_TRIM_TRIM : Fld := ⟨.gate, 0x20, 0, 0, 0, 16, .live, .rw, 0, 0, 0⟩
/-- `GATE.EDGE_TRIM`. -/
def regGateEdgeTrim : Reg := ⟨.gate, 0x20, 1, 0, 1, 0, false, .live, [GATE_EDGE_TRIM_TRIM]⟩
def GATE_CARR_CFG_CELL_PH : Fld := ⟨.gate, 0x28, 0, 0, 32, 32, .live, .rw, 0, 0, 0⟩
def GATE_CARR_CFG_PULSE_MIN : Fld := ⟨.gate, 0x28, 0, 0, 0, 16, .live, .rw, 3000, 3000, 3000⟩
/-- `GATE.CARR_CFG`. -/
def regGateCarrCfg : Reg := ⟨.gate, 0x28, 1, 0, 1, 0, true, .live, [GATE_CARR_CFG_CELL_PH, GATE_CARR_CFG_PULSE_MIN]⟩
def GATE_CARR_ACT_DUTY : Fld := ⟨.gate, 0x30, 0, 0, 32, 32, .live, .ro, 0, 0, 0⟩
def GATE_CARR_ACT_CPER : Fld := ⟨.gate, 0x30, 0, 0, 0, 32, .live, .ro, 0, 0, 0⟩
/-- `GATE.CARR_ACT`. -/
def regGateCarrAct : Reg := ⟨.gate, 0x30, 1, 0, 1, 0, true, .live, [GATE_CARR_ACT_DUTY, GATE_CARR_ACT_CPER]⟩
def GATE_AUX_CFG0_VSTART : Fld := ⟨.gate, 0x40, 0, 0, 48, 16, .live, .rw, 8192, 8192, 8192⟩
def GATE_AUX_CFG0_VREF : Fld := ⟨.gate, 0x40, 0, 0, 32, 16, .live, .rw, 16384, 16384, 16384⟩
def GATE_AUX_CFG0_UV : Fld := ⟨.gate, 0x40, 0, 0, 16, 16, .live, .rw, 12288, 12288, 12288⟩
def GATE_AUX_CFG0_SS : Fld := ⟨.gate, 0x40, 0, 0, 8, 8, .live, .rw, 64, 64, 64⟩
def GATE_AUX_CFG0_ILIM : Fld := ⟨.gate, 0x40, 0, 0, 0, 8, .live, .rw, 192, 192, 192⟩
/-- `GATE.AUX_CFG0`. -/
def regGateAuxCfg0 : Reg := ⟨.gate, 0x40, 1, 0, 1, 0, true, .live, [GATE_AUX_CFG0_VSTART, GATE_AUX_CFG0_VREF, GATE_AUX_CFG0_UV, GATE_AUX_CFG0_SS, GATE_AUX_CFG0_ILIM]⟩
def GATE_AUX_CFG1_KON : Fld := ⟨.gate, 0x48, 0, 0, 32, 32, .live, .rw, 0, 0, 0⟩
def GATE_AUX_CFG1_KP : Fld := ⟨.gate, 0x48, 0, 0, 16, 16, .live, .rw, 0, 0, 0⟩
/-- `GATE.AUX_CFG1`. -/
def regGateAuxCfg1 : Reg := ⟨.gate, 0x48, 1, 0, 1, 0, true, .live, [GATE_AUX_CFG1_KON, GATE_AUX_CFG1_KP]⟩
def GATE_AUX_LIM_TON_MIN : Fld := ⟨.gate, 0x50, 0, 0, 48, 16, .live, .rw, 200, 200, 200⟩
def GATE_AUX_LIM_TON_MAX : Fld := ⟨.gate, 0x50, 0, 0, 32, 16, .live, .rw, 4000, 4000, 4000⟩
def GATE_AUX_LIM_PER_MIN : Fld := ⟨.gate, 0x50, 0, 0, 16, 16, .live, .rw, 10000, 10000, 10000⟩
def GATE_AUX_LIM_PER_MAX : Fld := ⟨.gate, 0x50, 0, 0, 0, 16, .live, .rw, 50000, 50000, 50000⟩
/-- `GATE.AUX_LIM`. -/
def regGateAuxLim : Reg := ⟨.gate, 0x50, 1, 0, 1, 0, true, .live, [GATE_AUX_LIM_TON_MIN, GATE_AUX_LIM_TON_MAX, GATE_AUX_LIM_PER_MIN, GATE_AUX_LIM_PER_MAX]⟩
def GATE_AUX_TON_TAG : Fld := ⟨.gate, 0x58, 0, 0, 28, 4, .shadow, .rw, 0, 0, 0⟩
def GATE_AUX_TON_TON : Fld := ⟨.gate, 0x58, 0, 0, 0, 16, .shadow, .rw, 200, 200, 200⟩
/-- `GATE.AUX_TON`. -/
def regGateAuxTon : Reg := ⟨.gate, 0x58, 1, 0, 1, 0, false, .shadow, [GATE_AUX_TON_TAG, GATE_AUX_TON_TON]⟩
def GATE_AUX_PER_TAG : Fld := ⟨.gate, 0x5C, 0, 0, 28, 4, .shadow, .rw, 0, 0, 0⟩
def GATE_AUX_PER_PER : Fld := ⟨.gate, 0x5C, 0, 0, 0, 16, .shadow, .rw, 50000, 50000, 50000⟩
/-- `GATE.AUX_PER`. -/
def regGateAuxPer : Reg := ⟨.gate, 0x5C, 1, 0, 1, 0, false, .shadow, [GATE_AUX_PER_TAG, GATE_AUX_PER_PER]⟩
def GATE_AUX_STAT_TON : Fld := ⟨.gate, 0x60, 0, 0, 48, 16, .live, .ro, 200, 200, 200⟩
def GATE_AUX_STAT_PER : Fld := ⟨.gate, 0x60, 0, 0, 32, 16, .live, .ro, 50000, 50000, 50000⟩
def GATE_AUX_STAT_TAG : Fld := ⟨.gate, 0x60, 0, 0, 28, 4, .live, .ro, 0, 0, 0⟩
def GATE_AUX_STAT_STALE : Fld := ⟨.gate, 0x60, 0, 0, 27, 1, .live, .ro, 0, 0, 0⟩
def GATE_AUX_STAT_RUNNING : Fld := ⟨.gate, 0x60, 0, 0, 26, 1, .live, .ro, 0, 0, 0⟩
def GATE_AUX_STAT_ILIM_CNT : Fld := ⟨.gate, 0x60, 0, 0, 0, 16, .live, .rc, 0, 0, 0⟩
/-- `GATE.AUX_STAT`. -/
def regGateAuxStat : Reg := ⟨.gate, 0x60, 1, 0, 1, 0, true, .live, [GATE_AUX_STAT_TON, GATE_AUX_STAT_PER, GATE_AUX_STAT_TAG, GATE_AUX_STAT_STALE, GATE_AUX_STAT_RUNNING, GATE_AUX_STAT_ILIM_CNT]⟩
def GATE_VMEAS_VGAIN : Fld := ⟨.gate, 0x68, 0, 0, 32, 32, .live, .rw, 65536, 65536, 65536⟩
def GATE_VMEAS_VOFS : Fld := ⟨.gate, 0x68, 0, 0, 16, 16, .live, .rw, 0, 0, 0⟩
/-- `GATE.VMEAS`. -/
def regGateVmeas : Reg := ⟨.gate, 0x68, 1, 0, 1, 0, true, .live, [GATE_VMEAS_VGAIN, GATE_VMEAS_VOFS]⟩
def GATE_VMEAS_Y_YGAIN : Fld := ⟨.gate, 0x70, 0, 0, 32, 32, .live, .rw, 65536, 65536, 65536⟩
def GATE_VMEAS_Y_YOFS : Fld := ⟨.gate, 0x70, 0, 0, 16, 16, .live, .rw, 0, 0, 0⟩
def GATE_VMEAS_Y_XCHK_LIM : Fld := ⟨.gate, 0x70, 0, 0, 0, 16, .live, .rw, 512, 512, 512⟩
/-- `GATE.VMEAS_Y`. -/
def regGateVmeasY : Reg := ⟨.gate, 0x70, 1, 0, 1, 0, true, .live, [GATE_VMEAS_Y_YGAIN, GATE_VMEAS_Y_YOFS, GATE_VMEAS_Y_XCHK_LIM]⟩
def GATE_VLIM_OVX : Fld := ⟨.gate, 0x78, 0, 0, 48, 16, .live, .rw, 65535, 65535, 65535⟩
def GATE_VLIM_OVW : Fld := ⟨.gate, 0x78, 0, 0, 32, 16, .live, .rw, 65535, 65535, 65535⟩
def GATE_VLIM_VMIN_RUN : Fld := ⟨.gate, 0x78, 0, 0, 16, 16, .live, .rw, 0, 0, 0⟩
/-- `GATE.VLIM`. -/
def regGateVlim : Reg := ⟨.gate, 0x78, 1, 0, 1, 0, true, .live, [GATE_VLIM_OVX, GATE_VLIM_OVW, GATE_VLIM_VMIN_RUN]⟩
def GATE_MEAS_VCAP : Fld := ⟨.gate, 0x80, 0, 0, 48, 16, .live, .ro, 0, 0, 0⟩
def GATE_MEAS_VCAP_Y : Fld := ⟨.gate, 0x80, 0, 0, 32, 16, .live, .ro, 0, 0, 0⟩
def GATE_MEAS_VAUX : Fld := ⟨.gate, 0x80, 0, 0, 16, 16, .live, .ro, 0, 0, 0⟩
def GATE_MEAS_TEMP : Fld := ⟨.gate, 0x80, 0, 0, 8, 8, .live, .ro, 0, 0, 0⟩
/-- `GATE.MEAS`. -/
def regGateMeas : Reg := ⟨.gate, 0x80, 1, 0, 1, 0, true, .live, [GATE_MEAS_VCAP, GATE_MEAS_VCAP_Y, GATE_MEAS_VAUX, GATE_MEAS_TEMP]⟩
def GATE_BYP_CFG_MODE : Fld := ⟨.gate, 0x88, 0, 0, 31, 1, .live, .rw, 0, 0, 0⟩
def GATE_BYP_CFG_PULSE : Fld := ⟨.gate, 0x88, 0, 0, 16, 14, .live, .rw, 100, 100, 100⟩
def GATE_BYP_CFG_MAINT_VMAX : Fld := ⟨.gate, 0x88, 0, 0, 0, 16, .live, .rw, 800, 800, 800⟩
/-- `GATE.BYP_CFG`. -/
def regGateBypCfg : Reg := ⟨.gate, 0x88, 1, 0, 1, 0, false, .live, [GATE_BYP_CFG_MODE, GATE_BYP_CFG_PULSE, GATE_BYP_CFG_MAINT_VMAX]⟩
def GATE_BYP_Y_CFG_LOCK : Fld := ⟨.gate, 0x8C, 0, 0, 31, 1, .live, .rw, 0, 0, 0⟩
def GATE_BYP_Y_CFG_MODE : Fld := ⟨.gate, 0x8C, 0, 0, 30, 1, .live, .rw, 0, 0, 0⟩
def GATE_BYP_Y_CFG_Y_PULSE : Fld := ⟨.gate, 0x8C, 0, 0, 20, 10, .live, .rw, 100, 100, 100⟩
def GATE_BYP_Y_CFG_Y_FILT : Fld := ⟨.gate, 0x8C, 0, 0, 16, 4, .live, .rw, 4, 4, 4⟩
def GATE_BYP_Y_CFG_OVY : Fld := ⟨.gate, 0x8C, 0, 0, 0, 16, .live, .rw, 28672, 28672, 28672⟩
/-- `GATE.BYP_Y_CFG`. -/
def regGateBypYCfg : Reg := ⟨.gate, 0x8C, 1, 0, 1, 0, false, .live, [GATE_BYP_Y_CFG_LOCK, GATE_BYP_Y_CFG_MODE, GATE_BYP_Y_CFG_Y_PULSE, GATE_BYP_Y_CFG_Y_FILT, GATE_BYP_Y_CFG_OVY]⟩
def GATE_BYP_STAT_FIRED : Fld := ⟨.gate, 0x90, 0, 0, 31, 1, .live, .ro, 0, 0, 0⟩
def GATE_BYP_STAT_FIRST_Y : Fld := ⟨.gate, 0x90, 0, 0, 30, 1, .live, .ro, 0, 0, 0⟩
def GATE_BYP_STAT_OTP_DONE : Fld := ⟨.gate, 0x90, 0, 0, 29, 1, .live, .ro, 0, 0, 0⟩
def GATE_BYP_STAT_X_CAUSE : Fld := ⟨.gate, 0x90, 0, 0, 20, 4, .live, .ro, 0, 0, 0⟩
def GATE_BYP_STAT_OTP_USED : Fld := ⟨.gate, 0x90, 0, 0, 0, 6, .live, .ro, 0, 0, 0⟩
/-- `GATE.BYP_STAT`. -/
def regGateBypStat : Reg := ⟨.gate, 0x90, 1, 0, 1, 0, false, .live, [GATE_BYP_STAT_FIRED, GATE_BYP_STAT_FIRST_Y, GATE_BYP_STAT_OTP_DONE, GATE_BYP_STAT_X_CAUSE, GATE_BYP_STAT_OTP_USED]⟩
def GATE_MAINT_OP : Fld := ⟨.gate, 0x94, 0, 0, 16, 16, .live, .wo, 0, 0, 0⟩
/-- `GATE.MAINT`. -/
def regGateMaint : Reg := ⟨.gate, 0x94, 1, 0, 1, 0, false, .live, [GATE_MAINT_OP]⟩
def GATE_TIME_STAT_P : Fld := ⟨.gate, 0x98, 0, 0, 0, 32, .live, .ro, 0, 0, 0⟩
/-- `GATE.TIME_STAT`. -/
def regGateTimeStat : Reg := ⟨.gate, 0x98, 1, 0, 1, 0, false, .live, [GATE_TIME_STAT_P]⟩
def GATE_LIFE_CNT : Fld := ⟨.gate, 0xA0, 8, 0, 0, 64, .live, .ro, 0, 0, 0⟩
/-- `GATE.LIFE[8]`. -/
def regGateLife : Reg := ⟨.gate, 0xA0, 8, 8, 1, 0, true, .live, [GATE_LIFE_CNT]⟩
def GATE_RTC_TICKS : Fld := ⟨.gate, 0xE0, 0, 0, 0, 48, .live, .ro, 0, 0, 0⟩
/-- `GATE.RTC`. -/
def regGateRtc : Reg := ⟨.gate, 0xE0, 1, 0, 1, 0, true, .live, [GATE_RTC_TICKS]⟩
def GATE_LOG_CTL_OVWR_CNT : Fld := ⟨.gate, 0xE8, 0, 0, 24, 8, .live, .rc, 0, 0, 0⟩
def GATE_LOG_CTL_RD : Fld := ⟨.gate, 0xE8, 0, 0, 12, 9, .live, .rw, 0, 0, 0⟩
def GATE_LOG_CTL_WR : Fld := ⟨.gate, 0xE8, 0, 0, 0, 9, .live, .ro, 0, 0, 0⟩
/-- `GATE.LOG_CTL`. -/
def regGateLogCtl : Reg := ⟨.gate, 0xE8, 1, 0, 1, 0, false, .live, [GATE_LOG_CTL_OVWR_CNT, GATE_LOG_CTL_RD, GATE_LOG_CTL_WR]⟩
/-- The registers of block GATE. -/
def regsGate : List Reg :=
  [regGateCtl, regGateStat, regGateEvt, regGateCmdCnt, regGateDtCfg, regGateDtStat, regGateDesatCfg, regGateEdgeTrim, regGateCarrCfg, regGateCarrAct, regGateAuxCfg0, regGateAuxCfg1] ++
  [regGateAuxLim, regGateAuxTon, regGateAuxPer, regGateAuxStat, regGateVmeas, regGateVmeasY, regGateVlim, regGateMeas, regGateBypCfg, regGateBypYCfg, regGateBypStat, regGateMaint] ++
  [regGateTimeStat, regGateLife, regGateRtc, regGateLogCtl]

/-! Block ADC (10_adc R278). -/
def ADC_CAL_START : Fld := ⟨.adc, 0x0, 0, 0, 31, 1, .live, .wo, 0, 0, 0⟩
def ADC_CAL_BUSY : Fld := ⟨.adc, 0x0, 0, 0, 30, 1, .live, .ro, 0, 0, 0⟩
def ADC_CAL_FAIL : Fld := ⟨.adc, 0x0, 0, 0, 29, 1, .live, .w1c, 0, 0, 0⟩
def ADC_CAL_MASK : Fld := ⟨.adc, 0x0, 0, 0, 0, 16, .live, .rw, 65535, 3, 15⟩
/-- `ADC.CAL`. -/
def regAdcCal : Reg := ⟨.adc, 0x0, 1, 0, 1, 0, false, .live, [ADC_CAL_START, ADC_CAL_BUSY, ADC_CAL_FAIL, ADC_CAL_MASK]⟩
def ADC_STAT_OVR : Fld := ⟨.adc, 0x4, 0, 0, 16, 16, .live, .w1c, 0, 0, 0⟩
def ADC_STAT_ACTIVE : Fld := ⟨.adc, 0x4, 0, 0, 0, 16, .live, .ro, 0, 0, 0⟩
/-- `ADC.STAT`. -/
def regAdcStat : Reg := ⟨.adc, 0x4, 1, 0, 1, 0, false, .live, [ADC_STAT_OVR, ADC_STAT_ACTIVE]⟩
def ADC_CAL_RES_CAL_OFS : Fld := ⟨.adc, 0x100, 8, 0, 48, 16, .live, .ro, 0, 0, 0⟩
def ADC_CAL_RES_CAL_GAIN : Fld := ⟨.adc, 0x100, 8, 0, 32, 16, .live, .ro, 32768, 32768, 32768⟩
def ADC_CAL_RES_STATUS : Fld := ⟨.adc, 0x100, 8, 0, 0, 8, .live, .ro, 0, 0, 0⟩
/-- `ADC.CAL_RES[16]`. -/
def regAdcCalRes : Reg := ⟨.adc, 0x100, 16, 8, 1, 0, true, .live, [ADC_CAL_RES_CAL_OFS, ADC_CAL_RES_CAL_GAIN, ADC_CAL_RES_STATUS]⟩
def ADC_CH_CFG_EN : Fld := ⟨.adc, 0x200, 4, 0, 31, 1, .shadow, .rw, 1, 1, 1⟩
def ADC_CH_CFG_MUX : Fld := ⟨.adc, 0x200, 4, 0, 26, 2, .shadow, .rw, 0, 0, 0⟩
def ADC_CH_CFG_GAIN : Fld := ⟨.adc, 0x200, 4, 0, 24, 2, .shadow, .rw, 0, 0, 0⟩
def ADC_CH_CFG_FILT : Fld := ⟨.adc, 0x200, 4, 0, 20, 3, .shadow, .rw, 0, 0, 0⟩
/-- `ADC.CH_CFG[16]`. -/
def regAdcChCfg : Reg := ⟨.adc, 0x200, 16, 4, 1, 0, false, .shadow, [ADC_CH_CFG_EN, ADC_CH_CFG_MUX, ADC_CH_CFG_GAIN, ADC_CH_CFG_FILT]⟩
def ADC_COR_GCORR : Fld := ⟨.adc, 0x300, 4, 0, 16, 16, .shadow, .rw, 32768, 32768, 32768⟩
def ADC_COR_OFS : Fld := ⟨.adc, 0x300, 4, 0, 0, 16, .shadow, .rw, 0, 0, 0⟩
/-- `ADC.COR[16]`. -/
def regAdcCor : Reg := ⟨.adc, 0x300, 16, 4, 1, 0, false, .shadow, [ADC_COR_GCORR, ADC_COR_OFS]⟩
def ADC_LAST_WORD : Fld := ⟨.adc, 0x400, 4, 0, 0, 32, .live, .ro, 524288, 524288, 524288⟩
/-- `ADC.LAST[16]`. -/
def regAdcLast : Reg := ⟨.adc, 0x400, 16, 4, 1, 0, false, .live, [ADC_LAST_WORD]⟩
def ADC_CNT_OVR_CNT : Fld := ⟨.adc, 0x480, 4, 0, 16, 16, .live, .rc, 0, 0, 0⟩
def ADC_CNT_INV_CNT : Fld := ⟨.adc, 0x480, 4, 0, 0, 16, .live, .rc, 0, 0, 0⟩
/-- `ADC.CNT[16]`. -/
def regAdcCnt : Reg := ⟨.adc, 0x480, 16, 4, 1, 0, false, .live, [ADC_CNT_OVR_CNT, ADC_CNT_INV_CNT]⟩
/-- The registers of block ADC. -/
def regsAdc : List Reg :=
  [regAdcCal, regAdcStat, regAdcCalRes, regAdcChCfg, regAdcCor, regAdcLast, regAdcCnt]

/-! Block ANGLE (11_angle_tracker R289). -/
def ANGLE_CFG_EN : Fld := ⟨.angle, 0x0, 64, 0, 31, 1, .live, .rw, 0, 0, 0⟩
def ANGLE_CFG_SRC : Fld := ⟨.angle, 0x0, 64, 0, 29, 2, .live, .rw, 0, 0, 0⟩
def ANGLE_CFG_IDX_EN : Fld := ⟨.angle, 0x0, 64, 0, 28, 1, .live, .rw, 0, 0, 0⟩
def ANGLE_CFG_IDX_CORR : Fld := ⟨.angle, 0x0, 64, 0, 27, 1, .live, .rw, 0, 0, 0⟩
def ANGLE_CFG_CHA : Fld := ⟨.angle, 0x0, 64, 0, 20, 4, .live, .rw, 0, 0, 0⟩
def ANGLE_CFG_CHB : Fld := ⟨.angle, 0x0, 64, 0, 16, 4, .live, .rw, 0, 0, 0⟩
def ANGLE_CFG_CHC : Fld := ⟨.angle, 0x0, 64, 0, 12, 4, .live, .rw, 0, 0, 0⟩
def ANGLE_CFG_AFILT : Fld := ⟨.angle, 0x0, 64, 0, 8, 4, .live, .rw, 4, 4, 4⟩
def ANGLE_CFG_STEP : Fld := ⟨.angle, 0x0, 64, 0, 4, 4, .live, .rw, 8, 8, 8⟩
def ANGLE_CFG_DWIN : Fld := ⟨.angle, 0x0, 64, 0, 0, 4, .live, .rw, 4, 4, 4⟩
/-- `ANGLE.CFG[4]`. -/
def regAngleCfg : Reg := ⟨.angle, 0x0, 4, 64, 1, 0, false, .live, [ANGLE_CFG_EN, ANGLE_CFG_SRC, ANGLE_CFG_IDX_EN, ANGLE_CFG_IDX_CORR, ANGLE_CFG_CHA, ANGLE_CFG_CHB, ANGLE_CFG_CHC, ANGLE_CFG_AFILT, ANGLE_CFG_STEP, ANGLE_CFG_DWIN]⟩
def ANGLE_LOOP_KT1 : Fld := ⟨.angle, 0x4, 64, 0, 16, 16, .live, .rw, 2048, 2048, 2048⟩
def ANGLE_LOOP_KT2 : Fld := ⟨.angle, 0x4, 64, 0, 0, 16, .live, .rw, 64, 64, 64⟩
/-- `ANGLE.LOOP[4]`. -/
def regAngleLoop : Reg := ⟨.angle, 0x4, 4, 64, 1, 0, false, .live, [ANGLE_LOOP_KT1, ANGLE_LOOP_KT2]⟩
def ANGLE_SPD_BAND_VHI : Fld := ⟨.angle, 0x8, 64, 0, 32, 32, .live, .rw, 32768, 32768, 32768⟩
def ANGLE_SPD_BAND_VLO : Fld := ⟨.angle, 0x8, 64, 0, 0, 32, .live, .rw, 16384, 16384, 16384⟩
/-- `ANGLE.SPD_BAND[4]`. -/
def regAngleSpdBand : Reg := ⟨.angle, 0x8, 4, 64, 1, 0, true, .live, [ANGLE_SPD_BAND_VHI, ANGLE_SPD_BAND_VLO]⟩
def ANGLE_AMP_WIN_AMAX : Fld := ⟨.angle, 0x10, 64, 0, 16, 16, .live, .rw, 23040, 23040, 23040⟩
def ANGLE_AMP_WIN_AMIN : Fld := ⟨.angle, 0x10, 64, 0, 0, 16, .live, .rw, 10240, 10240, 10240⟩
/-- `ANGLE.AMP_WIN[4]`. -/
def regAngleAmpWin : Reg := ⟨.angle, 0x10, 4, 64, 1, 0, false, .live, [ANGLE_AMP_WIN_AMAX, ANGLE_AMP_WIN_AMIN]⟩
def ANGLE_IDX_TOL_WIN : Fld := ⟨.angle, 0x14, 64, 0, 16, 16, .live, .rw, 64, 64, 64⟩
def ANGLE_IDX_TOL_TOL : Fld := ⟨.angle, 0x14, 64, 0, 0, 16, .live, .rw, 4, 4, 4⟩
/-- `ANGLE.IDX_TOL[4]`. -/
def regAngleIdxTol : Reg := ⟨.angle, 0x14, 4, 64, 1, 0, false, .live, [ANGLE_IDX_TOL_WIN, ANGLE_IDX_TOL_TOL]⟩
def ANGLE_IDX_POS_POS : Fld := ⟨.angle, 0x18, 64, 0, 0, 32, .live, .rw, 0, 0, 0⟩
/-- `ANGLE.IDX_POS[4]`. -/
def regAngleIdxPos : Reg := ⟨.angle, 0x18, 4, 64, 1, 0, false, .live, [ANGLE_IDX_POS_POS]⟩
def ANGLE_STILL_STILL_SPD : Fld := ⟨.angle, 0x1C, 64, 0, 16, 16, .live, .rw, 256, 256, 256⟩
def ANGLE_STILL_STILL_T : Fld := ⟨.angle, 0x1C, 64, 0, 0, 16, .live, .rw, 100, 100, 100⟩
/-- `ANGLE.STILL[4]`. -/
def regAngleStill : Reg := ⟨.angle, 0x1C, 4, 64, 1, 0, false, .live, [ANGLE_STILL_STILL_SPD, ANGLE_STILL_STILL_T]⟩
def ANGLE_SYNTH_SYNTH : Fld := ⟨.angle, 0x20, 64, 0, 0, 32, .live, .rw, 3276800, 3276800, 3276800⟩
/-- `ANGLE.SYNTH[4]`. -/
def regAngleSynth : Reg := ⟨.angle, 0x20, 4, 64, 1, 0, false, .live, [ANGLE_SYNTH_SYNTH]⟩
def ANGLE_ANG_SPEED : Fld := ⟨.angle, 0x28, 64, 0, 32, 32, .live, .ro, 0, 0, 0⟩
def ANGLE_ANG_ANGLE : Fld := ⟨.angle, 0x28, 64, 0, 0, 32, .live, .ro, 0, 0, 0⟩
/-- `ANGLE.ANG[4]`. -/
def regAngleAng : Reg := ⟨.angle, 0x28, 4, 64, 1, 0, true, .live, [ANGLE_ANG_SPEED, ANGLE_ANG_ANGLE]⟩
def ANGLE_STAT_RESYNC : Fld := ⟨.angle, 0x30, 64, 0, 7, 1, .live, .w1c, 0, 0, 0⟩
def ANGLE_STAT_CORR : Fld := ⟨.angle, 0x30, 64, 0, 6, 1, .live, .w1c, 0, 0, 0⟩
def ANGLE_STAT_IDX_FAULT : Fld := ⟨.angle, 0x30, 64, 0, 5, 1, .live, .w1c, 0, 0, 0⟩
def ANGLE_STAT_INDEX_SLIP : Fld := ⟨.angle, 0x30, 64, 0, 4, 1, .live, .w1c, 0, 0, 0⟩
def ANGLE_STAT_AMP_FAULT : Fld := ⟨.angle, 0x30, 64, 0, 3, 1, .live, .w1c, 0, 0, 0⟩
def ANGLE_STAT_STILL : Fld := ⟨.angle, 0x30, 64, 0, 2, 1, .live, .ro, 0, 0, 0⟩
def ANGLE_STAT_METHOD : Fld := ⟨.angle, 0x30, 64, 0, 1, 1, .live, .ro, 0, 0, 0⟩
def ANGLE_STAT_VALID : Fld := ⟨.angle, 0x30, 64, 0, 0, 1, .live, .ro, 0, 0, 0⟩
/-- `ANGLE.STAT[4]`. -/
def regAngleStat : Reg := ⟨.angle, 0x30, 4, 64, 1, 0, false, .live, [ANGLE_STAT_RESYNC, ANGLE_STAT_CORR, ANGLE_STAT_IDX_FAULT, ANGLE_STAT_INDEX_SLIP, ANGLE_STAT_AMP_FAULT, ANGLE_STAT_STILL, ANGLE_STAT_METHOD, ANGLE_STAT_VALID]⟩
def ANGLE_IDX_DIFF_D : Fld := ⟨.angle, 0x34, 64, 0, 0, 32, .live, .ro, 0, 0, 0⟩
/-- `ANGLE.IDX_DIFF[4]`. -/
def regAngleIdxDiff : Reg := ⟨.angle, 0x34, 4, 64, 1, 0, false, .live, [ANGLE_IDX_DIFF_D]⟩
def ANGLE_PRB_CFG_EN : Fld := ⟨.angle, 0x100, 16, 0, 31, 1, .live, .rw, 0, 0, 0⟩
def ANGLE_PRB_CFG_EDGE : Fld := ⟨.angle, 0x100, 16, 0, 29, 2, .live, .rw, 1, 1, 1⟩
def ANGLE_PRB_CFG_INST : Fld := ⟨.angle, 0x100, 16, 0, 27, 2, .live, .rw, 0, 0, 0⟩
def ANGLE_PRB_CFG_FULL : Fld := ⟨.angle, 0x100, 16, 0, 26, 1, .live, .ro, 0, 0, 0⟩
def ANGLE_PRB_CFG_MISS : Fld := ⟨.angle, 0x100, 16, 0, 0, 8, .live, .rc, 0, 0, 0⟩
/-- `ANGLE.PRB_CFG[4]`. -/
def regAnglePrbCfg : Reg := ⟨.angle, 0x100, 4, 16, 1, 0, false, .live, [ANGLE_PRB_CFG_EN, ANGLE_PRB_CFG_EDGE, ANGLE_PRB_CFG_INST, ANGLE_PRB_CFG_FULL, ANGLE_PRB_CFG_MISS]⟩
def ANGLE_PRB_CAP_TIME : Fld := ⟨.angle, 0x108, 16, 0, 32, 32, .live, .ro, 0, 0, 0⟩
def ANGLE_PRB_CAP_ANGLE : Fld := ⟨.angle, 0x108, 16, 0, 0, 32, .live, .ro, 0, 0, 0⟩
/-- `ANGLE.PRB_CAP[4]`. -/
def regAnglePrbCap : Reg := ⟨.angle, 0x108, 4, 16, 1, 0, true, .live, [ANGLE_PRB_CAP_TIME, ANGLE_PRB_CAP_ANGLE]⟩
def ANGLE_WMK_CFG_EN : Fld := ⟨.angle, 0x200, 16, 0, 31, 1, .live, .rw, 0, 0, 0⟩
def ANGLE_WMK_CFG_INST : Fld := ⟨.angle, 0x200, 16, 0, 29, 2, .live, .rw, 0, 0, 0⟩
def ANGLE_WMK_CFG_ACT : Fld := ⟨.angle, 0x200, 16, 0, 28, 1, .live, .rw, 0, 0, 0⟩
def ANGLE_WMK_CFG_REPEAT : Fld := ⟨.angle, 0x200, 16, 0, 27, 1, .live, .rw, 0, 0, 0⟩
def ANGLE_WMK_CFG_WIDTH : Fld := ⟨.angle, 0x200, 16, 0, 0, 16, .live, .rw, 100, 100, 100⟩
/-- `ANGLE.WMK_CFG[8]`. -/
def regAngleWmkCfg : Reg := ⟨.angle, 0x200, 8, 16, 1, 0, false, .live, [ANGLE_WMK_CFG_EN, ANGLE_WMK_CFG_INST, ANGLE_WMK_CFG_ACT, ANGLE_WMK_CFG_REPEAT, ANGLE_WMK_CFG_WIDTH]⟩
def ANGLE_WMK_TGT_TARGET : Fld := ⟨.angle, 0x204, 16, 0, 0, 32, .live, .rw, 0, 0, 0⟩
/-- `ANGLE.WMK_TGT[8]`. -/
def regAngleWmkTgt : Reg := ⟨.angle, 0x204, 8, 16, 1, 0, false, .live, [ANGLE_WMK_TGT_TARGET]⟩
def ANGLE_WMK_STAT_T_FIRE : Fld := ⟨.angle, 0x208, 16, 0, 32, 32, .live, .ro, 0, 0, 0⟩
def ANGLE_WMK_STAT_ARMED : Fld := ⟨.angle, 0x208, 16, 0, 2, 1, .live, .ro, 0, 0, 0⟩
def ANGLE_WMK_STAT_LATE : Fld := ⟨.angle, 0x208, 16, 0, 1, 1, .live, .w1c, 0, 0, 0⟩
def ANGLE_WMK_STAT_FIRED : Fld := ⟨.angle, 0x208, 16, 0, 0, 1, .live, .w1c, 0, 0, 0⟩
/-- `ANGLE.WMK_STAT[8]`. -/
def regAngleWmkStat : Reg := ⟨.angle, 0x208, 8, 16, 1, 0, true, .live, [ANGLE_WMK_STAT_T_FIRE, ANGLE_WMK_STAT_ARMED, ANGLE_WMK_STAT_LATE, ANGLE_WMK_STAT_FIRED]⟩
/-- The registers of block ANGLE. -/
def regsAngle : List Reg :=
  [regAngleCfg, regAngleLoop, regAngleSpdBand, regAngleAmpWin, regAngleIdxTol, regAngleIdxPos, regAngleStill, regAngleSynth, regAngleAng, regAngleStat, regAngleIdxDiff, regAnglePrbCfg] ++
  [regAnglePrbCap, regAngleWmkCfg, regAngleWmkTgt, regAngleWmkStat]

/-! Block PAIR (12_plane_redundancy R313). -/
def PAIR_CTL_EN : Fld := ⟨.pair, 0x0, 0, 0, 31, 1, .shadow, .rw, 0, 0, 0⟩
def PAIR_CTL_SILENT_CLAIM : Fld := ⟨.pair, 0x0, 0, 0, 30, 1, .shadow, .rw, 1, 1, 1⟩
def PAIR_CTL_FIT_EN : Fld := ⟨.pair, 0x0, 0, 0, 29, 1, .shadow, .rw, 1, 1, 1⟩
def PAIR_CTL_CLAIM_TMO : Fld := ⟨.pair, 0x0, 0, 0, 0, 16, .shadow, .rw, 16, 16, 16⟩
/-- `PAIR.CTL`. -/
def regPairCtl : Reg := ⟨.pair, 0x0, 1, 0, 1, 0, false, .shadow, [PAIR_CTL_EN, PAIR_CTL_SILENT_CLAIM, PAIR_CTL_FIT_EN, PAIR_CTL_CLAIM_TMO]⟩
def PAIR_VOTE_QUORUM : Fld := ⟨.pair, 0x4, 0, 0, 28, 4, .shadow, .rw, 12, 12, 12⟩
def PAIR_VOTE_CONFIRM : Fld := ⟨.pair, 0x4, 0, 0, 24, 4, .shadow, .rw, 2, 2, 2⟩
def PAIR_VOTE_TAGE_LIM : Fld := ⟨.pair, 0x4, 0, 0, 16, 8, .shadow, .rw, 3, 3, 3⟩
def PAIR_VOTE_RMIN : Fld := ⟨.pair, 0x4, 0, 0, 0, 16, .shadow, .rw, 64, 64, 64⟩
/-- `PAIR.VOTE`. -/
def regPairVote : Reg := ⟨.pair, 0x4, 1, 0, 1, 0, false, .shadow, [PAIR_VOTE_QUORUM, PAIR_VOTE_CONFIRM, PAIR_VOTE_TAGE_LIM, PAIR_VOTE_RMIN]⟩
def PAIR_FIT_FIT_MARGIN : Fld := ⟨.pair, 0x8, 0, 0, 16, 16, .shadow, .rw, 16, 16, 16⟩
def PAIR_FIT_FIT_HOLD : Fld := ⟨.pair, 0x8, 0, 0, 0, 16, .shadow, .rw, 16, 16, 16⟩
/-- `PAIR.FIT`. -/
def regPairFit : Reg := ⟨.pair, 0x8, 1, 0, 1, 0, false, .shadow, [PAIR_FIT_FIT_MARGIN, PAIR_FIT_FIT_HOLD]⟩
def PAIR_LIM_HB_TMO : Fld := ⟨.pair, 0xC, 0, 0, 24, 8, .shadow, .rw, 4, 4, 4⟩
def PAIR_LIM_SKEW_LIM : Fld := ⟨.pair, 0xC, 0, 0, 0, 16, .shadow, .rw, 8, 8, 8⟩
/-- `PAIR.LIM`. -/
def regPairLim : Reg := ⟨.pair, 0xC, 1, 0, 1, 0, false, .shadow, [PAIR_LIM_HB_TMO, PAIR_LIM_SKEW_LIM]⟩
def PAIR_CMD_OP : Fld := ⟨.pair, 0x10, 0, 0, 28, 4, .live, .wo, 0, 0, 0⟩
/-- `PAIR.CMD`. -/
def regPairCmd : Reg := ⟨.pair, 0x10, 1, 0, 1, 0, false, .live, [PAIR_CMD_OP]⟩
def PAIR_STAT_STATE : Fld := ⟨.pair, 0x14, 0, 0, 28, 4, .live, .ro, 0, 0, 0⟩
def PAIR_STAT_PSTATE : Fld := ⟨.pair, 0x14, 0, 0, 24, 4, .live, .ro, 15, 15, 15⟩
def PAIR_STAT_XLINK_UP : Fld := ⟨.pair, 0x14, 0, 0, 23, 1, .live, .ro, 0, 0, 0⟩
def PAIR_STAT_HB_OK : Fld := ⟨.pair, 0x14, 0, 0, 22, 1, .live, .ro, 0, 0, 0⟩
def PAIR_STAT_ELIGIBLE : Fld := ⟨.pair, 0x14, 0, 0, 21, 1, .live, .ro, 0, 0, 0⟩
def PAIR_STAT_PAIR_TRIP : Fld := ⟨.pair, 0x14, 0, 0, 20, 1, .live, .ro, 0, 0, 0⟩
def PAIR_STAT_GEN : Fld := ⟨.pair, 0x14, 0, 0, 0, 16, .live, .ro, 0, 0, 0⟩
/-- `PAIR.STAT`. -/
def regPairStat : Reg := ⟨.pair, 0x14, 1, 0, 1, 0, false, .live, [PAIR_STAT_STATE, PAIR_STAT_PSTATE, PAIR_STAT_XLINK_UP, PAIR_STAT_HB_OK, PAIR_STAT_ELIGIBLE, PAIR_STAT_PAIR_TRIP, PAIR_STAT_GEN]⟩
def PAIR_EVT_ORPHAN : Fld := ⟨.pair, 0x18, 0, 0, 11, 1, .live, .w1c, 0, 0, 0⟩
def PAIR_EVT_LIST_DROP : Fld := ⟨.pair, 0x18, 0, 0, 10, 1, .live, .w1c, 0, 0, 0⟩
def PAIR_EVT_COVERAGE_STALL : Fld := ⟨.pair, 0x18, 0, 0, 9, 1, .live, .w1c, 0, 0, 0⟩
def PAIR_EVT_TIME_SKEW : Fld := ⟨.pair, 0x18, 0, 0, 8, 1, .live, .w1c, 0, 0, 0⟩
def PAIR_EVT_CFG_MISMATCH : Fld := ⟨.pair, 0x18, 0, 0, 7, 1, .live, .w1c, 0, 0, 0⟩
def PAIR_EVT_MAP_MISMATCH : Fld := ⟨.pair, 0x18, 0, 0, 6, 1, .live, .w1c, 0, 0, 0⟩
def PAIR_EVT_DEPOSED : Fld := ⟨.pair, 0x18, 0, 0, 5, 1, .live, .w1c, 0, 0, 0⟩
def PAIR_EVT_RELINQUISHED : Fld := ⟨.pair, 0x18, 0, 0, 4, 1, .live, .w1c, 0, 0, 0⟩
def PAIR_EVT_CLAIMED : Fld := ⟨.pair, 0x18, 0, 0, 3, 1, .live, .w1c, 0, 0, 0⟩
def PAIR_EVT_HB_LOST : Fld := ⟨.pair, 0x18, 0, 0, 2, 1, .live, .w1c, 0, 0, 0⟩
def PAIR_EVT_PAIRLANE_DOWN : Fld := ⟨.pair, 0x18, 0, 0, 1, 1, .live, .w1c, 0, 0, 0⟩
def PAIR_EVT_CROSSLINK_LOST : Fld := ⟨.pair, 0x18, 0, 0, 0, 1, .live, .w1c, 0, 0, 0⟩
/-- `PAIR.EVT`. -/
def regPairEvt : Reg := ⟨.pair, 0x18, 1, 0, 1, 0, false, .live, [PAIR_EVT_ORPHAN, PAIR_EVT_LIST_DROP, PAIR_EVT_COVERAGE_STALL, PAIR_EVT_TIME_SKEW, PAIR_EVT_CFG_MISMATCH, PAIR_EVT_MAP_MISMATCH, PAIR_EVT_DEPOSED, PAIR_EVT_RELINQUISHED, PAIR_EVT_CLAIMED, PAIR_EVT_HB_LOST, PAIR_EVT_PAIRLANE_DOWN, PAIR_EVT_CROSSLINK_LOST]⟩
def PAIR_SKEW_SKEW : Fld := ⟨.pair, 0x1C, 0, 0, 0, 32, .live, .ro, 0, 0, 0⟩
/-- `PAIR.SKEW`. -/
def regPairSkew : Reg := ⟨.pair, 0x1C, 1, 0, 1, 0, false, .live, [PAIR_SKEW_SKEW]⟩
def PAIR_VOTE_STAT_R : Fld := ⟨.pair, 0x20, 0, 0, 48, 16, .live, .ro, 0, 0, 0⟩
def PAIR_VOTE_STAT_S : Fld := ⟨.pair, 0x20, 0, 0, 32, 16, .live, .ro, 0, 0, 0⟩
def PAIR_VOTE_STAT_L : Fld := ⟨.pair, 0x20, 0, 0, 16, 16, .live, .ro, 0, 0, 0⟩
def PAIR_VOTE_STAT_F : Fld := ⟨.pair, 0x20, 0, 0, 0, 16, .live, .ro, 0, 0, 0⟩
/-- `PAIR.VOTE_STAT`. -/
def regPairVoteStat : Reg := ⟨.pair, 0x20, 1, 0, 1, 0, true, .live, [PAIR_VOTE_STAT_R, PAIR_VOTE_STAT_S, PAIR_VOTE_STAT_L, PAIR_VOTE_STAT_F]⟩
def PAIR_CFGID_OWN : Fld := ⟨.pair, 0x28, 0, 0, 32, 32, .live, .ro, 0, 0, 0⟩
def PAIR_CFGID_PARTNER : Fld := ⟨.pair, 0x28, 0, 0, 0, 32, .live, .ro, 0, 0, 0⟩
/-- `PAIR.CFGID`. -/
def regPairCfgid : Reg := ⟨.pair, 0x28, 1, 0, 1, 0, true, .live, [PAIR_CFGID_OWN, PAIR_CFGID_PARTNER]⟩
def PAIR_CHK_CODE : Fld := ⟨.pair, 0x30, 0, 0, 24, 8, .live, .ro, 0, 0, 0⟩
def PAIR_CHK_L0 : Fld := ⟨.pair, 0x30, 0, 0, 0, 16, .live, .ro, 0, 0, 0⟩
/-- `PAIR.CHK`. -/
def regPairChk : Reg := ⟨.pair, 0x30, 1, 0, 1, 0, false, .live, [PAIR_CHK_CODE, PAIR_CHK_L0]⟩
def PAIR_CNT_CLAIMS : Fld := ⟨.pair, 0x38, 0, 0, 48, 16, .live, .rc, 0, 0, 0⟩
def PAIR_CNT_RELINQS : Fld := ⟨.pair, 0x38, 0, 0, 32, 16, .live, .rc, 0, 0, 0⟩
def PAIR_CNT_XLINK_LOSS : Fld := ⟨.pair, 0x38, 0, 0, 16, 16, .live, .rc, 0, 0, 0⟩
def PAIR_CNT_DROPS : Fld := ⟨.pair, 0x38, 0, 0, 0, 16, .live, .rc, 0, 0, 0⟩
/-- `PAIR.CNT`. -/
def regPairCnt : Reg := ⟨.pair, 0x38, 1, 0, 1, 0, true, .live, [PAIR_CNT_CLAIMS, PAIR_CNT_RELINQS, PAIR_CNT_XLINK_LOSS, PAIR_CNT_DROPS]⟩
def PAIR_HEALTH_WORD : Fld := ⟨.pair, 0x40, 4, 0, 0, 32, .live, .ro, 0, 0, 0⟩
/-- `PAIR.HEALTH[8]`. -/
def regPairHealth : Reg := ⟨.pair, 0x40, 8, 4, 1, 0, false, .live, [PAIR_HEALTH_WORD]⟩
def PAIR_PHEALTH_WORD : Fld := ⟨.pair, 0x60, 4, 0, 0, 32, .live, .ro, 0, 0, 0⟩
/-- `PAIR.PHEALTH[8]`. -/
def regPairPhealth : Reg := ⟨.pair, 0x60, 8, 4, 1, 0, false, .live, [PAIR_PHEALTH_WORD]⟩
/-- The registers of block PAIR. -/
def regsPair : List Reg :=
  [regPairCtl, regPairVote, regPairFit, regPairLim, regPairCmd, regPairStat, regPairEvt, regPairSkew, regPairVoteStat, regPairCfgid, regPairChk, regPairCnt] ++
  [regPairHealth, regPairPhealth]

end Sys2Proof.Machine.F
end

