-- ==== Sys2Proof/Machine/RegTab3.lean ====
section
/-! DEFINITION. The register fields of the blocks SAFETY, ETH, REEL, HOSTQ, TOLLGATE, SECURE, CAN, DEBUG, and the registers
they make up, copied from the register tables of the spec's chapters: one `Fld` a field (its offset, strides, bits,
access code and reset value) and one `Reg` a register. A field named by no `Fld` is reserved (R5). -/

namespace Sys2Proof.Machine.F

/-! Block SAFETY (13_safety_controller R342). -/
def SAFETY_CTL_RUN : Fld := ⟨.safety, 0x0, 0, 0, 31, 1, .live, .rw, 0, 0, 0⟩
/-- `SAFETY.CTL`. -/
def regSafetyCtl : Reg := ⟨.safety, 0x0, 1, 0, 1, 0, false, .live, [SAFETY_CTL_RUN]⟩
def SAFETY_PARAM_CRC_CRC : Fld := ⟨.safety, 0x4, 0, 0, 0, 32, .param, .rw, 0, 0, 0⟩
/-- `SAFETY.PARAM_CRC`. -/
def regSafetyParamCrc : Reg := ⟨.safety, 0x4, 1, 0, 1, 0, false, .param, [SAFETY_PARAM_CRC_CRC]⟩
def SAFETY_STAT_MODE : Fld := ⟨.safety, 0x8, 0, 0, 31, 1, .live, .ro, 0, 0, 0⟩
def SAFETY_STAT_CFAULT : Fld := ⟨.safety, 0x8, 0, 0, 30, 1, .live, .ro, 0, 0, 0⟩
def SAFETY_STAT_SRST_LONG : Fld := ⟨.safety, 0x8, 0, 0, 29, 1, .live, .w1c, 0, 0, 0⟩
def SAFETY_STAT_RST_REFUSED : Fld := ⟨.safety, 0x8, 0, 0, 28, 1, .live, .w1c, 0, 0, 0⟩
def SAFETY_STAT_SRST : Fld := ⟨.safety, 0x8, 0, 0, 27, 1, .live, .ro, 0, 0, 0⟩
def SAFETY_STAT_CCAUSE : Fld := ⟨.safety, 0x8, 0, 0, 0, 6, .live, .ro, 0, 0, 0⟩
/-- `SAFETY.STAT`. -/
def regSafetyStat : Reg := ⟨.safety, 0x8, 1, 0, 1, 0, false, .live, [SAFETY_STAT_MODE, SAFETY_STAT_CFAULT, SAFETY_STAT_SRST_LONG, SAFETY_STAT_RST_REFUSED, SAFETY_STAT_SRST, SAFETY_STAT_CCAUSE]⟩
def SAFETY_XCMP_CFG_XCMP_T : Fld := ⟨.safety, 0xC, 0, 0, 0, 16, .param, .rw, 100, 100, 100⟩
/-- `SAFETY.XCMP_CFG`. -/
def regSafetyXcmpCfg : Reg := ⟨.safety, 0xC, 1, 0, 1, 0, false, .param, [SAFETY_XCMP_CFG_XCMP_T]⟩
def SAFETY_INST_CFG_TYPE : Fld := ⟨.safety, 0x100, 16, 0, 30, 2, .param, .rw, 0, 0, 0⟩
def SAFETY_INST_CFG_STOP_CAT : Fld := ⟨.safety, 0x100, 16, 0, 29, 1, .param, .rw, 0, 0, 0⟩
def SAFETY_INST_CFG_RESTART : Fld := ⟨.safety, 0x100, 16, 0, 28, 1, .param, .rw, 0, 0, 0⟩
def SAFETY_INST_CFG_TRIP_EN : Fld := ⟨.safety, 0x100, 16, 0, 27, 1, .param, .rw, 1, 1, 1⟩
def SAFETY_INST_CFG_AUX_EN : Fld := ⟨.safety, 0x100, 16, 0, 26, 1, .param, .rw, 0, 0, 0⟩
def SAFETY_INST_CFG_STILL_REQ : Fld := ⟨.safety, 0x100, 16, 0, 25, 1, .param, .rw, 1, 1, 1⟩
def SAFETY_INST_CFG_IN : Fld := ⟨.safety, 0x100, 16, 0, 22, 3, .param, .rw, 0, 0, 0⟩
def SAFETY_INST_CFG_AUX : Fld := ⟨.safety, 0x100, 16, 0, 19, 3, .param, .rw, 0, 0, 0⟩
def SAFETY_INST_CFG_ULK : Fld := ⟨.safety, 0x100, 16, 0, 16, 3, .param, .rw, 0, 0, 0⟩
def SAFETY_INST_CFG_LINK : Fld := ⟨.safety, 0x100, 16, 0, 8, 8, .param, .rw, 0, 0, 0⟩
/-- `SAFETY.INST_CFG[8]`. -/
def regSafetyInstCfg : Reg := ⟨.safety, 0x100, 8, 16, 1, 0, false, .param, [SAFETY_INST_CFG_TYPE, SAFETY_INST_CFG_STOP_CAT, SAFETY_INST_CFG_RESTART, SAFETY_INST_CFG_TRIP_EN, SAFETY_INST_CFG_AUX_EN, SAFETY_INST_CFG_STILL_REQ, SAFETY_INST_CFG_IN, SAFETY_INST_CFG_AUX, SAFETY_INST_CFG_ULK, SAFETY_INST_CFG_LINK]⟩
def SAFETY_INST_TIME_CAT1_T : Fld := ⟨.safety, 0x104, 16, 0, 20, 12, .param, .rw, 1000, 1000, 1000⟩
def SAFETY_INST_TIME_DISC_T : Fld := ⟨.safety, 0x104, 16, 0, 10, 10, .param, .rw, 100, 100, 100⟩
def SAFETY_INST_TIME_FB_T : Fld := ⟨.safety, 0x104, 16, 0, 0, 10, .param, .rw, 200, 200, 200⟩
/-- `SAFETY.INST_TIME[8]`. -/
def regSafetyInstTime : Reg := ⟨.safety, 0x104, 8, 16, 1, 0, false, .param, [SAFETY_INST_TIME_CAT1_T, SAFETY_INST_TIME_DISC_T, SAFETY_INST_TIME_FB_T]⟩
def SAFETY_INST_STAT_STATE : Fld := ⟨.safety, 0x108, 16, 0, 28, 4, .live, .ro, 0, 0, 0⟩
def SAFETY_INST_STAT_CAUSE : Fld := ⟨.safety, 0x108, 16, 0, 20, 8, .live, .ro, 0, 0, 0⟩
def SAFETY_INST_STAT_LINES_X : Fld := ⟨.safety, 0x108, 16, 0, 4, 4, .live, .ro, 0, 0, 0⟩
def SAFETY_INST_STAT_LINES_Y : Fld := ⟨.safety, 0x108, 16, 0, 0, 4, .live, .ro, 0, 0, 0⟩
/-- `SAFETY.INST_STAT[8]`. -/
def regSafetyInstStat : Reg := ⟨.safety, 0x108, 8, 16, 1, 0, false, .live, [SAFETY_INST_STAT_STATE, SAFETY_INST_STAT_CAUSE, SAFETY_INST_STAT_LINES_X, SAFETY_INST_STAT_LINES_Y]⟩
def SAFETY_INST_REQ_REQ : Fld := ⟨.safety, 0x180, 0, 0, 0, 8, .live, .rw, 0, 0, 0⟩
/-- `SAFETY.INST_REQ`. -/
def regSafetyInstReq : Reg := ⟨.safety, 0x180, 1, 0, 1, 0, false, .live, [SAFETY_INST_REQ_REQ]⟩
def SAFETY_LINE_CFG_TP : Fld := ⟨.safety, 0x200, 4, 0, 29, 3, .param, .rw, 0, 0, 0⟩
def SAFETY_LINE_CFG_IN_FILT : Fld := ⟨.safety, 0x200, 4, 0, 0, 4, .param, .rw, 5, 5, 5⟩
/-- `SAFETY.LINE_CFG[16]`. -/
def regSafetyLineCfg : Reg := ⟨.safety, 0x200, 16, 4, 1, 0, false, .param, [SAFETY_LINE_CFG_TP, SAFETY_LINE_CFG_IN_FILT]⟩
def SAFETY_TP_CFG_TPP : Fld := ⟨.safety, 0x240, 0, 0, 16, 16, .param, .rw, 100, 100, 100⟩
def SAFETY_TP_CFG_TPW : Fld := ⟨.safety, 0x240, 0, 0, 0, 16, .param, .rw, 500, 500, 500⟩
/-- `SAFETY.TP_CFG`. -/
def regSafetyTpCfg : Reg := ⟨.safety, 0x240, 1, 0, 1, 0, false, .param, [SAFETY_TP_CFG_TPP, SAFETY_TP_CFG_TPW]⟩
def SAFETY_OUT_CFG_EN : Fld := ⟨.safety, 0x300, 8, 0, 31, 1, .param, .rw, 0, 0, 0⟩
def SAFETY_OUT_CFG_MEMBERS : Fld := ⟨.safety, 0x300, 8, 0, 16, 8, .param, .rw, 0, 0, 0⟩
def SAFETY_OUT_CFG_OT_INT : Fld := ⟨.safety, 0x300, 8, 0, 8, 8, .param, .rw, 10, 10, 10⟩
def SAFETY_OUT_CFG_OT_W : Fld := ⟨.safety, 0x300, 8, 0, 0, 8, .param, .rw, 20, 20, 20⟩
/-- `SAFETY.OUT_CFG[4]`. -/
def regSafetyOutCfg : Reg := ⟨.safety, 0x300, 4, 8, 1, 0, false, .param, [SAFETY_OUT_CFG_EN, SAFETY_OUT_CFG_MEMBERS, SAFETY_OUT_CFG_OT_INT, SAFETY_OUT_CFG_OT_W]⟩
def SAFETY_OUT_STAT_ON : Fld := ⟨.safety, 0x304, 8, 0, 31, 1, .live, .ro, 0, 0, 0⟩
def SAFETY_OUT_STAT_SRB_X : Fld := ⟨.safety, 0x304, 8, 0, 30, 1, .live, .ro, 0, 0, 0⟩
def SAFETY_OUT_STAT_SRB_Y : Fld := ⟨.safety, 0x304, 8, 0, 29, 1, .live, .ro, 0, 0, 0⟩
def SAFETY_OUT_STAT_TEST : Fld := ⟨.safety, 0x304, 8, 0, 28, 1, .live, .ro, 0, 0, 0⟩
def SAFETY_OUT_STAT_PASS_CNT : Fld := ⟨.safety, 0x304, 8, 0, 8, 8, .live, .rc, 0, 0, 0⟩
def SAFETY_OUT_STAT_DISC_CNT : Fld := ⟨.safety, 0x304, 8, 0, 0, 8, .live, .rc, 0, 0, 0⟩
/-- `SAFETY.OUT_STAT[4]`. -/
def regSafetyOutStat : Reg := ⟨.safety, 0x304, 4, 8, 1, 0, false, .live, [SAFETY_OUT_STAT_ON, SAFETY_OUT_STAT_SRB_X, SAFETY_OUT_STAT_SRB_Y, SAFETY_OUT_STAT_TEST, SAFETY_OUT_STAT_PASS_CNT, SAFETY_OUT_STAT_DISC_CNT]⟩
def SAFETY_TRIP_CFG_EN : Fld := ⟨.safety, 0x400, 0, 0, 56, 8, .param, .rw, 0, 0, 0⟩
def SAFETY_TRIP_CFG_POL : Fld := ⟨.safety, 0x400, 0, 0, 48, 8, .param, .rw, 0, 0, 0⟩
def SAFETY_TRIP_CFG_SO_EN : Fld := ⟨.safety, 0x400, 0, 0, 40, 8, .param, .rw, 0, 0, 0⟩
def SAFETY_TRIP_CFG_TRIP_PAIR : Fld := ⟨.safety, 0x400, 0, 0, 32, 4, .param, .rw, 0, 0, 0⟩
def SAFETY_TRIP_CFG_TRIP_FILT : Fld := ⟨.safety, 0x400, 0, 0, 0, 8, .param, .rw, 0, 0, 0⟩
/-- `SAFETY.TRIP_CFG`. -/
def regSafetyTripCfg : Reg := ⟨.safety, 0x400, 1, 0, 1, 0, true, .param, [SAFETY_TRIP_CFG_EN, SAFETY_TRIP_CFG_POL, SAFETY_TRIP_CFG_SO_EN, SAFETY_TRIP_CFG_TRIP_PAIR, SAFETY_TRIP_CFG_TRIP_FILT]⟩
def SAFETY_TRIP_STAT_LATCH : Fld := ⟨.safety, 0x408, 0, 0, 24, 8, .live, .ro, 0, 0, 0⟩
def SAFETY_TRIP_STAT_LEVEL : Fld := ⟨.safety, 0x408, 0, 0, 16, 8, .live, .ro, 0, 0, 0⟩
def SAFETY_TRIP_STAT_ORPHAN : Fld := ⟨.safety, 0x408, 0, 0, 15, 1, .live, .ro, 0, 0, 0⟩
def SAFETY_TRIP_STAT_DEMAND : Fld := ⟨.safety, 0x408, 0, 0, 14, 1, .live, .ro, 1, 1, 1⟩
/-- `SAFETY.TRIP_STAT`. -/
def regSafetyTripStat : Reg := ⟨.safety, 0x408, 1, 0, 1, 0, false, .live, [SAFETY_TRIP_STAT_LATCH, SAFETY_TRIP_STAT_LEVEL, SAFETY_TRIP_STAT_ORPHAN, SAFETY_TRIP_STAT_DEMAND]⟩
def SAFETY_TRIP_CLR_CLR : Fld := ⟨.safety, 0x40C, 0, 0, 24, 8, .live, .wo, 0, 0, 0⟩
/-- `SAFETY.TRIP_CLR`. -/
def regSafetyTripClr : Reg := ⟨.safety, 0x40C, 1, 0, 1, 0, false, .live, [SAFETY_TRIP_CLR_CLR]⟩
def SAFETY_BT_CFG_INST : Fld := ⟨.safety, 0x500, 0, 0, 29, 3, .param, .rw, 0, 0, 0⟩
def SAFETY_BT_CFG_BT_T : Fld := ⟨.safety, 0x500, 0, 0, 0, 16, .param, .rw, 5000, 5000, 5000⟩
/-- `SAFETY.BT_CFG`. -/
def regSafetyBtCfg : Reg := ⟨.safety, 0x500, 1, 0, 1, 0, false, .param, [SAFETY_BT_CFG_INST, SAFETY_BT_CFG_BT_T]⟩
def SAFETY_BT_ANG_ANG : Fld := ⟨.safety, 0x504, 0, 0, 0, 32, .param, .rw, 5965232, 5965232, 5965232⟩
/-- `SAFETY.BT_ANG`. -/
def regSafetyBtAng : Reg := ⟨.safety, 0x504, 1, 0, 1, 0, false, .param, [SAFETY_BT_ANG_ANG]⟩
def SAFETY_BT_TORQUE_TORQUE : Fld := ⟨.safety, 0x508, 0, 0, 0, 32, .param, .rw, 0, 0, 0⟩
/-- `SAFETY.BT_TORQUE`. -/
def regSafetyBtTorque : Reg := ⟨.safety, 0x508, 1, 0, 1, 0, false, .param, [SAFETY_BT_TORQUE_TORQUE]⟩
def SAFETY_BT_TMO_TMO : Fld := ⟨.safety, 0x50C, 0, 0, 16, 16, .param, .rw, 2000, 2000, 2000⟩
def SAFETY_BT_TMO_BT_INT : Fld := ⟨.safety, 0x50C, 0, 0, 0, 16, .param, .rw, 168, 168, 168⟩
/-- `SAFETY.BT_TMO`. -/
def regSafetyBtTmo : Reg := ⟨.safety, 0x50C, 1, 0, 1, 0, false, .param, [SAFETY_BT_TMO_TMO, SAFETY_BT_TMO_BT_INT]⟩
def SAFETY_BT_CMD_OP : Fld := ⟨.safety, 0x510, 0, 0, 28, 4, .live, .wo, 0, 0, 0⟩
/-- `SAFETY.BT_CMD`. -/
def regSafetyBtCmd : Reg := ⟨.safety, 0x510, 1, 0, 1, 0, false, .live, [SAFETY_BT_CMD_OP]⟩
def SAFETY_BT_STAT_BT_MOVE : Fld := ⟨.safety, 0x518, 0, 0, 32, 32, .live, .ro, 0, 0, 0⟩
def SAFETY_BT_STAT_PHASE : Fld := ⟨.safety, 0x518, 0, 0, 28, 4, .live, .ro, 0, 0, 0⟩
def SAFETY_BT_STAT_RESULT : Fld := ⟨.safety, 0x518, 0, 0, 24, 4, .live, .ro, 0, 0, 0⟩
def SAFETY_BT_STAT_BT_DUE : Fld := ⟨.safety, 0x518, 0, 0, 23, 1, .live, .ro, 0, 0, 0⟩
def SAFETY_BT_STAT_HOURS : Fld := ⟨.safety, 0x518, 0, 0, 0, 16, .live, .ro, 0, 0, 0⟩
/-- `SAFETY.BT_STAT`. -/
def regSafetyBtStat : Reg := ⟨.safety, 0x518, 1, 0, 1, 0, true, .live, [SAFETY_BT_STAT_BT_MOVE, SAFETY_BT_STAT_PHASE, SAFETY_BT_STAT_RESULT, SAFETY_BT_STAT_BT_DUE, SAFETY_BT_STAT_HOURS]⟩
def SAFETY_CNT_DEMANDS : Fld := ⟨.safety, 0x600, 0, 0, 48, 16, .live, .rc, 0, 0, 0⟩
def SAFETY_CNT_LOCKOUTS : Fld := ⟨.safety, 0x600, 0, 0, 32, 16, .live, .rc, 0, 0, 0⟩
def SAFETY_CNT_XCMP_DIFF : Fld := ⟨.safety, 0x600, 0, 0, 16, 16, .live, .rc, 0, 0, 0⟩
def SAFETY_CNT_SRST_OK : Fld := ⟨.safety, 0x600, 0, 0, 0, 16, .live, .rc, 0, 0, 0⟩
/-- `SAFETY.CNT`. -/
def regSafetyCnt : Reg := ⟨.safety, 0x600, 1, 0, 1, 0, true, .live, [SAFETY_CNT_DEMANDS, SAFETY_CNT_LOCKOUTS, SAFETY_CNT_XCMP_DIFF, SAFETY_CNT_SRST_OK]⟩
/-- The registers of block SAFETY. -/
def regsSafety : List Reg :=
  [regSafetyCtl, regSafetyParamCrc, regSafetyStat, regSafetyXcmpCfg, regSafetyInstCfg, regSafetyInstTime, regSafetyInstStat, regSafetyInstReq, regSafetyLineCfg, regSafetyTpCfg, regSafetyOutCfg, regSafetyOutStat] ++
  [regSafetyTripCfg, regSafetyTripStat, regSafetyTripClr, regSafetyBtCfg, regSafetyBtAng, regSafetyBtTorque, regSafetyBtTmo, regSafetyBtCmd, regSafetyBtStat, regSafetyCnt]

/-! Block ETH (14_timebase_ethernet R364). -/
def ETH_PORT_CFG_EN : Fld := ⟨.eth, 0x0, 64, 0, 31, 1, .live, .rw, 0, 0, 0⟩
def ETH_PORT_CFG_SPEED : Fld := ⟨.eth, 0x0, 64, 0, 30, 1, .live, .rw, 0, 0, 0⟩
def ETH_PORT_CFG_AN : Fld := ⟨.eth, 0x0, 64, 0, 29, 1, .live, .rw, 1, 1, 1⟩
def ETH_PORT_CFG_TC : Fld := ⟨.eth, 0x0, 64, 0, 28, 1, .live, .rw, 0, 0, 0⟩
def ETH_PORT_CFG_MAXLEN : Fld := ⟨.eth, 0x0, 64, 0, 0, 14, .live, .rw, 1522, 1522, 1522⟩
/-- `ETH.PORT_CFG[4]`. -/
def regEthPortCfg : Reg := ⟨.eth, 0x0, 4, 64, 1, 0, false, .live, [ETH_PORT_CFG_EN, ETH_PORT_CFG_SPEED, ETH_PORT_CFG_AN, ETH_PORT_CFG_TC, ETH_PORT_CFG_MAXLEN]⟩
def ETH_PORT_STAT_LINK : Fld := ⟨.eth, 0x4, 64, 0, 31, 1, .live, .ro, 0, 0, 0⟩
def ETH_PORT_STAT_MEDIUM : Fld := ⟨.eth, 0x4, 64, 0, 30, 1, .live, .ro, 0, 0, 0⟩
def ETH_PORT_STAT_LINK_LOST : Fld := ⟨.eth, 0x4, 64, 0, 29, 1, .live, .w1c, 0, 0, 0⟩
def ETH_PORT_STAT_EPOCH : Fld := ⟨.eth, 0x4, 64, 0, 0, 4, .live, .ro, 0, 0, 0⟩
/-- `ETH.PORT_STAT[4]`. -/
def regEthPortStat : Reg := ⟨.eth, 0x4, 4, 64, 1, 0, false, .live, [ETH_PORT_STAT_LINK, ETH_PORT_STAT_MEDIUM, ETH_PORT_STAT_LINK_LOST, ETH_PORT_STAT_EPOCH]⟩
def ETH_PORT_LAT_TX_EXT : Fld := ⟨.eth, 0x8, 64, 0, 32, 32, .live, .rw, 0, 0, 0⟩
def ETH_PORT_LAT_RX_EXT : Fld := ⟨.eth, 0x8, 64, 0, 0, 32, .live, .rw, 0, 0, 0⟩
/-- `ETH.PORT_LAT[4]`. -/
def regEthPortLat : Reg := ⟨.eth, 0x8, 4, 64, 1, 0, true, .live, [ETH_PORT_LAT_TX_EXT, ETH_PORT_LAT_RX_EXT]⟩
def ETH_PORT_LINKDLY_LINKDLY : Fld := ⟨.eth, 0x10, 64, 0, 0, 64, .live, .rw, 0, 0, 0⟩
/-- `ETH.PORT_LINKDLY[4]`. -/
def regEthPortLinkdly : Reg := ⟨.eth, 0x10, 4, 64, 1, 0, true, .live, [ETH_PORT_LINKDLY_LINKDLY]⟩
def ETH_PORT_CNT_RX_OK : Fld := ⟨.eth, 0x18, 64, 0, 48, 16, .live, .rc, 0, 0, 0⟩
def ETH_PORT_CNT_RX_ERR : Fld := ⟨.eth, 0x18, 64, 0, 32, 16, .live, .rc, 0, 0, 0⟩
def ETH_PORT_CNT_TX_OK : Fld := ⟨.eth, 0x18, 64, 0, 16, 16, .live, .rc, 0, 0, 0⟩
def ETH_PORT_CNT_TX_RET : Fld := ⟨.eth, 0x18, 64, 0, 0, 16, .live, .rc, 0, 0, 0⟩
/-- `ETH.PORT_CNT[4]`. -/
def regEthPortCnt : Reg := ⟨.eth, 0x18, 4, 64, 1, 0, true, .live, [ETH_PORT_CNT_RX_OK, ETH_PORT_CNT_RX_ERR, ETH_PORT_CNT_TX_OK, ETH_PORT_CNT_TX_RET]⟩
def ETH_PORT_CNT2_LONG_CNT : Fld := ⟨.eth, 0x20, 64, 0, 48, 16, .live, .rc, 0, 0, 0⟩
def ETH_PORT_CNT2_PAUSE_CNT : Fld := ⟨.eth, 0x20, 64, 0, 32, 16, .live, .rc, 0, 0, 0⟩
def ETH_PORT_CNT2_LATE_CNT : Fld := ⟨.eth, 0x20, 64, 0, 16, 16, .live, .rc, 0, 0, 0⟩
def ETH_PORT_CNT2_TC_CNT : Fld := ⟨.eth, 0x20, 64, 0, 0, 16, .live, .rc, 0, 0, 0⟩
/-- `ETH.PORT_CNT2[4]`. -/
def regEthPortCnt2 : Reg := ⟨.eth, 0x20, 4, 64, 1, 0, true, .live, [ETH_PORT_CNT2_LONG_CNT, ETH_PORT_CNT2_PAUSE_CNT, ETH_PORT_CNT2_LATE_CNT, ETH_PORT_CNT2_TC_CNT]⟩
def ETH_MAC_ADDR_MAC : Fld := ⟨.eth, 0x100, 0, 0, 0, 48, .live, .rw, 0, 0, 0⟩
/-- `ETH.MAC_ADDR`. -/
def regEthMacAddr : Reg := ⟨.eth, 0x100, 1, 0, 1, 0, true, .live, [ETH_MAC_ADDR_MAC]⟩
def ETH_RED_CFG_MODE : Fld := ⟨.eth, 0x108, 0, 0, 30, 2, .live, .rw, 0, 0, 0⟩
def ETH_RED_CFG_SUP_INT : Fld := ⟨.eth, 0x108, 0, 0, 24, 4, .live, .rw, 2, 2, 2⟩
def ETH_RED_CFG_DD_AGE : Fld := ⟨.eth, 0x108, 0, 0, 0, 16, .live, .rw, 400, 400, 400⟩
/-- `ETH.RED_CFG`. -/
def regEthRedCfg : Reg := ⟨.eth, 0x108, 1, 0, 1, 0, false, .live, [ETH_RED_CFG_MODE, ETH_RED_CFG_SUP_INT, ETH_RED_CFG_DD_AGE]⟩
def ETH_RED_STAT_DUP_CNT : Fld := ⟨.eth, 0x110, 0, 0, 48, 16, .live, .rc, 0, 0, 0⟩
def ETH_RED_STAT_WRONG_LAN : Fld := ⟨.eth, 0x110, 0, 0, 32, 16, .live, .rc, 0, 0, 0⟩
def ETH_RED_STAT_ONLY0 : Fld := ⟨.eth, 0x110, 0, 0, 16, 16, .live, .rc, 0, 0, 0⟩
def ETH_RED_STAT_ONLY1 : Fld := ⟨.eth, 0x110, 0, 0, 0, 16, .live, .rc, 0, 0, 0⟩
/-- `ETH.RED_STAT`. -/
def regEthRedStat : Reg := ⟨.eth, 0x110, 1, 0, 1, 0, true, .live, [ETH_RED_STAT_DUP_CNT, ETH_RED_STAT_WRONG_LAN, ETH_RED_STAT_ONLY0, ETH_RED_STAT_ONLY1]⟩
def ETH_TXTS_LO_NS : Fld := ⟨.eth, 0x200, 0, 0, 32, 32, .live, .ro, 0, 0, 0⟩
def ETH_TXTS_LO_SUB : Fld := ⟨.eth, 0x200, 0, 0, 26, 6, .live, .ro, 0, 0, 0⟩
def ETH_TXTS_LO_VALID : Fld := ⟨.eth, 0x200, 0, 0, 25, 1, .live, .ro, 0, 0, 0⟩
def ETH_TXTS_LO_PORT : Fld := ⟨.eth, 0x200, 0, 0, 16, 2, .live, .ro, 0, 0, 0⟩
def ETH_TXTS_LO_ID : Fld := ⟨.eth, 0x200, 0, 0, 0, 16, .live, .ro, 0, 0, 0⟩
/-- `ETH.TXTS_LO`. -/
def regEthTxtsLo : Reg := ⟨.eth, 0x200, 1, 0, 1, 0, true, .live, [ETH_TXTS_LO_NS, ETH_TXTS_LO_SUB, ETH_TXTS_LO_VALID, ETH_TXTS_LO_PORT, ETH_TXTS_LO_ID]⟩
def ETH_TXTS_HI_SEC : Fld := ⟨.eth, 0x208, 0, 0, 0, 48, .live, .ro, 0, 0, 0⟩
/-- `ETH.TXTS_HI`. -/
def regEthTxtsHi : Reg := ⟨.eth, 0x208, 1, 0, 1, 0, true, .live, [ETH_TXTS_HI_SEC]⟩
def ETH_TXTS_STAT_FIRST_DROP_ID : Fld := ⟨.eth, 0x210, 0, 0, 48, 16, .live, .ro, 0, 0, 0⟩
def ETH_TXTS_STAT_DROP_CNT : Fld := ⟨.eth, 0x210, 0, 0, 32, 16, .live, .rc, 0, 0, 0⟩
def ETH_TXTS_STAT_OVF : Fld := ⟨.eth, 0x210, 0, 0, 31, 1, .live, .w1c, 0, 0, 0⟩
def ETH_TXTS_STAT_COUNT : Fld := ⟨.eth, 0x210, 0, 0, 0, 7, .live, .ro, 0, 0, 0⟩
/-- `ETH.TXTS_STAT`. -/
def regEthTxtsStat : Reg := ⟨.eth, 0x210, 1, 0, 1, 0, true, .live, [ETH_TXTS_STAT_FIRST_DROP_ID, ETH_TXTS_STAT_DROP_CNT, ETH_TXTS_STAT_OVF, ETH_TXTS_STAT_COUNT]⟩
def ETH_MC_FILTER_EN : Fld := ⟨.eth, 0x300, 8, 0, 63, 1, .live, .rw, 0, 0, 0⟩
def ETH_MC_FILTER_MAC : Fld := ⟨.eth, 0x300, 8, 0, 0, 48, .live, .rw, 0, 0, 0⟩
/-- `ETH.MC_FILTER[32]`. -/
def regEthMcFilter : Reg := ⟨.eth, 0x300, 32, 8, 1, 0, true, .live, [ETH_MC_FILTER_EN, ETH_MC_FILTER_MAC]⟩
def ETH_SV_CFG_EN : Fld := ⟨.eth, 0x1000, 32, 0, 63, 1, .live, .rw, 0, 0, 0⟩
def ETH_SV_CFG_REQ_SYNC : Fld := ⟨.eth, 0x1000, 32, 0, 62, 1, .live, .rw, 1, 1, 1⟩
def ETH_SV_CFG_TEST_OK : Fld := ⟨.eth, 0x1000, 32, 0, 61, 1, .live, .rw, 0, 0, 0⟩
def ETH_SV_CFG_COPY : Fld := ⟨.eth, 0x1000, 32, 0, 60, 1, .live, .rw, 0, 0, 0⟩
def ETH_SV_CFG_NELEM : Fld := ⟨.eth, 0x1000, 32, 0, 48, 5, .live, .rw, 8, 8, 8⟩
def ETH_SV_CFG_DMAC : Fld := ⟨.eth, 0x1000, 32, 0, 0, 48, .live, .rw, 0, 0, 0⟩
/-- `ETH.SV_CFG[32]`. -/
def regEthSvCfg : Reg := ⟨.eth, 0x1000, 32, 32, 1, 0, true, .live, [ETH_SV_CFG_EN, ETH_SV_CFG_REQ_SYNC, ETH_SV_CFG_TEST_OK, ETH_SV_CFG_COPY, ETH_SV_CFG_NELEM, ETH_SV_CFG_DMAC]⟩
def ETH_SV_CFG2_APPID : Fld := ⟨.eth, 0x1008, 32, 0, 48, 16, .live, .rw, 16384, 16384, 16384⟩
def ETH_SV_CFG2_SMP_WRAP : Fld := ⟨.eth, 0x1008, 32, 0, 32, 16, .live, .rw, 4000, 4000, 4000⟩
def ETH_SV_CFG2_LOSS_TMO : Fld := ⟨.eth, 0x1008, 32, 0, 16, 16, .live, .rw, 1000, 1000, 1000⟩
/-- `ETH.SV_CFG2[32]`. -/
def regEthSvCfg2 : Reg := ⟨.eth, 0x1008, 32, 32, 1, 0, true, .live, [ETH_SV_CFG2_APPID, ETH_SV_CFG2_SMP_WRAP, ETH_SV_CFG2_LOSS_TMO]⟩
def ETH_SV_STAT_T_ARR : Fld := ⟨.eth, 0x1010, 32, 0, 32, 32, .live, .ro, 0, 0, 0⟩
def ETH_SV_STAT_SMPCNT : Fld := ⟨.eth, 0x1010, 32, 0, 16, 16, .live, .ro, 0, 0, 0⟩
def ETH_SV_STAT_LOST : Fld := ⟨.eth, 0x1010, 32, 0, 15, 1, .live, .ro, 1, 1, 1⟩
/-- `ETH.SV_STAT[32]`. -/
def regEthSvStat : Reg := ⟨.eth, 0x1010, 32, 32, 1, 0, true, .live, [ETH_SV_STAT_T_ARR, ETH_SV_STAT_SMPCNT, ETH_SV_STAT_LOST]⟩
def ETH_SV_CNT_FRAMES : Fld := ⟨.eth, 0x1018, 32, 0, 48, 16, .live, .rc, 0, 0, 0⟩
def ETH_SV_CNT_GAP_CNT : Fld := ⟨.eth, 0x1018, 32, 0, 32, 16, .live, .rc, 0, 0, 0⟩
def ETH_SV_CNT_BADQ_CNT : Fld := ⟨.eth, 0x1018, 32, 0, 16, 16, .live, .rc, 0, 0, 0⟩
def ETH_SV_CNT_FMT_ERR : Fld := ⟨.eth, 0x1018, 32, 0, 0, 16, .live, .rc, 0, 0, 0⟩
/-- `ETH.SV_CNT[32]`. -/
def regEthSvCnt : Reg := ⟨.eth, 0x1018, 32, 32, 1, 0, true, .live, [ETH_SV_CNT_FRAMES, ETH_SV_CNT_GAP_CNT, ETH_SV_CNT_BADQ_CNT, ETH_SV_CNT_FMT_ERR]⟩
/-- The registers of block ETH. -/
def regsEth : List Reg :=
  [regEthPortCfg, regEthPortStat, regEthPortLat, regEthPortLinkdly, regEthPortCnt, regEthPortCnt2, regEthMacAddr, regEthRedCfg, regEthRedStat, regEthTxtsLo, regEthTxtsHi, regEthTxtsStat] ++
  [regEthMcFilter, regEthSvCfg, regEthSvCfg2, regEthSvStat, regEthSvCnt]

/-! Block REEL (15_reel_recorder R383). -/
def REEL_CTL_EN : Fld := ⟨.reel, 0x0, 0, 0, 31, 1, .live, .rw, 0, 0, 0⟩
def REEL_CTL_VIEW : Fld := ⟨.reel, 0x0, 0, 0, 30, 1, .live, .rw, 0, 0, 0⟩
/-- `REEL.CTL`. -/
def regReelCtl : Reg := ⟨.reel, 0x0, 1, 0, 1, 0, false, .live, [REEL_CTL_EN, REEL_CTL_VIEW]⟩
def REEL_CHK_STAT_CODE : Fld := ⟨.reel, 0x4, 0, 0, 24, 8, .live, .ro, 0, 0, 0⟩
def REEL_CHK_STAT_INST : Fld := ⟨.reel, 0x4, 0, 0, 22, 2, .live, .ro, 0, 0, 0⟩
def REEL_CHK_STAT_INDEX : Fld := ⟨.reel, 0x4, 0, 0, 0, 8, .live, .ro, 0, 0, 0⟩
/-- `REEL.CHK_STAT`. -/
def regReelChkStat : Reg := ⟨.reel, 0x4, 1, 0, 1, 0, false, .live, [REEL_CHK_STAT_CODE, REEL_CHK_STAT_INST, REEL_CHK_STAT_INDEX]⟩
def REEL_RATE_BPUS : Fld := ⟨.reel, 0x8, 0, 0, 0, 32, .live, .ro, 0, 0, 0⟩
/-- `REEL.RATE`. -/
def regReelRate : Reg := ⟨.reel, 0x8, 1, 0, 1, 0, false, .live, [REEL_RATE_BPUS]⟩
def REEL_ECC_STAT_ADDR : Fld := ⟨.reel, 0x10, 0, 0, 32, 28, .live, .ro, 0, 0, 0⟩
def REEL_ECC_STAT_UE_CNT : Fld := ⟨.reel, 0x10, 0, 0, 16, 16, .live, .rc, 0, 0, 0⟩
def REEL_ECC_STAT_CE_CNT : Fld := ⟨.reel, 0x10, 0, 0, 0, 16, .live, .rc, 0, 0, 0⟩
/-- `REEL.ECC_STAT`. -/
def regReelEccStat : Reg := ⟨.reel, 0x10, 1, 0, 1, 0, true, .live, [REEL_ECC_STAT_ADDR, REEL_ECC_STAT_UE_CNT, REEL_ECC_STAT_CE_CNT]⟩
def REEL_FORCE_INST : Fld := ⟨.reel, 0x20, 0, 0, 0, 4, .live, .wo, 0, 0, 0⟩
/-- `REEL.FORCE`. -/
def regReelForce : Reg := ⟨.reel, 0x20, 1, 0, 1, 0, false, .live, [REEL_FORCE_INST]⟩
def REEL_RELEASE_INST : Fld := ⟨.reel, 0x24, 0, 0, 8, 2, .live, .wo, 0, 0, 0⟩
def REEL_RELEASE_SLOT : Fld := ⟨.reel, 0x24, 0, 0, 0, 8, .live, .wo, 0, 0, 0⟩
/-- `REEL.RELEASE`. -/
def regReelRelease : Reg := ⟨.reel, 0x24, 1, 0, 1, 0, false, .live, [REEL_RELEASE_INST, REEL_RELEASE_SLOT]⟩
def REEL_INST_CFG_EN : Fld := ⟨.reel, 0x100, 64, 0, 31, 1, .set, .rw, 0, 0, 0⟩
def REEL_INST_CFG_TBASE : Fld := ⟨.reel, 0x100, 64, 0, 30, 1, .set, .rw, 0, 0, 0⟩
def REEL_INST_CFG_OVWR : Fld := ⟨.reel, 0x100, 64, 0, 29, 1, .set, .rw, 0, 0, 0⟩
def REEL_INST_CFG_CQ : Fld := ⟨.reel, 0x100, 64, 0, 8, 6, .set, .rw, 0, 0, 0⟩
def REEL_INST_CFG_DIV : Fld := ⟨.reel, 0x100, 64, 0, 0, 7, .set, .rw, 1, 1, 1⟩
/-- `REEL.INST_CFG[4]`. -/
def regReelInstCfg : Reg := ⟨.reel, 0x100, 4, 64, 1, 0, false, .set, [REEL_INST_CFG_EN, REEL_INST_CFG_TBASE, REEL_INST_CFG_OVWR, REEL_INST_CFG_CQ, REEL_INST_CFG_DIV]⟩
def REEL_INST_AREA_BASE : Fld := ⟨.reel, 0x104, 64, 0, 24, 8, .set, .rw, 0, 0, 0⟩
def REEL_INST_AREA_SIZE : Fld := ⟨.reel, 0x104, 64, 0, 15, 9, .set, .rw, 0, 0, 0⟩
def REEL_INST_AREA_SLOTS : Fld := ⟨.reel, 0x104, 64, 0, 0, 8, .set, .rw, 1, 1, 1⟩
/-- `REEL.INST_AREA[4]`. -/
def regReelInstArea : Reg := ⟨.reel, 0x104, 4, 64, 1, 0, false, .set, [REEL_INST_AREA_BASE, REEL_INST_AREA_SIZE, REEL_INST_AREA_SLOTS]⟩
def REEL_INST_LEN_POST : Fld := ⟨.reel, 0x108, 64, 0, 32, 32, .set, .rw, 1, 1, 1⟩
def REEL_INST_LEN_PRE : Fld := ⟨.reel, 0x108, 64, 0, 0, 32, .set, .rw, 0, 0, 0⟩
/-- `REEL.INST_LEN[4]`. -/
def regReelInstLen : Reg := ⟨.reel, 0x108, 4, 64, 1, 0, true, .set, [REEL_INST_LEN_POST, REEL_INST_LEN_PRE]⟩
def REEL_INST_CMD_OP : Fld := ⟨.reel, 0x110, 64, 0, 28, 4, .live, .wo, 0, 0, 0⟩
/-- `REEL.INST_CMD[4]`. -/
def regReelInstCmd : Reg := ⟨.reel, 0x110, 4, 64, 1, 0, false, .live, [REEL_INST_CMD_OP]⟩
def REEL_INST_STAT_STATE : Fld := ⟨.reel, 0x114, 64, 0, 29, 3, .live, .ro, 0, 0, 0⟩
def REEL_INST_STAT_SLOT : Fld := ⟨.reel, 0x114, 64, 0, 16, 8, .live, .ro, 0, 0, 0⟩
def REEL_INST_STAT_FREE : Fld := ⟨.reel, 0x114, 64, 0, 8, 8, .live, .ro, 0, 0, 0⟩
/-- `REEL.INST_STAT[4]`. -/
def regReelInstStat : Reg := ⟨.reel, 0x114, 4, 64, 1, 0, false, .live, [REEL_INST_STAT_STATE, REEL_INST_STAT_SLOT, REEL_INST_STAT_FREE]⟩
def REEL_INST_MISS_FIRST_NS : Fld := ⟨.reel, 0x118, 64, 0, 32, 32, .live, .rc, 0, 0, 0⟩
def REEL_INST_MISS_MISSED : Fld := ⟨.reel, 0x118, 64, 0, 0, 32, .live, .rc, 0, 0, 0⟩
/-- `REEL.INST_MISS[4]`. -/
def regReelInstMiss : Reg := ⟨.reel, 0x118, 4, 64, 1, 0, true, .live, [REEL_INST_MISS_FIRST_NS, REEL_INST_MISS_MISSED]⟩
def REEL_INST_CNT_OVWR_CNT : Fld := ⟨.reel, 0x120, 64, 0, 16, 16, .live, .rc, 0, 0, 0⟩
def REEL_INST_CNT_RECORDS : Fld := ⟨.reel, 0x120, 64, 0, 0, 16, .live, .rc, 0, 0, 0⟩
/-- `REEL.INST_CNT[4]`. -/
def regReelInstCnt : Reg := ⟨.reel, 0x120, 4, 64, 1, 0, false, .live, [REEL_INST_CNT_OVWR_CNT, REEL_INST_CNT_RECORDS]⟩
def REEL_CH_EN : Fld := ⟨.reel, 0x1000, 4, 0, 31, 1, .set, .rw, 0, 0, 0⟩
def REEL_CH_W32 : Fld := ⟨.reel, 0x1000, 4, 0, 30, 1, .set, .rw, 0, 0, 0⟩
def REEL_CH_RED : Fld := ⟨.reel, 0x1000, 4, 0, 29, 1, .set, .rw, 0, 0, 0⟩
def REEL_CH_KIND : Fld := ⟨.reel, 0x1000, 4, 0, 24, 4, .set, .rw, 0, 0, 0⟩
def REEL_CH_INST : Fld := ⟨.reel, 0x1000, 4, 0, 16, 2, .set, .rw, 0, 0, 0⟩
def REEL_CH_SEL : Fld := ⟨.reel, 0x1000, 4, 0, 0, 16, .set, .rw, 0, 0, 0⟩
/-- `REEL.CH[256]`. -/
def regReelCh : Reg := ⟨.reel, 0x1000, 256, 4, 1, 0, false, .set, [REEL_CH_EN, REEL_CH_W32, REEL_CH_RED, REEL_CH_KIND, REEL_CH_INST, REEL_CH_SEL]⟩
def REEL_TRG_CFG_EN : Fld := ⟨.reel, 0x2000, 128, 16, 31, 1, .set, .rw, 0, 0, 0⟩
def REEL_TRG_CFG_TYPE : Fld := ⟨.reel, 0x2000, 128, 16, 27, 4, .set, .rw, 0, 0, 0⟩
def REEL_TRG_CFG_CH : Fld := ⟨.reel, 0x2000, 128, 16, 16, 8, .set, .rw, 0, 0, 0⟩
def REEL_TRG_CFG_BIT : Fld := ⟨.reel, 0x2000, 128, 16, 8, 5, .set, .rw, 0, 0, 0⟩
def REEL_TRG_CFG_XINST : Fld := ⟨.reel, 0x2000, 128, 16, 0, 2, .set, .rw, 0, 0, 0⟩
/-- `REEL.TRG_CFG[4][8]`. -/
def regReelTrgCfg : Reg := ⟨.reel, 0x2000, 4, 128, 8, 16, false, .set, [REEL_TRG_CFG_EN, REEL_TRG_CFG_TYPE, REEL_TRG_CFG_CH, REEL_TRG_CFG_BIT, REEL_TRG_CFG_XINST]⟩
def REEL_TRG_TH_V : Fld := ⟨.reel, 0x2004, 128, 16, 0, 32, .set, .rw, 0, 0, 0⟩
/-- `REEL.TRG_TH[4][8]`. -/
def regReelTrgTh : Reg := ⟨.reel, 0x2004, 4, 128, 8, 16, false, .set, [REEL_TRG_TH_V]⟩
def REEL_TRG_TH2_V : Fld := ⟨.reel, 0x2008, 128, 16, 0, 32, .set, .rw, 0, 0, 0⟩
/-- `REEL.TRG_TH2[4][8]`. -/
def regReelTrgTh2 : Reg := ⟨.reel, 0x2008, 4, 128, 8, 16, false, .set, [REEL_TRG_TH2_V]⟩
def REEL_SLOT_MAP_USED : Fld := ⟨.reel, 0x3000, 32, 4, 0, 32, .live, .ro, 0, 0, 0⟩
/-- `REEL.SLOT_MAP[4][8]`. -/
def regReelSlotMap : Reg := ⟨.reel, 0x3000, 4, 32, 8, 4, false, .live, [REEL_SLOT_MAP_USED]⟩
/-- The registers of block REEL. -/
def regsReel : List Reg :=
  [regReelCtl, regReelChkStat, regReelRate, regReelEccStat, regReelForce, regReelRelease, regReelInstCfg, regReelInstArea, regReelInstLen, regReelInstCmd, regReelInstStat, regReelInstMiss] ++
  [regReelInstCnt, regReelCh, regReelTrgCfg, regReelTrgTh, regReelTrgTh2, regReelSlotMap]

/-! Block HOSTQ (16_host_tollgate R406). -/
def HOSTQ_CTL_EN : Fld := ⟨.hostq, 0x0, 0, 0, 31, 1, .live, .rw, 0, 0, 0⟩
def HOSTQ_CTL_NP_MAX : Fld := ⟨.hostq, 0x0, 0, 0, 0, 8, .live, .rw, 128, 128, 128⟩
/-- `HOSTQ.CTL`. -/
def regHostqCtl : Reg := ⟨.hostq, 0x0, 1, 0, 1, 0, false, .live, [HOSTQ_CTL_EN, HOSTQ_CTL_NP_MAX]⟩
def HOSTQ_STAT_NP_OUT : Fld := ⟨.hostq, 0x4, 0, 0, 16, 8, .live, .ro, 0, 0, 0⟩
def HOSTQ_STAT_NOBUF_CNT : Fld := ⟨.hostq, 0x4, 0, 0, 0, 16, .live, .rc, 0, 0, 0⟩
/-- `HOSTQ.STAT`. -/
def regHostqStat : Reg := ⟨.hostq, 0x4, 1, 0, 1, 0, false, .live, [HOSTQ_STAT_NP_OUT, HOSTQ_STAT_NOBUF_CNT]⟩
def HOSTQ_EVT_NOTICE_LOST : Fld := ⟨.hostq, 0x8, 0, 0, 4, 1, .live, .w1c, 0, 0, 0⟩
def HOSTQ_EVT_FLR_RET : Fld := ⟨.hostq, 0x8, 0, 0, 3, 1, .live, .w1c, 0, 0, 0⟩
def HOSTQ_EVT_RING_ERR : Fld := ⟨.hostq, 0x8, 0, 0, 2, 1, .live, .w1c, 0, 0, 0⟩
def HOSTQ_EVT_MMIO_ERR : Fld := ⟨.hostq, 0x8, 0, 0, 1, 1, .live, .w1c, 0, 0, 0⟩
def HOSTQ_EVT_DENY : Fld := ⟨.hostq, 0x8, 0, 0, 0, 1, .live, .w1c, 0, 0, 0⟩
/-- `HOSTQ.EVT`. -/
def regHostqEvt : Reg := ⟨.hostq, 0x8, 1, 0, 1, 0, false, .live, [HOSTQ_EVT_NOTICE_LOST, HOSTQ_EVT_FLR_RET, HOSTQ_EVT_RING_ERR, HOSTQ_EVT_MMIO_ERR, HOSTQ_EVT_DENY]⟩
def HOSTQ_EVT_VEC_EN : Fld := ⟨.hostq, 0xC, 0, 0, 31, 1, .live, .rw, 0, 0, 0⟩
def HOSTQ_EVT_VEC_VEC : Fld := ⟨.hostq, 0xC, 0, 0, 0, 6, .live, .rw, 0, 0, 0⟩
/-- `HOSTQ.EVT_VEC`. -/
def regHostqEvtVec : Reg := ⟨.hostq, 0xC, 1, 0, 1, 0, false, .live, [HOSTQ_EVT_VEC_EN, HOSTQ_EVT_VEC_VEC]⟩
def HOSTQ_MMIO_ERR_STATUS : Fld := ⟨.hostq, 0x10, 0, 0, 56, 8, .live, .ro, 0, 0, 0⟩
def HOSTQ_MMIO_ERR_FUNC : Fld := ⟨.hostq, 0x10, 0, 0, 53, 3, .live, .ro, 0, 0, 0⟩
def HOSTQ_MMIO_ERR_WR : Fld := ⟨.hostq, 0x10, 0, 0, 52, 1, .live, .ro, 0, 0, 0⟩
def HOSTQ_MMIO_ERR_BAR : Fld := ⟨.hostq, 0x10, 0, 0, 50, 2, .live, .ro, 0, 0, 0⟩
def HOSTQ_MMIO_ERR_OFFSET : Fld := ⟨.hostq, 0x10, 0, 0, 0, 32, .live, .ro, 0, 0, 0⟩
/-- `HOSTQ.MMIO_ERR`. -/
def regHostqMmioErr : Reg := ⟨.hostq, 0x10, 1, 0, 1, 0, true, .live, [HOSTQ_MMIO_ERR_STATUS, HOSTQ_MMIO_ERR_FUNC, HOSTQ_MMIO_ERR_WR, HOSTQ_MMIO_ERR_BAR, HOSTQ_MMIO_ERR_OFFSET]⟩
def HOSTQ_FLR_RET_COUNT : Fld := ⟨.hostq, 0x18, 0, 0, 16, 16, .live, .rc, 0, 0, 0⟩
def HOSTQ_FLR_RET_FUNC : Fld := ⟨.hostq, 0x18, 0, 0, 0, 3, .live, .ro, 0, 0, 0⟩
/-- `HOSTQ.FLR_RET`. -/
def regHostqFlrRet : Reg := ⟨.hostq, 0x18, 1, 0, 1, 0, false, .live, [HOSTQ_FLR_RET_COUNT, HOSTQ_FLR_RET_FUNC]⟩
def HOSTQ_SQ_BASE_ADDR : Fld := ⟨.hostq, 0x1000, 64, 0, 6, 58, .live, .rw, 0, 0, 0⟩
/-- `HOSTQ.SQ_BASE[64]`. -/
def regHostqSqBase : Reg := ⟨.hostq, 0x1000, 64, 64, 1, 0, true, .live, [HOSTQ_SQ_BASE_ADDR]⟩
def HOSTQ_SQ_CFG_EN : Fld := ⟨.hostq, 0x1008, 64, 0, 31, 1, .live, .rw, 0, 0, 0⟩
def HOSTQ_SQ_CFG_FUNC : Fld := ⟨.hostq, 0x1008, 64, 0, 28, 3, .live, .rw, 0, 0, 0⟩
def HOSTQ_SQ_CFG_KIND : Fld := ⟨.hostq, 0x1008, 64, 0, 24, 4, .live, .rw, 0, 0, 0⟩
def HOSTQ_SQ_CFG_CQ : Fld := ⟨.hostq, 0x1008, 64, 0, 16, 6, .live, .rw, 0, 0, 0⟩
def HOSTQ_SQ_CFG_LOG2SIZE : Fld := ⟨.hostq, 0x1008, 64, 0, 0, 4, .live, .rw, 4, 4, 4⟩
/-- `HOSTQ.SQ_CFG[64]`. -/
def regHostqSqCfg : Reg := ⟨.hostq, 0x1008, 64, 64, 1, 0, false, .live, [HOSTQ_SQ_CFG_EN, HOSTQ_SQ_CFG_FUNC, HOSTQ_SQ_CFG_KIND, HOSTQ_SQ_CFG_CQ, HOSTQ_SQ_CFG_LOG2SIZE]⟩
def HOSTQ_SQ_STAT_STATE : Fld := ⟨.hostq, 0x100C, 64, 0, 30, 2, .live, .ro, 0, 0, 0⟩
def HOSTQ_SQ_STAT_ERR : Fld := ⟨.hostq, 0x100C, 64, 0, 20, 8, .live, .ro, 0, 0, 0⟩
def HOSTQ_SQ_STAT_HEAD : Fld := ⟨.hostq, 0x100C, 64, 0, 0, 12, .live, .ro, 0, 0, 0⟩
/-- `HOSTQ.SQ_STAT[64]`. -/
def regHostqSqStat : Reg := ⟨.hostq, 0x100C, 64, 64, 1, 0, false, .live, [HOSTQ_SQ_STAT_STATE, HOSTQ_SQ_STAT_ERR, HOSTQ_SQ_STAT_HEAD]⟩
def HOSTQ_CQ_BASE_ADDR : Fld := ⟨.hostq, 0x1010, 64, 0, 5, 59, .live, .rw, 0, 0, 0⟩
/-- `HOSTQ.CQ_BASE[64]`. -/
def regHostqCqBase : Reg := ⟨.hostq, 0x1010, 64, 64, 1, 0, true, .live, [HOSTQ_CQ_BASE_ADDR]⟩
def HOSTQ_CQ_CFG_EN : Fld := ⟨.hostq, 0x1018, 64, 0, 31, 1, .live, .rw, 0, 0, 0⟩
def HOSTQ_CQ_CFG_FUNC : Fld := ⟨.hostq, 0x1018, 64, 0, 28, 3, .live, .rw, 0, 0, 0⟩
def HOSTQ_CQ_CFG_VEC : Fld := ⟨.hostq, 0x1018, 64, 0, 16, 6, .live, .rw, 0, 0, 0⟩
def HOSTQ_CQ_CFG_IRQ_EN : Fld := ⟨.hostq, 0x1018, 64, 0, 15, 1, .live, .rw, 0, 0, 0⟩
def HOSTQ_CQ_CFG_LOG2SIZE : Fld := ⟨.hostq, 0x1018, 64, 0, 0, 4, .live, .rw, 4, 4, 4⟩
/-- `HOSTQ.CQ_CFG[64]`. -/
def regHostqCqCfg : Reg := ⟨.hostq, 0x1018, 64, 64, 1, 0, false, .live, [HOSTQ_CQ_CFG_EN, HOSTQ_CQ_CFG_FUNC, HOSTQ_CQ_CFG_VEC, HOSTQ_CQ_CFG_IRQ_EN, HOSTQ_CQ_CFG_LOG2SIZE]⟩
def HOSTQ_CQ_COAL_TIME : Fld := ⟨.hostq, 0x101C, 64, 0, 16, 16, .live, .rw, 0, 0, 0⟩
def HOSTQ_CQ_COAL_COUNT : Fld := ⟨.hostq, 0x101C, 64, 0, 0, 16, .live, .rw, 1, 1, 1⟩
/-- `HOSTQ.CQ_COAL[64]`. -/
def regHostqCqCoal : Reg := ⟨.hostq, 0x101C, 64, 64, 1, 0, false, .live, [HOSTQ_CQ_COAL_TIME, HOSTQ_CQ_COAL_COUNT]⟩
def HOSTQ_CQ_STAT_LOST_CNT : Fld := ⟨.hostq, 0x1020, 64, 0, 24, 8, .live, .rc, 0, 0, 0⟩
def HOSTQ_CQ_STAT_HELD : Fld := ⟨.hostq, 0x1020, 64, 0, 16, 8, .live, .ro, 0, 0, 0⟩
def HOSTQ_CQ_STAT_TAIL : Fld := ⟨.hostq, 0x1020, 64, 0, 0, 12, .live, .ro, 0, 0, 0⟩
/-- `HOSTQ.CQ_STAT[64]`. -/
def regHostqCqStat : Reg := ⟨.hostq, 0x1020, 64, 64, 1, 0, false, .live, [HOSTQ_CQ_STAT_LOST_CNT, HOSTQ_CQ_STAT_HELD, HOSTQ_CQ_STAT_TAIL]⟩
def HOSTQ_SQ_DB_INDEX : Fld := ⟨.hostq, 0x8000, 8, 0, 0, 12, .live, .wo, 0, 0, 0⟩
/-- `HOSTQ.SQ_DB[64]`. -/
def regHostqSqDb : Reg := ⟨.hostq, 0x8000, 64, 8, 1, 0, false, .live, [HOSTQ_SQ_DB_INDEX]⟩
def HOSTQ_CQ_DB_INDEX : Fld := ⟨.hostq, 0x8004, 8, 0, 0, 12, .live, .wo, 0, 0, 0⟩
/-- `HOSTQ.CQ_DB[64]`. -/
def regHostqCqDb : Reg := ⟨.hostq, 0x8004, 64, 8, 1, 0, false, .live, [HOSTQ_CQ_DB_INDEX]⟩
/-- The registers of block HOSTQ. -/
def regsHostq : List Reg :=
  [regHostqCtl, regHostqStat, regHostqEvt, regHostqEvtVec, regHostqMmioErr, regHostqFlrRet, regHostqSqBase, regHostqSqCfg, regHostqSqStat, regHostqCqBase, regHostqCqCfg, regHostqCqCoal] ++
  [regHostqCqStat, regHostqSqDb, regHostqCqDb]

/-! Block TOLLGATE (16_host_tollgate R407). -/
def TOLLGATE_CTL_VIEW : Fld := ⟨.tollgate, 0x0, 0, 0, 31, 1, .live, .rw, 0, 0, 0⟩
/-- `TOLLGATE.CTL`. -/
def regTollgateCtl : Reg := ⟨.tollgate, 0x0, 1, 0, 1, 0, false, .live, [TOLLGATE_CTL_VIEW]⟩
def TOLLGATE_CHK_STAT_CODE : Fld := ⟨.tollgate, 0x4, 0, 0, 24, 8, .live, .ro, 0, 0, 0⟩
def TOLLGATE_CHK_STAT_TARGET : Fld := ⟨.tollgate, 0x4, 0, 0, 19, 5, .live, .ro, 0, 0, 0⟩
def TOLLGATE_CHK_STAT_ENTRY : Fld := ⟨.tollgate, 0x4, 0, 0, 15, 4, .live, .ro, 0, 0, 0⟩
/-- `TOLLGATE.CHK_STAT`. -/
def regTollgateChkStat : Reg := ⟨.tollgate, 0x4, 1, 0, 1, 0, false, .live, [TOLLGATE_CHK_STAT_CODE, TOLLGATE_CHK_STAT_TARGET, TOLLGATE_CHK_STAT_ENTRY]⟩
def TOLLGATE_DENY_STAT_LOST_CNT : Fld := ⟨.tollgate, 0x8, 0, 0, 16, 16, .live, .rc, 0, 0, 0⟩
def TOLLGATE_DENY_STAT_HELD : Fld := ⟨.tollgate, 0x8, 0, 0, 0, 5, .live, .ro, 0, 0, 0⟩
/-- `TOLLGATE.DENY_STAT`. -/
def regTollgateDenyStat : Reg := ⟨.tollgate, 0x8, 1, 0, 1, 0, false, .live, [TOLLGATE_DENY_STAT_LOST_CNT, TOLLGATE_DENY_STAT_HELD]⟩
def TOLLGATE_TG_ATTR_EN : Fld := ⟨.tollgate, 0x1000, 256, 16, 31, 1, .set, .rw, 0, 0, 0⟩
def TOLLGATE_TG_ATTR_MASTER : Fld := ⟨.tollgate, 0x1000, 256, 16, 24, 4, .set, .rw, 0, 0, 0⟩
def TOLLGATE_TG_ATTR_R : Fld := ⟨.tollgate, 0x1000, 256, 16, 2, 1, .set, .rw, 0, 0, 0⟩
def TOLLGATE_TG_ATTR_W : Fld := ⟨.tollgate, 0x1000, 256, 16, 1, 1, .set, .rw, 0, 0, 0⟩
def TOLLGATE_TG_ATTR_X : Fld := ⟨.tollgate, 0x1000, 256, 16, 0, 1, .set, .rw, 0, 0, 0⟩
/-- `TOLLGATE.TG_ATTR[20][16]`. -/
def regTollgateTgAttr : Reg := ⟨.tollgate, 0x1000, 20, 256, 16, 16, false, .set, [TOLLGATE_TG_ATTR_EN, TOLLGATE_TG_ATTR_MASTER, TOLLGATE_TG_ATTR_R, TOLLGATE_TG_ATTR_W, TOLLGATE_TG_ATTR_X]⟩
def TOLLGATE_TG_BASE_V : Fld := ⟨.tollgate, 0x1004, 256, 16, 0, 32, .set, .rw, 0, 0, 0⟩
/-- `TOLLGATE.TG_BASE[20][16]`. -/
def regTollgateTgBase : Reg := ⟨.tollgate, 0x1004, 20, 256, 16, 16, false, .set, [TOLLGATE_TG_BASE_V]⟩
def TOLLGATE_TG_LIMIT_V : Fld := ⟨.tollgate, 0x1008, 256, 16, 0, 32, .set, .rw, 0, 0, 0⟩
/-- `TOLLGATE.TG_LIMIT[20][16]`. -/
def regTollgateTgLimit : Reg := ⟨.tollgate, 0x1008, 20, 256, 16, 16, false, .set, [TOLLGATE_TG_LIMIT_V]⟩
/-- The registers of block TOLLGATE. -/
def regsTollgate : List Reg :=
  [regTollgateCtl, regTollgateChkStat, regTollgateDenyStat, regTollgateTgAttr, regTollgateTgBase, regTollgateTgLimit]

/-! Block SECURE (17_security R420). -/
def SECURE_LC_STATE : Fld := ⟨.secure, 0x0, 0, 0, 28, 4, .live, .ro, 0, 0, 0⟩
def SECURE_LC_SLOT_USED : Fld := ⟨.secure, 0x0, 0, 0, 24, 4, .live, .ro, 0, 0, 0⟩
def SECURE_LC_SLOT_REV : Fld := ⟨.secure, 0x0, 0, 0, 20, 4, .live, .ro, 0, 0, 0⟩
def SECURE_LC_SVN : Fld := ⟨.secure, 0x0, 0, 0, 14, 6, .live, .ro, 0, 0, 0⟩
/-- `SECURE.LC`. -/
def regSecureLc : Reg := ⟨.secure, 0x0, 1, 0, 1, 0, false, .live, [SECURE_LC_STATE, SECURE_LC_SLOT_USED, SECURE_LC_SLOT_REV, SECURE_LC_SVN]⟩
def SECURE_STAT_BUSY : Fld := ⟨.secure, 0x4, 0, 0, 31, 1, .live, .ro, 0, 0, 0⟩
def SECURE_STAT_QDONE : Fld := ⟨.secure, 0x4, 0, 0, 30, 1, .live, .w1c, 0, 0, 0⟩
def SECURE_STAT_RNG_FAIL : Fld := ⟨.secure, 0x4, 0, 0, 29, 1, .live, .ro, 0, 0, 0⟩
def SECURE_STAT_ID_READY : Fld := ⟨.secure, 0x4, 0, 0, 28, 1, .live, .ro, 0, 0, 0⟩
def SECURE_STAT_RECOVERY : Fld := ⟨.secure, 0x4, 0, 0, 27, 1, .live, .ro, 0, 0, 0⟩
def SECURE_STAT_OWNER_OK : Fld := ⟨.secure, 0x4, 0, 0, 26, 1, .live, .ro, 0, 0, 0⟩
def SECURE_STAT_BOOT_SLOT : Fld := ⟨.secure, 0x4, 0, 0, 24, 2, .live, .ro, 0, 0, 0⟩
def SECURE_STAT_QSTATUS : Fld := ⟨.secure, 0x4, 0, 0, 16, 8, .live, .ro, 0, 0, 0⟩
def SECURE_STAT_LC_STATUS : Fld := ⟨.secure, 0x4, 0, 0, 8, 8, .live, .ro, 0, 0, 0⟩
/-- `SECURE.STAT`. -/
def regSecureStat : Reg := ⟨.secure, 0x4, 1, 0, 1, 0, false, .live, [SECURE_STAT_BUSY, SECURE_STAT_QDONE, SECURE_STAT_RNG_FAIL, SECURE_STAT_ID_READY, SECURE_STAT_RECOVERY, SECURE_STAT_OWNER_OK, SECURE_STAT_BOOT_SLOT, SECURE_STAT_QSTATUS, SECURE_STAT_LC_STATUS]⟩
def SECURE_ID_FP_FP : Fld := ⟨.secure, 0x8, 0, 0, 0, 32, .live, .ro, 0, 0, 0⟩
/-- `SECURE.ID_FP`. -/
def regSecureIdFp : Reg := ⟨.secure, 0x8, 1, 0, 1, 0, false, .live, [SECURE_ID_FP_FP]⟩
def SECURE_RNG_VALUE : Fld := ⟨.secure, 0xC, 0, 0, 0, 32, .live, .ro, 0, 0, 0⟩
/-- `SECURE.RNG`. -/
def regSecureRng : Reg := ⟨.secure, 0xC, 1, 0, 1, 0, false, .live, [SECURE_RNG_VALUE]⟩
def SECURE_CMD_OP : Fld := ⟨.secure, 0x10, 0, 0, 28, 4, .live, .wo, 0, 0, 0⟩
def SECURE_CMD_IDX : Fld := ⟨.secure, 0x10, 0, 0, 0, 3, .live, .wo, 0, 0, 0⟩
/-- `SECURE.CMD`. -/
def regSecureCmd : Reg := ⟨.secure, 0x10, 1, 0, 1, 0, false, .live, [SECURE_CMD_OP, SECURE_CMD_IDX]⟩
def SECURE_CHK_STAT_CODE : Fld := ⟨.secure, 0x880, 0, 0, 24, 8, .live, .ro, 0, 0, 0⟩
/-- `SECURE.CHK_STAT`. -/
def regSecureChkStat : Reg := ⟨.secure, 0x880, 1, 0, 1, 0, false, .live, [SECURE_CHK_STAT_CODE]⟩
def SECURE_CELL_ATT_RESULT : Fld := ⟨.secure, 0x1000, 4, 0, 24, 8, .live, .rw, 0, 0, 0⟩
def SECURE_CELL_ATT_SEC : Fld := ⟨.secure, 0x1000, 4, 0, 0, 24, .live, .rw, 0, 0, 0⟩
/-- `SECURE.CELL_ATT[6144]`. -/
def regSecureCellAtt : Reg := ⟨.secure, 0x1000, 6144, 4, 1, 0, false, .live, [SECURE_CELL_ATT_RESULT, SECURE_CELL_ATT_SEC]⟩
def SECURE_CHAL_V : Fld := ⟨.secure, 0x20, 4, 0, 0, 32, .live, .ro, 0, 0, 0⟩
/-- `SECURE.CHAL[8]`. -/
def regSecureChal : Reg := ⟨.secure, 0x20, 8, 4, 1, 0, false, .live, [SECURE_CHAL_V]⟩
def SECURE_NONCE_V : Fld := ⟨.secure, 0x40, 4, 0, 0, 32, .live, .rw, 0, 0, 0⟩
/-- `SECURE.NONCE[8]`. -/
def regSecureNonce : Reg := ⟨.secure, 0x40, 8, 4, 1, 0, false, .live, [SECURE_NONCE_V]⟩
def SECURE_QNS_V : Fld := ⟨.secure, 0x60, 0, 0, 0, 32, .live, .ro, 0, 0, 0⟩
/-- `SECURE.QNS`. -/
def regSecureQns : Reg := ⟨.secure, 0x60, 1, 0, 1, 0, false, .live, [SECURE_QNS_V]⟩
def SECURE_SIG_V : Fld := ⟨.secure, 0x80, 4, 0, 0, 32, .live, .ro, 0, 0, 0⟩
/-- `SECURE.SIG[16]`. -/
def regSecureSig : Reg := ⟨.secure, 0x80, 16, 4, 1, 0, false, .live, [SECURE_SIG_V]⟩
def SECURE_EXTEND_V : Fld := ⟨.secure, 0xC0, 4, 0, 0, 32, .live, .rw, 0, 0, 0⟩
/-- `SECURE.EXTEND[8]`. -/
def regSecureExtend : Reg := ⟨.secure, 0xC0, 8, 4, 1, 0, false, .live, [SECURE_EXTEND_V]⟩
def SECURE_ID_PUB_V : Fld := ⟨.secure, 0x200, 4, 0, 0, 32, .live, .ro, 0, 0, 0⟩
/-- `SECURE.ID_PUB[16]`. -/
def regSecureIdPub : Reg := ⟨.secure, 0x200, 16, 4, 1, 0, false, .live, [SECURE_ID_PUB_V]⟩
def SECURE_CERT_LEN_V : Fld := ⟨.secure, 0x240, 0, 0, 0, 32, .live, .ro, 0, 0, 0⟩
/-- `SECURE.CERT_LEN`. -/
def regSecureCertLen : Reg := ⟨.secure, 0x240, 1, 0, 1, 0, false, .live, [SECURE_CERT_LEN_V]⟩
def SECURE_CERT_V : Fld := ⟨.secure, 0x400, 4, 0, 0, 32, .live, .ro, 0, 0, 0⟩
/-- `SECURE.CERT[256]`. -/
def regSecureCert : Reg := ⟨.secure, 0x400, 256, 4, 1, 0, false, .live, [SECURE_CERT_V]⟩
def SECURE_SET_SIG_V : Fld := ⟨.secure, 0x800, 4, 0, 0, 32, .set, .rw, 0, 0, 0⟩
/-- `SECURE.SET_SIG[16]`. -/
def regSecureSetSig : Reg := ⟨.secure, 0x800, 16, 4, 1, 0, false, .set, [SECURE_SET_SIG_V]⟩
def SECURE_PROG_SIG_V : Fld := ⟨.secure, 0x840, 4, 0, 0, 32, .set, .rw, 0, 0, 0⟩
/-- `SECURE.PROG_SIG[16]`. -/
def regSecureProgSig : Reg := ⟨.secure, 0x840, 16, 4, 1, 0, false, .set, [SECURE_PROG_SIG_V]⟩
def SECURE_QSEC_V : Fld := ⟨.secure, 0x68, 0, 0, 0, 48, .live, .ro, 0, 0, 0⟩
/-- `SECURE.QSEC`. -/
def regSecureQsec : Reg := ⟨.secure, 0x68, 1, 0, 1, 0, true, .live, [SECURE_QSEC_V]⟩
def SECURE_MEAS_V : Fld := ⟨.secure, 0x100, 32, 4, 0, 32, .live, .ro, 0, 0, 0⟩
/-- `SECURE.MEAS[8][8]`. -/
def regSecureMeas : Reg := ⟨.secure, 0x100, 8, 32, 8, 4, false, .live, [SECURE_MEAS_V]⟩
/-- The registers of block SECURE. -/
def regsSecure : List Reg :=
  [regSecureLc, regSecureStat, regSecureIdFp, regSecureRng, regSecureCmd, regSecureChkStat, regSecureCellAtt, regSecureChal, regSecureNonce, regSecureQns, regSecureSig, regSecureExtend] ++
  [regSecureIdPub, regSecureCertLen, regSecureCert, regSecureSetSig, regSecureProgSig, regSecureQsec, regSecureMeas]

/-! Block CAN (18_can_utility R431). -/
def CAN_CFG_EN : Fld := ⟨.can, 0x0, 64, 0, 31, 1, .live, .rw, 0, 0, 0⟩
def CAN_CFG_MODE : Fld := ⟨.can, 0x0, 64, 0, 29, 2, .live, .rw, 0, 0, 0⟩
def CAN_CFG_FD : Fld := ⟨.can, 0x0, 64, 0, 28, 1, .live, .rw, 1, 1, 1⟩
def CAN_CFG_AUTO_REC : Fld := ⟨.can, 0x0, 64, 0, 27, 1, .live, .rw, 1, 1, 1⟩
def CAN_CFG_RX_OWN : Fld := ⟨.can, 0x0, 64, 0, 26, 1, .live, .rw, 0, 0, 0⟩
def CAN_CFG_TDC_EN : Fld := ⟨.can, 0x0, 64, 0, 25, 1, .live, .rw, 1, 1, 1⟩
def CAN_CFG_TDC_OFS : Fld := ⟨.can, 0x0, 64, 0, 16, 7, .live, .rw, 0, 0, 0⟩
/-- `CAN.CFG[2]`. -/
def regCanCfg : Reg := ⟨.can, 0x0, 2, 64, 1, 0, false, .live, [CAN_CFG_EN, CAN_CFG_MODE, CAN_CFG_FD, CAN_CFG_AUTO_REC, CAN_CFG_RX_OWN, CAN_CFG_TDC_EN, CAN_CFG_TDC_OFS]⟩
def CAN_NBT_BRP : Fld := ⟨.can, 0x4, 64, 0, 24, 8, .live, .rw, 0, 0, 0⟩
def CAN_NBT_SJW : Fld := ⟨.can, 0x4, 64, 0, 16, 7, .live, .rw, 0, 0, 0⟩
def CAN_NBT_TSEG1 : Fld := ⟨.can, 0x4, 64, 0, 8, 8, .live, .rw, 0, 0, 0⟩
def CAN_NBT_TSEG2 : Fld := ⟨.can, 0x4, 64, 0, 0, 7, .live, .rw, 0, 0, 0⟩
/-- `CAN.NBT[2]`. -/
def regCanNbt : Reg := ⟨.can, 0x4, 2, 64, 1, 0, false, .live, [CAN_NBT_BRP, CAN_NBT_SJW, CAN_NBT_TSEG1, CAN_NBT_TSEG2]⟩
def CAN_DBT_BRP : Fld := ⟨.can, 0x8, 64, 0, 24, 8, .live, .rw, 0, 0, 0⟩
def CAN_DBT_SJW : Fld := ⟨.can, 0x8, 64, 0, 16, 7, .live, .rw, 0, 0, 0⟩
def CAN_DBT_TSEG1 : Fld := ⟨.can, 0x8, 64, 0, 8, 8, .live, .rw, 0, 0, 0⟩
def CAN_DBT_TSEG2 : Fld := ⟨.can, 0x8, 64, 0, 0, 7, .live, .rw, 0, 0, 0⟩
/-- `CAN.DBT[2]`. -/
def regCanDbt : Reg := ⟨.can, 0x8, 2, 64, 1, 0, false, .live, [CAN_DBT_BRP, CAN_DBT_SJW, CAN_DBT_TSEG1, CAN_DBT_TSEG2]⟩
def CAN_STAT_STATE : Fld := ⟨.can, 0xC, 64, 0, 30, 2, .live, .ro, 0, 0, 0⟩
def CAN_STAT_LONE_NODE : Fld := ⟨.can, 0xC, 64, 0, 29, 1, .live, .ro, 0, 0, 0⟩
def CAN_STAT_ACK_RUN : Fld := ⟨.can, 0xC, 64, 0, 24, 5, .live, .ro, 0, 0, 0⟩
def CAN_STAT_LEC : Fld := ⟨.can, 0xC, 64, 0, 20, 4, .live, .ro, 0, 0, 0⟩
def CAN_STAT_PEND : Fld := ⟨.can, 0xC, 64, 0, 8, 4, .live, .ro, 0, 0, 0⟩
def CAN_STAT_EPOCH : Fld := ⟨.can, 0xC, 64, 0, 0, 4, .live, .ro, 0, 0, 0⟩
/-- `CAN.STAT[2]`. -/
def regCanStat : Reg := ⟨.can, 0xC, 2, 64, 1, 0, false, .live, [CAN_STAT_STATE, CAN_STAT_LONE_NODE, CAN_STAT_ACK_RUN, CAN_STAT_LEC, CAN_STAT_PEND, CAN_STAT_EPOCH]⟩
def CAN_ERR_TEC : Fld := ⟨.can, 0x10, 64, 0, 16, 9, .live, .ro, 0, 0, 0⟩
def CAN_ERR_REC : Fld := ⟨.can, 0x10, 64, 0, 0, 8, .live, .ro, 0, 0, 0⟩
/-- `CAN.ERR[2]`. -/
def regCanErr : Reg := ⟨.can, 0x10, 2, 64, 1, 0, false, .live, [CAN_ERR_TEC, CAN_ERR_REC]⟩
def CAN_EVT_RX_LOST : Fld := ⟨.can, 0x14, 64, 0, 5, 1, .live, .w1c, 0, 0, 0⟩
def CAN_EVT_CANCEL_LATE : Fld := ⟨.can, 0x14, 64, 0, 4, 1, .live, .w1c, 0, 0, 0⟩
def CAN_EVT_PROT_EXC : Fld := ⟨.can, 0x14, 64, 0, 3, 1, .live, .w1c, 0, 0, 0⟩
def CAN_EVT_RECOVERED : Fld := ⟨.can, 0x14, 64, 0, 2, 1, .live, .w1c, 0, 0, 0⟩
def CAN_EVT_BUS_OFF : Fld := ⟨.can, 0x14, 64, 0, 1, 1, .live, .w1c, 0, 0, 0⟩
def CAN_EVT_PASSIVE : Fld := ⟨.can, 0x14, 64, 0, 0, 1, .live, .w1c, 0, 0, 0⟩
/-- `CAN.EVT[2]`. -/
def regCanEvt : Reg := ⟨.can, 0x14, 2, 64, 1, 0, false, .live, [CAN_EVT_RX_LOST, CAN_EVT_CANCEL_LATE, CAN_EVT_PROT_EXC, CAN_EVT_RECOVERED, CAN_EVT_BUS_OFF, CAN_EVT_PASSIVE]⟩
def CAN_CNT_RX_OK : Fld := ⟨.can, 0x18, 64, 0, 48, 16, .live, .rc, 0, 0, 0⟩
def CAN_CNT_TX_OK : Fld := ⟨.can, 0x18, 64, 0, 32, 16, .live, .rc, 0, 0, 0⟩
def CAN_CNT_ERR_FR : Fld := ⟨.can, 0x18, 64, 0, 16, 16, .live, .rc, 0, 0, 0⟩
def CAN_CNT_LOST_CNT : Fld := ⟨.can, 0x18, 64, 0, 0, 16, .live, .rc, 0, 0, 0⟩
/-- `CAN.CNT[2]`. -/
def regCanCnt : Reg := ⟨.can, 0x18, 2, 64, 1, 0, true, .live, [CAN_CNT_RX_OK, CAN_CNT_TX_OK, CAN_CNT_ERR_FR, CAN_CNT_LOST_CNT]⟩
def CAN_CMD_OP : Fld := ⟨.can, 0x20, 64, 0, 28, 4, .live, .wo, 0, 0, 0⟩
/-- `CAN.CMD[2]`. -/
def regCanCmd : Reg := ⟨.can, 0x20, 2, 64, 1, 0, false, .live, [CAN_CMD_OP]⟩
def CAN_TXB_ID_V : Fld := ⟨.can, 0x200, 256, 0, 0, 32, .live, .rw, 0, 0, 0⟩
/-- `CAN.TXB_ID[2]`. -/
def regCanTxbId : Reg := ⟨.can, 0x200, 2, 256, 1, 0, false, .live, [CAN_TXB_ID_V]⟩
def CAN_TXB_CTL_BRS : Fld := ⟨.can, 0x204, 256, 0, 4, 1, .live, .rw, 0, 0, 0⟩
def CAN_TXB_CTL_DLC : Fld := ⟨.can, 0x204, 256, 0, 0, 4, .live, .rw, 0, 0, 0⟩
/-- `CAN.TXB_CTL[2]`. -/
def regCanTxbCtl : Reg := ⟨.can, 0x204, 2, 256, 1, 0, false, .live, [CAN_TXB_CTL_BRS, CAN_TXB_CTL_DLC]⟩
def CAN_TXB_STAT_STATUS : Fld := ⟨.can, 0x208, 256, 0, 24, 8, .live, .ro, 0, 0, 0⟩
def CAN_TXB_STAT_OUTCOME : Fld := ⟨.can, 0x208, 256, 0, 16, 8, .live, .ro, 0, 0, 0⟩
def CAN_TXB_STAT_PENDING : Fld := ⟨.can, 0x208, 256, 0, 15, 1, .live, .ro, 0, 0, 0⟩
/-- `CAN.TXB_STAT[2]`. -/
def regCanTxbStat : Reg := ⟨.can, 0x208, 2, 256, 1, 0, false, .live, [CAN_TXB_STAT_STATUS, CAN_TXB_STAT_OUTCOME, CAN_TXB_STAT_PENDING]⟩
def CAN_TXB_DATA_V : Fld := ⟨.can, 0x210, 256, 4, 0, 32, .live, .rw, 0, 0, 0⟩
/-- `CAN.TXB_DATA[2][16]`. -/
def regCanTxbData : Reg := ⟨.can, 0x210, 2, 256, 16, 4, false, .live, [CAN_TXB_DATA_V]⟩
def CAN_RXF_ID_V : Fld := ⟨.can, 0x280, 256, 0, 0, 32, .live, .ro, 0, 0, 0⟩
/-- `CAN.RXF_ID[2]`. -/
def regCanRxfId : Reg := ⟨.can, 0x280, 2, 256, 1, 0, false, .live, [CAN_RXF_ID_V]⟩
def CAN_RXF_CTL_VALID : Fld := ⟨.can, 0x284, 256, 0, 31, 1, .live, .ro, 0, 0, 0⟩
def CAN_RXF_CTL_HELD : Fld := ⟨.can, 0x284, 256, 0, 16, 5, .live, .ro, 0, 0, 0⟩
def CAN_RXF_CTL_LEN : Fld := ⟨.can, 0x284, 256, 0, 8, 8, .live, .ro, 0, 0, 0⟩
def CAN_RXF_CTL_B23 : Fld := ⟨.can, 0x284, 256, 0, 0, 7, .live, .ro, 0, 0, 0⟩
/-- `CAN.RXF_CTL[2]`. -/
def regCanRxfCtl : Reg := ⟨.can, 0x284, 2, 256, 1, 0, false, .live, [CAN_RXF_CTL_VALID, CAN_RXF_CTL_HELD, CAN_RXF_CTL_LEN, CAN_RXF_CTL_B23]⟩
def CAN_RXF_TIME_SEC : Fld := ⟨.can, 0x288, 256, 0, 48, 16, .live, .ro, 0, 0, 0⟩
def CAN_RXF_TIME_SUB : Fld := ⟨.can, 0x288, 256, 0, 32, 6, .live, .ro, 0, 0, 0⟩
def CAN_RXF_TIME_NS : Fld := ⟨.can, 0x288, 256, 0, 0, 32, .live, .ro, 0, 0, 0⟩
/-- `CAN.RXF_TIME[2]`. -/
def regCanRxfTime : Reg := ⟨.can, 0x288, 2, 256, 1, 0, true, .live, [CAN_RXF_TIME_SEC, CAN_RXF_TIME_SUB, CAN_RXF_TIME_NS]⟩
def CAN_RXF_SEC_SEC : Fld := ⟨.can, 0x290, 256, 0, 0, 48, .live, .ro, 0, 0, 0⟩
/-- `CAN.RXF_SEC[2]`. -/
def regCanRxfSec : Reg := ⟨.can, 0x290, 2, 256, 1, 0, true, .live, [CAN_RXF_SEC_SEC]⟩
def CAN_RXF_DATA_V : Fld := ⟨.can, 0x2C0, 256, 4, 0, 32, .live, .ro, 0, 0, 0⟩
/-- `CAN.RXF_DATA[2][16]`. -/
def regCanRxfData : Reg := ⟨.can, 0x2C0, 2, 256, 16, 4, false, .live, [CAN_RXF_DATA_V]⟩
/-- The registers of block CAN. -/
def regsCan : List Reg :=
  [regCanCfg, regCanNbt, regCanDbt, regCanStat, regCanErr, regCanEvt, regCanCnt, regCanCmd, regCanTxbId, regCanTxbCtl, regCanTxbStat, regCanTxbData] ++
  [regCanRxfId, regCanRxfCtl, regCanRxfTime, regCanRxfSec, regCanRxfData]

/-! Block DEBUG (19_clocks_power_reset R445). -/
def DEBUG_CMD_OP : Fld := ⟨.debug, 0x0, 0, 0, 28, 4, .live, .wo, 0, 0, 0⟩
def DEBUG_CMD_KEY : Fld := ⟨.debug, 0x0, 0, 0, 0, 16, .live, .wo, 0, 0, 0⟩
/-- `DEBUG.CMD`. -/
def regDebugCmd : Reg := ⟨.debug, 0x0, 1, 0, 1, 0, false, .live, [DEBUG_CMD_OP, DEBUG_CMD_KEY]⟩
def DEBUG_STAT_HALTED : Fld := ⟨.debug, 0x4, 0, 0, 31, 1, .live, .ro, 0, 0, 0⟩
def DEBUG_STAT_TAP_ACTIVE : Fld := ⟨.debug, 0x4, 0, 0, 30, 1, .live, .ro, 0, 0, 0⟩
def DEBUG_STAT_EXTEST : Fld := ⟨.debug, 0x4, 0, 0, 29, 1, .live, .ro, 0, 0, 0⟩
def DEBUG_STAT_LAST : Fld := ⟨.debug, 0x4, 0, 0, 0, 8, .live, .ro, 0, 0, 0⟩
/-- `DEBUG.STAT`. -/
def regDebugStat : Reg := ⟨.debug, 0x4, 1, 0, 1, 0, false, .live, [DEBUG_STAT_HALTED, DEBUG_STAT_TAP_ACTIVE, DEBUG_STAT_EXTEST, DEBUG_STAT_LAST]⟩
def DEBUG_IDCODE_IDCODE : Fld := ⟨.debug, 0x8, 0, 0, 0, 32, .live, .ro, 0, 0, 0⟩
/-- `DEBUG.IDCODE`. -/
def regDebugIdcode : Reg := ⟨.debug, 0x8, 1, 0, 1, 0, false, .live, [DEBUG_IDCODE_IDCODE]⟩
/-- The registers of block DEBUG. -/
def regsDebug : List Reg :=
  [regDebugCmd, regDebugStat, regDebugIdcode]

end Sys2Proof.Machine.F
end

