-- ==== Sys2Proof/Machine/Ops.lean ====
section
/-! DEFINITION. The named operations over the registers of the device: reading and writing a field by its name, in the
copy that applies, and the words that registers make up. -/

namespace Sys2Proof.Machine

/-- The register file of a block. -/
def Dev.regsOf (s : Dev) : Blk → Tab Nat
  | .global => s.glob.regs
  | .tollgate => s.toll.regs
  | .hostq => s.hostq.regs
  | .secure => s.sec.regs
  | .time => s.time.regs
  | .eth => s.eth.regs
  | .trunk => s.lanes.trunk
  | .leaf => s.lanes.leaf
  | .loom => s.loom.regs
  | .spindle => s.spin.regs
  | .gate => s.gate.regs
  | .adc => s.adc.regs
  | .angle => s.ang.regs
  | .reel => s.reel.regs
  | .can => s.can.regs
  | .safety => s.safe.regs
  | .pair => s.pair.regs
  | .debug => s.dbg.regs

/-- Replace the register file of a block. -/
def Dev.setRegs (s : Dev) (t : Tab Nat) : Blk → Dev
  | .global => { s with glob := { s.glob with regs := t } }
  | .tollgate => { s with toll := { s.toll with regs := t } }
  | .hostq => { s with hostq := { s.hostq with regs := t } }
  | .secure => { s with sec := { s.sec with regs := t } }
  | .time => { s with time := { s.time with regs := t } }
  | .eth => { s with eth := { s.eth with regs := t } }
  | .trunk => { s with lanes := { s.lanes with trunk := t } }
  | .leaf => { s with lanes := { s.lanes with leaf := t } }
  | .loom => { s with loom := { s.loom with regs := t } }
  | .spindle => { s with spin := { s.spin with regs := t } }
  | .gate => { s with gate := { s.gate with regs := t } }
  | .adc => { s with adc := { s.adc with regs := t } }
  | .angle => { s with ang := { s.ang with regs := t } }
  | .reel => { s with reel := { s.reel with regs := t } }
  | .can => { s with can := { s.can with regs := t } }
  | .safety => { s with safe := { s.safe with regs := t } }
  | .pair => { s with pair := { s.pair with regs := t } }
  | .debug => { s with dbg := { s.dbg with regs := t } }

/-- A field in one of the copies of its register. -/
def Dev.fb (s : Dev) (F : Fld) (bank : Nat) (i j : Nat := 0) : Nat :=
  Tab.get (F.reset s.role) (s.regsOf F.blk) (F.key bank i j)

/-- Write a field in one of the copies of its register. -/
def Dev.putb (s : Dev) (F : Fld) (bank : Nat) (v : Nat) (i j : Nat := 0) : Dev :=
  s.setRegs (Tab.set (F.reset s.role) (s.regsOf F.blk) (F.key bank i j) (v % 2 ^ F.w)) F.blk

/-- A field: the copy that a write reaches (copy 0). -/
def Dev.f (s : Dev) (F : Fld) (i j : Nat := 0) : Nat := s.fb F 0 i j

/-- The field is not 0. -/
def Dev.flag (s : Dev) (F : Fld) (i j : Nat := 0) : Bool := decide (s.f F i j ≠ 0)

/-- A field as a signed number. -/
def Dev.fS (s : Dev) (F : Fld) (i j : Nat := 0) : Int := sgn F.w (s.f F i j)

/-- Write a field. -/
def Dev.put (s : Dev) (F : Fld) (v : Nat) (i j : Nat := 0) : Dev := s.putb F 0 v i j

/-- CORE cycles since FRC 0: 1 ns, in the CELL 4 ns (R4; log entry 85). -/
def Dev.coreCycle (s : Dev) : Nat :=
  if s.role = .cell then (s.time.frc * 5 + s.time.fifth) / 4 else s.time.frc * 5 + s.time.fifth

/-- The place of a field among the events. -/
def Fld.place (F : Fld) (i j : Nat) : Nat := F.blk.num * 2 ^ 40 + F.key 0 i j

/-- What the events of this CORE cycle did to a field, if there were any (R4). -/
def Dev.fresh (s : Dev) (F : Fld) (i j : Nat := 0) : Option Fresh :=
  if s.events.cyc = s.coreCycle then s.events.l.find? fun x => decide (x.key = F.place i j) else none

/-- An event of this cycle in a W1C or RC field, which does `g` to it, is noted (R4). -/
def Dev.noted (s : Dev) (F : Fld) (g : Nat → Nat) (i j : Nat := 0) : Events :=
  if F.acc = .w1c ∨ F.acc = .rc then
    let x := (s.fresh F i j).getD ⟨F.place i j, s.f F i j, 0⟩
    let l := if s.events.cyc = s.coreCycle then s.events.l.filter fun y => decide (y.key ≠ x.key) else []
    ⟨s.coreCycle, { x with ev := g x.ev } :: l⟩
  else s.events

/-- Hardware does `g` to a field: an event where the field is W1C or RC (R4). -/
def Dev.befall (s : Dev) (F : Fld) (g : Nat → Nat) (i j : Nat := 0) : Dev :=
  { s.put F (g (s.f F i j)) i j with events := s.noted F g i j }

/-- The W1C bits of a field that events of this CORE cycle have set, which a write of 1 does not clear (R4). -/
def Dev.freshBits (s : Dev) (F : Fld) (i j : Nat) : Nat := match s.fresh F i j with | some e => e.ev | none => 0

/-- A write of a W1C field: each 1 clears its bit, but a bit that an event of the same cycle has set stays (R4). -/
def Dev.writeW1c (s : Dev) (F : Fld) (bank v : Nat) (i j : Nat := 0) : Dev :=
  let cur := s.fb F bank i j
  s.putb F bank (Nat.lor (cur - Nat.land cur (v % 2 ^ F.w)) (Nat.land cur (s.freshBits F i j))) i j

/-- Set a one-bit field. -/
def Dev.raise (s : Dev) (F : Fld) (i j : Nat := 0) : Dev := s.befall F (fun _ => 1) i j

/-- Add to a counter that saturates. -/
def Dev.inc (s : Dev) (F : Fld) (n : Nat) (i j : Nat := 0) : Dev := s.befall F (fun x => satAdd F.w x n) i j

/-- Show the largest value met. -/
def Dev.top (s : Dev) (F : Fld) (n : Nat) (i j : Nat := 0) : Dev := s.befall F (fun x => max x n) i j

/-- Add to a counter that wraps. -/
def Dev.incW (s : Dev) (F : Fld) (n : Nat) (i j : Nat := 0) : Dev := s.put F (s.f F i j + n) i j

/-- Write bit `k` of a field by hardware. -/
def Dev.setBit (s : Dev) (F : Fld) (k : Nat) (b : Bool) (i j : Nat := 0) : Dev := s.befall F (fun x => putBit x k b) i j

/-- A field of a shadow register, the copy in force (R51). -/
def Dev.fi (s : Dev) (F : Fld) (i j : Nat := 0) : Nat := s.fb F inForce i j

/-- The number of the active configuration set (R52). -/
def Dev.actSet (s : Dev) : Nat := s.f F.GLOBAL_CFG_STAT_ACTIVE

/-- A field of a set-held register in a configuration set. -/
def Dev.fs (s : Dev) (set : Nat) (F : Fld) (i j : Nat := 0) : Nat := s.fb F set i j

/-- A field of a set-held register in the active set. -/
def Dev.fa (s : Dev) (F : Fld) (i j : Nat := 0) : Nat := s.fb F s.actSet i j

/-- Transfer a field of a shadow register to the copy in force (R51). -/
def Dev.xfer (s : Dev) (F : Fld) (i j : Nat := 0) : Dev := s.putb F inForce (s.f F i j) i j

/-- Transfer every field of a shadow register at some indices. -/
def Dev.xferReg (s : Dev) (R : Reg) (i j : Nat := 0) : Dev := R.flds.foldl (fun s F => s.xfer F i j) s

/-- Bring the fields of a register to their reset values in copy `bank`. -/
def Dev.resetFlds (s : Dev) (l : List Fld) (bank i j : Nat) : Dev :=
  l.foldl (fun s F => s.putb F bank (F.reset s.role) i j) s

/-- The word of a register in a copy: its fields in place, reserved bits 0 (R5). -/
def Dev.word (s : Dev) (R : Reg) (bank i j : Nat) : Nat :=
  R.flds.foldl (fun w F => w + s.fb F bank i j * 2 ^ F.lo) 0

/-- Write every field of a register from a word, whatever its access code. -/
def Dev.putWord (s : Dev) (R : Reg) (bank i j w : Nat) : Dev :=
  R.flds.foldl (fun s F => s.putb F bank (bits w F.lo F.w) i j) s

/-- The fields of `BLOCK.EPOCH` at offset 0xFFF0 of every block (R56, R57). -/
def epochFld (b : Blk) : Fld := ⟨b, 0xFFF0, 0, 0, 0, 4, .live, .ro, 0, 0, 0⟩
def retireFld (b : Blk) : Fld := ⟨b, 0xFFF0, 0, 0, 8, 8, .live, .rc, 0, 0, 0⟩
def staleFld (b : Blk) : Fld := ⟨b, 0xFFF0, 0, 0, 16, 16, .live, .rc, 0, 0, 0⟩

/-- The current epoch of a block (R56). -/
def Dev.epoch (s : Dev) (b : Blk) : Nat := s.f (epochFld b)

/-- Put something out. -/
def Dev.emit (s : Dev) (o : Out) : Dev := { s with out := o :: s.out }

/-- An event that DIG shows in its tick (R368). -/
def Dev.digEvent (s : Dev) (b : Nat) : Dev := { s with reel := { s.reel with ev := putBit s.reel.ev b true } }

/-- Complete the command's access or request. -/
def Dev.complete (s : Dev) (st : Status) (data : Nat := 0) : Dev := { s with cpl := some (st, data) }

/-- The start of a command: what the last one put out is gone. -/
def Dev.begin (s : Dev) : Dev := { s with out := [], cpl := none }

/-- The outcome of an access or request: a status and the device after it. -/
abbrev Acted := Status × Dev

/-- The outcome of a command that is one access or request: its status is the command's completion. -/
def Acted.dev (a : Acted) : Dev := a.2.complete a.1

/-- A request that is turned away changes nothing. -/
def Dev.deny (s : Dev) (st : Status) : Acted := (st, s)

/-- Do something to the device for each of a list. -/
def Dev.each {α : Type} (s : Dev) (l : List α) (g : Dev → α → Dev) : Dev := l.foldl g s

/-- Do something under a condition. -/
def Dev.iff (s : Dev) (c : Bool) (g : Dev → Dev) : Dev := if c then g s else s

/-! ## Blocks and islands (R8, R20, R438) -/

/-- A block is powered in a role (R8, R16, R20). -/
def blkOn : Role → Blk → Bool
  | .manager, b => decide (b ≠ .gate)
  | .concentrator, b => [Blk.global, .tollgate, .secure, .time, .trunk, .leaf, .adc, .can, .debug].contains b
  | .cell, b => [Blk.global, .tollgate, .secure, .time, .leaf, .gate, .adc, .debug].contains b
  | .none, b => decide (b = .global) || decide (b = .debug)

def allBlks : List Blk :=
  [.global, .tollgate, .hostq, .secure, .time, .eth, .trunk, .leaf, .loom, .spindle, .gate, .adc, .angle, .reel, .can, .safety, .pair, .debug]

/-- The islands that `PWR_CTL` and `PWR_LANE` can gate in a role (R438). -/
def islands : Role → List Nat
  | .manager => List.range 5 ++ (List.range 6).map (· + 8) ++ (List.range 32).map (· + 16)
  | .concentrator => [8] ++ (List.range 18).map (· + 16)
  | _ => []

/-- The request bit of an island in `PWR_CTL` and `PWR_LANE` (R448). -/
def islandBit (ctl lane k : Nat) : Bool :=
  if k = 0 then bitOf ctl 31
  else if k < 5 then bitOf ctl (27 + (k - 1))
  else if k < 14 then bitOf lane (16 + (k - 8))
  else if k < 32 then bitOf lane (k - 16)
  else bitOf ctl (k - 32)

def Dev.pwrCtl (s : Dev) : Nat := s.word F.regGlobalPwrCtl 0 0 0
def Dev.pwrLane (s : Dev) : Nat := s.word F.regGlobalPwrLane 0 0 0

/-- The island is gated off. -/
def Dev.gated (s : Dev) (k : Nat) : Bool := (islands s.role).contains k && !islandBit s.pwrCtl s.pwrLane k

/-- The block that an island belongs to. -/
def islandBlk (k : Nat) : Blk :=
  if k = 0 then .reel else if k < 5 then .eth else if k < 14 then .trunk else if k < 32 then .leaf else .adc

/-- Every island of a block is gated off. -/
def Dev.blkGated (s : Dev) (b : Blk) : Bool :=
  let l := (islands s.role).filter fun k => decide (islandBlk k = b)
  decide (l ≠ []) && l.all s.gated

/-- The block has a current epoch: it is on in the role and not gated off (R57). -/
def Dev.hasEpoch (s : Dev) (b : Blk) : Bool :=
  !s.glob.por && !s.gate.dormant && blkOn s.role b && !s.blkGated b

/-- A block has completed `n` requests with RETIRED (R58). -/
def Dev.retired (s : Dev) (b : Blk) (n : Nat) : Dev := s.inc (retireFld b) n

end Sys2Proof.Machine
end

