-- ==== Sys2Proof/Machine/Timebase.lean ====
section
/-! DEFINITION. Station time (14_timebase_ethernet, R343 to R350): the free-running counter, the base pair and the
increment, steering in the MANAGER, and the time slaved to a source lane in the other roles. Times are kept in units of
2⁻⁴⁰ ns; the model resolves a fifth of a TIME tick, one nominal CORE nanosecond. -/

namespace Sys2Proof.Machine

/-- One nanosecond in the units of B_T (R344). -/
def nsFix : Int := 2 ^ 40

/-- The increment in force, 8.40 ns a tick (R344). -/
def Dev.tickInc (s : Dev) : Nat := s.f F.TIME_INC_INC

/-- Fifths of a tick since FRC 0. -/
def Dev.fifths (s : Dev) : Nat := s.time.frc * 5 + s.time.fifth

/-- Five times station time, in 2⁻⁴⁰ ns: T(F) = B_T + (F − B_F) × INC (R344). -/
def Dev.now5 (s : Dev) : Int :=
  s.time.bT * 5 + ((s.fifths : Int) - ((s.time.bF * 5 : Nat) : Int)) * (s.tickInc : Int)

/-- Station time in 2⁻⁴⁰ ns. -/
def Dev.nowFix (s : Dev) : Int := s.now5 / 5

/-- Station time in whole ns. -/
def Dev.now (s : Dev) : Nat := (s.nowFix / nsFix).toNat

/-- Short time (R345). -/
def Dev.short (s : Dev) : Nat := s.now % 2 ^ 32

/-- SUB of a time: units of 78.125 ps in the fraction of a nanosecond, 0 to 12 (R344). -/
def subOf (t : Int) : Nat := ((t % nsFix) * 64 / (5 * nsFix)).toNat

/-- Seconds and nanoseconds of a time in 2⁻⁴⁰ ns (R344). -/
def secOf (t : Int) : Nat := ((t / nsFix).toNat / 10 ^ 9) % 2 ^ 48
def nsOf (t : Int) : Nat := (t / nsFix).toNat % 10 ^ 9

/-- At a tick, a step and an INC write take effect, the step first (R344, R346, R347). -/
def Dev.applyPend (s : Dev) : Dev :=
  let s := match s.time.pendStep with
    | none => s
    | some d => { s with time := { s.time with bT := s.time.bT + d * 2 ^ 32, pendStep := none } }
  match s.time.pendInc with
  | none => s
  | some v =>
    let t1 := s.time.bT + ((s.time.frc : Int) - (s.time.bF : Int)) * (s.tickInc : Int)
    ({ s with time := { s.time with bT := t1, bF := s.time.frc, pendInc := none } }).put F.TIME_INC_INC v

/-- To the start of the next tick. -/
def Dev.toTick (s : Dev) : Dev :=
  Dev.applyPend { s with time := { s.time with frc := s.time.frc + 1, fifth := 0 } }

/-- One nominal CORE nanosecond passes (log entry 3). -/
def Dev.pass (s : Dev) : Dev :=
  if s.time.fifth < 4 then { s with time := { s.time with fifth := s.time.fifth + 1 } } else s.toTick

/-- Time moves on until station time is at least `t` ns; it never moves back. -/
def Dev.advanceTo (s : Dev) (t : Nat) : Dev :=
  let due : Int := (t : Int) * nsFix * 5
  if due ≤ s.now5 then s
  else
    let s := if s.time.pendInc.isSome || s.time.pendStep.isSome then s.toTick else s
    if due ≤ s.now5 ∨ s.tickInc = 0 then s
    else
      let n := s.fifths + ((due - s.now5 + ((s.tickInc : Int) - 1)) / (s.tickInc : Int)).toNat
      { s with time := { s.time with frc := n / 5, fifth := n % 5 } }

/-- The instant, on a grid of `g` ns from `o`, of an event of every instant that last happened at `last`: the latest instant that has
come and was not served, or the next one; after station time stepped back, the first from now on. -/
def gridNext (o : Int) (g now : Nat) (last : Option Nat) : Nat :=
  let at_ := o + ((now : Int) - o) / g * g
  (match last with
  | none => at_
  | some l =>
    if now < l then (if at_ = now then at_ else at_ + g)
    else max at_ (o + (((l : Int) - o) / g + 1) * g)).toNat

/-- The control cycle runs (R37). -/
def Dev.run (s : Dev) : Bool := s.flag F.GLOBAL_CYCLE_CTL_RUN

/-- A write of `TIME.INC` (R346, R350). -/
def Dev.timeIncWrite (s : Dev) (v : Nat) : Acted :=
  if s.role ≠ .manager then s.deny .invalid
  else if v < 0x04FEB851EB85 ∨ 0x050147AE147B < v then s.deny .invalid
  else if s.run ∧ (v < s.tickInc - 54975581 ∨ s.tickInc + 54975581 < v) then s.deny .invalid
  else (.ok, { s with time := { s.time with pendInc := some v, kickAt := s.time.frc } })

/-- A write of `TIME.STEP` (R347, R38, R350). -/
def Dev.timeStepWrite (s : Dev) (v : Nat) : Acted :=
  if s.role ≠ .manager then s.deny .invalid
  else if s.run then s.deny .busy
  else if ¬ s.flag F.TIME_STAT_STEP_AVAIL then s.deny .invalid
  else (.ok, (({ s with time := { s.time with pendStep := some (sgn 64 v) }, glob := { s.glob with nextCyc := 0 } }).put F.TIME_STAT_STEP_AVAIL 0).raise
    F.TIME_STAT_STEPPED)

/-- SYNC comes to a new value by a write (R348): 0 FREE, 1 LOCKED, 2 HOLDOVER. A write of the value in force changes
nothing. -/
def Dev.setSync (s : Dev) (v : Nat) : Dev :=
  if s.f F.TIME_CTL_SYNC = v then s
  else
    let s := (s.put F.TIME_CTL_SYNC v).put F.TIME_STAT_TQ (if v = 0 then 0 else 1)
    { s with time := { s.time with holdAt := if v = 2 then some s.time.frc else none } }

/-- A write of `TIME.CTL` (R348, R363): SYNC is read-only outside the MANAGER. -/
def Dev.timeCtlWrite (s : Dev) (sync holdLim kickTmo : Nat) : Acted :=
  if s.role = .manager ∧ sync = 3 then s.deny .invalid
  else
    let s := (s.put F.TIME_CTL_HOLD_LIM holdLim).put F.TIME_CTL_KICK_TMO kickTmo
    (.ok, if s.role = .manager then s.setSync sync else s)

/-- Time moves on until FRC is at least `n` ticks; it never moves back. -/
def Dev.frcTo (s : Dev) (n : Nat) : Dev :=
  if n ≤ s.time.frc then s
  else
    let s := s.toTick
    if n ≤ s.time.frc then s else { s with time := { s.time with frc := n } }

/-- Time moves on until `n` CORE nanoseconds have passed since FRC 0; it never moves back. -/
def Dev.coreTo (s : Dev) (n : Nat) : Dev :=
  if n ≤ s.fifths then s
  else
    let s := s.toTick
    if n ≤ s.fifths then s else { s with time := { s.time with frc := n / 5, fifth := n % 5 } }

/-- The KICK_TMO timer expires in LOCKED (R348): KICK_TMO ms, of nominal ticks, after the last accepted write of `TIME.INC`. -/
def Dev.kickLost (s : Dev) : Dev :=
  if s.role = .manager ∧ s.f F.TIME_CTL_SYNC = 1 ∧ s.f F.TIME_CTL_KICK_TMO ≠ 0 then
    ((s.frcTo (s.time.kickAt + s.f F.TIME_CTL_KICK_TMO * 200000)).setSync 2).raise F.TIME_STAT_KICK_LOST
  else s

/-- HOLD_LIM minutes in HOLDOVER have passed (R348). -/
def Dev.holdExp (s : Dev) : Dev :=
  if s.role = .manager ∧ s.f F.TIME_CTL_SYNC = 2 ∧ s.f F.TIME_CTL_HOLD_LIM ≠ 0 then
    ((s.frcTo (s.time.holdAt.getD 0 + s.f F.TIME_CTL_HOLD_LIM * (12 * 10 ^ 9))).raise F.TIME_STAT_HOLD_EXP).put F.TIME_STAT_TQ 0
  else s

/-- Minutes in HOLDOVER, of nominal ticks (R348, R363). -/
def Dev.holdMin (s : Dev) : Nat :=
  match s.time.holdAt with
  | none => 0
  | some f => min 0xFFFF ((s.time.frc - f) / (12 * 10 ^ 9))

/-- A read at `TIME.NOW_LO` captures the time (R344). -/
def Dev.nowCapture (s : Dev) : Dev :=
  let t := s.nowFix
  ((s.put F.TIME_NOW_LO_NS (nsOf t)).put F.TIME_NOW_LO_SUB (subOf t)).put F.TIME_NOW_HI_SEC (secOf t)

/-- The ratio of the beacon-time span to the FRC span over the last 16 beacons, to nearest; 5 ns before 16 have arrived
(R350). Entries are beacon time in 2⁻⁴⁰ ns and FRC in fifths of a tick, newest first. -/
def slaveInc (h : List (Int × Nat)) : Nat :=
  match h.head?, h[15]? with
  | some (b1, f1), some (b0, f0) =>
    if f1 ≤ f0 then 5 * 2 ^ 40 else satU 48 ((2 * ((b1 - b0) * 5) + ((f1 - f0 : Nat) : Int)) / (2 * ((f1 - f0 : Nat) : Int)))
  | _, _ => 5 * 2 ^ 40

/-- The error of station time that a beacon shows, in 2⁻⁴⁰ ns (R350), and whether it is beyond the 8 ns of R248. -/
def Dev.beaconErr (s : Dev) (bt : Int) (delay : Nat) : Int := bt + (delay : Int) * 2 ^ 32 - s.nowFix
def farErr (e : Int) : Bool := decide (8 * nsFix < e) || decide (e < -(8 * nsFix))

/-- An intact beacon on the source lane (R350): its time in 2⁻⁴⁰ ns, the lane's DELAY in 2⁻⁸ ns, and its TQ. -/
def Dev.beaconTime (s : Dev) (bt : Int) (delay : Nat) (tq : Bool) : Dev :=
  let e := s.beaconErr bt delay
  let s := s.put F.TIME_LANE_ERR_ERR (wrap 32 (satS 32 (e / 2 ^ 32)))
  let h := ((bt, s.fifths) :: s.time.hist).take 16
  let t1 := s.time.bT + ((s.time.frc : Int) - (s.time.bF : Int)) * (s.tickInc : Int)
  let far := farErr e
  let d := if far then e else clampI (-(nsFix / 2)) (nsFix / 2) e
  let s := ({ s with time := { s.time with bT := t1 + d, bF := s.time.frc, hist := h, srcTq := tq } }).put
    F.TIME_INC_INC (slaveInc h)
  let s := s.iff far (fun s => s.raise F.TIME_STAT_STEPPED)
  (s.put F.TIME_CTL_SYNC 1).put F.TIME_STAT_TQ (b2n tq)

/-- A slaved device has no source lane: holdover on the last INC, TQ 0 (R350, R363). -/
def Dev.noSource (s : Dev) : Dev :=
  if s.role = .manager ∨ s.f F.TIME_CTL_SYNC = 0 then s.iff (decide (s.role ≠ .manager)) (fun s => s.put F.TIME_STAT_TQ 0)
  else (s.put F.TIME_CTL_SYNC 2).put F.TIME_STAT_TQ 0

/-- A per-block reset of TIME (R362): time runs on; the flags clear and a step is available again. -/
def Dev.timeReset (s : Dev) : Dev :=
  let s := ((s.put F.TIME_STAT_HOLD_EXP 0).put F.TIME_STAT_KICK_LOST 0).put F.TIME_STAT_STEPPED 0
  let s := (s.put F.TIME_STAT_STEP_AVAIL 1).put F.TIME_LANE_ERR_ERR 0
  ((s.put F.TIME_NOW_LO_NS 0).put F.TIME_NOW_LO_SUB 0).put F.TIME_NOW_HI_SEC 0

end Sys2Proof.Machine
end

