-- ==== Sys2Proof/Machine/Adc.lean ====
section
/-! DEFINITION. Analogue-to-digital conversion (10_adc): the conversion grid, sample words, correction, overload,
changes of setting, averaging, interleaving, self-calibration and reset. -/

namespace Sys2Proof.Machine

/-- Channels per role (R266). -/
def adcChans : Role → Nat
  | .manager => 16
  | .concentrator => 2
  | .cell => 4
  | .none => 0

def AdcMean.zero : AdcMean := { n := 0, sum := 0, valid := true, ovr := false, novr := false }

def AdcCh.idle : AdcCh :=
  { hist := [], inv := 0, nocUntil := 0, ovl := false, novrTo := 0, hold := 0, bndT := 0, bndW := 0,
    bndM := AdcMean.zero, bndOk := 0, mean := AdcMean.zero }

/-- The channel `c`. -/
def Dev.adcCh (s : Dev) (c : Nat) : AdcCh := Tab.get AdcCh.idle s.adc.ch c

/-- Replace channel `c`. -/
def Dev.setAdcCh (s : Dev) (c : Nat) (x : AdcCh) : Dev :=
  { s with adc := { s.adc with ch := Tab.set AdcCh.idle s.adc.ch c x } }

/-- Station time of conversion index 0 (R267). -/
def Dev.adcOrigin (s : Dev) : Int :=
  match s.role with
  | .manager => (s.f F.GLOBAL_CYCLE_PHASE_PHASE : Nat)
  | .cell => s.adc.origin.getD 0
  | _ => 0

/-- Channels c and c + 1 form an interleaved pair (R274): MUX = 0b01 in force on the odd channel. -/
def Dev.adcPair (s : Dev) (c : Nat) : Bool := decide (c % 2 = 0) && decide (s.fi F.ADC_CH_CFG_MUX (c + 1) = 1)

/-- Channel `c` is the odd channel of a pair. -/
def Dev.adcOdd (s : Dev) (c : Nat) : Bool := decide (c % 2 = 1) && decide (s.fi F.ADC_CH_CFG_MUX c = 1)

/-- Any pair is formed. -/
def Dev.adcAnyPair (s : Dev) : Bool := (List.range (adcChans s.role)).any fun c => s.adcPair c

/-- Sampled at 40 MS/s, the grid is 25 ns; otherwise 50 ns (R267). -/
def Dev.adcStep (s : Dev) : Nat := if s.adcAnyPair then 25 else 50

/-- The conversion instant that comes next, in ns (R267; log entry 157). -/
def Dev.adcNext (s : Dev) : Nat := gridNext s.adcOrigin s.adcStep s.now s.adc.last

/-- The conversion index of an instant (R267). -/
def Dev.adcIndex (s : Dev) (t : Nat) : Nat := (((t : Int) - s.adcOrigin) / 25).toNat

/-- A cycle boundary of the MANAGER, as far as the grid tells (R34). -/
def Dev.onBoundary (s : Dev) (t : Nat) : Bool :=
  let p := s.f F.GLOBAL_CYCLE_CTL_PERIOD * 50
  decide (0 < p) && decide (s.f F.GLOBAL_CYCLE_PHASE_PHASE ≤ t) && decide ((t - s.f F.GLOBAL_CYCLE_PHASE_PHASE) % p = 0)

/-- Settings of channel `c` transfer to the copies in force (R272), with the invalid-sample counts of the items that
change; a change of EN from 0 to 1 gives NOCONV words for 10 µs from `t`. -/
def Dev.adcXfer (s : Dev) (t c : Nat) : Dev :=
  let mux := decide (s.f F.ADC_CH_CFG_MUX c ≠ s.fi F.ADC_CH_CFG_MUX c)
  let gain := decide (s.f F.ADC_CH_CFG_GAIN c ≠ s.fi F.ADC_CH_CFG_GAIN c)
  let filt := decide (s.f F.ADC_CH_CFG_FILT c ≠ s.fi F.ADC_CH_CFG_FILT c)
  let en := decide (s.f F.ADC_CH_CFG_EN c = 1) && decide (s.fi F.ADC_CH_CFG_EN c = 0)
  let x := s.adcCh c
  let n := max (if mux || en then 6 else 0) (max (if gain then 24 else 0) (if filt then 2 ^ s.f F.ADC_CH_CFG_FILT c else 0))
  let s1 := s.setAdcCh c { x with inv := max x.inv n, nocUntil := if en then max x.nocUntil (t + 10000) else x.nocUntil }
  let pairEdge := mux && decide (c % 2 = 1) && (decide (s.f F.ADC_CH_CFG_MUX c = 1) || decide (s.fi F.ADC_CH_CFG_MUX c = 1))
  let s2 := s1.iff pairEdge (fun s => s.setAdcCh (c - 1) { s.adcCh (c - 1) with inv := max (s.adcCh (c - 1)).inv 6 })
  (s2.xferReg F.regAdcChCfg c).xferReg F.regAdcCor c

/-- Channel `c` carries no conversion at `t` (R268): disabled, calibrating, powering up, restarting, or its island off. -/
def Dev.adcNoConv (s : Dev) (t c : Nat) : Bool :=
  decide (s.fi F.ADC_CH_CFG_EN c = 0) || bitOf s.adc.cal c || decide (t < (s.adcCh c).nocUntil) ||
  !bitOf (s.f F.GLOBAL_PWR_CTL_ADC_ON) c || s.glob.ramp.contains (32 + c)

/-- The corrected value of a raw code of converter `v` on channel `c`, in 2⁻³² code (R270). -/
def Dev.adcCorrect (s : Dev) (c v : Nat) (r : Int) : Int :=
  ((r - s.fS F.ADC_CAL_RES_CAL_OFS v) * (s.f F.ADC_CAL_RES_CAL_GAIN v : Nat) - sgn 16 (s.fi F.ADC_COR_OFS c) * 2 ^ 17)
    * (s.fi F.ADC_COR_GCORR c : Nat)

/-- A raw value at either end of its range is an input overload (R271). -/
def rawOver (r : Int) : Bool := decide (r ≤ -(2 ^ 17)) || decide (2 ^ 17 - 1 ≤ r)

/-- A value outside DATA's range (R270). -/
def outside16 (x : Int) : Bool := decide (x < -0x8000) || decide (0x7FFF < x)

/-- The overload state of a channel after a conversion at `t` of a raw value (R271). -/
def AdcCh.judge (x : AdcCh) (t : Nat) (r : Int) : AdcCh :=
  if rawOver r then { x with ovl := true, hold := 2 }
  else if x.ovl then { x with ovl := false, novrTo := t + 150 }
  else x

/-- Channel `c` is, at `t`, a neighbour whose overload marks words of `c ± 1` (R271). -/
def AdcCh.marks (x : AdcCh) (t : Nat) : Bool := x.ovl || decide (t < x.novrTo)

/-- The converter that serves channel `c` at `t`: at odd indices the odd one of the pair (R274). -/
def Dev.adcConverter (s : Dev) (t c : Nat) : Nat := if s.adcIndex t % 2 = 1 then c + 1 else c

/-- Channel `c` has a word at `t`: not the odd channel of a pair, and at odd indices only for a pair (R267, R274). -/
def Dev.adcTurn (s : Dev) (t c : Nat) : Bool :=
  !s.adcOdd c && (decide (s.adcIndex t % 2 = 0) || s.adcPair c)

/-- First pass of an instant: channel `c` judges its raw value and takes its conversion into its window (R270, R271,
R273). -/
def Dev.adcTake (s : Dev) (t : Nat) (raws : List Int) (c : Nat) : Dev :=
  let v := s.adcConverter t c
  let x := s.adcCh c
  if s.adcNoConv t c || s.adcNoConv t v then s.setAdcCh c { x with hist := (none :: x.hist).take 16 }
  else
    let r := raws.getD v 0
    let held := decide (0 < x.hold)
    let x := x.judge t r
    let num := if rawOver r then (if 0 ≤ r then 0x7FFF else -0x8000) * 2 ^ 32 else s.adcCorrect c v r
    let ovr := rawOver r || held || outside16 (roundDiv true num (2 ^ 32))
    let x := if rawOver r then x else { x with hold := x.hold - 1 }
    s.setAdcCh c { x with hist := (some { num := num, ovr := ovr } :: x.hist).take 16 }

/-- The word of channel `c` at `t` from its window: NOCONV, VALID, OVR, NOVR and DATA (R268, R269, R273). -/
def Dev.adcWord (s : Dev) (t c : Nat) : Nat :=
  let k := s.adcIndex t
  let x := s.adcCh c
  let len := 2 ^ s.fi F.ADC_CH_CFG_FILT c
  let win := (x.hist.take len).filterMap id
  let head := k % 256 * 2 ^ 24 + c * 2 ^ 20
  let novr := (decide (0 < c) && (s.adcCh (c - 1)).marks t && !s.adcOdd (c - 1)) || ((s.adcCh (c + 1)).marks t && !s.adcOdd (c + 1))
  if win.isEmpty then head + 2 ^ 19 + b2n novr * 2 ^ 18
  else
    let d := roundDiv true (win.foldl (fun a v => a + v.num) 0) (win.length * 2 ^ 32)
    let ovr := outside16 d || win.any AdcConv.ovr
    let valid := decide (win.length = len) && decide (x.inv = 0)
    head + b2n novr * 2 ^ 18 + b2n ovr * 2 ^ 17 + b2n valid * 2 ^ 16 + wrap 16 (satS 16 d)

/-- The marks of a sample word (R269). -/
def wNoConv (w : Nat) : Bool := bitOf w 19
def wNovr (w : Nat) : Bool := bitOf w 18
def wOvr (w : Nat) : Bool := bitOf w 17
def wValid (w : Nat) : Bool := bitOf w 16
def wData (w : Nat) : Int := sgn 16 w

/-- Take a word into a mean (R276). -/
def AdcMean.add (m : AdcMean) (w : Nat) : AdcMean :=
  if wNoConv w then m
  else { n := m.n + 1, sum := m.sum + wData w, valid := m.valid && wValid w, ovr := m.ovr || wOvr w,
         novr := m.novr || wNovr w }

/-- Second pass of an instant: channel `c` sends its word (R268, R272, R276, R278). -/
def Dev.adcSend (s : Dev) (t c : Nat) : Dev :=
  let w := s.adcWord t c
  let x := s.adcCh c
  let m := x.mean.add w
  let bnd := s.onBoundary t
  let x := { x with
    inv := if wNoConv w then x.inv else x.inv - 1
    mean := if bnd then AdcMean.zero else m
    bndT := if bnd then t else x.bndT
    bndW := if bnd then w else x.bndW
    bndM := if bnd then m else x.bndM
    bndOk := if bnd && wValid w then wData w else x.bndOk }
  let s := (s.setAdcCh c x).put F.ADC_LAST_WORD w c
  let s := s.setBit F.ADC_STAT_ACTIVE c (!wNoConv w)
  let s := s.iff (wOvr w) (fun s => (s.setBit F.ADC_STAT_OVR c true).inc F.ADC_CNT_OVR_CNT 1 c)
  s.iff (!wValid w && !wNoConv w) (fun s => s.inc F.ADC_CNT_INV_CNT 1 c)

/-- The channels that have a word at an instant. -/
def Dev.adcDue (s : Dev) (t : Nat) : List Nat := (List.range (adcChans s.role)).filter fun c => s.adcTurn t c

/-- Settings transfer at the channel's next grid instant, but in the MANAGER with RUN = 1, where they transfer at cycle
boundaries (R50, R51, R272). -/
def Dev.adcXferAt (s : Dev) (t : Nat) : Dev :=
  if s.role = .manager ∧ s.run ∧ ¬ s.onBoundary t then s
  else s.each ((List.range (adcChans s.role)).filter fun c => decide (s.adcIndex t % 2 = 0) || s.adcPair c)
    (fun s c => s.adcXfer t c)

/-- A grid instant: every channel due takes its raw value and sends its word (R267 to R274). `raws` holds the raw codes
of the converters in units of a quarter code. -/
def Dev.adcConvert (s : Dev) (raws : List Int) : Dev :=
  let t := s.adcNext
  let s := (s.advanceTo t).adcXferAt t
  let s := s.each (s.adcDue t) (fun s c => s.adcTake t raws c)
  let s := s.each (s.adcDue t) (fun s c => s.adcSend t c)
  { s with adc := { s.adc with last := some t } }

/-- The mask of the channels of a role. -/
def adcAll (r : Role) : Nat := 2 ^ adcChans r - 1

/-- START of a calibration of the channels of `mask` (R275). -/
def Dev.adcCalStart (s : Dev) (mask : Nat) : Acted :=
  if s.flag F.ADC_CAL_BUSY then s.deny .busy
  else if mask = 0 ∨ adcAll s.role < mask then s.deny .invalid
  else (.ok, ({ s with adc := { s.adc with cal := mask } }).raise F.ADC_CAL_BUSY)

/-- A write of `ADC.CAL` (R275, R278): MASK, W1C of FAIL, and START. -/
def Dev.adcCalWrite (s : Dev) (start failClr : Bool) (mask : Nat) : Acted :=
  if start ∧ s.flag F.ADC_CAL_BUSY then s.deny .busy
  else if start ∧ (mask = 0 ∨ adcAll s.role < mask) then s.deny .invalid
  else
    let s := (s.put F.ADC_CAL_MASK mask).iff failClr (fun s => s.writeW1c F.ADC_CAL_FAIL 0 1)
    if start then s.adcCalStart mask else (.ok, s)

/-- The result of one channel: offset in quarter codes and gain in Q1.15; beyond ±512 codes or outside 0.9 to 1.1 it is
rejected (R275). -/
def Dev.adcCalRes (s : Dev) (c : Nat) (ofs : Int) (gain : Nat) : Dev :=
  let x := s.adcCh c
  let s := s.setAdcCh c { x with inv := max x.inv 6 }
  if ofs < -2048 ∨ 2048 < ofs ∨ gain * 10 < 9 * 32768 ∨ 11 * 32768 < gain * 10 then
    (s.put F.ADC_CAL_RES_STATUS Status.invalid.code c).raise F.ADC_CAL_FAIL
  else ((s.put F.ADC_CAL_RES_CAL_OFS (wrap 16 ofs) c).put F.ADC_CAL_RES_CAL_GAIN gain c).put F.ADC_CAL_RES_STATUS 0 c

/-- The calibration ends with what each converter measured (R275). -/
def Dev.adcCalDone (s : Dev) (res : List (Int × Nat)) : Dev :=
  if ¬ s.flag F.ADC_CAL_BUSY then s
  else
    let m := s.adc.cal
    let s := ({ s with adc := { s.adc with cal := 0 } }).put F.ADC_CAL_BUSY 0
    s.each (bitList 16 m) (fun s c => s.adcCalRes c (res.getD c (0, 0x8000)).1 (res.getD c (0, 0x8000)).2)

/-- A per-block reset of ADC (R277). -/
def Dev.adcReset (s : Dev) : Dev :=
  let m := s.adc.cal
  let t := s.now
  let s := s.each (bitList 16 m) (fun s c => s.put F.ADC_CAL_RES_STATUS Status.retired.code c)
  let s := ({ s with adc := { s.adc with cal := 0 } }).put F.ADC_CAL_BUSY 0
  let s := s.each (List.range (adcChans s.role)) (fun s c =>
    let s := s.setAdcCh c { AdcCh.idle with inv := 6, nocUntil := t + 2000 }
    ((s.put F.ADC_LAST_WORD 0x00080000 c).put F.ADC_CNT_OVR_CNT 0 c).put F.ADC_CNT_INV_CNT 0 c)
  ((s.put F.ADC_STAT_OVR 0).put F.ADC_STAT_ACTIVE 0).put F.ADC_CAL_FAIL 0

end Sys2Proof.Machine
end

