-- ==== Sys2Proof/Machine/Coding.lean ====
section
/-! DEFINITION. The 8b/10b code of the Skein lanes (R168, R169). The spec names IEEE 802.3 clause 36 and prints no table: the tables here
are the standard's (PRESUMED, log entry 151). A code group is a number of ten bits, the first bit sent most significant. -/

namespace Sys2Proof.Machine

/-- The six bits abcdei of the five low bits of a data byte, for negative running disparity. -/
def code6 : List Nat :=
  [0b100111, 0b011101, 0b101101, 0b110001, 0b110101, 0b101001, 0b011001, 0b111000,
   0b111001, 0b100101, 0b010101, 0b110100, 0b001101, 0b101100, 0b011100, 0b010111,
   0b011011, 0b100011, 0b010011, 0b110010, 0b001011, 0b101010, 0b011010, 0b111010,
   0b110011, 0b100110, 0b010110, 0b110110, 0b001110, 0b101110, 0b011110, 0b101011]

/-- The four bits fghj of the three high bits of a data byte, for negative running disparity. -/
def code4 : List Nat := [0b1011, 0b1001, 0b0101, 0b1100, 0b1101, 0b1010, 0b0110, 0b1110]

/-- The four bits of the K28 code groups, for negative running disparity at the start of the group. -/
def code4K : List Nat := [0b0100, 0b1001, 0b0101, 0b0011, 0b0010, 0b1010, 0b0110, 0b1000]

/-- The number of ones in the low `w` bits. -/
def ones (w v : Nat) : Nat := (bitList w v).length

/-- Running disparity after a sub-block of six bits, and after one of four: positive is true, none is not known yet. -/
def rd6 (rd : Option Bool) (v : Nat) : Option Bool :=
  if v = 0b000111 then some true else if v = 0b111000 then some false
  else if 3 < ones 6 v then some true else if ones 6 v < 3 then some false else rd

def rd4 (rd : Option Bool) (v : Nat) : Option Bool :=
  if v = 0b0011 then some true else if v = 0b1100 then some false
  else if 2 < ones 4 v then some true else if ones 4 v < 2 then some false else rd

/-- Running disparity after a code group. -/
def rdNext (rd : Option Bool) (g : Nat) : Option Bool := rd4 (rd6 rd (g / 16)) (g % 16)

/-- A sub-block in the column of a running disparity: one that is not balanced, and D.7's and D.x.3's, is inverted for a positive one. -/
def column6 (rd : Bool) (v : Nat) : Nat := if rd && (decide (ones 6 v ≠ 3) || decide (v = 0b111000)) then 63 - v else v
def column4 (rd : Bool) (v : Nat) : Nat := if rd && (decide (ones 4 v ≠ 2) || decide (v = 0b1100)) then 15 - v else v

/-- The code group of a data byte. The other coding of D.x.7 replaces the first where five equal bits would stand in a row. -/
def encodeD (rd : Bool) (b : Nat) : Nat :=
  let x := b % 32
  let y := b / 32 % 8
  let c := column6 rd (code6.getD x 0)
  let r := (rd6 (some rd) c).getD rd
  let alt := if r then [11, 13, 14] else [17, 18, 20]
  c * 16 + if y = 7 ∧ alt.contains x then (if r then 0b1000 else 0b0111) else column4 r (code4.getD y 0)

/-- The code group of a control byte: K28.0 to K28.7, K23.7, K27.7, K29.7 and K30.7. -/
def encodeK (rd : Bool) (b : Nat) : Option Nat :=
  let inv := fun (v : Nat) => if rd then 1023 - v else v
  if b % 32 = 28 then some (inv (0b001111 * 16 + code4K.getD (b / 32 % 8) 0))
  else if b = 0xF7 ∨ b = 0xFB ∨ b = 0xFD ∨ b = 0xFE then some (inv (code6.getD (b % 32) 0 * 16 + 0b1000))
  else none

/-- The byte that a code group stands for in the column of a running disparity, with the mark of a control byte. -/
def decodeColumn (rd : Bool) (g : Nat) : Option (Bool × Nat) :=
  let six := g / 16 % 64
  let xs := (List.range 32).filter fun x => decide (column6 rd (code6.getD x 0) = six)
  match (xs.flatMap fun x => (List.range 8).map fun y => y * 32 + x).find? fun b => decide (encodeD rd b = g) with
  | some b => some (false, b)
  | none =>
    match [0x1C, 0x3C, 0x5C, 0x7C, 0x9C, 0xBC, 0xDC, 0xFC, 0xF7, 0xFB, 0xFD, 0xFE].find? fun b => decide (encodeK rd b = some g) with
    | some b => some (true, b)
    | none => none

/-- What a received code group is (R169): the byte, with the mark of a control byte and whether its disparity is right; none for a code
violation. While the running disparity is not known yet either column is right. -/
def decodeGroup (rd : Option Bool) (g : Nat) : Option (Bool × Nat × Bool) :=
  let other := match decodeColumn (!(rd.getD false)) g with
    | some (k, b) => some (k, b, rd.isNone)
    | none => none
  match decodeColumn (rd.getD false) g with
  | some (k, b) => some (k, b, true)
  | none => other

/-- K28.5. -/
def comma : Nat := 0xBC

/-- The code groups of a list of bytes and control bytes, and the running disparity after them: what a transmitter sends (R169). -/
def encodeAll : Bool → List (Bool × Nat) → List Nat × Bool
  | rd, [] => ([], rd)
  | rd, (k, b) :: l =>
    let g := if k then (encodeK rd b).getD 0 else encodeD rd b
    let r := encodeAll ((rdNext (some rd) g).getD rd) l
    (g :: r.1, r.2)

/-- A block on the lane (R200): K28.5, the control byte that names its kind, its bytes. -/
def blockBytes (kind : Nat) (data : List Byte) : List (Bool × Nat) := [(true, comma), (true, kind)] ++ data.map fun b => (false, b.toNat)

/-- One step of PRBS-31 (R195): x³¹ + x²⁸ + 1 (PRESUMED, log entry 151), and the next byte of the sequence, its first bit least
significant. -/
def prbsStep (v : Nat) : Nat := v * 2 % 2 ^ 31 + b2n (bitOf v 30 != bitOf v 27)
def prbsByte (v : Nat) : Nat × Nat :=
  (List.range 8).foldl (fun (p : Nat × Nat) i => (prbsStep p.1, p.2 + prbsStep p.1 % 2 * 2 ^ i)) (v, 0)

end Sys2Proof.Machine
end

