-- ==== Sys2Proof/Machine/Lanes.lean ====
section
/-! DEFINITION. Skein lanes (07_skein_lanes, R168 to R199): training, loss, receiver adaptation, hop delay, power states and
test loops. A lane number L counts the lanes of TRUNK from 0 and those of LEAF from 64. What the loss of a lane means to the
rest of the device is in Machine/Links. -/

namespace Sys2Proof.Machine

def LaneSt.fresh : LaneSt :=
  { aligned := false, trn := 0, seenUp := false, rdy := false, setN := 0, settled := false, lock := false, hunt := 2,
    once := false, idle := false, taps := [], tapRef := [], tapMs := 0, rks := [], meas := false, rem := false, jump := 0,
    follow := false, pwrPend := none, exit := none, first := false, rd := none, bit := 0, gap := 0, viol := [], prbs := 0 }

/-- States (R199). -/
def lDisabled : Nat := 0
def lDetect : Nat := 1
def lAlign : Nat := 2
def lAdapt : Nat := 3
def lSync : Nat := 4
def lRun : Nat := 5
def lAbsent : Nat := 6
def lLoop : Nat := 7

/-- The field of a lane register that lane L has. -/
def laneFld (g : Fld) (L : Nat) : Fld := if L < 64 then g else g.onLeaf
def laneIdx (L : Nat) : Nat := if L < 64 then L else L - 64

def Dev.ln (s : Dev) (g : Fld) (L : Nat) : Nat := s.f (laneFld g L) (laneIdx L)
def Dev.lnFlag (s : Dev) (g : Fld) (L : Nat) : Bool := decide (s.ln g L ≠ 0)
def Dev.putLn (s : Dev) (g : Fld) (L v : Nat) : Dev := s.put (laneFld g L) v (laneIdx L)
def Dev.raiseLn (s : Dev) (g : Fld) (L : Nat) : Dev := s.raise (laneFld g L) (laneIdx L)
def Dev.incLn (s : Dev) (g : Fld) (L n : Nat) : Dev := s.inc (laneFld g L) n (laneIdx L)

/-- A block-wide register of lane L's block. -/
def Dev.blkLn (s : Dev) (g : Fld) (L : Nat) : Nat := s.f (laneFld g L)
def Dev.incBlkLn (s : Dev) (g : Fld) (L n : Nat) : Dev := s.inc (laneFld g L) n

def Dev.lane (s : Dev) (L : Nat) : LaneSt := Tab.get LaneSt.fresh s.lanes.st L
def Dev.setLane (s : Dev) (L : Nat) (x : LaneSt) : Dev :=
  { s with lanes := { s.lanes with st := Tab.set LaneSt.fresh s.lanes.st L x } }

def Dev.lState (s : Dev) (L : Nat) : Nat := s.ln F.LANE_LANE_STAT_STATE L

/-- The lanes that a role has (R20, R199). -/
def roleLanes : Role → List Nat
  | .manager => List.range 48 ++ (List.range 128).map (· + 64)
  | .concentrator => [0, 1] ++ (List.range 128).map (· + 64)
  | .cell => [64, 65]
  | .none => []

def Dev.hasLane (s : Dev) (L : Nat) : Bool := (roleLanes s.role).contains L

/-- `LANE_MAP.MODE` of the active set (R199). -/
def Dev.laneMode (s : Dev) (L : Nat) : Nat := s.fa F.TRUNK_LANE_MAP_MODE L
def mPrimary : Nat := 0
def mBonded : Nat := 1
def mSpare : Nat := 2
def mPair : Nat := 3

/-- A PAIR lane of the MANAGER (R290). -/
def Dev.isPair (s : Dev) (L : Nat) : Bool := decide (s.role = .manager) && decide (L < 64) && decide (s.laneMode L = mPair)

/-- The device is the lane's upstream end. -/
def Dev.isUp (s : Dev) (L : Nat) : Bool :=
  match s.role with
  | .manager => if s.isPair L then decide (s.f F.GLOBAL_ROLE_PLANE = 1) else true
  | .concentrator => decide (64 ≤ L)
  | _ => false

/-- The lane is in RUN, and in RUN in power state L0, or L0 or L1. -/
def Dev.inRun (s : Dev) (L : Nat) : Bool := s.hasLane L && decide (s.lState L = lRun)
def Dev.inL0 (s : Dev) (L : Nat) : Bool := s.inRun L && decide (s.ln F.LANE_LANE_STAT_PSTATE L = 0)
def Dev.inL01 (s : Dev) (L : Nat) : Bool := s.inRun L && decide (s.ln F.LANE_LANE_STAT_PSTATE L ≤ 1)

/-- The lane receives ordered sets from ALIGN onwards (R228, R229). -/
def Dev.fromAlign (s : Dev) (L : Nat) : Bool :=
  let st := s.lState L
  s.hasLane L && (decide (2 ≤ st) && decide (st ≤ 4) || s.inL01 L)

/-- The lane is in a far-end loop: it goes on decoding what it receives, and sends nothing of its own (R196). -/
def Dev.farLoop (s : Dev) (L : Nat) : Bool := s.hasLane L && decide (s.lState L = lLoop) && decide (s.ln F.LANE_LANE_CFG_LOOP L = 3)

/-! ## Training (R171 to R179) -/

/-- Enter a state with a fresh attempt. -/
def Dev.attempt (s : Dev) (L st : Nat) (x : LaneSt) : Dev :=
  ((s.putLn F.LANE_LANE_STAT_STATE L st).putLn F.LANE_LANE_STAT_HOLDOFF L 0).setLane L { x with taps := (s.lane L).taps }

/-- Leaving RUN has the effects of R181 on the lane itself. -/
def Dev.leaveRun (s : Dev) (L : Nat) : Dev :=
  if s.lState L ≠ lRun then s
  else
    let s := ((s.putLn F.LANE_LANE_STAT_TIME_VALID L 0).putLn F.LANE_LANE_STAT_PSTATE L 0).incLn F.LANE_LANE_ERR_LOSS_CNT L 1
    (s.putLn F.LANE_LANE_STAT_EPOCH L (s.ln F.LANE_LANE_STAT_EPOCH L + 1)).putLn F.LANE_LANE_STAT_SLEWING L 0

/-- To DETECT with `RETRY` 0; with the transmitter idle of R181 before the attempt begins where `idle` says so. -/
def Dev.toDetect (s : Dev) (L : Nat) (idle : Bool) : Dev :=
  ((s.leaveRun L).attempt L lDetect { LaneSt.fresh with idle := idle }).putLn F.LANE_LANE_STAT_RETRY L 0

/-- To LANE_ABSENT (R176, R177). -/
def Dev.toAbsent (s : Dev) (L : Nat) : Dev := (s.attempt L lAbsent LaneSt.fresh).raiseLn F.LANE_LANE_EVT_ABSENT L

/-- A failed attempt (R176, R177). -/
def Dev.laneFail (s : Dev) (L : Nat) : Dev :=
  let r := s.ln F.LANE_LANE_STAT_RETRY L
  if (s.lane L).once ∨ 8 ≤ r then s.toAbsent L
  else ((s.attempt L lDetect LaneSt.fresh).putLn F.LANE_LANE_STAT_RETRY L (r + 1)).putLn F.LANE_LANE_STAT_HOLDOFF L 1

/-- A lane in DETECT whose attempt is under way: no back-off, no transmitter idle. -/
def Dev.attempting (s : Dev) (L : Nat) : Bool :=
  decide (s.lState L = lDetect) && !s.lnFlag F.LANE_LANE_STAT_HOLDOFF L && !(s.lane L).idle

/-- The downstream end tries the next rate of 0b10, 0b01, 0b00 (R172). -/
def Dev.rateHunt (s : Dev) (L : Nat) : Dev :=
  if s.isUp L ∨ ¬ s.attempting L then s
  else s.setLane L { s.lane L with hunt := ((s.lane L).hunt + 2) % 3 }

/-- The receiver locks: DETECT to ALIGN (R172, R179). -/
def Dev.rateLock (s : Dev) (L : Nat) : Dev :=
  if ¬ s.attempting L then s
  else
    let r := if s.isUp L then s.ln F.LANE_LANE_CFG_RATE L else (s.lane L).hunt
    let x := s.lane L
    (((s.attempt L lAlign { LaneSt.fresh with once := x.once, lock := true, hunt := x.hunt })).putLn F.LANE_LANE_STAT_RATE_IN L r)

/-- Symbol alignment (R173). -/
def Dev.commaAlign (s : Dev) (L : Nat) : Dev :=
  if s.lState L = lAlign then s.setLane L { s.lane L with aligned := true, trn := 0 } else s

/-- What this end knows of TK0 of the CONCENTRATOR that a TK1 lane belongs to (R30): at the MANAGER the partner of the lane that the map
names as its primary is a TK0; at the CONCENTRATOR its own TK0 is on the trunk lane that the partner names. A lane whose partner is not
known yet is taken as such (log entry 152). -/
def Dev.sameConc (s : Dev) (L : Nat) : Bool :=
  match s.role with
  | .manager =>
    let p := s.fa F.TRUNK_LANE_MAP_PRIM L
    decide (s.ln F.LANE_LANE_PEER_P_ROLE p = 0) || (decide (s.ln F.LANE_LANE_PEER_P_ROLE p = 2) && decide (s.ln F.LANE_LANE_PEER_P_LANE p = 0))
  | .concentrator => decide (s.ln F.LANE_LANE_PEER_P_ROLE 0 = 0) || decide (s.ln F.LANE_LANE_PEER_P_LANE 0 = s.ln F.LANE_LANE_PEER_P_PRIM L)
  | _ => true

/-- The pairing is accepted (R30), the partner's role and plane as recorded (R21, R22). -/
def Dev.pairingOk (s : Dev) (L : Nat) : Bool :=
  let pr := s.ln F.LANE_LANE_PEER_P_ROLE L
  let pl := s.ln F.LANE_LANE_PEER_P_LANE L
  match s.role with
  | .manager =>
    if 64 ≤ L then decide (pr = 3) && decide (pl ≤ 1)
    else if pr = 2 then
      !s.isPair L && (decide (pl = 0) || (decide (pl = 1) && s.sameConc L && (decide (s.laneMode L = mBonded) || decide (s.laneMode L = mSpare))))
    else if pr = 1 then
      s.isPair L && decide (L ≤ 1) && decide (pl ≤ 1) && decide (s.ln F.LANE_LANE_PEER_P_MODE L = mPair) &&
      decide (s.ln F.LANE_LANE_PEER_P_PLANE L ≠ s.f F.GLOBAL_ROLE_PLANE)
    else false
  | .concentrator =>
    if 64 ≤ L then decide (pr = 3) && decide (pl ≤ 1)
    else decide (pr = 1) && (decide (L = 0) && decide (s.ln F.LANE_LANE_PEER_P_MODE L ≠ mPair) ||
      decide (L = 1) && s.sameConc L && (decide (s.ln F.LANE_LANE_PEER_P_MODE L = mBonded) || decide (s.ln F.LANE_LANE_PEER_P_MODE L = mSpare)))
  | .cell => decide (pr = 1) || decide (pr = 2)
  | .none => false

/-- Two MANAGERs of one plane on the cross-link (R22). -/
def Dev.samePlane (s : Dev) (L : Nat) : Bool :=
  s.isPair L && decide (s.ln F.LANE_LANE_PEER_P_ROLE L = 1) && decide (s.ln F.LANE_LANE_PEER_P_PLANE L = s.f F.GLOBAL_ROLE_PLANE)

/-- The upstream end starts an exchange (R186, R188). -/
def Dev.rdbkAsk (s : Dev) (L : Nat) : Dev := s.emit (.rdbk L .ask)

/-- ADAPT ends when the lane is settled and the partner shows RDY (R174, R31); the upstream end starts to measure (R186). -/
def Dev.adaptExit (s : Dev) (L : Nat) : Dev :=
  let x := s.lane L
  if s.lState L ≠ lAdapt ∨ ¬ x.settled ∨ ¬ x.rdy then s
  else if s.pairingOk L then
    let s := ((s.putLn F.LANE_LANE_STAT_STATE L lSync).putLn F.LANE_LANE_STAT_ROLE_CONFLICT L 0).setLane L { x with rks := [], meas := false }
    s.iff (s.isUp L) fun s => s.rdbkAsk L
  else
    let s := s.iff (s.samePlane L) fun s => s.put F.GLOBAL_ROLE_FAULT 4
    ((s.putLn F.LANE_LANE_STAT_ROLE_CONFLICT L 1).raiseLn F.LANE_LANE_EVT_CONFLICT L).laneFail L

/-- Another lane serves the CONCENTRATOR of a trunk lane and carries its traffic (R191). -/
def Dev.otherCarries (s : Dev) (L : Nat) : Bool :=
  match s.role with
  | .concentrator => s.lnFlag F.LANE_LANE_STAT_CARRYING (1 - L)
  | .manager =>
    let p := if s.laneMode L = mPrimary then L else s.fa F.TRUNK_LANE_MAP_PRIM L
    (List.range 48).any fun m => decide (m ≠ L) && s.lnFlag F.LANE_LANE_STAT_CARRYING m &&
      (decide (m = p) || (decide (s.laneMode m = mSpare) && decide (s.fa F.TRUNK_LANE_MAP_PRIM m = p)))
  | _ => false

/-- A trunk lane whose mode is SPARE, as the end knows it (R190, R191). -/
def Dev.isSpare (s : Dev) (L : Nat) : Bool :=
  decide (L < 64) &&
  match s.role with
  | .manager => decide (s.laneMode L = mSpare)
  | .concentrator => decide (L = 1) && decide (s.ln F.LANE_LANE_PEER_P_MODE L = mSpare)
  | _ => false

/-- A CONCENTRATOR path with a spare: the lane itself or its companion is one. -/
def Dev.spared (s : Dev) (L : Nat) : Bool :=
  match s.role with
  | .concentrator => s.isSpare 1
  | .manager => s.isSpare L || (List.range 48).any fun m => decide (s.laneMode m = mSpare) && decide (s.fa F.TRUNK_LANE_MAP_PRIM m = L)
  | _ => false

/-- The lane enters RUN (R175, R179). A trunk lane to a CONCENTRATOR carries its traffic unless a companion already does; then
it is the spare and goes to L1 after its first superframe (R191). -/
def Dev.enterRun (s : Dev) (L : Nat) : Dev :=
  let s := (((s.putLn F.LANE_LANE_STAT_STATE L lRun).putLn F.LANE_LANE_STAT_TIME_VALID L 1).raiseLn F.LANE_LANE_EVT_RETRAINED L).putLn
    F.LANE_LANE_STAT_RETRY L 0
  let s := s.setLane L { s.lane L with once := false, rks := [], rem := false, jump := 0, follow := false, pwrPend := none, exit := none,
                                       first := s.isUp L, gap := 0, viol := [] }
  if 64 ≤ L ∨ s.isPair L then s
  else if s.spared L ∧ (s.otherCarries L ∨ s.isSpare L) then
    (s.putLn F.LANE_LANE_STAT_CARRYING L 0).setLane L { s.lane L with pwrPend := some 1 }
  else s.putLn F.LANE_LANE_STAT_CARRYING L 1

/-- The receiver starts anew at the end of L3 (R192, R194). -/
def LaneSt.awake (x : LaneSt) : LaneSt := { x with rd := none, gap := 0, viol := [] }

/-- The record of the partner (R173, R199). -/
def Dev.recordPeer (s : Dev) (L : Nat) (t : Trn) : Dev :=
  let s := ((s.putLn F.LANE_LANE_PEER_P_ROLE L t.role).putLn F.LANE_LANE_PEER_P_PLANE L t.plane).putLn F.LANE_LANE_PEER_P_LANE L t.lane
  (s.putLn F.LANE_LANE_PEER_P_MODE L t.mode).putLn F.LANE_LANE_PEER_P_PRIM L t.prim

/-- The hop delay comes into force at this end. -/
def Dev.setDelay (s : Dev) (L d : Nat) : Dev :=
  let changed := decide (s.ln F.LANE_LANE_DELAY_DELAY L ≠ d % 2 ^ 32)
  let s := s.putLn F.LANE_LANE_DELAY_DELAY L d
  if s.role = .concentrator ∧ 64 ≤ L ∧ changed ∧ ¬ s.proto.dchg.contains (L - 64) then
    { s with proto := { s.proto with dchg := s.proto.dchg ++ [L - 64] } }
  else s

/-- An intact /TRN/ arrives (R173 to R178, R190, R192). -/
def Dev.trnReceive (s : Dev) (L : Nat) (t : Trn) : Dev :=
  if ¬ s.hasLane L then s
  else
    let st := s.lState L
    let up := decide (2 ≤ t.state) && decide (t.state ≤ 5)
    if s.lnFlag F.LANE_LANE_STAT_HOLDOFF L ∧ up then s.putLn F.LANE_LANE_STAT_HOLDOFF L 0
    else if 2 ≤ st ∧ st ≤ 4 ∧ t.state = lDetect ∧ (s.lane L).seenUp then
      s.attempt L lDetect { LaneSt.fresh with once := (s.lane L).once }
    else
      let s := s.iff (decide (2 ≤ st) && decide (st ≤ 4)) fun s => s.setLane L { s.lane L with seenUp := (s.lane L).seenUp || up, rdy := t.rdy }
      let x := s.lane L
      if st = lAlign then
        if ¬ x.aligned then s
        else if x.trn = 0 then s.setLane L { x with trn := 1 }
        else (((s.recordPeer L t).putLn F.LANE_LANE_STAT_STATE L lAdapt).putLn F.LANE_LANE_STAT_ADAPT_FROZEN L 0).setLane L { x with trn := 2 }
      else if st = lAdapt then s.adaptExit L
      else if st = lSync then
        if s.isUp L then s.iff (x.meas && t.got) fun s => s.enterRun L
        else if t.result = 0 then s
        else ((s.putLn F.LANE_LANE_DELAY_MEAS L (t.result - 1)).setDelay L (t.result - 1)).setLane L { x with meas := true }
      else if st = lRun ∧ ¬ s.isUp L ∧ t.pwr ≠ 2 then
        if t.pwr = 0 ∨ s.ln F.LANE_LANE_STAT_PSTATE L = 3 then
          let x := if s.ln F.LANE_LANE_STAT_PSTATE L = 3 ∧ t.pwr ≠ 3 then x.awake else x
          (s.putLn F.LANE_LANE_STAT_PSTATE L t.pwr).setLane L { x with pwrPend := none }
        else s.setLane L { x with pwrPend := if s.ln F.LANE_LANE_STAT_PSTATE L = t.pwr then none else some t.pwr }
      else s

/-- A state's timer expires (R176). -/
def Dev.laneTimeout (s : Dev) (L : Nat) : Dev :=
  let st := s.lState L
  if s.attempting L ∨ (2 ≤ st ∧ st ≤ 4) then s.laneFail L else s

/-- The back-off ends and the next attempt begins (R176). -/
def Dev.backoffEnd (s : Dev) (L : Nat) : Dev := s.putLn F.LANE_LANE_STAT_HOLDOFF L 0

/-- One attempt out of LANE_ABSENT (R177). -/
def Dev.absentAttempt (s : Dev) (L : Nat) : Dev :=
  if s.lState L = lAbsent then s.attempt L lDetect { LaneSt.fresh with once := true } else s

/-- Signal appears after at least 100 ns without (R176, R177). -/
def Dev.signalAppear (s : Dev) (L : Nat) : Dev :=
  if s.lState L = lDetect then s.backoffEnd L else s.absentAttempt L

/-- The 2 µs of transmitter idle end (R181). -/
def Dev.idleEnd (s : Dev) (L : Nat) : Dev := s.setLane L { s.lane L with idle := false }

/-- A lane is lost (R180, R181); loss of signal also ends a far-end loop (R198). -/
def Dev.laneLost (s : Dev) (L cause : Nat) : Dev :=
  if s.inL01 L ∧ 1 ≤ cause ∧ cause ≤ 3 then
    ((s.putLn F.LANE_LANE_ERR_LOSS_CAUSE L cause).raiseLn F.LANE_LANE_EVT_LOSS L).toDetect L true
  else if s.lState L = lLoop ∧ s.ln F.LANE_LANE_CFG_LOOP L = 3 ∧ cause = 1 then
    (s.putLn F.LANE_LANE_CFG_LOOP L 0).toDetect L false
  else s

/-- Op RETRAIN (R179, R180). -/
def Dev.laneRetrain (s : Dev) (L : Nat) : Dev :=
  let st := s.lState L
  if 2 ≤ st ∧ st ≤ 5 then (s.putLn F.LANE_LANE_ERR_LOSS_CAUSE L 4).toDetect L true else s

/-! ## Receiver adaptation (R182, R184) -/

/-- Every tap of the new list lies within `lim` of the old one. -/
def tapsWithin (lim : Nat) (a b : List Int) : Bool := decide (a.length = b.length) && (List.zipWith (fun x y => decide ((x - y).natAbs ≤ lim)) a b).all id

/-- A window of 1024 symbols ends with `trans` bit transitions and the taps that its update would give (R182, R184). -/
def Dev.windowEnd (s : Dev) (L trans : Nat) (taps : List Int) : Dev :=
  let st := s.lState L
  if ¬ (st = lAdapt ∨ s.inL01 L) then s
  else
    let s := s.putLn F.LANE_LANE_ADAPT_DENS L (trans * 100 / 10240)
    if trans * 100 < 30 * 10240 then s.incLn F.LANE_LANE_ADAPT_SKIP_CNT L 1
    else if s.lnFlag F.LANE_LANE_STAT_ADAPT_FROZEN L then s
    else
      let x := s.lane L
      if st = lAdapt then
        let n := if tapsWithin 1 taps x.taps then x.setN + 1 else 0
        (s.setLane L { x with taps := taps, setN := n, settled := x.settled || decide (16 ≤ n) }).adaptExit L
      else
        let ms := s.now / 10 ^ 6
        let x := if x.tapMs = ms ∧ x.tapRef ≠ [] then x else { x with tapMs := ms, tapRef := x.taps }
        let s := s.setLane L { x with taps := taps }
        if x.tapRef = [] ∨ tapsWithin (s.blkLn F.LANE_ADAPT_CFG_DRIFT_LIM L) taps x.tapRef then s
        else (s.putLn F.LANE_LANE_STAT_ADAPT_FROZEN L 1).raiseLn F.LANE_LANE_EVT_FREEZE L

/-! ## Received code groups (R169, R180, R195) -/

/-- Bit transitions of code groups after the bit `b` (R182). -/
def transitions (b : Nat) : List Nat → Nat
  | [] => 0
  | g :: l => ones 10 (Nat.xor g (b * 512 + g / 2)) + transitions (g % 2) l

/-- What a run of received code groups shows: code violations, disparity errors, and the loss cause that they give, 0 none. -/
structure RxSum where
  cv    : Nat
  disp  : Nat
  cause : Nat
deriving DecidableEq, Repr

/-- One received code group (R169): one that is not in the tables is a code violation, one with the wrong disparity a disparity error.
`run`: the lane is in RUN, where four violations within 16 symbols or 1024 symbols without K28.5 lose it (R180). -/
def rxGroup (run : Bool) (p : LaneSt × RxSum) (g : Nat) : LaneSt × RxSum :=
  if p.2.cause ≠ 0 then p
  else
    let x := p.1
    let d := decodeGroup x.rd g
    let bad := d.isNone
    let dis := match d with | some (_, _, ok) => !ok | none => false
    let gap := match d with | some (true, b, _) => if b = comma then 0 else x.gap + 1 | _ => x.gap + 1
    let viol := (bad :: x.viol).take 16
    let cause := if ¬ run then 0 else if 4 ≤ (viol.filter id).length then 3 else if 1024 ≤ gap then 2 else 0
    ({ x with rd := rdNext x.rd g, bit := g % 2, gap := gap, viol := viol }, { cv := p.2.cv + b2n bad, disp := p.2.disp + b2n dis, cause := cause })

/-- The receiver counts what it decodes (R169, R199). -/
def Dev.rxCount (s : Dev) (L : Nat) (groups : List Nat) : RxSum × Dev :=
  let r := groups.foldl (rxGroup (s.inL01 L)) (s.lane L, { cv := 0, disp := 0, cause := 0 })
  (r.2, ((s.setLane L r.1).incLn F.LANE_LANE_ERR_CV_CNT L r.2.cv).incLn F.LANE_LANE_ERR_DISP_CNT L r.2.disp)

/-- One byte of a near-end loop (R195): counted in CV_CNT where it is not the next one of the test sequence. -/
def Dev.loopByte (s : Dev) (L g : Nat) : Dev :=
  let x := s.lane L
  let n := prbsByte x.prbs
  let ok := match decodeGroup x.rd g with | some (false, b, _) => decide (b = n.2) | _ => false
  (s.setLane L { x with rd := rdNext x.rd g, prbs := n.1 }).incLn F.LANE_LANE_ERR_CV_CNT L (b2n (!ok))

/-- The lane is in a near-end loop (R195). -/
def Dev.nearLoop (s : Dev) (L : Nat) : Bool :=
  s.hasLane L && decide (s.lState L = lLoop) && (decide (s.ln F.LANE_LANE_CFG_LOOP L = 1) || decide (s.ln F.LANE_LANE_CFG_LOOP L = 2))

/-- The receiver has symbol alignment and decodes. -/
def Dev.decoding (s : Dev) (L : Nat) : Bool :=
  let st := s.lState L
  s.hasLane L && (decide (st = lAlign) && (s.lane L).aligned || decide (st = lAdapt) || decide (st = lSync)) || s.inL01 L || s.farLoop L

/-- ADAPT_WINDOW: 1024 received code groups and the taps that an update from them would give (R169, R182, R184, R195). -/
def Dev.adaptWindow (s : Dev) (L : Nat) (groups : List Nat) (taps : List Int) : Dev :=
  if s.nearLoop L then s.each groups fun s g => s.loopByte L g
  else if ¬ s.decoding L then s
  else
    let n := transitions (s.lane L).bit groups
    let r := s.rxCount L groups
    if r.1.cause ≠ 0 then r.2.laneLost L r.1.cause else r.2.windowEnd L n taps

/-- LANE_LOSS: the code groups received since the last window, and the cause at which the lane is lost (R169, R180, R198). -/
def Dev.laneLoss (s : Dev) (L cause : Nat) (groups : List Nat) : Dev :=
  if ¬ s.decoding L then s.laneLost L cause
  else
    let r := s.rxCount L groups
    r.2.laneLost L (if r.1.cause ≠ 0 then r.1.cause else cause)

/-- Op UNFREEZE (R184). -/
def Dev.unfreeze (s : Dev) (L : Nat) : Dev :=
  (s.putLn F.LANE_LANE_STAT_ADAPT_FROZEN L 0).setLane L { s.lane L with tapRef := [] }

/-! ## Hop delay (R186, R188) -/

/-- Insertion into a rising list. -/
def insertInt (x : Int) : List Int → List Int
  | [] => [x]
  | y :: l => if x ≤ y then x :: y :: l else y :: insertInt x l

def sortInt : List Int → List Int
  | [] => []
  | x :: l => insertInt x (sortInt l)

/-- The hop delay in 2⁻⁸ ns of exchanges in units of 78.125 ps, `k` of them discarded at each end (R186). -/
def hopDelay (rks : List Int) (k : Nat) (asym : Int) : Int :=
  let mid := ((sortInt rks).drop k).take (rks.length - 2 * k)
  let n := mid.length
  roundDiv true (mid.foldl (· + ·) 0 * 20 - asym * (n : Int)) (2 * n)

/-- A new estimate of D in RUN or L1 (R188). -/
def Dev.remeasured (s : Dev) (L : Nat) (d : Int) : Dev :=
  let cur : Int := (s.ln F.LANE_LANE_DELAY_DELAY L : Nat)
  let slew : Int := (s.blkLn F.LANE_REMEAS_CFG_SLEW L : Nat)
  let x := s.lane L
  let e := d - cur
  let near := decide (e.natAbs ≤ s.blkLn F.LANE_REMEAS_CFG_JUMP_LIM L)
  let n := if near then 0 else x.jump + 1
  let jumped := !near && !x.follow && decide (4 ≤ n)
  let go := near || x.follow || jumped
  let cur' := if go then cur + clampI (-slew) slew e else cur
  let follow := (x.follow || jumped) && decide (slew < (d - cur').natAbs)
  let s := s.setLane L { x with rks := [], rem := false, jump := n, follow := follow }
  let s := ((s.putLn F.LANE_LANE_DELAY_MEAS L d.toNat).setDelay L cur'.toNat).emit (.rdbk L (.result cur'.toNat))
  let s := s.putLn F.LANE_LANE_STAT_SLEWING L (b2n (decide (cur' ≠ d)))
  s.iff jumped fun s => s.raiseLn F.LANE_LANE_EVT_DELAY_JUMP L

/-- A delay exchange arrives (R186, R188). At the upstream end it is the reply, with t1 to t4 in units of 78.125 ps: the next exchange
starts, or D is formed and goes to the other end. At the downstream end it is a request, with t2 and t3, to which the turnaround is
returned, or, where `result` is not 0, it carries the delay plus 1. -/
def Dev.rdbkReceive (s : Dev) (L : Nat) (t1 t2 t3 t4 : Nat) (result : Nat) : Dev :=
  let x := s.lane L
  let r : Int := ((t4 : Int) - (t1 : Int)) - ((t3 : Int) - (t2 : Int))
  let asym := sgn 16 (s.ln F.LANE_LANE_CFG_ASYM L)
  if ¬ s.hasLane L then s
  else if ¬ s.isUp L then
    if ¬ (s.inL01 L ∨ s.lState L = lSync) then s
    else if result = 0 then s.emit (.rdbk L (.reply (t3 - t2)))
    else
      let s := (s.putLn F.LANE_LANE_DELAY_MEAS L (result - 1)).setDelay L (result - 1)
      s.iff (decide (s.lState L = lSync)) fun s => s.setLane L { s.lane L with meas := true }
  else if s.lState L = lSync ∧ ¬ x.meas then
    if 512000 < r then s.laneFail L
    else
      let l := r :: x.rks
      if l.length < 64 then (s.setLane L { x with rks := l }).rdbkAsk L
      else
        let d := (hopDelay l 8 asym).toNat
        ((s.putLn F.LANE_LANE_DELAY_MEAS L d).setDelay L d).setLane L { x with rks := [], meas := true }
  else if s.inL01 L ∧ x.rem then
    let l := r :: x.rks
    if l.length < 8 then (s.setLane L { x with rks := l }).rdbkAsk L else s.remeasured L (hopDelay l 1 asym)
  else s

/-- A remeasurement starts (R188). -/
def Dev.remeasure (s : Dev) (L : Nat) : Dev :=
  if s.isUp L ∧ s.inL01 L then (s.setLane L { s.lane L with rem := true, rks := [] }).rdbkAsk L else s

/-- Every INTERVAL ms (R188). -/
def Dev.remeasInterval (s : Dev) (L : Nat) : Dev :=
  if s.blkLn F.LANE_REMEAS_CFG_INTERVAL L = 0 then s else s.remeasure L

/-! ## Power states and test loops (R192 to R198) -/

/-- A power state asked for at the upstream end (R192): L1 and L3 are entered after the superframe in progress. -/
def Dev.pwrAsk (s : Dev) (L p : Nat) : Dev :=
  let cur := s.ln F.LANE_LANE_STAT_PSTATE L
  let x := s.lane L
  if s.lState L ≠ lRun ∨ p = cur ∧ x.pwrPend = none then s
  else if cur = 3 then s.setLane L { x with exit := some p }
  else if p = 0 then (s.putLn F.LANE_LANE_STAT_PSTATE L 0).setLane L { x with pwrPend := none }
  else s.setLane L { x with pwrPend := some p }

/-- The superframe in progress has ended: a power state that waits for it is entered (R192), once the first /SOF/ has left (R175). -/
def Dev.pwrEnter (s : Dev) (L : Nat) : Dev :=
  match (s.lane L).pwrPend with
  | none => s
  | some p =>
    if (s.lane L).first then s
    else ((s.setLane L { s.lane L with pwrPend := none, exit := none })).iff (s.inRun L) fun s => s.putLn F.LANE_LANE_STAT_PSTATE L p

/-- A boundary ends the superframe in progress on every lane. -/
def Dev.pwrBoundary (s : Dev) : Dev := s.each s.lanes.st fun (s : Dev) e => s.pwrEnter e.1

/-- A superframe leaves on a lane. -/
def Dev.sofSent (s : Dev) (L : Nat) : Dev := if (s.lane L).first then s.setLane L { s.lane L with first := false } else s

/-- The exit from L3 ends at the upstream end (R194): eight exchanges verify D. -/
def Dev.l3Exit (s : Dev) (L : Nat) (rks : List Int) : Dev :=
  let x := s.lane L
  match x.exit with
  | none => s
  | some p =>
    if s.lState L ≠ lRun ∨ s.ln F.LANE_LANE_STAT_PSTATE L ≠ 3 ∨ rks.length ≠ 8 then s
    else
      let d := hopDelay rks 1 (sgn 16 (s.ln F.LANE_LANE_CFG_ASYM L))
      let s := s.each rks fun s _ => s.rdbkAsk L
      if s.blkLn F.LANE_REMEAS_CFG_JUMP_LIM L < (d - (s.ln F.LANE_LANE_DELAY_DELAY L : Nat)).natAbs then
        ((s.putLn F.LANE_LANE_ERR_LOSS_CAUSE L 5).raiseLn F.LANE_LANE_EVT_LOSS L).toDetect L true
      else (s.putLn F.LANE_LANE_STAT_PSTATE L p).setLane L { (s.lane L).awake with exit := none }

/-- LOOP is entered (R197). -/
def Dev.enterLoop (s : Dev) (L : Nat) : Dev :=
  if s.lState L = lDisabled then s else (s.leaveRun L).attempt L lLoop { LaneSt.fresh with prbs := Config.prbsSeed % 2 ^ 31 }

/-- A loop ends (R198). -/
def Dev.loopEnd (s : Dev) (L : Nat) : Dev := if s.lState L = lLoop then s.toDetect L false else s

/-- `LOOP_TMO` expires (R198). -/
def Dev.loopTimeout (s : Dev) (L : Nat) : Dev :=
  if s.lState L = lLoop ∧ s.ln F.LANE_LANE_CFG_LOOP L = 3 ∧ s.blkLn F.LANE_LOOP_CFG_LOOP_TMO L ≠ 0 then
    ((s.raiseLn F.LANE_LANE_EVT_LOOP_END L).putLn F.LANE_LANE_CFG_LOOP L 0).loopEnd L
  else s

/-- The lane becomes enabled or disabled (R179). -/
def Dev.laneOn (s : Dev) (L : Nat) : Dev := if s.lState L = lDisabled then s.toDetect L false else s
def Dev.laneOff (s : Dev) (L : Nat) : Dev :=
  ((s.leaveRun L).attempt L lDisabled LaneSt.fresh).putLn F.LANE_LANE_STAT_CARRYING L 0

/-- A write of `LANE_CFG` (R168, R179, R192, R195, R196, R199): `busy` tells that R196 refuses a far-end loop. -/
def Dev.laneCfgWrite (s : Dev) (L w : Nat) (busy : Bool) : Acted :=
  let up := s.isUp L
  let old := fun g => s.ln g L
  let pwr := if up then bits w 29 2 else old F.LANE_LANE_CFG_PWR
  let rate := if up then bits w 22 2 else old F.LANE_LANE_CFG_RATE
  let loop := bits w 26 3
  let en := bits w 31 1
  if ¬ s.hasLane L then s.deny .invalid
  else if pwr = 2 ∨ rate = 3 ∨ 3 < loop then s.deny .invalid
  else if loop = 3 ∧ old F.LANE_LANE_CFG_LOOP ≠ 3 ∧ busy then s.deny .busy
  else
    let lo := old F.LANE_LANE_CFG_LOOP
    let ro := old F.LANE_LANE_CFG_RATE
    let s := ((s.putLn F.LANE_LANE_CFG_EN L en).putLn F.LANE_LANE_CFG_PWR L pwr).putLn F.LANE_LANE_CFG_LOOP L loop
    let s := ((s.putLn F.LANE_LANE_CFG_TXINV L (bits w 25 1)).putLn F.LANE_LANE_CFG_RXINV L (bits w 24 1)).putLn F.LANE_LANE_CFG_RATE L rate
    let s := s.putLn F.LANE_LANE_CFG_ASYM L (bits w 0 16)
    (.ok,
      if en = 0 then s.laneOff L
      else if s.lState L = lDisabled then (s.laneOn L).iff (decide (loop ≠ 0)) fun s => s.enterLoop L
      else if loop ≠ 0 ∧ loop ≠ lo then s.enterLoop L
      else if loop = 0 ∧ lo ≠ 0 then s.loopEnd L
      else if rate ≠ ro ∧ 2 ≤ s.lState L ∧ s.lState L ≤ 5 then s.toDetect L true
      else if up then s.pwrAsk L pwr
      else s)

/-- The word of `LANE_CFG`. -/
def Dev.laneCfg (s : Dev) (L : Nat) : Nat :=
  s.ln F.LANE_LANE_CFG_EN L * 2 ^ 31 + s.ln F.LANE_LANE_CFG_PWR L * 2 ^ 29 + s.ln F.LANE_LANE_CFG_LOOP L * 2 ^ 26 +
  s.ln F.LANE_LANE_CFG_TXINV L * 2 ^ 25 + s.ln F.LANE_LANE_CFG_RXINV L * 2 ^ 24 + s.ln F.LANE_LANE_CFG_RATE L * 2 ^ 22 +
  s.ln F.LANE_LANE_CFG_ASYM L

/-- A write of one field of `LANE_CFG`, the others as they are. -/
def Dev.laneCfgField (s : Dev) (L lo w v : Nat) (busy : Bool) : Acted := s.laneCfgWrite L (putBits (s.laneCfg L) lo w v) busy

end Sys2Proof.Machine
end

