-- ==== Sys2Proof/Machine/Gate.lean ====
section
/-! DEFINITION. The CELL role (09_cell_role, R232 to R265; 12_plane_redundancy, R297 to R299): gate positions and edges,
adaptive dead time, carrier mode, desaturation, block action, lanes and station time, measurements, auxiliary supply, bypass,
states, wake and dormancy. Times of edges are in units of 2⁻⁶ ns. -/

namespace Sys2Proof.Machine

/-- Cell states (R218). -/
def gWaking : Nat := 0
def gReady : Nat := 1
def gRun : Nat := 2
def gBlocked : Nat := 3
def gBypassed : Nat := 4
def gFault : Nat := 5

/-- Causes (R265). -/
def cCmd : Nat := 0
def cRoadblock : Nat := 1
def cLane : Nat := 2
def cHalt : Nat := 3
def cDesat : Nat := 4
def cSense : Nat := 5
def cVsense : Nat := 6
def cAux : Nat := 7
def cWake : Nat := 8

/-- Positions (R141). -/
def pOut : Nat := 0
def pPos : Nat := 1
def pNeg : Nat := 2
def pBlocked : Nat := 3

def Leg.off : Leg := { drv := false, hi := false, lo := false, tr := none, sf := 0, onAt := 0 }

def Dev.gState (s : Dev) : Nat := s.f F.GATE_STAT_STATE

/-- The device is a CELL that is awake, and its state. -/
def Dev.awake (s : Dev) : Bool := decide (s.role = .cell) && !s.gate.dormant
def Dev.gIs (s : Dev) (st : Nat) : Bool := s.awake && decide (s.gState = st)

/-- Station time in 2⁻⁶ ns. -/
def Dev.nowW (s : Dev) : Nat := (s.nowFix / 2 ^ 34).toNat

/-- Short time as station time near the present (R3). -/
def Dev.longTime (s : Dev) (short : Nat) : Nat :=
  ((s.now : Int) + sgn 32 (wrap 32 ((short : Int) - (s.now : Int)))).toNat

/-! ## Log, counters, states (R259, R262, R265) -/

/-- A lifetime counter; it saturates. -/
def Dev.life (s : Dev) (k n : Nat) : Dev := s.inc F.GATE_LIFE_CNT n k

/-- 32.768 kHz ticks (R262, R265), of nominal time. -/
def Dev.rtc (s : Dev) : Nat := (s.gate.rtc0 + s.fifths * 32768 / 10 ^ 9) % 2 ^ 48

/-- An entry of the event log (R265): an unread entry that it overwrites is counted. -/
def Dev.logEvent (s : Dev) (code detail : Nat) : Dev :=
  let noT := s.flag F.GATE_STAT_TIME_HOLD || decide (s.f F.GATE_STAT_TLANE = 0)
  let w := s.f F.GATE_LOG_CTL_WR
  let r := s.f F.GATE_LOG_CTL_RD
  let t := if noT then s.rtc else s.now % 2 ^ 48
  let st := s.gState * 32 + s.f F.GATE_STAT_POS * 8 + s.f F.GATE_STAT_MODE * 4 + s.f F.GATE_STAT_TRIP_HOLD * 2 + s.f F.GATE_STAT_TIME_HOLD
  let e := t * 2 ^ 80 + b2n noT * 2 ^ 79 + code * 2 ^ 64 + s.f F.GATE_MEAS_VCAP * 2 ^ 48 + s.f F.GATE_MEAS_TEMP * 2 ^ 40 +
    st * 2 ^ 32 + detail % 2 ^ 32
  let n := (w + 1) % 512
  let s := ({ s with gate := { s.gate with log := Tab.set 0 s.gate.log w e } }).put F.GATE_LOG_CTL_WR n
  s.iff (decide (n = r)) fun s => (s.put F.GATE_LOG_CTL_RD (r + 1)).inc F.GATE_LOG_CTL_OVWR_CNT 1

/-- The halves of the entry at RD (R265): the second read advances RD. -/
def Dev.logWord (s : Dev) (hi : Bool) : Nat :=
  let e := Tab.get 0 s.gate.log (s.f F.GATE_LOG_CTL_RD)
  if hi then e / 2 ^ 64 else e % 2 ^ 64

def Dev.logAdvance (s : Dev) : Dev := s.put F.GATE_LOG_CTL_RD (s.f F.GATE_LOG_CTL_RD + 1)

/-- Seconds spent in RUN so far (R265, k = 1). -/
def Dev.runSecs (s : Dev) : Nat :=
  match s.gate.runAt with
  | none => 0
  | some t => (s.now - t) / 10 ^ 9

/-- The cell changes its state; the change is logged. -/
def Dev.toState (s : Dev) (st : Nat) : Dev :=
  let s := s.iff (decide (s.gState = gRun) && decide (st ≠ gRun)) fun s => (s.life 1 s.runSecs)
  let s := { s with gate := { s.gate with runAt := if st = gRun then some (s.gate.runAt.getD s.now) else none } }
  (s.put F.GATE_STAT_STATE st).logEvent 3 0

def Dev.addCause (s : Dev) (c : Nat) : Dev := s.setBit F.GATE_STAT_CAUSE c true
def Dev.clrCause (s : Dev) (c : Nat) : Dev := s.setBit F.GATE_STAT_CAUSE c false

/-! ## Outputs and transitions (R232 to R239) -/

/-- A change of the position in force at a time in units of 2⁻⁶ ns (R218): the record of a boundary takes the one at its sample. -/
def Dev.posTo (s : Dev) (pos t : Nat) : Dev :=
  let was := s.f F.GATE_STAT_POS
  let s := s.iff (decide (was ≠ pos)) fun s => { s with gate := { s.gate with posLog := s.gate.posLog ++ [(t, was)] } }
  s.put F.GATE_STAT_POS pos

/-- Every gate output to off (R246, R255): pending edges are not issued, the carrier stops, the position is 0b11. A leg that was on makes a
transition to off (R234). -/
def Dev.gatesOff (s : Dev) : Dev :=
  let off := fun (l : Leg) => { l with hi := false, lo := false, tr := none }
  let on := fun (l : Leg) => b2n (l.hi || l.lo)
  let n := on s.gate.legA + on s.gate.legB
  (({ s with gate := { s.gate with legA := off s.gate.legA, legB := off s.gate.legB, period := none, edges := [], edgeWait := none } }).posTo
    pBlocked s.nowW).iff (decide (n ≠ 0)) fun s => s.life 0 n

/-- The outputs become driven or high-impedance (R232): leg B only in a full-bridge cell. -/
def Dev.gatesDrive (s : Dev) (on : Bool) : Dev :=
  { s with gate := { s.gate with
    legA := { s.gate.legA with drv := on }, legB := { s.gate.legB with drv := on && s.flag F.GATE_CTL_FB } } }

/-- A leg is inside a transition: its incoming switch is not yet on (R236). -/
def Leg.inside (l : Leg) : Bool := match l.tr with | some t => t.on.isNone | none => false
def Dev.moving (s : Dev) : Bool := s.gate.legA.inside || s.gate.legB.inside

/-- The dead-time settings that a transition takes at its start (R239). -/
def Dev.dtCfg (s : Dev) : DtCfg :=
  { min := s.f F.GATE_DT_CFG_DT_MIN * 64, max := s.f F.GATE_DT_CFG_DT_MAX * 64, margin := s.f F.GATE_DT_CFG_MARGIN * 64,
    tmo := s.f F.GATE_DT_CFG_NODE_TMO * 64 }

/-- A leg goes to its upper or lower switch at T0 (R234). -/
def Leg.goTo (l : Leg) (cfg : DtCfg) (hi : Bool) (t0 exec : Nat) : Leg :=
  if l.hi = hi ∧ l.lo = !hi then l
  else if l.hi ∨ l.lo then { l with hi := false, lo := false, tr := some { t0 := t0, hi := hi, exec := exec, node := none, on := none, cfg := cfg } }
  else { l with hi := hi, lo := !hi, tr := none, onAt := t0 }

/-- The upper switch of a leg conducts in a position (R233). -/
def posHiA (pos : Nat) : Bool := decide (pos = pPos)
def posHiB (pos : Nat) : Bool := decide (pos = pNeg)

/-- A change of position at T0 (R233, R234). -/
def Dev.setPos (s : Dev) (pos t0 exec : Nat) : Dev :=
  let a := s.gate.legA.goTo s.dtCfg (posHiA pos) t0 exec
  let b := if s.flag F.GATE_CTL_FB then s.gate.legB.goTo s.dtCfg (posHiB pos) t0 exec else s.gate.legB
  let n := b2n (decide (a ≠ s.gate.legA)) + b2n (decide (b ≠ s.gate.legB))
  (({ s with gate := { s.gate with legA := a, legB := b } }).posTo pos t0).life 0 n

/-- T0 of a command or of a carrier edge: its time and the trim (R234, R240). -/
def Dev.t0W (s : Dev) (w : Nat) : Nat := ((w : Int) + sgn 16 (s.f F.GATE_EDGE_TRIM_TRIM) * 5).toNat
def Dev.t0Of (s : Dev) (execNs : Nat) : Nat := s.t0W (execNs * 64)

/-- Time goes on to the end of the CELL-CORE cycle of 4 ns that holds a time in 2⁻⁶ ns: what stops an edge or a command of that cycle comes
before it (R216, R246; log entry 119). -/
def Dev.pastCycle (s : Dev) (w : Nat) : Dev := s.advanceTo ((w / 256 + 1) * 4)

/-- The start in 2⁻⁶ ns of the CELL-CORE cycle in progress. -/
def Dev.cycleW (s : Dev) : Nat := s.now / 4 * 256

/-- Leg B follows `FB` when it is written (R232, R233): in a half-bridge cell it is high-impedance, in a full-bridge cell it is driven as
leg A is, in RUN to the position in force. -/
def Dev.fbSync (s : Dev) : Dev :=
  if s.flag F.GATE_CTL_FB then
    let s := { s with gate := { s.gate with legB := { s.gate.legB with drv := s.gate.legA.drv } } }
    let pos := s.f F.GATE_STAT_POS
    if s.gIs gRun ∧ pos ≠ pBlocked ∧ ¬ s.moving then s.setPos pos s.nowW s.nowW else s
  else { s with gate := { s.gate with legB := { Leg.off with sf := s.gate.legB.sf, onAt := s.gate.legB.onAt } } }

def Dev.leg (s : Dev) (k : Nat) : Leg := if k = 0 then s.gate.legA else s.gate.legB
def Dev.setLeg (s : Dev) (k : Nat) (l : Leg) : Dev :=
  if k = 0 then { s with gate := { s.gate with legA := l } } else { s with gate := { s.gate with legB := l } }

/-- The offset of an edge for SWT, in units of 78.125 ps (R218). -/
def swtOf (t exec : Nat) : Int := clampI (-0x7FFE) 0x7FFE (((t : Int) - (exec : Int)) / 5)

/-- The node sense of a leg changes to the incoming side `tn` units of 78.125 ps after T0 (R237 to R239). -/
def Dev.nodeSeen (s : Dev) (k tn : Nat) : Dev :=
  let l := s.leg k
  match l.tr with
  | none => s
  | some t =>
    let n := tn * 5
    let ok : Bool := match t.on with | none => decide (n ≤ t.cfg.max) | some d => decide (n ≤ d + t.cfg.tmo)
    if t.node.isSome ∨ ¬ ok then s
    else
      let s := s.setLeg k { l with sf := 0, tr := if t.on.isSome then none else some { t with node := some n } }
      { s with gate := { s.gate with swt := s.gate.swt ++ [(t.t0 + n, swtOf (t.t0 + n) t.exec)] } }

/-- The incoming switch of a leg turns on `d` after T0. -/
def Dev.switchOn (s : Dev) (k d : Nat) : Dev :=
  let l := s.leg k
  match l.tr with
  | none => s
  | some t =>
    let s := s.pastCycle (t.t0 + d)
    let l := { l with hi := t.hi, lo := !t.hi, tr := if t.node.isSome then none else some { t with on := some d }, onAt := t.t0 + d }
    (s.setLeg k l).put F.GATE_DT_STAT_LAST (d / 64)

/-- The end of the adaptive dead time (R237). -/
def Dev.incomingOn (s : Dev) (k : Nat) : Dev :=
  match (s.leg k).tr with
  | some { node := some n, on := none, cfg := c, .. } => s.switchOn k (max c.min (min c.max (n + c.margin)))
  | _ => s

/-- The node is not seen by DT_MAX (R238). -/
def Dev.dtMax (s : Dev) (k : Nat) : Dev :=
  match (s.leg k).tr with
  | some { node := none, on := none, cfg := c, .. } =>
    ((s.switchOn k c.max).raise F.GATE_EVT_DT_MAXED).inc F.GATE_DT_STAT_MAXED_CNT 1
  | _ => s

/-! ## Faults, block action, bypass (R244 to R246, R254 to R259) -/

/-- RUN, READY or BLOCKED move to FAULT with a cause (R259); a cell in FAULT has one cause more. -/
def Dev.toFault (s : Dev) (c : Nat) : Dev :=
  if s.gIs gRun ∨ s.gIs gReady ∨ s.gIs gBlocked then ((s.gatesOff).addCause c).toState gFault
  else if s.gIs gFault then s.addCause c else s

/-- The node is not seen within NODE_TMO either (R238). -/
def Dev.nodeTimeout (s : Dev) (k : Nat) : Dev :=
  let l := s.leg k
  match l.tr with
  | some { node := none, on := some d, t0 := t0, cfg := c, .. } =>
    let s := ((s.pastCycle (t0 + d + c.tmo)).raise F.GATE_EVT_SENSE_FAIL).inc F.GATE_DT_STAT_SF_CNT 1
    let s := s.setLeg k { l with tr := none, sf := l.sf + 1 }
    s.iff (decide (4 ≤ l.sf + 1)) fun s => s.toFault cSense
  | _ => s

/-- The block action with a cause (R246). -/
def Dev.blockAction (s : Dev) (c : Nat) : Dev :=
  if ¬ s.awake then s
  else
    let run := decide (s.gState = gRun)
    let s := (s.gatesOff).addCause c
    let s := s.iff run fun s => s.toState gBlocked
    s.iff (!run && decide (c ≠ cRoadblock) && decide (c ≠ cLane)) fun s => s.logEvent 3 0

/-- OTP bits programmed or being programmed (R256). -/
def Dev.otpBits (s : Dev) : Nat := s.f F.GATE_BYP_STAT_OTP_USED + s.gate.otpDue

/-- A firing circuit acts (R255): held in mode 0, a pulse in mode 1. -/
def Dev.bypOut (s : Dev) (y : Bool) : Dev :=
  if y then
    if s.flag F.GATE_BYP_Y_CFG_MODE then s.emit (.bypPulse 1) else { s with gate := { s.gate with bypY := true } }
  else
    if s.flag F.GATE_BYP_CFG_MODE then s.emit (.bypPulse 0) else { s with gate := { s.gate with bypX := true } }

/-- A bypass channel fires (R254 to R256, R259): the other one follows, channel X only where its CORE domain is powered. `cause` is the bit
of `X_CAUSE`. -/
def Dev.fire (s : Dev) (y : Bool) (cause : Nat) : Dev :=
  if s.role ≠ .cell ∨ (if y then ¬ s.gate.yOn else s.gate.dormant) then s
  else
    let s := s.iff (!y) fun s => s.setBit F.GATE_BYP_STAT_X_CAUSE cause true
    if s.flag F.GATE_BYP_STAT_FIRED then s
    else
      let s := ((s.raise F.GATE_BYP_STAT_FIRED).put F.GATE_BYP_STAT_FIRST_Y (b2n y)).raise F.GATE_EVT_BYP_FIRED
      let s := { s with gate := { s.gate with fired := if s.gate.dormant then 2 else 3, otpDue := if s.otpBits < 32 then s.gate.otpDue + 1 else s.gate.otpDue } }
      let s := ((s.bypOut y).iff (!s.gate.dormant) fun s => s.bypOut (!y)).gatesOff
      let s := s.iff (!s.gate.dormant && decide (s.gState ≠ gBypassed)) fun s => (s.gatesDrive true).toState gBypassed
      (s.life 6 1).logEvent 7 (s.f F.GATE_BYP_STAT_X_CAUSE * 2 ^ 20 + b2n y * 2 ^ 30)

/-- One OTP bit has been programmed (R256). -/
def Dev.otpRecord (s : Dev) : Dev :=
  if s.gate.otpDue = 0 then s
  else
    let s := ({ s with gate := { s.gate with otpDue := s.gate.otpDue - 1 } }).put F.GATE_BYP_STAT_OTP_USED (s.f F.GATE_BYP_STAT_OTP_USED + 1)
    s.put F.GATE_BYP_STAT_OTP_DONE (s.f F.GATE_BYP_STAT_FIRED)

/-- A pulse of a bypass channel in pulse mode, once every second (R255). -/
def Dev.bypPulse (s : Dev) (y : Bool) : Dev :=
  let mode := if y then s.flag F.GATE_BYP_Y_CFG_MODE else s.flag F.GATE_BYP_CFG_MODE
  if s.role = .cell ∧ s.flag F.GATE_BYP_STAT_FIRED ∧ mode ∧ (if y then s.gate.yOn else !s.gate.dormant) then s.emit (.bypPulse (b2n y)) else s

/-- Trips inside the window (R245). -/
def Dev.desatTrips (s : Dev) : List Nat := s.gate.trips.filter fun t => decide (s.now < t + s.f F.GATE_DESAT_CFG_DESAT_WIN * 10 ^ 9)

/-- A leg of which the switch that is on shows desaturation: bits `k` and `k + 1` of the inputs are those of its upper and lower switch. -/
def Leg.desat (l : Leg) (cds k : Nat) : Bool := (bitOf cds k && l.hi) || (bitOf cds (k + 1) && l.lo)

/-- Time goes on to the trip of the first of the legs that show desaturation: `DESAT_BLANK` after the on edge and `DESAT_FILT` cycles more
(R244; log entry 165). -/
def Dev.desatWait (s : Dev) (cds : Nat) : Dev :=
  let t := fun (l : Leg) => (l.onAt + 63) / 64 + s.f F.GATE_DESAT_CFG_DESAT_BLANK + 4 * s.f F.GATE_DESAT_CFG_DESAT_FILT
  let a := s.gate.legA
  let b := s.gate.legB
  s.advanceTo (if ¬ b.desat cds 2 then t a else if ¬ a.desat cds 0 then t b else min (t a) (t b))

/-- The `CDS_*` inputs take levels; one that is high at a switch that is on, past its blanking and filter, trips (R244,
R245). -/
def Dev.desatTrip (s : Dev) (cds : Nat) : Dev :=
  let s := { s with gate := { s.gate with cds := cds % 16 } }
  if ¬ s.gIs gRun ∨ ¬ (s.gate.legA.desat cds 0 || s.gate.legB.desat cds 2) then s
  else
    let s := s.desatWait cds
    let s := ((s.toFault cDesat).raise F.GATE_EVT_DESAT).life 2 1
    let l := s.now :: s.desatTrips
    let s := ({ s with gate := { s.gate with desat := true, trips := l } }).put F.GATE_STAT_DESAT_N (min 15 l.length)
    let s := s.logEvent 4 (cds % 16)
    if l.length < s.f F.GATE_DESAT_CFG_DESAT_MAX then s
    else if s.flag F.GATE_CTL_BYP_ON_DESAT then s.fire false 3
    else s.raise F.GATE_STAT_DESAT_LOCK

/-! ## Measurements and auxiliary supply (R249 to R253) -/

/-- The latest word of a converter channel as a signed code. -/
def Dev.ainCode (s : Dev) (c : Nat) : Int := sgn 16 (s.f F.ADC_LAST_WORD c)

/-- A capacitor voltage (R249). -/
def capVolt (x : Int) (ofs gain : Nat) : Nat := satU 16 (roundDiv true ((x - sgn 16 ofs) * (gain : Int)) (2 ^ 16))

def Dev.vcapNow (s : Dev) : Nat := capVolt (s.ainCode 0) (s.f F.GATE_VMEAS_VOFS) (s.f F.GATE_VMEAS_VGAIN)
def Dev.vcapYNow (s : Dev) : Nat := capVolt (s.ainCode 3) (s.f F.GATE_VMEAS_Y_YOFS) (s.f F.GATE_VMEAS_Y_YGAIN)
def Dev.vauxNow (s : Dev) : Int := s.ainCode 1

/-- The boundary sample (R249, R250, R276): measurements, the cross-check count, the warning, the extremes of LIFE 7. -/
def Dev.gateSample (s : Dev) : Dev :=
  let v := s.vcapNow
  let y := s.vcapYNow
  let temp := if s.flag F.GATE_CTL_TEMP_SRC then Config.therm (s.ainCode 2) % 256 else Config.temp s.free % 256
  let s := { s with free := s.free + 1 }
  let s := ((s.put F.GATE_MEAS_VCAP v).put F.GATE_MEAS_VCAP_Y y).put F.GATE_MEAS_VAUX (wrap 16 s.vauxNow)
  let s := s.put F.GATE_MEAS_TEMP temp
  let both := wValid (s.f F.ADC_LAST_WORD 0) && wValid (s.f F.ADC_LAST_WORD 3)
  let apart := decide (s.f F.GATE_VMEAS_Y_XCHK_LIM < ((v : Int) - (y : Int)).natAbs)
  let s := s.iff both fun s => { s with gate := { s.gate with xchk := if apart then s.gate.xchk + 1 else 0 } }
  let s := s.iff (decide (s.f F.GATE_VLIM_OVW ≤ v)) fun s => s.raise F.GATE_EVT_OV_WARN
  let l := s.f F.GATE_LIFE_CNT 7
  let t := sgn 8 temp
  let hi := if l = 0 then t else max t (sgn 8 (bits l 40 8))
  let lo := if l = 0 then t else min t (sgn 8 (bits l 32 8))
  s.put F.GATE_LIFE_CNT (max v (bits l 48 16) * 2 ^ 48 + wrap 8 hi * 2 ^ 40 + wrap 8 lo * 2 ^ 32) 7

/-- The cross-check has failed on 16 boundaries in succession (R250). -/
def Dev.vsense (s : Dev) : Dev := if 16 ≤ s.gate.xchk then (s.toFault cVsense).logEvent 0x0B 0 else s

/-- A conversion of `AIN0` (R250, R276): the count of the channel X overvoltage; a word clamped at the top reaches it. -/
def Dev.ovxCount (s : Dev) : Dev :=
  let w := s.f F.ADC_LAST_WORD 0
  let high := decide (s.f F.GATE_VLIM_OVX ≤ s.vcapNow) || (wOvr w && decide (wData w = 0x7FFF))
  if s.role ≠ .cell then s
  else { s with gate := { s.gate with ovxN := if high then s.gate.ovxN + 1 else 0 } }

/-- Overvoltage on 4 conversions in succession (R250). -/
def Dev.ovx (s : Dev) : Dev :=
  if 4 ≤ s.gate.ovxN ∧ s.awake ∧ s.flag F.GATE_CTL_OVX_EN then (s.fire false 2).life 5 1 else s

/-- A new pair for the auxiliary supply (R251). -/
def Dev.auxCompute (s : Dev) : Dev :=
  if ¬ s.flag F.GATE_CTL_AUX_AUTO then s
  else
    let v := s.f F.GATE_MEAS_VCAP
    let raw : Int := if v = 0 then (Config.auxTon : Nat) else roundDiv true (s.f F.GATE_AUX_CFG1_KON : Nat) v
    let ton := clampI (s.f F.GATE_AUX_LIM_TON_MIN : Nat) (s.f F.GATE_AUX_LIM_TON_MAX : Nat) raw
    let dp := roundDiv true ((sgn 16 (s.f F.GATE_MEAS_VAUX) - (s.f F.GATE_AUX_CFG0_VREF : Nat)) * (s.f F.GATE_AUX_CFG1_KP : Nat)) 256
    let per := clampI (s.f F.GATE_AUX_LIM_PER_MIN : Nat) (s.f F.GATE_AUX_LIM_PER_MAX : Nat) ((s.f F.GATE_AUX_PER_PER : Nat) + dp)
    let per := max per (ton + 200)
    let tag := s.f F.GATE_AUX_TON_TAG + 1
    ((((s.put F.GATE_AUX_TON_TON ton.toNat).put F.GATE_AUX_PER_PER per.toNat).put F.GATE_AUX_TON_TAG tag).put F.GATE_AUX_PER_TAG tag)

/-- The supply stops (R253). -/
def Dev.auxStop (s : Dev) : Dev := ({ s with gate := { s.gate with auxSw := false } }).put F.GATE_AUX_STAT_RUNNING 0

/-- A switching period boundary (R252, R253): the pair transfers if its tags are equal; TON rises through the soft start. -/
def Dev.auxBoundary (s : Dev) : Dev :=
  if ¬ s.awake ∨ ¬ s.flag F.GATE_AUX_STAT_RUNNING then s
  else if s.vcapNow * 2 < s.f F.GATE_AUX_CFG0_VSTART then s.auxStop
  else
    let eq := decide (s.f F.GATE_AUX_TON_TAG = s.f F.GATE_AUX_PER_TAG)
    let s := if eq then
        ((((s.xferReg F.regGateAuxTon).xferReg F.regGateAuxPer).put F.GATE_AUX_STAT_PER (s.f F.GATE_AUX_PER_PER)).put
          F.GATE_AUX_STAT_TAG (s.f F.GATE_AUX_TON_TAG)).put F.GATE_AUX_STAT_STALE 0
      else (s.raise F.GATE_AUX_STAT_STALE).raise F.GATE_EVT_AUX_STALE
    let full := s.fi F.GATE_AUX_TON_TON
    let lo := s.f F.GATE_AUX_LIM_TON_MIN
    let n := s.f F.GATE_AUX_CFG0_SS
    let k := s.gate.ssN
    let ton : Int := if k < n then (lo : Int) + ((full : Int) - (lo : Int)) * (k : Int) / (n : Int) else full
    ({ s with gate := { s.gate with auxSw := true, ssN := k + 1 } }).put F.GATE_AUX_STAT_TON ton.toNat

/-- The on-time ends (R251), or the current limit ends it (R253). -/
def Dev.auxOnEnd (s : Dev) : Dev := { s with gate := { s.gate with auxSw := false } }
def Dev.auxIlim (s : Dev) : Dev :=
  if s.gate.auxSw then ((s.auxOnEnd).raise F.GATE_EVT_AUX_ILIM).inc F.GATE_AUX_STAT_ILIM_CNT 1 else s

/-- VAUX has stayed below UV for 1 ms (R253). -/
def Dev.auxUnder (s : Dev) : Dev := if s.awake then (s.toFault cAux).logEvent 0x0C 0 else s

/-- VCAP has reached VSTART (R253, R259): the soft start begins in WAKING, or since a RELEASE that found the supply stopped. -/
def Dev.auxStart (s : Dev) : Dev :=
  if ¬ s.awake ∨ s.vcapNow < s.f F.GATE_AUX_CFG0_VSTART then s
  else
    let s := s.iff (s.gIs gWaking && s.gate.vstart.isNone) fun s => { s with gate := { s.gate with vstart := some s.now } }
    if (s.gIs gWaking ∨ s.gate.auxArm) ∧ ¬ s.flag F.GATE_AUX_STAT_RUNNING then
      ({ s with gate := { s.gate with ssN := 0, auxArm := false, auxDrv := true } }).raise F.GATE_AUX_STAT_RUNNING
    else s

/-- A RELEASE that finds the supply stopped lets it start, at once where VCAP suffices (R253; log entry 155). -/
def Dev.auxRelease (s : Dev) : Dev :=
  if s.flag F.GATE_AUX_STAT_RUNNING then s else ({ s with gate := { s.gate with auxArm := true } }).auxStart

/-! ## Carrier (R240 to R243) -/

/-- φ in 2⁻⁶ ns, rounded to 78.125 ps (R240). -/
def Dev.carrPhase (s : Dev) (v : Carr) : Nat :=
  ((v.cphase + s.f F.GATE_CARR_CFG_CELL_PH) % 2 ^ 32 * v.cper * 64 * 2 + 5 * 2 ^ 32) / (10 * 2 ^ 32) * 5

/-- The first carrier boundary at or after a time, in 2⁻⁶ ns. -/
def Dev.carrAfter (s : Dev) (v : Carr) (t : Nat) : Nat :=
  let p := v.cper * 64
  let ph := s.carrPhase v % p
  if t ≤ ph then ph else ph + (t - ph + p - 1) / p * p

/-- A change of position at a carrier edge is a transition with that time as EXEC (R240); it waits for one in progress (R236). -/
def Dev.carrMove (s : Dev) (pos t : Nat) : Dev :=
  if s.moving ∨ s.gate.wait ≠ [] then { s with gate := { s.gate with edgeWait := some (pos, t) } }
  else ({ s with gate := { s.gate with edgeWait := none } }).setPos pos (s.t0W t) t

/-- A carrier boundary (R241 to R243): the shadows transfer and a period starts with its edges. -/
def Dev.carrBoundary (s : Dev) : Dev :=
  match s.gate.shadow with
  | none => s
  | some v =>
    if ¬ s.gIs gRun ∨ s.f F.GATE_STAT_MODE = 0 then s
    else
      let tb := match s.gate.period with | some (_, e) => e | none => s.carrAfter v s.gate.carrAt
      let s := s.pastCycle tb
      let te := match s.gate.period, s.gate.force with
        | some _, some f => if f.cper ≠ v.cper ∨ f.cphase ≠ v.cphase then s.carrAfter v (tb + v.cper * 32) else s.carrAfter v (tb + 1)
        | _, _ => s.carrAfter v (tb + 1)
      let len := te - tb
      let neg := decide (2 ^ 31 ≤ v.duty)
      let d := if neg ∧ ¬ s.flag F.GATE_CTL_FB then 0 else min (sgn 32 v.duty).natAbs (2 ^ 31 - 1)
      let pos := if neg then pNeg else pPos
      let pmin := s.f F.GATE_CARR_CFG_PULSE_MIN * 64 * 2 ^ 31
      let r5 := fun (x : Nat) => (x * 2 + 5 * 2 ^ 32) / (10 * 2 ^ 32) * 5
      let e1 := tb + r5 ((2 ^ 31 - d) * len)
      let e2 := tb + r5 ((2 ^ 31 + d) * len)
      let none' := decide (d * len < pmin)
      let all := decide ((2 ^ 31 - d) * len < pmin)
      let s := { s with gate := { s.gate with force := some v, period := some (tb, te), edges := if none' || all then [] else [(e1, pos), (e2, pOut)] } }
      let s := ((s.put F.GATE_CARR_ACT_DUTY v.duty).put F.GATE_CARR_ACT_CPER v.cper).put F.GATE_STAT_CARR_IDLE 0
      s.carrMove (if none' then pOut else if all then pos else pOut) tb

/-- A carrier edge (R240): the first to come. -/
def Dev.carrEdge (s : Dev) : Dev :=
  match s.gate.edges with
  | [] => s
  | (t, pos) :: l => if s.gIs gRun then (({ s with gate := { s.gate with edges := l } }).pastCycle t).carrMove pos t else s

/-! ## Commands (R235, R236, R216, R258) -/

/-- Refused (R235, R258). -/
def Dev.refuse (s : Dev) : Dev := ({ s with gate := { s.gate with badcmd := true } }).inc F.GATE_CMD_CNT_REFUSE_CNT 1

/-- A switching command outside RUN is discarded (R235). -/
def Dev.notRun (s : Dev) : Dev := if s.gState = gBypassed then s else s.inc F.GATE_CMD_CNT_NOTRUN_CNT 1

/-- The lane whose /SOF/ name a plane (R21, R24): LF0 first. -/
def Dev.planeLane (s : Dev) (p : Nat) : Option Nat :=
  [64, 65].find? fun L => match Tab.find s.proto.sof L with | some x => decide (x.plane = p) | none => false

/-- The followed plane's lane is the time lane (R258). -/
def Dev.onFollowed (s : Dev) : Bool :=
  match s.planeLane s.gate.fplane with
  | some L => decide (s.f F.GATE_STAT_TLANE = L - 63) && decide (s.gate.fplane ≠ 0)
  | none => false

/-- CONFIG RELEASE at its EXEC (R235, R253, R258, R216). R235 gives it the conditions of R258 in WAKING too (log entry 53). -/
def Dev.release (s : Dev) : Dev :=
  let st := s.gState
  if s.flag F.GATE_STAT_TRIP_HOLD then ((s.inc (F.LANE_MS_STAT_TRIP_CNT.onLeaf) 1).raise F.GATE_EVT_REL_REFUSE).refuse
  else if st = gRun then s
  else
    let s := s.iff (decide (st ≠ gBypassed)) Dev.auxRelease
    let v := s.vcapNow
    if st ≠ gBypassed ∧ s.onFollowed ∧ s.gate.cds = 0 ∧ ¬ s.flag F.GATE_STAT_DESAT_LOCK ∧ (s.f F.GATE_AUX_CFG0_UV : Int) ≤ s.vauxNow ∧
        s.f F.GATE_VLIM_VMIN_RUN ≤ v ∧ v < s.f F.GATE_VLIM_OVW then
      let s := s.put F.GATE_STAT_CAUSE (if bitOf (s.f F.GATE_STAT_CAUSE) cVsense then 2 ^ cVsense else 0)
      let s := { s with gate := { s.gate with desat := false } }
      ((s.gatesOff).gatesDrive true).toState gRun
    else (s.raise F.GATE_EVT_REL_REFUSE).refuse

/-- A position command in the states of R235; `t0` in 2⁻⁶ ns. -/
def Dev.move (s : Dev) (pos t0 exec : Nat) : Dev :=
  if s.gState ≠ gRun then s.notRun
  else if s.flag F.GATE_STAT_MODE then s.refuse
  else s.setPos pos t0 exec

/-- The position that a switching operation commands (R207). -/
def opPos (op : Nat) : Nat := if op = 1 then pPos else if op = 2 then pNeg else pOut

/-- A mode change (R243). -/
def Dev.modeChange (s : Dev) (carrier : Bool) : Dev :=
  if s.gState = gBypassed then s
  else
    let s := (s.put F.GATE_STAT_MODE (b2n carrier)).put F.GATE_STAT_CARR_IDLE (b2n (carrier && s.gate.shadow.isNone))
    { s with gate := { s.gate with period := none, edges := [], edgeWait := none } }

/-- Carrier values reach the shadows (R241, R243). -/
def Dev.loadCarrier (s : Dev) (c : GCmd) : Dev :=
  if s.gState = gBypassed then s
  else if ¬ c.cv ∨ c.cper < 2000 ∨ 100000000 < c.cper then s.refuse
  else ({ s with gate := { s.gate with shadow := some { duty := c.duty, cper := c.cper, cphase := c.cphase } } }).put F.GATE_STAT_CARR_IDLE 0

/-- What a command does (R216, R235), with T0 in 2⁻⁶ ns: the trim of R234 is in it where EXEC gives it. -/
def Dev.carryOut (s : Dev) (c : GCmd) (t0 : Nat) : Dev :=
  let execW := s.longTime c.exec * 64
  let s := s.iff (decide (6 ≤ c.op) && s.gate.period.isNone) fun s => { s with gate := { s.gate with carrAt := execW } }
  if s.flag F.GATE_STAT_TRIP_HOLD ∧ (c.op = 1 ∨ c.op = 2 ∨ c.op = 6) then s.inc (F.LANE_MS_STAT_TRIP_CNT.onLeaf) 1
  else if 1 ≤ c.op ∧ c.op ≤ 3 then s.move (opPos c.op) t0 execW
  else if c.op = 4 then (if s.gState = gRun then s.blockAction cCmd else s)
  else if c.op = 5 then (if s.gState = gBypassed then s else s.fire false 0)
  else if c.op = 6 then s.loadCarrier c
  else if c.param = 3 then s.release
  else s.modeChange (decide (c.param = 2))

/-- A command falls due: one that is no BLOCK waits while a leg is inside a transition (R236), after those that wait. -/
def Dev.obey (s : Dev) (c : GCmd) (t0 : Nat) : Dev :=
  if c.op ≠ 4 ∧ (s.moving ∨ s.gate.wait ≠ []) then { s with gate := { s.gate with wait := s.gate.wait ++ [c] } } else s.carryOut c t0

/-- The command at the head of the queue falls due, where it is the operation named (R234, R235). -/
def Dev.due (s : Dev) (op param : Nat) : Dev :=
  match s.gate.cmds with
  | [] => s
  | c :: l =>
    if c.op ≠ op ∨ (op = 7 ∧ c.param ≠ param) ∨ ¬ s.awake then s
    else (({ s with gate := { s.gate with cmds := l } }).pastCycle (s.longTime c.exec * 64)).obey c (s.t0Of (s.longTime c.exec))

/-- A command, or a carrier edge, that waited takes effect after the last on edge (R236): its cycle stands in place of T0. -/
def Dev.deferred (s : Dev) : Dev :=
  if s.moving ∨ ¬ s.awake then s
  else match s.gate.wait, s.gate.edgeWait with
  | c :: l, _ => ((({ s with gate := { s.gate with wait := l } }).raise F.GATE_EVT_DEFER).inc F.GATE_CMD_CNT_DEFER_CNT 1).carryOut c s.cycleW
  | [], some (pos, t) => ({ s with gate := { s.gate with edgeWait := none } }).setPos pos s.cycleW t
  | [], none => s

/-- Insert a command in order of EXEC; one with the same EXEC is replaced (R215). -/
def queueIn (c : GCmd) : List GCmd → List GCmd
  | [] => [c]
  | d :: l => if d.exec = c.exec then c :: l else if earlier c.exec d.exec then c :: d :: l else d :: queueIn c l

/-- EXEC lies before the CELL-CORE cycle in progress (R214). -/
def Dev.isLate (s : Dev) (c : GCmd) : Bool := earlier c.exec (s.now / 4 * 4 % 2 ^ 32)

/-- A decoded command that passed the checks of R213: late, queued, or lost (R214, R215). A late one takes the next CELL-CORE cycle in place
of T0. -/
def Dev.accept (s : Dev) (c : GCmd) : Dev :=
  if s.isLate c then
    let s := ({ s with gate := { s.gate with late := true } }).inc (F.LANE_MS_STAT_LATE_CNT.onLeaf) 1
    if c.op = 7 then s else s.obey c (s.cycleW + 256)
  else if 8 ≤ s.gate.cmds.length ∧ ¬ s.gate.cmds.any (fun d => decide (d.exec = c.exec)) then
    ({ s with gate := { s.gate with ovf := true } }).inc (F.LANE_MS_STAT_BADCMD_CNT.onLeaf) 1
  else { s with gate := { s.gate with cmds := queueIn c s.gate.cmds } }

/-- After a step of station time, queued commands whose EXEC now lies in the past execute late (R248). -/
def Dev.lateAfterStep (s : Dev) : Dev :=
  let l := s.gate.cmds.filter s.isLate
  let s := { s with gate := { s.gate with cmds := s.gate.cmds.filter fun c => !s.isLate c } }
  s.each l fun s c => s.accept c

/-! ## Maintenance (R254, R257) -/

/-- A write of `GATE.MAINT`. -/
def Dev.maintFire (s : Dev) : Acted := (.ok, s.fire false 1)

def Dev.maintKey1 (s : Dev) : Acted := (.ok, { s with gate := { s.gate with key1 := some s.now } })

def Dev.maintKey2 (s : Dev) : Acted :=
  match s.gate.key1 with
  | none => s.deny .invalid
  | some t =>
    if t + 10 ^ 6 < s.now then (.invalid, s)
    else if ¬ s.gIs gBypassed ∨ s.f F.GATE_BYP_CFG_MAINT_VMAX ≤ s.vcapNow ∨ 30 < s.otpBits then (.denied, s)
    else
      let s := { s with gate := { s.gate with fired := 0, bypX := false, bypY := false, otpDue := s.gate.otpDue + 1 } }
      let s := ((s.put F.GATE_BYP_STAT_FIRED 0).put F.GATE_BYP_STAT_FIRST_Y 0).put F.GATE_BYP_STAT_X_CAUSE 0
      (.ok, ((((s.put F.GATE_BYP_STAT_OTP_DONE 0).gatesOff).gatesDrive true).toState gReady).logEvent 8 0)

/-! ## Lanes and station time (R247, R248, R297 to R299) -/

/-- Generation `x` is higher than `y`, of `w` bits (R297). -/
def genHigher (w x y : Nat) : Bool :=
  let d := wrap w ((x : Int) - (y : Int))
  decide (1 ≤ d) && decide (d < 2 ^ (w - 1))

/-- The lanes that count (R24): with the same plane on both, LF0 only. -/
def Dev.leafDup (s : Dev) : Bool :=
  match Tab.find s.proto.sof 64, Tab.find s.proto.sof 65 with
  | some a, some b => decide (a.plane = b.plane) && decide (a.plane ≠ 0) && s.inRun 64 && s.inRun 65
  | _, _ => false

def Dev.candidate (s : Dev) (L : Nat) : Bool :=
  s.inRun L && decide (Tab.get 0 s.proto.miss L < 3) && !(decide (L = 65) && s.leafDup) &&
  match Tab.find s.proto.sof L with | some x => x.active && decide (x.plane ≠ 0) | none => false

/-- The time lane (R248): `GATE.STAT.TLANE` and TIME_HOLD; without one, the last frequency holds. -/
def Dev.timeLane (s : Dev) : Dev :=
  let tv := fun L => s.lnFlag F.LANE_LANE_STAT_TIME_VALID L
  let fl := (s.planeLane s.gate.fplane).getD 64
  let other := if fl = 64 then 65 else 64
  let pick := if tv fl then fl - 63 else if tv other then other - 63 else 0
  let s := (s.put F.GATE_STAT_TLANE pick).put F.GATE_STAT_TIME_HOLD (b2n (decide (pick = 0)))
  s.iff (decide (pick = 0)) fun s => s.noSource

/-- The plane that a CELL follows (R298). -/
def Dev.follow (s : Dev) : Dev :=
  let info := fun L => match Tab.find s.proto.sof L with | some x => (x.plane, x.gen) | none => (0, 0)
  let a := s.candidate 64
  let b := s.candidate 65
  let (pa, ga) := info 64
  let (pb, gb) := info 65
  let pick :=
    if a ∧ b then
      if genHigher 16 ga gb then some (pa, ga) else if genHigher 16 gb ga then some (pb, gb)
      else if pa = 1 then some (pa, ga) else some (pb, gb)
    else if a then some (pa, ga) else if b then some (pb, gb) else none
  match pick with
  | none => s.timeLane
  | some (p, g) => ({ s with gate := { s.gate with fplane := p, gen := g } }).timeLane

/-- Both lanes have missed 3 superframes (R247). -/
def Dev.cellLaneLoss (s : Dev) : Dev :=
  if s.awake ∧ 3 ≤ Tab.get 0 s.proto.miss 64 ∧ 3 ≤ Tab.get 0 s.proto.miss 65 then
    ((s.blockAction cLane).raise F.GATE_EVT_LANE_LOSS).logEvent 6 0
  else s

/-- The followed plane has not been a candidate for 64 superframes (R299). -/
def Dev.planeLost (s : Dev) : Dev :=
  if s.gIs gRun ∧ 64 ≤ s.gate.lost ∧ ¬ s.candidate 64 ∧ ¬ s.candidate 65 then (s.blockAction cLane).logEvent 6 0 else s

/-- The cell acts on a Roadblock from leaf lane L (R229, R246). -/
def Dev.cellRoadblock (s : Dev) (L : Nat) : Dev :=
  if ¬ s.awake then s
  else
    let s := ((s.blockAction cRoadblock).raise F.GATE_EVT_ROADBLOCK).life 3 1
    ((s.raise F.GATE_STAT_TRIP_HOLD).put (F.LANE_RB_STAT_HOLD.onLeaf) 1).logEvent 5 (L - 64)

/-! ## Wake and dormancy (R259 to R264) -/

/-- WAKING to READY (R259). -/
def Dev.cellReady (s : Dev) : Dev :=
  if s.gIs gWaking ∧ s.gate.calDone ∧ (s.f F.GATE_AUX_CFG0_UV : Int) ≤ s.vauxNow ∧
      (s.lnFlag F.LANE_LANE_STAT_TIME_VALID 64 ∨ s.lnFlag F.LANE_LANE_STAT_TIME_VALID 65) then
    ((s.gatesOff).gatesDrive true).toState gReady
  else s

/-- 100 ms after VCAP reached VSTART without READY (R259). -/
def Dev.wakeTimeout (s : Dev) : Dev :=
  match s.gate.vstart with
  | none => s
  | some t => s.iff (s.gIs gWaking) fun s => ((((s.advanceTo (t + 10 ^ 8)).gatesOff).gatesDrive true).addCause cWake).toState gFault

/-- The OTP field reads bypassed (R256). -/
def Dev.otpBypassed (s : Dev) : Bool :=
  decide (s.f F.GATE_BYP_STAT_OTP_USED % 2 = 1) || decide (s.f F.GATE_BYP_STAT_OTP_USED = 32)

/-- Fields of the AON domain (R262, R265). -/
def aonFlds : List Fld :=
  [F.GATE_CTL_FB, F.GATE_CTL_BYP_ON_DESAT, F.GATE_CTL_OVX_EN, F.GATE_BYP_CFG_MODE, F.GATE_BYP_CFG_PULSE, F.GATE_BYP_Y_CFG_LOCK,
   F.GATE_BYP_Y_CFG_MODE, F.GATE_BYP_Y_CFG_Y_PULSE, F.GATE_BYP_Y_CFG_Y_FILT, F.GATE_BYP_Y_CFG_OVY, F.GATE_BYP_STAT_FIRED,
   F.GATE_BYP_STAT_FIRST_Y, F.GATE_BYP_STAT_X_CAUSE, F.GATE_BYP_STAT_OTP_USED, F.GATE_LOG_CTL_RD, F.GATE_LOG_CTL_WR]

/-- Every field of GATE but those of AON returns to its reset value; the lifetime counters stay. -/
def Dev.gateRegsReset (s : Dev) : Dev :=
  let keep := aonFlds.map fun g => (g, s.f g)
  let life := (List.range 8).map fun k => (k, s.f F.GATE_LIFE_CNT k)
  let ep := [epochFld .gate, retireFld .gate, staleFld .gate].map fun g => (g, s.f g)
  let s := s.setRegs [] .gate
  let s := s.each (keep ++ ep) fun s p => s.put p.1 p.2
  s.each life fun s p => s.put F.GATE_LIFE_CNT p.2 p.1

/-- What of GATE is not kept in AON. -/
def Gate.forget (g : Gate) : Gate :=
  { g with calDone := false, vstart := none, legA := Leg.off, legB := Leg.off, bypX := false, auxSw := false, cmds := [], wait := [],
           shadow := none, force := none, period := none, edges := [], edgeWait := none, carrAt := 0, auxArm := false, auxDrv := false, fplane := 0, gen := 0, tage := [], lost := 0,
           late := false, badcmd := false, ovf := false, desat := false, swt := [], posLog := [], cds := 0, xchk := 0, ovxN := 0, trips := [],
           ssN := 0, key1 := none, runAt := none }

/-- What a GATE reset keeps beside AON (R264): the state of the cell and its causes, the auxiliary supply with its pair and shadows, the
record of the bypass, and the period of station time. -/
def gateKept : List Fld :=
  [F.GATE_STAT_STATE, F.GATE_STAT_POS, F.GATE_STAT_TRIP_HOLD, F.GATE_STAT_TIME_HOLD, F.GATE_STAT_TLANE, F.GATE_STAT_CAUSE,
   F.GATE_STAT_DESAT_N, F.GATE_AUX_STAT_TON, F.GATE_AUX_STAT_PER, F.GATE_AUX_STAT_TAG, F.GATE_AUX_STAT_STALE,
   F.GATE_AUX_STAT_RUNNING, F.GATE_BYP_STAT_OTP_DONE, F.GATE_TIME_STAT_P]

/-- The auxiliary shadows with the pair in force (R252, R264). -/
def auxPair : List Fld := [F.GATE_AUX_TON_TAG, F.GATE_AUX_TON_TON, F.GATE_AUX_PER_TAG, F.GATE_AUX_PER_PER]

/-- A per-block reset of GATE (R264): its other registers return to their reset values (R265). -/
def Dev.gateReset (s : Dev) : Dev :=
  let s := s.blockAction cCmd
  let s := { s with gate := { s.gate with cmds := [], wait := [], shadow := none, force := none, period := none, edges := [], edgeWait := none } }
  let kept := gateKept.map fun g => (g, s.f g)
  let pair := auxPair.map fun g => (g, s.f g, s.fi g)
  let s := s.gateRegsReset.each kept fun s p => s.put p.1 p.2
  let s := s.each pair fun s p => (s.put p.1 p.2.1).putb p.1 inForce p.2.2
  s.iff (decide (s.gate.xchk = 0)) fun s => s.clrCause cVsense

end Sys2Proof.Machine
end

