-- ==== Sys2Proof/Machine/Blank.lean ====
section
/-! DEFINITION. The device without power: every register at its reset value, every queue and store empty (R6, R439). -/

namespace Sys2Proof.Machine

def Glob.off : Glob :=
  { regs := [], por := true, straps := ⟨false, false, false⟩, aonRole := .none, cycles := [], running := false, nextCyc := 0,
    stampInForce := false, stampWr := false, swap := none, swapOk := false, blkRst := [], rstAt := [], ramp := [], rampAt := [], warm := none, caps := [], idfp := [], idPend := [],
    idEp := [] }

def Sec.off : Sec :=
  { regs := [], slots := [], noSeed := false, chal := [], boot := 0, fw := false, imgSvn := 0, reqs := [] }

def Time.off : Time :=
  { regs := [], frc := 0, fifth := 0, bF := 0, bT := 0, pendInc := none, pendStep := none, holdAt := none, kickAt := 0, hist := [],
    srcTq := false }

def Hostq.off : Hostq := { regs := [], sq := [], cq := [], masked := [], msiPend := [], direct := none }

def Proto.off : Proto :=
  { sof := [], miss := [], upoff := [], nport := [], up := [], rr := [], tags := [], fwd := [], rep := [], tlm := [], dport := 0, dchg := [],
    rbRel := false, rbAt := none, ldel := [], run := [], pSeen := [], pLane := [], per := 0, ph := 0, rrCyc := [] }

def Loom.off : Loom :=
  { regs := [], ram := [], link := [], prog0 := [], prog1 := [], coef0 := [], coef1 := [], ecc := [], sh := [], due := [], latch := [],
    modeReq := [], ho := [], graft := [], cmpOwn := [], cmpAct := [], cmpMiss := [], cmpVoid := [], adopt := none, sched := [],
    newSet := false, ends := [], recent := [] }

def Spin.off : Spin := { regs := [], cell := [], arm := [], reqs := [], recPend := none, recTill := 0 }

def Gate.off : Gate :=
  { regs := [], dormant := false, cpg := false, aonLow := false, calDone := false, vstart := none, legA := Leg.off, legB := Leg.off,
    bypX := false, bypY := false, auxSw := false, fired := 0, cmds := [], wait := [], shadow := none, force := none, period := none,
    edges := [], edgeWait := none, carrAt := 0, auxArm := false, auxDrv := false, yOn := false, fplane := 0, gen := 0, tage := [], lost := 0, late := false, badcmd := false, ovf := false, desat := false, swt := [], posLog := [],
    cds := 0, xchk := 0, ovxN := 0, trips := [], ssN := 0, key1 := none, log := [], rtc0 := 0, runAt := none, otpDue := 0 }

def Adc.off : Adc := { regs := [], ch := [], last := none, origin := none, cal := 0 }

def Ang.off : Ang := { regs := [], inst := [], wmk := 0, pulse := 0, pulseEnd := [], seen := [], either := 0, loomAt := [], prb := 0 }

def SafeCh.off : SafeCh :=
  { lines := 0, win := 0, st := [], cause := [], out := 0, rb := 0, trip := 0, disc := 0, itFail := 0, itPass := [], outFail := 0 }

def Safe.off : Safe :=
  { regs := [], yPar := [], x := SafeCh.off, y := SafeCh.off, since := [], driven := false, pulsed := [],
    diff := false, xRst := false, clkBad := 0, parBad := 0, btTheta := 0, btLock := false, btPassAt := 0 }

def Reel.off : Reel := { regs := [], ram := [], ecc := [], ch := [], src := [], trg := [], inst := [], seqs := [], dig := 0, ev := 0 }

def Eth.off : Eth := { regs := [], txq := [], txts := [], dup := [], learn := [], sv := [], seq := 0, supSeq := 0, supAt := 0 }

def Pair.off : Pair :=
  { regs := [], pgen := 0, psof := none, relSeen := false, depSeen := false, claim := false, relq := false, fitDue := false,
    relinq := false, acc := [], vote := none, conf := 0, fit := 0, watch := none, resume := false, crit := 0, stall := 0,
    clkBad := false, cfgChk := false, halted := false, skewBad := false, hb := false, cov := 0, pcov := 0, mapOwn := none,
    mapPar := none, cfgOld := 0, cfgAt := 0, cfgBad := false, cycEvt := 0, mlist := [], tk1 := 0 }

def Dbg.off : Dbg := { regs := [], ir := 1, bsr := [], byp := false, acc := none }

/-- The device while `PORST_N` is low, never powered before (R436, R439): nothing is driven and nothing leaves reset. -/
def Dev.off : Dev :=
  { role := .none, glob := Glob.off, sec := Sec.off, time := Time.off, toll := { regs := [], tg := [], log := [] }, hostq := Hostq.off,
    lanes := { trunk := [], leaf := [], st := [] }, proto := Proto.off, loom := Loom.off, spin := Spin.off, gate := Gate.off,
    adc := Adc.off, ang := Ang.off, safe := Safe.off, reel := Reel.off, eth := Eth.off, can := { regs := [], ctl := [] },
    pair := Pair.off, dbg := Dbg.off, events := ⟨0, []⟩, out := [], cpl := none, free := 0 }

end Sys2Proof.Machine
end

