-- ==== Sys2Proof/Machine/State.lean ====
section
/-! DEFINITION. The state of the block: the device and the commands that wait. -/

namespace Sys2Proof.Machine

/-- The state: what the device holds, and the commands that wait, first in, first out. -/
structure State where
  dev     : Dev
  pending : List Instr
deriving DecidableEq, Repr

/-- Why a step stops with a fault. Nothing that the spec describes does: an access that fails completes with a status (R9), and the
device goes on. No command raises the one reason; safe. -/
inductive Fault where
  /-- Raised by nothing. Safe. -/
  | stopped
deriving DecidableEq, Repr

/-- Why a command has no meaning. -/
inductive Refusal where
  /-- A command whose arm has no meaning yet; raised by no arm. Safe. -/
  | notModelled (mnemonic : String)
deriving DecidableEq, Repr

/-- Right after reset: the device with `PORST_N` low (R6, R436, R439), and no command waits. -/
def State.reset : State := { dev := Dev.off, pending := [] }

end Sys2Proof.Machine
end

