-- ==== Sys2Proof/Machine/Angle.lean ====
section
/-! DEFINITION. Angle tracker and Waymark compare (11_angle_tracker, R279 to R289). -/

namespace Sys2Proof.Machine

def AngInst.rest : AngInst :=
  { theta := 0, omega := 0, ok := false, outN := 0, inN := 0, sn := 0, cn := 0, a2 := 0, accS := 0, accC := 0, numS := 0,
    numC := 0, excNeg := false, excOn := false, upT := 0, corr := none, turn := 0, hist := [], mark := none, span := none, slowAt := none }

def Dev.angInst (s : Dev) (i : Nat) : AngInst := Tab.get AngInst.rest s.ang.inst i

def Dev.setAng (s : Dev) (i : Nat) (x : AngInst) : Dev :=
  { s with ang := { s.ang with inst := Tab.set AngInst.rest s.ang.inst i x } }

/-- The angle of SYNTH at a station time in ns (R279), without wrapping and modulo a turn. -/
def Dev.synthPath (s : Dev) (i t : Nat) : Nat := t * s.f F.ANGLE_SYNTH_SYNTH i * 2 ^ 16 / 10 ^ 9
def Dev.synthAngle (s : Dev) (i t : Nat) : Nat := s.synthPath i t % 2 ^ 32

/-- The instance's source is SYNTH (R279). -/
def Dev.isSynth (s : Dev) (i : Nat) : Bool := decide (s.f F.ANGLE_CFG_SRC i = 2)

/-- The angle of the present CORE cycle: θ̂ extrapolated by ω̂ (R280). -/
def Dev.angleNow (s : Dev) (i : Nat) : Nat :=
  if s.isSynth i then s.synthAngle i s.now
  else wrap 32 ((s.angInst i).theta + (s.angInst i).omega * ((s.now : Int) - (s.angInst i).upT) / 50)

/-- The signed way from one angle to another, the shorter one. -/
def angWay (a b : Nat) : Int := sgn 32 (wrap 32 ((b : Int) - (a : Int)))

/-- The unwrapped angle at station time `t` ns, from the latest update on (R280). -/
def Dev.angPath (s : Dev) (i t : Nat) : Int :=
  let x := s.angInst i
  if s.isSynth i then x.turn + angWay x.theta (s.synthAngle i x.upT) + ((s.synthPath i t : Int) - (s.synthPath i x.upT : Int))
  else x.turn + x.omega * ((t : Int) - x.upT) / 50

/-- The compares of an instance. -/
def Dev.wmkOf (s : Dev) (i : Nat) : List Nat := (List.range 8).filter fun w => decide (s.f F.ANGLE_WMK_CFG_INST w = i)

/-- Compare `w` looks at the angle at `t`: crossings before that do not count. -/
def Dev.wmkLook (s : Dev) (t w : Nat) : Dev :=
  { s with ang := { s.ang with seen := Tab.set (0, 0) s.ang.seen w (t, s.angPath (s.f F.ANGLE_WMK_CFG_INST w) t) } }

/-- The speed, Q16.16 turns a second (R281). -/
def Dev.angSpeed (s : Dev) (i : Nat) : Int := s.fS F.ANGLE_ANG_SPEED i

/-- `DIR` is negative: the sign of the speed (R281). -/
def Dev.dirNeg (s : Dev) (i : Nat) : Bool := decide (s.angSpeed i < 0)

/-- VALID: SYNTH always; otherwise the amplitude lies in its window and no index fault stands (R283, R284, R288). What the angle crossed
while it was not valid is no crossing (R287). -/
def Dev.angValidate (s : Dev) (i : Nat) : Dev :=
  let v := s.flag F.ANGLE_CFG_EN i && (s.isSynth i || (s.angInst i).ok) && !s.flag F.ANGLE_STAT_IDX_FAULT i
  let back := v && !s.flag F.ANGLE_STAT_VALID i
  (s.put F.ANGLE_STAT_VALID (b2n v) i).iff back fun s => s.each (s.wmkOf i) fun s w => s.wmkLook s.now w

/-- A tracker restarts (R288): SYNTH at the angle of the time, the others at rest. -/
def Dev.angRestart (s : Dev) (i : Nat) : Dev :=
  let t := s.now / 50 * 50
  let a := if s.isSynth i then s.synthAngle i t else 0
  let s := ((s.setAng i { AngInst.rest with theta := a, turn := a, upT := t }).put F.ANGLE_STAT_STILL 0 i).angValidate i
  s.each (s.wmkOf i) fun s w => s.wmkLook s.now w

/-- A word that counts: VALID = 1 and a conversion (R279, R268). -/
def Dev.adcGood (s : Dev) (c : Nat) : Bool :=
  wValid (s.f F.ADC_LAST_WORD c) && !wNoConv (s.f F.ADC_LAST_WORD c) && !s.adcOdd c

/-- Normalise a value in codes to 0x4000 = nominal (R283). -/
def angNorm (x : Int) (n : Nat) : Int := roundDiv true (x * 0x4000) (n * Config.angNominal)

/-- An excitation period ends and the next begins (R279): the averages of the whole period come into force. -/
def AngInst.period (x : AngInst) : AngInst :=
  { x with sn := if x.excOn && decide (0 < x.numS) then angNorm x.accS x.numS else x.sn
           cn := if x.excOn && decide (0 < x.numC) then angNorm x.accC x.numC else x.cn
           accS := 0, accC := 0, numS := 0, numC := 0, excOn := true }

/-- RESOLVER: rectify by the sign of the reference, average over each excitation period, measured between rising zero
crossings of the reference (R279). A word that does not count is left out of its own average; with a reference that does not count, both
words are. -/
def Dev.resolverTake (s : Dev) (x : AngInst) : AngInst :=
  if ¬ s.adcGood 14 then x
  else
    let e := wData (s.f F.ADC_LAST_WORD 14)
    let g : Int := if e < 0 then -1 else 1
    let x := if x.excNeg ∧ 0 ≤ e then x.period else x
    let x := if s.adcGood 12 then { x with accS := x.accS + g * wData (s.f F.ADC_LAST_WORD 12), numS := x.numS + 1 } else x
    let x := if s.adcGood 13 then { x with accC := x.accC + g * wData (s.f F.ADC_LAST_WORD 13), numC := x.numC + 1 } else x
    { x with excNeg := decide (e < 0) }

/-- GRID: the phase voltages transformed as CLK to β and α (R279, R115). -/
def Dev.gridTake (s : Dev) (i : Nat) (x : AngInst) : AngInst :=
  let a := s.f F.ANGLE_CFG_CHA i
  let b := s.f F.ANGLE_CFG_CHB i
  let c := s.f F.ANGLE_CFG_CHC i
  if s.adcGood a ∧ s.adcGood b ∧ s.adcGood c then
    let va := wData (s.f F.ADC_LAST_WORD a)
    let vb := wData (s.f F.ADC_LAST_WORD b)
    let vc := wData (s.f F.ADC_LAST_WORD c)
    { x with sn := angNorm (overRoot3 true (vb - vc)) 1, cn := angNorm (roundDiv true (2 * va - vb - vc) 3) 1 }
  else x

/-- ε = S cos θ̂ − C sin θ̂, normalised to angle LSB: the nominal amplitude counts 1, and a turn is 2³² (R280). -/
def angErr (x : AngInst) : Int :=
  let sc := sinCosQ30 x.theta
  roundDiv true ((x.sn * sc.2 - x.cn * sc.1) * 2 ^ 224) (2 ^ 13 * piFix)

/-- The step of the tracker (R280). -/
def Dev.angTrack (s : Dev) (i : Nat) (x : AngInst) : AngInst :=
  let e := angErr x
  let w := sgn 32 (wrap 32 (x.omega + shr true ((s.f F.ANGLE_LOOP_KT2 i : Nat) * e) 24))
  let d := w + shr true ((s.f F.ANGLE_LOOP_KT1 i : Nat) * e) 16
  { x with omega := w, theta := wrap 32 (x.theta + d), turn := x.turn + d }

/-- δ of a compare at an angle, as signed (R286). -/
def Dev.wmkDelta (s : Dev) (w a : Nat) : Int := angWay a (s.f F.ANGLE_WMK_TGT_TARGET w)

/-- δ lies ahead in the direction of motion (R286). -/
def ahead (neg : Bool) (d : Int) : Bool := if neg then decide (d < 0) else decide (0 < d)

/-- The way from unwrapped angle `a` to `b` reaches or passes the target, in the direction of motion or, where `either`, in any (R286). -/
def passes (target : Nat) (a b : Int) (neg either : Bool) : Bool :=
  let turns := fun (u : Int) => (u - target) / 2 ^ 32
  let below := fun (u : Int) => (u - target - 1) / 2 ^ 32
  ((!neg || either) && decide (turns a < turns b)) || ((neg || either) && decide (below b < below a))

/-- A step by `d` of the angle of an instance, at unwrapped angle `a`, is not a crossing: an armed target that it passes over is behind and
fires late (R287). -/
def Dev.angStepOver (s : Dev) (i : Nat) (a d : Int) : Dev :=
  s.each (s.wmkOf i) fun s w =>
    let p := Tab.get (0, 0) s.ang.seen w
    let behind := s.flag F.ANGLE_WMK_STAT_ARMED w && passes (s.f F.ANGLE_WMK_TGT_TARGET w) a (a + d) (s.dirNeg i) (bitOf s.ang.either w)
    let s := { s with ang := { s.ang with seen := Tab.set (0, 0) s.ang.seen w (p.1, p.2 + d) } }
    s.iff behind fun s => { s.raise F.ANGLE_WMK_STAT_LATE w with ang := { (s.raise F.ANGLE_WMK_STAT_LATE w).ang with either := putBit s.ang.either w false } }

/-- Station time in units of 78.125 ps at a whole ns. -/
def tdcOf (t : Nat) : Nat := t * 64 / 5

/-- How many marks the unwrapped angle crossed on its way from `a` to `b` by the update at `t`, and the time of the one `k` before the last,
in TDC units (R281). -/
def marksOn (m : Nat) (a b : Int) : Nat := (b / (m : Int) - a / (m : Int)).natAbs
def markTime (m : Nat) (a b : Int) (t k : Nat) : Nat :=
  let at_ : Int := if a < b then (b / (m : Int) - k) * m else (b / (m : Int) + 1 + k) * m
  ((tdcOf t : Int) - (b - at_) * 640 / (b - a)).toNat

/-- PERIOD: the mark spacing divided by the time between the last two crossings, its magnitude bounded by the spacing
divided by the time since the last (R281). -/
def Dev.speedPeriod (s : Dev) (i : Nat) (x : AngInst) (t : Nat) (neg : Bool) : Int :=
  match x.mark, x.span with
  | some m, some d =>
    let u := max (max d 1) (tdcOf t - m)
    let v := roundDiv true ((2 ^ 16 * 64 * 10 ^ 9 : Nat) : Int) (2 ^ s.f F.ANGLE_CFG_STEP i * 5 * u)
    if neg then -v else v
  | _, _ => 0

/-- DIFF: the angle difference over the last 2^DWIN µs (R281). -/
def Dev.speedDiff (s : Dev) (i : Nat) (x : AngInst) (t : Nat) : Int :=
  let win := 2 ^ s.f F.ANGLE_CFG_DWIN i
  let old := (x.hist.find? fun h => decide (h.1 + win * 1000 ≤ t)).orElse fun _ => x.hist.getLast?
  match old with
  | none => 0
  | some h => roundDiv true ((x.turn - h.2) * 10 ^ 6) (2 ^ 16 * win)

/-- The speed, the method in force and STILL after an update at `t` (R281, R282). -/
def Dev.angSpeedUpdate (s : Dev) (i t : Nat) (neg : Bool) : Dev :=
  let x := s.angInst i
  let diff := s.flag F.ANGLE_STAT_METHOD i
  let v := satS 32 (if diff then s.speedDiff i x t else s.speedPeriod i x t neg)
  let diff' := if diff then !decide (v.natAbs ≤ s.f F.ANGLE_SPD_BAND_VLO i) else decide (s.f F.ANGLE_SPD_BAND_VHI i ≤ v.natAbs)
  let slow := decide (v.natAbs ≤ s.f F.ANGLE_STILL_STILL_SPD i)
  let s := s.setAng i { x with slowAt := if slow then x.slowAt.orElse (fun _ => some t) else none }
  let s := (s.put F.ANGLE_ANG_SPEED (wrap 32 v) i).put F.ANGLE_STAT_METHOD (b2n diff') i
  s.iff (!slow) fun s => s.put F.ANGLE_STAT_STILL 0 i

/-- The marks that the angle crossed and the history of the angle, from unwrapped angle `a` (R281). -/
def Dev.angMarks (s : Dev) (i t : Nat) (a : Int) (x : AngInst) : AngInst :=
  let sp := 2 ^ (32 - s.f F.ANGLE_CFG_STEP i)
  let n := marksOn sp a x.turn
  let last := markTime sp a x.turn t 0
  let x := if n = 0 then x
    else { x with mark := some last
                  span := if 1 < n then some (last - markTime sp a x.turn t 1) else x.mark.map fun m0 => last - m0 }
  { x with hist := ((t, x.turn) :: x.hist).take 20482 }

/-- An update of instance `i` (R279 to R283), every 50 ns: the amplitude counts, the correction of an index slip, the
tracker's step, marks and speed. -/
def Dev.angUpdate (s : Dev) (i : Nat) : Dev :=
  if ¬ s.flag F.ANGLE_CFG_EN i then s
  else
    let t := gridNext 0 50 s.now (some (s.angInst i).upT)
    let s := s.advanceTo t
    let x := s.angInst i
    let x0 := { x with upT := t }
    if s.isSynth i then
      let a := s.synthAngle i t
      let d := s.angPath i t - x.turn
      let x1 := s.angMarks i t x.turn { x0 with theta := a, omega := d, turn := x.turn + d }
      (s.setAng i x1).angSpeedUpdate i t (decide (d < 0))
    else
      let x1 := if s.f F.ANGLE_CFG_SRC i = 0 then s.resolverTake x0 else s.gridTake i x0
      let a2 := satU 16 (roundDiv true (x1.sn * x1.sn + x1.cn * x1.cn) (2 ^ 14))
      let inside := decide (s.f F.ANGLE_AMP_WIN_AMIN i ≤ a2) && decide (a2 ≤ s.f F.ANGLE_AMP_WIN_AMAX i)
      let x2 := { x1 with a2 := a2, outN := if inside then 0 else x1.outN + 1, inN := if inside then x1.inN + 1 else 0 }
      if ¬ x2.ok then (s.setAng i (s.angMarks i t x.turn x2)).angSpeedUpdate i t (s.dirNeg i)
      else
        let x3 := match x2.corr with
          | none => x2
          | some d => { x2 with theta := wrap 32 ((x2.theta : Int) - d), turn := x2.turn - d, corr := none }
        let s := s.iff x2.corr.isSome fun s => s.angStepOver i x2.turn (x3.turn - x2.turn)
        let x4 := s.angTrack i x3
        (s.setAng i (s.angMarks i t x3.turn x4)).angSpeedUpdate i t (decide (x4.turn < x3.turn))

/-- The amplitude has lain outside its window for AFILT updates (R283). -/
def Dev.ampFault (s : Dev) (i : Nat) : Dev :=
  let x := s.angInst i
  if x.ok ∧ s.f F.ANGLE_CFG_AFILT i ≤ x.outN then
    ((s.setAng i { x with ok := false }).raise F.ANGLE_STAT_AMP_FAULT i).angValidate i
  else s

/-- The amplitude has lain inside its window for AFILT updates: the tracker takes the angle of S and C (R283, R288). -/
def Dev.resync (s : Dev) (i : Nat) : Dev :=
  let x := s.angInst i
  if s.flag F.ANGLE_CFG_EN i ∧ ¬ s.isSynth i ∧ ¬ x.ok ∧ s.f F.ANGLE_CFG_AFILT i ≤ x.inN then
    let a := if x.sn = 0 ∧ x.cn = 0 then 0 else angleOf x.cn x.sn
    let d := angWay x.theta a
    let s := s.angStepOver i x.turn d
    ((s.setAng i { x with ok := true, theta := a, omega := 0, turn := x.turn + d, corr := none }).raise
      F.ANGLE_STAT_RESYNC i).angValidate i
  else s

/-- |speed| has been at most STILL_SPD for STILL_T ms (R282). -/
def Dev.still (s : Dev) (i : Nat) : Dev :=
  match (s.angInst i).slowAt with
  | none => s
  | some t => if s.flag F.ANGLE_CFG_EN i then (s.advanceTo (t + s.f F.ANGLE_STILL_STILL_T i * 10 ^ 6)).raise F.ANGLE_STAT_STILL i else s

/-- A rising edge of `IDX` (R284), on the RESOLVER instance with IDX_EN = 1. -/
def Dev.indexEdge (s : Dev) : Dev :=
  if s.flag F.ANGLE_CFG_EN 0 ∧ s.f F.ANGLE_CFG_SRC 0 = 0 ∧ s.flag F.ANGLE_CFG_IDX_EN 0 then
    let d := angWay (s.f F.ANGLE_IDX_POS_POS 0) (s.angleNow 0)
    if d.natAbs ≤ s.f F.ANGLE_IDX_TOL_TOL 0 * 2 ^ 16 then s
    else
      let s := (s.raise F.ANGLE_STAT_INDEX_SLIP 0).put F.ANGLE_IDX_DIFF_D (wrap 32 d) 0
      if d.natAbs ≤ s.f F.ANGLE_IDX_TOL_WIN 0 * 2 ^ 16 ∧ s.flag F.ANGLE_CFG_IDX_CORR 0 then
        (s.setAng 0 { s.angInst 0 with corr := some d }).raise F.ANGLE_STAT_CORR 0
      else (s.raise F.ANGLE_STAT_IDX_FAULT 0).angValidate 0
  else s

/-- An edge of `PRBp` (R285). EDGE: bit 0 rising, bit 1 falling. -/
def Dev.probeEdge (s : Dev) (p : Nat) (rising : Bool) : Dev :=
  if s.flag F.ANGLE_PRB_CFG_EN p ∧ bitOf (s.f F.ANGLE_PRB_CFG_EDGE p) (if rising then 0 else 1) then
    if s.flag F.ANGLE_PRB_CFG_FULL p then s.inc F.ANGLE_PRB_CFG_MISS 1 p
    else ((s.put F.ANGLE_PRB_CAP_ANGLE (s.angleNow (s.f F.ANGLE_PRB_CFG_INST p)) p).put F.ANGLE_PRB_CAP_TIME s.short p).raise
      F.ANGLE_PRB_CFG_FULL p
  else s

/-- Reading the upper word of `PRB_CAP` clears FULL (R285). -/
def Dev.probeRead (s : Dev) (p : Nat) : Dev := s.put F.ANGLE_PRB_CFG_FULL 0 p

/-- Compare `w` fires at the crossing of station time `t` (R287). -/
def Dev.wmkFire (s : Dev) (w t : Nat) : Dev :=
  let s := ((s.put F.ANGLE_WMK_STAT_T_FIRE (t % 2 ^ 32) w).raise F.ANGLE_WMK_STAT_FIRED w).wmkLook t w
  let s := s.iff (!s.flag F.ANGLE_WMK_CFG_REPEAT w) fun s => s.put F.ANGLE_WMK_STAT_ARMED 0 w
  let g := { s.ang with wmk := putBit s.ang.wmk w true, either := putBit s.ang.either w false }
  { s with ang :=
      if s.flag F.ANGLE_WMK_CFG_ACT w then { g with pulse := putBit g.pulse w false }
      else { g with pulse := putBit g.pulse w true, pulseEnd := Tab.put g.pulseEnd w (t + s.f F.ANGLE_WMK_CFG_WIDTH w * 1000) } }

/-- The compare may fire: enabled, armed, and its instance's angle valid (R286, R287). -/
def Dev.wmkReady (s : Dev) (w : Nat) : Bool :=
  s.flag F.ANGLE_WMK_CFG_EN w && s.flag F.ANGLE_WMK_STAT_ARMED w && s.flag F.ANGLE_STAT_VALID (s.f F.ANGLE_WMK_CFG_INST w)

/-- A write of the target arms the compare and evaluates δ (R286). -/
def Dev.wmkTarget (s : Dev) (w v : Nat) : Dev :=
  let s := s.put F.ANGLE_WMK_TGT_TARGET v w
  if ¬ s.flag F.ANGLE_WMK_CFG_EN w then s
  else
    let i := s.f F.ANGLE_WMK_CFG_INST w
    let d := s.wmkDelta w (s.angleNow i)
    let still := s.flag F.ANGLE_STAT_STILL i
    let s := (s.raise F.ANGLE_WMK_STAT_ARMED w).wmkLook s.now w
    let s := { s with ang := { s.ang with either := putBit s.ang.either w (still && decide (d ≠ 0)) } }
    if d = 0 then (if s.wmkReady w then s.wmkFire w s.now else s)
    else if still ∨ ahead (s.dirNeg i) d then s
    else s.raise F.ANGLE_WMK_STAT_LATE w

/-- A host write of the target, turned away in the CORE cycle of a Loom write (R286). -/
def Dev.wmkHost (s : Dev) (w v : Nat) : Acted :=
  if Tab.find s.ang.loomAt w = some s.now then s.deny .busy else (.ok, s.wmkTarget w v)

/-- A Loom write of the target (R77, R286). -/
def Dev.wmkLoom (s : Dev) (w v : Nat) : Dev :=
  { s.wmkTarget w v with ang := { (s.wmkTarget w v).ang with loomAt := Tab.put s.ang.loomAt w s.now } }

/-- By `t` the angle of compare `w` has reached or passed its target, moving in `DIR` (R286). -/
def Dev.wmkPast (s : Dev) (w t : Nat) : Bool :=
  let i := s.f F.ANGLE_WMK_CFG_INST w
  let p := Tab.get (0, 0) s.ang.seen w
  decide (p.1 ≤ t) && passes (s.f F.ANGLE_WMK_TGT_TARGET w) p.2 (s.angPath i t) (s.dirNeg i) (bitOf s.ang.either w)

/-- The CORE cycle, from the latest update of the angle to the next or to now, in which the crossing is detected (R286). -/
def Dev.wmkWhen (s : Dev) (w : Nat) : Option Nat :=
  let u := (s.angInst (s.f F.ANGLE_WMK_CFG_INST w)).upT
  ((List.range 50).map (u + ·) ++ [s.now]).find? (s.wmkPast w)

/-- A crossing (R286). -/
def Dev.wmkCross (s : Dev) (w : Nat) : Dev :=
  if s.wmkReady w then
    match s.wmkWhen w with
    | none => s
    | some t => (s.advanceTo t).wmkFire w t
  else s

/-- After an update of the angle, a compare whose target the angle has not crossed looks from the new angle on. -/
def Dev.wmkTrack (s : Dev) (i : Nat) : Dev :=
  s.each ((s.wmkOf i).filter fun w => !s.wmkPast w s.now) fun s w => s.wmkLook s.now w

/-- A pulse ends after WIDTH µs (R287). -/
def Dev.wmkPulseEnd (s : Dev) (w : Nat) : Dev :=
  if bitOf s.ang.pulse w then
    let s := s.advanceTo (Tab.get 0 s.ang.pulseEnd w)
    { s with ang := { s.ang with wmk := putBit s.ang.wmk w false, pulse := putBit s.ang.pulse w false } }
  else s

/-- Clearing EN of a compare ends its output and disarms it (R286, R287). -/
def Dev.wmkOff (s : Dev) (w : Nat) : Dev :=
  let s := s.put F.ANGLE_WMK_STAT_ARMED 0 w
  { s with ang := { s.ang with wmk := putBit s.ang.wmk w false, pulse := putBit s.ang.pulse w false } }

/-- A per-block reset of ANGLE (R288): the configuration registers are kept. -/
def Dev.angReset (s : Dev) : Dev :=
  let s := s.each (List.range 8) fun s w => (((s.wmkOff w).put F.ANGLE_WMK_STAT_T_FIRE 0 w).put F.ANGLE_WMK_STAT_LATE 0 w).put
    F.ANGLE_WMK_STAT_FIRED 0 w
  let s := s.each (List.range 4) fun s p => (((s.put F.ANGLE_PRB_CFG_FULL 0 p).put F.ANGLE_PRB_CFG_MISS 0 p).put
    F.ANGLE_PRB_CAP_ANGLE 0 p).put F.ANGLE_PRB_CAP_TIME 0 p
  s.each (List.range 4) fun s i =>
    let s := s.each F.regAngleStat.flds fun s g => s.put g 0 i
    ((s.put F.ANGLE_ANG_SPEED 0 i).put F.ANGLE_IDX_DIFF_D 0 i).angRestart i

/-- An ingress item of the tracker (R280, R283, R289): 0 the angle, 1 the speed, 2 A², 3 `STAT`, 4 `IDX_DIFF`. -/
def Dev.angItem (s : Dev) (i item : Nat) : Nat :=
  match item with
  | 0 => s.angleNow i
  | 1 => s.f F.ANGLE_ANG_SPEED i
  | 2 => (s.angInst i).a2
  | 3 => s.word F.regAngleStat 0 i 0
  | 4 => s.f F.ANGLE_IDX_DIFF_D i
  | _ => 0

end Sys2Proof.Machine
end

