-- ==== Sys2Proof/Machine/Notice.lean ====
section
/-! DEFINITION. The rings of HOSTQ (16_host_tollgate, R387 to R399): doorbells, fetched descriptors, completions,
notices, interrupts, receive buffers, reset and function-level reset. What the operations of descriptors do is in
Machine/Host. -/

namespace Sys2Proof.Machine

def Cq.empty : Cq := { used := 0, phase := true, wait := [], held := [], ovf := false, since := 0, sinceAt := 0 }

def Dev.cqOf (s : Dev) (r : Nat) : Cq := Tab.get Cq.empty s.hostq.cq r

def Dev.setCq (s : Dev) (r : Nat) (c : Cq) : Dev :=
  { s with hostq := { s.hostq with cq := Tab.set Cq.empty s.hostq.cq r c } }

/-- Entries of a completion ring (R387). -/
def Dev.cqSize (s : Dev) (r : Nat) : Nat := 2 ^ s.f F.HOSTQ_CQ_CFG_LOG2SIZE r

/-- An interrupt message of a function: a masked vector becomes pending (R397). -/
def Dev.msix (s : Dev) (fn vec : Nat) : Dev :=
  let k := fn * 64 + vec
  if s.hostq.masked.contains k then
    { s with hostq := { s.hostq with msiPend := if s.hostq.msiPend.contains k then s.hostq.msiPend else k :: s.hostq.msiPend } }
  else s.emit (.msix fn vec)

/-- An event of `HOSTQ.EVT` signals `HOSTQ.EVT_VEC` (R397). -/
def Dev.hostEvt (s : Dev) (e : Fld) : Dev :=
  let s := s.raise e
  s.iff (s.flag F.HOSTQ_EVT_VEC_EN) fun s => s.msix 0 (s.f F.HOSTQ_EVT_VEC_VEC)

/-- A direct access that fails is captured (R386): function, BAR code, offset, direction. -/
def Dev.mmioError (s : Dev) (st : Status) (fn bar off : Nat) (wr : Bool) : Dev :=
  let s := ((s.put F.HOSTQ_MMIO_ERR_STATUS st.code).put F.HOSTQ_MMIO_ERR_FUNC fn).put F.HOSTQ_MMIO_ERR_WR (b2n wr)
  ((s.put F.HOSTQ_MMIO_ERR_BAR bar).put F.HOSTQ_MMIO_ERR_OFFSET off).hostEvt F.HOSTQ_EVT_MMIO_ERR

/-- The ring has room for one more entry beyond those that wait (R394). -/
def Dev.cqRoom (s : Dev) (r : Nat) : Bool :=
  s.flag F.HOSTQ_CQ_CFG_EN r && decide ((s.cqOf r).used + (s.cqOf r).wait.length < s.cqSize r)

/-- Post a notice to a completion ring (R379, R395). -/
def Dev.postNotice (s : Dev) (r : Nat) (e : CqEntry) : Dev :=
  let c := s.cqOf r
  if s.cqRoom r ∧ c.held = [] then s.setCq r { c with wait := c.wait ++ [e] }
  else if c.held.length < 16 then
    (s.setCq r { c with held := c.held ++ [e] }).put F.HOSTQ_CQ_STAT_HELD (c.held.length + 1) r
  else ((s.setCq r { c with ovf := true }).inc F.HOSTQ_CQ_STAT_LOST_CNT 1 r).hostEvt F.HOSTQ_EVT_NOTICE_LOST

/-! ## Submission rings -/

def Sq.empty : Sq := { tail := 0, cons := 0, act := [] }

def Dev.sqOf (s : Dev) (r : Nat) : Sq := Tab.get Sq.empty s.hostq.sq r

def Dev.setSq (s : Dev) (r : Nat) (q : Sq) : Dev :=
  { s with hostq := { s.hostq with sq := Tab.set Sq.empty s.hostq.sq r q } }

/-- Entries of a submission ring (R387). -/
def Dev.sqSize (s : Dev) (r : Nat) : Nat := 2 ^ s.f F.HOSTQ_SQ_CFG_LOG2SIZE r

/-- A write of `SQ_DB` (R388): the new tail; INVALID, to be logged, where the ring would hold too many. -/
def Dev.sqDoorbell (s : Dev) (r v : Nat) : Acted :=
  let q := s.sqOf r
  let n := s.sqSize r
  let held := (q.tail + n - q.cons % n) % n
  let more := (v + n - q.tail % n) % n
  if n ≤ v ∨ n - 1 < held + more then s.deny .invalid
  else (.ok, s.setSq r { q with tail := v })

/-- A write of `CQ_DB` (R388, R394, R395): the new head frees entries; notices held find room. -/
def Dev.cqDoorbell (s : Dev) (r v : Nat) : Acted :=
  let c := s.cqOf r
  let n := s.cqSize r
  let head := (s.f F.HOSTQ_CQ_STAT_TAIL r + n - c.used % n) % n
  let freed := (v + n - head) % n
  if n ≤ v ∨ c.used < freed then s.deny .invalid
  else (.ok, s.setCq r { c with used := c.used - freed })

/-- The completion ring of a submission ring. -/
def Dev.cqFor (s : Dev) (r : Nat) : Nat := s.f F.HOSTQ_SQ_CFG_CQ r

/-- Completed descriptors at the front leave the ring in ring order, and their entries wait to be written (R392). -/
def Dev.sqDrainN : Nat → Dev → Nat → Dev
  | 0, s, _ => s
  | n + 1, s, r =>
    match (s.sqOf r).act with
    | [] => s
    | d :: ds =>
      match d.fin with
      | none => s
      | some e =>
        let h := (d.idx + 1) % s.sqSize r
        let s := s.setSq r { s.sqOf r with act := ds, cons := h }
        let q := s.cqFor r
        let s := s.setCq q { s.cqOf q with wait := (s.cqOf q).wait ++ [{ e with sqHead := h }] }
        Dev.sqDrainN n s r

def Dev.sqDrain (s : Dev) (r : Nat) : Dev := Dev.sqDrainN ((s.sqOf r).act.length) s r

/-- The header fields of a descriptor (R389). -/
def Desc.op (d : Desc) : Nat := field d.bytes 0 1
def Desc.irq (d : Desc) : Bool := bitOf (field d.bytes 1 1) 0
def Desc.fence (d : Desc) : Bool := bitOf (field d.bytes 1 1) 1
def Desc.tag (d : Desc) : Nat := field d.bytes 2 2
def Desc.epoch (d : Desc) : Nat := field d.bytes 4 1

/-- The reserved bits of the header are 0 (R389). -/
def Desc.headerOk (d : Desc) : Bool :=
  decide (field d.bytes 1 1 < 4) && decide (d.epoch < 16) && decide (field d.bytes 5 3 = 0)

/-- Every byte outside the ranges listed is 0 (R390): ranges are (start, length). -/
def Desc.zeroBut (d : Desc) (l : List (Nat × Nat)) : Bool :=
  (List.range 64).all fun i => decide (i < 8) || l.any (fun r => decide (r.1 ≤ i) && decide (i < r.1 + r.2)) ||
    decide (field d.bytes i 1 = 0)

/-- Replace the descriptor with an index. -/
def Dev.setDesc (s : Dev) (r : Nat) (d : Desc) : Dev :=
  s.setSq r { s.sqOf r with act := (s.sqOf r).act.map fun x => if x.idx = d.idx then d else x }

/-- A descriptor completes (R392, R393): status, the current epoch of its target, payload. -/
def Dev.finish (s : Dev) (r : Nat) (d : Desc) (st : Status) (ep : Nat) (payload : List Byte) : Dev :=
  let e : CqEntry := { tag := d.tag, status := st, op := d.op, epoch := ep, notice := false, sq := r, sqHead := 0,
                       irq := d.irq, payload := payload }
  ((s.setDesc r { d with started := true, fin := some e }).sqDrain r).complete st

/-- The current epoch of what a descriptor names (R57, R390); the one it names where that is elsewhere, absent, off or gated off. -/
def Dev.descEpoch (s : Dev) (r : Nat) (d : Desc) : Nat :=
  let of := fun (b : Blk) => if s.hasEpoch b then s.epoch b else d.epoch
  let port := fun (p : Nat) => if s.hasEpoch .eth && !s.gated (1 + p) then s.f F.ETH_PORT_STAT_EPOCH p else d.epoch
  let at_ := fun (off : Nat) => match Blk.ofNum (off / 0x10000) with | some b => of b | none => d.epoch
  let copy := if field d.bytes 20 1 = 2 then of .loom else if field d.bytes 20 1 = 4 then of .reel else at_ (field d.bytes 16 4)
  match d.op with
  | 1 => at_ (field d.bytes 8 4)
  | 2 => at_ (field d.bytes 8 4)
  | 3 => copy
  | 4 => copy
  | 6 => of .global
  | 7 => port (field d.bytes 18 1 % 4)
  | 8 =>
    let k := s.f F.HOSTQ_SQ_CFG_KIND r
    if k < 5 then port (k - 1) else if s.hasEpoch .can then s.f F.CAN_STAT_EPOCH (k - 5) else d.epoch
  | 9 => of .can
  | 10 => of .can
  | 11 => of .secure
  | _ => d.epoch

/-- A ring of this kind accepts an operation (R387). -/
def kindAccepts (kind op : Nat) : Bool := if kind = 0 then decide (op ≠ 8) else decide (op = 8)

/-- A fetched descriptor may start: every earlier one has started, and with FENCE every earlier one has completed (R389,
R392). -/
def readyDesc : List Desc → Bool → Option Desc
  | [], _ => none
  | d :: ds, clear =>
    if d.started then readyDesc ds (clear && d.fin.isSome)
    else if d.fence && !clear then none else some d

/-- The next descriptor of a ring to start, where it holds an operation. -/
def Dev.nextDesc (s : Dev) (r op : Nat) : Option Desc :=
  match readyDesc (s.sqOf r).act true with
  | none => none
  | some d => if d.op = op then some d else none

/-- The ring processes descriptors: HOSTQ and the ring are on (R396, R406). -/
def Dev.sqOn (s : Dev) (r : Nat) : Bool :=
  s.flag F.HOSTQ_CTL_EN && s.flag F.HOSTQ_SQ_CFG_EN r && decide (s.f F.HOSTQ_SQ_STAT_STATE r = 1)

/-- The completion ring is full: the next entry would overwrite one not freed (R394). -/
def Dev.cqFull (s : Dev) (q : Nat) : Bool := decide (s.cqSize q ≤ (s.cqOf q).used)

/-- A descriptor is fetched with its 64 bytes of host memory (R388, R389, R394): an undefined OP and an OP that the ring's
kind does not accept complete with INVALID. -/
def Dev.fetch (s : Dev) (r : Nat) (bytes : List Byte) : Dev :=
  let h := s.f F.HOSTQ_SQ_STAT_HEAD r
  let q := s.sqOf r
  if ¬ s.sqOn r ∨ h = q.tail ∨ s.cqFull (s.cqFor r) then s
  else
    let d : Desc := { idx := h, bytes := slice bytes 0 64, started := false, fin := none }
    let s := (s.setSq r { q with act := q.act ++ [d] }).put F.HOSTQ_SQ_STAT_HEAD ((h + 1) % s.sqSize r) r
    if 0x0B < d.op ∨ ¬ kindAccepts (s.f F.HOSTQ_SQ_CFG_KIND r) d.op ∨ ¬ d.headerOk then s.finish r d .invalid (s.descEpoch r d) [] else s

/-- A descriptor fetch ends without data (R396): the ring enters ERROR. -/
def Dev.fetchFail (s : Dev) (r : Nat) (st : Status) : Dev :=
  if ¬ s.sqOn r ∨ s.f F.HOSTQ_SQ_STAT_HEAD r = (s.sqOf r).tail then s
  else ((s.put F.HOSTQ_SQ_STAT_STATE 2 r).put F.HOSTQ_SQ_STAT_ERR st.code r).hostEvt F.HOSTQ_EVT_RING_ERR

/-- The bytes of a completion entry (R393). -/
def CqEntry.bytes (e : CqEntry) (phase ovf : Bool) : List Byte :=
  slice (bytesOf 2 e.tag ++ bytesOf 1 e.status.code ++ bytesOf 1 e.op ++
    bytesOf 1 (b2n phase + b2n ovf * 2 + e.epoch * 16) ++ bytesOf 1 (b2n e.notice * 128 + e.sq) ++ bytesOf 2 e.sqHead ++
    e.payload) 0 32

/-- The CQ signals its vector where `IRQ_EN` = 1 (R397). -/
def Dev.cqSignal (s : Dev) (q : Nat) : Dev :=
  s.iff (s.flag F.HOSTQ_CQ_CFG_IRQ_EN q) fun s =>
    (s.setCq q { s.cqOf q with since := 0 }).msix (s.f F.HOSTQ_CQ_CFG_FUNC q) (s.f F.HOSTQ_CQ_CFG_VEC q)

/-- An entry is written to its completion ring once there is room (R393 to R397): notices held go first. -/
def Dev.cqWrite (s : Dev) (q : Nat) : Dev :=
  let c := s.cqOf q
  if ¬ s.flag F.HOSTQ_CQ_CFG_EN q ∨ s.cqFull q then s
  else
    let go := fun (e : CqEntry) (c' : Cq) =>
      let t := s.f F.HOSTQ_CQ_STAT_TAIL q
      let last := decide (t + 1 = s.cqSize q)
      let n := c.since + 1
      let first := if c.since = 0 then s.now else c.sinceAt
      let s := s.setCq q { c' with used := c.used + 1, phase := c.phase != last, ovf := false, since := n, sinceAt := first }
      let s := (s.put F.HOSTQ_CQ_STAT_TAIL (if last then 0 else t + 1) q).put F.HOSTQ_CQ_STAT_HELD c'.held.length q
      let s := s.emit (.hostWrite (s.f F.HOSTQ_CQ_CFG_FUNC q) (s.f F.HOSTQ_CQ_BASE_ADDR q * 32 + t * 32) (e.bytes c.phase c.ovf))
      s.iff (e.irq || e.notice || (decide (s.f F.HOSTQ_CQ_COAL_COUNT q ≠ 0) && decide (s.f F.HOSTQ_CQ_COAL_COUNT q ≤ n)))
        fun s => s.cqSignal q
    match c.held, c.wait with
    | e :: es, _ => go e { c with held := es }
    | [], e :: es => go e { c with wait := es }
    | [], [] => s

/-- TIME µs have passed since the first entry after the last signal (R397): time goes on to that instant. -/
def Dev.coalesceTimeout (s : Dev) (q : Nat) : Dev :=
  if s.flag F.HOSTQ_CQ_CFG_IRQ_EN q ∧ s.f F.HOSTQ_CQ_COAL_TIME q ≠ 0 ∧ (s.cqOf q).since ≠ 0 then
    (s.advanceTo ((s.cqOf q).sinceAt + s.f F.HOSTQ_CQ_COAL_TIME q * 1000)).cqSignal q
  else s

/-! ## Receive buffers (R387) -/

/-- The ring that serves a receive source: the lowest-numbered enabled ring of its kind. -/
def Dev.rxRing (s : Dev) (kind : Nat) : Option Nat :=
  (List.range 64).find? fun r => s.flag F.HOSTQ_SQ_CFG_EN r && decide (s.f F.HOSTQ_SQ_CFG_KIND r = kind)

/-- Its oldest unused buffer. -/
def Dev.rxBuf (s : Dev) (kind : Nat) : Option (Nat × Desc) :=
  match s.rxRing kind with
  | none => none
  | some r => ((s.sqOf r).act.find? fun d => d.started && d.fin.isNone).map fun d => (r, d)

/-- A frame goes to the host: into the oldest buffer, with a payload that is told whether the frame was truncated (R387,
R393). -/
def Dev.rxDeliver (s : Dev) (kind ep : Nat) (bytes : List Byte) (payload : Bool → List Byte) : Dev :=
  match s.rxBuf kind with
  | none => s.inc F.HOSTQ_STAT_NOBUF_CNT 1
  | some (r, d) =>
    let room := field d.bytes 16 2
    let s := s.emit (.hostWrite (s.f F.HOSTQ_SQ_CFG_FUNC r) (field d.bytes 8 8) (bytes.take room))
    let c := s.cpl
    { s.finish r d .ok ep (payload (decide (room < bytes.length))) with cpl := c }

/-- The buffers that wait for a frame of a source. -/
def Dev.rxWait (s : Dev) (kind : Nat) : List Desc :=
  match s.rxRing kind with
  | none => []
  | some r => (s.sqOf r).act.filter fun d => d.started && d.fin.isNone

/-- They complete with RETIRED, carrying the epoch `ep` of their source in block `b` (R57, R429). -/
def Dev.retireRx (s : Dev) (b : Blk) (kind ep : Nat) : Dev :=
  match s.rxRing kind with
  | none => s
  | some r =>
    let l := s.rxWait kind
    { s.each l fun s d => s.finish r d .retired ep [] with cpl := s.cpl }.retired b l.length

/-! ## Resets -/

/-- Descriptors of a ring in progress, and those posted and not yet fetched (R388, R398). -/
def Dev.sqOpen (s : Dev) (r : Nat) : List Desc := (s.sqOf r).act.filter fun d => d.fin.isNone
def Dev.sqPosted (s : Dev) (r : Nat) : Nat := ((s.sqOf r).tail + s.sqSize r - s.f F.HOSTQ_SQ_STAT_HEAD r) % s.sqSize r

/-- Every descriptor of a ring in progress completes with RETIRED (R398). -/
def Dev.retireSq (s : Dev) (r : Nat) : Dev :=
  let l := s.sqOpen r
  { s.each l fun s d => s.finish r d .retired (s.descEpoch r d) [] with cpl := s.cpl }.retired .hostq l.length

/-- Descriptors posted and not fetched: a RETIRED entry each, with TAG 0 and its index (R398). -/
def Dev.retirePosted : Nat → Dev → Nat → Dev
  | 0, s, _ => s
  | n + 1, s, r =>
    let h := s.f F.HOSTQ_SQ_STAT_HEAD r
    if h = (s.sqOf r).tail then s
    else
      let q := s.cqFor r
      let h' := (h + 1) % s.sqSize r
      let e : CqEntry := { tag := 0, status := .retired, op := 0, epoch := 0, notice := false, sq := r, sqHead := h, irq := false, payload := [] }
      let s := s.setCq q { s.cqOf q with wait := (s.cqOf q).wait ++ [e] }
      let s := (s.put F.HOSTQ_SQ_STAT_HEAD h' r).setSq r { s.sqOf r with cons := h' }
      Dev.retirePosted n (s.retired .hostq 1) r

/-- A per-block reset of HOSTQ (R398): the rings stay as they are set up; the other registers take their reset values (R6). -/
def Dev.hostqReset (s : Dev) : Dev :=
  let s := s.each (List.range 64) fun s r =>
    let s := (s.retireSq r)
    let s := Dev.retirePosted (s.sqSize r) s r
    s.iff (decide (s.f F.HOSTQ_SQ_STAT_STATE r = 2)) fun s => (s.put F.HOSTQ_SQ_STAT_STATE 1 r).put F.HOSTQ_SQ_STAT_ERR 0 r
  let s := s.each (List.range 64) fun s q => s.put F.HOSTQ_CQ_STAT_LOST_CNT 0 q
  s.each [F.regHostqCtl, F.regHostqStat, F.regHostqEvt, F.regHostqEvtVec, F.regHostqMmioErr, F.regHostqFlrRet] fun s R => s.resetFlds R.flds 0 0 0

/-- A function-level reset of one function (R399): its rings are disabled and their descriptors retire unwritten. -/
def Dev.flrOne (s : Dev) (fn : Nat) : Dev :=
  let rs := (List.range 64).filter fun r => decide (s.f F.HOSTQ_SQ_CFG_FUNC r = fn)
  let n := rs.foldl (fun a r => a + (s.sqOpen r).length + s.sqPosted r) 0
  let s := s.each rs fun s r =>
    let s := (s.setSq r { (s.sqOf r) with act := [], cons := (s.sqOf r).tail }).put F.HOSTQ_SQ_STAT_HEAD (s.sqOf r).tail r
    (s.put F.HOSTQ_SQ_CFG_EN 0 r).put F.HOSTQ_SQ_STAT_STATE 0 r
  let s := s.each ((List.range 64).filter fun q => decide (s.f F.HOSTQ_CQ_CFG_FUNC q = fn)) fun s q =>
    (s.put F.HOSTQ_CQ_CFG_EN 0 q).setCq q { s.cqOf q with wait := (s.cqOf q).wait.filter fun e => e.notice || !rs.contains e.sq }
  (((s.retired .hostq n).inc F.HOSTQ_FLR_RET_COUNT n).put F.HOSTQ_FLR_RET_FUNC fn).hostEvt F.HOSTQ_EVT_FLR_RET

/-- A function-level reset (R399): that of the PF also resets all VFs. -/
def Dev.flr (s : Dev) (fn : Nat) : Dev :=
  if fn = 0 then (((s.flrOne 1).flrOne 2).flrOne 3).flrOne 4 |>.flrOne 0 else s.flrOne fn

end Sys2Proof.Machine
end

