-- ==== Sys2Proof/Machine/Can.lean ====
section
/-! DEFINITION. CAN FD controllers (18_can_utility, R421 to R431): bit timing, pending frames, cancel, reception, errors
and the CONCENTRATOR's mailbox. Error counting follows ISO 11898-1 (log entry 28). -/

namespace Sys2Proof.Machine

def CanCtl.idle : CanCtl := { pend := [], fifo := [], recov := false, integ := false }

def Dev.canCtl (s : Dev) (c : Nat) : CanCtl := Tab.get CanCtl.idle s.can.ctl c
def Dev.setCan (s : Dev) (c : Nat) (x : CanCtl) : Dev :=
  ({ s with can := { s.can with ctl := Tab.set CanCtl.idle s.can.ctl c x } }).put F.CAN_STAT_PEND x.pend.length c

/-- States (R431). -/
def canActive : Nat := 0
def canPassive : Nat := 1
def canBusOff : Nat := 2
def canOff : Nat := 3

/-- Fields of an ID word (R424). -/
def idIde (w : Nat) : Bool := bitOf w 29
def idRtr (w : Nat) : Bool := bitOf w 30
def idFdf (w : Nat) : Bool := bitOf w 31

/-- Data length of a DLC (ISO 11898-1): remote frames carry none. -/
def canLen (id dlc : Nat) : Nat :=
  if idRtr id then 0
  else if dlc ≤ 8 then dlc
  else if idFdf id then [12, 16, 20, 24, 32, 48, 64].getD (dlc - 9) 64
  else 8

/-- The arbitration field as a number: the lower wins (R424, ISO 11898-1). -/
def arbKey (w : Nat) : Nat :=
  if idIde w then bits w 18 11 * 2 ^ 21 + 2 ^ 20 + 2 ^ 19 + bits w 0 18 * 2 + b2n (idRtr w)
  else bits w 18 11 * 2 ^ 21 + b2n (idRtr w) * 2 ^ 20

/-- The frame that contends: one that a late cancel found past arbitration, else that of the highest priority, equal
identifiers in order (R424, R425). -/
def contender (l : List CanTx) : Option CanTx :=
  match l.find? fun x => x.last with
  | some x => some x
  | none => l.foldl (fun a x =>
      match a with
      | none => some x
      | some y => if arbKey x.frame.id < arbKey y.frame.id then some x else some y) none

/-- The controller is on the bus and not bus-off. -/
def Dev.canOn (s : Dev) (c : Nat) : Bool := s.flag F.CAN_CFG_EN c && decide (s.f F.CAN_STAT_STATE c ≠ canBusOff)

/-- The descriptor or mailbox of a frame completes (R424, R425, R430): outcome 1 SENT, 2 CANCELLED, 0 for RETIRED. -/
def Dev.canDone (s : Dev) (c : Nat) (x : CanTx) (st : Status) (outcome : Nat) (t : Int) : Dev :=
  match x.desc with
  | none =>
    ((s.put F.CAN_TXB_STAT_STATUS st.code c).put F.CAN_TXB_STAT_OUTCOME outcome c).put F.CAN_TXB_STAT_PENDING 0 c
  | some (r, k, _) =>
    match (s.sqOf r).act.find? fun d => decide (d.idx = k) && decide (d.op = 9) with
    | none => s
    | some d =>
      let pay := bytesOf 4 outcome ++ (if outcome = 1 then bytesOf 4 (nsOf t) ++ bytesOf 6 (secOf t) ++ bytesOf 1 (subOf t) else [])
      { s.finish r d st (s.epoch .can) pay with cpl := s.cpl }

/-- Remove a pending frame. -/
def Dev.canDrop (s : Dev) (c : Nat) (x : CanTx) : Dev :=
  let k := s.canCtl c
  s.setCan c { k with pend := k.pend.erase x }

/-- The error state follows the counters (R428): bus-off is left by recovery only. -/
def Dev.canState (s : Dev) (c : Nat) : Dev :=
  let st := s.f F.CAN_STAT_STATE c
  if st = canBusOff ∨ st = canOff then s
  else if 255 < s.f F.CAN_ERR_TEC c then
    let s := (s.put F.CAN_STAT_STATE canBusOff c).raise F.CAN_EVT_BUS_OFF c
    s.setCan c { s.canCtl c with recov := s.flag F.CAN_CFG_AUTO_REC c }
  else if 127 < s.f F.CAN_ERR_TEC c ∨ 127 < s.f F.CAN_ERR_REC c then
    (s.put F.CAN_STAT_STATE canPassive c).iff (decide (st ≠ canPassive)) fun s => s.raise F.CAN_EVT_PASSIVE c
  else s.put F.CAN_STAT_STATE canActive c

/-- The controller takes part in a frame: it has seen the 11 recessive bits of an integration (R421, R429). -/
def Dev.canJoined (s : Dev) (c : Nat) : Dev := s.setCan c { s.canCtl c with integ := false }

/-- The count of consecutive acknowledgement errors returns to 0 (R428). -/
def Dev.canHeard (s : Dev) (c : Nat) : Dev := (s.put F.CAN_STAT_ACK_RUN 0 c).put F.CAN_STAT_LONE_NODE 0 c

/-- An error (R428): `lec` as `STAT.LEC`, whether as transmitter, and how often a further 8 counts (ISO 11898-1). -/
def Dev.canError (s : Dev) (c lec : Nat) (tx : Bool) (more : Nat) : Dev :=
  if ¬ s.canOn c then s
  else
    let s := (s.put F.CAN_STAT_LEC lec c).inc F.CAN_CNT_ERR_FR 1 c
    let s :=
      if tx then
        let d := (if lec = 3 ∧ s.f F.CAN_STAT_STATE c = canPassive then 0 else 8) + 8 * more
        s.put F.CAN_ERR_TEC (min 511 (s.f F.CAN_ERR_TEC c + d)) c
      else s.put F.CAN_ERR_REC (min 255 (s.f F.CAN_ERR_REC c + 1 + 8 * more)) c
    let s :=
      if tx ∧ lec = 3 then
        let n := min 16 (s.f F.CAN_STAT_ACK_RUN c + 1)
        (s.put F.CAN_STAT_ACK_RUN n c).iff (decide (n = 16)) fun s => s.raise F.CAN_STAT_LONE_NODE c
      else if tx then s.canHeard c
      else s
    let s := s.canState c
    match if tx then (s.canCtl c).pend.find? fun x => x.last else none with
    | some x => (s.canDrop c x).canDone c x .ok 2 0
    | none => s

/-- The lengths of a phase in tq: from the start of a bit to its sample point, from there to its end, and the most that a resynchronisation
corrects (R422). -/
def Dev.canSegs (s : Dev) (c : Nat) (dataPhase : Bool) : Nat × Nat × Nat :=
  if dataPhase then (2 + s.f F.CAN_DBT_TSEG1 c, 1 + s.f F.CAN_DBT_TSEG2 c, 1 + s.f F.CAN_DBT_SJW c)
  else (2 + s.f F.CAN_NBT_TSEG1 c, 1 + s.f F.CAN_NBT_TSEG2 c, 1 + s.f F.CAN_NBT_SJW c)

/-- What a resynchronisation leaves of a phase error (R423). -/
def canResync (sjw : Nat) (e : Int) : Int := e - clampI (-(sjw : Int)) sjw e

/-- The receiver follows a frame (R423): hard synchronised at SOF, it resynchronises at each later edge. Each edge is given with its phase
(true: data phase) and the tq by which it comes later than the edge before it puts it; the phase error must lie between the sample points of
the bits on its two sides (log entry 164). -/
def Dev.canFollows (s : Dev) (c : Nat) (edges : List (Bool × Int)) : Bool :=
  (edges.foldl (fun (p : Bool × Int) x =>
    let g := s.canSegs c x.1
    let e := p.2 + x.2
    (p.1 && decide (-(g.2.1 : Int) < e) && decide (e < g.1), canResync g.2.2 e)) (true, 0)).1

/-- The place of the secondary sample point, in CAN clocks from the start of a bit; beyond 127 it is a bit error (R423). -/
def Dev.canSsp (s : Dev) (c delay : Nat) : Nat := delay + s.f F.CAN_CFG_TDC_OFS c

/-- A bit error of the transmitter in the data phase: the secondary sample point lies beyond 127 clocks, or without compensation the delay
exceeds the sample point (R423; log entry 164). -/
def Dev.canLateBit (s : Dev) (c delay : Nat) (x : CanFrame) : Bool :=
  idFdf x.id && x.brs &&
    (if s.flag F.CAN_CFG_TDC_EN c then decide (127 < s.canSsp c delay)
     else decide ((s.canSegs c true).1 * (1 + s.f F.CAN_DBT_BRP c) < delay))

/-- A frame reaches the end that makes it valid for the transmitter (R424): `delay` is the transceiver delay measured in it, in CAN clocks;
with a bit error the attempt fails (R423). Its SOF lay `ago` ns before. -/
def Dev.canSent (s : Dev) (c ago delay : Nat) : Dev :=
  if ¬ s.canOn c then s
  else match contender (s.canCtl c).pend with
    | none => s
    | some x =>
      if s.canLateBit c delay x.frame then { s with free := s.free + 1 }.canError c (if Config.canBit s.free then 4 else 5) true 0
      else
      let s := (((s.canJoined c).canDrop c x).inc F.CAN_CNT_TX_OK 1 c).put F.CAN_ERR_TEC (s.f F.CAN_ERR_TEC c - 1) c
      (((s.canHeard c).put F.CAN_STAT_LEC 0 c).canState c).canDone c x .ok 1 (s.nowFix - (ago : Int) * nsFix)

/-- REC after a valid frame (R428, ISO 11898-1). -/
def recAfter (r n : Nat) : Nat := if r ≤ 127 then r - 1 else 119 + Config.canRec n % 9

/-- Byte 23 of a completion (R426). -/
def CanRx.byte23 (x : CanRx) : Nat := x.frame.dlc + b2n x.frame.brs * 16 + b2n x.esi * 32 + b2n x.own * 64

/-- A frame is received whole (R426, R430). With `FD` = 0 the recessive FDF bit of another node's FD frame is a form error (R421). -/
def Dev.canReceived (s : Dev) (c : Nat) (fr : CanFrame) (esi own : Bool) (ago : Nat) (edges : List (Bool × Int)) : Dev :=
  let mode := s.f F.CAN_CFG_MODE c
  if ¬ own ∧ mode ≠ 1 ∧ idFdf fr.id ∧ ¬ s.flag F.CAN_CFG_FD c then s.canError c 2 false 0
  else if ¬ s.canOn c ∨ (own ∧ mode = 0 ∧ ¬ s.flag F.CAN_CFG_RX_OWN c) ∨
      (¬ own ∧ mode = 1) ∨ ¬ (own ∨ s.canFollows c edges) then s
  else
    let t := s.nowFix - (ago : Int) * nsFix
    let n := canLen fr.id fr.dlc
    let x : CanRx := { frame := { fr with data := slice fr.data 0 n }, time := t, esi := esi, own := own }
    let s := (s.canJoined c).inc F.CAN_CNT_RX_OK 1 c
    let s := if own then s else
      { (((s.put F.CAN_ERR_REC (recAfter (s.f F.CAN_ERR_REC c) s.free) c).canHeard c).canState c) with free := s.free + 1 }
    if s.role = .manager then
      s.rxDeliver (5 + c) (s.f F.CAN_STAT_EPOCH c) x.frame.data fun _ =>
        bytesOf 4 fr.id ++ bytesOf 4 (nsOf t) ++ bytesOf 6 (secOf t) ++ bytesOf 1 (subOf t) ++ bytesOf 1 x.byte23 ++
        bytesOf 1 n ++ bytesOf 1 c
    else
      let k := s.canCtl c
      if 16 ≤ k.fifo.length then (s.raise F.CAN_EVT_RX_LOST c).inc F.CAN_CNT_LOST_CNT 1 c
      else (s.setCan c { k with fifo := k.fifo ++ [x] }).put F.CAN_RXF_CTL_HELD (k.fifo.length + 1) c

/-- A read of `RXF_ID` moves the oldest frame into the read window (R430). -/
def Dev.rxfRead (s : Dev) (c : Nat) : Dev :=
  let k := s.canCtl c
  match k.fifo with
  | [] => s.put F.CAN_RXF_CTL_VALID 0 c
  | x :: l =>
    let s := (s.setCan c { k with fifo := l }).put F.CAN_RXF_CTL_HELD l.length c
    let s := ((s.put F.CAN_RXF_ID_V x.frame.id c).put F.CAN_RXF_CTL_VALID 1 c).put F.CAN_RXF_CTL_LEN x.frame.data.length c
    let s := ((s.put F.CAN_RXF_CTL_B23 x.byte23 c).put F.CAN_RXF_TIME_NS (nsOf x.time) c).put F.CAN_RXF_TIME_SUB (subOf x.time) c
    let s := (s.put F.CAN_RXF_TIME_SEC (secOf x.time % 2 ^ 16) c).put F.CAN_RXF_SEC_SEC (secOf x.time) c
    s.each (List.range 16) fun s w => s.put F.CAN_RXF_DATA_V (field x.frame.data (4 * w) 4) c w

/-- Bus-off recovery ends (R428). -/
def Dev.canRecovered (s : Dev) (c : Nat) : Dev :=
  if s.f F.CAN_STAT_STATE c = canBusOff ∧ (s.canCtl c).recov then
    let s := ((s.put F.CAN_ERR_TEC 0 c).put F.CAN_ERR_REC 0 c).put F.CAN_STAT_STATE canActive c
    (s.setCan c { s.canCtl c with recov := false }).raise F.CAN_EVT_RECOVERED c
  else s

/-- `CMD` op RECOVER (R428). -/
def Dev.canRecover (s : Dev) (c : Nat) : Dev :=
  if s.f F.CAN_STAT_STATE c = canBusOff then s.setCan c { s.canCtl c with recov := true } else s

/-- A frame becomes pending (R424, R430). -/
def Dev.canQueue (s : Dev) (c : Nat) (x : CanTx) : Acted :=
  let k := s.canCtl c
  if 8 ≤ k.pend.length then s.deny .busy else (.ok, s.setCan c { k with pend := k.pend ++ [x] })

/-- A cancel (R425): `late` tells that the frame was at or after the sample point of the last bit of its arbitration
field. -/
def Dev.canCancel (s : Dev) (c : Nat) (named : CanTx → Bool) (late : Bool) : Acted :=
  let k := s.canCtl c
  match k.pend.find? named with
  | none => s.deny .invalid
  | some x =>
    if late then
      (.cancelLate, (s.setCan c { k with pend := k.pend.map fun y => if y = x then { y with last := true } else y }).raise
        F.CAN_EVT_CANCEL_LATE c)
    else (.ok, (s.canDrop c x).canDone c x .ok 2 0)

/-- `CMD` op TX of the mailbox (R430). -/
def Dev.mailTx (s : Dev) (c : Nat) : Acted :=
  if s.role ≠ .concentrator then s.deny .invalid
  else if s.flag F.CAN_TXB_STAT_PENDING c then s.deny .busy
  else
    let id := s.f F.CAN_TXB_ID_V c
    if idRtr id ∧ idFdf id then s.deny .invalid
    else
      let data := (List.range 16).flatMap fun w => bytesOf 4 (s.f F.CAN_TXB_DATA_V c w)
      let fr : CanFrame := { id := id, dlc := s.f F.CAN_TXB_CTL_DLC c, brs := s.flag F.CAN_TXB_CTL_BRS c,
                             data := slice data 0 (canLen id (s.f F.CAN_TXB_CTL_DLC c)) }
      let a := s.canQueue c { frame := fr, desc := none, last := false }
      if a.1 = .ok then (.ok, a.2.raise F.CAN_TXB_STAT_PENDING c) else a

/-- `CMD` op CANCEL of the mailbox (R430): its outcome is written to `TXB_STAT`. -/
def Dev.mailCancel (s : Dev) (c : Nat) (late : Bool) : Acted :=
  if s.role ≠ .concentrator then s.deny .invalid
  else
    let a := s.canCancel c (fun x => x.desc.isNone) late
    (a.1, a.2.iff (decide (a.1 = .cancelLate)) fun s => s.put F.CAN_TXB_STAT_STATUS Status.cancelLate.code c)

/-- The bit timing permits EN = 1 (R422). -/
def Dev.canTimingOk (s : Dev) (c : Nat) : Bool :=
  let t1 := s.f F.CAN_NBT_TSEG1 c + 1
  let t2 := s.f F.CAN_NBT_TSEG2 c + 1
  let d1 := s.f F.CAN_DBT_TSEG1 c + 1
  let d2 := s.f F.CAN_DBT_TSEG2 c + 1
  decide (2 ≤ t1) && decide (2 ≤ t2) && decide (s.f F.CAN_NBT_SJW c + 1 ≤ t2) && decide (s.f F.CAN_DBT_SJW c + 1 ≤ d2) &&
  decide (10 ≤ (s.f F.CAN_DBT_BRP c + 1) * (1 + d1 + d2))

/-- Pending frames of a controller and the buffers of its ring complete with RETIRED (R429). -/
def Dev.canRetire (s : Dev) (c : Nat) : Dev :=
  let l := (s.canCtl c).pend
  let s := ((s.setCan c { s.canCtl c with pend := [] }).each l fun s x => s.canDone c x .retired 0 0).retired .can l.length
  let s := s.iff (decide (s.role = .manager)) fun s => s.retireRx .can (5 + c) (s.f F.CAN_STAT_EPOCH c)
  s.incW F.CAN_STAT_EPOCH 1 c

/-- A write of `CFG` (R422, R427, R429): the fields of the word `w`. -/
def Dev.canCfgWrite (s : Dev) (c w : Nat) : Acted :=
  if bits w 29 2 = 3 then s.deny .invalid
  else if s.flag F.CAN_CFG_EN c then
    if bitOf w 31 then s.deny .busy
    else
      let s := s.putWord F.regCanCfg 0 c 0 w
      (.ok, (s.canRetire c).put F.CAN_STAT_STATE canOff c)
  else if bitOf w 31 then
    if s.canTimingOk c then
      let s := s.putWord F.regCanCfg 0 c 0 w
      (.ok, ((s.put F.CAN_STAT_STATE canActive c).setCan c { s.canCtl c with integ := true, recov := false }).canState c)
    else s.deny .invalid
  else (.ok, s.putWord F.regCanCfg 0 c 0 w)

/-- The res bit of an FD frame is recessive (R421): with `FD` = 1 PROT_EXC and integration for 11 recessive bits; with `FD` = 0 the FDF bit
before it was a form error. -/
def Dev.protocolException (s : Dev) (c : Nat) : Dev :=
  if ¬ s.canOn c then s
  else if s.flag F.CAN_CFG_FD c then (s.setCan c { s.canCtl c with integ := true }).raise F.CAN_EVT_PROT_EXC c
  else s.canError c 2 false 0

/-- A per-block reset of CAN (R429): the configuration stays; the mailbox and the counters take their reset values (R6). -/
def Dev.canReset (s : Dev) : Dev :=
  s.each [0, 1] fun s c =>
    let s := s.canRetire c
    let s := s.setCan c { CanCtl.idle with integ := s.flag F.CAN_CFG_EN c }
    let s := (s.each F.regCanEvt.flds fun s g => s.put g 0 c).each F.regCanCnt.flds fun s g => s.put g 0 c
    let s := (s.put F.CAN_ERR_TEC 0 c).put F.CAN_ERR_REC 0 c
    let s := (s.canHeard c).put F.CAN_STAT_LEC 0 c
    let s := s.each [F.regCanTxbId, F.regCanTxbCtl, F.regCanTxbStat, F.regCanRxfId, F.regCanRxfCtl, F.regCanRxfTime, F.regCanRxfSec] fun s R => s.resetFlds R.flds 0 c 0
    let s := s.each (List.range 16) fun s w => (s.put F.CAN_TXB_DATA_V 0 c w).put F.CAN_RXF_DATA_V 0 c w
    s.put F.CAN_STAT_STATE canActive c

end Sys2Proof.Machine
end

