-- ==== Sys2Proof/Machine/Eth.lean ====
section
/-! DEFINITION. Ethernet (14_timebase_ethernet, R351 to R364): ports, redundancy, stamps, PTP one-step update, sampled
values, timed launch and reset. A frame is held from its destination address to the byte before its FCS. -/

namespace Sys2Proof.Machine

def SvStream.none_ : SvStream := { elems := [], arr := none }

def Dev.ethQ (s : Dev) (p q : Nat) : List EthFrame := Tab.get [] s.eth.txq (p * 4 + q)
def Dev.setEthQ (s : Dev) (p q : Nat) (l : List EthFrame) : Dev :=
  { s with eth := { s.eth with txq := Tab.set [] s.eth.txq (p * 4 + q) l } }

/-- The ports. -/
def ethPorts : List Nat := [0, 1, 2, 3]

/-- A big-endian number in a frame. -/
def be (l : List Byte) (start n : Nat) : Nat := ofBytesBE (slice l start n)


/-- Destination and source addresses. -/
def frDst (l : List Byte) : Nat := be l 0 6
def frSrc (l : List Byte) : Nat := be l 6 6

/-- Offset of the type field after an HSR tag and at most one VLAN tag (R352, R356). -/
def frTypeAt (l : List Byte) : Nat :=
  let a := if be l 12 2 = 0x892F then 18 else 12
  if be l a 2 = 0x8100 then a + 4 else a

/-- EtherType. -/
def frType (l : List Byte) : Nat := be l (frTypeAt l) 2

/-- The frame carries an HSR tag. -/
def frHsr (l : List Byte) : Bool := decide (be l 12 2 = 0x892F)

/-- The frame ends in a PRP trailer: suffix 0x88FB and a size that fits (log entry 26). -/
def frPrp (l : List Byte) : Bool :=
  decide (20 ≤ l.length) && decide (be l (l.length - 2) 2 = 0x88FB) && decide (be l (l.length - 4) 2 % 0x1000 = (l.length - 14) % 0x1000)

/-- The LAN that a PRP trailer names. -/
def frLan (l : List Byte) : Nat := be l (l.length - 4) 2 / 0x1000

/-- The sequence number of a tag or trailer. -/
def frSeq (hsr : Bool) (l : List Byte) : Nat := if hsr then be l 16 2 else be l (l.length - 6) 2

/-- A frame without its HSR tag or PRP trailer, as it goes to the node (log entry 26). -/
def frBare (hsr : Bool) (l : List Byte) : List Byte := if hsr then l.take 12 ++ l.drop 18 else l.take (l.length - 6)

/-- A multicast or broadcast address. -/
def macGroup (a : Nat) : Bool := bitOf a 40

/-- The redundancy mode (R352). -/
def Dev.redMode (s : Dev) : Nat := s.f F.ETH_RED_CFG_MODE

/-- Port up. -/
def Dev.ethUp (s : Dev) (p : Nat) : Bool := s.flag F.ETH_PORT_CFG_EN p && s.flag F.ETH_PORT_STAT_LINK p

/-! ## Transmit -/

/-- The descriptor of a frame completes (R360, R361). -/
def Dev.ethDone (s : Dev) (p : Nat) (fr : EthFrame) (st : Status) : Dev :=
  match fr.desc with
  | none => s
  | some (r, k) =>
    match (s.sqOf r).act.find? fun d => decide (d.idx = k) && decide (d.op = 7) with
    | none => s
    | some d => { s.finish r d st (s.f F.ETH_PORT_STAT_EPOCH p) [] with cpl := s.cpl }

/-- A stamp is queued, or dropped where 64 are held (R355). -/
def Dev.txStamp (s : Dev) (id port : Nat) (t : Int) : Dev :=
  if s.eth.txts.length < 64 then
    ({ s with eth := { s.eth with txts := s.eth.txts ++ [TxStamp.mk id port t] } }).put F.ETH_TXTS_STAT_COUNT
      (s.eth.txts.length + 1)
  else
    let s := s.iff (!s.flag F.ETH_TXTS_STAT_OVF) fun s => s.put F.ETH_TXTS_STAT_FIRST_DROP_ID id
    (s.raise F.ETH_TXTS_STAT_OVF).inc F.ETH_TXTS_STAT_DROP_CNT 1

/-- A read of `TXTS_LO` removes the oldest entry (R355). -/
def Dev.txtsRead (s : Dev) : Dev :=
  match s.eth.txts with
  | [] => (((s.put F.ETH_TXTS_LO_VALID 0).put F.ETH_TXTS_LO_NS 0).put F.ETH_TXTS_LO_SUB 0).put F.ETH_TXTS_LO_ID 0
  | x :: l =>
    let s := ({ s with eth := { s.eth with txts := l } }).put F.ETH_TXTS_STAT_COUNT l.length
    let s := ((s.put F.ETH_TXTS_LO_VALID 1).put F.ETH_TXTS_LO_NS (nsOf x.time)).put F.ETH_TXTS_LO_SUB (subOf x.time)
    ((s.put F.ETH_TXTS_LO_ID x.id).put F.ETH_TXTS_LO_PORT x.port).put F.ETH_TXTS_HI_SEC (secOf x.time)

/-- A signed field in 2⁻⁸ ns as a time in 2⁻⁴⁰ ns. -/
def ext8 (v : Nat) : Int := sgn 32 v * 2 ^ 32

/-- The stamping point of a port is the medium boundary (R353). -/
def Dev.ethMedium (s : Dev) (p : Nat) : Bool :=
  s.flag F.ETH_PORT_CFG_EN p && (decide (p < 2) || decide ((ethPorts.filter fun q => s.flag F.ETH_PORT_CFG_EN q).length ≤ 2))

/-- Tenths of a nanosecond in 2⁻⁴⁰ ns. -/
def tenthNs (n : Int) : Int := n * 2 ^ 40 / 10

/-- The correction that the device applies to a reading at the stamping point of a port (R353): `tx` for transmit. -/
def Dev.stampCorr (s : Dev) (tx : Bool) (p : Nat) : Int :=
  let fast := s.flag F.ETH_PORT_CFG_SPEED p
  if s.ethMedium p then Config.pcsCorr tx fast
  else
    match fast, tx with
    | false, true => tenthNs 1040
    | false, false => tenthNs (-1520)
    | true, true => tenthNs 416
    | true, false => tenthNs (-672)

/-- The uncertainty of a stamp at the ball (R353). -/
def Dev.stampBound (s : Dev) (p : Nat) : Int :=
  if s.ethMedium p then tenthNs 10 else if s.flag F.ETH_PORT_CFG_SPEED p then tenthNs 32 else tenthNs 40

/-- The reading of the stamping unit for a frame whose timestamp point passes the ball at the time `t` (R353). -/
def Dev.stampRead (s : Dev) (tx : Bool) (p : Nat) (t : Int) : Int :=
  t - s.stampCorr tx p + clampI (-s.stampBound p) (s.stampBound p) (Config.stampErr tx p s.fifths)

/-- The transmit stamp of a frame that leaves port `p` now, at the medium (R353). -/
def Dev.txTime (s : Dev) (p : Nat) : Int :=
  s.stampRead true p s.nowFix + s.stampCorr true p + ext8 (s.f F.ETH_PORT_LAT_TX_EXT p)

/-- The time in tenths of a nanosecond that `n` bytes take on a port (R351). -/
def Dev.byteTime (s : Dev) (p n : Nat) : Nat := n * 8 * (if s.flag F.ETH_PORT_CFG_SPEED p then 1 else 10)

/-- The receive stamp of a frame whose last byte has come on port `p` now, at the medium (R353): its timestamp point passed the ball
the length of the frame and its FCS before. -/
def Dev.rxTime (s : Dev) (p : Nat) (l : List Byte) : Int :=
  s.stampRead false p (s.nowFix - tenthNs (s.byteTime p (l.length + 4))) + s.stampCorr false p - ext8 (s.f F.ETH_PORT_LAT_RX_EXT p)

/-- A PTP Sync message, and the offset of its header (R356, R357). -/
def ptpSyncAt (l : List Byte) : Option Nat :=
  if frType l = 0x88F7 ∧ be l (frTypeAt l + 2) 1 % 16 = 0 then some (frTypeAt l + 2) else none

/-- The one-step update of a correctionField (R357). -/
def ptpCorrect (l : List Byte) (at_ : Nat) (d : Int) : List Byte :=
  let c := sgn 64 (be l (at_ + 8) 8) + d
  let c := if 2 ^ 63 - 1 < c then 2 ^ 63 - 1 else c
  l.take (at_ + 8) ++ beBytes 8 (wrap 64 c) ++ l.drop (at_ + 16)

/-- A frame leaves port `p` now (R353, R355, R357): the one-step update, the frame, its stamp and its completion. -/
def Dev.ethLeave (s : Dev) (p : Nat) (fr : EthFrame) : Dev :=
  let t := s.txTime p
  let upd := match fr.ingress, ptpSyncAt fr.bytes with
    | some (i, ti), some a =>
      if s.flag F.ETH_PORT_CFG_TC i && s.flag F.ETH_PORT_CFG_TC p then
        some (ptpCorrect fr.bytes a ((t - ti) / 2 ^ 24 + (s.f F.ETH_PORT_LINKDLY_LINKDLY i : Nat)))
      else none
    | _, _ => none
  let s := s.iff upd.isSome fun s => s.inc F.ETH_PORT_CNT2_TC_CNT 1 p
  let s := (s.emit (.ethTx p (upd.getD fr.bytes))).inc F.ETH_PORT_CNT_TX_OK 1 p
  let s := match fr.stamp with
    | none => s
    | some id => s.txStamp id p t
  s.ethDone p fr .ok

/-- The head of a queue: a frame with a launch time is held, or discarded as late (R361). -/
def Dev.ethHead : Nat → Dev → Nat → Nat → Dev
  | 0, s, _, _ => s
  | n + 1, s, p, q =>
    match s.ethQ p q with
    | [] => s
    | fr :: l =>
      match fr.launch with
      | none => s
      | some t =>
        if fr.held then s
        else if 600 ≤ sgn 32 (wrap 32 ((t : Int) - (s.short : Int))) then s.setEthQ p q ({ fr with held := true } :: l)
        else Dev.ethHead n (((s.setEthQ p q l).inc F.ETH_PORT_CNT2_LATE_CNT 1 p).ethDone p fr .late) p q

/-- A frame enters a queue (R360). -/
def Dev.ethPush (s : Dev) (p q : Nat) (fr : EthFrame) : Dev :=
  Dev.ethHead 1 (s.setEthQ p q (s.ethQ p q ++ [fr])) p q

/-- The head of a queue is gone; the next frame comes to the head. -/
def Dev.ethPop (s : Dev) (p q : Nat) : Dev :=
  let l := (s.ethQ p q).drop 1
  Dev.ethHead (l.length + 1) (s.setEthQ p q l) p q

/-- The ns until the transmit stamp of a frame that leaves port `p` reads the launch time `t` (R360: `TX_EXT` included, R3). -/
def Dev.untilL (s : Dev) (p t : Nat) : Int :=
  sgn 32 (wrap 32 ((t : Int) - (s.short : Int))) - ext8 (s.f F.ETH_PORT_LAT_TX_EXT p) / nsFix

/-- The held frame at the head of a queue is launched at its launch time, within 8 ns (R361). -/
def Dev.ethLaunch (s : Dev) (p q : Nat) : Dev :=
  match s.ethQ p q with
  | fr :: _ =>
    match fr.launch with
    | some t =>
      if fr.held ∧ s.ethUp p then
        let s := s.advanceTo (s.now + (s.untilL p t + clampI (-8) 8 (Config.launchErr p t)).toNat)
        (s.ethLeave p fr).ethPop p q
      else s
    | none => s
  | [] => s

/-- The time in ns that a frame and the interframe gap take (R351, R361). -/
def Dev.ethTime (s : Dev) (p : Nat) (fr : EthFrame) : Nat := (s.byteTime p (8 + fr.bytes.length + 4 + 12) + 9) / 10

/-- A frame may start: its transmission ends before the launch time of every frame held on the port (R361). -/
def Dev.ethClear (s : Dev) (p : Nat) (fr : EthFrame) : Bool :=
  ethPorts.all fun q =>
    match s.ethQ p q with
    | h :: _ =>
      match h.launch with
      | some t => !h.held || decide ((s.ethTime p fr : Int) < s.untilL p t)
      | none => true
    | [] => true

/-- The next frame of a port leaves, by strict priority, queue 3 highest (R355, R360). -/
def Dev.ethSent (s : Dev) (p : Nat) : Dev :=
  if ¬ s.ethUp p then s
  else
    match [3, 2, 1, 0].find? fun q => match s.ethQ p q with | fr :: _ => !fr.held | [] => false with
    | none => s
    | some q =>
      match s.ethQ p q with
      | fr :: _ => if s.ethClear p fr then (s.ethLeave p fr).ethPop p q else s
      | [] => s

/-- The redundancy trailer of PRP (log entry 26). -/
def prpTrail (lan seq : Nat) (l : List Byte) : List Byte :=
  l ++ beBytes 2 seq ++ beBytes 2 (lan * 0x1000 + (l.length + 6 - 14) % 0x1000) ++ beBytes 2 0x88FB

/-- The HSR tag (log entry 26). -/
def hsrTag (path seq : Nat) (l : List Byte) : List Byte :=
  l.take 12 ++ beBytes 2 0x892F ++ beBytes 2 (path * 0x1000 + (l.length + 6 - 14) % 0x1000) ++ beBytes 2 seq ++ l.drop 12

/-- A frame of the node as it leaves port `p`, 0 or 1, in a redundancy mode (R352): PTP frames without tag or trailer. -/
def Dev.ethTagged (s : Dev) (p seq : Nat) (l : List Byte) : List Byte :=
  if frType l = 0x88F7 then l
  else if s.redMode = 1 then prpTrail (0xA + p) seq l
  else hsrTag p seq l

/-- The node sends a frame on a port: in PRP and HSR on both ports of the redundant pair (R352, R360). -/
def Dev.ethSend (s : Dev) (p q : Nat) (fr : EthFrame) : Dev :=
  if s.redMode ≠ 0 ∧ p < 2 ∧ frType fr.bytes ≠ 0x88F7 then
    let n := s.eth.seq
    let s := { s with eth := { s.eth with seq := (n + 1) % 2 ^ 16 } }
    let o := 1 - p
    let s := s.ethPush p q { fr with bytes := s.ethTagged p n fr.bytes }
    s.ethPush o q { fr with bytes := s.ethTagged o n fr.bytes, desc := none }
  else s.ethPush p q fr

/-- A supervision frame on both ports, SUP_INT seconds of nominal ticks after the one before (R352; its layout after IEC 62439-3,
log entry 26). -/
def Dev.supervision (s : Dev) : Dev :=
  if s.redMode = 0 then s
  else
    let s := s.frcTo (s.eth.supAt + s.f F.ETH_RED_CFG_SUP_INT * (2 * 10 ^ 8))
    let mac := s.f F.ETH_MAC_ADDR_MAC
    let n := s.eth.supSeq
    let l := beBytes 6 0x01154E000100 ++ beBytes 6 mac ++ beBytes 2 0x88FB ++ beBytes 2 1 ++ beBytes 2 n ++
      beBytes 2 (if s.redMode = 1 then 0x1406 else 0x1706) ++ beBytes 6 mac ++ beBytes 2 0
    let s := { s with eth := { s.eth with supSeq := (n + 1) % 2 ^ 16, supAt := s.time.frc } }
    s.ethSend 0 0 { bytes := slice l 0 54, launch := none, held := false, stamp := none, desc := none, ingress := none }

/-! ## Sampled values (R358, R359) -/

/-- The length of a BER element at an offset: value and bytes of the length field. -/
def berLen (l : List Byte) (a : Nat) : Nat × Nat :=
  let b := be l a 1
  if b < 0x80 then (b, 1) else (be l (a + 1) (b - 0x80), 1 + (b - 0x80))

/-- The elements of a BER sequence between two offsets: tag, start and length of the content; none where it does not
parse. -/
def berItems : Nat → List Byte → Nat → Nat → Option (List (Nat × Nat × Nat))
  | 0, _, _, _ => none
  | n + 1, l, a, e =>
    if a = e then some []
    else if e < a + 2 then none
    else
      let ln := berLen l (a + 1)
      let c := a + 1 + ln.2
      if 5 < ln.2 ∨ e < c + ln.1 then none
      else (berItems n l (c + ln.1) e).map fun r => (be l a 1, c, ln.1) :: r

/-- The content of the first element with a tag. -/
def berFind (items : List (Nat × Nat × Nat)) (tag : Nat) : Option (Nat × Nat) :=
  (items.find? fun i => decide (i.1 = tag)).map Prod.snd

/-- A sampled-value message (R358; tags after IEC 61850-9-2, log entry 27): smpCnt, smpSynch and the place of seqData of
the last ASDU. -/
def svParse (l : List Byte) (at_ : Nat) : Option (Nat × Nat × Nat × Nat) := do
  let pdu ← berItems 4 l (at_ + 8) (min l.length (at_ + be l (at_ + 2) 2))
  let (a, n) ← berFind pdu 0x60
  let top ← berItems 8 l a (a + n)
  let (b, m) ← berFind top 0xA2
  let asdus ← berItems 64 l b (b + m)
  let last ← asdus.getLast?
  let fs ← berItems 16 l last.2.1 (last.2.1 + last.2.2)
  let (c, cn) ← berFind fs 0x82
  let (y, yn) ← berFind fs 0x85
  let (d, dn) ← berFind fs 0x87
  if last.1 = 0x30 then some (be l c cn, be l y yn, d, dn) else none

/-- The stream of a frame: the lowest enabled one with its destination and APPID (R358). -/
def Dev.svStream (s : Dev) (l : List Byte) : Option Nat :=
  if frType l ≠ 0x88BA then none
  else (List.range 32).find? fun k => s.flag F.ETH_SV_CFG_EN k && decide (s.f F.ETH_SV_CFG_DMAC k = frDst l) &&
    decide (s.f F.ETH_SV_CFG2_APPID k = be l (frTypeAt l + 2) 2)

/-- The elements of seqData with their good marks (R358). -/
def Dev.svElems (s : Dev) (k : Nat) (l : List Byte) (at_ synch : Nat) : List (Nat × Bool) :=
  (List.range (s.f F.ETH_SV_CFG_NELEM k)).map fun e =>
    let q := be l (at_ + 8 * e + 4) 4
    (be l (at_ + 8 * e) 4,
     decide (q % 4 = 0) && (!bitOf q 11 || s.flag F.ETH_SV_CFG_TEST_OK k) && (decide (synch ≠ 0) || !s.flag F.ETH_SV_CFG_REQ_SYNC k))

def Dev.svOf (s : Dev) (k : Nat) : SvStream := Tab.get SvStream.none_ s.eth.sv k

/-- A frame of stream `k` (R358, R359): none where it is discarded for its format. -/
def Dev.svTake (s : Dev) (k : Nat) (l : List Byte) (stamp : Int) : Dev × Bool :=
  match svParse l (frTypeAt l + 2) with
  | none => (s.inc F.ETH_SV_CNT_FMT_ERR 1 k, false)
  | some (cnt, synch, d, dn) =>
    if dn < 8 * s.f F.ETH_SV_CFG_NELEM k then (s.inc F.ETH_SV_CNT_FMT_ERR 1 k, false)
    else
      let els := s.svElems k l d synch
      let mod := if s.f F.ETH_SV_CFG2_SMP_WRAP k = 0 then 65536 else s.f F.ETH_SV_CFG2_SMP_WRAP k
      let gap := (s.svOf k).arr.isSome && decide (cnt ≠ (s.f F.ETH_SV_STAT_SMPCNT k + 1) % mod)
      let s := s.iff gap fun s => s.inc F.ETH_SV_CNT_GAP_CNT 1 k
      let s := s.iff (els.any fun e => !e.2) fun s => s.inc F.ETH_SV_CNT_BADQ_CNT 1 k
      let s := { s with eth := { s.eth with sv := Tab.put s.eth.sv k { elems := els, arr := some s.now } } }
      let s := (s.inc F.ETH_SV_CNT_FRAMES 1 k).put F.ETH_SV_STAT_T_ARR (((stamp / nsFix).toNat) % 2 ^ 32) k
      ((s.put F.ETH_SV_STAT_SMPCNT cnt k).put F.ETH_SV_STAT_LOST 0 k, true)

/-- No frame of the stream has matched for LOSS_TMO µs (R359): time goes on to that instant. -/
def Dev.svLost (s : Dev) (k : Nat) : Dev :=
  if s.flag F.ETH_SV_CFG_EN k then
    (match (s.svOf k).arr with
      | some t => s.advanceTo (t + s.f F.ETH_SV_CFG2_LOSS_TMO k * 1000)
      | none => s).raise F.ETH_SV_STAT_LOST k
  else s

/-! ## Receive (R351 to R354, R352) -/

/-- The oldest entry of the duplicate table is forgotten (R352): a frame that came on one port only is counted (R364). -/
def Dev.dupForget (s : Dev) : Dev :=
  match s.eth.dup with
  | [] => s
  | d :: l =>
    let s := { s with eth := { s.eth with dup := l } }
    if d.ports = 1 then s.inc F.ETH_RED_STAT_ONLY0 1 else if d.ports = 2 then s.inc F.ETH_RED_STAT_ONLY1 1 else s

/-- FRC up to which, this tick included, an entry of the duplicate table is held: `DD_AGE` ms of nominal ticks (R352). -/
def Dev.dupTill (s : Dev) (d : DupEntry) : Nat := d.made + s.f F.ETH_RED_CFG_DD_AGE * 200000

/-- The entries older than `DD_AGE` are forgotten, the oldest first (R352). -/
def Dev.dupOld : Nat → Dev → Dev
  | 0, s => s
  | n + 1, s =>
    match s.eth.dup with
    | [] => s
    | d :: _ => if s.dupTill d < s.time.frc then Dev.dupOld n s.dupForget else s

/-- The duplicate table: whether the frame is the later copy of a duplicate (R352). An entry that leaves a full table is forgotten. -/
def Dev.dupCheck (s : Dev) (p src seq : Nat) : Dev × Bool :=
  let s := Dev.dupOld s.eth.dup.length s
  if s.eth.dup.any fun d => decide (d.src = src) && decide (d.seq = seq) then
    (({ s with eth := { s.eth with dup := s.eth.dup.map fun (d : DupEntry) =>
        if d.src = src ∧ d.seq = seq then { d with ports := Nat.lor d.ports (2 ^ p) } else d } }).inc F.ETH_RED_STAT_DUP_CNT 1, true)
  else
    let s := if s.eth.dup.length < 1024 then s else s.dupForget
    ({ s with eth := { s.eth with dup := s.eth.dup ++ [DupEntry.mk src seq (2 ^ p) s.time.frc] } }, false)

/-- The oldest entry of the duplicate table is forgotten `DD_AGE` ms after it was made (R352): time goes on past that instant, at which
a copy is still a duplicate. -/
def Dev.dupAge (s : Dev) : Dev :=
  match s.eth.dup with
  | [] => s
  | d :: _ => (s.frcTo (s.dupTill d + 1)).dupForget

/-- The switch learns the port of an address (R352): 2048 addresses, 300 s ageing. -/
def Dev.ethLearn (s : Dev) (p a : Nat) : Dev :=
  if macGroup a then s
  else { s with eth := { s.eth with learn := ((a, p, s.time.frc) :: s.eth.learn.filter fun e => decide (e.1 ≠ a)).take 2048 } }

/-- The port that the switch knows for an address. -/
def Dev.ethKnown (s : Dev) (a : Nat) : Option Nat :=
  (s.eth.learn.find? fun e => decide (e.1 = a) && decide (s.time.frc < e.2.2 + 60 * 10 ^ 9)).map fun e => e.2.1

/-- The switch forwards a frame (R352, R356). -/
def Dev.ethBridge (s : Dev) (p : Nat) (l : List Byte) (stamp : Int) : Dev :=
  let s := s.ethLearn p (frSrc l)
  if frDst l = 0x0180C200000E ∨ frDst l = s.f F.ETH_MAC_ADDR_MAC then s
  else
    let fr : EthFrame := { bytes := l, launch := none, held := false, stamp := none, desc := none, ingress := some (p, stamp) }
    let outs := match if macGroup (frDst l) then none else s.ethKnown (frDst l) with
      | some o => [o]
      | none => ethPorts
    s.each (outs.filter fun o => decide (o ≠ p) && s.ethUp o) fun s o => s.ethPush o 0 fr

/-- The frame is for the host (R352). -/
def Dev.ethForHost (s : Dev) (l : List Byte) : Bool :=
  let d := frDst l
  decide (d = s.f F.ETH_MAC_ADDR_MAC) || decide (d = 2 ^ 48 - 1) ||
    (macGroup d && (List.range 32).any fun k => s.flag F.ETH_MC_FILTER_EN k && decide (s.f F.ETH_MC_FILTER_MAC k = d))

/-- The frame goes to the host receive ring of its port with its stamp (R354, R393). -/
def Dev.ethToHost (s : Dev) (p : Nat) (l : List Byte) (t : Int) : Dev :=
  s.rxDeliver (1 + p) (s.f F.ETH_PORT_STAT_EPOCH p) l fun cut =>
    bytesOf 2 l.length ++ bytesOf 1 (p + b2n cut * 128) ++ bytesOf 1 (subOf t) ++ bytesOf 4 (nsOf t) ++ bytesOf 6 (secOf t)

/-- Subscription, then host (R352, R358): the second component is the stream that took the frame. -/
def Dev.ethUse (s : Dev) (p : Nat) (l : List Byte) (t : Int) : Dev × Option Nat :=
  match s.svStream l with
  | some k =>
    let r := s.svTake k l t
    if r.2 then ((if r.1.flag F.ETH_SV_CFG_COPY k then r.1.ethToHost p l t else r.1), some k) else (r.1, none)
  | none => (if s.ethForHost l then s.ethToHost p l t else s, none)

/-- A frame arrives on a port (R351 to R359). `ok` tells that its FCS and code groups are right. The second component is
the stream whose elements it brought. -/
def Dev.ethReceive (s : Dev) (p : Nat) (l : List Byte) (ok : Bool) : Dev × Option Nat :=
  if ¬ s.ethUp p then (s, none)
  else if ¬ ok then (s.inc F.ETH_PORT_CNT_RX_ERR 1 p, none)
  else if s.f F.ETH_PORT_CFG_MAXLEN p < l.length + 4 then (s.inc F.ETH_PORT_CNT2_LONG_CNT 1 p, none)
  else if be l 12 2 = 0x8808 then (s.inc F.ETH_PORT_CNT2_PAUSE_CNT 1 p, none)
  else
    let t := s.rxTime p l
    let s := s.inc F.ETH_PORT_CNT_RX_OK 1 p
    if s.redMode = 0 then (s.ethBridge p l t).ethUse p l t
    else if 2 ≤ p ∨ frType l = 0x88F7 then s.ethUse p l t
    else
      let hsr := decide (s.redMode = 2)
      let tagged := if hsr then frHsr l else frPrp l
      let s := s.iff (!hsr && tagged && decide (frLan l = 0xB - p)) fun s => s.inc F.ETH_RED_STAT_WRONG_LAN 1
      if ¬ tagged then s.ethUse p l t
      else if hsr ∧ frSrc l = s.f F.ETH_MAC_ADDR_MAC then (s, none)
      else
        let r := s.dupCheck p (frSrc l) (frSeq hsr l)
        if r.2 then (r.1, none)
        else
          let fr : EthFrame := { bytes := l, launch := none, held := false, stamp := none, desc := none, ingress := some (p, t) }
          let s := r.1.iff (hsr && !decide (frDst l = r.1.f F.ETH_MAC_ADDR_MAC) && r.1.ethUp (1 - p)) fun s => s.ethPush (1 - p) 0 fr
          s.ethUse p (frBare hsr l) t

/-! ## Links and resets -/

/-- The frames of a port's queues complete with RETIRED (R361). -/
def Dev.ethRetire (s : Dev) (p : Nat) : Dev :=
  s.each [3, 2, 1, 0] fun s q =>
    let l := s.ethQ p q
    ((s.setEthQ p q []).each l fun s fr => (s.inc F.ETH_PORT_CNT_TX_RET 1 p).ethDone p fr .retired).retired .eth
      (l.filter fun (fr : EthFrame) => fr.desc.isSome).length

/-- The link of a port goes down (R361). -/
def Dev.linkDown (s : Dev) (p : Nat) : Dev :=
  if ¬ s.flag F.ETH_PORT_STAT_LINK p then s
  else
    let s := ((s.put F.ETH_PORT_STAT_LINK 0 p).raise F.ETH_PORT_STAT_LINK_LOST p).ethRetire p
    s.incW F.ETH_PORT_STAT_EPOCH 1 p

/-- The link of a port comes up (R351). -/
def Dev.linkUp (s : Dev) (p : Nat) : Dev :=
  if s.flag F.ETH_PORT_CFG_EN p ∧ ¬ s.glob.ramp.contains (1 + p) ∧ bitOf (s.f F.GLOBAL_PWR_CTL_ETH_ON) p then
    (s.put F.ETH_PORT_STAT_LINK 1 p).put F.ETH_PORT_STAT_MEDIUM (b2n (s.ethMedium p)) p
  else s

/-- After a write of `PORT_CFG` (R353): a port switched off, or whose stamping point moves, takes its link down. -/
def Dev.ethPortsSettle (s : Dev) : Dev :=
  s.each ethPorts fun s p =>
    let m := b2n (s.ethMedium p)
    if ¬ s.flag F.ETH_PORT_CFG_EN p ∨ s.f F.ETH_PORT_STAT_MEDIUM p ≠ m then (s.linkDown p).put F.ETH_PORT_STAT_MEDIUM m p else s

/-- What is pending at a port completes with RETIRED, the buffers that wait for its frames too (R57, R362). -/
def Dev.ethStop (s : Dev) (p : Nat) : Dev := ((s.ethRetire p).retireRx .eth (1 + p) (s.f F.ETH_PORT_STAT_EPOCH p)).linkDown p

/-- A per-block reset of ETH (R362). -/
def Dev.ethReset (s : Dev) : Dev :=
  let s := s.each ethPorts Dev.ethStop
  let s := (s.inc F.ETH_TXTS_STAT_DROP_CNT s.eth.txts.length).put F.ETH_TXTS_STAT_COUNT 0
  let s := { s with eth := { s.eth with txts := [], dup := [], learn := [], sv := [] } }
  let s := s.each ethPorts fun s p =>
    let s := s.put F.ETH_PORT_STAT_LINK_LOST 0 p
    (s.each (F.regEthPortCnt.flds ++ F.regEthPortCnt2.flds) fun s g => s.put g 0 p)
  let s := s.each (List.range 32) fun s k =>
    (s.each F.regEthSvStat.flds fun s g => s.put g g.rst k).each F.regEthSvCnt.flds fun s g => s.put g 0 k
  let s := s.each (F.regEthRedStat.flds ++ F.regEthTxtsLo.flds ++ F.regEthTxtsHi.flds) fun s g => s.put g 0
  (s.put F.ETH_TXTS_STAT_OVF 0).put F.ETH_TXTS_STAT_FIRST_DROP_ID 0

end Sys2Proof.Machine
end

