-- ==== Sys2Proof/Machine/Tollgate.lean ====
section
/-! DEFINITION. Tollgate access control (16_host_tollgate, R400 to R407): the tables and their reset entries, the check of
an access, the log of denials, and the checks of a configuration set. -/

namespace Sys2Proof.Machine

/-- Master codes (R400). -/
def mPf : Nat := 0
def mMgmt : Nat := 5
def mDebug : Nat := 6
def mSkein : Nat := 7
def mSx : Nat := 8
def mSy : Nat := 9
def mLoom : Nat := 10
def mReel : Nat := 11

/-- The size of a target in bytes (R385, R400). -/
def tgSize (t : Nat) : Nat := if t = 18 then 2 ^ 23 else if t = 19 then 2 ^ 28 else 2 ^ 16

def TgEntry.off : TgEntry := { en := false, master := 0, r := false, w := false, x := false, base := 0, limit := 0 }

/-- An entry that covers a whole target. -/
def TgEntry.whole (t m : Nat) (r w x : Bool) : TgEntry :=
  { en := true, master := m, r := r, w := w, x := x, base := 0, limit := tgSize t - 1 }

/-- The internal masters' entries of the MANAGER: deliveries of Loom to ANGLE and SAFETY, Reel's notices to HOSTQ, and the
reads of ANGLE by the SAFE channels (R400, R404; log entry 24). -/
def tgInternal (t : Nat) : List TgEntry :=
  if t = 2 then [TgEntry.whole t mReel false false true]
  else if t = 12 then [TgEntry.whole t mLoom false true false, TgEntry.whole t mSx true false false, TgEntry.whole t mSy true false false]
  else if t = 15 then [TgEntry.whole t mLoom false true false]
  else []

/-- The entries of a target at power-on reset (R404). -/
def tgReset (role : Role) (t : Nat) : List TgEntry :=
  if role = .manager then
    [TgEntry.whole t mPf true true true, TgEntry.whole t mMgmt true true true, TgEntry.whole t mDebug true true true] ++ tgInternal t
  else [TgEntry.whole t mSkein true true true, TgEntry.whole t mDebug true true true]

/-- Entry `e` of target `t` in a copy: a configuration set in the MANAGER; written (0) or in force (2) elsewhere. -/
def Dev.tg (s : Dev) (bank t e : Nat) : TgEntry :=
  match Tab.find s.toll.tg ((bank * 32 + t) * 16 + e) with
  | some x => x
  | none => (tgReset s.role t).getD e TgEntry.off

def Dev.setTg (s : Dev) (bank t e : Nat) (x : TgEntry) : Dev :=
  { s with toll := { s.toll with tg := Tab.put s.toll.tg ((bank * 32 + t) * 16 + e) x } }

/-- The copy that accesses are judged against (R403, R404). -/
def Dev.tgBank (s : Dev) : Nat := if s.role = .manager then s.actSet else inForce

/-- The permission that an access needs (R401): 1 R, 2 W, 3 X. -/
def TgEntry.grants (x : TgEntry) (acc : Nat) : Bool := if acc = 1 then x.r else if acc = 2 then x.w else x.x

/-- An entry permits an access of `n` bytes at `off` (R401). -/
def TgEntry.permits (x : TgEntry) (m acc off n : Nat) : Bool :=
  x.en && decide (x.master = m) && x.grants acc && decide (x.base ≤ off) && decide (off + n ≤ x.limit + 1)

/-- A table in a copy permits an access. -/
def Dev.tgPermits (s : Dev) (bank t m acc off n : Nat) : Bool :=
  (List.range 16).any fun e => (s.tg bank t e).permits m acc off n

/-- A denial is logged (R405). -/
def Dev.logDeny (s : Dev) (m t off acc : Nat) (life : Bool) : Dev :=
  if 16 ≤ s.toll.log.length then s.inc F.TOLLGATE_DENY_STAT_LOST_CNT 1
  else
    let d : Deny := { time := s.short, master := m, target := t, off := off, acc := acc, life := life }
    let s := ({ s with toll := { s.toll with log := s.toll.log ++ [d] } }).put F.TOLLGATE_DENY_STAT_HELD (s.toll.log.length + 1)
    s.iff (decide (s.role = .manager)) fun s => s.hostEvt F.HOSTQ_EVT_DENY

/-- Steps 2 and 3 of the order of checks (R402): `life` tells that the lifecycle refuses the access. -/
def Dev.tgCheck (s : Dev) (m t acc off n : Nat) (life : Bool) : Option Dev :=
  if life then some (s.logDeny m t off acc true)
  else if s.tgPermits s.tgBank t m acc off n then none
  else some (s.logDeny m t off acc false)

/-- The lower word of `DENY_LOG` (R407). -/
def Deny.word0 (d : Deny) : Nat :=
  d.off * 2 ^ 32 + 2 ^ 31 + d.master * 2 ^ 24 + d.target * 2 ^ 19 + d.acc * 2 ^ 17 + b2n d.life * 2 ^ 16

/-- Reading the word at 0x0010: the oldest denial, kept (R405, R407). -/
def Dev.denyPeek (s : Dev) : Nat := match s.toll.log with | [] => 0 | d :: _ => d.word0

/-- Reading the word at 0x0018 removes the oldest entry (R405). -/
def Dev.denyRead (s : Dev) : Nat × Dev :=
  match s.toll.log with
  | [] => (0, s)
  | d :: l => (d.time, ({ s with toll := { s.toll with log := l } }).put F.TOLLGATE_DENY_STAT_HELD l.length)

/-- An enabled entry of the table grants a master W and X over a whole target. -/
def Dev.tgWholeWX (s : Dev) (bank t m : Nat) : Bool :=
  (List.range 16).any fun e =>
    (s.tg bank t e).permits m 2 0 (tgSize t) && (s.tg bank t e).permits m 3 0 (tgSize t)

/-- Check 0x03: one master keeps W and X over TOLLGATE and HOSTQ (R403, R404). -/
def Dev.tgKeepsOwner (s : Dev) (bank : Nat) (ms : List Nat) (ts : List Nat) : Bool :=
  ms.any fun m => ts.all fun t => s.tgWholeWX bank t m

/-- The tables' targets and entries. -/
def tgAll : List (Nat × Nat) := (List.range 20).flatMap fun t => (List.range 16).map fun e => (t, e)

/-- An access that an internal master makes: master, target, permission, offset and bytes (R400). -/
structure Delivery where
  m   : Nat
  t   : Nat
  acc : Nat
  off : Nat
  n   : Nat
deriving DecidableEq, Repr

/-- The checks of R403 on a set whose internal masters make the accesses `l`: code, target, entry of the first failure. -/
def Dev.tgSetCheck (s : Dev) (set : Nat) (l : List Delivery) : Option (Nat × Nat × Nat) :=
  match tgAll.find? fun p => (s.tg set p.1 p.2).en && decide (0xB < (s.tg set p.1 p.2).master) with
  | some p => some (1, p.1, p.2)
  | none =>
  match tgAll.find? fun p => (s.tg set p.1 p.2).en &&
      (decide ((s.tg set p.1 p.2).limit < (s.tg set p.1 p.2).base) || decide (tgSize p.1 ≤ (s.tg set p.1 p.2).limit)) with
  | some p => some (2, p.1, p.2)
  | none =>
  if ¬ s.tgKeepsOwner set [mPf, mMgmt] [1, 2] then some (3, 1, 0)
  else (l.find? fun d => !s.tgPermits set d.t d.m d.acc d.off d.n).map fun d => (4, d.t, 0)

/-- An entry written in a CONCENTRATOR or a CELL must leave SKEIN_UP its hold on TOLLGATE (R404; no HOSTQ there). -/
def Dev.tgWriteOk (s : Dev) (t e : Nat) (x : TgEntry) : Bool := (s.setTg 0 t e x).tgKeepsOwner 0 [mSkein] [1]

/-- At a cycle boundary of a CONCENTRATOR or a CELL the written tables take effect (R404). -/
def Dev.tgTransfer (s : Dev) : Dev :=
  s.each tgAll fun s p =>
    match Tab.find s.toll.tg (p.1 * 16 + p.2) with
    | none => s
    | some x => s.setTg inForce p.1 p.2 x

end Sys2Proof.Machine
end

