-- ==== Sys2Proof/Machine/RegMap.lean ====
section
/-! DEFINITION. The register map: the register at an offset of a block (00_scope, 19_clocks_power_reset), the words of the
Tollgate tables, and the set-held registers in ascending offset (R413). -/

namespace Sys2Proof.Machine

/-- The registers of a block; `EPOCH` stands beside them (R56). -/
def Blk.regs : Blk → List Reg
  | .global => F.regsGlobal
  | .tollgate => F.regsTollgate
  | .hostq => F.regsHostq
  | .secure => F.regsSecure
  | .time => F.regsTime
  | .eth => F.regsEth
  | .trunk => F.regsLane ++ F.regsTrunk
  | .leaf => F.regsLane.map fun R => { R with blk := .leaf, flds := R.flds.map Fld.onLeaf }
  | .loom => F.regsLoom
  | .spindle => F.regsSpindle
  | .gate => F.regsGate
  | .adc => F.regsAdc
  | .angle => F.regsAngle
  | .reel => F.regsReel
  | .can => F.regsCan
  | .safety => F.regsSafety
  | .pair => F.regsPair
  | .debug => F.regsDebug

/-- A place in a register: the register, its indices, and whether the word is the upper one of 64 bits. -/
structure RegAt where
  reg : Reg
  i   : Nat
  j   : Nat
  up  : Bool
deriving Repr

/-- The place of an offset in a register or array of registers. -/
def Reg.at (R : Reg) (off : Nat) : Option RegAt :=
  if off < R.off then none
  else
    let d := off - R.off
    let i := if R.n1 ≤ 1 then 0 else d / R.s1
    let d := if R.n1 ≤ 1 then d else d % R.s1
    let j := if R.n2 ≤ 1 then 0 else d / R.s2
    let d := if R.n2 ≤ 1 then d else d % R.s2
    if R.n1 ≤ i ∨ R.n2 ≤ j then none
    else if d = 0 then some ⟨R, i, j, false⟩
    else if d = 4 ∧ R.wide then some ⟨R, i, j, true⟩
    else none

/-- The first register of a list that an offset lies in. -/
def regAt : List Reg → Nat → Option RegAt
  | [], _ => none
  | R :: l, off => match R.at off with
    | some p => some p
    | none => regAt l off

/-- The attribute word of a table entry (R407). -/
def TgEntry.attr (x : TgEntry) : Nat :=
  b2n x.en * 2 ^ 31 + x.master * 2 ^ 24 + b2n x.r * 4 + b2n x.w * 2 + b2n x.x

/-- Which word of a table entry a register is (R407): 0 `TG_ATTR`, 1 `TG_BASE`, 2 `TG_LIMIT`. -/
def Reg.tgWord (R : Reg) : Option Nat :=
  if R.blk = .tollgate ∧ 0x1000 ≤ R.off then some ((R.off - 0x1000) / 4) else none

/-- The word of a register in a copy, the Tollgate tables among them. -/
def Dev.regWord (s : Dev) (p : RegAt) (bank : Nat) : Nat :=
  match p.reg.tgWord with
  | some k =>
    let x := s.tg bank p.i p.j
    if k = 0 then x.attr else if k = 1 then x.base else x.limit
  | none => s.word p.reg bank p.i p.j

/-- The set-held registers of a block in a set, as little-endian bytes in ascending offset (R413). -/
def Dev.setBytes (s : Dev) (b : Blk) (set : Nat) : List Byte :=
  (List.range 0x4000).flatMap fun k =>
    match regAt b.regs (4 * k) with
    | none => []
    | some p => if p.reg.copy = .set ∧ ¬ p.up then bytesOf (if p.reg.wide then 8 else 4) (s.regWord p set) else []

/-! ## Returning registers to their reset values (R6, R439, R468) -/

/-- A key of a register file names a set-held register (R52), or a register of R56. -/
def keySet (b : Blk) (k : Nat) : Bool :=
  match regAt b.regs (k / 64 % 0x20000) with
  | some p => decide (p.reg.copy = .set)
  | none => false
def keyEpoch (k : Nat) : Bool := decide (k / 64 % 0x20000 = 0xFFF0)

/-- The fields that hold the epoch of an Ethernet port or of a CAN controller (R361, R429). -/
def keyPort (b : Blk) (k : Nat) : Bool :=
  let F := if b = .can then F.CAN_STAT_EPOCH else F.ETH_PORT_STAT_EPOCH
  let off := k / 64 % 0x20000
  (decide (b = .can) || decide (b = .eth)) && decide (off < 0x100) && decide (off % 64 = F.off) && decide (k % 64 = F.lo)

/-- Only the keys that a test names keep their values. -/
def Dev.wipe (s : Dev) (b : Blk) (keep : Nat → Bool) : Dev := s.setRegs (Tab.keep keep (s.regsOf b)) b

end Sys2Proof.Machine
end

