-- ==== Sys2Proof/Machine/Sha256.lean ====
section
/-! DEFINITION. SHA-256, which the spec names for digests (17_security) and does not spell out: the function of FIPS
180-4 (log entry 29). -/

namespace Sys2Proof.Machine

/-- Addition modulo 2³². -/
def add32 (a b : Nat) : Nat := (a + b) % 2 ^ 32

/-- Rotation of 32 bits to the right. -/
def rotr32 (n x : Nat) : Nat := x / 2 ^ n + x % 2 ^ n * 2 ^ (32 - n)

def xor3 (a b c : Nat) : Nat := Nat.xor (Nat.xor a b) c

/-- The whole part of the k-th root of `x`, of `n` bits, bit by bit from the highest. -/
def rootOf (k n x : Nat) : Nat := (List.range n).foldr (fun i r => if (r + 2 ^ i) ^ k ≤ x then r + 2 ^ i else r) 0

/-- The primes below 312: the first 64. -/
def shaPrimes : List Nat := (List.range 312).filter fun p => decide (2 ≤ p) && (List.range 18).all fun d => decide (d < 2) || decide (d = p) || decide (p % d ≠ 0)

/-- 32 bits of the fraction of the k-th root of a prime. -/
def rootFrac (k p : Nat) : Nat := rootOf k 37 (p * 2 ^ (32 * k)) % 2 ^ 32

/-- The constants of the rounds, from cube roots, and the initial hash value, from the square roots of the first eight primes. -/
def shaK : List Nat := shaPrimes.map (rootFrac 3)
def shaInit : List Nat := (shaPrimes.take 8).map (rootFrac 2)

/-- One further word of the schedule, kept newest first. -/
def shaNext (w : List Nat) : Nat :=
  let a := w.getD 1 0
  let b := w.getD 14 0
  let s1 := xor3 (rotr32 17 a) (rotr32 19 a) (a / 2 ^ 10)
  let s0 := xor3 (rotr32 7 b) (rotr32 18 b) (b / 2 ^ 3)
  add32 (add32 s1 (w.getD 6 0)) (add32 s0 (w.getD 15 0))

def shaExtend : Nat → List Nat → List Nat
  | 0, w => w
  | n + 1, w => shaExtend n (shaNext w :: w)

/-- One round on the eight working words. -/
def shaRound (h : List Nat) (kw : Nat) : List Nat :=
  match h with
  | [a, b, c, d, e, f, g, hh] =>
    let s1 := xor3 (rotr32 6 e) (rotr32 11 e) (rotr32 25 e)
    let ch := Nat.xor (Nat.land e f) (Nat.land (2 ^ 32 - 1 - e) g)
    let t1 := add32 (add32 hh s1) (add32 ch kw)
    let s0 := xor3 (rotr32 2 a) (rotr32 13 a) (rotr32 22 a)
    let mj := xor3 (Nat.land a b) (Nat.land a c) (Nat.land b c)
    [add32 t1 (add32 s0 mj), a, b, c, add32 d t1, e, f, g]
  | l => l

/-- The big-endian words of a block of 64 bytes. -/
def shaWords (l : List Byte) : List Nat := (List.range 16).map fun i => ofBytesBE (slice l (4 * i) 4)

/-- One block. -/
def shaBlock (h : List Nat) (l : List Byte) : List Nat :=
  let w := (shaExtend 48 (shaWords l).reverse).reverse
  let r := (List.zipWith add32 shaK w).foldl shaRound h
  List.zipWith add32 h r

/-- The blocks of a padded message. -/
def shaBlocks : Nat → List Nat → List Byte → List Nat
  | 0, h, _ => h
  | n + 1, h, l => shaBlocks n (shaBlock h (l.take 64)) (l.drop 64)

/-- SHA-256 of a message: 32 bytes. -/
def sha256 (l : List Byte) : List Byte :=
  let z := (119 - l.length % 64) % 64
  let m := l ++ [0x80] ++ List.replicate z 0 ++ (bytesOf 8 (l.length * 8)).reverse
  (shaBlocks (m.length / 64) shaInit m).flatMap fun w => (bytesOf 4 w).reverse

end Sys2Proof.Machine
end

