-- ==== Sys2Proof/Machine/Secure.lean ====
section
/-! DEFINITION. Secure boot, identity and attestation (17_security, R408 to R420): the lifecycle and its commands, images
and boot, the digests of a configuration set, measurements, quotes and the entropy source. What a descriptor of the block
does is in Machine/Host. -/

namespace Sys2Proof.Machine

/-- Lifecycle states (R420). -/
def lcBlank : Nat := 0
def lcDevelop : Nat := 1
def lcSealed : Nat := 2
def lcReturned : Nat := 3

def Dev.lc (s : Dev) : Nat := s.f F.SECURE_LC_STATE

/-- The bytes of an array of 32-bit registers: byte 4w of the value in bits [7:0] of word w (R420). -/
def Dev.bytesAt (s : Dev) (G : Fld) (n bank : Nat) : List Byte :=
  (List.range n).flatMap fun w => bytesOf 4 (s.fb G bank w)

def Dev.putBytesAt (s : Dev) (G : Fld) (n : Nat) (l : List Byte) : Dev :=
  s.each (List.range n) fun s w => s.put G (field l (4 * w) 4) w

/-- A measurement register (R415). -/
def Dev.meas (s : Dev) (k : Nat) : List Byte := (List.range 8).flatMap fun w => bytesOf 4 (s.f F.SECURE_MEAS_V k w)

def Dev.setMeas (s : Dev) (k : Nat) (l : List Byte) : Dev :=
  s.each (List.range 8) fun s w => s.put F.SECURE_MEAS_V (field l (4 * w) 4) k w

/-- M ← SHA-256(M ‖ d) (R415). -/
def Dev.extend (s : Dev) (k : Nat) (d : List Byte) : Dev := s.setMeas k (sha256 (s.meas k ++ d))

/-- The identity fingerprint (R25). -/
def fpOf (pub : List Byte) : Nat :=
  let v := ofBytesBE (slice (sha256 pub) 0 4)
  if v = 0 then 1 else v

def idFp : Nat := fpOf (slice Config.idPub 0 64)

/-- The owner slots that are programmed and not revoked, lowest first (R408). -/
def Dev.liveSlots (s : Dev) : List Nat :=
  (bitList 4 (s.f F.SECURE_LC_SLOT_USED)).filter fun k => !bitOf (s.f F.SECURE_LC_SLOT_REV) k

def Dev.slotHash (s : Dev) (k : Nat) : List Byte := Tab.get [] s.sec.slots k

/-- The owner slot that a public key matches. -/
def Dev.slotOf (s : Dev) (pub : List Byte) : Option Nat := s.liveSlots.find? fun k => decide (s.slotHash k = sha256 pub)

/-- A signature of 64 zero bytes counts as absent (R409). -/
def sigAbsent (sig : List Byte) : Bool := sig.all fun b => decide (b = 0)

/-- A signature by an owner key over a digest (R408). -/
def Dev.ownerSigned (s : Dev) (pub dig sig : List Byte) : Bool := (s.slotOf pub).isSome && Config.verify pub dig sig

/-- A new challenge, unless the entropy source has failed (R410, R419). -/
def Dev.newChal (s : Dev) : Dev :=
  if s.flag F.SECURE_STAT_RNG_FAIL then s
  else
    let c := slice (Config.chal s.free) 0 32
    ({ s with sec := { s.sec with chal := c }, free := s.free + 1 }).putBytesAt F.SECURE_CHAL_V 8 c

/-! ## Command records (R410) -/

/-- Program an owner slot. -/
def Dev.programSlot (s : Dev) (k : Nat) (h : List Byte) : Dev :=
  ({ s with sec := { s.sec with slots := Tab.put s.sec.slots k h } }).setBit F.SECURE_LC_SLOT_USED k true

/-- Whether a command is accepted in a state, and whether it is signed there. -/
def cmdRule (code lc : Nat) : Option Bool :=
  match code with
  | 1 => if lc = lcBlank then some false else none
  | 2 => if lc = lcDevelop then some true else none
  | 3 => if lc = lcDevelop ∨ lc = lcSealed then some true else none
  | 4 => if lc = lcDevelop ∨ lc = lcSealed then some true else none
  | 5 => if lc = lcBlank then some false else if lc = lcReturned then none else some true
  | 6 => if lc = lcDevelop ∨ lc = lcSealed then some false else none
  | _ => none

/-- The effect of a command whose state and signature are in order. -/
def Dev.cmdEffect (s : Dev) (code : Nat) (arg : List Byte) : Acted :=
  match code with
  | 1 => (.ok, (s.programSlot 0 arg).put F.SECURE_LC_STATE lcDevelop)
  | 2 => (.ok, s.put F.SECURE_LC_STATE lcSealed)
  | 3 =>
    match (List.range 4).find? fun k => !bitOf (s.f F.SECURE_LC_SLOT_USED) k with
    | none => s.deny .overflow
    | some k => (.ok, s.programSlot k arg)
  | 4 =>
    let k := field arg 0 1
    if 3 < k ∨ ¬ bitOf (s.f F.SECURE_LC_SLOT_USED) k ∨ s.liveSlots = [k] then s.deny .invalid
    else (.ok, s.setBit F.SECURE_LC_SLOT_REV k true)
  | 5 => (.ok, (({ s with sec := { s.sec with noSeed := true } }).put F.SECURE_LC_SLOT_REV 15).put F.SECURE_LC_STATE lcReturned)
  | _ =>
    if ¬ s.sec.fw then s.deny .invalid
    else (.ok, s.put F.SECURE_LC_SVN (max (s.f F.SECURE_LC_SVN) s.sec.imgSvn))

/-- One request is in the engine and 4 wait (R417). -/
def Dev.engineFull (s : Dev) : Bool := decide (5 ≤ s.sec.reqs.length)

/-- A command: its state, its signature over CODE ‖ ARG ‖ CHAL, its effect; then a new challenge (R410). -/
def Dev.secCommand (s : Dev) (code : Nat) (arg pub sig : List Byte) : Acted :=
  if ¬ s.flag F.SECURE_STAT_ID_READY ∨ s.flag F.SECURE_STAT_RNG_FAIL ∨ s.engineFull then s.deny .busy
  else
    let arg := slice arg 0 32
    let a : Acted :=
      match cmdRule code s.lc with
      | none => s.deny .invalid
      | some signed =>
        if signed ∧ ¬ s.ownerSigned pub (sha256 (bytesOf 1 code ++ arg ++ s.sec.chal)) sig then s.deny .badsig
        else s.cmdEffect code arg
    (a.1, (a.2.put F.SECURE_STAT_LC_STATUS a.1.code).newChal)

/-- A command record: CODE, 3 zero bytes, ARG, public key, signature (R410). -/
def Dev.secRecord (s : Dev) (l : List Byte) : Acted :=
  if s.flag F.SECURE_STAT_ID_READY ∧ ¬ s.flag F.SECURE_STAT_RNG_FAIL ∧ ¬ s.engineFull ∧ field l 1 3 ≠ 0 then
    (.invalid, (s.put F.SECURE_STAT_LC_STATUS Status.invalid.code).newChal)
  else s.secCommand (field l 0 1) (slice l 4 32) (slice l 36 64) (slice l 100 64)

/-! ## Images and boot (R411, R412) -/

/-- The body of an image. -/
def imgBody (l : List Byte) : List Byte := slice l 512 (field l 4 4)

/-- The vendor's part of the checks: header, body digest, vendor signature (R408, R411). -/
def imgVendorOk (l : List Byte) : Bool :=
  decide (slice l 0 4 = [0x4F, 0x46, 0x57, 0x31]) && decide (1 ≤ field l 4 4) && decide (field l 4 4 ≤ 4194304) &&
  decide (field l 12 1 < 64) && decide (field l 13 19 = 0) && decide (field l 320 192 = 0) &&
  decide (slice l 32 32 = sha256 (imgBody l)) && decide (sha256 (slice l 128 64) = slice Config.vendorHash 0 32) &&
  Config.verify (slice l 128 64) (sha256 (slice l 0 64)) (slice l 64 64)

/-- The owner countersignature of an image verifies. -/
def Dev.imgOwnerOk (s : Dev) (l : List Byte) : Bool :=
  !sigAbsent (slice l 192 64) && s.ownerSigned (slice l 256 64) (sha256 (slice l 0 192)) (slice l 192 64)

/-- An image passes in the lifecycle state (R409, R411). -/
def Dev.imgOk (s : Dev) (l : List Byte) : Bool :=
  imgVendorOk l &&
  (if s.lc = lcBlank then true
   else if s.lc = lcDevelop then (sigAbsent (slice l 192 64) || s.imgOwnerOk l) && decide (s.f F.SECURE_LC_SVN ≤ field l 12 1)
   else if s.lc = lcSealed then s.imgOwnerOk l && decide (s.f F.SECURE_LC_SVN ≤ field l 12 1)
   else false)

/-- M4 takes the key hash of a slot and the security version (R415). -/
def Dev.formM4 (s : Dev) (slot : Option Nat) : Dev :=
  let h := match slot with | some k => s.slotHash k | none => Config.noSlot
  (s.extend 4 h).extend 4 (bytesOf 1 (s.f F.SECURE_LC_SVN))

/-- Firmware starts from an image that passed (R412, R415): `from` is the code of `BOOT_SLOT`. -/
def Dev.startImage (s : Dev) (l : List Byte) (slot : Nat) : Dev :=
  let owner := decide (s.lc ≠ lcBlank) && s.imgOwnerOk l
  let s := { s with sec := { s.sec with fw := true, boot := 2, imgSvn := field l 12 1 } }
  let s := ((s.put F.SECURE_STAT_OWNER_OK (b2n owner)).put F.SECURE_STAT_BOOT_SLOT slot).put F.SECURE_STAT_RECOVERY 0
  let s := s.extend 1 (sha256 (imgBody l))
  s.formM4 (if owner then s.slotOf (slice l 256 64) else none)

/-- The boot ROM has read and hashed the image of the slot it tries (R412). -/
def Dev.bootCheck (s : Dev) (l : List Byte) : Dev :=
  if s.role ≠ .manager ∨ s.lc = lcReturned ∨ ¬ s.flag F.SECURE_STAT_ID_READY ∨ 2 ≤ s.sec.boot then s
  else if s.imgOk l then s.startImage l s.sec.boot
  else
    let s := { s with sec := { s.sec with boot := s.sec.boot + 1 } }
    s.iff (decide (s.sec.boot = 2)) fun s => s.raise F.SECURE_STAT_RECOVERY

/-- FW_LOAD: an image loaded by the host, in RECOVERY only (R412, R416). -/
def Dev.fwLoad (s : Dev) (l : List Byte) : Acted :=
  if ¬ s.flag F.SECURE_STAT_RECOVERY then s.deny .invalid
  else if s.imgOk l then (.ok, s.startImage l 2)
  else s.deny .badsig

/-- `ID_READY` (R412, R415): the identity key is derived; M0 takes the ROM digest and the lifecycle byte; M4 is formed here
where no firmware is verified. -/
def Dev.idReady (s : Dev) : Dev :=
  if s.flag F.SECURE_STAT_ID_READY ∨ s.role = .none ∨ s.glob.por then s
  else
    let s := (s.extend 0 (slice Config.romDigest 0 32)).extend 0 (bytesOf 1 s.lc)
    let s := if s.role = .manager then s else s.formM4 s.liveSlots.head?
    s.raise F.SECURE_STAT_ID_READY

/-! ## Configuration sets (R413, R414) -/

/-- The PROG digest of a set: program store, coefficient store, set-held LOOM registers. -/
def Dev.progDigest (s : Dev) (set : Nat) : List Byte :=
  let p := if set = 0 then s.loom.prog0 else s.loom.prog1
  let c := if set = 0 then s.loom.coef0 else s.loom.coef1
  sha256 (Mem.readList p 0 0x200000 ++ Mem.readList c 0 0x80000 ++ s.setBytes .loom set)

/-- The SET digest of a set: set-held registers of TOLLGATE, TRUNK, SPINDLE and REEL, in ascending BAR0 offset. -/
def Dev.setDigest (s : Dev) (set : Nat) : List Byte :=
  sha256 (s.setBytes .tollgate set ++ s.setBytes .trunk set ++ s.setBytes .spindle set ++ s.setBytes .reel set)

/-- `CFGID` of a set (R293, R413). -/
def Dev.cfgid (s : Dev) (set : Nat) : Nat := ofBytesBE (slice (sha256 (s.progDigest set ++ s.setDigest set)) 0 4)

/-- One signature of a set: the code of `CHK_STAT` where it fails; `own` is the code of its own failure (R409, R414). -/
def Dev.oneSetSig (s : Dev) (sig dig : List Byte) (own : Nat) : Nat :=
  if s.lc = lcBlank then 0
  else if sigAbsent sig then (if s.lc = lcDevelop then 0 else 3)
  else if Config.verifySet (s.liveSlots.map s.slotHash) dig sig then 0 else own

/-- The signatures of a set (R414): 0 passed, else the first failure. -/
def Dev.setSigCheck (s : Dev) (set : Nat) : Nat :=
  let a := s.oneSetSig (s.bytesAt F.SECURE_SET_SIG_V 16 set) (s.setDigest set) 1
  if a ≠ 0 then a else s.oneSetSig (s.bytesAt F.SECURE_PROG_SIG_V 16 set) (s.progDigest set) 2

/-- M2 and M3 take the digests of the set that has become active (R415). -/
def Dev.measureSet (s : Dev) : Dev := (s.setMeas 2 (s.setDigest s.actSet)).setMeas 3 (s.progDigest s.actSet)

/-! ## Quotes (R415 to R417) -/

/-- Role codes (R18). -/
def Role.code : Role → Nat
  | .none => 0 | .manager => 1 | .concentrator => 2 | .cell => 3

/-- The body of a quote (R416). -/
def Dev.quoteBody (s : Dev) (nonce : List Byte) : List Byte :=
  let t := s.nowFix
  [0x4F, 0x52, 0x51, 0x31] ++ bytesOf 4 (s.f F.GLOBAL_PARTID_PARTID) ++ bytesOf 1 s.role.code ++ bytesOf 1 s.lc ++ [0, 0] ++
  bytesOf 6 (secOf t) ++ bytesOf 4 (nsOf t) ++ [0, 0] ++ (List.range 8).flatMap s.meas ++ slice nonce 0 32

/-- The engine takes up the request at the front where it has not (R416, R417). -/
def Dev.engine (s : Dev) : Dev :=
  let s := s.put F.SECURE_STAT_BUSY (if s.sec.reqs = [] then 0 else 1)
  match s.sec.reqs with
  | [] => s
  | q :: l =>
    if q.body ≠ [] then s
    else
      let q := { q with body := s.quoteBody q.nonce, sec := secOf s.nowFix, ns := nsOf s.nowFix }
      { s with sec := { s.sec with reqs := q :: l } }

/-- A request for a quote (R416, R417): one in the engine, up to 4 that wait. -/
def Dev.quoteReq (s : Dev) (desc : Option (Nat × Nat)) (nonce : List Byte) : Acted :=
  if ¬ s.flag F.SECURE_STAT_ID_READY then s.deny .busy
  else if s.lc = lcReturned then s.deny .denied
  else if s.engineFull then s.deny .busy
  else
    let q : SecReq := { desc := desc, nonce := slice nonce 0 32, body := [], sec := 0, ns := 0 }
    (.ok, ({ s with sec := { s.sec with reqs := s.sec.reqs ++ [q] } }).engine)

/-- Op QUOTE of `SECURE.CMD`. -/
def Dev.quoteCmd (s : Dev) : Acted := s.quoteReq none (s.bytesAt F.SECURE_NONCE_V 8 0)

/-- Op EXTEND of `SECURE.CMD` (R415, R420). -/
def Dev.extendCmd (s : Dev) (idx : Nat) : Acted :=
  if idx < 5 ∨ 7 < idx then s.deny .invalid
  else if ¬ s.flag F.SECURE_STAT_ID_READY then s.deny .busy
  else (.ok, s.extend idx (s.bytesAt F.SECURE_EXTEND_V 8 0))

/-- A quote is complete with a status: the signature goes to the registers or to the descriptor's buffer (R416). -/
def Dev.quoteEnd (s : Dev) (q : SecReq) (st : Status) : Dev :=
  let sig := slice (Config.sign (sha256 q.body)) 0 64
  match q.desc with
  | none =>
    let s := (s.put F.SECURE_STAT_QSTATUS st.code).iff (decide (st = .ok)) fun s =>
      (((s.putBytesAt F.SECURE_SIG_V 16 sig).put F.SECURE_QNS_V q.ns).put F.SECURE_QSEC_V q.sec).raise F.SECURE_STAT_QDONE
    s.emit (.done 0x30010 0 st)
  | some (r, k) =>
    match (s.sqOf r).act.find? fun d => decide (d.idx = k) && decide (d.op = 0x0B) with
    | none => s
    | some d =>
      if st = .ok then
        let s := s.emit (.hostWrite (s.f F.HOSTQ_SQ_CFG_FUNC r) (field d.bytes 16 8) (q.body ++ sig))
        { s.finish r d .ok (s.epoch .secure) (bytesOf 4 376) with cpl := s.cpl }
      else { s.finish r d st (s.epoch .secure) [] with cpl := s.cpl }

/-- The time in ns that signing takes (R417); a free value in a CONCENTRATOR, for which R417 states none (log entry 2). -/
def signTime : Role → Nat
  | .manager => 1100000
  | .cell => 4000000
  | _ => Config.concSign

/-- The signing engine finishes the request it serves, its signing time after it took it up (R416, R417). -/
def Dev.quoteDone (s : Dev) : Dev :=
  match s.sec.reqs with
  | [] => s
  | q :: l =>
    let s := s.advanceTo (q.sec * 10 ^ 9 + q.ns + signTime s.role)
    (({ s with sec := { s.sec with reqs := l } }).quoteEnd q .ok).engine

/-- A failed health test (R419). -/
def Dev.rngFail (s : Dev) : Dev := s.raise F.SECURE_STAT_RNG_FAIL

/-- A per-block reset of SECURE (R417): waiting requests retire, the challenge is new, the measurements stay; the request
registers return to their reset values (R6). -/
def Dev.secReset (s : Dev) : Dev :=
  let l := s.sec.reqs
  let s := { s with sec := { s.sec with reqs := [], regs := Tab.keep (fun k => decide (k < 0x1000 * 64) || decide (0x7000 * 64 ≤ k)) s.sec.regs } }
  let s := ((s.put F.SECURE_STAT_QDONE 0).put F.SECURE_STAT_QSTATUS 0).put F.SECURE_STAT_LC_STATUS 0
  let s := ((s.putBytesAt F.SECURE_NONCE_V 8 []).putBytesAt F.SECURE_EXTEND_V 8 []).putBytesAt F.SECURE_SIG_V 16 []
  let s := ((s.put F.SECURE_QNS_V 0).put F.SECURE_QSEC_V 0).put F.SECURE_CHK_STAT_CODE 0
  let s := (s.each l fun s q => s.quoteEnd q .retired).retired .secure l.length
  s.engine.newChal

end Sys2Proof.Machine
end

