-- ==== Sys2Proof/Machine/Proto.lean ====
section
/-! DEFINITION. Skein superframes (08_skein_protocol, R200 to R221, R226 to R230): /SOF/ and beacon, Milestone sections and
entries, telemetry, path delays, and Roadblock. -/

namespace Sys2Proof.Machine

/-! ## The cell map and the paths of the MANAGER (R25, R42, R191, R212) -/

/-- The valid cells of a configuration set, rising (R25): the listed entries of the map with VALID = 1. -/
def Dev.cells (s : Dev) (set : Nat) : List Nat :=
  s.lanes.trunk.filterMap fun (k, v) =>
    let off := k / 64 % 0x20000
    if k % 64 = 31 ∧ k / 64 / 0x20000 = set ∧ 0x3FC0 ≤ off ∧ off < 0xFFC0 ∧ (off - 0x3FC0) % 8 = 0 ∧ v = 1 then
      some ((off - 0x3FC0) / 8) else none

def Dev.cArm (s : Dev) (set g : Nat) : Nat := s.fs set F.TRUNK_CELL_MAP_ARM g
def Dev.cPos (s : Dev) (set g : Nat) : Nat := s.fs set F.TRUNK_CELL_MAP_POS g
def Dev.cConc (s : Dev) (set g : Nat) : Nat := s.fs set F.TRUNK_CELL_MAP_CONC g
def Dev.cPort (s : Dev) (set g : Nat) : Nat := s.fs set F.TRUNK_CELL_MAP_PORT g
def Dev.cFull (s : Dev) (set g : Nat) : Bool := decide (s.fs set F.TRUNK_CELL_MAP_FB g = 1)

/-- The valid cells of an arm. -/
def Dev.armCells (s : Dev) (set a : Nat) : List Nat := (s.cells set).filter fun g => decide (s.cArm set g = a)

/-- The cell on a port behind a primary lane (63 for a direct leaf lane). -/
def Dev.cellAt (s : Dev) (set c port : Nat) : Option Nat :=
  (s.cells set).find? fun g => decide (s.cConc set g = c) && decide (s.cPort set g = port)

/-- The lane that a map gives a mode for a primary lane: its BONDED or SPARE companion (R190, R191). -/
def Dev.companion (s : Dev) (set c mode : Nat) : Option Nat :=
  (List.range 48).find? fun m => decide (s.fs set F.TRUNK_LANE_MAP_MODE m = mode) && decide (s.fs set F.TRUNK_LANE_MAP_PRIM m = c)

/-- The lane that carries the traffic of a CONCENTRATOR with a spare (R191). -/
def Dev.carryLane (s : Dev) (set c : Nat) : Nat :=
  match s.companion set c mSpare with
  | some m => if s.lnFlag F.LANE_LANE_STAT_CARRYING m && !s.lnFlag F.LANE_LANE_STAT_CARRYING c then m else c
  | none => c

/-- The lane that carries the traffic of a port behind primary lane `c` (R212), or of a direct leaf lane. -/
def Dev.pathLane (s : Dev) (set c port : Nat) : Nat :=
  if c = 63 then 64 + port
  else match s.companion set c mBonded with
    | some m => if 64 ≤ port then m else c
    | none => s.carryLane set c

/-- The primary lane that a trunk lane serves. -/
def Dev.primaryOf (s : Dev) (set L : Nat) : Nat :=
  let m := s.fs set F.TRUNK_LANE_MAP_MODE L
  if m = mBonded ∨ m = mSpare then s.fs set F.TRUNK_LANE_MAP_PRIM L else L

/-- The CELL decode stage in ns at a leaf rate (R210). -/
def decodeNs (rate : Nat) : Nat := if rate = 0 then 376 else if rate = 1 then 248 else 184

/-- The path delay D(g) in 2⁻⁸ ns where the lanes' delays are known (R42, R191, R210, R212). Behind a CONCENTRATOR, whose leaf rates the
MANAGER does not know (R221), the decode is the 46 cycles that R42 states (log entry 153). -/
def Dev.pathDelay (s : Dev) (set g : Nat) : Option Nat :=
  let c := s.cConc set g
  let p := s.cPort set g
  if c = 63 then
    if s.inRun (64 + p) then some (s.ln F.LANE_LANE_DELAY_DELAY (64 + p) + decodeNs (s.ln F.LANE_LANE_CFG_RATE (64 + p)) * 256) else none
  else
    let d := match s.companion set c mSpare with
      | some m => max (s.ln F.LANE_LANE_DELAY_DELAY c) (s.ln F.LANE_LANE_DELAY_DELAY m)
      | none => s.ln F.LANE_LANE_DELAY_DELAY (s.pathLane set c p)
    let l := Tab.get 0 s.proto.ldel (c * 128 + p)
    if l = 0 ∨ ¬ s.inRun (s.pathLane set c p) then none else some (d + 58 * 256 + (l - 1) + 184 * 256)

/-- R46: A is less than DMAX + 24 ns. -/
def Dev.allowCheck (s : Dev) : Dev :=
  s.iff (decide (s.fi F.GLOBAL_STAMP_ALLOW < s.f F.GLOBAL_ALLOW_MEAS_DMAX + 24)) fun s => s.raise F.GLOBAL_CYCLE_STAT_ALLOW_SHORT

/-- The largest path delay and its cell, the lower g at a tie (R42). -/
def Dev.dmaxUpdate (s : Dev) : Dev :=
  if s.role ≠ .manager then s
  else
    let best := (s.cells s.actSet).foldl (fun (b : Option (Nat × Nat)) g =>
      match s.pathDelay s.actSet g, b with
      | some d, some (d0, g0) => if d0 < d then some (d, g) else some (d0, g0)
      | some d, none => some (d, g)
      | none, b => b) none
    match best with
    | none => s
    | some (d, g) =>
      let ns := (d + 128) / 256
      ((s.put F.GLOBAL_ALLOW_MEAS_DMAX (if 65534 < ns then 0xFFFF else ns)).put F.GLOBAL_ALLOW_MEAS_GMAX g).allowCheck

/-! ## Cycles as each role knows them (R34, R36, R247) -/

/-- The period and the phase in ns: those of `CYCLE_CTL` in the MANAGER, those taken from two /SOF/ elsewhere. -/
def Dev.perNs (s : Dev) : Nat := if s.role = .manager then s.f F.GLOBAL_CYCLE_CTL_PERIOD * 50 else s.proto.per
def Dev.phaseNs (s : Dev) : Nat := if s.role = .manager then s.f F.GLOBAL_CYCLE_PHASE_PHASE else s.proto.ph

/-- The station time in ns of boundary n (R34, R36). -/
def Dev.bnd (s : Dev) (n : Nat) : Nat := n * s.perNs + s.phaseNs

/-- The number of the cycle at a station time in ns (R36). -/
def Dev.cycAt (s : Dev) (t : Nat) : Nat := if s.perNs = 0 then 0 else (t - s.phaseNs) / s.perNs

/-- The next boundary: its cycle number (R34, R36). -/
def Dev.nextBoundary (s : Dev) : Nat :=
  max s.glob.nextCyc ((s.now - s.phaseNs + s.perNs - 1) / s.perNs)

/-! ## /SOF/ and beacon (R203 to R205) -/

/-- The six data bytes of a /SOF/ (R203). -/
def sofBytes (role plane : Nat) (active trip relinq : Bool) (dir gen cyc : Nat) : List Byte :=
  bytesOf 1 (role % 4 * 64 + plane * 16 + b2n active * 8 + b2n trip * 4 + b2n relinq * 2 + dir) ++ beBytes 2 gen ++ beBytes 3 cyc

/-- The beacon (R204). -/
def beaconBytes (t : Int) (tq : Bool) (upoff nport : Nat) : List Byte :=
  beBytes 6 (secOf t) ++ beBytes 4 (nsOf t) ++ bytesOf 1 (b2n tq * 128 + subOf t) ++ bytesOf 1 upoff ++ bytesOf 1 nport ++ bytesOf 1 0

/-- What a /SOF/ tells (R203), arrived at `tm`. -/
def SofSeen.ofBytes (d : List Byte) (tm : Nat) : SofSeen :=
  let b := field d 0 1
  { plane := bits b 4 2, active := bitOf b 3, trip := bitOf b 2, relinq := bitOf b 1, gen := fieldBE d 1 2, cyc := fieldBE d 3 3, tm := tm,
    rb := false }

/-- The beacon's time in 2⁻⁴⁰ ns (R204). -/
def beaconOf (d : List Byte) : Int :=
  let sub := bits (field d 16 1) 0 6
  ((fieldBE d 6 6 * 10 ^ 9 + fieldBE d 12 4 : Nat) : Int) * nsFix + (sub : Int) * 5 * (nsFix / 64)

/-- Triggers in force in the MANAGER other than the PAIR source, and the PAIR source (R228, R310). -/
def Dev.ownTrip (s : Dev) : Bool := s.flag F.SAFETY_TRIP_STAT_DEMAND || s.flag F.LANE_RB_CTL_HOST
def Dev.pairTrip (s : Dev) : Bool := s.flag F.PAIR_STAT_PAIR_TRIP

/-- Lanes of the MANAGER that carry a Roadblock (R228, R310). -/
def Dev.rbLanes (s : Dev) (own : Bool) : List Nat :=
  (roleLanes .manager).filter fun L => if L < 64 then s.inL01 L && (own || !s.isPair L) else s.fromAlign L

/-- Send a burst on lanes: sent ones are counted in the block of the lanes, in the MANAGER also in TRUNK (R228, R231). -/
def Dev.rbEmit (s : Dev) (l : List Nat) : Dev :=
  if l = [] then s
  else
    let s := (s.each l fun s L => s.emit (.lane L 0xFE [])).digEvent 1
    let tr := decide (s.role = .manager)
    let lf := l.any fun L => decide (64 ≤ L)
    let s := s.iff tr fun s => (s.raise F.LANE_RB_STAT_SENT).inc F.LANE_RB_STAT_RB_CNT 1
    s.iff lf fun s => (s.raise F.LANE_RB_STAT_SENT.onLeaf).inc F.LANE_RB_STAT_RB_CNT.onLeaf 1

/-- A Roadblock of the MANAGER. -/
def Dev.rbBurst (s : Dev) (own : Bool) : Dev := s.rbEmit (s.rbLanes own)

/-- After a command: a trigger that came into force sends a Roadblock, and HOLD shows whether one is in force (R228, R310). -/
def Dev.rbSync (s0 s : Dev) : Dev :=
  if s.role ≠ .manager then s
  else
    let rise := fun (g : Fld) => s.flag g && !s0.flag g
    let own := rise F.SAFETY_TRIP_STAT_DEMAND || rise F.LANE_RB_CTL_HOST
    let s := if own then s.rbBurst true else if rise F.PAIR_STAT_PAIR_TRIP then s.rbBurst false else s
    let hold := b2n (s.ownTrip || s.pairTrip)
    if s.f F.LANE_RB_STAT_HOLD = hold then s else (s.put F.LANE_RB_STAT_HOLD hold).put F.LANE_RB_STAT_HOLD.onLeaf hold

/-- A device puts a block on a lane that carries superframes. -/
def Dev.send (s : Dev) (L kind : Nat) (data : List Byte) : Dev := if s.inL0 L then s.emit (.lane L kind data) else s

/-- The /SOF/ blocks of the MANAGER at boundary n (R205, R291), each followed by another burst while a trigger is in force
(R228, R310). -/
def Dev.managerSof (s : Dev) (n : Nat) : Dev :=
  let act := decide (s.f F.PAIR_STAT_STATE = 2)
  let gen := s.f F.PAIR_STAT_GEN
  let plane := s.f F.GLOBAL_ROLE_PLANE
  let set := s.actSet
  let t := s.nowFix
  let s := s.each ((roleLanes .manager).filter s.inL0) fun s L =>
    let pair := s.isPair L
    let trip := s.ownTrip || (s.pairTrip && !pair)
    let sof := sofBytes 1 plane act trip s.pair.relinq (b2n (pair && decide (plane = 2))) gen n
    let trk := decide (L < 64) && !pair
    let up := if trk then s.fs set F.TRUNK_SF_CFG_UPOFF L else 0
    let np := if trk then s.fs set F.TRUNK_SF_CFG_NPORT L else 0
    (s.emit (.lane L 0xFB (withCrc (sof ++ beaconBytes t (s.flag F.TIME_STAT_TQ) up np)))).sofSent L
  if s.ownTrip then s.rbEmit ((s.rbLanes true).filter s.inL0)
  else if s.pairTrip then s.rbEmit ((s.rbLanes false).filter s.inL0) else s

/-- The trunk lane from which a CONCENTRATOR takes station time and plane state (R191, R212). -/
def Dev.srcTrunk (s : Dev) : Nat :=
  if s.isSpare 1 && s.lnFlag F.LANE_LANE_STAT_CARRYING 1 && !s.lnFlag F.LANE_LANE_STAT_CARRYING 0 then 1 else 0

/-- The pair of trunk lanes of a CONCENTRATOR is BONDED (R190, R212). -/
def Dev.concBonded (s : Dev) : Bool := decide (s.ln F.LANE_LANE_PEER_P_MODE 1 = mBonded)

/-- The latest intact trunk /SOF/ of a CONCENTRATOR, within the last 2 P (R205). -/
def Dev.trunkSof (s : Dev) : Option SofSeen :=
  match Tab.find s.proto.sof s.srcTrunk with
  | some x => if s.now ≤ x.tm + 2 * s.perNs then some x else none
  | none => none

/-- The leaf /SOF/ blocks of a CONCENTRATOR at boundary n (R205). -/
def Dev.concLeafSof (s : Dev) (n : Nat) : Dev :=
  match s.trunkSof with
  | none => s
  | some x =>
    let sof := sofBytes 2 (s.f F.GLOBAL_ROLE_PLANE) x.active x.trip x.relinq 0 x.gen n
    let t := s.nowFix
    s.each ((List.range 128).map (· + 64)) fun s L =>
      (s.send L 0xFB (withCrc (sof ++ beaconBytes t (s.flag F.TIME_STAT_TQ) 0 0))).iff (s.inL0 L) fun s => s.sofSent L

/-! ## Milestones on the lanes (R206 to R209) -/

/-- The CRC-4 of a slot's bits [15:4], most significant first (R206). -/
def chk4 (v : Nat) : Nat := (List.range 12).foldl (fun c i => crcStep 4 3 c (bitOf v (11 - i))) 0

/-- A slot (R206). -/
def slotWord (op param : Nat) : Nat := (op * 256 + param) * 16 + chk4 (op * 256 + param)

/-- What all Milestones of an arm's assembly carry (R206). -/
structure MsHead where
  arm    : Nat
  cv     : Bool
  gen    : Nat
  cyc    : Nat
  exec   : Nat
  duty   : Nat
  cper   : Nat
  cphase : Nat
deriving DecidableEq, Repr

def MsHead.tail (h : MsHead) : List Byte :=
  bytesOf 1 (b2n h.cv * 128) ++ beBytes 2 h.gen ++ beBytes 4 h.cyc ++ beBytes 4 h.exec ++ beBytes 4 h.duty ++ beBytes 4 h.cper ++
    beBytes 4 h.cphase

/-- A trunk section (R206): the CRC follows the header. -/
def sectionBytes (h : MsHead) (first : Nat) (slots : List Nat) : List Byte :=
  withCrc (bytesOf 1 (h.arm * 16) ++ bytesOf 1 slots.length ++ bytesOf 1 first ++ h.tail) ++ slots.flatMap (beBytes 2)

/-- A leaf entry (R209). -/
def entryBytes (h : MsHead) (slot : Nat) : List Byte := withCrc (bytesOf 1 (h.arm * 16) ++ h.tail ++ beBytes 2 slot)

/-- The command for a cell in a list of commands (g, op, param). -/
def cmdFor (l : List (Nat × Nat × Nat)) (g : Nat) : Nat × Nat :=
  match l.find? fun c => decide (c.1 = g) with
  | some (_, op, param) => (op, param)
  | none => (0, 0)

/-- The ports that the map gives to an arm behind a primary lane, within the half that lane `L` carries (R206, R212): first
port and number of slots. -/
def Dev.armSpan (s : Dev) (set a L : Nat) : Option (Nat × Nat) :=
  let c := s.primaryOf set L
  let half := fun (p : Nat) => (s.companion set c mBonded).isNone || decide (decide (64 ≤ p) = decide (s.fs set F.TRUNK_LANE_MAP_MODE L = mBonded))
  let l := ((s.armCells set a).filter fun g => decide (s.cConc set g = c) && half (s.cPort set g)).map (s.cPort set)
  match l with
  | [] => none
  | p :: ps =>
    let lo := ps.foldl min p
    let hi := ps.foldl max p
    some (lo, hi - lo + 1)

/-- The sections and direct leaf entries of an arm's assembly (R206, R209, R212). -/
def Dev.msSend (s : Dev) (set : Nat) (h : MsHead) (cmds : List (Nat × Nat × Nat)) : Dev :=
  let lead := (List.range 48).filter fun L =>
    let m := s.fs set F.TRUNK_LANE_MAP_MODE L
    decide (m = mPrimary) || decide (m = mBonded)
  let s := s.each lead fun s L =>
    match s.armSpan set h.arm L with
    | none => s
    | some (lo, n) =>
      let c := s.primaryOf set L
      let slots := (List.range n).map fun k =>
        match s.cellAt set c (lo + k) with
        | some g => if s.cArm set g = h.arm then slotWord (cmdFor cmds g).1 (cmdFor cmds g).2 else slotWord 0 0
        | none => slotWord 0 0
      s.send (s.pathLane set c lo) 0xF7 (sectionBytes h lo slots)
  let direct := (s.armCells set h.arm).filter fun g => decide (s.cConc set g = 63)
  s.each direct fun s g =>
    let c := cmdFor cmds g
    if c.1 = 0 then s else s.send (64 + s.cPort set g) 0xF7 (entryBytes h (slotWord c.1 c.2))

/-- A CONCENTRATOR forwards a section's slots (R205, R208): `data` holds the header without its CRC, then the slots; `ok` tells
that the header's CRC passes. -/
def Dev.msForward (s : Dev) (L : Nat) (data : List Byte) (ok : Bool) : Dev :=
  let n := field data 1 1
  let first := field data 2 1
  if s.role ≠ .concentrator ∨ 64 ≤ L ∨ ¬ s.inL0 L then s
  else if ¬ ok ∨ 128 < first + n then s.inc F.LANE_SF_ERR_MS_CRC 1
  else if s.trunkSof.isNone then s
  else
    s.each (List.range n) fun s k =>
      let slot := fieldBE data (26 + 2 * k) 2
      if bits slot 12 4 = 0 then s
      else s.send (64 + first + k) 0xF7 (withCrc (slice data 0 1 ++ slice data 3 23 ++ beBytes 2 slot))

/-- OP and PARAM are defined (R207, R213). -/
def opDefined (op param : Nat) : Bool :=
  decide (op = 0) || (decide (1 ≤ op) && decide (op ≤ 6) && decide (param = 0)) || (decide (op = 7) && decide (1 ≤ param) && decide (param ≤ 3))

/-- A CELL decodes a leaf entry (R202, R213 to R215, R299): `ok` tells that its CRC passes. An entry from the plane that the cell does not
follow is counted as such, whatever else is wrong with it. -/
def Dev.msDecode (s : Dev) (L : Nat) (data : List Byte) (ok : Bool) : Dev :=
  if ¬ s.awake ∨ ¬ s.inL0 L then s
  else
    let bad := fun (s : Dev) => ({ s with gate := { s.gate with badcmd := true } }).inc F.LANE_MS_STAT_BADCMD_CNT.onLeaf 1
    let s := s.iff (!ok) fun s => s.inc F.LANE_SF_ERR_MS_CRC.onLeaf 1
    if L = 65 ∧ s.leafDup then s
    else
      let gen := fieldBE data 2 2
      let s : Dev := match Tab.find s.proto.sof L with
        | some x =>
          if ok ∧ genHigher 16 gen s.gate.gen ∧ x.plane ≠ 0 then
            ({ s with proto := { s.proto with sof := Tab.put s.proto.sof L { x with active := true, gen := gen },
                                              miss := Tab.set 0 s.proto.miss L 0 } }).follow
          else s
        | none => s
      let plane := match Tab.find s.proto.sof L with | some x => x.plane | none => 0
      if plane = 0 ∨ plane ≠ s.gate.fplane then s.inc F.LANE_MS_STAT_OTHER_CNT.onLeaf 1
      else
        let slot := fieldBE data 24 2
        let op := bits slot 12 4
        let param := bits slot 4 8
        if ¬ ok ∨ chk4 (slot / 16) ≠ slot % 16 ∨ ¬ opDefined op param ∨ (op = 2 ∧ ¬ s.flag F.GATE_CTL_FB) then bad s
        else if op = 0 then s
        else s.accept { op := op, param := param, exec := fieldBE data 8 4, cv := bitOf (field data 1 1) 7, duty := fieldBE data 12 4,
                        cper := fieldBE data 16 4, cphase := fieldBE data 20 4 }

/-! ## Reception of /SOF/ outside the cross-link (R202 to R204, R247, R248, R350) -/

/-- The role's source lane of station time (R350). -/
def Dev.isSource (s : Dev) (L : Nat) : Bool :=
  match s.role with
  | .concentrator => decide (L = s.srcTrunk)
  | .cell => decide (s.f F.GATE_STAT_TLANE = L - 63) && decide (64 ≤ L)
  | _ => false

/-- Fixed-point time to the nearest ns. -/
def nearNs (x : Nat) : Nat := (x + 2 ^ 39) / 2 ^ 40

/-- P and the phase of a lane from its first two intact /SOF/ with consecutive CYC since RUN (R247). -/
def Dev.learnPeriod (s : Dev) (L cyc t : Nat) : Dev :=
  match Tab.find s.proto.pSeen L with
  | some (c, t0) =>
    let p := nearNs (t - t0)
    s.iff (decide (cyc = (c + 1) % 2 ^ 24) && decide (0 < p) && (Tab.find s.proto.pLane L).isNone) fun s =>
      { s with proto := { s.proto with pLane := Tab.put s.proto.pLane L (p, nearNs t0 % p) } }
  | none => s

/-- The period and phase in force are those of the time lane, or of the first lane that gives them (R247; log entry 30 for the
CONCENTRATOR). -/
def Dev.takePeriod (s : Dev) (L cyc : Nat) (bt : Int) : Dev :=
  let s := s.learnPeriod L cyc bt.toNat
  let s := { s with proto := { s.proto with pSeen := Tab.put s.proto.pSeen L (cyc, bt.toNat) } }
  match Tab.find s.proto.pLane L with
  | some (p, ph) =>
    if s.proto.per = 0 ∨ s.isSource L then
      let s := { s with proto := { s.proto with per := p, ph := ph } }
      s.iff (decide (s.role = .cell)) fun s => s.put F.GATE_TIME_STAT_P p
    else s
  | none => s

/-- An intact /SOF/ with beacon at the downstream end of a lane in RUN: `d` its 20 data bytes (R203, R204). That of `TK1` of a BONDED pair
serves the count of missed superframes alone (R212). -/
def Dev.sofTaken (s : Dev) (L : Nat) (d : List Byte) : Dev :=
  let bt := beaconOf d
  let second := decide (s.role = .concentrator) && decide (L = 1) && s.concBonded
  let s := s.iff (!second) fun s => s.takePeriod L (fieldBE d 3 3) bt
  let s := s.iff (decide (s.role = .cell)) fun s => s.timeLane
  let s := if s.isSource L ∧ s.lnFlag F.LANE_LANE_STAT_TIME_VALID L then
      let e := s.beaconErr bt (s.ln F.LANE_LANE_DELAY_DELAY L)
      let s := s.beaconTime bt (s.ln F.LANE_LANE_DELAY_DELAY L) (bitOf (field d 16 1) 7)
      if farErr e then
        let s := { s with glob := { s.glob with nextCyc := 0 } }
        if s.awake then ((s.raise F.GATE_EVT_TIME_STEP).logEvent 9 (wrap 32 (satS 32 (e / nsFix)))).lateAfterStep else s
      else s
    else s
  let x := SofSeen.ofBytes d s.now
  let s := { s with proto := { s.proto with sof := Tab.put s.proto.sof L x, miss := Tab.set 0 s.proto.miss L 0 } }
  match s.role with
  | .concentrator =>
    let s := s.iff (decide (L = 0) && decide (s.f F.GLOBAL_ROLE_PLANE = 0)) fun s => s.put F.GLOBAL_ROLE_PLANE x.plane
    if second then s
    else
      let s := { s with proto := { s.proto with upoff := Tab.set 0 s.proto.upoff L (field d 17 1), nport := Tab.set 0 s.proto.nport L (field d 18 1) } }
      s.iff (decide (L = s.srcTrunk)) fun s => (s.put F.LANE_RB_STAT_HOLD (b2n x.trip)).put F.LANE_RB_STAT_HOLD.onLeaf (b2n x.trip)
  | .cell =>
    let s := s.follow
    let s := s.iff x.trip fun s => (s.raise F.GATE_STAT_TRIP_HOLD).put F.LANE_RB_STAT_HOLD.onLeaf 1
    if x.active ∧ x.plane ≠ 0 ∧ ¬ (L = 65 ∧ s.leafDup) then { s with gate := { s.gate with tage := Tab.put s.gate.tage x.plane 0 } } else s
  | _ => s

/-- A missed superframe at the downstream end of a lane in RUN (R202), at 1.5 P after the last /SOF/ and each P after. -/
def Dev.sofMiss (s : Dev) (L : Nat) : Dev :=
  if ¬ s.inL0 L ∨ s.isUp L then s
  else
    let m := Tab.get 0 s.proto.miss L
    let s := match Tab.find s.proto.sof L with
      | some x => s.advanceTo (x.tm + s.perNs * 3 / 2 + m * s.perNs)
      | none => s
    let s := ({ s with proto := { s.proto with miss := Tab.set 0 s.proto.miss L (m + 1) } }).incBlkLn F.LANE_SF_MISS_SOF_MISS L 1
    s.iff s.awake fun s => s.follow

/-! ## Telemetry (R217 to R219) -/

/-- The sample instant of the boundary in progress, 40 ns before it, in units of 2⁻⁶ ns (R217). -/
def Dev.sampleW (s : Dev) : Nat := s.now * 64 - 40 * 64

/-- SWT of the record (R239): the latest stamp before the sample instant. -/
def Dev.recordSwt (s : Dev) : Nat :=
  match (s.gate.swt.filter fun x => decide (x.1 < s.sampleW)).getLast? with
  | some x => wrap 16 x.2
  | none => 0x7FFF

/-- POS of the record (R218): the position in force at the sample instant. -/
def Dev.recordPos (s : Dev) : Nat :=
  match s.gate.posLog.find? fun x => decide (s.sampleW < x.1) with
  | some x => x.2
  | none => s.f F.GATE_STAT_POS

/-- TAGE (R218): superframes since the latest ACTIVE /SOF/ of the followed plane; at its end value where there was none (log entry 154). -/
def Dev.recordAge (s : Dev) : Nat := Tab.get 0xFFFF s.gate.tage s.gate.fplane

/-- The record of a CELL for cycle n (R218). -/
def Dev.cellRecord (s : Dev) (n : Nat) : List Byte :=
  let pl := fun L => match Tab.find s.proto.sof L with | some x => x.plane | none => 0
  let crossed := decide (pl 64 = 2) && decide (pl 65 = 1)
  let g := s.gate
  let b2 := s.gState * 32 + s.recordPos * 8 + b2n g.late * 4 + b2n g.badcmd * 2 + b2n g.ovf
  let b3 := s.f F.GATE_STAT_TRIP_HOLD * 128 + b2n g.desat * 64 + b2n (decide (s.f F.GATE_VLIM_OVW ≤ s.f F.GATE_MEAS_VCAP)) * 32 +
    s.f F.GATE_AUX_STAT_STALE * 16 + b2n crossed * 8 + b2n s.leafDup * 4 + s.f F.GATE_STAT_TIME_HOLD * 2 +
    b2n (decide (s.f F.GATE_LOG_CTL_RD ≠ s.f F.GATE_LOG_CTL_WR))
  beBytes 2 (s.f F.GATE_MEAS_VCAP) ++ bytesOf 1 b2 ++ bytesOf 1 b3 ++ bytesOf 1 (s.f F.GATE_MEAS_TEMP) ++ bytesOf 1 n ++ beBytes 2 s.recordSwt ++
    bytesOf 1 (g.fplane * 64 + b2n (s.inRun 64) * 32 + b2n (s.inRun 65) * 16) ++ bytesOf 1 g.gen ++ beBytes 2 s.recordAge

/-- Replies that may go in a frame that starts at time `t`, at most `k`, on lane L (R223). -/
def Dev.takeReplies (s : Dev) (L t k : Nat) : List (List Byte) × Dev :=
  let can := fun (r : RrRep) => decide (r.lane = L) && decide (r.after ≤ t)
  let go := (s.proto.rep.filter can).take k
  (go.map (·.pkt), { s with proto := { s.proto with rep := s.proto.rep.filter fun r => !(can r && go.contains r) } })

/-- An /RR/ block of packets (R222): the CRC comes last. -/
def rrBlock (l : List (List Byte)) : List Byte := withCrc (bytesOf 1 l.length ++ bytesOf 1 0 ++ l.flatMap id)

/-- Reply packets leave in one block. -/
def Dev.sendReplies (s : Dev) (L t k : Nat) : Dev :=
  let r := s.takeReplies L t k
  if ¬ s.inL0 L ∨ r.1 = [] then s else r.2.send L 0xFD (rrBlock r.1)

/-- The upstream frame of a CELL at boundary n (R205, R217, R223). -/
def Dev.cellFrame (s : Dev) (n : Nat) : Dev :=
  let record := s.cellRecord n
  let lim := s.sampleW
  let t := s.now
  let s := s.each [64, 65] fun s L =>
    let plane := match Tab.find s.proto.sof L with | some x => x.plane | none => 0
    let s := s.send L 0xFB (withCrc (sofBytes 3 plane false (s.flag F.GATE_STAT_TRIP_HOLD) false 1 s.gate.gen n ++ record))
    s.sendReplies L t 4
  { s with gate := { s.gate with late := false, badcmd := false, ovf := false
                                 swt := s.gate.swt.filter fun x => decide (lim ≤ x.1)
                                 posLog := s.gate.posLog.filter fun x => decide (lim < x.1) } }

/-- The symbol time of a lane in tenths of a ns, ten bits at its rate (R168). -/
def symTenths (L rate : Nat) : Nat := if L < 64 then (if rate = 0 then 16 else if rate = 1 then 8 else 4) else if rate = 0 then 80 else if rate = 1 then 40 else 20


/-- The status record of a CONCENTRATOR for cycle n (R219). -/
def Dev.statusRecord (s : Dev) (n : Nat) : List Byte × Dev :=
  let p := match sortInt (s.proto.dchg.map fun (k : Nat) => (k : Int)) with | k :: _ => k.toNat | [] => s.proto.dport % 128
  let rotate := s.proto.dchg = []
  let run := fun k => s.inRun (64 + k)
  let h := n % 2
  let map := (List.range 64).foldl (fun a i => a + b2n (run (64 * h + i)) * 2 ^ i) 0
  let temp := Config.temp s.free % 256
  let b6 := s.f F.LANE_LANE_STAT_CARRYING 1 * 128 + s.f F.TIME_STAT_TQ * 64 + b2n s.proto.rbRel * 32
  (bytesOf 1 (b2n (run p) * 128 + p) ++ beBytes 3 (if run p then s.ln F.LANE_LANE_DELAY_DELAY (64 + p) else 0) ++
     bytesOf 1 (s.epoch .trunk * 16 + s.epoch .leaf) ++ bytesOf 1 temp ++ bytesOf 1 b6 ++ bytesOf 1 0 ++ beBytes 8 map,
   { s with free := s.free + 1,
            proto := { s.proto with dchg := s.proto.dchg.filter fun k => decide (k ≠ p),
                                    dport := if rotate then (s.proto.dport + 1) % 128 else s.proto.dport } })

def noReport : List Byte := [0, 0, 0xE0, 0, 0, 0, 0, 0, 0, 0, 0, 0]

/-- The first bit of an upstream superframe leaves (R205, R212, R219): its /SOF/ and the status record of each lane are formed. -/
def Dev.upStart (s : Dev) (f : UpFrame) : List UpPart × Dev :=
  let lanes := if s.concBonded then [0, 1] else [s.srcTrunk]
  let info := match Tab.find s.proto.sof s.srcTrunk with | some x => x | none => SofSeen.ofBytes [] 0
  let np := min 128 (Tab.get 0 s.proto.nport s.srcTrunk)
  let sof := sofBytes 2 (s.f F.GLOBAL_ROLE_PLANE) info.active info.trip info.relinq 1 info.gen f.n
  let r := (lanes.filter s.inL0).foldl (fun (acc : List UpPart × Dev) L =>
    let first := if s.concBonded ∧ L = 1 then 64 else 0
    let last := if s.concBonded ∧ L = 0 then min 64 np else np
    let st := acc.2.statusRecord f.n
    (acc.1 ++ [{ lane := L, first := first, ports := last - first, head := sof ++ st.1 }], st.2)) ([], s)
  (r.1, { r.2 with proto := { r.2.proto with rbRel := r.2.proto.rbRel && decide (r.1 = []) } })

/-- Tenths of a ns from the first bit of a part of `k` records to its end, and to its slot `i` (R200, R219). -/
def Dev.upEnd (s : Dev) (p : UpPart) : Nat := (28 + 12 * p.ports) * symTenths p.lane (s.ln F.LANE_LANE_STAT_RATE_IN p.lane)
def Dev.upSlot (s : Dev) (p : UpPart) (i : Nat) : Nat := (24 + 12 * i) * symTenths p.lane (s.ln F.LANE_LANE_STAT_RATE_IN p.lane)

/-- The record of a port for a slot that leaves at `t` tenths of a ns (R219): the latest whose CRC ended at least 16 CORE cycles before. -/
def Dev.recordFor (s : Dev) (port t : Nat) : Option (List Byte) :=
  ((Tab.get [] s.proto.tlm port).find? fun x => decide ((x.2 + 16) * 10 ≤ t)).map (·.1)

/-- A part of an upstream superframe is complete: its block leaves, and the reply block after it (R219, R223). -/
def Dev.upSend (s : Dev) (t0 : Nat) (p : UpPart) : Dev :=
  let r := (List.range p.ports).foldl (fun (acc : List Byte × Dev) i =>
    match acc.2.recordFor (p.first + i) (t0 * 10 + s.upSlot p i) with
    | some r => (acc.1 ++ r, acc.2)
    | none => (acc.1 ++ noReport, acc.2.inc F.LANE_SF_MISS_NOREP_CNT 1)) ([], s)
  (r.2.send p.lane 0xFB (withCrc (p.head ++ r.1))).sendReplies p.lane (t0 + s.upEnd p / 10) 4

/-- The upstream superframes go on to the present time (R205): those whose first bit has left are formed, parts whose last bit has left
are sent (log entry 31). -/
def Dev.upGo (s : Dev) : Dev :=
  if s.proto.up = [] then s
  else
    { s with proto := { s.proto with up := [] } }.each s.proto.up fun s f =>
      let r := match f.parts with
        | some l => (some l, s)
        | none => if f.t0 ≤ s.now then (some (s.upStart f).1, (s.upStart f).2) else (none, s)
      match r with
      | (none, s) => { s with proto := { s.proto with up := s.proto.up ++ [f] } }
      | (some l, s) =>
        let done := fun (p : UpPart) => decide (f.t0 * 10 + s.upEnd p ≤ s.now * 10)
        let t := s.each (l.filter done) fun s p => s.upSend f.t0 p
        let left := l.filter fun p => !done p
        if left = [] then t else { t with proto := { t.proto with up := t.proto.up ++ [{ f with parts := some left }] } }

/-- The upstream superframe of cycle n will leave `UPOFF` after its boundary (R205). -/
def Dev.upQueue (s : Dev) (n : Nat) : Dev :=
  let f : UpFrame := { n := n, t0 := s.bnd n + Tab.get 0 s.proto.upoff s.srcTrunk * 8, parts := none }
  ({ s with proto := { s.proto with up := s.proto.up ++ [f] } }).upGo

/-- A CONCENTRATOR receives a cell's upstream block: /SOF/ and record (R219). -/
def Dev.recordReceive (s : Dev) (L : Nat) (data : List Byte) (ok : Bool) : Dev :=
  if s.role ≠ .concentrator ∨ L < 64 ∨ ¬ s.inL0 L then s
  else if ¬ ok then s.inc F.LANE_SF_ERR_TLM_CRC.onLeaf 1
  else { s with proto := { s.proto with tlm := Tab.put s.proto.tlm (L - 64) (((slice data 6 12, s.now) :: Tab.get [] s.proto.tlm (L - 64)).take 4) } }

/-! ## Roadblock (R227 to R229) -/

/-- Every /SOF/ received so far lies before the Roadblock that has just arrived (R229). -/
def Dev.markRb (s : Dev) : Dev :=
  { s with proto := { s.proto with sof := Tab.map (fun _ x => { x with rb := true }) s.proto.sof } }

/-- A run of `k` K30.7 has arrived on lane L (R227 to R229, R196, R212, R310). -/
def Dev.roadblock (s : Dev) (L k : Nat) : Dev :=
  if ¬ (s.fromAlign L ∨ s.farLoop L) ∨ k = 0 then s
  else if k = 1 then s.incBlkLn F.LANE_RB_STAT_SINGLE_CNT L 1
  else
    let seen := fun (s : Dev) => (s.raise (laneFld F.LANE_RB_STAT_SEEN L)).incBlkLn F.LANE_RB_STAT_RB_CNT L 1
    match s.role with
    | .cell => ((seen s).markRb).cellRoadblock L
    | .concentrator =>
      if 64 ≤ L then s
      else
        let s := seen s
        let same := match s.proto.rbAt with
          | some (l, t) => s.concBonded && decide (l ≠ L) && decide (s.now ≤ t + 200)
          | none => false
        if same then s
        else
          let s := { s with proto := { s.proto with rbAt := some (L, s.now) } }
          let l := ((List.range 128).map (· + 64)).filter s.fromAlign
          let s := { s with proto := { s.proto with rbRel := s.proto.rbRel || decide (l ≠ []) } }
          s.rbEmit l
    | .manager =>
      if ¬ s.isPair L then s
      else
        let s := { s with pair := { s.pair with psof := s.pair.psof.map fun (x : SofSeen) => { x with rb := true } } }
        if ¬ s.flag F.LANE_RB_CTL_PAIR_EN then s
        else
        let s : Dev := seen s
        if s.pairTrip then s.rbBurst false else s.raise F.PAIR_STAT_PAIR_TRIP
    | .none => s

/-- TRIP_HOLD clears at a boundary (R229). -/
def Dev.tripHoldEnd (s : Dev) : Dev :=
  let l := [64, 65].filter s.inRun
  let ok := l.all fun L => match Tab.find s.proto.sof L with | some x => !x.trip && !x.rb | none => false
  if s.flag F.GATE_STAT_TRIP_HOLD ∧ l ≠ [] ∧ ok then (s.put F.GATE_STAT_TRIP_HOLD 0).put F.LANE_RB_STAT_HOLD.onLeaf 0 else s

/-! ## Boundaries of the slaved roles -/

/-- A boundary in a CELL (R205, R217, R229, R247, R249, R298, R299). -/
def Dev.cellBoundary (s : Dev) (n : Nat) : Dev :=
  if ¬ s.awake then s
  else
    let s := { s with adc := { s.adc with origin := some (s.adc.origin.getD ((s.now : Int) - 40)) } }
    let s := (s.gateSample).auxCompute
    let s := s.cellFrame n
    let s := s.tripHoldEnd
    let s := s.each [64, 65] fun s L =>
      if s.inL0 L then s
      else { s with proto := { s.proto with miss := Tab.set 0 s.proto.miss L (Tab.get 0 s.proto.miss L + 1) } }
    let s := s.follow
    let cand := match s.planeLane s.gate.fplane with | some L => s.candidate L | none => false
    { s with gate := { s.gate with tage := Tab.map (fun _ a => min 0xFFFF (a + 1)) s.gate.tage, lost := if cand then 0 else s.gate.lost + 1 } }

end Sys2Proof.Machine
end

