-- ==== Sys2Proof/Machine/Rra.lean ====
section
/-! DEFINITION. Remote register access over the lanes (08_skein_protocol, R222 to R225; 01_roles_topology, R27): requests in the
MANAGER, the CONCENTRATOR's queues, replies, timeouts and retirement. What a target does with a request is in Machine/Remote. -/

namespace Sys2Proof.Machine

/-! ## Packets (R222) -/

/-- A request packet. -/
def reqPacket (op dest port epoch tag addr data : Nat) : List Byte :=
  beBytes 2 (op * 2 ^ 12 + dest * 2 ^ 11 + port * 2 ^ 4 + epoch) ++ bytesOf 1 tag ++ bytesOf 1 0 ++ beBytes 4 addr ++ beBytes 8 data

def pktOp (p : List Byte) : Nat := bits (fieldBE p 0 2) 12 4
def pktDest (p : List Byte) : Nat := bits (fieldBE p 0 2) 11 1
def pktPort (p : List Byte) : Nat := bits (fieldBE p 0 2) 4 7
def pktEpoch (p : List Byte) : Nat := bits (fieldBE p 0 2) 0 4
def pktTag (p : List Byte) : Nat := field p 2 1

/-- The reply to a request packet. -/
def replyPacket (req : List Byte) (epoch : Nat) (st : Status) (data : Nat) : List Byte :=
  beBytes 2 (pktOp req * 2 ^ 12 + pktDest req * 2 ^ 11 + pktPort req * 2 ^ 4 + epoch % 16) ++ bytesOf 1 (pktTag req) ++
    bytesOf 1 st.code ++ beBytes 8 data

/-! ## The MANAGER (R27, R223 to R225) -/

/-- The lane that carries a request: TLANE 63 names a direct leaf lane; requests with DEST = 0 travel on the primary lane of a
BONDED pair (R191, R212, R224). -/
def Dev.rrLane (s : Dev) (q : RrReq) : Nat :=
  if q.lane = 63 then 64 + q.port else s.pathLane s.actSet q.lane (if q.dest = 1 then q.port else 0)

/-- A request for the fingerprint of cell `g` (R27). -/
def Dev.idRequest (s : Dev) (g : Nat) : RrReq :=
  { lane := s.cConc s.actSet g, dest := 1, port := s.cPort s.actSet g, op := 1, epoch := Tab.get 0 s.glob.idEp g, addr := 0x30008, data := 0, desc := none,
    cell := g, sent := none }

/-- A request completes: its descriptor, or the fingerprint read of R27. -/
def Dev.rrComplete (s : Dev) (q : RrReq) (st : Status) (ep data : Nat) : Dev :=
  match q.desc with
  | some (r, i) =>
    match (s.sqOf r).act.find? fun d => decide (d.idx = i) && d.fin.isNone with
    | some d => s.finish r d st ep (if st = .ok ∧ (q.op = 1 ∨ q.op = 3) then bytesOf 8 data else [])
    | none => s
  | none =>
    let s := { s with glob := { s.glob with idPend := s.glob.idPend.filter (fun g => decide (g ≠ q.cell)),
                                            idEp := Tab.set 0 s.glob.idEp q.cell ep } }
    if st = .ok then { s with glob := { s.glob with idfp := Tab.put s.glob.idfp q.cell (data % 2 ^ 32 + 1) } } else s

/-- A request completes with RETIRED, carrying the epoch it named (R57, R58, R224). -/
def Dev.rrGone (s : Dev) (q : RrReq) : Dev := (s.retired (if q.lane = 63 then .leaf else .trunk) 1).rrComplete q .retired q.epoch 0

/-- A request is submitted: RETIRED at once where the lane that would carry it is not in RUN in L0 (R224). -/
def Dev.rrSubmit (s : Dev) (q : RrReq) : Dev :=
  if s.inL0 (s.rrLane q) then { s with proto := { s.proto with rr := s.proto.rr ++ [q] } } else s.rrGone q

/-- The key of a request's combination (R224), and the lowest TAG of it that is free. -/
def rrKey (L dest port tag : Nat) : Nat := ((L * 2 + dest) * 128 + port) * 256 + tag

def Dev.rrTag (s : Dev) (q : RrReq) : Option Nat :=
  (List.range 256).find? fun t =>
    let dep := Tab.get 0 s.proto.tags (rrKey (s.rrLane q) q.dest q.port t)
    decide (dep = 0) || decide (dep - 1 + 2 * s.f F.LANE_RRA_CFG_TMO * 1000 ≤ s.now)

/-- Whether the limits of R223 let a request leave in this superframe, of which `out` holds the lanes used so far. -/
def Dev.rrMay (s : Dev) (q : RrReq) (out : List Nat) : Bool :=
  let L := s.rrLane q
  let going := s.proto.rr.filter fun x => x.sent.isSome
  let same := fun (x : RrReq) => decide (x.lane = q.lane) && decide (x.port = q.port) && decide (x.dest = 1)
  s.inL0 L && decide ((out.filter fun l => decide (l = L)).length < if q.lane = 63 then 1 else 4) &&
  (decide (q.lane = 63) || decide ((going.filter fun x => decide (x.lane = q.lane)).length < 16)) &&
  (decide (q.dest = 0 ∧ q.lane ≠ 63) || decide ((going.filter same).length < 2))

/-- Is `q` the request `x`, told by what names it? -/
def RrReq.is (q x : RrReq) : Bool :=
  decide (q.lane = x.lane) && decide (q.dest = x.dest) && decide (q.port = x.port) && decide (q.desc = x.desc) && decide (q.cell = x.cell)

/-- The requests that leave after the /SOF/ of a boundary, in order of arrival (R223). -/
def Dev.rrSend (s : Dev) : Dev :=
  let go := s.proto.rr.filter fun q => q.sent.isNone
  let r := go.foldl (fun (acc : Dev × List (Nat × List Byte)) q =>
    let s := acc.1
    match s.rrTag q with
    | some t =>
      if s.rrMay q (acc.2.map (·.1)) then
        let L := s.rrLane q
        let pkt := reqPacket q.op q.dest q.port q.epoch t q.addr q.data
        ({ s with proto := { s.proto with
             rr := s.proto.rr.map fun x => if x.is q && x.sent.isNone then { x with sent := some (t, s.now) } else x,
             tags := Tab.put s.proto.tags (rrKey L q.dest q.port t) (s.now + 1) } }, acc.2 ++ [(L, pkt)])
      else acc
    | none => acc) (s, [])
  let lanes := (r.2.map (·.1)).eraseDups
  r.1.each lanes fun s L => s.send L 0xFD (rrBlock ((r.2.filter fun p => decide (p.1 = L)).map (·.2)))

/-- The outstanding request that a lane, DEST, PORT and TAG name. -/
def Dev.rrFind (s : Dev) (L dest port tag : Nat) : Option RrReq :=
  s.proto.rr.find? fun q => decide (s.rrLane q = L) && decide (q.dest = dest) && decide (q.port = port) &&
    (match q.sent with | some (t, _) => decide (t = tag) | none => false)

def Dev.rrDrop (s : Dev) (q : RrReq) : Dev := { s with proto := { s.proto with rr := s.proto.rr.filter fun x => decide (x ≠ q) } }

/-- A reply packet arrives at the MANAGER on lane L (R57, R224, R225). -/
def Dev.rrReplied (s : Dev) (L : Nat) (p : List Byte) : Dev :=
  match s.rrFind L (pktDest p) (pktPort p) (pktTag p) with
  | none => s.inc F.LANE_RRA_STAT_LATE_CNT 1
  | some q =>
    let st := (Status.ofCode (field p 3 1)).getD .invalid
    if pktEpoch p ≠ q.epoch ∧ st ≠ .staleEpoch ∧ q.addr % 0x10000 ≠ 0xFFF0 then s.inc (staleFld .trunk) 1
    else (s.rrDrop q).rrComplete q st (pktEpoch p) (fieldBE p 4 8)

/-- `TMO` has passed since a request's block left (R225). -/
def Dev.rrTimeout (s : Dev) (L dest port tag : Nat) : Dev :=
  match s.rrFind L dest port tag with
  | some q =>
    match q.sent with
    | some (_, t) =>
      let s := s.advanceTo (t + s.f F.LANE_RRA_CFG_TMO * 1000)
      ((s.rrDrop q).inc F.LANE_RRA_STAT_TMO_CNT 1).rrComplete q .timeout q.epoch 0
    | none => s
  | none => s

/-- Requests of the MANAGER whose lane, as of `s0`, has left RUN or L0 complete with RETIRED (R224): those not yet sent where their
lane is not in L0, those outstanding where it is not in RUN. -/
def Dev.rrRetire (s0 s : Dev) : Dev :=
  let gone := s.proto.rr.filter fun q =>
    let L := s0.rrLane q
    if q.sent.isSome then !s.inRun L else !s.inL0 (s.rrLane q)
  s.each gone fun s q => (s.rrDrop q).rrGone q

/-- The leaf path to a cell is in RUN, as the MANAGER knows it (R27, R219). -/
def Dev.pathUp (s : Dev) (g : Nat) : Bool :=
  let c := s.cConc s.actSet g
  let p := s.cPort s.actSet g
  s.inRun (s.pathLane s.actSet c p) && (decide (c = 63) || decide (Tab.get 0 s.proto.run (c * 128 + p) = 1))

/-- R27: fingerprints to be read are requested; one of a path that is down is forgotten. -/
def Dev.idReads (s : Dev) : Dev :=
  if s.role ≠ .manager then s
  else
    s.each (s.cells s.actSet) fun s g =>
      if ¬ s.pathUp g then { s with glob := { s.glob with idfp := Tab.erase s.glob.idfp g } }
      else if s.fa F.TRUNK_CELL_MAP_IDFP g = 0 ∨ Tab.get 0 s.glob.idfp g ≠ 0 ∨ s.glob.idPend.contains g then s
      else ({ s with glob := { s.glob with idPend := g :: s.glob.idPend } }).rrSubmit (s.idRequest g)

/-- What R27 finds for a cell: available, mismatch, or not yet known. -/
inductive IdState where
  | ok | mismatch | unknown
deriving DecidableEq, Repr

def Dev.idState (s : Dev) (g : Nat) : IdState :=
  let want := s.fa F.TRUNK_CELL_MAP_IDFP g
  let got := Tab.get 0 s.glob.idfp g
  if ¬ s.pathUp g then .unknown
  else if want = 0 then .ok
  else if got = 0 then .unknown
  else if got - 1 = want then .ok else .mismatch

/-! ## The CONCENTRATOR (R223, R224) -/

/-- A reply waits for an upstream frame (R223): at most 16. -/
def Dev.queueReply (s : Dev) (L : Nat) (pkt : List Byte) (after : Nat) : Dev :=
  if 16 ≤ s.proto.rep.length then s else { s with proto := { s.proto with rep := s.proto.rep ++ [{ lane := L, pkt := pkt, after := after }] } }

/-- A leaf block with the next request of a port, where none has left in this cycle (R223). -/
def Dev.fwdPump (s : Dev) (port : Nat) : Dev :=
  if Tab.get 0 s.proto.rrCyc port = s.glob.nextCyc + 1 ∨ ¬ s.inL0 (64 + port) then s
  else
    match s.proto.fwd.find? fun x => decide (x.port = port) && !x.sent with
    | none => s
    | some x =>
      let s := { s with proto := { s.proto with
        fwd := (s.proto.fwd.filter fun (y : RrFwd) => !(decide (y.port = port) && y.sent && decide (pktTag y.pkt = pktTag x.pkt))).map
          fun (y : RrFwd) => if y = x then { y with sent := true } else y,
        rrCyc := Tab.put s.proto.rrCyc port (s.glob.nextCyc + 1) } }
      s.send (64 + port) 0xFD (rrBlock [x.pkt])

/-- A request for a cell arrives on trunk lane L (R223, R224). -/
def Dev.fwdRequest (s : Dev) (L : Nat) (pkt : List Byte) : Dev :=
  let port := pktPort pkt
  let answer := fun (s : Dev) (st : Status) => s.queueReply L (replyPacket pkt (pktEpoch pkt) st 0) (s.now + 16)
  if ¬ s.inRun (64 + port) then answer (s.retired .leaf 1) .retired
  else if 2 ≤ (s.proto.fwd.filter fun x => decide (x.port = port) && !x.sent).length then (answer s .busy).inc F.LANE_RRA_STAT_BUSY_CNT 1
  else
    let x : RrFwd := { lane := L, port := port, pkt := pkt, sent := false }
    Dev.fwdPump { s with proto := { s.proto with fwd := s.proto.fwd ++ [x] } } port

/-- A cell's reply arrives on leaf port `port` and goes up on the lane that carried its request (R212, R223). -/
def Dev.fwdReply (s : Dev) (port : Nat) (p : List Byte) : Dev :=
  match s.proto.fwd.find? fun x => decide (x.port = port) && x.sent && decide (pktTag x.pkt = pktTag p) with
  | none => s
  | some x => ({ s with proto := { s.proto with fwd := s.proto.fwd.filter fun y => decide (y ≠ x) } }).queueReply x.lane p (s.now + 16)

/-- Requests held for a port whose lane has left RUN are answered RETIRED (R224, R230). -/
def Dev.fwdRetire (s : Dev) : Dev :=
  let gone := s.proto.fwd.filter fun x => !s.inRun (64 + x.port)
  let s := { s with proto := { s.proto with fwd := s.proto.fwd.filter fun x => s.inRun (64 + x.port),
                                            tlm := Tab.keep (fun k => s.inRun (64 + k)) s.proto.tlm } }
  s.each gone fun s x => (s.retired .leaf 1).queueReply x.lane (replyPacket x.pkt (pktEpoch x.pkt) .retired 0) (s.now + 16)

/-- At a boundary of a CONCENTRATOR every port may be sent one more request. -/
def Dev.fwdPumpAll (s : Dev) : Dev := s.each ((s.proto.fwd.map (·.port)).eraseDups) fun s p => s.fwdPump p

end Sys2Proof.Machine
end

