-- ==== Sys2Proof/Machine/Spindle.lean ====
section
/-! DEFINITION. Spindle's estimator, cell states and selection (06_spindle_balancing, R140 to R161, R164, R167, R470). -/

namespace Sys2Proof.Machine

/-! ## Records and arms -/

/-- A cell record as a swap that makes the map entry valid leaves it (R147, R160). -/
def SpCell.fresh : SpCell :=
  { st := 1, cause := 2, v0 := 0, v1 := 0, vd := 0, rc := 0x40000000, vrep := 0, seq := 0, strikes := 0, hist := 0, posCmd := 0, pend := [],
    held := false, tpos := 0, sw := 0, innov := 0, age := 0, bad := 0, good := 0, clow := false, reps := [], capR := none, capA := 0,
    capDue := none, availN := 0, drift := 0, closeReq := none, closeN := 0, closeT := 0, hostOp := none, unlock := false, close := false,
    op := none, ecc := [] }

/-- The cleared record of an INVALID cell (R160). -/
def SpCell.invalid : SpCell := { SpCell.fresh with st := 0, cause := 0 }

def Dev.spCell (s : Dev) (g : Nat) : SpCell := Tab.get SpCell.invalid s.spin.cell g
def Dev.setSpCell (s : Dev) (g : Nat) (c : SpCell) : Dev :=
  { s with spin := { s.spin with cell := Tab.set SpCell.invalid s.spin.cell g c } }

def SpArm.idle : SpArm :=
  { cur := [], heldW := none, upd := 0, updEnd := 0, items := [], itemsAt := 0, wk := [], sel := none, selEnd := 0, asmFree := 0 }

def Dev.spArm (s : Dev) (a : Nat) : SpArm := Tab.get SpArm.idle s.spin.arm a
def Dev.setSpArm (s : Dev) (a : Nat) (x : SpArm) : Dev := { s with spin := { s.spin with arm := Tab.set SpArm.idle s.spin.arm a x } }

/-- The unit is ACTIVE (R303). -/
def Dev.unitActive (s : Dev) : Bool := decide (s.f F.PAIR_STAT_STATE = 2)

/-- The configuration set under which the work of cycle n runs (R40). -/
def Dev.cycSet (s : Dev) (n : Nat) : Nat :=
  match s.glob.cycles.find? fun c => decide (c.n = n) with
  | some c => c.set
  | none => s.actSet

/-- The indices below `n` of the entries of an array whose one-bit field is set in a copy. -/
def Dev.listed (s : Dev) (F : Fld) (set n : Nat) : List Nat :=
  (s.regsOf F.blk).filterMap fun (k, v) =>
    let off := k / 64 % 0x20000
    if k % 64 = F.lo ∧ k / 64 / 0x20000 = set ∧ F.off ≤ off ∧ (off - F.off) % F.s1 = 0 ∧ (off - F.off) / F.s1 < n ∧ v ≠ 0 then
      some ((off - F.off) / F.s1) else none

/-- The enabled `OUT_MAP` entries of a set (R77). -/
def Dev.outEntries (s : Dev) (set : Nat) : List Nat := s.listed F.LOOM_OUT_MAP_EN set 2048

/-- Whether an enabled entry sends to a destination for an arm (R77, R78). -/
def Dev.mapped (s : Dev) (set dst a : Nat) : Bool :=
  (s.outEntries set).any fun o => decide (s.fs set F.LOOM_OUT_MAP_DST o = dst) && decide (s.fs set F.LOOM_OUT_MAP_SEL o = a)

/-- How an arm that has a valid cell is commanded (R163, R470). -/
def Dev.armKind (s : Dev) (set a : Nat) : ArmKind :=
  if s.fi F.TRUNK_CARRIER_CPER a ≠ 0 then .carrier else if s.mapped set 1 a then .selection else .passive

/-- The cycle near the present one whose low 32 bits are `c`. -/
def Dev.cycNear (s : Dev) (c : Nat) : Nat := ((s.glob.nextCyc : Int) + sgn 32 (wrap 32 ((c : Int) - (s.glob.nextCyc : Int)))).toNat

/-! ## Positions in force (R141, R163, R166) -/

/-- POS_CMD takes a code; a change of it counts in SW_CNT (R153). -/
def SpCell.setPos (c : SpCell) (code : Nat) : SpCell :=
  { c with posCmd := code, sw := if c.posCmd = code then c.sw else min 255 (c.sw + 1) }

/-- The cell starts from its last reported position, in force at time `t`: OUT where its gates are held off (R163, R166). -/
def SpCell.follow (c : SpCell) (t : Nat) : SpCell :=
  let code := if c.tpos = 3 then 0 else c.tpos
  { c.setPos code with pend := (t, code) :: c.pend.filter fun e => decide (t < e.1) }

/-- The position that the commands of a cell give at a station time in ns. -/
def SpCell.cmdAt (c : SpCell) (t : Nat) : Nat := c.pend.foldl (fun a (e : Nat × Nat) => if e.1 ≤ t then e.2 else a) 0

/-- Forget commanded positions that a later one has replaced. -/
def SpCell.prune (c : SpCell) (t : Nat) : SpCell :=
  let past := c.pend.filter fun e => decide (e.1 ≤ t)
  { c with pend := (past.drop (past.length - 1)) ++ c.pend.filter fun e => decide (t < e.1) }

/-- The place of an arm's list for cycle n: those of the last four cycles are kept. -/
def mlistKey (a n : Nat) : Nat := 4 * a + n % 4

/-- The active unit's list for an arm is missing at boundary n (R166, R294): the one of cycle n − 2, whose assembly has ended by then, has
not come, or was omitted (log entry 40). -/
def Dev.listMissing (s : Dev) (a n : Nat) : Bool :=
  match Tab.find s.pair.mlist (mlistKey a (n - 2)) with
  | some m => m.list.isNone || decide (m.cyc + 2 ≠ n)
  | none => true

/-- Positions of an arm come from its cells' reports (R163, R166, R470). -/
def Dev.posByTlm (s : Dev) (set a n : Nat) : Bool :=
  decide (s.armKind set a ≠ .selection) || (!s.unitActive && s.listMissing a n)

/-- The position in force at a boundary (R141). -/
def SpCell.posAt (c : SpCell) (byTlm : Bool) (t : Nat) : Nat := if c.held then 3 else if byTlm then c.tpos else c.cmdAt t

/-- The charging factor of a position (R141). -/
def chargeFactor (full : Bool) (code : Nat) (i : Int) : Int :=
  match code with
  | 1 => 1
  | 2 => -1
  | 3 => if 0 < i then 1 else if full && decide (i < 0) then -1 else 0
  | _ => 0

/-! ## Arm current (R142) -/

/-- i of a sample word, `last` being the last valid sample of the channel: its value, and whether it counts as bad. -/
def Dev.armCurrent (s : Dev) (set a w : Nat) (last : Int) : Int × Bool :=
  let raw := if wValid w then wData w else last
  let i := if s.fs set F.SPINDLE_ARM_CFG_INEG a = 1 then (if raw = -0x8000 then Config.negCode else -raw) else raw
  (i, !wValid w || wOvr w)

/-! ## Reports (R144) -/

/-- A record of a cell arrives: R220 takes it into use. -/
def Dev.spReport (s : Dev) (g k v st pos : Nat) : Dev :=
  let c := s.spCell g
  if c.st = 0 then s else s.setSpCell g { c with reps := (c.reps ++ [{ k := k, v := v, st := st, pos := pos, fresh := true }]) }

/-- A report whose cell holds its gates off: WAKING, READY, BLOCKED or FAULT (R141, R156, R218). -/
def repHeld (st : Nat) : Bool := decide (st = 0) || decide (st = 1) || decide (st = 3) || decide (st = 5)

/-! ## Capacitance (R147, R148) -/

/-- CLOW, and cause CAP: set with CLOW where CAP_EXCL = 1, cleared when CLOW clears (R148, R156). -/
def Dev.capLevel (s : Dev) (set a : Nat) (c : SpCell) : Dev × SpCell :=
  let low := decide (s.fs set F.SPINDLE_CAP_LIM_RC_LIM ≤ c.rc / 2 ^ 16)
  let s := s.iff (low && !c.clow) fun s => s.raise F.SPINDLE_ARM_STAT_CAP_SEEN a
  let excl := decide (s.fs set F.SPINDLE_CAP_CFG_CAP_EXCL = 1)
  (s, { c with clow := low, cause := putBit c.cause 5 (low && (excl || bitOf c.cause 5)) })

/-- The ratio of a window, where it is accepted (R147). -/
def capRatio (capMin : Nat) (r0 r1 : Option Nat) (A : Int) : Option Int :=
  match r0, r1 with
  | some v0, some v1 =>
    let dR := ((v1 : Int) - (v0 : Int)) * 2 ^ 16
    if (capMin : Int) * 2 ^ 16 ≤ (A.natAbs : Int) ∧ A ≠ 0 ∧ ((0 < A ∧ 0 < dR) ∨ (A < 0 ∧ dR < 0)) then
      let ratio := roundQuot true (dR * 2 ^ 30) A
      if 0x20000000 ≤ ratio ∧ ratio ≤ 0x7FFFFFFF then some ratio else none
    else none
  | _, _ => none

/-- A window that has ended is judged (R147, R148). -/
def Dev.capJudge (s : Dev) (set a g : Nat) : Dev :=
  let c := s.spCell g
  match c.capDue with
  | none => s
  | some (r0, A, r1) =>
    let c := { c with capDue := none }
    match capRatio (s.fs set F.SPINDLE_CAP_CFG_CAP_MIN) r0 r1 A with
    | some ratio =>
      let rc := (c.rc : Int) + roundDiv true ((ratio - (c.rc : Int)) * (s.fs set F.SPINDLE_CAP_CFG_CAP_GAIN : Int)) (2 ^ 16)
      let r := s.capLevel set a { c with rc := satU 32 rc }
      r.1.setSpCell g r.2
    | none => (s.inc F.SPINDLE_ARM_AGE_CAP_SKIP 1 a).setSpCell g c

/-! ## Cell states (R156 to R161) -/

def spPending : Nat := 1
def spAvailable : Nat := 2
def spExcluded : Nat := 3
def spProbation : Nat := 4
def spLocked : Nat := 5
def spClosing : Nat := 6
def spBypassed : Nat := 7

def cID : Nat := 0
def cPATH : Nat := 1
def cSTALE : Nat := 2
def cCFAULT : Nat := 3
def cDRIFT : Nat := 4
def cCAP : Nat := 5
def cHOST : Nat := 6
def cCLOSE : Nat := 7

/-- What an update found of a cell, for the table of R160. -/
structure SpEv where
  /-- A report shows BYPASSED. -/
  byp   : Bool
  /-- STRIKES has reached STRIKE_MAX in this update. -/
  struck : Bool
  /-- PATH or STALE has just cleared. -/
  cleared : Bool
  /-- The first usable report of a PENDING cell with PATH clear (R146). -/
  seeded : Bool
  /-- R158 readmits. -/
  readmit : Bool
deriving DecidableEq, Repr

def SpEv.none : SpEv := { byp := false, struck := false, cleared := false, seeded := false, readmit := false }

/-- A bypass-switch request is made at station time `t` (R160). -/
def SpCell.request (c : SpCell) (t : Nat) : SpCell :=
  { c with st := spClosing, cause := putBit c.cause cCLOSE true, closeReq := some t, closeN := 0, closeT := 0 }

/-- The table of R160: the first row that matches. `lock`: BYP_ON_LOCK; `hold`: READMIT_HOLD; `b`: the boundary of the update; `t`: its
station time in ns. The second component tells that CLOSE_FAIL is set. -/
def SpCell.table (c : SpCell) (e : SpEv) (lock : Bool) (hold b t : Nat) : SpCell × Bool :=
  if c.st = 0 ∨ c.st = spBypassed then (c, false)
  else if e.byp then
    ({ c with st := spBypassed, cause := putBit c.cause cCLOSE true, closeReq := none }, false)
  else if c.st = spClosing then
    if c.closeT = 16 then
      if c.closeN < 3 then ({ c with closeReq := some t, closeN := c.closeN + 1, closeT := 0 }, false)
      else ({ c with closeT := 17 }, true)
    else (c, false)
  else if c.close || (e.struck && lock) then (c.request t, false)
  else if e.struck && decide (c.st ≠ spLocked) then ({ c with st := spLocked }, false)
  else if c.st = spLocked then
    if c.unlock then ({ c with st := spPending, strikes := 0, cause := putBit c.cause cDRIFT false }, false) else (c, false)
  else if (c.st = spAvailable ∨ c.st = spProbation) ∧ c.cause ≠ 0 then ({ c with st := spExcluded, good := 0, availN := 0 }, false)
  else if c.st = spExcluded ∧ c.cause = 0 ∧ e.cleared then ({ c with st := spPending }, false)
  else if c.st = spExcluded ∧ c.cause = 2 ^ cDRIFT ∧ c.drift + hold ≤ b then
    ({ c with st := spProbation, cause := 0 }, false)
  else if c.st = spExcluded ∧ c.cause = 0 then ({ c with st := spProbation, good := 0 }, false)
  else if c.st = spPending ∧ e.seeded then ({ c with st := spProbation, cause := putBit c.cause cDRIFT false }, false)
  else if c.st = spProbation ∧ e.readmit then ({ c with st := spAvailable, bad := 0, availN := 0 }, false)
  else (c, false)

/-- A host op that can no longer apply is discarded (R161). -/
def SpCell.discard (c : SpCell) : SpCell :=
  { c with close := c.close && !(decide (c.st = 0) || decide (c.st = spBypassed) || decide (c.st = spClosing)),
           unlock := c.unlock && decide (c.st = spLocked) }

/-- The table applied to a cell of the device. -/
def Dev.spTable (s : Dev) (set a g b : Nat) (c : SpCell) (e : SpEv) : Dev :=
  let r := c.table e (s.flag F.SPINDLE_CTL_BYP_ON_LOCK) (s.fs set F.SPINDLE_HOLD_READMIT_HOLD) b s.now
  (s.iff r.2 fun s => s.raise F.SPINDLE_ARM_STAT_CLOSE_FAIL a).setSpCell g r.1.discard

/-- A strike (R157 to R159): STRIKES after it, and whether it has reached STRIKE_MAX. -/
def Dev.strike (s : Dev) (set n : Nat) : Nat × Bool :=
  let n := min 255 (n + 1)
  let m := s.fs set F.SPINDLE_EXCL_CNT_STRIKE_MAX
  (n, decide (m ≠ 0) && decide (m ≤ n))

/-! ## The update (R143) -/

/-- Estimates bounded to 32 bits, and whether the bound changed them (R143). -/
def bound32 (x : Int) : Nat × Bool := (satU 32 x, decide (x < 0) || decide (2 ^ 32 - 1 < x))

/-- ΔE or ΔD (R143). -/
def chargeStep (i : Int) (s : Int) (karm rc : Nat) : Int := roundDiv true (i * s * (karm : Int) * (rc : Int)) (2 ^ 38)

/-- The values of an update that are common to the cells of an arm: set, arm, cycle n, L, i(n) and i(n − L), and whether positions
come from reports. -/
structure UpdCtx where
  set : Nat
  arm : Nat
  n   : Nat
  lag : Nat
  i   : Int
  iL  : Int
  byTlm : Bool
deriving DecidableEq, Repr

/-- What R27 and the lanes tell of a cell: causes ID and PATH (R156). -/
def Dev.pathCause (s : Dev) (g : Nat) (cause : Nat) : Nat :=
  match s.idState g with
  | .ok => putBit cause cPATH false
  | .mismatch => putBit (putBit cause cPATH false) cID true
  | .unknown => putBit cause cPATH true

/-- The words of a record are read (R164): those with a single error are corrected; with an uncorrectable one the cell is PENDING. -/
def Dev.spEcc (s : Dev) (g : Nat) : Dev :=
  let c := s.spCell g
  let ce := (c.ecc.filter fun e => decide (e.2 = 1)).length
  let ue := (c.ecc.filter fun e => decide (e.2 = 2)).length
  if c.st = 0 then s
  else
    let s := s.iff (decide (ce ≠ 0)) fun s => s.inc F.SPINDLE_ECC_STAT_CE_CNT ce
    if ue = 0 then s.setSpCell g { c with ecc := [] }
    else
      let s := (s.inc F.SPINDLE_ECC_STAT_UE_CNT ue).setSpCell g { c with ecc := [], st := spPending }
      { s with pair := { s.pair with cycEvt := putBit s.pair.cycEvt 0 true } }

/-- Host ops EXCLUDE and RELEASE (R161). -/
def SpCell.hostCause (c : SpCell) : SpCell :=
  match c.hostOp with
  | some b => { c with cause := putBit c.cause cHOST b, hostOp := none }
  | none => c

/-- The reports that the update of boundary b takes: the late ones and the usable one (R144). -/
def SpCell.late (c : SpCell) (b lag : Nat) : List SpRep := c.reps.filter fun r => decide (r.k + lag < b)
def SpCell.usable (c : SpCell) (b lag : Nat) : Option SpRep :=
  if c.st = spBypassed then none else c.reps.find? fun r => decide (r.k + lag = b)

/-- Ages and late reports of a cell (R144). -/
def Dev.spAges (s : Dev) (u : UpdCtx) (c : SpCell) : Dev :=
  let s := s.each (c.reps.filter SpRep.fresh) fun s r =>
    s.top F.SPINDLE_ARM_AGE_AGE_MAX (min 255 (u.n - r.k)) u.arm
  let m := (c.late (u.n + 1) u.lag).length
  s.iff (decide (0 < m)) fun s => (s.inc F.SPINDLE_ARM_MISC_LATE_CNT m u.arm).raise F.SPINDLE_ARM_STAT_LATE_REP u.arm

/-- What the reports taken say of the cell's state (R141, R144, R156). -/
def SpCell.takeStates (c : SpCell) (b lag : Nat) : SpCell :=
  let late := c.late b lag
  let c := late.foldl (fun c r => { c with held := repHeld r.st, cause := if repHeld r.st then putBit c.cause cCFAULT true else c.cause }) c
  let c := match c.usable b lag with
    | some r => { c with held := repHeld r.st, tpos := r.pos, vrep := r.v, seq := r.k % 256,
                         cause := if repHeld r.st then putBit c.cause cCFAULT true else if r.st = 2 then putBit c.cause cCFAULT false else c.cause }
    | none => c
  { c with reps := (c.reps.filter fun r => decide (b < r.k + lag)).map fun r => { r with fresh := false } }

/-- Steps 1 to 3 of R143 and the window of R147: the record, whether a bound changed an estimate, and e where a report corrected. -/
def Dev.spIntegrate (s : Dev) (u : UpdCtx) (full : Bool) (c : SpCell) (rep : Option SpRep) : SpCell × Bool × Option Int :=
  let b := u.n + 1
  let karm := s.fs u.set F.SPINDLE_ARM_K_KARM u.arm
  let rc := if s.fs u.set F.SPINDLE_CAP_CFG_CAP_EN = 1 then c.rc / 2 ^ 16 else 0x4000
  let sL := chargeFactor full (bits c.hist (2 * u.lag) 2) u.iL
  let vE := bound32 (((if u.n % 2 = 0 then c.v0 else c.v1 : Nat) : Int) + chargeStep u.i (chargeFactor full (bits c.hist 0 2) u.i) karm rc)
  let vD := bound32 ((c.vd : Int) + chargeStep u.iL sL karm rc)
  let w := 2 ^ s.fs u.set F.SPINDLE_CAP_CFG_CAP_WIN
  let edge := b - u.lag
  let A := c.capA + roundDiv true (u.iL * sL * (karm : Int)) (2 ^ 24)
  let seed := decide (c.st = spPending) && !bitOf c.cause cPATH
  let c := if u.lag ≤ b ∧ edge % w = 0 then
      let r0 := match c.capR with | some (k, v) => if k + w = edge then some v else none | none => none
      { c with capDue := some (r0, A, rep.map SpRep.v), capR := rep.map fun r => (edge, r.v), capA := 0 }
    else { c with capA := A }
  let put := fun (c : SpCell) (v : Nat) => if b % 2 = 0 then { c with v0 := v } else { c with v1 := v }
  match rep with
  | none => ({ put c vE.1 with vd := vD.1 }, vE.2 || vD.2, none)
  | some r =>
    if seed then ({ put c (r.v * 2 ^ 16) with vd := r.v * 2 ^ 16 }, vE.2 || vD.2, none)
    else
      let e : Int := (r.v * 2 ^ 16 : Nat) - (vD.1 : Int)
      let drift := decide (c.st = spAvailable) && decide (s.fs u.set F.SPINDLE_EXCL_ERR_EXCL_ERR * 2 ^ 16 < e.natAbs) &&
        decide (s.fs u.set F.SPINDLE_EXCL_CNT_EXCL_CNT ≤ c.bad + 1)
      let k := if drift then 2 ^ 16 else s.fs u.set F.SPINDLE_EST_CFG_KCORR
      let d := roundDiv true (e * (k : Int)) (2 ^ 16)
      let e2 := bound32 ((vE.1 : Int) + d)
      let d2 := bound32 ((vD.1 : Int) + d)
      ({ put c e2.1 with vd := d2.1, innov := if outside32 e then Config.innov e else e }, vE.2 || vD.2 || e2.2 || d2.2, some e)

/-- Step 4: the counters of R157 and R158 for a usable report with innovation e: the record, and whether a strike fell. -/
def Dev.spCount (s : Dev) (u : UpdCtx) (c : SpCell) (e : Int) : SpCell × Bool :=
  let excl := s.fs u.set F.SPINDLE_EXCL_ERR_EXCL_ERR * 2 ^ 16
  if c.st = spAvailable then
    if excl < e.natAbs then
      let n := min 255 (c.bad + 1)
      if s.fs u.set F.SPINDLE_EXCL_CNT_EXCL_CNT ≤ n then
        ({ c with bad := n, cause := putBit c.cause cDRIFT true, drift := u.n + 1 }, true) else ({ c with bad := n }, false)
    else ({ c with bad := 0 }, false)
  else if c.st = spProbation then
    if e.natAbs ≤ s.fs u.set F.SPINDLE_EXCL_ERR_READMIT_ERR * 2 ^ 16 then ({ c with good := min 255 (c.good + 1) }, false)
    else if excl < e.natAbs then ({ c with cause := putBit c.cause cDRIFT true, drift := u.n + 1 }, true)
    else ({ c with good := 0 }, false)
  else (c, false)

/-- A cycle spent in AVAILABLE (R159). -/
def SpCell.decay (c : SpCell) (per : Nat) : SpCell :=
  if c.st ≠ spAvailable then { c with availN := 0 }
  else if per ≤ c.availN + 1 then { c with availN := 0, strikes := c.strikes - 1 } else { c with availN := c.availN + 1 }

/-- The update of one cell (R141, R143 to R148, R156 to R161). A position that comes from reports is that of sample cycle n − L, which the
update before took (R166). -/
def Dev.spCellUpdate (s : Dev) (u : UpdCtx) (g : Nat) : Dev :=
  let s := (s.spEcc g).capJudge u.set u.arm g
  let c := s.spCell g
  let b := u.n + 1
  if c.st = 0 then s
  else
    let s := s.spAges u c
    let rep := c.usable b u.lag
    let byp := (c.late b u.lag ++ rep.toList).any fun r => decide (r.st = 4)
    let was := c.cause
    let tpos := c.tpos
    let c := (c.takeStates b u.lag).hostCause
    let c := if !s.unitActive && u.byTlm then c.follow (s.bnd u.n) else c
    let c := { c.prune (s.bnd u.n) with hist := (c.hist * 4 + ({ c with tpos := tpos } : SpCell).posAt u.byTlm (s.bnd u.n)) % 2 ^ 32 }
    let c := { c with cause := s.pathCause g c.cause }
    if c.st = spBypassed then s.setSpCell g { c with reps := [] }
    else
      let seeded := decide (c.st = spPending) && !bitOf c.cause cPATH && rep.isSome
      let r := s.spIntegrate u (s.cFull u.set g) c rep
      let s := s.iff r.2.1 fun s => s.raise F.SPINDLE_ARM_STAT_EST_SAT u.arm
      let c := r.1
      let age := if rep.isSome then 0 else min 255 (c.age + 1)
      let stale := if rep.isSome then false else bitOf c.cause cSTALE || decide (s.fs u.set F.SPINDLE_EST_CFG_STALE_LIM ≤ age)
      let c := { c with age := age, cause := putBit c.cause cSTALE stale, closeT := if c.closeT < 16 then c.closeT + 1 else c.closeT }
      let cnt := match r.2.2 with | some e => s.spCount u c e | none => (c, false)
      let lv := s.capLevel u.set u.arm cnt.1
      let s := lv.1
      let c := lv.2
      let st := if cnt.2 then s.strike u.set c.strikes else (c.strikes, false)
      let c := { c with strikes := st.1 }
      let e : SpEv :=
        { byp := byp, struck := st.2, cleared := (bitOf was cPATH && !bitOf c.cause cPATH) || (bitOf was cSTALE && !bitOf c.cause cSTALE),
          seeded := seeded,
          readmit := decide (c.st = spProbation) && r.2.2.isSome && decide (s.fs u.set F.SPINDLE_EXCL_CNT_READMIT_CNT ≤ c.good) }
      s.spTable u.set u.arm g b (c.decay (2 ^ (s.fs u.set F.SPINDLE_EXCL_CNT_STRIKE_DECAY + 10))) e

/-! ## Aggregates (R149) -/

/-- The sum of a function over a list. -/
def sumNat {α : Type} (l : List α) (f : α → Nat) : Nat := l.foldl (fun a x => a + f x) 0

/-- V_est of boundary n (R150). -/
def SpCell.vAt (c : SpCell) (n : Nat) : Nat := if n % 2 = 0 then c.v0 else c.v1

/-- A cell in EXCLUDED, PROBATION, LOCKED or CLOSING. -/
def SpCell.outside (c : SpCell) : Bool :=
  decide (c.st = spExcluded) || decide (c.st = spProbation) || decide (c.st = spLocked) || decide (c.st = spClosing)

/-- AVAIL and ANY_EXCL follow the cell states (R167). -/
def Dev.spCounts (s : Dev) (set a : Nat) : Dev :=
  let l := (s.armCells set a).map s.spCell
  (s.put F.SPINDLE_ARM_CNT_AVAIL (l.filter fun c => decide (c.st = spAvailable)).length a).put F.SPINDLE_ARM_STAT_ANY_EXCL
    (b2n (l.any SpCell.outside)) a

/-- Items 0 to 7 of an arm at boundary n. -/
def Dev.spItems (s : Dev) (set a n : Nat) : List Nat :=
  let l := (s.armCells set a).map s.spCell
  let byTlm := s.posByTlm set a n
  let live := l.filter fun c => decide (c.st ≠ 0) && decide (c.st ≠ spBypassed)
  let av := (l.filter fun c => decide (c.st = spAvailable)).map fun c => c.vAt n
  let pos := fun (c : SpCell) => c.posAt byTlm (s.bnd n)
  let inP := live.filter fun c => decide (pos c = 1)
  let inN := live.filter fun c => decide (pos c = 2)
  [ sumNat live (fun c => c.vAt n) / 2 ^ 12,
    match av with | [] => 0x7FFFFFFF | v :: vs => vs.foldl min v / 2 ^ 4,
    av.foldl max 0 / 2 ^ 4,
    av.length,
    (sumNat inP (fun c => c.vAt n) + sumNat inN (fun c => c.vAt n)) / 2 ^ 12,
    wrap 32 ((inP.length : Int) - (inN.length : Int)),
    (l.filter SpCell.outside).length,
    s.word F.regSpindleArmStat 0 a 0 % 256 ]

/-- The aggregates of boundary n are latched (R149). -/
def Dev.spLatch (s : Dev) (set a n : Nat) : Dev := s.setSpArm a { s.spArm a with items := s.spItems set a n, itemsAt := n + 1 }

/-! ## UPD(n + 1) of an arm (R143, R150) -/

/-- The cycle whose sample the next update takes, and where it has arrived the sample word and the channel's last valid sample (R142,
R150). -/
def Dev.spNext (s : Dev) (a : Nat) : Option (Nat × Nat × Int) :=
  let x := s.spArm a
  match x.heldW with
  | some p => some p
  | none =>
    let n := s.glob.nextCyc - 1
    let ch := s.adcCh (s.fs (s.cycSet n) F.SPINDLE_ARM_CFG_ICH a)
    if s.glob.nextCyc ≠ 0 ∧ x.upd < n + 1 ∧ ch.bndT = s.bnd n then some (n, ch.bndW, ch.bndOk) else none

/-- Written record words enter the record at the start of an update of its arm (R167). -/
def Dev.spRecWrite (s : Dev) (a : Nat) : Dev :=
  match s.spin.recPend with
  | none => s
  | some g =>
    let c := s.spCell g
    if c.st ≠ 0 ∧ s.cArm s.actSet g ≠ a then s
    else
      let s := ({ s with spin := { s.spin with recPend := none } }).put F.SPINDLE_REC_IDX_BUSY 0
      if c.st = 0 then s
      else
        let v := s.f F.SPINDLE_REC0_V_EST
        s.setSpCell g { c with v0 := v, v1 := v, vd := s.f F.SPINDLE_REC1_V_DLY, rc := s.f F.SPINDLE_REC3_RC_FINE }

/-- The work of an arm for a cycle. -/
def Dev.armWork (s : Dev) (n a : Nat) : Option ArmWork :=
  match s.glob.cycles.find? fun c => decide (c.n = n) with
  | some c => c.arms.find? fun w => decide (w.arm = a)
  | none => none

/-- The selection of an arm for a cycle is still to end (R150). -/
def Dev.selectionDue (s : Dev) (n a : Nat) : Bool :=
  match s.armWork n a with
  | some w => decide (w.kind = .selection) && w.fin.isNone && !w.aband &&
      !(match (s.spArm a).sel with | some (k, _) => decide (k = n) | none => false)
  | none => false

/-- ⌈x / d⌉. -/
def ceilDiv (x d : Nat) : Nat := (x + d - 1) / d

/-- UPD(n + 1) of an arm, n being the cycle whose sample it takes: it starts once the sample has arrived and the selection of cycle
n − 1 has ended (R150). -/
def Dev.spUpdate (s : Dev) (a : Nat) : Dev :=
  if s.role ≠ .manager ∨ ¬ s.flag F.SPINDLE_CTL_EN ∨ 12 ≤ a then s
  else
    match s.spNext a with
    | none => s
    | some (n, w, last) =>
      let set := s.cycSet n
      let cells := s.armCells set a
      if cells = [] ∨ (0 < n ∧ s.selectionDue (n - 1) a) then s
      else
        let s := (s.advanceTo (s.bnd n + 80)).spRecWrite a
        let cur := s.armCurrent set a w last
        let x := s.spArm a
        let h := (cur.1 :: x.cur).take 16
        let s := s.iff cur.2 fun s => s.raise F.SPINDLE_ARM_STAT_ISRC_BAD a
        let lag := s.fs set F.SPINDLE_ARM_CFG_LAG a
        let byTlm := s.posByTlm set a n
        let s := s.iff byTlm fun s => s.raise F.SPINDLE_ARM_STAT_POS_FROM_TLM a
        let u : UpdCtx := { set := set, arm := a, n := n, lag := lag, i := cur.1, iL := h.getD lag 0, byTlm := byTlm }
        let s := s.each cells fun s g => s.spCellUpdate u g
        let t := 16 + ceilDiv cells.length 8
        let s := s.setSpArm a { s.spArm a with cur := h, heldW := none, upd := n + 1, updEnd := s.now + t }
        let s := (s.put F.SPINDLE_ARM_TIME_UPD t a).spCounts set a
        if n + 1 < s.glob.nextCyc then s.spLatch (s.cycSet (n + 1)) a (n + 1) else s

/-! ## Events that an update evaluates, as steps of their own (R145, R157 to R160): what an update has already done stays done -/

/-- A cell whose AGE has reached STALE_LIM takes cause STALE (R145). -/
def Dev.spStale (s : Dev) (g : Nat) : Dev :=
  let c := s.spCell g
  if c.st = 0 ∨ c.st = spBypassed ∨ c.age < s.fa F.SPINDLE_EST_CFG_STALE_LIM then s
  else s.setSpCell g { c with cause := putBit c.cause cSTALE true }

/-- A cell whose BAD_CNT has reached EXCL_CNT takes cause DRIFT and a strike (R157), and the table of R160 is evaluated. -/
def Dev.spDrift (s : Dev) (g : Nat) : Dev :=
  let c := s.spCell g
  let set := s.actSet
  let a := s.cArm set g
  if c.st ≠ spAvailable ∨ bitOf c.cause cDRIFT ∨ c.bad < s.fs set F.SPINDLE_EXCL_CNT_EXCL_CNT then s
  else
    let st := s.strike set c.strikes
    let b := (s.spArm a).upd
    s.spTable set a g b { c with cause := putBit c.cause cDRIFT true, drift := b, strikes := st.1 } { SpEv.none with struck := st.2 }

/-- A cell whose GOOD_CNT has reached READMIT_CNT becomes AVAILABLE (R158) where no earlier row of R160 applies. -/
def Dev.spReadmit (s : Dev) (g : Nat) : Dev :=
  let c := s.spCell g
  let set := s.actSet
  let a := s.cArm set g
  if c.st ≠ spProbation ∨ c.good < s.fs set F.SPINDLE_EXCL_CNT_READMIT_CNT then s
  else s.spTable set a g (s.spArm a).upd c { SpEv.none with readmit := true }

/-- A cell whose STRIKES have reached STRIKE_MAX moves to LOCKED, or to CLOSING with BYP_ON_LOCK (R159, R160). -/
def Dev.spLock (s : Dev) (g : Nat) : Dev :=
  let c := s.spCell g
  let set := s.actSet
  let a := s.cArm set g
  let m := s.fs set F.SPINDLE_EXCL_CNT_STRIKE_MAX
  if m = 0 ∨ c.strikes < m ∨ c.st = spLocked then s else s.spTable set a g (s.spArm a).upd c { SpEv.none with struck := true }

/-- The decay period has passed in AVAILABLE (R159). -/
def Dev.spDecay (s : Dev) (g : Nat) : Dev :=
  let c := s.spCell g
  let per := 2 ^ (s.fa F.SPINDLE_EXCL_CNT_STRIKE_DECAY + 10)
  if c.st ≠ spAvailable ∨ c.availN < per then s else s.setSpCell g { c with availN := c.availN - per, strikes := c.strikes - 1 }

/-- READMIT_HOLD cycles have passed since DRIFT was set (R160). -/
def Dev.spHoldEnd (s : Dev) (g : Nat) : Dev :=
  let c := s.spCell g
  let set := s.actSet
  let a := s.cArm set g
  if c.st ≠ spExcluded ∨ c.cause ≠ 2 ^ cDRIFT ∨ s.glob.nextCyc < c.drift + s.fs set F.SPINDLE_HOLD_READMIT_HOLD then s
  else s.spTable set a g s.glob.nextCyc c SpEv.none

/-- 16 updates without a BYPASSED report since the last request (R160). -/
def Dev.spCloseRepeat (s : Dev) (g : Nat) : Dev :=
  let c := s.spCell g
  let set := s.actSet
  let a := s.cArm set g
  if c.st ≠ spClosing ∨ c.closeT ≠ 16 then s else s.spTable set a g (s.spArm a).upd c SpEv.none

/-- SW_CNT of the cells of an arm clears at a boundary of a cycle whose number is a multiple of 2^RATE_WIN (R153). -/
def Dev.spRateWindow (s : Dev) (a : Nat) : Dev :=
  let n := s.glob.nextCyc - 1
  let set := s.cycSet n
  if s.glob.nextCyc = 0 ∨ n % 2 ^ s.fs set F.SPINDLE_ARM_RATE_RATE_WIN a ≠ 0 then s
  else s.each (s.armCells set a) fun s g => s.setSpCell g { s.spCell g with sw := 0 }

/-- The capacitance windows of an arm that have ended are judged (R147). -/
def Dev.spCapWindow (s : Dev) (a : Nat) : Dev :=
  s.each (s.armCells s.actSet a) fun s g => s.capJudge s.actSet a g

/-! ## Selection (R150 to R155) -/

/-- A cell as selection sees it: global number, position, V_est, whether it is rate-limited, POS_CMD, and whether it is eligible. -/
structure SelCell where
  g    : Nat
  pos  : Nat
  v    : Nat
  lim  : Bool
  code : Nat
  elig : Bool
deriving DecidableEq, Repr

/-- `x` ranks before `y`: not rate-limited first, then V_est ascending (`up`) or descending, then position ascending (R154). -/
def SelCell.before (up : Bool) (x y : SelCell) : Bool :=
  if x.lim ≠ y.lim then y.lim
  else if x.v ≠ y.v then (if up then decide (x.v < y.v) else decide (y.v < x.v))
  else decide (x.pos < y.pos)

/-- The first cell of a ranking. -/
def firstOf (up : Bool) : List SelCell → Option SelCell
  | [] => none
  | x :: l => match firstOf up l with
    | some y => if y.before up x then some y else some x
    | none => some x

/-- The first `n` cells of a ranking. -/
def takeBest (up : Bool) : Nat → List SelCell → List SelCell
  | 0, _ => []
  | n + 1, l => match firstOf up l with
    | none => []
    | some x => x :: takeBest up n (l.filter fun y => decide (y.g ≠ x.g))

/-- Commands as cell and code of R141, and the cells they leave. -/
def isIn (code : Nat) : Bool := decide (code = 1) || decide (code = 2)

/-- Band swaps (R154): at most `n`, each of the first cells of both rankings that are not rate-limited and not commanded. -/
def bandSwaps (charging : Bool) (band sig : Nat) : Nat → List SelCell → List (Nat × Nat) → List (Nat × Nat) × Nat
  | 0, _, cmds => (cmds, 0)
  | n + 1, l, cmds =>
    let free := l.filter fun c => c.elig && !c.lim && !(cmds.any fun d => decide (d.1 = c.g))
    match firstOf charging (free.filter fun c => !isIn c.code), firstOf (!charging) (free.filter fun c => isIn c.code) with
    | some x, some y =>
      let gap : Int := if charging then (y.v : Int) - (x.v : Int) else (x.v : Int) - (y.v : Int)
      if gap ≤ (band : Int) then (cmds, 0)
      else
        let r := bandSwaps charging band sig n l (cmds ++ [(x.g, sig), (y.g, 0)])
        (r.1, r.2 + 1)
    | _, _ => (cmds, 0)

/-- The selection of R154: cells, count in force, polarity code, SWAP_MAX and band give the commands and the number of swaps. -/
def selectCells (l : List SelCell) (charging : Bool) (n sig swapMax band : Nat) : List (Nat × Nat) × Nat :=
  let forced := (l.filter fun c => decide (c.code ≠ 0) && !c.elig).map fun c => (c.g, 0)
  let el := l.filter SelCell.elig
  let inn := el.filter fun c => isIn c.code
  let out := el.filter fun c => !isIn c.code
  let k := inn.length
  let cnt := if k < n then (takeBest charging (n - k) out).map fun c => (c.g, sig)
    else (takeBest (!charging) (k - n) inn).map fun c => (c.g, 0)
  let r := bandSwaps charging band sig swapMax l (forced ++ cnt)
  let turn := (inn.filter fun c => decide (c.code ≠ sig) && !(r.1.any fun d => decide (d.1 = c.g))).map fun c => (c.g, sig)
  (r.1 ++ turn, r.2)

/-- The cell as the selection of an arm in cycle n sees it; σ is the code of IN (R151, R153). -/
def Dev.selCell (s : Dev) (set a n sig g : Nat) : SelCell :=
  let c := s.spCell g
  let m := s.fs set F.SPINDLE_ARM_RATE_RATE_MAX a
  { g := g, pos := s.cPos set g, v := c.vAt n, lim := decide (m ≠ 0) && decide (m ≤ c.sw), code := c.posCmd,
    elig := decide (c.st = spAvailable) && (decide (sig = 1) || s.cFull set g) }

/-- The work of an arm that Loom has handed over is complete for a selection (R78). -/
def Dev.workReady (s : Dev) (a : Nat) (w : SpWork) : Bool :=
  let set := s.cycSet w.cyc
  w.n.isSome && (w.pol.isSome || !s.mapped set 2 a)

/-- Selection of an arm for the oldest cycle handed over, once UPD of its boundary has ended (R150 to R155). -/
def Dev.spSelect (s : Dev) (a : Nat) : Dev :=
  let x := s.spArm a
  if ¬ s.unitActive ∨ ¬ s.flag F.SPINDLE_CTL_EN ∨ x.sel.isSome then s
  else
    match x.wk.find? (s.workReady a) with
    | none => s
    | some w =>
      let n := w.cyc
      let set := s.cycSet n
      if ¬ s.selectionDue n a ∨ (x.upd ≠ 0 ∧ x.upd < n) then s
      else
        let cells := s.armCells set a
        let dur := 64 + ceilDiv cells.length 4
        let s := s.advanceTo (max (max w.tm x.selEnd) (if x.upd = n then x.updEnd else 0) + dur)
        let sig := if w.pol.getD 0 % 2 = 1 then 2 else 1
        let l := cells.map (s.selCell set a n sig)
        let el := (l.filter SelCell.elig).length
        let want := sgn 32 (w.n.getD 0)
        let cnt := (clampI 0 (el : Int) want).toNat
        let s := s.iff (decide (want < 0) || decide ((el : Int) < want)) fun s => s.raise F.SPINDLE_ARM_STAT_N_LIMIT a
        let i := x.cur.getD (x.upd - n) 0
        let charging := if i.natAbs ≤ s.fs set F.SPINDLE_ARM_CFG_IDEAD a then s.flag F.SPINDLE_ARM_STAT_CHARGING a
          else decide (0 < (if sig = 2 then -i else i))
        let r := selectCells l charging cnt sig (s.fs set F.SPINDLE_ARM_CFG_SWAP_MAX a) (s.fs set F.SPINDLE_ARM_BAND_BAND a)
        let s := (s.put F.SPINDLE_ARM_STAT_CHARGING (b2n charging) a).inc F.SPINDLE_ARM_MISC_SWAPS r.2 a
        let s := (s.put F.SPINDLE_ARM_CNT_N_IN cnt a).put F.SPINDLE_ARM_TIME_SEL dur a
        s.setSpArm a { s.spArm a with sel := some (n, r.1), selEnd := s.now, wk := x.wk.filter fun v => decide (n < v.cyc) }

end Sys2Proof.Machine
end

