-- ==== Sys2Proof/Machine/Assembly.lean ====
section
/-! DEFINITION. Milestone assembly (R41, R43, R44, R48, R154, R162, R163, R470), the host ops of `SPINDLE.CELL_CMD` (R161, R162), the
standby unit's lists (R166, R293, R294), and what a swap and a block reset do to Spindle (R160, R165). -/

namespace Sys2Proof.Machine

/-! ## Pair exchange blocks (R292 to R294) -/

/-- The PAIR lanes in RUN. -/
def Dev.pairLanes (s : Dev) : List Nat := (List.range 48).filter fun L => s.isPair L && s.inRun L

/-- The lane that carries STATE, GRAFT and MAPDIG blocks: the lower PAIR lane in RUN (R294). -/
def Dev.pxLane (s : Dev) : Option Nat := s.pairLanes.head?

/-- A /PX/ block (R292). -/
def pxBytes (type cyc : Nat) (payload : List Byte) : List Byte :=
  withCrc (bytesOf 1 type ++ beBytes 2 payload.length ++ beBytes 4 cyc ++ payload)

/-- The payload length that a TYPE asks for (R292, R293): a list that is omitted has no entries. -/
def pxLenOk (type : Nat) (p : List Byte) : Bool :=
  match type with
  | 1 => decide (p.length = 56)
  | 2 => decide (p.length = 4 + 4 * fieldBE p 2 2 + 6 * field p 1 1)
  | 3 => decide (p.length = 9 + 2 * if fieldBE p 1 2 = 0xFFFF then 0 else fieldBE p 1 2)
  | 4 => decide (p.length = 32)
  | _ => false

/-- The CYCLE and the payload of a received /PX/ block (R292): none where its CRC fails, its TYPE is not `type`, or its LEN does not match
the TYPE. -/
def pxParts (type : Nat) (d : List Byte) : Option (Nat × List Byte) :=
  let b := crcBody d
  if crcOk d && decide (field b 0 1 = type) && decide (b.length = 7 + fieldBE b 1 2) && pxLenOk type (b.drop 7) then
    some (fieldBE b 3 4, b.drop 7) else none

/-- Send a /PX/ block on a lane: K28.2 is its second code group. -/
def Dev.pxSend (s : Dev) (L type cyc : Nat) (payload : List Byte) : Dev := s.send L 0x5C (pxBytes type cyc payload)

/-- The list of an arm for the standby unit (R293, R294): it goes on the higher PAIR lane where both are in RUN, if it fits in what
is left of that lane before the next boundary. Entries are OP and g. -/
def Dev.mlistSend (s : Dev) (a n exec : Nat) (l : List (Nat × Nat)) : Dev :=
  match s.pairLanes with
  | [_, L] =>
    let sym := symTenths L (s.ln F.LANE_LANE_STAT_RATE_IN L)
    let head := fun (k : Nat) => bytesOf 1 a ++ beBytes 2 k ++ beBytes 2 (s.f F.PAIR_STAT_GEN) ++ beBytes 4 exec
    let start := max (s.now * 10) s.pair.tk1
    let till := start + (13 + 9 + 2 * l.length) * sym
    if till ≤ s.bnd s.glob.nextCyc * 10 then
      ({ s with pair := { s.pair with tk1 := till } }).pxSend L 3 n (head l.length ++ l.flatMap fun (e : Nat × Nat) => beBytes 2 (e.1 * 2 ^ 13 + e.2))
    else
      let s := (s.raise F.PAIR_EVT_LIST_DROP).inc F.PAIR_CNT_DROPS 1
      ({ s with pair := { s.pair with tk1 := start + 22 * sym, cycEvt := putBit s.pair.cycEvt 8 true } }).pxSend L 3 n (head 0xFFFF)
  | _ => s

/-! ## Requests of `CELL_CMD` ops 0x5 to 0x8 (R162) -/

/-- A descriptor that is in progress finishes. -/
def Dev.finishAt (s : Dev) (r i : Nat) (st : Status) (ep : Nat) (payload : List Byte) : Dev :=
  match (s.sqOf r).act.find? fun d => decide (d.idx = i) && d.fin.isNone with
  | some d => s.finish r d st ep payload
  | none => s

/-- A `CELL_CMD` write completes: a direct BAR write that fails is captured (R162, R386). -/
def Dev.spReqDone (s : Dev) (q : SpReq) (st : Status) : Dev :=
  let s := s.iff (decide (st = .retired)) fun s => s.retired .spindle 1
  match q.desc, q.fn with
  | some (r, i), _ => s.finishAt r i st (s.epoch .spindle) []
  | none, some fn => s.iff (decide (st ≠ .ok)) fun s => s.mmioError st fn 0 0x90030 true
  | none, none => s.emit (.done 0x90030 q.op st)

/-- A cell's command has been placed: the writes that named it wait for one cell less. -/
def Dev.spPlaced (s : Dev) (g : Nat) : Dev :=
  let l := s.spin.reqs.map fun q => { q with cells := q.cells.filter fun h => decide (h ≠ g) }
  let s := { s with spin := { s.spin with reqs := l.filter fun q => decide (q.cells ≠ []) } }
  s.each (l.filter fun q => decide (q.cells = [])) fun s q => s.spReqDone q .ok

/-- Writes that name one of some cells complete with RETIRED and are forgotten; commands of other cells stay (R162). -/
def Dev.spReplaced (s : Dev) (cells : List Nat) : Dev :=
  let hit := fun (q : SpReq) => q.cells.any fun g => cells.contains g
  let l := s.spin.reqs.filter hit
  let s := { s with spin := { s.spin with reqs := s.spin.reqs.filter fun q => !hit q } }
  s.each l fun s q => s.spReqDone q .retired

/-- OP and PARAM of an op of R162. -/
def cellOp : Nat → Nat × Nat
  | 5 => (7, 3)
  | 6 => (7, 1)
  | 7 => (7, 2)
  | _ => (4, 0)

/-- A write of `CELL_CMD` with op 0x5 to 0x8 (R162): whether it is accepted, its status where it is not or names no cell. `desc` is the
ring and index of a REG_WR descriptor, `fn` the function of a direct BAR write. -/
def Dev.cellCmdSend (s : Dev) (op : Nat) (all : Bool) (g : Nat) (desc : Option (Nat × Nat)) (fn : Option Nat) : Option Status × Dev :=
  let set := s.actSet
  if ¬ all ∧ (6144 ≤ g ∨ (s.spCell g).st = 0 ∨ (s.spCell g).st = spBypassed) then (some .invalid, s)
  else if all ∧ 12 ≤ g then (some .invalid, s)
  else if ¬ s.unitActive ∨ ¬ s.flag F.SPINDLE_CTL_EN then (some .busy, s)
  else
    let cells := if all then (s.armCells set g).filter fun h => decide ((s.spCell h).st ≠ 0) && decide ((s.spCell h).st ≠ spBypassed) else [g]
    if cells = [] then (some .ok, s)
    else
      let s := s.spReplaced cells
      let s := s.each cells fun s h => s.setSpCell h { s.spCell h with op := some ((cellOp op).1, (cellOp op).2, s.now) }
      (none, { s with spin := { s.spin with reqs := s.spin.reqs ++ [{ cells := cells, op := op, desc := desc, fn := fn }] } })

/-- A write of `CELL_CMD` with op 0x1 to 0x4 (R156, R160, R161): it is applied at the next update that starts. -/
def Dev.cellCmdHost (s : Dev) (op g : Nat) : Acted :=
  let c := s.spCell g
  if 6144 ≤ g ∨ c.st = 0 then s.deny .invalid
  else
    let c := match op with
      | 1 => { c with hostOp := some true }
      | 2 => { c with hostOp := some false }
      | 3 => { c with unlock := true }
      | _ => { c with close := true }
    (.ok, s.setSpCell g c)

/-- BUSY of `REC_IDX` (R167): a write waits for an update, or a capture for the end of one. -/
def Dev.recBusy (s : Dev) : Bool := s.flag F.SPINDLE_REC_IDX_BUSY || decide (s.now < s.spin.recTill)

/-- A write of `SPINDLE.REC_IDX` (R167): with WR = 1 the written words wait for the next update of the cell's arm; with WR = 0 the
cell's record is captured as the update in progress leaves it, and shown once that has ended. While BUSY the write completes with BUSY (log
entry 94). -/
def Dev.recIdxWrite (s : Dev) (wr : Bool) (g : Nat) : Acted :=
  if s.recBusy then s.deny .busy
  else if wr then
    if (s.spCell g).st = spAvailable then s.deny .busy
    else (.ok, (({ s with spin := { s.spin with recPend := some g } }).put F.SPINDLE_REC_IDX_G g).put F.SPINDLE_REC_IDX_BUSY 1)
  else
    let c := s.spCell g
    let s := ({ s with spin := { s.spin with recTill := (s.spArm (s.cArm s.actSet g)).updEnd } }).put F.SPINDLE_REC_IDX_G g
    let s := ((s.put F.SPINDLE_REC0_V_EST (if (s.spArm (s.cArm s.actSet g)).upd % 2 = 0 then c.v0 else c.v1)).put F.SPINDLE_REC1_V_DLY c.vd).put
      F.SPINDLE_REC2_V_REP c.vrep
    let s := ((s.put F.SPINDLE_REC2_SEQ c.seq).put F.SPINDLE_REC2_STRIKES c.strikes).put F.SPINDLE_REC3_RC_FINE c.rc
    let s := ((s.put F.SPINDLE_REC4_HIST c.hist).put F.SPINDLE_REC5_STATE c.st).put F.SPINDLE_REC5_POS_CMD c.posCmd
    let s := s.put F.SPINDLE_REC5_POS_FORCE (c.posAt (s.posByTlm s.actSet (s.cArm s.actSet g) (s.glob.nextCyc - 1)) (s.bnd (s.glob.nextCyc - 1)))
    let s := ((s.put F.SPINDLE_REC5_CAUSE c.cause).put F.SPINDLE_REC5_SW_CNT c.sw).put F.SPINDLE_REC6_INNOV (wrap 32 c.innov)
    (.ok, ((s.put F.SPINDLE_REC7_AGE c.age).put F.SPINDLE_REC7_BAD_CNT c.bad).put F.SPINDLE_REC7_GOOD_CNT c.good)

/-- `SPINDLE.CELL_STAT[g]` (R167). -/
def Dev.cellStat (s : Dev) (g : Nat) : Nat :=
  let c := s.spCell g
  let a := s.cArm s.actSet g
  let m := s.fa F.SPINDLE_ARM_RATE_RATE_MAX a
  let v := if (s.spArm a).upd % 2 = 0 then c.v0 else c.v1
  c.st * 2 ^ 28 + c.posCmd * 2 ^ 26 + b2n (decide (m ≠ 0) && decide (m ≤ c.sw)) * 2 ^ 25 + b2n c.clow * 2 ^ 24 + c.cause * 2 ^ 16 + v / 2 ^ 16

/-! ## Cycle records (R41, R48) -/

/-- Change an arm's work for a cycle. -/
def Dev.setWork (s : Dev) (n a : Nat) (f : ArmWork → ArmWork) : Dev :=
  { s with glob := { s.glob with cycles := s.glob.cycles.map fun (c : CycRec) =>
      if c.n = n then { c with arms := c.arms.map fun (w : ArmWork) => if w.arm = a then f w else w } else c } }

/-- The latency of a cycle once every arm that enters it has completed or been abandoned (R48): the time from the boundary to the end
of the earliest completed assembly plus 24 ns. -/
def CycRec.latency (c : CycRec) : Option Nat :=
  let l := c.arms.filter fun w => decide (w.kind ≠ .passive)
  if l = [] ∨ l.any (fun w => w.fin.isNone && !w.aband) then none
  else
    match l.filterMap ArmWork.fin with
    | [] => some 0xFFFF
    | t :: ts => some (min 0xFFFE (ts.foldl min t + 24 - c.t0))

/-- Record the latency of the cycles that have come to their end (R48). -/
def Dev.latRecord (s : Dev) : Dev :=
  let due := s.glob.cycles.reverse.filter fun c => !c.done && c.latency.isSome
  let s := { s with glob := { s.glob with cycles := s.glob.cycles.map fun (c : CycRec) => if c.latency.isSome then { c with done := true } else c } }
  s.each due fun s c =>
    let v := c.latency.getD 0
    (s.put F.GLOBAL_LAT_LAST v).top F.GLOBAL_LAT_MAX v

/-- The oldest cycle whose assembly of an arm is still to complete. -/
def Dev.oldestWork (s : Dev) (a : Nat) : Option Nat :=
  (s.glob.cycles.reverse.find? fun c => c.arms.any fun w => decide (w.arm = a) && w.fin.isNone && !w.aband).map CycRec.n

/-- The work of an arm for a cycle is abandoned, and the cycle held behind it starts (R40, R41). -/
def Dev.abandonArm (s : Dev) (n a : Nat) : Dev :=
  let s := s.setWork n a fun w => { w with aband := true }
  let x := s.spArm a
  let s := s.setSpArm a { x with wk := x.wk.filter fun w => decide (w.cyc ≠ n), asmFree := s.now, selEnd := if x.sel.isSome then x.selEnd else s.now,
                                 sel := match x.sel with | some (k, l) => if k = n then none else some (k, l) | none => none }
  ((((s.raise F.GLOBAL_CYCLE_STAT_OVERRUN).digEvent 24).inc F.GLOBAL_CYCLE_STAT_OVR_CNT 1)).latRecord

/-- The boundary of cycle n + 2 comes with an arm's assembly of cycle n not completed (R41). A passive arm is never abandoned for want of
a count (R470). -/
def Dev.assemblyAbandon (s : Dev) (a : Nat) : Dev :=
  match s.oldestWork a with
  | none => s
  | some n =>
    match s.armWork n a with
    | some w => if w.kind = .passive then s else (s.advanceTo (s.bnd (n + 2))).abandonArm n a
    | none => s

/-- At the boundary of cycle n every arm of cycle n − 2 or before that has not completed is abandoned (R41). -/
def Dev.abandonDue (s : Dev) (n : Nat) : Dev :=
  let l := (s.glob.cycles.reverse.filter fun c => decide (c.n + 2 ≤ n)).flatMap fun c =>
    (c.arms.filter fun w => w.fin.isNone && !w.aband && decide (w.kind ≠ .passive)).map fun w => (c.n, w.arm)
  let s := s.each l fun s p => s.abandonArm p.1 p.2
  { s with glob := { s.glob with cycles := s.glob.cycles.filter fun c => decide (n < c.n + 3) } }

/-! ## The end of an assembly (R43, R44, R162) -/

/-- The execution time of an assembly that ends at `t`, and whether a fixed time slipped (R43, R44). -/
def CycRec.exec (c : CycRec) (t : Nat) : Nat × Bool :=
  if c.stampFixed then (if t + c.allow ≤ c.t0 + c.fixed then (c.t0 + c.fixed, false) else (t + c.allow, true)) else (t + c.allow, false)

/-- OP of the Milestone that a selection's code stands for (R207). -/
def codeOp : Nat → Nat
  | 1 => 1
  | 2 => 2
  | _ => 3

/-- A commanded position (R141, R153). -/
def SpCell.command (c : SpCell) (code exec : Nat) : SpCell := { c.setPos code with pend := c.pend ++ [(exec, code)] }

/-- A bypass-switch request, and an op's command, that an assembly that starts at station time `t` takes in (R160, R162). -/
def SpCell.closeBy (c : SpCell) (t : Nat) : Bool := c.closeReq.any fun x => decide (x ≤ t)
def SpCell.opBy (c : SpCell) (t : Nat) : Option (Nat × Nat) :=
  match c.op with
  | some (o, p, x) => if x ≤ t then some (o, p) else none
  | none => none

/-- The command that takes a cell's slot in an assembly that starts at `t`, by the precedence of R162: CLOSE, selection, an op's command,
CARRIER. -/
def slotCommand (c : SpCell) (t : Nat) (sel : Option Nat) (carrier : Bool) : Nat × Nat :=
  if c.closeBy t then (5, 0)
  else match sel with
    | some code => (codeOp code, 0)
    | none => match c.opBy t with
      | some p => p
      | none => if carrier && decide (c.st ≠ 0) && decide (c.st ≠ spBypassed) then (6, 0) else (0, 0)

/-- Place a cell's command: the record after it (R141, R160, R162). A selection command that loses to CLOSE is not sent; the cell counts
as commanded OUT (log entry 41). -/
def Dev.placeCommand (s : Dev) (g t exec : Nat) (sel : Option Nat) : Dev :=
  let c := s.spCell g
  if c.closeBy t then s.setSpCell g (({ c with closeReq := none }).command 0 exec)
  else match sel with
    | some code => s.setSpCell g (c.command code exec)
    | none => if (c.opBy t).isSome then (s.setSpCell g { c with op := none }).spPlaced g else s

/-- What an arm's assembly for cycle n carries once it may start: the time of its input, which waits for the cycle before (R40), and its
selection commands. -/
def Dev.assemblyStart (s : Dev) (n a : Nat) : Option (Nat × List (Nat × Nat)) :=
  let x := s.spArm a
  match s.armWork n a with
  | none => none
  | some w =>
    match w.kind with
    | .selection => match x.sel with
      | some (k, l) => if k = n then some (max x.selEnd x.asmFree, l) else none
      | none => none
    | .carrier => match x.wk.find? fun v => decide (v.cyc = n) && v.duty.isSome with
      | some v => some (max v.tm x.asmFree, [])
      | none => none
    | .passive =>
      let set := s.cycSet n
      some (max (s.bnd n) x.asmFree, ((s.armCells set a).filter fun g => decide ((s.spCell g).posCmd ≠ 0) && decide ((s.spCell g).st ≠ spAvailable)).map
        fun g => (g, 0))

/-- An arm's Milestone assembly for the oldest cycle that waits ends, 28 CORE cycles after its start (R39, R43). -/
def Dev.assemblyEnd (s : Dev) (a : Nat) : Dev :=
  match s.oldestWork a with
  | none => s
  | some n =>
    match s.assemblyStart n a, s.glob.cycles.find? fun c => decide (c.n = n) with
    | some (t, sel), some c =>
      if ¬ s.unitActive ∨ ¬ s.run ∨ s.bnd (n + 2) < max s.now (t + 28) then s
      else
        let s := s.advanceTo (t + 28)
        let x := c.exec s.now
        let s := s.iff x.2 fun s => (s.raise F.GLOBAL_CYCLE_STAT_STAMP_SLIP).inc F.GLOBAL_CYCLE_STAT_SLIP_CNT 1
        let carrier := decide (s.armKind c.set a = .carrier) && decide (((s.armWork n a).map ArmWork.kind) = some .carrier)
        let duty := match (s.spArm a).wk.find? fun v => decide (v.cyc = n) with | some v => v.duty.getD 0 | none => 0
        let cells := s.armCells c.set a
        let cmds := cells.map fun g => (g, slotCommand (s.spCell g) t ((sel.find? fun p => decide (p.1 = g)).map (·.2)) carrier)
        let cmds := cmds.filter fun p => decide (p.2.1 ≠ 0)
        let h : MsHead := { arm := a, cv := carrier, gen := s.f F.PAIR_STAT_GEN, cyc := n, exec := x.1 % 2 ^ 32, duty := duty,
                            cper := s.fi F.TRUNK_CARRIER_CPER a, cphase := s.fi F.TRUNK_CARRIER_CPHASE a }
        let passive := decide (((s.armWork n a).map ArmWork.kind) = some .passive)
        let s := s.iff (!passive || decide (cmds ≠ [])) fun s => s.msSend c.set h cmds
        let s := s.each cells fun s g => s.placeCommand g t x.1 ((sel.find? fun p => decide (p.1 = g)).map (·.2))
        let y := s.spArm a
        let s := s.setSpArm a { y with sel := none, asmFree := s.now, wk := y.wk.filter fun v => decide (n < v.cyc) }
        let s := (s.setWork n a fun w => { w with fin := some s.now }).latRecord
        s.mlistSend a n (x.1 % 2 ^ 32) ((cmds.filter fun p => decide (p.2.1 ≤ 5)).map fun p => (p.2.1, p.1))
    | _, _ => s

/-! ## Work handed over by Loom (R78) -/

/-- The arms of cycle n for an ACTIVE unit with Spindle on (R48, R150, R163, R470). -/
def Dev.cycleArms (s : Dev) (set : Nat) : List ArmWork :=
  if ¬ s.unitActive ∨ ¬ s.flag F.SPINDLE_CTL_EN then []
  else ((List.range 12).filter fun a => decide (s.armCells set a ≠ [])).map fun a =>
    { arm := a, kind := s.armKind set a, fin := none, aband := false }

/-- A value written by the run of cycle n to a word mapped to an arm: 1 SPINDLE_N, 2 SPINDLE_POL, 3 DUTY. It counts while Spindle has not
started for that cycle and the arm waits for the word (R163, R470). -/
def Dev.spWork (s : Dev) (n a dst v : Nat) : Dev :=
  match s.armWork n a with
  | none => s
  | some w =>
    let x := s.spArm a
    let d : SpWork := (x.wk.find? fun y => decide (y.cyc = n)).getD { cyc := n, n := none, pol := none, duty := none, tm := 0 }
    let takes := match w.kind with
      | .selection => decide (dst ≠ 3) && !s.workReady a d && !(x.sel.any fun p => decide (p.1 = n))
      | .carrier => decide (dst = 3) && d.duty.isNone
      | .passive => false
    if w.fin.isSome || w.aband || !takes then s
    else
      let d := match dst with
        | 1 => { d with n := some v }
        | 2 => { d with pol := some v }
        | _ => { d with duty := some v }
      let d := { d with tm := s.now }
      let rest := x.wk.filter fun y => decide (y.cyc ≠ n)
      s.setSpArm a { x with wk := (rest.filter fun y => decide (y.cyc < n)) ++ [d] ++ rest.filter fun y => decide (n < y.cyc) }

/-! ## The standby unit (R166, R293) -/

/-- An MLIST block arrives: its payload and cycle. -/
def Dev.pxMlist (s : Dev) (cyc : Nat) (p : List Byte) : Dev :=
  let a := field p 0 1
  let k := fieldBE p 1 2
  let exec := fieldBE p 5 4
  if s.unitActive ∨ 12 ≤ a then s
  else
    let l := (List.range k).map fun i => fieldBE p (9 + 2 * i) 2
    let n := s.cycNear cyc
    let m : MList := { cyc := n, gen := fieldBE p 3 2, exec := exec, list := if k = 0xFFFF then none else some l }
    let s := { s with pair := { s.pair with mlist := Tab.put s.pair.mlist (mlistKey a n) m } }
    if k = 0xFFFF then s
    else
      let at_ := ((s.now : Int) + sgn 32 (wrap 32 ((exec : Int) - (s.short : Int)))).toNat
      s.each l fun s e =>
        let g := e % 2 ^ 13
        let op := e / 2 ^ 13
        let c := s.spCell g
        if c.st = 0 then s
        else if op = 1 ∨ op = 2 then s.setSpCell g (c.command op at_)
        else if op = 3 ∨ op = 5 then s.setSpCell g (c.command 0 at_) else s

/-! ## Swap, boundary and reset -/

/-- Records follow the map of the set that has become active, `old` being the other one (R160): an entry made valid or replaced gives a
PENDING record, one made invalid clears it. An op that waited for a cleared cell is RETIRED. -/
def Dev.spSwap (s : Dev) (old new : Nat) : Dev :=
  let was := s.cells old
  let now := s.cells new
  let word := fun (set g : Nat) => s.word F.regTrunkCellMap set g 0
  let gone := was.filter fun g => !now.contains g
  let fresh := now.filter fun g => !was.contains g || decide (word old g ≠ word new g) || decide ((s.spCell g).st = 0)
  let s := s.spReplaced (gone ++ fresh)
  let s := s.each gone fun s g => s.setSpCell g SpCell.invalid
  s.each fresh fun s g => s.setSpCell g SpCell.fresh

/-- A boundary of cycle n (R141, R149, R150, R163): the sample of a delayed update is held, the aggregates are latched, and an arm that
returns from carrier mode starts from the positions last reported. `prev` is the record of the cycle before. -/
def Dev.spBoundary (s : Dev) (set n : Nat) (prev : Option CycRec) : Dev :=
  s.each ((List.range 12).filter fun a => decide (s.armCells set a ≠ [])) fun s a =>
    let x := s.spArm a
    if ¬ s.flag F.SPINDLE_CTL_EN then s.setSpArm a { x with upd := 0, heldW := none, itemsAt := 0 }
    else
      let ch := s.adcCh (s.fs (s.cycSet (n - 1)) F.SPINDLE_ARM_CFG_ICH a)
      let held := decide (0 < n) && decide (x.upd + 1 = n) && x.heldW.isNone && decide (ch.bndT = s.bnd (n - 1))
      let s := s.setSpArm a { x with heldW := if held then some (n - 1, ch.bndW, ch.bndOk) else x.heldW }
      let wasCarrier := match prev with
        | some c => c.arms.any fun w => decide (w.arm = a) && decide (w.kind = .carrier)
        | none => false
      let s := if wasCarrier && decide (s.armKind set a ≠ .carrier) then
          s.each (s.armCells set a) fun s g => s.setSpCell g ((s.spCell g).follow (s.bnd n))
        else s
      if x.upd = n then s.spLatch set a n else s

/-- The cycles of an arm whose count has been written and whose selection has not ended (R165). -/
def Dev.openWork (s : Dev) (a : Nat) : List Nat := ((s.spArm a).wk.filter fun w => w.n.isSome && s.selectionDue w.cyc a).map SpWork.cyc

/-- A per-block reset of Spindle (R6, R165): selections and the work that waits for one are abandoned; records and the registers of the
sets stay. -/
def Dev.spReset (s : Dev) : Dev :=
  let l := s.spin.reqs
  let s := s.each (List.range 12) fun s a => s.each (s.openWork a) fun s n => s.abandonArm n a
  let s := { s with spin := { s.spin with
    reqs := []
    recPend := none, recTill := 0
    cell := Tab.map (fun _ (c : SpCell) => { c with op := none, hostOp := none, close := false, unlock := false }) s.spin.cell } }
  let s := s.each l fun s q => s.spReqDone q .retired
  let s := s.each [F.regSpindleCtl, F.regSpindleChkStat, F.regSpindleRecIdx, F.regSpindleRec0, F.regSpindleRec1, F.regSpindleRec2, F.regSpindleRec3, F.regSpindleRec4,
    F.regSpindleRec5, F.regSpindleRec6, F.regSpindleRec7, F.regSpindleEccStat] fun s R => s.resetFlds R.flds 0 0 0
  s.each (List.range 12) fun s a =>
    let s := s.each [F.regSpindleArmStat, F.regSpindleArmCnt, F.regSpindleArmTime, F.regSpindleArmMisc, F.regSpindleArmAge] fun s R =>
      s.resetFlds R.flds 0 a 0
    s.spCounts s.actSet a

end Sys2Proof.Machine
end

