-- ==== Sys2Proof/Machine/LoomIsa.lean ====
section
/-! DEFINITION. The Loom instruction set as data and arithmetic (04_loom_instructions): the operation map of R101, the
instruction word of R88 with its encoder and decoder, the operands and extents of R90, and what each operation computes
from the words it reads. The engine that fetches, writes and delivers is in Machine/Loom. -/

namespace Sys2Proof.Machine

/-- The operation codes of R101. -/
inductive Opc where
  | nopOp | movOp | moviOp | ldxOp | stxOp | addOp | subOp | mulOp | macOp
  | msuOp | negOp | absOp | addwOp | subwOp | limOp | minOp | maxOp | piOp
  | pirOp | lpf1Op | hpf1Op | rampOp | deadOp | hystOp | clkOp | prkOp | iprkOp
  | sincosOp | atn2Op | sqrtOp | rcpOp | divOp | lut1Op | cmpeqOp | cmpneOp | cmpltOp
  | cmpleOp | cmpgtOp | cmpgeOp | selOp | andOp | orOp | xorOp | notOp | psetOp
  | pandOp | porOp | pnotOp | pgetOp
deriving DecidableEq, Repr

/-- The number of an operation code (R101). -/
def Opc.code : Opc → Nat
  | .nopOp => 0x00 | .movOp => 0x01 | .moviOp => 0x02 | .ldxOp => 0x03 | .stxOp => 0x04
  | .addOp => 0x10 | .subOp => 0x11 | .mulOp => 0x12 | .macOp => 0x13 | .msuOp => 0x14
  | .negOp => 0x15 | .absOp => 0x16 | .addwOp => 0x18 | .subwOp => 0x19 | .limOp => 0x20
  | .minOp => 0x21 | .maxOp => 0x22 | .piOp => 0x30 | .pirOp => 0x31 | .lpf1Op => 0x32
  | .hpf1Op => 0x33 | .rampOp => 0x34 | .deadOp => 0x35 | .hystOp => 0x36 | .clkOp => 0x40
  | .prkOp => 0x41 | .iprkOp => 0x42 | .sincosOp => 0x43 | .atn2Op => 0x44 | .sqrtOp => 0x45
  | .rcpOp => 0x46 | .divOp => 0x47 | .lut1Op => 0x50 | .cmpeqOp => 0x60 | .cmpneOp => 0x61
  | .cmpltOp => 0x62 | .cmpleOp => 0x63 | .cmpgtOp => 0x64 | .cmpgeOp => 0x65 | .selOp => 0x68
  | .andOp => 0x70 | .orOp => 0x71 | .xorOp => 0x72 | .notOp => 0x73 | .psetOp => 0x78
  | .pandOp => 0x79 | .porOp => 0x7A | .pnotOp => 0x7B | .pgetOp => 0x7C

/-- The operation of a code; every other code is undefined (R101). -/
def Opc.ofCode : Nat → Option Opc
  | 0x00 => some .nopOp | 0x01 => some .movOp | 0x02 => some .moviOp | 0x03 => some .ldxOp
  | 0x04 => some .stxOp | 0x10 => some .addOp | 0x11 => some .subOp | 0x12 => some .mulOp
  | 0x13 => some .macOp | 0x14 => some .msuOp | 0x15 => some .negOp | 0x16 => some .absOp
  | 0x18 => some .addwOp | 0x19 => some .subwOp | 0x20 => some .limOp | 0x21 => some .minOp
  | 0x22 => some .maxOp | 0x30 => some .piOp | 0x31 => some .pirOp | 0x32 => some .lpf1Op
  | 0x33 => some .hpf1Op | 0x34 => some .rampOp | 0x35 => some .deadOp | 0x36 => some .hystOp
  | 0x40 => some .clkOp | 0x41 => some .prkOp | 0x42 => some .iprkOp | 0x43 => some .sincosOp
  | 0x44 => some .atn2Op | 0x45 => some .sqrtOp | 0x46 => some .rcpOp | 0x47 => some .divOp
  | 0x50 => some .lut1Op | 0x60 => some .cmpeqOp | 0x61 => some .cmpneOp | 0x62 => some .cmpltOp
  | 0x63 => some .cmpleOp | 0x64 => some .cmpgtOp | 0x65 => some .cmpgeOp | 0x68 => some .selOp
  | 0x70 => some .andOp | 0x71 => some .orOp | 0x72 => some .xorOp | 0x73 => some .notOp
  | 0x78 => some .psetOp | 0x79 => some .pandOp | 0x7A => some .porOp | 0x7B => some .pnotOp
  | 0x7C => some .pgetOp
  | _ => none

/-- Cycles of an instruction (R101). -/
def Opc.cycles : Opc → Nat
  | .nopOp => 1 | .movOp => 1 | .moviOp => 1 | .ldxOp => 2 | .stxOp => 2 | .addOp => 1
  | .subOp => 1 | .mulOp => 2 | .macOp => 2 | .msuOp => 2 | .negOp => 1 | .absOp => 1
  | .addwOp => 1 | .subwOp => 1 | .limOp => 1 | .minOp => 1 | .maxOp => 1 | .piOp => 6
  | .pirOp => 9 | .lpf1Op => 3 | .hpf1Op => 4 | .rampOp => 2 | .deadOp => 2 | .hystOp => 2
  | .clkOp => 3 | .prkOp => 6 | .iprkOp => 6 | .sincosOp => 4 | .atn2Op => 8 | .sqrtOp => 6
  | .rcpOp => 8 | .divOp => 10 | .lut1Op => 4 | .cmpeqOp => 1 | .cmpneOp => 1 | .cmpltOp => 1
  | .cmpleOp => 1 | .cmpgtOp => 1 | .cmpgeOp => 1 | .selOp => 1 | .andOp => 1 | .orOp => 1
  | .xorOp => 1 | .notOp => 1 | .psetOp => 1 | .pandOp => 1 | .porOp => 1 | .pnotOp => 1
  | .pgetOp => 1

/-- RND is permitted: the R mark of R101. -/
def Opc.rMark : Opc → Bool
  | .addOp | .subOp | .mulOp | .macOp | .msuOp | .piOp | .pirOp | .lpf1Op | .hpf1Op | .clkOp | .prkOp | .iprkOp | .sqrtOp | .rcpOp | .divOp | .lut1Op => true
  | .nopOp | .movOp | .moviOp | .ldxOp | .stxOp | .negOp | .absOp | .addwOp | .subwOp | .limOp | .minOp | .maxOp | .rampOp | .deadOp | .hystOp | .sincosOp | .atn2Op | .cmpeqOp | .cmpneOp | .cmpltOp | .cmpleOp | .cmpgtOp | .cmpgeOp | .selOp | .andOp | .orOp | .xorOp | .notOp | .psetOp | .pandOp | .porOp | .pnotOp | .pgetOp => false

/-- SATP is permitted: the S mark of R101. -/
def Opc.sMark : Opc → Bool
  | .ldxOp | .stxOp | .addOp | .subOp | .mulOp | .macOp | .msuOp | .negOp | .absOp | .limOp | .piOp | .pirOp | .lpf1Op | .hpf1Op | .rampOp | .deadOp | .clkOp | .prkOp | .iprkOp | .atn2Op | .rcpOp | .divOp | .lut1Op => true
  | .nopOp | .movOp | .moviOp | .addwOp | .subwOp | .minOp | .maxOp | .hystOp | .sincosOp | .sqrtOp | .cmpeqOp | .cmpneOp | .cmpltOp | .cmpleOp | .cmpgtOp | .cmpgeOp | .selOp | .andOp | .orOp | .xorOp | .notOp | .psetOp | .pandOp | .porOp | .pnotOp | .pgetOp => false

/-- The extent in words that DST names; 0 where the field is not an address (R90, R101). -/
def Opc.dstExt (shf : Nat) : Opc → Nat
  | .nopOp | .psetOp | .pandOp | .porOp | .pnotOp => 0
  | .movOp | .moviOp | .ldxOp | .addOp | .subOp | .mulOp | .macOp | .msuOp | .negOp | .absOp | .addwOp | .subwOp | .limOp | .minOp | .maxOp | .lpf1Op | .rampOp | .deadOp | .hystOp | .sqrtOp | .rcpOp | .divOp | .lut1Op | .cmpeqOp | .cmpneOp | .cmpltOp | .cmpleOp | .cmpgtOp | .cmpgeOp | .selOp | .andOp | .orOp | .xorOp | .notOp | .pgetOp => 1
  | .stxOp => 2 ^ shf
  | .piOp | .hpf1Op | .prkOp | .iprkOp | .sincosOp | .atn2Op => 2
  | .pirOp => 4
  | .clkOp => 3

/-- The extent in words that SRCA names; 0 where the field is not an address (R90, R101). -/
def Opc.aExt (_shf : Nat) : Opc → Nat
  | .nopOp | .pnotOp | .pgetOp => 0
  | .movOp | .ldxOp | .stxOp | .addOp | .subOp | .mulOp | .macOp | .msuOp | .negOp | .absOp | .addwOp | .subwOp | .limOp | .minOp | .maxOp | .piOp | .pirOp | .lpf1Op | .hpf1Op | .rampOp | .deadOp | .hystOp | .sincosOp | .atn2Op | .sqrtOp | .rcpOp | .divOp | .lut1Op | .cmpeqOp | .cmpneOp | .cmpltOp | .cmpleOp | .cmpgtOp | .cmpgeOp | .selOp | .andOp | .orOp | .xorOp | .notOp | .psetOp | .pandOp | .porOp => 1
  | .moviOp => 0
  | .clkOp => 3
  | .prkOp | .iprkOp => 2

/-- The extent in words that SRCB names; 0 where the field is not an address (R90, R101). -/
def Opc.bExt (shf : Nat) : Opc → Nat
  | .nopOp | .movOp | .negOp | .absOp | .clkOp | .sincosOp | .sqrtOp | .rcpOp | .notOp | .psetOp | .pandOp | .porOp | .pnotOp | .pgetOp => 0
  | .moviOp => 0
  | .ldxOp => 2 ^ shf
  | .stxOp | .addOp | .subOp | .mulOp | .macOp | .msuOp | .addwOp | .subwOp | .minOp | .maxOp | .lpf1Op | .hpf1Op | .prkOp | .iprkOp | .atn2Op | .divOp | .cmpeqOp | .cmpneOp | .cmpltOp | .cmpleOp | .cmpgtOp | .cmpgeOp | .selOp | .andOp | .orOp | .xorOp => 1
  | .limOp | .rampOp | .deadOp | .hystOp => 2
  | .piOp => 4
  | .pirOp => 6
  | .lut1Op => 3

/-- An instruction with a defined code: its predicate control, rounding and saturation report (R89), its operand fields
and its shift field (R88). `pred` is 0 always, 1 if P = 1, 2 if P = 0. -/
structure LoomOp where
  opc  : Opc
  pred : Nat
  rnd  : Bool
  satp : Bool
  dst  : Nat
  srca : Nat
  srcb : Nat
  shf  : Nat
deriving DecidableEq, Repr

/-- The fields fit and MOD is defined: R89, check 0x02 of R73. -/
def LoomOp.wf (x : LoomOp) : Bool :=
  decide (x.pred ≤ 2) && (!x.rnd || x.opc.rMark) && (!x.satp || x.opc.sMark) &&
  !(x.rnd && decide (x.shf = 0) && (decide (x.opc = .addOp) || decide (x.opc = .subOp))) &&
  decide (x.dst < 2 ^ 16) && decide (x.srca < 2 ^ 16) && decide (x.srcb < 2 ^ 16) && decide (x.shf < 2 ^ 4)

/-- The MOD field (R89). -/
def LoomOp.mod (x : LoomOp) : Nat := x.pred * 4 + b2n x.rnd * 2 + b2n x.satp

/-- The instruction word (R88). -/
def LoomOp.encode (x : LoomOp) : Nat :=
  x.opc.code * 2 ^ 56 + x.mod * 2 ^ 52 + x.dst * 2 ^ 36 + x.srca * 2 ^ 20 + x.srcb * 2 ^ 4 + x.shf

/-- The instruction of a word, none where OPC or MOD is undefined (R88, R89, R101). -/
def LoomOp.decode (w : Nat) : Option LoomOp :=
  match Opc.ofCode (bits w 56 8) with
  | none => none
  | some o =>
    let x : LoomOp := { opc := o, pred := bits w 54 2, rnd := bitOf w 53, satp := bitOf w 52,
                        dst := bits w 36 16, srca := bits w 20 16, srcb := bits w 4 16, shf := bits w 0 4 }
    if x.wf then some x else none

/-- What an operation reads: words by operand and offset (as signed values), its immediate fields, its shift and
rounding, the working registers of the run (R93), and the number of words from the SRCB address to the end of its
space (R119). -/
structure LCtx where
  d    : Nat → Int
  a    : Nat → Int
  b    : Nat → Int
  imm  : Nat
  shf  : Nat
  rnd  : Bool
  p    : Bool
  acc  : Int
  room : Nat

/-- What an operation does: the words it writes, by offset from DST, before the saturation of R79; the new P and ACC;
and whether it limited, saturated inside, divided by zero or left its domain (R98 to R100). -/
structure LEff where
  wr   : List (Nat × Int) := []
  p    : Option Bool := none
  acc  : Option Int := none
  lim  : Bool := false
  sat  : Bool := false
  divz : Bool := false
  dom  : Bool := false

/-- A product realigned by 16 + SHF bits (R96). -/
def LCtx.prod (c : LCtx) (x y : Int) : Int := shr c.rnd (x * y) (16 + c.shf)

/-- An index into a table of 2^SHF words, and whether it was replaced (R102). -/
def LCtx.index (c : LCtx) : Nat × Bool :=
  let n : Int := 2 ^ c.shf
  let i := c.a 0
  if i < 0 then (0, true) else if n - 1 < i then ((n - 1).toNat, true) else (i.toNat, false)

namespace Isa

/-- A plain word result. -/
def word (x : Int) : LEff := { wr := [(0, x)] }

def nop (_ : LCtx) : LEff := {}
def mov (c : LCtx) : LEff := word (c.a 0)
def movi (c : LCtx) : LEff := word (sgn 32 c.imm)

/-- R102. -/
def ldx (c : LCtx) : LEff :=
  { wr := [(0, c.b c.index.1)], lim := c.index.2, dom := c.index.2 }

/-- R102. -/
def stx (c : LCtx) : LEff :=
  { wr := [(c.index.1, c.b 0)], lim := c.index.2, dom := c.index.2 }

def add (c : LCtx) : LEff := word (c.a 0 + shr c.rnd (c.b 0) c.shf)
def sub (c : LCtx) : LEff := word (c.a 0 - shr c.rnd (c.b 0) c.shf)

/-- The multiply group: `x` is the new accumulator before its range is applied (R103). -/
def accum (c : LCtx) (x : Int) : LEff :=
  { wr := [(0, shr c.rnd (satAcc x) (16 + c.shf))], acc := some (satAcc x), sat := decide (satAcc x ≠ x) }

def mul (c : LCtx) : LEff := accum c (c.a 0 * c.b 0)
def mac (c : LCtx) : LEff := accum c (c.acc + c.a 0 * c.b 0)
def msu (c : LCtx) : LEff := accum c (c.acc - c.a 0 * c.b 0)
def neg (c : LCtx) : LEff := word (-(c.a 0))
def abs (c : LCtx) : LEff := word (c.a 0).natAbs

/-- R106: modulo 2³², no saturation. -/
def addw (c : LCtx) : LEff := word (sgn 32 (wrap 32 (c.a 0 + c.b 0)))
/-- R106. -/
def subw (c : LCtx) : LEff := word (sgn 32 (wrap 32 (c.a 0 - c.b 0)))

/-- R105. -/
def lim (c : LCtx) : LEff :=
  let lo := c.b 0
  let hi := c.b 1
  if hi < lo then { wr := [(0, lo)], lim := true, dom := true }
  else if c.a 0 < lo then { wr := [(0, lo)], lim := true }
  else if hi < c.a 0 then { wr := [(0, hi)], lim := true }
  else word (c.a 0)

def min (c : LCtx) : LEff := word (if c.a 0 ≤ c.b 0 then c.a 0 else c.b 0)
def max (c : LCtx) : LEff := word (if c.a 0 ≤ c.b 0 then c.b 0 else c.a 0)

/-- The output and integrator rules that PI and PIR share: `u` is the unlimited output, `i` the integrator as it stood,
`step` the integration step (R109). Answers y, the new I, whether y or I was
limited (R98, R99), domain error. -/
def piCore (u i e step ymax ymin : Int) : Int × Int × Bool × Bool :=
  if ymax < ymin then (ymin, i, true, true)
  else
    let y := if ymax < u then ymax else if u < ymin then ymin else u
    let hold := (decide (ymax < u) && decide (0 < e)) || (decide (u < ymin) && decide (e < 0))
    let i' := if hold then i else clampI ymin ymax (i + step)
    (y, i', decide (y ≠ u) || (!hold && decide (i' ≠ i + step)), false)

/-- R109. -/
def pi (c : LCtx) : LEff :=
  let e := c.a 0
  let u := c.prod (c.b 0) e + c.d 1
  let r := piCore u (c.d 1) e (c.prod (c.b 1) e) (c.b 2) (c.b 3)
  { wr := [(0, r.1), (1, r.2.1)], lim := r.2.2.1, dom := r.2.2.2 }

/-- The resonant term of PIR before saturation (R110). -/
def resonant (c : LCtx) : Int := c.prod (c.b 2) (c.a 0) + c.prod (c.b 3) (c.d 2) - c.d 3

/-- R110. -/
def pir (c : LCtx) : LEff :=
  let e := c.a 0
  let r := satS 32 (resonant c)
  let u := c.prod (c.b 0) e + c.d 1 + r
  let q := piCore u (c.d 1) e (c.prod (c.b 1) e) (c.b 4) (c.b 5)
  { wr := [(0, q.1), (1, q.2.1), (2, r), (3, c.d 2)], lim := q.2.2.1, dom := q.2.2.2, sat := outside32 (resonant c) }

/-- R111. -/
def lpf1 (c : LCtx) : LEff := word (c.d 0 + c.prod (c.b 0) (c.a 0 - c.d 0))

/-- R111. -/
def hpf1 (c : LCtx) : LEff := { wr := [(0, c.prod (c.b 0) (c.d 0 + c.a 0 - c.d 1)), (1, c.a 0)] }

/-- R112. -/
def ramp (c : LCtx) : LEff :=
  let x := c.a 0
  let y := c.d 0
  let rup := c.b 0
  let rdn := c.b 1
  if rup < 0 ∨ rdn < 0 then { wr := [(0, y)], lim := true, dom := true }
  else
    let y' := if y < x then (if x ≤ y + rup then x else y + rup)
              else if x < y then (if y - rdn ≤ x then x else y - rdn) else y
    { wr := [(0, y')], lim := decide (y' ≠ x) }

/-- R113. -/
def dead (c : LCtx) : LEff :=
  let x := c.a 0
  let lo := c.b 0
  let hi := c.b 1
  if hi < lo then { wr := [(0, 0)], lim := true, dom := true }
  else if hi < x then word (x - hi) else if x < lo then word (x - lo) else word 0

/-- R114: a record word other than 0 is treated as 1. -/
def hyst (c : LCtx) : LEff :=
  let x := c.a 0
  let y : Int := if c.d 0 = 0 then 0 else 1
  let ton := c.b 0
  let toff := c.b 1
  if ton < toff then { wr := [(0, y)], dom := true }
  else if y = 0 then word (if ton ≤ x then 1 else 0) else word (if x ≤ toff then 0 else 1)

/-- R115. -/
def clk (c : LCtx) : LEff :=
  let a := c.a 0
  let b := c.a 1
  let g := c.a 2
  { wr := [(0, roundDiv c.rnd (2 * a - b - g) 3), (1, overRoot3 c.rnd (b - g)), (2, roundDiv c.rnd (a + b + g) 3)] }

/-- R116: α, β to d, q. -/
def prk (c : LCtx) : LEff :=
  let sc := sinCosQ30 (wrap 32 (c.b 0))
  { wr := [(0, shr c.rnd (c.a 0 * sc.2 + c.a 1 * sc.1) 30), (1, shr c.rnd (c.a 1 * sc.2 - c.a 0 * sc.1) 30)] }

/-- R116: d, q to α, β. -/
def iprk (c : LCtx) : LEff :=
  let sc := sinCosQ30 (wrap 32 (c.b 0))
  { wr := [(0, shr c.rnd (c.a 0 * sc.2 - c.a 1 * sc.1) 30), (1, shr c.rnd (c.a 0 * sc.1 + c.a 1 * sc.2) 30)] }

/-- R116. -/
def sincos (c : LCtx) : LEff :=
  let sc := sinCosQ30 (wrap 32 (c.a 0))
  { wr := [(0, sc.1), (1, sc.2)] }

/-- R117. -/
def atn2 (c : LCtx) : LEff :=
  if c.a 0 = 0 ∧ c.b 0 = 0 then { wr := [(0, 0), (1, 0)], lim := true, dom := true }
  else { wr := [(0, sgn 32 (angleOf (c.a 0) (c.b 0))), (1, magnitude (c.a 0) (c.b 0))] }

/-- R118. -/
def sqrt (c : LCtx) : LEff :=
  if c.a 0 < 0 then { wr := [(0, 0)], dom := true }
  else word ((rootRound c.rnd 32 ((c.a 0).toNat * 2 ^ (2 * c.shf)) : Nat) : Int)

/-- R118. -/
def rcp (c : LCtx) : LEff :=
  if c.a 0 = 0 then { wr := [(0, 2 ^ 31 - 1)], lim := true, divz := true }
  else word (roundQuot c.rnd (2 ^ (30 + c.shf)) (c.a 0))

/-- R118. -/
def div (c : LCtx) : LEff :=
  if c.b 0 = 0 then { wr := [(0, if 0 ≤ c.a 0 then 2 ^ 31 - 1 else -(2 ^ 31))], lim := true, divz := true }
  else word (roundQuot c.rnd (c.a 0 * 2 ^ (16 + c.shf)) (c.b 0))

/-- R119. -/
def lut1 (c : LCtx) : LEff :=
  let h := wrap 32 (c.b 0)
  let s := bits h 27 5
  let n := bits h 0 13
  if n < 2 ∨ bits h 13 14 ≠ 0 ∨ c.room < 2 + n then { wr := [(0, 0)], lim := true, dom := true }
  else
    let δ := c.a 0 - c.b 1
    let last : Int := ((n : Int) - 1) * 2 ^ s
    if δ < 0 then { wr := [(0, c.b 2)], lim := true }
    else if last < δ then { wr := [(0, c.b (1 + n))], lim := true }
    else if δ = last then word (c.b (1 + n))
    else
      let i := (δ / 2 ^ s).toNat
      let f := δ - (i : Int) * 2 ^ s
      word (c.b (2 + i) + shr c.rnd ((c.b (3 + i) - c.b (2 + i)) * f) s)

/-- R107: the relation's result is written and becomes P. -/
def cmp (r : Bool) : LEff := { wr := [(0, if r then 1 else 0)], p := some r }

def cmpeq (c : LCtx) : LEff := cmp (decide (c.a 0 = c.b 0))
def cmpne (c : LCtx) : LEff := cmp (decide (c.a 0 ≠ c.b 0))
def cmplt (c : LCtx) : LEff := cmp (decide (c.a 0 < c.b 0))
def cmple (c : LCtx) : LEff := cmp (decide (c.a 0 ≤ c.b 0))
def cmpgt (c : LCtx) : LEff := cmp (decide (c.b 0 < c.a 0))
def cmpge (c : LCtx) : LEff := cmp (decide (c.b 0 ≤ c.a 0))
def sel (c : LCtx) : LEff := word (if c.p then c.a 0 else c.b 0)

/-- A bitwise operation on two words, read as patterns. -/
def bitwise (f : Nat → Nat → Nat) (x y : Int) : LEff := word (sgn 32 (f (wrap 32 x) (wrap 32 y)))

def and (c : LCtx) : LEff := bitwise Nat.land (c.a 0) (c.b 0)
def or (c : LCtx) : LEff := bitwise Nat.lor (c.a 0) (c.b 0)
def xor (c : LCtx) : LEff := bitwise Nat.xor (c.a 0) (c.b 0)
def not (c : LCtx) : LEff := word (-(c.a 0) - 1)
def pset (c : LCtx) : LEff := { p := some (decide (c.a 0 ≠ 0)) }
def pand (c : LCtx) : LEff := { p := some (c.p && decide (c.a 0 ≠ 0)) }
def por (c : LCtx) : LEff := { p := some (c.p || decide (c.a 0 ≠ 0)) }
def pnot (c : LCtx) : LEff := { p := some (!c.p) }
def pget (c : LCtx) : LEff := word (if c.p then 1 else 0)

end Isa

end Sys2Proof.Machine
end

