-- ==== Sys2Proof/Machine/Operands.lean ====
section
/-! DEFINITION. The memories of Loom and the operands of its instructions (R68 to R72, R81, R82, R90, R92): data RAM with the pending
link copies and the writes of the last CORE cycles, the stores of the two sets, error-correcting codes, effective addresses. -/

namespace Sys2Proof.Machine

/-- Words of data RAM (R68). -/
def ramWords : Nat := 2 ^ 20
def isIngress (a : Nat) : Bool := decide (a < 0x800)
def isEgress (a : Nat) : Bool := decide (0x800 ≤ a) && decide (a < 0x1000)
def isLink (a : Nat) : Bool := decide (0x1000 ≤ a) && decide (a < 0x1800)

/-- The visible copy of a word (R69). -/
def Dev.ramWord (s : Dev) (a : Nat) : Nat := Mem.load s.loom.ram (4 * a) 4

/-- The pending copy of a link word, or any other word. -/
def Dev.ramPending (s : Dev) (a : Nat) : Nat := if isLink a then Tab.get (s.ramWord a) s.loom.link a else s.ramWord a

/-- Program and coefficient stores of a set (R72). -/
def Dev.progWord (s : Dev) (set k : Nat) : Nat := Mem.load (if set = 0 then s.loom.prog0 else s.loom.prog1) (8 * k) 8
def Dev.coefWord (s : Dev) (set bank w : Nat) : Nat :=
  Mem.load (if set = 0 then s.loom.coef0 else s.loom.coef1) (0x8000 * bank + 4 * w) 4

/-- Keys of the words that carry an error: instruction k of a set, word w of a bank of a set, word w of data RAM (R81). -/
def eccProg (set k : Nat) : Nat := set * 2 ^ 18 + k
def eccCoef (set bank w : Nat) : Nat := 2 ^ 19 + set * 2 ^ 17 + bank * 2 ^ 13 + w
def eccData (w : Nat) : Nat := 2 ^ 20 + w

/-- A key as `ECC_STAT` shows it (R87): MEM, SET, BANK, ADDR. -/
def eccPlace (k : Nat) : Nat × Nat × Nat × Nat :=
  if k < 2 ^ 19 then (0, k / 2 ^ 18, 0, k % 2 ^ 18)
  else if k < 2 ^ 20 then (2, (k - 2 ^ 19) / 2 ^ 17, k / 2 ^ 13 % 16, k % 2 ^ 13)
  else (1, 0, 0, k - 2 ^ 20)

/-- A word with a single-bit error is read: it is corrected and written back (R81). -/
def Dev.eccCorrect (s : Dev) (k : Nat) : Dev :=
  ({ s with loom := { s.loom with ecc := Tab.erase s.loom.ecc k } }).inc F.LOOM_ECC_STAT_CE_CNT 1

/-- An uncorrectable error is read (R82): it is also a critical fault, bit 0 of R301. -/
def Dev.eccRecord (s : Dev) (k : Nat) : Dev :=
  let s := { s with pair := { s.pair with crit := putBit s.pair.crit 0 true } }
  let s := s.inc F.LOOM_ECC_STAT_UE_CNT 1
  if s.flag F.LOOM_ECC_STAT_UE then s
  else
    let p := eccPlace k
    ((((s.put F.LOOM_ECC_STAT_MEM p.1).put F.LOOM_ECC_STAT_SET p.2.1).put F.LOOM_ECC_STAT_BANK p.2.2.1).put F.LOOM_ECC_STAT_ADDR p.2.2.2).raise
      F.LOOM_ECC_STAT_UE

/-- Words from `k` on are read: whether all of them could be read. -/
def Dev.eccRead (s : Dev) (k n : Nat) : Dev × Bool :=
  let hit := s.loom.ecc.filter fun e => decide (k ≤ e.1) && decide (e.1 < k + n)
  (s.each hit fun s e => if e.2 = 1 then s.eccCorrect e.1 else s.eccRecord e.1, hit.all fun e => decide (e.2 = 1))

/-! ## Operands (R70, R90) -/

/-- A place in data RAM, or in the coefficient bank in force for the slot. -/
structure Place where
  coef : Bool
  addr : Nat
deriving DecidableEq, Repr

/-- The effective address of an operand field under the base registers of a slot in a set. -/
def Dev.place (s : Dev) (set slot field : Nat) : Place :=
  let k := field / 2 ^ 14 % 4
  { coef := decide (s.fs set F.LOOM_BASE_SPACE slot k = 1), addr := s.fs set F.LOOM_BASE_ADDR slot k + field % 2 ^ 14 }

/-- The value of a data RAM word as a shuttle reads it at a station time: before any write of that CORE cycle or a later one (R71). -/
def readBefore (w : Nat) (a t : Nat) : List MemWr → Nat
  | [] => w
  | m :: l => if m.addr = a ∧ t ≤ m.tm then readBefore m.old a t l else readBefore w a t l

/-- A word of an operand, read at station time `t`. -/
def Dev.readWord (s : Dev) (set bank t : Nat) (p : Place) (j : Nat) : Nat :=
  if p.coef then s.coefWord set bank (p.addr + j) else readBefore (s.ramWord (p.addr + j)) (p.addr + j) t s.loom.recent

/-- The key of the first word of an operand for R81. -/
def Place.key (p : Place) (set bank : Nat) : Nat := if p.coef then eccCoef set bank p.addr else eccData p.addr

/-- The words of the record that an operation reads at DST (R108 to R114). -/
def Opc.recWords : Opc → Nat
  | .piOp => 2
  | .pirOp => 4
  | .hpf1Op => 2
  | .lpf1Op => 1
  | .rampOp => 1
  | .hystOp => 1
  | _ => 0

/-- The words that LUT1 reads at SRCB (R119): header, X0 and the table; no word beyond X0 where the header is bad. -/
def Dev.lutWords (s : Dev) (set bank t : Nat) (p : Place) : Nat :=
  let room := (if p.coef then 8192 else ramWords) - p.addr
  let h := s.readWord set bank t p 0
  let n := h % 2 ^ 13
  if n < 2 ∨ bits h 13 14 ≠ 0 ∨ room < 2 + n then 2 else 2 + n

/-- The ranges that an instruction reads in its first cycle: SRCA, SRCB, the record at DST (R92). -/
def Dev.readRanges (s : Dev) (set bank slot t : Nat) (x : LoomOp) : List (Place × Nat) :=
  let b := s.place set slot x.srcb
  [(s.place set slot x.srca, x.opc.aExt x.shf),
   (b, match x.opc with | .lut1Op => s.lutWords set bank t b | o => o.bExt x.shf),
   (s.place set slot x.dst, x.opc.recWords)]

/-! ## Writes of data RAM -/

/-- Writes older than any instruction in progress are forgotten. -/
def Dev.pruneRecent (s : Dev) : Dev :=
  { s with loom := { s.loom with recent := s.loom.recent.filter fun m => decide (s.now ≤ m.tm + 16) } }

/-- Store a word: a link word in its pending copy (R69). A word heals when it is written (R82). -/
def Dev.ramPut (s : Dev) (a v : Nat) : Dev :=
  let l := s.loom
  if isLink a then { s with loom := { l with link := Tab.put l.link a (v % 2 ^ 32), ecc := Tab.erase l.ecc (eccData a) } }
  else { s with loom := { l with ram := Mem.store l.ram (4 * a) 4 v, ecc := Tab.erase l.ecc (eccData a) } }

/-- The address under which a write is remembered. -/
def wrKey (a : Nat) : Nat := if isLink a then a + 2 ^ 20 else a

/-- A write of the same word in the same CORE cycle. -/
def Dev.sameCycle (s : Dev) (a t : Nat) : Option MemWr := s.loom.recent.find? fun m => decide (m.addr = wrKey a) && decide (m.tm = t) && decide (m.port < 17)

/-- A write of a word in the CORE cycle at `t` by a port, remembered for the reads of that cycle (R71). -/
def Dev.ramWrite (s : Dev) (a v t port slot : Nat) : Dev :=
  let m : MemWr := { addr := wrKey a, tm := t, port := port, slot := slot, old := s.ramPending a }
  let s := s.ramPut a v
  ({ s with loom := { s.loom with recent := m :: s.loom.recent } }).pruneRecent

/-- A shuttle's write (R71): of two shuttles the lower-numbered keeps its write. Answers whether the write was kept. -/
def Dev.shuttleWrite (s : Dev) (a v t sh slot : Nat) : Dev × Bool :=
  match s.sameCycle a t with
  | some m =>
    let s := (s.raise F.LOOM_SLOT_FLAGS_CLASH slot).raise F.LOOM_SLOT_FLAGS_CLASH m.slot
    if m.port < sh then (s, false) else (s.ramWrite a v t sh slot, true)
  | none => (s.ramWrite a v t sh slot, true)

/-- At a boundary at station time `t`, the pending link copies become visible (R69). -/
def Dev.linkCopy (s : Dev) (t : Nat) : Dev :=
  let l := s.loom.link
  let s := { s with loom := { s.loom with link := [] } }
  (s.each l fun s e =>
    let m : MemWr := { addr := e.1, tm := t - 1, port := 18, slot := 0, old := s.ramWord e.1 }
    { s with loom := { s.loom with ram := Mem.store s.loom.ram (4 * e.1) 4 e.2, recent := m :: s.loom.recent } }).pruneRecent

end Sys2Proof.Machine
end

