-- ==== Sys2Proof/Machine/Safety.lean ====
section
/-! DEFINITION. Safety controller (13_safety_controller, R314 to R342). Each channel holds its own line levels,
instance states, causes, output commands and readbacks and evaluates every function on them with its own copy of the parameters (R314);
`y` names a channel, false for SX and true for SY. Every event ends with `safeRefresh`: it works out restarts, the output commands, the trip
demand, the end of a brake test that a change of state aborts, and what the registers show. -/

namespace Sys2Proof.Machine

/-- State codes of an instance (R323). -/
def sInactive : Nat := 0
def sDemand : Nat := 1
def sReady : Nat := 2
def sRun : Nat := 3
def sStopping : Nat := 4
def sLockout : Nat := 5

/-- Cause bits of an instance (R342). -/
def cDisc : Nat := 0
def cIntest : Nat := 1
def cOuttest : Nat := 2
def cFb : Nat := 3
def cLock : Nat := 4
def cBtFail : Nat := 5
def cCtrl : Nat := 6

/-- The eight instances, the output pairs and the two channels. -/
def insts : List Nat := List.range 8
def outPairs : List Nat := List.range 4
def chans : List Bool := [false, true]

/-- A channel (R314). -/
def Dev.ch (s : Dev) (y : Bool) : SafeCh := if y then s.safe.y else s.safe.x
def Dev.setCh (s : Dev) (y : Bool) (c : SafeCh) : Dev :=
  { s with safe := if y then { s.safe with y := c } else { s.safe with x := c } }

/-- A field in one channel's copy of the parameters (R314, R338). -/
def parFld (t : Tab Nat) (F : Fld) (i : Nat := 0) : Nat := Tab.get F.rst t (F.key 0 i 0)
def Dev.par (s : Dev) (y : Bool) (F : Fld) (i : Nat := 0) : Nat := if y then parFld s.safe.yPar F i else s.f F i
def Dev.parOn (s : Dev) (y : Bool) (F : Fld) (i : Nat := 0) : Bool := decide (s.par y F i ≠ 0)

/-- The controller is in RUN (R338). -/
def Dev.safeRun (s : Dev) : Bool := s.flag F.SAFETY_STAT_MODE

/-! ## What one channel sees -/

/-- State and causes of an instance in a channel. -/
def Dev.stOf (s : Dev) (y : Bool) (i : Nat) : Nat := Tab.get 0 (s.ch y).st i
def Dev.causeOf (s : Dev) (y : Bool) (i : Nat) : Nat := Tab.get 0 (s.ch y).cause i

/-- The level of a line for evaluation: during its test window a line keeps its level from before the pulse (R320). -/
def Dev.line (s : Dev) (y : Bool) (k : Nat) : Bool := bitOf (s.ch y).lines k || bitOf (s.ch y).win k

/-- Both lines of a pair closed; both open; the two differ (R321). -/
def Dev.pairClosed (s : Dev) (y : Bool) (p : Nat) : Bool := s.line y (2 * p) && s.line y (2 * p + 1)
def Dev.pairOpen (s : Dev) (y : Bool) (p : Nat) : Bool := !s.line y (2 * p) && !s.line y (2 * p + 1)
def Dev.pairDiffers (s : Dev) (y : Bool) (p : Nat) : Bool := s.line y (2 * p) != s.line y (2 * p + 1)

def Dev.instType (s : Dev) (y : Bool) (i : Nat) : Nat := s.par y F.SAFETY_INST_CFG_TYPE i
def Dev.inPair (s : Dev) (y : Bool) (i : Nat) : Nat := s.par y F.SAFETY_INST_CFG_IN i
def Dev.auxPair (s : Dev) (y : Bool) (i : Nat) : Nat := s.par y F.SAFETY_INST_CFG_AUX i

/-- A GUARD instance with its lock-monitor pair (R322). -/
def Dev.hasAux (s : Dev) (y : Bool) (i : Nat) : Bool := decide (s.instType y i = 2) && s.parOn y F.SAFETY_INST_CFG_AUX_EN i

/-- The pairs that an instance uses (R322), and whether it uses a line. -/
def Dev.instPairs (s : Dev) (y : Bool) (i : Nat) : List Nat :=
  if s.instType y i = 0 then [] else s.inPair y i :: (if s.hasAux y i then [s.auxPair y i] else [])
def Dev.usesLine (s : Dev) (y : Bool) (i k : Nat) : Bool := (s.instPairs y i).contains (k / 2)

/-- The output pairs whose members include the instance (R322, R326). -/
def Dev.pairsOf (s : Dev) (y : Bool) (i : Nat) : List Nat := outPairs.filter fun j => bitOf (s.par y F.SAFETY_OUT_CFG_MEMBERS j) i

/-- Every line that restarting needs is closed (R323); a BRAKE instance's feedback is judged by R325 alone (log entry 21). -/
def Dev.linesClosed (s : Dev) (y : Bool) (i : Nat) : Bool :=
  decide (s.instType y i = 3) || (s.pairClosed y (s.inPair y i) && (!s.hasAux y i || s.pairClosed y (s.auxPair y i)))

/-- The lock-release pair of a GUARD instance (R324, R342). -/
def Dev.ulkPair (s : Dev) (y : Bool) (i : Nat) : Option Nat :=
  let u := s.par y F.SAFETY_INST_CFG_ULK i
  if s.instType y i = 2 ∧ bitOf u 2 then some (u % 4) else none

/-- The instance's bit of `INST_REQ`. -/
def Dev.instReq (s : Dev) (i : Nat) : Bool := bitOf (s.f F.SAFETY_INST_REQ_REQ) i

/-- The channel commands output pair `j` on; the lock is released (R324). -/
def Dev.outOn (s : Dev) (y : Bool) (j : Nat) : Bool := bitOf (s.ch y).out j
def Dev.unlocked (s : Dev) (y : Bool) (i : Nat) : Bool :=
  match s.ulkPair y i with
  | none => false
  | some j => s.outOn y j

/-- In RUN or STOPPING. -/
def Dev.instGoes (s : Dev) (y : Bool) (i : Nat) : Bool := decide (s.stOf y i = sRun) || decide (s.stOf y i = sStopping)

/-- A brake test is in progress on an instance (R332). -/
def Dev.btOn (s : Dev) (i : Nat) : Bool :=
  decide (s.f F.SAFETY_BT_STAT_PHASE ≠ 0) && decide (s.f F.SAFETY_BT_CFG_INST = i)

/-- The instance grants permission (R323, R332). -/
def Dev.grants (s : Dev) (y : Bool) (i : Nat) : Bool :=
  s.instGoes y i && (!decide (s.instType y i = 3) ||
    (s.instReq i && !s.btOn i && (bitList 8 (s.par y F.SAFETY_INST_CFG_LINK i)).all fun l => s.instGoes y l))

/-- The condition of a demand on an instance's lines (R322, R324): a BRAKE instance has none. -/
def Dev.lineDemand (s : Dev) (y : Bool) (i : Nat) : Bool :=
  !decide (s.instType y i = 3) &&
    (!s.pairClosed y (s.inPair y i) ||
      (s.hasAux y i && decide (s.stOf y i = sRun) && !s.pairClosed y (s.auxPair y i) && !s.unlocked y i))

/-- LOCK: a guard-closed line is open while both lock-monitor lines read locked and the lock-release pair is off (R324). -/
def Dev.lockCause (s : Dev) (y : Bool) (i : Nat) : Bool :=
  s.hasAux y i && !s.pairClosed y (s.inPair y i) && s.pairClosed y (s.auxPair y i) && !s.unlocked y i

/-- The feedback of a BRAKE instance does not follow its brake pair (R325). -/
def Dev.fbMismatch (s : Dev) (y : Bool) (i : Nat) : Bool :=
  (s.pairsOf y i).any fun j =>
    if s.outOn y j then !s.pairClosed y (s.inPair y i) else !s.pairOpen y (s.inPair y i)

/-! ## What one channel does -/

/-- A new state of an instance. -/
def Dev.instGo (s : Dev) (y : Bool) (i st : Nat) : Dev := s.setCh y { s.ch y with st := Tab.set 0 (s.ch y).st i st }

/-- A cause: LOCKOUT from any state but INACTIVE (R323). -/
def Dev.instFail (s : Dev) (y : Bool) (i c : Nat) : Dev :=
  if s.stOf y i = sInactive then s
  else
    let s := s.instGo y i sLockout
    s.setCh y { s.ch y with cause := Tab.set 0 (s.ch y).cause i (putBit (s.causeOf y i) c true) }

/-- A demand (R323): category 1 stops first, from RUN. -/
def Dev.instDemand (s : Dev) (y : Bool) (i : Nat) : Dev :=
  if s.stOf y i = sRun then s.instGo y i (if s.parOn y F.SAFETY_INST_CFG_STOP_CAT i then sStopping else sDemand)
  else if s.stOf y i = sReady then s.instGo y i sDemand
  else s

/-- A category 1 stop ends (R328). -/
def Dev.cat1End (s : Dev) (y : Bool) (i : Nat) : Dev := if s.stOf y i = sStopping then s.instGo y i sDemand else s

/-- The trips that turn off TRIP_PAIR, as the channel reads them (R331). -/
def Dev.tripsSo (s : Dev) (y : Bool) : Bool :=
  decide (Nat.land (Nat.lor (s.f F.SAFETY_TRIP_STAT_LATCH) (Nat.land (s.ch y).trip (s.par y F.SAFETY_TRIP_CFG_EN)))
    (s.par y F.SAFETY_TRIP_CFG_SO_EN) ≠ 0)

/-- The GUARD instance whose lock-release pair is `j`. -/
def Dev.ulkOwner (s : Dev) (y : Bool) (j : Nat) : Option Nat := insts.find? fun i => decide (s.ulkPair y i = some j)

/-- The command of output pair `j` (R318, R324, R326, R331). -/
def Dev.pairCmd (s : Dev) (y : Bool) (j : Nat) : Bool :=
  s.safeRun && s.parOn y F.SAFETY_OUT_CFG_EN j && !s.flag F.SAFETY_STAT_CFAULT &&
  !(s.tripsSo y && bitOf (s.par y F.SAFETY_TRIP_CFG_TRIP_PAIR) j) &&
  (match s.ulkOwner y j with
   | some i => s.instReq i && (decide (s.stOf y i = sDemand) || decide (s.stOf y i = sReady)) &&
       (!s.parOn y F.SAFETY_INST_CFG_STILL_REQ i || s.flag F.ANGLE_STAT_STILL 0)
   | none => (bitList 8 (s.par y F.SAFETY_OUT_CFG_MEMBERS j)).all fun i => s.grants y i)

/-- The channel's output of pair `j` takes its command. -/
def Dev.cmdSet (s : Dev) (y : Bool) (j : Nat) : Dev := s.setCh y { s.ch y with out := putBit (s.ch y).out j (s.pairCmd y j) }

/-- Instances in DEMAND restart once their lines are closed (R323). -/
def Dev.restart (s : Dev) (y : Bool) (may : Nat → Bool) : Dev :=
  s.each insts fun s i =>
    s.iff (decide (s.stOf y i = sDemand) && may i && s.linesClosed y i)
      fun s => s.instGo y i (if s.parOn y F.SAFETY_INST_CFG_RESTART i then sRun else sReady)

/-- The instances act on line `k`, which has opened: a cause first, then a demand (R322 to R324). -/
def Dev.lineEvents (s : Dev) (y : Bool) (k : Nat) : Dev :=
  s.each insts fun s i =>
    if s.stOf y i = sInactive ∨ ¬ s.usesLine y i k then s
    else if k / 2 = s.inPair y i ∧ s.lockCause y i then s.instFail y i cLock
    else if s.lineDemand y i then s.instDemand y i
    else s

/-- A line passes the check of a pulse (R320, R336). -/
def Dev.itPassed (s : Dev) (y : Bool) (k : Nat) : Dev :=
  let c := s.ch y
  if bitOf c.itFail k then
    if Tab.get 0 c.itPass k = 0 then s.setCh y { c with itPass := Tab.set 0 c.itPass k 1 }
    else s.setCh y { c with itPass := Tab.set 0 c.itPass k 0, itFail := putBit c.itFail k false }
  else s

/-- A line fails the check of a pulse: cause INTEST for every instance that uses it (R320). -/
def Dev.itFailed (s : Dev) (y : Bool) (k : Nat) : Dev :=
  let c := s.ch y
  let s := s.setCh y { c with itPass := Tab.set 0 c.itPass k 0, itFail := putBit c.itFail k true }
  s.each insts fun s i => s.iff (s.usesLine y i k) fun s => s.instFail y i cIntest

/-- A readback check of pair `j` fails: cause OUTTEST for every member (R326). -/
def Dev.outFail (s : Dev) (y : Bool) (j : Nat) : Dev :=
  let s := s.setCh y { s.ch y with outFail := putBit (s.ch y).outFail j true }
  s.each (bitList 8 (s.par y F.SAFETY_OUT_CFG_MEMBERS j)) fun s i => s.instFail y i cOuttest

/-- The channel samples the readbacks of pair `j`: bits 2j and 2j + 1 (R326). -/
def Dev.setRb (s : Dev) (y : Bool) (j : Nat) (a b : Bool) : Dev :=
  s.setCh y { s.ch y with rb := putBit (putBit (s.ch y).rb (2 * j) a) (2 * j + 1) b }

/-- Both channels act. -/
def Dev.both (s : Dev) (g : Dev → Bool → Dev) : Dev := s.each chans g

/-- A cause of an instance clears, in both channels (R336). -/
def Dev.causeGone (s : Dev) (i c : Nat) : Dev :=
  s.both fun s y => s.setCh y { s.ch y with cause := Tab.set 0 (s.ch y).cause i (putBit (s.causeOf y i) c false) }

/-! ## What the registers show, and the trip demand -/

/-- Where the channels differ the registers show the state further from RUN (log entry 160). -/
def worseState (a b : Nat) : Nat :=
  ([sLockout, sDemand, sReady, sStopping, sRun].find? fun c => decide (c = a) || decide (c = b)).getD 0

/-- The channels differ in a qualified line level, an instance state or an output command (R317). -/
def Safe.differ (t : Safe) : Bool := decide (t.x.lines ≠ t.y.lines) || decide (t.x.st ≠ t.y.st) || decide (t.x.out ≠ t.y.out)

/-- State and causes as shown. -/
def Dev.instState (s : Dev) (i : Nat) : Nat := worseState (s.stOf false i) (s.stOf true i)
def Dev.instCause (s : Dev) (i : Nat) : Nat := Nat.lor (s.causeOf false i) (s.causeOf true i)

/-- What `INST_STAT` shows (R342), with the counts of transitions. -/
def Dev.showInst (s : Dev) (i : Nat) : Dev :=
  let was := s.f F.SAFETY_INST_STAT_STATE i
  let st := s.instState i
  let s := s.iff (decide (was = sRun) && decide (st ≠ sRun)) fun s => s.inc F.SAFETY_CNT_DEMANDS 1
  let s := s.iff (decide (was ≠ sLockout) && decide (st = sLockout)) fun s => s.inc F.SAFETY_CNT_LOCKOUTS 1
  let p := s.inPair false i
  let q := s.auxPair false i
  let w := fun (l : Nat) => b2n (bitOf l (2 * p)) * 8 + b2n (bitOf l (2 * p + 1)) * 4 + b2n (bitOf l (2 * q)) * 2 + b2n (bitOf l (2 * q + 1))
  (((s.put F.SAFETY_INST_STAT_STATE st i).put F.SAFETY_INST_STAT_CAUSE (s.instCause i) i).put F.SAFETY_INST_STAT_LINES_X (w s.safe.x.lines) i).put
    F.SAFETY_INST_STAT_LINES_Y (w s.safe.y.lines) i

/-- A condition's time starts now. -/
def Dev.startTimer (s : Dev) (k : Nat) : Dev := { s with safe := { s.safe with since := Tab.put s.safe.since k s.time.frc } }

/-- Time goes on until the condition has lasted `ms` thousandths of a second, or `us` millionths. -/
def Dev.lastedUs (s : Dev) (k us : Nat) : Dev := s.frcTo (Tab.get 0 s.safe.since k + us * 200)
def Dev.lasted (s : Dev) (k ms : Nat) : Dev := s.lastedUs k (ms * 1000)

/-- A pair is on where both channels command it; one that turns off during an off-pulse discards the pulse (R327). -/
def Dev.pairOn (s : Dev) (j : Nat) : Bool := s.outOn false j && s.outOn true j
def Dev.pairShow (s : Dev) (j : Nat) : Dev :=
  let on := s.pairOn j
  let s := s.iff (!on && s.flag F.SAFETY_OUT_STAT_TEST j) fun s => (s.put F.SAFETY_OUT_STAT_TEST 0 j).inc F.SAFETY_OUT_STAT_DISC_CNT 1 j
  let s := s.iff (!on) fun s => { s with safe := { s.safe with pulsed := Tab.set 0 s.safe.pulsed j 0 } }
  let s := s.iff (!on && s.flag F.SAFETY_OUT_STAT_ON j) fun s => s.startTimer (48 + j)
  s.put F.SAFETY_OUT_STAT_ON (b2n on) j

/-- The trip demand (R330). -/
def Dev.tripDemand (s : Dev) : Bool :=
  !s.safeRun || s.flag F.SAFETY_STAT_CFAULT || s.flag F.SAFETY_TRIP_STAT_LATCH || s.flag F.SAFETY_TRIP_STAT_ORPHAN ||
  chans.any fun y => insts.any fun i => s.parOn y F.SAFETY_INST_CFG_TRIP_EN i &&
    (decide (s.stOf y i = sDemand) || decide (s.stOf y i = sReady) || decide (s.stOf y i = sLockout))

/-- The end of a brake test with a result (R332). -/
def Dev.btEnd (s : Dev) (result : Nat) : Dev := (s.put F.SAFETY_BT_STAT_PHASE 0).put F.SAFETY_BT_STAT_RESULT result

/-- The brake test is aborted by a demand or a change of state of its instance or of its LINK instances, in either channel (R332). -/
def Dev.btWatch (s : Dev) (was : Dev) : Dev :=
  let i := s.f F.SAFETY_BT_CFG_INST
  s.iff (decide (s.f F.SAFETY_BT_STAT_PHASE ≠ 0) &&
      chans.any fun y => (i :: bitList 8 (s.par y F.SAFETY_INST_CFG_LINK i)).any fun l =>
        decide (s.stOf y l ≠ was.stOf y l) || (s.lineDemand y l && !was.lineDemand y l))
    fun s => s.btEnd 3

/-- The conditions that a time limit watches: 0 to 7 an instance in STOPPING (R328), 8 to 15 a pair whose lines differ (R321), 16 to 23 and
24 to 31 feedback that does not follow and that reads applied with the brake off (R325, R336), 32 to 35 an output pair off with its readbacks
off (R336), 36 and 37 the phases of a brake test (R332), 38 channels that differ (R317). -/
def Dev.holds (s : Dev) (k : Nat) : Bool :=
  let off := fun (j : Nat) => !s.outOn false j && !s.outOn true j
  if k < 8 then chans.any fun y => decide (s.stOf y k = sStopping)
  else if k < 16 then chans.any fun y => s.pairDiffers y (k - 8)
  else if k < 24 then chans.any fun y => decide (s.instType y (k - 16) = 3) && s.fbMismatch y (k - 16)
  else if k < 32 then chans.all fun y => (s.pairsOf y (k - 24)).all off && s.pairOpen y (s.inPair y (k - 24))
  else if k < 36 then
    off (k - 32) && chans.all fun y => !bitOf (s.ch y).rb (2 * (k - 32)) && !bitOf (s.ch y).rb (2 * (k - 32) + 1)
  else if k < 38 then decide (s.f F.SAFETY_BT_STAT_PHASE = k - 35)
  else s.safe.differ

/-- The conditions that began with an event; that of a feedback begins anew at every change of its output (R325). -/
def Dev.startTimers (was s : Dev) : Dev :=
  s.each ((List.range 39).filter fun k => s.holds k && (!was.holds k ||
      (decide (16 ≤ k) && decide (k < 24) && chans.any fun y => (s.pairsOf y (k - 16)).any fun j => s.outOn y j != was.outOn y j)))
    Dev.startTimer

/-- After an event: `was` is the device before it. Instances that stay in DEMAND restart once their lines are closed
(R323); then test, trip latches, outputs, trip demand and what is shown follow. -/
def Dev.safeRefresh (was s : Dev) : Dev :=
  let s := s.iff s.safeRun fun s => s.both fun s y => s.restart y fun i => decide (was.stOf y i = sDemand)
  let s := s.btWatch was
  let s := s.put F.SAFETY_TRIP_STAT_LATCH
    (Nat.lor (s.f F.SAFETY_TRIP_STAT_LATCH) (Nat.land (s.f F.SAFETY_TRIP_STAT_LEVEL) (s.f F.SAFETY_TRIP_CFG_EN)))
  let s := s.both fun s y => s.each outPairs fun s j => s.cmdSet y j
  let s := s.each outPairs Dev.pairShow
  let s := s.put F.SAFETY_TRIP_STAT_DEMAND (b2n s.tripDemand)
  Dev.startTimers was (s.each insts Dev.showInst)

/-! ## Events -/

/-- A controller fault (R318): cause bit of `STAT.CCAUSE`. -/
def Dev.ctlFault (s : Dev) (c : Nat) : Dev :=
  let s := (s.raise F.SAFETY_STAT_CFAULT).setBit F.SAFETY_STAT_CCAUSE c true
  s.both fun s y => s.each insts fun s i => s.instFail y i cCtrl

/-- A cause of the controller fault clears (R335). -/
def Dev.ctlClear (s : Dev) (c : Nat) : Dev := s.setBit F.SAFETY_STAT_CCAUSE c false

/-- Causes that clear with the lines: DISC once both lines of the pair have read open and agree, LOCK once guard and lock
read closed, as both channels judge (R336). -/
def Dev.clearByLines (s : Dev) : Dev :=
  let s := s.both fun s y => s.each (List.range 8) fun s p =>
    s.iff (bitOf (s.ch y).disc p && s.pairOpen y p) fun s => s.setCh y { s.ch y with disc := putBit (s.ch y).disc p false }
  s.each insts fun s i =>
    let s := s.iff (chans.all fun y => (s.instPairs y i).all fun p => !bitOf (s.ch y).disc p) fun s => s.causeGone i cDisc
    s.iff (chans.all fun y => s.pairClosed y (s.inPair y i) && s.pairClosed y (s.auxPair y i)) fun s => s.causeGone i cLock

/-- INTEST clears once every failing line of the instance has passed two consecutive pulses (R336). -/
def Dev.clearIntest (s : Dev) : Dev :=
  s.each insts fun s i =>
    s.iff (chans.all fun y => (List.range 16).all fun k => !(s.usesLine y i k && bitOf (s.ch y).itFail k)) fun s => s.causeGone i cIntest

/-- A line qualifies at a level in a channel (R319); a line that closes again ends its test window and passes (R320). -/
def Dev.lineQualify (s : Dev) (y : Bool) (k : Nat) (closed : Bool) : Dev :=
  if 16 ≤ k then s
  else
    let was := s
    let inWin := bitOf (s.ch y).win k
    let s := s.setCh y { s.ch y with lines := putBit (s.ch y).lines k closed }
    if ¬ s.safeRun then Dev.safeRefresh was s
    else
      let s := s.iff (closed && inWin) fun s => (s.setCh y { s.ch y with win := putBit (s.ch y).win k false }).itPassed y k
      let s := s.iff (!closed) fun s => s.lineEvents y k
      Dev.safeRefresh was s.clearByLines.clearIntest

/-- `TPt` pulses low, and each line assigned to it is read on the last tick of the pulse: `openX` and `openY` hold the
lines that read open in SX and in SY (R320). A line closed before the pulse then is in its test window; one that was open is not judged (log
entry 161). -/
def Dev.testPulse (s : Dev) (t openX openY : Nat) : Dev :=
  if ¬ s.safeRun ∨ 4 ≤ t then s
  else
    let was := s
    let s := s.both fun s y => s.each ((List.range 16).filter fun k => decide (s.par y F.SAFETY_LINE_CFG_TP k = t + 1)) fun s k =>
      if bitOf (if y then openY else openX) k then
        s.iff (bitOf (s.ch y).lines k) fun s => s.setCh y { s.ch y with win := putBit (s.ch y).win k true }
      else s.itFailed y k
    Dev.safeRefresh was (s.clearIntest.startTimer (40 + t))

/-- A line is not closed again within 500 µs after its pulse: cause INTEST, and its test window ends (R320). -/
def Dev.intestCheck (s : Dev) (k : Nat) : Dev :=
  if s.safeRun ∧ chans.any fun y => bitOf (s.ch y).win k then
    let s := s.lastedUs (40 + (s.f F.SAFETY_LINE_CFG_TP k - 1)) 500
    Dev.safeRefresh s (s.both fun s y => s.iff (bitOf (s.ch y).win k) fun s =>
      (s.setCh y { s.ch y with win := putBit (s.ch y).win k false }).itFailed y k)
  else s

/-- DISC_T of the instance that uses a pair. -/
def Dev.discTime (s : Dev) (p : Nat) : Nat :=
  match insts.find? fun i => (s.instPairs false i).contains p with
  | some i => s.f F.SAFETY_INST_TIME_DISC_T i
  | none => 0

/-- A pair's lines have disagreed for DISC_T (R321). -/
def Dev.discrepancy (s : Dev) (p : Nat) : Dev :=
  if s.safeRun ∧ p < 8 ∧ s.holds (8 + p) then
    let s := s.lasted (8 + p) (s.discTime p)
    Dev.safeRefresh s (s.both fun s y =>
      s.iff (s.pairDiffers y p && insts.any fun i => (s.instPairs y i).contains p) fun s =>
        (s.setCh y { s.ch y with disc := putBit (s.ch y).disc p true }).each insts fun s i =>
          s.iff ((s.instPairs y i).contains p) fun s => s.instFail y i cDisc)
  else s

/-- A mismatch has lasted FB_T (R325). -/
def Dev.fbFault (s : Dev) (i : Nat) : Dev :=
  if s.safeRun ∧ i < 8 ∧ s.holds (16 + i) then
    let s := s.lasted (16 + i) (s.f F.SAFETY_INST_TIME_FB_T i)
    Dev.safeRefresh s (s.both fun s y => s.iff (decide (s.instType y i = 3) && s.fbMismatch y i) fun s => s.instFail y i cFb)
  else s

/-- An output of a pair that is on is pulsed off: SX's or SY's; `rbX` and `rbY` are its readback on the last tick of the pulse, as SX and SY
sample it (R326). -/
def Dev.offPulse (s : Dev) (j : Nat) (y rbX rbY : Bool) : Dev :=
  if s.safeRun ∧ s.pairOn j then
    let s1 := s.put (if y then F.SAFETY_OUT_STAT_SRB_Y else F.SAFETY_OUT_STAT_SRB_X) (b2n (if y then rbY else rbX)) j
    let s1 := s1.both fun s c =>
      let rb := if c then rbY else rbX
      (s.setRb c j (if y then bitOf (s.ch c).rb (2 * j) else rb) (if y then rb else bitOf (s.ch c).rb (2 * j + 1))).iff rb fun s => s.outFail c j
    if rbX || rbY then Dev.safeRefresh s s1
    else Dev.safeRefresh s ((({ s1 with safe := { s1.safe with pulsed := Tab.set 0 s1.safe.pulsed j (if y then 2 else 1) } }).raise
      F.SAFETY_OUT_STAT_TEST j).startTimer (48 + j))
  else s

/-- The check 200 µs after an off-pulse or an off command: bits 0 and 1 of `seenX` and `seenY` are the readbacks of `SO2j` and `SO2j+1` as
SX and SY sample them (R326). -/
def Dev.outtestCheck (s : Dev) (j seenX seenY : Nat) : Dev :=
  let seen := fun (c : Bool) => if c then seenY else seenX
  let s := s.lastedUs (48 + j) 200
  let s1 := s.both fun s c => s.setRb c j (bitOf (seen c) 0) (bitOf (seen c) 1)
  let s1 := (s1.put F.SAFETY_OUT_STAT_SRB_X (b2n (bitOf seenX 0)) j).put F.SAFETY_OUT_STAT_SRB_Y (b2n (bitOf seenY 1)) j
  if ¬ s.safeRun then s1
  else if s.flag F.SAFETY_OUT_STAT_TEST j then
    let back := fun (c : Bool) => bitOf (seen c) (Tab.get 0 s.safe.pulsed j - 1)
    let s2 := ({ s1 with safe := { s1.safe with pulsed := Tab.set 0 s1.safe.pulsed j 0 } }).put F.SAFETY_OUT_STAT_TEST 0 j
    Dev.safeRefresh s (if back false && back true then s2.inc F.SAFETY_OUT_STAT_PASS_CNT 1 j
      else s2.both fun s c => s.iff (!back c) fun s => s.outFail c j)
  else
    Dev.safeRefresh s (s1.both fun s c =>
      s.iff (s.parOn c F.SAFETY_OUT_CFG_EN j && ((!s.outOn false j && bitOf (seen c) 0) || (!s.outOn true j && bitOf (seen c) 1)))
        fun s => s.outFail c j)

/-- OUTTEST and FB clear (R336): both readbacks of the failed pairs have read off for 1 s with the pair off; both feedback
lines have read applied for FB_T with the brake pair off; as both channels judge. -/
def Dev.causeClear (s : Dev) (i : Nat) : Dev :=
  if ¬ s.safeRun ∨ 8 ≤ i then s
  else
    let s := s.each (bitList 4 (Nat.lor s.safe.x.outFail s.safe.y.outFail)) fun s j =>
      s.iff ((s.pairsOf false i).contains j && s.holds (32 + j)) fun s => s.lasted (32 + j) 1000
    let s := s.iff (bitOf (s.instCause i) cFb && s.holds (24 + i)) fun s => s.lasted (24 + i) (s.f F.SAFETY_INST_TIME_FB_T i)
    let s1 := s.both fun s y => s.each (s.pairsOf y i) fun s j =>
      s.iff (s.holds (32 + j)) fun s => s.setCh y { s.ch y with outFail := putBit (s.ch y).outFail j false }
    let s1 := s1.each insts fun s l =>
      s.iff (chans.all fun y => (s.pairsOf y l).all fun j => !bitOf (s.ch y).outFail j) fun s => s.causeGone l cOuttest
    Dev.safeRefresh s (s1.iff (s1.holds (24 + i)) fun s => s.causeGone i cFb)

/-- CAT1_T expires (R328). -/
def Dev.cat1Timeout (s : Dev) (i : Nat) : Dev :=
  if s.safeRun ∧ i < 8 ∧ s.holds i then
    let s := s.lasted i (s.f F.SAFETY_INST_TIME_CAT1_T i)
    Dev.safeRefresh s (s.both fun s y => s.cat1End y i)
  else s

/-- An exchange between the channels (R317): a difference that ended without a fault was tolerated; XCMP clears when they
agree after a reset (R335). -/
def Dev.xcmpExchange (s : Dev) : Dev :=
  if ¬ s.safeRun then s
  else
    let was := s
    let d := s.safe.differ
    let s := s.iff (s.safe.diff && !d && !bitOf (s.f F.SAFETY_STAT_CCAUSE) 0) fun s => s.inc F.SAFETY_CNT_XCMP_DIFF 1
    let s := s.iff (!d && s.safe.xRst) fun s => s.ctlClear 0
    Dev.safeRefresh was { s with safe := { s.safe with diff := d, xRst := s.safe.xRst && d } }

/-- A difference has lasted XCMP_T (R317, R318). -/
def Dev.xcmpFault (s : Dev) : Dev :=
  if s.safeRun ∧ s.safe.differ then
    let s := s.lastedUs 38 (s.f F.SAFETY_XCMP_CFG_XCMP_T)
    Dev.safeRefresh s ({ s with safe := { s.safe with diff := true, xRst := false } }.ctlFault 0)
  else s

/-- A channel counted the other's ticks over 1 ms of its own: 50 000 nominal, ±2 % (R317). -/
def Dev.clockCheck (s : Dev) (y : Bool) (ticks : Nat) : Dev :=
  if ¬ s.safeRun then s
  else
    let ok := decide (49000 ≤ ticks) && decide (ticks ≤ 51000)
    let s1 := { s with safe := { s.safe with clkBad := putBit s.safe.clkBad (b2n y) (!ok) } }
    Dev.safeRefresh s (if ok then s1.iff (decide (s1.safe.clkBad = 0)) (fun s => s.ctlClear 1) else s1.ctlFault 1)

/-- The check of the other channel's supply (R317): cause SUPPLY_X or SUPPLY_Y, cleared when it passes. -/
def Dev.supplyFault (s : Dev) (y inside : Bool) : Dev :=
  if ¬ s.safeRun then s
  else
    let c := if y then 3 else 2
    Dev.safeRefresh s (if inside then s.ctlClear c else s.ctlFault c)

/-- The parameter registers but `PARAM_CRC` itself, in ascending offset order (R338; log entry 22). -/
def paramRegs : List (Reg × Nat) :=
  [(F.regSafetyXcmpCfg, 0)] ++
  (insts.flatMap fun i => [(F.regSafetyInstCfg, i), (F.regSafetyInstTime, i)]) ++
  ((List.range 16).map fun k => (F.regSafetyLineCfg, k)) ++ [(F.regSafetyTpCfg, 0)] ++
  ((List.range 4).map fun j => (F.regSafetyOutCfg, j)) ++
  [(F.regSafetyTripCfg, 0), (F.regSafetyBtCfg, 0), (F.regSafetyBtAng, 0), (F.regSafetyBtTorque, 0), (F.regSafetyBtTmo, 0)]

/-- A register's word in one channel's copy. -/
def parWord (t : Tab Nat) (r : Reg × Nat) : Nat := r.1.flds.foldl (fun w F => w + parFld t F r.2 * 2 ^ F.lo) 0

/-- The CRC of a copy of the parameters (R338). -/
def paramCrc (t : Tab Nat) : Nat :=
  crc32 (paramRegs.flatMap fun r => bytesOf (if r.1.wide then 8 else 4) (parWord t r))

/-- A value in a range. -/
def within (lo hi v : Nat) : Bool := decide (lo ≤ v) && decide (v ≤ hi)

/-- The checks of R338 on a copy. -/
def paramChecks (t : Tab Nat) : Bool :=
  let used := insts.flatMap fun i =>
    (if parFld t F.SAFETY_INST_CFG_TYPE i = 0 then [] else [parFld t F.SAFETY_INST_CFG_IN i]) ++
    (if parFld t F.SAFETY_INST_CFG_TYPE i = 2 ∧ parFld t F.SAFETY_INST_CFG_AUX_EN i = 1 then [parFld t F.SAFETY_INST_CFG_AUX i] else [])
  insts.all (fun i => !(decide (parFld t F.SAFETY_INST_CFG_TYPE i = 1) && decide (parFld t F.SAFETY_INST_CFG_RESTART i = 1))) &&
  (List.range 8).all (fun p => decide (used.count p ≤ 1)) &&
  (List.range 8).all (fun p => decide (parFld t F.SAFETY_LINE_CFG_TP (2 * p) = 0) ||
    decide (parFld t F.SAFETY_LINE_CFG_TP (2 * p) ≠ parFld t F.SAFETY_LINE_CFG_TP (2 * p + 1))) &&
  within 10 1000 (parFld t F.SAFETY_XCMP_CFG_XCMP_T) &&
  insts.all (fun i => within 1 4095 (parFld t F.SAFETY_INST_TIME_CAT1_T i) && within 1 1000 (parFld t F.SAFETY_INST_TIME_DISC_T i) &&
    within 1 1000 (parFld t F.SAFETY_INST_TIME_FB_T i)) &&
  (List.range 16).all (fun k => within 0 4 (parFld t F.SAFETY_LINE_CFG_TP k) && within 1 15 (parFld t F.SAFETY_LINE_CFG_IN_FILT k)) &&
  within 10 1000 (parFld t F.SAFETY_TP_CFG_TPP) && within 50 1000 (parFld t F.SAFETY_TP_CFG_TPW) &&
  (List.range 4).all (fun j => within 1 60 (parFld t F.SAFETY_OUT_CFG_OT_INT j) && within 10 80 (parFld t F.SAFETY_OUT_CFG_OT_W j))

/-- The CRC check of a channel's own copy (R317). -/
def Dev.paramCrcCheck (s : Dev) (y : Bool) : Dev :=
  if ¬ s.safeRun then s
  else
    let t := if y then s.safe.yPar else s.safe.regs
    let ok := decide (paramCrc t = parFld t F.SAFETY_PARAM_CRC_CRC)
    let s1 := { s with safe := { s.safe with parBad := putBit s.safe.parBad (b2n y) (!ok) } }
    Dev.safeRefresh s (if ok then s1.iff (decide (s1.safe.parBad = 0)) (fun s => s.ctlClear 4) else s1.ctlFault 4)

/-- A write of `CTL.RUN` = 1 (R338). -/
def Dev.safetyRun (s : Dev) : Acted :=
  if s.safeRun then (.ok, s)
  else
    let good := fun (t : Tab Nat) => decide (paramCrc t = parFld t F.SAFETY_PARAM_CRC_CRC) && paramChecks t
    if good s.safe.regs && good s.safe.yPar then
      let s1 := ({ s with safe := { s.safe with driven := true } }.put F.SAFETY_CTL_RUN 1).put F.SAFETY_STAT_MODE 1
      (.ok, Dev.safeRefresh s (s1.both fun s y => s.each insts fun s i =>
        if s.stOf y i = sInactive ∧ s.instType y i ≠ 0 then s.instGo y i sDemand
        else if s.stOf y i = sDemand ∧ s.instType y i = 0 then s.instGo y i sInactive
        else s))
    else s.deny .invalid

/-- A write of `CTL.RUN` = 0 (R338). -/
def Dev.safetyConfig (s : Dev) : Acted :=
  if s.safeRun ∧ chans.any (fun y => insts.any fun i => s.instGoes y i || decide (s.stOf y i = sReady)) then s.deny .busy
  else (.ok, Dev.safeRefresh s ((s.put F.SAFETY_CTL_RUN 0).put F.SAFETY_STAT_MODE 0))

/-- `TRIPk` reaches a level (R330, R331): active as POL says; both channels read it too. -/
def Dev.tripInput (s : Dev) (k : Nat) (high : Bool) : Dev :=
  let s1 := s.both fun s y => s.setCh y { s.ch y with trip := putBit (s.ch y).trip k (high != bitOf (s.par y F.SAFETY_TRIP_CFG_POL) k) }
  Dev.safeRefresh s (s1.setBit F.SAFETY_TRIP_STAT_LEVEL k (high != bitOf (s.f F.SAFETY_TRIP_CFG_POL) k))

/-- A write of `TRIP_CLR` (R330): refused while an input named is enabled and active. -/
def Dev.tripClr (s : Dev) (mask : Nat) : Acted :=
  if Nat.land mask (Nat.land (s.f F.SAFETY_TRIP_STAT_LEVEL) (s.f F.SAFETY_TRIP_CFG_EN)) ≠ 0 then s.deny .tripActive
  else (.ok, Dev.safeRefresh s (s.each (bitList 8 mask) fun s k => s.setBit F.SAFETY_TRIP_STAT_LATCH k false))

/-- A pulse of `SRST`: its length in ticks as SX and SY measure it and the ticks between the falling edges (R334 to
R336). -/
def Dev.srstPulse (s : Dev) (lenX lenY skew : Nat) : Dev :=
  if ¬ s.safeRun then s
  else if 250000000 < lenX ∨ 250000000 < lenY then s.raise F.SAFETY_STAT_SRST_LONG
  else if lenX < 5000000 ∨ lenY < 5000000 ∨ s.f F.SAFETY_XCMP_CFG_XCMP_T * 50 < skew then s
  else
    let was := s
    let s := (s.both fun s y => s.restart y fun _ => true).inc F.SAFETY_CNT_SRST_OK 1
    let s := s.iff (s.flag F.SAFETY_STAT_CFAULT && !s.flag F.SAFETY_STAT_CCAUSE) fun s =>
      s.put F.SAFETY_STAT_CFAULT 0
    let s := s.iff (!s.flag F.SAFETY_STAT_CFAULT) fun s => s.each insts fun s i => s.causeGone i cCtrl
    Dev.safeRefresh was (s.both fun s y => s.each insts fun s i =>
      if s.stOf y i = sReady then s.instGo y i sRun
      else if s.stOf y i = sLockout then
        (if s.instCause i = 0 then s.instGo y i sDemand else s.raise F.SAFETY_STAT_RST_REFUSED)
      else s)

/-- A write of `INST_REQ` (R324): setting the bit of a GUARD instance in RUN makes a demand. -/
def Dev.instReqWrite (s : Dev) (v : Nat) : Dev :=
  let old := s.f F.SAFETY_INST_REQ_REQ
  let s1 := s.put F.SAFETY_INST_REQ_REQ v
  Dev.safeRefresh s (s1.iff s1.safeRun fun s => s.both fun s y => s.each insts fun s i =>
    s.iff (bitOf v i && !bitOf old i && decide (s.instType y i = 2) && decide (s.stOf y i = sRun)) fun s => s.instDemand y i)

/-- `BT_CMD` op START (R332). -/
def Dev.btStart (s : Dev) : Acted :=
  let i := s.f F.SAFETY_BT_CFG_INST
  if s.instType false i ≠ 3 then s.deny .invalid
  else if s.f F.SAFETY_BT_STAT_PHASE ≠ 0 then s.deny .busy
  else if ¬ (s.safeRun ∧ (s.instState i = sRun ∨ (s.instState i = sLockout ∧ s.instCause i = 2 ^ cBtFail)) ∧ ¬ s.instReq i ∧
      chans.all (fun y => s.pairOpen y (s.inPair y i)) ∧ s.flag F.ANGLE_STAT_STILL 0) then s.deny .denied
  else
    let s1 := { s with safe := { s.safe with btLock := decide (s.instState i = sLockout) } }
    (.ok, Dev.safeRefresh s ((s1.put F.SAFETY_BT_STAT_PHASE 1).put F.SAFETY_BT_STAT_RESULT 0))

/-- `BT_CMD` op ABORT (R332). -/
def Dev.btAbort (s : Dev) : Dev :=
  if s.f F.SAFETY_BT_STAT_PHASE ≠ 0 then Dev.safeRefresh s (s.btEnd 3) else s

/-- BT_TMO expires in phase TORQUE (R332). -/
def Dev.btTorqueTimeout (s : Dev) : Dev :=
  if s.f F.SAFETY_BT_STAT_PHASE = 1 then
    let s := s.lasted 36 (s.f F.SAFETY_BT_TMO_TMO)
    Dev.safeRefresh s (s.btEnd 3)
  else s

/-- A sample of the angle in phase HOLD (R332). -/
def Dev.btSample (s : Dev) : Dev :=
  if s.f F.SAFETY_BT_STAT_PHASE = 2 then
    let m := (sgn 32 (wrap 32 ((s.angleNow 0 : Int) - (s.safe.btTheta : Int)))).natAbs
    let s1 := s.put F.SAFETY_BT_STAT_BT_MOVE (max (s.f F.SAFETY_BT_STAT_BT_MOVE) m)
    Dev.safeRefresh s (if s.f F.SAFETY_BT_ANG_ANG < m then (s1.btEnd 2).both fun s y => s.instFail y (s.f F.SAFETY_BT_CFG_INST) cBtFail else s1)
  else s

/-- BT_T elapses in phase HOLD: PASS (R332, R333, R336). -/
def Dev.btHoldEnd (s : Dev) : Dev :=
  if s.f F.SAFETY_BT_STAT_PHASE = 2 then
    let s := s.lasted 37 (s.f F.SAFETY_BT_CFG_BT_T)
    let s1 := { s with safe := { s.safe with btPassAt := s.time.frc } }
    let s1 := (s1.btEnd 1).put F.SAFETY_BT_STAT_BT_DUE 0
    Dev.safeRefresh s (s1.iff s.safe.btLock fun s => s.causeGone (s.f F.SAFETY_BT_CFG_INST) cBtFail)
  else s

/-- The hours since the last PASS reach BT_INT (R333). -/
def Dev.btDue (s : Dev) : Dev :=
  if s.f F.SAFETY_BT_TMO_BT_INT ≠ 0 then
    (s.frcTo (s.safe.btPassAt + s.f F.SAFETY_BT_TMO_BT_INT * (720 * 10 ^ 9))).raise F.SAFETY_BT_STAT_BT_DUE
  else s

/-- Hours since the last PASS, of nominal ticks of 5 ns (R333, R342). -/
def Dev.btHours (s : Dev) : Nat := min 0xFFFF ((s.time.frc - s.safe.btPassAt) / (720 * 10 ^ 9))

/-- An ingress item of the controller (R329). -/
def Dev.safeItem (s : Dev) (item : Nat) : Nat :=
  let torque := decide (s.f F.SAFETY_BT_STAT_PHASE ≠ 0)
  match item with
  | 0 =>
    s.f F.SAFETY_TRIP_STAT_DEMAND * 2 ^ 31 + b2n (insts.any fun i => decide (s.instState i = sStopping)) * 2 ^ 30 +
    b2n torque * 2 ^ 29 + insts.foldl (fun a i => a + b2n (decide (s.instState i = sStopping)) * 2 ^ (8 + i)) 0 +
    insts.foldl (fun a i => a + b2n (decide (s.instState i ≠ sInactive) && decide (s.instState i ≠ sRun)) * 2 ^ i) 0
  | 1 => if torque then s.f F.SAFETY_BT_TORQUE_TORQUE else 0
  | 2 => insts.foldl (fun a i => a + s.instState i * 2 ^ (4 * i)) 0
  | _ => 0

/-- Loom's SAFETY_FB egress (R328, R329, R332). -/
def Dev.safetyFb (s : Dev) (item v : Nat) : Dev :=
  if ¬ s.safeRun then s
  else match item with
    | 0 => Dev.safeRefresh s (s.both fun s y => s.each (bitList 8 v) fun s i => s.cat1End y i)
    | 1 =>
      if v ≠ 0 ∧ s.f F.SAFETY_BT_STAT_PHASE = 1 then
        let s1 := { s with safe := { s.safe with btTheta := s.angleNow 0 } }
        Dev.safeRefresh s ((s1.put F.SAFETY_BT_STAT_PHASE 2).put F.SAFETY_BT_STAT_BT_MOVE 0)
      else s
    | _ => s

/-- The PAIR_ORPHAN source (R308, R330). -/
def Dev.setOrphan (s : Dev) (on : Bool) : Dev := Dev.safeRefresh s (s.put F.SAFETY_TRIP_STAT_ORPHAN (b2n on))

/-- A write of a parameter reaches both channels' copies (R338): SY's copy follows SX's. -/
def Dev.mirrorPar (s : Dev) (R : Reg) (i : Nat) : Dev :=
  s.each R.flds fun s F => { s with safe := { s.safe with yPar := Tab.set F.rst s.safe.yPar (F.key 0 i 0) (s.f F i) } }

/-- After a write of `TRIP_CFG`: the active levels follow POL, and an active input that is now enabled latches (R330, R342). -/
def Dev.tripCfgSet (was s : Dev) : Dev :=
  let turn := Nat.xor (was.f F.SAFETY_TRIP_CFG_POL) (s.f F.SAFETY_TRIP_CFG_POL)
  let s := s.both fun s y => s.setCh y { s.ch y with trip := Nat.xor (s.ch y).trip turn }
  Dev.safeRefresh was (s.put F.SAFETY_TRIP_STAT_LEVEL (Nat.xor (s.f F.SAFETY_TRIP_STAT_LEVEL) turn))

/-- A per-block reset of SAFETY, and a warm reset (R337). -/
def Dev.safetyReset (s : Dev) : Dev :=
  let s1 := s.each insts fun s i =>
    let st := if s.instState i = sInactive ∨ s.instState i = sLockout then s.instState i else sDemand
    let c := s.instCause i
    s.both fun s y => s.setCh y { s.ch y with st := Tab.set 0 (s.ch y).st i st, cause := Tab.set 0 (s.ch y).cause i c }
  let s1 := (s1.btEnd 0).put F.SAFETY_BT_STAT_BT_MOVE 0
  let s1 := ((s1.put F.SAFETY_STAT_SRST_LONG 0).put F.SAFETY_STAT_RST_REFUSED 0).put F.SAFETY_INST_REQ_REQ 0
  let s1 := s1.each F.regSafetyCnt.flds fun s g => s.put g 0
  let s1 := s1.each (List.range 4) fun s j =>
    ((s.put F.SAFETY_OUT_STAT_TEST 0 j).put F.SAFETY_OUT_STAT_PASS_CNT 0 j).put F.SAFETY_OUT_STAT_DISC_CNT 0 j
  let s1 := s1.put F.SAFETY_TRIP_STAT_LATCH 0
  let s1 := { s1 with safe := { s1.safe with x := { s1.safe.x with win := 0 }, y := { s1.safe.y with win := 0 }, pulsed := [], xRst := true } }
  Dev.safeRefresh s s1

end Sys2Proof.Machine
end

