-- ==== Sys2Proof/Machine/Reel.lean ====
section
/-! DEFINITION. Reel disturbance recorder (15_reel_recorder, R365 to R383): sources and their updates, frames, triggers,
recording, record format, release, the checks of a configuration set, and reset. -/

namespace Sys2Proof.Machine

def ReelCh.fresh : ReelCh := { last := 0, upd := [] }
def ReelTrg.fresh : ReelTrg := { spent := false, prev := none }
def ReelInst.fresh : ReelInst :=
  { lastT := 0, from_ := 0, count := 0, fired := [], t0 := 0, src := 0, first := 0, trgT := 0, pre := 0, post := 0, postTrg := 0,
    flags := 0, cfgid := 0, missed := 0, missedAt := 0, ovwr := false, seq := 0 }

/-- States of an instance (R375). -/
def rIdle : Nat := 0
def rPre : Nat := 1
def rPost : Nat := 2
def rRearm : Nat := 3
def rFull : Nat := 4

def Dev.reelInst (s : Dev) (i : Nat) : ReelInst := Tab.get ReelInst.fresh s.reel.inst i
def Dev.setReelInst (s : Dev) (i : Nat) (x : ReelInst) : Dev :=
  { s with reel := { s.reel with inst := Tab.set ReelInst.fresh s.reel.inst i x } }
def Dev.reelState (s : Dev) (i : Nat) : Nat := s.f F.REEL_INST_STAT_STATE i
def Dev.reelCh (s : Dev) (k : Nat) : ReelCh := Tab.get ReelCh.fresh s.reel.ch k
def Dev.setReelCh (s : Dev) (k : Nat) (x : ReelCh) : Dev :=
  { s with reel := { s.reel with ch := Tab.set ReelCh.fresh s.reel.ch k x } }

/-- Source kinds (R367). -/
def kAdc : Nat := 1
def kLoom : Nat := 2
def kSv : Nat := 3
def kAngle : Nat := 4
def kSpindle : Nat := 5
def kCycle : Nat := 6
def kDig : Nat := 7

/-- The enabled channel entries of a set (R367), ascending. -/
def Dev.reelChans (s : Dev) (set : Nat) : List Nat := (List.range 256).filter fun k => decide (s.fs set F.REEL_CH_EN k = 1)

/-- The enabled channel entries of an instance. -/
def Dev.instChans (s : Dev) (set i : Nat) : List Nat :=
  (s.reelChans set).filter fun k => decide (s.fs set F.REEL_CH_INST k = i)

/-! ## Frames -/

/-- Bytes of one value (R371). -/
def Dev.chBytes (s : Dev) (set k : Nat) : Nat :=
  (if s.fs set F.REEL_CH_W32 k = 1 then 4 else 2) * (if s.fs set F.REEL_CH_RED k = 1 then 2 else 1)

/-- FRAME_LEN (R371). -/
def Dev.frameLen (s : Dev) (set i : Nat) : Nat :=
  ((s.instChans set i).foldl (fun a k => a + s.chBytes set k) 0 + 3) / 4 * 4

/-- The control period P in ns (R33). -/
def Dev.periodNs (s : Dev) : Nat := s.f F.GLOBAL_CYCLE_CTL_PERIOD * 50

/-- The frame period in ns (R369). -/
def Dev.framePeriod (s : Dev) (set i : Nat) : Nat :=
  if s.fs set F.REEL_INST_CFG_TBASE i = 1 then s.periodNs * s.fs set F.REEL_INST_CFG_DIV i
  else 25 * 2 ^ s.fs set F.REEL_INST_CFG_DIV i

/-- Ring length in frames: PRE + POST (R365). -/
def Dev.ringLen (s : Dev) (set i : Nat) : Nat := s.fs set F.REEL_INST_LEN_PRE i + s.fs set F.REEL_INST_LEN_POST i

/-- The slot size (R365). -/
def Dev.slotSize (s : Dev) (set i : Nat) : Nat :=
  s.fs set F.REEL_INST_AREA_SIZE i * 2 ^ 20 / s.fs set F.REEL_INST_AREA_SLOTS i / 64 * 64

/-- The BAR4 offset of a slot (R365). -/
def Dev.slotBase (s : Dev) (set i slot : Nat) : Nat := s.fs set F.REEL_INST_AREA_BASE i * 2 ^ 20 + slot * s.slotSize set i

/-- A value as the two or four bytes of a frame (R371). -/
def chValue (kind : Nat) (w32 : Bool) (v : Nat) : List Byte :=
  if w32 then bytesOf 4 v else if kind = kAdc then bytesOf 2 v else bytesOf 2 (v / 2 ^ 16)

/-- How values compare for RED (R370): ADC words on DATA, others as signed words. -/
def redKey (kind v : Nat) : Int := if kind = kAdc then sgn 16 v else sgn 32 v

/-- The word of an extreme: an ADC word carries VALID as the AND, OVR and NOVR as the OR over the interval (R370). -/
def redWord (kind : Nat) (l : List Nat) (v : Nat) : Nat :=
  if kind = kAdc then
    putBit (putBit (putBit v 16 (l.all fun w => bitOf w 16)) 17 (l.any fun w => bitOf w 17)) 18 (l.any fun w => bitOf w 18)
  else v

/-- Least and greatest of a nonempty list under RED (R370). -/
def redPair (kind : Nat) (v0 : Nat) (l : List Nat) : Nat × Nat :=
  (l.foldl (fun a v => if redKey kind v < redKey kind a then v else a) v0,
   l.foldl (fun a v => if redKey kind a < redKey kind v then v else a) v0)

/-- The values of a channel in the frame of instant `t` (R369, R370): one, or least and greatest. DIG updates every tick, so its held value
counts too unless it changed in the first tick of the interval. -/
def Dev.chFrame (s : Dev) (set k t : Nat) : List Byte :=
  let x := s.reelCh k
  let start := (s.reelInst (s.fs set F.REEL_CH_INST k)).lastT
  let kind := s.fs set F.REEL_CH_KIND k
  let w32 := decide (s.fs set F.REEL_CH_W32 k = 1)
  let ups := (x.upd.filter fun u => decide (u.1 ≤ t)).map Prod.snd
  let held := ups.headD x.last
  if s.fs set F.REEL_CH_RED k = 0 then chValue kind w32 held
  else if kind = kDig then
    let ups := if x.upd.getLast?.any fun u => decide (u.1 ≤ start + 5) then ups else ups ++ [x.last]
    chValue kind w32 (ups.foldl Nat.land (2 ^ 32 - 1)) ++ chValue kind w32 (ups.foldl Nat.lor 0)
  else
    let l := if kind = kAdc then ups.filter fun w => !bitOf w 19 else ups
    match l with
    | [] => chValue kind w32 held ++ chValue kind w32 held
    | v :: rest =>
      let p := redPair kind v rest
      chValue kind w32 (redWord kind l p.1) ++ chValue kind w32 (redWord kind l p.2)

/-- The bytes of a frame, padded to a multiple of 4 (R371). -/
def Dev.frameBytes (s : Dev) (set i t : Nat) : List Byte :=
  let b := (s.instChans set i).flatMap fun k => s.chFrame set k t
  b ++ List.replicate (s.frameLen set i - b.length) 0

/-- After a frame at `t` the channel keeps its value there and the updates since. -/
def Dev.chDone (s : Dev) (k t : Nat) : Dev :=
  let x := s.reelCh k
  let ups := x.upd.filter fun u => decide (u.1 ≤ t)
  s.setReelCh k { last := (ups.head?.map Prod.snd).getD x.last, upd := x.upd.filter fun u => !decide (u.1 ≤ t) }

/-! ## Slots -/

/-- Slot holds a closed, unreleased record (R383). -/
def Dev.slotUsed (s : Dev) (i slot : Nat) : Bool := bitOf (s.f F.REEL_SLOT_MAP_USED i (slot / 32)) (slot % 32)

def Dev.setSlotUsed (s : Dev) (i slot : Nat) (b : Bool) : Dev := s.setBit F.REEL_SLOT_MAP_USED (slot % 32) b i (slot / 32)

/-- The slots of an instance. -/
def Dev.slots (s : Dev) (set i : Nat) : List Nat := List.range (s.fs set F.REEL_INST_AREA_SLOTS i)

/-- The instance writes in its slot. -/
def Dev.reelWrites (s : Dev) (i : Nat) : Bool := decide (s.reelState i = rPre) || decide (s.reelState i = rPost)

/-- The lowest free slot, with nothing being written (R375). -/
def Dev.freeSlot (s : Dev) (set i : Nat) : Option Nat := (s.slots set i).find? fun k => !s.slotUsed i k

/-- `INST_STAT.FREE`. -/
def Dev.reelShow (s : Dev) (i : Nat) : Dev :=
  let n := ((s.slots s.actSet i).filter fun k => !s.slotUsed i k && !(s.reelWrites i && decide (s.f F.REEL_INST_STAT_SLOT i = k))).length
  s.put F.REEL_INST_STAT_FREE n i

/-- Take a slot and enter PRE (R375). -/
def Dev.takeSlot (s : Dev) (i slot : Nat) (ovwr : Bool) : Dev :=
  let x := s.reelInst i
  let s := s.setReelInst i { x with count := 0, src := 0, first := 0, trgT := 0, pre := 0, post := 0, postTrg := 0,
                                    flags := 0, ovwr := ovwr }
  ((s.put F.REEL_INST_STAT_STATE rPre i).put F.REEL_INST_STAT_SLOT slot i).reelShow i

/-- The channels of an instance take the latest values of their sources, and its time starts now: nothing has fired (R367, R375). -/
def Dev.reelStart (s : Dev) (set i : Nat) : Dev :=
  let s := s.each (s.instChans set i) fun s k =>
    let kind := s.fs set F.REEL_CH_KIND k
    s.setReelCh k { last := if kind = kDig then s.reel.dig else Tab.get 0 s.reel.src (kind * 2 ^ 16 + s.fs set F.REEL_CH_SEL k), upd := [] }
  s.setReelInst i { s.reelInst i with lastT := s.now, fired := [] }

/-- Take the lowest free slot, or else enter FULL (R375). -/
def Dev.takeFree (s : Dev) (set i : Nat) : Dev :=
  match s.freeSlot set i with
  | some k => s.takeSlot i k false
  | none => (s.put F.REEL_INST_STAT_STATE rFull i).reelShow i

/-- The used slot with the lowest SEQ (R375). -/
def Dev.oldestSlot (s : Dev) (set i : Nat) : Option Nat :=
  ((s.slots set i).filter fun k => s.slotUsed i k).foldl (fun a k =>
    match a with
    | none => some k
    | some b => if Tab.get 0 s.reel.seqs (i * 256 + k) < Tab.get 0 s.reel.seqs (i * 256 + b) then some k else some b) none

/-! ## Triggers -/

/-- A trigger that falls in REARM or FULL is missed (R377). -/
def Dev.missTrigger (s : Dev) (i u : Nat) : Dev :=
  let t := u * 5 / 64 % 2 ^ 32
  let s := s.iff (decide (s.f F.REEL_INST_MISS_MISSED i = 0)) fun s => s.put F.REEL_INST_MISS_FIRST_NS t i
  let s := s.inc F.REEL_INST_MISS_MISSED 1 i
  let x := s.reelInst i
  s.setReelInst i { x with missed := satAdd 32 x.missed 1, missedAt := if x.missed = 0 then t else x.missedAt }

/-- A trigger time, in units of 78.125 ps, is no later than an instant in ns. -/
def trgBy (u t : Nat) : Bool := decide (5 * u ≤ 64 * t)

/-- The end of the two frame intervals of REARM (R375). -/
def Dev.rearmT (s : Dev) (set i : Nat) : Nat := (s.reelInst i).lastT + 2 * s.framePeriod set i

/-- Unit `t` of instance `i` fires at time `u`, in units of 78.125 ps (R374, R377): missed in REARM and FULL, held for its frame in PRE and
POST and where it falls after REARM. -/
def Dev.fireUnit (s : Dev) (i t u : Nat) : Dev :=
  let st := s.reelState i
  let x := s.reelInst i
  if st = rIdle ∨ trgBy u x.from_ then s
  else if st = rFull ∨ (st = rRearm ∧ trgBy u (s.rearmT s.actSet i)) then s.missTrigger i u
  else s.setReelInst i { x with fired := (t, u) :: x.fired }

/-- A trigger unit of a set is enabled with a type. -/
def Dev.trgIs (s : Dev) (set i t ty : Nat) : Bool :=
  decide (s.fs set F.REEL_TRG_CFG_EN i t = 1) && decide (s.fs set F.REEL_TRG_CFG_TYPE i t = ty)

/-- All units, as instance and unit. -/
def trgUnits : List (Nat × Nat) := (List.range 4).flatMap fun i => (List.range 8).map fun t => (i, t)

/-- A unit fires, and with it the CROSS units that name its instance (R372, R373). -/
def Dev.fireAll (s : Dev) (i t u : Nat) : Dev :=
  let a := s.actSet
  (s.fireUnit i t u).each trgUnits fun s p =>
    s.iff (s.trgIs a p.1 p.2 7 && decide (s.fs a F.REEL_TRG_CFG_XINST p.1 p.2 = i)) fun s => s.fireUnit p.1 p.2 u

/-- The nearest integer to n / d, a tie going to the lower. -/
def roundDown (n : Int) (d : Int) : Int := -((d - 2 * n) / (2 * d))

/-- The time of the crossing of `X` between two updates, in units of 78.125 ps (R373). -/
def crossTime (tp tv : Nat) (vp v x : Int) : Nat :=
  let d := v - vp
  let n := (tp : Int) * d + (x - vp) * ((tv : Int) - (tp : Int))
  (if 0 < d then roundDown (n * 64) (5 * d) else roundDown (-(n * 64)) (-(5 * d))).toNat

def Dev.reelTrg (s : Dev) (i t : Nat) : ReelTrg := Tab.get ReelTrg.fresh s.reel.trg (i * 8 + t)
def Dev.setReelTrg (s : Dev) (i t : Nat) (x : ReelTrg) : Dev :=
  { s with reel := { s.reel with trg := Tab.set ReelTrg.fresh s.reel.trg (i * 8 + t) x } }

/-- A unit evaluates an update of its channel's source at `now` ns (R372): RISE, FALL and WINDOW. -/
def Dev.evalUnit (s : Dev) (i t now : Nat) (v : Int) : Dev :=
  let a := s.actSet
  let ty := s.fs a F.REEL_TRG_CFG_TYPE i t
  let th := sgn 32 (s.fs a F.REEL_TRG_TH_V i t)
  let th2 := sgn 32 (s.fs a F.REEL_TRG_TH2_V i t)
  let x := s.reelTrg i t
  let hit : Option Int := match x.prev with
    | none => none
    | some (_, vp) =>
      if ty = 1 then (if vp < th ∧ th ≤ v then some th else none)
      else if ty = 2 then (if th < vp ∧ v ≤ th then some th else none)
      else if ty = 3 then (if th ≤ vp ∧ vp ≤ th2 ∧ (v < th ∨ th2 < v) then some (if v < th then th else th2) else none)
      else none
  let rearm := if ty = 1 then decide (v ≤ th - th2) else if ty = 2 then decide (th + th2 ≤ v) else decide (th ≤ v) && decide (v ≤ th2)
  let fire := hit.isSome && !x.spent
  let s1 := s.setReelTrg i t { spent := (x.spent || fire) && !rearm, prev := some (now, v) }
  match hit, x.prev with
  | some c, some (tp, vp) => if fire then s1.fireAll i t (crossTime tp now vp v c) else s1
  | _, _ => s1

/-- The value that triggers compare, none where the update is not evaluated (R372). -/
def trgValue (kind v : Nat) : Option Int :=
  if kind = kAdc then (if bitOf v 16 && !bitOf v 19 then some (sgn 16 v) else none) else some (sgn 32 v)

/-- An update of a source reaches the channels that name it and the units that watch them (R367, R372). -/
def Dev.reelUpdate (s : Dev) (kind sel v : Nat) : Dev :=
  if ¬ s.flag F.REEL_CTL_EN then s
  else
    let a := s.actSet
    let now := s.now
    let ks := (s.reelChans a).filter fun k => decide (s.fs a F.REEL_CH_KIND k = kind) && (decide (kind = kDig) || decide (s.fs a F.REEL_CH_SEL k = sel))
    let s := { s with reel := { s.reel with src := Tab.set 0 s.reel.src (kind * 2 ^ 16 + sel) v } }
    let s := s.each ks fun s k =>
      let x := s.reelCh k
      let st := s.reelState (s.fs a F.REEL_CH_INST k)
      if st = rIdle ∨ st = rFull then s else s.setReelCh k { x with upd := (now, v) :: x.upd }
    s.each trgUnits fun s p =>
      let ty := s.fs a F.REEL_TRG_CFG_TYPE p.1 p.2
      if s.fs a F.REEL_TRG_CFG_EN p.1 p.2 = 1 ∧ 1 ≤ ty ∧ ty ≤ 3 ∧ ks.contains (s.fs a F.REEL_TRG_CFG_CH p.1 p.2) then
        match trgValue kind v with
        | some y => s.evalUnit p.1 p.2 now y
        | none => s.setReelTrg p.1 p.2 { s.reelTrg p.1 p.2 with prev := none }
      else s

/-- `PAIR_ACT`: the unit is ACTIVE (R303). -/
def Dev.pairAct (s : Dev) : Bool := decide (s.f F.PAIR_STAT_STATE = 2)

/-- The DIG status word (R368). -/
def Dev.digWord (s : Dev) : Nat :=
  s.f F.SAFETY_TRIP_STAT_DEMAND + b2n (bitOf s.reel.ev 1) * 2 + b2n s.pairAct * 4 + s.f F.PAIR_STAT_XLINK_UP * 8 +
  s.ang.prb * 2 ^ 4 + s.ang.wmk * 2 ^ 8 + Nat.xor (s.f F.SAFETY_TRIP_STAT_LEVEL) (s.f F.SAFETY_TRIP_CFG_POL) * 2 ^ 16 +
  b2n (bitOf s.reel.ev 24) * 2 ^ 24 + s.f F.TIME_STAT_TQ * 2 ^ 25

/-- The present instant, and the present TIME tick, in units of 78.125 ps (R373). -/
def Dev.tdcNow (s : Dev) : Nat := (s.nowFix * 64 / (5 * nsFix)).toNat
def Dev.tickTdc (s : Dev) : Nat := ((s.nowFix - (s.time.fifth : Int) * (s.tickInc : Int) / 5) * 64 / (5 * nsFix)).toNat

/-- A DIG bit that comes from a ball takes its time-to-digital stamp (R373). -/
def digBall (b : Nat) : Bool := (decide (4 ≤ b) && decide (b < 8)) || (decide (16 ≤ b) && decide (b < 24))

/-- The DIG source updates (R367, R368): its units fire on the bits that changed (R372). -/
def Dev.reelDig (s : Dev) : Dev :=
  if s.role ≠ .manager then s
  else
    let w := s.digWord
    let old := s.reel.dig
    let s := { s with reel := { s.reel with dig := w, ev := 0 } }
    if w = old ∨ ¬ s.flag F.REEL_CTL_EN then s
    else
      let a := s.actSet
      (s.reelUpdate kDig 0 w).each trgUnits fun s p =>
        let b := s.fs a F.REEL_TRG_CFG_BIT p.1 p.2
        s.iff ((s.trgIs a p.1 p.2 4 && !bitOf old b && bitOf w b) || (s.trgIs a p.1 p.2 5 && bitOf old b && !bitOf w b))
          fun s => s.fireAll p.1 p.2 (if digBall b then s.tdcNow else s.tickTdc)

/-- A write of `FORCE` fires the HOST units of the instances named (R372). -/
def Dev.reelForce (s : Dev) (mask : Nat) : Dev :=
  if ¬ s.flag F.REEL_CTL_EN then s
  else s.each (trgUnits.filter fun p => bitOf mask p.1 && s.trgIs s.actSet p.1 p.2 6) fun s p => s.fireAll p.1 p.2 (s.now * 64 / 5)

/-! ## Recording -/

/-- The bits of the units in a list of fired triggers. -/
def firedBits (l : List (Nat × Nat)) : Nat := l.foldl (fun a p => putBit a p.1 true) 0

/-- The earliest trigger, at equal times the lower unit (R374). -/
def firedFirst : List (Nat × Nat) → Nat × Nat
  | [] => (0, 0)
  | [p] => p
  | p :: q :: r =>
    let m := firedFirst (q :: r)
    if p.2 < m.2 ∨ (p.2 = m.2 ∧ p.1 < m.1) then p else m

/-- The time in ns from a frame instant to the frame's assembly (R369). -/
def frameLag : Nat := 96

/-- The next frame instant of an instance to be assembled, none where it has not come (R369). -/
def Dev.nextFrame (s : Dev) (set i : Nat) : Option Nat :=
  let per := s.framePeriod set i
  let o := s.f F.GLOBAL_CYCLE_PHASE_PHASE
  let last := (s.reelInst i).lastT
  if s.fs set F.REEL_INST_CFG_TBASE i = 1 then
    let d := s.fs set F.REEL_INST_CFG_DIV i
    if ¬ s.run ∨ s.glob.nextCyc = 0 ∨ d = 0 then none
    else
      let t := o + (s.glob.nextCyc - 1) / d * d * s.periodNs
      if t ≤ last then none else some t
  else if per = 0 then none
  else some (gridNext s.adcOrigin per (s.now - frameLag) (some last))

/-- A frame is written into its ring place (R378). -/
def Dev.writeFrame (s : Dev) (set i : Nat) (b : List Byte) : Dev :=
  let n := (s.reelInst i).count
  let a := s.slotBase set i (s.f F.REEL_INST_STAT_SLOT i) + 64 + s.frameLen set i * (n % s.ringLen set i)
  { s with reel := { s.reel with ram := Mem.writeList s.reel.ram a b } }

/-- How many frames before the frame of instant `t` the frame lies whose interval contains the time `u` (R374). -/
def framesBack (t per u : Nat) : Nat := (64 * t - 5 * u) / (64 * per)

/-- The trigger frame of the triggers `l`, at or before the frame of instant `t` that is being assembled (R374, R376): a crossing between two
updates may lie in the interval of a frame that is written already. Triggers of later intervals count as POST_TRG (R377). -/
def Dev.triggerFrame (s : Dev) (set i t : Nat) (l : List (Nat × Nat)) : Dev :=
  let x := s.reelInst i
  let m := firedFirst l
  let k := framesBack t (s.framePeriod set i) m.2
  let t0 := t - k * s.framePeriod set i
  let own := l.filter fun p => trgBy p.2 t0
  let pre := s.fs set F.REEL_INST_LEN_PRE i
  let fl := b2n (decide (x.count - k < pre)) + (1 - s.f F.TIME_STAT_TQ) * 16
  (s.setReelInst i { x with t0 := t0, src := firedBits own, first := m.1, trgT := m.2, post := 1 + k,
                            pre := min (min (x.count - k) pre) (s.ringLen set i - 1 - k),
                            postTrg := min 255 (l.length - own.length),
                            flags := fl, cfgid := s.f F.PAIR_CFGID_OWN }).put F.REEL_INST_STAT_STATE rPost i

/-- Triggers that come in POST (R374, R377): those in the interval of the trigger frame belong to it, later ones count. -/
def Dev.postTriggers (s : Dev) (set i : Nat) (l : List (Nat × Nat)) : Dev :=
  let x := s.reelInst i
  let own := l.filter fun p => trgBy p.2 x.t0 && !trgBy p.2 (x.t0 - s.framePeriod set i)
  let m := firedFirst ((x.first, x.trgT) :: own)
  s.setReelInst i { x with src := Nat.lor x.src (firedBits own), first := m.1, trgT := m.2,
                           postTrg := min 255 (x.postTrg + (l.filter fun p => !trgBy p.2 x.t0).length) }

/-- A frame instant of an instance is assembled (R369, R374, R375). -/
def Dev.reelFrame (s : Dev) (i : Nat) : Dev :=
  let a := s.actSet
  if ¬ s.flag F.REEL_CTL_EN ∨ s.fs a F.REEL_INST_CFG_EN i = 0 ∨ ¬ s.reelWrites i ∨ s.ringLen a i = 0 ∨
      (s.reelState i = rPost ∧ s.fs a F.REEL_INST_LEN_POST i ≤ (s.reelInst i).post) then s
  else match s.nextFrame a i with
    | none => s
    | some t =>
      let s := s.advanceTo (t + frameLag)
      let b := s.frameBytes a i t
      let s := s.each (s.instChans a i) fun s k => s.chDone k t
      let x := s.reelInst i
      let due := x.fired.filter fun p => trgBy p.2 t
      let s := (s.writeFrame a i b).setReelInst i { x with fired := x.fired.filter fun p => !trgBy p.2 t }
      let s := if s.reelState i = rPre then
          let mine := due.filter fun p => decide (framesBack t (s.framePeriod a i) p.2 ≤ x.count)
          let gone := due.filter fun p => !decide (framesBack t (s.framePeriod a i) p.2 ≤ x.count)
          let s := s.each gone.reverse fun s p => s.missTrigger i p.2
          if mine = [] then s else s.triggerFrame a i t mine
        else (s.setReelInst i { s.reelInst i with post := x.post + 1 }).postTriggers a i due
      s.setReelInst i { s.reelInst i with count := x.count + 1, lastT := t }

/-- The header of a record (R378). -/
def Dev.reelHeader (s : Dev) (set i : Nat) (flags : Nat) : List Byte :=
  let x := s.reelInst i
  let ns := x.trgT * 5 / 64
  let ring := s.ringLen set i
  let b := bytesOf 1 1 ++ bytesOf 1 i ++ bytesOf 2 (s.f F.REEL_INST_STAT_SLOT i) ++ bytesOf 4 x.seq ++ bytesOf 2 flags ++
    bytesOf 1 x.src ++ bytesOf 1 x.first ++ bytesOf 4 (ns % 10 ^ 9) ++ bytesOf 6 (ns / 10 ^ 9) ++
    bytesOf 1 (x.trgT * 5 % 64 / 5) ++ bytesOf 1 0 ++ bytesOf 4 (x.t0 % 2 ^ 32) ++ bytesOf 4 (s.framePeriod set i) ++
    bytesOf 4 x.pre ++ bytesOf 4 x.post ++ bytesOf 4 ((x.count - x.post - x.pre) % ring) ++ bytesOf 2 (s.frameLen set i) ++
    bytesOf 1 (s.instChans set i).length ++ bytesOf 1 x.postTrg ++ bytesOf 4 x.missed ++ bytesOf 4 x.missedAt ++ bytesOf 4 x.cfgid
  b ++ bytesOf 4 (crc32 b)

/-- FLAGS of the record being written (R378). -/
def Dev.recordFlags (s : Dev) (i : Nat) (cut : Bool) : Nat :=
  let x := s.reelInst i
  x.flags + b2n cut * 2 + b2n (decide (x.missed ≠ 0)) * 4 + b2n x.ovwr * 8

/-- The notice of the record being written (R379, R393). -/
def Dev.reelNotice (s : Dev) (set i : Nat) (cut : Bool) (st : Status) : Dev :=
  let x := s.reelInst i
  s.postNotice (s.fs set F.REEL_INST_CFG_CQ i)
    { tag := 0, status := st, op := 0x80, epoch := s.epoch .reel, notice := true, sq := 0, sqHead := 0, irq := true,
      payload := bytesOf 1 i ++ bytesOf 1 0 ++ bytesOf 2 (s.f F.REEL_INST_STAT_SLOT i) ++ bytesOf 4 x.seq ++
        bytesOf 2 (s.recordFlags i cut) ++ bytesOf 2 0 ++ bytesOf 4 (x.trgT * 5 / 64 % 10 ^ 9) ++ bytesOf 4 0 }

/-- A record closes (R375, R378, R379): header, slot map, count and notice. -/
def Dev.closeRecord (s : Dev) (set i : Nat) (cut : Bool) : Dev :=
  let x := s.reelInst i
  let slot := s.f F.REEL_INST_STAT_SLOT i
  let s := s.reelNotice set i cut .ok
  let s := { s with reel := { s.reel with
    ram := Mem.writeList s.reel.ram (s.slotBase set i slot) (s.reelHeader set i (s.recordFlags i cut))
    seqs := Tab.put s.reel.seqs (i * 256 + slot) x.seq } }
  let s := (s.setSlotUsed i slot true).inc F.REEL_INST_CNT_RECORDS 1 i
  s.setReelInst i { x with missed := 0, missedAt := 0, seq := (x.seq + 1) % 2 ^ 32, from_ := x.lastT }

/-- POST frames are written: the record closes and the instance enters REARM (R375). Triggers after the last frame fall in
REARM (R377), or later. -/
def Dev.recordClose (s : Dev) (i : Nat) : Dev :=
  let a := s.actSet
  if s.reelState i = rPost ∧ s.fs a F.REEL_INST_LEN_POST i ≤ (s.reelInst i).post then
    let late := (s.reelInst i).fired
    let s := (s.closeRecord a i false).put F.REEL_INST_STAT_STATE rRearm i
    let s := s.setReelInst i { s.reelInst i with fired := [] }
    (s.each late.reverse fun s p => s.fireUnit i p.1 p.2).reelShow i
  else s

/-- No slot is free: FULL (R375). What fired after REARM is missed (R377). -/
def Dev.reelFull (s : Dev) (i : Nat) : Dev :=
  let late := (s.reelInst i).fired
  let s := (s.put F.REEL_INST_STAT_STATE rFull i).setReelInst i { s.reelInst i with fired := [] }
  (s.each late.reverse fun s p => s.missTrigger i p.2).reelShow i

/-- The second frame instant after a record's last frame (R375): on the grid it comes with time; a cycle boundary comes by its row. -/
def Dev.rearmDue (s : Dev) (set i : Nat) : Bool :=
  decide (s.fs set F.REEL_INST_CFG_TBASE i = 0) || (s.nextFrame set i).any fun t => decide (s.rearmT set i ≤ t)

/-- Two frame instants after a record closed (R375). -/
def Dev.rearmEnd (s : Dev) (i : Nat) : Dev :=
  let a := s.actSet
  if s.reelState i ≠ rRearm ∨ ¬ s.rearmDue a i then s
  else
    let t := s.rearmT a i
    let s := s.advanceTo t
    let s := (s.each (s.instChans a i) fun s k => s.chDone k t).setReelInst i { s.reelInst i with lastT := t }
    match s.freeSlot a i with
    | some k => s.takeSlot i k false
    | none =>
      if s.fs a F.REEL_INST_CFG_OVWR i = 1 then
        match s.oldestSlot a i with
        | some k => ((s.setSlotUsed i k false).takeSlot i k true).inc F.REEL_INST_CNT_OVWR_CNT 1 i
        | none => s.reelFull i
      else s.reelFull i

/-- `INST_CMD` op ARM (R375, R383). -/
def Dev.reelArm (s : Dev) (i : Nat) : Acted :=
  let a := s.actSet
  if s.fs a F.REEL_INST_CFG_EN i = 0 then s.deny .invalid
  else if s.reelState i ≠ rIdle then (.ok, s)
  else (.ok, ((s.reelStart a i).setReelInst i { (s.reelStart a i).reelInst i with from_ := s.now }).takeFree a i)

/-- `INST_CMD` op STOP (R375). -/
def Dev.reelStop (s : Dev) (i : Nat) : Dev :=
  let st := s.reelState i
  if st = rPre ∨ st = rFull then (s.put F.REEL_INST_STAT_STATE rIdle i).reelShow i
  else if st = rPost then ((s.closeRecord s.actSet i true).put F.REEL_INST_STAT_STATE rIdle i).reelShow i
  else s

/-- A write of `RELEASE` (R379, R375). -/
def Dev.reelRelease (s : Dev) (i slot : Nat) : Acted :=
  if ¬ s.slotUsed i slot then s.deny .invalid
  else
    let s := s.setSlotUsed i slot false
    (.ok, if s.reelState i = rFull ∧ (s.slots s.actSet i).contains slot then
        (s.reelStart s.actSet i).takeSlot i slot false
      else s.reelShow i)

/-- A trigger unit watches the same source in two sets. -/
def Dev.sameSource (s : Dev) (old new i t : Nat) : Bool :=
  let k0 := s.fs old F.REEL_TRG_CFG_CH i t
  let k1 := s.fs new F.REEL_TRG_CFG_CH i t
  decide (s.fs old F.REEL_CH_KIND k0 = s.fs new F.REEL_CH_KIND k1) && decide (s.fs old F.REEL_CH_SEL k0 = s.fs new F.REEL_CH_SEL k1)

/-- At a swap boundary (R381): an instance in PRE frees its slot, one in POST closes its record with CUT; each takes the
PRE state under the new set, or FULL. -/
def Dev.reelSwap (s : Dev) (old new : Nat) : Dev :=
  let s := s.each trgUnits fun s p => s.iff (!s.sameSource old new p.1 p.2) fun s => s.setReelTrg p.1 p.2 ReelTrg.fresh
  s.each (List.range 4) fun s i =>
    if ¬ s.reelWrites i then s.reelShow i
    else
      let s := s.iff (decide (s.reelState i = rPost)) fun s => s.closeRecord old i true
      let s := (s.put F.REEL_INST_STAT_STATE rIdle i)
      if s.fs new F.REEL_INST_CFG_EN i = 0 then s.reelShow i
      else ((s.reelStart new i).setReelInst i { (s.reelStart new i).reelInst i with from_ := s.now }).takeFree new i

/-- A per-block reset of REEL (R382): a record in POST and its notice complete with RETIRED; closed records, their slots and the
configuration are kept. -/
def Dev.reelReset (s : Dev) : Dev :=
  let s := s.each (List.range 4) fun s i =>
    let s := s.iff (decide (s.reelState i = rPost)) fun s => s.reelNotice s.actSet i true .retired
    let s := s.put F.REEL_INST_STAT_STATE rIdle i
    let s := s.setReelInst i { ReelInst.fresh with seq := (s.reelInst i).seq }
    let s := (s.each F.regReelInstMiss.flds fun s g => s.put g 0 i).each F.regReelInstCnt.flds fun s g => s.put g 0 i
    s.reelShow i
  let s := s.each (F.regReelChkStat.flds ++ F.regReelEccStat.flds) fun s g => s.put g 0
  { s with reel := { s.reel with trg := [], ch := Tab.map (fun _ x => { x with upd := [] }) s.reel.ch } }

/-! ## Checks and rates (R371, R380) -/

/-- An instance of a set is enabled. -/
def Dev.reelEn (s : Dev) (set i : Nat) : Bool := decide (s.fs set F.REEL_INST_CFG_EN i = 1)

/-- Write rate of an instance in bytes per 32 768 units of 25 ns and 64 divisions, exact: bytes times 10⁹ over the period in
ps, as a fraction (R371). -/
def Dev.rateNum (s : Dev) (set i : Nat) : Nat × Nat :=
  let per := if s.fs set F.REEL_INST_CFG_TBASE i = 1 then 500 * s.fs set F.REEL_INST_CFG_DIV i else 25 * 2 ^ s.fs set F.REEL_INST_CFG_DIV i
  (s.frameLen set i * 1000, max per 1)

/-- The total write rate of the enabled instances as a fraction, in bytes per µs. -/
def Dev.reelRate (s : Dev) (set : Nat) : Nat × Nat :=
  ((List.range 4).filter fun i => s.reelEn set i).foldl (fun a i =>
    let r := s.rateNum set i
    (a.1 * r.2 + r.1 * a.2, a.2 * r.2)) (0, 1)

/-- A channel's KIND and SEL are defined (R367). -/
def chOk (kind sel : Nat) : Bool :=
  match kind with
  | 1 => decide (sel < 16)
  | 2 => decide (sel < 64)
  | 3 => decide (sel < 0x2000) && decide (bits sel 4 4 = 0)
  | 4 => decide (sel < 64) && decide (sel % 16 ≤ 4)
  | 5 => decide (bits sel 8 8 < 12) && decide (bits sel 3 5 = 0)
  | 6 => decide (sel < 2)
  | 7 => true
  | _ => false

/-- Areas of two instances overlap. -/
def Dev.areasMeet (s : Dev) (set i j : Nat) : Bool :=
  decide (s.fs set F.REEL_INST_AREA_BASE i < s.fs set F.REEL_INST_AREA_BASE j + s.fs set F.REEL_INST_AREA_SIZE j) &&
  decide (s.fs set F.REEL_INST_AREA_BASE j < s.fs set F.REEL_INST_AREA_BASE i + s.fs set F.REEL_INST_AREA_SIZE i)

/-- The first index of a list that fails. -/
def firstBad (l : List Nat) (bad : Nat → Bool) : Option Nat := l.find? bad

/-- The checks of R380 on a set, in the order of their codes: code, instance and index of the first failure. -/
def Dev.reelCheck (s : Dev) (set : Nat) : Option (Nat × Nat × Nat) :=
  let ins := (List.range 4).filter fun i => s.reelEn set i
  let units := trgUnits.filter fun p => decide (s.fs set F.REEL_TRG_CFG_EN p.1 p.2 = 1)
  let ty := fun (p : Nat × Nat) => s.fs set F.REEL_TRG_CFG_TYPE p.1 p.2
  let th := fun (p : Nat × Nat) => sgn 32 (s.fs set F.REEL_TRG_TH_V p.1 p.2)
  let th2 := fun (p : Nat × Nat) => sgn 32 (s.fs set F.REEL_TRG_TH2_V p.1 p.2)
  let r := s.reelRate set
  match (s.reelChans set).find? fun k => !chOk (s.fs set F.REEL_CH_KIND k) (s.fs set F.REEL_CH_SEL k) with
  | some k => some (1, s.fs set F.REEL_CH_INST k, k)
  | none =>
  match units.find? fun p => decide (ty p = 0) || decide (7 < ty p) with
  | some p => some (1, p.1, p.2)
  | none =>
  match ins.find? fun i => decide (s.fs set F.REEL_INST_AREA_SLOTS i = 0) ||
      decide (256 < s.fs set F.REEL_INST_AREA_BASE i + s.fs set F.REEL_INST_AREA_SIZE i) ||
      ins.any fun j => decide (j < i) && s.areasMeet set i j with
  | some i => some (2, i, 0)
  | none =>
  match ins.find? fun i => decide (s.slotSize set i < 64 + s.frameLen set i * s.ringLen set i) ||
      decide (s.fs set F.REEL_INST_LEN_POST i = 0) with
  | some i => some (3, i, 0)
  | none =>
  if 1600 * r.2 < r.1 then some (4, 0, 0)
  else
  match units.find? fun p => (decide (ty p = 1 ∨ ty p = 2) && decide (th2 p < 0)) || (decide (ty p = 3) && decide (th2 p < th p)) ||
      (decide (1 ≤ ty p ∧ ty p ≤ 3) && decide (s.fs set F.REEL_CH_EN (s.fs set F.REEL_TRG_CFG_CH p.1 p.2) = 0)) with
  | some p => some (5, p.1, p.2)
  | none =>
  match ins.find? fun i => decide (s.instChans set i = []) with
  | some i => some (6, i, 0)
  | none => none

end Sys2Proof.Machine
end

