-- ==== Sys2Proof/Machine/Loom.lean ====
section
/-! DEFINITION. Runs and instructions of Loom (R59, R60, R66, R67, R71, R77 to R85, R92 to R95, R131 to R135). The instruction set as
data and arithmetic is in Machine/LoomIsa; when runs become due and start is in Machine/LoomRuns. -/

namespace Sys2Proof.Machine

def Dev.execOf (s : Dev) (sh : Nat) : Option Exec := Tab.find s.loom.sh sh
def Dev.setExec (s : Dev) (sh : Nat) (x : Exec) : Dev := { s with loom := { s.loom with sh := Tab.put s.loom.sh sh x } }
def Dev.endExec (s : Dev) (sh : Nat) : Dev := { s with loom := { s.loom with sh := Tab.erase s.loom.sh sh } }

/-- The unit stands by: STANDBY or RELINQUISHED (R83, R303). -/
def Dev.standby (s : Dev) : Bool := decide (s.f F.PAIR_STAT_STATE = 1) || decide (s.f F.PAIR_STAT_STATE = 3)

/-- An egress word takes a value (R66, R68, R77): `cyc` is the cycle of the run that writes it, none for a host write. -/
def Dev.egress (s : Dev) (set : Nat) (cyc : Option Nat) (o v : Nat) : Dev :=
  if s.fs set F.LOOM_OUT_MAP_EN o ≠ 1 then s
  else
    let sel := s.fs set F.LOOM_OUT_MAP_SEL o
    let dst := s.fs set F.LOOM_OUT_MAP_DST o
    if 1 ≤ dst ∧ dst ≤ 3 then (match cyc with | some n => s.spWork n sel dst v | none => s)
    else if dst = 4 then s.reelUpdate kLoom sel v
    else if dst = 5 then s.put F.LOOM_HOST_OUT_VALUE v sel
    else if dst = 6 then s.wmkLoom sel v
    else if dst = 7 then s.safetyFb sel v
    else s

/-! ## What a program names -/

/-- The instructions of a program, by address; none where OPC or MOD is undefined. -/
def Dev.progOps (s : Dev) (set base len : Nat) : List (Nat × Option LoomOp) :=
  (List.range len).map fun k => (base + k, LoomOp.decode (s.progWord set (base + k)))

/-- `BASE` and `LEN` of a mode's program (R128); `LEN` = 0 where it is absent. -/
def Dev.modeProg (s : Dev) (set slot m : Nat) : Nat × Nat :=
  if m = 0 then (s.fs set F.LOOM_SLOT_PROG_BASE slot, s.fs set F.LOOM_SLOT_PROG_LEN slot)
  else (s.fs set F.LOOM_MODE_PROG_BASE slot (m - 1), s.fs set F.LOOM_MODE_PROG_LEN slot (m - 1))

/-- The egress indices that the destinations of a program name, each once (R78, R295). -/
def Dev.progOuts (s : Dev) (set slot base len : Nat) : List Nat :=
  ((s.progOps set base len).flatMap fun (_, o) =>
    match o with
    | none => []
    | some x =>
      let p := s.place set slot x.dst
      if p.coef then []
      else ((List.range (x.opc.dstExt x.shf)).map fun j => p.addr + j).filter isEgress |>.map fun a => a - 0x800).eraseDups

/-- The present modes of a slot. -/
def Dev.modes (s : Dev) (set slot : Nat) : List Nat := (List.range 4).filter fun m => decide ((s.modeProg set slot m).2 ≠ 0)

/-- The egress indices that a mode's program names. -/
def Dev.modeOuts (s : Dev) (set slot m : Nat) : List Nat :=
  let p := s.modeProg set slot m
  s.progOuts set slot p.1 p.2

/-- The egress indices that the present programs of a slot name. -/
def Dev.slotOuts (s : Dev) (set slot : Nat) : List Nat := ((s.modes set slot).flatMap fun m => s.modeOuts set slot m).eraseDups

/-- The run time of a program (R60). -/
def Dev.progTime (s : Dev) (set base len : Nat) : Nat :=
  (s.progOps set base len).foldl (fun a o => a + match o.2 with | some x => x.opc.cycles | none => 0) 2

/-! ## The standby comparison (R84, R85) -/

/-- The own and the active unit's value of a compared word agree (R84). -/
def Dev.cmpAgrees (s : Dev) (set o own act : Nat) : Bool :=
  let d : Int := if s.fs set F.LOOM_OUT_MAP_WRAP o = 1 then sgn 32 (wrap 32 ((own : Int) - (act : Int))) else sgn 32 own - sgn 32 act
  decide (d.natAbs ≤ s.fs set F.LOOM_OUT_MAP_TOL o)

/-- The values of a cycle, by egress index. -/
def cmpOf (l : List CmpVal) (n : Nat) : List CmpVal := l.filter fun v => decide (v.cyc = n)

/-- The compared words of a cycle that disagree. -/
def Dev.cmpBad (s : Dev) (n : Nat) : List Nat :=
  (cmpOf s.loom.cmpOwn n).filterMap fun v =>
    match (cmpOf s.loom.cmpAct n).find? fun w => decide (w.o = v.o) with
    | some w => if s.cmpAgrees (s.cycSet n) v.o v.v w.v then none else some v.o
    | none => none

/-- A run of the cycle is excluded from the comparison, or was aborted. -/
def Dev.cmpExclude (s : Dev) (n : Nat) : Dev := { s with loom := { s.loom with cmpMiss := n :: s.loom.cmpMiss } }

/-- The cycle counts as missed, whatever its values. -/
def Dev.cmpVoided (s : Dev) (n : Nat) : Dev := { s with loom := { s.loom with cmpVoid := n :: s.loom.cmpVoid } }

/-- Values of compared words of a cycle become known: own, or the active unit's. -/
def Dev.cmpAdd (s : Dev) (own : Bool) (l : List CmpVal) : Dev :=
  if ¬ s.flag F.LOOM_CMP_CTL_EN ∨ ¬ s.standby then s
  else if own then { s with loom := { s.loom with cmpOwn := l ++ s.loom.cmpOwn } }
  else { s with loom := { s.loom with cmpAct := l ++ s.loom.cmpAct } }

/-- A mismatched cycle: the lowest word that disagreed is `low` (R85). -/
def Dev.cmpMismatch (s : Dev) (low : Nat) : Dev :=
  let s := (s.inc F.LOOM_CMP_CNT_MISMATCH 1).inc F.LOOM_CMP_STAT_CONSEC 1
  let s := s.iff (!s.flag F.LOOM_CMP_STAT_FIRST_VALID) fun s => (s.put F.LOOM_CMP_STAT_FIRST_O low).raise F.LOOM_CMP_STAT_FIRST_VALID
  s.iff (decide (s.f F.LOOM_CMP_CTL_LIMIT ≤ s.f F.LOOM_CMP_STAT_CONSEC)) fun s => s.raise F.LOOM_CMP_STAT_DIVERGE

/-- A cycle with a compared word that only one unit has, or with an excluded or aborted run (R84; log entry 145). -/
def Loom.cmpLacks (l : Loom) (n : Nat) : Bool :=
  let own := (cmpOf l.cmpOwn n).map CmpVal.o
  let act := (cmpOf l.cmpAct n).map CmpVal.o
  l.cmpMiss.contains n || own.any (fun o => !act.contains o) || act.any (fun o => !own.contains o)

/-- The values of cycle n and of the cycles before are forgotten. -/
def Loom.cmpPrune (l : Loom) (n : Nat) : Loom :=
  { l with cmpOwn := l.cmpOwn.filter fun v => decide (n < v.cyc)
           cmpAct := l.cmpAct.filter fun v => decide (n < v.cyc)
           cmpMiss := l.cmpMiss.filter fun k => decide (n < k)
           cmpVoid := l.cmpVoid.filter fun k => decide (n < k) }

/-- At the boundary of cycle n + 2, cycle n is judged (R84, R85): void, mismatched, missed, not counted, or agreeing. -/
def Dev.cmpJudge (s : Dev) (n : Nat) : Dev :=
  let l := s.loom
  let bad := s.cmpBad n
  let s := { s with loom := l.cmpPrune n }
  if ¬ s.flag F.LOOM_CMP_CTL_EN ∨ ¬ s.standby then s
  else if l.cmpVoid.contains n then s.inc F.LOOM_CMP_STAT_MISS_CNT 1
  else match bad with
    | o :: os => s.cmpMismatch (os.foldl min o)
    | [] =>
      if l.cmpLacks n then s.inc F.LOOM_CMP_STAT_MISS_CNT 1
      else if cmpOf l.cmpOwn n = [] then s
      else (s.put F.LOOM_CMP_STAT_CONSEC 0).iff (decide (s.f F.PAIR_STAT_STATE = 1)) fun s => s.incW F.PAIR_HEALTH_WORD 1 6

/-! ## The end of a run (R67, R78, R83) -/

/-- A dependency arrives for the due runs of a cycle: `hit` says for which entry of a slot's table (R64). -/
def Dev.arrive (s : Dev) (n : Nat) (hit : Nat → Nat → Nat → Bool) : Dev :=
  { s with loom := { s.loom with due := s.loom.due.map fun r =>
    if r.cyc ≠ n then r
    else { r with arr := r.arr ++ (List.range 8).filter fun k => hit r.set r.slot k && !r.arr.contains k } } }

/-- An entry of the dependency table names slot `p`. -/
def Dev.depSlot (s : Dev) (p set slot k : Nat) : Bool :=
  decide (s.fs set F.LOOM_SLOT_DEP_KIND slot k = 1) && decide (s.fs set F.LOOM_SLOT_DEP_INDEX slot k = p)

/-- Mapped words of a slot that its run has not written count as written with their previous values (R78). -/
def Dev.outDefaults (s : Dev) (x : Exec) : Dev :=
  let r := x.run
  let l := (s.slotOuts r.set r.slot).filter fun o =>
    !x.wrote.contains o && decide (s.fs r.set F.LOOM_OUT_MAP_EN o = 1) &&
    decide (1 ≤ s.fs r.set F.LOOM_OUT_MAP_DST o) && decide (s.fs r.set F.LOOM_OUT_MAP_DST o ≤ 3)
  let s := s.each l fun s o => s.egress r.set (some r.cyc) o (s.ramWord (0x800 + o))
  s.iff (decide (l ≠ [])) fun s => s.raise F.LOOM_SLOT_FLAGS_OUT_DEFAULT r.slot

/-- The compared words that a run wrote, as they stand at its end. -/
def Dev.cmpVals (s : Dev) (x : Exec) : List CmpVal :=
  (x.wrote.filter fun o => decide (s.fs x.run.set F.LOOM_OUT_MAP_CMP o = 1)).map fun o =>
    { cyc := x.run.cyc, o := o, v := s.ramWord (0x800 + o) }

/-- The active unit sends the graft of a run that has ended (R83, R293). -/
def Dev.graftSend (s : Dev) (x : Exec) : Dev :=
  let r := x.run
  let b := s.fs r.set F.LOOM_SLOT_GRAFT_BASE r.slot
  let g := (List.range (s.fs r.set F.LOOM_SLOT_GRAFT_LEN r.slot)).map fun j => s.ramWord (b + j)
  let c := s.cmpVals x
  match s.pxLane with
  | some L =>
    if ¬ s.unitActive ∨ (g = [] ∧ c = []) then s
    else s.pxSend L 2 (r.cyc % 2 ^ 32) (bytesOf 1 r.slot ++ bytesOf 1 c.length ++ beBytes 2 g.length ++ (g.flatMap fun w => beBytes 4 w) ++
      c.flatMap fun v => beBytes 2 v.o ++ beBytes 4 v.v)
  | none => s

/-- `LOOM.STAT` shows the latest END among the runs of the previous cycle that have ended, and the lowest slot with it (R67). -/
def Dev.loomStat (s : Dev) : Dev :=
  let l := s.loom.ends.filter fun e => decide (e.1 + 2 = s.glob.nextCyc)
  let top := l.foldl (fun a e => max a e.2.2) 0
  match (l.filter fun e => decide (e.2.2 = top)).map fun e => e.2.1 with
  | [] => (s.put F.LOOM_STAT_END 0xFFFF).put F.LOOM_STAT_LAST_SLOT 0
  | k :: ks => (s.put F.LOOM_STAT_END (min top 0xFFFE)).put F.LOOM_STAT_LAST_SLOT (ks.foldl min k)

/-- A run ends, normally or by abort. -/
def Dev.endRun (s : Dev) (sh : Nat) (x : Exec) (aborted : Bool) : Dev :=
  let r := x.run
  let e := x.start + 2 + x.el
  let s := (s.advanceTo (r.t0 + e)).endExec sh
  let s := (s.put F.LOOM_SLOT_LAT_START (min x.start 0xFFFE) r.slot).put F.LOOM_SLOT_LAT_END (min e 0xFFFE) r.slot
  let s := s.top F.LOOM_SLOT_LAT_END_MAX (min e 0xFFFE) r.slot
  let s := Dev.loomStat { s with loom := { s.loom with ends := (r.cyc, r.slot, e) :: s.loom.ends } }
  let s := if aborted then s.raise F.LOOM_SLOT_FLAGS_ECC_ABORT r.slot else s.incW F.LOOM_SLOT_CNT_RUNS 1 r.slot
  let s := s.outDefaults x
  let s := s.iff (!aborted) fun s => s.graftSend x
  let s := if x.noGraft || aborted then s.iff s.standby fun s => s.cmpExclude r.cyc else s.cmpAdd true (s.cmpVals x)
  s.arrive r.cyc fun set slot k => s.depSlot r.slot set slot k

/-- RUN_END: the run on a shuttle has executed its last instruction. -/
def Dev.runEnd (s : Dev) (sh : Nat) : Dev :=
  match s.execOf sh with
  | some x => if x.run.len ≤ x.pc then s.endRun sh x false else s
  | none => s

/-! ## Hand-over (R131 to R135) -/

/-- The state of a slot's hand-over. -/
def HandOver.none_ : HandOver := { oldRec := 0, prevY := 0, cyc := 0, early := none }
def Dev.hoOf (s : Dev) (slot : Nat) : HandOver := Tab.get HandOver.none_ s.loom.ho slot
def Dev.setHo (s : Dev) (slot : Nat) (h : HandOver) : Dev := { s with loom := { s.loom with ho := Tab.set HandOver.none_ s.loom.ho slot h } }

/-- The record that a mode names, if any. -/
def Dev.hoRec (s : Dev) (set slot m : Nat) : Option Nat :=
  if s.fs set F.LOOM_HO_REC_EN slot m = 1 then some (s.fs set F.LOOM_HO_REC_ADDR slot m) else none

/-- A hand-over of a slot from the record of the outgoing mode becomes pending, for the runs of cycle `n` on (R131). -/
def Dev.hoStart (s : Dev) (slot n : Nat) (old new : Option Nat) : Dev :=
  match old, new with
  | some a, some _ =>
    let h := s.hoOf slot
    let keep := s.flag F.LOOM_MODE_STAT_PENDING slot && decide (h.cyc = n)
    (s.setHo slot { h with oldRec := if keep then h.oldRec else a, cyc := n }).raise F.LOOM_MODE_STAT_PENDING slot
  | _, _ => (s.put F.LOOM_MODE_STAT_PENDING 0 slot).put F.LOOM_MODE_STAT_SLEWING 0 slot

/-- Word 0 of the result moves by at most SLEW from the value of the previous run (R133, R134). -/
def Dev.slewed (s : Dev) (set slot : Nat) (prev : Int) (e : LEff) : Dev × LEff :=
  let w : Int := s.fs set F.LOOM_HO_SLEW_SLEW slot
  match e.wr with
  | (0, t) :: l =>
    let y := prev + clampI (-w) w (t - prev)
    let s := (s.setHo slot { s.hoOf slot with prevY := y }).put F.LOOM_MODE_STAT_SLEWING (b2n (decide (y ≠ t))) slot
    (s, { e with wr := (0, y) :: l, lim := e.lim || decide (y ≠ t) })
  | _ => (s, e)

/-- The part of u that is not I, and the bounds (R109, R110, R131). -/
def hoParts (o : Opc) (c : LCtx) : Int × Int × Int :=
  match o with
  | .pirOp => (c.prod (c.b 0) (c.a 0) + satS 32 (Isa.resonant c), c.b 4, c.b 5)
  | _ => (c.prod (c.b 0) (c.a 0), c.b 2, c.b 3)

/-- The hand-over that a run takes (R127, R131): the record of the outgoing mode, and whether it is the one that `PENDING` shows. -/
def Dev.hoFrom (s : Dev) (r : Run) : Option (Nat × Bool) :=
  let h := s.hoOf r.slot
  if s.flag F.LOOM_MODE_STAT_PENDING r.slot && decide (h.cyc ≤ r.cyc) then some (h.oldRec, true) else h.early.map fun a => (a, false)

/-- A hand-over instruction executes: `t` is the station time of its first cycle. -/
def Dev.handOver (s : Dev) (r : Run) (o : Opc) (c : LCtx) (f : LCtx → LEff) (t : Nat) : Dev × LEff :=
  let h := s.hoOf r.slot
  match s.hoFrom r with
  | some (a, all) =>
    let slewing := s.flag F.LOOM_MODE_STAT_SLEWING r.slot
    let yOld : Int := if slewing then h.prevY else sgn 32 (readBefore (s.ramWord a) a t s.loom.recent)
    let q := hoParts o c
    let d := q.1 + c.d 1 - yOld
    let s := (s.setHo r.slot { h with early := none }).put F.LOOM_HO_LAST_DELTA (wrap 32 (satS 32 d)) r.slot
    let s := s.iff all fun s => s.put F.LOOM_MODE_STAT_PENDING 0 r.slot
    if d.natAbs ≤ s.fs r.set F.LOOM_HO_WINDOW_WINDOW r.slot then
      let s := (s.put F.LOOM_MODE_STAT_SLEWING 0 r.slot).inc F.LOOM_MODE_CNT_HO_CNT 1 r.slot
      let want := yOld - q.1
      let i := if q.2.1 < q.2.2 then c.d 1 else clampI q.2.2 q.2.1 want
      let clip := decide (i ≠ want) && !decide (q.2.1 < q.2.2)
      let s := s.iff clip fun s => s.raise F.LOOM_MODE_STAT_HO_CLIP r.slot
      let e := f { c with d := fun k => if k = 1 then i else c.d k }
      (s, { e with lim := e.lim || clip })
    else
      let s := ((s.raise F.LOOM_MODE_STAT_HO_WIDE r.slot).raise F.LOOM_MODE_STAT_SLEWING r.slot).inc F.LOOM_MODE_CNT_WIDE_CNT 1 r.slot
      s.slewed r.set r.slot yOld (f c)
  | none => if s.flag F.LOOM_MODE_STAT_SLEWING r.slot then s.slewed r.set r.slot h.prevY (f c) else (s, f c)

/-! ## One instruction (R88 to R119) -/

/-- The instruction that a shuttle executes next. -/
def Dev.nextOp (s : Dev) (x : Exec) : Option LoomOp :=
  if x.run.len ≤ x.pc then none else LoomOp.decode (s.progWord x.run.set (x.run.base + x.pc))

/-- The station time of the first CORE cycle of the next instruction (R60, R92). -/
def Exec.time (x : Exec) : Nat := x.run.t0 + x.start + 2 + x.el

/-- The PRED condition on P (R89, R94). -/
def LoomOp.runs (op : LoomOp) (p : Bool) : Bool := if op.pred = 1 then p else if op.pred = 2 then !p else true

/-- What an instruction reads (R92, R93). -/
def Dev.operands (s : Dev) (x : Exec) (op : LoomOp) : LCtx :=
  let r := x.run
  let t := x.time
  let rd := fun (p : Place) (j : Nat) => sgn 32 (s.readWord r.set r.bank t p j)
  let b := s.place r.set r.slot op.srcb
  { d := rd (s.place r.set r.slot op.dst), a := rd (s.place r.set r.slot op.srca), b := rd b,
    imm := op.srca * 2 ^ 16 + op.srcb, shf := op.shf, rnd := op.rnd, p := x.p, acc := x.acc,
    room := (if b.coef then 8192 else ramWords) - b.addr }

/-- The instruction is a hand-over instruction of the mode that the run executes (R131). -/
def Dev.isHandOver (s : Dev) (r : Run) (op : LoomOp) : Bool :=
  (decide (op.opc = .piOp) || decide (op.opc = .pirOp)) &&
  decide (s.place r.set r.slot op.dst = { coef := false, addr := (s.hoRec r.set r.slot r.mode).getD 0 }) &&
  (s.hoRec r.set r.slot r.mode).isSome

/-- The word of the outgoing mode's record that a hand-over instruction reads (R131). -/
def Dev.hoRange (s : Dev) (r : Run) (op : LoomOp) : List (Place × Nat) :=
  match s.hoFrom r with
  | some (a, _) => if s.isHandOver r op && !s.flag F.LOOM_MODE_STAT_SLEWING r.slot then [({ coef := false, addr := a }, 1)] else []
  | none => []

/-- The words of a result are written in the last cycle of the instruction, saturated; an egress word goes to its port (R66, R79, R92).
`t` is the station time of that cycle. -/
def Dev.writeResult (s : Dev) (sh t : Nat) (r : Run) (p : Place) (wr : List (Nat × Int)) : Dev :=
  s.each wr fun s w =>
    let a := p.addr + w.1
    let v := (satWord w.2).toNat
    let k := s.shuttleWrite a v t sh r.slot
    k.1.iff (k.2 && isEgress a) fun s => s.egress r.set (some r.cyc) (a - 0x800) v

/-- Flags that an executed instruction sets (R79, R99, R100). -/
def Dev.instrFlags (s : Dev) (slot : Nat) (sat : Bool) (e : LEff) : Dev :=
  let s := s.iff sat fun s => s.raise F.LOOM_SLOT_FLAGS_SAT slot
  let s := s.iff e.divz fun s => s.raise F.LOOM_SLOT_FLAGS_DIVZ slot
  s.iff e.dom fun s => s.raise F.LOOM_SLOT_FLAGS_DOM slot

/-- An uncorrectable error was read: the run ends in that CORE cycle (R82). -/
def Dev.abortRun (s : Dev) (sh : Nat) (x : Exec) : Dev := s.endRun sh { x with el := x.el + 1 } true

/-- The instruction executes with effect `f` on what it reads. -/
def Dev.execute (s : Dev) (sh : Nat) (x : Exec) (op : LoomOp) (f : LCtx → LEff) : Dev :=
  let r := x.run
  let c := s.operands x op
  let q := if s.isHandOver r op then s.handOver r op.opc c f x.time else (s, f c)
  let e := q.2
  let s := q.1.advanceTo (x.time + op.opc.cycles)
  let sat := e.sat || e.wr.any fun w => outside32 w.2
  let s := s.instrFlags r.slot sat e
  let p := s.place r.set r.slot op.dst
  let s := s.writeResult sh (x.time + op.opc.cycles - 1) r p e.wr
  let outs := (e.wr.map fun w => p.addr + w.1).filter isEgress |>.map fun a => a - 0x800
  s.setExec sh { x with
    pc := x.pc + 1
    el := x.el + op.opc.cycles
    p := match e.p with | some b => b | none => if op.satp then e.lim || sat else x.p
    acc := e.acc.getD x.acc
    wrote := x.wrote ++ outs.filter fun o => !x.wrote.contains o }

/-- A shuttle writes word `a` in the CORE cycle at `t`: the last cycle of the instruction that it executes (R71, R92). -/
def Dev.shuttleAt (s : Dev) (a t : Nat) : Bool :=
  s.loom.sh.any fun e =>
    match s.nextOp e.2 with
    | none => false
    | some op =>
      let p := s.place e.2.run.set e.2.run.slot op.dst
      op.runs e.2.p && decide (e.2.time + op.opc.cycles = t + 1) && !p.coef && decide (p.addr ≤ a) && decide (a < p.addr + op.opc.dstExt op.shf)

/-- A row of the operation map: the shuttle executes its next instruction, where that is one of this operation. -/
def Dev.instr (s : Dev) (sh : Nat) (o : Opc) (f : LCtx → LEff) : Dev :=
  match s.execOf sh with
  | none => s
  | some x =>
    match s.nextOp x with
    | none => s
    | some op =>
      if op.opc ≠ o then s
      else
        let r := x.run
        let q := s.eccRead (eccProg r.set (r.base + x.pc)) 1
        if ¬ q.2 then q.1.abortRun sh x
        else if ¬ op.runs x.p then
          (q.1.advanceTo (x.time + op.opc.cycles)).setExec sh { x with pc := x.pc + 1, el := x.el + op.opc.cycles }
        else
          let q := (s.readRanges r.set r.bank r.slot x.time op ++ s.hoRange r op).foldl (fun (q : Dev × Bool) (p : Place × Nat) =>
            let k := q.1.eccRead (p.1.key r.set r.bank) p.2
            (k.1, q.2 && k.2)) (q.1, true)
          if q.2 then q.1.execute sh x op f else q.1.abortRun sh x

end Sys2Proof.Machine
end

