-- ==== Sys2Proof/Machine/LoomRuns.lean ====
section
/-! DEFINITION. Ingress, regions and banks, modes, and when runs become due and start (R61 to R65, R75, R76, R83, R86, R120 to R130,
R135, R136, R138). -/

namespace Sys2Proof.Machine

/-! ## Ingress ports (R75, R76) -/

/-- A latched value of an ingress word: the value, plus 2³² where it is bad. -/
def latchOf (v : Nat) (bad : Bool) : Nat := v % 2 ^ 32 + b2n bad * 2 ^ 32

/-- What the boundary of cycle n latches for an ingress word; none where its source is disabled. Sources that are read later latch 0. -/
def Dev.ingressLatch (s : Dev) (set n i : Nat) : Option Nat :=
  let sel := s.fs set F.LOOM_IN_MAP_SEL i
  match s.fs set F.LOOM_IN_MAP_SRC i with
  | 1 => some 0
  | 2 => some 0
  | 3 =>
    let k := bits sel 8 5
    let v := s.svOf k
    let e := v.elems.getD (bits sel 0 4) (0, false)
    let new := match v.arr with | some t => decide (n = 0) || decide (s.bnd (n - 1) < t) | none => false
    if s.flag F.ETH_SV_CFG_EN k then some (latchOf e.1 (!e.2 || !new)) else none
  | 4 => some 0
  | 5 => if ¬ s.flag F.ANGLE_CFG_EN (bits sel 4 2) then none else some (latchOf (s.angItem (bits sel 4 2) (bits sel 0 4)) false)
  | 6 => some (latchOf (s.safeItem (bits sel 0 4)) false)
  | 7 => some (latchOf (s.fi F.LOOM_HOST_IN_VALUE (bits sel 0 8)) false)
  | 8 =>
    some (latchOf (match bits sel 0 2 with
      | 0 => s.f F.GLOBAL_CYCLE_CNT_CYCLE
      | 1 => s.f F.GLOBAL_LAT_LAST
      | _ => s.word F.regGlobalCycleStat 0 0 0) false)
  | 9 => some (latchOf (if sel < 0x100 then s.f F.LOOM_IN_BAD_BAD sel else s.word F.regLoomSlotFlags 0 (sel - 0x100) 0) false)
  | _ => none

/-- The enabled entries of the ingress map. -/
def Dev.inEntries (s : Dev) (set : Nat) : List Nat := s.listed F.LOOM_IN_MAP_EN set 2048

/-- The boundary of cycle n latches the ingress values. -/
def Dev.latchAll (s : Dev) (set n : Nat) : Dev :=
  { s with loom := { s.loom with latch := (s.inEntries set).foldl (fun t i =>
    match s.ingressLatch set n i with | some v => Tab.put t i v | none => t) [] } }

/-- ADC_MEAN as a word: the mean as DATA, or a sample word of it: SEQ and CH of the boundary word, the marks of all its samples (R75, R76,
R276). -/
def AdcMean.word (m : AdcMean) (w : Nat) (whole : Bool) : Nat :=
  let d := wrap 16 (roundDiv true m.sum m.n)
  if whole then putBit (putBit (putBit (putBit (putBits w 0 16 d) 16 m.valid) 17 m.ovr) 18 m.novr) 19 false else d * 2 ^ 16

/-- The value of an ingress word at its time; `none` where it is not yet there, `some none` where its source is disabled. -/
def Dev.ingressValue (s : Dev) (set n i : Nat) : Option (Option Nat) :=
  let sel := s.fs set F.LOOM_IN_MAP_SEL i
  let whole := decide (s.fs set F.LOOM_IN_MAP_FMT i = 1)
  let c := bits sel 0 4
  let x := s.adcCh c
  match s.fs set F.LOOM_IN_MAP_SRC i with
  | 1 =>
    if adcChans s.role ≤ c then some none
    else if x.bndT ≠ s.bnd n then none
    else if wNoConv x.bndW then some none
    else some (some (latchOf (if whole then x.bndW else x.bndW % 2 ^ 16 * 2 ^ 16) (!wValid x.bndW || wOvr x.bndW)))
  | 2 =>
    if adcChans s.role ≤ c then some none
    else if x.bndT ≠ s.bnd n then none
    else if x.bndM.n = 0 then some none
    else some (some (latchOf (x.bndM.word x.bndW whole) (!x.bndM.valid || x.bndM.ovr)))
  | 4 =>
    let a := bits sel 8 4
    let y := s.spArm a
    if s.armCells set a = [] then some none
    else if y.itemsAt ≠ n + 1 then none
    else some (some (latchOf (y.items.getD (bits sel 0 3) 0) false))
  | _ => some (Tab.find s.loom.latch i)

/-- The station time at which word i of the ingress is written for cycle n (R75): aggregates of an update that ends after the boundary come
8 ns after its end (R150). -/
def Dev.ingressTime (s : Dev) (set n i : Nat) : Nat :=
  let src := s.fs set F.LOOM_IN_MAP_SRC i
  let x := s.spArm (bits (s.fs set F.LOOM_IN_MAP_SEL i) 8 4)
  if src = 1 ∨ src = 2 ∨ src = 9 then s.bnd n + 80
  else if src = 4 ∧ x.upd = n then max (s.bnd n) x.updEnd + 8
  else s.bnd n + 8

/-- The ingress writes word i in the CORE cycle at `t` (R71, R75). -/
def Dev.ingressAt (s : Dev) (i t : Nat) : Bool :=
  let n := s.glob.nextCyc - 1
  let set := s.cycSet n
  match Tab.find s.loom.latch i, s.ingressValue set n i with
  | some _, some (some _) => decide (s.ingressTime set n i = t)
  | _, _ => false

/-- INGRESS_WRITE: the ingress writes word i for the cycle and marks it (R75, R76); runs that wait for it are told (R64). -/
def Dev.ingressWrite (s : Dev) (i : Nat) : Dev :=
  let n := s.glob.nextCyc - 1
  let set := s.cycSet n
  match Tab.find s.loom.latch i, s.ingressValue set n i with
  | some _, some none => { s with loom := { s.loom with latch := Tab.erase s.loom.latch i } }
  | some _, some (some v) =>
    let t := s.ingressTime set n i
    let s := s.advanceTo t
    let s := { s with loom := { s.loom with latch := Tab.erase s.loom.latch i } }
    let s := (s.ramWrite i (v % 2 ^ 32) t 16 0).setBit F.LOOM_IN_BAD_BAD (i % 32) (bitOf v 32) (i / 32)
    s.arrive n fun set slot k => decide (s.fs set F.LOOM_SLOT_DEP_KIND slot k = 0) && decide (s.fs set F.LOOM_SLOT_DEP_INDEX slot k = i)
  | _, _ => s

/-! ## Starting runs (R59, R64, R65, R83) -/

/-- The graft is a dependency of the slot's runs in the standby unit (R83). -/
def Dev.needsGraft (s : Dev) (r : Run) : Bool := s.standby && decide (s.fs r.set F.LOOM_SLOT_GRAFT_LEN r.slot ≠ 0)

/-- Every dependency of a run has arrived, or its deadline has expired (R64, R65). -/
def Dev.runReady (s : Dev) (r : Run) : Bool :=
  r.late || (((List.range 8).all fun k => decide (s.fs r.set F.LOOM_SLOT_DEP_EN r.slot k = 0) || r.arr.contains k) &&
    (!s.needsGraft r || r.graft))

/-- A slot's run is executing. -/
def Dev.slotBusy (s : Dev) (slot : Nat) : Bool := s.loom.sh.any fun e => decide (e.2.run.slot = slot)

/-- The ready runs that a shuttle may start. -/
def Dev.runnable (s : Dev) (sh : Nat) : List Run :=
  s.loom.due.filter fun r => decide (s.fs r.set F.LOOM_SLOT_CTL_SHUTTLE r.slot = sh) && s.runReady r && !s.slotBusy r.slot

/-- The run with the lowest slot number (R59). -/
def lowestRun : List Run → Option Run
  | [] => none
  | r :: l => match lowestRun l with
    | none => some r
    | some q => if q.slot < r.slot then some q else some r

/-- The cycle whose graft a run of cycle n needs is n − DIV (R83). -/
def Dev.graftKey (s : Dev) (r : Run) : Nat := (r.cyc - s.fi F.LOOM_SLOT_RATE_DIV r.slot) * 64 + r.slot

/-- The standby unit writes the graft of a run before its dispatch, or starts it without (R83). Answers whether it is missing. -/
def Dev.takeGraft (s : Dev) (r : Run) : Dev × Bool :=
  if ¬ s.needsGraft r then (s, false)
  else
    let s1 := { s with loom := { s.loom with graft := Tab.keep (fun k => decide (k % 64 ≠ r.slot) || decide (s.graftKey r < k)) s.loom.graft } }
    match Tab.find s.loom.graft (s.graftKey r) with
    | some l =>
      let b := s.fs r.set F.LOOM_SLOT_GRAFT_BASE r.slot
      let n := min l.length (s.fs r.set F.LOOM_SLOT_GRAFT_LEN r.slot)
      (s1.each (List.range n) fun s j => s.ramWrite (b + j) (l.getD j 0) s.now 18 0, false)
    | none =>
      let s1 := ((s1.raise F.LOOM_SLOT_FLAGS_GRAFT_LATE r.slot).inc F.LOOM_GRAFT_STAT_LATE_CNT 1).cmpExclude r.cyc
      ({ s1 with pair := { s1.pair with cycEvt := putBit s1.pair.cycEvt 6 true } }, true)

/-- A bank change alone is a hand-over where the slot asks for it (R127), beside one that is pending for the runs of a later cycle. -/
def Dev.bankHandOver (s : Dev) (r : Run) : Dev :=
  if s.fs r.set F.LOOM_HO_SLEW_BANK r.slot = 1 ∧ s.f F.LOOM_SLOT_LAT_START r.slot ≠ 0xFFFF ∧ s.f F.LOOM_MODE_STAT_BANK r.slot ≠ r.bank then
    let h := s.hoOf r.slot
    match s.hoRec r.set r.slot r.mode with
    | some a =>
      if ¬ s.flag F.LOOM_MODE_STAT_PENDING r.slot then s.hoStart r.slot r.cyc (some a) (some a)
      else if r.cyc < h.cyc then s.setHo r.slot { h with early := some a }
      else s
    | none => s
  else s

/-- RUN_DISPATCH: a free shuttle starts the ready run with the lowest slot number (R59, R60, R93, R126). -/
def Dev.runDispatch (s : Dev) (sh : Nat) : Dev :=
  match s.execOf sh, lowestRun (s.runnable sh) with
  | none, some r =>
    let s := { s with loom := { s.loom with due := s.loom.due.filter fun q => decide (q.slot ≠ r.slot) } }
    let g := s.takeGraft r
    let s := (g.1.bankHandOver r).put F.LOOM_MODE_STAT_BANK r.bank r.slot
    let start := s.now - r.t0
    (s.put F.LOOM_SLOT_LAT_START (min start 0xFFFE) r.slot).setExec sh
      { run := r, pc := 0, p := false, acc := 0, start := start, el := 0, wrote := [], noGraft := g.2 }
  | _, _ => s

/-- DEADLINE_EXPIRY: a run whose dependencies have not arrived becomes ready at its deadline (R65). -/
def Dev.deadline (s : Dev) (slot : Nat) : Dev :=
  match s.loom.due.find? fun r => decide (r.slot = slot) with
  | some r =>
    let d := s.fs r.set F.LOOM_SLOT_CTL_DEADLINE slot
    if d = 0 ∨ s.runReady r then s
    else
      let s := s.advanceTo (r.t0 + d)
      let s := { s with loom := { s.loom with due := s.loom.due.map fun (q : Run) => if q.slot = slot then { q with late := true } else q } }
      (s.raise F.LOOM_SLOT_FLAGS_IN_LATE slot).inc F.LOOM_SLOT_CNT_LATE_CNT 1 slot
  | none => s

/-! ## Regions and banks (R120 to R126) -/

/-- A breakpoint of a variable: B_j, j = 1 to 7. -/
def Dev.breakpoint (s : Dev) (set v j : Nat) : Int := sgn 32 (s.fs set F.LOOM_SCHED_BP_BP v (j - 1))

/-- The index of a variable after the sample `x` (R121). -/
def Dev.newIndex (s : Dev) (set v k : Nat) (x : Int) : Nat :=
  let nbp := s.fs set F.LOOM_SCHED_VAR_NBP v
  let h : Int := s.fs set F.LOOM_SCHED_HYS_HYS v
  let b := s.breakpoint set v
  if k < nbp ∧ b (k + 1) + h ≤ x then (((List.range (nbp + 1)).filter fun j => decide (j ≠ 0) && decide (b j + h ≤ x)).getLast?).getD 0
  else if 0 < k ∧ x < b k - h then (((List.range (nbp + 1)).find? fun j => decide (j = nbp) || decide (x < b (j + 1) - h))).getD 0
  else k

/-- The variable's word is an ingress word last written from a bad value (R122). -/
def Dev.schedBad (s : Dev) (set v : Nat) : Bool :=
  let a := s.fs set F.LOOM_SCHED_VAR_ADDR v
  decide (s.fs set F.LOOM_SCHED_VAR_EN v = 1) && isIngress a && bitOf (s.f F.LOOM_IN_BAD_BAD (a / 32)) (a % 32)

/-- The index of a variable as the boundary evaluates it. -/
def Dev.evalIndex (s : Dev) (set v k : Nat) : Nat :=
  if s.fs set F.LOOM_SCHED_VAR_EN v = 0 then 0
  else
    let k := min k (s.fs set F.LOOM_SCHED_VAR_NBP v)
    if s.schedBad set v then k else s.newIndex set v k (sgn 32 (s.ramWord (s.fs set F.LOOM_SCHED_VAR_ADDR v)))

/-- REGION_EVAL, step 3 of R136. -/
def Dev.regionEval (s : Dev) (set : Nat) (swapped : Bool) : Dev :=
  let s := s.xferReg F.regLoomSchedForce
  let s := s.iff (s.schedBad set 0 || s.schedBad set 1) fun s => s.raise F.LOOM_SCHED_STAT_HOLD
  let left := s.f F.LOOM_SCHED_CNT_DWELL_LEFT
  let k0 := s.f F.LOOM_SCHED_STAT_K0
  let k1 := s.f F.LOOM_SCHED_STAT_K1
  let s :=
    if 0 < left ∧ ¬ swapped then s.put F.LOOM_SCHED_CNT_DWELL_LEFT (left - 1)
    else
      let n0 := s.evalIndex set 0 k0
      let n1 := s.evalIndex set 1 k1
      if n0 = k0 ∧ n1 = k1 then s.put F.LOOM_SCHED_CNT_DWELL_LEFT (left - 1)
      else (((s.put F.LOOM_SCHED_STAT_K0 n0).put F.LOOM_SCHED_STAT_K1 n1).inc F.LOOM_SCHED_CNT_CHANGES 1).put F.LOOM_SCHED_CNT_DWELL_LEFT
        (s.fs set F.LOOM_SCHED_DWELL_DWELL - 1)
  let forced := s.fi F.LOOM_SCHED_FORCE_FORCE
  let region := s.f F.LOOM_SCHED_STAT_K1 * 8 + s.f F.LOOM_SCHED_STAT_K0
  (s.put F.LOOM_SCHED_STAT_FORCED forced).put F.LOOM_SCHED_STAT_REGION (if forced = 1 then s.fi F.LOOM_SCHED_FORCE_REGION else region)

/-- The bank of a slot under the region in force (R123, R126). -/
def Dev.slotBank (s : Dev) (set slot : Nat) : Nat :=
  let r := s.f F.LOOM_SCHED_STAT_REGION
  if s.fs set F.LOOM_SLOT_BANK_SCHED slot = 1 then bits (s.fs set F.LOOM_REGION_MAP_BANK (r / 8)) (4 * (r % 8)) 4
  else s.fs set F.LOOM_SLOT_BANK_FBANK slot

/-! ## Modes (R128 to R130, R135) -/

/-- The slot is enabled in a set. -/
def Dev.slotEn (s : Dev) (set slot : Nat) : Bool := decide (s.fs set F.LOOM_SLOT_CTL_EN slot = 1)

/-- The run time of a mode's program as the registers show it (R60, R128); 0 where the mode is absent (log entry 146). -/
def Dev.modeTime (s : Dev) (set : Nat) (p : Nat × Nat) : Nat := if p.2 = 0 then 0 else s.progTime set p.1 p.2

/-- A mode comes into force. -/
def Dev.setMode (s : Dev) (set slot m : Nat) : Dev :=
  (s.put F.LOOM_MODE_STAT_MODE m slot).put F.LOOM_MODE_STAT_TIME (s.modeTime set (s.modeProg set slot m)) slot

/-- At a swap boundary of cycle n, from set `old` (R130, R135). -/
def Dev.modeSwap (s : Dev) (old new n slot : Nat) : Dev :=
  let m := s.f F.LOOM_MODE_STAT_MODE slot
  if m ≠ 0 ∧ (s.modeProg new slot m).2 = 0 then
    ((s.setMode new slot 0).raise F.LOOM_MODE_STAT_MODE_BAD slot).hoStart slot n (s.hoRec old slot m) (s.hoRec new slot 0)
  else if s.fs new F.LOOM_HO_SLEW_SWAP slot = 1 then s.hoStart slot n (s.hoRec old slot m) (s.hoRec new slot m)
  else s

/-- The requested mode (R129). -/
def Dev.modeAsked (s : Dev) (slot : Nat) : Nat :=
  if s.fi F.LOOM_MODE_REQ_SRC slot = 1 then s.ramWord (s.fi F.LOOM_MODE_REQ_ADDR slot) % 4 else s.fi F.LOOM_MODE_REQ_MODE slot

/-- Cycle n is a run cycle of a slot under the values in force (R61). -/
def Dev.runCycle (s : Dev) (slot n : Nat) : Bool := decide (n % s.fi F.LOOM_SLOT_RATE_DIV slot = s.fi F.LOOM_SLOT_RATE_PHASE slot)

/-- MODE_CHANGE and the transfer of SLOT_RATE, step 4 of R136, for one slot at the boundary of cycle n. -/
def Dev.modeStep (s : Dev) (set n slot : Nat) : Dev :=
  let point := !s.slotEn set slot || s.runCycle slot n
  let s := s.xferReg F.regLoomModeReq slot
  let want := s.modeAsked slot
  let cur := s.f F.LOOM_MODE_STAT_MODE slot
  let last := Tab.get 0 s.loom.modeReq slot
  let pend := if want ≠ last % 4 then decide (want ≠ cur) else decide (4 ≤ last) && decide (want ≠ cur)
  let s := { s with loom := { s.loom with modeReq := Tab.set 0 s.loom.modeReq slot (want + b2n (pend && !point) * 4) } }
  let s :=
    if pend && point then
      if (s.modeProg set slot want).2 = 0 then s.raise F.LOOM_MODE_STAT_MODE_BAD slot
      else (s.setMode set slot want).hoStart slot n (s.hoRec set slot cur) (s.hoRec set slot want)
    else s
  s.iff point fun s => s.xferReg F.regLoomSlotRate slot

/-! ## Runs become due (R61, R63, R64) -/

/-- RUN_DUE for one slot in cycle n. -/
def Dev.runDue (s : Dev) (set n slot : Nat) : Dev :=
  let m := s.f F.LOOM_MODE_STAT_MODE slot
  let p := s.modeProg set slot m
  let off := fun (q : Nat) => !s.slotEn set q || !s.runCycle q n
  let r : Run := {
    slot := slot, cyc := n, set := set, mode := m, bank := s.slotBank set slot, base := p.1, len := p.2, t0 := s.bnd n
    arr := (List.range 8).filter fun k => decide (s.fs set F.LOOM_SLOT_DEP_KIND slot k = 1) && off (s.fs set F.LOOM_SLOT_DEP_INDEX slot k)
    graft := (Tab.find s.loom.graft ((n - s.fi F.LOOM_SLOT_RATE_DIV slot) * 64 + slot)).isSome
    late := false }
  let s :=
    if s.loom.due.any fun q => decide (q.slot = slot) then (s.raise F.LOOM_SLOT_FLAGS_SKIP slot).inc F.LOOM_SLOT_CNT_SKIP_CNT 1 slot else s
  let s := s.iff (s.slotBusy slot) fun s => s.raise F.LOOM_SLOT_FLAGS_HOLD slot
  { s with loom := { s.loom with due := (s.loom.due.filter fun q => decide (q.slot ≠ slot)) ++ [r] } }

/-! ## The boundary (R136, R138) -/

/-- The indices, dwell and modes of the unit (R138). -/
def Dev.schedNow (s : Dev) (set : Nat) : AdoptRec :=
  { k0 := s.f F.LOOM_SCHED_STAT_K0, k1 := s.f F.LOOM_SCHED_STAT_K1, dwell := s.f F.LOOM_SCHED_CNT_DWELL_LEFT
    modes := ((List.range 64).filter fun k => s.slotEn set k).map fun k => (k, s.f F.LOOM_MODE_STAT_MODE k) }

/-- The standby unit takes the active unit's indices, dwell and modes (R138). -/
def Dev.adoptNow (s : Dev) (set : Nat) : Dev :=
  match s.loom.adopt with
  | none => s
  | some a =>
    let s := { s with loom := { s.loom with adopt := none } }
    if ¬ s.standby then s
    else
      let s := ((s.put F.LOOM_SCHED_STAT_K0 a.k0).put F.LOOM_SCHED_STAT_K1 a.k1).put F.LOOM_SCHED_CNT_DWELL_LEFT a.dwell
      s.each (a.modes.filter fun e => s.slotEn set e.1 && decide (s.f F.LOOM_MODE_STAT_MODE e.1 ≠ e.2) && decide ((s.modeProg set e.1 e.2).2 ≠ 0))
        fun s e => ((s.setMode set e.1 e.2).put F.LOOM_MODE_STAT_PENDING 0 e.1).put F.LOOM_MODE_STAT_SLEWING 0 e.1

/-- What Loom reports of the programs of a set that has just become active (R60, R87, R128). -/
def Dev.loomLoaded (s : Dev) (set : Nat) : Dev :=
  let s := s.each (List.range 64) fun s k =>
    let p := s.modeProg set k 0
    let q := s.modeProg set k (s.f F.LOOM_MODE_STAT_MODE k)
    (s.put F.LOOM_SLOT_TIME_TIME (s.modeTime set p) k).put F.LOOM_MODE_STAT_TIME (s.modeTime set q) k
  s.put F.LOOM_GRAFT_STAT_WORDS (sumNat ((List.range 64).filter fun k => s.slotEn set k) fun k => s.fs set F.LOOM_SLOT_GRAFT_LEN k)

/-- Loom's part of the boundary of cycle n (R136): `old` is the set before the boundary, `run` tells that a cycle starts. -/
def Dev.loomBoundary (s : Dev) (old n : Nat) (run : Bool) : Dev :=
  let set := s.actSet
  let swapped := decide (old ≠ set) || s.loom.newSet
  let s := s.iff (decide (old ≠ set)) fun s => (s.each (List.range 64) fun s k => s.modeSwap old set n k).loomLoaded set
  let s := (s.linkCopy (s.bnd n)).adoptNow set
  let s := s.regionEval set swapped
  let s := s.each (List.range 64) fun s k => s.modeStep set n k
  let s := s.each (List.range 256) fun s j => s.xferReg F.regLoomHostIn j
  let on := run && s.flag F.LOOM_CTL_ENABLE
  let s := s.iff on fun s => s.each ((List.range 64).filter fun k => s.slotEn set k && s.runCycle k n) fun s k => s.runDue set n k
  let s := s.iff (decide (2 ≤ n)) fun s => s.cmpJudge (n - 2)
  let keep := fun (l : Tab AdoptRec) => Tab.keep (fun k => decide (n < k + 4)) l
  let s := { s with loom := { s.loom with newSet := false
                                          sched := Tab.put (keep s.loom.sched) n (s.schedNow set)
                                          ends := s.loom.ends.filter fun e => decide (n < e.1 + 3) } }
  (s.latchAll set n).loomStat

/-- A register that a reset of Loom keeps, beside the set-held ones (R86): `SLOT_RATE`. -/
def keySlotRate (k : Nat) : Bool :=
  let o := k / 64 % 0x20000
  decide (0x1000 ≤ o) && decide (o < 0x2000) && decide (o % 64 = 4)

/-- A reset of Loom, per block or warm (R6, R86, R468): data RAM, both stores, the set-held registers and `SLOT_RATE` stay; every other
register and all that the runs held take their reset values, and mode 0 comes into force. -/
def Dev.loomReset (s : Dev) : Dev :=
  let l := s.loom
  Dev.loomLoaded { s with loom := { Loom.off with
      regs := Tab.keep (fun k => keySet .loom k || keyEpoch k || keySlotRate k) l.regs
      ram := l.ram, link := l.link, prog0 := l.prog0, prog1 := l.prog1, coef0 := l.coef0, coef1 := l.coef1, ecc := l.ecc } } s.actSet

/-- SCRUB_PASS (R81, R302): every word is read; single-bit errors are corrected and uncorrectable ones recorded. -/
def Dev.scrubPass (s : Dev) : Dev :=
  if ¬ s.flag F.LOOM_CTL_SCRUB_EN then s
  else
    let s := (s.eccRead 0 (2 ^ 21)).1
    { s with pair := { s.pair with cov := putBits s.pair.cov 24 8 (bits s.pair.cov 24 8 + 1) } }

end Sys2Proof.Machine
end

