-- ==== Sys2Proof/Machine/LoomCheck.lean ====
section
/-! DEFINITION. The load checks of Loom (R73, R90, R137), the check of a `SLOT_RATE` write (R62), and the load of the cross-link that a
set makes (R295). A failed check is code, slot and location. -/

namespace Sys2Proof.Machine

/-- A failed check as `LOOM.CHK_STAT` shows it: CODE, SLOT, WHERE. -/
abbrev LoomFail := Nat × Nat × Nat

def Dev.enSlots (s : Dev) (set : Nat) : List Nat := (List.range 64).filter fun k => s.slotEn set k

/-- The first failure in a list, if any. -/
def firstFail {α : Type} (l : List α) (f : α → Option LoomFail) : Option LoomFail := l.findSome? f

/-- An operand lies inside its space (check 0x03). -/
def Place.fits (p : Place) (ext : Nat) : Bool := decide (ext = 0) || decide (p.addr + ext ≤ if p.coef then 8192 else ramWords)

/-- Check 0x03 for one instruction (R90). -/
def Dev.opFits (s : Dev) (set slot : Nat) (x : LoomOp) : Bool :=
  let d := s.place set slot x.dst
  let n := x.opc.dstExt x.shf
  d.fits n && (decide (n = 0) || !d.coef) && (s.place set slot x.srca).fits (x.opc.aExt x.shf) && (s.place set slot x.srcb).fits (x.opc.bExt x.shf)

/-- Check 0x04 for one instruction: its destination includes an ingress word. -/
def Dev.opIngress (s : Dev) (set slot : Nat) (x : LoomOp) : Bool :=
  let d := s.place set slot x.dst
  decide (x.opc.dstExt x.shf ≠ 0) && !d.coef && isIngress d.addr

/-- The first program address of a mode that fails check 0x02, 0x03 or 0x04. -/
def Dev.progBad (s : Dev) (set slot m code : Nat) : Option Nat :=
  let p := s.modeProg set slot m
  (s.progOps set p.1 p.2).findSome? fun (k, o) =>
    match code, o with
    | 2, none => some k
    | 3, some x => if s.opFits set slot x then none else some k
    | 4, some x => if s.opIngress set slot x then some k else none
    | _, _ => none

/-- A program lies in its store, and is not empty where it must not be (check 0x01). -/
def Dev.progRange (s : Dev) (set slot m : Nat) : Bool :=
  let p := s.modeProg set slot m
  decide (p.1 + p.2 ≤ 2 ^ 18)

/-- The enabled entries for SPINDLE_N, SPINDLE_POL and DUTY, in ascending order. -/
def Dev.armOuts (s : Dev) (set : Nat) : List Nat :=
  (s.outEntries set).filter fun o => decide (1 ≤ s.fs set F.LOOM_OUT_MAP_DST o) && decide (s.fs set F.LOOM_OUT_MAP_DST o ≤ 3)

/-- Slots from which dependencies lead to slot `k`, within `n` steps (check 0x06). -/
def Dev.depClosure (s : Dev) (set : Nat) : Nat → List Nat → List Nat
  | 0, l => l
  | n + 1, l =>
    let more := l.flatMap fun k => (List.range 8).filterMap fun j =>
      let i := s.fs set F.LOOM_SLOT_DEP_INDEX k j
      if s.fs set F.LOOM_SLOT_DEP_EN k j = 1 ∧ s.fs set F.LOOM_SLOT_DEP_KIND k j = 1 ∧ i < 64 ∧ s.slotEn set i then some i else none
    Dev.depClosure s set n (l ++ more).eraseDups

/-- The slot depends on itself. -/
def Dev.depLoop (s : Dev) (set k : Nat) : Bool :=
  let direct := (List.range 8).filterMap fun j =>
    let i := s.fs set F.LOOM_SLOT_DEP_INDEX k j
    if s.fs set F.LOOM_SLOT_DEP_EN k j = 1 ∧ s.fs set F.LOOM_SLOT_DEP_KIND k j = 1 ∧ i < 64 ∧ s.slotEn set i then some i else none
  (s.depClosure set 64 direct).contains k

/-- An `IN_MAP` selector that its source admits (R75). -/
def inSelOk (src sel : Nat) : Bool :=
  match src with
  | 1 => decide (sel < 16)
  | 2 => decide (sel < 16)
  | 3 => decide (sel < 0x2000) && decide (bits sel 4 4 = 0)
  | 4 => decide (sel < 0x1000) && decide (bits sel 8 4 < 12) && decide (bits sel 3 5 = 0)
  | 5 => decide (sel < 64) && decide (bits sel 0 4 ≤ 4)
  | 6 => decide (sel ≤ 2)
  | 7 => decide (sel < 256)
  | 8 => decide (sel ≤ 2)
  | 9 => decide (sel < 0x40) || (decide (0x100 ≤ sel) && decide (sel < 0x140))
  | _ => false

/-- An `OUT_MAP` selector that its destination admits (R77). -/
def outSelOk (dst sel : Nat) : Bool :=
  match dst with
  | 1 => decide (sel < 12)
  | 2 => decide (sel < 12)
  | 3 => decide (sel < 12)
  | 4 => decide (sel < 64)
  | 5 => decide (sel < 256)
  | 6 => decide (sel < 8)
  | 7 => decide (sel < 16)
  | 8 => decide (sel = 0)
  | _ => false

/-- Check 0x08 among mode-0 programs: a word written by two slots or by a slot that does not run in every cycle. -/
def Dev.outClash (s : Dev) (set o : Nat) : Bool :=
  let w := (s.enSlots set).filter fun k => (s.modeOuts set k 0).contains o
  decide (1 < w.length) || w.any fun k => decide (s.fi F.LOOM_SLOT_RATE_DIV k ≠ 1)

/-- Check 0x08 for another mode of a slot (check 0x0C). -/
def Dev.modeClash (s : Dev) (set slot m : Nat) : Bool :=
  let mine := (s.armOuts set).filter fun o => (s.modeOuts set slot m).contains o
  decide (mine ≠ []) && (decide (s.fi F.LOOM_SLOT_RATE_DIV slot ≠ 1) ||
    (s.enSlots set).any fun k => decide (k ≠ slot) && (s.modes set k).any fun j => (s.modeOuts set k j).any fun o => mine.contains o)

/-- Check 0x0B for a variable. -/
def Dev.bpOk (s : Dev) (set v : Nat) : Bool :=
  (List.range (s.fs set F.LOOM_SCHED_VAR_NBP v - 1)).all fun j =>
    decide (2 * (s.fs set F.LOOM_SCHED_HYS_HYS v : Int) < s.breakpoint set v (j + 2) - s.breakpoint set v (j + 1))

/-- The PI and PIR instructions of a mode whose DST names its hand-over record. -/
def Dev.hoInstrs (s : Dev) (set slot m : Nat) : List LoomOp :=
  let p := s.modeProg set slot m
  (s.progOps set p.1 p.2).filterMap fun (_, o) =>
    match o with
    | some x => if (x.opc = .piOp ∨ x.opc = .pirOp) ∧ s.place set slot x.dst = { coef := false, addr := s.fs set F.LOOM_HO_REC_ADDR slot m } then some x else none
    | none => none

def Dev.namesRec (s : Dev) (set slot m : Nat) : Bool := (s.hoRec set slot m).isSome

/-- Check 0x0D for a mode. -/
def Dev.hoInstrOk (s : Dev) (set slot m : Nat) : Bool :=
  match s.hoInstrs set slot m with
  | [x] => decide (x.pred = 0)
  | _ => false

/-- Check 0x0E for a slot: the mode at fault (log entry 147). -/
def Dev.hoMixed (s : Dev) (set slot : Nat) : Option Nat :=
  let l := s.modes set slot
  let bare := if l.any fun m => s.namesRec set slot m then l.find? fun m => !s.namesRec set slot m else none
  bare.or (if s.fs set F.LOOM_HO_SLEW_SLEW slot = 0 then (List.range 4).find? fun m => s.namesRec set slot m else none)

/-- One check of R73 or R137; SLOT is 0 for the checks that concern no slot (0x07 to 0x09; 0x0B, log entry 147). -/
def Dev.loomCheckOne (s : Dev) (set code : Nat) : Option LoomFail :=
  let en := s.enSlots set
  match code with
  | 1 => firstFail en fun k => if s.progRange set k 0 ∧ (s.modeProg set k 0).2 ≠ 0 then none else some (1, k, 0)
  | 2 => firstFail en fun k => (s.progBad set k 0 2).map fun a => (2, k, a)
  | 3 => firstFail en fun k => (s.progBad set k 0 3).map fun a => (3, k, a)
  | 4 => firstFail en fun k => (s.progBad set k 0 4).map fun a => (4, k, a)
  | 5 => firstFail en fun k => firstFail (List.range 8) fun j =>
      let i := s.fs set F.LOOM_SLOT_DEP_INDEX k j
      if s.fs set F.LOOM_SLOT_DEP_EN k j = 1 ∧ s.fs set F.LOOM_SLOT_DEP_KIND k j = 1 ∧ (64 ≤ i ∨ i = k) then some (5, k, j) else none
  | 6 => firstFail en fun k => if s.depLoop set k then some (6, k, 0) else none
  | 7 =>
    (firstFail (s.inEntries set) fun i => if inSelOk (s.fs set F.LOOM_IN_MAP_SRC i) (s.fs set F.LOOM_IN_MAP_SEL i) then none else some (7, 0, i)).orElse
      fun _ => firstFail (s.outEntries set) fun o => if outSelOk (s.fs set F.LOOM_OUT_MAP_DST o) (s.fs set F.LOOM_OUT_MAP_SEL o) then none else some (7, 0, o)
  | 8 => firstFail (s.armOuts set) fun o => if s.outClash set o then some (8, 0, o) else none
  | 9 => if 256 < sumNat en (fun k => s.fs set F.LOOM_SLOT_GRAFT_LEN k) then some (9, 0, 0) else none
  | 10 => firstFail en fun k => firstFail (List.range 4) fun j =>
      if s.fs set F.LOOM_BASE_SPACE k j = 1 ∧ 8192 ≤ s.fs set F.LOOM_BASE_ADDR k j then some (10, k, j) else none
  | 11 => firstFail [0, 1] fun v => if s.fs set F.LOOM_SCHED_VAR_EN v = 0 ∨ s.bpOk set v then none else some (11, 0, v)
  | 12 => firstFail en fun k => firstFail ((s.modes set k).filter fun m => decide (m ≠ 0)) fun m =>
      if ¬ s.progRange set k m ∨ (s.progBad set k m 2).isSome ∨ (s.progBad set k m 3).isSome ∨ (s.progBad set k m 4).isSome ∨ s.modeClash set k m then
        some (12, k, m) else none
  | 13 => firstFail en fun k => firstFail ((s.modes set k).filter fun m => s.namesRec set k m) fun m =>
      if s.hoInstrOk set k m then none else some (13, k, m)
  | 14 => firstFail en fun k => (s.hoMixed set k).map fun m => (14, k, m)
  | _ => none

/-- The checks of Loom over a set, in ascending order of code (R73, R137). -/
def Dev.loomCheck (s : Dev) (set : Nat) : Option LoomFail := firstFail ((List.range 14).map (· + 1)) (s.loomCheckOne set)

/-- `CHK_STAT` after the checks. -/
def Dev.loomChkStat (s : Dev) (r : Option LoomFail) : Dev :=
  let x := r.getD (0, 0, 0)
  ((s.put F.LOOM_CHK_STAT_CODE x.1).put F.LOOM_CHK_STAT_SLOT x.2.1).put F.LOOM_CHK_STAT_WHERE x.2.2

/-- SLOT_RATE_WRITE: a write of `SLOT_RATE` is checked (R62). -/
def Dev.slotRateWrite (s : Dev) (slot div phase : Nat) : Acted :=
  let set := s.actSet
  let arms := s.armOuts set
  let writes := (s.modes set slot).any fun m => (s.modeOuts set slot m).any fun o => arms.contains o
  if 63 < slot ∨ div = 0 ∨ 64 < div ∨ div ≤ phase ∨ (div ≠ 1 ∧ writes) then s.deny .invalid
  else (.ok, (s.put F.LOOM_SLOT_RATE_DIV div slot).put F.LOOM_SLOT_RATE_PHASE phase slot)

/-- LOOM_CTL_WRITE (R72, R81, R86). -/
def Dev.loomCtlWrite (s : Dev) (enable view scrub : Bool) : Dev :=
  ((s.put F.LOOM_CTL_ENABLE (b2n enable)).put F.LOOM_CTL_VIEW (b2n view)).put F.LOOM_CTL_SCRUB_EN (b2n scrub)

/-! ## The load of the cross-link (R295) -/

/-- The compared egress words that the present programs of a slot write. -/
def Dev.cmpWords (s : Dev) (set slot : Nat) : Nat :=
  ((s.slotOuts set slot).filter fun o => decide (s.fs set F.LOOM_OUT_MAP_CMP o = 1)).length

/-- L0 in code groups. -/
def Dev.pairLoad (s : Dev) (set : Nat) : Nat :=
  26 + 69 + 45 + sumNat (s.enSlots set) (fun k =>
    let ng := s.fs set F.LOOM_SLOT_GRAFT_LEN k
    let nc := s.cmpWords set k
    if ng + nc = 0 then 0 else 17 + 4 * ng + 6 * nc) + 24

end Sys2Proof.Machine
end

