-- ==== Sys2Proof/Machine/Pair.lean ====
section
/-! DEFINITION. The pair of MANAGERs (12_plane_redundancy, R28, R290 to R310): the cross-link, pair exchange blocks, health, votes and the
states of a unit. -/

namespace Sys2Proof.Machine

/-! ## The cross-link (R290, R291) -/

/-- The partner's plane: 1 A, 2 B. -/
def Dev.otherPlane (s : Dev) : Nat := 3 - s.f F.GLOBAL_ROLE_PLANE
def Dev.planeB (s : Dev) : Bool := decide (s.f F.GLOBAL_ROLE_PLANE = 2)

/-- The cross-link is up (R290). -/
def Dev.xlinkNow (s : Dev) : Bool :=
  decide (s.role = .manager) && decide (s.pairLanes ≠ []) &&
  match s.pair.psof with | some x => decide (s.now ≤ x.tm + 2 * s.perNs) | none => false

/-- The cell-map digest of a set (R28): IDFP, then VALID, FB, ARM and POS as bits [31:16] of the entry's low word, for every g. -/
def Dev.mapDigest (s : Dev) (set : Nat) : List Byte :=
  sha256 ((List.range 6144).flatMap fun g =>
    bytesOf 4 (s.fs set F.TRUNK_CELL_MAP_IDFP g) ++ bytesOf 2 (s.fs set F.TRUNK_CELL_MAP_VALID g * 2 ^ 15 + s.fs set F.TRUNK_CELL_MAP_FB g * 2 ^ 14 +
      s.fs set F.TRUNK_CELL_MAP_ARM g * 2 ^ 10 + s.fs set F.TRUNK_CELL_MAP_POS g))

/-- Digests that differ are told (R28, R313). -/
def Dev.mapJudge (s : Dev) : Dev :=
  match s.pair.mapOwn, s.pair.mapPar with
  | some a, some b => s.iff (decide (a ≠ b)) fun s => s.raise F.PAIR_EVT_MAP_MISMATCH
  | _, _ => s

/-- The own digest is formed, compared with the partner's where that is known, and sent to the partner (R28, R293). -/
def Dev.mapSend (s : Dev) : Dev :=
  let d := s.mapDigest s.actSet
  let s := Dev.mapJudge { s with pair := { s.pair with mapOwn := some d } }
  match s.pxLane with
  | some L => s.pxSend L 4 (s.f F.GLOBAL_CYCLE_CNT_CYCLE % 2 ^ 32) d
  | none => s

/-- After a command: `XLINK_UP` follows the cross-link; a fall sets CROSSLINK_LOST, a rise sends the map digest (R290, R293). -/
def Dev.xlinkSync (s : Dev) : Dev :=
  if s.role ≠ .manager then s
  else
    let up := s.xlinkNow
    let was := s.flag F.PAIR_STAT_XLINK_UP
    if was ∧ ¬ up then ((s.put F.PAIR_STAT_XLINK_UP 0).raise F.PAIR_EVT_CROSSLINK_LOST).inc F.PAIR_CNT_XLINK_LOSS 1
    else if up ∧ ¬ was then (s.raise F.PAIR_STAT_XLINK_UP).mapSend
    else s

/-- CROSSLINK_LOST: the last partner /SOF/ grows 2 P old (R290). -/
def Dev.crosslinkLost (s : Dev) : Dev :=
  match s.pair.psof with
  | some x => (s.advanceTo (x.tm + 2 * s.perNs + 1)).xlinkSync
  | none => s.xlinkSync

/-- A partner /SOF/ on a PAIR lane (R290, R291, R305, R307, R310). -/
def Dev.pairSof (s : Dev) (L : Nat) (d : List Byte) : Dev :=
  let x := SofSeen.ofBytes d s.now
  let skew : Int := beaconOf d + (s.ln F.LANE_LANE_DELAY_DELAY L : Int) * 2 ^ 32 - s.nowFix
  let bad := decide ((s.fi F.PAIR_LIM_SKEW_LIM : Int) * nsFix < (skew.natAbs : Int))
  let s := (s.put F.PAIR_SKEW_SKEW (wrap 32 (satS 32 (roundDiv true skew (2 ^ 40))))).iff bad fun s => s.raise F.PAIR_EVT_TIME_SKEW
  let own := s.f F.PAIR_STAT_GEN
  let dep := s.unitActive && x.active && (genHigher 16 x.gen own || (decide (x.gen = own) && s.planeB))
  let s := { s with pair := { s.pair with psof := some x, pgen := x.gen, skewBad := bad, relSeen := s.pair.relSeen || x.relinq,
                                          depSeen := s.pair.depSeen || dep } }
  s.iff (x.trip && s.flag F.LANE_RB_CTL_PAIR_EN) fun s => s.raise F.PAIR_STAT_PAIR_TRIP

/-! ## Health (R300 to R302) -/

/-- A vote that has counted nothing. -/
def Vote.none (k : Nat) : Vote := { cyc := k, r := 0, l := 0, s := 0, gens := [], f := 0, h := 0, e := 0 }

/-- The trunk lanes that the cell map of the active set names. -/
def Dev.namedTrunks (s : Dev) : List Nat := (((s.cells s.actSet).map fun g => s.cConc s.actSet g).eraseDups).filter fun c => decide (c < 48)

/-- Bits 7 to 9 of word 1, which follow their condition (R301). -/
def Dev.critFollow (s : Dev) : Nat :=
  let map := match s.pair.mapOwn, s.pair.mapPar with | some a, some b => decide (a ≠ b) | _, _ => false
  b2n map * 2 ^ 7 + b2n s.pair.cfgBad * 2 ^ 8 + b2n (decide (s.f F.GLOBAL_ROLE_FAULT = 4)) * 2 ^ 9

/-- The conditions of the sticky critical bits that last (R301). -/
def Dev.critConds (s : Dev) : Nat :=
  let l := s.namedTrunks
  b2n (!s.flag F.TIME_STAT_TQ) * 2 + b2n (decide (l ≠ []) && l.all fun L => !s.inRun L) * 2 ^ 2 +
  b2n s.pair.clkBad * 2 ^ 3 + b2n s.pair.cfgChk * 2 ^ 5 + b2n (s.flag F.LOOM_CMP_STAT_DIVERGE) * 2 ^ 6 + b2n s.pair.halted * 2 ^ 10

/-- The conditions that keep a bit set through CLEAR (R301): those, and a word of Loom that cannot be corrected. -/
def Dev.critHeld (s : Dev) : Nat := s.critConds + b2n (s.loom.ecc.any fun e => decide (e.2 = 2))

/-- CRIT_BITS. -/
def Dev.critBits (s : Dev) : Nat := s.pair.crit + s.critFollow

/-- CRIT: in an ACTIVE unit MAP_MISMATCH and CFG_MISMATCH do not count (R301). -/
def Dev.crit (s : Dev) : Bool := if s.unitActive then decide (putBits s.critBits 7 2 0 ≠ 0) else decide (s.critBits ≠ 0)

/-- A critical bit is set. -/
def Dev.raiseCrit (s : Dev) (k : Nat) : Dev := { s with pair := { s.pair with crit := putBit s.pair.crit k true } }

/-- NONCRIT_BITS at a boundary (R301). -/
def Dev.noncritBits (s : Dev) : Nat :=
  let l := s.namedTrunks
  b2n (bitOf s.pair.cycEvt 0) + b2n (l.any fun L => !s.inRun L) * 2 + b2n (decide (s.pairLanes.length = 1) && s.flag F.PAIR_STAT_XLINK_UP) * 2 ^ 2 +
  b2n (!s.flag F.PAIR_STAT_XLINK_UP) * 2 ^ 3 + b2n (!s.flag F.PAIR_STAT_HB_OK) * 2 ^ 4 + b2n s.pair.skewBad * 2 ^ 5 +
  b2n (bitOf s.pair.cycEvt 6) * 2 ^ 6 + b2n (decide (s.pair.stall ≠ 0)) * 2 ^ 7 + b2n (bitOf s.pair.cycEvt 8) * 2 ^ 8

/-- After a command: ELIGIBLE is STANDBY without a critical fault (R300, R313). -/
def Dev.pairSync (s : Dev) : Dev :=
  if s.role ≠ .manager then s else s.put F.PAIR_STAT_ELIGIBLE (b2n (decide (s.f F.PAIR_STAT_STATE = 1) && !s.crit))

/-- AVAIL_SUM. -/
def Dev.availSum (s : Dev) : Nat := min 0xFFFF (sumNat (List.range 12) fun a => s.f F.SPINDLE_ARM_CNT_AVAIL a)

/-- The health word formed at a boundary for the cycle before it, n − 1 (R300). -/
def Dev.healthForm (s : Dev) (n : Nat) : Dev :=
  let crit := s.crit
  let nc := s.noncritBits
  let st := s.f F.PAIR_STAT_STATE
  let v := s.pair.vote.getD (Vote.none 0)
  let w0 := st * 2 ^ 28 + b2n crit * 2 ^ 27 + b2n (decide (nc ≠ 0)) * 2 ^ 26 + b2n (decide (st = 1) && !crit) * 2 ^ 25 +
    s.f F.PAIR_STAT_XLINK_UP * 2 ^ 24 + s.f F.GLOBAL_ROLE_PLANE * 2 ^ 22 + s.f F.PAIR_STAT_GEN
  let w6 := if st = 1 then s.f F.PAIR_HEALTH_WORD 6 else 0
  let l := [w0, s.critBits, nc, s.availSum * 2 ^ 16 + min 0xFFFF v.r, min 0xFFFF v.s * 2 ^ 16 + min 0xFFFF v.l, s.pair.cov, w6, (n - 1) % 2 ^ 32]
  let s := s.each (List.range 8) fun s k => s.put F.PAIR_HEALTH_WORD (l.getD k 0) k
  { s with pair := { s.pair with cycEvt := 0 } }

/-- The STATE block of cycle n follows every /SOF/ on the cross-link (R293). -/
def Dev.stateSend (s : Dev) (n : Nat) : Dev :=
  match s.pxLane with
  | none => s
  | some L =>
    let words := (List.range 8).flatMap fun k => beBytes 4 (s.f F.PAIR_HEALTH_WORD k)
    let modes := (List.range 16).flatMap fun b => bytesOf 1 ((List.range 4).foldl (fun a j => a + s.f F.LOOM_MODE_STAT_MODE (4 * b + j) * 4 ^ j) 0)
    s.pxSend L 1 (n % 2 ^ 32) (words ++ bytesOf 1 (s.f F.LOOM_SCHED_STAT_K0) ++ bytesOf 1 (s.f F.LOOM_SCHED_STAT_K1) ++
      beBytes 2 (s.f F.LOOM_SCHED_CNT_DWELL_LEFT) ++ modes ++ beBytes 4 (s.f F.PAIR_CFGID_OWN))

/-! ## Pair exchange blocks received (R292, R293) -/

/-- A /PX/ block on a PAIR lane: it acts by `g` on its CYCLE and payload, or it is discarded and counted (R292). `clean`: no code group of
it was a code violation (R202). -/
def Dev.pxTake (s : Dev) (L type : Nat) (d : List Byte) (clean : Bool) (g : Dev → Nat → List Byte → Dev) : Dev :=
  if ¬ s.isPair L ∨ ¬ s.inRun L then s
  else match pxParts type d, clean with
  | some (cyc, p), true => g s cyc p
  | _, _ => s.incBlkLn F.LANE_SF_ERR_MS_CRC L 1

/-- The own CFGID for a cycle. -/
def Dev.cfgidAt (s : Dev) (n : Nat) : Nat := if n < s.pair.cfgAt then s.pair.cfgOld else s.f F.PAIR_CFGID_OWN

/-- The standby unit compares the active unit's indices, dwell and modes with its own for the cycle (R138). -/
def Dev.adoptCheck (s : Dev) (n : Nat) (a : AdoptRec) : Dev :=
  match Tab.find s.loom.sched n with
  | none => s
  | some own =>
    let idx := decide (own.k0 ≠ a.k0) || decide (own.k1 ≠ a.k1) || decide (own.dwell ≠ a.dwell)
    let diff := own.modes.filter fun e => a.modes.any fun f => decide (f.1 = e.1) && decide (f.2 ≠ e.2)
    if ¬ idx ∧ diff = [] then s
    else
      let s := s.iff idx fun s => s.raise F.LOOM_SCHED_STAT_ADOPT
      let s := s.each diff fun s e => s.raise F.LOOM_MODE_STAT_ADOPT e.1
      let s := s.cmpVoided n
      { s with loom := { s.loom with adopt := some a } }

/-- A STATE block of the partner (R138, R293, R302, R305): 56 bytes of payload. A standby unit compares its `CFGID` with the active one's. -/
def Dev.pxState (s : Dev) (cyc : Nat) (p : List Byte) : Dev :=
  let n := s.cycNear cyc
  let words := (List.range 8).map fun k => fieldBE p (4 * k) 4
  let was := s.f F.PAIR_PHEALTH_WORD 5
  let cov := words.getD 5 0
  let fresh := (List.range 4).filter fun k => decide (bits was (8 * k) 8 ≠ bits cov (8 * k) 8)
  let s := s.each (List.range 8) fun s k => s.put F.PAIR_PHEALTH_WORD (words.getD k 0) k
  let st := bits (words.getD 0 0) 28 4
  let cfg := fieldBE p 52 4
  let bad := s.standby && decide (st = 2) && decide (cfg ≠ s.cfgidAt n)
  let s := (s.put F.PAIR_STAT_PSTATE st).put F.PAIR_CFGID_PARTNER cfg
  let s := { s with pair := { s.pair with stall := fresh.foldl (fun a k => putBit a k false) s.pair.stall, pcov := cov, cfgBad := bad,
                                          relSeen := s.pair.relSeen || decide (st = 3) } }
  let s := s.iff bad fun s => (s.raise F.PAIR_EVT_CFG_MISMATCH).cmpVoided n
  let modes := (List.range 64).map fun k => (k, bits (field p (36 + k / 4) 1) (2 * (k % 4)) 2)
  s.iff (s.standby && decide (st = 2)) fun s =>
    s.adoptCheck n { k0 := field p 32 1, k1 := field p 33 1, dwell := fieldBE p 34 2, modes := modes }

/-- A GRAFT block of the active unit (R83, R84, R293) is buffered, its run is told, its compared words are compared; an active unit discards it. -/
def Dev.pxGraft (s : Dev) (cyc : Nat) (p : List Byte) : Dev :=
  if s.unitActive then s
  else
    let n := s.cycNear cyc
    let slot := field p 0 1
    let ng := fieldBE p 2 2
    let words := (List.range ng).map fun j => fieldBE p (4 + 4 * j) 4
    let vals := (List.range (field p 1 1)).map fun j =>
      ({ cyc := n, o := fieldBE p (4 + 4 * ng + 6 * j) 2, v := fieldBE p (6 + 4 * ng + 6 * j) 4 } : CmpVal)
    let key := n * 64 + slot
    let s := { s with loom := { s.loom with graft := Tab.put s.loom.graft key words } }
    let s := { s with loom := { s.loom with due := s.loom.due.map fun (r : Run) => if s.graftKey r = key then { r with graft := true } else r } }
    s.cmpAdd false vals

/-- A MAPDIG block of the partner (R28). -/
def Dev.pxMapdig (s : Dev) (p : List Byte) : Dev := Dev.mapJudge { s with pair := { s.pair with mapPar := some p } }

/-! ## Votes (R304, R305, R307, R308) -/

/-- A count has quorum in a vote. -/
def Dev.quorum (s : Dev) (v : Vote) (c : Nat) : Bool := decide (s.fi F.PAIR_VOTE_RMIN ≤ v.r) && decide (s.fi F.PAIR_VOTE_QUORUM * v.r ≤ 16 * c)

/-- The 16-bit generation within −128 … +127 of the tracked one whose low byte is `gen` (R305). -/
def Dev.genNear (s : Dev) (gen : Nat) : Nat := wrap 16 ((s.pair.pgen : Int) + sgn 8 (wrap 8 ((gen : Int) - (s.pair.pgen : Int))))

/-- While the cross-link is down, the records of cells that follow the partner give its generation (R305, log entry 58). -/
def Dev.voteTrack (s : Dev) (fplane gen : Nat) : Dev :=
  if fplane = s.otherPlane ∧ ¬ s.flag F.PAIR_STAT_XLINK_UP then { s with pair := { s.pair with pgen := s.genNear gen } } else s

/-- A used record of a valid cell is counted in the vote of its sample cycle (R304): FPLANE, TAGE, GEN. What its GEN means is judged when
the vote is complete (R307). -/
def Dev.voteCount (s : Dev) (k fplane tage gen : Nat) : Dev :=
  let lim := s.fi F.PAIR_VOTE_TAGE_LIM
  let there := decide (fplane = s.otherPlane)
  let one := fun (v : Vote) => { v with
    r := v.r + 1
    l := v.l + b2n (there && decide (tage < lim))
    s := v.s + b2n (decide (lim ≤ tage) || decide (fplane = 0))
    gens := if there then Tab.put v.gens gen (Tab.get 0 v.gens gen + 1) else v.gens }
  let acc := if s.pair.acc.any fun v => decide (v.cyc = k) then s.pair.acc.map fun v => if v.cyc = k then one v else v
    else s.pair.acc ++ [one (Vote.none k)]
  { s with pair := { s.pair with acc := acc } }

/-- A used record of a valid cell (R304, R305). -/
def Dev.voteAdd (s : Dev) (k fplane tage gen : Nat) : Dev := (s.voteTrack fplane gen).voteCount k fplane tage gen

/-- A vote is complete: the records of the partner's plane with its generation, with one higher than the own one, and with the own one. -/
def Vote.complete (v : Vote) (par own : Nat) : Vote :=
  let count := fun (p : Nat → Bool) => (v.gens.filter fun e => p e.1).foldl (fun n e => n + e.2) 0
  { v with f := count fun g => decide (g = par), h := count fun g => genHigher 8 g own, e := count fun g => decide (g = own) }

/-- VOTE_COMPLETE: the last trunk block of the oldest sample cycle has been received (R304); a vote without a record counts nothing. -/
def Dev.voteComplete (s : Dev) : Dev :=
  if s.role ≠ .manager then s
  else
    let v := (s.pair.acc.headD (Vote.none 0)).complete (s.pair.pgen % 256) (s.f F.PAIR_STAT_GEN % 256)
    let s := (((s.put F.PAIR_VOTE_STAT_R (min 0xFFFF v.r)).put F.PAIR_VOTE_STAT_S (min 0xFFFF v.s)).put F.PAIR_VOTE_STAT_L (min 0xFFFF v.l)).put
      F.PAIR_VOTE_STAT_F (min 0xFFFF v.f)
    let dep := s.unitActive && s.quorum v (if s.planeB then v.h + v.e else v.h)
    { s with pair := { s.pair with
      acc := s.pair.acc.tail
      vote := some v
      conf := if s.quorum v v.s then s.pair.conf + 1 else 0
      depSeen := s.pair.depSeen || dep
      watch := if s.quorum v v.h then none else s.pair.watch } }

/-! ## States of the unit (R303 to R308) -/

/-- ORPHAN: no vote has shown a takeover in time (R308). -/
def Dev.orphan (s : Dev) : Dev :=
  match s.pair.watch with
  | none => s
  | some w =>
    let s := s.advanceTo (s.bnd w)
    (({ s with pair := { s.pair with watch := none } }).raise F.PAIR_EVT_ORPHAN).setOrphan true

/-- FIT_HOLD_EXPIRY: the fitness condition has held for FIT_HOLD cycles (R306). -/
def Dev.fitExpiry (s : Dev) : Dev :=
  if s.unitActive ∧ 0 < s.pair.fit ∧ s.fi F.PAIR_FIT_FIT_HOLD ≤ s.pair.fit then { s with pair := { s.pair with fitDue := true } } else s

/-- The fitness condition at a boundary (R306). -/
def Dev.fitNow (s : Dev) : Bool :=
  decide (s.fi F.PAIR_CTL_FIT_EN = 1) && s.flag F.PAIR_STAT_XLINK_UP && bitOf (s.f F.PAIR_PHEALTH_WORD 0) 25 &&
  decide (s.availSum + s.fi F.PAIR_FIT_FIT_MARGIN ≤ s.f F.PAIR_PHEALTH_WORD 3 / 2 ^ 16)

/-- A relinquish at the boundary of cycle n (R303, R306, R308). -/
def Dev.relinquishTo (s : Dev) (n st : Nat) : Dev :=
  let s := ((s.put F.PAIR_STAT_STATE st).raise F.PAIR_EVT_RELINQUISHED).inc F.PAIR_CNT_RELINQS 1
  { s with pair := { s.pair with relinq := true, watch := some (n + s.fi F.PAIR_CTL_CLAIM_TMO) } }

/-- A path of R305 is open. -/
def Dev.claimOpen (s : Dev) : Bool :=
  let f := match s.pair.vote with | some v => s.quorum v v.f | none => false
  (s.pair.relSeen && f) || (decide (s.fi F.PAIR_CTL_SILENT_CLAIM = 1) && decide (s.fi F.PAIR_VOTE_CONFIRM ≤ s.pair.conf)) || s.pair.claim

/-- A claim (R305). -/
def Dev.claimNow (s : Dev) : Dev :=
  let own := s.f F.PAIR_STAT_GEN
  let g := if genHigher 16 own s.pair.pgen then own + 1 else s.pair.pgen + 1
  ((((s.put F.PAIR_STAT_STATE 2).put F.PAIR_STAT_GEN (g % 2 ^ 16)).raise F.PAIR_EVT_CLAIMED).inc F.PAIR_CNT_CLAIMS 1)

/-- The state change of a boundary (R303): `run` tells that a cycle starts there. -/
def Dev.pairState (s : Dev) (n : Nat) (run : Bool) : Dev :=
  let st := s.f F.PAIR_STAT_STATE
  let s := { s with pair := { s.pair with relinq := false } }
  if ¬ run ∨ s.fi F.PAIR_CTL_EN = 0 then
    ({ s with pair := { s.pair with relinq := decide (st = 2), watch := none, conf := 0 } } : Dev).put F.PAIR_STAT_STATE 0
  else match st with
    | 0 => s.put F.PAIR_STAT_STATE 1
    | 1 => if ¬ s.crit ∧ s.claimOpen then s.claimNow else s
    | 2 =>
      if s.crit then s.relinquishTo n 3
      else if s.pair.depSeen then (s.put F.PAIR_STAT_STATE 1).raise F.PAIR_EVT_DEPOSED
      else if s.pair.relq || s.pair.fitDue then s.relinquishTo n 1
      else s
    | _ => if s.pair.resume ∧ ¬ s.crit then s.put F.PAIR_STAT_STATE 1 else { s with pair := { s.pair with relinq := true } }

/-- The PAIR trip source is released at a boundary (R310). -/
def Dev.pairTripEnd (s : Dev) : Dev :=
  match s.pair.psof with
  | some x => if s.pairTrip ∧ s.flag F.PAIR_STAT_XLINK_UP ∧ ¬ x.trip ∧ ¬ x.rb then s.put F.PAIR_STAT_PAIR_TRIP 0 else s
  | none => s

/-- A diagnostic has ended a pass: counter k of word 5. -/
def Dev.covStep (s : Dev) (k : Nat) : Dev :=
  { s with pair := { s.pair with cov := putBits s.pair.cov (8 * k) 8 (bits s.pair.cov (8 * k) 8 + 1) } }

/-- The management watchdog is served every 10 ms (R302), at the first boundary of each such interval of station time, unless a debug halt
freezes it (R444; log entry 156). -/
def Dev.wdogServed (s : Dev) (n : Nat) : Dev :=
  s.iff (decide (s.bnd n / 10 ^ 7 ≠ (s.bnd n - s.perNs) / 10 ^ 7) && !s.flag F.DEBUG_STAT_HALTED) fun s => s.covStep 0

/-- The boundary of cycle n in block PAIR (R296, R300 to R308, R310, R313). -/
def Dev.pairBoundary (s : Dev) (n : Nat) (run : Bool) : Dev :=
  let s := s.each [F.regPairCtl, F.regPairVote, F.regPairFit, F.regPairLim] fun s R => s.xferReg R
  let s := { s with pair := { s.pair with crit := Nat.lor s.pair.crit s.critConds, fit := if s.unitActive && s.fitNow then s.pair.fit + 1 else 0 } }
  let s := match s.pair.watch with | some w => if w < n then s.orphan else s | none => s
  let s := s.pairState n run
  let s := { s with pair := { s.pair with relSeen := false, depSeen := false, claim := false, relq := false, fitDue := false, resume := false } }
  let s := s.pairTripEnd
  let st := s.f F.PAIR_STAT_STATE
  let s := s.iff (decide (1 ≤ st) && decide (st ≤ 2) && !s.crit) fun s => { s with pair := { s.pair with hb := !s.pair.hb } }
  (s.wdogServed n).healthForm n

/-! ## Heartbeat, coverage and diagnostics (R296, R302) -/

/-- PAIR_HB_I_EDGE. -/
def Dev.hbEdge (s : Dev) : Dev := if s.role = .manager then s.raise F.PAIR_STAT_HB_OK else s

/-- HB_LOST: no edge for `HB_TMO` cycles. -/
def Dev.hbLost (s : Dev) : Dev := if s.role = .manager then (s.put F.PAIR_STAT_HB_OK 0).raise F.PAIR_EVT_HB_LOST else s

/-- COVERAGE_STALL: the partner's counter k has not changed for 4 × its interval. -/
def Dev.coverageStall (s : Dev) (k : Nat) : Dev :=
  if s.role ≠ .manager ∨ 4 ≤ k then s
  else ({ s with pair := { s.pair with stall := putBit s.pair.stall k true } }).raise F.PAIR_EVT_COVERAGE_STALL

/-- CONFIGURATION_CHECK: `CFGID` recomputed over the active set and compared (R302). -/
def Dev.configCheck (s : Dev) : Dev :=
  if s.role ≠ .manager then s
  else
    let bad := s.glob.swapOk && decide (s.cfgid s.actSet ≠ s.f F.PAIR_CFGID_OWN)
    let s := { s with pair := { s.pair with cfgChk := bad } }
    (s.iff bad fun s => s.raiseCrit 5).covStep 2

/-! ## Host commands (R303, R305, R306, R310, R313) -/

/-- A write of `PAIR.CMD`. -/
def Dev.pairCommand (s : Dev) (op : Nat) : Acted :=
  let st := s.f F.PAIR_STAT_STATE
  match op with
  | 1 =>
    let free : Bool := match s.pair.psof with | some x => !x.active | none => true
    let vote : Bool := match s.pair.vote with | some v => decide (v.l = 0) | none => false
    if st = 1 ∧ ¬ s.crit ∧ s.run ∧ vote ∧ (free ∨ ¬ s.flag F.PAIR_STAT_XLINK_UP) then (.ok, { s with pair := { s.pair with claim := true } })
    else s.deny .denied
  | 2 => if st = 2 then (.ok, { s with pair := { s.pair with relq := true } }) else s.deny .invalid
  | 3 =>
    if s.crit then s.deny .denied
    else if st ≠ 3 then (.invalid, s.setOrphan false)
    else (.ok, ({ s with pair := { s.pair with resume := true } }).setOrphan false)
  | 4 => (.ok, s.put F.PAIR_STAT_PAIR_TRIP 0)
  | 5 => (.ok, s.raiseCrit 10)
  | 6 => (.ok, { s with pair := { s.pair with crit := Nat.land s.pair.crit s.critHeld } })
  | _ => s.deny .invalid

/-- A swap has made a set active from cycle n on: its `CFGID`, and its map digest to the partner (R28, R293). -/
def Dev.pairSwapped (s : Dev) (n : Nat) : Dev :=
  let old := s.f F.PAIR_CFGID_OWN
  let s := (s.put F.PAIR_CFGID_OWN (s.cfgid s.actSet))
  ({ s with pair := { s.pair with cfgOld := old, cfgAt := n } }).mapSend

/-- A per-block reset of PAIR: the unit is IDLE; its generation is kept. -/
def Dev.pairReset (s : Dev) : Dev :=
  let g := s.f F.PAIR_STAT_GEN
  let id := s.f F.PAIR_CFGID_OWN
  let p := s.pair
  let s := { s with pair := { p with
    regs := Tab.keep (fun k => decide (0xFFF0 ≤ k / 64 % 0x20000)) p.regs
    psof := none, relSeen := false, depSeen := false, claim := false, relq := false, fitDue := false, relinq := false, acc := [], vote := none,
    conf := 0, fit := 0, watch := none, resume := false, crit := 0, stall := 0, skewBad := false, cov := 0, pcov := 0, mapPar := none, cfgBad := false,
    cycEvt := 0, mlist := [], tk1 := 0 } }
  ((s.put F.PAIR_STAT_GEN g).put F.PAIR_CFGID_OWN id).setOrphan false

end Sys2Proof.Machine
end

