-- ==== Sys2Proof/Machine/Swap.lean ====
section
/-! DEFINITION. The configuration swap (02_control_cycle, R50 to R54, R74): the request, the checks of the shadow set, the
exchange of the sets, and the completion. -/

namespace Sys2Proof.Machine

/-! ## The checks of the shadow set (step 2 of R52) -/

/-- No two elements of a list give the same value. -/
def allDistinct : List Nat → Bool
  | [] => true
  | x :: l => !l.contains x && allDistinct l

/-- The lane modes and the cell map of a set (R26, R199). -/
def Dev.mapCheck (s : Dev) (set : Nat) : Bool :=
  let l := s.cells set
  let place := fun g =>
    decide (s.cArm set g < 12) && (decide (s.cConc set g < 48) || decide (s.cConc set g = 63)) &&
    !(decide (s.cConc set g < 48) && decide (s.fs set F.TRUNK_LANE_MAP_MODE (s.cConc set g) = mPair))
  (List.range 48).all (fun L => decide (s.fs set F.TRUNK_LANE_MAP_MODE L ≤ 3)) && l.all place &&
  allDistinct (l.map fun g => s.cArm set g * 1024 + s.cPos set g) && allDistinct (l.map fun g => s.cConc set g * 128 + s.cPort set g) &&
  (List.range 12).all fun a => (s.armCells set a).all fun g => decide (s.cPos set g < (s.armCells set a).length)

/-- The checks of Spindle over a set, in ascending order of code (R167): code and arm of the first failure. -/
def Dev.spCheck (s : Dev) (set : Nat) : Option (Nat × Nat) :=
  let arms := (List.range 12).filter fun a => decide (s.armCells set a ≠ [])
  let lag := fun a => s.fs set F.SPINDLE_ARM_CFG_LAG a
  match arms.find? fun a => decide (lag a = 0) with
  | some a => some (1, a)
  | none =>
  match arms.find? fun a => decide (s.fs set F.SPINDLE_ARM_K_KARM a = 0) with
  | some a => some (2, a)
  | none =>
  if s.fs set F.SPINDLE_EXCL_ERR_EXCL_ERR ≤ s.fs set F.SPINDLE_EXCL_ERR_READMIT_ERR ∨ s.fs set F.SPINDLE_EXCL_CNT_EXCL_CNT = 0 ∨
      s.fs set F.SPINDLE_EXCL_CNT_READMIT_CNT = 0 then some (3, 0)
  else if s.fs set F.SPINDLE_CAP_CFG_CAP_WIN < 4 ∨ 12 < s.fs set F.SPINDLE_CAP_CFG_CAP_WIN then some (4, 0)
  else
  match arms.find? fun a => decide (s.fs set F.SPINDLE_ARM_RATE_RATE_WIN a < 4) with
  | some a => some (4, a)
  | none =>
  if 0x10000 < s.fs set F.SPINDLE_EST_CFG_KCORR then some (5, 0)
  else (arms.find? fun a => decide (s.fs set F.SPINDLE_EST_CFG_STALE_LIM ≤ lag a)).map fun a => (6, a)

/-- The Milestone span of a trunk lane in code groups (R211). -/
def Dev.msGroups (s : Dev) (set L : Nat) : Nat :=
  sumNat (List.range 12) fun a => match s.armSpan set a L with | some (_, n) => 32 + 2 * n | none => 0

/-- The trunk lanes of a set that carry superframes of a CONCENTRATOR: named by the cell map, a companion of one, or enabled. -/
def Dev.setTrunks (s : Dev) (set : Nat) : List Nat :=
  let named := ((s.cells set).map fun g => s.cConc set g).eraseDups
  (List.range 48).filter fun L =>
    decide (s.fs set F.TRUNK_LANE_MAP_MODE L ≠ mPair) && (named.contains (s.primaryOf set L) || s.lnFlag F.LANE_LANE_CFG_EN L)

/-- The direct leaf lanes that the cell map of a set names. -/
def Dev.setLeaves (s : Dev) (set : Nat) : List Nat :=
  ((s.cells set).filter fun g => decide (s.cConc set g = 63)).map fun g => s.cPort set g

/-- The records that a trunk lane carries (R212, R219). -/
def Dev.laneRecords (s : Dev) (set L : Nat) : Nat :=
  let n := s.fs set F.TRUNK_SF_CFG_NPORT L
  if s.fs set F.TRUNK_LANE_MAP_MODE L = mBonded then n - 64
  else if (s.companion set L mBonded).isSome then min 64 n else n

/-- The load checks of a set (R221): code and lane of the first failure. -/
def Dev.sfCheck (s : Dev) (set : Nat) : Option (Nat × Nat) :=
  let per := s.perNs * 10
  let one := fun L =>
    let sym := symTenths L (s.ln F.LANE_LANE_CFG_RATE L)
    if per < (108 + 12 * s.laneRecords set L) * sym then some (1, L)
    else if per < (122 + s.msGroups set L) * sym then some (2, L)
    else if s.perNs ≤ s.fs set F.TRUNK_SF_CFG_UPOFF L * 8 then some (3, L)
    else if 128 < s.fs set F.TRUNK_SF_CFG_NPORT L then some (4, L)
    else none
  match (s.setTrunks set).findSome? one with
  | some x => some x
  | none => ((s.setLeaves set).find? fun p => decide (per < 106 * symTenths 64 (s.ln F.LANE_LANE_CFG_RATE (64 + p)))).map fun p => (5, p % 64)

/-- The check of the cross-link over a set (R290, R295): its code. -/
def Dev.pairCheck (s : Dev) (set : Nat) : Nat :=
  let pair := fun L => decide (s.fs set F.TRUNK_LANE_MAP_MODE L = mPair)
  if s.perNs * 10 < s.pairLoad set * symTenths 0 (s.ln F.LANE_LANE_CFG_RATE 0) then 1
  else if pair 0 && pair 1 && decide (s.ln F.LANE_LANE_CFG_RATE 0 ≠ s.ln F.LANE_LANE_CFG_RATE 1) then 2 else 0

/-- The accesses of internal masters that a set names (R77, R316, R379, R400): the compares and safety items of its egress entries, the
notices of its recorder, and the standstill of angle instance 0 (log entry 72). -/
def Dev.deliveries (s : Dev) (set : Nat) : List Delivery :=
  let dst := fun d => (s.outEntries set).filter fun o => decide (s.fs set F.LOOM_OUT_MAP_DST o = d)
  ((dst 6).map fun o => ⟨mLoom, 12, 2, 0x204 + 16 * s.fs set F.LOOM_OUT_MAP_SEL o, 4⟩) ++ ((dst 7).map fun _ => ⟨mLoom, 15, 2, 0, 4⟩) ++
  (if (List.range 4).any fun i => s.reelEn set i then [⟨mReel, 2, 3, 0, 1⟩] else []) ++
  (if (List.range 8).any fun i => decide (s.f F.SAFETY_INST_CFG_TYPE i ≠ 0) && s.flag F.SAFETY_INST_CFG_STILL_REQ i then
    [⟨mSx, 12, 1, 0x30, 4⟩, ⟨mSy, 12, 1, 0x30, 4⟩] else [])

/-- The checks of Tollgate over a set with the deliveries that it names (R403). -/
def Dev.tollCheck (s : Dev) (set : Nat) : Option (Nat × Nat × Nat) := s.tgSetCheck set (s.deliveries set)

/-- The checks run over a set: each block's `CHK_STAT` shows its first failure; a signature that fails outweighs the others (R53). -/
def Dev.swapChecks (s : Dev) (set : Nat) : Acted :=
  let lo := s.loomCheck set
  let sp := s.spCheck set
  let sf := s.sfCheck set
  let tg := s.tollCheck set
  let rl := s.reelCheck set
  let pr := s.pairCheck set
  let sg := s.setSigCheck set
  let ok := s.mapCheck set && lo.isNone && sp.isNone && sf.isNone && tg.isNone && rl.isNone && decide (pr = 0)
  let l0 := s.pairLoad set
  let s := (s.loomChkStat lo).put F.SECURE_CHK_STAT_CODE sg
  let s := (s.put F.SPINDLE_CHK_STAT_CODE (sp.getD (0, 0)).1).put F.SPINDLE_CHK_STAT_ARM (sp.getD (0, 0)).2
  let s := (s.put F.LANE_SF_CHK_CODE (sf.getD (0, 0)).1).put F.LANE_SF_CHK_LANE (sf.getD (0, 0)).2
  let s := ((s.put F.TOLLGATE_CHK_STAT_CODE (tg.getD (0, 0, 0)).1).put F.TOLLGATE_CHK_STAT_TARGET (tg.getD (0, 0, 0)).2.1).put
    F.TOLLGATE_CHK_STAT_ENTRY (tg.getD (0, 0, 0)).2.2
  let s := ((s.put F.REEL_CHK_STAT_CODE (rl.getD (0, 0, 0)).1).put F.REEL_CHK_STAT_INST (rl.getD (0, 0, 0)).2.1).put
    F.REEL_CHK_STAT_INDEX (rl.getD (0, 0, 0)).2.2
  let s := (s.put F.PAIR_CHK_CODE pr).put F.PAIR_CHK_L0 l0
  (if sg ≠ 0 then .badsig else if ok then .ok else .invalid, s)

/-! ## Completion and exchange -/

/-- The swap request completes (R52, R53). -/
def Dev.swapDone (s : Dev) (st : Status) : Dev :=
  match s.glob.swap with
  | none => s
  | some w =>
    let s := { s with glob := { s.glob with swap := none, swapOk := s.glob.swapOk || decide (st = Status.ok) } }
    let s := ((s.put F.GLOBAL_CFG_STAT_PENDING 0).put F.GLOBAL_CFG_STAT_STATUS st.code).raise
      (if st = Status.ok then F.GLOBAL_CYCLE_STAT_SWAP_DONE else F.GLOBAL_CYCLE_STAT_SWAP_FAIL)
    match w.ring with
    | some (r, i) => s.finishAt r i st (s.epoch .global) []
    | none => s.emit (.done 0x120 0 st)

/-- `MS_SPAN` of the active set (R211). -/
def Dev.msSpan (s : Dev) : Dev :=
  let set := s.actSet
  let spans := (s.setTrunks set).map (fun L => (L, ceilDiv (s.msGroups set L * symTenths L (s.ln F.LANE_LANE_CFG_RATE L)) 10)) ++
    (s.setLeaves set).map fun p => (p % 64, ceilDiv (32 * symTenths 64 (s.ln F.LANE_LANE_CFG_RATE (64 + p))) 10)
  let best := spans.foldl (fun (b x : Nat × Nat) => if b.2 < x.2 then x else b) (0, 0)
  (s.put F.LANE_MS_SPAN_LANE best.1).put F.LANE_MS_SPAN_SPAN (min 0xFFFF best.2)

/-- A map entry that the swap has changed: what was read of its cell is forgotten (R27). -/
def Dev.idForget (s : Dev) (g : Nat) : Dev :=
  { s with glob := { s.glob with idfp := Tab.erase s.glob.idfp g, idPend := s.glob.idPend.filter fun k => decide (k ≠ g) }
           proto := { s.proto with rr := s.proto.rr.filter fun q => q.desc.isSome || decide (q.cell ≠ g) } }

/-- The sets exchange (step 3 of R52): the first cycle under the new set is cycle n. Lanes in RUN whose mode changes retrain (R199). -/
def Dev.exchange (s : Dev) (n : Nat) : Dev :=
  let old := s.actSet
  let new := 1 - old
  let moved := (List.range 48).filter fun L =>
    s.inRun L && decide (s.fs old F.TRUNK_LANE_MAP_MODE L ≠ s.fs new F.TRUNK_LANE_MAP_MODE L)
  let changed := ((s.cells old ++ s.cells new).eraseDups).filter fun g =>
    decide (s.word F.regTrunkCellMap old g 0 ≠ s.word F.regTrunkCellMap new g 0)
  let s := { s with glob := { s.glob with swap := s.glob.swap.map fun (w : Swap) => { w with exchanged := true } } }
  let s := (s.put F.GLOBAL_CFG_STAT_ACTIVE new).each moved fun s L => s.laneRetrain L
  let s := (s.each changed fun s g => s.idForget g).spSwap old new
  ((((s.reelSwap old new).measureSet).msSpan).pairSwapped n).idReads

/-- An exchange while no cycle runs: Loom takes the new set at once; the next boundary evaluates the
indices as at a swap (R136). -/
def Dev.exchangeIdle (s : Dev) : Dev :=
  let old := s.actSet
  let n := s.nextBoundary
  let s := s.exchange n
  let s := (s.each (List.range 64) fun s k => s.modeSwap old s.actSet n k).loomLoaded s.actSet
  { s with loom := { s.loom with newSet := true } }

/-- After a command: an exchanged swap completes with OK once no run of the old set is left (R74). -/
def Dev.swapSettle (s : Dev) : Dev :=
  match s.glob.swap with
  | none => s
  | some w =>
    let old := fun (r : Run) => decide (r.set ≠ s.actSet)
    if w.exchanged ∧ ¬ (s.loom.due.any old ∨ s.loom.sh.any fun e => old e.2.run) then s.swapDone .ok else s

/-- No cycle runs: `RUN` = 0 and the last cycle has ended. -/
def Dev.cycleIdle (s : Dev) : Bool := !s.run && !s.glob.running

/-- A swap request (R52, R53): the target, and the descriptor that makes it. -/
def Dev.swapRequest (s : Dev) (target : Nat) (ring : Option (Nat × Nat)) : Acted :=
  if s.role ≠ .manager then s.deny .invalid
  else if s.glob.swap.isSome then s.deny .busy
  else if s.run ∧ target ≠ 0 ∧ target + 1 ≤ s.nextBoundary then
    (.late, (s.put F.GLOBAL_CFG_STAT_STATUS Status.late.code).raise F.GLOBAL_CYCLE_STAT_SWAP_FAIL)
  else
    (.ok, ({ s with glob := { s.glob with swap := some { target := target, ring := ring, checked := none, exchanged := false, since := s.coreCycle } } }).raise
      F.GLOBAL_CFG_STAT_PENDING)

/-- SWAP_CHECKS_DONE: the checks of the shadow set end. A failure completes the request; with no cycle running the sets exchange at
once (R53). -/
def Dev.swapChecksDone (s : Dev) : Dev :=
  match s.glob.swap with
  | none => s
  | some w =>
    if w.checked.isSome then s
    else
      let r := s.swapChecks (1 - s.actSet)
      if r.1 ≠ .ok then r.2.swapDone r.1
      else
        let s := { r.2 with glob := { r.2.glob with swap := some { w with checked := some .ok } } }
        s.iff s.cycleIdle fun s => s.exchangeIdle

/-- The signatures of a set are verified (R409, R414). -/
def Dev.sigsVerified (s : Dev) (set : Nat) : Bool :=
  decide (s.lc = lcSealed) || (decide (s.lc ≠ lcBlank) && !(sigAbsent (s.bytesAt F.SECURE_SET_SIG_V 16 set) && sigAbsent (s.bytesAt F.SECURE_PROG_SIG_V 16 set)))

/-- The time in CORE cycles within which the checks of a request end (R53). -/
def Dev.checkBound (s : Dev) : Nat := if s.sigsVerified (1 - s.actSet) then 3500000 else 400000

/-- Checks that have had their time have ended (R53). -/
def Dev.swapInTime (s : Dev) : Dev :=
  s.iff (s.glob.swap.any fun w => w.checked.isNone && decide (w.since + s.checkBound ≤ s.coreCycle)) Dev.swapChecksDone

/-- The swap at the boundary of cycle n (R53): exchange at its target, or BUSY where the checks still run at the target. `run` tells that
cycles go on. -/
def Dev.swapBoundary (s : Dev) (n : Nat) (run : Bool) : Dev :=
  let s := s.swapInTime
  match s.glob.swap with
  | none => s
  | some w =>
    if w.exchanged then s
    else if w.checked.isSome then s.iff (!run || decide (w.target ≤ n)) fun s => s.exchange n
    else s.iff (run && decide (w.target ≠ 0) && decide (w.target ≤ n)) fun s => s.swapDone .busy

/-- A reset of one of the blocks that hold the sets ends a pending swap (R442). -/
def Dev.swapRetire (s : Dev) : Dev := (s.swapDone .retired).retired .global 1

end Sys2Proof.Machine
end

