-- ==== Sys2Proof/Machine/Cycle.lean ====
section
/-! DEFINITION. The control cycle (02_control_cycle, R33 to R38): the writes of its registers, and what a cycle boundary
does in each role. -/

namespace Sys2Proof.Machine

/-- A period in units of 50 ns that R33 allows. -/
def periodOk (p : Nat) : Bool := decide (10 ≤ p) && decide (p ≤ 2000) && decide (10 ^ 9 % (p * 50) = 0)

/-- The boundaries follow new values of period and phase: the next is the first after now (R34, R37). -/
def Dev.newGrid (s : Dev) : Dev :=
  { s with glob := { s.glob with nextCyc := if s.perNs = 0 ∨ s.now < s.phaseNs then 0 else (s.now - s.phaseNs) / s.perNs + 1 } }

/-- CYCLE_CTL_WRITE (R33, R34, R37, R447, R49). -/
def Dev.cycleCtlWrite (s : Dev) (run stamp : Bool) (period : Nat) : Acted :=
  if s.role ≠ .manager then s.deny .invalid
  else if ¬ periodOk period ∨ period * 50 ≤ s.phaseNs then s.deny .invalid
  else if s.run ∧ period ≠ s.f F.GLOBAL_CYCLE_CTL_PERIOD then s.deny .busy
  else if run ∧ ¬ s.glob.swapOk then s.deny .invalid
  else
    let new := decide (period ≠ s.f F.GLOBAL_CYCLE_CTL_PERIOD)
    let s := ((s.put F.GLOBAL_CYCLE_CTL_RUN (b2n run)).put F.GLOBAL_CYCLE_CTL_STAMP (b2n stamp)).put F.GLOBAL_CYCLE_CTL_PERIOD period
    (.ok, s.iff new Dev.newGrid)

/-- CYCLE_PHASE_WRITE (R34, R37, R49). -/
def Dev.cyclePhaseWrite (s : Dev) (phase : Nat) : Acted :=
  if s.role ≠ .manager then s.deny .invalid
  else if s.run then s.deny .busy
  else if phase % 5 ≠ 0 ∨ s.perNs ≤ phase then s.deny .invalid
  else (.ok, (s.put F.GLOBAL_CYCLE_PHASE_PHASE phase).iff (decide (phase ≠ s.phaseNs)) Dev.newGrid)

/-- The shadow registers of GLOBAL and TRUNK transfer (R46, R47, R49, R51, R231). -/
def Dev.cycleShadows (s : Dev) : Dev :=
  let s := (s.xferReg F.regGlobalStamp).iff s.glob.stampWr Dev.allowCheck
  let s := { s with glob := { s.glob with stampInForce := s.flag F.GLOBAL_CYCLE_CTL_STAMP, stampWr := false } }
  s.each (List.range 12) fun s a => s.xferReg F.regTrunkCarrier a

/-- The work of cycle n begins (R40, R47). -/
def Dev.cycleStart (s : Dev) (n : Nat) : Dev :=
  let set := s.actSet
  let c : CycRec := { n := n, set := set, t0 := s.bnd n, stampFixed := s.glob.stampInForce, allow := s.fi F.GLOBAL_STAMP_ALLOW,
                      fixed := s.fi F.GLOBAL_STAMP_FIXED, arms := s.cycleArms set, done := false }
  ({ s with glob := { s.glob with cycles := c :: s.glob.cycles } }).put F.GLOBAL_CYCLE_CNT_CYCLE n

/-- A unit that leaves ACTIVE starts no section of the cycles in progress (R303). -/
def Dev.dropWork (s : Dev) : Dev :=
  { s with glob := { s.glob with cycles := s.glob.cycles.map fun (c : CycRec) => { c with arms := [] } }
           spin := { s.spin with arm := Tab.map (fun _ (x : SpArm) => { x with wk := [], sel := none }) s.spin.arm } }

/-- What Reel records of a boundary: the aggregates of Spindle, the latency and the cycle count (R367). -/
def Dev.reelBoundary (s : Dev) : Dev :=
  let s := s.each (List.range 12) fun s a =>
    s.each (List.range 8) fun s i => s.reelUpdate kSpindle (a * 256 + i) ((s.spArm a).items.getD i 0)
  let s := s.reelUpdate kCycle 0 (s.f F.GLOBAL_LAT_LAST)
  s.reelUpdate kCycle 1 (s.f F.GLOBAL_CYCLE_CNT_CYCLE % 2 ^ 32)

/-- The boundary of cycle n in the MANAGER (R34 to R37, R41, R51 to R53, R136, R205, R303). `run` tells that a cycle starts; without one
the boundary still transfers shadows and sends superframes. A warm reset that waits leaves nothing to be sent after the /SOF/ (R440). -/
def Dev.managerBoundary (s : Dev) (n : Nat) (run : Bool) : Dev :=
  let old := s.actSet
  let prev := s.glob.cycles.head?
  let was := s.unitActive
  let s := { s with glob := { s.glob with nextCyc := n + 1, running := run } }
  let s := (((s.swapBoundary n run).cycleShadows).abandonDue n).pairBoundary n run
  let s := s.iff (run && decide (s.adc.last ≠ some (s.bnd n))) fun s => s.adcXferAt (s.bnd n)
  let s := s.iff (was && !s.unitActive) Dev.dropWork
  let s := s.iff run fun s => s.cycleStart n
  let s := s.loomBoundary old n run
  let s := s.iff run fun s => s.spBoundary s.actSet n prev
  let s := (s.reelBoundary.pwrBoundary).managerSof n
  match s.glob.warm with
  | some k => { s with glob := { s.glob with warm := some (k % 16 + 16) } }
  | none => ((s.stateSend n).idReads).rrSend

/-- The boundary of cycle n in a CONCENTRATOR (R205, R219, R223, R404). -/
def Dev.concBoundary (s : Dev) (n : Nat) : Dev :=
  (((s.upGo.tgTransfer).pwrBoundary.concLeafSof n).upQueue n).fwdPumpAll

/-- CYCLE_BOUNDARY: station time reaches the next boundary of the device. -/
def Dev.cycleBoundary (s : Dev) : Dev :=
  let s := s.iff s.time.pendStep.isSome Dev.toTick
  if s.perNs = 0 ∨ s.role = .none ∨ s.glob.warm.any (fun k => decide (16 ≤ k)) then s
  else
    let n := s.nextBoundary
    let s := s.advanceTo (s.bnd n)
    match s.role with
    | .manager => s.managerBoundary n (s.run && s.glob.warm.isNone)
    | .concentrator => { s with glob := { s.glob with nextCyc := n + 1 } }.concBoundary n
    | .cell => { s with glob := { s.glob with nextCyc := n + 1 } }.tgTransfer.pwrBoundary.cellBoundary n
    | .none => s

end Sys2Proof.Machine
end

