-- ==== Sys2Proof/Machine/Links.lean ====
section
/-! DEFINITION. What follows from a command beyond its own block: the consequences of a lane's coming to RUN or leaving it (R42, R181,
R190, R191, R224, R290, R433), and what follows the state of the device whenever it changes (R74, R228, R290, R300, R367). -/

namespace Sys2Proof.Machine

/-- The lanes that have left RUN, and those that have reached it, since `s0`. -/
def Dev.lanesDown (s0 s : Dev) : List Nat := (roleLanes s0.role).filter fun L => s0.inRun L && !s.inRun L
def Dev.lanesUp (s0 s : Dev) : List Nat := (roleLanes s.role).filter fun L => !s0.inRun L && s.inRun L

/-- The other lane of a bonded pair, as the end knows it (R190). -/
def Dev.bondedMate (s : Dev) (L : Nat) : Option Nat :=
  if 64 ≤ L then none
  else match s.role with
  | .concentrator => if s.concBonded then some (1 - L) else none
  | .manager => if s.laneMode L = mBonded then some (s.fa F.TRUNK_LANE_MAP_PRIM L) else s.companion s.actSet L mBonded
  | _ => none

/-- The lane that takes over from a lost lane of a CONCENTRATOR with a spare (R191). -/
def Dev.spareMate (s : Dev) (L : Nat) : Option Nat :=
  if 64 ≤ L then none
  else match s.role with
  | .concentrator => if s.isSpare 1 then some (1 - L) else none
  | .manager => if s.laneMode L = mSpare then some (s.fa F.TRUNK_LANE_MAP_PRIM L) else s.companion s.actSet L mSpare
  | _ => none

/-- What the device held of a lane's partner goes with the lane (R181): its /SOF/, the replies that wait for the lane, and the requests
that came over it. -/
def Dev.forgetPeer (s : Dev) (L : Nat) : Dev :=
  { s with proto := { s.proto with sof := Tab.erase s.proto.sof L, pSeen := Tab.erase s.proto.pSeen L
                                   pLane := Tab.erase s.proto.pLane L
                                   rep := s.proto.rep.filter fun r => decide (r.lane ≠ L)
                                   fwd := s.proto.fwd.filter fun x => decide (x.lane ≠ L) } }

/-- A lane has left RUN: what the device held of its partner goes, its bonded mate leaves RUN with it, its spare takes the traffic. -/
def Dev.laneGone (s : Dev) (L : Nat) : Dev :=
  let carried := s.lnFlag F.LANE_LANE_STAT_CARRYING L
  let s := s.forgetPeer L
  let s := s.iff carried fun s => s.putLn F.LANE_LANE_STAT_CARRYING L 0
  let s := match s.bondedMate L with
    | some m => s.iff (s.inRun m) fun s => ((s.toDetect m true).putLn F.LANE_LANE_STAT_CARRYING m 0).forgetPeer m
    | none => s
  let s := match s.spareMate L with
    | some m => s.iff (carried && s.inRun m) fun s =>
        ((s.putLn F.LANE_LANE_STAT_CARRYING m 1).putLn F.LANE_LANE_STAT_PSTATE m 0).raiseLn F.LANE_LANE_EVT_SWITCHED m
    | none => s
  s.iff (s.isPair L && decide (s.pairLanes ≠ []) && s.xlinkNow) fun s => s.raise F.PAIR_EVT_PAIRLANE_DOWN

/-- The source lane of station time has gone: holdover (R350, R433). -/
def Dev.sourceGone (s0 s : Dev) : Dev :=
  match s.role with
  | .cell =>
    let s := s.timeLane
    s.iff (decide (s.f F.GATE_STAT_TLANE = 0)) fun s => s.put F.GLOBAL_CLK_STAT_HOLD 1
  | .concentrator =>
    s.iff (!s.lnFlag F.LANE_LANE_STAT_TIME_VALID s.srcTrunk && s0.lnFlag F.LANE_LANE_STAT_TIME_VALID s0.srcTrunk) fun s =>
      s.noSource.put F.GLOBAL_CLK_STAT_HOLD 1
  | _ => s

/-- After a command: lanes that have left RUN since `s0`, and lanes whose delay is new (R42). -/
def Dev.laneSync (s0 s : Dev) : Dev :=
  let down := Dev.lanesDown s0 s
  let up := Dev.lanesUp s0 s
  let s := s.each down Dev.laneGone
  let s := s.iff (decide (down ≠ [])) fun s => Dev.sourceGone s0 s
  let s := s.iff (decide (up ≠ []) && decide (s.role = .cell)) Dev.timeLane
  let moved := (roleLanes s.role).any fun L => decide (s0.ln F.LANE_LANE_DELAY_DELAY L ≠ s.ln F.LANE_LANE_DELAY_DELAY L) ||
    ((s0.lane L).rem && !(s.lane L).rem && s.inRun L)
  s.iff (decide (s.role = .manager) && (moved || decide (up ≠ []))) Dev.dmaxUpdate

/-! ## What a lane's transmitter sends beside superframes (R21, R170 to R176, R192, R469) -/

/-- The clock that a transmitter runs on (R170): `REFCLK`, or the clock recovered from a lane. -/
inductive TxClock where
  | refclk | recovered (lane : Nat)
deriving DecidableEq, Repr

/-- The clock that a lane's transmitter runs on (R170). -/
def Dev.txClock (s : Dev) (L : Nat) : TxClock :=
  if ¬ s.isUp L then .recovered L else if s.role = .concentrator then .recovered s.srcTrunk else .refclk

/-- The transmitter of a lane that is not in RUN is active (R170, R172, R176, R177, R181): at the upstream end from DETECT on, through the
back-off too; at the downstream end only while its receiver is locked. -/
def Dev.txOn (s : Dev) (L : Nat) : Bool :=
  let st := s.lState L
  s.hasLane L && decide (1 ≤ st) && decide (st ≤ 4) && !(s.lane L).idle && (s.isUp L || (s.lane L).lock)

/-- The plane that the device names on a lane, 0 while it is not known (R21). -/
def Dev.ownPlane (s : Dev) (L : Nat) : Nat :=
  if s.role = .cell then (match Tab.find s.proto.sof L with | some x => x.plane | none => 0) else s.f F.GLOBAL_ROLE_PLANE

/-- The /TRN/ that a lane outside RUN sends (R21, R174, R175, R190). -/
def Dev.ownTrn (s : Dev) (L : Nat) : Option Trn :=
  if ¬ s.txOn L then none
  else
    let st := s.lState L
    let x := s.lane L
    let map := decide (s.role = .manager) && decide (L < 64)
    some { role := s.role.code, plane := s.ownPlane L, lane := laneIdx L, mode := if map then s.laneMode L else 0,
           prim := if map then s.fa F.TRUNK_LANE_MAP_PRIM L else 0, state := st, rdy := decide (st = lAdapt) && x.settled, pwr := 2,
           result := if s.isUp L ∧ st = lSync ∧ x.meas then s.ln F.LANE_LANE_DELAY_MEAS L + 1 else 0,
           got := !s.isUp L && decide (st = lSync) && x.meas }

/-- The power state that the upstream end of a lane in RUN has been asked for (R192). -/
def Dev.pwrGoal (s : Dev) (L : Nat) : Nat :=
  let x := s.lane L
  (x.pwrPend.orElse fun _ => x.exit).getD (s.ln F.LANE_LANE_STAT_PSTATE L)

/-- The /TRN/ that tells a request for a power state (R192). -/
def Dev.pwrTrn (s : Dev) (L : Nat) : Trn :=
  { role := s.role.code, plane := s.ownPlane L, lane := laneIdx L, mode := 0, prim := 0, state := lRun, rdy := false, pwr := s.pwrGoal L,
    result := 0, got := false }

/-- After a command that began in `s0`: lanes outside RUN whose /TRN/ is new send it, and a lane in RUN whose power state is asked for
anew tells its partner; a spare taken into use does not (R191). -/
def Dev.trnSync (s0 s : Dev) : Dev :=
  if s0.lanes = s.lanes ∧ s0.proto.sof = s.proto.sof ∧ s0.f F.GLOBAL_ROLE_PLANE = s.f F.GLOBAL_ROLE_PLANE then s
  else
    s.each (roleLanes s.role) fun s L =>
      match s.ownTrn L with
      | some t => if s0.ownTrn L = some t then s else s.emit (.trn L t)
      | none =>
        if s0.inRun L && s.inRun L && s.isUp L && decide (s0.pwrGoal L ≠ s.pwrGoal L) &&
            decide (s0.ln F.LANE_LANE_STAT_CARRYING L = s.ln F.LANE_LANE_STAT_CARRYING L) then s.emit (.trn L (s.pwrTrn L)) else s

/-- A recovered clock takes over from the start-up oscillator, or ends holdover (R432, R433). -/
def Dev.clockLock (s : Dev) : Dev :=
  if s.role = .manager then s else (s.put F.GLOBAL_CLK_STAT_ON_OSC 0).put F.GLOBAL_CLK_STAT_HOLD 0

/-- What follows in other blocks from a command that began in `s0`: lanes that went down and requests on them, the cross-link, Roadblocks,
the state of the pair, the end of a swap, the DIG source, the /TRN/ of the lanes, the upstream superframes of a CONCENTRATOR. -/
def Dev.aftermath (s0 s : Dev) : Dev :=
  let s := Dev.rrRetire s0 (Dev.laneSync s0 s)
  let s := if s.role = .concentrator then s.fwdRetire else s
  let s := Dev.rbSync s0 s.xlinkSync
  let s := Dev.trnSync s0 s.pairSync.swapSettle.reelDig
  if s0.now5 = s.now5 then s else s.upGo

/-- The device with a completion. -/
def Dev.withCpl (s : Dev) (c : Option (Status × Nat)) : Dev := { s with cpl := c }

/-- What follows a command, whose own completion stays the command's. -/
def Dev.settle (s0 s : Dev) : Dev := (Dev.aftermath s0 s).withCpl s.cpl

end Sys2Proof.Machine
end

