-- ==== Sys2Proof/Machine/Clocks.lean ====
section
/-! DEFINITION. Clocks, power and reset (01_roles_topology, R11 to R19; R260 to R262; 19_clocks_power_reset): the start of the device,
dormancy and wake, power islands, the resets of the three scopes, the clock monitor and the debug port. -/

namespace Sys2Proof.Machine

/-! ## Islands (R438) -/

/-- The island that a register belongs to: 0 Reel and DRAM, 1 + p Ethernet port p, 8 + k the trunk lanes from 8k, 16 + k the leaf lanes
from 8k, 32 + c converter channel c (R438). -/
def islandOf (p : RegAt) : Option Nat :=
  match p.reg.blk with
  | .reel => some 0
  | .eth => if p.reg.n1 = 4 then some (1 + p.i) else none
  | .trunk => if p.reg.n1 = 128 ∧ p.i < 48 then some (8 + p.i / 8) else none
  | .leaf => if p.reg.n1 = 128 then some (16 + p.i / 8) else none
  | .adc => if p.reg.n1 = 16 then some (32 + p.i) else none
  | _ => none

/-- The lanes of a trunk or leaf island. -/
def islandLanes (k : Nat) : List Nat := (List.range 8).map fun i => if k < 16 then (k - 8) * 8 + i else 64 + (k - 16) * 8 + i

/-- The enable of an island's block, port, lanes or channel is 1 (R438). -/
def Dev.islandEn (s : Dev) (k : Nat) : Bool :=
  if k = 0 then s.flag F.REEL_CTL_EN
  else if k < 5 then s.flag F.ETH_PORT_CFG_EN (k - 1)
  else if k < 32 then (islandLanes k).any fun L => s.hasLane L && s.lnFlag F.LANE_LANE_CFG_EN L
  else s.flag F.ADC_CH_CFG_EN (k - 32)

/-! ## Returning registers to their reset values (R6, R439, R468) -/

/-- The lanes of block TRUNK or LEAF. -/
def Dev.blkLanes (s : Dev) (b : Blk) : List Nat := (roleLanes s.role).filter fun L => decide (64 ≤ L) == decide (b = .leaf)

/-- The lane fields that a reset of the block leaves: the lane epoch (R199). -/
def keyLaneEpoch (k : Nat) : Bool :=
  let off := k / 64 % 0x20000
  decide (off < 0x2000) && decide (off % 64 = 8) && decide (k % 64 = F.LANE_LANE_STAT_EPOCH.lo)

/-- The lanes of a block leave RUN and its registers return to their reset values; lanes whose `EN` resets to 1 train again (R230,
R439). -/
def Dev.lanesReset (s : Dev) (b : Blk) : Dev :=
  let s0 := s
  let s := Dev.rrRetire s0 (s.each (s.blkLanes b) fun s L => s.laneOff L)
  let s := s.iff (decide (s.role = .concentrator)) Dev.fwdRetire
  let s := s.wipe b fun k => keySet b k || keyEpoch k || keyLaneEpoch k
  s.each (s.blkLanes b) fun s L => s.iff (s.lnFlag F.LANE_LANE_CFG_EN L) fun s => s.laneOn L

/-- A per-block reset of TOLLGATE: the tables stay, the log and its counts go (R6, R404). -/
def Dev.tollReset (s : Dev) : Dev :=
  let s := s.wipe .tollgate fun k => keySet .tollgate k || keyEpoch k
  { s with toll := { s.toll with log := [] } }

/-- A per-block reset of DEBUG: no halt is in force; the test access port is not reset by it. -/
def Dev.dbgReset (s : Dev) : Dev :=
  let s := { s with pair := { s.pair with halted := false } }
  (s.put F.DEBUG_STAT_HALTED 0).put F.DEBUG_STAT_LAST 0

/-- What a per-block reset does to a block's logic (R441). -/
def Dev.blkReset (s : Dev) : Blk → Dev
  | .global => s
  | .tollgate => s.tollReset
  | .hostq => s.hostqReset
  | .secure => s.secReset
  | .time => s.timeReset
  | .eth => s.ethReset
  | .trunk => s.lanesReset .trunk
  | .leaf => s.lanesReset .leaf
  | .loom => s.loomReset
  | .spindle => s.spReset
  | .gate => s.gateReset
  | .adc => s.adcReset
  | .angle => s.angReset
  | .reel => s.reelReset
  | .can => s.canReset
  | .safety => s.safetyReset
  | .pair => s.pairReset
  | .debug => s.dbgReset

/-- Requests pending at a block, which its reset completes with RETIRED (R57, R441). -/
def Dev.pendingAt (s : Dev) (b : Blk) : Nat :=
  match b with
  | .secure => s.sec.reqs.length
  | .spindle => s.spin.reqs.length
  | .can =>
    (s.canCtl 0).pend.length + (s.canCtl 1).pend.length +
      (if s.role = .manager then (s.rxWait 5).length + (s.rxWait 6).length else 0)
  | .eth => s.eth.txq.foldl (fun n q => n + (q.2.filter fun (x : EthFrame) => x.desc.isSome).length) 0 +
      ethPorts.foldl (fun n p => n + (s.rxWait (1 + p)).length) 0
  | .hostq => (List.range 64).foldl (fun n r => n + (s.sqOpen r).length + s.sqPosted r) 0
  | .trunk => (s.proto.rr.filter fun q => decide (q.lane < 63)).length
  | .leaf => (s.proto.rr.filter fun q => decide (63 ≤ q.lane)).length + s.proto.fwd.length
  | _ => 0

/-- A block's epoch goes on by one, wrapping (R56). -/
def Dev.epochStep (s : Dev) (b : Blk) : Dev := s.incW (epochFld b) 1

/-! ## Per-block reset (R441, R442) -/

/-- The blocks that hold the configuration sets, and SECURE (R442). -/
def swapBlks : List Blk := [.loom, .spindle, .reel, .tollgate, .trunk, .secure]

/-- BLK_RST: a write of `GLOBAL.BLK_RST` (R442). -/
def Dev.blkRst (s : Dev) (go : Bool) (num : Nat) : Acted :=
  if ¬ go then (.ok, s)
  else match Blk.ofNum num with
  | none => s.deny .invalid
  | some b =>
    if b = .global ∨ ¬ blkOn s.role b ∨ s.role = .none ∨ s.blkGated b then s.deny .invalid
    else if b = .pair ∧ s.unitActive then s.deny .busy
    else if s.glob.blkRst.contains num then s.deny .busy
    else
      let s := s.iff (swapBlks.contains b && s.glob.swap.isSome) Dev.swapRetire
      let s := { s with glob := { s.glob with blkRst := s.glob.blkRst ++ [num], rstAt := Tab.put s.glob.rstAt num s.fifths } }
      (.ok, ((s.put F.GLOBAL_BLK_STAT_BUSY 1).put F.GLOBAL_BLK_STAT_BLOCK num).put F.GLOBAL_BLK_STAT_RETIRED 0)

/-- The CORE nanoseconds that a per-block reset with `q` pending requests takes (R441): 1 + q + 16 + 1 CORE cycles. -/
def Dev.resetTime (s : Dev) (q : Nat) : Nat := (18 + q) * (if s.role = .cell then 4 else 1)

/-- BLOCK_RESET_DONE: the reset of block `num` has run (R441). -/
def Dev.blockResetDone (s : Dev) (num : Nat) : Dev :=
  match Blk.ofNum num with
  | none => s
  | some b =>
    if ¬ s.glob.blkRst.contains num then s
    else
      let n := s.pendingAt b
      let s := s.coreTo (Tab.get 0 s.glob.rstAt num + s.resetTime n)
      let s := (s.inc F.GLOBAL_BLK_STAT_RETIRED n).blkReset b
      let l := s.glob.blkRst.filter fun k => decide (k ≠ num)
      let s := { s with glob := { s.glob with blkRst := l } }
      let s := (s.epochStep b).raise F.GLOBAL_BLK_STAT_DONE
      (s.put F.GLOBAL_BLK_STAT_BUSY (b2n (decide (l ≠ [])))).iff (decide (b = .time)) fun s => s.put F.TIME_STAT_STEP_AVAIL 1

/-! ## Power islands (R438) -/

/-- Whether every island asked for is ready. -/
def Dev.pwrReady (s : Dev) : Dev := s.put F.GLOBAL_PWR_STAT_READY (b2n (decide (s.glob.ramp = [])))

/-- An island loses power: what is pending at it completes with RETIRED (R57), and its registers and what it holds go. -/
def Dev.islandOff (s : Dev) (k : Nat) : Dev :=
  let b := islandBlk k
  let here := fun (key : Nat) => match regAt b.regs (key / 64 % 0x20000) with
    | some p => decide (islandOf p = some k)
    | none => false
  if k = 0 then
    let s := s.reelReset
    { s with reel := { Reel.off with regs := Tab.keep keyEpoch s.reel.regs } }
  else
    let s := if k < 5 then s.ethStop (k - 1)
      else if k < 32 then
        let t := Dev.rrRetire s (s.each ((islandLanes k).filter s.hasLane) fun s L => s.laneOff L)
        t.iff (decide (t.role = .concentrator)) Dev.fwdRetire
      else
        let cal := putBit s.adc.cal (k - 32) false
        let s := ({ s with adc := { s.adc with cal := cal } }).put F.ADC_CAL_BUSY (b2n (decide (cal ≠ 0)))
        s.setAdcCh (k - 32) AdcCh.idle
    s.wipe b fun key => !here key || (decide (8 ≤ k) && decide (k < 32) && keyLaneEpoch key) ||
      (decide (k < 5) && keyPort .eth key)

/-- PWR_CTL_WRITE: a write of `PWR_CTL`, or of `PWR_LANE` (R438, R448); read-only in a CELL. -/
def Dev.pwrWrite (s : Dev) (lane : Bool) (v : Nat) : Acted :=
  if s.role ≠ .manager ∧ s.role ≠ .concentrator then (.ok, s)
  else
    let ctl := if lane then s.pwrCtl else v
    let ln := if lane then v else s.pwrLane
    let off := (islands s.role).filter fun k => islandBit s.pwrCtl s.pwrLane k && !islandBit ctl ln k
    let on := (islands s.role).filter fun k => !islandBit s.pwrCtl s.pwrLane k && islandBit ctl ln k
    if off.any s.islandEn then s.deny .busy
    else
      let s := s.each off Dev.islandOff
      let s := s.each ((off.map islandBlk).eraseDups) Dev.epochStep
      let s := if lane then s.putWord F.regGlobalPwrLane 0 0 0 v else s.putWord F.regGlobalPwrCtl 0 0 0 v
      let ramp := (s.glob.ramp ++ on).filter fun k => decide (k ∉ off)
      (.ok, ({ s with glob := { s.glob with ramp := ramp, rampAt := on.foldl (fun t k => Tab.put t k s.fifths) s.glob.rampAt } }).pwrReady)

/-- ISLAND_READY: 20 µs after an island was gated on (R438). Lanes whose `EN` resets to 1 begin to train. -/
def Dev.islandReady (s : Dev) (k : Nat) : Dev :=
  if ¬ s.glob.ramp.contains k then s
  else
    let s := s.coreTo (Tab.get 0 s.glob.rampAt k + 20000)
    let s := ({ s with glob := { s.glob with ramp := s.glob.ramp.filter fun x => decide (x ≠ k) } }).pwrReady
    if 8 ≤ k ∧ k < 32 then
      s.each ((islandLanes k).filter s.hasLane) fun s L => s.iff (s.lnFlag F.LANE_LANE_CFG_EN L) fun s => s.laneOn L
    else s

/-! ## Power-on reset, dormancy and wake (R12 to R16, R259 to R262, R436 to R439) -/

/-- What keeps its value without power: AON, the OTP, and what has left the device. -/
def Dev.unpower (s : Dev) : Dev :=
  let g := s.gate
  let keep := aonFlds.map fun x => (x, s.f x)
  let life := (List.range 8).map fun k => (k, s.f F.GATE_LIFE_CNT k)
  let lc := F.regSecureLc.flds.map fun x => (x, s.f x)
  let o := Dev.off
  let o := { o with
    glob := { o.glob with por := false, straps := s.glob.straps, aonRole := s.glob.aonRole }
    gate := { o.gate with cpg := g.cpg, aonLow := g.aonLow, log := g.log, fired := g.fired, rtc0 := g.rtc0 }
    sec := { o.sec with slots := s.sec.slots, noSeed := s.sec.noSeed }
    out := s.out, cpl := s.cpl, free := s.free }
  let o := o.each (keep ++ lc) fun o p => o.put p.1 p.2
  o.each life fun o p => o.put F.GATE_LIFE_CNT p.2 p.1

/-- FRC starts from 0 and the real-time clock goes on (R262, R439). -/
def Dev.unpowerPor (s : Dev) : Dev :=
  let t := s.rtc
  let o := s.unpower
  { o with gate := { o.gate with rtc0 := t } }

/-- PORST_N_FALL: power-on reset, held until the ball rises again (R436, R439). -/
def Dev.porstFall (s : Dev) : Dev :=
  let o := s.unpowerPor
  { o with glob := { o.glob with por := true } }

/-- The role that straps decode to (R11). -/
def Straps.role (x : Straps) : Role :=
  match x.s1, x.s0 with
  | false, false => .none
  | false, true => .manager
  | true, false => .concentrator
  | true, true => .cell

def Straps.code (x : Straps) : Nat := b2n x.s1 * 2 + b2n x.s0

/-- The role code, the strap code and the fault in `GLOBAL.ROLE` (R19). -/
def Dev.showRole (s : Dev) (x : Straps) (fault : Nat) : Dev :=
  ((s.put F.GLOBAL_ROLE_ROLE s.role.code).put F.GLOBAL_ROLE_STRAP x.code).put F.GLOBAL_ROLE_FAULT fault

/-- The device takes role NONE (R16): GLOBAL and the debug port run, no ball is driven, and no plane is known. `STRAP` shows the fourth
sample, also where the four differ (log entry 137). -/
def Dev.noRole (s : Dev) (x : Straps) (fault : Nat) : Dev :=
  let g := { s.gate with dormant := false, legA := Leg.off, legB := Leg.off, bypX := false, bypY := false, auxSw := false, auxDrv := false, yOn := false }
  (({ s with role := .none, gate := g }).put F.GLOBAL_ROLE_PLANE 0).showRole x fault

/-- The clocks of the role run and its islands are ready: the start-up times of R446 are not modelled (log entry 43). -/
def Dev.clocksUp (s : Dev) : Dev :=
  let s := s.put F.GLOBAL_CLK_STAT_PLL_LOCK 1
  (s.iff (decide (s.role = .manager)) fun s => s.put F.GLOBAL_CLK_STAT_ON_OSC 0).pwrReady

/-- Self-calibration of every channel starts (R275, R446). -/
def Dev.calAll (s : Dev) : Dev := (s.adcCalStart (adcAll s.role)).2

/-- The record of a bypass decides the state of a cell that starts (R256, R260). -/
def Dev.bypState (s : Dev) : Dev :=
  if s.flag F.GATE_BYP_STAT_FIRED ∨ s.otpBypassed then
    let s := { s.raise F.GATE_BYP_STAT_FIRED with gate := { (s.raise F.GATE_BYP_STAT_FIRED).gate with fired := 3 } }
    let s := (s.put F.GATE_BYP_STAT_OTP_DONE (b2n s.otpBypassed)).put F.GATE_STAT_STATE gBypassed
    ((s.bypOut false).bypOut true).gatesDrive true
  else s.put F.GATE_STAT_STATE gWaking

/-- AON has failed its check (R262; log entry 44): the log, the counters and the bypass record go, and the clock starts from 0. -/
def Dev.aonLost (s : Dev) : Dev :=
  let s := { s with gate := { s.gate with log := [], fired := 0, rtc0 := 2 ^ 48 - s.fifths * 32768 / 10 ^ 9 % 2 ^ 48 } }
  let s := s.each [F.GATE_LOG_CTL_RD, F.GATE_LOG_CTL_WR, F.GATE_LOG_CTL_OVWR_CNT, F.GATE_BYP_STAT_FIRED, F.GATE_BYP_STAT_FIRST_Y,
    F.GATE_BYP_STAT_X_CAUSE] fun s x => s.put x 0
  (s.each (List.range 8) fun s k => s.put F.GATE_LIFE_CNT 0 k).logEvent 0x0A 0

/-- The wake of a CELL (R15, R256, R260): the straps as sampled, and whether AON passes its check. -/
def Dev.wake (s : Dev) (a b c d : Straps) (aonOk : Bool) : Dev :=
  let s := { s with glob := { s.glob with straps := d }, gate := { s.gate with aonLow := false } }
  if ¬ (a = d ∧ b = d ∧ c = d) then s.noRole d 2
  else if d.role ≠ s.glob.aonRole then s.noRole d 3
  else
    let s := s.iff (!aonOk) Dev.aonLost
    let s := ({ s with gate := { s.gate with dormant := false } }).showRole d 0
    let s := { s with gate := { s.gate with yOn := true } }
    let s := (((s.raise F.GLOBAL_RST_CAUSE_WAKE).clocksUp.newChal).life 4 1).bypState.logEvent 1 0
    (s.each [64, 65] fun s L => (s.putLn F.LANE_LANE_CFG_EN L 1).laneOn L).calAll

/-- The role that four agreeing samples name is latched and the device starts (R11 to R17, R446). `aonOk` tells that AON passes its check
at a wake (R262). -/
def Dev.latch (s : Dev) (a b c d : Straps) (aonOk : Bool) : Dev :=
  let s := { s with glob := { s.glob with straps := d } }
  if ¬ (a = d ∧ b = d ∧ c = d) then s.noRole d 2
  else
    let s := ({ s with role := d.role }).showRole d (if d.role = Role.none then 1 else 0)
    match d.role with
    | .none => s
    | .manager => (s.put F.GLOBAL_ROLE_PLANE (if d.plane then 2 else 1)).clocksUp.calAll.newChal
    | .concentrator =>
      let s := s.clocksUp.calAll.newChal
      s.each (roleLanes .concentrator) fun s L => s.laneOn L
    | .cell =>
      let s := { s with glob := { s.glob with aonRole := .cell }, gate := { s.gate with dormant := true } }
      let s := s.put F.GLOBAL_ROLE_PLANE 3
      s.iff (s.gate.cpg && !s.gate.aonLow) fun s => s.wake a b c d aonOk

/-- PORST_N_RISE: the straps are sampled on four SAFE-clock edges (R12). -/
def Dev.porstRise (s : Dev) (a b c d : Straps) (aonOk : Bool) : Dev :=
  if ¬ s.glob.por then s else ({ s with glob := { s.glob with por := false } }).latch a b c d aonOk

/-- CPG_RISE (R260, R460): `aonHigh` tells that `VDD_AON` has reached 3.0 V. -/
def Dev.cpgRise (s : Dev) (aonHigh : Bool) (a b c d : Straps) (aonOk : Bool) : Dev :=
  let s := { s with gate := { s.gate with cpg := true, aonLow := !aonHigh } }
  if s.role = .cell ∧ s.gate.dormant ∧ aonHigh then s.wake a b c d aonOk else s

/-- VDD_AON_WAKE_LEVEL (R460). -/
def Dev.aonLevel (s : Dev) (a b c d : Straps) (aonOk : Bool) : Dev :=
  if s.role = .cell ∧ s.gate.dormant ∧ s.gate.cpg ∧ s.gate.aonLow then s.wake a b c d aonOk
  else { s with gate := { s.gate with aonLow := false } }

/-- CPG_FALL: gates off, the state kept in AON, DORMANT (R259, R261, R262). The epochs, those of the lanes with them, and the free-running
counter stay. -/
def Dev.cpgFall (s : Dev) : Dev :=
  let s := { s with gate := { s.gate with cpg := false } }
  if s.role ≠ .cell ∨ s.gate.dormant then s
  else
    let s := (s.gatesOff.gatesDrive false).life 1 s.runSecs
    let s := s.logEvent 2 0
    let ep := (allBlks.filter (blkOn .cell)).map fun b => (b, s.epoch b)
    let lep := [64, 65].map fun L => (L, (s.leaveRun L).ln F.LANE_LANE_STAT_EPOCH L)
    let cause := F.regGlobalRstCause.flds.map fun x => (x, s.f x)
    let o := s.unpower
    let o := { o with role := .cell, time := { o.time with frc := s.time.frc, fifth := s.time.fifth },
                      gate := { o.gate with dormant := true, bypY := s.gate.bypY, yOn := s.gate.yOn } }
    let o := (o.each ep fun o p => o.put (epochFld p.1) p.2).each cause fun o p => o.put p.1 p.2
    let o := o.each lep fun o p => o.putLn F.LANE_LANE_STAT_EPOCH p.1 p.2
    (o.showRole s.glob.straps 0).put F.GLOBAL_ROLE_PLANE 3

/-- A block returns to what it is at power-on: registers, epochs and all it holds (R437). -/
def Dev.blkPowerOn (s : Dev) (b : Blk) : Dev :=
  let s := match b with
    | .trunk | .leaf => s.each (s.blkLanes b) fun s L => s.laneOff L
    | .eth => s.ethReset
    | .hostq => s.hostqReset
    | .reel => s.reelReset
    | _ => s
  let s := s.setRegs [] b
  match b with
  | .eth => { s with eth := { Eth.off with regs := [] } }
  | .hostq => { s with hostq := Hostq.off }
  | .reel => { s with reel := Reel.off }
  | .adc => { s with adc := Adc.off }
  | .angle => { s with ang := { Ang.off with prb := s.ang.prb } }
  | .trunk | .leaf => s.each (s.blkLanes b) fun s L => s.iff (s.lnFlag F.LANE_LANE_CFG_EN L) fun s => s.laneOn L
  | _ => s

/-- A supply is used in a role (R435). -/
def supplyUsed (r : Role) (k : Nat) : Bool :=
  match r with
  | .manager => decide (k ≤ 5)
  | .none => decide (k ≤ 1) || decide (k = 4)
  | _ => decide (k ≤ 4)

/-- SUPPLY_EXCURSION: 0 `VDD_AON`, 1 `VDD_CORE`, 2 `VDD_SERDES`, 3 `VDD_ADC`, 4 `VDD_IO`, 5 `VDD_DRAM` (R435, R437; log entry 45). -/
def Dev.supplyExcursion (s : Dev) (k : Nat) (aonOk : Bool) : Dev :=
  if s.glob.por ∨ ¬ supplyUsed s.role k ∨ (s.gate.dormant ∧ 1 ≤ k ∧ k ≤ 3) then s
  else if k ≤ 1 then
    let cause := F.regGlobalRstCause.flds.map fun x => (x, s.f x)
    let x := s.glob.straps
    let o := s.unpowerPor.each cause fun o p => o.put p.1 p.2
    (o.iff (decide (k = 1)) fun o => o.raise F.GLOBAL_RST_CAUSE_SUP_CORE).latch x x x x aonOk
  else
    let on := fun (s : Dev) (l : List Blk) => s.each (l.filter (blkOn s.role)) Dev.blkPowerOn
    if k = 2 then on (s.raise F.GLOBAL_RST_CAUSE_SUP_SERDES) [.trunk, .leaf, .eth, .hostq]
    else if k = 3 then (on (s.raise F.GLOBAL_RST_CAUSE_SUP_ADC) [.adc, .angle]).calAll
    else if k = 4 then
      let s := s.raise F.GLOBAL_RST_CAUSE_SUP_IO
      if s.role = .cell ∧ ¬ s.gate.dormant then
        let cal := s.gate.calDone
        let s := s.gatesOff.gateRegsReset
        let s := { s with gate := { Gate.forget s.gate with calDone := cal } }
        (s.put (epochFld .gate) 0).bypState
      else s
    else on (s.raise F.GLOBAL_RST_CAUSE_SUP_DRAM) [.reel]

/-! ## Warm reset (R14, R337, R362, R439, R440, R468) -/

/-- A source asks for a warm reset: `cause` is its bit of `RST_CAUSE`; the first to come is kept. -/
def Dev.askWarm (s : Dev) (cause : Nat) : Dev :=
  if s.glob.por ∨ s.role = .none ∨ s.gate.dormant ∨ s.glob.warm.isSome then s
  else { s with glob := { s.glob with warm := some cause } }

/-- WDOG_EXPIRY: the management-core watchdog, which a debug halt freezes (R301, R439, R444). -/
def Dev.wdogExpiry (s : Dev) : Dev :=
  if s.flag F.DEBUG_STAT_HALTED then s
  else (s.iff (decide (s.role = .manager)) fun s => s.raiseCrit 4).askWarm 8

/-- WARM: a write of `GLOBAL.RST_CTL` (R439, R448). -/
def Dev.warmWrite (s : Dev) (op : Nat) : Acted := if op ≠ 0x5A17 then s.deny .invalid else (.ok, s.askWarm 7)

/-- What a warm reset keeps of a cell record (R468). -/
def SpCell.warm (c : SpCell) : SpCell :=
  { SpCell.fresh with st := c.st, cause := c.cause, v0 := c.v0, v1 := c.v1, vd := c.vd, rc := c.rc, vrep := c.vrep, seq := c.seq,
                      strikes := c.strikes, hist := c.hist, posCmd := c.posCmd, pend := c.pend, held := c.held, tpos := c.tpos, ecc := c.ecc }

/-- GLOBAL at a warm reset: the reset values of `CYCLE_CTL` and `CYCLE_PHASE` give cycles of 1 µs (R36, R49). -/
def Dev.globWarm (s : Dev) : Dev :=
  let act := s.actSet
  let off := (islands s.role).filter s.gated
  let s := s.wipe .global fun k =>
    let o := k / 64 % 0x20000
    decide (o = 8) || decide (o = 0x40) || keyEpoch k
  let g := s.glob
  let at_ := off.foldl (fun t k => Tab.put t k s.fifths) []
  let s := { s with glob := { Glob.off with regs := g.regs, por := false, straps := g.straps, aonRole := g.aonRole, swapOk := g.swapOk, ramp := off, rampAt := at_ } }
  ((s.put F.GLOBAL_CFG_STAT_ACTIVE act).put F.GLOBAL_CYCLE_CNT_CYCLE (if s.role = .manager then s.now / 1000 else 0)).pwrReady

/-- The other blocks at a warm reset, after their own resets: registers that R439 and R468 do not keep take their reset values. -/
def Dev.blkWarm (s : Dev) (b : Blk) : Dev :=
  match b with
  | .global => s.globWarm
  | .tollgate =>
    if s.role = .manager then s else { s with toll := { s.toll with tg := [] } }
  | .hostq => { s with hostq := { Hostq.off with regs := Tab.keep keyEpoch s.hostq.regs } }
  | .secure => s.wipe .secure fun k =>
      let o := k / 64 % 0x20000
      keySet .secure k || keyEpoch k || decide (o < 8) || (decide (0x20 ≤ o) && decide (o < 0x40)) || (decide (0x100 ≤ o) && decide (o < 0x200))
  | .eth => { s with eth := { Eth.off with regs := Tab.keep (fun k => keyEpoch k || keyPort .eth k) s.eth.regs } }
  | .spindle =>
    let p := s.spin
    { s with spin := { Spin.off with regs := Tab.keep (fun k => keySet .spindle k || keyEpoch k) p.regs
                                     cell := Tab.map (fun _ c => SpCell.warm c) p.cell } }
  | .gate => s
  | .adc => { s with adc := { s.adc with regs := Tab.keep keyEpoch s.adc.regs, ch := [] } }
  | .angle => { s with ang := { Ang.off with regs := Tab.keep keyEpoch s.ang.regs, prb := s.ang.prb } }
  | .reel => { s with reel := { Reel.off with regs := Tab.keep (fun k => keySet .reel k || keyEpoch k) s.reel.regs, ram := s.reel.ram, ecc := s.reel.ecc } }
  | .can => { s with can := { regs := Tab.keep (fun k => keyEpoch k || keyPort .can k) s.can.regs, ctl := [] } }
  | .pair => { s with pair := { s.pair with halted := false, clkBad := false, cfgChk := false } }
  | .time | .trunk | .leaf | .loom | .safety | .debug => s

/-- A CELL starts again from the 1 µs step of its wake (R260; log entry 46). -/
def Dev.cellWarm (s : Dev) : Dev :=
  let s := s.gatesOff.gateRegsReset
  ({ s with gate := Gate.forget s.gate, proto := { s.proto with per := 0, ph := 0 } }).bypState

/-- The warm reset itself: `cause` is the bit of `RST_CAUSE`. -/
def Dev.warmNow (s : Dev) (cause : Nat) : Dev :=
  let s := s.iff s.glob.swap.isSome Dev.swapRetire
  let l := allBlks.filter (blkOn s.role)
  let s := s.each (l.filter fun b => decide (b ≠ .gate)) Dev.blkReset
  let s := s.iff (decide (s.role = .cell)) Dev.cellWarm
  let s := (s.each l fun s b => ((s.put (retireFld b) 0).put (staleFld b) 0).epochStep b).each l Dev.blkWarm
  let s := s.iff (decide (s.role = .cell)) Dev.calAll
  let s := s.newChal.put F.TIME_STAT_STEP_AVAIL 1
  match F.regGlobalRstCause.flds.find? fun x => decide (x.lo = cause) with
  | some x => s.raise x
  | none => s

/-- WARM_RESET (R440): in a MANAGER with RUN = 1 the boundary comes first, with its /SOF/ blocks; nothing is sent after them. -/
def Dev.warmReset (s : Dev) : Dev :=
  match s.glob.warm with
  | none => s
  | some k =>
    let s := s.iff (decide (s.role = .manager) && s.run && decide (k < 16)) Dev.cycleBoundary
    s.warmNow (k % 16)

/-! ## Clock monitor (R434) -/

/-- A clock is found bad: the fault of R301. -/
def Dev.clockBad (s : Dev) : Dev := ({ s with pair := { s.pair with clkBad := true } }).raiseCrit 3

/-- CLOCK_MONITOR_WINDOW: deviations in ppm over the window, and whether `ETH_REFCLK` is absent. -/
def Dev.clockWindow (s : Dev) (core ref : Int) (refLost : Bool) : Dev :=
  if s.role ≠ .manager then s
  else
    let s := { s with pair := { s.pair with clkBad := false } }
    let s := if refLost then (s.raise F.GLOBAL_CLK_STAT_MON_REF_LOST).clockBad
      else
        let far := fun (x : Int) => decide (200 < x) || decide (x < -200)
        let s := (s.put F.GLOBAL_CLK_MON_CORE_PPM (wrap 16 (satS 16 core))).put F.GLOBAL_CLK_MON_REF_PPM (wrap 16 (satS 16 ref))
        let s := s.iff (far core) fun s => (s.raise F.GLOBAL_CLK_STAT_CORE_BAD).clockBad
        s.iff (far ref) fun s => (s.raise F.GLOBAL_CLK_STAT_REFCLK_BAD).clockBad
    s.covStep 1

/-- CLOCK_STOP: no edge for 100 ns: 0 CORE, 1 `REFCLK`, 2 `ETH_REFCLK`. -/
def Dev.clockStop (s : Dev) (k : Nat) : Dev :=
  if s.role ≠ .manager ∨ 2 < k then s
  else (s.raise (if k = 0 then F.GLOBAL_CLK_STAT_CORE_BAD else if k = 1 then F.GLOBAL_CLK_STAT_REFCLK_BAD else F.GLOBAL_CLK_STAT_MON_REF_LOST)).clockBad

/-! ## Debug (R443 to R445) -/

/-- The management cores halt or resume; `halted` tells whether the op could be obeyed. -/
def Dev.dbgHalt (s : Dev) : Acted :=
  if s.lc = lcSealed then s.deny .denied
  else if s.role = .manager ∧ s.unitActive then s.deny .busy
  else if s.flag F.DEBUG_STAT_HALTED then (.ok, s)
  else
    let s := s.raise F.DEBUG_STAT_HALTED
    match s.role with
    | .manager => (.ok, ({ s with pair := { s.pair with halted := true } }).raiseCrit 10)
    | .cell => (.ok, s.blockAction cHalt)
    | _ => (.ok, s)

def Dev.dbgResume (s : Dev) : Acted :=
  if ¬ s.flag F.DEBUG_STAT_HALTED then s.deny .invalid
  else (.ok, ({ s with pair := { s.pair with halted := false } }).put F.DEBUG_STAT_HALTED 0)

/-- A write of `DEBUG.CMD` (R444, R445): `LAST` shows its completion. -/
def Dev.dbgCmd (s : Dev) (op key : Nat) : Acted :=
  let a : Acted :=
    if s.role = .none then s.deny .invalid
    else if op = 1 then s.dbgHalt
    else if op = 2 then s.dbgResume
    else if op = 3 ∧ key = 0x5A17 then (.ok, s.askWarm 9)
    else s.deny .invalid
  (a.1, a.2.put F.DEBUG_STAT_LAST a.1.code)

/-- `IDCODE` (R443). -/
def idcode : Nat := 0xB * 2 ^ 28 + 0x6144 * 2 ^ 12 + Config.jedec % 2 ^ 11 * 2 + 1

/-- The port runs: not in power-on reset, nor in DORMANT. -/
def Dev.tapOn (s : Dev) : Bool := !s.glob.por && !s.gate.dormant

/-- An instruction becomes the current one. -/
def Dev.tapIr (s : Dev) (code : Nat) : Dev :=
  let s := { s with dbg := { s.dbg with ir := code } }
  (s.put F.DEBUG_STAT_TAP_ACTIVE 1).put F.DEBUG_STAT_EXTEST (b2n (decide (code = 0)))

/-- BYPASS, and every instruction that acts as it. -/
def Dev.tapBypass (s : Dev) (code : Nat) : Dev :=
  if s.tapOn then { s.tapIr code with dbg := { (s.tapIr code).dbg with byp := false } } else s

/-- EXTEST: the balls follow the boundary register (R443); in SEALED it acts as BYPASS. -/
def Dev.tapExtest (s : Dev) (bits : List Bool) : Dev :=
  if ¬ s.tapOn then s
  else if s.lc = lcSealed then (s.tapBypass 0).put F.DEBUG_STAT_EXTEST 0
  else { s.tapIr 0 with dbg := { (s.tapIr 0).dbg with bsr := bits } }

/-- SAMPLE/PRELOAD: the boundary register takes what is shifted in; no ball follows it. -/
def Dev.tapSample (s : Dev) (bits : List Bool) : Dev :=
  if ¬ s.tapOn then s else { s.tapIr 2 with dbg := { (s.tapIr 2).dbg with bsr := bits } }

/-- IDCODE: the identification register is selected and read. -/
def Dev.tapIdcode (s : Dev) : Dev := if ¬ s.tapOn then s else (s.tapIr 1).complete .ok idcode

end Sys2Proof.Machine
end

