-- ==== Sys2Proof/Machine/Regs.lean ====
section
/-! DEFINITION. What reading and writing a register does once the access is permitted (R4 to R7): registers whose value follows the
state of the device, fields that clear on reading, writes under the access codes, and the registers whose write has checks or an action of its
own, block by block. -/

namespace Sys2Proof.Machine

/-! ## Places -/

/-- `DENY_LOG` (R407), `LOG_DATA` (R265) and `BLOCK.EPOCH` (R56), which stand in no register table. -/
def regDenyLog : Reg := ⟨.tollgate, 0x10, 2, 8, 1, 0, true, .live, []⟩
def regLogData : Reg := ⟨.gate, 0xF0, 2, 8, 1, 0, true, .live, []⟩
def regEpoch (b : Blk) : Reg := ⟨b, 0xFFF0, 1, 0, 1, 0, false, .live, [epochFld b, retireFld b, staleFld b]⟩

/-- The register at an offset of a block. -/
def placeOf (b : Blk) (off : Nat) : Option RegAt := regAt (regEpoch b :: regDenyLog :: regLogData :: b.regs |>.filter fun R => decide (R.blk = b)) off

/-- An offset names something that the role has (R49, R199, R266). -/
def Dev.present (s : Dev) (b : Blk) (off : Nat) : Bool :=
  match b with
  | .global => decide (s.role = .manager) || decide (off < 0x100) || decide (0x130 ≤ off)
  | .trunk => decide (0x2000 ≤ off) || (decide (off < 0xC00) && s.hasLane (off / 64))
  | .leaf => decide (0x2000 ≤ off) || s.hasLane (64 + off / 64)
  | .adc => match placeOf b off with
    | some p => decide (p.reg.n1 ≤ 1) || decide (p.i < adcChans s.role)
    | none => true
  | _ => true

/-- A register that the role does not have reads as a reserved offset. -/
def Dev.shown (s : Dev) (p : RegAt) : Bool :=
  let mgr := decide (s.role = .manager)
  let off := p.reg.off
  match p.reg.blk with
  | .trunk => mgr || !([0x4, 0x14, 0x3F10, 0x3F18, 0x3F34, 0x3F38, 0x3F40, 0x3FC0, 0x3F28].contains off)
  | .leaf => if off = 0x3F28 then decide (s.role = .cell) else !([0x3F10, 0x3F18, 0x3F34, 0x3F38].contains off)
  | .time => mgr || decide (off ≠ 0x18)
  | .secure => mgr || decide (off ≠ 0x1000)
  | .can => !mgr || decide (off < 0x200) || decide (off = 0xFFF0)
  | _ => true

/-! ## Reading -/

/-- The copy that a set-held register shows: `VIEW` selects it where the block has one (R72, R407); elsewhere the shadow set. -/
def Dev.viewActive (s : Dev) (b : Blk) : Bool :=
  match b with
  | .loom => s.flag F.LOOM_CTL_VIEW
  | .spindle => s.flag F.SPINDLE_CTL_VIEW
  | .reel => s.flag F.REEL_CTL_VIEW
  | .tollgate => s.flag F.TOLLGATE_CTL_VIEW
  | _ => false

def Dev.viewBank (s : Dev) (R : Reg) : Nat :=
  if R.copy ≠ .set ∨ s.role ≠ .manager then 0 else if s.viewActive R.blk then s.actSet else 1 - s.actSet

/-- The word of a number made of little-endian bytes. -/
def word32 (l : List Byte) (i : Nat) : Nat := field l (4 * i) 4

/-- `LANE_CFG` of a downstream end shows the power state in force and the incoming rate (R192, R199). -/
def Dev.laneCfgSeen (s : Dev) (w L : Nat) : Option Nat :=
  if s.hasLane L && !s.isUp L then some (putBits (putBits w 29 2 (s.ln F.LANE_LANE_STAT_PSTATE L)) 22 2 (s.ln F.LANE_LANE_STAT_RATE_IN L)) else none

/-- The value of a register that follows the state of the device. -/
def Dev.computed (s : Dev) (p : RegAt) : Option Nat :=
  let w := s.regWord p 0
  match p.reg.blk, p.reg.off with
  | .tollgate, 0x10 => some (match s.toll.log with | [] => 0 | d :: _ => if p.i = 0 then d.word0 else d.time)
  | .time, 0x0 => some (putBits w 28 2 (match s.role with | .concentrator => 1 | .cell => 2 | _ => 0))
  | .time, 0x4 => some (putBits w 0 16 s.holdMin)
  | .time, 0x30 => some (s.time.frc % 2 ^ 64)
  | .spindle, 0x34 => some (putBit w 31 s.recBusy)
  | .spindle, 0x4000 => some (s.cellStat p.i)
  | .trunk, 0x0 => s.laneCfgSeen w p.i
  | .leaf, 0x0 => s.laneCfgSeen w (64 + p.i)
  | .gate, 0x4 => some (putBits w 4 4 (min 15 s.desatTrips.length))
  | .gate, 0xA0 => if p.i = 1 then some (w + s.runSecs) else none
  | .gate, 0xE0 => some s.rtc
  | .gate, 0xF0 => some (s.logWord (decide (p.i = 1)))
  | .angle, 0x28 => some (putBits w 0 32 (s.angleNow p.i))
  | .reel, 0x8 =>
    let r := s.reelRate s.actSet
    some ((if r.1 % r.2 = 0 then r.1 / r.2 else Config.bpus r.1 r.2) % 2 ^ 32)
  | .safety, 0x518 => some (putBits w 0 16 s.btHours)
  | .secure, 0x8 => some (if s.flag F.SECURE_STAT_ID_READY then idFp else 0)
  | .secure, 0xC => some (Config.random s.free % 2 ^ 32)
  | .secure, 0x200 => some (word32 (slice Config.idPub 0 64) p.i)
  | .secure, 0x240 => some (Config.cert.length % 2 ^ 32)
  | .secure, 0x400 => some (word32 (slice Config.cert 0 1024) p.i)
  | .debug, 0x8 => some (idcode % 2 ^ 32)
  | _, _ => none

/-- The whole value of a register as a read shows it. -/
def Dev.regValue (s : Dev) (p : RegAt) : Nat :=
  match s.computed p with
  | some v => v
  | none => s.regWord p (s.viewBank p.reg)

/-- Conditions of a read that a block does not serve (R167, R412, R419, R420). -/
def Dev.readStatus (s : Dev) (p : RegAt) : Status :=
  let off := p.reg.off
  match p.reg.blk with
  | .secure =>
    if ¬ s.flag F.SECURE_STAT_ID_READY ∧ off ≠ 0 ∧ off ≠ 4 ∧ off ≠ 0xFFF0 then .busy
    else if off = 0xC ∧ s.flag F.SECURE_STAT_RNG_FAIL then .busy
    else if off = 0x400 ∧ s.lc = lcReturned then .denied
    else .ok
  | .spindle => if 0x40 ≤ off ∧ off < 0x60 ∧ s.recBusy then .busy else .ok
  | _ => .ok

/-- What a read takes into the registers first (R344, R355, R430): the captured time, the oldest stamp, the oldest frame. -/
def Dev.readFirst (s : Dev) (p : RegAt) : Dev :=
  if p.up then s
  else match p.reg.blk, p.reg.off with
  | .time, 0x20 => s.nowCapture
  | .eth, 0x200 => s.txtsRead
  | .can, 0x280 => if s.role = .concentrator then s.rxfRead p.i else s
  | _, _ => s

/-- What a read removes after it (R265, R285, R405, R419): `up` tells that the upper word was read. -/
def Dev.readLast (s : Dev) (p : RegAt) (up : Bool) : Dev :=
  match p.reg.blk, p.reg.off with
  | .tollgate, 0x10 => if p.i = 1 ∧ ¬ p.up then s.denyRead.2 else s
  | .gate, 0xF0 => if p.i = 1 ∧ ¬ p.up then s.logAdvance else s
  | .angle, 0x108 => if up then s.probeRead p.i else s
  | .secure, 0xC => { s with free := s.free + 1 }
  | _, _ => s

/-- The RC fields of a register. -/
def Reg.rcFlds (R : Reg) : List Fld := R.flds.filter fun x => decide (x.acc = .rc)

/-- A read does not return the events of its own CORE cycle in RC fields (R4). -/
def Dev.unseen (s : Dev) (p : RegAt) (v : Nat) : Nat :=
  p.reg.rcFlds.foldl (fun v x => match s.fresh x p.i p.j with | some e => putBits v x.lo x.w e.old | none => v) v

/-- An RC field clears, but for the events of the same CORE cycle, which stay for the next read (R4). -/
def Dev.clearFld (s : Dev) (F : Fld) (i j : Nat) : Dev :=
  match s.fresh F i j with
  | none => s.put F 0 i j
  | some e => { s.put F e.ev i j with events := ⟨s.events.cyc, s.events.l.map fun y => if y.key = e.key then { y with old := 0 } else y⟩ }

/-- RC fields whose lowest bit lies in [lo, lo + w) clear (R4). -/
def Dev.clearRc (s : Dev) (p : RegAt) (lo w : Nat) : Dev :=
  s.each (p.reg.rcFlds.filter fun x => decide (lo ≤ x.lo) && decide (x.lo < lo + w)) fun s x => s.clearFld x p.i p.j

/-- The key of a captured upper word: master, block, offset (R7). -/
def capKey (m : Nat) (p : RegAt) : Nat := (m * 32 + p.reg.blk.num) * 2 ^ 16 + p.reg.off + p.reg.s1 * p.i + p.reg.s2 * p.j

/-- A permitted read of a register: a 32-bit one, the whole of a 64-bit one, or one of its words (R4, R7). A captured upper word waits for
the next read of that word by its master, whatever comes between but a reset of the device (log entry 83). -/
def Dev.readReg (s : Dev) (m : Nat) (p : RegAt) (whole : Bool) : Status × Nat × Dev :=
  let st := s.readStatus p
  if st ≠ .ok then (st, 0, s)
  else
    let s := s.readFirst p
    let v := s.unseen p (s.regValue p)
    if whole ∨ ¬ p.reg.wide then (.ok, v, (s.clearRc p 0 64).readLast p p.reg.wide)
    else if p.up then
      match Tab.find s.glob.caps (capKey m p) with
      | some c => (.ok, c, ({ s with glob := { s.glob with caps := Tab.erase s.glob.caps (capKey m p) } }).readLast p true)
      | none => (.ok, v / 2 ^ 32, (s.clearRc p 32 32).readLast p true)
    else
      let s := { s with glob := { s.glob with caps := Tab.put s.glob.caps (capKey m p) (v / 2 ^ 32) } }
      (.ok, v % 2 ^ 32, (s.clearRc p 0 64).readLast p false)

/-! ## Writing -/

/-- Who writes: the master, and the descriptor that makes the write, if one does. -/
structure Writer where
  m    : Nat
  desc : Option (Nat × Nat)
deriving DecidableEq, Repr

/-- A field takes a written value under its access code (R4). -/
def Dev.putAcc (s : Dev) (bank : Nat) (p : RegAt) (x : Fld) (v : Nat) : Dev :=
  match x.acc with
  | .rw => s.putb x bank v p.i p.j
  | .w1c => s.writeW1c x bank v p.i p.j
  | _ => s

/-- A plain write of a register. -/
def Dev.plainB (s : Dev) (bank : Nat) (p : RegAt) (v : Nat) : Dev := s.each p.reg.flds fun s x => s.putAcc bank p x (bits v x.lo x.w)
def Dev.plain (s : Dev) (p : RegAt) (v : Nat) : Acted := (.ok, s.plainB 0 p v)

/-- A plain write where a check holds, else INVALID. -/
def Dev.plainIf (s : Dev) (ok : Bool) (p : RegAt) (v : Nat) : Acted := if ok then s.plain p v else s.deny .invalid

/-- A word of a Tollgate entry is written (R407). -/
def TgEntry.withWord (x : TgEntry) (k v : Nat) : TgEntry :=
  if k = 0 then { x with en := bitOf v 31, master := bits v 24 4, r := bitOf v 2, w := bitOf v 1, x := bitOf v 0 }
  else if k = 1 then { x with base := v } else { x with limit := v }

/-- A write of a set-held register (R52, R72, R404). -/
def Dev.writeSet (s : Dev) (p : RegAt) (v : Nat) : Acted :=
  let bank := if s.role = .manager then 1 - s.actSet else 0
  if s.role = .manager ∧ s.viewActive p.reg.blk then s.deny .invalid
  else if s.role = .manager ∧ s.glob.swap.isSome then s.deny .busy
  else match p.reg.tgWord with
  | some k =>
    let x := (s.tg bank p.i p.j).withWord k v
    if s.role = .manager ∨ s.tgWriteOk p.i p.j x then (.ok, s.setTg bank p.i p.j x) else s.deny .invalid
  | none => (.ok, s.plainB bank p v)

/-- A write of a SAFETY parameter (R338). -/
def Dev.writeParam (s : Dev) (p : RegAt) (v : Nat) : Acted :=
  if s.safeRun then s.deny .busy
  else
    let u := (s.plainB 0 p v).mirrorPar p.reg p.i
    (.ok, if p.reg.off = 0x400 then Dev.tripCfgSet s u else u)

def Dev.writeGlobal (s : Dev) (p : RegAt) (v : Nat) : Acted :=
  match p.reg.off with
  | 0x20 => s.pwrWrite false v
  | 0x28 => s.pwrWrite true v
  | 0x30 => s.warmWrite (bits v 16 16)
  | 0x34 => s.blkRst (bitOf v 31) (bits v 0 5)
  | 0x100 => s.cycleCtlWrite (bitOf v 31) (bitOf v 16) (bits v 0 11)
  | 0x104 => s.cyclePhaseWrite (bits v 0 17)
  | 0x108 => (.ok, { s.plainB 0 p v with glob := { (s.plainB 0 p v).glob with stampWr := true } })
  | 0x120 => s.swapRequest v none
  | _ => s.plain p v

def Dev.writeTime (s : Dev) (p : RegAt) (v : Nat) : Acted :=
  match p.reg.off with
  | 0x0 => s.timeCtlWrite (bits v 30 2) (bits v 16 12) (bits v 0 16)
  | 0x8 => s.timeIncWrite (bits v 0 48)
  | 0x10 => s.timeStepWrite v
  | _ => s.plain p v

def Dev.writeHostq (s : Dev) (p : RegAt) (v : Nat) : Acted :=
  let r := p.i
  match p.reg.off with
  | 0x0 => s.plainIf (decide (1 ≤ bits v 0 8) && decide (bits v 0 8 ≤ 128)) p v
  | 0x1008 =>
    if 5 ≤ bits v 28 3 ∨ 7 ≤ bits v 24 4 ∨ bits v 0 4 < 4 ∨ 12 < bits v 0 4 then s.deny .invalid
    else (.ok, (s.plainB 0 p v).put F.HOSTQ_SQ_STAT_STATE (b2n (bitOf v 31)) r)
  | 0x1018 =>
    s.plainIf (decide (bits v 28 3 < 5) && (decide (bits v 28 3 = 0) || decide (bits v 16 6 < 16)) && decide (4 ≤ bits v 0 4) && decide (bits v 0 4 ≤ 12)) p v
  | 0x8000 => s.sqDoorbell r (bits v 0 12)
  | 0x8004 => s.cqDoorbell r (bits v 0 12)
  | _ => s.plain p v

def Dev.writeSecure (s : Dev) (p : RegAt) (v : Nat) : Acted :=
  if ¬ s.flag F.SECURE_STAT_ID_READY ∧ p.reg.off ≠ 0 ∧ p.reg.off ≠ 4 then s.deny .busy
  else match p.reg.off with
  | 0x10 => if bits v 28 4 = 1 then s.quoteCmd else if bits v 28 4 = 2 then s.extendCmd (bits v 0 3) else s.deny .invalid
  | 0x40 => if s.flag F.SECURE_STAT_BUSY then s.deny .busy else s.plain p v
  | _ => s.plain p v

def Dev.writeEth (s : Dev) (p : RegAt) (v : Nat) : Acted :=
  match p.reg.off with
  | 0x0 => if bits v 0 14 < 1518 ∨ 2048 < bits v 0 14 then s.deny .invalid else (.ok, (s.plainB 0 p v).ethPortsSettle)
  | 0x108 => s.plainIf (decide (bits v 30 2 ≠ 3) && decide (bits v 24 4 ≠ 0) && decide (bits v 0 16 ≠ 0)) p v
  | 0x1000 => s.plainIf (decide (1 ≤ bits v 48 5) && decide (bits v 48 5 ≤ 16)) p v
  | _ => s.plain p v

/-- A far-end loop on a CELL lane that the cell follows, in RUN, is refused (R196). -/
def Dev.loopBusy (s : Dev) (L : Nat) : Bool :=
  decide (s.role = .cell) && s.gIs gRun && decide (s.planeLane s.gate.fplane = some L) && decide (s.gate.fplane ≠ 0)

def Dev.writeLane (s : Dev) (p : RegAt) (v : Nat) : Acted :=
  let L := if p.reg.blk = .leaf then 64 + p.i else p.i
  match p.reg.off with
  | 0x0 => s.laneCfgWrite L v (s.loopBusy L)
  | 0x2C =>
    let op := bits v 28 4
    if op = 1 then (.ok, s.laneRetrain L) else if op = 2 then (.ok, s.unfreeze L) else if op = 3 then (.ok, s.remeasure L) else s.deny .invalid
  | 0x3F00 => s.plainIf (decide (bits v 0 8 ≠ 0)) p v
  | 0x3F18 => s.plainIf (decide (bits v 0 16 ≠ 0)) p v
  | _ => s.plain p v

def Dev.writeLoom (s : Dev) (p : RegAt) (v : Nat) : Acted :=
  match p.reg.off with
  | 0x0 => (.ok, s.loomCtlWrite (bitOf v 31) (bitOf v 30) (bitOf v 29))
  | 0x20 => s.plainIf (decide (bits v 0 8 ≠ 0)) p v
  | 0x24 =>
    let u := s.plainB 0 p v
    (.ok, u.iff (s.flag F.LOOM_CMP_STAT_DIVERGE && !u.flag F.LOOM_CMP_STAT_DIVERGE) fun s =>
      (s.put F.LOOM_CMP_STAT_FIRST_O 0).put F.LOOM_CMP_STAT_FIRST_VALID 0)
  | 0x1004 => s.slotRateWrite p.i (bits v 0 7) (bits v 16 6)
  | _ => s.plain p v

def Dev.writeSpindle (s : Dev) (w : Writer) (p : RegAt) (v : Nat) : Acted :=
  match p.reg.off with
  | 0x30 =>
    let op := bits v 28 4
    let all := bitOf v 27
    let g := bits v 0 13
    if op = 0 ∨ 8 < op then s.deny .invalid
    else if op ≤ 4 then (if all then s.deny .invalid else s.cellCmdHost op g)
    else
      let a := s.cellCmdSend op all g w.desc (if w.desc.isNone ∧ w.m ≤ 4 then some w.m else none)
      (a.1.getD .ok, a.2)
  | 0x34 => s.recIdxWrite (bitOf v 30) (bits v 0 13)
  | _ => s.plain p v

def Dev.writeGate (s : Dev) (p : RegAt) (v : Nat) : Acted :=
  match p.reg.off with
  | 0x0 => (.ok, (s.plainB 0 p v).iff (decide (bits v 31 1 ≠ s.f F.GATE_CTL_FB)) Dev.fbSync)
  | 0x10 => s.plainIf (decide (bits v 0 16 ≤ bits v 16 16)) p v
  | 0x1C => s.plainIf (decide (bits v 12 4 ≠ 0)) p v
  | 0x58 => if s.flag F.GATE_CTL_AUX_AUTO then s.deny .busy else s.plain p v
  | 0x5C => if s.flag F.GATE_CTL_AUX_AUTO then s.deny .busy else s.plain p v
  | 0x88 =>
    if bits v 16 14 = 0 then s.deny .invalid
    else (.ok, ((s.plainB 0 p v).iff (bitOf s.gate.fired 0) fun s => ({ s with gate := { s.gate with bypX := false } }).bypOut false))
  | 0x8C =>
    if s.flag F.GATE_BYP_Y_CFG_LOCK then s.deny .denied
    else if bits v 20 10 = 0 then s.deny .invalid
    else (.ok, ((s.plainB 0 p v).iff (bitOf s.gate.fired 1) fun s => ({ s with gate := { s.gate with bypY := false } }).bypOut true))
  | 0x94 =>
    let op := bits v 16 16
    if op = 0xF1AE then s.maintFire else if op = 0x5EA1 then s.maintKey1 else if op = 0xC1EA then s.maintKey2 else s.deny .invalid
  | _ => s.plain p v

def Dev.writeAdc (s : Dev) (p : RegAt) (v : Nat) : Acted :=
  match p.reg.off with
  | 0x0 => s.adcCalWrite (bitOf v 31) (bitOf v 29) (bits v 0 16)
  | 0x200 => s.plainIf (decide (bits v 20 3 ≤ 4) && !(decide (bits v 26 2 = 1) && decide (p.i % 2 = 0))) p v
  | _ => s.plain p v

def Dev.writeAngle (s : Dev) (p : RegAt) (v : Nat) : Acted :=
  let i := p.i
  match p.reg.off with
  | 0x0 =>
    if (bits v 29 2 = 0 ∧ i ≠ 0) ∨ bits v 8 4 = 0 then s.deny .invalid
    else
      let key := fun (s : Dev) => (s.f F.ANGLE_CFG_EN i, s.f F.ANGLE_CFG_SRC i)
      let t := s.plainB 0 p v
      (.ok, if key t = key s then t.angValidate i else t.angRestart i)
  | 0x8 => s.plainIf (decide (bits v 0 32 < bits v 32 32)) p v
  | 0x30 => (.ok, (s.plainB 0 p v).angValidate i)
  | 0x200 => (.ok, ((s.plainB 0 p v).iff (!bitOf v 31) fun s => s.wmkOff i).iff (decide (bits v 29 2 ≠ s.f F.ANGLE_WMK_CFG_INST i)) fun s => s.wmkLook s.now i)
  | 0x204 => s.wmkHost i (bits v 0 32)
  | _ => s.plain p v

def Dev.writeReel (s : Dev) (p : RegAt) (v : Nat) : Acted :=
  match p.reg.off with
  | 0x20 => (.ok, s.reelForce (bits v 0 4))
  | 0x24 => s.reelRelease (bits v 8 2) (bits v 0 8)
  | 0x110 => if bits v 28 4 = 1 then s.reelArm p.i else if bits v 28 4 = 2 then (.ok, s.reelStop p.i) else s.deny .invalid
  | _ => s.plain p v

def Dev.writeCan (s : Dev) (p : RegAt) (v : Nat) : Acted :=
  let c := p.i
  match p.reg.off with
  | 0x0 => s.canCfgWrite c v
  | 0x4 => if s.flag F.CAN_CFG_EN c then s.deny .busy else s.plain p v
  | 0x8 => if s.flag F.CAN_CFG_EN c then s.deny .busy else s.plain p v
  | 0x20 =>
    let op := bits v 28 4
    if op = 1 then (.ok, s.canRecover c)
    else if s.role ≠ .concentrator then s.deny .invalid
    else if op = 2 then s.mailTx c
    else if op = 3 then { s with free := s.free + 1 }.mailCancel c (Config.canLate s.free)
    else s.deny .invalid
  | _ => s.plain p v

def Dev.writeSafety (s : Dev) (p : RegAt) (v : Nat) : Acted :=
  match p.reg.off with
  | 0x0 => if bitOf v 31 then s.safetyRun else s.safetyConfig
  | 0x180 => (.ok, s.instReqWrite (bits v 0 8))
  | 0x40C => s.tripClr (bits v 24 8)
  | 0x510 => if bits v 28 4 = 1 then s.btStart else if bits v 28 4 = 2 then (.ok, s.btAbort) else s.deny .invalid
  | _ => s.plain p v

def Dev.writePair (s : Dev) (p : RegAt) (v : Nat) : Acted :=
  match p.reg.off with
  | 0x0 => s.plainIf (decide (bits v 0 16 ≠ 0)) p v
  | 0x4 => s.plainIf (decide (bits v 28 4 ≠ 0) && decide (bits v 16 8 ≠ 0)) p v
  | 0x8 => s.plainIf (decide (bits v 16 16 ≠ 0)) p v
  | 0xC => s.plainIf (decide (bits v 24 8 ≠ 0)) p v
  | 0x10 => s.pairCommand (bits v 28 4)
  | _ => s.plain p v

def Dev.writeDebug (s : Dev) (p : RegAt) (v : Nat) : Acted :=
  match p.reg.off with
  | 0x0 => s.dbgCmd (bits v 28 4) (bits v 0 16)
  | _ => s.plain p v

/-- A permitted write of the whole of a register. -/
def Dev.writeWhole (s : Dev) (w : Writer) (p : RegAt) (v : Nat) : Acted :=
  match p.reg.copy with
  | .set => s.writeSet p v
  | .param => s.writeParam p v
  | _ => match p.reg.blk with
    | .global => s.writeGlobal p v
    | .tollgate => s.plain p v
    | .hostq => s.writeHostq p v
    | .secure => s.writeSecure p v
    | .time => s.writeTime p v
    | .eth => s.writeEth p v
    | .trunk => s.writeLane p v
    | .leaf => s.writeLane p v
    | .loom => s.writeLoom p v
    | .spindle => s.writeSpindle w p v
    | .gate => s.writeGate p v
    | .adc => s.writeAdc p v
    | .angle => s.writeAngle p v
    | .reel => s.writeReel p v
    | .can => s.writeCan p v
    | .safety => s.writeSafety p v
    | .pair => s.writePair p v
    | .debug => s.writeDebug p v

/-- A register whose write performs an action (R7, R401). -/
def Reg.isWo (R : Reg) : Bool := R.flds.any fun x => decide (x.acc = .wo)

/-- The word of the fields that a write of another word leaves as they are (R7): W1C bits are written as 0. -/
def Dev.keepWord (s : Dev) (p : RegAt) : Nat :=
  (p.reg.flds.filter fun x => decide (x.acc = .rw)).foldl (fun w x => w + s.fb x (s.viewBank p.reg) p.i p.j * 2 ^ x.lo) 0

/-- A permitted write: of a 32-bit register, the whole of a 64-bit one, or one of its words (R7). -/
def Dev.writeReg (s : Dev) (w : Writer) (p : RegAt) (v : Nat) (whole : Bool) : Acted :=
  if whole ∨ ¬ p.reg.wide then s.writeWhole w p v
  else if p.reg.isWo then s.deny .invalid
  else s.writeWhole w p (putBits (s.keepWord p) (if p.up then 32 else 0) 32 v)

end Sys2Proof.Machine
end

