-- ==== Sys2Proof/Machine/Access.lean ====
section
/-! DEFINITION. An access to register space (R7 to R9, R56, R57, R386, R391, R400 to R402, R412, R438, R441): the order of its checks, its
effect, its status and data, and the epoch that its completion carries. -/

namespace Sys2Proof.Machine

/-- The status of a block towards an access at an offset: INVALID where the block or the place is absent, off or gated off (R8, R16, R438),
RETIRED while the block is reset (R57), BUSY while it powers up (R438) or the MANAGER is in RECOVERY (R412). -/
def Dev.blockStatus (s : Dev) (b : Blk) (o : Nat) : Status :=
  let isl := match placeOf b o with | some p => islandOf p | none => none
  let off := isl.any fun k => (islands s.role).contains k && s.gated k
  if s.glob.por ∨ s.gate.dormant ∨ (s.role = .none ∧ b ≠ .global) ∨ ¬ blkOn s.role b ∨ ¬ s.present b o ∨ s.blkGated b ∨ off then .invalid
  else if s.glob.blkRst.contains b.num then .retired
  else if isl.any s.glob.ramp.contains then .busy
  else if s.flag F.SECURE_STAT_RECOVERY ∧ ¬ [Blk.global, .secure, .tollgate, .hostq].contains b then .busy
  else .ok

/-- The checks of an access of `n` bytes at `o` in target `t`, whose block is `b`: none where it is permitted. `stale`: the epoch that it
names is not current. -/
def Dev.accessCheck (s : Dev) (m : Nat) (b : Blk) (t o n acc : Nat) (stale : Bool) : Option Acted :=
  let st := s.blockStatus b (if t < 18 then o else 0)
  if st = .retired then some (.retired, (s.inc (retireFld b) 1).inc F.GLOBAL_BLK_STAT_RETIRED 1)
  else if st ≠ .ok then some (st, s)
  else if stale then some (.staleEpoch, s)
  else match s.tgCheck m t acc o n (decide (m = mDebug) && decide (s.lc = lcSealed)) with
  | some s => some (.denied, s)
  | none => none

/-- An access to register space: the master, the offset, 4 or 8 bytes, the data of a write, the epoch named, and the descriptor that makes
it, if any. -/
structure Access where
  m    : Nat
  off  : Nat
  n    : Nat
  wr   : Option Nat
  ep   : Option Nat
  desc : Option (Nat × Nat)
deriving DecidableEq, Repr

/-- The access names an epoch other than the current one; offset 0xFFF0 is exempt (R57, R391). -/
def Access.stale (a : Access) (s : Dev) (b : Blk) : Bool :=
  match a.ep with
  | some e => decide (e ≠ s.epoch b) && decide (a.off % 0x10000 ≠ 0xFFF0)
  | none => false

/-- The permission that an access needs (R401): a write of a register with a WO field is an action. -/
def accOf (p : Option RegAt) (wr : Bool) : Nat := if ¬ wr then 1 else if p.any fun x => x.reg.isWo then 3 else 2

/-- What a permitted access of one register, or one word, does: `n` bytes at offset `o` of block `b` with data `v`. -/
def Dev.effect (s : Dev) (m : Nat) (desc : Option (Nat × Nat)) (b : Blk) (o n : Nat) (v : Option Nat) : Status × Nat × Dev :=
  match (placeOf b o).filter s.shown, v with
  | none, _ => (.ok, 0, s)
  | some p, none => s.readReg m p (decide (n = 8))
  | some p, some v =>
    let r := s.writeReg { m := m, desc := desc } p v (decide (n = 8))
    (r.1, 0, r.2)

/-- One register, or one word, of an access. -/
def Dev.accessOne (s : Dev) (a : Access) (b : Blk) (o n : Nat) (v : Option Nat) : Status × Nat × Dev :=
  match s.accessCheck a.m b b.num o n (accOf (placeOf b o) v.isSome) (a.stale s b) with
  | some r => (r.1, 0, r.2)
  | none => s.effect a.m a.desc b o n v

/-- An access of `n` bytes as one register or as two words, the lower first (R7): `one` does either. -/
def asWords (s : Dev) (b : Blk) (o n : Nat) (v : Option Nat) (one : Dev → Nat → Nat → Option Nat → Status × Nat × Dev) : Status × Nat × Dev :=
  if n = 4 ∨ (placeOf b o).any fun p => p.reg.wide && !p.up then one s o n (v.map (· % 2 ^ (8 * n)))
  else
    let r := one s o 4 (v.map (· % 2 ^ 32))
    let q := one r.2.2 (o + 4) 4 (v.map (· / 2 ^ 32 % 2 ^ 32))
    (if r.1 = .ok then q.1 else r.1, r.2.1 + q.2.1 * 2 ^ 32, q.2.2)

/-- An access to register space (R7, R8, R57, R402): status, data and the device after it. -/
def Dev.access (s : Dev) (a : Access) : Status × Nat × Dev :=
  if (a.n ≠ 4 ∧ a.n ≠ 8) ∨ a.off % a.n ≠ 0 ∨ 0x120000 ≤ a.off then (.invalid, 0, s)
  else match Blk.ofNum (a.off / 0x10000) with
  | none => (.invalid, 0, s)
  | some b => asWords s b (a.off % 0x10000) a.n a.wr fun s o n v => s.accessOne a b o n v

/-- The epoch that a completion carries (R57): the block's current one, or the one named where no block answers. -/
def Dev.answerEpoch (s : Dev) (off named : Nat) : Nat :=
  match Blk.ofNum (off / 0x10000) with
  | some b => if s.hasEpoch b then s.epoch b else named
  | none => named

/-- The outcome of a direct access by a function (R386); other masters see the status. -/
def Dev.direct (m bar off : Nat) (wr : Bool) (a : Acted) : Acted :=
  (a.1, a.2.iff (decide (a.1 ≠ .ok) && decide (m ≤ 4) && decide (a.2.role = .manager)) fun s => s.mmioError a.1 m bar off wr)

/-- A direct BAR write that was applied is kept for its CORE cycle (R392). -/
def Dev.noteDirect (s : Dev) (m off n v : Nat) : Dev :=
  if m ≤ 4 ∧ s.role = .manager then { s with hostq := { s.hostq with direct := some ⟨s.coreCycle, off, n, v⟩ } } else s

/-- REGISTER_WRITE: a write of register space by a master, which names the current epoch (R386). -/
def Dev.registerWrite (s : Dev) (m off n v : Nat) : Acted :=
  let r := s.access { m := m, off := off, n := n, wr := some v, ep := none, desc := none }
  Dev.direct m 0 off true (r.1, r.2.2.iff (decide (r.1 = .ok)) fun s => s.noteDirect m off n v)

/-- After a `REG_WR` of a register that a direct write reached in the same CORE cycle the direct write's data stand (R392). -/
def Dev.directLast (s : Dev) (off n : Nat) : Dev :=
  match s.hostq.direct, Blk.ofNum (off / 0x10000) with
  | some d, some b =>
    if d.cyc = s.coreCycle ∧ d.off = off ∧ d.n = n ∧ accOf (placeOf b (off % 0x10000)) true = 2 then
      (asWords s b (off % 0x10000) n (some d.v) fun s o n v => s.effect 0 none b o n v).2.2
    else s
  | _, _ => s

/-- A write of a register with a row of its own by a master, under the checks of every access (R8, R402): `g` where it is permitted. -/
def Dev.writeRow (s : Dev) (m : Nat) (b : Blk) (o n : Nat) (g : Dev → Acted) : Acted :=
  (s.accessCheck m b b.num o n (accOf (placeOf b o) true) false).getD (g s)

/-- A read of such a register by a master: the whole of it. -/
def Dev.readRow (s : Dev) (m : Nat) (b : Blk) (o : Nat) : Dev :=
  match placeOf b o with
  | none => s.complete .invalid
  | some p =>
    match s.accessCheck m b b.num o (if p.reg.wide then 8 else 4) 1 false with
    | some a => a.dev
    | none =>
      let r := s.readReg m p true
      r.2.2.complete r.1 r.2.1

/-- A doorbell written by a function: a value refused is logged (R388), and a doorbell needs X (R401). -/
def Dev.doorbell (s : Dev) (cq : Bool) (fn r v : Nat) : Acted :=
  if s.role ≠ .manager ∨ 64 ≤ r then s.deny .invalid
  else
    let o := 0x8000 + 8 * r + (if cq then 4 else 0)
    Dev.direct fn 0 (0x20000 + o) true (s.writeRow fn .hostq o 4 fun s => if cq then s.cqDoorbell r v else s.sqDoorbell r v)

/-- DBG_ACCESS: one register access of the debug port at Update-DR (R443). -/
def Dev.dbgAccess (s : Dev) (op ep addr data : Nat) : Dev :=
  if ¬ s.tapOn then s
  else if s.lc = lcSealed then s.tapBypass 0x20
  else
    let s := s.tapIr 0x20
    let r := if op = 0 ∨ 4 < op then (.invalid, 0, s)
      else s.access { m := mDebug, off := addr, n := if op ≤ 2 then 4 else 8, wr := if op % 2 = 0 then some data else none, ep := some ep, desc := none }
    ({ r.2.2 with dbg := { r.2.2.dbg with acc := some (r.1, r.2.1) } }).complete r.1 r.2.1

end Sys2Proof.Machine
end

