-- ==== Sys2Proof/Machine/Bar.lean ====
section
/-! DEFINITION. The memory windows of the host (R66, R68, R71, R72, R81, R82, R366, R385, R390): Loom memory behind BAR2, Reel memory
behind BAR4, and the copying of extents into and out of the three BARs. -/

namespace Sys2Proof.Machine

/-- The identity of a PCIe function (R2, R384). -/
structure PcieId where
  vendor   : Nat
  device   : Nat
  revision : Nat
  cls      : Nat
  vectors  : Nat
deriving DecidableEq, Repr

/-- The endpoint of the MANAGER: function 0 is the PF, 1 to 4 the VFs; other roles do not enumerate (R16, R20, R384). -/
def Dev.pcieId (s : Dev) (fn : Nat) : Option PcieId :=
  if s.role = .manager ∧ ¬ s.glob.por ∧ fn ≤ 4 then
    some { vendor := 0x1F9A, device := if fn = 0 then 0x6144 else 0x6145, revision := s.f F.GLOBAL_STEP_STEP, cls := 0x118000,
           vectors := if fn = 0 then 64 else 16 }
  else none

/-- The first status that is not OK. -/
def Status.andThen (a b : Status) : Status := if a = .ok then b else a

/-! ## Loom memory (R72) -/

/-- Where Loom memory begins to be absent, and where its parts begin. -/
def bar2End : Nat := 0x680000
def bar2Ram : Nat := 0x200000
def bar2Coef : Nat := 0x600000

/-- Set-held Loom memory. -/
def bar2Set (off : Nat) : Bool := decide (off < bar2Ram) || decide (bar2Coef ≤ off)

/-- The window admits an access of `n` bytes: 4 or 8, aligned, 8 in the program store. -/
def bar2Form (off n : Nat) : Bool :=
  (decide (n = 4) || decide (n = 8)) && decide (off % n = 0) && decide (off + n ≤ bar2End) && (decide (n = 8) || decide (bar2Ram ≤ off))

/-- A shuttle or the ingress writes a word in this CORE cycle. -/
def Dev.ramTaken (s : Dev) (a : Nat) : Bool := (s.sameCycle a s.now).isSome || s.shuttleAt a s.now || (isIngress a && s.ingressAt a s.now)

/-- The host writes a word of data RAM (R66, R68, R71): an egress word goes on to its port. -/
def Dev.hostRam (s : Dev) (a v : Nat) : Acted :=
  if s.ramTaken a then s.deny .busy
  else
    let s := s.ramWrite a v s.now 17 0
    (.ok, s.iff (isEgress a) fun s => s.egress s.actSet none (a - 0x800) v)

/-- A word of a store of the shadow set is written; it heals (R82). -/
def Dev.storeProg (s : Dev) (set k v : Nat) : Dev :=
  let l := s.loom
  let l := if set = 0 then { l with prog0 := Mem.store l.prog0 (8 * k) 8 v } else { l with prog1 := Mem.store l.prog1 (8 * k) 8 v }
  { s with loom := { l with ecc := Tab.erase l.ecc (eccProg set k) } }

def Dev.storeCoef (s : Dev) (set k v : Nat) : Dev :=
  let l := s.loom
  let l := if set = 0 then { l with coef0 := Mem.store l.coef0 (4 * k) 4 v } else { l with coef1 := Mem.store l.coef1 (4 * k) 4 v }
  { s with loom := { l with ecc := Tab.erase l.ecc (eccCoef set (k / 2 ^ 13) (k % 2 ^ 13)) } }

/-- A permitted write of Loom memory (R52, R72). -/
def Dev.bar2Put (s : Dev) (off n v : Nat) : Acted :=
  let set := 1 - s.actSet
  if ¬ bar2Form off n then s.deny .invalid
  else if bar2Set off ∧ s.flag F.LOOM_CTL_VIEW then s.deny .invalid
  else if bar2Set off ∧ s.glob.swap.isSome then s.deny .busy
  else if off < bar2Ram then (.ok, s.storeProg set (off / 8) v)
  else if bar2Coef ≤ off then
    let s := s.storeCoef set ((off - bar2Coef) / 4) (v % 2 ^ 32)
    (.ok, s.iff (decide (n = 8)) fun s => s.storeCoef set ((off - bar2Coef) / 4 + 1) (v / 2 ^ 32))
  else
    let a := (off - bar2Ram) / 4
    let r := s.hostRam a (v % 2 ^ 32)
    if n = 4 then r
    else
      let q := r.2.hostRam (a + 1) (v / 2 ^ 32 % 2 ^ 32)
      (if r.1 = .ok then q.1 else r.1, q.2)

/-- A word of the data RAM as the host reads it: before a write of the same CORE cycle by Loom (R71). The host's own accesses come one
after the other (log entry 148). -/
def Dev.ramSeen (s : Dev) (a : Nat) : Nat := readBefore (s.ramWord a) a s.now (s.loom.recent.filter fun m => decide (m.port ≠ 17))

/-- A word of the stores or of the data RAM is read: ECC where it cannot be corrected (R81, R82). -/
def Dev.eccWord (s : Dev) (key v : Nat) : Status × Nat × Dev :=
  let r := s.eccRead key 1
  if r.2 then (.ok, v, r.1) else (.ecc, 0, r.1)

/-- A word of data RAM or of a coefficient store is read. -/
def Dev.bar2Word (s : Dev) (set off : Nat) : Status × Nat × Dev :=
  let k := (off - bar2Coef) / 4
  if off < bar2Coef then s.eccWord (eccData ((off - bar2Ram) / 4)) (s.ramSeen ((off - bar2Ram) / 4))
  else s.eccWord (eccCoef set (k / 2 ^ 13) (k % 2 ^ 13)) (s.coefWord set (k / 2 ^ 13) (k % 2 ^ 13))

/-- A read of Loom memory (R72). -/
def Dev.bar2Get (s : Dev) (off n : Nat) : Status × Nat × Dev :=
  let set := if s.flag F.LOOM_CTL_VIEW then s.actSet else 1 - s.actSet
  if ¬ bar2Form off n then (.invalid, 0, s)
  else if off < bar2Ram then s.eccWord (eccProg set (off / 8)) (s.progWord set (off / 8))
  else
    let r := s.bar2Word set off
    if n = 4 then r
    else
      let q := r.2.2.bar2Word set (off + 4)
      (r.1.andThen q.1, r.2.1 + q.2.1 * 2 ^ 32, q.2.2)

/-- The permission that a write of Loom memory needs (R401). -/
def bar2Acc (off : Nat) : Nat := if off < bar2Ram then 3 else 2

/-- BAR2_WRITE: a function writes Loom memory through its BAR2 (R72, R386, R400). -/
def Dev.bar2Write (s : Dev) (fn off n v : Nat) : Acted :=
  Dev.direct fn 1 off true (
    if s.role ≠ .manager ∨ ¬ bar2Form off n ∨ (bar2Set off ∧ s.flag F.LOOM_CTL_VIEW) then s.deny .invalid
    else match s.accessCheck fn .loom 18 off n (bar2Acc off) false with
    | some a => a
    | none => s.bar2Put off n v)

/-! ## Reel memory (R366) -/

/-- A word of Reel memory is read. -/
def Dev.bar4Word (s : Dev) (off : Nat) : Status × Nat × Dev :=
  let v := Mem.load s.reel.ram off 4
  match Tab.find s.reel.ecc (off / 8) with
  | none => (.ok, v, s)
  | some e =>
    if e = 1 then (.ok, v, ({ s with reel := { s.reel with ecc := Tab.erase s.reel.ecc (off / 8) } }).inc F.REEL_ECC_STAT_CE_CNT 1)
    else
      let s := s.iff (decide (s.f F.REEL_ECC_STAT_UE_CNT = 0)) fun s => s.put F.REEL_ECC_STAT_ADDR (off / 8)
      (.ecc, 0, s.inc F.REEL_ECC_STAT_UE_CNT 1)

/-! ## Extents (R390) -/

/-- The parts of an extent of `len` bytes at `off`: eight bytes where they are aligned, else four (log entry 47). -/
def extentParts : Nat → Nat → Nat → List (Nat × Nat)
  | 0, _, _ => []
  | k + 1, off, len =>
    if len < 4 then []
    else if off % 8 = 0 ∧ 8 ≤ len then (off, 8) :: extentParts k (off + 8) (len - 8)
    else (off, 4) :: extentParts k (off + 4) (len - 4)

def parts (off len : Nat) : List (Nat × Nat) := extentParts (len / 4) off len

/-- Bytes go into an extent of BAR0 or BAR2; what has been written stays written. -/
def Dev.copyInto (s : Dev) (m bar off : Nat) (data : List Byte) : Acted :=
  (parts off data.length).foldl (fun (a : Acted) p =>
    let v := field data (p.1 - off) p.2
    if bar = 2 then
      let r := a.2.bar2Put p.1 p.2 v
      (a.1.andThen r.1, r.2)
    else match Blk.ofNum (p.1 / 0x10000) with
      | none => (a.1.andThen .invalid, a.2)
      | some b =>
        let r := asWords a.2 b (p.1 % 0x10000) p.2 (some v) fun s o n v => s.effect m none b o n v
        (a.1.andThen r.1, r.2.2)) (.ok, s)

/-- Bytes come from an extent of a BAR: status, bytes and the device after the reads. -/
def Dev.copyFrom (s : Dev) (m bar off len : Nat) : Status × List Byte × Dev :=
  (parts off len).foldl (fun (a : Status × List Byte × Dev) p =>
    let r : Status × Nat × Dev :=
      if bar = 0 then
        match Blk.ofNum (p.1 / 0x10000) with
        | none => (.invalid, 0, a.2.2)
        | some b => asWords a.2.2 b (p.1 % 0x10000) p.2 none fun s o n v => s.effect m none b o n v
      else if bar = 2 then a.2.2.bar2Get p.1 p.2
      else
        let r := a.2.2.bar4Word p.1
        if p.2 = 4 then r
        else
          let q := r.2.2.bar4Word (p.1 + 4)
          (r.1.andThen q.1, r.2.1 + q.2.1 * 2 ^ 32, q.2.2)
    (a.1.andThen r.1, a.2.1 ++ bytesOf p.2 r.2.1, r.2.2)) (.ok, [], s)

/-- The permissions that writing an extent needs (R401): of BAR0 by its registers, of BAR2 by its parts. -/
def extentAcc (bar off len : Nat) : List Nat :=
  let wo := if bar = 2 then decide (off < bar2Ram) else
    match Blk.ofNum (off / 0x10000) with
    | some b => (parts (off % 0x10000) len).any fun p => (placeOf b p.1).any (fun x => x.reg.isWo) || (decide (p.2 = 8) && (placeOf b (p.1 + 4)).any fun x => x.reg.isWo)
    | none => false
  let plain := if bar = 2 then decide (bar2Ram < off + len) else true
  (if plain then [2] else []) ++ (if wo then [3] else [])

end Sys2Proof.Machine
end

