-- ==== Sys2Proof/Machine/Host.lean ====
section
/-! DEFINITION. What descriptors do (16_host_tollgate, R389 to R396; R416; R424, R425): a descriptor at its turn is judged once, over its
whole extent, and then acts. -/

namespace Sys2Proof.Machine

/-- A descriptor at its turn: the ring is on, and the next to start holds the operation. -/
def Dev.turn (s : Dev) (r op : Nat) : Option Desc := if s.sqOn r ∧ r < 64 then s.nextDesc r op else none

/-- The master of a ring (R387). -/
def Dev.sqMaster (s : Dev) (r : Nat) : Nat := s.f F.HOSTQ_SQ_CFG_FUNC r

/-- A descriptor completes with the epoch of what it names. -/
def Dev.endDesc (s : Dev) (r : Nat) (d : Desc) (st : Status) (payload : List Byte) : Dev := s.finish r d st (s.descEpoch r d) payload

/-- A descriptor starts and stays in progress. -/
def Dev.startDesc (s : Dev) (r : Nat) (d : Desc) : Dev := s.setDesc r { d with started := true }

/-- The judgement of a descriptor (R390, R402): its own checks, then those of R402 in target `t` of block `b`; `g` is what it does. -/
def Dev.judge (s : Dev) (r : Nat) (d : Desc) (form : Bool) (b : Blk) (t o n : Nat) (accs : List Nat) (stale : Bool) (g : Dev → Dev) : Dev :=
  if ¬ form then s.endDesc r d .invalid []
  else match (accs.filterMap fun acc => s.accessCheck (s.sqMaster r) b t o n acc stale).head? with
  | some a => a.2.endDesc r d a.1 []
  | none => g s

/-- The descriptor names an epoch other than a block's. -/
def Desc.stale (d : Desc) (s : Dev) (b : Blk) : Bool := decide (d.epoch ≠ s.epoch b)

/-- HOSTQ_NOP. -/
def Dev.descNop (s : Dev) (r : Nat) : Dev :=
  match s.turn r 0 with
  | none => s
  | some d => s.endDesc r d (if d.zeroBut [] then .ok else .invalid) []

/-- REG_RD and REG_WR: an access by the ring's function; a CELL_CMD write of R162 completes when its commands have been placed. -/
def Dev.descReg (s : Dev) (r : Nat) (wr : Bool) : Dev :=
  match s.turn r (if wr then 2 else 1) with
  | none => s
  | some d =>
    let off := field d.bytes 8 4
    let n := field d.bytes 12 1
    if ¬ d.zeroBut ([(8, 4), (12, 1)] ++ if wr then [(16, 8)] else []) then s.endDesc r d .invalid []
    else
      let a := (s.startDesc r d).access { m := s.sqMaster r, off := off, n := n, wr := if wr then some (field d.bytes 16 8) else none,
                                          ep := some d.epoch, desc := some (r, d.idx) }
      let t := a.2.2.iff (wr && decide (a.1 = .ok)) fun t => t.directLast off n
      if a.1 = .ok ∧ t.spin.reqs.any (fun q => decide (q.desc = some (r, d.idx))) then t
      else t.finish r d a.1 (t.answerEpoch off d.epoch) (if wr then [] else bytesOf 8 a.2.1)

/-- The form of COPY_IN and COPY_OUT (R390): BAR, alignment, length, the extent inside the BAR. -/
def Desc.copyOk (d : Desc) (out : Bool) : Bool :=
  let bar := field d.bytes 20 1
  let off := field d.bytes 16 4
  let len := field d.bytes 24 4
  d.zeroBut [(8, 13), (24, 4)] && decide (len % 4 = 0) && decide (4 ≤ len) && decide (len ≤ 1048576) && decide (off % 4 = 0) &&
  ((decide (bar = 0) && decide (off + len ≤ 0x120000)) ||
   (decide (bar = 2) && decide (off + len ≤ bar2End) && (out || decide (bar2Ram ≤ off) || (decide (off % 8 = 0) && decide ((min (off + len) bar2Ram) % 8 = 0)))) ||
   (out && decide (bar = 4) && decide (off + len ≤ 2 ^ 28)))

/-- Block, target and offset of the extent of a copy. -/
def Desc.copyAt (d : Desc) : Blk × Nat × Nat :=
  let off := field d.bytes 16 4
  if field d.bytes 20 1 = 2 then (.loom, 18, off)
  else if field d.bytes 20 1 = 4 then (.reel, 19, off)
  else
    let b := (Blk.ofNum (off / 0x10000)).getD .global
    (b, b.num, off % 0x10000)

/-- A write into set-held Loom memory that shows the active set is INVALID before any table (R72, R402). -/
def Dev.copyShown (s : Dev) (d : Desc) : Bool :=
  let off := field d.bytes 16 4
  decide (field d.bytes 20 1 ≠ 2) || !s.flag F.LOOM_CTL_VIEW || (decide (bar2Ram ≤ off) && decide (off + field d.bytes 24 4 ≤ bar2Coef))

/-- COPY_IN: `data` is what the host memory held; `bad` the status of a read that ended without the rest (R396). -/
def Dev.descCopyIn (s : Dev) (r : Nat) (data : List Byte) (bad : Option Status) : Dev :=
  match s.turn r 3 with
  | none => s
  | some d =>
    let p := d.copyAt
    let len := field d.bytes 24 4
    let bar := field d.bytes 20 1
    s.judge r d (d.copyOk false && s.copyShown d) p.1 p.2.1 p.2.2 len (extentAcc bar (field d.bytes 16 4) len) (d.stale s p.1) fun s =>
      let l := match bad with | none => slice data 0 len | some _ => (data.take len).take (data.length / 4 * 4)
      let a := s.copyInto (s.sqMaster r) bar (field d.bytes 16 4) l
      a.2.endDesc r d (match bad with | none => a.1 | some st => st) []

/-- COPY_OUT. -/
def Dev.descCopyOut (s : Dev) (r : Nat) : Dev :=
  match s.turn r 4 with
  | none => s
  | some d =>
    let p := d.copyAt
    let len := field d.bytes 24 4
    s.judge r d (d.copyOk true) p.1 p.2.1 p.2.2 len [1] (d.stale s p.1) fun s =>
      let a := s.copyFrom (s.sqMaster r) (field d.bytes 20 1) (field d.bytes 16 4) len
      (a.2.2.emit (.hostWrite (s.sqMaster r) (field d.bytes 8 8) a.2.1)).endDesc r d a.1 []

/-- REMOTE (R222 to R224, R390): an action on the lane group; the request then waits for its reply. -/
def Dev.descRemote (s : Dev) (r : Nat) : Dev :=
  match s.turn r 5 with
  | none => s
  | some d =>
    let op := field d.bytes 8 1
    let dest := field d.bytes 9 1
    let port := field d.bytes 10 1
    let lane := field d.bytes 11 1
    let b := if lane = 63 then Blk.leaf else .trunk
    let form := d.zeroBut [(8, 16)] && decide (1 ≤ op) && decide (op ≤ 4) && decide (dest ≤ 1) && decide (port ≤ 127) &&
      (decide (lane = 63) || (decide (lane < 48) && decide (s.laneMode lane = mPrimary)))
    s.judge r d form b b.num (0x40 * (if lane = 63 then port else lane)) 0x40 [3] false fun s =>
      (s.startDesc r d).rrSubmit { lane := lane, dest := dest, port := port, op := op, epoch := d.epoch, addr := field d.bytes 12 4,
                                   data := field d.bytes 16 8, desc := some (r, d.idx), cell := 0, sent := none }

/-- CFG_SWAP (R52): the descriptor completes when the swap does. -/
def Dev.descSwap (s : Dev) (r : Nat) : Dev :=
  match s.turn r 6 with
  | none => s
  | some d =>
    s.judge r d (d.zeroBut [(8, 8)]) .global 0 0x120 8 [3] (d.stale s .global) fun s =>
      let a := (s.startDesc r d).swapRequest (field d.bytes 8 8) (some (r, d.idx))
      if a.1 = .ok then a.2 else a.2.endDesc r d a.1 []

/-- ETH_TX (R355, R360, R361): `data` is the frame as read from host memory. -/
def Dev.descEthTx (s : Dev) (r : Nat) (data : List Byte) (bad : Option Status) : Dev :=
  match s.turn r 7 with
  | none => s
  | some d =>
    let pq := field d.bytes 18 1
    let fl := field d.bytes 19 1
    let p := pq % 4
    s.judge r d (d.zeroBut [(8, 16)] && decide (bits pq 2 2 = 0) && decide (bits pq 6 2 = 0) && decide (fl < 4)) .eth 5 (0x40 * p) 0x40 [3]
      (decide (d.epoch ≠ s.f F.ETH_PORT_STAT_EPOCH p)) fun s =>
      match bad with
      | some st => s.endDesc r d st []
      | none =>
        (s.startDesc r d).ethSend p (bits pq 4 2)
          { bytes := slice data 0 (field d.bytes 16 2), launch := if bitOf fl 1 then some (field d.bytes 20 4) else none, held := false,
            stamp := if bitOf fl 0 then some d.tag else none, desc := some (r, d.idx), ingress := none }

/-- RX_BUF (R387): the buffer waits for a frame of its ring's source. -/
def Dev.descRxBuf (s : Dev) (r : Nat) : Dev :=
  match s.turn r 8 with
  | none => s
  | some d =>
    let k := s.f F.HOSTQ_SQ_CFG_KIND r
    let len := field d.bytes 16 2
    let b := if k < 5 then Blk.eth else .can
    let ep := if k < 5 then s.f F.ETH_PORT_STAT_EPOCH (k - 1) else s.f F.CAN_STAT_EPOCH (k - 5)
    s.judge r d (d.zeroBut [(8, 10)] && decide (64 ≤ len) && decide (len ≤ 16384)) b b.num (0x40 * (if k < 5 then k - 1 else k - 5)) 0x40 [1]
      (decide (d.epoch ≠ ep)) fun s => s.startDesc r d

/-- CAN_TX (R424). -/
def Dev.descCanTx (s : Dev) (r : Nat) (data : List Byte) (bad : Option Status) : Dev :=
  match s.turn r 9 with
  | none => s
  | some d =>
    let id := field d.bytes 8 4
    let ctl := field d.bytes 12 1
    let c := field d.bytes 13 1
    let n := canLen id (ctl % 16)
    s.judge r d (d.zeroBut [(8, 6), (16, 8)] && decide (ctl < 32) && decide (c < 2) && !(idRtr id && idFdf id)) .can 14 (0x40 * c) 0x40 [3]
      (d.stale s .can) fun s =>
      match bad with
      | some st => if n = 0 then s else s.endDesc r d st []
      | none =>
        let a := (s.startDesc r d).canQueue c { frame := { id := id, dlc := ctl % 16, brs := bitOf ctl 4, data := slice data 0 n },
                                                desc := some (r, d.idx, d.tag), last := false }
        if a.1 = .ok then a.2 else a.2.endDesc r d a.1 []

/-- CAN_CANCEL (R425): `late` tells that the frame was at or after the sample point of the last bit of its arbitration field. -/
def Dev.descCanCancel (s : Dev) (r : Nat) (late : Bool) : Dev :=
  match s.turn r 10 with
  | none => s
  | some d =>
    let c := field d.bytes 13 1
    let q := field d.bytes 10 1
    s.judge r d (d.zeroBut [(8, 3), (13, 1)] && decide (c < 2) && decide (q < 64)) .can 14 (0x40 * c) 0x40 [3] (d.stale s .can) fun s =>
      let a := s.canCancel c (fun x => match x.desc with | some (r', _, t) => decide (r' = q) && decide (t = field d.bytes 8 2) | none => false) late
      a.2.endDesc r d a.1 []

/-- A SECURE descriptor of a SUBOP (R416): `g` is told the length of the buffer. -/
def Dev.descSecure (s : Dev) (r sub : Nat) (g : Dev → Desc → Nat → Dev) : Dev :=
  match s.turn r 11 with
  | none => s
  | some d =>
    let k := field d.bytes 8 1
    let form := d.zeroBut [(8, 1), (16, 12), (32, 32)] && decide (1 ≤ k) && decide (k ≤ 4)
    if form ∧ k ≠ sub then s
    else s.judge r d form .secure 3 0x10 4 [3] (d.stale s .secure) fun s =>
      if ¬ s.flag F.SECURE_STAT_ID_READY then s.endDesc r d .busy [] else g s d (field d.bytes 24 4)

/-- QUOTE_DESC: the descriptor completes when the engine has signed. -/
def Dev.descQuote (s : Dev) (r : Nat) : Dev :=
  s.descSecure r 1 fun s d len =>
    if len < 376 then s.endDesc r d .invalid []
    else
      let a := (s.startDesc r d).quoteReq (some (r, d.idx)) (slice d.bytes 32 32)
      if a.1 = .ok then a.2 else a.2.endDesc r d a.1 []

/-- CERT: refused in RETURNED (R420); a buffer too short for it completes with INVALID. -/
def Dev.descCert (s : Dev) (r : Nat) : Dev :=
  s.descSecure r 2 fun s d len =>
    if s.lc = lcReturned then s.endDesc r d .denied []
    else if len < Config.cert.length then s.endDesc r d .invalid []
    else (s.emit (.hostWrite (s.sqMaster r) (field d.bytes 16 8) Config.cert)).endDesc r d .ok (bytesOf 4 Config.cert.length)

/-- COMMAND: a record of 164 bytes is read and executed (R410). -/
def Dev.descCommand (s : Dev) (r : Nat) (data : List Byte) (bad : Option Status) : Dev :=
  s.descSecure r 3 fun s d len =>
    if len < 164 then s.endDesc r d .invalid []
    else match bad with
    | some st => s.endDesc r d st []
    | none =>
      let a := s.secRecord (slice data 0 164)
      a.2.endDesc r d a.1 (bytesOf 4 164)

/-- A command of a given code comes in the COMMAND descriptor of a ring. -/
def Dev.descCommandIs (s : Dev) (r code : Nat) (data : List Byte) : Dev :=
  if field data 0 1 = code then s.descCommand r data none else s

/-- FW_LOAD: an image is read (R412). -/
def Dev.descFwLoad (s : Dev) (r : Nat) (data : List Byte) (bad : Option Status) : Dev :=
  s.descSecure r 4 fun s d len =>
    if ¬ s.flag F.SECURE_STAT_RECOVERY then s.endDesc r d .invalid []
    else match bad with
    | some st => s.endDesc r d st []
    | none =>
      let a := s.fwLoad (slice data 0 len)
      a.2.endDesc r d a.1 (bytesOf 4 len)

/-- HOST_READ_TIMEOUT (R396): a read of host memory ends with a status, TIMEOUT or INVALID, for a descriptor fetch or for the data of the
next descriptor; of a COPY_IN `data` had arrived. -/
def Dev.hostReadFail (s : Dev) (r : Nat) (fetch : Bool) (timeout : Bool) (data : List Byte) : Dev :=
  let st := if timeout then Status.timeout else .invalid
  if fetch then s.fetchFail r st
  else match readyDesc (s.sqOf r).act true with
  | none => s
  | some d =>
    match d.op with
    | 3 => s.descCopyIn r data (some st)
    | 7 => s.descEthTx r [] (some st)
    | 9 => s.descCanTx r [] (some st)
    | 11 => if field d.bytes 8 1 = 3 then s.descCommand r [] (some st) else if field d.bytes 8 1 = 4 then s.descFwLoad r [] (some st) else s
    | _ => s

end Sys2Proof.Machine
end

