-- ==== Sys2Proof/Machine/Remote.lean ====
section
/-! DEFINITION. Remote register access at its target (R222 to R224, R196): requests that a CONCENTRATOR or a CELL executes as master
SKEIN_UP, and requests and replies that pass through. -/

namespace Sys2Proof.Machine

/-- The packets of an /RR/ block of packets of `n` bytes (R222): none where the block is not well formed. -/
def rrPackets (n : Nat) (l : List Byte) : Option (List (List Byte)) :=
  let k := field l 0 1
  if 1 ≤ k ∧ k ≤ 4 ∧ field l 1 1 = 0 ∧ l.length = 2 + n * k then some ((List.range k).map fun i => slice l (2 + n * i) n) else none

/-- A request is executed: the reply packet and the device after it. `ns`: how long after it the reply may leave (R223). -/
def Dev.rrExecute (s : Dev) (L : Nat) (p : List Byte) (ns : Nat) : Dev :=
  let op := pktOp p
  let addr := fieldBE p 4 4
  let data := fieldBE p 8 8
  let far := s.farLoop L
  let r := if op = 0 ∨ 4 < op ∨ (64 ≤ L ∧ pktDest p = 0) then (.invalid, 0, s)
    else s.access { m := mSkein, off := addr, n := if op ≤ 2 then 4 else 8, wr := if op % 2 = 0 then some data else none, ep := some (pktEpoch p),
                    desc := none }
  let s := r.2.2.complete r.1 r.2.1
  if far then s else s.queueReply L (replyPacket p (s.answerEpoch addr (pktEpoch p)) r.1 r.2.1) (s.now + ns)

/-- RR_REQUEST: a block of requests arrives on a lane (R222, R223). -/
def Dev.rrRequest (s : Dev) (L : Nat) (l : List Byte) (ok : Bool) : Dev :=
  if ¬ (s.inRun L ∨ s.farLoop L) ∨ s.role = .manager ∨ (s.role = .concentrator ∧ 64 ≤ L) then s
  else match rrPackets 16 l, ok with
  | some ps, true =>
    s.each ps fun s p =>
      if s.role = .cell then s.rrExecute L p 32
      else if pktDest p = 0 then s.rrExecute L p 16
      else s.fwdRequest L p
  | _, _ => s.incBlkLn F.LANE_SF_ERR_RR_CRC L 1

/-- RR_REPLY: a block of replies arrives on a lane: at the MANAGER, or at a CONCENTRATOR from a cell. -/
def Dev.rrReply (s : Dev) (L : Nat) (l : List Byte) (ok : Bool) : Dev :=
  if ¬ s.inRun L then s
  else match rrPackets 12 l, ok with
  | some ps, true =>
    s.each ps fun s p =>
      match s.role with
      | .manager => s.rrReplied L p
      | .concentrator => if 64 ≤ L then s.fwdReply (L - 64) p else s
      | _ => s
  | _, _ => s.incBlkLn F.LANE_SF_ERR_RR_CRC L 1

end Sys2Proof.Machine
end

