-- ==== Sys2Proof/Machine/Telemetry.lean ====
section
/-! DEFINITION. What arrives at the ends of the lanes (08_skein_protocol): /SOF/ blocks with their beacons (R175, R202 to R205), and the
upstream blocks whose records the MANAGER takes into use (R42, R218 to R220, R304). -/

namespace Sys2Proof.Machine

/-- SOF_RECEIVE: 20 data bytes, /SOF/ and beacon, arrive on a lane (R202, R204): a downstream end in SYNC that has the delay enters RUN
(R175). -/
def Dev.sofReceive (s : Dev) (L : Nat) (d : List Byte) (intact : Bool) : Dev :=
  if ¬ s.hasLane L then s
  else if ¬ intact then s.iff (s.inRun L) fun s => s.incBlkLn F.LANE_SF_ERR_SOF_CRC L 1
  else
    let s := s.iff (decide (s.lState L = lSync) && !s.isUp L && (s.lane L).meas) fun s => s.enterRun L
    if ¬ s.inRun L then s
    else match s.role with
    | .manager => s.iff (s.isPair L) fun s => s.pairSof L d
    | .concentrator => s.iff (decide (L < 64)) fun s => s.sofTaken L d
    | .cell => s.sofTaken L d
    | .none => s

/-- The sample cycle of a record: the latest cycle up to the block's own whose low byte is SEQ (R218). -/
def sampleCycle (cyc seq : Nat) : Nat := cyc - (cyc + 256 - seq) % 256

/-- A record of the cell on a port comes into use (R218, R220). -/
def Dev.recordUse (s : Dev) (c port cyc : Nat) (r : List Byte) : Dev :=
  match s.cellAt s.actSet c port with
  | none => s
  | some g =>
    let b2 := field r 2 1
    let st := bits b2 5 3
    if st = 7 then s
    else
      let k := sampleCycle cyc (field r 5 1)
      let s := s.spReport g k (fieldBE r 0 2) st (bits b2 3 2)
      s.voteAdd k (bits (field r 8 1) 6 2) (fieldBE r 10 2) (field r 9 1)

/-- The status record of a CONCENTRATOR comes into use (R42, R219): the delay of a port, and the ports in RUN. -/
def Dev.statusUse (s : Dev) (c cyc : Nat) (r : List Byte) : Dev :=
  let b0 := field r 0 1
  let h := cyc % 2
  let map := fieldBE r 8 8
  let p := { s.proto with
    ldel := if bitOf b0 7 then Tab.put s.proto.ldel (c * 128 + b0 % 128) (fieldBE r 1 3 + 1) else s.proto.ldel
    run := (List.range 64).foldl (fun t i => Tab.set 0 t (c * 128 + 64 * h + i) (b2n (bitOf map i))) s.proto.run }
  { s with proto := p }

/-- The cycle number near the current one whose low 24 bits are `c` (R203). -/
def Dev.cyc24 (s : Dev) (c : Nat) : Nat := ((s.glob.nextCyc : Int) + sgn 24 (wrap 24 ((c : Int) - (s.glob.nextCyc : Int)))).toNat

/-- TELEMETRY_USE: an upstream block of a trunk lane or a direct leaf lane: /SOF/, the status record of a CONCENTRATOR, records. -/
def Dev.telemetryUse (s : Dev) (L : Nat) (d : List Byte) (ok : Bool) : Dev :=
  if s.role ≠ .manager ∨ ¬ s.inRun L ∨ s.isPair L then s
  else if ¬ ok then s.incBlkLn F.LANE_SF_ERR_TLM_CRC L 1
  else
    let cyc := s.cyc24 (fieldBE d 3 3)
    if 64 ≤ L then (s.recordUse 63 (L - 64) cyc (slice d 6 12)).idReads
    else
      let c := s.primaryOf s.actSet L
      let first := if s.laneMode L = mBonded then 64 else 0
      let s := s.statusUse c cyc (slice d 6 16)
      let s := s.each (List.range ((d.length - 22) / 12)) fun s k => s.recordUse c (first + k) cyc (slice d (22 + 12 * k) 12)
      s.dmaxUpdate.idReads

end Sys2Proof.Machine
end

