-- ==== Sys2Proof/Machine/Wiring.lean ====
section
/-! DEFINITION. Commands that concern more than one block: register writes and reads with a row of their own, answered as the block's state
says (R8, R57, R438); conversions, tracker updates and frames that Reel and GATE also see (R250, R367); the clock that a lane gives (R432). -/

namespace Sys2Proof.Machine

/-- A register with a row of its own is served while its block is there and in operation; a block in reset retires the access (R57). -/
def Dev.served (s : Dev) (b : Blk) (o : Nat) (g : Dev → Acted) : Acted :=
  match s.blockStatus b o with
  | .ok => g s
  | .retired => (.retired, (s.inc (retireFld b) 1).inc F.GLOBAL_BLK_STAT_RETIRED 1)
  | st => (st, s)

/-- An event of a block happens only where the block is powered (R8, R16, R438). -/
def Dev.whenOn (s : Dev) (b : Blk) (g : Dev → Dev) : Dev :=
  if s.role = .none ∨ ¬ blkOn s.role b ∨ s.blkGated b ∨ s.gate.dormant then s else g s

/-- The block and offset of a register of lane L, `o` into the lane's registers (R199). -/
def laneBlk (L : Nat) : Blk := if L < 64 then .trunk else .leaf
def laneReg (L o : Nat) : Nat := 64 * laneIdx L + o

/-- A write of one field of `LANE_CFG` (R199). -/
def Dev.laneField (s : Dev) (L lo w v : Nat) : Acted :=
  s.served (laneBlk L) (laneReg L 0) fun s => s.laneCfgField L lo w v (s.loopBusy L)

/-- A write of `LANE_CMD` (R199). -/
def Dev.laneCmd (s : Dev) (L : Nat) (g : Dev → Dev) : Acted :=
  s.served (laneBlk L) (laneReg L 0x2C) fun s => if s.hasLane L then (.ok, g s) else s.deny .invalid

/-- A write of `TRUNK.RB_CTL` (R228). -/
def Dev.rbCtlWrite (s : Dev) (host pairEn : Bool) : Acted :=
  s.served .trunk 0x3F10 fun s => (.ok, (s.put F.LANE_RB_CTL_HOST (b2n host)).put F.LANE_RB_CTL_PAIR_EN (b2n pairEn))

/-- A write of `SPINDLE.CELL_CMD` with op 0x5 to 0x8 (R162): it completes at once, or when its commands have been placed. -/
def Dev.cellCmdRow (s : Dev) (op : Nat) (all : Bool) (g : Nat) : Dev :=
  match s.blockStatus .spindle 0x30 with
  | .ok =>
    let a := s.cellCmdSend op all g none none
    match a.1 with
    | some st => a.2.complete st
    | none => a.2
  | _ => (s.served .spindle 0x30 fun s => (.ok, s)).dev

/-- A write of `SECURE.CMD`, which is BUSY before `ID_READY` (R412, R416). -/
def Dev.secReg (s : Dev) (g : Dev → Acted) : Acted :=
  s.served .secure 0x10 fun s => if s.flag F.SECURE_STAT_ID_READY then g s else s.deny .busy

/-- A write of EN of `CAN.CFG` (R422, R429), the other fields as they are. -/
def Dev.canEn (s : Dev) (c : Nat) (on : Bool) : Acted :=
  s.served .can (64 * c) fun s => s.canCfgWrite c (putBit (s.word F.regCanCfg 0 c 0) 31 on)

/-- The comparator of channel Y has seen its threshold for Y_FILT ticks (R254). -/
def Dev.channelY (s : Dev) : Dev := s.fire true 0

/-- A grid instant: the words of the channels due reach Reel (R367), and the count of the overvoltage check of a CELL (R250). -/
def Dev.conversion (s : Dev) (raws : List Int) : Dev :=
  let t := s.adcNext
  let s := s.adcConvert raws
  let due := s.adcDue t
  let s := s.each due fun s c => s.reelUpdate kAdc c (s.f F.ADC_LAST_WORD c)
  s.iff (decide (0 ∈ due) && wValid (s.f F.ADC_LAST_WORD 0)) Dev.ovxCount

/-- Self-calibration ends: a CELL that wakes has done it (R259, R275). -/
def Dev.calibrationDone (s : Dev) (res : List (Int × Nat)) : Dev :=
  let busy := s.flag F.ADC_CAL_BUSY
  (s.adcCalDone res).iff (busy && decide (s.role = .cell)) fun s => { s with gate := { s.gate with calDone := true } }

/-- An update of an angle instance reaches Reel (R280, R367). -/
def Dev.trackerUpdate (s : Dev) (i : Nat) : Dev :=
  let on := s.flag F.ANGLE_CFG_EN i
  ((s.angUpdate i).wmkTrack i).iff on fun s => s.each (List.range 5) fun s k => s.reelUpdate kAngle (16 * i + k) (s.angItem i k)

/-- A frame arrives; the elements of a sampled-value stream reach Reel (R351, R367). -/
def Dev.frameReceive (s : Dev) (p : Nat) (l : List Byte) (ok : Bool) : Dev :=
  let r := s.ethReceive p l ok
  match r.2 with
  | none => r.1
  | some k =>
    let els := (r.1.svOf k).elems
    r.1.each (List.range els.length) fun s e => s.reelUpdate kSv (256 * k + e) (els.getD e (0, false)).1

/-- The receiver of a lane locks; the first recovered clock ends the start-up oscillator, a later one holdover (R172, R432, R433). -/
def Dev.laneLock (s : Dev) (L : Nat) : Dev :=
  (s.rateLock L).iff (s.attempting L && !s.isUp L) Dev.clockLock

/-- A descriptor fetch ends, with the bytes of host memory or a status without them (R396). -/
def Dev.descFetch (s : Dev) (r : Nat) (data : List Byte) (bad : Option Status) : Dev :=
  match bad with
  | none => s.fetch r data
  | some st => s.fetchFail r st

end Sys2Proof.Machine
end

