-- ==== Sys2Proof/Machine/Act.lean ====
section
/-! DEFINITION. The form of every command: what the last command put out is gone, the command acts on the device, and what follows from it
in other blocks is settled. The queue is as it was. -/

namespace Sys2Proof.Machine

/-- A command acts by `g`. -/
def commit (g : Dev → Dev) (s : State) : Host.Outcome State Fault Refusal :=
  .next { s with dev := Dev.settle s.dev (g s.dev.begin) }

end Sys2Proof.Machine
end

