-- ==== Sys2Proof/Machine/ExecAnalog.lean ====
section
/-! DEFINITION. The commands of the converters and the angle tracker (10_adc, 11_angle_tracker). -/

namespace Sys2Proof.Machine

/-- CONVERSION (R268). -/
def execConversion (raws : List Int) (s : State) : Host.Outcome State Fault Refusal :=
  commit (fun dev => dev.whenOn .adc (·.conversion raws)) s

/-- CAL_START (R275). -/
def execCalStart (mask : Nat) (s : State) : Host.Outcome State Fault Refusal :=
  commit (fun dev => Acted.dev (dev.served .adc 0 (·.adcCalWrite true false mask))) s

/-- CALIBRATION_DONE (R275). -/
def execCalibrationDone (results : List (Int × Nat)) (s : State) : Host.Outcome State Fault Refusal :=
  commit (fun dev => dev.calibrationDone results) s

/-- TRACKER_UPDATE (R280). -/
def execTrackerUpdate (inst : Nat) (s : State) : Host.Outcome State Fault Refusal :=
  commit (fun dev => dev.trackerUpdate inst) s

/-- AMP_FAULT (R283). -/
def execAmpFault (inst : Nat) (s : State) : Host.Outcome State Fault Refusal :=
  commit (fun dev => dev.ampFault inst) s

/-- RESYNC (R283). -/
def execResync (inst : Nat) (s : State) : Host.Outcome State Fault Refusal :=
  commit (fun dev => dev.resync inst) s

/-- STILL (R282). -/
def execStill (inst : Nat) (s : State) : Host.Outcome State Fault Refusal :=
  commit (fun dev => dev.still inst) s

/-- INDEX_EDGE (R284). -/
def execIndexEdge (s : State) : Host.Outcome State Fault Refusal :=
  commit (fun dev => dev.indexEdge) s

/-- PROBE_EDGE (R285). -/
def execProbeEdge (probe : Nat) (rising : Bool) (s : State) : Host.Outcome State Fault Refusal :=
  commit (fun dev => dev.probeEdge probe rising) s

/-- PRB_CAP_READ (R285). -/
def execPrbCapRead (master probe : Nat) (s : State) : Host.Outcome State Fault Refusal :=
  commit (fun dev => dev.readRow master .angle (0x108 + 16 * probe)) s

/-- WMK_TGT_WRITE (R286). -/
def execWmkTgtWrite (mark target : Nat) (s : State) : Host.Outcome State Fault Refusal :=
  commit (fun dev => Acted.dev (dev.served .angle (0x204 + 16 * mark) (·.wmkHost mark target))) s

/-- WMK_CROSSING (R286). -/
def execWmkCrossing (mark : Nat) (s : State) : Host.Outcome State Fault Refusal :=
  commit (fun dev => dev.wmkCross mark) s

/-- WMK_PULSE_END (R287). -/
def execWmkPulseEnd (mark : Nat) (s : State) : Host.Outcome State Fault Refusal :=
  commit (fun dev => dev.wmkPulseEnd mark) s

end Sys2Proof.Machine
end

