-- ==== Sys2Proof/Machine/ExecCan.lean ====
section
/-! DEFINITION. The commands of CAN (18_can_utility). -/

namespace Sys2Proof.Machine

/-- CAN_ENABLE (R422). -/
def execCanEnable (ctl : Nat) (s : State) : Host.Outcome State Fault Refusal :=
  commit (fun dev => Acted.dev (dev.canEn ctl true)) s

/-- CAN_DISABLE (R429). -/
def execCanDisable (ctl : Nat) (s : State) : Host.Outcome State Fault Refusal :=
  commit (fun dev => Acted.dev (dev.canEn ctl false)) s

/-- CAN_FRAME_SENT (R424). -/
def execCanFrameSent (ctl : Nat) (sent : CanSent) (s : State) : Host.Outcome State Fault Refusal :=
  commit (fun dev => dev.canSent ctl sent.ago sent.delay) s

/-- CAN_FRAME_RECEIVED (R426). -/
def execCanFrameReceived (ctl : Nat) (frame : CanFrame) (esi own : Bool) (seen : CanSeen) (s : State) : Host.Outcome State Fault Refusal :=
  commit (fun dev => dev.canReceived ctl frame esi own seen.ago seen.edges) s

/-- CAN_ERROR (R428). -/
def execCanError (ctl lec : Nat) (tx : Bool) (more : Nat) (s : State) : Host.Outcome State Fault Refusal :=
  commit (fun dev => dev.canError ctl lec tx more) s

/-- RECOVERED (R428). -/
def execRecovered (ctl : Nat) (s : State) : Host.Outcome State Fault Refusal :=
  commit (fun dev => dev.canRecovered ctl) s

/-- RECOVER (R428). -/
def execRecover (ctl : Nat) (s : State) : Host.Outcome State Fault Refusal :=
  commit (fun dev => Acted.dev (dev.served .can (64 * ctl + 0x20) fun d => (.ok, d.canRecover ctl))) s

/-- TX (R430). -/
def execTx (ctl : Nat) (s : State) : Host.Outcome State Fault Refusal :=
  commit (fun dev => Acted.dev (dev.served .can (64 * ctl + 0x20) (·.mailTx ctl))) s

/-- CANCEL (R430). -/
def execCancel (ctl : Nat) (late : Bool) (s : State) : Host.Outcome State Fault Refusal :=
  commit (fun dev => Acted.dev (dev.served .can (64 * ctl + 0x20) (·.mailCancel ctl late))) s

/-- RXF_READ (R430). -/
def execRxfRead (master ctl : Nat) (s : State) : Host.Outcome State Fault Refusal :=
  commit (fun dev => dev.readRow master .can (0x280 + 256 * ctl)) s

/-- PROTOCOL_EXCEPTION (R421). -/
def execProtocolException (ctl : Nat) (s : State) : Host.Outcome State Fault Refusal :=
  commit (fun dev => dev.protocolException ctl) s

end Sys2Proof.Machine
end

