-- ==== Sys2Proof/Machine/ExecCycle.lean ====
section
/-! DEFINITION. The commands of the control cycle and swaps (02_control_cycle). -/

namespace Sys2Proof.Machine

/-- CYCLE_BOUNDARY (R34). -/
def execCycleBoundary (s : State) : Host.Outcome State Fault Refusal :=
  commit (fun dev => dev.cycleBoundary) s

/-- ASSEMBLY_ABANDON (R41). -/
def execAssemblyAbandon (arm : Nat) (s : State) : Host.Outcome State Fault Refusal :=
  commit (fun dev => dev.assemblyAbandon arm) s

/-- MILESTONE_ASSEMBLY_END (R43). -/
def execMilestoneAssemblyEnd (arm : Nat) (s : State) : Host.Outcome State Fault Refusal :=
  commit (fun dev => dev.assemblyEnd arm) s

/-- CYCLE_CTL_WRITE (R37). -/
def execCycleCtlWrite (run stamp : Bool) (period : Nat) (s : State) : Host.Outcome State Fault Refusal :=
  commit (fun dev => Acted.dev (dev.served .global 0x100 (·.cycleCtlWrite run stamp period))) s

/-- CYCLE_PHASE_WRITE (R34). -/
def execCyclePhaseWrite (phase : Nat) (s : State) : Host.Outcome State Fault Refusal :=
  commit (fun dev => Acted.dev (dev.served .global 0x104 (·.cyclePhaseWrite phase))) s

/-- GLOBAL_CFG_SWAP_WRITE (R52). -/
def execGlobalCfgSwapWrite (target : Nat) (s : State) : Host.Outcome State Fault Refusal :=
  commit (fun dev => Acted.dev (dev.served .global 0x120 (·.swapRequest target none))) s

/-- SWAP_CHECKS_DONE (R53). -/
def execSwapChecksDone (s : State) : Host.Outcome State Fault Refusal :=
  commit (fun dev => dev.swapChecksDone) s

end Sys2Proof.Machine
end

