-- ==== Sys2Proof/Machine/ExecDebug.lean ====
section
/-! DEFINITION. The commands of debug and test (19_clocks_power_reset, R443 to R445). -/

namespace Sys2Proof.Machine

/-- HALT (R444). -/
def execHalt (s : State) : Host.Outcome State Fault Refusal :=
  commit (fun dev => Acted.dev (dev.served .debug 0 (·.dbgCmd 1 0))) s

/-- RESUME_DEBUG (R444). -/
def execResumeDebug (s : State) : Host.Outcome State Fault Refusal :=
  commit (fun dev => Acted.dev (dev.served .debug 0 (·.dbgCmd 2 0))) s

/-- RESET (R444). -/
def execReset (key : Nat) (s : State) : Host.Outcome State Fault Refusal :=
  commit (fun dev => Acted.dev (dev.served .debug 0 (·.dbgCmd 3 key))) s

/-- EXTEST (R443). -/
def execExtest (bits : List Bool) (s : State) : Host.Outcome State Fault Refusal :=
  commit (fun dev => dev.tapExtest bits) s

/-- IDCODE (R443). -/
def execIdcode (s : State) : Host.Outcome State Fault Refusal :=
  commit (fun dev => dev.tapIdcode) s

/-- SAMPLE_PRELOAD (R443). -/
def execSamplePreload (bits : List Bool) (s : State) : Host.Outcome State Fault Refusal :=
  commit (fun dev => dev.tapSample bits) s

/-- DBG_ACCESS (R443). -/
def execDbgAccess (op epoch addr data : Nat) (s : State) : Host.Outcome State Fault Refusal :=
  commit (fun dev => dev.dbgAccess op epoch addr data) s

/-- TAP_BYPASS (R443). -/
def execTapBypass (code : Nat) (s : State) : Host.Outcome State Fault Refusal :=
  commit (fun dev => dev.tapBypass code) s

end Sys2Proof.Machine
end

