-- ==== Sys2Proof/Machine/ExecEth.lean ====
section
/-! DEFINITION. The commands of Ethernet (14_timebase_ethernet). -/

namespace Sys2Proof.Machine

/-- FRAME_RECEIVE (R351). -/
def execFrameReceive (port : Nat) (data : List Byte) (ok : Bool) (s : State) : Host.Outcome State Fault Refusal :=
  commit (fun dev => dev.frameReceive port data ok) s

/-- SV_LOST (R359). -/
def execSvLost (stream : Nat) (s : State) : Host.Outcome State Fault Refusal :=
  commit (fun dev => dev.svLost stream) s

/-- FRAME_LAUNCH (R361). -/
def execFrameLaunch (port queue : Nat) (s : State) : Host.Outcome State Fault Refusal :=
  commit (fun dev => dev.ethLaunch port queue) s

/-- FRAME_SENT (R355). -/
def execFrameSent (port : Nat) (s : State) : Host.Outcome State Fault Refusal :=
  commit (fun dev => dev.ethSent port) s

/-- LINK_DOWN (R361). -/
def execLinkDown (port : Nat) (s : State) : Host.Outcome State Fault Refusal :=
  commit (fun dev => dev.linkDown port) s

/-- SUPERVISION_FRAME (R352). -/
def execSupervisionFrame (s : State) : Host.Outcome State Fault Refusal :=
  commit (fun dev => dev.supervision) s

/-- DD_ENTRY_AGE (R352). -/
def execDdEntryAge (s : State) : Host.Outcome State Fault Refusal :=
  commit (fun dev => dev.dupAge) s

/-- TXTS_READ (R355). -/
def execTxtsRead (master : Nat) (s : State) : Host.Outcome State Fault Refusal :=
  commit (fun dev => dev.readRow master .eth 0x200) s

/-- LINK_UP (R351). -/
def execLinkUp (port : Nat) (s : State) : Host.Outcome State Fault Refusal :=
  commit (fun dev => dev.linkUp port) s

end Sys2Proof.Machine
end

