-- ==== Sys2Proof/Machine/ExecGate.lean ====
section
/-! DEFINITION. The commands of the CELL role (09_cell_role). -/

namespace Sys2Proof.Machine

/-- INSERT_POS (R235). -/
def execInsertPos (s : State) : Host.Outcome State Fault Refusal :=
  commit (fun dev => dev.due 1 0) s

/-- INSERT_NEG (R235). -/
def execInsertNeg (s : State) : Host.Outcome State Fault Refusal :=
  commit (fun dev => dev.due 2 0) s

/-- BYPASS (R235). -/
def execBypass (s : State) : Host.Outcome State Fault Refusal :=
  commit (fun dev => dev.due 3 0) s

/-- BLOCK (R235). -/
def execBlock (s : State) : Host.Outcome State Fault Refusal :=
  commit (fun dev => dev.due 4 0) s

/-- CLOSE (R235). -/
def execClose (s : State) : Host.Outcome State Fault Refusal :=
  commit (fun dev => dev.due 5 0) s

/-- CARRIER (R241). -/
def execCarrier (s : State) : Host.Outcome State Fault Refusal :=
  commit (fun dev => dev.due 6 0) s

/-- CONFIG_MILESTONE (R243). -/
def execConfigMilestone (s : State) : Host.Outcome State Fault Refusal :=
  commit (fun dev => dev.due 7 1) s

/-- CONFIG_CARRIER (R243). -/
def execConfigCarrier (s : State) : Host.Outcome State Fault Refusal :=
  commit (fun dev => dev.due 7 2) s

/-- CONFIG_RELEASE (R258). -/
def execConfigRelease (s : State) : Host.Outcome State Fault Refusal :=
  commit (fun dev => dev.due 7 3) s

/-- DEFERRED_COMMAND (R236). -/
def execDeferredCommand (s : State) : Host.Outcome State Fault Refusal :=
  commit (fun dev => dev.deferred) s

/-- NODE_SEEN (R237). -/
def execNodeSeen (leg tn : Nat) (s : State) : Host.Outcome State Fault Refusal :=
  commit (fun dev => dev.nodeSeen leg tn) s

/-- INCOMING_ON (R237). -/
def execIncomingOn (leg : Nat) (s : State) : Host.Outcome State Fault Refusal :=
  commit (fun dev => dev.incomingOn leg) s

/-- DT_MAX_EXPIRY (R238). -/
def execDtMaxExpiry (leg : Nat) (s : State) : Host.Outcome State Fault Refusal :=
  commit (fun dev => dev.dtMax leg) s

/-- NODE_TIMEOUT (R238). -/
def execNodeTimeout (leg : Nat) (s : State) : Host.Outcome State Fault Refusal :=
  commit (fun dev => dev.nodeTimeout leg) s

/-- CARRIER_BOUNDARY (R241). -/
def execCarrierBoundary (s : State) : Host.Outcome State Fault Refusal :=
  commit (fun dev => dev.carrBoundary) s

/-- CARRIER_EDGE (R240). -/
def execCarrierEdge (s : State) : Host.Outcome State Fault Refusal :=
  commit (fun dev => dev.carrEdge) s

/-- DESAT_TRIP (R244). -/
def execDesatTrip (levels : Nat) (s : State) : Host.Outcome State Fault Refusal :=
  commit (fun dev => dev.desatTrip levels) s

/-- CELL_LANE_LOSS (R247). -/
def execCellLaneLoss (s : State) : Host.Outcome State Fault Refusal :=
  commit (fun dev => dev.cellLaneLoss) s

/-- FOLLOWED_PLANE_LOST (R299). -/
def execFollowedPlaneLost (s : State) : Host.Outcome State Fault Refusal :=
  commit (fun dev => dev.planeLost) s

/-- VSENSE (R250). -/
def execVsense (s : State) : Host.Outcome State Fault Refusal :=
  commit (fun dev => dev.vsense) s

/-- OVX (R250). -/
def execOvx (s : State) : Host.Outcome State Fault Refusal :=
  commit (fun dev => dev.ovx) s

/-- CHANNEL_Y_FIRE (R254). -/
def execChannelYFire (s : State) : Host.Outcome State Fault Refusal :=
  commit (fun dev => dev.channelY) s

/-- OTP_BYPASS_RECORD (R256). -/
def execOtpBypassRecord (s : State) : Host.Outcome State Fault Refusal :=
  commit (fun dev => dev.otpRecord) s

/-- BYPASS_PULSE (R255). -/
def execBypassPulse (y : Bool) (s : State) : Host.Outcome State Fault Refusal :=
  commit (fun dev => dev.bypPulse y) s

/-- AUX_PERIOD_BOUNDARY (R252). -/
def execAuxPeriodBoundary (s : State) : Host.Outcome State Fault Refusal :=
  commit (fun dev => dev.auxBoundary) s

/-- AUX_ON_END (R251). -/
def execAuxOnEnd (s : State) : Host.Outcome State Fault Refusal :=
  commit (fun dev => dev.auxOnEnd) s

/-- AUX_ILIM (R253). -/
def execAuxIlim (s : State) : Host.Outcome State Fault Refusal :=
  commit (fun dev => dev.auxIlim) s

/-- AUX_UNDERVOLTAGE (R253). -/
def execAuxUndervoltage (s : State) : Host.Outcome State Fault Refusal :=
  commit (fun dev => dev.auxUnder) s

/-- AUX_START (R253). -/
def execAuxStart (s : State) : Host.Outcome State Fault Refusal :=
  commit (fun dev => dev.auxStart) s

/-- MAINT_FIRE (R254). -/
def execMaintFire (s : State) : Host.Outcome State Fault Refusal :=
  commit (fun dev => Acted.dev (dev.served .gate 0x94 (·.maintFire))) s

/-- KEY1 (R257). -/
def execKey1 (s : State) : Host.Outcome State Fault Refusal :=
  commit (fun dev => Acted.dev (dev.served .gate 0x94 (·.maintKey1))) s

/-- KEY2 (R257). -/
def execKey2 (s : State) : Host.Outcome State Fault Refusal :=
  commit (fun dev => Acted.dev (dev.served .gate 0x94 (·.maintKey2))) s

/-- CELL_READY (R259). -/
def execCellReady (s : State) : Host.Outcome State Fault Refusal :=
  commit (fun dev => dev.cellReady) s

/-- WAKE_TIMEOUT (R259). -/
def execWakeTimeout (s : State) : Host.Outcome State Fault Refusal :=
  commit (fun dev => dev.wakeTimeout) s

/-- LOG_READ (R265). -/
def execLogRead (master : Nat) (s : State) : Host.Outcome State Fault Refusal :=
  commit (fun dev => dev.readRow master .gate 0xF8) s

end Sys2Proof.Machine
end

