-- ==== Sys2Proof/Machine/ExecHost.lean ====
section
/-! DEFINITION. The commands of the host interface and Tollgate (16_host_tollgate, R4 to R9). -/

namespace Sys2Proof.Machine

/-- REGISTER_WRITE (R4). -/
def execRegisterWrite (master off n value : Nat) (s : State) : Host.Outcome State Fault Refusal :=
  commit (fun dev => Acted.dev (dev.registerWrite master off n value)) s

/-- SQ_DOORBELL (R388). -/
def execSqDoorbell (fn ring value : Nat) (s : State) : Host.Outcome State Fault Refusal :=
  commit (fun dev => Acted.dev (dev.doorbell false fn ring value)) s

/-- CQ_DOORBELL (R388). -/
def execCqDoorbell (fn ring value : Nat) (s : State) : Host.Outcome State Fault Refusal :=
  commit (fun dev => Acted.dev (dev.doorbell true fn ring value)) s

/-- DESCRIPTOR_FETCH (R396). -/
def execDescriptorFetch (ring : Nat) (data : List Byte) (bad : Option Status) (s : State) : Host.Outcome State Fault Refusal :=
  commit (fun dev => dev.descFetch ring data bad) s

/-- HOST_READ_TIMEOUT (R396). -/
def execHostReadTimeout (ring : Nat) (fetch timeout : Bool) (data : List Byte) (s : State) : Host.Outcome State Fault Refusal :=
  commit (fun dev => dev.hostReadFail ring fetch timeout data) s

/-- HOSTQ_NOP (R390). -/
def execHostqNop (ring : Nat) (s : State) : Host.Outcome State Fault Refusal :=
  commit (fun dev => dev.descNop ring) s

/-- REG_RD (R390). -/
def execRegRd (ring : Nat) (s : State) : Host.Outcome State Fault Refusal :=
  commit (fun dev => dev.descReg ring false) s

/-- REG_WR (R390). -/
def execRegWr (ring : Nat) (s : State) : Host.Outcome State Fault Refusal :=
  commit (fun dev => dev.descReg ring true) s

/-- COPY_IN (R390). -/
def execCopyIn (ring : Nat) (data : List Byte) (s : State) : Host.Outcome State Fault Refusal :=
  commit (fun dev => dev.descCopyIn ring data none) s

/-- COPY_OUT (R390). -/
def execCopyOut (ring : Nat) (s : State) : Host.Outcome State Fault Refusal :=
  commit (fun dev => dev.descCopyOut ring) s

/-- REMOTE (R390). -/
def execRemote (ring : Nat) (s : State) : Host.Outcome State Fault Refusal :=
  commit (fun dev => dev.descRemote ring) s

/-- CFG_SWAP (R390). -/
def execCfgSwap (ring : Nat) (s : State) : Host.Outcome State Fault Refusal :=
  commit (fun dev => dev.descSwap ring) s

/-- ETH_TX (R390). -/
def execEthTx (ring : Nat) (data : List Byte) (s : State) : Host.Outcome State Fault Refusal :=
  commit (fun dev => dev.descEthTx ring data none) s

/-- RX_BUF (R390). -/
def execRxBuf (ring : Nat) (s : State) : Host.Outcome State Fault Refusal :=
  commit (fun dev => dev.descRxBuf ring) s

/-- CAN_TX (R424). -/
def execCanTx (ring : Nat) (data : List Byte) (s : State) : Host.Outcome State Fault Refusal :=
  commit (fun dev => dev.descCanTx ring data none) s

/-- CAN_CANCEL (R425). -/
def execCanCancel (ring : Nat) (late : Bool) (s : State) : Host.Outcome State Fault Refusal :=
  commit (fun dev => dev.descCanCancel ring late) s

/-- QUOTE_DESC (R416). -/
def execQuoteDesc (ring : Nat) (s : State) : Host.Outcome State Fault Refusal :=
  commit (fun dev => dev.descQuote ring) s

/-- CERT (R416). -/
def execCert (ring : Nat) (s : State) : Host.Outcome State Fault Refusal :=
  commit (fun dev => dev.descCert ring) s

/-- COMMAND (R410). -/
def execCommand (ring : Nat) (data : List Byte) (s : State) : Host.Outcome State Fault Refusal :=
  commit (fun dev => dev.descCommand ring data none) s

/-- FW_LOAD (R416). -/
def execFwLoad (ring : Nat) (data : List Byte) (s : State) : Host.Outcome State Fault Refusal :=
  commit (fun dev => dev.descFwLoad ring data none) s

/-- CQ_ENTRY_WRITE (R394). -/
def execCqEntryWrite (cq : Nat) (s : State) : Host.Outcome State Fault Refusal :=
  commit (fun dev => dev.cqWrite cq) s

/-- IRQ_COALESCE_TIMEOUT (R397). -/
def execIrqCoalesceTimeout (cq : Nat) (s : State) : Host.Outcome State Fault Refusal :=
  commit (fun dev => dev.coalesceTimeout cq) s

/-- FLR (R399). -/
def execFlr (fn : Nat) (s : State) : Host.Outcome State Fault Refusal :=
  commit (fun dev => dev.whenOn .hostq (·.flr fn)) s

/-- DENY_LOG_READ (R405). -/
def execDenyLogRead (master : Nat) (s : State) : Host.Outcome State Fault Refusal :=
  commit (fun dev => dev.readRow master .tollgate 0x18) s

end Sys2Proof.Machine
end

