-- ==== Sys2Proof/Machine/ExecLanes.lean ====
section
/-! DEFINITION. The commands of the Skein lanes (07_skein_lanes). -/

namespace Sys2Proof.Machine

/-- LANE_ENABLE (R179). -/
def execLaneEnable (lane : Nat) (s : State) : Host.Outcome State Fault Refusal :=
  commit (fun dev => Acted.dev (dev.laneField lane 31 1 1)) s

/-- LANE_DISABLE (R179). -/
def execLaneDisable (lane : Nat) (s : State) : Host.Outcome State Fault Refusal :=
  commit (fun dev => Acted.dev (dev.laneField lane 31 1 0)) s

/-- RATE_WRITE (R179). -/
def execRateWrite (lane rate : Nat) (s : State) : Host.Outcome State Fault Refusal :=
  commit (fun dev => Acted.dev (dev.laneField lane 22 2 rate)) s

/-- LOOP_WRITE (R195). -/
def execLoopWrite (lane loop : Nat) (s : State) : Host.Outcome State Fault Refusal :=
  commit (fun dev => Acted.dev (dev.laneField lane 26 3 loop)) s

/-- PWR_L1 (R192). -/
def execPwrL1 (lane : Nat) (s : State) : Host.Outcome State Fault Refusal :=
  commit (fun dev => Acted.dev (dev.laneField lane 29 2 1)) s

/-- PWR_L3 (R192). -/
def execPwrL3 (lane : Nat) (s : State) : Host.Outcome State Fault Refusal :=
  commit (fun dev => Acted.dev (dev.laneField lane 29 2 3)) s

/-- PWR_L0 (R194). -/
def execPwrL0 (lane : Nat) (s : State) : Host.Outcome State Fault Refusal :=
  commit (fun dev => Acted.dev (dev.laneField lane 29 2 0)) s

/-- L3_EXIT_COMPLETE (R194). -/
def execL3ExitComplete (lane : Nat) (exchanges : List Int) (s : State) : Host.Outcome State Fault Refusal :=
  commit (fun dev => dev.l3Exit lane exchanges) s

/-- RATE_HUNT_STEP (R172). -/
def execRateHuntStep (lane : Nat) (s : State) : Host.Outcome State Fault Refusal :=
  commit (fun dev => dev.rateHunt lane) s

/-- RATE_LOCK (R172). -/
def execRateLock (lane : Nat) (s : State) : Host.Outcome State Fault Refusal :=
  commit (fun dev => dev.laneLock lane) s

/-- TRN_RECEIVE (R173). -/
def execTrnReceive (lane : Nat) (trn : Trn) (s : State) : Host.Outcome State Fault Refusal :=
  commit (fun dev => dev.trnReceive lane trn) s

/-- ADAPT_WINDOW (R182). -/
def execAdaptWindow (lane : Nat) (groups : List Nat) (taps : List Int) (s : State) : Host.Outcome State Fault Refusal :=
  commit (fun dev => dev.adaptWindow lane groups taps) s

/-- RDBK_RECEIVE (R186). -/
def execRdbkReceive (lane t1 t2 t3 t4 result : Nat) (s : State) : Host.Outcome State Fault Refusal :=
  commit (fun dev => dev.rdbkReceive lane t1 t2 t3 t4 result) s

/-- TRAINING_TIMEOUT (R176). -/
def execTrainingTimeout (lane : Nat) (s : State) : Host.Outcome State Fault Refusal :=
  commit (fun dev => dev.laneTimeout lane) s

/-- BACKOFF_END (R176). -/
def execBackoffEnd (lane : Nat) (s : State) : Host.Outcome State Fault Refusal :=
  commit (fun dev => dev.backoffEnd lane) s

/-- SIGNAL_APPEAR (R177). -/
def execSignalAppear (lane : Nat) (s : State) : Host.Outcome State Fault Refusal :=
  commit (fun dev => dev.signalAppear lane) s

/-- ABSENT_RETRY (R177). -/
def execAbsentRetry (lane : Nat) (s : State) : Host.Outcome State Fault Refusal :=
  commit (fun dev => dev.absentAttempt lane) s

/-- LANE_LOSS (R180). -/
def execLaneLoss (lane : Nat) (lost : LaneLost) (s : State) : Host.Outcome State Fault Refusal :=
  commit (fun dev => dev.laneLoss lane lost.cause lost.groups) s

/-- IDLE_END (R181). -/
def execIdleEnd (lane : Nat) (s : State) : Host.Outcome State Fault Refusal :=
  commit (fun dev => dev.idleEnd lane) s

/-- REMEASURE_INTERVAL (R188). -/
def execRemeasureInterval (lane : Nat) (s : State) : Host.Outcome State Fault Refusal :=
  commit (fun dev => dev.remeasInterval lane) s

/-- LOOP_TIMEOUT (R198). -/
def execLoopTimeout (lane : Nat) (s : State) : Host.Outcome State Fault Refusal :=
  commit (fun dev => dev.loopTimeout lane) s

/-- RETRAIN (R179). -/
def execRetrain (lane : Nat) (s : State) : Host.Outcome State Fault Refusal :=
  commit (fun dev => Acted.dev (dev.laneCmd lane (·.laneRetrain lane))) s

/-- UNFREEZE (R184). -/
def execUnfreeze (lane : Nat) (s : State) : Host.Outcome State Fault Refusal :=
  commit (fun dev => Acted.dev (dev.laneCmd lane (·.unfreeze lane))) s

/-- REMEASURE (R188). -/
def execRemeasure (lane : Nat) (s : State) : Host.Outcome State Fault Refusal :=
  commit (fun dev => Acted.dev (dev.laneCmd lane (·.remeasure lane))) s

/-- COMMA_ALIGNMENT (R173). -/
def execCommaAlignment (lane : Nat) (s : State) : Host.Outcome State Fault Refusal :=
  commit (fun dev => dev.commaAlign lane) s

end Sys2Proof.Machine
end

