-- ==== Sys2Proof/Machine/ExecLoom.lean ====
section
/-! DEFINITION. The commands of Loom's runs, memories and control registers (03_loom_engine, 05_loom_schedules_handover). -/

namespace Sys2Proof.Machine

/-- RUN_DISPATCH (R59). -/
def execRunDispatch (sh : Nat) (s : State) : Host.Outcome State Fault Refusal :=
  commit (fun dev => dev.runDispatch sh) s

/-- DEADLINE_EXPIRY (R65). -/
def execDeadlineExpiry (slot : Nat) (s : State) : Host.Outcome State Fault Refusal :=
  commit (fun dev => dev.deadline slot) s

/-- RUN_END (R67). -/
def execRunEnd (sh : Nat) (s : State) : Host.Outcome State Fault Refusal :=
  commit (fun dev => dev.runEnd sh) s

/-- INGRESS_WRITE (R75). -/
def execIngressWrite (word : Nat) (s : State) : Host.Outcome State Fault Refusal :=
  commit (fun dev => dev.ingressWrite word) s

/-- BAR2_WRITE (R72). -/
def execBar2Write (fn off n value : Nat) (s : State) : Host.Outcome State Fault Refusal :=
  commit (fun dev => Acted.dev (dev.bar2Write fn off n value)) s

/-- SCRUB_PASS (R81). -/
def execScrubPass (s : State) : Host.Outcome State Fault Refusal :=
  commit (fun dev => dev.whenOn .loom (·.scrubPass)) s

/-- LOOM_CTL_WRITE (R86). -/
def execLoomCtlWrite (enable view scrub : Bool) (s : State) : Host.Outcome State Fault Refusal :=
  commit (fun dev => Acted.dev (dev.served .loom 0 fun d => (.ok, d.loomCtlWrite enable view scrub))) s

/-- SLOT_RATE_WRITE (R62). -/
def execSlotRateWrite (slot every phase : Nat) (s : State) : Host.Outcome State Fault Refusal :=
  commit (fun dev => Acted.dev (dev.served .loom (0x1004 + 64 * slot) (·.slotRateWrite slot every phase))) s

end Sys2Proof.Machine
end

