-- ==== Sys2Proof/Machine/ExecLoomOps.lean ====
section
/-! DEFINITION. The commands of the operations of Loom (04_loom_instructions). -/

namespace Sys2Proof.Machine

/-- NOP (R101). -/
def execNop (sh : Nat) (s : State) : Host.Outcome State Fault Refusal :=
  commit (fun dev => dev.instr sh .nopOp Isa.nop) s

/-- MOV (R101). -/
def execMov (sh : Nat) (s : State) : Host.Outcome State Fault Refusal :=
  commit (fun dev => dev.instr sh .movOp Isa.mov) s

/-- MOVI (R101). -/
def execMovi (sh : Nat) (s : State) : Host.Outcome State Fault Refusal :=
  commit (fun dev => dev.instr sh .moviOp Isa.movi) s

/-- LDX (R102). -/
def execLdx (sh : Nat) (s : State) : Host.Outcome State Fault Refusal :=
  commit (fun dev => dev.instr sh .ldxOp Isa.ldx) s

/-- STX (R102). -/
def execStx (sh : Nat) (s : State) : Host.Outcome State Fault Refusal :=
  commit (fun dev => dev.instr sh .stxOp Isa.stx) s

/-- ADD (R101). -/
def execAdd (sh : Nat) (s : State) : Host.Outcome State Fault Refusal :=
  commit (fun dev => dev.instr sh .addOp Isa.add) s

/-- SUB (R101). -/
def execSub (sh : Nat) (s : State) : Host.Outcome State Fault Refusal :=
  commit (fun dev => dev.instr sh .subOp Isa.sub) s

/-- MUL (R103). -/
def execMul (sh : Nat) (s : State) : Host.Outcome State Fault Refusal :=
  commit (fun dev => dev.instr sh .mulOp Isa.mul) s

/-- MAC (R103). -/
def execMac (sh : Nat) (s : State) : Host.Outcome State Fault Refusal :=
  commit (fun dev => dev.instr sh .macOp Isa.mac) s

/-- MSU (R103). -/
def execMsu (sh : Nat) (s : State) : Host.Outcome State Fault Refusal :=
  commit (fun dev => dev.instr sh .msuOp Isa.msu) s

/-- NEG (R104). -/
def execNeg (sh : Nat) (s : State) : Host.Outcome State Fault Refusal :=
  commit (fun dev => dev.instr sh .negOp Isa.neg) s

/-- ABS (R104). -/
def execAbs (sh : Nat) (s : State) : Host.Outcome State Fault Refusal :=
  commit (fun dev => dev.instr sh .absOp Isa.abs) s

/-- ADDW (R106). -/
def execAddw (sh : Nat) (s : State) : Host.Outcome State Fault Refusal :=
  commit (fun dev => dev.instr sh .addwOp Isa.addw) s

/-- SUBW (R106). -/
def execSubw (sh : Nat) (s : State) : Host.Outcome State Fault Refusal :=
  commit (fun dev => dev.instr sh .subwOp Isa.subw) s

/-- LIM (R105). -/
def execLim (sh : Nat) (s : State) : Host.Outcome State Fault Refusal :=
  commit (fun dev => dev.instr sh .limOp Isa.lim) s

/-- MIN (R101). -/
def execMin (sh : Nat) (s : State) : Host.Outcome State Fault Refusal :=
  commit (fun dev => dev.instr sh .minOp Isa.min) s

/-- MAX (R101). -/
def execMax (sh : Nat) (s : State) : Host.Outcome State Fault Refusal :=
  commit (fun dev => dev.instr sh .maxOp Isa.max) s

/-- PI (R109). -/
def execPi (sh : Nat) (s : State) : Host.Outcome State Fault Refusal :=
  commit (fun dev => dev.instr sh .piOp Isa.pi) s

/-- PIR (R110). -/
def execPir (sh : Nat) (s : State) : Host.Outcome State Fault Refusal :=
  commit (fun dev => dev.instr sh .pirOp Isa.pir) s

/-- LPF1 (R111). -/
def execLpf1 (sh : Nat) (s : State) : Host.Outcome State Fault Refusal :=
  commit (fun dev => dev.instr sh .lpf1Op Isa.lpf1) s

/-- HPF1 (R111). -/
def execHpf1 (sh : Nat) (s : State) : Host.Outcome State Fault Refusal :=
  commit (fun dev => dev.instr sh .hpf1Op Isa.hpf1) s

/-- RAMP (R112). -/
def execRamp (sh : Nat) (s : State) : Host.Outcome State Fault Refusal :=
  commit (fun dev => dev.instr sh .rampOp Isa.ramp) s

/-- DEAD (R113). -/
def execDead (sh : Nat) (s : State) : Host.Outcome State Fault Refusal :=
  commit (fun dev => dev.instr sh .deadOp Isa.dead) s

/-- HYST (R114). -/
def execHyst (sh : Nat) (s : State) : Host.Outcome State Fault Refusal :=
  commit (fun dev => dev.instr sh .hystOp Isa.hyst) s

/-- CLK (R115). -/
def execClk (sh : Nat) (s : State) : Host.Outcome State Fault Refusal :=
  commit (fun dev => dev.instr sh .clkOp Isa.clk) s

/-- PRK (R116). -/
def execPrk (sh : Nat) (s : State) : Host.Outcome State Fault Refusal :=
  commit (fun dev => dev.instr sh .prkOp Isa.prk) s

/-- IPRK (R116). -/
def execIprk (sh : Nat) (s : State) : Host.Outcome State Fault Refusal :=
  commit (fun dev => dev.instr sh .iprkOp Isa.iprk) s

/-- SINCOS (R116). -/
def execSincos (sh : Nat) (s : State) : Host.Outcome State Fault Refusal :=
  commit (fun dev => dev.instr sh .sincosOp Isa.sincos) s

/-- ATN2 (R117). -/
def execAtn2 (sh : Nat) (s : State) : Host.Outcome State Fault Refusal :=
  commit (fun dev => dev.instr sh .atn2Op Isa.atn2) s

/-- SQRT (R118). -/
def execSqrt (sh : Nat) (s : State) : Host.Outcome State Fault Refusal :=
  commit (fun dev => dev.instr sh .sqrtOp Isa.sqrt) s

/-- RCP (R118). -/
def execRcp (sh : Nat) (s : State) : Host.Outcome State Fault Refusal :=
  commit (fun dev => dev.instr sh .rcpOp Isa.rcp) s

/-- DIV (R118). -/
def execDiv (sh : Nat) (s : State) : Host.Outcome State Fault Refusal :=
  commit (fun dev => dev.instr sh .divOp Isa.div) s

/-- LUT1 (R119). -/
def execLut1 (sh : Nat) (s : State) : Host.Outcome State Fault Refusal :=
  commit (fun dev => dev.instr sh .lut1Op Isa.lut1) s

/-- CMPEQ (R107). -/
def execCmpeq (sh : Nat) (s : State) : Host.Outcome State Fault Refusal :=
  commit (fun dev => dev.instr sh .cmpeqOp Isa.cmpeq) s

/-- CMPNE (R107). -/
def execCmpne (sh : Nat) (s : State) : Host.Outcome State Fault Refusal :=
  commit (fun dev => dev.instr sh .cmpneOp Isa.cmpne) s

/-- CMPLT (R107). -/
def execCmplt (sh : Nat) (s : State) : Host.Outcome State Fault Refusal :=
  commit (fun dev => dev.instr sh .cmpltOp Isa.cmplt) s

/-- CMPLE (R107). -/
def execCmple (sh : Nat) (s : State) : Host.Outcome State Fault Refusal :=
  commit (fun dev => dev.instr sh .cmpleOp Isa.cmple) s

/-- CMPGT (R107). -/
def execCmpgt (sh : Nat) (s : State) : Host.Outcome State Fault Refusal :=
  commit (fun dev => dev.instr sh .cmpgtOp Isa.cmpgt) s

/-- CMPGE (R107). -/
def execCmpge (sh : Nat) (s : State) : Host.Outcome State Fault Refusal :=
  commit (fun dev => dev.instr sh .cmpgeOp Isa.cmpge) s

/-- SEL (R101). -/
def execSel (sh : Nat) (s : State) : Host.Outcome State Fault Refusal :=
  commit (fun dev => dev.instr sh .selOp Isa.sel) s

/-- AND (R101). -/
def execAnd (sh : Nat) (s : State) : Host.Outcome State Fault Refusal :=
  commit (fun dev => dev.instr sh .andOp Isa.and) s

/-- OR (R101). -/
def execOr (sh : Nat) (s : State) : Host.Outcome State Fault Refusal :=
  commit (fun dev => dev.instr sh .orOp Isa.or) s

/-- XOR (R101). -/
def execXor (sh : Nat) (s : State) : Host.Outcome State Fault Refusal :=
  commit (fun dev => dev.instr sh .xorOp Isa.xor) s

/-- NOT (R101). -/
def execNot (sh : Nat) (s : State) : Host.Outcome State Fault Refusal :=
  commit (fun dev => dev.instr sh .notOp Isa.not) s

/-- PSET (R101). -/
def execPset (sh : Nat) (s : State) : Host.Outcome State Fault Refusal :=
  commit (fun dev => dev.instr sh .psetOp Isa.pset) s

/-- PAND (R101). -/
def execPand (sh : Nat) (s : State) : Host.Outcome State Fault Refusal :=
  commit (fun dev => dev.instr sh .pandOp Isa.pand) s

/-- POR (R101). -/
def execPor (sh : Nat) (s : State) : Host.Outcome State Fault Refusal :=
  commit (fun dev => dev.instr sh .porOp Isa.por) s

/-- PNOT (R101). -/
def execPnot (sh : Nat) (s : State) : Host.Outcome State Fault Refusal :=
  commit (fun dev => dev.instr sh .pnotOp Isa.pnot) s

/-- PGET (R107). -/
def execPget (sh : Nat) (s : State) : Host.Outcome State Fault Refusal :=
  commit (fun dev => dev.instr sh .pgetOp Isa.pget) s

end Sys2Proof.Machine
end

