-- ==== Sys2Proof/Machine/ExecPair.lean ====
section
/-! DEFINITION. The commands of plane redundancy (12_plane_redundancy). -/

namespace Sys2Proof.Machine

/-- CLAIM (R305). -/
def execClaim (s : State) : Host.Outcome State Fault Refusal :=
  commit (fun dev => Acted.dev (dev.served .pair 0x10 (·.pairCommand 1))) s

/-- PX_STATE (R293). -/
def execPxState (lane : Nat) (head body : List Byte) (clean : Bool) (s : State) : Host.Outcome State Fault Refusal :=
  commit (fun dev => dev.pxTake lane 1 (head ++ body) clean Dev.pxState) s

/-- PX_GRAFT (R293). -/
def execPxGraft (lane : Nat) (head body : List Byte) (clean : Bool) (s : State) : Host.Outcome State Fault Refusal :=
  commit (fun dev => dev.pxTake lane 2 (head ++ body) clean Dev.pxGraft) s

/-- PX_MLIST (R293). -/
def execPxMlist (lane : Nat) (head body : List Byte) (clean : Bool) (s : State) : Host.Outcome State Fault Refusal :=
  commit (fun dev => dev.pxTake lane 3 (head ++ body) clean Dev.pxMlist) s

/-- PX_MAPDIG (R28). -/
def execPxMapdig (lane : Nat) (data : List Byte) (clean : Bool) (s : State) : Host.Outcome State Fault Refusal :=
  commit (fun dev => dev.pxTake lane 4 data clean fun dev _ p => dev.pxMapdig p) s

/-- CROSSLINK_LOST (R290). -/
def execCrosslinkLost (s : State) : Host.Outcome State Fault Refusal :=
  commit (fun dev => dev.crosslinkLost) s

/-- HB_LOST (R296). -/
def execHbLost (s : State) : Host.Outcome State Fault Refusal :=
  commit (fun dev => dev.hbLost) s

/-- COVERAGE_STALL (R302). -/
def execCoverageStall (counter : Nat) (s : State) : Host.Outcome State Fault Refusal :=
  commit (fun dev => dev.coverageStall counter) s

/-- VOTE_COMPLETE (R304). -/
def execVoteComplete (s : State) : Host.Outcome State Fault Refusal :=
  commit (fun dev => dev.voteComplete) s

/-- FIT_HOLD_EXPIRY (R306). -/
def execFitHoldExpiry (s : State) : Host.Outcome State Fault Refusal :=
  commit (fun dev => dev.fitExpiry) s

/-- ORPHAN (R308). -/
def execOrphan (s : State) : Host.Outcome State Fault Refusal :=
  commit (fun dev => dev.orphan) s

/-- RELINQUISH (R306). -/
def execRelinquish (s : State) : Host.Outcome State Fault Refusal :=
  commit (fun dev => Acted.dev (dev.served .pair 0x10 (·.pairCommand 2))) s

/-- RESUME (R303). -/
def execResume (s : State) : Host.Outcome State Fault Refusal :=
  commit (fun dev => Acted.dev (dev.served .pair 0x10 (·.pairCommand 3))) s

/-- PAIR_TRIP_CLR (R310). -/
def execPairTripClr (s : State) : Host.Outcome State Fault Refusal :=
  commit (fun dev => Acted.dev (dev.served .pair 0x10 (·.pairCommand 4))) s

/-- FAULT (R301). -/
def execFault (s : State) : Host.Outcome State Fault Refusal :=
  commit (fun dev => Acted.dev (dev.served .pair 0x10 (·.pairCommand 5))) s

/-- CLEAR (R301). -/
def execClear (s : State) : Host.Outcome State Fault Refusal :=
  commit (fun dev => Acted.dev (dev.served .pair 0x10 (·.pairCommand 6))) s

/-- PAIR_HB_I_EDGE (R296). -/
def execPairHbIEdge (s : State) : Host.Outcome State Fault Refusal :=
  commit (fun dev => dev.hbEdge) s

/-- CONFIGURATION_CHECK (R302). -/
def execConfigurationCheck (s : State) : Host.Outcome State Fault Refusal :=
  commit (fun dev => dev.configCheck) s

end Sys2Proof.Machine
end

