-- ==== Sys2Proof/Machine/ExecPower.lean ====
section
/-! DEFINITION. The commands of power, clocks and reset (19_clocks_power_reset, 01_roles_topology, R257 to R262). -/

namespace Sys2Proof.Machine

/-- PORST_N_RISE (R12). -/
def execPorstNRise (a b c : Straps) (d : LastSample) (s : State) : Host.Outcome State Fault Refusal :=
  commit (fun dev => dev.porstRise a b c d.straps d.aonOk) s

/-- CPG_FALL (R261). -/
def execCpgFall (s : State) : Host.Outcome State Fault Refusal :=
  commit (fun dev => dev.cpgFall) s

/-- CPG_RISE (R260). -/
def execCpgRise (aonHigh : Bool) (a b c d : Straps) (aonOk : Bool) (s : State) : Host.Outcome State Fault Refusal :=
  commit (fun dev => dev.cpgRise aonHigh a b c d aonOk) s

/-- CLOCK_MONITOR_WINDOW (R434). -/
def execClockMonitorWindow (core ref : Int) (refLost : Bool) (s : State) : Host.Outcome State Fault Refusal :=
  commit (fun dev => dev.clockWindow core ref refLost) s

/-- CLOCK_STOP (R434). -/
def execClockStop (clock : Nat) (s : State) : Host.Outcome State Fault Refusal :=
  commit (fun dev => dev.clockStop clock) s

/-- SUPPLY_EXCURSION (R437). -/
def execSupplyExcursion (out : Excursion) (s : State) : Host.Outcome State Fault Refusal :=
  commit (fun dev => dev.supplyExcursion out.supply out.aonOk) s

/-- PWR_CTL_WRITE (R438). -/
def execPwrCtlWrite (lane : Bool) (value : Nat) (s : State) : Host.Outcome State Fault Refusal :=
  commit (fun dev => Acted.dev (dev.served .global (if lane then 0x28 else 0x20) (·.pwrWrite lane value))) s

/-- ISLAND_READY (R438). -/
def execIslandReady (island : Nat) (s : State) : Host.Outcome State Fault Refusal :=
  commit (fun dev => dev.islandReady island) s

/-- WRST_N (R439). -/
def execWrstN (s : State) : Host.Outcome State Fault Refusal :=
  commit (fun dev => dev.askWarm 6) s

/-- WARM (R439). -/
def execWarm (key : Nat) (s : State) : Host.Outcome State Fault Refusal :=
  commit (fun dev => Acted.dev (dev.served .global 0x30 (·.warmWrite key))) s

/-- WDOG_EXPIRY (R439). -/
def execWdogExpiry (s : State) : Host.Outcome State Fault Refusal :=
  commit (fun dev => dev.wdogExpiry) s

/-- WARM_RESET (R440). -/
def execWarmReset (s : State) : Host.Outcome State Fault Refusal :=
  commit (fun dev => dev.warmReset) s

/-- BLK_RST (R442). -/
def execBlkRst (go : Bool) (num : Nat) (s : State) : Host.Outcome State Fault Refusal :=
  commit (fun dev => Acted.dev (dev.served .global 0x34 (·.blkRst go num))) s

/-- BLOCK_RESET_DONE (R441). -/
def execBlockResetDone (num : Nat) (s : State) : Host.Outcome State Fault Refusal :=
  commit (fun dev => dev.blockResetDone num) s

/-- PORST_N_FALL (R439). -/
def execPorstNFall (s : State) : Host.Outcome State Fault Refusal :=
  commit (fun dev => dev.porstFall) s

/-- VDD_AON_WAKE_LEVEL (R460). -/
def execVddAonWakeLevel (a b c d : Straps) (aonOk : Bool) (s : State) : Host.Outcome State Fault Refusal :=
  commit (fun dev => dev.aonLevel a b c d aonOk) s

end Sys2Proof.Machine
end

