-- ==== Sys2Proof/Machine/ExecProto.lean ====
section
/-! DEFINITION. The commands of what arrives on the lanes (08_skein_protocol). A block comes as its bytes from the third code group on, its
CRC with them (R200), and `clean` tells that none of its code groups was a code violation (R202). -/

namespace Sys2Proof.Machine

/-- SOF_RECEIVE (R204). -/
def execSofReceive (lane : Nat) (data : List Byte) (clean : Bool) (s : State) : Host.Outcome State Fault Refusal :=
  commit (fun dev => dev.sofReceive lane (crcBody data) (clean && crcOk data)) s

/-- SOF_MISS (R202). -/
def execSofMiss (lane : Nat) (s : State) : Host.Outcome State Fault Refusal :=
  commit (fun dev => dev.sofMiss lane) s

/-- MS_SECTION_FORWARD (R208). -/
def execMsSectionForward (lane : Nat) (data : List Byte) (clean : Bool) (s : State) : Host.Outcome State Fault Refusal :=
  commit (fun dev => dev.msForward lane (data.take 26 ++ data.drop 30) (clean && crcOk (data.take 30))) s

/-- MS_ENTRY_DECODE (R213). -/
def execMsEntryDecode (lane : Nat) (data : List Byte) (clean : Bool) (s : State) : Host.Outcome State Fault Refusal :=
  commit (fun dev => dev.msDecode lane (crcBody data) (clean && crcOk data)) s

/-- ROADBLOCK (R229). -/
def execRoadblock (lane run : Nat) (s : State) : Host.Outcome State Fault Refusal :=
  commit (fun dev => dev.roadblock lane run) s

/-- RB_CTL_WRITE (R228). -/
def execRbCtlWrite (host pairEn : Bool) (s : State) : Host.Outcome State Fault Refusal :=
  commit (fun dev => Acted.dev (dev.rbCtlWrite host pairEn)) s

/-- RR_REQUEST (R223). -/
def execRrRequest (lane : Nat) (data : List Byte) (clean : Bool) (s : State) : Host.Outcome State Fault Refusal :=
  commit (fun dev => dev.rrRequest lane (crcBody data) (clean && crcOk data)) s

/-- RR_REPLY (R224). -/
def execRrReply (lane : Nat) (data : List Byte) (clean : Bool) (s : State) : Host.Outcome State Fault Refusal :=
  commit (fun dev => dev.rrReply lane (crcBody data) (clean && crcOk data)) s

/-- RR_TIMEOUT (R225). -/
def execRrTimeout (lane dest port tag : Nat) (s : State) : Host.Outcome State Fault Refusal :=
  commit (fun dev => dev.rrTimeout lane dest port tag) s

/-- TELEMETRY_RECORD_RECEIVE (R219). -/
def execTelemetryRecordReceive (lane : Nat) (data : List Byte) (clean : Bool) (s : State) : Host.Outcome State Fault Refusal :=
  commit (fun dev => dev.recordReceive lane (crcBody data) (clean && crcOk data)) s

/-- TELEMETRY_USE (R220). -/
def execTelemetryUse (lane : Nat) (data : List Byte) (clean : Bool) (s : State) : Host.Outcome State Fault Refusal :=
  commit (fun dev => dev.telemetryUse lane (crcBody data) (clean && crcOk data)) s

end Sys2Proof.Machine
end

