-- ==== Sys2Proof/Machine/ExecReel.lean ====
section
/-! DEFINITION. The commands of the recorder (15_reel_recorder). -/

namespace Sys2Proof.Machine

/-- REEL_FRAME (R369). -/
def execReelFrame (inst : Nat) (s : State) : Host.Outcome State Fault Refusal :=
  commit (fun dev => dev.reelFrame inst) s

/-- REEL_RECORD_CLOSE (R375). -/
def execReelRecordClose (inst : Nat) (s : State) : Host.Outcome State Fault Refusal :=
  commit (fun dev => dev.recordClose inst) s

/-- REARM_END (R375). -/
def execRearmEnd (inst : Nat) (s : State) : Host.Outcome State Fault Refusal :=
  commit (fun dev => dev.rearmEnd inst) s

/-- REEL_ARM (R375). -/
def execReelArm (inst : Nat) (s : State) : Host.Outcome State Fault Refusal :=
  commit (fun dev => Acted.dev (dev.served .reel (0x110 + 64 * inst) (·.reelArm inst))) s

/-- REEL_STOP (R375). -/
def execReelStop (inst : Nat) (s : State) : Host.Outcome State Fault Refusal :=
  commit (fun dev => Acted.dev (dev.served .reel (0x110 + 64 * inst) fun d => (.ok, d.reelStop inst))) s

/-- REEL_FORCE (R372). -/
def execReelForce (mask : Nat) (s : State) : Host.Outcome State Fault Refusal :=
  commit (fun dev => Acted.dev (dev.served .reel 0x20 fun d => (.ok, d.reelForce mask))) s

/-- REEL_RELEASE (R379). -/
def execReelRelease (inst slot : Nat) (s : State) : Host.Outcome State Fault Refusal :=
  commit (fun dev => Acted.dev (dev.served .reel 0x24 (·.reelRelease inst slot))) s

end Sys2Proof.Machine
end

