-- ==== Sys2Proof/Machine/ExecSafety.lean ====
section
/-! DEFINITION. The commands of the safety controller (13_safety_controller). -/

namespace Sys2Proof.Machine

/-- XCMP_EXCHANGE (R317). -/
def execXcmpExchange (s : State) : Host.Outcome State Fault Refusal :=
  commit (fun dev => dev.xcmpExchange) s

/-- XCMP_FAULT (R317). -/
def execXcmpFault (s : State) : Host.Outcome State Fault Refusal :=
  commit (fun dev => dev.xcmpFault) s

/-- CLOCK_CHECK (R317). -/
def execClockCheck (y : Bool) (ticks : Nat) (s : State) : Host.Outcome State Fault Refusal :=
  commit (fun dev => dev.clockCheck y ticks) s

/-- SUPPLY_FAULT (R317). -/
def execSupplyFault (y inside : Bool) (s : State) : Host.Outcome State Fault Refusal :=
  commit (fun dev => dev.supplyFault y inside) s

/-- PARAM_CRC_CHECK (R317). -/
def execParamCrcCheck (y : Bool) (s : State) : Host.Outcome State Fault Refusal :=
  commit (fun dev => dev.paramCrcCheck y) s

/-- LINE_QUALIFY (R319). -/
def execLineQualify (y : Bool) (line : Nat) (closed : Bool) (s : State) : Host.Outcome State Fault Refusal :=
  commit (fun dev => dev.lineQualify y line closed) s

/-- TEST_PULSE (R320). -/
def execTestPulse (tp openX openY : Nat) (s : State) : Host.Outcome State Fault Refusal :=
  commit (fun dev => dev.testPulse tp openX openY) s

/-- INTEST_CHECK (R320). -/
def execIntestCheck (line : Nat) (s : State) : Host.Outcome State Fault Refusal :=
  commit (fun dev => dev.intestCheck line) s

/-- DISCREPANCY (R321). -/
def execDiscrepancy (pair : Nat) (s : State) : Host.Outcome State Fault Refusal :=
  commit (fun dev => dev.discrepancy pair) s

/-- FB_FAULT (R325). -/
def execFbFault (inst : Nat) (s : State) : Host.Outcome State Fault Refusal :=
  commit (fun dev => dev.fbFault inst) s

/-- OFF_PULSE (R326). -/
def execOffPulse (pair : Nat) (y : Bool) (seen : Readback) (s : State) : Host.Outcome State Fault Refusal :=
  commit (fun dev => dev.offPulse pair y seen.x seen.y) s

/-- CAT1_TIMEOUT (R328). -/
def execCat1Timeout (inst : Nat) (s : State) : Host.Outcome State Fault Refusal :=
  commit (fun dev => dev.cat1Timeout inst) s

/-- TRIP_INPUT (R330). -/
def execTripInput (trip : Nat) (high : Bool) (s : State) : Host.Outcome State Fault Refusal :=
  commit (fun dev => dev.whenOn .safety (·.tripInput trip high)) s

/-- TRIP_CLR (R330). -/
def execTripClr (mask : Nat) (s : State) : Host.Outcome State Fault Refusal :=
  commit (fun dev => Acted.dev (dev.served .safety 0x40C (·.tripClr mask))) s

/-- SRST_PULSE (R334). -/
def execSrstPulse (lenX lenY skew : Nat) (s : State) : Host.Outcome State Fault Refusal :=
  commit (fun dev => dev.srstPulse lenX lenY skew) s

/-- INST_REQ_WRITE (R324). -/
def execInstReqWrite (value : Nat) (s : State) : Host.Outcome State Fault Refusal :=
  commit (fun dev => Acted.dev (dev.served .safety 0x180 fun d => (.ok, d.instReqWrite value))) s

/-- SAFETY_RUN (R338). -/
def execSafetyRun (s : State) : Host.Outcome State Fault Refusal :=
  commit (fun dev => Acted.dev (dev.served .safety 0 (·.safetyRun))) s

/-- SAFETY_CONFIG (R338). -/
def execSafetyConfig (s : State) : Host.Outcome State Fault Refusal :=
  commit (fun dev => Acted.dev (dev.served .safety 0 (·.safetyConfig))) s

/-- BT_START (R332). -/
def execBtStart (s : State) : Host.Outcome State Fault Refusal :=
  commit (fun dev => Acted.dev (dev.served .safety 0x510 (·.btStart))) s

/-- BT_ABORT (R332). -/
def execBtAbort (s : State) : Host.Outcome State Fault Refusal :=
  commit (fun dev => Acted.dev (dev.served .safety 0x510 fun d => (.ok, d.btAbort))) s

/-- BT_TORQUE_TIMEOUT (R332). -/
def execBtTorqueTimeout (s : State) : Host.Outcome State Fault Refusal :=
  commit (fun dev => dev.btTorqueTimeout) s

/-- BT_SAMPLE (R332). -/
def execBtSample (s : State) : Host.Outcome State Fault Refusal :=
  commit (fun dev => dev.btSample) s

/-- BT_HOLD_END (R332). -/
def execBtHoldEnd (s : State) : Host.Outcome State Fault Refusal :=
  commit (fun dev => dev.btHoldEnd) s

/-- BT_DUE (R333). -/
def execBtDue (s : State) : Host.Outcome State Fault Refusal :=
  commit (fun dev => dev.whenOn .safety (·.btDue)) s

/-- OUTTEST_CHECK (R326). -/
def execOuttestCheck (pair seenX seenY : Nat) (s : State) : Host.Outcome State Fault Refusal :=
  commit (fun dev => dev.whenOn .safety (·.outtestCheck pair seenX seenY)) s

/-- SAFETY_CAUSE_CLEAR (R336). -/
def execSafetyCauseClear (inst : Nat) (s : State) : Host.Outcome State Fault Refusal :=
  commit (fun dev => dev.causeClear inst) s

end Sys2Proof.Machine
end

