-- ==== Sys2Proof/Machine/ExecSecure.lean ====
section
/-! DEFINITION. The commands of boot, commands and attestation (17_security). -/

namespace Sys2Proof.Machine

/-- BOOT_IMAGE_CHECK (R412). -/
def execBootImageCheck (image : List Byte) (s : State) : Host.Outcome State Fault Refusal :=
  commit (fun dev => dev.bootCheck image) s

/-- SET_OWNER (R410). -/
def execSetOwner (arg pub sig : List Byte) (s : State) : Host.Outcome State Fault Refusal :=
  commit (fun dev => Acted.dev (dev.secCommand 1 arg pub sig)) s

/-- SEAL (R410). -/
def execSeal (arg pub sig : List Byte) (s : State) : Host.Outcome State Fault Refusal :=
  commit (fun dev => Acted.dev (dev.secCommand 2 arg pub sig)) s

/-- ADD_KEY (R410). -/
def execAddKey (arg pub sig : List Byte) (s : State) : Host.Outcome State Fault Refusal :=
  commit (fun dev => Acted.dev (dev.secCommand 3 arg pub sig)) s

/-- REVOKE (R410). -/
def execRevoke (arg pub sig : List Byte) (s : State) : Host.Outcome State Fault Refusal :=
  commit (fun dev => Acted.dev (dev.secCommand 4 arg pub sig)) s

/-- RETURN (R410). -/
def execReturnCmd (arg pub sig : List Byte) (s : State) : Host.Outcome State Fault Refusal :=
  commit (fun dev => Acted.dev (dev.secCommand 5 arg pub sig)) s

/-- FW_COMMIT (R410). -/
def execFwCommit (arg pub sig : List Byte) (s : State) : Host.Outcome State Fault Refusal :=
  commit (fun dev => Acted.dev (dev.secCommand 6 arg pub sig)) s

/-- QUOTE (R416). -/
def execQuote (s : State) : Host.Outcome State Fault Refusal :=
  commit (fun dev => Acted.dev (dev.secReg (·.quoteCmd))) s

/-- QUOTE_DONE (R417). -/
def execQuoteDone (s : State) : Host.Outcome State Fault Refusal :=
  commit (fun dev => dev.quoteDone) s

/-- EXTEND (R415). -/
def execExtend (idx : Nat) (s : State) : Host.Outcome State Fault Refusal :=
  commit (fun dev => Acted.dev (dev.secReg (·.extendCmd idx))) s

/-- RNG_FAIL (R419). -/
def execRngFail (s : State) : Host.Outcome State Fault Refusal :=
  commit (fun dev => dev.whenOn .secure (·.rngFail)) s

/-- ID_READY (R412). -/
def execIdReady (s : State) : Host.Outcome State Fault Refusal :=
  commit (fun dev => dev.idReady) s

end Sys2Proof.Machine
end

