-- ==== Sys2Proof/Machine/ExecSpindle.lean ====
section
/-! DEFINITION. The commands of Spindle (06_spindle_balancing). -/

namespace Sys2Proof.Machine

/-- SPINDLE_UPDATE (R143). -/
def execSpindleUpdate (arm : Nat) (s : State) : Host.Outcome State Fault Refusal :=
  commit (fun dev => dev.spUpdate arm) s

/-- STALE (R145). -/
def execStale (cell : Nat) (s : State) : Host.Outcome State Fault Refusal :=
  commit (fun dev => dev.spStale cell) s

/-- DRIFT (R157). -/
def execDrift (cell : Nat) (s : State) : Host.Outcome State Fault Refusal :=
  commit (fun dev => dev.spDrift cell) s

/-- READMIT (R158). -/
def execReadmit (cell : Nat) (s : State) : Host.Outcome State Fault Refusal :=
  commit (fun dev => dev.spReadmit cell) s

/-- LOCKED (R159). -/
def execLocked (cell : Nat) (s : State) : Host.Outcome State Fault Refusal :=
  commit (fun dev => dev.spLock cell) s

/-- STRIKE_DECAY (R159). -/
def execStrikeDecay (cell : Nat) (s : State) : Host.Outcome State Fault Refusal :=
  commit (fun dev => dev.spDecay cell) s

/-- READMIT_HOLD_EXPIRY (R160). -/
def execReadmitHoldExpiry (cell : Nat) (s : State) : Host.Outcome State Fault Refusal :=
  commit (fun dev => dev.spHoldEnd cell) s

/-- CLOSE_REPEAT (R160). -/
def execCloseRepeat (cell : Nat) (s : State) : Host.Outcome State Fault Refusal :=
  commit (fun dev => dev.spCloseRepeat cell) s

/-- RATE_WINDOW_END (R153). -/
def execRateWindowEnd (arm : Nat) (s : State) : Host.Outcome State Fault Refusal :=
  commit (fun dev => dev.spRateWindow arm) s

/-- CAP_WINDOW_END (R147). -/
def execCapWindowEnd (arm : Nat) (s : State) : Host.Outcome State Fault Refusal :=
  commit (fun dev => dev.spCapWindow arm) s

/-- SELECTION (R154). -/
def execSelection (arm : Nat) (s : State) : Host.Outcome State Fault Refusal :=
  commit (fun dev => dev.spSelect arm) s

/-- EXCLUDE (R156). -/
def execExclude (cell : Nat) (s : State) : Host.Outcome State Fault Refusal :=
  commit (fun dev => Acted.dev (dev.served .spindle 0x30 (·.cellCmdHost 1 cell))) s

/-- RELEASE (R156). -/
def execRelease (cell : Nat) (s : State) : Host.Outcome State Fault Refusal :=
  commit (fun dev => Acted.dev (dev.served .spindle 0x30 (·.cellCmdHost 2 cell))) s

/-- UNLOCK (R160). -/
def execUnlock (cell : Nat) (s : State) : Host.Outcome State Fault Refusal :=
  commit (fun dev => Acted.dev (dev.served .spindle 0x30 (·.cellCmdHost 3 cell))) s

/-- CELL_CMD_CLOSE (R160). -/
def execCellCmdClose (cell : Nat) (s : State) : Host.Outcome State Fault Refusal :=
  commit (fun dev => Acted.dev (dev.served .spindle 0x30 (·.cellCmdHost 4 cell))) s

/-- CELL_RELEASE (R162). -/
def execCellRelease (all : Bool) (index : Nat) (s : State) : Host.Outcome State Fault Refusal :=
  commit (fun dev => dev.cellCmdRow 5 all index) s

/-- MODE_MS (R162). -/
def execModeMs (all : Bool) (index : Nat) (s : State) : Host.Outcome State Fault Refusal :=
  commit (fun dev => dev.cellCmdRow 6 all index) s

/-- MODE_CARRIER (R162). -/
def execModeCarrier (all : Bool) (index : Nat) (s : State) : Host.Outcome State Fault Refusal :=
  commit (fun dev => dev.cellCmdRow 7 all index) s

/-- CELL_BLOCK (R162). -/
def execCellBlock (all : Bool) (index : Nat) (s : State) : Host.Outcome State Fault Refusal :=
  commit (fun dev => dev.cellCmdRow 8 all index) s

/-- REC_IDX_WRITE (R167). -/
def execRecIdxWrite (wr : Bool) (cell : Nat) (s : State) : Host.Outcome State Fault Refusal :=
  commit (fun dev => Acted.dev (dev.served .spindle 0x34 (·.recIdxWrite wr cell))) s

end Sys2Proof.Machine
end

