-- ==== Sys2Proof/Machine/ExecTime.lean ====
section
/-! DEFINITION. The commands of the timebase (14_timebase_ethernet). -/

namespace Sys2Proof.Machine

/-- TIME_INC_WRITE (R346). -/
def execTimeIncWrite (value : Nat) (s : State) : Host.Outcome State Fault Refusal :=
  commit (fun dev => Acted.dev (dev.served .time 0x8 (·.timeIncWrite value))) s

/-- TIME_STEP_WRITE (R347). -/
def execTimeStepWrite (value : Nat) (s : State) : Host.Outcome State Fault Refusal :=
  commit (fun dev => Acted.dev (dev.served .time 0x10 (·.timeStepWrite value))) s

/-- SYNC_FREE (R348). -/
def execSyncFree (s : State) : Host.Outcome State Fault Refusal :=
  commit (fun dev => Acted.dev (dev.served .time 0 fun d => d.timeCtlWrite 0 (d.f F.TIME_CTL_HOLD_LIM) (d.f F.TIME_CTL_KICK_TMO))) s

/-- SYNC_LOCKED (R348). -/
def execSyncLocked (s : State) : Host.Outcome State Fault Refusal :=
  commit (fun dev => Acted.dev (dev.served .time 0 fun d => d.timeCtlWrite 1 (d.f F.TIME_CTL_HOLD_LIM) (d.f F.TIME_CTL_KICK_TMO))) s

/-- SYNC_HOLDOVER (R348). -/
def execSyncHoldover (s : State) : Host.Outcome State Fault Refusal :=
  commit (fun dev => Acted.dev (dev.served .time 0 fun d => d.timeCtlWrite 2 (d.f F.TIME_CTL_HOLD_LIM) (d.f F.TIME_CTL_KICK_TMO))) s

/-- KICK_LOST (R348). -/
def execKickLost (s : State) : Host.Outcome State Fault Refusal :=
  commit (fun dev => dev.kickLost) s

/-- HOLD_EXP (R348). -/
def execHoldExp (s : State) : Host.Outcome State Fault Refusal :=
  commit (fun dev => dev.holdExp) s

/-- NOW_CAPTURE (R344). -/
def execNowCapture (master : Nat) (s : State) : Host.Outcome State Fault Refusal :=
  commit (fun dev => dev.readRow master .time 0x20) s

end Sys2Proof.Machine
end

