-- ==== Sys2Proof/Machine/Dispatch.lean ====
section
/-! DEFINITION. The dispatch: one arm for each command. -/

namespace Sys2Proof.Machine

/-- What a command does to everything but the queue. -/
def exec (i : Instr) (s : State) : Host.Outcome State Fault Refusal :=
  match i with
  | .porstNRise a b c d => Sys2Proof.Machine.execPorstNRise a b c d s
  | .bootImageCheck image => Sys2Proof.Machine.execBootImageCheck image s
  | .cycleBoundary => Sys2Proof.Machine.execCycleBoundary s
  | .claim => Sys2Proof.Machine.execClaim s
  | .assemblyAbandon arm => Sys2Proof.Machine.execAssemblyAbandon arm s
  | .milestoneAssemblyEnd arm => Sys2Proof.Machine.execMilestoneAssemblyEnd arm s
  | .cycleCtlWrite run stamp period => Sys2Proof.Machine.execCycleCtlWrite run stamp period s
  | .cyclePhaseWrite phase => Sys2Proof.Machine.execCyclePhaseWrite phase s
  | .globalCfgSwapWrite target => Sys2Proof.Machine.execGlobalCfgSwapWrite target s
  | .swapChecksDone => Sys2Proof.Machine.execSwapChecksDone s
  | .registerWrite master off n value => Sys2Proof.Machine.execRegisterWrite master off n value s
  | .runDispatch sh => Sys2Proof.Machine.execRunDispatch sh s
  | .deadlineExpiry slot => Sys2Proof.Machine.execDeadlineExpiry slot s
  | .runEnd sh => Sys2Proof.Machine.execRunEnd sh s
  | .ingressWrite word => Sys2Proof.Machine.execIngressWrite word s
  | .bar2Write fn off n value => Sys2Proof.Machine.execBar2Write fn off n value s
  | .scrubPass => Sys2Proof.Machine.execScrubPass s
  | .loomCtlWrite enable view scrub => Sys2Proof.Machine.execLoomCtlWrite enable view scrub s
  | .slotRateWrite slot every phase => Sys2Proof.Machine.execSlotRateWrite slot every phase s
  | .nop sh => Sys2Proof.Machine.execNop sh s
  | .mov sh => Sys2Proof.Machine.execMov sh s
  | .movi sh => Sys2Proof.Machine.execMovi sh s
  | .ldx sh => Sys2Proof.Machine.execLdx sh s
  | .stx sh => Sys2Proof.Machine.execStx sh s
  | .add sh => Sys2Proof.Machine.execAdd sh s
  | .sub sh => Sys2Proof.Machine.execSub sh s
  | .mul sh => Sys2Proof.Machine.execMul sh s
  | .mac sh => Sys2Proof.Machine.execMac sh s
  | .msu sh => Sys2Proof.Machine.execMsu sh s
  | .neg sh => Sys2Proof.Machine.execNeg sh s
  | .abs sh => Sys2Proof.Machine.execAbs sh s
  | .addw sh => Sys2Proof.Machine.execAddw sh s
  | .subw sh => Sys2Proof.Machine.execSubw sh s
  | .lim sh => Sys2Proof.Machine.execLim sh s
  | .min sh => Sys2Proof.Machine.execMin sh s
  | .max sh => Sys2Proof.Machine.execMax sh s
  | .pi sh => Sys2Proof.Machine.execPi sh s
  | .pir sh => Sys2Proof.Machine.execPir sh s
  | .lpf1 sh => Sys2Proof.Machine.execLpf1 sh s
  | .hpf1 sh => Sys2Proof.Machine.execHpf1 sh s
  | .ramp sh => Sys2Proof.Machine.execRamp sh s
  | .dead sh => Sys2Proof.Machine.execDead sh s
  | .hyst sh => Sys2Proof.Machine.execHyst sh s
  | .clk sh => Sys2Proof.Machine.execClk sh s
  | .prk sh => Sys2Proof.Machine.execPrk sh s
  | .iprk sh => Sys2Proof.Machine.execIprk sh s
  | .sincos sh => Sys2Proof.Machine.execSincos sh s
  | .atn2 sh => Sys2Proof.Machine.execAtn2 sh s
  | .sqrt sh => Sys2Proof.Machine.execSqrt sh s
  | .rcp sh => Sys2Proof.Machine.execRcp sh s
  | .div sh => Sys2Proof.Machine.execDiv sh s
  | .lut1 sh => Sys2Proof.Machine.execLut1 sh s
  | .cmpeq sh => Sys2Proof.Machine.execCmpeq sh s
  | .cmpne sh => Sys2Proof.Machine.execCmpne sh s
  | .cmplt sh => Sys2Proof.Machine.execCmplt sh s
  | .cmple sh => Sys2Proof.Machine.execCmple sh s
  | .cmpgt sh => Sys2Proof.Machine.execCmpgt sh s
  | .cmpge sh => Sys2Proof.Machine.execCmpge sh s
  | .sel sh => Sys2Proof.Machine.execSel sh s
  | .and sh => Sys2Proof.Machine.execAnd sh s
  | .or sh => Sys2Proof.Machine.execOr sh s
  | .xor sh => Sys2Proof.Machine.execXor sh s
  | .not sh => Sys2Proof.Machine.execNot sh s
  | .pset sh => Sys2Proof.Machine.execPset sh s
  | .pand sh => Sys2Proof.Machine.execPand sh s
  | .por sh => Sys2Proof.Machine.execPor sh s
  | .pnot sh => Sys2Proof.Machine.execPnot sh s
  | .pget sh => Sys2Proof.Machine.execPget sh s
  | .spindleUpdate arm => Sys2Proof.Machine.execSpindleUpdate arm s
  | .stale cell => Sys2Proof.Machine.execStale cell s
  | .drift cell => Sys2Proof.Machine.execDrift cell s
  | .readmit cell => Sys2Proof.Machine.execReadmit cell s
  | .locked cell => Sys2Proof.Machine.execLocked cell s
  | .strikeDecay cell => Sys2Proof.Machine.execStrikeDecay cell s
  | .readmitHoldExpiry cell => Sys2Proof.Machine.execReadmitHoldExpiry cell s
  | .closeRepeat cell => Sys2Proof.Machine.execCloseRepeat cell s
  | .rateWindowEnd arm => Sys2Proof.Machine.execRateWindowEnd arm s
  | .capWindowEnd arm => Sys2Proof.Machine.execCapWindowEnd arm s
  | .selection arm => Sys2Proof.Machine.execSelection arm s
  | .exclude cell => Sys2Proof.Machine.execExclude cell s
  | .release cell => Sys2Proof.Machine.execRelease cell s
  | .unlock cell => Sys2Proof.Machine.execUnlock cell s
  | .cellCmdClose cell => Sys2Proof.Machine.execCellCmdClose cell s
  | .cellRelease all index => Sys2Proof.Machine.execCellRelease all index s
  | .modeMs all index => Sys2Proof.Machine.execModeMs all index s
  | .modeCarrier all index => Sys2Proof.Machine.execModeCarrier all index s
  | .cellBlock all index => Sys2Proof.Machine.execCellBlock all index s
  | .recIdxWrite wr cell => Sys2Proof.Machine.execRecIdxWrite wr cell s
  | .laneEnable lane => Sys2Proof.Machine.execLaneEnable lane s
  | .laneDisable lane => Sys2Proof.Machine.execLaneDisable lane s
  | .rateWrite lane rate => Sys2Proof.Machine.execRateWrite lane rate s
  | .loopWrite lane loop => Sys2Proof.Machine.execLoopWrite lane loop s
  | .pwrL1 lane => Sys2Proof.Machine.execPwrL1 lane s
  | .pwrL3 lane => Sys2Proof.Machine.execPwrL3 lane s
  | .pwrL0 lane => Sys2Proof.Machine.execPwrL0 lane s
  | .l3ExitComplete lane exchanges => Sys2Proof.Machine.execL3ExitComplete lane exchanges s
  | .rateHuntStep lane => Sys2Proof.Machine.execRateHuntStep lane s
  | .rateLock lane => Sys2Proof.Machine.execRateLock lane s
  | .trnReceive lane trn => Sys2Proof.Machine.execTrnReceive lane trn s
  | .adaptWindow lane groups taps => Sys2Proof.Machine.execAdaptWindow lane groups taps s
  | .rdbkReceive lane t1 t2 t3 t4 result => Sys2Proof.Machine.execRdbkReceive lane t1 t2 t3 t4 result s
  | .trainingTimeout lane => Sys2Proof.Machine.execTrainingTimeout lane s
  | .backoffEnd lane => Sys2Proof.Machine.execBackoffEnd lane s
  | .signalAppear lane => Sys2Proof.Machine.execSignalAppear lane s
  | .absentRetry lane => Sys2Proof.Machine.execAbsentRetry lane s
  | .laneLoss lane lost => Sys2Proof.Machine.execLaneLoss lane lost s
  | .idleEnd lane => Sys2Proof.Machine.execIdleEnd lane s
  | .remeasureInterval lane => Sys2Proof.Machine.execRemeasureInterval lane s
  | .loopTimeout lane => Sys2Proof.Machine.execLoopTimeout lane s
  | .retrain lane => Sys2Proof.Machine.execRetrain lane s
  | .unfreeze lane => Sys2Proof.Machine.execUnfreeze lane s
  | .remeasure lane => Sys2Proof.Machine.execRemeasure lane s
  | .sofReceive lane data intact => Sys2Proof.Machine.execSofReceive lane data intact s
  | .sofMiss lane => Sys2Proof.Machine.execSofMiss lane s
  | .msSectionForward lane data ok => Sys2Proof.Machine.execMsSectionForward lane data ok s
  | .msEntryDecode lane data ok => Sys2Proof.Machine.execMsEntryDecode lane data ok s
  | .insertPos => Sys2Proof.Machine.execInsertPos s
  | .insertNeg => Sys2Proof.Machine.execInsertNeg s
  | .bypass => Sys2Proof.Machine.execBypass s
  | .block => Sys2Proof.Machine.execBlock s
  | .close => Sys2Proof.Machine.execClose s
  | .carrier => Sys2Proof.Machine.execCarrier s
  | .configMilestone => Sys2Proof.Machine.execConfigMilestone s
  | .configCarrier => Sys2Proof.Machine.execConfigCarrier s
  | .configRelease => Sys2Proof.Machine.execConfigRelease s
  | .deferredCommand => Sys2Proof.Machine.execDeferredCommand s
  | .roadblock lane run => Sys2Proof.Machine.execRoadblock lane run s
  | .rbCtlWrite host pairEn => Sys2Proof.Machine.execRbCtlWrite host pairEn s
  | .rrRequest lane data ok => Sys2Proof.Machine.execRrRequest lane data ok s
  | .rrReply lane data ok => Sys2Proof.Machine.execRrReply lane data ok s
  | .rrTimeout lane dest port tag => Sys2Proof.Machine.execRrTimeout lane dest port tag s
  | .telemetryRecordReceive lane data ok => Sys2Proof.Machine.execTelemetryRecordReceive lane data ok s
  | .telemetryUse lane data ok => Sys2Proof.Machine.execTelemetryUse lane data ok s
  | .nodeSeen leg tn => Sys2Proof.Machine.execNodeSeen leg tn s
  | .incomingOn leg => Sys2Proof.Machine.execIncomingOn leg s
  | .dtMaxExpiry leg => Sys2Proof.Machine.execDtMaxExpiry leg s
  | .nodeTimeout leg => Sys2Proof.Machine.execNodeTimeout leg s
  | .carrierBoundary => Sys2Proof.Machine.execCarrierBoundary s
  | .carrierEdge => Sys2Proof.Machine.execCarrierEdge s
  | .desatTrip levels => Sys2Proof.Machine.execDesatTrip levels s
  | .cellLaneLoss => Sys2Proof.Machine.execCellLaneLoss s
  | .followedPlaneLost => Sys2Proof.Machine.execFollowedPlaneLost s
  | .vsense => Sys2Proof.Machine.execVsense s
  | .ovx => Sys2Proof.Machine.execOvx s
  | .channelYFire => Sys2Proof.Machine.execChannelYFire s
  | .otpBypassRecord => Sys2Proof.Machine.execOtpBypassRecord s
  | .bypassPulse y => Sys2Proof.Machine.execBypassPulse y s
  | .auxPeriodBoundary => Sys2Proof.Machine.execAuxPeriodBoundary s
  | .auxOnEnd => Sys2Proof.Machine.execAuxOnEnd s
  | .auxIlim => Sys2Proof.Machine.execAuxIlim s
  | .auxUndervoltage => Sys2Proof.Machine.execAuxUndervoltage s
  | .auxStart => Sys2Proof.Machine.execAuxStart s
  | .maintFire => Sys2Proof.Machine.execMaintFire s
  | .key1 => Sys2Proof.Machine.execKey1 s
  | .key2 => Sys2Proof.Machine.execKey2 s
  | .cpgFall => Sys2Proof.Machine.execCpgFall s
  | .cpgRise aonHigh a b c d aonOk => Sys2Proof.Machine.execCpgRise aonHigh a b c d aonOk s
  | .cellReady => Sys2Proof.Machine.execCellReady s
  | .wakeTimeout => Sys2Proof.Machine.execWakeTimeout s
  | .logRead master => Sys2Proof.Machine.execLogRead master s
  | .conversion raws => Sys2Proof.Machine.execConversion raws s
  | .calStart mask => Sys2Proof.Machine.execCalStart mask s
  | .calibrationDone results => Sys2Proof.Machine.execCalibrationDone results s
  | .trackerUpdate inst => Sys2Proof.Machine.execTrackerUpdate inst s
  | .ampFault inst => Sys2Proof.Machine.execAmpFault inst s
  | .resync inst => Sys2Proof.Machine.execResync inst s
  | .still inst => Sys2Proof.Machine.execStill inst s
  | .indexEdge => Sys2Proof.Machine.execIndexEdge s
  | .probeEdge probe rising => Sys2Proof.Machine.execProbeEdge probe rising s
  | .prbCapRead master probe => Sys2Proof.Machine.execPrbCapRead master probe s
  | .wmkTgtWrite mark target => Sys2Proof.Machine.execWmkTgtWrite mark target s
  | .wmkCrossing mark => Sys2Proof.Machine.execWmkCrossing mark s
  | .wmkPulseEnd mark => Sys2Proof.Machine.execWmkPulseEnd mark s
  | .pxState lane head body clean => Sys2Proof.Machine.execPxState lane head body clean s
  | .pxGraft lane head body clean => Sys2Proof.Machine.execPxGraft lane head body clean s
  | .pxMlist lane head body clean => Sys2Proof.Machine.execPxMlist lane head body clean s
  | .pxMapdig lane data clean => Sys2Proof.Machine.execPxMapdig lane data clean s
  | .crosslinkLost => Sys2Proof.Machine.execCrosslinkLost s
  | .hbLost => Sys2Proof.Machine.execHbLost s
  | .coverageStall counter => Sys2Proof.Machine.execCoverageStall counter s
  | .voteComplete => Sys2Proof.Machine.execVoteComplete s
  | .fitHoldExpiry => Sys2Proof.Machine.execFitHoldExpiry s
  | .orphan => Sys2Proof.Machine.execOrphan s
  | .relinquish => Sys2Proof.Machine.execRelinquish s
  | .resume => Sys2Proof.Machine.execResume s
  | .pairTripClr => Sys2Proof.Machine.execPairTripClr s
  | .fault => Sys2Proof.Machine.execFault s
  | .clear => Sys2Proof.Machine.execClear s
  | .xcmpExchange => Sys2Proof.Machine.execXcmpExchange s
  | .xcmpFault => Sys2Proof.Machine.execXcmpFault s
  | .clockCheck y ticks => Sys2Proof.Machine.execClockCheck y ticks s
  | .supplyFault y inside => Sys2Proof.Machine.execSupplyFault y inside s
  | .paramCrcCheck y => Sys2Proof.Machine.execParamCrcCheck y s
  | .lineQualify y line closed => Sys2Proof.Machine.execLineQualify y line closed s
  | .testPulse tp openX openY => Sys2Proof.Machine.execTestPulse tp openX openY s
  | .intestCheck line => Sys2Proof.Machine.execIntestCheck line s
  | .discrepancy pair => Sys2Proof.Machine.execDiscrepancy pair s
  | .fbFault inst => Sys2Proof.Machine.execFbFault inst s
  | .offPulse pair y seen => Sys2Proof.Machine.execOffPulse pair y seen s
  | .cat1Timeout inst => Sys2Proof.Machine.execCat1Timeout inst s
  | .tripInput trip high => Sys2Proof.Machine.execTripInput trip high s
  | .tripClr mask => Sys2Proof.Machine.execTripClr mask s
  | .srstPulse lenX lenY skew => Sys2Proof.Machine.execSrstPulse lenX lenY skew s
  | .instReqWrite value => Sys2Proof.Machine.execInstReqWrite value s
  | .safetyRun => Sys2Proof.Machine.execSafetyRun s
  | .safetyConfig => Sys2Proof.Machine.execSafetyConfig s
  | .btStart => Sys2Proof.Machine.execBtStart s
  | .btAbort => Sys2Proof.Machine.execBtAbort s
  | .btTorqueTimeout => Sys2Proof.Machine.execBtTorqueTimeout s
  | .btSample => Sys2Proof.Machine.execBtSample s
  | .btHoldEnd => Sys2Proof.Machine.execBtHoldEnd s
  | .btDue => Sys2Proof.Machine.execBtDue s
  | .timeIncWrite value => Sys2Proof.Machine.execTimeIncWrite value s
  | .timeStepWrite value => Sys2Proof.Machine.execTimeStepWrite value s
  | .syncFree => Sys2Proof.Machine.execSyncFree s
  | .syncLocked => Sys2Proof.Machine.execSyncLocked s
  | .syncHoldover => Sys2Proof.Machine.execSyncHoldover s
  | .kickLost => Sys2Proof.Machine.execKickLost s
  | .holdExp => Sys2Proof.Machine.execHoldExp s
  | .nowCapture master => Sys2Proof.Machine.execNowCapture master s
  | .frameReceive port data ok => Sys2Proof.Machine.execFrameReceive port data ok s
  | .svLost stream => Sys2Proof.Machine.execSvLost stream s
  | .frameLaunch port queue => Sys2Proof.Machine.execFrameLaunch port queue s
  | .frameSent port => Sys2Proof.Machine.execFrameSent port s
  | .linkDown port => Sys2Proof.Machine.execLinkDown port s
  | .supervisionFrame => Sys2Proof.Machine.execSupervisionFrame s
  | .ddEntryAge => Sys2Proof.Machine.execDdEntryAge s
  | .txtsRead master => Sys2Proof.Machine.execTxtsRead master s
  | .reelFrame inst => Sys2Proof.Machine.execReelFrame inst s
  | .reelRecordClose inst => Sys2Proof.Machine.execReelRecordClose inst s
  | .rearmEnd inst => Sys2Proof.Machine.execRearmEnd inst s
  | .reelArm inst => Sys2Proof.Machine.execReelArm inst s
  | .reelStop inst => Sys2Proof.Machine.execReelStop inst s
  | .reelForce mask => Sys2Proof.Machine.execReelForce mask s
  | .reelRelease inst slot => Sys2Proof.Machine.execReelRelease inst slot s
  | .sqDoorbell fn ring value => Sys2Proof.Machine.execSqDoorbell fn ring value s
  | .cqDoorbell fn ring value => Sys2Proof.Machine.execCqDoorbell fn ring value s
  | .descriptorFetch ring data bad => Sys2Proof.Machine.execDescriptorFetch ring data bad s
  | .hostReadTimeout ring fetch timeout data => Sys2Proof.Machine.execHostReadTimeout ring fetch timeout data s
  | .hostqNop ring => Sys2Proof.Machine.execHostqNop ring s
  | .regRd ring => Sys2Proof.Machine.execRegRd ring s
  | .regWr ring => Sys2Proof.Machine.execRegWr ring s
  | .copyIn ring data => Sys2Proof.Machine.execCopyIn ring data s
  | .copyOut ring => Sys2Proof.Machine.execCopyOut ring s
  | .remote ring => Sys2Proof.Machine.execRemote ring s
  | .cfgSwap ring => Sys2Proof.Machine.execCfgSwap ring s
  | .ethTx ring data => Sys2Proof.Machine.execEthTx ring data s
  | .rxBuf ring => Sys2Proof.Machine.execRxBuf ring s
  | .canTx ring data => Sys2Proof.Machine.execCanTx ring data s
  | .canCancel ring late => Sys2Proof.Machine.execCanCancel ring late s
  | .quoteDesc ring => Sys2Proof.Machine.execQuoteDesc ring s
  | .cert ring => Sys2Proof.Machine.execCert ring s
  | .command ring data => Sys2Proof.Machine.execCommand ring data s
  | .fwLoad ring data => Sys2Proof.Machine.execFwLoad ring data s
  | .cqEntryWrite cq => Sys2Proof.Machine.execCqEntryWrite cq s
  | .irqCoalesceTimeout cq => Sys2Proof.Machine.execIrqCoalesceTimeout cq s
  | .flr fn => Sys2Proof.Machine.execFlr fn s
  | .denyLogRead master => Sys2Proof.Machine.execDenyLogRead master s
  | .setOwner arg pub sig => Sys2Proof.Machine.execSetOwner arg pub sig s
  | .seal arg pub sig => Sys2Proof.Machine.execSeal arg pub sig s
  | .addKey arg pub sig => Sys2Proof.Machine.execAddKey arg pub sig s
  | .revoke arg pub sig => Sys2Proof.Machine.execRevoke arg pub sig s
  | .returnCmd arg pub sig => Sys2Proof.Machine.execReturnCmd arg pub sig s
  | .fwCommit arg pub sig => Sys2Proof.Machine.execFwCommit arg pub sig s
  | .quote => Sys2Proof.Machine.execQuote s
  | .quoteDone => Sys2Proof.Machine.execQuoteDone s
  | .extend idx => Sys2Proof.Machine.execExtend idx s
  | .rngFail => Sys2Proof.Machine.execRngFail s
  | .canEnable ctl => Sys2Proof.Machine.execCanEnable ctl s
  | .canDisable ctl => Sys2Proof.Machine.execCanDisable ctl s
  | .canFrameSent ctl sent => Sys2Proof.Machine.execCanFrameSent ctl sent s
  | .canFrameReceived ctl frame esi own seen => Sys2Proof.Machine.execCanFrameReceived ctl frame esi own seen s
  | .canError ctl lec tx more => Sys2Proof.Machine.execCanError ctl lec tx more s
  | .recovered ctl => Sys2Proof.Machine.execRecovered ctl s
  | .recover ctl => Sys2Proof.Machine.execRecover ctl s
  | .tx ctl => Sys2Proof.Machine.execTx ctl s
  | .cancel ctl late => Sys2Proof.Machine.execCancel ctl late s
  | .rxfRead master ctl => Sys2Proof.Machine.execRxfRead master ctl s
  | .clockMonitorWindow core ref refLost => Sys2Proof.Machine.execClockMonitorWindow core ref refLost s
  | .clockStop clock => Sys2Proof.Machine.execClockStop clock s
  | .supplyExcursion out => Sys2Proof.Machine.execSupplyExcursion out s
  | .pwrCtlWrite lane value => Sys2Proof.Machine.execPwrCtlWrite lane value s
  | .islandReady island => Sys2Proof.Machine.execIslandReady island s
  | .wrstN => Sys2Proof.Machine.execWrstN s
  | .warm key => Sys2Proof.Machine.execWarm key s
  | .wdogExpiry => Sys2Proof.Machine.execWdogExpiry s
  | .warmReset => Sys2Proof.Machine.execWarmReset s
  | .blkRst go num => Sys2Proof.Machine.execBlkRst go num s
  | .blockResetDone num => Sys2Proof.Machine.execBlockResetDone num s
  | .halt => Sys2Proof.Machine.execHalt s
  | .resumeDebug => Sys2Proof.Machine.execResumeDebug s
  | .reset key => Sys2Proof.Machine.execReset key s
  | .extest bits => Sys2Proof.Machine.execExtest bits s
  | .idcode => Sys2Proof.Machine.execIdcode s
  | .samplePreload bits => Sys2Proof.Machine.execSamplePreload bits s
  | .dbgAccess op epoch addr data => Sys2Proof.Machine.execDbgAccess op epoch addr data s
  | .tapBypass code => Sys2Proof.Machine.execTapBypass code s
  | .porstNFall => Sys2Proof.Machine.execPorstNFall s
  | .commaAlignment lane => Sys2Proof.Machine.execCommaAlignment lane s
  | .pairHbIEdge => Sys2Proof.Machine.execPairHbIEdge s
  | .linkUp port => Sys2Proof.Machine.execLinkUp port s
  | .idReady => Sys2Proof.Machine.execIdReady s
  | .protocolException ctl => Sys2Proof.Machine.execProtocolException ctl s
  | .outtestCheck pair seenX seenY => Sys2Proof.Machine.execOuttestCheck pair seenX seenY s
  | .safetyCauseClear inst => Sys2Proof.Machine.execSafetyCauseClear inst s
  | .configurationCheck => Sys2Proof.Machine.execConfigurationCheck s
  | .vddAonWakeLevel a b c d aonOk => Sys2Proof.Machine.execVddAonWakeLevel a b c d aonOk s

end Sys2Proof.Machine
end

