-- ==== Sys2Proof/Machine/Step.lean ====
section
/-! DEFINITION. A step: the command at the front of the queue; with none, the device idles for a nominal nanosecond of CORE. -/

namespace Sys2Proof.Machine

/-- One step. Idle, the time goes on (R344; log entry 4). -/
def step (s : State) : Host.Outcome State Fault Refusal :=
  match s.pending with
  | [] => commit Dev.pass s
  | c :: rest => exec c { s with pending := rest }

/-- The command that a word spells is put at the front of the queue; no row of the command table gives bits, so no word spells one. -/
def State.withFetchWord (s : State) (nbits w : Nat) : State :=
  match decodeTableWord nbits w with
  | some c => { s with pending := c :: s.pending }
  | none => s

end Sys2Proof.Machine
end

