-- ==== Sys2Proof/Safety.lean ====
section
/-! DEFINITION. The terms in which claims about the block are stated: a command that completes with a device, or a property of it, the
blocks that it leaves as they were, and the invariant of a MANAGER's status bits. -/

namespace Sys2Proof.Machine

/-- The command is executed to a next state: the queue is as it was, and the device is `u` but for what then follows in other blocks
(`Dev.settle`: lanes that went down and requests on them, the cross-link, Roadblocks, the end of a swap, the DIG source, the /TRN/ of the
lanes, a CONCENTRATOR's upstream superframes). Settling touches no block but GLOBAL, HOSTQ, the lanes, REEL and PAIR, and TIME and GATE only
where a lane has moved. -/
def State.Runs (s : State) (c : Instr) (u : Dev) : Prop := exec c s = .next { s with dev := Dev.settle s.dev u }

/-- The command is executed to a next state, and the device that it leaves, before that, has a property. -/
def State.Does (s : State) (c : Instr) (P : Dev → Prop) : Prop := ∃ u, s.Runs c u ∧ P u

/-- The frame: the device `u` is `s` but for the blocks of the list, for what it has put out, and for the completion. -/
def Dev.Keeps (own : List Blk) (outs : List Out) (s u : Dev) : Prop :=
  u.role = s.role ∧ u.out = outs ∧ (Blk.global ∉ own → u.glob = s.glob) ∧ (Blk.secure ∉ own → u.sec = s.sec) ∧
  (Blk.time ∉ own → u.time = s.time) ∧ (Blk.tollgate ∉ own → u.toll = s.toll) ∧ (Blk.hostq ∉ own → u.hostq = s.hostq) ∧
  (Blk.trunk ∉ own → u.lanes = s.lanes ∧ u.proto = s.proto) ∧ (Blk.loom ∉ own → u.loom = s.loom) ∧
  (Blk.spindle ∉ own → u.spin = s.spin) ∧ (Blk.gate ∉ own → u.gate = s.gate) ∧ (Blk.adc ∉ own → u.adc = s.adc) ∧
  (Blk.angle ∉ own → u.ang = s.ang) ∧ (Blk.safety ∉ own → u.safe = s.safe) ∧ (Blk.reel ∉ own → u.reel = s.reel) ∧
  (Blk.eth ∉ own → u.eth = s.eth) ∧ (Blk.can ∉ own → u.can = s.can) ∧ (Blk.pair ∉ own → u.pair = s.pair) ∧
  (Blk.debug ∉ own → u.dbg = s.dbg)

/-- The frame inside a block's register file: it is as it was but for the fields of the list, each with its two indices. -/
def Dev.Within (b : Blk) (l : List (Fld × Nat × Nat)) (s u : Dev) : Prop :=
  ∀ k, (∀ x ∈ l, k ≠ x.1.key 0 x.2.1 x.2.2) → Tab.find (u.regsOf b) k = Tab.find (s.regsOf b) k

/-- The status bits of a MANAGER that follow a condition show it: `PAIR.STAT.ELIGIBLE` a unit in STANDBY without a critical fault (R300,
R303), `PAIR.STAT.XLINK_UP` the cross-link (R290), `TRUNK.RB_STAT.HOLD` a trigger in force (R228, R231). -/
structure Dev.Shows (s : Dev) : Prop where
  eligible : s.f F.PAIR_STAT_ELIGIBLE = b2n (decide (s.f F.PAIR_STAT_STATE = 1) && !s.crit)
  xlink    : s.flag F.PAIR_STAT_XLINK_UP = s.xlinkNow
  hold     : s.f F.LANE_RB_STAT_HOLD = b2n (s.ownTrip || s.pairTrip)
  events   : s.reel.ev = 0

/-- The invariant: in the role MANAGER the status bits show their conditions. -/
def State.Inv (s : State) : Prop := s.dev.role = .manager → s.dev.Shows

end Sys2Proof.Machine
end

