-- ==== Sys2Proof/WellFormed.lean ====
section
/-! DEFINITION. The operands that a command can have: register indices, lanes and field values inside their ranges (R4, R20, R199). A
command outside them does not come (log entry 48); `exec` answers it, but what it answers then models nothing. -/

namespace Sys2Proof

open Sys2Proof.Machine

/-- Lanes of TRUNK are numbered from 0, lanes of LEAF from 64 (R20). -/
def laneNo (L : Nat) : Bool := decide (L < 48) || (decide (64 ≤ L) && decide (L < 192))

/-- A CAN frame: a DLC of four bits and at most 64 bytes of data (R424). -/
def frameOk (f : CanFrame) : Bool := decide (f.dlc < 16) && decide (f.data.length ≤ 64) && decide (f.id < 2 ^ 32)

/-- A well-formed command. -/
def Instr.wf : Instr → Bool
  | .porstNRise _ _ _ _ => true
  | .bootImageCheck _ => true
  | .cycleBoundary => true
  | .claim => true
  | .assemblyAbandon arm => decide (arm < 12)
  | .milestoneAssemblyEnd arm => decide (arm < 12)
  | .cycleCtlWrite _ _ period => decide (period < 2048)
  | .cyclePhaseWrite phase => decide (phase < 2 ^ 17)
  | .globalCfgSwapWrite target => decide (target < 2 ^ 64)
  | .swapChecksDone => true
  | .registerWrite master off n value => decide (master < 18) && decide (off < 2 ^ 32) && (n == 4 || n == 8) && decide (value < 2 ^ 64)
  | .runDispatch sh => decide (sh < 16)
  | .deadlineExpiry slot => decide (slot < 64)
  | .runEnd sh => decide (sh < 16)
  | .ingressWrite word => decide (word < 2048)
  | .bar2Write fn off n value => decide (fn < 5) && decide (off < 2 ^ 32) && (n == 4 || n == 8) && decide (value < 2 ^ 64)
  | .scrubPass => true
  | .loomCtlWrite _ _ _ => true
  | .slotRateWrite slot every phase => decide (slot < 64) && decide (every < 128) && decide (phase < 64)
  | .nop sh => decide (sh < 16)
  | .mov sh => decide (sh < 16)
  | .movi sh => decide (sh < 16)
  | .ldx sh => decide (sh < 16)
  | .stx sh => decide (sh < 16)
  | .add sh => decide (sh < 16)
  | .sub sh => decide (sh < 16)
  | .mul sh => decide (sh < 16)
  | .mac sh => decide (sh < 16)
  | .msu sh => decide (sh < 16)
  | .neg sh => decide (sh < 16)
  | .abs sh => decide (sh < 16)
  | .addw sh => decide (sh < 16)
  | .subw sh => decide (sh < 16)
  | .lim sh => decide (sh < 16)
  | .min sh => decide (sh < 16)
  | .max sh => decide (sh < 16)
  | .pi sh => decide (sh < 16)
  | .pir sh => decide (sh < 16)
  | .lpf1 sh => decide (sh < 16)
  | .hpf1 sh => decide (sh < 16)
  | .ramp sh => decide (sh < 16)
  | .dead sh => decide (sh < 16)
  | .hyst sh => decide (sh < 16)
  | .clk sh => decide (sh < 16)
  | .prk sh => decide (sh < 16)
  | .iprk sh => decide (sh < 16)
  | .sincos sh => decide (sh < 16)
  | .atn2 sh => decide (sh < 16)
  | .sqrt sh => decide (sh < 16)
  | .rcp sh => decide (sh < 16)
  | .div sh => decide (sh < 16)
  | .lut1 sh => decide (sh < 16)
  | .cmpeq sh => decide (sh < 16)
  | .cmpne sh => decide (sh < 16)
  | .cmplt sh => decide (sh < 16)
  | .cmple sh => decide (sh < 16)
  | .cmpgt sh => decide (sh < 16)
  | .cmpge sh => decide (sh < 16)
  | .sel sh => decide (sh < 16)
  | .and sh => decide (sh < 16)
  | .or sh => decide (sh < 16)
  | .xor sh => decide (sh < 16)
  | .not sh => decide (sh < 16)
  | .pset sh => decide (sh < 16)
  | .pand sh => decide (sh < 16)
  | .por sh => decide (sh < 16)
  | .pnot sh => decide (sh < 16)
  | .pget sh => decide (sh < 16)
  | .spindleUpdate arm => decide (arm < 12)
  | .stale cell => decide (cell < 6144)
  | .drift cell => decide (cell < 6144)
  | .readmit cell => decide (cell < 6144)
  | .locked cell => decide (cell < 6144)
  | .strikeDecay cell => decide (cell < 6144)
  | .readmitHoldExpiry cell => decide (cell < 6144)
  | .closeRepeat cell => decide (cell < 6144)
  | .rateWindowEnd arm => decide (arm < 12)
  | .capWindowEnd arm => decide (arm < 12)
  | .selection arm => decide (arm < 12)
  | .exclude cell => decide (cell < 6144)
  | .release cell => decide (cell < 6144)
  | .unlock cell => decide (cell < 6144)
  | .cellCmdClose cell => decide (cell < 6144)
  | .cellRelease all index => (if all then decide (index < 12) else decide (index < 6144))
  | .modeMs all index => (if all then decide (index < 12) else decide (index < 6144))
  | .modeCarrier all index => (if all then decide (index < 12) else decide (index < 6144))
  | .cellBlock all index => (if all then decide (index < 12) else decide (index < 6144))
  | .recIdxWrite _ cell => decide (cell < 6144)
  | .laneEnable lane => laneNo lane
  | .laneDisable lane => laneNo lane
  | .rateWrite lane rate => laneNo lane && decide (rate < 4)
  | .loopWrite lane loop => laneNo lane && decide (loop < 8)
  | .pwrL1 lane => laneNo lane
  | .pwrL3 lane => laneNo lane
  | .pwrL0 lane => laneNo lane
  | .l3ExitComplete lane _ => laneNo lane
  | .rateHuntStep lane => laneNo lane
  | .rateLock lane => laneNo lane
  | .trnReceive lane _ => laneNo lane
  | .adaptWindow lane groups _ => laneNo lane && decide (groups.length = 1024) && groups.all fun g => decide (g < 1024)
  | .rdbkReceive lane t1 t2 t3 t4 result => laneNo lane && decide (t1 < 2 ^ 64) && decide (t2 < 2 ^ 64) && decide (t3 < 2 ^ 64) && decide (t4 < 2 ^ 64) && decide (result < 2 ^ 32)
  | .trainingTimeout lane => laneNo lane
  | .backoffEnd lane => laneNo lane
  | .signalAppear lane => laneNo lane
  | .absentRetry lane => laneNo lane
  | .laneLoss lane lost => laneNo lane && decide (lost.cause < 16) && decide (lost.groups.length < 1024) && lost.groups.all fun g => decide (g < 1024)
  | .idleEnd lane => laneNo lane
  | .remeasureInterval lane => laneNo lane
  | .loopTimeout lane => laneNo lane
  | .retrain lane => laneNo lane
  | .unfreeze lane => laneNo lane
  | .remeasure lane => laneNo lane
  | .sofReceive lane data _ => laneNo lane && data.length == 24
  | .sofMiss lane => laneNo lane
  | .msSectionForward lane _ _ => laneNo lane
  | .msEntryDecode lane _ _ => laneNo lane
  | .insertPos => true
  | .insertNeg => true
  | .bypass => true
  | .block => true
  | .close => true
  | .carrier => true
  | .configMilestone => true
  | .configCarrier => true
  | .configRelease => true
  | .deferredCommand => true
  | .roadblock lane run => laneNo lane && decide (1 ≤ run)
  | .rbCtlWrite _ _ => true
  | .rrRequest lane _ _ => laneNo lane
  | .rrReply lane _ _ => laneNo lane
  | .rrTimeout lane dest port tag => laneNo lane && decide (dest < 256) && decide (port < 256) && decide (tag < 256)
  | .telemetryRecordReceive lane _ _ => laneNo lane
  | .telemetryUse lane _ _ => laneNo lane
  | .nodeSeen leg tn => decide (leg < 2) && decide (tn < 2 ^ 32)
  | .incomingOn leg => decide (leg < 2)
  | .dtMaxExpiry leg => decide (leg < 2)
  | .nodeTimeout leg => decide (leg < 2)
  | .carrierBoundary => true
  | .carrierEdge => true
  | .desatTrip levels => decide (levels < 16)
  | .cellLaneLoss => true
  | .followedPlaneLost => true
  | .vsense => true
  | .ovx => true
  | .channelYFire => true
  | .otpBypassRecord => true
  | .bypassPulse _ => true
  | .auxPeriodBoundary => true
  | .auxOnEnd => true
  | .auxIlim => true
  | .auxUndervoltage => true
  | .auxStart => true
  | .maintFire => true
  | .key1 => true
  | .key2 => true
  | .cpgFall => true
  | .cpgRise _ _ _ _ _ _ => true
  | .cellReady => true
  | .wakeTimeout => true
  | .logRead master => decide (master < 18)
  | .conversion _ => true
  | .calStart mask => decide (mask < 65536)
  | .calibrationDone _ => true
  | .trackerUpdate inst => decide (inst < 4)
  | .ampFault inst => decide (inst < 4)
  | .resync inst => decide (inst < 4)
  | .still inst => decide (inst < 4)
  | .indexEdge => true
  | .probeEdge probe _ => decide (probe < 4)
  | .prbCapRead master probe => decide (master < 18) && decide (probe < 4)
  | .wmkTgtWrite mark target => decide (mark < 8) && decide (target < 2 ^ 64)
  | .wmkCrossing mark => decide (mark < 8)
  | .wmkPulseEnd mark => decide (mark < 8)
  | .pxState lane _ _ _ => laneNo lane
  | .pxGraft lane _ _ _ => laneNo lane
  | .pxMlist lane _ _ _ => laneNo lane
  | .pxMapdig lane _ _ => laneNo lane
  | .crosslinkLost => true
  | .hbLost => true
  | .coverageStall counter => decide (counter < 4)
  | .voteComplete => true
  | .fitHoldExpiry => true
  | .orphan => true
  | .relinquish => true
  | .resume => true
  | .pairTripClr => true
  | .fault => true
  | .clear => true
  | .xcmpExchange => true
  | .xcmpFault => true
  | .clockCheck _ ticks => decide (ticks < 2 ^ 32)
  | .supplyFault _ _ => true
  | .paramCrcCheck _ => true
  | .lineQualify _ line _ => decide (line < 16)
  | .testPulse tp openX openY => decide (tp < 4) && decide (openX < 65536) && decide (openY < 65536)
  | .intestCheck line => decide (line < 16)
  | .discrepancy pair => decide (pair < 8)
  | .fbFault inst => decide (inst < 8)
  | .offPulse pair _ _ => decide (pair < 4)
  | .cat1Timeout inst => decide (inst < 8)
  | .tripInput trip _ => decide (trip < 8)
  | .tripClr mask => decide (mask < 256)
  | .srstPulse lenX lenY skew => decide (lenX < 2 ^ 32) && decide (lenY < 2 ^ 32) && decide (skew < 2 ^ 32)
  | .instReqWrite value => decide (value < 256)
  | .safetyRun => true
  | .safetyConfig => true
  | .btStart => true
  | .btAbort => true
  | .btTorqueTimeout => true
  | .btSample => true
  | .btHoldEnd => true
  | .btDue => true
  | .timeIncWrite value => decide (value < 2 ^ 64)
  | .timeStepWrite value => decide (value < 2 ^ 64)
  | .syncFree => true
  | .syncLocked => true
  | .syncHoldover => true
  | .kickLost => true
  | .holdExp => true
  | .nowCapture master => decide (master < 18)
  | .frameReceive port _ _ => decide (port < 4)
  | .svLost stream => decide (stream < 32)
  | .frameLaunch port queue => decide (port < 4) && decide (queue < 4)
  | .frameSent port => decide (port < 4)
  | .linkDown port => decide (port < 4)
  | .supervisionFrame => true
  | .ddEntryAge => true
  | .txtsRead master => decide (master < 18)
  | .reelFrame inst => decide (inst < 4)
  | .reelRecordClose inst => decide (inst < 4)
  | .rearmEnd inst => decide (inst < 4)
  | .reelArm inst => decide (inst < 4)
  | .reelStop inst => decide (inst < 4)
  | .reelForce mask => decide (mask < 16)
  | .reelRelease inst slot => decide (inst < 4) && decide (slot < 256)
  | .sqDoorbell fn ring value => decide (fn < 5) && decide (ring < 64) && decide (value < 2 ^ 64)
  | .cqDoorbell fn ring value => decide (fn < 5) && decide (ring < 64) && decide (value < 2 ^ 64)
  | .descriptorFetch ring data bad => decide (ring < 64) && (bad.isSome || data.length == 64)
  | .hostReadTimeout ring _ _ _ => decide (ring < 64)
  | .hostqNop ring => decide (ring < 64)
  | .regRd ring => decide (ring < 64)
  | .regWr ring => decide (ring < 64)
  | .copyIn ring _ => decide (ring < 64)
  | .copyOut ring => decide (ring < 64)
  | .remote ring => decide (ring < 64)
  | .cfgSwap ring => decide (ring < 64)
  | .ethTx ring _ => decide (ring < 64)
  | .rxBuf ring => decide (ring < 64)
  | .canTx ring _ => decide (ring < 64)
  | .canCancel ring _ => decide (ring < 64)
  | .quoteDesc ring => decide (ring < 64)
  | .cert ring => decide (ring < 64)
  | .command ring _ => decide (ring < 64)
  | .fwLoad ring _ => decide (ring < 64)
  | .cqEntryWrite cq => decide (cq < 64)
  | .irqCoalesceTimeout cq => decide (cq < 64)
  | .flr fn => decide (fn < 5)
  | .denyLogRead master => decide (master < 18)
  | .setOwner _ _ _ => true
  | .seal _ _ _ => true
  | .addKey _ _ _ => true
  | .revoke _ _ _ => true
  | .returnCmd _ _ _ => true
  | .fwCommit _ _ _ => true
  | .quote => true
  | .quoteDone => true
  | .extend idx => decide (idx < 8)
  | .rngFail => true
  | .canEnable ctl => decide (ctl < 2)
  | .canDisable ctl => decide (ctl < 2)
  | .canFrameSent ctl sent => decide (ctl < 2) && decide (sent.ago < 2 ^ 32) && decide (sent.delay < 2 ^ 16)
  | .canFrameReceived ctl frame _ _ seen => decide (ctl < 2) && frameOk frame && decide (seen.ago < 2 ^ 32) && decide (seen.edges.length < 1024)
  | .canError ctl lec _ more => decide (ctl < 2) && decide (lec < 8) && decide (more < 256)
  | .recovered ctl => decide (ctl < 2)
  | .recover ctl => decide (ctl < 2)
  | .tx ctl => decide (ctl < 2)
  | .cancel ctl _ => decide (ctl < 2)
  | .rxfRead master ctl => decide (master < 18) && decide (ctl < 2)
  | .clockMonitorWindow _ _ _ => true
  | .clockStop clock => decide (clock < 3)
  | .supplyExcursion out => decide (out.supply < 6)
  | .pwrCtlWrite _ value => decide (value < 2 ^ 64)
  | .islandReady island => decide (island < 48)
  | .wrstN => true
  | .warm key => decide (key < 65536)
  | .wdogExpiry => true
  | .warmReset => true
  | .blkRst _ num => decide (num < 32)
  | .blockResetDone num => decide (num < 32)
  | .halt => true
  | .resumeDebug => true
  | .reset key => decide (key < 65536)
  | .extest _ => true
  | .idcode => true
  | .samplePreload _ => true
  | .dbgAccess op epoch addr data => decide (op < 16) && decide (epoch < 16) && decide (addr < 2 ^ 32) && decide (data < 2 ^ 64)
  | .tapBypass code => decide (code < 256)
  | .porstNFall => true
  | .commaAlignment lane => laneNo lane
  | .pairHbIEdge => true
  | .linkUp port => decide (port < 4)
  | .idReady => true
  | .protocolException ctl => decide (ctl < 2)
  | .outtestCheck pair seenX seenY => decide (pair < 4) && decide (seenX < 4) && decide (seenY < 4)
  | .safetyCauseClear inst => decide (inst < 8)
  | .configurationCheck => true
  | .vddAonWakeLevel _ _ _ _ _ => true

end Sys2Proof
end

