-- ==== Sys2Proof/Certificates/Slice0/Obligations.lean ====
section
/-! DEFINITION. The statements for the provers, one definition each. A command that completes is said by `State.Runs` (the device it
leaves) and `State.Does` (a property of that device); what it leaves unchanged by `Dev.Keeps` and `Dev.Within`. -/

open Sys2Proof Sys2Proof.Machine

/-- A step executes the command at the front of the queue; execution leaves the queue alone and always answers a next state. Every command is
answered with a next state (log entry 48). -/
def Obligations.StepTakesTheFirst : Prop :=
  (∀ (s : State) (c : Instr) (rest : List Instr), s.pending = c :: rest → step s = exec c { s with pending := rest }) ∧
  (∀ (s t : State) (c : Instr), exec c s = .next t → t.pending = s.pending) ∧
  (∀ (s : State) (c : Instr), ∃ t, exec c s = .next t)

/-- The state after reset, and what a step does on an empty queue. It rests on R6, R436, R439, R344. That the first state is one in which
`PORST_N` is low is log entry 1; that an empty queue lets time go on is log entry 4, with the resolution of entry 3. -/
def Obligations.ResetAndIdle : Prop :=
  State.reset.pending = [] ∧ State.reset.dev.role = .none ∧ State.reset.dev.glob.por = true ∧
  (∀ (G : Fld) (bank i j : Nat), State.reset.dev.fb G bank i j = G.reset .none) ∧ State.reset.dev.loom.ram = [] ∧
  State.reset.dev.reel.ram = [] ∧ State.reset.Inv ∧
  (∀ s : State, s.pending = [] → step s = .next { s with dev := Dev.settle s.dev s.dev.begin.pass }) ∧
  (∀ s : Dev, s.Keeps [.time] s.out s.pass) ∧
  (∀ s : Dev, s.time.fifth < 4 → s.pass.time = { s.time with fifth := s.time.fifth + 1 }) ∧
  (∀ s : Dev, 4 ≤ s.time.fifth → s.pass.time.frc = s.time.frc + 1 ∧ s.pass.time.fifth = 0 ∧ s.pass.time.pendInc = none ∧ s.pass.time.pendStep = none)

/-- Every step keeps the status bits of a MANAGER equal to the conditions they show. It rests on R228, R231, R290, R300, R303, R310. -/
def Obligations.StepKeepsTheStatusBits : Prop :=
  ∀ s t : State, s.Inv → step s = .next t → t.Inv

/-- Every Loom instruction word has the layout of R88, and decoding a word of a defined instruction gives the instruction back, and the other
way round. It states R88. -/
def Obligations.LoomWordsDecode : Prop :=
  (∀ x : LoomOp, x.wf = true → let w := x.encode
    w < 2 ^ 64 ∧ bits w 56 8 = x.opc.code ∧ bits w 52 4 = x.mod ∧ bits w 36 16 = x.dst ∧ bits w 20 16 = x.srca ∧
    bits w 4 16 = x.srcb ∧ bits w 0 4 = x.shf ∧ LoomOp.decode w = some x) ∧
  (∀ (w : Nat) (x : LoomOp), w < 2 ^ 64 → LoomOp.decode w = some x → x.wf = true ∧ x.encode = w)

/-- A write of TIME.INC within its limits takes effect at the next tick; one outside them completes with INVALID and changes nothing. It
states R346. -/
def Obligations.TimeIncWriteIsChecked : Prop :=
  ∀ (s : State) (v : Nat), s.dev.blockStatus .time 0x8 = .ok →
    let fits := s.dev.role = .manager ∧ 0x04FEB851EB85 ≤ v ∧ v ≤ 0x050147AE147B ∧
      (s.dev.run = true → s.dev.tickInc ≤ v + 54975581 ∧ v ≤ s.dev.tickInc + 54975581)
    (fits → s.Does (.timeIncWrite v) fun u => u.cpl = some (.ok, 0) ∧
        u.time = { s.dev.time with pendInc := some v, kickAt := s.dev.time.frc } ∧ s.dev.Keeps [.time] [] u ∧
        u.toTick.tickInc = v) ∧
    (¬ fits → s.Runs (.timeIncWrite v) (s.dev.begin.complete .invalid))

/-- TIME.STEP is accepted once and only while the cycle stands; SYNC, KICK_LOST and HOLD_EXP change the quality of time as written. It rests
on R347, R348. -/
def Obligations.TimeStepAndSync : Prop :=
  ∀ (s : State), s.dev.role = .manager → let d := s.dev.begin
    (∀ v, s.dev.blockStatus .time 0x10 = .ok →
      (s.dev.run = true → s.Runs (.timeStepWrite v) (d.complete .busy)) ∧
      (s.dev.run = false → s.dev.f F.TIME_STAT_STEP_AVAIL = 0 → s.Runs (.timeStepWrite v) (d.complete .invalid)) ∧
      (s.dev.run = false → s.dev.f F.TIME_STAT_STEP_AVAIL ≠ 0 → s.Runs (.timeStepWrite v)
        ((({ d with time := { d.time with pendStep := some (sgn 64 v) }, glob := { d.glob with nextCyc := 0 } }.put
          F.TIME_STAT_STEP_AVAIL 0).raise F.TIME_STAT_STEPPED).complete .ok))) ∧
    (∀ c v, (c, v) ∈ [(Instr.syncFree, 0), (.syncLocked, 1), (.syncHoldover, 2)] → s.dev.blockStatus .time 0 = .ok →
      let d := (d.put F.TIME_CTL_HOLD_LIM (s.dev.f F.TIME_CTL_HOLD_LIM)).put F.TIME_CTL_KICK_TMO (s.dev.f F.TIME_CTL_KICK_TMO)
      (s.dev.f F.TIME_CTL_SYNC = v → s.Runs c (d.complete .ok)) ∧
      (s.dev.f F.TIME_CTL_SYNC ≠ v → let d := (d.put F.TIME_CTL_SYNC v).put F.TIME_STAT_TQ (if v = 0 then 0 else 1)
        s.Runs c ({ d with time := { d.time with holdAt := if v = 2 then some s.dev.time.frc else none } }.complete .ok))) ∧
    (s.dev.f F.TIME_CTL_SYNC = 1 → s.dev.f F.TIME_CTL_KICK_TMO ≠ 0 →
      let d := d.frcTo (s.dev.time.kickAt + s.dev.f F.TIME_CTL_KICK_TMO * 200000)
      let u := (d.put F.TIME_CTL_SYNC 2).put F.TIME_STAT_TQ 1
      s.Runs .kickLost ({ u with time := { u.time with holdAt := some d.time.frc } }.raise F.TIME_STAT_KICK_LOST)) ∧
    (s.dev.f F.TIME_CTL_SYNC = 2 → s.dev.f F.TIME_CTL_HOLD_LIM ≠ 0 →
      s.Runs .holdExp (((d.frcTo (s.dev.time.holdAt.getD 0 + s.dev.f F.TIME_CTL_HOLD_LIM * (12 * 10 ^ 9))).raise F.TIME_STAT_HOLD_EXP).put F.TIME_STAT_TQ 0))

/-- A read of a register whose read has an effect returns its value and has that effect. It rests on R344, R265, R285, R355, R405, R430. -/
def Obligations.ReadsThatCapture : Prop :=
  ∀ (s : State) (m : Nat), let d := s.dev.begin
    let may := fun (b : Blk) (o n : Nat) => d.accessCheck m b b.num o n 1 false = none
    (may .time 0x20 8 →
      let u := ((d.put F.TIME_NOW_LO_NS (nsOf s.dev.nowFix)).put F.TIME_NOW_LO_SUB (subOf s.dev.nowFix)).put F.TIME_NOW_HI_SEC (secOf s.dev.nowFix)
      s.Runs (.nowCapture m) (u.complete .ok (u.word F.regTimeNowLo 0 0 0))) ∧
    (∀ x l, s.dev.eth.txts = x :: l → may .eth 0x200 8 →
      let u := ({ d with eth := { d.eth with txts := l } }).put F.ETH_TXTS_STAT_COUNT l.length
      let u := ((u.put F.ETH_TXTS_LO_VALID 1).put F.ETH_TXTS_LO_NS (nsOf x.time)).put F.ETH_TXTS_LO_SUB (subOf x.time)
      let u := ((u.put F.ETH_TXTS_LO_ID x.id).put F.ETH_TXTS_LO_PORT x.port).put F.ETH_TXTS_HI_SEC (secOf x.time)
      s.Runs (.txtsRead m) (u.complete .ok (u.word F.regEthTxtsLo 0 0 0))) ∧
    (∀ p, p < 4 → s.dev.role = .manager → may .angle (0x108 + 16 * p) 8 →
      s.Runs (.prbCapRead m p) ((d.put F.ANGLE_PRB_CFG_FULL 0 p).complete .ok (s.dev.word F.regAnglePrbCap 0 p 0))) ∧
    (∀ c x l, c < 2 → s.dev.role = .concentrator → (s.dev.canCtl c).fifo = x :: l → may .can (0x280 + 256 * c) 4 →
      let u := (d.setCan c { s.dev.canCtl c with fifo := l }).put F.CAN_RXF_CTL_HELD l.length c
      let u := ((u.put F.CAN_RXF_ID_V x.frame.id c).put F.CAN_RXF_CTL_VALID 1 c).put F.CAN_RXF_CTL_LEN x.frame.data.length c
      let u := ((u.put F.CAN_RXF_CTL_B23 x.byte23 c).put F.CAN_RXF_TIME_NS (nsOf x.time) c).put F.CAN_RXF_TIME_SUB (subOf x.time) c
      let u := (u.put F.CAN_RXF_TIME_SEC (secOf x.time % 2 ^ 16) c).put F.CAN_RXF_SEC_SEC (secOf x.time) c
      let u := u.each (List.range 16) fun u w => u.put F.CAN_RXF_DATA_V (field x.frame.data (4 * w) 4) c w
      s.Runs (.rxfRead m c) (u.complete .ok (u.word F.regCanRxfId 0 c 0))) ∧
    (may .gate 0xF8 8 →
      s.Runs (.logRead m) ((d.put F.GATE_LOG_CTL_RD (s.dev.f F.GATE_LOG_CTL_RD + 1)).complete .ok
        (Tab.get 0 s.dev.gate.log (s.dev.f F.GATE_LOG_CTL_RD) / 2 ^ 64))) ∧
    (∀ x l, s.dev.toll.log = x :: l → may .tollgate 0x18 8 →
      s.Runs (.denyLogRead m) (({ d with toll := { d.toll with log := l } }.put F.TOLLGATE_DENY_STAT_HELD l.length).complete .ok x.time))

/-- CYCLE_CTL, CYCLE_PHASE and CFG_SWAP are accepted or refused as the rules say, and the end of a swap's checks has the outcome they give. It
rests on R33, R34, R37, R49, R52, R53, R447. -/
def Obligations.CycleControlAndSwaps : Prop :=
  ∀ (s : State), let d := s.dev.begin
    let manager := s.dev.role = .manager
    (¬ manager → (∀ run stamp p, s.Runs (.cycleCtlWrite run stamp p) (d.complete .invalid)) ∧
      (∀ ph, s.Runs (.cyclePhaseWrite ph) (d.complete .invalid)) ∧ ∀ t, s.Runs (.globalCfgSwapWrite t) (d.complete .invalid)) ∧
    -- CYCLE_CTL
    (∀ run stamp p, s.dev.blockStatus .global 0x100 = .ok →
      let legal := 10 ≤ p ∧ p ≤ 2000 ∧ 10 ^ 9 % (p * 50) = 0 ∧ s.dev.phaseNs < p * 50
      let now := s.dev.f F.GLOBAL_CYCLE_CTL_PERIOD
      (¬ legal → s.Runs (.cycleCtlWrite run stamp p) (d.complete .invalid)) ∧
      (manager → legal → s.dev.run = true → p ≠ now → s.Runs (.cycleCtlWrite run stamp p) (d.complete .busy)) ∧
      (manager → legal → s.dev.run = false ∨ p = now → run = true → s.dev.glob.swapOk = false →
        s.Runs (.cycleCtlWrite run stamp p) (d.complete .invalid)) ∧
      (manager → legal → s.dev.run = false ∨ p = now → run = false ∨ s.dev.glob.swapOk = true → s.Does (.cycleCtlWrite run stamp p) fun u =>
        u.f F.GLOBAL_CYCLE_CTL_RUN = b2n run ∧ u.f F.GLOBAL_CYCLE_CTL_STAMP = b2n stamp ∧ u.perNs = p * 50 ∧ u.cpl = some (.ok, 0) ∧
        (p = now → u.glob.nextCyc = s.dev.glob.nextCyc) ∧
        (p ≠ now → u.glob.nextCyc = if s.dev.now < s.dev.phaseNs then 0 else (s.dev.now - s.dev.phaseNs) / (p * 50) + 1) ∧
        u.glob.stampInForce = s.dev.glob.stampInForce ∧ s.dev.Keeps [.global] [] u)) ∧
    -- CYCLE_PHASE
    (∀ ph, s.dev.blockStatus .global 0x104 = .ok →
      (manager → s.dev.run = true → s.Runs (.cyclePhaseWrite ph) (d.complete .busy)) ∧
      (manager → s.dev.run = false → ph % 5 ≠ 0 ∨ s.dev.perNs ≤ ph → s.Runs (.cyclePhaseWrite ph) (d.complete .invalid)) ∧
      (manager → s.dev.run = false → ph % 5 = 0 → ph < s.dev.perNs → ph < 2 ^ 17 → s.Does (.cyclePhaseWrite ph) fun u =>
        u.phaseNs = ph ∧ u.cpl = some (.ok, 0) ∧ (ph = s.dev.phaseNs → u.glob.nextCyc = s.dev.glob.nextCyc) ∧
        (ph ≠ s.dev.phaseNs → u.glob.nextCyc = if s.dev.now < ph then 0 else (s.dev.now - ph) / s.dev.perNs + 1) ∧ s.dev.Keeps [.global] [] u)) ∧
    -- CFG_SWAP
    (∀ target, s.dev.blockStatus .global 0x120 = .ok →
      let late := s.dev.run = true ∧ target ≠ 0 ∧ target < d.nextBoundary
      (manager → s.dev.glob.swap.isSome = true → s.Runs (.globalCfgSwapWrite target) (d.complete .busy)) ∧
      (manager → s.dev.glob.swap = none → late → s.Runs (.globalCfgSwapWrite target)
        (((d.put F.GLOBAL_CFG_STAT_STATUS Status.late.code).raise F.GLOBAL_CYCLE_STAT_SWAP_FAIL).complete .late)) ∧
      (manager → s.dev.glob.swap = none → ¬ late → s.Runs (.globalCfgSwapWrite target)
        ((({ d with glob := { d.glob with swap := some { target := target, ring := none, checked := none, exchanged := false, since := s.dev.coreCycle } } } : Dev).raise F.GLOBAL_CFG_STAT_PENDING).complete .ok))) ∧
    -- the checks end
    (s.dev.glob.swap = none → s.Runs .swapChecksDone d) ∧
    (∀ w, s.dev.glob.swap = some w → w.checked.isSome = true → s.Runs .swapChecksDone d) ∧
    (∀ w st, s.dev.glob.swap = some w → w.checked = none → (d.swapChecks (1 - s.dev.actSet)).1 = st →
      (st ≠ .ok → w.ring = none → s.Does .swapChecksDone fun u => u.glob.swap = none ∧ u.glob.swapOk = s.dev.glob.swapOk ∧ u.actSet = s.dev.actSet ∧
        u.f F.GLOBAL_CFG_STAT_PENDING = 0 ∧ u.f F.GLOBAL_CFG_STAT_STATUS = st.code ∧ u.f F.GLOBAL_CYCLE_STAT_SWAP_FAIL = 1 ∧
        u.out = [.done 0x120 0 st]) ∧
      (st = .ok → d.cycleIdle = false → s.Does .swapChecksDone fun u => u.glob.swap = some { w with checked := some .ok } ∧
        u.actSet = s.dev.actSet ∧ u.out = []) ∧
      (st = .ok → d.cycleIdle = true → s.Does .swapChecksDone fun u => (∃ x, u.glob.swap = some x ∧ x.exchanged = true) ∧
        u.actSet = 1 - s.dev.actSet))

/-- A cycle boundary counts, takes the shadows and exchanges the sets at the target of a swap; an assembly ends or is abandoned as the rules
say. It rests on R34 to R36, R40, R41, R43, R44, R49, R51, R53, R162, R470. -/
def Obligations.CycleBoundaryAndAssembly : Prop :=
  ∀ (s : State), let d := s.dev.begin
    let at_ := if s.dev.time.pendStep.isSome then d.toTick else d
    let n := at_.nextBoundary
    (s.dev.role = .none ∨ s.dev.perNs = 0 → s.Runs .cycleBoundary at_) ∧
    (s.dev.role = .concentrator ∨ s.dev.role = .cell → s.dev.perNs ≠ 0 → s.dev.glob.warm = none → s.Does .cycleBoundary fun u =>
      u.glob.nextCyc = n + 1 ∧ u.role = s.dev.role ∧ u.loom = s.dev.loom ∧ u.spin = s.dev.spin) ∧
    (s.dev.role = .manager → s.dev.perNs ≠ 0 → s.dev.glob.warm = none → s.Does .cycleBoundary fun u =>
      u.glob.nextCyc = n + 1 ∧ u.glob.running = s.dev.run ∧ u.glob.stampInForce = s.dev.flag F.GLOBAL_CYCLE_CTL_STAMP ∧
      u.fi F.GLOBAL_STAMP_ALLOW = s.dev.f F.GLOBAL_STAMP_ALLOW % 2 ^ 16 ∧ u.fi F.GLOBAL_STAMP_FIXED = s.dev.f F.GLOBAL_STAMP_FIXED % 2 ^ 16 ∧
      (∀ a, a < 12 → u.fi F.TRUNK_CARRIER_CPER a = s.dev.f F.TRUNK_CARRIER_CPER a % 2 ^ 32) ∧
      (s.dev.run = true → u.f F.GLOBAL_CYCLE_CNT_CYCLE = n % 2 ^ 64 ∧
        ∃ c, u.glob.cycles.head? = some c ∧ c.n = n ∧ c.set = u.actSet ∧ c.t0 = s.dev.bnd n) ∧
      (s.dev.run = false → u.f F.GLOBAL_CYCLE_CNT_CYCLE = s.dev.f F.GLOBAL_CYCLE_CNT_CYCLE) ∧
      -- the sets exchange at the target, and at no other boundary
      (s.dev.glob.swap = none → u.actSet = s.dev.actSet) ∧
      (∀ w, s.dev.glob.swap = some w → w.exchanged = false →
        (w.checked.isSome = true ∧ (s.dev.run = false ∨ w.target ≤ n) → u.actSet = 1 - s.dev.actSet ∧ u.glob.nextCyc = n + 1) ∧
        (s.dev.run = true → n < w.target → u.actSet = s.dev.actSet) ∧
        -- checks that still run at the boundary; those that have had their time have ended
        (let b := { at_.advanceTo (s.dev.bnd n) with glob := { (at_.advanceTo (s.dev.bnd n)).glob with nextCyc := n + 1, running := s.dev.run } }
         let timeUp := w.since + b.checkBound ≤ b.coreCycle
         let st := (b.swapChecks (1 - s.dev.actSet)).1
         w.checked = none →
          (¬ timeUp → u.actSet = s.dev.actSet ∧ (s.dev.run = true → w.target ≠ 0 → w.target ≤ n → u.glob.swap = none ∧
            u.f F.GLOBAL_CFG_STAT_STATUS = Status.busy.code ∧ u.f F.GLOBAL_CYCLE_STAT_SWAP_FAIL = 1)) ∧
          (timeUp → st ≠ .ok → u.actSet = s.dev.actSet ∧ u.glob.swap = none ∧ u.f F.GLOBAL_CFG_STAT_STATUS = st.code ∧
            u.f F.GLOBAL_CYCLE_STAT_SWAP_FAIL = 1) ∧
          (timeUp → st = .ok → s.dev.run = false ∨ w.target ≤ n → u.actSet = 1 - s.dev.actSet)))) ∧
    -- an assembly is abandoned at the boundary of cycle n + 2
    (∀ a, d.oldestWork a = none → s.Runs (.assemblyAbandon a) d ∧ s.Runs (.milestoneAssemblyEnd a) d) ∧
    (∀ a k w, d.oldestWork a = some k → d.armWork k a = some w →
      (w.kind = .passive → s.Runs (.assemblyAbandon a) d) ∧
      (w.kind ≠ .passive → s.Does (.assemblyAbandon a) fun u => u.f F.GLOBAL_CYCLE_STAT_OVERRUN = 1 ∧
        u.f F.GLOBAL_CYCLE_STAT_OVR_CNT = satAdd 8 (s.dev.f F.GLOBAL_CYCLE_STAT_OVR_CNT) 1 ∧ u.armWork k a = some { w with aband := true } ∧
        (u.spArm a).wk = ((s.dev.spArm a).wk.filter fun v => decide (v.cyc ≠ k)) ∧ (∀ g, u.spCell g = s.dev.spCell g) ∧
        s.dev.Keeps [.global, .time, .spindle, .reel] [] u)) ∧
    -- an assembly ends 28 CORE cycles after its start and commands the cells of its arm
    (∀ a k, d.oldestWork a = some k → d.assemblyStart k a = none ∨ s.dev.unitActive = false ∨ s.dev.run = false →
      s.Runs (.milestoneAssemblyEnd a) d) ∧
    (∀ a k t sel, d.oldestWork a = some k → d.assemblyStart k a = some (t, sel) → s.dev.bnd (k + 2) < max s.dev.now (t + 28) →
      s.Runs (.milestoneAssemblyEnd a) d) ∧
    (∀ a k t sel c w, d.oldestWork a = some k → d.assemblyStart k a = some (t, sel) →
      (s.dev.glob.cycles.find? fun c => decide (c.n = k)) = some c → d.armWork k a = some w → s.dev.unitActive = true → s.dev.run = true →
      max s.dev.now (t + 28) ≤ s.dev.bnd (k + 2) → s.Does (.milestoneAssemblyEnd a) fun u =>
        let end_ := (d.advanceTo (t + 28)).now
        u.armWork k a = some { w with fin := some end_ } ∧ (u.spArm a).sel = none ∧
        ((c.exec end_).2 = true → u.f F.GLOBAL_CYCLE_STAT_STAMP_SLIP = 1 ∧
          u.f F.GLOBAL_CYCLE_STAT_SLIP_CNT = satAdd 8 (s.dev.f F.GLOBAL_CYCLE_STAT_SLIP_CNT) 1) ∧
        (∀ g ∈ d.armCells c.set a, let o := s.dev.spCell g; let x := u.spCell g
          (o.closeBy t = true → (d.armCells c.set a).Nodup → x.closeReq = none ∧ x.posCmd = 0 ∧ x.op = o.op) ∧
          (o.closeBy t = false → x.closeReq = o.closeReq ∧
            (∀ p, (sel.find? fun p => decide (p.1 = g)) = some p → x.posCmd = p.2 ∧ x.op = o.op) ∧
            ((sel.find? fun p => decide (p.1 = g)) = none → x.posCmd = o.posCmd ∧
              x.op = if (o.opBy t).isSome then none else o.op))) ∧
        (∀ g, g ∉ d.armCells c.set a → u.spCell g = s.dev.spCell g) ∧
        s.dev.Keeps [.global, .time, .spindle, .pair, .trunk, .hostq] u.out u)

/-- Dispatch, deadlines, the end of a run, the ingress, host writes of Loom memory, the scrubber and the control registers of Loom. It rests
on R59, R60, R62, R64 to R69, R71, R72, R75, R76, R81, R86, R126, R386. -/
def Obligations.LoomRunsAndMemories : Prop :=
  ∀ (s : State), let d := s.dev.begin
    -- a free shuttle starts the ready run with the lowest slot number
    (∀ sh, (d.execOf sh).isSome = true ∨ d.runnable sh = [] → s.Runs (.runDispatch sh) d) ∧
    (∀ sh r, d.execOf sh = none → r ∈ d.runnable sh → (∀ q ∈ d.runnable sh, q ≠ r → r.slot < q.slot) → s.Does (.runDispatch sh) fun u =>
      (∃ late, u.execOf sh = some { run := r, pc := 0, p := false, acc := 0, start := s.dev.now - r.t0, el := 0, wrote := [], noGraft := late } ∧
        (d.needsGraft r = false → late = false)) ∧
      u.loom.due = (s.dev.loom.due.filter fun q => decide (q.slot ≠ r.slot)) ∧ (∀ k, k ≠ sh → u.execOf k = s.dev.execOf k) ∧
      u.f F.LOOM_SLOT_LAT_START r.slot = min (s.dev.now - r.t0) 0xFFFE ∧ u.f F.LOOM_MODE_STAT_BANK r.slot = r.bank % 2 ^ 4 ∧
      s.dev.Keeps [.loom, .pair] [] u) ∧
    -- a deadline
    (∀ slot, (s.dev.loom.due.find? fun r => decide (r.slot = slot)) = none → s.Runs (.deadlineExpiry slot) d) ∧
    (∀ slot r, (s.dev.loom.due.find? fun r => decide (r.slot = slot)) = some r → let dl := s.dev.fs r.set F.LOOM_SLOT_CTL_DEADLINE slot
      (dl = 0 ∨ d.runReady r = true → s.Runs (.deadlineExpiry slot) d) ∧
      (dl ≠ 0 → d.runReady r = false → s.Does (.deadlineExpiry slot) fun u => (∀ q ∈ u.loom.due, q.slot = slot → q.late = true) ∧
        u.f F.LOOM_SLOT_FLAGS_IN_LATE slot = 1 ∧ u.f F.LOOM_SLOT_CNT_LATE_CNT slot = satAdd 16 (s.dev.f F.LOOM_SLOT_CNT_LATE_CNT slot) 1 ∧
        s.dev.Keeps [.loom, .time] [] u)) ∧
    -- a run ends
    (∀ sh, d.execOf sh = none → s.Runs (.runEnd sh) d) ∧
    (∀ sh x, d.execOf sh = some x → x.pc < x.run.len → s.Runs (.runEnd sh) d) ∧
    (∀ sh x, d.execOf sh = some x → x.run.len ≤ x.pc → s.Does (.runEnd sh) fun u => let e := x.start + 2 + x.el
      let k := x.run.slot
      u.execOf sh = none ∧ (∀ j, j ≠ sh → u.execOf j = s.dev.execOf j) ∧ u.f F.LOOM_SLOT_LAT_END k = min e 0xFFFE ∧
      u.f F.LOOM_SLOT_LAT_END_MAX k = max (s.dev.f F.LOOM_SLOT_LAT_END_MAX k) (min e 0xFFFE) % 2 ^ 16 ∧
      u.f F.LOOM_SLOT_CNT_RUNS k = (s.dev.f F.LOOM_SLOT_CNT_RUNS k + 1) % 2 ^ 32 ∧ (∀ a, u.ramWord a = s.dev.ramWord a) ∧
      (∀ q ∈ s.dev.loom.due, q.cyc = x.run.cyc → ∃ q' ∈ u.loom.due, q'.slot = q.slot ∧ q'.cyc = q.cyc ∧
        ∀ j, j < 8 → d.depSlot k q.set q.slot j = true → j ∈ q'.arr) ∧
      s.dev.Keeps [.loom, .time, .spindle] u.out u) ∧
    -- the ingress writes a word
    (∀ i, let n := s.dev.glob.nextCyc - 1
      let set := d.cycSet n
      (Tab.find s.dev.loom.latch i = none ∨ d.ingressValue set n i = none → s.Runs (.ingressWrite i) d) ∧
      (∀ l, Tab.find s.dev.loom.latch i = some l → d.ingressValue set n i = some none →
        s.Runs (.ingressWrite i) { d with loom := { d.loom with latch := Tab.erase d.loom.latch i } }) ∧
      (∀ l v, Tab.find s.dev.loom.latch i = some l → d.ingressValue set n i = some (some v) → s.Does (.ingressWrite i) fun u =>
        u.ramPending i = v % 2 ^ 32 ∧ (∀ a, a ≠ i → u.ramPending a = s.dev.ramPending a) ∧ Tab.find u.loom.latch i = none ∧
        bitOf (u.f F.LOOM_IN_BAD_BAD (i / 32)) (i % 32) = bitOf v 32 ∧
        (∀ q ∈ s.dev.loom.due, q.cyc = n → ∃ q' ∈ u.loom.due, q'.slot = q.slot ∧ q'.cyc = q.cyc ∧ ∀ j, j < 8 →
          s.dev.fs q.set F.LOOM_SLOT_DEP_KIND q.slot j = 0 → s.dev.fs q.set F.LOOM_SLOT_DEP_INDEX q.slot j = i → j ∈ q'.arr) ∧
        s.dev.Keeps [.loom, .time] [] u)) ∧
    -- the host writes Loom memory
    (∀ fn off n v, s.dev.role = .manager → fn ≤ 4 →
      (bar2Form off n = false ∨ (bar2Set off = true ∧ s.dev.flag F.LOOM_CTL_VIEW = true) →
        s.Runs (.bar2Write fn off n v) ((d.mmioError .invalid fn 1 off true).complete .invalid)) ∧
      (bar2Form off n = true → d.accessCheck fn .loom 18 off n (bar2Acc off) false = none →
        (bar2Set off = true → s.dev.flag F.LOOM_CTL_VIEW = false → s.dev.glob.swap.isSome = true →
          s.Runs (.bar2Write fn off n v) ((d.mmioError .busy fn 1 off true).complete .busy)) ∧
        (bar2Set off = true → s.dev.flag F.LOOM_CTL_VIEW = false → s.dev.glob.swap = none → off < 0x200000 →
          s.Runs (.bar2Write fn off n v) ((d.storeProg (1 - s.dev.actSet) (off / 8) v).complete .ok)) ∧
        (s.dev.flag F.LOOM_CTL_VIEW = false → s.dev.glob.swap = none → 0x600000 ≤ off → n = 4 →
          s.Runs (.bar2Write fn off n v) ((d.storeCoef (1 - s.dev.actSet) ((off - 0x600000) / 4) (v % 2 ^ 32)).complete .ok)) ∧
        (0x200000 ≤ off → off < 0x600000 → n = 4 → let a := (off - 0x200000) / 4
          (d.ramTaken a = true → s.Runs (.bar2Write fn off n v) ((d.mmioError .busy fn 1 off true).complete .busy)) ∧
          (d.ramTaken a = false → s.Does (.bar2Write fn off n v) fun u => u.cpl = some (.ok, 0) ∧ u.ramPending a = v % 2 ^ 32 ∧
            (∀ b, b ≠ a → u.ramPending b = s.dev.ramPending b) ∧ (∀ b, b ≠ a ∨ isLink a = true → u.ramWord b = s.dev.ramWord b) ∧
            (isEgress a = false → s.dev.Keeps [.loom] [] u))))) ∧
    -- a pass of the scrubber
    (s.dev.role = .none ∨ blkOn s.dev.role .loom = false ∨ s.dev.blkGated .loom = true ∨ s.dev.gate.dormant = true ∨
      s.dev.f F.LOOM_CTL_SCRUB_EN = 0 → s.Runs .scrubPass d) ∧
    (s.dev.role ≠ .none → blkOn s.dev.role .loom = true → s.dev.blkGated .loom = false → s.dev.gate.dormant = false →
      s.dev.f F.LOOM_CTL_SCRUB_EN ≠ 0 →
      let count := fun (u : Dev) => ({ u with pair := { u.pair with cov := putBits u.pair.cov 24 8 (bits u.pair.cov 24 8 + 1) } } : Dev)
      (s.dev.loom.ecc = [] → s.Runs .scrubPass (count d)) ∧
      (∀ k, k < 2 ^ 21 → s.dev.loom.ecc = [(k, 1)] → s.Runs .scrubPass (count
        (({ d with loom := { d.loom with ecc := [] } } : Dev).inc F.LOOM_ECC_STAT_CE_CNT 1))) ∧
      (∀ k, k < 2 ^ 21 → s.dev.loom.ecc = [(k, 2)] → s.Does .scrubPass fun u => u.loom.ecc = [(k, 2)] ∧ bitOf u.pair.crit 0 = true ∧
        u.f F.LOOM_ECC_STAT_UE_CNT = satAdd 16 (s.dev.f F.LOOM_ECC_STAT_UE_CNT) 1 ∧ s.dev.Keeps [.loom, .pair] [] u)) ∧
    -- the control register and the rates
    (∀ en view scrub, s.dev.blockStatus .loom 0 = .ok → s.Runs (.loomCtlWrite en view scrub)
      ((((d.put F.LOOM_CTL_ENABLE (b2n en)).put F.LOOM_CTL_VIEW (b2n view)).put F.LOOM_CTL_SCRUB_EN (b2n scrub)).complete .ok)) ∧
    (∀ slot div phase, s.dev.blockStatus .loom (0x1004 + 64 * slot) = .ok →
      let arms := d.armOuts s.dev.actSet
      let writes := (d.modes s.dev.actSet slot).any fun m => (d.modeOuts s.dev.actSet slot m).any fun o => arms.contains o
      let legal := slot < 64 ∧ 1 ≤ div ∧ div ≤ 64 ∧ phase < div ∧ (div = 1 ∨ writes = false)
      (legal → s.Runs (.slotRateWrite slot div phase) (((d.put F.LOOM_SLOT_RATE_DIV div slot).put F.LOOM_SLOT_RATE_PHASE phase slot).complete .ok)) ∧
      (¬ legal → s.Runs (.slotRateWrite slot div phase) (d.complete .invalid)))

/-- Every instruction of Loom's operation map, on a shuttle that has reached it, takes its cycles and writes what its function gives, and its
frame. It rests on R60, R66, R70, R71, R79, R82, R88 to R95, R99 to R101, R131, R132. -/
def Obligations.LoomInstructions : Prop :=
  ∀ (s : State) (sh : Nat) (o : Opc) (row : Instr) (f : LCtx → LEff), let d := s.dev.begin
    (o, row, f) ∈ ([(.nopOp, .nop sh, Isa.nop), (.movOp, .mov sh, Isa.mov), (.moviOp, .movi sh, Isa.movi), (.ldxOp, .ldx sh, Isa.ldx),
      (.stxOp, .stx sh, Isa.stx), (.addOp, .add sh, Isa.add), (.subOp, .sub sh, Isa.sub), (.mulOp, .mul sh, Isa.mul), (.macOp, .mac sh, Isa.mac),
      (.msuOp, .msu sh, Isa.msu), (.negOp, .neg sh, Isa.neg), (.absOp, .abs sh, Isa.abs), (.addwOp, .addw sh, Isa.addw),
      (.subwOp, .subw sh, Isa.subw), (.limOp, .lim sh, Isa.lim), (.minOp, .min sh, Isa.min), (.maxOp, .max sh, Isa.max), (.piOp, .pi sh, Isa.pi),
      (.pirOp, .pir sh, Isa.pir), (.lpf1Op, .lpf1 sh, Isa.lpf1), (.hpf1Op, .hpf1 sh, Isa.hpf1), (.rampOp, .ramp sh, Isa.ramp),
      (.deadOp, .dead sh, Isa.dead), (.hystOp, .hyst sh, Isa.hyst), (.clkOp, .clk sh, Isa.clk)] ++
      [(.prkOp, .prk sh, Isa.prk), (.iprkOp, .iprk sh, Isa.iprk),
      (.sincosOp, .sincos sh, Isa.sincos), (.atn2Op, .atn2 sh, Isa.atn2), (.sqrtOp, .sqrt sh, Isa.sqrt), (.rcpOp, .rcp sh, Isa.rcp),
      (.divOp, .div sh, Isa.div), (.lut1Op, .lut1 sh, Isa.lut1), (.cmpeqOp, .cmpeq sh, Isa.cmpeq), (.cmpneOp, .cmpne sh, Isa.cmpne),
      (.cmpltOp, .cmplt sh, Isa.cmplt), (.cmpleOp, .cmple sh, Isa.cmple), (.cmpgtOp, .cmpgt sh, Isa.cmpgt), (.cmpgeOp, .cmpge sh, Isa.cmpge),
      (.selOp, .sel sh, Isa.sel), (.andOp, .and sh, Isa.and), (.orOp, .or sh, Isa.or), (.xorOp, .xor sh, Isa.xor), (.notOp, .not sh, Isa.not),
      (.psetOp, .pset sh, Isa.pset), (.pandOp, .pand sh, Isa.pand), (.porOp, .por sh, Isa.por), (.pnotOp, .pnot sh, Isa.pnot),
      (.pgetOp, .pget sh, Isa.pget)] : List (Opc × Instr × (LCtx → LEff))) →
    (d.execOf sh = none → s.Runs row d) ∧
    (∀ x, d.execOf sh = some x → d.nextOp x = none → s.Runs row d) ∧
    (∀ x i, d.execOf sh = some x → d.nextOp x = some i →
      (i.opc ≠ o → s.Runs row d) ∧
      -- not executed: only its time passes
      (i.opc = o → s.dev.loom.ecc = [] → i.runs x.p = false → s.Runs row
        ((d.advanceTo (x.time + o.cycles)).setExec sh { x with pc := x.pc + 1, el := x.el + o.cycles })) ∧
      -- executed
      (i.opc = o → s.dev.loom.ecc = [] → i.runs x.p = true → d.isHandOver x.run i = false → s.Does row fun u =>
        let e := f (d.operands x i)
        let p := d.place x.run.set x.run.slot i.dst
        let sat := e.sat || e.wr.any fun w => outside32 w.2
        let last := x.time + o.cycles - 1
        (∃ x', u.execOf sh = some x' ∧ x'.run = x.run ∧ x'.pc = x.pc + 1 ∧ x'.el = x.el + o.cycles ∧ x'.acc = e.acc.getD x.acc ∧
          x'.p = (match e.p with | some b => b | none => if i.satp then e.lim || sat else x.p)) ∧
        (∀ k, k ≠ sh → u.execOf k = s.dev.execOf k) ∧
        (∀ j v l, e.wr = (j, v) :: l → (∀ w ∈ l, w.1 ≠ j) → d.sameCycle (p.addr + j) last = none →
          u.ramPending (p.addr + j) = (satWord v).toNat) ∧
        (∀ a, (∀ w ∈ e.wr, a ≠ p.addr + w.1) → u.ramPending a = s.dev.ramPending a) ∧
        (sat = true → u.f F.LOOM_SLOT_FLAGS_SAT x.run.slot = 1) ∧ (e.divz = true → u.f F.LOOM_SLOT_FLAGS_DIVZ x.run.slot = 1) ∧
        (e.dom = true → u.f F.LOOM_SLOT_FLAGS_DOM x.run.slot = 1) ∧
        (e.wr = [] → s.dev.Keeps [.loom, .time] [] u)) ∧
      -- the word of the instruction holds an uncorrectable error: the run ends
      (i.opc = o → (eccProg x.run.set (x.run.base + x.pc), 2) ∈ s.dev.loom.ecc → s.Does row fun u => u.execOf sh = none ∧
        u.f F.LOOM_SLOT_FLAGS_ECC_ABORT x.run.slot = 1 ∧ bitOf u.pair.crit 0 = true ∧ (∀ a, u.ramWord a = s.dev.ramWord a) ∧
        u.f F.LOOM_SLOT_CNT_RUNS x.run.slot = s.dev.f F.LOOM_SLOT_CNT_RUNS x.run.slot)) ∧
    -- a hand-over of PI inside its window is bumpless
    (∀ (r : Run) (c : LCtx) (t : Nat), let h := s.dev.hoOf r.slot
      s.dev.flag F.LOOM_MODE_STAT_PENDING r.slot = true → h.cyc ≤ r.cyc → s.dev.flag F.LOOM_MODE_STAT_SLEWING r.slot = false →
      let y := sgn 32 (readBefore (s.dev.ramWord h.oldRec) h.oldRec t s.dev.loom.recent)
      let q := c.prod (c.b 0) (c.a 0)
      (q + c.d 1 - y).natAbs ≤ s.dev.fs r.set F.LOOM_HO_WINDOW_WINDOW r.slot → c.b 3 ≤ y → y ≤ c.b 2 → c.b 3 ≤ y - q → y - q ≤ c.b 2 →
      let k := s.dev.handOver r .piOp c Isa.pi t
      k.2.wr.head? = some (0, y) ∧ k.1.f F.LOOM_MODE_STAT_PENDING r.slot = 0 ∧ k.1.f F.LOOM_MODE_STAT_SLEWING r.slot = 0 ∧
      k.1.f F.LOOM_MODE_CNT_HO_CNT r.slot = satAdd F.LOOM_MODE_CNT_HO_CNT.w (s.dev.f F.LOOM_MODE_CNT_HO_CNT r.slot) 1)

/-- What the arithmetic of Loom computes: rounding, ACC, indices, LIM, sums modulo 2^32, comparisons, PI, RAMP, DEAD, SQRT, DIV and LUT1. It
rests on R96, R97, R102, R103, R105 to R107, R109, R112, R113, R118, R119. -/
def Obligations.LoomArithmetic : Prop :=
  ∀ (c : LCtx),
    -- rounding: towards minus infinity, or to nearest
    (∀ x (n : Nat), let q := shr false x n
      q * 2 ^ n ≤ x ∧ x < (q + 1) * 2 ^ n) ∧
    (∀ x (n : Nat), let q := shr true x n
      2 * (q * 2 ^ n - x).natAbs ≤ 2 ^ n ∧ shr true (-x) n = -q) ∧
    -- the accumulator
    (∀ x, ∃ y, (Isa.accum c x).acc = some y ∧ -(2 ^ 71) ≤ y ∧ y < 2 ^ 71 ∧ (-(2 ^ 71) ≤ x → x < 2 ^ 71 → y = x ∧ (Isa.accum c x).sat = false) ∧
      (Isa.accum c x).wr = [(0, shr c.rnd y (16 + c.shf))]) ∧
    -- indices are replaced by the nearest that the table has
    (c.index.1 < 2 ^ c.shf ∧ (c.index.2 = false ↔ 0 ≤ c.a 0 ∧ c.a 0 < 2 ^ c.shf) ∧ (c.index.2 = false → (c.index.1 : Int) = c.a 0)) ∧
    -- LIM, MIN, MAX
    (∃ y, (Isa.lim c).wr = [(0, y)] ∧ (c.b 0 ≤ c.b 1 → c.b 0 ≤ y ∧ y ≤ c.b 1 ∧ (Isa.lim c).dom = false ∧
      ((Isa.lim c).lim = false ↔ y = c.a 0)) ∧ (c.b 1 < c.b 0 → y = c.b 0 ∧ (Isa.lim c).dom = true)) ∧
    -- sums modulo 2 ^ 32
    (∀ y, ((Isa.addw c).wr = [(0, y)] → (y - (c.a 0 + c.b 0)) % 2 ^ 32 = 0 ∧ outside32 y = false) ∧
      ((Isa.subw c).wr = [(0, y)] → (y - (c.a 0 - c.b 0)) % 2 ^ 32 = 0 ∧ outside32 y = false)) ∧
    -- a comparison writes what becomes P, and a comparison and its negation disagree
    ((Isa.cmplt c).p = (Isa.cmpge c).p.map (!·) ∧ (Isa.cmpgt c).p = (Isa.cmple c).p.map (!·) ∧ (Isa.cmpeq c).p = (Isa.cmpne c).p.map (!·)) ∧
    -- PI: the output and the integrator stay between the bounds, and the integrator does not wind up
    (∃ y i, (Isa.pi c).wr = [(0, y), (1, i)] ∧ (c.b 3 ≤ c.b 2 → c.b 3 ≤ y ∧ y ≤ c.b 2 ∧ (i = c.d 1 ∨ (c.b 3 ≤ i ∧ i ≤ c.b 2)) ∧
        (c.b 2 < c.prod (c.b 0) (c.a 0) + c.d 1 → 0 < c.a 0 → i = c.d 1 ∧ y = c.b 2) ∧
        (c.prod (c.b 0) (c.a 0) + c.d 1 < c.b 3 → c.a 0 < 0 → i = c.d 1 ∧ y = c.b 3)) ∧
      (c.b 2 < c.b 3 → y = c.b 3 ∧ i = c.d 1 ∧ (Isa.pi c).dom = true)) ∧
    -- RAMP moves towards its input, by no more than its steps
    (0 ≤ c.b 0 → 0 ≤ c.b 1 → ∃ y, (Isa.ramp c).wr = [(0, y)] ∧ y ≤ c.d 0 + c.b 0 ∧ c.d 0 - c.b 1 ≤ y ∧ (c.d 0 ≤ c.a 0 → c.d 0 ≤ y ∧ y ≤ c.a 0) ∧
      (c.a 0 ≤ c.d 0 → c.a 0 ≤ y ∧ y ≤ c.d 0) ∧ ((Isa.ramp c).lim = false ↔ y = c.a 0)) ∧
    -- DEAD takes the nearest point of its zone away
    (c.b 0 ≤ c.b 1 → (Isa.dead c).wr = [(0, c.a 0 - clampI (c.b 0) (c.b 1) (c.a 0))]) ∧
    -- SQRT
    (0 ≤ c.a 0 → c.a 0 < 2 ^ 31 → c.shf < 16 → c.rnd = false → ∃ y : Nat, (Isa.sqrt c).wr = [(0, (y : Int))] ∧
      (y : Int) * y ≤ c.a 0 * 2 ^ (2 * c.shf) ∧ c.a 0 * 2 ^ (2 * c.shf) < ((y : Int) + 1) * (y + 1)) ∧
    (c.a 0 < 0 → (Isa.sqrt c).wr = [(0, 0)] ∧ (Isa.sqrt c).dom = true) ∧
    -- DIV and RCP
    (c.b 0 ≠ 0 → ∃ y, (Isa.div c).wr = [(0, y)] ∧ (y * c.b 0 - c.a 0 * 2 ^ (16 + c.shf)).natAbs < (c.b 0).natAbs ∧
      (c.rnd = true → 2 * (y * c.b 0 - c.a 0 * 2 ^ (16 + c.shf)).natAbs ≤ (c.b 0).natAbs)) ∧
    (c.b 0 = 0 → (Isa.div c).divz = true ∧ (Isa.div c).lim = true ∧ (Isa.div c).wr = [(0, if 0 ≤ c.a 0 then 2 ^ 31 - 1 else -(2 ^ 31))]) ∧
    -- LUT1 gives the entries at its points and is held at its ends
    (let h := wrap 32 (c.b 0)
      let n := bits h 0 13
      let st := bits h 27 5
      2 ≤ n → bits h 13 14 = 0 → 2 + n ≤ c.room →
      (∀ k : Nat, k < n → c.a 0 - c.b 1 = (k : Int) * 2 ^ st → (Isa.lut1 c).wr = [(0, c.b (2 + k))]) ∧
      (c.a 0 < c.b 1 → (Isa.lut1 c).wr = [(0, c.b 2)] ∧ (Isa.lut1 c).lim = true) ∧
      (((n : Int) - 1) * 2 ^ st < c.a 0 - c.b 1 → (Isa.lut1 c).wr = [(0, c.b (1 + n))] ∧ (Isa.lut1 c).lim = true))

/-- SPINDLE_UPDATE of an arm updates every cell of the arm for the boundary due, and the arm's own record. It rests on R142, R143, R149, R150,
R163, R166. -/
def Obligations.SpindleUpdate : Prop :=
  ∀ (s : State) (a n w : Nat) (last : Int), let d := s.dev.begin
    let set := d.cycSet n
    let cells := d.armCells set a
    (s.dev.role ≠ .manager ∨ s.dev.flag F.SPINDLE_CTL_EN = false ∨ 12 ≤ a ∨ d.spNext a = none → s.Runs (.spindleUpdate a) d) ∧
    -- the selection of the cycle before has not ended, or the arm has no cell
    (d.spNext a = some (n, w, last) → cells = [] ∨ (0 < n ∧ d.selectionDue (n - 1) a = true) → s.Runs (.spindleUpdate a) d) ∧
    (s.dev.role = .manager → s.dev.flag F.SPINDLE_CTL_EN = true → a < 12 → d.spNext a = some (n, w, last) → cells ≠ [] →
      n = 0 ∨ d.selectionDue (n - 1) a = false → s.Does (.spindleUpdate a) fun u =>
        let x := s.dev.spArm a
        let cur := d.armCurrent set a w last
        let h := (cur.1 :: x.cur).take 16
        let lag := s.dev.fs set F.SPINDLE_ARM_CFG_LAG a
        let byTlm := d.posByTlm set a n
        let ctx : UpdCtx := { set := set, arm := a, n := n, lag := lag, i := cur.1, iL := h.getD lag 0, byTlm := byTlm }
        let start := (((d.advanceTo (d.bnd n + 80)).spRecWrite a).iff cur.2 fun s => s.raise F.SPINDLE_ARM_STAT_ISRC_BAD a).iff byTlm
          fun s => s.raise F.SPINDLE_ARM_STAT_POS_FROM_TLM a
        (∀ g, u.spCell g = (start.each cells fun s g => s.spCellUpdate ctx g).spCell g) ∧
        (u.spArm a).cur = h ∧ (u.spArm a).upd = n + 1 ∧ (u.spArm a).heldW = none ∧
        (u.spArm a).updEnd = (d.advanceTo (d.bnd n + 80)).now + (16 + ceilDiv cells.length 8) ∧
        u.f F.SPINDLE_ARM_TIME_UPD a = (16 + ceilDiv cells.length 8) % 2 ^ 16 ∧
        u.f F.SPINDLE_ARM_CNT_AVAIL a = (cells.filter fun g => decide ((u.spCell g).st = spAvailable)).length % 2 ^ 16 ∧
        (cur.2 = true → u.f F.SPINDLE_ARM_STAT_ISRC_BAD a = 1) ∧ (byTlm = true → u.f F.SPINDLE_ARM_STAT_POS_FROM_TLM a = 1) ∧
        (∀ b, b ≠ a → u.spArm b = s.dev.spArm b) ∧ s.dev.Keeps [.spindle, .time, .pair] [] u)

/-- What an update makes of a cell's voltage estimates: charge, correction by a usable report, STALE, and the seeding of a PENDING cell. It
rests on R143, R145, R146, R150, R157, R164. -/
def Obligations.SpindleEstimates : Prop :=
  ∀ (s : Dev) (u : UpdCtx) (g : Nat), let c := s.spCell g
    let v := s.spCellUpdate u g
    let c' := v.spCell g
    let rep := c.usable (u.n + 1) u.lag
    let karm := s.fs u.set F.SPINDLE_ARM_K_KARM u.arm
    let rc := if s.fs u.set F.SPINDLE_CAP_CFG_CAP_EN = 1 then c.rc / 2 ^ 16 else 0x4000
    let q := fun (k : Nat) (i : Int) => chargeFactor (s.cFull u.set g) (bits c'.hist (2 * k) 2) i
    let vE := (bound32 ((c.vAt u.n : Int) + chargeStep u.i (q 0 u.i) karm rc)).1
    let vD := (bound32 ((c.vd : Int) + chargeStep u.iL (q u.lag u.iL) karm rc)).1
    (c.st = 0 → c.capDue = none → v.spCell g = c) ∧
    -- the words of the record that are read with an error
    (c.st ≠ 0 → c'.ecc = [] ∧
      (let k := (c.ecc.filter fun e => decide (e.2 = 1)).length
       k ≠ 0 → v.f F.SPINDLE_ECC_STAT_CE_CNT = satAdd 16 (s.f F.SPINDLE_ECC_STAT_CE_CNT) k) ∧
      (let k := (c.ecc.filter fun e => decide (e.2 = 2)).length
       k ≠ 0 → v.f F.SPINDLE_ECC_STAT_UE_CNT = satAdd 16 (s.f F.SPINDLE_ECC_STAT_UE_CNT) k ∧ bitOf v.pair.cycEvt 0 = true)) ∧
    (c.st ≠ 0 → c.st ≠ spBypassed → c.ecc = [] → c.capDue = none →
      -- what the update of the other buffer's boundary has made is not touched
      c'.vAt u.n = c.vAt u.n ∧ c'.rc = c.rc ∧
      (rep = none → c'.vAt (u.n + 1) = vE ∧ c'.vd = vD ∧ c'.age = min 255 (c.age + 1) ∧
        (s.fs u.set F.SPINDLE_EST_CFG_STALE_LIM ≤ min 255 (c.age + 1) → bitOf c'.cause cSTALE = true)) ∧
      -- a usable report corrects both estimates
      (∀ r, rep = some r → c.st ≠ spPending → let e : Int := ((r.v * 2 ^ 16 : Nat) : Int) - (vD : Int)
        let drift := c.st = spAvailable ∧ s.fs u.set F.SPINDLE_EXCL_ERR_EXCL_ERR * 2 ^ 16 < e.natAbs ∧ s.fs u.set F.SPINDLE_EXCL_CNT_EXCL_CNT ≤ c.bad + 1
        let k : Int := if drift then 2 ^ 16 else (s.fs u.set F.SPINDLE_EST_CFG_KCORR : Nat)
        let corr := roundDiv true (e * k) (2 ^ 16)
        c'.vAt (u.n + 1) = (bound32 ((vE : Int) + corr)).1 ∧ c'.vd = (bound32 ((vD : Int) + corr)).1 ∧ c'.age = 0) ∧
      -- the first usable report of a PENDING cell with its path in RUN seeds them
      (∀ r, rep = some r → c.st = spPending → s.idState g = .ok → c'.vAt (u.n + 1) = r.v * 2 ^ 16 ∧ c'.vd = r.v * 2 ^ 16 ∧
        (c.close = false → (∀ r ∈ c.reps, r.st ≠ 4) → c'.st = spProbation ∧ bitOf c'.cause cDRIFT = false)))

/-- STALE, DRIFT, READMIT, LOCKED, strike decay, READMIT_HOLD, CLOSE_REPEAT and the rate and capacitance windows of a cell. It rests on R145,
R147, R153, R157 to R160. That an event the update has not evaluated yet is evaluated by its own command is log entry 3. -/
def Obligations.CellStateEvents : Prop :=
  ∀ (s : State) (g : Nat), let d := s.dev.begin
    let set := s.dev.actSet
    let c := s.dev.spCell g
    let a := s.dev.cArm set g
    let max := s.dev.fs set F.SPINDLE_EXCL_CNT_STRIKE_MAX
    let lock := s.dev.flag F.SPINDLE_CTL_BYP_ON_LOCK
    -- STALE
    (c.st ≠ 0 → c.st ≠ spBypassed → s.dev.fa F.SPINDLE_EST_CFG_STALE_LIM ≤ c.age →
      s.Runs (.stale g) (d.setSpCell g { c with cause := putBit c.cause cSTALE true })) ∧
    (c.st = 0 ∨ c.st = spBypassed ∨ c.age < s.dev.fa F.SPINDLE_EST_CFG_STALE_LIM → s.Runs (.stale g) d) ∧
    -- DRIFT
    (c.st = spAvailable → bitOf c.cause cDRIFT = false → s.dev.fs set F.SPINDLE_EXCL_CNT_EXCL_CNT ≤ c.bad → c.close = false → s.Does (.drift g) fun u =>
      let n := min 255 (c.strikes + 1)
      bitOf (u.spCell g).cause cDRIFT = true ∧ (u.spCell g).strikes = n ∧ (u.spCell g).drift = (s.dev.spArm a).upd ∧
      (u.spCell g).st = (if max ≠ 0 ∧ max ≤ n then (if lock then spClosing else spLocked) else spExcluded) ∧
      (∀ h, h ≠ g → u.spCell h = s.dev.spCell h) ∧ s.dev.Keeps [.spindle] [] u) ∧
    (c.st ≠ spAvailable ∨ bitOf c.cause cDRIFT = true ∨ c.bad < s.dev.fs set F.SPINDLE_EXCL_CNT_EXCL_CNT → s.Runs (.drift g) d) ∧
    -- readmission
    (c.st = spProbation → s.dev.fs set F.SPINDLE_EXCL_CNT_READMIT_CNT ≤ c.good → c.cause = 0 → c.close = false → s.Does (.readmit g) fun u =>
      (u.spCell g).st = spAvailable ∧ (u.spCell g).bad = 0 ∧ (u.spCell g).rc = c.rc ∧ (∀ h, h ≠ g → u.spCell h = s.dev.spCell h) ∧
      s.dev.Keeps [.spindle] [] u) ∧
    (c.st ≠ spProbation ∨ c.good < s.dev.fs set F.SPINDLE_EXCL_CNT_READMIT_CNT → s.Runs (.readmit g) d) ∧
    -- LOCKED
    (max ≠ 0 → max ≤ c.strikes → c.st ≠ 0 → c.st ≠ spBypassed → c.st ≠ spClosing → c.st ≠ spLocked → c.close = false → s.Does (.locked g) fun u =>
      (u.spCell g).st = (if lock then spClosing else spLocked) ∧ (u.spCell g).strikes = c.strikes ∧
      (u.spCell g).closeReq = (if lock then some s.dev.now else c.closeReq) ∧
      s.dev.Keeps [.spindle] [] u) ∧
    (max = 0 ∨ c.strikes < max ∨ c.st = spLocked → s.Runs (.locked g) d) ∧
    -- the decay of strikes
    (let per := 2 ^ (s.dev.fa F.SPINDLE_EXCL_CNT_STRIKE_DECAY + 10);
      (c.st = spAvailable → per ≤ c.availN → s.Runs (.strikeDecay g) (d.setSpCell g { c with availN := c.availN - per, strikes := c.strikes - 1 })) ∧
      (c.st ≠ spAvailable ∨ c.availN < per → s.Runs (.strikeDecay g) d)) ∧
    -- READMIT_HOLD
    (let end_ := c.drift + s.dev.fs set F.SPINDLE_HOLD_READMIT_HOLD;
      (c.st = spExcluded → c.cause = 2 ^ cDRIFT → end_ ≤ s.dev.glob.nextCyc → c.close = false → s.Does (.readmitHoldExpiry g) fun u =>
        (u.spCell g).st = spProbation ∧ (u.spCell g).cause = 0 ∧ s.dev.Keeps [.spindle] [] u) ∧
      (c.st ≠ spExcluded ∨ c.cause ≠ 2 ^ cDRIFT ∨ s.dev.glob.nextCyc < end_ → s.Runs (.readmitHoldExpiry g) d)) ∧
    -- a bypass-switch request is repeated, three times at most
    (c.st = spClosing → c.closeT = 16 → c.closeN < 3 → s.Does (.closeRepeat g) fun u =>
      (u.spCell g).closeReq = some s.dev.now ∧ (u.spCell g).closeN = c.closeN + 1 ∧ (u.spCell g).closeT = 0 ∧ (u.spCell g).st = spClosing ∧ s.dev.Keeps [.spindle] [] u) ∧
    (c.st = spClosing → c.closeT = 16 → 3 ≤ c.closeN → s.Does (.closeRepeat g) fun u =>
      u.f F.SPINDLE_ARM_STAT_CLOSE_FAIL a = 1 ∧ (u.spCell g).closeReq = c.closeReq ∧ (u.spCell g).st = spClosing ∧ s.dev.Keeps [.spindle] [] u) ∧
    (c.st ≠ spClosing ∨ c.closeT ≠ 16 → s.Runs (.closeRepeat g) d) ∧
    -- the windows of an arm
    (∀ b, let n := s.dev.glob.nextCyc - 1;
      let win := s.dev.fs (d.cycSet n) F.SPINDLE_ARM_RATE_RATE_WIN b;
      (s.dev.glob.nextCyc ≠ 0 → n % 2 ^ win = 0 → s.Does (.rateWindowEnd b) fun u =>
        (∀ h ∈ d.armCells (d.cycSet n) b, u.spCell h = { s.dev.spCell h with sw := 0 }) ∧
        (∀ h, h ∉ d.armCells (d.cycSet n) b → u.spCell h = s.dev.spCell h) ∧ s.dev.Keeps [.spindle] [] u) ∧
      (s.dev.glob.nextCyc = 0 ∨ n % 2 ^ win ≠ 0 → s.Runs (.rateWindowEnd b) d)) ∧
    (∀ b, s.Does (.capWindowEnd b) fun u => s.dev.Keeps [.spindle] [] u ∧
      (∀ h, h ∉ d.armCells set b → u.spCell h = s.dev.spCell h) ∧
      ∀ h ∈ d.armCells set b, ∀ r0 A r1, (s.dev.spCell h).capDue = some (r0, A, r1) → (u.spCell h).capDue = none ∧
        (∀ ratio, capRatio (s.dev.fs set F.SPINDLE_CAP_CFG_CAP_MIN) r0 r1 A = some ratio →
          (u.spCell h).rc = satU 32 (((s.dev.spCell h).rc : Int) +
            roundDiv true ((ratio - ((s.dev.spCell h).rc : Int)) * (s.dev.fs set F.SPINDLE_CAP_CFG_CAP_GAIN : Nat)) (2 ^ 16))) ∧
        (capRatio (s.dev.fs set F.SPINDLE_CAP_CFG_CAP_MIN) r0 r1 A = none → (u.spCell h).rc = (s.dev.spCell h).rc))

/-- SELECTION of an arm selects for its oldest ready work item and sets the arm's count, direction and limit flags. It rests on R150 to R154. -/
def Obligations.SelectionRuns : Prop :=
  ∀ (s : State) (a : Nat), let d := s.dev.begin
    let x := s.dev.spArm a
    (s.dev.unitActive = false ∨ s.dev.flag F.SPINDLE_CTL_EN = false ∨ x.sel.isSome = true ∨ x.wk.find? (d.workReady a) = none →
      s.Runs (.selection a) d) ∧
    (∀ w, x.wk.find? (d.workReady a) = some w → d.selectionDue w.cyc a = false ∨ (x.upd ≠ 0 ∧ x.upd < w.cyc) → s.Runs (.selection a) d) ∧
    (∀ w, s.dev.unitActive = true → s.dev.flag F.SPINDLE_CTL_EN = true → x.sel = none → x.wk.find? (d.workReady a) = some w →
      d.selectionDue w.cyc a = true → x.upd = 0 ∨ w.cyc ≤ x.upd → s.Does (.selection a) fun u =>
        let set := d.cycSet w.cyc
        let sig := if w.pol.getD 0 % 2 = 1 then 2 else 1
        let l := (d.armCells set a).map (d.selCell set a w.cyc sig)
        let el := (l.filter SelCell.elig).length
        let want := sgn 32 (w.n.getD 0)
        let cnt := (clampI 0 (el : Int) want).toNat
        let i := x.cur.getD (x.upd - w.cyc) 0
        let charging := if i.natAbs ≤ s.dev.fs set F.SPINDLE_ARM_CFG_IDEAD a then s.dev.flag F.SPINDLE_ARM_STAT_CHARGING a
          else decide (0 < (if sig = 2 then -i else i))
        let r := selectCells l charging cnt sig (s.dev.fs set F.SPINDLE_ARM_CFG_SWAP_MAX a) (s.dev.fs set F.SPINDLE_ARM_BAND_BAND a)
        let dur := 64 + ceilDiv l.length 4
        (u.spArm a).sel = some (w.cyc, r.1) ∧ u.f F.SPINDLE_ARM_TIME_SEL a = dur % 2 ^ 16 ∧
        (u.spArm a).selEnd = (d.advanceTo (max (max w.tm x.selEnd) (if x.upd = w.cyc then x.updEnd else 0) + dur)).now ∧ (u.spArm a).wk = (x.wk.filter fun v => decide (w.cyc < v.cyc)) ∧
        u.f F.SPINDLE_ARM_CNT_N_IN a = cnt % 2 ^ 16 ∧ u.f F.SPINDLE_ARM_STAT_CHARGING a = b2n charging ∧
        (want < 0 ∨ (el : Int) < want → u.f F.SPINDLE_ARM_STAT_N_LIMIT a = 1) ∧
        (0 ≤ want → want ≤ (el : Int) → u.f F.SPINDLE_ARM_STAT_N_LIMIT a = s.dev.f F.SPINDLE_ARM_STAT_N_LIMIT a) ∧
        (∀ g, u.spCell g = s.dev.spCell g) ∧ s.dev.Keeps [.spindle, .time] [] u)

/-- A selection leaves exactly the commanded number of cells inserted with the commanded polarity, none of them ineligible, and swaps no more
than allowed. It rests on R151, R154. -/
def Obligations.SelectionReachesTheCount : Prop :=
  ∀ (l : List SelCell) (charging : Bool) (n sig swapMax band : Nat), (l.map SelCell.g).Nodup → (∀ c ∈ l, c.code < 3) → sig = 1 ∨ sig = 2 →
    n ≤ (l.filter SelCell.elig).length →
    let cmds := (selectCells l charging n sig swapMax band).1
    let after := fun (c : SelCell) => match cmds.find? fun p => decide (p.1 = c.g) with
      | some p => p.2
      | none => c.code
    (cmds.map Prod.fst).Nodup ∧ (∀ p ∈ cmds, ∃ c ∈ l, c.g = p.1) ∧ (l.filter fun c => isIn (after c)).length = n ∧
    (∀ c ∈ l, c.elig = false → after c = 0) ∧ (∀ c ∈ l, after c = 0 ∨ after c = sig) ∧
    (selectCells l charging n sig swapMax band).2 ≤ swapMax

/-- The operations of SPINDLE.CELL_CMD and REC_IDX: what waits for the next update, what waits for an assembly, and what a record read gives.
It rests on R9, R156, R160 to R162, R167. That a row names its op, and the write is one of `SPINDLE.CELL_CMD` or `SPINDLE.REC_IDX`, is log
entry 3. -/
def Obligations.SpindleHostCommands : Prop :=
  ∀ (s : State) (g : Nat), let d := s.dev.begin
    let c := s.dev.spCell g
    -- ops 0x1 to 0x4 wait for the next update
    (s.dev.blockStatus .spindle 0x30 = .ok →
      (∀ row, row ∈ [Instr.exclude g, .release g, .unlock g, .cellCmdClose g] → 6144 ≤ g ∨ c.st = 0 → s.Runs row (d.complete .invalid)) ∧
      (g < 6144 → c.st ≠ 0 →
        s.Runs (.exclude g) ((d.setSpCell g { c with hostOp := some true }).complete .ok) ∧
        s.Runs (.release g) ((d.setSpCell g { c with hostOp := some false }).complete .ok) ∧
        s.Runs (.unlock g) ((d.setSpCell g { c with unlock := true }).complete .ok) ∧
        s.Runs (.cellCmdClose g) ((d.setSpCell g { c with close := true }).complete .ok))) ∧
    -- ops 0x5 to 0x8 wait for an assembly
    (∀ op row all, (op, row) ∈ [(5, Instr.cellRelease all g), (6, .modeMs all g), (7, .modeCarrier all g), (8, .cellBlock all g)] →
      s.dev.blockStatus .spindle 0x30 = .ok →
      let invalid := if all then 12 ≤ g else 6144 ≤ g ∨ c.st = 0 ∨ c.st = spBypassed
      let cells := if all then (d.armCells s.dev.actSet g).filter fun h => decide ((s.dev.spCell h).st ≠ 0) && decide ((s.dev.spCell h).st ≠ spBypassed) else [g]
      (invalid → s.Runs row (d.complete .invalid)) ∧
      (¬ invalid → s.dev.unitActive = false ∨ s.dev.flag F.SPINDLE_CTL_EN = false → s.Runs row (d.complete .busy)) ∧
      (¬ invalid → s.dev.unitActive = true → s.dev.flag F.SPINDLE_CTL_EN = true → cells = [] → s.Runs row (d.complete .ok)) ∧
      (¬ invalid → s.dev.unitActive = true → s.dev.flag F.SPINDLE_CTL_EN = true → cells ≠ [] → s.Does row fun u =>
        u.spin.reqs = (s.dev.spin.reqs.filter fun q => !(q.cells.any fun h => cells.contains h)) ++ [{ cells := cells, op := op, desc := none, fn := none }] ∧
        (∀ h ∈ cells, (u.spCell h).op = some ((cellOp op).1, (cellOp op).2, s.dev.now)) ∧ (∀ h, h ∉ cells → u.spCell h = s.dev.spCell h) ∧
        (∀ q ∈ s.dev.spin.reqs, q.desc = none → q.fn = none → (q.cells.any fun h => cells.contains h) = true → Out.done 0x90030 q.op .retired ∈ u.out) ∧
        ((∀ q ∈ s.dev.spin.reqs, (q.cells.any fun h => cells.contains h) = false) → s.dev.Keeps [.spindle] [] u ∧ u.cpl = none))) ∧
    -- a cell's record
    (s.dev.blockStatus .spindle 0x34 = .ok →
      (s.dev.recBusy = true → ∀ wr, s.Runs (.recIdxWrite wr g) (d.complete .busy)) ∧
      (s.dev.recBusy = false → c.st = spAvailable → s.Runs (.recIdxWrite true g) (d.complete .busy)) ∧
      (s.dev.recBusy = false → c.st ≠ spAvailable → s.Runs (.recIdxWrite true g)
        (((({ d with spin := { d.spin with recPend := some g } } : Dev).put F.SPINDLE_REC_IDX_G g).put F.SPINDLE_REC_IDX_BUSY 1).complete .ok)) ∧
      (s.dev.recBusy = false → s.Does (.recIdxWrite false g) fun u => u.cpl = some (.ok, 0) ∧
        u.f F.SPINDLE_REC0_V_EST = c.vAt (s.dev.spArm (s.dev.cArm s.dev.actSet g)).upd % 2 ^ 32 ∧ u.f F.SPINDLE_REC1_V_DLY = c.vd % 2 ^ 32 ∧
        u.f F.SPINDLE_REC2_V_REP = c.vrep % 2 ^ 16 ∧ u.f F.SPINDLE_REC3_RC_FINE = c.rc % 2 ^ 32 ∧ u.f F.SPINDLE_REC4_HIST = c.hist % 2 ^ 32 ∧
        u.f F.SPINDLE_REC5_STATE = c.st % 2 ^ 4 ∧ u.f F.SPINDLE_REC5_CAUSE = c.cause % 2 ^ 8 ∧ u.f F.SPINDLE_REC7_AGE = c.age % 2 ^ 8 ∧
        u.spin.recTill = (s.dev.spArm (s.dev.cArm s.dev.actSet g)).updEnd ∧
        (∀ h, u.spCell h = s.dev.spCell h) ∧ s.dev.Keeps [.spindle] [] u))

/-- LANE_CFG and LANE_CMD: enabling, disabling, rate, loops, power states, RETRAIN, UNFREEZE and REMEASURE. It rests on R168, R179, R180,
R184, R188, R192, R195 to R198. -/
def Obligations.LaneConfiguration : Prop :=
  ∀ (s : State) (L : Nat), s.dev.hasLane L = true → let d := s.dev.begin
    let st := s.dev.lState L
    let cfg := s.dev.ln F.LANE_LANE_CFG_EN L = 1 ∧ s.dev.ln F.LANE_LANE_CFG_PWR L ≠ 2 ∧ s.dev.ln F.LANE_LANE_CFG_RATE L < 3
    let rest := fun (u : Dev) => u.cpl = some (.ok, 0) ∧ s.dev.Keeps [.trunk] [] u ∧ u.proto = s.dev.proto ∧
      (∀ M, M ≠ L → u.lane M = s.dev.lane M ∧ u.lState M = s.dev.lState M)
    (∀ g ∈ [F.LANE_LANE_CFG_EN, F.LANE_LANE_CFG_PWR, F.LANE_LANE_CFG_LOOP, F.LANE_LANE_CFG_TXINV, F.LANE_LANE_CFG_RXINV, F.LANE_LANE_CFG_RATE,
      F.LANE_LANE_CFG_ASYM], s.dev.ln g L < 2 ^ g.w) →
    (s.dev.blockStatus (laneBlk L) (laneReg L 0) = .ok →
      -- EN
      (st = lDisabled → s.dev.ln F.LANE_LANE_CFG_LOOP L = 0 → s.dev.ln F.LANE_LANE_CFG_PWR L ≠ 2 → s.dev.ln F.LANE_LANE_CFG_RATE L < 3 →
        s.Does (.laneEnable L) fun u => u.lState L = lDetect ∧ u.ln F.LANE_LANE_CFG_EN L = 1 ∧ u.ln F.LANE_LANE_STAT_RETRY L = 0 ∧
          u.ln F.LANE_LANE_STAT_HOLDOFF L = 0 ∧ rest u) ∧
      (s.dev.ln F.LANE_LANE_CFG_LOOP L ≤ 3 → s.dev.ln F.LANE_LANE_CFG_PWR L ≠ 2 → s.dev.ln F.LANE_LANE_CFG_RATE L < 3 →
        s.Does (.laneDisable L) fun u => u.lState L = lDisabled ∧ u.ln F.LANE_LANE_CFG_EN L = 0 ∧ u.ln F.LANE_LANE_STAT_CARRYING L = 0 ∧
          (st = lRun → u.ln F.LANE_LANE_STAT_TIME_VALID L = 0 ∧ u.ln F.LANE_LANE_STAT_EPOCH L = (s.dev.ln F.LANE_LANE_STAT_EPOCH L + 1) % 16) ∧ rest u) ∧
      -- RATE, at the upstream end
      (s.dev.isUp L = true → s.Runs (.rateWrite L 3) (d.complete .invalid)) ∧
      (∀ r, r < 3 → cfg → s.dev.isUp L = true → s.dev.ln F.LANE_LANE_CFG_LOOP L = 0 → r ≠ s.dev.ln F.LANE_LANE_CFG_RATE L → 2 ≤ st → st ≤ 5 →
        s.Does (.rateWrite L r) fun u => u.ln F.LANE_LANE_CFG_RATE L = r ∧ u.lState L = lDetect ∧ (u.lane L).idle = true ∧ rest u) ∧
      (∀ r, r < 4 → cfg → s.dev.isUp L = false → s.dev.ln F.LANE_LANE_CFG_LOOP L ≤ 3 → st ≠ lDisabled → s.Does (.rateWrite L r) fun u =>
        u.ln F.LANE_LANE_CFG_RATE L = s.dev.ln F.LANE_LANE_CFG_RATE L ∧ u.lState L = st ∧ rest u) ∧
      -- LOOP
      (∀ v, 3 < v → v < 8 → s.Runs (.loopWrite L v) (d.complete .invalid)) ∧
      (cfg → s.dev.ln F.LANE_LANE_CFG_LOOP L ≠ 3 → s.dev.loopBusy L = true → s.Runs (.loopWrite L 3) (d.complete .busy)) ∧
      (∀ v, 1 ≤ v → v ≤ 3 → cfg → v ≠ s.dev.ln F.LANE_LANE_CFG_LOOP L → s.dev.loopBusy L = false → st ≠ lDisabled → s.Does (.loopWrite L v) fun u =>
        u.lState L = lLoop ∧ u.ln F.LANE_LANE_CFG_LOOP L = v ∧ rest u) ∧
      (cfg → s.dev.ln F.LANE_LANE_CFG_LOOP L ≠ 0 → st = lLoop → s.Does (.loopWrite L 0) fun u =>
        u.lState L = lDetect ∧ u.ln F.LANE_LANE_CFG_LOOP L = 0 ∧ u.ln F.LANE_LANE_STAT_RETRY L = 0 ∧ rest u) ∧
      -- PWR: L1 and L3 wait for the end of the superframe, L0 does not
      (∀ p row, (p, row) ∈ [(1, Instr.pwrL1 L), (3, .pwrL3 L), (0, .pwrL0 L)] → cfg → s.dev.isUp L = true → s.dev.ln F.LANE_LANE_CFG_LOOP L = 0 → st = lRun →
        p ≠ s.dev.ln F.LANE_LANE_STAT_PSTATE L →
        (s.dev.ln F.LANE_LANE_STAT_PSTATE L ≠ 3 → s.Does row fun u => u.ln F.LANE_LANE_CFG_PWR L = p ∧ u.lState L = lRun ∧
          (p = 0 → u.ln F.LANE_LANE_STAT_PSTATE L = 0 ∧ (u.lane L).pwrPend = none) ∧
          (p ≠ 0 → u.ln F.LANE_LANE_STAT_PSTATE L = s.dev.ln F.LANE_LANE_STAT_PSTATE L ∧ (u.lane L).pwrPend = some p) ∧ rest u) ∧
        (s.dev.ln F.LANE_LANE_STAT_PSTATE L = 3 → s.Does row fun u => u.ln F.LANE_LANE_CFG_PWR L = p ∧ u.ln F.LANE_LANE_STAT_PSTATE L = 3 ∧
          (u.lane L).exit = some p ∧ rest u))) ∧
    -- LANE_CMD
    (s.dev.blockStatus (laneBlk L) (laneReg L 0x2C) = .ok →
      (2 ≤ st → st ≤ 5 → s.Does (.retrain L) fun u => u.lState L = lDetect ∧ u.ln F.LANE_LANE_STAT_RETRY L = 0 ∧ u.ln F.LANE_LANE_ERR_LOSS_CAUSE L = 4 ∧
        (u.lane L).idle = true ∧ rest u) ∧
      (st < 2 ∨ 5 < st → s.Runs (.retrain L) (d.complete .ok)) ∧
      s.Does (.unfreeze L) (fun u => u.ln F.LANE_LANE_STAT_ADAPT_FROZEN L = 0 ∧ u.lState L = st ∧ rest u) ∧
      (s.dev.isUp L = true → s.dev.inL01 L = true → s.Runs (.remeasure L)
        (((d.setLane L { s.dev.lane L with rem := true, rks := [] }).emit (.rdbk L .ask)).complete .ok)) ∧
      (s.dev.isUp L = false → s.Runs (.remeasure L) (d.complete .ok)))

/-- Training of a lane from DETECT to RUN: rate hunt, lock, alignment, training sets, adaptation, timeouts, backoff and ABSENT. It rests on
R172 to R178, R181, R182, R184. -/
def Obligations.LaneTraining : Prop :=
  ∀ (s : State) (L : Nat), s.dev.hasLane L = true → let d := s.dev.begin
    let st := s.dev.lState L
    let x := s.dev.lane L
    let retry := s.dev.ln F.LANE_LANE_STAT_RETRY L
    let puts := fun (o : List Out) (u : Dev) => s.dev.Keeps [.trunk] o u ∧ u.proto = s.dev.proto ∧
      (∀ M, M ≠ L → u.lane M = s.dev.lane M ∧ u.lState M = s.dev.lState M)
    let rest := puts []
    -- DETECT: the rates are tried in turn at the downstream end, and a lock ends it
    (s.dev.isUp L = false → s.dev.attempting L = true → s.Runs (.rateHuntStep L) (d.setLane L { x with hunt := (x.hunt + 2) % 3 })) ∧
    (s.dev.isUp L = true ∨ s.dev.attempting L = false → s.Runs (.rateHuntStep L) d) ∧
    (s.dev.attempting L = true → x.hunt < 3 → s.dev.ln F.LANE_LANE_CFG_RATE L < 4 → s.Does (.rateLock L) fun u => u.lState L = lAlign ∧
      u.ln F.LANE_LANE_STAT_RATE_IN L = (if s.dev.isUp L then s.dev.ln F.LANE_LANE_CFG_RATE L else x.hunt) ∧
      (s.dev.isUp L = true ∨ s.dev.role = .manager → rest u) ∧
      (s.dev.isUp L = false → s.dev.role ≠ .manager → u.f F.GLOBAL_CLK_STAT_ON_OSC = 0 ∧ u.f F.GLOBAL_CLK_STAT_HOLD = 0)) ∧
    (s.dev.attempting L = false → s.Runs (.rateLock L) d) ∧
    -- ALIGN: two training sets after alignment
    (st = lAlign → s.Runs (.commaAlignment L) (d.setLane L { x with aligned := true, trn := 0 })) ∧
    (st ≠ lAlign → s.Runs (.commaAlignment L) d) ∧
    (∀ t : Trn, s.dev.ln F.LANE_LANE_STAT_HOLDOFF L = 0 → t.state ≠ lDetect →
      (st = lAlign → x.aligned = true → x.trn = 0 → s.Does (.trnReceive L t) fun u => u.lState L = lAlign ∧ (u.lane L).trn = 1 ∧ rest u) ∧
      (st = lAlign → x.aligned = true → x.trn ≠ 0 → s.Does (.trnReceive L t) fun u => u.lState L = lAdapt ∧
        u.ln F.LANE_LANE_PEER_P_ROLE L = t.role % 8 ∧ u.ln F.LANE_LANE_PEER_P_PLANE L = t.plane % 4 ∧ u.ln F.LANE_LANE_PEER_P_LANE L = t.lane % 128 ∧
        u.ln F.LANE_LANE_PEER_P_MODE L = t.mode % 4 ∧ u.ln F.LANE_LANE_PEER_P_PRIM L = t.prim % 64 ∧ u.ln F.LANE_LANE_STAT_ADAPT_FROZEN L = 0 ∧ rest u) ∧
      -- ADAPT ends when this end is settled and the partner shows RDY
      (st = lAdapt → x.settled = true → t.rdy = true → s.dev.pairingOk L = true → s.Does (.trnReceive L t) fun u =>
        u.lState L = lSync ∧ u.ln F.LANE_LANE_STAT_ROLE_CONFLICT L = 0 ∧ puts (if s.dev.isUp L then [.rdbk L .ask] else []) u) ∧
      (st = lAdapt → x.settled = false ∨ t.rdy = false → s.Does (.trnReceive L t) fun u => u.lState L = lAdapt ∧ rest u) ∧
      (st = lAdapt → x.settled = true → t.rdy = true → s.dev.pairingOk L = false → retry < 8 → x.once = false → s.Does (.trnReceive L t) fun u =>
        u.lState L = lDetect ∧ u.ln F.LANE_LANE_STAT_ROLE_CONFLICT L = 1 ∧ u.ln F.LANE_LANE_EVT_CONFLICT L = 1 ∧ u.ln F.LANE_LANE_STAT_RETRY L = retry + 1 ∧
        u.ln F.LANE_LANE_STAT_HOLDOFF L = 1) ∧
      -- SYNC: the upstream end enters RUN once D is measured and the partner has it
      (st = lSync → s.dev.isUp L = true → x.meas = true → t.got = true → s.Does (.trnReceive L t) fun u => u.lState L = lRun ∧
        u.ln F.LANE_LANE_STAT_TIME_VALID L = 1 ∧ u.ln F.LANE_LANE_EVT_RETRAINED L = 1 ∧ u.ln F.LANE_LANE_STAT_RETRY L = 0 ∧ rest u)) ∧
    -- a failed attempt
    (s.dev.attempting L = true ∨ (2 ≤ st ∧ st ≤ 4) →
      (retry < 8 → x.once = false → s.Does (.trainingTimeout L) fun u => u.lState L = lDetect ∧ u.ln F.LANE_LANE_STAT_RETRY L = retry + 1 ∧
        u.ln F.LANE_LANE_STAT_HOLDOFF L = 1 ∧ rest u) ∧
      (8 ≤ retry ∨ x.once = true → s.Does (.trainingTimeout L) fun u => u.lState L = lAbsent ∧ u.ln F.LANE_LANE_EVT_ABSENT L = 1 ∧ rest u)) ∧
    (st = lRun → s.Runs (.trainingTimeout L) d) ∧
    s.Runs (.backoffEnd L) (d.putLn F.LANE_LANE_STAT_HOLDOFF L 0) ∧
    (st = lDetect → s.Runs (.signalAppear L) (d.putLn F.LANE_LANE_STAT_HOLDOFF L 0)) ∧
    (∀ row ∈ [Instr.signalAppear L, .absentRetry L], st = lAbsent → s.Does row fun u => u.lState L = lDetect ∧ (u.lane L).once = true ∧
      u.ln F.LANE_LANE_STAT_HOLDOFF L = 0 ∧ rest u) ∧
    (st ≠ lAbsent → s.Runs (.absentRetry L) d) ∧
    s.Runs (.idleEnd L) (d.setLane L { x with idle := false }) ∧
    -- a window of the adaptation
    (∀ groups taps, let n := transitions x.bit groups
      let r := d.rxCount L groups
      let cv := F.LANE_LANE_ERR_CV_CNT
      let disp := F.LANE_LANE_ERR_DISP_CNT
      (st = lAdapt ∨ s.dev.inL01 L = true → r.1.cause = 0 →
        (n * 100 < 30 * 10240 → s.Runs (.adaptWindow L groups taps)
          ((r.2.putLn F.LANE_LANE_ADAPT_DENS L (n * 100 / 10240)).incLn F.LANE_LANE_ADAPT_SKIP_CNT L 1)) ∧
        (30 * 10240 ≤ n * 100 → s.dev.ln F.LANE_LANE_STAT_ADAPT_FROZEN L ≠ 0 →
          s.Runs (.adaptWindow L groups taps) (r.2.putLn F.LANE_LANE_ADAPT_DENS L (n * 100 / 10240))) ∧
        (30 * 10240 ≤ n * 100 → s.dev.ln F.LANE_LANE_STAT_ADAPT_FROZEN L = 0 → s.dev.inL01 L = true → s.Does (.adaptWindow L groups taps) fun u =>
          (u.lane L).taps = taps ∧ u.lState L = st ∧ u.ln cv L = satAdd cv.w (s.dev.ln cv L) r.1.cv ∧
          u.ln disp L = satAdd disp.w (s.dev.ln disp L) r.1.disp ∧ rest u)) ∧
      -- code groups in error bring the loss of a lane in RUN
      (s.dev.inL01 L = true → 1 ≤ r.1.cause → r.1.cause ≤ 3 → s.Does (.adaptWindow L groups taps) fun u =>
        u.lState L = lDetect ∧ u.ln F.LANE_LANE_ERR_LOSS_CAUSE L = r.1.cause ∧ u.ln F.LANE_LANE_EVT_LOSS L = 1 ∧ rest u) ∧
      -- a near-end loop compares with the test sequence; a lane that does not decode counts nothing
      (s.dev.nearLoop L = true → s.Runs (.adaptWindow L groups taps) (d.each groups fun u g => u.loopByte L g)) ∧
      (s.dev.nearLoop L = false → s.dev.decoding L = false → s.Runs (.adaptWindow L groups taps) d))

/-- Loss of a lane, delay exchanges and re-measurement, the exit from L3 and the end of a far-end loop. It rests on R180, R181, R186, R188,
R194, R198. -/
def Obligations.LaneInOperation : Prop :=
  ∀ (s : State) (L : Nat), s.dev.hasLane L = true → let d := s.dev.begin
    let st := s.dev.lState L
    let x := s.dev.lane L
    let lost := fun (u : Dev) (cause : Nat) (o : List Out) => u.lState L = lDetect ∧ u.ln F.LANE_LANE_ERR_LOSS_CAUSE L = cause ∧ u.ln F.LANE_LANE_EVT_LOSS L = 1 ∧
      u.ln F.LANE_LANE_STAT_TIME_VALID L = 0 ∧ u.ln F.LANE_LANE_STAT_EPOCH L = (s.dev.ln F.LANE_LANE_STAT_EPOCH L + 1) % 16 ∧
      u.ln F.LANE_LANE_ERR_LOSS_CNT L = min 0xFFFF (s.dev.ln F.LANE_LANE_ERR_LOSS_CNT L + 1) ∧ (u.lane L).idle = true ∧ s.dev.Keeps [.trunk] o u ∧
      u.proto = s.dev.proto
    -- the code groups before the loss may have brought it already
    (∀ cause groups, let c := (d.rxCount L groups).1.cause
      let k := if c ≠ 0 then c else cause
      s.dev.inL01 L = true → 1 ≤ k → k ≤ 3 → s.Does (.laneLoss L ⟨cause, groups⟩) fun u => lost u k []) ∧
    (∀ cause groups, s.dev.inL01 L = false → st ≠ lLoop →
      s.Runs (.laneLoss L ⟨cause, groups⟩) (if s.dev.decoding L then (d.rxCount L groups).2 else d)) ∧
    -- delay exchanges in SYNC at the upstream end
    (∀ t1 t2 t3 t4 : Nat, s.dev.isUp L = true → st = lSync → x.meas = false →
      let r : Int := ((t4 : Int) - (t1 : Int)) - ((t3 : Int) - (t2 : Int))
      (r ≤ 512000 → x.rks.length < 63 → s.Runs (.rdbkReceive L t1 t2 t3 t4 0) ((d.setLane L { x with rks := r :: x.rks }).emit (.rdbk L .ask))) ∧
      (r ≤ 512000 → 63 ≤ x.rks.length → s.Does (.rdbkReceive L t1 t2 t3 t4 0) fun u =>
        let dl := (hopDelay (r :: x.rks) 8 (sgn 16 (s.dev.ln F.LANE_LANE_CFG_ASYM L))).toNat
        (u.lane L).meas = true ∧ u.ln F.LANE_LANE_DELAY_DELAY L = dl % 2 ^ 32 ∧ u.ln F.LANE_LANE_DELAY_MEAS L = dl % 2 ^ 32 ∧ u.lState L = lSync) ∧
      (512000 < r → s.dev.ln F.LANE_LANE_STAT_RETRY L < 8 → x.once = false → s.Does (.rdbkReceive L t1 t2 t3 t4 0) fun u => u.lState L = lDetect ∧
        u.ln F.LANE_LANE_STAT_RETRY L = s.dev.ln F.LANE_LANE_STAT_RETRY L + 1)) ∧
    -- in RUN: eight of them give a new estimate, followed by at most SLEW
    (∀ t1 t2 t3 t4 : Nat, s.dev.isUp L = true → s.dev.inL01 L = true → x.rem = true →
      let l : List Int := (((t4 : Int) - (t1 : Int)) - ((t3 : Int) - (t2 : Int))) :: x.rks
      let cur : Int := (s.dev.ln F.LANE_LANE_DELAY_DELAY L : Nat)
      let slew : Int := (s.dev.blkLn F.LANE_REMEAS_CFG_SLEW L : Nat)
      let new := hopDelay l 1 (sgn 16 (s.dev.ln F.LANE_LANE_CFG_ASYM L))
      (x.rks.length < 7 → s.Runs (.rdbkReceive L t1 t2 t3 t4 0) ((d.setLane L { x with rks := l }).emit (.rdbk L .ask))) ∧
      (7 ≤ x.rks.length → (new - cur).natAbs ≤ s.dev.blkLn F.LANE_REMEAS_CFG_JUMP_LIM L → s.Does (.rdbkReceive L t1 t2 t3 t4 0) fun u =>
        u.ln F.LANE_LANE_DELAY_DELAY L = (cur + clampI (-slew) slew (new - cur)).toNat % 2 ^ 32 ∧ (u.lane L).jump = 0 ∧ u.lState L = lRun) ∧
      (7 ≤ x.rks.length → s.dev.blkLn F.LANE_REMEAS_CFG_JUMP_LIM L < (new - cur).natAbs → x.follow = false → x.jump < 3 → s.dev.ln F.LANE_LANE_DELAY_DELAY L < 2 ^ 32 →
        s.Does (.rdbkReceive L t1 t2 t3 t4 0) fun u => u.ln F.LANE_LANE_DELAY_DELAY L = s.dev.ln F.LANE_LANE_DELAY_DELAY L ∧ (u.lane L).jump = x.jump + 1)) ∧
    -- the downstream end returns its turnaround, and takes the delay that it is told
    (∀ t1 t2 t3 t4 : Nat, s.dev.isUp L = false → s.dev.inL01 L = true ∨ st = lSync →
      s.Runs (.rdbkReceive L t1 t2 t3 t4 0) (d.emit (.rdbk L (.reply (t3 - t2))))) ∧
    (∀ t1 t2 t3 t4 r : Nat, s.dev.isUp L = false → s.dev.inL01 L = true ∨ st = lSync → s.Does (.rdbkReceive L t1 t2 t3 t4 (r + 1)) fun u =>
      u.ln F.LANE_LANE_DELAY_DELAY L = r % 2 ^ 32 ∧ u.ln F.LANE_LANE_DELAY_MEAS L = r % 2 ^ 32 ∧ u.lState L = st ∧ (st = lSync → (u.lane L).meas = true)) ∧
    (s.dev.isUp L = true → s.dev.inL01 L = true → s.dev.blkLn F.LANE_REMEAS_CFG_INTERVAL L ≠ 0 →
      s.Runs (.remeasureInterval L) ((d.setLane L { x with rem := true, rks := [] }).emit (.rdbk L .ask))) ∧
    (s.dev.blkLn F.LANE_REMEAS_CFG_INTERVAL L = 0 → s.Runs (.remeasureInterval L) d) ∧
    -- the exit from L3 verifies D
    (∀ rks p, x.exit = some p → p < 4 → st = lRun → s.dev.ln F.LANE_LANE_STAT_PSTATE L = 3 → rks.length = 8 →
      let e := (hopDelay rks 1 (sgn 16 (s.dev.ln F.LANE_LANE_CFG_ASYM L)) - (s.dev.ln F.LANE_LANE_DELAY_DELAY L : Nat)).natAbs
      (s.dev.blkLn F.LANE_REMEAS_CFG_JUMP_LIM L < e → s.Does (.l3ExitComplete L rks) fun u => lost u 5 (List.replicate 8 (.rdbk L .ask))) ∧
      (e ≤ s.dev.blkLn F.LANE_REMEAS_CFG_JUMP_LIM L →
        s.Runs (.l3ExitComplete L rks) (((d.each rks fun u _ => u.emit (.rdbk L .ask)).putLn F.LANE_LANE_STAT_PSTATE L p).setLane L
          { x.awake with exit := none }))) ∧
    (∀ rks, x.exit = none → s.Runs (.l3ExitComplete L rks) d) ∧
    -- a far-end loop ends by its timer or by loss of signal
    (st = lLoop → s.dev.ln F.LANE_LANE_CFG_LOOP L = 3 → s.dev.blkLn F.LANE_LOOP_CFG_LOOP_TMO L ≠ 0 → s.Does (.loopTimeout L) fun u =>
      u.lState L = lDetect ∧ u.ln F.LANE_LANE_EVT_LOOP_END L = 1 ∧ u.ln F.LANE_LANE_CFG_LOOP L = 0) ∧
    (st = lLoop → s.dev.ln F.LANE_LANE_CFG_LOOP L = 3 → s.Does (.laneLoss L ⟨1, []⟩) fun u => u.lState L = lDetect ∧ u.ln F.LANE_LANE_CFG_LOOP L = 0) ∧
    (st ≠ lLoop → s.Runs (.loopTimeout L) d)

/-- A received superframe header: its check, the end of training, what it tells, its beacon, and one that does not come. It rests on R175,
R202 to R204, R229, R350. -/
def Obligations.SofAtADownstreamEnd : Prop :=
  ∀ (s : State) (L : Nat) (data : List Byte), let d := s.dev.begin
    let got := Instr.sofReceive L (withCrc data) true
    let x := SofSeen.ofBytes data 0
    let told := fun (u : Dev) => (∃ y, Tab.find u.proto.sof L = some y ∧ y.plane = x.plane ∧ y.active = x.active ∧ y.trip = x.trip ∧ y.relinq = x.relinq ∧
      y.gen = x.gen ∧ y.cyc = x.cyc ∧ y.rb = false) ∧ Tab.get 0 u.proto.miss L = 0
    (∀ raw clean, s.dev.hasLane L = false → s.Runs (.sofReceive L raw clean) d) ∧
    -- a byte in error, or a CRC that does not pass
    (∀ raw clean, clean = false ∨ crcOk raw = false →
      (s.dev.inRun L = true → s.Runs (.sofReceive L raw clean) (d.incBlkLn F.LANE_SF_ERR_SOF_CRC L 1)) ∧
      (s.dev.inRun L = false → s.Runs (.sofReceive L raw clean) d)) ∧
    -- the first /SOF/ ends the training of the end that has the delay
    (s.dev.hasLane L = true → s.dev.lState L = lSync → s.dev.isUp L = false → (s.dev.lane L).meas = true → s.dev.role = .concentrator ∨ s.dev.role = .cell →
      s.Does got fun u => u.lState L = lRun ∧ u.ln F.LANE_LANE_STAT_TIME_VALID L = 1 ∧ u.ln F.LANE_LANE_EVT_RETRAINED L = 1 ∧ told u) ∧
    (s.dev.inRun L = false → s.dev.lState L ≠ lSync ∨ s.dev.isUp L = true → s.Runs got d) ∧
    -- what it tells, and the station time of its beacon
    (s.dev.inRun L = true → L < 64 → s.dev.role = .concentrator → s.Does got fun u => told u ∧
      -- TK1 of a BONDED pair serves the count of missed superframes alone
      (¬ (L = 1 ∧ s.dev.concBonded = true) → Tab.get 0 u.proto.upoff L = field data 17 1 ∧ Tab.get 0 u.proto.nport L = field data 18 1) ∧
      (L = 1 → s.dev.concBonded = true → u.proto.upoff = s.dev.proto.upoff ∧ u.proto.nport = s.dev.proto.nport ∧ u.proto.per = s.dev.proto.per) ∧
      u.f F.GLOBAL_ROLE_PLANE = (if L = 0 ∧ s.dev.f F.GLOBAL_ROLE_PLANE = 0 then x.plane % 4 else s.dev.f F.GLOBAL_ROLE_PLANE) ∧
      (L = s.dev.srcTrunk → s.dev.ln F.LANE_LANE_STAT_TIME_VALID L ≠ 0 →
        let e := beaconOf data + (s.dev.ln F.LANE_LANE_DELAY_DELAY L : Int) * 2 ^ 32 - s.dev.nowFix
        let t := s.dev.time.bT + ((s.dev.time.frc : Int) - (s.dev.time.bF : Int)) * (s.dev.tickInc : Int)
        u.f F.TIME_CTL_SYNC = 1 ∧ u.f F.TIME_STAT_TQ = b2n (bitOf (field data 16 1) 7) ∧ u.time.bF = s.dev.time.frc ∧
        (e.natAbs ≤ 8 * nsFix → u.time.bT = t + clampI (-(nsFix / 2)) (nsFix / 2) e) ∧
        (8 * nsFix < e.natAbs → u.time.bT = t + e ∧ u.f F.TIME_STAT_STEPPED = 1)) ∧
      (L ≠ s.dev.srcTrunk → u.time = s.dev.time)) ∧
    (s.dev.inRun L = true → s.dev.role = .cell → s.Does got fun u => told u ∧
      (x.trip = true → u.f F.GATE_STAT_TRIP_HOLD = 1) ∧ (x.trip = false → u.f F.GATE_STAT_TRIP_HOLD = s.dev.f F.GATE_STAT_TRIP_HOLD)) ∧
    -- a superframe that does not come
    (s.dev.inL0 L = true → s.dev.isUp L = false → s.Does (.sofMiss L) fun u => Tab.get 0 u.proto.miss L = Tab.get 0 s.dev.proto.miss L + 1 ∧
      u.blkLn F.LANE_SF_MISS_SOF_MISS L = satAdd (laneFld F.LANE_SF_MISS_SOF_MISS L).w (s.dev.blkLn F.LANE_SF_MISS_SOF_MISS L) 1 ∧ u.lState L = lRun) ∧
    (s.dev.inL0 L = false ∨ s.dev.isUp L = true → s.Runs (.sofMiss L) d)

/-- Milestone sections at a CONCENTRATOR, entries at a CELL, and telemetry records at a CONCENTRATOR and at the MANAGER. It rests on R207,
R208, R213 to R215, R218, R219, R299. -/
def Obligations.MilestonesAndTelemetry : Prop :=
  ∀ (s : State) (L : Nat) (data : List Byte), let d := s.dev.begin
    -- a CONCENTRATOR forwards the slots of a section whose header passes
    (∀ head slots : List Byte, head.length = 26 → s.dev.role = .concentrator → L < 64 → s.dev.inL0 L = true → let n := field head 1 1
      let first := field head 2 1
      let got := Instr.msSectionForward L (withCrc head ++ slots) true
      (∀ raw clean, clean = false ∨ crcOk (raw.take 30) = false → s.Runs (.msSectionForward L raw clean) (d.inc F.LANE_SF_ERR_MS_CRC 1)) ∧
      (128 < first + n → s.Runs got (d.inc F.LANE_SF_ERR_MS_CRC 1)) ∧
      (first + n ≤ 128 → s.dev.trunkSof = none → s.Runs got d) ∧
      (first + n ≤ 128 → s.dev.trunkSof ≠ none → s.Does got fun u => s.dev.Keeps [] u.out u ∧
        (∀ k, k < n → bits (fieldBE slots (2 * k) 2) 12 4 ≠ 0 → s.dev.inL0 (64 + first + k) = true →
          Out.lane (64 + first + k) 0xF7 (withCrc (slice head 0 1 ++ slice head 3 23 ++ beBytes 2 (fieldBE slots (2 * k) 2))) ∈ u.out))) ∧
    (∀ raw clean, s.dev.role ≠ .concentrator ∨ 64 ≤ L ∨ s.dev.inL0 L = false → s.Runs (.msSectionForward L raw clean) d) ∧
    -- a CELL decodes an entry
    (s.dev.awake = true → s.dev.inL0 L = true → let got := Instr.msEntryDecode L (withCrc data) true
      let bad := fun (u : Dev) => ({ u with gate := { u.gate with badcmd := true } } : Dev).inc F.LANE_MS_STAT_BADCMD_CNT.onLeaf 1
      let slot := fieldBE data 24 2
      let op := bits slot 12 4
      let c : GCmd := { op := op, param := bits slot 4 8, exec := fieldBE data 8 4, cv := bitOf (field data 1 1) 7, duty := fieldBE data 12 4,
                        cper := fieldBE data 16 4, cphase := fieldBE data 20 4 }
      -- one whose CRC fails, of the plane that the cell follows or of the other one
      (∀ raw clean, clean = false ∨ crcOk raw = false → let u := d.inc F.LANE_SF_ERR_MS_CRC.onLeaf 1
        let plane := match Tab.find s.dev.proto.sof L with | some x => x.plane | none => 0
        (L = 65 → s.dev.leafDup = true → s.Runs (.msEntryDecode L raw clean) u) ∧
        (L ≠ 65 ∨ s.dev.leafDup = false → plane = 0 ∨ plane ≠ s.dev.gate.fplane → s.Runs (.msEntryDecode L raw clean) (u.inc F.LANE_MS_STAT_OTHER_CNT.onLeaf 1)) ∧
        (L ≠ 65 ∨ s.dev.leafDup = false → plane ≠ 0 → plane = s.dev.gate.fplane → s.Runs (.msEntryDecode L raw clean) (bad u))) ∧
      (L = 65 → s.dev.leafDup = true → s.Runs got d) ∧
      (∀ x, L ≠ 65 ∨ s.dev.leafDup = false → Tab.find s.dev.proto.sof L = some x → genHigher 16 (fieldBE data 2 2) s.dev.gate.gen = false →
        (x.plane = 0 ∨ x.plane ≠ s.dev.gate.fplane → s.Runs got (d.inc F.LANE_MS_STAT_OTHER_CNT.onLeaf 1)) ∧
        (x.plane ≠ 0 → x.plane = s.dev.gate.fplane →
          (chk4 (slot / 16) ≠ slot % 16 ∨ opDefined op c.param = false ∨ (op = 2 ∧ s.dev.f F.GATE_CTL_FB = 0) → s.Runs got (bad d)) ∧
          (chk4 (slot / 16) = slot % 16 → opDefined op c.param = true → (op = 2 → s.dev.f F.GATE_CTL_FB ≠ 0) →
            (op = 0 → s.Runs got d) ∧
            -- in time: queued in order of EXEC, in place of one with the same EXEC; late: executed now, but for CONFIG
            (op ≠ 0 → s.dev.isLate c = false → s.dev.gate.cmds.length < 8 ∨ s.dev.gate.cmds.any (fun e => decide (e.exec = c.exec)) = true →
              s.Runs got { d with gate := { d.gate with cmds := queueIn c d.gate.cmds } }) ∧
            (op ≠ 0 → s.dev.isLate c = false → 8 ≤ s.dev.gate.cmds.length → s.dev.gate.cmds.any (fun e => decide (e.exec = c.exec)) = false →
              s.Runs got (({ d with gate := { d.gate with ovf := true } } : Dev).inc F.LANE_MS_STAT_BADCMD_CNT.onLeaf 1)) ∧
            (op ≠ 0 → s.dev.isLate c = true →
              let u := ({ d with gate := { d.gate with late := true } } : Dev).inc F.LANE_MS_STAT_LATE_CNT.onLeaf 1
              s.Runs got (if op = 7 then u else u.obey c (s.dev.cycleW + 256))))))) ∧
    -- records, at a CONCENTRATOR and at the MANAGER
    (s.dev.role = .concentrator → 64 ≤ L → s.dev.inL0 L = true →
      (∀ raw clean, clean = false ∨ crcOk raw = false → s.Runs (.telemetryRecordReceive L raw clean) (d.inc F.LANE_SF_ERR_TLM_CRC.onLeaf 1)) ∧
      s.Runs (.telemetryRecordReceive L (withCrc data) true)
        { d with proto := { d.proto with tlm := Tab.put d.proto.tlm (L - 64) (((slice data 6 12, s.dev.now) :: Tab.get [] d.proto.tlm (L - 64)).take 4) } }) ∧
    (∀ raw clean, s.dev.role ≠ .concentrator ∨ L < 64 ∨ s.dev.inL0 L = false → s.Runs (.telemetryRecordReceive L raw clean) d) ∧
    (s.dev.role = .manager → s.dev.inRun L = true → s.dev.isPair L = false → let got := Instr.telemetryUse L (withCrc data) true
      (∀ raw clean, clean = false ∨ crcOk raw = false → s.Runs (.telemetryUse L raw clean) (d.incBlkLn F.LANE_SF_ERR_TLM_CRC L 1)) ∧
      (64 ≤ L → ∀ g, s.dev.cellAt s.dev.actSet 63 (L - 64) = some g → let r := slice data 6 12
        let st := bits (field r 2 1) 5 3
        (st = 7 → s.Does got fun u => u.spin = s.dev.spin ∧ u.pair = s.dev.pair) ∧
        (st ≠ 7 → (s.dev.spCell g).st ≠ 0 → s.Does got fun u => (u.spCell g).reps = (s.dev.spCell g).reps ++
          [{ k := sampleCycle (s.dev.cyc24 (fieldBE data 3 3)) (field r 5 1), v := fieldBE r 0 2, st := st, pos := bits (field r 2 1) 3 2, fresh := true }])) ∧
      (L < 64 → bitOf (field (slice data 6 16) 0 1) 7 = true → s.Does got fun u => let r := slice data 6 16
        Tab.get 0 u.proto.ldel (s.dev.primaryOf s.dev.actSet L * 128 + field r 0 1 % 128) = fieldBE r 1 3 + 1)) ∧
    (∀ raw clean, s.dev.role ≠ .manager ∨ s.dev.inRun L = false ∨ s.dev.isPair L = true → s.Runs (.telemetryUse L raw clean) d)

/-- Roadblock sequences, and remote register requests: executed, passed on, answered, timed out or dropped. It rests on R222 to R225, R227 to
R229. -/
def Obligations.RemoteAccessAndRoadblock : Prop :=
  ∀ (s : State) (L : Nat), let d := s.dev.begin
    -- Roadblock
    (∀ run, (s.dev.fromAlign L = false ∧ s.dev.farLoop L = false) ∨ run = 0 → s.Runs (.roadblock L run) d) ∧
    (s.dev.fromAlign L = true ∨ s.dev.farLoop L = true → s.Runs (.roadblock L 1) (d.incBlkLn F.LANE_RB_STAT_SINGLE_CNT L 1)) ∧
    (∀ run, 2 ≤ run → s.dev.fromAlign L = true ∨ s.dev.farLoop L = true →
      (s.dev.gIs gRun = true → s.Does (.roadblock L run) fun u => u.gState = gBlocked ∧ bitOf (u.f F.GATE_STAT_CAUSE) cRoadblock = true ∧
        u.gate.legA.hi = false ∧ u.gate.legA.lo = false ∧ u.gate.legB.hi = false ∧ u.gate.legB.lo = false ∧ u.f F.GATE_STAT_TRIP_HOLD = 1 ∧
        u.f F.LANE_RB_STAT_SEEN.onLeaf = 1) ∧
      (s.dev.role = .concentrator → L < 64 → s.dev.proto.rbAt = none → s.Does (.roadblock L run) fun u => u.f F.LANE_RB_STAT_SEEN = 1 ∧
        u.proto.rbAt = some (L, s.dev.now) ∧ (∀ M, 64 ≤ M → s.dev.fromAlign M = true → Out.lane M 0xFE [] ∈ u.out)) ∧
      (s.dev.role = .concentrator → 64 ≤ L → s.Runs (.roadblock L run) d) ∧
      (s.dev.role = .manager → s.dev.isPair L = true → s.dev.f F.LANE_RB_CTL_PAIR_EN ≠ 0 → s.Does (.roadblock L run) fun u =>
        u.f F.PAIR_STAT_PAIR_TRIP ≠ 0 ∧ u.f F.LANE_RB_STAT_SEEN = 1) ∧
      (s.dev.role = .manager → s.dev.isPair L = true → s.dev.f F.LANE_RB_CTL_PAIR_EN = 0 →
        s.Runs (.roadblock L run) { d with pair := { d.pair with psof := d.pair.psof.map fun x => { x with rb := true } } }) ∧
      (s.dev.role = .manager → s.dev.isPair L = false → s.Runs (.roadblock L run) d)) ∧
    (∀ host pairEn, s.dev.blockStatus .trunk 0x3F10 = .ok → s.Runs (.rbCtlWrite host pairEn)
      (((d.put F.LANE_RB_CTL_HOST (b2n host)).put F.LANE_RB_CTL_PAIR_EN (b2n pairEn)).complete .ok)) ∧
    -- requests
    (∀ raw clean, (s.dev.inRun L = false ∧ s.dev.farLoop L = false) ∨ s.dev.role = .manager ∨ (s.dev.role = .concentrator ∧ 64 ≤ L) → s.Runs (.rrRequest L raw clean) d) ∧
    (∀ raw clean, s.dev.inRun L = true ∨ s.dev.farLoop L = true → s.dev.role = .cell ∨ (s.dev.role = .concentrator ∧ L < 64) →
      clean = false ∨ crcOk raw = false ∨ rrPackets 16 (crcBody raw) = none → s.Runs (.rrRequest L raw clean) (d.incBlkLn F.LANE_SF_ERR_RR_CRC L 1)) ∧
    (∀ l p, s.dev.inRun L = true ∨ s.dev.farLoop L = true → rrPackets 16 l = some [p] → let got := Instr.rrRequest L (withCrc l) true
      let op := pktOp p
      let addr := fieldBE p 4 4
      let r := d.access { m := mSkein, off := addr, n := if op ≤ 2 then 4 else 8, wr := if op % 2 = 0 then some (fieldBE p 8 8) else none,
                          ep := some (pktEpoch p), desc := none }
      let u := r.2.2.complete r.1 r.2.1
      -- executed by a CELL, or by a CONCENTRATOR where DEST says so: the reply waits for an upstream frame
      (s.dev.role = .cell → L = 64 ∨ L = 65 → pktDest p = 1 → 1 ≤ op → op ≤ 4 → s.dev.farLoop L = false →
        s.Runs got (u.queueReply L (replyPacket p (u.answerEpoch addr (pktEpoch p)) r.1 r.2.1) (u.now + 32))) ∧
      (s.dev.role = .concentrator → L < 64 → pktDest p = 0 → 1 ≤ op → op ≤ 4 → s.dev.farLoop L = false →
        s.Runs got (u.queueReply L (replyPacket p (u.answerEpoch addr (pktEpoch p)) r.1 r.2.1) (u.now + 16))) ∧
      -- in a far-end loop it is executed, and no reply goes out
      (s.dev.role = .cell → L = 64 ∨ L = 65 → pktDest p = 1 → 1 ≤ op → op ≤ 4 → s.dev.farLoop L = true → s.Runs got u) ∧
      -- passed on to a cell, or answered for it
      (s.dev.role = .concentrator → L < 64 → pktDest p = 1 → let port := pktPort p
        (s.dev.inRun (64 + port) = false → s.Runs got
          ((d.retired .leaf 1).queueReply L (replyPacket p (pktEpoch p) .retired 0) (s.dev.now + 16))) ∧
        (s.dev.inRun (64 + port) = true → 2 ≤ (s.dev.proto.fwd.filter fun x => decide (x.port = port) && !x.sent).length → s.Runs got
          ((d.queueReply L (replyPacket p (pktEpoch p) .busy 0) (s.dev.now + 16)).inc F.LANE_RRA_STAT_BUSY_CNT 1)) ∧
        (s.dev.inRun (64 + port) = true → (s.dev.proto.fwd.filter fun x => decide (x.port = port) && !x.sent).length < 2 → s.Runs got
          (({ d with proto := { d.proto with fwd := d.proto.fwd ++ [{ lane := L, port := port, pkt := p, sent := false }] } } : Dev).fwdPump port)))) ∧
    -- replies at the MANAGER
    (∀ raw clean, s.dev.inRun L = true → clean = false ∨ crcOk raw = false ∨ rrPackets 12 (crcBody raw) = none → s.Runs (.rrReply L raw clean) (d.incBlkLn F.LANE_SF_ERR_RR_CRC L 1)) ∧
    (∀ raw clean, s.dev.inRun L = false → s.Runs (.rrReply L raw clean) d) ∧
    (∀ l p, s.dev.inRun L = true → s.dev.role = .manager → rrPackets 12 l = some [p] → let got := Instr.rrReply L (withCrc l) true
      let found := s.dev.rrFind L (pktDest p) (pktPort p) (pktTag p)
      let st := (Status.ofCode (field p 3 1)).getD .invalid
      (found = none → s.Runs got (d.inc F.LANE_RRA_STAT_LATE_CNT 1)) ∧
      (∀ q, found = some q → pktEpoch p = q.epoch ∨ st = .staleEpoch ∨ q.addr % 0x10000 = 0xFFF0 →
        s.Runs got ((d.rrDrop q).rrComplete q st (pktEpoch p) (fieldBE p 4 8))) ∧
      (∀ q, found = some q → pktEpoch p ≠ q.epoch → st ≠ .staleEpoch → q.addr % 0x10000 ≠ 0xFFF0 →
        s.Runs got (d.inc (staleFld .trunk) 1))) ∧
    -- and requests without a reply
    (∀ dest port tag q t, s.dev.rrFind L dest port tag = some q → q.sent = some (tag, t) →
      let u := d.advanceTo (t + s.dev.f F.LANE_RRA_CFG_TMO * 1000)
      s.Runs (.rrTimeout L dest port tag) (((u.rrDrop q).inc F.LANE_RRA_STAT_TMO_CNT 1).rrComplete q .timeout q.epoch 0)) ∧
    (∀ dest port tag, s.dev.rrFind L dest port tag = none → s.Runs (.rrTimeout L dest port tag) d)

/-- A command of a CELL that falls due: positions, BLOCK, CLOSE, CARRIER and CONFIG, accepted, deferred or refused by state and mode. It rests
on R207, R215, R216, R233 to R236, R241, R243, R246, R254, R258, R259. -/
def Obligations.CellCommandsFallDue : Prop :=
  ∀ (s : State), let d := s.dev.begin
    let st := s.dev.gState
    let hold := s.dev.f F.GATE_STAT_TRIP_HOLD
    let rows : List (Nat × Nat × Instr) := [(1, 0, .insertPos), (2, 0, .insertNeg), (3, 0, .bypass), (4, 0, .block), (5, 0, .close), (6, 0, .carrier),
      (7, 1, .configMilestone), (7, 2, .configCarrier), (7, 3, .configRelease)]
    -- the row of another operation than that at the head says nothing
    (∀ op param row, (op, param, row) ∈ rows →
      s.dev.gate.cmds = [] ∨ s.dev.awake = false ∨ (∃ c l, s.dev.gate.cmds = c :: l ∧ (c.op ≠ op ∨ (op = 7 ∧ c.param ≠ param))) → s.Runs row d) ∧
    ∀ (c : GCmd) (l : List GCmd), s.dev.gate.cmds = c :: l → s.dev.awake = true →
    let g := ({ d with gate := { d.gate with cmds := l } } : Dev).pastCycle (s.dev.longTime c.exec * 64)
    let t0 := s.dev.t0Of (s.dev.longTime c.exec)
    let execW := g.longTime c.exec * 64
    -- values for the carrier mode count from here while no carrier runs
    let k : Dev := if s.dev.gate.period = none then { g with gate := { g.gate with carrAt := execW } } else g
    let refused := fun (g : Dev) => ({ g with gate := { g.gate with badcmd := true } } : Dev).inc F.GATE_CMD_CNT_REFUSE_CNT 1
    let declined := fun (g : Dev) => refused (g.raise F.GATE_EVT_REL_REFUSE)
    -- inside a transition every command but BLOCK waits
    (∀ op param row, (op, param, row) ∈ rows → op ≠ 4 → c.op = op → (op = 7 → c.param = param) → s.dev.moving = true ∨ s.dev.gate.wait ≠ [] →
      s.Runs row { g with gate := { g.gate with wait := g.gate.wait ++ [c] } }) ∧
    -- BLOCK
    (c.op = 4 → (st = gRun → s.Does .block fun u => u.gState = gBlocked ∧ u.f F.GATE_STAT_POS = pBlocked ∧ bitOf (u.f F.GATE_STAT_CAUSE) cCmd = true ∧
        u.gate.legA.hi = false ∧ u.gate.legA.lo = false ∧ u.gate.legB.hi = false ∧ u.gate.legB.lo = false ∧ u.gate.cmds = l ∧
        s.dev.Keeps [.gate, .time] [] u) ∧
      (st ≠ gRun → s.Runs .block g)) ∧
    (s.dev.moving = false → s.dev.gate.wait = [] →
      -- positions
      (∀ op row, (op, row) ∈ [(1, Instr.insertPos), (2, .insertNeg), (3, .bypass)] → c.op = op →
        (hold ≠ 0 → op ≠ 3 → s.Runs row (g.inc F.LANE_MS_STAT_TRIP_CNT.onLeaf 1)) ∧
        (hold = 0 ∨ op = 3 →
          (st ≠ gRun → st ≠ gBypassed → s.Runs row (g.inc F.GATE_CMD_CNT_NOTRUN_CNT 1)) ∧
          (st = gBypassed → s.Runs row g) ∧
          (st = gRun → s.dev.f F.GATE_STAT_MODE ≠ 0 → s.Runs row (refused g)) ∧
          (st = gRun → s.dev.f F.GATE_STAT_MODE = 0 → s.Does row fun u =>
            u.f F.GATE_STAT_POS = opPos op ∧ u.gate.legA = s.dev.gate.legA.goTo s.dev.dtCfg (decide (op = 1)) t0 execW ∧
            u.gate.legB = (if s.dev.f F.GATE_CTL_FB ≠ 0 then s.dev.gate.legB.goTo s.dev.dtCfg (decide (op = 2)) t0 execW else s.dev.gate.legB) ∧
            u.gate.cmds = l ∧ s.dev.Keeps [.gate, .time] [] u))) ∧
      -- CLOSE
      (c.op = 5 → (st = gBypassed → s.Runs .close g) ∧
        (st ≠ gBypassed → s.dev.f F.GATE_BYP_STAT_FIRED ≠ 0 → s.Runs .close (g.setBit F.GATE_BYP_STAT_X_CAUSE 0 true)) ∧
        (st ≠ gBypassed → s.dev.f F.GATE_BYP_STAT_FIRED = 0 → s.Does .close fun u => u.gState = gBypassed ∧ u.f F.GATE_BYP_STAT_FIRED = 1 ∧
          u.f F.GATE_BYP_STAT_FIRST_Y = 0 ∧ bitOf (u.f F.GATE_BYP_STAT_X_CAUSE) 0 = true ∧ u.gate.legA.hi = false ∧ u.gate.legA.lo = false)) ∧
      -- CARRIER reaches the shadows
      (c.op = 6 → (hold ≠ 0 → s.Runs .carrier (k.inc F.LANE_MS_STAT_TRIP_CNT.onLeaf 1)) ∧
        (hold = 0 → st = gBypassed → s.Runs .carrier k) ∧
        (hold = 0 → st ≠ gBypassed → (c.cv = false ∨ c.cper < 2000 ∨ 100000000 < c.cper) → s.Runs .carrier (refused k)) ∧
        (hold = 0 → st ≠ gBypassed → c.cv = true → 2000 ≤ c.cper → c.cper ≤ 100000000 → s.Runs .carrier
          (({ k with gate := { k.gate with shadow := some { duty := c.duty, cper := c.cper, cphase := c.cphase } } } : Dev).put F.GATE_STAT_CARR_IDLE 0))) ∧
      -- CONFIG
      (c.op = 7 →
        (c.param = 1 → (st = gBypassed → s.Runs .configMilestone k) ∧
          (st ≠ gBypassed → s.Does .configMilestone fun u => u.f F.GATE_STAT_MODE = 0 ∧ u.f F.GATE_STAT_CARR_IDLE = 0 ∧
          u.gate.edges = [] ∧ u.gate.period = none ∧ u.gate.legA = s.dev.gate.legA ∧ s.dev.Keeps [.gate, .time] [] u)) ∧
        (c.param = 2 → (st = gBypassed → s.Runs .configCarrier k) ∧
          (st ≠ gBypassed → s.Does .configCarrier fun u => u.f F.GATE_STAT_MODE = 1 ∧
          u.f F.GATE_STAT_CARR_IDLE = b2n s.dev.gate.shadow.isNone ∧ u.gate.legA = s.dev.gate.legA ∧ s.dev.Keeps [.gate, .time] [] u)) ∧
        (c.param = 3 → hold ≠ 0 → s.Runs .configRelease (declined (k.inc F.LANE_MS_STAT_TRIP_CNT.onLeaf 1))) ∧
        (c.param = 3 → hold = 0 → st = gRun → s.Runs .configRelease k) ∧
        (c.param = 3 → hold = 0 → st = gBypassed → s.Runs .configRelease (declined k)) ∧
        -- it starts a supply that stopped, in any state
        (c.param = 3 → hold = 0 → st ≠ gRun → st ≠ gBypassed →
          let may := s.dev.onFollowed = true ∧ s.dev.gate.cds = 0 ∧ s.dev.f F.GATE_STAT_DESAT_LOCK = 0 ∧
            (s.dev.f F.GATE_AUX_CFG0_UV : Int) ≤ s.dev.vauxNow ∧ s.dev.f F.GATE_VLIM_VMIN_RUN ≤ s.dev.vcapNow ∧ s.dev.vcapNow < s.dev.f F.GATE_VLIM_OVW
          (may → s.Does .configRelease fun u => u.gState = gRun ∧ (∀ k, k < 9 → k ≠ cVsense → bitOf (u.f F.GATE_STAT_CAUSE) k = false) ∧
            u.gate.runAt.isSome = true ∧ u.gate.cmds = l) ∧
          (¬ may → s.Runs .configRelease (declined k.auxRelease)))))

/-- Dead time, node detection and its faults, a deferred command, and the boundaries and edges of the carrier. It rests on R236 to R242. -/
def Obligations.CellEdges : Prop :=
  ∀ (s : State) (k : Nat), k < 2 → let d := s.dev.begin
    let leg := s.dev.leg k
    -- the node is seen; the incoming switch follows it
    (∀ tr tn, leg.tr = some tr → tr.node = none → tr.on = none → tn * 5 ≤ tr.cfg.max → s.Does (.nodeSeen k tn) fun u =>
      u.leg k = { leg with sf := 0, tr := some { tr with node := some (tn * 5) } } ∧ u.gate.swt = s.dev.gate.swt ++ [(tr.t0 + tn * 5, swtOf (tr.t0 + tn * 5) tr.exec)] ∧
      s.dev.Keeps [.gate] [] u) ∧
    -- seen after DT_MAX, within NODE_TMO
    (∀ tr tn x, leg.tr = some tr → tr.node = none → tr.on = some x → tn * 5 ≤ x + tr.cfg.tmo → s.Does (.nodeSeen k tn) fun u =>
      u.leg k = { leg with sf := 0, tr := none } ∧ u.gate.swt = s.dev.gate.swt ++ [(tr.t0 + tn * 5, swtOf (tr.t0 + tn * 5) tr.exec)] ∧
      s.dev.Keeps [.gate] [] u) ∧
    (∀ tn, leg.tr = none ∨ (∃ tr, leg.tr = some tr ∧ (tr.node ≠ none ∨ (tr.on = none ∧ tr.cfg.max < tn * 5) ∨ ∃ x, tr.on = some x ∧ x + tr.cfg.tmo < tn * 5)) →
      s.Runs (.nodeSeen k tn) d) ∧
    (∀ tr n, leg.tr = some tr → tr.node = some n → tr.on = none → s.Does (.incomingOn k) fun u =>
      let dt := max tr.cfg.min (min tr.cfg.max (n + tr.cfg.margin))
      u.leg k = { leg with hi := tr.hi, lo := !tr.hi, tr := none, onAt := tr.t0 + dt } ∧ u.f F.GATE_DT_STAT_LAST = dt / 64 % 2 ^ 16 ∧ s.dev.Keeps [.gate, .time] [] u) ∧
    (∀ tr, leg.tr = some tr → tr.node = none → tr.on = none → s.Does (.dtMaxExpiry k) fun u => let dt := tr.cfg.max
      u.leg k = { leg with hi := tr.hi, lo := !tr.hi, tr := some { tr with on := some dt }, onAt := tr.t0 + dt } ∧ u.f F.GATE_EVT_DT_MAXED = 1 ∧
      s.dev.Keeps [.gate, .time] [] u) ∧
    (∀ tr x, leg.tr = some tr → tr.node = none → tr.on = some x → leg.sf < 3 → s.Does (.nodeTimeout k) fun u =>
      u.leg k = { leg with tr := none, sf := leg.sf + 1 } ∧ u.f F.GATE_EVT_SENSE_FAIL = 1 ∧ u.gState = s.dev.gState ∧
        u.time = (s.dev.pastCycle (tr.t0 + x + tr.cfg.tmo)).time ∧ s.dev.Keeps [.gate, .time] [] u) ∧
    (∀ tr x, leg.tr = some tr → tr.node = none → tr.on = some x → 3 ≤ leg.sf → s.dev.gIs gRun = true → s.Does (.nodeTimeout k) fun u =>
      u.gState = gFault ∧ bitOf (u.f F.GATE_STAT_CAUSE) cSense = true ∧ (u.leg k).hi = false ∧ (u.leg k).lo = false) ∧
    (leg.tr = none → s.Runs (.incomingOn k) d ∧ s.Runs (.dtMaxExpiry k) d ∧ s.Runs (.nodeTimeout k) d) ∧
    -- a command that waited takes effect after the last on edge
    (∀ (c : GCmd) l, s.dev.gate.wait = c :: l → s.dev.awake = true →
      (s.dev.moving = true → s.Runs .deferredCommand d) ∧
      (s.dev.moving = false → s.Runs .deferredCommand
        (((({ d with gate := { d.gate with wait := l } } : Dev).raise F.GATE_EVT_DEFER).inc F.GATE_CMD_CNT_DEFER_CNT 1).carryOut c s.dev.cycleW)) ∧
      (s.dev.moving = false → 1 ≤ c.op → c.op ≤ 3 → s.dev.gState = gRun → s.dev.f F.GATE_STAT_MODE = 0 → s.dev.f F.GATE_STAT_TRIP_HOLD = 0 → s.Does .deferredCommand fun u =>
        u.f F.GATE_STAT_POS = opPos c.op ∧ u.gate.wait = l ∧ u.f F.GATE_EVT_DEFER = 1 ∧
        u.gate.legA = s.dev.gate.legA.goTo s.dev.dtCfg (posHiA (opPos c.op)) s.dev.cycleW (s.dev.longTime c.exec * 64) ∧ s.dev.Keeps [.gate] [] u)) ∧
    (∀ pos t, s.dev.gate.wait = [] → s.dev.gate.edgeWait = some (pos, t) → s.dev.awake = true → s.dev.moving = false →
      s.Runs .deferredCommand (({ d with gate := { d.gate with edgeWait := none } } : Dev).setPos pos s.dev.cycleW t)) ∧
    (s.dev.awake = false ∨ (s.dev.gate.wait = [] ∧ s.dev.gate.edgeWait = none) → s.Runs .deferredCommand d) ∧
    -- the carrier: a boundary takes the shadows, an edge the position that stands for it
    (∀ v, s.dev.gate.shadow = some v → 0 < v.cper → s.dev.gIs gRun = true → s.dev.f F.GATE_STAT_MODE ≠ 0 → s.Does .carrierBoundary fun u =>
      u.gate.force = some v ∧ u.gate.shadow = some v ∧ u.f F.GATE_CARR_ACT_DUTY = v.duty % 2 ^ 32 ∧ u.f F.GATE_CARR_ACT_CPER = v.cper % 2 ^ 32 ∧
      u.f F.GATE_STAT_CARR_IDLE = 0 ∧ (∃ a b, u.gate.period = some (a, b) ∧ a < b) ∧ s.dev.Keeps [.gate, .time] [] u) ∧
    (s.dev.gate.shadow = none ∨ s.dev.gIs gRun = false ∨ s.dev.f F.GATE_STAT_MODE = 0 → s.Runs .carrierBoundary d) ∧
    (∀ t pos l, s.dev.gate.edges = (t, pos) :: l → s.dev.gIs gRun = true →
      (s.dev.moving = false → s.dev.gate.wait = [] → s.Does .carrierEdge fun u => u.gate.edges = l ∧ u.f F.GATE_STAT_POS = pos % 4 ∧
        u.gate.legA = s.dev.gate.legA.goTo s.dev.dtCfg (posHiA pos) (s.dev.t0W t) t ∧ s.dev.Keeps [.gate, .time] [] u) ∧
      -- inside a transition, or behind a command that waits, the edge waits
      (s.dev.moving = true ∨ s.dev.gate.wait ≠ [] → let g := ({ d with gate := { d.gate with edges := l } } : Dev).pastCycle t
        s.Runs .carrierEdge { g with gate := { g.gate with edgeWait := some (pos, t) } })) ∧
    (s.dev.gate.edges = [] ∨ s.dev.gIs gRun = false → s.Runs .carrierEdge d)

/-- Desaturation, loss of the lanes or of the followed plane, the sensor cross-check and overvoltage in a CELL. It rests on R244 to R247,
R250, R259, R299. -/
def Obligations.CellFaultActions : Prop :=
  ∀ (s : State), let d := s.dev.begin
    let off := fun (u : Dev) => u.gate.legA.hi = false ∧ u.gate.legA.lo = false ∧ u.gate.legB.hi = false ∧ u.gate.legB.lo = false ∧
      u.gate.edges = [] ∧ u.f F.GATE_STAT_POS = pBlocked
    let conducting := fun (lv : Nat) => (bitOf lv 0 && s.dev.gate.legA.hi) || (bitOf lv 1 && s.dev.gate.legA.lo) ||
      (bitOf lv 2 && s.dev.gate.legB.hi) || (bitOf lv 3 && s.dev.gate.legB.lo)
    -- desaturation
    (∀ lv, let w := s.dev.desatWait lv
      s.dev.gIs gRun = true → conducting lv = true → w.desatTrips.length + 1 < s.dev.f F.GATE_DESAT_CFG_DESAT_MAX →
      s.Does (.desatTrip lv) fun u => u.time = w.time ∧ u.gState = gFault ∧ bitOf (u.f F.GATE_STAT_CAUSE) cDesat = true ∧ off u ∧ u.f F.GATE_EVT_DESAT = 1 ∧
        u.gate.trips = w.now :: w.desatTrips ∧ u.f F.GATE_STAT_DESAT_LOCK = s.dev.f F.GATE_STAT_DESAT_LOCK ∧
        u.f F.GATE_BYP_STAT_FIRED = s.dev.f F.GATE_BYP_STAT_FIRED ∧ s.dev.Keeps [.gate, .time] [] u) ∧
    (∀ lv, s.dev.gIs gRun = true → conducting lv = true → s.dev.f F.GATE_DESAT_CFG_DESAT_MAX ≤ (s.dev.desatWait lv).desatTrips.length + 1 →
      s.dev.f F.GATE_CTL_BYP_ON_DESAT = 0 → s.Does (.desatTrip lv) fun u => u.gState = gFault ∧ off u ∧ u.f F.GATE_STAT_DESAT_LOCK = 1) ∧
    (∀ lv, s.dev.gIs gRun = true → conducting lv = true → s.dev.f F.GATE_DESAT_CFG_DESAT_MAX ≤ (s.dev.desatWait lv).desatTrips.length + 1 →
      s.dev.f F.GATE_CTL_BYP_ON_DESAT ≠ 0 → s.dev.f F.GATE_BYP_STAT_FIRED = 0 → s.Does (.desatTrip lv) fun u => u.gState = gBypassed ∧ off u ∧
        u.f F.GATE_BYP_STAT_FIRED = 1 ∧ bitOf (u.f F.GATE_BYP_STAT_X_CAUSE) 3 = true) ∧
    (∀ lv, s.dev.gIs gRun = false ∨ conducting lv = false → s.Runs (.desatTrip lv) { d with gate := { d.gate with cds := lv % 16 } }) ∧
    -- the lanes, and the followed plane
    (s.dev.gIs gRun = true → 3 ≤ Tab.get 0 s.dev.proto.miss 64 → 3 ≤ Tab.get 0 s.dev.proto.miss 65 → s.Does .cellLaneLoss fun u =>
      u.gState = gBlocked ∧ bitOf (u.f F.GATE_STAT_CAUSE) cLane = true ∧ off u ∧ u.f F.GATE_EVT_LANE_LOSS = 1 ∧ s.dev.Keeps [.gate] [] u) ∧
    (s.dev.awake = false ∨ Tab.get 0 s.dev.proto.miss 64 < 3 ∨ Tab.get 0 s.dev.proto.miss 65 < 3 → s.Runs .cellLaneLoss d) ∧
    (s.dev.gIs gRun = true → 64 ≤ s.dev.gate.lost → s.dev.candidate 64 = false → s.dev.candidate 65 = false → s.Does .followedPlaneLost fun u =>
      u.gState = gBlocked ∧ bitOf (u.f F.GATE_STAT_CAUSE) cLane = true ∧ off u ∧ s.dev.Keeps [.gate] [] u) ∧
    (s.dev.gIs gRun = false ∨ s.dev.gate.lost < 64 ∨ s.dev.candidate 64 = true ∨ s.dev.candidate 65 = true → s.Runs .followedPlaneLost d) ∧
    -- the cross-check of the two sensors; overvoltage
    (16 ≤ s.dev.gate.xchk → s.dev.gIs gRun = true ∨ s.dev.gIs gReady = true ∨ s.dev.gIs gBlocked = true → s.Does .vsense fun u =>
      u.gState = gFault ∧ bitOf (u.f F.GATE_STAT_CAUSE) cVsense = true ∧ off u ∧ s.dev.Keeps [.gate] [] u) ∧
    (16 ≤ s.dev.gate.xchk → s.dev.gIs gFault = true → s.Does .vsense fun u => u.gState = gFault ∧ bitOf (u.f F.GATE_STAT_CAUSE) cVsense = true ∧
      s.dev.Keeps [.gate] [] u) ∧
    (s.dev.gate.xchk < 16 → s.Runs .vsense d) ∧
    (4 ≤ s.dev.gate.ovxN → s.dev.awake = true → s.dev.f F.GATE_CTL_OVX_EN ≠ 0 → s.dev.f F.GATE_BYP_STAT_FIRED = 0 → s.Does .ovx fun u =>
      u.f F.GATE_BYP_STAT_FIRED = 1 ∧ u.f F.GATE_BYP_STAT_FIRST_Y = 0 ∧ bitOf (u.f F.GATE_BYP_STAT_X_CAUSE) 2 = true ∧ u.gState = gBypassed ∧ off u) ∧
    (s.dev.gate.ovxN < 4 ∨ s.dev.awake = false ∨ s.dev.f F.GATE_CTL_OVX_EN = 0 → s.Runs .ovx d)

/-- Channel Y, the maintenance firing, the two keys of the reset of a fired bypass, the OTP record and the pulses. It rests on R254 to R257,
R259. -/
def Obligations.CellBypassChannels : Prop :=
  ∀ (s : State), let d := s.dev.begin
    -- channel Y, in DORMANT too; channel X follows where its domain is powered
    (s.dev.role ≠ .cell ∨ s.dev.gate.yOn = false ∨ s.dev.f F.GATE_BYP_STAT_FIRED ≠ 0 → s.Runs .channelYFire d) ∧
    (s.dev.role = .cell → s.dev.gate.yOn = true → s.dev.f F.GATE_BYP_STAT_FIRED = 0 → s.Does .channelYFire fun u => u.f F.GATE_BYP_STAT_FIRED = 1 ∧
      u.f F.GATE_BYP_STAT_FIRST_Y = 1 ∧ u.f F.GATE_BYP_STAT_X_CAUSE = s.dev.f F.GATE_BYP_STAT_X_CAUSE ∧ u.f F.GATE_EVT_BYP_FIRED = 1 ∧
      (s.dev.f F.GATE_BYP_Y_CFG_MODE = 0 → u.gate.bypY = true) ∧ (s.dev.f F.GATE_BYP_Y_CFG_MODE ≠ 0 → Out.bypPulse 1 ∈ u.out) ∧
      (s.dev.gate.dormant = false → u.gate.fired = 3 ∧ u.gState = gBypassed ∧ (s.dev.f F.GATE_BYP_CFG_MODE = 0 → u.gate.bypX = true) ∧
        (s.dev.f F.GATE_BYP_CFG_MODE ≠ 0 → Out.bypPulse 0 ∈ u.out)) ∧
      (s.dev.gate.dormant = true → u.gate.fired = 2 ∧ u.gate.bypX = s.dev.gate.bypX ∧ u.gState = s.dev.gState ∧ Out.bypPulse 0 ∉ u.out) ∧
      (s.dev.otpBits < 32 → u.gate.otpDue = s.dev.gate.otpDue + 1) ∧ s.dev.Keeps [.gate] u.out u) ∧
    (s.dev.blockStatus .gate 0x94 = .ok →
      (s.dev.gate.dormant = false → s.dev.f F.GATE_BYP_STAT_FIRED = 0 → s.Does .maintFire fun u => u.cpl = some (.ok, 0) ∧ u.f F.GATE_BYP_STAT_FIRED = 1 ∧
        u.f F.GATE_BYP_STAT_FIRST_Y = 0 ∧ bitOf (u.f F.GATE_BYP_STAT_X_CAUSE) 1 = true ∧ u.gState = gBypassed ∧ u.gate.fired = 3) ∧
      (s.dev.f F.GATE_BYP_STAT_FIRED ≠ 0 → s.Runs .maintFire ((d.setBit F.GATE_BYP_STAT_X_CAUSE 1 true).complete .ok)) ∧
      -- the two keys
      s.Runs .key1 (({ d with gate := { d.gate with key1 := some s.dev.now } } : Dev).complete .ok) ∧
      (s.dev.gate.key1 = none → s.Runs .key2 (d.complete .invalid)) ∧
      (∀ t, s.dev.gate.key1 = some t →
        (t + 10 ^ 6 < s.dev.now → s.Runs .key2 (d.complete .invalid)) ∧
        (s.dev.now ≤ t + 10 ^ 6 → s.dev.gIs gBypassed = false ∨ s.dev.f F.GATE_BYP_CFG_MAINT_VMAX ≤ s.dev.vcapNow ∨ 30 < s.dev.otpBits →
          s.Runs .key2 (d.complete .denied)) ∧
        (s.dev.now ≤ t + 10 ^ 6 → s.dev.gIs gBypassed = true → s.dev.vcapNow < s.dev.f F.GATE_BYP_CFG_MAINT_VMAX → s.dev.otpBits ≤ 30 →
          s.Does .key2 fun u => u.cpl = some (.ok, 0) ∧ u.f F.GATE_BYP_STAT_FIRED = 0 ∧ u.gate.fired = 0 ∧ u.gate.bypX = false ∧ u.gate.bypY = false ∧
            u.gate.otpDue = s.dev.gate.otpDue + 1 ∧ u.gState = gReady ∧ u.f F.GATE_STAT_POS = pBlocked ∧ s.dev.Keeps [.gate] [] u))) ∧
    (s.dev.gate.otpDue = 0 → s.Runs .otpBypassRecord d) ∧
    (s.dev.gate.otpDue ≠ 0 → s.dev.f F.GATE_BYP_STAT_OTP_USED < 32 → s.Does .otpBypassRecord fun u => u.gate.otpDue = s.dev.gate.otpDue - 1 ∧
      u.f F.GATE_BYP_STAT_OTP_USED = s.dev.f F.GATE_BYP_STAT_OTP_USED + 1 ∧ u.otpBits = s.dev.otpBits ∧ s.dev.Keeps [.gate] [] u) ∧
    (∀ y, let pulse := (if y then s.dev.f F.GATE_BYP_Y_CFG_MODE else s.dev.f F.GATE_BYP_CFG_MODE) ≠ 0
      let on := (if y then s.dev.gate.yOn else !s.dev.gate.dormant) = true
      (s.dev.role = .cell → s.dev.f F.GATE_BYP_STAT_FIRED ≠ 0 → pulse → on → s.Runs (.bypassPulse y) (d.emit (.bypPulse (b2n y)))) ∧
      (s.dev.role ≠ .cell ∨ s.dev.f F.GATE_BYP_STAT_FIRED = 0 ∨ ¬ pulse ∨ ¬ on → s.Runs (.bypassPulse y) d))

/-- The auxiliary supply of a CELL, its soft start and undervoltage, and the end of WAKING. It rests on R251 to R253, R259. -/
def Obligations.CellSupplyAndWake : Prop :=
  ∀ (s : State), let d := s.dev.begin
    let on := s.dev.awake = true ∧ s.dev.f F.GATE_AUX_STAT_RUNNING ≠ 0
    (on → s.dev.vcapNow * 2 < s.dev.f F.GATE_AUX_CFG0_VSTART →
      s.Runs .auxPeriodBoundary (({ d with gate := { d.gate with auxSw := false } } : Dev).put F.GATE_AUX_STAT_RUNNING 0)) ∧
    (on → s.dev.f F.GATE_AUX_CFG0_VSTART ≤ s.dev.vcapNow * 2 → s.Does .auxPeriodBoundary fun u => u.gate.auxSw = true ∧ u.gate.ssN = s.dev.gate.ssN + 1 ∧
      -- a pair is taken only with equal tags
      (s.dev.f F.GATE_AUX_TON_TAG = s.dev.f F.GATE_AUX_PER_TAG → u.f F.GATE_AUX_STAT_STALE = 0 ∧ u.fi F.GATE_AUX_TON_TON = s.dev.f F.GATE_AUX_TON_TON % 2 ^ 16 ∧
        u.fi F.GATE_AUX_PER_PER = s.dev.f F.GATE_AUX_PER_PER % 2 ^ 16 ∧ u.f F.GATE_EVT_AUX_STALE = s.dev.f F.GATE_EVT_AUX_STALE) ∧
      (s.dev.f F.GATE_AUX_TON_TAG ≠ s.dev.f F.GATE_AUX_PER_TAG → u.f F.GATE_AUX_STAT_STALE = 1 ∧ u.f F.GATE_EVT_AUX_STALE = 1 ∧
        u.fi F.GATE_AUX_TON_TON = s.dev.fi F.GATE_AUX_TON_TON ∧ u.fi F.GATE_AUX_PER_PER = s.dev.fi F.GATE_AUX_PER_PER) ∧
      (s.dev.f F.GATE_AUX_CFG0_SS ≤ s.dev.gate.ssN → u.f F.GATE_AUX_STAT_TON = u.fi F.GATE_AUX_TON_TON % 2 ^ 16) ∧ s.dev.Keeps [.gate] [] u) ∧
    (s.dev.f F.GATE_AUX_STAT_RUNNING = 0 → s.Runs .auxPeriodBoundary d) ∧
    s.Runs .auxOnEnd { d with gate := { d.gate with auxSw := false } } ∧
    (s.dev.gate.auxSw = true → s.Runs .auxIlim
      ((({ d with gate := { d.gate with auxSw := false } } : Dev).raise F.GATE_EVT_AUX_ILIM).inc F.GATE_AUX_STAT_ILIM_CNT 1)) ∧
    (s.dev.gate.auxSw = false → s.Runs .auxIlim d) ∧
    (s.dev.gIs gRun = true ∨ s.dev.gIs gReady = true ∨ s.dev.gIs gBlocked = true → s.Does .auxUndervoltage fun u => u.gState = gFault ∧
      bitOf (u.f F.GATE_STAT_CAUSE) cAux = true ∧ u.f F.GATE_STAT_POS = pBlocked ∧ s.dev.Keeps [.gate] [] u) ∧
    (s.dev.gIs gFault = true → s.Does .auxUndervoltage fun u => u.gState = gFault ∧ bitOf (u.f F.GATE_STAT_CAUSE) cAux = true ∧ s.dev.Keeps [.gate] [] u) ∧
    (s.dev.gIs gWaking = true ∨ s.dev.gIs gBypassed = true → s.Runs .auxUndervoltage (d.logEvent 0x0C 0)) ∧
    (s.dev.awake = false → s.Runs .auxUndervoltage d) ∧
    -- the soft start, and the time from VSTART
    (s.dev.awake = true → s.dev.f F.GATE_AUX_CFG0_VSTART ≤ s.dev.vcapNow →
      (s.dev.gIs gWaking = true ∨ s.dev.gate.auxArm = true → s.dev.f F.GATE_AUX_STAT_RUNNING = 0 → s.Does .auxStart fun u =>
        u.f F.GATE_AUX_STAT_RUNNING = 1 ∧ u.gate.ssN = 0 ∧ u.gate.auxArm = false ∧ u.gate.auxDrv = true ∧
        (s.dev.gIs gWaking = true → u.gate.vstart = some (s.dev.gate.vstart.getD s.dev.now)) ∧ s.dev.Keeps [.gate] [] u) ∧
      (s.dev.gIs gWaking = true → s.dev.f F.GATE_AUX_STAT_RUNNING ≠ 0 → s.Runs .auxStart
        { d with gate := { d.gate with vstart := some (s.dev.gate.vstart.getD s.dev.now) } }) ∧
      (s.dev.gIs gWaking = false → s.dev.gate.auxArm = false ∨ s.dev.f F.GATE_AUX_STAT_RUNNING ≠ 0 → s.Runs .auxStart d)) ∧
    (s.dev.awake = false ∨ s.dev.vcapNow < s.dev.f F.GATE_AUX_CFG0_VSTART → s.Runs .auxStart d) ∧
    -- WAKING to READY, or to FAULT
    (let ok := s.dev.gate.calDone = true ∧ (s.dev.f F.GATE_AUX_CFG0_UV : Int) ≤ s.dev.vauxNow ∧
        (s.dev.lnFlag F.LANE_LANE_STAT_TIME_VALID 64 = true ∨ s.dev.lnFlag F.LANE_LANE_STAT_TIME_VALID 65 = true);
      (s.dev.gIs gWaking = true → ok → s.Does .cellReady fun u => u.gState = gReady ∧ u.f F.GATE_STAT_POS = pBlocked ∧ u.gate.legA.drv = true ∧
        u.gate.legA.hi = false ∧ u.gate.legA.lo = false ∧ u.gate.legB.drv = s.dev.flag F.GATE_CTL_FB ∧ s.dev.Keeps [.gate] [] u) ∧
      (s.dev.gIs gWaking = false ∨ ¬ ok → s.Runs .cellReady d)) ∧
    (∀ t, s.dev.gIs gWaking = true → s.dev.gate.vstart = some t → s.Does .wakeTimeout fun u => u.gState = gFault ∧ bitOf (u.f F.GATE_STAT_CAUSE) cWake = true ∧
      u.f F.GATE_STAT_POS = pBlocked ∧ u.time = (s.dev.advanceTo (t + 10 ^ 8)).time ∧ s.dev.Keeps [.gate, .time] [] u) ∧
    (s.dev.gIs gWaking = false ∨ s.dev.gate.vstart = none → s.Runs .wakeTimeout d)

/-- The word of an ADC conversion: index, channel, value, overload and validity. It rests on R267 to R271, R273. -/
def Obligations.ConversionWords : Prop :=
  ∀ (s : State) (raws : List Int) (c : Nat), let d := s.dev.begin
    let t := d.adcNext
    -- the device at the instant, with the settings then in force
    let x := (d.advanceTo t).adcXferAt t
    let r := raws.getD c 0
    let y := roundDiv true (x.adcCorrect c c r) (2 ^ 32)
    blkOn s.dev.role .adc = true → s.dev.blkGated .adc = false → s.dev.gate.dormant = false →
    c ∈ x.adcDue t → x.adcPair c = false → x.adcIndex t % 2 = 0 → x.fi F.ADC_CH_CFG_FILT c = 0 →
    let head := fun (w : Nat) => w / 2 ^ 24 = x.adcIndex t % 256 ∧ w / 2 ^ 20 % 16 = c
    -- a value inside its range
    (x.adcNoConv t c = false → rawOver r = false → outside16 y = false → (x.adcCh c).hold = 0 → (x.adcCh c).inv = 0 →
      s.Does (.conversion raws) fun u => let w := u.f F.ADC_LAST_WORD c
        head w ∧ wNoConv w = false ∧ wOvr w = false ∧ wValid w = true ∧ wData w = y ∧ u.adc.last = some t ∧ u.role = s.dev.role) ∧
    -- an input overload
    (x.adcNoConv t c = false → rawOver r = true → s.Does (.conversion raws) fun u => let w := u.f F.ADC_LAST_WORD c
      head w ∧ wNoConv w = false ∧ wOvr w = true ∧ wData w = (if 0 ≤ r then 0x7FFF else -0x8000) ∧ (u.adcCh c).ovl = true ∧
      bitOf (u.f F.ADC_STAT_OVR) c = true) ∧
    -- no conversion
    (x.adcNoConv t c = true → s.Does (.conversion raws) fun u => let w := u.f F.ADC_LAST_WORD c
      head w ∧ wNoConv w = true ∧ wOvr w = false ∧ wValid w = false ∧ bitOf (u.f F.ADC_STAT_ACTIVE) c = false)

/-- The self-calibration of the ADC: accepted or refused, and its results inside and outside their limits. It rests on R275. -/
def Obligations.SelfCalibration : Prop :=
  ∀ (s : State), let d := s.dev.begin
    (∀ mask, s.dev.blockStatus .adc 0 = .ok →
      (s.dev.f F.ADC_CAL_BUSY ≠ 0 → s.Runs (.calStart mask) (d.complete .busy)) ∧
      (s.dev.f F.ADC_CAL_BUSY = 0 → mask = 0 ∨ adcAll s.dev.role < mask → s.Runs (.calStart mask) (d.complete .invalid)) ∧
      (s.dev.f F.ADC_CAL_BUSY = 0 → mask ≠ 0 → mask ≤ adcAll s.dev.role → let u := d.put F.ADC_CAL_MASK mask
        s.Runs (.calStart mask) ((({ u with adc := { u.adc with cal := mask } } : Dev).raise F.ADC_CAL_BUSY).complete .ok))) ∧
    (∀ res, s.dev.f F.ADC_CAL_BUSY = 0 → s.Runs (.calibrationDone res) d) ∧
    (∀ res c ofs gain, c < 16 → s.dev.f F.ADC_CAL_BUSY ≠ 0 → bitOf s.dev.adc.cal c = true → res.getD c (0, 0x8000) = (ofs, gain) →
      s.Does (.calibrationDone res) fun u => u.adc.cal = 0 ∧ u.f F.ADC_CAL_BUSY = 0 ∧ 6 ≤ (u.adcCh c).inv ∧ s.dev.Keeps [.adc, .gate] [] u ∧
        (s.dev.role ≠ .cell → u.gate = s.dev.gate) ∧ (s.dev.role = .cell → u.gate = { s.dev.gate with calDone := true }) ∧
        (-2048 ≤ ofs → ofs ≤ 2048 → 9 * 32768 ≤ gain * 10 → gain * 10 ≤ 11 * 32768 → u.f F.ADC_CAL_RES_STATUS c = 0 ∧
          u.f F.ADC_CAL_RES_CAL_OFS c = wrap 16 ofs ∧ u.f F.ADC_CAL_RES_CAL_GAIN c = gain) ∧
        (ofs < -2048 ∨ 2048 < ofs ∨ gain * 10 < 9 * 32768 ∨ 11 * 32768 < gain * 10 → u.f F.ADC_CAL_RES_STATUS c = Status.invalid.code ∧
          u.f F.ADC_CAL_FAIL = 1 ∧ u.f F.ADC_CAL_RES_CAL_OFS c = s.dev.f F.ADC_CAL_RES_CAL_OFS c ∧
          u.f F.ADC_CAL_RES_CAL_GAIN c = s.dev.f F.ADC_CAL_RES_CAL_GAIN c)) ∧
    (∀ res c, c < 16 → s.dev.f F.ADC_CAL_BUSY ≠ 0 → bitOf s.dev.adc.cal c = false → s.Does (.calibrationDone res) fun u =>
      u.f F.ADC_CAL_RES_CAL_OFS c = s.dev.f F.ADC_CAL_RES_CAL_OFS c ∧ u.f F.ADC_CAL_RES_CAL_GAIN c = s.dev.f F.ADC_CAL_RES_CAL_GAIN c ∧
      u.adcCh c = s.dev.adcCh c)

/-- A step of an angle tracker, amplitude faults and resynchronisation, standstill and the index edge. It rests on R279 to R284, R288. -/
def Obligations.AngleTracking : Prop :=
  ∀ (s : State) (i : Nat), i < 4 → let d := s.dev.begin
    let x := s.dev.angInst i
    let t := gridNext 0 50 s.dev.now (some x.upT)
    let g := d.advanceTo t
    (s.dev.f F.ANGLE_CFG_EN i = 0 → s.Runs (.trackerUpdate i) (d.wmkTrack i)) ∧
    -- a synthetic instance follows its angle
    (s.dev.f F.ANGLE_CFG_EN i ≠ 0 → s.dev.isSynth i = true → s.Does (.trackerUpdate i) fun u => let a := g.angPath i t
      (u.angInst i).theta = g.synthAngle i t ∧ (u.angInst i).omega = a - x.turn ∧ (u.angInst i).turn = a ∧ (u.angInst i).upT = t ∧ s.dev.Keeps [.time, .angle, .reel] [] u) ∧
    -- a tracker takes its step: the error of the angle moves speed and angle
    (s.dev.f F.ANGLE_CFG_EN i ≠ 0 → s.dev.isSynth i = false → x.ok = true → x.corr = none → s.Does (.trackerUpdate i) fun u =>
      let x1 := if s.dev.f F.ANGLE_CFG_SRC i = 0 then g.resolverTake { x with upT := t } else g.gridTake i { x with upT := t }
      let w := sgn 32 (wrap 32 (x.omega + shr true ((s.dev.f F.ANGLE_LOOP_KT2 i : Nat) * angErr x1) 24))
      (u.angInst i).omega = w ∧ (u.angInst i).theta = wrap 32 (x.theta + (w + shr true ((s.dev.f F.ANGLE_LOOP_KT1 i : Nat) * angErr x1) 16)) ∧
      (u.angInst i).upT = t ∧ s.dev.Keeps [.time, .angle, .reel] [] u) ∧
    -- with the amplitude at fault the angle stands; the speed is judged on
    (s.dev.f F.ANGLE_CFG_EN i ≠ 0 → s.dev.isSynth i = false → x.ok = false → s.Does (.trackerUpdate i) fun u =>
      (u.angInst i).omega = x.omega ∧ (u.angInst i).theta = x.theta ∧ (u.angInst i).turn = x.turn ∧
      (u.angInst i).upT = t ∧ s.dev.Keeps [.time, .angle, .reel] [] u) ∧
    (x.ok = true → s.dev.f F.ANGLE_CFG_AFILT i ≤ x.outN → s.Does (.ampFault i) fun u => (u.angInst i).ok = false ∧ u.f F.ANGLE_STAT_AMP_FAULT i = 1 ∧
      (s.dev.isSynth i = false → u.f F.ANGLE_STAT_VALID i = 0) ∧ (u.angInst i).theta = x.theta ∧ s.dev.Keeps [.angle] [] u) ∧
    (x.ok = false ∨ x.outN < s.dev.f F.ANGLE_CFG_AFILT i → s.Runs (.ampFault i) d) ∧
    (s.dev.f F.ANGLE_CFG_EN i ≠ 0 → s.dev.isSynth i = false → x.ok = false → s.dev.f F.ANGLE_CFG_AFILT i ≤ x.inN → s.Does (.resync i) fun u =>
      (u.angInst i).ok = true ∧ (u.angInst i).theta = (if x.sn = 0 ∧ x.cn = 0 then 0 else angleOf x.cn x.sn) ∧ (u.angInst i).omega = 0 ∧
      u.f F.ANGLE_STAT_RESYNC i = 1 ∧ (s.dev.f F.ANGLE_STAT_IDX_FAULT i = 0 → u.f F.ANGLE_STAT_VALID i = 1) ∧ s.dev.Keeps [.angle] [] u) ∧
    (x.ok = true ∨ s.dev.f F.ANGLE_CFG_EN i = 0 ∨ s.dev.isSynth i = true ∨ x.inN < s.dev.f F.ANGLE_CFG_AFILT i → s.Runs (.resync i) d) ∧
    (∀ at_, s.dev.f F.ANGLE_CFG_EN i ≠ 0 → x.slowAt = some at_ → s.Runs (.still i) ((d.advanceTo (at_ + s.dev.f F.ANGLE_STILL_STILL_T i * 10 ^ 6)).raise F.ANGLE_STAT_STILL i)) ∧
    (x.slowAt = none ∨ s.dev.f F.ANGLE_CFG_EN i = 0 → s.Runs (.still i) d) ∧
    -- an index edge
    (s.dev.f F.ANGLE_CFG_EN 0 = 0 ∨ s.dev.f F.ANGLE_CFG_SRC 0 ≠ 0 ∨ s.dev.f F.ANGLE_CFG_IDX_EN 0 = 0 → s.Runs .indexEdge d) ∧
    (s.dev.f F.ANGLE_CFG_EN 0 ≠ 0 → s.dev.f F.ANGLE_CFG_SRC 0 = 0 → s.dev.f F.ANGLE_CFG_IDX_EN 0 ≠ 0 →
      let dl := sgn 32 (wrap 32 ((s.dev.angleNow 0 : Int) - (s.dev.f F.ANGLE_IDX_POS_POS 0 : Int)))
      let tol := s.dev.f F.ANGLE_IDX_TOL_TOL 0 * 2 ^ 16
      let win := s.dev.f F.ANGLE_IDX_TOL_WIN 0 * 2 ^ 16
      (dl.natAbs ≤ tol → s.Runs .indexEdge d) ∧
      (tol < dl.natAbs → dl.natAbs ≤ win → s.dev.f F.ANGLE_CFG_IDX_CORR 0 ≠ 0 → s.Does .indexEdge fun u => u.f F.ANGLE_STAT_INDEX_SLIP 0 = 1 ∧
        u.f F.ANGLE_IDX_DIFF_D 0 = wrap 32 dl ∧ (u.angInst 0).corr = some dl ∧ u.f F.ANGLE_STAT_CORR 0 = 1 ∧ s.dev.Keeps [.angle] [] u) ∧
      (tol < dl.natAbs → win < dl.natAbs ∨ s.dev.f F.ANGLE_CFG_IDX_CORR 0 = 0 → s.Does .indexEdge fun u => u.f F.ANGLE_STAT_INDEX_SLIP 0 = 1 ∧
        u.f F.ANGLE_IDX_DIFF_D 0 = wrap 32 dl ∧ u.f F.ANGLE_STAT_IDX_FAULT 0 = 1 ∧ u.f F.ANGLE_STAT_VALID 0 = 0 ∧ s.dev.Keeps [.angle] [] u))

/-- Probe captures and the watermark compares of the angle block. It rests on R285 to R287. -/
def Obligations.ProbesAndCompares : Prop :=
  ∀ (s : State), let d := s.dev.begin
    (∀ p rising, s.dev.f F.ANGLE_PRB_CFG_EN p ≠ 0 → bitOf (s.dev.f F.ANGLE_PRB_CFG_EDGE p) (if rising then 0 else 1) = true →
      (s.dev.f F.ANGLE_PRB_CFG_FULL p ≠ 0 → s.Runs (.probeEdge p rising) (d.inc F.ANGLE_PRB_CFG_MISS 1 p)) ∧
      (s.dev.f F.ANGLE_PRB_CFG_FULL p = 0 → s.Runs (.probeEdge p rising) (((d.put F.ANGLE_PRB_CAP_ANGLE
        (s.dev.angleNow (s.dev.f F.ANGLE_PRB_CFG_INST p)) p).put F.ANGLE_PRB_CAP_TIME s.dev.short p).raise F.ANGLE_PRB_CFG_FULL p))) ∧
    (∀ p rising, s.dev.f F.ANGLE_PRB_CFG_EN p = 0 ∨ bitOf (s.dev.f F.ANGLE_PRB_CFG_EDGE p) (if rising then 0 else 1) = false → s.Runs (.probeEdge p rising) d) ∧
    (∀ w v, w < 8 → s.dev.blockStatus .angle (0x204 + 16 * w) = .ok → let i := s.dev.f F.ANGLE_WMK_CFG_INST w
      let dl := sgn 32 (wrap 32 ((v % 2 ^ 32 : Nat) - (s.dev.angleNow i : Int)))
      let put := d.put F.ANGLE_WMK_TGT_TARGET v w
      -- armed, its angle looked at; after STILL a crossing of either direction counts
      let armed := fun (either : Bool) => let k := (put.raise F.ANGLE_WMK_STAT_ARMED w).wmkLook s.dev.now w
        ({ k with ang := { k.ang with either := putBit k.ang.either w either } } : Dev)
      let still := decide (s.dev.f F.ANGLE_STAT_STILL i ≠ 0)
      (Tab.find s.dev.ang.loomAt w = some s.dev.now → s.Runs (.wmkTgtWrite w v) (d.complete .busy)) ∧
      (Tab.find s.dev.ang.loomAt w ≠ some s.dev.now →
        (s.dev.f F.ANGLE_WMK_CFG_EN w = 0 → s.Runs (.wmkTgtWrite w v) (put.complete .ok)) ∧
        (s.dev.f F.ANGLE_WMK_CFG_EN w ≠ 0 →
          (dl = 0 → s.dev.f F.ANGLE_STAT_VALID i ≠ 0 → s.Does (.wmkTgtWrite w v) fun u => u.cpl = some (.ok, 0) ∧
            u.f F.ANGLE_WMK_STAT_FIRED w = 1 ∧ u.f F.ANGLE_WMK_STAT_T_FIRE w = s.dev.now % 2 ^ 32 ∧ bitOf u.ang.wmk w = true ∧ s.dev.Keeps [.angle] [] u) ∧
          (dl = 0 → s.dev.f F.ANGLE_STAT_VALID i = 0 → s.Runs (.wmkTgtWrite w v) ((armed false).complete .ok)) ∧
          (dl ≠ 0 → still = true ∨ ahead (s.dev.dirNeg i) dl = true → s.Runs (.wmkTgtWrite w v) ((armed still).complete .ok)) ∧
          (dl ≠ 0 → still = false → ahead (s.dev.dirNeg i) dl = false →
            s.Runs (.wmkTgtWrite w v) (((armed false).raise F.ANGLE_WMK_STAT_LATE w).complete .ok))))) ∧
    (∀ w t, w < 8 → s.dev.wmkReady w = true → s.dev.wmkWhen w = some t → s.Does (.wmkCrossing w) fun u => u.f F.ANGLE_WMK_STAT_FIRED w = 1 ∧
      u.f F.ANGLE_WMK_STAT_ARMED w = (if s.dev.f F.ANGLE_WMK_CFG_REPEAT w ≠ 0 then s.dev.f F.ANGLE_WMK_STAT_ARMED w else 0) ∧
      u.f F.ANGLE_WMK_STAT_T_FIRE w = t % 2 ^ 32 ∧ bitOf u.ang.wmk w = true ∧
      bitOf u.ang.pulse w = decide (s.dev.f F.ANGLE_WMK_CFG_ACT w = 0) ∧ (∀ k, k ≠ w → bitOf u.ang.wmk k = bitOf s.dev.ang.wmk k) ∧
      s.dev.Keeps [.time, .angle] [] u) ∧
    (∀ w, s.dev.wmkReady w = false ∨ s.dev.wmkWhen w = none → s.Runs (.wmkCrossing w) d) ∧
    (∀ w, bitOf s.dev.ang.pulse w = true → let g := d.advanceTo (Tab.get 0 s.dev.ang.pulseEnd w)
      s.Runs (.wmkPulseEnd w) { g with ang := { g.ang with wmk := putBit g.ang.wmk w false, pulse := putBit g.ang.pulse w false } }) ∧
    (∀ w, bitOf s.dev.ang.pulse w = false → s.Runs (.wmkPulseEnd w) d)

/-- Whatever an event of the safety controller did, its outputs and the trip demand follow the instances; they are off when it is stopped or
at fault. It rests on R314, R317, R318, R323, R326, R330, R331, R342. -/
def Obligations.SafetyOutputsFollow : Prop :=
  ∀ (was d : Dev), let u := Dev.safeRefresh was d
    (∀ y j, j < 4 → u.outOn y j = u.pairCmd y j) ∧
    (∀ j, j < 4 → u.f F.SAFETY_OUT_STAT_ON j = b2n (u.outOn false j && u.outOn true j)) ∧
    u.f F.SAFETY_TRIP_STAT_DEMAND = b2n u.tripDemand ∧
    (d.safeRun = false → (∀ j, j < 4 → u.f F.SAFETY_OUT_STAT_ON j = 0) ∧ u.f F.SAFETY_TRIP_STAT_DEMAND = 1) ∧
    (d.flag F.SAFETY_STAT_CFAULT = true → (∀ j, j < 4 → u.f F.SAFETY_OUT_STAT_ON j = 0) ∧ u.f F.SAFETY_TRIP_STAT_DEMAND = 1) ∧
    (∀ i, i < 8 → u.f F.SAFETY_INST_STAT_STATE i = u.instState i) ∧
    (∀ y i, i < 8 → u.stOf y i ≠ d.stOf y i → d.safeRun = true ∧ d.stOf y i = sDemand ∧ was.stOf y i = sDemand ∧
      d.linesClosed y i = true ∧ u.stOf y i = (if d.parOn y F.SAFETY_INST_CFG_RESTART i then sRun else sReady))

/-- The checks between the channels of the safety controller: comparison, clocks, supplies and parameters. It rests on R314, R317, R318, R335. -/
def Obligations.SafetyControllerChecks : Prop :=
  ∀ (s : State), let d := s.dev.begin
    let stopped := fun (own : List Blk) (c : Nat) (u : Dev) => u.f F.SAFETY_STAT_CFAULT = 1 ∧ bitOf (u.f F.SAFETY_STAT_CCAUSE) c = true ∧
      (∀ y i, i < 8 → s.dev.stOf y i ≠ sInactive → u.stOf y i = sLockout ∧ bitOf (u.causeOf y i) cCtrl = true) ∧
      (∀ j, j < 4 → u.f F.SAFETY_OUT_STAT_ON j = 0) ∧ u.f F.SAFETY_TRIP_STAT_DEMAND = 1 ∧ s.dev.Keeps own [] u
    let cleared := fun (c : Nat) (u : Dev) => bitOf (u.f F.SAFETY_STAT_CCAUSE) c = false ∧
      (∀ k, k < 5 → k ≠ c → bitOf (u.f F.SAFETY_STAT_CCAUSE) k = bitOf (s.dev.f F.SAFETY_STAT_CCAUSE) k) ∧
      u.f F.SAFETY_STAT_CFAULT = s.dev.f F.SAFETY_STAT_CFAULT ∧ s.dev.Keeps [.safety] [] u
    let differ := s.dev.safe.differ
    (s.dev.safeRun = true →
      -- a difference that lasted; a difference that ended in time
      (differ = true → s.Does .xcmpFault fun u => stopped [.time, .safety] 0 u) ∧
      (differ = false → s.Runs .xcmpFault d) ∧
      (differ = false → s.dev.safe.xRst = true → s.Does .xcmpExchange fun u => cleared 0 u ∧ u.safe.diff = false ∧ u.safe.xRst = false) ∧
      (differ = false → s.dev.safe.diff = true → bitOf (s.dev.f F.SAFETY_STAT_CCAUSE) 0 = false →
        s.Does .xcmpExchange fun u => u.safe.diff = false ∧ u.f F.SAFETY_CNT_XCMP_DIFF = min 0xFFFF (s.dev.f F.SAFETY_CNT_XCMP_DIFF + 1)) ∧
      (differ = true → s.Does .xcmpExchange fun u => u.safe.diff = true ∧
        u.f F.SAFETY_CNT_XCMP_DIFF = s.dev.f F.SAFETY_CNT_XCMP_DIFF ∧ u.f F.SAFETY_STAT_CCAUSE = s.dev.f F.SAFETY_STAT_CCAUSE) ∧
      -- the other channel's clock, within 2 %
      (∀ y n, n < 49000 ∨ 51000 < n → s.Does (.clockCheck y n) fun u => stopped [.safety] 1 u) ∧
      (∀ y n, 49000 ≤ n → n ≤ 51000 → bitOf s.dev.safe.clkBad (b2n (!y)) = false → s.dev.safe.clkBad < 4 → s.Does (.clockCheck y n) fun u => cleared 1 u) ∧
      -- its supply
      (∀ y, s.Does (.supplyFault y false) fun u => stopped [.safety] (if y then 3 else 2) u) ∧
      (∀ y, s.Does (.supplyFault y true) fun u => cleared (if y then 3 else 2) u) ∧
      -- a channel's own copy of the parameters
      (∀ y, let t := if y then s.dev.safe.yPar else s.dev.safe.regs
        (paramCrc t ≠ parFld t F.SAFETY_PARAM_CRC_CRC → s.Does (.paramCrcCheck y) fun u => stopped [.safety] 4 u) ∧
        (paramCrc t = parFld t F.SAFETY_PARAM_CRC_CRC → s.dev.safe.parBad = 0 → s.Does (.paramCrcCheck y) fun u => cleared 4 u))) ∧
    (s.dev.safeRun = false → s.Runs .xcmpExchange d ∧ s.Runs .xcmpFault d ∧ ∀ y n inside, s.Runs (.clockCheck y n) d ∧ s.Runs (.supplyFault y inside) d ∧
      s.Runs (.paramCrcCheck y) d)

/-- Input lines, test pulses and discrepancies of the safety controller. It rests on R314, R319 to R321, R323, R336. -/
def Obligations.SafetyInputLines : Prop :=
  ∀ (s : State), let d := s.dev.begin
    (∀ y k closed, 16 ≤ k → s.Runs (.lineQualify y k closed) d) ∧
    (∀ y k closed, k < 16 → s.dev.safeRun = false → s.Runs (.lineQualify y k closed)
      (Dev.safeRefresh d (d.setCh y { d.ch y with lines := putBit (d.ch y).lines k closed }))) ∧
    (s.dev.safeRun = true →
      -- a line opens in a channel: a demand there, by category 0 or 1
      (∀ y k i, k < 16 → i < 8 → s.dev.instType y i = 1 → s.dev.inPair y i = k / 2 → bitOf (s.dev.ch y).win k = false → s.dev.stOf y i = sRun →
        s.Does (.lineQualify y k false) fun u => u.stOf y i = (if s.dev.parOn y F.SAFETY_INST_CFG_STOP_CAT i then sStopping else sDemand) ∧
          (s.dev.causeOf y i = 0 → u.causeOf y i = 0) ∧ bitOf (u.ch y).lines k = false ∧ (u.ch (!y)).lines = (s.dev.ch (!y)).lines ∧
          s.dev.Keeps [.safety] [] u) ∧
      -- but inside its test window
      (∀ y k i, k < 16 → i < 8 → s.dev.instType y i = 1 → s.dev.inPair y i = k / 2 → s.dev.pairClosed y (k / 2) = true → bitOf (s.dev.ch y).win k = true →
        s.dev.stOf y i = sRun → s.Does (.lineQualify y k false) fun u => u.stOf y i = sRun ∧ bitOf (u.ch y).win k = true ∧ s.dev.Keeps [.safety] [] u) ∧
      -- a line that reads open during its pulse is in its test window; one that reads closed fails
      (∀ y t k openX openY, t < 4 → k < 16 → s.dev.par y F.SAFETY_LINE_CFG_TP k = t + 1 → bitOf (if y then openY else openX) k = true →
        bitOf (s.dev.ch y).lines k = true → s.Does (.testPulse t openX openY) fun u =>
          bitOf (u.ch y).win k = true ∧ (u.ch y).lines = (s.dev.ch y).lines ∧ s.dev.Keeps [.safety] [] u) ∧
      (∀ y t k i openX openY, t < 4 → k < 16 → i < 8 → s.dev.par y F.SAFETY_LINE_CFG_TP k = t + 1 → bitOf (if y then openY else openX) k = false →
        s.dev.usesLine y i k = true → s.dev.stOf y i ≠ sInactive → s.Does (.testPulse t openX openY) fun u =>
          u.stOf y i = sLockout ∧ bitOf (u.causeOf y i) cIntest = true ∧ bitOf (u.ch y).itFail k = true) ∧
      -- it is not closed again in time
      (∀ y k i, k < 16 → i < 8 → bitOf (s.dev.ch y).win k = true → s.dev.usesLine y i k = true → s.dev.stOf y i ≠ sInactive →
        s.Does (.intestCheck k) fun u => u.stOf y i = sLockout ∧ bitOf (u.causeOf y i) cIntest = true ∧ (∀ c, bitOf (u.ch c).win k = false) ∧
          s.dev.Keeps [.time, .safety] [] u) ∧
      (∀ k, (∀ y, bitOf (s.dev.ch y).win k = false) → s.Runs (.intestCheck k) d) ∧
      -- a pair's lines have disagreed for DISC_T
      (∀ y p i, p < 8 → i < 8 → s.dev.pairDiffers y p = true → p ∈ s.dev.instPairs y i → s.dev.stOf y i ≠ sInactive → s.Does (.discrepancy p) fun u =>
        u.stOf y i = sLockout ∧ bitOf (u.causeOf y i) cDisc = true ∧ bitOf (u.ch y).disc p = true ∧ s.dev.Keeps [.time, .safety] [] u) ∧
      (∀ p, 8 ≤ p ∨ (∀ y, s.dev.pairDiffers y p = false) → s.Runs (.discrepancy p) d))

/-- Feedback, off-pulses and readback of the safety outputs, the clearing of their causes, and the end of a category 1 stop. It rests on R314,
R325 to R328, R336. -/
def Obligations.SafetyOutputChecks : Prop :=
  ∀ (s : State), let d := s.dev.begin
    s.dev.safeRun = true →
      -- feedback that does not follow, as a channel judges it
      (∀ y i, i < 8 → s.dev.instType y i = 3 → s.dev.stOf y i ≠ sInactive → s.dev.fbMismatch y i = true → s.Does (.fbFault i) fun u =>
        u.stOf y i = sLockout ∧ bitOf (u.causeOf y i) cFb = true ∧ (∀ c l, l < 8 → l ≠ i → u.causeOf c l = s.dev.causeOf c l) ∧
        s.dev.Keeps [.time, .safety] [] u) ∧
      (∀ i, 8 ≤ i ∨ (∀ y, s.dev.instType y i ≠ 3 ∨ s.dev.fbMismatch y i = false) → s.Runs (.fbFault i) d) ∧
      -- an off-pulse that the readback follows, and one that it does not in a channel's sample
      (∀ j, j < 4 → s.dev.pairOn j = true →
        (∀ y, let u := (d.put (if y then F.SAFETY_OUT_STAT_SRB_Y else F.SAFETY_OUT_STAT_SRB_X) 0 j).both fun g c =>
            g.setRb c j (y && bitOf (g.ch c).rb (2 * j)) (!y && bitOf (g.ch c).rb (2 * j + 1))
          s.Runs (.offPulse j y ⟨false, false⟩) (Dev.safeRefresh d (Dev.startTimer (Dev.raise
            { u with safe := { u.safe with pulsed := Tab.set 0 u.safe.pulsed j (if y then 2 else 1) } } F.SAFETY_OUT_STAT_TEST j) (48 + j)))) ∧
        (∀ y rbX rbY c i, (if c then rbY else rbX) = true → i < 8 → bitOf (s.dev.par c F.SAFETY_OUT_CFG_MEMBERS j) i = true → s.dev.stOf c i ≠ sInactive →
          s.Does (.offPulse j y ⟨rbX, rbY⟩) fun u => u.stOf c i = sLockout ∧ bitOf (u.causeOf c i) cOuttest = true ∧ bitOf (u.ch c).outFail j = true ∧
            s.dev.Keeps [.safety] [] u)) ∧
      (∀ j y rbX rbY, s.dev.pairOn j = false → s.Runs (.offPulse j y ⟨rbX, rbY⟩) d) ∧
      -- the readback after a pulse, and after the pair is off
      (∀ j seenX seenY, j < 4 → s.dev.role = .manager → s.dev.gate.dormant = false → let seen := fun (c : Bool) => if c then seenY else seenX
        (s.dev.f F.SAFETY_OUT_STAT_TEST j ≠ 0 → let back := fun (c : Bool) => bitOf (seen c) (Tab.get 0 s.dev.safe.pulsed j - 1)
          (back false = true → back true = true → let g := d.lastedUs (48 + j) 200
            let u := ((g.both fun g c => g.setRb c j (bitOf (seen c) 0) (bitOf (seen c) 1)).put F.SAFETY_OUT_STAT_SRB_X (b2n (bitOf seenX 0)) j).put
              F.SAFETY_OUT_STAT_SRB_Y (b2n (bitOf seenY 1)) j
            s.Runs (.outtestCheck j seenX seenY) (Dev.safeRefresh g ((Dev.put { u with safe := { u.safe with pulsed := Tab.set 0 u.safe.pulsed j 0 } }
              F.SAFETY_OUT_STAT_TEST 0 j).inc F.SAFETY_OUT_STAT_PASS_CNT 1 j))) ∧
          (∀ c i, i < 8 → back c = false → bitOf (s.dev.par c F.SAFETY_OUT_CFG_MEMBERS j) i = true → s.dev.stOf c i ≠ sInactive →
            s.Does (.outtestCheck j seenX seenY) fun u => u.stOf c i = sLockout ∧ bitOf (u.causeOf c i) cOuttest = true ∧
              s.dev.Keeps [.time, .safety] [] u)) ∧
        (s.dev.f F.SAFETY_OUT_STAT_TEST j = 0 → ∀ c i, i < 8 → s.dev.parOn c F.SAFETY_OUT_CFG_EN j = true →
          (s.dev.outOn false j = false ∧ bitOf (seen c) 0 = true) ∨ (s.dev.outOn true j = false ∧ bitOf (seen c) 1 = true) →
          bitOf (s.dev.par c F.SAFETY_OUT_CFG_MEMBERS j) i = true → s.dev.stOf c i ≠ sInactive → s.Does (.outtestCheck j seenX seenY) fun u =>
            u.stOf c i = sLockout ∧ bitOf (u.causeOf c i) cOuttest = true ∧ s.dev.Keeps [.time, .safety] [] u)) ∧
      -- the causes of the outputs clear by themselves: the outputs of the pairs off with their readbacks off; the feedback applied with the brake off
      (∀ i, i < 8 → (∀ y, ∀ j ∈ s.dev.pairsOf y i, s.dev.holds (32 + j) = true) → s.Does (.safetyCauseClear i) fun u =>
        bitOf (u.instCause i) cOuttest = false ∧ (∀ y, ∀ j ∈ s.dev.pairsOf y i, bitOf (u.ch y).outFail j = false) ∧ s.dev.Keeps [.time, .safety] [] u) ∧
      (∀ i, i < 8 → s.dev.holds (24 + i) = true → s.Does (.safetyCauseClear i) fun u => bitOf (u.instCause i) cFb = false ∧
        s.dev.Keeps [.time, .safety] [] u) ∧
      -- a category 1 stop that ends by its time
      (∀ y i, i < 8 → s.dev.stOf y i = sStopping → s.Does (.cat1Timeout i) fun u => u.stOf y i = sDemand ∧ s.dev.Keeps [.time, .safety] [] u) ∧
      (∀ i, 8 ≤ i ∨ (∀ y, s.dev.stOf y i ≠ sStopping) → s.Runs (.cat1Timeout i) d)

/-- Trip inputs and latches, the safety reset, lock release requests, and RUN and CONFIG of the safety controller. It rests on R314, R323,
R324, R330, R331, R334, R336, R338. -/
def Obligations.SafetyCommands : Prop :=
  ∀ (s : State), let d := s.dev.begin
    -- trip inputs and their latches
    (∀ k high, k < 8 → s.dev.role = .manager → s.dev.gate.dormant = false →
      let u := d.both fun g y => g.setCh y { g.ch y with trip := putBit (g.ch y).trip k (high != bitOf (g.par y F.SAFETY_TRIP_CFG_POL) k) }
      s.Runs (.tripInput k high) (Dev.safeRefresh d (u.setBit F.SAFETY_TRIP_STAT_LEVEL k (high != bitOf (s.dev.f F.SAFETY_TRIP_CFG_POL) k)))) ∧
    (∀ mask, s.dev.blockStatus .safety 0x40C = .ok →
      let active := Nat.land (s.dev.f F.SAFETY_TRIP_STAT_LEVEL) (s.dev.f F.SAFETY_TRIP_CFG_EN)
      (Nat.land mask active ≠ 0 → s.Runs (.tripClr mask) (d.complete .tripActive)) ∧
      (Nat.land mask active = 0 → s.Does (.tripClr mask) fun u => u.cpl = some (.ok, 0) ∧ (∀ k, k < 8 → bitOf mask k = true →
        bitOf (u.f F.SAFETY_TRIP_STAT_LATCH) k = false) ∧ s.dev.Keeps [.safety] [] u)) ∧
    -- the safety reset
    (∀ x y skew, s.dev.safeRun = true →
      (250000000 < x ∨ 250000000 < y → s.Runs (.srstPulse x y skew) (d.raise F.SAFETY_STAT_SRST_LONG)) ∧
      (x ≤ 250000000 → y ≤ 250000000 → x < 5000000 ∨ y < 5000000 ∨ s.dev.f F.SAFETY_XCMP_CFG_XCMP_T * 50 < skew → s.Runs (.srstPulse x y skew) d) ∧
      (5000000 ≤ x → x ≤ 250000000 → 5000000 ≤ y → y ≤ 250000000 → skew ≤ s.dev.f F.SAFETY_XCMP_CFG_XCMP_T * 50 → s.Does (.srstPulse x y skew) fun u =>
        (∀ c i, i < 8 → s.dev.stOf c i = sReady ∨ (s.dev.stOf c i = sDemand ∧ s.dev.linesClosed c i = true) → u.stOf c i = sRun) ∧
        (∀ c i, i < 8 → s.dev.stOf c i = sLockout → s.dev.instCause i = 0 → u.stOf c i = sDemand) ∧
        (∀ c i, i < 8 → s.dev.stOf c i = sLockout → s.dev.instCause i % 2 ^ 6 ≠ 0 → u.stOf c i = sLockout ∧ u.f F.SAFETY_STAT_RST_REFUSED = 1) ∧
        (s.dev.f F.SAFETY_STAT_CFAULT ≠ 0 → s.dev.f F.SAFETY_STAT_CCAUSE ≠ 0 → u.f F.SAFETY_STAT_CFAULT = s.dev.f F.SAFETY_STAT_CFAULT) ∧
        (s.dev.f F.SAFETY_STAT_CCAUSE = 0 → u.f F.SAFETY_STAT_CFAULT = 0) ∧ s.dev.Keeps [.safety] [] u)) ∧
    (∀ x y skew, s.dev.safeRun = false → s.Runs (.srstPulse x y skew) d) ∧
    -- lock release
    (∀ v y i, i < 8 → s.dev.blockStatus .safety 0x180 = .ok → s.dev.safeRun = true → s.dev.instType y i = 2 → bitOf v i = true → s.dev.instReq i = false →
      s.dev.stOf y i = sRun → s.Does (.instReqWrite v) fun u => u.cpl = some (.ok, 0) ∧ u.f F.SAFETY_INST_REQ_REQ = v % 256 ∧
        u.stOf y i = (if s.dev.parOn y F.SAFETY_INST_CFG_STOP_CAT i then sStopping else sDemand) ∧ s.dev.Keeps [.safety] [] u) ∧
    (∀ v, s.dev.blockStatus .safety 0x180 = .ok → s.dev.safeRun = false → s.Runs (.instReqWrite v)
      ((Dev.safeRefresh d (d.put F.SAFETY_INST_REQ_REQ v)).complete .ok)) ∧
    -- RUN and CONFIG
    (s.dev.blockStatus .safety 0 = .ok →
      let good := fun (t : Tab Nat) => decide (paramCrc t = parFld t F.SAFETY_PARAM_CRC_CRC) && paramChecks t
      (s.dev.safeRun = true → s.Runs .safetyRun (d.complete .ok)) ∧
      (s.dev.safeRun = false → (good s.dev.safe.regs && good s.dev.safe.yPar) = false → s.Runs .safetyRun (d.complete .invalid)) ∧
      (s.dev.safeRun = false → good s.dev.safe.regs = true → good s.dev.safe.yPar = true → s.Does .safetyRun fun u => u.cpl = some (.ok, 0) ∧
        u.safeRun = true ∧ u.f F.SAFETY_CTL_RUN = 1 ∧ u.safe.driven = true ∧
        (∀ y i, i < 8 → s.dev.stOf y i = sInactive → s.dev.instType y i ≠ 0 → u.stOf y i = sDemand) ∧
        (∀ y i, i < 8 → s.dev.stOf y i = sInactive ∨ s.dev.stOf y i = sDemand → s.dev.instType y i = 0 → u.stOf y i = sInactive) ∧
        s.dev.Keeps [.safety] [] u) ∧
      (∀ y i, i < 8 → s.dev.safeRun = true → s.dev.stOf y i = sReady ∨ s.dev.stOf y i = sRun ∨ s.dev.stOf y i = sStopping →
        s.Runs .safetyConfig (d.complete .busy)) ∧
      (s.dev.safeRun = false ∨ (∀ y i, i < 8 → s.dev.instGoes y i = false ∧ s.dev.stOf y i ≠ sReady) → s.Does .safetyConfig fun u =>
        u.cpl = some (.ok, 0) ∧ u.safeRun = false ∧ u.f F.SAFETY_CTL_RUN = 0 ∧ (∀ j, j < 4 → u.f F.SAFETY_OUT_STAT_ON j = 0) ∧
        (∀ y i, i < 8 → u.stOf y i = s.dev.stOf y i)))

/-- The brake test: start, abort, torque timeout, samples, hold, and its due time. It rests on R332, R333, R336. -/
def Obligations.BrakeTest : Prop :=
  ∀ (s : State), let d := s.dev.begin
    let i := s.dev.f F.SAFETY_BT_CFG_INST
    let phase := s.dev.f F.SAFETY_BT_STAT_PHASE
    i < 8 →
    (s.dev.blockStatus .safety 0x510 = .ok →
      let ready := s.dev.instState i = sRun ∨ (s.dev.instState i = sLockout ∧ s.dev.instCause i = 2 ^ cBtFail)
      (s.dev.instType false i ≠ 3 → s.Runs .btStart (d.complete .invalid)) ∧
      (s.dev.instType false i = 3 → phase ≠ 0 → s.Runs .btStart (d.complete .busy)) ∧
      (s.dev.instType false i = 3 → phase = 0 → s.dev.safeRun = false ∨ ¬ ready ∨ s.dev.instReq i = true ∨
        (∃ y, s.dev.pairOpen y (s.dev.inPair y i) = false) ∨ s.dev.f F.ANGLE_STAT_STILL 0 = 0 → s.Runs .btStart (d.complete .denied)) ∧
      (s.dev.instType false i = 3 → phase = 0 → s.dev.safeRun = true → ready → s.dev.instReq i = false →
        (∀ y, s.dev.pairOpen y (s.dev.inPair y i) = true) → s.dev.f F.ANGLE_STAT_STILL 0 ≠ 0 →
        (∀ y l, l < 8 → s.dev.stOf y l = sDemand → s.dev.linesClosed y l = false) → s.Does .btStart fun u => u.cpl = some (.ok, 0) ∧
          u.f F.SAFETY_BT_STAT_PHASE = 1 ∧ u.f F.SAFETY_BT_STAT_RESULT = 0 ∧ u.safe.btLock = decide (s.dev.instState i = sLockout) ∧
          (∀ y, u.stOf y i = s.dev.stOf y i) ∧ s.dev.Keeps [.safety] [] u) ∧
      (phase = 0 → s.Runs .btAbort (d.complete .ok)) ∧
      (phase ≠ 0 → s.Runs .btAbort ((Dev.safeRefresh d ((d.put F.SAFETY_BT_STAT_PHASE 0).put F.SAFETY_BT_STAT_RESULT 3)).complete .ok))) ∧
    (phase = 1 → let g := d.lasted 36 (s.dev.f F.SAFETY_BT_TMO_TMO)
      s.Runs .btTorqueTimeout (Dev.safeRefresh g ((g.put F.SAFETY_BT_STAT_PHASE 0).put F.SAFETY_BT_STAT_RESULT 3))) ∧
    (phase ≠ 1 → s.Runs .btTorqueTimeout d) ∧
    (phase = 2 → let m := (sgn 32 (wrap 32 ((s.dev.angleNow 0 : Int) - (s.dev.safe.btTheta : Int)))).natAbs
      let u := d.put F.SAFETY_BT_STAT_BT_MOVE (max (s.dev.f F.SAFETY_BT_STAT_BT_MOVE) m)
      (m ≤ s.dev.f F.SAFETY_BT_ANG_ANG → s.Runs .btSample (Dev.safeRefresh d u)) ∧
      (s.dev.f F.SAFETY_BT_ANG_ANG < m → s.Does .btSample fun u => u.f F.SAFETY_BT_STAT_PHASE = 0 ∧ u.f F.SAFETY_BT_STAT_RESULT = 2 ∧
        (∀ y, s.dev.stOf y i ≠ sInactive → u.stOf y i = sLockout ∧ bitOf (u.causeOf y i) cBtFail = true) ∧ s.dev.Keeps [.safety] [] u)) ∧
    (phase ≠ 2 → s.Runs .btSample d ∧ s.Runs .btHoldEnd d) ∧
    (phase = 2 → s.Does .btHoldEnd fun u => u.f F.SAFETY_BT_STAT_PHASE = 0 ∧ u.f F.SAFETY_BT_STAT_RESULT = 1 ∧ u.f F.SAFETY_BT_STAT_BT_DUE = 0 ∧
      u.safe.btPassAt = u.time.frc ∧ (s.dev.safe.btLock = true → bitOf (u.instCause i) cBtFail = false) ∧ s.dev.Keeps [.time, .safety] [] u) ∧
    (s.dev.role = .manager → s.dev.gate.dormant = false → s.dev.f F.SAFETY_BT_TMO_BT_INT ≠ 0 → s.Runs .btDue
      ((d.frcTo (s.dev.safe.btPassAt + s.dev.f F.SAFETY_BT_TMO_BT_INT * (720 * 10 ^ 9))).raise F.SAFETY_BT_STAT_BT_DUE)) ∧
    (s.dev.f F.SAFETY_BT_TMO_BT_INT = 0 → s.Runs .btDue d)

/-- A frame of a Reel instance is written in its ring place, and a trigger that is due makes it the trigger frame. It rests on R369, R374,
R375, R378. -/
def Obligations.ReelFrameIsWritten : Prop :=
  ∀ (s : State) (i t : Nat), let d := s.dev.begin
    let a := s.dev.actSet
    let x := s.dev.reelInst i
    let writes := s.dev.reelState i = rPre ∨ (s.dev.reelState i = rPost ∧ x.post < s.dev.fs a F.REEL_INST_LEN_POST i)
    (s.dev.f F.REEL_CTL_EN = 0 ∨ s.dev.fs a F.REEL_INST_CFG_EN i = 0 ∨ s.dev.ringLen a i = 0 ∨ s.dev.nextFrame a i = none ∨ ¬ writes → s.Runs (.reelFrame i) d) ∧
    (s.dev.f F.REEL_CTL_EN ≠ 0 → s.dev.fs a F.REEL_INST_CFG_EN i ≠ 0 → s.dev.ringLen a i ≠ 0 → s.dev.nextFrame a i = some t → writes →
    let per := s.dev.framePeriod a i
    let due := x.fired.filter fun p => trgBy p.2 t
    -- a trigger makes the trigger frame of the interval that it lies in, of those that the slot holds
    let mine := due.filter fun p => decide (framesBack t per p.2 ≤ x.count)
    let back := framesBack t per (firedFirst mine).2
    let base := s.dev.slotBase a i (s.dev.f F.REEL_INST_STAT_SLOT i) + 64 + s.dev.frameLen a i * (x.count % s.dev.ringLen a i)
    let bytes := (d.advanceTo (t + frameLag)).frameBytes a i t
    s.Does (.reelFrame i) fun u =>
      -- the frame stands in its ring place and nothing else of the RAM has changed
      Mem.readList u.reel.ram base bytes.length = bytes ∧
      (∀ p, p < base ∨ base + bytes.length ≤ p → Mem.read u.reel.ram p = Mem.read s.dev.reel.ram p) ∧
      (u.reelInst i).count = x.count + 1 ∧ (u.reelInst i).lastT = t ∧
      (u.reelInst i).fired = x.fired.filter (fun p => !trgBy p.2 t) ∧
      (s.dev.reelState i = rPre → mine = [] → u.reelState i = rPre) ∧
      (s.dev.reelState i = rPre → mine ≠ [] → let own := mine.filter fun p => trgBy p.2 (t - back * per)
        u.reelState i = rPost ∧ (u.reelInst i).t0 = t - back * per ∧ (u.reelInst i).src = firedBits own ∧
        (u.reelInst i).first = (firedFirst mine).1 ∧ (u.reelInst i).trgT = (firedFirst mine).2 ∧ (u.reelInst i).post = 1 + back ∧
        (u.reelInst i).pre = min (min (x.count - back) (s.dev.fs a F.REEL_INST_LEN_PRE i)) (s.dev.ringLen a i - 1 - back) ∧
        (u.reelInst i).postTrg = min 255 (mine.length - own.length)) ∧
      (s.dev.reelState i = rPost → u.reelState i = rPost ∧ (u.reelInst i).post = x.post + 1 ∧ (u.reelInst i).t0 = x.t0 ∧
        (u.reelInst i).src = Nat.lor x.src (firedBits (due.filter fun p => trgBy p.2 x.t0 && !trgBy p.2 (x.t0 - per))) ∧
        (u.reelInst i).postTrg = min 255 (x.postTrg + (due.filter fun p => !trgBy p.2 x.t0).length)) ∧
      s.dev.Keeps [.reel, .time] [] u)

/-- The end of a record, the choice of the next slot, and ARM, STOP, FORCE and RELEASE. It rests on R375 to R377, R379. -/
def Obligations.ReelRecordsAndSlots : Prop :=
  ∀ (s : State) (i : Nat), i < 4 → let d := s.dev.begin
    let a := s.dev.actSet
    let x := s.dev.reelInst i
    let cur := s.dev.f F.REEL_INST_STAT_SLOT i
    -- POST frames written: the record closes
    (s.dev.reelState i = rPost → cur < 256 → s.dev.fs a F.REEL_INST_LEN_POST i ≤ x.post → s.Does (.reelRecordClose i) fun u =>
      u.reelState i = rRearm ∧ u.slotUsed i cur = true ∧ (u.reelInst i).seq = (x.seq + 1) % 2 ^ 32 ∧ (u.reelInst i).from_ = x.lastT ∧
      (x.fired = [] → (u.reelInst i).fired = []) ∧
      Mem.readList u.reel.ram (s.dev.slotBase a i cur) 64 = s.dev.reelHeader a i (s.dev.recordFlags i false) ∧
      (∀ p, p < s.dev.slotBase a i cur ∨ s.dev.slotBase a i cur + 64 ≤ p → Mem.read u.reel.ram p = Mem.read s.dev.reel.ram p) ∧
      s.dev.Keeps [.reel, .hostq] u.out u) ∧
    (s.dev.reelState i ≠ rPost ∨ x.post < s.dev.fs a F.REEL_INST_LEN_POST i → s.Runs (.reelRecordClose i) d) ∧
    -- the dead time ends: the lowest free slot, or the oldest where records may be overwritten, or FULL
    (s.dev.reelState i = rRearm → s.dev.rearmDue a i = true →
      (∀ k, s.dev.freeSlot a i = some k → s.Does (.rearmEnd i) fun u => u.reelState i = rPre ∧ u.f F.REEL_INST_STAT_SLOT i = k % 256 ∧
        (u.reelInst i).count = 0 ∧ (u.reelInst i).ovwr = false ∧ (u.reelInst i).seq = x.seq ∧
        (u.reelInst i).lastT = s.dev.rearmT a i ∧ u.reel.ram = s.dev.reel.ram ∧ s.dev.Keeps [.reel, .time] [] u) ∧
      (s.dev.freeSlot a i = none → s.dev.fs a F.REEL_INST_CFG_OVWR i = 0 →
        s.Does (.rearmEnd i) fun u => u.reelState i = rFull ∧ u.reel.ram = s.dev.reel.ram ∧ u.reel.seqs = s.dev.reel.seqs) ∧
      (∀ k, s.dev.freeSlot a i = none → s.dev.fs a F.REEL_INST_CFG_OVWR i = 1 → s.dev.oldestSlot a i = some k → s.Does (.rearmEnd i) fun u =>
        u.reelState i = rPre ∧ u.f F.REEL_INST_STAT_SLOT i = k % 256 ∧ (u.reelInst i).ovwr = true ∧ u.slotUsed i k = false)) ∧
    (s.dev.reelState i ≠ rRearm ∨ s.dev.rearmDue a i = false → s.Runs (.rearmEnd i) d) ∧
    -- ARM and STOP
    (s.dev.blockStatus .reel (0x110 + 64 * i) = .ok →
      (s.dev.fs a F.REEL_INST_CFG_EN i = 0 → s.Runs (.reelArm i) (d.complete .invalid)) ∧
      (s.dev.fs a F.REEL_INST_CFG_EN i ≠ 0 → s.dev.reelState i ≠ rIdle → s.Runs (.reelArm i) (d.complete .ok)) ∧
      (∀ k, s.dev.fs a F.REEL_INST_CFG_EN i ≠ 0 → s.dev.reelState i = rIdle → s.dev.freeSlot a i = some k → s.Does (.reelArm i) fun u =>
        u.cpl = some (.ok, 0) ∧ u.reelState i = rPre ∧ u.f F.REEL_INST_STAT_SLOT i = k % 256 ∧ (u.reelInst i).count = 0 ∧
        (u.reelInst i).lastT = s.dev.now ∧ (u.reelInst i).fired = [] ∧ s.dev.Keeps [.reel] [] u) ∧
      (s.dev.fs a F.REEL_INST_CFG_EN i ≠ 0 → s.dev.reelState i = rIdle → s.dev.freeSlot a i = none → s.Does (.reelArm i) fun u =>
        u.cpl = some (.ok, 0) ∧ u.reelState i = rFull ∧ s.dev.Keeps [.reel] [] u) ∧
      (s.dev.reelState i ≠ rPre → s.dev.reelState i ≠ rPost → s.dev.reelState i ≠ rFull → s.Runs (.reelStop i) (d.complete .ok)) ∧
      (s.dev.reelState i = rPre ∨ s.dev.reelState i = rFull → s.Does (.reelStop i) fun u => u.cpl = some (.ok, 0) ∧ u.reelState i = rIdle ∧
        u.reel.ram = s.dev.reel.ram ∧ (∀ k, u.slotUsed i k = s.dev.slotUsed i k) ∧ s.dev.Keeps [.reel] [] u) ∧
      (s.dev.reelState i = rPost → cur < 256 → s.Does (.reelStop i) fun u => u.cpl = some (.ok, 0) ∧ u.reelState i = rIdle ∧ u.slotUsed i cur = true ∧
        Mem.readList u.reel.ram (s.dev.slotBase a i cur) 64 = s.dev.reelHeader a i (s.dev.recordFlags i true))) ∧
    -- FORCE and RELEASE
    (∀ mask, s.dev.blockStatus .reel 0x20 = .ok →
      (s.dev.f F.REEL_CTL_EN = 0 → s.Runs (.reelForce mask) (d.complete .ok)) ∧
      (s.dev.f F.REEL_CTL_EN ≠ 0 → bitOf mask i = true → (s.dev.reelState i = rPre ∨ s.dev.reelState i = rPost) →
        trgBy (s.dev.now * 64 / 5) x.from_ = false → ∀ n, n < 8 → s.dev.trgIs a i n 6 = true → s.Does (.reelForce mask) fun u =>
          u.cpl = some (.ok, 0) ∧ (n, s.dev.now * 64 / 5) ∈ (u.reelInst i).fired ∧ u.reel.ram = s.dev.reel.ram ∧ s.dev.Keeps [.reel] [] u)) ∧
    (∀ k, s.dev.blockStatus .reel 0x24 = .ok → k < 256 →
      (s.dev.slotUsed i k = false → s.Runs (.reelRelease i k) (d.complete .invalid)) ∧
      (s.dev.slotUsed i k = true → s.dev.reelState i ≠ rFull ∨ s.dev.fs a F.REEL_INST_AREA_SLOTS i ≤ k → s.Does (.reelRelease i k) fun u => u.cpl = some (.ok, 0) ∧ u.slotUsed i k = false ∧
        u.reelState i = s.dev.reelState i ∧ u.reel.ram = s.dev.reel.ram ∧ s.dev.Keeps [.reel] [] u) ∧
      (s.dev.slotUsed i k = true → s.dev.reelState i = rFull → k < s.dev.fs a F.REEL_INST_AREA_SLOTS i → s.Does (.reelRelease i k) fun u =>
        u.cpl = some (.ok, 0) ∧ u.slotUsed i k = false ∧ u.reelState i = rPre ∧ u.f F.REEL_INST_STAT_SLOT i = k))

/-- A frame received at an Ethernet port: its checks, pause frames, subscriptions, the host, and PRP duplicates. It rests on R351, R352, R354,
R358. -/
def Obligations.EthFrameReceived : Prop :=
  ∀ (s : State) (p : Nat) (l : List Byte) (ok : Bool), let d := s.dev.begin
    let up := s.dev.ethUp p = true
    let fits := ok = true ∧ l.length + 4 ≤ s.dev.f F.ETH_PORT_CFG_MAXLEN p
    let good := d.inc F.ETH_PORT_CNT_RX_OK 1 p
    let at_ := s.dev.rxTime p l
    let used := fun (u : Dev) (b : List Byte) => if s.dev.ethForHost b then u.ethToHost p b at_ else u
    (¬ up → s.Runs (.frameReceive p l ok) d) ∧
    (up → ok = false → s.Runs (.frameReceive p l ok) (d.inc F.ETH_PORT_CNT_RX_ERR 1 p)) ∧
    (up → ok = true → s.dev.f F.ETH_PORT_CFG_MAXLEN p < l.length + 4 → s.Runs (.frameReceive p l ok) (d.inc F.ETH_PORT_CNT2_LONG_CNT 1 p)) ∧
    (up → fits → be l 12 2 = 0x8808 → s.Runs (.frameReceive p l ok) (d.inc F.ETH_PORT_CNT2_PAUSE_CNT 1 p)) ∧
    -- an ordinary port: subscription first, then the host
    (up → fits → be l 12 2 ≠ 0x8808 → s.dev.redMode ≠ 0 → 2 ≤ p →
      (s.dev.svStream l = none → s.Runs (.frameReceive p l ok) (used good l)) ∧
      (∀ k, s.dev.svStream l = some k → svParse l (frTypeAt l + 2) = none → s.Runs (.frameReceive p l ok) (good.inc F.ETH_SV_CNT_FMT_ERR 1 k))) ∧
    -- a port of a PRP pair: the later copy of a duplicate is discarded
    (up → fits → be l 12 2 ≠ 0x8808 → s.dev.redMode = 1 → p < 2 → frType l ≠ 0x88F7 → frPrp l = true → frLan l = 0xA + p →
      -- what is older than DD_AGE is forgotten first
      let held := Dev.dupOld good.eth.dup.length good
      let copy := held.eth.dup.any fun x => decide (x.src = frSrc l) && decide (x.seq = frSeq false l)
      let mark : DupEntry → DupEntry := fun x => if x.src = frSrc l ∧ x.seq = frSeq false l then { x with ports := Nat.lor x.ports (2 ^ p) } else x
      (copy = true → s.Runs (.frameReceive p l ok) (({ held with eth := { held.eth with dup := held.eth.dup.map mark } }).inc F.ETH_RED_STAT_DUP_CNT 1)) ∧
      -- the first copy is entered, and goes on without its trailer
      (copy = false → s.dev.svStream (frBare false l) = none → let room := if held.eth.dup.length < 1024 then held else held.dupForget
        s.Runs (.frameReceive p l ok) (used { room with eth := { room.eth with
          dup := room.eth.dup ++ [{ src := frSrc l, seq := frSeq false l, ports := 2 ^ p, made := room.time.frc }] } } (frBare false l)))) ∧
    -- elements of a sampled-value stream
    (∀ k cnt synch at8 n, up → fits → be l 12 2 ≠ 0x8808 → s.dev.redMode ≠ 0 → 2 ≤ p → s.dev.svStream l = some k →
      svParse l (frTypeAt l + 2) = some (cnt, synch, at8, n) → s.dev.f F.ETH_SV_CFG_COPY k = 0 →
      (n < 8 * s.dev.f F.ETH_SV_CFG_NELEM k → s.Runs (.frameReceive p l ok) (good.inc F.ETH_SV_CNT_FMT_ERR 1 k)) ∧
      (8 * s.dev.f F.ETH_SV_CFG_NELEM k ≤ n → s.Does (.frameReceive p l ok) fun u =>
        u.svOf k = { elems := s.dev.svElems k l at8 synch, arr := some s.dev.now } ∧ u.f F.ETH_SV_STAT_SMPCNT k = cnt % 2 ^ 16 ∧
        u.f F.ETH_SV_STAT_LOST k = 0 ∧ u.f F.ETH_SV_STAT_T_ARR k = (at_ / nsFix).toNat % 2 ^ 32 ∧ s.dev.Keeps [.eth, .reel] [] u))

/-- A frame leaves an Ethernet port, a link goes down and up, a stream is lost, duplicates age and supervision frames go out. It rests on
R352, R355, R359 to R361. -/
def Obligations.EthPortsAndQueues : Prop :=
  ∀ (s : State) (p : Nat), let d := s.dev.begin
    -- a frame leaves: alone in its port's queues, without a launch time and without a descriptor
    (∀ q fr, p < 4 → q < 4 → s.dev.ethUp p = true → s.dev.ethQ p q = [fr] → (∀ r, r < 4 → r ≠ q → s.dev.ethQ p r = []) →
      fr.launch = none → fr.held = false → fr.stamp = none → fr.desc = none → fr.ingress = none →
      s.Runs (.frameSent p) (((d.emit (.ethTx p fr.bytes)).inc F.ETH_PORT_CNT_TX_OK 1 p).setEthQ p q [])) ∧
    (∀ q fr t, s.dev.ethUp p = true → s.dev.ethQ p q = [fr] → fr.launch = some t → fr.held = true → fr.stamp = none → fr.desc = none → fr.ingress = none →
      let d := d.advanceTo (s.dev.now + (s.dev.untilL p t + clampI (-8) 8 (Config.launchErr p t)).toNat)
      s.Runs (.frameLaunch p q) (((d.emit (.ethTx p fr.bytes)).inc F.ETH_PORT_CNT_TX_OK 1 p).setEthQ p q [])) ∧
    (s.dev.f F.ETH_PORT_STAT_LINK p ≠ 0 →
      let u := ((d.put F.ETH_PORT_STAT_LINK 0 p).raise F.ETH_PORT_STAT_LINK_LOST p).ethRetire p
      s.Runs (.linkDown p) (u.incW F.ETH_PORT_STAT_EPOCH 1 p)) ∧
    (s.dev.f F.ETH_PORT_STAT_LINK p = 0 → s.Runs (.linkDown p) d) ∧
    (s.dev.f F.ETH_PORT_CFG_EN p ≠ 0 → s.dev.glob.ramp.contains (1 + p) = false → bitOf (s.dev.f F.GLOBAL_PWR_CTL_ETH_ON) p = true →
      s.Runs (.linkUp p) ((d.put F.ETH_PORT_STAT_LINK 1 p).put F.ETH_PORT_STAT_MEDIUM (b2n (s.dev.ethMedium p)) p)) ∧
    (s.dev.f F.ETH_PORT_CFG_EN p = 0 ∨ s.dev.glob.ramp.contains (1 + p) = true ∨ bitOf (s.dev.f F.GLOBAL_PWR_CTL_ETH_ON) p = false → s.Runs (.linkUp p) d) ∧
    -- a stream without a frame for LOSS_TMO
    (∀ k t, s.dev.f F.ETH_SV_CFG_EN k ≠ 0 → (s.dev.svOf k).arr = some t →
      s.Runs (.svLost k) ((d.advanceTo (t + s.dev.f F.ETH_SV_CFG2_LOSS_TMO k * 1000)).raise F.ETH_SV_STAT_LOST k)) ∧
    (∀ k, s.dev.f F.ETH_SV_CFG_EN k ≠ 0 → (s.dev.svOf k).arr = none → s.Runs (.svLost k) (d.raise F.ETH_SV_STAT_LOST k)) ∧
    (∀ k, s.dev.f F.ETH_SV_CFG_EN k = 0 → s.Runs (.svLost k) d) ∧
    (∀ x l, s.dev.eth.dup = x :: l → let g := d.frcTo (s.dev.dupTill x + 1)
      let u : Dev := { g with eth := { g.eth with dup := l } }
      s.Runs .ddEntryAge (if x.ports = 1 then u.inc F.ETH_RED_STAT_ONLY0 1 else if x.ports = 2 then u.inc F.ETH_RED_STAT_ONLY1 1 else u)) ∧
    (s.dev.eth.dup = [] → s.Runs .ddEntryAge d) ∧
    (s.dev.redMode = 0 → s.Runs .supervisionFrame d) ∧
    (s.dev.redMode ≠ 0 → s.dev.ethQ 0 0 = [] → s.dev.ethQ 1 0 = [] → s.Does .supervisionFrame fun u =>
      u.eth.supSeq = (s.dev.eth.supSeq + 1) % 2 ^ 16 ∧ u.eth.seq = (s.dev.eth.seq + 1) % 2 ^ 16 ∧
      (∀ o, o < 2 → ∃ fr, u.ethQ o 0 = [fr] ∧ slice fr.bytes 0 6 = beBytes 6 0x01154E000100 ∧
        slice fr.bytes 6 6 = beBytes 6 (s.dev.f F.ETH_MAC_ADDR_MAC) ∧
        (if s.dev.redMode = 1 then frLan fr.bytes = 0xA + o else be fr.bytes 12 2 = 0x892F)) ∧ u.eth.supAt = u.time.frc ∧ s.dev.Keeps [.eth, .time] [] u)

/-- Doorbells, descriptor fetches, ring errors, completion entries, interrupt coalescing and function-level reset. It rests on R387, R388,
R393 to R397, R399. -/
def Obligations.HostRings : Prop :=
  ∀ (s : State) (r : Nat), let d := s.dev.begin
    let on := s.dev.f F.HOSTQ_CTL_EN ≠ 0 ∧ s.dev.f F.HOSTQ_SQ_CFG_EN r ≠ 0 ∧ s.dev.f F.HOSTQ_SQ_STAT_STATE r = 1
    let q := s.dev.sqOf r
    let c := s.dev.cqOf r
    let head := s.dev.f F.HOSTQ_SQ_STAT_HEAD r
    -- a doorbell that its function may write: a value that the ring can hold is taken
    (∀ fn v, r < 64 → s.dev.role = .manager → let o := 0x8000 + 8 * r
      let n := s.dev.sqSize r
      let check := d.accessCheck fn .hostq Blk.hostq.num o 4 (accOf (placeOf .hostq o) true) false
      let held := (q.tail + n - q.cons % n) % n + (v + n - q.tail % n) % n
      (check = none → v < n → held ≤ n - 1 → s.Runs (.sqDoorbell fn r v) ((d.setSq r { q with tail := v }).complete .ok)) ∧
      (check = none → fn ≤ 4 → n ≤ v ∨ n - 1 < held →
        s.Runs (.sqDoorbell fn r v) ((d.mmioError .invalid fn 0 (0x20000 + o) true).complete .invalid)) ∧
      (∀ a, check = some a → fn ≤ 4 → s.Runs (.sqDoorbell fn r v) ((a.2.mmioError a.1 fn 0 (0x20000 + o) true).complete a.1))) ∧
    (∀ fn v, r < 64 → s.dev.role = .manager → let o := 0x8004 + 8 * r
      let n := s.dev.cqSize r
      let check := d.accessCheck fn .hostq Blk.hostq.num o 4 (accOf (placeOf .hostq o) true) false
      let freed := (v + n - (s.dev.f F.HOSTQ_CQ_STAT_TAIL r + n - c.used % n) % n) % n
      (check = none → v < n → freed ≤ c.used → s.Runs (.cqDoorbell fn r v) ((d.setCq r { c with used := c.used - freed }).complete .ok)) ∧
      (check = none → fn ≤ 4 → n ≤ v ∨ c.used < freed →
        s.Runs (.cqDoorbell fn r v) ((d.mmioError .invalid fn 0 (0x20000 + o) true).complete .invalid)) ∧
      (∀ a, check = some a → fn ≤ 4 → s.Runs (.cqDoorbell fn r v) ((a.2.mmioError a.1 fn 0 (0x20000 + o) true).complete a.1))) ∧
    (∀ fn v, s.dev.role ≠ .manager → s.Runs (.sqDoorbell fn r v) (d.complete .invalid) ∧ s.Runs (.cqDoorbell fn r v) (d.complete .invalid)) ∧
    -- a fetch moves the head; an undefined operation, or one that the ring's kind does not accept, completes with INVALID
    (∀ bytes, on → head ≠ q.tail → s.dev.cqFull (s.dev.cqFor r) = false →
      let x : Desc := { idx := head, bytes := slice bytes 0 64, started := false, fin := none }
      let u := (d.setSq r { q with act := q.act ++ [x] }).put F.HOSTQ_SQ_STAT_HEAD ((head + 1) % s.dev.sqSize r) r
      (x.op ≤ 0x0B → kindAccepts (s.dev.f F.HOSTQ_SQ_CFG_KIND r) x.op = true → x.headerOk = true → s.Runs (.descriptorFetch r bytes none) u) ∧
      (0x0B < x.op ∨ kindAccepts (s.dev.f F.HOSTQ_SQ_CFG_KIND r) x.op = false ∨ x.headerOk = false → s.Runs (.descriptorFetch r bytes none) (u.finish r x .invalid (u.descEpoch r x) []))) ∧
    (∀ bytes, ¬ on ∨ head = q.tail ∨ s.dev.cqFull (s.dev.cqFor r) = true → s.Runs (.descriptorFetch r bytes none) d) ∧
    -- a fetch without data takes the ring to ERROR
    (∀ bytes st, on → head ≠ q.tail → s.Runs (.descriptorFetch r bytes (some st))
      (((d.put F.HOSTQ_SQ_STAT_STATE 2 r).put F.HOSTQ_SQ_STAT_ERR st.code r).hostEvt F.HOSTQ_EVT_RING_ERR)) ∧
    (∀ timeout data, on → head ≠ q.tail → let st : Status := if timeout then .timeout else .invalid
      s.Runs (.hostReadTimeout r true timeout data)
      (((d.put F.HOSTQ_SQ_STAT_STATE 2 r).put F.HOSTQ_SQ_STAT_ERR st.code r).hostEvt F.HOSTQ_EVT_RING_ERR)) ∧
    -- one entry is written to the completion ring
    (∀ e es, s.dev.f F.HOSTQ_CQ_CFG_EN r ≠ 0 → s.dev.cqFull r = false → c.held = [] → c.wait = e :: es → e.irq = false → e.notice = false →
      s.dev.f F.HOSTQ_CQ_COAL_COUNT r = 0 → let t := s.dev.f F.HOSTQ_CQ_STAT_TAIL r
      let last := decide (t + 1 = s.dev.cqSize r)
      let u := d.setCq r { c with held := [], wait := es, used := c.used + 1, phase := c.phase != last, ovf := false, since := c.since + 1,
                                  sinceAt := if c.since = 0 then s.dev.now else c.sinceAt }
      let u := (u.put F.HOSTQ_CQ_STAT_TAIL (if last then 0 else t + 1) r).put F.HOSTQ_CQ_STAT_HELD 0 r
      s.Runs (.cqEntryWrite r) (u.emit (.hostWrite (s.dev.f F.HOSTQ_CQ_CFG_FUNC r) (s.dev.f F.HOSTQ_CQ_BASE_ADDR r * 32 + t * 32) (e.bytes c.phase c.ovf)))) ∧
    (s.dev.f F.HOSTQ_CQ_CFG_EN r = 0 ∨ s.dev.cqFull r = true ∨ (c.held = [] ∧ c.wait = []) → s.Runs (.cqEntryWrite r) d) ∧
    -- TIME after the first entry that the ring has not signalled
    (let due := s.dev.f F.HOSTQ_CQ_CFG_IRQ_EN r ≠ 0 ∧ s.dev.f F.HOSTQ_CQ_COAL_TIME r ≠ 0 ∧ c.since ≠ 0;
      (due → s.Runs (.irqCoalesceTimeout r) (((d.advanceTo (c.sinceAt + s.dev.f F.HOSTQ_CQ_COAL_TIME r * 1000)).setCq r { c with since := 0 }).msix
        (s.dev.f F.HOSTQ_CQ_CFG_FUNC r) (s.dev.f F.HOSTQ_CQ_CFG_VEC r))) ∧
      (¬ due → s.Runs (.irqCoalesceTimeout r) d)) ∧
    -- a function-level reset disables the function's rings, and their descriptors are gone; of a function without rings
    (∀ fn, 1 ≤ fn → fn ≤ 4 → s.dev.role = .manager → s.dev.gate.dormant = false → s.Does (.flr fn) fun u =>
      (∀ k, k < 64 → s.dev.f F.HOSTQ_SQ_CFG_FUNC k = fn → u.f F.HOSTQ_SQ_CFG_EN k = 0 ∧ u.f F.HOSTQ_SQ_STAT_STATE k = 0 ∧ (u.sqOf k).act = []) ∧
      (∀ k, k < 64 → s.dev.f F.HOSTQ_CQ_CFG_FUNC k = fn → u.f F.HOSTQ_CQ_CFG_EN k = 0) ∧ u.f F.HOSTQ_FLR_RET_FUNC = fn) ∧
    (∀ fn, 1 ≤ fn → fn ≤ 4 → s.dev.role = .manager → s.dev.gate.dormant = false →
      (∀ k, k < 64 → s.dev.f F.HOSTQ_SQ_CFG_FUNC k ≠ fn ∧ s.dev.f F.HOSTQ_CQ_CFG_FUNC k ≠ fn) →
      s.Runs (.flr fn) ((((d.retired .hostq 0).inc F.HOSTQ_FLR_RET_COUNT 0).put F.HOSTQ_FLR_RET_FUNC fn).hostEvt F.HOSTQ_EVT_FLR_RET))

/-- What each descriptor does at its turn: NOP, register accesses, copies, swap, remote, Ethernet, CAN and SECURE. It rests on R387, R389,
R390, R392, R396, R402, R416, R424, R425. -/
def Obligations.HostDescriptors : Prop :=
  ∀ (s : State) (r : Nat) (x : Desc), let d := s.dev.begin
    let fn := s.dev.sqMaster r
    let grants := fun b t o n acc stale => s.dev.accessCheck fn b t o n acc stale = none
    let go := (d.startDesc r x)
    -- a ring that is off, or whose next descriptor is another one
    (∀ op row, (op, row) ∈ [(0, Instr.hostqNop r), (1, .regRd r), (2, .regWr r), (4, .copyOut r), (5, .remote r), (6, .cfgSwap r), (8, .rxBuf r),
      (11, .quoteDesc r), (11, .cert r)] → s.dev.turn r op = none → s.Runs row d) ∧
    -- NOP
    (s.dev.turn r 0 = some x → s.Runs (.hostqNop r) (d.endDesc r x (if x.zeroBut [] then .ok else .invalid) [])) ∧
    -- register accesses name an epoch and answer the block's
    (s.dev.turn r 1 = some x → let off := field x.bytes 8 4
      (x.zeroBut [(8, 4), (12, 1)] = false → s.Runs (.regRd r) (d.endDesc r x .invalid [])) ∧
      (x.zeroBut [(8, 4), (12, 1)] = true →
        let a := go.access { m := fn, off := off, n := field x.bytes 12 1, wr := none, ep := some x.epoch, desc := some (r, x.idx) }
        a.1 ≠ .ok ∨ a.2.2.spin.reqs = [] →
        s.Runs (.regRd r) (a.2.2.finish r x a.1 (a.2.2.answerEpoch off x.epoch) (bytesOf 8 a.2.1)))) ∧
    (s.dev.turn r 2 = some x → let off := field x.bytes 8 4
      (x.zeroBut [(8, 4), (12, 1), (16, 8)] = false → s.Runs (.regWr r) (d.endDesc r x .invalid [])) ∧
      (x.zeroBut [(8, 4), (12, 1), (16, 8)] = true →
        let a := go.access { m := fn, off := off, n := field x.bytes 12 1, wr := some (field x.bytes 16 8), ep := some x.epoch, desc := some (r, x.idx) }
        -- a direct write of the same CORE cycle stands
        let t := if a.1 = .ok then a.2.2.directLast off (field x.bytes 12 1) else a.2.2
        a.1 ≠ .ok ∨ t.spin.reqs = [] → s.Runs (.regWr r) (t.finish r x a.1 (t.answerEpoch off x.epoch) []))) ∧
    -- copies are judged once, over their whole extent
    (s.dev.turn r 3 = some x → let p := x.copyAt
      let bar := field x.bytes 20 1
      let off := field x.bytes 16 4
      let len := field x.bytes 24 4
      (∀ data, x.copyOk false = false ∨ s.dev.copyShown x = false → s.Runs (.copyIn r data) (d.endDesc r x .invalid [])) ∧
      (∀ data, x.copyOk false = true → s.dev.copyShown x = true → (∀ acc ∈ extentAcc bar off len, grants p.1 p.2.1 p.2.2 len acc (x.stale s.dev p.1)) →
        let a := d.copyInto fn bar off (slice data 0 len)
        s.Runs (.copyIn r data) (a.2.endDesc r x a.1 []))) ∧
    (s.dev.turn r 4 = some x → let p := x.copyAt
      let len := field x.bytes 24 4
      (x.copyOk true = false → s.Runs (.copyOut r) (d.endDesc r x .invalid [])) ∧
      (x.copyOk true = true → grants p.1 p.2.1 p.2.2 len 1 (x.stale s.dev p.1) →
        let a := d.copyFrom fn (field x.bytes 20 1) (field x.bytes 16 4) len
        s.Runs (.copyOut r) ((a.2.2.emit (.hostWrite fn (field x.bytes 8 8) a.2.1)).endDesc r x a.1 []))) ∧
    -- a configuration swap: the descriptor completes when the swap does
    (s.dev.turn r 6 = some x →
      (x.zeroBut [(8, 8)] = false → s.Runs (.cfgSwap r) (d.endDesc r x .invalid [])) ∧
      (x.zeroBut [(8, 8)] = true → grants .global 0 0x120 8 3 (x.stale s.dev .global) →
        let a := go.swapRequest (field x.bytes 8 8) (some (r, x.idx))
        s.Runs (.cfgSwap r) (if a.1 = .ok then a.2 else a.2.endDesc r x a.1 []))) ∧
    -- a remote request goes out, and the descriptor waits for its reply
    (s.dev.turn r 5 = some x → let op := field x.bytes 8 1
      let lane := field x.bytes 11 1
      (op = 0 ∨ 4 < op → s.Runs (.remote r) (d.endDesc r x .invalid [])) ∧
      let b := if lane = 63 then Blk.leaf else .trunk
      (x.zeroBut [(8, 16)] = true → 1 ≤ op → op ≤ 4 → field x.bytes 9 1 ≤ 1 → field x.bytes 10 1 ≤ 127 → lane = 63 ∨ (lane < 48 ∧ s.dev.laneMode lane = mPrimary) →
        grants b b.num (0x40 * (if lane = 63 then field x.bytes 10 1 else lane)) 0x40 3 false →
        s.Runs (.remote r) (go.rrSubmit
          { lane := lane, dest := field x.bytes 9 1, port := field x.bytes 10 1, op := op, epoch := x.epoch,
            addr := field x.bytes 12 4, data := field x.bytes 16 8, desc := some (r, x.idx), cell := 0, sent := none }))) ∧
    -- a frame for Ethernet, a receive buffer
    (s.dev.turn r 7 = some x → let pq := field x.bytes 18 1
      let fl := field x.bytes 19 1
      (∀ data, 4 ≤ fl → s.Runs (.ethTx r data) (d.endDesc r x .invalid [])) ∧
      (∀ data, x.zeroBut [(8, 16)] = true → bits pq 2 2 = 0 → bits pq 6 2 = 0 → fl < 4 →
        grants .eth 5 (0x40 * (pq % 4)) 0x40 3 (decide (x.epoch ≠ s.dev.f F.ETH_PORT_STAT_EPOCH (pq % 4))) →
        s.Runs (.ethTx r data) (go.ethSend (pq % 4) (bits pq 4 2)
          { bytes := slice data 0 (field x.bytes 16 2), launch := if bitOf fl 1 then some (field x.bytes 20 4) else none, held := false,
            stamp := if bitOf fl 0 then some x.tag else none, desc := some (r, x.idx), ingress := none }))) ∧
    (s.dev.turn r 8 = some x → let k := s.dev.f F.HOSTQ_SQ_CFG_KIND r
      let len := field x.bytes 16 2
      (len < 64 ∨ 16384 < len → s.Runs (.rxBuf r) (d.endDesc r x .invalid [])) ∧
      (x.zeroBut [(8, 10)] = true → 64 ≤ len → len ≤ 16384 → k < 5 →
        grants .eth Blk.eth.num (0x40 * (k - 1)) 0x40 1 (decide (x.epoch ≠ s.dev.f F.ETH_PORT_STAT_EPOCH (k - 1))) → s.Runs (.rxBuf r) go)) ∧
    -- a CAN frame becomes pending, or is cancelled
    (s.dev.turn r 9 = some x → let id := field x.bytes 8 4
      let ctl := field x.bytes 12 1
      let c := field x.bytes 13 1
      (∀ data, idRtr id = true → idFdf id = true → s.Runs (.canTx r data) (d.endDesc r x .invalid [])) ∧
      (∀ data, x.zeroBut [(8, 6), (16, 8)] = true → ctl < 32 → c < 2 → ¬ (idRtr id = true ∧ idFdf id = true) → grants .can 14 (0x40 * c) 0x40 3 (x.stale s.dev .can) →
        let a := go.canQueue c { frame := { id := id, dlc := ctl % 16, brs := bitOf ctl 4, data := slice data 0 (canLen id (ctl % 16)) }, desc := some (r, x.idx, x.tag), last := false }
        s.Runs (.canTx r data) (if a.1 = .ok then a.2 else a.2.endDesc r x a.1 []))) ∧
    (s.dev.turn r 10 = some x → let c := field x.bytes 13 1
      let q := field x.bytes 10 1
      ∀ late, x.zeroBut [(8, 3), (13, 1)] = true → c < 2 → q < 64 → grants .can 14 (0x40 * c) 0x40 3 (x.stale s.dev .can) →
        let a := d.canCancel c (fun y => match y.desc with | some (r', _, t) => decide (r' = q) && decide (t = field x.bytes 8 2) | none => false) late
        s.Runs (.canCancel r late) (a.2.endDesc r x a.1 [])) ∧
    -- SECURE
    (s.dev.turn r 11 = some x → x.zeroBut [(8, 1), (16, 12), (32, 32)] = true → let k := field x.bytes 8 1
      let len := field x.bytes 24 4
      grants .secure 3 0x10 4 3 (x.stale s.dev .secure) → s.dev.f F.SECURE_STAT_ID_READY ≠ 0 →
      (k = 1 → len < 376 → s.Runs (.quoteDesc r) (d.endDesc r x .invalid [])) ∧
      (k = 1 → 376 ≤ len → let a := go.quoteReq (some (r, x.idx)) (slice x.bytes 32 32)
        s.Runs (.quoteDesc r) (if a.1 = .ok then a.2 else a.2.endDesc r x a.1 [])) ∧
      (k = 2 → s.dev.lc = lcReturned → s.Runs (.cert r) (d.endDesc r x .denied [])) ∧
      (k = 2 → s.dev.lc ≠ lcReturned → Config.cert.length ≤ len →
        s.Runs (.cert r) ((d.emit (.hostWrite fn (field x.bytes 16 8) Config.cert)).endDesc r x .ok (bytesOf 4 Config.cert.length))) ∧
      (∀ data, k = 3 → 164 ≤ len → let a := d.secRecord (slice data 0 164)
        s.Runs (.command r data) (a.2.endDesc r x a.1 (bytesOf 4 164))) ∧
      (∀ data, k = 4 → s.dev.f F.SECURE_STAT_RECOVERY = 0 → s.Runs (.fwLoad r data) (d.endDesc r x .invalid [])) ∧
      (∀ data, k = 4 → s.dev.f F.SECURE_STAT_RECOVERY ≠ 0 → let a := d.fwLoad (slice data 0 len)
        s.Runs (.fwLoad r data) (a.2.endDesc r x a.1 (bytesOf 4 len))))

/-- A register write: form and block state first, then the Tollgate, then the register. It rests on R4, R7, R8, R57, R386, R400 to R402. -/
def Obligations.RegisterWriteIsChecked : Prop :=
  ∀ (s : State) (m off v : Nat), let d := s.dev.begin
    let o := off % 0x10000
    let err := fun (u : Dev) (st : Status) => (if m ≤ 4 ∧ s.dev.role = .manager then u.mmioError st m 0 off true else u).complete st
    -- an access that is misaligned, of another size, or outside the register space
    (∀ n, n ≠ 4 ∧ n ≠ 8 ∨ off % n ≠ 0 ∨ 0x120000 ≤ off → s.Runs (.registerWrite m off n v) (err d .invalid)) ∧
    (∀ b, off % 4 = 0 → off < 0x120000 → Blk.ofNum (off / 0x10000) = some b →
      let acc := accOf (placeOf b o) true
      let check := d.tgCheck m b.num acc o 4 (decide (m = mDebug) && decide (s.dev.lc = lcSealed))
      -- the block's state comes before the Tollgate's table
      (s.dev.blockStatus b o = .invalid ∨ s.dev.blockStatus b o = .busy → s.Runs (.registerWrite m off 4 v) (err d (s.dev.blockStatus b o))) ∧
      (s.dev.blockStatus b o = .retired →
        s.Runs (.registerWrite m off 4 v) (err ((d.inc (retireFld b) 1).inc F.GLOBAL_BLK_STAT_RETIRED 1) .retired)) ∧
      (∀ u, s.dev.blockStatus b o = .ok → check = some u → s.Runs (.registerWrite m off 4 v) (err u .denied)) ∧
      -- a reserved offset takes the write and changes nothing
      (s.dev.blockStatus b o = .ok → check = none → (placeOf b o).filter s.dev.shown = none → s.Runs (.registerWrite m off 4 v) ((d.noteDirect m off 4 v).complete .ok)) ∧
      -- a register takes it
      (∀ p, s.dev.blockStatus b o = .ok → check = none → placeOf b o = some p → s.dev.shown p = true →
        let w := d.writeReg { m := m, desc := none } p (v % 2 ^ 32) false
        s.Runs (.registerWrite m off 4 v) (if w.1 = .ok then (w.2.noteDirect m off 4 v).complete .ok else err w.2 w.1)))

/-- The lifecycle commands of SECURE: the state that accepts them, the owner's signature, and their effects. It rests on R408, R410, R419,
R420. -/
def Obligations.LifecycleCommands : Prop :=
  ∀ (s : State) (arg pub sig : List Byte), let d := s.dev.begin
    let a := slice arg 0 32
    let ready := s.dev.f F.SECURE_STAT_ID_READY ≠ 0 ∧ s.dev.f F.SECURE_STAT_RNG_FAIL = 0 ∧ s.dev.engineFull = false
    let fin := fun (u : Dev) (st : Status) => ((u.put F.SECURE_STAT_LC_STATUS st.code).newChal).complete st
    let signed := fun code => s.dev.ownerSigned pub (sha256 (bytesOf 1 code ++ a ++ s.dev.sec.chal)) sig
    let rows : List (Nat × Instr) := [(1, .setOwner arg pub sig), (2, .seal arg pub sig), (3, .addKey arg pub sig), (4, .revoke arg pub sig),
      (5, .returnCmd arg pub sig), (6, .fwCommit arg pub sig)]
    -- before ID_READY, once the entropy source has failed, and with the engine full every command is BUSY
    (∀ x ∈ rows, ¬ ready → s.Runs x.2 (d.complete .busy)) ∧
    (ready →
      -- the lifecycle state accepts the command, and the signature is an owner's, or the lifecycle stays
      (∀ x ∈ rows, cmdRule x.1 s.dev.lc = none → s.Runs x.2 (fin d .invalid)) ∧
      (∀ x ∈ rows, cmdRule x.1 s.dev.lc = some true → signed x.1 = false → s.Runs x.2 (fin d .badsig)) ∧
      (s.dev.lc = lcBlank → s.Runs (.setOwner arg pub sig) (fin ((d.programSlot 0 a).put F.SECURE_LC_STATE lcDevelop) .ok)) ∧
      (s.dev.lc = lcDevelop → signed 2 = true → s.Runs (.seal arg pub sig) (fin (d.put F.SECURE_LC_STATE lcSealed) .ok)) ∧
      (s.dev.lc = lcDevelop ∨ s.dev.lc = lcSealed →
        (∀ k, signed 3 = true → ((List.range 4).find? fun k => !bitOf (s.dev.f F.SECURE_LC_SLOT_USED) k) = some k →
          s.Runs (.addKey arg pub sig) (fin (d.programSlot k a) .ok)) ∧
        (signed 3 = true → ((List.range 4).find? fun k => !bitOf (s.dev.f F.SECURE_LC_SLOT_USED) k) = none →
          s.Runs (.addKey arg pub sig) (fin d .overflow)) ∧
        (signed 4 = true → let k := field a 0 1
          k ≤ 3 → bitOf (s.dev.f F.SECURE_LC_SLOT_USED) k = true → s.dev.liveSlots ≠ [k] →
          s.Runs (.revoke arg pub sig) (fin (d.setBit F.SECURE_LC_SLOT_REV k true) .ok)) ∧
        (signed 4 = true → 3 < field a 0 1 ∨ bitOf (s.dev.f F.SECURE_LC_SLOT_USED) (field a 0 1) = false ∨ s.dev.liveSlots = [field a 0 1] → s.Runs (.revoke arg pub sig) (fin d .invalid)) ∧
        (s.dev.sec.fw = true → s.Runs (.fwCommit arg pub sig)
          (fin (d.put F.SECURE_LC_SVN (max (s.dev.f F.SECURE_LC_SVN) s.dev.sec.imgSvn)) .ok)) ∧
        (s.dev.sec.fw = false → s.Runs (.fwCommit arg pub sig) (fin d .invalid))) ∧
      (s.dev.lc = lcBlank ∨ (s.dev.lc = lcDevelop ∨ s.dev.lc = lcSealed) ∧ signed 5 = true →
        s.Runs (.returnCmd arg pub sig) (fin ((({ d with sec := { d.sec with noSeed := true } } : Dev).put F.SECURE_LC_SLOT_REV 15).put
          F.SECURE_LC_STATE lcReturned) .ok)))

/-- The boot ROM's choice of image, the identity and its measurement, quotes and EXTEND. It rests on R411, R412, R415 to R417, R419. -/
def Obligations.BootAndAttestation : Prop :=
  ∀ (s : State), let d := s.dev.begin
    let ready := s.dev.f F.SECURE_STAT_ID_READY ≠ 0
    -- the boot ROM tries slot A, then slot B, then RECOVERY
    (∀ l, s.dev.role = .manager → s.dev.lc ≠ lcReturned → ready → s.dev.sec.boot < 2 →
      (s.dev.imgOk l = true → s.Runs (.bootImageCheck l) (d.startImage l s.dev.sec.boot)) ∧
      (s.dev.imgOk l = false → let u : Dev := { d with sec := { d.sec with boot := d.sec.boot + 1 } }
        s.Runs (.bootImageCheck l) (if s.dev.sec.boot = 1 then u.raise F.SECURE_STAT_RECOVERY else u))) ∧
    (∀ l, s.dev.lc = lcReturned → s.Runs (.bootImageCheck l) d) ∧
    -- the identity is ready: M0 takes the ROM's digest and the lifecycle
    (s.dev.f F.SECURE_STAT_ID_READY = 0 → s.dev.role = .manager → s.dev.glob.por = false →
      s.Runs .idReady (((d.extend 0 (slice Config.romDigest 0 32)).extend 0 (bytesOf 1 s.dev.lc)).raise F.SECURE_STAT_ID_READY)) ∧
    (s.dev.f F.SECURE_STAT_ID_READY = 0 → s.dev.role = .concentrator ∨ s.dev.role = .cell → s.dev.glob.por = false → s.Runs .idReady
      ((((d.extend 0 (slice Config.romDigest 0 32)).extend 0 (bytesOf 1 s.dev.lc)).formM4 s.dev.liveSlots.head?).raise F.SECURE_STAT_ID_READY)) ∧
    (ready → s.Runs .idReady d) ∧
    -- quotes: one in the engine, four that wait
    (s.dev.blockStatus .secure 0x10 = .ok →
      (¬ ready → s.Runs .quote (d.complete .busy) ∧ ∀ k, s.Runs (.extend k) (d.complete .busy)) ∧
      (ready → s.dev.lc = lcReturned → s.Runs .quote (d.complete .denied)) ∧
      (ready → s.dev.lc ≠ lcReturned → 5 ≤ s.dev.sec.reqs.length → s.Runs .quote (d.complete .busy)) ∧
      (ready → s.dev.lc ≠ lcReturned → s.dev.sec.reqs = [] →
        let nonce := slice (s.dev.bytesAt F.SECURE_NONCE_V 8 0) 0 32
        let u := d.put F.SECURE_STAT_BUSY 1
        s.Runs .quote (({ u with sec := { u.sec with
          reqs := [{ desc := none, nonce := nonce, body := u.quoteBody nonce, sec := secOf s.dev.nowFix, ns := nsOf s.dev.nowFix }] } } : Dev).complete .ok)) ∧
      (∀ k, ready → 5 ≤ k → k ≤ 7 → s.Runs (.extend k) ((d.extend k (s.dev.bytesAt F.SECURE_EXTEND_V 8 0)).complete .ok)) ∧
      (∀ k, ready → k < 5 ∨ 7 < k → s.Runs (.extend k) (d.complete .invalid))) ∧
    -- the engine finishes, its signing time after it took the request up: signature and time in the registers
    (∀ q, s.dev.sec.reqs = [q] → q.desc = none →
      let g := d.advanceTo (q.sec * 10 ^ 9 + q.ns + signTime s.dev.role)
      let u : Dev := { g with sec := { g.sec with reqs := [] } }
      let u := ((u.put F.SECURE_STAT_QSTATUS Status.ok.code).putBytesAt F.SECURE_SIG_V 16 (slice (Config.sign (sha256 q.body)) 0 64)).put F.SECURE_QNS_V q.ns
      let u := (u.put F.SECURE_QSEC_V q.sec).raise F.SECURE_STAT_QDONE
      s.Runs .quoteDone ((u.emit (.done 0x30010 0 .ok)).put F.SECURE_STAT_BUSY 0)) ∧
    (s.dev.sec.reqs = [] → s.Runs .quoteDone d) ∧
    (s.dev.role ≠ .none → blkOn s.dev.role .secure = true → s.dev.blkGated .secure = false → s.dev.gate.dormant = false →
      s.Runs .rngFail (d.raise F.SECURE_STAT_RNG_FAIL))

/-- Only an image with the vendor's signature, the right digest, a version not below the SVN and, in SEALED, an owner's signature is ever
started. It rests on R411. -/
def Obligations.ImagesNeedVendorAndVersion : Prop :=
  ∀ (s : Dev) (l : List Byte), s.imgOk l = true →
    slice l 0 4 = [0x4F, 0x46, 0x57, 0x31] ∧ slice l 32 32 = sha256 (slice l 512 (field l 4 4)) ∧ sha256 (slice l 128 64) = slice Config.vendorHash 0 32 ∧
    Config.verify (slice l 128 64) (sha256 (slice l 0 64)) (slice l 64 64) = true ∧ s.lc ≠ lcReturned ∧
    (s.lc = lcDevelop ∨ s.lc = lcSealed → s.f F.SECURE_LC_SVN ≤ field l 12 1) ∧
    (s.lc = lcSealed → s.ownerSigned (slice l 256 64) (sha256 (slice l 0 192)) (slice l 192 64) = true)

/-- Frames sent and received by a CAN controller, the mailbox of a CONCENTRATOR, and the protocol exception. It rests on R421, R424 to R426,
R430. -/
def Obligations.CanFramesAndMailbox : Prop :=
  ∀ (s : State) (c : Nat), let d := s.dev.begin
    let k := s.dev.canCtl c
    let on := s.dev.f F.CAN_CFG_EN c ≠ 0 ∧ s.dev.f F.CAN_STAT_STATE c ≠ canBusOff
    -- the frame of the highest priority is sent; with a bit error in its data phase the attempt fails
    (∀ x (ago delay : Nat), on → contender k.pend = some x →
      let u := (((d.canJoined c).canDrop c x).inc F.CAN_CNT_TX_OK 1 c).put F.CAN_ERR_TEC (s.dev.f F.CAN_ERR_TEC c - 1) c
      (s.dev.canLateBit c delay x.frame = false →
        s.Runs (.canFrameSent c ⟨ago, delay⟩) ((((u.canHeard c).put F.CAN_STAT_LEC 0 c).canState c).canDone c x .ok 1 (s.dev.nowFix - (ago : Int) * nsFix))) ∧
      (s.dev.canLateBit c delay x.frame = true → let v : Dev := { d with free := s.dev.free + 1 }
        s.Runs (.canFrameSent c ⟨ago, delay⟩) (v.canError c (if Config.canBit s.dev.free then 4 else 5) true 0))) ∧
    (∀ ago delay, ¬ on ∨ k.pend = [] → s.Runs (.canFrameSent c ⟨ago, delay⟩) d) ∧
    -- a frame is received: into the receive FIFO of a CONCENTRATOR, into the ring of the MANAGER
    (∀ fr esi own (ago : Nat) edges,
      let bad := own = false ∧ s.dev.f F.CAN_CFG_MODE c ≠ 1 ∧ idFdf fr.id = true ∧ s.dev.f F.CAN_CFG_FD c = 0
      let takes := if own then s.dev.f F.CAN_CFG_MODE c ≠ 0 ∨ s.dev.f F.CAN_CFG_RX_OWN c ≠ 0
        else s.dev.f F.CAN_CFG_MODE c ≠ 1 ∧ s.dev.canFollows c edges = true
      let t := s.dev.nowFix - (ago : Int) * nsFix
      let x : CanRx := { frame := { fr with data := slice fr.data 0 (canLen fr.id fr.dlc) }, time := t, esi := esi, own := own }
      let g := (d.canJoined c).inc F.CAN_CNT_RX_OK 1 c
      let u : Dev := if own then g else
        { (((g.put F.CAN_ERR_REC (recAfter (s.dev.f F.CAN_ERR_REC c) s.dev.free) c).canHeard c).canState c) with free := s.dev.free + 1 }
      (bad → s.Runs (.canFrameReceived c fr esi own ⟨ago, edges⟩) (d.canError c 2 false 0)) ∧
      (¬ bad → ¬ on ∨ ¬ takes → s.Runs (.canFrameReceived c fr esi own ⟨ago, edges⟩) d) ∧
      (¬ bad → on → takes → s.dev.role = .concentrator →
        ((u.canCtl c).fifo.length < 16 → s.Runs (.canFrameReceived c fr esi own ⟨ago, edges⟩)
          ((u.setCan c { u.canCtl c with fifo := (u.canCtl c).fifo ++ [x] }).put F.CAN_RXF_CTL_HELD ((u.canCtl c).fifo.length + 1) c)) ∧
        (16 ≤ (u.canCtl c).fifo.length → s.Runs (.canFrameReceived c fr esi own ⟨ago, edges⟩)
          ((u.raise F.CAN_EVT_RX_LOST c).inc F.CAN_CNT_LOST_CNT 1 c))) ∧
      (¬ bad → on → takes → s.dev.role = .manager → s.Runs (.canFrameReceived c fr esi own ⟨ago, edges⟩)
        (u.rxDeliver (5 + c) (u.f F.CAN_STAT_EPOCH c) x.frame.data fun _ =>
          bytesOf 4 fr.id ++ bytesOf 4 (nsOf t) ++ bytesOf 6 (secOf t) ++ bytesOf 1 (subOf t) ++ bytesOf 1 x.byte23 ++
          bytesOf 1 (canLen fr.id fr.dlc) ++ bytesOf 1 c))) ∧
    -- the mailbox
    (s.dev.blockStatus .can (64 * c + 0x20) = .ok → s.dev.role = .concentrator →
      let id := s.dev.f F.CAN_TXB_ID_V c
      let data := (List.range 16).flatMap fun w => bytesOf 4 (s.dev.f F.CAN_TXB_DATA_V c w)
      let n := canLen id (s.dev.f F.CAN_TXB_CTL_DLC c)
      let x : CanTx := { frame := { id := id, dlc := s.dev.f F.CAN_TXB_CTL_DLC c, brs := decide (s.dev.f F.CAN_TXB_CTL_BRS c ≠ 0), data := slice data 0 n }, desc := none, last := false }
      (s.dev.f F.CAN_TXB_STAT_PENDING c ≠ 0 → s.Runs (.tx c) (d.complete .busy)) ∧
      (s.dev.f F.CAN_TXB_STAT_PENDING c = 0 → idRtr id = true ∧ idFdf id = true → s.Runs (.tx c) (d.complete .invalid)) ∧
      (s.dev.f F.CAN_TXB_STAT_PENDING c = 0 → ¬ (idRtr id = true ∧ idFdf id = true) → k.pend.length < 8 →
        s.Runs (.tx c) (((d.setCan c { k with pend := k.pend ++ [x] }).raise F.CAN_TXB_STAT_PENDING c).complete .ok)) ∧
      (s.dev.f F.CAN_TXB_STAT_PENDING c = 0 → ¬ (idRtr id = true ∧ idFdf id = true) → 8 ≤ k.pend.length → s.Runs (.tx c) (d.complete .busy)) ∧
      (∀ late, (k.pend.find? fun x => x.desc.isNone) = none → s.Runs (.cancel c late) (d.complete .invalid)) ∧
      (∀ y, (k.pend.find? fun x => x.desc.isNone) = some y → s.Runs (.cancel c false)
        (((d.setCan c { k with pend := k.pend.erase y }).canDone c y .ok 2 0).complete .ok)) ∧
      (∀ y, (k.pend.find? fun x => x.desc.isNone) = some y → s.Runs (.cancel c true)
        (((d.setCan c { k with pend := k.pend.map fun z => if z = y then { z with last := true } else z }).raise F.CAN_EVT_CANCEL_LATE c).put
          F.CAN_TXB_STAT_STATUS Status.cancelLate.code c |>.complete .cancelLate))) ∧
    (on → s.dev.f F.CAN_CFG_FD c ≠ 0 → s.Runs (.protocolException c) ((d.setCan c { k with integ := true }).raise F.CAN_EVT_PROT_EXC c)) ∧
    (on → s.dev.f F.CAN_CFG_FD c = 0 → s.Runs (.protocolException c) (d.canError c 2 false 0)) ∧
    (¬ on → s.Runs (.protocolException c) d)

/-- A CAN controller is enabled and disabled, counts errors, goes passive and bus-off, and recovers. It rests on R422, R428, R429. The counts
of an error follow ISO 11898-1 as log entry 28 reads it. -/
def Obligations.CanControllerStates : Prop :=
  ∀ (s : State) (c : Nat), let d := s.dev.begin
    let k := s.dev.canCtl c
    let on := s.dev.f F.CAN_CFG_EN c ≠ 0 ∧ s.dev.f F.CAN_STAT_STATE c ≠ canBusOff
    let w := fun on => putBit (s.dev.word F.regCanCfg 0 c 0) 31 on
    (s.dev.blockStatus .can (64 * c) = .ok →
      (s.dev.f F.CAN_CFG_EN c = 0 → bits (w true) 29 2 ≠ 3 → s.dev.canTimingOk c = true →
        let u := (d.putWord F.regCanCfg 0 c 0 (w true)).put F.CAN_STAT_STATE canActive c
        s.Runs (.canEnable c) (((u.setCan c { u.canCtl c with integ := true, recov := false }).canState c).complete .ok)) ∧
      (s.dev.f F.CAN_CFG_EN c = 0 → s.dev.canTimingOk c = false → s.Runs (.canEnable c) (d.complete .invalid)) ∧
      (s.dev.f F.CAN_CFG_EN c ≠ 0 → bits (w true) 29 2 ≠ 3 → s.Runs (.canEnable c) (d.complete .busy)) ∧
      (s.dev.f F.CAN_CFG_EN c ≠ 0 → bits (w false) 29 2 ≠ 3 →
        s.Runs (.canDisable c) ((((d.putWord F.regCanCfg 0 c 0 (w false)).canRetire c).put F.CAN_STAT_STATE canOff c).complete .ok))) ∧
    -- an error as transmitter raises TEC by 8 (not a passive node's acknowledgement error), as receiver REC by 1
    (∀ lec more, on → lec ≠ 3 → k.pend = [] →
      let u := (d.put F.CAN_STAT_LEC lec c).inc F.CAN_CNT_ERR_FR 1 c
      s.Runs (.canError c lec false more) ((u.put F.CAN_ERR_REC (min 255 (s.dev.f F.CAN_ERR_REC c + 1 + 8 * more)) c).canState c) ∧
      s.Runs (.canError c lec true more) ((((u.put F.CAN_ERR_TEC (min 511 (s.dev.f F.CAN_ERR_TEC c + (8 + 8 * more))) c).put
        F.CAN_STAT_ACK_RUN 0 c).put F.CAN_STAT_LONE_NODE 0 c).canState c)) ∧
    -- an acknowledgement error: a passive transmitter's does not count, and the sixteenth in succession shows LONE_NODE
    (∀ more, on → k.pend = [] → let n := min 16 (s.dev.f F.CAN_STAT_ACK_RUN c + 1)
      let u := (d.put F.CAN_STAT_LEC 3 c).inc F.CAN_CNT_ERR_FR 1 c
      let v := (u.put F.CAN_ERR_TEC (min 511 (s.dev.f F.CAN_ERR_TEC c + ((if s.dev.f F.CAN_STAT_STATE c = canPassive then 0 else 8) + 8 * more))) c).put
        F.CAN_STAT_ACK_RUN n c
      s.Runs (.canError c 3 true more) ((if n = 16 then v.raise F.CAN_STAT_LONE_NODE c else v).canState c)) ∧
    (∀ lec tx more, ¬ on → s.Runs (.canError c lec tx more) d) ∧
    (s.dev.f F.CAN_STAT_STATE c = canBusOff → k.recov = true →
      let u := ((d.put F.CAN_ERR_TEC 0 c).put F.CAN_ERR_REC 0 c).put F.CAN_STAT_STATE canActive c
      s.Runs (.recovered c) ((u.setCan c { k with recov := false }).raise F.CAN_EVT_RECOVERED c)) ∧
    (s.dev.f F.CAN_STAT_STATE c ≠ canBusOff ∨ k.recov = false → s.Runs (.recovered c) d) ∧
    (s.dev.blockStatus .can (64 * c + 0x20) = .ok → s.dev.f F.CAN_STAT_STATE c = canBusOff →
      s.Runs (.recover c) ((d.setCan c { k with recov := true }).complete .ok)) ∧
    (s.dev.blockStatus .can (64 * c + 0x20) = .ok → s.dev.f F.CAN_STAT_STATE c ≠ canBusOff → s.Runs (.recover c) (d.complete .ok)) ∧
    -- the state follows the counters; bus-off is left by recovery only
    (s.dev.f F.CAN_STAT_STATE c ≠ canBusOff → s.dev.f F.CAN_STAT_STATE c ≠ canOff →
      (s.dev.canState c).f F.CAN_STAT_STATE c = if 255 < s.dev.f F.CAN_ERR_TEC c then canBusOff
        else if 127 < s.dev.f F.CAN_ERR_TEC c ∨ 127 < s.dev.f F.CAN_ERR_REC c then canPassive else canActive)

/-- Power-on reset and the role taken from the straps. It rests on R11, R12, R16, R19, R436, R439. -/
def Obligations.PowerOnAndRole : Prop :=
  ∀ (s : State),
    -- power-on reset: what AON and the OTP hold stays
    (s.Does .porstNFall fun u => u.role = .none ∧ u.glob.por = true ∧ u.glob.straps = s.dev.glob.straps ∧ u.time = Time.off ∧
      u.loom = Loom.off ∧ u.spin = Spin.off ∧ u.reel = Reel.off ∧ u.eth = Eth.off ∧ u.pair = Pair.off ∧ u.safe = Safe.off ∧
      u.lanes = { trunk := [], leaf := [], st := [] } ∧ u.sec.slots = s.dev.sec.slots ∧ u.gate.log = s.dev.gate.log ∧ u.gate.fired = s.dev.gate.fired) ∧
    (∀ a b c x ok, s.dev.glob.por = false → s.Runs (.porstNRise a b c ⟨x, ok⟩) s.dev.begin) ∧
    (∀ a b c x ok, s.dev.glob.por = true → s.Does (.porstNRise a b c ⟨x, ok⟩) fun u => u.glob.por = false ∧ u.glob.straps = x ∧
      (¬ (a = x ∧ b = x ∧ c = x) → u.role = .none ∧ u.f F.GLOBAL_ROLE_ROLE = 0 ∧ u.f F.GLOBAL_ROLE_STRAP = x.code ∧ u.f F.GLOBAL_ROLE_FAULT = 2) ∧
      (a = x → b = x → c = x →
        (x.s1 = false → x.s0 = false → u.role = .none ∧ u.f F.GLOBAL_ROLE_FAULT = 1) ∧
        (x.s1 = false → x.s0 = true → u.role = .manager ∧ u.f F.GLOBAL_ROLE_PLANE = (if x.plane then 2 else 1) ∧ u.f F.GLOBAL_ROLE_FAULT = 0) ∧
        (x.s1 = true → x.s0 = false → u.role = .concentrator ∧ u.f F.GLOBAL_ROLE_FAULT = 0) ∧
        (x.s1 = true → x.s0 = true → s.dev.gate.cpg = false ∨ s.dev.gate.aonLow = true →
          u.role = .cell ∧ u.gate.dormant = true ∧ u.f F.GLOBAL_ROLE_PLANE = 3 ∧ u.f F.GLOBAL_ROLE_FAULT = 0)))

/-- The sources and the effect of a warm reset, and the block resets. It rests on R56, R57, R362, R437, R439 to R442. -/
def Obligations.WarmAndBlockReset : Prop :=
  ∀ (s : State), let d := s.dev.begin
    let up := s.dev.glob.por = false ∧ s.dev.role ≠ .none ∧ s.dev.gate.dormant = false
    -- a source asks; the first to come is kept
    (∀ c k, (c, k) ∈ [(Instr.wrstN, 6)] → up → s.dev.glob.warm = none → s.Runs c { d with glob := { d.glob with warm := some k } }) ∧
    (up → s.dev.glob.warm = none → s.dev.blockStatus .global 0x30 = .ok →
      s.Runs (.warm 0x5A17) (({ d with glob := { d.glob with warm := some 7 } } : Dev).complete .ok)) ∧
    (∀ key, key ≠ 0x5A17 → s.dev.blockStatus .global 0x30 = .ok → s.Runs (.warm key) (d.complete .invalid)) ∧
    (up → s.dev.glob.warm = none → s.dev.f F.DEBUG_STAT_HALTED = 0 → s.Runs .wdogExpiry
      { d with
        glob := { d.glob with warm := some 8 }
        pair := if s.dev.role = .manager then { d.pair with crit := putBit d.pair.crit 4 true } else d.pair }) ∧
    (s.dev.f F.DEBUG_STAT_HALTED ≠ 0 → s.Runs .wdogExpiry d) ∧
    (s.dev.glob.warm = none → s.Runs .warmReset d) ∧
    (∀ k, s.dev.glob.warm = some k → s.dev.role = .concentrator → k = 6 ∨ k = 7 ∨ k = 8 → s.Does .warmReset fun u =>
      u.role = .concentrator ∧ u.glob.warm = none ∧ u.glob.straps = s.dev.glob.straps ∧ u.time.frc = s.dev.time.frc ∧ u.sec.slots = s.dev.sec.slots ∧
      (k = 6 → u.f F.GLOBAL_RST_CAUSE_WRST = 1) ∧ (k = 7 → u.f F.GLOBAL_RST_CAUSE_HOST = 1) ∧ (k = 8 → u.f F.GLOBAL_RST_CAUSE_WDOG = 1)) ∧
    -- the write of BLK_RST, and the end of the reset
    (s.dev.blockStatus .global 0x34 = .ok → s.dev.role ≠ .none →
      (∀ num, s.Runs (.blkRst false num) (d.complete .ok)) ∧
      (∀ num, Blk.ofNum num = none ∨ num = 0 → s.Runs (.blkRst true num) (d.complete .invalid)) ∧
      (∀ num b, Blk.ofNum num = some b → b ≠ .global → blkOn s.dev.role b = true → s.dev.blkGated b = false →
        (b = .pair → s.dev.f F.PAIR_STAT_STATE ≠ 2) → s.dev.glob.blkRst.contains num = false → s.dev.glob.swap = none →
        s.Runs (.blkRst true num) ((((({ d with glob := { d.glob with blkRst := d.glob.blkRst ++ [num], rstAt := Tab.put d.glob.rstAt num d.fifths } } : Dev).put F.GLOBAL_BLK_STAT_BUSY 1).put
          F.GLOBAL_BLK_STAT_BLOCK num).put F.GLOBAL_BLK_STAT_RETIRED 0).complete .ok))) ∧
    (∀ num, s.dev.glob.blkRst.contains num = false → s.Runs (.blockResetDone num) d) ∧
    (∀ num b, Blk.ofNum num = some b → num ∈ s.dev.glob.blkRst → let t := d.coreTo (Tab.get 0 d.glob.rstAt num + d.resetTime (d.pendingAt b))
      s.Does (.blockResetDone num) fun u =>
      u.glob.blkRst = s.dev.glob.blkRst.filter (fun k => decide (k ≠ num)) ∧ u.f F.GLOBAL_BLK_STAT_DONE = 1 ∧ u.role = s.dev.role ∧
      (b = .time → u.time.frc = t.time.frc ∧ u.time.bT = t.time.bT ∧ u.f F.TIME_STAT_STEP_AVAIL = 1) ∧
      (b = .debug → u.epoch .debug = (s.dev.epoch .debug + 1) % 16 ∧ u.f F.DEBUG_STAT_HALTED = 0))

/-- Clock monitors, supply excursions and the power islands. It rests on R301, R432 to R435, R437, R438. -/
def Obligations.ClocksSuppliesIslands : Prop :=
  ∀ (s : State), let d := s.dev.begin
    let bad := fun (u : Dev) => ({ u with pair := { u.pair with clkBad := true, crit := putBit u.pair.crit 3 true } } : Dev)
    let pass := fun (u : Dev) => ({ u with pair := { u.pair with cov := putBits u.pair.cov 8 8 (bits u.pair.cov 8 8 + 1) } } : Dev)
    let d0 : Dev := { d with pair := { d.pair with clkBad := false } }
    (s.dev.role = .manager →
      (∀ core ref, s.Runs (.clockMonitorWindow core ref true) (pass (bad (d0.raise F.GLOBAL_CLK_STAT_MON_REF_LOST)))) ∧
      (∀ core ref : Int, -200 ≤ ref → ref ≤ 200 →
        let u := (d0.put F.GLOBAL_CLK_MON_CORE_PPM (wrap 16 (satS 16 core))).put F.GLOBAL_CLK_MON_REF_PPM (wrap 16 (satS 16 ref))
        s.Runs (.clockMonitorWindow core ref false) (pass (if core < -200 ∨ 200 < core then bad (u.raise F.GLOBAL_CLK_STAT_CORE_BAD) else u))) ∧
      s.Runs (.clockStop 0) (bad (d.raise F.GLOBAL_CLK_STAT_CORE_BAD)) ∧
      s.Runs (.clockStop 1) (bad (d.raise F.GLOBAL_CLK_STAT_REFCLK_BAD)) ∧
      s.Runs (.clockStop 2) (bad (d.raise F.GLOBAL_CLK_STAT_MON_REF_LOST)) ∧
      -- DRAM: Reel only
      (∀ ok, s.dev.glob.por = false → s.dev.gate.dormant = false → s.Does (.supplyExcursion ⟨5, ok⟩) fun u =>
        u.f F.GLOBAL_RST_CAUSE_SUP_DRAM = 1 ∧ u.reel = Reel.off ∧ s.dev.Keeps [.global, .reel] [] u)) ∧
    -- the core supply: a reset of the whole device, whose cause is kept
    (∀ ok, s.dev.glob.por = false → s.dev.role = .concentrator → s.dev.glob.straps.s1 = true → s.dev.glob.straps.s0 = false →
      s.dev.gate.dormant = false → s.Does (.supplyExcursion ⟨1, ok⟩) fun u =>
        u.role = .concentrator ∧ u.f F.GLOBAL_RST_CAUSE_SUP_CORE = 1 ∧ u.f F.GLOBAL_RST_CAUSE_HOST = s.dev.f F.GLOBAL_RST_CAUSE_HOST % 2 ∧
        u.time.frc = 0 ∧ u.sec.slots = s.dev.sec.slots) ∧
    -- islands: a request that gates off one in use is refused
    (∀ lane v, s.dev.blockStatus .global (if lane then 0x28 else 0x20) = .ok →
      let off := (islands s.dev.role).filter fun k => islandBit s.dev.pwrCtl s.dev.pwrLane k &&
        !islandBit (if lane then s.dev.pwrCtl else v) (if lane then v else s.dev.pwrLane) k
      let on := (islands s.dev.role).filter fun k => !islandBit s.dev.pwrCtl s.dev.pwrLane k &&
        islandBit (if lane then s.dev.pwrCtl else v) (if lane then v else s.dev.pwrLane) k
      (s.dev.role = .cell → s.Runs (.pwrCtlWrite lane v) (d.complete .ok)) ∧
      (s.dev.role = .manager ∨ s.dev.role = .concentrator → off.any s.dev.islandEn = true → s.Runs (.pwrCtlWrite lane v) (d.complete .busy)) ∧
      (s.dev.role = .manager ∨ s.dev.role = .concentrator → off = [] →
        let u := d.putWord (if lane then F.regGlobalPwrLane else F.regGlobalPwrCtl) 0 0 0 v
        s.Runs (.pwrCtlWrite lane v) ((({ u with glob := { u.glob with ramp := d.glob.ramp ++ on, rampAt := on.foldl (fun t k => Tab.put t k d.fifths) d.glob.rampAt } } : Dev).put F.GLOBAL_PWR_STAT_READY
          (b2n (decide (d.glob.ramp ++ on = [])))).complete .ok))) ∧
    (∀ k, k ∈ s.dev.glob.ramp → k < 8 ∨ 32 ≤ k → let l := s.dev.glob.ramp.filter fun x => decide (x ≠ k)
      let t := d.coreTo (Tab.get 0 d.glob.rampAt k + 20000)
      s.Runs (.islandReady k) (({ t with glob := { t.glob with ramp := l } } : Dev).put F.GLOBAL_PWR_STAT_READY (b2n (decide (l = []))))) ∧
    (∀ k, ¬ k ∈ s.dev.glob.ramp → s.Runs (.islandReady k) d)

/-- A CELL loses and regains good power: DORMANT, the wake, and a role that is wrong at the wake. It rests on R15, R259 to R262, R460. -/
def Obligations.CellDormancy : Prop :=
  ∀ (s : State), let d := s.dev.begin
    -- good power ends: the gates go off, DORMANT is entered, and what AON holds stays
    (s.dev.role = .cell → s.dev.gate.dormant = false → s.Does .cpgFall fun u => u.role = .cell ∧ u.gate.dormant = true ∧ u.gate.cpg = false ∧
      u.time.frc = s.dev.time.frc ∧ u.glob.straps = s.dev.glob.straps ∧ u.sec.slots = s.dev.sec.slots ∧ u.gate.legA = Leg.off ∧ u.gate.legB = Leg.off ∧
      u.f F.GLOBAL_ROLE_PLANE = 3) ∧
    (s.dev.role ≠ .cell ∨ s.dev.gate.dormant = true → s.Runs .cpgFall { d with gate := { d.gate with cpg := false } }) ∧
    -- good power returns: with VDD_AON at its level the device wakes
    (∀ a b c x ok, s.dev.role = .cell → s.dev.gate.dormant = true →
      s.Runs (.cpgRise false a b c x ok) { d with gate := { d.gate with cpg := true, aonLow := true } } ∧
      (¬ (a = x ∧ b = x ∧ c = x) → s.Does (.cpgRise true a b c x ok) fun u =>
        u.role = .none ∧ u.f F.GLOBAL_ROLE_FAULT = 2 ∧ u.f F.GLOBAL_ROLE_ROLE = 0 ∧ u.gate.cpg = true ∧ u.gate.aonLow = false) ∧
      (a = x → b = x → c = x → x.role ≠ s.dev.glob.aonRole → s.Does (.cpgRise true a b c x ok) fun u => u.role = .none ∧ u.f F.GLOBAL_ROLE_FAULT = 3) ∧
      (a = x → b = x → c = x → x.role = s.dev.glob.aonRole → s.dev.f F.GATE_BYP_STAT_FIRED = 0 → s.dev.otpBypassed = false →
        s.Does (.cpgRise true a b c x true) fun u => u.role = .cell ∧ u.gate.dormant = false ∧ u.gate.cpg = true ∧
          u.f F.GATE_STAT_STATE = gWaking ∧ u.f F.GLOBAL_RST_CAUSE_WAKE = 1) ∧
      (s.dev.gate.cpg = true → s.dev.gate.aonLow = true → a = x → b = x → c = x → x.role = s.dev.glob.aonRole →
        s.dev.f F.GATE_BYP_STAT_FIRED = 0 → s.dev.otpBypassed = false → s.Does (.vddAonWakeLevel a b c x true) fun u =>
          u.role = .cell ∧ u.gate.dormant = false ∧ u.gate.aonLow = false ∧ u.f F.GATE_STAT_STATE = gWaking ∧ u.f F.GLOBAL_RST_CAUSE_WAKE = 1)) ∧
    (∀ a b c x ok, s.dev.gate.cpg = false → s.Runs (.vddAonWakeLevel a b c x ok) { d with gate := { d.gate with aonLow := false } })

/-- HALT, RESUME and RESET of the debug block, and the instructions of the test access port. It rests on R443 to R445. -/
def Obligations.DebugAndTestPort : Prop :=
  ∀ (s : State), let d := s.dev.begin
    let last := fun (u : Dev) (st : Status) => (u.put F.DEBUG_STAT_LAST st.code).complete st
    let ir := fun (code : Nat) => ((({ d with dbg := { d.dbg with ir := code } } : Dev).put F.DEBUG_STAT_TAP_ACTIVE 1).put
      F.DEBUG_STAT_EXTEST (b2n (decide (code = 0))))
    let on := s.dev.glob.por = false ∧ s.dev.gate.dormant = false
    (s.dev.blockStatus .debug 0 = .ok → s.dev.role ≠ .none →
      (s.dev.lc = lcSealed → s.Runs .halt (last d .denied)) ∧
      (s.dev.lc ≠ lcSealed → s.dev.role = .manager → s.dev.f F.PAIR_STAT_STATE = 2 → s.Runs .halt (last d .busy)) ∧
      (s.dev.lc ≠ lcSealed → s.dev.role = .manager → s.dev.f F.PAIR_STAT_STATE ≠ 2 → s.dev.f F.DEBUG_STAT_HALTED = 0 →
        let u := d.raise F.DEBUG_STAT_HALTED
        s.Runs .halt (last { u with pair := { u.pair with halted := true, crit := putBit u.pair.crit 10 true } } .ok)) ∧
      (s.dev.lc ≠ lcSealed → s.dev.role = .concentrator → s.dev.f F.DEBUG_STAT_HALTED = 0 → s.Runs .halt (last (d.raise F.DEBUG_STAT_HALTED) .ok)) ∧
      (s.dev.f F.DEBUG_STAT_HALTED = 0 → s.Runs .resumeDebug (last d .invalid)) ∧
      (s.dev.f F.DEBUG_STAT_HALTED ≠ 0 →
        s.Runs .resumeDebug (last (({ d with pair := { d.pair with halted := false } } : Dev).put F.DEBUG_STAT_HALTED 0) .ok)) ∧
      (∀ key, key ≠ 0x5A17 → s.Runs (.reset key) (last d .invalid)) ∧
      (on → s.dev.glob.warm = none → s.Runs (.reset 0x5A17) (last { d with glob := { d.glob with warm := some 9 } } .ok))) ∧
    -- the test access port; in SEALED only BYPASS, IDCODE and SAMPLE/PRELOAD act
    (on → s.Runs .idcode ((ir 1).complete .ok idcode)) ∧
    (∀ bits, on → s.Runs (.samplePreload bits) { ir 2 with dbg := { (ir 2).dbg with bsr := bits } }) ∧
    (∀ code, on → s.Runs (.tapBypass code) { ir code with dbg := { (ir code).dbg with byp := false } }) ∧
    (∀ bits, on → s.dev.lc ≠ lcSealed → s.Runs (.extest bits) { ir 0 with dbg := { (ir 0).dbg with bsr := bits } }) ∧
    (∀ bits, on → s.dev.lc = lcSealed → s.Runs (.extest bits) (({ ir 0 with dbg := { (ir 0).dbg with byp := false } } : Dev).put F.DEBUG_STAT_EXTEST 0)) ∧
    (∀ op ep addr data, on → s.dev.lc = lcSealed → s.Runs (.dbgAccess op ep addr data) { ir 0x20 with dbg := { (ir 0x20).dbg with byp := false } }) ∧
    (∀ op ep addr data, on → s.dev.lc ≠ lcSealed → 1 ≤ op → op ≤ 4 →
      let r := (ir 0x20).access { m := mDebug, off := addr, n := if op ≤ 2 then 4 else 8, wr := if op % 2 = 0 then some data else none, ep := some ep, desc := none }
      s.Runs (.dbgAccess op ep addr data) (({ r.2.2 with dbg := { r.2.2.dbg with acc := some (r.1, r.2.1) } } : Dev).complete r.1 r.2.1)) ∧
    (∀ op ep addr data, on → s.dev.lc ≠ lcSealed → op = 0 ∨ 4 < op →
      s.Runs (.dbgAccess op ep addr data) (({ ir 0x20 with dbg := { (ir 0x20).dbg with acc := some (.invalid, 0) } } : Dev).complete .invalid))

/-- The exchange blocks of a pair: state, grafts and comparison, milestone lists and the map digest. It rests on R28, R83, R202, R292, R293. -/
def Obligations.PairExchangeBlocks : Prop :=
  -- a block as it is laid out gives its CYCLE and payload; with another CRC, TYPE or LEN it is none
  (∀ (t cyc : Nat) (p : List Byte), t < 2 ^ 8 → cyc < 2 ^ 32 → p.length < 2 ^ 16 →
    pxParts t (pxBytes t cyc p) = if pxLenOk t p then some (cyc, p) else none) ∧
  (∀ (t : Nat) (data : List Byte), crcOk data = false → pxParts t data = none) ∧
  ∀ (s : State) (L : Nat) (hd bd : List Byte), let d := s.dev.begin
    let data := hd ++ bd
    let here := s.dev.isPair L = true ∧ s.dev.inRun L = true
    (∀ clean, ¬ here → ∀ c ∈ [Instr.pxState L hd bd clean, .pxGraft L hd bd clean, .pxMlist L hd bd clean, .pxMapdig L data clean], s.Runs c d) ∧
    (∀ clean, here → ∀ x ∈ [(1, Instr.pxState L hd bd clean), (2, .pxGraft L hd bd clean), (3, .pxMlist L hd bd clean), (4, .pxMapdig L data clean)],
      clean = false ∨ pxParts x.1 data = none → s.Runs x.2 (d.incBlkLn F.LANE_SF_ERR_MS_CRC L 1)) ∧
    -- the map digest
    (∀ cyc p, here → pxParts 4 data = some (cyc, p) → let u : Dev := { d with pair := { d.pair with mapPar := some p } }
      s.Runs (.pxMapdig L data true) (if s.dev.pair.mapOwn = none ∨ s.dev.pair.mapOwn = some p then u else u.raise F.PAIR_EVT_MAP_MISMATCH)) ∧
    -- an active unit discards grafts and lists
    (here → s.dev.f F.PAIR_STAT_STATE = 2 → (pxParts 2 data ≠ none → s.Runs (.pxGraft L hd bd true) d) ∧ (pxParts 3 data ≠ none → s.Runs (.pxMlist L hd bd true) d)) ∧
    -- a standby unit buffers a graft, tells its run, and compares
    (∀ cyc p, here → s.dev.f F.PAIR_STAT_STATE ≠ 2 → pxParts 2 data = some (cyc, p) →
      let n := s.dev.cycNear cyc
      let ng := fieldBE p 2 2
      let key := n * 64 + field p 0 1
      let due := s.dev.loom.due.map fun (r : Run) => if s.dev.graftKey r = key then { r with graft := true } else r
      let words := (List.range ng).map fun j => fieldBE p (4 + 4 * j) 4
      let vals := (List.range (field p 1 1)).map fun j => ({ cyc := n, o := fieldBE p (4 + 4 * ng + 6 * j) 2, v := fieldBE p (6 + 4 * ng + 6 * j) 4 } : CmpVal)
      s.Runs (.pxGraft L hd bd true) (Dev.cmpAdd { d with loom := { d.loom with graft := Tab.put d.loom.graft key words, due := due } } false vals)) ∧
    -- a list is kept for its arm and cycle; K = 0xFFFF says that the arm is not commanded
    (∀ cyc p, here → s.dev.f F.PAIR_STAT_STATE ≠ 2 → pxParts 3 data = some (cyc, p) → field p 0 1 < 12 →
      let n := s.dev.cycNear cyc
      let k := fieldBE p 1 2
      let at_ : Nat := 4 * field p 0 1 + n % 4
      let m : MList := { cyc := n, gen := fieldBE p 3 2, exec := fieldBE p 5 4, list := none }
      (k = 0xFFFF → s.Runs (.pxMlist L hd bd true) { d with pair := { d.pair with mlist := Tab.put d.pair.mlist at_ m } }) ∧
      (k ≠ 0xFFFF → s.Does (.pxMlist L hd bd true) fun u => u.pair = { d.pair with
        mlist := Tab.put d.pair.mlist at_ { m with list := some ((List.range k).map fun i => fieldBE p (9 + 2 * i) 2) } } ∧ u.gate = d.gate ∧ u.loom = d.loom)) ∧
    -- the partner's state: a unit that is not a standby unit of an active one compares nothing; a standby unit compares CFGID
    (∀ cyc p, here → pxParts 1 data = some (cyc, p) → let n := s.dev.cycNear cyc
      let words := (List.range 8).map fun k => fieldBE p (4 * k) 4
      let st := bits (words.getD 0 0) 28 4
      let fresh := (List.range 4).filter fun k => decide (bits (s.dev.f F.PAIR_PHEALTH_WORD 5) (8 * k) 8 ≠ bits (words.getD 5 0) (8 * k) 8)
      let u := d.each (List.range 8) fun u k => u.put F.PAIR_PHEALTH_WORD (words.getD k 0) k
      let u := (u.put F.PAIR_STAT_PSTATE st).put F.PAIR_CFGID_PARTNER (fieldBE p 52 4)
      (st ≠ 2 ∨ u.standby = false →
        s.Runs (.pxState L hd bd true) { u with pair := { u.pair with
          stall := fresh.foldl (fun a k => putBit a k false) u.pair.stall
          pcov := words.getD 5 0
          cfgBad := false
          relSeen := u.pair.relSeen || decide (st = 3) } }) ∧
      (st = 2 → u.standby = true → s.Does (.pxState L hd bd true) fun w =>
        w.pair.cfgBad = decide (fieldBE p 52 4 ≠ u.cfgidAt n) ∧ (fieldBE p 52 4 ≠ u.cfgidAt n → w.f F.PAIR_EVT_CFG_MISMATCH = 1 ∧ n ∈ w.loom.cmpVoid)))

/-- Conditions of a pair: cross-link, heartbeat, coverage, votes, fitness, orphan and the configuration check. It rests on R290, R296, R302,
R304, R306, R308. -/
def Obligations.PairConditions : Prop :=
  ∀ (s : State), s.dev.role = .manager → let d := s.dev.begin
    -- the cross-link is lost two periods after the partner's last superframe
    (∀ x, s.dev.pair.psof = some x → s.dev.f F.PAIR_STAT_XLINK_UP ≠ 0 →
      let u := d.advanceTo (x.tm + 2 * s.dev.perNs + 1)
      u.xlinkNow = false → s.Runs .crosslinkLost (((u.put F.PAIR_STAT_XLINK_UP 0).raise F.PAIR_EVT_CROSSLINK_LOST).inc F.PAIR_CNT_XLINK_LOSS 1)) ∧
    s.Runs .pairHbIEdge (d.raise F.PAIR_STAT_HB_OK) ∧
    s.Runs .hbLost ((d.put F.PAIR_STAT_HB_OK 0).raise F.PAIR_EVT_HB_LOST) ∧
    (∀ k, k < 4 → s.Runs (.coverageStall k)
      (({ d with pair := { d.pair with stall := putBit d.pair.stall k true } } : Dev).raise F.PAIR_EVT_COVERAGE_STALL)) ∧
    (let w := s.dev.pair.acc.headD (Vote.none 0)
      let of := fun (p : Nat → Bool) => (w.gens.filter fun e => p e.1).foldl (fun n e => n + e.2) 0
      let own := s.dev.f F.PAIR_STAT_GEN % 256
      let v : Vote := { w with f := of fun g => decide (g = s.dev.pair.pgen % 256), h := of fun g => genHigher 8 g own, e := of fun g => decide (g = own) }
      let u := (((d.put F.PAIR_VOTE_STAT_R (min 0xFFFF v.r)).put F.PAIR_VOTE_STAT_S (min 0xFFFF v.s)).put F.PAIR_VOTE_STAT_L (min 0xFFFF v.l)).put
        F.PAIR_VOTE_STAT_F (min 0xFFFF v.f)
      let most := fun c => decide (s.dev.fi F.PAIR_VOTE_RMIN ≤ v.r) && decide (s.dev.fi F.PAIR_VOTE_QUORUM * v.r ≤ 16 * c)
      s.Runs .voteComplete { u with pair := { u.pair with
        acc := s.dev.pair.acc.tail
        vote := some v
        conf := if most v.s then s.dev.pair.conf + 1 else 0
        depSeen := s.dev.pair.depSeen || (s.dev.unitActive && most (if s.dev.planeB then v.h + v.e else v.h))
        watch := if most v.h then none else s.dev.pair.watch } }) ∧
    (s.dev.f F.PAIR_STAT_STATE = 2 → 0 < s.dev.pair.fit → s.dev.fi F.PAIR_FIT_FIT_HOLD ≤ s.dev.pair.fit →
      s.Runs .fitHoldExpiry { d with pair := { d.pair with fitDue := true } }) ∧
    (∀ w, s.dev.pair.watch = some w →
      let u := d.advanceTo (s.dev.bnd w)
      s.Runs .orphan ((({ u with pair := { u.pair with watch := none } } : Dev).raise F.PAIR_EVT_ORPHAN).setOrphan true)) ∧
    (let bad := s.dev.glob.swapOk && decide (s.dev.cfgid s.dev.actSet ≠ s.dev.f F.PAIR_CFGID_OWN);
      s.Runs .configurationCheck { d with pair := { d.pair with
        cfgChk := bad
        crit := if bad then putBit d.pair.crit 5 true else d.pair.crit
        cov := putBits d.pair.cov 16 8 (bits d.pair.cov 16 8 + 1) } })

/-- CLAIM, RELINQUISH, RESUME, PAIR_TRIP_CLR, FAULT and CLEAR. It rests on R301, R303, R305, R306, R310, R313. -/
def Obligations.PairHostCommands : Prop :=
  ∀ (s : State), s.dev.blockStatus .pair 0x10 = .ok → let d := s.dev.begin
    let st := s.dev.f F.PAIR_STAT_STATE
    -- a claim by the host needs a standby unit without a critical fault, a running cycle, a vote without a live report of the partner, and a
    -- partner that is not seen to be active
    (let seen := s.dev.f F.PAIR_STAT_XLINK_UP ≠ 0 ∧ ∃ x, s.dev.pair.psof = some x ∧ x.active = true
     let may := st = 1 ∧ s.dev.crit = false ∧ s.dev.run = true ∧ (∃ v, s.dev.pair.vote = some v ∧ v.l = 0) ∧ ¬ seen
     (may → s.Runs .claim (({ d with pair := { d.pair with claim := true } } : Dev).complete .ok)) ∧
     (¬ may → s.Runs .claim (d.complete .denied))) ∧
    (st = 2 → s.Runs .relinquish (({ d with pair := { d.pair with relq := true } } : Dev).complete .ok)) ∧
    (st ≠ 2 → s.Runs .relinquish (d.complete .invalid)) ∧
    (s.dev.crit = true → s.Runs .resume (d.complete .denied)) ∧
    (s.dev.crit = false → st = 3 →
      s.Runs .resume ((({ d with pair := { d.pair with resume := true } } : Dev).setOrphan false).complete .ok)) ∧
    (s.dev.crit = false → st ≠ 3 → s.Runs .resume ((d.setOrphan false).complete .invalid)) ∧
    s.Runs .pairTripClr ((d.put F.PAIR_STAT_PAIR_TRIP 0).complete .ok) ∧
    s.Runs .fault (({ d with pair := { d.pair with crit := putBit d.pair.crit 10 true } } : Dev).complete .ok) ∧
    s.Runs .clear (({ d with pair := { d.pair with crit := Nat.land d.pair.crit s.dev.critHeld } } : Dev).complete .ok)

/-- The state of a unit of a pair changes at a boundary as the rules say, and only a claim gives it a new generation. It rests on R303, R305. -/
def Obligations.PairStateAtBoundary : Prop :=
  ∀ (s : Dev) (n : Nat) (run : Bool),
    let st := s.f F.PAIR_STAT_STATE
    let nxt := (s.pairState n run).f F.PAIR_STAT_STATE
    let gen := (s.pairState n run).f F.PAIR_STAT_GEN
    st ≤ 3 →
    (run = false ∨ s.fi F.PAIR_CTL_EN = 0 → nxt = 0) ∧
    (run = true → s.fi F.PAIR_CTL_EN ≠ 0 →
      (st = 0 → nxt = 1) ∧
      (st = 1 → nxt = if s.crit = false ∧ s.claimOpen = true then 2 else 1) ∧
      (st = 2 → nxt = if s.crit then 3 else if s.pair.depSeen ∨ s.pair.relq ∨ s.pair.fitDue then 1 else 2) ∧
      (st = 3 → nxt = if s.pair.resume = true ∧ s.crit = false then 1 else 3)) ∧
    -- only a claim gives the unit a new generation, higher than its own and the partner's
    (gen ≠ s.f F.PAIR_STAT_GEN → st = 1 ∧ nxt = 2) ∧
    (st = 1 → nxt = 2 → gen = if genHigher 16 (s.f F.PAIR_STAT_GEN) s.pair.pgen then (s.f F.PAIR_STAT_GEN + 1) % 2 ^ 16 else (s.pair.pgen + 1) % 2 ^ 16)
end

