-- ==== Sys2Proof/Laws/Crc.lean ====
section
/-! SUPPORT. A block with its CRC-32 after it passes the check and gives its bytes back. -/

namespace Sys2Proof.Machine

@[simp] theorem bytesOf_length (n v : Nat) : (bytesOf n v).length = n := by
  induction n generalizing v with
  | zero => rfl
  | succ n ih => simp [bytesOf, ih]

@[simp] theorem beBytes_length (n v : Nat) : (beBytes n v).length = n := by simp [beBytes]

@[simp] theorem crcBody_withCrc (l : List Byte) : crcBody (withCrc l) = l := by simp [crcBody, withCrc]

@[simp] theorem crcOk_withCrc (l : List Byte) : crcOk (withCrc l) = true := by simp [crcOk]

/-- The header of a section, its CRC and the slots after it (R206). -/
theorem take_withCrc_append (h t : List Byte) (n : Nat) (hn : h.length = n) : (withCrc h ++ t).take (n + 4) = withCrc h := by
  have : (withCrc h).length = n + 4 := by simp [withCrc, hn]
  rw [List.take_append_of_le_length (by omega), ← this, List.take_length]

end Sys2Proof.Machine
end

