-- ==== Sys2Proof/Laws/Tab.lean ====
section
/-! SUPPORT. Sparse tables and memories: a read after a write, and the canonical form, which every write keeps. -/

namespace Sys2Proof.Machine

variable {α : Type}

@[simp] theorem Tab.find_put_same (t : Tab α) (x : Nat) (v : α) : Tab.find (Tab.put t x v) x = some v := by
  induction t with
  | nil => simp [Tab.put, Tab.find]
  | cons e t ih =>
    simp only [Tab.put]
    split
    · simp [Tab.find]
    · split
      · simp [Tab.find]
      · rename_i h
        simp [Tab.find, Ne.symm h, ih]

theorem Tab.find_put_other (t : Tab α) {x y : Nat} (v : α) (h : y ≠ x) : Tab.find (Tab.put t x v) y = Tab.find t y := by
  induction t with
  | nil => simp [Tab.put, Tab.find, Ne.symm h]
  | cons e t ih =>
    simp only [Tab.put]
    split
    · simp [Tab.find, Ne.symm h]
    · split
      · rename_i h1
        subst h1
        simp [Tab.find, Ne.symm h]
      · simp [Tab.find, ih]

@[simp] theorem Tab.find_erase_same (t : Tab α) (x : Nat) : Tab.find (Tab.erase t x) x = none := by
  induction t with
  | nil => rfl
  | cons e t ih =>
    simp only [Tab.erase]
    split
    · exact ih
    · rename_i h
      simp [Tab.find, h, ih]

theorem Tab.find_erase_other (t : Tab α) {x y : Nat} (h : y ≠ x) : Tab.find (Tab.erase t x) y = Tab.find t y := by
  induction t with
  | nil => rfl
  | cons e t ih =>
    simp only [Tab.erase]
    split
    · rename_i h1
      subst h1
      simp [Tab.find, Ne.symm h, ih]
    · simp [Tab.find, ih]

@[simp] theorem Tab.get_put_same (d : α) (t : Tab α) (x : Nat) (v : α) : Tab.get d (Tab.put t x v) x = v := by simp [Tab.get]

theorem Tab.get_put_other (d : α) (t : Tab α) {x y : Nat} (v : α) (h : y ≠ x) : Tab.get d (Tab.put t x v) y = Tab.get d t y := by
  simp [Tab.get, Tab.find_put_other t v h]

@[simp] theorem Tab.get_set_same [DecidableEq α] (d : α) (t : Tab α) (x : Nat) (v : α) : Tab.get d (Tab.set d t x v) x = v := by
  unfold Tab.set
  split
  · simp_all [Tab.get]
  · simp

theorem Tab.get_set_other [DecidableEq α] (d e : α) (t : Tab α) {x y : Nat} (v : α) (h : y ≠ x) :
    Tab.get e (Tab.set d t x v) y = Tab.get e t y := by
  unfold Tab.set
  split
  · simp [Tab.get, Tab.find_erase_other t h]
  · exact Tab.get_put_other e t v h

/-! ## The canonical form -/

theorem Tab.rises_weaken (t : Tab α) {lo lo' : Nat} (h : lo' ≤ lo) (w : Tab.risesFrom lo t = true) : Tab.risesFrom lo' t = true := by
  cases t with
  | nil => rfl
  | cons e t =>
    simp only [Tab.risesFrom, Bool.and_eq_true, decide_eq_true_eq] at *
    exact ⟨le_trans h w.1, w.2⟩

theorem Tab.rises_put (t : Tab α) (x : Nat) (v : α) {lo : Nat} (hx : lo ≤ x) (w : Tab.risesFrom lo t = true) :
    Tab.risesFrom lo (Tab.put t x v) = true := by
  induction t generalizing lo with
  | nil => simp [Tab.put, Tab.risesFrom, hx]
  | cons e t ih =>
    simp only [Tab.risesFrom, Bool.and_eq_true, decide_eq_true_eq] at w
    simp only [Tab.put]
    split
    · simp only [Tab.risesFrom, Bool.and_eq_true, decide_eq_true_eq]
      exact ⟨hx, by omega, w.2⟩
    · split
      · rename_i h1
        subst h1
        simp [Tab.risesFrom, w]
      · simp only [Tab.risesFrom, Bool.and_eq_true, decide_eq_true_eq]
        exact ⟨w.1, ih (by omega) w.2⟩

theorem Tab.rises_erase (t : Tab α) (x : Nat) {lo : Nat} (w : Tab.risesFrom lo t = true) : Tab.risesFrom lo (Tab.erase t x) = true := by
  induction t generalizing lo with
  | nil => rfl
  | cons e t ih =>
    simp only [Tab.risesFrom, Bool.and_eq_true, decide_eq_true_eq] at w
    simp only [Tab.erase]
    split
    · exact ih (Tab.rises_weaken t (by omega) w.2)
    · simp only [Tab.risesFrom, Bool.and_eq_true, decide_eq_true_eq]
      exact ⟨w.1, ih w.2⟩

theorem Tab.noDefault_put [DecidableEq α] (d : α) (t : Tab α) (x : Nat) (v : α) (hv : v ≠ d) (w : Tab.noDefault d t = true) :
    Tab.noDefault d (Tab.put t x v) = true := by
  induction t with
  | nil => simp [Tab.put, Tab.noDefault, hv]
  | cons e t ih =>
    simp only [Tab.noDefault, Bool.and_eq_true, decide_eq_true_eq] at w
    simp only [Tab.put]
    split
    · simp [Tab.noDefault, hv, w]
    · split
      · simp [Tab.noDefault, hv, w]
      · simp [Tab.noDefault, w, ih]

theorem Tab.noDefault_erase [DecidableEq α] (d : α) (t : Tab α) (x : Nat) (w : Tab.noDefault d t = true) :
    Tab.noDefault d (Tab.erase t x) = true := by
  induction t with
  | nil => rfl
  | cons e t ih =>
    simp only [Tab.noDefault, Bool.and_eq_true, decide_eq_true_eq] at w
    simp only [Tab.erase]
    split
    · exact ih w.2
    · simp [Tab.noDefault, w, ih]

/-- A write keeps the canonical form. -/
theorem Tab.wf_set [DecidableEq α] (d : α) (t : Tab α) (x : Nat) (v : α) (w : Tab.wf d t = true) : Tab.wf d (Tab.set d t x v) = true := by
  simp only [Tab.wf, Bool.and_eq_true] at *
  unfold Tab.set
  split
  · exact ⟨Tab.rises_erase t x w.1, Tab.noDefault_erase d t x w.2⟩
  · rename_i hv
    exact ⟨Tab.rises_put t x v (Nat.zero_le _) w.1, Tab.noDefault_put d t x v hv w.2⟩

/-! ## Memories -/

/-- A read of the byte written. -/
@[simp] theorem Mem.read_write_same (m : Mem) (a : Nat) (b : Byte) : (m.write a b).read a = b := by simp [Mem.read, Mem.write]

/-- A write leaves every other byte. -/
theorem Mem.read_write_other (m : Mem) {a c : Nat} (b : Byte) (h : c ≠ a) : (m.write a b).read c = m.read c := by
  simp [Mem.read, Mem.write, Tab.get_set_other _ _ _ _ h]

theorem Mem.wf_write (m : Mem) (a : Nat) (b : Byte) (w : m.wf = true) : (m.write a b).wf = true := Tab.wf_set _ _ _ _ w

theorem Mem.wf_writeList (m : Mem) (a : Nat) (l : List Byte) (w : m.wf = true) : (m.writeList a l).wf = true := by
  induction l generalizing m a with
  | nil => exact w
  | cons b l ih => exact ih (m.write a b) (a + 1) (Mem.wf_write m a b w)

/-- Every store keeps the canonical form. -/
theorem Mem.wf_store (m : Mem) (a n v : Nat) (w : m.wf = true) : (m.store a n v).wf = true := Mem.wf_writeList m a _ w

theorem Mem.read_writeList_other (m : Mem) (a : Nat) (l : List Byte) {c : Nat} (h : c < a ∨ a + l.length ≤ c) :
    (m.writeList a l).read c = m.read c := by
  induction l generalizing m a with
  | nil => rfl
  | cons b l ih =>
    simp only [Mem.writeList]
    simp only [List.length_cons] at h
    rw [ih (m.write a b) (a + 1) (by omega), Mem.read_write_other m b (by omega)]

/-- A list of bytes written is read back. -/
theorem Mem.readList_writeList (m : Mem) (a : Nat) (l : List Byte) : (m.writeList a l).readList a l.length = l := by
  induction l generalizing m a with
  | nil => rfl
  | cons b l ih =>
    simp only [Mem.writeList, List.length_cons, Mem.readList]
    rw [ih (m.write a b) (a + 1), Mem.read_writeList_other _ _ _ (by omega), Mem.read_write_same]

theorem Mem.readList_writeList_other (m : Mem) (a : Nat) (l : List Byte) (c n : Nat) (h : c + n ≤ a ∨ a + l.length ≤ c) :
    (m.writeList a l).readList c n = m.readList c n := by
  induction n generalizing c with
  | zero => rfl
  | succ n ih =>
    simp only [Mem.readList]
    rw [Mem.read_writeList_other _ _ _ (by omega), ih (c + 1) (by omega)]

@[simp] theorem length_bytesOf (n v : Nat) : (bytesOf n v).length = n := by
  induction n generalizing v with
  | zero => rfl
  | succ n ih => simp [bytesOf, ih]

theorem ofBytes_bytesOf (n v : Nat) : ofBytes (bytesOf n v) = v % 256 ^ n := by
  induction n generalizing v with
  | zero => simp [bytesOf, ofBytes, Nat.mod_one]
  | succ n ih =>
    have h : (256 : Nat) ^ (n + 1) = 256 * 256 ^ n := by rw [Nat.pow_succ, Nat.mul_comm]
    rw [h, Nat.mod_mul]
    simp [bytesOf, ofBytes, ih]

/-- A number stored is loaded again (R7). -/
theorem Mem.load_store (m : Mem) (a n v : Nat) : (m.store a n v).load a n = v % 256 ^ n := by
  have h := Mem.readList_writeList m a (bytesOf n v)
  rw [length_bytesOf] at h
  simp only [Mem.load, Mem.store, h, ofBytes_bytesOf]

/-- A store leaves what lies outside its bytes. -/
theorem Mem.load_store_other (m : Mem) (a n v c k : Nat) (h : c + k ≤ a ∨ a + n ≤ c) : (m.store a n v).load c k = m.load c k := by
  simp only [Mem.load, Mem.store]
  rw [Mem.readList_writeList_other _ _ _ _ _ (by simpa using h)]

end Sys2Proof.Machine
end

