-- ==== Sys2Proof/Laws/State.lean ====
section
/-! SUPPORT. Reading and writing fields of registers: a field written is read, other fields and the other parts of the device stay. -/

namespace Sys2Proof.Machine

variable (s : Dev) (F G : Fld) (bank v n i j : Nat) (b : Blk) (t : Tab Nat)

/-! ## The register file of a block -/

@[simp] theorem Dev.regsOf_setRegs_same : (s.setRegs t b).regsOf b = t := by cases b <;> rfl

theorem Dev.regsOf_setRegs_other {b c : Blk} (h : c ≠ b) : (s.setRegs t b).regsOf c = s.regsOf c := by
  cases b <;> cases c <;> first | rfl | exact absurd rfl h

@[simp] theorem Dev.setRegs_role : (s.setRegs t b).role = s.role := by cases b <;> rfl
@[simp] theorem Dev.setRegs_proto : (s.setRegs t b).proto = s.proto := by cases b <;> rfl
@[simp] theorem Dev.setRegs_out : (s.setRegs t b).out = s.out := by cases b <;> rfl
@[simp] theorem Dev.setRegs_cpl : (s.setRegs t b).cpl = s.cpl := by cases b <;> rfl
@[simp] theorem Dev.setRegs_free : (s.setRegs t b).free = s.free := by cases b <;> rfl

theorem Dev.setRegs_glob (h : b ≠ .global) : (s.setRegs t b).glob = s.glob := by cases b <;> first | rfl | exact absurd rfl h
theorem Dev.setRegs_sec (h : b ≠ .secure) : (s.setRegs t b).sec = s.sec := by cases b <;> first | rfl | exact absurd rfl h
theorem Dev.setRegs_time (h : b ≠ .time) : (s.setRegs t b).time = s.time := by cases b <;> first | rfl | exact absurd rfl h
theorem Dev.setRegs_toll (h : b ≠ .tollgate) : (s.setRegs t b).toll = s.toll := by cases b <;> first | rfl | exact absurd rfl h
theorem Dev.setRegs_hostq (h : b ≠ .hostq) : (s.setRegs t b).hostq = s.hostq := by cases b <;> first | rfl | exact absurd rfl h
theorem Dev.setRegs_loom (h : b ≠ .loom) : (s.setRegs t b).loom = s.loom := by cases b <;> first | rfl | exact absurd rfl h
theorem Dev.setRegs_spin (h : b ≠ .spindle) : (s.setRegs t b).spin = s.spin := by cases b <;> first | rfl | exact absurd rfl h
theorem Dev.setRegs_gate (h : b ≠ .gate) : (s.setRegs t b).gate = s.gate := by cases b <;> first | rfl | exact absurd rfl h
theorem Dev.setRegs_adc (h : b ≠ .adc) : (s.setRegs t b).adc = s.adc := by cases b <;> first | rfl | exact absurd rfl h
theorem Dev.setRegs_ang (h : b ≠ .angle) : (s.setRegs t b).ang = s.ang := by cases b <;> first | rfl | exact absurd rfl h
theorem Dev.setRegs_safe (h : b ≠ .safety) : (s.setRegs t b).safe = s.safe := by cases b <;> first | rfl | exact absurd rfl h
theorem Dev.setRegs_reel (h : b ≠ .reel) : (s.setRegs t b).reel = s.reel := by cases b <;> first | rfl | exact absurd rfl h
theorem Dev.setRegs_eth (h : b ≠ .eth) : (s.setRegs t b).eth = s.eth := by cases b <;> first | rfl | exact absurd rfl h
theorem Dev.setRegs_can (h : b ≠ .can) : (s.setRegs t b).can = s.can := by cases b <;> first | rfl | exact absurd rfl h
theorem Dev.setRegs_pair (h : b ≠ .pair) : (s.setRegs t b).pair = s.pair := by cases b <;> first | rfl | exact absurd rfl h
theorem Dev.setRegs_dbg (h : b ≠ .debug) : (s.setRegs t b).dbg = s.dbg := by cases b <;> first | rfl | exact absurd rfl h
theorem Dev.setRegs_lanes (h : b ≠ .trunk ∧ b ≠ .leaf) : (s.setRegs t b).lanes = s.lanes := by
  cases b <;> first | rfl | exact absurd rfl h.1 | exact absurd rfl h.2

/-! ## Fields -/

@[simp] theorem Dev.fb_putb_same : (s.putb F bank v i j).fb F bank i j = v % 2 ^ F.w := by
  simp [Dev.fb, Dev.putb]

theorem Dev.fb_putb_other {bank' i' j' : Nat} (h : G.blk ≠ F.blk ∨ G.key bank' i' j' ≠ F.key bank i j) :
    (s.putb F bank v i j).fb G bank' i' j' = s.fb G bank' i' j' := by
  simp only [Dev.fb, Dev.putb, Dev.setRegs_role]
  by_cases hb : G.blk = F.blk
  · rw [hb, Dev.regsOf_setRegs_same, Tab.get_set_other _ _ _ _ (h.resolve_left (fun k => k hb))]
  · rw [Dev.regsOf_setRegs_other _ _ hb]

/-- A field of a one-copy register is read as it was written. -/
@[simp] theorem Dev.f_put_same : (s.put F v i j).f F i j = v % 2 ^ F.w := Dev.fb_putb_same s F 0 v i j

theorem Dev.f_put_other {i' j' : Nat} (h : G.blk ≠ F.blk ∨ G.key 0 i' j' ≠ F.key 0 i j) : (s.put F v i j).f G i' j' = s.f G i' j' :=
  Dev.fb_putb_other s F G 0 v i j h

@[simp] theorem Dev.f_raise_same : (s.raise F i j).f F i j = 1 % 2 ^ F.w := Dev.f_put_same s F 1 i j

theorem Dev.f_raise_other {i' j' : Nat} (h : G.blk ≠ F.blk ∨ G.key 0 i' j' ≠ F.key 0 i j) : (s.raise F i j).f G i' j' = s.f G i' j' :=
  Dev.f_put_other s F G 1 i j h

/-- A counter takes what is added to it, up to its end. -/
@[simp] theorem Dev.f_inc_same : (s.inc F n i j).f F i j = satAdd F.w (s.f F i j) n % 2 ^ F.w := Dev.f_put_same s F _ i j

theorem Dev.f_inc_other {i' j' : Nat} (h : G.blk ≠ F.blk ∨ G.key 0 i' j' ≠ F.key 0 i j) : (s.inc F n i j).f G i' j' = s.f G i' j' :=
  Dev.f_put_other s F G _ i j h

/-- Of an event, the registers show what was written; when it fell is noted beside them (R4). -/
@[simp] theorem Dev.befall_regsOf (g : Nat → Nat) : (s.befall F g i j).regsOf b = (s.put F (g (s.f F i j)) i j).regsOf b := by cases b <;> rfl

@[simp] theorem Dev.putb_role : (s.putb F bank v i j).role = s.role := Dev.setRegs_role ..
@[simp] theorem Dev.putb_proto : (s.putb F bank v i j).proto = s.proto := Dev.setRegs_proto ..
@[simp] theorem Dev.putb_out : (s.putb F bank v i j).out = s.out := Dev.setRegs_out ..
@[simp] theorem Dev.putb_cpl : (s.putb F bank v i j).cpl = s.cpl := Dev.setRegs_cpl ..
@[simp] theorem Dev.putb_free : (s.putb F bank v i j).free = s.free := Dev.setRegs_free ..
theorem Dev.putb_glob (h : F.blk ≠ .global) : (s.putb F bank v i j).glob = s.glob := Dev.setRegs_glob _ _ _ h
theorem Dev.putb_sec (h : F.blk ≠ .secure) : (s.putb F bank v i j).sec = s.sec := Dev.setRegs_sec _ _ _ h
theorem Dev.putb_time (h : F.blk ≠ .time) : (s.putb F bank v i j).time = s.time := Dev.setRegs_time _ _ _ h
theorem Dev.putb_toll (h : F.blk ≠ .tollgate) : (s.putb F bank v i j).toll = s.toll := Dev.setRegs_toll _ _ _ h
theorem Dev.putb_hostq (h : F.blk ≠ .hostq) : (s.putb F bank v i j).hostq = s.hostq := Dev.setRegs_hostq _ _ _ h
theorem Dev.putb_loom (h : F.blk ≠ .loom) : (s.putb F bank v i j).loom = s.loom := Dev.setRegs_loom _ _ _ h
theorem Dev.putb_spin (h : F.blk ≠ .spindle) : (s.putb F bank v i j).spin = s.spin := Dev.setRegs_spin _ _ _ h
theorem Dev.putb_gate (h : F.blk ≠ .gate) : (s.putb F bank v i j).gate = s.gate := Dev.setRegs_gate _ _ _ h
theorem Dev.putb_adc (h : F.blk ≠ .adc) : (s.putb F bank v i j).adc = s.adc := Dev.setRegs_adc _ _ _ h
theorem Dev.putb_ang (h : F.blk ≠ .angle) : (s.putb F bank v i j).ang = s.ang := Dev.setRegs_ang _ _ _ h
theorem Dev.putb_safe (h : F.blk ≠ .safety) : (s.putb F bank v i j).safe = s.safe := Dev.setRegs_safe _ _ _ h
theorem Dev.putb_reel (h : F.blk ≠ .reel) : (s.putb F bank v i j).reel = s.reel := Dev.setRegs_reel _ _ _ h
theorem Dev.putb_eth (h : F.blk ≠ .eth) : (s.putb F bank v i j).eth = s.eth := Dev.setRegs_eth _ _ _ h
theorem Dev.putb_can (h : F.blk ≠ .can) : (s.putb F bank v i j).can = s.can := Dev.setRegs_can _ _ _ h
theorem Dev.putb_pair (h : F.blk ≠ .pair) : (s.putb F bank v i j).pair = s.pair := Dev.setRegs_pair _ _ _ h
theorem Dev.putb_dbg (h : F.blk ≠ .debug) : (s.putb F bank v i j).dbg = s.dbg := Dev.setRegs_dbg _ _ _ h
theorem Dev.putb_lanes (h : F.blk ≠ .trunk ∧ F.blk ≠ .leaf) : (s.putb F bank v i j).lanes = s.lanes := Dev.setRegs_lanes _ _ _ h

@[simp] theorem Dev.put_role : (s.put F v i j).role = s.role := Dev.setRegs_role ..
@[simp] theorem Dev.put_proto : (s.put F v i j).proto = s.proto := Dev.setRegs_proto ..
@[simp] theorem Dev.put_out : (s.put F v i j).out = s.out := Dev.setRegs_out ..
@[simp] theorem Dev.put_cpl : (s.put F v i j).cpl = s.cpl := Dev.setRegs_cpl ..
@[simp] theorem Dev.put_free : (s.put F v i j).free = s.free := Dev.setRegs_free ..
theorem Dev.put_glob (h : F.blk ≠ .global) : (s.put F v i j).glob = s.glob := Dev.setRegs_glob _ _ _ h
theorem Dev.put_sec (h : F.blk ≠ .secure) : (s.put F v i j).sec = s.sec := Dev.setRegs_sec _ _ _ h
theorem Dev.put_time (h : F.blk ≠ .time) : (s.put F v i j).time = s.time := Dev.setRegs_time _ _ _ h
theorem Dev.put_toll (h : F.blk ≠ .tollgate) : (s.put F v i j).toll = s.toll := Dev.setRegs_toll _ _ _ h
theorem Dev.put_hostq (h : F.blk ≠ .hostq) : (s.put F v i j).hostq = s.hostq := Dev.setRegs_hostq _ _ _ h
theorem Dev.put_loom (h : F.blk ≠ .loom) : (s.put F v i j).loom = s.loom := Dev.setRegs_loom _ _ _ h
theorem Dev.put_spin (h : F.blk ≠ .spindle) : (s.put F v i j).spin = s.spin := Dev.setRegs_spin _ _ _ h
theorem Dev.put_gate (h : F.blk ≠ .gate) : (s.put F v i j).gate = s.gate := Dev.setRegs_gate _ _ _ h
theorem Dev.put_adc (h : F.blk ≠ .adc) : (s.put F v i j).adc = s.adc := Dev.setRegs_adc _ _ _ h
theorem Dev.put_ang (h : F.blk ≠ .angle) : (s.put F v i j).ang = s.ang := Dev.setRegs_ang _ _ _ h
theorem Dev.put_safe (h : F.blk ≠ .safety) : (s.put F v i j).safe = s.safe := Dev.setRegs_safe _ _ _ h
theorem Dev.put_reel (h : F.blk ≠ .reel) : (s.put F v i j).reel = s.reel := Dev.setRegs_reel _ _ _ h
theorem Dev.put_eth (h : F.blk ≠ .eth) : (s.put F v i j).eth = s.eth := Dev.setRegs_eth _ _ _ h
theorem Dev.put_can (h : F.blk ≠ .can) : (s.put F v i j).can = s.can := Dev.setRegs_can _ _ _ h
theorem Dev.put_pair (h : F.blk ≠ .pair) : (s.put F v i j).pair = s.pair := Dev.setRegs_pair _ _ _ h
theorem Dev.put_dbg (h : F.blk ≠ .debug) : (s.put F v i j).dbg = s.dbg := Dev.setRegs_dbg _ _ _ h
theorem Dev.put_lanes (h : F.blk ≠ .trunk ∧ F.blk ≠ .leaf) : (s.put F v i j).lanes = s.lanes := Dev.setRegs_lanes _ _ _ h

@[simp] theorem Dev.raise_role : (s.raise F i j).role = s.role := Dev.setRegs_role ..
@[simp] theorem Dev.raise_proto : (s.raise F i j).proto = s.proto := Dev.setRegs_proto ..
@[simp] theorem Dev.raise_out : (s.raise F i j).out = s.out := Dev.setRegs_out ..
@[simp] theorem Dev.raise_cpl : (s.raise F i j).cpl = s.cpl := Dev.setRegs_cpl ..
@[simp] theorem Dev.raise_free : (s.raise F i j).free = s.free := Dev.setRegs_free ..
theorem Dev.raise_glob (h : F.blk ≠ .global) : (s.raise F i j).glob = s.glob := Dev.setRegs_glob _ _ _ h
theorem Dev.raise_sec (h : F.blk ≠ .secure) : (s.raise F i j).sec = s.sec := Dev.setRegs_sec _ _ _ h
theorem Dev.raise_time (h : F.blk ≠ .time) : (s.raise F i j).time = s.time := Dev.setRegs_time _ _ _ h
theorem Dev.raise_toll (h : F.blk ≠ .tollgate) : (s.raise F i j).toll = s.toll := Dev.setRegs_toll _ _ _ h
theorem Dev.raise_hostq (h : F.blk ≠ .hostq) : (s.raise F i j).hostq = s.hostq := Dev.setRegs_hostq _ _ _ h
theorem Dev.raise_loom (h : F.blk ≠ .loom) : (s.raise F i j).loom = s.loom := Dev.setRegs_loom _ _ _ h
theorem Dev.raise_spin (h : F.blk ≠ .spindle) : (s.raise F i j).spin = s.spin := Dev.setRegs_spin _ _ _ h
theorem Dev.raise_gate (h : F.blk ≠ .gate) : (s.raise F i j).gate = s.gate := Dev.setRegs_gate _ _ _ h
theorem Dev.raise_adc (h : F.blk ≠ .adc) : (s.raise F i j).adc = s.adc := Dev.setRegs_adc _ _ _ h
theorem Dev.raise_ang (h : F.blk ≠ .angle) : (s.raise F i j).ang = s.ang := Dev.setRegs_ang _ _ _ h
theorem Dev.raise_safe (h : F.blk ≠ .safety) : (s.raise F i j).safe = s.safe := Dev.setRegs_safe _ _ _ h
theorem Dev.raise_reel (h : F.blk ≠ .reel) : (s.raise F i j).reel = s.reel := Dev.setRegs_reel _ _ _ h
theorem Dev.raise_eth (h : F.blk ≠ .eth) : (s.raise F i j).eth = s.eth := Dev.setRegs_eth _ _ _ h
theorem Dev.raise_can (h : F.blk ≠ .can) : (s.raise F i j).can = s.can := Dev.setRegs_can _ _ _ h
theorem Dev.raise_pair (h : F.blk ≠ .pair) : (s.raise F i j).pair = s.pair := Dev.setRegs_pair _ _ _ h
theorem Dev.raise_dbg (h : F.blk ≠ .debug) : (s.raise F i j).dbg = s.dbg := Dev.setRegs_dbg _ _ _ h
theorem Dev.raise_lanes (h : F.blk ≠ .trunk ∧ F.blk ≠ .leaf) : (s.raise F i j).lanes = s.lanes := Dev.setRegs_lanes _ _ _ h

@[simp] theorem Dev.inc_role : (s.inc F n i j).role = s.role := Dev.setRegs_role ..
@[simp] theorem Dev.inc_proto : (s.inc F n i j).proto = s.proto := Dev.setRegs_proto ..
@[simp] theorem Dev.inc_out : (s.inc F n i j).out = s.out := Dev.setRegs_out ..
@[simp] theorem Dev.inc_cpl : (s.inc F n i j).cpl = s.cpl := Dev.setRegs_cpl ..
@[simp] theorem Dev.inc_free : (s.inc F n i j).free = s.free := Dev.setRegs_free ..
theorem Dev.inc_glob (h : F.blk ≠ .global) : (s.inc F n i j).glob = s.glob := Dev.setRegs_glob _ _ _ h
theorem Dev.inc_sec (h : F.blk ≠ .secure) : (s.inc F n i j).sec = s.sec := Dev.setRegs_sec _ _ _ h
theorem Dev.inc_time (h : F.blk ≠ .time) : (s.inc F n i j).time = s.time := Dev.setRegs_time _ _ _ h
theorem Dev.inc_toll (h : F.blk ≠ .tollgate) : (s.inc F n i j).toll = s.toll := Dev.setRegs_toll _ _ _ h
theorem Dev.inc_hostq (h : F.blk ≠ .hostq) : (s.inc F n i j).hostq = s.hostq := Dev.setRegs_hostq _ _ _ h
theorem Dev.inc_loom (h : F.blk ≠ .loom) : (s.inc F n i j).loom = s.loom := Dev.setRegs_loom _ _ _ h
theorem Dev.inc_spin (h : F.blk ≠ .spindle) : (s.inc F n i j).spin = s.spin := Dev.setRegs_spin _ _ _ h
theorem Dev.inc_gate (h : F.blk ≠ .gate) : (s.inc F n i j).gate = s.gate := Dev.setRegs_gate _ _ _ h
theorem Dev.inc_adc (h : F.blk ≠ .adc) : (s.inc F n i j).adc = s.adc := Dev.setRegs_adc _ _ _ h
theorem Dev.inc_ang (h : F.blk ≠ .angle) : (s.inc F n i j).ang = s.ang := Dev.setRegs_ang _ _ _ h
theorem Dev.inc_safe (h : F.blk ≠ .safety) : (s.inc F n i j).safe = s.safe := Dev.setRegs_safe _ _ _ h
theorem Dev.inc_reel (h : F.blk ≠ .reel) : (s.inc F n i j).reel = s.reel := Dev.setRegs_reel _ _ _ h
theorem Dev.inc_eth (h : F.blk ≠ .eth) : (s.inc F n i j).eth = s.eth := Dev.setRegs_eth _ _ _ h
theorem Dev.inc_can (h : F.blk ≠ .can) : (s.inc F n i j).can = s.can := Dev.setRegs_can _ _ _ h
theorem Dev.inc_pair (h : F.blk ≠ .pair) : (s.inc F n i j).pair = s.pair := Dev.setRegs_pair _ _ _ h
theorem Dev.inc_dbg (h : F.blk ≠ .debug) : (s.inc F n i j).dbg = s.dbg := Dev.setRegs_dbg _ _ _ h
theorem Dev.inc_lanes (h : F.blk ≠ .trunk ∧ F.blk ≠ .leaf) : (s.inc F n i j).lanes = s.lanes := Dev.setRegs_lanes _ _ _ h

@[simp] theorem Dev.incW_role : (s.incW F n i j).role = s.role := Dev.setRegs_role ..
@[simp] theorem Dev.incW_proto : (s.incW F n i j).proto = s.proto := Dev.setRegs_proto ..
@[simp] theorem Dev.incW_out : (s.incW F n i j).out = s.out := Dev.setRegs_out ..
@[simp] theorem Dev.incW_cpl : (s.incW F n i j).cpl = s.cpl := Dev.setRegs_cpl ..
@[simp] theorem Dev.incW_free : (s.incW F n i j).free = s.free := Dev.setRegs_free ..
theorem Dev.incW_glob (h : F.blk ≠ .global) : (s.incW F n i j).glob = s.glob := Dev.setRegs_glob _ _ _ h
theorem Dev.incW_sec (h : F.blk ≠ .secure) : (s.incW F n i j).sec = s.sec := Dev.setRegs_sec _ _ _ h
theorem Dev.incW_time (h : F.blk ≠ .time) : (s.incW F n i j).time = s.time := Dev.setRegs_time _ _ _ h
theorem Dev.incW_toll (h : F.blk ≠ .tollgate) : (s.incW F n i j).toll = s.toll := Dev.setRegs_toll _ _ _ h
theorem Dev.incW_hostq (h : F.blk ≠ .hostq) : (s.incW F n i j).hostq = s.hostq := Dev.setRegs_hostq _ _ _ h
theorem Dev.incW_loom (h : F.blk ≠ .loom) : (s.incW F n i j).loom = s.loom := Dev.setRegs_loom _ _ _ h
theorem Dev.incW_spin (h : F.blk ≠ .spindle) : (s.incW F n i j).spin = s.spin := Dev.setRegs_spin _ _ _ h
theorem Dev.incW_gate (h : F.blk ≠ .gate) : (s.incW F n i j).gate = s.gate := Dev.setRegs_gate _ _ _ h
theorem Dev.incW_adc (h : F.blk ≠ .adc) : (s.incW F n i j).adc = s.adc := Dev.setRegs_adc _ _ _ h
theorem Dev.incW_ang (h : F.blk ≠ .angle) : (s.incW F n i j).ang = s.ang := Dev.setRegs_ang _ _ _ h
theorem Dev.incW_safe (h : F.blk ≠ .safety) : (s.incW F n i j).safe = s.safe := Dev.setRegs_safe _ _ _ h
theorem Dev.incW_reel (h : F.blk ≠ .reel) : (s.incW F n i j).reel = s.reel := Dev.setRegs_reel _ _ _ h
theorem Dev.incW_eth (h : F.blk ≠ .eth) : (s.incW F n i j).eth = s.eth := Dev.setRegs_eth _ _ _ h
theorem Dev.incW_can (h : F.blk ≠ .can) : (s.incW F n i j).can = s.can := Dev.setRegs_can _ _ _ h
theorem Dev.incW_pair (h : F.blk ≠ .pair) : (s.incW F n i j).pair = s.pair := Dev.setRegs_pair _ _ _ h
theorem Dev.incW_dbg (h : F.blk ≠ .debug) : (s.incW F n i j).dbg = s.dbg := Dev.setRegs_dbg _ _ _ h
theorem Dev.incW_lanes (h : F.blk ≠ .trunk ∧ F.blk ≠ .leaf) : (s.incW F n i j).lanes = s.lanes := Dev.setRegs_lanes _ _ _ h


/-! ## What a command puts out -/

@[simp] theorem Dev.emit_role (o : Out) : (s.emit o).role = s.role := rfl
@[simp] theorem Dev.emit_proto (o : Out) : (s.emit o).proto = s.proto := rfl
@[simp] theorem Dev.emit_cpl (o : Out) : (s.emit o).cpl = s.cpl := rfl
@[simp] theorem Dev.emit_free (o : Out) : (s.emit o).free = s.free := rfl
@[simp] theorem Dev.emit_lanes (o : Out) : (s.emit o).lanes = s.lanes := rfl
@[simp] theorem Dev.emit_glob (o : Out) : (s.emit o).glob = s.glob := rfl
@[simp] theorem Dev.emit_sec (o : Out) : (s.emit o).sec = s.sec := rfl
@[simp] theorem Dev.emit_time (o : Out) : (s.emit o).time = s.time := rfl
@[simp] theorem Dev.emit_toll (o : Out) : (s.emit o).toll = s.toll := rfl
@[simp] theorem Dev.emit_hostq (o : Out) : (s.emit o).hostq = s.hostq := rfl
@[simp] theorem Dev.emit_loom (o : Out) : (s.emit o).loom = s.loom := rfl
@[simp] theorem Dev.emit_spin (o : Out) : (s.emit o).spin = s.spin := rfl
@[simp] theorem Dev.emit_gate (o : Out) : (s.emit o).gate = s.gate := rfl
@[simp] theorem Dev.emit_adc (o : Out) : (s.emit o).adc = s.adc := rfl
@[simp] theorem Dev.emit_ang (o : Out) : (s.emit o).ang = s.ang := rfl
@[simp] theorem Dev.emit_safe (o : Out) : (s.emit o).safe = s.safe := rfl
@[simp] theorem Dev.emit_reel (o : Out) : (s.emit o).reel = s.reel := rfl
@[simp] theorem Dev.emit_eth (o : Out) : (s.emit o).eth = s.eth := rfl
@[simp] theorem Dev.emit_can (o : Out) : (s.emit o).can = s.can := rfl
@[simp] theorem Dev.emit_pair (o : Out) : (s.emit o).pair = s.pair := rfl
@[simp] theorem Dev.emit_dbg (o : Out) : (s.emit o).dbg = s.dbg := rfl

@[simp] theorem Dev.complete_role (st : Status) (x : Nat) : (s.complete st x).role = s.role := rfl
@[simp] theorem Dev.complete_proto (st : Status) (x : Nat) : (s.complete st x).proto = s.proto := rfl
@[simp] theorem Dev.complete_out (st : Status) (x : Nat) : (s.complete st x).out = s.out := rfl
@[simp] theorem Dev.complete_free (st : Status) (x : Nat) : (s.complete st x).free = s.free := rfl
@[simp] theorem Dev.complete_lanes (st : Status) (x : Nat) : (s.complete st x).lanes = s.lanes := rfl
@[simp] theorem Dev.complete_glob (st : Status) (x : Nat) : (s.complete st x).glob = s.glob := rfl
@[simp] theorem Dev.complete_sec (st : Status) (x : Nat) : (s.complete st x).sec = s.sec := rfl
@[simp] theorem Dev.complete_time (st : Status) (x : Nat) : (s.complete st x).time = s.time := rfl
@[simp] theorem Dev.complete_toll (st : Status) (x : Nat) : (s.complete st x).toll = s.toll := rfl
@[simp] theorem Dev.complete_hostq (st : Status) (x : Nat) : (s.complete st x).hostq = s.hostq := rfl
@[simp] theorem Dev.complete_loom (st : Status) (x : Nat) : (s.complete st x).loom = s.loom := rfl
@[simp] theorem Dev.complete_spin (st : Status) (x : Nat) : (s.complete st x).spin = s.spin := rfl
@[simp] theorem Dev.complete_gate (st : Status) (x : Nat) : (s.complete st x).gate = s.gate := rfl
@[simp] theorem Dev.complete_adc (st : Status) (x : Nat) : (s.complete st x).adc = s.adc := rfl
@[simp] theorem Dev.complete_ang (st : Status) (x : Nat) : (s.complete st x).ang = s.ang := rfl
@[simp] theorem Dev.complete_safe (st : Status) (x : Nat) : (s.complete st x).safe = s.safe := rfl
@[simp] theorem Dev.complete_reel (st : Status) (x : Nat) : (s.complete st x).reel = s.reel := rfl
@[simp] theorem Dev.complete_eth (st : Status) (x : Nat) : (s.complete st x).eth = s.eth := rfl
@[simp] theorem Dev.complete_can (st : Status) (x : Nat) : (s.complete st x).can = s.can := rfl
@[simp] theorem Dev.complete_pair (st : Status) (x : Nat) : (s.complete st x).pair = s.pair := rfl
@[simp] theorem Dev.complete_dbg (st : Status) (x : Nat) : (s.complete st x).dbg = s.dbg := rfl

@[simp] theorem Dev.digEvent_role (k : Nat) : (s.digEvent k).role = s.role := rfl
@[simp] theorem Dev.digEvent_proto (k : Nat) : (s.digEvent k).proto = s.proto := rfl
@[simp] theorem Dev.digEvent_out (k : Nat) : (s.digEvent k).out = s.out := rfl
@[simp] theorem Dev.digEvent_cpl (k : Nat) : (s.digEvent k).cpl = s.cpl := rfl
@[simp] theorem Dev.digEvent_free (k : Nat) : (s.digEvent k).free = s.free := rfl
@[simp] theorem Dev.digEvent_lanes (k : Nat) : (s.digEvent k).lanes = s.lanes := rfl
@[simp] theorem Dev.digEvent_glob (k : Nat) : (s.digEvent k).glob = s.glob := rfl
@[simp] theorem Dev.digEvent_sec (k : Nat) : (s.digEvent k).sec = s.sec := rfl
@[simp] theorem Dev.digEvent_time (k : Nat) : (s.digEvent k).time = s.time := rfl
@[simp] theorem Dev.digEvent_toll (k : Nat) : (s.digEvent k).toll = s.toll := rfl
@[simp] theorem Dev.digEvent_hostq (k : Nat) : (s.digEvent k).hostq = s.hostq := rfl
@[simp] theorem Dev.digEvent_loom (k : Nat) : (s.digEvent k).loom = s.loom := rfl
@[simp] theorem Dev.digEvent_spin (k : Nat) : (s.digEvent k).spin = s.spin := rfl
@[simp] theorem Dev.digEvent_gate (k : Nat) : (s.digEvent k).gate = s.gate := rfl
@[simp] theorem Dev.digEvent_adc (k : Nat) : (s.digEvent k).adc = s.adc := rfl
@[simp] theorem Dev.digEvent_ang (k : Nat) : (s.digEvent k).ang = s.ang := rfl
@[simp] theorem Dev.digEvent_safe (k : Nat) : (s.digEvent k).safe = s.safe := rfl
@[simp] theorem Dev.digEvent_eth (k : Nat) : (s.digEvent k).eth = s.eth := rfl
@[simp] theorem Dev.digEvent_can (k : Nat) : (s.digEvent k).can = s.can := rfl
@[simp] theorem Dev.digEvent_pair (k : Nat) : (s.digEvent k).pair = s.pair := rfl
@[simp] theorem Dev.digEvent_dbg (k : Nat) : (s.digEvent k).dbg = s.dbg := rfl

@[simp] theorem Dev.complete_cpl (st : Status) (x : Nat) : (s.complete st x).cpl = some (st, x) := rfl
@[simp] theorem Dev.emit_out (o : Out) : (s.emit o).out = o :: s.out := rfl
@[simp] theorem Dev.begin_role : s.begin.role = s.role := rfl
@[simp] theorem Dev.begin_proto : s.begin.proto = s.proto := rfl
@[simp] theorem Dev.begin_free : s.begin.free = s.free := rfl
@[simp] theorem Dev.begin_lanes : s.begin.lanes = s.lanes := rfl
@[simp] theorem Dev.begin_glob : s.begin.glob = s.glob := rfl
@[simp] theorem Dev.begin_sec : s.begin.sec = s.sec := rfl
@[simp] theorem Dev.begin_time : s.begin.time = s.time := rfl
@[simp] theorem Dev.begin_toll : s.begin.toll = s.toll := rfl
@[simp] theorem Dev.begin_hostq : s.begin.hostq = s.hostq := rfl
@[simp] theorem Dev.begin_loom : s.begin.loom = s.loom := rfl
@[simp] theorem Dev.begin_spin : s.begin.spin = s.spin := rfl
@[simp] theorem Dev.begin_gate : s.begin.gate = s.gate := rfl
@[simp] theorem Dev.begin_adc : s.begin.adc = s.adc := rfl
@[simp] theorem Dev.begin_ang : s.begin.ang = s.ang := rfl
@[simp] theorem Dev.begin_safe : s.begin.safe = s.safe := rfl
@[simp] theorem Dev.begin_reel : s.begin.reel = s.reel := rfl
@[simp] theorem Dev.begin_eth : s.begin.eth = s.eth := rfl
@[simp] theorem Dev.begin_can : s.begin.can = s.can := rfl
@[simp] theorem Dev.begin_pair : s.begin.pair = s.pair := rfl
@[simp] theorem Dev.begin_dbg : s.begin.dbg = s.dbg := rfl
@[simp] theorem Dev.begin_out : s.begin.out = [] := rfl
@[simp] theorem Dev.begin_cpl : s.begin.cpl = none := rfl

/-! ## Repetition and conditions -/

/-- What every action of a list leaves alone, the whole of them leaves alone. -/
theorem Dev.each_keeps {α β : Type} (p : Dev → β) (l : List α) (g : Dev → α → Dev) (h : ∀ s, ∀ a ∈ l, p (g s a) = p s) (s : Dev) :
    p (s.each l g) = p s := by
  induction l generalizing s with
  | nil => rfl
  | cons a l ih =>
    simp only [Dev.each, List.foldl_cons] at *
    rw [ih (fun s b hb => h s b (List.mem_cons_of_mem a hb)), h s a (List.mem_cons_self ..)]

theorem Dev.iff_keeps {β : Type} (p : Dev → β) (c : Bool) (g : Dev → Dev) (h : c = true → p (g s) = p s) : p (s.iff c g) = p s := by
  unfold Dev.iff
  split
  · exact h ‹_›
  · rfl

@[simp] theorem Dev.iff_true (g : Dev → Dev) : s.iff true g = g s := rfl
@[simp] theorem Dev.iff_false (g : Dev → Dev) : s.iff false g = s := rfl

end Sys2Proof.Machine
end

