-- ==== Sys2Proof/Laws/Settle.lean ====
section
/-! SUPPORT. What settling leaves alone: of most blocks everything, of TIME and GATE everything where no lane moved. -/

namespace Sys2Proof.Machine

/-- The parts of the device that settling never touches. -/
abbrev Dev.Inert := Role × Sec × Toll × Loom × Spin × Adc × Ang × Safe × Eth × Can × Dbg
def Dev.inert (s : Dev) : Dev.Inert :=
  (s.role, s.sec, s.toll, s.loom, s.spin, s.adc, s.ang, s.safe, s.eth, s.can, s.dbg)

/-- The parts that settling touches only where a lane has moved. -/
def Dev.calm (s : Dev) : Dev.Inert × Time × Gate := (s.inert, s.time, s.gate)

theorem Dev.calm_inert {s t : Dev} (h : t.calm = s.calm) : t.inert = s.inert := congrArg Prod.fst h

/-! ## The steps of settling that never touch them -/

/-- A write of a register of these blocks. -/
theorem Dev.put_calm (s : Dev) (G : Fld) (v i j : Nat)
    (h : G.blk = .global ∨ G.blk = .hostq ∨ G.blk = .trunk ∨ G.blk = .leaf ∨ G.blk = .reel ∨ G.blk = .pair) :
    (s.put G v i j).calm = s.calm := by
  obtain ⟨b, o, s1, s2, lo, w, c, a, r, rK, rC⟩ := G
  simp only at h
  rcases h with rfl | rfl | rfl | rfl | rfl | rfl <;> rfl

theorem Dev.withEvents_calm (s : Dev) (e : Events) : ({ s with events := e } : Dev).calm = s.calm := rfl

theorem Dev.befall_calm (s : Dev) (G : Fld) (g : Nat → Nat) (i j : Nat)
    (h : G.blk = .global ∨ G.blk = .hostq ∨ G.blk = .trunk ∨ G.blk = .leaf ∨ G.blk = .reel ∨ G.blk = .pair) :
    (s.befall G g i j).calm = s.calm := (Dev.withEvents_calm (s.put G (g (s.f G i j)) i j) _).trans (Dev.put_calm _ _ _ _ _ h)

theorem Dev.inc_calm (s : Dev) (G : Fld) (n i j : Nat)
    (h : G.blk = .global ∨ G.blk = .hostq ∨ G.blk = .trunk ∨ G.blk = .leaf ∨ G.blk = .reel ∨ G.blk = .pair) :
    (s.inc G n i j).calm = s.calm := Dev.befall_calm s G _ i j h

theorem Dev.raise_calm (s : Dev) (G : Fld) (i j : Nat)
    (h : G.blk = .global ∨ G.blk = .hostq ∨ G.blk = .trunk ∨ G.blk = .leaf ∨ G.blk = .reel ∨ G.blk = .pair) :
    (s.raise G i j).calm = s.calm := Dev.befall_calm s G _ i j h

@[simp] theorem Dev.digEvent_calm (s : Dev) (k : Nat) : (s.digEvent k).calm = s.calm := rfl
@[simp] theorem Dev.setReelInst_calm (s : Dev) (i : Nat) (x : ReelInst) : (s.setReelInst i x).calm = s.calm := rfl
@[simp] theorem Dev.setReelTrg_calm (s : Dev) (i k : Nat) (x : ReelTrg) : (s.setReelTrg i k x).calm = s.calm := rfl
@[simp] theorem Dev.setReelCh_calm (s : Dev) (k : Nat) (x : ReelCh) : (s.setReelCh k x).calm = s.calm := rfl
theorem Dev.withReel_calm (s : Dev) (x : Reel) : ({ s with reel := x } : Dev).calm = s.calm := rfl

@[simp] theorem Dev.setSq_calm (s : Dev) (r : Nat) (q : Sq) : (s.setSq r q).calm = s.calm := rfl
@[simp] theorem Dev.setCq_calm (s : Dev) (r : Nat) (q : Cq) : (s.setCq r q).calm = s.calm := rfl
@[simp] theorem Dev.setDesc_calm (s : Dev) (r : Nat) (d : Desc) : (s.setDesc r d).calm = s.calm := rfl
@[simp] theorem Dev.complete_calm (s : Dev) (st : Status) (x : Nat) : (s.complete st x).calm = s.calm := rfl
@[simp] theorem Dev.emit_calm (s : Dev) (o : Out) : (s.emit o).calm = s.calm := rfl

@[simp] theorem Dev.sqDrainN_calm (n : Nat) (s : Dev) (r : Nat) : (Dev.sqDrainN n s r).calm = s.calm := by
  induction n generalizing s with
  | zero => rfl
  | succ n ih =>
    unfold Dev.sqDrainN
    split
    · rfl
    · split
      · rfl
      · simp only [ih, Dev.setCq_calm, Dev.setSq_calm]

@[simp] theorem Dev.finish_calm (s : Dev) (r : Nat) (d : Desc) (st : Status) (ep : Nat) (l : List Byte) :
    (s.finish r d st ep l).calm = s.calm := by simp [Dev.finish, Dev.sqDrain]

@[simp] theorem Dev.finishAt_calm (s : Dev) (r i : Nat) (st : Status) (ep : Nat) (l : List Byte) :
    (s.finishAt r i st ep l).calm = s.calm := by unfold Dev.finishAt; split <;> simp

@[simp] theorem Dev.rrComplete_calm (s : Dev) (q : RrReq) (st : Status) (ep x : Nat) : (s.rrComplete q st ep x).calm = s.calm := by
  unfold Dev.rrComplete
  split
  · split <;> simp
  · dsimp only
    split <;> rfl

/-- Requests of TRUNK or LEAF that were retired. -/
theorem Dev.retired_calm (s : Dev) (b : Blk) (n : Nat) (h : b = .trunk ∨ b = .leaf) : (s.retired b n).calm = s.calm :=
  Dev.inc_calm _ _ _ _ _ (h.elim (fun h => .inr (.inr (.inl h))) (fun h => .inr (.inr (.inr (.inl h)))))

@[simp] theorem Dev.rrGone_calm (s : Dev) (q : RrReq) : (s.rrGone q).calm = s.calm := by
  unfold Dev.rrGone
  rw [Dev.rrComplete_calm]
  split
  · exact Dev.retired_calm _ _ _ (.inr rfl)
  · exact Dev.retired_calm _ _ _ (.inl rfl)

@[simp] theorem Dev.rrRetire_calm (s0 s : Dev) : (Dev.rrRetire s0 s).calm = s.calm :=
  Dev.each_keeps _ _ _ (fun s q _ => by rw [Dev.rrGone_calm]; rfl) s

@[simp] theorem Dev.queueReply_calm (s : Dev) (L : Nat) (p : List Byte) (a : Nat) : (s.queueReply L p a).calm = s.calm := by
  unfold Dev.queueReply; split <;> rfl

@[simp] theorem Dev.fwdRetire_calm (s : Dev) : s.fwdRetire.calm = s.calm := by
  unfold Dev.fwdRetire
  exact Dev.each_keeps _ _ _ (fun s x _ => (Dev.queueReply_calm ..).trans (Dev.retired_calm _ _ _ (.inr rfl))) _

@[simp] theorem Dev.send_calm (s : Dev) (L k : Nat) (d : List Byte) : (s.send L k d).calm = s.calm := by
  unfold Dev.send; split <;> rfl

@[simp] theorem Dev.mapSend_calm (s : Dev) : s.mapSend.calm = s.calm := by
  have hj : ∀ d, (Dev.mapJudge { s with pair := { s.pair with mapOwn := some d } }).calm = s.calm := fun d => by
    unfold Dev.mapJudge
    split
    · exact (Dev.iff_keeps (p := Dev.calm) _ _ _ (fun _ => Dev.raise_calm _ _ _ _ (by decide))).trans rfl
    · rfl
  unfold Dev.mapSend Dev.pxSend
  dsimp only
  split
  · rw [Dev.send_calm, hj]
  · rw [hj]

@[simp] theorem Dev.xlinkSync_calm (s : Dev) : s.xlinkSync.calm = s.calm := by
  unfold Dev.xlinkSync
  split
  · rfl
  · dsimp only
    split
    · rw [Dev.inc_calm _ _ _ _ _ (by decide), Dev.raise_calm _ _ _ _ (by decide), Dev.put_calm _ _ _ _ _ (by decide)]
    · split
      · rw [Dev.mapSend_calm, Dev.raise_calm _ _ _ _ (by decide)]
      · rfl

theorem Dev.iff_calm (s : Dev) (c : Bool) (g : Dev → Dev) (h : (g s).calm = s.calm) : (s.iff c g).calm = s.calm :=
  Dev.iff_keeps (p := Dev.calm) s c g (fun _ => h)

@[simp] theorem Dev.rbEmit_calm (s : Dev) (l : List Nat) : (s.rbEmit l).calm = s.calm := by
  unfold Dev.rbEmit
  split
  · rfl
  · dsimp only
    rw [Dev.iff_calm _ _ _ (by rw [Dev.inc_calm _ _ _ _ _ (by decide), Dev.raise_calm _ _ _ _ (by decide)]),
      Dev.iff_calm _ _ _ (by rw [Dev.inc_calm _ _ _ _ _ (by decide), Dev.raise_calm _ _ _ _ (by decide)]), Dev.digEvent_calm]
    exact Dev.each_keeps (p := Dev.calm) _ _ (fun s x _ => Dev.emit_calm ..) s

theorem Dev.ite_calm (c : Prop) [Decidable c] (s t u : Dev) (ht : t.calm = s.calm) (hu : u.calm = s.calm) :
    (if c then t else u).calm = s.calm := by split <;> assumption

@[simp] theorem Dev.rbBurst_calm (s : Dev) (own : Bool) : (s.rbBurst own).calm = s.calm := Dev.rbEmit_calm ..

@[simp] theorem Dev.rbSync_calm (s0 s : Dev) : (Dev.rbSync s0 s).calm = s.calm := by
  unfold Dev.rbSync
  split
  · rfl
  · dsimp only
    refine Dev.ite_calm _ _ _ _ ?_ ?_
    · exact Dev.ite_calm _ _ _ _ (Dev.rbBurst_calm ..) (Dev.ite_calm _ _ _ _ (Dev.rbBurst_calm ..) rfl)
    · rw [Dev.put_calm _ _ _ _ _ (by decide), Dev.put_calm _ _ _ _ _ (by decide)]
      exact Dev.ite_calm _ _ _ _ (Dev.rbBurst_calm ..) (Dev.ite_calm _ _ _ _ (Dev.rbBurst_calm ..) rfl)

@[simp] theorem Dev.pairSync_calm (s : Dev) : s.pairSync.calm = s.calm := by unfold Dev.pairSync; split <;> rfl

@[simp] theorem Dev.swapDone_calm (s : Dev) (st : Status) : (s.swapDone st).calm = s.calm := by
  unfold Dev.swapDone
  split
  · rfl
  · dsimp only
    split
    · rw [Dev.finishAt_calm]; split <;> rfl
    · rw [Dev.emit_calm]; split <;> rfl

@[simp] theorem Dev.swapSettle_calm (s : Dev) : s.swapSettle.calm = s.calm := by
  unfold Dev.swapSettle
  split
  · rfl
  · dsimp only
    split <;> simp

@[simp] theorem Dev.fireUnit_calm (s : Dev) (i t u : Nat) : (s.fireUnit i t u).calm = s.calm := by
  unfold Dev.fireUnit
  dsimp only
  split
  · rfl
  · split
    · unfold Dev.missTrigger
      show Dev.calm ((s.iff _ _).inc _ _ _) = _
      rw [show ∀ (t : Dev) (i : Nat), (t.inc F.REEL_INST_MISS_MISSED 1 i).calm = t.calm from fun _ _ => rfl]
      exact Dev.iff_keeps (p := Dev.calm) s _ _ (fun _ => rfl)
    · rfl

@[simp] theorem Dev.fireAll_calm (s : Dev) (i t u : Nat) : (s.fireAll i t u).calm = s.calm := by
  unfold Dev.fireAll
  dsimp only
  rw [Dev.each_keeps (p := Dev.calm) _ _ (fun s p _ => Dev.iff_keeps (p := Dev.calm) s _ _ (fun _ => Dev.fireUnit_calm ..))]
  simp

@[simp] theorem Dev.evalUnit_calm (s : Dev) (i t now : Nat) (v : Int) : (s.evalUnit i t now v).calm = s.calm := by
  unfold Dev.evalUnit
  extract_lets
  split
  · exact Dev.ite_calm _ _ _ _ ((Dev.fireAll_calm ..).trans (Dev.setReelTrg_calm ..)) (Dev.setReelTrg_calm ..)
  · exact Dev.setReelTrg_calm ..

@[simp] theorem Dev.reelUpdate_calm (s : Dev) (kind sel v : Nat) : (s.reelUpdate kind sel v).calm = s.calm := by
  unfold Dev.reelUpdate
  split
  · rfl
  · extract_lets a now ks t s0 s1
    have h1 : s1.calm = s.calm := Dev.each_keeps (p := Dev.calm) _ _ (fun s k _ => by
      extract_lets
      exact Dev.ite_calm _ _ _ _ rfl (Dev.setReelCh_calm ..)) s0
    refine (Dev.each_keeps (p := Dev.calm) _ _ (fun s p _ => ?_) s1).trans h1
    extract_lets
    refine Dev.ite_calm _ _ _ _ ?_ rfl
    split
    · exact Dev.evalUnit_calm ..
    · exact Dev.setReelTrg_calm ..

@[simp] theorem Dev.reelDig_calm (s : Dev) : s.reelDig.calm = s.calm := by
  unfold Dev.reelDig
  split
  · rfl
  · extract_lets w old src s1
    have h1 : s1.calm = s.calm := Dev.withReel_calm ..
    refine Dev.ite_calm _ _ _ _ h1 ?_
    extract_lets
    refine (Dev.each_keeps (p := Dev.calm) _ _ (fun s p _ => ?_) _).trans ((Dev.reelUpdate_calm ..).trans h1)
    extract_lets
    exact Dev.iff_keeps (p := Dev.calm) s _ _ (fun _ => Dev.fireAll_calm ..)

/-! ## Lanes -/

theorem laneFld_trunk_leaf (g : Fld) (L : Nat) (h : g.blk = .trunk) : (laneFld g L).blk = .trunk ∨ (laneFld g L).blk = .leaf := by
  unfold laneFld
  split
  · exact .inl h
  · exact .inr rfl

/-- A write of a lane's register reaches the lanes only. -/
theorem Dev.putLn_calm (s : Dev) (g : Fld) (L v : Nat) (h : g.blk = .trunk) : (s.putLn g L v).calm = s.calm :=
  
  Dev.put_calm _ _ _ _ _ ((laneFld_trunk_leaf g L h).elim (fun h => .inr (.inr (.inl h))) (fun h => .inr (.inr (.inr (.inl h)))))

theorem Dev.raiseLn_calm (s : Dev) (g : Fld) (L : Nat) (h : g.blk = .trunk) : (s.raiseLn g L).calm = s.calm :=
  Dev.raise_calm _ _ _ _ ((laneFld_trunk_leaf g L h).elim (fun h => .inr (.inr (.inl h))) (fun h => .inr (.inr (.inr (.inl h)))))

theorem Dev.incLn_calm (s : Dev) (g : Fld) (L n : Nat) (h : g.blk = .trunk) : (s.incLn g L n).calm = s.calm :=
  Dev.inc_calm _ _ _ _ _ ((laneFld_trunk_leaf g L h).elim (fun h => .inr (.inr (.inl h))) (fun h => .inr (.inr (.inr (.inl h)))))

@[simp] theorem Dev.forgetPeer_calm (s : Dev) (L : Nat) : (s.forgetPeer L).calm = s.calm := rfl

theorem Dev.toDetect_calm (s : Dev) (L : Nat) (idle : Bool) : (s.toDetect L idle).calm = s.calm := by
  have hl : ∀ (s : Dev) x, (s.setLane L x).calm = s.calm := fun _ _ => rfl
  have hr : (s.leaveRun L).calm = s.calm := by
    unfold Dev.leaveRun
    split
    · rfl
    · dsimp only
      rw [Dev.putLn_calm _ _ _ _ rfl, Dev.putLn_calm _ _ _ _ rfl, Dev.incLn_calm _ _ _ _ rfl, Dev.putLn_calm _ _ _ _ rfl,
        Dev.putLn_calm _ _ _ _ rfl]
  unfold Dev.toDetect Dev.attempt
  rw [Dev.putLn_calm _ _ _ _ rfl, hl, Dev.putLn_calm _ _ _ _ rfl, Dev.putLn_calm _ _ _ _ rfl, hr]

theorem Dev.laneGone_calm (s : Dev) (L : Nat) : (s.laneGone L).calm = s.calm := by
  unfold Dev.laneGone
  extract_lets carried a b c d
  have hb : b.calm = s.calm := Dev.iff_calm _ _ _ (Dev.putLn_calm _ _ _ _ rfl)
  have hc : c.calm = s.calm := by
    show Dev.calm (match b.bondedMate L with | some m => _ | none => _) = _
    split
    · exact (Dev.iff_calm _ _ _ (by rw [Dev.forgetPeer_calm, Dev.putLn_calm _ _ _ _ rfl, Dev.toDetect_calm])).trans hb
    · exact hb
  have hd : d.calm = s.calm := by
    show Dev.calm (match c.spareMate L with | some m => _ | none => _) = _
    split
    · exact (Dev.iff_calm _ _ _ (by rw [Dev.raiseLn_calm _ _ _ rfl, Dev.putLn_calm _ _ _ _ rfl, Dev.putLn_calm _ _ _ _ rfl])).trans hc
    · exact hc
  exact (Dev.iff_calm _ _ _ (Dev.raise_calm _ _ _ _ (by decide))).trans hd

@[simp] theorem Dev.allowCheck_calm (s : Dev) : s.allowCheck.calm = s.calm := Dev.iff_keeps (p := Dev.calm) _ _ _ (fun _ => rfl)

@[simp] theorem Dev.dmaxUpdate_calm (s : Dev) : s.dmaxUpdate.calm = s.calm := by
  unfold Dev.dmaxUpdate
  split
  · rfl
  · dsimp only
    split
    · rfl
    · rw [Dev.allowCheck_calm]; rfl

theorem Dev.noSource_inert (s : Dev) : s.noSource.inert = s.inert := by
  unfold Dev.noSource
  split
  · exact Dev.iff_keeps (p := Dev.inert) _ _ _ (fun _ => rfl)
  · rfl

theorem Dev.timeLane_inert (s : Dev) : s.timeLane.inert = s.inert := by
  unfold Dev.timeLane
  dsimp only
  exact Dev.iff_keeps (p := Dev.inert) _ _ _ (fun _ => Dev.noSource_inert _)

theorem Dev.sourceGone_inert (s0 s : Dev) : (Dev.sourceGone s0 s).inert = s.inert := by
  unfold Dev.sourceGone
  split
  · rw [Dev.iff_keeps (p := Dev.inert) _ _ _ (fun _ => rfl), Dev.timeLane_inert]
  · exact Dev.iff_keeps (p := Dev.inert) _ _ _ (fun _ => (Dev.noSource_inert s))
  · rfl

theorem Dev.laneSync_inert (s0 s : Dev) : (Dev.laneSync s0 s).inert = s.inert := by
  unfold Dev.laneSync
  dsimp only
  rw [Dev.iff_keeps (p := Dev.inert) _ _ _ (fun _ => Dev.calm_inert (Dev.dmaxUpdate_calm _)),
    Dev.iff_keeps (p := Dev.inert) _ _ _ (fun _ => Dev.timeLane_inert _),
    Dev.iff_keeps (p := Dev.inert) _ _ _ (fun _ => Dev.sourceGone_inert _ _)]
  exact Dev.each_keeps (p := Dev.inert) _ _ (fun s L _ => Dev.calm_inert (Dev.laneGone_calm s L)) s

/-- With every lane as it was, nothing follows from lanes. -/
theorem Dev.laneSync_same (s0 s : Dev) (hr : s.role = s0.role) (hl : s.lanes = s0.lanes) : Dev.laneSync s0 s = s := by
  have hin : ∀ L, s.inRun L = s0.inRun L := by
    intro L
    simp only [Dev.inRun, Dev.hasLane, Dev.lState, Dev.ln, Dev.f, Dev.fb, hr]
    rcases laneFld_trunk_leaf F.LANE_LANE_STAT_STATE L rfl with h | h <;> simp [h, Dev.regsOf, hl]
  have hd : ∀ L, s.ln F.LANE_LANE_DELAY_DELAY L = s0.ln F.LANE_LANE_DELAY_DELAY L := by
    intro L
    simp only [Dev.ln, Dev.f, Dev.fb, hr]
    rcases laneFld_trunk_leaf F.LANE_LANE_DELAY_DELAY L rfl with h | h <;> simp [h, Dev.regsOf, hl]
  have hx : ∀ L, s.lane L = s0.lane L := fun L => by rw [Dev.lane, Dev.lane, hl]
  have h1 : Dev.lanesDown s0 s = [] := by simp [Dev.lanesDown, hin]
  have h2 : Dev.lanesUp s0 s = [] := by simp [Dev.lanesUp, hin]
  unfold Dev.laneSync
  simp [h1, h2, hd, hx, Dev.each, Dev.iff]

/-! ## The /TRN/ and the upstream superframes -/

@[simp] theorem Dev.trnSync_calm (s0 s : Dev) : (Dev.trnSync s0 s).calm = s.calm := by
  unfold Dev.trnSync
  split
  · rfl
  · refine Dev.each_keeps (p := Dev.calm) _ _ (fun s L _ => ?_) s
    split
    · exact Dev.ite_calm _ _ _ _ rfl (Dev.emit_calm ..)
    · exact Dev.ite_calm _ _ _ _ (Dev.emit_calm ..) rfl

/-- What a fold that gathers parts and carries the device leaves alone. -/
theorem Dev.gather_keeps {α β γ : Type} (p : Dev → γ) (g : List β × Dev → α → List β × Dev) (h : ∀ x a, p (g x a).2 = p x.2)
    (l : List α) (x : List β × Dev) : p (l.foldl g x).2 = p x.2 := by
  induction l generalizing x with
  | nil => rfl
  | cons a l ih => rw [List.foldl_cons, ih, h]

@[simp] theorem Dev.takeReplies_calm (s : Dev) (L t k : Nat) : (s.takeReplies L t k).2.calm = s.calm := rfl

@[simp] theorem Dev.sendReplies_calm (s : Dev) (L t k : Nat) : (s.sendReplies L t k).calm = s.calm :=
  Dev.ite_calm _ _ _ _ rfl (by rw [Dev.send_calm, Dev.takeReplies_calm])

theorem Dev.upStart_calm (s : Dev) (f : UpFrame) : (s.upStart f).2.calm = s.calm := by
  unfold Dev.upStart
  extract_lets lanes info np sof r
  refine (show r.2.calm = _ from ?_)
  refine Dev.gather_keeps Dev.calm _ ?_ _ ([], s)
  intro x a
  rfl

theorem Dev.upSend_calm (s : Dev) (t0 : Nat) (p : UpPart) : (s.upSend t0 p).calm = s.calm := by
  unfold Dev.upSend
  extract_lets r
  rw [Dev.sendReplies_calm, Dev.send_calm]
  refine Dev.gather_keeps Dev.calm _ ?_ _ ([], s)
  intro x i
  split
  · rfl
  · exact Dev.inc_calm _ _ _ _ _ (by decide)

@[simp] theorem Dev.upGo_calm (s : Dev) : s.upGo.calm = s.calm := by
  unfold Dev.upGo
  refine Dev.ite_calm _ _ _ _ rfl ((Dev.each_keeps (p := Dev.calm) _ _ (fun s f _ => ?_) _).trans rfl)
  have hs : ∀ (u : Dev) l, (u.each l fun s p => s.upSend f.t0 p).calm = u.calm :=
    fun u l => Dev.each_keeps (p := Dev.calm) _ _ (fun s p _ => Dev.upSend_calm ..) u
  have hr : ∀ r : Option (List UpPart) × Dev, r.2.calm = s.calm →
      (match r with
        | (none, s) => { s with proto := { s.proto with up := s.proto.up ++ [f] } }
        | (some l, s) =>
          let done := fun (p : UpPart) => decide (f.t0 * 10 + s.upEnd p ≤ s.now * 10)
          let t := s.each (l.filter done) fun s p => s.upSend f.t0 p
          let left := l.filter fun p => !done p
          if left = [] then t else { t with proto := { t.proto with up := t.proto.up ++ [{ f with parts := some left }] } }).calm =
        s.calm := fun r h => by
    obtain ⟨_ | l, u⟩ := r
    · exact h
    · exact Dev.ite_calm _ _ _ _ ((hs _ _).trans h) ((hs _ _).trans h)
  refine hr _ ?_
  split
  · rfl
  · split
    · exact Dev.upStart_calm ..
    · rfl

/-! ## Settling -/

theorem Dev.withCpl_inert (s : Dev) (c : Option (Status × Nat)) : (s.withCpl c).inert = s.inert := rfl
theorem Dev.withCpl_calm (s : Dev) (c : Option (Status × Nat)) : (s.withCpl c).calm = s.calm := rfl
theorem Dev.withCpl_cpl (s : Dev) (c : Option (Status × Nat)) : (s.withCpl c).cpl = c := rfl

theorem Dev.aftermath_calm (s0 s : Dev) : (Dev.aftermath s0 s).calm = (Dev.laneSync s0 s).calm := by
  unfold Dev.aftermath
  extract_lets a b c d
  have hb : b.calm = (Dev.laneSync s0 s).calm :=
    Dev.ite_calm _ _ _ _ ((Dev.fwdRetire_calm _).trans (Dev.rrRetire_calm ..)) (Dev.rrRetire_calm ..)
  have hd : d.calm = (Dev.laneSync s0 s).calm := by
    rw [← hb, show d = Dev.trnSync s0 c.pairSync.swapSettle.reelDig from rfl, Dev.trnSync_calm, Dev.reelDig_calm, Dev.swapSettle_calm,
      Dev.pairSync_calm, show c = Dev.rbSync s0 b.xlinkSync from rfl, Dev.rbSync_calm, Dev.xlinkSync_calm]
  exact Dev.ite_calm _ _ _ _ hd ((Dev.upGo_calm d).trans hd)

/-- Settling leaves these parts alone, whatever the command did. -/
theorem Dev.settle_inert (s0 s : Dev) : (Dev.settle s0 s).inert = s.inert := by
  rw [Dev.settle, Dev.withCpl_inert, Dev.calm_inert (Dev.aftermath_calm s0 s), Dev.laneSync_inert]

/-- Where the command left the lanes alone, settling leaves TIME and GATE alone. -/
theorem Dev.settle_calm (s0 s : Dev) (hr : s.role = s0.role) (hl : s.lanes = s0.lanes) : (Dev.settle s0 s).calm = s.calm := by
  rw [Dev.settle, Dev.withCpl_calm, Dev.aftermath_calm, Dev.laneSync_same s0 s hr hl]

@[simp] theorem Dev.settle_cpl (s0 s : Dev) : (Dev.settle s0 s).cpl = s.cpl := by rw [Dev.settle, Dev.withCpl_cpl]
theorem Dev.role_of_inert {s t : Dev} (h : t.inert = s.inert) : t.role = s.role := congrArg (fun p : Dev.Inert => p.1) h
theorem Dev.sec_of_inert {s t : Dev} (h : t.inert = s.inert) : t.sec = s.sec := congrArg (fun p : Dev.Inert => p.2.1) h
theorem Dev.toll_of_inert {s t : Dev} (h : t.inert = s.inert) : t.toll = s.toll := congrArg (fun p : Dev.Inert => p.2.2.1) h
theorem Dev.loom_of_inert {s t : Dev} (h : t.inert = s.inert) : t.loom = s.loom := congrArg (fun p : Dev.Inert => p.2.2.2.1) h
theorem Dev.spin_of_inert {s t : Dev} (h : t.inert = s.inert) : t.spin = s.spin := congrArg (fun p : Dev.Inert => p.2.2.2.2.1) h
theorem Dev.adc_of_inert {s t : Dev} (h : t.inert = s.inert) : t.adc = s.adc := congrArg (fun p : Dev.Inert => p.2.2.2.2.2.1) h
theorem Dev.ang_of_inert {s t : Dev} (h : t.inert = s.inert) : t.ang = s.ang := congrArg (fun p : Dev.Inert => p.2.2.2.2.2.2.1) h
theorem Dev.safe_of_inert {s t : Dev} (h : t.inert = s.inert) : t.safe = s.safe := congrArg (fun p : Dev.Inert => p.2.2.2.2.2.2.2.1) h
theorem Dev.eth_of_inert {s t : Dev} (h : t.inert = s.inert) : t.eth = s.eth := congrArg (fun p : Dev.Inert => p.2.2.2.2.2.2.2.2.1) h
theorem Dev.can_of_inert {s t : Dev} (h : t.inert = s.inert) : t.can = s.can := congrArg (fun p : Dev.Inert => p.2.2.2.2.2.2.2.2.2.1) h
theorem Dev.dbg_of_inert {s t : Dev} (h : t.inert = s.inert) : t.dbg = s.dbg := congrArg (fun p : Dev.Inert => p.2.2.2.2.2.2.2.2.2.2) h
theorem Dev.time_of_calm {s t : Dev} (h : t.calm = s.calm) : t.time = s.time := congrArg (fun p : Dev.Inert × Time × Gate => p.2.1) h
theorem Dev.gate_of_calm {s t : Dev} (h : t.calm = s.calm) : t.gate = s.gate := congrArg (fun p : Dev.Inert × Time × Gate => p.2.2) h

@[simp] theorem Dev.settle_role (s0 s : Dev) : (Dev.settle s0 s).role = s.role := Dev.role_of_inert (Dev.settle_inert s0 s)
@[simp] theorem Dev.settle_sec (s0 s : Dev) : (Dev.settle s0 s).sec = s.sec := Dev.sec_of_inert (Dev.settle_inert s0 s)
@[simp] theorem Dev.settle_toll (s0 s : Dev) : (Dev.settle s0 s).toll = s.toll := Dev.toll_of_inert (Dev.settle_inert s0 s)
@[simp] theorem Dev.settle_loom (s0 s : Dev) : (Dev.settle s0 s).loom = s.loom := Dev.loom_of_inert (Dev.settle_inert s0 s)
@[simp] theorem Dev.settle_spin (s0 s : Dev) : (Dev.settle s0 s).spin = s.spin := Dev.spin_of_inert (Dev.settle_inert s0 s)
@[simp] theorem Dev.settle_adc (s0 s : Dev) : (Dev.settle s0 s).adc = s.adc := Dev.adc_of_inert (Dev.settle_inert s0 s)
@[simp] theorem Dev.settle_ang (s0 s : Dev) : (Dev.settle s0 s).ang = s.ang := Dev.ang_of_inert (Dev.settle_inert s0 s)
@[simp] theorem Dev.settle_safe (s0 s : Dev) : (Dev.settle s0 s).safe = s.safe := Dev.safe_of_inert (Dev.settle_inert s0 s)
@[simp] theorem Dev.settle_eth (s0 s : Dev) : (Dev.settle s0 s).eth = s.eth := Dev.eth_of_inert (Dev.settle_inert s0 s)
@[simp] theorem Dev.settle_can (s0 s : Dev) : (Dev.settle s0 s).can = s.can := Dev.can_of_inert (Dev.settle_inert s0 s)
@[simp] theorem Dev.settle_dbg (s0 s : Dev) : (Dev.settle s0 s).dbg = s.dbg := Dev.dbg_of_inert (Dev.settle_inert s0 s)

theorem Dev.settle_time (s0 s : Dev) (hr : s.role = s0.role) (hl : s.lanes = s0.lanes) : (Dev.settle s0 s).time = s.time :=
  Dev.time_of_calm (Dev.settle_calm s0 s hr hl)
theorem Dev.settle_gate (s0 s : Dev) (hr : s.role = s0.role) (hl : s.lanes = s0.lanes) : (Dev.settle s0 s).gate = s.gate :=
  Dev.gate_of_calm (Dev.settle_calm s0 s hr hl)

end Sys2Proof.Machine
end

