-- ==== Sys2Proof/Laws/Does.lean ====
section
/-! SUPPORT. How a claim about a command is begun: the command's action, then what settling leaves of it. -/

namespace Sys2Proof.Machine

/-! ## The start of a command changes nothing that is read -/

@[simp] theorem Dev.begin_fb (s : Dev) (G : Fld) (bank i j : Nat) : s.begin.fb G bank i j = s.fb G bank i j := by
  obtain ⟨b, _⟩ := G; cases b <;> rfl
@[simp] theorem Dev.begin_f (s : Dev) (G : Fld) (i j : Nat) : s.begin.f G i j = s.f G i j := Dev.begin_fb ..
@[simp] theorem Dev.begin_flag (s : Dev) (G : Fld) (i j : Nat) : s.begin.flag G i j = s.flag G i j := by simp [Dev.flag]
@[simp] theorem Dev.begin_fs (s : Dev) (set : Nat) (G : Fld) (i j : Nat) : s.begin.fs set G i j = s.fs set G i j := Dev.begin_fb ..
@[simp] theorem Dev.begin_fi (s : Dev) (G : Fld) (i j : Nat) : s.begin.fi G i j = s.fi G i j := Dev.begin_fb ..
@[simp] theorem Dev.begin_actSet (s : Dev) : s.begin.actSet = s.actSet := Dev.begin_f ..
@[simp] theorem Dev.begin_fa (s : Dev) (G : Fld) (i j : Nat) : s.begin.fa G i j = s.fa G i j := by simp [Dev.fa]
@[simp] theorem Dev.begin_run (s : Dev) : s.begin.run = s.run := Dev.begin_flag ..
@[simp] theorem Dev.begin_epoch (s : Dev) (b : Blk) : s.begin.epoch b = s.epoch b := Dev.begin_f ..
@[simp] theorem Dev.begin_tickInc (s : Dev) : s.begin.tickInc = s.tickInc := rfl
@[simp] theorem Dev.begin_nowFix (s : Dev) : s.begin.nowFix = s.nowFix := rfl
@[simp] theorem Dev.begin_now (s : Dev) : s.begin.now = s.now := rfl
@[simp] theorem Dev.begin_lc (s : Dev) : s.begin.lc = s.lc := rfl
@[simp] theorem Dev.begin_ln (s : Dev) (G : Fld) (L : Nat) : s.begin.ln G L = s.ln G L := Dev.begin_f ..
@[simp] theorem Dev.begin_lState (s : Dev) (L : Nat) : s.begin.lState L = s.lState L := Dev.begin_ln ..
@[simp] theorem Dev.begin_unitActive (s : Dev) : s.begin.unitActive = s.unitActive := rfl
@[simp] theorem Dev.begin_present (s : Dev) (b : Blk) (o : Nat) : s.begin.present b o = s.present b o := rfl
@[simp] theorem Dev.begin_blkGated (s : Dev) (b : Blk) : s.begin.blkGated b = s.blkGated b := rfl
@[simp] theorem Dev.begin_blockStatus (s : Dev) (b : Blk) (o : Nat) : s.begin.blockStatus b o = s.blockStatus b o := rfl

/-! ## Register writes with a row of their own -/

/-- A block in operation serves the write. -/
theorem Dev.served_ok {s : Dev} {b : Blk} {o : Nat} (g : Dev → Acted) (h : s.blockStatus b o = .ok) : s.served b o g = g s := by
  simp [Dev.served, h]

/-- The completion of an access or request is the status that it answers. -/
@[simp] theorem Acted.dev_cpl (a : Acted) : a.dev.cpl = some (a.1, 0) := rfl

/-! ## The frame inside a block -/

theorem Dev.within_refl {b : Blk} {l : List (Fld × Nat × Nat)} {s u : Dev} (h : u.regsOf b = s.regsOf b) : s.Within b l u :=
  fun _ _ => by rw [h]

/-- A write of a field of the list, or of another block, stays inside. -/
theorem Dev.Within.put {b : Blk} {l : List (Fld × Nat × Nat)} {s u : Dev} (w : s.Within b l u) {G : Fld} {v i j : Nat}
    (h : G.blk ≠ b ∨ (G, i, j) ∈ l) : s.Within b l (u.put G v i j) := by
  intro k hk
  rw [← w k hk]
  unfold Dev.put Dev.putb
  by_cases hb : b = G.blk
  · subst hb
    have h1 := hk _ (h.resolve_left (fun c => c rfl))
    rw [Dev.regsOf_setRegs_same]
    unfold Tab.set
    split
    · exact Tab.find_erase_other _ h1
    · exact Tab.find_put_other _ _ h1
  · rw [Dev.regsOf_setRegs_other _ _ hb]

theorem Dev.Within.raise {b : Blk} {l : List (Fld × Nat × Nat)} {s u : Dev} (w : s.Within b l u) {G : Fld} {i j : Nat}
    (h : G.blk ≠ b ∨ (G, i, j) ∈ l) : s.Within b l (u.raise G i j) := w.put h

theorem Dev.Within.inc {b : Blk} {l : List (Fld × Nat × Nat)} {s u : Dev} (w : s.Within b l u) {G : Fld} {n i j : Nat}
    (h : G.blk ≠ b ∨ (G, i, j) ∈ l) : s.Within b l (u.inc G n i j) := w.put h

end Sys2Proof.Machine
end

