-- ==== Sys2Proof/Laws/Exec.lean ====
section
/-! SUPPORT. What each command does, said once: it is executed, its action is applied to the device, and the rest is settled. A claim about a
command cites its lemma and unfolds neither `exec` nor the meaning. -/

namespace Sys2Proof.Machine

variable {s : State}

theorem State.runs_porstNRise {a b c : Straps} {d : LastSample} :
    s.Runs (.porstNRise a b c d) (s.dev.begin.porstRise a b c d.straps d.aonOk) := rfl
theorem State.runs_bootImageCheck {image : List Byte} :
    s.Runs (.bootImageCheck image) (s.dev.begin.bootCheck image) := rfl
theorem State.runs_cycleBoundary :
    s.Runs (.cycleBoundary) (s.dev.begin.cycleBoundary) := rfl
theorem State.runs_claim :
    s.Runs (.claim) (Acted.dev (s.dev.begin.served .pair 0x10 (·.pairCommand 1))) := rfl
theorem State.runs_assemblyAbandon {arm : Nat} :
    s.Runs (.assemblyAbandon arm) (s.dev.begin.assemblyAbandon arm) := rfl
theorem State.runs_milestoneAssemblyEnd {arm : Nat} :
    s.Runs (.milestoneAssemblyEnd arm) (s.dev.begin.assemblyEnd arm) := rfl
theorem State.runs_cycleCtlWrite {run stamp : Bool} {period : Nat} :
    s.Runs (.cycleCtlWrite run stamp period) (Acted.dev (s.dev.begin.served .global 0x100 (·.cycleCtlWrite run stamp period))) := rfl
theorem State.runs_cyclePhaseWrite {phase : Nat} :
    s.Runs (.cyclePhaseWrite phase) (Acted.dev (s.dev.begin.served .global 0x104 (·.cyclePhaseWrite phase))) := rfl
theorem State.runs_globalCfgSwapWrite {target : Nat} :
    s.Runs (.globalCfgSwapWrite target) (Acted.dev (s.dev.begin.served .global 0x120 (·.swapRequest target none))) := rfl
theorem State.runs_swapChecksDone :
    s.Runs (.swapChecksDone) (s.dev.begin.swapChecksDone) := rfl
theorem State.runs_registerWrite {master off n value : Nat} :
    s.Runs (.registerWrite master off n value) (Acted.dev (s.dev.begin.registerWrite master off n value)) := rfl
theorem State.runs_runDispatch {sh : Nat} :
    s.Runs (.runDispatch sh) (s.dev.begin.runDispatch sh) := rfl
theorem State.runs_deadlineExpiry {slot : Nat} :
    s.Runs (.deadlineExpiry slot) (s.dev.begin.deadline slot) := rfl
theorem State.runs_runEnd {sh : Nat} :
    s.Runs (.runEnd sh) (s.dev.begin.runEnd sh) := rfl
theorem State.runs_ingressWrite {word : Nat} :
    s.Runs (.ingressWrite word) (s.dev.begin.ingressWrite word) := rfl
theorem State.runs_bar2Write {fn off n value : Nat} :
    s.Runs (.bar2Write fn off n value) (Acted.dev (s.dev.begin.bar2Write fn off n value)) := rfl
theorem State.runs_scrubPass :
    s.Runs (.scrubPass) (s.dev.begin.whenOn .loom (·.scrubPass)) := rfl
theorem State.runs_loomCtlWrite {enable view scrub : Bool} :
    s.Runs (.loomCtlWrite enable view scrub) (Acted.dev (s.dev.begin.served .loom 0 fun d => (.ok, d.loomCtlWrite enable view scrub))) := rfl
theorem State.runs_slotRateWrite {slot every phase : Nat} :
    s.Runs (.slotRateWrite slot every phase) (Acted.dev (s.dev.begin.served .loom (0x1004 + 64 * slot) (·.slotRateWrite slot every phase))) := rfl
theorem State.runs_nop {sh : Nat} :
    s.Runs (.nop sh) (s.dev.begin.instr sh .nopOp Isa.nop) := rfl
theorem State.runs_mov {sh : Nat} :
    s.Runs (.mov sh) (s.dev.begin.instr sh .movOp Isa.mov) := rfl
theorem State.runs_movi {sh : Nat} :
    s.Runs (.movi sh) (s.dev.begin.instr sh .moviOp Isa.movi) := rfl
theorem State.runs_ldx {sh : Nat} :
    s.Runs (.ldx sh) (s.dev.begin.instr sh .ldxOp Isa.ldx) := rfl
theorem State.runs_stx {sh : Nat} :
    s.Runs (.stx sh) (s.dev.begin.instr sh .stxOp Isa.stx) := rfl
theorem State.runs_add {sh : Nat} :
    s.Runs (.add sh) (s.dev.begin.instr sh .addOp Isa.add) := rfl
theorem State.runs_sub {sh : Nat} :
    s.Runs (.sub sh) (s.dev.begin.instr sh .subOp Isa.sub) := rfl
theorem State.runs_mul {sh : Nat} :
    s.Runs (.mul sh) (s.dev.begin.instr sh .mulOp Isa.mul) := rfl
theorem State.runs_mac {sh : Nat} :
    s.Runs (.mac sh) (s.dev.begin.instr sh .macOp Isa.mac) := rfl
theorem State.runs_msu {sh : Nat} :
    s.Runs (.msu sh) (s.dev.begin.instr sh .msuOp Isa.msu) := rfl
theorem State.runs_neg {sh : Nat} :
    s.Runs (.neg sh) (s.dev.begin.instr sh .negOp Isa.neg) := rfl
theorem State.runs_abs {sh : Nat} :
    s.Runs (.abs sh) (s.dev.begin.instr sh .absOp Isa.abs) := rfl
theorem State.runs_addw {sh : Nat} :
    s.Runs (.addw sh) (s.dev.begin.instr sh .addwOp Isa.addw) := rfl
theorem State.runs_subw {sh : Nat} :
    s.Runs (.subw sh) (s.dev.begin.instr sh .subwOp Isa.subw) := rfl
theorem State.runs_lim {sh : Nat} :
    s.Runs (.lim sh) (s.dev.begin.instr sh .limOp Isa.lim) := rfl
theorem State.runs_min {sh : Nat} :
    s.Runs (.min sh) (s.dev.begin.instr sh .minOp Isa.min) := rfl
theorem State.runs_max {sh : Nat} :
    s.Runs (.max sh) (s.dev.begin.instr sh .maxOp Isa.max) := rfl
theorem State.runs_pi {sh : Nat} :
    s.Runs (.pi sh) (s.dev.begin.instr sh .piOp Isa.pi) := rfl
theorem State.runs_pir {sh : Nat} :
    s.Runs (.pir sh) (s.dev.begin.instr sh .pirOp Isa.pir) := rfl
theorem State.runs_lpf1 {sh : Nat} :
    s.Runs (.lpf1 sh) (s.dev.begin.instr sh .lpf1Op Isa.lpf1) := rfl
theorem State.runs_hpf1 {sh : Nat} :
    s.Runs (.hpf1 sh) (s.dev.begin.instr sh .hpf1Op Isa.hpf1) := rfl
theorem State.runs_ramp {sh : Nat} :
    s.Runs (.ramp sh) (s.dev.begin.instr sh .rampOp Isa.ramp) := rfl
theorem State.runs_dead {sh : Nat} :
    s.Runs (.dead sh) (s.dev.begin.instr sh .deadOp Isa.dead) := rfl
theorem State.runs_hyst {sh : Nat} :
    s.Runs (.hyst sh) (s.dev.begin.instr sh .hystOp Isa.hyst) := rfl
theorem State.runs_clk {sh : Nat} :
    s.Runs (.clk sh) (s.dev.begin.instr sh .clkOp Isa.clk) := rfl
theorem State.runs_prk {sh : Nat} :
    s.Runs (.prk sh) (s.dev.begin.instr sh .prkOp Isa.prk) := rfl
theorem State.runs_iprk {sh : Nat} :
    s.Runs (.iprk sh) (s.dev.begin.instr sh .iprkOp Isa.iprk) := rfl
theorem State.runs_sincos {sh : Nat} :
    s.Runs (.sincos sh) (s.dev.begin.instr sh .sincosOp Isa.sincos) := rfl
theorem State.runs_atn2 {sh : Nat} :
    s.Runs (.atn2 sh) (s.dev.begin.instr sh .atn2Op Isa.atn2) := rfl
theorem State.runs_sqrt {sh : Nat} :
    s.Runs (.sqrt sh) (s.dev.begin.instr sh .sqrtOp Isa.sqrt) := rfl
theorem State.runs_rcp {sh : Nat} :
    s.Runs (.rcp sh) (s.dev.begin.instr sh .rcpOp Isa.rcp) := rfl
theorem State.runs_div {sh : Nat} :
    s.Runs (.div sh) (s.dev.begin.instr sh .divOp Isa.div) := rfl
theorem State.runs_lut1 {sh : Nat} :
    s.Runs (.lut1 sh) (s.dev.begin.instr sh .lut1Op Isa.lut1) := rfl
theorem State.runs_cmpeq {sh : Nat} :
    s.Runs (.cmpeq sh) (s.dev.begin.instr sh .cmpeqOp Isa.cmpeq) := rfl
theorem State.runs_cmpne {sh : Nat} :
    s.Runs (.cmpne sh) (s.dev.begin.instr sh .cmpneOp Isa.cmpne) := rfl
theorem State.runs_cmplt {sh : Nat} :
    s.Runs (.cmplt sh) (s.dev.begin.instr sh .cmpltOp Isa.cmplt) := rfl
theorem State.runs_cmple {sh : Nat} :
    s.Runs (.cmple sh) (s.dev.begin.instr sh .cmpleOp Isa.cmple) := rfl
theorem State.runs_cmpgt {sh : Nat} :
    s.Runs (.cmpgt sh) (s.dev.begin.instr sh .cmpgtOp Isa.cmpgt) := rfl
theorem State.runs_cmpge {sh : Nat} :
    s.Runs (.cmpge sh) (s.dev.begin.instr sh .cmpgeOp Isa.cmpge) := rfl
theorem State.runs_sel {sh : Nat} :
    s.Runs (.sel sh) (s.dev.begin.instr sh .selOp Isa.sel) := rfl
theorem State.runs_and {sh : Nat} :
    s.Runs (.and sh) (s.dev.begin.instr sh .andOp Isa.and) := rfl
theorem State.runs_or {sh : Nat} :
    s.Runs (.or sh) (s.dev.begin.instr sh .orOp Isa.or) := rfl
theorem State.runs_xor {sh : Nat} :
    s.Runs (.xor sh) (s.dev.begin.instr sh .xorOp Isa.xor) := rfl
theorem State.runs_not {sh : Nat} :
    s.Runs (.not sh) (s.dev.begin.instr sh .notOp Isa.not) := rfl
theorem State.runs_pset {sh : Nat} :
    s.Runs (.pset sh) (s.dev.begin.instr sh .psetOp Isa.pset) := rfl
theorem State.runs_pand {sh : Nat} :
    s.Runs (.pand sh) (s.dev.begin.instr sh .pandOp Isa.pand) := rfl
theorem State.runs_por {sh : Nat} :
    s.Runs (.por sh) (s.dev.begin.instr sh .porOp Isa.por) := rfl
theorem State.runs_pnot {sh : Nat} :
    s.Runs (.pnot sh) (s.dev.begin.instr sh .pnotOp Isa.pnot) := rfl
theorem State.runs_pget {sh : Nat} :
    s.Runs (.pget sh) (s.dev.begin.instr sh .pgetOp Isa.pget) := rfl
theorem State.runs_spindleUpdate {arm : Nat} :
    s.Runs (.spindleUpdate arm) (s.dev.begin.spUpdate arm) := rfl
theorem State.runs_stale {cell : Nat} :
    s.Runs (.stale cell) (s.dev.begin.spStale cell) := rfl
theorem State.runs_drift {cell : Nat} :
    s.Runs (.drift cell) (s.dev.begin.spDrift cell) := rfl
theorem State.runs_readmit {cell : Nat} :
    s.Runs (.readmit cell) (s.dev.begin.spReadmit cell) := rfl
theorem State.runs_locked {cell : Nat} :
    s.Runs (.locked cell) (s.dev.begin.spLock cell) := rfl
theorem State.runs_strikeDecay {cell : Nat} :
    s.Runs (.strikeDecay cell) (s.dev.begin.spDecay cell) := rfl
theorem State.runs_readmitHoldExpiry {cell : Nat} :
    s.Runs (.readmitHoldExpiry cell) (s.dev.begin.spHoldEnd cell) := rfl
theorem State.runs_closeRepeat {cell : Nat} :
    s.Runs (.closeRepeat cell) (s.dev.begin.spCloseRepeat cell) := rfl
theorem State.runs_rateWindowEnd {arm : Nat} :
    s.Runs (.rateWindowEnd arm) (s.dev.begin.spRateWindow arm) := rfl
theorem State.runs_capWindowEnd {arm : Nat} :
    s.Runs (.capWindowEnd arm) (s.dev.begin.spCapWindow arm) := rfl
theorem State.runs_selection {arm : Nat} :
    s.Runs (.selection arm) (s.dev.begin.spSelect arm) := rfl
theorem State.runs_exclude {cell : Nat} :
    s.Runs (.exclude cell) (Acted.dev (s.dev.begin.served .spindle 0x30 (·.cellCmdHost 1 cell))) := rfl
theorem State.runs_release {cell : Nat} :
    s.Runs (.release cell) (Acted.dev (s.dev.begin.served .spindle 0x30 (·.cellCmdHost 2 cell))) := rfl
theorem State.runs_unlock {cell : Nat} :
    s.Runs (.unlock cell) (Acted.dev (s.dev.begin.served .spindle 0x30 (·.cellCmdHost 3 cell))) := rfl
theorem State.runs_cellCmdClose {cell : Nat} :
    s.Runs (.cellCmdClose cell) (Acted.dev (s.dev.begin.served .spindle 0x30 (·.cellCmdHost 4 cell))) := rfl
theorem State.runs_cellRelease {all : Bool} {index : Nat} :
    s.Runs (.cellRelease all index) (s.dev.begin.cellCmdRow 5 all index) := rfl
theorem State.runs_modeMs {all : Bool} {index : Nat} :
    s.Runs (.modeMs all index) (s.dev.begin.cellCmdRow 6 all index) := rfl
theorem State.runs_modeCarrier {all : Bool} {index : Nat} :
    s.Runs (.modeCarrier all index) (s.dev.begin.cellCmdRow 7 all index) := rfl
theorem State.runs_cellBlock {all : Bool} {index : Nat} :
    s.Runs (.cellBlock all index) (s.dev.begin.cellCmdRow 8 all index) := rfl
theorem State.runs_recIdxWrite {wr : Bool} {cell : Nat} :
    s.Runs (.recIdxWrite wr cell) (Acted.dev (s.dev.begin.served .spindle 0x34 (·.recIdxWrite wr cell))) := rfl
theorem State.runs_laneEnable {lane : Nat} :
    s.Runs (.laneEnable lane) (Acted.dev (s.dev.begin.laneField lane 31 1 1)) := rfl
theorem State.runs_laneDisable {lane : Nat} :
    s.Runs (.laneDisable lane) (Acted.dev (s.dev.begin.laneField lane 31 1 0)) := rfl
theorem State.runs_rateWrite {lane rate : Nat} :
    s.Runs (.rateWrite lane rate) (Acted.dev (s.dev.begin.laneField lane 22 2 rate)) := rfl
theorem State.runs_loopWrite {lane loop : Nat} :
    s.Runs (.loopWrite lane loop) (Acted.dev (s.dev.begin.laneField lane 26 3 loop)) := rfl
theorem State.runs_pwrL1 {lane : Nat} :
    s.Runs (.pwrL1 lane) (Acted.dev (s.dev.begin.laneField lane 29 2 1)) := rfl
theorem State.runs_pwrL3 {lane : Nat} :
    s.Runs (.pwrL3 lane) (Acted.dev (s.dev.begin.laneField lane 29 2 3)) := rfl
theorem State.runs_pwrL0 {lane : Nat} :
    s.Runs (.pwrL0 lane) (Acted.dev (s.dev.begin.laneField lane 29 2 0)) := rfl
theorem State.runs_l3ExitComplete {lane : Nat} {exchanges : List Int} :
    s.Runs (.l3ExitComplete lane exchanges) (s.dev.begin.l3Exit lane exchanges) := rfl
theorem State.runs_rateHuntStep {lane : Nat} :
    s.Runs (.rateHuntStep lane) (s.dev.begin.rateHunt lane) := rfl
theorem State.runs_rateLock {lane : Nat} :
    s.Runs (.rateLock lane) (s.dev.begin.laneLock lane) := rfl
theorem State.runs_trnReceive {lane : Nat} {trn : Trn} :
    s.Runs (.trnReceive lane trn) (s.dev.begin.trnReceive lane trn) := rfl
theorem State.runs_adaptWindow {lane : Nat} {groups : List Nat} {taps : List Int} :
    s.Runs (.adaptWindow lane groups taps) (s.dev.begin.adaptWindow lane groups taps) := rfl
theorem State.runs_rdbkReceive {lane t1 t2 t3 t4 result : Nat} :
    s.Runs (.rdbkReceive lane t1 t2 t3 t4 result) (s.dev.begin.rdbkReceive lane t1 t2 t3 t4 result) := rfl
theorem State.runs_trainingTimeout {lane : Nat} :
    s.Runs (.trainingTimeout lane) (s.dev.begin.laneTimeout lane) := rfl
theorem State.runs_backoffEnd {lane : Nat} :
    s.Runs (.backoffEnd lane) (s.dev.begin.backoffEnd lane) := rfl
theorem State.runs_signalAppear {lane : Nat} :
    s.Runs (.signalAppear lane) (s.dev.begin.signalAppear lane) := rfl
theorem State.runs_absentRetry {lane : Nat} :
    s.Runs (.absentRetry lane) (s.dev.begin.absentAttempt lane) := rfl
theorem State.runs_laneLoss {lane : Nat} {lost : LaneLost} :
    s.Runs (.laneLoss lane lost) (s.dev.begin.laneLoss lane lost.cause lost.groups) := rfl
theorem State.runs_idleEnd {lane : Nat} :
    s.Runs (.idleEnd lane) (s.dev.begin.idleEnd lane) := rfl
theorem State.runs_remeasureInterval {lane : Nat} :
    s.Runs (.remeasureInterval lane) (s.dev.begin.remeasInterval lane) := rfl
theorem State.runs_loopTimeout {lane : Nat} :
    s.Runs (.loopTimeout lane) (s.dev.begin.loopTimeout lane) := rfl
theorem State.runs_retrain {lane : Nat} :
    s.Runs (.retrain lane) (Acted.dev (s.dev.begin.laneCmd lane (·.laneRetrain lane))) := rfl
theorem State.runs_unfreeze {lane : Nat} :
    s.Runs (.unfreeze lane) (Acted.dev (s.dev.begin.laneCmd lane (·.unfreeze lane))) := rfl
theorem State.runs_remeasure {lane : Nat} :
    s.Runs (.remeasure lane) (Acted.dev (s.dev.begin.laneCmd lane (·.remeasure lane))) := rfl
theorem State.runs_sofReceive {lane : Nat} {data : List Byte} {clean : Bool} :
    s.Runs (.sofReceive lane data clean) (s.dev.begin.sofReceive lane (crcBody data) (clean && crcOk data)) := rfl
theorem State.runs_sofMiss {lane : Nat} :
    s.Runs (.sofMiss lane) (s.dev.begin.sofMiss lane) := rfl
theorem State.runs_msSectionForward {lane : Nat} {data : List Byte} {clean : Bool} :
    s.Runs (.msSectionForward lane data clean) (s.dev.begin.msForward lane (data.take 26 ++ data.drop 30) (clean && crcOk (data.take 30))) := rfl
theorem State.runs_msEntryDecode {lane : Nat} {data : List Byte} {clean : Bool} :
    s.Runs (.msEntryDecode lane data clean) (s.dev.begin.msDecode lane (crcBody data) (clean && crcOk data)) := rfl
theorem State.runs_insertPos :
    s.Runs (.insertPos) (s.dev.begin.due 1 0) := rfl
theorem State.runs_insertNeg :
    s.Runs (.insertNeg) (s.dev.begin.due 2 0) := rfl
theorem State.runs_bypass :
    s.Runs (.bypass) (s.dev.begin.due 3 0) := rfl
theorem State.runs_block :
    s.Runs (.block) (s.dev.begin.due 4 0) := rfl
theorem State.runs_close :
    s.Runs (.close) (s.dev.begin.due 5 0) := rfl
theorem State.runs_carrier :
    s.Runs (.carrier) (s.dev.begin.due 6 0) := rfl
theorem State.runs_configMilestone :
    s.Runs (.configMilestone) (s.dev.begin.due 7 1) := rfl
theorem State.runs_configCarrier :
    s.Runs (.configCarrier) (s.dev.begin.due 7 2) := rfl
theorem State.runs_configRelease :
    s.Runs (.configRelease) (s.dev.begin.due 7 3) := rfl
theorem State.runs_deferredCommand :
    s.Runs (.deferredCommand) (s.dev.begin.deferred) := rfl
theorem State.runs_roadblock {lane run : Nat} :
    s.Runs (.roadblock lane run) (s.dev.begin.roadblock lane run) := rfl
theorem State.runs_rbCtlWrite {host pairEn : Bool} :
    s.Runs (.rbCtlWrite host pairEn) (Acted.dev (s.dev.begin.rbCtlWrite host pairEn)) := rfl
theorem State.runs_rrRequest {lane : Nat} {data : List Byte} {clean : Bool} :
    s.Runs (.rrRequest lane data clean) (s.dev.begin.rrRequest lane (crcBody data) (clean && crcOk data)) := rfl
theorem State.runs_rrReply {lane : Nat} {data : List Byte} {clean : Bool} :
    s.Runs (.rrReply lane data clean) (s.dev.begin.rrReply lane (crcBody data) (clean && crcOk data)) := rfl
theorem State.runs_rrTimeout {lane dest port tag : Nat} :
    s.Runs (.rrTimeout lane dest port tag) (s.dev.begin.rrTimeout lane dest port tag) := rfl
theorem State.runs_telemetryRecordReceive {lane : Nat} {data : List Byte} {clean : Bool} :
    s.Runs (.telemetryRecordReceive lane data clean) (s.dev.begin.recordReceive lane (crcBody data) (clean && crcOk data)) := rfl
theorem State.runs_telemetryUse {lane : Nat} {data : List Byte} {clean : Bool} :
    s.Runs (.telemetryUse lane data clean) (s.dev.begin.telemetryUse lane (crcBody data) (clean && crcOk data)) := rfl
theorem State.runs_nodeSeen {leg tn : Nat} :
    s.Runs (.nodeSeen leg tn) (s.dev.begin.nodeSeen leg tn) := rfl
theorem State.runs_incomingOn {leg : Nat} :
    s.Runs (.incomingOn leg) (s.dev.begin.incomingOn leg) := rfl
theorem State.runs_dtMaxExpiry {leg : Nat} :
    s.Runs (.dtMaxExpiry leg) (s.dev.begin.dtMax leg) := rfl
theorem State.runs_nodeTimeout {leg : Nat} :
    s.Runs (.nodeTimeout leg) (s.dev.begin.nodeTimeout leg) := rfl
theorem State.runs_carrierBoundary :
    s.Runs (.carrierBoundary) (s.dev.begin.carrBoundary) := rfl
theorem State.runs_carrierEdge :
    s.Runs (.carrierEdge) (s.dev.begin.carrEdge) := rfl
theorem State.runs_desatTrip {levels : Nat} :
    s.Runs (.desatTrip levels) (s.dev.begin.desatTrip levels) := rfl
theorem State.runs_cellLaneLoss :
    s.Runs (.cellLaneLoss) (s.dev.begin.cellLaneLoss) := rfl
theorem State.runs_followedPlaneLost :
    s.Runs (.followedPlaneLost) (s.dev.begin.planeLost) := rfl
theorem State.runs_vsense :
    s.Runs (.vsense) (s.dev.begin.vsense) := rfl
theorem State.runs_ovx :
    s.Runs (.ovx) (s.dev.begin.ovx) := rfl
theorem State.runs_channelYFire :
    s.Runs (.channelYFire) (s.dev.begin.channelY) := rfl
theorem State.runs_otpBypassRecord :
    s.Runs (.otpBypassRecord) (s.dev.begin.otpRecord) := rfl
theorem State.runs_bypassPulse {y : Bool} :
    s.Runs (.bypassPulse y) (s.dev.begin.bypPulse y) := rfl
theorem State.runs_auxPeriodBoundary :
    s.Runs (.auxPeriodBoundary) (s.dev.begin.auxBoundary) := rfl
theorem State.runs_auxOnEnd :
    s.Runs (.auxOnEnd) (s.dev.begin.auxOnEnd) := rfl
theorem State.runs_auxIlim :
    s.Runs (.auxIlim) (s.dev.begin.auxIlim) := rfl
theorem State.runs_auxUndervoltage :
    s.Runs (.auxUndervoltage) (s.dev.begin.auxUnder) := rfl
theorem State.runs_auxStart :
    s.Runs (.auxStart) (s.dev.begin.auxStart) := rfl
theorem State.runs_maintFire :
    s.Runs (.maintFire) (Acted.dev (s.dev.begin.served .gate 0x94 (·.maintFire))) := rfl
theorem State.runs_key1 :
    s.Runs (.key1) (Acted.dev (s.dev.begin.served .gate 0x94 (·.maintKey1))) := rfl
theorem State.runs_key2 :
    s.Runs (.key2) (Acted.dev (s.dev.begin.served .gate 0x94 (·.maintKey2))) := rfl
theorem State.runs_cpgFall :
    s.Runs (.cpgFall) (s.dev.begin.cpgFall) := rfl
theorem State.runs_cpgRise {aonHigh : Bool} {a b c d : Straps} {aonOk : Bool} :
    s.Runs (.cpgRise aonHigh a b c d aonOk) (s.dev.begin.cpgRise aonHigh a b c d aonOk) := rfl
theorem State.runs_cellReady :
    s.Runs (.cellReady) (s.dev.begin.cellReady) := rfl
theorem State.runs_wakeTimeout :
    s.Runs (.wakeTimeout) (s.dev.begin.wakeTimeout) := rfl
theorem State.runs_logRead {master : Nat} :
    s.Runs (.logRead master) (s.dev.begin.readRow master .gate 0xF8) := rfl
theorem State.runs_conversion {raws : List Int} :
    s.Runs (.conversion raws) (s.dev.begin.whenOn .adc (·.conversion raws)) := rfl
theorem State.runs_calStart {mask : Nat} :
    s.Runs (.calStart mask) (Acted.dev (s.dev.begin.served .adc 0 (·.adcCalWrite true false mask))) := rfl
theorem State.runs_calibrationDone {results : List (Int × Nat)} :
    s.Runs (.calibrationDone results) (s.dev.begin.calibrationDone results) := rfl
theorem State.runs_trackerUpdate {inst : Nat} :
    s.Runs (.trackerUpdate inst) (s.dev.begin.trackerUpdate inst) := rfl
theorem State.runs_ampFault {inst : Nat} :
    s.Runs (.ampFault inst) (s.dev.begin.ampFault inst) := rfl
theorem State.runs_resync {inst : Nat} :
    s.Runs (.resync inst) (s.dev.begin.resync inst) := rfl
theorem State.runs_still {inst : Nat} :
    s.Runs (.still inst) (s.dev.begin.still inst) := rfl
theorem State.runs_indexEdge :
    s.Runs (.indexEdge) (s.dev.begin.indexEdge) := rfl
theorem State.runs_probeEdge {probe : Nat} {rising : Bool} :
    s.Runs (.probeEdge probe rising) (s.dev.begin.probeEdge probe rising) := rfl
theorem State.runs_prbCapRead {master probe : Nat} :
    s.Runs (.prbCapRead master probe) (s.dev.begin.readRow master .angle (0x108 + 16 * probe)) := rfl
theorem State.runs_wmkTgtWrite {mark target : Nat} :
    s.Runs (.wmkTgtWrite mark target) (Acted.dev (s.dev.begin.served .angle (0x204 + 16 * mark) (·.wmkHost mark target))) := rfl
theorem State.runs_wmkCrossing {mark : Nat} :
    s.Runs (.wmkCrossing mark) (s.dev.begin.wmkCross mark) := rfl
theorem State.runs_wmkPulseEnd {mark : Nat} :
    s.Runs (.wmkPulseEnd mark) (s.dev.begin.wmkPulseEnd mark) := rfl
theorem State.runs_pxState {lane : Nat} {head body : List Byte} {clean : Bool} :
    s.Runs (.pxState lane head body clean) (s.dev.begin.pxTake lane 1 (head ++ body) clean Dev.pxState) := rfl
theorem State.runs_pxGraft {lane : Nat} {head body : List Byte} {clean : Bool} :
    s.Runs (.pxGraft lane head body clean) (s.dev.begin.pxTake lane 2 (head ++ body) clean Dev.pxGraft) := rfl
theorem State.runs_pxMlist {lane : Nat} {head body : List Byte} {clean : Bool} :
    s.Runs (.pxMlist lane head body clean) (s.dev.begin.pxTake lane 3 (head ++ body) clean Dev.pxMlist) := rfl
theorem State.runs_pxMapdig {lane : Nat} {data : List Byte} {clean : Bool} :
    s.Runs (.pxMapdig lane data clean) (s.dev.begin.pxTake lane 4 data clean fun dev _ p => dev.pxMapdig p) := rfl
theorem State.runs_crosslinkLost :
    s.Runs (.crosslinkLost) (s.dev.begin.crosslinkLost) := rfl
theorem State.runs_hbLost :
    s.Runs (.hbLost) (s.dev.begin.hbLost) := rfl
theorem State.runs_coverageStall {counter : Nat} :
    s.Runs (.coverageStall counter) (s.dev.begin.coverageStall counter) := rfl
theorem State.runs_voteComplete :
    s.Runs (.voteComplete) (s.dev.begin.voteComplete) := rfl
theorem State.runs_fitHoldExpiry :
    s.Runs (.fitHoldExpiry) (s.dev.begin.fitExpiry) := rfl
theorem State.runs_orphan :
    s.Runs (.orphan) (s.dev.begin.orphan) := rfl
theorem State.runs_relinquish :
    s.Runs (.relinquish) (Acted.dev (s.dev.begin.served .pair 0x10 (·.pairCommand 2))) := rfl
theorem State.runs_resume :
    s.Runs (.resume) (Acted.dev (s.dev.begin.served .pair 0x10 (·.pairCommand 3))) := rfl
theorem State.runs_pairTripClr :
    s.Runs (.pairTripClr) (Acted.dev (s.dev.begin.served .pair 0x10 (·.pairCommand 4))) := rfl
theorem State.runs_fault :
    s.Runs (.fault) (Acted.dev (s.dev.begin.served .pair 0x10 (·.pairCommand 5))) := rfl
theorem State.runs_clear :
    s.Runs (.clear) (Acted.dev (s.dev.begin.served .pair 0x10 (·.pairCommand 6))) := rfl
theorem State.runs_xcmpExchange :
    s.Runs (.xcmpExchange) (s.dev.begin.xcmpExchange) := rfl
theorem State.runs_xcmpFault :
    s.Runs (.xcmpFault) (s.dev.begin.xcmpFault) := rfl
theorem State.runs_clockCheck {y : Bool} {ticks : Nat} :
    s.Runs (.clockCheck y ticks) (s.dev.begin.clockCheck y ticks) := rfl
theorem State.runs_supplyFault {y inside : Bool} :
    s.Runs (.supplyFault y inside) (s.dev.begin.supplyFault y inside) := rfl
theorem State.runs_paramCrcCheck {y : Bool} :
    s.Runs (.paramCrcCheck y) (s.dev.begin.paramCrcCheck y) := rfl
theorem State.runs_lineQualify {y : Bool} {line : Nat} {closed : Bool} :
    s.Runs (.lineQualify y line closed) (s.dev.begin.lineQualify y line closed) := rfl
theorem State.runs_testPulse {tp openX openY : Nat} :
    s.Runs (.testPulse tp openX openY) (s.dev.begin.testPulse tp openX openY) := rfl
theorem State.runs_intestCheck {line : Nat} :
    s.Runs (.intestCheck line) (s.dev.begin.intestCheck line) := rfl
theorem State.runs_discrepancy {pair : Nat} :
    s.Runs (.discrepancy pair) (s.dev.begin.discrepancy pair) := rfl
theorem State.runs_fbFault {inst : Nat} :
    s.Runs (.fbFault inst) (s.dev.begin.fbFault inst) := rfl
theorem State.runs_offPulse {pair : Nat} {y : Bool} {seen : Readback} :
    s.Runs (.offPulse pair y seen) (s.dev.begin.offPulse pair y seen.x seen.y) := rfl
theorem State.runs_cat1Timeout {inst : Nat} :
    s.Runs (.cat1Timeout inst) (s.dev.begin.cat1Timeout inst) := rfl
theorem State.runs_tripInput {trip : Nat} {high : Bool} :
    s.Runs (.tripInput trip high) (s.dev.begin.whenOn .safety (·.tripInput trip high)) := rfl
theorem State.runs_tripClr {mask : Nat} :
    s.Runs (.tripClr mask) (Acted.dev (s.dev.begin.served .safety 0x40C (·.tripClr mask))) := rfl
theorem State.runs_srstPulse {lenX lenY skew : Nat} :
    s.Runs (.srstPulse lenX lenY skew) (s.dev.begin.srstPulse lenX lenY skew) := rfl
theorem State.runs_instReqWrite {value : Nat} :
    s.Runs (.instReqWrite value) (Acted.dev (s.dev.begin.served .safety 0x180 fun d => (.ok, d.instReqWrite value))) := rfl
theorem State.runs_safetyRun :
    s.Runs (.safetyRun) (Acted.dev (s.dev.begin.served .safety 0 (·.safetyRun))) := rfl
theorem State.runs_safetyConfig :
    s.Runs (.safetyConfig) (Acted.dev (s.dev.begin.served .safety 0 (·.safetyConfig))) := rfl
theorem State.runs_btStart :
    s.Runs (.btStart) (Acted.dev (s.dev.begin.served .safety 0x510 (·.btStart))) := rfl
theorem State.runs_btAbort :
    s.Runs (.btAbort) (Acted.dev (s.dev.begin.served .safety 0x510 fun d => (.ok, d.btAbort))) := rfl
theorem State.runs_btTorqueTimeout :
    s.Runs (.btTorqueTimeout) (s.dev.begin.btTorqueTimeout) := rfl
theorem State.runs_btSample :
    s.Runs (.btSample) (s.dev.begin.btSample) := rfl
theorem State.runs_btHoldEnd :
    s.Runs (.btHoldEnd) (s.dev.begin.btHoldEnd) := rfl
theorem State.runs_btDue :
    s.Runs (.btDue) (s.dev.begin.whenOn .safety (·.btDue)) := rfl
theorem State.runs_timeIncWrite {value : Nat} :
    s.Runs (.timeIncWrite value) (Acted.dev (s.dev.begin.served .time 0x8 (·.timeIncWrite value))) := rfl
theorem State.runs_timeStepWrite {value : Nat} :
    s.Runs (.timeStepWrite value) (Acted.dev (s.dev.begin.served .time 0x10 (·.timeStepWrite value))) := rfl
theorem State.runs_syncFree :
    s.Runs (.syncFree) (Acted.dev (s.dev.begin.served .time 0 fun d => d.timeCtlWrite 0 (d.f F.TIME_CTL_HOLD_LIM) (d.f F.TIME_CTL_KICK_TMO))) := rfl
theorem State.runs_syncLocked :
    s.Runs (.syncLocked) (Acted.dev (s.dev.begin.served .time 0 fun d => d.timeCtlWrite 1 (d.f F.TIME_CTL_HOLD_LIM) (d.f F.TIME_CTL_KICK_TMO))) := rfl
theorem State.runs_syncHoldover :
    s.Runs (.syncHoldover) (Acted.dev (s.dev.begin.served .time 0 fun d => d.timeCtlWrite 2 (d.f F.TIME_CTL_HOLD_LIM) (d.f F.TIME_CTL_KICK_TMO))) := rfl
theorem State.runs_kickLost :
    s.Runs (.kickLost) (s.dev.begin.kickLost) := rfl
theorem State.runs_holdExp :
    s.Runs (.holdExp) (s.dev.begin.holdExp) := rfl
theorem State.runs_nowCapture {master : Nat} :
    s.Runs (.nowCapture master) (s.dev.begin.readRow master .time 0x20) := rfl
theorem State.runs_frameReceive {port : Nat} {data : List Byte} {ok : Bool} :
    s.Runs (.frameReceive port data ok) (s.dev.begin.frameReceive port data ok) := rfl
theorem State.runs_svLost {stream : Nat} :
    s.Runs (.svLost stream) (s.dev.begin.svLost stream) := rfl
theorem State.runs_frameLaunch {port queue : Nat} :
    s.Runs (.frameLaunch port queue) (s.dev.begin.ethLaunch port queue) := rfl
theorem State.runs_frameSent {port : Nat} :
    s.Runs (.frameSent port) (s.dev.begin.ethSent port) := rfl
theorem State.runs_linkDown {port : Nat} :
    s.Runs (.linkDown port) (s.dev.begin.linkDown port) := rfl
theorem State.runs_supervisionFrame :
    s.Runs (.supervisionFrame) (s.dev.begin.supervision) := rfl
theorem State.runs_ddEntryAge :
    s.Runs (.ddEntryAge) (s.dev.begin.dupAge) := rfl
theorem State.runs_txtsRead {master : Nat} :
    s.Runs (.txtsRead master) (s.dev.begin.readRow master .eth 0x200) := rfl
theorem State.runs_reelFrame {inst : Nat} :
    s.Runs (.reelFrame inst) (s.dev.begin.reelFrame inst) := rfl
theorem State.runs_reelRecordClose {inst : Nat} :
    s.Runs (.reelRecordClose inst) (s.dev.begin.recordClose inst) := rfl
theorem State.runs_rearmEnd {inst : Nat} :
    s.Runs (.rearmEnd inst) (s.dev.begin.rearmEnd inst) := rfl
theorem State.runs_reelArm {inst : Nat} :
    s.Runs (.reelArm inst) (Acted.dev (s.dev.begin.served .reel (0x110 + 64 * inst) (·.reelArm inst))) := rfl
theorem State.runs_reelStop {inst : Nat} :
    s.Runs (.reelStop inst) (Acted.dev (s.dev.begin.served .reel (0x110 + 64 * inst) fun d => (.ok, d.reelStop inst))) := rfl
theorem State.runs_reelForce {mask : Nat} :
    s.Runs (.reelForce mask) (Acted.dev (s.dev.begin.served .reel 0x20 fun d => (.ok, d.reelForce mask))) := rfl
theorem State.runs_reelRelease {inst slot : Nat} :
    s.Runs (.reelRelease inst slot) (Acted.dev (s.dev.begin.served .reel 0x24 (·.reelRelease inst slot))) := rfl
theorem State.runs_sqDoorbell {fn ring value : Nat} :
    s.Runs (.sqDoorbell fn ring value) (Acted.dev (s.dev.begin.doorbell false fn ring value)) := rfl
theorem State.runs_cqDoorbell {fn ring value : Nat} :
    s.Runs (.cqDoorbell fn ring value) (Acted.dev (s.dev.begin.doorbell true fn ring value)) := rfl
theorem State.runs_descriptorFetch {ring : Nat} {data : List Byte} {bad : Option Status} :
    s.Runs (.descriptorFetch ring data bad) (s.dev.begin.descFetch ring data bad) := rfl
theorem State.runs_hostReadTimeout {ring : Nat} {fetch timeout : Bool} {data : List Byte} :
    s.Runs (.hostReadTimeout ring fetch timeout data) (s.dev.begin.hostReadFail ring fetch timeout data) := rfl
theorem State.runs_hostqNop {ring : Nat} :
    s.Runs (.hostqNop ring) (s.dev.begin.descNop ring) := rfl
theorem State.runs_regRd {ring : Nat} :
    s.Runs (.regRd ring) (s.dev.begin.descReg ring false) := rfl
theorem State.runs_regWr {ring : Nat} :
    s.Runs (.regWr ring) (s.dev.begin.descReg ring true) := rfl
theorem State.runs_copyIn {ring : Nat} {data : List Byte} :
    s.Runs (.copyIn ring data) (s.dev.begin.descCopyIn ring data none) := rfl
theorem State.runs_copyOut {ring : Nat} :
    s.Runs (.copyOut ring) (s.dev.begin.descCopyOut ring) := rfl
theorem State.runs_remote {ring : Nat} :
    s.Runs (.remote ring) (s.dev.begin.descRemote ring) := rfl
theorem State.runs_cfgSwap {ring : Nat} :
    s.Runs (.cfgSwap ring) (s.dev.begin.descSwap ring) := rfl
theorem State.runs_ethTx {ring : Nat} {data : List Byte} :
    s.Runs (.ethTx ring data) (s.dev.begin.descEthTx ring data none) := rfl
theorem State.runs_rxBuf {ring : Nat} :
    s.Runs (.rxBuf ring) (s.dev.begin.descRxBuf ring) := rfl
theorem State.runs_canTx {ring : Nat} {data : List Byte} :
    s.Runs (.canTx ring data) (s.dev.begin.descCanTx ring data none) := rfl
theorem State.runs_canCancel {ring : Nat} {late : Bool} :
    s.Runs (.canCancel ring late) (s.dev.begin.descCanCancel ring late) := rfl
theorem State.runs_quoteDesc {ring : Nat} :
    s.Runs (.quoteDesc ring) (s.dev.begin.descQuote ring) := rfl
theorem State.runs_cert {ring : Nat} :
    s.Runs (.cert ring) (s.dev.begin.descCert ring) := rfl
theorem State.runs_command {ring : Nat} {data : List Byte} :
    s.Runs (.command ring data) (s.dev.begin.descCommand ring data none) := rfl
theorem State.runs_fwLoad {ring : Nat} {data : List Byte} :
    s.Runs (.fwLoad ring data) (s.dev.begin.descFwLoad ring data none) := rfl
theorem State.runs_cqEntryWrite {cq : Nat} :
    s.Runs (.cqEntryWrite cq) (s.dev.begin.cqWrite cq) := rfl
theorem State.runs_irqCoalesceTimeout {cq : Nat} :
    s.Runs (.irqCoalesceTimeout cq) (s.dev.begin.coalesceTimeout cq) := rfl
theorem State.runs_flr {fn : Nat} :
    s.Runs (.flr fn) (s.dev.begin.whenOn .hostq (·.flr fn)) := rfl
theorem State.runs_denyLogRead {master : Nat} :
    s.Runs (.denyLogRead master) (s.dev.begin.readRow master .tollgate 0x18) := rfl
theorem State.runs_setOwner {arg pub sig : List Byte} :
    s.Runs (.setOwner arg pub sig) (Acted.dev (s.dev.begin.secCommand 1 arg pub sig)) := rfl
theorem State.runs_seal {arg pub sig : List Byte} :
    s.Runs (.seal arg pub sig) (Acted.dev (s.dev.begin.secCommand 2 arg pub sig)) := rfl
theorem State.runs_addKey {arg pub sig : List Byte} :
    s.Runs (.addKey arg pub sig) (Acted.dev (s.dev.begin.secCommand 3 arg pub sig)) := rfl
theorem State.runs_revoke {arg pub sig : List Byte} :
    s.Runs (.revoke arg pub sig) (Acted.dev (s.dev.begin.secCommand 4 arg pub sig)) := rfl
theorem State.runs_returnCmd {arg pub sig : List Byte} :
    s.Runs (.returnCmd arg pub sig) (Acted.dev (s.dev.begin.secCommand 5 arg pub sig)) := rfl
theorem State.runs_fwCommit {arg pub sig : List Byte} :
    s.Runs (.fwCommit arg pub sig) (Acted.dev (s.dev.begin.secCommand 6 arg pub sig)) := rfl
theorem State.runs_quote :
    s.Runs (.quote) (Acted.dev (s.dev.begin.secReg (·.quoteCmd))) := rfl
theorem State.runs_quoteDone :
    s.Runs (.quoteDone) (s.dev.begin.quoteDone) := rfl
theorem State.runs_extend {idx : Nat} :
    s.Runs (.extend idx) (Acted.dev (s.dev.begin.secReg (·.extendCmd idx))) := rfl
theorem State.runs_rngFail :
    s.Runs (.rngFail) (s.dev.begin.whenOn .secure (·.rngFail)) := rfl
theorem State.runs_canEnable {ctl : Nat} :
    s.Runs (.canEnable ctl) (Acted.dev (s.dev.begin.canEn ctl true)) := rfl
theorem State.runs_canDisable {ctl : Nat} :
    s.Runs (.canDisable ctl) (Acted.dev (s.dev.begin.canEn ctl false)) := rfl
theorem State.runs_canFrameSent {ctl : Nat} {sent : CanSent} :
    s.Runs (.canFrameSent ctl sent) (s.dev.begin.canSent ctl sent.ago sent.delay) := rfl
theorem State.runs_canFrameReceived {ctl : Nat} {frame : CanFrame} {esi own : Bool} {seen : CanSeen} :
    s.Runs (.canFrameReceived ctl frame esi own seen) (s.dev.begin.canReceived ctl frame esi own seen.ago seen.edges) := rfl
theorem State.runs_canError {ctl lec : Nat} {tx : Bool} {more : Nat} :
    s.Runs (.canError ctl lec tx more) (s.dev.begin.canError ctl lec tx more) := rfl
theorem State.runs_recovered {ctl : Nat} :
    s.Runs (.recovered ctl) (s.dev.begin.canRecovered ctl) := rfl
theorem State.runs_recover {ctl : Nat} :
    s.Runs (.recover ctl) (Acted.dev (s.dev.begin.served .can (64 * ctl + 0x20) fun d => (.ok, d.canRecover ctl))) := rfl
theorem State.runs_tx {ctl : Nat} :
    s.Runs (.tx ctl) (Acted.dev (s.dev.begin.served .can (64 * ctl + 0x20) (·.mailTx ctl))) := rfl
theorem State.runs_cancel {ctl : Nat} {late : Bool} :
    s.Runs (.cancel ctl late) (Acted.dev (s.dev.begin.served .can (64 * ctl + 0x20) (·.mailCancel ctl late))) := rfl
theorem State.runs_rxfRead {master ctl : Nat} :
    s.Runs (.rxfRead master ctl) (s.dev.begin.readRow master .can (0x280 + 256 * ctl)) := rfl
theorem State.runs_clockMonitorWindow {core ref : Int} {refLost : Bool} :
    s.Runs (.clockMonitorWindow core ref refLost) (s.dev.begin.clockWindow core ref refLost) := rfl
theorem State.runs_clockStop {clock : Nat} :
    s.Runs (.clockStop clock) (s.dev.begin.clockStop clock) := rfl
theorem State.runs_supplyExcursion {out : Excursion} :
    s.Runs (.supplyExcursion out) (s.dev.begin.supplyExcursion out.supply out.aonOk) := rfl
theorem State.runs_pwrCtlWrite {lane : Bool} {value : Nat} :
    s.Runs (.pwrCtlWrite lane value) (Acted.dev (s.dev.begin.served .global (if lane then 0x28 else 0x20) (·.pwrWrite lane value))) := rfl
theorem State.runs_islandReady {island : Nat} :
    s.Runs (.islandReady island) (s.dev.begin.islandReady island) := rfl
theorem State.runs_wrstN :
    s.Runs (.wrstN) (s.dev.begin.askWarm 6) := rfl
theorem State.runs_warm {key : Nat} :
    s.Runs (.warm key) (Acted.dev (s.dev.begin.served .global 0x30 (·.warmWrite key))) := rfl
theorem State.runs_wdogExpiry :
    s.Runs (.wdogExpiry) (s.dev.begin.wdogExpiry) := rfl
theorem State.runs_warmReset :
    s.Runs (.warmReset) (s.dev.begin.warmReset) := rfl
theorem State.runs_blkRst {go : Bool} {num : Nat} :
    s.Runs (.blkRst go num) (Acted.dev (s.dev.begin.served .global 0x34 (·.blkRst go num))) := rfl
theorem State.runs_blockResetDone {num : Nat} :
    s.Runs (.blockResetDone num) (s.dev.begin.blockResetDone num) := rfl
theorem State.runs_halt :
    s.Runs (.halt) (Acted.dev (s.dev.begin.served .debug 0 (·.dbgCmd 1 0))) := rfl
theorem State.runs_resumeDebug :
    s.Runs (.resumeDebug) (Acted.dev (s.dev.begin.served .debug 0 (·.dbgCmd 2 0))) := rfl
theorem State.runs_reset {key : Nat} :
    s.Runs (.reset key) (Acted.dev (s.dev.begin.served .debug 0 (·.dbgCmd 3 key))) := rfl
theorem State.runs_extest {bits : List Bool} :
    s.Runs (.extest bits) (s.dev.begin.tapExtest bits) := rfl
theorem State.runs_idcode :
    s.Runs (.idcode) (s.dev.begin.tapIdcode) := rfl
theorem State.runs_samplePreload {bits : List Bool} :
    s.Runs (.samplePreload bits) (s.dev.begin.tapSample bits) := rfl
theorem State.runs_dbgAccess {op epoch addr data : Nat} :
    s.Runs (.dbgAccess op epoch addr data) (s.dev.begin.dbgAccess op epoch addr data) := rfl
theorem State.runs_tapBypass {code : Nat} :
    s.Runs (.tapBypass code) (s.dev.begin.tapBypass code) := rfl
theorem State.runs_porstNFall :
    s.Runs (.porstNFall) (s.dev.begin.porstFall) := rfl
theorem State.runs_commaAlignment {lane : Nat} :
    s.Runs (.commaAlignment lane) (s.dev.begin.commaAlign lane) := rfl
theorem State.runs_pairHbIEdge :
    s.Runs (.pairHbIEdge) (s.dev.begin.hbEdge) := rfl
theorem State.runs_linkUp {port : Nat} :
    s.Runs (.linkUp port) (s.dev.begin.linkUp port) := rfl
theorem State.runs_idReady :
    s.Runs (.idReady) (s.dev.begin.idReady) := rfl
theorem State.runs_protocolException {ctl : Nat} :
    s.Runs (.protocolException ctl) (s.dev.begin.protocolException ctl) := rfl
theorem State.runs_outtestCheck {pair seenX seenY : Nat} :
    s.Runs (.outtestCheck pair seenX seenY) (s.dev.begin.whenOn .safety (·.outtestCheck pair seenX seenY)) := rfl
theorem State.runs_safetyCauseClear {inst : Nat} :
    s.Runs (.safetyCauseClear inst) (s.dev.begin.causeClear inst) := rfl
theorem State.runs_configurationCheck :
    s.Runs (.configurationCheck) (s.dev.begin.configCheck) := rfl
theorem State.runs_vddAonWakeLevel {a b c d : Straps} {aonOk : Bool} :
    s.Runs (.vddAonWakeLevel a b c d aonOk) (s.dev.begin.aonLevel a b c d aonOk) := rfl

end Sys2Proof.Machine
end

