-- ==== Sys2Proof/Machine/Balls.lean ====
section
/-! DEFINITION. The output balls (R17, R232, R465): which are driven, and at what level. -/

namespace Sys2Proof.Machine

/-- An output ball: a Waymark output, a gate output of leg A or B, a bypass output, the auxiliary supply's switch, a safety output, a test
pulse source, and the heartbeat and state outputs of the cross-link. -/
inductive Ball where
  | wmk (w : Nat)
  | cg (b hi : Bool)
  | byp (y : Bool)
  | auxSw
  | so (k : Nat)
  | tp (k : Nat)
  | pairHb
  | pairAct
deriving DecidableEq, Repr

/-- The level of a leg's output, high-impedance where the leg is not driven (R232, R233). -/
def Leg.ball (g : Leg) (hi : Bool) : Option Bool := if g.drv then some (if hi then g.hi else g.lo) else none

/-- A safety output: the command of the channel that drives it, off while it is pulsed (R314, R326). -/
def Dev.soLevel (s : Dev) (k : Nat) : Bool :=
  s.outOn (decide (k % 2 = 1)) (k / 2) && !(s.flag F.SAFETY_OUT_STAT_TEST (k / 2) && decide (Tab.get 0 s.safe.pulsed (k / 2) = k % 2 + 1))

/-- A ball's level; none is high-impedance. Each is driven only in the role whose block owns it and once that block has enabled it (R13, R16,
R17, R296, R337, R436; log entry 163). -/
def Dev.ball (s : Dev) (b : Ball) : Option Bool :=
  if s.glob.por then none
  else
    match s.role, b with
    | .manager, .wmk w => if s.flag F.ANGLE_WMK_CFG_EN w then some (bitOf s.ang.wmk w) else none
    | .manager, .so k => if s.safe.driven then some (s.soLevel k) else none
    | .manager, .tp _ => if s.safe.driven then some true else none
    | .manager, .pairHb => some s.pair.hb
    | .manager, .pairAct => some s.unitActive
    | .cell, .cg b hi => (if b then s.gate.legB else s.gate.legA).ball hi
    | .cell, .byp false => if bitOf s.gate.fired 0 && !s.gate.dormant then some s.gate.bypX else none
    | .cell, .byp true => if bitOf s.gate.fired 1 && s.gate.yOn then some s.gate.bypY else none
    | .cell, .auxSw => if s.gate.auxDrv && !s.gate.dormant then some s.gate.auxSw else none
    | _, _ => none

end Sys2Proof.Machine
end

