-- ==== Sys2Proof/Tests/Slice0.lean ====
section
/-! SUPPORT. The model's own tests: ill-formed commands that the check refuses, for every statement a state and operands that meet the
hypotheses of each of its clauses, and a few steps with results worked out from the spec. -/

namespace Sys2Proof.Tests

open Sys2Proof.Machine

set_option Elab.async false

/-! ## States -/

/-- A unit in operation in a role, with the given register fields (field, value, indices). -/
def dev (r : Role) (l : List (Fld × Nat × Nat × Nat)) : Dev :=
  l.foldl (fun s x => s.put x.1 x.2.1 x.2.2.1 x.2.2.2) { Dev.off with role := r, glob := { Dev.off.glob with por := false } }

def mgr : Dev := dev .manager []
def conc : Dev := dev .concentrator []
def cell : Dev := dev .cell []

/-- A state with nothing in its queue. -/
def st (d : Dev) : State := { dev := d, pending := [] }

/-! ## Ill-formed commands -/

def noStraps : Straps := { s1 := false, s0 := false, plane := false }
def aFrame (n : Nat) : CanFrame := { id := 1, dlc := n, brs := false, data := [] }

theorem test_wf_refuses_indices : ([.assemblyAbandon 12, .spindleUpdate 12, .deadlineExpiry 64, .ingressWrite 2048, .runDispatch 16, .nop 16,
    .bar2Write 5 0 4 0, .stale 6144, .cellRelease true 12, .cellRelease false 6144, .laneEnable 48, .laneEnable 63, .laneEnable 192,
    .nodeSeen 2 0, .trackerUpdate 4, .probeEdge 4 true, .wmkTgtWrite 8 0, .coverageStall 4, .lineQualify false 16 true, .testPulse 4 0 0,
    .discrepancy 8, .fbFault 8, .offPulse 4 false ⟨false, false⟩, .outtestCheck 4 0 0, .tripInput 8 true, .frameReceive 4 [] true, .svLost 32, .frameLaunch 0 4,
    .reelRelease 0 256, .reelRelease 4 0, .sqDoorbell 0 64 0, .cqEntryWrite 64, .extend 8, .canEnable 2, .clockStop 3, .supplyExcursion ⟨6, true⟩,
    .islandReady 48, .blkRst true 32, .nowCapture 18] : List Instr).all (fun c => !c.wf) = true := by decide +kernel

theorem test_wf_refuses_values : ([.cycleCtlWrite true false 2048, .cyclePhaseWrite (2 ^ 17), .globalCfgSwapWrite (2 ^ 64),
    .registerWrite 18 0 4 0, .registerWrite 0 (2 ^ 32) 4 0, .registerWrite 0 0 2 0, .registerWrite 0 0 8 (2 ^ 64), .slotRateWrite 0 128 0,
    .slotRateWrite 0 1 64, .rateWrite 0 4, .loopWrite 0 8, .adaptWindow 0 [1024] [], .adaptWindow 0 (List.replicate 1023 0) [], .laneLoss 0 ⟨16, []⟩, .laneLoss 0 ⟨1, [1024]⟩, .sofReceive 0 [] true, .roadblock 0 0,
    .rdbkReceive 0 (2 ^ 64) 0 0 0 0, .rdbkReceive 0 0 (2 ^ 64) 0 0 0, .rdbkReceive 0 0 0 (2 ^ 64) 0 0, .rdbkReceive 0 0 0 0 (2 ^ 64) 0,
    .rdbkReceive 0 0 0 0 0 (2 ^ 32), .rrTimeout 0 256 0 0, .rrTimeout 0 0 256 0, .rrTimeout 0 0 0 256, .nodeSeen 0 (2 ^ 32), .desatTrip 16,
    .calStart 65536, .pxMapdig 48 [] true] : List Instr).all (fun c => !c.wf) = true := by decide +kernel

theorem test_wf_refuses_more_values : ([.clockCheck false (2 ^ 32), .testPulse 0 65536 0, .testPulse 0 0 65536, .outtestCheck 0 4 0, .outtestCheck 0 0 4, .tripClr 256,
    .srstPulse (2 ^ 32) 0 0, .srstPulse 0 (2 ^ 32) 0, .srstPulse 0 0 (2 ^ 32), .instReqWrite 256, .reelForce 16, .descriptorFetch 0 [] none,
    .canFrameSent 0 ⟨2 ^ 32, 0⟩, .canFrameSent 0 ⟨0, 2 ^ 16⟩, .canFrameReceived 0 (aFrame 16) false false ⟨0, []⟩, .canError 0 8 true 0, .canError 0 0 true 256, .warm 65536,
    .dbgAccess 16 0 0 0, .dbgAccess 1 16 0 0, .dbgAccess 1 0 (2 ^ 32) 0, .dbgAccess 1 0 0 (2 ^ 64), .tapBypass 256] : List Instr).all
    (fun c => !c.wf) = true := by decide +kernel

theorem test_wf_accepts_the_limits : ([.assemblyAbandon 11, .cellRelease true 11, .cellRelease false 6143, .laneEnable 47, .laneEnable 64,
    .laneEnable 191, .registerWrite 17 0 8 (2 ^ 64 - 1), .descriptorFetch 63 [] (some .timeout), .canFrameReceived 1 (aFrame 15) true true ⟨0, []⟩, .adaptWindow 47 (List.replicate 1024 1023) [], .laneLoss 64 ⟨15, [1023]⟩,
    .dbgAccess 15 15 0 0, .reelRelease 3 255, .roadblock 0 1] : List Instr).all Instr.wf = true := by decide +kernel

/-! ## Witnesses: for each statement, states and operands that meet the hypotheses of its clauses. Hypotheses on a signature hold where the
check of signatures of `Config` accepts, which nothing in the model decides (log entry 2). -/

set_option maxRecDepth 100000 in
theorem witness_StepTakesTheFirst :
    (({ st mgr with pending := [.nowCapture 5, .cycleBoundary] } : State).pending = Instr.nowCapture 5 :: [.cycleBoundary]) ∧
    ((match exec .cycleBoundary (st mgr) with | .next t => t.pending == [] | _ => false) = true) := by
  decide +kernel

set_option maxRecDepth 100000 in
theorem witness_ResetAndIdle :
    ((st mgr).pending = []) ∧
    (mgr.time.fifth < 4) ∧
    (4 ≤ ({ mgr with time := { mgr.time with fifth := 4 } } : Dev).time.fifth) := by
  decide +kernel

set_option maxRecDepth 100000 in
theorem witness_LoomWordsDecode :
    (({ opc := .piOp, pred := 0, rnd := true, satp := true, dst := 0xFFFF, srca := 0xC000, srcb := 0x8000, shf := 15 } : LoomOp).wf = true) ∧
    ((LoomOp.decode 0x30340000C0008008).isSome = true) := by
  decide +kernel

set_option maxRecDepth 100000 in
theorem witness_TimeIncWriteIsChecked :
    (mgr.blockStatus .time 8 = .ok ∧ mgr.role = .manager ∧ mgr.run = false) ∧
    ((let d := dev .manager [(F.GLOBAL_CYCLE_CTL_RUN, 1, 0, 0)]; d.blockStatus .time 8 = .ok ∧ d.run = true ∧ d.tickInc = 0x050000000000)) ∧
    (0x04FEB851EB85 ≤ 0x050000000000 - 54975581 ∧ 0x050000000000 + 54975581 ≤ 0x050147AE147B) ∧
    (¬ (0x04FEB851EB85 ≤ 0x04FEB851EB84) ∧ conc.blockStatus .time 8 = .ok ∧ conc.role ≠ .manager) := by
  decide +kernel

def swMgr : Dev := dev .manager [(F.TIME_STAT_STEP_AVAIL, 1, 0, 0)]

set_option maxRecDepth 100000 in
theorem witness_TimeStepAndSync :
    (mgr.role = .manager ∧ mgr.blockStatus .time 0x10 = .ok ∧ mgr.blockStatus .time 0 = .ok) ∧
    ((dev .manager [(F.GLOBAL_CYCLE_CTL_RUN, 1, 0, 0)]).run = true) ∧
    ((dev .manager [(F.TIME_STAT_STEP_AVAIL, 0, 0, 0)]).f F.TIME_STAT_STEP_AVAIL = 0) ∧
    (swMgr.run = false ∧ swMgr.f F.TIME_STAT_STEP_AVAIL ≠ 0) ∧
    (mgr.f F.TIME_CTL_SYNC = 0 ∧ mgr.f F.TIME_CTL_SYNC ≠ 1) ∧
    ((let d := dev .manager [(F.TIME_CTL_SYNC, 1, 0, 0), (F.TIME_CTL_KICK_TMO, 1, 0, 0)]; d.f F.TIME_CTL_SYNC = 1 ∧ d.f F.TIME_CTL_KICK_TMO ≠ 0)) ∧
    ((let d := dev .manager [(F.TIME_CTL_SYNC, 2, 0, 0), (F.TIME_CTL_HOLD_LIM, 1, 0, 0)]; d.f F.TIME_CTL_SYNC = 2 ∧ d.f F.TIME_CTL_HOLD_LIM ≠ 0)) := by
  decide +kernel

set_option maxRecDepth 100000 in
theorem witness_ReadsThatCapture :
    (mgr.begin.accessCheck 6 .time Blk.time.num 0x20 8 1 false = none) ∧
    (mgr.begin.accessCheck 6 .eth Blk.eth.num 0x200 8 1 false = none ∧ mgr.begin.accessCheck 6 .tollgate Blk.tollgate.num 0x18 8 1 false = none) ∧
    (mgr.begin.accessCheck 6 .angle Blk.angle.num (0x108 + 16 * 3) 8 1 false = none ∧ mgr.role = .manager) ∧
    (conc.begin.accessCheck 6 .can Blk.can.num (0x280 + 256 * 1) 4 1 false = none ∧ conc.role = .concentrator) ∧
    (cell.begin.accessCheck 6 .gate Blk.gate.num 0xF8 8 1 false = none) ∧
    (({ mgr.eth with txts := [{ id := 1, port := 3, time := 0 }] } : Eth).txts = [{ id := 1, port := 3, time := 0 }]) ∧
    (({ mgr.toll with log := [{ master := 1, target := 2, off := 0, acc := 1, life := false, time := 0 }] } : Toll).log = [{ master := 1, target := 2, off := 0, acc := 1, life := false, time := 0 }]) ∧
    (((conc.setCan 1 { conc.canCtl 1 with fifo := [{ frame := aFrame 8, time := 0, esi := false, own := false }] }).canCtl 1).fifo =
      [{ frame := aFrame 8, time := 0, esi := false, own := false }]) := by
  decide +kernel

/-- A swap is pending. -/
def withSwap (target : Nat) (c : Option Status) : Dev :=
  { mgr with glob := { mgr.glob with swap := some { target := target, ring := none, checked := c, exchanged := false, since := 0 } } }

set_option maxRecDepth 100000 in
theorem witness_CycleControlAndSwaps :
    (mgr.blockStatus .global 0x100 = .ok ∧ mgr.blockStatus .global 0x104 = .ok ∧ mgr.blockStatus .global 0x120 = .ok ∧ mgr.role = .manager) ∧
    (10 ^ 9 % (10 * 50) = 0 ∧ 10 ^ 9 % (2000 * 50) = 0 ∧ mgr.phaseNs < 10 * 50 ∧ mgr.run = false ∧ mgr.glob.swapOk = false) ∧
    (conc.role ≠ .manager) ∧
    ((let d := dev .manager [(F.GLOBAL_CYCLE_CTL_RUN, 1, 0, 0)]; d.run = true ∧ 10 ≠ d.f F.GLOBAL_CYCLE_CTL_PERIOD)) ∧
    (({ mgr with glob := { mgr.glob with swapOk := true } } : Dev).glob.swapOk = true) ∧
    (mgr.run = false ∧ 5 % 5 = 0 ∧ 5 < (dev .manager [(F.GLOBAL_CYCLE_CTL_PERIOD, 20, 0, 0)]).perNs ∧ 5 < 2 ^ 17) ∧
    (mgr.glob.swap = none ∧ mgr.begin.nextBoundary = 0) ∧
    ((let d := dev .manager [(F.GLOBAL_CYCLE_CTL_RUN, 1, 0, 0)]; let e : Dev := { d with glob := { d.glob with nextCyc := 2 } }
      e.run = true ∧ 1 < e.begin.nextBoundary ∧ ¬ (2 < e.begin.nextBoundary))) ∧
    (mgr.begin.cycleIdle = true ∧ (dev .manager [(F.GLOBAL_CYCLE_CTL_RUN, 1, 0, 0)]).begin.cycleIdle = false) ∧
    ((mgr.begin.swapChecks (1 - mgr.actSet)).1 = .ok) ∧
    (((mgr.putb F.LOOM_SLOT_CTL_EN 1 1).begin.swapChecks 1).1 ≠ .ok) ∧
    ((withSwap 0 none).glob.swap.isSome = true ∧ (withSwap 0 (some .ok)).glob.swap.any (fun w => w.checked.isSome) = true) := by
  decide +kernel

/-- Cycle 3 has work of a kind for arm 0, in an active unit. -/
def working (k : ArmKind) : Dev :=
  let d := dev .manager [(F.PAIR_STAT_STATE, 2, 0, 0), (F.GLOBAL_CYCLE_CTL_RUN, 1, 0, 0)]
  { d with
    spin := { d.spin with arm := Tab.put [] 0 { d.spArm 0 with sel := some (3, [(0, 1)]), selEnd := 5 } }
    glob := { d.glob with cycles := [⟨3, 0, 0, false, 0, 0,
      [{ arm := 0, kind := k, fin := none, aband := false }], false⟩] } }

set_option maxRecDepth 100000 in
theorem witness_CycleBoundaryAndAssembly :
    ((dev .none []).role = .none ∧ ({ conc with proto := { conc.proto with per := 0 } } : Dev).perNs = 0) ∧
    ((let d : Dev := { conc with proto := { conc.proto with per := 1000 } }; d.role = .concentrator ∧ d.perNs ≠ 0 ∧ d.glob.warm = none)) ∧
    ((let d : Dev := { cell with proto := { cell.proto with per := 1000 } }; d.role = .cell ∧ d.perNs ≠ 0 ∧ d.glob.warm = none)) ∧
    (mgr.role = .manager ∧ mgr.perNs ≠ 0 ∧ mgr.glob.warm = none ∧ mgr.run = false ∧ mgr.glob.swap = none) ∧
    ((working .selection).run = true ∧ (working .selection).perNs ≠ 0) ∧
    ((withSwap 0 (some .ok)).glob.swap.any (fun w => !w.exchanged && w.checked.isSome) = true ∧ (withSwap 0 (some .ok)).run = false) ∧
    ((let d := (withSwap 5 none).put F.GLOBAL_CYCLE_CTL_RUN 1; d.run = true ∧ d.nextBoundary < 5)) ∧
    ((let d := (withSwap 5 none).put F.GLOBAL_CYCLE_CTL_RUN 1; let e : Dev := { d with glob := { d.glob with nextCyc := 5 } }
      e.run = true ∧ 5 ≤ e.nextBoundary ∧ e.glob.swap.any (fun w => w.checked.isNone && decide (w.target ≠ 0)) = true)) ∧
    ((let d := withSwap 0 none; let b : Dev := { d with time := { d.time with frc := 100000 } }
      d.glob.swap.any (fun w => decide (w.since + b.checkBound ≤ b.coreCycle) && w.checked.isNone) = true ∧ (b.swapChecks 1).1 = .ok ∧ d.run = false)) ∧
    (mgr.begin.oldestWork 0 = none ∧ mgr.time.pendStep.isSome = false) ∧
    ((let d := (working .selection).begin; d.oldestWork 0 = some 3 ∧ (d.armWork 3 0).any (fun w => decide (w.kind ≠ .passive)) = true ∧
      d.assemblyStart 3 0 = some (5, [(0, 1)]) ∧ d.unitActive = true ∧ (d.glob.cycles.find? fun c => decide (c.n = 3)).isSome = true ∧
      max d.now (5 + 28) ≤ d.bnd (3 + 2))) ∧
    ((let d := (working .passive).begin; d.oldestWork 0 = some 3 ∧ (d.armWork 3 0).any (fun w => decide (w.kind = .passive)) = true)) ∧
    ((let d := (working .selection).put F.GLOBAL_CYCLE_CTL_RUN 0; d.oldestWork 0 = some 3 ∧ d.run = false)) := by
  decide +kernel

/-- A run of slot `k`, started in cycle 1, of a program of one word at 0. -/
def aRun (k : Nat) : Run := { slot := k, cyc := 1, set := 0, mode := 0, bank := 0, base := 0, len := 1, t0 := 0, arr := [], graft := false, late := false }
def anExec (k pc : Nat) (p : Bool) : Exec := { run := aRun k, pc := pc, p := p, acc := 0, start := 0, el := 0, wrote := [], noGraft := false }
/-- Runs due, a run on shuttle 0, and its program. -/
def loomDev (l : List (Fld × Nat × Nat × Nat)) (due : List Run) (x : Option Exec) (w : Nat) : Dev :=
  let d := dev .manager l
  { d with loom := { d.loom with due := due, sh := (match x with | none => [] | some e => [(0, e)]), prog0 := Mem.store [] 0 8 w } }

set_option maxRecDepth 100000 in
theorem witness_LoomRunsAndMemories :
    (mgr.begin.execOf 0 = none ∧ mgr.begin.runnable 0 = [] ∧ ((loomDev [] [] (some (anExec 3 0 false)) 0).execOf 0).isSome = true) ∧
    ((let d := (loomDev [(F.LOOM_SLOT_CTL_SHUTTLE, 0, 3, 0), (F.LOOM_SLOT_CTL_SHUTTLE, 0, 5, 0)] [aRun 3, aRun 5] none 0).begin
      d.execOf 0 = none ∧ d.runnable 0 = [aRun 3, aRun 5] ∧ d.needsGraft (aRun 3) = false)) ∧
    ((loomDev [] [] none 0).loom.due.find? (fun r => decide (r.slot = 3)) = none) ∧
    ((let d := loomDev [(F.LOOM_SLOT_DEP_EN, 1, 3, 0), (F.LOOM_SLOT_CTL_DEADLINE, 9, 3, 0)] [aRun 3] none 0
      d.loom.due.find? (fun r => decide (r.slot = 3)) = some (aRun 3) ∧ d.fs 0 F.LOOM_SLOT_CTL_DEADLINE 3 ≠ 0 ∧ d.begin.runReady (aRun 3) = false)) ∧
    ((loomDev [] [aRun 3] none 0).fs 0 F.LOOM_SLOT_CTL_DEADLINE 3 = 0) ∧
    ((anExec 3 0 false).pc < (aRun 3).len ∧ (aRun 3).len ≤ (anExec 3 1 false).pc) ∧
    (Tab.find mgr.loom.latch 7 = none) ∧
    ((let d : Dev := { mgr with loom := { mgr.loom with latch := [(7, 5)] } }; let e := d.put F.LOOM_IN_MAP_SRC 4 7
      let n := d.glob.nextCyc - 1
      Tab.find e.loom.latch 7 = some 5 ∧ e.begin.ingressValue (e.begin.cycSet n) n 7 = some none)) ∧
    ((let d : Dev := { mgr with loom := { mgr.loom with latch := [(7, 5)] } }; let e := (d.put F.LOOM_IN_MAP_SRC 5 7).put F.LOOM_IN_MAP_EN 1 7
      let n := d.glob.nextCyc - 1
      Tab.find e.loom.latch 7 = some 5 ∧ (e.begin.ingressValue (e.begin.cycSet n) n 7).any Option.isSome = true)) ∧
    (bar2Form 0 4 = false ∧ bar2Form 0 8 = true ∧ bar2Form 0x5FFFFC 4 = true ∧ bar2Form 0x600000 4 = true ∧ bar2Set 0x600000 = true ∧ bar2Set 0x5FFFFC = false) ∧
    ((let d := mgr; d.role = .manager ∧ (d.begin.accessCheck 0 .loom 18 0x1FFFF8 8 (bar2Acc 0x1FFFF8) false).isNone = true ∧ d.flag F.LOOM_CTL_VIEW = false ∧
      d.glob.swap = none ∧ (d.begin.accessCheck 0 .loom 18 0x600000 4 (bar2Acc 0x600000) false).isNone = true ∧
      (d.begin.accessCheck 0 .loom 18 0x200000 4 (bar2Acc 0x200000) false).isNone = true ∧ d.begin.sameCycle 0 d.now = none)) ∧
    ((withSwap 0 none).glob.swap.isSome = true ∧ ((withSwap 0 none).begin.accessCheck 0 .loom 18 0 8 (bar2Acc 0) false).isNone = true) ∧
    ((dev .manager [(F.LOOM_CTL_VIEW, 1, 0, 0)]).flag F.LOOM_CTL_VIEW = true) ∧
    ((dev .none []).role = .none ∧ (dev .manager [(F.LOOM_CTL_SCRUB_EN, 0, 0, 0)]).f F.LOOM_CTL_SCRUB_EN = 0) ∧
    ((let d := dev .manager [(F.LOOM_CTL_SCRUB_EN, 1, 0, 0)]; d.role ≠ .none ∧ blkOn d.role .loom = true ∧ d.blkGated .loom = false ∧ d.gate.dormant = false ∧
      d.f F.LOOM_CTL_SCRUB_EN ≠ 0 ∧ d.loom.ecc = [])) ∧
    (mgr.blockStatus .loom 0 = .ok ∧ mgr.blockStatus .loom (0x1004 + 64 * 63) = .ok) := by
  decide +kernel

/-- MOVI 0x0001_0000 to word 0, with a predicate. -/
def aWord (pred : Nat) : Nat := (LoomOp.mk .moviOp pred false false 0 1 0 0).encode

set_option maxRecDepth 100000 in
theorem witness_LoomInstructions :
    (mgr.begin.execOf 0 = none) ∧
    ((let d := (loomDev [] [] (some (anExec 3 1 false)) 0).begin; d.execOf 0 = some (anExec 3 1 false) ∧ d.nextOp (anExec 3 1 false) = none)) ∧
    ((let d := (loomDev [] [] (some (anExec 3 0 false)) (aWord 0)).begin; (d.nextOp (anExec 3 0 false)).any (fun i => decide (i.opc = .moviOp) &&
      i.runs false && !d.isHandOver (aRun 3) i) = true ∧ d.loom.ecc = [] ∧ (Isa.movi (d.operands (anExec 3 0 false) (LoomOp.mk .moviOp 0 false false 0 1 0 0))).wr = [(0, 0x10000)] ∧
      d.sameCycle 0 ((anExec 3 0 false).time + 1 - 1) = none)) ∧
    ((let d := (loomDev [] [] (some (anExec 3 0 false)) (aWord 1)).begin; (d.nextOp (anExec 3 0 false)).any (fun i => !i.runs false) = true)) ∧
    ((let d := loomDev [] [] (some (anExec 3 0 false)) (aWord 0); let e : Dev := { d with loom := { d.loom with ecc := [(eccProg 0 0, 2)] } };
      (eccProg 0 0, 2) ∈ e.loom.ecc ∧ (e.begin.nextOp (anExec 3 0 false)).isSome = true)) ∧
    ((let d := dev .manager [(F.LOOM_MODE_STAT_PENDING, 1, 3, 0), (F.LOOM_HO_WINDOW_WINDOW, 0x10000, 3, 0)]
      d.flag F.LOOM_MODE_STAT_PENDING 3 = true ∧ (d.hoOf 3).cyc ≤ (aRun 3).cyc ∧ d.flag F.LOOM_MODE_STAT_SLEWING 3 = false ∧
      sgn 32 (readBefore (d.ramWord (d.hoOf 3).oldRec) (d.hoOf 3).oldRec 0 d.loom.recent) = 0 ∧ 0x10000 ≤ d.fs 0 F.LOOM_HO_WINDOW_WINDOW 3)) := by
  decide +kernel

/-- Operands of an instruction of Loom. -/
def ops (a : Int) (b d : List Int) (shf : Nat) (rnd : Bool) : LCtx :=
  { d := fun j => d.getD j 0, a := fun _ => a, b := fun j => b.getD j 0, imm := 0, shf := shf, rnd := rnd, p := false, acc := 0, room := 8192 }

set_option maxRecDepth 100000 in
theorem witness_LoomArithmetic :
    ((0 : Int) ≤ (ops 3 [1, 2] [] 0 false).b 0 ∧ (ops 3 [1, 2] [] 0 false).b 0 ≤ (ops 3 [1, 2] [] 0 false).b 1) ∧
    ((ops 3 [2, 1] [] 0 false).b 1 < (ops 3 [2, 1] [] 0 false).b 0) ∧
    ((let c := ops 0x10000 [0x10000, 0, 0x8000, -0x8000] [0, 5] 0 false; c.b 3 ≤ c.b 2 ∧ c.b 2 < c.prod (c.b 0) (c.a 0) + c.d 1 ∧ 0 < c.a 0)) ∧
    ((let c := ops (-0x10000) [0x10000, 0, 0x8000, -0x8000] [0, 5] 0 false; c.prod (c.b 0) (c.a 0) + c.d 1 < c.b 3 ∧ c.a 0 < 0)) ∧
    ((let c := ops 0 [0, 0, -1, 1] [0, 0] 0 false; c.b 2 < c.b 3)) ∧
    ((let c := ops (2 ^ 31 - 1) [] [] 15 false; 0 ≤ c.a 0 ∧ c.a 0 < 2 ^ 31 ∧ c.shf < 16 ∧ c.rnd = false)) ∧
    ((ops (-1) [1] [] 0 true).a 0 < 0 ∧ (ops (-1) [1] [] 0 true).b 0 ≠ 0 ∧ (ops 0 [] [] 0 false).b 0 = 0) ∧
    ((let c := ops 0x100 [2 + 8 * 2 ^ 27, 0, 7, 9] [] 0 false; let h := wrap 32 (c.b 0); 2 ≤ bits h 0 13 ∧ bits h 13 14 = 0 ∧ 2 + bits h 0 13 ≤ c.room ∧
      c.a 0 - c.b 1 = ((1 : Nat) : Int) * 2 ^ (bits h 27 5) ∧ 1 < bits h 0 13)) ∧
    ((let c := ops (-1) [2, 0, 7, 9] [] 0 false; c.a 0 < c.b 1)) ∧
    ((let c := ops 2 [2, 0, 7, 9] [] 0 false; (((bits (wrap 32 (c.b 0)) 0 13 : Nat) : Int) - 1) * 2 ^ (bits (wrap 32 (c.b 0)) 27 5) < c.a 0 - c.b 1)) := by
  decide +kernel

/-- A MANAGER with SPINDLE enabled, cell 7 on arm 0 in the given record. -/
def spinDev (l : List (Fld × Nat × Nat × Nat)) (c : SpCell) : Dev :=
  (dev .manager ([(F.SPINDLE_CTL_EN, 1, 0, 0), (F.TRUNK_CELL_MAP_VALID, 1, 7, 0)] ++ l)).setSpCell 7 c
def cellIn (s : Nat) : SpCell := { SpCell.invalid with st := s }
def activeSpin (c : SpCell) : Dev := spinDev [(F.PAIR_STAT_STATE, 2, 0, 0)] c

set_option maxRecDepth 100000 in
theorem witness_SpindleUpdate :
    (conc.role ≠ .manager ∧ mgr.flag F.SPINDLE_CTL_EN = false ∧ mgr.spNext 0 = none) ∧
    ((let d := (spinDev [] (cellIn 1)).setSpArm 1 { SpArm.idle with heldW := some (0, 0x10000, 0) }
      d.begin.spNext 1 = some (0, 0x10000, 0) ∧ d.begin.armCells (d.begin.cycSet 0) 1 = [])) ∧
    ((let d := (spinDev [] (cellIn 1)).setSpArm 0 { SpArm.idle with heldW := some (0, 0x10000, 0) }
      d.role = .manager ∧ d.flag F.SPINDLE_CTL_EN = true ∧ d.begin.spNext 0 = some (0, 0x10000, 0) ∧ d.begin.armCells (d.begin.cycSet 0) 0 = [7])) ∧
    ((let d := (spinDev [] (cellIn 1)).setSpArm 0 { SpArm.idle with heldW := some (1, 0x10000, 0) }; d.begin.selectionDue 0 0 = false)) ∧
    ((working .selection).begin.selectionDue 3 0 = false ∧ (let d := working .selection; (d.setSpArm 0 { d.spArm 0 with sel := none }).begin.selectionDue 3 0 = true)) := by
  decide +kernel

set_option maxRecDepth 100000 in
theorem witness_SpindleEstimates :
    ((cellIn 0).st = 0 ∧ (cellIn 0).capDue = none) ∧
    ((cellIn spAvailable).st ≠ 0 ∧ (({ cellIn spAvailable with ecc := [(2, 1), (5, 2)] } : SpCell).ecc.filter fun e => decide (e.2 = 2)).length ≠ 0) ∧
    ((let c := cellIn spAvailable; c.st ≠ spBypassed ∧ c.ecc = [] ∧ c.capDue = none ∧ c.usable 3 1 = none ∧ c.st ≠ spPending)) ∧
    (({ cellIn spAvailable with reps := [⟨2, 100, 0, 0, true⟩] } : SpCell).usable 3 1 = some ⟨2, 100, 0, 0, true⟩) ∧
    (({ cellIn spPending with reps := [⟨2, 100, 0, 0, true⟩] } : SpCell).usable 3 1 = some ⟨2, 100, 0, 0, true⟩ ∧ (cellIn spPending).close = false) ∧
    ((let e := spinDev [(F.LANE_LANE_STAT_STATE, lRun, 0, 0)] (cellIn spPending); let d : Dev := { e with proto := { e.proto with run := [(0, 1)] } }; d.idState 7 = .ok)) := by
  decide +kernel

set_option maxRecDepth 100000 in
theorem witness_CellStateEvents :
    ((let d := spinDev [] { cellIn spAvailable with age := mgr.fa F.SPINDLE_EST_CFG_STALE_LIM }; let c := d.spCell 7
      c.st ≠ 0 ∧ c.st ≠ spBypassed ∧ d.fa F.SPINDLE_EST_CFG_STALE_LIM ≤ c.age)) ∧
    ((cellIn 0).st = 0 ∧ (cellIn spBypassed).st = spBypassed) ∧
    ((let d := spinDev [(F.SPINDLE_EXCL_CNT_EXCL_CNT, 3, 0, 0)] { cellIn spAvailable with bad := 3 }; let c := d.spCell 7
      c.st = spAvailable ∧ bitOf c.cause cDRIFT = false ∧ d.fs 0 F.SPINDLE_EXCL_CNT_EXCL_CNT ≤ c.bad ∧ c.close = false)) ∧
    ((2 : Nat) < (spinDev [(F.SPINDLE_EXCL_CNT_EXCL_CNT, 3, 0, 0)] { cellIn spAvailable with bad := 2 }).fs 0 F.SPINDLE_EXCL_CNT_EXCL_CNT) ∧
    ((let d := spinDev [(F.SPINDLE_EXCL_CNT_READMIT_CNT, 4, 0, 0)] { cellIn spProbation with good := 4 }; let c := d.spCell 7
      c.st = spProbation ∧ d.fs 0 F.SPINDLE_EXCL_CNT_READMIT_CNT ≤ c.good ∧ c.cause = 0 ∧ c.close = false)) ∧
    ((let d := spinDev [(F.SPINDLE_EXCL_CNT_STRIKE_MAX, 2, 0, 0)] { cellIn spExcluded with strikes := 2 }; let c := d.spCell 7
      d.fs 0 F.SPINDLE_EXCL_CNT_STRIKE_MAX ≠ 0 ∧ d.fs 0 F.SPINDLE_EXCL_CNT_STRIKE_MAX ≤ c.strikes ∧ c.st ≠ 0 ∧ c.st ≠ spBypassed ∧ c.st ≠ spClosing ∧
      c.st ≠ spLocked ∧ c.close = false)) ∧
    ((let d := spinDev [(F.SPINDLE_EXCL_CNT_STRIKE_DECAY, 0, 0, 0)] { cellIn spAvailable with availN := 1024 }; let c := d.spCell 7
      c.st = spAvailable ∧ 2 ^ (d.fa F.SPINDLE_EXCL_CNT_STRIKE_DECAY + 10) ≤ c.availN)) ∧
    ((let d := spinDev [] { cellIn spExcluded with cause := 2 ^ cDRIFT }; let e : Dev := { d with glob := { d.glob with nextCyc := 10 ^ 6 } }; let c := e.spCell 7
      c.st = spExcluded ∧ c.cause = 2 ^ cDRIFT ∧ c.drift + e.fs 0 F.SPINDLE_HOLD_READMIT_HOLD ≤ e.glob.nextCyc)) ∧
    ((let c : SpCell := { cellIn spClosing with closeT := 16, closeN := 2 }; c.st = spClosing ∧ c.closeT = 16 ∧ c.closeN < 3)) ∧
    ((let c : SpCell := { cellIn spClosing with closeT := 16, closeN := 3 }; c.st = spClosing ∧ c.closeT = 16 ∧ 3 ≤ c.closeN)) ∧
    ((let d : Dev := { mgr with glob := { mgr.glob with nextCyc := 1 } }; d.glob.nextCyc ≠ 0 ∧ (d.glob.nextCyc - 1) % 2 ^ (d.fs 0 F.SPINDLE_ARM_RATE_RATE_WIN 11) = 0)) ∧
    (mgr.glob.nextCyc = 0) ∧
    ((let d := spinDev [] { cellIn spAvailable with capDue := some (some 100, 2 ^ 30, some 200) }; 7 ∈ d.begin.armCells 0 0 ∧
      (d.spCell 7).capDue = some (some 100, 2 ^ 30, some 200))) ∧
    (capRatio 0 (some 0) (some 0x8000) (2 ^ 31) = some 0x40000000 ∧ capRatio 0 none none 0 = none) := by
  decide +kernel

set_option maxRecDepth 100000 in
theorem witness_SelectionRuns :
    (mgr.unitActive = false ∧ mgr.flag F.SPINDLE_CTL_EN = false ∧ ((activeSpin (cellIn 1)).spArm 0).wk.find? ((activeSpin (cellIn 1)).begin.workReady 0) = none) ∧
    ((let d := (activeSpin (cellIn 1)).setSpArm 0 { SpArm.idle with wk := [⟨3, some 1, some 0, none, 0⟩] }
      (d.spArm 0).wk.find? (d.begin.workReady 0) = some ⟨3, some 1, some 0, none, 0⟩ ∧ d.begin.selectionDue 3 0 = false)) ∧
    ((let e := activeSpin (cellIn 1)
      let d : Dev := ({ e with glob := { e.glob with cycles := (working .selection).glob.cycles } } : Dev).setSpArm 0 { SpArm.idle with wk := [⟨3, some 1, some 0, none, 0⟩] }
      d.unitActive = true ∧ d.flag F.SPINDLE_CTL_EN = true ∧ (d.spArm 0).sel = none ∧ (d.spArm 0).wk.find? (d.begin.workReady 0) = some ⟨3, some 1, some 0, none, 0⟩ ∧
      d.begin.selectionDue 3 0 = true ∧ (d.spArm 0).upd = 0)) := by
  decide +kernel

set_option maxRecDepth 100000 in
theorem witness_SelectionReachesTheCount :
    ((let l : List SelCell := [⟨1, 0, 5, false, 1, true⟩, ⟨2, 1, 4, false, 0, true⟩, ⟨3, 2, 9, true, 2, false⟩]; (l.map SelCell.g).Nodup ∧ (∀ c ∈ l, c.code < 3) ∧
      2 ≤ (l.filter SelCell.elig).length)) := by
  decide +kernel

set_option maxRecDepth 100000 in
theorem witness_SpindleHostCommands :
    (mgr.blockStatus .spindle 0x30 = .ok ∧ mgr.blockStatus .spindle 0x34 = .ok ∧ (mgr.spCell 6143).st = 0) ∧
    ((let d := activeSpin (cellIn spAvailable); d.blockStatus .spindle 0x30 = .ok ∧ (d.spCell 7).st = spAvailable ∧ d.unitActive = true ∧ d.flag F.SPINDLE_CTL_EN = true ∧
      ((d.begin.armCells d.actSet 0).filter fun h => decide ((d.spCell h).st ≠ 0) && decide ((d.spCell h).st ≠ spBypassed)) = [7])) ∧
    ((let d := activeSpin (cellIn spBypassed); ((d.begin.armCells d.actSet 0).filter fun h => decide ((d.spCell h).st ≠ 0) && decide ((d.spCell h).st ≠ spBypassed)) = [])) ∧
    ((spinDev [] (cellIn 1)).unitActive = false) ∧
    ((let e := activeSpin (cellIn spAvailable); let d : Dev := { e with spin := { e.spin with reqs := [{ cells := [7], op := 6, desc := none, fn := none }] } }
      ∃ q ∈ d.spin.reqs, q.desc = none ∧ q.fn = none ∧ (q.cells.any fun h => [7].contains h) = true)) ∧
    ((activeSpin (cellIn spPending)).spin.recPend = none ∧ (activeSpin (cellIn spPending)).spCell 7 ≠ cellIn spAvailable) ∧
    ((activeSpin (cellIn spPending)).recBusy = false ∧ ((activeSpin (cellIn spPending)).put F.SPINDLE_REC_IDX_BUSY 1).recBusy = true) := by
  decide +kernel

/-- A device with a lane in the given state, with the given fields. -/
def laneDev (r : Role) (L s : Nat) (l : List (Fld × Nat)) (x : LaneSt) : Dev :=
  (l.foldl (fun d p => d.putLn p.1 L p.2) ((dev r []).putLn F.LANE_LANE_STAT_STATE L s)).setLane L x
def laneOn (r : Role) (L s : Nat) (l : List (Fld × Nat)) : Dev := laneDev r L s ((F.LANE_LANE_CFG_EN, 1) :: l) LaneSt.fresh

set_option maxRecDepth 100000 in
theorem witness_LaneConfiguration :
    ((let d := laneDev .manager 47 0 [] LaneSt.fresh; d.hasLane 47 = true ∧ d.blockStatus (laneBlk 47) (laneReg 47 0) = .ok ∧ d.lState 47 = lDisabled ∧
      d.ln F.LANE_LANE_CFG_LOOP 47 = 0 ∧ d.ln F.LANE_LANE_CFG_PWR 47 ≠ 2 ∧ d.ln F.LANE_LANE_CFG_RATE 47 < 3 ∧ d.isUp 47 = true ∧
      (∀ g ∈ [F.LANE_LANE_CFG_EN, F.LANE_LANE_CFG_PWR, F.LANE_LANE_CFG_LOOP, F.LANE_LANE_CFG_TXINV, F.LANE_LANE_CFG_RXINV, F.LANE_LANE_CFG_RATE,
      F.LANE_LANE_CFG_ASYM], d.ln g 47 < 2 ^ g.w))) ∧
    ((let d := laneOn .manager 191 lRun [(F.LANE_LANE_CFG_RATE, 2)]; d.hasLane 191 = true ∧ d.blockStatus (laneBlk 191) (laneReg 191 0) = .ok ∧ d.isUp 191 = true ∧
      d.blockStatus (laneBlk 191) (laneReg 191 0x2C) = .ok ∧ d.ln F.LANE_LANE_CFG_EN 191 = 1 ∧ d.ln F.LANE_LANE_CFG_LOOP 191 = 0 ∧ 2 ≤ d.lState 191 ∧ d.lState 191 ≤ 5 ∧
      0 ≠ d.ln F.LANE_LANE_CFG_RATE 191 ∧ d.loopBusy 191 = false ∧ 1 ≠ d.ln F.LANE_LANE_STAT_PSTATE 191 ∧ d.ln F.LANE_LANE_STAT_PSTATE 191 ≠ 3 ∧ d.inL01 191 = true)) ∧
    ((let d := laneOn .cell 65 lDetect []; d.hasLane 65 = true ∧ d.isUp 65 = false ∧ d.blockStatus (laneBlk 65) (laneReg 65 0) = .ok ∧ d.lState 65 ≠ lDisabled ∧ d.lState 65 < 2)) ∧
    ((let e := (laneOn .cell 64 lRun []).put F.GATE_STAT_STATE gRun
      let d : Dev := { e with gate := { e.gate with fplane := 1 }, proto := { e.proto with sof := [(64, ⟨1, true, false, false, 0, 0, 0, false⟩)] } }
      d.ln F.LANE_LANE_CFG_LOOP 64 ≠ 3 ∧ d.loopBusy 64 = true)) ∧
    ((let d := laneOn .manager 0 lLoop [(F.LANE_LANE_CFG_LOOP, 1)]; d.ln F.LANE_LANE_CFG_LOOP 0 ≠ 0 ∧ d.lState 0 = lLoop ∧ d.blockStatus (laneBlk 0) (laneReg 0 0) = .ok)) ∧
    ((let d := laneOn .manager 0 lRun [(F.LANE_LANE_STAT_PSTATE, 3)]; d.ln F.LANE_LANE_STAT_PSTATE 0 = 3 ∧ 1 ≠ d.ln F.LANE_LANE_STAT_PSTATE 0 ∧ d.lState 0 = lRun)) := by
  decide +kernel

set_option maxRecDepth 100000 in
theorem witness_LaneTraining :
    ((let d := laneOn .cell 64 lDetect []; d.hasLane 64 = true ∧ d.isUp 64 = false ∧ d.attempting 64 = true ∧ (d.lane 64).hunt < 3 ∧ d.ln F.LANE_LANE_CFG_RATE 64 < 4 ∧ d.role ≠ .manager)) ∧
    ((let d := laneOn .manager 0 lDetect []; d.hasLane 0 = true ∧ d.isUp 0 = true ∧ d.attempting 0 = true)) ∧
    ((let d := laneOn .manager 0 lAlign []; d.attempting 0 = false ∧ d.lState 0 = lAlign ∧ d.ln F.LANE_LANE_STAT_HOLDOFF 0 = 0)) ∧
    ((let d := laneDev .manager 0 lAlign [] { LaneSt.fresh with aligned := true }; (d.lane 0).aligned = true ∧ (d.lane 0).trn = 0)) ∧
    ((let d := laneDev .manager 0 lAlign [] { LaneSt.fresh with aligned := true, trn := 1 }; (d.lane 0).aligned = true ∧ (d.lane 0).trn ≠ 0)) ∧
    ((let d := laneDev .manager 64 lAdapt [(F.LANE_LANE_PEER_P_ROLE, 3)] { LaneSt.fresh with settled := true }; d.lState 64 = lAdapt ∧ (d.lane 64).settled = true ∧ d.pairingOk 64 = true)) ∧
    ((let d := laneDev .manager 64 lAdapt [(F.LANE_LANE_PEER_P_ROLE, 1), (F.LANE_LANE_STAT_RETRY, 7)] { LaneSt.fresh with settled := true }; d.lState 64 = lAdapt ∧ d.pairingOk 64 = false ∧
      d.ln F.LANE_LANE_STAT_RETRY 64 < 8 ∧ (d.lane 64).once = false)) ∧
    ((let d := laneDev .manager 0 lAdapt [] LaneSt.fresh; d.lState 0 = lAdapt ∧ (d.lane 0).settled = false)) ∧
    ((let d := laneDev .manager 0 lSync [] { LaneSt.fresh with meas := true }; d.lState 0 = lSync ∧ d.isUp 0 = true ∧ (d.lane 0).meas = true)) ∧
    ((let d := laneDev .manager 0 lSync [(F.LANE_LANE_STAT_RETRY, 8)] LaneSt.fresh; 2 ≤ d.lState 0 ∧ d.lState 0 ≤ 4 ∧ 8 ≤ d.ln F.LANE_LANE_STAT_RETRY 0)) ∧
    ((laneOn .manager 0 lRun []).lState 0 = lRun ∧ (laneOn .manager 0 lAbsent []).lState 0 = lAbsent ∧ (laneOn .manager 0 lRun []).inL01 0 = true) ∧
    ((307199 : Nat) < 30 * 10240 ∧ 30 * 10240 ≤ 307200 ∧ 3072 * 100 = 307200 ∧ (3071 : Nat) * 100 < 30 * 10240) ∧
    ((let d := laneOn .manager 0 lRun []; let g := List.replicate 320 0x2AA; 30 * 10240 ≤ transitions (d.lane 0).bit g * 100 ∧ (d.begin.rxCount 0 g).1.cause = 0 ∧
      (d.begin.rxCount 0 []).1.cause = 0 ∧ transitions (d.lane 0).bit [] * 100 < 30 * 10240)) ∧
    ((let d := laneOn .manager 0 lRun []; let r := d.begin.rxCount 0 (List.replicate 64 0); 1 ≤ r.1.cause ∧ r.1.cause ≤ 3)) ∧
    ((laneOn .manager 0 lLoop [(F.LANE_LANE_CFG_LOOP, 1)]).nearLoop 0 = true ∧ (laneOn .manager 0 lDetect []).nearLoop 0 = false ∧ (laneOn .manager 0 lDetect []).decoding 0 = false) ∧
    ((laneOn .manager 0 lRun [(F.LANE_LANE_STAT_ADAPT_FROZEN, 1)]).ln F.LANE_LANE_STAT_ADAPT_FROZEN 0 ≠ 0 ∧ (laneOn .manager 0 lRun []).ln F.LANE_LANE_STAT_ADAPT_FROZEN 0 = 0) ∧
    ((laneOn .manager 0 lSync []).lState 0 ≠ lAdapt ∧ (laneOn .manager 0 lSync []).inL01 0 = false) := by
  decide +kernel

set_option maxRecDepth 100000 in
theorem witness_LaneInOperation :
    ((let d := laneOn .manager 0 lRun []; d.hasLane 0 = true ∧ d.inL01 0 = true ∧ d.isUp 0 = true)) ∧
    ((let d := laneOn .manager 0 lSync []; d.inL01 0 = false ∧ d.lState 0 ≠ lLoop ∧ d.isUp 0 = true ∧ d.lState 0 = lSync ∧ (d.lane 0).meas = false ∧ (d.lane 0).rks.length < 63 ∧
      (((512000 : Nat) : Int) - ((0 : Nat) : Int)) - (((0 : Nat) : Int) - ((0 : Nat) : Int)) ≤ 512000 ∧ d.ln F.LANE_LANE_STAT_RETRY 0 < 8 ∧ (d.lane 0).once = false)) ∧
    ((laneDev .manager 0 lSync [] { LaneSt.fresh with rks := List.replicate 63 0 }).lane 0 = { LaneSt.fresh with rks := List.replicate 63 0 } ∧ 63 ≤ (List.replicate 63 (0 : Int)).length) ∧
    ((let d := laneDev .manager 0 lRun [] { LaneSt.fresh with rem := true, rks := List.replicate 7 0 }; d.inL01 0 = true ∧ (d.lane 0).rem = true ∧ 7 ≤ (d.lane 0).rks.length ∧
      (hopDelay (0 :: (d.lane 0).rks) 1 (sgn 16 (d.ln F.LANE_LANE_CFG_ASYM 0)) - (d.ln F.LANE_LANE_DELAY_DELAY 0 : Nat)).natAbs ≤ d.blkLn F.LANE_REMEAS_CFG_JUMP_LIM 0)) ∧
    ((let d := laneDev .manager 0 lRun [(F.LANE_LANE_DELAY_DELAY, 100000)] { LaneSt.fresh with rem := true, rks := List.replicate 7 0 };
      d.blkLn F.LANE_REMEAS_CFG_JUMP_LIM 0 < (hopDelay (0 :: (d.lane 0).rks) 1 (sgn 16 (d.ln F.LANE_LANE_CFG_ASYM 0)) - (d.ln F.LANE_LANE_DELAY_DELAY 0 : Nat)).natAbs ∧
      (d.lane 0).follow = false ∧ (d.lane 0).jump < 3 ∧ d.ln F.LANE_LANE_DELAY_DELAY 0 < 2 ^ 32)) ∧
    ((laneOn .cell 64 lRun []).isUp 64 = false ∧ (laneOn .cell 64 lRun []).inL01 64 = true) ∧
    ((dev .manager [(F.LANE_REMEAS_CFG_INTERVAL, 1, 0, 0)]).blkLn F.LANE_REMEAS_CFG_INTERVAL 0 ≠ 0 ∧ (dev .manager [(F.LANE_REMEAS_CFG_INTERVAL, 0, 0, 0)]).blkLn F.LANE_REMEAS_CFG_INTERVAL 0 = 0) ∧
    ((let d := laneDev .manager 0 lRun [(F.LANE_LANE_STAT_PSTATE, 3)] { LaneSt.fresh with exit := some 0 }; (d.lane 0).exit = some 0 ∧ d.lState 0 = lRun ∧ d.ln F.LANE_LANE_STAT_PSTATE 0 = 3 ∧
      (hopDelay (List.replicate 8 0) 1 (sgn 16 (d.ln F.LANE_LANE_CFG_ASYM 0)) - (d.ln F.LANE_LANE_DELAY_DELAY 0 : Nat)).natAbs ≤ d.blkLn F.LANE_REMEAS_CFG_JUMP_LIM 0 ∧
      d.blkLn F.LANE_REMEAS_CFG_JUMP_LIM 0 < (hopDelay (List.replicate 8 (10 ^ 6)) 1 (sgn 16 (d.ln F.LANE_LANE_CFG_ASYM 0)) - (d.ln F.LANE_LANE_DELAY_DELAY 0 : Nat)).natAbs)) ∧
    ((let d := laneOn .manager 0 lLoop [(F.LANE_LANE_CFG_LOOP, 3)]; d.lState 0 = lLoop ∧ d.ln F.LANE_LANE_CFG_LOOP 0 = 3 ∧ (d.put F.LANE_LOOP_CFG_LOOP_TMO 1).blkLn F.LANE_LOOP_CFG_LOOP_TMO 0 ≠ 0)) := by
  decide +kernel

set_option maxRecDepth 100000 in
theorem witness_SofAtADownstreamEnd :
    (mgr.hasLane 48 = false ∧ (laneOn .concentrator 0 lRun []).inRun 0 = true ∧ (laneOn .concentrator 0 lSync []).inRun 0 = false) ∧
    ((let d := laneDev .concentrator 0 lSync [] { LaneSt.fresh with meas := true }; d.hasLane 0 = true ∧ d.lState 0 = lSync ∧ d.isUp 0 = false ∧ (d.lane 0).meas = true ∧ d.role = .concentrator)) ∧
    ((laneOn .manager 0 lSync []).isUp 0 = true ∧ (laneOn .manager 0 lSync []).inRun 0 = false) ∧
    ((let d := laneOn .concentrator 0 lRun [(F.LANE_LANE_STAT_TIME_VALID, 1)]; d.inRun 0 = true ∧ 0 = d.srcTrunk ∧ d.ln F.LANE_LANE_STAT_TIME_VALID 0 ≠ 0 ∧
      (beaconOf (List.replicate 20 0) + (d.ln F.LANE_LANE_DELAY_DELAY 0 : Int) * 2 ^ 32 - d.nowFix).natAbs ≤ 8 * nsFix ∧
      8 * nsFix < (beaconOf (List.replicate 20 1) + (d.ln F.LANE_LANE_DELAY_DELAY 0 : Int) * 2 ^ 32 - d.nowFix).natAbs)) ∧
    ((1 : Nat) ≠ (laneOn .concentrator 1 lRun []).srcTrunk ∧ (laneOn .concentrator 1 lRun []).inRun 1 = true) ∧
    ((let d := laneOn .cell 64 lRun []; d.inRun 64 = true ∧ d.role = .cell ∧ d.inL0 64 = true ∧ d.isUp 64 = false ∧ (SofSeen.ofBytes (List.replicate 20 0) 0).trip = false ∧
      (SofSeen.ofBytes (List.replicate 20 0xFF) 0).trip = true)) := by
  decide +kernel

/-- A slot word of a milestone entry, and a leaf entry that carries it. -/
def entry (op param exec : Nat) : List Byte := [0x80, 0x80] ++ beBytes 2 0 ++ [0, 0, 0, 0] ++ beBytes 4 exec ++ beBytes 4 0 ++ beBytes 4 5000 ++ beBytes 4 0 ++ beBytes 2 (slotWord op param)
def gc (op param : Nat) : GCmd := { op := op, param := param, exec := 0, cv := true, duty := 0, cper := 2000, cphase := 0 }
def slotOf (l : List Byte) : Nat := fieldBE l 24 2
/-- A cell that follows plane A on lane 64. -/
def follower (l : List (Fld × Nat × Nat × Nat)) : Dev :=
  let d := l.foldl (fun s x => s.put x.1 x.2.1 x.2.2.1 x.2.2.2) (laneOn .cell 64 lRun [])
  { d with gate := { d.gate with fplane := 1 }, proto := { d.proto with sof := [(64, ⟨1, true, false, false, 0, 0, 0, false⟩)] } }

set_option maxRecDepth 100000 in
theorem witness_MilestonesAndTelemetry :
    ((let d := laneOn .concentrator 0 lRun []; d.role = .concentrator ∧ d.inL0 0 = true ∧ d.begin.trunkSof = none)) ∧
    ((List.replicate 26 (0 : Byte)).length = 26 ∧ (let l : List Byte := [0, 1, 127]; field l 2 1 + field l 1 1 ≤ 128 ∧ ¬ (128 < field l 2 1 + field l 1 1)) ∧ (let l : List Byte := [0, 2, 127]; 128 < field l 2 1 + field l 1 1)) ∧
    ((let d := laneOn .concentrator 0 lRun []; let e : Dev := { d with proto := { d.proto with per := 1000, sof := [(0, ⟨1, true, false, false, 0, 0, 0, false⟩)] } }; e.begin.trunkSof ≠ none)) ∧
    (mgr.role ≠ .concentrator ∧ (laneOn .concentrator 0 lSync []).inL0 0 = false) ∧
    ((let d := follower []; d.awake = true ∧ d.inL0 64 = true ∧ d.leafDup = false ∧ (Tab.find d.proto.sof 64).any (fun x => decide (x.plane ≠ 0) && decide (x.plane = d.gate.fplane)) = true ∧
      genHigher 16 (fieldBE (entry 1 0 0) 2 2) d.gate.gen = false ∧ d.gate.cmds.length < 8)) ∧
    ((let e := follower []; let d : Dev := { (e.putLn F.LANE_LANE_STAT_STATE 65 lRun) with proto := { e.proto with
      sof := [(64, ⟨1, true, false, false, 0, 0, 0, false⟩), (65, ⟨1, true, false, false, 0, 0, 0, false⟩)] } }; d.leafDup = true ∧ d.inL0 65 = true)) ∧
    ((let e := follower []; let d : Dev := { e with gate := { e.gate with fplane := 2 } }; (Tab.find d.proto.sof 64).any (fun x => decide (x.plane ≠ d.gate.fplane)) = true)) ∧
    (chk4 (slotOf (entry 1 0 0) / 16) = slotOf (entry 1 0 0) % 16 ∧ opDefined 1 0 = true ∧ opDefined 1 1 = false ∧ opDefined 7 4 = false ∧ opDefined 7 3 = true ∧ opDefined 8 0 = false) ∧
    (chk4 ((slotOf (entry 1 0 0) + 1) / 16) ≠ (slotOf (entry 1 0 0) + 1) % 16 ∧ bits (slotOf (entry 0 0 0)) 12 4 = 0 ∧ bits (slotOf (entry 7 1 0)) 12 4 = 7) ∧
    ((follower []).f F.GATE_CTL_FB = 0 ∧ (follower [(F.GATE_CTL_FB, 1, 0, 0)]).f F.GATE_CTL_FB ≠ 0) ∧
    ((follower []).isLate (gc 1 0) = false ∧ (follower []).isLate { gc 1 0 with exec := 2 ^ 32 - 1 } = true ∧ crcOk [] = false) ∧
    ((let l : List GCmd := (List.range 8).map fun k => ⟨1, 0, k + 1, false, 0, 0, 0⟩; 8 ≤ l.length ∧ l.any (fun e => decide (e.exec = 0)) = false ∧ l.any (fun e => decide (e.exec = 8)) = true)) ∧
    ((let d := laneOn .concentrator 191 lRun []; d.role = .concentrator ∧ d.inL0 191 = true)) ∧
    ((let d := (laneOn .manager 64 lRun []); let e := ((d.put F.TRUNK_CELL_MAP_VALID 1 7).put F.TRUNK_CELL_MAP_CONC 63 7).setSpCell 7 (cellIn 1)
      e.role = .manager ∧ e.inRun 64 = true ∧ e.isPair 64 = false ∧ e.cellAt e.actSet 63 0 = some 7 ∧ (e.spCell 7).st ≠ 0)) ∧
    (bits (field (slice (List.replicate 18 (0xE0 : Byte)) 6 12) 2 1) 5 3 = 7 ∧ bits (field (slice (List.replicate 18 (0x20 : Byte)) 6 12) 2 1) 5 3 ≠ 7) ∧
    ((let d := laneOn .manager 0 lRun []; d.inRun 0 = true ∧ d.isPair 0 = false ∧ bitOf (field (slice (List.replicate 22 (0x80 : Byte)) 6 16) 0 1) 7 = true)) ∧
    ((laneOn .manager 0 lSync []).inRun 0 = false ∧ (let d := (laneOn .manager 0 lRun []).put F.TRUNK_LANE_MAP_MODE mPair 0; d.isPair 0 = true)) := by
  decide +kernel

/-- One request packet of 16 bytes, one reply packet of 12. -/
def packet (n op dest port tag : Nat) : List Byte := [1, 0] ++ beBytes 2 (op * 2 ^ 12 + dest * 2 ^ 11 + port * 2 ^ 4) ++ bytesOf 1 tag ++ List.replicate (n - 3) 0
/-- A MANAGER that has sent a request. -/
def asked : RrReq := { lane := 0, dest := 0, port := 0, op := 1, epoch := 0, addr := 0, data := 0, desc := none, cell := 0, sent := some (5, 0) }
def asker (a : RrReq) : Dev := let d := laneOn .manager 0 lRun []; { d with proto := { d.proto with rr := [a] } }

set_option maxRecDepth 100000 in
theorem witness_RemoteAccessAndRoadblock :
    ((laneOn .manager 0 lDetect []).fromAlign 0 = false ∧ (laneOn .manager 0 lDetect []).farLoop 0 = false ∧ (laneOn .manager 0 lAlign []).fromAlign 0 = true ∧ (laneOn .manager 0 lLoop []).fromAlign 0 = false ∧ ((laneOn .cell 64 lLoop []).putLn F.LANE_LANE_CFG_LOOP 64 3).farLoop 64 = true) ∧
    ((let d := (follower [(F.GATE_STAT_STATE, gRun, 0, 0)]); d.fromAlign 64 = true ∧ d.gIs gRun = true)) ∧
    ((let d := laneOn .concentrator 1 lRun []; d.fromAlign 1 = true ∧ d.proto.rbAt = none ∧ d.role = .concentrator) ∧ (laneOn .concentrator 64 lRun []).fromAlign 64 = true) ∧
    ((let d := ((laneOn .manager 0 lRun []).put F.TRUNK_LANE_MAP_MODE mPair 0).put F.LANE_RB_CTL_PAIR_EN 1; d.fromAlign 0 = true ∧ d.isPair 0 = true ∧ d.f F.LANE_RB_CTL_PAIR_EN ≠ 0 ∧ d.role = .manager)) ∧
    ((laneOn .manager 0 lRun []).isPair 0 = false ∧ mgr.blockStatus .trunk 0x3F10 = .ok) ∧
    ((laneOn .manager 0 lRun []).inRun 0 = true ∧ (laneOn .cell 64 lRun []).inRun 64 = true ∧ rrPackets 16 [] = none ∧ rrPackets 12 [] = none) ∧
    ((rrPackets 16 (packet 16 4 1 3 5)).any (fun l => l.any fun p => decide (pktOp p = 4) && decide (pktDest p = 1) && decide (pktPort p = 3) && decide (pktTag p = 5) && decide (l = [p])) = true) ∧
    ((laneOn .cell 65 lRun []).farLoop 65 = false ∧ (laneOn .concentrator 0 lRun []).inRun 0 = true ∧ (laneOn .concentrator 0 lRun []).farLoop 0 = false) ∧
    ((laneOn .concentrator 0 lRun []).inRun (64 + 3) = false ∧ ((laneOn .concentrator 0 lRun []).putLn F.LANE_LANE_STAT_STATE 67 lRun).inRun (64 + 3) = true) ∧
    ((let l : List RrFwd := [⟨0, 3, [], false⟩, ⟨0, 3, [], false⟩]; 2 ≤ (l.filter fun x => decide (x.port = 3) && !x.sent).length)) ∧
    ((let d := asker asked; d.inRun 0 = true ∧ d.role = .manager ∧ d.rrFind 0 0 0 5 = some asked ∧ d.rrFind 0 0 0 6 = none ∧ asked.sent = some (5, 0))) ∧
    ((rrPackets 12 (packet 12 1 0 0 5)).any (fun l => l.any fun p => decide (l = [p]) && decide (pktTag p = 5) && decide (pktEpoch p = 0)) = true) ∧
    ((asker { asked with epoch := 1, addr := 0xFFF0 }).rrFind 0 0 0 5 = some { asked with epoch := 1, addr := 0xFFF0 } ∧ (0xFFF0 : Nat) % 0x10000 = 0xFFF0 ∧ (0xFFEC : Nat) % 0x10000 ≠ 0xFFF0) := by
  decide +kernel

/-- The dead-time settings at reset. -/
def dt0 : DtCfg := { min := 64000, max := 115200, margin := 19200, tmo := 64000 }
/-- A cell with a command at the head of its queue. -/
def due (l : List (Fld × Nat × Nat × Nat)) (c : GCmd) : Dev := let d := dev .cell l; { d with gate := { d.gate with cmds := [c] } }

set_option maxRecDepth 100000 in
theorem witness_CellCommandsFallDue :
    ((let d := due [] (gc 1 0); d.role = .cell ∧ d.gate.dormant = false ∧ d.gate.cmds = [gc 1 0] ∧ d.f F.GATE_STAT_TRIP_HOLD = 0 ∧ d.gState ≠ gRun ∧ d.gState ≠ gBypassed)) ∧
    ((due [(F.GATE_STAT_TRIP_HOLD, 1, 0, 0)] (gc 7 3)).f F.GATE_STAT_TRIP_HOLD ≠ 0 ∧ (due [(F.GATE_STAT_TRIP_HOLD, 1, 0, 0)] (gc 2 0)).f F.GATE_STAT_TRIP_HOLD ≠ 0) ∧
    ((due [(F.GATE_STAT_STATE, gBypassed, 0, 0)] (gc 3 0)).gState = gBypassed) ∧
    ((let d := due [(F.GATE_STAT_STATE, gRun, 0, 0), (F.GATE_STAT_MODE, 1, 0, 0)] (gc 1 0); d.gState = gRun ∧ d.f F.GATE_STAT_MODE ≠ 0)) ∧
    ((let d := due [(F.GATE_STAT_STATE, gRun, 0, 0)] (gc 1 0); d.gState = gRun ∧ d.f F.GATE_STAT_MODE = 0 ∧ d.moving = false ∧ d.gate.wait = [] ∧ d.f F.GATE_BYP_STAT_FIRED = 0)) ∧
    ((let e := due [(F.GATE_STAT_STATE, gRun, 0, 0)] (gc 1 0); ({ e with gate := { e.gate with legA := { e.gate.legA with tr := some ⟨0, true, 0, none, none, dt0⟩ } } } : Dev).moving = true)) ∧
    ((gc 6 0).cv = true ∧ 2000 ≤ (gc 6 0).cper ∧ (gc 6 0).cper ≤ 100000000 ∧ ({ gc 6 0 with cper := 1999 } : GCmd).cper < 2000 ∧ 100000000 < ({ gc 6 0 with cper := 100000001 } : GCmd).cper) ∧
    ((due [(F.GATE_STAT_STATE, gWaking, 0, 0)] (gc 7 3)).gState = gWaking) ∧
    ((let e := follower [(F.GATE_STAT_STATE, gReady, 0, 0), (F.GATE_STAT_TLANE, 1, 0, 0), (F.GATE_AUX_CFG0_UV, 0, 0, 0), (F.GATE_VLIM_VMIN_RUN, 0, 0, 0), (F.GATE_VLIM_OVW, 0xFFFF, 0, 0)]
      let d : Dev := { e with gate := { e.gate with cmds := [gc 7 3] } }
      d.gState ≠ gRun ∧ d.gState ≠ gBypassed ∧ d.gState ≠ gWaking ∧ d.f F.GATE_STAT_TRIP_HOLD = 0 ∧ d.onFollowed = true ∧ d.gate.cds = 0 ∧ d.f F.GATE_STAT_DESAT_LOCK = 0 ∧
      (d.f F.GATE_AUX_CFG0_UV : Int) ≤ d.vauxNow ∧ d.f F.GATE_VLIM_VMIN_RUN ≤ d.vcapNow ∧ d.vcapNow < d.f F.GATE_VLIM_OVW)) ∧
    ((due [(F.GATE_STAT_STATE, gReady, 0, 0)] (gc 7 3)).onFollowed = false ∧ (due [(F.GATE_STAT_STATE, gRun, 0, 0)] (gc 4 0)).gState = gRun ∧ (gc 4 0).op = 4) := by
  decide +kernel

/-- Leg A of a cell in a transition. -/
def edge (l : List (Fld × Nat × Nat × Nat)) (node on : Option Nat) (sf : Nat) : Dev :=
  let d := dev .cell l; { d with gate := { d.gate with legA := { drv := true, hi := false, lo := false, tr := some ⟨0, true, 0, node, on, dt0⟩, sf := sf, onAt := 0 } } }

set_option maxRecDepth 100000 in
theorem witness_CellEdges :
    ((let d := edge [] none none 0; (d.leg 0).tr = some ⟨0, true, 0, none, none, dt0⟩ ∧ 0 * 5 ≤ dt0.max)) ∧
    ((edge [] (some 9) none 0).leg 0 = { drv := true, hi := false, lo := false, tr := some ⟨0, true, 0, some 9, none, dt0⟩, sf := 0, onAt := 0 } ∧ (edge [] none none 0).leg 1 = Leg.off) ∧
    (((edge [] none (some 64) 2).leg 0).sf < 3 ∧ ((edge [(F.GATE_STAT_STATE, gRun, 0, 0)] none (some 64) 3).leg 0).sf = 3 ∧ (edge [(F.GATE_STAT_STATE, gRun, 0, 0)] none (some 64) 3).gIs gRun = true) ∧
    ((let e := dev .cell [(F.GATE_STAT_STATE, gRun, 0, 0)]; let d : Dev := { e with gate := { e.gate with wait := [gc 1 0] } }; d.gate.wait = [gc 1 0] ∧ d.awake = true ∧ d.moving = false ∧
      d.gState = gRun ∧ d.f F.GATE_STAT_MODE = 0 ∧ d.f F.GATE_STAT_TRIP_HOLD = 0)) ∧
    ((edge [] none none 0).moving = true ∧ (64 : Nat) + dt0.tmo ≥ 5 * 5 ∧ dt0.max < 30000 * 5 ∧ 64 + dt0.tmo < 30000 * 5) ∧
    ((let e := dev .cell [(F.GATE_STAT_STATE, gRun, 0, 0)]; let d : Dev := { e with gate := { e.gate with edgeWait := some (1, 0) } }; d.gate.wait = [] ∧ d.gate.edgeWait = some (1, 0) ∧
      d.awake = true ∧ d.moving = false)) ∧
    ((let e := dev .cell [(F.GATE_STAT_STATE, gRun, 0, 0), (F.GATE_STAT_MODE, 1, 0, 0)]; let d : Dev := { e with gate := { e.gate with shadow := some ⟨0, 2000, 0⟩, edges := [(9, 1)] } };
      d.gate.shadow = some ⟨0, 2000, 0⟩ ∧ 0 < (2000 : Nat) ∧ d.gIs gRun = true ∧ d.moving = false ∧ d.gate.wait = [] ∧ d.f F.GATE_STAT_MODE ≠ 0 ∧ d.gate.edges = [(9, 1)]) ∧ cell.gate.shadow = none ∧ cell.gate.edges = []) := by
  decide +kernel

/-- A cell in RUN with the upper switch of leg A on. -/
def running (l : List (Fld × Nat × Nat × Nat)) : Dev :=
  let d := dev .cell ((F.GATE_STAT_STATE, gRun, 0, 0) :: l); { d with gate := { d.gate with legA := { drv := true, hi := true, lo := false, tr := none, sf := 0, onAt := 0 } } }

set_option maxRecDepth 100000 in
theorem witness_CellFaultActions :
    ((let d := running [(F.GATE_DESAT_CFG_DESAT_MAX, 2, 0, 0)]; d.gIs gRun = true ∧ (bitOf 1 0 && d.gate.legA.hi) = true ∧ (d.desatWait 1).desatTrips.length + 1 < d.f F.GATE_DESAT_CFG_DESAT_MAX)) ∧
    ((let d := running [(F.GATE_DESAT_CFG_DESAT_MAX, 1, 0, 0), (F.GATE_CTL_BYP_ON_DESAT, 0, 0, 0)]; d.f F.GATE_DESAT_CFG_DESAT_MAX ≤ (d.desatWait 1).desatTrips.length + 1 ∧ d.f F.GATE_CTL_BYP_ON_DESAT = 0)) ∧
    ((let d := running [(F.GATE_DESAT_CFG_DESAT_MAX, 1, 0, 0), (F.GATE_CTL_BYP_ON_DESAT, 1, 0, 0)]; d.f F.GATE_CTL_BYP_ON_DESAT ≠ 0 ∧ d.f F.GATE_BYP_STAT_FIRED = 0)) ∧
    ((dev .cell [(F.GATE_STAT_STATE, gFault, 0, 0)]).gIs gFault = true ∧ cell.gIs gRun = false ∧ Tab.get 0 cell.proto.miss 64 < 3 ∧ cell.gate.lost < 64 ∧ cell.gate.xchk < 16 ∧ cell.gate.ovxN < 4) ∧
    ((let e := running []; let d : Dev := { e with proto := { e.proto with miss := [(64, 3), (65, 3)] } }; d.gIs gRun = true ∧ 3 ≤ Tab.get 0 d.proto.miss 64 ∧ 3 ≤ Tab.get 0 d.proto.miss 65)) ∧
    ((let e := running []; let d : Dev := { e with gate := { e.gate with lost := 64, xchk := 16, ovxN := 4 } }; 64 ≤ d.gate.lost ∧ 16 ≤ d.gate.xchk ∧ 4 ≤ d.gate.ovxN ∧ d.candidate 64 = false ∧ d.candidate 65 = false ∧ d.gIs gRun = true)) ∧
    ((let e := running [(F.GATE_CTL_OVX_EN, 1, 0, 0)]; e.awake = true ∧ e.f F.GATE_CTL_OVX_EN ≠ 0 ∧ e.f F.GATE_BYP_STAT_FIRED = 0) ∧ (running [(F.GATE_CTL_OVX_EN, 0, 0, 0)]).f F.GATE_CTL_OVX_EN = 0) := by
  decide +kernel

set_option maxRecDepth 100000 in
theorem witness_CellBypassChannels :
    ((let d : Dev := { cell with gate := { cell.gate with yOn := true } }; d.role = .cell ∧ d.gate.yOn = true ∧ d.f F.GATE_BYP_STAT_FIRED = 0 ∧ d.gate.dormant = false ∧ d.otpBits < 32)) ∧
    ((let d : Dev := { cell with gate := { cell.gate with yOn := true, dormant := true } }; d.role = .cell ∧ d.gate.yOn = true ∧ d.f F.GATE_BYP_STAT_FIRED = 0 ∧ d.gate.dormant = true)) ∧
    (cell.role = .cell ∧ cell.gate.yOn = false ∧ cell.f F.GATE_BYP_STAT_FIRED = 0 ∧ cell.blockStatus .gate 0x94 = .ok ∧ cell.gate.dormant = false ∧ cell.gate.key1 = none ∧ cell.gate.otpDue = 0) ∧
    ((dev .cell [(F.GATE_BYP_STAT_FIRED, 1, 0, 0)]).f F.GATE_BYP_STAT_FIRED ≠ 0 ∧ cell.otpBits < 32) ∧
    ((let e := dev .cell [(F.GATE_STAT_STATE, gBypassed, 0, 0), (F.GATE_BYP_CFG_MAINT_VMAX, 9, 0, 0)]; let d : Dev := { e with gate := { e.gate with key1 := some 0 } };
      d.gate.key1 = some 0 ∧ d.now ≤ 0 + 10 ^ 6 ∧ d.gIs gBypassed = true ∧ d.vcapNow < d.f F.GATE_BYP_CFG_MAINT_VMAX ∧ d.otpBits ≤ 30)) ∧
    ((let e : Dev := { cell with time := { cell.time with bT := (10 ^ 6 + 1) * nsFix } }; 0 + 10 ^ 6 < e.now)) ∧
    ((let e := dev .cell [(F.GATE_STAT_STATE, gBypassed, 0, 0), (F.GATE_BYP_CFG_MAINT_VMAX, 0, 0, 0)]; e.f F.GATE_BYP_CFG_MAINT_VMAX ≤ e.vcapNow)) ∧
    (({ cell with gate := { cell.gate with otpDue := 1 } } : Dev).gate.otpDue ≠ 0 ∧ cell.f F.GATE_BYP_STAT_OTP_USED < 32) ∧
    ((let d := dev .cell [(F.GATE_BYP_STAT_FIRED, 1, 0, 0), (F.GATE_BYP_CFG_MODE, 1, 0, 0), (F.GATE_BYP_Y_CFG_MODE, 0, 0, 0)]; d.f F.GATE_BYP_STAT_FIRED ≠ 0 ∧ d.f F.GATE_BYP_CFG_MODE ≠ 0 ∧ d.gate.dormant = false ∧ d.f F.GATE_BYP_Y_CFG_MODE = 0)) ∧
    ((let d := dev .cell [(F.GATE_BYP_STAT_FIRED, 1, 0, 0), (F.GATE_BYP_Y_CFG_MODE, 1, 0, 0)]; let e : Dev := { d with gate := { d.gate with yOn := true } }; e.f F.GATE_BYP_STAT_FIRED ≠ 0 ∧
      e.f F.GATE_BYP_Y_CFG_MODE ≠ 0 ∧ e.gate.yOn = true)) := by
  decide +kernel

set_option maxRecDepth 100000 in
theorem witness_CellSupplyAndWake :
    ((let d := dev .cell [(F.GATE_AUX_STAT_RUNNING, 1, 0, 0), (F.GATE_AUX_CFG0_VSTART, 1, 0, 0)]; d.awake = true ∧ d.f F.GATE_AUX_STAT_RUNNING ≠ 0 ∧ d.vcapNow * 2 < d.f F.GATE_AUX_CFG0_VSTART)) ∧
    ((let d := dev .cell [(F.GATE_AUX_STAT_RUNNING, 1, 0, 0), (F.GATE_AUX_CFG0_VSTART, 0, 0, 0), (F.GATE_AUX_TON_TAG, 1, 0, 0), (F.GATE_AUX_CFG0_SS, 0, 0, 0)]; d.f F.GATE_AUX_CFG0_VSTART ≤ d.vcapNow * 2 ∧
      d.f F.GATE_AUX_TON_TAG ≠ d.f F.GATE_AUX_PER_TAG ∧ d.f F.GATE_AUX_CFG0_SS ≤ d.gate.ssN)) ∧
    (cell.f F.GATE_AUX_STAT_RUNNING = 0 ∧ cell.f F.GATE_AUX_TON_TAG = cell.f F.GATE_AUX_PER_TAG ∧ cell.gate.auxSw = false) ∧
    (({ cell with gate := { cell.gate with auxSw := true } } : Dev).gate.auxSw = true ∧ (running []).gIs gRun = true ∧ mgr.awake = false) ∧
    ((let e := dev .cell [(F.GATE_STAT_STATE, gWaking, 0, 0)]; e.gIs gWaking = true ∧ e.f F.GATE_AUX_STAT_RUNNING = 0 ∧ (e.put F.GATE_AUX_CFG0_VSTART 0).f F.GATE_AUX_CFG0_VSTART ≤ (e.put F.GATE_AUX_CFG0_VSTART 0).vcapNow ∧
      (e.put F.GATE_AUX_STAT_RUNNING 1).f F.GATE_AUX_STAT_RUNNING ≠ 0) ∧ (let e := running []; ({ e with gate := { e.gate with auxArm := true } } : Dev).gate.auxArm = true ∧
      (e.put F.GATE_AUX_CFG0_VSTART 0xFFFF).vcapNow < (e.put F.GATE_AUX_CFG0_VSTART 0xFFFF).f F.GATE_AUX_CFG0_VSTART) ∧ (running []).gIs gWaking = false) ∧
    ((let e := dev .cell [(F.GATE_STAT_STATE, gWaking, 0, 0), (F.GATE_AUX_CFG0_UV, 0, 0, 0), (F.LANE_LANE_STAT_TIME_VALID.onLeaf, 1, 1, 0)]
      let d : Dev := { e with gate := { e.gate with calDone := true, vstart := some 0 } }; d.gate.calDone = true ∧ (d.f F.GATE_AUX_CFG0_UV : Int) ≤ d.vauxNow ∧
      d.lnFlag F.LANE_LANE_STAT_TIME_VALID 65 = true ∧ d.gate.vstart = some 0) ∧ cell.gate.vstart = none) := by
  decide +kernel

/-- A CELL whose channel 0 is converted, with what happens at the first instant. -/
def adcDev (f : Dev → Dev) : Dev := f (((dev .cell [(F.ADC_CH_CFG_EN, 1, 0, 0), (F.GLOBAL_PWR_CTL_ADC_ON, 15, 0, 0)]).putb F.ADC_CH_CFG_EN inForce 1))
def firstAdc (d : Dev) : Dev := (d.begin.advanceTo d.begin.adcNext).adcXferAt d.begin.adcNext

set_option maxRecDepth 100000 in
theorem witness_ConversionWords :
    ((let d := adcDev id; let t := d.begin.adcNext; let x := firstAdc d
      blkOn d.role .adc = true ∧ d.blkGated .adc = false ∧ d.gate.dormant = false ∧ 0 ∈ x.adcDue t ∧ x.adcPair 0 = false ∧ x.adcIndex t % 2 = 0 ∧ x.fi F.ADC_CH_CFG_FILT 0 = 0 ∧
      x.adcNoConv t 0 = false ∧ (x.adcCh 0).hold = 0 ∧ (x.adcCh 0).inv = 0 ∧ rawOver 4 = false ∧ outside16 (roundDiv true (x.adcCorrect 0 0 4) (2 ^ 32)) = false)) ∧
    (rawOver (2 ^ 17 - 2) = false ∧ rawOver (2 ^ 17 - 1) = true ∧ rawOver (-(2 ^ 17)) = true) ∧
    ((let d := adcDev fun d => { d with adc := { d.adc with cal := 1 } }; (firstAdc d).adcNoConv d.begin.adcNext 0 = true ∧ 0 ∈ (firstAdc d).adcDue d.begin.adcNext)) := by
  decide +kernel

set_option maxRecDepth 100000 in
theorem witness_SelfCalibration :
    (mgr.blockStatus .adc 0 = .ok ∧ mgr.f F.ADC_CAL_BUSY = 0 ∧ 65535 ≤ adcAll mgr.role ∧ cell.blockStatus .adc 0 = .ok ∧ adcAll cell.role < 16) ∧
    ((let e := dev .cell [(F.ADC_CAL_BUSY, 1, 0, 0)]; let d : Dev := { e with adc := { e.adc with cal := 5 } }; d.f F.ADC_CAL_BUSY ≠ 0 ∧ bitOf d.adc.cal 2 = true ∧ bitOf d.adc.cal 1 = false)) ∧
    (([(-2048, 29492), (2048, 36044), (-2049, 29491)] : List (Int × Nat)).getD 2 (0, 0x8000) = (-2049, 29491) ∧ 9 * 32768 ≤ 29492 * 10 ∧ 36044 * 10 ≤ 11 * 32768 ∧ 29491 * 10 < 9 * 32768 ∧ 11 * 32768 < 36045 * 10) := by
  decide +kernel

def angDev (l : List (Fld × Nat × Nat × Nat)) (i : Nat) (x : AngInst) : Dev := (dev .manager l).setAng i x

set_option maxRecDepth 100000 in
theorem witness_AngleTracking :
    (mgr.f F.ANGLE_CFG_EN 3 = 0 ∧ (mgr.angInst 0).ok = false ∧ (mgr.angInst 0).slowAt = none) ∧
    ((let d := dev .manager [(F.ANGLE_CFG_EN, 1, 3, 0), (F.ANGLE_CFG_SRC, 2, 3, 0)]; d.f F.ANGLE_CFG_EN 3 ≠ 0 ∧ d.isSynth 3 = true)) ∧
    ((let d := angDev [(F.ANGLE_CFG_EN, 1, 3, 0), (F.ANGLE_CFG_SRC, 0, 3, 0)] 3 { AngInst.rest with ok := true, outN := 9 }; d.f F.ANGLE_CFG_EN 3 ≠ 0 ∧ d.isSynth 3 = false ∧ (d.angInst 3).ok = true ∧
      (d.angInst 3).corr = none ∧ ((d.put F.ANGLE_CFG_AFILT 9 3).f F.ANGLE_CFG_AFILT 3 ≤ (d.angInst 3).outN) ∧ (d.angInst 3).outN < (d.put F.ANGLE_CFG_AFILT 10 3).f F.ANGLE_CFG_AFILT 3)) ∧
    ((let d := angDev [(F.ANGLE_CFG_EN, 1, 3, 0), (F.ANGLE_CFG_AFILT, 9, 3, 0)] 3 { AngInst.rest with inN := 9, slowAt := some 0 }; d.f F.ANGLE_CFG_EN 3 ≠ 0 ∧ d.isSynth 3 = false ∧ (d.angInst 3).ok = false ∧
      d.f F.ANGLE_CFG_AFILT 3 ≤ (d.angInst 3).inN ∧ (d.angInst 3).slowAt ≠ none)) ∧
    ((let d := angDev [(F.ANGLE_CFG_EN, 1, 0, 0), (F.ANGLE_CFG_SRC, 0, 0, 0), (F.ANGLE_CFG_IDX_EN, 1, 0, 0), (F.ANGLE_CFG_IDX_CORR, 1, 0, 0), (F.ANGLE_IDX_TOL_TOL, 1, 0, 0), (F.ANGLE_IDX_TOL_WIN, 2, 0, 0)] 0 { AngInst.rest with theta := 0x10001 }
      let a := sgn 32 (wrap 32 ((d.angleNow 0 : Int) - (d.f F.ANGLE_IDX_POS_POS 0 : Int)))
      d.f F.ANGLE_CFG_EN 0 ≠ 0 ∧ d.f F.ANGLE_CFG_SRC 0 = 0 ∧ d.f F.ANGLE_CFG_IDX_EN 0 ≠ 0 ∧ d.f F.ANGLE_IDX_TOL_TOL 0 * 2 ^ 16 < a.natAbs ∧ a.natAbs ≤ d.f F.ANGLE_IDX_TOL_WIN 0 * 2 ^ 16 ∧ d.f F.ANGLE_CFG_IDX_CORR 0 ≠ 0 ∧
      ¬ (a.natAbs - 1 > d.f F.ANGLE_IDX_TOL_TOL 0 * 2 ^ 16))) := by
  decide +kernel

set_option maxRecDepth 100000 in
theorem witness_ProbesAndCompares :
    ((let d := dev .manager [(F.ANGLE_PRB_CFG_EN, 1, 3, 0), (F.ANGLE_PRB_CFG_EDGE, 1, 3, 0)]; d.f F.ANGLE_PRB_CFG_EN 3 ≠ 0 ∧ bitOf (d.f F.ANGLE_PRB_CFG_EDGE 3) 0 = true ∧ d.f F.ANGLE_PRB_CFG_FULL 3 = 0 ∧
      (d.put F.ANGLE_PRB_CFG_FULL 1 3).f F.ANGLE_PRB_CFG_FULL 3 ≠ 0) ∧ mgr.f F.ANGLE_PRB_CFG_EN 0 = 0) ∧
    (mgr.blockStatus .angle (0x204 + 16 * 7) = .ok ∧ mgr.f F.ANGLE_WMK_CFG_EN 7 = 0) ∧
    ((let d := dev .manager [(F.ANGLE_WMK_CFG_EN, 1, 7, 0), (F.ANGLE_STAT_VALID, 1, 0, 0)]; d.f F.ANGLE_WMK_CFG_EN 7 ≠ 0 ∧ sgn 32 (wrap 32 ((0 % 2 ^ 32 : Nat) - (d.angleNow (d.f F.ANGLE_WMK_CFG_INST 7) : Int))) = 0 ∧
      d.f F.ANGLE_STAT_VALID (d.f F.ANGLE_WMK_CFG_INST 7) ≠ 0 ∧ sgn 32 (wrap 32 ((5 % 2 ^ 32 : Nat) - (d.angleNow 0 : Int))) = 5 ∧ ahead (d.dirNeg 0) 5 = true ∧ ahead (d.dirNeg 0) (-5) = false ∧
      d.f F.ANGLE_STAT_STILL 0 = 0)) ∧
    ((let d := dev .manager [(F.ANGLE_WMK_CFG_EN, 1, 7, 0), (F.ANGLE_WMK_STAT_ARMED, 1, 7, 0), (F.ANGLE_STAT_VALID, 1, 0, 0)]; d.wmkReady 7 = true ∧ d.wmkReady 6 = false)) ∧
    (({ mgr with ang := { mgr.ang with pulse := 128 } } : Dev).ang.pulse = 128 ∧ bitOf 128 7 = true ∧ bitOf mgr.ang.pulse 7 = false) := by
  decide +kernel

/-- The safety controller in RUN, instance 2 of a type on pair 3 in a state, in both channels. -/
def safeDev (l : List (Fld × Nat × Nat × Nat)) (type s : Nat) : Dev :=
  let d := dev .manager ([(F.SAFETY_STAT_MODE, 1, 0, 0), (F.SAFETY_INST_CFG_TYPE, type, 2, 0), (F.SAFETY_INST_CFG_IN, 3, 2, 0)] ++ l)
  { d with safe := { d.safe with yPar := d.safe.regs, x := { d.safe.x with st := [(2, s)] }, y := { d.safe.y with st := [(2, s)] } } }
def withLines (d : Dev) (x y wx wy : Nat) : Dev :=
  { d with safe := { d.safe with x := { d.safe.x with lines := x, win := wx }, y := { d.safe.y with lines := y, win := wy } } }
def withCause (d : Dev) (c : Nat) : Dev :=
  { d with safe := { d.safe with x := { d.safe.x with cause := [(2, c)] }, y := { d.safe.y with cause := [(2, c)] } } }
def withOut (d : Dev) (x y : Nat) : Dev := { d with safe := { d.safe with x := { d.safe.x with out := x }, y := { d.safe.y with out := y } } }

set_option maxRecDepth 100000 in
theorem witness_SafetyOutputsFollow :
    (mgr.safeRun = false ∧ (dev .manager [(F.SAFETY_STAT_CFAULT, 1, 0, 0)]).flag F.SAFETY_STAT_CFAULT = true) ∧
    ((let d := withLines (safeDev [(F.SAFETY_INST_CFG_RESTART, 1, 2, 0)] 1 sDemand) 0xC0 0xC0 0 0; (∀ y, (Dev.safeRefresh d d).stOf y 2 = sRun ∧ d.stOf y 2 = sDemand))) := by
  decide +kernel

set_option maxRecDepth 100000 in
theorem witness_SafetyControllerChecks :
    ((let d := withLines (safeDev [] 1 sRun) 1 0 0 0; d.safeRun = true ∧ d.safe.differ = true ∧ d.stOf false 2 ≠ sInactive)) ∧
    ((let e := safeDev [] 1 sRun; let d : Dev := { e with safe := { e.safe with xRst := true, diff := true } }; d.safe.differ = false ∧ d.safe.xRst = true ∧ d.safe.diff = true ∧ bitOf (d.f F.SAFETY_STAT_CCAUSE) 0 = false ∧
      bitOf d.safe.clkBad (b2n (!true)) = false ∧ d.safe.clkBad < 4 ∧ d.safe.parBad = 0)) ∧
    (paramCrc mgr.safe.regs ≠ parFld mgr.safe.regs F.SAFETY_PARAM_CRC_CRC ∧ (let t := (dev .manager [(F.SAFETY_PARAM_CRC_CRC, paramCrc mgr.safe.regs, 0, 0)]).safe.regs; paramCrc t = parFld t F.SAFETY_PARAM_CRC_CRC)) ∧
    (mgr.safeRun = false) := by
  decide +kernel

set_option maxRecDepth 100000 in
theorem witness_SafetyInputLines :
    ((let d := withLines (safeDev [(F.SAFETY_LINE_CFG_TP, 3 + 1, 7, 0)] 1 sRun) 0xC0 0xC0 0 0; d.safeRun = true ∧ ∀ y, d.instType y 2 = 1 ∧ d.inPair y 2 = 7 / 2 ∧ bitOf (d.ch y).win 7 = false ∧ d.stOf y 2 = sRun ∧
      bitOf (d.ch y).lines 7 = true ∧ d.par y F.SAFETY_LINE_CFG_TP 7 = 3 + 1 ∧ d.usesLine y 2 7 = true ∧ bitOf 0x80 7 = true ∧ d.causeOf y 2 = 0)) ∧
    ((let d := withLines (safeDev [] 1 sRun) 0xC0 0xC0 0x80 0; bitOf (d.ch false).win 7 = true ∧ d.pairClosed false 3 = true ∧ (∀ y, bitOf (d.ch y).win 6 = false))) ∧
    ((let d := withLines (safeDev [] 1 sRun) 0x40 0xC0 0 0; d.pairDiffers false 3 = true ∧ 3 ∈ d.instPairs false 2 ∧ d.stOf false 2 ≠ sInactive ∧ ∀ y, d.pairDiffers y 2 = false)) := by
  decide +kernel

set_option maxRecDepth 100000 in
theorem witness_SafetyOutputChecks :
    ((let d := withOut (safeDev [(F.SAFETY_OUT_CFG_MEMBERS, 4, 1, 0), (F.SAFETY_OUT_STAT_ON, 1, 1, 0)] 3 sRun) 2 2; d.safeRun = true ∧ d.pairOn 1 = true ∧ d.pairOn 0 = false ∧
      ∀ y, d.instType y 2 = 3 ∧ d.stOf y 2 ≠ sInactive ∧ d.fbMismatch y 2 = !d.pairClosed y 3 ∧ d.fbMismatch y 1 = false ∧ bitOf (d.par y F.SAFETY_OUT_CFG_MEMBERS 1) 2 = true)) ∧
    ((withOut (safeDev [(F.SAFETY_OUT_CFG_MEMBERS, 4, 1, 0)] 3 sRun) 2 2).fbMismatch false 2 = true) ∧
    ((let e := safeDev [(F.SAFETY_OUT_STAT_TEST, 1, 1, 0), (F.SAFETY_OUT_CFG_MEMBERS, 4, 1, 0)] 1 sRun; let d : Dev := { e with safe := { e.safe with pulsed := [(1, 2)] } }; d.f F.SAFETY_OUT_STAT_TEST 1 ≠ 0 ∧
      Tab.get 0 d.safe.pulsed 1 = 2 ∧ bitOf 2 (Tab.get 0 d.safe.pulsed 1 - 1) = true ∧ bitOf 1 (Tab.get 0 d.safe.pulsed 1 - 1) = false ∧ d.role = .manager ∧ d.gate.dormant = false)) ∧
    ((let d := safeDev [(F.SAFETY_OUT_CFG_EN, 1, 1, 0), (F.SAFETY_OUT_CFG_MEMBERS, 4, 1, 0)] 1 sLockout; d.f F.SAFETY_OUT_STAT_TEST 1 = 0 ∧ d.outOn false 1 = false ∧
      d.parOn true F.SAFETY_OUT_CFG_EN 1 = true ∧ bitOf (d.par true F.SAFETY_OUT_CFG_MEMBERS 1) 2 = true ∧ d.stOf true 2 ≠ sInactive)) ∧
    ((let e := withCause (safeDev [(F.SAFETY_OUT_CFG_EN, 1, 1, 0), (F.SAFETY_OUT_CFG_MEMBERS, 4, 1, 0)] 3 sLockout) (2 ^ cOuttest + 2 ^ cFb)
      let d : Dev := { e with safe := { e.safe with since := [(33, 0), (26, 0)] }, time := { e.time with frc := 10 ^ 9 } }
      (∀ y, ∀ j ∈ d.pairsOf y 2, d.holds (32 + j) = true) ∧ d.holds (24 + 2) = true)) ∧
    ((∀ y, (safeDev [] 1 sStopping).stOf y 2 = sStopping)) := by
  decide +kernel

set_option maxRecDepth 100000 in
theorem witness_SafetyCommands :
    (mgr.role = .manager ∧ mgr.gate.dormant = false ∧ mgr.blockStatus .safety 0x40C = .ok ∧ Nat.land 1 (Nat.land (mgr.f F.SAFETY_TRIP_STAT_LEVEL) (mgr.f F.SAFETY_TRIP_CFG_EN)) = 0 ∧ mgr.blockStatus .safety 0x180 = .ok ∧
      mgr.blockStatus .safety 0 = .ok) ∧
    ((let d := dev .manager [(F.SAFETY_TRIP_STAT_LEVEL, 1, 0, 0), (F.SAFETY_TRIP_CFG_EN, 1, 0, 0)]; Nat.land 1 (Nat.land (d.f F.SAFETY_TRIP_STAT_LEVEL) (d.f F.SAFETY_TRIP_CFG_EN)) ≠ 0)) ∧
    ((let d := safeDev [(F.SAFETY_XCMP_CFG_XCMP_T, 10, 0, 0)] 1 sReady; d.safeRun = true ∧ 500 ≤ d.f F.SAFETY_XCMP_CFG_XCMP_T * 50 ∧ d.f F.SAFETY_XCMP_CFG_XCMP_T * 50 < 501 ∧ d.stOf false 2 = sReady ∧ d.f F.SAFETY_STAT_CCAUSE = 0)) ∧
    ((let d := withCause (safeDev [] 1 sLockout) 1; d.stOf true 2 = sLockout ∧ d.instCause 2 % 2 ^ 6 ≠ 0) ∧ (safeDev [] 1 sLockout).instCause 2 = 0) ∧
    ((let d := safeDev [] 2 sRun; d.instType true 2 = 2 ∧ bitOf 4 2 = true ∧ d.instReq 2 = false ∧ d.stOf true 2 = sRun)) ∧
    ((dev .manager [(F.SAFETY_STAT_CFAULT, 1, 0, 0), (F.SAFETY_STAT_CCAUSE, 1, 0, 0)]).f F.SAFETY_STAT_CFAULT ≠ 0) ∧
    (mgr.safeRun = false ∧ decide (paramCrc mgr.safe.regs = parFld mgr.safe.regs F.SAFETY_PARAM_CRC_CRC) = false) ∧
    ((let t := (dev .manager [(F.SAFETY_PARAM_CRC_CRC, paramCrc mgr.safe.regs, 0, 0)]).safe.regs; (decide (paramCrc t = parFld t F.SAFETY_PARAM_CRC_CRC) && paramChecks t) = true)) ∧
    ((∀ y, ∀ i ∈ List.range 8, mgr.instGoes y i = false ∧ mgr.stOf y i ≠ sReady)) := by
  decide +kernel

set_option maxRecDepth 100000 in
theorem witness_BrakeTest :
    (mgr.f F.SAFETY_BT_CFG_INST < 8 ∧ mgr.blockStatus .safety 0x510 = .ok ∧ mgr.instType false (mgr.f F.SAFETY_BT_CFG_INST) ≠ 3) ∧
    ((let d := safeDev [(F.SAFETY_BT_CFG_INST, 2, 0, 0), (F.ANGLE_STAT_STILL, 1, 0, 0)] 3 sRun; d.f F.SAFETY_BT_CFG_INST = 2 ∧ d.instType false 2 = 3 ∧ d.f F.SAFETY_BT_STAT_PHASE = 0 ∧ d.safeRun = true ∧ d.instState 2 = sRun ∧ d.instReq 2 = false ∧
      (∀ y, d.pairOpen y (d.inPair y 2) = true) ∧ d.f F.ANGLE_STAT_STILL 0 ≠ 0 ∧ (∀ y, ∀ l ∈ List.range 8, d.stOf y l = sDemand → d.linesClosed y l = false))) ∧
    ((dev .manager [(F.SAFETY_INST_CFG_TYPE, 3, 0, 0)]).instType false 0 = 3 ∧ mgr.safeRun = false) ∧
    ((dev .manager [(F.SAFETY_BT_STAT_PHASE, 1, 0, 0)]).f F.SAFETY_BT_STAT_PHASE = 1 ∧ (dev .manager [(F.SAFETY_BT_STAT_PHASE, 2, 0, 0)]).f F.SAFETY_BT_STAT_PHASE = 2) ∧
    ((let e := safeDev [(F.SAFETY_BT_CFG_INST, 2, 0, 0), (F.SAFETY_BT_STAT_PHASE, 2, 0, 0), (F.SAFETY_BT_ANG_ANG, 7, 0, 0)] 3 sRun; let d : Dev := { e with safe := { e.safe with btTheta := 8 } };
      d.f F.SAFETY_BT_ANG_ANG < (sgn 32 (wrap 32 ((d.angleNow 0 : Int) - (d.safe.btTheta : Int)))).natAbs ∧ (sgn 32 (wrap 32 ((d.angleNow 0 : Int) - 7))).natAbs ≤ d.f F.SAFETY_BT_ANG_ANG ∧ d.stOf true 2 ≠ sInactive)) ∧
    ((dev .manager [(F.SAFETY_BT_TMO_BT_INT, 1, 0, 0)]).f F.SAFETY_BT_TMO_BT_INT ≠ 0 ∧ (dev .manager [(F.SAFETY_BT_TMO_BT_INT, 0, 0, 0)]).f F.SAFETY_BT_TMO_BT_INT = 0) := by
  decide +kernel

/-- Instance 3 of the recorder, enabled, with PRE and POST frames and slots, in a state. -/
def reelDev (s : Nat) (l : List (Fld × Nat × Nat × Nat)) (x : ReelInst) : Dev :=
  (dev .manager ([(F.REEL_CTL_EN, 1, 0, 0), (F.REEL_INST_CFG_EN, 1, 3, 0), (F.REEL_INST_LEN_PRE, 2, 3, 0), (F.REEL_INST_LEN_POST, 2, 3, 0), (F.REEL_INST_CFG_DIV, 20, 3, 0),
    (F.REEL_INST_AREA_SIZE, 1, 3, 0), (F.REEL_INST_AREA_SLOTS, 2, 3, 0), (F.REEL_INST_STAT_STATE, s, 3, 0)] ++ l)).setReelInst 3 x

set_option maxRecDepth 100000 in
theorem witness_ReelFrameIsWritten :
    ((let writes := fun (x : ReelInst) (mine back : Nat) => (let d := reelDev rPre [] x; let a := d.actSet; let t := (d.nextFrame a 3).getD 0; let per := d.framePeriod a 3; let y := d.reelInst 3
      let m := (y.fired.filter fun p => trgBy p.2 t).filter fun p => decide (framesBack t per p.2 ≤ y.count)
      d.f F.REEL_CTL_EN ≠ 0 ∧ d.fs a F.REEL_INST_CFG_EN 3 ≠ 0 ∧ d.ringLen a 3 ≠ 0 ∧ (d.nextFrame a 3).isSome = true ∧ d.reelState 3 = rPre ∧ m.length = mine ∧ framesBack t per (firedFirst m).2 = back)
      writes { ReelInst.fresh with fired := [(2, 0)] } 0 1 ∧ writes { ReelInst.fresh with fired := [(2, 1), (3, 7)] } 2 0 ∧ writes { ReelInst.fresh with fired := [(3, 7), (2, 0)], count := 2 } 2 1)) ∧
    ((let d := reelDev rPost [] { ReelInst.fresh with post := 1 }; d.reelState 3 = rPost ∧ (d.reelInst 3).post < d.fs d.actSet F.REEL_INST_LEN_POST 3 ∧ (d.nextFrame d.actSet 3).isSome = true)) ∧
    ((reelDev rPost [] { ReelInst.fresh with post := 2 }).fs 0 F.REEL_INST_LEN_POST 3 = 2 ∧ (reelDev rIdle [] ReelInst.fresh).reelState 3 = rIdle ∧ mgr.f F.REEL_CTL_EN = 0) := by
  decide +kernel

set_option maxRecDepth 100000 in
theorem witness_ReelRecordsAndSlots :
    ((let d := reelDev rPost [] { ReelInst.fresh with post := 2 }; d.reelState 3 = rPost ∧ d.f F.REEL_INST_STAT_SLOT 3 < 256 ∧ d.fs d.actSet F.REEL_INST_LEN_POST 3 ≤ (d.reelInst 3).post)) ∧
    ((reelDev rPre [] ReelInst.fresh).reelState 3 ≠ rPost ∧ (reelDev rPre [] ReelInst.fresh).reelState 3 ≠ rRearm) ∧
    ((let d := reelDev rRearm [(F.REEL_SLOT_MAP_USED, 1, 3, 0)] ReelInst.fresh; d.reelState 3 = rRearm ∧ d.rearmDue d.actSet 3 = true ∧ d.freeSlot d.actSet 3 = some 1)) ∧
    ((let d := reelDev rRearm [(F.REEL_SLOT_MAP_USED, 3, 3, 0)] ReelInst.fresh; d.rearmDue d.actSet 3 = true ∧ d.freeSlot d.actSet 3 = none ∧ d.fs d.actSet F.REEL_INST_CFG_OVWR 3 = 0)) ∧
    ((let d := reelDev rRearm [(F.REEL_SLOT_MAP_USED, 3, 3, 0), (F.REEL_INST_CFG_OVWR, 1, 3, 0)] ReelInst.fresh; d.rearmDue d.actSet 3 = true ∧ d.freeSlot d.actSet 3 = none ∧ d.fs d.actSet F.REEL_INST_CFG_OVWR 3 = 1 ∧ d.oldestSlot d.actSet 3 = some 0)) ∧
    (mgr.blockStatus .reel (0x110 + 64 * 3) = .ok ∧ mgr.fs 0 F.REEL_INST_CFG_EN 3 = 0 ∧ mgr.blockStatus .reel 0x20 = .ok ∧ mgr.blockStatus .reel 0x24 = .ok ∧ mgr.f F.REEL_CTL_EN = 0 ∧ mgr.slotUsed 3 255 = false) ∧
    ((let d := reelDev rIdle [] ReelInst.fresh; d.reelState 3 = rIdle ∧ d.freeSlot d.actSet 3 = some 0 ∧ d.fs d.actSet F.REEL_INST_CFG_EN 3 ≠ 0)) ∧
    ((let d := reelDev rPre [(F.REEL_TRG_CFG_EN, 1, 3, 7), (F.REEL_TRG_CFG_TYPE, 6, 3, 7)] { ReelInst.fresh with from_ := 4 } |>.advanceTo 9; d.f F.REEL_CTL_EN ≠ 0 ∧ bitOf 8 3 = true ∧ d.reelState 3 = rPre ∧ trgBy (d.now * 64 / 5) (d.reelInst 3).from_ = false ∧ d.trgIs d.actSet 3 7 6 = true)) ∧
    ((let d := reelDev rFull [(F.REEL_SLOT_MAP_USED, 3, 3, 0)] ReelInst.fresh; d.slotUsed 3 1 = true ∧ d.reelState 3 = rFull ∧ 1 < d.fs d.actSet F.REEL_INST_AREA_SLOTS 3) ∧
      (reelDev rPre [(F.REEL_SLOT_MAP_USED, 2, 3, 0)] ReelInst.fresh).slotUsed 3 1 = true ∧
      (let d := reelDev rFull [(F.REEL_SLOT_MAP_USED, 4, 3, 0)] ReelInst.fresh; d.slotUsed 3 2 = true ∧ d.reelState 3 = rFull ∧ d.fs d.actSet F.REEL_INST_AREA_SLOTS 3 ≤ 2)) := by
  decide +kernel

/-- A sampled-value message of APPID 0x4000 with one ASDU: its counter and its data. -/
def svMessage (cnt : Nat) (data : List Byte) : List Byte :=
  let asdu := [0x82, 2] ++ beBytes 2 cnt ++ [0x85, 1, 2, 0x87, BitVec.ofNat 8 data.length] ++ data
  let seq := [0x30, BitVec.ofNat 8 asdu.length] ++ asdu
  let pdu := [0x80, 1, 1, 0xA2, BitVec.ofNat 8 seq.length] ++ seq
  List.replicate 12 0 ++ beBytes 2 0x88BA ++ beBytes 2 0x4000 ++ beBytes 2 (10 + pdu.length) ++ [0, 0, 0, 0, 0x60, BitVec.ofNat 8 pdu.length] ++ pdu
/-- A MANAGER with Ethernet port p up, and a redundancy mode. -/
def ethDev (mode p : Nat) : Dev := dev .manager [(F.ETH_RED_CFG_MODE, mode, 0, 0), (F.ETH_PORT_CFG_EN, 1, p, 0), (F.ETH_PORT_STAT_LINK, 1, p, 0), (F.ETH_PORT_CFG_MAXLEN, 64, p, 0)]
def frame (type : Nat) (rest : List Byte) : List Byte := List.replicate 12 0 ++ beBytes 2 type ++ rest
/-- A frame of the source 0 with a PRP trailer: sequence number 5 and a LAN. -/
def prpFrame (lan : Nat) : List Byte := frame 0x0800 ([1, 2] ++ beBytes 2 5 ++ beBytes 2 (lan * 0x1000 + 8) ++ beBytes 2 0x88FB)

set_option maxRecDepth 100000 in
theorem witness_EthFrameReceived :
    ((ethDev 0 3).ethUp 3 = true ∧ mgr.ethUp 0 = false ∧ (frame 0x0800 []).length + 4 ≤ (ethDev 0 3).f F.ETH_PORT_CFG_MAXLEN 3) ∧
    ((ethDev 0 3).f F.ETH_PORT_CFG_MAXLEN 3 < (List.replicate 61 (0 : Byte)).length + 4 ∧ ¬ ((ethDev 0 3).f F.ETH_PORT_CFG_MAXLEN 3 < (List.replicate 60 (0 : Byte)).length + 4)) ∧
    (be (frame 0x8808 []) 12 2 = 0x8808 ∧ be (frame 0x0800 []) 12 2 ≠ 0x8808) ∧
    ((let d := ethDev 1 3; d.redMode ≠ 0 ∧ 2 ≤ 3 ∧ d.svStream (frame 0x0800 []) = none)) ∧
    ((let d := ((ethDev 1 3).put F.ETH_SV_CFG_EN 1 31 |>.put F.ETH_SV_CFG_DMAC 0 31 |>.put F.ETH_SV_CFG2_APPID 0 31); (d.svStream (frame 0x88BA [0, 0])).isSome = true ∧ svParse (frame 0x88BA [0, 0]) (frTypeAt (frame 0x88BA [0, 0]) + 2) = none)) ∧
    ((let l := prpFrame 0xB; let of := fun (q : Nat) (c : Bool) => (let e := ethDev 1 1; let d : Dev := { e with eth := { e.eth with dup := [{ src := 0, seq := q, ports := 1, made := 0 }] } }
      let h := Dev.dupOld (d.begin.inc F.ETH_PORT_CNT_RX_OK 1 1).eth.dup.length (d.begin.inc F.ETH_PORT_CNT_RX_OK 1 1)
      d.ethUp 1 = true ∧ d.redMode = 1 ∧ l.length + 4 ≤ d.f F.ETH_PORT_CFG_MAXLEN 1 ∧ d.svStream (frBare false l) = none ∧
      (h.eth.dup.any fun x => decide (x.src = frSrc l) && decide (x.seq = frSeq false l)) = c)
      frType l ≠ 0x88F7 ∧ frPrp l = true ∧ frLan l = 0xA + 1 ∧ be l 12 2 ≠ 0x8808 ∧ of 5 true ∧ of 4 false)) ∧
    ((let msg : List Byte := svMessage 7 [1, 2, 3, 4, 5, 6, 7, 8]; let on := fun (n : Nat) => (((ethDev 1 3).put F.ETH_PORT_CFG_MAXLEN 1522 3).put F.ETH_SV_CFG_EN 1 31 |>.put F.ETH_SV_CFG_DMAC 0 31 |>.put F.ETH_SV_CFG2_APPID 0x4000 31 |>.put F.ETH_SV_CFG_NELEM n 31)
      (on 1).svStream msg = some 31 ∧ (on 1).f F.ETH_SV_CFG_COPY 31 = 0 ∧ msg.length + 4 ≤ (on 1).f F.ETH_PORT_CFG_MAXLEN 3 ∧
      (match svParse msg (frTypeAt msg + 2) with | some (7, 2, _, 8) => true | _ => false) = true ∧ 8 * (on 1).f F.ETH_SV_CFG_NELEM 31 ≤ 8 ∧ 8 < 8 * (on 2).f F.ETH_SV_CFG_NELEM 31)) := by
  decide +kernel

def txFrame (launch : Option Nat) : EthFrame := { bytes := [], launch := launch, held := launch.isSome, stamp := none, desc := none, ingress := none }

set_option maxRecDepth 100000 in
theorem witness_EthPortsAndQueues :
    ((let d := (ethDev 0 3).setEthQ 3 2 [txFrame none]; d.ethUp 3 = true ∧ d.ethQ 3 2 = [txFrame none] ∧ (∀ r ∈ List.range 4, r ≠ 2 → d.ethQ 3 r = []) ∧ (txFrame none).launch = none ∧ (txFrame none).held = false)) ∧
    ((let d := (ethDev 0 3).setEthQ 3 2 [txFrame (some 9)]; d.ethQ 3 2 = [txFrame (some 9)] ∧ (txFrame (some 9)).launch = some 9 ∧ (txFrame (some 9)).held = true ∧ d.ethUp 3 = true)) ∧
    ((ethDev 0 3).f F.ETH_PORT_STAT_LINK 3 ≠ 0 ∧ (ethDev 0 2).f F.ETH_PORT_STAT_LINK 3 = 0 ∧ (let d := dev .manager [(F.GLOBAL_PWR_CTL_ETH_ON, 15, 0, 0), (F.ETH_PORT_CFG_EN, 1, 3, 0)]; d.f F.ETH_PORT_CFG_EN 3 ≠ 0 ∧ d.glob.ramp.contains (1 + 3) = false ∧ bitOf (d.f F.GLOBAL_PWR_CTL_ETH_ON) 3 = true) ∧
      mgr.f F.ETH_PORT_CFG_EN 3 = 0 ∧ ({ mgr with glob := { mgr.glob with ramp := [4] } } : Dev).glob.ramp.contains (1 + 3) = true ∧ bitOf ((dev .manager [(F.GLOBAL_PWR_CTL_ETH_ON, 7, 0, 0)]).f F.GLOBAL_PWR_CTL_ETH_ON) 3 = false) ∧
    ((let d := dev .manager [(F.ETH_SV_CFG_EN, 1, 31, 0)]; d.f F.ETH_SV_CFG_EN 31 ≠ 0 ∧ (d.svOf 31).arr = none ∧ (({ d with eth := { d.eth with sv := [(31, { SvStream.none_ with arr := some 4 })] } } : Dev).svOf 31).arr = some 4) ∧ mgr.f F.ETH_SV_CFG_EN 31 = 0) ∧
    (({ mgr with eth := { mgr.eth with dup := [{ src := 0, seq := 5, ports := 1, made := 0 }] } } : Dev).eth.dup = [{ src := 0, seq := 5, ports := 1, made := 0 }]) ∧
    (mgr.redMode = 0 ∧ (ethDev 1 0).redMode = 1 ∧ (ethDev 1 0).ethQ 0 0 = [] ∧ (ethDev 1 0).ethQ 1 0 = []) := by
  decide +kernel

/-- Ring 5 in operation, of a kind, with descriptors in turn. -/
def ringDev (kind : Nat) (l : List (Fld × Nat × Nat × Nat)) (tail : Nat) (act : List Desc) : Dev :=
  (dev .manager ([(F.HOSTQ_CTL_EN, 1, 0, 0), (F.HOSTQ_SQ_CFG_EN, 1, 5, 0), (F.HOSTQ_SQ_CFG_KIND, kind, 5, 0), (F.HOSTQ_SQ_CFG_LOG2SIZE, 4, 5, 0), (F.HOSTQ_CQ_CFG_LOG2SIZE, 4, 0, 0), (F.HOSTQ_CQ_CFG_EN, 1, 0, 0),
    (F.HOSTQ_SQ_STAT_STATE, 1, 5, 0)] ++ l)).setSq 5 { Sq.empty with tail := tail, act := act }
def desc (op : Nat) (l : List Byte) : Desc := { idx := 0, bytes := ([BitVec.ofNat 8 op, 0, 0, 0, 0, 0, 0, 0] ++ l) ++ List.replicate (56 - l.length) 0, started := false, fin := none }
def cqe : CqEntry := { tag := 0, status := .ok, op := 0, epoch := 0, notice := false, sq := 5, sqHead := 0, irq := false, payload := [] }

set_option maxRecDepth 100000 in
theorem witness_HostRings :
    ((let check := fun (fn o : Nat) => mgr.begin.accessCheck fn .hostq Blk.hostq.num o 4 (accOf (placeOf .hostq o) true) false;
      mgr.role = .manager ∧ cell.role ≠ .manager ∧ (check 0 (0x8000 + 8 * 63)).isNone = true ∧ (check 0 (0x8004 + 8 * 63)).isNone = true ∧ (check 4 (0x8000 + 8 * 63)).isSome = true ∧ (check 4 (0x8004 + 8 * 63)).isSome = true)) ∧
    ((let d := ringDev 0 [] 0 []; let n := d.sqSize 5; let q := d.sqOf 5; 15 < n ∧ (q.tail + n - q.cons % n) % n + (15 + n - q.tail % n) % n ≤ n - 1 ∧ n ≤ 16)) ∧
    ((let d := (ringDev 0 [(F.HOSTQ_CQ_STAT_TAIL, 1, 0, 0)] 0 []).setCq 0 { Cq.empty with used := 1 }; let n := d.cqSize 0; let c := d.cqOf 0; 1 < n ∧ (1 + n - (d.f F.HOSTQ_CQ_STAT_TAIL 0 + n - c.used % n) % n) % n ≤ c.used)) ∧
    ((let d := ringDev 0 [] 3 []; d.f F.HOSTQ_CTL_EN ≠ 0 ∧ d.f F.HOSTQ_SQ_CFG_EN 5 ≠ 0 ∧ d.f F.HOSTQ_SQ_STAT_STATE 5 = 1 ∧ d.f F.HOSTQ_SQ_STAT_HEAD 5 ≠ (d.sqOf 5).tail ∧ d.cqFull (d.cqFor 5) = false ∧ d.f F.HOSTQ_SQ_CFG_KIND 5 = 0)) ∧
    ((desc 11 []).op = 11 ∧ kindAccepts 0 11 = true ∧ (desc 11 []).headerOk = true ∧ 0x0B < (desc 12 []).op) ∧
    ((ringDev 0 [] 0 []).f F.HOSTQ_SQ_STAT_HEAD 5 = ((ringDev 0 [] 0 []).sqOf 5).tail) ∧
    ((let d := (ringDev 0 [(F.HOSTQ_CQ_COAL_COUNT, 0, 0, 0)] 0 []).setCq 0 { Cq.empty with wait := [cqe] }; d.f F.HOSTQ_CQ_CFG_EN 0 ≠ 0 ∧ d.cqFull 0 = false ∧ (d.cqOf 0).held = [] ∧ (d.cqOf 0).wait = [cqe] ∧ d.f F.HOSTQ_CQ_COAL_COUNT 0 = 0)) ∧
    ((let d := (ringDev 0 [(F.HOSTQ_CQ_COAL_TIME, 1, 0, 0), (F.HOSTQ_CQ_CFG_IRQ_EN, 1, 0, 0)] 0 []).setCq 0 { Cq.empty with used := 16, since := 1 }; d.cqFull 0 = true ∧ d.f F.HOSTQ_CQ_CFG_IRQ_EN 0 ≠ 0 ∧ d.f F.HOSTQ_CQ_COAL_TIME 0 ≠ 0 ∧ (d.cqOf 0).since ≠ 0) ∧ mgr.f F.HOSTQ_CQ_CFG_IRQ_EN 0 = 0) ∧
    ((∀ k ∈ List.range 64, mgr.f F.HOSTQ_SQ_CFG_FUNC k ≠ 4 ∧ mgr.f F.HOSTQ_CQ_CFG_FUNC k ≠ 4) ∧ mgr.role = .manager ∧ mgr.gate.dormant = false) := by
  decide +kernel

def turnOf (kind op : Nat) (l : List Byte) (r : List (Fld × Nat × Nat × Nat)) : Dev := ringDev kind r 0 [desc op l]
def free (d : Dev) (b : Blk) (t o n acc : Nat) (stale : Bool) : Bool := (d.accessCheck (d.sqMaster 5) b t o n acc stale).isNone

set_option maxRecDepth 100000 in
theorem witness_HostDescriptors :
    ((turnOf 0 0 [] []).turn 5 0 = some (desc 0 []) ∧ (desc 0 []).zeroBut [] = true ∧ (desc 0 [1]).zeroBut [] = false) ∧
    ((turnOf 0 1 (bytesOf 4 0x900 ++ [4]) []).turn 5 1 = some (desc 1 (bytesOf 4 0x900 ++ [4])) ∧ (desc 1 (bytesOf 4 0x900 ++ [4])).zeroBut [(8, 4), (12, 1)] = true ∧ (desc 1 [0, 0, 0, 0, 0, 1]).zeroBut [(8, 4), (12, 1)] = false) ∧
    ((let d := turnOf 0 1 (bytesOf 4 0 ++ [4]) []; (d.begin.startDesc 5 (desc 1 (bytesOf 4 0 ++ [4]))).spin.reqs = [])) ∧
    ((turnOf 0 2 (bytesOf 4 0 ++ [4]) []).turn 5 2 = some (desc 2 (bytesOf 4 0 ++ [4])) ∧ (desc 2 []).zeroBut [(8, 4), (12, 1), (16, 8)] = true ∧ (desc 2 [0, 0, 0, 0, 0, 1]).zeroBut [(8, 4), (12, 1), (16, 8)] = false) ∧
    ((let l := List.replicate 8 0 ++ bytesOf 4 0x200000 ++ [2, 0, 0, 0] ++ bytesOf 4 4; let d := turnOf 0 3 l []; d.turn 5 3 = some (desc 3 l) ∧ (desc 3 l).copyOk false = true ∧ d.copyShown (desc 3 l) = true ∧
      (∀ acc ∈ extentAcc 2 0x200000 4, free d (desc 3 l).copyAt.1 (desc 3 l).copyAt.2.1 (desc 3 l).copyAt.2.2 4 acc ((desc 3 l).stale d (desc 3 l).copyAt.1) = true) ∧ (desc 3 []).copyOk false = false)) ∧
    ((let l := List.replicate 8 0 ++ bytesOf 4 0 ++ [4, 0, 0, 0] ++ bytesOf 4 4; let d := turnOf 0 4 l []; d.turn 5 4 = some (desc 4 l) ∧ (desc 4 l).copyOk true = true ∧
      free d (desc 4 l).copyAt.1 (desc 4 l).copyAt.2.1 (desc 4 l).copyAt.2.2 4 1 ((desc 4 l).stale d (desc 4 l).copyAt.1) = true ∧ (desc 4 []).copyOk true = false)) ∧
    ((let d := turnOf 0 6 [] []; d.turn 5 6 = some (desc 6 []) ∧ (desc 6 []).zeroBut [(8, 8)] = true ∧ free d .global 0 0x120 8 3 ((desc 6 []).stale d .global) = true ∧ (desc 6 [0, 0, 0, 0, 0, 0, 0, 0, 1]).zeroBut [(8, 8)] = false)) ∧
    ((let l : List Byte := [4, 1, 127, 47]; let d := turnOf 0 5 l []; d.turn 5 5 = some (desc 5 l) ∧ (desc 5 l).zeroBut [(8, 16)] = true ∧ d.laneMode 47 = mPrimary ∧ free d .trunk Blk.trunk.num (0x40 * 47) 0x40 3 false = true)) ∧
    ((let d := turnOf 0 7 [] []; d.turn 5 7 = some (desc 7 []) ∧ free d .eth 5 0 0x40 3 (decide ((desc 7 []).epoch ≠ d.f F.ETH_PORT_STAT_EPOCH 0)) = true)) ∧
    ((let l := List.replicate 8 0 ++ bytesOf 2 64; let d := turnOf 1 8 l []; d.turn 5 8 = some (desc 8 l) ∧ (desc 8 l).zeroBut [(8, 10)] = true ∧ d.f F.HOSTQ_SQ_CFG_KIND 5 = 1 ∧
      free d .eth Blk.eth.num 0 0x40 1 (decide ((desc 8 l).epoch ≠ d.f F.ETH_PORT_STAT_EPOCH 0)) = true)) ∧
    ((let l := bytesOf 4 1 ++ [31, 1]; let d := turnOf 0 9 l []; d.turn 5 9 = some (desc 9 l) ∧ (desc 9 l).zeroBut [(8, 6), (16, 8)] = true ∧ free d .can 14 0x40 0x40 3 ((desc 9 l).stale d .can) = true ∧ ¬ (idRtr 1 = true ∧ idFdf 1 = true) ∧
      (idRtr (2 ^ 32 - 1) = true ∧ idFdf (2 ^ 32 - 1) = true))) ∧
    ((let l : List Byte := [0, 0, 63, 0, 0, 1]; let d := turnOf 0 10 l []; d.turn 5 10 = some (desc 10 l) ∧ (desc 10 l).zeroBut [(8, 3), (13, 1)] = true ∧ free d .can 14 0x40 0x40 3 ((desc 10 l).stale d .can) = true)) ∧
    ((let l := [1] ++ List.replicate 15 0 ++ bytesOf 4 376; let d := turnOf 0 11 l [(F.SECURE_STAT_ID_READY, 1, 0, 0), (F.SECURE_STAT_RECOVERY, 1, 0, 0)]; d.turn 5 11 = some (desc 11 l) ∧ (desc 11 l).zeroBut [(8, 1), (16, 12), (32, 32)] = true ∧
      field (desc 11 l).bytes 24 4 = 376 ∧ free d .secure 3 0x10 4 3 ((desc 11 l).stale d .secure) = true ∧ d.f F.SECURE_STAT_ID_READY ≠ 0 ∧ d.lc ≠ lcReturned ∧ d.f F.SECURE_STAT_RECOVERY ≠ 0)) ∧
    (mgr.f F.SECURE_STAT_RECOVERY = 0 ∧ (dev .manager [(F.SECURE_LC_STATE, lcReturned, 0, 0)]).lc = lcReturned) := by
  decide +kernel

set_option maxRecDepth 100000 in
theorem witness_RegisterWriteIsChecked :
    ((2 : Nat) ≠ 4 ∧ 2 % 4 ≠ 0 ∧ 0x120000 ≤ 0x120000 ∧ 0x11FFFC < 0x120000) ∧
    (Blk.ofNum (0x80000 / 0x10000) = some .loom ∧ cell.blockStatus .loom 0 = .invalid ∧ (dev .manager [(F.SECURE_STAT_RECOVERY, 1, 0, 0)]).blockStatus .loom 0 = .busy) ∧
    (({ mgr with glob := { mgr.glob with blkRst := [8] } } : Dev).blockStatus .loom 0 = .retired) ∧
    (mgr.blockStatus .loom 0 = .ok ∧ (mgr.begin.tgCheck 4 Blk.loom.num (accOf (placeOf .loom 0) true) 0 4 false).isSome = true ∧ (mgr.begin.tgCheck 0 Blk.loom.num (accOf (placeOf .loom 0) true) 0 4 false).isNone = true ∧
      (placeOf .loom 0).any mgr.shown = true) ∧
    (placeOf .loom 0xFFC = none ∧ mgr.blockStatus .loom 0xFFC = .ok ∧ (mgr.begin.tgCheck 0 Blk.loom.num (accOf (placeOf .loom 0xFFC) true) 0xFFC 4 false).isNone = true) := by
  decide +kernel

/-- A unit whose identity is ready, in a lifecycle state. -/
def idDev (lc : Nat) (l : List (Fld × Nat × Nat × Nat)) : Dev := dev .manager ([(F.SECURE_STAT_ID_READY, 1, 0, 0), (F.SECURE_LC_STATE, lc, 0, 0)] ++ l)

set_option maxRecDepth 100000 in
theorem witness_LifecycleCommands :
    (mgr.f F.SECURE_STAT_ID_READY = 0 ∧ (idDev lcBlank []).f F.SECURE_STAT_ID_READY ≠ 0 ∧ (idDev lcBlank []).f F.SECURE_STAT_RNG_FAIL = 0 ∧ (idDev lcBlank [(F.SECURE_STAT_RNG_FAIL, 1, 0, 0)]).f F.SECURE_STAT_RNG_FAIL ≠ 0 ∧ (idDev lcBlank []).engineFull = false ∧ cmdRule 1 (idDev lcBlank []).lc = some false ∧
      (let q : SecReq := { desc := none, nonce := [], body := [], sec := 0, ns := 0 }; let e := idDev lcBlank []; ({ e with sec := { e.sec with reqs := List.replicate 5 q } } : Dev).engineFull = true)) ∧
    (cmdRule 2 (idDev lcBlank []).lc = none ∧ cmdRule 1 (idDev lcReturned []).lc = none ∧ cmdRule 5 (idDev lcReturned []).lc = none) ∧
    (cmdRule 2 (idDev lcDevelop []).lc = some true ∧ (idDev lcDevelop []).ownerSigned [] [] [] = false) ∧
    ((idDev lcBlank []).lc = lcBlank ∧ (idDev lcDevelop []).lc = lcDevelop ∧ (idDev lcSealed []).lc = lcSealed) ∧
    (((idDev lcDevelop []).programSlot 3 (sha256 [])).slotOf [] = some 3) ∧
    (((List.range 4).find? fun k => !bitOf ((idDev lcDevelop [(F.SECURE_LC_SLOT_USED, 7, 0, 0)]).f F.SECURE_LC_SLOT_USED) k) = some 3 ∧
      ((List.range 4).find? fun k => !bitOf ((idDev lcDevelop [(F.SECURE_LC_SLOT_USED, 15, 0, 0)]).f F.SECURE_LC_SLOT_USED) k) = none) ∧
    ((idDev lcDevelop [(F.SECURE_LC_SLOT_USED, 15, 0, 0)]).liveSlots ≠ [field [3] 0 1] ∧ bitOf ((idDev lcDevelop [(F.SECURE_LC_SLOT_USED, 15, 0, 0)]).f F.SECURE_LC_SLOT_USED) (field [3] 0 1) = true ∧
      (idDev lcDevelop [(F.SECURE_LC_SLOT_USED, 8, 0, 0)]).liveSlots = [field [3] 0 1]) ∧
    (({ mgr with sec := { mgr.sec with fw := true } } : Dev).sec.fw = true) := by
  decide +kernel

set_option maxRecDepth 100000 in
theorem witness_BootAndAttestation :
    ((idDev lcBlank []).role = .manager ∧ (idDev lcBlank []).lc ≠ lcReturned ∧ (idDev lcBlank []).sec.boot < 2 ∧ (idDev lcBlank []).imgOk [] = false ∧ (idDev lcReturned []).lc = lcReturned) ∧
    (mgr.f F.SECURE_STAT_ID_READY = 0 ∧ mgr.role = .manager ∧ mgr.glob.por = false ∧ mgr.blockStatus .secure 0x10 = .ok ∧ conc.f F.SECURE_STAT_ID_READY = 0 ∧ conc.role = .concentrator ∧ conc.glob.por = false) ∧
    ((let d := idDev lcDevelop []; d.blockStatus .secure 0x10 = .ok ∧ d.f F.SECURE_STAT_ID_READY ≠ 0 ∧ d.lc ≠ lcReturned ∧ d.sec.reqs = [])) ∧
    ((let q : SecReq := { desc := none, nonce := [], body := [], sec := 0, ns := 0 }; let e := idDev lcDevelop []; let d : Dev := { e with sec := { e.sec with reqs := List.replicate 5 q } };
      5 ≤ d.sec.reqs.length ∧ d.blockStatus .secure 0x10 = .ok ∧ d.lc ≠ lcReturned ∧ (({ e with sec := { e.sec with reqs := [q] } } : Dev)).sec.reqs = [q] ∧ q.desc = none)) ∧
    ((idDev lcReturned []).blockStatus .secure 0x10 = .ok ∧ blkOn mgr.role .secure = true ∧ mgr.blkGated .secure = false ∧ mgr.gate.dormant = false) := by
  decide +kernel

def canDev (r : Role) (l : List (Fld × Nat × Nat × Nat)) (x : CanCtl) : Dev := (dev r ((F.CAN_CFG_EN, 1, 1, 0) :: l)).setCan 1 x
def canTx (id : Nat) : CanTx := { frame := { id := id, dlc := 0, brs := false, data := [] }, desc := none, last := false }

set_option maxRecDepth 100000 in
theorem witness_CanFramesAndMailbox :
    ((let d := canDev .manager [(F.CAN_STAT_STATE, canActive, 1, 0)] { CanCtl.idle with pend := [canTx (2 * 2 ^ 18), canTx (2 ^ 18)] }; d.f F.CAN_CFG_EN 1 ≠ 0 ∧ d.f F.CAN_STAT_STATE 1 ≠ canBusOff ∧ contender (d.canCtl 1).pend = some (canTx (2 ^ 18)) ∧ d.canLateBit 1 0 (canTx (2 ^ 18)).frame = false) ∧
      (let x : CanTx := { frame := { id := 2 ^ 31, dlc := 1, brs := true, data := [5] }, desc := none, last := false }; let d := canDev .manager [(F.CAN_STAT_STATE, canActive, 1, 0), (F.CAN_CFG_FD, 1, 1, 0), (F.CAN_CFG_TDC_EN, 1, 1, 0), (F.CAN_CFG_TDC_OFS, 28, 1, 0)] { CanCtl.idle with pend := [x] };
      contender (d.canCtl 1).pend = some x ∧ d.canLateBit 1 0 x.frame = false ∧ d.canLateBit 1 4000 x.frame = true)) ∧
    ((let d := canDev .concentrator [(F.CAN_STAT_STATE, canActive, 1, 0)] CanCtl.idle; d.role = .concentrator ∧ d.f F.CAN_STAT_STATE 1 ≠ canBusOff ∧ d.f F.CAN_CFG_MODE 1 ≠ 1 ∧ idFdf 5 = false ∧ (d.canCtl 1).fifo.length < 16 ∧ idFdf (2 ^ 31) = true) ∧
      (let d := canDev .concentrator [(F.CAN_NBT_TSEG1, 15, 1, 0), (F.CAN_NBT_TSEG2, 3, 1, 0), (F.CAN_CFG_FD, 0, 1, 0)] CanCtl.idle; d.canFollows 1 [(false, 1), (false, -1)] = true ∧ d.canFollows 1 [(false, 4000)] = false ∧ d.f F.CAN_CFG_FD 1 = 0)) ∧
    ((let x : CanRx := { frame := aFrame 0, time := 0, esi := false, own := false }; let d := canDev .concentrator [] { CanCtl.idle with fifo := List.replicate 16 x }; 16 ≤ (d.canCtl 1).fifo.length ∧ d.role = .concentrator ∧ d.f F.CAN_CFG_MODE 1 ≠ 1)) ∧
    ((let d := canDev .concentrator [] CanCtl.idle; d.blockStatus .can (64 * 1 + 0x20) = .ok ∧ d.f F.CAN_TXB_STAT_PENDING 1 = 0 ∧ d.role = .concentrator ∧ (d.canCtl 1).pend.length < 8 ∧ 8 ≤ (({ CanCtl.idle with pend := List.replicate 8 (canTx 2) } : CanCtl)).pend.length ∧ ¬ (idRtr (d.f F.CAN_TXB_ID_V 1) = true ∧ idFdf (d.f F.CAN_TXB_ID_V 1) = true))) ∧
    ((let d := canDev .concentrator [(F.CAN_TXB_STAT_PENDING, 1, 1, 0)] CanCtl.idle; d.f F.CAN_TXB_STAT_PENDING 1 ≠ 0) ∧ (let d := canDev .concentrator [(F.CAN_TXB_ID_V, 2 ^ 32 - 1, 1, 0)] CanCtl.idle; idRtr (d.f F.CAN_TXB_ID_V 1) = true ∧ idFdf (d.f F.CAN_TXB_ID_V 1) = true)) ∧
    (((conc.canCtl 1).pend.find? fun x => x.desc.isNone) = none ∧ (((canDev .concentrator [] { CanCtl.idle with pend := [canTx 2] }).canCtl 1).pend.find? fun x => x.desc.isNone) = some (canTx 2)) ∧
    ((canDev .manager [(F.CAN_CFG_FD, 1, 1, 0)] CanCtl.idle).f F.CAN_CFG_FD 1 ≠ 0 ∧ (canDev .manager [(F.CAN_CFG_MODE, 1, 1, 0)] CanCtl.idle).f F.CAN_CFG_MODE 1 = 1) := by
  decide +kernel

set_option maxRecDepth 100000 in
theorem witness_CanControllerStates :
    ((let d := dev .manager [(F.CAN_NBT_TSEG1, 15, 1, 0), (F.CAN_NBT_TSEG2, 3, 1, 0), (F.CAN_DBT_BRP, 9, 1, 0)]; d.blockStatus .can (64 * 1) = .ok ∧ d.f F.CAN_CFG_EN 1 = 0 ∧ bits (putBit (d.word F.regCanCfg 0 1 0) 31 true) 29 2 ≠ 3 ∧ d.canTimingOk 1 = true)) ∧
    (mgr.f F.CAN_CFG_EN 1 = 0 ∧ (dev .manager [(F.CAN_NBT_TSEG2, 0, 1, 0)]).canTimingOk 1 = false) ∧
    ((let d := canDev .manager [] CanCtl.idle; d.f F.CAN_CFG_EN 1 ≠ 0 ∧ bits (putBit (d.word F.regCanCfg 0 1 0) 31 true) 29 2 ≠ 3 ∧ bits (putBit (d.word F.regCanCfg 0 1 0) 31 false) 29 2 ≠ 3)) ∧
    ((let d := canDev .manager [(F.CAN_STAT_STATE, canPassive, 1, 0)] CanCtl.idle; d.f F.CAN_STAT_STATE 1 ≠ canBusOff ∧ d.f F.CAN_STAT_STATE 1 ≠ canOff ∧ (d.canCtl 1).pend = [] ∧ (0 : Nat) ≠ 3)) ∧
    ((let d := canDev .manager [(F.CAN_STAT_STATE, canBusOff, 1, 0)] { CanCtl.idle with recov := true }; d.f F.CAN_STAT_STATE 1 = canBusOff ∧ (d.canCtl 1).recov = true ∧ d.blockStatus .can (64 * 1 + 0x20) = .ok)) := by
  decide +kernel

def straps (a b : Bool) : Straps := { s1 := a, s0 := b, plane := false }

set_option maxRecDepth 100000 in
theorem witness_PowerOnAndRole :
    (mgr.glob.por = false ∧ Dev.off.glob.por = true ∧ ¬ (straps true true = straps true false) ∧ Dev.off.gate.cpg = false) := by
  decide +kernel

set_option maxRecDepth 100000 in
theorem witness_WarmAndBlockReset :
    (mgr.glob.por = false ∧ mgr.role ≠ .none ∧ mgr.gate.dormant = false ∧ mgr.glob.warm = none ∧ mgr.blockStatus .global 0x30 = .ok ∧ mgr.f F.DEBUG_STAT_HALTED = 0 ∧ mgr.blockStatus .global 0x34 = .ok) ∧
    ((dev .manager [(F.DEBUG_STAT_HALTED, 1, 0, 0)]).f F.DEBUG_STAT_HALTED ≠ 0 ∧ ({ conc with glob := { conc.glob with warm := some 6 } } : Dev).glob.warm = some 6 ∧ conc.role = .concentrator) ∧
    (Blk.ofNum 31 = none ∧ Blk.ofNum 17 = some .debug ∧ Blk.ofNum 1 = some .tollgate ∧ blkOn .manager .tollgate = true ∧ mgr.blkGated .tollgate = false ∧ mgr.glob.blkRst.contains 1 = false ∧ mgr.glob.swap = none ∧
      mgr.f F.PAIR_STAT_STATE ≠ 2 ∧ Blk.ofNum Blk.pair.num = some .pair ∧ mgr.blkGated .pair = false) ∧
    (17 ∈ ({ mgr with glob := { mgr.glob with blkRst := [4, 17] } } : Dev).glob.blkRst ∧ Blk.ofNum Blk.time.num = some .time) := by
  decide +kernel

set_option maxRecDepth 100000 in
theorem witness_ClocksSuppliesIslands :
    (mgr.role = .manager ∧ mgr.glob.por = false ∧ mgr.gate.dormant = false) ∧
    ((let d : Dev := { conc with glob := { conc.glob with straps := straps true false } }; d.glob.por = false ∧ d.role = .concentrator ∧ d.glob.straps.s1 = true ∧ d.glob.straps.s0 = false ∧ d.gate.dormant = false)) ∧
    (cell.role = .cell ∧ cell.blockStatus .global 0x28 = .ok ∧ cell.blockStatus .global 0x20 = .ok ∧ mgr.blockStatus .global 0x28 = .ok ∧ mgr.blockStatus .global 0x20 = .ok) ∧
    ((let d := dev .manager [(F.GLOBAL_PWR_CTL_ETH_ON, 1, 0, 0), (F.ETH_PORT_CFG_EN, 1, 0, 0)]; (((islands d.role).filter fun k => islandBit d.pwrCtl d.pwrLane k && !islandBit 0 d.pwrLane k).any d.islandEn) = true)) ∧
    (((islands conc.role).filter fun k => islandBit conc.pwrCtl conc.pwrLane k && !islandBit (2 ^ 32 - 1) conc.pwrLane k) = []) ∧
    (({ mgr with glob := { mgr.glob with ramp := [0, 47] } } : Dev).glob.ramp = [0, 47] ∧ mgr.glob.ramp = []) := by
  decide +kernel

def sleeping (cpg low : Bool) : Dev := { cell with gate := { cell.gate with dormant := true, cpg := cpg, aonLow := low }, glob := { cell.glob with aonRole := .cell } }

set_option maxRecDepth 100000 in
theorem witness_CellDormancy :
    (cell.role = .cell ∧ cell.gate.dormant = false ∧ (sleeping false false).gate.dormant = true ∧ (sleeping false false).role = .cell ∧ mgr.role ≠ .cell) ∧
    (¬ (straps true true = straps true false) ∧ (straps true false).role ≠ (sleeping false false).glob.aonRole ∧ (straps true true).role = (sleeping false false).glob.aonRole) ∧
    ((sleeping false false).f F.GATE_BYP_STAT_FIRED = 0 ∧ (sleeping false false).otpBypassed = false) ∧
    ((let d := sleeping true true; d.role = .cell ∧ d.gate.dormant = true ∧ d.gate.cpg = true ∧ d.gate.aonLow = true ∧ d.f F.GATE_BYP_STAT_FIRED = 0 ∧ d.otpBypassed = false) ∧ (sleeping false false).gate.cpg = false) := by
  decide +kernel

set_option maxRecDepth 100000 in
theorem witness_DebugAndTestPort :
    (mgr.blockStatus .debug 0 = .ok ∧ mgr.role = .manager ∧ (idDev lcSealed []).lc = lcSealed ∧ (idDev lcSealed []).blockStatus .debug 0 = .ok ∧ mgr.lc ≠ lcSealed ∧ mgr.f F.PAIR_STAT_STATE ≠ 2 ∧ mgr.f F.DEBUG_STAT_HALTED = 0 ∧ conc.blockStatus .debug 0 = .ok ∧
      conc.lc ≠ lcSealed ∧ conc.f F.DEBUG_STAT_HALTED = 0 ∧ mgr.glob.warm = none ∧ mgr.glob.por = false ∧ mgr.gate.dormant = false) ∧
    ((dev .manager [(F.PAIR_STAT_STATE, 2, 0, 0)]).f F.PAIR_STAT_STATE = 2 ∧ (dev .manager [(F.PAIR_STAT_STATE, 2, 0, 0)]).lc ≠ lcSealed ∧ (dev .manager [(F.DEBUG_STAT_HALTED, 1, 0, 0)]).f F.DEBUG_STAT_HALTED ≠ 0) := by
  decide +kernel

/-- A unit of a pair whose lane 47 is a cross-link in RUN. -/
def pairDev (l : List (Fld × Nat × Nat × Nat)) : Dev := (dev .manager ([(F.TRUNK_LANE_MAP_MODE, mPair, 47, 0)] ++ l)).putLn F.LANE_LANE_STAT_STATE 47 lRun

set_option maxRecDepth 100000 in
theorem witness_PairExchangeBlocks :
    (¬ (mgr.isPair 47 = true ∧ mgr.inRun 47 = true) ∧ (pairDev []).isPair 47 = true ∧ (pairDev []).inRun 47 = true) ∧
    ((pairDev [(F.PAIR_STAT_STATE, 2, 0, 0)]).f F.PAIR_STAT_STATE = 2 ∧ (pairDev [(F.PAIR_STAT_STATE, 2, 0, 0)]).isPair 47 = true ∧ (pairDev [(F.PAIR_STAT_STATE, 2, 0, 0)]).inRun 47 = true ∧ (pairDev []).f F.PAIR_STAT_STATE ≠ 2) ∧
    (crcOk [] = false ∧ pxParts 4 [] = none ∧ pxLenOk 4 (List.replicate 32 0) = true ∧ pxLenOk 4 [] = false ∧ pxLenOk 2 ([5, 1, 0, 1] ++ List.replicate 10 0) = true ∧ pxLenOk 3 [11, 0, 1, 0, 0, 0, 0, 0, 0, 7, 7] = true) ∧
    ((let m : List Byte := List.replicate 32 7; pxParts 4 (pxBytes 4 9 m) = some (9, m)) ∧ (let g : List Byte := [5, 1, 0, 1] ++ List.replicate 10 0; pxParts 2 (pxBytes 2 9 g) = some (9, g)) ∧
      (let l : List Byte := [11, 0xFF, 0xFF, 0, 0, 0, 0, 0, 0]; pxParts 3 (pxBytes 3 9 l) = some (9, l) ∧ field l 0 1 < 12 ∧ fieldBE l 1 2 = 0xFFFF) ∧
      (let l : List Byte := [11, 0, 1, 0, 0, 0, 0, 0, 0, 7, 7]; pxParts 3 (pxBytes 3 9 l) = some (9, l) ∧ fieldBE l 1 2 ≠ 0xFFFF)) ∧
    ((let p : List Byte := [0x20] ++ List.replicate 55 0; let d := (pairDev [(F.PAIR_STAT_STATE, 1, 0, 0)]).begin; let words := (List.range 8).map fun k => fieldBE p (4 * k) 4
      let u := d.each (List.range 8) fun u k => u.put F.PAIR_PHEALTH_WORD (words.getD k 0) k; let u := (u.put F.PAIR_STAT_PSTATE 2).put F.PAIR_CFGID_PARTNER (fieldBE p 52 4);
      pxParts 1 (pxBytes 1 0 p) = some (0, p) ∧ bits (words.getD 0 0) 28 4 = 2 ∧ u.standby = true ∧ (fieldBE p 52 4 ≠ u.cfgidAt (d.cycNear 0) ∨ fieldBE p 52 4 = u.cfgidAt (d.cycNear 0)) ∧ (u.put F.PAIR_CFGID_OWN 7).cfgidAt 5 = 7) ∧
      (let p : List Byte := [0x10] ++ List.replicate 55 0; pxParts 1 (pxBytes 1 0 p) = some (0, p) ∧ bits (fieldBE p 0 4) 28 4 ≠ 2)) := by
  decide +kernel

set_option maxRecDepth 100000 in
theorem witness_PairConditions :
    ((let x : SofSeen := ⟨1, true, false, false, 0, 0, 0, false⟩; let e := pairDev [(F.PAIR_STAT_XLINK_UP, 1, 0, 0)]; let d : Dev := { e with pair := { e.pair with psof := some x } }; d.role = .manager ∧ d.pair.psof = some x ∧ d.f F.PAIR_STAT_XLINK_UP ≠ 0 ∧
      (d.begin.advanceTo (x.tm + 2 * d.perNs + 1)).xlinkNow = false)) ∧
    ((let e := dev .manager [(F.PAIR_STAT_STATE, 2, 0, 0)]; let d : Dev := { e with pair := { e.pair with fit := 70000 } }; d.f F.PAIR_STAT_STATE = 2 ∧ 0 < d.pair.fit ∧ d.fi F.PAIR_FIT_FIT_HOLD ≤ d.pair.fit)) ∧
    (({ mgr with pair := { mgr.pair with watch := some 5 } } : Dev).pair.watch = some 5 ∧ mgr.role = .manager) := by
  decide +kernel

set_option maxRecDepth 100000 in
theorem witness_PairHostCommands :
    (mgr.blockStatus .pair 0x10 = .ok ∧ mgr.f F.PAIR_STAT_STATE ≠ 2 ∧ mgr.f F.PAIR_STAT_STATE ≠ 3 ∧ (dev .manager [(F.PAIR_STAT_STATE, 2, 0, 0)]).f F.PAIR_STAT_STATE = 2 ∧ (dev .manager [(F.PAIR_STAT_STATE, 3, 0, 0)]).f F.PAIR_STAT_STATE = 3) ∧
    ((let v : Vote := { cyc := 0, r := 9, l := 0, s := 9, gens := [(0, 9)], f := 9, h := 0, e := 0 }; let e := pairDev [(F.PAIR_STAT_STATE, 1, 0, 0), (F.GLOBAL_CYCLE_CTL_RUN, 1, 0, 0), (F.PAIR_STAT_XLINK_UP, 1, 0, 0), (F.PAIR_STAT_HB_OK, 1, 0, 0)]; let d : Dev := { e with pair := { e.pair with vote := some v } };
      d.crit = false ∧ d.blockStatus .pair 0x10 = .ok ∧ d.f F.PAIR_STAT_STATE = 1 ∧ d.run = true ∧ d.pair.vote = some v ∧ v.l = 0 ∧ d.pair.psof = none)) ∧
    (({ mgr with pair := { mgr.pair with crit := 1 } } : Dev).crit = true ∧ mgr.crit = false ∧ (dev .manager [(F.PAIR_STAT_STATE, 3, 0, 0)]).crit = false ∧ (dev .manager [(F.PAIR_STAT_STATE, 3, 0, 0)]).blockStatus .pair 0x10 = .ok) := by
  decide +kernel

set_option maxRecDepth 100000 in
theorem witness_PairStateAtBoundary :
    ((∀ k ∈ List.range 4, (dev .manager [(F.PAIR_STAT_STATE, k, 0, 0), (F.PAIR_CTL_EN, 1, 0, 0)]).f F.PAIR_STAT_STATE = k ∧ ((dev .manager [(F.PAIR_CTL_EN, 1, 0, 0)]).putb F.PAIR_CTL_EN inForce 1).fi F.PAIR_CTL_EN ≠ 0)) := by
  decide +kernel

theorem witness_StepKeepsTheStatusBits : (st (dev .manager [(F.LANE_RB_STAT_HOLD, 1, 0, 0)])).Inv ∧ ∃ t, step (st (dev .manager [(F.LANE_RB_STAT_HOLD, 1, 0, 0)])) = .next t :=
  ⟨fun _ => ⟨by decide +kernel, by decide +kernel, by decide +kernel, by decide +kernel⟩, _, rfl⟩

/-- A unit in DEVELOP whose owner slot 3 holds a digest. -/
def owned (h : List Byte) : Dev :=
  let d := idDev lcDevelop [(F.SECURE_LC_SLOT_USED, 8, 0, 0)]
  { d with sec := { d.sec with slots := [(3, h)] } }

/-- An owner's signature, and an image of the vendor, where the check of signatures accepts them. -/
theorem witness_signatures (p dig sig l : List Byte) (h : Config.verify p dig sig = true) (hv : imgVendorOk l = true) :
    (owned (sha256 p)).ownerSigned p dig sig = true ∧ (idDev lcBlank []).imgOk l = true := by
  have e : (owned (sha256 p)).liveSlots = [3] := by
    change (owned []).liveSlots = [3]
    decide +kernel
  have e2 : (idDev lcBlank []).lc = lcBlank := by decide +kernel
  have e3 : (owned (sha256 p)).slotHash 3 = sha256 p := by
    simp [Dev.slotHash, owned, Tab.get, Tab.find]
  constructor
  · simp [Dev.ownerSigned, Dev.slotOf, e, e3, h]
  · simp [Dev.imgOk, hv, e2]

/-! ## The words of Loom's instructions (R88, R89, R101), and the results of the worked fragment of 04_loom_instructions -/

/-- The five words of the fragment, with their fields as its table gives them. -/
theorem test_loom_words : [0x110C000100000000, 0x3034000C00080008, 0x7C00810000000000, 0x018C002400000000, 0x020C001000100000].map LoomOp.decode =
    [some ⟨.subOp, 0, false, false, 0xC000, 0x1000, 0x0000, 0⟩, some ⟨.piOp, 0, true, true, 0x4000, 0xC000, 0x8000, 8⟩,
     some ⟨.pgetOp, 0, false, false, 0x0810, 0, 0, 0⟩, some ⟨.movOp, 2, false, false, 0xC002, 0x4000, 0, 0⟩,
     some ⟨.moviOp, 0, false, false, 0xC001, 0x0001, 0, 0⟩] := by decide +kernel

/-- PRED 0b11 and undefined operation codes are refused (R73, R89, R101). -/
theorem test_loom_words_refused : [0x30F4000C00080008, 0x0F00000000000000, 0xFF00000000000000].map LoomOp.decode = [none, none, none] := by decide +kernel

/-- PI in the two runs of the fragment, and with KI = 0x4001 without and with RND. -/
theorem test_loom_pi : (Isa.pi (ops 0x400000 [0x800000, 0x4000, 0x1000000, -0x1000000] [0, 0xF00000] 8 true)).wr = [(0, 0x1000000), (1, 0xF00000)] ∧
    (Isa.pi (ops (-0x100000) [0x800000, 0x4000, 0x1000000, -0x1000000] [0, 0xF00000] 8 true)).wr = [(0, 0xE80000), (1, 0xEFFC00)] ∧
    (Isa.pi (ops (-0x100000) [0x800000, 0x4001, 0x1000000, -0x1000000] [0, 0xF00000] 8 true)).wr.getLast? = some (1, 0xF00000 - 1024) ∧
    (Isa.pi (ops (-0x100000) [0x800000, 0x4001, 0x1000000, -0x1000000] [0, 0xF00000] 8 false)).wr.getLast? = some (1, 0xF00000 - 1025) := by decide +kernel

/-! ## Examples of the spec, and published digests -/

/-- The cell-map entry of the example of 01_roles_topology: cell 1760. -/
theorem test_cell_map_entry : (dev .manager [(F.TRUNK_CELL_MAP_VALID, 1, 1760, 0), (F.TRUNK_CELL_MAP_ARM, 3, 1760, 0), (F.TRUNK_CELL_MAP_POS, 200, 1760, 0),
    (F.TRUNK_CELL_MAP_CONC, 15, 1760, 0), (F.TRUNK_CELL_MAP_PORT, 96, 1760, 0), (F.TRUNK_CELL_MAP_IDFP, 0x5C1E07A3, 1760, 0)]).word
      F.regTrunkCellMap 0 1760 0 = 0x5C1E07A38CC80F60 := by decide +kernel

/-- SHA-256 of "abc" (FIPS 180-4), by its first and last words. -/
theorem test_sha256_abc : (sha256 [0x61, 0x62, 0x63]).length = 32 ∧ fieldBE (sha256 [0x61, 0x62, 0x63]) 0 4 = 0xBA7816BF ∧
    fieldBE (sha256 [0x61, 0x62, 0x63]) 28 4 = 0xF20015AD := by decide +kernel

/-- CRC-32 of IEEE 802.3 of "123456789": its published check value (R338). -/
theorem test_crc32 : crc32 [0x31, 0x32, 0x33, 0x34, 0x35, 0x36, 0x37, 0x38, 0x39] = 0xCBF43926 := by decide +kernel

/-- The slots of the protocol's example: INSERT_POS with PARAM 0 is 0x100F, BYPASS 0x3002 (08_skein_protocol). -/
theorem test_slots : slotWord 1 0 = 0x100F ∧ slotWord 3 0 = 0x3002 := by decide +kernel

/-! ## Commands, and a step -/

/-- TIME.INC within its limits is taken at the next tick, and refused outside them (R346). -/
theorem test_time_inc : (dev .manager []).timeIncWrite 0x050000000000 =
      (.ok, { dev .manager [] with time := { (dev .manager []).time with pendInc := some 0x050000000000, kickAt := (dev .manager []).time.frc } }) ∧
    (mgr.timeIncWrite 0x04FEB851EB84).1 = .invalid ∧ (mgr.timeIncWrite 0x050147AE147C).1 = .invalid := by decide +kernel

end Sys2Proof.Tests
end

section
/-! The Loom instruction words (R88, R89, R101): an instruction is encoded to the one word that has its layout, and decoded
from that word alone. -/

namespace Sys2Proof.Machine

/-! ## Bit fields -/

theorem bits_lt (v lo w : Nat) : bits v lo w < 2 ^ w := Nat.mod_lt _ (Nat.two_pow_pos w)

theorem div_two_pow_eq_bits (v lo w : Nat) : v / 2 ^ lo = v / 2 ^ (lo + w) * 2 ^ w + bits v lo w := by
  rw [bits, Nat.pow_add, ← Nat.div_div_eq_div_mul, Nat.div_add_mod']

/-- A field that ends at the most significant bit is what lies above its lowest bit. -/
theorem bits_eq_div {v lo w : Nat} (h : v < 2 ^ (lo + w)) : bits v lo w = v / 2 ^ lo := by
  rw [div_two_pow_eq_bits v lo w, Nat.div_eq_of_lt h, Nat.zero_mul, Nat.zero_add]

theorem bits_bits {v lo w i k : Nat} (h : i + k ≤ w) : bits (bits v lo w) i k = bits v (lo + i) k := by
  obtain ⟨d, rfl⟩ := Nat.exists_eq_add_of_le h
  simp only [bits, Nat.pow_add, Nat.mul_assoc, Nat.mod_mul_right_div_self, Nat.div_div_eq_div_mul, Nat.mod_mul_right_mod]

theorem bitOf_eq_bits (v i : Nat) : bitOf v i = decide (bits v i 1 = 1) := rfl

theorem bitOf_bits {v lo w i : Nat} (h : i < w) : bitOf (bits v lo w) i = bitOf v (lo + i) := by
  rw [bitOf_eq_bits, bits_bits h, ← bitOf_eq_bits]

theorem b2n_lt (b : Bool) : b2n b < 2 := by
  cases b <;> decide

theorem bitOf_eq_iff {v i : Nat} {b : Bool} : bitOf v i = b ↔ bits v i 1 = b2n b := by
  have h : bits v i 1 < 2 ^ 1 := bits_lt v i 1
  rw [bitOf_eq_bits]
  cases b with
  | false => simp only [decide_eq_false_iff_not, show b2n false = 0 from rfl]; omega
  | true => simp only [decide_eq_true_eq, show b2n true = 1 from rfl]

theorem b2n_bitOf (v i : Nat) : b2n (bitOf v i) = bits v i 1 := (bitOf_eq_iff.1 rfl).symm

/-! ## The operation codes (R101) -/

theorem Opc.code_lt (o : Opc) : o.code < 2 ^ 8 := by
  cases o <;> decide

@[simp] theorem Opc.ofCode_code (o : Opc) : Opc.ofCode o.code = some o := by
  cases o <;> rfl

theorem Opc.ofCode_eq_some_iff {n : Nat} {o : Opc} : Opc.ofCode n = some o ↔ n = o.code := by
  constructor
  · intro h
    unfold Opc.ofCode at h
    split at h <;> cases h <;> rfl
  · rintro rfl
    exact o.ofCode_code

/-! ## The MOD field and the well-formed instructions (R88, R89) -/

theorem LoomOp.pred_lt {x : LoomOp} (h : x.wf = true) : x.pred < 2 ^ 2 := by
  simp only [LoomOp.wf, Bool.and_eq_true, decide_eq_true_eq] at h
  omega

theorem LoomOp.operands_lt {x : LoomOp} (h : x.wf = true) :
    x.dst < 2 ^ 16 ∧ x.srca < 2 ^ 16 ∧ x.srcb < 2 ^ 16 ∧ x.shf < 2 ^ 4 := by
  simp only [LoomOp.wf, Bool.and_eq_true, decide_eq_true_eq] at h
  omega

theorem LoomOp.mod_lt {x : LoomOp} (h : x.wf = true) : x.mod < 2 ^ 4 := by
  have hp := x.pred_lt h
  have hr := b2n_lt x.rnd
  have hs := b2n_lt x.satp
  rw [LoomOp.mod]
  omega

/-- PRED, RND and SATP of a well-formed instruction can be read off its MOD field. -/
theorem LoomOp.mod_fields {x : LoomOp} (h : x.wf = true) :
    bits x.mod 2 2 = x.pred ∧ bitOf x.mod 1 = x.rnd ∧ bitOf x.mod 0 = x.satp := by
  have hp := x.pred_lt h
  have hr := b2n_lt x.rnd
  have hs := b2n_lt x.satp
  simp only [bitOf_eq_iff, bits, LoomOp.mod]
  omega

/-- A four-bit number is made up of its PRED, RND and SATP parts. -/
theorem LoomOp.mod_of_parts {m : Nat} (h : m < 2 ^ 4) : bits m 2 2 * 4 + b2n (bitOf m 1) * 2 + b2n (bitOf m 0) = m := by
  simp only [b2n_bitOf, bits]
  omega

/-! ## The layout of R88 -/

/-- The fields of the word `w` are those of the instruction `x` (R88). -/
structure LoomOp.HasLayout (x : LoomOp) (w : Nat) : Prop where
  opc  : bits w 56 8 = x.opc.code
  mod  : bits w 52 4 = x.mod
  dst  : bits w 36 16 = x.dst
  srca : bits w 20 16 = x.srca
  srcb : bits w 4 16 = x.srcb
  shf  : bits w 0 4 = x.shf

/-- The six fields side by side: each is appended below the ones before it. -/
theorem LoomOp.encode_eq_append (x : LoomOp) :
    x.encode = ((((x.opc.code * 2 ^ 4 + x.mod) * 2 ^ 16 + x.dst) * 2 ^ 16 + x.srca) * 2 ^ 16 + x.srcb) * 2 ^ 4 + x.shf := by
  rw [LoomOp.encode]
  ring

theorem LoomOp.encode_lt {x : LoomOp} (h : x.wf = true) : x.encode < 2 ^ 64 := by
  have hc := x.opc.code_lt
  have hm := x.mod_lt h
  obtain ⟨hd, ha, hb, hs⟩ := x.operands_lt h
  rw [LoomOp.encode]
  omega

theorem LoomOp.encode_hasLayout {x : LoomOp} (h : x.wf = true) : x.HasLayout x.encode := by
  have hc := x.opc.code_lt
  have hm := x.mod_lt h
  obtain ⟨hd, ha, hb, hs⟩ := x.operands_lt h
  constructor <;> rw [LoomOp.encode, bits] <;> omega

/-- A 64-bit word is determined by its fields. -/
theorem LoomOp.HasLayout.encode_eq {x : LoomOp} {w : Nat} (h : x.HasLayout w) (hw : w < 2 ^ 64) : x.encode = w := by
  rw [LoomOp.encode_eq_append, ← h.opc, ← h.mod, ← h.dst, ← h.srca, ← h.srcb, ← h.shf, bits_eq_div (lo := 56) hw,
    ← div_two_pow_eq_bits w 52 4, ← div_two_pow_eq_bits w 36 16, ← div_two_pow_eq_bits w 20 16, ← div_two_pow_eq_bits w 4 16,
    ← div_two_pow_eq_bits w 0 4, Nat.pow_zero, Nat.div_one]

/-! ## Decoding -/

/-- The fields of a word, with the operation `o`: what the decoder makes of it before the check of MOD. -/
def LoomOp.ofWord (o : Opc) (w : Nat) : LoomOp :=
  { opc := o, pred := bits w 54 2, rnd := bitOf w 53, satp := bitOf w 52, dst := bits w 36 16, srca := bits w 20 16,
    srcb := bits w 4 16, shf := bits w 0 4 }

theorem LoomOp.ofWord_mod (o : Opc) (w : Nat) : (LoomOp.ofWord o w).mod = bits w 52 4 := by
  have h := LoomOp.mod_of_parts (bits_lt w 52 4)
  rwa [bits_bits (by decide), bitOf_bits (by decide), bitOf_bits (by decide)] at h

theorem LoomOp.ofWord_hasLayout {o : Opc} {w : Nat} (h : bits w 56 8 = o.code) : (LoomOp.ofWord o w).HasLayout w :=
  ⟨h, (ofWord_mod o w).symm, rfl, rfl, rfl, rfl⟩

/-- A well-formed instruction is what stands in every word with its layout. -/
theorem LoomOp.HasLayout.ofWord_eq {x : LoomOp} {w : Nat} (h : x.HasLayout w) (hx : x.wf = true) : LoomOp.ofWord x.opc w = x := by
  obtain ⟨hp, hr, hs⟩ := x.mod_fields hx
  rw [← h.mod, bits_bits (by decide)] at hp
  rw [← h.mod, bitOf_bits (by decide)] at hr hs
  rw [LoomOp.ofWord, hp, hr, hs, h.dst, h.srca, h.srcb, h.shf]

theorem LoomOp.decode_eq_some_iff_ofWord {w : Nat} {x : LoomOp} :
    LoomOp.decode w = some x ↔ bits w 56 8 = x.opc.code ∧ x.wf = true ∧ LoomOp.ofWord x.opc w = x := by
  rw [← Opc.ofCode_eq_some_iff, LoomOp.decode]
  split
  next hc => simp [hc]
  next o hc =>
    change (if (ofWord o w).wf = true then some (ofWord o w) else none) = some x ↔ _
    rw [hc, Option.ite_none_right_eq_some, Option.some.injEq, Option.some.injEq]
    constructor
    · rintro ⟨hwf, rfl⟩
      exact ⟨rfl, hwf, rfl⟩
    · rintro ⟨rfl, hwf, hx⟩
      exact ⟨hx.symm ▸ hwf, hx⟩

/-- The decoder answers an instruction exactly for the words that have its layout, where it is well formed. -/
theorem LoomOp.decode_eq_some_iff {w : Nat} {x : LoomOp} : LoomOp.decode w = some x ↔ x.wf = true ∧ x.HasLayout w := by
  rw [LoomOp.decode_eq_some_iff_ofWord]
  constructor
  · rintro ⟨hc, hwf, hx⟩
    exact ⟨hwf, hx ▸ ofWord_hasLayout hc⟩
  · rintro ⟨hwf, h⟩
    exact ⟨h.opc, hwf, h.ofWord_eq hwf⟩

/-- Settles O4: the word of an instruction has its layout, the decoder finds an instruction by its layout alone, and the
layout determines a 64-bit word. -/
theorem loomWordsDecode : Obligations.LoomWordsDecode := by
  unfold Obligations.LoomWordsDecode
  constructor
  · intro x hx
    have h : x.HasLayout x.encode := x.encode_hasLayout hx
    exact ⟨x.encode_lt hx, h.opc, h.mod, h.dst, h.srca, h.srcb, h.shf, LoomOp.decode_eq_some_iff.2 ⟨hx, h⟩⟩
  · intro w x hw hd
    obtain ⟨hx, h⟩ := LoomOp.decode_eq_some_iff.1 hd
    exact ⟨hx, h.encode_eq hw⟩

end Sys2Proof.Machine
end

section
/-! The checked write of `TIME.INC` (R346): which writes are within the limits, what an accepted write leaves pending, and
what the next tick makes of it. -/

namespace Sys2Proof.Machine

/-- The limits on a write of `TIME.INC` (R346, R350): in the MANAGER, within 0.1 % of 5 ns, and while the cycle runs within
10 ppm of 5 ns of the increment in force. -/
def Dev.IncFits (s : Dev) (v : Nat) : Prop :=
  s.role = .manager ∧ 0x04FEB851EB85 ≤ v ∧ v ≤ 0x050147AE147B ∧
    (s.run = true → s.tickInc ≤ v + 54975581 ∧ v ≤ s.tickInc + 54975581)

/-- The device after an accepted write: the increment waits for the tick, and the kick timer starts anew (R346, R348). -/
def Dev.incTaken (s : Dev) (v : Nat) : Dev :=
  { s with time := { s.time with pendInc := some v, kickAt := s.time.frc } }

@[simp] theorem Dev.begin_incFits (s : Dev) (v : Nat) : s.begin.IncFits v ↔ s.IncFits v := by
  simp [Dev.IncFits]

/-- A value within the limits fits the 48 bits of INC. -/
theorem Dev.IncFits.lt {s : Dev} {v : Nat} (h : s.IncFits v) : v < 2 ^ 48 := by
  obtain ⟨_, _, hmax, _⟩ := h
  omega

/-! ## The write -/

theorem Dev.timeIncWrite_of_fits {s : Dev} {v : Nat} (h : s.IncFits v) : s.timeIncWrite v = (.ok, s.incTaken v) := by
  obtain ⟨hrole, hmin, hmax, hrun⟩ := h
  have hrange : ¬ (v < 0x04FEB851EB85 ∨ 0x050147AE147B < v) := by omega
  have hrate : ¬ (s.run = true ∧ (v < s.tickInc - 54975581 ∨ s.tickInc + 54975581 < v)) := by
    rintro ⟨hr, hfar⟩
    have hnear := hrun hr
    omega
  rw [Dev.timeIncWrite, if_neg (not_not.2 hrole), if_neg hrange, if_neg hrate]
  rfl

theorem Dev.timeIncWrite_of_not_fits {s : Dev} {v : Nat} (h : ¬ s.IncFits v) : s.timeIncWrite v = (.invalid, s) := by
  rw [Dev.timeIncWrite]
  split_ifs with hrole hrange hrate
  · rfl
  · rfl
  · rfl
  · refine absurd ⟨not_not.1 hrole, by omega, by omega, fun hr => ?_⟩ h
    have hnear : ¬ (v < s.tickInc - 54975581 ∨ s.tickInc + 54975581 < v) := fun hfar => hrate ⟨hr, hfar⟩
    omega

/-! ## The tick -/

/-- A pending increment is in force after the tick, whether or not a step is pending beside it. -/
theorem Dev.tickInc_applyPend {s : Dev} {v : Nat} (h : s.time.pendInc = some v) (hv : v < 2 ^ 48) : s.applyPend.tickInc = v := by
  have hput : ∀ d : Dev, (d.put F.TIME_INC_INC v).tickInc = v := fun d =>
    (Dev.f_put_same d F.TIME_INC_INC v 0 0).trans (Nat.mod_eq_of_lt hv)
  cases hs : s.time.pendStep with
  | none => simp only [Dev.applyPend, hs, h, hput]
  | some x => simp only [Dev.applyPend, hs, h, hput]

theorem Dev.tickInc_toTick {s : Dev} {v : Nat} (h : s.time.pendInc = some v) (hv : v < 2 ^ 48) : s.toTick.tickInc = v :=
  Dev.tickInc_applyPend (s := { s with time := { s.time with frc := s.time.frc + 1, fifth := 0 } }) h hv

/-! ## The command -/

/-- The write changes no block but TIME, and puts nothing out. -/
theorem Dev.keeps_incTaken (s : Dev) (v : Nat) : s.Keeps [.time] [] ((s.begin.incTaken v).complete .ok) := by
  simp [Dev.Keeps, Dev.incTaken]

/-- While TIME is in operation, the command comes to what the checked write answers. -/
theorem State.runs_timeIncWrite_of_ok {s : State} {v : Nat} {a : Acted} (hok : s.dev.blockStatus .time 0x8 = .ok)
    (ha : s.dev.begin.timeIncWrite v = a) : s.Runs (.timeIncWrite v) a.dev := by
  have hbegun : s.dev.begin.blockStatus .time 0x8 = .ok := by rwa [Dev.begin_blockStatus]
  rw [← ha, ← Dev.served_ok (·.timeIncWrite v) hbegun]
  exact State.runs_timeIncWrite

/-- Settles O5: the write answers by its limits alone, and what it leaves pending is in force at the next tick. -/
theorem timeIncWriteIsChecked : Obligations.TimeIncWriteIsChecked := by
  unfold Obligations.TimeIncWriteIsChecked
  intro s v hok
  change (s.dev.IncFits v → _) ∧ (¬ s.dev.IncFits v → _)
  constructor
  · intro h
    have hw : s.dev.begin.timeIncWrite v = (.ok, s.dev.begin.incTaken v) :=
      Dev.timeIncWrite_of_fits ((Dev.begin_incFits s.dev v).2 h)
    exact ⟨_, State.runs_timeIncWrite_of_ok hok hw, rfl, rfl, Dev.keeps_incTaken s.dev v, Dev.tickInc_toTick rfl h.lt⟩
  · intro h
    have hw : s.dev.begin.timeIncWrite v = (.invalid, s.dev.begin) :=
      Dev.timeIncWrite_of_not_fits (mt (Dev.begin_incFits s.dev v).1 h)
    have hr : s.Runs (.timeIncWrite v) (Acted.dev (.invalid, s.dev.begin)) := State.runs_timeIncWrite_of_ok hok hw
    exact hr

end Sys2Proof.Machine
end

section
/-! Fields of registers that never share a place in a register file, and what a write leaves of them. -/

namespace Sys2Proof.Machine

/-! ## Places -/

/-- The two fields share no place, whatever the copies and the indices: another block, another lowest bit, or offsets that differ
modulo every stride. -/
def Fld.apart (G F : Fld) : Bool :=
  let g := Nat.gcd 0x20000 (Nat.gcd (Nat.gcd G.s1 G.s2) (Nat.gcd F.s1 F.s2))
  decide (G.blk ≠ F.blk) || (decide (G.lo < 64) && decide (F.lo < 64) && (decide (G.lo ≠ F.lo) || decide (G.off % g ≠ F.off % g)))

theorem Fld.key_div_mod (F : Fld) {g : Nat} (h : F.lo < 64) (hb : g ∣ 0x20000) (h1 : g ∣ F.s1) (h2 : g ∣ F.s2) (bank i j : Nat) :
    F.key bank i j / 64 % g = F.off % g := by
  have hq : F.key bank i j / 64 = F.off + (bank * 0x20000 + F.s1 * i + F.s2 * j) := by
    unfold Fld.key; omega
  have hd : g ∣ bank * 0x20000 + F.s1 * i + F.s2 * j :=
    Nat.dvd_add (Nat.dvd_add (Dvd.dvd.mul_left hb _) (Dvd.dvd.mul_right h1 _)) (Dvd.dvd.mul_right h2 _)
  rw [hq, Nat.add_mod, Nat.mod_eq_zero_of_dvd hd, Nat.add_zero, Nat.mod_mod]

theorem Fld.key_mod (F : Fld) (h : F.lo < 64) (bank i j : Nat) : F.key bank i j % 64 = F.lo := by
  unfold Fld.key; omega

theorem Fld.key_ne_of_apart {G F : Fld} (h : G.apart F = true) (bank bank' i j i' j' : Nat) :
    G.blk ≠ F.blk ∨ G.key bank' i' j' ≠ F.key bank i j := by
  simp only [Fld.apart, Bool.or_eq_true, Bool.and_eq_true, decide_eq_true_eq] at h
  rcases h with h | ⟨⟨hG, hF⟩, h | h⟩
  · exact .inl h
  · exact .inr fun e => h (by rw [← G.key_mod hG bank' i' j', e, F.key_mod hF])
  · refine .inr fun e => h ?_
    have hdvd : ∀ a b c d : Nat, Nat.gcd 0x20000 (Nat.gcd (Nat.gcd a b) (Nat.gcd c d)) ∣ 0x20000 ∧
        Nat.gcd 0x20000 (Nat.gcd (Nat.gcd a b) (Nat.gcd c d)) ∣ a ∧ Nat.gcd 0x20000 (Nat.gcd (Nat.gcd a b) (Nat.gcd c d)) ∣ b ∧
        Nat.gcd 0x20000 (Nat.gcd (Nat.gcd a b) (Nat.gcd c d)) ∣ c ∧ Nat.gcd 0x20000 (Nat.gcd (Nat.gcd a b) (Nat.gcd c d)) ∣ d := fun a b c d =>
      have hab := (Nat.gcd_dvd_right 0x20000 _).trans (Nat.gcd_dvd_left (Nat.gcd a b) (Nat.gcd c d))
      have hcd := (Nat.gcd_dvd_right 0x20000 _).trans (Nat.gcd_dvd_right (Nat.gcd a b) (Nat.gcd c d))
      ⟨Nat.gcd_dvd_left .., hab.trans (Nat.gcd_dvd_left ..), hab.trans (Nat.gcd_dvd_right ..), hcd.trans (Nat.gcd_dvd_left ..),
        hcd.trans (Nat.gcd_dvd_right ..)⟩
    obtain ⟨hb, h1, h2, h3, h4⟩ := hdvd G.s1 G.s2 F.s1 F.s2
    rw [← G.key_div_mod hG hb h1 h2 bank' i' j', e, F.key_div_mod hF hb h3 h4]

/-- Another index of the first kind is another place. -/
theorem Fld.key_ne_of_index {F : Fld} (hs : 0 < F.s1) {i i' : Nat} (h : i' ≠ i) (bank j : Nat) : F.key bank i' j ≠ F.key bank i j := by
  intro e
  refine h (Nat.eq_of_mul_eq_mul_left hs ?_)
  unfold Fld.key at e
  omega

/-! ## Reads after writes -/

variable {G F : Fld} (s : Dev) (bank v n i j bank' i' j' : Nat)

theorem Dev.fb_putb_apart (h : G.apart F = true) : (s.putb F bank v i j).fb G bank' i' j' = s.fb G bank' i' j' :=
  Dev.fb_putb_other _ _ _ _ _ _ _ (Fld.key_ne_of_apart h ..)

theorem Dev.fb_put_apart (h : G.apart F = true) : (s.put F v i j).fb G bank' i' j' = s.fb G bank' i' j' := Dev.fb_putb_apart _ _ _ _ _ _ _ _ h

@[simp] theorem Dev.befall_fb (g : Nat → Nat) : (s.befall F g i j).fb G bank' i' j' = (s.put F (g (s.f F i j)) i j).fb G bank' i' j' := by
  unfold Dev.fb
  rw [Dev.befall_regsOf]
  rfl

theorem Dev.fb_befall_apart (g : Nat → Nat) (h : G.apart F = true) : (s.befall F g i j).fb G bank' i' j' = s.fb G bank' i' j' := by
  rw [Dev.befall_fb, Dev.fb_put_apart _ _ _ _ _ _ _ h]

theorem Dev.f_put_apart (h : G.apart F = true) : (s.put F v i j).f G i' j' = s.f G i' j' := Dev.fb_put_apart _ _ _ _ _ _ _ h
theorem Dev.f_raise_apart (h : G.apart F = true) : (s.raise F i j).f G i' j' = s.f G i' j' := Dev.fb_befall_apart _ _ _ _ _ _ _ h
theorem Dev.f_inc_apart (h : G.apart F = true) : (s.inc F n i j).f G i' j' = s.f G i' j' := Dev.fb_befall_apart _ _ _ _ _ _ _ h
theorem Dev.fb_raise_apart (h : G.apart F = true) : (s.raise F i j).fb G bank' i' j' = s.fb G bank' i' j' := Dev.fb_befall_apart _ _ _ _ _ _ _ h
theorem Dev.fb_inc_apart (h : G.apart F = true) : (s.inc F n i j).fb G bank' i' j' = s.fb G bank' i' j' := Dev.fb_befall_apart _ _ _ _ _ _ _ h

theorem Dev.f_put_index (hs : 0 < F.s1) (h : i' ≠ i) : (s.put F v i j).f F i' j = s.f F i' j :=
  Dev.f_put_other _ _ _ _ _ _ (.inr (Fld.key_ne_of_index hs h _ _))

end Sys2Proof.Machine
end

section
/-! Selection (R154): a command list that commands each cell once and moves only eligible cells into the count, and what adding
commands to it does to the count. -/

namespace Sys2Proof.Machine

/-! ## Rankings -/

theorem mem_of_firstOf_eq_some {up : Bool} {l : List SelCell} {x : SelCell} (h : firstOf up l = some x) : x ∈ l := by
  induction l generalizing x with
  | nil => simp [firstOf] at h
  | cons y l ih =>
    simp only [firstOf] at h
    split at h
    · split at h
      · cases h
        exact List.mem_cons_of_mem _ (ih ‹_›)
      · cases h
        exact List.mem_cons_self
    · cases h
      exact List.mem_cons_self

theorem firstOf_eq_none {up : Bool} {l : List SelCell} : firstOf up l = none ↔ l = [] := by
  cases l with
  | nil => simp [firstOf]
  | cons y l =>
    simp only [firstOf, reduceCtorEq, iff_false]
    split
    · split <;> simp
    · simp

theorem takeBest_subset (up : Bool) (n : Nat) (l : List SelCell) : takeBest up n l ⊆ l := by
  induction n generalizing l with
  | zero => simp [takeBest]
  | succ n ih =>
    simp only [takeBest]
    split
    · simp
    · rename_i x hx
      exact List.cons_subset.2 ⟨mem_of_firstOf_eq_some hx, fun y hy => List.mem_of_mem_filter (ih _ hy)⟩

theorem takeBest_nodup (up : Bool) (n : Nat) (l : List SelCell) : ((takeBest up n l).map SelCell.g).Nodup := by
  induction n generalizing l with
  | zero => simp [takeBest]
  | succ n ih =>
    simp only [takeBest]
    split
    · simp
    · rename_i x hx
      refine List.nodup_cons.2 ⟨fun hmem => ?_, ih _⟩
      obtain ⟨y, hy, hyx⟩ := List.mem_map.1 hmem
      simpa [hyx] using (List.mem_filter.1 (takeBest_subset _ _ _ hy)).2

/-- Of distinct cells, taking one out leaves one less. -/
theorem length_filter_g_ne {l : List SelCell} (hl : (l.map SelCell.g).Nodup) {x : SelCell} (hx : x ∈ l) :
    (l.filter fun y => decide (y.g ≠ x.g)).length + 1 = l.length := by
  induction l with
  | nil => simp at hx
  | cons y l ih =>
    rw [List.map_cons, List.nodup_cons] at hl
    rcases List.mem_cons.1 hx with rfl | hx
    · have hall : l.filter (fun y => decide (y.g ≠ x.g)) = l :=
        List.filter_eq_self.2 fun y hy => by
          simpa using fun h : y.g = x.g => hl.1 (h ▸ List.mem_map_of_mem hy)
      simp only [ne_eq, decide_not] at hall
      simp [hall]
    · have hne : y.g ≠ x.g := fun h => hl.1 (h ▸ List.mem_map_of_mem hx)
      simpa [hne] using ih hl.2 hx

theorem takeBest_length (up : Bool) (n : Nat) (l : List SelCell) (hl : (l.map SelCell.g).Nodup) (hn : n ≤ l.length) :
    (takeBest up n l).length = n := by
  induction n generalizing l with
  | zero => simp [takeBest]
  | succ n ih =>
    simp only [takeBest]
    split
    · rename_i h
      rw [firstOf_eq_none.1 h] at hn
      simp at hn
    · rename_i x hx
      have hlen := length_filter_g_ne hl (mem_of_firstOf_eq_some hx)
      rw [List.length_cons, ih _ (hl.sublist (List.filter_sublist.map _)) (by omega)]

/-! ## The position a list of commands leaves a cell in -/

/-- POS_CMD of a cell after commands. -/
def SelCell.after (cmds : List (Nat × Nat)) (c : SelCell) : Nat :=
  match cmds.find? fun p => decide (p.1 = c.g) with
  | some p => p.2
  | none => c.code

/-- The cells that are IN after commands. -/
def countIn (l : List SelCell) (cmds : List (Nat × Nat)) : Nat := (l.filter fun c => isIn (c.after cmds)).length

theorem SelCell.after_of_not_mem {cmds : List (Nat × Nat)} {c : SelCell} (h : c.g ∉ cmds.map Prod.fst) : c.after cmds = c.code := by
  have hnone : cmds.find? (fun p => decide (p.1 = c.g)) = none :=
    List.find?_eq_none.2 fun p hp => by
      simpa using fun e : p.1 = c.g => h (e ▸ List.mem_map_of_mem hp)
  simp [SelCell.after, hnone]

theorem SelCell.after_of_mem {cmds : List (Nat × Nat)} (hn : (cmds.map Prod.fst).Nodup) {c : SelCell} {v : Nat} (h : (c.g, v) ∈ cmds) :
    c.after cmds = v := by
  have hsome : (cmds.find? fun p => decide (p.1 = c.g)).isSome := List.find?_isSome.2 ⟨_, h, by simp⟩
  obtain ⟨p, hp⟩ := Option.isSome_iff_exists.1 hsome
  have hpv : p = (c.g, v) := List.inj_on_of_nodup_map hn (List.mem_of_find?_eq_some hp) h (by simpa using List.find?_some hp)
  simp [SelCell.after, hp, hpv]

theorem SelCell.after_append_same {cmds : List (Nat × Nat)} {c : SelCell} {v : Nat} (h : c.g ∉ cmds.map Prod.fst) :
    c.after (cmds ++ [(c.g, v)]) = v := by
  have hnone : cmds.find? (fun p => decide (p.1 = c.g)) = none :=
    List.find?_eq_none.2 fun p hp => by
      simpa using fun e : p.1 = c.g => h (e ▸ List.mem_map_of_mem hp)
  simp [SelCell.after, hnone]

theorem SelCell.after_append_other {cmds : List (Nat × Nat)} {c : SelCell} {g v : Nat} (h : c.g ≠ g) :
    c.after (cmds ++ [(g, v)]) = c.after cmds := by
  simp [SelCell.after, List.find?_append, Ne.symm h]

/-- A command to a cell not commanded before moves the count by that cell alone. -/
theorem countIn_append {l : List SelCell} (hl : (l.map SelCell.g).Nodup) {cmds : List (Nat × Nat)} {c : SelCell} (hc : c ∈ l)
    (hnew : c.g ∉ cmds.map Prod.fst) (v : Nat) :
    countIn l (cmds ++ [(c.g, v)]) + b2n (isIn c.code) = countIn l cmds + b2n (isIn v) := by
  have hone : ∀ b : Bool, (if b = true then 1 else 0) = b2n b := fun b => by cases b <;> rfl
  simp only [countIn, ← List.countP_eq_length_filter]
  induction l with
  | nil => simp at hc
  | cons y l ih =>
    rw [List.map_cons, List.nodup_cons] at hl
    simp only [List.countP_cons, hone]
    rcases List.mem_cons.1 hc with rfl | hc
    · have hrest : l.countP (fun y => isIn (y.after (cmds ++ [(c.g, v)]))) = l.countP (fun y => isIn (y.after cmds)) :=
        List.countP_congr fun y hy => by
          rw [SelCell.after_append_other fun h : y.g = c.g => hl.1 (h ▸ List.mem_map_of_mem hy)]
      rw [hrest, SelCell.after_append_same hnew, SelCell.after_of_not_mem hnew]
      omega
    · rw [SelCell.after_append_other (c := y) fun h => hl.1 (h ▸ List.mem_map_of_mem hc)]
      have := ih hl.2 hc
      omega

/-! ## Command lists of a selection -/

/-- What a selection may command: an ineligible cell out, an eligible one that is out in, and an eligible one that is in out or to the
polarity in force (R154). -/
def SelCell.mayGo (sig : Nat) (c : SelCell) (v : Nat) : Prop :=
  (v = 0 ∧ (c.elig = false ∨ isIn c.code = true)) ∨ (v = sig ∧ c.elig = true)

/-- Each cell is commanded at most once, as a selection may, and `m` cells are IN afterwards. -/
structure Commands (l : List SelCell) (sig : Nat) (cmds : List (Nat × Nat)) (m : Nat) : Prop where
  once  : (cmds.map Prod.fst).Nodup
  may   : ∀ p ∈ cmds, ∃ c ∈ l, c.g = p.1 ∧ c.mayGo sig p.2
  count : countIn l cmds = m

theorem Commands.add {l : List SelCell} {sig m m' : Nat} {cmds : List (Nat × Nat)} (h : Commands l sig cmds m)
    (hl : (l.map SelCell.g).Nodup) {c : SelCell} {v : Nat} (hc : c ∈ l) (hnew : c.g ∉ cmds.map Prod.fst) (hv : c.mayGo sig v)
    (hm : m' + b2n (isIn c.code) = m + b2n (isIn v)) : Commands l sig (cmds ++ [(c.g, v)]) m' where
  once := by
    rw [List.map_append, List.nodup_append]
    exact ⟨h.once, by simp, fun x hx y hy e => by simp_all⟩
  may p hp := by
    rcases List.mem_append.1 hp with hp | hp
    · exact h.may p hp
    · rw [List.mem_singleton.1 hp]
      exact ⟨c, hc, rfl, hv⟩
  count := by
    have := countIn_append hl hc hnew v
    rw [h.count] at this
    omega

/-- The same command to some more cells, all of them in the count before or none. -/
theorem Commands.addAll {l : List SelCell} {sig m m' : Nat} {cmds : List (Nat × Nat)} (h : Commands l sig cmds m)
    (hl : (l.map SelCell.g).Nodup) {cs : List SelCell} {v : Nat} {b : Bool} (hn : (cs.map SelCell.g).Nodup)
    (hcs : ∀ c ∈ cs, c ∈ l ∧ c.g ∉ cmds.map Prod.fst ∧ c.mayGo sig v ∧ isIn c.code = b)
    (hm : m' + cs.length * b2n b = m + cs.length * b2n (isIn v)) : Commands l sig (cmds ++ cs.map fun c => (c.g, v)) m' := by
  induction cs generalizing cmds m with
  | nil =>
    obtain rfl : m' = m := by simpa using hm
    simpa using h
  | cons c cs ih =>
    obtain ⟨hc, hnew, hv, hb⟩ := hcs c List.mem_cons_self
    rw [List.map_cons, List.nodup_cons] at hn
    have hin : b2n (isIn c.code) ≤ m := by
      by_cases hi : isIn c.code = true
      · have : c ∈ l.filter fun c => isIn (c.after cmds) := List.mem_filter.2 ⟨hc, by rwa [SelCell.after_of_not_mem hnew]⟩
        have := List.length_pos_of_mem this
        rw [hi, ← h.count, countIn]
        exact this
      · simp only [Bool.not_eq_true] at hi
        simp [hi, b2n]
    have h1 := h.add (m' := m + b2n (isIn v) - b2n (isIn c.code)) hl hc hnew hv (by omega)
    rw [List.map_cons, List.append_cons]
    refine ih h1 hn.2 (fun d hd => ?_) ?_
    · obtain ⟨hd', hnew', hrest⟩ := hcs d (List.mem_cons_of_mem _ hd)
      have hne : d.g ≠ c.g := fun e => hn.1 (e ▸ List.mem_map_of_mem hd)
      exact ⟨hd', by simpa using ⟨by simpa using hnew', hne⟩, hrest⟩
    · rw [List.length_cons, hb] at *
      rw [Nat.add_mul, Nat.add_mul] at hm
      omega

theorem Commands.nil (l : List SelCell) (sig : Nat) : Commands l sig [] (l.filter fun c => isIn c.code).length where
  once := by simp
  may p hp := absurd hp (by simp)
  count := rfl

/-! ## The parts of a selection -/

theorem isIn_sig {sig : Nat} (h : sig = 1 ∨ sig = 2) : isIn sig = true := by rcases h with rfl | rfl <;> rfl

theorem isIn_eq_true {v : Nat} (h : v < 3) : isIn v = true ↔ v ≠ 0 := by
  simp only [isIn, Bool.or_eq_true, decide_eq_true_eq]; omega

/-- A swap takes in a cell that is out, and out one that is in. -/
theorem bandSwaps_commands {l : List SelCell} (hl : (l.map SelCell.g).Nodup) {sig : Nat} (hsig : sig = 1 ∨ sig = 2) (charging : Bool)
    (band m k : Nat) (cmds : List (Nat × Nat)) (h : Commands l sig cmds m) :
    Commands l sig (bandSwaps charging band sig k l cmds).1 m ∧ cmds ⊆ (bandSwaps charging band sig k l cmds).1 := by
  induction k generalizing cmds with
  | zero => exact ⟨h, fun _ hp => hp⟩
  | succ k ih =>
    simp only [bandSwaps]
    split
    · rename_i x y hx hy
      generalize (if charging = true then (y.v : Int) - (x.v : Int) else (x.v : Int) - (y.v : Int)) = gap
      split
      · exact ⟨h, fun _ hp => hp⟩
      · have hx := mem_of_firstOf_eq_some hx
        have hy := mem_of_firstOf_eq_some hy
        simp only [List.mem_filter, Bool.and_eq_true, List.any_eq_false, decide_eq_true_eq, Bool.not_eq_eq_eq_not,
          Bool.not_true] at hx hy
        obtain ⟨⟨hxl, ⟨hxe, -⟩, hxn⟩, hxi⟩ := hx
        obtain ⟨⟨hyl, ⟨hye, -⟩, hyn⟩, hyi⟩ := hy
        have hnew : ∀ z : SelCell, (∀ p ∈ cmds, ¬p.1 = z.g) → z.g ∉ cmds.map Prod.fst := fun z hz hmem => by
          obtain ⟨p, hp, e⟩ := List.mem_map.1 hmem
          exact hz p hp e
        have hxy : y.g ≠ x.g := fun e => by
          rw [List.inj_on_of_nodup_map hl hyl hxl e, hxi] at hyi
          cases hyi
        have h1 : Commands l sig (cmds ++ [(x.g, sig)]) (m + 1) :=
          h.add hl hxl (hnew x hxn) (.inr ⟨rfl, hxe⟩) (by simp [hxi, isIn_sig hsig, b2n])
        have h2 : Commands l sig (cmds ++ [(x.g, sig)] ++ [(y.g, 0)]) m :=
          h1.add hl hyl (by simpa using ⟨by simpa using hnew y hyn, hxy⟩) (.inl ⟨rfl, .inr hyi⟩) (by rw [hyi]; rfl)
        rw [List.append_assoc] at h2
        obtain ⟨hc, hsub⟩ := ih _ h2
        exact ⟨hc, fun p hp => hsub (List.mem_append_left _ hp)⟩
    · exact ⟨h, fun _ hp => hp⟩

theorem bandSwaps_le (charging : Bool) (band sig k : Nat) (l : List SelCell) (cmds : List (Nat × Nat)) :
    (bandSwaps charging band sig k l cmds).2 ≤ k := by
  induction k generalizing cmds with
  | zero => simp [bandSwaps]
  | succ k ih =>
    simp only [bandSwaps]
    split
    · rename_i x y _ _
      generalize (if charging = true then (y.v : Int) - (x.v : Int) else (x.v : Int) - (y.v : Int)) = gap
      split
      · simp
      · exact Nat.succ_le_succ (ih _)
    · simp

/-- The cells that leave because they are ineligible (R154). -/
def selForced (l : List SelCell) : List SelCell := l.filter fun c => decide (c.code ≠ 0) && !c.elig
/-- The eligible cells that are IN, and that are not. -/
def selIn (l : List SelCell) : List SelCell := (l.filter SelCell.elig).filter fun c => isIn c.code
def selOut (l : List SelCell) : List SelCell := (l.filter SelCell.elig).filter fun c => !isIn c.code

/-- The commands that bring the count to `n`. -/
def selCount (l : List SelCell) (charging : Bool) (n sig : Nat) : List (Nat × Nat) :=
  if (selIn l).length < n then (takeBest charging (n - (selIn l).length) (selOut l)).map fun c => (c.g, sig)
  else (takeBest (!charging) ((selIn l).length - n) (selIn l)).map fun c => (c.g, 0)

theorem forced_commands {l : List SelCell} (hl : (l.map SelCell.g).Nodup) (hcode : ∀ c ∈ l, c.code < 3) (sig : Nat) :
    Commands l sig ((selForced l).map fun c => (c.g, 0)) (selIn l).length := by
  have hin : ∀ c ∈ selForced l, isIn c.code = true := fun c hc => by
    obtain ⟨hcl, hc⟩ := List.mem_filter.1 hc
    simp only [Bool.and_eq_true, decide_eq_true_eq] at hc
    exact (isIn_eq_true (hcode c hcl)).2 hc.1
  have hsplit : (selIn l).length + (selForced l).length = (l.filter fun c => isIn c.code).length := by
    have hpart := List.length_eq_length_filter_add (l := l.filter fun c => isIn c.code) SelCell.elig
    rw [hpart, selIn, selForced, List.filter_filter, List.filter_filter, List.filter_filter]
    congr 2
    · exact List.filter_congr fun c _ => Bool.and_comm _ _
    · refine List.filter_congr fun c hc => ?_
      rw [Bool.and_comm, show isIn c.code = decide (c.code ≠ 0) from Bool.eq_iff_iff.2 (by simpa using isIn_eq_true (hcode c hc))]
  have hcs : ∀ c ∈ selForced l, c ∈ l ∧ c.g ∉ ([] : List (Nat × Nat)).map Prod.fst ∧ c.mayGo sig 0 ∧ isIn c.code = true := fun c hc =>
    ⟨List.mem_of_mem_filter hc, by simp, .inl ⟨rfl, .inr (hin c hc)⟩, hin c hc⟩
  have := (Commands.nil l sig).addAll (cs := selForced l) (v := 0) (m' := (selIn l).length) hl (hl.sublist (List.filter_sublist.map _)) hcs
    (by rw [← hsplit]; simp [isIn, b2n])
  simpa using this

/-- A cell of a list of eligible cells is not among the forced ones. -/
theorem not_forced {l : List SelCell} (hl : (l.map SelCell.g).Nodup) {c : SelCell} (hc : c ∈ l) (he : c.elig = true) (v : Nat) :
    c.g ∉ ((selForced l).map fun c => (c.g, v)).map Prod.fst := by
  intro hmem
  simp only [List.map_map, List.mem_map, Function.comp_apply] at hmem
  obtain ⟨d, hd, e⟩ := hmem
  obtain ⟨hdl, hd⟩ := List.mem_filter.1 hd
  rw [List.inj_on_of_nodup_map hl hdl hc e, he] at hd
  simp at hd

theorem count_commands {l : List SelCell} (hl : (l.map SelCell.g).Nodup) (hcode : ∀ c ∈ l, c.code < 3) {sig : Nat}
    (hsig : sig = 1 ∨ sig = 2) (charging : Bool) {n : Nat} (hn : n ≤ (l.filter SelCell.elig).length) :
    Commands l sig ((selForced l).map (fun c => (c.g, 0)) ++ selCount l charging n sig) n := by
  have hout : (selIn l).length + (selOut l).length = (l.filter SelCell.elig).length :=
    (List.length_eq_length_filter_add fun c : SelCell => isIn c.code).symm
  have hnin : ((selIn l).map SelCell.g).Nodup := hl.sublist ((List.filter_sublist.trans List.filter_sublist).map _)
  have hnout : ((selOut l).map SelCell.g).Nodup := hl.sublist ((List.filter_sublist.trans List.filter_sublist).map _)
  have h := forced_commands hl hcode sig
  unfold selCount
  split
  · refine h.addAll hl (takeBest_nodup ..) (b := false) (fun c hc => ?_) ?_
    · obtain ⟨hc, hi⟩ := List.mem_filter.1 (takeBest_subset _ _ _ hc)
      obtain ⟨hc, he⟩ := List.mem_filter.1 hc
      exact ⟨hc, not_forced hl hc he 0, .inr ⟨rfl, he⟩, by simpa using hi⟩
    · rw [takeBest_length _ _ _ hnout (by omega), isIn_sig hsig]
      simp only [b2n]; simp; omega
  · refine h.addAll hl (takeBest_nodup ..) (b := true) (fun c hc => ?_) ?_
    · obtain ⟨hc, hi⟩ := List.mem_filter.1 (takeBest_subset _ _ _ hc)
      obtain ⟨hc, he⟩ := List.mem_filter.1 hc
      exact ⟨hc, not_forced hl hc he 0, .inl ⟨rfl, .inr hi⟩, hi⟩
    · rw [takeBest_length _ _ _ hnin (by omega)]
      simp only [b2n, isIn]; simp; omega

/-- The cells that are IN with the other polarity and have no command yet. -/
def selTurn (l : List SelCell) (sig : Nat) (cmds : List (Nat × Nat)) : List SelCell :=
  (selIn l).filter fun c => decide (c.code ≠ sig) && !(cmds.any fun d => decide (d.1 = c.g))

/-- The commands of a selection are the forced ones, those that bring the count, the swaps, and those that turn a cell (R154). -/
theorem selectCells_eq (l : List SelCell) (charging : Bool) (n sig swapMax band : Nat) :
    let r := bandSwaps charging band sig swapMax l ((selForced l).map (fun c => (c.g, 0)) ++ selCount l charging n sig)
    selectCells l charging n sig swapMax band = (r.1 ++ (selTurn l sig r.1).map fun c => (c.g, sig), r.2) := rfl

theorem turn_commands {l : List SelCell} (hl : (l.map SelCell.g).Nodup) {sig m : Nat} (hsig : sig = 1 ∨ sig = 2)
    {cmds : List (Nat × Nat)} (h : Commands l sig cmds m) :
    Commands l sig (cmds ++ (selTurn l sig cmds).map fun c => (c.g, sig)) m := by
  have hsub : (selTurn l sig cmds).Sublist l := (List.filter_sublist.trans List.filter_sublist).trans List.filter_sublist
  refine h.addAll hl (hl.sublist (hsub.map _)) (b := true) (fun c hc => ?_) (by rw [isIn_sig hsig])
  obtain ⟨hc, hturn⟩ := List.mem_filter.1 hc
  obtain ⟨hc, hi⟩ := List.mem_filter.1 hc
  obtain ⟨hc, he⟩ := List.mem_filter.1 hc
  refine ⟨hc, fun hmem => ?_, .inr ⟨rfl, he⟩, hi⟩
  obtain ⟨p, hp, e⟩ := List.mem_map.1 hmem
  simp only [Bool.and_eq_true, Bool.not_eq_true', List.any_eq_false, decide_eq_true_eq] at hturn
  exact hturn.2 p hp e

/-- A commanded cell goes where its command says, any other stays. -/
theorem Commands.after_cases {l : List SelCell} {sig m : Nat} {cmds : List (Nat × Nat)} (h : Commands l sig cmds m)
    (hl : (l.map SelCell.g).Nodup) {c : SelCell} (hc : c ∈ l) :
    c.mayGo sig (c.after cmds) ∨ (c.g ∉ cmds.map Prod.fst ∧ c.after cmds = c.code) := by
  by_cases hmem : c.g ∈ cmds.map Prod.fst
  · obtain ⟨p, hp, e⟩ := List.mem_map.1 hmem
    obtain ⟨d, hd, hdp, hmay⟩ := h.may p hp
    obtain rfl : d = c := List.inj_on_of_nodup_map hl hd hc (hdp.trans e)
    rw [SelCell.after_of_mem h.once (v := p.2) (by rw [hdp]; exact hp)]
    exact .inl hmay
  · exact .inr ⟨hmem, SelCell.after_of_not_mem hmem⟩

/-- Settles O17: the commands of a selection are built up from parts that each keep the invariant `Commands`, which gives the
count; a cell that has no command is out, or in with the polarity in force. -/
theorem selectionReachesTheCount : Obligations.SelectionReachesTheCount := by
  unfold Obligations.SelectionReachesTheCount
  intro l charging n sig swapMax band hl hcode hsig hn cmds after
  have hforced : (selForced l).map (fun c => (c.g, 0)) ⊆ cmds := by
    obtain ⟨-, hsub⟩ := bandSwaps_commands hl hsig charging band n swapMax _ (count_commands hl hcode hsig charging hn)
    exact fun p hp => List.mem_append_left _ (hsub (List.mem_append_left _ hp))
  have hcmds : Commands l sig cmds n :=
    turn_commands hl hsig (bandSwaps_commands hl hsig charging band n swapMax _ (count_commands hl hcode hsig charging hn)).1
  have helig : ∀ c ∈ l, c.elig = false → after c = 0 := fun c hc he => by
    change c.after cmds = 0
    rcases hcmds.after_cases hl hc with (⟨h0, -⟩ | ⟨-, he'⟩) | ⟨hnot, hcode⟩
    · exact h0
    · rw [he] at he'
      cases he'
    · by_contra h0
      rw [hcode] at h0
      exact hnot (List.mem_map_of_mem (hforced (List.mem_map_of_mem (List.mem_filter.2 ⟨hc, by simp [h0, he]⟩))))
  refine ⟨hcmds.once, fun p hp => ?_, hcmds.count, helig, fun c hc => ?_, bandSwaps_le ..⟩
  · obtain ⟨c, hc, e, -⟩ := hcmds.may p hp
    exact ⟨c, hc, e⟩
  · cases he : c.elig with
    | false => exact .inl (helig c hc he)
    | true =>
      rcases hcmds.after_cases hl hc with (⟨h0, -⟩ | ⟨h, -⟩) | ⟨hnot, hstay⟩
      · exact .inl h0
      · exact .inr h
      · change c.after cmds = 0 ∨ c.after cmds = sig
        rw [hstay]
        by_contra hne
        rw [not_or] at hne
        have hi : isIn c.code = true := (isIn_eq_true (hcode c hc)).2 hne.1
        have hturn : c ∈ selTurn l sig (bandSwaps charging band sig swapMax l
            ((selForced l).map (fun c => (c.g, 0)) ++ selCount l charging n sig)).1 := by
          simp only [selTurn, selIn, List.mem_filter, Bool.and_eq_true, Bool.not_eq_true', List.any_eq_false, decide_eq_true_eq]
          refine ⟨⟨⟨hc, he⟩, hi⟩, hne.2, fun p hp e => hnot ?_⟩
          exact e ▸ List.mem_map_of_mem (List.mem_append_left _ hp)
        exact hnot (List.mem_map_of_mem (f := Prod.fst) (List.mem_append_right _ (List.mem_map_of_mem (f := fun c : SelCell => (c.g, sig)) hturn)))

end Sys2Proof.Machine
end

section
/-! A step: the command at the front of the queue is executed, and every command settles what its action leaves; the state after
reset, and the passing of time on an empty queue. -/

namespace Sys2Proof.Machine

/-- Every command acts on the device, and the rest is settled. -/
theorem State.runs_exists (s : State) (c : Instr) : ∃ u, s.Runs c u := by
  cases c <;> exact ⟨_, rfl⟩

theorem step_of_nil {s : State} (h : s.pending = []) : step s = commit Dev.pass s := by simp only [step, h]

theorem step_of_cons {s : State} {c : Instr} {rest : List Instr} (h : s.pending = c :: rest) :
    step s = exec c { s with pending := rest } := by simp only [step, h]

/-- Settles O1: a step takes the first command, and every command is a device that is settled, which never touches the queue. -/
theorem stepTakesTheFirst : Obligations.StepTakesTheFirst := by
  unfold Obligations.StepTakesTheFirst
  refine ⟨fun s c rest h => step_of_cons h, fun s t c h => ?_, fun s c => ?_⟩
  · obtain ⟨u, hu⟩ := s.runs_exists c
    rw [hu, Host.Outcome.next.injEq] at h
    rw [← h]
  · obtain ⟨u, hu⟩ := s.runs_exists c
    exact ⟨_, hu⟩

/-- A step answers a settled device. -/
theorem step_dev {s t : State} (h : step s = .next t) : ∃ s0 u, t.dev = Dev.settle s0 u := by
  cases hp : s.pending with
  | nil =>
    rw [step_of_nil hp, commit, Host.Outcome.next.injEq] at h
    exact ⟨_, _, by rw [← h]⟩
  | cons c rest =>
    obtain ⟨u, hu⟩ := State.runs_exists { s with pending := rest } c
    rw [step_of_cons hp, hu, Host.Outcome.next.injEq] at h
    exact ⟨_, _, by rw [← h]⟩

/-! ## The passing of time -/

/-- The write of a waiting increment. -/
def Dev.takeInc (s : Dev) : Dev :=
  match s.time.pendInc with
  | none => s
  | some v =>
    let t1 := s.time.bT + ((s.time.frc : Int) - (s.time.bF : Int)) * (s.tickInc : Int)
    ({ s with time := { s.time with bT := t1, bF := s.time.frc, pendInc := none } }).put F.TIME_INC_INC v

/-- The write of a waiting step. -/
def Dev.takeStep (s : Dev) : Dev :=
  match s.time.pendStep with
  | none => s
  | some d => { s with time := { s.time with bT := s.time.bT + d * 2 ^ 32, pendStep := none } }

theorem Dev.applyPend_eq (s : Dev) : s.applyPend = s.takeStep.takeInc := rfl

@[simp] theorem Dev.takeInc_frc (s : Dev) : s.takeInc.time.frc = s.time.frc := by unfold Dev.takeInc; split <;> rfl
@[simp] theorem Dev.takeInc_fifth (s : Dev) : s.takeInc.time.fifth = s.time.fifth := by unfold Dev.takeInc; split <;> rfl
@[simp] theorem Dev.takeInc_pendInc (s : Dev) : s.takeInc.time.pendInc = none := by
  unfold Dev.takeInc
  split
  · assumption
  · rfl
@[simp] theorem Dev.takeInc_pendStep (s : Dev) : s.takeInc.time.pendStep = s.time.pendStep := by unfold Dev.takeInc; split <;> rfl
@[simp] theorem Dev.takeStep_frc (s : Dev) : s.takeStep.time.frc = s.time.frc := by unfold Dev.takeStep; split <;> rfl
@[simp] theorem Dev.takeStep_fifth (s : Dev) : s.takeStep.time.fifth = s.time.fifth := by unfold Dev.takeStep; split <;> rfl
@[simp] theorem Dev.takeStep_pendStep (s : Dev) : s.takeStep.time.pendStep = none := by
  unfold Dev.takeStep
  split
  · assumption
  · rfl

theorem Dev.toTick_eq (s : Dev) : s.toTick = ({ s with time := { s.time with frc := s.time.frc + 1, fifth := 0 } } : Dev).takeStep.takeInc := rfl

@[simp] theorem Dev.toTick_frc (s : Dev) : s.toTick.time.frc = s.time.frc + 1 := by simp [Dev.toTick_eq]
@[simp] theorem Dev.toTick_fifth (s : Dev) : s.toTick.time.fifth = 0 := by simp [Dev.toTick_eq]
@[simp] theorem Dev.toTick_pendInc (s : Dev) : s.toTick.time.pendInc = none := by simp [Dev.toTick_eq]
@[simp] theorem Dev.toTick_pendStep (s : Dev) : s.toTick.time.pendStep = none := by simp [Dev.toTick_eq]

/-- A device that differs in TIME alone. -/
theorem Dev.keeps_withTime (s : Dev) (x : Time) : s.Keeps [.time] s.out { s with time := x } := by simp [Dev.Keeps]

theorem Dev.toTick_withTime (s : Dev) : ∃ x, s.toTick = { s with time := x } := by
  rw [Dev.toTick_eq]
  unfold Dev.takeInc Dev.takeStep
  dsimp only
  split <;> split <;> exact ⟨_, rfl⟩

theorem Dev.pass_withTime (s : Dev) : ∃ x, s.pass = { s with time := x } := by
  unfold Dev.pass
  split
  · exact ⟨_, rfl⟩
  · exact s.toTick_withTime

theorem Dev.pass_of_lt {s : Dev} (h : s.time.fifth < 4) : s.pass = { s with time := { s.time with fifth := s.time.fifth + 1 } } := by
  rw [Dev.pass, if_pos h]

theorem Dev.pass_of_le {s : Dev} (h : 4 ≤ s.time.fifth) : s.pass = s.toTick := by
  rw [Dev.pass, if_neg (by omega)]

/-! ## Reset -/

theorem reset_regsOf (b : Blk) : State.reset.dev.regsOf b = [] := by cases b <;> rfl

/-- Settles O2: the registers are empty tables at reset, and an idle step is `Dev.pass`, which writes TIME alone. -/
theorem resetAndIdle : Obligations.ResetAndIdle := by
  unfold Obligations.ResetAndIdle
  refine ⟨rfl, rfl, rfl, fun G bank i j => ?_, rfl, rfl, fun h => (by cases h), fun s h => step_of_nil h, fun s => ?_, fun s h => ?_, fun s h => ?_⟩
  · rw [Dev.fb, reset_regsOf]
    rfl
  · obtain ⟨x, hx⟩ := s.pass_withTime
    exact hx ▸ s.keeps_withTime x
  · rw [Dev.pass_of_lt h]
  · rw [Dev.pass_of_le h]
    simp

end Sys2Proof.Machine
end

section
/-! The status bits of a MANAGER (R228, R290, R300): each step of settling sets its bit by the condition, and the steps after it leave
alone what the bit and the condition read. -/

namespace Sys2Proof.Machine

/-! ## What the bits and their conditions read, and what leaves it alone -/

/-- The values of some fields, in every copy and at every index, and the state of PAIR beside its registers. -/
def Dev.reads (w : List Fld) (s : Dev) : Pair × List (Nat → Nat → Nat → Nat) :=
  ({ s.pair with regs := [] }, w.map fun G bank i j => s.fb G bank i j)

section
variable {w : List Fld} (s : Dev)

theorem Dev.reads_of_regs {t : Dev} (hr : t.role = s.role) (hp : t.pair = s.pair) (h : ∀ b, t.regsOf b = s.regsOf b) :
    t.reads w = s.reads w := by
  simp only [Dev.reads, Dev.fb, hr, hp, h]

theorem Dev.reads_put {F : Fld} (v i j : Nat) (h : w.all (·.apart F) = true) : (s.put F v i j).reads w = s.reads w := by
  have hp : ({ (s.put F v i j).pair with regs := [] } : Pair) = { s.pair with regs := [] } := by
    unfold Dev.put Dev.putb
    cases F.blk <;> rfl
  refine Prod.ext hp (List.map_congr_left fun G hG => ?_)
  funext bank i' j'
  exact Dev.fb_put_apart _ _ _ _ _ _ _ (List.all_eq_true.1 h G hG)

theorem Dev.reads_befall {F : Fld} (g : Nat → Nat) (i j : Nat) (h : w.all (·.apart F) = true) : (s.befall F g i j).reads w = s.reads w :=
  (Dev.reads_of_regs _ rfl rfl fun b => by cases b <;> rfl).trans (Dev.reads_put s _ i j h)

theorem Dev.reads_raise {F : Fld} (i j : Nat) (h : w.all (·.apart F) = true) : (s.raise F i j).reads w = s.reads w :=
  Dev.reads_befall s _ i j h
theorem Dev.reads_inc {F : Fld} (n i j : Nat) (h : w.all (·.apart F) = true) : (s.inc F n i j).reads w = s.reads w :=
  Dev.reads_befall s _ i j h

@[simp] theorem Dev.reads_emit (o : Out) : (s.emit o).reads w = s.reads w := Dev.reads_of_regs _ rfl rfl fun b => by cases b <;> rfl
@[simp] theorem Dev.reads_digEvent (k : Nat) : (s.digEvent k).reads w = s.reads w := Dev.reads_of_regs _ rfl rfl fun b => by cases b <;> rfl

theorem Dev.reads_iff (c : Bool) (g : Dev → Dev) (h : (g s).reads w = s.reads w) : (s.iff c g).reads w = s.reads w :=
  Dev.iff_keeps (p := Dev.reads w) s c g fun _ => h

theorem Dev.reads_each {α : Type} (l : List α) (g : Dev → α → Dev) (h : ∀ s a, (g s a).reads w = s.reads w) :
    (s.each l g).reads w = s.reads w := Dev.each_keeps (Dev.reads w) l g (fun s a _ => h s a) s

theorem Dev.reads_ite (c : Prop) [Decidable c] {t u : Dev} (ht : t.reads w = s.reads w) (hu : u.reads w = s.reads w) :
    (if c then t else u).reads w = s.reads w := by split <;> assumption

@[simp] theorem Dev.reads_send (L k : Nat) (d : List Byte) : (s.send L k d).reads w = s.reads w := Dev.reads_ite _ _ (Dev.reads_emit ..) rfl

/-! ## The steps of settling -/

theorem Dev.reads_rbEmit (l : List Nat) (hs : w.all (·.apart F.LANE_RB_STAT_SENT) = true)
    (hs' : w.all (·.apart F.LANE_RB_STAT_SENT.onLeaf) = true) (hn : w.all (·.apart F.LANE_RB_STAT_RB_CNT) = true)
    (hn' : w.all (·.apart F.LANE_RB_STAT_RB_CNT.onLeaf) = true) : (s.rbEmit l).reads w = s.reads w := by
  refine Dev.reads_ite _ _ rfl ?_
  rw [Dev.reads_iff _ _ _ (by rw [Dev.reads_inc _ _ _ _ hn', Dev.reads_raise _ _ _ hs']),
    Dev.reads_iff _ _ _ (by rw [Dev.reads_inc _ _ _ _ hn, Dev.reads_raise _ _ _ hs]), Dev.reads_digEvent, Dev.reads_each _ _ _ fun _ _ => Dev.reads_emit ..]

/-- What setting HOLD leaves alone: fields of other blocks and other bits of the lanes' registers. -/
theorem Dev.reads_rbSync (s0 : Dev) (hs : w.all (·.apart F.LANE_RB_STAT_SENT) = true) (hs' : w.all (·.apart F.LANE_RB_STAT_SENT.onLeaf) = true)
    (hn : w.all (·.apart F.LANE_RB_STAT_RB_CNT) = true) (hn' : w.all (·.apart F.LANE_RB_STAT_RB_CNT.onLeaf) = true)
    (hh : w.all (·.apart F.LANE_RB_STAT_HOLD) = true) (hh' : w.all (·.apart F.LANE_RB_STAT_HOLD.onLeaf) = true) :
    (Dev.rbSync s0 s).reads w = s.reads w := by
  have hb : ∀ own, (s.rbBurst own).reads w = s.reads w := fun own => Dev.reads_rbEmit s _ hs hs' hn hn'
  unfold Dev.rbSync
  refine Dev.reads_ite _ _ rfl ?_
  extract_lets rise own t hold
  have ht : t.reads w = s.reads w := Dev.reads_ite _ _ (hb _) (Dev.reads_ite _ _ (hb _) rfl)
  exact Dev.reads_ite _ _ ht (by rw [Dev.reads_put _ _ _ _ hh', Dev.reads_put _ _ _ _ hh, ht])

theorem Dev.reads_pairSync (h : w.all (·.apart F.PAIR_STAT_ELIGIBLE) = true) : s.pairSync.reads w = s.reads w :=
  Dev.reads_ite _ _ rfl (Dev.reads_put _ _ _ _ h)

theorem Dev.reads_sqDrainN (n r : Nat) : (Dev.sqDrainN n s r).reads w = s.reads w := by
  induction n generalizing s with
  | zero => rfl
  | succ n ih =>
    unfold Dev.sqDrainN
    split
    · rfl
    · split
      · rfl
      · exact (ih _).trans (Dev.reads_of_regs _ rfl rfl fun b => by cases b <;> rfl)

theorem Dev.reads_finishAt (r i : Nat) (st : Status) (ep : Nat) (l : List Byte) : (s.finishAt r i st ep l).reads w = s.reads w := by
  unfold Dev.finishAt
  split
  · refine (Dev.reads_of_regs _ rfl rfl fun b => by cases b <;> rfl).trans ((Dev.reads_sqDrainN _ _ _).trans ?_)
    exact Dev.reads_of_regs _ rfl rfl fun b => by cases b <;> rfl
  · rfl

theorem Dev.reads_swapSettle (hp : w.all (·.apart F.GLOBAL_CFG_STAT_PENDING) = true) (hs : w.all (·.apart F.GLOBAL_CFG_STAT_STATUS) = true)
    (hd : w.all (·.apart F.GLOBAL_CYCLE_STAT_SWAP_DONE) = true) : s.swapSettle.reads w = s.reads w := by
  have hdone : (s.swapDone .ok).reads w = s.reads w := by
    have hput : ∀ (x : Glob) (v : Nat), (((({ s with glob := { x with regs := s.glob.regs } } : Dev).put F.GLOBAL_CFG_STAT_PENDING 0).put
        F.GLOBAL_CFG_STAT_STATUS v).raise F.GLOBAL_CYCLE_STAT_SWAP_DONE).reads w = s.reads w := fun x v => by
      rw [Dev.reads_raise _ _ _ hd, Dev.reads_put _ _ _ _ hs, Dev.reads_put _ _ _ _ hp]
      exact Dev.reads_of_regs _ rfl rfl fun b => by cases b <;> rfl
    unfold Dev.swapDone
    split
    · rfl
    · dsimp only
      split
      · exact (Dev.reads_finishAt ..).trans (hput { s.glob with swap := none, swapOk := s.glob.swapOk || decide (Status.ok = Status.ok) } _)
      · exact (Dev.reads_emit ..).trans (hput { s.glob with swap := none, swapOk := s.glob.swapOk || decide (Status.ok = Status.ok) } _)
  unfold Dev.swapSettle
  split
  · rfl
  · exact Dev.reads_ite _ _ hdone rfl

theorem Dev.reads_trnSync (s0 : Dev) : (Dev.trnSync s0 s).reads w = s.reads w := by
  refine Dev.reads_ite _ _ rfl (Dev.reads_each _ _ _ fun s L => ?_)
  split
  · exact Dev.reads_ite _ _ rfl (Dev.reads_emit ..)
  · exact Dev.reads_ite _ _ (Dev.reads_emit ..) rfl

end

/-! ## The recorder -/

/-- What the recorder leaves alone: fields of other blocks, the rest of PAIR, and the events of DIG. -/
def Dev.aside (w : List Fld) (s : Dev) : (Pair × List (Nat → Nat → Nat → Nat)) × Nat := (s.reads w, s.reel.ev)

section
variable {w : List Fld} (s : Dev)

theorem Dev.aside_of {t : Dev} (hr : t.reads w = s.reads w) (he : t.reel.ev = s.reel.ev) : t.aside w = s.aside w := Prod.ext hr he

theorem Dev.aside_setReelInst (i : Nat) (x : ReelInst) : (s.setReelInst i x).aside w = s.aside w :=
  Dev.aside_of _ (Dev.reads_of_regs _ rfl rfl fun b => by cases b <;> rfl) rfl
theorem Dev.aside_setReelTrg (i t : Nat) (x : ReelTrg) : (s.setReelTrg i t x).aside w = s.aside w :=
  Dev.aside_of _ (Dev.reads_of_regs _ rfl rfl fun b => by cases b <;> rfl) rfl
theorem Dev.aside_setReelCh (k : Nat) (x : ReelCh) : (s.setReelCh k x).aside w = s.aside w :=
  Dev.aside_of _ (Dev.reads_of_regs _ rfl rfl fun b => by cases b <;> rfl) rfl

theorem Dev.aside_iff (c : Bool) (g : Dev → Dev) (h : (g s).aside w = s.aside w) : (s.iff c g).aside w = s.aside w :=
  Dev.iff_keeps (p := Dev.aside w) s c g fun _ => h

theorem Dev.aside_each {α : Type} (l : List α) (g : Dev → α → Dev) (h : ∀ s a, (g s a).aside w = s.aside w) :
    (s.each l g).aside w = s.aside w := Dev.each_keeps (Dev.aside w) l g (fun s a _ => h s a) s

theorem Dev.aside_ite (c : Prop) [Decidable c] {t u : Dev} (ht : t.aside w = s.aside w) (hu : u.aside w = s.aside w) :
    (if c then t else u).aside w = s.aside w := by split <;> assumption

variable (hr : w.all (fun G => decide (G.blk ≠ .reel)) = true)
include hr

theorem Dev.aside_put {F : Fld} (hF : F.blk = .reel) (v i j : Nat) (he : (s.put F v i j).reel.ev = s.reel.ev) :
    (s.put F v i j).aside w = s.aside w := by
  refine Dev.aside_of _ (Dev.reads_put s v i j (List.all_eq_true.2 fun G hG => ?_)) he
  have hb : G.blk ≠ .reel := by simpa using List.all_eq_true.1 hr G hG
  simp [Fld.apart, hF, hb]

theorem Dev.aside_missTrigger (i u : Nat) : (s.missTrigger i u).aside w = s.aside w := by
  unfold Dev.missTrigger
  extract_lets t a b x
  have ha : a.aside w = s.aside w := Dev.aside_iff s _ _ (Dev.aside_put s hr rfl _ _ _ rfl)
  refine (Dev.aside_setReelInst ..).trans (Eq.trans ?_ ha)
  exact (Dev.aside_of (t := a.inc F.REEL_INST_MISS_MISSED 1 i) (a.put F.REEL_INST_MISS_MISSED _ i)
    (Dev.reads_of_regs _ rfl rfl fun b => by cases b <;> rfl) rfl).trans (Dev.aside_put _ hr rfl _ _ _ rfl)

theorem Dev.aside_fireUnit (i t u : Nat) : (s.fireUnit i t u).aside w = s.aside w :=
  Dev.aside_ite _ _ rfl (Dev.aside_ite _ _ (Dev.aside_missTrigger _ hr _ _) (Dev.aside_setReelInst ..))

theorem Dev.aside_fireAll (i t u : Nat) : (s.fireAll i t u).aside w = s.aside w :=
  (Dev.aside_each _ _ _ fun s _ => Dev.aside_iff s _ _ (Dev.aside_fireUnit _ hr _ _ _)).trans (Dev.aside_fireUnit _ hr _ _ _)

theorem Dev.aside_evalUnit (i t now : Nat) (v : Int) : (s.evalUnit i t now v).aside w = s.aside w := by
  unfold Dev.evalUnit
  extract_lets
  split
  · exact Dev.aside_ite _ _ ((Dev.aside_fireAll _ hr _ _ _).trans (Dev.aside_setReelTrg ..)) (Dev.aside_setReelTrg ..)
  · exact Dev.aside_setReelTrg ..

theorem Dev.aside_reelUpdate (kind sel v : Nat) : (s.reelUpdate kind sel v).aside w = s.aside w := by
  unfold Dev.reelUpdate
  refine Dev.aside_ite _ _ rfl ?_
  extract_lets a now ks t s0 s1
  have h0 : s0.aside w = s.aside w := Dev.aside_of _ (Dev.reads_of_regs _ rfl rfl fun b => by cases b <;> rfl) rfl
  have h1 : s1.aside w = s0.aside w := Dev.aside_each _ _ _ fun s k => Dev.aside_ite _ _ rfl (Dev.aside_setReelCh ..)
  refine (Dev.aside_each _ _ _ fun s p => Dev.aside_ite _ _ ?_ rfl).trans (h1.trans h0)
  split
  · exact Dev.aside_evalUnit _ hr _ _ _ _
  · exact Dev.aside_setReelTrg ..

omit hr in
/-- The DIG source takes a new word, which clears its events. -/
theorem Dev.aside_digTaken (word : Nat) : Dev.aside w { s with reel := { s.reel with dig := word, ev := 0 } } = (s.reads w, 0) :=
  Prod.ext (Dev.reads_of_regs s rfl rfl fun b => by cases b <;> rfl) rfl

/-- The units that watch a bit of DIG. -/
theorem Dev.aside_digFire (a old word : Nat) :
    ((s.reelUpdate kDig 0 word).each trgUnits fun s p =>
      let b := s.fs a F.REEL_TRG_CFG_BIT p.1 p.2
      s.iff ((s.trgIs a p.1 p.2 4 && !bitOf old b && bitOf word b) || (s.trgIs a p.1 p.2 5 && bitOf old b && !bitOf word b))
        fun s => s.fireAll p.1 p.2 (if digBall b then s.tdcNow else s.tickTdc)).aside w = s.aside w := by
  refine (Dev.aside_each _ _ _ fun s p => ?_).trans (Dev.aside_reelUpdate _ hr _ _ _)
  exact Dev.aside_iff _ _ _ (Dev.aside_fireAll _ hr _ _ _)

/-- The DIG source reads its events and clears them. -/
theorem Dev.aside_reelDig (hm : s.role = .manager) : s.reelDig.aside w = (s.reads w, 0) := by
  unfold Dev.reelDig
  split
  · exact absurd hm ‹_›
  · dsimp only
    generalize s.digWord = word
    split
    · exact Dev.aside_digTaken s word
    · exact (Dev.aside_digFire _ hr _ _ word).trans (Dev.aside_digTaken s word)

end

end Sys2Proof.Machine
end

section
/-! The invariant of a MANAGER's status bits (R228, R290, R300, R303, R310). -/

namespace Sys2Proof.Machine

theorem b2n_mod (b : Bool) : b2n b % 2 ^ 1 = b2n b := Nat.mod_eq_of_lt (b2n_lt b)

/-! ## What the conditions read -/

/-- The fields that the cross-link and its bit are read from (R290). -/
def linkFlds : List Fld := [F.PAIR_STAT_XLINK_UP, F.LANE_LANE_STAT_STATE, F.TRUNK_LANE_MAP_MODE, F.GLOBAL_CFG_STAT_ACTIVE, F.GLOBAL_CYCLE_CTL_PERIOD]
/-- The fields, beside those of SAFETY, that the triggers and HOLD are read from (R228). -/
def holdFlds : List Fld := [F.LANE_RB_STAT_HOLD, F.LANE_RB_CTL_HOST, F.PAIR_STAT_PAIR_TRIP]
/-- The fields that ELIGIBLE and its condition are read from (R300, R301). -/
def eligibleFlds : List Fld := [F.PAIR_STAT_ELIGIBLE, F.PAIR_STAT_STATE, F.GLOBAL_ROLE_FAULT]

variable {s t : Dev} {w : List Fld}

theorem Dev.fb_of_reads (h : (t.reads w).2 = (s.reads w).2) {G : Fld} (hG : G ∈ w) (bank i j : Nat) : t.fb G bank i j = s.fb G bank i j :=
  congrFun (congrFun (congrFun (List.map_inj_left.1 h G hG) bank) i) j

theorem Dev.now_of_calm (h : t.calm = s.calm) : t.now = s.now := by
  simp only [Dev.now, Dev.nowFix, Dev.now5, Dev.fifths, Dev.tickInc, Dev.f, Dev.fb, Dev.regsOf, F.TIME_INC_INC, Dev.time_of_calm h,
    Dev.role_of_inert (Dev.calm_inert h)]

theorem Dev.xlinkNow_congr (hc : t.calm = s.calm) (hp : t.pair.psof = s.pair.psof) (hf : (t.reads (linkFlds.drop 1)).2 = (s.reads (linkFlds.drop 1)).2) :
    t.xlinkNow = s.xlinkNow := by
  have hr : t.role = s.role := Dev.role_of_inert (Dev.calm_inert hc)
  have hl : t.pairLanes = s.pairLanes := List.filter_congr fun L hL => by
    have hL : L < 64 := lt_of_lt_of_le (List.mem_range.1 hL) (by decide)
    have hset : t.actSet = s.actSet := Dev.fb_of_reads hf (by decide) _ _ _
    have hmode : t.laneMode L = s.laneMode L := by
      rw [Dev.laneMode, Dev.fa, hset]
      exact Dev.fb_of_reads hf (by decide) _ _ _
    have hstate : t.lState L = s.lState L := by
      rw [Dev.lState, Dev.lState, Dev.ln, Dev.ln, laneFld, if_pos hL]
      exact Dev.fb_of_reads hf (by decide) _ _ _
    rw [Dev.isPair, Dev.isPair, Dev.inRun, Dev.inRun, Dev.hasLane, Dev.hasLane, hmode, hstate, hr]
  by_cases hm : s.role = .manager
  · have hper : t.perNs = s.perNs := by
      rw [Dev.perNs, Dev.perNs, if_pos (hr.trans hm), if_pos hm, Dev.f, Dev.fb_of_reads hf (by decide)]
      rfl
    rw [Dev.xlinkNow, Dev.xlinkNow, hl, hp, hr, Dev.now_of_calm hc, hper]
  · simp [Dev.xlinkNow, hr, hm]

/-- The bit of the cross-link shows it. -/
def Dev.ShowsLink (s : Dev) : Prop := s.flag F.PAIR_STAT_XLINK_UP = s.xlinkNow
/-- HOLD shows the triggers. -/
def Dev.ShowsHold (s : Dev) : Prop := s.f F.LANE_RB_STAT_HOLD = b2n (s.ownTrip || s.pairTrip)
/-- ELIGIBLE shows a unit in STANDBY without a critical fault. -/
def Dev.ShowsEligible (s : Dev) : Prop := s.f F.PAIR_STAT_ELIGIBLE = b2n (decide (s.f F.PAIR_STAT_STATE = 1) && !s.crit)

theorem Dev.ShowsLink.congr (h : s.ShowsLink) (hc : t.calm = s.calm) (hr : t.reads linkFlds = s.reads linkFlds) : t.ShowsLink := by
  have hf := congrArg Prod.snd hr
  have hp : t.pair.psof = s.pair.psof := congrArg (fun p => p.1.psof) hr
  rw [Dev.ShowsLink, Dev.xlinkNow_congr hc hp (List.cons.inj hf).2, Dev.flag, Dev.f, Dev.fb_of_reads hf (by decide)]
  exact h

theorem Dev.ShowsHold.congr (h : s.ShowsHold) (hc : t.calm = s.calm) (hr : t.reads holdFlds = s.reads holdFlds) : t.ShowsHold := by
  have hf := congrArg Prod.snd hr
  have hd : t.f F.SAFETY_TRIP_STAT_DEMAND = s.f F.SAFETY_TRIP_STAT_DEMAND := by
    simp only [Dev.f, Dev.fb, Dev.regsOf, F.SAFETY_TRIP_STAT_DEMAND, Dev.safe_of_inert (Dev.calm_inert hc), Dev.role_of_inert (Dev.calm_inert hc)]
  have hh : t.f F.LANE_RB_STAT_HOLD = s.f F.LANE_RB_STAT_HOLD := Dev.fb_of_reads hf (by decide) _ _ _
  have hc : t.f F.LANE_RB_CTL_HOST = s.f F.LANE_RB_CTL_HOST := Dev.fb_of_reads hf (by decide) _ _ _
  have hp : t.f F.PAIR_STAT_PAIR_TRIP = s.f F.PAIR_STAT_PAIR_TRIP := Dev.fb_of_reads hf (by decide) _ _ _
  unfold Dev.ShowsHold Dev.ownTrip Dev.pairTrip Dev.flag at *
  rw [hd, hh, hc, hp]
  exact h

theorem Dev.crit_congr (hp : (t.reads w).1 = (s.reads w).1) (hs : t.f F.PAIR_STAT_STATE = s.f F.PAIR_STAT_STATE)
    (hf : t.f F.GLOBAL_ROLE_FAULT = s.f F.GLOBAL_ROLE_FAULT) : t.crit = s.crit := by
  have h1 : t.pair.crit = s.pair.crit := by
    exact (congrArg (fun p : Pair => p.crit) hp :)
  have h2 : t.pair.mapOwn = s.pair.mapOwn := by
    exact (congrArg (fun p : Pair => p.mapOwn) hp :)
  have h3 : t.pair.mapPar = s.pair.mapPar := by
    exact (congrArg (fun p : Pair => p.mapPar) hp :)
  have h4 : t.pair.cfgBad = s.pair.cfgBad := by
    exact (congrArg (fun p : Pair => p.cfgBad) hp :)
  have hb : t.critBits = s.critBits := by rw [Dev.critBits, Dev.critBits, Dev.critFollow, Dev.critFollow, h1, h2, h3, h4, hf]
  rw [Dev.crit, Dev.crit, Dev.unitActive, Dev.unitActive, hs, hb]

theorem Dev.ShowsEligible.congr (h : s.ShowsEligible) (hr : t.reads eligibleFlds = s.reads eligibleFlds) : t.ShowsEligible := by
  have hf := congrArg Prod.snd hr
  have he : t.f F.PAIR_STAT_ELIGIBLE = s.f F.PAIR_STAT_ELIGIBLE := Dev.fb_of_reads hf (by decide) _ _ _
  have hs : t.f F.PAIR_STAT_STATE = s.f F.PAIR_STAT_STATE := Dev.fb_of_reads hf (by decide) _ _ _
  rw [Dev.ShowsEligible, he, hs, Dev.crit_congr (congrArg Prod.fst hr) hs (Dev.fb_of_reads hf (by decide) _ _ _)]
  exact h

/-! ## The steps that set the bits -/

/-- What is sent and judged when the cross-link comes up leaves it alone. -/
theorem Dev.mapSend_reads (s : Dev) (h : w.all (·.apart F.PAIR_EVT_MAP_MISMATCH) = true) :
    (s.mapSend.reads w).2 = (s.reads w).2 ∧ s.mapSend.pair.psof = s.pair.psof := by
  have hj : ∀ d, (Dev.mapJudge { s with pair := { s.pair with mapOwn := some d } }).reads w =
      Dev.reads w { s with pair := { s.pair with mapOwn := some d } } := fun d => by
    unfold Dev.mapJudge
    split
    · exact Dev.reads_iff _ _ _ (Dev.reads_raise _ _ _ h)
    · rfl
  have hm : s.mapSend.reads w = Dev.reads w { s with pair := { s.pair with mapOwn := some (s.mapDigest s.actSet) } } := by
    unfold Dev.mapSend Dev.pxSend
    dsimp only
    split
    · rw [Dev.reads_send, hj]
    · exact hj _
  have hregs : ∀ b, ({ s with pair := { s.pair with mapOwn := some (s.mapDigest s.actSet) } } : Dev).regsOf b = s.regsOf b := fun b => by
    cases b <;> rfl
  constructor
  · rw [hm]
    simp only [Dev.reads, Dev.fb, hregs]
  · exact congrArg (fun p => p.1.psof) hm

theorem Dev.showsLink_xlinkSync (hm : s.role = .manager) : s.xlinkSync.ShowsLink := by
  have hflds : ∀ {u : Dev}, u.calm = s.calm → u.pair.psof = s.pair.psof → (u.reads (linkFlds.drop 1)).2 = (s.reads (linkFlds.drop 1)).2 →
      u.flag F.PAIR_STAT_XLINK_UP = s.xlinkNow → u.ShowsLink := fun hc hp hf h => h.trans (Dev.xlinkNow_congr hc hp hf).symm
  have hcalm := s.xlinkSync_calm
  unfold Dev.xlinkSync at hcalm ⊢
  rw [if_neg (not_not.2 hm)] at hcalm ⊢
  dsimp only at hcalm ⊢
  split
  case isTrue h =>
    rw [if_pos h] at hcalm
    refine hflds hcalm rfl ?_ ?_
    · rw [Dev.reads_inc _ _ _ _ (by decide), Dev.reads_raise _ _ _ (by decide), Dev.reads_put _ _ _ _ (by decide)]
    · rw [Dev.flag, Dev.f_inc_apart _ _ _ _ _ _ (by decide), Dev.f_raise_apart _ _ _ _ _ (by decide), Dev.f_put_same]
      simpa using h.2
  case isFalse h =>
    rw [if_neg h] at hcalm
    split
    case isTrue hup =>
      rw [if_pos hup] at hcalm
      obtain ⟨hf, hp⟩ := Dev.mapSend_reads (w := linkFlds) (s.raise F.PAIR_STAT_XLINK_UP) (by decide)
      refine hflds hcalm (hp.trans rfl) ?_ ?_
      · refine (List.cons.inj hf).2.trans ?_
        exact congrArg Prod.snd (Dev.reads_raise (w := linkFlds.drop 1) s 0 0 (by decide))
      · rw [Dev.flag, Dev.f, Dev.fb_of_reads hf (by decide)]
        rw [show (s.raise F.PAIR_STAT_XLINK_UP).fb F.PAIR_STAT_XLINK_UP 0 0 0 = 1 from Dev.f_raise_same s F.PAIR_STAT_XLINK_UP 0 0, hup.1]
        rfl
    case isFalse hdown =>
      cases hx : s.xlinkNow <;> simp_all [Dev.ShowsLink]

theorem Dev.showsHold_put (s : Dev) : ((s.put F.LANE_RB_STAT_HOLD (b2n (s.ownTrip || s.pairTrip))).put F.LANE_RB_STAT_HOLD.onLeaf
    (b2n (s.ownTrip || s.pairTrip))).ShowsHold := by
  rw [Dev.ShowsHold, Dev.f_put_apart _ _ _ _ _ _ (by decide), Dev.f_put_same]
  unfold Dev.ownTrip Dev.pairTrip Dev.flag
  simp (disch := decide) only [Dev.f_put_apart]
  exact b2n_mod _

theorem Dev.showsHold_rbSync (s0 : Dev) (hm : s.role = .manager) : (Dev.rbSync s0 s).ShowsHold := by
  have hset : ∀ u : Dev, Dev.ShowsHold (if u.f F.LANE_RB_STAT_HOLD = b2n (u.ownTrip || u.pairTrip) then u
      else (u.put F.LANE_RB_STAT_HOLD (b2n (u.ownTrip || u.pairTrip))).put F.LANE_RB_STAT_HOLD.onLeaf (b2n (u.ownTrip || u.pairTrip))) := fun u => by
    split
    · assumption
    · exact u.showsHold_put
  rw [Dev.rbSync, if_neg (not_not.2 hm)]
  exact hset _

theorem Dev.showsEligible_pairSync (hm : s.role = .manager) : s.pairSync.ShowsEligible := by
  rw [Dev.pairSync, if_neg (not_not.2 hm)]
  have hs : ∀ v, (s.put F.PAIR_STAT_ELIGIBLE v).f F.PAIR_STAT_STATE = s.f F.PAIR_STAT_STATE := fun v =>
    Dev.f_put_apart _ _ _ _ _ _ (by decide)
  rw [Dev.ShowsEligible, Dev.f_put_same, hs,
    Dev.crit_congr (w := []) (congrArg Prod.fst (Dev.reads_put _ _ _ _ rfl)) (hs _) (Dev.f_put_apart _ _ _ _ _ _ (by decide))]
  exact b2n_mod _

/-! ## What the upstream superframes leave alone -/

theorem Dev.reads_sendReplies (L u k : Nat) : (s.sendReplies L u k).reads w = s.reads w :=
  Dev.reads_ite _ _ rfl ((Dev.reads_send ..).trans (Dev.reads_of_regs _ rfl rfl fun b => by cases b <;> rfl))

theorem Dev.reads_statusRecord (n : Nat) : (s.statusRecord n).2.reads w = s.reads w :=
  Dev.reads_of_regs _ rfl rfl fun b => by cases b <;> rfl

theorem Dev.reads_upStart (f : UpFrame) : (s.upStart f).2.reads w = s.reads w := by
  unfold Dev.upStart
  extract_lets lanes info np sof r
  have hr : r.2.reads w = s.reads w := by
    refine Dev.gather_keeps (Dev.reads w) _ ?_ _ ([], s)
    exact fun x L => Dev.reads_statusRecord f.n
  exact (Dev.reads_of_regs _ rfl rfl fun b => by cases b <;> rfl).trans hr

theorem Dev.reads_upSend (h : w.all (·.apart F.LANE_SF_MISS_NOREP_CNT) = true) (t0 : Nat) (p : UpPart) : (s.upSend t0 p).reads w = s.reads w := by
  unfold Dev.upSend
  extract_lets r
  have hr : r.2.reads w = s.reads w := Dev.gather_keeps (Dev.reads w) _ (fun x i => by
    split
    · rfl
    · exact Dev.reads_inc _ _ _ _ h) _ ([], s)
  rw [Dev.reads_sendReplies, Dev.reads_send, hr]

/-- The superframes that wait are no field of a register. -/
theorem Dev.reads_withProto (x : Proto) : Dev.reads w { s with proto := x } = s.reads w :=
  Dev.reads_of_regs _ rfl rfl fun b => by cases b <;> rfl

theorem Dev.reads_upGo (s : Dev) (h : w.all (·.apart F.LANE_SF_MISS_NOREP_CNT) = true) : s.upGo.reads w = s.reads w := by
  unfold Dev.upGo
  refine Dev.reads_ite _ _ rfl ((Dev.reads_each _ _ _ fun s f => ?_).trans (Dev.reads_withProto _))
  have hparts : ∀ (u : Dev) l, (u.each l fun s p => s.upSend f.t0 p).reads w = u.reads w := fun u l =>
    Dev.reads_each _ _ _ fun s p => Dev.reads_upSend h _ _
  have hleft : ∀ r : Option (List UpPart) × Dev, r.2.reads w = s.reads w →
      (match r with
        | (none, s) => { s with proto := { s.proto with up := s.proto.up ++ [f] } }
        | (some l, s) =>
          let done := fun (p : UpPart) => decide (f.t0 * 10 + s.upEnd p ≤ s.now * 10)
          let t := s.each (l.filter done) fun s p => s.upSend f.t0 p
          let left := l.filter fun p => !done p
          if left = [] then t else { t with proto := { t.proto with up := t.proto.up ++ [{ f with parts := some left }] } }).reads w =
        s.reads w := fun r hr => by
    obtain ⟨_ | l, u⟩ := r
    · exact (Dev.reads_withProto _).trans hr
    · exact Dev.reads_ite _ _ ((hparts _ _).trans hr) ((Dev.reads_withProto _).trans ((hparts _ _).trans hr))
  refine hleft _ ?_
  split
  · rfl
  · split
    · exact Dev.reads_upStart f
    · rfl

theorem Dev.upGo_reel (s : Dev) : s.upGo.reel = s.reel := by
  have hsend : ∀ (s : Dev) L k d, (s.send L k d).reel = s.reel := fun s L k d => by
    unfold Dev.send; split <;> rfl
  have hreplies : ∀ (s : Dev) L u k, (s.sendReplies L u k).reel = s.reel := fun s L u k => by
    unfold Dev.sendReplies
    extract_lets r
    split
    · rfl
    · exact hsend ..
  have hstart : ∀ (s : Dev) f, (s.upStart f).2.reel = s.reel := fun s f => by
    unfold Dev.upStart
    extract_lets lanes info np sof r
    refine (show r.2.reel = s.reel from ?_)
    refine Dev.gather_keeps Dev.reel _ ?_ _ ([], s)
    exact fun _ _ => rfl
  have hpart : ∀ (s : Dev) t0 p, (s.upSend t0 p).reel = s.reel := fun s t0 p => by
    unfold Dev.upSend
    extract_lets r
    have hr : r.2.reel = s.reel := Dev.gather_keeps Dev.reel _ (fun x i => by split <;> rfl) _ ([], s)
    rw [hreplies, hsend, hr]
  unfold Dev.upGo
  split
  · rfl
  · refine Dev.each_keeps Dev.reel _ _ (fun s f _ => ?_) _
    have hparts : ∀ (u : Dev) l, (u.each l fun s p => s.upSend f.t0 p).reel = u.reel := fun u l =>
      Dev.each_keeps Dev.reel _ _ (fun s p _ => hpart ..) u
    have hleft : ∀ r : Option (List UpPart) × Dev, r.2.reel = s.reel →
        (match r with
          | (none, s) => { s with proto := { s.proto with up := s.proto.up ++ [f] } }
          | (some l, s) =>
            let done := fun (p : UpPart) => decide (f.t0 * 10 + s.upEnd p ≤ s.now * 10)
            let t := s.each (l.filter done) fun s p => s.upSend f.t0 p
            let left := l.filter fun p => !done p
            if left = [] then t else { t with proto := { t.proto with up := t.proto.up ++ [{ f with parts := some left }] } }).reel =
          s.reel := fun r hr => by
      obtain ⟨_ | l, u⟩ := r
      · exact hr
      · dsimp only
        split <;> exact (hparts _ _).trans hr
    refine hleft _ ?_
    split
    · rfl
    · split
      · exact hstart s f
      · rfl

theorem Dev.trnSync_reel (s0 s : Dev) : (Dev.trnSync s0 s).reel = s.reel := by
  unfold Dev.trnSync
  split
  · rfl
  · refine Dev.each_keeps Dev.reel _ _ (fun s L _ => ?_) s
    split <;> split <;> rfl

/-! ## The invariant -/

/-- The bits and the events of a settled MANAGER. -/
def Dev.ShowsAll (s : Dev) : Prop := s.ShowsLink ∧ s.ShowsHold ∧ s.ShowsEligible ∧ s.reel.ev = 0

/-- From the end of the cross-link's step on, every step of settling leaves the bits set before it, and what they are read from. -/
theorem Dev.shows_of_xlink (s0 s : Dev) (hm : s.role = .manager) (hl : s.ShowsLink) :
    (Dev.trnSync s0 (Dev.rbSync s0 s).pairSync.swapSettle.reelDig).ShowsAll := by
  have hrole : ∀ {a b : Dev}, a.calm = b.calm → b.role = .manager → a.role = .manager := fun h hb =>
    (Dev.role_of_inert (Dev.calm_inert h)).trans hb
  have hm1 := hrole (Dev.rbSync_calm s0 s) hm
  have hm2 := hrole (Dev.pairSync_calm (Dev.rbSync s0 s)) hm1
  have hm3 := hrole (Dev.swapSettle_calm (Dev.rbSync s0 s).pairSync) hm2
  -- what the steps from `swapSettle` on leave alone
  have hc : (Dev.trnSync s0 (Dev.rbSync s0 s).pairSync.swapSettle.reelDig).calm = (Dev.rbSync s0 s).pairSync.calm := by
    rw [Dev.trnSync_calm, Dev.reelDig_calm, Dev.swapSettle_calm]
  have hr : ∀ {w : List Fld}, w.all (·.apart F.GLOBAL_CFG_STAT_PENDING) = true → w.all (·.apart F.GLOBAL_CFG_STAT_STATUS) = true →
      w.all (·.apart F.GLOBAL_CYCLE_STAT_SWAP_DONE) = true → w.all (fun G => decide (G.blk ≠ .reel)) = true →
      (Dev.trnSync s0 (Dev.rbSync s0 s).pairSync.swapSettle.reelDig).reads w = (Dev.rbSync s0 s).pairSync.reads w := fun hp hs hd hb =>
    (Dev.reads_trnSync _ _).trans ((congrArg Prod.fst (Dev.aside_reelDig _ hb hm3)).trans (Dev.reads_swapSettle _ hp hs hd))
  have hlink : (Dev.rbSync s0 s).pairSync.ShowsLink := by
    have h1 : (Dev.rbSync s0 s).ShowsLink := hl.congr (Dev.rbSync_calm s0 s)
      (Dev.reads_rbSync _ _ (by decide) (by decide) (by decide) (by decide) (by decide) (by decide))
    exact h1.congr (Dev.pairSync_calm _) (Dev.reads_pairSync _ (by decide))
  have hhold : (Dev.rbSync s0 s).pairSync.ShowsHold :=
    (Dev.showsHold_rbSync s0 hm).congr (Dev.pairSync_calm _) (Dev.reads_pairSync _ (by decide))
  refine ⟨hlink.congr hc ?_, hhold.congr hc ?_, (Dev.showsEligible_pairSync hm1).congr ?_, ?_⟩
  · exact hr (by decide) (by decide) (by decide) (by decide)
  · exact hr (by decide) (by decide) (by decide) (by decide)
  · exact hr (by decide) (by decide) (by decide) (by decide)
  · rw [Dev.trnSync_reel]
    exact congrArg Prod.snd (Dev.aside_reelDig (w := []) _ rfl hm3)

/-- The upstream superframes change neither the bits nor what they are read from. -/
theorem Dev.ShowsAll.upGo (h : s.ShowsAll) : s.upGo.ShowsAll := by
  obtain ⟨hlink, hhold, helig, hev⟩ := h
  refine ⟨hlink.congr s.upGo_calm (s.reads_upGo (by decide)), hhold.congr s.upGo_calm (s.reads_upGo (by decide)),
    helig.congr (s.reads_upGo (by decide)), ?_⟩
  rw [s.upGo_reel]
  exact hev

/-- A settled device shows the conditions, whatever the command did. -/
theorem Dev.shows_settle (s0 s : Dev) (hm : (Dev.settle s0 s).role = .manager) : (Dev.settle s0 s).Shows := by
  have hm0 : s.role = .manager := (Dev.settle_role s0 s).symm.trans hm
  suffices h : (Dev.aftermath s0 s).ShowsAll by
    obtain ⟨hlink, hhold, helig, hev⟩ := h
    exact ⟨helig, hlink, hhold, hev⟩
  unfold Dev.aftermath
  extract_lets a b c d
  have ha : a.role = .manager := by
    have : a.calm = (Dev.laneSync s0 s).calm := Dev.rrRetire_calm ..
    exact (Dev.role_of_inert (Dev.calm_inert this)).trans ((Dev.role_of_inert (Dev.laneSync_inert s0 s)).trans hm0)
  have hb : b.role = .manager := by
    rw [show b = a from if_neg (by rw [ha]; decide)]
    exact ha
  have hx : b.xlinkSync.role = .manager := (Dev.role_of_inert (Dev.calm_inert (Dev.xlinkSync_calm b))).trans hb
  have hd : d.ShowsAll := Dev.shows_of_xlink s0 b.xlinkSync hx (Dev.showsLink_xlinkSync hb)
  clear_value d
  split
  · exact hd
  · exact hd.upGo

/-- Settles O3: every step ends in settling, which sets each bit by its condition and then leaves both alone. -/
theorem stepKeepsTheStatusBits : Obligations.StepKeepsTheStatusBits := by
  unfold Obligations.StepKeepsTheStatusBits
  intro s t _ hstep hm
  obtain ⟨s0, u, hu⟩ := step_dev hstep
  rw [hu] at hm ⊢
  exact Dev.shows_settle s0 u hm

end Sys2Proof.Machine
end

section
/-! The frame of a command, built up from what each of its operations may touch. -/

namespace Sys2Proof.Machine

/-- The block whose state a register of a block is part of: the lanes' two blocks share one. -/
def Blk.home : Blk → Blk
  | .leaf => .trunk
  | b => b

variable {own : List Blk} {outs : List Out} {s u v : Dev}

theorem Dev.keeps_refl (own : List Blk) (s : Dev) : s.Keeps own s.out s := by simp [Dev.Keeps]

/-- The start of a command. -/
theorem Dev.keeps_begin (own : List Blk) (s : Dev) : s.Keeps own [] s.begin := by simp [Dev.Keeps]

theorem Dev.Keeps.out_eq (h : s.Keeps own outs u) : u.out = outs := h.2.1
theorem Dev.Keeps.role_eq (h : s.Keeps own outs u) : u.role = s.role := h.1

theorem Dev.Keeps.trans {o : List Out} (h : s.Keeps own o u) (k : u.Keeps own outs v) : s.Keeps own outs v := by
  obtain ⟨hr, -, h0, h1, h2, h3, h4, h5, h6, h7, h8, h9, h10, h11, h12, h13, h14, h15, h16⟩ := h
  obtain ⟨kr, ko, k0, k1, k2, k3, k4, k5, k6, k7, k8, k9, k10, k11, k12, k13, k14, k15, k16⟩ := k
  exact ⟨kr.trans hr, ko, fun b => (k0 b).trans (h0 b), fun b => (k1 b).trans (h1 b), fun b => (k2 b).trans (h2 b), fun b => (k3 b).trans (h3 b), fun b => (k4 b).trans (h4 b),
    fun b => ⟨(k5 b).1.trans (h5 b).1, (k5 b).2.trans (h5 b).2⟩, fun b => (k6 b).trans (h6 b), fun b => (k7 b).trans (h7 b), fun b => (k8 b).trans (h8 b), fun b => (k9 b).trans (h9 b),
    fun b => (k10 b).trans (h10 b), fun b => (k11 b).trans (h11 b), fun b => (k12 b).trans (h12 b), fun b => (k13 b).trans (h13 b),
    fun b => (k14 b).trans (h14 b), fun b => (k15 b).trans (h15 b), fun b => (k16 b).trans (h16 b)⟩

theorem Dev.Keeps.mono {own' : List Blk} (h : s.Keeps own outs u) (hsub : ∀ b ∈ own, b ∈ own') : s.Keeps own' outs u := by
  obtain ⟨hr, ho, h0, h1, h2, h3, h4, h5, h6, h7, h8, h9, h10, h11, h12, h13, h14, h15, h16⟩ := h
  exact ⟨hr, ho, fun b => h0 (mt (hsub _) b), fun b => h1 (mt (hsub _) b), fun b => h2 (mt (hsub _) b), fun b => h3 (mt (hsub _) b), fun b => h4 (mt (hsub _) b), fun b => h5 (mt (hsub _) b),
    fun b => h6 (mt (hsub _) b), fun b => h7 (mt (hsub _) b), fun b => h8 (mt (hsub _) b), fun b => h9 (mt (hsub _) b), fun b => h10 (mt (hsub _) b), fun b => h11 (mt (hsub _) b),
    fun b => h12 (mt (hsub _) b), fun b => h13 (mt (hsub _) b), fun b => h14 (mt (hsub _) b), fun b => h15 (mt (hsub _) b), fun b => h16 (mt (hsub _) b)⟩

/-- The device that a command begins with differs from the state's only in what is put out. -/
theorem Dev.Keeps.of_begin (h : s.begin.Keeps own outs u) : s.Keeps own outs u := (Dev.keeps_begin own s).trans h

/-! ## A new state of one block -/

theorem Dev.Keeps.setGlob (h : s.Keeps own outs u) (hb : .global ∈ own) (x : Glob) : s.Keeps own outs { u with glob := x } := by
  simp_all [Dev.Keeps]
theorem Dev.Keeps.setSec (h : s.Keeps own outs u) (hb : .secure ∈ own) (x : Sec) : s.Keeps own outs { u with sec := x } := by
  simp_all [Dev.Keeps]
theorem Dev.Keeps.setTime (h : s.Keeps own outs u) (hb : .time ∈ own) (x : Time) : s.Keeps own outs { u with time := x } := by
  simp_all [Dev.Keeps]
theorem Dev.Keeps.setToll (h : s.Keeps own outs u) (hb : .tollgate ∈ own) (x : Toll) : s.Keeps own outs { u with toll := x } := by
  simp_all [Dev.Keeps]
theorem Dev.Keeps.setHostq (h : s.Keeps own outs u) (hb : .hostq ∈ own) (x : Hostq) : s.Keeps own outs { u with hostq := x } := by
  simp_all [Dev.Keeps]
theorem Dev.Keeps.setLanes (h : s.Keeps own outs u) (hb : .trunk ∈ own) (x : Lanes) : s.Keeps own outs { u with lanes := x } := by
  simp_all [Dev.Keeps]
theorem Dev.Keeps.setProto (h : s.Keeps own outs u) (hb : .trunk ∈ own) (x : Proto) : s.Keeps own outs { u with proto := x } := by
  simp_all [Dev.Keeps]
theorem Dev.Keeps.setLoom (h : s.Keeps own outs u) (hb : .loom ∈ own) (x : Loom) : s.Keeps own outs { u with loom := x } := by
  simp_all [Dev.Keeps]
theorem Dev.Keeps.setSpin (h : s.Keeps own outs u) (hb : .spindle ∈ own) (x : Spin) : s.Keeps own outs { u with spin := x } := by
  simp_all [Dev.Keeps]
theorem Dev.Keeps.setGate (h : s.Keeps own outs u) (hb : .gate ∈ own) (x : Gate) : s.Keeps own outs { u with gate := x } := by
  simp_all [Dev.Keeps]
theorem Dev.Keeps.setAdc (h : s.Keeps own outs u) (hb : .adc ∈ own) (x : Adc) : s.Keeps own outs { u with adc := x } := by
  simp_all [Dev.Keeps]
theorem Dev.Keeps.setAng (h : s.Keeps own outs u) (hb : .angle ∈ own) (x : Ang) : s.Keeps own outs { u with ang := x } := by
  simp_all [Dev.Keeps]
theorem Dev.Keeps.setSafe (h : s.Keeps own outs u) (hb : .safety ∈ own) (x : Safe) : s.Keeps own outs { u with safe := x } := by
  simp_all [Dev.Keeps]
theorem Dev.Keeps.setReel (h : s.Keeps own outs u) (hb : .reel ∈ own) (x : Reel) : s.Keeps own outs { u with reel := x } := by
  simp_all [Dev.Keeps]
theorem Dev.Keeps.setEth (h : s.Keeps own outs u) (hb : .eth ∈ own) (x : Eth) : s.Keeps own outs { u with eth := x } := by
  simp_all [Dev.Keeps]
theorem Dev.Keeps.setCan (h : s.Keeps own outs u) (hb : .can ∈ own) (x : Can) : s.Keeps own outs { u with can := x } := by
  simp_all [Dev.Keeps]
theorem Dev.Keeps.setPair (h : s.Keeps own outs u) (hb : .pair ∈ own) (x : Pair) : s.Keeps own outs { u with pair := x } := by
  simp_all [Dev.Keeps]
theorem Dev.Keeps.setDbg (h : s.Keeps own outs u) (hb : .debug ∈ own) (x : Dbg) : s.Keeps own outs { u with dbg := x } := by
  simp_all [Dev.Keeps]
theorem Dev.Keeps.setEvents (h : s.Keeps own outs u) (x : Events) : s.Keeps own outs { u with events := x } := h
theorem Dev.Keeps.setFree (h : s.Keeps own outs u) (x : Nat) : s.Keeps own outs { u with free := x } := h
theorem Dev.Keeps.setCpl (h : s.Keeps own outs u) (x : Option (Status × Nat)) : s.Keeps own outs { u with cpl := x } := h
theorem Dev.Keeps.complete (h : s.Keeps own outs u) (st : Status) (x : Nat := 0) : s.Keeps own outs (u.complete st x) := h

/-! ## Writes of fields -/

theorem Dev.Keeps.setRegs (h : s.Keeps own outs u) {b : Blk} (hb : b.home ∈ own) (t : Tab Nat) : s.Keeps own outs (u.setRegs t b) := by
  cases b <;> simp_all [Dev.Keeps, Dev.setRegs, Blk.home]

variable {G : Fld}

theorem Dev.Keeps.putb (h : s.Keeps own outs u) (hb : G.blk.home ∈ own) (bank x i j : Nat) : s.Keeps own outs (u.putb G bank x i j) :=
  h.setRegs hb _
theorem Dev.Keeps.put (h : s.Keeps own outs u) (hb : G.blk.home ∈ own) (x : Nat) (i j : Nat := 0) : s.Keeps own outs (u.put G x i j) :=
  h.setRegs hb _
theorem Dev.Keeps.befall (h : s.Keeps own outs u) (hb : G.blk.home ∈ own) (g : Nat → Nat) (i j : Nat) : s.Keeps own outs (u.befall G g i j) :=
  (h.put hb _ i j).setEvents _
theorem Dev.Keeps.raise (h : s.Keeps own outs u) (hb : G.blk.home ∈ own) (i j : Nat := 0) : s.Keeps own outs (u.raise G i j) := h.befall hb _ i j
theorem Dev.Keeps.inc (h : s.Keeps own outs u) (hb : G.blk.home ∈ own) (n : Nat) (i j : Nat := 0) : s.Keeps own outs (u.inc G n i j) :=
  h.befall hb _ i j
theorem Dev.Keeps.top (h : s.Keeps own outs u) (hb : G.blk.home ∈ own) (n : Nat) (i j : Nat := 0) : s.Keeps own outs (u.top G n i j) :=
  h.befall hb _ i j
theorem Dev.Keeps.setBit (h : s.Keeps own outs u) (hb : G.blk.home ∈ own) (k : Nat) (b : Bool) (i j : Nat := 0) :
    s.Keeps own outs (u.setBit G k b i j) := h.befall hb _ i j
theorem Dev.Keeps.incW (h : s.Keeps own outs u) (hb : G.blk.home ∈ own) (n : Nat) (i j : Nat := 0) : s.Keeps own outs (u.incW G n i j) :=
  h.put hb _ i j

/-! ## Conditions, repetition, what is put out -/

theorem Dev.Keeps.ite (c : Prop) [Decidable c] (hu : c → s.Keeps own outs u) (hv : ¬ c → s.Keeps own outs v) : s.Keeps own outs (if c then u else v) := by
  split
  · exact hu ‹_›
  · exact hv ‹_›

theorem Dev.Keeps.iff (h : s.Keeps own outs u) (c : Bool) (g : Dev → Dev) (hg : c = true → s.Keeps own outs (g u)) : s.Keeps own outs (u.iff c g) := by
  cases c
  · exact h
  · exact hg rfl

theorem Dev.Keeps.each {α : Type} (h : s.Keeps own outs u) (l : List α) (g : Dev → α → Dev) (hg : ∀ v, ∀ a ∈ l, s.Keeps own outs v → s.Keeps own outs (g v a)) :
    s.Keeps own outs (u.each l g) := by
  induction l generalizing u with
  | nil => exact h
  | cons a l ih => exact ih (hg u a List.mem_cons_self h) fun v b hb => hg v b (List.mem_cons_of_mem _ hb)

theorem Dev.Keeps.emit (h : s.Keeps own outs u) (o : Out) : s.Keeps own (o :: outs) (u.emit o) := by
  simp_all [Dev.Keeps]

/-! ## The start of a command -/

theorem State.Runs.of_eq {s : State} {c : Instr} {u v : Dev} (h : s.Runs c u) (e : u = v) : s.Runs c v := e ▸ h

/-- A command is executed to one device, as settling leaves it. -/
theorem State.Runs.settle_eq {s : State} {c : Instr} {u v : Dev} (h : s.Runs c u) (k : s.Runs c v) : Dev.settle s.dev u = Dev.settle s.dev v := by
  have he := h.symm.trans k
  injection he with he
  exact congrArg State.dev he

theorem State.Runs.does {s : State} {c : Instr} {u : Dev} {P : Dev → Prop} (h : s.Runs c u) (hp : P u) : s.Does c P := ⟨u, h, hp⟩

/-- A block in operation serves the write that a command begins with. -/
theorem Dev.served_begin {s : Dev} {b : Blk} {o : Nat} (h : s.blockStatus b o = .ok) (g : Dev → Acted) : s.begin.served b o g = g s.begin :=
  Dev.served_ok g h

/-! ## Time -/

theorem Dev.Keeps.toTick (h : s.Keeps own outs u) (hb : .time ∈ own) : s.Keeps own outs u.toTick := by
  obtain ⟨x, hx⟩ := u.toTick_withTime
  exact hx ▸ h.setTime hb x

theorem Dev.advanceTo_withTime (s : Dev) (t : Nat) : ∃ x, s.advanceTo t = { s with time := x } := by
  unfold Dev.advanceTo
  dsimp only
  split
  · exact ⟨_, rfl⟩
  · obtain ⟨x, hx⟩ := s.toTick_withTime
    split <;> [rw [hx]; skip] <;> split <;> exact ⟨_, rfl⟩

theorem Dev.frcTo_withTime (s : Dev) (n : Nat) : ∃ x, s.frcTo n = { s with time := x } := by
  unfold Dev.frcTo
  dsimp only
  obtain ⟨x, hx⟩ := s.toTick_withTime
  split
  · exact ⟨_, rfl⟩
  · rw [hx]
    split <;> exact ⟨_, rfl⟩

theorem Dev.Keeps.advanceTo (h : s.Keeps own outs u) (hb : .time ∈ own) (t : Nat) : s.Keeps own outs (u.advanceTo t) := by
  obtain ⟨x, hx⟩ := u.advanceTo_withTime t
  exact hx ▸ h.setTime hb x

theorem Dev.Keeps.frcTo (h : s.Keeps own outs u) (hb : .time ∈ own) (n : Nat) : s.Keeps own outs (u.frcTo n) := by
  obtain ⟨x, hx⟩ := u.frcTo_withTime n
  exact hx ▸ h.setTime hb x

/-- A field is read from its block's register file. -/
theorem Dev.fb_of_regs (hr : u.role = s.role) (h : u.regsOf G.blk = s.regsOf G.blk) (bank i j : Nat) : u.fb G bank i j = s.fb G bank i j := by
  unfold Dev.fb
  rw [hr, h]

/-- Station time is that of the TIME block. -/
theorem Dev.now_of_time (hr : u.role = s.role) (ht : u.time = s.time) : u.now = s.now := by
  have hinc : u.tickInc = s.tickInc := Dev.fb_of_regs (G := F.TIME_INC_INC) hr (congrArg Time.regs ht) ..
  unfold Dev.now Dev.nowFix Dev.now5 Dev.fifths
  rw [hinc, ht]

/-! ## Frames of what may put something out -/

/-- The device `u` is `s` but for the blocks of the list, and has put out more. -/
def Dev.Grows (own : List Blk) (s u : Dev) : Prop := s.Keeps own u.out u ∧ s.out <:+ u.out

theorem Dev.Grows.keeps (h : s.Grows own u) : s.Keeps own u.out u := h.1
theorem Dev.Grows.role (h : s.Grows own u) : u.role = s.role := h.1.role_eq
theorem Dev.Grows.mem_out {o : Out} (h : s.Grows own u) (ho : o ∈ s.out) : o ∈ u.out := h.2.subset ho

theorem Dev.Keeps.grows (h : s.Keeps own s.out u) : s.Grows own u := by
  have ho := h.out_eq
  exact ⟨ho ▸ h, ho ▸ List.suffix_refl _⟩

theorem Dev.grows_refl (own : List Blk) (s : Dev) : s.Grows own s := (Dev.keeps_refl own s).grows

theorem Dev.Grows.trans (h : s.Grows own u) (k : u.Grows own v) : s.Grows own v := ⟨h.1.trans k.1, h.2.trans k.2⟩

theorem Dev.Grows.mono {own' : List Blk} (h : s.Grows own u) (hsub : ∀ b ∈ own, b ∈ own') : s.Grows own' u := ⟨h.1.mono hsub, h.2⟩

theorem Dev.grows_emit (own : List Blk) (s : Dev) (o : Out) : s.Grows own (s.emit o) :=
  ⟨(Dev.keeps_refl own s).emit o, List.suffix_cons ..⟩

theorem Dev.grows_put (s : Dev) (hb : G.blk.home ∈ own) (x : Nat) (i j : Nat := 0) : s.Grows own (s.put G x i j) := ((Dev.keeps_refl own s).put hb x i j).grows
theorem Dev.grows_befall (s : Dev) (hb : G.blk.home ∈ own) (g : Nat → Nat) (i j : Nat := 0) : s.Grows own (s.befall G g i j) :=
  ((Dev.keeps_refl own s).befall hb g i j).grows
theorem Dev.grows_raise (s : Dev) (hb : G.blk.home ∈ own) (i j : Nat := 0) : s.Grows own (s.raise G i j) := s.grows_befall hb _ i j
theorem Dev.grows_inc (s : Dev) (hb : G.blk.home ∈ own) (n : Nat) (i j : Nat := 0) : s.Grows own (s.inc G n i j) := s.grows_befall hb _ i j
theorem Dev.grows_complete (own : List Blk) (s : Dev) (st : Status) (x : Nat := 0) : s.Grows own (s.complete st x) :=
  ((Dev.keeps_refl own s).complete st x).grows

theorem Dev.Grows.ite (c : Prop) [Decidable c] (hu : c → s.Grows own u) (hv : ¬ c → s.Grows own v) : s.Grows own (if c then u else v) := by
  split
  · exact hu ‹_›
  · exact hv ‹_›

theorem Dev.grows_iff (s : Dev) (c : Bool) (g : Dev → Dev) (hg : c = true → s.Grows own (g s)) : s.Grows own (s.iff c g) := by
  cases c
  · exact Dev.grows_refl own s
  · exact hg rfl

theorem Dev.grows_each {α : Type} (s : Dev) (l : List α) (g : Dev → α → Dev) (hg : ∀ v, ∀ a ∈ l, Dev.Grows own v (g v a)) : s.Grows own (s.each l g) := by
  induction l generalizing s with
  | nil => exact Dev.grows_refl own s
  | cons a l ih => exact (hg s a List.mem_cons_self).trans (ih (g s a) fun v b hb => hg v b (List.mem_cons_of_mem _ hb))

/-! ## The rings of HOSTQ -/

theorem Dev.grows_setCq (s : Dev) (hb : .hostq ∈ own) (r : Nat) (c : Cq) : s.Grows own (s.setCq r c) := ((Dev.keeps_refl own s).setHostq hb _).grows
theorem Dev.grows_setSq (s : Dev) (hb : .hostq ∈ own) (r : Nat) (q : Sq) : s.Grows own (s.setSq r q) := ((Dev.keeps_refl own s).setHostq hb _).grows

theorem Dev.grows_msix (s : Dev) (hb : .hostq ∈ own) (fn vec : Nat) : s.Grows own (s.msix fn vec) :=
  .ite _ (fun _ => ((Dev.keeps_refl own s).setHostq hb _).grows) fun _ => s.grows_emit own _

theorem Dev.grows_hostEvt (s : Dev) (hb : .hostq ∈ own) (e : Fld) (he : e.blk.home ∈ own) : s.Grows own (s.hostEvt e) :=
  (s.grows_raise he).trans (Dev.grows_iff _ _ _ fun _ => Dev.grows_msix _ hb _ _)

theorem Dev.grows_mmioError (s : Dev) (hb : .hostq ∈ own) (st : Status) (fn bar off : Nat) (wr : Bool) : s.Grows own (s.mmioError st fn bar off wr) :=
  (((((s.grows_put (G := F.HOSTQ_MMIO_ERR_STATUS) hb _).trans (Dev.grows_put (G := F.HOSTQ_MMIO_ERR_FUNC) _ hb _)).trans
    (Dev.grows_put (G := F.HOSTQ_MMIO_ERR_WR) _ hb _)).trans (Dev.grows_put (G := F.HOSTQ_MMIO_ERR_BAR) _ hb _)).trans
    (Dev.grows_put (G := F.HOSTQ_MMIO_ERR_OFFSET) _ hb _)).trans (Dev.grows_hostEvt _ hb F.HOSTQ_EVT_MMIO_ERR hb)

theorem Dev.grows_sqDrainN (n : Nat) (s : Dev) (hb : .hostq ∈ own) (r : Nat) : s.Grows own (Dev.sqDrainN n s r) := by
  induction n generalizing s with
  | zero => exact Dev.grows_refl own s
  | succ n ih =>
    rw [Dev.sqDrainN]
    split
    · exact Dev.grows_refl own s
    · split
      · exact Dev.grows_refl own s
      · exact ((s.grows_setSq hb r _).trans (Dev.grows_setCq _ hb _ _)).trans (ih _)

theorem Dev.grows_finish (s : Dev) (hb : .hostq ∈ own) (r : Nat) (d : Desc) (st : Status) (ep : Nat) (l : List Byte) :
    s.Grows own (s.finish r d st ep l) :=
  ((s.grows_setSq hb r _).trans (Dev.grows_sqDrainN _ _ hb r)).trans (Dev.grows_complete own _ st)

theorem Dev.grows_finishAt (s : Dev) (hb : .hostq ∈ own) (r i : Nat) (st : Status) (ep : Nat) (l : List Byte) :
    s.Grows own (s.finishAt r i st ep l) := by
  unfold Dev.finishAt
  split
  · exact s.grows_finish hb r _ st ep l
  · exact Dev.grows_refl own s

end Sys2Proof.Machine
end

section
/-! Steering time in the MANAGER (R347, R348). -/

namespace Sys2Proof.Machine

/-! ## What the passing of time leaves of the registers -/

section
variable {G : Fld} (s : Dev) (bank i j : Nat)

/-- A new state of TIME with the same registers. -/
theorem Dev.fb_withTime {x : Time} (h : x.regs = s.time.regs) : ({ s with time := x } : Dev).fb G bank i j = s.fb G bank i j := by
  obtain ⟨b, _⟩ := G
  cases b <;> simp [Dev.fb, Dev.regsOf, h]

theorem Dev.takeStep_fb : s.takeStep.fb G bank i j = s.fb G bank i j := by
  unfold Dev.takeStep
  split
  · rfl
  · exact Dev.fb_withTime s bank i j rfl

theorem Dev.takeInc_fb (h : G.apart F.TIME_INC_INC = true) : s.takeInc.fb G bank i j = s.fb G bank i j := by
  unfold Dev.takeInc
  split
  · rfl
  · rw [Dev.fb_put_apart _ _ _ _ _ _ _ h]
    exact Dev.fb_withTime s bank i j rfl

/-- The passing of time changes no register but `TIME.INC`. -/
theorem Dev.toTick_fb (h : G.apart F.TIME_INC_INC = true) : s.toTick.fb G bank i j = s.fb G bank i j := by
  rw [Dev.toTick_eq, Dev.takeInc_fb _ _ _ _ h, Dev.takeStep_fb]
  exact Dev.fb_withTime s _ _ _ rfl

theorem Dev.frcTo_fb (n : Nat) (h : G.apart F.TIME_INC_INC = true) : (s.frcTo n).fb G bank i j = s.fb G bank i j := by
  unfold Dev.frcTo
  dsimp only
  split
  · rfl
  · split
    · exact s.toTick_fb _ _ _ h
    · exact (Dev.fb_withTime s.toTick _ _ _ rfl).trans (s.toTick_fb _ _ _ h)

theorem Dev.advanceTo_fb (t : Nat) (h : G.apart F.TIME_INC_INC = true) : (s.advanceTo t).fb G bank i j = s.fb G bank i j := by
  unfold Dev.advanceTo
  dsimp only
  split
  · rfl
  · have hu : (if (s.time.pendInc.isSome || s.time.pendStep.isSome) = true then s.toTick else s).fb G bank i j = s.fb G bank i j := by
      split
      · exact s.toTick_fb _ _ _ h
      · rfl
    generalize (if (s.time.pendInc.isSome || s.time.pendStep.isSome) = true then s.toTick else s) = u at hu ⊢
    split
    · exact hu
    · exact (Dev.fb_withTime u _ _ _ rfl).trans hu

theorem Dev.frcTo_f (n : Nat) (h : G.apart F.TIME_INC_INC = true) : (s.frcTo n).f G i j = s.f G i j := s.frcTo_fb 0 i j n h
theorem Dev.advanceTo_f (t : Nat) (h : G.apart F.TIME_INC_INC = true) : (s.advanceTo t).f G i j = s.f G i j := s.advanceTo_fb 0 i j t h
@[simp] theorem Dev.frcTo_role (n : Nat) : (s.frcTo n).role = s.role := by
  obtain ⟨x, hx⟩ := s.frcTo_withTime n
  rw [hx]
@[simp] theorem Dev.advanceTo_role (t : Nat) : (s.advanceTo t).role = s.role := by
  obtain ⟨x, hx⟩ := s.advanceTo_withTime t
  rw [hx]
end

/-! ## The writes and the timers -/

variable {s : Dev}

theorem Dev.timeStepWrite_manager (h : s.role = .manager) (v : Nat) : s.timeStepWrite v =
    if s.run then s.deny .busy
    else if ¬ s.flag F.TIME_STAT_STEP_AVAIL then s.deny .invalid
    else (.ok, (({ s with time := { s.time with pendStep := some (sgn 64 v) }, glob := { s.glob with nextCyc := 0 } }).put
      F.TIME_STAT_STEP_AVAIL 0).raise F.TIME_STAT_STEPPED) := by
  rw [Dev.timeStepWrite, if_neg (not_not.2 h)]

/-- A write of the value in force changes nothing. -/
theorem Dev.setSync_same {v : Nat} (h : s.f F.TIME_CTL_SYNC = v) : s.setSync v = s := by rw [Dev.setSync, if_pos h]

theorem Dev.setSync_new {v : Nat} (h : s.f F.TIME_CTL_SYNC ≠ v) : s.setSync v =
    let u := (s.put F.TIME_CTL_SYNC v).put F.TIME_STAT_TQ (if v = 0 then 0 else 1)
    { u with time := { u.time with holdAt := if v = 2 then some u.time.frc else none } } := by rw [Dev.setSync, if_neg h]

theorem Dev.timeCtlWrite_manager (h : s.role = .manager) {v : Nat} (hv : v ≠ 3) (lim tmo : Nat) : s.timeCtlWrite v lim tmo =
    (.ok, ((s.put F.TIME_CTL_HOLD_LIM lim).put F.TIME_CTL_KICK_TMO tmo).setSync v) := by
  have hr : ((s.put F.TIME_CTL_HOLD_LIM lim).put F.TIME_CTL_KICK_TMO tmo).role = .manager := h
  rw [Dev.timeCtlWrite, if_neg fun k => hv k.2]
  dsimp only
  rw [if_pos hr]

/-- What a row that writes SYNC comes to. -/
theorem State.runs_sync {s : State} {c : Instr} {v : Nat} (hm : s.dev.role = .manager) (hb : s.dev.blockStatus .time 0 = .ok)
    (hc : (c, v) ∈ [(Instr.syncFree, 0), (.syncLocked, 1), (.syncHoldover, 2)]) :
    s.Runs c ((((s.dev.begin.put F.TIME_CTL_HOLD_LIM (s.dev.f F.TIME_CTL_HOLD_LIM)).put F.TIME_CTL_KICK_TMO
      (s.dev.f F.TIME_CTL_KICK_TMO)).setSync v).complete .ok) := by
  have hw : ∀ v, v ≠ 3 → Acted.dev (s.dev.begin.served .time 0 fun d => d.timeCtlWrite v (d.f F.TIME_CTL_HOLD_LIM) (d.f F.TIME_CTL_KICK_TMO)) =
      (((s.dev.begin.put F.TIME_CTL_HOLD_LIM (s.dev.f F.TIME_CTL_HOLD_LIM)).put F.TIME_CTL_KICK_TMO (s.dev.f F.TIME_CTL_KICK_TMO)).setSync v).complete .ok :=
    fun v hv => by
      rw [Dev.served_begin hb, Dev.timeCtlWrite_manager (s := s.dev.begin) hm hv, Dev.begin_f, Dev.begin_f]
      rfl
  simp only [List.mem_cons, Prod.mk.injEq, List.not_mem_nil, or_false] at hc
  rcases hc with ⟨rfl, rfl⟩ | ⟨rfl, rfl⟩ | ⟨rfl, rfl⟩ <;> rw [← hw _ (by decide)]
  · exact State.runs_syncFree
  · exact State.runs_syncLocked
  · exact State.runs_syncHoldover

/-- Settles O6: each write and each timer is the case of its function that the hypotheses name. -/
theorem timeStepAndSync : Obligations.TimeStepAndSync := by
  unfold Obligations.TimeStepAndSync
  intro s hm d
  have hd : d.role = .manager := hm
  refine ⟨fun v hb => ?_, fun c v hc hb => ?_, fun hsync htmo => ?_, fun hsync hlim => ?_⟩
  · have hw : Acted.dev (d.served .time 0x10 (·.timeStepWrite v)) = Acted.dev (d.timeStepWrite v) := by rw [Dev.served_begin hb]
    have hrun : s.Runs (.timeStepWrite v) (Acted.dev (d.timeStepWrite v)) := hw ▸ State.runs_timeStepWrite
    rw [Dev.timeStepWrite_manager hd, Dev.begin_run, Dev.begin_flag] at hrun
    refine ⟨fun hr => ?_, fun hr ha => ?_, fun hr ha => ?_⟩
    · rwa [if_pos hr] at hrun
    · rwa [hr, if_neg (by decide), if_pos (by simp [Dev.flag, ha])] at hrun
    · rwa [hr, if_neg (by decide), if_neg (by simp [Dev.flag, ha])] at hrun
  · have hrun := State.runs_sync hm hb hc
    have hf : ((d.put F.TIME_CTL_HOLD_LIM (s.dev.f F.TIME_CTL_HOLD_LIM)).put F.TIME_CTL_KICK_TMO (s.dev.f F.TIME_CTL_KICK_TMO)).f
        F.TIME_CTL_SYNC = s.dev.f F.TIME_CTL_SYNC := by
      simp (disch := decide) only [Dev.f_put_apart, d, Dev.begin_f]
    refine ⟨fun hv => ?_, fun hv => ?_⟩
    · rwa [Dev.setSync_same (hf.trans hv)] at hrun
    · rwa [Dev.setSync_new (hf ▸ hv)] at hrun
  · have hf : ∀ n, (d.frcTo n).f F.TIME_CTL_SYNC = 1 := fun n => by rw [Dev.frcTo_f _ _ _ _ (by decide), Dev.begin_f, hsync]
    have hk : d.kickLost = ((d.frcTo (d.time.kickAt + d.f F.TIME_CTL_KICK_TMO * 200000)).setSync 2).raise F.TIME_STAT_KICK_LOST := by
      rw [Dev.kickLost, if_pos ⟨hd, by rw [Dev.begin_f, hsync], by rwa [Dev.begin_f]⟩]
    have hrun : s.Runs .kickLost d.kickLost := State.runs_kickLost
    rw [hk, Dev.begin_f, Dev.setSync_new (by rw [hf]; decide)] at hrun
    exact hrun
  · have hk : d.holdExp = ((d.frcTo (d.time.holdAt.getD 0 + d.f F.TIME_CTL_HOLD_LIM * (12 * 10 ^ 9))).raise F.TIME_STAT_HOLD_EXP).put F.TIME_STAT_TQ 0 := by
      rw [Dev.holdExp, if_pos ⟨hd, by rw [Dev.begin_f, hsync], by rwa [Dev.begin_f]⟩]
    have hrun : s.Runs .holdExp d.holdExp := State.runs_holdExp
    rwa [hk, Dev.begin_f] at hrun

end Sys2Proof.Machine
end

section
/-! Reads whose register is read whole and has an effect (R344, R265, R285, R355, R405, R430). -/

namespace Sys2Proof.Machine

/-- A permitted read of a whole register without fields that clear on reading: what the read takes in first, the value, and what the read
removes. -/
theorem Dev.readRow_of_permitted {s : Dev} {m o n : Nat} {b : Blk} {p : RegAt} (hp : placeOf b o = some p) (hn : (if p.reg.wide then 8 else 4) = n)
    (ha : s.accessCheck m b b.num o n 1 false = none) (hs : s.readStatus p = .ok) (hrc : p.reg.rcFlds = []) :
    s.readRow m b o = ((s.readFirst p).readLast p p.reg.wide).complete .ok ((s.readFirst p).regValue p) := by
  subst hn
  simp [Dev.readRow, hp, ha, Dev.readReg, hs, Dev.unseen, Dev.clearRc, hrc, Dev.each]

/-- A register that is a plain array of fields shows its word. -/
theorem Dev.regValue_live {s : Dev} {p : RegAt} (hc : s.computed p = none) (ht : p.reg.tgWord = none) (hl : p.reg.copy = .live) :
    s.regValue p = s.word p.reg 0 p.i p.j := by
  simp [Dev.regValue, hc, Dev.regWord, ht, Dev.viewBank, hl]

section
variable {s : Dev} {m : Nat}

theorem Dev.readRow_nowLo (h : s.accessCheck m .time Blk.time.num 0x20 8 1 false = none) :
    s.readRow m .time 0x20 = s.nowCapture.complete .ok (s.nowCapture.word F.regTimeNowLo 0 0 0) :=
  Dev.readRow_of_permitted (p := ⟨F.regTimeNowLo, 0, 0, false⟩) rfl rfl h rfl rfl

theorem Dev.readRow_txtsLo (h : s.accessCheck m .eth Blk.eth.num 0x200 8 1 false = none) :
    s.readRow m .eth 0x200 = s.txtsRead.complete .ok (s.txtsRead.word F.regEthTxtsLo 0 0 0) :=
  Dev.readRow_of_permitted (p := ⟨F.regEthTxtsLo, 0, 0, false⟩) rfl rfl h rfl rfl

theorem Dev.readRow_prbCap {p : Nat} (hp : p < 4) (h : s.accessCheck m .angle Blk.angle.num (0x108 + 16 * p) 8 1 false = none) :
    s.readRow m .angle (0x108 + 16 * p) = (s.probeRead p).complete .ok (s.word F.regAnglePrbCap 0 p 0) := by
  have hplace : placeOf .angle (0x108 + 16 * p) = some ⟨F.regAnglePrbCap, p, 0, false⟩ := by
    interval_cases p <;> rfl
  exact Dev.readRow_of_permitted hplace rfl h rfl rfl

theorem Dev.readRow_rxfId {c : Nat} (hc : c < 2) (hr : s.role = .concentrator)
    (h : s.accessCheck m .can Blk.can.num (0x280 + 256 * c) 4 1 false = none) :
    s.readRow m .can (0x280 + 256 * c) = (s.rxfRead c).complete .ok ((s.rxfRead c).word F.regCanRxfId 0 c 0) := by
  have hplace : placeOf .can (0x280 + 256 * c) = some ⟨F.regCanRxfId, c, 0, false⟩ := by
    interval_cases c <;> rfl
  have hfirst : s.readFirst ⟨F.regCanRxfId, c, 0, false⟩ = s.rxfRead c := if_pos hr
  rw [Dev.readRow_of_permitted hplace rfl h rfl rfl, hfirst]
  rfl

theorem Dev.readRow_logData (h : s.accessCheck m .gate Blk.gate.num 0xF8 8 1 false = none) :
    s.readRow m .gate 0xF8 = s.logAdvance.complete .ok (s.logWord true) :=
  Dev.readRow_of_permitted (p := ⟨regLogData, 1, 0, false⟩) rfl rfl h rfl rfl

theorem Dev.readRow_denyLog {x : Deny} {l : List Deny} (hl : s.toll.log = x :: l)
    (h : s.accessCheck m .tollgate Blk.tollgate.num 0x18 8 1 false = none) :
    s.readRow m .tollgate 0x18 = (({ s with toll := { s.toll with log := l } } : Dev).put F.TOLLGATE_DENY_STAT_HELD l.length).complete .ok x.time := by
  have hv : s.regValue ⟨regDenyLog, 1, 0, false⟩ = x.time := by
    show (some (match s.toll.log with | [] => 0 | d :: _ => if 1 = 0 then d.word0 else d.time)).getD 0 = x.time
    rw [hl]
    rfl
  have hr : s.denyRead.2 = ({ s with toll := { s.toll with log := l } } : Dev).put F.TOLLGATE_DENY_STAT_HELD l.length := by
    simp only [Dev.denyRead, hl]
  rw [Dev.readRow_of_permitted (p := ⟨regDenyLog, 1, 0, false⟩) rfl rfl h rfl rfl, ← hr, ← hv]
  rfl
end

/-- Settles O7: the row of each read is a permitted read of its register. -/
theorem readsThatCapture : Obligations.ReadsThatCapture := by
  unfold Obligations.ReadsThatCapture
  intro s m d may
  refine ⟨fun h => ?_, fun x l hx h => ?_, fun p hp _ h => ?_, fun c x l hc hr hx h => ?_, fun h => ?_, fun x l hx h => ?_⟩
  · have hrun : s.Runs (.nowCapture m) (d.readRow m .time 0x20) := State.runs_nowCapture
    rwa [Dev.readRow_nowLo h] at hrun
  · have hrun : s.Runs (.txtsRead m) (d.readRow m .eth 0x200) := State.runs_txtsRead
    rw [Dev.readRow_txtsLo h, Dev.txtsRead, show d.eth.txts = x :: l from hx] at hrun
    exact hrun
  · have hrun : s.Runs (.prbCapRead m p) (d.readRow m .angle (0x108 + 16 * p)) := State.runs_prbCapRead
    rwa [Dev.readRow_prbCap hp h] at hrun
  · have hrun : s.Runs (.rxfRead m c) (d.readRow m .can (0x280 + 256 * c)) := State.runs_rxfRead
    rw [Dev.readRow_rxfId (s := d) hc hr h, Dev.rxfRead, show (d.canCtl c).fifo = x :: l from hx] at hrun
    exact hrun
  · have hrun : s.Runs (.logRead m) (d.readRow m .gate 0xF8) := State.runs_logRead
    rwa [Dev.readRow_logData h] at hrun
  · have hrun : s.Runs (.denyLogRead m) (d.readRow m .tollgate 0x18) := State.runs_denyLogRead
    rwa [Dev.readRow_denyLog (s := d) hx h] at hrun

end Sys2Proof.Machine
end


section
/-! PROOFS. The arithmetic of Loom: rounding, saturation, the integer square root, and O12. -/

namespace Sys2Proof.Machine

/-! ### Rounding -/

theorem roundDiv_floor (x : Int) {d : Nat} (hd : 0 < d) :
    roundDiv false x d * d ≤ x ∧ x < (roundDiv false x d + 1) * d := by
  have hpos : (0 : Int) < d := by exact_mod_cast hd
  have hdiv : roundDiv false x d = x / d := by simp [roundDiv]
  rw [hdiv]
  exact ⟨Int.ediv_mul_le x hpos.ne', Int.lt_ediv_add_one_mul_self x hpos⟩

theorem roundDiv_neg (x : Int) (d : Nat) : roundDiv true (-x) d = -roundDiv true x d := by
  rcases lt_trichotomy x 0 with h | rfl | h
  · simp [roundDiv, h.le, not_le.2 h]
  · rcases d.eq_zero_or_pos with rfl | hd
    · simp [roundDiv]
    · have : (d : Int) / (2 * d) = 0 := Int.ediv_eq_zero_of_lt (by positivity) (by omega)
      simp [roundDiv, this]
  · simp [roundDiv, h.le, not_le.2 h]

/-- To nearest: no further from the exact quotient than half a unit. -/
theorem roundDiv_nearest (x : Int) {d : Nat} (hd : 0 < d) : 2 * (roundDiv true x d * d - x).natAbs ≤ d := by
  have key : ∀ y : Int, 0 ≤ y → 2 * (roundDiv true y d * d - y).natAbs ≤ d := by
    intro y hy
    have hq : roundDiv true y d = (2 * y + d) / (2 * d) := by simp [roundDiv, hy]
    have hlo := Int.ediv_mul_le (2 * y + d) (show (2 * d : Int) ≠ 0 by omega)
    have hhi := Int.lt_ediv_add_one_mul_self (2 * y + d) (show (0 : Int) < 2 * d by omega)
    rw [← hq] at hlo hhi
    generalize roundDiv true y d = q at hlo hhi ⊢
    have h1 : q * (2 * d) = 2 * (q * d) := by ring
    have h2 : (q + 1) * (2 * d : Int) = 2 * (q * d) + 2 * d := by ring
    omega
  rcases le_total 0 x with h | h
  · exact key x h
  · have hk := key (-x) (by omega)
    rw [roundDiv_neg, neg_mul] at hk
    omega

@[simp] theorem roundDiv_zero (rnd : Bool) {d : Nat} (hd : 0 < d) : roundDiv rnd 0 d = 0 := by
  have : (d : Int) / (2 * d) = 0 := Int.ediv_eq_zero_of_lt (by positivity) (by omega)
  cases rnd <;> simp [roundDiv, this]

/-- Either rounding is within one unit of the exact quotient, for a divisor of either sign. -/
theorem roundQuot_error (rnd : Bool) (x : Int) {d : Int} (hd : d ≠ 0) :
    (roundQuot rnd x d * d - x).natAbs < d.natAbs ∧ (rnd = true → 2 * (roundQuot rnd x d * d - x).natAbs ≤ d.natAbs) := by
  have key : ∀ (y : Int) {e : Nat}, 0 < e →
      (roundDiv rnd y e * e - y).natAbs < e ∧ (rnd = true → 2 * (roundDiv rnd y e * e - y).natAbs ≤ e) := by
    intro y e he
    cases rnd with
    | true => have h := roundDiv_nearest y he; exact ⟨by omega, fun _ => h⟩
    | false =>
      obtain ⟨h1, h2⟩ := roundDiv_floor y he
      rw [add_mul, one_mul] at h2
      exact ⟨by omega, by simp⟩
  rcases lt_or_gt_of_ne hd with h | h
  · have hk := key (-x) (e := (-d).toNat) (by omega)
    have hq : roundQuot rnd x d = roundDiv rnd (-x) (-d).toNat := by simp [roundQuot, not_lt.2 h.le]
    have he : ((-d).toNat : Int) = -d := by omega
    rw [he, ← hq] at hk
    have hm : roundQuot rnd x d * -d - -x = -(roundQuot rnd x d * d - x) := by ring
    rw [hm, Int.natAbs_neg] at hk
    exact ⟨by omega, fun hr => by have := hk.2 hr; omega⟩
  · have hk := key x (e := d.toNat) (by omega)
    have hq : roundQuot rnd x d = roundDiv rnd x d.toNat := by simp [roundQuot, h]
    have he : (d.toNat : Int) = d := by omega
    rw [he, ← hq] at hk
    exact ⟨by omega, fun hr => by have := hk.2 hr; omega⟩

/-! ### Signs, saturation and the square root -/

theorem sgn32_eq (v : Nat) : (sgn 32 v = ((v % 2 ^ 32 : Nat) : Int) ∧ v % 2 ^ 32 < 2 ^ 31) ∨
    (sgn 32 v = ((v % 2 ^ 32 : Nat) : Int) - 2 ^ 32 ∧ 2 ^ 31 ≤ v % 2 ^ 32) := by
  rcases lt_or_ge (v % 2 ^ 32) (2 ^ (32 - 1)) with h | h
  · exact .inl ⟨if_pos h, h⟩
  · exact .inr ⟨if_neg (not_lt.2 h), h⟩

theorem sgn_wrap_sub_emod (x : Int) : (sgn 32 (wrap 32 x) - x) % 2 ^ 32 = 0 := by
  have hw : wrap 32 x = (x % 2 ^ 32).toNat := rfl
  rcases sgn32_eq (wrap 32 x) with ⟨h, -⟩ | ⟨h, -⟩ <;> rw [h, hw] <;> omega

theorem outside32_sgn (v : Nat) : outside32 (sgn 32 v) = false := by
  have hlt := Nat.mod_lt v (show 2 ^ 32 > 0 by norm_num)
  rcases sgn32_eq v with ⟨h, hv⟩ | ⟨h, hv⟩ <;> rw [h] <;> simp [outside32] <;> omega

theorem satAcc_range (x : Int) : -(2 ^ 71) ≤ satAcc x ∧ satAcc x < 2 ^ 71 := by
  simp only [satAcc, satS]
  omega

theorem satAcc_of_range {x : Int} (h1 : -(2 ^ 71) ≤ x) (h2 : x < 2 ^ 71) : satAcc x = x := by
  simp only [satAcc, satS]
  omega

theorem clampI_range {lo hi : Int} (h : lo ≤ hi) (x : Int) : lo ≤ clampI lo hi x ∧ clampI lo hi x ≤ hi := by
  simp only [clampI]
  omega

/-- The bits still to be found bring the root found so far to the root of `v`. -/
theorem isqrtFrom_spec (n : Nat) {v r : Nat} (hlo : r * r ≤ v) (hhi : v < (r + 2 ^ n) * (r + 2 ^ n)) :
    isqrtFrom n v r * isqrtFrom n v r ≤ v ∧ v < (isqrtFrom n v r + 1) * (isqrtFrom n v r + 1) := by
  induction n generalizing r with
  | zero => exact ⟨hlo, hhi⟩
  | succ n ih =>
    rw [isqrtFrom]
    split
    case isTrue h => exact ih h (by rw [pow_succ] at hhi; ring_nf at hhi ⊢; exact hhi)
    case isFalse h => exact ih hlo (by omega)

theorem isqrt_spec {n v : Nat} (h : v < 2 ^ n * 2 ^ n) : isqrt n v * isqrt n v ≤ v ∧ v < (isqrt n v + 1) * (isqrt n v + 1) :=
  isqrtFrom_spec n (by simp) (by simpa using h)

/-! ### The instructions -/

theorem Isa.accum_spec (c : LCtx) (x : Int) : ∃ y, (Isa.accum c x).acc = some y ∧ -(2 ^ 71) ≤ y ∧ y < 2 ^ 71 ∧
    (-(2 ^ 71) ≤ x → x < 2 ^ 71 → y = x ∧ (Isa.accum c x).sat = false) ∧
    (Isa.accum c x).wr = [(0, shr c.rnd y (16 + c.shf))] := by
  obtain ⟨h1, h2⟩ := satAcc_range x
  refine ⟨satAcc x, rfl, h1, h2, fun g1 g2 => ?_, rfl⟩
  have := satAcc_of_range g1 g2
  exact ⟨this, by simp [Isa.accum, this]⟩

theorem LCtx.index_spec (c : LCtx) : c.index.1 < 2 ^ c.shf ∧ (c.index.2 = false ↔ 0 ≤ c.a 0 ∧ c.a 0 < 2 ^ c.shf) ∧
    (c.index.2 = false → (c.index.1 : Int) = c.a 0) := by
  have hcast : ((2 ^ c.shf : Nat) : Int) = 2 ^ c.shf := by push_cast; rfl
  have hpos : 0 < 2 ^ c.shf := by positivity
  simp only [LCtx.index, ← hcast]
  generalize 2 ^ c.shf = n at hpos ⊢
  split
  · simp; omega
  · split <;> simp <;> omega

theorem Isa.lim_spec (c : LCtx) : ∃ y, (Isa.lim c).wr = [(0, y)] ∧
    (c.b 0 ≤ c.b 1 → c.b 0 ≤ y ∧ y ≤ c.b 1 ∧ (Isa.lim c).dom = false ∧ ((Isa.lim c).lim = false ↔ y = c.a 0)) ∧
    (c.b 1 < c.b 0 → y = c.b 0 ∧ (Isa.lim c).dom = true) := by
  simp only [Isa.lim]
  split
  case isTrue h => exact ⟨_, rfl, by omega, by simp⟩
  case isFalse h =>
    split
    case isTrue => exact ⟨_, rfl, fun _ => ⟨by omega, by omega, rfl, by simp; omega⟩, by omega⟩
    case isFalse =>
      split
      · exact ⟨_, rfl, fun _ => ⟨by omega, by omega, rfl, by simp; omega⟩, by omega⟩
      · exact ⟨_, rfl, fun _ => ⟨by omega, by omega, rfl, by simp [Isa.word]⟩, by omega⟩

theorem Isa.piCore_of_gt {u i e step hi lo : Int} (h : hi < lo) : Isa.piCore u i e step hi lo = (lo, i, true, true) := by
  simp [Isa.piCore, h]

/-- With its bounds in order PI keeps them, and holds its integrator while the error drives it further out. -/
theorem Isa.piCore_range {u i e step hi lo : Int} (h : lo ≤ hi) : let r := Isa.piCore u i e step hi lo
    lo ≤ r.1 ∧ r.1 ≤ hi ∧ (r.2.1 = i ∨ (lo ≤ r.2.1 ∧ r.2.1 ≤ hi)) ∧ (hi < u → 0 < e → r.2.1 = i ∧ r.1 = hi) ∧
    (u < lo → e < 0 → r.2.1 = i ∧ r.1 = lo) := by
  have hc := clampI_range h (i + step)
  simp only [Isa.piCore, if_neg (not_lt.2 h)]
  generalize clampI lo hi (i + step) = k at hc
  refine ⟨by split <;> omega, by split <;> omega, ?_, fun h1 h2 => ⟨by simp [h1, h2], by simp [h1]⟩,
    fun h1 h2 => ⟨by simp [h1, h2], by split <;> omega⟩⟩
  split
  · exact .inl rfl
  · exact .inr hc

theorem Isa.ramp_spec (c : LCtx) (hup : 0 ≤ c.b 0) (hdn : 0 ≤ c.b 1) : ∃ y, (Isa.ramp c).wr = [(0, y)] ∧ y ≤ c.d 0 + c.b 0 ∧
    c.d 0 - c.b 1 ≤ y ∧ (c.d 0 ≤ c.a 0 → c.d 0 ≤ y ∧ y ≤ c.a 0) ∧ (c.a 0 ≤ c.d 0 → c.a 0 ≤ y ∧ y ≤ c.d 0) ∧
    ((Isa.ramp c).lim = false ↔ y = c.a 0) := by
  simp only [Isa.ramp, if_neg (show ¬ (c.b 0 < 0 ∨ c.b 1 < 0) by omega)]
  refine ⟨_, rfl, ?_, ?_, ?_, ?_, by simp⟩ <;> split <;> (try split) <;> (try split) <;> omega

theorem Isa.dead_spec (c : LCtx) (h : c.b 0 ≤ c.b 1) : (Isa.dead c).wr = [(0, c.a 0 - clampI (c.b 0) (c.b 1) (c.a 0))] := by
  simp only [Isa.dead, if_neg (not_lt.2 h), clampI]
  split
  · simp [Isa.word]; omega
  · split <;> simp [Isa.word] <;> omega

theorem Isa.sqrt_spec (c : LCtx) (h0 : 0 ≤ c.a 0) (h1 : c.a 0 < 2 ^ 31) (hs : c.shf < 16) (hr : c.rnd = false) :
    ∃ y : Nat, (Isa.sqrt c).wr = [(0, (y : Int))] ∧ (y : Int) * y ≤ c.a 0 * 2 ^ (2 * c.shf) ∧
      c.a 0 * 2 ^ (2 * c.shf) < ((y : Int) + 1) * (y + 1) := by
  obtain ⟨a, ha⟩ := Int.eq_ofNat_of_zero_le h0
  have hpow : 2 ^ (2 * c.shf) ≤ 2 ^ 30 := Nat.pow_le_pow_right (by omega) (by omega)
  have hbound : a * 2 ^ (2 * c.shf) < 2 ^ 32 * 2 ^ 32 := by
    calc a * 2 ^ (2 * c.shf) ≤ 2 ^ 31 * 2 ^ 30 := Nat.mul_le_mul (by omega) hpow
      _ < 2 ^ 32 * 2 ^ 32 := by norm_num
  obtain ⟨hlo, hhi⟩ := isqrt_spec hbound
  refine ⟨isqrt 32 (a * 2 ^ (2 * c.shf)), ?_, ?_, ?_⟩
  · simp [Isa.sqrt, ha, hr, rootRound, Isa.word, show ¬ ((a : Int) < 0) by omega]
  · rw [ha]; exact_mod_cast hlo
  · rw [ha]; exact_mod_cast hhi

/-- LUT1 with a legal header, as a function of the distance from its first point. -/
theorem Isa.lut1_spec (c : LCtx) {n st : Nat} (hn : bits (wrap 32 (c.b 0)) 0 13 = n) (hst : bits (wrap 32 (c.b 0)) 27 5 = st)
    (h2 : 2 ≤ n) (hz : bits (wrap 32 (c.b 0)) 13 14 = 0) (hroom : 2 + n ≤ c.room) :
    (∀ k : Nat, k < n → c.a 0 - c.b 1 = (k : Int) * 2 ^ st → (Isa.lut1 c).wr = [(0, c.b (2 + k))]) ∧
    (c.a 0 < c.b 1 → (Isa.lut1 c).wr = [(0, c.b 2)] ∧ (Isa.lut1 c).lim = true) ∧
    (((n : Int) - 1) * 2 ^ st < c.a 0 - c.b 1 → (Isa.lut1 c).wr = [(0, c.b (1 + n))] ∧ (Isa.lut1 c).lim = true) := by
  have hpow : (0 : Int) < 2 ^ st := by positivity
  simp only [Isa.lut1, hn, hst, hz, if_neg (show ¬ (n < 2 ∨ (0 : Nat) ≠ 0 ∨ c.room < 2 + n) by omega)]
  rw [show c.a 0 < c.b 1 ↔ c.a 0 - c.b 1 < 0 by omega]
  generalize c.a 0 - c.b 1 = δ
  refine ⟨fun k hk hδ => ?_, fun h => by simp [h], fun h => ?_⟩
  · have h0 : 0 ≤ δ := by rw [hδ]; positivity
    rw [if_neg (not_lt.2 h0)]
    rcases eq_or_ne (k : Int) ((n : Int) - 1) with hkn | hkn
    · have : 1 + n = 2 + k := by omega
      simp [hδ, hkn, this, Isa.word]
    · have hlt : (k : Int) * 2 ^ st < ((n : Int) - 1) * 2 ^ st := Int.mul_lt_mul_of_pos_right (by omega) hpow
      simp [hδ, not_le.2 hk, hlt.ne, hpow.ne', Isa.word, shr]
  · have h0 : 0 ≤ ((n : Int) - 1) * 2 ^ st := Int.mul_nonneg (by omega) hpow.le
    simp [h, show ¬ δ < 0 by omega]

/-- Settles O12: each clause by the lemma about its operation. -/
theorem loomArithmetic : Obligations.LoomArithmetic := by
  unfold Obligations.LoomArithmetic
  intro c
  refine ⟨fun x n => ?_, fun x n => ?_, Isa.accum_spec c, c.index_spec, Isa.lim_spec c, fun y => ⟨?_, ?_⟩, ⟨?_, ?_, ?_⟩, ?_,
    Isa.ramp_spec c, Isa.dead_spec c, Isa.sqrt_spec c, fun h => ?_, fun h => ?_, fun h => ?_, ?_⟩
  · exact_mod_cast roundDiv_floor x (Nat.two_pow_pos n)
  · exact ⟨by exact_mod_cast roundDiv_nearest x (Nat.two_pow_pos n), roundDiv_neg x (2 ^ n)⟩
  · intro h
    obtain rfl : sgn 32 (wrap 32 (c.a 0 + c.b 0)) = y := by simpa [Isa.addw, Isa.word] using h
    exact ⟨sgn_wrap_sub_emod _, outside32_sgn _⟩
  · intro h
    obtain rfl : sgn 32 (wrap 32 (c.a 0 - c.b 0)) = y := by simpa [Isa.subw, Isa.word] using h
    exact ⟨sgn_wrap_sub_emod _, outside32_sgn _⟩
  · simp only [Isa.cmplt, Isa.cmpge, Isa.cmp, Option.map_some, ← not_le, decide_not]
  · simp only [Isa.cmpgt, Isa.cmple, Isa.cmp, Option.map_some, ← not_le, decide_not]
  · simp [Isa.cmpeq, Isa.cmpne, Isa.cmp]
  · exact ⟨_, _, rfl, Isa.piCore_range, fun h => by simp [Isa.pi, Isa.piCore_of_gt h]⟩
  · simp [Isa.sqrt, h]
  · refine ⟨roundQuot c.rnd (c.a 0 * 2 ^ (16 + c.shf)) (c.b 0), by simp [Isa.div, h, Isa.word], roundQuot_error _ _ h⟩
  · simp [Isa.div, h]
  · exact fun h2 hz hroom => Isa.lut1_spec c rfl rfl h2 hz hroom

end Sys2Proof.Machine
end


section
/-! Bit fields that are written: what is read of them, and of the bits beside them. -/

namespace Sys2Proof.Machine

/-- A write of a bit field leaves what is below and above it. -/
theorem putBits_eq (v lo w x : Nat) :
    putBits v lo w x = (v / 2 ^ (lo + w) * 2 ^ w + x % 2 ^ w) * 2 ^ lo + v % 2 ^ lo := by
  have hv : v = (v / 2 ^ (lo + w) * 2 ^ w + bits v lo w) * 2 ^ lo + v % 2 ^ lo := by
    have h := Nat.div_add_mod' v (2 ^ lo)
    have hq := Nat.div_add_mod' (v / 2 ^ lo) (2 ^ w)
    rw [Nat.div_div_eq_div_mul, ← pow_add] at hq
    rw [bits, hq, h]
  unfold putBits
  rw [Nat.add_mul] at hv ⊢
  omega

theorem putBits_mod (v lo w x : Nat) : putBits v lo w x % 2 ^ lo = v % 2 ^ lo := by
  rw [putBits_eq, Nat.mul_add_mod_self_right, Nat.mod_mod]

theorem putBits_div (v lo w x : Nat) : putBits v lo w x / 2 ^ lo = v / 2 ^ (lo + w) * 2 ^ w + x % 2 ^ w := by
  rw [putBits_eq, Nat.mul_comm _ (2 ^ lo), Nat.mul_add_div (Nat.two_pow_pos lo), Nat.div_eq_of_lt (Nat.mod_lt _ (Nat.two_pow_pos lo)),
    Nat.add_zero]

theorem bits_putBits_same (v lo w x : Nat) : bits (putBits v lo w x) lo w = x % 2 ^ w := by
  rw [bits, putBits_div, Nat.mul_comm, Nat.mul_add_mod, Nat.mod_mod]

theorem bits_putBits_below (v lo w x : Nat) {i k : Nat} (h : i + k ≤ lo) : bits (putBits v lo w x) i k = bits v i k := by
  have key : ∀ y : Nat, bits y i k = bits (y % 2 ^ lo) i k := by
    intro y
    obtain ⟨n, rfl⟩ : ∃ n, lo = i + k + n := ⟨lo - (i + k), by omega⟩
    unfold bits
    rw [show 2 ^ (i + k + n) = 2 ^ i * 2 ^ (k + n) by rw [← pow_add]; congr 1; omega, Nat.mod_mul_right_div_self,
      Nat.mod_mod_of_dvd _ (pow_dvd_pow 2 (by omega))]
  rw [key, putBits_mod, ← key]

theorem bits_putBits_above (v lo w x : Nat) {i k : Nat} (h : lo + w ≤ i) : bits (putBits v lo w x) i k = bits v i k := by
  have key : ∀ y : Nat, bits y i k = bits (y / 2 ^ (lo + w)) (i - (lo + w)) k := by
    intro y
    unfold bits
    rw [Nat.div_div_eq_div_mul, ← pow_add, show lo + w + (i - (lo + w)) = i by omega]
  have hd : putBits v lo w x / 2 ^ (lo + w) = v / 2 ^ (lo + w) := by
    rw [pow_add, ← Nat.div_div_eq_div_mul, putBits_div, Nat.mul_comm, Nat.mul_add_div (Nat.two_pow_pos w),
      Nat.div_eq_of_lt (Nat.mod_lt _ (Nat.two_pow_pos w)), Nat.add_zero, pow_add]
  rw [key, hd, ← key]

@[simp] theorem bitOf_putBit_same (v i : Nat) (b : Bool) : bitOf (putBit v i b) i = b := by
  rw [bitOf_eq_iff, putBit, bits_putBits_same]
  exact Nat.mod_eq_of_lt (b2n_lt b)

theorem bitOf_putBit_other (v : Nat) {i j : Nat} (b : Bool) (h : j ≠ i) : bitOf (putBit v i b) j = bitOf v j := by
  have hb : bits (putBit v i b) j 1 = bits v j 1 := by
    rcases lt_or_gt_of_ne h with h | h
    · exact bits_putBits_below _ _ _ _ (by omega)
    · exact bits_putBits_above _ _ _ _ (by omega)
  rw [bitOf_eq_bits, bitOf_eq_bits, hb]

theorem ne_zero_of_bitOf {v i : Nat} (h : bitOf v i = true) : v ≠ 0 := by
  rintro rfl
  simp [bitOf] at h

end Sys2Proof.Machine
end

section
/-! Spindle's records: what a write of a cell's or an arm's record changes, and what other operations leave of both. -/

namespace Sys2Proof.Machine

variable (s : Dev) (F G : Fld) (bank v n i j g h a : Nat) (c : SpCell) (x : SpArm)

/-! ### A cell's record -/

@[simp] theorem Dev.spCell_setSpCell_same : (s.setSpCell g c).spCell g = c := Tab.get_set_same ..

theorem Dev.spCell_setSpCell_other (hne : h ≠ g) : (s.setSpCell g c).spCell h = s.spCell h := Tab.get_set_other _ _ _ _ hne

@[simp] theorem Dev.spArm_setSpCell : (s.setSpCell g c).spArm a = s.spArm a := rfl
@[simp] theorem Dev.fb_setSpCell : (s.setSpCell g c).fb G bank i j = s.fb G bank i j := by obtain ⟨b, _⟩ := G; cases b <;> rfl
@[simp] theorem Dev.f_setSpCell : (s.setSpCell g c).f G i j = s.f G i j := Dev.fb_setSpCell ..
@[simp] theorem Dev.flag_setSpCell : (s.setSpCell g c).flag G i j = s.flag G i j := by simp [Dev.flag]
@[simp] theorem Dev.fs_setSpCell : (s.setSpCell g c).fs bank G i j = s.fs bank G i j := Dev.fb_setSpCell ..

theorem Dev.Keeps.setSpCell {own : List Blk} {outs : List Out} {s u : Dev} (hk : s.Keeps own outs u) (hb : .spindle ∈ own) (g : Nat) (c : SpCell) :
    s.Keeps own outs (u.setSpCell g c) := hk.setSpin hb _

/-! ### An arm's record -/

@[simp] theorem Dev.spArm_setSpArm_same : (s.setSpArm a x).spArm a = x := Tab.get_set_same ..

theorem Dev.spArm_setSpArm_other {b : Nat} (hne : b ≠ a) : (s.setSpArm a x).spArm b = s.spArm b := Tab.get_set_other _ _ _ _ hne

@[simp] theorem Dev.spCell_setSpArm : (s.setSpArm a x).spCell g = s.spCell g := rfl
@[simp] theorem Dev.fb_setSpArm : (s.setSpArm a x).fb G bank i j = s.fb G bank i j := by obtain ⟨b, _⟩ := G; cases b <;> rfl
@[simp] theorem Dev.f_setSpArm : (s.setSpArm a x).f G i j = s.f G i j := Dev.fb_setSpArm ..

theorem Dev.Keeps.setSpArm {own : List Blk} {outs : List Out} {s u : Dev} (hk : s.Keeps own outs u) (hb : .spindle ∈ own) (a : Nat) (x : SpArm) :
    s.Keeps own outs (u.setSpArm a x) := hk.setSpin hb _

/-! ### The registers and the rest -/

@[simp] theorem Dev.put_spinCell : (s.put F v i j).spin.cell = s.spin.cell := by obtain ⟨b, _⟩ := F; cases b <;> rfl
@[simp] theorem Dev.put_spinArm : (s.put F v i j).spin.arm = s.spin.arm := by obtain ⟨b, _⟩ := F; cases b <;> rfl
@[simp] theorem Dev.spCell_put : (s.put F v i j).spCell g = s.spCell g := by simp [Dev.spCell]
@[simp] theorem Dev.spArm_put : (s.put F v i j).spArm a = s.spArm a := by simp [Dev.spArm]
@[simp] theorem Dev.spCell_befall (k : Nat → Nat) : (s.befall F k i j).spCell g = s.spCell g := Dev.spCell_put ..
@[simp] theorem Dev.spArm_befall (k : Nat → Nat) : (s.befall F k i j).spArm a = s.spArm a := Dev.spArm_put ..
@[simp] theorem Dev.spCell_raise : (s.raise F i j).spCell g = s.spCell g := Dev.spCell_put ..
@[simp] theorem Dev.spArm_raise : (s.raise F i j).spArm a = s.spArm a := Dev.spArm_put ..
@[simp] theorem Dev.spCell_inc : (s.inc F n i j).spCell g = s.spCell g := Dev.spCell_put ..
@[simp] theorem Dev.spArm_inc : (s.inc F n i j).spArm a = s.spArm a := Dev.spArm_put ..
@[simp] theorem Dev.spCell_top : (s.top F n i j).spCell g = s.spCell g := Dev.spCell_put ..
@[simp] theorem Dev.spArm_top : (s.top F n i j).spArm a = s.spArm a := Dev.spArm_put ..
@[simp] theorem Dev.spCell_begin : s.begin.spCell g = s.spCell g := rfl
@[simp] theorem Dev.spArm_begin : s.begin.spArm a = s.spArm a := rfl

@[simp] theorem Dev.spCell_advanceTo (t : Nat) : (s.advanceTo t).spCell g = s.spCell g := by
  obtain ⟨y, hy⟩ := s.advanceTo_withTime t; rw [hy]; rfl
@[simp] theorem Dev.spArm_advanceTo (t : Nat) : (s.advanceTo t).spArm a = s.spArm a := by
  obtain ⟨y, hy⟩ := s.advanceTo_withTime t; rw [hy]; rfl

theorem Dev.spCell_iff (b : Bool) (k : Dev → Dev) (hk : b = true → (k s).spCell g = s.spCell g) : (s.iff b k).spCell g = s.spCell g :=
  Dev.iff_keeps s (·.spCell g) b k hk

theorem Dev.fb_iff (b : Bool) (k : Dev → Dev) (hk : b = true → (k s).fb G bank i j = s.fb G bank i j) : (s.iff b k).fb G bank i j = s.fb G bank i j :=
  Dev.iff_keeps s (·.fb G bank i j) b k hk

theorem Dev.f_iff (b : Bool) (k : Dev → Dev) (hk : b = true → (k s).f G i j = s.f G i j) : (s.iff b k).f G i j = s.f G i j :=
  Dev.iff_keeps s (·.f G i j) b k hk

/-! ### The cells of a list -/

/-- Each cell of a list takes `φ`, which does no more when it is repeated; `P` is what the rest of the device keeps. -/
theorem Dev.spCell_each {k : Dev → Nat → Dev} {φ : SpCell → SpCell} {P : Dev → Prop} (hφ : ∀ c, φ (φ c) = φ c)
    (hk : ∀ s h, P s → P (k s h) ∧ (k s h).spCell h = φ (s.spCell h) ∧ ∀ i, i ≠ h → (k s h).spCell i = s.spCell i) (l : List Nat) (hs : P s) :
    (s.each l k).spCell g = if g ∈ l then φ (s.spCell g) else s.spCell g := by
  induction l generalizing s with
  | nil => rfl
  | cons h l ih =>
    obtain ⟨hP, hsame, hother⟩ := hk s h hs
    have hih : ((k s h).each l k).spCell g = _ := ih (k s h) hP
    rw [show s.each (h :: l) k = (k s h).each l k from rfl, hih]
    rcases eq_or_ne g h with rfl | hne
    · by_cases hg : g ∈ l <;> simp [hg, hsame, hφ]
    · simp [hne, hother g hne]

end Sys2Proof.Machine
end


section
/-! PROOFS. The capacitance windows of cells, and the events of a cell's balancing record (O15). -/

namespace Sys2Proof.Machine

variable (s : Dev) (set a g b : Nat) (c : SpCell)

/-! ### A window that is judged -/

/-- What a judgement makes of a record, under the settings `capMin`, `gain`, `lim` and `excl`. -/
def SpCell.judged (capMin gain lim excl : Nat) (c : SpCell) : SpCell :=
  match c.capDue with
  | none => c
  | some (r0, A, r1) =>
    match capRatio capMin r0 r1 A with
    | some ratio =>
      let rc := satU 32 ((c.rc : Int) + roundDiv true ((ratio - (c.rc : Int)) * (gain : Int)) (2 ^ 16))
      let low := decide (lim ≤ rc / 2 ^ 16)
      { c with capDue := none, rc := rc, clow := low, cause := putBit c.cause 5 (low && (decide (excl = 1) || bitOf c.cause 5)) }
    | none => { c with capDue := none }

/-- The settings of a set that a judgement reads. -/
def Dev.capSettings (s : Dev) (set : Nat) : Nat × Nat × Nat × Nat :=
  (s.fs set F.SPINDLE_CAP_CFG_CAP_MIN, s.fs set F.SPINDLE_CAP_CFG_CAP_GAIN, s.fs set F.SPINDLE_CAP_LIM_RC_LIM, s.fs set F.SPINDLE_CAP_CFG_CAP_EXCL)

def Dev.judgedBy (s : Dev) (set : Nat) (c : SpCell) : SpCell :=
  let p := s.capSettings set
  c.judged p.1 p.2.1 p.2.2.1 p.2.2.2

theorem Dev.capLevel_eq : s.capLevel set a c =
    let low := decide (s.fs set F.SPINDLE_CAP_LIM_RC_LIM ≤ c.rc / 2 ^ 16)
    (s.iff (low && !c.clow) fun s => s.raise F.SPINDLE_ARM_STAT_CAP_SEEN a,
      { c with clow := low, cause := putBit c.cause 5 (low && (decide (s.fs set F.SPINDLE_CAP_CFG_CAP_EXCL = 1) || bitOf c.cause 5)) }) := by
  have h : ∀ b, (s.iff b fun s => s.raise F.SPINDLE_ARM_STAT_CAP_SEEN a).fs set F.SPINDLE_CAP_CFG_CAP_EXCL = s.fs set F.SPINDLE_CAP_CFG_CAP_EXCL :=
    fun b => Dev.fb_iff _ _ _ _ _ _ _ fun _ => Dev.fb_raise_apart _ _ _ _ _ _ (by decide)
  simp only [Dev.capLevel, h]

/-- What a judgement can do: nothing, or the record judged with a window that is not taken counted, or with CAP_SEEN. -/
theorem Dev.capJudge_cases : (s.capJudge set a g = s ∧ s.judgedBy set (s.spCell g) = s.spCell g) ∨
    s.capJudge set a g = (s.inc F.SPINDLE_ARM_AGE_CAP_SKIP 1 a).setSpCell g (s.judgedBy set (s.spCell g)) ∨
    ∃ b, s.capJudge set a g = (s.iff b fun s => s.raise F.SPINDLE_ARM_STAT_CAP_SEEN a).setSpCell g (s.judgedBy set (s.spCell g)) := by
  simp only [Dev.judgedBy, Dev.capSettings, Dev.capJudge, SpCell.judged]
  rcases (s.spCell g).capDue with _ | ⟨r0, A, r1⟩
  · exact .inl ⟨rfl, rfl⟩
  · dsimp only
    rcases capRatio (s.fs set F.SPINDLE_CAP_CFG_CAP_MIN) r0 r1 A with _ | ratio
    · exact .inr (.inl rfl)
    · simp only [Dev.capLevel_eq]
      exact .inr (.inr ⟨_, rfl⟩)

theorem Dev.capJudge_none (h : (s.spCell g).capDue = none) : s.capJudge set a g = s := by simp only [Dev.capJudge, h]

theorem Dev.Keeps.capJudge {own : List Blk} {outs : List Out} {s u : Dev} (hk : s.Keeps own outs u) (hb : .spindle ∈ own) :
    s.Keeps own outs (u.capJudge set a g) := by
  obtain ⟨h, -⟩ | h | ⟨b, h⟩ := u.capJudge_cases set a g <;> rw [h]
  · exact hk
  · exact (hk.inc (G := F.SPINDLE_ARM_AGE_CAP_SKIP) hb 1 a).setSpCell hb _ _
  · exact (hk.iff _ _ fun _ => hk.raise (G := F.SPINDLE_ARM_STAT_CAP_SEEN) hb a).setSpCell hb _ _

theorem Dev.spCell_capJudge_same : (s.capJudge set a g).spCell g = s.judgedBy set (s.spCell g) := by
  obtain ⟨h, hc⟩ | h | ⟨b, h⟩ := s.capJudge_cases set a g <;> rw [h]
  · exact hc.symm
  · exact Dev.spCell_setSpCell_same ..
  · exact Dev.spCell_setSpCell_same ..

theorem Dev.spCell_capJudge_other {h : Nat} (hne : h ≠ g) : (s.capJudge set a g).spCell h = s.spCell h := by
  obtain ⟨h, -⟩ | h | ⟨b, h⟩ := s.capJudge_cases set a g <;> rw [h]
  · exact (Dev.spCell_setSpCell_other _ _ _ _ hne).trans (Dev.spCell_inc ..)
  · exact (Dev.spCell_setSpCell_other _ _ _ _ hne).trans (Dev.spCell_iff _ _ _ _ fun _ => Dev.spCell_raise ..)

/-! ### The obligation

The skipped windows of an arm are counted in `ARM_AGE[a]`, which is addressed as if there were an arm 1984: with set 1 active its counter
stands where `CAP_MIN` of that set does. `CELL_MAP` has four bits for the arm, but the state of the statement may hold any number there. -/

/-- Set 1 is active and maps two cells to arm 1984. The window of the first is not taken, as its edges have no report; that of the
second has reached CAP_MIN exactly. -/
def strayArm : State :=
  let dev := State.reset.dev
  let cell := fun due => ({ SpCell.fresh with rc := 0, capDue := some due } : SpCell)
  { State.reset with dev := { dev with
      glob := { dev.glob with regs := [(F.GLOBAL_CFG_STAT_ACTIVE.key 0 0 0, 1)] }
      lanes := { dev.lanes with trunk := [(F.TRUNK_CELL_MAP_ARM.key 1 0 0, 1984), (F.TRUNK_CELL_MAP_VALID.key 1 0 0, 1),
        (F.TRUNK_CELL_MAP_ARM.key 1 1 0, 1984), (F.TRUNK_CELL_MAP_VALID.key 1 1 0, 1)] }
      spin := { dev.spin with regs := [(F.SPINDLE_CAP_CFG_CAP_MIN.key 1 0 0, 64)], cell := [(0, cell (none, 0, none)), (1, cell (some 0, 2 ^ 22, some 64))] } } }

theorem spCell_strayArm : ((strayArm.dev.begin.spCapWindow 1984).spCell 1).rc = 0 := by decide

/-- Refutes O15: a capacitance window is judged with a CAP_MIN that counting the skipped window of another cell has changed, in a state
whose map names arm 1984. -/
theorem not_cellStateEvents : ¬ Obligations.CellStateEvents := by
  unfold Obligations.CellStateEvents
  intro h
  obtain ⟨-, -, -, -, -, -, -, -, -, -, -, -, -, -, hcap⟩ := h strayArm 0
  obtain ⟨u, hrun, -, -, hcell⟩ := hcap 1984
  have hrc := (hcell 1 (by decide) (some 0) (2 ^ 22) (some 64) (by decide)).2.1 (2 ^ 30) (by decide)
  have hspin : u.spin = (strayArm.dev.begin.spCapWindow 1984).spin := by
    simpa using congrArg Dev.spin (hrun.settle_eq State.runs_capWindowEnd)
  have hu : u.spCell 1 = (strayArm.dev.begin.spCapWindow 1984).spCell 1 := by rw [Dev.spCell, hspin, Dev.spCell]
  rw [hu, spCell_strayArm] at hrc
  exact absurd hrc (by decide)

end Sys2Proof.Machine
end


section
/-! PROOFS. The commands of the host to Spindle (O18). -/

namespace Sys2Proof.Machine

variable (s : Dev)

/-! ### Requests that are replaced -/

theorem Dev.Grows.spin {own : List Blk} {u : Dev} (h : s.Grows own u) (hb : .spindle ∉ own) : u.spin = s.spin := by
  obtain ⟨-, -, -, -, -, -, -, -, -, hspin, -⟩ := h.keeps
  exact hspin hb

@[simp] theorem Dev.put_spinReqs (F : Fld) (v i j : Nat) : (s.put F v i j).spin.reqs = s.spin.reqs := by obtain ⟨b, _⟩ := F; cases b <;> rfl

/-- The end of a request for the host, once RETIRED is counted. -/
def Dev.spReqTold (s : Dev) (q : SpReq) (st : Status) : Dev :=
  match q.desc, q.fn with
  | some (r, i), _ => s.finishAt r i st (s.epoch .spindle) []
  | none, some fn => s.iff (decide (st ≠ .ok)) fun s => s.mmioError st fn 0 0x90030 true
  | none, none => s.emit (.done 0x90030 q.op st)

theorem Dev.spReqDone_eq (q : SpReq) (st : Status) :
    s.spReqDone q st = (s.iff (decide (st = .retired)) fun s => s.retired .spindle 1).spReqTold q st := rfl

theorem Dev.grows_spReqTold (q : SpReq) (st : Status) : s.Grows [.hostq] (s.spReqTold q st) := by
  unfold Dev.spReqTold
  split
  · exact Dev.grows_finishAt _ (by decide) _ _ _ _ _
  · exact Dev.grows_iff _ _ _ fun _ => Dev.grows_mmioError _ (by decide) _ _ _ _ _
  · exact Dev.grows_emit _ _ _

theorem Dev.grows_spReqDone (q : SpReq) (st : Status) : s.Grows [.spindle, .hostq] (s.spReqDone q st) := by
  rw [Dev.spReqDone_eq]
  exact (Dev.grows_iff _ _ _ fun _ => Dev.grows_inc (G := retireFld .spindle) _ (by decide) _).trans ((Dev.grows_spReqTold _ q st).mono (by decide))

/-- The requests and records that wait do not change when a request is told. -/
theorem Dev.spReqDone_spin (q : SpReq) (st : Status) : (s.spReqDone q st).spin.reqs = s.spin.reqs ∧ (s.spReqDone q st).spin.cell = s.spin.cell := by
  have h : ∀ u : Dev, (u.spReqTold q st).spin = u.spin := fun u => (u.grows_spReqTold q st).spin _ (by decide)
  rw [Dev.spReqDone_eq, h]
  exact ⟨Dev.iff_keeps s (·.spin.reqs) _ _ fun _ => Dev.put_spinReqs .., Dev.iff_keeps s (·.spin.cell) _ _ fun _ => Dev.put_spinCell ..⟩

theorem Dev.done_mem_spReqDone (q : SpReq) (st : Status) (hd : q.desc = none) (hf : q.fn = none) : Out.done 0x90030 q.op st ∈ (s.spReqDone q st).out := by
  rw [Dev.spReqDone_eq, Dev.spReqTold, hd, hf]
  exact List.mem_cons_self

/-- Each request of a list is told, and every one without a descriptor or function puts out its end. -/
theorem Dev.done_mem_each (l : List SpReq) (st : Status) {q : SpReq} (hq : q ∈ l) (hd : q.desc = none) (hf : q.fn = none) :
    Out.done 0x90030 q.op st ∈ (s.each l fun s q => s.spReqDone q st).out := by
  induction l generalizing s with
  | nil => simp at hq
  | cons p l ih =>
    rcases List.mem_cons.1 hq with rfl | hl
    · exact (Dev.grows_each (own := [.spindle, .hostq]) _ l _ fun v p _ => v.grows_spReqDone p st).mem_out (s.done_mem_spReqDone q st hd hf)
    · exact ih _ hl

/-- A request names one of the cells. -/
def SpReq.hits (cells : List Nat) (q : SpReq) : Bool := q.cells.any fun h => cells.contains h

theorem Dev.spReplaced_spec (cells : List Nat) : let u := s.spReplaced cells
    u.spin.reqs = s.spin.reqs.filter (fun q => !q.hits cells) ∧ u.spin.cell = s.spin.cell ∧ u.now = s.now ∧
    (∀ q ∈ s.spin.reqs, q.desc = none → q.fn = none → q.hits cells = true → Out.done 0x90030 q.op .retired ∈ u.out) ∧
    ((∀ q ∈ s.spin.reqs, q.hits cells = false) → u = { s with spin := { s.spin with reqs := s.spin.reqs.filter fun q => !q.hits cells } }) := by
  let s' : Dev := { s with spin := { s.spin with reqs := s.spin.reqs.filter fun q => !q.hits cells } }
  have hu : s.spReplaced cells = s'.each (s.spin.reqs.filter (SpReq.hits cells)) fun s q => s.spReqDone q .retired := rfl
  have hgrow : s'.Grows [.spindle, .hostq] (s.spReplaced cells) := Dev.grows_each _ _ _ fun v p _ => v.grows_spReqDone p .retired
  obtain ⟨hrole, -, -, -, htime, -⟩ := hgrow.keeps
  refine ⟨?_, ?_, ?_, fun q hq hd hf hh => ?_, fun hno => ?_⟩
  · rw [hu]; exact Dev.each_keeps (·.spin.reqs) _ _ (fun v p _ => (v.spReqDone_spin p _).1) s'
  · rw [hu]; exact Dev.each_keeps (·.spin.cell) _ _ (fun v p _ => (v.spReqDone_spin p _).2) s'
  · exact Dev.now_of_time hrole (htime (by decide))
  · rw [hu]; exact s'.done_mem_each _ _ (List.mem_filter.2 ⟨hq, hh⟩) hd hf
  · rw [hu, List.filter_eq_nil_iff.2 fun q hq => by simp [hno q hq]]
    rfl

/-! ### The ops that wait for an assembly -/

/-- The cells that a write of `CELL_CMD` names (R162). -/
def Dev.cmdCells (s : Dev) (all : Bool) (g : Nat) : List Nat :=
  if all then (s.armCells s.actSet g).filter fun h => decide ((s.spCell h).st ≠ 0) && decide ((s.spCell h).st ≠ spBypassed) else [g]

/-- A write that names no cell it may name (R162). -/
def Dev.cmdInvalid (s : Dev) (all : Bool) (g : Nat) : Prop :=
  if all then 12 ≤ g else 6144 ≤ g ∨ (s.spCell g).st = 0 ∨ (s.spCell g).st = spBypassed

variable (op g : Nat) (all : Bool) (desc : Option (Nat × Nat)) (fn : Option Nat)

theorem Dev.cellCmdSend_invalid (h : s.cmdInvalid all g) : s.cellCmdSend op all g desc fn = (some .invalid, s) := by
  unfold Dev.cellCmdSend
  cases all <;> simp_all [Dev.cmdInvalid]

/-- A valid write of an op to a unit that may not send it, for no cell, or for some cells. -/
theorem Dev.cellCmdSend_valid (h : ¬ s.cmdInvalid all g) : s.cellCmdSend op all g desc fn =
    if ¬ s.unitActive ∨ ¬ s.flag F.SPINDLE_CTL_EN then (some .busy, s)
    else if s.cmdCells all g = [] then (some .ok, s)
    else
      let u := (s.spReplaced (s.cmdCells all g)).each (s.cmdCells all g) fun s h =>
        s.setSpCell h { s.spCell h with op := some ((cellOp op).1, (cellOp op).2, s.now) }
      (none, { u with spin := { u.spin with reqs := u.spin.reqs ++ [{ cells := s.cmdCells all g, op := op, desc := desc, fn := fn }] } }) := by
  unfold Dev.cellCmdSend
  cases all <;> simp_all [Dev.cmdInvalid, Dev.cmdCells]

/-- The record of a cell for which an op waits. -/
def SpCell.withOp (op now : Nat) (c : SpCell) : SpCell := { c with op := some ((cellOp op).1, (cellOp op).2, now) }

/-- What a write of ops 0x1 to 0x4 leaves in the record (R161). -/
def SpCell.hostCmd (op : Nat) (c : SpCell) : SpCell :=
  match op with
  | 1 => { c with hostOp := some true }
  | 2 => { c with hostOp := some false }
  | 3 => { c with unlock := true }
  | _ => { c with close := true }

theorem Dev.cellCmdHost_invalid (h : 6144 ≤ g ∨ (s.spCell g).st = 0) : s.cellCmdHost op g = s.deny .invalid := if_pos h

theorem Dev.cellCmdHost_valid (hg : g < 6144) (hc : (s.spCell g).st ≠ 0) :
    s.cellCmdHost op g = (.ok, s.setSpCell g ((s.spCell g).hostCmd op)) := if_neg (by omega)

/-- The op waits at each of some cells. -/
def Dev.placeOps (s : Dev) (op : Nat) (cells : List Nat) : Dev :=
  s.each cells fun s h => s.setSpCell h { s.spCell h with op := some ((cellOp op).1, (cellOp op).2, s.now) }

theorem Dev.placeOps_spec (cells : List Nat) : let u := s.placeOps op cells
    u.spin.reqs = s.spin.reqs ∧ (∀ h, u.spCell h = if h ∈ cells then (s.spCell h).withOp op s.now else s.spCell h) ∧
    u.cpl = s.cpl ∧ s.Keeps [.spindle] s.out u := by
  unfold Dev.placeOps
  refine ⟨Dev.each_keeps (·.spin.reqs) _ _ (fun _ _ _ => by exact rfl) s, fun h => ?_,
    Dev.each_keeps (·.cpl) _ _ (fun _ _ _ => by exact rfl) s, (Dev.keeps_refl _ s).each _ _ fun v h _ hv => hv.setSpCell (by decide) _ _⟩
  refine Dev.spCell_each s h (k := fun s h => s.setSpCell h ((s.spCell h).withOp op s.now)) (P := fun u => u.now = s.now)
    (φ := SpCell.withOp op s.now) (fun _ => rfl) (fun v k hv => ⟨hv, ?_, ?_⟩) cells rfl
  · rw [Dev.spCell_setSpCell_same, hv]
  · exact fun i hi => Dev.spCell_setSpCell_other _ _ _ _ hi

/-- The device after an accepted write of an op for some cells (R162). -/
def Dev.opSent (s : Dev) (op : Nat) (cells : List Nat) : Dev :=
  let u := (s.spReplaced cells).placeOps op cells
  { u with spin := { u.spin with reqs := u.spin.reqs ++ [{ cells := cells, op := op, desc := none, fn := none }] } }

/-- A row of an op of R162, in a block in operation. -/
theorem Dev.cellCmdRow_eq (h : s.blockStatus .spindle 0x30 = .ok) :
    (s.cmdInvalid all g → s.cellCmdRow op all g = s.complete .invalid) ∧
    (¬ s.cmdInvalid all g → s.unitActive = false ∨ s.flag F.SPINDLE_CTL_EN = false → s.cellCmdRow op all g = s.complete .busy) ∧
    (¬ s.cmdInvalid all g → s.unitActive = true → s.flag F.SPINDLE_CTL_EN = true →
      (s.cmdCells all g = [] → s.cellCmdRow op all g = s.complete .ok) ∧
      (s.cmdCells all g ≠ [] → s.cellCmdRow op all g = s.opSent op (s.cmdCells all g))) := by
  unfold Dev.cellCmdRow
  rw [h]
  refine ⟨fun hi => ?_, fun hv hb => ?_, fun hv ha he => ⟨fun hc => ?_, fun hc => ?_⟩⟩
  · rw [s.cellCmdSend_invalid op g all none none hi]
  · rw [s.cellCmdSend_valid op g all none none hv, if_pos (by simpa using hb)]
  · rw [s.cellCmdSend_valid op g all none none hv, if_neg (by simp [ha, he]), if_pos hc]
  · rw [s.cellCmdSend_valid op g all none none hv, if_neg (by simp [ha, he]), if_neg hc]
    rfl

theorem Dev.opSent_spec (cells : List Nat) : let u := s.opSent op cells
    u.spin.reqs = (s.spin.reqs.filter fun q => !q.hits cells) ++ [{ cells := cells, op := op, desc := none, fn := none }] ∧
    (∀ h, u.spCell h = if h ∈ cells then (s.spCell h).withOp op s.now else s.spCell h) ∧
    (∀ q ∈ s.spin.reqs, q.desc = none → q.fn = none → q.hits cells = true → Out.done 0x90030 q.op .retired ∈ u.out) ∧
    ((∀ q ∈ s.spin.reqs, q.hits cells = false) → s.Keeps [.spindle] s.out u ∧ u.cpl = s.cpl) := by
  obtain ⟨hreqs, hcell, hnow, hdone, hno⟩ := s.spReplaced_spec cells
  obtain ⟨preqs, pcell, pcpl, pkeeps⟩ := (s.spReplaced cells).placeOps_spec op cells
  refine ⟨?_, fun h => ?_, fun q hq hd hf hh => ?_, fun hn => ?_⟩
  · exact congrArg (· ++ _) (preqs.trans hreqs)
  · have hc : (s.spReplaced cells).spCell h = s.spCell h := by rw [Dev.spCell, hcell, Dev.spCell]
    exact (pcell h).trans (by rw [hc, hnow])
  · exact pkeeps.out_eq ▸ hdone q hq hd hf hh
  · have hs := hno hn
    rw [hs] at pcpl pkeeps
    unfold Dev.opSent
    rw [hs]
    exact ⟨(((Dev.keeps_refl [.spindle] s).setSpin (by decide) _).trans pkeeps).setSpin (by decide) _, pcpl⟩

/-! ### A record that is written or captured (R167) -/

theorem Dev.recIdxWrite_busy (wr : Bool) (h : s.recBusy = true) : s.recIdxWrite wr g = s.deny .busy := if_pos h

theorem Dev.recIdxWrite_available (h : s.recBusy = false) (hc : (s.spCell g).st = spAvailable) : s.recIdxWrite true g = s.deny .busy :=
  (if_neg (by simp [h])).trans ((if_pos rfl).trans (if_pos hc))

theorem Dev.recIdxWrite_write (h : s.recBusy = false) (hc : (s.spCell g).st ≠ spAvailable) : s.recIdxWrite true g =
    (.ok, (({ s with spin := { s.spin with recPend := some g } } : Dev).put F.SPINDLE_REC_IDX_G g).put F.SPINDLE_REC_IDX_BUSY 1) :=
  (if_neg (by simp [h])).trans ((if_pos rfl).trans (if_neg hc))

theorem Dev.recIdxWrite_read (h : s.recBusy = false) : ∃ u, s.recIdxWrite false g = (.ok, u) ∧
    u.f F.SPINDLE_REC0_V_EST = (s.spCell g).vAt (s.spArm (s.cArm s.actSet g)).upd % 2 ^ 32 ∧ u.f F.SPINDLE_REC1_V_DLY = (s.spCell g).vd % 2 ^ 32 ∧
    u.f F.SPINDLE_REC2_V_REP = (s.spCell g).vrep % 2 ^ 16 ∧ u.f F.SPINDLE_REC3_RC_FINE = (s.spCell g).rc % 2 ^ 32 ∧
    u.f F.SPINDLE_REC4_HIST = (s.spCell g).hist % 2 ^ 32 ∧ u.f F.SPINDLE_REC5_STATE = (s.spCell g).st % 2 ^ 4 ∧
    u.f F.SPINDLE_REC5_CAUSE = (s.spCell g).cause % 2 ^ 8 ∧ u.f F.SPINDLE_REC7_AGE = (s.spCell g).age % 2 ^ 8 ∧
    u.spin.recTill = (s.spArm (s.cArm s.actSet g)).updEnd ∧ (∀ h, u.spCell h = s.spCell h) ∧ s.Keeps [.spindle] s.out u := by
  have hk := ((Dev.keeps_refl [.spindle] s).setSpin (by decide) { s.spin with recTill := (s.spArm (s.cArm s.actSet g)).updEnd })
  refine ⟨_, by rw [Dev.recIdxWrite, if_neg (by simp [h]), if_neg (by simp)], ?_, ?_, ?_, ?_, ?_, ?_, ?_, ?_, rfl, fun h => ?_, ?_⟩
  iterate 8 · simp (disch := decide) only [Dev.f_put_apart, Dev.f_put_same]; rfl
  · simp only [Dev.spCell_put]; rfl
  · repeat' refine Dev.Keeps.put ?_ (by decide) _
    exact hk

/-- Settles O18: an op that waits for an update is put in the record, one that waits for an assembly is sent, a record is written or
captured. -/
theorem spindleHostCommands : Obligations.SpindleHostCommands := by
  unfold Obligations.SpindleHostCommands
  intro s g d c
  refine ⟨fun hst => ⟨fun row hrow hbad => ?_, fun hg hc => ?_⟩, fun op row all hrow hst => ?_, fun hst => ?_⟩
  · have hhost : ∀ op, Acted.dev (d.served .spindle 0x30 (·.cellCmdHost op g)) = d.complete .invalid := fun op => by
      rw [Dev.served_begin hst, d.cellCmdHost_invalid op g hbad]; rfl
    simp only [List.mem_cons, List.not_mem_nil, or_false] at hrow
    rcases hrow with rfl | rfl | rfl | rfl
    · exact State.runs_exclude.of_eq (hhost 1)
    · exact State.runs_release.of_eq (hhost 2)
    · exact State.runs_unlock.of_eq (hhost 3)
    · exact State.runs_cellCmdClose.of_eq (hhost 4)
  · have hhost : ∀ op, Acted.dev (d.served .spindle 0x30 (·.cellCmdHost op g)) = (d.setSpCell g (c.hostCmd op)).complete .ok := fun op => by
      rw [Dev.served_begin hst, d.cellCmdHost_valid op g hg hc]; rfl
    exact ⟨State.runs_exclude.of_eq (hhost 1), State.runs_release.of_eq (hhost 2), State.runs_unlock.of_eq (hhost 3),
      State.runs_cellCmdClose.of_eq (hhost 4)⟩
  · have hruns : s.Runs row (d.cellCmdRow op all g) := by
      simp only [List.mem_cons, Prod.mk.injEq, List.not_mem_nil, or_false] at hrow
      rcases hrow with ⟨rfl, rfl⟩ | ⟨rfl, rfl⟩ | ⟨rfl, rfl⟩ | ⟨rfl, rfl⟩
      · exact State.runs_cellRelease
      · exact State.runs_modeMs
      · exact State.runs_modeCarrier
      · exact State.runs_cellBlock
    obtain ⟨hinv, hbusy, hsend⟩ := d.cellCmdRow_eq op g all hst
    refine ⟨fun hi => hruns.of_eq (hinv hi), fun hv hb => hruns.of_eq (hbusy hv hb), fun hv ha he hc => hruns.of_eq ((hsend hv ha he).1 hc),
      fun hv ha he hc => (hruns.of_eq ((hsend hv ha he).2 hc)).does ?_⟩
    obtain ⟨hreqs, hcell, hdone, hno⟩ := d.opSent_spec op (d.cmdCells all g)
    refine ⟨hreqs, fun h hh => ?_, fun h hh => ?_, hdone, fun hn => ?_⟩
    · exact congrArg SpCell.op ((hcell h).trans (if_pos hh))
    · exact (hcell h).trans (if_neg hh)
    · exact ⟨(hno hn).1.of_begin, (hno hn).2⟩
  · refine ⟨fun hb wr => State.runs_recIdxWrite.of_eq ?_, fun hb hc => State.runs_recIdxWrite.of_eq ?_,
      fun hb hc => State.runs_recIdxWrite.of_eq ?_, fun hb => ?_⟩
    · rw [Dev.served_begin hst, d.recIdxWrite_busy g wr hb]; rfl
    · rw [Dev.served_begin hst, d.recIdxWrite_available g hb hc]; rfl
    · rw [Dev.served_begin hst, d.recIdxWrite_write g hb hc]; rfl
    · obtain ⟨u, hu, h0, h1, h2, h3, h4, h5, h5', h7, htill, hcell, hk⟩ := d.recIdxWrite_read g hb
      refine (State.runs_recIdxWrite.of_eq ((congrArg Acted.dev (Dev.served_begin hst _)).trans (congrArg Acted.dev hu))).does ?_
      exact ⟨rfl, h0, h1, h2, h3, h4, h5, h5', h7, htill, hcell, (hk.complete .ok).of_begin⟩

end Sys2Proof.Machine
end


section
/-! PROOFS. The selection of an arm (O16). -/

namespace Sys2Proof.Machine

variable (s : Dev) (set a n : Nat)

/-! ### What a selection reads -/

theorem Dev.fs_advanceTo {G : Fld} (hG : G.apart F.TIME_INC_INC = true) (t i j : Nat) : (s.advanceTo t).fs set G i j = s.fs set G i j :=
  Dev.advanceTo_fb _ _ _ _ t hG

theorem Dev.selCell_advanceTo (t sig : Nat) : (s.advanceTo t).selCell set a n sig = s.selCell set a n sig := by
  funext g
  simp (disch := decide) only [Dev.selCell, Dev.cPos, Dev.cFull, Dev.spCell_advanceTo, Dev.fs_advanceTo]

/-- The cells of an arm as the selection for a work item sees them, with σ the code of IN. -/
def SpWork.sig (w : SpWork) : Nat := if w.pol.getD 0 % 2 = 1 then 2 else 1
def Dev.selList (s : Dev) (a : Nat) (w : SpWork) : List SelCell :=
  (s.armCells (s.cycSet w.cyc) a).map (s.selCell (s.cycSet w.cyc) a w.cyc w.sig)
def Dev.selEligible (s : Dev) (a : Nat) (w : SpWork) : Nat := ((s.selList a w).filter SelCell.elig).length
def SpWork.want (w : SpWork) : Int := sgn 32 (w.n.getD 0)
def Dev.selCount (s : Dev) (a : Nat) (w : SpWork) : Nat := (clampI 0 (s.selEligible a w : Int) w.want).toNat
def Dev.selBeyond (s : Dev) (a : Nat) (w : SpWork) : Bool := decide (w.want < 0) || decide ((s.selEligible a w : Int) < w.want)
def Dev.selCurrent (s : Dev) (a : Nat) (w : SpWork) : Int := (s.spArm a).cur.getD ((s.spArm a).upd - w.cyc) 0

/-- Whether the selection takes the arm as charging (R152). -/
def Dev.selCharging (s : Dev) (a : Nat) (w : SpWork) : Bool :=
  if (s.selCurrent a w).natAbs ≤ s.fs (s.cycSet w.cyc) F.SPINDLE_ARM_CFG_IDEAD a then s.flag F.SPINDLE_ARM_STAT_CHARGING a
  else decide (0 < (if w.sig = 2 then -s.selCurrent a w else s.selCurrent a w))

def Dev.selCmds (s : Dev) (a : Nat) (w : SpWork) : List (Nat × Nat) × Nat :=
  selectCells (s.selList a w) (s.selCharging a w) (s.selCount a w) w.sig (s.fs (s.cycSet w.cyc) F.SPINDLE_ARM_CFG_SWAP_MAX a)
    (s.fs (s.cycSet w.cyc) F.SPINDLE_ARM_BAND_BAND a)

/-- How long a selection takes, and the time at which it ends (R150). -/
def Dev.selDur (s : Dev) (a : Nat) (w : SpWork) : Nat := 64 + ceilDiv (s.armCells (s.cycSet w.cyc) a).length 4
def Dev.selTime (s : Dev) (a : Nat) (w : SpWork) : Nat :=
  max (max w.tm (s.spArm a).selEnd) (if (s.spArm a).upd = w.cyc then (s.spArm a).updEnd else 0) + s.selDur a w

/-! ### What it leaves -/

/-- The arm's registers and record after a selection of the item `w`. -/
def Dev.selected (s : Dev) (a : Nat) (w : SpWork) (beyond charging : Bool) (cnt dur : Nat) (cmds : List (Nat × Nat) × Nat) : Dev :=
  let u := s.iff beyond fun s => s.raise F.SPINDLE_ARM_STAT_N_LIMIT a
  let u := (u.put F.SPINDLE_ARM_STAT_CHARGING (b2n charging) a).inc F.SPINDLE_ARM_MISC_SWAPS cmds.2 a
  let u := (u.put F.SPINDLE_ARM_CNT_N_IN cnt a).put F.SPINDLE_ARM_TIME_SEL dur a
  u.setSpArm a { u.spArm a with sel := some (w.cyc, cmds.1), selEnd := u.now, wk := (s.spArm a).wk.filter fun v => decide (w.cyc < v.cyc) }

theorem Dev.spSelect_idle (h : s.unitActive = false ∨ s.flag F.SPINDLE_CTL_EN = false ∨ (s.spArm a).sel.isSome = true ∨
    (s.spArm a).wk.find? (s.workReady a) = none) : s.spSelect a = s := by
  unfold Dev.spSelect
  dsimp only
  split
  · rfl
  · rename_i hn
    rw [(h.resolve_left (by simp_all)).resolve_left (by simp_all) |>.resolve_left (by simp_all)]

theorem Dev.spSelect_waits {w : SpWork} (hw : (s.spArm a).wk.find? (s.workReady a) = some w)
    (h : s.selectionDue w.cyc a = false ∨ ((s.spArm a).upd ≠ 0 ∧ (s.spArm a).upd < w.cyc)) : s.spSelect a = s := by
  unfold Dev.spSelect
  dsimp only
  rw [hw]
  split
  · rfl
  · exact if_pos (by simpa using h)

theorem Dev.spSelect_selects {w : SpWork} (ha : s.unitActive = true) (he : s.flag F.SPINDLE_CTL_EN = true) (hs : (s.spArm a).sel = none)
    (hw : (s.spArm a).wk.find? (s.workReady a) = some w) (hd : s.selectionDue w.cyc a = true)
    (hu : (s.spArm a).upd = 0 ∨ w.cyc ≤ (s.spArm a).upd) : s.spSelect a =
      (s.advanceTo (s.selTime a w)).selected a w (s.selBeyond a w) (s.selCharging a w) (s.selCount a w) (s.selDur a w) (s.selCmds a w) := by
  have hfb : ∀ (t : Nat) (b : Bool) {G : Fld}, G.apart F.TIME_INC_INC = true → G.apart F.SPINDLE_ARM_STAT_N_LIMIT = true → ∀ bank i j,
      ((s.advanceTo t).iff b fun s => s.raise F.SPINDLE_ARM_STAT_N_LIMIT a).fb G bank i j = s.fb G bank i j := fun t b G h1 h2 bank i j =>
    (Dev.fb_iff _ _ _ _ _ _ _ fun _ => Dev.fb_raise_apart _ _ _ _ _ _ h2).trans (Dev.advanceTo_fb _ _ _ _ t h1)
  unfold Dev.spSelect
  dsimp only
  rw [if_neg (by simp [ha, he, hs]), hw]
  dsimp only
  rw [if_neg (by simp [hd]; omega)]
  simp (disch := decide) only [Dev.fs, Dev.flag, Dev.f, hfb, Dev.selCell_advanceTo]
  simp only [Dev.selected, Dev.spArm_advanceTo]
  rfl

theorem Dev.selected_spec (w : SpWork) (beyond charging : Bool) (cnt dur : Nat) (cmds : List (Nat × Nat) × Nat) :
    let u := s.selected a w beyond charging cnt dur cmds
    (u.spArm a).sel = some (w.cyc, cmds.1) ∧ u.f F.SPINDLE_ARM_TIME_SEL a = dur % 2 ^ 16 ∧ (u.spArm a).selEnd = s.now ∧
    (u.spArm a).wk = ((s.spArm a).wk.filter fun v => decide (w.cyc < v.cyc)) ∧ u.f F.SPINDLE_ARM_CNT_N_IN a = cnt % 2 ^ 16 ∧
    u.f F.SPINDLE_ARM_STAT_CHARGING a = b2n charging ∧
    (u.f F.SPINDLE_ARM_STAT_N_LIMIT a = if beyond then 1 else s.f F.SPINDLE_ARM_STAT_N_LIMIT a) ∧
    (∀ g, u.spCell g = s.spCell g) ∧ s.Keeps [.spindle] s.out u := by
  have hk : s.Keeps [.spindle] s.out (s.selected a w beyond charging cnt dur cmds) :=
    ((((((Dev.keeps_refl [.spindle] s).iff _ _ fun _ => (Dev.keeps_refl _ s).raise (G := F.SPINDLE_ARM_STAT_N_LIMIT) (by decide) a).put
      (G := F.SPINDLE_ARM_STAT_CHARGING) (by decide) _ a).inc (G := F.SPINDLE_ARM_MISC_SWAPS) (by decide) _ a).put
      (G := F.SPINDLE_ARM_CNT_N_IN) (by decide) _ a).put (G := F.SPINDLE_ARM_TIME_SEL) (by decide) _ a).setSpArm (by decide) a _
  refine ⟨?_, ?_, ?_, ?_, ?_, ?_, ?_, fun g => ?_, hk⟩
  · simp [Dev.selected]
  · simp only [Dev.selected, Dev.f_setSpArm, Dev.f_put_same]; rfl
  · simp only [Dev.selected, Dev.spArm_setSpArm_same]
    exact Dev.now_of_time hk.role_eq (by
      obtain ⟨-, -, -, -, ht, -⟩ := hk
      exact ht (by decide))
  · simp [Dev.selected]
  · simp (disch := decide) only [Dev.selected, Dev.f_setSpArm, Dev.f_put_apart, Dev.f_put_same]; rfl
  · simp (disch := decide) only [Dev.selected, Dev.f_setSpArm, Dev.f_put_apart, Dev.f_inc_apart, Dev.f_put_same]; exact b2n_mod _
  · simp (disch := decide) only [Dev.selected, Dev.f_setSpArm, Dev.f_put_apart, Dev.f_inc_apart]
    cases beyond
    · rfl
    · exact Dev.f_raise_same ..
  · simp only [Dev.selected, Dev.spCell_setSpArm, Dev.spCell_put, Dev.spCell_inc]
    exact Dev.spCell_iff _ _ _ _ fun _ => Dev.spCell_raise ..

/-- Settles O16: the selection of a ready item, in the parts that `selected` names. -/
theorem selectionRuns : Obligations.SelectionRuns := by
  unfold Obligations.SelectionRuns
  intro s a d x
  refine ⟨fun h => State.runs_selection.of_eq (d.spSelect_idle a h), fun w hw h => State.runs_selection.of_eq (d.spSelect_waits a hw h),
    fun w ha he hs hw hd hu => (State.runs_selection.of_eq (d.spSelect_selects a ha he hs hw hd hu)).does ?_⟩
  have hlim : ∀ t, (d.advanceTo t).f F.SPINDLE_ARM_STAT_N_LIMIT a = s.dev.f F.SPINDLE_ARM_STAT_N_LIMIT a := fun t =>
    (Dev.advanceTo_f _ _ _ t (by decide)).trans (Dev.begin_f ..)
  obtain ⟨hsel, htime, hend, hwk, hcnt, hch, hn, hcell, hk⟩ := (d.advanceTo (d.selTime a w)).selected_spec a w (d.selBeyond a w)
    (d.selCharging a w) (d.selCount a w) (d.selDur a w) (d.selCmds a w)
  rw [hlim] at hn
  have hadv : d.Keeps [.spindle, .time] [] (d.advanceTo (d.selTime a w)) := (Dev.keeps_refl _ d).advanceTo (by decide) _
  rw [hadv.out_eq] at hk
  have hbeyond : d.selBeyond a w = true ↔ w.want < 0 ∨ (d.selEligible a w : Int) < w.want := by simp [Dev.selBeyond]
  have hlen : d.selDur a w = 64 + ceilDiv (d.selList a w).length 4 := by rw [Dev.selDur, Dev.selList, List.length_map]
  have hfs : ∀ set F, s.dev.fs set F a = d.fs set F a := fun _ _ => (Dev.begin_fs ..).symm
  have hflag : s.dev.flag F.SPINDLE_ARM_STAT_CHARGING a = d.flag F.SPINDLE_ARM_STAT_CHARGING a := (Dev.begin_flag ..).symm
  dsimp only
  rw [hflag, hfs, hfs, hfs]
  refine ⟨hsel, htime.trans (by rw [hlen]; rfl), hend.trans (by rw [Dev.selTime, hlen]; rfl), hwk.trans (by rw [Dev.spArm_advanceTo]; rfl), hcnt, hch,
    fun h => hn.trans (if_pos ?_), fun h1 h2 => hn.trans (if_neg ?_), fun g => (hcell g).trans (Dev.spCell_advanceTo ..),
    (hadv.trans (hk.mono (by decide))).of_begin⟩
  · exact hbeyond.2 h
  · exact fun h => (hbeyond.1 h).elim (not_lt.2 h1) (not_lt.2 h2)

end Sys2Proof.Machine
end


section
/-! The update of a cell in its parts: the error counts of its words, the record it takes, the estimates, and the table. -/

namespace Sys2Proof.Machine

variable (s : Dev) (u : UpdCtx) (g : Nat) (c : SpCell)

/-! ### The parts -/

/-- The record with what the reports, the host and the path say of it, and the position in force. -/
def Dev.spPrepare (s : Dev) (u : UpdCtx) (g : Nat) (c : SpCell) : SpCell :=
  let p := (c.takeStates (u.n + 1) u.lag).hostCause
  let p := if !s.unitActive && u.byTlm then p.follow (s.bnd u.n) else p
  let p := { p.prune (s.bnd u.n) with hist := (p.hist * 4 + ({ p with tpos := c.tpos } : SpCell).posAt u.byTlm (s.bnd u.n)) % 2 ^ 32 }
  { p with cause := s.pathCause g p.cause }

/-- The counters of R157 and R158 where a report corrected. -/
def Dev.spCounted (s : Dev) (u : UpdCtx) (p : SpCell) (e : Option Int) : SpCell × Bool :=
  match e with
  | some e => s.spCount u p e
  | none => (p, false)

/-- The end of an update of a record that is not BYPASSED. -/
def Dev.spJudge (s : Dev) (u : UpdCtx) (g was : Nat) (byp : Bool) (p : SpCell) (rep : Option SpRep) : Dev :=
  let r := s.spIntegrate u (s.cFull u.set g) p rep
  let t := s.iff r.2.1 fun s => s.raise F.SPINDLE_ARM_STAT_EST_SAT u.arm
  let age := if rep.isSome then 0 else min 255 (r.1.age + 1)
  let stale := if rep.isSome then false else bitOf r.1.cause cSTALE || decide (t.fs u.set F.SPINDLE_EST_CFG_STALE_LIM ≤ age)
  let c := { r.1 with age := age, cause := putBit r.1.cause cSTALE stale, closeT := if r.1.closeT < 16 then r.1.closeT + 1 else r.1.closeT }
  let cnt := t.spCounted u c r.2.2
  let lv := t.capLevel u.set u.arm cnt.1
  let st := if cnt.2 then lv.1.strike u.set lv.2.strikes else (lv.2.strikes, false)
  let c := { lv.2 with strikes := st.1 }
  let e : SpEv :=
    { byp := byp, struck := st.2, cleared := (bitOf was cPATH && !bitOf c.cause cPATH) || (bitOf was cSTALE && !bitOf c.cause cSTALE),
      seeded := decide (p.st = spPending) && !bitOf p.cause cPATH && rep.isSome,
      readmit := decide (c.st = spProbation) && r.2.2.isSome && decide (lv.1.fs u.set F.SPINDLE_EXCL_CNT_READMIT_CNT ≤ c.good) }
  lv.1.spTable u.set u.arm g (u.n + 1) (c.decay (2 ^ (lv.1.fs u.set F.SPINDLE_EXCL_CNT_STRIKE_DECAY + 10))) e

/-- A report taken shows BYPASSED. -/
def UpdCtx.byp (u : UpdCtx) (c : SpCell) : Bool :=
  (c.late (u.n + 1) u.lag ++ (c.usable (u.n + 1) u.lag).toList).any fun r => decide (r.st = 4)

theorem Dev.spCellUpdate_eq : s.spCellUpdate u g =
    let s := (s.spEcc g).capJudge u.set u.arm g
    let c := s.spCell g
    if c.st = 0 then s
    else
      let s := s.spAges u c
      let p := s.spPrepare u g c
      if p.st = spBypassed then s.setSpCell g { p with reps := [] }
      else s.spJudge u g c.cause (u.byp c) p (c.usable (u.n + 1) u.lag) := rfl

/-! ### What the parts leave of a record -/

/-- The fields of a record that its preparation leaves. -/
def SpCell.core (c : SpCell) : Nat × Nat × Nat × Nat × Nat × Nat × Nat × Bool × List (Nat × Nat) :=
  (c.st, c.v0, c.v1, c.vd, c.rc, c.age, c.bad, c.close, c.ecc)

theorem SpCell.takeStates_core (b lag : Nat) : (c.takeStates b lag).core = c.core := by
  have hfold : ∀ (l : List SpRep) (c : SpCell), (l.foldl (fun c r => { c with
      held := repHeld r.st, cause := if repHeld r.st then putBit c.cause cCFAULT true else c.cause }) c).core = c.core := by
    intro l
    induction l with
    | nil => exact fun _ => rfl
    | cons r l ih => exact fun c => (ih _).trans rfl
  unfold SpCell.takeStates
  dsimp only
  split
  · exact hfold _ c
  · exact hfold _ c

theorem SpCell.hostCause_core : c.hostCause.core = c.core := by
  unfold SpCell.hostCause
  split <;> rfl

theorem Dev.spPrepare_core : (s.spPrepare u g c).core = c.core := by
  rw [← c.takeStates_core (u.n + 1) u.lag, ← (c.takeStates (u.n + 1) u.lag).hostCause_core]
  unfold Dev.spPrepare
  cases !s.unitActive && u.byTlm <;> rfl

/-- The path of a cell that is known to be right is no cause. -/
theorem Dev.spPrepare_path (h : s.idState g = .ok) : bitOf (s.spPrepare u g c).cause cPATH = false := by
  simp [Dev.spPrepare, Dev.pathCause, h]

/-- The fields of a record that only the integration of an update changes, and its words' errors. -/
def SpCell.est (c : SpCell) : Nat × Nat × Nat × Nat × Nat × Nat × List (Nat × Nat) := (c.v0, c.v1, c.vd, c.hist, c.age, c.rc, c.ecc)

theorem SpCell.table_est (e : SpEv) (lock : Bool) (hold b t : Nat) : (c.table e lock hold b t).1.est = c.est := by
  unfold SpCell.table
  repeat' refine iteInduction (motive := fun r : SpCell × Bool => r.1.est = c.est) (fun _ => ?_) (fun _ => ?_)
  all_goals rfl

theorem SpCell.decay_est (per : Nat) : (c.decay per).est = c.est := by
  unfold SpCell.decay
  repeat' refine iteInduction (motive := fun r : SpCell => r.est = c.est) (fun _ => ?_) (fun _ => ?_)
  all_goals rfl

theorem Dev.spCounted_est (e : Option Int) : (s.spCounted u c e).1.est = c.est := by
  cases e with
  | none => rfl
  | some e =>
    unfold Dev.spCounted Dev.spCount
    repeat' refine iteInduction (motive := fun r : SpCell × Bool => r.1.est = c.est) (fun _ => ?_) (fun _ => ?_)
    all_goals rfl

/-- The record before the table keeps its age and estimates. -/
theorem Dev.spJudge_est (was : Nat) (byp : Bool) (p : SpCell) (rep : Option SpRep) : let r := s.spIntegrate u (s.cFull u.set g) p rep
    ((s.spJudge u g was byp p rep).spCell g).est = ({ r.1 with age := if rep.isSome then 0 else min 255 (r.1.age + 1) } : SpCell).est := by
  dsimp only
  unfold Dev.spJudge Dev.spTable
  dsimp only
  rw [Dev.spCell_setSpCell_same, show ∀ c : SpCell, c.discard.est = c.est from fun _ => rfl, SpCell.table_est, SpCell.decay_est]
  rw [Dev.capLevel_eq]
  exact Dev.spCounted_est ..

/-! ### The integration (R143) -/

/-- The estimates of boundary n + 1 and of the delayed boundary before a report corrects them. -/
def Dev.vEst (s : Dev) (u : UpdCtx) (full : Bool) (c : SpCell) : Nat × Bool :=
  bound32 ((c.vAt u.n : Int) + chargeStep u.i (chargeFactor full (bits c.hist 0 2) u.i) (s.fs u.set F.SPINDLE_ARM_K_KARM u.arm)
    (if s.fs u.set F.SPINDLE_CAP_CFG_CAP_EN = 1 then c.rc / 2 ^ 16 else 0x4000))
def Dev.vDelayed (s : Dev) (u : UpdCtx) (full : Bool) (c : SpCell) : Nat × Bool :=
  bound32 ((c.vd : Int) + chargeStep u.iL (chargeFactor full (bits c.hist (2 * u.lag) 2) u.iL) (s.fs u.set F.SPINDLE_ARM_K_KARM u.arm)
    (if s.fs u.set F.SPINDLE_CAP_CFG_CAP_EN = 1 then c.rc / 2 ^ 16 else 0x4000))

/-- The fields of a record that the integration leaves. -/
def SpCell.aside (c : SpCell) : Nat × Nat × Nat × Nat × Nat × Nat × Nat × List (Nat × Nat) × Bool × Nat :=
  (c.st, c.cause, c.rc, c.hist, c.age, c.bad, c.good, c.ecc, c.close, c.strikes)

/-- The record with its capacitance window moved on (R147). -/
def Dev.spWindow (s : Dev) (u : UpdCtx) (full : Bool) (c : SpCell) (rep : Option SpRep) : SpCell :=
  let w := 2 ^ s.fs u.set F.SPINDLE_CAP_CFG_CAP_WIN
  let edge := u.n + 1 - u.lag
  let A := c.capA + roundDiv true (u.iL * chargeFactor full (bits c.hist (2 * u.lag) 2) u.iL * (s.fs u.set F.SPINDLE_ARM_K_KARM u.arm : Int)) (2 ^ 24)
  if u.lag ≤ u.n + 1 ∧ edge % w = 0 then
    let r0 := match c.capR with | some (k, v) => if k + w = edge then some v else none | none => none
    { c with capDue := some (r0, A, rep.map SpRep.v), capR := rep.map fun r => (edge, r.v), capA := 0 }
  else { c with capA := A }

theorem Dev.spWindow_aside (full : Bool) (rep : Option SpRep) : (s.spWindow u full c rep).aside = c.aside ∧
    (s.spWindow u full c rep).v0 = c.v0 ∧ (s.spWindow u full c rep).v1 = c.v1 := by
  unfold Dev.spWindow
  exact iteInduction (motive := fun r : SpCell => r.aside = c.aside ∧ r.v0 = c.v0 ∧ r.v1 = c.v1) (fun _ => ⟨rfl, rfl, rfl⟩) (fun _ => ⟨rfl, rfl, rfl⟩)

/-- V_est of a boundary is written in its buffer (R150). -/
def SpCell.putEst (b v : Nat) (c : SpCell) : SpCell := if b % 2 = 0 then { c with v0 := v } else { c with v1 := v }

theorem SpCell.putEst_spec (n v vd : Nat) : let p : SpCell := { c.putEst (n + 1) v with vd := vd }
    p.aside = c.aside ∧ p.vAt (n + 1) = v ∧ p.vAt n = c.vAt n ∧ p.vd = vd := by
  rcases Nat.mod_two_eq_zero_or_one n with h | h
  · have h1 : ¬ (n + 1) % 2 = 0 := by omega
    simp [SpCell.putEst, SpCell.vAt, h, h1, SpCell.aside]
  · have h1 : (n + 1) % 2 = 0 := by omega
    simp [SpCell.putEst, SpCell.vAt, h, h1, SpCell.aside]

/-- How an update takes a usable report: as a seed, or as a correction with the gain that applies (R146). -/
def SpCell.seeds (c : SpCell) : Bool := decide (c.st = spPending) && !bitOf c.cause cPATH

/-- Whether a correction makes the cell DRIFT, so that it is whole (R157). -/
def Dev.drifts (s : Dev) (u : UpdCtx) (c : SpCell) (e : Int) : Bool :=
  decide (c.st = spAvailable) && decide (s.fs u.set F.SPINDLE_EXCL_ERR_EXCL_ERR * 2 ^ 16 < e.natAbs) &&
    decide (s.fs u.set F.SPINDLE_EXCL_CNT_EXCL_CNT ≤ c.bad + 1)

def Dev.correction (s : Dev) (u : UpdCtx) (c : SpCell) (e : Int) : Int :=
  roundDiv true (e * ((if s.drifts u c e then 2 ^ 16 else s.fs u.set F.SPINDLE_EST_CFG_KCORR : Nat) : Int)) (2 ^ 16)

theorem Dev.spIntegrate_none (full : Bool) : let r := s.spIntegrate u full c none
    r.1.aside = c.aside ∧ r.1.vAt (u.n + 1) = (s.vEst u full c).1 ∧ r.1.vAt u.n = c.vAt u.n ∧ r.1.vd = (s.vDelayed u full c).1 ∧ r.2.2 = none := by
  obtain ⟨ha, h0, h1⟩ := s.spWindow_aside u c full none
  obtain ⟨pa, pb, pn, pd⟩ := (s.spWindow u full c none).putEst_spec u.n (s.vEst u full c).1 (s.vDelayed u full c).1
  exact ⟨pa.trans ha, pb, pn.trans (by rw [SpCell.vAt, h0, h1]; rfl), pd, rfl⟩

theorem Dev.spIntegrate_seed (full : Bool) (r : SpRep) (h : c.seeds = true) : let q := s.spIntegrate u full c (some r)
    q.1.aside = c.aside ∧ q.1.vAt (u.n + 1) = r.v * 2 ^ 16 ∧ q.1.vAt u.n = c.vAt u.n ∧ q.1.vd = r.v * 2 ^ 16 ∧ q.2.2 = none := by
  obtain ⟨ha, h0, h1⟩ := s.spWindow_aside u c full (some r)
  obtain ⟨pa, pb, pn, pd⟩ := (s.spWindow u full c (some r)).putEst_spec u.n (r.v * 2 ^ 16) (r.v * 2 ^ 16)
  have hq : s.spIntegrate u full c (some r) =
      ({ (s.spWindow u full c (some r)).putEst (u.n + 1) (r.v * 2 ^ 16) with vd := r.v * 2 ^ 16 }, (s.vEst u full c).2 || (s.vDelayed u full c).2, none) :=
    if_pos h
  rw [hq]
  exact ⟨pa.trans ha, pb, pn.trans (by rw [SpCell.vAt, h0, h1]; rfl), pd, rfl⟩

theorem Dev.spIntegrate_corrects (full : Bool) (r : SpRep) (h : c.seeds = false) : let q := s.spIntegrate u full c (some r)
    let e : Int := ((r.v * 2 ^ 16 : Nat) : Int) - ((s.vDelayed u full c).1 : Int)
    q.1.aside = c.aside ∧ q.1.vAt (u.n + 1) = (bound32 (((s.vEst u full c).1 : Int) + s.correction u c e)).1 ∧ q.1.vAt u.n = c.vAt u.n ∧
    q.1.vd = (bound32 (((s.vDelayed u full c).1 : Int) + s.correction u c e)).1 ∧ q.2.2 = some e := by
  intro q e
  obtain ⟨ha, h0, h1⟩ := s.spWindow_aside u c full (some r)
  have hcorr : s.correction u (s.spWindow u full c (some r)) e = s.correction u c e := by
    simp only [SpCell.aside, Prod.mk.injEq] at ha
    obtain ⟨hst, -, -, -, -, hbad, -⟩ := ha
    rw [Dev.correction, Dev.correction, Dev.drifts, Dev.drifts, hst, hbad]
  obtain ⟨pa, pb, pn, pd⟩ := (s.spWindow u full c (some r)).putEst_spec u.n (bound32 (((s.vEst u full c).1 : Int) + s.correction u c e)).1
    (bound32 (((s.vDelayed u full c).1 : Int) + s.correction u c e)).1
  have hq : q = _ := if_neg (by simpa [SpCell.seeds] using h)
  rw [← hcorr] at pa pb pn pd ⊢
  rw [hq]
  exact ⟨pa.trans ha, pb, pn.trans (by rw [SpCell.vAt, h0, h1]; rfl), pd, rfl⟩

theorem Dev.spIntegrate_aside (full : Bool) (rep : Option SpRep) : (s.spIntegrate u full c rep).1.aside = c.aside := by
  cases rep with
  | none => exact (s.spIntegrate_none u c full).1
  | some r =>
    cases h : c.seeds
    · exact (s.spIntegrate_corrects u c full r h).1
    · exact (s.spIntegrate_seed u c full r h).1

/-! ### Views of a record -/

theorem SpCell.aside_eq {c d : SpCell} (h : c.aside = d.aside) : c.st = d.st ∧ c.cause = d.cause ∧ c.rc = d.rc ∧ c.hist = d.hist ∧ c.age = d.age ∧
    c.ecc = d.ecc ∧ c.close = d.close := by
  simp only [SpCell.aside, Prod.mk.injEq] at h
  obtain ⟨h1, h2, h3, h4, h5, -, -, h8, h9, -⟩ := h
  exact ⟨h1, h2, h3, h4, h5, h8, h9⟩

theorem SpCell.core_eq {c d : SpCell} (h : c.core = d.core) : c.st = d.st ∧ c.v0 = d.v0 ∧ c.v1 = d.v1 ∧ c.vd = d.vd ∧ c.rc = d.rc ∧ c.age = d.age ∧
    c.bad = d.bad ∧ c.close = d.close ∧ c.ecc = d.ecc := by
  simpa only [SpCell.core, Prod.mk.injEq] using h

theorem SpCell.est_eq {c d : SpCell} (h : c.est = d.est) : (∀ n, c.vAt n = d.vAt n) ∧ c.vd = d.vd ∧ c.hist = d.hist ∧ c.age = d.age ∧ c.rc = d.rc ∧
    c.ecc = d.ecc := by
  simp only [SpCell.est, Prod.mk.injEq] at h
  obtain ⟨h0, h1, h2, h3, h4, h5, h6⟩ := h
  exact ⟨fun n => by rw [SpCell.vAt, SpCell.vAt, h0, h1], h2, h3, h4, h5, h6⟩

theorem Dev.spPrepare_ecc : (s.spPrepare u g c).ecc = c.ecc := by
  obtain ⟨-, -, -, -, -, -, -, -, h⟩ := SpCell.core_eq (s.spPrepare_core u g c)
  exact h

theorem Dev.spJudge_ecc (was : Nat) (byp : Bool) (p : SpCell) (rep : Option SpRep) : ((s.spJudge u g was byp p rep).spCell g).ecc = p.ecc := by
  obtain ⟨-, -, -, -, -, hecc⟩ := SpCell.est_eq (s.spJudge_est u g was byp p rep)
  obtain ⟨-, -, -, -, -, haside, -⟩ := SpCell.aside_eq (s.spIntegrate_aside u p (s.cFull u.set g) rep)
  exact hecc.trans haside

/-! ### The frame of an update -/

/-- `t` is `s` but for the record of cell `g`, the fields of the list, each with its index, and the blocks of `own`. -/
structure Dev.Moves (own : List Blk) (l : List (Fld × Nat)) (g : Nat) (s t : Dev) : Prop where
  keeps : s.Keeps own s.out t
  arm   : ∀ b, t.spArm b = s.spArm b
  cell  : ∀ h, h ≠ g → t.spCell h = s.spCell h
  fld   : ∀ (G : Fld) (bank i j : Nat), (∀ p ∈ l, G.blk ≠ p.1.blk ∨ G.key bank i j ≠ p.1.key 0 p.2 0) → t.fb G bank i j = s.fb G bank i j

variable {own : List Blk} {l : List (Fld × Nat)} {g : Nat} {s t v : Dev}

theorem Dev.Moves.refl (own : List Blk) (l : List (Fld × Nat)) (g : Nat) (s : Dev) : s.Moves own l g s :=
  ⟨Dev.keeps_refl own s, fun _ => rfl, fun _ _ => rfl, fun _ _ _ _ _ => rfl⟩

theorem Dev.Moves.trans (h : s.Moves own l g t) (k : t.Moves own l g v) : s.Moves own l g v :=
  ⟨h.keeps.trans (h.keeps.out_eq ▸ k.keeps), fun b => (k.arm b).trans (h.arm b), fun i hi => (k.cell i hi).trans (h.cell i hi),
    fun G bank i j hG => (k.fld G bank i j hG).trans (h.fld G bank i j hG)⟩

theorem Dev.Moves.mono {own' : List Blk} {l' : List (Fld × Nat)} (h : s.Moves own l g t) (ho : ∀ b ∈ own, b ∈ own') (hl : ∀ p ∈ l, p ∈ l') :
    s.Moves own' l' g t :=
  ⟨h.keeps.mono ho, h.arm, h.cell, fun G bank i j hG => h.fld G bank i j fun p hp => hG p (hl p hp)⟩

theorem Dev.Moves.befall (h : s.Moves own l g t) {F : Fld} {a : Nat} (hF : (F, a) ∈ l) (hb : F.blk.home ∈ own) (k : Nat → Nat) :
    s.Moves own l g (t.befall F k a 0) :=
  h.trans ⟨(Dev.keeps_refl own t).befall hb k a 0, fun _ => Dev.spArm_befall .., fun _ _ => Dev.spCell_befall .., fun G bank i j hG => by
    rw [Dev.befall_fb, Dev.put, Dev.fb_putb_other _ _ _ _ _ _ _ (hG _ hF)]⟩

theorem Dev.Moves.setSpCell (h : s.Moves own l g t) (hb : .spindle ∈ own) (c : SpCell) : s.Moves own l g (t.setSpCell g c) :=
  h.trans ⟨(Dev.keeps_refl own t).setSpCell hb g c, fun _ => rfl, fun _ hi => Dev.spCell_setSpCell_other _ _ _ _ hi, fun _ _ _ _ _ => Dev.fb_setSpCell ..⟩

theorem Dev.Moves.setPair (h : s.Moves own l g t) (hb : .pair ∈ own) (x : Pair) (hx : x.regs = t.pair.regs) :
    s.Moves own l g { t with pair := x } :=
  h.trans ⟨(Dev.keeps_refl own t).setPair hb x, fun _ => rfl, fun _ _ => rfl, fun G bank i j _ => by
    obtain ⟨b, _⟩ := G
    cases b <;> simp [Dev.fb, Dev.regsOf, hx]⟩

theorem Dev.Moves.iff (h : s.Moves own l g t) (b : Bool) (k : Dev → Dev) (hk : b = true → s.Moves own l g (k t)) : s.Moves own l g (t.iff b k) := by
  cases b
  · exact h
  · exact hk rfl

theorem Dev.Moves.each {α : Type} (h : s.Moves own l g t) (as : List α) (k : Dev → α → Dev) (hk : ∀ v a, s.Moves own l g v → s.Moves own l g (k v a)) :
    s.Moves own l g (t.each as k) := by
  induction as generalizing t with
  | nil => exact h
  | cons a as ih => exact ih (hk t a h)

/-- The registers of an arm that the update of a cell writes, and those of the words' errors. -/
def armFlds (a : Nat) : List (Fld × Nat) :=
  [(F.SPINDLE_ARM_AGE_CAP_SKIP, a), (F.SPINDLE_ARM_STAT_CAP_SEEN, a), (F.SPINDLE_ARM_AGE_AGE_MAX, a), (F.SPINDLE_ARM_MISC_LATE_CNT, a),
    (F.SPINDLE_ARM_STAT_LATE_REP, a), (F.SPINDLE_ARM_STAT_EST_SAT, a), (F.SPINDLE_ARM_STAT_CLOSE_FAIL, a)]
def eccFlds : List (Fld × Nat) := [(F.SPINDLE_ECC_STAT_CE_CNT, 0), (F.SPINDLE_ECC_STAT_UE_CNT, 0)]

theorem Dev.moves_spEcc (s : Dev) (g : Nat) : s.Moves [.spindle, .pair] eccFlds g (s.spEcc g) := by
  have h0 := Dev.Moves.refl [.spindle, .pair] eccFlds g s
  have hce := fun n b => h0.iff b (fun s => s.inc F.SPINDLE_ECC_STAT_CE_CNT n) fun _ => h0.befall (by simp [eccFlds]) (by decide) _
  unfold Dev.spEcc
  dsimp only
  refine iteInduction (motive := s.Moves _ _ _) (fun _ => h0) (fun _ => iteInduction (motive := s.Moves _ _ _) (fun _ => ?_) (fun _ => ?_))
  · exact (hce _ _).setSpCell (by decide) _
  · exact (((hce _ _).befall (by simp [eccFlds]) (by decide) _).setSpCell (by decide) _).setPair (by decide) _ rfl

theorem Dev.moves_capJudge (s : Dev) (set a g : Nat) : s.Moves [.spindle] (armFlds a) g (s.capJudge set a g) := by
  have h0 := Dev.Moves.refl [.spindle] (armFlds a) g s
  obtain ⟨h, -⟩ | h | ⟨b, h⟩ := s.capJudge_cases set a g <;> rw [h]
  · exact h0
  · exact (h0.befall (by simp [armFlds]) (by decide) _).setSpCell (by decide) _
  · exact (h0.iff _ _ fun _ => h0.befall (by simp [armFlds]) (by decide) _).setSpCell (by decide) _

theorem Dev.moves_spAges (s : Dev) (u : UpdCtx) (c : SpCell) (g : Nat) : s.Moves [.spindle] (armFlds u.arm) g (s.spAges u c) := by
  unfold Dev.spAges
  have h1 := (Dev.Moves.refl [.spindle] (armFlds u.arm) g s).each (c.reps.filter SpRep.fresh)
    (fun s r => s.top F.SPINDLE_ARM_AGE_AGE_MAX (min 255 (u.n - r.k)) u.arm) fun v r h => h.befall (by simp [armFlds]) (by decide) _
  exact h1.iff _ _ fun _ => (h1.befall (by simp [armFlds]) (by decide) _).befall (by simp [armFlds]) (by decide) _

theorem Dev.moves_spJudge (s : Dev) (u : UpdCtx) (g was : Nat) (byp : Bool) (p : SpCell) (rep : Option SpRep) :
    s.Moves [.spindle] (armFlds u.arm) g (s.spJudge u g was byp p rep) := by
  unfold Dev.spJudge Dev.spTable
  dsimp only
  rw [Dev.capLevel_eq]
  have h0 := Dev.Moves.refl [.spindle] (armFlds u.arm) g s
  have h1 := fun b => h0.iff b (fun s => s.raise F.SPINDLE_ARM_STAT_EST_SAT u.arm) fun _ => h0.befall (by simp [armFlds]) (by decide) _
  have h2 := fun b c => (h1 b).iff c (fun s => s.raise F.SPINDLE_ARM_STAT_CAP_SEEN u.arm) fun _ => (h1 b).befall (by simp [armFlds]) (by decide) _
  exact ((h2 _ _).iff _ _ fun _ => (h2 _ _).befall (by simp [armFlds]) (by decide) _).setSpCell (by decide) _

/-- What follows once the words of the record are read. -/
theorem Dev.moves_fromEcc (s : Dev) (u : UpdCtx) (g : Nat) : (s.spEcc g).Moves [.spindle] (armFlds u.arm) g (s.spCellUpdate u g) := by
  have h1 := (s.spEcc g).moves_capJudge u.set u.arm g
  have h2 := h1.trans (Dev.moves_spAges _ u (((s.spEcc g).capJudge u.set u.arm g).spCell g) g)
  rw [Dev.spCellUpdate_eq]
  dsimp only
  exact iteInduction (motive := (s.spEcc g).Moves _ _ _) (fun _ => h1) fun _ => iteInduction (motive := (s.spEcc g).Moves _ _ _)
    (fun _ => h2.setSpCell (by decide) _) fun _ => h2.trans (Dev.moves_spJudge _ u g _ _ _ _)

theorem Dev.moves_spCellUpdate (s : Dev) (u : UpdCtx) (g : Nat) :
    s.Moves [.spindle, .pair] (eccFlds ++ armFlds u.arm) g (s.spCellUpdate u g) :=
  ((s.moves_spEcc g).mono (fun _ h => h) (fun _ hp => List.mem_append_left _ hp)).trans
    ((s.moves_fromEcc u g).mono (by decide) fun _ hp => List.mem_append_right _ hp)

/-- The words of a record read without error stay so. -/
theorem Dev.spCellUpdate_ecc (s : Dev) (u : UpdCtx) (g : Nat) (h : ((s.spEcc g).spCell g).ecc = []) : ((s.spCellUpdate u g).spCell g).ecc = [] := by
  have hjudged : ∀ (m n l x : Nat) (c : SpCell), (c.judged m n l x).ecc = c.ecc := fun m n l x c => by
    unfold SpCell.judged
    rcases c.capDue with _ | ⟨r0, A, r1⟩
    · rfl
    · dsimp only
      cases capRatio m r0 r1 A <;> rfl
  have h1 : (((s.spEcc g).capJudge u.set u.arm g).spCell g).ecc = [] := by
    rw [Dev.spCell_capJudge_same]
    exact (hjudged ..).trans h
  rw [Dev.spCellUpdate_eq]
  dsimp only
  refine iteInduction (motive := fun v : Dev => (v.spCell g).ecc = []) (fun _ => h1) fun _ => iteInduction (motive := fun v : Dev => (v.spCell g).ecc = [])
    (fun _ => ?_) fun _ => ?_
  · rw [Dev.spCell_setSpCell_same]
    dsimp only
    rw [Dev.spPrepare_ecc, h1]
  · rw [Dev.spJudge_ecc, Dev.spPrepare_ecc, h1]

end Sys2Proof.Machine
end


section
/-! PROOFS. The update of an arm (O13). -/

namespace Sys2Proof.Machine

variable (s : Dev) (set a n w : Nat) (last : Int)

/-! ### What an update reads -/

theorem Dev.armKind_congr {s u : Dev} (hr : u.role = s.role) (hl : u.lanes = s.lanes) (hm : u.loom = s.loom) :
    u.armKind set a = s.armKind set a := by
  have hout : u.outEntries set = s.outEntries set := congrArg (fun l : Loom => l.regs.filterMap _) hm
  have hloom : ∀ G : Fld, G.blk = .loom → ∀ i, u.fs set G i = s.fs set G i := fun G hG i =>
    Dev.fb_of_regs hr (by rw [hG]; exact congrArg Loom.regs hm) ..
  have hmap : u.mapped set 1 a = s.mapped set 1 a := by
    simp only [Dev.mapped, hout, hloom F.LOOM_OUT_MAP_DST rfl, hloom F.LOOM_OUT_MAP_SEL rfl]
  have hper : u.fi F.TRUNK_CARRIER_CPER a = s.fi F.TRUNK_CARRIER_CPER a :=
    Dev.fb_of_regs (G := F.TRUNK_CARRIER_CPER) hr (congrArg Lanes.trunk hl) ..
  rw [Dev.armKind, Dev.armKind, hmap, hper]

/-- Where positions come from is told by the lanes, Loom's map and the pair. -/
theorem Dev.posByTlm_congr {s u : Dev} (hr : u.role = s.role) (hl : u.lanes = s.lanes) (hm : u.loom = s.loom) (hp : u.pair = s.pair) :
    u.posByTlm set a n = s.posByTlm set a n := by
  have hactive : u.unitActive = s.unitActive :=
    congrArg (fun x => decide (x = 2)) (Dev.fb_of_regs (G := F.PAIR_STAT_STATE) hr (congrArg Pair.regs hp) ..)
  have hmiss : u.listMissing a n = s.listMissing a n := by rw [Dev.listMissing, Dev.listMissing, hp]
  rw [Dev.posByTlm, Dev.posByTlm, hactive, hmiss, Dev.armKind_congr set a hr hl hm]

theorem Dev.armCells_congr {s u : Dev} (hr : u.role = s.role) (hl : u.lanes = s.lanes) : u.armCells set a = s.armCells set a := by
  have harm : ∀ g, u.cArm set g = s.cArm set g := fun g => Dev.fb_of_regs (G := F.TRUNK_CELL_MAP_ARM) hr (congrArg Lanes.trunk hl) ..
  have hcells : u.cells set = s.cells set := congrArg (fun l : Lanes => l.trunk.filterMap _) hl
  simp only [Dev.armCells, hcells, harm]

/-! ### The parts of an update -/

/-- Written record words enter the record; no arm's record and no register but `REC_IDX` moves. -/
theorem Dev.spRecWrite_spec : (s.spRecWrite a).spArm = s.spArm ∧ s.Keeps [.spindle] s.out (s.spRecWrite a) ∧
    ∀ G : Fld, G.apart F.SPINDLE_REC_IDX_BUSY = true → ∀ bank i j, (s.spRecWrite a).fb G bank i j = s.fb G bank i j := by
  let P := fun u : Dev => u.spArm = s.spArm ∧ s.Keeps [.spindle] s.out u ∧
    ∀ G : Fld, G.apart F.SPINDLE_REC_IDX_BUSY = true → ∀ bank i j, u.fb G bank i j = s.fb G bank i j
  have h0 : P s := ⟨rfl, Dev.keeps_refl _ s, fun _ _ _ _ _ => rfl⟩
  have h1 : P (({ s with spin := { s.spin with recPend := none } } : Dev).put F.SPINDLE_REC_IDX_BUSY 0) :=
    ⟨by funext b; exact Dev.spArm_put .., (h0.2.1.setSpin (by decide) _).put (by decide) _, fun G hG bank i j => by
      rw [Dev.fb_put_apart _ _ _ _ _ _ _ hG]
      obtain ⟨b, _⟩ := G; cases b <;> rfl⟩
  unfold Dev.spRecWrite
  split
  · exact h0
  · refine iteInduction (motive := P) (fun _ => h0) fun _ => iteInduction (motive := P) (fun _ => h1) fun _ => ?_
    exact ⟨h1.1, h1.2.1.setSpCell (by decide) _ _, fun G hG bank i j => (Dev.fb_setSpCell ..).trans (h1.2.2 G hG bank i j)⟩

/-- The currents that an arm has after an update with a sample word, newest first. -/
def Dev.updHist (s : Dev) (set a w : Nat) (last : Int) : List Int := ((s.armCurrent set a w last).1 :: (s.spArm a).cur).take 16

/-- What the update of an arm has in common for its cells. -/
def Dev.updCtx (s : Dev) (set a n w : Nat) (last : Int) : UpdCtx :=
  { set := set, arm := a, n := n, lag := s.fs set F.SPINDLE_ARM_CFG_LAG a, i := (s.armCurrent set a w last).1,
    iL := (s.updHist set a w last).getD (s.fs set F.SPINDLE_ARM_CFG_LAG a) 0, byTlm := s.posByTlm set a n }

/-- The device when the cells' updates begin. -/
def Dev.updStart (s : Dev) (a n : Nat) (bad byTlm : Bool) : Dev :=
  (((s.advanceTo (s.bnd n + 80)).spRecWrite a).iff bad fun s => s.raise F.SPINDLE_ARM_STAT_ISRC_BAD a).iff byTlm
    fun s => s.raise F.SPINDLE_ARM_STAT_POS_FROM_TLM a

/-- The arm's record and registers when they have ended. -/
def Dev.updFinish (s : Dev) (set a n len : Nat) (h : List Int) : Dev :=
  let t := 16 + ceilDiv len 8
  let s := s.setSpArm a { s.spArm a with cur := h, heldW := none, upd := n + 1, updEnd := s.now + t }
  let s := (s.put F.SPINDLE_ARM_TIME_UPD t a).spCounts set a
  if n + 1 < s.glob.nextCyc then s.spLatch (s.cycSet (n + 1)) a (n + 1) else s

theorem Dev.spUpdate_off (h : s.role ≠ .manager ∨ s.flag F.SPINDLE_CTL_EN = false ∨ 12 ≤ a ∨ s.spNext a = none) : s.spUpdate a = s := by
  unfold Dev.spUpdate
  refine iteInduction (motive := (· = s)) (fun _ => rfl) fun hn => ?_
  rw [((h.resolve_left (by simp_all)).resolve_left (by simp_all)).resolve_left (by simp_all)]

theorem Dev.spUpdate_waits (hnext : s.spNext a = some (n, w, last))
    (h : s.armCells (s.cycSet n) a = [] ∨ (0 < n ∧ s.selectionDue (n - 1) a = true)) : s.spUpdate a = s := by
  unfold Dev.spUpdate
  rw [hnext]
  exact iteInduction (motive := (· = s)) (fun _ => rfl) fun _ => if_pos h

theorem Dev.spUpdate_updates (hm : s.role = .manager) (he : s.flag F.SPINDLE_CTL_EN = true) (ha : a < 12) (hnext : s.spNext a = some (n, w, last))
    (hc : s.armCells (s.cycSet n) a ≠ []) (hd : n = 0 ∨ s.selectionDue (n - 1) a = false) : s.spUpdate a =
      ((s.updStart a n (s.armCurrent (s.cycSet n) a w last).2 (s.posByTlm (s.cycSet n) a n)).each (s.armCells (s.cycSet n) a)
        fun v g => v.spCellUpdate (s.updCtx (s.cycSet n) a n w last) g).updFinish (s.cycSet n) a n (s.armCells (s.cycSet n) a).length
        (s.updHist (s.cycSet n) a w last) := by
  have hadv : ∀ {G : Fld}, G.apart F.TIME_INC_INC = true → G.apart F.SPINDLE_REC_IDX_BUSY = true → ∀ bank i j,
      ((s.advanceTo (s.bnd n + 80)).spRecWrite a).fb G bank i j = s.fb G bank i j := fun h1 h2 bank i j =>
    ((Dev.spRecWrite_spec _ a).2.2 _ h2 bank i j).trans (Dev.advanceTo_fb _ _ _ _ _ h1)
  have harm : ((s.advanceTo (s.bnd n + 80)).spRecWrite a).spArm a = s.spArm a :=
    (congrFun (Dev.spRecWrite_spec _ a).1 a).trans (Dev.spArm_advanceTo ..)
  have hcur : ((s.advanceTo (s.bnd n + 80)).spRecWrite a).armCurrent (s.cycSet n) a w last = s.armCurrent (s.cycSet n) a w last := by
    have hneg : ((s.advanceTo (s.bnd n + 80)).spRecWrite a).fs (s.cycSet n) F.SPINDLE_ARM_CFG_INEG a = s.fs (s.cycSet n) F.SPINDLE_ARM_CFG_INEG a :=
      hadv (by decide) (by decide) _ _ _
    rw [Dev.armCurrent, Dev.armCurrent, hneg]
  have hkeep : ∀ b, s.Keeps [.spindle, .time] s.out (((s.advanceTo (s.bnd n + 80)).spRecWrite a).iff b fun s => s.raise F.SPINDLE_ARM_STAT_ISRC_BAD a) := by
    have h1 := (Dev.keeps_refl [.spindle, .time] s).advanceTo (by decide) (s.bnd n + 80)
    have h2 := h1.trans ((h1.out_eq ▸ (Dev.spRecWrite_spec (s.advanceTo (s.bnd n + 80)) a).2.1).mono (by decide))
    exact fun b => h2.iff b _ fun _ => h2.raise (by decide) a
  have hlag : ∀ b, (((s.advanceTo (s.bnd n + 80)).spRecWrite a).iff b fun s => s.raise F.SPINDLE_ARM_STAT_ISRC_BAD a).fs (s.cycSet n) F.SPINDLE_ARM_CFG_LAG a =
      s.fs (s.cycSet n) F.SPINDLE_ARM_CFG_LAG a := fun b =>
    (Dev.fb_iff _ _ _ _ _ _ _ fun _ => Dev.fb_raise_apart _ _ _ _ _ _ (by decide)).trans (hadv (by decide) (by decide) _ _ _)
  have htlm : ∀ b, (((s.advanceTo (s.bnd n + 80)).spRecWrite a).iff b fun s => s.raise F.SPINDLE_ARM_STAT_ISRC_BAD a).posByTlm (s.cycSet n) a n =
      s.posByTlm (s.cycSet n) a n := fun b => by
    obtain ⟨hr, -, -, -, -, -, -, hl, hlm, -, -, -, -, -, -, -, -, hp, -⟩ := hkeep b
    exact Dev.posByTlm_congr _ _ _ hr (hl (by decide)).1 (hlm (by decide)) (hp (by decide))
  unfold Dev.spUpdate
  rw [if_neg (by simp [hm, he, ha]), hnext]
  dsimp only
  rw [if_neg (by simp [hc]; intro h; exact hd.resolve_left (by omega))]
  simp only [hcur, harm, hlag, htlm]
  rfl

/-! ### What the parts leave -/

/-- A field of the arm that the updates of cells do not write. -/
theorem Dev.f_each_spCellUpdate {G : Fld} (hG : ∀ F ∈ (eccFlds ++ armFlds 0).map Prod.fst, G.apart F = true) (v : Dev) (u : UpdCtx) (l : List Nat)
    (i : Nat) : (v.each l fun s g => s.spCellUpdate u g).f G i = v.f G i :=
  Dev.each_keeps (·.f G i) l _ (fun t g _ => (t.moves_spCellUpdate u g).fld G 0 i 0 fun p hp =>
    Fld.key_ne_of_apart (hG p.1 (List.mem_map_of_mem (f := Prod.fst) hp : p.1 ∈ (eccFlds ++ armFlds u.arm).map Prod.fst)) ..) v

theorem Dev.each_spCellUpdate_spec (v : Dev) (u : UpdCtx) (l : List Nat) : let t := v.each l fun s g => s.spCellUpdate u g
    t.spArm = v.spArm ∧ v.Keeps [.spindle, .pair] v.out t := by
  refine ⟨Dev.each_keeps (·.spArm) l _ (fun t g _ => funext fun b => (t.moves_spCellUpdate u g).arm b) v, ?_⟩
  exact (Dev.keeps_refl _ v).each l _ fun t g _ ht => ht.trans (ht.out_eq ▸ (t.moves_spCellUpdate u g).keeps)

theorem Dev.updStart_spec (bad byTlm : Bool) : let t := s.updStart a n bad byTlm
    t.spArm = s.spArm ∧ s.Keeps [.spindle, .time] s.out t ∧ t.now = (s.advanceTo (s.bnd n + 80)).now ∧
    (bad = true → t.f F.SPINDLE_ARM_STAT_ISRC_BAD a = 1) ∧ (byTlm = true → t.f F.SPINDLE_ARM_STAT_POS_FROM_TLM a = 1) := by
  obtain ⟨harm, hrec, -⟩ := (s.advanceTo (s.bnd n + 80)).spRecWrite_spec a
  have hadv := (Dev.keeps_refl [.spindle, .time] s).advanceTo (by decide) (s.bnd n + 80)
  have hflags : ∀ {own : List Blk} {v : Dev}, v.Keeps own v.out ((s.advanceTo (s.bnd n + 80)).spRecWrite a) → .spindle ∈ own →
      v.Keeps own v.out (s.updStart a n bad byTlm) := fun hv hb =>
    (hv.iff _ _ fun _ => hv.raise (G := F.SPINDLE_ARM_STAT_ISRC_BAD) hb a).iff _ _ fun _ =>
      (hv.iff _ _ fun _ => hv.raise (G := F.SPINDLE_ARM_STAT_ISRC_BAD) hb a).raise (G := F.SPINDLE_ARM_STAT_POS_FROM_TLM) hb a
  refine ⟨?_, ?_, ?_, fun h => ?_, fun h => ?_⟩
  · have hiff : ∀ (v : Dev) (b : Bool) (F : Fld), (v.iff b fun s => s.raise F a).spArm = v.spArm := fun v b F =>
      Dev.iff_keeps v (·.spArm) b _ fun _ => funext fun c => Dev.spArm_raise ..
    rw [Dev.updStart, hiff, hiff, harm]
    exact funext fun b => Dev.spArm_advanceTo ..
  · have h1 := hadv.trans ((hadv.out_eq ▸ hrec).mono (by decide))
    exact hflags h1 (by decide)
  · obtain ⟨hr, -, -, -, ht, -⟩ := hflags hrec (by decide)
    exact Dev.now_of_time hr (ht (by decide))
  · rw [Dev.updStart, h]
    refine (Dev.f_iff _ _ _ _ _ _ fun _ => Dev.f_raise_apart _ _ _ _ _ (by decide)).trans ?_
    exact Dev.f_raise_same ..
  · rw [Dev.updStart, h]
    exact Dev.f_raise_same ..

/-- The registers of an arm when its update has ended. -/
theorem Dev.updFinish_spec (set a n len : Nat) (h : List Int) : let u := s.updFinish set a n len h
    (∀ g, u.spCell g = s.spCell g) ∧ (u.spArm a).cur = h ∧ (u.spArm a).upd = n + 1 ∧ (u.spArm a).heldW = none ∧
    (u.spArm a).updEnd = s.now + (16 + ceilDiv len 8) ∧ u.f F.SPINDLE_ARM_TIME_UPD a = (16 + ceilDiv len 8) % 2 ^ 16 ∧
    u.f F.SPINDLE_ARM_CNT_AVAIL a = ((s.armCells set a).filter fun g => decide ((s.spCell g).st = spAvailable)).length % 2 ^ 16 ∧
    (∀ G : Fld, G.apart F.SPINDLE_ARM_TIME_UPD = true → G.apart F.SPINDLE_ARM_CNT_AVAIL = true → G.apart F.SPINDLE_ARM_STAT_ANY_EXCL = true →
      u.f G a = s.f G a) ∧
    (∀ b, b ≠ a → u.spArm b = s.spArm b) ∧ s.Keeps [.spindle] s.out u := by
  let x : SpArm := { s.spArm a with cur := h, heldW := none, upd := n + 1, updEnd := s.now + (16 + ceilDiv len 8) }
  let v := ((s.setSpArm a x).put F.SPINDLE_ARM_TIME_UPD (16 + ceilDiv len 8) a).spCounts set a
  have hcell : ∀ g, v.spCell g = s.spCell g := fun g => by simp [v, Dev.spCounts]
  have harm : ∀ b, v.spArm b = (s.setSpArm a x).spArm b := fun b => by simp [v, Dev.spCounts]
  have hk : s.Keeps [.spindle] s.out v := ((((Dev.keeps_refl [.spindle] s).setSpArm (by decide) a x).put (G := F.SPINDLE_ARM_TIME_UPD) (by decide) _ a).put
    (G := F.SPINDLE_ARM_CNT_AVAIL) (by decide) _ a).put (G := F.SPINDLE_ARM_STAT_ANY_EXCL) (by decide) _ a
  have hupd : v.f F.SPINDLE_ARM_TIME_UPD a = (16 + ceilDiv len 8) % 2 ^ 16 := by
    simp (disch := decide) only [v, Dev.spCounts, Dev.f_put_apart, Dev.f_put_same]
    rfl
  have havail : v.f F.SPINDLE_ARM_CNT_AVAIL a = ((s.armCells set a).filter fun g => decide ((s.spCell g).st = spAvailable)).length % 2 ^ 16 := by
    have hcells : ((s.setSpArm a x).put F.SPINDLE_ARM_TIME_UPD (16 + ceilDiv len 8) a).armCells set a = s.armCells set a :=
      Dev.armCells_congr _ _ (Dev.put_role ..) (Dev.put_lanes _ _ _ _ _ (by decide))
    simp (disch := decide) only [v, Dev.spCounts, Dev.f_put_apart, Dev.f_put_same, hcells, List.filter_map, List.length_map, Function.comp_def,
      Dev.spCell_put, Dev.spCell_setSpArm]
    rfl
  have hfld : ∀ G : Fld, G.apart F.SPINDLE_ARM_TIME_UPD = true → G.apart F.SPINDLE_ARM_CNT_AVAIL = true → G.apart F.SPINDLE_ARM_STAT_ANY_EXCL = true →
      v.f G a = s.f G a := fun G h1 h2 h3 => by
    simp only [v, Dev.spCounts, Dev.f_put_apart _ _ _ _ _ _ h1, Dev.f_put_apart _ _ _ _ _ _ h2, Dev.f_put_apart _ _ _ _ _ _ h3, Dev.f_setSpArm]
  have hu : s.updFinish set a n len h = v ∨ s.updFinish set a n len h = v.spLatch (v.cycSet (n + 1)) a (n + 1) := by
    by_cases hn : n + 1 < v.glob.nextCyc
    · exact .inr (if_pos hn)
    · exact .inl (if_neg hn)
  have hx : v.spArm a = x := (harm a).trans (Dev.spArm_setSpArm_same ..)
  have hothers : ∀ b, b ≠ a → v.spArm b = s.spArm b := fun b hb => (harm b).trans (Dev.spArm_setSpArm_other _ _ _ hb)
  dsimp only
  rcases hu with hu | hu <;> rw [hu]
  · refine ⟨hcell, ?_, ?_, ?_, ?_, hupd, havail, hfld, hothers, hk⟩ <;> rw [hx]
  · unfold Dev.spLatch
    simp only [Dev.spCell_setSpArm, Dev.spArm_setSpArm_same, Dev.f_setSpArm]
    refine ⟨hcell, ?_, ?_, ?_, ?_, hupd, havail, hfld, fun b hb => (Dev.spArm_setSpArm_other _ _ _ hb).trans (hothers b hb), hk.setSpArm (by decide) _ _⟩ <;>
      rw [hx]

/-- Settles O13: the parts of an update, put together. -/
theorem spindleUpdate : Obligations.SpindleUpdate := by
  unfold Obligations.SpindleUpdate
  intro s a n w last d set cells
  refine ⟨fun h => State.runs_spindleUpdate.of_eq (d.spUpdate_off a h), fun hnext h => State.runs_spindleUpdate.of_eq (d.spUpdate_waits a n w last hnext h),
    fun hm he ha hnext hc hd => ?_⟩
  have hrun : d.spUpdate a = ((d.updStart a n (d.armCurrent set a w last).2 (d.posByTlm set a n)).each cells
      fun v g => v.spCellUpdate (d.updCtx set a n w last) g).updFinish set a n cells.length (d.updHist set a w last) :=
    d.spUpdate_updates a n w last hm he ha hnext hc hd
  refine (State.runs_spindleUpdate.of_eq hrun).does ?_
  obtain ⟨sarm, sk, snow, sbad, stlm⟩ := d.updStart_spec a n (d.armCurrent set a w last).2 (d.posByTlm set a n)
  obtain ⟨earm, ek⟩ := (d.updStart a n (d.armCurrent set a w last).2 (d.posByTlm set a n)).each_spCellUpdate_spec (d.updCtx set a n w last) cells
  have efld : ∀ {G : Fld}, (∀ F ∈ (eccFlds ++ armFlds 0).map Prod.fst, G.apart F = true) → _ := fun hG =>
    Dev.f_each_spCellUpdate hG (d.updStart a n (d.armCurrent set a w last).2 (d.posByTlm set a n)) (d.updCtx set a n w last) cells a
  have hlag : s.dev.fs set F.SPINDLE_ARM_CFG_LAG a = d.fs set F.SPINDLE_ARM_CFG_LAG a := (Dev.begin_fs ..).symm
  have hx : s.dev.spArm a = d.spArm a := rfl
  dsimp only
  rw [hlag, hx]
  generalize hE : (d.updStart a n (d.armCurrent set a w last).2 (d.posByTlm set a n)).each cells (fun v g => v.spCellUpdate (d.updCtx set a n w last) g) = e at *
  have hall : d.Keeps [.spindle, .time, .pair] [] e := (sk.mono (by decide)).trans ((sk.out_eq ▸ ek).mono (by decide))
  have hcells : e.armCells set a = cells := by
    obtain ⟨hr, -, -, -, -, -, -, hl, -⟩ := hall
    exact Dev.armCells_congr _ _ hr (hl (by decide)).1
  have hnow : e.now = (d.advanceTo (d.bnd n + 80)).now := by
    obtain ⟨hr, -, -, -, ht, -⟩ := ek
    exact (Dev.now_of_time hr (ht (by decide))).trans snow
  obtain ⟨hcell, hcur, hupd, hheld, hend, htime, havail, hfld, hother, hk⟩ := e.updFinish_spec set a n cells.length (d.updHist set a w last)
  refine ⟨fun g => (hcell g).trans (congrArg (fun v : Dev => v.spCell g) hE.symm), hcur, hupd, hheld, hend.trans (by rw [hnow]), htime, ?_,
    fun h => ?_, fun h => ?_, fun b hb => ?_, ?_⟩
  · rw [hcells] at havail
    simp only [hcell]
    exact havail
  · exact (hfld _ (by decide) (by decide) (by decide)).trans ((efld (by decide)).trans (sbad h))
  · exact (hfld _ (by decide) (by decide) (by decide)).trans ((efld (by decide)).trans (stlm h))
  · exact (hother b hb).trans ((congrFun earm b).trans (congrFun sarm b))
  · exact (hall.trans ((hall.out_eq ▸ hk).mono (by decide))).of_begin.mono (by decide)

end Sys2Proof.Machine
end


section
/-! PROOFS. What an update makes of a cell's estimates (O14). -/

namespace Sys2Proof.Machine

variable (s : Dev) (u : UpdCtx) (g : Nat)

theorem Dev.Moves.fb_apart {own : List Blk} {l : List (Fld × Nat)} {g : Nat} {s t : Dev} (h : s.Moves own l g t) {G : Fld}
    (hG : ∀ F ∈ l.map Prod.fst, G.apart F = true) (bank i j : Nat) : t.fb G bank i j = s.fb G bank i j :=
  h.fld G bank i j fun _ hp => Fld.key_ne_of_apart (hG _ (List.mem_map_of_mem hp)) ..

/-- The counters of the words' errors stand below the registers of every arm. -/
theorem ecc_ne_armFlds {G : Fld} (hG : G = F.SPINDLE_ECC_STAT_CE_CNT ∨ G = F.SPINDLE_ECC_STAT_UE_CNT) (a : Nat) :
    ∀ p ∈ armFlds a, G.blk ≠ p.1.blk ∨ G.key 0 0 0 ≠ p.1.key 0 p.2 0 := by
  intro p hp
  simp only [armFlds, List.mem_cons, List.not_mem_nil, or_false] at hp
  rcases hG with rfl | rfl <;> rcases hp with rfl | rfl | rfl | rfl | rfl | rfl | rfl <;> right <;>
    simp only [Fld.key, F.SPINDLE_ECC_STAT_CE_CNT, F.SPINDLE_ECC_STAT_UE_CNT, F.SPINDLE_ARM_AGE_CAP_SKIP, F.SPINDLE_ARM_STAT_CAP_SEEN,
      F.SPINDLE_ARM_AGE_AGE_MAX, F.SPINDLE_ARM_MISC_LATE_CNT, F.SPINDLE_ARM_STAT_LATE_REP, F.SPINDLE_ARM_STAT_EST_SAT,
      F.SPINDLE_ARM_STAT_CLOSE_FAIL] <;> omega

/-! ### The words of the record -/

/-- The words of a record with an error of a kind: 1 corrected, 2 not. -/
def SpCell.errs (c : SpCell) (k : Nat) : Nat := (c.ecc.filter fun e => decide (e.2 = k)).length

theorem satAdd_mod (w v n : Nat) : satAdd w v n % 2 ^ w = satAdd w v n :=
  Nat.mod_eq_of_lt (lt_of_le_of_lt (Nat.min_le_left ..) (Nat.sub_lt (Nat.two_pow_pos w) Nat.one_pos))

theorem Dev.spEcc_off (h : (s.spCell g).st = 0) : s.spEcc g = s := if_pos h

/-- The device that has counted the corrected words of a record. -/
def Dev.ceCounted (s : Dev) (c : SpCell) : Dev := s.iff (decide (c.errs 1 ≠ 0)) fun s => s.inc F.SPINDLE_ECC_STAT_CE_CNT (c.errs 1)

theorem Dev.spEcc_corrected (h : (s.spCell g).st ≠ 0) (hu : (s.spCell g).errs 2 = 0) :
    s.spEcc g = (s.ceCounted (s.spCell g)).setSpCell g { s.spCell g with ecc := [] } := (if_neg h).trans (if_pos hu)

/-- The words that cannot be corrected counted, and the cell PENDING. -/
def Dev.ueCounted (s : Dev) (g : Nat) : Dev :=
  ((s.ceCounted (s.spCell g)).inc F.SPINDLE_ECC_STAT_UE_CNT ((s.spCell g).errs 2)).setSpCell g { s.spCell g with ecc := [], st := spPending }

theorem Dev.spEcc_lost (h : (s.spCell g).st ≠ 0) (hu : (s.spCell g).errs 2 ≠ 0) : s.spEcc g =
    { s.ueCounted g with pair := { (s.ueCounted g).pair with cycEvt := putBit (s.ueCounted g).pair.cycEvt 0 true } } := (if_neg h).trans (if_neg hu)

theorem Dev.spEcc_spec (h : (s.spCell g).st ≠ 0) : let v := s.spEcc g
    (v.spCell g).ecc = [] ∧ ((s.spCell g).ecc = [] → v.spCell g = s.spCell g) ∧
    ((s.spCell g).errs 1 ≠ 0 → v.f F.SPINDLE_ECC_STAT_CE_CNT = satAdd 16 (s.f F.SPINDLE_ECC_STAT_CE_CNT) ((s.spCell g).errs 1)) ∧
    ((s.spCell g).errs 2 ≠ 0 → v.f F.SPINDLE_ECC_STAT_UE_CNT = satAdd 16 (s.f F.SPINDLE_ECC_STAT_UE_CNT) ((s.spCell g).errs 2) ∧
      bitOf v.pair.cycEvt 0 = true) := by
  have hce : (s.spCell g).errs 1 ≠ 0 → (s.ceCounted (s.spCell g)).f F.SPINDLE_ECC_STAT_CE_CNT =
      satAdd 16 (s.f F.SPINDLE_ECC_STAT_CE_CNT) ((s.spCell g).errs 1) := fun hc => by
    rw [Dev.ceCounted, decide_eq_true hc]
    exact (Dev.f_inc_same ..).trans (satAdd_mod 16 _ _)
  have hue : (s.ceCounted (s.spCell g)).f F.SPINDLE_ECC_STAT_UE_CNT = s.f F.SPINDLE_ECC_STAT_UE_CNT :=
    Dev.f_iff _ _ _ _ _ _ fun _ => Dev.f_inc_apart _ _ _ _ _ _ (by decide)
  dsimp only
  by_cases hu : (s.spCell g).errs 2 = 0
  · rw [s.spEcc_corrected g h hu]
    refine ⟨by simp, fun he => ?_, fun hc => ?_, fun hn => absurd hu hn⟩
    · rw [Dev.spCell_setSpCell_same]
      exact (congrArg (fun l => { s.spCell g with ecc := l }) he.symm)
    · rw [Dev.f_setSpCell]
      exact hce hc
  · rw [s.spEcc_lost g h hu]
    have hf : ∀ G : Fld, G.blk = .spindle → ∀ x : Pair, ({ s.ueCounted g with pair := x } : Dev).f G = (s.ueCounted g).f G := by
      rintro ⟨b, _⟩ rfl x
      rfl
    refine ⟨?_, fun he => ?_, fun hc => ?_, fun _ => ⟨?_, bitOf_putBit_same ..⟩⟩
    · exact congrArg SpCell.ecc (Dev.spCell_setSpCell_same ..)
    · exact absurd (by simp [SpCell.errs, he]) hu
    · rw [hf _ rfl, Dev.ueCounted, Dev.f_setSpCell, Dev.f_inc_apart _ _ _ _ _ _ (by decide)]
      exact hce hc
    · rw [hf _ rfl, Dev.ueCounted, Dev.f_setSpCell]
      exact ((Dev.f_inc_same ..).trans (satAdd_mod 16 _ _)).trans (by rw [hue])

/-! ### The state and the causes after the table -/

/-- A cause other than DRIFT stays when a window is judged. -/
theorem SpCell.table_stale (c : SpCell) (e : SpEv) (lock : Bool) (hold b t : Nat) (hs : bitOf c.cause cSTALE = true) :
    bitOf (c.table e lock hold b t).1.cause cSTALE = true := by
  have hput : ∀ i x, i ≠ cSTALE → bitOf (putBit c.cause i x) cSTALE = true := fun i x hi => (bitOf_putBit_other _ _ hi.symm).trans hs
  let M := fun r : SpCell × Bool => bitOf r.1.cause cSTALE = true
  unfold SpCell.table
  refine iteInduction (motive := M) (fun _ => hs) fun _ => ?_
  refine iteInduction (motive := M) (fun _ => hput cCLOSE _ (by decide)) fun _ => ?_
  refine iteInduction (motive := M) (fun _ => iteInduction (motive := M)
    (fun _ => iteInduction (motive := M) (fun _ => hs) fun _ => hs) fun _ => hs) fun _ => ?_
  refine iteInduction (motive := M) (fun _ => hput cCLOSE _ (by decide)) fun _ => ?_
  refine iteInduction (motive := M) (fun _ => hs) fun _ => ?_
  refine iteInduction (motive := M) (fun _ => iteInduction (motive := M) (fun _ => hput cDRIFT _ (by decide)) fun _ => hs) fun _ => ?_
  refine iteInduction (motive := M) (fun _ => hs) fun _ => ?_
  refine iteInduction (motive := M) (fun _ => hs) fun _ => ?_
  refine iteInduction (motive := M) (fun h => absurd hs (by rw [h.2.1]; decide)) fun _ => ?_
  refine iteInduction (motive := M) (fun _ => hs) fun _ => ?_
  refine iteInduction (motive := M) (fun _ => hput cDRIFT _ (by decide)) fun _ => ?_
  exact iteInduction (motive := M) (fun _ => hs) fun _ => hs

/-- The row of a PENDING cell whose first usable report has come. -/
theorem SpCell.table_seeded (c : SpCell) (e : SpEv) (lock : Bool) (hold b t : Nat) (hst : c.st = spPending) (hc : c.close = false)
    (hb : e.byp = false) (hk : e.struck = false) (hs : e.seeded = true) :
    (c.table e lock hold b t).1 = { c with st := spProbation, cause := putBit c.cause cDRIFT false } := by
  simp [SpCell.table, hst, hc, hb, hk, hs, spPending, spBypassed, spClosing, spLocked, spAvailable, spProbation, spExcluded]

/-- The record that the table sees at the end of an update in which no report corrected. -/
theorem Dev.spJudge_uncorrected (was : Nat) (byp : Bool) (p : SpCell) (rep : Option SpRep) (hr : (s.spIntegrate u (s.cFull u.set g) p rep).2.2 = none) :
    ∃ (c : SpCell) (e : SpEv) (lock : Bool) (hold t : Nat), (s.spJudge u g was byp p rep).spCell g = (c.table e lock hold (u.n + 1) t).1.discard ∧
      let q := (s.spIntegrate u (s.cFull u.set g) p rep).1
      c.st = q.st ∧ c.close = q.close ∧ e.byp = byp ∧ e.struck = false ∧ e.seeded = (p.seeds && rep.isSome) ∧
      (rep = none → s.fs u.set F.SPINDLE_EST_CFG_STALE_LIM ≤ min 255 (q.age + 1) → bitOf c.cause cSTALE = true) := by
  unfold Dev.spJudge Dev.spTable
  dsimp only
  rw [hr, Dev.capLevel_eq]
  have hdecay : ∀ (c : SpCell) per, (c.decay per).st = c.st ∧ (c.decay per).close = c.close ∧ (c.decay per).cause = c.cause := fun c per => by
    let M := fun r : SpCell => r.st = c.st ∧ r.close = c.close ∧ r.cause = c.cause
    unfold SpCell.decay
    exact iteInduction (motive := M) (fun _ => ⟨rfl, rfl, rfl⟩) fun _ => iteInduction (motive := M) (fun _ => ⟨rfl, rfl, rfl⟩) fun _ => ⟨rfl, rfl, rfl⟩
  refine ⟨_, _, _, _, _, Dev.spCell_setSpCell_same .., (hdecay _ _).1, (hdecay _ _).2.1, rfl, rfl, rfl, fun hrep hage => ?_⟩
  have hlim : ∀ b, (s.iff b fun s => s.raise F.SPINDLE_ARM_STAT_EST_SAT u.arm).fs u.set F.SPINDLE_EST_CFG_STALE_LIM = s.fs u.set F.SPINDLE_EST_CFG_STALE_LIM :=
    fun b => Dev.fb_iff _ _ _ _ _ _ _ fun _ => Dev.fb_raise_apart _ _ _ _ _ _ (by decide)
  rw [(hdecay _ _).2.2]
  refine (bitOf_putBit_other _ _ (by decide)).trans ?_
  refine (bitOf_putBit_same ..).trans ?_
  rw [hlim, hrep]
  simp only [hrep] at hage
  simp [hage]

/-! ### The update of a cell in operation -/

/-- The device when the record is prepared: reports are counted. -/
def Dev.spTaken (s : Dev) (u : UpdCtx) (g : Nat) : Dev := ((s.spEcc g).capJudge u.set u.arm g).spAges u (s.spCell g)

theorem Dev.spTaken_moves : s.Moves [.spindle, .pair] (eccFlds ++ armFlds u.arm) g (s.spTaken u g) := by
  have hsub : ∀ {v w : Dev}, v.Moves [.spindle] (armFlds u.arm) g w → v.Moves [.spindle, .pair] (eccFlds ++ armFlds u.arm) g w := fun h =>
    h.mono (by decide) fun p hp => List.mem_append_right _ hp
  exact (((s.moves_spEcc g).mono (fun _ h => h) (fun p hp => List.mem_append_left (armFlds u.arm) hp)).trans
    (hsub ((s.spEcc g).moves_capJudge u.set u.arm g))).trans (hsub (Dev.moves_spAges _ u (s.spCell g) g))

/-- A record without errors or a window that has ended is prepared and judged. -/
theorem Dev.spCellUpdate_live (h0 : (s.spCell g).st ≠ 0) (h7 : (s.spCell g).st ≠ spBypassed) (he : (s.spCell g).ecc = [])
    (hc : (s.spCell g).capDue = none) : let c := s.spCell g
    let t := s.spTaken u g
    s.spCellUpdate u g = t.spJudge u g c.cause (u.byp c) (t.spPrepare u g c) (c.usable (u.n + 1) u.lag) := by
  have hcell : (s.spEcc g).spCell g = s.spCell g := (s.spEcc_spec g h0).2.1 he
  have hj : (s.spEcc g).capJudge u.set u.arm g = s.spEcc g := Dev.capJudge_none _ _ _ _ (by rw [hcell]; exact hc)
  have hp : ((s.spTaken u g).spPrepare u g (s.spCell g)).st = (s.spCell g).st := (SpCell.core_eq (Dev.spPrepare_core ..)).1
  dsimp only
  rw [Dev.spCellUpdate_eq]
  simp only [hj, hcell]
  rw [if_neg h0]
  unfold Dev.spTaken at hp ⊢
  rw [hj] at hp ⊢
  exact if_neg (by rw [hp]; exact h7)

/-! ### What the lanes tell of a cell -/

theorem Dev.ln_congr {s t : Dev} (hr : t.role = s.role) (hl : t.lanes = s.lanes) {G : Fld} (hG : G.blk = .trunk) (L : Nat) : t.ln G L = s.ln G L := by
  refine Dev.fb_of_regs hr ?_ ..
  unfold laneFld
  split
  · rw [hG]; exact congrArg Lanes.trunk hl
  · exact congrArg Lanes.leaf hl

theorem Dev.idState_congr {s t : Dev} (hr : t.role = s.role) (hl : t.lanes = s.lanes) (hp : t.proto = s.proto) (hg : t.glob = s.glob) :
    t.idState g = s.idState g := by
  have hact : t.actSet = s.actSet := Dev.fb_of_regs (G := F.GLOBAL_CFG_STAT_ACTIVE) hr (congrArg Glob.regs hg) ..
  have hmap : ∀ G : Fld, G.blk = .trunk → ∀ set i, t.fs set G i = s.fs set G i := fun G hG set i =>
    Dev.fb_of_regs hr (by rw [hG]; exact congrArg Lanes.trunk hl) ..
  have hcomp : ∀ set c mode, t.companion set c mode = s.companion set c mode := fun set c mode => by
    simp only [Dev.companion, hmap F.TRUNK_LANE_MAP_MODE rfl, hmap F.TRUNK_LANE_MAP_PRIM rfl]
  have hcarry : ∀ L, t.lnFlag F.LANE_LANE_STAT_CARRYING L = s.lnFlag F.LANE_LANE_STAT_CARRYING L := fun L => by
    rw [Dev.lnFlag, Dev.lnFlag, Dev.ln_congr hr hl rfl]
  have hlane : ∀ set c port, t.pathLane set c port = s.pathLane set c port := fun set c port => by
    simp only [Dev.pathLane, Dev.carryLane, hcomp, hcarry]
  have hrun : ∀ L, t.inRun L = s.inRun L := fun L => by
    rw [Dev.inRun, Dev.inRun, Dev.hasLane, Dev.hasLane, hr, Dev.lState, Dev.lState, Dev.ln_congr hr hl rfl]
  have hconc : t.cConc s.actSet g = s.cConc s.actSet g := hmap _ rfl _ _
  have hport : t.cPort s.actSet g = s.cPort s.actSet g := hmap _ rfl _ _
  have hup : t.pathUp g = s.pathUp g := by
    unfold Dev.pathUp
    rw [hact, hconc, hport]
    dsimp only
    rw [hlane, hrun, hp]
  have hwant : t.fa F.TRUNK_CELL_MAP_IDFP g = s.fa F.TRUNK_CELL_MAP_IDFP g := by rw [Dev.fa, Dev.fa, hact]; exact hmap _ rfl _ _
  rw [Dev.idState, Dev.idState, hup, hwant, hg]

/-! ### The obligation -/

/-- What an update leaves of a record without errors or a window that has ended, from what the integration makes of the prepared record. -/
theorem Dev.spCellUpdate_est (h0 : (s.spCell g).st ≠ 0) (h7 : (s.spCell g).st ≠ spBypassed) (he : (s.spCell g).ecc = [])
    (hc : (s.spCell g).capDue = none) : let c := s.spCell g
    let t := s.spTaken u g
    let p := t.spPrepare u g c
    let rep := c.usable (u.n + 1) u.lag
    let q := (t.spIntegrate u (t.cFull u.set g) p rep).1
    let c' := (s.spCellUpdate u g).spCell g
    (∀ n, c'.vAt n = q.vAt n) ∧ c'.vd = q.vd ∧ c'.hist = q.hist ∧ c'.age = (if rep.isSome then 0 else min 255 (q.age + 1)) ∧ c'.rc = q.rc := by
  have hest := Dev.spJudge_est (s.spTaken u g) u g (s.spCell g).cause (u.byp (s.spCell g)) ((s.spTaken u g).spPrepare u g (s.spCell g))
    ((s.spCell g).usable (u.n + 1) u.lag)
  rw [← s.spCellUpdate_live u g h0 h7 he hc] at hest
  obtain ⟨hv, hd, hh, ha, hr, -⟩ := SpCell.est_eq hest
  exact ⟨hv, hd, hh, ha, hr⟩

/-- No report taken shows BYPASSED where none that waits does. -/
theorem UpdCtx.byp_eq_false (c : SpCell) (h : ∀ r ∈ c.reps, r.st ≠ 4) : u.byp c = false := by
  unfold UpdCtx.byp
  rw [List.any_eq_false]
  intro r hr
  rcases List.mem_append.1 hr with hl | hu
  · simpa using h r (List.mem_filter.1 hl).1
  · have hmem : r ∈ c.reps := by
      unfold SpCell.usable at hu
      split at hu
      · simp at hu
      · exact List.mem_of_find?_eq_some (Option.mem_toList.1 hu)
    simpa using h r hmem

/-- Settles O14: the record is prepared, which leaves the estimates, then integrated. -/
theorem spindleEstimates : Obligations.SpindleEstimates := by
  unfold Obligations.SpindleEstimates
  intro s u g c v c' rep karm rc q vE vD
  refine ⟨fun h0 hdue => ?_, fun h0 => ?_, fun h0 h7 he hdue => ?_⟩
  · have hv : v = s := by
      show s.spCellUpdate u g = s
      rw [Dev.spCellUpdate_eq, s.spEcc_off g h0, s.capJudge_none _ _ _ hdue]
      exact if_pos h0
    rw [hv]
  · obtain ⟨hecc, -, hce, hue⟩ := s.spEcc_spec g h0
    have hmv := s.moves_fromEcc u g
    have hfld : ∀ G : Fld, G = F.SPINDLE_ECC_STAT_CE_CNT ∨ G = F.SPINDLE_ECC_STAT_UE_CNT → v.f G = (s.spEcc g).f G := fun G hG =>
      hmv.fld G 0 0 0 (ecc_ne_armFlds hG u.arm)
    have hpair : v.pair = (s.spEcc g).pair := by
      obtain ⟨-, -, -, -, -, -, -, -, -, -, -, -, -, -, -, -, -, hp, -⟩ := hmv.keeps
      exact hp (by decide)
    refine ⟨s.spCellUpdate_ecc u g hecc, fun hk => ?_, fun hk => ⟨?_, ?_⟩⟩
    · exact (hfld _ (.inl rfl)).trans (hce hk)
    · exact (hfld _ (.inr rfl)).trans (hue hk).1
    · rw [hpair]
      exact (hue hk).2
  · obtain ⟨hvat, hvd, hhist, hage, hrc⟩ := s.spCellUpdate_est u g h0 h7 he hdue
    have hlive := s.spCellUpdate_live u g h0 h7 he hdue
    have hmv := s.spTaken_moves u g
    generalize ht : s.spTaken u g = t at *
    have hfs : ∀ {G : Fld}, (∀ F ∈ (eccFlds ++ armFlds 0).map Prod.fst, G.apart F = true) → ∀ set i, t.fs set G i = s.fs set G i :=
      fun hG set i => hmv.fb_apart hG _ _ _
    have hfull : t.cFull u.set g = s.cFull u.set g := by rw [Dev.cFull, Dev.cFull, hfs (by decide)]
    have hid : t.idState g = s.idState g := by
      obtain ⟨hr, -, hg, -, -, -, -, hl, -⟩ := hmv.keeps
      exact Dev.idState_congr g hr (hl (by decide)).1 (hl (by decide)).2 (hg (by decide))
    have hpath := t.spPrepare_path u g c
    have hcore := SpCell.core_eq (t.spPrepare_core u g c)
    generalize hp : t.spPrepare u g c = p at *
    obtain ⟨pst, pv0, pv1, pvd, prc, page, pbad, pclose, -⟩ := hcore
    have haside := t.spIntegrate_aside u p (t.cFull u.set g) rep
    obtain ⟨qst, -, qrc, qhist, qage, -, qclose⟩ := SpCell.aside_eq haside
    have hh : c'.hist = p.hist := hhist.trans qhist
    have pvat : ∀ n, p.vAt n = c.vAt n := fun n => by rw [SpCell.vAt, SpCell.vAt, pv0, pv1]
    have hvE : (t.vEst u (t.cFull u.set g) p).1 = vE := by
      simp only [Dev.vEst, vE, q, karm, rc, hfull, pvat, prc, hh, hfs (G := F.SPINDLE_ARM_K_KARM) (by decide),
        hfs (G := F.SPINDLE_CAP_CFG_CAP_EN) (by decide)]
    have hvD : (t.vDelayed u (t.cFull u.set g) p).1 = vD := by
      simp only [Dev.vDelayed, vD, q, karm, rc, hfull, pvd, prc, hh, hfs (G := F.SPINDLE_ARM_K_KARM) (by decide),
        hfs (G := F.SPINDLE_CAP_CFG_CAP_EN) (by decide)]
    have hlive : s.spCellUpdate u g = t.spJudge u g c.cause (u.byp c) p rep := hp ▸ hlive
    have hrep : rep = c.usable (u.n + 1) u.lag := rfl
    rw [← hrep] at hvat hvd hage hrc
    refine ⟨?_, hrc.trans (qrc.trans prc), fun hn => ?_, fun r hr hpend => ?_, fun r hr hpend hok => ?_⟩
    · rw [hvat, ← pvat]
      cases hr : rep with
      | none => exact (t.spIntegrate_none u p _).2.2.1
      | some r =>
        cases hs : p.seeds
        · exact (t.spIntegrate_corrects u p _ r hs).2.2.1
        · exact (t.spIntegrate_seed u p _ r hs).2.2.1
    · rw [hn] at hvat hvd hage hlive qage
      obtain ⟨-, iE, -, iD, inone⟩ := t.spIntegrate_none u p (t.cFull u.set g)
      refine ⟨(hvat _).trans (iE.trans hvE), hvd.trans (iD.trans hvD), ?_, fun hlim => ?_⟩
      · exact hage.trans (by rw [qage, page]; rfl)
      · obtain ⟨x, e, lock, hold, tm, hx, -, -, -, -, -, hstale⟩ := t.spJudge_uncorrected u g c.cause (u.byp c) p none inone
        have hlim' : t.fs u.set F.SPINDLE_EST_CFG_STALE_LIM ≤ min 255 ((t.spIntegrate u (t.cFull u.set g) p none).1.age + 1) := by
          rw [hfs (by decide), qage, page]
          exact hlim
        have hc' : c' = (x.table e lock hold (u.n + 1) tm).1.discard := (congrArg (fun d : Dev => d.spCell g) hlive).trans hx
        rw [hc']
        exact x.table_stale e lock hold (u.n + 1) tm (hstale rfl hlim')
    · have hseeds : p.seeds = false := by simp [SpCell.seeds, pst, hpend]
      rw [hr] at hvat hvd hage
      obtain ⟨-, iE, -, iD, -⟩ := t.spIntegrate_corrects u p (t.cFull u.set g) r hseeds
      rw [hvE, hvD] at iE
      rw [hvD] at iD
      have hcorr : t.correction u p (((r.v * 2 ^ 16 : Nat) : Int) - (vD : Int)) = roundDiv true ((((r.v * 2 ^ 16 : Nat) : Int) - (vD : Int)) *
          (if c.st = spAvailable ∧ s.fs u.set F.SPINDLE_EXCL_ERR_EXCL_ERR * 2 ^ 16 < (((r.v * 2 ^ 16 : Nat) : Int) - (vD : Int)).natAbs ∧
            s.fs u.set F.SPINDLE_EXCL_CNT_EXCL_CNT ≤ c.bad + 1 then 2 ^ 16 else ((s.fs u.set F.SPINDLE_EST_CFG_KCORR : Nat) : Int))) (2 ^ 16) := by
        have hd : t.drifts u p (((r.v * 2 ^ 16 : Nat) : Int) - (vD : Int)) = true ↔ c.st = spAvailable ∧
            s.fs u.set F.SPINDLE_EXCL_ERR_EXCL_ERR * 2 ^ 16 < (((r.v * 2 ^ 16 : Nat) : Int) - (vD : Int)).natAbs ∧
            s.fs u.set F.SPINDLE_EXCL_CNT_EXCL_CNT ≤ c.bad + 1 := by
          rw [Dev.drifts, hfs (by decide), hfs (by decide), pst, pbad, Bool.and_eq_true, Bool.and_eq_true, decide_eq_true_eq, decide_eq_true_eq,
            decide_eq_true_eq, and_assoc]
        rw [Dev.correction, hfs (by decide)]
        by_cases hdrift : t.drifts u p (((r.v * 2 ^ 16 : Nat) : Int) - (vD : Int)) = true
        · rw [if_pos hdrift, if_pos (hd.1 hdrift)]; rfl
        · rw [if_neg hdrift, if_neg (mt hd.2 hdrift)]
      rw [hcorr] at iE iD
      exact ⟨(hvat _).trans iE, hvd.trans iD, hage⟩
    · have hseeds : p.seeds = true := by
        simp [SpCell.seeds, pst, hpend, hpath (hid.trans hok)]
      rw [hr] at hvat hvd hlive qst qclose
      obtain ⟨-, iE, -, iD, inone⟩ := t.spIntegrate_seed u p (t.cFull u.set g) r hseeds
      refine ⟨(hvat _).trans iE, hvd.trans iD, fun hclose hno => ?_⟩
      obtain ⟨x, e, lock, hold, tm, hx, xst, xclose, ebyp, estruck, eseeded, -⟩ := t.spJudge_uncorrected u g c.cause (u.byp c) p (some r) inone
      have hbyp : u.byp c = false := u.byp_eq_false c hno
      have hc' : c' = (x.table e lock hold (u.n + 1) tm).1.discard := (congrArg (fun d : Dev => d.spCell g) hlive).trans hx
      have hrow := x.table_seeded e lock hold (u.n + 1) tm (xst.trans (qst.trans (pst.trans hpend))) (xclose.trans (qclose.trans (pclose.trans hclose)))
        (ebyp.trans hbyp) estruck (eseeded.trans (by simp [hseeds]))
      rw [hc', hrow]
      exact ⟨rfl, bitOf_putBit_same ..⟩

end Sys2Proof.Machine
end

section
/-! The lanes of Skein: what a write of a lane's register or record changes, what it leaves, and the frame of an operation on one lane. -/

namespace Sys2Proof.Machine

/-- The two fields of lanes share no place, on whichever lanes. -/
def Fld.laneApart (G F : Fld) : Bool := G.apart F && G.onLeaf.apart F && (G.apart F.onLeaf && G.onLeaf.apart F.onLeaf)

/-- A field of lanes that shares no place with those of a list. -/
def Fld.laneFree (G : Fld) (l : List Fld) : Bool := l.all fun F => G.laneApart F

theorem Fld.laneFree_mem {G F : Fld} {l : List Fld} (h : G.laneFree l = true) (hF : F ∈ l) : G.laneApart F = true := List.all_eq_true.mp h F hF

theorem Fld.laneFree_sub {G : Fld} {l l' : List Fld} (h : G.laneFree l = true) (hl : ∀ F ∈ l', F ∈ l) : G.laneFree l' = true :=
  List.all_eq_true.mpr fun F hF => List.all_eq_true.mp h F (hl F hF)

theorem laneFld_apart {G F : Fld} (h : G.laneApart F = true) (M L : Nat) : (laneFld G M).apart (laneFld F L) = true := by
  simp only [Fld.laneApart, Bool.and_eq_true] at h
  obtain ⟨⟨h1, h2⟩, h3, h4⟩ := h
  unfold laneFld
  split <;> split <;> assumption

/-- Another field of the device shares no place with a field of a lane. -/
def Fld.offLane (G F : Fld) : Bool := G.apart F && G.apart F.onLeaf

theorem apart_laneFld {G F : Fld} (h : G.offLane F = true) (L : Nat) : G.apart (laneFld F L) = true := by
  simp only [Fld.offLane, Bool.and_eq_true] at h
  unfold laneFld
  split
  · exact h.1
  · exact h.2

theorem laneFld_w (F : Fld) (L : Nat) : (laneFld F L).w = F.w := by unfold laneFld; split <;> rfl
theorem laneFld_s1 (F : Fld) (L : Nat) : (laneFld F L).s1 = F.s1 := by unfold laneFld; split <;> rfl
theorem laneFld_home {F : Fld} (h : F.blk = .trunk) (L : Nat) : (laneFld F L).blk.home = .trunk := by
  unfold laneFld
  split
  · rw [h]; rfl
  · rfl

section
variable (s : Dev) (L M v n : Nat) {F G : Fld} (x : LaneSt)

/-! ### A field of a lane -/

@[simp] theorem Dev.ln_putLn_same : (s.putLn F L v).ln F L = v % 2 ^ F.w := by
  rw [Dev.ln, Dev.putLn, Dev.f_put_same, laneFld_w]

theorem Dev.ln_putLn_apart (h : G.laneApart F = true) : (s.putLn F L v).ln G M = s.ln G M := Dev.f_put_apart _ _ _ _ _ _ (laneFld_apart h M L)

theorem Dev.ln_putLn_other (hs : 0 < F.s1) (hb : F.blk = .trunk) (h : M ≠ L) : (s.putLn F L v).ln F M = s.ln F M := by
  refine Dev.f_put_other _ _ _ _ _ _ ?_
  unfold laneFld laneIdx
  split
  · split
    · exact .inr (Fld.key_ne_of_index hs h 0 0)
    · exact .inl (by rw [hb]; simp [Fld.onLeaf])
  · split
    · exact .inl (by rw [hb]; simp [Fld.onLeaf])
    · exact .inr (Fld.key_ne_of_index (F := F.onLeaf) hs (by omega) 0 0)

theorem Dev.f_putLn (h : G.offLane F = true) {i j : Nat} : (s.putLn F L v).f G i j = s.f G i j := Dev.f_put_apart _ _ _ _ _ _ (apart_laneFld h L)
theorem Dev.fb_putLn (h : G.offLane F = true) {b i j : Nat} : (s.putLn F L v).fb G b i j = s.fb G b i j := Dev.fb_put_apart _ _ _ _ _ _ _ (apart_laneFld h L)

/-- An event does to a lane's field what the write of its outcome does. -/
theorem Dev.ln_befall (g : Nat → Nat) (i j : Nat) : (s.befall F g i j).ln G M = (s.put F (g (s.f F i j)) i j).ln G M := Dev.befall_fb ..

theorem Dev.ln_raiseLn : (s.raiseLn F L).ln G M = (s.putLn F L 1).ln G M := Dev.befall_fb ..
theorem Dev.ln_incLn : (s.incLn F L n).ln G M = (s.putLn F L (satAdd F.w (s.ln F L) n)).ln G M := by
  rw [Dev.incLn, Dev.inc, Dev.ln_befall, laneFld_w]; rfl

theorem Dev.ln_raiseLn_apart (h : G.laneApart F = true) : (s.raiseLn F L).ln G M = s.ln G M := by rw [Dev.ln_raiseLn, Dev.ln_putLn_apart _ _ _ _ h]
theorem Dev.ln_incLn_apart (h : G.laneApart F = true) : (s.incLn F L n).ln G M = s.ln G M := by rw [Dev.ln_incLn, Dev.ln_putLn_apart _ _ _ _ h]
@[simp] theorem Dev.ln_raiseLn_same : (s.raiseLn F L).ln F L = 1 % 2 ^ F.w := by rw [Dev.ln_raiseLn, Dev.ln_putLn_same]
theorem Dev.satAdd_mod_two_pow (w a : Nat) : satAdd w a n % 2 ^ w = satAdd w a n :=
  Nat.mod_eq_of_lt (by have := Nat.two_pow_pos w; unfold satAdd; omega)
@[simp] theorem Dev.ln_incLn_same : (s.incLn F L n).ln F L = satAdd F.w (s.ln F L) n := by
  rw [Dev.ln_incLn, Dev.ln_putLn_same, Dev.satAdd_mod_two_pow]
theorem Dev.fb_raiseLn (h : G.offLane F = true) {b i j : Nat} : (s.raiseLn F L).fb G b i j = s.fb G b i j := Dev.fb_befall_apart _ _ _ _ _ _ _ (apart_laneFld h L)
theorem Dev.fb_incLn (h : G.offLane F = true) {b i j : Nat} : (s.incLn F L n).fb G b i j = s.fb G b i j := Dev.fb_befall_apart _ _ _ _ _ _ _ (apart_laneFld h L)

/-! ### A lane's record -/

@[simp] theorem Dev.lane_setLane_same : (s.setLane L x).lane L = x := Tab.get_set_same ..
theorem Dev.lane_setLane_other (h : M ≠ L) : (s.setLane L x).lane M = s.lane M := Tab.get_set_other _ _ _ _ h
@[simp] theorem Dev.fb_setLane {b i j : Nat} : (s.setLane L x).fb G b i j = s.fb G b i j := by obtain ⟨k, _⟩ := G; cases k <;> rfl
@[simp] theorem Dev.f_setLane {i j : Nat} : (s.setLane L x).f G i j = s.f G i j := Dev.fb_setLane ..
@[simp] theorem Dev.ln_setLane : (s.setLane L x).ln G M = s.ln G M := Dev.f_setLane ..
@[simp] theorem Dev.setLane_role : (s.setLane L x).role = s.role := rfl
@[simp] theorem Dev.setLane_proto : (s.setLane L x).proto = s.proto := rfl

@[simp] theorem Dev.put_laneSt (i j : Nat) : (s.put F v i j).lanes.st = s.lanes.st := by obtain ⟨b, _⟩ := F; cases b <;> rfl
@[simp] theorem Dev.lane_put (i j : Nat) : (s.put F v i j).lane M = s.lane M := by simp [Dev.lane]
@[simp] theorem Dev.lane_putLn : (s.putLn F L v).lane M = s.lane M := Dev.lane_put ..
@[simp] theorem Dev.lane_raiseLn : (s.raiseLn F L).lane M = s.lane M := Dev.lane_put ..
@[simp] theorem Dev.lane_incLn : (s.incLn F L n).lane M = s.lane M := Dev.lane_put ..
@[simp] theorem Dev.put_protoSt (i j : Nat) : (s.put F v i j).proto = s.proto := by obtain ⟨b, _⟩ := F; cases b <;> rfl
@[simp] theorem Dev.putLn_proto : (s.putLn F L v).proto = s.proto := Dev.put_protoSt ..
@[simp] theorem Dev.raiseLn_proto : (s.raiseLn F L).proto = s.proto := Dev.put_protoSt ..
@[simp] theorem Dev.incLn_proto : (s.incLn F L n).proto = s.proto := Dev.put_protoSt ..
@[simp] theorem Dev.putLn_role : (s.putLn F L v).role = s.role := Dev.put_role ..
@[simp] theorem Dev.raiseLn_role : (s.raiseLn F L).role = s.role := Dev.put_role ..
@[simp] theorem Dev.incLn_role : (s.incLn F L n).role = s.role := Dev.put_role ..
@[simp] theorem Dev.lane_emit (o : Out) : (s.emit o).lane M = s.lane M := rfl
@[simp] theorem Dev.ln_emit (o : Out) : (s.emit o).ln G M = s.ln G M := by obtain ⟨b, _⟩ := G; unfold Dev.ln laneFld; split <;> cases b <;> rfl
@[simp] theorem Dev.lane_complete (st : Status) (k : Nat) : (s.complete st k).lane M = s.lane M := rfl
@[simp] theorem Dev.ln_complete (st : Status) (k : Nat) : (s.complete st k).ln G M = s.ln G M := by obtain ⟨b, _⟩ := G; unfold Dev.ln laneFld; split <;> cases b <;> rfl
@[simp] theorem Dev.lane_begin : s.begin.lane M = s.lane M := rfl

theorem Dev.ln_iff (b : Bool) (k : Dev → Dev) (hk : b = true → (k s).ln G M = s.ln G M) : (s.iff b k).ln G M = s.ln G M :=
  Dev.iff_keeps s (·.ln G M) b k hk
theorem Dev.lane_iff (b : Bool) (k : Dev → Dev) (hk : b = true → (k s).lane M = s.lane M) : (s.iff b k).lane M = s.lane M :=
  Dev.iff_keeps s (·.lane M) b k hk
end

/-! ### Which end a lane is -/

section
variable {s u : Dev}

theorem Dev.hasLane_congr (hr : u.role = s.role) (L : Nat) : u.hasLane L = s.hasLane L := by rw [Dev.hasLane, Dev.hasLane, hr]

theorem Dev.isPair_congr (hr : u.role = s.role) {L : Nat} (hm : u.laneMode L = s.laneMode L) : u.isPair L = s.isPair L := by
  rw [Dev.isPair, Dev.isPair, hr, hm]

theorem Dev.isUp_congr (hr : u.role = s.role) (hp : u.f F.GLOBAL_ROLE_PLANE = s.f F.GLOBAL_ROLE_PLANE) {L : Nat} (hm : u.laneMode L = s.laneMode L) :
    u.isUp L = s.isUp L := by rw [Dev.isUp, Dev.isUp, Dev.isPair_congr hr hm, hr, hp]

theorem Dev.inRun_congr (hr : u.role = s.role) {L : Nat} (hs : u.lState L = s.lState L) : u.inRun L = s.inRun L := by
  rw [Dev.inRun, Dev.inRun, Dev.hasLane_congr hr, hs]

theorem Dev.inL01_congr (hr : u.role = s.role) {L : Nat} (hs : u.lState L = s.lState L)
    (hp : u.ln F.LANE_LANE_STAT_PSTATE L = s.ln F.LANE_LANE_STAT_PSTATE L) : u.inL01 L = s.inL01 L := by
  rw [Dev.inL01, Dev.inL01, Dev.inRun_congr hr hs, hp]

theorem Dev.inL01_iff {L : Nat} : s.inL01 L = true ↔ s.hasLane L = true ∧ s.lState L = lRun ∧ s.ln F.LANE_LANE_STAT_PSTATE L ≤ 1 := by
  simp [Dev.inL01, Dev.inRun, and_assoc]

theorem Dev.attempting_iff {L : Nat} : s.attempting L = true ↔
    s.lState L = lDetect ∧ s.ln F.LANE_LANE_STAT_HOLDOFF L = 0 ∧ (s.lane L).idle = false := by
  simp [Dev.attempting, Dev.lnFlag, and_assoc]

theorem Dev.laneMode_putLn (s : Dev) (L M v : Nat) {G : Fld} (h : F.TRUNK_LANE_MAP_MODE.offLane G = true) (h' : F.GLOBAL_CFG_STAT_ACTIVE.offLane G = true) :
    (s.putLn G L v).laneMode M = s.laneMode M := by
  have ha : (s.putLn G L v).actSet = s.actSet := Dev.f_putLn _ _ _ h'
  rw [Dev.laneMode, Dev.laneMode, Dev.fa, Dev.fa, ha, Dev.fb_putLn _ _ _ h]

theorem Dev.isUp_putLn (s : Dev) (L M v : Nat) {G : Fld} (h : F.TRUNK_LANE_MAP_MODE.offLane G = true) (h' : F.GLOBAL_CFG_STAT_ACTIVE.offLane G = true)
    (h'' : F.GLOBAL_ROLE_PLANE.offLane G = true) : (s.putLn G L v).isUp M = s.isUp M :=
  Dev.isUp_congr (Dev.putLn_role ..) (Dev.f_putLn _ _ _ h'') (Dev.laneMode_putLn s L M v h h')

@[simp] theorem Dev.isUp_setLane (s : Dev) (L M : Nat) (x : LaneSt) : (s.setLane L x).isUp M = s.isUp M := rfl
@[simp] theorem Dev.pairingOk_setLane (s : Dev) (L M : Nat) (x : LaneSt) : (s.setLane L x).pairingOk M = s.pairingOk M := by
  simp [Dev.pairingOk, Dev.isPair, Dev.sameConc, Dev.laneMode, Dev.fa, Dev.actSet]; rfl
@[simp] theorem Dev.hasLane_setLane (s : Dev) (L M : Nat) (x : LaneSt) : (s.setLane L x).hasLane M = s.hasLane M := rfl
end

/-! ### The frame of an operation on one lane -/

/-- The device `u` is `s` but for lane `L` and what it has put out. -/
structure Dev.OnLane (L : Nat) (outs : List Out) (s u : Dev) : Prop where
  keeps : s.Keeps [.trunk] outs u
  proto : u.proto = s.proto
  other : ∀ M, M ≠ L → u.lane M = s.lane M ∧ u.lState M = s.lState M

section
variable {s u : Dev} {L : Nat} {outs : List Out}

theorem Dev.onLane_begin (s : Dev) (L : Nat) : s.OnLane L [] s.begin := ⟨Dev.keeps_begin _ s, rfl, fun _ _ => ⟨rfl, Dev.begin_f ..⟩⟩
theorem Dev.OnLane.role (h : s.OnLane L outs u) : u.role = s.role := h.keeps.role_eq

theorem Dev.OnLane.putLn (h : s.OnLane L outs u) {G : Fld} (hb : G.blk = .trunk) (hG : G = F.LANE_LANE_STAT_STATE ∨ F.LANE_LANE_STAT_STATE.laneApart G = true) (v : Nat) :
    s.OnLane L outs (u.putLn G L v) := by
  refine ⟨h.keeps.put (by rw [laneFld_home hb]; exact List.mem_singleton_self _) _ _, by rw [Dev.putLn_proto, h.proto], fun M hM => ⟨by rw [Dev.lane_putLn, (h.other M hM).1], ?_⟩⟩
  refine Eq.trans ?_ (h.other M hM).2
  rcases hG with rfl | hG
  · exact Dev.ln_putLn_other _ _ _ _ (by decide) rfl hM
  · exact Dev.ln_putLn_apart _ _ _ _ hG

theorem Dev.OnLane.befallLn (h : s.OnLane L outs u) {G : Fld} (hb : G.blk = .trunk) (hG : F.LANE_LANE_STAT_STATE.laneApart G = true) (g : Nat → Nat) :
    s.OnLane L outs (u.befall (laneFld G L) g (laneIdx L)) := by
  have hk := h.putLn hb (.inr hG) (g (u.f (laneFld G L) (laneIdx L)))
  exact ⟨hk.keeps.setEvents _, hk.proto, fun M hM => ⟨(hk.other M hM).1, (Dev.befall_fb ..).trans (hk.other M hM).2⟩⟩

theorem Dev.OnLane.raiseLn (h : s.OnLane L outs u) {G : Fld} (hb : G.blk = .trunk) (hG : F.LANE_LANE_STAT_STATE.laneApart G = true) : s.OnLane L outs (u.raiseLn G L) :=
  h.befallLn hb hG fun _ => 1
theorem Dev.OnLane.incLn (h : s.OnLane L outs u) {G : Fld} (hb : G.blk = .trunk) (hG : F.LANE_LANE_STAT_STATE.laneApart G = true) (n : Nat) : s.OnLane L outs (u.incLn G L n) :=
  h.befallLn hb hG fun x => satAdd (laneFld G L).w x n

theorem Dev.OnLane.setLane (h : s.OnLane L outs u) (x : LaneSt) : s.OnLane L outs (u.setLane L x) :=
  ⟨h.keeps.setLanes (List.mem_singleton_self _) _, h.proto, fun M hM => ⟨by rw [Dev.lane_setLane_other _ _ _ _ hM, (h.other M hM).1],
    by rw [Dev.lState, Dev.ln_setLane]; exact (h.other M hM).2⟩⟩

theorem Dev.OnLane.emit (h : s.OnLane L outs u) (o : Out) : s.OnLane L (o :: outs) (u.emit o) :=
  ⟨h.keeps.emit o, h.proto, fun M hM => ⟨(h.other M hM).1, (Dev.ln_emit ..).trans (h.other M hM).2⟩⟩
theorem Dev.OnLane.complete (h : s.OnLane L outs u) (st : Status) (k : Nat := 0) : s.OnLane L outs (u.complete st k) :=
  ⟨h.keeps.complete st k, h.proto, fun M hM => ⟨(h.other M hM).1, (Dev.ln_complete ..).trans (h.other M hM).2⟩⟩
theorem Dev.OnLane.ite {v : Dev} (c : Prop) [Decidable c] (hu : c → s.OnLane L outs u) (hv : ¬ c → s.OnLane L outs v) : s.OnLane L outs (if c then u else v) := by
  split
  · exact hu ‹_›
  · exact hv ‹_›
theorem Dev.OnLane.iff (h : s.OnLane L outs u) (c : Bool) (g : Dev → Dev) (hg : c = true → s.OnLane L outs (g u)) : s.OnLane L outs (u.iff c g) := by
  cases c
  · exact h
  · exact hg rfl

/-! ### Attempts and losses -/

theorem Dev.OnLane.attempt (h : s.OnLane L outs u) (st : Nat) (x : LaneSt) : s.OnLane L outs (u.attempt L st x) :=
  ((h.putLn rfl (.inl rfl) _).putLn rfl (.inr (by decide)) _).setLane _

theorem Dev.OnLane.leaveRun (h : s.OnLane L outs u) : s.OnLane L outs (u.leaveRun L) :=
  .ite _ (fun _ => h) fun _ => ((((h.putLn rfl (.inr (by decide)) _).putLn rfl (.inr (by decide)) _).incLn rfl (by decide) _).putLn rfl
    (.inr (by decide)) _).putLn rfl (.inr (by decide)) _

theorem Dev.OnLane.toDetect (h : s.OnLane L outs u) (idle : Bool) : s.OnLane L outs (u.toDetect L idle) :=
  (h.leaveRun.attempt _ _).putLn rfl (.inr (by decide)) _

theorem Dev.OnLane.toAbsent (h : s.OnLane L outs u) : s.OnLane L outs (u.toAbsent L) := (h.attempt _ _).raiseLn rfl (by decide)

theorem Dev.OnLane.laneFail (h : s.OnLane L outs u) : s.OnLane L outs (u.laneFail L) :=
  .ite _ (fun _ => h.toAbsent) fun _ => ((h.attempt _ _).putLn rfl (.inr (by decide)) _).putLn rfl (.inr (by decide)) _

theorem Dev.OnLane.enterLoop (h : s.OnLane L outs u) : s.OnLane L outs (u.enterLoop L) := .ite _ (fun _ => h) fun _ => h.leaveRun.attempt _ _

theorem Dev.OnLane.laneLost (h : s.OnLane L outs u) (cause : Nat) : s.OnLane L outs (u.laneLost L cause) :=
  .ite _ (fun _ => ((h.putLn rfl (.inr (by decide)) _).raiseLn rfl (by decide)).toDetect _) fun _ =>
    .ite _ (fun _ => (h.putLn rfl (.inr (by decide)) _).toDetect _) fun _ => h

theorem Dev.OnLane.rxCount (h : s.OnLane L outs u) (groups : List Nat) : s.OnLane L outs (u.rxCount L groups).2 :=
  ((h.setLane _).incLn rfl (by decide) _).incLn rfl (by decide) _
end

section
variable (s : Dev) (L : Nat) {G : Fld}

@[simp] theorem Dev.lane_attempt (st : Nat) (x : LaneSt) : (s.attempt L st x).lane L = { x with taps := (s.lane L).taps } := by
  rw [Dev.attempt, Dev.lane_setLane_same]

@[simp] theorem Dev.lState_attempt (st : Nat) (x : LaneSt) : (s.attempt L st x).lState L = st % 8 := by
  rw [Dev.lState, Dev.attempt, Dev.ln_setLane, Dev.ln_putLn_apart _ _ _ _ (by decide), Dev.ln_putLn_same]; rfl

@[simp] theorem Dev.holdoff_attempt (st : Nat) (x : LaneSt) : (s.attempt L st x).ln F.LANE_LANE_STAT_HOLDOFF L = 0 := by
  rw [Dev.attempt, Dev.ln_setLane, Dev.ln_putLn_same]; rfl

theorem Dev.ln_attempt (st : Nat) (x : LaneSt) (h : G.laneFree [F.LANE_LANE_STAT_STATE, F.LANE_LANE_STAT_HOLDOFF] = true) (M : Nat) :
    (s.attempt L st x).ln G M = s.ln G M := by
  rw [Dev.attempt, Dev.ln_setLane, Dev.ln_putLn_apart _ _ _ _ (Fld.laneFree_mem h (by simp)), Dev.ln_putLn_apart _ _ _ _ (Fld.laneFree_mem h (by simp))]

/-- The fields that the loss of a lane in RUN changes (R181). -/
def leaveFlds : List Fld :=
  [F.LANE_LANE_STAT_TIME_VALID, F.LANE_LANE_STAT_PSTATE, F.LANE_LANE_ERR_LOSS_CNT, F.LANE_LANE_STAT_EPOCH, F.LANE_LANE_STAT_SLEWING]

theorem Dev.ln_leaveRun (h : G.laneFree leaveFlds = true) (M : Nat) : (s.leaveRun L).ln G M = s.ln G M := by
  rw [Dev.leaveRun]
  refine iteInduction (motive := fun u => Dev.ln u G M = s.ln G M) (fun _ => rfl) fun _ => ?_
  rw [Dev.ln_putLn_apart _ _ _ _ (Fld.laneFree_mem h (by simp [leaveFlds])), Dev.ln_putLn_apart _ _ _ _ (Fld.laneFree_mem h (by simp [leaveFlds])),
    Dev.ln_incLn_apart _ _ _ _ (Fld.laneFree_mem h (by simp [leaveFlds])), Dev.ln_putLn_apart _ _ _ _ (Fld.laneFree_mem h (by simp [leaveFlds])),
    Dev.ln_putLn_apart _ _ _ _ (Fld.laneFree_mem h (by simp [leaveFlds]))]

@[simp] theorem Dev.lane_leaveRun (M : Nat) : (s.leaveRun L).lane M = s.lane M := by
  rw [Dev.leaveRun]
  refine iteInduction (motive := fun u => Dev.lane u M = s.lane M) (fun _ => rfl) fun _ => ?_
  simp only [Dev.lane_putLn, Dev.lane_incLn]

/-- What the loss does to a lane in RUN (R181). -/
theorem Dev.leaveRun_run (h : s.lState L = lRun) : (s.leaveRun L).ln F.LANE_LANE_STAT_TIME_VALID L = 0 ∧
    (s.leaveRun L).ln F.LANE_LANE_STAT_EPOCH L = (s.ln F.LANE_LANE_STAT_EPOCH L + 1) % 16 ∧
    (s.leaveRun L).ln F.LANE_LANE_ERR_LOSS_CNT L = satAdd 16 (s.ln F.LANE_LANE_ERR_LOSS_CNT L) 1 := by
  rw [Dev.leaveRun, if_neg (not_not_intro h)]
  simp (disch := decide) only [Dev.ln_putLn_apart, Dev.ln_incLn_apart, Dev.ln_putLn_same, Dev.ln_incLn_same]
  exact ⟨rfl, rfl, rfl⟩

@[simp] theorem Dev.lState_toDetect (idle : Bool) : (s.toDetect L idle).lState L = lDetect := by
  rw [Dev.toDetect, Dev.lState, Dev.ln_putLn_apart _ _ _ _ (by decide)]
  exact Dev.lState_attempt ..

@[simp] theorem Dev.lane_toDetect (idle : Bool) : (s.toDetect L idle).lane L = { LaneSt.fresh with idle := idle, taps := (s.lane L).taps } := by
  rw [Dev.toDetect, Dev.lane_putLn, Dev.lane_attempt, Dev.lane_leaveRun]

@[simp] theorem Dev.retry_toDetect (idle : Bool) : (s.toDetect L idle).ln F.LANE_LANE_STAT_RETRY L = 0 := by
  rw [Dev.toDetect, Dev.ln_putLn_same]; rfl

@[simp] theorem Dev.holdoff_toDetect (idle : Bool) : (s.toDetect L idle).ln F.LANE_LANE_STAT_HOLDOFF L = 0 := by
  rw [Dev.toDetect, Dev.ln_putLn_apart _ _ _ _ (by decide), Dev.holdoff_attempt]

theorem Dev.ln_toDetect (idle : Bool)
    (h : G.laneFree (F.LANE_LANE_STAT_STATE :: F.LANE_LANE_STAT_HOLDOFF :: F.LANE_LANE_STAT_RETRY :: leaveFlds) = true) (M : Nat) :
    (s.toDetect L idle).ln G M = s.ln G M := by
  rw [Dev.toDetect, Dev.ln_putLn_apart _ _ _ _ (Fld.laneFree_mem h (by simp)), Dev.ln_attempt _ _ _ _ (Fld.laneFree_sub h (by simp)),
    Dev.ln_leaveRun _ _ (Fld.laneFree_sub h (by simp; tauto))]

/-- What DETECT takes over from a lane that was in RUN (R181). -/
theorem Dev.toDetect_run (idle : Bool) (h : s.lState L = lRun) : (s.toDetect L idle).ln F.LANE_LANE_STAT_TIME_VALID L = 0 ∧
    (s.toDetect L idle).ln F.LANE_LANE_STAT_EPOCH L = (s.ln F.LANE_LANE_STAT_EPOCH L + 1) % 16 ∧
    (s.toDetect L idle).ln F.LANE_LANE_ERR_LOSS_CNT L = satAdd 16 (s.ln F.LANE_LANE_ERR_LOSS_CNT L) 1 := by
  have hG : ∀ {G : Fld}, G.laneFree [F.LANE_LANE_STAT_STATE, F.LANE_LANE_STAT_HOLDOFF] = true → G.laneApart F.LANE_LANE_STAT_RETRY = true →
      (s.toDetect L idle).ln G L = (s.leaveRun L).ln G L := fun h1 h2 => by
    rw [Dev.toDetect, Dev.ln_putLn_apart _ _ _ _ h2, Dev.ln_attempt _ _ _ _ h1]
  rw [hG (by decide) (by decide), hG (by decide) (by decide), hG (by decide) (by decide)]
  exact s.leaveRun_run L h

theorem Dev.laneFail_again (hr : s.ln F.LANE_LANE_STAT_RETRY L < 8) (ho : (s.lane L).once = false) :
    s.laneFail L = ((s.attempt L lDetect LaneSt.fresh).putLn F.LANE_LANE_STAT_RETRY L (s.ln F.LANE_LANE_STAT_RETRY L + 1)).putLn F.LANE_LANE_STAT_HOLDOFF L 1 := by
  rw [Dev.laneFail, if_neg (by simp [ho]; omega)]

theorem Dev.laneFail_absent (h : 8 ≤ s.ln F.LANE_LANE_STAT_RETRY L ∨ (s.lane L).once = true) : s.laneFail L = s.toAbsent L := by
  rw [Dev.laneFail, if_pos h.symm]

theorem Dev.laneFail_again_spec (hr : s.ln F.LANE_LANE_STAT_RETRY L < 8) (ho : (s.lane L).once = false) :
    (s.laneFail L).lState L = lDetect ∧ (s.laneFail L).ln F.LANE_LANE_STAT_RETRY L = s.ln F.LANE_LANE_STAT_RETRY L + 1 ∧
      (s.laneFail L).ln F.LANE_LANE_STAT_HOLDOFF L = 1 := by
  rw [s.laneFail_again L hr ho]
  refine ⟨?_, ?_, Dev.ln_putLn_same ..⟩
  · rw [Dev.lState, Dev.ln_putLn_apart _ _ _ _ (by decide), Dev.ln_putLn_apart _ _ _ _ (by decide)]
    exact Dev.lState_attempt ..
  · rw [Dev.ln_putLn_apart _ _ _ _ (by decide), Dev.ln_putLn_same]
    exact Nat.mod_eq_of_lt (b := 16) (by omega)

theorem Dev.ln_laneFail (h : G.laneFree [F.LANE_LANE_STAT_STATE, F.LANE_LANE_STAT_HOLDOFF, F.LANE_LANE_STAT_RETRY, F.LANE_LANE_EVT_ABSENT] = true) (M : Nat) :
    (s.laneFail L).ln G M = s.ln G M := by
  have h2 : G.laneFree [F.LANE_LANE_STAT_STATE, F.LANE_LANE_STAT_HOLDOFF] = true :=
    Fld.laneFree_sub h (by simp)
  rw [Dev.laneFail]
  refine iteInduction (motive := fun u => Dev.ln u G M = s.ln G M) (fun _ => ?_) fun _ => ?_
  · rw [Dev.toAbsent, Dev.ln_raiseLn_apart _ _ _ (Fld.laneFree_mem h (by simp)), Dev.ln_attempt _ _ _ _ h2]
  · rw [Dev.ln_putLn_apart _ _ _ _ (Fld.laneFree_mem h (by simp)), Dev.ln_putLn_apart _ _ _ _ (Fld.laneFree_mem h (by simp)), Dev.ln_attempt _ _ _ _ h2]

/-- A lane in RUN is lost with a cause (R180, R181). -/
theorem Dev.laneLost_run (h : s.inL01 L = true) {cause : Nat} (h1 : 1 ≤ cause) (h3 : cause ≤ 3) :
    s.laneLost L cause = ((s.putLn F.LANE_LANE_ERR_LOSS_CAUSE L cause).raiseLn F.LANE_LANE_EVT_LOSS L).toDetect L true := by
  rw [Dev.laneLost, if_pos ⟨h, h1, h3⟩]

/-- What the loss of a lane in RUN with a cause shows (R180, R181). -/
theorem Dev.lost_run (h : s.lState L = lRun) {cause : Nat} (hc : cause < 16) :
    let u := ((s.putLn F.LANE_LANE_ERR_LOSS_CAUSE L cause).raiseLn F.LANE_LANE_EVT_LOSS L).toDetect L true
    u.lState L = lDetect ∧ u.ln F.LANE_LANE_ERR_LOSS_CAUSE L = cause ∧ u.ln F.LANE_LANE_EVT_LOSS L = 1 ∧ u.ln F.LANE_LANE_STAT_TIME_VALID L = 0 ∧
      u.ln F.LANE_LANE_STAT_EPOCH L = (s.ln F.LANE_LANE_STAT_EPOCH L + 1) % 16 ∧
      u.ln F.LANE_LANE_ERR_LOSS_CNT L = min 0xFFFF (s.ln F.LANE_LANE_ERR_LOSS_CNT L + 1) ∧ (u.lane L).idle = true := by
  intro u
  obtain ⟨hv, he, hl⟩ := Dev.toDetect_run ((s.putLn F.LANE_LANE_ERR_LOSS_CAUSE L cause).raiseLn F.LANE_LANE_EVT_LOSS L) L true
    (by rw [Dev.lState, Dev.ln_raiseLn_apart _ _ _ (by decide), Dev.ln_putLn_apart _ _ _ _ (by decide)]; exact h)
  rw [Dev.ln_raiseLn_apart _ _ _ (by decide), Dev.ln_putLn_apart _ _ _ _ (by decide)] at he hl
  refine ⟨Dev.lState_toDetect .., ?_, ?_, hv, he, hl, by simp [u]⟩
  · rw [Dev.ln_toDetect _ _ _ (by decide), Dev.ln_raiseLn_apart _ _ _ (by decide), Dev.ln_putLn_same]
    exact Nat.mod_eq_of_lt hc
  · rw [Dev.ln_toDetect _ _ _ (by decide), Dev.ln_raiseLn_same]; rfl
end

end Sys2Proof.Machine
end

section
/-! LANE_CFG and LANE_CMD (R168, R179, R192, R195 to R199): the word that a write of one field gives, what an accepted write does, and O19. -/

namespace Sys2Proof.Machine

/-! ### The word of LANE_CFG -/

/-- What a word of `LANE_CFG` says of EN, PWR, LOOP and RATE. -/
def cfgSays (x en pwr loop rate : Nat) : Prop := bits x 31 1 = en ∧ bits x 29 2 = pwr ∧ bits x 26 3 = loop ∧ bits x 22 2 = rate

theorem cfgSays_word {e p l t r q a : Nat} (he : e < 2) (hp : p < 4) (hl : l < 8) (ht : t < 2) (hr : r < 2) (hq : q < 4) (ha : a < 65536) :
    cfgSays (e * 2 ^ 31 + p * 2 ^ 29 + l * 2 ^ 26 + t * 2 ^ 25 + r * 2 ^ 24 + q * 2 ^ 22 + a) e p l q := by
  unfold cfgSays bits
  omega

section
variable {x en pwr loop rate : Nat} (h : cfgSays x en pwr loop rate) (v : Nat)
include h

theorem cfgSays.of_en : cfgSays (putBits x 31 1 v) (v % 2) pwr loop rate :=
  ⟨bits_putBits_same .., (bits_putBits_below _ _ _ _ (by decide)).trans h.2.1, (bits_putBits_below _ _ _ _ (by decide)).trans h.2.2.1,
    (bits_putBits_below _ _ _ _ (by decide)).trans h.2.2.2⟩
theorem cfgSays.of_pwr : cfgSays (putBits x 29 2 v) en (v % 4) loop rate :=
  ⟨(bits_putBits_above _ _ _ _ (by decide)).trans h.1, bits_putBits_same .., (bits_putBits_below _ _ _ _ (by decide)).trans h.2.2.1,
    (bits_putBits_below _ _ _ _ (by decide)).trans h.2.2.2⟩
theorem cfgSays.of_loop : cfgSays (putBits x 26 3 v) en pwr (v % 8) rate :=
  ⟨(bits_putBits_above _ _ _ _ (by decide)).trans h.1, (bits_putBits_above _ _ _ _ (by decide)).trans h.2.1, bits_putBits_same ..,
    (bits_putBits_below _ _ _ _ (by decide)).trans h.2.2.2⟩
theorem cfgSays.of_rate : cfgSays (putBits x 22 2 v) en pwr loop (v % 4) :=
  ⟨(bits_putBits_above _ _ _ _ (by decide)).trans h.1, (bits_putBits_above _ _ _ _ (by decide)).trans h.2.1,
    (bits_putBits_above _ _ _ _ (by decide)).trans h.2.2.1, bits_putBits_same ..⟩
end

/-! ### An accepted write -/

/-- The fields of `LANE_CFG` take their values. -/
def Dev.cfgPut (s : Dev) (L x pwr rate : Nat) : Dev :=
  let s := ((s.putLn F.LANE_LANE_CFG_EN L (bits x 31 1)).putLn F.LANE_LANE_CFG_PWR L pwr).putLn F.LANE_LANE_CFG_LOOP L (bits x 26 3)
  let s := ((s.putLn F.LANE_LANE_CFG_TXINV L (bits x 25 1)).putLn F.LANE_LANE_CFG_RXINV L (bits x 24 1)).putLn F.LANE_LANE_CFG_RATE L rate
  s.putLn F.LANE_LANE_CFG_ASYM L (bits x 0 16)

/-- What the lane does when `LANE_CFG` is written: `lo` and `ro` are LOOP and RATE before the write. -/
def Dev.cfgAct (s : Dev) (L lo ro en pwr loop rate : Nat) (up : Bool) : Dev :=
  if en = 0 then s.laneOff L
  else if s.lState L = lDisabled then (s.laneOn L).iff (decide (loop ≠ 0)) fun s => s.enterLoop L
  else if loop ≠ 0 ∧ loop ≠ lo then s.enterLoop L
  else if loop = 0 ∧ lo ≠ 0 then s.loopEnd L
  else if rate ≠ ro ∧ 2 ≤ s.lState L ∧ s.lState L ≤ 5 then s.toDetect L true
  else if up then s.pwrAsk L pwr
  else s

section
variable (s : Dev) {L x en pwr loop rate : Nat} {busy : Bool}

theorem Dev.laneCfgWrite_ok (hL : s.hasLane L = true) (h : cfgSays x en pwr loop rate) {p r : Nat}
    (hp : (if s.isUp L then pwr else s.ln F.LANE_LANE_CFG_PWR L) = p) (hr : (if s.isUp L then rate else s.ln F.LANE_LANE_CFG_RATE L) = r)
    (hp2 : p ≠ 2) (hr3 : r ≠ 3) (hl : loop ≤ 3) (hb : loop = 3 → s.ln F.LANE_LANE_CFG_LOOP L ≠ 3 → busy = false) :
    s.laneCfgWrite L x busy =
      (.ok, (s.cfgPut L x p r).cfgAct L (s.ln F.LANE_LANE_CFG_LOOP L) (s.ln F.LANE_LANE_CFG_RATE L) en p loop r (s.isUp L)) := by
  obtain ⟨rfl, rfl, rfl, rfl⟩ := h
  subst hp hr
  have hbb : ¬ (bits x 26 3 = 3 ∧ s.ln F.LANE_LANE_CFG_LOOP L ≠ 3 ∧ busy = true) := fun ⟨h1, h2, h3⟩ => by simp [hb h1 h2] at h3
  rw [Dev.laneCfgWrite]
  dsimp only
  rw [if_neg (not_not_intro hL), if_neg (by rintro (h | h | h); exacts [hp2 h, hr3 h, by omega]), if_neg hbb]
  rfl

theorem Dev.laneCfgWrite_invalid (hL : s.hasLane L = true) (h : cfgSays x en pwr loop rate) (hbad : s.isUp L = true ∧ rate = 3 ∨ 3 < loop) :
    s.laneCfgWrite L x busy = (.invalid, s) := by
  obtain ⟨rfl, rfl, rfl, rfl⟩ := h
  rw [Dev.laneCfgWrite]
  dsimp only
  refine (if_neg (not_not_intro hL)).trans (if_pos ?_)
  rcases hbad with ⟨hu, h3⟩ | h3
  · exact .inr (.inl (by rw [if_pos hu]; exact h3))
  · exact .inr (.inr h3)

theorem Dev.laneCfgWrite_busy (hL : s.hasLane L = true) (h : cfgSays x en pwr 3 rate) (hl : s.ln F.LANE_LANE_CFG_LOOP L ≠ 3)
    (hp2 : (if s.isUp L then pwr else s.ln F.LANE_LANE_CFG_PWR L) ≠ 2) (hr3 : (if s.isUp L then rate else s.ln F.LANE_LANE_CFG_RATE L) ≠ 3) :
    s.laneCfgWrite L x true = (.busy, s) := by
  obtain ⟨rfl, rfl, hx, rfl⟩ := h
  rw [Dev.laneCfgWrite]
  dsimp only
  rw [hx, if_neg (not_not_intro hL), if_neg (by rintro (h | h | h); exacts [hp2 h, hr3 h, by omega]), if_pos ⟨rfl, hl, rfl⟩]
  rfl

/-! ### What the write leaves -/

def cfgFlds : List Fld := [F.LANE_LANE_CFG_EN, F.LANE_LANE_CFG_PWR, F.LANE_LANE_CFG_LOOP, F.LANE_LANE_CFG_TXINV, F.LANE_LANE_CFG_RXINV,
  F.LANE_LANE_CFG_RATE, F.LANE_LANE_CFG_ASYM]

variable {s}

@[simp] theorem Dev.lane_cfgPut (M : Nat) : (s.cfgPut L x pwr rate).lane M = s.lane M := by simp only [Dev.cfgPut, Dev.lane_putLn]

theorem Dev.ln_cfgPut {G : Fld} (h : G.laneFree cfgFlds = true) (M : Nat) : (s.cfgPut L x pwr rate).ln G M = s.ln G M := by
  have ha : ∀ F ∈ cfgFlds, G.laneApart F = true := fun _ => Fld.laneFree_mem h
  simp only [cfgFlds, List.forall_mem_cons] at ha
  obtain ⟨h1, h2, h3, h4, h5, h6, h7, -⟩ := ha
  rw [Dev.cfgPut, Dev.ln_putLn_apart _ _ _ _ h7, Dev.ln_putLn_apart _ _ _ _ h6, Dev.ln_putLn_apart _ _ _ _ h5, Dev.ln_putLn_apart _ _ _ _ h4,
    Dev.ln_putLn_apart _ _ _ _ h3, Dev.ln_putLn_apart _ _ _ _ h2, Dev.ln_putLn_apart _ _ _ _ h1]

theorem Dev.lState_cfgPut (M : Nat) : (s.cfgPut L x pwr rate).lState M = s.lState M := Dev.ln_cfgPut (by decide) M

theorem Dev.cfgPut_fields : (s.cfgPut L x pwr rate).ln F.LANE_LANE_CFG_EN L = bits x 31 1 % 2 ∧ (s.cfgPut L x pwr rate).ln F.LANE_LANE_CFG_PWR L = pwr % 4 ∧
    (s.cfgPut L x pwr rate).ln F.LANE_LANE_CFG_LOOP L = bits x 26 3 % 8 ∧ (s.cfgPut L x pwr rate).ln F.LANE_LANE_CFG_RATE L = rate % 4 := by
  simp (disch := decide) only [Dev.cfgPut, Dev.ln_putLn_apart, Dev.ln_putLn_same]
  exact ⟨rfl, rfl, rfl, rfl⟩

/-- EN, PWR, LOOP and RATE as written, where the values fit. -/
theorem Dev.cfgPut_says (h : cfgSays x en pwr loop rate) {p r : Nat} (hp : p < 4) (hr : r < 4) : (s.cfgPut L x p r).ln F.LANE_LANE_CFG_EN L = en ∧
    (s.cfgPut L x p r).ln F.LANE_LANE_CFG_PWR L = p ∧ (s.cfgPut L x p r).ln F.LANE_LANE_CFG_LOOP L = loop ∧ (s.cfgPut L x p r).ln F.LANE_LANE_CFG_RATE L = r := by
  obtain ⟨he, hpw, hl, hra⟩ := Dev.cfgPut_fields (s := s) (L := L) (x := x) (pwr := p) (rate := r)
  obtain ⟨rfl, -, rfl, -⟩ := h
  have h1 : bits x 31 1 < 2 := bits_lt x 31 1
  have h3 : bits x 26 3 < 8 := bits_lt x 26 3
  exact ⟨he.trans (Nat.mod_eq_of_lt h1), hpw.trans (Nat.mod_eq_of_lt hp), hl.trans (Nat.mod_eq_of_lt h3), hra.trans (Nat.mod_eq_of_lt hr)⟩

theorem Dev.OnLane.cfgPut {s u : Dev} {outs : List Out} (h : s.OnLane L outs u) : s.OnLane L outs (u.cfgPut L x pwr rate) :=
  ((((((h.putLn rfl (.inr (by decide)) _).putLn rfl (.inr (by decide)) _).putLn rfl (.inr (by decide)) _).putLn rfl (.inr (by decide)) _).putLn rfl
    (.inr (by decide)) _).putLn rfl (.inr (by decide)) _).putLn rfl (.inr (by decide)) _

/-! ### What the lane does then -/

theorem Dev.OnLane.laneOff {s u : Dev} {outs : List Out} (h : s.OnLane L outs u) : s.OnLane L outs (u.laneOff L) :=
  (h.leaveRun.attempt _ _).putLn rfl (.inr (by decide)) _

theorem Dev.OnLane.pwrAsk {s u : Dev} {outs : List Out} (h : s.OnLane L outs u) (p : Nat) : s.OnLane L outs (u.pwrAsk L p) :=
  .ite _ (fun _ => h) fun _ => .ite _ (fun _ => h.setLane _) fun _ => .ite _ (fun _ => (h.putLn rfl (.inr (by decide)) _).setLane _) fun _ => h.setLane _

theorem Dev.OnLane.cfgAct {s u : Dev} {outs : List Out} (h : s.OnLane L outs u) {lo ro : Nat} {up : Bool} :
    s.OnLane L outs (u.cfgAct L lo ro en pwr loop rate up) :=
  .ite _ (fun _ => h.laneOff) fun _ => .ite _ (fun _ => .iff (.ite _ (fun _ => h.toDetect _) fun _ => h) _ _ fun _ => .enterLoop (.ite _ (fun _ => h.toDetect _) fun _ => h))
    fun _ => .ite _ (fun _ => h.enterLoop) fun _ => .ite _ (fun _ => .ite _ (fun _ => h.toDetect _) fun _ => h) fun _ => .ite _ (fun _ => h.toDetect _) fun _ =>
      .ite _ (fun _ => h.pwrAsk _) fun _ => h

end

/-! ### O19 -/

/-- The write of one field of `LANE_CFG` that is accepted. -/
theorem State.runs_laneCfg {s : State} {c : Instr} {L lo w v en pwr loop rate p r : Nat} (hrun : s.Runs c (Acted.dev (s.dev.begin.laneField L lo w v)))
    (hL : s.dev.hasLane L = true) (hb : s.dev.blockStatus (laneBlk L) (laneReg L 0) = .ok)
    (h : cfgSays (putBits (s.dev.laneCfg L) lo w v) en pwr loop rate)
    (hp : (if s.dev.isUp L then pwr else s.dev.ln F.LANE_LANE_CFG_PWR L) = p) (hr : (if s.dev.isUp L then rate else s.dev.ln F.LANE_LANE_CFG_RATE L) = r)
    (hp2 : p ≠ 2) (hr3 : r ≠ 3) (hl : loop ≤ 3) (hbusy : loop = 3 → s.dev.ln F.LANE_LANE_CFG_LOOP L ≠ 3 → s.dev.loopBusy L = false) :
    s.Runs c (((s.dev.begin.cfgPut L (putBits (s.dev.laneCfg L) lo w v) p r).cfgAct L (s.dev.ln F.LANE_LANE_CFG_LOOP L) (s.dev.ln F.LANE_LANE_CFG_RATE L)
      en p loop r (s.dev.isUp L)).complete .ok) := by
  have hw := Dev.laneCfgWrite_ok s.dev.begin (x := putBits (s.dev.laneCfg L) lo w v) (busy := s.dev.loopBusy L) hL h hp hr hp2 hr3 hl hbusy
  refine hrun.of_eq ?_
  rw [Dev.laneField, Dev.served_begin hb]
  exact congrArg Acted.dev hw

/-- The write of one field of `LANE_CFG` that is turned away. -/
theorem State.runs_laneCfg_denied {s : State} {c : Instr} {L lo w v : Nat} {st : Status} (hrun : s.Runs c (Acted.dev (s.dev.begin.laneField L lo w v)))
    (hb : s.dev.blockStatus (laneBlk L) (laneReg L 0) = .ok)
    (h : s.dev.begin.laneCfgWrite L (putBits (s.dev.laneCfg L) lo w v) (s.dev.loopBusy L) = (st, s.dev.begin)) : s.Runs c (s.dev.begin.complete st) := by
  refine hrun.of_eq ?_
  rw [Dev.laneField, Dev.served_begin hb]
  exact congrArg Acted.dev h

theorem State.runs_laneCmd {s : State} {c : Instr} {L : Nat} {g : Dev → Dev} (hrun : s.Runs c (Acted.dev (s.dev.begin.laneCmd L g)))
    (hL : s.dev.hasLane L = true) (hb : s.dev.blockStatus (laneBlk L) (laneReg L 0x2C) = .ok) : s.Runs c ((g s.dev.begin).complete .ok) := by
  refine hrun.of_eq ?_
  rw [Dev.laneCmd, Dev.served_begin hb]
  exact congrArg Acted.dev (if_pos hL)

section
variable (u : Dev) (L lo ro en pwr loop rate : Nat) (up : Bool)

/-- A lane that is enabled: it begins to train (R179). -/
theorem Dev.cfgAct_on (h : u.lState L = lDisabled) : u.cfgAct L lo ro 1 pwr 0 rate up = u.toDetect L false := by
  rw [Dev.cfgAct, if_neg (by decide), if_pos h, Dev.laneOn, if_pos h]; rfl

theorem Dev.cfgAct_off : u.cfgAct L lo ro 0 pwr loop rate up = u.laneOff L := if_pos rfl

theorem Dev.cfgAct_enterLoop (h : u.lState L ≠ lDisabled) (h1 : loop ≠ 0) (h2 : loop ≠ lo) : u.cfgAct L lo ro 1 pwr loop rate up = u.enterLoop L := by
  rw [Dev.cfgAct, if_neg (by decide), if_neg h, if_pos ⟨h1, h2⟩]

theorem Dev.cfgAct_loopEnd (h : u.lState L = lLoop) (h1 : lo ≠ 0) : u.cfgAct L lo ro 1 pwr 0 rate up = u.toDetect L false := by
  rw [Dev.cfgAct, if_neg (by decide), if_neg (by rw [h]; decide), if_neg (by simp), if_pos ⟨rfl, h1⟩, Dev.loopEnd, if_pos h]

/-- Another rate: the lane trains anew (R168, R179). -/
theorem Dev.cfgAct_rate (h2 : 2 ≤ u.lState L) (h5 : u.lState L ≤ 5) (h1 : rate ≠ ro) : u.cfgAct L 0 ro 1 pwr 0 rate up = u.toDetect L true := by
  rw [Dev.cfgAct, if_neg (by decide), if_neg (fun h => by rw [h] at h2; exact absurd h2 (by decide)), if_neg (by simp), if_neg (by simp), if_pos ⟨h1, h2, h5⟩]

/-- Neither EN, LOOP nor RATE has changed. -/
theorem Dev.cfgAct_same (h : u.lState L ≠ lDisabled) : u.cfgAct L lo ro 1 pwr lo ro up = if up then u.pwrAsk L pwr else u := by
  rw [Dev.cfgAct, if_neg (by decide), if_neg h, if_neg (by simp), if_neg (by simp), if_neg (by simp)]

theorem Dev.ln_pwrAsk {G : Fld} (h : G.laneApart F.LANE_LANE_STAT_PSTATE = true) (M : Nat) : (u.pwrAsk L pwr).ln G M = u.ln G M := by
  rw [Dev.pwrAsk]
  refine iteInduction (motive := fun v => Dev.ln v G M = u.ln G M) (fun _ => rfl) fun _ => ?_
  refine iteInduction (motive := fun v => Dev.ln v G M = u.ln G M) (fun _ => Dev.ln_setLane ..) fun _ => ?_
  refine iteInduction (motive := fun v => Dev.ln v G M = u.ln G M) (fun _ => ?_) fun _ => Dev.ln_setLane ..
  rw [Dev.ln_setLane, Dev.ln_putLn_apart _ _ _ _ h]

theorem Dev.pwrAsk_fromL3 (h : u.lState L = lRun) (h3 : u.ln F.LANE_LANE_STAT_PSTATE L = 3) (hp : pwr ≠ 3) :
    u.pwrAsk L pwr = u.setLane L { u.lane L with exit := some pwr } := by
  rw [Dev.pwrAsk]
  dsimp only
  rw [if_neg (by rw [h, h3]; simp [hp]), if_pos h3]

theorem Dev.pwrAsk_L0 (h : u.lState L = lRun) (h3 : u.ln F.LANE_LANE_STAT_PSTATE L ≠ 3) (h0 : u.ln F.LANE_LANE_STAT_PSTATE L ≠ 0) :
    u.pwrAsk L 0 = (u.putLn F.LANE_LANE_STAT_PSTATE L 0).setLane L { u.lane L with pwrPend := none } := by
  rw [Dev.pwrAsk]
  dsimp only
  rw [if_neg (by rw [h]; simp [h0.symm]), if_neg h3, if_pos rfl]

theorem Dev.pwrAsk_wait (h : u.lState L = lRun) (h3 : u.ln F.LANE_LANE_STAT_PSTATE L ≠ 3) (hp : pwr ≠ u.ln F.LANE_LANE_STAT_PSTATE L) (h0 : pwr ≠ 0) :
    u.pwrAsk L pwr = u.setLane L { u.lane L with pwrPend := some pwr } := by
  rw [Dev.pwrAsk]
  dsimp only
  rw [if_neg (by rw [h]; simp [hp]), if_neg h3, if_neg h0]
end

/-- What an accepted write shows of the lane's other state: nothing changed but lane `L`, and the command is done. -/
theorem Dev.OnLane.done {s u : Dev} {L : Nat} (h : s.OnLane L [] u) : (u.complete .ok).cpl = some (.ok, 0) ∧ s.Keeps [.trunk] [] (u.complete .ok) ∧
    (u.complete .ok).proto = s.proto ∧ ∀ M, M ≠ L → (u.complete .ok).lane M = s.lane M ∧ (u.complete .ok).lState M = s.lState M :=
  ⟨rfl, (h.complete .ok).keeps, (h.complete .ok).proto, (h.complete .ok).other⟩

/-- A power state that is asked for at the upstream end (R192). -/
theorem State.runs_pwr {s : State} {c : Instr} {L p : Nat} (hp : p < 4) (hp2 : p ≠ 2) (hrun : s.Runs c (Acted.dev (s.dev.begin.laneField L 29 2 p)))
    (hL : s.dev.hasLane L = true) (hb : s.dev.blockStatus (laneBlk L) (laneReg L 0) = .ok) (hr3 : s.dev.ln F.LANE_LANE_CFG_RATE L < 3)
    (hw : cfgSays (putBits (s.dev.laneCfg L) 29 2 p) 1 p 0 (s.dev.ln F.LANE_LANE_CFG_RATE L)) (hu : s.dev.isUp L = true)
    (hlo : s.dev.ln F.LANE_LANE_CFG_LOOP L = 0) (hst : s.dev.lState L = lRun) :
    ∃ u, s.Runs c ((u.pwrAsk L p).complete .ok) ∧ s.dev.OnLane L [] u ∧ u.lState L = lRun ∧ u.ln F.LANE_LANE_CFG_PWR L = p ∧
      u.ln F.LANE_LANE_STAT_PSTATE L = s.dev.ln F.LANE_LANE_STAT_PSTATE L := by
  have hr := s.runs_laneCfg hrun hL hb hw (if_pos hu) (if_pos hu) hp2 (by omega) (by omega) (by simp)
  have hs : (s.dev.begin.cfgPut L (putBits (s.dev.laneCfg L) 29 2 p) p (s.dev.ln F.LANE_LANE_CFG_RATE L)).lState L = lRun :=
    (Dev.lState_cfgPut L).trans ((Dev.begin_ln ..).trans hst)
  rw [hlo, Dev.cfgAct_same _ _ _ _ _ _ (by rw [hs]; decide), if_pos hu] at hr
  exact ⟨_, hr, (Dev.onLane_begin s.dev L).cfgPut, hs, (Dev.cfgPut_says hw hp (by omega)).2.1, (Dev.ln_cfgPut (by decide) L).trans (Dev.begin_ln ..)⟩

/-- Settles O19: a write of one field of LANE_CFG is the write of its word, which is turned away or takes its fields and then acts on the
lane (`runs_laneCfg`); the operations of LANE_CMD act on the lane at once. -/
theorem laneConfiguration : Obligations.LaneConfiguration := by
  unfold Obligations.LaneConfiguration
  intro s L hL d st cfg rest hw
  simp only [List.forall_mem_cons] at hw
  obtain ⟨hen, hpwr, hloop, htx, hrx, hrate, hasym, -⟩ := hw
  have hsays : cfgSays (s.dev.laneCfg L) (s.dev.ln F.LANE_LANE_CFG_EN L) (s.dev.ln F.LANE_LANE_CFG_PWR L) (s.dev.ln F.LANE_LANE_CFG_LOOP L)
      (s.dev.ln F.LANE_LANE_CFG_RATE L) := cfgSays_word hen hpwr hloop htx hrx hrate hasym
  have hst : ∀ {x p r : Nat}, (d.cfgPut L x p r).lState L = st := (Dev.lState_cfgPut L).trans (Dev.begin_ln ..)
  have hon : ∀ {x p r : Nat}, s.dev.OnLane L [] (d.cfgPut L x p r) := (Dev.onLane_begin s.dev L).cfgPut
  have hd : s.dev.OnLane L [] d := Dev.onLane_begin s.dev L
  have hL' : d.hasLane L = true := hL
  refine ⟨fun hb => ⟨fun h0 hlo hp2 hr3 => ?enable, fun hl3 hp2 hr3 => ?disable, fun hu => ?rate3, fun r hr3 hc hu hlo hne h2 h5 => ?rate, fun r hr4 hc hu hl3 h0 => ?rateDown,
    fun v h3 h8 => ?loopInvalid, fun hc hlo hbusy => ?loopBusy, fun v h1 h3 hc hne hbusy h0 => ?loop, fun hc hlo hl => ?loopEnd,
    fun p row hrow hc hu hlo hr hne => ?pwr⟩,
    fun hb => ⟨fun h2 h5 => ?retrain, fun h => ?retrainNot, ?unfreeze, fun hu hl => ?remeasure, fun hu => ?remeasureNot⟩⟩
  case enable =>
    have hx := hsays.of_en 1
    have hr := s.runs_laneCfg s.runs_laneEnable hL hb hx (ite_self _) (ite_self _) hp2 (by omega) (by omega) (fun h => by omega)
    rw [hlo, Dev.cfgAct_on _ _ _ _ _ _ _ (hst.trans h0)] at hr
    refine hr.does ⟨?_, ?_, ?_, ?_, (hon.toDetect _).done⟩
    · exact (Dev.ln_complete ..).trans (Dev.lState_toDetect ..)
    · rw [Dev.ln_complete, Dev.ln_toDetect _ _ _ (by decide)]; exact (Dev.cfgPut_says hx hpwr hrate).1
    · rw [Dev.ln_complete, Dev.retry_toDetect]
    · rw [Dev.ln_complete, Dev.holdoff_toDetect]
  case disable =>
    have hx := hsays.of_en 0
    have hr := s.runs_laneCfg s.runs_laneDisable hL hb hx (ite_self _) (ite_self _) hp2 (by omega) hl3 (fun h h' => absurd h h')
    rw [Dev.cfgAct_off] at hr
    have hG : ∀ {G : Fld} {u : Dev}, G.laneFree [F.LANE_LANE_STAT_STATE, F.LANE_LANE_STAT_HOLDOFF] = true → G.laneApart F.LANE_LANE_STAT_CARRYING = true →
        ((u.laneOff L).complete .ok).ln G L = (u.leaveRun L).ln G L := fun h1 h2 => by
      rw [Dev.ln_complete, Dev.laneOff, Dev.ln_putLn_apart _ _ _ _ h2, Dev.ln_attempt _ _ _ _ h1]
    refine hr.does ⟨?_, ?_, ?_, fun hrun => ?_, hon.laneOff.done⟩
    · rw [Dev.lState, Dev.ln_complete, Dev.laneOff, Dev.ln_putLn_apart _ _ _ _ (by decide)]; exact Dev.lState_attempt ..
    · rw [hG (by decide) (by decide), Dev.ln_leaveRun _ _ (by decide)]; exact (Dev.cfgPut_says hx hpwr hrate).1
    · rw [Dev.ln_complete, Dev.laneOff, Dev.ln_putLn_same]; rfl
    · rw [hG (by decide) (by decide), hG (by decide) (by decide)]
      obtain ⟨h1, h2, -⟩ := Dev.leaveRun_run _ L ((hst (x := putBits (s.dev.laneCfg L) 31 1 0) (p := s.dev.ln F.LANE_LANE_CFG_PWR L)
        (r := s.dev.ln F.LANE_LANE_CFG_RATE L)).trans hrun)
      rw [Dev.ln_cfgPut (by decide) L, Dev.begin_ln] at h2
      exact ⟨h1, h2⟩
  case rate3 =>
    exact s.runs_laneCfg_denied s.runs_rateWrite hb (Dev.laneCfgWrite_invalid _ hL' (hsays.of_rate 3) (.inl ⟨hu, rfl⟩))
  case rate =>
    obtain ⟨he, hp2, hr⟩ := hc
    have hx := hsays.of_rate r
    have h4 : r % 4 = r := Nat.mod_eq_of_lt (by omega)
    rw [he, h4] at hx
    have hr := s.runs_laneCfg s.runs_rateWrite hL hb hx (ite_self _) (if_pos hu) hp2 (by omega) (by omega) (fun h => by omega)
    rw [hlo, Dev.cfgAct_rate _ _ _ _ _ _ (by rwa [hst]) (by rwa [hst]) hne] at hr
    refine hr.does ⟨?_, ?_, ?_, (hon.toDetect _).done⟩
    · rw [Dev.ln_complete, Dev.ln_toDetect _ _ _ (by decide)]; exact (Dev.cfgPut_says hx hpwr (by omega)).2.2.2
    · exact (Dev.ln_complete ..).trans (Dev.lState_toDetect ..)
    · rw [Dev.lane_complete, Dev.lane_toDetect]
  case rateDown =>
    obtain ⟨he, hp2, hr⟩ := hc
    have hx := hsays.of_rate r
    rw [he] at hx
    have hu' : ¬ s.dev.isUp L = true := by simp [hu]
    have hr := s.runs_laneCfg s.runs_rateWrite hL hb hx (ite_self _) (if_neg hu') hp2 (by omega) hl3 (fun h h' => absurd h h')
    rw [Dev.cfgAct_same _ _ _ _ _ _ (by rwa [hst]), if_neg hu'] at hr
    refine hr.does ⟨?_, (Dev.ln_complete ..).trans hst, hon.done⟩
    rw [Dev.ln_complete]; exact (Dev.cfgPut_says hx hpwr hrate).2.2.2
  case loopInvalid =>
    have hx := hsays.of_loop v
    rw [Nat.mod_eq_of_lt h8] at hx
    exact s.runs_laneCfg_denied s.runs_loopWrite hb (Dev.laneCfgWrite_invalid _ hL' hx (.inr h3))
  case loopBusy =>
    obtain ⟨he, hp2, hr⟩ := hc
    refine s.runs_laneCfg_denied s.runs_loopWrite hb ?_
    rw [hbusy]
    exact Dev.laneCfgWrite_busy _ hL' (hsays.of_loop 3) hlo (by rw [Dev.begin_ln, ite_self]; exact hp2) (by rw [Dev.begin_ln, ite_self]; omega)
  case loop =>
    obtain ⟨he, hp2, hr⟩ := hc
    have hx := hsays.of_loop v
    rw [he, Nat.mod_eq_of_lt (by omega)] at hx
    have hr := s.runs_laneCfg s.runs_loopWrite hL hb hx (ite_self _) (ite_self _) hp2 (by omega) h3 (fun _ _ => hbusy)
    have h0' := h0
    rw [← hst (x := putBits (s.dev.laneCfg L) 26 3 v) (p := s.dev.ln F.LANE_LANE_CFG_PWR L) (r := s.dev.ln F.LANE_LANE_CFG_RATE L)] at h0'
    rw [Dev.cfgAct_enterLoop _ _ _ _ _ _ _ _ h0' (by omega) hne, Dev.enterLoop, if_neg h0'] at hr
    refine hr.does ⟨?_, ?_, (hon.leaveRun.attempt _ _).done⟩
    · exact (Dev.ln_complete ..).trans (Dev.lState_attempt ..)
    · rw [Dev.ln_complete, Dev.ln_attempt _ _ _ _ (by decide), Dev.ln_leaveRun _ _ (by decide)]; exact (Dev.cfgPut_says hx hpwr hrate).2.2.1
  case loopEnd =>
    obtain ⟨he, hp2, hr⟩ := hc
    have hx := hsays.of_loop 0
    rw [he] at hx
    have hr := s.runs_laneCfg s.runs_loopWrite hL hb hx (ite_self _) (ite_self _) hp2 (by omega) (by omega) (fun h => by omega)
    rw [Dev.cfgAct_loopEnd _ _ _ _ _ _ _ (hst.trans hl) hlo] at hr
    refine hr.does ⟨?_, ?_, ?_, (hon.toDetect _).done⟩
    · exact (Dev.ln_complete ..).trans (Dev.lState_toDetect ..)
    · rw [Dev.ln_complete, Dev.ln_toDetect _ _ _ (by decide)]; exact (Dev.cfgPut_says hx hpwr hrate).2.2.1
    · rw [Dev.ln_complete, Dev.retry_toDetect]
  case pwr =>
    obtain ⟨he, hp2, hr3⟩ := hc
    have hx := hsays.of_pwr p
    rw [he, hlo] at hx
    have hrun : (p = 1 ∨ p = 3 ∨ p = 0) ∧ s.Runs row (Acted.dev (d.laneField L 29 2 p)) := by
      simp only [List.mem_cons, Prod.mk.injEq, List.mem_nil_iff, or_false] at hrow
      rcases hrow with ⟨rfl, rfl⟩ | ⟨rfl, rfl⟩ | ⟨rfl, rfl⟩
      · exact ⟨.inl rfl, s.runs_pwrL1⟩
      · exact ⟨.inr (.inl rfl), s.runs_pwrL3⟩
      · exact ⟨.inr (.inr rfl), s.runs_pwrL0⟩
    obtain ⟨hp, hrun⟩ := hrun
    rw [Nat.mod_eq_of_lt (by omega)] at hx
    obtain ⟨u, hu, hon, hsu, hpu, hps⟩ := s.runs_pwr (by omega) (by omega) hrun hL hb hr3 hx hu hlo hr
    refine ⟨fun h3 => hu.does ⟨?_, ?_, fun h0 => ?_, fun h0 => ?_, (hon.pwrAsk p).done⟩, fun h3 => hu.does ?_⟩
    · rw [Dev.ln_complete, Dev.ln_pwrAsk _ _ _ (by decide)]; exact hpu
    · rw [Dev.lState, Dev.ln_complete, Dev.ln_pwrAsk _ _ _ (by decide)]; exact hsu
    · subst h0
      rw [Dev.pwrAsk_L0 _ _ hsu (by rwa [hps]) (by rw [hps]; exact hne.symm), Dev.ln_complete, Dev.ln_setLane, Dev.ln_putLn_same, Dev.lane_complete, Dev.lane_setLane_same]
      exact ⟨rfl, rfl⟩
    · rw [Dev.pwrAsk_wait _ _ _ hsu (by rwa [hps]) (by rwa [hps]) h0, Dev.ln_complete, Dev.ln_setLane, hps, Dev.lane_complete, Dev.lane_setLane_same]
      exact ⟨rfl, rfl⟩
    · have ha := hon.pwrAsk p
      rw [Dev.pwrAsk_fromL3 _ _ _ hsu (by rwa [hps]) (by rwa [← h3])] at ha ⊢
      exact ⟨by simp [hpu], by simp [hps, h3], by simp, ha.done⟩
  case retrain =>
    refine (s.runs_laneCmd s.runs_retrain hL hb).does ?_
    have hr : d.laneRetrain L = (d.putLn F.LANE_LANE_ERR_LOSS_CAUSE L 4).toDetect L true := if_pos ⟨by rwa [Dev.lState, Dev.begin_ln], by rwa [Dev.lState, Dev.begin_ln]⟩
    rw [hr]
    refine ⟨?_, ?_, ?_, ?_, ((hd.putLn rfl (.inr (by decide)) _).toDetect _).done⟩
    · exact (Dev.ln_complete ..).trans (Dev.lState_toDetect ..)
    · rw [Dev.ln_complete, Dev.retry_toDetect]
    · rw [Dev.ln_complete, Dev.ln_toDetect _ _ _ (by decide), Dev.ln_putLn_same]; rfl
    · rw [Dev.lane_complete, Dev.lane_toDetect]
  case retrainNot =>
    have hr : d.laneRetrain L = d := if_neg (fun hh => by rw [show d.lState L = st from Dev.begin_ln ..] at hh; omega)
    have h := s.runs_laneCmd s.runs_retrain hL hb
    rwa [hr] at h
  case unfreeze =>
    refine (s.runs_laneCmd s.runs_unfreeze hL hb).does ⟨?_, ?_, ((hd.putLn rfl (.inr (by decide)) _).setLane _).done⟩
    · rw [Dev.ln_complete, Dev.unfreeze, Dev.ln_setLane, Dev.ln_putLn_same]; rfl
    · rw [Dev.lState, Dev.ln_complete, Dev.unfreeze, Dev.ln_setLane, Dev.ln_putLn_apart _ _ _ _ (by decide), Dev.begin_ln]; rfl
  case remeasure =>
    have hr : d.remeasure L = _ := if_pos ⟨hu, hl⟩
    have h := s.runs_laneCmd s.runs_remeasure hL hb
    rwa [hr] at h
  case remeasureNot =>
    have hr : d.remeasure L = d := if_neg (fun h => by simp [show d.isUp L = s.dev.isUp L from rfl, hu] at h)
    have h := s.runs_laneCmd s.runs_remeasure hL hb
    rwa [hr] at h

end Sys2Proof.Machine
end

section
/-! Training of a lane (R171 to R179): what each event does in the state it belongs to, and O20. -/

namespace Sys2Proof.Machine

/-! ### A training set that arrives -/

/-- What a lane in training remembers of a /TRN/. -/
def LaneSt.seen (x : LaneSt) (t : Trn) : LaneSt := { x with seenUp := x.seenUp || (decide (2 ≤ t.state) && decide (t.state ≤ 5)), rdy := t.rdy }

section
variable {s u : Dev} {L : Nat} {t : Trn} {outs : List Out}

/-- A lane from ALIGN to SYNC takes a /TRN/ that neither ends a back-off nor shows a partner that has begun anew. -/
theorem Dev.trnReceive_training (hL : s.hasLane L = true) (hh : s.ln F.LANE_LANE_STAT_HOLDOFF L = 0) (ht : t.state ≠ lDetect) {st : Nat}
    (hst : s.lState L = st) (h2 : 2 ≤ st) (h4 : st ≤ 4) :
    s.trnReceive L t =
      let v := s.setLane L ((s.lane L).seen t)
      let x := (s.lane L).seen t
      if st = lAlign then
        if ¬ x.aligned then v
        else if x.trn = 0 then v.setLane L { x with trn := 1 }
        else (((v.recordPeer L t).putLn F.LANE_LANE_STAT_STATE L lAdapt).putLn F.LANE_LANE_STAT_ADAPT_FROZEN L 0).setLane L { x with trn := 2 }
      else if st = lAdapt then v.adaptExit L
      else if v.isUp L then v.iff (x.meas && t.got) fun s => s.enterRun L
      else if t.result = 0 then v
      else ((v.putLn F.LANE_LANE_DELAY_MEAS L (t.result - 1)).setDelay L (t.result - 1)).setLane L { x with meas := true } := by
  have hhf : s.lnFlag F.LANE_LANE_STAT_HOLDOFF L = false := by simp [Dev.lnFlag, hh]
  have hin : (decide (2 ≤ st) && decide (st ≤ 4)) = true := by simp [h2, h4]
  have hx : (s.setLane L ((s.lane L).seen t)).lane L = (s.lane L).seen t := Dev.lane_setLane_same ..
  rw [Dev.trnReceive, if_neg (not_not_intro hL)]
  dsimp only
  rw [hst, hhf, hin, if_neg (by simp), if_neg fun h => ht h.2.2.1]
  rw [show (s.iff true fun s => s.setLane L { s.lane L with seenUp := (s.lane L).seenUp || (decide (2 ≤ t.state) && decide (t.state ≤ 5)), rdy := t.rdy }) =
    s.setLane L ((s.lane L).seen t) from rfl, hx]
  refine ite_congr rfl (fun _ => rfl) fun ha => ite_congr rfl (fun _ => rfl) fun hb => if_pos (show st = 4 from ?_)
  have ha : st ≠ 2 := ha
  have hb : st ≠ 3 := hb
  omega

theorem Dev.OnLane.recordPeer (h : s.OnLane L outs u) (t : Trn) : s.OnLane L outs (u.recordPeer L t) :=
  ((((h.putLn rfl (.inr (by decide)) _).putLn rfl (.inr (by decide)) _).putLn rfl (.inr (by decide)) _).putLn rfl (.inr (by decide)) _).putLn rfl
    (.inr (by decide)) _

theorem Dev.OnLane.enterRun (h : s.OnLane L outs u) : s.OnLane L outs (u.enterRun L) := by
  have h1 := ((((h.putLn (G := F.LANE_LANE_STAT_STATE) rfl (.inl rfl) lRun).putLn (G := F.LANE_LANE_STAT_TIME_VALID) rfl (.inr (by decide)) 1).raiseLn
    (G := F.LANE_LANE_EVT_RETRAINED) rfl (by decide)).putLn (G := F.LANE_LANE_STAT_RETRY) rfl (.inr (by decide)) 0)
  exact .ite _ (fun _ => h1.setLane _) fun _ => .ite _ (fun _ => ((h1.setLane _).putLn rfl (.inr (by decide)) _).setLane _) fun _ =>
    (h1.setLane _).putLn rfl (.inr (by decide)) _

theorem Dev.ln_enterRun (s : Dev) (L M : Nat) {G : Fld} (hG : G.laneApart F.LANE_LANE_STAT_CARRYING = true) : (s.enterRun L).ln G M =
    ((((s.putLn F.LANE_LANE_STAT_STATE L lRun).putLn F.LANE_LANE_STAT_TIME_VALID L 1).raiseLn F.LANE_LANE_EVT_RETRAINED L).putLn
      F.LANE_LANE_STAT_RETRY L 0).ln G M := by
  rw [Dev.enterRun]
  refine iteInduction (motive := fun v => Dev.ln v G M = _) (fun _ => Dev.ln_setLane ..) fun _ =>
    iteInduction (motive := fun v => Dev.ln v G M = _) (fun _ => ?_) fun _ => ?_
  · rw [Dev.ln_setLane, Dev.ln_putLn_apart _ _ _ _ hG, Dev.ln_setLane]
  · rw [Dev.ln_putLn_apart _ _ _ _ hG, Dev.ln_setLane]

/-- A lane that has entered RUN (R175, R179). -/
theorem Dev.enterRun_spec (s : Dev) (L : Nat) : (s.enterRun L).lState L = lRun ∧ (s.enterRun L).ln F.LANE_LANE_STAT_TIME_VALID L = 1 ∧
    (s.enterRun L).ln F.LANE_LANE_EVT_RETRAINED L = 1 ∧ (s.enterRun L).ln F.LANE_LANE_STAT_RETRY L = 0 := by
  unfold Dev.lState
  simp (disch := decide) only [Dev.ln_enterRun, Dev.ln_putLn_apart, Dev.ln_raiseLn_apart, Dev.ln_putLn_same, Dev.ln_raiseLn_same]
  exact ⟨rfl, rfl, rfl, rfl⟩

/-! ### The end of ADAPT -/

theorem Dev.adaptExit_wait (h : (s.lane L).settled = false ∨ (s.lane L).rdy = false) : s.adaptExit L = s := by
  rw [Dev.adaptExit]
  exact if_pos (.inr (h.imp (fun h => by simp [h]) fun h => by simp [h]))

theorem Dev.adaptExit_ok (hs : s.lState L = lAdapt) (h1 : (s.lane L).settled = true) (h2 : (s.lane L).rdy = true) (hp : s.pairingOk L = true) :
    s.adaptExit L = (((s.putLn F.LANE_LANE_STAT_STATE L lSync).putLn F.LANE_LANE_STAT_ROLE_CONFLICT L 0).setLane L
      { s.lane L with rks := [], meas := false }).iff (s.isUp L) fun s => s.rdbkAsk L := by
  rw [Dev.adaptExit]
  dsimp only
  rw [if_neg (by simp [hs, h1, h2]), if_pos hp, Dev.isUp_setLane, Dev.isUp_putLn _ _ _ _ (by decide) (by decide) (by decide),
    Dev.isUp_putLn _ _ _ _ (by decide) (by decide) (by decide)]

theorem Dev.adaptExit_conflict (hs : s.lState L = lAdapt) (h1 : (s.lane L).settled = true) (h2 : (s.lane L).rdy = true) (hp : s.pairingOk L = false) :
    s.adaptExit L = ((((s.iff (s.samePlane L) fun s => s.put F.GLOBAL_ROLE_FAULT 4).putLn F.LANE_LANE_STAT_ROLE_CONFLICT L 1).raiseLn
      F.LANE_LANE_EVT_CONFLICT L).laneFail L) := by
  rw [Dev.adaptExit]
  dsimp only
  rw [if_neg (by simp [hs, h1, h2]), if_neg (by simp [hp])]

/-! ### A window of the adaptation -/

theorem Dev.ln_rxCount (s : Dev) (L M : Nat) (groups : List Nat) {G : Fld} (h : G.laneFree [F.LANE_LANE_ERR_CV_CNT, F.LANE_LANE_ERR_DISP_CNT] = true) :
    (s.rxCount L groups).2.ln G M = s.ln G M := by
  rw [Dev.rxCount, Dev.ln_incLn_apart _ _ _ _ (Fld.laneFree_mem h (by simp)), Dev.ln_incLn_apart _ _ _ _ (Fld.laneFree_mem h (by simp)), Dev.ln_setLane]

theorem Dev.rxCount_counts (s : Dev) (L : Nat) (groups : List Nat) :
    (s.rxCount L groups).2.ln F.LANE_LANE_ERR_CV_CNT L = satAdd 16 (s.ln F.LANE_LANE_ERR_CV_CNT L) (s.rxCount L groups).1.cv ∧
    (s.rxCount L groups).2.ln F.LANE_LANE_ERR_DISP_CNT L = satAdd 16 (s.ln F.LANE_LANE_ERR_DISP_CNT L) (s.rxCount L groups).1.disp := by
  unfold Dev.rxCount
  simp (disch := decide) only [Dev.ln_incLn_apart, Dev.ln_incLn_same, Dev.ln_setLane]
  exact ⟨rfl, rfl⟩

@[simp] theorem Dev.rxCount_role (s : Dev) (L : Nat) (groups : List Nat) : (s.rxCount L groups).2.role = s.role := by simp [Dev.rxCount]

theorem Dev.inL01_rxCount (s : Dev) (L M : Nat) (groups : List Nat) : (s.rxCount L groups).2.inL01 M = s.inL01 M :=
  Dev.inL01_congr (s.rxCount_role L groups) (s.ln_rxCount L M groups (by decide)) (s.ln_rxCount L M groups (by decide))

theorem Dev.not_nearLoop (h : s.lState L ≠ lLoop) : s.nearLoop L = false := by simp [Dev.nearLoop, h]

theorem Dev.decoding_of_adapt (hL : s.hasLane L = true) (h : s.lState L = lAdapt ∨ s.inL01 L = true) : s.decoding L = true := by
  rcases h with h | h
  · simp [Dev.decoding, hL, h]
  · simp [Dev.decoding, h]

/-- A window of a lane that adapts, and whose code groups bring no loss. -/
theorem Dev.adaptWindow_adapt {groups : List Nat} {taps : List Int} (hL : s.hasLane L = true) (h : s.lState L = lAdapt ∨ s.inL01 L = true)
    (hc : (s.rxCount L groups).1.cause = 0) :
    s.adaptWindow L groups taps = (s.rxCount L groups).2.windowEnd L (transitions (s.lane L).bit groups) taps := by
  have hn : s.lState L ≠ lLoop := by
    rcases h with h | h
    · rw [h]; decide
    · rw [(Dev.inL01_iff.mp h).2.1]; decide
  rw [Dev.adaptWindow, Dev.not_nearLoop hn, if_neg (by simp), if_neg (by simp [Dev.decoding_of_adapt hL h])]
  dsimp only
  rw [if_neg (not_not_intro hc)]

theorem Dev.adaptWindow_lost {groups : List Nat} {taps : List Int} (h : s.inL01 L = true) (hc : (s.rxCount L groups).1.cause ≠ 0) :
    s.adaptWindow L groups taps = (s.rxCount L groups).2.laneLost L (s.rxCount L groups).1.cause := by
  obtain ⟨hL, hs, -⟩ := Dev.inL01_iff.mp h
  rw [Dev.adaptWindow, Dev.not_nearLoop (by rw [hs]; decide), if_neg (by simp), if_neg (by simp [Dev.decoding_of_adapt hL (.inr h)])]
  exact if_pos hc

theorem Dev.windowEnd_sparse {n : Nat} {taps : List Int} (h : s.lState L = lAdapt ∨ s.inL01 L = true) (hn : n * 100 < 30 * 10240) :
    s.windowEnd L n taps = (s.putLn F.LANE_LANE_ADAPT_DENS L (n * 100 / 10240)).incLn F.LANE_LANE_ADAPT_SKIP_CNT L 1 := by
  rw [Dev.windowEnd, if_neg (not_not_intro h)]
  exact if_pos hn

theorem Dev.windowEnd_frozen {n : Nat} {taps : List Int} (h : s.lState L = lAdapt ∨ s.inL01 L = true) (hn : 30 * 10240 ≤ n * 100)
    (hf : s.ln F.LANE_LANE_STAT_ADAPT_FROZEN L ≠ 0) : s.windowEnd L n taps = s.putLn F.LANE_LANE_ADAPT_DENS L (n * 100 / 10240) := by
  rw [Dev.windowEnd, if_neg (not_not_intro h)]
  exact (if_neg (by omega)).trans (if_pos (by rw [Dev.lnFlag, Dev.ln_putLn_apart _ _ _ _ (by decide)]; exact decide_eq_true hf))

/-- A dense window of a lane in RUN moves the taps, and freezes the adaptation where they have drifted too far (R184). -/
theorem Dev.windowEnd_run {v : Dev} {n : Nat} {taps : List Int} (hv : s.OnLane L outs v) (h : v.inL01 L = true) (hn : 30 * 10240 ≤ n * 100)
    (hf : v.ln F.LANE_LANE_STAT_ADAPT_FROZEN L = 0) : ((v.windowEnd L n taps).lane L).taps = taps ∧ s.OnLane L outs (v.windowEnd L n taps) ∧
      ∀ G : Fld, G.laneFree [F.LANE_LANE_ADAPT_DENS, F.LANE_LANE_STAT_ADAPT_FROZEN, F.LANE_LANE_EVT_FREEZE] = true → (v.windowEnd L n taps).ln G L = v.ln G L := by
  have hst : v.lState L ≠ lAdapt := by rw [(Dev.inL01_iff.mp h).2.1]; decide
  rw [Dev.windowEnd, if_neg (not_not_intro (.inr h))]
  dsimp only
  rw [if_neg (by omega), if_neg (by rw [Dev.lnFlag, Dev.ln_putLn_apart _ _ _ _ (by decide), hf]; simp), if_neg hst]
  have hd : s.OnLane L outs (v.putLn F.LANE_LANE_ADAPT_DENS L (n * 100 / 10240)) := hv.putLn rfl (.inr (by decide)) _
  refine iteInduction (motive := fun u => (Dev.lane u L).taps = taps ∧ s.OnLane L outs u ∧ ∀ G : Fld,
    G.laneFree [F.LANE_LANE_ADAPT_DENS, F.LANE_LANE_STAT_ADAPT_FROZEN, F.LANE_LANE_EVT_FREEZE] = true → Dev.ln u G L = v.ln G L)
    (fun _ => ?_) fun _ => ?_
  · refine ⟨by rw [Dev.lane_setLane_same], hd.setLane _, fun G hG => ?_⟩
    rw [Dev.ln_setLane, Dev.ln_putLn_apart _ _ _ _ (Fld.laneFree_mem hG (by simp))]
  · refine ⟨?_, ((hd.setLane _).putLn rfl (.inr (by decide)) _).raiseLn rfl (by decide), fun G hG => ?_⟩
    · rw [Dev.lane_raiseLn, Dev.lane_putLn, Dev.lane_setLane_same]
    · rw [Dev.ln_raiseLn_apart _ _ _ (Fld.laneFree_mem hG (by simp)), Dev.ln_putLn_apart _ _ _ _ (Fld.laneFree_mem hG (by simp)), Dev.ln_setLane,
        Dev.ln_putLn_apart _ _ _ _ (Fld.laneFree_mem hG (by simp))]
end

/-! ### O20 -/

/-- Settles O20: each event moves the lane on from its own state (the lemmas above, one for each step of training), and leaves it in others. -/
theorem laneTraining : Obligations.LaneTraining := by
  unfold Obligations.LaneTraining
  intro s L hL d st x retry puts rest
  have hd : s.dev.OnLane L [] d := Dev.onLane_begin s.dev L
  have hst : d.lState L = st := Dev.begin_ln ..
  have hputs : ∀ {o : List Out} {u : Dev}, s.dev.OnLane L o u → puts o u := fun h => ⟨h.keeps, h.proto, h.other⟩
  have hrest : ∀ {u : Dev}, s.dev.OnLane L [] u → rest u := hputs
  refine ⟨fun hu ha => ?hunt, fun h => ?huntNot, fun ha hh hr => ?lock, fun ha => ?lockNot, fun h => s.runs_commaAlignment.of_eq (if_pos (hst.trans h)),
    fun h => s.runs_commaAlignment.of_eq (if_neg fun e => h (hst.symm.trans e)), fun t hh ht => ?trn, fun ha => ?fail, fun h => ?noFail, s.runs_backoffEnd, fun h => ?signal, fun row hrow h => ?absent,
    fun h => s.runs_absentRetry.of_eq (if_neg fun e => h (hst.symm.trans e)), s.runs_idleEnd, fun groups taps => ?window⟩
  case hunt => exact s.runs_rateHuntStep.of_eq (if_neg (by rw [show d.isUp L = s.dev.isUp L from rfl, show d.attempting L = s.dev.attempting L from rfl]; simp [hu, ha]))
  case huntNot =>
    refine s.runs_rateHuntStep.of_eq (if_pos ?_)
    rw [show d.isUp L = s.dev.isUp L from rfl, show d.attempting L = s.dev.attempting L from rfl]
    exact h.imp id fun h => by simp [h]
  case lock =>
    have ha' : d.attempting L = true := ha
    have hlock : d.rateLock L = (d.attempt L lAlign { LaneSt.fresh with once := x.once, lock := true, hunt := x.hunt }).putLn F.LANE_LANE_STAT_RATE_IN L
        (if d.isUp L then s.dev.ln F.LANE_LANE_CFG_RATE L else x.hunt) := by
      rw [Dev.rateLock, if_neg (not_not_intro ha')]
      rw [Dev.begin_ln, Dev.lane_begin]
    have hr' : (if s.dev.isUp L then s.dev.ln F.LANE_LANE_CFG_RATE L else x.hunt) < 4 := by split <;> omega
    have hon : s.dev.OnLane L [] (d.rateLock L) := hlock ▸ (hd.attempt _ _).putLn rfl (.inr (by decide)) _
    have hcl : (d.rateLock L).clockLock.lanes = (d.rateLock L).lanes ∧ (d.rateLock L).clockLock.role = (d.rateLock L).role := by
      rw [Dev.clockLock]
      split
      · exact ⟨rfl, rfl⟩
      · exact ⟨rfl, rfl⟩
    have hln : ∀ G : Fld, G.blk = .trunk → (d.laneLock L).ln G L = (d.rateLock L).ln G L := fun G hG =>
      Dev.ln_iff _ _ _ _ fun _ => Dev.ln_congr hcl.2 hcl.1 hG L
    refine s.runs_rateLock.does ⟨?_, ?_, fun h => ?_, fun hu hm => ?_⟩
    · rw [Dev.lState, hln _ rfl, hlock, Dev.ln_putLn_apart _ _ _ _ (by decide)]
      exact Dev.lState_attempt ..
    · rw [hln _ rfl, hlock, Dev.ln_putLn_same]
      exact Nat.mod_eq_of_lt hr'
    · have hsame : d.laneLock L = d.rateLock L := by
        rw [Dev.laneLock]
        rcases h with h | h
        · rw [show d.isUp L = true from h, Bool.not_true, Bool.and_false]; rfl
        · have hc : (d.rateLock L).clockLock = d.rateLock L := if_pos (hon.role.trans h)
          rw [Dev.iff, hc, ite_self]
      exact hsame ▸ hrest hon
    · have hc : d.laneLock L = ((d.rateLock L).put F.GLOBAL_CLK_STAT_ON_OSC 0).put F.GLOBAL_CLK_STAT_HOLD 0 := by
        rw [Dev.laneLock, ha', show d.isUp L = false from hu]
        exact if_neg fun h => hm (hon.role.symm.trans h)
      rw [hc, Dev.f_put_apart _ _ _ _ _ _ (by decide), Dev.f_put_same, Dev.f_put_same]
      exact ⟨rfl, rfl⟩
  case lockNot =>
    have ha' : ¬ d.attempting L = true := by simp [show d.attempting L = s.dev.attempting L from rfl, ha]
    refine s.runs_rateLock.of_eq ?_
    rw [Dev.laneLock, Dev.rateLock, if_pos ha', show d.attempting L = false from ha]
    rfl
  case trn =>
    have hL' : d.hasLane L = true := hL
    have hh' : d.ln F.LANE_LANE_STAT_HOLDOFF L = 0 := (Dev.begin_ln ..).trans hh
    have hon : s.dev.OnLane L [] (d.setLane L ((d.lane L).seen t)) := hd.setLane _
    have hrec : ∀ {st : Nat}, d.lState L = st → 2 ≤ st → st ≤ 4 → _ := fun h h2 h4 => Dev.trnReceive_training (t := t) hL' hh' ht h h2 h4
    have hv : (d.setLane L ((d.lane L).seen t)).lState L = st := (Dev.ln_setLane ..).trans hst
    have hl : (d.setLane L ((d.lane L).seen t)).lane L = (d.lane L).seen t := Dev.lane_setLane_same ..
    have hp : (d.setLane L ((d.lane L).seen t)).pairingOk L = s.dev.pairingOk L := Dev.pairingOk_setLane ..
    refine ⟨fun h ha h0 => ?_, fun h ha h0 => ?_, fun h h1 h2 hok => ?_, fun h hw => ?_, fun h h1 h2 hok hr8 ho => ?_, fun h hu hm hg => ?_⟩
    · have hr := (hrec (hst.trans h) (by decide) (by decide)).trans ((if_pos rfl).trans ((if_neg (not_not_intro ha)).trans (if_pos h0)))
      refine s.runs_trnReceive.does ?_
      rw [hr]
      exact ⟨(Dev.ln_setLane ..).trans (hv.trans h), by simp, hrest (hon.setLane _)⟩
    · have hr := (hrec (hst.trans h) (by decide) (by decide)).trans ((if_pos rfl).trans ((if_neg (not_not_intro ha)).trans (if_neg h0)))
      refine s.runs_trnReceive.does ?_
      rw [hr]
      refine ⟨?_, ?_, ?_, ?_, ?_, ?_, ?_, hrest ((((hon.recordPeer t).putLn rfl (.inl rfl) _).putLn rfl (.inr (by decide)) _).setLane _)⟩ <;>
        simp (disch := decide) only [Dev.lState, Dev.recordPeer, Dev.ln_setLane, Dev.ln_putLn_apart, Dev.ln_putLn_same] <;> rfl
    · have hr := (hrec (hst.trans h) (by decide) (by decide)).trans ((if_neg (by decide)).trans ((if_pos rfl).trans
        (Dev.adaptExit_ok (hv.trans h) ((congrArg LaneSt.settled hl).trans h1) ((congrArg LaneSt.rdy hl).trans h2) (hp.trans hok))))
      refine s.runs_trnReceive.does ?_
      rw [hr]
      have hon' : s.dev.OnLane L [] ((((d.setLane L ((d.lane L).seen t)).putLn F.LANE_LANE_STAT_STATE L lSync).putLn F.LANE_LANE_STAT_ROLE_CONFLICT L 0).setLane L
        { (d.setLane L ((d.lane L).seen t)).lane L with rks := [], meas := false }) := ((hon.putLn rfl (.inl rfl) _).putLn rfl (.inr (by decide)) _).setLane _
      refine ⟨?_, ?_, ?_⟩
      · rw [Dev.lState, Dev.ln_iff _ _ _ _ fun _ => Dev.ln_emit .., Dev.ln_setLane, Dev.ln_putLn_apart _ _ _ _ (by decide), Dev.ln_putLn_same]; rfl
      · rw [Dev.ln_iff _ _ _ _ fun _ => Dev.ln_emit .., Dev.ln_setLane, Dev.ln_putLn_same]; rfl
      · rw [show (d.setLane L ((d.lane L).seen t)).isUp L = s.dev.isUp L from rfl]
        cases s.dev.isUp L
        · exact hputs hon'
        · exact hputs (hon'.emit _)
    · have hr := (hrec (hst.trans h) (by decide) (by decide)).trans ((if_neg (by decide)).trans ((if_pos rfl).trans
        (Dev.adaptExit_wait (hw.imp (congrArg LaneSt.settled hl).trans (congrArg LaneSt.rdy hl).trans))))
      refine s.runs_trnReceive.does ?_
      rw [hr]
      exact ⟨hv.trans h, hrest hon⟩
    · have hr := (hrec (hst.trans h) (by decide) (by decide)).trans ((if_neg (by decide)).trans ((if_pos rfl).trans
        (Dev.adaptExit_conflict (hv.trans h) ((congrArg LaneSt.settled hl).trans h1) ((congrArg LaneSt.rdy hl).trans h2) (hp.trans hok))))
      refine s.runs_trnReceive.does ?_
      rw [hr]
      have hpre : ∀ G : Fld, G.blk = .trunk → ((d.setLane L ((d.lane L).seen t)).iff ((d.setLane L ((d.lane L).seen t)).samePlane L) fun s => s.put F.GLOBAL_ROLE_FAULT 4).ln G L =
          s.dev.ln G L := fun G hG => (Dev.ln_iff _ _ _ _ fun _ => Dev.ln_congr (s := d.setLane L ((d.lane L).seen t)) (t := (d.setLane L ((d.lane L).seen t)).put F.GLOBAL_ROLE_FAULT 4) rfl rfl hG L).trans ((Dev.ln_setLane ..).trans (Dev.begin_ln ..))
      have hx : ((d.setLane L ((d.lane L).seen t)).iff ((d.setLane L ((d.lane L).seen t)).samePlane L) fun s => s.put F.GLOBAL_ROLE_FAULT 4).lane L = (d.lane L).seen t :=
        (Dev.lane_iff _ _ _ _ fun _ => Dev.lane_put ..).trans hl
      generalize (d.setLane L ((d.lane L).seen t)).iff ((d.setLane L ((d.lane L).seen t)).samePlane L) (fun s => s.put F.GLOBAL_ROLE_FAULT 4) = w at hpre hx ⊢
      obtain ⟨ha, hb, hc⟩ := Dev.laneFail_again_spec ((w.putLn F.LANE_LANE_STAT_ROLE_CONFLICT L 1).raiseLn F.LANE_LANE_EVT_CONFLICT L) L
        (by rw [Dev.ln_raiseLn_apart _ _ _ (by decide), Dev.ln_putLn_apart _ _ _ _ (by decide), hpre _ rfl]; exact hr8)
        (by rw [Dev.lane_raiseLn, Dev.lane_putLn, hx]; exact ho)
      refine ⟨ha, ?_, ?_, ?_, hc⟩
      · rw [Dev.ln_laneFail _ _ (by decide), Dev.ln_raiseLn_apart _ _ _ (by decide), Dev.ln_putLn_same]; rfl
      · rw [Dev.ln_laneFail _ _ (by decide), Dev.ln_raiseLn_same]; rfl
      · rw [hb, Dev.ln_raiseLn_apart _ _ _ (by decide), Dev.ln_putLn_apart _ _ _ _ (by decide), hpre _ rfl]
    · have hr := (hrec (hst.trans h) (by decide) (by decide)).trans ((if_neg (by decide)).trans ((if_neg (by decide)).trans (if_pos hu)))
      have hmg : (((d.lane L).seen t).meas && t.got) = true := by rw [show ((d.lane L).seen t).meas = true from hm, hg]; rfl
      refine s.runs_trnReceive.does ?_
      rw [hr, hmg]
      obtain ⟨h1, h2, h3, h4⟩ := Dev.enterRun_spec (d.setLane L ((d.lane L).seen t)) L
      exact ⟨h1, h2, h3, h4, hrest hon.enterRun⟩
  case fail =>
    have ht : d.laneTimeout L = d.laneFail L := by
      rw [Dev.laneTimeout]
      exact if_pos (by rw [hst]; exact ha)
    refine ⟨fun hr ho => ?_, fun hr => ?_⟩ <;> refine s.runs_trainingTimeout.does ?_ <;> rw [ht]
    · obtain ⟨h1, h2, h3⟩ := Dev.laneFail_again_spec d L (by rw [Dev.begin_ln]; exact hr) ho
      rw [Dev.begin_ln] at h2
      exact ⟨h1, h2, h3, hrest hd.laneFail⟩
    · rw [Dev.laneFail_absent d L (by rw [Dev.begin_ln]; exact hr)]
      refine ⟨?_, ?_, hrest hd.toAbsent⟩
      · rw [Dev.toAbsent, Dev.lState, Dev.ln_raiseLn_apart _ _ _ (by decide)]; exact Dev.lState_attempt ..
      · rw [Dev.toAbsent, Dev.ln_raiseLn_same]; rfl
  case noFail =>
    refine s.runs_trainingTimeout.of_eq ?_
    rw [Dev.laneTimeout]
    refine if_neg ?_
    rw [hst, Dev.attempting_iff, hst, h]
    rintro (⟨h1, -⟩ | ⟨-, h2⟩)
    · exact absurd h1 (by decide)
    · exact absurd h2 (by decide)
  case signal => exact s.runs_signalAppear.of_eq (if_pos (hst.trans h))
  case absent =>
    have hab : d.absentAttempt L = d.attempt L lDetect { LaneSt.fresh with once := true } := if_pos (hst.trans h)
    have hrun : s.Runs row (d.attempt L lDetect { LaneSt.fresh with once := true }) := by
      simp only [List.mem_cons, List.mem_nil_iff, or_false] at hrow
      rcases hrow with rfl | rfl
      · exact s.runs_signalAppear.of_eq ((if_neg (by rw [hst, h]; decide)).trans hab)
      · exact s.runs_absentRetry.of_eq hab
    exact hrun.does ⟨Dev.lState_attempt .., by rw [Dev.lane_attempt], Dev.holdoff_attempt .., hrest (hd.attempt _ _)⟩
  case window =>
    have hL' : d.hasLane L = true := hL
    have hcase : st = lAdapt ∨ s.dev.inL01 L = true → (d.rxCount L groups).2.lState L = lAdapt ∨ (d.rxCount L groups).2.inL01 L = true := fun h => by
      rw [Dev.lState, Dev.ln_rxCount _ _ _ _ (by decide), Dev.inL01_rxCount, Dev.begin_ln]; exact h
    have hfr : (d.rxCount L groups).2.ln F.LANE_LANE_STAT_ADAPT_FROZEN L = s.dev.ln F.LANE_LANE_STAT_ADAPT_FROZEN L := by
      rw [Dev.ln_rxCount _ _ _ _ (by decide), Dev.begin_ln]
    have hon : s.dev.OnLane L [] (d.rxCount L groups).2 := hd.rxCount groups
    refine ⟨fun h hc => ?_, fun h h1 h3 => ?_, fun h => s.runs_adaptWindow.of_eq (if_pos h), fun h h' => s.runs_adaptWindow.of_eq ?_⟩
    · have hw := Dev.adaptWindow_adapt (s := d) (taps := taps) hL' (by rw [hst]; exact h) hc
      refine ⟨fun hn => s.runs_adaptWindow.of_eq (hw.trans (Dev.windowEnd_sparse (hcase h) hn)), fun hn hf => s.runs_adaptWindow.of_eq
        (hw.trans (Dev.windowEnd_frozen (hcase h) hn (hfr ▸ hf))), fun hn hf hrun => s.runs_adaptWindow.does ?_⟩
      rw [hw]
      obtain ⟨h1, h2, h3⟩ := Dev.windowEnd_run (n := transitions (d.lane L).bit groups) (taps := taps) hon ((Dev.inL01_rxCount ..).trans hrun) hn (hfr.trans hf)
      obtain ⟨hcv, hdi⟩ := d.rxCount_counts L groups
      rw [Dev.begin_ln] at hcv hdi
      refine ⟨h1, ?_, (h3 _ (by decide)).trans hcv, (h3 _ (by decide)).trans hdi, hrest h2⟩
      rw [Dev.lState, h3 _ (by decide), Dev.ln_rxCount _ _ _ _ (by decide), Dev.begin_ln]
      rfl
    · refine s.runs_adaptWindow.does ?_
      rw [Dev.adaptWindow_lost (s := d) h (by omega), Dev.laneLost_run (d.rxCount L groups).2 L ((Dev.inL01_rxCount ..).trans h) h1 h3]
      have hrun : (d.rxCount L groups).2.lState L = lRun := by
        rw [Dev.lState, Dev.ln_rxCount _ _ _ _ (by decide), Dev.begin_ln]; exact (Dev.inL01_iff.mp h).2.1
      obtain ⟨h4, h5, h6, -⟩ := Dev.lost_run (d.rxCount L groups).2 L hrun (cause := (d.rxCount L groups).1.cause) (by omega)
      exact ⟨h4, h5, h6, hrest (((hon.putLn rfl (.inr (by decide)) _).raiseLn rfl (by decide)).toDetect _)⟩
    · have hn : ¬ d.nearLoop L = true := by simp [show d.nearLoop L = s.dev.nearLoop L from rfl, h]
      have hdec : ¬ d.decoding L = true := by simp [show d.decoding L = s.dev.decoding L from rfl, h']
      exact (if_neg hn).trans (if_pos hdec)

end Sys2Proof.Machine
end

section
/-! Lanes in operation (R180, R181, R186, R188, R194, R198): losses, delay exchanges, the exit from L3, the end of a loop, and O21. -/

namespace Sys2Proof.Machine

section
variable {s u : Dev} {L : Nat} {outs : List Out}

/-! ### The hop delay comes into force -/

theorem Dev.setDelay_cases (s : Dev) (L d : Nat) : ∃ x, s.setDelay L d = { s.putLn F.LANE_LANE_DELAY_DELAY L d with proto := x } := by
  rw [Dev.setDelay]
  dsimp only
  split
  · exact ⟨_, rfl⟩
  · exact ⟨_, rfl⟩

theorem Dev.ln_setDelay (d M : Nat) {G : Fld} (hG : G.blk = .trunk) : (s.setDelay L d).ln G M = (s.putLn F.LANE_LANE_DELAY_DELAY L d).ln G M := by
  obtain ⟨x, hx⟩ := s.setDelay_cases L d
  rw [hx]
  exact Dev.ln_congr (s := s.putLn F.LANE_LANE_DELAY_DELAY L d) rfl rfl hG M

@[simp] theorem Dev.lane_setDelay (d M : Nat) : (s.setDelay L d).lane M = s.lane M := by
  obtain ⟨x, hx⟩ := s.setDelay_cases L d
  rw [hx]
  exact Dev.lane_putLn ..

/-- The delay takes its value at this end; MEAS shows it. -/
theorem Dev.delay_spec (s : Dev) (L m d : Nat) : ((s.putLn F.LANE_LANE_DELAY_MEAS L m).setDelay L d).ln F.LANE_LANE_DELAY_DELAY L = d % 2 ^ 32 ∧
    ((s.putLn F.LANE_LANE_DELAY_MEAS L m).setDelay L d).ln F.LANE_LANE_DELAY_MEAS L = m % 2 ^ 32 ∧
    ((s.putLn F.LANE_LANE_DELAY_MEAS L m).setDelay L d).lState L = s.lState L := by
  refine ⟨?_, ?_, ?_⟩
  · rw [Dev.ln_setDelay _ _ rfl, Dev.ln_putLn_same]; rfl
  · rw [Dev.ln_setDelay _ _ rfl, Dev.ln_putLn_apart _ _ _ _ (by decide), Dev.ln_putLn_same]; rfl
  · rw [Dev.lState, Dev.ln_setDelay _ _ rfl, Dev.ln_putLn_apart _ _ _ _ (by decide), Dev.ln_putLn_apart _ _ _ _ (by decide)]; rfl

/-! ### Delay exchanges -/

section
variable {t1 t2 t3 t4 r : Nat} (hL : s.hasLane L = true)
include hL

/-- An exchange at the downstream end is a request, to which the turnaround is the answer. -/
theorem Dev.rdbkReceive_ask (hu : s.isUp L = false) (h : s.inL01 L = true ∨ s.lState L = lSync) :
    s.rdbkReceive L t1 t2 t3 t4 0 = s.emit (.rdbk L (.reply (t3 - t2))) := by
  rw [Dev.rdbkReceive, if_neg (not_not_intro hL), if_pos (by simp [hu]), if_neg (not_not_intro h), if_pos rfl]

/-- The delay that the upstream end has formed arrives. -/
theorem Dev.rdbkReceive_result (hu : s.isUp L = false) (h : s.inL01 L = true ∨ s.lState L = lSync) :
    s.rdbkReceive L t1 t2 t3 t4 (r + 1) = ((s.putLn F.LANE_LANE_DELAY_MEAS L r).setDelay L r).iff (decide (s.lState L = lSync)) fun u =>
      u.setLane L { u.lane L with meas := true } := by
  rw [Dev.rdbkReceive, if_neg (not_not_intro hL), if_pos (by simp [hu]), if_neg (not_not_intro h), if_neg (by simp)]
  dsimp only
  rw [Nat.add_sub_cancel, (Dev.delay_spec s L r r).2.2]

variable (hu : s.isUp L = true)
include hu

theorem Dev.rdbkReceive_sync (hst : s.lState L = lSync) (hm : (s.lane L).meas = false) :
    s.rdbkReceive L t1 t2 t3 t4 0 =
      let r : Int := ((t4 : Int) - (t1 : Int)) - ((t3 : Int) - (t2 : Int))
      if 512000 < r then s.laneFail L
      else if (r :: (s.lane L).rks).length < 64 then (s.setLane L { s.lane L with rks := r :: (s.lane L).rks }).rdbkAsk L
      else
        let d := (hopDelay (r :: (s.lane L).rks) 8 (sgn 16 (s.ln F.LANE_LANE_CFG_ASYM L))).toNat
        ((s.putLn F.LANE_LANE_DELAY_MEAS L d).setDelay L d).setLane L { s.lane L with rks := [], meas := true } := by
  rw [Dev.rdbkReceive, if_neg (not_not_intro hL), if_neg (by simp [hu]), if_pos ⟨hst, by simp [hm]⟩]

theorem Dev.rdbkReceive_run (h : s.inL01 L = true) (hm : (s.lane L).rem = true) :
    s.rdbkReceive L t1 t2 t3 t4 0 =
      let l : List Int := (((t4 : Int) - (t1 : Int)) - ((t3 : Int) - (t2 : Int))) :: (s.lane L).rks
      if l.length < 8 then (s.setLane L { s.lane L with rks := l }).rdbkAsk L
      else s.remeasured L (hopDelay l 1 (sgn 16 (s.ln F.LANE_LANE_CFG_ASYM L))) := by
  have hst : ¬ (s.lState L = lSync ∧ ¬ (s.lane L).meas = true) := fun ⟨h', _⟩ => by rw [(Dev.inL01_iff.mp h).2.1] at h'; exact absurd h' (by decide)
  rw [Dev.rdbkReceive, if_neg (not_not_intro hL), if_neg (by simp [hu]), if_neg hst, if_pos ⟨h, hm⟩]
end

/-- What a remeasurement leaves: the delay `c` in force, and the lane's record (R188). -/
theorem Dev.remeasured_leaves (s : Dev) (L : Nat) (x : LaneSt) (m c b : Nat) (j : Bool) :
    let u := (((((s.setLane L x).putLn F.LANE_LANE_DELAY_MEAS L m).setDelay L c).emit (.rdbk L (.result c))).putLn F.LANE_LANE_STAT_SLEWING L b).iff j
      fun s => s.raiseLn F.LANE_LANE_EVT_DELAY_JUMP L
    u.ln F.LANE_LANE_DELAY_DELAY L = c % 2 ^ 32 ∧ u.lane L = x ∧ u.lState L = s.lState L := by
  obtain ⟨h1, -, h3⟩ := (s.setLane L x).delay_spec L m c
  refine ⟨?_, ?_, ?_⟩
  · rw [Dev.ln_iff _ _ _ _ fun _ => Dev.ln_raiseLn_apart _ _ _ (by decide), Dev.ln_putLn_apart _ _ _ _ (by decide), Dev.ln_emit, h1]
  · rw [Dev.lane_iff _ _ _ _ fun _ => Dev.lane_raiseLn .., Dev.lane_putLn, Dev.lane_emit, Dev.lane_setDelay, Dev.lane_putLn, Dev.lane_setLane_same]
  · rw [Dev.lState, Dev.ln_iff _ _ _ _ fun _ => Dev.ln_raiseLn_apart _ _ _ (by decide), Dev.ln_putLn_apart _ _ _ _ (by decide), Dev.ln_emit]
    exact h3.trans (Dev.ln_setLane ..)

/-- An estimate within the limit is followed by at most SLEW. -/
theorem Dev.remeasured_near {e : Int} (h : (e - (s.ln F.LANE_LANE_DELAY_DELAY L : Nat)).natAbs ≤ s.blkLn F.LANE_REMEAS_CFG_JUMP_LIM L) :
    let u := s.remeasured L e
    u.ln F.LANE_LANE_DELAY_DELAY L = ((s.ln F.LANE_LANE_DELAY_DELAY L : Nat) + clampI (-(s.blkLn F.LANE_REMEAS_CFG_SLEW L : Nat))
      (s.blkLn F.LANE_REMEAS_CFG_SLEW L : Nat) (e - (s.ln F.LANE_LANE_DELAY_DELAY L : Nat))).toNat % 2 ^ 32 ∧ (u.lane L).jump = 0 ∧ u.lState L = s.lState L := by
  generalize hu : s.remeasured L e = u
  rw [Dev.remeasured] at hu
  dsimp only at hu ⊢
  rw [decide_eq_true h] at hu
  obtain ⟨h1, h2, h3⟩ := Dev.remeasured_leaves s L _ _ _ _ _
  rw [← hu]
  exact ⟨h1, congrArg LaneSt.jump h2, h3⟩

/-- The first estimates beyond the limit are counted and not followed. -/
theorem Dev.remeasured_far {e : Int} (h : s.blkLn F.LANE_REMEAS_CFG_JUMP_LIM L < (e - (s.ln F.LANE_LANE_DELAY_DELAY L : Nat)).natAbs)
    (hf : (s.lane L).follow = false) (hj : (s.lane L).jump < 3) :
    let u := s.remeasured L e
    u.ln F.LANE_LANE_DELAY_DELAY L = s.ln F.LANE_LANE_DELAY_DELAY L % 2 ^ 32 ∧ (u.lane L).jump = (s.lane L).jump + 1 := by
  generalize hu : s.remeasured L e = u
  rw [Dev.remeasured] at hu
  dsimp only at hu ⊢
  rw [decide_eq_false (Nat.not_le.mpr h), hf] at hu
  simp only [Bool.false_eq_true, if_false, Bool.or_false, Bool.false_or, Bool.not_false, Bool.true_and, decide_eq_false (show ¬ 4 ≤ (s.lane L).jump + 1 by omega)] at hu
  obtain ⟨h1, h2, -⟩ := Dev.remeasured_leaves s L _ _ _ _ _
  rw [← hu]
  exact ⟨h1, congrArg LaneSt.jump h2⟩

/-! ### Losses -/

theorem Dev.not_inL01 (h : s.lState L ≠ lRun) : s.inL01 L = false := by simp [Dev.inL01, Dev.inRun, h]

theorem Dev.laneLost_not (cause : Nat) (h : s.inL01 L = false) (hl : s.lState L ≠ lLoop) : s.laneLost L cause = s := by
  rw [Dev.laneLost, if_neg (by simp [h]), if_neg (by simp [hl])]

/-- Loss of signal ends a far-end loop (R198). -/
theorem Dev.laneLost_loop (hst : s.lState L = lLoop) (hl : s.ln F.LANE_LANE_CFG_LOOP L = 3) :
    s.laneLost L 1 = (s.putLn F.LANE_LANE_CFG_LOOP L 0).toDetect L false := by
  rw [Dev.laneLost, if_neg (by simp [Dev.not_inL01 (s := s) (L := L) (by rw [hst]; decide)]), if_pos ⟨hst, hl, rfl⟩]

theorem Dev.laneLoss_decoding {cause : Nat} {groups : List Nat} (h : s.decoding L = true) :
    s.laneLoss L cause groups = (s.rxCount L groups).2.laneLost L (if (s.rxCount L groups).1.cause ≠ 0 then (s.rxCount L groups).1.cause else cause) :=
  if_neg (not_not_intro h)

/-! ### The exit from L3 -/

theorem Dev.l3Exit_eq {p : Nat} {rks : List Int} (hx : (s.lane L).exit = some p) (hst : s.lState L = lRun) (hp : s.ln F.LANE_LANE_STAT_PSTATE L = 3)
    (hr : rks.length = 8) : s.l3Exit L rks =
      let v := s.each rks fun s _ => s.rdbkAsk L
      if v.blkLn F.LANE_REMEAS_CFG_JUMP_LIM L < (hopDelay rks 1 (sgn 16 (s.ln F.LANE_LANE_CFG_ASYM L)) - (v.ln F.LANE_LANE_DELAY_DELAY L : Nat)).natAbs then
        ((v.putLn F.LANE_LANE_ERR_LOSS_CAUSE L 5).raiseLn F.LANE_LANE_EVT_LOSS L).toDetect L true
      else (v.putLn F.LANE_LANE_STAT_PSTATE L p).setLane L { (v.lane L).awake with exit := none } := by
  rw [Dev.l3Exit]
  dsimp only
  rw [hx]
  exact if_neg (by simp [hst, hp, hr])

/-- Exchanges that are only asked for put out one request each. -/
theorem Dev.each_ask (l : List Int) (s : Dev) (L : Nat) :
    s.each l (fun s _ => s.rdbkAsk L) = { s with out := List.replicate l.length (.rdbk L .ask) ++ s.out } := by
  induction l generalizing s with
  | nil => rfl
  | cons a l ih =>
    rw [show s.each (a :: l) (fun s _ => s.rdbkAsk L) = (s.rdbkAsk L).each l (fun s _ => s.rdbkAsk L) from rfl, ih, List.length_cons, List.replicate_succ']
    simp [Dev.rdbkAsk, Dev.emit]

theorem Dev.OnLane.each_ask (h : s.OnLane L outs u) (l : List Int) : s.OnLane L (List.replicate l.length (.rdbk L .ask) ++ outs) (u.each l fun s _ => s.rdbkAsk L) := by
  induction l generalizing u outs with
  | nil => exact h
  | cons a l ih =>
    have hc := ih (h.emit (.rdbk L .ask))
    rwa [List.length_cons, List.replicate_succ', List.append_assoc]
end

/-! ### O21 -/

/-- Settles O21: losses, exchanges, the exit from L3 and the end of a loop, each by the lemma that says what it does. -/
theorem laneInOperation : Obligations.LaneInOperation := by
  unfold Obligations.LaneInOperation
  intro s L hL d st x lost
  have hd : s.dev.OnLane L [] d := Dev.onLane_begin s.dev L
  have hst : d.lState L = st := Dev.begin_ln ..
  have hL' : d.hasLane L = true := hL
  have hlost : ∀ {u v : Dev} {k : Nat} {o : List Out}, u.lState L = lRun → k < 16 → s.dev.OnLane L o u →
      u.ln F.LANE_LANE_STAT_EPOCH L = s.dev.ln F.LANE_LANE_STAT_EPOCH L → u.ln F.LANE_LANE_ERR_LOSS_CNT L = s.dev.ln F.LANE_LANE_ERR_LOSS_CNT L →
      v = ((u.putLn F.LANE_LANE_ERR_LOSS_CAUSE L k).raiseLn F.LANE_LANE_EVT_LOSS L).toDetect L true → lost v k o := by
    rintro u v k o hr hk hon he hc rfl
    obtain ⟨h1, h2, h3, h4, h5, h6, h7⟩ := Dev.lost_run u L hr hk
    have hon' := ((hon.putLn (G := F.LANE_LANE_ERR_LOSS_CAUSE) rfl (.inr (by decide)) k).raiseLn (G := F.LANE_LANE_EVT_LOSS) rfl (by decide)).toDetect true
    exact ⟨h1, h2, h3, h4, he ▸ h5, hc ▸ h6, h7, hon'.keeps, hon'.proto⟩
  refine ⟨fun cause groups hl h1 h3 => ?loss, fun cause groups hl hn => ?lossNot, fun t1 t2 t3 t4 hu h hm => ?sync, fun t1 t2 t3 t4 hu hl hm => ?run,
    fun t1 t2 t3 t4 hu h => s.runs_rdbkReceive.of_eq (Dev.rdbkReceive_ask hL' hu (h.imp id hst.trans)), fun t1 t2 t3 t4 r hu h => ?result,
    fun hu hl hi => s.runs_remeasureInterval.of_eq ((if_neg hi).trans (if_pos ⟨hu, hl⟩)), fun hi => s.runs_remeasureInterval.of_eq (if_pos hi),
    fun rks p hx hp hr h3 h8 => ?exit, fun rks hx => ?exitNot, fun h hl ht => ?timeout, fun h hl => ?signal, fun h => s.runs_loopTimeout.of_eq (if_neg fun e => h (hst.symm.trans e.1))⟩
  case loss =>
    have hdec : d.decoding L = true := Dev.decoding_of_adapt hL' (.inr hl)
    have hrun : (d.rxCount L groups).2.lState L = lRun := (Dev.ln_rxCount _ _ _ _ (by decide)).trans (hst.trans (Dev.inL01_iff.mp hl).2.1)
    have he := (Dev.laneLoss_decoding (cause := cause) (groups := groups) hdec).trans (Dev.laneLost_run (d.rxCount L groups).2 L
      ((Dev.inL01_rxCount ..).trans hl) h1 h3)
    refine s.runs_laneLoss.does (hlost hrun (lt_of_le_of_lt h3 (by decide)) (hd.rxCount groups) ?_ ?_ he)
    · exact (Dev.ln_rxCount _ _ _ _ (by decide)).trans (Dev.begin_ln ..)
    · exact (Dev.ln_rxCount _ _ _ _ (by decide)).trans (Dev.begin_ln ..)
  case lossNot =>
    refine s.runs_laneLoss.of_eq ?_
    rw [show s.dev.decoding L = d.decoding L from rfl]
    by_cases hdec : d.decoding L = true
    · rw [Dev.laneLoss_decoding hdec, if_pos hdec]
      exact Dev.laneLost_not _ ((Dev.inL01_rxCount ..).trans hl) fun e => hn (hst.symm.trans ((Dev.ln_rxCount _ _ _ _ (by decide)).symm.trans e))
    · rw [if_neg hdec, Dev.laneLoss, if_pos hdec]
      exact Dev.laneLost_not _ hl fun e => hn (hst.symm.trans e)
  case sync =>
    have he := Dev.rdbkReceive_sync (t1 := t1) (t2 := t2) (t3 := t3) (t4 := t4) hL' hu (hst.trans h) hm
    refine ⟨fun hr hlen => s.runs_rdbkReceive.of_eq (he.trans ((if_neg (by omega)).trans (if_pos ?_))), fun hr hlen => s.runs_rdbkReceive.does ?_, fun hr hre ho => s.runs_rdbkReceive.does ?_⟩
    · exact Nat.succ_lt_succ hlen
    · rw [he.trans ((if_neg (by omega)).trans (if_neg (by rw [List.length_cons]; exact not_lt.mpr (Nat.succ_le_succ hlen))))]
      obtain ⟨h1, h2, h3⟩ := d.delay_spec L (hopDelay ((((t4 : Int) - (t1 : Int)) - ((t3 : Int) - (t2 : Int))) :: x.rks) 8 (sgn 16 (s.dev.ln F.LANE_LANE_CFG_ASYM L))).toNat
        (hopDelay ((((t4 : Int) - (t1 : Int)) - ((t3 : Int) - (t2 : Int))) :: x.rks) 8 (sgn 16 (s.dev.ln F.LANE_LANE_CFG_ASYM L))).toNat
      exact ⟨congrArg LaneSt.meas (Dev.lane_setLane_same ..), (Dev.ln_setLane ..).trans h1, (Dev.ln_setLane ..).trans h2, (Dev.ln_setLane ..).trans (h3.trans (hst.trans h))⟩
    · rw [he.trans (if_pos hr)]
      obtain ⟨h1, h2, -⟩ := Dev.laneFail_again_spec d L (by rwa [Dev.begin_ln]) ho
      rw [Dev.begin_ln] at h2
      exact ⟨h1, h2⟩
  case run =>
    have he := Dev.rdbkReceive_run (t1 := t1) (t2 := t2) (t3 := t3) (t4 := t4) hL' hu hl hm
    refine ⟨fun hlen => s.runs_rdbkReceive.of_eq (he.trans (if_pos (Nat.succ_lt_succ hlen))), fun hlen hj => s.runs_rdbkReceive.does ?_, fun hlen hj hf hc h32 => s.runs_rdbkReceive.does ?_⟩
    · rw [he.trans (if_neg (by rw [List.length_cons]; exact not_lt.mpr (Nat.succ_le_succ hlen)))]
      obtain ⟨h1, h2, h3⟩ := Dev.remeasured_near (s := d) (L := L) hj
      exact ⟨h1, h2, h3.trans (hst.trans (Dev.inL01_iff.mp hl).2.1)⟩
    · rw [he.trans (if_neg (by rw [List.length_cons]; exact not_lt.mpr (Nat.succ_le_succ hlen)))]
      obtain ⟨h1, h2⟩ := Dev.remeasured_far (s := d) (L := L) hj hf hc
      exact ⟨h1.trans ((Nat.mod_eq_of_lt h32)), h2⟩
  case result =>
    refine s.runs_rdbkReceive.does ?_
    rw [Dev.rdbkReceive_result hL' hu (h.imp id hst.trans)]
    obtain ⟨h1, h2, h3⟩ := d.delay_spec L r r
    refine ⟨?_, ?_, ?_, fun hs => ?_⟩
    · rw [Dev.ln_iff _ _ _ _ fun _ => Dev.ln_setLane .., h1]
    · rw [Dev.ln_iff _ _ _ _ fun _ => Dev.ln_setLane .., h2]
    · rw [Dev.lState, Dev.ln_iff _ _ _ _ fun _ => Dev.ln_setLane ..]; exact h3.trans hst
    · rw [decide_eq_true (hst.trans hs)]
      exact congrArg LaneSt.meas (Dev.lane_setLane_same ..)
  case exit =>
    have he := Dev.l3Exit_eq (s := d) hx (hst.trans hr) ((Dev.begin_ln ..).trans h3) h8
    have hea := Dev.each_ask rks d L
    have hon := hd.each_ask rks
    rw [h8] at hon
    have hv : ∀ G, (d.each rks fun s _ => s.rdbkAsk L).ln G L = s.dev.ln G L := fun G => by
      rw [hea]
      exact Dev.fb_of_regs rfl (by cases (laneFld G L).blk <;> rfl) ..
    have hb : (d.each rks fun s _ => s.rdbkAsk L).blkLn F.LANE_REMEAS_CFG_JUMP_LIM L = s.dev.blkLn F.LANE_REMEAS_CFG_JUMP_LIM L := by
      rw [hea]
      exact Dev.fb_of_regs rfl (by cases (laneFld F.LANE_REMEAS_CFG_JUMP_LIM L).blk <;> rfl) ..
    have hl : (d.each rks fun s _ => s.rdbkAsk L).lane L = x := by rw [hea]; rfl
    dsimp only at he
    rw [hb, hv, hl, Dev.begin_ln] at he
    refine ⟨fun hlim => s.runs_l3ExitComplete.does (hlost ((hv _).trans hr) (by omega) hon (hv _) (hv _) (he.trans (if_pos hlim))), fun hlim =>
      s.runs_l3ExitComplete.of_eq (he.trans (if_neg (not_lt.mpr hlim)))⟩
  case exitNot =>
    refine s.runs_l3ExitComplete.of_eq ?_
    rw [Dev.l3Exit]
    dsimp only
    rw [show (d.lane L).exit = none from hx]
  case timeout =>
    refine s.runs_loopTimeout.does ?_
    have hv : ((d.raiseLn F.LANE_LANE_EVT_LOOP_END L).putLn F.LANE_LANE_CFG_LOOP L 0).lState L = lLoop := by
      rw [Dev.lState, Dev.ln_putLn_apart _ _ _ _ (by decide), Dev.ln_raiseLn_apart _ _ _ (by decide)]; exact hst.trans h
    have he : d.loopTimeout L = ((d.raiseLn F.LANE_LANE_EVT_LOOP_END L).putLn F.LANE_LANE_CFG_LOOP L 0).toDetect L false :=
      (if_pos ⟨hst.trans h, (Dev.begin_ln ..).trans hl, ht⟩).trans (if_pos hv)
    rw [he]
    refine ⟨Dev.lState_toDetect .., ?_, ?_⟩
    · rw [Dev.ln_toDetect _ _ _ (by decide), Dev.ln_putLn_apart _ _ _ _ (by decide), Dev.ln_raiseLn_same]; rfl
    · rw [Dev.ln_toDetect _ _ _ (by decide), Dev.ln_putLn_same]; rfl
  case signal =>
    refine s.runs_laneLoss.does ?_
    have hdec : d.decoding L = true := by
      have hf : d.farLoop L = true := by simp [Dev.farLoop, hL', hst, h, show d.ln F.LANE_LANE_CFG_LOOP L = 3 from (Dev.begin_ln ..).trans hl]
      simp [Dev.decoding, hf]
    have he : d.laneLoss L 1 [] = ((d.rxCount L []).2.putLn F.LANE_LANE_CFG_LOOP L 0).toDetect L false :=
      (Dev.laneLoss_decoding hdec).trans (Dev.laneLost_loop ((Dev.ln_rxCount _ _ _ _ (by decide)).trans (hst.trans h))
        ((Dev.ln_rxCount _ _ _ _ (by decide)).trans ((Dev.begin_ln ..).trans hl)))
    rw [he]
    refine ⟨Dev.lState_toDetect .., ?_⟩
    rw [Dev.ln_toDetect _ _ _ (by decide), Dev.ln_putLn_same]; rfl

end Sys2Proof.Machine
end

section
/-! The GATE block of a CELL (09_cell_role): which fields each of its operations may change, and what the operations on its outputs, its state
and its log leave. -/

namespace Sys2Proof.Machine

/-! ### Fields that an operation leaves -/

/-- The first copy of `G` shares no place with `F`: they are apart, or `G` is a single field that lies before all of `F`. -/
def Fld.clear (G F : Fld) : Bool :=
  G.apart F || (decide (G.s1 = 0) && decide (G.s2 = 0) && decide (G.off < F.off) && (decide (G.lo < 64) && decide (F.lo < 64)))

/-- `G` shares no place with any of a list. -/
def Fld.clearOf (G : Fld) (l : List Fld) : Bool := l.all fun F => G.clear F

theorem Fld.clearOf_mem {G F : Fld} {l : List Fld} (h : G.clearOf l = true) (hF : F ∈ l) : G.clear F = true := List.all_eq_true.mp h F hF

theorem Fld.key_ne_of_clear {G F : Fld} (h : G.clear F = true) (i j i' j' : Nat) : G.blk ≠ F.blk ∨ G.key 0 i' j' ≠ F.key 0 i j := by
  simp only [Fld.clear, Bool.or_eq_true, Bool.and_eq_true, decide_eq_true_eq] at h
  rcases h with h | ⟨⟨⟨h1, h2⟩, h3⟩, h4, h5⟩
  · exact Fld.key_ne_of_apart h ..
  · refine .inr ?_
    unfold Fld.key
    rw [h1, h2]
    omega

section
variable {s u v : Dev} {l : List Fld} {F G : Fld}

theorem Dev.f_put_clear (s : Dev) (x i j i' j' : Nat) (h : G.clear F = true) : (s.put F x i j).f G i' j' = s.f G i' j' :=
  Dev.f_put_other _ _ _ _ _ _ (Fld.key_ne_of_clear h ..)
theorem Dev.f_befall_clear (s : Dev) (g : Nat → Nat) (i j i' j' : Nat) (h : G.clear F = true) : (s.befall F g i j).f G i' j' = s.f G i' j' :=
  (Dev.befall_fb ..).trans (Dev.f_put_clear _ _ _ _ _ _ h)
theorem Dev.f_raise_clear (s : Dev) (i j i' j' : Nat) (h : G.clear F = true) : (s.raise F i j).f G i' j' = s.f G i' j' := Dev.f_befall_clear _ _ _ _ _ _ h
theorem Dev.f_inc_clear (s : Dev) (n i j i' j' : Nat) (h : G.clear F = true) : (s.inc F n i j).f G i' j' = s.f G i' j' := Dev.f_befall_clear _ _ _ _ _ _ h
theorem Dev.f_setBit_clear (s : Dev) (k : Nat) (b : Bool) (i j i' j' : Nat) (h : G.clear F = true) : (s.setBit F k b i j).f G i' j' = s.f G i' j' :=
  Dev.f_befall_clear _ _ _ _ _ _ h

/-- The device `u` has the role, the records of the lanes and of the protocol, and all fields of `s` but those of the list. -/
structure Dev.Leaves (l : List Fld) (s u : Dev) : Prop where
  role  : u.role = s.role
  proto : u.proto = s.proto
  lanes : u.lanes.st = s.lanes.st
  fld   : ∀ (G : Fld) (i j : Nat), G.clearOf l = true → u.f G i j = s.f G i j

theorem Dev.leaves_refl (l : List Fld) (s : Dev) : s.Leaves l s := ⟨rfl, rfl, rfl, fun _ _ _ _ => rfl⟩

theorem Dev.Leaves.trans (h : s.Leaves l u) (k : u.Leaves l v) : s.Leaves l v :=
  ⟨k.role.trans h.role, k.proto.trans h.proto, k.lanes.trans h.lanes, fun G i j hG => (k.fld G i j hG).trans (h.fld G i j hG)⟩

theorem Dev.Leaves.mono {l' : List Fld} (h : s.Leaves l u) (hsub : ∀ F ∈ l, F ∈ l') : s.Leaves l' u :=
  ⟨h.role, h.proto, h.lanes, fun G i j hG => h.fld G i j (List.all_eq_true.mpr fun F hF => Fld.clearOf_mem hG (hsub F hF))⟩

theorem Dev.Leaves.next {l' : List Fld} (h : s.Leaves l u) (k : u.Leaves l' v) (hsub : ∀ F ∈ l', F ∈ l) : s.Leaves l v := h.trans (k.mono hsub)

theorem Dev.Leaves.befall (h : s.Leaves l u) (g : Nat → Nat) {i j : Nat} (hF : F ∈ l) : s.Leaves l (u.befall F g i j) :=
  ⟨(Dev.put_role ..).trans h.role, (Dev.put_protoSt ..).trans h.proto, (Dev.put_laneSt ..).trans h.lanes,
    fun G i' j' hG => (Dev.f_befall_clear _ _ _ _ _ _ (Fld.clearOf_mem hG hF)).trans (h.fld G i' j' hG)⟩
theorem Dev.Leaves.put (h : s.Leaves l u) (x : Nat) {i j : Nat} (hF : F ∈ l) : s.Leaves l (u.put F x i j) :=
  ⟨(Dev.put_role ..).trans h.role, (Dev.put_protoSt ..).trans h.proto, (Dev.put_laneSt ..).trans h.lanes,
    fun G i' j' hG => (Dev.f_put_clear _ _ _ _ _ _ (Fld.clearOf_mem hG hF)).trans (h.fld G i' j' hG)⟩
theorem Dev.Leaves.raise (h : s.Leaves l u) {i j : Nat} (hF : F ∈ l) : s.Leaves l (u.raise F i j) := h.befall _ hF
theorem Dev.Leaves.inc (h : s.Leaves l u) (n : Nat) {i j : Nat} (hF : F ∈ l) : s.Leaves l (u.inc F n i j) := h.befall _ hF
theorem Dev.Leaves.setBit (h : s.Leaves l u) (k : Nat) (b : Bool) {i j : Nat} (hF : F ∈ l) : s.Leaves l (u.setBit F k b i j) := h.befall _ hF

/-- Of GATE, what is no register. -/
theorem Dev.f_setGate {x : Gate} (h : x.regs = u.gate.regs) (G : Fld) (i j : Nat) : ({ u with gate := x } : Dev).f G i j = u.f G i j := by
  obtain ⟨b, _⟩ := G
  refine Dev.fb_of_regs (u := { u with gate := x }) (s := u) rfl ?_ ..
  cases b <;> simp [Dev.regsOf, h]

theorem Dev.Leaves.setGate (h : s.Leaves l u) (x : Gate) (hx : x.regs = u.gate.regs) : s.Leaves l { u with gate := x } :=
  ⟨h.role, h.proto, h.lanes, fun G i j hG => (Dev.f_setGate hx G i j).trans (h.fld G i j hG)⟩

/-- Of TIME and of GLOBAL, what is no register. -/
theorem Dev.Leaves.setTime (h : s.Leaves l u) (x : Time) (hx : x.regs = u.time.regs) : s.Leaves l { u with time := x } :=
  ⟨h.role, h.proto, h.lanes, fun G i j hG => (Dev.fb_withTime _ _ _ _ hx).trans (h.fld G i j hG)⟩
theorem Dev.Leaves.setGlob (h : s.Leaves l u) (x : Glob) (hx : x.regs = u.glob.regs) : s.Leaves l { u with glob := x } :=
  ⟨h.role, h.proto, h.lanes, fun G i j hG => (Dev.fb_of_regs (u := { u with glob := x }) (s := u) rfl (by cases G.blk <;> simp [Dev.regsOf, hx]) ..).trans (h.fld G i j hG)⟩

theorem Dev.Leaves.emit (h : s.Leaves l u) (o : Out) : s.Leaves l (u.emit o) :=
  ⟨h.role, h.proto, h.lanes, fun G i j hG => (Dev.fb_of_regs (u := u.emit o) (s := u) rfl (by cases G.blk <;> rfl) ..).trans (h.fld G i j hG)⟩

theorem Dev.Leaves.ite (c : Prop) [Decidable c] (hu : c → s.Leaves l u) (hv : ¬ c → s.Leaves l v) : s.Leaves l (if c then u else v) := by
  split
  · exact hu ‹_›
  · exact hv ‹_›

theorem Dev.Leaves.iff (h : s.Leaves l u) (c : Bool) (g : Dev → Dev) (hg : c = true → s.Leaves l (g u)) : s.Leaves l (u.iff c g) := by
  cases c
  · exact h
  · exact hg rfl

theorem Dev.leaves_each {α : Type} (k : List α) (s : Dev) (g : Dev → α → Dev) (hg : ∀ v, ∀ a ∈ k, Dev.Leaves l v (g v a)) : s.Leaves l (s.each k g) := by
  induction k generalizing s with
  | nil => exact Dev.leaves_refl l s
  | cons a k ih => exact (hg s a List.mem_cons_self).trans (ih (g s a) fun v b hb => hg v b (List.mem_cons_of_mem _ hb))
end

/-! ### The operations -/

/-- The fields of the log, of the outputs, of a change of state, of a fault, of a bypass, of the auxiliary supply and of a command. -/
def logFlds : List Fld := [F.GATE_LOG_CTL_WR, F.GATE_LOG_CTL_RD, F.GATE_LOG_CTL_OVWR_CNT]
def posFlds : List Fld := [F.GATE_STAT_POS, F.GATE_LIFE_CNT]
def stateFlds : List Fld := F.GATE_LIFE_CNT :: F.GATE_STAT_STATE :: logFlds
def blockFlds : List Fld := F.GATE_STAT_POS :: F.GATE_STAT_CAUSE :: stateFlds
def fireFlds : List Fld := F.GATE_BYP_STAT_X_CAUSE :: F.GATE_BYP_STAT_FIRED :: F.GATE_BYP_STAT_FIRST_Y :: F.GATE_EVT_BYP_FIRED :: blockFlds
def cmdFlds : List Fld := F.LANE_MS_STAT_TRIP_CNT.onLeaf :: F.GATE_CMD_CNT_NOTRUN_CNT :: F.GATE_CMD_CNT_REFUSE_CNT :: F.GATE_EVT_REL_REFUSE ::
  F.GATE_STAT_MODE :: F.GATE_STAT_CARR_IDLE :: F.GATE_AUX_STAT_RUNNING :: fireFlds
def acceptFlds : List Fld := F.LANE_MS_STAT_LATE_CNT.onLeaf :: F.LANE_MS_STAT_BADCMD_CNT.onLeaf :: cmdFlds

section
variable (s : Dev)

theorem Dev.leaves_logEvent (code detail : Nat) : s.Leaves logFlds (s.logEvent code detail) := by
  rw [Dev.logEvent]
  exact .iff (((Dev.leaves_refl _ s).setGate _ (by rfl)).put _ (by decide)) _ _ fun _ => ((((Dev.leaves_refl _ s).setGate _ (by rfl)).put _ (by decide)).put _ (by decide)).inc _ (by decide)

theorem Dev.leaves_toState (st : Nat) : s.Leaves stateFlds (s.toState st) := by
  have h : s.Leaves stateFlds (s.iff (decide (s.gState = gRun) && decide (st ≠ gRun)) fun s => s.life 1 s.runSecs) :=
    .iff (Dev.leaves_refl _ s) _ _ fun _ => (Dev.leaves_refl _ s).inc _ (by decide)
  rw [Dev.toState]
  exact ((h.setGate _ (by rfl)).put _ (by decide)).next (Dev.leaves_logEvent _ _ _) (by decide)

theorem Dev.leaves_posTo (pos t : Nat) : s.Leaves posFlds (s.posTo pos t) :=
  .put (.iff (Dev.leaves_refl _ s) _ _ fun _ => (Dev.leaves_refl _ s).setGate _ (by rfl)) _ (by decide)

theorem Dev.leaves_gatesOff : s.Leaves posFlds s.gatesOff := by
  rw [Dev.gatesOff]
  refine .iff (((Dev.leaves_refl posFlds s).setGate _ (by rfl)).trans (Dev.leaves_posTo _ _ _)) _ _ fun _ => ?_
  exact (((Dev.leaves_refl posFlds s).setGate _ (by rfl)).trans (Dev.leaves_posTo _ _ _)).inc _ (by decide)

theorem Dev.leaves_gatesDrive (on : Bool) (l : List Fld) : s.Leaves l (s.gatesDrive on) := (Dev.leaves_refl _ s).setGate _ (by rfl)

theorem Dev.leaves_setPos (pos t0 exec : Nat) : s.Leaves posFlds (s.setPos pos t0 exec) := by
  rw [Dev.setPos]
  exact (((Dev.leaves_refl posFlds s).setGate _ (by rfl)).trans (Dev.leaves_posTo _ _ _)).inc _ (by decide)

theorem Dev.leaves_blockAction (c : Nat) : s.Leaves blockFlds (s.blockAction c) := by
  have h : s.Leaves blockFlds (s.gatesOff.addCause c) := (s.leaves_gatesOff.mono (by decide)).setBit _ _ (by decide)
  have h' : s.Leaves blockFlds ((s.gatesOff.addCause c).iff (decide (s.gState = gRun)) fun s => s.toState gBlocked) :=
    h.iff _ _ fun _ => h.next (Dev.leaves_toState _ _) (by decide)
  exact .ite _ (fun _ => Dev.leaves_refl _ s) fun _ => h'.iff _ _ fun _ => h'.next (Dev.leaves_logEvent _ _ _) (by decide)

theorem Dev.leaves_bypOut (y : Bool) (l : List Fld) : s.Leaves l (s.bypOut y) :=
  .ite _ (fun _ => .ite _ (fun _ => (Dev.leaves_refl _ s).emit _) fun _ => (Dev.leaves_refl _ s).setGate _ (by rfl))
    fun _ => .ite _ (fun _ => (Dev.leaves_refl _ s).emit _) fun _ => (Dev.leaves_refl _ s).setGate _ (by rfl)

theorem Dev.leaves_fire (y : Bool) (cause : Nat) : s.Leaves fireFlds (s.fire y cause) := by
  rw [Dev.fire]
  refine .ite _ (fun _ => Dev.leaves_refl _ s) fun _ => ?_
  have h1 : s.Leaves fireFlds (s.iff (!y) fun s => s.setBit F.GATE_BYP_STAT_X_CAUSE cause true) :=
    .iff (Dev.leaves_refl _ s) _ _ fun _ => (Dev.leaves_refl _ s).setBit _ _ (by decide)
  refine .ite _ (fun _ => h1) fun _ => ?_
  generalize s.iff (!y) (fun s => s.setBit F.GATE_BYP_STAT_X_CAUSE cause true) = v at h1 ⊢
  have h2 : s.Leaves fireFlds (((v.raise F.GATE_BYP_STAT_FIRED).put F.GATE_BYP_STAT_FIRST_Y (b2n y)).raise F.GATE_EVT_BYP_FIRED) := ((h1.raise (by decide)).put _ (by decide)).raise (by decide)
  dsimp only
  generalize ((v.raise F.GATE_BYP_STAT_FIRED).put F.GATE_BYP_STAT_FIRST_Y (b2n y)).raise F.GATE_EVT_BYP_FIRED = w at h2 ⊢
  have h3 := (h2.setGate { w.gate with fired := if w.gate.dormant then 2 else 3, otpDue := if w.otpBits < 32 then w.gate.otpDue + 1 else w.gate.otpDue } (by rfl)).trans
    (Dev.leaves_bypOut _ y _)
  have h4 := (h3.iff (!w.gate.dormant) (fun s => s.bypOut (!y)) fun _ => h3.trans (Dev.leaves_bypOut _ _ _)).next (Dev.leaves_gatesOff _) (by decide)
  refine Dev.Leaves.trans ?_ ((Dev.leaves_logEvent _ _ _).mono (by decide))
  refine Dev.Leaves.inc (F := F.GATE_LIFE_CNT) ?_ _ (by decide)
  exact h4.iff _ _ fun _ => (h4.trans (Dev.leaves_gatesDrive _ _ _)).trans ((Dev.leaves_toState _ _).mono (by decide))

theorem Dev.leaves_auxStart : s.Leaves [F.GATE_AUX_STAT_RUNNING] s.auxStart := by
  rw [Dev.auxStart]
  refine .ite _ (fun _ => Dev.leaves_refl _ s) fun _ => ?_
  have h : s.Leaves [F.GATE_AUX_STAT_RUNNING] (s.iff (s.gIs gWaking && s.gate.vstart.isNone) fun s => { s with gate := { s.gate with vstart := some s.now } }) :=
    .iff (Dev.leaves_refl _ s) _ _ fun _ => (Dev.leaves_refl _ s).setGate _ (by rfl)
  exact .ite _ (fun _ => (h.setGate _ (by rfl)).raise (by decide)) fun _ => h

theorem Dev.leaves_auxRelease : s.Leaves [F.GATE_AUX_STAT_RUNNING] s.auxRelease :=
  .ite _ (fun _ => Dev.leaves_refl _ s) fun _ => ((Dev.leaves_refl _ s).setGate _ (by rfl)).trans (Dev.leaves_auxStart _)

/-! ### Commands -/

theorem Dev.leaves_refuse : s.Leaves cmdFlds s.refuse := ((Dev.leaves_refl _ s).setGate { s.gate with badcmd := true } (by rfl)).inc (F := F.GATE_CMD_CNT_REFUSE_CNT) 1 (by decide)

theorem Dev.leaves_release : s.Leaves cmdFlds s.release := by
  have h : s.Leaves cmdFlds (s.iff (decide (s.gState ≠ gBypassed)) Dev.auxRelease) := .iff (Dev.leaves_refl _ s) _ _ fun _ => s.leaves_auxRelease.mono (by decide)
  rw [Dev.release]
  refine .ite _ (fun _ => (((Dev.leaves_refl _ s).inc _ (by decide)).raise (by decide)).trans (Dev.leaves_refuse _)) fun _ => .ite _ (fun _ => Dev.leaves_refl _ s) fun _ =>
    .ite _ (fun _ => ?_) fun _ => (h.raise (by decide)).trans (Dev.leaves_refuse _)
  exact ((((h.put _ (by decide)).setGate _ (by rfl)).next (Dev.leaves_gatesOff _) (by decide)).trans (Dev.leaves_gatesDrive _ _ _)).next (Dev.leaves_toState _ _) (by decide)

theorem Dev.leaves_move (pos t0 exec : Nat) : s.Leaves cmdFlds (s.move pos t0 exec) :=
  .ite _ (fun _ => .ite _ (fun _ => Dev.leaves_refl _ s) fun _ => (Dev.leaves_refl _ s).inc _ (by decide)) fun _ =>
    .ite _ (fun _ => s.leaves_refuse) fun _ => (s.leaves_setPos _ _ _).mono (by decide)

theorem Dev.leaves_modeChange (carrier : Bool) : s.Leaves cmdFlds (s.modeChange carrier) := by
  rw [Dev.modeChange]
  exact .ite _ (fun _ => Dev.leaves_refl _ s) fun _ => (((Dev.leaves_refl _ s).put _ (by decide)).put _ (by decide)).setGate _ (by rfl)

theorem Dev.leaves_loadCarrier (c : GCmd) : s.Leaves cmdFlds (s.loadCarrier c) :=
  .ite _ (fun _ => Dev.leaves_refl _ s) fun _ => .ite _ (fun _ => s.leaves_refuse) fun _ => ((Dev.leaves_refl _ s).setGate _ (by rfl)).put _ (by decide)

theorem Dev.leaves_carryOut (c : GCmd) (t0 : Nat) : s.Leaves cmdFlds (s.carryOut c t0) := by
  have h : s.Leaves cmdFlds (s.iff (decide (6 ≤ c.op) && s.gate.period.isNone) fun s' => { s' with gate := { s'.gate with carrAt := s.longTime c.exec * 64 } }) :=
    .iff (Dev.leaves_refl _ s) _ _ fun _ => (Dev.leaves_refl _ s).setGate _ (by rfl)
  rw [Dev.carryOut]
  exact .ite _ (fun _ => h.inc _ (by decide)) fun _ => .ite _ (fun _ => h.trans (Dev.leaves_move _ _ _ _)) fun _ =>
    .ite _ (fun _ => .ite _ (fun _ => h.next (Dev.leaves_blockAction _ _) (by decide)) fun _ => h) fun _ =>
    .ite _ (fun _ => .ite _ (fun _ => h) fun _ => h.next (Dev.leaves_fire _ _ _) (by decide)) fun _ =>
    .ite _ (fun _ => h.trans (Dev.leaves_loadCarrier _ _)) fun _ => .ite _ (fun _ => h.trans (Dev.leaves_release _)) fun _ => h.trans (Dev.leaves_modeChange _ _)

theorem Dev.leaves_obey (c : GCmd) (t0 : Nat) : s.Leaves cmdFlds (s.obey c t0) :=
  .ite _ (fun _ => (Dev.leaves_refl _ s).setGate _ (by rfl)) fun _ => s.leaves_carryOut c t0

theorem Dev.leaves_accept (c : GCmd) : s.Leaves acceptFlds (s.accept c) := by
  have h : s.Leaves acceptFlds (({ s with gate := { s.gate with late := true } } : Dev).inc F.LANE_MS_STAT_LATE_CNT.onLeaf 1) := ((Dev.leaves_refl _ s).setGate _ (by rfl)).inc _ (by decide)
  exact .ite _ (fun _ => .ite _ (fun _ => h) fun _ => h.next (Dev.leaves_obey _ _ _) (by decide)) fun _ =>
    .ite _ (fun _ => ((Dev.leaves_refl _ s).setGate _ (by rfl)).inc _ (by decide)) fun _ => (Dev.leaves_refl _ s).setGate _ (by rfl)

theorem Dev.leaves_lateAfterStep : s.Leaves acceptFlds s.lateAfterStep := by
  rw [Dev.lateAfterStep]
  exact ((Dev.leaves_refl _ s).setGate _ (by rfl)).trans (Dev.leaves_each _ _ _ fun _ _ _ => Dev.leaves_accept _ _)

/-! ### Station time and the plane of a CELL -/

def timeFlds : List Fld := [F.GATE_STAT_TLANE, F.GATE_STAT_TIME_HOLD, F.TIME_CTL_SYNC, F.TIME_STAT_TQ]

theorem Dev.leaves_noSource : s.Leaves timeFlds s.noSource :=
  .ite _ (fun _ => .iff (Dev.leaves_refl _ s) _ _ fun _ => (Dev.leaves_refl _ s).put (F := F.TIME_STAT_TQ) _ (by decide)) fun _ => ((Dev.leaves_refl _ s).put _ (by decide)).put _ (by decide)

theorem Dev.leaves_timeLane : s.Leaves timeFlds s.timeLane := by
  rw [Dev.timeLane]
  have h : ∀ a b, s.Leaves timeFlds ((s.put F.GATE_STAT_TLANE a).put F.GATE_STAT_TIME_HOLD b) := fun a b => ((Dev.leaves_refl _ s).put _ (by decide)).put _ (by decide)
  exact .iff (h _ _) _ _ fun _ => (h _ _).trans (Dev.leaves_noSource _)

theorem Dev.leaves_follow : s.Leaves timeFlds s.follow := by
  rw [Dev.follow]
  dsimp only
  split
  · exact s.leaves_timeLane
  · exact ((Dev.leaves_refl _ s).setGate _ (by rfl)).trans (Dev.leaves_timeLane _)
end

end Sys2Proof.Machine
end

section
/-! The superframe header at a downstream end (R202 to R204, R247, R350): what it tells, the station time of its beacon, and O22. -/

namespace Sys2Proof.Machine

/-! ### A beacon on the source lane -/

section
variable (s : Dev) (bt : Int) (delay : Nat) (tq : Bool)

/-- What a beacon makes of station time (R350): at most 0.5 ns nearer, or all the way beyond 8 ns. -/
theorem Dev.beaconTime_spec : let e := s.beaconErr bt delay
    let t := s.time.bT + ((s.time.frc : Int) - (s.time.bF : Int)) * (s.tickInc : Int)
    let u := s.beaconTime bt delay tq
    u.f F.TIME_CTL_SYNC = 1 ∧ u.f F.TIME_STAT_TQ = b2n tq ∧ u.time.bF = s.time.frc ∧
      u.time.bT = t + (if farErr e then e else clampI (-(nsFix / 2)) (nsFix / 2) e) ∧ (farErr e = true → u.f F.TIME_STAT_STEPPED = 1) := by
  intro e t u
  have hinc : (s.put F.TIME_LANE_ERR_ERR (wrap 32 (satS 32 (e / 2 ^ 32)))).tickInc = s.tickInc := by
    unfold Dev.tickInc
    exact Dev.f_put_apart _ _ _ _ _ _ (by decide)
  refine ⟨?_, ?_, ?_, ?_, fun hf => ?_⟩ <;> simp only [u, Dev.beaconTime]
  · rw [Dev.f_put_apart _ _ _ _ _ _ (by decide), Dev.f_put_same]; rfl
  · rw [Dev.f_put_same]
    exact b2n_mod tq
  · cases farErr (s.beaconErr bt delay) <;> rfl
  · rw [hinc]
    cases farErr (s.beaconErr bt delay) <;> rfl
  · rw [Dev.f_put_apart _ _ _ _ _ _ (by decide), Dev.f_put_apart _ _ _ _ _ _ (by decide), show farErr (s.beaconErr bt delay) = true from hf]
    exact Dev.f_raise_same ..

def beaconFlds : List Fld := [F.TIME_LANE_ERR_ERR, F.TIME_INC_INC, F.TIME_STAT_STEPPED, F.TIME_CTL_SYNC, F.TIME_STAT_TQ]

theorem Dev.leaves_beaconTime : s.Leaves beaconFlds (s.beaconTime bt delay tq) := by
  rw [Dev.beaconTime]
  refine ((Dev.Leaves.iff ((((Dev.leaves_refl beaconFlds s).put _ (by decide)).setTime _ (by rfl)).put _ (by decide)) _ _ fun _ => ?_).put _ (by decide)).put _ (by decide)
  exact ((((Dev.leaves_refl beaconFlds s).put _ (by decide)).setTime _ (by rfl)).put _ (by decide)).raise (by decide)
end

/-! ### The period, the time, and what the header tells -/

section
variable (s : Dev) (L : Nat)

theorem Dev.learnPeriod_proto (cyc t : Nat) : ∃ x, s.learnPeriod L cyc t = { s with proto := { s.proto with pLane := x } } := by
  rw [Dev.learnPeriod]
  split
  · dsimp only
    rw [Dev.iff]
    split <;> exact ⟨_, rfl⟩
  · exact ⟨_, rfl⟩

/-- The period moves the protocol's record of it alone, and shows in a CELL. -/
theorem Dev.takePeriod_cases (cyc : Nat) (bt : Int) : ∃ a b p h, let u : Dev := { s with proto := { s.proto with pLane := a, pSeen := b, per := p, ph := h } }
    s.takePeriod L cyc bt = u ∨ s.role = .cell ∧ s.takePeriod L cyc bt = u.put F.GATE_TIME_STAT_P p := by
  obtain ⟨x, hx⟩ := s.learnPeriod_proto L cyc bt.toNat
  rw [Dev.takePeriod, hx]
  dsimp only
  split
  · split
    · rw [Dev.iff]
      split
      · rename_i hc
        exact ⟨_, _, _, _, .inr ⟨of_decide_eq_true hc, rfl⟩⟩
      · exact ⟨_, _, _, _, .inl rfl⟩
    · exact ⟨_, _, _, _, .inl rfl⟩
  · exact ⟨_, _, _, _, .inl rfl⟩

/-- TK1 of a BONDED pair. -/
def Dev.secondTrunk : Bool := decide (s.role = .concentrator) && decide (L = 1) && s.concBonded

/-- The period that the header gives. -/
def Dev.sofPeriod (d : List Byte) : Dev := s.iff (!s.secondTrunk L) fun s => s.takePeriod L (fieldBE d 3 3) (beaconOf d)

/-- The station time that its beacon gives, on the source lane. -/
def Dev.sofBeacon (d : List Byte) : Dev :=
  if s.isSource L ∧ s.lnFlag F.LANE_LANE_STAT_TIME_VALID L then
    let e := s.beaconErr (beaconOf d) (s.ln F.LANE_LANE_DELAY_DELAY L)
    let s := s.beaconTime (beaconOf d) (s.ln F.LANE_LANE_DELAY_DELAY L) (bitOf (field d 16 1) 7)
    if farErr e then
      let s := { s with glob := { s.glob with nextCyc := 0 } }
      if s.awake then ((s.raise F.GATE_EVT_TIME_STEP).logEvent 9 (wrap 32 (satS 32 (e / nsFix)))).lateAfterStep else s
    else s
  else s

/-- The period and the station time that the header and its beacon give. -/
def Dev.sofTime (d : List Byte) : Dev :=
  ((s.sofPeriod L d).iff (decide ((s.sofPeriod L d).role = .cell)) fun s => s.timeLane).sofBeacon L d

/-- The header is the last one of its lane. -/
def Dev.sofKeep (d : List Byte) : Dev :=
  { s with proto := { s.proto with sof := Tab.put s.proto.sof L (SofSeen.ofBytes d s.now), miss := Tab.set 0 s.proto.miss L 0 } }

/-- What a CONCENTRATOR takes from the header (R203 to R205). -/
def Dev.sofConc (second : Bool) (x : SofSeen) (d : List Byte) : Dev :=
  let s := s.iff (decide (L = 0) && decide (s.f F.GLOBAL_ROLE_PLANE = 0)) fun s => s.put F.GLOBAL_ROLE_PLANE x.plane
  if second then s
  else
    let s := { s with proto := { s.proto with upoff := Tab.set 0 s.proto.upoff L (field d 17 1), nport := Tab.set 0 s.proto.nport L (field d 18 1) } }
    s.iff (decide (L = s.srcTrunk)) fun s => (s.put F.LANE_RB_STAT_HOLD (b2n x.trip)).put F.LANE_RB_STAT_HOLD.onLeaf (b2n x.trip)

/-- A plane that is seen to be active is not old (R299). -/
def Dev.sofAge (x : SofSeen) : Dev :=
  if x.active ∧ x.plane ≠ 0 ∧ ¬ (L = 65 ∧ s.leafDup) then { s with gate := { s.gate with tage := Tab.put s.gate.tage x.plane 0 } } else s

/-- What a CELL takes from it (R229, R298). -/
def Dev.sofCell (x : SofSeen) : Dev := (s.follow.iff x.trip fun s => (s.raise F.GATE_STAT_TRIP_HOLD).put F.LANE_RB_STAT_HOLD.onLeaf 1).sofAge L x

theorem Dev.sofTaken_eq (d : List Byte) : s.sofTaken L d =
    match ((s.sofTime L d).sofKeep L d).role with
    | .concentrator => ((s.sofTime L d).sofKeep L d).sofConc L (s.secondTrunk L) (SofSeen.ofBytes d (s.sofTime L d).now) d
    | .cell => ((s.sofTime L d).sofKeep L d).sofCell L (SofSeen.ofBytes d (s.sofTime L d).now)
    | _ => (s.sofTime L d).sofKeep L d := by
  unfold Dev.sofTaken
  extract_lets bt second s1 s2 e b glob c v
  have hv : s.sofTime L d = v := rfl
  rw [hv]
  clear_value v
  rfl

/-- The period moves no field but that of a CELL which shows it, and of the protocol's record only the period. -/
theorem Dev.sofPeriod_keeps (d : List Byte) : (s.sofPeriod L d).role = s.role ∧ (s.sofPeriod L d).proto.upoff = s.proto.upoff ∧
    (s.sofPeriod L d).proto.nport = s.proto.nport ∧ ∀ (G : Fld) (i j : Nat), G.clear F.GATE_TIME_STAT_P = true → (s.sofPeriod L d).f G i j = s.f G i j := by
  rw [Dev.sofPeriod, Dev.iff]
  split
  · obtain ⟨a, b, p, h, e | ⟨-, e⟩⟩ := s.takePeriod_cases L (fieldBE d 3 3) (beaconOf d)
    · rw [e]
      exact ⟨rfl, rfl, rfl, fun G i j _ => Dev.fb_of_regs rfl (by cases G.blk <;> rfl) ..⟩
    · rw [e]
      exact ⟨rfl, rfl, rfl, fun G i j hG => (Dev.f_put_clear _ _ _ _ _ _ hG).trans (Dev.fb_of_regs rfl (by cases G.blk <;> rfl) ..)⟩
  · exact ⟨rfl, rfl, rfl, fun _ _ _ _ => rfl⟩

def beaconCellFlds : List Fld := F.GATE_EVT_TIME_STEP :: beaconFlds ++ acceptFlds

theorem Dev.leaves_sofBeacon (d : List Byte) : s.Leaves beaconCellFlds (s.sofBeacon L d) := by
  rw [Dev.sofBeacon]
  have h := (s.leaves_beaconTime (beaconOf d) (s.ln F.LANE_LANE_DELAY_DELAY L) (bitOf (field d 16 1) 7)).mono (l' := beaconCellFlds) (by decide)
  exact .ite _ (fun _ => .ite _ (fun _ => .ite _ (fun _ => (((h.setGlob _ (by rfl)).raise (by decide)).next (Dev.leaves_logEvent _ _ _) (by decide)).next (Dev.leaves_lateAfterStep _) (by decide))
    fun _ => h.setGlob _ (by rfl)) fun _ => h) fun _ => Dev.leaves_refl _ s

def sofFlds : List Fld := F.GATE_TIME_STAT_P :: timeFlds ++ beaconCellFlds

theorem Dev.sofTime_keeps (d : List Byte) : (s.sofTime L d).role = s.role ∧ (s.sofTime L d).proto.upoff = s.proto.upoff ∧
    (s.sofTime L d).proto.nport = s.proto.nport ∧ ∀ (G : Fld) (i j : Nat), G.clearOf sofFlds = true → (s.sofTime L d).f G i j = s.f G i j := by
  obtain ⟨hr, hu, hn, hf⟩ := s.sofPeriod_keeps L d
  have hl : (s.sofPeriod L d).Leaves sofFlds (s.sofTime L d) :=
    (Dev.Leaves.iff (Dev.leaves_refl _ _) _ _ fun _ => (Dev.leaves_timeLane _).mono (by decide)).next (Dev.leaves_sofBeacon _ L d) (by decide)
  exact ⟨hl.role.trans hr, (congrArg Proto.upoff hl.proto).trans hu, (congrArg Proto.nport hl.proto).trans hn,
    fun G i j hG => (hl.fld G i j hG).trans (hf G i j (Fld.clearOf_mem hG (by decide)))⟩

theorem Dev.sofTime_second (d : List Byte) (h : s.secondTrunk L = true) : (s.sofTime L d).proto = s.proto := by
  have hp : s.sofPeriod L d = s := by rw [Dev.sofPeriod, h]; rfl
  rw [Dev.sofTime, hp]
  exact (Dev.leaves_sofBeacon _ L d).proto.trans (Dev.iff_keeps s (·.proto) _ _ fun _ => s.leaves_timeLane.proto)

/-- In a CONCENTRATOR the period moves the protocol's record alone. -/
theorem Dev.sofPeriod_conc (d : List Byte) (hr : s.role = .concentrator) : ∃ y, s.sofPeriod L d = { s with proto := y } := by
  rw [Dev.sofPeriod, Dev.iff]
  split
  · obtain ⟨a, b, p, h, e | ⟨hc, -⟩⟩ := s.takePeriod_cases L (fieldBE d 3 3) (beaconOf d)
    · exact ⟨_, e⟩
    · rw [hr] at hc
      exact absurd hc (by decide)
  · exact ⟨_, rfl⟩

theorem Dev.isSource_conc (hr : s.role = .concentrator) : s.isSource L = decide (L = s.srcTrunk) := by rw [Dev.isSource, hr]

theorem Dev.not_awake (hr : s.role ≠ .cell) : ¬ s.awake = true := by simp [Dev.awake, hr]

/-- The station time of a CONCENTRATOR moves on its source lane, by the beacon, and on no other. -/
theorem Dev.sofTime_conc (d : List Byte) (hr : s.role = .concentrator) : ∃ y, let v : Dev := { s with proto := y }
    (L ≠ s.srcTrunk → (s.sofTime L d).time = s.time) ∧
    (L = s.srcTrunk → s.ln F.LANE_LANE_STAT_TIME_VALID L ≠ 0 →
      (s.sofTime L d).time = (v.beaconTime (beaconOf d) (s.ln F.LANE_LANE_DELAY_DELAY L) (bitOf (field d 16 1) 7)).time) := by
  obtain ⟨y, hy⟩ := s.sofPeriod_conc L d hr
  refine ⟨y, ?_⟩
  have ht : s.sofTime L d = ({ s with proto := y } : Dev).sofBeacon L d := by
    rw [Dev.sofTime, hy]
    dsimp only
    rw [hr]
    rfl
  have hln : ∀ G, ({ s with proto := y } : Dev).ln G L = s.ln G L := fun G => Dev.fb_of_regs rfl (by cases (laneFld G L).blk <;> rfl) ..
  have hsrc : ({ s with proto := y } : Dev).isSource L = decide (L = s.srcTrunk) := Dev.isSource_conc _ L hr
  dsimp only
  rw [ht, Dev.sofBeacon, hsrc, Dev.lnFlag, hln, hln]
  refine ⟨fun h => by rw [if_neg fun hh => h (of_decide_eq_true hh.1)], fun h hv => ?_⟩
  rw [if_pos ⟨decide_eq_true h, decide_eq_true hv⟩]
  refine iteInduction (motive := fun u => Dev.time u = _) (fun _ => ?_) fun _ => rfl
  have hb : (({ s with proto := y } : Dev).beaconTime (beaconOf d) (s.ln F.LANE_LANE_DELAY_DELAY L) (bitOf (field d 16 1) 7)).role ≠ .cell := by
    rw [(Dev.leaves_beaconTime _ _ _ _).role]
    exact ne_of_eq_of_ne hr (by decide)
  refine iteInduction (motive := fun u : Dev => u.time = _) (fun h => absurd h (Dev.not_awake _ hb)) fun _ => rfl

/-! ### What the roles take from a header -/

def concFlds : List Fld := [F.GLOBAL_ROLE_PLANE, F.LANE_RB_STAT_HOLD, F.LANE_RB_STAT_HOLD.onLeaf]

/-- The fields that a CONCENTRATOR takes from a header. -/
theorem Dev.sofConc_fields (second : Bool) (x : SofSeen) (d : List Byte) : let u := s.sofConc L second x d
    (∀ (G : Fld) (i j : Nat), G.clearOf concFlds = true → u.f G i j = s.f G i j) ∧ u.time = s.time ∧
    u.f F.GLOBAL_ROLE_PLANE = if L = 0 ∧ s.f F.GLOBAL_ROLE_PLANE = 0 then x.plane % 4 else s.f F.GLOBAL_ROLE_PLANE := by
  have h1 : s.Leaves concFlds (s.iff (decide (L = 0) && decide (s.f F.GLOBAL_ROLE_PLANE = 0)) fun s => s.put F.GLOBAL_ROLE_PLANE x.plane) :=
    .iff (Dev.leaves_refl _ s) _ _ fun _ => (Dev.leaves_refl _ s).put _ (by decide)
  have h2 : (s.iff (decide (L = 0) && decide (s.f F.GLOBAL_ROLE_PLANE = 0)) fun s => s.put F.GLOBAL_ROLE_PLANE x.plane).f F.GLOBAL_ROLE_PLANE =
      if L = 0 ∧ s.f F.GLOBAL_ROLE_PLANE = 0 then x.plane % 4 else s.f F.GLOBAL_ROLE_PLANE := by
    by_cases hc : L = 0 ∧ s.f F.GLOBAL_ROLE_PLANE = 0
    · rw [if_pos hc, hc.1, hc.2]
      exact Dev.f_put_same ..
    · rw [if_neg hc, show (decide (L = 0) && decide (s.f F.GLOBAL_ROLE_PLANE = 0)) = false by simpa using hc]
      rfl
  have h3 : (s.iff (decide (L = 0) && decide (s.f F.GLOBAL_ROLE_PLANE = 0)) fun s => s.put F.GLOBAL_ROLE_PLANE x.plane).time = s.time :=
    Dev.iff_keeps s (·.time) _ _ fun _ => rfl
  rw [Dev.sofConc]
  generalize s.iff (decide (L = 0) && decide (s.f F.GLOBAL_ROLE_PLANE = 0)) (fun s => s.put F.GLOBAL_ROLE_PLANE x.plane) = v at h1 h2 h3
  have hp : ∀ (y : Proto) (G : Fld) (i j : Nat), ({ v with proto := y } : Dev).f G i j = v.f G i j := fun y G i j =>
    Dev.fb_of_regs rfl (by cases G.blk <;> rfl) ..
  refine iteInduction (motive := fun u : Dev => (∀ (G : Fld) (i j : Nat), G.clearOf concFlds = true → u.f G i j = s.f G i j) ∧ u.time = s.time ∧
    u.f F.GLOBAL_ROLE_PLANE = _) (fun _ => ⟨h1.fld, h3, h2⟩) fun _ => ⟨fun G i j hG => ?_, ?_, ?_⟩
  · exact (Dev.f_iff _ _ _ _ _ _ fun _ => (Dev.f_put_clear _ _ _ _ _ _ (Fld.clearOf_mem hG (by decide))).trans
      (Dev.f_put_clear _ _ _ _ _ _ (Fld.clearOf_mem hG (by decide)))).trans ((hp _ G i j).trans (h1.fld G i j hG))
  · exact (Dev.iff_keeps _ (·.time) _ _ fun _ => rfl).trans h3
  · exact (Dev.f_iff _ _ _ _ _ _ fun _ => (Dev.f_put_clear _ _ _ _ _ _ (by decide)).trans (Dev.f_put_clear _ _ _ _ _ _ (by decide))).trans ((hp _ _ _ _).trans h2)

/-- The protocol's record of a CONCENTRATOR: TK1 of a BONDED pair brings no UPOFF and NPORT (R212). -/
theorem Dev.sofConc_proto (second : Bool) (x : SofSeen) (d : List Byte) : (s.sofConc L second x d).proto = if second then s.proto else
    { s.proto with upoff := Tab.set 0 s.proto.upoff L (field d 17 1), nport := Tab.set 0 s.proto.nport L (field d 18 1) } := by
  have hv : (s.iff (decide (L = 0) && decide (s.f F.GLOBAL_ROLE_PLANE = 0)) fun s => s.put F.GLOBAL_ROLE_PLANE x.plane).proto = s.proto :=
    Dev.iff_keeps s (·.proto) _ _ fun _ => Dev.put_protoSt ..
  rw [Dev.sofConc]
  generalize s.iff (decide (L = 0) && decide (s.f F.GLOBAL_ROLE_PLANE = 0)) (fun s => s.put F.GLOBAL_ROLE_PLANE x.plane) = v at hv
  cases second
  · rw [← hv]
    rw [if_neg Bool.false_ne_true]
    exact iteInduction (motive := fun u : Dev => u.proto = _) (fun _ => rfl) fun _ => rfl
  · exact hv

def cellSofFlds : List Fld := F.LANE_RB_STAT_HOLD.onLeaf :: timeFlds

/-- A CELL takes the trip hold of a header, and the plane that it follows (R229, R298). -/
theorem Dev.sofCell_spec (x : SofSeen) : let u := s.sofCell L x
    u.proto = s.proto ∧ (∀ (G : Fld) (i j : Nat), G.clearOf (F.GATE_STAT_TRIP_HOLD :: cellSofFlds) = true → u.f G i j = s.f G i j) ∧
    (x.trip = true → u.f F.GATE_STAT_TRIP_HOLD = 1) ∧ (x.trip = false → u.f F.GATE_STAT_TRIP_HOLD = s.f F.GATE_STAT_TRIP_HOLD) := by
  have hv : s.Leaves (F.GATE_STAT_TRIP_HOLD :: cellSofFlds) (s.follow.iff x.trip fun s => (s.raise F.GATE_STAT_TRIP_HOLD).put F.LANE_RB_STAT_HOLD.onLeaf 1) :=
    .iff (s.leaves_follow.mono (by decide)) _ _ fun _ => ((s.leaves_follow.mono (by decide)).raise (by decide)).put _ (by decide)
  have ha : Dev.Leaves (F.GATE_STAT_TRIP_HOLD :: cellSofFlds) _ (s.sofCell L x) := .ite _ (fun _ => (Dev.leaves_refl _ _).setGate _ (by rfl)) fun _ => Dev.leaves_refl _ _
  have hf : (s.sofCell L x).f F.GATE_STAT_TRIP_HOLD =
      (s.follow.iff x.trip fun s => (s.raise F.GATE_STAT_TRIP_HOLD).put F.LANE_RB_STAT_HOLD.onLeaf 1).f F.GATE_STAT_TRIP_HOLD :=
    iteInduction (motive := fun u : Dev => u.f F.GATE_STAT_TRIP_HOLD = _) (fun _ => Dev.f_setGate rfl _ _ _) fun _ => rfl
  refine ⟨ha.proto.trans hv.proto, fun G i j hG => (ha.fld G i j hG).trans (hv.fld G i j hG), fun h => ?_, fun h => ?_⟩
  · rw [hf, h]
    exact (Dev.f_put_clear _ _ _ _ _ _ (by decide)).trans (Dev.f_raise_same ..)
  · rw [hf, h]
    exact s.leaves_follow.fld _ _ _ (by decide)
end

/-! ### A header that is taken -/

section
variable (s : Dev) (L : Nat)

theorem Dev.f_sofKeep (d : List Byte) (G : Fld) (i j : Nat) : (s.sofKeep L d).f G i j = s.f G i j := Dev.fb_of_regs rfl (by cases G.blk <;> rfl) ..

def takenFlds : List Fld := F.GLOBAL_ROLE_PLANE :: F.LANE_RB_STAT_HOLD :: F.LANE_RB_STAT_HOLD.onLeaf :: F.GATE_STAT_TRIP_HOLD :: sofFlds

/-- A header that is taken is the last of its lane, with no miss since, and moves no field beyond those of the list. -/
theorem Dev.sofTaken_spec (d : List Byte) (hr : s.role = .concentrator ∨ s.role = .cell) : let u := s.sofTaken L d
    (∃ t, Tab.find u.proto.sof L = some (SofSeen.ofBytes d t)) ∧ Tab.get 0 u.proto.miss L = 0 ∧
    ∀ (G : Fld) (i j : Nat), G.clearOf takenFlds = true → u.f G i j = s.f G i j := by
  intro u
  obtain ⟨hrole, -, -, hf⟩ := s.sofTime_keeps L d
  have hkeep : (∃ t, Tab.find ((s.sofTime L d).sofKeep L d).proto.sof L = some (SofSeen.ofBytes d t)) ∧ Tab.get 0 ((s.sofTime L d).sofKeep L d).proto.miss L = 0 :=
    ⟨⟨_, Tab.find_put_same ..⟩, Tab.get_set_same 0 (s.sofTime L d).proto.miss L 0⟩
  have hsub : ∀ {G : Fld} {l : List Fld}, G.clearOf takenFlds = true → (∀ F ∈ l, F ∈ takenFlds) → G.clearOf l = true := fun hG hl =>
    List.all_eq_true.mpr fun F hF => Fld.clearOf_mem hG (hl F hF)
  have hu : u = _ := s.sofTaken_eq L d
  rcases hr with hr | hr
  · rw [show ((s.sofTime L d).sofKeep L d).role = .concentrator from hrole.trans hr] at hu
    dsimp only at hu
    obtain ⟨h1, -, -⟩ := ((s.sofTime L d).sofKeep L d).sofConc_fields L (s.secondTrunk L) (SofSeen.ofBytes d (s.sofTime L d).now) d
    have h2 := ((s.sofTime L d).sofKeep L d).sofConc_proto L (s.secondTrunk L) (SofSeen.ofBytes d (s.sofTime L d).now) d
    rw [hu]
    refine ⟨?_, ?_, fun G i j hG => (h1 G i j (hsub hG (by decide))).trans ((Dev.f_sofKeep ..).trans (hf G i j (hsub hG (by decide))))⟩ <;> rw [h2] <;> split
    · exact hkeep.1
    · exact hkeep.1
    · exact hkeep.2
    · exact hkeep.2
  · rw [show ((s.sofTime L d).sofKeep L d).role = .cell from hrole.trans hr] at hu
    dsimp only at hu
    obtain ⟨h1, h2, -, -⟩ := ((s.sofTime L d).sofKeep L d).sofCell_spec L (SofSeen.ofBytes d (s.sofTime L d).now)
    rw [hu]
    refine ⟨?_, ?_, fun G i j hG => (h2 G i j (hsub hG (by decide))).trans ((Dev.f_sofKeep ..).trans (hf G i j (hsub hG (by decide))))⟩ <;> rw [h1]
    · exact hkeep.1
    · exact hkeep.2

theorem Dev.ln_sofTaken (d : List Byte) (hr : s.role = .concentrator ∨ s.role = .cell) {G : Fld} (h : G.clearOf takenFlds = true) (h' : G.onLeaf.clearOf takenFlds = true) (M : Nat) :
    (s.sofTaken L d).ln G M = s.ln G M := by
  refine (s.sofTaken_spec L d hr).2.2 _ _ _ ?_
  unfold laneFld
  split
  · exact h
  · exact h'
end

/-! ### O22 -/

section
variable {s : Dev} {L : Nat} (d : List Byte)

/-- A header that is intact, at a lane that was in RUN. -/
theorem Dev.sofReceive_run (hr : s.role = .concentrator ∧ L < 64 ∨ s.role = .cell) (h : s.inRun L = true) : s.sofReceive L d true = s.sofTaken L d := by
  have hst : s.lState L = lRun := of_decide_eq_true (Bool.and_eq_true_iff.mp h).2
  have hL : s.hasLane L = true := (Bool.and_eq_true_iff.mp h).1
  rw [Dev.sofReceive, if_neg (not_not_intro hL), if_neg (by simp), hst]
  rw [show (decide (lRun = lSync) && !s.isUp L && (s.lane L).meas) = false by simp [lRun, lSync]]
  dsimp only [Dev.iff]
  rw [if_neg Bool.false_ne_true, if_neg (not_not_intro h)]
  rcases hr with ⟨hr, hlt⟩ | hr
  · rw [hr]
    exact if_pos (decide_eq_true hlt)
  · rw [hr]

/-- The first intact header at a lane that has its delay brings it into RUN (R175). -/
theorem Dev.sofReceive_sync (hr : s.role = .concentrator ∨ s.role = .cell) (hL : s.hasLane L = true) (hst : s.lState L = lSync) (hu : s.isUp L = false)
    (hm : (s.lane L).meas = true) : s.sofReceive L d true = (s.enterRun L).sofTaken L d := by
  have hon : s.OnLane L s.out (s.enterRun L) := Dev.OnLane.enterRun ⟨Dev.keeps_refl _ s, rfl, fun _ _ => ⟨rfl, rfl⟩⟩
  have hrun : (s.enterRun L).inRun L = true := by
    rw [Dev.inRun, (s.enterRun_spec L).1, Dev.hasLane_congr hon.role, hL]; rfl
  rw [Dev.sofReceive, if_neg (not_not_intro hL), if_neg (by simp), hst, hu, hm]
  rw [show (s.iff (decide (lSync = lSync) && !false && true) fun s => s.enterRun L) = s.enterRun L from rfl]
  dsimp only
  rw [if_neg (not_not_intro hrun), hon.role]
  rcases hr with hr | hr
  · have hlt : L < 64 := by
      rw [Dev.isUp, hr] at hu
      exact not_le.mp (of_decide_eq_false hu)
    rw [hr]
    exact if_pos (decide_eq_true hlt)
  · rw [hr]

theorem Dev.sofReceive_idle (h : s.inRun L = false) (h' : s.lState L ≠ lSync ∨ s.isUp L = true) (ok : Bool) : s.sofReceive L d ok = s := by
  have hi : ¬ s.inRun L = true := by simp [h]
  rw [Dev.sofReceive]
  by_cases hL : s.hasLane L = true
  · rw [if_neg (not_not_intro hL)]
    by_cases hok : ok = true
    · rw [if_neg (not_not_intro hok), show (decide (s.lState L = lSync) && !s.isUp L && (s.lane L).meas) = false by rcases h' with h' | h' <;> simp [h']]
      exact if_pos hi
    · rw [if_pos hok, h]; rfl
  · rw [if_pos hL]

theorem Dev.sofReceive_bad : s.sofReceive L d false = s.iff (s.inRun L) fun s => s.incBlkLn F.LANE_SF_ERR_SOF_CRC L 1 := by
  rw [Dev.sofReceive]
  by_cases hL : s.hasLane L = true
  · rw [if_neg (not_not_intro hL), if_pos Bool.false_ne_true]
  · rw [if_pos hL, show s.inRun L = false by simp [Dev.inRun, hL]]; rfl

theorem farErr_iff (e : Int) : farErr e = true ↔ 8 * nsFix < (e.natAbs : Int) := by
  unfold farErr
  rw [Bool.or_eq_true, decide_eq_true_eq, decide_eq_true_eq]
  have h : (0 : Int) < nsFix := by decide
  omega

theorem Dev.sofMiss_eq (h : s.inL0 L = true) (hu : s.isUp L = false) : ∃ x p,
    let v := ({ s with time := x, proto := p } : Dev).incBlkLn F.LANE_SF_MISS_SOF_MISS L 1
    Tab.get 0 p.miss L = Tab.get 0 s.proto.miss L + 1 ∧ s.sofMiss L = v.iff v.awake fun s => s.follow := by
  rw [Dev.sofMiss, if_neg (by simp [h, hu])]
  rcases hf : Tab.find s.proto.sof L with _ | y
  · exact ⟨s.time, { s.proto with miss := Tab.set 0 s.proto.miss L (Tab.get 0 s.proto.miss L + 1) }, Tab.get_set_same 0 s.proto.miss L (Tab.get 0 s.proto.miss L + 1), rfl⟩
  · obtain ⟨x, hx⟩ := s.advanceTo_withTime (y.tm + s.perNs * 3 / 2 + Tab.get 0 s.proto.miss L * s.perNs)
    dsimp only
    rw [hx]
    exact ⟨x, { s.proto with miss := Tab.set 0 s.proto.miss L (Tab.get 0 s.proto.miss L + 1) }, Tab.get_set_same 0 s.proto.miss L (Tab.get 0 s.proto.miss L + 1), rfl⟩

/-- A superframe that does not come is counted (R202). -/
theorem Dev.sofMiss_spec (h : s.inL0 L = true) (hu : s.isUp L = false) : let u := s.sofMiss L
    Tab.get 0 u.proto.miss L = Tab.get 0 s.proto.miss L + 1 ∧
    u.blkLn F.LANE_SF_MISS_SOF_MISS L = satAdd (laneFld F.LANE_SF_MISS_SOF_MISS L).w (s.blkLn F.LANE_SF_MISS_SOF_MISS L) 1 ∧ u.lState L = s.lState L := by
  obtain ⟨x, p, hp, hx⟩ := Dev.sofMiss_eq h hu
  dsimp only at hx ⊢
  rw [hx]
  have hl : ∀ v : Dev, v.Leaves timeFlds (v.iff v.awake fun s => s.follow) := fun v => .iff (Dev.leaves_refl _ v) _ _ fun _ => v.leaves_follow
  have hc : ∀ G : Fld, G.clearOf timeFlds = true → G.onLeaf.clearOf timeFlds = true → (laneFld G L).clearOf timeFlds = true := fun G h1 h2 => by
    unfold laneFld; split <;> assumption
  have hf : ∀ (G : Fld) (i : Nat), G.blk = .trunk → ({ s with time := x, proto := p } : Dev).f (laneFld G L) i = s.f (laneFld G L) i := fun G i hb => by
    refine Dev.fb_of_regs (s := s) (u := { s with time := x, proto := p }) rfl ?_ _ _ _
    unfold laneFld
    split
    · rw [hb]; rfl
    · rfl
  refine ⟨?_, ?_, ?_⟩
  · rw [(hl _).proto, Dev.incBlkLn, Dev.inc, show ∀ (w : Dev) (G : Fld) g i j, (w.befall G g i j).proto = w.proto from fun _ _ _ _ _ => Dev.put_protoSt ..]
    exact hp
  · rw [Dev.blkLn, (hl _).fld _ _ _ (hc _ (by decide) (by decide)), Dev.incBlkLn, Dev.f_inc_same, Dev.satAdd_mod_two_pow, hf _ _ rfl]
    rfl
  · rw [Dev.lState, Dev.ln, (hl _).fld _ _ _ (hc _ (by decide) (by decide)), Dev.incBlkLn, Dev.f_inc_apart _ _ _ _ _ _ (laneFld_apart (by decide) L L), hf _ _ rfl]
    rfl
end

/-- Settles O22: an intact header is taken (`sofTaken_spec`), by a lane in RUN or by the one that it brings into RUN; the station time of a
CONCENTRATOR follows the beacon of its source lane (`sofTime_conc`, `beaconTime_spec`). -/
theorem sofAtADownstreamEnd : Obligations.SofAtADownstreamEnd := by
  unfold Obligations.SofAtADownstreamEnd
  intro s L data d got x told
  have hst : d.lState L = s.dev.lState L := Dev.begin_lState ..
  have hgot : s.Runs got (d.sofReceive L data true) := s.runs_sofReceive.of_eq (by rw [crcBody_withCrc, crcOk_withCrc]; rfl)
  have hbad : ∀ raw clean, clean = false ∨ crcOk raw = false → s.Runs (.sofReceive L raw clean) (d.sofReceive L (crcBody raw) false) := fun raw clean h =>
    s.runs_sofReceive.of_eq (by rcases h with h | h <;> simp [h, d])
  have htold : ∀ {v : Dev}, v.role = .concentrator ∨ v.role = .cell → told (v.sofTaken L data) := fun {v} hr => by
    obtain ⟨⟨t, ht⟩, hm, -⟩ := v.sofTaken_spec L data hr
    exact ⟨⟨_, ht, rfl, rfl, rfl, rfl, rfl, rfl, rfl⟩, hm⟩
  refine ⟨fun raw clean h => s.runs_sofReceive.of_eq (if_pos (by rw [show d.hasLane L = s.dev.hasLane L from rfl, h]; simp)),
    fun raw clean h => ⟨fun hr => (hbad raw clean h).of_eq ?bad, fun hr => (hbad raw clean h).of_eq ?badIdle⟩, fun hL hs hu hm hr => hgot.does ?sync,
    fun hr h => hgot.of_eq (Dev.sofReceive_idle (s := d) data hr (by rwa [hst]) true), fun hr hlt hrole => hgot.does ?conc, fun hr hrole => hgot.does ?cell, fun h hu => s.runs_sofMiss.does ?miss,
    fun h => s.runs_sofMiss.of_eq (if_pos (h.imp (fun h => by rw [show d.inL0 L = s.dev.inL0 L from rfl, h]; simp) id))⟩
  case bad => rw [Dev.sofReceive_bad, show d.inRun L = true from hr]; rfl
  case badIdle => rw [Dev.sofReceive_bad, show d.inRun L = false from hr]; rfl
  case sync =>
    have hrole : (d.enterRun L).role = .concentrator ∨ (d.enterRun L).role = .cell := by
      rw [(Dev.onLane_begin s.dev L).enterRun.role]; exact hr
    obtain ⟨h1, h2, h3, -⟩ := d.enterRun_spec L
    rw [Dev.sofReceive_sync (s := d) data hr hL (hst.trans hs) hu hm]
    refine ⟨?_, ?_, ?_, htold hrole⟩
    · rw [Dev.lState, Dev.ln_sofTaken _ L data hrole (by decide) (by decide)]; exact h1
    · rw [Dev.ln_sofTaken _ L data hrole (by decide) (by decide), h2]
    · rw [Dev.ln_sofTaken _ L data hrole (by decide) (by decide), h3]
  case conc =>
    have hrd : d.role = .concentrator := hrole
    rw [Dev.sofReceive_run (s := d) data (.inl ⟨hrd, hlt⟩) hr]
    refine ⟨htold (.inl hrd), ?_⟩
    obtain ⟨hrole', hup, hnp, hf⟩ := d.sofTime_keeps L data
    have hu := d.sofTaken_eq L data
    rw [show ((d.sofTime L data).sofKeep L data).role = .concentrator from hrole'.trans hrd] at hu
    dsimp only at hu
    obtain ⟨hfld, htime, hplane⟩ := ((d.sofTime L data).sofKeep L data).sofConc_fields L (d.secondTrunk L) (SofSeen.ofBytes data (d.sofTime L data).now) data
    have hproto := ((d.sofTime L data).sofKeep L data).sofConc_proto L (d.secondTrunk L) (SofSeen.ofBytes data (d.sofTime L data).now) data
    have hsec : d.secondTrunk L = true ↔ L = 1 ∧ s.dev.concBonded = true := by
      rw [Dev.secondTrunk, hrd, show d.concBonded = s.dev.concBonded from rfl]; simp
    obtain ⟨y, hother, hsrc⟩ := d.sofTime_conc L data hrd
    rw [hu]
    refine ⟨fun h => ?_, fun h1 h2 => ?_, ?_, fun h hv => ?_, fun h => htime.trans (hother h)⟩
    · rw [hproto, if_neg (mt hsec.mp h)]
      exact ⟨Tab.get_set_same 0 (d.sofTime L data).proto.upoff L _, Tab.get_set_same 0 (d.sofTime L data).proto.nport L _⟩
    · have hs := hsec.mpr ⟨h1, h2⟩
      rw [hproto, if_pos hs]
      exact ⟨hup, hnp, (congrArg Proto.per (d.sofTime_second L data hs) : (d.sofTime L data).proto.per = d.proto.per)⟩
    · rw [hplane, Dev.f_sofKeep, hf _ _ _ (by decide), Dev.begin_f]
      rfl
    · obtain ⟨h1, h2, h3, h4, h5⟩ := Dev.beaconTime_spec { d with proto := y } (beaconOf data) (d.ln F.LANE_LANE_DELAY_DELAY L) (bitOf (field data 16 1) 7)
      have hln : d.ln F.LANE_LANE_DELAY_DELAY L = s.dev.ln F.LANE_LANE_DELAY_DELAY L := Dev.begin_ln ..
      have ht := hsrc h (by rwa [show d.ln F.LANE_LANE_STAT_TIME_VALID L = _ from Dev.begin_ln ..])
      have hB := (Dev.leaves_beaconTime { d with proto := y } (beaconOf data) (d.ln F.LANE_LANE_DELAY_DELAY L) (bitOf (field data 16 1) 7)).role
      have hfl : ∀ G : Fld, G.blk = .time → G.clearOf concFlds = true → _ := fun G hb hc => (hfld G 0 0 hc).trans ((Dev.f_sofKeep _ L data G 0 0).trans
        (Dev.fb_of_regs (hrole'.trans hB.symm) (by rw [hb]; exact congrArg Time.regs ht) ..))
      have he : Dev.beaconErr { d with proto := y } (beaconOf data) (d.ln F.LANE_LANE_DELAY_DELAY L) =
        beaconOf data + (s.dev.ln F.LANE_LANE_DELAY_DELAY L : Int) * 2 ^ 32 - s.dev.nowFix := by rw [hln]; rfl
      rw [he] at h4 h5
      refine ⟨(hfl _ rfl (by decide)).trans h1, (hfl _ rfl (by decide)).trans h2, ?_, fun hn => ?_, fun hn => ⟨?_, (hfl _ rfl (by decide)).trans (h5 (farErr_iff _ |>.mpr hn))⟩⟩
      · exact (congrArg Time.bF (htime.trans ht)).trans h3
      · refine (congrArg Time.bT (htime.trans ht)).trans (h4.trans ?_)
        rw [if_neg (mt (farErr_iff _).mp (not_lt.mpr hn))]
        rfl
      · refine (congrArg Time.bT (htime.trans ht)).trans (h4.trans ?_)
        rw [if_pos ((farErr_iff _).mpr hn)]
        rfl
  case cell =>
    have hrd : d.role = .cell := hrole
    rw [Dev.sofReceive_run (s := d) data (.inr hrd) hr]
    refine ⟨htold (.inr hrd), ?_⟩
    obtain ⟨hrole', -, -, hf⟩ := d.sofTime_keeps L data
    have hu := d.sofTaken_eq L data
    rw [show ((d.sofTime L data).sofKeep L data).role = .cell from hrole'.trans hrd] at hu
    dsimp only at hu
    obtain ⟨-, -, h1, h2⟩ := ((d.sofTime L data).sofKeep L data).sofCell_spec L (SofSeen.ofBytes data (d.sofTime L data).now)
    rw [hu]
    refine ⟨h1, fun ht => (h2 ht).trans ?_⟩
    rw [Dev.f_sofKeep, hf _ _ _ (by decide), Dev.begin_f]
  case miss =>
    obtain ⟨h1, h2, h3⟩ := Dev.sofMiss_spec (s := d) (L := L) h hu
    refine ⟨h1, ?_, h3.trans (hst.trans ?_)⟩
    · rw [h2]; rfl
    · simp only [Dev.inL0, Dev.inRun, Bool.and_eq_true, decide_eq_true_eq] at h
      exact h.1.2

end Sys2Proof.Machine
end

section
/-! Milestone sections and entries, telemetry records (R206 to R219, R299), and O23. -/

namespace Sys2Proof.Machine

/-! ### Bytes of a list in two parts -/

theorem slice_append_left (h t : List Byte) (a n : Nat) (hn : a + n ≤ h.length) : slice (h ++ t) a n = slice h a n := by
  unfold slice
  rw [List.drop_append_of_le_length (by omega), List.take_append_of_le_length (by rw [List.length_drop]; omega)]

theorem slice_append_right (h t : List Byte) (k n : Nat) : slice (h ++ t) (h.length + k) n = slice t k n := by
  unfold slice
  rw [List.drop_append, List.drop_of_length_le (by omega), List.nil_append, Nat.add_sub_cancel_left]

/-- The header of a section and its slots, without the CRC of the header (R206). -/
theorem section_bytes (h t : List Byte) (n : Nat) (hn : h.length = n) : (withCrc h ++ t).take n ++ (withCrc h ++ t).drop (n + 4) = h ++ t := by
  have hl : (withCrc h).length = n + 4 := by simp [withCrc, hn]
  rw [List.drop_append, List.drop_of_length_le (by omega), hl, withCrc, List.append_assoc, List.take_append_of_le_length (by omega), ← hn, List.take_length]
  simp

/-! ### What a list of actions puts out -/

/-- What one action of a list puts out is put out by the whole of them. -/
theorem Dev.mem_out_each {α : Type} {own : List Blk} {l : List α} {g : Dev → α → Dev} {a : α} {o : Out} (ha : a ∈ l) (P : Dev → Prop)
    (hP : ∀ v b, P v → P (g v b)) (hg : ∀ v b, Dev.Grows own v (g v b)) (ho : ∀ v, P v → o ∈ (g v a).out) (s : Dev) (hs : P s) : o ∈ (s.each l g).out := by
  induction l generalizing s with
  | nil => exact absurd ha (List.not_mem_nil)
  | cons b l ih =>
    rcases List.mem_cons.mp ha with rfl | ha
    · exact (Dev.grows_each (g s a) l g fun v c _ => hg v c).mem_out (ho s hs)
    · exact ih ha (g s b) (hP s b hs)

/-! ### The fingerprints of R27 -/

section
variable {own : List Blk} (s : Dev) (q : RrReq)

theorem Dev.grows_rrComplete (hg : .global ∈ own) (hh : .hostq ∈ own) (st : Status) (ep x : Nat) : s.Grows own (s.rrComplete q st ep x) := by
  unfold Dev.rrComplete
  split
  · split
    · exact Dev.grows_finish _ hh ..
    · exact Dev.grows_refl ..
  · exact .ite _ (fun _ => (((Dev.keeps_refl own s).setGlob hg _).setGlob hg _).grows) fun _ => ((Dev.keeps_refl own s).setGlob hg _).grows

theorem Dev.grows_rrGone (hg : .global ∈ own) (ht : .trunk ∈ own) (hh : .hostq ∈ own) : s.Grows own (s.rrGone q) := by
  refine Dev.Grows.trans ?_ (Dev.grows_rrComplete _ q hg hh _ _ _)
  split
  · exact Dev.grows_inc _ ht _
  · exact Dev.grows_inc _ ht _

theorem Dev.grows_rrSubmit (hg : .global ∈ own) (ht : .trunk ∈ own) (hh : .hostq ∈ own) : s.Grows own (s.rrSubmit q) :=
  .ite _ (fun _ => ((Dev.keeps_refl own s).setProto ht _).grows) fun _ => s.grows_rrGone q hg ht hh

theorem Dev.grows_idReads (hg : .global ∈ own) (ht : .trunk ∈ own) (hh : .hostq ∈ own) : s.Grows own s.idReads :=
  .ite _ (fun _ => Dev.grows_refl ..) fun _ => Dev.grows_each _ _ _ fun v g _ =>
    .ite _ (fun _ => ((Dev.keeps_refl own v).setGlob hg _).grows) fun _ => .ite _ (fun _ => Dev.grows_refl ..) fun _ =>
      ((Dev.keeps_refl own v).setGlob hg _).grows.trans (Dev.grows_rrSubmit _ _ hg ht hh)

theorem Dev.rrComplete_proto (st : Status) (ep x : Nat) : (s.rrComplete q st ep x).proto = s.proto :=
  ((s.grows_rrComplete (own := [.global, .hostq]) q (by decide) (by decide) st ep x).keeps.2.2.2.2.2.2.2.1 (by decide)).2

theorem Dev.rrGone_proto : (s.rrGone q).proto = s.proto := by
  rw [Dev.rrGone, Dev.rrComplete_proto]
  exact Dev.put_protoSt ..

theorem Dev.idReads_ldel : s.idReads.proto.ldel = s.proto.ldel := by
  rw [Dev.idReads]
  refine iteInduction (motive := fun u : Dev => u.proto.ldel = _) (fun _ => rfl) fun _ => Dev.each_keeps (·.proto.ldel) _ _ (fun v _ _ => ?_) _
  refine iteInduction (motive := fun u : Dev => u.proto.ldel = _) (fun _ => rfl) fun _ => iteInduction (motive := fun u : Dev => u.proto.ldel = _) (fun _ => rfl) fun _ => ?_
  exact iteInduction (motive := fun u : Dev => u.proto.ldel = _) (fun _ => rfl) fun _ => congrArg Proto.ldel (Dev.rrGone_proto ..)
end

/-! ### A record that comes into use -/

section
variable (s : Dev)

theorem Dev.voteAdd_pair (k fplane tage gen : Nat) : ∃ x, s.voteAdd k fplane tage gen = { s with pair := x } := by
  have h : ∃ y, s.voteTrack fplane gen = { s with pair := y } := by
    rw [Dev.voteTrack]
    split
    · exact ⟨_, rfl⟩
    · exact ⟨s.pair, rfl⟩
  obtain ⟨y, hy⟩ := h
  rw [Dev.voteAdd, hy]
  exact ⟨_, rfl⟩

theorem Dev.recordUse_proto (c port cyc : Nat) (r : List Byte) : (s.recordUse c port cyc r).proto = s.proto := by
  rw [Dev.recordUse]
  split
  · rfl
  · dsimp only
    refine iteInduction (motive := fun u : Dev => u.proto = _) (fun _ => rfl) fun _ => ?_
    obtain ⟨x, hx⟩ := Dev.voteAdd_pair (s.spReport _ (sampleCycle cyc (field r 5 1)) (fieldBE r 0 2) (bits (field r 2 1) 5 3) (bits (field r 2 1) 3 2))
      (sampleCycle cyc (field r 5 1)) (bits (field r 8 1) 6 2) (fieldBE r 10 2) (field r 9 1)
    rw [hx]
    exact iteInduction (motive := fun u : Dev => u.proto = _) (fun _ => rfl) fun _ => rfl

theorem Dev.dmaxUpdate_proto : s.dmaxUpdate.proto = s.proto := by
  rw [Dev.dmaxUpdate]
  split
  · rfl
  · dsimp only
    split
    · rfl
    · rw [Dev.allowCheck]
      exact (Dev.iff_keeps _ (·.proto) _ _ fun _ => rfl).trans rfl
end

/-! ### Sections at a CONCENTRATOR -/

section
variable {s : Dev} {L : Nat} (data : List Byte)

theorem Dev.msForward_idle (h : s.role ≠ .concentrator ∨ 64 ≤ L ∨ s.inL0 L = false) (ok : Bool) : s.msForward L data ok = s := by
  rw [Dev.msForward]
  exact if_pos (h.imp id (Or.imp id fun h => by simp [h]))

/-- A section of a header that fails, or with more slots than lanes (R208). -/
theorem Dev.msForward_bad {ok : Bool} (hr : s.role = .concentrator) (hL : L < 64) (h0 : s.inL0 L = true) (h : ok = false ∨ 128 < field data 1 1 + field data 2 1) :
    s.msForward L data ok = s.inc F.LANE_SF_ERR_MS_CRC 1 := by
  rw [Dev.msForward]
  refine (if_neg (by simp [hr, hL, h0])).trans (if_pos (h.imp (fun h => by simp [h]) fun h => ?_))
  rwa [Nat.add_comm]

/-- The slots that a section forwards. -/
def Dev.msSlot (data : List Byte) (s : Dev) (k : Nat) : Dev :=
  if bits (fieldBE data (26 + 2 * k) 2) 12 4 = 0 then s
  else s.send (64 + field data 2 1 + k) 0xF7 (withCrc (slice data 0 1 ++ slice data 3 23 ++ beBytes 2 (fieldBE data (26 + 2 * k) 2)))

theorem Dev.msForward_ok (hr : s.role = .concentrator) (hL : L < 64) (h0 : s.inL0 L = true) (h : field data 2 1 + field data 1 1 ≤ 128) :
    s.msForward L data true = if s.trunkSof.isNone then s else s.each (List.range (field data 1 1)) (Dev.msSlot data) := by
  rw [Dev.msForward]
  exact (if_neg (by simp [hr, hL, h0])).trans (if_neg (by simpa using h))

theorem Dev.grows_msSlot (k : Nat) : s.Grows [] (Dev.msSlot data s k) :=
  .ite _ (fun _ => Dev.grows_refl ..) fun _ => .ite _ (fun _ => Dev.grows_emit ..) fun _ => Dev.grows_refl ..

theorem Dev.inL0_msSlot (k M : Nat) : (Dev.msSlot data s k).inL0 M = s.inL0 M := by
  have hg := (Dev.grows_msSlot (s := s) data k).keeps
  obtain ⟨hr, -, -, -, -, -, -, hl, -⟩ := hg
  have hln : ∀ G : Fld, G.blk = .trunk → (Dev.msSlot data s k).ln G M = s.ln G M := fun G hG => Dev.ln_congr hr (hl (by simp)).1 hG M
  rw [Dev.inL0, Dev.inL0, Dev.inRun, Dev.inRun, Dev.lState, Dev.lState, Dev.hasLane_congr hr, hln _ rfl, hln _ rfl]

/-- Each slot with an operation goes to its leaf lane in L0. -/
theorem Dev.msSlots_out (n k : Nat) (hk : k < n) (hb : bits (fieldBE data (26 + 2 * k) 2) 12 4 ≠ 0) (h0 : s.inL0 (64 + field data 2 1 + k) = true) :
    Out.lane (64 + field data 2 1 + k) 0xF7 (withCrc (slice data 0 1 ++ slice data 3 23 ++ beBytes 2 (fieldBE data (26 + 2 * k) 2))) ∈
      (s.each (List.range n) (Dev.msSlot data)).out := by
  refine Dev.mem_out_each (List.mem_range.mpr hk) (fun v => v.inL0 (64 + field data 2 1 + k) = true) (fun v b hv => ?_) (fun v b => Dev.grows_msSlot data b)
    (fun v hv => ?_) s h0
  · rwa [Dev.inL0_msSlot]
  · rw [Dev.msSlot, if_neg hb, Dev.send, if_pos hv]
    exact List.mem_cons_self
end

/-! ### Entries at a CELL -/

section
variable {s : Dev} {L : Nat} (data : List Byte)

/-- The plane that the last header of a lane names. -/
def Dev.sofPlane (s : Dev) (L : Nat) : Nat := match Tab.find s.proto.sof L with | some x => x.plane | none => 0

/-- An entry that is of no use (R213). -/
def Dev.badEntry (s : Dev) : Dev := ({ s with gate := { s.gate with badcmd := true } } : Dev).inc F.LANE_MS_STAT_BADCMD_CNT.onLeaf 1

/-- The command that an entry holds (R206, R207). -/
def entryCmd (data : List Byte) : GCmd :=
  { op := bits (fieldBE data 24 2) 12 4, param := bits (fieldBE data 24 2) 4 8, exec := fieldBE data 8 4, cv := bitOf (field data 1 1) 7,
    duty := fieldBE data 12 4, cper := fieldBE data 16 4, cphase := fieldBE data 20 4 }

/-- What an entry of the followed plane does (R213 to R215). -/
def Dev.useEntry (s : Dev) (ok : Bool) : Dev :=
  if ¬ ok ∨ chk4 (fieldBE data 24 2 / 16) ≠ fieldBE data 24 2 % 16 ∨ ¬ opDefined (entryCmd data).op (entryCmd data).param ∨
    ((entryCmd data).op = 2 ∧ ¬ s.flag F.GATE_CTL_FB) then s.badEntry
  else if (entryCmd data).op = 0 then s else s.accept (entryCmd data)

theorem Dev.leafDup_inc (G : Fld) (hG : F.LANE_LANE_STAT_STATE.onLeaf.apart G = true) (n : Nat) : (s.inc G n).leafDup = s.leafDup := by
  have hst : ∀ M, 64 ≤ M → (s.inc G n).inRun M = s.inRun M := fun M hM => by
    rw [Dev.inRun, Dev.inRun, Dev.lState, Dev.lState, Dev.ln, Dev.ln, show laneFld F.LANE_LANE_STAT_STATE M = F.LANE_LANE_STAT_STATE.onLeaf from if_neg (not_lt.mpr hM),
      Dev.f_inc_apart _ _ _ _ _ _ hG]
    rw [Dev.hasLane_congr (s := s) (u := s.inc G n) (Dev.put_role ..)]
  rw [Dev.leafDup, Dev.leafDup, hst 64 (by decide), hst 65 (by decide), show (s.inc G n).proto = s.proto from Dev.put_protoSt ..]

theorem Dev.msDecode_eq (ok : Bool) (ha : s.awake = true) (h0 : s.inL0 L = true) (hg : ok = true → genHigher 16 (fieldBE data 2 2) s.gate.gen = false) :
    s.msDecode L data ok = let u := s.iff (!ok) fun s => s.inc F.LANE_SF_ERR_MS_CRC.onLeaf 1
      if L = 65 ∧ s.leafDup then u
      else if s.sofPlane L = 0 ∨ s.sofPlane L ≠ s.gate.fplane then u.inc F.LANE_MS_STAT_OTHER_CNT.onLeaf 1
      else u.useEntry data ok := by
  have hu : (s.iff (!ok) fun s => s.inc F.LANE_SF_ERR_MS_CRC.onLeaf 1).leafDup = s.leafDup := by
    cases ok
    · exact Dev.leafDup_inc _ (by decide) 1
    · rfl
  have hp : (s.iff (!ok) fun s => s.inc F.LANE_SF_ERR_MS_CRC.onLeaf 1).proto = s.proto := Dev.iff_keeps s (·.proto) _ _ fun _ => Dev.put_protoSt ..
  have hgt : (s.iff (!ok) fun s => s.inc F.LANE_SF_ERR_MS_CRC.onLeaf 1).gate = s.gate := Dev.iff_keeps s (·.gate) _ _ fun _ => rfl
  rw [Dev.msDecode, if_neg (by simp [ha, h0])]
  dsimp only
  rw [hu]
  split
  · rfl
  · rw [Dev.sofPlane, ← hp, ← hgt]
    rw [← hgt] at hg
    generalize (s.iff (!ok) fun s => s.inc F.LANE_SF_ERR_MS_CRC.onLeaf 1) = v at hg
    rcases hf : Tab.find v.proto.sof L with _ | x
    · simp only [hf]
      rfl
    · dsimp only
      have hno : ¬ (ok = true ∧ genHigher 16 (fieldBE data 2 2) v.gate.gen = true ∧ x.plane ≠ 0) := fun h => by
        rw [hg h.1] at h
        exact Bool.false_ne_true h.2.1
      simp only [if_neg hno, hf]
      rfl

theorem Dev.msDecode_idle (h : s.awake = false ∨ s.inL0 L = false) (ok : Bool) : s.msDecode L data ok = s := if_pos (h.imp (by simp [·]) (by simp [·]))
end

/-! ### Records -/

section
variable {s : Dev} {L : Nat} (data : List Byte)

theorem Dev.recordReceive_idle (h : s.role ≠ .concentrator ∨ L < 64 ∨ s.inL0 L = false) (ok : Bool) : s.recordReceive L data ok = s :=
  if_pos (h.imp id (Or.imp id fun h => by simp [h]))

theorem Dev.recordReceive_eq (ok : Bool) (hr : s.role = .concentrator) (hL : 64 ≤ L) (h0 : s.inL0 L = true) : s.recordReceive L data ok =
    if ¬ ok then s.inc F.LANE_SF_ERR_TLM_CRC.onLeaf 1
    else { s with proto := { s.proto with tlm := Tab.put s.proto.tlm (L - 64) (((slice data 6 12, s.now) :: Tab.get [] s.proto.tlm (L - 64)).take 4) } } :=
  if_neg (by simp [hr, h0]; omega)

theorem Dev.telemetryUse_idle (h : s.role ≠ .manager ∨ s.inRun L = false ∨ s.isPair L = true) (ok : Bool) : s.telemetryUse L data ok = s :=
  if_pos (h.imp id (Or.imp (by simp [·]) id))

theorem Dev.telemetryUse_bad (hr : s.role = .manager) (hrun : s.inRun L = true) (hp : s.isPair L = false) :
    s.telemetryUse L data false = s.incBlkLn F.LANE_SF_ERR_TLM_CRC L 1 := (if_neg (by simp [hr, hrun, hp])).trans (if_pos (by simp))

theorem Dev.telemetryUse_direct (hr : s.role = .manager) (hrun : s.inRun L = true) (hp : s.isPair L = false) (hL : 64 ≤ L) :
    s.telemetryUse L data true = (s.recordUse 63 (L - 64) (s.cyc24 (fieldBE data 3 3)) (slice data 6 12)).idReads :=
  (if_neg (by simp [hr, hrun, hp])).trans ((if_neg (by simp)).trans (if_pos hL))

/-- The record of a cell in state 7 is no report; another one is the newest of its cell's (R218). -/
theorem Dev.recordUse_cell {c port cyc g : Nat} {r : List Byte} (hg : s.cellAt s.actSet c port = some g) : let st := bits (field r 2 1) 5 3
    let u := s.recordUse c port cyc r
    (st = 7 → u = s) ∧ (st ≠ 7 → (s.spCell g).st ≠ 0 → (u.spCell g).reps = (s.spCell g).reps ++
      [{ k := sampleCycle cyc (field r 5 1), v := fieldBE r 0 2, st := st, pos := bits (field r 2 1) 3 2, fresh := true }]) := by
  intro st u
  have hu : u = if st = 7 then s else (s.spReport g (sampleCycle cyc (field r 5 1)) (fieldBE r 0 2) st (bits (field r 2 1) 3 2)).voteAdd
      (sampleCycle cyc (field r 5 1)) (bits (field r 8 1) 6 2) (fieldBE r 10 2) (field r 9 1) := by
    simp only [u, Dev.recordUse, hg]; rfl
  refine ⟨fun h => hu.trans (if_pos h), fun h hst => ?_⟩
  rw [hu, if_neg h]
  obtain ⟨x, hx⟩ := (s.spReport g (sampleCycle cyc (field r 5 1)) (fieldBE r 0 2) st (bits (field r 2 1) 3 2)).voteAdd_pair
    (sampleCycle cyc (field r 5 1)) (bits (field r 8 1) 6 2) (fieldBE r 10 2) (field r 9 1)
  rw [hx, Dev.spReport, if_neg hst]
  exact congrArg SpCell.reps (Dev.spCell_setSpCell_same ..)

/-- The status record of a CONCENTRATOR gives the delay of a port (R42, R219). -/
theorem Dev.telemetryUse_trunk (hr : s.role = .manager) (hrun : s.inRun L = true) (hp : s.isPair L = false) (hL : L < 64)
    (hb : bitOf (field (slice data 6 16) 0 1) 7 = true) : Tab.get 0 (s.telemetryUse L data true).proto.ldel (s.primaryOf s.actSet L * 128 + field (slice data 6 16) 0 1 % 128) =
      fieldBE (slice data 6 16) 1 3 + 1 := by
  have he : s.telemetryUse L data true = (((s.statusUse (s.primaryOf s.actSet L) (s.cyc24 (fieldBE data 3 3)) (slice data 6 16)).each (List.range ((data.length - 22) / 12))
      fun v k => v.recordUse (s.primaryOf s.actSet L) ((if s.laneMode L = mBonded then 64 else 0) + k) (s.cyc24 (fieldBE data 3 3)) (slice data (22 + 12 * k) 12)).dmaxUpdate).idReads :=
    (if_neg (by simp [hr, hrun, hp])).trans ((if_neg (by simp)).trans (if_neg (not_le.mpr hL)))
  rw [he, Dev.idReads_ldel, Dev.dmaxUpdate_proto, Dev.each_keeps (·.proto) _ _ fun v k _ => Dev.recordUse_proto ..]
  dsimp only [Dev.statusUse]
  rw [if_pos hb]
  exact Tab.get_put_same ..
end

/-- Settles O23: the slots of a section go out one by one (`msSlots_out`), an entry comes in as `msDecode_eq` says, and a record as `recordUse_cell` says. -/
theorem milestonesAndTelemetry : Obligations.MilestonesAndTelemetry := by
  unfold Obligations.MilestonesAndTelemetry
  intro s L data d
  have hsof : d.proto.sof = s.dev.proto.sof := rfl
  refine ⟨fun head slots hlen hr hL h0 => ?sections, fun raw clean h => s.runs_msSectionForward.of_eq (Dev.msForward_idle (s := d) _ h _), fun ha h0 => ?entries,
    fun hr hL h0 => ⟨fun raw clean h => s.runs_telemetryRecordReceive.of_eq ?_, s.runs_telemetryRecordReceive.of_eq ?_⟩,
    fun raw clean h => s.runs_telemetryRecordReceive.of_eq (Dev.recordReceive_idle (s := d) _ h _), fun hr hrun hp => ?use,
    fun raw clean h => s.runs_telemetryUse.of_eq (Dev.telemetryUse_idle (s := d) _ h _)⟩
  case sections =>
    intro n first got
    have h4 : ∀ a k, a + k ≤ 26 → slice (head ++ slots) a k = slice head a k := fun a k h => slice_append_left _ _ _ _ (hlen ▸ h)
    have hslot : ∀ k, fieldBE (head ++ slots) (26 + 2 * k) 2 = fieldBE slots (2 * k) 2 := fun k => by
      rw [fieldBE, ← hlen, slice_append_right]; rfl
    have hn : field (head ++ slots) 1 1 = n := congrArg ofBytes (h4 1 1 (by decide))
    have hf : field (head ++ slots) 2 1 = first := congrArg ofBytes (h4 2 1 (by decide))
    have hgot : s.Runs got (d.msForward L (head ++ slots) true) := s.runs_msSectionForward.of_eq (by
      rw [take_withCrc_append _ _ _ hlen, section_bytes _ _ _ hlen, crcOk_withCrc]; rfl)
    have hok : first + n ≤ 128 → d.msForward L (head ++ slots) true = if d.trunkSof.isNone then d else d.each (List.range n) (Dev.msSlot (head ++ slots)) := fun h => by
      rw [Dev.msForward_ok (s := d) _ hr hL h0 (by rwa [hn, hf]), hn]
    refine ⟨fun raw clean h => s.runs_msSectionForward.of_eq (Dev.msForward_bad (s := d) _ hr hL h0 (.inl (by rcases h with h | h <;> simp [h]))),
      fun h => hgot.of_eq (Dev.msForward_bad (s := d) _ hr hL h0 (.inr (by rw [hn, hf]; omega))),
      fun h ht => hgot.of_eq ((hok h).trans (if_pos (by rw [show d.trunkSof = s.dev.trunkSof from rfl, ht]; rfl))),
      fun h ht => (hgot.of_eq ((hok h).trans (if_neg ?_))).does ⟨?_, fun k hk hb hM => ?_⟩⟩
    · rw [show d.trunkSof = s.dev.trunkSof from rfl, Option.isNone_iff_eq_none]
      exact ht
    · exact (Dev.grows_each _ _ _ fun v k _ => Dev.grows_msSlot _ k).keeps.of_begin
    · have := Dev.msSlots_out (s := d) (head ++ slots) n k hk (by rwa [hslot]) (by rwa [hf])
      rwa [hslot, hf, h4 0 1 (by decide), h4 3 23 (by decide)] at this
  case entries =>
    intro got bad slot op c
    have hraw : ∀ raw clean, clean = false ∨ crcOk raw = false → s.Runs (.msEntryDecode L raw clean) (d.msDecode L (crcBody raw) false) := fun raw clean h =>
      s.runs_msEntryDecode.of_eq (by rcases h with h | h <;> simp [h, d])
    have hgot : s.Runs got (d.msDecode L data true) := s.runs_msEntryDecode.of_eq (by rw [crcBody_withCrc, crcOk_withCrc]; rfl)
    have hdup : L ≠ 65 ∨ s.dev.leafDup = false → ¬ (L = 65 ∧ d.leafDup = true) := fun h hh => h.elim (· hh.1) fun h => by
      rw [show d.leafDup = false from h] at hh
      exact Bool.false_ne_true hh.2
    have hplane : ∀ {x}, Tab.find s.dev.proto.sof L = some x → d.sofPlane L = x.plane := fun h => by
      rw [Dev.sofPlane, hsof, h]
    refine ⟨fun raw clean h => ?_, fun hL hd => hgot.of_eq ?_, fun x hd hx hg => ⟨fun h => hgot.of_eq ?_, fun h hf => ?_⟩⟩
    · intro u plane
      have he := (hraw raw clean h).of_eq (Dev.msDecode_eq (s := d) (crcBody raw) false ha h0 (fun h => absurd h Bool.false_ne_true))
      refine ⟨fun hL hd => he.of_eq (if_pos ⟨hL, hd⟩), fun hd h => he.of_eq ((if_neg (hdup hd)).trans (if_pos h)), fun hd h0 hf => he.of_eq ((if_neg (hdup hd)).trans
        ((if_neg (not_or.mpr ⟨h0, not_not_intro hf⟩)).trans (if_pos (.inl Bool.false_ne_true))))⟩
    · exact (if_neg (not_or.mpr ⟨not_not_intro ha, not_not_intro h0⟩)).trans (if_pos ⟨hL, hd⟩)
    · have he := Dev.msDecode_eq (s := d) data true ha h0 (fun _ => hg)
      exact he.trans ((if_neg (hdup hd)).trans (if_pos (by rw [hplane hx]; exact h)))
    · have he := hgot.of_eq ((Dev.msDecode_eq (s := d) data true ha h0 fun _ => hg).trans ((if_neg (hdup hd)).trans (if_neg (by rw [hplane hx]; exact not_or.mpr ⟨h, not_not_intro hf⟩))))
      have hfb0 : s.dev.f F.GATE_CTL_FB = 0 → ¬ d.flag F.GATE_CTL_FB = true := fun h0 hh => of_decide_eq_true hh ((Dev.begin_f ..).trans h0)
      refine ⟨fun h => he.of_eq (if_pos (.inr (h.imp id (Or.imp (fun h => by rw [show opDefined (entryCmd data).op (entryCmd data).param = false from h]; decide)
        fun h => ⟨h.1, hfb0 h.2⟩)))), fun hc ho hfb => ?_⟩
      · have hno : ¬ (¬ true = true ∨ chk4 (fieldBE data 24 2 / 16) ≠ fieldBE data 24 2 % 16 ∨ ¬ opDefined (entryCmd data).op (entryCmd data).param = true ∨
            ((entryCmd data).op = 2 ∧ ¬ d.flag F.GATE_CTL_FB = true)) := by
          rintro (h | h | h | h)
          · exact h rfl
          · exact h hc
          · exact h ho
          · exact h.2 (decide_eq_true (ne_of_eq_of_ne (Dev.begin_f ..) (hfb h.1)))
        have hl : d.isLate c = s.dev.isLate c := rfl
        have he := he.of_eq (if_neg hno)
        refine ⟨fun h0 => he.of_eq (if_pos h0), fun h0 hl hn => he.of_eq ((if_neg h0).trans ((if_neg ?_).trans (if_neg ?_))), fun h0 hl hn hx =>
          he.of_eq ((if_neg h0).trans ((if_neg ?_).trans (if_pos ⟨hn, ?_⟩))), fun h0 hl => he.of_eq ((if_neg h0).trans (if_pos hl))⟩
        · exact fun h => by simp [show d.isLate (entryCmd data) = false from hl] at h
        · exact fun h => hn.elim (not_lt.mpr h.1) h.2
        · exact fun h => by simp [show d.isLate (entryCmd data) = false from hl] at h
        · exact fun h => by simp [show (d.gate.cmds.any fun e => decide (e.exec = (entryCmd data).exec)) = false from hx] at h
  case use =>
    intro got
    have hgot : s.Runs got (d.telemetryUse L data true) := s.runs_telemetryUse.of_eq (by rw [crcBody_withCrc, crcOk_withCrc]; rfl)
    refine ⟨fun raw clean h => s.runs_telemetryUse.of_eq ?_, fun hL g hg => ?_, fun hL hb => hgot.does (Dev.telemetryUse_trunk (s := d) data hr hrun hp hL hb)⟩
    · rw [show (clean && crcOk raw) = false by rcases h with h | h <;> simp [h]]
      exact Dev.telemetryUse_bad (s := d) _ hr hrun hp
    · intro r st
      have hu := hgot.of_eq (Dev.telemetryUse_direct (s := d) data hr hrun hp hL)
      obtain ⟨h7, hrep⟩ := Dev.recordUse_cell (s := d) (cyc := d.cyc24 (fieldBE data 3 3)) (r := r) hg
      obtain ⟨-, -, -, -, -, -, -, -, -, hspin, -, -, -, -, -, -, -, hpair, -⟩ :=
        (Dev.grows_idReads (own := [.global, .trunk, .hostq]) (d.recordUse 63 (L - 64) (d.cyc24 (fieldBE data 3 3)) r) (by decide) (by decide) (by decide)).keeps
      refine ⟨fun h => hu.does ⟨(hspin (by decide)).trans ?_, (hpair (by decide)).trans ?_⟩, fun h hst => hu.does ?_⟩
      · rw [h7 h]; rfl
      · rw [h7 h]; rfl
      · rw [Dev.spCell, hspin (by decide)]
        exact hrep h hst
  · rw [show (clean && crcOk raw) = false by rcases h with h | h <;> simp [h]]
    exact Dev.recordReceive_eq (s := d) _ _ hr hL h0
  · rw [crcBody_withCrc, crcOk_withCrc]
    exact Dev.recordReceive_eq (s := d) _ _ hr hL h0

end Sys2Proof.Machine
end

section
/-! The operations of a CELL: what they leave and what they do to its state, its causes and its outputs (R233 to R259). -/

namespace Sys2Proof.Machine

/-! ### What a CELL holds beside its registers, its log and its last positions -/

/-- The state of GATE but for its registers, its log, the positions that it has left and the time of its RUN. -/
def Dev.gcore (s : Dev) : Gate := { s.gate with regs := [], log := [], posLog := [], runAt := none }

theorem Dev.gcore_of_gate {s u : Dev} (h : u.gate = s.gate) : u.gcore = s.gcore := by rw [Dev.gcore, h]; rfl

section
variable (s : Dev)

theorem Dev.gcore_withEvents (e : Events) : ({ s with events := e } : Dev).gcore = s.gcore := rfl
theorem Dev.gcore_withLog (x : Tab Nat) : ({ s with gate := { s.gate with log := x } } : Dev).gcore = s.gcore := rfl
theorem Dev.gcore_setRegs (t : Tab Nat) (b : Blk) : (s.setRegs t b).gcore = s.gcore := by cases b <;> rfl
theorem Dev.gcore_put (G : Fld) (v : Nat) (i j : Nat) : (s.put G v i j).gcore = s.gcore := Dev.gcore_setRegs ..
theorem Dev.gcore_befall (G : Fld) (g : Nat → Nat) (i j : Nat) : (s.befall G g i j).gcore = s.gcore := 
  (Dev.gcore_withEvents (s.put G (g (s.f G i j)) i j) _).trans (Dev.gcore_put ..)
theorem Dev.gcore_raise (G : Fld) (i j : Nat) : (s.raise G i j).gcore = s.gcore := Dev.gcore_befall ..
theorem Dev.gcore_inc (G : Fld) (n : Nat) (i j : Nat) : (s.inc G n i j).gcore = s.gcore := by
  rw [Dev.inc]
  exact Dev.gcore_befall ..

theorem Dev.gcore_logEvent (code x : Nat) : (s.logEvent code x).gcore = s.gcore := by
  rw [Dev.logEvent]
  exact (Dev.iff_keeps _ Dev.gcore _ _ fun _ => (Dev.gcore_inc ..).trans (Dev.gcore_put ..)).trans ((Dev.gcore_put ..).trans (Dev.gcore_withLog ..))

theorem Dev.gcore_toState (st : Nat) : (s.toState st).gcore = s.gcore := by
  rw [Dev.toState]
  refine (Dev.gcore_logEvent ..).trans ((Dev.gcore_put ..).trans ?_)
  exact Dev.iff_keeps s Dev.gcore _ _ fun _ => Dev.gcore_inc s F.GATE_LIFE_CNT _ 1 0

theorem Dev.gcore_posTo (pos t : Nat) : (s.posTo pos t).gcore = s.gcore :=
  (Dev.gcore_put ..).trans (Dev.iff_keeps s Dev.gcore _ _ fun _ => rfl)

/-- A leg with both switches off and no transition. -/
def Leg.allOff (l : Leg) : Leg := { l with hi := false, lo := false, tr := none }

theorem Dev.gcore_gatesOff : s.gatesOff.gcore =
    { s.gcore with legA := s.gate.legA.allOff, legB := s.gate.legB.allOff, period := none, edges := [], edgeWait := none } :=
  (Dev.iff_keeps _ Dev.gcore _ _ fun _ => Dev.gcore_inc _ F.GATE_LIFE_CNT _ 0 0).trans (Dev.gcore_posTo ..)
end

theorem bitOf_mod {v i w : Nat} (h : i < w) : bitOf (v % 2 ^ w) i = bitOf v i := by
  rw [bitOf, bitOf, ← Nat.testBit_eq_decide_div_mod_eq, ← Nat.testBit_eq_decide_div_mod_eq, Nat.testBit_mod_two_pow, decide_eq_true h, Bool.true_and]

/-! ### What they leave of other blocks -/

section
variable {s u : Dev} {own : List Blk} {outs : List Out}

/-- What is done after a command's first steps, putting nothing out. -/
theorem Dev.Keeps.next {v : Dev} {own' : List Blk} (h : s.Keeps own outs u) (k : u.Keeps own' u.out v) (hsub : ∀ b ∈ own', b ∈ own) : s.Keeps own outs v :=
  h.trans (h.out_eq ▸ k.mono hsub)

theorem Dev.Keeps.logEvent (h : s.Keeps own outs u) (hb : .gate ∈ own) (code x : Nat) : s.Keeps own outs (u.logEvent code x) := by
  rw [Dev.logEvent]
  exact ((h.setGate hb _).put (G := F.GATE_LOG_CTL_WR) hb _).iff _ _ fun _ =>
    (((h.setGate hb _).put (G := F.GATE_LOG_CTL_WR) hb _).put (G := F.GATE_LOG_CTL_RD) hb _).inc (G := F.GATE_LOG_CTL_OVWR_CNT) hb _

theorem Dev.Keeps.life (h : s.Keeps own outs u) (hb : .gate ∈ own) (k n : Nat) : s.Keeps own outs (u.life k n) := h.inc (G := F.GATE_LIFE_CNT) hb _ _ _

theorem Dev.Keeps.toState (h : s.Keeps own outs u) (hb : .gate ∈ own) (st : Nat) : s.Keeps own outs (u.toState st) :=
  Dev.Keeps.logEvent (((h.iff _ _ fun _ => h.life hb _ _).setGate hb _).put (G := F.GATE_STAT_STATE) hb _) hb _ _

theorem Dev.Keeps.posTo (h : s.Keeps own outs u) (hb : .gate ∈ own) (pos t : Nat) : s.Keeps own outs (u.posTo pos t) :=
  (h.iff _ _ fun _ => h.setGate hb _).put (G := F.GATE_STAT_POS) hb _

theorem Dev.Keeps.gatesOff (h : s.Keeps own outs u) (hb : .gate ∈ own) : s.Keeps own outs u.gatesOff :=
  ((h.setGate hb _).posTo hb _ _).iff _ _ fun _ => ((h.setGate hb _).posTo hb _ _).life hb _ _

theorem Dev.Keeps.gatesDrive (h : s.Keeps own outs u) (hb : .gate ∈ own) (on : Bool) : s.Keeps own outs (u.gatesDrive on) := h.setGate hb _

theorem Dev.Keeps.setPos (h : s.Keeps own outs u) (hb : .gate ∈ own) (pos t0 exec : Nat) : s.Keeps own outs (u.setPos pos t0 exec) :=
  ((h.setGate hb _).posTo hb _ _).life hb _ _

theorem Dev.Keeps.addCause (h : s.Keeps own outs u) (hb : .gate ∈ own) (c : Nat) : s.Keeps own outs (u.addCause c) := h.setBit (G := F.GATE_STAT_CAUSE) hb _ _

theorem Dev.Keeps.toFault (h : s.Keeps own outs u) (hb : .gate ∈ own) (c : Nat) : s.Keeps own outs (u.toFault c) :=
  .ite _ (fun _ => ((h.gatesOff hb).addCause hb c).toState hb _) fun _ => .ite _ (fun _ => h.addCause hb c) fun _ => h

theorem Dev.Keeps.blockAction (h : s.Keeps own outs u) (hb : .gate ∈ own) (c : Nat) : s.Keeps own outs (u.blockAction c) := by
  have h1 := (h.gatesOff hb).addCause hb c
  have h2 := h1.iff (decide (u.gState = gRun)) (fun s => s.toState gBlocked) fun _ => h1.toState hb _
  exact .ite _ (fun _ => h) fun _ => h2.iff _ _ fun _ => h2.logEvent hb _ _

theorem Dev.Keeps.pastCycle (h : s.Keeps own outs u) (hb : .time ∈ own) (w : Nat) : s.Keeps own outs (u.pastCycle w) := h.advanceTo hb _
end

/-! ### What they do -/

section
variable (s : Dev)

theorem Dev.bit_setBit_same (G : Fld) (k i j : Nat) (b : Bool) (h : k < G.w) : bitOf ((s.setBit G k b i j).f G i j) k = b := by
  rw [Dev.setBit, show (s.befall G (fun x => putBit x k b) i j).f G i j = _ from Dev.befall_fb .., show (s.put G (putBit (s.f G i j) k b) i j).fb G 0 i j = _ from Dev.f_put_same .., bitOf_mod h]
  exact bitOf_putBit_same ..

theorem Dev.f_posTo (pos t : Nat) : (s.posTo pos t).f F.GATE_STAT_POS = pos % 4 := Dev.f_put_same ..

theorem Dev.gState_toState {st : Nat} (h : st < 8) : (s.toState st).gState = st :=
  ((Dev.leaves_logEvent _ _ _).fld _ _ _ (by decide)).trans ((Dev.f_put_same ..).trans (Nat.mod_eq_of_lt h))

/-- Every switch is off, no edge is pending, and the position says so (R246, R255). -/
def Dev.AllOff (u : Dev) : Prop := u.gate.legA.hi = false ∧ u.gate.legA.lo = false ∧ u.gate.legB.hi = false ∧ u.gate.legB.lo = false ∧
  u.gate.edges = [] ∧ u.f F.GATE_STAT_POS = pBlocked

theorem Dev.allOff_gatesOff : s.gatesOff.AllOff := by
  have h := s.gcore_gatesOff
  refine ⟨congrArg (·.legA.hi) h, congrArg (·.legA.lo) h, congrArg (·.legB.hi) h, congrArg (·.legB.lo) h, congrArg (·.edges) h, ?_⟩
  exact (Dev.f_iff _ F.GATE_STAT_POS _ _ _ _ fun _ => Dev.f_inc_clear _ _ _ _ _ _ (by decide)).trans (Dev.f_posTo ..)

variable {s}

theorem Dev.AllOff.of_gcore {u : Dev} (h : s.AllOff) (hg : u.gcore = s.gcore) (hp : u.f F.GATE_STAT_POS = s.f F.GATE_STAT_POS) : u.AllOff := by
  obtain ⟨h1, h2, h3, h4, h5, h6⟩ := h
  exact ⟨(congrArg (·.legA.hi) hg).trans h1, (congrArg (·.legA.lo) hg).trans h2, (congrArg (·.legB.hi) hg).trans h3, (congrArg (·.legB.lo) hg).trans h4,
    (congrArg (·.edges) hg).trans h5, hp.trans h6⟩

theorem Dev.AllOff.logEvent (h : s.AllOff) (code x : Nat) : (s.logEvent code x).AllOff := h.of_gcore (Dev.gcore_logEvent ..) ((Dev.leaves_logEvent ..).fld _ _ _ (by decide))
theorem Dev.AllOff.toState (h : s.AllOff) (st : Nat) : (s.toState st).AllOff := h.of_gcore (Dev.gcore_toState ..) ((Dev.leaves_toState ..).fld _ _ _ (by decide))
theorem Dev.AllOff.addCause (h : s.AllOff) (c : Nat) : (s.addCause c).AllOff := h.of_gcore (Dev.gcore_befall ..) (Dev.f_setBit_clear _ _ _ _ _ _ _ (by decide))
theorem Dev.AllOff.raise (h : s.AllOff) {G : Fld} (hG : F.GATE_STAT_POS.clear G = true) (i j : Nat) : (s.raise G i j).AllOff :=
  h.of_gcore (Dev.gcore_raise ..) (Dev.f_raise_clear _ _ _ _ _ hG)
theorem Dev.AllOff.put (h : s.AllOff) {G : Fld} (hG : F.GATE_STAT_POS.clear G = true) (x i j : Nat) : (s.put G x i j).AllOff :=
  h.of_gcore (Dev.gcore_put ..) (Dev.f_put_clear _ _ _ _ _ _ hG)
theorem Dev.AllOff.inc (h : s.AllOff) {G : Fld} (hG : F.GATE_STAT_POS.clear G = true) (n i j : Nat) : (s.inc G n i j).AllOff :=
  h.of_gcore (Dev.gcore_inc ..) (Dev.f_inc_clear _ _ _ _ _ _ hG)

/-- With a cause the gates go off, and the cell changes its state (R246, R259). -/
theorem Dev.offTo_spec {st c : Nat} (hst : st < 8) (hc : c < 9) : let u := (s.gatesOff.addCause c).toState st
    u.gState = st ∧ bitOf (u.f F.GATE_STAT_CAUSE) c = true ∧ u.AllOff := by
  refine ⟨Dev.gState_toState _ hst, ?_, (s.allOff_gatesOff.addCause c).toState st⟩
  rw [(Dev.leaves_toState ..).fld _ _ _ (by decide)]
  exact Dev.bit_setBit_same _ _ _ _ _ _ hc

theorem Dev.toFault_eq {c : Nat} (h : s.gIs gRun = true ∨ s.gIs gReady = true ∨ s.gIs gBlocked = true) : s.toFault c = (s.gatesOff.addCause c).toState gFault := if_pos h

theorem Dev.blockAction_eq {c : Nat} (h : s.gIs gRun = true) : s.blockAction c = (s.gatesOff.addCause c).toState gBlocked := by
  obtain ⟨ha, hst⟩ := Bool.and_eq_true_iff.mp h
  rw [Dev.blockAction, if_neg (not_not_intro ha), hst]
  rfl

theorem Dev.gIs_iff {st : Nat} : s.gIs st = true ↔ s.awake = true ∧ s.gState = st := by rw [Dev.gIs, Bool.and_eq_true, decide_eq_true_eq]
end

end Sys2Proof.Machine
end

section
/-! Roadblock sequences and remote register requests (R222 to R225, R227 to R229), and O24. -/

namespace Sys2Proof.Machine

/-! ### A Roadblock on a lane -/

section
variable (s : Dev) (L : Nat)

/-- A Roadblock is counted on its lane (R227). -/
def Dev.rbSeen : Dev := (s.raise (laneFld F.LANE_RB_STAT_SEEN L)).incBlkLn F.LANE_RB_STAT_RB_CNT L 1

theorem Dev.rbSeen_f {G : Fld} (h : G.clearOf [F.LANE_RB_STAT_SEEN, F.LANE_RB_STAT_SEEN.onLeaf, F.LANE_RB_STAT_RB_CNT, F.LANE_RB_STAT_RB_CNT.onLeaf] = true) (i j : Nat) :
    (s.rbSeen L).f G i j = s.f G i j := by
  have hl : ∀ F : Fld, G.clear F = true → G.clear F.onLeaf = true → G.clear (laneFld F L) = true := fun F h1 h2 => by
    unfold laneFld
    split
    · exact h1
    · exact h2
  rw [Dev.rbSeen, Dev.incBlkLn, Dev.f_inc_clear _ _ _ _ _ _ (hl _ (Fld.clearOf_mem h (by decide)) (Fld.clearOf_mem h (by decide))),
    Dev.f_raise_clear _ _ _ _ _ (hl _ (Fld.clearOf_mem h (by decide)) (Fld.clearOf_mem h (by decide)))]

theorem Dev.rbSeen_seen : (s.rbSeen L).f (laneFld F.LANE_RB_STAT_SEEN L) = 1 := by
  rw [Dev.rbSeen, Dev.incBlkLn, Dev.f_inc_apart _ _ _ _ _ _ (laneFld_apart (by decide) L L)]
  refine (Dev.f_raise_same ..).trans ?_
  rw [laneFld_w]
  rfl

theorem Dev.keeps_rbSeen : s.Keeps [.trunk] s.out (s.rbSeen L) := by
  have hb : ∀ G : Fld, G.blk = .trunk → (laneFld G L).blk.home = .trunk := fun G h => laneFld_home h L
  rw [Dev.rbSeen, Dev.incBlkLn]
  exact ((Dev.keeps_refl _ s).raise (by rw [hb _ rfl]; decide) _ _).inc (by rw [hb _ rfl]; decide) _ _ _

theorem Dev.rbSeen_proto : (s.rbSeen L).proto = s.proto := (Dev.put_protoSt ..).trans (Dev.put_protoSt ..)
end

section
variable {s : Dev} {L : Nat}

/-- A Roadblock of the partner stands after its last header (R310). -/
def Dev.psofRb (s : Dev) : Dev := { s with pair := { s.pair with psof := s.pair.psof.map fun (x : SofSeen) => { x with rb := true } } }

/-- A burst that a CONCENTRATOR passes on (R212). -/
def Dev.rbPass (s : Dev) (L : Nat) : Dev :=
  let s := { s with proto := { s.proto with rbAt := some (L, s.now) } }
  let l := ((List.range 128).map (· + 64)).filter s.fromAlign
  let s := { s with proto := { s.proto with rbRel := s.proto.rbRel || decide (l ≠ []) } }
  s.rbEmit l

/-- The same burst on the other trunk lane of a BONDED pair (R212). -/
def Dev.rbSame (s : Dev) (L : Nat) : Bool :=
  match s.proto.rbAt with
  | some (l, t) => s.concBonded && decide (l ≠ L) && decide (s.now ≤ t + 200)
  | none => false

/-- What a Roadblock of two or more does, by role. -/
def Dev.onRoadblock (s : Dev) (L : Nat) : Role → Dev
  | .cell => ((s.rbSeen L).markRb).cellRoadblock L
  | .concentrator => if 64 ≤ L then s else if (s.rbSeen L).rbSame L then s.rbSeen L else (s.rbSeen L).rbPass L
  | .manager =>
    if ¬ s.isPair L then s
    else if ¬ s.psofRb.flag F.LANE_RB_CTL_PAIR_EN then s.psofRb
    else if (s.psofRb.rbSeen L).pairTrip then (s.psofRb.rbSeen L).rbBurst false else (s.psofRb.rbSeen L).raise F.PAIR_STAT_PAIR_TRIP
  | .none => s

theorem Dev.roadblock_eq {k : Nat} (hk : 2 ≤ k) (h : s.fromAlign L = true ∨ s.farLoop L = true) : s.roadblock L k = s.onRoadblock L s.role := by
  rw [Dev.roadblock, if_neg (by simp [h]; omega), if_neg (by omega)]
  rfl

theorem Dev.roadblock_idle {k : Nat} (h : (s.fromAlign L = false ∧ s.farLoop L = false) ∨ k = 0) : s.roadblock L k = s :=
  if_pos (h.imp (fun h => by simp [h]) id)

theorem Dev.roadblock_single (h : s.fromAlign L = true ∨ s.farLoop L = true) : s.roadblock L 1 = s.incBlkLn F.LANE_RB_STAT_SINGLE_CNT L 1 :=
  (if_neg (by simp [h])).trans (if_pos rfl)

theorem Dev.hasLane_of_hears (h : s.fromAlign L = true ∨ s.farLoop L = true) : s.hasLane L = true := by
  rcases h with h | h
  · rw [Dev.fromAlign] at h
    exact (Bool.and_eq_true_iff.mp h).1 |> fun h => by simpa using h
  · rw [Dev.farLoop] at h
    exact (Bool.and_eq_true_iff.mp (Bool.and_eq_true_iff.mp h).1).1

def rbCellFlds : List Fld := F.GATE_EVT_ROADBLOCK :: F.GATE_STAT_TRIP_HOLD :: F.LANE_RB_STAT_HOLD.onLeaf :: blockFlds

/-- A CELL in RUN is blocked (R229, R246). -/
theorem Dev.cellRoadblock_spec (h : s.gIs gRun = true) : let u := s.cellRoadblock L
    u.gState = gBlocked ∧ bitOf (u.f F.GATE_STAT_CAUSE) cRoadblock = true ∧ u.AllOff ∧ u.f F.GATE_STAT_TRIP_HOLD = 1 ∧ s.Leaves rbCellFlds u := by
  intro u
  have hu : u = ((((((s.blockAction cRoadblock).raise F.GATE_EVT_ROADBLOCK).life 3 1).raise F.GATE_STAT_TRIP_HOLD).put F.LANE_RB_STAT_HOLD.onLeaf 1).logEvent 5 (L - 64)) := by
    simp only [u, Dev.cellRoadblock]
    rw [if_neg (not_not_intro (Dev.gIs_iff.mp h).1)]
  obtain ⟨h1, h2, h3⟩ := Dev.offTo_spec (s := s) (st := gBlocked) (c := cRoadblock) (by decide) (by decide)
  rw [← Dev.blockAction_eq h] at h1 h2 h3
  have hl : (s.blockAction cRoadblock).Leaves (F.GATE_EVT_ROADBLOCK :: F.GATE_STAT_TRIP_HOLD :: F.LANE_RB_STAT_HOLD.onLeaf :: F.GATE_LIFE_CNT :: logFlds) u := by
    rw [hu]
    refine Dev.Leaves.trans ?_ ((Dev.leaves_logEvent _ _ _).mono (by decide))
    exact ((((Dev.leaves_refl _ _).raise (by decide)).inc (F := F.GATE_LIFE_CNT) _ (by decide)).raise (by decide)).put _ (by decide)
  refine ⟨(hl.fld _ _ _ (by decide)).trans h1, ?_, ?_, ?_, ((s.leaves_blockAction _).mono (by decide)).next hl (by decide)⟩
  · rw [hl.fld _ _ _ (by decide)]
    exact h2
  · rw [hu]
    exact ((((h3.raise (by decide) _ _).inc (by decide) _ _ _).raise (by decide) _ _).put (by decide) _ _ _).logEvent _ _
  · rw [hu, (Dev.leaves_logEvent _ _ _).fld _ _ _ (by decide), Dev.f_put_clear _ _ _ _ _ _ (by decide)]
    exact Dev.f_raise_same ..

theorem Dev.fromAlign_congr {u : Dev} (hr : u.role = s.role) (hs : u.lState L = s.lState L) (hp : u.ln F.LANE_LANE_STAT_PSTATE L = s.ln F.LANE_LANE_STAT_PSTATE L) :
    u.fromAlign L = s.fromAlign L := by rw [Dev.fromAlign, Dev.fromAlign, Dev.hasLane_congr hr, hs, Dev.inL01_congr hr hs hp]

theorem Dev.ln_rbSeen {G : Fld} (h : G.clearOf [F.LANE_RB_STAT_SEEN, F.LANE_RB_STAT_SEEN.onLeaf, F.LANE_RB_STAT_RB_CNT, F.LANE_RB_STAT_RB_CNT.onLeaf] = true)
    (h' : G.onLeaf.clearOf [F.LANE_RB_STAT_SEEN, F.LANE_RB_STAT_SEEN.onLeaf, F.LANE_RB_STAT_RB_CNT, F.LANE_RB_STAT_RB_CNT.onLeaf] = true) (M : Nat) :
    (s.rbSeen L).ln G M = s.ln G M := by
  refine Dev.rbSeen_f s L ?_ _ _
  unfold laneFld
  split
  · exact h
  · exact h'

def burstFlds : List Fld := [F.LANE_RB_STAT_SENT, F.LANE_RB_STAT_RB_CNT, F.LANE_RB_STAT_SENT.onLeaf, F.LANE_RB_STAT_RB_CNT.onLeaf]

/-- A burst moves its counts and what shows that it was sent (R228). -/
theorem Dev.leaves_rbEmit (s : Dev) (l : List Nat) : s.Leaves burstFlds (s.rbEmit l) := by
  rw [Dev.rbEmit]
  refine .ite _ (fun _ => Dev.leaves_refl _ s) fun _ => ?_
  have h1 : s.Leaves burstFlds ((s.each l fun s L => s.emit (.lane L 0xFE [])).digEvent 1) := by
    have h0 : s.Leaves burstFlds (s.each l fun s L => s.emit (.lane L 0xFE [])) := Dev.leaves_each _ _ _ fun v _ _ => (Dev.leaves_refl _ v).emit _
    exact ⟨h0.role, h0.proto, h0.lanes, fun G i j hG => (Dev.fb_of_regs (u := Dev.digEvent _ 1) rfl (by cases G.blk <;> rfl) ..).trans (h0.fld G i j hG)⟩
  have h2 := h1.iff (decide (((s.each l fun s L => s.emit (.lane L 0xFE [])).digEvent 1).role = .manager))
    (fun s => (s.raise F.LANE_RB_STAT_SENT).inc F.LANE_RB_STAT_RB_CNT 1) fun _ => (h1.raise (by decide)).inc _ (by decide)
  exact h2.iff _ _ fun _ => (h2.raise (by decide)).inc _ (by decide)

/-- A burst goes out on each of its lanes. -/
theorem Dev.mem_rbEmit (s : Dev) {l : List Nat} {M : Nat} (hM : M ∈ l) : Out.lane M 0xFE [] ∈ (s.rbEmit l).out := by
  have hg : ∀ (c : Bool) (F G : Fld), F.blk.home = .trunk → G.blk.home = .trunk → ∀ v : Dev, Dev.Grows [.trunk] v (v.iff c fun s => (s.raise F).inc G 1) := fun c F G hF hG v =>
    Dev.grows_iff _ _ _ fun _ => (Dev.grows_raise _ (by rw [hF]; decide)).trans (Dev.grows_inc _ (by rw [hG]; decide) _)
  rw [Dev.rbEmit, if_neg (List.ne_nil_of_mem hM)]
  refine (hg _ _ _ rfl rfl _).mem_out ((hg _ _ _ rfl rfl _).mem_out ?_)
  exact Dev.mem_out_each (own := []) (g := fun s L => s.emit (.lane L 0xFE [])) hM (fun _ => True) (fun _ _ _ => trivial) (fun v b => Dev.grows_emit ..)
    (fun v _ => List.mem_cons_self) s trivial

/-- A burst that is passed on goes out on every leaf lane that hears it. -/
theorem Dev.rbPass_spec (s : Dev) (L : Nat) : let u := s.rbPass L
    (∀ (G : Fld) (i j : Nat), G.clearOf burstFlds = true → u.f G i j = s.f G i j) ∧ u.proto.rbAt = some (L, s.now) ∧
    ∀ M ∈ (List.range 128).map (· + 64), s.fromAlign M = true → Out.lane M 0xFE [] ∈ u.out := by
  have hl := Dev.leaves_rbEmit
  refine ⟨fun G i j hG => ((hl _ _).fld G i j hG).trans ?_, congrArg Proto.rbAt (hl _ _).proto, fun M hM h => Dev.mem_rbEmit _ (List.mem_filter.mpr ⟨hM, ?_⟩)⟩
  · exact Dev.fb_of_regs rfl (by cases G.blk <;> rfl) ..
  · exact h
end

/-! ### Requests and replies -/

section
variable {s : Dev} {L : Nat}

theorem Dev.rrRequest_idle (h : (s.inRun L = false ∧ s.farLoop L = false) ∨ s.role = .manager ∨ (s.role = .concentrator ∧ 64 ≤ L)) (l : List Byte) (ok : Bool) :
    s.rrRequest L l ok = s := if_pos (h.imp (fun h => by simp [h]) id)

theorem Dev.rrRequest_takes (h : s.inRun L = true ∨ s.farLoop L = true) (hr : s.role = .cell ∨ (s.role = .concentrator ∧ L < 64)) :
    ¬ (¬ (s.inRun L = true ∨ s.farLoop L = true) ∨ s.role = .manager ∨ (s.role = .concentrator ∧ 64 ≤ L)) := by
  rcases hr with hr | ⟨hr, hL⟩
  · simp [hr, h]
  · simp [hr, h, hL]

theorem Dev.rrRequest_bad (h : s.inRun L = true ∨ s.farLoop L = true) (hr : s.role = .cell ∨ (s.role = .concentrator ∧ L < 64)) {l : List Byte} {ok : Bool}
    (hb : ok = false ∨ rrPackets 16 l = none) : s.rrRequest L l ok = s.incBlkLn F.LANE_SF_ERR_RR_CRC L 1 := by
  refine (if_neg (Dev.rrRequest_takes h hr)).trans ?_
  rcases hb with rfl | hb
  · cases rrPackets 16 l <;> rfl
  · rw [hb]

theorem Dev.rrRequest_one (h : s.inRun L = true ∨ s.farLoop L = true) (hr : s.role = .cell ∨ (s.role = .concentrator ∧ L < 64)) {l p : List Byte}
    (hp : rrPackets 16 l = some [p]) : s.rrRequest L l true = if s.role = .cell then s.rrExecute L p 32 else if pktDest p = 0 then s.rrExecute L p 16 else s.fwdRequest L p := by
  refine (if_neg (Dev.rrRequest_takes h hr)).trans ?_
  rw [hp]
  rfl

theorem Dev.rrReply_idle (h : s.inRun L = false) (l : List Byte) (ok : Bool) : s.rrReply L l ok = s := if_pos (by simp [h])

theorem Dev.rrReply_bad (h : s.inRun L = true) {l : List Byte} {ok : Bool} (hb : ok = false ∨ rrPackets 12 l = none) :
    s.rrReply L l ok = s.incBlkLn F.LANE_SF_ERR_RR_CRC L 1 := by
  refine (if_neg (not_not_intro h)).trans ?_
  rcases hb with rfl | hb
  · cases rrPackets 12 l <;> rfl
  · rw [hb]

theorem Dev.rrReply_one (h : s.inRun L = true) (hr : s.role = .manager) {l p : List Byte} (hp : rrPackets 12 l = some [p]) : s.rrReply L l true = s.rrReplied L p := by
  refine (if_neg (not_not_intro h)).trans ?_
  rw [hp]
  simp only [Dev.each, List.foldl, hr]
end

/-- Settles O24: a Roadblock has the effect of its role (`cellRoadblock_spec`, `rbEmit_conc`), and a request of one packet is executed or passed on (`rrRequest_one`). -/
theorem remoteAccessAndRoadblock : Obligations.RemoteAccessAndRoadblock := by
  unfold Obligations.RemoteAccessAndRoadblock
  intro s L d
  refine ⟨fun run h => s.runs_roadblock.of_eq (Dev.roadblock_idle (s := d) h), fun h => s.runs_roadblock.of_eq (Dev.roadblock_single (s := d) h), fun run hrun h => ?rb,
    fun host pairEn hb => s.runs_rbCtlWrite.of_eq (congrArg Acted.dev (Dev.served_begin hb _)), fun raw clean h => s.runs_rrRequest.of_eq (Dev.rrRequest_idle (s := d) h _ _),
    fun raw clean h hr hb => s.runs_rrRequest.of_eq (Dev.rrRequest_bad (s := d) h hr ?_), fun l p h hp => ?request,
    fun raw clean h hb => s.runs_rrReply.of_eq (Dev.rrReply_bad (s := d) h ?_), fun raw clean h => s.runs_rrReply.of_eq (Dev.rrReply_idle (s := d) h _ _),
    fun l p h hr hp => ?reply, fun dest port tag q t hq hs => s.runs_rrTimeout.of_eq ?_, fun dest port tag hq => s.runs_rrTimeout.of_eq ?_⟩
  case rb =>
    have he := Dev.roadblock_eq (s := d) hrun h
    refine ⟨fun hg => s.runs_roadblock.does ?_, fun hr hL ha => s.runs_roadblock.does ?_, fun hr hL => s.runs_roadblock.of_eq ?_, fun hr hp hen => s.runs_roadblock.does ?_,
      fun hr hp hen => s.runs_roadblock.of_eq ?_, fun hr hp => s.runs_roadblock.of_eq ?_⟩
    · have hr : d.role = .cell := of_decide_eq_true (Bool.and_eq_true_iff.mp (Dev.gIs_iff.mp hg).1).1
      have hL : ¬ L < 64 := by
        have := Dev.hasLane_of_hears (s := d) h
        rw [Dev.hasLane, hr] at this
        simp only [roleLanes, List.contains_eq_mem, List.mem_cons, List.not_mem_nil, or_false, decide_eq_true_eq] at this
        omega
      have hgate := (d.keeps_rbSeen L).2.2.2.2.2.2.2.2.2.2.1 (by decide)
      have hf : ∀ G : Fld, ((d.rbSeen L).markRb).f G = (d.rbSeen L).f G := fun G =>
        Dev.fb_of_regs (u := (d.rbSeen L).markRb) (s := d.rbSeen L) rfl (by cases G.blk <;> rfl) ..
      have ha := (Dev.gIs_iff.mp hg).1
      have hrun : ((d.rbSeen L).markRb).gIs gRun = true := by
        refine Dev.gIs_iff.mpr ⟨?_, ?_⟩
        · rw [Dev.awake, show ((d.rbSeen L).markRb).role = .cell from (d.keeps_rbSeen L).role_eq.trans hr, show ((d.rbSeen L).markRb).gate = d.gate from hgate]
          rw [show s.dev.awake = true ↔ _ from Bool.and_eq_true_iff] at ha
          exact ha.2
        · rw [Dev.gState, hf, Dev.rbSeen_f _ _ (by decide)]
          exact (Dev.begin_f ..).trans (Dev.gIs_iff.mp hg).2
      obtain ⟨h1, h2, ⟨h3, h4, h5, h6, -, -⟩, h7, hl⟩ := Dev.cellRoadblock_spec (L := L) hrun
      rw [he, hr]
      refine ⟨h1, h2, h3, h4, h5, h6, h7, (hl.fld F.LANE_RB_STAT_SEEN.onLeaf 0 0 (by decide)).trans ?_⟩
      rw [hf, ← show laneFld F.LANE_RB_STAT_SEEN L = F.LANE_RB_STAT_SEEN.onLeaf from if_neg hL]
      exact d.rbSeen_seen L
    · have hproto := d.rbSeen_proto L
      have hrole := (d.keeps_rbSeen L).role_eq
      rw [he, show d.role = .concentrator from hr, Dev.onRoadblock, if_neg (not_le.mpr hL),
        if_neg (show ¬ (d.rbSeen L).rbSame L = true by rw [Dev.rbSame, hproto, show d.proto.rbAt = none from ha]; exact Bool.false_ne_true)]
      obtain ⟨h1, h2, h3⟩ := (d.rbSeen L).rbPass_spec L
      refine ⟨(h1 F.LANE_RB_STAT_SEEN 0 0 (by decide)).trans ?_, h2.trans ?_, fun M hM hf => h3 M ?_ ?_⟩
      · rw [← show laneFld F.LANE_RB_STAT_SEEN L = F.LANE_RB_STAT_SEEN from if_pos hL]
        exact d.rbSeen_seen L
      · rw [Dev.now_of_time hrole ((d.keeps_rbSeen L).2.2.2.2.1 (by decide))]; rfl
      · refine List.mem_map.mpr ⟨M - 64, List.mem_range.mpr ?_, by omega⟩
        have := Dev.hasLane_of_hears (s := d) (.inl hf)
        rw [Dev.hasLane, show d.role = .concentrator from hr] at this
        simp only [roleLanes, List.contains_eq_mem, List.cons_append, List.nil_append, List.mem_cons, List.mem_map, List.mem_range, decide_eq_true_eq] at this
        omega
      · rw [Dev.fromAlign_congr hrole (Dev.ln_rbSeen (by decide) (by decide) M) (Dev.ln_rbSeen (by decide) (by decide) M)]
        exact hf
    · rw [he, show d.role = .concentrator from hr]
      exact if_pos hL
    · have hL : L < 64 := by
        simp only [Dev.isPair, Bool.and_eq_true, decide_eq_true_eq] at hp
        exact hp.1.2
      have hflag : d.psofRb.flag F.LANE_RB_CTL_PAIR_EN = true := decide_eq_true hen
      have hseen : (d.psofRb.rbSeen L).f F.LANE_RB_STAT_SEEN = 1 := by
        rw [← show laneFld F.LANE_RB_STAT_SEEN L = F.LANE_RB_STAT_SEEN from if_pos hL]
        exact d.psofRb.rbSeen_seen L
      rw [he, show d.role = .manager from hr, Dev.onRoadblock, if_neg (not_not_intro (show d.isPair L = true from hp)), if_neg (not_not_intro hflag)]
      by_cases ht : (d.psofRb.rbSeen L).pairTrip = true
      · rw [if_pos ht]
        have hb := (d.psofRb.rbSeen L).leaves_rbEmit ((d.psofRb.rbSeen L).rbLanes false)
        exact ⟨ne_of_eq_of_ne (hb.fld F.PAIR_STAT_PAIR_TRIP 0 0 (by decide)) (of_decide_eq_true ht), (hb.fld F.LANE_RB_STAT_SEEN 0 0 (by decide)).trans hseen⟩
      · rw [if_neg ht]
        exact ⟨ne_of_eq_of_ne (Dev.f_raise_same ..) (by decide), (Dev.f_raise_clear _ _ _ _ _ (by decide)).trans hseen⟩
    · rw [he, show d.onRoadblock L d.role = d.onRoadblock L .manager from congrArg _ hr, Dev.onRoadblock, if_neg (not_not_intro (show d.isPair L = true from hp))]
      exact if_pos (show ¬ d.psofRb.flag F.LANE_RB_CTL_PAIR_EN = true from fun hh => of_decide_eq_true hh hen)
    · rw [he, show d.role = .manager from hr]
      exact if_pos (by simp [show d.isPair L = false from hp])
  case request =>
    intro got op addr r u
    have hgot : s.Runs got (d.rrRequest L l true) := s.runs_rrRequest.of_eq (by rw [crcBody_withCrc, crcOk_withCrc]; rfl)
    have hcell : s.dev.role = .cell → s.Runs got (d.rrExecute L p 32) := fun hr => hgot.of_eq ((Dev.rrRequest_one (s := d) h (.inl hr) hp).trans (if_pos hr))
    have hconc : s.dev.role = .concentrator → L < 64 → s.Runs got (if pktDest p = 0 then d.rrExecute L p 16 else d.fwdRequest L p) := fun hr hL =>
      hgot.of_eq ((Dev.rrRequest_one (s := d) h (.inr ⟨hr, hL⟩) hp).trans (if_neg (by rw [show d.role = .concentrator from hr]; decide)))
    have hexec : ∀ ns, 1 ≤ op → op ≤ 4 → (L < 64 ∨ pktDest p ≠ 0) →
        d.rrExecute L p ns = if d.farLoop L then u else u.queueReply L (replyPacket p (u.answerEpoch addr (pktEpoch p)) r.1 r.2.1) (u.now + ns) := fun ns h1 h4 hd => by
      have hno : ¬ (pktOp p = 0 ∨ 4 < pktOp p ∨ (64 ≤ L ∧ pktDest p = 0)) := by
        change 1 ≤ pktOp p at h1
        change pktOp p ≤ 4 at h4
        omega
      simp only [Dev.rrExecute, if_neg hno]
      rfl
    refine ⟨fun hr hL hd h1 h4 hf => (hcell hr).of_eq ((hexec 32 h1 h4 (.inr (by omega))).trans (if_neg ?_)),
      fun hr hL hd h1 h4 hf => (hconc hr hL).of_eq ((if_pos hd).trans ((hexec 16 h1 h4 (.inl hL)).trans (if_neg ?_))),
      fun hr hL hd h1 h4 hf => (hcell hr).of_eq ((hexec 32 h1 h4 (.inr (by omega))).trans (if_pos hf)), fun hr hL hd => ?_⟩
    · rw [show d.farLoop L = false from hf]; exact Bool.false_ne_true
    · rw [show d.farLoop L = false from hf]; exact Bool.false_ne_true
    · intro port
      have hf := (hconc hr hL).of_eq (if_neg (by rw [hd]; decide))
      have hup : s.dev.inRun (64 + port) = true → ¬ ¬ d.inRun (64 + pktPort p) = true := not_not_intro
      refine ⟨fun hrun => hf.of_eq (if_pos (by rw [show d.inRun (64 + pktPort p) = false from hrun]; exact Bool.false_ne_true)),
        fun hrun hn => hf.of_eq ((if_neg (hup hrun)).trans (if_pos hn)), fun hrun hn => hf.of_eq ((if_neg (hup hrun)).trans (if_neg (not_le.mpr hn)))⟩
  case reply =>
    intro got found st
    have hgot : s.Runs got (d.rrReplied L p) := s.runs_rrReply.of_eq (by rw [crcBody_withCrc, crcOk_withCrc]; exact Dev.rrReply_one (s := d) h hr hp)
    have hf : d.rrFind L (pktDest p) (pktPort p) (pktTag p) = found := rfl
    refine ⟨fun h => hgot.of_eq ?_, fun q hq h => hgot.of_eq ?_, fun q hq h1 h2 h3 => hgot.of_eq ?_⟩
    · rw [Dev.rrReplied, hf, h]
    · rw [Dev.rrReplied, hf, hq]
      refine if_neg fun hh => ?_
      obtain ⟨h1, h2, h3⟩ := hh
      exact h.elim h1 (Or.rec h2 h3)
    · rw [Dev.rrReplied, hf, hq]
      exact if_pos ⟨h1, h2, h3⟩
  · rcases hb with hb | hb | hb
    · simp [hb]
    · simp [hb]
    · exact .inr hb
  · rcases hb with hb | hb | hb
    · simp [hb]
    · simp [hb]
    · exact .inr hb
  · rw [Dev.rrTimeout, show d.rrFind L dest port tag = some q from hq]
    simp only [hs]
    rw [show d.f F.LANE_RRA_CFG_TMO = _ from Dev.begin_f ..]
  · rw [Dev.rrTimeout, show d.rrFind L dest port tag = none from hq]

end Sys2Proof.Machine
end

section
/-! What the firing of a bypass does (R254 to R256, R259). -/

namespace Sys2Proof.Machine

/-- Of what a CELL holds, that which is neither of its legs nor of its carrier. -/
def Dev.gcell (s : Dev) : Gate := { s.gcore with legA := Leg.off, legB := Leg.off, period := none, edges := [], edgeWait := none }

section
variable {s u : Dev}

theorem Dev.gcell_of_gcore (h : u.gcore = s.gcore) : u.gcell = s.gcell := by rw [Dev.gcell, h]; rfl

theorem Dev.gcell_gatesOff : s.gatesOff.gcell = s.gcell := by rw [Dev.gcell, s.gcore_gatesOff]; rfl

theorem Dev.gcell_gatesDrive (on : Bool) : (s.gatesDrive on).gcell = s.gcell := rfl

theorem Dev.AllOff.gatesDrive (h : s.AllOff) (on : Bool) : (s.gatesDrive on).AllOff := by
  obtain ⟨h1, h2, h3, h4, h5, h6⟩ := h
  exact ⟨h1, h2, h3, h4, h5, (Dev.f_setGate rfl _ _ _).trans h6⟩
end

section
variable (s : Dev) (y : Bool)

/-- The cause of channel X is noted when it fires. -/
def Dev.fireCause (cause : Nat) : Dev := s.iff (!y) fun s => s.setBit F.GATE_BYP_STAT_X_CAUSE cause true

/-- A firing is noted in `BYP_STAT`. -/
def Dev.fireNote : Dev := ((s.raise F.GATE_BYP_STAT_FIRED).put F.GATE_BYP_STAT_FIRST_Y (b2n y)).raise F.GATE_EVT_BYP_FIRED

/-- The firing circuits act, and the gates go off. -/
def Dev.fireOut : Dev :=
  let s := { s with gate := { s.gate with fired := if s.gate.dormant then 2 else 3, otpDue := if s.otpBits < 32 then s.gate.otpDue + 1 else s.gate.otpDue } }
  (s.bypOut y).iff (!s.gate.dormant) fun s => s.bypOut (!y)

/-- The cell is BYPASSED. -/
def Dev.fireEnd : Dev :=
  let s := s.gatesOff
  let s := s.iff (!s.gate.dormant && decide (s.gState ≠ gBypassed)) fun s => (s.gatesDrive true).toState gBypassed
  (s.life 6 1).logEvent 7 (s.f F.GATE_BYP_STAT_X_CAUSE * 2 ^ 20 + b2n y * 2 ^ 30)

/-- A channel that can fire. -/
def Dev.canFire : Prop := s.role = .cell ∧ (if y then s.gate.yOn = true else s.gate.dormant = false)

variable {s y}

theorem Dev.fire_eq {cause : Nat} (h : s.canFire y) : s.fire y cause =
    if (s.fireCause y cause).flag F.GATE_BYP_STAT_FIRED then s.fireCause y cause else (((s.fireCause y cause).fireNote y).fireOut y).fireEnd y := by
  obtain ⟨hr, hy⟩ := h
  refine (if_neg ?_).trans rfl
  cases y
  · exact not_or.mpr ⟨not_not_intro hr, fun hh => Bool.false_ne_true (hy.symm.trans hh)⟩
  · exact not_or.mpr ⟨not_not_intro hr, not_not_intro hy⟩

theorem Dev.f_fireCause {cause : Nat} {G : Fld} (hG : G.clear F.GATE_BYP_STAT_X_CAUSE = true) (i j : Nat) : (s.fireCause y cause).f G i j = s.f G i j :=
  Dev.f_iff _ _ _ _ _ _ fun _ => Dev.f_setBit_clear _ _ _ _ _ _ _ hG

/-- A bypass that has fired only notes one more cause. -/
theorem Dev.fire_again {cause : Nat} (h : s.canFire y) (hf : s.f F.GATE_BYP_STAT_FIRED ≠ 0) : s.fire y cause = s.fireCause y cause := by
  rw [Dev.fire_eq h]
  exact if_pos (decide_eq_true (ne_of_eq_of_ne (Dev.f_fireCause (by decide) 0 0) hf))

theorem Dev.fire_first {cause : Nat} (h : s.canFire y) (hf : s.f F.GATE_BYP_STAT_FIRED = 0) :
    s.fire y cause = (((s.fireCause y cause).fireNote y).fireOut y).fireEnd y := by
  rw [Dev.fire_eq h]
  exact if_neg (show ¬ (s.fireCause y cause).flag F.GATE_BYP_STAT_FIRED = true from fun hh => of_decide_eq_true hh ((Dev.f_fireCause (by decide) 0 0).trans hf))

theorem Dev.fireNote_spec : (s.fireNote y).f F.GATE_BYP_STAT_FIRED = 1 ∧ (s.fireNote y).f F.GATE_BYP_STAT_FIRST_Y = b2n y ∧ (s.fireNote y).f F.GATE_EVT_BYP_FIRED = 1 ∧
    s.Leaves [F.GATE_BYP_STAT_FIRED, F.GATE_BYP_STAT_FIRST_Y, F.GATE_EVT_BYP_FIRED] (s.fireNote y) := by
  refine ⟨?_, ?_, Dev.f_raise_same .., (((Dev.leaves_refl _ s).raise (by decide)).put _ (by decide)).raise (by decide)⟩
  · rw [Dev.fireNote, Dev.f_raise_clear _ _ _ _ _ (by decide), Dev.f_put_clear _ _ _ _ _ _ (by decide)]
    exact Dev.f_raise_same ..
  · rw [Dev.fireNote, Dev.f_raise_clear _ _ _ _ _ (by decide), Dev.f_put_same]
    exact b2n_mod y

theorem Dev.fireNote_keeps : s.Keeps [.gate] s.out (s.fireNote y) ∧ (s.fireNote y).gcore = s.gcore :=
  ⟨(((Dev.keeps_refl _ s).raise (by decide) _ _).put (by decide) _ _ _).raise (by decide) _ _, ((Dev.gcore_raise ..).trans (Dev.gcore_put ..)).trans (Dev.gcore_raise ..)⟩

theorem Dev.fireCause_keeps {cause : Nat} : s.Keeps [.gate] s.out (s.fireCause y cause) ∧ (s.fireCause y cause).gcore = s.gcore :=
  ⟨(Dev.keeps_refl _ s).iff _ _ fun _ => (Dev.keeps_refl _ s).setBit (by decide) _ _ _ _, Dev.iff_keeps s Dev.gcore _ _ fun _ => Dev.gcore_befall ..⟩

/-- The end of a firing: the gates are off, and the cell that is awake is BYPASSED. -/
theorem Dev.fireEnd_spec : (s.fireEnd y).AllOff ∧ (s.gate.dormant = false → (s.fireEnd y).gState = gBypassed) ∧ (s.gate.dormant = true → (s.fireEnd y).gState = s.gState) ∧
    s.Keeps [.gate] s.out (s.fireEnd y) ∧ s.Leaves blockFlds (s.fireEnd y) ∧ (s.fireEnd y).gcell = s.gcell := by
  have hd : s.gatesOff.gate.dormant = s.gate.dormant := show s.gatesOff.gcore.dormant = _ by rw [s.gcore_gatesOff]; rfl
  have hv : ∃ v : Dev, s.fireEnd y = (v.life 6 1).logEvent 7 (v.f F.GATE_BYP_STAT_X_CAUSE * 2 ^ 20 + b2n y * 2 ^ 30) ∧ v.AllOff ∧
      (s.gate.dormant = false → v.gState = gBypassed) ∧ (s.gate.dormant = true → v.gState = s.gState) ∧ s.Keeps [.gate] s.out v ∧ s.Leaves blockFlds v ∧ v.gcell = s.gcell := by
    refine ⟨_, rfl, ?_⟩
    have hoff : s.gatesOff.gState = s.gState := s.leaves_gatesOff.fld _ _ _ (by decide)
    have hk : s.Keeps [.gate] s.out s.gatesOff := (Dev.keeps_refl _ s).gatesOff (by decide)
    rw [hd, Dev.iff]
    split
    · rename_i hc
      rw [Bool.and_eq_true, Bool.not_eq_true'] at hc
      refine ⟨(s.allOff_gatesOff.gatesDrive true).toState _, fun _ => Dev.gState_toState _ (by decide), fun h => absurd (h.symm.trans hc.1) (by decide),
        (hk.gatesDrive (by decide) _).toState (by decide) _, ((s.leaves_gatesOff.mono (by decide)).trans (Dev.leaves_gatesDrive _ _ _)).next (Dev.leaves_toState _ _) (by decide), ?_⟩
      exact (Dev.gcell_of_gcore (Dev.gcore_toState ..)).trans ((Dev.gcell_gatesDrive _).trans Dev.gcell_gatesOff)
    · rename_i hc
      refine ⟨s.allOff_gatesOff, fun h => ?_, fun _ => hoff, hk, s.leaves_gatesOff.mono (by decide), Dev.gcell_gatesOff⟩
      simpa [h] using hc
  obtain ⟨v, he, hall, h1, h2, hk, hl, hg⟩ := hv
  have hst : ((v.life 6 1).logEvent 7 (v.f F.GATE_BYP_STAT_X_CAUSE * 2 ^ 20 + b2n y * 2 ^ 30)).gState = v.gState :=
    ((Dev.leaves_logEvent _ _ _).fld _ _ _ (by decide)).trans (Dev.f_inc_clear _ _ _ _ _ _ (by decide))
  rw [he]
  refine ⟨Dev.AllOff.logEvent (Dev.AllOff.inc hall (by decide) _ _ _) _ _, fun h => hst.trans (h1 h), fun h => hst.trans (h2 h), (hk.life (by decide) _ _).logEvent (by decide) _ _,
    (hl.inc (F := F.GATE_LIFE_CNT) _ (by decide)).next (Dev.leaves_logEvent _ _ _) (by decide), ?_⟩
  exact (Dev.gcell_of_gcore ((Dev.gcore_logEvent ..).trans (Dev.gcore_inc _ F.GATE_LIFE_CNT _ 6 0))).trans hg

/-- What a firing circuit puts out (R255): a pulse in mode 1, its level in mode 0. -/
theorem Dev.bypOut_eq : s.bypOut y = if s.flag (if y then F.GATE_BYP_Y_CFG_MODE else F.GATE_BYP_CFG_MODE) then s.emit (.bypPulse (b2n y))
    else { s with gate := { s.gate with bypX := s.gate.bypX || !y, bypY := s.gate.bypY || y } } := by
  cases y <;> simp [Dev.bypOut, b2n]

/-- The device with another state of GATE and with other outputs. -/
def Dev.gateOut (s : Dev) (x : Gate) (o : List Out) : Dev := { s with gate := x, out := o }

theorem Dev.f_gateOut {x : Gate} (hx : x.regs = s.gate.regs) (o : List Out) (G : Fld) (i j : Nat) : (s.gateOut x o).f G i j = s.f G i j :=
  Dev.fb_of_regs (u := s.gateOut x o) (s := s) rfl (by cases G.blk <;> simp [Dev.regsOf, Dev.gateOut, hx]) ..

theorem Dev.Keeps.gateOut {u : Dev} {own : List Blk} {o : List Out} (h : s.Keeps own o u) (hb : .gate ∈ own) (x : Gate) (outs : List Out) :
    s.Keeps own outs (u.gateOut x outs) := by
  obtain ⟨h1, -, h2⟩ := h.setGate hb x
  exact ⟨h1, rfl, h2⟩

/-- The mode of a firing circuit (R255): a pulse, or a level. -/
def Dev.pulseMode (s : Dev) (z : Bool) : Bool := s.flag (if z then F.GATE_BYP_Y_CFG_MODE else F.GATE_BYP_CFG_MODE)

theorem Dev.bypOut_gateOut {x : Gate} (hx : x.regs = s.gate.regs) (o : List Out) (z : Bool) : (s.gateOut x o).bypOut z =
    s.gateOut { x with bypX := x.bypX || (!z && !s.pulseMode z), bypY := x.bypY || (z && !s.pulseMode z) } ((if s.pulseMode z then [.bypPulse (b2n z)] else []) ++ o) := by
  have hm : (s.gateOut x o).flag (if z then F.GATE_BYP_Y_CFG_MODE else F.GATE_BYP_CFG_MODE) = s.pulseMode z := by
    rw [Dev.flag, Dev.f_gateOut hx]; rfl
  rw [Dev.bypOut_eq, hm]
  cases s.pulseMode z
  · simp only [Bool.not_false, Bool.and_true]
    rfl
  · simp only [Bool.not_true, Bool.and_false, Bool.or_false]
    rfl

/-- What a firing notes in GATE (R256). -/
def Dev.firedGate (s : Dev) : Gate :=
  { s.gate with fired := if s.gate.dormant then 2 else 3, otpDue := if s.otpBits < 32 then s.gate.otpDue + 1 else s.gate.otpDue }

/-- What GATE holds after a firing, of `otp` bits and of the modes of the circuits: that of Y acts, and that of X where its domain is
powered (R254 to R256). -/
def Gate.firedFrom (g : Gate) (otp : Nat) (px py : Bool) : Gate :=
  { g with fired := if g.dormant then 2 else 3, otpDue := if otp < 32 then g.otpDue + 1 else g.otpDue, bypX := g.bypX || (!g.dormant && !px), bypY := g.bypY || !py }

def Dev.firedCell (s : Dev) : Gate := s.gate.firedFrom s.otpBits (s.pulseMode false) (s.pulseMode true)

theorem Dev.firedCell_eq (s : Dev) : s.firedCell =
    { s.firedGate with bypX := s.gate.bypX || (!s.gate.dormant && !s.pulseMode false), bypY := s.gate.bypY || !s.pulseMode true } := rfl

theorem Dev.gcell_firedCell (s : Dev) (o : List Out) : (s.gateOut s.firedCell o).gcell = s.gcell.firedFrom s.otpBits (s.pulseMode false) (s.pulseMode true) := rfl

/-- The two circuits (R254, R255): that of Y acts, and that of X where its domain is powered. -/
theorem Dev.fireOut_spec (h : y = false → s.gate.dormant = false) : ∃ outs, s.fireOut y = s.gateOut s.firedCell (outs ++ s.out) ∧
    (s.pulseMode true = true → Out.bypPulse 1 ∈ outs) ∧ (s.gate.dormant = false → s.pulseMode false = true → Out.bypPulse 0 ∈ outs) ∧
    (s.gate.dormant = true → Out.bypPulse 0 ∉ outs) := by
  have he : s.fireOut y = ((s.gateOut s.firedGate s.out).bypOut y).iff (!s.gate.dormant) fun s => s.bypOut (!y) := rfl
  rw [he, Dev.bypOut_gateOut (x := s.firedGate) rfl]
  cases hd : s.gate.dormant
  · rw [Bool.not_false, Dev.iff_true, Dev.bypOut_gateOut (s := s) (by rfl)]
    refine ⟨(if s.pulseMode (!y) then [.bypPulse (b2n (!y))] else []) ++ (if s.pulseMode y then [.bypPulse (b2n y)] else []), ?_, ?_, ?_, fun h => absurd h Bool.false_ne_true⟩
    · rw [List.append_assoc]
      rw [s.firedCell_eq, hd]
      cases y <;> simp only [Bool.not_false, Bool.not_true, Bool.true_and, Bool.false_and, Bool.or_false] <;> rfl
    · intro hm
      cases y <;> simp [hm, b2n]
    · intro _ hm
      cases y <;> simp [hm, b2n]
  · have hy : y = true := by
      cases y
      · exact absurd (hd.symm.trans (h rfl)) (by decide)
      · rfl
    subst hy
    refine ⟨if s.pulseMode true then [.bypPulse 1] else [], ?_, fun hm => by simp [hm], fun hh => absurd hh (by decide), fun _ => ?_⟩
    · rw [s.firedCell_eq, hd]
      simp only [Bool.not_true, Bool.true_and, Bool.false_and, Bool.or_false]
      rfl
    · split <;> simp

/-- The first firing of a bypass (R254 to R256, R259). -/
theorem Dev.fire_spec {cause : Nat} (h : s.canFire y) (hf : s.f F.GATE_BYP_STAT_FIRED = 0) (hc : cause < 4) : let u := s.fire y cause
    u.f F.GATE_BYP_STAT_FIRED = 1 ∧ u.f F.GATE_BYP_STAT_FIRST_Y = b2n y ∧ u.f F.GATE_EVT_BYP_FIRED = 1 ∧
    (if y then u.f F.GATE_BYP_STAT_X_CAUSE = s.f F.GATE_BYP_STAT_X_CAUSE else bitOf (u.f F.GATE_BYP_STAT_X_CAUSE) cause = true) ∧
    u.AllOff ∧ (s.gate.dormant = false → u.gState = gBypassed) ∧ (s.gate.dormant = true → u.gState = s.gState) ∧
    (∃ outs, s.Keeps [.gate] (outs ++ s.out) u ∧ (s.pulseMode true = true → Out.bypPulse 1 ∈ outs) ∧
      (s.gate.dormant = false → s.pulseMode false = true → Out.bypPulse 0 ∈ outs) ∧ (s.gate.dormant = true → Out.bypPulse 0 ∉ outs)) ∧
    u.gcell = s.gcell.firedFrom s.otpBits (s.pulseMode false) (s.pulseMode true) := by
  intro u
  set a := s.fireCause y cause with ha
  set b := a.fireNote y with hb
  have hu : u = (b.fireOut y).fireEnd y := Dev.fire_first h hf
  have hab : b.gcore = s.gcore := Dev.fireNote_keeps.2.trans Dev.fireCause_keeps.2
  have hdor : b.gate.dormant = s.gate.dormant := show b.gcore.dormant = s.gcore.dormant by rw [hab]
  obtain ⟨n1, n2, n3, hn⟩ := Dev.fireNote_spec (s := a) (y := y)
  have hpm : ∀ z, b.pulseMode z = s.pulseMode z := fun z => by
    have : ∀ G : Fld, G.clearOf [F.GATE_BYP_STAT_FIRED, F.GATE_BYP_STAT_FIRST_Y, F.GATE_EVT_BYP_FIRED] = true → G.clear F.GATE_BYP_STAT_X_CAUSE = true →
        b.flag G = s.flag G := fun G h1 h2 => by
      rw [Dev.flag, hn.fld _ _ _ h1, Dev.f_fireCause h2]; rfl
    cases z
    · exact this _ (by decide) (by decide)
    · exact this _ (by decide) (by decide)
  obtain ⟨outs, ho, o1, o2, o3⟩ := Dev.fireOut_spec (s := b) (y := y) fun hy => by
    rw [hdor]
    obtain ⟨-, h⟩ := h
    rwa [hy] at h
  obtain ⟨e1, e2, e3, ek, el, eg⟩ := Dev.fireEnd_spec (s := b.fireOut y) (y := y)
  have hbits : b.otpBits = s.otpBits := by
    rw [Dev.otpBits, hn.fld _ _ _ (by decide), Dev.f_fireCause (by decide), show b.gate.otpDue = s.gate.otpDue from show b.gcore.otpDue = s.gcore.otpDue by rw [hab]]; rfl
  rw [ho] at ek el e2 e3 eg
  have hlb : ∀ G i j, G.clearOf blockFlds = true → u.f G i j = b.f G i j := fun G i j hG => by
    rw [hu, ho]
    exact (el.fld G i j hG).trans (Dev.f_gateOut (s := b) (x := b.firedCell) rfl (outs ++ b.out) G i j)
  obtain ⟨hka, -⟩ := Dev.fireCause_keeps (s := s) (y := y) (cause := cause)
  obtain ⟨hkb, -⟩ := Dev.fireNote_keeps (s := a) (y := y)
  have hbo : b.out = s.out := hkb.out_eq.trans hka.out_eq
  have hks : s.Keeps [.gate] (outs ++ s.out) (b.gateOut b.firedCell (outs ++ b.out)) := by
    have hk : s.Keeps [.gate] b.out b := by
      rw [hkb.out_eq, hka.out_eq]
      exact hka.trans (hka.out_eq ▸ hkb)
    rw [← hka.out_eq, ← hkb.out_eq]
    exact hk.gateOut (by decide) _ _
  rw [← hu] at e1
  refine ⟨(hlb _ _ _ (by decide)).trans n1, (hlb _ _ _ (by decide)).trans n2, (hlb _ _ _ (by decide)).trans n3, ?_, e1, fun hd => ?_, fun hd => ?_,
    ⟨outs, hks.trans ?_, fun h => o1 (by rwa [hpm]), fun hd h => o2 (hdor.trans hd) (by rwa [hpm]), fun hd => o3 (hdor.trans hd)⟩, ?_⟩
  · rw [hlb _ _ _ (by decide), hn.fld _ _ _ (by decide)]
    cases y
    · exact Dev.bit_setBit_same _ _ _ _ _ _ hc
    · rfl
  · rw [hu, ho]
    exact e2 (hdor.trans hd)
  · rw [hu, ho]
    refine (e3 (hdor.trans hd)).trans ((Dev.f_gateOut (s := b) (x := b.firedCell) rfl (outs ++ b.out) _ _ _).trans ?_)
    rw [hn.fld _ _ _ (by decide)]
    exact Dev.f_fireCause (by decide) _ _
  · rw [hu, ho]
    exact hbo ▸ ek
  · rw [hu, ho, eg, Dev.gcell_firedCell, hbits, hpm, hpm, Dev.gcell_of_gcore hab]
end

end Sys2Proof.Machine
end

section
/-! A command of a CELL that falls due (R207, R215, R216, R233 to R236, R258), and O25. -/

namespace Sys2Proof.Machine

section
variable (s : Dev) (c : GCmd) (t0 : Nat)

/-- Values for the carrier mode count from EXEC where no carrier runs (R240). -/
def Dev.carrFrom : Dev := if s.gate.period = none then { s with gate := { s.gate with carrAt := s.longTime c.exec * 64 } } else s

theorem Dev.carrFrom_f (G : Fld) (i j : Nat) : (s.carrFrom c).f G i j = s.f G i j := by
  rw [Dev.carrFrom]
  exact iteInduction (motive := fun u : Dev => u.f G i j = _) (fun _ => Dev.f_setGate rfl _ _ _) fun _ => rfl

theorem Dev.carryOut_eq : s.carryOut c t0 =
    let v := if 6 ≤ c.op then s.carrFrom c else s
    if v.flag F.GATE_STAT_TRIP_HOLD ∧ (c.op = 1 ∨ c.op = 2 ∨ c.op = 6) then v.inc (F.LANE_MS_STAT_TRIP_CNT.onLeaf) 1
    else if 1 ≤ c.op ∧ c.op ≤ 3 then v.move (opPos c.op) t0 (s.longTime c.exec * 64)
    else if c.op = 4 then (if v.gState = gRun then v.blockAction cCmd else v)
    else if c.op = 5 then (if v.gState = gBypassed then v else v.fire false 0)
    else if c.op = 6 then v.loadCarrier c
    else if c.param = 3 then v.release
    else v.modeChange (decide (c.param = 2)) := by
  have hv : (s.iff (decide (6 ≤ c.op) && s.gate.period.isNone) fun s' => { s' with gate := { s'.gate with carrAt := s.longTime c.exec * 64 } }) =
      if 6 ≤ c.op then s.carrFrom c else s := by
    rw [Dev.carrFrom]
    by_cases h6 : 6 ≤ c.op
    · cases hp : s.gate.period <;> simp [Dev.iff, h6, hp]
    · simp [Dev.iff, h6]
  rw [Dev.carryOut, hv]

variable {c}

theorem Dev.carryOut_pos (h1 : 1 ≤ c.op) (h3 : c.op ≤ 3) : s.carryOut c t0 =
    if s.flag F.GATE_STAT_TRIP_HOLD ∧ c.op ≠ 3 then s.inc (F.LANE_MS_STAT_TRIP_CNT.onLeaf) 1 else s.move (opPos c.op) t0 (s.longTime c.exec * 64) := by
  simp only [Dev.carryOut_eq, if_neg (show ¬ 6 ≤ c.op by omega), if_pos (show 1 ≤ c.op ∧ c.op ≤ 3 from ⟨h1, h3⟩)]
  refine if_congr (and_congr_right fun _ => ?_) rfl rfl
  omega

theorem Dev.carryOut_block (h : c.op = 4) : s.carryOut c t0 = if s.gState = gRun then s.blockAction cCmd else s := by
  simp [Dev.carryOut_eq, h]

theorem Dev.carryOut_close (h : c.op = 5) : s.carryOut c t0 = if s.gState = gBypassed then s else s.fire false 0 := by
  simp [Dev.carryOut_eq, h]

theorem Dev.carryOut_carrier (h : c.op = 6) : s.carryOut c t0 =
    if (s.carrFrom c).flag F.GATE_STAT_TRIP_HOLD then (s.carrFrom c).inc (F.LANE_MS_STAT_TRIP_CNT.onLeaf) 1 else (s.carrFrom c).loadCarrier c := by
  simp [Dev.carryOut_eq, h]

theorem Dev.carryOut_config (h : c.op = 7) : s.carryOut c t0 =
    if c.param = 3 then (s.carrFrom c).release else (s.carrFrom c).modeChange (decide (c.param = 2)) := by
  simp [Dev.carryOut_eq, h]
end

/-! ### Positions -/

section
variable (s : Dev) (pos t0 exec : Nat)

theorem Dev.setPos_spec : let u := s.setPos pos t0 exec
    u.f F.GATE_STAT_POS = pos % 4 ∧ u.gate.legA = s.gate.legA.goTo s.dtCfg (posHiA pos) t0 exec ∧
    u.gate.legB = (if s.flag F.GATE_CTL_FB then s.gate.legB.goTo s.dtCfg (posHiB pos) t0 exec else s.gate.legB) ∧
    u.gcore = { s.gcore with legA := u.gate.legA, legB := u.gate.legB } ∧ s.Keeps [.gate] s.out u := by
  have hg : (s.setPos pos t0 exec).gcore = { s.gcore with legA := s.gate.legA.goTo s.dtCfg (posHiA pos) t0 exec, legB := if s.flag F.GATE_CTL_FB then s.gate.legB.goTo s.dtCfg (posHiB pos) t0 exec else s.gate.legB } :=
    (Dev.gcore_inc _ F.GATE_LIFE_CNT _ 0 0).trans ((Dev.gcore_posTo ..).trans rfl)
  have hA : (s.setPos pos t0 exec).gate.legA = s.gate.legA.goTo s.dtCfg (posHiA pos) t0 exec := show (s.setPos pos t0 exec).gcore.legA = _ by rw [hg]
  have hB : (s.setPos pos t0 exec).gate.legB = if s.flag F.GATE_CTL_FB then s.gate.legB.goTo s.dtCfg (posHiB pos) t0 exec else s.gate.legB :=
    show (s.setPos pos t0 exec).gcore.legB = _ by rw [hg]
  refine ⟨(Dev.f_inc_clear _ _ _ _ _ _ (by decide)).trans (Dev.f_posTo ..), hA, hB, ?_, (Dev.keeps_refl _ s).setPos (by decide) _ _ _⟩
  rw [hA, hB]
  exact hg
end

/-! ### RELEASE and the changes of mode -/

section
variable (s : Dev)

/-- The conditions of a RELEASE (R258). -/
def Dev.mayRelease : Prop := s.onFollowed = true ∧ s.gate.cds = 0 ∧ s.f F.GATE_STAT_DESAT_LOCK = 0 ∧ (s.f F.GATE_AUX_CFG0_UV : Int) ≤ s.vauxNow ∧
  s.f F.GATE_VLIM_VMIN_RUN ≤ s.vcapNow ∧ s.vcapNow < s.f F.GATE_VLIM_OVW

theorem Dev.auxStart_gate : s.auxStart.gate.cds = s.gate.cds ∧ s.auxStart.gate.fplane = s.gate.fplane ∧ s.auxStart.gate.cmds = s.gate.cmds := by
  have hv : ∃ x, (s.iff (s.gIs gWaking && s.gate.vstart.isNone) fun s => { s with gate := { s.gate with vstart := some s.now } }) =
      { s with gate := { s.gate with vstart := x } } := by
    rw [Dev.iff]
    split
    · exact ⟨_, rfl⟩
    · exact ⟨s.gate.vstart, rfl⟩
  rw [Dev.auxStart]
  refine iteInduction (motive := fun u : Dev => u.gate.cds = s.gate.cds ∧ u.gate.fplane = s.gate.fplane ∧ u.gate.cmds = s.gate.cmds) (fun _ => ⟨rfl, rfl, rfl⟩) fun _ => ?_
  obtain ⟨x, hx⟩ := hv
  rw [hx]
  exact iteInduction (motive := fun u : Dev => u.gate.cds = s.gate.cds ∧ u.gate.fplane = s.gate.fplane ∧ u.gate.cmds = s.gate.cmds) (fun _ => ⟨rfl, rfl, rfl⟩) fun _ => ⟨rfl, rfl, rfl⟩

theorem Dev.auxRelease_gate : s.auxRelease.gate.cds = s.gate.cds ∧ s.auxRelease.gate.fplane = s.gate.fplane ∧ s.auxRelease.gate.cmds = s.gate.cmds :=
  iteInduction (motive := fun u : Dev => u.gate.cds = s.gate.cds ∧ u.gate.fplane = s.gate.fplane ∧ u.gate.cmds = s.gate.cmds) (fun _ => ⟨rfl, rfl, rfl⟩)
    fun _ => Dev.auxStart_gate _

variable {s} {u : Dev}

theorem Dev.mayRelease_congr (hf : ∀ G i j, G.clear F.GATE_AUX_STAT_RUNNING = true → G.apart F.TIME_INC_INC = true → u.f G i j = s.f G i j) (hp : u.proto = s.proto) (hc : u.gate.cds = s.gate.cds)
    (hl : u.gate.fplane = s.gate.fplane) : u.mayRelease ↔ s.mayRelease := by
  have hcode : ∀ c, u.ainCode c = s.ainCode c := fun c => by rw [Dev.ainCode, hf _ _ _ (by decide) (by decide)]; rfl
  have hcap : u.vcapNow = s.vcapNow := by rw [Dev.vcapNow, hcode, hf _ _ _ (by decide) (by decide), hf _ _ _ (by decide) (by decide)]; rfl
  have hon : u.onFollowed = s.onFollowed := by rw [Dev.onFollowed, Dev.onFollowed, Dev.planeLane, Dev.planeLane, hp, hl, hf _ _ _ (by decide) (by decide)]
  rw [Dev.mayRelease, Dev.mayRelease, hon, hc, hcap, Dev.vauxNow, Dev.vauxNow, hcode, hf _ _ _ (by decide) (by decide), hf _ _ _ (by decide) (by decide), hf _ _ _ (by decide) (by decide), hf _ _ _ (by decide) (by decide)]

theorem Dev.release_trip (h : s.f F.GATE_STAT_TRIP_HOLD ≠ 0) : s.release = ((s.inc (F.LANE_MS_STAT_TRIP_CNT.onLeaf) 1).raise F.GATE_EVT_REL_REFUSE).refuse :=
  if_pos (decide_eq_true h)

theorem Dev.flag_false {G : Fld} (h : s.f G = 0) : ¬ s.flag G = true := fun hh => of_decide_eq_true hh h

theorem Dev.release_run (h : s.f F.GATE_STAT_TRIP_HOLD = 0) (hst : s.gState = gRun) : s.release = s := (if_neg (Dev.flag_false h)).trans (if_pos hst)

theorem Dev.release_bypassed (h : s.f F.GATE_STAT_TRIP_HOLD = 0) (hst : s.gState = gBypassed) : s.release = (s.raise F.GATE_EVT_REL_REFUSE).refuse := by
  refine (if_neg (Dev.flag_false h)).trans ((if_neg (by rw [hst]; decide)).trans ?_)
  rw [hst]
  exact if_neg fun hh => hh.1 rfl

/-- The cell as a RELEASE takes it into RUN: no cause but that of the sensors (R258, R259). -/
def Dev.toRun (s : Dev) : Dev :=
  let s := s.put F.GATE_STAT_CAUSE (if bitOf (s.f F.GATE_STAT_CAUSE) cVsense then 2 ^ cVsense else 0)
  let s := { s with gate := { s.gate with desat := false } }
  ((s.gatesOff).gatesDrive true).toState gRun

theorem Dev.release_eq (h : s.f F.GATE_STAT_TRIP_HOLD = 0) (h1 : s.gState ≠ gRun) (h2 : s.gState ≠ gBypassed) :
    (s.mayRelease → s.release = s.auxRelease.toRun) ∧ (¬ s.mayRelease → s.release = (s.auxRelease.raise F.GATE_EVT_REL_REFUSE).refuse) := by
  have hm : s.auxRelease.mayRelease ↔ s.mayRelease := Dev.mayRelease_congr (fun G i j hG _ => s.leaves_auxRelease.fld _ _ _ (List.all_eq_true.mpr fun F hF => by
    rw [List.mem_singleton.mp hF]; exact hG)) s.leaves_auxRelease.proto s.auxRelease_gate.1 s.auxRelease_gate.2.1
  have hlock : s.auxRelease.f F.GATE_STAT_DESAT_LOCK = 0 ↔ ¬ s.auxRelease.flag F.GATE_STAT_DESAT_LOCK = true := by rw [Dev.flag, decide_eq_true_eq, not_not]
  have he : s.release = _ := (if_neg (Dev.flag_false h)).trans (if_neg h1)
  rw [show decide (s.gState ≠ gBypassed) = true from decide_eq_true h2, Dev.iff_true] at he
  refine ⟨fun hmay => he.trans (if_pos ?_), fun hmay => he.trans (if_neg fun hh => hmay (hm.mp ?_))⟩
  · obtain ⟨a, b, c, d, e, f⟩ := hm.mpr hmay
    exact ⟨h2, a, b, hlock.mp c, d, e, f⟩
  · obtain ⟨-, a, b, c, d, e, f⟩ := hh
    exact ⟨a, b, hlock.mpr c, d, e, f⟩

theorem Dev.runAt_setRegs (t : Tab Nat) (b : Blk) : (s.setRegs t b).gate.runAt = s.gate.runAt := by cases b <;> rfl
theorem Dev.runAt_put (G : Fld) (x i j : Nat) : (s.put G x i j).gate.runAt = s.gate.runAt := Dev.runAt_setRegs ..
theorem Dev.runAt_withLog (x : Tab Nat) : ({ s with gate := { s.gate with log := x } } : Dev).gate.runAt = s.gate.runAt := rfl

theorem Dev.runAt_logEvent (c x : Nat) : (s.logEvent c x).gate.runAt = s.gate.runAt := by
  rw [Dev.logEvent]
  exact (Dev.iff_keeps _ (·.gate.runAt) _ _ fun _ => (Dev.runAt_put ..).trans (Dev.runAt_put ..)).trans ((Dev.runAt_put ..).trans (Dev.runAt_withLog ..))

theorem Dev.cmds_gcell (s : Dev) : s.gcell.cmds = s.gate.cmds := rfl

theorem Dev.toRun_spec : s.toRun.gState = gRun ∧ (∀ k, k < 9 → k ≠ cVsense → bitOf (s.toRun.f F.GATE_STAT_CAUSE) k = false) ∧ s.toRun.gate.runAt.isSome = true ∧
    s.toRun.gate.cmds = s.gate.cmds := by
  refine ⟨Dev.gState_toState _ (by decide), fun k hk hne => ?_, ?_, ?_⟩
  · have hc : s.toRun.f F.GATE_STAT_CAUSE = (if bitOf (s.f F.GATE_STAT_CAUSE) cVsense then 2 ^ cVsense else 0) % 2 ^ 9 := by
      rw [Dev.toRun, (Dev.leaves_toState ..).fld _ _ _ (by decide), (Dev.leaves_gatesDrive _ _ []).fld _ _ _ (by decide), (Dev.leaves_gatesOff _).fld _ _ _ (by decide)]
      exact (Dev.f_setGate rfl _ _ _).trans (Dev.f_put_same ..)
    have hbits : ∀ b : Bool, ∀ k < 9, k ≠ cVsense → bitOf ((if b then 2 ^ cVsense else 0) % 2 ^ 9) k = false := by decide
    rw [hc]
    exact hbits _ k hk hne
  · rw [Dev.toRun, Dev.toState, Dev.runAt_logEvent, Dev.runAt_put]
    rfl
  · have h : s.toRun.gcell = _ := (Dev.gcell_of_gcore (Dev.gcore_toState ..)).trans ((Dev.gcell_gatesDrive _).trans Dev.gcell_gatesOff)
    rw [← Dev.cmds_gcell, h]
    exact (Dev.cmds_gcell (s.put F.GATE_STAT_CAUSE (if bitOf (s.f F.GATE_STAT_CAUSE) cVsense then 2 ^ cVsense else 0))).symm.trans
      ((congrArg Gate.cmds (Dev.gcell_of_gcore (Dev.gcore_put ..))).trans (Dev.cmds_gcell s))

/-- A change of mode ends the carrier's period and leaves the legs (R243). -/
theorem Dev.modeChange_spec (carrier : Bool) (h : s.gState ≠ gBypassed) : let u := s.modeChange carrier
    u.f F.GATE_STAT_MODE = b2n carrier ∧ u.f F.GATE_STAT_CARR_IDLE = b2n (carrier && s.gate.shadow.isNone) ∧ u.gate.edges = [] ∧ u.gate.period = none ∧
    u.gate.legA = s.gate.legA ∧ s.Keeps [.gate] s.out u := by
  intro u
  have hu : u = _ := if_neg h
  have hk : s.Keeps [.gate] s.out ((s.put F.GATE_STAT_MODE (b2n carrier)).put F.GATE_STAT_CARR_IDLE (b2n (carrier && s.gate.shadow.isNone))) :=
    ((Dev.keeps_refl _ s).put (by decide) _ _ _).put (by decide) _ _ _
  rw [hu]
  refine ⟨(Dev.f_setGate rfl _ _ _).trans ((Dev.f_put_clear _ _ _ _ _ _ (by decide)).trans ((Dev.f_put_same ..).trans (b2n_mod _))),
    (Dev.f_setGate rfl _ _ _).trans ((Dev.f_put_same ..).trans (b2n_mod _)), rfl, rfl, rfl, hk.setGate (by decide) _⟩
end

/-! ### The command at the head of the queue -/

/-- The rows of the commands that fall due, with their operation and PARAM (R207). -/
def dueRows : List (Nat × Nat × Instr) := [(1, 0, .insertPos), (2, 0, .insertNeg), (3, 0, .bypass), (4, 0, .block), (5, 0, .close), (6, 0, .carrier),
  (7, 1, .configMilestone), (7, 2, .configCarrier), (7, 3, .configRelease)]

theorem State.runs_dueRow {s : State} {op param : Nat} {row : Instr} (h : (op, param, row) ∈ dueRows) : s.Runs row (s.dev.begin.due op param) := by
  simp only [dueRows, List.mem_cons, List.not_mem_nil, or_false, Prod.mk.injEq] at h
  rcases h with ⟨rfl, rfl, rfl⟩ | ⟨rfl, rfl, rfl⟩ | ⟨rfl, rfl, rfl⟩ | ⟨rfl, rfl, rfl⟩ | ⟨rfl, rfl, rfl⟩ | ⟨rfl, rfl, rfl⟩ | ⟨rfl, rfl, rfl⟩ | ⟨rfl, rfl, rfl⟩ | ⟨rfl, rfl, rfl⟩
  all_goals rfl

section
variable {s : Dev} {c : GCmd} {l : List GCmd}

/-- The device when the command at the head of the queue falls due. -/
def Dev.dueAt (s : Dev) (c : GCmd) (l : List GCmd) : Dev := ({ s with gate := { s.gate with cmds := l } } : Dev).pastCycle (s.longTime c.exec * 64)

theorem Dev.due_idle {op param : Nat} (h : s.gate.cmds = [] ∨ s.awake = false ∨ (∃ c l, s.gate.cmds = c :: l ∧ (c.op ≠ op ∨ (op = 7 ∧ c.param ≠ param)))) :
    s.due op param = s := by
  rw [Dev.due]
  split
  · rfl
  · rename_i c l hc
    refine if_pos ?_
    rcases h with h | h | ⟨c', l', h, hne⟩
    · rw [hc] at h
      exact absurd h (List.cons_ne_nil _ _)
    · exact .inr (.inr (by simp [h]))
    · rw [hc] at h
      rw [← (List.cons.inj h).1] at hne
      exact hne.imp id .inl

theorem Dev.due_eq {op param : Nat} (hc : s.gate.cmds = c :: l) (ha : s.awake = true) (ho : c.op = op) (hp : op = 7 → c.param = param) :
    s.due op param = (s.dueAt c l).obey c (s.t0Of (s.longTime c.exec)) := by
  rw [Dev.due, hc]
  exact if_neg fun h => h.elim (fun h => h ho) fun h => h.elim (fun h => h.2 (hp h.1)) fun h => h ha

theorem Dev.dueAt_eq : ∃ x, s.dueAt c l = { s with time := x, gate := { s.gate with cmds := l } } := by
  obtain ⟨x, hx⟩ := Dev.advanceTo_withTime { s with gate := { s.gate with cmds := l } } ((s.longTime c.exec * 64 / 256 + 1) * 4)
  exact ⟨x, hx⟩

theorem Dev.dueAt_gate : (s.dueAt c l).gate = { s.gate with cmds := l } := by
  obtain ⟨x, hx⟩ := Dev.dueAt_eq (s := s) (c := c) (l := l)
  rw [hx]

theorem Dev.dueAt_f {G : Fld} (h : G.apart F.TIME_INC_INC = true) (i j : Nat) : (s.dueAt c l).f G i j = s.f G i j :=
  (Dev.advanceTo_f _ _ _ _ h).trans (Dev.f_setGate rfl _ _ _)

theorem Dev.dueAt_keeps : s.Keeps [.gate, .time] s.out (s.dueAt c l) := ((Dev.keeps_refl _ s).setGate (by decide) _).pastCycle (by decide) _

theorem Dev.obey_waits {t0 : Nat} (h4 : c.op ≠ 4) (h : s.moving = true ∨ s.gate.wait ≠ []) : s.obey c t0 = { s with gate := { s.gate with wait := s.gate.wait ++ [c] } } :=
  if_pos ⟨h4, h⟩

theorem Dev.obey_now {t0 : Nat} (h : c.op = 4 ∨ (s.moving = false ∧ s.gate.wait = [])) : s.obey c t0 = s.carryOut c t0 :=
  if_neg fun hh => h.elim hh.1 fun h => hh.2.elim (fun hm => Bool.false_ne_true (h.1.symm.trans hm)) fun hw => hw h.2
end

/-- Settles O25: the command at the head of the queue (`due_eq`) waits or is carried out (`carryOut_eq`), and each operation does what its rule says. -/
theorem cellCommandsFallDue : Obligations.CellCommandsFallDue := by
  unfold Obligations.CellCommandsFallDue
  intro s d st hold rows
  refine ⟨fun op param row hrow h => (State.runs_dueRow (s := s) hrow).of_eq (Dev.due_idle (s := d) h), fun c l hc ha => ?_⟩
  intro g t0 execW k refused declined
  have hg : d.dueAt c l = g := rfl
  have hgg : g.gate = { d.gate with cmds := l } := Dev.dueAt_gate (s := d) (c := c)
  have hf : ∀ {G : Fld} {i j : Nat}, G.apart F.TIME_INC_INC = true → g.f G i j = s.dev.f G i j := fun h => (Dev.dueAt_f (s := d) (c := c) (l := l) h _ _).trans (Dev.begin_f ..)
  have hst : g.gState = st := hf (by decide)
  have hkeep : s.dev.Keeps [.gate, .time] [] g := (Dev.dueAt_keeps (s := d)).of_begin
  have hmov : g.moving = s.dev.moving := by rw [Dev.moving, hgg]; rfl
  have hrun : ∀ {op param row}, (op, param, row) ∈ rows → c.op = op → (op = 7 → c.param = param) → s.Runs row (g.obey c t0) := fun {op param row} hrow ho hp =>
    (State.runs_dueRow (s := s) hrow).of_eq (Dev.due_eq (s := d) hc ha ho hp)
  refine ⟨fun op param row hrow h4 ho hp hw => (hrun hrow ho hp).of_eq (Dev.obey_waits (by omega) (by rw [hmov, hgg]; exact hw)), fun ho => ?block, fun hm hw => ?_⟩
  case block =>
    have hblock := (hrun (show (4, 0, Instr.block) ∈ rows by decide) ho fun h => absurd h (by decide)).of_eq ((Dev.obey_now (.inl ho)).trans (Dev.carryOut_block g t0 ho))
    refine ⟨fun h => (hblock.of_eq (if_pos (hst.trans h))).does ?_, fun h => hblock.of_eq (if_neg (ne_of_eq_of_ne hst h))⟩
    have hgr : g.gIs gRun = true := Dev.gIs_iff.mpr ⟨by rw [Dev.awake, hgg, hkeep.role_eq]; exact ha, hst.trans h⟩
    obtain ⟨h1, h2, h3, h4, h5, h6, -, h7⟩ := Dev.offTo_spec (s := g) (st := gBlocked) (c := cCmd) (by decide) (by decide)
    have hcell : (g.blockAction cCmd).gcell = g.gcell := by
      rw [Dev.blockAction_eq hgr]
      exact (Dev.gcell_of_gcore ((Dev.gcore_toState ..).trans (Dev.gcore_befall ..))).trans Dev.gcell_gatesOff
    rw [← Dev.blockAction_eq hgr] at h1 h2 h3 h4 h5 h6 h7
    refine ⟨h1, h7, h2, h3, h4, h5, h6, ?_, hkeep.blockAction (by decide) _⟩
    rw [← Dev.cmds_gcell, hcell, Dev.cmds_gcell, hgg]
  have hnow : ∀ {op param row}, (op, param, row) ∈ rows → c.op = op → (op = 7 → c.param = param) → s.Runs row (g.carryOut c t0) := fun {op param row} hrow ho hp =>
    (hrun hrow ho hp).of_eq (Dev.obey_now (.inr ⟨hmov.trans hm, by rw [hgg]; exact hw⟩))
  have hk : g.carrFrom c = k := by
    simp only [Dev.carrFrom, k, hgg]
    rfl
  have hkff : ∀ {G : Fld} {i j : Nat}, G.apart F.TIME_INC_INC = true → k.f G i j = s.dev.f G i j := fun {G i j} h => by
    rw [← hk, Dev.carrFrom_f]
    exact hf h
  have hkf : k.f F.GATE_STAT_TRIP_HOLD = hold := hkff (by decide)
  have hkst : k.gState = st := hkff (by decide)
  refine ⟨fun op row hrow ho => ?pos, fun ho => ?close, fun ho => ?carrier, fun ho => ?config⟩
  case pos =>
    have h13 : 1 ≤ op ∧ op ≤ 3 := by
      simp only [List.mem_cons, List.not_mem_nil, or_false, Prod.mk.injEq] at hrow
      omega
    have hmem : (op, 0, row) ∈ rows := by
      simp only [List.mem_cons, List.not_mem_nil, or_false, Prod.mk.injEq] at hrow
      rcases hrow with ⟨rfl, rfl⟩ | ⟨rfl, rfl⟩ | ⟨rfl, rfl⟩
      · decide
      · decide
      · decide
    have hpos := (hnow hmem ho (by omega)).of_eq (Dev.carryOut_pos g t0 (c := c) (by omega) (by omega))
    have hhold : g.flag F.GATE_STAT_TRIP_HOLD = true ↔ hold ≠ 0 := by rw [Dev.flag, decide_eq_true_eq, hf (by decide)]
    refine ⟨fun h1 h2 => hpos.of_eq (if_pos ⟨hhold.mpr h1, by omega⟩), fun h => ?_⟩
    have hmove := hpos.of_eq (if_neg fun hh => h.elim (fun h => hhold.mp hh.1 h) fun h => hh.2 (ho.trans h))
    rw [ho] at hmove
    have hmode : ¬ g.flag F.GATE_STAT_MODE = true ↔ s.dev.f F.GATE_STAT_MODE = 0 := by rw [Dev.flag, decide_eq_true_eq, hf (by decide), not_not]
    refine ⟨fun h1 h2 => hmove.of_eq ((if_pos (ne_of_eq_of_ne hst h1)).trans (if_neg (ne_of_eq_of_ne hst h2))), fun h1 => hmove.of_eq ((if_pos ?_).trans (if_pos (hst.trans h1))),
      fun h1 h2 => hmove.of_eq ((if_neg (not_not_intro (hst.trans h1))).trans (if_pos (not_not.mp (mt hmode.mp h2)))), fun h1 h2 => (hmove.of_eq ((if_neg (not_not_intro (hst.trans h1))).trans
        (if_neg (hmode.mpr h2)))).does ?_⟩
    · rw [hst, h1]; decide
    · obtain ⟨p1, p2, p3, p4, p5⟩ := g.setPos_spec (opPos op) t0 execW
      have hcfg : g.dtCfg = s.dev.dtCfg := by
        rw [Dev.dtCfg, hf (by decide), hf (by decide), hf (by decide), hf (by decide)]; rfl
      have hpos : opPos op % 4 = opPos op ∧ posHiA (opPos op) = decide (op = 1) ∧ posHiB (opPos op) = decide (op = 2) := by
        rcases (show op = 1 ∨ op = 2 ∨ op = 3 by omega) with rfl | rfl | rfl
        · decide
        · decide
        · decide
      obtain ⟨q1, q2, q3⟩ := hpos
      rw [q1] at p1
      rw [q2, hcfg, hgg] at p2
      rw [q3, hcfg, hgg] at p3
      refine ⟨p1, p2, p3.trans (if_congr ?_ rfl rfl), ?_, hkeep.trans (hkeep.out_eq ▸ p5.mono (by decide))⟩
      · rw [Dev.flag, decide_eq_true_eq, hf (by decide)]
      · exact (congrArg Gate.cmds p4 : _).trans (by rw [show g.gcore.cmds = g.gate.cmds from rfl, hgg])
  case close =>
    have hclose := (hnow (show (5, 0, Instr.close) ∈ rows by decide) ho fun h => absurd h (by decide)).of_eq (Dev.carryOut_close g t0 ho)
    have hcan : g.canFire false := by
      obtain ⟨h1, h2⟩ := Bool.and_eq_true_iff.mp ha
      exact ⟨hkeep.role_eq.trans (of_decide_eq_true h1), by rw [hgg]; exact (Bool.not_eq_true' _).mp h2⟩
    have hfired : g.f F.GATE_BYP_STAT_FIRED = s.dev.f F.GATE_BYP_STAT_FIRED := hf (by decide)
    refine ⟨fun h => hclose.of_eq (if_pos (hst.trans h)), fun h hfi => hclose.of_eq ((if_neg (ne_of_eq_of_ne hst h)).trans (Dev.fire_again hcan (ne_of_eq_of_ne hfired hfi))),
      fun h hfi => (hclose.of_eq (if_neg (ne_of_eq_of_ne hst h))).does ?_⟩
    obtain ⟨h1, h2, -, h3, ⟨h4, h5, -⟩, h6, -⟩ := Dev.fire_spec (cause := 0) hcan (hfired.trans hfi) (by decide)
    exact ⟨h6 hcan.2, h1, h2, h3, h4, h5⟩
  case carrier =>
    have hcarr := (hnow (show (6, 0, Instr.carrier) ∈ rows by decide) ho fun h => absurd h (by decide)).of_eq ((Dev.carryOut_carrier g t0 ho).trans (by rw [hk]))
    have hload : hold = 0 → s.Runs .carrier (k.loadCarrier c) := fun h => hcarr.of_eq (if_neg (Dev.flag_false (hkf.trans h)))
    refine ⟨fun h => hcarr.of_eq (if_pos (decide_eq_true (ne_of_eq_of_ne hkf h))), fun h h1 => (hload h).of_eq (if_pos (hkst.trans h1)),
      fun h h1 h2 => (hload h).of_eq ((if_neg (ne_of_eq_of_ne hkst h1)).trans (if_pos (h2.imp (fun h => by simp [h]) id))),
      fun h h1 h2 h3 h4 => (hload h).of_eq ((if_neg (ne_of_eq_of_ne hkst h1)).trans (if_neg ?_))⟩
    rintro (h | h | h)
    · exact h h2
    · omega
    · omega
  case config =>
    have hcfg : ∀ {param : Nat} {row : Instr}, (7, param, row) ∈ rows → c.param = param → s.Runs row (if c.param = 3 then k.release else k.modeChange (decide (c.param = 2))) :=
      fun hrow hp => (hnow hrow ho fun _ => hp).of_eq ((Dev.carryOut_config g t0 ho).trans (by rw [hk]))
    have hrel : c.param = 3 → s.Runs .configRelease k.release := fun hp => (hcfg (show (7, 3, Instr.configRelease) ∈ rows by decide) hp).of_eq (if_pos hp)
    have hmode : ∀ {param : Nat} {row : Instr}, (7, param, row) ∈ rows → c.param = param → param ≠ 3 → s.Runs row (k.modeChange (decide (param = 2))) := fun hrow hp h3 =>
      (hcfg hrow hp).of_eq ((if_neg (ne_of_eq_of_ne hp h3)).trans (by rw [hp]))
    have hkc : k.gate.legA = s.dev.gate.legA ∧ k.gate.shadow = s.dev.gate.shadow ∧ k.gate.cds = s.dev.gate.cds ∧ k.gate.fplane = s.dev.gate.fplane ∧ k.gate.cmds = l := by
      rw [← hk, Dev.carrFrom]
      refine iteInduction (motive := fun u : Dev => u.gate.legA = _ ∧ u.gate.shadow = _ ∧ u.gate.cds = _ ∧ u.gate.fplane = _ ∧ u.gate.cmds = _) (fun _ => ?_) fun _ => ?_
      · rw [hgg]
        exact ⟨rfl, rfl, rfl, rfl, rfl⟩
      · rw [hgg]
        exact ⟨rfl, rfl, rfl, rfl, rfl⟩
    have hkk : s.dev.Keeps [.gate, .time] [] k := by
      rw [← hk]
      exact .ite _ (fun _ => hkeep.setGate (by decide) _) fun _ => hkeep
    have hspec : ∀ b, st ≠ gBypassed → (k.modeChange b).f F.GATE_STAT_MODE = b2n b ∧ (k.modeChange b).f F.GATE_STAT_CARR_IDLE = b2n (b && s.dev.gate.shadow.isNone) ∧
        (k.modeChange b).gate.edges = [] ∧ (k.modeChange b).gate.period = none ∧ (k.modeChange b).gate.legA = s.dev.gate.legA ∧ s.dev.Keeps [.gate, .time] [] (k.modeChange b) := fun b h => by
      obtain ⟨m1, m2, m3, m4, m5, m6⟩ := Dev.modeChange_spec (s := k) b (ne_of_eq_of_ne hkst h)
      exact ⟨m1, hkc.2.1 ▸ m2, m3, m4, m5.trans hkc.1, hkk.trans (hkk.out_eq ▸ m6.mono (by decide))⟩
    refine ⟨fun hp => ⟨fun h => (hmode (show (7, 1, Instr.configMilestone) ∈ rows by decide) hp (by decide)).of_eq (if_pos (hkst.trans h)),
        fun h => (hmode (show (7, 1, Instr.configMilestone) ∈ rows by decide) hp (by decide)).does (hspec false h)⟩,
      fun hp => ⟨fun h => (hmode (show (7, 2, Instr.configCarrier) ∈ rows by decide) hp (by decide)).of_eq (if_pos (hkst.trans h)),
        fun h => (hmode (show (7, 2, Instr.configCarrier) ∈ rows by decide) hp (by decide)).does ?_⟩, fun hp h => (hrel hp).of_eq (Dev.release_trip (ne_of_eq_of_ne hkf h)),
      fun hp h h1 => (hrel hp).of_eq (Dev.release_run (hkf.trans h) (hkst.trans h1)), fun hp h h1 => (hrel hp).of_eq (Dev.release_bypassed (hkf.trans h) (hkst.trans h1)),
      fun hp h h1 h2 => ?_⟩
    · obtain ⟨m1, m2, -, -, m5, m6⟩ := hspec true h
      exact ⟨m1, m2, m5, m6⟩
    · intro may
      obtain ⟨r1, r2⟩ := Dev.release_eq (hkf.trans h) (ne_of_eq_of_ne hkst h1) (ne_of_eq_of_ne hkst h2)
      have hm : k.mayRelease ↔ s.dev.mayRelease := Dev.mayRelease_congr (fun G i j _ hG => hkff hG) (hkk.2.2.2.2.2.2.2.1 (by decide)).2 hkc.2.2.1 hkc.2.2.2.1
      refine ⟨fun hmay => ((hrel hp).of_eq (r1 (hm.mpr hmay))).does ?_, fun hmay => (hrel hp).of_eq (r2 (mt hm.mp hmay))⟩
      obtain ⟨t1, t2, t3, t4⟩ := Dev.toRun_spec (s := k.auxRelease)
      exact ⟨t1, t2, t3, t4.trans (k.auxRelease_gate.2.2.trans hkc.2.2.2.2)⟩

end Sys2Proof.Machine
end

section
/-! Edges of a CELL: dead time, the node, deferred commands and the carrier (R236 to R242), and O26. -/

namespace Sys2Proof.Machine

/-! ### Time is not what a command puts out -/

section
variable (s : Dev) (g : Gate) (o : List Out) (c : Option (Status × Nat))

/-- The device with another state of GATE, another output and another completion: its time goes on as before. -/
def Dev.beside : Dev := { s with gate := g, out := o, cpl := c }

theorem Dev.toTick_beside : (s.beside g o c).toTick = s.toTick.beside g o c := by
  rw [Dev.toTick_eq, Dev.toTick_eq]
  rcases hs : s.time.pendStep with _ | a <;> rcases hi : s.time.pendInc with _ | b <;> simp only [Dev.takeStep, Dev.takeInc, Dev.beside, hs, hi] <;> rfl

theorem Dev.advanceTo_beside (t : Nat) : (s.beside g o c).advanceTo t = (s.advanceTo t).beside g o c := by
  unfold Dev.advanceTo
  dsimp only
  by_cases h : (t : Int) * nsFix * 5 ≤ s.now5
  · rw [if_pos h]
    exact if_pos h
  · rw [if_neg h]
    refine (if_neg h).trans ?_
    have hv : (if (s.beside g o c).time.pendInc.isSome || (s.beside g o c).time.pendStep.isSome then (s.beside g o c).toTick else s.beside g o c) =
        (if s.time.pendInc.isSome || s.time.pendStep.isSome then s.toTick else s).beside g o c := by
      rw [s.toTick_beside]
      exact (apply_ite (Dev.beside · g o c) _ _ _).symm
    rw [hv]
    generalize (if s.time.pendInc.isSome || s.time.pendStep.isSome then s.toTick else s) = v
    by_cases h' : (t : Int) * nsFix * 5 ≤ v.now5 ∨ v.tickInc = 0
    · rw [if_pos h']
      exact if_pos h'
    · rw [if_neg h']
      exact if_neg h'

theorem Dev.begin_advanceTo_time (t : Nat) : (s.begin.advanceTo t).time = (s.advanceTo t).time :=
  (congrArg Dev.time (s.advanceTo_beside s.gate [] none t) : (s.begin.advanceTo t).time = ((s.advanceTo t).beside s.gate [] none).time)

theorem Dev.begin_pastCycle_time (w : Nat) : (s.begin.pastCycle w).time = (s.pastCycle w).time := s.begin_advanceTo_time _
end

/-! ### Legs -/

section
variable {s : Dev} {k : Nat}

theorem Dev.leg_setLeg (hk : k < 2) (l : Leg) : (s.setLeg k l).leg k = l := by
  rcases (show k = 0 ∨ k = 1 by omega) with rfl | rfl <;> rfl

theorem Dev.leg_of_gcore {u : Dev} (h : u.gcore = s.gcore) : u.leg k = s.leg k := by
  have hA : u.gcore.legA = s.gcore.legA := by rw [h]
  have hB : u.gcore.legB = s.gcore.legB := by rw [h]
  rw [Dev.leg, Dev.leg]
  split
  · exact hA
  · exact hB

theorem Dev.setLeg_gate (l : Leg) : ∃ a b, s.setLeg k l = { s with gate := { s.gate with legA := a, legB := b } } := by
  rw [Dev.setLeg]
  split
  · exact ⟨_, _, rfl⟩
  · exact ⟨_, _, rfl⟩

theorem Dev.f_setLeg (l : Leg) (G : Fld) (i j : Nat) : (s.setLeg k l).f G i j = s.f G i j := by
  obtain ⟨a, b, h⟩ := Dev.setLeg_gate (s := s) (k := k) l
  rw [h]
  exact Dev.f_setGate rfl _ _ _

theorem Dev.Keeps.setLeg {u : Dev} {own : List Blk} {outs : List Out} (h : s.Keeps own outs u) (hb : .gate ∈ own) (l : Leg) : s.Keeps own outs (u.setLeg k l) := by
  obtain ⟨a, b, e⟩ := Dev.setLeg_gate (s := u) (k := k) l
  rw [e]
  exact h.setGate hb _

theorem Dev.gate_pastCycle (w : Nat) : (s.pastCycle w).gate = s.gate := by
  obtain ⟨x, hx⟩ := s.advanceTo_withTime ((w / 256 + 1) * 4)
  rw [Dev.pastCycle, hx]

theorem Dev.f_pastCycle (w : Nat) {G : Fld} (h : G.apart F.TIME_INC_INC = true) (i j : Nat) : (s.pastCycle w).f G i j = s.f G i j := Dev.advanceTo_f _ _ _ _ h

/-- The incoming switch of a leg turns on (R237). -/
theorem Dev.switchOn_spec (hk : k < 2) (n : Nat) {tr : Trans} (h : (s.leg k).tr = some tr) : let u := s.switchOn k n
    u.leg k = { s.leg k with hi := tr.hi, lo := !tr.hi, tr := if tr.node.isSome then none else some { tr with on := some n }, onAt := tr.t0 + n } ∧
    u.f F.GATE_DT_STAT_LAST = n / 64 % 2 ^ 16 ∧ s.Keeps [.gate, .time] s.out u := by
  intro u
  have hu : u = (((s.pastCycle (tr.t0 + n)).setLeg k { s.leg k with hi := tr.hi, lo := !tr.hi, tr := if tr.node.isSome then none else some { tr with on := some n }, onAt := tr.t0 + n }).put
      F.GATE_DT_STAT_LAST (n / 64)) := by
    simp only [u, Dev.switchOn, h]
  rw [hu]
  exact ⟨(Dev.leg_of_gcore (Dev.gcore_put ..)).trans (Dev.leg_setLeg hk _), Dev.f_put_same .., (((Dev.keeps_refl _ s).pastCycle (by decide) _).setLeg (by decide) _).put (by decide) _ _ _⟩

/-! ### The node -/

/-- The time within which a node counts as seen (R237, R238). -/
def Trans.inTime (t : Trans) (n : Nat) : Bool := match t.on with | none => decide (n ≤ t.cfg.max) | some d => decide (n ≤ d + t.cfg.tmo)

theorem Dev.nodeSeen_eq {tr : Trans} (h : (s.leg k).tr = some tr) (tn : Nat) : s.nodeSeen k tn =
    if tr.node.isSome ∨ ¬ tr.inTime (tn * 5) then s
    else
      let s := s.setLeg k { s.leg k with sf := 0, tr := if tr.on.isSome then none else some { tr with node := some (tn * 5) } }
      { s with gate := { s.gate with swt := s.gate.swt ++ [(tr.t0 + tn * 5, swtOf (tr.t0 + tn * 5) tr.exec)] } } := by
  simp only [Dev.nodeSeen, h]
  rfl

theorem Dev.nodeSeen_spec (hk : k < 2) {tr : Trans} {tn : Nat} (h : (s.leg k).tr = some tr) (hn : tr.node = none) (ht : tr.inTime (tn * 5) = true) : let u := s.nodeSeen k tn
    u.leg k = { s.leg k with sf := 0, tr := if tr.on.isSome then none else some { tr with node := some (tn * 5) } } ∧
    u.gate.swt = s.gate.swt ++ [(tr.t0 + tn * 5, swtOf (tr.t0 + tn * 5) tr.exec)] ∧ s.Keeps [.gate] s.out u := by
  dsimp only
  rw [Dev.nodeSeen_eq h, if_neg (by simp [hn, ht])]
  refine ⟨Dev.leg_setLeg hk _, ?_, ((Dev.keeps_refl _ s).setLeg (by decide) _).setGate (by decide) _⟩
  obtain ⟨a, b, e⟩ := Dev.setLeg_gate (s := s) (k := k) { s.leg k with sf := 0, tr := if tr.on.isSome then none else some { tr with node := some (tn * 5) } }
  rw [e]

theorem Dev.nodeSeen_idle {tn : Nat} (h : (s.leg k).tr = none ∨ ∃ tr, (s.leg k).tr = some tr ∧ (tr.node ≠ none ∨ tr.inTime (tn * 5) = false)) : s.nodeSeen k tn = s := by
  rcases h with h | ⟨tr, h, h'⟩
  · simp only [Dev.nodeSeen, h]
  · rw [Dev.nodeSeen_eq h]
    exact if_pos (h'.imp (Option.isSome_iff_ne_none.mpr ·) fun h => by simp [h])

theorem Dev.incomingOn_eq {tr : Trans} {n : Nat} (h : (s.leg k).tr = some tr) (hn : tr.node = some n) (ho : tr.on = none) :
    s.incomingOn k = s.switchOn k (max tr.cfg.min (min tr.cfg.max (n + tr.cfg.margin))) := by
  obtain ⟨t0, hi, exec, node, on, cfg⟩ := tr
  subst hn ho
  rw [Dev.incomingOn, h]

theorem Dev.dtMax_eq {tr : Trans} (h : (s.leg k).tr = some tr) (hn : tr.node = none) (ho : tr.on = none) :
    s.dtMax k = ((s.switchOn k tr.cfg.max).raise F.GATE_EVT_DT_MAXED).inc F.GATE_DT_STAT_MAXED_CNT 1 := by
  obtain ⟨t0, hi, exec, node, on, cfg⟩ := tr
  subst hn ho
  rw [Dev.dtMax, h]

/-- A node that has not been seen in its time is counted (R238). -/
def Dev.nodeLost (s : Dev) (k : Nat) (t : Nat) : Dev :=
  (((s.pastCycle t).raise F.GATE_EVT_SENSE_FAIL).inc F.GATE_DT_STAT_SF_CNT 1).setLeg k { s.leg k with tr := none, sf := (s.leg k).sf + 1 }

theorem Dev.nodeTimeout_eq {tr : Trans} {x : Nat} (h : (s.leg k).tr = some tr) (hn : tr.node = none) (ho : tr.on = some x) :
    s.nodeTimeout k = (s.nodeLost k (tr.t0 + x + tr.cfg.tmo)).iff (decide (4 ≤ (s.leg k).sf + 1)) fun s => s.toFault cSense := by
  obtain ⟨t0, hi, exec, node, on, cfg⟩ := tr
  subst hn ho
  simp only [Dev.nodeTimeout, h]
  rfl

theorem Dev.nodeLost_spec (hk : k < 2) (t : Nat) : let u := s.nodeLost k t
    u.leg k = { s.leg k with tr := none, sf := (s.leg k).sf + 1 } ∧ u.f F.GATE_EVT_SENSE_FAIL = 1 ∧ u.gState = s.gState ∧ u.gate.dormant = s.gate.dormant ∧
    u.time = (s.pastCycle t).time ∧ s.Keeps [.gate, .time] s.out u := by
  have hk1 : Dev.Keeps [.gate] (s.pastCycle t).out (s.pastCycle t) (s.nodeLost k t) :=
    (((Dev.keeps_refl _ _).raise (by decide) _ _).inc (by decide) _ _ _).setLeg (by decide) _
  have hk2 : s.Keeps [.gate, .time] s.out (s.pastCycle t) := (Dev.keeps_refl _ s).pastCycle (by decide) _
  refine ⟨Dev.leg_setLeg hk _, ?_, ?_, ?_, hk1.2.2.2.2.1 (by decide), hk2.trans (hk2.out_eq ▸ hk1.mono (by decide))⟩
  · rw [Dev.nodeLost, Dev.f_setLeg, Dev.f_inc_clear _ _ _ _ _ _ (by decide)]
    exact Dev.f_raise_same ..
  · rw [Dev.gState, Dev.nodeLost, Dev.f_setLeg, Dev.f_inc_clear _ _ _ _ _ _ (by decide), Dev.f_raise_clear _ _ _ _ _ (by decide), Dev.f_pastCycle _ (by decide)]
    rfl
  · obtain ⟨a, b, e⟩ := Dev.setLeg_gate (s := (((s.pastCycle t).raise F.GATE_EVT_SENSE_FAIL).inc F.GATE_DT_STAT_SF_CNT 1)) (k := k) { s.leg k with tr := none, sf := (s.leg k).sf + 1 }
    have hg : ((((s.pastCycle t).raise F.GATE_EVT_SENSE_FAIL).inc F.GATE_DT_STAT_SF_CNT 1)).gcore = (s.pastCycle t).gcore := (Dev.gcore_inc ..).trans (Dev.gcore_raise ..)
    rw [Dev.nodeLost, e]
    have hd : (((s.pastCycle t).raise F.GATE_EVT_SENSE_FAIL).inc F.GATE_DT_STAT_SF_CNT 1).gcore.dormant = (s.pastCycle t).gcore.dormant := by rw [hg]
    exact hd.trans (show (s.pastCycle t).gate.dormant = _ by rw [Dev.gate_pastCycle])
end

/-! ### Deferred commands, and the carrier -/

section
variable {s : Dev}

theorem Dev.dtCfg_congr {u : Dev} (h1 : u.f F.GATE_DT_CFG_DT_MIN = s.f F.GATE_DT_CFG_DT_MIN) (h2 : u.f F.GATE_DT_CFG_DT_MAX = s.f F.GATE_DT_CFG_DT_MAX)
    (h3 : u.f F.GATE_DT_CFG_MARGIN = s.f F.GATE_DT_CFG_MARGIN) (h4 : u.f F.GATE_DT_CFG_NODE_TMO = s.f F.GATE_DT_CFG_NODE_TMO) : u.dtCfg = s.dtCfg := by
  rw [Dev.dtCfg, h1, h2, h3, h4]; rfl

theorem Dev.deferred_eq (hm : s.moving = false) (ha : s.awake = true) : s.deferred =
    match s.gate.wait, s.gate.edgeWait with
    | c :: l, _ => ((({ s with gate := { s.gate with wait := l } } : Dev).raise F.GATE_EVT_DEFER).inc F.GATE_CMD_CNT_DEFER_CNT 1).carryOut c s.cycleW
    | [], some (pos, t) => ({ s with gate := { s.gate with edgeWait := none } } : Dev).setPos pos s.cycleW t
    | [], none => s := (if_neg (by simp [hm, ha])).trans rfl

theorem Dev.deferred_idle (h : s.moving = true ∨ s.awake = false ∨ (s.gate.wait = [] ∧ s.gate.edgeWait = none)) : s.deferred = s := by
  by_cases hi : s.moving = true ∨ ¬ s.awake = true
  · exact if_pos hi
  · refine (if_neg hi).trans ?_
    rcases h with h | h | ⟨h1, h2⟩
    · exact absurd (.inl h) hi
    · exact absurd (.inr (by simp [h])) hi
    · rw [h1, h2]

theorem Dev.carrMove_now (pos t : Nat) (hm : s.moving = false) (hw : s.gate.wait = []) :
    s.carrMove pos t = ({ s with gate := { s.gate with edgeWait := none } } : Dev).setPos pos (s.t0W t) t := if_neg (by simp [hm, hw])

theorem Dev.carrMove_waits (pos t : Nat) (h : s.moving = true ∨ s.gate.wait ≠ []) : s.carrMove pos t = { s with gate := { s.gate with edgeWait := some (pos, t) } } := if_pos h

/-- A move of the carrier leaves its values and its period. -/
theorem Dev.carrMove_keeps (pos t : Nat) : let u := s.carrMove pos t
    u.gate.force = s.gate.force ∧ u.gate.shadow = s.gate.shadow ∧ u.gate.period = s.gate.period ∧ u.gate.edges = s.gate.edges ∧ s.Keeps [.gate] s.out u ∧ s.Leaves posFlds u := by
  intro u
  by_cases h : s.moving = true ∨ s.gate.wait ≠ []
  · rw [show u = _ from Dev.carrMove_waits pos t h]
    exact ⟨rfl, rfl, rfl, rfl, (Dev.keeps_refl _ s).setGate (by decide) _, (Dev.leaves_refl _ s).setGate _ (by rfl)⟩
  · obtain ⟨-, -, -, p4, p5⟩ := Dev.setPos_spec { s with gate := { s.gate with edgeWait := none } } pos (s.t0W t) t
    have hu : u = ({ s with gate := { s.gate with edgeWait := none } } : Dev).setPos pos (s.t0W t) t := if_neg h
    rw [← hu] at p4 p5
    have h1 : u.gcore.force = s.gate.force := by rw [p4]; rfl
    have h2 : u.gcore.shadow = s.gate.shadow := by rw [p4]; rfl
    have h3 : u.gcore.period = s.gate.period := by rw [p4]; rfl
    have h4 : u.gcore.edges = s.gate.edges := by rw [p4]; rfl
    refine ⟨h1, h2, h3, h4, ((Dev.keeps_refl _ s).setGate (by decide) _).trans p5, ?_⟩
    rw [hu]
    exact ((Dev.leaves_refl _ s).setGate _ (by rfl)).trans (Dev.leaves_setPos _ _ _ _)

theorem Dev.le_carrAfter (v : Carr) (t : Nat) (hv : 0 < v.cper) : t ≤ s.carrAfter v t := by
  rw [Dev.carrAfter]
  have hp : 0 < v.cper * 64 := by omega
  generalize v.cper * 64 = p at hp
  generalize s.carrPhase v % p = ph
  split
  · assumption
  · have h := Nat.lt_div_mul_add (a := t - ph + p - 1) hp
    omega

theorem Dev.carrEdge_eq {t pos : Nat} {l : List (Nat × Nat)} (h : s.gate.edges = (t, pos) :: l) (hr : s.gIs gRun = true) :
    s.carrEdge = (({ s with gate := { s.gate with edges := l } } : Dev).pastCycle t).carrMove pos t := by
  rw [Dev.carrEdge, h]
  exact if_pos hr

theorem Dev.carrEdge_idle (h : s.gate.edges = [] ∨ s.gIs gRun = false) : s.carrEdge = s := by
  rw [Dev.carrEdge]
  split
  · rfl
  · rename_i t pos l he
    rcases h with h | h
    · rw [he] at h
      exact absurd h (List.cons_ne_nil _ _)
    · exact if_neg (by simp [h])

theorem Dev.carrBoundary_idle (h : s.gate.shadow = none ∨ s.gIs gRun = false ∨ s.f F.GATE_STAT_MODE = 0) : s.carrBoundary = s := by
  rw [Dev.carrBoundary]
  split
  · rfl
  · rename_i v hv
    rcases h with h | h
    · rw [hv] at h
      exact absurd h (Option.some_ne_none _)
    · exact if_pos (h.imp (fun h => by simp [h]) id)

/-- A period of the carrier starts with the values of the shadows (R241). -/
def Dev.carrStart (s : Dev) (v : Carr) (tb te : Nat) (edges : List (Nat × Nat)) : Dev :=
  let s := { s with gate := { s.gate with force := some v, period := some (tb, te), edges := edges } }
  ((s.put F.GATE_CARR_ACT_DUTY v.duty).put F.GATE_CARR_ACT_CPER v.cper).put F.GATE_STAT_CARR_IDLE 0

theorem Dev.carrStart_spec (v : Carr) (tb te : Nat) (edges : List (Nat × Nat)) : let u := s.carrStart v tb te edges
    u.gcore = { s.gcore with force := some v, period := some (tb, te), edges := edges } ∧ u.f F.GATE_CARR_ACT_DUTY = v.duty % 2 ^ 32 ∧ u.f F.GATE_CARR_ACT_CPER = v.cper % 2 ^ 32 ∧
    u.f F.GATE_STAT_CARR_IDLE = 0 ∧ s.Keeps [.gate] s.out u := by
  refine ⟨(Dev.gcore_put ..).trans ((Dev.gcore_put ..).trans (Dev.gcore_put ..)), ?_, ?_, Dev.f_put_same ..,
    ((((Dev.keeps_refl _ s).setGate (by decide) _).put (by decide) _ _ _).put (by decide) _ _ _).put (by decide) _ _ _⟩
  · rw [Dev.carrStart, Dev.f_put_clear _ _ _ _ _ _ (by decide), Dev.f_put_clear _ _ _ _ _ _ (by decide)]
    exact Dev.f_put_same ..
  · rw [Dev.carrStart, Dev.f_put_clear _ _ _ _ _ _ (by decide)]
    exact Dev.f_put_same ..

theorem Dev.carrBoundary_eq {v : Carr} (hv : s.gate.shadow = some v) (hp : 0 < v.cper) (hr : s.gIs gRun = true) (hm : s.f F.GATE_STAT_MODE ≠ 0) :
    ∃ (tb te pos : Nat) (edges : List (Nat × Nat)), tb < te ∧ s.carrBoundary = ((s.pastCycle tb).carrStart v tb te edges).carrMove pos tb := by
  simp only [Dev.carrBoundary, hv]
  rw [if_neg (by simp [hr, hm])]
  refine ⟨_, _, _, _, ?_, rfl⟩
  repeat' split
  all_goals exact lt_of_lt_of_le (by omega) (Dev.le_carrAfter _ _ hp)

/-- A boundary of the carrier takes the shadows and starts a period (R241 to R243). -/
theorem Dev.carrBoundary_spec {v : Carr} (hv : s.gate.shadow = some v) (hp : 0 < v.cper) (hr : s.gIs gRun = true) (hm : s.f F.GATE_STAT_MODE ≠ 0) : let u := s.carrBoundary
    u.gate.force = some v ∧ u.gate.shadow = some v ∧ u.f F.GATE_CARR_ACT_DUTY = v.duty % 2 ^ 32 ∧ u.f F.GATE_CARR_ACT_CPER = v.cper % 2 ^ 32 ∧ u.f F.GATE_STAT_CARR_IDLE = 0 ∧
    (∃ a b, u.gate.period = some (a, b) ∧ a < b) ∧ s.Keeps [.gate, .time] s.out u := by
  obtain ⟨tb, te, pos, edges, hlt, hu⟩ := Dev.carrBoundary_eq hv hp hr hm
  obtain ⟨c1, c2, c3, c4, c5⟩ := Dev.carrStart_spec (s := s.pastCycle tb) v tb te edges
  obtain ⟨m1, m2, m3, -, m5, ml⟩ := Dev.carrMove_keeps (s := (s.pastCycle tb).carrStart v tb te edges) pos tb
  have hk : s.Keeps [.gate, .time] s.out (s.pastCycle tb) := (Dev.keeps_refl _ s).pastCycle (by decide) _
  have hk2 := hk.trans (hk.out_eq ▸ c5.mono (by decide))
  have hforce : ((s.pastCycle tb).carrStart v tb te edges).gcore.force = some v := by rw [c1]
  have hshadow : ((s.pastCycle tb).carrStart v tb te edges).gcore.shadow = some v := by
    rw [c1]
    exact (show (s.pastCycle tb).gate.shadow = s.gate.shadow by rw [Dev.gate_pastCycle]).trans hv
  have hperiod : ((s.pastCycle tb).carrStart v tb te edges).gcore.period = some (tb, te) := by rw [c1]
  dsimp only
  rw [hu]
  exact ⟨m1.trans hforce, m2.trans hshadow, (ml.fld _ _ _ (by decide)).trans c2, (ml.fld _ _ _ (by decide)).trans c3, (ml.fld _ _ _ (by decide)).trans c4,
    ⟨tb, te, m3.trans hperiod, hlt⟩, hk2.trans (hk2.out_eq ▸ m5.mono (by decide))⟩
end

/-- Settles O26: each event of a leg and of the carrier does what its rule says (`nodeSeen_spec`, `switchOn_spec`, `nodeLost_spec`, `carrBoundary_spec`). -/
theorem cellEdges : Obligations.CellEdges := by
  unfold Obligations.CellEdges
  intro s k hk d leg
  have hin : ∀ {tr : Trans} {n : Nat}, tr.on = none → tr.inTime n = decide (n ≤ tr.cfg.max) := fun h => by rw [Trans.inTime, h]
  have hin' : ∀ {tr : Trans} {n x : Nat}, tr.on = some x → tr.inTime n = decide (n ≤ x + tr.cfg.tmo) := fun h => by rw [Trans.inTime, h]
  have hlost : ∀ {tr : Trans} {x : Nat}, leg.tr = some tr → tr.node = none → tr.on = some x →
      s.Runs (.nodeTimeout k) ((d.nodeLost k (tr.t0 + x + tr.cfg.tmo)).iff (decide (4 ≤ leg.sf + 1)) fun s => s.toFault cSense) := fun ht hn hx =>
    s.runs_nodeTimeout.of_eq (Dev.nodeTimeout_eq (s := d) ht hn hx)
  have hdef : s.dev.moving = false → s.dev.awake = true → s.Runs .deferredCommand d.deferred := fun _ _ => s.runs_deferredCommand
  refine ⟨fun tr tn ht hn ho h => s.runs_nodeSeen.does ?seen, fun tr tn x ht hn ho h => s.runs_nodeSeen.does ?late, fun tn h => s.runs_nodeSeen.of_eq (Dev.nodeSeen_idle (s := d) ?idle),
    fun tr n ht hn ho => s.runs_incomingOn.does ?incoming, fun tr ht hn ho => s.runs_dtMaxExpiry.does ?maxed, fun tr x ht hn ho hsf => (hlost ht hn ho).does ?lost,
    fun tr x ht hn ho hsf hr => (hlost ht hn ho).does ?fault, fun h => ⟨s.runs_incomingOn.of_eq ?_, s.runs_dtMaxExpiry.of_eq ?_, s.runs_nodeTimeout.of_eq ?_⟩,
    fun c l hw ha => ?deferred, fun pos t hw he ha hm => s.runs_deferredCommand.of_eq ((Dev.deferred_eq (s := d) hm ha).trans ?_),
    fun h => s.runs_deferredCommand.of_eq (Dev.deferred_idle (s := d) (.inr h)), fun v hv hp hr hm => s.runs_carrierBoundary.does (Dev.carrBoundary_spec (s := d) hv hp hr ?_),
    fun h => s.runs_carrierBoundary.of_eq (Dev.carrBoundary_idle (s := d) (h.imp id (Or.imp id (Dev.begin_f ..).trans))), fun t pos l he hr => ⟨fun hm hw => s.runs_carrierEdge.does ?edge,
      fun h => s.runs_carrierEdge.of_eq ?_⟩, fun h => s.runs_carrierEdge.of_eq (Dev.carrEdge_idle (s := d) h)⟩
  case seen =>
    obtain ⟨h1, h2, h3⟩ := Dev.nodeSeen_spec (s := d) hk ht hn (by rw [hin ho]; exact decide_eq_true h)
    rw [show tr.on.isSome = false by rw [ho]; rfl] at h1
    exact ⟨h1, h2, h3.of_begin⟩
  case late =>
    obtain ⟨h1, h2, h3⟩ := Dev.nodeSeen_spec (s := d) hk ht hn (by rw [hin' ho]; exact decide_eq_true h)
    rw [ho] at h1
    exact ⟨h1, h2, h3.of_begin⟩
  case idle =>
    refine h.imp id fun ⟨tr, ht, h⟩ => ⟨tr, ht, h.imp id fun h => ?_⟩
    rcases h with ⟨ho, h⟩ | ⟨x, ho, h⟩
    · rw [hin ho]; exact decide_eq_false (not_le.mpr h)
    · rw [hin' ho]; exact decide_eq_false (not_le.mpr h)
  case incoming =>
    obtain ⟨h1, h2, h3⟩ := Dev.switchOn_spec (s := d) hk (max tr.cfg.min (min tr.cfg.max (n + tr.cfg.margin))) ht
    rw [hn] at h1
    rw [Dev.incomingOn_eq (s := d) ht hn ho]
    exact ⟨h1, h2, h3.of_begin⟩
  case maxed =>
    obtain ⟨h1, -, h3⟩ := Dev.switchOn_spec (s := d) hk tr.cfg.max ht
    rw [show tr.node.isSome = false by rw [hn]; rfl] at h1
    rw [Dev.dtMax_eq (s := d) ht hn ho]
    refine ⟨(Dev.leg_of_gcore ((Dev.gcore_inc ..).trans (Dev.gcore_raise ..))).trans h1, ?_, (h3.of_begin.raise (by decide) _ _).inc (by decide) _ _ _⟩
    rw [Dev.f_inc_clear _ _ _ _ _ _ (by decide)]
    exact Dev.f_raise_same ..
  case lost =>
    obtain ⟨h1, h2, h3, -, h5, h6⟩ := Dev.nodeLost_spec (s := d) hk (tr.t0 + x + tr.cfg.tmo)
    rw [decide_eq_false (show ¬ 4 ≤ leg.sf + 1 by omega), Dev.iff_false]
    exact ⟨h1, h2, h3.trans (Dev.begin_f ..), h5.trans (Dev.begin_pastCycle_time ..), h6.of_begin⟩
  case fault =>
    obtain ⟨-, -, h3, h4, -, h6⟩ := Dev.nodeLost_spec (s := d) hk (tr.t0 + x + tr.cfg.tmo)
    have hrun : (d.nodeLost k (tr.t0 + x + tr.cfg.tmo)).gIs gRun = true := by
      obtain ⟨ha, hst⟩ := Dev.gIs_iff.mp hr
      exact Dev.gIs_iff.mpr ⟨by rw [Dev.awake, h4, h6.role_eq]; exact ha, h3.trans ((Dev.begin_f ..).trans hst)⟩
    rw [decide_eq_true (show 4 ≤ leg.sf + 1 by omega), Dev.iff_true, Dev.toFault_eq (.inl hrun)]
    obtain ⟨g1, g2, g3, g4, g5, g6, -⟩ := Dev.offTo_spec (s := d.nodeLost k (tr.t0 + x + tr.cfg.tmo)) (st := gFault) (c := cSense) (by decide) (by decide)
    refine ⟨g1, g2, ?_⟩
    rw [Dev.leg]
    split
    · exact ⟨g3, g4⟩
    · exact ⟨g5, g6⟩
  case deferred =>
    have he : s.dev.moving = false → d.deferred = (((({ d with gate := { d.gate with wait := l } } : Dev).raise F.GATE_EVT_DEFER).inc F.GATE_CMD_CNT_DEFER_CNT 1).carryOut c s.dev.cycleW) := fun hm => by
      rw [Dev.deferred_eq (s := d) hm ha, show d.gate.wait = c :: l from hw]
      rfl
    refine ⟨fun hm => s.runs_deferredCommand.of_eq (Dev.deferred_idle (s := d) (.inl hm)), fun hm => s.runs_deferredCommand.of_eq (he hm),
      fun hm h1 h3 hst hmode hhold => (s.runs_deferredCommand.of_eq (he hm)).does ?_⟩
    have hk : s.dev.Keeps [.gate] [] ((({ d with gate := { d.gate with wait := l } } : Dev).raise F.GATE_EVT_DEFER).inc F.GATE_CMD_CNT_DEFER_CNT 1) :=
      (((Dev.keeps_begin _ s.dev).setGate (by decide) _).raise (by decide) _ _).inc (by decide) _ _ _
    have hf : ∀ {G : Fld}, G.clearOf [F.GATE_EVT_DEFER, F.GATE_CMD_CNT_DEFER_CNT] = true →
        ((({ d with gate := { d.gate with wait := l } } : Dev).raise F.GATE_EVT_DEFER).inc F.GATE_CMD_CNT_DEFER_CNT 1).f G = s.dev.f G := fun {G} h =>
      (((((Dev.leaves_refl _ d).setGate { d.gate with wait := l } (by rfl)).raise (F := F.GATE_EVT_DEFER) (by decide)).inc (F := F.GATE_CMD_CNT_DEFER_CNT) 1 (by decide)).fld G 0 0 h).trans (Dev.begin_f ..)
    have hev : ((({ d with gate := { d.gate with wait := l } } : Dev).raise F.GATE_EVT_DEFER).inc F.GATE_CMD_CNT_DEFER_CNT 1).f F.GATE_EVT_DEFER = 1 := by
      rw [Dev.f_inc_clear _ _ _ _ _ _ (by decide)]
      exact Dev.f_raise_same ..
    have hg : ((({ d with gate := { d.gate with wait := l } } : Dev).raise F.GATE_EVT_DEFER).inc F.GATE_CMD_CNT_DEFER_CNT 1).gcore = { d.gcore with wait := l } :=
      (Dev.gcore_inc ..).trans (Dev.gcore_raise ..)
    have hlong : ((({ d with gate := { d.gate with wait := l } } : Dev).raise F.GATE_EVT_DEFER).inc F.GATE_CMD_CNT_DEFER_CNT 1).longTime c.exec = s.dev.longTime c.exec := by
      rw [Dev.longTime, Dev.now_of_time hk.role_eq (hk.2.2.2.2.1 (by decide))]; rfl
    generalize (({ d with gate := { d.gate with wait := l } } : Dev).raise F.GATE_EVT_DEFER).inc F.GATE_CMD_CNT_DEFER_CNT 1 = v at hk hf hev hg hlong
    have hv : v.carryOut c s.dev.cycleW = v.setPos (opPos c.op) s.dev.cycleW (s.dev.longTime c.exec * 64) := by
      rw [Dev.carryOut_pos v _ h1 h3, hlong]
      refine (if_neg fun h => Dev.flag_false ((hf (by decide)).trans hhold) h.1).trans ((if_neg (not_not_intro ?_)).trans (if_neg (Dev.flag_false ((hf (by decide)).trans hmode))))
      exact (hf (by decide)).trans hst
    rw [hv]
    obtain ⟨p1, p2, -, p4, p5⟩ := v.setPos_spec (opPos c.op) s.dev.cycleW (s.dev.longTime c.exec * 64)
    have hwait : (v.setPos (opPos c.op) s.dev.cycleW (s.dev.longTime c.exec * 64)).gcore.wait = l := by rw [p4]; exact (show v.gcore.wait = l by rw [hg])
    have hleg : v.gate.legA = s.dev.gate.legA := show v.gcore.legA = _ by rw [hg]; rfl
    rw [Dev.dtCfg_congr (s := s.dev) (hf (by decide)) (hf (by decide)) (hf (by decide)) (hf (by decide)), hleg] at p2
    refine ⟨p1.trans ?_, hwait, ((Dev.leaves_setPos v _ _ _).fld _ _ _ (by decide)).trans hev, p2, hk.trans (hk.out_eq ▸ p5)⟩
    rcases (show c.op = 1 ∨ c.op = 2 ∨ c.op = 3 by omega) with h | h | h <;> rw [h] <;> decide
  case edge =>
    have hg : (({ d with gate := { d.gate with edges := l } } : Dev).pastCycle t).gate = { d.gate with edges := l } := Dev.gate_pastCycle t
    have hf : ∀ {G : Fld} {i j : Nat}, G.apart F.TIME_INC_INC = true → (({ d with gate := { d.gate with edges := l } } : Dev).pastCycle t).f G i j = s.dev.f G i j := fun h =>
      (Dev.f_pastCycle t h _ _).trans ((Dev.f_setGate rfl _ _ _).trans (Dev.begin_f ..))
    have hk : s.dev.Keeps [.gate, .time] [] (({ d with gate := { d.gate with edges := l } } : Dev).pastCycle t) :=
      (((Dev.keeps_begin _ s.dev).setGate (by decide) _).pastCycle (by decide) t)
    rw [Dev.carrEdge_eq (s := d) he hr]
    generalize ({ d with gate := { d.gate with edges := l } } : Dev).pastCycle t = g at hg hf hk
    rw [Dev.carrMove_now pos t (by rw [Dev.moving, hg]; exact hm) (by rw [hg]; exact hw)]
    have hf' : ∀ {G : Fld}, G.apart F.TIME_INC_INC = true → ({ g with gate := { g.gate with edgeWait := none } } : Dev).f G = s.dev.f G := fun h => (Dev.f_setGate rfl _ _ _).trans (hf h)
    obtain ⟨p1, p2, -, p4, p5⟩ := Dev.setPos_spec { g with gate := { g.gate with edgeWait := none } } pos (g.t0W t) t
    have hlegA : g.gate.legA = s.dev.gate.legA := by rw [hg]; rfl
    have hel : g.gate.edges = l := by rw [hg]
    have hedges : (({ g with gate := { g.gate with edgeWait := none } } : Dev).setPos pos (g.t0W t) t).gcore.edges = l := by rw [p4]; exact hel
    rw [Dev.dtCfg_congr (s := s.dev) (hf' (by decide)) (hf' (by decide)) (hf' (by decide)) (hf' (by decide)), show ({ g with gate := { g.gate with edgeWait := none } } : Dev).gate.legA = s.dev.gate.legA from hlegA,
      show g.t0W t = s.dev.t0W t by rw [Dev.t0W, hf (by decide)]; rfl] at p2
    exact ⟨hedges, p1, by rw [show g.t0W t = s.dev.t0W t by rw [Dev.t0W, hf (by decide)]; rfl]; exact p2, (hk.setGate (by decide) _).next p5 (by decide)⟩
  · rw [Dev.incomingOn, show (d.leg k).tr = none from h]
  · rw [Dev.dtMax, show (d.leg k).tr = none from h]
  · rw [Dev.nodeTimeout]
    dsimp only
    rw [show (d.leg k).tr = none from h]
  · rw [show d.gate.wait = [] from hw, show d.gate.edgeWait = some (pos, t) from he]
    rfl
  · exact ne_of_eq_of_ne (Dev.begin_f ..) hm
  · have hg : (({ d with gate := { d.gate with edges := l } } : Dev).pastCycle t).gate = { d.gate with edges := l } := Dev.gate_pastCycle t
    exact (Dev.carrEdge_eq (s := d) he hr).trans (Dev.carrMove_waits pos t (by rw [Dev.moving, hg]; exact h))

end Sys2Proof.Machine
end

section
/-! Faults of a CELL: desaturation, the lanes, the sensors and overvoltage (R244 to R250, R259, R299), and O27. -/

namespace Sys2Proof.Machine

section
variable {s : Dev}

/-- What a CELL in RUN, READY or BLOCKED is after a fault (R259). -/
theorem Dev.toFault_spec {c : Nat} (hc : c < 9) (h : s.gIs gRun = true ∨ s.gIs gReady = true ∨ s.gIs gBlocked = true) : let u := s.toFault c
    u.gState = gFault ∧ bitOf (u.f F.GATE_STAT_CAUSE) c = true ∧ u.AllOff ∧ u.gcell = s.gcell ∧ s.Leaves blockFlds u := by
  dsimp only
  rw [Dev.toFault_eq h]
  obtain ⟨h1, h2, h3⟩ := Dev.offTo_spec (s := s) (st := gFault) (c := c) (by decide) hc
  exact ⟨h1, h2, h3, (Dev.gcell_of_gcore ((Dev.gcore_toState ..).trans (Dev.gcore_befall ..))).trans Dev.gcell_gatesOff,
    ((s.leaves_gatesOff.mono (by decide)).setBit (F := F.GATE_STAT_CAUSE) _ _ (by decide)).next (Dev.leaves_toState _ _) (by decide)⟩

/-- One more cause of a CELL in FAULT (R259). -/
theorem Dev.toFault_again {c : Nat} (hc : c < 9) (h : s.gIs gFault = true) : let u := s.toFault c
    u.gState = gFault ∧ bitOf (u.f F.GATE_STAT_CAUSE) c = true := by
  obtain ⟨-, hst⟩ := Dev.gIs_iff.mp h
  have hno : ∀ st, st ≠ gFault → ¬ s.gIs st = true := fun st hne hh => hne ((Dev.gIs_iff.mp hh).2.symm.trans hst)
  have hu : s.toFault c = s.addCause c := (if_neg (not_or.mpr ⟨hno _ (by decide), not_or.mpr ⟨hno _ (by decide), hno _ (by decide)⟩⟩)).trans (if_pos h)
  dsimp only
  rw [hu]
  exact ⟨(Dev.f_setBit_clear _ _ _ _ _ _ _ (by decide)).trans hst, Dev.bit_setBit_same _ _ _ _ _ _ hc⟩

/-- A fault, and its entry in the log. -/
theorem Dev.toFault_logged {c : Nat} (hc : c < 9) (h : s.gIs gRun = true ∨ s.gIs gReady = true ∨ s.gIs gBlocked = true) (code x : Nat) : let u := (s.toFault c).logEvent code x
    u.gState = gFault ∧ bitOf (u.f F.GATE_STAT_CAUSE) c = true ∧ u.AllOff ∧ s.Keeps [.gate] s.out u := by
  obtain ⟨h1, h2, h3, -, -⟩ := Dev.toFault_spec hc h
  have hl := Dev.leaves_logEvent (s.toFault c) code x
  refine ⟨(hl.fld _ _ _ (by decide)).trans h1, ?_, h3.logEvent _ _, ((Dev.keeps_refl _ s).toFault (by decide) _).logEvent (by decide) _ _⟩
  rw [hl.fld _ _ _ (by decide)]
  exact h2

/-- One more cause, and its entry in the log. -/
theorem Dev.toFault_again_logged {c : Nat} (hc : c < 9) (h : s.gIs gFault = true) (code x : Nat) : let u := (s.toFault c).logEvent code x
    u.gState = gFault ∧ bitOf (u.f F.GATE_STAT_CAUSE) c = true ∧ s.Keeps [.gate] s.out u := by
  obtain ⟨h1, h2⟩ := Dev.toFault_again hc h
  have hl := Dev.leaves_logEvent (s.toFault c) code x
  refine ⟨(hl.fld _ _ _ (by decide)).trans h1, ?_, ((Dev.keeps_refl _ s).toFault (by decide) _).logEvent (by decide) _ _⟩
  rw [hl.fld _ _ _ (by decide)]
  exact h2

theorem Dev.gIs_congr {u : Dev} (hr : u.role = s.role) (hd : u.gate.dormant = s.gate.dormant) (hs : u.gState = s.gState) (st : Nat) : u.gIs st = s.gIs st := by
  rw [Dev.gIs, Dev.gIs, Dev.awake, Dev.awake, hr, hd, hs]

/-! ### Desaturation -/

/-- A CELL that a desaturation has stopped (R244). -/
def Dev.desatStop (s : Dev) : Dev := ((s.toFault cDesat).raise F.GATE_EVT_DESAT).life 2 1

/-- Its trip is noted (R245). -/
def Dev.desatNote (s : Dev) (cds : Nat) (l : List Nat) : Dev :=
  (({ s with gate := { s.gate with desat := true, trips := l } } : Dev).put F.GATE_STAT_DESAT_N (min 15 l.length)).logEvent 4 (cds % 16)

def desatFlds : List Fld := F.GATE_EVT_DESAT :: F.GATE_STAT_DESAT_N :: blockFlds

theorem Dev.desatStop_spec (h : s.gIs gRun = true) : let u := s.desatStop
    u.gState = gFault ∧ bitOf (u.f F.GATE_STAT_CAUSE) cDesat = true ∧ u.AllOff ∧ u.f F.GATE_EVT_DESAT = 1 ∧ u.gcell = s.gcell ∧
    s.Keeps [.gate] s.out u ∧ s.Leaves desatFlds u := by
  obtain ⟨h1, h2, h3, h4, h5⟩ := Dev.toFault_spec (s := s) (c := cDesat) (by decide) (.inl h)
  have hk : s.Keeps [.gate] s.out s.desatStop := (((Dev.keeps_refl _ s).toFault (by decide) _).raise (by decide) _ _).life (by decide) _ _
  have hl : (s.toFault cDesat).Leaves [F.GATE_EVT_DESAT, F.GATE_LIFE_CNT] s.desatStop := ((Dev.leaves_refl _ _).raise (by decide)).inc (F := F.GATE_LIFE_CNT) _ (by decide)
  have hg : s.desatStop.gcore = (s.toFault cDesat).gcore := (Dev.gcore_inc _ F.GATE_LIFE_CNT _ 2 0).trans (Dev.gcore_raise ..)
  refine ⟨(hl.fld _ _ _ (by decide)).trans h1, ?_, h3.of_gcore hg (hl.fld _ _ _ (by decide)), (Dev.f_inc_clear _ _ _ _ _ _ (by decide)).trans (Dev.f_raise_same ..),
    (Dev.gcell_of_gcore hg).trans h4, hk, (h5.mono (by decide)).next hl (by decide)⟩
  rw [hl.fld _ _ _ (by decide)]
  exact h2

/-- The stop leaves the time and the trips before it. -/
theorem Dev.desatStop_trips (h : s.gIs gRun = true) : s.desatStop.now = s.now ∧ s.desatStop.desatTrips = s.desatTrips := by
  obtain ⟨-, -, -, -, hg, hk, hl⟩ := Dev.desatStop_spec h
  have hnow : s.desatStop.now = s.now := Dev.now_of_time hk.role_eq (hk.2.2.2.2.1 (by decide))
  have ht : s.desatStop.gate.trips = s.gate.trips := show s.desatStop.gcell.trips = s.gcell.trips by rw [hg]
  refine ⟨hnow, ?_⟩
  rw [Dev.desatTrips, hnow, hl.fld _ _ _ (by decide), ht]
  rfl

theorem Dev.desatNote_spec (cds : Nat) (l : List Nat) : let u := s.desatNote cds l
    u.gcore = { s.gcore with desat := true, trips := l } ∧ s.Keeps [.gate] s.out u ∧ s.Leaves (F.GATE_STAT_DESAT_N :: logFlds) u :=
  ⟨(Dev.gcore_logEvent ..).trans (Dev.gcore_put ..), (((Dev.keeps_refl _ s).setGate (by decide) _).put (by decide) _ _ _).logEvent (by decide) _ _,
    (((Dev.leaves_refl _ s).setGate _ (by rfl)).put _ (by decide)).next (Dev.leaves_logEvent _ _ _) (by decide)⟩

theorem Dev.AllOff.desatNote (h : s.AllOff) (cds : Nat) (l : List Nat) : (s.desatNote cds l).AllOff := by
  obtain ⟨hg, -, hl⟩ := Dev.desatNote_spec (s := s) cds l
  obtain ⟨o1, o2, o3, o4, o5, o6⟩ := h
  generalize s.desatNote cds l = u at hg hl
  refine ⟨?_, ?_, ?_, ?_, ?_, (hl.fld _ _ _ (by decide)).trans o6⟩
  · exact (show u.gcore.legA.hi = s.gate.legA.hi by rw [hg]; rfl).trans o1
  · exact (show u.gcore.legA.lo = s.gate.legA.lo by rw [hg]; rfl).trans o2
  · exact (show u.gcore.legB.hi = s.gate.legB.hi by rw [hg]; rfl).trans o3
  · exact (show u.gcore.legB.lo = s.gate.legB.lo by rw [hg]; rfl).trans o4
  · exact (show u.gcore.edges = s.gate.edges by rw [hg]; rfl).trans o5

/-- A CELL after a desaturation, before the limit of trips is judged (R244, R245). -/
def Dev.desatFault (s : Dev) (cds : Nat) : Dev := s.desatStop.desatNote cds (s.now :: s.desatTrips)

theorem Dev.desatFault_spec (cds : Nat) (h : s.gIs gRun = true) : let u := s.desatFault cds
    u.time = s.time ∧ u.gState = gFault ∧ bitOf (u.f F.GATE_STAT_CAUSE) cDesat = true ∧ u.AllOff ∧ u.f F.GATE_EVT_DESAT = 1 ∧ u.gate.trips = s.now :: s.desatTrips ∧
    u.gate.dormant = s.gate.dormant ∧ s.Keeps [.gate] s.out u ∧ s.Leaves desatFlds u := by
  obtain ⟨h1, h2, h3, h4, h5, h6, h7⟩ := Dev.desatStop_spec h
  have h8 := h3.desatNote cds (s.now :: s.desatTrips)
  obtain ⟨hg, hk, hl⟩ := Dev.desatNote_spec (s := s.desatStop) cds (s.now :: s.desatTrips)
  have hk' : s.Keeps [.gate] s.out (s.desatFault cds) := h6.next hk (by decide)
  refine ⟨hk'.2.2.2.2.1 (by decide), (hl.fld _ _ _ (by decide)).trans h1, ?_, h8, (hl.fld _ _ _ (by decide)).trans h4, ?_, ?_, hk', h7.next hl (by decide)⟩
  · rw [Dev.desatFault, hl.fld _ _ _ (by decide)]
    exact h2
  · exact show (s.desatFault cds).gcore.trips = _ by rw [Dev.desatFault, hg]
  · have hd : s.desatStop.gcell.dormant = s.gcell.dormant := by rw [h5]
    exact (show (s.desatFault cds).gcore.dormant = s.desatStop.gate.dormant by rw [Dev.desatFault, hg]; rfl).trans hd

theorem Dev.desatTrip_idle {cds : Nat} (h : s.gIs gRun = false ∨ (s.gate.legA.desat cds 0 || s.gate.legB.desat cds 2) = false) :
    s.desatTrip cds = { s with gate := { s.gate with cds := cds % 16 } } :=
  if_pos (h.imp (fun h => Bool.not_eq_true _ ▸ h) fun h => Bool.not_eq_true _ ▸ h)

/-- The inputs of the desaturation are noted, and time goes on to the trip. -/
def Dev.desatAt (s : Dev) (cds : Nat) : Dev := ({ s with gate := { s.gate with cds := cds % 16 } } : Dev).desatWait cds

theorem Dev.f_beside {g : Gate} (hg : g.regs = s.gate.regs) (o : List Out) (c : Option (Status × Nat)) (G : Fld) (i j : Nat) : (s.beside g o c).f G i j = s.f G i j :=
  Dev.fb_of_regs (u := s.beside g o c) (s := s) rfl (by cases G.blk <;> simp [Dev.regsOf, Dev.beside, hg]) ..

theorem Dev.desatAt_gIs (cds : Nat) : (s.desatAt cds).gIs gRun = s.gIs gRun := by
  have hg : ∀ t, (s.advanceTo t).gate = s.gate := fun t => by
    obtain ⟨x, hx⟩ := s.advanceTo_withTime t
    rw [hx]
  obtain ⟨t, ht⟩ : ∃ t, s.desatAt cds = (s.advanceTo t).beside { s.gate with cds := cds % 16 } s.out s.cpl := ⟨_, s.advanceTo_beside { s.gate with cds := cds % 16 } s.out s.cpl _⟩
  rw [ht]
  refine Dev.gIs_congr (u := (s.advanceTo t).beside { s.gate with cds := cds % 16 } s.out s.cpl) (Dev.advanceTo_role s t) rfl ?_ _
  rw [Dev.gState, Dev.f_beside (by rw [hg]), Dev.advanceTo_f _ _ _ _ (by decide)]
  rfl

theorem Dev.desatTrip_eq {cds : Nat} (hr : s.gIs gRun = true) (hd : (s.gate.legA.desat cds 0 || s.gate.legB.desat cds 2) = true) : s.desatTrip cds =
    let w := s.desatAt cds
    let u := w.desatFault cds
    if w.desatTrips.length + 1 < u.f F.GATE_DESAT_CFG_DESAT_MAX then u else if u.flag F.GATE_CTL_BYP_ON_DESAT then u.fire false 3 else u.raise F.GATE_STAT_DESAT_LOCK := by
  refine (if_neg (not_or.mpr ⟨not_not_intro hr, not_not_intro hd⟩)).trans ?_
  obtain ⟨hn, ht⟩ := Dev.desatStop_trips ((Dev.desatAt_gIs cds).trans hr)
  dsimp only
  rw [Dev.desatFault, ← hn, ← ht]
  rfl

/-- Where the CELL of a command stands when the desaturation trips. -/
theorem Dev.desatAt_begin (s : Dev) (cds : Nat) : let w := s.begin.desatAt cds
    w.time = (s.desatWait cds).time ∧ w.now = (s.desatWait cds).now ∧ w.desatTrips = (s.desatWait cds).desatTrips ∧
    (∀ G : Fld, G.apart F.TIME_INC_INC = true → w.f G = s.f G) ∧ w.role = s.role ∧ w.gate.dormant = s.gate.dormant ∧ s.Keeps [.gate, .time] [] w := by
  intro w
  obtain ⟨t, ht, hv⟩ : ∃ t, w = (s.advanceTo t).beside { s.gate with cds := cds % 16 } [] none ∧ s.desatWait cds = s.advanceTo t :=
    ⟨_, s.advanceTo_beside { s.gate with cds := cds % 16 } [] none _, rfl⟩
  obtain ⟨x, hx⟩ := s.advanceTo_withTime t
  have hnow : w.now = (s.desatWait cds).now := by rw [ht, hv]; exact Dev.now_of_time rfl rfl
  have hf : ∀ G : Fld, w.f G = (s.desatWait cds).f G := fun G => by
    rw [ht, hv]
    exact Dev.f_beside (by rw [hx]) _ _ _ _ _
  refine ⟨by rw [ht, hv]; rfl, hnow, ?_, fun G hG => ?_, by rw [ht]; exact Dev.advanceTo_role .., by rw [ht]; rfl, ?_⟩
  · rw [Dev.desatTrips, Dev.desatTrips, hnow, hf, ht, hv, hx]
    rfl
  · rw [hf, hv]
    exact Dev.advanceTo_f _ _ _ _ hG
  · rw [ht, hx]
    exact ((((Dev.keeps_begin [.gate, .time] s).setGate (by decide) { s.gate with cds := cds % 16 }).setTime (by decide) x))

theorem Dev.canFire_of_awake (h : s.awake = true) : s.canFire false := by
  obtain ⟨h1, h2⟩ := Bool.and_eq_true_iff.mp h
  exact ⟨of_decide_eq_true h1, (Bool.not_eq_true' _).mp h2⟩

/-- What a desaturation does, with the device of the command (R244, R245). -/
theorem Dev.desatTrip_begin (cds : Nat) (hr : s.gIs gRun = true) (hd : (s.gate.legA.desat cds 0 || s.gate.legB.desat cds 2) = true) : ∃ u : Dev,
    (s.begin.desatTrip cds = if (s.desatWait cds).desatTrips.length + 1 < s.f F.GATE_DESAT_CFG_DESAT_MAX then u
      else if s.f F.GATE_CTL_BYP_ON_DESAT ≠ 0 then u.fire false 3 else u.raise F.GATE_STAT_DESAT_LOCK) ∧
    u.time = (s.desatWait cds).time ∧ u.gState = gFault ∧ bitOf (u.f F.GATE_STAT_CAUSE) cDesat = true ∧ u.AllOff ∧ u.f F.GATE_EVT_DESAT = 1 ∧
    u.gate.trips = (s.desatWait cds).now :: (s.desatWait cds).desatTrips ∧ u.canFire false ∧ s.Keeps [.gate, .time] [] u ∧
    (∀ G : Fld, G.apart F.TIME_INC_INC = true → G.clearOf desatFlds = true → u.f G = s.f G) := by
  obtain ⟨w1, w2, w3, w4, w5, w6, w7⟩ := s.desatAt_begin cds
  obtain ⟨u1, u2, u3, u4, u5, u6, u7, u8, u9⟩ := Dev.desatFault_spec cds ((Dev.desatAt_gIs (s := s.begin) cds).trans hr)
  have he := Dev.desatTrip_eq (s := s.begin) (cds := cds) hr hd
  have hf : ∀ G : Fld, G.apart F.TIME_INC_INC = true → G.clearOf desatFlds = true → ((s.begin.desatAt cds).desatFault cds).f G = s.f G := fun G ht hG => by
    rw [← w4 G ht]
    exact u9.fld G 0 0 hG
  obtain ⟨hcell, hdor⟩ := Dev.canFire_of_awake (Dev.gIs_iff.mp hr).1
  have hbyp : ((s.begin.desatAt cds).desatFault cds).flag F.GATE_CTL_BYP_ON_DESAT = decide (s.f F.GATE_CTL_BYP_ON_DESAT ≠ 0) := by
    rw [Dev.flag, hf _ (by decide) (by decide)]
  refine ⟨_, ?_, u1.trans w1, u2, u3, u4, u5, u6.trans (by rw [w2, w3]), ⟨(u8.role_eq.trans w5).trans hcell, (u7.trans w6).trans hdor⟩, w7.next u8 (by decide), hf⟩
  rw [he]
  dsimp only
  rw [w3, hf _ (by decide) (by decide), hbyp]
  simp only [decide_eq_true_eq]

/-! ### The other faults -/

/-- The block action of a CELL in RUN, and what is noted after it (R246). -/
theorem Dev.blocked_spec {c : Nat} (hc : c < 9) (h : s.gIs gRun = true) : let u := s.blockAction c
    u.gState = gBlocked ∧ bitOf (u.f F.GATE_STAT_CAUSE) c = true ∧ u.AllOff ∧ s.Keeps [.gate] s.out u := by
  have hk : s.Keeps [.gate] s.out (s.blockAction c) := (Dev.keeps_refl _ s).blockAction (by decide) _
  rw [Dev.blockAction_eq h] at hk ⊢
  obtain ⟨h1, h2, h3⟩ := Dev.offTo_spec (s := s) (st := gBlocked) (c := c) (by decide) hc
  exact ⟨h1, h2, h3, hk⟩

theorem Dev.cellLaneLoss_spec (h : s.gIs gRun = true) (ha : 3 ≤ Tab.get 0 s.proto.miss 64) (hb : 3 ≤ Tab.get 0 s.proto.miss 65) : let u := s.cellLaneLoss
    u.gState = gBlocked ∧ bitOf (u.f F.GATE_STAT_CAUSE) cLane = true ∧ u.AllOff ∧ u.f F.GATE_EVT_LANE_LOSS = 1 ∧ s.Keeps [.gate] s.out u := by
  obtain ⟨h1, h2, h3, h4⟩ := Dev.blocked_spec (c := cLane) (by decide) h
  have hl : (s.blockAction cLane).Leaves (F.GATE_EVT_LANE_LOSS :: logFlds) (((s.blockAction cLane).raise F.GATE_EVT_LANE_LOSS).logEvent 6 0) :=
    ((Dev.leaves_refl _ _).raise (by decide)).next (Dev.leaves_logEvent _ _ _) (by decide)
  rw [Dev.cellLaneLoss, if_pos ⟨(Dev.gIs_iff.mp h).1, ha, hb⟩]
  refine ⟨(hl.fld _ _ _ (by decide)).trans h1, ?_, (h3.raise (by decide) _ _).logEvent _ _, ((Dev.leaves_logEvent _ _ _).fld _ _ _ (by decide)).trans (Dev.f_raise_same ..),
    (h4.raise (by decide) _ _).logEvent (by decide) _ _⟩
  rw [hl.fld _ _ _ (by decide)]
  exact h2

theorem Dev.planeLost_spec (h : s.gIs gRun = true) (hn : 64 ≤ s.gate.lost) (ha : s.candidate 64 = false) (hb : s.candidate 65 = false) : let u := s.planeLost
    u.gState = gBlocked ∧ bitOf (u.f F.GATE_STAT_CAUSE) cLane = true ∧ u.AllOff ∧ s.Keeps [.gate] s.out u := by
  obtain ⟨h1, h2, h3, h4⟩ := Dev.blocked_spec (c := cLane) (by decide) h
  have hl := Dev.leaves_logEvent (s.blockAction cLane) 6 0
  rw [Dev.planeLost, if_pos ⟨h, hn, by simp [ha], by simp [hb]⟩]
  refine ⟨(hl.fld _ _ _ (by decide)).trans h1, ?_, h3.logEvent _ _, h4.logEvent (by decide) _ _⟩
  rw [hl.fld _ _ _ (by decide)]
  exact h2

theorem Dev.vsense_eq (h : 16 ≤ s.gate.xchk) : s.vsense = (s.toFault cVsense).logEvent 0x0B 0 := if_pos h

theorem Dev.ovx_spec (h : s.canFire false) (hn : 4 ≤ s.gate.ovxN) (ha : s.awake = true) (he : s.f F.GATE_CTL_OVX_EN ≠ 0) (hf : s.f F.GATE_BYP_STAT_FIRED = 0) : let u := s.ovx
    u.f F.GATE_BYP_STAT_FIRED = 1 ∧ u.f F.GATE_BYP_STAT_FIRST_Y = 0 ∧ bitOf (u.f F.GATE_BYP_STAT_X_CAUSE) 2 = true ∧ u.gState = gBypassed ∧ u.AllOff := by
  obtain ⟨h1, h2, -, h3, h4, h5, -⟩ := Dev.fire_spec (s := s) (y := false) (cause := 2) h hf (by decide)
  obtain ⟨-, hd⟩ := h
  have hl : (s.fire false 2).Leaves [F.GATE_LIFE_CNT] ((s.fire false 2).life 5 1) := (Dev.leaves_refl _ _).inc _ (by decide)
  rw [Dev.ovx, if_pos ⟨hn, ha, decide_eq_true he⟩]
  refine ⟨(hl.fld _ _ _ (by decide)).trans h1, (hl.fld _ _ _ (by decide)).trans h2, ?_, (hl.fld _ _ _ (by decide)).trans (h5 hd), h4.inc (G := F.GATE_LIFE_CNT) (by decide) _ _ _⟩
  rw [hl.fld _ _ _ (by decide)]
  exact h3

end

/-! ### O27 -/

/-- Settles O27. -/
theorem cellFaultActions : Obligations.CellFaultActions := by
  intro s d off conducting
  have hcond : ∀ lv, (s.dev.gate.legA.desat lv 0 || s.dev.gate.legB.desat lv 2) = conducting lv := fun lv => (Bool.or_assoc ..).symm
  refine ⟨?_, ?_, ?_, fun lv h => ?_, fun hr ha hb => ?_, fun h => ?_, fun hr hn ha hb => ?_, fun h => ?_, fun hx h => ?_, fun hx h => ?_, fun h => ?_, fun hn ha he hf => ?_, fun h => ?_⟩
  · intro lv w hr hc hn
    obtain ⟨u, he, u1, u2, u3, u4, u5, u6, -, u8, hf⟩ := Dev.desatTrip_begin lv hr ((hcond lv).trans hc)
    exact (s.runs_desatTrip.of_eq (he.trans (if_pos hn))).does ⟨u1, u2, u3, u4, u5, u6, by rw [hf _ (by decide) (by decide)], by rw [hf _ (by decide) (by decide)], u8⟩
  · intro lv hr hc hn hb
    obtain ⟨u, he, u1, u2, u3, u4, u5, u6, -, u8, hf⟩ := Dev.desatTrip_begin lv hr ((hcond lv).trans hc)
    refine (s.runs_desatTrip.of_eq (he.trans ((if_neg (by omega)).trans (if_neg (not_not_intro hb))))).does ⟨?_, u4.raise (by decide) _ _, Dev.f_raise_same ..⟩
    exact (Dev.f_raise_clear _ _ _ _ _ (by decide)).trans u2
  · intro lv hr hc hn hb hf0
    obtain ⟨u, he, u1, u2, u3, u4, u5, u6, hcan, u8, hf⟩ := Dev.desatTrip_begin lv hr ((hcond lv).trans hc)
    obtain ⟨x1, -, -, x4, x5, x6, -⟩ := Dev.fire_spec (cause := 3) hcan (by rw [hf _ (by decide) (by decide)]; exact hf0) (by decide)
    obtain ⟨-, hdor⟩ := hcan
    exact (s.runs_desatTrip.of_eq (he.trans ((if_neg (by omega)).trans (if_pos hb)))).does ⟨x6 hdor, x5, x1, x4⟩
  · exact s.runs_desatTrip.of_eq (Dev.desatTrip_idle (h.imp_right (hcond lv).trans))
  · obtain ⟨h1, h2, h3, h4, h5⟩ := Dev.cellLaneLoss_spec (s := d) hr ha hb
    exact s.runs_cellLaneLoss.does ⟨h1, h2, h3, h4, h5.of_begin⟩
  · refine s.runs_cellLaneLoss.of_eq (if_neg ?_)
    rintro ⟨ha, h1, h2⟩
    rcases h with h | h | h
    · exact Bool.false_ne_true (h.symm.trans ha)
    · exact absurd h1 (Nat.not_le.mpr h)
    · exact absurd h2 (Nat.not_le.mpr h)
  · obtain ⟨h1, h2, h3, h4⟩ := Dev.planeLost_spec (s := d) hr hn ha hb
    exact s.runs_followedPlaneLost.does ⟨h1, h2, h3, h4.of_begin⟩
  · refine s.runs_followedPlaneLost.of_eq (if_neg ?_)
    rintro ⟨hr, hn, ha, hb⟩
    rcases h with h | h | h | h
    · exact Bool.false_ne_true (h.symm.trans hr)
    · exact absurd hn (Nat.not_le.mpr h)
    · exact ha h
    · exact hb h
  · obtain ⟨h1, h2, h3, h4⟩ := Dev.toFault_logged (s := d) (c := cVsense) (by decide) h 0x0B 0
    exact (s.runs_vsense.of_eq (Dev.vsense_eq hx)).does ⟨h1, h2, h3, h4.of_begin⟩
  · obtain ⟨h1, h2, h3⟩ := Dev.toFault_again_logged (s := d) (c := cVsense) (by decide) h 0x0B 0
    exact (s.runs_vsense.of_eq (Dev.vsense_eq hx)).does ⟨h1, h2, h3.of_begin⟩
  · exact s.runs_vsense.of_eq (if_neg (Nat.not_le.mpr h))
  · exact s.runs_ovx.does (Dev.ovx_spec (s := d) (Dev.canFire_of_awake ha) hn ha he hf)
  · refine s.runs_ovx.of_eq (if_neg ?_)
    rintro ⟨hn, ha, he⟩
    rcases h with h | h | h
    · exact absurd hn (Nat.not_le.mpr h)
    · exact Bool.false_ne_true (h.symm.trans ha)
    · exact of_decide_eq_true he h

end Sys2Proof.Machine
end

section
/-! The bypass of a CELL (R254 to R257), and O28. -/

namespace Sys2Proof.Machine

section
variable {s : Dev}

/-- A block that serves a write is powered in the role of a device that is not DORMANT. -/
theorem Dev.on_of_ok {b : Blk} {o : Nat} (h : s.blockStatus b o = .ok) : blkOn s.role b = true ∧ s.gate.dormant = false := by
  refine ⟨Decidable.of_not_not fun hn => ?_, Bool.not_eq_true _ ▸ fun hn => ?_⟩
  · exact absurd (h.symm.trans (if_pos (.inr (.inr (.inr (.inl hn)))))) (by decide)
  · exact absurd (h.symm.trans (if_pos (.inr (.inl hn)))) (by decide)

/-- GATE serves writes in a CELL that is not DORMANT. -/
theorem Dev.cell_of_ok {o : Nat} (h : s.blockStatus .gate o = .ok) : s.role = .cell ∧ s.gate.dormant = false := by
  obtain ⟨hb, hd⟩ := Dev.on_of_ok h
  refine ⟨?_, hd⟩
  revert hb
  cases s.role <;> decide

/-! ### Channel Y -/

theorem Dev.channelY_idle (h : s.role ≠ .cell ∨ s.gate.yOn = false ∨ s.f F.GATE_BYP_STAT_FIRED ≠ 0) : s.channelY = s := by
  by_cases hc : s.canFire true
  · obtain ⟨hr, hy⟩ := hc
    have hf : s.f F.GATE_BYP_STAT_FIRED ≠ 0 := h.resolve_left (not_not_intro hr) |>.resolve_left fun h => Bool.false_ne_true (h.symm.trans hy)
    exact Dev.fire_again ⟨hr, hy⟩ hf
  · refine if_pos ?_
    by_cases hr : s.role = .cell
    · exact .inr fun hy => hc ⟨hr, hy⟩
    · exact .inl hr

/-- The first firing of channel Y (R254, R255). -/
theorem Dev.channelY_spec (hr : s.role = .cell) (hy : s.gate.yOn = true) (hf : s.f F.GATE_BYP_STAT_FIRED = 0) : let u := s.channelY
    u.f F.GATE_BYP_STAT_FIRED = 1 ∧ u.f F.GATE_BYP_STAT_FIRST_Y = 1 ∧ u.f F.GATE_BYP_STAT_X_CAUSE = s.f F.GATE_BYP_STAT_X_CAUSE ∧ u.f F.GATE_EVT_BYP_FIRED = 1 ∧
    (s.f F.GATE_BYP_Y_CFG_MODE = 0 → u.gate.bypY = true) ∧
    (s.gate.dormant = false → u.gate.fired = 3 ∧ u.gState = gBypassed ∧ (s.f F.GATE_BYP_CFG_MODE = 0 → u.gate.bypX = true)) ∧
    (s.gate.dormant = true → u.gate.fired = 2 ∧ u.gate.bypX = s.gate.bypX ∧ u.gState = s.gState) ∧ (s.otpBits < 32 → u.gate.otpDue = s.gate.otpDue + 1) ∧
    ∃ outs, s.Keeps [.gate] (outs ++ s.out) u ∧ (s.f F.GATE_BYP_Y_CFG_MODE ≠ 0 → Out.bypPulse 1 ∈ outs) ∧
      (s.gate.dormant = false → s.f F.GATE_BYP_CFG_MODE ≠ 0 → Out.bypPulse 0 ∈ outs) ∧ (s.gate.dormant = true → Out.bypPulse 0 ∉ outs) := by
  obtain ⟨h1, h2, h3, h4, -, h5, h6, ⟨outs, o1, o2, o3, o4⟩, hg⟩ := Dev.fire_spec (s := s) (y := true) (cause := 0) ⟨hr, hy⟩ hf (by decide)
  have hX : s.f F.GATE_BYP_CFG_MODE = 0 → s.pulseMode false = false := fun h => Bool.not_eq_true _ ▸ Dev.flag_false h
  have hY : s.f F.GATE_BYP_Y_CFG_MODE = 0 → s.pulseMode true = false := fun h => Bool.not_eq_true _ ▸ Dev.flag_false h
  have gf : (s.channelY).gate.fired = (s.gcell.firedFrom s.otpBits (s.pulseMode false) (s.pulseMode true)).fired := by rw [← hg]; rfl
  have gx : (s.channelY).gate.bypX = (s.gate.bypX || (!s.gate.dormant && !s.pulseMode false)) := show (s.fire true 0).gcell.bypX = _ by rw [hg]; rfl
  have gy : (s.channelY).gate.bypY = (s.gate.bypY || !s.pulseMode true) := show (s.fire true 0).gcell.bypY = _ by rw [hg]; rfl
  have gd : (s.channelY).gate.otpDue = if s.otpBits < 32 then s.gate.otpDue + 1 else s.gate.otpDue := show (s.fire true 0).gcell.otpDue = _ by rw [hg]; rfl
  have hfd : (s.channelY).gate.fired = if s.gate.dormant then 2 else 3 := gf
  refine ⟨h1, h2, h4, h3, fun hm => ?_, fun hd => ⟨?_, h5 hd, fun hm => ?_⟩, fun hd => ⟨?_, ?_, h6 hd⟩, fun hb => gd.trans (if_pos hb),
    outs, o1, fun hm => o2 (decide_eq_true hm), fun hd hm => o3 hd (decide_eq_true hm), o4⟩
  · rw [gy, hY hm, Bool.not_false, Bool.or_true]
  · rw [hfd, hd]; rfl
  · rw [gx, hd, hX hm, Bool.not_false, Bool.and_true, Bool.or_true]
  · rw [hfd, hd]; rfl
  · rw [gx, hd, Bool.not_true, Bool.false_and, Bool.or_false]

/-! ### The maintenance commands -/

theorem Dev.maintFire_spec (h : s.canFire false) (hf : s.f F.GATE_BYP_STAT_FIRED = 0) : let u := s.fire false 1
    u.f F.GATE_BYP_STAT_FIRED = 1 ∧ u.f F.GATE_BYP_STAT_FIRST_Y = 0 ∧ bitOf (u.f F.GATE_BYP_STAT_X_CAUSE) 1 = true ∧ u.gState = gBypassed ∧ u.gate.fired = 3 := by
  obtain ⟨h1, h2, -, h4, -, h5, -, -, hg⟩ := Dev.fire_spec (s := s) (y := false) (cause := 1) h hf (by decide)
  obtain ⟨-, hd⟩ := h
  have gf : (s.fire false 1).gate.fired = if s.gate.dormant then 2 else 3 := show (s.fire false 1).gcell.fired = _ by rw [hg]; rfl
  have hd : s.gate.dormant = false := hd
  exact ⟨h1, h2, h4, h5 hd, gf.trans (by rw [hd]; rfl)⟩

theorem Dev.maintKey2_none (h : s.gate.key1 = none) : s.maintKey2 = (.invalid, s) := by simp only [Dev.maintKey2, h, Dev.deny]

/-- A fired bypass is set back (R257). -/
def Dev.unfired (s : Dev) : Dev :=
  let s := { s with gate := { s.gate with fired := 0, bypX := false, bypY := false, otpDue := s.gate.otpDue + 1 } }
  let s := ((s.put F.GATE_BYP_STAT_FIRED 0).put F.GATE_BYP_STAT_FIRST_Y 0).put F.GATE_BYP_STAT_X_CAUSE 0
  s.put F.GATE_BYP_STAT_OTP_DONE 0

theorem Dev.unfired_spec : s.unfired.gcell = { s.gcell with fired := 0, bypX := false, bypY := false, otpDue := s.gate.otpDue + 1 } ∧
    s.unfired.f F.GATE_BYP_STAT_FIRED = 0 ∧ s.Keeps [.gate] s.out s.unfired := by
  refine ⟨Dev.gcell_of_gcore ((Dev.gcore_put ..).trans ((Dev.gcore_put ..).trans ((Dev.gcore_put ..).trans (Dev.gcore_put ..)))), ?_,
    (((((Dev.keeps_refl _ s).setGate (by decide) _).put (by decide) _ _ _).put (by decide) _ _ _).put (by decide) _ _ _).put (by decide) _ _ _⟩
  rw [Dev.unfired, Dev.f_put_clear _ _ _ _ _ _ (by decide), Dev.f_put_clear _ _ _ _ _ _ (by decide), Dev.f_put_clear _ _ _ _ _ _ (by decide)]
  exact Dev.f_put_same ..

/-- The cell is READY again with its gates off. -/
theorem Dev.readyAgain_spec : let u := ((s.gatesOff.gatesDrive true).toState gReady).logEvent 8 0
    u.gcell = s.gcell ∧ u.gState = gReady ∧ u.AllOff ∧ s.Keeps [.gate] s.out u ∧ s.Leaves blockFlds u := by
  refine ⟨?_, ((Dev.leaves_logEvent _ _ _).fld _ _ _ (by decide)).trans (Dev.gState_toState _ (by decide)), ((s.allOff_gatesOff.gatesDrive true).toState _).logEvent _ _,
    ((((Dev.keeps_refl _ s).gatesOff (by decide)).gatesDrive (by decide) _).toState (by decide) _).logEvent (by decide) _ _,
    (((s.leaves_gatesOff.mono (by decide)).trans (Dev.leaves_gatesDrive _ _ _)).next (Dev.leaves_toState _ _) (by decide)).next (Dev.leaves_logEvent _ _ _) (by decide)⟩
  exact (Dev.gcell_of_gcore ((Dev.gcore_logEvent ..).trans (Dev.gcore_toState ..))).trans ((Dev.gcell_gatesDrive _).trans Dev.gcell_gatesOff)

/-- A fired bypass is set back, and the cell is READY again (R257). -/
def Dev.bypReset (s : Dev) : Dev := ((s.unfired.gatesOff.gatesDrive true).toState gReady).logEvent 8 0

theorem Dev.bypReset_spec : let u := s.bypReset
    u.f F.GATE_BYP_STAT_FIRED = 0 ∧ u.gate.fired = 0 ∧ u.gate.bypX = false ∧ u.gate.bypY = false ∧ u.gate.otpDue = s.gate.otpDue + 1 ∧ u.gState = gReady ∧
    u.f F.GATE_STAT_POS = pBlocked ∧ s.Keeps [.gate] s.out u := by
  obtain ⟨a1, a2, a3⟩ := Dev.unfired_spec (s := s)
  obtain ⟨b1, b2, ⟨-, -, -, -, -, hpos⟩, b4, b5⟩ := Dev.readyAgain_spec (s := s.unfired)
  have hg : s.bypReset.gcell = { s.gcell with fired := 0, bypX := false, bypY := false, otpDue := s.gate.otpDue + 1 } := b1.trans a1
  have g1 : s.bypReset.gcell.fired = 0 := by rw [hg]
  have g2 : s.bypReset.gcell.bypX = false := by rw [hg]
  have g3 : s.bypReset.gcell.bypY = false := by rw [hg]
  have g4 : s.bypReset.gcell.otpDue = s.gate.otpDue + 1 := by rw [hg]
  have h0 : s.bypReset.f F.GATE_BYP_STAT_FIRED = 0 := (b5.fld _ 0 0 (by decide)).trans a2
  have hk : s.Keeps [.gate] s.out s.bypReset := a3.next b4 (by decide)
  have hst : s.bypReset.gState = gReady := b2
  have hp : s.bypReset.f F.GATE_STAT_POS = pBlocked := hpos
  generalize s.bypReset = u at g1 g2 g3 g4 h0 hk hst hp
  exact ⟨h0, g1, g2, g3, g4, hst, hp, hk⟩

/-- The second key, with the first at `t` (R257). -/
theorem Dev.maintKey2_some {t : Nat} (h : s.gate.key1 = some t) : s.maintKey2 =
    if t + 10 ^ 6 < s.now then (.invalid, s) else if ¬ s.gIs gBypassed ∨ s.f F.GATE_BYP_CFG_MAINT_VMAX ≤ s.vcapNow ∨ 30 < s.otpBits then (.denied, s)
    else (.ok, s.bypReset) := by
  unfold Dev.bypReset Dev.unfired
  rw [Dev.maintKey2, h]

/-! ### OTP bits and pulses -/

theorem Dev.otpRecord_spec (h : s.gate.otpDue ≠ 0) (hu : s.f F.GATE_BYP_STAT_OTP_USED < 32) : let u := s.otpRecord
    u.gate.otpDue = s.gate.otpDue - 1 ∧ u.f F.GATE_BYP_STAT_OTP_USED = s.f F.GATE_BYP_STAT_OTP_USED + 1 ∧ u.otpBits = s.otpBits ∧ s.Keeps [.gate] s.out u := by
  intro u
  have he : u = (({ s with gate := { s.gate with otpDue := s.gate.otpDue - 1 } } : Dev).put F.GATE_BYP_STAT_OTP_USED (s.f F.GATE_BYP_STAT_OTP_USED + 1)).put F.GATE_BYP_STAT_OTP_DONE
      ((({ s with gate := { s.gate with otpDue := s.gate.otpDue - 1 } } : Dev).put F.GATE_BYP_STAT_OTP_USED (s.f F.GATE_BYP_STAT_OTP_USED + 1)).f F.GATE_BYP_STAT_FIRED) := if_neg h
  have hg : u.gcore = { s.gcore with otpDue := s.gate.otpDue - 1 } := by rw [he]; exact (Dev.gcore_put ..).trans (Dev.gcore_put ..)
  have h1 : u.gate.otpDue = s.gate.otpDue - 1 := show u.gcore.otpDue = _ by rw [hg]
  have h2 : u.f F.GATE_BYP_STAT_OTP_USED = s.f F.GATE_BYP_STAT_OTP_USED + 1 := by
    rw [he, Dev.f_put_clear _ _ _ _ _ _ (by decide), Dev.f_put_same]
    exact Nat.mod_eq_of_lt (show _ < 2 ^ 6 by omega)
  refine ⟨h1, h2, ?_, ?_⟩
  · rw [Dev.otpBits, Dev.otpBits, h1, h2]
    omega
  · rw [he]
    exact (((Dev.keeps_refl _ s).setGate (by decide) _).put (by decide) _ _ _).put (by decide) _ _ _
end

/-! ### O28 -/

/-- Settles O28. -/
theorem cellBypassChannels : Obligations.CellBypassChannels := by
  intro s d
  refine ⟨fun h => s.runs_channelYFire.of_eq (Dev.channelY_idle (s := d) h), fun hr hy hf => ?_, fun hok => ?_, fun h => s.runs_otpBypassRecord.of_eq (if_pos h), fun h hu => ?_, fun y => ?_⟩
  · obtain ⟨h1, h2, h3, h4, h5, h6, h7, h8, outs, hk, o1, o2, o3⟩ := Dev.channelY_spec (s := d) hr hy hf
    have ho : d.channelY.out = outs := hk.out_eq.trans (List.append_nil _)
    refine s.runs_channelYFire.does ⟨h1, h2, h3, h4, h5, fun hm => ho ▸ o1 hm, fun hd => ?_, fun hd => ?_, h8, ?_⟩
    · obtain ⟨a, b, c⟩ := h6 hd
      exact ⟨a, b, c, fun hm => ho ▸ o2 hd hm⟩
    · obtain ⟨a, b, c⟩ := h7 hd
      exact ⟨a, b, c, ho ▸ o3 hd⟩
    · rw [hk.out_eq]
      exact hk.of_begin
  · obtain ⟨hr, hd⟩ := Dev.cell_of_ok hok
    have hcan : d.canFire false := ⟨hr, hd⟩
    have hfire : s.Runs .maintFire ((d.fire false 1).complete .ok) := s.runs_maintFire.of_eq (congrArg Acted.dev (Dev.served_begin hok _))
    have hkey : s.Runs .key2 (Acted.dev d.maintKey2) := s.runs_key2.of_eq (congrArg Acted.dev (Dev.served_begin hok _))
    refine ⟨fun _ hf => ?_, fun hf => ?_, s.runs_key1.of_eq (congrArg Acted.dev (Dev.served_begin hok _)), fun h => ?_, fun t ht => ⟨fun hl => ?_, fun hl hc => ?_, fun hl hb hv ho => ?_⟩⟩
    · obtain ⟨h1, h2, h3, h4, h5⟩ := Dev.maintFire_spec hcan hf
      exact hfire.does ⟨rfl, h1, h2, h3, h4, h5⟩
    · exact hfire.of_eq (congrArg (·.complete .ok) (Dev.fire_again hcan hf))
    · exact hkey.of_eq (congrArg Acted.dev (Dev.maintKey2_none (s := d) h))
    · exact hkey.of_eq (congrArg Acted.dev ((Dev.maintKey2_some (s := d) ht).trans (if_pos hl)))
    · refine hkey.of_eq (congrArg Acted.dev ((Dev.maintKey2_some (s := d) ht).trans ((if_neg (Nat.not_lt.mpr hl)).trans (if_pos ?_))))
      exact hc.imp_left fun h => Bool.not_eq_true _ ▸ h
    · have hno : ¬ (¬ d.gIs gBypassed = true ∨ d.f F.GATE_BYP_CFG_MAINT_VMAX ≤ d.vcapNow ∨ 30 < d.otpBits) :=
        not_or.mpr ⟨not_not_intro hb, not_or.mpr ⟨Nat.not_le.mpr hv, Nat.not_lt.mpr ho⟩⟩
      have he : d.maintKey2 = (.ok, d.bypReset) := (Dev.maintKey2_some (s := d) ht).trans ((if_neg (Nat.not_lt.mpr hl)).trans (if_neg hno))
      obtain ⟨h1, h2, h3, h4, h5, h6, h7, h8⟩ := Dev.bypReset_spec (s := d)
      have hrun := hkey
      rw [he, Acted.dev] at hrun
      dsimp only at hrun
      generalize d.bypReset = u at h1 h2 h3 h4 h5 h6 h7 h8 hrun
      exact hrun.does ⟨rfl, h1, h2, h3, h4, h5, h6, h7, h8.of_begin⟩
  · obtain ⟨h1, h2, h3, h4⟩ := Dev.otpRecord_spec (s := d) h hu
    exact s.runs_otpBypassRecord.does ⟨h1, h2, h3, h4.of_begin⟩
  · intro pulse on
    have hm : (if y then d.flag F.GATE_BYP_Y_CFG_MODE else d.flag F.GATE_BYP_CFG_MODE) = true ↔ pulse := by cases y <;> exact decide_eq_true_iff
    have ho : (if y then d.gate.yOn else !d.gate.dormant) = true ↔ on := Iff.rfl
    refine ⟨fun hr hf hp hon => s.runs_bypassPulse.of_eq (if_pos ⟨hr, decide_eq_true hf, hm.mpr hp, hon⟩), fun h => s.runs_bypassPulse.of_eq (if_neg ?_)⟩
    rintro ⟨h1, h2, h3, h4⟩
    rcases h with h | h | h | h
    · exact h h1
    · exact of_decide_eq_true h2 h
    · exact h (hm.mp h3)
    · exact h h4

end Sys2Proof.Machine
end

section
/-! The auxiliary supply of a CELL and the end of WAKING (R251 to R253, R259), and O29. -/

namespace Sys2Proof.Machine

section
variable {s : Dev}

/-! ### The switching period -/

theorem Dev.auxSw_put (G : Fld) (x i j : Nat) : (s.put G x i j).gate.auxSw = s.gate.auxSw :=
  show (s.put G x i j).gcore.auxSw = s.gcore.auxSw by rw [Dev.gcore_put]

theorem Dev.ssN_put (G : Fld) (x i j : Nat) : (s.put G x i j).gate.ssN = s.gate.ssN :=
  show (s.put G x i j).gcore.ssN = s.gcore.ssN by rw [Dev.gcore_put]

/-- The pair is taken (R252). -/
def Dev.auxTake (s : Dev) : Dev :=
  let v := (s.xferReg F.regGateAuxTon).xferReg F.regGateAuxPer
  ((v.put F.GATE_AUX_STAT_PER (s.f F.GATE_AUX_PER_PER)).put F.GATE_AUX_STAT_TAG (s.f F.GATE_AUX_TON_TAG)).put F.GATE_AUX_STAT_STALE 0

/-- The pair is not taken (R252). -/
def Dev.auxKeep (s : Dev) : Dev := (s.raise F.GATE_AUX_STAT_STALE).raise F.GATE_EVT_AUX_STALE

theorem Dev.auxTake_spec : let u := s.auxTake
    u.f F.GATE_AUX_STAT_STALE = 0 ∧ u.fi F.GATE_AUX_TON_TON = s.f F.GATE_AUX_TON_TON % 2 ^ 16 ∧ u.fi F.GATE_AUX_PER_PER = s.f F.GATE_AUX_PER_PER % 2 ^ 16 ∧
    u.f F.GATE_EVT_AUX_STALE = s.f F.GATE_EVT_AUX_STALE ∧ u.f F.GATE_AUX_CFG0_SS = s.f F.GATE_AUX_CFG0_SS ∧ u.gate.ssN = s.gate.ssN ∧ s.Keeps [.gate] s.out u := by
  have hv : s.auxTake = ((((((s.xfer F.GATE_AUX_TON_TAG).xfer F.GATE_AUX_TON_TON).xfer F.GATE_AUX_PER_TAG).xfer F.GATE_AUX_PER_PER).put F.GATE_AUX_STAT_PER (s.f F.GATE_AUX_PER_PER)).put
      F.GATE_AUX_STAT_TAG (s.f F.GATE_AUX_TON_TAG)).put F.GATE_AUX_STAT_STALE 0 := rfl
  have hx : ∀ (v : Dev) (F G : Fld) (b : Nat), G.apart F = true → (v.xfer F).fb G b 0 0 = v.fb G b 0 0 := fun v F G b h => Dev.fb_putb_apart _ _ _ _ _ _ _ _ h
  have hp : ∀ (v : Dev) (F G : Fld) (x b : Nat), G.apart F = true → (v.put F x).fb G b 0 0 = v.fb G b 0 0 := fun v F G x b h => Dev.fb_put_apart _ _ _ _ _ _ _ h
  have hf : ∀ (v : Dev) (F G : Fld), G.apart F = true → (v.xfer F).f G = v.f G := fun v F G h => hx v F G 0 h
  refine ⟨Dev.f_put_same .., ?_, ?_, ?_, ?_, ?_, ?_⟩
  · rw [hv, Dev.fi, hp _ _ _ _ _ (by decide), hp _ _ _ _ _ (by decide), hp _ _ _ _ _ (by decide), hx _ _ _ _ (by decide), hx _ _ _ _ (by decide)]
    exact (Dev.fb_putb_same ..).trans (by rw [hf _ _ _ (by decide)]; rfl)
  · rw [hv, Dev.fi, hp _ _ _ _ _ (by decide), hp _ _ _ _ _ (by decide), hp _ _ _ _ _ (by decide)]
    exact (Dev.fb_putb_same ..).trans (by rw [hf _ _ _ (by decide), hf _ _ _ (by decide), hf _ _ _ (by decide)]; rfl)
  · rw [hv, Dev.f, hp _ _ _ _ _ (by decide), hp _ _ _ _ _ (by decide), hp _ _ _ _ _ (by decide), hx _ _ _ _ (by decide), hx _ _ _ _ (by decide), hx _ _ _ _ (by decide), hx _ _ _ _ (by decide)]
    rfl
  · rw [hv, Dev.f, hp _ _ _ _ _ (by decide), hp _ _ _ _ _ (by decide), hp _ _ _ _ _ (by decide), hx _ _ _ _ (by decide), hx _ _ _ _ (by decide), hx _ _ _ _ (by decide), hx _ _ _ _ (by decide)]
    rfl
  · have hg : s.auxTake.gcore = s.gcore := by
      rw [hv]
      exact (Dev.gcore_put ..).trans ((Dev.gcore_put ..).trans ((Dev.gcore_put ..).trans ((Dev.gcore_setRegs ..).trans ((Dev.gcore_setRegs ..).trans ((Dev.gcore_setRegs ..).trans (Dev.gcore_setRegs ..))))))
    exact show s.auxTake.gcore.ssN = s.gcore.ssN by rw [hg]
  · rw [hv]
    exact (((((((Dev.keeps_refl _ s).putb (G := F.GATE_AUX_TON_TAG) (by decide) _ _ _ _).putb (G := F.GATE_AUX_TON_TON) (by decide) _ _ _ _).putb (G := F.GATE_AUX_PER_TAG) (by decide) _ _ _ _).putb
      (G := F.GATE_AUX_PER_PER) (by decide) _ _ _ _).put (by decide) _ _ _).put (by decide) _ _ _).put (by decide) _ _ _

theorem Dev.auxKeep_spec : let u := s.auxKeep
    u.f F.GATE_AUX_STAT_STALE = 1 ∧ u.f F.GATE_EVT_AUX_STALE = 1 ∧ u.fi F.GATE_AUX_TON_TON = s.fi F.GATE_AUX_TON_TON ∧ u.fi F.GATE_AUX_PER_PER = s.fi F.GATE_AUX_PER_PER ∧
    u.f F.GATE_AUX_CFG0_SS = s.f F.GATE_AUX_CFG0_SS ∧ u.gate.ssN = s.gate.ssN ∧ s.Keeps [.gate] s.out u := by
  have hr : ∀ (v : Dev) (F G : Fld), G.apart F = true → (v.raise F).fi G = v.fi G := fun v F G h => (Dev.befall_fb ..).trans (Dev.fb_put_apart _ _ _ _ _ _ _ h)
  refine ⟨(Dev.f_raise_clear _ _ _ _ _ (by decide)).trans (Dev.f_raise_same ..), Dev.f_raise_same .., (hr _ _ _ (by decide)).trans (hr _ _ _ (by decide)),
    (hr _ _ _ (by decide)).trans (hr _ _ _ (by decide)), (Dev.f_raise_clear _ _ _ _ _ (by decide)).trans (Dev.f_raise_clear _ _ _ _ _ (by decide)), ?_,
    ((Dev.keeps_refl _ s).raise (by decide) _ _).raise (by decide) _ _⟩
  exact show s.auxKeep.gcore.ssN = s.gcore.ssN by rw [Dev.auxKeep, Dev.gcore_raise, Dev.gcore_raise]

/-- A period begins with an on-time, which rises through the soft start (R253). -/
def Dev.auxPeriod (s : Dev) : Dev :=
  let full := s.fi F.GATE_AUX_TON_TON
  let lo := s.f F.GATE_AUX_LIM_TON_MIN
  let n := s.f F.GATE_AUX_CFG0_SS
  let k := s.gate.ssN
  let ton : Int := if k < n then (lo : Int) + ((full : Int) - (lo : Int)) * (k : Int) / (n : Int) else full
  ({ s with gate := { s.gate with auxSw := true, ssN := k + 1 } }).put F.GATE_AUX_STAT_TON ton.toNat

theorem Dev.auxPeriod_spec : let u := s.auxPeriod
    u.gate.auxSw = true ∧ u.gate.ssN = s.gate.ssN + 1 ∧ (s.f F.GATE_AUX_CFG0_SS ≤ s.gate.ssN → u.f F.GATE_AUX_STAT_TON = s.fi F.GATE_AUX_TON_TON % 2 ^ 16) ∧
    (∀ (G : Fld) (b : Nat), G.apart F.GATE_AUX_STAT_TON = true → u.fb G b 0 0 = s.fb G b 0 0) ∧ s.Keeps [.gate] s.out u := by
  have hb : ∀ (x : Gate) (G : Fld) (b : Nat), x.regs = s.gate.regs → ({ s with gate := x } : Dev).fb G b 0 0 = s.fb G b 0 0 := fun x G b hx =>
    Dev.fb_of_regs (u := { s with gate := x }) (s := s) rfl (by cases G.blk <;> simp [Dev.regsOf, hx]) ..
  rw [Dev.auxPeriod]
  refine ⟨?_, ?_, fun h => ?_, fun G b hG => (Dev.fb_put_apart _ _ _ _ _ _ _ hG).trans (hb _ _ _ rfl), ((Dev.keeps_refl _ s).setGate (by decide) _).put (by decide) _ _ _⟩
  · rw [Dev.auxSw_put]
  · rw [Dev.ssN_put]
  · rw [Dev.f_put_same, if_neg (Nat.not_lt.mpr h)]
    rfl

theorem Dev.auxBoundary_eq (ha : s.awake = true) (hr : s.f F.GATE_AUX_STAT_RUNNING ≠ 0) : s.auxBoundary =
    if s.vcapNow * 2 < s.f F.GATE_AUX_CFG0_VSTART then s.auxStop
    else (if s.f F.GATE_AUX_TON_TAG = s.f F.GATE_AUX_PER_TAG then s.auxTake else s.auxKeep).auxPeriod := by
  refine (if_neg (not_or.mpr ⟨not_not_intro ha, not_not_intro (decide_eq_true hr)⟩)).trans ?_
  refine if_congr Iff.rfl rfl ?_
  simp only [decide_eq_true_eq]
  rfl

theorem Dev.auxBoundary_idle (h : s.f F.GATE_AUX_STAT_RUNNING = 0) : s.auxBoundary = s := if_pos (.inr (Dev.flag_false h))

/-! ### The start of the supply -/

/-- The time from VSTART is that of its first sight in WAKING (R259). -/
def Dev.vstartNow (s : Dev) : Dev := { s with gate := { s.gate with vstart := some (s.gate.vstart.getD s.now) } }

theorem Dev.vstartNow_eq (s : Dev) : (s.iff s.gate.vstart.isNone fun s => { s with gate := { s.gate with vstart := some s.now } }) = s.vstartNow := by
  have hx : ∀ x, x = s.gate.vstart → s = { s with gate := { s.gate with vstart := x } } := fun x h => by rw [h]
  rw [Dev.vstartNow]
  cases hv : s.gate.vstart with
  | none => rfl
  | some t => exact hx _ (by rw [hv]; rfl)

theorem Dev.auxStart_eq (ha : s.awake = true) (hv : s.f F.GATE_AUX_CFG0_VSTART ≤ s.vcapNow) : s.auxStart =
    let v := if s.gIs gWaking then s.vstartNow else s
    if (s.gIs gWaking ∨ s.gate.auxArm) ∧ s.f F.GATE_AUX_STAT_RUNNING = 0 then
      ({ v with gate := { v.gate with ssN := 0, auxArm := false, auxDrv := true } } : Dev).raise F.GATE_AUX_STAT_RUNNING
    else v := by
  refine (if_neg (not_or.mpr ⟨not_not_intro ha, Nat.not_lt.mpr hv⟩)).trans ?_
  have hiff : (s.iff (s.gIs gWaking && s.gate.vstart.isNone) fun s => { s with gate := { s.gate with vstart := some s.now } }) = if s.gIs gWaking then s.vstartNow else s := by
    rw [← s.vstartNow_eq]
    cases s.gIs gWaking <;> rfl
  have hw : ∀ v : Dev, v = (if s.gIs gWaking then s.vstartNow else s) → v.gIs gWaking = s.gIs gWaking ∧ v.gate.auxArm = s.gate.auxArm ∧ v.f F.GATE_AUX_STAT_RUNNING = s.f F.GATE_AUX_STAT_RUNNING := by
    intro v hv
    by_cases hg : s.gIs gWaking = true
    · rw [hv, if_pos hg]
      exact ⟨rfl, rfl, rfl⟩
    · rw [hv, if_neg hg]
      exact ⟨rfl, rfl, rfl⟩
  rw [hiff]
  generalize (if s.gIs gWaking then s.vstartNow else s) = v at hw
  obtain ⟨h1, h2, h3⟩ := hw v rfl
  dsimp only
  rw [h1, h2, Dev.flag, h3]
  simp only [decide_eq_true_eq, not_not]

theorem Dev.auxStart_spec (ha : s.awake = true) (hv : s.f F.GATE_AUX_CFG0_VSTART ≤ s.vcapNow) (h : s.gIs gWaking = true ∨ s.gate.auxArm = true)
    (hr : s.f F.GATE_AUX_STAT_RUNNING = 0) : let u := s.auxStart
    u.f F.GATE_AUX_STAT_RUNNING = 1 ∧ u.gate.ssN = 0 ∧ u.gate.auxArm = false ∧ u.gate.auxDrv = true ∧
    (s.gIs gWaking = true → u.gate.vstart = some (s.gate.vstart.getD s.now)) ∧ s.Keeps [.gate] s.out u := by
  have hw : ∀ v : Dev, v = (if s.gIs gWaking then s.vstartNow else s) → s.Keeps [.gate] s.out v ∧ (s.gIs gWaking = true → v.gate.vstart = some (s.gate.vstart.getD s.now)) := by
    rintro v rfl
    exact ⟨.ite _ (fun _ => (Dev.keeps_refl _ s).setGate (by decide) _) fun _ => Dev.keeps_refl _ s, fun h => by rw [if_pos h]; rfl⟩
  rw [Dev.auxStart_eq ha hv]
  generalize (if s.gIs gWaking then s.vstartNow else s) = v at hw
  obtain ⟨h1, h2⟩ := hw v rfl
  rw [if_pos ⟨h, hr⟩]
  have hg : (({ v with gate := { v.gate with ssN := 0, auxArm := false, auxDrv := true } } : Dev).raise F.GATE_AUX_STAT_RUNNING).gcore = { v.gcore with ssN := 0, auxArm := false, auxDrv := true } :=
    Dev.gcore_raise ..
  have hf : (({ v with gate := { v.gate with ssN := 0, auxArm := false, auxDrv := true } } : Dev).raise F.GATE_AUX_STAT_RUNNING).f F.GATE_AUX_STAT_RUNNING = 1 := Dev.f_raise_same ..
  have hk : s.Keeps [.gate] s.out (({ v with gate := { v.gate with ssN := 0, auxArm := false, auxDrv := true } } : Dev).raise F.GATE_AUX_STAT_RUNNING) :=
    (h1.setGate (by decide) _).raise (by decide) _ _
  generalize (({ v with gate := { v.gate with ssN := 0, auxArm := false, auxDrv := true } } : Dev).raise F.GATE_AUX_STAT_RUNNING) = u at hg hf hk
  refine ⟨hf, show u.gcore.ssN = 0 by rw [hg], show u.gcore.auxArm = false by rw [hg], show u.gcore.auxDrv = true by rw [hg], fun hh => ?_, hk⟩
  exact (show u.gcore.vstart = v.gate.vstart by rw [hg]; rfl).trans (h2 hh)

/-! ### The end of WAKING -/

/-- The gates are off, and their drivers are on (R259, R262). -/
theorem Dev.offDrive_spec : let u := s.gatesOff.gatesDrive true
    u.AllOff ∧ u.gate.legA.drv = true ∧ u.gate.legB.drv = s.flag F.GATE_CTL_FB ∧ s.Keeps [.gate] s.out u :=
  have hfb : s.gatesOff.flag F.GATE_CTL_FB = s.flag F.GATE_CTL_FB := by
    rw [Dev.flag, s.leaves_gatesOff.fld _ _ _ (by decide)]
    rfl
  ⟨s.allOff_gatesOff.gatesDrive true, rfl, (Bool.true_and (s.gatesOff.flag F.GATE_CTL_FB)).trans hfb,
    ((Dev.keeps_refl _ s).gatesOff (by decide)).gatesDrive (by decide) _⟩

theorem Dev.legs_toState (st : Nat) : (s.toState st).gate.legA = s.gate.legA ∧ (s.toState st).gate.legB = s.gate.legB := by
  have h := s.gcore_toState st
  exact ⟨show (s.toState st).gcore.legA = s.gcore.legA by rw [h], show (s.toState st).gcore.legB = s.gcore.legB by rw [h]⟩

/-- The conditions of READY (R259). -/
def Dev.wakes (s : Dev) : Prop := s.gate.calDone = true ∧ (s.f F.GATE_AUX_CFG0_UV : Int) ≤ s.vauxNow ∧
  (s.lnFlag F.LANE_LANE_STAT_TIME_VALID 64 = true ∨ s.lnFlag F.LANE_LANE_STAT_TIME_VALID 65 = true)

theorem Dev.cellReady_spec (hw : s.gIs gWaking = true) (h : s.wakes) : let u := s.cellReady
    u.gState = gReady ∧ u.f F.GATE_STAT_POS = pBlocked ∧ u.gate.legA.drv = true ∧ u.gate.legA.hi = false ∧ u.gate.legA.lo = false ∧ u.gate.legB.drv = s.flag F.GATE_CTL_FB ∧
    s.Keeps [.gate] s.out u := by
  obtain ⟨h1, h2, h3, h4⟩ := Dev.offDrive_spec (s := s)
  obtain ⟨ha, hb⟩ := Dev.legs_toState (s := s.gatesOff.gatesDrive true) gReady
  have he : s.cellReady = (s.gatesOff.gatesDrive true).toState gReady := if_pos ⟨hw, h⟩
  have hst := Dev.gState_toState (s.gatesOff.gatesDrive true) (st := gReady) (by decide)
  obtain ⟨o1, o2, -, -, -, o6⟩ := h1.toState gReady
  have hk := h4.toState (by decide) gReady
  rw [he]
  generalize s.gatesOff.gatesDrive true = v at *
  exact ⟨hst, o6, (congrArg Leg.drv ha).trans h2, o1, o2, (congrArg Leg.drv hb).trans h3, hk⟩

theorem Dev.wakeTimeout_eq {t : Nat} (h : s.gate.vstart = some t) (hw : s.gIs gWaking = true) :
    s.wakeTimeout = (((s.advanceTo (t + 10 ^ 8)).gatesOff.gatesDrive true).addCause cWake).toState gFault := by
  rw [Dev.wakeTimeout, h]
  exact if_pos hw

theorem Dev.wakeTimeout_spec {t : Nat} (h : s.gate.vstart = some t) (hw : s.gIs gWaking = true) : let u := s.wakeTimeout
    u.gState = gFault ∧ bitOf (u.f F.GATE_STAT_CAUSE) cWake = true ∧ u.f F.GATE_STAT_POS = pBlocked ∧ u.time = (s.advanceTo (t + 10 ^ 8)).time ∧
    s.Keeps [.gate, .time] s.out u := by
  rw [Dev.wakeTimeout_eq h hw]
  have hk0 : s.Keeps [.gate, .time] s.out (s.advanceTo (t + 10 ^ 8)) := (Dev.keeps_refl _ s).advanceTo (by decide) _
  generalize s.advanceTo (t + 10 ^ 8) = w at hk0
  obtain ⟨h1, h2, h3, h4⟩ := Dev.offDrive_spec (s := w)
  generalize w.gatesOff.gatesDrive true = v at h1 h2 h3 h4
  have hk := (h4.addCause (by decide) cWake).toState (by decide) gFault
  obtain ⟨-, -, -, -, -, o6⟩ := (h1.addCause cWake).toState gFault
  refine ⟨Dev.gState_toState _ (by decide), ?_, o6, hk.2.2.2.2.1 (by decide), hk0.next hk (by decide)⟩
  rw [(Dev.leaves_toState _ _).fld _ _ _ (by decide)]
  exact Dev.bit_setBit_same _ _ _ _ _ _ (by decide)

theorem Dev.wakeTimeout_idle (h : s.gIs gWaking = false ∨ s.gate.vstart = none) : s.wakeTimeout = s := by
  rw [Dev.wakeTimeout]
  split
  · rfl
  · rename_i t ht
    refine if_neg (Bool.not_eq_true _ ▸ h.resolve_right fun hn => ?_)
    exact Option.some_ne_none _ (ht.symm.trans hn)

theorem Dev.toFault_other {c : Nat} (h : s.gIs gWaking = true ∨ s.gIs gBypassed = true) : s.toFault c = s := by
  have hno : ∀ st, st ≠ gWaking → st ≠ gBypassed → ¬ s.gIs st = true := fun st h1 h2 hh => by
    obtain ⟨-, hst⟩ := Dev.gIs_iff.mp hh
    rcases h with h | h
    · exact h1 (hst.symm.trans (Dev.gIs_iff.mp h).2)
    · exact h2 (hst.symm.trans (Dev.gIs_iff.mp h).2)
  exact (if_neg (not_or.mpr ⟨hno _ (by decide) (by decide), not_or.mpr ⟨hno _ (by decide) (by decide), hno _ (by decide) (by decide)⟩⟩)).trans (if_neg (hno _ (by decide) (by decide)))

theorem Dev.auxUnder_eq (h : s.awake = true) : s.auxUnder = (s.toFault cAux).logEvent 0x0C 0 := if_pos h
end

/-! ### O29 -/

/-- Settles O29. -/
theorem cellSupplyAndWake : Obligations.CellSupplyAndWake := by
  intro s d on
  have hstate : ∀ st, d.gIs st = true → d.awake = true := fun st h => (Dev.gIs_iff.mp h).1
  refine ⟨fun ⟨ha, hr⟩ hv => s.runs_auxPeriodBoundary.of_eq ((Dev.auxBoundary_eq (s := d) ha hr).trans (if_pos hv)), fun ⟨ha, hr⟩ hv => ?_,
    fun h => s.runs_auxPeriodBoundary.of_eq (Dev.auxBoundary_idle (s := d) h), s.runs_auxOnEnd, fun h => s.runs_auxIlim.of_eq (if_pos h),
    fun h => s.runs_auxIlim.of_eq (if_neg (Bool.not_eq_true _ ▸ h)), fun h => ?_, fun h => ?_, fun h => ?_, fun h => s.runs_auxUndervoltage.of_eq (if_neg (Bool.not_eq_true _ ▸ h)),
    fun ha hv => ⟨fun h hr => ?_, fun h hr => ?_, fun h hr => ?_⟩, fun h => ?_, ?_, fun t hw ht => ?_, fun h => s.runs_wakeTimeout.of_eq (Dev.wakeTimeout_idle (s := d) h)⟩
  · have he := (Dev.auxBoundary_eq (s := d) ha hr).trans (if_neg (Nat.not_lt.mpr hv))
    refine (s.runs_auxPeriodBoundary.of_eq he).does ?_
    by_cases ht : d.f F.GATE_AUX_TON_TAG = d.f F.GATE_AUX_PER_TAG
    · obtain ⟨t1, t2, t3, t4, t5, t6, t7⟩ := Dev.auxTake_spec (s := d)
      obtain ⟨p1, p2, p3, p4, p5⟩ := Dev.auxPeriod_spec (s := d.auxTake)
      rw [if_pos ht]
      refine ⟨p1, p2.trans (by rw [t6]; rfl), fun _ => ⟨(p4 _ 0 (by decide)).trans t1, (p4 _ inForce (by decide)).trans t2, (p4 _ inForce (by decide)).trans t3, (p4 _ 0 (by decide)).trans t4⟩,
        fun hne => absurd ht hne, fun hle => ?_, (t7.next p5 (by decide)).of_begin⟩
      rw [p3 (by rw [t5, t6]; exact hle)]
      exact congrArg (· % 2 ^ 16) (p4 _ inForce (by decide)).symm
    · obtain ⟨t1, t2, t3, t4, t5, t6, t7⟩ := Dev.auxKeep_spec (s := d)
      obtain ⟨p1, p2, p3, p4, p5⟩ := Dev.auxPeriod_spec (s := d.auxKeep)
      rw [if_neg ht]
      refine ⟨p1, p2.trans (by rw [t6]; rfl), fun heq => absurd heq ht,
        fun _ => ⟨(p4 _ 0 (by decide)).trans t1, (p4 _ 0 (by decide)).trans t2, (p4 _ inForce (by decide)).trans t3, (p4 _ inForce (by decide)).trans t4⟩, fun hle => ?_, (t7.next p5 (by decide)).of_begin⟩
      rw [p3 (by rw [t5, t6]; exact hle)]
      exact congrArg (· % 2 ^ 16) (p4 _ inForce (by decide)).symm
  · have ha : d.awake = true := by
      rcases h with h | h | h
      · exact hstate _ h
      · exact hstate _ h
      · exact hstate _ h
    obtain ⟨h1, h2, ⟨-, -, -, -, -, h3⟩, h4⟩ := Dev.toFault_logged (s := d) (c := cAux) (by decide) h 0x0C 0
    exact (s.runs_auxUndervoltage.of_eq (Dev.auxUnder_eq ha)).does ⟨h1, h2, h3, h4.of_begin⟩
  · obtain ⟨h1, h2, h3⟩ := Dev.toFault_again_logged (s := d) (c := cAux) (by decide) h 0x0C 0
    exact (s.runs_auxUndervoltage.of_eq (Dev.auxUnder_eq (hstate _ h))).does ⟨h1, h2, h3.of_begin⟩
  · have ha : d.awake = true := h.elim (hstate _) (hstate _)
    exact s.runs_auxUndervoltage.of_eq ((Dev.auxUnder_eq ha).trans (congrArg (·.logEvent 0x0C 0) (Dev.toFault_other (s := d) h)))
  · obtain ⟨h1, h2, h3, h4, h5, h6⟩ := Dev.auxStart_spec (s := d) ha hv h hr
    exact s.runs_auxStart.does ⟨h1, h2, h3, h4, h5, h6.of_begin⟩
  · exact s.runs_auxStart.of_eq ((Dev.auxStart_eq (s := d) ha hv).trans ((if_neg fun hh => hr hh.2).trans (if_pos h)))
  · refine s.runs_auxStart.of_eq ((Dev.auxStart_eq (s := d) ha hv).trans ((if_neg ?_).trans (if_neg (Bool.not_eq_true _ ▸ h))))
    rintro ⟨h1, h2⟩
    have harm : d.gate.auxArm = true := h1.resolve_left (Bool.not_eq_true _ ▸ h)
    exact hr.elim (fun hr => Bool.false_ne_true (hr.symm.trans harm)) fun hr => hr h2
  · refine s.runs_auxStart.of_eq (if_pos ?_)
    exact h.imp_left fun h => Bool.not_eq_true _ ▸ h
  · intro ok
    refine ⟨fun hw hok => ?_, fun h => s.runs_cellReady.of_eq (if_neg ?_)⟩
    · obtain ⟨h1, h2, h3, h4, h5, h6, h7⟩ := Dev.cellReady_spec (s := d) hw hok
      exact s.runs_cellReady.does ⟨h1, h2, h3, h4, h5, h6, h7.of_begin⟩
    · rintro ⟨hw, hok⟩
      exact h.elim (fun h => Bool.false_ne_true (h.symm.trans hw)) fun h => h hok
  · obtain ⟨h1, h2, h3, h4, h5⟩ := Dev.wakeTimeout_spec (s := d) ht hw
    exact s.runs_wakeTimeout.does ⟨h1, h2, h3, h4.trans (s.dev.begin_advanceTo_time _), h5.of_begin⟩

end Sys2Proof.Machine
end

section
/-! What a frame says of each block, and the recorder's frame (R366 to R377). -/

namespace Sys2Proof.Machine

section
variable {own : List Blk} {outs : List Out} {s u : Dev}

/-! ### The blocks outside a frame -/

theorem Dev.Keeps.glob_eq (h : s.Keeps own outs u) (hb : Blk.global ∉ own := by decide) : u.glob = s.glob := by
  obtain ⟨-, -, hx, -⟩ := h
  exact hx hb
theorem Dev.Keeps.sec_eq (h : s.Keeps own outs u) (hb : Blk.secure ∉ own := by decide) : u.sec = s.sec := by
  obtain ⟨-, -, -, hx, -⟩ := h
  exact hx hb
theorem Dev.Keeps.time_eq (h : s.Keeps own outs u) (hb : Blk.time ∉ own := by decide) : u.time = s.time := by
  obtain ⟨-, -, -, -, hx, -⟩ := h
  exact hx hb
theorem Dev.Keeps.toll_eq (h : s.Keeps own outs u) (hb : Blk.tollgate ∉ own := by decide) : u.toll = s.toll := by
  obtain ⟨-, -, -, -, -, hx, -⟩ := h
  exact hx hb
theorem Dev.Keeps.hostq_eq (h : s.Keeps own outs u) (hb : Blk.hostq ∉ own := by decide) : u.hostq = s.hostq := by
  obtain ⟨-, -, -, -, -, -, hx, -⟩ := h
  exact hx hb
theorem Dev.Keeps.loom_eq (h : s.Keeps own outs u) (hb : Blk.loom ∉ own := by decide) : u.loom = s.loom := by
  obtain ⟨-, -, -, -, -, -, -, -, hx, -⟩ := h
  exact hx hb
theorem Dev.Keeps.spin_eq (h : s.Keeps own outs u) (hb : Blk.spindle ∉ own := by decide) : u.spin = s.spin := by
  obtain ⟨-, -, -, -, -, -, -, -, -, hx, -⟩ := h
  exact hx hb
theorem Dev.Keeps.gate_eq (h : s.Keeps own outs u) (hb : Blk.gate ∉ own := by decide) : u.gate = s.gate := by
  obtain ⟨-, -, -, -, -, -, -, -, -, -, hx, -⟩ := h
  exact hx hb
theorem Dev.Keeps.adc_eq (h : s.Keeps own outs u) (hb : Blk.adc ∉ own := by decide) : u.adc = s.adc := by
  obtain ⟨-, -, -, -, -, -, -, -, -, -, -, hx, -⟩ := h
  exact hx hb
theorem Dev.Keeps.ang_eq (h : s.Keeps own outs u) (hb : Blk.angle ∉ own := by decide) : u.ang = s.ang := by
  obtain ⟨-, -, -, -, -, -, -, -, -, -, -, -, hx, -⟩ := h
  exact hx hb
theorem Dev.Keeps.safe_eq (h : s.Keeps own outs u) (hb : Blk.safety ∉ own := by decide) : u.safe = s.safe := by
  obtain ⟨-, -, -, -, -, -, -, -, -, -, -, -, -, hx, -⟩ := h
  exact hx hb
theorem Dev.Keeps.reel_eq (h : s.Keeps own outs u) (hb : Blk.reel ∉ own := by decide) : u.reel = s.reel := by
  obtain ⟨-, -, -, -, -, -, -, -, -, -, -, -, -, -, hx, -⟩ := h
  exact hx hb
theorem Dev.Keeps.eth_eq (h : s.Keeps own outs u) (hb : Blk.eth ∉ own := by decide) : u.eth = s.eth := by
  obtain ⟨-, -, -, -, -, -, -, -, -, -, -, -, -, -, -, hx, -⟩ := h
  exact hx hb
theorem Dev.Keeps.can_eq (h : s.Keeps own outs u) (hb : Blk.can ∉ own := by decide) : u.can = s.can := by
  obtain ⟨-, -, -, -, -, -, -, -, -, -, -, -, -, -, -, -, hx, -⟩ := h
  exact hx hb
theorem Dev.Keeps.pair_eq (h : s.Keeps own outs u) (hb : Blk.pair ∉ own := by decide) : u.pair = s.pair := by
  obtain ⟨-, -, -, -, -, -, -, -, -, -, -, -, -, -, -, -, -, hx, -⟩ := h
  exact hx hb
theorem Dev.Keeps.dbg_eq (h : s.Keeps own outs u) (hb : Blk.debug ∉ own := by decide) : u.dbg = s.dbg := by
  obtain ⟨-, -, -, -, -, -, -, -, -, -, -, -, -, -, -, -, -, -, hx⟩ := h
  exact hx hb
theorem Dev.Keeps.lanes_eq (h : s.Keeps own outs u) (hb : Blk.trunk ∉ own := by decide) : u.lanes = s.lanes ∧ u.proto = s.proto := by
  obtain ⟨-, -, -, -, -, -, -, hx, -⟩ := h
  exact hx hb

/-- A field of a block outside a frame. -/
theorem Dev.Keeps.fb_eq (h : s.Keeps own outs u) {G : Fld} (hG : G.blk.home ∉ own) (bank i j : Nat) : u.fb G bank i j = s.fb G bank i j := by
  refine Dev.fb_of_regs h.role_eq ?_ ..
  obtain ⟨b, _⟩ := G
  cases b
  · exact congrArg Glob.regs (h.glob_eq hG)
  · exact congrArg Toll.regs (h.toll_eq hG)
  · exact congrArg Hostq.regs (h.hostq_eq hG)
  · exact congrArg Sec.regs (h.sec_eq hG)
  · exact congrArg Time.regs (h.time_eq hG)
  · exact congrArg Eth.regs (h.eth_eq hG)
  · exact congrArg Lanes.trunk (h.lanes_eq hG).1
  · exact congrArg Lanes.leaf (h.lanes_eq hG).1
  · exact congrArg Loom.regs (h.loom_eq hG)
  · exact congrArg Spin.regs (h.spin_eq hG)
  · exact congrArg Gate.regs (h.gate_eq hG)
  · exact congrArg Adc.regs (h.adc_eq hG)
  · exact congrArg Ang.regs (h.ang_eq hG)
  · exact congrArg Reel.regs (h.reel_eq hG)
  · exact congrArg Can.regs (h.can_eq hG)
  · exact congrArg Safe.regs (h.safe_eq hG)
  · exact congrArg Pair.regs (h.pair_eq hG)
  · exact congrArg Dbg.regs (h.dbg_eq hG)

theorem Dev.Keeps.xferReg (h : s.Keeps own outs u) (R : Reg) (hb : ∀ F ∈ R.flds, F.blk.home ∈ own) (i j : Nat) : s.Keeps own outs (u.xferReg R i j) := by
  have : ∀ (l : List Fld) (v : Dev), s.Keeps own outs v → (∀ F ∈ l, F.blk.home ∈ own) → s.Keeps own outs (l.foldl (fun s F => s.xfer F i j) v) := fun l => by
    induction l with
    | nil => exact fun v hv _ => hv
    | cons F l ih => exact fun v hv hl => ih _ (hv.putb (hl F List.mem_cons_self) _ _ _ _) fun G hG => hl G (List.mem_cons_of_mem _ hG)
  exact this _ _ h hb

theorem Dev.Keeps.f_eq (h : s.Keeps own outs u) {G : Fld} (hG : G.blk.home ∉ own) (i j : Nat) : u.f G i j = s.f G i j := h.fb_eq hG ..

/-! ### Repetition -/

/-- What each step keeps, the repetition keeps. -/
theorem Dev.each_inv {α : Type} (P : Dev → Prop) (l : List α) (g : Dev → α → Dev) (h : ∀ v, ∀ a ∈ l, P v → P (g v a)) (s : Dev) (hs : P s) : P (s.each l g) := by
  induction l generalizing s with
  | nil => exact hs
  | cons a l ih => exact ih (fun v b hb => h v b (List.mem_cons_of_mem _ hb)) _ (h s a List.mem_cons_self hs)

/-- What the step of one of a list gives and the others keep, holds at the end. -/
theorem Dev.each_at {α : Type} (P Q : Dev → Prop) (l : List α) (g : Dev → α → Dev) {c : α} (hc : c ∈ l) (hP : ∀ v, ∀ a ∈ l, P v → P (g v a)) (hQ : ∀ v, P v → Q (g v c))
    (hk : ∀ v, ∀ a ∈ l, Q v → Q (g v a)) (s : Dev) (hs : P s) : Q (s.each l g) := by
  induction l generalizing s with
  | nil => exact absurd hc List.not_mem_nil
  | cons a l ih =>
    rcases List.mem_cons.mp hc with rfl | hc
    · exact Dev.each_inv Q l g (fun v b hb => hk v b (List.mem_cons_of_mem _ hb)) _ (hQ s hs)
    · exact ih hc (fun v b hb => hP v b (List.mem_cons_of_mem _ hb)) (fun v b hb => hk v b (List.mem_cons_of_mem _ hb)) _ (hP s a List.mem_cons_self hs)

/-- What the step of one gives, in a list that holds it once. -/
theorem Dev.each_once {α : Type} (P Q : Dev → Prop) (l : List α) (g : Dev → α → Dev) {c : α} (hc : c ∈ l) (hn : l.Nodup) (hP : ∀ v, ∀ a ∈ l, a ≠ c → P v → P (g v a))
    (hQ : ∀ v, P v → Q (g v c)) (hk : ∀ v, ∀ a ∈ l, a ≠ c → Q v → Q (g v a)) (s : Dev) (hs : P s) : Q (s.each l g) := by
  induction l generalizing s with
  | nil => exact absurd hc List.not_mem_nil
  | cons a l ih =>
    obtain ⟨ha, hn⟩ := List.nodup_cons.mp hn
    rcases List.mem_cons.mp hc with rfl | hc
    · exact Dev.each_inv Q l g (fun v b hb => hk v b (List.mem_cons_of_mem _ hb) fun e => ha (e ▸ hb)) _ (hQ s hs)
    · exact ih hc hn (fun v b hb => hP v b (List.mem_cons_of_mem _ hb)) (fun v b hb => hk v b (List.mem_cons_of_mem _ hb)) _ (hP s a List.mem_cons_self (fun e => ha (e ▸ hc)) hs)

/-! ### The recorder -/

theorem Dev.Keeps.setReelInst (h : s.Keeps own outs u) (hb : .reel ∈ own) (i : Nat) (x : ReelInst) : s.Keeps own outs (u.setReelInst i x) := h.setReel hb _
theorem Dev.Keeps.setReelTrg (h : s.Keeps own outs u) (hb : .reel ∈ own) (i t : Nat) (x : ReelTrg) : s.Keeps own outs (u.setReelTrg i t x) := h.setReel hb _
theorem Dev.Keeps.setReelCh (h : s.Keeps own outs u) (hb : .reel ∈ own) (k : Nat) (x : ReelCh) : s.Keeps own outs (u.setReelCh k x) := h.setReel hb _

theorem Dev.Keeps.missTrigger (h : s.Keeps own outs u) (hb : .reel ∈ own) (i t : Nat) : s.Keeps own outs (u.missTrigger i t) := by
  rw [Dev.missTrigger]
  exact ((h.iff _ _ fun _ => h.put (G := F.REEL_INST_MISS_FIRST_NS) hb _ _ _).inc (G := F.REEL_INST_MISS_MISSED) hb _ _ _).setReelInst hb _ _

theorem Dev.Keeps.fireUnit (h : s.Keeps own outs u) (hb : .reel ∈ own) (i t x : Nat) : s.Keeps own outs (u.fireUnit i t x) :=
  .ite _ (fun _ => h) fun _ => .ite _ (fun _ => h.missTrigger hb _ _) fun _ => h.setReelInst hb _ _

theorem Dev.Keeps.fireAll (h : s.Keeps own outs u) (hb : .reel ∈ own) (i t x : Nat) : s.Keeps own outs (u.fireAll i t x) :=
  (h.fireUnit hb i t x).each _ _ fun _ _ _ hv => hv.iff _ _ fun _ => hv.fireUnit hb _ _ _

theorem Dev.Keeps.evalUnit (h : s.Keeps own outs u) (hb : .reel ∈ own) (i t now : Nat) (v : Int) : s.Keeps own outs (u.evalUnit i t now v) := by
  unfold Dev.evalUnit
  extract_lets
  split
  · exact .ite _ (fun _ => (h.setReelTrg hb _ _ _).fireAll hb _ _ _) fun _ => h.setReelTrg hb _ _ _
  · exact h.setReelTrg hb _ _ _

/-- An update of a source stays inside REEL. -/
theorem Dev.Keeps.reelUpdate (h : s.Keeps own outs u) (hb : .reel ∈ own) (kind sel v : Nat) : s.Keeps own outs (u.reelUpdate kind sel v) := by
  refine .ite _ (fun _ => h) fun _ => ?_
  refine Dev.Keeps.each (Dev.Keeps.each (h.setReel hb _) _ _ fun v k _ hv => .ite _ (fun _ => hv) fun _ => hv.setReelCh hb _ _) _ _ fun v p _ hv => .ite _ (fun _ => ?_) fun _ => hv
  split
  · exact hv.evalUnit hb _ _ _ _
  · exact hv.setReelTrg hb _ _ _
end

end Sys2Proof.Machine
end

section
/-! The converters: their channels and the self-calibration (R275), and O31. -/

namespace Sys2Proof.Machine

section
variable {s : Dev}

/-! ### The state of ADC beside its registers -/

def Dev.acore (s : Dev) : Adc := { s.adc with regs := [] }

theorem Dev.acore_setRegs (t : Tab Nat) (b : Blk) : (s.setRegs t b).acore = s.acore := by cases b <;> rfl
theorem Dev.acore_put (G : Fld) (x i j : Nat) : (s.put G x i j).acore = s.acore := Dev.acore_setRegs ..
theorem Dev.acore_befall (G : Fld) (g : Nat → Nat) (i j : Nat) : (s.befall G g i j).acore = s.acore :=
  show ({ s.put G (g (s.f G i j)) i j with events := _ } : Dev).acore = _ from Dev.acore_put ..
theorem Dev.adcCh_of_acore {u : Dev} (h : u.acore = s.acore) (c : Nat) : u.adcCh c = s.adcCh c := by
  have : u.acore.ch = s.acore.ch := by rw [h]
  exact congrArg (Tab.get AdcCh.idle · c) this
theorem Dev.cal_of_acore {u : Dev} (h : u.acore = s.acore) : u.adc.cal = s.adc.cal := show u.acore.cal = s.acore.cal by rw [h]

theorem Dev.fb_setAdc {x : Adc} (hx : x.regs = s.adc.regs) (G : Fld) (b i j : Nat) : ({ s with adc := x } : Dev).fb G b i j = s.fb G b i j :=
  Dev.fb_of_regs (u := { s with adc := x }) (s := s) rfl (by cases G.blk <;> simp [Dev.regsOf, hx]) ..

theorem Dev.f_setAdcCh (c : Nat) (x : AdcCh) (G : Fld) (i j : Nat) : (s.setAdcCh c x).f G i j = s.f G i j := Dev.fb_setAdc rfl ..
theorem Dev.adcCh_setAdcCh_same (c : Nat) (x : AdcCh) : (s.setAdcCh c x).adcCh c = x := Tab.get_set_same ..
theorem Dev.adcCh_setAdcCh_other {c k : Nat} (x : AdcCh) (h : k ≠ c) : (s.setAdcCh c x).adcCh k = s.adcCh k := Tab.get_set_other _ _ _ _ h
theorem Dev.Keeps.setAdcCh {u : Dev} {own : List Blk} {outs : List Out} (h : s.Keeps own outs u) (hb : .adc ∈ own) (c : Nat) (x : AdcCh) : s.Keeps own outs (u.setAdcCh c x) := h.setAdc hb _

/-! ### The start of a calibration -/

theorem Dev.adcCalWrite_start (mask : Nat) : s.adcCalWrite true false mask =
    if s.f F.ADC_CAL_BUSY ≠ 0 then (.busy, s) else if mask = 0 ∨ adcAll s.role < mask then (.invalid, s)
    else (.ok, ({ s.put F.ADC_CAL_MASK mask with adc := { (s.put F.ADC_CAL_MASK mask).adc with cal := mask } } : Dev).raise F.ADC_CAL_BUSY) := by
  have hb : (s.put F.ADC_CAL_MASK mask).flag F.ADC_CAL_BUSY = s.flag F.ADC_CAL_BUSY := by
    rw [Dev.flag, Dev.f_put_apart _ _ _ _ _ _ (by decide)]
    rfl
  have hr : (s.put F.ADC_CAL_MASK mask).role = s.role := Dev.put_role ..
  by_cases h1 : s.f F.ADC_CAL_BUSY ≠ 0
  · rw [if_pos h1]
    exact if_pos ⟨rfl, decide_eq_true h1⟩
  · have h1' : ¬ s.flag F.ADC_CAL_BUSY = true := fun h => h1 (of_decide_eq_true h)
    rw [if_neg h1]
    refine (if_neg fun h => h1' h.2).trans ?_
    by_cases h2 : mask = 0 ∨ adcAll s.role < mask
    · rw [if_pos h2]
      exact if_pos ⟨rfl, h2⟩
    · rw [if_neg h2]
      refine (if_neg fun h => h2 h.2).trans ((if_pos rfl).trans ((if_neg ?_).trans (if_neg ?_)))
      · exact fun h => h1' (hb.symm.trans h)
      · exact fun h => h2 (hr ▸ h)

/-! ### Its result -/

/-- A result inside its limits (R275). -/
def calFits (ofs : Int) (gain : Nat) : Prop := -2048 ≤ ofs ∧ ofs ≤ 2048 ∧ 9 * 32768 ≤ gain * 10 ∧ gain * 10 ≤ 11 * 32768

theorem Dev.adcCalRes_fits {c gain : Nat} {ofs : Int} (h : calFits ofs gain) : s.adcCalRes c ofs gain =
    (((s.setAdcCh c { s.adcCh c with inv := max (s.adcCh c).inv 6 }).put F.ADC_CAL_RES_CAL_OFS (wrap 16 ofs) c).put F.ADC_CAL_RES_CAL_GAIN gain c).put F.ADC_CAL_RES_STATUS 0 c := by
  obtain ⟨h1, h2, h3, h4⟩ := h
  exact if_neg (by omega)

theorem Dev.adcCalRes_bad {c gain : Nat} {ofs : Int} (h : ¬ calFits ofs gain) : s.adcCalRes c ofs gain =
    ((s.setAdcCh c { s.adcCh c with inv := max (s.adcCh c).inv 6 }).put F.ADC_CAL_RES_STATUS Status.invalid.code c).raise F.ADC_CAL_FAIL := by
  exact if_pos (by unfold calFits at h; omega)

theorem Dev.Keeps.adcCalRes {u : Dev} {own : List Blk} {outs : List Out} (h : s.Keeps own outs u) (hb : .adc ∈ own) (c : Nat) (ofs : Int) (gain : Nat) :
    s.Keeps own outs (u.adcCalRes c ofs gain) :=
  .ite _ (fun _ => ((h.setAdcCh hb _ _).put (G := F.ADC_CAL_RES_STATUS) hb _ _ _).raise (G := F.ADC_CAL_FAIL) hb _ _) fun _ =>
    (((h.setAdcCh hb _ _).put (G := F.ADC_CAL_RES_CAL_OFS) hb _ _ _).put (G := F.ADC_CAL_RES_CAL_GAIN) hb _ _ _).put (G := F.ADC_CAL_RES_STATUS) hb _ _ _

/-- What the result of a channel leaves: its fields of the calibration beside FAIL, and what is known of FAIL. -/
theorem Dev.adcCalRes_leaves (c : Nat) (ofs : Int) (gain : Nat) : let u := s.adcCalRes c ofs gain
    u.adc.cal = s.adc.cal ∧ u.f F.ADC_CAL_BUSY = s.f F.ADC_CAL_BUSY ∧ (s.f F.ADC_CAL_FAIL = 1 → u.f F.ADC_CAL_FAIL = 1) ∧
    ∀ k, k ≠ c → u.adcCh k = s.adcCh k ∧ u.f F.ADC_CAL_RES_STATUS k = s.f F.ADC_CAL_RES_STATUS k ∧ u.f F.ADC_CAL_RES_CAL_OFS k = s.f F.ADC_CAL_RES_CAL_OFS k ∧
      u.f F.ADC_CAL_RES_CAL_GAIN k = s.f F.ADC_CAL_RES_CAL_GAIN k := by
  dsimp only
  generalize hx : (s.setAdcCh c { s.adcCh c with inv := max (s.adcCh c).inv 6 }) = v
  have hcal : v.adc.cal = s.adc.cal := by rw [← hx]; rfl
  have hch : ∀ k, k ≠ c → v.adcCh k = s.adcCh k := fun k h => by rw [← hx]; exact Dev.adcCh_setAdcCh_other _ h
  have hf : ∀ (G : Fld) (i : Nat), v.f G i = s.f G i := fun G i => by rw [← hx]; exact Dev.f_setAdcCh ..
  by_cases h : calFits ofs gain
  · rw [Dev.adcCalRes_fits h, hx]
    have hc : (((v.put F.ADC_CAL_RES_CAL_OFS (wrap 16 ofs) c).put F.ADC_CAL_RES_CAL_GAIN gain c).put F.ADC_CAL_RES_STATUS 0 c).acore = v.acore :=
      (Dev.acore_put ..).trans ((Dev.acore_put ..).trans (Dev.acore_put ..))
    refine ⟨(Dev.cal_of_acore hc).trans hcal, ?_, fun h1 => ?_, fun k hk => ⟨(Dev.adcCh_of_acore hc k).trans (hch k hk), ?_, ?_, ?_⟩⟩
    · simp (disch := decide) only [Dev.f_put_apart, hf]
    · simp (disch := decide) only [Dev.f_put_apart, hf]
      exact h1
    · rw [Dev.f_put_index _ _ _ _ _ (by decide) hk]
      simp (disch := decide) only [Dev.f_put_apart, hf]
    · simp (disch := decide) only [Dev.f_put_apart]
      rw [Dev.f_put_index _ _ _ _ _ (by decide) hk, hf]
    · rw [Dev.f_put_apart _ _ _ _ _ _ (by decide), Dev.f_put_index _ _ _ _ _ (by decide) hk, Dev.f_put_apart _ _ _ _ _ _ (by decide), hf]
  · rw [Dev.adcCalRes_bad h, hx]
    have hc : ((v.put F.ADC_CAL_RES_STATUS Status.invalid.code c).raise F.ADC_CAL_FAIL).acore = v.acore := (Dev.acore_befall ..).trans (Dev.acore_put ..)
    refine ⟨(Dev.cal_of_acore hc).trans hcal, ?_, fun _ => Dev.f_raise_same .., fun k hk => ⟨(Dev.adcCh_of_acore hc k).trans (hch k hk), ?_, ?_, ?_⟩⟩
    · simp (disch := decide) only [Dev.f_raise_apart, Dev.f_put_apart, hf]
    · rw [Dev.f_raise_apart _ _ _ _ _ (by decide), Dev.f_put_index _ _ _ _ _ (by decide) hk, hf]
    · simp (disch := decide) only [Dev.f_raise_apart, Dev.f_put_apart, hf]
    · simp (disch := decide) only [Dev.f_raise_apart, Dev.f_put_apart, hf]

/-- The result of a channel (R275). -/
def Dev.calShows (u : Dev) (c : Nat) (ofs : Int) (gain ofs0 gain0 : Nat) : Prop :=
  6 ≤ (u.adcCh c).inv ∧
  (calFits ofs gain → u.f F.ADC_CAL_RES_STATUS c = 0 ∧ u.f F.ADC_CAL_RES_CAL_OFS c = wrap 16 ofs ∧ u.f F.ADC_CAL_RES_CAL_GAIN c = gain) ∧
  (¬ calFits ofs gain → u.f F.ADC_CAL_RES_STATUS c = Status.invalid.code ∧ u.f F.ADC_CAL_FAIL = 1 ∧ u.f F.ADC_CAL_RES_CAL_OFS c = ofs0 ∧ u.f F.ADC_CAL_RES_CAL_GAIN c = gain0)

theorem wrap_lt (w : Nat) (x : Int) : wrap w x < 2 ^ w := by
  have h := Int.emod_lt_of_pos x (show (0 : Int) < 2 ^ w by positivity)
  have h0 := Int.emod_nonneg x (show (2 : Int) ^ w ≠ 0 by positivity)
  rw [wrap]
  have hc : ((2 ^ w : Nat) : Int) = 2 ^ w := by push_cast; rfl
  omega

theorem Dev.adcCalRes_shows (c : Nat) (ofs : Int) (gain : Nat) :
    (s.adcCalRes c ofs gain).calShows c ofs gain (s.f F.ADC_CAL_RES_CAL_OFS c) (s.f F.ADC_CAL_RES_CAL_GAIN c) := by
  generalize hx : (s.setAdcCh c { s.adcCh c with inv := max (s.adcCh c).inv 6 }) = v
  have hch : 6 ≤ (v.adcCh c).inv := by
    rw [← hx, Dev.adcCh_setAdcCh_same]
    exact Nat.le_max_right ..
  have hf : ∀ (G : Fld) (i : Nat), v.f G i = s.f G i := fun G i => by rw [← hx]; exact Dev.f_setAdcCh ..
  by_cases h : calFits ofs gain
  · rw [Dev.adcCalRes_fits h, hx]
    have hc : (((v.put F.ADC_CAL_RES_CAL_OFS (wrap 16 ofs) c).put F.ADC_CAL_RES_CAL_GAIN gain c).put F.ADC_CAL_RES_STATUS 0 c).acore = v.acore :=
      (Dev.acore_put ..).trans ((Dev.acore_put ..).trans (Dev.acore_put ..))
    refine ⟨by rw [Dev.adcCh_of_acore hc]; exact hch, fun _ => ⟨Dev.f_put_same .., ?_, ?_⟩, fun hn => absurd h hn⟩
    · simp (disch := decide) only [Dev.f_put_apart, Dev.f_put_same]
      exact Nat.mod_eq_of_lt (wrap_lt _ _)
    · simp (disch := decide) only [Dev.f_put_apart, Dev.f_put_same]
      obtain ⟨-, -, -, h4⟩ := h
      exact Nat.mod_eq_of_lt (show gain < 2 ^ 16 by omega)
  · rw [Dev.adcCalRes_bad h, hx]
    have hc : ((v.put F.ADC_CAL_RES_STATUS Status.invalid.code c).raise F.ADC_CAL_FAIL).acore = v.acore := (Dev.acore_befall ..).trans (Dev.acore_put ..)
    refine ⟨by rw [Dev.adcCh_of_acore hc]; exact hch, fun hy => absurd hy h, fun _ => ⟨?_, Dev.f_raise_same .., ?_, ?_⟩⟩
    · rw [Dev.f_raise_apart _ _ _ _ _ (by decide), Dev.f_put_same]
      rfl
    · simp (disch := decide) only [Dev.f_raise_apart, Dev.f_put_apart, hf]
    · simp (disch := decide) only [Dev.f_raise_apart, Dev.f_put_apart, hf]

theorem Dev.calShows_other {c k gain o g : Nat} {ofs ofs' : Int} {gain' : Nat} (h : s.calShows c ofs gain o g) (hk : c ≠ k) : (s.adcCalRes k ofs' gain').calShows c ofs gain o g := by
  obtain ⟨-, -, hfail, ho⟩ := Dev.adcCalRes_leaves (s := s) k ofs' gain'
  obtain ⟨o1, o2, o3, o4⟩ := ho c hk
  obtain ⟨h1, h2, h3⟩ := h
  unfold Dev.calShows
  rw [o1, o2, o3, o4]
  exact ⟨h1, h2, fun hn => by
    obtain ⟨a, b, c, d⟩ := h3 hn
    exact ⟨a, hfail b, c, d⟩⟩

theorem Dev.adcCalRes_again {c gain o g : Nat} {ofs : Int} (h : s.calShows c ofs gain o g) : (s.adcCalRes c ofs gain).calShows c ofs gain o g := by
  obtain ⟨h1, h2, h3⟩ := Dev.adcCalRes_shows (s := s) c ofs gain
  refine ⟨h1, h2, fun hn => ?_⟩
  obtain ⟨-, -, h⟩ := h
  obtain ⟨-, -, h4, h5⟩ := h hn
  rw [h4, h5] at h3
  exact h3 hn

/-! ### The end of a calibration -/

theorem mem_bitList {n v i : Nat} : i ∈ bitList n v ↔ i < n ∧ bitOf v i = true := by rw [bitList, List.mem_filter, List.mem_range]

/-- The calibration is over: its results come. -/
def Dev.calOver (s : Dev) : Dev := ({ s with adc := { s.adc with cal := 0 } } : Dev).put F.ADC_CAL_BUSY 0

theorem Dev.adcCalDone_eq (res : List (Int × Nat)) (h : s.f F.ADC_CAL_BUSY ≠ 0) : s.adcCalDone res =
    s.calOver.each (bitList 16 s.adc.cal) fun s c => s.adcCalRes c (res.getD c (0, 0x8000)).1 (res.getD c (0, 0x8000)).2 :=
  if_neg (not_not_intro (decide_eq_true h))

theorem Dev.calOver_spec : s.calOver.adc.cal = 0 ∧ s.calOver.f F.ADC_CAL_BUSY = 0 ∧ (∀ c, s.calOver.adcCh c = s.adcCh c) ∧
    (∀ (G : Fld) (i : Nat), G.apart F.ADC_CAL_BUSY = true → s.calOver.f G i = s.f G i) ∧ s.Keeps [.adc] s.out s.calOver := by
  refine ⟨?_, Dev.f_put_same .., fun c => ?_, fun G i h => (Dev.f_put_apart _ _ _ _ _ _ h).trans (Dev.fb_setAdc rfl ..), ((Dev.keeps_refl _ s).setAdc (by decide) _).put (by decide) _ _ _⟩
  · exact (Dev.cal_of_acore (Dev.acore_put ..)).trans rfl
  · exact (Dev.adcCh_of_acore (Dev.acore_put ..) c).trans rfl

theorem Dev.adcCalDone_spec (res : List (Int × Nat)) (h : s.f F.ADC_CAL_BUSY ≠ 0) : let u := s.adcCalDone res
    u.adc.cal = 0 ∧ u.f F.ADC_CAL_BUSY = 0 ∧ s.Keeps [.adc] s.out u := by
  obtain ⟨c1, c2, -, -, c5⟩ := Dev.calOver_spec (s := s)
  rw [Dev.adcCalDone_eq res h]
  refine Dev.each_inv (fun u => u.adc.cal = 0 ∧ u.f F.ADC_CAL_BUSY = 0 ∧ s.Keeps [.adc] s.out u) _ _ (fun v c _ ⟨h1, h2, h3⟩ => ?_) _ ⟨c1, c2, c5⟩
  obtain ⟨l1, l2, -, -⟩ := Dev.adcCalRes_leaves (s := v) c (res.getD c (0, 0x8000)).1 (res.getD c (0, 0x8000)).2
  exact ⟨l1.trans h1, l2.trans h2, h3.adcCalRes (by decide) _ _ _⟩

/-- A channel of the mask shows its result. -/
theorem Dev.adcCalDone_shows {res : List (Int × Nat)} {c gain : Nat} {ofs : Int} (h : s.f F.ADC_CAL_BUSY ≠ 0) (hc : c < 16) (hm : bitOf s.adc.cal c = true)
    (hr : res.getD c (0, 0x8000) = (ofs, gain)) : (s.adcCalDone res).calShows c ofs gain (s.f F.ADC_CAL_RES_CAL_OFS c) (s.f F.ADC_CAL_RES_CAL_GAIN c) := by
  obtain ⟨-, -, -, c4, -⟩ := Dev.calOver_spec (s := s)
  rw [Dev.adcCalDone_eq res h]
  have hmem : c ∈ bitList 16 s.adc.cal := mem_bitList.mpr ⟨hc, hm⟩
  have hR : ∀ v : Dev, (v.adcCalRes c (res.getD c (0, 0x8000)).1 (res.getD c (0, 0x8000)).2) = v.adcCalRes c ofs gain := fun v => by rw [hr]
  refine Dev.each_at (fun v => (v.f F.ADC_CAL_RES_CAL_OFS c = s.f F.ADC_CAL_RES_CAL_OFS c ∧ v.f F.ADC_CAL_RES_CAL_GAIN c = s.f F.ADC_CAL_RES_CAL_GAIN c) ∨
      v.calShows c ofs gain (s.f F.ADC_CAL_RES_CAL_OFS c) (s.f F.ADC_CAL_RES_CAL_GAIN c))
    (fun v => v.calShows c ofs gain (s.f F.ADC_CAL_RES_CAL_OFS c) (s.f F.ADC_CAL_RES_CAL_GAIN c)) _ _ hmem (fun v k _ hv => ?_) (fun v hv => ?_) (fun v k _ hv => ?_) _ (.inl ⟨c4 _ _ (by decide), c4 _ _ (by decide)⟩)
  · by_cases hk : c = k
    · subst hk
      rw [hR]
      rcases hv with ⟨h1, h2⟩ | hv
      · exact .inr (h1 ▸ h2 ▸ Dev.adcCalRes_shows c ofs gain)
      · exact .inr (Dev.adcCalRes_again hv)
    · refine hv.imp (fun ⟨h1, h2⟩ => ?_) fun hv => Dev.calShows_other hv hk
      obtain ⟨-, -, -, ho⟩ := Dev.adcCalRes_leaves (s := v) k (res.getD k (0, 0x8000)).1 (res.getD k (0, 0x8000)).2
      obtain ⟨-, -, o3, o4⟩ := ho c hk
      exact ⟨o3.trans h1, o4.trans h2⟩
  · rw [hR]
    rcases hv with ⟨h1, h2⟩ | hv
    · exact h1 ▸ h2 ▸ Dev.adcCalRes_shows c ofs gain
    · exact Dev.adcCalRes_again hv
  · by_cases hk : c = k
    · subst hk
      rw [hR]
      exact Dev.adcCalRes_again hv
    · exact Dev.calShows_other hv hk

/-- A channel outside the mask is left alone. -/
theorem Dev.adcCalDone_other {res : List (Int × Nat)} {c : Nat} (h : s.f F.ADC_CAL_BUSY ≠ 0) (hm : bitOf s.adc.cal c = false) : let u := s.adcCalDone res
    u.f F.ADC_CAL_RES_CAL_OFS c = s.f F.ADC_CAL_RES_CAL_OFS c ∧ u.f F.ADC_CAL_RES_CAL_GAIN c = s.f F.ADC_CAL_RES_CAL_GAIN c ∧ u.adcCh c = s.adcCh c := by
  obtain ⟨-, -, c3, c4, -⟩ := Dev.calOver_spec (s := s)
  rw [Dev.adcCalDone_eq res h]
  refine Dev.each_inv (fun u => u.f F.ADC_CAL_RES_CAL_OFS c = s.f F.ADC_CAL_RES_CAL_OFS c ∧ u.f F.ADC_CAL_RES_CAL_GAIN c = s.f F.ADC_CAL_RES_CAL_GAIN c ∧ u.adcCh c = s.adcCh c) _ _
    (fun v k hk ⟨h1, h2, h3⟩ => ?_) _ ⟨c4 _ _ (by decide), c4 _ _ (by decide), c3 c⟩
  obtain ⟨-, -, -, ho⟩ := Dev.adcCalRes_leaves (s := v) k (res.getD k (0, 0x8000)).1 (res.getD k (0, 0x8000)).2
  obtain ⟨o1, -, o3, o4⟩ := ho c fun e => Bool.false_ne_true (hm.symm.trans (e ▸ (mem_bitList.mp hk).2))
  exact ⟨o3.trans h1, o4.trans h2, o1.trans h3⟩

/-- A CELL that wakes has done its calibration (R259). -/
theorem Dev.calibrationDone_eq (res : List (Int × Nat)) (h : s.f F.ADC_CAL_BUSY ≠ 0) : s.calibrationDone res =
    if s.role = .cell then { s.adcCalDone res with gate := { (s.adcCalDone res).gate with calDone := true } } else s.adcCalDone res := by
  have hb : s.flag F.ADC_CAL_BUSY = true := decide_eq_true h
  rw [Dev.calibrationDone, hb, Bool.true_and, Dev.iff]
  simp only [decide_eq_true_eq]
end

/-! ### O31 -/

/-- Settles O31. -/
theorem selfCalibration : Obligations.SelfCalibration := by
  intro s d
  refine ⟨fun mask hok => ?_, fun res h => ?_, fun res c ofs gain hc hb hm hr => ?_, fun res c hc hb hm => ?_⟩
  · have hrun : s.Runs (.calStart mask) (Acted.dev (d.adcCalWrite true false mask)) := s.runs_calStart.of_eq (congrArg Acted.dev (Dev.served_begin hok _))
    rw [Dev.adcCalWrite_start] at hrun
    refine ⟨fun h => hrun.of_eq (congrArg Acted.dev (if_pos h)), fun h hm => hrun.of_eq (congrArg Acted.dev ((if_neg (not_not_intro h)).trans (if_pos hm))), fun h h0 hle => ?_⟩
    exact hrun.of_eq (congrArg Acted.dev ((if_neg (not_not_intro h)).trans (if_neg (not_or.mpr ⟨h0, Nat.not_lt.mpr hle⟩))))
  · have hb : d.flag F.ADC_CAL_BUSY = false := Bool.not_eq_true _ ▸ Dev.flag_false h
    refine s.runs_calibrationDone.of_eq ?_
    have he : d.adcCalDone res = d := if_pos (Dev.flag_false h)
    rw [Dev.calibrationDone, he, hb]
    rfl
  · obtain ⟨h1, h2, h3⟩ := Dev.adcCalDone_spec (s := d) res hb
    obtain ⟨hinv, hfit, hbad⟩ := Dev.adcCalDone_shows (s := d) hb hc hm hr
    refine (s.runs_calibrationDone.of_eq (Dev.calibrationDone_eq (s := d) res hb)).does ?_
    generalize d.adcCalDone res = v at h1 h2 h3 hinv hfit hbad
    have hg : v.gate = s.dev.gate := h3.gate_eq
    have hk : s.dev.Keeps [.adc, .gate] [] v := (h3.mono (by decide)).of_begin
    have hfit' : -2048 ≤ ofs → ofs ≤ 2048 → 9 * 32768 ≤ gain * 10 → gain * 10 ≤ 11 * 32768 → _ := fun a b c d => hfit ⟨a, b, c, d⟩
    have hbad' : ofs < -2048 ∨ 2048 < ofs ∨ gain * 10 < 9 * 32768 ∨ 11 * 32768 < gain * 10 → _ := fun h => hbad (by unfold calFits; omega)
    by_cases hcell : d.role = .cell
    · rw [if_pos hcell]
      exact ⟨h1, h2, hinv, hk.setGate (by decide) _, fun h => absurd hcell h, fun _ => by rw [hg], hfit', hbad'⟩
    · rw [if_neg hcell]
      exact ⟨h1, h2, hinv, hk, fun _ => hg, fun h => absurd h hcell, hfit', hbad'⟩
  · refine (s.runs_calibrationDone.of_eq (Dev.calibrationDone_eq (s := d) res hb)).does ?_
    obtain ⟨h1, h2, h3⟩ := Dev.adcCalDone_other (s := d) (res := res) hb hm
    generalize d.adcCalDone res = v at h1 h2 h3
    by_cases hcell : d.role = .cell
    · rw [if_pos hcell]
      exact ⟨h1, h2, h3⟩
    · rw [if_neg hcell]
      exact ⟨h1, h2, h3⟩

end Sys2Proof.Machine
end

section
/-! The words of a conversion (R267 to R274), and O30. -/

namespace Sys2Proof.Machine

/-! ### The places of a sample word -/

/-- A sample word of its marks and its data (R269). -/
def sampleWord (k c : Nat) (noconv novr ovr valid : Bool) (x : Nat) : Nat :=
  k % 256 * 2 ^ 24 + c * 2 ^ 20 + b2n noconv * 2 ^ 19 + b2n novr * 2 ^ 18 + b2n ovr * 2 ^ 17 + b2n valid * 2 ^ 16 + x

theorem sampleWord_spec {k c x : Nat} (noconv novr ovr valid : Bool) (hc : c < 16) (hx : x < 2 ^ 16) : let w := sampleWord k c noconv novr ovr valid x
    w % 2 ^ 32 = w ∧ w / 2 ^ 24 = k % 256 ∧ w / 2 ^ 20 % 16 = c ∧ wNoConv w = noconv ∧ wOvr w = ovr ∧ wValid w = valid ∧ wData w = sgn 16 x := by
  have hk : k % 256 < 256 := Nat.mod_lt _ (by decide)
  have hb : ∀ b : Bool, b2n b ≤ 1 := fun b => by cases b <;> decide
  have hbit : ∀ (w i : Nat) (b : Bool), w / 2 ^ i % 2 = b2n b → bitOf w i = b := fun w i b h => by
    rw [bitOf, h]
    cases b <;> rfl
  have h1 := hb noconv
  have h2 := hb novr
  have h3 := hb ovr
  have h4 := hb valid
  unfold sampleWord
  refine ⟨?_, ?_, ?_, hbit _ _ _ ?_, hbit _ _ _ ?_, hbit _ _ _ ?_, ?_⟩
  · omega
  · omega
  · omega
  · omega
  · omega
  · omega
  · rw [wData, sgn, sgn, show (k % 256 * 2 ^ 24 + c * 2 ^ 20 + b2n noconv * 2 ^ 19 + b2n novr * 2 ^ 18 + b2n ovr * 2 ^ 17 + b2n valid * 2 ^ 16 + x) % 2 ^ 16 = x % 2 ^ 16 by omega]

theorem sgn16_wrap {y : Int} (h1 : -0x8000 ≤ y) (h2 : y ≤ 0x7FFF) : sgn 16 (wrap 16 y) = y := by
  have hm := Int.emod_nonneg y (show (2 : Int) ^ 16 ≠ 0 by decide)
  have hl := Int.emod_lt_of_pos y (show (0 : Int) < 2 ^ 16 by decide)
  unfold sgn wrap
  split <;> omega

theorem satS16_of_range {y : Int} (h1 : -0x8000 ≤ y) (h2 : y ≤ 0x7FFF) : satS 16 y = y := by
  unfold satS
  omega

theorem outside16_false {y : Int} (h : outside16 y = false) : -0x8000 ≤ y ∧ y ≤ 0x7FFF := by
  rw [outside16, Bool.or_eq_false_iff, decide_eq_false_iff_not, decide_eq_false_iff_not] at h
  omega

theorem roundDiv_mul (v : Int) : roundDiv true (v * 2 ^ 32) (2 ^ 32) = v := by
  rw [roundDiv, if_pos rfl]
  push_cast
  split <;> omega

section
variable {s : Dev}

/-! ### The first pass -/

theorem Dev.adcTake_setCh (t : Nat) (raws : List Int) (k : Nat) : ∃ y, s.adcTake t raws k = s.setAdcCh k y := by
  unfold Dev.adcTake
  extract_lets
  split
  · exact ⟨_, rfl⟩
  · exact ⟨_, rfl⟩

/-- The device with other channels. -/
def Dev.withCh (s : Dev) (T : Tab AdcCh) : Dev := { s with adc := { s.adc with ch := T } }

theorem Dev.setAdcCh_withCh (T : Tab AdcCh) (k : Nat) (y : AdcCh) : (s.withCh T).setAdcCh k y = s.withCh (Tab.set AdcCh.idle T k y) := rfl

/-- What a channel that has taken its conversion holds (R270, R271). -/
def AdcCh.Took (y x : AdcCh) (r num : Int) (noconv : Bool) : Prop :=
  (noconv = true → ∃ l, y.hist = none :: l) ∧
  (noconv = false → rawOver r = true → (∃ l, y.hist = some ⟨(if 0 ≤ r then 0x7FFF else -0x8000) * 2 ^ 32, true⟩ :: l) ∧ y.ovl = true) ∧
  (noconv = false → rawOver r = false → outside16 (roundDiv true num (2 ^ 32)) = false → x.hold = 0 → (∃ l, y.hist = some ⟨num, false⟩ :: l) ∧ y.inv = x.inv)

/-- A channel takes its conversion (R270, R271, R273). -/
def AdcCh.takeConv (x : AdcCh) (t : Nat) (r num0 : Int) : AdcCh :=
  let held := decide (0 < x.hold)
  let x := x.judge t r
  let num := if rawOver r then (if 0 ≤ r then 0x7FFF else -0x8000) * 2 ^ 32 else num0
  let ovr := rawOver r || held || outside16 (roundDiv true num (2 ^ 32))
  let x := if rawOver r then x else { x with hold := x.hold - 1 }
  { x with hist := (some { num := num, ovr := ovr } :: x.hist).take 16 }

theorem AdcCh.takeConv_took (x : AdcCh) (t : Nat) (r num : Int) : (x.takeConv t r num).Took x r num false := by
  refine ⟨fun h => absurd h Bool.false_ne_true, fun _ hr => ?_, fun _ hr ho hh => ?_⟩
  · unfold AdcCh.takeConv AdcCh.judge
    simp only [hr, if_true, Bool.true_or, List.take_succ_cons]
    exact ⟨⟨_, rfl⟩, trivial⟩
  · have hj : (x.judge t r).inv = x.inv ∧ (x.judge t r).hold = x.hold := by
      unfold AdcCh.judge
      rw [hr]
      cases x.ovl <;> exact ⟨rfl, rfl⟩
    unfold AdcCh.takeConv
    simp only [hr, hh, Bool.false_eq_true, if_false, ho, Bool.or_false, Nat.lt_irrefl, decide_false, List.take_succ_cons]
    exact ⟨⟨_, rfl⟩, hj.1⟩

theorem Dev.adcTake_eq {t c : Nat} (raws : List Int) (he : s.adcIndex t % 2 = 0) : s.adcTake t raws c =
    s.setAdcCh c (if s.adcNoConv t c then { s.adcCh c with hist := (none :: (s.adcCh c).hist).take 16 } else (s.adcCh c).takeConv t (raws.getD c 0) (s.adcCorrect c c (raws.getD c 0))) := by
  have hv : s.adcConverter t c = c := if_neg (by omega)
  unfold Dev.adcTake
  dsimp only
  rw [hv]
  cases s.adcNoConv t c
  · rw [Bool.or_self, if_neg Bool.false_ne_true, if_neg Bool.false_ne_true]
    rfl
  · rfl

theorem Dev.adcTake_took {t c : Nat} {raws : List Int} (he : s.adcIndex t % 2 = 0) :
    ((s.adcTake t raws c).adcCh c).Took (s.adcCh c) (raws.getD c 0) (s.adcCorrect c c (raws.getD c 0)) (s.adcNoConv t c) := by
  rw [Dev.adcTake_eq raws he, Dev.adcCh_setAdcCh_same]
  cases hn : s.adcNoConv t c
  · exact AdcCh.takeConv_took ..
  · refine ⟨fun _ => ?_, fun h => absurd h.symm Bool.false_ne_true, fun h => absurd h.symm Bool.false_ne_true⟩
    simp only [if_true, List.take_succ_cons]
    exact ⟨_, rfl⟩

/-- The first pass over the channels that are due. -/
theorem Dev.adcTakes_spec {t c : Nat} (raws : List Int) {l : List Nat} (he : s.adcIndex t % 2 = 0) (hc : c ∈ l) (hn : l.Nodup) : ∃ T, s.each l (fun s c => s.adcTake t raws c) = s.withCh T ∧
    ((s.withCh T).adcCh c).Took (s.adcCh c) (raws.getD c 0) (s.adcCorrect c c (raws.getD c 0)) (s.adcNoConv t c) := by
  have hno : ∀ T, (s.withCh T).adcCh c = s.adcCh c → (s.withCh T).adcNoConv t c = s.adcNoConv t c := fun T h => by
    unfold Dev.adcNoConv
    rw [h]
    rfl
  refine Dev.each_once (fun v => ∃ T, v = s.withCh T ∧ (s.withCh T).adcCh c = s.adcCh c)
    (fun v => ∃ T, v = s.withCh T ∧ ((s.withCh T).adcCh c).Took (s.adcCh c) (raws.getD c 0) (s.adcCorrect c c (raws.getD c 0)) (s.adcNoConv t c)) l (fun s c => s.adcTake t raws c) hc hn
    (fun v k _ hk ⟨T, hv, hT⟩ => ?_) (fun v ⟨T, hv, hT⟩ => ?_) (fun v k _ hk ⟨T, hv, hT⟩ => ?_) s ⟨s.adc.ch, rfl, rfl⟩
  · obtain ⟨y, hy⟩ := Dev.adcTake_setCh (s := v) t raws k
    exact ⟨Tab.set AdcCh.idle T k y, by rw [hy, hv]; rfl, (Dev.adcCh_setAdcCh_other (s := s.withCh T) y hk.symm).trans hT⟩
  · obtain ⟨y, hy⟩ := Dev.adcTake_setCh (s := v) t raws c
    refine ⟨Tab.set AdcCh.idle T c y, by rw [hy, hv]; rfl, ?_⟩
    have htook := Dev.adcTake_took (s := s.withCh T) (t := t) (c := c) (raws := raws) he
    rw [hT, hno T hT, ← hv, hy, hv] at htook
    exact htook
  · obtain ⟨y, hy⟩ := Dev.adcTake_setCh (s := v) t raws k
    refine ⟨Tab.set AdcCh.idle T k y, by rw [hy, hv]; rfl, ?_⟩
    rw [← Dev.setAdcCh_withCh, Dev.adcCh_setAdcCh_other _ hk.symm]
    exact hT

/-! ### The second pass -/

/-- The marks of a word in the status of ADC (R278). -/
def Dev.adcMark (s : Dev) (w c : Nat) : Dev :=
  let s := s.setBit F.ADC_STAT_ACTIVE c (!wNoConv w)
  let s := s.iff (wOvr w) (fun s => (s.setBit F.ADC_STAT_OVR c true).inc F.ADC_CNT_OVR_CNT 1 c)
  s.iff (!wValid w && !wNoConv w) (fun s => s.inc F.ADC_CNT_INV_CNT 1 c)

theorem Dev.adcSend_eq (t c : Nat) : ∃ y : AdcCh, s.adcSend t c = ((s.setAdcCh c y).put F.ADC_LAST_WORD (s.adcWord t c) c).adcMark (s.adcWord t c) c ∧ y.ovl = (s.adcCh c).ovl := ⟨_, rfl, rfl⟩

/-- A place that a field of ADC does not share. -/
theorem Dev.fb_befall_place {F G : Fld} (g : Nat → Nat) {j b i : Nat} (h : G.blk ≠ F.blk ∨ G.key b i 0 ≠ F.key 0 j 0) : (s.befall F g j 0).fb G b i 0 = s.fb G b i 0 :=
  (Dev.befall_fb ..).trans (Dev.fb_putb_other _ _ _ _ _ _ _ h)

theorem Dev.adcMark_fb {G : Fld} {w c b i : Nat} (h1 : G.blk ≠ .adc ∨ G.key b i 0 ≠ F.ADC_STAT_ACTIVE.key 0 0 0) (h2 : wOvr w = true → G.blk ≠ .adc ∨ G.key b i 0 ≠ F.ADC_STAT_OVR.key 0 0 0)
    (h3 : G.blk ≠ .adc ∨ G.key b i 0 ≠ F.ADC_CNT_OVR_CNT.key 0 c 0) (h4 : G.blk ≠ .adc ∨ G.key b i 0 ≠ F.ADC_CNT_INV_CNT.key 0 c 0) : (s.adcMark w c).fb G b i 0 = s.fb G b i 0 := by
  refine (Dev.iff_keeps _ (fun u => u.fb G b i 0) _ _ fun _ => Dev.fb_befall_place _ h4).trans ((Dev.iff_keeps _ (fun u => u.fb G b i 0) _ _ fun ho => ?_).trans (Dev.fb_befall_place _ h1))
  exact (Dev.fb_befall_place _ h3).trans (Dev.fb_befall_place _ (h2 ho))

theorem Dev.adcMark_keeps (w c : Nat) : s.Keeps [.adc] s.out (s.adcMark w c) ∧ (s.adcMark w c).acore = s.acore := by
  constructor
  · have h1 : s.Keeps [.adc] s.out (s.setBit F.ADC_STAT_ACTIVE c (!wNoConv w)) := (Dev.keeps_refl _ s).setBit (by decide) _ _ _ _
    have h2 := h1.iff (wOvr w) (fun s => (s.setBit F.ADC_STAT_OVR c true).inc F.ADC_CNT_OVR_CNT 1 c) fun _ => (h1.setBit (by decide) _ _ _ _).inc (by decide) _ _ _
    exact h2.iff _ _ fun _ => h2.inc (by decide) _ _ _
  · refine (Dev.iff_keeps _ Dev.acore _ _ fun _ => Dev.acore_befall ..).trans ((Dev.iff_keeps _ Dev.acore _ _ fun _ => ?_).trans (Dev.acore_befall ..))
    exact (Dev.acore_befall ..).trans (Dev.acore_befall ..)

theorem Dev.bit_setBit (G : Fld) (k j : Nat) (b : Bool) (h : j < G.w) : bitOf ((s.setBit G k b).f G) j = if j = k then b else bitOf (s.f G) j := by
  rw [Dev.setBit, show (s.befall G (fun x => putBit x k b)).f G = _ from Dev.befall_fb .., show (s.put G (putBit (s.f G) k b)).fb G 0 = _ from Dev.f_put_same .., bitOf_mod h]
  split
  · rename_i e
    rw [e]
    exact bitOf_putBit_same ..
  · exact bitOf_putBit_other _ _ ‹_›

/-- The status bits of a channel after the marks of a word of another, or of its own. -/
theorem Dev.adcMark_active (w c j : Nat) (hj : j < 16) : bitOf ((s.adcMark w c).f F.ADC_STAT_ACTIVE) j = if j = c then !wNoConv w else bitOf (s.f F.ADC_STAT_ACTIVE) j := by
  have h : (s.adcMark w c).f F.ADC_STAT_ACTIVE = (s.setBit F.ADC_STAT_ACTIVE c (!wNoConv w)).f F.ADC_STAT_ACTIVE := by
    refine (Dev.iff_keeps _ (fun u => u.f F.ADC_STAT_ACTIVE) _ _ fun _ => Dev.f_inc_clear _ _ _ _ _ _ (by decide)).trans (Dev.iff_keeps _ (fun u => u.f F.ADC_STAT_ACTIVE) _ _ fun _ => ?_)
    exact (Dev.f_inc_clear _ _ _ _ _ _ (by decide)).trans (Dev.f_setBit_clear _ _ _ _ _ _ _ (by decide))
  rw [h]
  exact Dev.bit_setBit _ _ _ _ hj

theorem Dev.adcMark_ovr (w c j : Nat) (hj : j < 16) : bitOf ((s.adcMark w c).f F.ADC_STAT_OVR) j = ((decide (j = c) && wOvr w) || bitOf (s.f F.ADC_STAT_OVR) j) := by
  have h : (s.adcMark w c).f F.ADC_STAT_OVR = ((s.setBit F.ADC_STAT_ACTIVE c (!wNoConv w)).iff (wOvr w) fun s => s.setBit F.ADC_STAT_OVR c true).f F.ADC_STAT_OVR := by
    refine (Dev.iff_keeps _ (fun u => u.f F.ADC_STAT_OVR) _ _ fun _ => Dev.f_inc_clear _ _ _ _ _ _ (by decide)).trans ?_
    cases wOvr w
    · rfl
    · exact Dev.f_inc_clear _ _ _ _ _ _ (by decide)
  have ha : (s.setBit F.ADC_STAT_ACTIVE c (!wNoConv w)).f F.ADC_STAT_OVR = s.f F.ADC_STAT_OVR := Dev.f_setBit_clear _ _ _ _ _ _ _ (by decide)
  rw [h]
  cases wOvr w
  · rw [Dev.iff, if_neg Bool.false_ne_true, ha, Bool.and_false, Bool.false_or]
  · rw [Dev.iff, if_pos rfl, Dev.bit_setBit _ _ _ _ hj, ha, Bool.and_true]
    by_cases e : j = c
    · rw [if_pos e, decide_eq_true e, Bool.true_or]
    · rw [if_neg e, decide_eq_false e, Bool.false_or]

/-! ### What the words of an instant rest on -/

/-- The grid and the settings of the channels are the same. -/
structure Dev.SameGrid (s u : Dev) : Prop where
  role   : u.role = s.role
  origin : u.adc.origin = s.adc.origin
  phase  : u.f F.GLOBAL_CYCLE_PHASE_PHASE = s.f F.GLOBAL_CYCLE_PHASE_PHASE
  mux    : ∀ c, u.fi F.ADC_CH_CFG_MUX c = s.fi F.ADC_CH_CFG_MUX c
  filt   : ∀ c, u.fi F.ADC_CH_CFG_FILT c = s.fi F.ADC_CH_CFG_FILT c

theorem Dev.SameGrid.trans {u v : Dev} (h : s.SameGrid u) (k : u.SameGrid v) : s.SameGrid v :=
  ⟨k.role.trans h.role, k.origin.trans h.origin, k.phase.trans h.phase, fun c => (k.mux c).trans (h.mux c), fun c => (k.filt c).trans (h.filt c)⟩

theorem Dev.SameGrid.index {u : Dev} (h : s.SameGrid u) (t : Nat) : u.adcIndex t = s.adcIndex t := by
  have ho : u.adcOrigin = s.adcOrigin := by
    unfold Dev.adcOrigin
    rw [h.role, h.origin, h.phase]
  rw [Dev.adcIndex, Dev.adcIndex, ho]

theorem Dev.SameGrid.due {u : Dev} (h : s.SameGrid u) (t : Nat) : u.adcDue t = s.adcDue t := by
  have hpair : ∀ c, u.adcPair c = s.adcPair c := fun c => by rw [Dev.adcPair, Dev.adcPair, h.mux]
  have hodd : ∀ c, u.adcOdd c = s.adcOdd c := fun c => by rw [Dev.adcOdd, Dev.adcOdd, h.mux]
  have ht : u.adcTurn t = s.adcTurn t := funext fun c => by rw [Dev.adcTurn, Dev.adcTurn, hodd, hpair, h.index]
  rw [Dev.adcDue, Dev.adcDue, h.role, ht]

theorem Dev.sameGrid_withCh (T : Tab AdcCh) : s.SameGrid (s.withCh T) := ⟨rfl, rfl, rfl, fun _ => rfl, fun _ => rfl⟩

theorem Dev.adcSend_sameGrid (t c : Nat) : s.SameGrid (s.adcSend t c) ∧ s.Keeps [.adc] s.out (s.adcSend t c) := by
  obtain ⟨y, hy, -⟩ := Dev.adcSend_eq (s := s) t c
  rw [hy]
  generalize s.adcWord t c = w
  have hk : s.Keeps [.adc] s.out (((s.setAdcCh c y).put F.ADC_LAST_WORD w c).adcMark w c) :=
    (((Dev.keeps_refl _ s).setAdcCh (by decide) _ _).put (by decide) _ _ _).next (Dev.adcMark_keeps _ _).1 (by decide)
  have ho : (((s.setAdcCh c y).put F.ADC_LAST_WORD w c).adcMark w c).acore = (s.setAdcCh c y).acore := (Dev.adcMark_keeps _ _).2.trans (Dev.acore_put ..)
  have hf : ∀ (G : Fld) (k : Nat), (0 < G.lo ∧ G.lo < 64 ∧ G.lo ≠ 16) → (((s.setAdcCh c y).put F.ADC_LAST_WORD w c).adcMark w c).fi G k = s.fi G k := fun G k ⟨h1, h2, h3⟩ => by
    have hne : ∀ (F : Fld) (j : Nat), F.lo = 0 ∨ F.lo = 16 → G.key inForce k 0 ≠ F.key 0 j 0 := fun F j hF e => by
      have := congrArg (· % 64) e
      simp only [G.key_mod h2, F.key_mod (show F.lo < 64 by omega)] at this
      omega
    refine (Dev.adcMark_fb (.inr (hne _ _ (.inl rfl))) (fun _ => .inr (hne _ _ (.inr rfl))) (.inr (hne _ _ (.inr rfl))) (.inr (hne _ _ (.inl rfl)))).trans ?_
    exact (Dev.fb_putb_other _ _ _ _ _ _ _ (.inr (hne _ _ (.inl rfl)))).trans (Dev.fb_setAdc rfl ..)
  refine ⟨⟨hk.role_eq, ?_, hk.f_eq (by decide) _ _, fun k => hf _ k (by decide), fun k => hf _ k (by decide)⟩, hk⟩
  exact show (((s.setAdcCh c y).put F.ADC_LAST_WORD w c).adcMark w c).acore.origin = s.acore.origin by rw [ho]; rfl

/-! ### The word of a channel without a filter -/

/-- The mark of an overload beside a channel (R271). -/
def Dev.adcNovr (s : Dev) (t c : Nat) : Bool :=
  (decide (0 < c) && (s.adcCh (c - 1)).marks t && !s.adcOdd (c - 1)) || ((s.adcCh (c + 1)).marks t && !s.adcOdd (c + 1))

theorem Dev.adcWord_none {t c : Nat} {l : List (Option AdcConv)} (hf : s.fi F.ADC_CH_CFG_FILT c = 0) (hh : (s.adcCh c).hist = none :: l) :
    s.adcWord t c = sampleWord (s.adcIndex t) c true (s.adcNovr t c) false false 0 := by
  have hwin : ((s.adcCh c).hist.take (2 ^ s.fi F.ADC_CH_CFG_FILT c)).filterMap id = [] := by rw [hf, hh]; rfl
  have h : s.adcWord t c = s.adcIndex t % 256 * 2 ^ 24 + c * 2 ^ 20 + 2 ^ 19 + b2n (s.adcNovr t c) * 2 ^ 18 := by
    unfold Dev.adcWord
    dsimp only
    rw [hwin]
    rfl
  rw [h, sampleWord, show b2n true = 1 from rfl, show b2n false = 0 from rfl]
  omega

theorem Dev.adcWord_some {t c : Nat} {a : AdcConv} {l : List (Option AdcConv)} (hf : s.fi F.ADC_CH_CFG_FILT c = 0) (hh : (s.adcCh c).hist = some a :: l) :
    s.adcWord t c = sampleWord (s.adcIndex t) c false (s.adcNovr t c) (outside16 (roundDiv true a.num (2 ^ 32)) || a.ovr) (decide ((s.adcCh c).inv = 0))
      (wrap 16 (satS 16 (roundDiv true a.num (2 ^ 32)))) := by
  have hwin : ((s.adcCh c).hist.take (2 ^ s.fi F.ADC_CH_CFG_FILT c)).filterMap id = [a] := by rw [hf, hh]; rfl
  have hd : roundDiv true ([a].foldl (fun x v => x + v.num) 0) ([a].length * 2 ^ 32) = roundDiv true a.num (2 ^ 32) := by
    rw [List.foldl_cons, List.foldl_nil, Int.zero_add, List.length_singleton, Nat.one_mul]
  have hv : (decide ([a].length = 2 ^ s.fi F.ADC_CH_CFG_FILT c) && decide ((s.adcCh c).inv = 0)) = decide ((s.adcCh c).inv = 0) := by rw [hf]; rfl
  have ho : [a].any AdcConv.ovr = a.ovr := Bool.or_false _
  have h : s.adcWord t c = s.adcIndex t % 256 * 2 ^ 24 + c * 2 ^ 20 + b2n (s.adcNovr t c) * 2 ^ 18 + b2n (outside16 (roundDiv true a.num (2 ^ 32)) || a.ovr) * 2 ^ 17 +
      b2n (decide ((s.adcCh c).inv = 0)) * 2 ^ 16 + wrap 16 (satS 16 (roundDiv true a.num (2 ^ 32))) := by
    unfold Dev.adcWord
    dsimp only
    rw [hwin, hd, hv, ho]
    rfl
  rw [h, sampleWord, show b2n false = 0 from rfl]
  omega

/-! ### An instant -/

/-- The second pass over the channels that are due: the word of one, and what it marks. -/
theorem Dev.adcSends_spec {t c : Nat} {l : List Nat} (hc : c ∈ l) (hn : l.Nodup) (hl : ∀ k ∈ l, k < 16) : let u := s.each l fun s c => s.adcSend t c
    s.SameGrid u ∧ s.Keeps [.adc] s.out u ∧ ∃ v : Dev, s.SameGrid v ∧ v.adcCh c = s.adcCh c ∧ u.f F.ADC_LAST_WORD c = v.adcWord t c % 2 ^ 32 ∧ (u.adcCh c).ovl = (s.adcCh c).ovl ∧
      (wOvr (v.adcWord t c) = true → bitOf (u.f F.ADC_STAT_OVR) c = true) ∧ bitOf (u.f F.ADC_STAT_ACTIVE) c = !wNoConv (v.adcWord t c) := by
  have hch : ∀ (v : Dev) (k : Nat), ∃ y : AdcCh, y.ovl = (v.adcCh k).ovl ∧ ∀ j, (v.adcSend t k).adcCh j = (v.setAdcCh k y).adcCh j := fun v k => by
    obtain ⟨y, hy, ho⟩ := Dev.adcSend_eq (s := v) t k
    refine ⟨y, ho, fun j => Dev.adcCh_of_acore ?_ j⟩
    rw [hy]
    exact (Dev.adcMark_keeps _ _).2.trans (Dev.acore_put ..)
  refine Dev.each_once (fun v => s.SameGrid v ∧ s.Keeps [.adc] s.out v ∧ v.adcCh c = s.adcCh c) (fun u => s.SameGrid u ∧ s.Keeps [.adc] s.out u ∧ ∃ v : Dev, s.SameGrid v ∧ v.adcCh c = s.adcCh c ∧
      u.f F.ADC_LAST_WORD c = v.adcWord t c % 2 ^ 32 ∧ (u.adcCh c).ovl = (s.adcCh c).ovl ∧ (wOvr (v.adcWord t c) = true → bitOf (u.f F.ADC_STAT_OVR) c = true) ∧
      bitOf (u.f F.ADC_STAT_ACTIVE) c = !wNoConv (v.adcWord t c)) l _ hc hn (fun v k _ hk ⟨h1, h2, h3⟩ => ?_) (fun v ⟨h1, h2, h3⟩ => ?_) (fun u k hkl hk ⟨h1, h2, v, h3, h4, h5, h6, h7, h8⟩ => ?_) s
      ⟨⟨rfl, rfl, rfl, fun _ => rfl, fun _ => rfl⟩, Dev.keeps_refl _ s, rfl⟩
  · obtain ⟨g1, g2⟩ := Dev.adcSend_sameGrid (s := v) t k
    obtain ⟨y, -, hy⟩ := hch v k
    exact ⟨h1.trans g1, h2.next g2 (by decide), (hy c).trans ((Dev.adcCh_setAdcCh_other _ hk.symm).trans h3)⟩
  · obtain ⟨g1, g2⟩ := Dev.adcSend_sameGrid (s := v) t c
    obtain ⟨y, ho, hy⟩ := hch v c
    obtain ⟨z, hz, -⟩ := Dev.adcSend_eq (s := v) t c
    have hc16 := hl c hc
    refine ⟨h1.trans g1, h2.next g2 (by decide), v, h1, h3, ?_, ?_, ?_, ?_⟩
    · rw [hz]
      refine (Dev.adcMark_fb (b := 0) (.inr ?_) (fun _ => .inr ?_) (.inr ?_) (.inr ?_)).trans (Dev.f_put_same ..)
      all_goals
        unfold Fld.key
        simp only [F.ADC_LAST_WORD, F.ADC_STAT_ACTIVE, F.ADC_STAT_OVR, F.ADC_CNT_OVR_CNT, F.ADC_CNT_INV_CNT]
        omega
    · rw [hy, Dev.adcCh_setAdcCh_same, ho, h3]
    · intro hw
      rw [hz, Dev.adcMark_ovr _ _ _ hc16, hw, decide_eq_true rfl]
      rfl
    · rw [hz, Dev.adcMark_active _ _ _ hc16, if_pos rfl]
  · obtain ⟨g1, g2⟩ := Dev.adcSend_sameGrid (s := u) t k
    obtain ⟨y, -, hy⟩ := hch u k
    obtain ⟨z, hz, -⟩ := Dev.adcSend_eq (s := u) t k
    have hc16 := hl c hc
    have hk16 := hl k hkl
    have hf : ∀ (G : Fld), G.clear F.ADC_LAST_WORD = true → ((u.setAdcCh k z).put F.ADC_LAST_WORD (u.adcWord t k) k).f G = u.f G := fun G hG =>
      (Dev.f_put_clear _ _ _ _ _ _ hG).trans (Dev.f_setAdcCh ..)
    refine ⟨h1.trans g1, h2.next g2 (by decide), v, h3, h4, ?_, ?_, ?_, ?_⟩
    · rw [← h5, hz]
      refine (Dev.adcMark_fb (b := 0) (.inr ?_) (fun _ => .inr ?_) (.inr ?_) (.inr ?_)).trans ((Dev.f_put_index _ _ _ _ _ (by decide) hk.symm).trans (Dev.f_setAdcCh ..))
      all_goals
        unfold Fld.key
        simp only [F.ADC_LAST_WORD, F.ADC_STAT_ACTIVE, F.ADC_STAT_OVR, F.ADC_CNT_OVR_CNT, F.ADC_CNT_INV_CNT]
        omega
    · rw [hy, Dev.adcCh_setAdcCh_other _ hk.symm, h6]
    · intro hw
      rw [hz, Dev.adcMark_ovr _ _ _ hc16, hf _ (by decide), h7 hw, Bool.or_true]
    · rw [hz, Dev.adcMark_active _ _ _ hc16, if_neg hk.symm, hf _ (by decide), h8]

theorem Dev.adcDue_spec (t : Nat) : (s.adcDue t).Nodup ∧ ∀ k ∈ s.adcDue t, k < 16 := by
  refine ⟨List.nodup_range.filter _, fun k hk => ?_⟩
  have h := List.mem_range.mp (List.mem_filter.mp hk).1
  have : adcChans s.role ≤ 16 := by cases s.role <;> decide
  omega

theorem Dev.Keeps.adcXferAt {u : Dev} {own : List Blk} {outs : List Out} (h : s.Keeps own outs u) (hb : .adc ∈ own) (t : Nat) : s.Keeps own outs (u.adcXferAt t) := by
  refine .ite _ (fun _ => h) fun _ => h.each _ _ fun v c _ hv => ?_
  have hflds : ∀ R ∈ [F.regAdcChCfg, F.regAdcCor], ∀ G ∈ R.flds, G.blk.home ∈ own := fun R hR G hG => by
    have : G.blk = .adc := by
      rcases List.mem_cons.mp hR with rfl | hR
      · fin_cases hG <;> rfl
      · rw [List.mem_singleton.mp hR] at hG
        fin_cases hG <;> rfl
    rw [this]
    exact hb
  rw [Dev.adcXfer]
  refine Dev.Keeps.xferReg (Dev.Keeps.xferReg ?_ _ (hflds _ List.mem_cons_self) _ _) _ (hflds _ (List.mem_cons_of_mem _ List.mem_cons_self)) _ _
  exact (hv.setAdcCh hb _ _).iff _ _ fun _ => (hv.setAdcCh hb _ _).setAdcCh hb _ _

/-- The words of an instant reach the recorder and the count of the overvoltage check: nothing of ADC changes (R250, R367). -/
theorem Dev.conversion_tail (raws : List Int) : (s.adcConvert raws).Keeps [.reel, .gate] (s.adcConvert raws).out (s.conversion raws) := by
  have hov : ∀ v : Dev, (s.adcConvert raws).Keeps [.reel, .gate] (s.adcConvert raws).out v → (s.adcConvert raws).Keeps [.reel, .gate] (s.adcConvert raws).out v.ovxCount := fun v hv =>
    .ite _ (fun _ => hv) fun _ => hv.setGate (by decide) _
  rw [Dev.conversion]
  have h := (Dev.keeps_refl [.reel, .gate] (s.adcConvert raws)).each ((s.adcConvert raws).adcDue s.adcNext) (fun s c => s.reelUpdate kAdc c (s.f F.ADC_LAST_WORD c)) fun v c _ hv => hv.reelUpdate (by decide) _ _ _
  exact h.iff _ _ fun _ => hov _ h

/-- The conversion of a channel that is due at an even index (R267 to R273). -/
theorem Dev.conversion_spec (raws : List Int) {c : Nat} : let t := s.adcNext
    let x := (s.advanceTo t).adcXferAt t
    c ∈ x.adcDue t → x.adcIndex t % 2 = 0 → ∃ v : Dev, x.SameGrid v ∧
      (v.adcCh c).Took (x.adcCh c) (raws.getD c 0) (x.adcCorrect c c (raws.getD c 0)) (x.adcNoConv t c) ∧ (s.conversion raws).f F.ADC_LAST_WORD c = v.adcWord t c % 2 ^ 32 ∧
      ((s.conversion raws).adcCh c).ovl = (v.adcCh c).ovl ∧ (wOvr (v.adcWord t c) = true → bitOf ((s.conversion raws).f F.ADC_STAT_OVR) c = true) ∧
      bitOf ((s.conversion raws).f F.ADC_STAT_ACTIVE) c = (!wNoConv (v.adcWord t c)) ∧ (s.conversion raws).adc.last = some t ∧ (s.conversion raws).role = s.role := by
  intro t x hc he
  have hx : s.Keeps [.adc, .time] s.out x := ((Dev.keeps_refl _ s).advanceTo (by decide) _).adcXferAt (by decide) _
  obtain ⟨hn, h16⟩ := x.adcDue_spec t
  obtain ⟨T, hT, htook⟩ := Dev.adcTakes_spec raws he hc hn
  have hdue : (x.withCh T).adcDue t = x.adcDue t := (x.sameGrid_withCh T).due t
  obtain ⟨s1, s2, v, v1, v2, v3, v4, v5, v6⟩ := Dev.adcSends_spec (s := x.withCh T) (t := t) hc hn h16
  have hconv : s.adcConvert raws = { (x.withCh T).each (x.adcDue t) (fun s c => s.adcSend t c) with
      adc := { ((x.withCh T).each (x.adcDue t) (fun s c => s.adcSend t c)).adc with last := some t } } := by
    unfold Dev.adcConvert
    dsimp only
    rw [show ((s.advanceTo s.adcNext).adcXferAt s.adcNext).each (((s.advanceTo s.adcNext).adcXferAt s.adcNext).adcDue s.adcNext) (fun s_1 c => s_1.adcTake s.adcNext raws c) = x.withCh T from hT, hdue]
  have htail := Dev.conversion_tail (s := s) raws
  generalize (x.withCh T).each (x.adcDue t) (fun s c => s.adcSend t c) = u at s1 s2 v3 v4 v5 v6 hconv
  have hf : ∀ (G : Fld) (i : Nat), G.blk = .adc → (s.conversion raws).f G i = u.f G i := fun G i hG => by
    rw [htail.f_eq (by rw [hG]; decide), hconv]
    exact Dev.fb_setAdc rfl ..
  have hadc : (s.conversion raws).adc = { u.adc with last := some t } := by rw [htail.adc_eq, hconv]
  have hrole : (s.conversion raws).role = u.role := by rw [htail.role_eq, hconv]
  refine ⟨v, (x.sameGrid_withCh T).trans v1, by rw [v2]; exact htook, (hf _ _ rfl).trans v3, ?_, fun h => by rw [hf _ _ rfl]; exact v5 h, by rw [hf _ _ rfl]; exact v6, by rw [hadc], ?_⟩
  · have hch : (s.conversion raws).adc.ch = u.adc.ch := by rw [hadc]
    rw [v2, ← v4, Dev.adcCh, hch]
    rfl
  · rw [hrole, s2.role_eq]
    exact hx.role_eq
end

/-! ### O30 -/

/-- Settles O30. -/
theorem conversionWords : Obligations.ConversionWords := by
  intro s raws c d t x r y hon hg hd hc hp he hfilt head
  have hwhen : s.Runs (.conversion raws) (d.conversion raws) := by
    refine s.runs_conversion.of_eq (if_neg ?_)
    rintro (h | h | h | h)
    · rw [show s.dev.role = .none from h] at hon
      exact absurd hon (by decide)
    · exact h hon
    · exact Bool.false_ne_true (hg.symm.trans h)
    · exact Bool.false_ne_true (hd.symm.trans h)
  obtain ⟨v, v1, ⟨k1, k2, k3⟩, v3, v4, v5, v6, v7, v8⟩ := Dev.conversion_spec (s := d) raws hc he
  have h16 := (x.adcDue_spec t).2 c hc
  have hf : v.fi F.ADC_CH_CFG_FILT c = 0 := (v1.filt c).trans hfilt
  have hidx : v.adcIndex t = x.adcIndex t := v1.index t
  refine ⟨fun hno hr ho hh hi => hwhen.does ?_, fun hno hr => hwhen.does ?_, fun hno => hwhen.does ?_⟩
  · obtain ⟨⟨l, hl⟩, hinv⟩ := k3 hno hr ho hh
    obtain ⟨hy1, hy2⟩ := outside16_false ho
    obtain ⟨w1, w2, w3, w4, w5, w6, w7⟩ := sampleWord_spec (k := v.adcIndex t) (x := wrap 16 (satS 16 y)) false (v.adcNovr t c) false true h16 (wrap_lt _ _)
    have hw : v.adcWord t c = sampleWord (v.adcIndex t) c false (v.adcNovr t c) false true (wrap 16 (satS 16 y)) := by
      rw [Dev.adcWord_some hf hl, hinv, hi]
      dsimp only
      rw [ho]
      rfl
    rw [hw, w1] at v3
    dsimp only
    rw [v3]
    exact ⟨⟨w2.trans (by rw [hidx]), w3⟩, w4, w5, w6, w7.trans (by rw [satS16_of_range hy1 hy2, sgn16_wrap hy1 hy2]), v7, v8⟩
  · obtain ⟨⟨l, hl⟩, hov⟩ := k2 hno hr
    have hy : roundDiv true ((if 0 ≤ r then 0x7FFF else -0x8000) * 2 ^ 32) (2 ^ 32) = if 0 ≤ r then 0x7FFF else -0x8000 := roundDiv_mul _
    have hr1 : (-0x8000 : Int) ≤ (if 0 ≤ r then 0x7FFF else -0x8000) := by split <;> decide
    have hr2 : (if 0 ≤ r then 0x7FFF else -0x8000 : Int) ≤ 0x7FFF := by split <;> decide
    obtain ⟨w1, w2, w3, w4, w5, w6, w7⟩ := sampleWord_spec (k := v.adcIndex t) (x := wrap 16 (if 0 ≤ r then 0x7FFF else -0x8000)) false (v.adcNovr t c) true (decide ((v.adcCh c).inv = 0)) h16 (wrap_lt _ _)
    have hw : v.adcWord t c = sampleWord (v.adcIndex t) c false (v.adcNovr t c) true (decide ((v.adcCh c).inv = 0)) (wrap 16 (if 0 ≤ r then 0x7FFF else -0x8000)) := by
      rw [Dev.adcWord_some hf hl]
      dsimp only
      rw [hy, satS16_of_range hr1 hr2, Bool.or_true]
    rw [hw, w1] at v3
    rw [hw] at v5
    dsimp only
    rw [v3]
    exact ⟨⟨w2.trans (by rw [hidx]), w3⟩, w4, w5, w7.trans (sgn16_wrap hr1 hr2), v4.trans hov, v5 w5⟩
  · obtain ⟨l, hl⟩ := k1 hno
    obtain ⟨w1, w2, w3, w4, w5, w6, -⟩ := sampleWord_spec (k := v.adcIndex t) (x := 0) true (v.adcNovr t c) false false h16 (by decide)
    rw [Dev.adcWord_none hf hl, w1] at v3
    rw [Dev.adcWord_none hf hl, w4] at v6
    dsimp only
    rw [v3]
    exact ⟨⟨w2.trans (by rw [hidx]), w3⟩, w4, w5, w6, v6⟩

end Sys2Proof.Machine
end

section
/-! The angle tracker (R279 to R288), and O32. -/

namespace Sys2Proof.Machine

section
variable {s : Dev}

theorem Dev.flag_off {G : Fld} {i j : Nat} (h : s.f G i j = 0) : s.flag G i j = false := decide_eq_false (not_not_intro h)

/-! ### The state of ANGLE -/

theorem Dev.fb_setAngle {x : Ang} (hx : x.regs = s.ang.regs) (G : Fld) (b i j : Nat) : ({ s with ang := x } : Dev).fb G b i j = s.fb G b i j :=
  Dev.fb_of_regs (u := { s with ang := x }) (s := s) rfl (by cases G.blk <;> simp [Dev.regsOf, hx]) ..

theorem Dev.inst_setRegs (t : Tab Nat) (b : Blk) : (s.setRegs t b).ang.inst = s.ang.inst := by cases b <;> rfl
theorem Dev.inst_put (G : Fld) (x i j : Nat) : (s.put G x i j).ang.inst = s.ang.inst := Dev.inst_setRegs ..
theorem Dev.inst_raise (G : Fld) (i j : Nat) : (s.raise G i j).ang.inst = s.ang.inst :=
  show ({ s.put G 1 i j with events := _ } : Dev).ang.inst = _ from Dev.inst_put ..

theorem Dev.angInst_of_inst {u : Dev} (h : u.ang.inst = s.ang.inst) (i : Nat) : u.angInst i = s.angInst i := by rw [Dev.angInst, h]; rfl

theorem Dev.angInst_setAng (i : Nat) (x : AngInst) : (s.setAng i x).angInst i = x := Tab.get_set_same ..
theorem Dev.f_setAng (i : Nat) (x : AngInst) (G : Fld) (k j : Nat) : (s.setAng i x).f G k j = s.f G k j := Dev.fb_setAngle rfl ..

variable {u : Dev} {own : List Blk} {outs : List Out}

theorem Dev.Keeps.setAngInst (h : s.Keeps own outs u) (hb : .angle ∈ own) (i : Nat) (x : AngInst) : s.Keeps own outs (Dev.setAng u i x) := Dev.Keeps.setAng h hb _
theorem Dev.Keeps.wmkLook (h : s.Keeps own outs u) (hb : .angle ∈ own) (t w : Nat) : s.Keeps own outs (u.wmkLook t w) := Dev.Keeps.setAng h hb _

/-- Of ANGLE, its instances and all fields but one are as they were, and of the other blocks everything. -/
structure Dev.AngLeaves (l : List Fld) (s u : Dev) : Prop where
  keeps : s.Keeps [.angle] s.out u
  inst  : u.ang.inst = s.ang.inst
  fld   : ∀ (G : Fld) (i j : Nat), (∀ F ∈ l, G.apart F = true) → u.f G i j = s.f G i j

theorem Dev.angLeaves_refl (l : List Fld) (s : Dev) : Dev.AngLeaves l s s := ⟨Dev.keeps_refl _ s, rfl, fun _ _ _ _ => rfl⟩

theorem Dev.AngLeaves.trans {l : List Fld} {v : Dev} (h : Dev.AngLeaves l s u) (k : Dev.AngLeaves l u v) : Dev.AngLeaves l s v :=
  ⟨h.keeps.next k.keeps (by decide), k.inst.trans h.inst, fun G i j hG => (k.fld G i j hG).trans (h.fld G i j hG)⟩

theorem Dev.AngLeaves.put {l : List Fld} (h : Dev.AngLeaves l s u) {F : Fld} (hb : F.blk = .angle) (hF : F ∈ l) (x i j : Nat) : Dev.AngLeaves l s (u.put F x i j) :=
  ⟨h.keeps.put (by rw [hb]; decide) _ _ _, (Dev.inst_put ..).trans h.inst, fun G k m hG => (Dev.f_put_apart _ _ _ _ _ _ (hG F hF)).trans (h.fld G k m hG)⟩

theorem Dev.AngLeaves.raise {l : List Fld} (h : Dev.AngLeaves l s u) {F : Fld} (hb : F.blk = .angle) (hF : F ∈ l) (i j : Nat) : Dev.AngLeaves l s (u.raise F i j) :=
  ⟨h.keeps.raise (by rw [hb]; decide) _ _, (Dev.inst_raise ..).trans h.inst, fun G k m hG => (Dev.f_raise_apart _ _ _ _ _ (hG F hF)).trans (h.fld G k m hG)⟩

theorem Dev.AngLeaves.setAng {l : List Fld} (h : Dev.AngLeaves l s u) (x : Ang) (hi : x.inst = u.ang.inst) (hr : x.regs = u.ang.regs) : Dev.AngLeaves l s { u with ang := x } :=
  ⟨Dev.Keeps.setAng h.keeps (by decide) _, hi.trans h.inst, fun G k m hG => (Dev.fb_setAngle hr ..).trans (h.fld G k m hG)⟩

theorem Dev.AngLeaves.iff {l : List Fld} (h : Dev.AngLeaves l s u) (c : Bool) (g : Dev → Dev) (hg : Dev.AngLeaves l s (g u)) : Dev.AngLeaves l s (u.iff c g) := by
  cases c
  · exact h
  · exact hg

theorem Dev.angLeaves_each {α : Type} {l : List Fld} (k : List α) (g : Dev → α → Dev) (hg : ∀ v, ∀ a ∈ k, Dev.AngLeaves l v (g v a)) (s : Dev) : Dev.AngLeaves l s (s.each k g) := by
  induction k generalizing s with
  | nil => exact Dev.angLeaves_refl l s
  | cons a k ih => exact (hg s a List.mem_cons_self).trans (ih (fun v b hb => hg v b (List.mem_cons_of_mem _ hb)) (g s a))

theorem Dev.angLeaves_wmkLook (l : List Fld) (t w : Nat) : Dev.AngLeaves l s (s.wmkLook t w) := (Dev.angLeaves_refl l s).setAng _ rfl rfl

theorem Dev.angLeaves_wmkTrack (l : List Fld) (i : Nat) : Dev.AngLeaves l s (s.wmkTrack i) := Dev.angLeaves_each _ _ (fun v w _ => v.angLeaves_wmkLook l _ w) s

/-- The angle is valid or not (R283, R284, R288). -/
theorem Dev.angValidate_spec (i : Nat) : Dev.AngLeaves [F.ANGLE_STAT_VALID] s (s.angValidate i) ∧
    (s.angValidate i).f F.ANGLE_STAT_VALID i = b2n (s.flag F.ANGLE_CFG_EN i && (s.isSynth i || (s.angInst i).ok) && !s.flag F.ANGLE_STAT_IDX_FAULT i) := by
  have hput := (Dev.angLeaves_refl [F.ANGLE_STAT_VALID] s).put (F := F.ANGLE_STAT_VALID) rfl List.mem_cons_self
    (b2n (s.flag F.ANGLE_CFG_EN i && (s.isSynth i || (s.angInst i).ok) && !s.flag F.ANGLE_STAT_IDX_FAULT i)) i 0
  have hlook : ∀ (l : List Fld) (v : Dev), Dev.AngLeaves l v (v.each (v.wmkOf i) fun s w => s.wmkLook s.now w) := fun l v => Dev.angLeaves_each _ _ (fun v w _ => v.angLeaves_wmkLook l _ w) v
  constructor
  · rw [Dev.angValidate]
    exact hput.iff _ _ (hput.trans (hlook _ _))
  · rw [Dev.angValidate]
    refine (Dev.f_iff _ _ _ _ _ _ fun _ => (hlook [] _).fld _ _ _ fun _ h => absurd h List.not_mem_nil).trans ?_
    exact (Dev.f_put_same ..).trans (b2n_mod _)

/-- A step of the angle that is no crossing (R287). -/
theorem Dev.angStepOver_leaves (i : Nat) (a d : Int) : Dev.AngLeaves [F.ANGLE_WMK_STAT_LATE] s (s.angStepOver i a d) := by
  refine Dev.angLeaves_each _ _ (fun v w _ => ?_) s
  have h := (Dev.angLeaves_refl [F.ANGLE_WMK_STAT_LATE] v).setAng { v.ang with seen := Tab.set (0, 0) v.ang.seen w ((Tab.get (0, 0) v.ang.seen w).1, (Tab.get (0, 0) v.ang.seen w).2 + d) } rfl rfl
  exact h.iff _ _ ((h.raise (F := F.ANGLE_WMK_STAT_LATE) rfl List.mem_cons_self w 0).setAng _ rfl rfl)

/-! ### An update -/

/-- The motion of an INST is the same. -/
def AngInst.SameMotion (x y : AngInst) : Prop := y.theta = x.theta ∧ y.omega = x.omega ∧ y.turn = x.turn ∧ y.upT = x.upT

theorem Dev.angMarks_motion (i t : Nat) (a : Int) (x : AngInst) : x.SameMotion (s.angMarks i t a x) := by
  unfold Dev.angMarks
  extract_lets sp n last y
  have hy : x.SameMotion y := by
    by_cases h : n = 0
    · rw [show y = x from if_pos h]
      exact ⟨rfl, rfl, rfl, rfl⟩
    · rw [show y = _ from if_neg h]
      exact ⟨rfl, rfl, rfl, rfl⟩
  exact hy

theorem Dev.angSpeedUpdate_spec (i t : Nat) (neg : Bool) : s.Keeps [.angle] s.out (s.angSpeedUpdate i t neg) ∧ (s.angInst i).SameMotion ((s.angSpeedUpdate i t neg).angInst i) := by
  unfold Dev.angSpeedUpdate
  extract_lets x diff v diff' slow s1 s2
  have hinst : ∀ c : Bool, (s2.iff c fun s => s.put F.ANGLE_STAT_STILL 0 i).ang.inst = s1.ang.inst := fun c =>
    (Dev.iff_keeps s2 (·.ang.inst) _ _ fun _ => Dev.inst_put ..).trans ((Dev.inst_put ..).trans (Dev.inst_put ..))
  have hk : s.Keeps [.angle] s.out s2 := (((Dev.keeps_refl _ s).setAngInst (by decide) _ _).put (by decide) _ _ _).put (by decide) _ _ _
  refine ⟨hk.iff _ _ fun _ => hk.put (by decide) _ _ _, ?_⟩
  rw [Dev.angInst_of_inst (hinst _), Dev.angInst_setAng]
  exact ⟨rfl, rfl, rfl, rfl⟩

/-- What taking the words of an instant leaves of an INST. -/
def AngInst.SameTracker (x y : AngInst) : Prop := y.theta = x.theta ∧ y.omega = x.omega ∧ y.turn = x.turn ∧ y.upT = x.upT ∧ y.ok = x.ok ∧ y.corr = x.corr

theorem Dev.resolverTake_same (x : AngInst) : x.SameTracker (s.resolverTake x) := by
  have hite : ∀ (c : Prop) [Decidable c] (y z : AngInst), x.SameTracker y → x.SameTracker z → x.SameTracker (if c then y else z) := fun c _ y z hy hz => by split <;> assumption
  have h0 : x.SameTracker x := ⟨rfl, rfl, rfl, rfl, rfl, rfl⟩
  unfold Dev.resolverTake
  extract_lets e g x1 x2 x3
  have h1 : x.SameTracker x1 := hite _ _ _ h0 h0
  have h2 : x.SameTracker x2 := hite _ _ _ h1 h1
  have h3 : x.SameTracker x3 := hite _ _ _ h2 h2
  exact hite _ _ _ h0 h3

theorem Dev.gridTake_same (i : Nat) (x : AngInst) : x.SameTracker (s.gridTake i x) := by
  unfold Dev.gridTake
  extract_lets a b c va vb vc
  split
  · exact ⟨rfl, rfl, rfl, rfl, rfl, rfl⟩
  · exact ⟨rfl, rfl, rfl, rfl, rfl, rfl⟩

/-- An INST after its motion and its marks (R281). -/
theorem Dev.angMoved_spec {g : Dev} (h : s.Keeps [.time, .angle] s.out g) (i t : Nat) (a : Int) (x : AngInst) (neg : Bool) :
    let u := (g.setAng i (g.angMarks i t a x)).angSpeedUpdate i t neg
    x.SameMotion (u.angInst i) ∧ s.Keeps [.time, .angle] s.out u := by
  obtain ⟨h1, h2⟩ := Dev.angSpeedUpdate_spec (s := g.setAng i (g.angMarks i t a x)) i t neg
  obtain ⟨m1, m2, m3, m4⟩ := Dev.angMarks_motion (s := g) i t a x
  rw [Dev.angInst_setAng] at h2
  obtain ⟨n1, n2, n3, n4⟩ := h2
  exact ⟨⟨n1.trans m1, n2.trans m2, n3.trans m3, n4.trans m4⟩, (h.setAngInst (by decide) _ _).next h1 (by decide)⟩

section
variable {i : Nat} (he : s.f F.ANGLE_CFG_EN i ≠ 0)

/-- The time of an update, and the device at it. -/
def Dev.angT (s : Dev) (i : Nat) : Nat := gridNext 0 50 s.now (some (s.angInst i).upT)
def Dev.angAt (s : Dev) (i : Nat) : Dev := s.advanceTo (s.angT i)

theorem Dev.angAt_spec (i : Nat) : s.Keeps [.time, .angle] s.out (s.angAt i) ∧ (s.angAt i).angInst i = s.angInst i ∧ (s.angAt i).isSynth i = s.isSynth i ∧
    ∀ (G : Fld) (k : Nat), G.apart F.TIME_INC_INC = true → (s.angAt i).f G k = s.f G k := by
  have hf : ∀ (G : Fld) (k : Nat), G.apart F.TIME_INC_INC = true → (s.angAt i).f G k = s.f G k := fun G k hG => Dev.advanceTo_f _ _ _ _ hG
  refine ⟨(Dev.keeps_refl _ s).advanceTo (by decide) _, ?_, ?_, hf⟩
  · obtain ⟨x, hx⟩ := s.advanceTo_withTime (s.angT i)
    rw [Dev.angAt, hx]
    rfl
  · rw [Dev.isSynth, hf _ _ (by decide)]
    rfl

include he in
theorem Dev.angUpdate_synth (hs : s.isSynth i = true) : let u := s.angUpdate i
    (u.angInst i).theta = (s.angAt i).synthAngle i (s.angT i) ∧ (u.angInst i).omega = (s.angAt i).angPath i (s.angT i) - (s.angInst i).turn ∧
    (u.angInst i).turn = (s.angAt i).angPath i (s.angT i) ∧ (u.angInst i).upT = s.angT i ∧ s.Keeps [.time, .angle] s.out u := by
  obtain ⟨hk, hi, hsy, -⟩ := Dev.angAt_spec (s := s) i
  have hu : s.angUpdate i = ((s.angAt i).setAng i ((s.angAt i).angMarks i (s.angT i) (s.angInst i).turn
      { s.angInst i with upT := s.angT i, theta := (s.angAt i).synthAngle i (s.angT i), omega := (s.angAt i).angPath i (s.angT i) - (s.angInst i).turn,
                         turn := (s.angInst i).turn + ((s.angAt i).angPath i (s.angT i) - (s.angInst i).turn) })).angSpeedUpdate i (s.angT i)
        (decide ((s.angAt i).angPath i (s.angT i) - (s.angInst i).turn < 0)) := by
    have hi' : (s.advanceTo (gridNext 0 50 s.now (some (s.angInst i).upT))).angInst i = s.angInst i := hi
    have hs' : (s.advanceTo (gridNext 0 50 s.now (some (s.angInst i).upT))).isSynth i = true := hsy.trans hs
    unfold Dev.angUpdate
    rw [if_neg (show ¬ ¬ s.flag F.ANGLE_CFG_EN i = true from not_not_intro (decide_eq_true he))]
    dsimp only
    rw [hi', if_pos hs']
    rfl
  obtain ⟨⟨m1, m2, m3, m4⟩, hk'⟩ := Dev.angMoved_spec hk i (s.angT i) (s.angInst i).turn
    { s.angInst i with upT := s.angT i, theta := (s.angAt i).synthAngle i (s.angT i), omega := (s.angAt i).angPath i (s.angT i) - (s.angInst i).turn,
                       turn := (s.angInst i).turn + ((s.angAt i).angPath i (s.angT i) - (s.angInst i).turn) } (decide ((s.angAt i).angPath i (s.angT i) - (s.angInst i).turn < 0))
  dsimp only
  rw [hu]
  exact ⟨m1, m2, m3.trans (add_sub_cancel _ _), m4, hk'⟩

/-- An INST that has taken the words of the instant (R279, R283). -/
def Dev.angTook (s : Dev) (i : Nat) : AngInst :=
  let x0 := { s.angInst i with upT := s.angT i }
  if s.f F.ANGLE_CFG_SRC i = 0 then (s.angAt i).resolverTake x0 else (s.angAt i).gridTake i x0

/-- Its amplitude is judged (R283). -/
def Dev.angJudged (s : Dev) (i : Nat) : AngInst :=
  let x1 := s.angTook i
  let a2 := satU 16 (roundDiv true (x1.sn * x1.sn + x1.cn * x1.cn) (2 ^ 14))
  let inside := decide ((s.angAt i).f F.ANGLE_AMP_WIN_AMIN i ≤ a2) && decide (a2 ≤ (s.angAt i).f F.ANGLE_AMP_WIN_AMAX i)
  { x1 with a2 := a2, outN := if inside then 0 else x1.outN + 1, inN := if inside then x1.inN + 1 else 0 }

theorem Dev.angTook_same (i : Nat) : ({ s.angInst i with upT := s.angT i } : AngInst).SameTracker (s.angTook i) := by
  unfold Dev.angTook
  dsimp only
  split
  · exact Dev.resolverTake_same _
  · exact Dev.gridTake_same _ _

include he in
theorem Dev.angUpdate_tracker (hs : s.isSynth i = false) : s.angUpdate i =
    if ¬ (s.angJudged i).ok then ((s.angAt i).setAng i ((s.angAt i).angMarks i (s.angT i) (s.angInst i).turn (s.angJudged i))).angSpeedUpdate i (s.angT i) ((s.angAt i).dirNeg i)
    else
      let x2 := s.angJudged i
      let x3 := match x2.corr with
        | none => x2
        | some d => { x2 with theta := wrap 32 ((x2.theta : Int) - d), turn := x2.turn - d, corr := none }
      let g := (s.angAt i).iff x2.corr.isSome fun s => s.angStepOver i x2.turn (x3.turn - x2.turn)
      let x4 := g.angTrack i x3
      (g.setAng i (g.angMarks i (s.angT i) x3.turn x4)).angSpeedUpdate i (s.angT i) (decide (x4.turn < x3.turn)) := by
  obtain ⟨-, hi, hsy, hf⟩ := Dev.angAt_spec (s := s) i
  have hi' : (s.advanceTo (gridNext 0 50 s.now (some (s.angInst i).upT))).angInst i = s.angInst i := hi
  have hs' : ¬ (s.advanceTo (gridNext 0 50 s.now (some (s.angInst i).upT))).isSynth i = true := by
    rw [show (s.advanceTo (gridNext 0 50 s.now (some (s.angInst i).upT))).isSynth i = _ from hsy, hs]
    decide
  have hsrc : (s.advanceTo (gridNext 0 50 s.now (some (s.angInst i).upT))).f F.ANGLE_CFG_SRC i = s.f F.ANGLE_CFG_SRC i := hf _ _ (by decide)
  unfold Dev.angUpdate
  rw [if_neg (show ¬ ¬ s.flag F.ANGLE_CFG_EN i = true from not_not_intro (decide_eq_true he))]
  dsimp only
  rw [hi', if_neg hs', hsrc]
  rfl

/-- The tracker's step, where no index slip is to be corrected (R280). -/
theorem Dev.angUpdate_step (he : s.f F.ANGLE_CFG_EN i ≠ 0) (hs : s.isSynth i = false) (ho : (s.angInst i).ok = true) (hc : (s.angInst i).corr = none) : let u := s.angUpdate i
    let w := sgn 32 (wrap 32 ((s.angInst i).omega + shr true ((s.f F.ANGLE_LOOP_KT2 i : Nat) * angErr (s.angTook i)) 24))
    (u.angInst i).omega = w ∧ (u.angInst i).theta = wrap 32 ((s.angInst i).theta + (w + shr true ((s.f F.ANGLE_LOOP_KT1 i : Nat) * angErr (s.angTook i)) 16)) ∧
    (u.angInst i).upT = s.angT i ∧ s.Keeps [.time, .angle] s.out u := by
  obtain ⟨hk, -, -, hf⟩ := Dev.angAt_spec (s := s) i
  obtain ⟨t1, t2, t3, t4, t5, t6⟩ := Dev.angTook_same (s := s) i
  have hcj : (s.angJudged i).corr = none := t6.trans hc
  have hu : s.angUpdate i = ((s.angAt i).setAng i ((s.angAt i).angMarks i (s.angT i) (s.angJudged i).turn ((s.angAt i).angTrack i (s.angJudged i)))).angSpeedUpdate i (s.angT i)
      (decide (((s.angAt i).angTrack i (s.angJudged i)).turn < (s.angJudged i).turn)) := by
    rw [Dev.angUpdate_tracker he hs, if_neg (show ¬ ¬ (s.angJudged i).ok = true from not_not_intro (t5.trans ho))]
    dsimp only
    rw [hcj]
    rfl
  obtain ⟨⟨m1, m2, -, m4⟩, hk'⟩ := Dev.angMoved_spec hk i (s.angT i) (s.angJudged i).turn ((s.angAt i).angTrack i (s.angJudged i))
    (decide (((s.angAt i).angTrack i (s.angJudged i)).turn < (s.angJudged i).turn))
  have hw : ((s.angAt i).angTrack i (s.angJudged i)).omega = sgn 32 (wrap 32 ((s.angInst i).omega + shr true ((s.f F.ANGLE_LOOP_KT2 i : Nat) * angErr (s.angTook i)) 24)) := by
    have : ((s.angAt i).angTrack i (s.angJudged i)).omega = sgn 32 (wrap 32 ((s.angTook i).omega + shr true (((s.angAt i).f F.ANGLE_LOOP_KT2 i : Nat) * angErr (s.angTook i)) 24)) := rfl
    rw [this, t2, hf _ _ (by decide)]
  have ht : ((s.angAt i).angTrack i (s.angJudged i)).theta =
      wrap 32 ((s.angInst i).theta + (((s.angAt i).angTrack i (s.angJudged i)).omega + shr true ((s.f F.ANGLE_LOOP_KT1 i : Nat) * angErr (s.angTook i)) 16)) := by
    have : ((s.angAt i).angTrack i (s.angJudged i)).theta =
      wrap 32 ((s.angTook i).theta + (((s.angAt i).angTrack i (s.angJudged i)).omega + shr true (((s.angAt i).f F.ANGLE_LOOP_KT1 i : Nat) * angErr (s.angTook i)) 16)) := rfl
    rw [this, t1, hf _ _ (by decide)]
  dsimp only
  rw [hu]
  exact ⟨m2.trans hw, m1.trans (ht.trans (by rw [hw])), m4.trans t4, hk'⟩

/-- With the amplitude at fault the angle stands (R283). -/
theorem Dev.angUpdate_stands (he : s.f F.ANGLE_CFG_EN i ≠ 0) (hs : s.isSynth i = false) (ho : (s.angInst i).ok = false) : let u := s.angUpdate i
    (u.angInst i).omega = (s.angInst i).omega ∧ (u.angInst i).theta = (s.angInst i).theta ∧ (u.angInst i).turn = (s.angInst i).turn ∧ (u.angInst i).upT = s.angT i ∧
    s.Keeps [.time, .angle] s.out u := by
  obtain ⟨hk, -, -, -⟩ := Dev.angAt_spec (s := s) i
  obtain ⟨t1, t2, t3, t4, t5, -⟩ := Dev.angTook_same (s := s) i
  have hok : (s.angJudged i).ok = false := t5.trans ho
  rw [Dev.angUpdate_tracker he hs, if_pos (by rw [hok]; decide)]
  obtain ⟨⟨m1, m2, m3, m4⟩, hk'⟩ := Dev.angMoved_spec hk i (s.angT i) (s.angInst i).turn (s.angJudged i) ((s.angAt i).dirNeg i)
  exact ⟨m2.trans t2, m1.trans t1, m3.trans t3, m4.trans t4, hk'⟩
end

/-- An update of an INST, with what it means for the compares and the recorder (R280, R287, R367). -/
theorem Dev.trackerUpdate_tail (i : Nat) (h : s.Keeps [.time, .angle] s.out (s.angUpdate i)) :
    (s.trackerUpdate i).angInst i = (s.angUpdate i).angInst i ∧ s.Keeps [.time, .angle, .reel] s.out (s.trackerUpdate i) := by
  have hl := Dev.angLeaves_wmkTrack (s := s.angUpdate i) [] i
  have hreel : ∀ v : Dev, Dev.Keeps [.reel] v.out v (v.each (List.range 5) fun s k => s.reelUpdate kAngle (16 * i + k) (s.angItem i k)) := fun v =>
    (Dev.keeps_refl _ v).each _ _ fun _ _ _ hv => hv.reelUpdate (by decide) _ _ _
  have h1 : s.Keeps [.time, .angle, .reel] s.out ((s.angUpdate i).wmkTrack i) := (h.mono (by decide)).next hl.keeps (by decide)
  rw [Dev.trackerUpdate]
  refine ⟨?_, h1.iff _ _ fun _ => h1.next (hreel _) (by decide)⟩
  refine (Dev.angInst_of_inst ((Dev.iff_keeps _ (·.ang.inst) _ _ fun _ => ?_).trans hl.inst) i)
  rw [(hreel _).ang_eq]

theorem Dev.trackerUpdate_off {i : Nat} (h : s.f F.ANGLE_CFG_EN i = 0) : s.trackerUpdate i = s.wmkTrack i := by
  have ho : s.flag F.ANGLE_CFG_EN i = false := Dev.flag_off h
  have hu : s.angUpdate i = s := if_pos (by rw [ho]; decide)
  rw [Dev.trackerUpdate, hu, ho]
  rfl

/-! ### Amplitude, standstill and index -/

theorem Dev.ampFault_spec {i : Nat} (ho : (s.angInst i).ok = true) (hn : s.f F.ANGLE_CFG_AFILT i ≤ (s.angInst i).outN) : let u := s.ampFault i
    (u.angInst i).ok = false ∧ u.f F.ANGLE_STAT_AMP_FAULT i = 1 ∧ (s.isSynth i = false → u.f F.ANGLE_STAT_VALID i = 0) ∧ (u.angInst i).theta = (s.angInst i).theta ∧
    s.Keeps [.angle] s.out u := by
  have hu : s.ampFault i = ((s.setAng i { s.angInst i with ok := false }).raise F.ANGLE_STAT_AMP_FAULT i).angValidate i := if_pos ⟨ho, hn⟩
  have hk : s.Keeps [.angle] s.out ((s.setAng i { s.angInst i with ok := false }).raise F.ANGLE_STAT_AMP_FAULT i) := ((Dev.keeps_refl _ s).setAngInst (by decide) _ _).raise (by decide) _ _
  have hi : ((s.setAng i { s.angInst i with ok := false }).raise F.ANGLE_STAT_AMP_FAULT i).angInst i = { s.angInst i with ok := false } :=
    (Dev.angInst_of_inst (Dev.inst_raise ..) i).trans (Dev.angInst_setAng ..)
  have hs : ((s.setAng i { s.angInst i with ok := false }).raise F.ANGLE_STAT_AMP_FAULT i).isSynth i = s.isSynth i := by
    rw [Dev.isSynth, Dev.f_raise_apart _ _ _ _ _ (by decide), Dev.f_setAng]
    rfl
  have hf : ((s.setAng i { s.angInst i with ok := false }).raise F.ANGLE_STAT_AMP_FAULT i).f F.ANGLE_STAT_AMP_FAULT i = 1 := Dev.f_raise_same ..
  obtain ⟨hl, hv⟩ := Dev.angValidate_spec (s := (s.setAng i { s.angInst i with ok := false }).raise F.ANGLE_STAT_AMP_FAULT i) i
  dsimp only
  rw [hu, Dev.angInst_of_inst hl.inst, hi]
  refine ⟨rfl, (hl.fld _ _ _ (by decide)).trans hf, fun h => ?_, rfl, hk.next hl.keeps (by decide)⟩
  rw [hv, hi, hs, h, Bool.false_or, Bool.and_false, Bool.false_and]
  rfl

theorem Dev.resync_spec {i : Nat} (he : s.f F.ANGLE_CFG_EN i ≠ 0) (hs : s.isSynth i = false) (ho : (s.angInst i).ok = false) (hn : s.f F.ANGLE_CFG_AFILT i ≤ (s.angInst i).inN) :
    let x := s.angInst i
    let u := s.resync i
    (u.angInst i).ok = true ∧ (u.angInst i).theta = (if x.sn = 0 ∧ x.cn = 0 then 0 else angleOf x.cn x.sn) ∧ (u.angInst i).omega = 0 ∧ u.f F.ANGLE_STAT_RESYNC i = 1 ∧
    (s.f F.ANGLE_STAT_IDX_FAULT i = 0 → u.f F.ANGLE_STAT_VALID i = 1) ∧ s.Keeps [.angle] s.out u := by
  intro x u
  obtain ⟨y, v, hu, hv, y1, y2, y3⟩ : ∃ (y : AngInst) (v : Dev), u = ((v.setAng i y).raise F.ANGLE_STAT_RESYNC i).angValidate i ∧ Dev.AngLeaves [F.ANGLE_WMK_STAT_LATE] s v ∧
      y.ok = true ∧ y.theta = (if x.sn = 0 ∧ x.cn = 0 then 0 else angleOf x.cn x.sn) ∧ y.omega = 0 :=
    ⟨_, _, if_pos ⟨decide_eq_true he, by rw [hs]; decide, by rw [ho]; decide, hn⟩, Dev.angStepOver_leaves i _ _, rfl, rfl, rfl⟩
  have hk : s.Keeps [.angle] s.out ((v.setAng i y).raise F.ANGLE_STAT_RESYNC i) := (hv.keeps.setAngInst (by decide) _ _).raise (by decide) _ _
  have hi : ((v.setAng i y).raise F.ANGLE_STAT_RESYNC i).angInst i = y := (Dev.angInst_of_inst (Dev.inst_raise ..) i).trans (Dev.angInst_setAng ..)
  have hf : ∀ (G : Fld), G.apart F.ANGLE_STAT_RESYNC = true → G.apart F.ANGLE_WMK_STAT_LATE = true → ((v.setAng i y).raise F.ANGLE_STAT_RESYNC i).f G i = s.f G i := fun G h1 h2 => by
    rw [Dev.f_raise_apart _ _ _ _ _ h1, Dev.f_setAng]
    exact hv.fld G i 0 fun F hF => List.mem_singleton.mp hF ▸ h2
  obtain ⟨hl, hval⟩ := Dev.angValidate_spec (s := (v.setAng i y).raise F.ANGLE_STAT_RESYNC i) i
  rw [hu, Dev.angInst_of_inst hl.inst, hi]
  refine ⟨y1, y2, y3, (hl.fld _ _ _ (by decide)).trans (Dev.f_raise_same ..), fun h => ?_, hk.next hl.keeps (by decide)⟩
  rw [hval, Dev.flag, Dev.flag, hf _ (by decide) (by decide), hf _ (by decide) (by decide), hi, y1, h, decide_eq_true he, Bool.or_true]
  rfl

theorem Dev.still_eq {i t : Nat} (h : (s.angInst i).slowAt = some t) (he : s.f F.ANGLE_CFG_EN i ≠ 0) :
    s.still i = (s.advanceTo (t + s.f F.ANGLE_STILL_STILL_T i * 10 ^ 6)).raise F.ANGLE_STAT_STILL i := by
  rw [Dev.still, h]
  exact if_pos (decide_eq_true he)

theorem Dev.still_idle {i : Nat} (h : (s.angInst i).slowAt = none ∨ s.f F.ANGLE_CFG_EN i = 0) : s.still i = s := by
  rw [Dev.still]
  split
  · rfl
  · rename_i t ht
    have he : s.f F.ANGLE_CFG_EN i = 0 := h.resolve_left fun hn => Option.some_ne_none _ (ht.symm.trans hn)
    rw [Dev.flag_off he]
    rfl

/-- The distance of an index edge from its position (R284). -/
def Dev.idxDist (s : Dev) : Int := sgn 32 (wrap 32 ((s.angleNow 0 : Int) - (s.f F.ANGLE_IDX_POS_POS 0 : Int)))

/-- An index edge beyond TOL is noted (R284). -/
def Dev.idxSlip (s : Dev) : Dev := (s.raise F.ANGLE_STAT_INDEX_SLIP 0).put F.ANGLE_IDX_DIFF_D (wrap 32 s.idxDist) 0

theorem Dev.indexEdge_eq (he : s.f F.ANGLE_CFG_EN 0 ≠ 0) (hs : s.f F.ANGLE_CFG_SRC 0 = 0) (hi : s.f F.ANGLE_CFG_IDX_EN 0 ≠ 0) : s.indexEdge =
    if s.idxDist.natAbs ≤ s.f F.ANGLE_IDX_TOL_TOL 0 * 2 ^ 16 then s
    else if s.idxDist.natAbs ≤ s.f F.ANGLE_IDX_TOL_WIN 0 * 2 ^ 16 ∧ s.f F.ANGLE_CFG_IDX_CORR 0 ≠ 0 then
      (s.idxSlip.setAng 0 { s.angInst 0 with corr := some s.idxDist }).raise F.ANGLE_STAT_CORR 0
    else (s.idxSlip.raise F.ANGLE_STAT_IDX_FAULT 0).angValidate 0 := by
  have hf : ∀ G : Fld, G.apart F.ANGLE_STAT_INDEX_SLIP = true → G.apart F.ANGLE_IDX_DIFF_D = true → s.idxSlip.f G 0 = s.f G 0 := fun G h1 h2 =>
    (Dev.f_put_apart _ _ _ _ _ _ h2).trans (Dev.f_raise_apart _ _ _ _ _ h1)
  have hinst : s.idxSlip.angInst 0 = s.angInst 0 := Dev.angInst_of_inst ((Dev.inst_put ..).trans (Dev.inst_raise ..)) 0
  refine (if_pos ⟨decide_eq_true he, hs, decide_eq_true hi⟩).trans ?_
  refine if_congr Iff.rfl rfl ?_
  rw [← hf F.ANGLE_IDX_TOL_WIN (by decide) (by decide), ← hf F.ANGLE_CFG_IDX_CORR (by decide) (by decide), ← hinst]
  exact if_congr (and_congr_right fun _ => decide_eq_true_iff) rfl rfl

theorem Dev.idxSlip_spec : s.idxSlip.f F.ANGLE_STAT_INDEX_SLIP 0 = 1 ∧ s.idxSlip.f F.ANGLE_IDX_DIFF_D 0 = wrap 32 s.idxDist ∧ s.Keeps [.angle] s.out s.idxSlip :=
  ⟨(Dev.f_put_apart _ _ _ _ _ _ (by decide)).trans (Dev.f_raise_same ..), (Dev.f_put_same ..).trans (Nat.mod_eq_of_lt (wrap_lt _ _)), ((Dev.keeps_refl _ s).raise (by decide) _ _).put (by decide) _ _ _⟩

theorem Dev.idxFault_spec : let u := (s.idxSlip.raise F.ANGLE_STAT_IDX_FAULT 0).angValidate 0
    u.f F.ANGLE_STAT_INDEX_SLIP 0 = 1 ∧ u.f F.ANGLE_IDX_DIFF_D 0 = wrap 32 s.idxDist ∧ u.f F.ANGLE_STAT_IDX_FAULT 0 = 1 ∧ u.f F.ANGLE_STAT_VALID 0 = 0 ∧ s.Keeps [.angle] s.out u := by
  obtain ⟨h1, h2, h3⟩ := Dev.idxSlip_spec (s := s)
  have hf : ∀ G : Fld, G.apart F.ANGLE_STAT_IDX_FAULT = true → (s.idxSlip.raise F.ANGLE_STAT_IDX_FAULT 0).f G 0 = s.idxSlip.f G 0 := fun G h => Dev.f_raise_apart _ _ _ _ _ h
  have hd : (s.idxSlip.raise F.ANGLE_STAT_IDX_FAULT 0).f F.ANGLE_STAT_IDX_FAULT 0 = 1 := Dev.f_raise_same ..
  obtain ⟨hl, hv⟩ := Dev.angValidate_spec (s := s.idxSlip.raise F.ANGLE_STAT_IDX_FAULT 0) 0
  refine ⟨(hl.fld _ _ _ (by decide)).trans ((hf _ (by decide)).trans h1), (hl.fld _ _ _ (by decide)).trans ((hf _ (by decide)).trans h2), (hl.fld _ _ _ (by decide)).trans hd, ?_,
    (h3.raise (by decide) _ _).next hl.keeps (by decide)⟩
  have hfl : (s.idxSlip.raise F.ANGLE_STAT_IDX_FAULT 0).flag F.ANGLE_STAT_IDX_FAULT 0 = true := decide_eq_true (by rw [hd]; decide)
  rw [hv, hfl, Bool.not_true, Bool.and_false]
  rfl

theorem Dev.idxCorr_spec : let u := (s.idxSlip.setAng 0 { s.angInst 0 with corr := some s.idxDist }).raise F.ANGLE_STAT_CORR 0
    u.f F.ANGLE_STAT_INDEX_SLIP 0 = 1 ∧ u.f F.ANGLE_IDX_DIFF_D 0 = wrap 32 s.idxDist ∧ (u.angInst 0).corr = some s.idxDist ∧ u.f F.ANGLE_STAT_CORR 0 = 1 ∧ s.Keeps [.angle] s.out u := by
  obtain ⟨h1, h2, h3⟩ := Dev.idxSlip_spec (s := s)
  refine ⟨(Dev.f_raise_apart _ _ _ _ _ (by decide)).trans ((Dev.f_setAng ..).trans h1), (Dev.f_raise_apart _ _ _ _ _ (by decide)).trans ((Dev.f_setAng ..).trans h2), ?_, Dev.f_raise_same ..,
    (h3.setAngInst (by decide) _ _).raise (by decide) _ _⟩
  rw [Dev.angInst_of_inst (Dev.inst_raise ..), Dev.angInst_setAng]
end

/-! ### O32 -/

/-- Settles O32. -/
theorem angleTracking : Obligations.AngleTracking := by
  intro s i hi d x t g
  have hg : d.angAt i = g := rfl
  have ht : d.angT i = t := rfl
  refine ⟨fun h => s.runs_trackerUpdate.of_eq (Dev.trackerUpdate_off (s := d) h), fun he hs => ?_, fun he hs ho hc => ?_, fun he hs ho => ?_, fun ho hn => ?_, fun h => s.runs_ampFault.of_eq (if_neg ?_),
    fun he hs ho hn => ?_, fun h => s.runs_resync.of_eq (if_neg ?_), fun at_ he ha => s.runs_still.of_eq (Dev.still_eq (s := d) ha he), fun h => s.runs_still.of_eq (Dev.still_idle (s := d) h),
    fun h => s.runs_indexEdge.of_eq (if_neg ?_), fun he hs hidx => ?_⟩
  · obtain ⟨h1, h2, h3, h4, h5⟩ := Dev.angUpdate_synth (s := d) he hs
    obtain ⟨k1, k2⟩ := Dev.trackerUpdate_tail i h5
    exact s.runs_trackerUpdate.does ⟨by rw [k1]; exact h1, by rw [k1]; exact h2, by rw [k1]; exact h3, by rw [k1]; exact h4, k2.of_begin⟩
  · obtain ⟨h1, h2, h3, h4⟩ := Dev.angUpdate_step (s := d) he hs ho hc
    obtain ⟨k1, k2⟩ := Dev.trackerUpdate_tail i h4
    exact s.runs_trackerUpdate.does ⟨by rw [k1]; exact h1, by rw [k1]; exact h2, by rw [k1]; exact h3, k2.of_begin⟩
  · obtain ⟨h1, h2, h3, h4, h5⟩ := Dev.angUpdate_stands (s := d) he hs ho
    obtain ⟨k1, k2⟩ := Dev.trackerUpdate_tail i h5
    exact s.runs_trackerUpdate.does ⟨by rw [k1]; exact h1, by rw [k1]; exact h2, by rw [k1]; exact h3, by rw [k1]; exact h4, k2.of_begin⟩
  · obtain ⟨h1, h2, h3, h4, h5⟩ := Dev.ampFault_spec (s := d) ho hn
    exact s.runs_ampFault.does ⟨h1, h2, h3, h4, h5.of_begin⟩
  · rintro ⟨ho, hn⟩
    exact h.elim (fun h => Bool.false_ne_true (h.symm.trans ho)) fun h => absurd hn (Nat.not_le.mpr h)
  · obtain ⟨h1, h2, h3, h4, h5, h6⟩ := Dev.resync_spec (s := d) he hs ho hn
    exact s.runs_resync.does ⟨h1, h2, h3, h4, h5, h6.of_begin⟩
  · rintro ⟨he, hs, ho, hn⟩
    rcases h with h | h | h | h
    · exact ho h
    · exact Bool.false_ne_true ((Dev.flag_off (s := d) h).symm.trans he)
    · exact hs h
    · exact absurd hn (Nat.not_le.mpr h)
  · rintro ⟨he, hs, hidx⟩
    rcases h with h | h | h
    · exact Bool.false_ne_true ((Dev.flag_off (s := d) h).symm.trans he)
    · exact h hs
    · exact Bool.false_ne_true ((Dev.flag_off (s := d) h).symm.trans hidx)
  · intro dl tol win
    have hrun := s.runs_indexEdge.of_eq (Dev.indexEdge_eq (s := d) he hs hidx)
    refine ⟨fun h => hrun.of_eq (if_pos h), fun h hw hc => ?_, fun h hw => ?_⟩
    · obtain ⟨h1, h2, h3, h4, h5⟩ := Dev.idxCorr_spec (s := d)
      exact (hrun.of_eq ((if_neg (Nat.not_le.mpr h)).trans (if_pos ⟨hw, hc⟩))).does ⟨h1, h2, h3, h4, h5.of_begin⟩
    · obtain ⟨h1, h2, h3, h4, h5⟩ := Dev.idxFault_spec (s := d)
      refine (hrun.of_eq ((if_neg (Nat.not_le.mpr h)).trans (if_neg ?_))).does ⟨h1, h2, h3, h4, h5.of_begin⟩
      rintro ⟨h1, h2⟩
      exact hw.elim (fun hw => absurd h1 (Nat.not_le.mpr hw)) fun hw => h2 hw

end Sys2Proof.Machine
end

section
/-! Probes and the compares of the angle block (R285 to R287), and O33. -/

namespace Sys2Proof.Machine

section
variable {s : Dev}

/-! ### A compare fires -/

/-- A compare that fires notes it, and disarms unless it repeats (R286, R287). -/
def Dev.wmkNoted (s : Dev) (w t : Nat) : Dev :=
  let s := ((s.put F.ANGLE_WMK_STAT_T_FIRE (t % 2 ^ 32) w).raise F.ANGLE_WMK_STAT_FIRED w).wmkLook t w
  s.iff (!s.flag F.ANGLE_WMK_CFG_REPEAT w) fun s => s.put F.ANGLE_WMK_STAT_ARMED 0 w

theorem Dev.outputs_setRegs (t : Tab Nat) (b : Blk) : (s.setRegs t b).ang.wmk = s.ang.wmk ∧ (s.setRegs t b).ang.pulse = s.ang.pulse := by cases b <;> exact ⟨rfl, rfl⟩
theorem Dev.outputs_put (G : Fld) (x i j : Nat) : (s.put G x i j).ang.wmk = s.ang.wmk ∧ (s.put G x i j).ang.pulse = s.ang.pulse := Dev.outputs_setRegs ..

theorem Dev.outputs_raise (G : Fld) (i j : Nat) : (s.raise G i j).ang.wmk = s.ang.wmk ∧ (s.raise G i j).ang.pulse = s.ang.pulse :=
  show ({ s.put G 1 i j with events := _ } : Dev).ang.wmk = _ ∧ ({ s.put G 1 i j with events := _ } : Dev).ang.pulse = _ from Dev.outputs_put ..

theorem Dev.wmkNoted_spec (w t : Nat) : let u := s.wmkNoted w t
    u.f F.ANGLE_WMK_STAT_FIRED w = 1 ∧ u.f F.ANGLE_WMK_STAT_T_FIRE w = t % 2 ^ 32 ∧
    u.f F.ANGLE_WMK_STAT_ARMED w = (if s.f F.ANGLE_WMK_CFG_REPEAT w ≠ 0 then s.f F.ANGLE_WMK_STAT_ARMED w else 0) ∧ u.f F.ANGLE_WMK_CFG_ACT w = s.f F.ANGLE_WMK_CFG_ACT w ∧
    u.ang.wmk = s.ang.wmk ∧ u.ang.pulse = s.ang.pulse ∧ s.Keeps [.angle] s.out u := by
  obtain ⟨v, hv, hw⟩ : ∃ v : Dev, v = ((s.put F.ANGLE_WMK_STAT_T_FIRE (t % 2 ^ 32) w).raise F.ANGLE_WMK_STAT_FIRED w).wmkLook t w ∧
      s.wmkNoted w t = v.iff (!v.flag F.ANGLE_WMK_CFG_REPEAT w) fun s => s.put F.ANGLE_WMK_STAT_ARMED 0 w := ⟨_, rfl, rfl⟩
  have hlook : ∀ (G : Fld), v.f G w = ((s.put F.ANGLE_WMK_STAT_T_FIRE (t % 2 ^ 32) w).raise F.ANGLE_WMK_STAT_FIRED w).f G w := fun G => by
    rw [hv]
    exact Dev.fb_setAngle rfl ..
  have h1 : v.f F.ANGLE_WMK_STAT_FIRED w = 1 := (hlook _).trans (Dev.f_raise_same ..)
  have h2 : v.f F.ANGLE_WMK_STAT_T_FIRE w = t % 2 ^ 32 :=
    (hlook _).trans ((Dev.f_raise_apart _ _ _ _ _ (by decide)).trans ((Dev.f_put_same ..).trans (Nat.mod_eq_of_lt (Nat.mod_lt _ (by decide)))))
  have h3 : ∀ G : Fld, G.apart F.ANGLE_WMK_STAT_FIRED = true → G.apart F.ANGLE_WMK_STAT_T_FIRE = true → v.f G w = s.f G w := fun G ha hb =>
    (hlook _).trans ((Dev.f_raise_apart _ _ _ _ _ ha).trans (Dev.f_put_apart _ _ _ _ _ _ hb))
  have h4 : v.ang.wmk = s.ang.wmk ∧ v.ang.pulse = s.ang.pulse := by
    rw [hv]
    obtain ⟨a1, a2⟩ := (s.put F.ANGLE_WMK_STAT_T_FIRE (t % 2 ^ 32) w).outputs_raise F.ANGLE_WMK_STAT_FIRED w 0
    obtain ⟨b1, b2⟩ := s.outputs_put F.ANGLE_WMK_STAT_T_FIRE (t % 2 ^ 32) w 0
    exact ⟨a1.trans b1, a2.trans b2⟩
  have hk : s.Keeps [.angle] s.out v := by
    rw [hv]
    exact (((Dev.keeps_refl _ s).put (by decide) _ _ _).raise (by decide) _ _).wmkLook (by decide) _ _
  have hf : ∀ G : Fld, G.apart F.ANGLE_WMK_STAT_ARMED = true → (s.wmkNoted w t).f G w = v.f G w := fun G hG => by
    rw [hw]
    exact Dev.f_iff _ _ _ _ _ _ fun _ => Dev.f_put_apart _ _ _ _ _ _ hG
  refine ⟨(hf _ (by decide)).trans h1, (hf _ (by decide)).trans h2, ?_, (hf _ (by decide)).trans (h3 _ (by decide) (by decide)), ?_, ?_, ?_⟩
  · have hr : v.f F.ANGLE_WMK_CFG_REPEAT w = s.f F.ANGLE_WMK_CFG_REPEAT w := h3 _ (by decide) (by decide)
    rw [hw, Dev.flag, hr]
    by_cases h : s.f F.ANGLE_WMK_CFG_REPEAT w ≠ 0
    · rw [if_pos h, decide_eq_true h, Bool.not_true, Dev.iff_false]
      exact h3 _ (by decide) (by decide)
    · rw [if_neg h, decide_eq_false h, Bool.not_false, Dev.iff_true, Dev.f_put_same]
      rfl
  · rw [hw]
    exact (Dev.iff_keeps v (·.ang.wmk) _ _ fun _ => (Dev.outputs_put ..).1).trans h4.1
  · rw [hw]
    exact (Dev.iff_keeps v (·.ang.pulse) _ _ fun _ => (Dev.outputs_put ..).2).trans h4.2
  · rw [hw]
    exact hk.iff _ _ fun _ => hk.put (by decide) _ _ _

/-- Its output goes on, for its pulse or until it is set back (R287). -/
def Dev.wmkOut (s : Dev) (w t : Nat) : Dev :=
  let g := { s.ang with wmk := putBit s.ang.wmk w true, either := putBit s.ang.either w false }
  { s with ang :=
      if s.flag F.ANGLE_WMK_CFG_ACT w then { g with pulse := putBit g.pulse w false }
      else { g with pulse := putBit g.pulse w true, pulseEnd := Tab.put g.pulseEnd w (t + s.f F.ANGLE_WMK_CFG_WIDTH w * 1000) } }

theorem Dev.wmkFire_eq (w t : Nat) : s.wmkFire w t = (s.wmkNoted w t).wmkOut w t := rfl

theorem Dev.wmkOut_spec (w t : Nat) : let u := s.wmkOut w t
    u.ang.wmk = putBit s.ang.wmk w true ∧ u.ang.pulse = putBit s.ang.pulse w (!s.flag F.ANGLE_WMK_CFG_ACT w) ∧ (∀ G : Fld, u.f G w = s.f G w) ∧ s.Keeps [.angle] s.out u := by
  obtain ⟨x, hx, hr, hw, hp⟩ : ∃ x : Ang, s.wmkOut w t = { s with ang := x } ∧ x.regs = s.ang.regs ∧ x.wmk = putBit s.ang.wmk w true ∧
      x.pulse = putBit s.ang.pulse w (!s.flag F.ANGLE_WMK_CFG_ACT w) := by
    unfold Dev.wmkOut
    cases s.flag F.ANGLE_WMK_CFG_ACT w <;> exact ⟨_, rfl, rfl, rfl, rfl⟩
  rw [hx]
  exact ⟨hw, hp, fun G => Dev.fb_setAngle hr .., Dev.Keeps.setAng (Dev.keeps_refl _ s) (by decide) _⟩

/-- A compare fires (R286, R287). -/
theorem Dev.wmkFire_spec (w t : Nat) : let u := s.wmkFire w t
    u.f F.ANGLE_WMK_STAT_FIRED w = 1 ∧ u.f F.ANGLE_WMK_STAT_ARMED w = (if s.f F.ANGLE_WMK_CFG_REPEAT w ≠ 0 then s.f F.ANGLE_WMK_STAT_ARMED w else 0) ∧
    u.f F.ANGLE_WMK_STAT_T_FIRE w = t % 2 ^ 32 ∧ bitOf u.ang.wmk w = true ∧ bitOf u.ang.pulse w = decide (s.f F.ANGLE_WMK_CFG_ACT w = 0) ∧
    (∀ k, k ≠ w → bitOf u.ang.wmk k = bitOf s.ang.wmk k) ∧ s.Keeps [.angle] s.out u := by
  obtain ⟨h1, h2, h3, h4, h5, h6, h7⟩ := Dev.wmkNoted_spec (s := s) w t
  obtain ⟨o1, o2, o3, o4⟩ := Dev.wmkOut_spec (s := s.wmkNoted w t) w t
  dsimp only
  rw [Dev.wmkFire_eq, o1, o2, o3, o3, o3]
  refine ⟨h1, h3, h2, bitOf_putBit_same .., ?_, fun k hk => ?_, h7.next o4 (by decide)⟩
  · rw [bitOf_putBit_same, Dev.flag, h4]
    by_cases h : s.f F.ANGLE_WMK_CFG_ACT w = 0 <;> simp [h]
  · rw [bitOf_putBit_other _ _ hk, h5]

/-! ### A target is written -/

/-- A write of a target. -/
def Dev.wmkPut (s : Dev) (w v : Nat) : Dev := s.put F.ANGLE_WMK_TGT_TARGET v w

/-- The compare is armed, and looks at its angle (R286). -/
def Dev.wmkArmed (s : Dev) (w : Nat) (either : Bool) : Dev :=
  let k := (s.raise F.ANGLE_WMK_STAT_ARMED w).wmkLook s.now w
  { k with ang := { k.ang with either := putBit k.ang.either w either } }

/-- The way from the angle to the target. -/
def Dev.wmkWay (s : Dev) (w v : Nat) : Int := sgn 32 (wrap 32 ((v % 2 ^ 32 : Nat) - (s.angleNow (s.f F.ANGLE_WMK_CFG_INST w) : Int)))

theorem Dev.wmkPut_f (w v : Nat) {G : Fld} (hG : G.apart F.ANGLE_WMK_TGT_TARGET = true) (i : Nat) : (s.wmkPut w v).f G i = s.f G i := Dev.f_put_apart _ _ _ _ _ _ hG

theorem Dev.wmkPut_now (w v : Nat) : (s.wmkPut w v).now = s.now :=
  Dev.now_of_time (Dev.put_role ..) ((Dev.keeps_refl [.angle] s).put (G := F.ANGLE_WMK_TGT_TARGET) (by decide) v w 0).time_eq

theorem Dev.wmkPut_angle (w v i : Nat) : (s.wmkPut w v).angleNow i = s.angleNow i := by
  have hi : (s.wmkPut w v).angInst i = s.angInst i := Dev.angInst_of_inst (Dev.inst_put ..) i
  unfold Dev.angleNow Dev.isSynth Dev.synthAngle Dev.synthPath
  rw [Dev.wmkPut_f _ _ (by decide), Dev.wmkPut_f _ _ (by decide), Dev.wmkPut_now, hi]

theorem Dev.wmkTarget_off {w v : Nat} (h : s.f F.ANGLE_WMK_CFG_EN w = 0) : s.wmkTarget w v = s.wmkPut w v := by
  refine if_pos ?_
  rw [show (s.put F.ANGLE_WMK_TGT_TARGET v w).flag F.ANGLE_WMK_CFG_EN w = false from Dev.flag_off ((Dev.wmkPut_f w v (by decide) w).trans h)]
  decide

/-- A write of the target of a compare that is enabled (R286). -/
theorem Dev.wmkTarget_on {w v : Nat} (h : s.f F.ANGLE_WMK_CFG_EN w ≠ 0) : s.wmkTarget w v =
    let still := s.flag F.ANGLE_STAT_STILL (s.f F.ANGLE_WMK_CFG_INST w)
    let k := (s.wmkPut w v).wmkArmed w (still && decide (s.wmkWay w v ≠ 0))
    if s.wmkWay w v = 0 then (if k.wmkReady w then k.wmkFire w k.now else k)
    else if still ∨ ahead (k.dirNeg (s.f F.ANGLE_WMK_CFG_INST w)) (s.wmkWay w v) then k else k.raise F.ANGLE_WMK_STAT_LATE w := by
  have hen : ¬ ¬ (s.wmkPut w v).flag F.ANGLE_WMK_CFG_EN w = true := not_not_intro (decide_eq_true (ne_of_eq_of_ne (Dev.wmkPut_f w v (by decide) w) h))
  have hi : (s.wmkPut w v).f F.ANGLE_WMK_CFG_INST w = s.f F.ANGLE_WMK_CFG_INST w := Dev.wmkPut_f w v (by decide) w
  have hway : (s.wmkPut w v).wmkDelta w ((s.wmkPut w v).angleNow (s.f F.ANGLE_WMK_CFG_INST w)) = s.wmkWay w v := by
    rw [Dev.wmkDelta, Dev.wmkPut_angle, show (s.wmkPut w v).f F.ANGLE_WMK_TGT_TARGET w = v % 2 ^ 32 from Dev.f_put_same ..]
    rfl
  have hst : (s.wmkPut w v).flag F.ANGLE_STAT_STILL (s.f F.ANGLE_WMK_CFG_INST w) = s.flag F.ANGLE_STAT_STILL (s.f F.ANGLE_WMK_CFG_INST w) := by
    rw [Dev.flag, Dev.wmkPut_f _ _ (by decide)]
    rfl
  have he : s.wmkTarget w v =
      let p := s.wmkPut w v
      if ¬ p.flag F.ANGLE_WMK_CFG_EN w then p
      else
        let i := p.f F.ANGLE_WMK_CFG_INST w
        let d := p.wmkDelta w (p.angleNow i)
        let still := p.flag F.ANGLE_STAT_STILL i
        let k := p.wmkArmed w (still && decide (d ≠ 0))
        if d = 0 then (if k.wmkReady w then k.wmkFire w k.now else k) else if still ∨ ahead (k.dirNeg i) d then k else k.raise F.ANGLE_WMK_STAT_LATE w := by
    rfl
  rw [he]
  dsimp only
  rw [if_neg hen, hi, hway, hst]

theorem Dev.wmkArmed_put (w v : Nat) (e : Bool) : (s.wmkPut w v).wmkArmed w e =
    let k := (((s.put F.ANGLE_WMK_TGT_TARGET v w).raise F.ANGLE_WMK_STAT_ARMED w).wmkLook s.now w)
    ({ k with ang := { k.ang with either := putBit k.ang.either w e } } : Dev) := by
  rw [Dev.wmkArmed, Dev.wmkPut_now]
  rfl

theorem Dev.wmkArmed_spec (w v : Nat) (e : Bool) : let k := (s.wmkPut w v).wmkArmed w e
    k.now = s.now ∧ (∀ i, k.dirNeg i = s.dirNeg i) ∧
    k.wmkReady w = (s.flag F.ANGLE_WMK_CFG_EN w && s.flag F.ANGLE_STAT_VALID (s.f F.ANGLE_WMK_CFG_INST w)) ∧ s.Keeps [.angle] s.out k := by
  intro k
  have hf : ∀ (G : Fld) (i : Nat), k.f G i = ((s.wmkPut w v).raise F.ANGLE_WMK_STAT_ARMED w).f G i := fun G i =>
    (Dev.fb_setAngle (s := ((s.wmkPut w v).raise F.ANGLE_WMK_STAT_ARMED w).wmkLook (s.wmkPut w v).now w) rfl ..).trans (Dev.fb_setAngle rfl ..)
  have ho : ∀ (G : Fld) (i : Nat), G.apart F.ANGLE_WMK_STAT_ARMED = true → G.apart F.ANGLE_WMK_TGT_TARGET = true → k.f G i = s.f G i := fun G i h1 h2 =>
    (hf G i).trans ((Dev.f_raise_apart _ _ _ _ _ h1).trans (Dev.wmkPut_f _ _ h2 _))
  have hk : s.Keeps [.angle] s.out k := Dev.Keeps.setAng ((((Dev.keeps_refl _ s).put (G := F.ANGLE_WMK_TGT_TARGET) (by decide) v w 0).raise (by decide) _ _).wmkLook (by decide) _ _) (by decide) _
  have harm : k.flag F.ANGLE_WMK_STAT_ARMED w = true := decide_eq_true (by rw [hf, Dev.f_raise_same]; decide)
  refine ⟨Dev.now_of_time hk.role_eq hk.time_eq, fun i => ?_, ?_, hk⟩
  · rw [Dev.dirNeg, Dev.angSpeed, Dev.fS, ho _ _ (by decide) (by decide)]
    rfl
  · rw [Dev.wmkReady, harm, Bool.and_true, ho _ _ (by decide) (by decide), Dev.flag, Dev.flag, ho _ _ (by decide) (by decide), ho _ _ (by decide) (by decide)]
    rfl

theorem Dev.wmkCross_eq {w t : Nat} (hr : s.wmkReady w = true) (hw : s.wmkWhen w = some t) : s.wmkCross w = (s.advanceTo t).wmkFire w t := by
  rw [Dev.wmkCross, if_pos hr, hw]

theorem Dev.wmkCross_idle {w : Nat} (h : s.wmkReady w = false ∨ s.wmkWhen w = none) : s.wmkCross w = s := by
  rw [Dev.wmkCross]
  rcases h with h | h
  · rw [if_neg (by rw [h]; decide)]
  · rw [h, ite_self]
end

/-! ### O33 -/

/-- Settles O33. -/
theorem probesAndCompares : Obligations.ProbesAndCompares := by
  intro s d
  refine ⟨fun p rising he hb => ?_, fun p rising h => s.runs_probeEdge.of_eq (if_neg ?_), fun w v hw hok => ?_, fun w t hw hr ht => ?_, fun w h => s.runs_wmkCrossing.of_eq (Dev.wmkCross_idle (s := d) h),
    ?_, fun w h => s.runs_wmkPulseEnd.of_eq (if_neg (Bool.not_eq_true _ ▸ h))⟩
  · have hrun := s.runs_probeEdge (probe := p) (rising := rising) |>.of_eq (if_pos ⟨decide_eq_true he, hb⟩)
    exact ⟨fun hf => hrun.of_eq (if_pos (decide_eq_true hf)), fun hf => hrun.of_eq (if_neg (show ¬ d.flag F.ANGLE_PRB_CFG_FULL p = true by rw [Dev.flag_off (s := d) hf]; decide))⟩
  · rintro ⟨he, hb⟩
    rcases h with h | h
    · exact Bool.false_ne_true ((Dev.flag_off (s := d) h).symm.trans he)
    · exact Bool.false_ne_true (h.symm.trans hb)
  · intro i dl put armed still
    have hrun : s.Runs (.wmkTgtWrite w v) (Acted.dev (d.wmkHost w v)) := s.runs_wmkTgtWrite.of_eq (congrArg Acted.dev (Dev.served_begin hok _))
    have harmed : ∀ e, (d.wmkPut w v).wmkArmed w e = armed e := Dev.wmkArmed_put w v
    refine ⟨fun h => hrun.of_eq (congrArg Acted.dev (if_pos h)), fun h => ?_⟩
    have hw : s.Runs (.wmkTgtWrite w v) ((d.wmkTarget w v).complete .ok) := hrun.of_eq (congrArg Acted.dev (if_neg h))
    refine ⟨fun he => hw.of_eq (congrArg (·.complete .ok) (Dev.wmkTarget_off (s := d) (w := w) (v := v) he)), fun he => ?_⟩
    have htgt := Dev.wmkTarget_on (s := d) (w := w) (v := v) he
    have hway : d.wmkWay w v = dl := rfl
    have hstill : d.flag F.ANGLE_STAT_STILL (d.f F.ANGLE_WMK_CFG_INST w) = still := rfl
    dsimp only at htgt
    rw [hway, hstill] at htgt
    obtain ⟨k1, k2, k3, k4⟩ := Dev.wmkArmed_spec (s := d) w v (still && decide (dl ≠ 0))
    refine ⟨fun h0 hv => ?_, fun h0 hv => ?_, fun h0 hs => ?_, fun h0 hs ha => ?_⟩
    · have hready : ((d.wmkPut w v).wmkArmed w (still && decide (dl ≠ 0))).wmkReady w = true := by
        rw [k3, show d.flag F.ANGLE_WMK_CFG_EN w = true from decide_eq_true he]
        exact decide_eq_true hv
      have hu := htgt.trans ((if_pos h0).trans (if_pos hready))
      obtain ⟨f1, -, f3, f4, -, -, f7⟩ := Dev.wmkFire_spec (s := (d.wmkPut w v).wmkArmed w (still && decide (dl ≠ 0))) w ((d.wmkPut w v).wmkArmed w (still && decide (dl ≠ 0))).now
      rw [← hu] at f1 f3 f4 f7
      exact hw.does ⟨rfl, f1, f3.trans (by rw [k1]; rfl), f4, (k4.next f7 (by decide)).of_begin⟩
    · have hready : ¬ ((d.wmkPut w v).wmkArmed w (still && decide (dl ≠ 0))).wmkReady w = true := by
        rw [k3, show d.flag F.ANGLE_STAT_VALID (d.f F.ANGLE_WMK_CFG_INST w) = false from Dev.flag_off hv, Bool.and_false]
        decide
      refine hw.of_eq (congrArg (·.complete .ok) (htgt.trans ((if_pos h0).trans ((if_neg hready).trans ?_))))
      rw [harmed, h0]
      exact congrArg armed (Bool.and_false _)
    · have hor : still = true ∨ ahead (((d.wmkPut w v).wmkArmed w (still && decide (dl ≠ 0))).dirNeg (d.f F.ANGLE_WMK_CFG_INST w)) dl = true := by
        rw [k2]
        exact hs
      refine hw.of_eq (congrArg (·.complete .ok) (htgt.trans ((if_neg h0).trans ((if_pos hor).trans ?_))))
      rw [harmed, decide_eq_true h0, Bool.and_true]
    · have hor : ¬ (still = true ∨ ahead (((d.wmkPut w v).wmkArmed w (still && decide (dl ≠ 0))).dirNeg (d.f F.ANGLE_WMK_CFG_INST w)) dl = true) := by
        rw [k2, hs]
        exact not_or.mpr ⟨Bool.false_ne_true, fun hh => Bool.false_ne_true (ha.symm.trans hh)⟩
      refine hw.of_eq (congrArg (·.complete .ok) (htgt.trans ((if_neg h0).trans ((if_neg hor).trans ?_))))
      rw [harmed, hs, Bool.false_and]
  · have hk : d.Keeps [.time, .angle] d.out (d.advanceTo t) := (Dev.keeps_refl _ d).advanceTo (by decide) _
    have hf : ∀ G : Fld, G.apart F.TIME_INC_INC = true → (d.advanceTo t).f G w = s.dev.f G w := fun G hG => Dev.advanceTo_f _ _ _ _ hG
    have hwmk : (d.advanceTo t).ang.wmk = s.dev.ang.wmk := by
      obtain ⟨x, hx⟩ := d.advanceTo_withTime t
      rw [hx]
      rfl
    obtain ⟨f1, f2, f3, f4, f5, f6, f7⟩ := Dev.wmkFire_spec (s := d.advanceTo t) w t
    rw [hf _ (by decide), hf _ (by decide)] at f2
    rw [hf _ (by decide)] at f5
    exact (s.runs_wmkCrossing.of_eq (Dev.wmkCross_eq (s := d) hr ht)).does ⟨f1, f2, f3, f4, f5, fun k h => (f6 k h).trans (by rw [hwmk]), (hk.next f7 (by decide)).of_begin⟩
  · intro w h g
    exact s.runs_wmkPulseEnd.of_eq (if_pos h)

end Sys2Proof.Machine
end

section
/-! The safety controller (13_safety_controller): what each operation on its channels and on its registers leaves. -/

namespace Sys2Proof.Machine

/-! ### Fields -/

/-- `G` shares no place with the first sixteen copies of `F`: it is clear of it, or lies after them. -/
def Fld.outside (G F : Fld) : Bool :=
  G.clear F || (decide (F.s2 = 0) && decide (F.off + 15 * F.s1 < G.off) && (decide (G.lo < 64) && decide (F.lo < 64)))

theorem Fld.key_ne_of_outside {G F : Fld} (h : G.outside F = true) {i : Nat} (hi : i < 16) (j i' j' : Nat) : G.blk ≠ F.blk ∨ G.key 0 i' j' ≠ F.key 0 i j := by
  simp only [Fld.outside, Bool.or_eq_true, Bool.and_eq_true, decide_eq_true_eq] at h
  rcases h with h | ⟨⟨h2, h3⟩, h4, h5⟩
  · exact Fld.key_ne_of_clear h ..
  · refine .inr ?_
    have : F.s1 * i ≤ 15 * F.s1 := by rw [Nat.mul_comm]; exact Nat.mul_le_mul_right _ (by omega)
    unfold Fld.key
    rw [h2]
    omega

section
variable {s u v : Dev} {E G : Fld}

theorem Dev.f_put_outside (s : Dev) (x : Nat) {i : Nat} (j i' j' : Nat) (h : G.outside E = true) (hi : i < 16) : (s.put E x i j).f G i' j' = s.f G i' j' :=
  Dev.f_put_other _ _ _ _ _ _ (Fld.key_ne_of_outside h hi ..)

/-! ### The channels -/

theorem Dev.safe_setRegs (s : Dev) (t : Tab Nat) (b : Blk) : ({ (s.setRegs t b).safe with regs := [] } : Safe) = { s.safe with regs := [] } := by cases b <;> rfl

/-- What is no register of SAFETY, a write of a field leaves. -/
theorem Dev.safe_put (s : Dev) (G : Fld) (x i j : Nat) : ({ (s.put G x i j).safe with regs := [] } : Safe) = { s.safe with regs := [] } := Dev.safe_setRegs ..

theorem Dev.ch_of_safe (h : ({ u.safe with regs := [] } : Safe) = { s.safe with regs := [] }) (y : Bool) : u.ch y = s.ch y := by
  cases y
  · exact (congrArg Safe.x h : _)
  · exact (congrArg Safe.y h : _)

theorem Dev.ch_put (G : Fld) (x i j : Nat) (y : Bool) : (s.put G x i j).ch y = s.ch y := Dev.ch_of_safe (Dev.safe_put ..) y
theorem Dev.ch_befall (G : Fld) (g : Nat → Nat) (i j : Nat) (y : Bool) : (s.befall G g i j).ch y = s.ch y := Dev.ch_put G (g (s.f G i j)) i j y
theorem Dev.ch_startTimer (k : Nat) (y : Bool) : (s.startTimer k).ch y = s.ch y := by cases y <;> rfl

theorem Dev.ch_setCh_same (y : Bool) (c : SafeCh) : (s.setCh y c).ch y = c := by cases y <;> rfl
theorem Dev.ch_setCh_other {y z : Bool} (h : z ≠ y) (c : SafeCh) : (s.setCh y c).ch z = s.ch z := by
  cases y <;> cases z <;> simp_all [Dev.ch, Dev.setCh]

theorem Dev.ch_setCh_of {α : Type} (p : SafeCh → α) {y : Bool} {c : SafeCh} (h : p c = p (s.ch y)) (z : Bool) : p ((s.setCh y c).ch z) = p (s.ch z) := by
  rcases eq_or_ne z y with rfl | hz
  · rw [Dev.ch_setCh_same, h]
  · rw [Dev.ch_setCh_other hz]

/-! ### What an event leaves of SAFETY -/

/-- What SAFETY holds beside its registers, its channels, and the times and pulses. -/
def Safe.core (t : Safe) : Tab Nat × Bool × Bool × Bool × Nat × Nat × Nat × Bool × Nat :=
  (t.yPar, t.driven, t.diff, t.xRst, t.clkBad, t.parBad, t.btTheta, t.btLock, t.btPassAt)

/-- But for the channels, the times and the pulses, the device `u` is `s` with some of the fields of the list written. -/
structure Dev.SafeLeaves (l : List Fld) (s u : Dev) : Prop where
  keeps : s.Keeps [.safety] s.out u
  core  : u.safe.core = s.safe.core
  fld   : ∀ (G : Fld) (i j : Nat), (∀ F ∈ l, G.outside F = true) → u.f G i j = s.f G i j

variable {l : List Fld}

theorem Dev.safeLeaves_refl (l : List Fld) (s : Dev) : Dev.SafeLeaves l s s := ⟨Dev.keeps_refl _ s, rfl, fun _ _ _ _ => rfl⟩

theorem Dev.SafeLeaves.trans (h : s.SafeLeaves l u) (k : u.SafeLeaves l v) : s.SafeLeaves l v :=
  ⟨h.keeps.next k.keeps (by decide), k.core.trans h.core, fun G i j hG => (k.fld G i j hG).trans (h.fld G i j hG)⟩

theorem Dev.SafeLeaves.mono {l' : List Fld} (h : s.SafeLeaves l u) (hsub : ∀ F ∈ l, F ∈ l') : s.SafeLeaves l' u :=
  ⟨h.keeps, h.core, fun G i j hG => h.fld G i j fun F hF => hG F (hsub F hF)⟩

theorem Dev.SafeLeaves.put (h : s.SafeLeaves l u) {F : Fld} (hF : F ∈ l) (hb : F.blk = .safety) (x : Nat) {i j : Nat} (hi : i < 16) : s.SafeLeaves l (u.put F x i j) :=
  ⟨h.keeps.put (by rw [hb]; decide) _ _ _, (congrArg Safe.core (Dev.safe_put u F x i j)).trans h.core,
    fun G k m hG => (Dev.f_put_outside _ _ _ _ _ (hG F hF) hi).trans (h.fld G k m hG)⟩

theorem Dev.SafeLeaves.befall (h : s.SafeLeaves l u) {F : Fld} (hF : F ∈ l) (hb : F.blk = .safety) (g : Nat → Nat) {i j : Nat} (hi : i < 16) :
    s.SafeLeaves l (u.befall F g i j) := by
  obtain ⟨k1, k2, k3⟩ := h.put hF hb (g (u.f F i j)) (j := j) hi
  exact ⟨k1.setEvents _, k2, fun G k m hG => (Dev.befall_fb ..).trans (k3 G k m hG)⟩

theorem Dev.f_setSafe {x : Safe} (hr : x.regs = u.safe.regs) (G : Fld) (i j : Nat) : ({ u with safe := x } : Dev).f G i j = u.f G i j :=
  Dev.fb_of_regs (u := { u with safe := x }) (s := u) rfl (by cases G.blk <;> simp [Dev.regsOf, hr]) ..

/-- Another state of SAFETY with the registers and what is held. -/
theorem Dev.SafeLeaves.setSafe (h : s.SafeLeaves l u) (x : Safe) (hr : x.regs = u.safe.regs) (hc : x.core = u.safe.core) :
    s.SafeLeaves l { u with safe := x } :=
  ⟨Dev.Keeps.setSafe h.keeps (by decide) x, hc.trans h.core,
    fun G i j hG => (Dev.f_setSafe hr G i j).trans (h.fld G i j hG)⟩

theorem Dev.SafeLeaves.setCh (h : s.SafeLeaves l u) (y : Bool) (c : SafeCh) : s.SafeLeaves l (u.setCh y c) := by
  cases y
  · exact h.setSafe _ rfl rfl
  · exact h.setSafe _ rfl rfl

theorem Dev.SafeLeaves.startTimer (h : s.SafeLeaves l u) (k : Nat) : s.SafeLeaves l (u.startTimer k) := h.setSafe _ rfl rfl

theorem Dev.SafeLeaves.iff (h : s.SafeLeaves l u) (c : Bool) (g : Dev → Dev) (hg : c = true → s.SafeLeaves l (g u)) : s.SafeLeaves l (u.iff c g) := by
  cases c
  · exact h
  · exact hg rfl

theorem Dev.SafeLeaves.each {α : Type} (h : s.SafeLeaves l u) (k : List α) (g : Dev → α → Dev) (hg : ∀ v, ∀ a ∈ k, s.SafeLeaves l v → s.SafeLeaves l (g v a)) :
    s.SafeLeaves l (u.each k g) := Dev.each_inv _ k g hg u h

/-! ### What the evaluation reads -/

/-- The parameters that the evaluation of the functions reads. -/
def safePars : List Fld :=
  [F.SAFETY_INST_CFG_TYPE, F.SAFETY_INST_CFG_STOP_CAT, F.SAFETY_INST_CFG_RESTART, F.SAFETY_INST_CFG_TRIP_EN, F.SAFETY_INST_CFG_AUX_EN,
   F.SAFETY_INST_CFG_STILL_REQ, F.SAFETY_INST_CFG_IN, F.SAFETY_INST_CFG_AUX, F.SAFETY_INST_CFG_ULK, F.SAFETY_INST_CFG_LINK, F.SAFETY_OUT_CFG_EN,
   F.SAFETY_OUT_CFG_MEMBERS, F.SAFETY_TRIP_CFG_EN, F.SAFETY_TRIP_CFG_POL, F.SAFETY_TRIP_CFG_SO_EN, F.SAFETY_TRIP_CFG_TRIP_PAIR, F.SAFETY_LINE_CFG_TP]

/-- Each channel has the same parameters. -/
def Dev.SamePar (s u : Dev) : Prop := ∀ F ∈ safePars, ∀ y i, u.par y F i = s.par y F i

theorem Dev.SafeLeaves.par (h : s.SafeLeaves l u) {G : Fld} (hG : ∀ F ∈ l, G.outside F = true) (y : Bool) (i : Nat) : u.par y G i = s.par y G i := by
  cases y
  · exact h.fld G i 0 hG
  · exact congrArg (fun t => parFld t.1 G i) h.core

theorem Dev.SafeLeaves.flag (h : s.SafeLeaves l u) {G : Fld} (hG : ∀ F ∈ l, G.outside F = true) (i j : Nat) : u.flag G i j = s.flag G i j := by
  rw [Dev.flag, h.fld G i j hG]; rfl

theorem Dev.SafeLeaves.samePar (h : s.SafeLeaves l u) (hl : ∀ G ∈ safePars, ∀ F ∈ l, G.outside F = true) : s.SamePar u := fun G hG y i => h.par (hl G hG) y i

theorem Dev.SamePar.trans (h : s.SamePar u) (k : u.SamePar v) : s.SamePar v := fun F hF y i => (k F hF y i).trans (h F hF y i)

section
variable (h : s.SamePar u) (y : Bool) (i j k : Nat)
include h

theorem Dev.SamePar.instType : u.instType y i = s.instType y i := h _ (by decide) y i
theorem Dev.SamePar.inPair : u.inPair y i = s.inPair y i := h _ (by decide) y i
theorem Dev.SamePar.auxPair : u.auxPair y i = s.auxPair y i := h _ (by decide) y i
theorem Dev.SamePar.members : u.par y F.SAFETY_OUT_CFG_MEMBERS j = s.par y F.SAFETY_OUT_CFG_MEMBERS j := h _ (by decide) y j
theorem Dev.SamePar.parOn {F : Fld} (hF : F ∈ safePars) : u.parOn y F i = s.parOn y F i := by rw [Dev.parOn, Dev.parOn, h F hF]
theorem Dev.SamePar.hasAux : u.hasAux y i = s.hasAux y i := by
  rw [Dev.hasAux, Dev.hasAux, h.instType, h.parOn y i (F := F.SAFETY_INST_CFG_AUX_EN) (by decide)]
theorem Dev.SamePar.instPairs : u.instPairs y i = s.instPairs y i := by rw [Dev.instPairs, Dev.instPairs, h.instType, h.inPair, h.hasAux, h.auxPair]
theorem Dev.SamePar.usesLine : u.usesLine y i k = s.usesLine y i k := by rw [Dev.usesLine, Dev.usesLine, h.instPairs]
theorem Dev.SamePar.pairsOf : u.pairsOf y i = s.pairsOf y i := List.filter_congr fun j _ => by rw [h.members]
theorem Dev.SamePar.ulkPair : u.ulkPair y i = s.ulkPair y i := by
  rw [Dev.ulkPair, Dev.ulkPair, h.instType, h F.SAFETY_INST_CFG_ULK (by decide)]
theorem Dev.SamePar.ulkOwner : u.ulkOwner y j = s.ulkOwner y j := by
  rw [Dev.ulkOwner, Dev.ulkOwner, show (fun i => decide (u.ulkPair y i = some j)) = fun i => decide (s.ulkPair y i = some j) from funext fun i => by rw [h.ulkPair]]

section
variable (hl : ∀ k, u.line y k = s.line y k)
include hl
omit h in
theorem Dev.pairClosed_congr (p : Nat) : u.pairClosed y p = s.pairClosed y p := by rw [Dev.pairClosed, Dev.pairClosed, hl, hl]
omit h in
theorem Dev.pairOpen_congr (p : Nat) : u.pairOpen y p = s.pairOpen y p := by rw [Dev.pairOpen, Dev.pairOpen, hl, hl]
omit h in
theorem Dev.pairDiffers_congr (p : Nat) : u.pairDiffers y p = s.pairDiffers y p := by rw [Dev.pairDiffers, Dev.pairDiffers, hl, hl]
theorem Dev.SamePar.linesClosed : u.linesClosed y i = s.linesClosed y i := by
  rw [Dev.linesClosed, Dev.linesClosed, h.instType, h.inPair, h.hasAux, h.auxPair, Dev.pairClosed_congr y hl, Dev.pairClosed_congr y hl]
variable (ho : (u.ch y).out = (s.ch y).out)
include ho
omit hl in
theorem Dev.SamePar.unlocked : u.unlocked y i = s.unlocked y i := by
  rw [Dev.unlocked, Dev.unlocked, h.ulkPair]
  simp only [Dev.outOn, ho]
theorem Dev.SamePar.lockCause : u.lockCause y i = s.lockCause y i := by
  rw [Dev.lockCause, Dev.lockCause, h.inPair, h.hasAux, h.auxPair, Dev.pairClosed_congr y hl, Dev.pairClosed_congr y hl, h.unlocked y i ho]
theorem Dev.SamePar.lineDemand (hs : u.stOf y i = s.stOf y i) : u.lineDemand y i = s.lineDemand y i := by
  rw [Dev.lineDemand, Dev.lineDemand, h.instType, h.inPair, h.hasAux, h.auxPair, Dev.pairClosed_congr y hl, Dev.pairClosed_congr y hl, h.unlocked y i ho, hs]
theorem Dev.SamePar.fbMismatch : u.fbMismatch y i = s.fbMismatch y i := by
  rw [Dev.fbMismatch, Dev.fbMismatch, h.pairsOf, h.inPair, Dev.pairClosed_congr y hl, Dev.pairOpen_congr y hl]
  simp only [Dev.outOn, ho]
  rfl
end
end

/-! ### The instances -/

/-- State and causes of an INST in a channel. -/
def Dev.instOf (s : Dev) (y : Bool) (i : Nat) : Nat × Nat := (s.stOf y i, s.causeOf y i)

/-- A channel but for its instances. -/
def SafeCh.base (c : SafeCh) : SafeCh := { c with st := [], cause := [] }

/-- Of the channels only the instances have changed. -/
structure Dev.InstsOnly (l : List Fld) (s u : Dev) : Prop where
  leaves : s.SafeLeaves l u
  base   : ∀ y, (u.ch y).base = (s.ch y).base

theorem Dev.instsOnly_refl (l : List Fld) (s : Dev) : Dev.InstsOnly l s s := ⟨Dev.safeLeaves_refl l s, fun _ => rfl⟩
theorem Dev.InstsOnly.trans (h : s.InstsOnly l u) (k : u.InstsOnly l v) : s.InstsOnly l v := ⟨h.leaves.trans k.leaves, fun y => (k.base y).trans (h.base y)⟩
theorem Dev.InstsOnly.mono {l' : List Fld} (h : s.InstsOnly l u) (hsub : ∀ F ∈ l, F ∈ l') : s.InstsOnly l' u := ⟨h.leaves.mono hsub, h.base⟩

theorem Dev.InstsOnly.iff (h : s.InstsOnly l u) (c : Bool) (g : Dev → Dev) (hg : c = true → s.InstsOnly l (g u)) : s.InstsOnly l (u.iff c g) := by
  cases c
  · exact h
  · exact hg rfl
theorem Dev.InstsOnly.ite (c : Prop) [Decidable c] (hu : c → s.InstsOnly l u) (hv : ¬ c → s.InstsOnly l v) : s.InstsOnly l (if c then u else v) := by
  split
  · exact hu ‹_›
  · exact hv ‹_›
theorem Dev.InstsOnly.each {α : Type} (h : s.InstsOnly l u) (k : List α) (g : Dev → α → Dev) (hg : ∀ v, ∀ a ∈ k, s.InstsOnly l v → s.InstsOnly l (g v a)) :
    s.InstsOnly l (u.each k g) := Dev.each_inv _ k g hg u h

theorem Dev.InstsOnly.setCh (h : s.InstsOnly l u) (y : Bool) {c : SafeCh} (hc : c.base = (u.ch y).base) : s.InstsOnly l (u.setCh y c) :=
  ⟨h.leaves.setCh y c, fun z => (Dev.ch_setCh_of SafeCh.base hc z).trans (h.base z)⟩

theorem Dev.InstsOnly.put (h : s.InstsOnly l u) {F : Fld} (hF : F ∈ l) (hb : F.blk = .safety) (x : Nat) {i j : Nat} (hi : i < 16) : s.InstsOnly l (u.put F x i j) :=
  ⟨h.leaves.put hF hb x hi, fun z => (congrArg SafeCh.base (Dev.ch_put ..)).trans (h.base z)⟩
theorem Dev.InstsOnly.befall (h : s.InstsOnly l u) {F : Fld} (hF : F ∈ l) (hb : F.blk = .safety) (g : Nat → Nat) {i j : Nat} (hi : i < 16) :
    s.InstsOnly l (u.befall F g i j) :=
  ⟨h.leaves.befall hF hb g hi, fun z => (congrArg SafeCh.base (Dev.ch_befall ..)).trans (h.base z)⟩

theorem Dev.InstsOnly.of_base {α : Type} (h : s.InstsOnly l u) (p : SafeCh → α) (y : Bool) : p (u.ch y).base = p (s.ch y).base := congrArg p (h.base y)
theorem Dev.InstsOnly.line (h : s.InstsOnly l u) (y : Bool) (k : Nat) : u.line y k = s.line y k := by
  rw [Dev.line, Dev.line, show (u.ch y).lines = (s.ch y).lines from h.of_base (·.lines) y, show (u.ch y).win = (s.ch y).win from h.of_base (·.win) y]
theorem Dev.InstsOnly.out (h : s.InstsOnly l u) (y : Bool) : (u.ch y).out = (s.ch y).out := h.of_base (·.out) y

/-- Another INST, or the INST in the other channel. -/
def Apart2 (z : Bool) (k : Nat) (y : Bool) (i : Nat) : Prop := z ≠ y ∨ k ≠ i

theorem Dev.instOf_put (G : Fld) (x k j : Nat) (y : Bool) (i : Nat) : (s.put G x k j).instOf y i = s.instOf y i := by
  rw [Dev.instOf, Dev.stOf, Dev.causeOf, Dev.ch_put]; rfl
theorem Dev.instOf_befall (G : Fld) (g : Nat → Nat) (k j : Nat) (y : Bool) (i : Nat) : (s.befall G g k j).instOf y i = s.instOf y i := Dev.instOf_put G _ k j y i

theorem Dev.instOf_of_ch (y : Bool) (i : Nat) (hst : (u.ch y).st = (s.ch y).st) (hc : (u.ch y).cause = (s.ch y).cause) : u.instOf y i = s.instOf y i := by
  rw [Dev.instOf, Dev.stOf, Dev.causeOf, hst, hc]; rfl

theorem Dev.instOf_setCh_same (y : Bool) (i : Nat) (c : SafeCh) : (s.setCh y c).instOf y i = (Tab.get 0 c.st i, Tab.get 0 c.cause i) := by
  unfold Dev.instOf Dev.stOf Dev.causeOf
  rw [Dev.ch_setCh_same]
theorem Dev.instOf_setCh_other {y z : Bool} (h : z ≠ y) (i : Nat) (c : SafeCh) : (s.setCh y c).instOf z i = s.instOf z i := by
  unfold Dev.instOf Dev.stOf Dev.causeOf
  rw [Dev.ch_setCh_other h]

theorem Dev.stOf_of (h : u.instOf y i = s.instOf y i) : u.stOf y i = s.stOf y i := congrArg Prod.fst h
theorem Dev.causeOf_of (h : u.instOf y i = s.instOf y i) : u.causeOf y i = s.causeOf y i := congrArg Prod.snd h

/-! ### A new state, a cause -/

theorem Dev.instGo_same (y : Bool) (i st : Nat) : (s.instGo y i st).instOf y i = (st, s.causeOf y i) := by
  rw [Dev.instGo, Dev.instOf, Dev.stOf, Dev.causeOf, Dev.ch_setCh_same, Tab.get_set_same]; rfl

theorem Dev.instGo_other {y z : Bool} {i k : Nat} (h : Apart2 z k y i) (st : Nat) : (s.instGo z k st).instOf y i = s.instOf y i := by
  rw [Dev.instGo, Dev.instOf, Dev.stOf, Dev.causeOf]
  rcases eq_or_ne y z with rfl | hz
  · have hk : i ≠ k := fun e => h.elim (· rfl) (· e.symm)
    rw [Dev.ch_setCh_same, Tab.get_set_other _ _ _ _ hk]; rfl
  · rw [Dev.ch_setCh_other hz]; rfl

theorem Dev.InstsOnly.instGo (h : s.InstsOnly l u) (y : Bool) (i st : Nat) : s.InstsOnly l (u.instGo y i st) := h.setCh y rfl

theorem Dev.instFail_inactive {y : Bool} {i : Nat} (h : s.stOf y i = sInactive) (c : Nat) : s.instFail y i c = s := if_pos h

theorem Dev.instFail_same {y : Bool} {i : Nat} (h : s.stOf y i ≠ sInactive) (c : Nat) :
    (s.instFail y i c).instOf y i = (sLockout, putBit (s.causeOf y i) c true) := by
  have hc : (s.instGo y i sLockout).causeOf y i = s.causeOf y i := congrArg Prod.snd (s.instGo_same y i sLockout)
  have hst : Tab.get 0 ((s.instGo y i sLockout).ch y).st i = sLockout := congrArg Prod.fst (s.instGo_same y i sLockout)
  rw [Dev.instFail, if_neg h, Dev.instOf, Dev.stOf, Dev.causeOf, Dev.ch_setCh_same, Tab.get_set_same, hst, hc]

theorem Dev.instFail_other {y z : Bool} {i k : Nat} (h : Apart2 z k y i) (c : Nat) : (s.instFail z k c).instOf y i = s.instOf y i := by
  rw [Dev.instFail]
  split
  · rfl
  · refine Eq.trans ?_ (Dev.instGo_other h sLockout)
    rw [Dev.instOf, Dev.stOf, Dev.causeOf]
    rcases eq_or_ne y z with rfl | hz
    · have hk : i ≠ k := fun e => h.elim (· rfl) (· e.symm)
      rw [Dev.ch_setCh_same, Tab.get_set_other _ _ _ _ hk]; rfl
    · rw [Dev.ch_setCh_other hz]; rfl

theorem Dev.InstsOnly.instFail (h : s.InstsOnly l u) (y : Bool) (i c : Nat) : s.InstsOnly l (u.instFail y i c) :=
  .ite _ (fun _ => h) fun _ => (h.instGo y i sLockout).setCh y rfl

theorem Dev.InstsOnly.instDemand (h : s.InstsOnly l u) (y : Bool) (i : Nat) : s.InstsOnly l (u.instDemand y i) :=
  .ite _ (fun _ => h.instGo ..) fun _ => .ite _ (fun _ => h.instGo ..) fun _ => h

theorem Dev.instDemand_run {y : Bool} {i : Nat} (h : s.stOf y i = sRun) :
    (s.instDemand y i).instOf y i = (if s.parOn y F.SAFETY_INST_CFG_STOP_CAT i then sStopping else sDemand, s.causeOf y i) := by
  rw [Dev.instDemand, if_pos h, Dev.instGo_same]

theorem Dev.instDemand_other {y z : Bool} {i k : Nat} (h : Apart2 z k y i) : (s.instDemand z k).instOf y i = s.instOf y i := by
  rw [Dev.instDemand]
  split
  · exact Dev.instGo_other h _
  · split
    · exact Dev.instGo_other h _
    · rfl

/-- An INST is in LOCKOUT with a cause. -/
def Dev.lockedBy (s : Dev) (y : Bool) (i c : Nat) : Prop := s.stOf y i = sLockout ∧ bitOf (s.causeOf y i) c = true

theorem Dev.lockedBy_of (h : u.instOf y i = s.instOf y i) (hs : s.lockedBy y i c) : u.lockedBy y i c :=
  ⟨(Dev.stOf_of h).trans hs.1, (congrArg (bitOf · c) (Dev.causeOf_of h)).trans hs.2⟩

theorem Dev.lockedBy_instFail {y : Bool} {i : Nat} (h : s.stOf y i ≠ sInactive) (c : Nat) : (s.instFail y i c).lockedBy y i c := by
  have hi := Dev.instFail_same h c
  exact ⟨congrArg Prod.fst hi, (congrArg (bitOf · c) (congrArg Prod.snd hi)).trans (bitOf_putBit_same ..)⟩

/-- A further cause leaves an INST in LOCKOUT with the causes it has. -/
theorem Dev.lockedBy.instFail {y : Bool} {i c : Nat} (h : s.lockedBy y i c) (z : Bool) (k c' : Nat) : (s.instFail z k c').lockedBy y i c := by
  by_cases hzk : z = y ∧ k = i
  · obtain ⟨rfl, rfl⟩ := hzk
    have hi := Dev.instFail_same (s := s) (y := z) (i := k) (by rw [h.1]; decide) c'
    refine ⟨congrArg Prod.fst hi, (congrArg (bitOf · c) (congrArg Prod.snd hi)).trans ?_⟩
    rcases eq_or_ne c c' with rfl | hc
    · exact bitOf_putBit_same ..
    · exact (bitOf_putBit_other _ _ hc).trans h.2
  · exact Dev.lockedBy_of (Dev.instFail_other (by rw [Apart2]; by_contra hn; push Not at hn; exact hzk hn) c') h

/-! ### Both channels -/

/-- What one channel's step gives and the other's keeps. -/
theorem Dev.both_at (P Q : Dev → Prop) (g : Dev → Bool → Dev) (y : Bool) (hP : ∀ v z, z ≠ y → P v → P (g v z)) (hQ : ∀ v, P v → Q (g v y))
    (hk : ∀ v z, z ≠ y → Q v → Q (g v z)) (s : Dev) (hs : P s) : Q (s.both g) :=
  Dev.each_once P Q chans g (by cases y <;> decide) (by decide) (fun v z _ => hP v z) hQ (fun v z _ => hk v z) s hs

theorem Dev.both_inv (P : Dev → Prop) (g : Dev → Bool → Dev) (h : ∀ v z, P v → P (g v z)) (s : Dev) (hs : P s) : P (s.both g) :=
  Dev.each_inv P chans g (fun v z _ => h v z) s hs

/-- What the step of one INST in one channel gives and the others keep. -/
theorem Dev.cells_once (P Q : Dev → Prop) (k : List Nat) (act : Dev → Bool → Nat → Dev) {y : Bool} {i : Nat} (hi : i ∈ k) (hn : k.Nodup)
    (hP : ∀ v z m, Apart2 z m y i → P v → P (act v z m)) (hQ : ∀ v, P v → Q (act v y i)) (hk : ∀ v z m, Apart2 z m y i → Q v → Q (act v z m)) (s : Dev) (hs : P s) :
    Q (s.both fun s y => s.each k fun s i => act s y i) :=
  Dev.both_at P Q _ y (fun v z hz hv => Dev.each_inv P k _ (fun v m _ => hP v z m (.inl hz)) v hv)
    (fun v hv => Dev.each_once P Q k _ hi hn (fun v m _ hm => hP v y m (.inr hm)) hQ (fun v m _ hm => hk v y m (.inr hm)) v hv)
    (fun v z hz hv => Dev.each_inv Q k _ (fun v m _ => hk v z m (.inl hz)) v hv) s hs

theorem mem_insts {i : Nat} : i ∈ insts ↔ i < 8 := List.mem_range
theorem insts_nodup : insts.Nodup := List.nodup_range
theorem mem_outPairs {j : Nat} : j ∈ outPairs ↔ j < 4 := List.mem_range
theorem outPairs_nodup : outPairs.Nodup := List.nodup_range

end

end Sys2Proof.Machine
end

section
/-! The end of every event of the safety controller (R314, R323, R326, R330, R332), and O34. -/

namespace Sys2Proof.Machine

section
variable {s u was : Dev}

/-! ### Restarts -/

/-- The state of an INST after the restarts of an event (R323). -/
def Dev.restarted (was s : Dev) (y : Bool) (i : Nat) : Nat :=
  if s.safeRun = true ∧ was.stOf y i = sDemand ∧ s.stOf y i = sDemand ∧ s.linesClosed y i = true then (if s.parOn y F.SAFETY_INST_CFG_RESTART i then sRun else sReady)
  else s.stOf y i

/-- The restart of one INST. -/
def Dev.restart1 (was s : Dev) (y : Bool) (i : Nat) : Dev :=
  s.iff (decide (s.stOf y i = sDemand) && decide (was.stOf y i = sDemand) && s.linesClosed y i) fun s => s.instGo y i (if s.parOn y F.SAFETY_INST_CFG_RESTART i then sRun else sReady)

theorem Dev.restart1_only (y : Bool) (i : Nat) (h : s.InstsOnly [] u) : s.InstsOnly [] (Dev.restart1 was u y i) := h.iff _ _ fun _ => h.instGo ..

theorem Dev.restart1_other {y z : Bool} {i k : Nat} (h : Apart2 z k y i) : (Dev.restart1 was s z k).instOf y i = s.instOf y i :=
  Dev.iff_keeps s (·.instOf y i) _ _ fun _ => Dev.instGo_other h _

theorem Dev.restart1_same (y : Bool) (i : Nat) (hr : s.safeRun = true) : (Dev.restart1 was s y i).instOf y i = (Dev.restarted was s y i, s.causeOf y i) := by
  unfold Dev.restart1 Dev.restarted Dev.iff
  by_cases h1 : s.stOf y i = sDemand <;> by_cases h2 : was.stOf y i = sDemand <;> by_cases h3 : s.linesClosed y i = true
  case pos =>
    rw [if_pos (show (_ && _ && _) = true by rw [decide_eq_true h1, decide_eq_true h2, h3]; rfl), Dev.instGo_same, if_pos (show _ ∧ _ from ⟨hr, h2, h1, h3⟩)]
  all_goals
    rw [if_neg (by simp [h1, h2, h3]), if_neg (by simp [h1, h2, h3])]
    rfl

/-- The device after the restarts of an event. -/
def Dev.restarts (was s : Dev) : Dev := s.iff s.safeRun fun s => s.both fun s y => s.each insts fun s i => Dev.restart1 was s y i

theorem Dev.restarts_only : s.InstsOnly [] (Dev.restarts was s) := by
  have h := Dev.instsOnly_refl [] s
  refine h.iff _ _ fun _ => Dev.both_inv _ _ (fun v z hv => hv.each _ _ fun w k _ hw => Dev.restart1_only z k hw) s h

theorem Dev.restarts_inst (y : Bool) {i : Nat} (hi : i < 8) : (Dev.restarts was s).instOf y i = (Dev.restarted was s y i, s.causeOf y i) := by
  rw [Dev.restarts, Dev.iff]
  by_cases hr : s.safeRun = true
  · rw [if_pos hr]
    have hrest : ∀ v : Dev, s.InstsOnly [] v ∧ v.instOf y i = s.instOf y i → (Dev.restarted was v y i, v.causeOf y i) = (Dev.restarted was s y i, s.causeOf y i) := fun v ⟨hv, hi⟩ => by
      have hp := hv.leaves.samePar (by decide)
      have hrun : v.safeRun = s.safeRun := hv.leaves.flag (G := F.SAFETY_STAT_MODE) (by decide) 0 0
      rw [Dev.restarted, Dev.restarted, hrun, Dev.stOf_of hi, Dev.causeOf_of hi, hp.linesClosed y i (hv.line y), hp.parOn y i (by decide)]
    refine Dev.cells_once (fun v => s.InstsOnly [] v ∧ v.instOf y i = s.instOf y i) (fun v => v.instOf y i = (Dev.restarted was s y i, s.causeOf y i)) insts _ (mem_insts.mpr hi) insts_nodup
      (fun v z k hk hv => ⟨Dev.restart1_only z k hv.1, (Dev.restart1_other hk).trans hv.2⟩) (fun v hv => ?_) (fun v z k hk hv => (Dev.restart1_other hk).trans hv) s ⟨Dev.instsOnly_refl [] s, rfl⟩
    have hrun : v.safeRun = s.safeRun := hv.1.leaves.flag (G := F.SAFETY_STAT_MODE) (by decide) 0 0
    rw [Dev.restart1_same y i (hrun.trans hr), hrest v hv]
  · rw [if_neg hr, Dev.restarted, if_neg fun h => hr h.1]
    rfl

/-! ### What follows the restarts -/

/-- A channel but for its output commands. -/
def SafeCh.offOut (c : SafeCh) : SafeCh := { c with out := 0 }

/-- The fields that the end of an event writes. -/
def btFlds : List Fld := [F.SAFETY_BT_STAT_PHASE, F.SAFETY_BT_STAT_RESULT]
def showFlds : List Fld := [F.SAFETY_OUT_STAT_TEST, F.SAFETY_OUT_STAT_DISC_CNT, F.SAFETY_OUT_STAT_ON, F.SAFETY_TRIP_STAT_DEMAND, F.SAFETY_CNT_DEMANDS,
  F.SAFETY_CNT_LOCKOUTS, F.SAFETY_INST_STAT_STATE, F.SAFETY_INST_STAT_CAUSE, F.SAFETY_INST_STAT_LINES_X, F.SAFETY_INST_STAT_LINES_Y]
def followFlds : List Fld := btFlds ++ F.SAFETY_TRIP_STAT_LATCH :: showFlds

/-- Of SAFETY only the named fields, the times and the pulses have changed. -/
structure Dev.ShowsOnly (l : List Fld) (s u : Dev) : Prop where
  leaves : s.SafeLeaves l u
  ch     : ∀ y, u.ch y = s.ch y

variable {l : List Fld}

theorem Dev.showsOnly_refl (l : List Fld) (s : Dev) : Dev.ShowsOnly l s s := ⟨Dev.safeLeaves_refl l s, fun _ => rfl⟩
theorem Dev.ShowsOnly.trans {v : Dev} (h : s.ShowsOnly l u) (k : u.ShowsOnly l v) : s.ShowsOnly l v := ⟨h.leaves.trans k.leaves, fun y => (k.ch y).trans (h.ch y)⟩
theorem Dev.ShowsOnly.mono {l' : List Fld} (h : s.ShowsOnly l u) (hsub : ∀ F ∈ l, F ∈ l') : s.ShowsOnly l' u := ⟨h.leaves.mono hsub, h.ch⟩
theorem Dev.ShowsOnly.put (h : s.ShowsOnly l u) {F : Fld} (hF : F ∈ l) (hb : F.blk = .safety) (x : Nat) {i j : Nat} (hi : i < 16) : s.ShowsOnly l (u.put F x i j) :=
  ⟨h.leaves.put hF hb x hi, fun y => (Dev.ch_put ..).trans (h.ch y)⟩
theorem Dev.ShowsOnly.befall (h : s.ShowsOnly l u) {F : Fld} (hF : F ∈ l) (hb : F.blk = .safety) (g : Nat → Nat) {i j : Nat} (hi : i < 16) : s.ShowsOnly l (u.befall F g i j) :=
  ⟨h.leaves.befall hF hb g hi, fun y => (Dev.ch_befall ..).trans (h.ch y)⟩
theorem Dev.ShowsOnly.startTimer (h : s.ShowsOnly l u) (k : Nat) : s.ShowsOnly l (u.startTimer k) := ⟨h.leaves.startTimer k, fun y => (Dev.ch_startTimer k y).trans (h.ch y)⟩
theorem Dev.ShowsOnly.setPulsed (h : s.ShowsOnly l u) (t : Tab Nat) : s.ShowsOnly l { u with safe := { u.safe with pulsed := t } } :=
  ⟨h.leaves.setSafe _ rfl rfl, fun y => (by cases y <;> rfl : Dev.ch { u with safe := { u.safe with pulsed := t } } y = u.ch y).trans (h.ch y)⟩
theorem Dev.ShowsOnly.iff (h : s.ShowsOnly l u) (c : Bool) (g : Dev → Dev) (hg : c = true → s.ShowsOnly l (g u)) : s.ShowsOnly l (u.iff c g) := by
  cases c
  · exact h
  · exact hg rfl
theorem Dev.ShowsOnly.each {α : Type} (h : s.ShowsOnly l u) (k : List α) (g : Dev → α → Dev) (hg : ∀ v, ∀ a ∈ k, s.ShowsOnly l v → s.ShowsOnly l (g v a)) :
    s.ShowsOnly l (u.each k g) := Dev.each_inv _ k g hg u h

theorem Dev.ShowsOnly.outOn (h : s.ShowsOnly l u) (y : Bool) (j : Nat) : u.outOn y j = s.outOn y j := by rw [Dev.outOn, h.ch]; rfl
theorem Dev.ShowsOnly.stOf (h : s.ShowsOnly l u) (y : Bool) (i : Nat) : u.stOf y i = s.stOf y i := by rw [Dev.stOf, h.ch]; rfl
theorem Dev.ShowsOnly.causeOf (h : s.ShowsOnly l u) (y : Bool) (i : Nat) : u.causeOf y i = s.causeOf y i := by rw [Dev.causeOf, h.ch]; rfl

theorem Dev.showsOnly_btEnd (r : Nat) : s.ShowsOnly btFlds (s.btEnd r) :=
  ((Dev.showsOnly_refl btFlds s).put (F := F.SAFETY_BT_STAT_PHASE) (by decide) rfl 0 (by decide)).put (F := F.SAFETY_BT_STAT_RESULT) (by decide) rfl r (by decide)

theorem Dev.showsOnly_btWatch : s.ShowsOnly btFlds (s.btWatch was) := by
  unfold Dev.btWatch
  exact (Dev.showsOnly_refl _ s).iff _ _ fun _ => Dev.showsOnly_btEnd 3

theorem Dev.showsOnly_pairShow {j : Nat} (hj : j < 4) : s.ShowsOnly showFlds (s.pairShow j) := by
  have hj' : j < 16 := by omega
  have h1 := (Dev.showsOnly_refl showFlds s).iff (!s.pairOn j && s.flag F.SAFETY_OUT_STAT_TEST j)
    (fun s => (s.put F.SAFETY_OUT_STAT_TEST 0 j).inc F.SAFETY_OUT_STAT_DISC_CNT 1 j)
    fun _ => ((Dev.showsOnly_refl showFlds s).put (F := F.SAFETY_OUT_STAT_TEST) (by decide) rfl _ hj').befall (F := F.SAFETY_OUT_STAT_DISC_CNT) (by decide) rfl _ hj'
  have h2 := h1.iff (!s.pairOn j) (fun s => { s with safe := { s.safe with pulsed := Tab.set 0 s.safe.pulsed j 0 } }) fun _ => h1.setPulsed _
  exact (h2.iff _ _ fun _ => h2.startTimer _).put (F := F.SAFETY_OUT_STAT_ON) (by decide) rfl _ hj'

theorem Dev.showsOnly_showInst {i : Nat} (hi : i < 8) : s.ShowsOnly showFlds (s.showInst i) := by
  have hi' : i < 16 := by omega
  have h1 := (Dev.showsOnly_refl showFlds s).iff (decide (s.f F.SAFETY_INST_STAT_STATE i = sRun) && decide (s.instState i ≠ sRun)) (fun s => s.inc F.SAFETY_CNT_DEMANDS 1)
    fun _ => (Dev.showsOnly_refl showFlds s).befall (F := F.SAFETY_CNT_DEMANDS) (by decide) rfl _ (by decide)
  have h2 := h1.iff (decide (s.f F.SAFETY_INST_STAT_STATE i ≠ sLockout) && decide (s.instState i = sLockout)) (fun s => s.inc F.SAFETY_CNT_LOCKOUTS 1)
    fun _ => h1.befall (F := F.SAFETY_CNT_LOCKOUTS) (by decide) rfl _ (by decide)
  exact (((h2.put (F := F.SAFETY_INST_STAT_STATE) (by decide) rfl _ hi').put (F := F.SAFETY_INST_STAT_CAUSE) (by decide) rfl _ hi').put
    (F := F.SAFETY_INST_STAT_LINES_X) (by decide) rfl _ hi').put (F := F.SAFETY_INST_STAT_LINES_Y) (by decide) rfl _ hi'

theorem Dev.showsOnly_startTimers : s.ShowsOnly [] (Dev.startTimers was s) := (Dev.showsOnly_refl [] s).each _ _ fun _ k _ hv => hv.startTimer k

/-- The commands of the outputs (R326). -/
def Dev.commanded (s : Dev) : Dev := s.both fun s y => s.each outPairs fun s j => s.cmdSet y j

/-- Only the output commands have changed. -/
structure Dev.OutsOnly (s u : Dev) : Prop where
  leaves : s.SafeLeaves [] u
  ch     : ∀ y, (u.ch y).offOut = (s.ch y).offOut

theorem Dev.outsOnly_cmdSet (y : Bool) (j : Nat) (h : s.OutsOnly u) : s.OutsOnly (u.cmdSet y j) :=
  ⟨h.leaves.setCh y _, fun z => (Dev.ch_setCh_of SafeCh.offOut (s := u) (y := y) (c := { u.ch y with out := putBit (u.ch y).out j (u.pairCmd y j) }) rfl z).trans (h.ch z)⟩

theorem Dev.outsOnly_commanded : s.OutsOnly s.commanded :=
  Dev.both_inv _ _ (fun v z hv => Dev.each_inv _ _ _ (fun w j _ hw => Dev.outsOnly_cmdSet z j hw) v hv) s ⟨Dev.safeLeaves_refl [] s, fun _ => rfl⟩

theorem Dev.OutsOnly.of_ch {α : Type} (h : s.OutsOnly u) (p : SafeCh → α) (y : Bool) : p (u.ch y).offOut = p (s.ch y).offOut := congrArg p (h.ch y)

/-! ### What the command of a pair reads -/

/-- The fields beside the parameters that the evaluation of the outputs and of the trip demand reads. -/
def readFlds : List Fld := [F.SAFETY_STAT_MODE, F.SAFETY_STAT_CFAULT, F.SAFETY_INST_REQ_REQ, F.SAFETY_TRIP_STAT_LATCH, F.SAFETY_TRIP_STAT_ORPHAN, F.ANGLE_STAT_STILL,
  F.SAFETY_BT_STAT_PHASE, F.SAFETY_BT_CFG_INST]

section
variable (hp : s.SamePar u) (hf : ∀ G ∈ readFlds, ∀ i j, u.f G i j = s.f G i j) (y : Bool) (hst : ∀ i, u.stOf y i = s.stOf y i)
include hf

theorem Dev.flag_congr {G : Fld} (hG : G ∈ readFlds) (i : Nat) : u.flag G i = s.flag G i := by rw [Dev.flag, hf G hG]; rfl
theorem Dev.safeRun_congr : u.safeRun = s.safeRun := Dev.flag_congr hf (G := F.SAFETY_STAT_MODE) (by decide) 0
theorem Dev.instReq_congr (i : Nat) : u.instReq i = s.instReq i := by rw [Dev.instReq, hf _ (by decide)]; rfl
theorem Dev.btOn_congr (i : Nat) : u.btOn i = s.btOn i := by rw [Dev.btOn, hf F.SAFETY_BT_STAT_PHASE (by decide), hf F.SAFETY_BT_CFG_INST (by decide)]; rfl

include hp hst
omit hf in
omit hp in
theorem Dev.instGoes_congr (i : Nat) : u.instGoes y i = s.instGoes y i := by rw [Dev.instGoes, hst]; rfl
theorem Dev.grants_congr (i : Nat) : u.grants y i = s.grants y i := by
  rw [Dev.grants, Dev.grants, Dev.instGoes_congr y hst, hp.instType, Dev.instReq_congr hf, Dev.btOn_congr hf, hp F.SAFETY_INST_CFG_LINK (by decide)]
  simp only [Dev.instGoes_congr y hst]

theorem Dev.pairCmd_congr (htrip : (u.ch y).trip = (s.ch y).trip) (j : Nat) : u.pairCmd y j = s.pairCmd y j := by
  have hso : u.tripsSo y = s.tripsSo y := by
    rw [Dev.tripsSo, Dev.tripsSo, hf F.SAFETY_TRIP_STAT_LATCH (by decide), htrip, hp F.SAFETY_TRIP_CFG_EN (by decide), hp F.SAFETY_TRIP_CFG_SO_EN (by decide)]
  rw [Dev.pairCmd, Dev.pairCmd, Dev.safeRun_congr hf, hp.parOn y j (F := F.SAFETY_OUT_CFG_EN) (by decide), Dev.flag_congr hf (G := F.SAFETY_STAT_CFAULT) (by decide), hso,
    hp F.SAFETY_TRIP_CFG_TRIP_PAIR (by decide), hp.ulkOwner y, hp.members]
  congr 1
  cases s.ulkOwner y j with
  | none => simp only [Dev.grants_congr hp hf y hst]
  | some i => simp only [Dev.instReq_congr hf, hst, hp.parOn y i (F := F.SAFETY_INST_CFG_STILL_REQ) (by decide), Dev.flag_congr hf (G := F.ANGLE_STAT_STILL) (by decide)]

omit y hst in
theorem Dev.tripDemand_congr (hst : ∀ y i, u.stOf y i = s.stOf y i) : u.tripDemand = s.tripDemand := by
  simp only [Dev.tripDemand, Dev.safeRun_congr hf, Dev.flag_congr hf (G := F.SAFETY_STAT_CFAULT) (by decide), Dev.flag_congr hf (G := F.SAFETY_TRIP_STAT_LATCH) (by decide),
    Dev.flag_congr hf (G := F.SAFETY_TRIP_STAT_ORPHAN) (by decide), fun y i => hp.parOn y i (F := F.SAFETY_INST_CFG_TRIP_EN) (by decide), hst]
end

theorem Dev.SafeLeaves.reads (h : s.SafeLeaves l u) (hl : ∀ G ∈ readFlds, ∀ F ∈ l, G.outside F = true) : ∀ G ∈ readFlds, ∀ i j, u.f G i j = s.f G i j :=
  fun G hG i j => h.fld G i j (hl G hG)

/-- Each output takes its command. -/
theorem Dev.commanded_out (y : Bool) {j : Nat} (hj : j < 4) : s.commanded.outOn y j = s.pairCmd y j := by
  have hcmd : ∀ v : Dev, s.OutsOnly v → v.pairCmd y j = s.pairCmd y j := fun v hv =>
    Dev.pairCmd_congr (hv.leaves.samePar (by decide)) (hv.leaves.reads (by decide)) y (fun i => hv.of_ch (fun c => Tab.get 0 c.st i) y) (hv.of_ch (·.trip) y) j
  have hother : ∀ (v : Dev) (z : Bool) (k : Nat), Apart2 z k y j → (v.cmdSet z k).outOn y j = v.outOn y j := fun v z k hk => by
    rw [Dev.cmdSet, Dev.outOn, Dev.outOn]
    rcases eq_or_ne y z with rfl | hz
    · rw [Dev.ch_setCh_same]
      exact bitOf_putBit_other _ _ (fun e => hk.elim (· rfl) (· e.symm))
    · rw [Dev.ch_setCh_other hz]
  refine Dev.cells_once (fun v => s.OutsOnly v) (fun v => v.outOn y j = s.pairCmd y j) outPairs _ (mem_outPairs.mpr hj) outPairs_nodup
    (fun v z k _ hv => Dev.outsOnly_cmdSet z k hv) (fun v hv => ?_) (fun v z k hk hv => (hother v z k hk).trans hv) s ⟨Dev.safeLeaves_refl [] s, fun _ => rfl⟩
  rw [Dev.cmdSet, Dev.outOn, Dev.ch_setCh_same]
  exact (bitOf_putBit_same ..).trans (hcmd v hv)

end

end Sys2Proof.Machine
end

section
/-! What every event of the safety controller ends with (R314, R317, R323, R326, R330), and O34. -/

namespace Sys2Proof.Machine

section
variable {s u was d : Dev}

/-! ### What is shown -/

theorem Dev.pairShow_on_same (j : Nat) : (s.pairShow j).f F.SAFETY_OUT_STAT_ON j = b2n (s.pairOn j) := (Dev.f_put_same ..).trans (b2n_mod _)

theorem Dev.pairShow_on_other {j k : Nat} (h : j ≠ k) : (s.pairShow k).f F.SAFETY_OUT_STAT_ON j = s.f F.SAFETY_OUT_STAT_ON j := by
  refine (Dev.f_put_index _ _ _ _ _ (by decide) h).trans ?_
  refine (Dev.f_iff _ _ _ _ _ _ fun _ => rfl).trans ((Dev.f_iff _ _ _ _ _ _ fun _ => rfl).trans (Dev.f_iff _ _ _ _ _ _ fun _ => ?_))
  exact (Dev.f_inc_apart _ _ _ _ _ _ (by decide)).trans (Dev.f_put_apart _ _ _ _ _ _ (by decide))

theorem worseState_lt (a b : Nat) : worseState a b < 2 ^ 4 := by
  unfold worseState
  cases h : [sLockout, sDemand, sReady, sStopping, sRun].find? fun c => decide (c = a) || decide (c = b) with
  | none => decide
  | some c =>
    have hc : c ∈ [sLockout, sDemand, sReady, sStopping, sRun] := List.mem_of_find?_eq_some h
    have hall : ∀ c ∈ [sLockout, sDemand, sReady, sStopping, sRun], c < 2 ^ 4 := by decide
    exact hall c hc

theorem Dev.showInst_state_same (i : Nat) : (s.showInst i).f F.SAFETY_INST_STAT_STATE i = s.instState i := by
  refine (Dev.f_put_apart _ _ _ _ _ _ (by decide)).trans ((Dev.f_put_apart _ _ _ _ _ _ (by decide)).trans ((Dev.f_put_apart _ _ _ _ _ _ (by decide)).trans ?_))
  exact (Dev.f_put_same ..).trans (Nat.mod_eq_of_lt (worseState_lt ..))

theorem Dev.showInst_state_other {i k : Nat} (h : i ≠ k) : (s.showInst k).f F.SAFETY_INST_STAT_STATE i = s.f F.SAFETY_INST_STAT_STATE i := by
  refine (Dev.f_put_apart _ _ _ _ _ _ (by decide)).trans ((Dev.f_put_apart _ _ _ _ _ _ (by decide)).trans ((Dev.f_put_apart _ _ _ _ _ _ (by decide)).trans ?_))
  refine (Dev.f_put_index _ _ _ _ _ (by decide) h).trans ?_
  exact (Dev.f_iff _ _ _ _ _ _ fun _ => Dev.f_inc_apart _ _ _ _ _ _ (by decide)).trans (Dev.f_iff _ _ _ _ _ _ fun _ => Dev.f_inc_apart _ _ _ _ _ _ (by decide))

/-! ### The stages -/

/-- The trip latches take the active inputs (R330). -/
def Dev.latchTrips (s : Dev) : Dev :=
  s.put F.SAFETY_TRIP_STAT_LATCH (Nat.lor (s.f F.SAFETY_TRIP_STAT_LATCH) (Nat.land (s.f F.SAFETY_TRIP_STAT_LEVEL) (s.f F.SAFETY_TRIP_CFG_EN)))

/-- What the commands are given from: restarts, brake test, latches. -/
def Dev.settledInsts (was s : Dev) : Dev := ((Dev.restarts was s).btWatch was).latchTrips

/-- The pairs as shown, the trip demand, the instances as shown. -/
def Dev.showPairs (s : Dev) : Dev := s.each outPairs Dev.pairShow
def Dev.showDemand (s : Dev) : Dev := s.put F.SAFETY_TRIP_STAT_DEMAND (b2n s.tripDemand)
def Dev.showInsts (s : Dev) : Dev := s.each insts Dev.showInst

theorem Dev.safeRefresh_eq (was d : Dev) : Dev.safeRefresh was d = Dev.startTimers was (Dev.settledInsts was d).commanded.showPairs.showDemand.showInsts := rfl

theorem Dev.showsOnly_showPairs : s.ShowsOnly showFlds s.showPairs :=
  (Dev.showsOnly_refl _ s).each _ _ fun _ _ hj hv => hv.trans (Dev.showsOnly_pairShow (mem_outPairs.mp hj))
theorem Dev.showsOnly_showDemand : s.ShowsOnly showFlds s.showDemand :=
  (Dev.showsOnly_refl _ s).put (F := F.SAFETY_TRIP_STAT_DEMAND) (by decide) rfl _ (by decide)
theorem Dev.showsOnly_showInsts : s.ShowsOnly showFlds s.showInsts :=
  (Dev.showsOnly_refl _ s).each _ _ fun _ _ hi hv => hv.trans (Dev.showsOnly_showInst (mem_insts.mp hi))

/-- After the commands only what is shown changes. -/
theorem Dev.safeRefresh_shows (was d : Dev) : (Dev.settledInsts was d).commanded.ShowsOnly showFlds (Dev.safeRefresh was d) := by
  rw [Dev.safeRefresh_eq]
  exact ((Dev.showsOnly_showPairs.trans Dev.showsOnly_showDemand).trans Dev.showsOnly_showInsts).trans (Dev.showsOnly_startTimers.mono (by decide))

/-- The brake test and the latches after the restarts. -/
theorem Dev.settledInsts_shows (was d : Dev) : (Dev.restarts was d).ShowsOnly followFlds (Dev.settledInsts was d) :=
  (Dev.showsOnly_btWatch.mono (by decide)).put (F := F.SAFETY_TRIP_STAT_LATCH) (by decide) rfl _ (by decide)

/-- What the end of an event leaves of SAFETY beside its channels. -/
theorem Dev.safeRefresh_leaves (was d : Dev) : d.SafeLeaves followFlds (Dev.safeRefresh was d) :=
  (((Dev.restarts_only.leaves.mono (by decide)).trans (Dev.settledInsts_shows was d).leaves).trans (Dev.outsOnly_commanded.leaves.mono (by decide))).trans
    ((Dev.safeRefresh_shows was d).leaves.mono (by decide))

/-- A channel but for its instances and its output commands. -/
def SafeCh.kept (c : SafeCh) : SafeCh := { c with st := [], cause := [], out := 0 }

/-- What the end of an event leaves of a channel. -/
theorem Dev.safeRefresh_kept (was d : Dev) (y : Bool) : ((Dev.safeRefresh was d).ch y).kept = (d.ch y).kept := by
  have h1 : ((Dev.settledInsts was d).commanded.ch y).kept = ((Dev.settledInsts was d).ch y).kept := congrArg (fun c : SafeCh => { c with st := [], cause := [] }) (Dev.outsOnly_commanded.ch y)
  have h2 : ((Dev.restarts was d).ch y).kept = (d.ch y).kept := congrArg (fun c : SafeCh => { c with out := 0 }) (Dev.restarts_only.base y)
  rw [(Dev.safeRefresh_shows was d).ch, h1, (Dev.settledInsts_shows was d).ch, h2]

theorem Dev.safeRefresh_ch {α : Type} (was d : Dev) (p : SafeCh → α) (y : Bool) : p ((Dev.safeRefresh was d).ch y).kept = p (d.ch y).kept :=
  congrArg p (Dev.safeRefresh_kept was d y)

theorem Dev.settledInsts_inst (was d : Dev) (y : Bool) {i : Nat} (hi : i < 8) : (Dev.settledInsts was d).instOf y i = (Dev.restarted was d y i, d.causeOf y i) := by
  rw [← Dev.restarts_inst y hi, Dev.instOf, (Dev.settledInsts_shows was d).stOf, (Dev.settledInsts_shows was d).causeOf]
  rfl

theorem Dev.safeRefresh_settled (was d : Dev) (y : Bool) (i : Nat) : (Dev.safeRefresh was d).instOf y i = (Dev.settledInsts was d).instOf y i := by
  rw [Dev.instOf, (Dev.safeRefresh_shows was d).stOf, (Dev.safeRefresh_shows was d).causeOf]
  exact Dev.outsOnly_commanded.of_ch (fun c => (Tab.get 0 c.st i, Tab.get 0 c.cause i)) y

/-- After an event only instances in DEMAND have restarted (R323). -/
theorem Dev.safeRefresh_inst (was d : Dev) (y : Bool) {i : Nat} (hi : i < 8) : (Dev.safeRefresh was d).instOf y i = (Dev.restarted was d y i, d.causeOf y i) :=
  (Dev.safeRefresh_settled ..).trans (Dev.settledInsts_inst was d y hi)

theorem Dev.safeRefresh_cause (was d : Dev) (y : Bool) {i : Nat} (hi : i < 8) : (Dev.safeRefresh was d).causeOf y i = d.causeOf y i := congrArg Prod.snd (Dev.safeRefresh_inst was d y hi)

theorem Dev.restarted_of_ne {y : Bool} {i : Nat} (h : d.stOf y i ≠ sDemand) : Dev.restarted was d y i = d.stOf y i := if_neg fun e => h e.2.2.1

/-- An INST that is not in DEMAND stays as it is. -/
theorem Dev.safeRefresh_st (was d : Dev) (y : Bool) {i : Nat} (hi : i < 8) (h : d.stOf y i ≠ sDemand) : (Dev.safeRefresh was d).stOf y i = d.stOf y i :=
  (congrArg Prod.fst (Dev.safeRefresh_inst was d y hi)).trans (Dev.restarted_of_ne h)

theorem Dev.lockedBy.safeRefresh {y : Bool} {i c : Nat} (h : d.lockedBy y i c) (was : Dev) (hi : i < 8) : (Dev.safeRefresh was d).lockedBy y i c :=
  ⟨(Dev.safeRefresh_st was d y hi (by rw [h.1]; decide)).trans h.1, (congrArg (bitOf · c) (Dev.safeRefresh_cause was d y hi)).trans h.2⟩

theorem Dev.safeRefresh_run (was d : Dev) : (Dev.safeRefresh was d).safeRun = d.safeRun :=
  (Dev.safeRefresh_leaves was d).flag (G := F.SAFETY_STAT_MODE) (by decide) 0 0

/-! ### The outputs and the trip demand -/

theorem Dev.safeRefresh_out (was d : Dev) (y : Bool) {j : Nat} (hj : j < 4) : (Dev.safeRefresh was d).outOn y j = (Dev.safeRefresh was d).pairCmd y j := by
  have hs := Dev.safeRefresh_shows was d
  have hc := Dev.outsOnly_commanded (s := Dev.settledInsts was d)
  have hl := (hc.leaves.mono (by decide)).trans hs.leaves
  rw [hs.outOn, Dev.commanded_out y hj]
  refine (Dev.pairCmd_congr (hl.samePar (by decide)) (hl.reads (by decide)) y (fun i => (hs.stOf y i).trans (hc.of_ch (fun c => Tab.get 0 c.st i) y)) ?_ j).symm
  exact (congrArg SafeCh.trip (hs.ch y)).trans (hc.of_ch (·.trip) y)

theorem Dev.showPairs_on {j : Nat} (hj : j < 4) : s.showPairs.f F.SAFETY_OUT_STAT_ON j = b2n (s.pairOn j) := by
  refine Dev.each_once (fun v => s.ShowsOnly showFlds v) (fun v => v.f F.SAFETY_OUT_STAT_ON j = b2n (s.pairOn j)) outPairs _ (mem_outPairs.mpr hj) outPairs_nodup
    (fun v k hk _ hv => hv.trans (Dev.showsOnly_pairShow (mem_outPairs.mp hk))) (fun v hv => ?_) (fun v k _ hk hv => (Dev.pairShow_on_other hk.symm).trans hv) s (Dev.showsOnly_refl _ s)
  rw [Dev.pairShow_on_same, Dev.pairOn, hv.outOn, hv.outOn]
  rfl

theorem Dev.safeRefresh_on (was d : Dev) {j : Nat} (hj : j < 4) :
    (Dev.safeRefresh was d).f F.SAFETY_OUT_STAT_ON j = b2n ((Dev.safeRefresh was d).outOn false j && (Dev.safeRefresh was d).outOn true j) := by
  have hs := Dev.safeRefresh_shows was d
  rw [hs.outOn, hs.outOn]
  refine Eq.trans ?_ (Dev.showPairs_on hj)
  rw [Dev.safeRefresh_eq, Dev.showsOnly_startTimers.leaves.fld _ _ _ (by decide)]
  generalize (Dev.settledInsts was d).commanded.showPairs = v
  have h1 : v.showDemand.showInsts.f F.SAFETY_OUT_STAT_ON j = v.showDemand.f F.SAFETY_OUT_STAT_ON j :=
    Dev.each_keeps (·.f F.SAFETY_OUT_STAT_ON j) _ _ (fun w i _ => by
      refine (Dev.f_put_apart _ _ _ _ _ _ (by decide)).trans ((Dev.f_put_apart _ _ _ _ _ _ (by decide)).trans ((Dev.f_put_apart _ _ _ _ _ _ (by decide)).trans
        ((Dev.f_put_apart _ _ _ _ _ _ (by decide)).trans ?_)))
      exact (Dev.f_iff _ _ _ _ _ _ fun _ => Dev.f_inc_apart _ _ _ _ _ _ (by decide)).trans (Dev.f_iff _ _ _ _ _ _ fun _ => Dev.f_inc_apart _ _ _ _ _ _ (by decide))) _
  exact h1.trans (Dev.f_put_apart _ _ _ _ _ _ (by decide))

theorem Dev.safeRefresh_demand (was d : Dev) : (Dev.safeRefresh was d).f F.SAFETY_TRIP_STAT_DEMAND = b2n (Dev.safeRefresh was d).tripDemand := by
  have hlate : ∀ v : Dev, v.ShowsOnly showFlds (Dev.startTimers was v.showDemand.showInsts) ∧ (Dev.startTimers was v.showDemand.showInsts).f F.SAFETY_TRIP_STAT_DEMAND = b2n v.tripDemand := fun v => by
    refine ⟨(Dev.showsOnly_showDemand.trans Dev.showsOnly_showInsts).trans (Dev.showsOnly_startTimers.mono (by decide)), ?_⟩
    rw [Dev.showsOnly_startTimers.leaves.fld _ _ _ (by decide)]
    have h1 : v.showDemand.showInsts.f F.SAFETY_TRIP_STAT_DEMAND = v.showDemand.f F.SAFETY_TRIP_STAT_DEMAND :=
      Dev.each_keeps (·.f F.SAFETY_TRIP_STAT_DEMAND) _ _ (fun w i _ => by
        refine (Dev.f_put_apart _ _ _ _ _ _ (by decide)).trans ((Dev.f_put_apart _ _ _ _ _ _ (by decide)).trans ((Dev.f_put_apart _ _ _ _ _ _ (by decide)).trans
          ((Dev.f_put_apart _ _ _ _ _ _ (by decide)).trans ?_)))
        exact (Dev.f_iff _ _ _ _ _ _ fun _ => Dev.f_inc_apart _ _ _ _ _ _ (by decide)).trans (Dev.f_iff _ _ _ _ _ _ fun _ => Dev.f_inc_apart _ _ _ _ _ _ (by decide))) _
    exact h1.trans ((Dev.f_put_same ..).trans (b2n_mod _))
  obtain ⟨hs, hf⟩ := hlate (Dev.settledInsts was d).commanded.showPairs
  rw [Dev.safeRefresh_eq, hf, Dev.tripDemand_congr (hs.leaves.samePar (by decide)) (hs.leaves.reads (by decide)) fun y i => hs.stOf y i]

theorem Dev.safeRefresh_state (was d : Dev) {i : Nat} (hi : i < 8) : (Dev.safeRefresh was d).f F.SAFETY_INST_STAT_STATE i = (Dev.safeRefresh was d).instState i := by
  have hst : ∀ {v w : Dev}, v.ShowsOnly showFlds w → w.instState i = v.instState i := fun h => by rw [Dev.instState, h.stOf, h.stOf]; rfl
  have hlate : ∀ v : Dev, (Dev.startTimers was v.showInsts).f F.SAFETY_INST_STAT_STATE i = (Dev.startTimers was v.showInsts).instState i := fun v => by
    rw [hst (Dev.showsOnly_showInsts.trans (Dev.showsOnly_startTimers.mono (by decide)) : v.ShowsOnly showFlds _), Dev.showsOnly_startTimers.leaves.fld _ _ _ (by decide)]
    refine Dev.each_once (fun w => v.ShowsOnly showFlds w) (fun w => w.f F.SAFETY_INST_STAT_STATE i = v.instState i) insts _ (mem_insts.mpr hi) insts_nodup
      (fun w k hk _ hw => hw.trans (Dev.showsOnly_showInst (mem_insts.mp hk))) (fun w hw => (Dev.showInst_state_same i).trans (hst hw))
      (fun w k _ hk hw => (Dev.showInst_state_other hk.symm).trans hw) v (Dev.showsOnly_refl _ v)
  rw [Dev.safeRefresh_eq]
  exact hlate _

/-- With the controller stopped or at fault the outputs are off and the trip is demanded (R318, R330). -/
theorem Dev.safeRefresh_off (was d : Dev) (h : d.safeRun = false ∨ d.flag F.SAFETY_STAT_CFAULT = true) :
    (∀ j, j < 4 → (Dev.safeRefresh was d).f F.SAFETY_OUT_STAT_ON j = 0) ∧ (Dev.safeRefresh was d).f F.SAFETY_TRIP_STAT_DEMAND = 1 := by
  have hf : (Dev.safeRefresh was d).flag F.SAFETY_STAT_CFAULT = d.flag F.SAFETY_STAT_CFAULT :=
    (Dev.safeRefresh_leaves was d).flag (G := F.SAFETY_STAT_CFAULT) (by decide) 0 0
  have hr := Dev.safeRefresh_run was d
  constructor
  · intro j hj
    have hcmd : (Dev.safeRefresh was d).pairCmd false j = false := by
      rw [Dev.pairCmd, hr, hf]
      rcases h with h | h <;> simp [h]
    rw [Dev.safeRefresh_on was d hj, Dev.safeRefresh_out was d false hj, hcmd]
    rfl
  · have ht : (Dev.safeRefresh was d).tripDemand = true := by
      rw [Dev.tripDemand, hr, hf]
      rcases h with h | h <;> simp [h]
    rw [Dev.safeRefresh_demand, ht]
    rfl

end

/-- Settles O34: every event ends with the restarts, then the commands of the outputs, the trip demand and what is shown, each from what stands then. -/
theorem safetyOutputsFollow : Obligations.SafetyOutputsFollow := by
  unfold Obligations.SafetyOutputsFollow
  intro was d
  refine ⟨fun y j hj => Dev.safeRefresh_out was d y hj, fun j hj => Dev.safeRefresh_on was d hj, Dev.safeRefresh_demand was d, fun h => Dev.safeRefresh_off was d (.inl h),
    fun h => Dev.safeRefresh_off was d (.inr h), fun i hi => Dev.safeRefresh_state was d hi, fun y i hi hne => ?_⟩
  have hst : (Dev.safeRefresh was d).stOf y i = Dev.restarted was d y i := congrArg Prod.fst (Dev.safeRefresh_inst was d y hi)
  by_cases hc : d.safeRun = true ∧ was.stOf y i = sDemand ∧ d.stOf y i = sDemand ∧ d.linesClosed y i = true
  · exact ⟨hc.1, hc.2.2.1, hc.2.1, hc.2.2.2, hst.trans (if_pos hc)⟩
  · exact absurd (hst.trans (if_neg hc)) hne

end Sys2Proof.Machine
end

section
/-! The checks between the channels of the safety controller (R317, R318, R335), and O35. -/

namespace Sys2Proof.Machine

section
variable {s u v was d g : Dev} {own : List Blk}

/-! ### A controller fault -/

/-- The fields of a controller fault. -/
def ctlFlds : List Fld := [F.SAFETY_STAT_CFAULT, F.SAFETY_STAT_CCAUSE]

/-- A controller fault locks every active INST out (R318). -/
theorem Dev.ctlFault_spec {c : Nat} (hc : c < 6) : let u := s.ctlFault c
    s.InstsOnly ctlFlds u ∧ u.f F.SAFETY_STAT_CFAULT = 1 ∧ bitOf (u.f F.SAFETY_STAT_CCAUSE) c = true ∧ ∀ y i, i < 8 → s.stOf y i ≠ sInactive → u.lockedBy y i cCtrl := by
  have h0 : s.InstsOnly ctlFlds ((s.raise F.SAFETY_STAT_CFAULT).setBit F.SAFETY_STAT_CCAUSE c true) :=
    ((Dev.instsOnly_refl ctlFlds s).befall (F := F.SAFETY_STAT_CFAULT) (by decide) rfl _ (by decide)).befall (F := F.SAFETY_STAT_CCAUSE) (by decide) rfl _ (by decide)
  have h1 : ((s.raise F.SAFETY_STAT_CFAULT).setBit F.SAFETY_STAT_CCAUSE c true).InstsOnly [] (s.ctlFault c) :=
    Dev.both_inv _ _ (fun v y hv => hv.each _ _ fun w i _ hw => hw.instFail ..) _ (Dev.instsOnly_refl [] _)
  refine ⟨h0.trans (h1.mono (by decide)), ?_, ?_, fun y i hi hne => ?_⟩
  · rw [h1.leaves.fld _ _ _ (by decide)]
    exact (Dev.fb_befall_apart _ _ _ _ _ _ _ (by decide)).trans (Dev.f_raise_same ..)
  · rw [h1.leaves.fld _ _ _ (by decide), Dev.bit_setBit _ _ _ _ hc, if_pos rfl]
  · have hst : ((s.raise F.SAFETY_STAT_CFAULT).setBit F.SAFETY_STAT_CCAUSE c true).instOf y i = s.instOf y i := (Dev.instOf_befall ..).trans (Dev.instOf_befall ..)
    refine Dev.cells_once (fun v => v.instOf y i = s.instOf y i) (fun v => v.lockedBy y i cCtrl) insts _ (mem_insts.mpr hi) insts_nodup
      (fun v z k hk hv => (Dev.instFail_other hk _).trans hv) (fun v hv => Dev.lockedBy_instFail (by rw [Dev.stOf_of hv]; exact hne) _)
      (fun v z k hk hv => Dev.lockedBy_of (Dev.instFail_other hk _) hv) _ hst

/-- The controller is stopped with a cause (R318). -/
theorem Dev.stopped_of (hk : s.Keeps own [] v) (hb : ∀ b ∈ [Blk.safety], b ∈ own) (hst : ∀ y i, v.stOf y i = s.stOf y i) {c : Nat} (hc : c < 6) (was : Dev) :
    let u := Dev.safeRefresh was (v.ctlFault c)
    u.f F.SAFETY_STAT_CFAULT = 1 ∧ bitOf (u.f F.SAFETY_STAT_CCAUSE) c = true ∧
      (∀ y i, i < 8 → s.stOf y i ≠ sInactive → u.stOf y i = sLockout ∧ bitOf (u.causeOf y i) cCtrl = true) ∧
      (∀ j, j < 4 → u.f F.SAFETY_OUT_STAT_ON j = 0) ∧ u.f F.SAFETY_TRIP_STAT_DEMAND = 1 ∧ s.Keeps own [] u := by
  obtain ⟨h1, h2, h3, h4⟩ := Dev.ctlFault_spec (s := v) hc
  have hl := Dev.safeRefresh_leaves was (v.ctlFault c)
  obtain ⟨o1, o2⟩ := Dev.safeRefresh_off was (v.ctlFault c) (.inr (by rw [Dev.flag, h2]; rfl))
  refine ⟨(hl.fld _ _ _ (by decide)).trans h2, by rw [hl.fld _ _ _ (by decide)]; exact h3, fun y i hi hne => ?_, o1, o2, ?_⟩
  · exact (h4 y i hi (by rw [hst]; exact hne)).safeRefresh was hi
  · have hk2 := (h1.leaves.mono (l' := ctlFlds ++ followFlds) (by decide)).trans (hl.mono (by decide))
    exact hk.next (hk.out_eq ▸ hk2.keeps) hb

theorem Dev.ctlClear_cause (c : Nat) : (s.ctlClear c).f F.SAFETY_STAT_CCAUSE = putBit (s.f F.SAFETY_STAT_CCAUSE) c false % 2 ^ 6 := (Dev.befall_fb ..).trans (Dev.f_put_same ..)
theorem Dev.ctlClear_fault (c : Nat) : (s.ctlClear c).f F.SAFETY_STAT_CFAULT = s.f F.SAFETY_STAT_CFAULT := Dev.fb_befall_apart _ _ _ _ _ _ _ (by decide)

/-- A cause of the controller fault has cleared (R335). -/
theorem Dev.cleared_of (hk : s.Keeps [.safety] [] v) {c : Nat} (hc : c < 5) (h1 : v.f F.SAFETY_STAT_CCAUSE = putBit (s.f F.SAFETY_STAT_CCAUSE) c false % 2 ^ 6)
    (h2 : v.f F.SAFETY_STAT_CFAULT = s.f F.SAFETY_STAT_CFAULT) (was : Dev) : let u := Dev.safeRefresh was v
    bitOf (u.f F.SAFETY_STAT_CCAUSE) c = false ∧ (∀ k, k < 5 → k ≠ c → bitOf (u.f F.SAFETY_STAT_CCAUSE) k = bitOf (s.f F.SAFETY_STAT_CCAUSE) k) ∧
      u.f F.SAFETY_STAT_CFAULT = s.f F.SAFETY_STAT_CFAULT ∧ s.Keeps [.safety] [] u := by
  have hl := Dev.safeRefresh_leaves was v
  have hbit : ∀ k, k < 5 → bitOf ((Dev.safeRefresh was v).f F.SAFETY_STAT_CCAUSE) k = if k = c then false else bitOf (s.f F.SAFETY_STAT_CCAUSE) k := fun k hk => by
    rw [hl.fld _ _ _ (by decide), h1, ← Dev.ctlClear_cause, Dev.ctlClear, Dev.bit_setBit _ _ _ _ (show k < 6 by omega)]
  exact ⟨(hbit c hc).trans (if_pos rfl), fun k hk hne => (hbit k hk).trans (if_neg hne), (hl.fld _ _ _ (by decide)).trans h2, hk.trans (hk.out_eq ▸ hl.keeps)⟩

/-- What the end of an event leaves of what SAFETY holds. -/
theorem Dev.safeRefresh_core (was d : Dev) : (Dev.safeRefresh was d).safe.core = d.safe.core := (Dev.safeRefresh_leaves was d).core

/-! ### The checks -/

/-- The time of a condition passes. -/
theorem Dev.lastedUs_withTime (k us : Nat) : ∃ x, s.lastedUs k us = { s with time := x } := s.frcTo_withTime _

theorem Dev.xcmpFault_run (hr : s.safeRun = true) (hd : s.safe.differ = true) : let g := s.lastedUs 38 (s.f F.SAFETY_XCMP_CFG_XCMP_T)
    s.xcmpFault = Dev.safeRefresh g ({ g with safe := { g.safe with diff := true, xRst := false } }.ctlFault 0) := if_pos ⟨hr, hd⟩

theorem Dev.xcmpFault_agree (hd : s.safe.differ = false) : s.xcmpFault = s := if_neg fun h => absurd h.2 (by rw [hd]; decide)

/-- The counters and causes after an exchange (R317, R335). -/
def Dev.exchanged (s : Dev) : Dev :=
  let d := s.safe.differ
  let t := s.iff (s.safe.diff && !d && !bitOf (s.f F.SAFETY_STAT_CCAUSE) 0) fun s => s.inc F.SAFETY_CNT_XCMP_DIFF 1
  let t := t.iff (!d && t.safe.xRst) fun s => s.ctlClear 0
  { t with safe := { t.safe with diff := d, xRst := t.safe.xRst && d } }

theorem Dev.xcmpExchange_run (hr : s.safeRun = true) : s.xcmpExchange = Dev.safeRefresh s s.exchanged := if_neg (not_not_intro hr)

/-- The channels agree: XCMP has cleared after a reset. -/
theorem Dev.exchanged_agree (hd : s.safe.differ = false) :
    (s.safe.xRst = true → s.exchanged.f F.SAFETY_STAT_CCAUSE = putBit (s.f F.SAFETY_STAT_CCAUSE) 0 false % 2 ^ 6) ∧
    s.exchanged.f F.SAFETY_STAT_CFAULT = s.f F.SAFETY_STAT_CFAULT ∧ (s.exchanged.safe.diff = false ∧ s.exchanged.safe.xRst = false) ∧ s.Keeps [.safety] s.out s.exchanged := by
  generalize ht : (s.iff (s.safe.diff && !s.safe.differ && !bitOf (s.f F.SAFETY_STAT_CCAUSE) 0) fun s => s.inc F.SAFETY_CNT_XCMP_DIFF 1) = t
  have hu : s.exchanged = { (t.iff t.safe.xRst fun s => s.ctlClear 0) with safe := { (t.iff t.safe.xRst fun s => s.ctlClear 0).safe with diff := false, xRst := false } } := by
    unfold Dev.exchanged
    dsimp only
    rw [ht, hd, Bool.and_false]
    rfl
  have hl : s.SafeLeaves [F.SAFETY_CNT_XCMP_DIFF] t := by
    rw [← ht]
    exact (Dev.safeLeaves_refl _ s).iff _ _ fun _ => (Dev.safeLeaves_refl _ s).befall (F := F.SAFETY_CNT_XCMP_DIFF) (by decide) rfl _ (by decide)
  have hx : t.safe.xRst = s.safe.xRst := congrArg (·.2.2.2.1) hl.core
  have hc : t.f F.SAFETY_STAT_CCAUSE = s.f F.SAFETY_STAT_CCAUSE := hl.fld _ _ _ (by decide)
  have hf := Dev.f_setSafe (u := t.iff t.safe.xRst fun s => s.ctlClear 0) (x := { (t.iff t.safe.xRst fun s => s.ctlClear 0).safe with diff := false, xRst := false }) rfl
  rw [hu]
  refine ⟨fun hr => ?_, ?_, ⟨rfl, rfl⟩, (hl.keeps.iff _ _ fun _ => hl.keeps.setBit (by decide) _ _).setSafe (by decide) _⟩
  · rw [hf, hx, hr]
    exact (Dev.ctlClear_cause 0).trans (congrArg (fun x => putBit x 0 false % 2 ^ 6) hc)
  · rw [hf]
    exact (Dev.f_iff _ _ _ _ _ _ fun _ => Dev.ctlClear_fault 0).trans (hl.fld _ _ _ (by decide))

theorem Dev.clockCheck_run (hr : s.safeRun = true) (y : Bool) (n : Nat) : s.clockCheck y n =
    let ok := decide (49000 ≤ n) && decide (n ≤ 51000)
    let s1 := { s with safe := { s.safe with clkBad := putBit s.safe.clkBad (b2n y) (!ok) } }
    Dev.safeRefresh s (if ok then s1.iff (decide (s1.safe.clkBad = 0)) (fun s => s.ctlClear 1) else s1.ctlFault 1) := if_neg (not_not_intro hr)

theorem Dev.clockCheck_fail (hr : s.safeRun = true) (y : Bool) {n : Nat} (hn : n < 49000 ∨ 51000 < n) :
    s.clockCheck y n = Dev.safeRefresh s (Dev.ctlFault { s with safe := { s.safe with clkBad := putBit s.safe.clkBad (b2n y) true } } 1) := by
  rw [Dev.clockCheck_run hr, show (decide (49000 ≤ n) && decide (n ≤ 51000)) = false by simp; omega]
  rfl

theorem Dev.clockCheck_pass (hr : s.safeRun = true) {y : Bool} {n : Nat} (h1 : 49000 ≤ n) (h2 : n ≤ 51000) (h0 : putBit s.safe.clkBad (b2n y) false = 0) :
    s.clockCheck y n = Dev.safeRefresh s (Dev.ctlClear { s with safe := { s.safe with clkBad := 0 } } 1) := by
  rw [Dev.clockCheck_run hr, decide_eq_true h1, decide_eq_true h2, ← h0]
  dsimp only
  rw [show (!(true && true)) = false from rfl, h0]
  rfl

theorem Dev.supplyFault_fail (hr : s.safeRun = true) (y : Bool) : s.supplyFault y false = Dev.safeRefresh s (s.ctlFault (if y then 3 else 2)) := if_neg (not_not_intro hr)
theorem Dev.supplyFault_pass (hr : s.safeRun = true) (y : Bool) : s.supplyFault y true = Dev.safeRefresh s (s.ctlClear (if y then 3 else 2)) := if_neg (not_not_intro hr)

/-- The parameters of a channel. -/
def Dev.parTab (s : Dev) (y : Bool) : Tab Nat := if y then s.safe.yPar else s.safe.regs

theorem Dev.paramCrcCheck_run (hr : s.safeRun = true) (y : Bool) : s.paramCrcCheck y =
    let ok := decide (paramCrc (s.parTab y) = parFld (s.parTab y) F.SAFETY_PARAM_CRC_CRC)
    let s1 := { s with safe := { s.safe with parBad := putBit s.safe.parBad (b2n y) (!ok) } }
    Dev.safeRefresh s (if ok then s1.iff (decide (s1.safe.parBad = 0)) (fun s => s.ctlClear 4) else s1.ctlFault 4) := if_neg (not_not_intro hr)

theorem Dev.paramCrcCheck_fail (hr : s.safeRun = true) {y : Bool} (h : paramCrc (s.parTab y) ≠ parFld (s.parTab y) F.SAFETY_PARAM_CRC_CRC) :
    s.paramCrcCheck y = Dev.safeRefresh s (Dev.ctlFault { s with safe := { s.safe with parBad := putBit s.safe.parBad (b2n y) true } } 4) := by
  rw [Dev.paramCrcCheck_run hr, decide_eq_false h]
  rfl

theorem Dev.paramCrcCheck_pass (hr : s.safeRun = true) {y : Bool} (h : paramCrc (s.parTab y) = parFld (s.parTab y) F.SAFETY_PARAM_CRC_CRC)
    (h0 : putBit s.safe.parBad (b2n y) false = 0) : s.paramCrcCheck y = Dev.safeRefresh s (Dev.ctlClear { s with safe := { s.safe with parBad := 0 } } 4) := by
  rw [Dev.paramCrcCheck_run hr, decide_eq_true h, ← h0]
  dsimp only
  rw [show (!true) = false from rfl, h0]
  rfl

/-- A difference that ended without a fault is counted. -/
theorem Dev.exchanged_count (hd : s.safe.differ = false) (hdiff : s.safe.diff = true) (hc : bitOf (s.f F.SAFETY_STAT_CCAUSE) 0 = false) :
    s.exchanged.f F.SAFETY_CNT_XCMP_DIFF = min 0xFFFF (s.f F.SAFETY_CNT_XCMP_DIFF + 1) := by
  have hcond : (s.safe.diff && !s.safe.differ && !bitOf (s.f F.SAFETY_STAT_CCAUSE) 0) = true := by rw [hdiff, hd, hc]; rfl
  unfold Dev.exchanged
  dsimp only
  rw [hcond]
  refine (Dev.f_setSafe rfl ..).trans ((Dev.f_iff _ _ _ _ _ _ fun _ => Dev.f_setBit_clear _ _ _ _ _ _ _ (by decide)).trans ((Dev.f_inc_same ..).trans ?_))
  exact Nat.mod_eq_of_lt (show min (2 ^ 16 - 1) (s.f F.SAFETY_CNT_XCMP_DIFF + 1) < 2 ^ 16 by omega)

/-- While they differ nothing is counted or cleared. -/
theorem Dev.exchanged_differ (hd : s.safe.differ = true) : s.exchanged.safe.diff = true ∧ s.exchanged.f F.SAFETY_CNT_XCMP_DIFF = s.f F.SAFETY_CNT_XCMP_DIFF ∧
    s.exchanged.f F.SAFETY_STAT_CCAUSE = s.f F.SAFETY_STAT_CCAUSE := by
  have hu : s.exchanged = { s with safe := { s.safe with diff := true, xRst := s.safe.xRst && true } } := by
    unfold Dev.exchanged
    rw [hd]
    dsimp only
    rw [show (s.safe.diff && !true && !bitOf (s.f F.SAFETY_STAT_CCAUSE) 0) = false by simp]
    rfl
  rw [hu]
  exact ⟨rfl, Dev.f_setSafe rfl .., Dev.f_setSafe rfl ..⟩

/-- While the controller is stopped none of the checks acts. -/
theorem Dev.not_safeRun_same (hr : s.safeRun = false) : s.xcmpExchange = s ∧ s.xcmpFault = s ∧ (∀ y n, s.clockCheck y n = s) ∧ (∀ y inside, s.supplyFault y inside = s) ∧
    ∀ y, s.paramCrcCheck y = s := by
  have hn : ¬ s.safeRun = true := by rw [hr]; decide
  exact ⟨if_pos hn, if_neg fun h => hn h.1, fun _ _ => if_pos hn, fun _ _ => if_pos hn, fun _ => if_pos hn⟩

/-- A mask of the two channels, whose other bit is clear, is clear with this one. -/
theorem putBit_chan_false {v : Nat} (hv : v < 4) {y : Bool} (h : bitOf v (b2n (!y)) = false) : putBit v (b2n y) false = 0 := by
  have hall : ∀ v : Fin 4, ∀ y : Bool, bitOf v.val (b2n (!y)) = false → putBit v.val (b2n y) false = 0 := by decide
  exact hall ⟨v, hv⟩ y h


/-- A cause has cleared in another state of SAFETY. -/
theorem Dev.cleared_in (hk : s.Keeps [.safety] [] d) (hd : ∀ G : Fld, d.f G = s.f G) {x : Safe} (hx : x.regs = d.safe.regs) {c : Nat} (hc : c < 5) (was : Dev) :
    let u := Dev.safeRefresh was (Dev.ctlClear { d with safe := x } c)
    bitOf (u.f F.SAFETY_STAT_CCAUSE) c = false ∧ (∀ k, k < 5 → k ≠ c → bitOf (u.f F.SAFETY_STAT_CCAUSE) k = bitOf (s.f F.SAFETY_STAT_CCAUSE) k) ∧
      u.f F.SAFETY_STAT_CFAULT = s.f F.SAFETY_STAT_CFAULT ∧ s.Keeps [.safety] [] u := by
  have hk' : s.Keeps [.safety] [] { d with safe := x } := hk.setSafe (by decide) x
  have hf : ∀ G : Fld, ({ d with safe := x } : Dev).f G = s.f G := fun G => (Dev.f_setSafe hx ..).trans (hd G)
  generalize ({ d with safe := x } : Dev) = v at hk' hf
  exact Dev.cleared_of (hk'.setBit (by decide) _ _) hc ((Dev.ctlClear_cause c).trans (by rw [hf])) ((Dev.ctlClear_fault c).trans (hf _)) was

end

/-- Settles O35: a failed check ends in a controller fault, which the end of the event leaves as it is; a passed one clears its cause. -/
theorem safetyControllerChecks : Obligations.SafetyControllerChecks := by
  unfold Obligations.SafetyControllerChecks
  intro s
  dsimp only
  have hk : s.dev.Keeps [.safety] [] s.dev.begin := Dev.keeps_begin _ _
  have hsame : ∀ x : Safe, s.dev.Keeps [.safety] [] { s.dev.begin with safe := x } := fun x => hk.setSafe (by decide) x
  have hcl := fun (x : Safe) (hx : x.regs = s.dev.begin.safe.regs) (c : Nat) (hc : c < 5) => Dev.cleared_in hk (fun G => Dev.begin_f s.dev G 0 0) hx hc s.dev.begin
  refine ⟨fun hr => ⟨fun hd => ?_, fun hd => ?_, fun hd hx => ?_, fun hd hdiff hc => ?_, fun hd => ?_, fun y n hn => ?_, fun y n h1 h2 h3 h4 => ?_, fun y => ?_, fun y => ?_,
    fun y => ⟨fun h => ?_, fun h h0 => ?_⟩⟩, fun hr => ⟨?_, ?_, fun y n inside => ⟨?_, ?_, ?_⟩⟩⟩
  · refine (s.runs_xcmpFault.of_eq (Dev.xcmpFault_run (s := s.dev.begin) hr hd)).does ?_
    obtain ⟨x, hx⟩ := Dev.lastedUs_withTime (s := s.dev.begin) 38 (s.dev.begin.f F.SAFETY_XCMP_CFG_XCMP_T)
    rw [hx]
    exact Dev.stopped_of (((Dev.keeps_begin _ _).setTime (by decide) x).setSafe (by decide) _) (by decide) (fun y i => by cases y <;> rfl) (by decide) _
  · exact s.runs_xcmpFault.of_eq (Dev.xcmpFault_agree (s := s.dev.begin) hd)
  · refine (s.runs_xcmpExchange.of_eq (Dev.xcmpExchange_run (s := s.dev.begin) hr)).does ?_
    obtain ⟨h1, h2, h3, h4⟩ := Dev.exchanged_agree (s := s.dev.begin) hd
    have hcore := Dev.safeRefresh_core s.dev.begin s.dev.begin.exchanged
    refine ⟨Dev.cleared_of (h4.of_begin) (by decide) (h1 hx) h2 s.dev.begin, (congrArg (·.2.2.1) hcore).trans h3.1, (congrArg (·.2.2.2.1) hcore).trans h3.2⟩
  · refine (s.runs_xcmpExchange.of_eq (Dev.xcmpExchange_run (s := s.dev.begin) hr)).does ?_
    obtain ⟨h1, h2, h3, h4⟩ := Dev.exchanged_agree (s := s.dev.begin) hd
    refine ⟨(congrArg (·.2.2.1) (Dev.safeRefresh_core s.dev.begin s.dev.begin.exchanged)).trans h3.1, ?_⟩
    rw [(Dev.safeRefresh_leaves _ _).fld _ _ _ (by decide)]
    exact Dev.exchanged_count (s := s.dev.begin) hd hdiff hc
  · refine (s.runs_xcmpExchange.of_eq (Dev.xcmpExchange_run (s := s.dev.begin) hr)).does ?_
    obtain ⟨h1, h2, h3⟩ := Dev.exchanged_differ (s := s.dev.begin) hd
    have hl := Dev.safeRefresh_leaves s.dev.begin s.dev.begin.exchanged
    exact ⟨(congrArg (·.2.2.1) hl.core).trans h1, (hl.fld _ _ _ (by decide)).trans (h2.trans (Dev.begin_f ..)), (hl.fld _ _ _ (by decide)).trans (h3.trans (Dev.begin_f ..))⟩
  · refine (s.runs_clockCheck.of_eq (Dev.clockCheck_fail (s := s.dev.begin) hr y hn)).does ?_
    exact Dev.stopped_of (hsame _) (by decide) (fun y i => by cases y <;> rfl) (by decide) _
  · refine (s.runs_clockCheck.of_eq (Dev.clockCheck_pass (s := s.dev.begin) hr h1 h2 (putBit_chan_false h4 h3))).does ?_
    exact hcl { s.dev.begin.safe with clkBad := 0 } rfl 1 (by decide)
  · refine (s.runs_supplyFault.of_eq (Dev.supplyFault_fail (s := s.dev.begin) hr y)).does ?_
    exact Dev.stopped_of hk (by decide) (fun y i => by cases y <;> rfl) (by cases y <;> decide) _
  · refine (s.runs_supplyFault.of_eq (Dev.supplyFault_pass (s := s.dev.begin) hr y)).does ?_
    exact hcl s.dev.begin.safe rfl _ (by cases y <;> decide)
  · refine (s.runs_paramCrcCheck.of_eq (Dev.paramCrcCheck_fail (s := s.dev.begin) hr h)).does ?_
    exact Dev.stopped_of (hsame _) (by decide) (fun y i => by cases y <;> rfl) (by decide) _
  · have hb : putBit s.dev.safe.parBad (b2n y) false = 0 := putBit_chan_false (by rw [h0]; decide) (by rw [h0]; cases y <;> rfl)
    refine (s.runs_paramCrcCheck.of_eq (Dev.paramCrcCheck_pass (s := s.dev.begin) hr h hb)).does ?_
    exact hcl { s.dev.begin.safe with parBad := 0 } rfl 4 (by decide)
  · exact s.runs_xcmpExchange.of_eq (Dev.not_safeRun_same (s := s.dev.begin) hr).1
  · exact s.runs_xcmpFault.of_eq (Dev.not_safeRun_same (s := s.dev.begin) hr).2.1
  · exact s.runs_clockCheck.of_eq ((Dev.not_safeRun_same (s := s.dev.begin) hr).2.2.1 y n)
  · exact s.runs_supplyFault.of_eq ((Dev.not_safeRun_same (s := s.dev.begin) hr).2.2.2.1 y inside)
  · exact s.runs_paramCrcCheck.of_eq ((Dev.not_safeRun_same (s := s.dev.begin) hr).2.2.2.2 y)

end Sys2Proof.Machine
end

section
/-! Input lines, test pulses and discrepancies of the safety controller (R319 to R324, R336), and O36. -/

namespace Sys2Proof.Machine

theorem putBit_zero_false (c : Nat) : putBit 0 c false = 0 := by simp [putBit, putBits, bits, b2n]

section
variable {s u v was d g : Dev}

/-! ### Causes that clear -/

/-- A channel but for its causes and the pairs that disagree. -/
def SafeCh.noCause (c : SafeCh) : SafeCh := { c with cause := [], disc := 0 }

/-- Only causes have cleared, and pairs that disagreed. -/
structure Dev.Clears (s u : Dev) : Prop where
  leaves : s.SafeLeaves [] u
  ch     : ∀ y, (u.ch y).noCause = (s.ch y).noCause
  zero   : ∀ y i, s.causeOf y i = 0 → u.causeOf y i = 0

theorem Dev.clears_refl (s : Dev) : s.Clears s := ⟨Dev.safeLeaves_refl [] s, fun _ => rfl, fun _ _ h => h⟩
theorem Dev.Clears.trans (h : s.Clears u) (k : u.Clears v) : s.Clears v :=
  ⟨h.leaves.trans k.leaves, fun y => (k.ch y).trans (h.ch y), fun y i hz => k.zero y i (h.zero y i hz)⟩
theorem Dev.Clears.of_ch {α : Type} (h : s.Clears u) (p : SafeCh → α) (y : Bool) : p (u.ch y).noCause = p (s.ch y).noCause := congrArg p (h.ch y)
theorem Dev.Clears.stOf (h : s.Clears u) (y : Bool) (i : Nat) : u.stOf y i = s.stOf y i := h.of_ch (fun c => Tab.get 0 c.st i) y
theorem Dev.Clears.iff (h : s.Clears u) (c : Bool) (g : Dev → Dev) (hg : c = true → s.Clears (g u)) : s.Clears (u.iff c g) := by
  cases c
  · exact h
  · exact hg rfl
theorem Dev.Clears.each {α : Type} (h : s.Clears u) (k : List α) (g : Dev → α → Dev) (hg : ∀ v, ∀ a ∈ k, s.Clears v → s.Clears (g v a)) : s.Clears (u.each k g) :=
  Dev.each_inv _ k g hg u h

theorem Dev.Clears.setDisc (h : s.Clears u) (y : Bool) (n : Nat) : s.Clears (u.setCh y { u.ch y with disc := n }) := by
  refine ⟨h.leaves.setCh y _, fun z => (Dev.ch_setCh_of SafeCh.noCause (s := u) (y := y) (c := { u.ch y with disc := n }) rfl z).trans (h.ch z), fun z i hz => ?_⟩
  rw [← h.zero z i hz]
  exact Dev.ch_setCh_of (fun c => Tab.get 0 c.cause i) (s := u) (y := y) (c := { u.ch y with disc := n }) rfl z

/-- A cause clears in one channel. -/
def Dev.causeOff (s : Dev) (i c : Nat) (y : Bool) : Dev := s.setCh y { s.ch y with cause := Tab.set 0 (s.ch y).cause i (putBit (s.causeOf y i) c false) }

theorem Dev.causeOff_inst_same (i c : Nat) (y : Bool) : (s.causeOff i c y).instOf y i = (s.stOf y i, putBit (s.causeOf y i) c false) := by
  rw [Dev.causeOff, Dev.instOf_setCh_same]
  exact congrArg (Prod.mk _) (Tab.get_set_same ..)

theorem Dev.causeOff_inst_other {l i : Nat} {z y : Bool} (h : Apart2 z l y i) (c : Nat) : (s.causeOff l c z).instOf y i = s.instOf y i := by
  rw [Dev.causeOff]
  rcases eq_or_ne y z with rfl | hz
  · have hk : i ≠ l := fun e => h.elim (· rfl) (· e.symm)
    rw [Dev.instOf_setCh_same]
    exact congrArg (Prod.mk _) (Tab.get_set_other _ _ _ _ hk)
  · exact Dev.instOf_setCh_other hz i _

theorem Dev.Clears.causeOff (h : s.Clears u) (i c : Nat) (y : Bool) : s.Clears (u.causeOff i c y) := by
  refine ⟨h.leaves.setCh y _, fun z => (Dev.ch_setCh_of SafeCh.noCause (s := u) (y := y) (c := { u.ch y with cause := Tab.set 0 (u.ch y).cause i (putBit (u.causeOf y i) c false) }) rfl z).trans (h.ch z), fun z k hz => ?_⟩
  by_cases hzk : y = z ∧ i = k
  · obtain ⟨rfl, rfl⟩ := hzk
    rw [show (u.causeOff i c y).causeOf y i = _ from congrArg Prod.snd (Dev.causeOff_inst_same i c y), h.zero y i hz]
    exact putBit_zero_false c
  · have hap : Apart2 y i z k := by
      rw [Apart2]; by_contra hn; push Not at hn; exact hzk hn
    exact (congrArg Prod.snd (Dev.causeOff_inst_other hap c)).trans (h.zero z k hz)

theorem Dev.causeGone_eq (i c : Nat) : s.causeGone i c = s.both fun s y => s.causeOff i c y := rfl

theorem Dev.Clears.causeGone (h : s.Clears u) (i c : Nat) : s.Clears (u.causeGone i c) := Dev.both_inv _ _ (fun _ y hv => hv.causeOff i c y) u h

theorem Dev.causeGone_inst_other {l i : Nat} (h : l ≠ i) (c : Nat) (y : Bool) : (s.causeGone l c).instOf y i = s.instOf y i :=
  Dev.both_inv (fun v => v.instOf y i = s.instOf y i) _ (fun _ _ hv => (Dev.causeOff_inst_other (.inr h) c).trans hv) s rfl

theorem Dev.causeGone_inst_same (i c : Nat) (y : Bool) : (s.causeGone i c).instOf y i = (s.stOf y i, putBit (s.causeOf y i) c false) :=
  Dev.both_at (fun v => v.instOf y i = s.instOf y i) (fun v => v.instOf y i = (s.stOf y i, putBit (s.causeOf y i) c false)) _ y
    (fun _ _ hz hv => (Dev.causeOff_inst_other (.inl hz) c).trans hv) (fun _ hv => (Dev.causeOff_inst_same ..).trans (by rw [Dev.stOf_of hv, Dev.causeOf_of hv]))
    (fun _ _ hz hv => (Dev.causeOff_inst_other (.inl hz) c).trans hv) s rfl

theorem Dev.clears_clearByLines : s.Clears s.clearByLines := by
  have h : s.Clears (s.both fun s y => s.each (List.range 8) fun s p => s.iff (bitOf (s.ch y).disc p && s.pairOpen y p) fun s =>
      s.setCh y { s.ch y with disc := putBit (s.ch y).disc p false }) :=
    Dev.both_inv _ _ (fun v y hv => hv.each _ _ fun w p _ hw => hw.iff _ _ fun _ => hw.setDisc y _) s (Dev.clears_refl s)
  refine h.each _ _ fun v i _ hv => ?_
  have h1 := hv.iff (chans.all fun y => (v.instPairs y i).all fun p => !bitOf (v.ch y).disc p) (fun s => s.causeGone i cDisc) fun _ => hv.causeGone ..
  exact h1.iff _ _ fun _ => h1.causeGone ..

theorem Dev.clears_clearIntest : s.Clears s.clearIntest := (Dev.clears_refl s).each _ _ fun _ _ _ hv => hv.iff _ _ fun _ => hv.causeGone ..

/-- INTEST stays while a line of the INST has failed (R336). -/
theorem Dev.clearIntest_keeps {y : Bool} {i k : Nat} (hk : k < 16) (hu : s.usesLine y i k = true) (hf : bitOf (s.ch y).itFail k = true) (z : Bool) :
    s.clearIntest.instOf z i = s.instOf z i := by
  refine Dev.each_inv (fun v => s.Clears v ∧ v.instOf z i = s.instOf z i) insts _ (fun v l _ hv => ?_) s ⟨Dev.clears_refl s, rfl⟩ |>.2
  refine ⟨hv.1.iff _ _ fun _ => hv.1.causeGone .., ?_⟩
  rcases eq_or_ne l i with rfl | hl
  · have hcond : (chans.all fun y => (List.range 16).all fun k => !(v.usesLine y l k && bitOf (v.ch y).itFail k)) = false := by
      refine Bool.eq_false_iff.mpr fun hall => ?_
      have h1 := List.all_eq_true.mp hall y (by cases y <;> decide)
      have h2 := List.all_eq_true.mp h1 k (List.mem_range.mpr hk)
      rw [(hv.1.leaves.samePar (by decide)).usesLine, hu, show (v.ch y).itFail = (s.ch y).itFail from hv.1.of_ch (·.itFail) y, hf] at h2
      exact absurd h2 (by decide)
    rw [hcond]
    exact hv.2
  · exact (Dev.iff_keeps v (·.instOf z i) _ _ fun _ => Dev.causeGone_inst_other hl _ z).trans hv.2

/-! ### A line that opens -/

/-- What one INST makes of line `k`, which has opened (R322 to R324). -/
def Dev.lineEvent1 (s : Dev) (y : Bool) (k i : Nat) : Dev :=
  if s.stOf y i = sInactive ∨ ¬ s.usesLine y i k then s
  else if k / 2 = s.inPair y i ∧ s.lockCause y i then s.instFail y i cLock
  else if s.lineDemand y i then s.instDemand y i
  else s

theorem Dev.InstsOnly.lineEvent1 {l : List Fld} (h : s.InstsOnly l u) (y : Bool) (k i : Nat) : s.InstsOnly l (u.lineEvent1 y k i) :=
  .ite _ (fun _ => h) fun _ => .ite _ (fun _ => h.instFail ..) fun _ => .ite _ (fun _ => h.instDemand ..) fun _ => h

theorem Dev.lineEvent1_other {y z : Bool} {i m : Nat} (h : Apart2 z m y i) (k : Nat) : (s.lineEvent1 z k m).instOf y i = s.instOf y i := by
  rw [Dev.lineEvent1]
  split
  · rfl
  · split
    · exact Dev.instFail_other h _
    · split
      · exact Dev.instDemand_other h
      · rfl

theorem Dev.lineEvents_only (y : Bool) (k : Nat) : s.InstsOnly [] (s.lineEvents y k) := (Dev.instsOnly_refl [] s).each _ _ fun _ i _ hv => hv.lineEvent1 y k i

section
variable {y : Bool} {k i : Nat} (ht : s.instType y i = 1) (hin : s.inPair y i = k / 2) (hrun : s.stOf y i = sRun)
include ht hin

theorem Dev.usesLine_estop : s.usesLine y i k = true := by
  rw [Dev.usesLine, Dev.instPairs, if_neg (by rw [ht]; decide), hin]
  exact List.contains_iff_mem.mpr List.mem_cons_self

omit hin in
theorem Dev.lockCause_estop : s.lockCause y i = false := by
  rw [Dev.lockCause, Dev.hasAux, ht]; rfl

theorem Dev.lineDemand_estop : s.lineDemand y i = !s.pairClosed y (k / 2) := by
  rw [Dev.lineDemand, Dev.hasAux, ht, hin]
  cases s.pairClosed y (k / 2) <;> rfl

include hrun

/-- An emergency stop demands when its pair is not closed. -/
theorem Dev.lineEvents_demand (hi : i < 8) (hop : s.pairClosed y (k / 2) = false) :
    (s.lineEvents y k).instOf y i = (if s.parOn y F.SAFETY_INST_CFG_STOP_CAT i then sStopping else sDemand, s.causeOf y i) := by
  refine Dev.each_once (fun v => s.InstsOnly [] v ∧ v.instOf y i = s.instOf y i) (fun v => v.instOf y i = _) insts _ (mem_insts.mpr hi) insts_nodup
    (fun v m _ hm hv => ⟨hv.1.lineEvent1 y k m, (Dev.lineEvent1_other (.inr hm) k).trans hv.2⟩) (fun v hv => ?_) (fun v m _ hm hv => (Dev.lineEvent1_other (.inr hm) k).trans hv) s
    ⟨Dev.instsOnly_refl [] s, rfl⟩
  obtain ⟨hv, hvi⟩ := hv
  have hp := hv.leaves.samePar (by decide)
  have hst : v.stOf y i = sRun := (Dev.stOf_of hvi).trans hrun
  have ht' : v.instType y i = 1 := (hp.instType ..).trans ht
  have hin' : v.inPair y i = k / 2 := (hp.inPair ..).trans hin
  show (v.lineEvent1 y k i).instOf y i = _
  rw [Dev.lineEvent1, if_neg (by rw [hst, Dev.usesLine_estop ht' hin']; decide), if_neg (by rw [Dev.lockCause_estop ht']; exact fun h => absurd h.2 (by decide)),
    if_pos (by rw [Dev.lineDemand_estop ht' hin', Dev.pairClosed_congr y (hv.line y), hop]; rfl), Dev.instDemand_run hst, hp.parOn y i (by decide), Dev.causeOf_of hvi]

/-- It does nothing while its pair is closed. -/
theorem Dev.lineEvents_closed (hcl : s.pairClosed y (k / 2) = true) : (s.lineEvents y k).instOf y i = s.instOf y i := by
  refine (Dev.each_inv (fun v => s.InstsOnly [] v ∧ v.instOf y i = s.instOf y i) insts _ (fun v m _ hv => ⟨hv.1.lineEvent1 y k m, ?_⟩) s ⟨Dev.instsOnly_refl [] s, rfl⟩).2
  obtain ⟨hv, hvi⟩ := hv
  rcases eq_or_ne m i with rfl | hm
  · have hp := hv.leaves.samePar (by decide)
    have hst : v.stOf y m = sRun := (Dev.stOf_of hvi).trans hrun
    have ht' : v.instType y m = 1 := (hp.instType ..).trans ht
    have hin' : v.inPair y m = k / 2 := (hp.inPair ..).trans hin
    show (v.lineEvent1 y k m).instOf y m = _
    rw [Dev.lineEvent1, if_neg (by rw [hst, Dev.usesLine_estop ht' hin']; decide), if_neg (by rw [Dev.lockCause_estop ht']; exact fun h => absurd h.2 (by decide)),
      if_neg (by rw [Dev.lineDemand_estop ht' hin', Dev.pairClosed_congr y (hv.line y), hcl]; decide), hvi]
  · exact (Dev.lineEvent1_other (.inr hm) k).trans hvi
end

/-! ### A line qualifies -/

/-- A line has qualified at a level. -/
def Dev.setLine (s : Dev) (y : Bool) (k : Nat) (closed : Bool) : Dev := s.setCh y { s.ch y with lines := putBit (s.ch y).lines k closed }

theorem Dev.setLine_leaves (y : Bool) (k : Nat) (closed : Bool) : s.SafeLeaves [] (s.setLine y k closed) := (Dev.safeLeaves_refl [] s).setCh y _

theorem Dev.setLine_same (y : Bool) (k : Nat) (closed : Bool) : (s.setLine y k closed).ch y = { s.ch y with lines := putBit (s.ch y).lines k closed } := Dev.ch_setCh_same ..

theorem Dev.setLine_inst (y z : Bool) (k i : Nat) (closed : Bool) : (s.setLine y k closed).instOf z i = s.instOf z i :=
  Dev.instOf_of_ch z i (Dev.ch_setCh_of (·.st) (s := s) (y := y) (c := { s.ch y with lines := putBit (s.ch y).lines k closed }) rfl z)
    (Dev.ch_setCh_of (·.cause) (s := s) (y := y) (c := { s.ch y with lines := putBit (s.ch y).lines k closed }) rfl z)

theorem Dev.setLine_run (y : Bool) (k : Nat) (closed : Bool) : (s.setLine y k closed).safeRun = s.safeRun :=
  (Dev.setLine_leaves y k closed).flag (G := F.SAFETY_STAT_MODE) (by decide) 0 0

theorem Dev.lineQualify_beyond (y : Bool) {k : Nat} (closed : Bool) (hk : 16 ≤ k) : s.lineQualify y k closed = s := if_pos hk

theorem Dev.lineQualify_stopped (y : Bool) {k : Nat} (closed : Bool) (hk : k < 16) (hr : s.safeRun = false) :
    s.lineQualify y k closed = Dev.safeRefresh s (s.setLine y k closed) := by
  unfold Dev.lineQualify
  rw [if_neg (by omega)]
  exact if_pos (show ¬ (s.setLine y k closed).safeRun = true by rw [Dev.setLine_run, hr]; decide)

theorem Dev.lineQualify_open (y : Bool) {k : Nat} (hk : k < 16) (hr : s.safeRun = true) :
    s.lineQualify y k false = Dev.safeRefresh s ((s.setLine y k false).lineEvents y k).clearByLines.clearIntest := by
  unfold Dev.lineQualify
  rw [if_neg (by omega)]
  exact if_neg (show ¬ ¬ (s.setLine y k false).safeRun = true from not_not_intro ((Dev.setLine_run ..).trans hr))

/-- Line `k` is one of its pair. -/
theorem Dev.pairClosed_of_line (y : Bool) (k : Nat) (h : s.line y k = false) : s.pairClosed y (k / 2) = false := by
  rw [Dev.pairClosed]
  rcases Nat.mod_two_eq_zero_or_one k with hm | hm
  · rw [show 2 * (k / 2) = k by omega, h]; rfl
  · rw [show 2 * (k / 2) + 1 = k by omega, h, Bool.and_false]

/-- What a line that opens leaves, beside the instances (R319). -/
theorem Dev.lineQualify_open_ch (y : Bool) {k : Nat} (hk : k < 16) (hr : s.safeRun = true) : let u := s.lineQualify y k false
    bitOf (u.ch y).lines k = false ∧ (u.ch (!y)).lines = (s.ch (!y)).lines ∧ (u.ch y).win = (s.ch y).win ∧ s.Keeps [.safety] s.out u := by
  dsimp only
  rw [Dev.lineQualify_open y hk hr]
  have h1 := Dev.lineEvents_only (s := s.setLine y k false) y k
  have h2 := (Dev.clears_clearByLines (s := (s.setLine y k false).lineEvents y k)).trans Dev.clears_clearIntest
  generalize ((s.setLine y k false).lineEvents y k).clearByLines.clearIntest = v at h2 ⊢
  have hl : ∀ z, ((Dev.safeRefresh s v).ch z).lines = ((s.setLine y k false).ch z).lines := fun z =>
    (Dev.safeRefresh_ch s v (·.lines) z).trans ((h2.of_ch (·.lines) z).trans (h1.of_base (·.lines) z))
  refine ⟨?_, (hl _).trans ?_, ?_, ?_⟩
  · rw [hl, Dev.setLine_same]
    exact bitOf_putBit_same ..
  · rw [Dev.setLine, Dev.ch_setCh_other (by cases y <;> decide)]
  · refine (Dev.safeRefresh_ch s v (·.win) y).trans ((h2.of_ch (·.win) y).trans ((h1.of_base (·.win) y).trans ?_))
    rw [Dev.setLine_same]
    rfl
  · exact ((((Dev.setLine_leaves y k false).trans h1.leaves).trans h2.leaves).mono (by decide)).trans (Dev.safeRefresh_leaves s v) |>.keeps

/-- An INST that was not in DEMAND is, after a line has opened, in the state that the line gave it. -/
theorem Dev.lineQualify_open_inst (y : Bool) {k i st : Nat} (hk : k < 16) (hi : i < 8) (hr : s.safeRun = true) (hw : s.stOf y i ≠ sDemand)
    (h : ((s.setLine y k false).lineEvents y k).instOf y i = (st, s.causeOf y i)) : let u := s.lineQualify y k false
    u.stOf y i = st ∧ (s.causeOf y i = 0 → u.causeOf y i = 0) := by
  dsimp only
  rw [Dev.lineQualify_open y hk hr]
  have h2 := (Dev.clears_clearByLines (s := (s.setLine y k false).lineEvents y k)).trans Dev.clears_clearIntest
  generalize ((s.setLine y k false).lineEvents y k).clearByLines.clearIntest = v at h2 ⊢
  constructor
  · rw [show (Dev.safeRefresh s v).stOf y i = _ from congrArg Prod.fst (Dev.safeRefresh_inst s v y hi), Dev.restarted, if_neg fun e => hw e.2.1, h2.stOf]
    exact congrArg Prod.fst h
  · intro hz
    rw [Dev.safeRefresh_cause s v y hi]
    exact h2.zero y i ((congrArg Prod.snd h).trans hz)

end

end Sys2Proof.Machine
end

section
/-! The checks of the input lines (R320, R321, R336), and O36. -/

namespace Sys2Proof.Machine

section
variable {s u v was d g : Dev}

/-! ### Instances that fail -/

/-- Nothing outside SAFETY and its channels has changed, no active INST has become inactive, and causes and failed lines have stayed. -/
structure Dev.Fails (s u : Dev) : Prop where
  leaves : s.SafeLeaves [] u
  active : ∀ y i, s.stOf y i ≠ sInactive → u.stOf y i ≠ sInactive
  locked : ∀ y i c, s.lockedBy y i c → u.lockedBy y i c
  fail   : ∀ y k, bitOf (s.ch y).itFail k = true → bitOf (u.ch y).itFail k = true
  out    : ∀ y, (u.ch y).out = (s.ch y).out

theorem Dev.fails_refl (s : Dev) : s.Fails s := ⟨Dev.safeLeaves_refl [] s, fun _ _ h => h, fun _ _ _ h => h, fun _ _ h => h, fun _ => rfl⟩
theorem Dev.Fails.trans (h : s.Fails u) (k : u.Fails v) : s.Fails v :=
  ⟨h.leaves.trans k.leaves, fun y i hs => k.active y i (h.active y i hs), fun y i c hs => k.locked y i c (h.locked y i c hs), fun y j hs => k.fail y j (h.fail y j hs), fun y => (k.out y).trans (h.out y)⟩
theorem Dev.Fails.iff (h : s.Fails u) (c : Bool) (g : Dev → Dev) (hg : c = true → s.Fails (g u)) : s.Fails (u.iff c g) := by
  cases c
  · exact h
  · exact hg rfl
theorem Dev.Fails.each {α : Type} (h : s.Fails u) (k : List α) (g : Dev → α → Dev) (hg : ∀ v, ∀ a ∈ k, s.Fails v → s.Fails (g v a)) : s.Fails (u.each k g) :=
  Dev.each_inv _ k g hg u h

/-- A further cause leaves an active INST active. -/
theorem Dev.active_instFail {y : Bool} {i : Nat} (h : s.stOf y i ≠ sInactive) (z : Bool) (k c : Nat) : (s.instFail z k c).stOf y i ≠ sInactive := by
  by_cases hzk : z = y ∧ k = i
  · obtain ⟨rfl, rfl⟩ := hzk
    rw [show (s.instFail z k c).stOf z k = sLockout from congrArg Prod.fst (Dev.instFail_same h c)]
    decide
  · have hap : Apart2 z k y i := by
      rw [Apart2]; by_contra hn; push Not at hn; exact hzk hn
    rw [Dev.stOf_of (Dev.instFail_other hap c)]
    exact h

theorem Dev.fails_instFail (y : Bool) (i c : Nat) : s.Fails (s.instFail y i c) := by
  have h := (Dev.instsOnly_refl [] s).instFail y i c
  exact ⟨h.leaves, fun z k hs => Dev.active_instFail hs y i c, fun z k c' hs => hs.instFail y i c, fun z k hf => by
    rw [show ((s.instFail y i c).ch z).itFail = (s.ch z).itFail from h.of_base (·.itFail) z]; exact hf, h.out⟩

/-- A new record of a channel with its instances and the lines that have failed. -/
theorem Dev.fails_setCh (y : Bool) {c : SafeCh} (hst : c.st = (s.ch y).st) (hc : c.cause = (s.ch y).cause) (ho : c.out = (s.ch y).out)
    (hf : ∀ k, bitOf (s.ch y).itFail k = true → bitOf c.itFail k = true) : s.Fails (s.setCh y c) := by
  have hinst : ∀ z i, (s.setCh y c).instOf z i = s.instOf z i := fun z i => Dev.instOf_of_ch z i (Dev.ch_setCh_of (·.st) hst z) (Dev.ch_setCh_of (·.cause) hc z)
  refine ⟨(Dev.safeLeaves_refl [] s).setCh y c, fun z i h => by rw [Dev.stOf_of (hinst z i)]; exact h, fun z i c' h => Dev.lockedBy_of (hinst z i) h, fun z k h => ?_, Dev.ch_setCh_of (·.out) ho⟩
  rcases eq_or_ne z y with rfl | hz
  · rw [Dev.ch_setCh_same]
    exact hf k h
  · rw [Dev.ch_setCh_other hz]
    exact h

/-- Every INST of a list that a condition names fails. -/
theorem Dev.each_instFail (y : Bool) (c : Nat) (cond : Dev → Nat → Bool) (l : List Nat) (s : Dev) (hcong : ∀ v i, s.InstsOnly [] v → cond v i = cond s i) :
    let u := s.each l fun s i => s.iff (cond s i) fun s => s.instFail y i c
    s.InstsOnly [] u ∧ s.Fails u ∧ ∀ i ∈ l, cond s i = true → s.stOf y i ≠ sInactive → u.lockedBy y i c := by
  have hstep : ∀ (v : Dev) (i : Nat), v.Fails (v.iff (cond v i) fun s => s.instFail y i c) := fun v i => (Dev.fails_refl v).iff _ _ fun _ => Dev.fails_instFail ..
  refine ⟨(Dev.instsOnly_refl [] s).each _ _ fun v i _ hv => hv.iff _ _ fun _ => hv.instFail .., (Dev.fails_refl s).each _ _ fun v i _ hv => hv.trans (hstep v i), fun i hi hcnd hne => ?_⟩
  refine Dev.each_at (fun v => s.InstsOnly [] v ∧ s.Fails v) (fun v => v.lockedBy y i c) l _ hi (fun v m _ hv => ⟨hv.1.iff _ _ fun _ => hv.1.instFail .., hv.2.trans (hstep v m)⟩)
    (fun v hv => ?_) (fun v m _ hv => (hstep v m).locked y i c hv) s ⟨Dev.instsOnly_refl [] s, Dev.fails_refl s⟩
  rw [hcong v i hv.1, hcnd]
  exact Dev.lockedBy_instFail (hv.2.active y i hne) c

/-! ### A line that fails its check -/

theorem Dev.itFailed_spec (y : Bool) (k : Nat) : let u := s.itFailed y k
    s.Fails u ∧ (∀ z, (u.ch z).lines = (s.ch z).lines ∧ (u.ch z).win = (s.ch z).win) ∧ bitOf (u.ch y).itFail k = true ∧
      ∀ i, i < 8 → s.usesLine y i k = true → s.stOf y i ≠ sInactive → u.lockedBy y i cIntest := by
  let c : SafeCh := { s.ch y with itPass := Tab.set 0 (s.ch y).itPass k 0, itFail := putBit (s.ch y).itFail k true }
  have hgrow : ∀ m, bitOf (s.ch y).itFail m = true → bitOf c.itFail m = true := fun m hm => by
    rcases eq_or_ne m k with rfl | hne
    · exact bitOf_putBit_same ..
    · exact (bitOf_putBit_other _ _ hne).trans hm
  have h0 : s.Fails (s.setCh y c) := Dev.fails_setCh y rfl rfl rfl hgrow
  have hinst : ∀ i, (s.setCh y c).instOf y i = s.instOf y i := fun i => Dev.instOf_setCh_same y i c
  obtain ⟨h1, h2, h3⟩ := Dev.each_instFail y cIntest (fun s i => s.usesLine y i k) insts (s.setCh y c) fun v i hv => (hv.leaves.samePar (by decide)).usesLine y i k
  refine ⟨h0.trans h2, fun z => ⟨?_, ?_⟩, ?_, fun i hi hu hne => ?_⟩
  · exact (h1.of_base (·.lines) z).trans (Dev.ch_setCh_of (·.lines) (s := s) (y := y) (c := c) rfl z)
  · exact (h1.of_base (·.win) z).trans (Dev.ch_setCh_of (·.win) (s := s) (y := y) (c := c) rfl z)
  · refine (congrArg (bitOf · k) (h1.of_base (·.itFail) y)).trans ?_
    show bitOf ((s.setCh y c).ch y).itFail k = true
    rw [Dev.ch_setCh_same]
    exact bitOf_putBit_same ..
  · exact h3 i (mem_insts.mpr hi) (((h0.leaves.samePar (by decide)).usesLine y i k).trans hu) (by rw [Dev.stOf_of (hinst i)]; exact hne)

/-! ### Test pulses -/

/-- Line `k` is read on the last tick of its pulse (R320). -/
def Dev.testLine (openX openY : Nat) (y : Bool) (s : Dev) (k : Nat) : Dev :=
  if bitOf (if y then openY else openX) k then s.iff (bitOf (s.ch y).lines k) fun s => s.setCh y { s.ch y with win := putBit (s.ch y).win k true }
  else s.itFailed y k

/-- The lines of a pulse, as a channel reads its parameters. -/
def Dev.pulseLines (s : Dev) (y : Bool) (t : Nat) : List Nat := (List.range 16).filter fun k => decide (s.par y F.SAFETY_LINE_CFG_TP k = t + 1)

/-- A pulse is read. -/
def Dev.pulseRead (s : Dev) (t openX openY : Nat) : Dev := s.both fun s y => s.each (s.pulseLines y t) (Dev.testLine openX openY y)

theorem Dev.testPulse_run {t : Nat} (ht : t < 4) (hr : s.safeRun = true) (openX openY : Nat) :
    s.testPulse t openX openY = Dev.safeRefresh s ((s.pulseRead t openX openY).clearIntest.startTimer (40 + t)) :=
  if_neg (not_or.mpr ⟨not_not_intro hr, by omega⟩)

/-- What a pulse leaves: failures, and lines in their test window. -/
structure Dev.Pulsed (s u : Dev) : Prop where
  fails : s.Fails u
  lines : ∀ y, (u.ch y).lines = (s.ch y).lines
  win   : ∀ y k, bitOf (s.ch y).win k = true → bitOf (u.ch y).win k = true

theorem Dev.pulsed_refl (s : Dev) : s.Pulsed s := ⟨Dev.fails_refl s, fun _ => rfl, fun _ _ h => h⟩
theorem Dev.Pulsed.trans (h : s.Pulsed u) (k : u.Pulsed v) : s.Pulsed v :=
  ⟨h.fails.trans k.fails, fun y => (k.lines y).trans (h.lines y), fun y j hs => k.win y j (h.win y j hs)⟩

theorem Dev.pulsed_window (y : Bool) (k : Nat) : s.Pulsed (s.setCh y { s.ch y with win := putBit (s.ch y).win k true }) := by
  refine ⟨Dev.fails_setCh y rfl rfl rfl fun _ h => h, Dev.ch_setCh_of (·.lines) (s := s) (y := y) (c := { s.ch y with win := putBit (s.ch y).win k true }) rfl, fun z m h => ?_⟩
  rcases eq_or_ne z y with rfl | hz
  · rw [Dev.ch_setCh_same]
    rcases eq_or_ne m k with rfl | hm
    · exact bitOf_putBit_same ..
    · exact (bitOf_putBit_other _ _ hm).trans h
  · rw [Dev.ch_setCh_other hz]
    exact h

theorem Dev.testLine_open {openX openY : Nat} {y : Bool} {k : Nat} (h : bitOf (if y then openY else openX) k = true) :
    Dev.testLine openX openY y s k = s.iff (bitOf (s.ch y).lines k) fun s => s.setCh y { s.ch y with win := putBit (s.ch y).win k true } := if_pos h
theorem Dev.testLine_closed {openX openY : Nat} {y : Bool} {k : Nat} (h : bitOf (if y then openY else openX) k = false) :
    Dev.testLine openX openY y s k = s.itFailed y k := if_neg (by rw [h]; decide)

theorem Dev.pulsed_testLine (openX openY : Nat) (y : Bool) (k : Nat) : s.Pulsed (Dev.testLine openX openY y s k) := by
  cases h : bitOf (if y then openY else openX) k with
  | true =>
    rw [Dev.testLine_open h]
    cases bitOf (s.ch y).lines k
    · exact Dev.pulsed_refl s
    · exact Dev.pulsed_window y k
  | false =>
    obtain ⟨h1, h2, -⟩ := Dev.itFailed_spec (s := s) y k
    rw [Dev.testLine_closed h]
    exact ⟨h1, fun z => (h2 z).1, fun z m h => by rw [(h2 z).2]; exact h⟩

theorem Dev.pulsed_lines (openX openY : Nat) (y : Bool) (l : List Nat) : s.Pulsed (s.each l (Dev.testLine openX openY y)) :=
  Dev.each_inv (fun v => s.Pulsed v) l _ (fun v k _ hv => hv.trans (Dev.pulsed_testLine (s := v) openX openY y k)) s (Dev.pulsed_refl s)

theorem Dev.pulsed_read (t openX openY : Nat) : s.Pulsed (s.pulseRead t openX openY) :=
  Dev.both_inv (fun v => s.Pulsed v) _ (fun _ y hv => hv.trans (Dev.pulsed_lines openX openY y _)) s (Dev.pulsed_refl s)

/-- What the reading of one line of the pulse gives, and later readings keep, holds after the pulse. -/
theorem Dev.pulseRead_at (Q : Dev → Prop) (hk : ∀ v w, Q v → v.Pulsed w → Q w) {y : Bool} {t k : Nat} (h16 : k < 16) (htp : s.par y F.SAFETY_LINE_CFG_TP k = t + 1) (openX openY : Nat)
    (hQ : ∀ v, s.Pulsed v → Q (Dev.testLine openX openY y v k)) : Q (s.pulseRead t openX openY) := by
  refine Dev.both_at (fun v => s.Pulsed v) Q _ y (fun v z _ hv => hv.trans (Dev.pulsed_lines ..)) (fun v hv => ?_) (fun v z _ hv => hk v _ hv (Dev.pulsed_lines ..)) s (Dev.pulsed_refl s)
  have hmem : k ∈ v.pulseLines y t := by
    refine List.mem_filter.mpr ⟨List.mem_range.mpr h16, decide_eq_true ?_⟩
    rw [hv.fails.leaves.samePar (by decide) F.SAFETY_LINE_CFG_TP (by decide), htp]
  exact Dev.each_at (fun w => s.Pulsed w) Q (v.pulseLines y t) (Dev.testLine openX openY y) hmem (fun w m _ hw => hw.trans (Dev.pulsed_testLine (s := w) openX openY y m)) hQ
    (fun w m _ hw => hk w _ hw (Dev.pulsed_testLine (s := w) openX openY y m)) v hv

/-- What the end of a pulse leaves. -/
theorem Dev.testPulse_end {t : Nat} (ht : t < 4) (hr : s.safeRun = true) (openX openY : Nat) : let w := s.pulseRead t openX openY
    let u := s.testPulse t openX openY
    (∀ y, (u.ch y).lines = (s.ch y).lines ∧ (u.ch y).win = (w.ch y).win ∧ (u.ch y).itFail = (w.ch y).itFail) ∧ s.Keeps [.safety] s.out u ∧
      ∀ y i k, k < 16 → i < 8 → s.usesLine y i k = true → bitOf (w.ch y).itFail k = true → w.lockedBy y i cIntest → u.lockedBy y i cIntest := by
  dsimp only
  rw [Dev.testPulse_run ht hr]
  have hp := Dev.pulsed_read (s := s) t openX openY
  generalize s.pulseRead t openX openY = w at hp ⊢
  have hc := Dev.clears_clearIntest (s := w)
  have hch : ∀ {α : Type} (p : SafeCh → α) y, p ((Dev.safeRefresh s (w.clearIntest.startTimer (40 + t))).ch y).kept = p ((w.clearIntest.ch y)).kept := fun p y =>
    (Dev.safeRefresh_ch s _ p y).trans (by rw [Dev.ch_startTimer])
  refine ⟨fun y => ⟨?_, ?_, ?_⟩, ?_, fun y i k h16 hi hu hf hlk => ?_⟩
  · exact (hch (·.lines) y).trans ((hc.of_ch (·.lines) y).trans (hp.lines y))
  · exact (hch (·.win) y).trans (hc.of_ch (·.win) y)
  · exact (hch (·.itFail) y).trans (hc.of_ch (·.itFail) y)
  · exact ((((hp.fails.leaves.trans hc.leaves).startTimer _).mono (by decide)).trans (Dev.safeRefresh_leaves s _)).keeps
  · have hu' : w.usesLine y i k = true := ((hp.fails.leaves.samePar (by decide)).usesLine y i k).trans hu
    have h1 : w.clearIntest.lockedBy y i cIntest := Dev.lockedBy_of (Dev.clearIntest_keeps h16 hu' hf y) hlk
    exact Dev.lockedBy.safeRefresh (Dev.lockedBy_of (Dev.instOf_of_ch y i (by rw [Dev.ch_startTimer]) (by rw [Dev.ch_startTimer])) h1) s hi

/-! ### A line that does not close again, lines that disagree -/

/-- The end of a line's test window in a channel, and the failure of a line in its window. -/
def Dev.endWin (s : Dev) (y : Bool) (k : Nat) : Dev := s.setCh y { s.ch y with win := putBit (s.ch y).win k false }
def Dev.intestCh (k : Nat) (s : Dev) (y : Bool) : Dev := s.iff (bitOf (s.ch y).win k) fun s => (s.endWin y k).itFailed y k

theorem Dev.intestCheck_run {k : Nat} (hr : s.safeRun = true) {y : Bool} (hw : bitOf (s.ch y).win k = true) : let g := s.lastedUs (40 + (s.f F.SAFETY_LINE_CFG_TP k - 1)) 500
    s.intestCheck k = Dev.safeRefresh g (g.both (Dev.intestCh k)) :=
  if_pos ⟨hr, List.any_eq_true.mpr ⟨y, by cases y <;> decide, hw⟩⟩

theorem Dev.intestCheck_none {k : Nat} (hw : ∀ y, bitOf (s.ch y).win k = false) : s.intestCheck k = s :=
  if_neg fun h => by
    obtain ⟨y, -, hy⟩ := List.any_eq_true.mp h.2
    rw [hw] at hy
    exact absurd hy (by decide)

theorem Dev.endWin_spec (y : Bool) (k : Nat) : s.Fails (s.endWin y k) ∧ (∀ z, z ≠ y → ((s.endWin y k).ch z).win = (s.ch z).win) ∧ bitOf ((s.endWin y k).ch y).win k = false ∧
    ∀ i, (s.endWin y k).instOf y i = s.instOf y i := by
  refine ⟨Dev.fails_setCh y rfl rfl rfl fun _ h => h, fun z hz => congrArg SafeCh.win (Dev.ch_setCh_other hz _), ?_, fun i => Dev.instOf_setCh_same y i _⟩
  rw [Dev.endWin, Dev.ch_setCh_same]
  exact bitOf_putBit_same ..

theorem Dev.intestCh_spec (k : Nat) (y : Bool) : let u := Dev.intestCh k s y
    s.Fails u ∧ (∀ z, z ≠ y → (u.ch z).win = (s.ch z).win) ∧ bitOf (u.ch y).win k = false ∧
      ∀ i, i < 8 → bitOf (s.ch y).win k = true → s.usesLine y i k = true → s.stOf y i ≠ sInactive → u.lockedBy y i cIntest := by
  dsimp only
  cases hw : bitOf (s.ch y).win k with
  | false =>
    rw [show Dev.intestCh k s y = s from if_neg (by rw [hw]; decide)]
    exact ⟨Dev.fails_refl s, fun _ _ => rfl, hw, fun i _ h => absurd h (by decide)⟩
  | true =>
    rw [show Dev.intestCh k s y = (s.endWin y k).itFailed y k from if_pos hw]
    obtain ⟨h0, hoth, hwin, hinst⟩ := Dev.endWin_spec (s := s) y k
    generalize s.endWin y k = w at h0 hoth hwin hinst ⊢
    obtain ⟨h1, h2, -, h4⟩ := Dev.itFailed_spec (s := w) y k
    exact ⟨h0.trans h1, fun z hz => (h2 z).2.trans (hoth z hz), by rw [(h2 y).2]; exact hwin,
      fun i hi _ hu hne => h4 i hi (((h0.leaves.samePar (by decide)).usesLine y i k).trans hu) (by rw [Dev.stOf_of (hinst i)]; exact hne)⟩

/-- Lines of a pair that disagree lock out the instances that use the pair, in one channel (R321). -/
def Dev.discCh (p : Nat) (s : Dev) (y : Bool) : Dev :=
  s.iff (s.pairDiffers y p && insts.any fun i => (s.instPairs y i).contains p) fun s =>
    (s.setCh y { s.ch y with disc := putBit (s.ch y).disc p true }).each insts fun s i => s.iff ((s.instPairs y i).contains p) fun s => s.instFail y i cDisc

theorem Dev.holds_differs {p : Nat} (hp : p < 8) : s.holds (8 + p) = chans.any fun y => s.pairDiffers y p := by
  rw [Dev.holds, if_neg (by omega), if_pos (by omega), Nat.add_sub_cancel_left]

theorem Dev.discrepancy_run {p : Nat} (hp : p < 8) (hr : s.safeRun = true) {y : Bool} (hd : s.pairDiffers y p = true) : let g := s.lasted (8 + p) (s.discTime p)
    s.discrepancy p = Dev.safeRefresh g (g.both (Dev.discCh p)) :=
  if_pos ⟨hr, hp, by rw [Dev.holds_differs hp]; exact List.any_eq_true.mpr ⟨y, by cases y <;> decide, hd⟩⟩

theorem Dev.discrepancy_none {p : Nat} (h : 8 ≤ p ∨ ∀ y, s.pairDiffers y p = false) : s.discrepancy p = s :=
  if_neg fun ⟨_, hp, hh⟩ => by
    rw [Dev.holds_differs hp] at hh
    obtain ⟨y, -, hy⟩ := List.any_eq_true.mp hh
    rcases h with h | h
    · omega
    · rw [h] at hy
      exact absurd hy (by decide)

theorem Dev.discCh_spec (p : Nat) (y : Bool) : let u := Dev.discCh p s y
    s.Fails u ∧ (∀ z, z ≠ y → (u.ch z).disc = (s.ch z).disc) ∧ (∀ z, (u.ch z).lines = (s.ch z).lines ∧ (u.ch z).win = (s.ch z).win) ∧
      ∀ i, i < 8 → s.pairDiffers y p = true → p ∈ s.instPairs y i → s.stOf y i ≠ sInactive → u.lockedBy y i cDisc ∧ bitOf (u.ch y).disc p = true := by
  dsimp only
  let c : SafeCh := { s.ch y with disc := putBit (s.ch y).disc p true }
  have h0 : s.Fails (s.setCh y c) := Dev.fails_setCh y rfl rfl rfl fun _ h => h
  have hinst : ∀ i, (s.setCh y c).instOf y i = s.instOf y i := fun i => Dev.instOf_setCh_same y i c
  obtain ⟨h1, h2, h3⟩ := Dev.each_instFail y cDisc (fun s i => (s.instPairs y i).contains p) insts (s.setCh y c) fun v i hv => by
    show (v.instPairs y i).contains p = _
    rw [(hv.leaves.samePar (by decide)).instPairs]
  have hact : ∀ b, b = (s.pairDiffers y p && insts.any fun i => (s.instPairs y i).contains p) → Dev.discCh p s y = s.iff b fun s => (s.setCh y { s.ch y with disc := putBit (s.ch y).disc p true }).each
      insts fun s i => s.iff ((s.instPairs y i).contains p) fun s => s.instFail y i cDisc := fun b hb => by rw [hb]; rfl
  cases hb : (s.pairDiffers y p && insts.any fun i => (s.instPairs y i).contains p) with
  | false =>
    rw [hact false hb.symm]
    refine ⟨Dev.fails_refl s, fun _ _ => rfl, fun _ => ⟨rfl, rfl⟩, fun i hi hd hm => ?_⟩
    rw [hd, Bool.true_and, show (insts.any fun i => (s.instPairs y i).contains p) = true from List.any_eq_true.mpr ⟨i, mem_insts.mpr hi, List.contains_iff_mem.mpr hm⟩] at hb
    exact absurd hb (by decide)
  | true =>
    rw [hact true hb.symm]
    refine ⟨h0.trans h2, fun z hz => (h1.of_base (·.disc) z).trans ?_, fun z => ⟨(h1.of_base (·.lines) z).trans ?_, (h1.of_base (·.win) z).trans ?_⟩, fun i hi _ hm hne => ⟨?_, ?_⟩⟩
    · show ((s.setCh y c).ch z).disc = _
      rw [Dev.ch_setCh_other hz]
    · exact Dev.ch_setCh_of (·.lines) (s := s) (y := y) (c := c) rfl z
    · exact Dev.ch_setCh_of (·.win) (s := s) (y := y) (c := c) rfl z
    · refine h3 i (mem_insts.mpr hi) ?_ (by rw [Dev.stOf_of (hinst i)]; exact hne)
      rw [(h0.leaves.samePar (by decide)).instPairs]
      exact List.contains_iff_mem.mpr hm
    · refine (congrArg (bitOf · p) (h1.of_base (·.disc) y)).trans ?_
      show bitOf ((s.setCh y c).ch y).disc p = true
      rw [Dev.ch_setCh_same]
      exact bitOf_putBit_same ..

/-! ### The parts of the statement -/

section
variable {y : Bool} {k i : Nat} (hr : s.safeRun = true)
include hr

theorem Dev.lineQualify_demands (hk : k < 16) (hi : i < 8) (ht : s.instType y i = 1) (hin : s.inPair y i = k / 2) (hw : bitOf (s.ch y).win k = false) (hst : s.stOf y i = sRun) :
    let u := s.lineQualify y k false
    u.stOf y i = (if s.parOn y F.SAFETY_INST_CFG_STOP_CAT i then sStopping else sDemand) ∧ (s.causeOf y i = 0 → u.causeOf y i = 0) ∧ bitOf (u.ch y).lines k = false ∧
      (u.ch (!y)).lines = (s.ch (!y)).lines ∧ s.Keeps [.safety] s.out u := by
  obtain ⟨c1, c2, -, c4⟩ := Dev.lineQualify_open_ch y hk hr
  have hp := (Dev.setLine_leaves (s := s) y k false).samePar (by decide)
  have hi' := Dev.setLine_inst (s := s) y y k i false
  have hline : (s.setLine y k false).line y k = false := by
    rw [Dev.line, Dev.setLine_same, show bitOf (putBit (s.ch y).lines k false) k = false from bitOf_putBit_same .., hw]
    rfl
  have hev := Dev.lineEvents_demand (s := s.setLine y k false) ((hp.instType ..).trans ht) ((hp.inPair ..).trans hin) ((Dev.stOf_of hi').trans hst) hi (Dev.pairClosed_of_line y k hline)
  rw [hp.parOn y i (by decide), Dev.causeOf_of hi'] at hev
  obtain ⟨i1, i2⟩ := Dev.lineQualify_open_inst y hk hi hr (by rw [hst]; decide) hev
  exact ⟨i1, i2, c1, c2, c4⟩

theorem Dev.lineQualify_inWindow (hk : k < 16) (hi : i < 8) (ht : s.instType y i = 1) (hin : s.inPair y i = k / 2) (hcl : s.pairClosed y (k / 2) = true)
    (hw : bitOf (s.ch y).win k = true) (hst : s.stOf y i = sRun) : let u := s.lineQualify y k false
    u.stOf y i = sRun ∧ bitOf (u.ch y).win k = true ∧ s.Keeps [.safety] s.out u := by
  obtain ⟨-, -, c3, c4⟩ := Dev.lineQualify_open_ch y hk hr
  have hp := (Dev.setLine_leaves (s := s) y k false).samePar (by decide)
  have hi' := Dev.setLine_inst (s := s) y y k i false
  have hline : ∀ m, (s.setLine y k false).line y m = s.line y m := fun m => by
    rw [Dev.line, Dev.line, Dev.setLine_same]
    rcases eq_or_ne m k with rfl | hm
    · show (bitOf (putBit (s.ch y).lines m false) m || bitOf (s.ch y).win m) = _
      rw [hw, Bool.or_true, Bool.or_true]
    · rw [show bitOf (putBit (s.ch y).lines k false) m = bitOf (s.ch y).lines m from bitOf_putBit_other _ _ hm]
  have hev := Dev.lineEvents_closed (s := s.setLine y k false) ((hp.instType ..).trans ht) ((hp.inPair ..).trans hin) ((Dev.stOf_of hi').trans hst)
    ((Dev.pairClosed_congr y hline _).trans hcl)
  obtain ⟨i1, -⟩ := Dev.lineQualify_open_inst y hk hi hr (by rw [hst]; decide) ((hev.trans hi').trans (show s.instOf y i = (sRun, s.causeOf y i) by rw [Dev.instOf, hst]))
  exact ⟨i1, by rw [c3]; exact hw, c4⟩

theorem Dev.testPulse_windows {t : Nat} {openX openY : Nat} (ht : t < 4) (hk : k < 16) (htp : s.par y F.SAFETY_LINE_CFG_TP k = t + 1)
    (hop : bitOf (if y then openY else openX) k = true) (hl : bitOf (s.ch y).lines k = true) : let u := s.testPulse t openX openY
    bitOf (u.ch y).win k = true ∧ (u.ch y).lines = (s.ch y).lines ∧ s.Keeps [.safety] s.out u := by
  obtain ⟨e1, e2, -⟩ := Dev.testPulse_end ht hr openX openY
  obtain ⟨l1, l2, -⟩ := e1 y
  refine ⟨?_, l1, e2⟩
  rw [l2]
  refine Dev.pulseRead_at (fun v => bitOf (v.ch y).win k = true) (fun v w hv hw => hw.win y k hv) hk htp openX openY fun v hv => ?_
  rw [Dev.testLine_open hop, show bitOf (v.ch y).lines k = true by rw [hv.lines]; exact hl]
  show bitOf ((v.setCh y { v.ch y with win := putBit (v.ch y).win k true }).ch y).win k = true
  rw [Dev.ch_setCh_same]
  exact bitOf_putBit_same ..

theorem Dev.testPulse_locks {t : Nat} {openX openY : Nat} (ht : t < 4) (hk : k < 16) (hi : i < 8) (htp : s.par y F.SAFETY_LINE_CFG_TP k = t + 1)
    (hop : bitOf (if y then openY else openX) k = false) (hu : s.usesLine y i k = true) (hne : s.stOf y i ≠ sInactive) : let u := s.testPulse t openX openY
    u.stOf y i = sLockout ∧ bitOf (u.causeOf y i) cIntest = true ∧ bitOf (u.ch y).itFail k = true := by
  obtain ⟨e1, -, e3⟩ := Dev.testPulse_end ht hr openX openY
  obtain ⟨-, -, l3⟩ := e1 y
  have hQ : bitOf ((s.pulseRead t openX openY).ch y).itFail k = true ∧ (s.pulseRead t openX openY).lockedBy y i cIntest := by
    refine Dev.pulseRead_at (fun v => bitOf (v.ch y).itFail k = true ∧ v.lockedBy y i cIntest) (fun v w hv hw => ⟨hw.fails.fail y k hv.1, hw.fails.locked y i _ hv.2⟩) hk htp openX openY fun v hv => ?_
    obtain ⟨-, -, f3, f4⟩ := Dev.itFailed_spec (s := v) y k
    rw [Dev.testLine_closed hop]
    exact ⟨f3, f4 i hi (((hv.fails.leaves.samePar (by decide)).usesLine y i k).trans hu) (hv.fails.active y i hne)⟩
  obtain ⟨h1, h2⟩ := e3 y i k hk hi hu hQ.1 hQ.2
  exact ⟨h1, h2, by rw [l3]; exact hQ.1⟩

end

/-- Lines of an unchanged SAFETY in a device whose time has passed. -/
theorem Dev.intest_both (y : Bool) (k : Nat) {i : Nat} (hi : i < 8) (hw : bitOf (g.ch y).win k = true) (hu : g.usesLine y i k = true) (hne : g.stOf y i ≠ sInactive) :
    let v := g.both (Dev.intestCh k)
    g.Fails v ∧ v.lockedBy y i cIntest ∧ ∀ c, bitOf (v.ch c).win k = false := by
  have hstep : ∀ v z, g.Fails v → g.Fails (Dev.intestCh k v z) := fun v z hv => hv.trans (Dev.intestCh_spec (s := v) k z).1
  refine ⟨Dev.both_inv _ _ hstep g (Dev.fails_refl g), ?_, fun c => ?_⟩
  · refine Dev.both_at (fun v => g.Fails v ∧ (v.ch y).win = (g.ch y).win) (fun v => v.lockedBy y i cIntest) _ y
      (fun v z hz hv => ⟨hstep v z hv.1, ((Dev.intestCh_spec (s := v) k z).2.1 y hz.symm).trans hv.2⟩) (fun v hv => ?_)
      (fun v z _ hv => (Dev.intestCh_spec (s := v) k z).1.locked y i _ hv) g ⟨Dev.fails_refl g, rfl⟩
    exact (Dev.intestCh_spec (s := v) k y).2.2.2 i hi (by rw [hv.2]; exact hw) (((hv.1.leaves.samePar (by decide)).usesLine y i k).trans hu) (hv.1.active y i hne)
  · refine Dev.both_at (fun _ => True) (fun v => bitOf (v.ch c).win k = false) _ c (fun _ _ _ _ => trivial) (fun v _ => (Dev.intestCh_spec (s := v) k c).2.2.1)
      (fun v z hz hv => by rw [(Dev.intestCh_spec (s := v) k z).2.1 c hz.symm]; exact hv) g trivial

theorem Dev.disc_both (y : Bool) (p : Nat) {i : Nat} (hi : i < 8) (hd : g.pairDiffers y p = true) (hm : p ∈ g.instPairs y i) (hne : g.stOf y i ≠ sInactive) :
    let v := g.both (Dev.discCh p)
    g.Fails v ∧ v.lockedBy y i cDisc ∧ bitOf (v.ch y).disc p = true := by
  have hstep : ∀ v z, g.Fails v → g.Fails (Dev.discCh p v z) := fun v z hv => hv.trans (Dev.discCh_spec (s := v) p z).1
  refine ⟨Dev.both_inv _ _ hstep g (Dev.fails_refl g), ?_⟩
  refine Dev.both_at (fun v => g.Fails v ∧ ∀ z, (v.ch z).lines = (g.ch z).lines ∧ (v.ch z).win = (g.ch z).win) (fun v => v.lockedBy y i cDisc ∧ bitOf (v.ch y).disc p = true) _ y
    (fun v z _ hv => ⟨hstep v z hv.1, fun c => ?_⟩) (fun v hv => ?_) (fun v z hz hv => ?_) g ⟨Dev.fails_refl g, fun _ => ⟨rfl, rfl⟩⟩
  · obtain ⟨-, -, h3, -⟩ := Dev.discCh_spec (s := v) p z
    exact ⟨(h3 c).1.trans (hv.2 c).1, (h3 c).2.trans (hv.2 c).2⟩
  · have hline : ∀ m, v.line y m = g.line y m := fun m => by rw [Dev.line, Dev.line, (hv.2 y).1, (hv.2 y).2]
    refine (Dev.discCh_spec (s := v) p y).2.2.2 i hi ((Dev.pairDiffers_congr y hline p).trans hd) ?_ (hv.1.active y i hne)
    rw [(hv.1.leaves.samePar (by decide)).instPairs]
    exact hm
  · obtain ⟨h1, h2, -⟩ := Dev.discCh_spec (s := v) p z
    exact ⟨h1.locked y i _ hv.1, by rw [h2 y hz.symm]; exact hv.2⟩

end

/-- Settles O36: a line that opens demands of the instances that use its pair unless its window holds it; a failed check locks them out, and nothing after it releases them. -/
theorem safetyInputLines : Obligations.SafetyInputLines := by
  unfold Obligations.SafetyInputLines
  intro s
  refine ⟨fun y k closed hk => s.runs_lineQualify.of_eq (Dev.lineQualify_beyond (s := s.dev.begin) y closed hk),
    fun y k closed hk hr => s.runs_lineQualify.of_eq (Dev.lineQualify_stopped (s := s.dev.begin) y closed hk hr), fun hr => ⟨?_, ?_, ?_, ?_, ?_, ?_, ?_, ?_⟩⟩
  · intro y k i hk hi ht hin hw hst
    obtain ⟨h1, h2, h3, h4, h5⟩ := Dev.lineQualify_demands (s := s.dev.begin) hr hk hi ht hin hw hst
    exact s.runs_lineQualify.does ⟨h1, h2, h3, h4, h5.of_begin⟩
  · intro y k i hk hi ht hin hcl hw hst
    obtain ⟨h1, h2, h3⟩ := Dev.lineQualify_inWindow (s := s.dev.begin) hr hk hi ht hin hcl hw hst
    exact s.runs_lineQualify.does ⟨h1, h2, h3.of_begin⟩
  · intro y t k openX openY ht hk htp hop hl
    obtain ⟨h1, h2, h3⟩ := Dev.testPulse_windows (s := s.dev.begin) hr ht hk htp hop hl
    exact s.runs_testPulse.does ⟨h1, h2, h3.of_begin⟩
  · intro y t k i openX openY ht hk hi htp hop hu hne
    exact s.runs_testPulse.does (Dev.testPulse_locks (s := s.dev.begin) hr ht hk hi htp hop hu hne)
  · intro y k i hk hi hw hu hne
    obtain ⟨x, hx⟩ := Dev.lastedUs_withTime (s := s.dev.begin) (40 + (s.dev.begin.f F.SAFETY_LINE_CFG_TP k - 1)) 500
    refine (s.runs_intestCheck.of_eq (Dev.intestCheck_run (s := s.dev.begin) hr hw)).does ?_
    rw [hx]
    have hg : s.dev.Keeps [.time, .safety] [] { s.dev.begin with time := x } := (Dev.keeps_begin _ _).setTime (by decide) x
    obtain ⟨h1, h2, h3⟩ := Dev.intest_both (g := { s.dev.begin with time := x }) y k hi hw hu hne
    have hl := (h1.leaves.mono (by decide)).trans (Dev.safeRefresh_leaves { s.dev.begin with time := x } _)
    obtain ⟨k1, k2⟩ := h2.safeRefresh { s.dev.begin with time := x } hi
    exact ⟨k1, k2, fun c => (congrArg (bitOf · k) (Dev.safeRefresh_ch _ _ (·.win) c)).trans (h3 c), hg.next hl.keeps (by decide)⟩
  · exact fun k hw => s.runs_intestCheck.of_eq (Dev.intestCheck_none (s := s.dev.begin) hw)
  · intro y p i hp hi hd hm hne
    obtain ⟨x, hx⟩ := Dev.lastedUs_withTime (s := s.dev.begin) (8 + p) (s.dev.begin.discTime p * 1000)
    refine (s.runs_discrepancy.of_eq (Dev.discrepancy_run (s := s.dev.begin) hp hr hd)).does ?_
    rw [Dev.lasted, hx]
    have hg : s.dev.Keeps [.time, .safety] [] { s.dev.begin with time := x } := (Dev.keeps_begin _ _).setTime (by decide) x
    obtain ⟨h1, h2, h3⟩ := Dev.disc_both (g := { s.dev.begin with time := x }) y p hi hd hm hne
    have hl := (h1.leaves.mono (by decide)).trans (Dev.safeRefresh_leaves { s.dev.begin with time := x } _)
    obtain ⟨k1, k2⟩ := h2.safeRefresh { s.dev.begin with time := x } hi
    exact ⟨k1, k2, (congrArg (bitOf · p) (Dev.safeRefresh_ch _ _ (·.disc) y)).trans h3, hg.next hl.keeps (by decide)⟩
  · exact fun p h => s.runs_discrepancy.of_eq (Dev.discrepancy_none (s := s.dev.begin) h)

end Sys2Proof.Machine
end

section
/-! The checks of the outputs and the feedback, and a category 1 stop (R325 to R328, R336), and O37. -/

namespace Sys2Proof.Machine

theorem bitOf_lor (a b i : Nat) : bitOf (Nat.lor a b) i = (bitOf a i || bitOf b i) := by
  have h : ∀ v, bitOf v i = v.testBit i := fun v => (Nat.testBit_eq_decide_div_mod_eq ..).symm
  rw [h, h, h]
  exact Nat.testBit_lor ..

theorem putBit_false_same (v c : Nat) : bitOf (putBit v c false) c = false := bitOf_putBit_same ..

section
variable {s u v was d g : Dev}

/-- SAFETY is on in the MANAGER. -/
theorem Dev.whenOn_safety (hm : s.role = .manager) (hd : s.gate.dormant = false) (f : Dev → Dev) : s.whenOn .safety f = f s := by
  have hg : s.blkGated .safety = false := by
    unfold Dev.blkGated
    rw [hm, show (islands .manager).filter (fun k => decide (islandBlk k = .safety)) = [] by decide]
    rfl
  exact if_neg (by rw [hm, hg, hd]; decide)

/-! ### Another channel -/

theorem Dev.instFail_ch_other {y z : Bool} (h : y ≠ z) (i c : Nat) : (s.instFail z i c).ch y = s.ch y := by
  rw [Dev.instFail]
  split
  · rfl
  · exact (Dev.ch_setCh_other h _).trans (Dev.ch_setCh_other h _)

theorem Dev.instOf_of_eq {y : Bool} (h : u.ch y = s.ch y) (i : Nat) : u.instOf y i = s.instOf y i := Dev.instOf_of_ch y i (congrArg SafeCh.st h) (congrArg SafeCh.cause h)

/-! ### Feedback -/

/-- A feedback that does not follow, as a channel judges it (R325). -/
def Dev.fbCh (i : Nat) (s : Dev) (y : Bool) : Dev := s.iff (decide (s.instType y i = 3) && s.fbMismatch y i) fun s => s.instFail y i cFb

theorem Dev.holds_fb {i : Nat} (hi : i < 8) : s.holds (16 + i) = chans.any fun y => decide (s.instType y i = 3) && s.fbMismatch y i := by
  rw [Dev.holds, if_neg (by omega), if_neg (by omega), if_pos (by omega), Nat.add_sub_cancel_left]

theorem Dev.fbFault_run {i : Nat} (hi : i < 8) (hr : s.safeRun = true) {y : Bool} (ht : s.instType y i = 3) (hm : s.fbMismatch y i = true) :
    let g := s.lasted (16 + i) (s.f F.SAFETY_INST_TIME_FB_T i)
    s.fbFault i = Dev.safeRefresh g (g.both (Dev.fbCh i)) :=
  if_pos ⟨hr, hi, by rw [Dev.holds_fb hi]; exact List.any_eq_true.mpr ⟨y, by cases y <;> decide, by rw [ht, hm]; rfl⟩⟩

theorem Dev.fbFault_none {i : Nat} (h : 8 ≤ i ∨ ∀ y, s.instType y i ≠ 3 ∨ s.fbMismatch y i = false) : s.fbFault i = s :=
  if_neg fun ⟨_, hi, hh⟩ => by
    rw [Dev.holds_fb hi] at hh
    obtain ⟨y, -, hy⟩ := List.any_eq_true.mp hh
    obtain ⟨h1, h2⟩ := Bool.and_eq_true_iff.mp hy
    rcases h with h | h
    · omega
    · rcases h y with h | h
      · exact h (of_decide_eq_true h1)
      · rw [h] at h2
        exact absurd h2 (by decide)

theorem Dev.fb_both {y : Bool} {i : Nat} (ht : g.instType y i = 3) (hm : g.fbMismatch y i = true) (hne : g.stOf y i ≠ sInactive) : let v := g.both (Dev.fbCh i)
    g.InstsOnly [] v ∧ v.lockedBy y i cFb ∧ ∀ c l, l ≠ i → v.instOf c l = g.instOf c l := by
  have honly : ∀ v z, g.InstsOnly [] v → g.InstsOnly [] (Dev.fbCh i v z) := fun v z hv => hv.iff _ _ fun _ => hv.instFail ..
  refine ⟨Dev.both_inv _ _ honly g (Dev.instsOnly_refl [] g), ?_, fun c l hl => ?_⟩
  · refine Dev.both_at (fun v => g.InstsOnly [] v ∧ v.instOf y i = g.instOf y i) (fun v => v.lockedBy y i cFb) _ y
      (fun v z hz hv => ⟨honly v z hv.1, (Dev.iff_keeps v (·.instOf y i) _ _ fun _ => Dev.instFail_other (.inl hz) _).trans hv.2⟩) (fun v hv => ?_)
      (fun v z hz hv => Dev.lockedBy_of (Dev.iff_keeps v (·.instOf y i) _ _ fun _ => Dev.instFail_other (.inl hz) _) hv) g ⟨Dev.instsOnly_refl [] g, rfl⟩
    have hp := hv.1.leaves.samePar (by decide)
    rw [Dev.fbCh, hp.instType, hp.fbMismatch y i (hv.1.line y) (hv.1.out y), ht, hm]
    exact Dev.lockedBy_instFail (by rw [Dev.stOf_of hv.2]; exact hne) _
  · exact Dev.both_inv (fun v => v.instOf c l = g.instOf c l) _
      (fun v z hv => (Dev.iff_keeps v (·.instOf c l) _ _ fun _ => Dev.instFail_other (.inr (Ne.symm hl)) _).trans hv) g rfl

/-! ### A readback check that fails -/

theorem Dev.outFail_spec (y : Bool) (j : Nat) : let u := s.outFail y j
    s.Fails u ∧ (∀ z, z ≠ y → u.ch z = s.ch z) ∧ bitOf (u.ch y).outFail j = true ∧
      ∀ i, i < 8 → bitOf (s.par y F.SAFETY_OUT_CFG_MEMBERS j) i = true → s.stOf y i ≠ sInactive → u.lockedBy y i cOuttest := by
  let c : SafeCh := { s.ch y with outFail := putBit (s.ch y).outFail j true }
  have h0 : s.Fails (s.setCh y c) := Dev.fails_setCh y rfl rfl rfl fun _ h => h
  have hinst : ∀ i, (s.setCh y c).instOf y i = s.instOf y i := fun i => Dev.instOf_setCh_same y i c
  obtain ⟨h1, h2, h3⟩ := Dev.each_instFail y cOuttest (fun _ _ => true) (bitList 8 ((s.setCh y c).par y F.SAFETY_OUT_CFG_MEMBERS j)) (s.setCh y c) fun _ _ _ => rfl
  refine ⟨h0.trans h2, fun z hz => ?_, (congrArg (bitOf · j) (h1.of_base (·.outFail) y)).trans ?_, fun i hi hm hne => ?_⟩
  · exact Dev.each_inv (fun v => v.ch z = s.ch z) _ _ (fun v i _ hv => (Dev.instFail_ch_other hz i _).trans hv) _ (Dev.ch_setCh_other hz c)
  · show bitOf ((s.setCh y c).ch y).outFail j = true
    rw [Dev.ch_setCh_same]
    exact bitOf_putBit_same ..
  · refine h3 i (mem_bitList.mpr ⟨hi, ?_⟩) rfl (by rw [Dev.stOf_of (hinst i)]; exact hne)
    rw [(h0.leaves.samePar (by decide)).members]
    exact hm

/-- The members of a pair whose readback check fails in a channel, whatever the other channel does (R326). -/
theorem Dev.both_outFail {act : Dev → Bool → Dev} {c : Bool} {i j : Nat} (hi : i < 8) (hm : bitOf (g.par c F.SAFETY_OUT_CFG_MEMBERS j) i = true) (hne : g.stOf c i ≠ sInactive)
    (hact : ∀ (v : Dev) z, v.Fails (act v z)) (hoth : ∀ (v : Dev) z, z ≠ c → (act v z).ch c = v.ch c)
    (hc : ∀ v : Dev, g.Fails v → v.ch c = g.ch c → ∃ w, v.Fails w ∧ w.stOf c i = v.stOf c i ∧ act v c = w.outFail c j) : let v := g.both act
    g.Fails v ∧ v.lockedBy c i cOuttest ∧ bitOf (v.ch c).outFail j = true := by
  refine ⟨Dev.both_inv _ _ (fun v z hv => hv.trans (hact v z)) g (Dev.fails_refl g), ?_⟩
  refine Dev.both_at (fun v => g.Fails v ∧ v.ch c = g.ch c) (fun v => v.lockedBy c i cOuttest ∧ bitOf (v.ch c).outFail j = true) _ c
    (fun v z hz hv => ⟨hv.1.trans (hact v z), (hoth v z hz).trans hv.2⟩) (fun v hv => ?_)
    (fun v z hz hv => ⟨(hact v z).locked c i _ hv.1, by rw [hoth v z hz]; exact hv.2⟩) g ⟨Dev.fails_refl g, rfl⟩
  obtain ⟨w, hw, hst, he⟩ := hc v hv.1 hv.2
  obtain ⟨-, -, f3, f4⟩ := Dev.outFail_spec (s := w) c j
  rw [he]
  refine ⟨f4 i hi ?_ (by rw [hst]; exact hv.1.active c i hne), f3⟩
  rw [((hv.1.trans hw).leaves.samePar (by decide)).members]
  exact hm

/-! ### Off-pulses -/

theorem Dev.fails_setRb (y : Bool) (j : Nat) (a b : Bool) : s.Fails (s.setRb y j a b) := Dev.fails_setCh y rfl rfl rfl fun _ h => h
theorem Dev.setRb_ch_other {y z : Bool} (h : y ≠ z) (j : Nat) (a b : Bool) : (s.setRb z j a b).ch y = s.ch y := Dev.ch_setCh_other h _
theorem Dev.setRb_st (y z : Bool) (i j : Nat) (a b : Bool) : (s.setRb z j a b).stOf y i = s.stOf y i :=
  congrArg (fun t => Tab.get 0 t i) (Dev.ch_setCh_of (·.st) (s := s) (y := z) (c := { s.ch z with rb := putBit (putBit (s.ch z).rb (2 * j) a) (2 * j + 1) b }) rfl y)

/-- A channel samples the readback on the last tick of an off-pulse of one output of pair `j` (R326). -/
def Dev.pulseRb (j : Nat) (y rbX rbY : Bool) (s : Dev) (c : Bool) : Dev :=
  let rb := if c then rbY else rbX
  (s.setRb c j (if y then bitOf (s.ch c).rb (2 * j) else rb) (if y then rb else bitOf (s.ch c).rb (2 * j + 1))).iff rb fun s => s.outFail c j

/-- The readback shown after an off-pulse. -/
def Dev.showRb (s : Dev) (j : Nat) (y rbX rbY : Bool) : Dev := s.put (if y then F.SAFETY_OUT_STAT_SRB_Y else F.SAFETY_OUT_STAT_SRB_X) (b2n (if y then rbY else rbX)) j

def srbFlds : List Fld := [F.SAFETY_OUT_STAT_SRB_X, F.SAFETY_OUT_STAT_SRB_Y]

theorem Dev.showRb_shows {j : Nat} (hj : j < 4) (y rbX rbY : Bool) : s.ShowsOnly srbFlds (s.showRb j y rbX rbY) := by
  cases y
  · exact (Dev.showsOnly_refl srbFlds s).put (F := F.SAFETY_OUT_STAT_SRB_X) (by decide) rfl _ (by omega)
  · exact (Dev.showsOnly_refl srbFlds s).put (F := F.SAFETY_OUT_STAT_SRB_Y) (by decide) rfl _ (by omega)

theorem Dev.offPulse_off {j : Nat} (h : s.pairOn j = false) (y rbX rbY : Bool) : s.offPulse j y rbX rbY = s := if_neg fun e => absurd e.2 (by rw [h]; decide)

theorem Dev.offPulse_fails {j : Nat} (hr : s.safeRun = true) (h : s.pairOn j = true) (y : Bool) {rbX rbY : Bool} (hrb : (rbX || rbY) = true) :
    s.offPulse j y rbX rbY = Dev.safeRefresh s ((s.showRb j y rbX rbY).both (Dev.pulseRb j y rbX rbY)) := by
  unfold Dev.offPulse
  rw [if_pos (show s.safeRun = true ∧ s.pairOn j = true from ⟨hr, h⟩)]
  exact if_pos hrb

theorem Dev.offPulse_follows {j : Nat} (hr : s.safeRun = true) (h : s.pairOn j = true) (y : Bool) :
    let u := (s.put (if y then F.SAFETY_OUT_STAT_SRB_Y else F.SAFETY_OUT_STAT_SRB_X) 0 j).both fun g c => g.setRb c j (y && bitOf (g.ch c).rb (2 * j)) (!y && bitOf (g.ch c).rb (2 * j + 1))
    s.offPulse j y false false = Dev.safeRefresh s (Dev.startTimer (Dev.raise { u with safe := { u.safe with pulsed := Tab.set 0 u.safe.pulsed j (if y then 2 else 1) } } F.SAFETY_OUT_STAT_TEST j) (48 + j)) := by
  unfold Dev.offPulse
  rw [if_pos (show s.safeRun = true ∧ s.pairOn j = true from ⟨hr, h⟩)]
  cases y
  · exact if_neg Bool.false_ne_true
  · exact if_neg Bool.false_ne_true

theorem Dev.pulseRb_fails (j : Nat) (y rbX rbY : Bool) (z : Bool) : s.Fails (Dev.pulseRb j y rbX rbY s z) := by
  have h := Dev.fails_setRb (s := s) z j (if y then bitOf (s.ch z).rb (2 * j) else (if z then rbY else rbX)) (if y then (if z then rbY else rbX) else bitOf (s.ch z).rb (2 * j + 1))
  exact h.iff _ (fun s => s.outFail z j) fun _ => h.trans (Dev.outFail_spec z j).1

theorem Dev.pulseRb_other (j : Nat) (y rbX rbY : Bool) {c z : Bool} (h : z ≠ c) : (Dev.pulseRb j y rbX rbY s z).ch c = s.ch c :=
  (Dev.iff_keeps _ (·.ch c) _ _ fun _ => (Dev.outFail_spec z j).2.1 c h.symm).trans (Dev.setRb_ch_other h.symm ..)

theorem Dev.offPulse_locks {j : Nat} (hj : j < 4) (hr : s.safeRun = true) (h : s.pairOn j = true) (y : Bool) {rbX rbY c : Bool} {i : Nat} (hrb : (if c then rbY else rbX) = true) (hi : i < 8)
    (hm : bitOf (s.par c F.SAFETY_OUT_CFG_MEMBERS j) i = true) (hne : s.stOf c i ≠ sInactive) : let u := s.offPulse j y rbX rbY
    u.stOf c i = sLockout ∧ bitOf (u.causeOf c i) cOuttest = true ∧ bitOf (u.ch c).outFail j = true ∧ s.Keeps [.safety] s.out u := by
  have hor : (rbX || rbY) = true := by cases c <;> simp_all
  dsimp only
  rw [Dev.offPulse_fails hr h y hor]
  have hs := Dev.showRb_shows (s := s) hj y rbX rbY
  generalize s.showRb j y rbX rbY = w at hs ⊢
  obtain ⟨f1, f2, f3⟩ := Dev.both_outFail (g := w) (act := Dev.pulseRb j y rbX rbY) (c := c) (j := j) hi (by rw [hs.leaves.par (G := F.SAFETY_OUT_CFG_MEMBERS) (by decide)]; exact hm)
    (by rw [hs.stOf]; exact hne) (fun v z => Dev.pulseRb_fails ..) (fun v z hz => Dev.pulseRb_other _ _ _ _ hz)
    fun v _ _ => ⟨_, Dev.fails_setRb c j (if y then bitOf (v.ch c).rb (2 * j) else (if c then rbY else rbX)) (if y then (if c then rbY else rbX) else bitOf (v.ch c).rb (2 * j + 1)),
      Dev.setRb_st .., if_pos hrb⟩
  obtain ⟨k1, k2⟩ := f2.safeRefresh s hi
  refine ⟨k1, k2, (congrArg (bitOf · j) (Dev.safeRefresh_ch s _ (·.outFail) c)).trans f3, ?_⟩
  exact (((hs.leaves.mono (l' := srbFlds ++ followFlds) (by decide)).trans (f1.leaves.mono (by decide))).trans ((Dev.safeRefresh_leaves s _).mono (by decide))).keeps

/-! ### The check after a pulse or an off command -/

/-- What a channel reads back of pair `j`, and its other channel. -/
def readback (seenX seenY : Nat) (c : Bool) : Nat := if c then seenY else seenX

/-- The readbacks as sampled and as shown (R326). -/
def Dev.sampled (s : Dev) (j seenX seenY : Nat) : Dev :=
  ((s.both fun s c => s.setRb c j (bitOf (readback seenX seenY c) 0) (bitOf (readback seenX seenY c) 1)).put F.SAFETY_OUT_STAT_SRB_X (b2n (bitOf seenX 0)) j).put
    F.SAFETY_OUT_STAT_SRB_Y (b2n (bitOf seenY 1)) j

/-- What an output check leaves: no output command changes. -/
theorem Dev.sampled_spec {j : Nat} (hj : j < 4) (seenX seenY : Nat) : let u := s.sampled j seenX seenY
    s.SafeLeaves srbFlds u ∧ (∀ y, (u.ch y).out = (s.ch y).out) ∧ (∀ y i, u.stOf y i = s.stOf y i) := by
  let w := s.both fun s c => s.setRb c j (bitOf (readback seenX seenY c) 0) (bitOf (readback seenX seenY c) 1)
  have hrb : s.Fails w ∧ ∀ y i, w.stOf y i = s.stOf y i :=
    Dev.both_inv (fun v => s.Fails v ∧ ∀ y i, v.stOf y i = s.stOf y i) _ (fun v c hv => ⟨hv.1.trans (Dev.fails_setRb ..), fun y i => (Dev.setRb_st ..).trans (hv.2 y i)⟩) s
      ⟨Dev.fails_refl s, fun _ _ => rfl⟩
  have hs := ((Dev.showsOnly_refl srbFlds w).put (F := F.SAFETY_OUT_STAT_SRB_X) (by decide) rfl (b2n (bitOf seenX 0)) (i := j) (j := 0) (by omega)).put
    (F := F.SAFETY_OUT_STAT_SRB_Y) (by decide) rfl (b2n (bitOf seenY 1)) (i := j) (j := 0) (by omega)
  exact ⟨(hrb.1.leaves.mono (by decide)).trans hs.leaves, fun y => (congrArg SafeCh.out (hs.ch y)).trans (hrb.1.out y), fun y i => (hs.stOf y i).trans (hrb.2 y i)⟩

/-- The readback of the pulsed output is on again. -/
def Dev.backOn (s : Dev) (j seenX seenY : Nat) (c : Bool) : Bool := bitOf (readback seenX seenY c) (Tab.get 0 s.safe.pulsed j - 1)

/-- The pulse is over. -/
def Dev.pulseOver (s : Dev) (j : Nat) : Dev := Dev.put { s with safe := { s.safe with pulsed := Tab.set 0 s.safe.pulsed j 0 } } F.SAFETY_OUT_STAT_TEST 0 j

/-- An output that reads on when it is off, in a channel. -/
def Dev.offReads (j seenX seenY : Nat) (s : Dev) (c : Bool) : Dev :=
  s.iff (s.parOn c F.SAFETY_OUT_CFG_EN j && ((!s.outOn false j && bitOf (readback seenX seenY c) 0) || (!s.outOn true j && bitOf (readback seenX seenY c) 1))) fun s => s.outFail c j

theorem Dev.outtestCheck_run {g : Dev} {j : Nat} (hg : s.lastedUs (48 + j) 200 = g) (hr : g.safeRun = true) (seenX seenY : Nat) : s.outtestCheck j seenX seenY =
    if g.flag F.SAFETY_OUT_STAT_TEST j then
      Dev.safeRefresh g (if g.backOn j seenX seenY false && g.backOn j seenX seenY true then ((g.sampled j seenX seenY).pulseOver j).inc F.SAFETY_OUT_STAT_PASS_CNT 1 j
        else ((g.sampled j seenX seenY).pulseOver j).both fun s c => s.iff (!g.backOn j seenX seenY c) fun s => s.outFail c j)
    else Dev.safeRefresh g ((g.sampled j seenX seenY).both (Dev.offReads j seenX seenY)) := by
  unfold Dev.outtestCheck
  rw [hg]
  exact if_neg (not_not_intro hr)

/-- A pulsed output that is on again in both channels. -/
theorem Dev.outtestCheck_pass {g : Dev} {j : Nat} (hg : s.lastedUs (48 + j) 200 = g) (hr : g.safeRun = true) {seenX seenY : Nat} (ht : g.flag F.SAFETY_OUT_STAT_TEST j = true)
    (h1 : g.backOn j seenX seenY false = true) (h2 : g.backOn j seenX seenY true = true) :
    s.outtestCheck j seenX seenY = Dev.safeRefresh g (((g.sampled j seenX seenY).pulseOver j).inc F.SAFETY_OUT_STAT_PASS_CNT 1 j) := by
  rw [Dev.outtestCheck_run hg hr, if_pos ht, h1, h2]
  rfl

theorem Dev.pulseOver_shows {j : Nat} (hj : j < 4) : s.ShowsOnly [F.SAFETY_OUT_STAT_TEST] (s.pulseOver j) :=
  ((Dev.showsOnly_refl _ s).setPulsed _).put (F := F.SAFETY_OUT_STAT_TEST) (by decide) rfl _ (by omega)

theorem Dev.outFail_iff_fails (b : Bool) (c : Bool) (j : Nat) : s.Fails (s.iff b fun s => s.outFail c j) := (Dev.fails_refl s).iff _ _ fun _ => (Dev.outFail_spec c j).1
theorem Dev.outFail_iff_other (b : Bool) {c z : Bool} (h : z ≠ c) (j : Nat) : (s.iff b fun s => s.outFail z j).ch c = s.ch c :=
  Dev.iff_keeps s (·.ch c) _ _ fun _ => (Dev.outFail_spec z j).2.1 c h.symm

/-- A pulsed output that does not come on again. -/
theorem Dev.outtestCheck_dark {g : Dev} {j : Nat} (hj : j < 4) (hg : s.lastedUs (48 + j) 200 = g) (hr : g.safeRun = true) {seenX seenY : Nat} (ht : g.flag F.SAFETY_OUT_STAT_TEST j = true) {c : Bool} {i : Nat}
    (hi : i < 8) (hb : g.backOn j seenX seenY c = false) (hm : bitOf (g.par c F.SAFETY_OUT_CFG_MEMBERS j) i = true) (hne : g.stOf c i ≠ sInactive) : let u := s.outtestCheck j seenX seenY
    u.lockedBy c i cOuttest ∧ g.Keeps [.safety] g.out u := by
  have hboth : (g.backOn j seenX seenY false && g.backOn j seenX seenY true) = false := by cases c <;> simp [hb]
  dsimp only
  rw [Dev.outtestCheck_run hg hr, if_pos ht, hboth]
  obtain ⟨s1, -, s3⟩ := Dev.sampled_spec (s := g) hj seenX seenY
  have hp := Dev.pulseOver_shows (s := g.sampled j seenX seenY) hj
  have hl := (s1.mono (l' := srbFlds ++ [F.SAFETY_OUT_STAT_TEST]) (by decide)).trans (hp.leaves.mono (by decide))
  have hst : ∀ y i, ((g.sampled j seenX seenY).pulseOver j).stOf y i = g.stOf y i := fun y i => (hp.stOf y i).trans (s3 y i)
  generalize (g.sampled j seenX seenY).pulseOver j = w at hl hst ⊢
  obtain ⟨f1, f2, -⟩ := Dev.both_outFail (g := w) (act := fun s c => s.iff (!g.backOn j seenX seenY c) fun s => s.outFail c j) (c := c) (j := j) hi
    (by rw [hl.par (G := F.SAFETY_OUT_CFG_MEMBERS) (by decide)]; exact hm) (by rw [hst]; exact hne) (fun v z => Dev.outFail_iff_fails ..) (fun v z hz => Dev.outFail_iff_other _ hz j)
    fun v _ _ => ⟨v, Dev.fails_refl v, rfl, if_pos (by rw [hb]; rfl)⟩
  exact ⟨f2.safeRefresh g hi, (((hl.mono (l' := srbFlds ++ F.SAFETY_OUT_STAT_TEST :: followFlds) (by decide)).trans (f1.leaves.mono (by decide))).trans ((Dev.safeRefresh_leaves g _).mono (by decide))).keeps⟩

/-- An output that reads on when it is off. -/
theorem Dev.outtestCheck_stuck {g : Dev} {j : Nat} (hj : j < 4) (hg : s.lastedUs (48 + j) 200 = g) (hr : g.safeRun = true) {seenX seenY : Nat} (ht : g.flag F.SAFETY_OUT_STAT_TEST j = false) {c : Bool} {i : Nat}
    (hi : i < 8) (hen : g.parOn c F.SAFETY_OUT_CFG_EN j = true)
    (hon : (g.outOn false j = false ∧ bitOf (readback seenX seenY c) 0 = true) ∨ (g.outOn true j = false ∧ bitOf (readback seenX seenY c) 1 = true))
    (hm : bitOf (g.par c F.SAFETY_OUT_CFG_MEMBERS j) i = true) (hne : g.stOf c i ≠ sInactive) : let u := s.outtestCheck j seenX seenY
    u.lockedBy c i cOuttest ∧ g.Keeps [.safety] g.out u := by
  dsimp only
  rw [Dev.outtestCheck_run hg hr, if_neg (by rw [ht]; decide)]
  obtain ⟨hl, hout, hst⟩ := Dev.sampled_spec (s := g) hj seenX seenY
  generalize g.sampled j seenX seenY = w at hl hout hst ⊢
  have hcond : ∀ v : Dev, w.Fails v → (v.parOn c F.SAFETY_OUT_CFG_EN j && ((!v.outOn false j && bitOf (readback seenX seenY c) 0) ||
      (!v.outOn true j && bitOf (readback seenX seenY c) 1))) = true := fun v hv => by
    have ho : ∀ y, v.outOn y j = g.outOn y j := fun y => by rw [Dev.outOn, hv.out, hout]; rfl
    have he : v.parOn c F.SAFETY_OUT_CFG_EN j = true := by
      rw [Dev.parOn, hv.leaves.par (G := F.SAFETY_OUT_CFG_EN) (by decide), hl.par (G := F.SAFETY_OUT_CFG_EN) (by decide)]
      exact hen
    rw [he, ho, ho]
    rcases hon with ⟨h1, h2⟩ | ⟨h1, h2⟩ <;> rw [h1, h2]
    · rfl
    · exact (Bool.true_and _).trans (Bool.or_true _)
  obtain ⟨f1, f2, -⟩ := Dev.both_outFail (g := w) (act := Dev.offReads j seenX seenY) (c := c) (j := j) hi
    (by rw [hl.par (G := F.SAFETY_OUT_CFG_MEMBERS) (by decide)]; exact hm) (by rw [hst]; exact hne) (fun v z => Dev.outFail_iff_fails ..) (fun v z hz => Dev.outFail_iff_other _ hz j)
    fun v hv _ => ⟨v, Dev.fails_refl v, rfl, if_pos (hcond v hv)⟩
  exact ⟨f2.safeRefresh g hi, (((hl.mono (l' := srbFlds ++ followFlds) (by decide)).trans (f1.leaves.mono (by decide))).trans ((Dev.safeRefresh_leaves g _).mono (by decide))).keeps⟩

end

end Sys2Proof.Machine
end

section
/-! The clearing of the causes of the outputs and the feedback, a category 1 stop (R328, R336), and O37. -/

namespace Sys2Proof.Machine

section
variable {s u v was d g : Dev}

/-! ### What clears -/

/-- A channel but for its causes and the pairs that failed a readback check. -/
def SafeCh.live (c : SafeCh) : SafeCh := { c with outFail := 0, cause := [] }

/-- Only causes and failed pairs have changed. -/
structure Dev.ClearsOut (s u : Dev) : Prop where
  leaves : s.SafeLeaves [] u
  ch     : ∀ y, (u.ch y).live = (s.ch y).live

theorem Dev.clearsOut_refl (s : Dev) : s.ClearsOut s := ⟨Dev.safeLeaves_refl [] s, fun _ => rfl⟩
theorem Dev.ClearsOut.trans (h : s.ClearsOut u) (k : u.ClearsOut v) : s.ClearsOut v := ⟨h.leaves.trans k.leaves, fun y => (k.ch y).trans (h.ch y)⟩
theorem Dev.ClearsOut.of_ch {α : Type} (h : s.ClearsOut u) (p : SafeCh → α) (y : Bool) : p (u.ch y).live = p (s.ch y).live := congrArg p (h.ch y)
theorem Dev.ClearsOut.iff (h : s.ClearsOut u) (c : Bool) (g : Dev → Dev) (hg : c = true → s.ClearsOut (g u)) : s.ClearsOut (u.iff c g) := by
  cases c
  · exact h
  · exact hg rfl
theorem Dev.clearsOut_setCh (y : Bool) {c : SafeCh} (hc : c.live = (s.ch y).live) : s.ClearsOut (s.setCh y c) :=
  ⟨(Dev.safeLeaves_refl [] s).setCh y c, Dev.ch_setCh_of SafeCh.live hc⟩
theorem Dev.clearsOut_causeOff (i c : Nat) (y : Bool) : s.ClearsOut (s.causeOff i c y) :=
  Dev.clearsOut_setCh y (c := { s.ch y with cause := Tab.set 0 (s.ch y).cause i (putBit (s.causeOf y i) c false) }) rfl
theorem Dev.clearsOut_unfail (y : Bool) (n : Nat) : s.ClearsOut (s.setCh y { s.ch y with outFail := n }) := Dev.clearsOut_setCh y (c := { s.ch y with outFail := n }) rfl
theorem Dev.clearsOut_causeGone (i c : Nat) : s.ClearsOut (s.causeGone i c) :=
  Dev.both_inv (fun v => s.ClearsOut v) _ (fun _ y hv => hv.trans (Dev.clearsOut_causeOff i c y)) s (Dev.clearsOut_refl s)

theorem Dev.causeGone_outFail (i c : Nat) (y : Bool) : ((s.causeGone i c).ch y).outFail = (s.ch y).outFail :=
  Dev.both_inv (fun v => (v.ch y).outFail = (s.ch y).outFail) _ (fun v z hv => (Dev.ch_setCh_of (·.outFail) (s := v) (y := z)
    (c := { v.ch z with cause := Tab.set 0 (v.ch z).cause i (putBit (v.causeOf z i) c false) }) rfl y).trans hv) s rfl

/-- A pair is off with its readbacks off, a feedback reads applied with its brake off: neither depends on the causes. -/
theorem Dev.ClearsOut.holds_off (h : s.ClearsOut u) {j : Nat} (hj : j < 4) : u.holds (32 + j) = s.holds (32 + j) := by
  have ho : ∀ y, u.outOn y j = s.outOn y j := fun y => congrArg (bitOf · j) (h.of_ch (·.out) y)
  have hrb : ∀ y, (u.ch y).rb = (s.ch y).rb := fun y => h.of_ch (·.rb) y
  unfold Dev.holds
  rw [if_neg (by omega), if_neg (by omega), if_neg (by omega), if_neg (by omega), if_pos (by omega), if_neg (by omega), if_neg (by omega), if_neg (by omega), if_neg (by omega),
    if_pos (by omega), Nat.add_sub_cancel_left]
  simp only [ho, hrb]

theorem Dev.ClearsOut.holds_applied (h : s.ClearsOut u) {i : Nat} (hi : i < 8) : u.holds (24 + i) = s.holds (24 + i) := by
  have ho : ∀ y j, u.outOn y j = s.outOn y j := fun y j => congrArg (bitOf · j) (h.of_ch (·.out) y)
  have hl : ∀ y k, u.line y k = s.line y k := fun y k => by
    rw [Dev.line, Dev.line, show (u.ch y).lines = (s.ch y).lines from h.of_ch (·.lines) y, show (u.ch y).win = (s.ch y).win from h.of_ch (·.win) y]
  have hp := h.leaves.samePar (by decide)
  unfold Dev.holds
  rw [if_neg (by omega), if_neg (by omega), if_neg (by omega), if_pos (by omega), if_neg (by omega), if_neg (by omega), if_neg (by omega), if_pos (by omega)]
  simp only [ho, hp.pairsOf, hp.inPair, fun y => Dev.pairOpen_congr y (hl y)]

/-! ### The pairs of an INST -/

/-- The pairs of an INST that are off with their readbacks off no longer count as failed, in a channel. -/
def Dev.failOff (i : Nat) (s : Dev) (y : Bool) : Dev :=
  s.each (s.pairsOf y i) fun s j => s.iff (s.holds (32 + j)) fun s => s.setCh y { s.ch y with outFail := putBit (s.ch y).outFail j false }

theorem Dev.pairsOf_lt {y : Bool} {i j : Nat} (h : j ∈ s.pairsOf y i) : j < 4 := mem_outPairs.mp (List.mem_filter.mp h).1

theorem Dev.clearsOut_failOff (i : Nat) (y : Bool) : s.ClearsOut (Dev.failOff i s y) :=
  Dev.each_inv (fun v => s.ClearsOut v) _ _ (fun v j _ hv => hv.iff _ _ fun _ => hv.trans (Dev.clearsOut_unfail y _)) s (Dev.clearsOut_refl s)

theorem Dev.failOff_other (i : Nat) {y z : Bool} (h : z ≠ y) : (Dev.failOff i s z).ch y = s.ch y :=
  Dev.each_inv (fun v => v.ch y = s.ch y) _ _ (fun v _ _ hv => (Dev.iff_keeps v (·.ch y) _ _ fun _ => Dev.ch_setCh_other h.symm _).trans hv) s rfl

theorem Dev.failOff_same {i j : Nat} {y : Bool} (hj : j ∈ s.pairsOf y i) (hh : s.holds (32 + j) = true) : bitOf ((Dev.failOff i s y).ch y).outFail j = false := by
  have hstep : ∀ (v : Dev) (m : Nat), bitOf (v.ch y).outFail j = false →
      bitOf ((v.iff (v.holds (32 + m)) fun s => s.setCh y { s.ch y with outFail := putBit (s.ch y).outFail m false }).ch y).outFail j = false := fun v m hv => by
    cases v.holds (32 + m)
    · exact hv
    · show bitOf ((v.setCh y { v.ch y with outFail := putBit (v.ch y).outFail m false }).ch y).outFail j = false
      rw [Dev.ch_setCh_same]
      rcases eq_or_ne j m with rfl | hm
      · exact putBit_false_same ..
      · exact (bitOf_putBit_other _ _ hm).trans hv
  refine Dev.each_at (fun v => s.ClearsOut v) (fun v => bitOf (v.ch y).outFail j = false) _ _ hj (fun v m _ hv => hv.iff _ _ fun _ => hv.trans (Dev.clearsOut_unfail y _)) (fun v hv => ?_)
    (fun v m _ hv => hstep v m hv) s (Dev.clearsOut_refl s)
  rw [show v.holds (32 + j) = true from (hv.holds_off (Dev.pairsOf_lt hj)).trans hh]
  show bitOf ((v.setCh y { v.ch y with outFail := putBit (v.ch y).outFail j false }).ch y).outFail j = false
  rw [Dev.ch_setCh_same]
  exact putBit_false_same ..

/-- OUTTEST clears where no pair of the INST counts as failed (R336). -/
def Dev.outCauses (s : Dev) : Dev :=
  s.each insts fun s l => s.iff (chans.all fun y => (s.pairsOf y l).all fun j => !bitOf (s.ch y).outFail j) fun s => s.causeGone l cOuttest

theorem Dev.clearsOut_outCauses : s.ClearsOut s.outCauses ∧ ∀ y, (s.outCauses.ch y).outFail = (s.ch y).outFail := by
  refine Dev.each_inv (fun v => s.ClearsOut v ∧ ∀ y, (v.ch y).outFail = (s.ch y).outFail) insts _ (fun v l _ hv => ⟨hv.1.iff _ _ fun _ => hv.1.trans (Dev.clearsOut_causeGone ..), fun y => ?_⟩) s
    ⟨Dev.clearsOut_refl s, fun _ => rfl⟩
  exact (Dev.iff_keeps v (fun v => (v.ch y).outFail) _ _ fun _ => Dev.causeGone_outFail ..).trans (hv.2 y)

theorem Dev.causeGone_bit (l i c : Nat) (y : Bool) (h : bitOf (s.causeOf y i) c = false) (c' : Nat) : bitOf ((s.causeGone l c').causeOf y i) c = false := by
  rcases eq_or_ne l i with rfl | hl
  · rw [show (s.causeGone l c').causeOf y l = _ from congrArg Prod.snd (Dev.causeGone_inst_same l c' y)]
    rcases eq_or_ne c c' with rfl | hc
    · exact putBit_false_same ..
    · exact (bitOf_putBit_other _ _ hc).trans h
  · rw [show (s.causeGone l c').causeOf y i = _ from congrArg Prod.snd (Dev.causeGone_inst_other hl c' y)]
    exact h

theorem Dev.causeGone_gone (i c : Nat) (y : Bool) : bitOf ((s.causeGone i c).causeOf y i) c = false := by
  rw [show (s.causeGone i c).causeOf y i = _ from congrArg Prod.snd (Dev.causeGone_inst_same i c y)]
  exact putBit_false_same ..

theorem Dev.outCauses_gone {i : Nat} (hi : i < 8) (h : ∀ y, ∀ j ∈ s.pairsOf y i, bitOf (s.ch y).outFail j = false) (y : Bool) : bitOf (s.outCauses.causeOf y i) cOuttest = false := by
  refine Dev.each_at (fun v => s.ClearsOut v ∧ ∀ y, (v.ch y).outFail = (s.ch y).outFail) (fun v => bitOf (v.causeOf y i) cOuttest = false) insts _ (mem_insts.mpr hi)
    (fun v l _ hv => ⟨hv.1.iff _ _ fun _ => hv.1.trans (Dev.clearsOut_causeGone ..), fun z => (Dev.iff_keeps v (fun v => (v.ch z).outFail) _ _ fun _ => Dev.causeGone_outFail ..).trans (hv.2 z)⟩)
    (fun v hv => ?_) (fun v l _ hv => ?_) s ⟨Dev.clearsOut_refl s, fun _ => rfl⟩
  · have hcond : (chans.all fun y => (v.pairsOf y i).all fun j => !bitOf (v.ch y).outFail j) = true := by
      refine List.all_eq_true.mpr fun z _ => List.all_eq_true.mpr fun j hj => ?_
      rw [(hv.1.leaves.samePar (by decide)).pairsOf] at hj
      rw [hv.2 z, h z j hj]
      rfl
    rw [hcond]
    exact Dev.causeGone_gone i cOuttest y
  · unfold Dev.iff
    split
    · exact Dev.causeGone_bit l i cOuttest y hv _
    · exact hv

/-! ### The event -/

/-- The time that the clearing of an INST's causes takes: first of the pairs that failed, then of the feedback (R336). -/
def Dev.waitPairs (s : Dev) (i : Nat) : Dev :=
  s.each (bitList 4 (Nat.lor s.safe.x.outFail s.safe.y.outFail)) fun s j => s.iff ((s.pairsOf false i).contains j && s.holds (32 + j)) fun s => s.lasted (32 + j) 1000
def Dev.waitFb (s : Dev) (i : Nat) : Dev := s.iff (bitOf (s.instCause i) cFb && s.holds (24 + i)) fun s => s.lasted (24 + i) (s.f F.SAFETY_INST_TIME_FB_T i)
def Dev.clearWait (s : Dev) (i : Nat) : Dev := (s.waitPairs i).waitFb i

theorem Dev.iff_lasted_withTime {v : Dev} (b : Bool) (k : Nat) (ms : Dev → Nat) (h : ∃ x, v = { s with time := x }) : ∃ x, (v.iff b fun s => s.lasted k (ms s)) = { s with time := x } := by
  obtain ⟨x, hx⟩ := h
  cases b
  · exact ⟨x, hx⟩
  · obtain ⟨z, hz⟩ := Dev.lastedUs_withTime (s := v) k (ms v * 1000)
    exact ⟨z, hz.trans (by rw [hx])⟩

theorem Dev.clearWait_withTime (i : Nat) : ∃ x, s.clearWait i = { s with time := x } := by
  have h : ∃ x, s.waitPairs i = { s with time := x } :=
    Dev.each_inv (fun v => ∃ x, v = { s with time := x }) _ _ (fun v j _ hv => Dev.iff_lasted_withTime _ (32 + j) (fun _ => 1000) hv) s ⟨s.time, rfl⟩
  exact Dev.iff_lasted_withTime _ (24 + i) (fun v => v.f F.SAFETY_INST_TIME_FB_T i) h

/-- What has cleared at the end of the time. -/
def Dev.causesCleared (g : Dev) (i : Nat) : Dev :=
  Dev.iff (g.both (Dev.failOff i)).outCauses (Dev.holds (g.both (Dev.failOff i)).outCauses (24 + i)) fun s => s.causeGone i cFb

theorem Dev.causeClear_run {i : Nat} (hi : i < 8) (hr : s.safeRun = true) : s.causeClear i = Dev.safeRefresh (s.clearWait i) ((s.clearWait i).causesCleared i) :=
  if_neg (not_or.mpr ⟨not_not_intro hr, by omega⟩)

theorem Dev.clearsOut_both (i : Nat) : g.ClearsOut (g.both (Dev.failOff i)) :=
  Dev.both_inv (fun v => g.ClearsOut v) _ (fun _ y hv => hv.trans (Dev.clearsOut_failOff i y)) g (Dev.clearsOut_refl g)

theorem Dev.clearsOut_cleared (i : Nat) : g.ClearsOut (g.causesCleared i) := by
  have h := (Dev.clearsOut_both (g := g) i).trans Dev.clearsOut_outCauses.1
  exact h.iff _ _ fun _ => h.trans (Dev.clearsOut_causeGone ..)

theorem Dev.causesCleared_outFail (i : Nat) (y : Bool) : ((g.causesCleared i).ch y).outFail = ((g.both (Dev.failOff i)).ch y).outFail :=
  (Dev.iff_keeps _ (fun v => (v.ch y).outFail) _ _ fun _ => Dev.causeGone_outFail ..).trans (Dev.clearsOut_outCauses.2 y)

theorem Dev.causesCleared_out {i : Nat} (hi : i < 8) (h : ∀ y, ∀ j ∈ g.pairsOf y i, g.holds (32 + j) = true) :
    (∀ y, bitOf ((g.causesCleared i).causeOf y i) cOuttest = false) ∧ ∀ y, ∀ j ∈ g.pairsOf y i, bitOf ((g.causesCleared i).ch y).outFail j = false := by
  have hfail : ∀ y, ∀ j ∈ g.pairsOf y i, bitOf ((g.both (Dev.failOff i)).ch y).outFail j = false := fun y j hj => by
    refine Dev.both_at (fun v => g.ClearsOut v) (fun v => bitOf (v.ch y).outFail j = false) _ y (fun v z _ hv => hv.trans (Dev.clearsOut_failOff i z)) (fun v hv => ?_)
      (fun v z hz hv => by rw [Dev.failOff_other i hz]; exact hv) g (Dev.clearsOut_refl g)
    exact Dev.failOff_same (by rw [(hv.leaves.samePar (by decide)).pairsOf]; exact hj) ((hv.holds_off (Dev.pairsOf_lt hj)).trans (h y j hj))
  refine ⟨fun y => ?_, fun y j hj => by rw [Dev.causesCleared_outFail]; exact hfail y j hj⟩
  have h1 : bitOf ((g.both (Dev.failOff i)).outCauses.causeOf y i) cOuttest = false := Dev.outCauses_gone hi (fun z j hj => by
    rw [((Dev.clearsOut_both (g := g) i).leaves.samePar (by decide)).pairsOf] at hj
    exact hfail z j hj) y
  unfold Dev.causesCleared Dev.iff
  split
  · exact Dev.causeGone_bit i i cOuttest y h1 _
  · exact h1

theorem Dev.causesCleared_fb {i : Nat} (hi : i < 8) (h : g.holds (24 + i) = true) (y : Bool) : bitOf ((g.causesCleared i).causeOf y i) cFb = false := by
  have hh : Dev.holds (g.both (Dev.failOff i)).outCauses (24 + i) = true := (((Dev.clearsOut_both (g := g) i).trans Dev.clearsOut_outCauses.1).holds_applied hi).trans h
  rw [Dev.causesCleared, hh]
  exact Dev.causeGone_gone i cFb y

theorem Dev.instCause_bit (i c : Nat) (h : ∀ y, bitOf (s.causeOf y i) c = false) : bitOf (s.instCause i) c = false := by
  rw [Dev.instCause, bitOf_lor, h, h]
  rfl

/-! ### A category 1 stop -/

theorem Dev.holds_stopping {i : Nat} (hi : i < 8) : s.holds i = chans.any fun y => decide (s.stOf y i = sStopping) := by rw [Dev.holds, if_pos hi]

theorem Dev.cat1Timeout_run {i : Nat} (hi : i < 8) (hr : s.safeRun = true) {y : Bool} (hst : s.stOf y i = sStopping) : let g := s.lasted i (s.f F.SAFETY_INST_TIME_CAT1_T i)
    s.cat1Timeout i = Dev.safeRefresh g (g.both fun s y => s.cat1End y i) :=
  if_pos ⟨hr, hi, by rw [Dev.holds_stopping hi]; exact List.any_eq_true.mpr ⟨y, by cases y <;> decide, decide_eq_true hst⟩⟩

theorem Dev.cat1Timeout_none {i : Nat} (h : 8 ≤ i ∨ ∀ y, s.stOf y i ≠ sStopping) : s.cat1Timeout i = s :=
  if_neg fun ⟨_, hi, hh⟩ => by
    rw [Dev.holds_stopping hi] at hh
    obtain ⟨y, -, hy⟩ := List.any_eq_true.mp hh
    rcases h with h | h
    · omega
    · exact h y (of_decide_eq_true hy)

theorem Dev.InstsOnly.cat1End {l : List Fld} (h : s.InstsOnly l u) (y : Bool) (i : Nat) : s.InstsOnly l (u.cat1End y i) := .ite _ (fun _ => h.instGo ..) fun _ => h

theorem Dev.cat1End_other {y z : Bool} {i k : Nat} (h : Apart2 z k y i) : (s.cat1End z k).instOf y i = s.instOf y i := by
  rw [Dev.cat1End]
  split
  · exact Dev.instGo_other h _
  · rfl

theorem Dev.cat1End_same {y : Bool} {i : Nat} (h : s.stOf y i = sStopping) : (s.cat1End y i).instOf y i = (sDemand, s.causeOf y i) := by
  rw [Dev.cat1End, if_pos h, Dev.instGo_same]

theorem Dev.cat1_both {y : Bool} {i : Nat} (h : g.stOf y i = sStopping) : g.InstsOnly [] (g.both fun s y => s.cat1End y i) ∧ (g.both fun s y => s.cat1End y i).stOf y i = sDemand := by
  refine ⟨Dev.both_inv _ _ (fun v z hv => hv.cat1End z i) g (Dev.instsOnly_refl [] g), ?_⟩
  exact Dev.both_at (fun v => v.instOf y i = g.instOf y i) (fun v => v.stOf y i = sDemand) _ y (fun v z hz hv => (Dev.cat1End_other (.inl hz)).trans hv)
    (fun v hv => congrArg Prod.fst (Dev.cat1End_same ((Dev.stOf_of hv).trans h))) (fun v z hz hv => (Dev.stOf_of (Dev.cat1End_other (.inl hz))).trans hv) g rfl

end

/-- Settles O37: a check that fails locks out the members in the channel that judges it; one that passes is counted; causes clear once their condition has lasted. -/
theorem safetyOutputChecks : Obligations.SafetyOutputChecks := by
  unfold Obligations.SafetyOutputChecks
  intro s d hr
  have hgk : ∀ x, s.dev.Keeps [.time, .safety] [] { s.dev.begin with time := x } := fun x => (Dev.keeps_begin _ _).setTime (by decide) x
  refine ⟨fun y i hi ht hne hm => ?_, fun i h => s.runs_fbFault.of_eq (Dev.fbFault_none (s := s.dev.begin) h), fun j hj hon => ⟨fun y => ?_, fun y rbX rbY c i hrb hi hm hne => ?_⟩,
    fun j y rbX rbY h => s.runs_offPulse.of_eq (Dev.offPulse_off (s := s.dev.begin) h y rbX rbY), ?_, fun i hi h => ?_, fun i hi h => ?_, fun y i hi hst => ?_,
    fun i h => s.runs_cat1Timeout.of_eq (Dev.cat1Timeout_none (s := s.dev.begin) h)⟩
  · obtain ⟨x, hx⟩ := Dev.lastedUs_withTime (s := s.dev.begin) (16 + i) (s.dev.begin.f F.SAFETY_INST_TIME_FB_T i * 1000)
    refine (s.runs_fbFault.of_eq (Dev.fbFault_run (s := s.dev.begin) hi hr ht hm)).does ?_
    rw [Dev.lasted, hx]
    obtain ⟨h1, h2, h3⟩ := Dev.fb_both (g := { s.dev.begin with time := x }) ht hm hne
    have hl := (h1.leaves.mono (by decide)).trans (Dev.safeRefresh_leaves { s.dev.begin with time := x } _)
    obtain ⟨k1, k2⟩ := h2.safeRefresh { s.dev.begin with time := x } hi
    exact ⟨k1, k2, fun c l hl hne => (Dev.safeRefresh_cause _ _ c hl).trans (Dev.causeOf_of (h3 c l hne)), (hgk x).next hl.keeps (by decide)⟩
  · exact s.runs_offPulse.of_eq (Dev.offPulse_follows (s := s.dev.begin) hr hon y)
  · obtain ⟨h1, h2, h3, h4⟩ := Dev.offPulse_locks (s := s.dev.begin) hj hr hon y hrb hi hm hne
    exact s.runs_offPulse.does ⟨h1, h2, h3, h4.of_begin⟩
  · intro j seenX seenY hj hman hdor
    have hruns := s.runs_outtestCheck (pair := j) (seenX := seenX) (seenY := seenY)
    rw [Dev.whenOn_safety (s := s.dev.begin) hman hdor] at hruns
    obtain ⟨x, hx⟩ := Dev.lastedUs_withTime (s := s.dev.begin) (48 + j) 200
    refine ⟨fun ht => ⟨fun h1 h2 => ?_, fun c i hi hb hm hne => ?_⟩, fun ht c i hi hen hon hm hne => ?_⟩
    · refine hruns.of_eq ((Dev.outtestCheck_pass hx (by exact hr) (decide_eq_true ht) h1 h2).trans ?_)
      rw [show d.lastedUs (48 + j) 200 = _ from hx]
      rfl
    · obtain ⟨h1, h2⟩ := Dev.outtestCheck_dark (s := s.dev.begin) hj hx (by exact hr) (decide_eq_true ht) hi hb hm hne
      exact hruns.does ⟨h1.1, h1.2, (hgk x).next h2 (by decide)⟩
    · obtain ⟨h1, h2⟩ := Dev.outtestCheck_stuck (s := s.dev.begin) hj hx (by exact hr) (Dev.flag_off ht) hi hen hon hm hne
      exact hruns.does ⟨h1.1, h1.2, (hgk x).next h2 (by decide)⟩
  · obtain ⟨x, hx⟩ := Dev.clearWait_withTime (s := s.dev.begin) i
    refine (s.runs_safetyCauseClear.of_eq (Dev.causeClear_run (s := s.dev.begin) hi hr)).does ?_
    rw [hx]
    have hall : ∀ y, ∀ j ∈ Dev.pairsOf { s.dev.begin with time := x } y i, Dev.holds { s.dev.begin with time := x } (32 + j) = true := h
    obtain ⟨h1, h2⟩ := Dev.causesCleared_out (g := { s.dev.begin with time := x }) hi hall
    have hl := ((Dev.clearsOut_cleared (g := { s.dev.begin with time := x }) i).leaves.mono (by decide)).trans (Dev.safeRefresh_leaves { s.dev.begin with time := x } _)
    exact ⟨Dev.instCause_bit i _ fun y => (congrArg (bitOf · cOuttest) (Dev.safeRefresh_cause _ _ y hi)).trans (h1 y),
      fun y j hj => (congrArg (bitOf · j) (Dev.safeRefresh_ch _ _ (·.outFail) y)).trans (h2 y j hj), (hgk x).next hl.keeps (by decide)⟩
  · obtain ⟨x, hx⟩ := Dev.clearWait_withTime (s := s.dev.begin) i
    refine (s.runs_safetyCauseClear.of_eq (Dev.causeClear_run (s := s.dev.begin) hi hr)).does ?_
    rw [hx]
    have hl := ((Dev.clearsOut_cleared (g := { s.dev.begin with time := x }) i).leaves.mono (by decide)).trans (Dev.safeRefresh_leaves { s.dev.begin with time := x } _)
    exact ⟨Dev.instCause_bit i _ fun y => (congrArg (bitOf · cFb) (Dev.safeRefresh_cause _ _ y hi)).trans (Dev.causesCleared_fb (g := { s.dev.begin with time := x }) hi h y), (hgk x).next hl.keeps (by decide)⟩
  · obtain ⟨x, hx⟩ := Dev.lastedUs_withTime (s := s.dev.begin) i (s.dev.begin.f F.SAFETY_INST_TIME_CAT1_T i * 1000)
    refine (s.runs_cat1Timeout.of_eq (Dev.cat1Timeout_run (s := s.dev.begin) hi hr hst)).does ?_
    rw [Dev.lasted, hx]
    obtain ⟨h1, h2⟩ := Dev.cat1_both (g := { s.dev.begin with time := x }) (y := y) (i := i) hst
    have hl := (h1.leaves.mono (by decide)).trans (Dev.safeRefresh_leaves { s.dev.begin with time := x } _)
    refine ⟨?_, (hgk x).next hl.keeps (by decide)⟩
    rw [show (Dev.safeRefresh _ _).stOf y i = _ from congrArg Prod.fst (Dev.safeRefresh_inst _ _ y hi), Dev.restarted, if_neg fun e => ?_, h2]
    exact absurd (e.2.1.symm.trans hst) (by decide)

end Sys2Proof.Machine
end

section
/-! Trips, the safety reset, lock release requests, RUN and CONFIG (R324, R330, R334 to R336, R338), and O38. -/

namespace Sys2Proof.Machine

section
variable {s u v was d g : Dev}

/-- A request that is answered by its rule. -/
theorem Dev.served_gives {b : Blk} {o : Nat} {act : Dev → Acted} {st : Status} (h : s.blockStatus b o = .ok) (hg : act s.begin = (st, u)) :
    Acted.dev (s.begin.served b o act) = u.complete st := congrArg Acted.dev ((Dev.served_begin h act).trans hg)

/-- A request that is always accepted. -/
theorem Dev.served_done {b : Blk} {o : Nat} (h : s.blockStatus b o = .ok) (act : Dev → Dev) : Acted.dev (s.begin.served b o fun d => (.ok, act d)) = (act s.begin).complete .ok :=
  congrArg Acted.dev (Dev.served_begin h fun d => (.ok, act d))

/-! ### Trip latches -/

/-- The latches at the end of an event (R330). -/
theorem Dev.safeRefresh_latch (was d : Dev) : (Dev.safeRefresh was d).f F.SAFETY_TRIP_STAT_LATCH =
    Nat.lor (d.f F.SAFETY_TRIP_STAT_LATCH) (Nat.land (d.f F.SAFETY_TRIP_STAT_LEVEL) (d.f F.SAFETY_TRIP_CFG_EN)) % 2 ^ 8 := by
  have hb : d.SafeLeaves btFlds ((Dev.restarts was d).btWatch was) := (Dev.restarts_only.leaves.mono (by decide)).trans Dev.showsOnly_btWatch.leaves
  rw [(Dev.safeRefresh_shows was d).leaves.fld _ _ _ (by decide), Dev.outsOnly_commanded.leaves.fld _ _ _ (by decide)]
  exact (Dev.f_put_same ..).trans (by
    rw [hb.fld F.SAFETY_TRIP_STAT_LATCH 0 0 (by decide), hb.fld F.SAFETY_TRIP_STAT_LEVEL 0 0 (by decide), hb.fld F.SAFETY_TRIP_CFG_EN 0 0 (by decide)]
    rfl)

theorem bitOf_land (a b i : Nat) : bitOf (Nat.land a b) i = (bitOf a i && bitOf b i) := by
  have h : ∀ v, bitOf v i = v.testBit i := fun v => (Nat.testBit_eq_decide_div_mod_eq ..).symm
  rw [h, h, h]
  exact Nat.testBit_and ..

theorem bitOf_zero (i : Nat) : bitOf 0 i = false := by simp [bitOf]

theorem Dev.tripClr_denied {mask : Nat} (h : Nat.land mask (Nat.land (s.f F.SAFETY_TRIP_STAT_LEVEL) (s.f F.SAFETY_TRIP_CFG_EN)) ≠ 0) : s.tripClr mask = (.tripActive, s) := if_pos h

/-- The named latches cleared. -/
def Dev.unlatched (s : Dev) (mask : Nat) : Dev := s.each (bitList 8 mask) fun s k => s.setBit F.SAFETY_TRIP_STAT_LATCH k false

theorem Dev.tripClr_ok {mask : Nat} (h : Nat.land mask (Nat.land (s.f F.SAFETY_TRIP_STAT_LEVEL) (s.f F.SAFETY_TRIP_CFG_EN)) = 0) :
    s.tripClr mask = (.ok, Dev.safeRefresh s (s.unlatched mask)) := if_neg (not_not_intro h)

theorem Dev.unlatched_leaves (mask : Nat) : s.SafeLeaves [F.SAFETY_TRIP_STAT_LATCH] (s.unlatched mask) :=
  (Dev.safeLeaves_refl _ s).each _ _ fun _ k _ hv => hv.befall (F := F.SAFETY_TRIP_STAT_LATCH) (by decide) rfl (fun x => putBit x k false) (by decide)

theorem Dev.unlatched_bit {mask k : Nat} (hk : k < 8) (h : bitOf mask k = true) : bitOf ((s.unlatched mask).f F.SAFETY_TRIP_STAT_LATCH) k = false := by
  refine Dev.each_at (fun _ => True) (fun v => bitOf (v.f F.SAFETY_TRIP_STAT_LATCH) k = false) _ _ (mem_bitList.mpr ⟨hk, h⟩) (fun _ _ _ _ => trivial)
    (fun v _ => Dev.bit_setBit_same v F.SAFETY_TRIP_STAT_LATCH k 0 0 false hk) (fun v m _ hv => ?_) s trivial
  rw [Dev.bit_setBit _ _ _ _ hk, hv, ite_self]

/-- A latch that is cleared stays so while its input is not enabled and active. -/
theorem Dev.unlatched_stays {mask k : Nat} (hk : k < 8) (h : bitOf mask k = true) (ha : Nat.land mask (Nat.land (s.f F.SAFETY_TRIP_STAT_LEVEL) (s.f F.SAFETY_TRIP_CFG_EN)) = 0) :
    bitOf ((Dev.safeRefresh was (s.unlatched mask)).f F.SAFETY_TRIP_STAT_LATCH) k = false := by
  have hact : bitOf (Nat.land (s.f F.SAFETY_TRIP_STAT_LEVEL) (s.f F.SAFETY_TRIP_CFG_EN)) k = false := by
    have := bitOf_land mask (Nat.land (s.f F.SAFETY_TRIP_STAT_LEVEL) (s.f F.SAFETY_TRIP_CFG_EN)) k
    rw [ha, h, bitOf_zero, Bool.true_and] at this
    exact this.symm
  rw [Dev.safeRefresh_latch, bitOf_mod hk, bitOf_lor, Dev.unlatched_bit hk h, (Dev.unlatched_leaves mask).fld F.SAFETY_TRIP_STAT_LEVEL 0 0 (by decide),
    (Dev.unlatched_leaves mask).fld F.SAFETY_TRIP_CFG_EN 0 0 (by decide), hact]
  rfl

/-! ### The safety reset -/

/-- An INST in DEMAND restarts once its lines are closed. -/
def Dev.restartNow (s : Dev) (y : Bool) (i : Nat) : Dev :=
  s.iff (decide (s.stOf y i = sDemand) && true && s.linesClosed y i) fun s => s.instGo y i (if s.parOn y F.SAFETY_INST_CFG_RESTART i then sRun else sReady)

/-- All instances restart, and the reset is counted. -/
def Dev.restartAll (s : Dev) : Dev := s.both fun s y => s.each insts fun s i => s.restartNow y i
def Dev.restartedAll (s : Dev) : Dev := s.restartAll.inc F.SAFETY_CNT_SRST_OK 1

/-- The controller fault ends without a cause; without the fault its cause leaves the instances (R335, R336). -/
def Dev.faultOff (s : Dev) : Dev := s.iff (s.flag F.SAFETY_STAT_CFAULT && !s.flag F.SAFETY_STAT_CCAUSE) fun s => s.put F.SAFETY_STAT_CFAULT 0
def Dev.ctrlOff (s : Dev) : Dev := s.iff (!s.flag F.SAFETY_STAT_CFAULT) fun s => s.each insts fun s i => s.causeGone i cCtrl

/-- What the reset makes of an INST. -/
def Dev.resetInst (s : Dev) (y : Bool) (i : Nat) : Dev :=
  if s.stOf y i = sReady then s.instGo y i sRun
  else if s.stOf y i = sLockout then (if s.instCause i = 0 then s.instGo y i sDemand else s.raise F.SAFETY_STAT_RST_REFUSED)
  else s
def Dev.resetInsts (s : Dev) : Dev := s.both fun s y => s.each insts fun s i => s.resetInst y i

/-- What a safety reset does before the end of the event. -/
def Dev.safetyReset1 (s : Dev) : Dev := s.restartedAll.faultOff.ctrlOff.resetInsts

theorem Dev.srstPulse_stopped (hr : s.safeRun = false) (x y k : Nat) : s.srstPulse x y k = s := if_pos (by rw [hr]; decide)
theorem Dev.srstPulse_long (hr : s.safeRun = true) {x y : Nat} (h : 250000000 < x ∨ 250000000 < y) (k : Nat) : s.srstPulse x y k = s.raise F.SAFETY_STAT_SRST_LONG :=
  (if_neg (not_not_intro hr)).trans (if_pos h)
theorem Dev.srstPulse_short (hr : s.safeRun = true) {x y k : Nat} (hx : x ≤ 250000000) (hy : y ≤ 250000000)
    (h : x < 5000000 ∨ y < 5000000 ∨ s.f F.SAFETY_XCMP_CFG_XCMP_T * 50 < k) : s.srstPulse x y k = s :=
  (if_neg (not_not_intro hr)).trans ((if_neg (by omega)).trans (if_pos h))
theorem Dev.srstPulse_legal (hr : s.safeRun = true) {x y k : Nat} (hx : x ≤ 250000000) (hy : y ≤ 250000000) (hx' : 5000000 ≤ x) (hy' : 5000000 ≤ y)
    (h : k ≤ s.f F.SAFETY_XCMP_CFG_XCMP_T * 50) : s.srstPulse x y k = Dev.safeRefresh s s.safetyReset1 :=
  (if_neg (not_not_intro hr)).trans ((if_neg (by omega)).trans (if_neg (by omega)))

theorem Dev.InstsOnly.restartNow {l : List Fld} (h : s.InstsOnly l u) (y : Bool) (i : Nat) : s.InstsOnly l (u.restartNow y i) := h.iff _ _ fun _ => h.instGo ..

theorem Dev.restartNow_other {y z : Bool} {i k : Nat} (h : Apart2 z k y i) : (s.restartNow z k).instOf y i = s.instOf y i :=
  Dev.iff_keeps s (·.instOf y i) _ _ fun _ => Dev.instGo_other h _

theorem Dev.instGo_cause (y z : Bool) (i k st : Nat) : (s.instGo z k st).causeOf y i = s.causeOf y i :=
  congrArg (fun t => Tab.get 0 t i) (Dev.ch_setCh_of (·.cause) (s := s) (y := z) (c := { s.ch z with st := Tab.set 0 (s.ch z).st k st }) rfl y)

theorem Dev.restartNow_demand {y : Bool} {i : Nat} (h : s.stOf y i = sDemand) (hl : s.linesClosed y i = true) : (s.restartNow y i).stOf y i = sRun ∨ (s.restartNow y i).stOf y i = sReady := by
  have he : s.restartNow y i = s.instGo y i (if s.parOn y F.SAFETY_INST_CFG_RESTART i then sRun else sReady) := by
    rw [Dev.restartNow, decide_eq_true h, hl]
    rfl
  rw [he, show (s.instGo y i _).stOf y i = _ from congrArg Prod.fst (Dev.instGo_same ..)]
  split
  · exact .inl rfl
  · exact .inr rfl

theorem Dev.restartNow_else {y : Bool} {i : Nat} (h : s.stOf y i ≠ sDemand) : s.restartNow y i = s := by
  rw [Dev.restartNow, decide_eq_false h]
  rfl

theorem Dev.restartAll_leaves : s.InstsOnly [F.SAFETY_CNT_SRST_OK] s.restartAll :=
  Dev.both_inv _ _ (fun _ z hv => hv.each _ _ fun _ i _ hw => hw.restartNow z i) s (Dev.instsOnly_refl _ s)

theorem Dev.InstsOnly.inc {l : List Fld} (h : s.InstsOnly l u) {F : Fld} (hF : F ∈ l) (hb : F.blk = .safety) (n : Nat) : s.InstsOnly l (u.inc F n) :=
  h.befall hF hb (fun x => satAdd F.w x n) (by decide)
theorem Dev.instOf_inc (G : Fld) (n : Nat) (y : Bool) (i : Nat) : (s.inc G n).instOf y i = s.instOf y i := Dev.instOf_befall ..

theorem Dev.restartedAll_leaves : s.InstsOnly [F.SAFETY_CNT_SRST_OK] s.restartedAll := Dev.restartAll_leaves.inc (by decide) rfl 1
theorem Dev.restartedAll_inst (y : Bool) (i : Nat) : s.restartedAll.instOf y i = s.restartAll.instOf y i := Dev.instOf_inc F.SAFETY_CNT_SRST_OK 1 y i

theorem Dev.restartedAll_spec : let u := s.restartedAll
    s.InstsOnly [F.SAFETY_CNT_SRST_OK] u ∧ (∀ y i, u.causeOf y i = s.causeOf y i) ∧
    (∀ y i, i < 8 → s.stOf y i ≠ sDemand → u.stOf y i = s.stOf y i) ∧
    ∀ y i, i < 8 → s.stOf y i = sDemand → s.linesClosed y i = true → u.stOf y i = sRun ∨ u.stOf y i = sReady := by
  refine ⟨Dev.restartedAll_leaves,
    fun y i => ?_, fun y i hi h => ?_, fun y i hi h hl => ?_⟩
  · have hstep : ∀ (w : Dev) z k, w.causeOf y i = s.causeOf y i → (w.restartNow z k).causeOf y i = s.causeOf y i := fun w z k hw =>
      (Dev.iff_keeps w (·.causeOf y i) _ _ fun _ => Dev.instGo_cause ..).trans hw
    exact (Dev.causeOf_of (Dev.restartedAll_inst ..)).trans
      (Dev.both_inv (fun v => v.causeOf y i = s.causeOf y i) _ (fun v z hv => Dev.each_inv (fun v => v.causeOf y i = s.causeOf y i) _ _ (fun w k _ hw => hstep w z k hw) v hv) s rfl)
  · refine (Dev.stOf_of (Dev.restartedAll_inst ..)).trans (Dev.cells_once (fun v => v.stOf y i = s.stOf y i) (fun v => v.stOf y i = s.stOf y i) insts _ (mem_insts.mpr hi) insts_nodup
      (fun v z k hk hv => (Dev.stOf_of (Dev.restartNow_other hk)).trans hv) (fun v hv => ?_) (fun v z k hk hv => (Dev.stOf_of (Dev.restartNow_other hk)).trans hv) s rfl)
    rw [Dev.restartNow_else (by rw [hv]; exact h), hv]
  · rw [Dev.stOf_of (Dev.restartedAll_inst ..)]
    refine Dev.cells_once (fun v => s.InstsOnly [] v ∧ v.stOf y i = s.stOf y i) (fun v => v.stOf y i = sRun ∨ v.stOf y i = sReady) insts _ (mem_insts.mpr hi) insts_nodup
      (fun v z k hk hv => ⟨hv.1.restartNow z k, (Dev.stOf_of (Dev.restartNow_other hk)).trans hv.2⟩) (fun v hv => ?_)
      (fun v z k hk hv => by rw [Dev.stOf_of (Dev.restartNow_other hk)]; exact hv) s ⟨Dev.instsOnly_refl [] s, rfl⟩
    exact Dev.restartNow_demand (hv.2.trans h) (((hv.1.leaves.samePar (by decide)).linesClosed y i (hv.1.line y)).trans hl)

theorem putBit_ctrl (v : Nat) : putBit v cCtrl false % 2 ^ 6 = v % 2 ^ 6 := putBits_mod ..

/-- Of the causes only that of the controller has cleared. -/
theorem Dev.causeGone_ctrl (l : Nat) (y : Bool) (i : Nat) : (s.causeGone l cCtrl).causeOf y i % 2 ^ 6 = s.causeOf y i % 2 ^ 6 := by
  rcases eq_or_ne l i with rfl | h
  · have hs := Dev.causeGone_inst_same (s := s) l cCtrl y
    exact (congrArg (·.2 % 2 ^ 6) hs).trans (putBit_ctrl _)
  · have hs := Dev.causeGone_inst_other (s := s) h cCtrl y
    rw [Dev.causeOf_of hs]

theorem Dev.InstsOnly.causeGone {l : List Fld} (h : s.InstsOnly l u) (i c : Nat) : s.InstsOnly l (u.causeGone i c) :=
  Dev.both_inv _ _ (fun _ z hv => hv.setCh z rfl) u h

/-- Of the instances only the cause of the controller has cleared. -/
structure Dev.CtrlGone (s u : Dev) : Prop where
  only   : s.InstsOnly [] u
  clears : s.Clears u
  others : ∀ y i, u.causeOf y i % 2 ^ 6 = s.causeOf y i % 2 ^ 6

theorem Dev.ctrlGone_refl (s : Dev) : s.CtrlGone s := ⟨Dev.instsOnly_refl [] s, Dev.clears_refl s, fun _ _ => rfl⟩
theorem Dev.CtrlGone.causeGone (h : s.CtrlGone u) (l : Nat) : s.CtrlGone (u.causeGone l cCtrl) :=
  ⟨h.only.causeGone l cCtrl, h.clears.causeGone l cCtrl, fun y i => (Dev.causeGone_ctrl l y i).trans (h.others y i)⟩

theorem Dev.ctrlOff_spec : s.CtrlGone s.ctrlOff := by
  unfold Dev.ctrlOff Dev.iff
  split
  · exact Dev.each_inv (fun v => s.CtrlGone v) _ _ (fun _ l _ hv => hv.causeGone l) s (Dev.ctrlGone_refl s)
  · exact Dev.ctrlGone_refl s

theorem Dev.faultOff_leaves : s.InstsOnly [F.SAFETY_STAT_CFAULT] s.faultOff := (Dev.instsOnly_refl _ s).iff _ _ fun _ => (Dev.instsOnly_refl _ s).put (F := F.SAFETY_STAT_CFAULT) (by decide) rfl _ (by decide)
theorem Dev.faultOff_inst (y : Bool) (i : Nat) : s.faultOff.instOf y i = s.instOf y i := Dev.iff_keeps s (·.instOf y i) _ _ fun _ => Dev.instOf_put ..
theorem Dev.faultOff_stays (h : s.f F.SAFETY_STAT_CCAUSE ≠ 0) : s.faultOff = s := by
  rw [Dev.faultOff, Dev.flag, Dev.flag, decide_eq_true h, Bool.not_true, Bool.and_false]
  rfl
theorem Dev.faultOff_ends (h : s.f F.SAFETY_STAT_CCAUSE = 0) : s.faultOff.f F.SAFETY_STAT_CFAULT = 0 := by
  by_cases hf : s.f F.SAFETY_STAT_CFAULT = 0
  · rw [Dev.faultOff, show s.flag F.SAFETY_STAT_CFAULT = false from decide_eq_false (not_not_intro hf)]
    exact hf
  · rw [Dev.faultOff, show s.flag F.SAFETY_STAT_CFAULT = true from decide_eq_true hf, show s.flag F.SAFETY_STAT_CCAUSE = false from decide_eq_false (not_not_intro h)]
    exact Dev.f_put_same ..

theorem Dev.InstsOnly.resetInst {l : List Fld} (h : s.InstsOnly l u) (hl : F.SAFETY_STAT_RST_REFUSED ∈ l) (y : Bool) (i : Nat) : s.InstsOnly l (u.resetInst y i) :=
  .ite _ (fun _ => h.instGo ..) fun _ => .ite _ (fun _ => .ite _ (fun _ => h.instGo ..) fun _ => h.befall hl rfl _ (by decide)) fun _ => h

theorem Dev.resetInst_cause (y z : Bool) (i k : Nat) : (s.resetInst z k).causeOf y i = s.causeOf y i := by
  unfold Dev.resetInst
  split
  · exact Dev.instGo_cause ..
  · split
    · split
      · exact Dev.instGo_cause ..
      · exact Dev.causeOf_of (Dev.instOf_befall ..)
    · rfl

theorem Dev.resetInst_other {y z : Bool} {i k : Nat} (h : Apart2 z k y i) : (s.resetInst z k).stOf y i = s.stOf y i := by
  unfold Dev.resetInst
  split
  · exact Dev.stOf_of (Dev.instGo_other h _)
  · split
    · split
      · exact Dev.stOf_of (Dev.instGo_other h _)
      · exact Dev.stOf_of (Dev.instOf_befall ..)
    · rfl

theorem Dev.resetInst_refused (h : s.f F.SAFETY_STAT_RST_REFUSED = 1) (z : Bool) (k : Nat) : (s.resetInst z k).f F.SAFETY_STAT_RST_REFUSED = 1 := by
  have hgo : ∀ st, (s.instGo z k st).f F.SAFETY_STAT_RST_REFUSED = 1 := fun st => (((Dev.instsOnly_refl [] s).instGo z k st).leaves.fld _ _ _ (by decide)).trans h
  unfold Dev.resetInst
  split
  · exact hgo _
  · split
    · split
      · exact hgo _
      · exact Dev.f_raise_same ..
    · exact h

theorem Dev.resetInst_ready {y : Bool} {i : Nat} (h : s.stOf y i = sReady) : (s.resetInst y i).stOf y i = sRun := by
  rw [Dev.resetInst, if_pos h]
  exact congrArg Prod.fst (Dev.instGo_same ..)
theorem Dev.resetInst_locked {y : Bool} {i : Nat} (h : s.stOf y i = sLockout) : s.resetInst y i = if s.instCause i = 0 then s.instGo y i sDemand else s.raise F.SAFETY_STAT_RST_REFUSED := by
  rw [Dev.resetInst, if_neg (by rw [h]; decide), if_pos h]
theorem Dev.resetInst_run {y : Bool} {i : Nat} (h : s.stOf y i = sRun) : s.resetInst y i = s := by
  rw [Dev.resetInst, if_neg (by rw [h]; decide), if_neg (by rw [h]; decide)]

theorem Dev.instCause_congr (i : Nat) (h : ∀ y, u.causeOf y i = s.causeOf y i) : u.instCause i = s.instCause i := by rw [Dev.instCause, h, h]; rfl

/-- What the reset makes of an INST, at the end of its turn and after that of the others. -/
theorem Dev.resetInsts_at {y : Bool} {i : Nat} (hi : i < 8) (Q : Dev → Prop) (hQ : ∀ v : Dev, v.stOf y i = s.stOf y i → v.instCause i = s.instCause i → Q (v.resetInst y i))
    (hk : ∀ (v : Dev) z k, Apart2 z k y i → Q v → Q (v.resetInst z k)) : Q s.resetInsts :=
  Dev.cells_once (fun v => v.stOf y i = s.stOf y i ∧ ∀ z, v.causeOf z i = s.causeOf z i) Q insts _ (mem_insts.mpr hi) insts_nodup
    (fun _ z k hk hv => ⟨(Dev.resetInst_other hk).trans hv.1, fun c => (Dev.resetInst_cause c z i k).trans (hv.2 c)⟩)
    (fun v hv => hQ v hv.1 (Dev.instCause_congr i hv.2)) hk s ⟨rfl, fun _ => rfl⟩

theorem Dev.resetInsts_st {y : Bool} {i : Nat} (hi : i < 8) {st : Nat} (hQ : ∀ v : Dev, v.stOf y i = s.stOf y i → v.instCause i = s.instCause i → (v.resetInst y i).stOf y i = st) :
    s.resetInsts.stOf y i = st :=
  Dev.resetInsts_at hi (fun v => v.stOf y i = st) hQ fun _ _ _ hk hv => (Dev.resetInst_other hk).trans hv

theorem Dev.resetInsts_goes {y : Bool} {i : Nat} (hi : i < 8) (h : s.stOf y i = sReady ∨ s.stOf y i = sRun) : s.resetInsts.stOf y i = sRun :=
  Dev.resetInsts_st hi fun v hv _ => by
    rcases h with h | h
    · exact Dev.resetInst_ready (hv.trans h)
    · rw [Dev.resetInst_run (hv.trans h), hv, h]

theorem Dev.resetInsts_clears {y : Bool} {i : Nat} (hi : i < 8) (h : s.stOf y i = sLockout) (hc : s.instCause i = 0) : s.resetInsts.stOf y i = sDemand :=
  Dev.resetInsts_st hi fun v hv hvc => by
    rw [Dev.resetInst_locked (hv.trans h), if_pos (hvc.trans hc)]
    exact congrArg Prod.fst (Dev.instGo_same ..)

theorem Dev.resetInsts_refuses {y : Bool} {i : Nat} (hi : i < 8) (h : s.stOf y i = sLockout) (hc : s.instCause i ≠ 0) :
    s.resetInsts.stOf y i = sLockout ∧ s.resetInsts.f F.SAFETY_STAT_RST_REFUSED = 1 := by
  refine Dev.resetInsts_at hi (fun v => v.stOf y i = sLockout ∧ v.f F.SAFETY_STAT_RST_REFUSED = 1) (fun v hv hvc => ?_)
    fun v z k hk hv => ⟨(Dev.resetInst_other hk).trans hv.1, Dev.resetInst_refused hv.2 z k⟩
  rw [Dev.resetInst_locked (hv.trans h), if_neg (by rw [hvc]; exact hc)]
  exact ⟨(Dev.stOf_of (Dev.instOf_befall ..)).trans (hv.trans h), Dev.f_raise_same ..⟩

theorem Dev.instCause_zero {i : Nat} : s.instCause i = 0 ↔ ∀ y, s.causeOf y i = 0 := by
  rw [Dev.instCause]
  refine ⟨fun h => ?_, fun h => by rw [h, h]; rfl⟩
  obtain ⟨h1, h2⟩ := Nat.or_eq_zero_iff.mp h
  exact fun y => by cases y <;> assumption

theorem Dev.instCause_mod {i : Nat} (h : ∀ y, u.causeOf y i % 2 ^ 6 = s.causeOf y i % 2 ^ 6) : u.instCause i % 2 ^ 6 = s.instCause i % 2 ^ 6 := by
  rw [Dev.instCause, Dev.instCause]
  exact (Nat.or_mod_two_pow ..).trans ((by rw [h, h] : _ ||| _ = _).trans (Nat.or_mod_two_pow ..).symm)

def srstFlds : List Fld := [F.SAFETY_CNT_SRST_OK, F.SAFETY_STAT_CFAULT, F.SAFETY_STAT_RST_REFUSED]

/-- Before the last turn of the instances. -/
def Dev.resetReady (s : Dev) : Dev := s.restartedAll.faultOff.ctrlOff

theorem Dev.resetReady_leaves : s.InstsOnly srstFlds s.resetReady :=
  ((Dev.restartedAll_spec.1.mono (by decide)).trans (Dev.faultOff_leaves.mono (by decide))).trans (Dev.ctrlOff_spec.only.mono (by decide))

theorem Dev.resetReady_st (y : Bool) (i : Nat) : s.resetReady.stOf y i = s.restartedAll.stOf y i := (Dev.ctrlOff_spec.clears.stOf y i).trans (Dev.stOf_of (Dev.faultOff_inst y i))

theorem Dev.resetReady_zero {i : Nat} (h : s.instCause i = 0) : s.resetReady.instCause i = 0 :=
  Dev.instCause_zero.mpr fun y => Dev.ctrlOff_spec.clears.zero y i (by rw [Dev.causeOf_of (Dev.faultOff_inst y i), Dev.restartedAll_spec.2.1, Dev.instCause_zero.mp h])

theorem Dev.resetReady_mod (i : Nat) : s.resetReady.instCause i % 2 ^ 6 = s.instCause i % 2 ^ 6 :=
  Dev.instCause_mod fun y => (Dev.ctrlOff_spec.others y i).trans (by rw [Dev.causeOf_of (Dev.faultOff_inst y i), Dev.restartedAll_spec.2.1])

theorem Dev.resetInsts_leaves : s.InstsOnly [F.SAFETY_STAT_RST_REFUSED] s.resetInsts :=
  Dev.both_inv _ _ (fun _ z hv => hv.each _ _ fun _ i _ hw => hw.resetInst (by decide) z i) s (Dev.instsOnly_refl _ s)

theorem Dev.safetyReset1_leaves : s.InstsOnly srstFlds s.safetyReset1 := Dev.resetReady_leaves.trans (Dev.resetInsts_leaves.mono (by decide))

theorem Dev.safetyReset1_fault : s.safetyReset1.f F.SAFETY_STAT_CFAULT = s.restartedAll.faultOff.f F.SAFETY_STAT_CFAULT :=
  (Dev.resetInsts_leaves.leaves.fld _ _ _ (by decide)).trans (Dev.ctrlOff_spec.only.leaves.fld _ _ _ (by decide))

/-! ### Lock release -/

/-- A demand of a GUARD INST whose request bit is set anew (R324). -/
def Dev.reqDemand (v old : Nat) (s : Dev) (y : Bool) (i : Nat) : Dev :=
  s.iff (bitOf v i && !bitOf old i && decide (s.instType y i = 2) && decide (s.stOf y i = sRun)) fun s => s.instDemand y i
def Dev.reqDemands (s : Dev) (v old : Nat) : Dev := s.both fun s y => s.each insts fun s i => Dev.reqDemand v old s y i

theorem Dev.instReqWrite_eq (v : Nat) : let g := s.put F.SAFETY_INST_REQ_REQ v
    s.instReqWrite v = Dev.safeRefresh s (g.iff g.safeRun fun g => g.reqDemands v (s.f F.SAFETY_INST_REQ_REQ)) := rfl

theorem Dev.put_safeRun {G : Fld} (h : F.SAFETY_STAT_MODE.apart G = true) (x : Nat) : (s.put G x).safeRun = s.safeRun := by
  rw [Dev.safeRun, Dev.flag, Dev.f_put_apart _ _ _ _ _ _ h]
  rfl

theorem Dev.instReqWrite_run (hr : s.safeRun = true) (v : Nat) :
    s.instReqWrite v = Dev.safeRefresh s ((s.put F.SAFETY_INST_REQ_REQ v).reqDemands v (s.f F.SAFETY_INST_REQ_REQ)) := by
  rw [Dev.instReqWrite_eq, Dev.put_safeRun (by decide), hr]
  rfl

theorem Dev.instReqWrite_stopped (hr : s.safeRun = false) (v : Nat) : s.instReqWrite v = Dev.safeRefresh s (s.put F.SAFETY_INST_REQ_REQ v) := by
  rw [Dev.instReqWrite_eq, Dev.put_safeRun (by decide), hr]
  rfl

theorem Dev.InstsOnly.reqDemand {l : List Fld} (h : s.InstsOnly l u) (v old : Nat) (y : Bool) (i : Nat) : s.InstsOnly l (Dev.reqDemand v old u y i) := h.iff _ _ fun _ => h.instDemand ..

theorem Dev.reqDemands_leaves (v old : Nat) : s.InstsOnly [] (s.reqDemands v old) :=
  Dev.both_inv _ _ (fun _ z hv => hv.each _ _ fun _ i _ hw => hw.reqDemand v old z i) s (Dev.instsOnly_refl _ s)

theorem Dev.reqDemand_other (n old : Nat) {y z : Bool} {i k : Nat} (h : Apart2 z k y i) : (Dev.reqDemand n old s z k).stOf y i = s.stOf y i :=
  Dev.stOf_of (Dev.iff_keeps s (·.instOf y i) _ _ fun _ => Dev.instDemand_other h)

theorem Dev.reqDemand_run {n old : Nat} {y : Bool} {i : Nat} (hn : bitOf n i = true) (ho : bitOf old i = false) (ht : s.instType y i = 2) (h : s.stOf y i = sRun) :
    (Dev.reqDemand n old s y i).stOf y i = if s.parOn y F.SAFETY_INST_CFG_STOP_CAT i then sStopping else sDemand := by
  rw [Dev.reqDemand, hn, ho, decide_eq_true ht, decide_eq_true h]
  exact congrArg Prod.fst (Dev.instDemand_run h)

theorem Dev.reqDemands_st {n old : Nat} {y : Bool} {i : Nat} (hi : i < 8) (hn : bitOf n i = true) (ho : bitOf old i = false) (ht : s.instType y i = 2) (h : s.stOf y i = sRun) :
    (s.reqDemands n old).stOf y i = if s.parOn y F.SAFETY_INST_CFG_STOP_CAT i then sStopping else sDemand := by
  refine Dev.cells_once (fun v => s.InstsOnly [] v ∧ v.stOf y i = s.stOf y i) (fun v => v.stOf y i = if s.parOn y F.SAFETY_INST_CFG_STOP_CAT i then sStopping else sDemand) insts _
    (mem_insts.mpr hi) insts_nodup (fun v z k hk hv => ⟨hv.1.reqDemand n old z k, (Dev.reqDemand_other n old hk).trans hv.2⟩) (fun v hv => ?_)
    (fun v z k hk hv => (Dev.reqDemand_other n old hk).trans hv) s ⟨Dev.instsOnly_refl [] s, rfl⟩
  have hp := hv.1.leaves.samePar (by decide)
  rw [Dev.reqDemand_run hn ho ((hp.instType y i).trans ht) (hv.2.trans h), hp.parOn y i (by decide)]

/-! ### RUN and CONFIG -/

/-- A channel's copy of the parameters passes its checks (R338). -/
def parsGood (t : Tab Nat) : Bool := decide (paramCrc t = parFld t F.SAFETY_PARAM_CRC_CRC) && paramChecks t

/-- An INST at the start: configured ones wait in DEMAND, others are inactive. -/
def Dev.startInst (s : Dev) (y : Bool) (i : Nat) : Dev :=
  if s.stOf y i = sInactive ∧ s.instType y i ≠ 0 then s.instGo y i sDemand
  else if s.stOf y i = sDemand ∧ s.instType y i = 0 then s.instGo y i sInactive
  else s
def Dev.startInsts (s : Dev) : Dev := s.both fun s y => s.each insts fun s i => s.startInst y i

/-- The controller started. -/
def Dev.drive (s : Dev) : Dev := { s with safe := { s.safe with driven := true } }
def Dev.started (s : Dev) : Dev := (s.drive.put F.SAFETY_CTL_RUN 1).put F.SAFETY_STAT_MODE 1

theorem Dev.driven_put (G : Fld) (x : Nat) : (s.put G x).safe.driven = s.safe.driven := (congrArg Safe.driven (Dev.safe_put s G x 0 0) : _)
theorem Dev.yPar_put (G : Fld) (x : Nat) : (s.put G x).safe.yPar = s.safe.yPar := (congrArg Safe.yPar (Dev.safe_put s G x 0 0) : _)

theorem Dev.safetyRun_runs (hr : s.safeRun = true) : s.safetyRun = (.ok, s) := if_pos hr
theorem Dev.safetyRun_bad (hr : s.safeRun = false) (h : (parsGood s.safe.regs && parsGood s.safe.yPar) = false) : s.safetyRun = (.invalid, s) :=
  (if_neg (Bool.eq_false_iff.mp hr)).trans (if_neg (Bool.eq_false_iff.mp h))
theorem Dev.safetyRun_good (hr : s.safeRun = false) (h : (parsGood s.safe.regs && parsGood s.safe.yPar) = true) : s.safetyRun = (.ok, Dev.safeRefresh s s.started.startInsts) :=
  (if_neg (Bool.eq_false_iff.mp hr)).trans (if_pos h)

theorem Dev.InstsOnly.startInst {l : List Fld} (h : s.InstsOnly l u) (y : Bool) (i : Nat) : s.InstsOnly l (u.startInst y i) :=
  .ite _ (fun _ => h.instGo ..) fun _ => .ite _ (fun _ => h.instGo ..) fun _ => h

theorem Dev.startInsts_leaves : s.InstsOnly [] s.startInsts := Dev.both_inv _ _ (fun _ z hv => hv.each _ _ fun _ i _ hw => hw.startInst z i) s (Dev.instsOnly_refl _ s)

theorem Dev.startInst_other {y z : Bool} {i k : Nat} (h : Apart2 z k y i) : (s.startInst z k).stOf y i = s.stOf y i := by
  unfold Dev.startInst
  split
  · exact Dev.stOf_of (Dev.instGo_other h _)
  · split
    · exact Dev.stOf_of (Dev.instGo_other h _)
    · rfl

theorem Dev.startInsts_st {y : Bool} {i : Nat} (hi : i < 8) {st : Nat} (hQ : ∀ v : Dev, v.stOf y i = s.stOf y i → v.instType y i = s.instType y i → (v.startInst y i).stOf y i = st) :
    s.startInsts.stOf y i = st := by
  refine Dev.cells_once (fun v => s.InstsOnly [] v ∧ v.stOf y i = s.stOf y i) (fun v => v.stOf y i = st) insts _ (mem_insts.mpr hi) insts_nodup
    (fun v z k hk hv => ⟨hv.1.startInst z k, (Dev.startInst_other hk).trans hv.2⟩) (fun v hv => hQ v hv.2 ((hv.1.leaves.samePar (by decide)).instType y i))
    (fun v z k hk hv => (Dev.startInst_other hk).trans hv) s ⟨Dev.instsOnly_refl [] s, rfl⟩

theorem Dev.startInsts_demand {y : Bool} {i : Nat} (hi : i < 8) (h : s.stOf y i = sInactive) (ht : s.instType y i ≠ 0) : s.startInsts.stOf y i = sDemand :=
  Dev.startInsts_st hi fun v hv hvt => by
    rw [Dev.startInst, if_pos ⟨hv.trans h, hvt ▸ ht⟩]
    exact congrArg Prod.fst (Dev.instGo_same ..)

theorem Dev.startInsts_inactive {y : Bool} {i : Nat} (hi : i < 8) (h : s.stOf y i = sInactive ∨ s.stOf y i = sDemand) (ht : s.instType y i = 0) : s.startInsts.stOf y i = sInactive :=
  Dev.startInsts_st hi fun v hv hvt => by
    rw [Dev.startInst, if_neg fun e => e.2 (hvt.trans ht)]
    split
    · exact congrArg Prod.fst (Dev.instGo_same ..)
    · rename_i hn
      rcases h with h | h
      · exact hv.trans h
      · exact absurd ⟨hv.trans h, hvt.trans ht⟩ hn

theorem Dev.started_ch (y : Bool) : s.started.ch y = s.ch y := (Dev.ch_put ..).trans ((Dev.ch_put ..).trans (by cases y <;> rfl))
theorem Dev.started_st (y : Bool) (i : Nat) : s.started.stOf y i = s.stOf y i := by rw [Dev.stOf, Dev.started_ch]; rfl

theorem Dev.started_driven : s.started.safe.driven = true := (Dev.driven_put ..).trans (Dev.driven_put (s := s.drive) ..)

theorem Dev.started_type (y : Bool) (i : Nat) : s.started.instType y i = s.instType y i := by
  cases y
  · refine (Dev.f_put_apart _ _ _ _ _ _ (by decide)).trans ((Dev.f_put_apart _ _ _ _ _ _ (by decide)).trans ?_)
    exact Dev.f_setSafe (u := s) (x := { s.safe with driven := true }) rfl F.SAFETY_INST_CFG_TYPE i 0
  · exact congrArg (fun t => parFld t F.SAFETY_INST_CFG_TYPE i) ((Dev.yPar_put ..).trans (Dev.yPar_put (s := s.drive) ..))

theorem Dev.started_run : s.started.safeRun = true ∧ s.started.f F.SAFETY_CTL_RUN = 1 :=
  ⟨decide_eq_true ((Dev.f_put_same ..).trans_ne (by decide)), (Dev.f_put_apart _ _ _ _ _ _ (by decide)).trans (Dev.f_put_same ..)⟩

theorem Dev.Keeps.started {own : List Blk} {outs : List Out} (h : s.Keeps own outs u) (hb : .safety ∈ own) : s.Keeps own outs u.started :=
  ((h.setSafe hb { u.safe with driven := true }).put (G := F.SAFETY_CTL_RUN) hb 1 0 0).put (G := F.SAFETY_STAT_MODE) hb 1 0 0

/-- The controller in CONFIG. -/
def Dev.stoppedCtl (s : Dev) : Dev := (s.put F.SAFETY_CTL_RUN 0).put F.SAFETY_STAT_MODE 0

theorem Dev.safetyConfig_busy (hr : s.safeRun = true) {y : Bool} {i : Nat} (hi : i < 8) (h : s.stOf y i = sReady ∨ s.stOf y i = sRun ∨ s.stOf y i = sStopping) : s.safetyConfig = (.busy, s) := by
  refine if_pos ⟨hr, List.any_eq_true.mpr ⟨y, by cases y <;> decide, List.any_eq_true.mpr ⟨i, mem_insts.mpr hi, ?_⟩⟩⟩
  rcases h with h | h | h <;> rw [Dev.instGoes, h] <;> decide

theorem Dev.safetyConfig_ok (h : s.safeRun = false ∨ ∀ y i, i < 8 → s.instGoes y i = false ∧ s.stOf y i ≠ sReady) : s.safetyConfig = (.ok, Dev.safeRefresh s s.stoppedCtl) := by
  refine if_neg fun ⟨hr, ha⟩ => ?_
  rcases h with h | h
  · exact absurd (hr.symm.trans h) (by decide)
  · obtain ⟨y, -, ha⟩ := List.any_eq_true.mp ha
    obtain ⟨i, hi, ha⟩ := List.any_eq_true.mp ha
    obtain ⟨h1, h2⟩ := h y i (mem_insts.mp hi)
    rw [h1, decide_eq_false h2] at ha
    exact absurd ha (by decide)

theorem Dev.stoppedCtl_run : s.stoppedCtl.safeRun = false ∧ s.stoppedCtl.f F.SAFETY_CTL_RUN = 0 :=
  ⟨decide_eq_false (not_not_intro (Dev.f_put_same ..)), (Dev.f_put_apart _ _ _ _ _ _ (by decide)).trans (Dev.f_put_same ..)⟩
theorem Dev.stoppedCtl_st (y : Bool) (i : Nat) : s.stoppedCtl.stOf y i = s.stOf y i := by rw [Dev.stOf, Dev.stoppedCtl, Dev.ch_put, Dev.ch_put]; rfl

/-- An INST that was not in DEMAND, or whose controller stands, ends in the state that the event gave it. -/
theorem Dev.safeRefresh_new {y : Bool} {i : Nat} (hi : i < 8) (h : was.stOf y i ≠ sDemand ∨ d.safeRun = false) : (Dev.safeRefresh was d).stOf y i = d.stOf y i := by
  refine (congrArg Prod.fst (Dev.safeRefresh_inst was d y hi)).trans (if_neg fun ⟨hr, hw, _⟩ => ?_)
  rcases h with h | h
  · exact h hw
  · exact absurd (hr.symm.trans h) (by decide)

/-! ### The ends of the events -/

/-- Of a safety reset: what goes, clears and is refused. -/
theorem Dev.safetyReset_instances {i : Nat} (hi : i < 8) (c : Bool) : let u := Dev.safeRefresh s s.safetyReset1
    (s.stOf c i = sReady ∨ (s.stOf c i = sDemand ∧ s.linesClosed c i = true) → u.stOf c i = sRun) ∧
    (s.stOf c i = sLockout → s.instCause i = 0 → u.stOf c i = sDemand) ∧
    (s.stOf c i = sLockout → s.instCause i % 2 ^ 6 ≠ 0 → u.stOf c i = sLockout ∧ u.f F.SAFETY_STAT_RST_REFUSED = 1) := by
  obtain ⟨-, -, hne, hdem⟩ := Dev.restartedAll_spec (s := s)
  have hlock : s.stOf c i = sLockout → s.stOf c i ≠ sDemand ∧ s.resetReady.stOf c i = sLockout := fun h => by
    have h' : s.stOf c i ≠ sDemand := by rw [h]; decide
    exact ⟨h', (Dev.resetReady_st c i).trans ((hne c i hi h').trans h)⟩
  refine ⟨fun h => ?_, fun h hc => ?_, fun h hc => ?_⟩
  · have hgo : s.safetyReset1.stOf c i = sRun := Dev.resetInsts_goes (s := s.resetReady) hi (by
      rw [Dev.resetReady_st]
      rcases h with h | ⟨h, hc⟩
      · exact .inl ((hne c i hi (by rw [h]; decide)).trans h)
      · exact (hdem c i hi h hc).symm)
    exact (Dev.safeRefresh_st s _ c hi (by rw [hgo]; decide)).trans hgo
  · exact (Dev.safeRefresh_new hi (.inl (hlock h).1)).trans (Dev.resetInsts_clears (s := s.resetReady) hi (hlock h).2 (Dev.resetReady_zero hc))
  · obtain ⟨h1, h2⟩ := Dev.resetInsts_refuses (s := s.resetReady) hi (hlock h).2 fun h0 => hc ((Dev.resetReady_mod (s := s) i).symm.trans (by rw [h0, Nat.zero_mod]))
    exact ⟨(Dev.safeRefresh_new hi (.inl (hlock h).1)).trans h1, ((Dev.safeRefresh_leaves s s.safetyReset1).fld _ _ _ (by decide)).trans h2⟩

theorem Dev.safetyReset_fault : let u := Dev.safeRefresh s s.safetyReset1
    (s.f F.SAFETY_STAT_CCAUSE ≠ 0 → u.f F.SAFETY_STAT_CFAULT = s.f F.SAFETY_STAT_CFAULT) ∧ (s.f F.SAFETY_STAT_CCAUSE = 0 → u.f F.SAFETY_STAT_CFAULT = 0) := by
  have hl : (Dev.safeRefresh s s.safetyReset1).f F.SAFETY_STAT_CFAULT = s.restartedAll.faultOff.f F.SAFETY_STAT_CFAULT :=
    ((Dev.safeRefresh_leaves s s.safetyReset1).fld _ _ _ (by decide)).trans Dev.safetyReset1_fault
  have hr : ∀ G : Fld, G.outside F.SAFETY_CNT_SRST_OK = true → s.restartedAll.f G = s.f G := fun G hG =>
    Dev.restartedAll_leaves.leaves.fld G 0 0 fun E hE => by rw [List.mem_singleton.mp hE]; exact hG
  refine ⟨fun hc => ?_, fun hc => hl.trans (Dev.faultOff_ends ((hr _ (by decide)).trans hc))⟩
  rw [Dev.faultOff_stays (by rw [hr _ (by decide)]; exact hc)] at hl
  exact hl.trans (hr _ (by decide))

theorem Dev.safetyReset_keeps : s.Keeps [.safety] s.out (Dev.safeRefresh s s.safetyReset1) :=
  Dev.safetyReset1_leaves.leaves.keeps.next (Dev.safeRefresh_leaves s s.safetyReset1).keeps (by decide)

/-- Of a request that releases a lock. -/
theorem Dev.instReqWrite_ends {n i : Nat} {y : Bool} (hi : i < 8) (hr : s.safeRun = true) (ht : s.instType y i = 2) (hn : bitOf n i = true) (hq : s.instReq i = false) (hst : s.stOf y i = sRun) :
    let u := s.instReqWrite n
    u.f F.SAFETY_INST_REQ_REQ = n % 256 ∧ u.stOf y i = (if s.parOn y F.SAFETY_INST_CFG_STOP_CAT i then sStopping else sDemand) ∧ s.Keeps [.safety] s.out u := by
  have hpl : s.SafeLeaves [F.SAFETY_INST_REQ_REQ] (s.put F.SAFETY_INST_REQ_REQ n) := (Dev.safeLeaves_refl _ s).put (F := F.SAFETY_INST_REQ_REQ) (by decide) rfl n (by decide)
  have hp := hpl.samePar (by decide)
  have hput : (s.put F.SAFETY_INST_REQ_REQ n).stOf y i = s.stOf y i := Dev.stOf_of (Dev.instOf_put ..)
  have hf : (s.put F.SAFETY_INST_REQ_REQ n).f F.SAFETY_INST_REQ_REQ = n % 256 := Dev.f_put_same ..
  have hd := (Dev.reqDemands_leaves (s := s.put F.SAFETY_INST_REQ_REQ n) n (s.f F.SAFETY_INST_REQ_REQ)).leaves
  have hnew := Dev.reqDemands_st (s := s.put F.SAFETY_INST_REQ_REQ n) (old := s.f F.SAFETY_INST_REQ_REQ) hi hn hq ((hp.instType y i).trans ht) (hput.trans hst)
  rw [hp.parOn y i (by decide)] at hnew
  rw [Dev.instReqWrite_run hr]
  generalize (s.put F.SAFETY_INST_REQ_REQ n).reqDemands n (s.f F.SAFETY_INST_REQ_REQ) = v at hd hnew
  have hl := Dev.safeRefresh_leaves s v
  exact ⟨(hl.fld _ _ _ (by decide)).trans ((hd.fld _ _ _ (by decide)).trans hf), (Dev.safeRefresh_new hi (.inl (by rw [hst]; decide))).trans hnew,
    (hpl.keeps.next hd.keeps (by decide)).next hl.keeps (by decide)⟩

/-- Of a start. -/
theorem Dev.safetyRun_ends : let u := Dev.safeRefresh s s.started.startInsts
    u.safeRun = true ∧ u.f F.SAFETY_CTL_RUN = 1 ∧ u.safe.driven = true ∧ (∀ y i, i < 8 → s.stOf y i = sInactive → s.instType y i ≠ 0 → u.stOf y i = sDemand) ∧
      (∀ y i, i < 8 → s.stOf y i = sInactive ∨ s.stOf y i = sDemand → s.instType y i = 0 → u.stOf y i = sInactive) ∧ s.Keeps [.safety] s.out u := by
  obtain ⟨hrun, hctl⟩ := Dev.started_run (s := s)
  have hk : s.Keeps [.safety] s.out s.started := (Dev.keeps_refl _ s).started (by decide)
  have hs := (Dev.startInsts_leaves (s := s.started)).leaves
  have hdem : ∀ y i, i < 8 → s.stOf y i = sInactive → s.instType y i ≠ 0 → s.started.startInsts.stOf y i = sDemand := fun y i hi h ht =>
    Dev.startInsts_demand hi ((Dev.started_st y i).trans h) ((Dev.started_type y i).trans_ne ht)
  have hin : ∀ y i, i < 8 → s.stOf y i = sInactive ∨ s.stOf y i = sDemand → s.instType y i = 0 → s.started.startInsts.stOf y i = sInactive := fun y i hi h ht =>
    Dev.startInsts_inactive hi (by rw [Dev.started_st]; exact h) ((Dev.started_type y i).trans ht)
  have hdr := Dev.started_driven (s := s)
  generalize s.started.startInsts = v at hs hdem hin
  have hl := Dev.safeRefresh_leaves s v
  refine ⟨(Dev.safeRefresh_run s v).trans ((hs.flag (G := F.SAFETY_STAT_MODE) (by decide) 0 0).trans hrun), (hl.fld _ _ _ (by decide)).trans ((hs.fld _ _ _ (by decide)).trans hctl),
    (congrArg (·.2.1) (hl.core.trans hs.core)).trans hdr, fun y i hi h ht => (Dev.safeRefresh_new hi (.inl (by rw [h]; decide))).trans (hdem y i hi h ht), fun y i hi h ht => ?_,
    (hk.next hs.keeps (by decide)).next hl.keeps (by decide)⟩
  have := hin y i hi h ht
  exact (Dev.safeRefresh_st s v y hi (by rw [this]; decide)).trans this

/-- Of the change to CONFIG. -/
theorem Dev.safetyConfig_ends : let u := Dev.safeRefresh s s.stoppedCtl
    u.safeRun = false ∧ u.f F.SAFETY_CTL_RUN = 0 ∧ (∀ j, j < 4 → u.f F.SAFETY_OUT_STAT_ON j = 0) ∧ ∀ y i, i < 8 → u.stOf y i = s.stOf y i := by
  obtain ⟨h1, h2⟩ := Dev.stoppedCtl_run (s := s)
  have hst := Dev.stoppedCtl_st (s := s)
  generalize s.stoppedCtl = v at h1 h2 hst
  exact ⟨(Dev.safeRefresh_run s v).trans h1, ((Dev.safeRefresh_leaves s v).fld _ _ _ (by decide)).trans h2, (Dev.safeRefresh_off s v (.inl h1)).1,
    fun y i hi => (Dev.safeRefresh_new hi (.inr h1)).trans (hst y i)⟩

end

/-- Settles O38: a request acts on the instances one by one; the end of the event then restarts only what was in DEMAND before it. -/
theorem safetyCommands : Obligations.SafetyCommands := by
  unfold Obligations.SafetyCommands
  intro s d
  refine ⟨fun k high hk hm hd => s.runs_tripInput.of_eq (Dev.whenOn_safety (s := s.dev.begin) hm hd _), fun mask hok => ?_, fun x y skew hr => ?_,
    fun x y skew hr => s.runs_srstPulse.of_eq (Dev.srstPulse_stopped (s := s.dev.begin) hr x y skew), fun v y i hi hok hr ht hv hq hst => ?_, fun v hok hr => ?_, fun hok => ?_⟩
  · refine ⟨fun h => s.runs_tripClr.of_eq (Dev.served_gives hok (Dev.tripClr_denied (s := s.dev.begin) h)), fun h => ?_⟩
    have hrun : s.Runs (.tripClr mask) (Dev.complete (Dev.safeRefresh s.dev.begin (s.dev.begin.unlatched mask)) .ok) :=
      s.runs_tripClr.of_eq (Dev.served_gives hok (Dev.tripClr_ok (s := s.dev.begin) h))
    have hl := ((Dev.unlatched_leaves (s := s.dev.begin) mask).mono (by decide)).trans (Dev.safeRefresh_leaves s.dev.begin (s.dev.begin.unlatched mask))
    have hbit := fun k (hk : k < 8) hm => Dev.unlatched_stays (was := s.dev.begin) (s := s.dev.begin) hk hm h
    generalize Dev.safeRefresh s.dev.begin (s.dev.begin.unlatched mask) = u at hrun hl hbit
    exact hrun.does ⟨rfl, hbit, (hl.keeps.complete .ok).of_begin⟩
  · refine ⟨fun h => s.runs_srstPulse.of_eq (Dev.srstPulse_long (s := s.dev.begin) hr h skew), fun hx hy h => s.runs_srstPulse.of_eq (Dev.srstPulse_short (s := s.dev.begin) hr hx hy h),
      fun hx' hx hy' hy h => (s.runs_srstPulse.of_eq (Dev.srstPulse_legal (s := s.dev.begin) hr hx hy hx' hy' h)).does ?_⟩
    obtain ⟨hc, hz⟩ := Dev.safetyReset_fault (s := s.dev.begin)
    exact ⟨fun c i hi => (Dev.safetyReset_instances (s := s.dev.begin) hi c).1, fun c i hi => (Dev.safetyReset_instances (s := s.dev.begin) hi c).2.1,
      fun c i hi => (Dev.safetyReset_instances (s := s.dev.begin) hi c).2.2, fun _ => hc, hz, Dev.safetyReset_keeps.of_begin⟩
  · have hrun : s.Runs (.instReqWrite v) ((s.dev.begin.instReqWrite v).complete .ok) := s.runs_instReqWrite.of_eq (Dev.served_done hok fun d => d.instReqWrite v)
    obtain ⟨h1, h2, h3⟩ := Dev.instReqWrite_ends (s := s.dev.begin) (y := y) hi hr ht hv ((Dev.instReq_congr (s := s.dev) (u := s.dev.begin) (fun _ _ _ _ => rfl) i).trans hq) hst
    generalize s.dev.begin.instReqWrite v = u at hrun h1 h2 h3
    exact hrun.does ⟨rfl, h1, h2, (h3.complete .ok).of_begin⟩
  · exact s.runs_instReqWrite.of_eq ((Dev.served_done hok fun d => d.instReqWrite v).trans (congrArg (·.complete .ok) (Dev.instReqWrite_stopped (s := s.dev.begin) hr v)))
  · intro good
    refine ⟨fun hr => s.runs_safetyRun.of_eq (Dev.served_gives hok (Dev.safetyRun_runs (s := s.dev.begin) hr)), fun hr hg => s.runs_safetyRun.of_eq (Dev.served_gives hok (Dev.safetyRun_bad (s := s.dev.begin) hr hg)),
      fun hr hx hy => ?_, fun y i hi hr h => s.runs_safetyConfig.of_eq (Dev.served_gives hok (Dev.safetyConfig_busy (s := s.dev.begin) hr hi h)), fun h => ?_⟩
    · have hrun : s.Runs .safetyRun (Dev.complete (Dev.safeRefresh s.dev.begin s.dev.begin.started.startInsts) .ok) :=
        s.runs_safetyRun.of_eq (Dev.served_gives hok (Dev.safetyRun_good (s := s.dev.begin) hr (Bool.and_eq_true_iff.mpr ⟨hx, hy⟩)))
      obtain ⟨h1, h2, h3, h4, h5, h6⟩ := Dev.safetyRun_ends (s := s.dev.begin)
      generalize Dev.safeRefresh s.dev.begin s.dev.begin.started.startInsts = u at hrun h1 h2 h3 h4 h5 h6
      exact hrun.does ⟨rfl, h1, h2, h3, h4, h5, (h6.complete .ok).of_begin⟩
    · have hrun : s.Runs .safetyConfig (Dev.complete (Dev.safeRefresh s.dev.begin s.dev.begin.stoppedCtl) .ok) :=
        s.runs_safetyConfig.of_eq (Dev.served_gives hok (Dev.safetyConfig_ok (s := s.dev.begin) h))
      obtain ⟨h1, h2, h3, h4⟩ := Dev.safetyConfig_ends (s := s.dev.begin)
      generalize Dev.safeRefresh s.dev.begin s.dev.begin.stoppedCtl = u at hrun h1 h2 h3 h4
      exact hrun.does ⟨rfl, h1, h2, h3, h4⟩

end Sys2Proof.Machine
end

section
/-! The brake test (R332, R333, R336), and O39. -/

namespace Sys2Proof.Machine

section
variable {s u v was d g : Dev}

/-! ### The end of an event and the test -/

/-- The test as the watch leaves it. -/
theorem Dev.safeRefresh_watch (was d : Dev) {G : Fld} (hG : ∀ E ∈ F.SAFETY_TRIP_STAT_LATCH :: showFlds, G.outside E = true) :
    (Dev.safeRefresh was d).f G = ((Dev.restarts was d).btWatch was).f G := by
  have hlatch : ((Dev.restarts was d).btWatch was).SafeLeaves [F.SAFETY_TRIP_STAT_LATCH] (Dev.settledInsts was d) :=
    (Dev.safeLeaves_refl _ _).put (F := F.SAFETY_TRIP_STAT_LATCH) (by decide) rfl _ (by decide)
  rw [(Dev.safeRefresh_shows was d).leaves.fld G 0 0 fun F hF => hG _ (List.mem_cons_of_mem _ hF), Dev.outsOnly_commanded.leaves.fld G 0 0 fun F hF => absurd hF List.not_mem_nil,
    hlatch.fld G 0 0 fun F hF => hG _ (by rw [List.mem_singleton.mp hF]; exact List.mem_cons_self)]

/-- Without a test there is nothing to watch. -/
theorem Dev.btWatch_idle (h : s.f F.SAFETY_BT_STAT_PHASE = 0) (was : Dev) : s.btWatch was = s := by
  rw [Dev.btWatch, decide_eq_false (not_not_intro h)]
  rfl

/-- Nor does the watch act while no INST has changed or has a new demand. -/
theorem Dev.btWatch_quiet (hi : s.f F.SAFETY_BT_CFG_INST < 8) (hst : ∀ y l, l < 8 → s.stOf y l = was.stOf y l) (hdem : ∀ y l, l < 8 → s.lineDemand y l = was.lineDemand y l) :
    s.btWatch was = s := by
  have hany : (chans.any fun y => (s.f F.SAFETY_BT_CFG_INST :: bitList 8 (s.par y F.SAFETY_INST_CFG_LINK (s.f F.SAFETY_BT_CFG_INST))).any fun l =>
      decide (s.stOf y l ≠ was.stOf y l) || (s.lineDemand y l && !was.lineDemand y l)) = false := by
    refine Bool.eq_false_iff.mpr fun h => ?_
    obtain ⟨y, -, h⟩ := List.any_eq_true.mp h
    obtain ⟨l, hl, h⟩ := List.any_eq_true.mp h
    have hl8 : l < 8 := by
      rcases List.mem_cons.mp hl with rfl | hl
      · exact hi
      · exact (mem_bitList.mp hl).1
    rw [hst y l hl8, hdem y l hl8, Bool.and_not_self, decide_eq_false (not_not_intro rfl)] at h
    exact absurd h (by decide)
  rw [Dev.btWatch, hany, Bool.and_false]
  rfl

/-- A test that an event has ended stays ended, with its result. -/
theorem Dev.safeRefresh_ended (h : d.f F.SAFETY_BT_STAT_PHASE = 0) (was : Dev) :
    (Dev.safeRefresh was d).f F.SAFETY_BT_STAT_PHASE = 0 ∧ (Dev.safeRefresh was d).f F.SAFETY_BT_STAT_RESULT = d.f F.SAFETY_BT_STAT_RESULT := by
  have hr : ∀ G : Fld, (Dev.restarts was d).f G = d.f G := fun G => Dev.restarts_only.leaves.fld G 0 0 fun F hF => absurd hF List.not_mem_nil
  have hw := Dev.btWatch_idle ((hr _).trans h) was
  exact ⟨(Dev.safeRefresh_watch was d (by decide)).trans (by rw [hw, hr, h]), (Dev.safeRefresh_watch was d (by decide)).trans (by rw [hw, hr])⟩

/-- The test goes on through an event that leaves lines, outputs and instances, while no INST can restart. -/
theorem Dev.safeRefresh_goes (hi : d.f F.SAFETY_BT_CFG_INST < 8) (hch : ∀ y, d.ch y = was.ch y) (hp : was.SamePar d)
    (hno : ∀ y l, l < 8 → was.stOf y l = sDemand → was.linesClosed y l = false) :
    (∀ G ∈ btFlds, (Dev.safeRefresh was d).f G = d.f G) ∧ ∀ y l, l < 8 → (Dev.safeRefresh was d).stOf y l = was.stOf y l := by
  have hr : ∀ G : Fld, (Dev.restarts was d).f G = d.f G := fun G => Dev.restarts_only.leaves.fld G 0 0 fun F hF => absurd hF List.not_mem_nil
  have hline : ∀ y k, d.line y k = was.line y k := fun y k => by rw [Dev.line, hch]; rfl
  have hst : ∀ y l, d.stOf y l = was.stOf y l := fun y l => by rw [Dev.stOf, hch]; rfl
  have hsame : ∀ y l, l < 8 → Dev.restarted was d y l = was.stOf y l := fun y l hl => by
    refine (if_neg fun ⟨_, h1, _, h2⟩ => ?_).trans (hst y l)
    rw [hp.linesClosed y l (hline y), hno y l hl h1] at h2
    exact absurd h2 (by decide)
  have hro := Dev.restarts_only (was := was) (s := d)
  have hrst : ∀ y l, l < 8 → (Dev.restarts was d).stOf y l = was.stOf y l := fun y l hl => (congrArg Prod.fst (Dev.restarts_inst y hl)).trans (hsame y l hl)
  have hw := Dev.btWatch_quiet (s := Dev.restarts was d) (was := was) (by rw [hr]; exact hi) hrst fun y l hl =>
    (hp.trans (hro.leaves.samePar (by decide))).lineDemand y l (fun k => (hro.line y k).trans (hline y k)) ((hro.out y).trans (by rw [hch])) (hrst y l hl)
  refine ⟨fun G hG => ?_, fun y l hl => (congrArg Prod.fst (Dev.safeRefresh_inst was d y hl)).trans (hsame y l hl)⟩
  have hclear : ∀ G ∈ btFlds, ∀ E ∈ F.SAFETY_TRIP_STAT_LATCH :: showFlds, G.outside E = true := by decide
  rw [Dev.safeRefresh_watch was d (hclear G hG), hw, hr]

/-! ### The start -/

/-- The conditions of a start (R332). -/
def Dev.btReady (s : Dev) (i : Nat) : Prop := s.instState i = sRun ∨ (s.instState i = sLockout ∧ s.instCause i = 2 ^ cBtFail)

/-- The test begins in phase TORQUE. -/
def Dev.noteLock (s : Dev) (b : Bool) : Dev := { s with safe := { s.safe with btLock := b } }
def Dev.btBegun (s : Dev) : Dev := ((s.noteLock (decide (s.instState (s.f F.SAFETY_BT_CFG_INST) = sLockout))).put F.SAFETY_BT_STAT_PHASE 1).put F.SAFETY_BT_STAT_RESULT 0

section
variable {i : Nat} (hi : s.f F.SAFETY_BT_CFG_INST = i)
include hi

theorem Dev.btStart_type (h : s.instType false i ≠ 3) : s.btStart = (.invalid, s) := by
  subst hi
  exact if_pos h
theorem Dev.btStart_busy (ht : s.instType false i = 3) (h : s.f F.SAFETY_BT_STAT_PHASE ≠ 0) : s.btStart = (.busy, s) := by
  subst hi
  exact (if_neg (not_not_intro ht)).trans (if_pos h)
theorem Dev.btStart_denied (ht : s.instType false i = 3) (h0 : s.f F.SAFETY_BT_STAT_PHASE = 0)
    (h : s.safeRun = false ∨ ¬ s.btReady i ∨ s.instReq i = true ∨ (∃ y, s.pairOpen y (s.inPair y i) = false) ∨ s.f F.ANGLE_STAT_STILL 0 = 0) : s.btStart = (.denied, s) := by
  subst hi
  refine (if_neg (not_not_intro ht)).trans ((if_neg (not_not_intro h0)).trans (if_pos fun ⟨h1, h2, h3, h4, h5⟩ => ?_))
  rcases h with h | h | h | ⟨y, h⟩ | h
  · exact absurd (h.symm.trans h1) (by decide)
  · exact h h2
  · exact h3 h
  · have := List.all_eq_true.mp h4 y (by cases y <;> decide)
    rw [h] at this
    exact absurd this (by decide)
  · exact of_decide_eq_true h5 h
theorem Dev.btStart_ok (ht : s.instType false i = 3) (h0 : s.f F.SAFETY_BT_STAT_PHASE = 0) (hr : s.safeRun = true) (hready : s.btReady i) (hq : s.instReq i = false)
    (hopen : ∀ y, s.pairOpen y (s.inPair y i) = true) (hstill : s.f F.ANGLE_STAT_STILL 0 ≠ 0) : s.btStart = (.ok, Dev.safeRefresh s s.btBegun) := by
  subst hi
  refine (if_neg (not_not_intro ht)).trans ((if_neg (not_not_intro h0)).trans (if_neg (not_not_intro ⟨hr, hready, Bool.eq_false_iff.mp hq, List.all_eq_true.mpr fun y _ => hopen y, decide_eq_true hstill⟩)))
end

theorem Dev.btBegun_ch (y : Bool) : s.btBegun.ch y = s.ch y := (Dev.ch_put ..).trans ((Dev.ch_put ..).trans (by cases y <;> rfl))

theorem Dev.btBegun_f {G : Fld} (h1 : G.apart F.SAFETY_BT_STAT_PHASE = true) (h2 : G.apart F.SAFETY_BT_STAT_RESULT = true) (i : Nat) : s.btBegun.f G i = s.f G i :=
  (Dev.f_put_apart _ _ _ _ _ _ h2).trans ((Dev.f_put_apart _ _ _ _ _ _ h1).trans (Dev.f_setSafe (u := s) (x := { s.safe with btLock := decide (s.instState (s.f F.SAFETY_BT_CFG_INST) = sLockout) }) rfl G i 0))

theorem Dev.btBegun_phase : s.btBegun.f F.SAFETY_BT_STAT_PHASE = 1 ∧ s.btBegun.f F.SAFETY_BT_STAT_RESULT = 0 :=
  ⟨(Dev.f_put_apart _ _ _ _ _ _ (by decide)).trans (Dev.f_put_same ..), Dev.f_put_same ..⟩

theorem Dev.btLock_put (G : Fld) (x : Nat) : (s.put G x).safe.btLock = s.safe.btLock := (congrArg Safe.btLock (Dev.safe_put s G x 0 0) : _)
theorem Dev.btPassAt_put (G : Fld) (x : Nat) : (s.put G x).safe.btPassAt = s.safe.btPassAt := (congrArg Safe.btPassAt (Dev.safe_put s G x 0 0) : _)

theorem Dev.btBegun_lock : s.btBegun.safe.btLock = decide (s.instState (s.f F.SAFETY_BT_CFG_INST) = sLockout) := (Dev.btLock_put ..).trans (Dev.btLock_put ..)

theorem Dev.btBegun_samePar : s.SamePar s.btBegun := fun G hG y i => by
  cases y
  · exact Dev.btBegun_f ((show ∀ G ∈ safePars, G.apart F.SAFETY_BT_STAT_PHASE = true from by decide) G hG) ((show ∀ G ∈ safePars, G.apart F.SAFETY_BT_STAT_RESULT = true from by decide) G hG) i
  · exact congrArg (fun t => parFld t G i) ((Dev.yPar_put ..).trans (Dev.yPar_put (s := s.noteLock _) ..))

theorem Dev.btBegun_keeps : s.Keeps [.safety] s.out s.btBegun :=
  (((Dev.keeps_refl _ s).setSafe (by decide) _).put (G := F.SAFETY_BT_STAT_PHASE) (by decide) 1 0 0).put (G := F.SAFETY_BT_STAT_RESULT) (by decide) 0 0 0

theorem Dev.btStart_ends (hi : s.f F.SAFETY_BT_CFG_INST < 8) (hno : ∀ y l, l < 8 → s.stOf y l = sDemand → s.linesClosed y l = false) : let u := Dev.safeRefresh s s.btBegun
    u.f F.SAFETY_BT_STAT_PHASE = 1 ∧ u.f F.SAFETY_BT_STAT_RESULT = 0 ∧ u.safe.btLock = decide (s.instState (s.f F.SAFETY_BT_CFG_INST) = sLockout) ∧
      (∀ y, u.stOf y (s.f F.SAFETY_BT_CFG_INST) = s.stOf y (s.f F.SAFETY_BT_CFG_INST)) ∧ s.Keeps [.safety] s.out u := by
  obtain ⟨hf, hst⟩ := Dev.safeRefresh_goes (d := s.btBegun) (was := s) (by rw [Dev.btBegun_f (by decide) (by decide)]; exact hi) Dev.btBegun_ch Dev.btBegun_samePar hno
  obtain ⟨h1, h2⟩ := Dev.btBegun_phase (s := s)
  have hl := Dev.safeRefresh_leaves s s.btBegun
  exact ⟨(hf _ (by decide)).trans h1, (hf _ (by decide)).trans h2, (congrArg (·.2.2.2.2.2.2.2.1) hl.core).trans Dev.btBegun_lock, fun y => hst y _ hi, Dev.btBegun_keeps.next hl.keeps (by decide)⟩

/-! ### Abort and timeout -/

theorem Dev.btAbort_none (h : s.f F.SAFETY_BT_STAT_PHASE = 0) : s.btAbort = s := if_neg (not_not_intro h)
theorem Dev.btAbort_ends (h : s.f F.SAFETY_BT_STAT_PHASE ≠ 0) : s.btAbort = Dev.safeRefresh s (s.btEnd 3) := if_pos h
theorem Dev.btTorqueTimeout_none (h : s.f F.SAFETY_BT_STAT_PHASE ≠ 1) : s.btTorqueTimeout = s := if_neg h
theorem Dev.btTorqueTimeout_ends (h : s.f F.SAFETY_BT_STAT_PHASE = 1) : let g := s.lasted 36 (s.f F.SAFETY_BT_TMO_TMO)
    s.btTorqueTimeout = Dev.safeRefresh g (g.btEnd 3) := if_pos h

/-! ### A sample in phase HOLD -/

/-- How far the angle has moved, and the largest such move. -/
def Dev.btMove (s : Dev) : Nat := (sgn 32 (wrap 32 ((s.angleNow 0 : Int) - (s.safe.btTheta : Int)))).natAbs
def Dev.btMoved (s : Dev) : Dev := s.put F.SAFETY_BT_STAT_BT_MOVE (max (s.f F.SAFETY_BT_STAT_BT_MOVE) s.btMove)
/-- The test has failed. -/
def Dev.btFailed (s : Dev) : Dev := (s.btMoved.btEnd 2).both fun s y => s.instFail y (s.f F.SAFETY_BT_CFG_INST) cBtFail

theorem Dev.btSample_none (h : s.f F.SAFETY_BT_STAT_PHASE ≠ 2) : s.btSample = s := if_neg h
theorem Dev.btSample_inside (h : s.f F.SAFETY_BT_STAT_PHASE = 2) (hm : s.btMove ≤ s.f F.SAFETY_BT_ANG_ANG) : s.btSample = Dev.safeRefresh s s.btMoved :=
  (if_pos h).trans (congrArg (Dev.safeRefresh s) (if_neg (Nat.not_lt.mpr hm)))
theorem Dev.btSample_beyond (h : s.f F.SAFETY_BT_STAT_PHASE = 2) (hm : s.f F.SAFETY_BT_ANG_ANG < s.btMove) : s.btSample = Dev.safeRefresh s s.btFailed :=
  (if_pos h).trans (congrArg (Dev.safeRefresh s) (if_pos hm))

def moveFlds : List Fld := [F.SAFETY_BT_STAT_BT_MOVE, F.SAFETY_BT_STAT_PHASE, F.SAFETY_BT_STAT_RESULT]

theorem Dev.btMoved_end_leaves : s.SafeLeaves moveFlds (s.btMoved.btEnd 2) :=
  (((Dev.safeLeaves_refl _ s).put (F := F.SAFETY_BT_STAT_BT_MOVE) (by decide) rfl _ (by decide)).put (F := F.SAFETY_BT_STAT_PHASE) (by decide) rfl 0 (by decide)).put
    (F := F.SAFETY_BT_STAT_RESULT) (by decide) rfl 2 (by decide)

theorem Dev.btEnd_f (r : Nat) : (s.btEnd r).f F.SAFETY_BT_STAT_PHASE = 0 ∧ (s.btEnd r).f F.SAFETY_BT_STAT_RESULT = r % 2 ^ 4 :=
  ⟨(Dev.f_put_apart _ _ _ _ _ _ (by decide)).trans (Dev.f_put_same ..), Dev.f_put_same ..⟩

theorem Dev.btEnd_inst (r : Nat) (y : Bool) (i : Nat) : (s.btEnd r).instOf y i = s.instOf y i := (Dev.instOf_put ..).trans (Dev.instOf_put ..)

theorem Dev.btFailed_spec : let u := s.btFailed
    s.SafeLeaves moveFlds u ∧ u.f F.SAFETY_BT_STAT_PHASE = 0 ∧ u.f F.SAFETY_BT_STAT_RESULT = 2 ∧
      ∀ y, s.stOf y (s.f F.SAFETY_BT_CFG_INST) ≠ sInactive → u.lockedBy y (s.f F.SAFETY_BT_CFG_INST) cBtFail := by
  have hleaves := Dev.btMoved_end_leaves (s := s)
  have hi : (s.btMoved.btEnd 2).f F.SAFETY_BT_CFG_INST = s.f F.SAFETY_BT_CFG_INST := hleaves.fld _ _ _ (by decide)
  have hst : ∀ y, (s.btMoved.btEnd 2).stOf y (s.f F.SAFETY_BT_CFG_INST) = s.stOf y (s.f F.SAFETY_BT_CFG_INST) := fun y => Dev.stOf_of ((Dev.btEnd_inst ..).trans (Dev.instOf_put ..))
  obtain ⟨h1, h2⟩ := Dev.btEnd_f (s := s.btMoved) 2
  have hu : s.btFailed = (s.btMoved.btEnd 2).both fun s y => s.instFail y (s.f F.SAFETY_BT_CFG_INST) cBtFail := rfl
  generalize s.btMoved.btEnd 2 = w at hleaves hi hst h1 h2 hu
  have honly : w.InstsOnly [] s.btFailed := hu ▸ Dev.both_inv _ _ (fun _ z hv => hv.instFail z _ _) w (Dev.instsOnly_refl [] w)
  refine ⟨hleaves.trans (honly.leaves.mono (by decide)), (honly.leaves.fld _ _ _ (by decide)).trans h1, (honly.leaves.fld _ _ _ (by decide)).trans h2, fun y hne => ?_⟩
  rw [hu]
  refine Dev.both_at (fun v => w.InstsOnly [] v ∧ v.stOf y (s.f F.SAFETY_BT_CFG_INST) = s.stOf y (s.f F.SAFETY_BT_CFG_INST)) (fun v => v.lockedBy y (s.f F.SAFETY_BT_CFG_INST) cBtFail) _ y
    (fun v z hz hv => ⟨hv.1.instFail z _ _, (Dev.stOf_of (Dev.instFail_other (.inl hz) _)).trans hv.2⟩) (fun v hv => ?_) (fun v z _ hv => hv.instFail z _ _) w ⟨Dev.instsOnly_refl [] w, hst y⟩
  rw [hv.1.leaves.fld _ _ _ (by decide), hi]
  exact Dev.lockedBy_instFail (by rw [hv.2]; exact hne) _

theorem Dev.btSample_fails (hi : s.f F.SAFETY_BT_CFG_INST < 8) : let u := Dev.safeRefresh s s.btFailed
    u.f F.SAFETY_BT_STAT_PHASE = 0 ∧ u.f F.SAFETY_BT_STAT_RESULT = 2 ∧
      (∀ y, s.stOf y (s.f F.SAFETY_BT_CFG_INST) ≠ sInactive → u.stOf y (s.f F.SAFETY_BT_CFG_INST) = sLockout ∧ bitOf (u.causeOf y (s.f F.SAFETY_BT_CFG_INST)) cBtFail = true) ∧
      s.Keeps [.safety] s.out u := by
  obtain ⟨h1, h2, h3, h4⟩ := Dev.btFailed_spec (s := s)
  obtain ⟨k1, k2⟩ := Dev.safeRefresh_ended h2 s
  exact ⟨k1, k2.trans h3, fun y hne => (h4 y hne).safeRefresh s hi, h1.keeps.next (Dev.safeRefresh_leaves s s.btFailed).keeps (by decide)⟩

/-! ### The end of phase HOLD -/

/-- The test has passed at the time that it is. -/
def Dev.passNow (s : Dev) : Dev := { s with safe := { s.safe with btPassAt := s.time.frc } }
def Dev.btPassed (s : Dev) : Dev := (s.passNow.btEnd 1).put F.SAFETY_BT_STAT_BT_DUE 0
/-- The cause of a failed test leaves its INST. -/
def Dev.failGone (s : Dev) : Dev := s.causeGone (s.f F.SAFETY_BT_CFG_INST) cBtFail

theorem Dev.btHoldEnd_none (h : s.f F.SAFETY_BT_STAT_PHASE ≠ 2) : s.btHoldEnd = s := if_neg h
theorem Dev.btHoldEnd_ends (h : s.f F.SAFETY_BT_STAT_PHASE = 2) : let g := s.lasted 37 (s.f F.SAFETY_BT_CFG_BT_T)
    s.btHoldEnd = Dev.safeRefresh g (g.btPassed.iff g.safe.btLock Dev.failGone) := if_pos h

theorem Dev.btPassed_f : s.btPassed.f F.SAFETY_BT_STAT_PHASE = 0 ∧ s.btPassed.f F.SAFETY_BT_STAT_RESULT = 1 ∧ s.btPassed.f F.SAFETY_BT_STAT_BT_DUE = 0 ∧
    s.btPassed.f F.SAFETY_BT_CFG_INST = s.f F.SAFETY_BT_CFG_INST := by
  obtain ⟨h1, h2⟩ := Dev.btEnd_f (s := s.passNow) 1
  refine ⟨(Dev.f_put_apart _ _ _ _ _ _ (by decide)).trans h1, (Dev.f_put_apart _ _ _ _ _ _ (by decide)).trans h2, Dev.f_put_same .., ?_⟩
  refine (Dev.f_put_apart _ _ _ _ _ _ (by decide)).trans ((Dev.f_put_apart _ _ _ _ _ _ (by decide)).trans ((Dev.f_put_apart _ _ _ _ _ _ (by decide)).trans ?_))
  exact Dev.f_setSafe (u := s) (x := { s.safe with btPassAt := s.time.frc }) rfl F.SAFETY_BT_CFG_INST 0 0

theorem Dev.btPassed_at : s.btPassed.safe.btPassAt = s.time.frc := (Dev.btPassAt_put ..).trans ((Dev.btPassAt_put ..).trans (Dev.btPassAt_put (s := s.passNow) ..))

theorem Dev.btPassed_keeps : s.Keeps [.safety] s.out s.btPassed :=
  ((((Dev.keeps_refl _ s).setSafe (by decide) _).put (G := F.SAFETY_BT_STAT_PHASE) (by decide) 0 0 0).put (G := F.SAFETY_BT_STAT_RESULT) (by decide) 1 0 0).put
    (G := F.SAFETY_BT_STAT_BT_DUE) (by decide) 0 0 0

theorem Dev.failGone_clears (b : Bool) : s.Clears (s.iff b Dev.failGone) := (Dev.clears_refl s).iff _ _ fun _ => (Dev.clears_refl s).causeGone ..

theorem Dev.failGone_gone (y : Bool) : bitOf (s.failGone.causeOf y (s.f F.SAFETY_BT_CFG_INST)) cBtFail = false := Dev.causeGone_gone ..

theorem Dev.btHoldEnd_spec (hi : s.f F.SAFETY_BT_CFG_INST < 8) : let u := Dev.safeRefresh s (s.btPassed.iff s.safe.btLock Dev.failGone)
    u.f F.SAFETY_BT_STAT_PHASE = 0 ∧ u.f F.SAFETY_BT_STAT_RESULT = 1 ∧ u.f F.SAFETY_BT_STAT_BT_DUE = 0 ∧ u.safe.btPassAt = u.time.frc ∧
      (s.safe.btLock = true → bitOf (u.instCause (s.f F.SAFETY_BT_CFG_INST)) cBtFail = false) ∧ s.Keeps [.safety] s.out u := by
  obtain ⟨h1, h2, h3, h4⟩ := Dev.btPassed_f (s := s)
  have hk := Dev.btPassed_keeps (s := s)
  have hat := Dev.btPassed_at (s := s)
  generalize s.btPassed = w at h1 h2 h3 h4 hk hat
  have hc := Dev.failGone_clears (s := w) s.safe.btLock
  have hgone : s.safe.btLock = true → ∀ y, bitOf ((w.iff s.safe.btLock Dev.failGone).causeOf y (s.f F.SAFETY_BT_CFG_INST)) cBtFail = false := fun hb y => by
    rw [hb, ← h4]
    exact Dev.failGone_gone y
  have hf : ∀ G : Fld, (w.iff s.safe.btLock Dev.failGone).f G = w.f G := fun G => hc.leaves.fld G 0 0 fun F hF => absurd hF List.not_mem_nil
  have hck := hc.leaves.keeps
  have hcore := hc.leaves.core
  generalize w.iff s.safe.btLock Dev.failGone = v at hgone hf hck hcore
  obtain ⟨k1, k2⟩ := Dev.safeRefresh_ended ((hf _).trans h1) s
  have hl := Dev.safeRefresh_leaves s v
  have hall := (hk.next hck (by decide)).next hl.keeps (by decide)
  refine ⟨k1, k2.trans ((hf _).trans h2), (hl.fld _ _ _ (by decide)).trans ((hf _).trans h3), ?_, fun hb => ?_, hall⟩
  · rw [hall.time_eq (by decide)]
    exact (congrArg (·.2.2.2.2.2.2.2.2) (hl.core.trans hcore)).trans hat
  · exact Dev.instCause_bit _ _ fun y => (congrArg (bitOf · cBtFail) (Dev.safeRefresh_cause s v y hi)).trans (hgone hb y)

end

/-- Settles O39: what ends a test sets its phase to 0, and the watch at the end of the event finds no test; a start is watched, and nothing has changed. -/
theorem brakeTest : Obligations.BrakeTest := by
  unfold Obligations.BrakeTest
  intro s d i phase hi
  refine ⟨fun hok => ?_, fun h => s.runs_btTorqueTimeout.of_eq (Dev.btTorqueTimeout_ends (s := s.dev.begin) h), fun h => s.runs_btTorqueTimeout.of_eq (Dev.btTorqueTimeout_none (s := s.dev.begin) h), fun h => ?_,
    fun h => ⟨s.runs_btSample.of_eq (Dev.btSample_none (s := s.dev.begin) h), s.runs_btHoldEnd.of_eq (Dev.btHoldEnd_none (s := s.dev.begin) h)⟩, fun h => ?_, fun hm hd h => ?_, fun h => ?_⟩
  · intro ready
    refine ⟨fun h => s.runs_btStart.of_eq (Dev.served_gives hok (Dev.btStart_type (s := s.dev.begin) rfl h)),
      fun ht h => s.runs_btStart.of_eq (Dev.served_gives hok (Dev.btStart_busy (s := s.dev.begin) rfl ht h)),
      fun ht h0 h => s.runs_btStart.of_eq (Dev.served_gives hok (Dev.btStart_denied (s := s.dev.begin) rfl ht h0 h)), fun ht h0 hr hready hq ho hs hno => ?_,
      fun h => s.runs_btAbort.of_eq (Dev.served_gives hok (congrArg (Prod.mk _) (Dev.btAbort_none (s := s.dev.begin) h))),
      fun h => s.runs_btAbort.of_eq (Dev.served_gives hok (congrArg (Prod.mk _) (Dev.btAbort_ends (s := s.dev.begin) h)))⟩
    have hrun : s.Runs .btStart (Dev.complete (Dev.safeRefresh s.dev.begin s.dev.begin.btBegun) .ok) :=
      s.runs_btStart.of_eq (Dev.served_gives hok (Dev.btStart_ok (s := s.dev.begin) rfl ht h0 hr hready hq ho hs))
    obtain ⟨h1, h2, h3, h4, h5⟩ := Dev.btStart_ends (s := s.dev.begin) hi hno
    generalize Dev.safeRefresh s.dev.begin s.dev.begin.btBegun = u at hrun h1 h2 h3 h4 h5
    exact hrun.does ⟨rfl, h1, h2, h3, h4, (h5.complete .ok).of_begin⟩
  · refine ⟨fun hm => s.runs_btSample.of_eq (Dev.btSample_inside (s := s.dev.begin) h hm), fun hm => ?_⟩
    have hrun := s.runs_btSample.of_eq (Dev.btSample_beyond (s := s.dev.begin) h hm)
    obtain ⟨h1, h2, h3, h4⟩ := Dev.btSample_fails (s := s.dev.begin) hi
    generalize Dev.safeRefresh s.dev.begin s.dev.begin.btFailed = u at hrun h1 h2 h3 h4
    exact hrun.does ⟨h1, h2, h3, h4.of_begin⟩
  · have hrun := s.runs_btHoldEnd.of_eq (Dev.btHoldEnd_ends (s := s.dev.begin) h)
    obtain ⟨x, hx⟩ := Dev.lastedUs_withTime (s := s.dev.begin) 37 (s.dev.begin.f F.SAFETY_BT_CFG_BT_T * 1000)
    rw [show s.dev.begin.lasted 37 (s.dev.begin.f F.SAFETY_BT_CFG_BT_T) = _ from hx] at hrun
    obtain ⟨h1, h2, h3, h4, h5, h6⟩ := Dev.btHoldEnd_spec (s := { s.dev.begin with time := x }) hi
    have hk : s.dev.Keeps [.time, .safety] [] { s.dev.begin with time := x } := (Dev.keeps_begin _ _).setTime (by decide) x
    exact hrun.does ⟨h1, h2, h3, h4, h5, hk.next h6 (by decide)⟩
  · refine s.runs_btDue.of_eq ((Dev.whenOn_safety (s := s.dev.begin) hm hd _).trans (if_pos h))
  · refine s.runs_btDue.of_eq ?_
    unfold Dev.whenOn
    split
    · rfl
    · exact if_neg (not_not_intro h)

end Sys2Proof.Machine
end

section
/-! The state of the recorder, the frames of a record (R369, R374 to R378), and O40. -/

namespace Sys2Proof.Machine

/-- What the recorder holds beside its registers, its channels, its triggers and its instances. -/
def Reel.store (t : Reel) : List Host.Cell × Tab Nat × Tab Nat × Tab Nat × Nat × Nat := (t.ram, t.ecc, t.src, t.seqs, t.dig, t.ev)

/-- An INST but for the triggers that it has missed. -/
def ReelInst.noMiss (x : ReelInst) : ReelInst := { x with missed := 0, missedAt := 0 }

section
variable {s u v w g : Dev} {l : List Fld}

/-- Of REEL only registers that are not apart from the named ones, and channels, triggers and instances have changed. -/
structure Dev.RecLeaves (l : List Fld) (s u : Dev) : Prop where
  keeps : s.Keeps [.reel] s.out u
  store : u.reel.store = s.reel.store
  fld   : ∀ G bank i j, (∀ E ∈ l, G.apart E = true) → u.fb G bank i j = s.fb G bank i j

theorem Dev.recLeaves_refl (l : List Fld) (s : Dev) : Dev.RecLeaves l s s := ⟨Dev.keeps_refl _ s, rfl, fun _ _ _ _ _ => rfl⟩
theorem Dev.RecLeaves.trans (h : s.RecLeaves l u) (k : u.RecLeaves l v) : s.RecLeaves l v :=
  ⟨h.keeps.next k.keeps (by decide), k.store.trans h.store, fun G b i j hG => (k.fld G b i j hG).trans (h.fld G b i j hG)⟩
theorem Dev.RecLeaves.mono {l' : List Fld} (h : s.RecLeaves l u) (hsub : ∀ E ∈ l, E ∈ l') : s.RecLeaves l' u :=
  ⟨h.keeps, h.store, fun G b i j hG => h.fld G b i j fun E hE => hG E (hsub E hE)⟩
theorem Dev.RecLeaves.ram (h : s.RecLeaves l u) : u.reel.ram = s.reel.ram := congrArg Prod.fst h.store
theorem Dev.RecLeaves.seqs (h : s.RecLeaves l u) : u.reel.seqs = s.reel.seqs := congrArg (·.2.2.2.1) h.store
theorem Dev.RecLeaves.f (h : s.RecLeaves l u) {G : Fld} (hG : ∀ E ∈ l, G.apart E = true) (i j : Nat) : u.f G i j = s.f G i j := h.fld G 0 i j hG
theorem Dev.RecLeaves.iff (h : s.RecLeaves l u) (c : Bool) (act : Dev → Dev) (hg : c = true → s.RecLeaves l (act u)) : s.RecLeaves l (u.iff c act) := by
  cases c
  · exact h
  · exact hg rfl
theorem Dev.RecLeaves.each {α : Type} (h : s.RecLeaves l u) (k : List α) (act : Dev → α → Dev) (hg : ∀ v, ∀ a ∈ k, s.RecLeaves l v → s.RecLeaves l (act v a)) : s.RecLeaves l (u.each k act) :=
  Dev.each_inv _ k act hg u h

/-! ### Writes -/

theorem Dev.reel_put (G : Fld) (x i j : Nat) : ({ (s.put G x i j).reel with regs := [] } : Reel) = { s.reel with regs := [] } := by
  have h : ∀ (t : Tab Nat) (b : Blk), ({ (s.setRegs t b).reel with regs := [] } : Reel) = { s.reel with regs := [] } := fun t b => by cases b <;> rfl
  exact h ..

theorem Dev.reelInst_put (G : Fld) (x i j k : Nat) : (s.put G x i j).reelInst k = s.reelInst k := (congrArg (fun t : Reel => Tab.get ReelInst.fresh t.inst k) (Dev.reel_put G x i j) : _)
theorem Dev.reelInst_befall (G : Fld) (act : Nat → Nat) (i j k : Nat) : (s.befall G act i j).reelInst k = s.reelInst k := Dev.reelInst_put G (act (s.f G i j)) i j k

theorem Dev.reelInst_set_same (i : Nat) (x : ReelInst) : (s.setReelInst i x).reelInst i = x := Tab.get_set_same ..
theorem Dev.reelInst_set_other {i k : Nat} (h : k ≠ i) (x : ReelInst) : (s.setReelInst i x).reelInst k = s.reelInst k := Tab.get_set_other _ _ _ _ h

theorem Dev.fb_setReel {x : Reel} (hr : x.regs = s.reel.regs) (G : Fld) (bank i j : Nat) : ({ s with reel := x } : Dev).fb G bank i j = s.fb G bank i j :=
  Dev.fb_of_regs (u := { s with reel := x }) (s := s) rfl (by cases G.blk <;> simp [Dev.regsOf, hr]) ..

theorem Dev.RecLeaves.setReel (h : s.RecLeaves l u) (x : Reel) (hr : x.regs = u.reel.regs) (hs : x.store = u.reel.store) : s.RecLeaves l { u with reel := x } :=
  ⟨h.keeps.setReel (by decide) x, hs.trans h.store, fun G b i j hG => (Dev.fb_setReel hr G b i j).trans (h.fld G b i j hG)⟩

theorem Dev.fb_setReelInst (m : Nat) (x : ReelInst) (G : Fld) (bank i j : Nat) : (s.setReelInst m x).fb G bank i j = s.fb G bank i j := Dev.fb_setReel (s := s) rfl ..

theorem Dev.RecLeaves.setReelInst (h : s.RecLeaves l u) (i : Nat) (x : ReelInst) : s.RecLeaves l (u.setReelInst i x) := h.setReel _ rfl rfl
theorem Dev.RecLeaves.setReelCh (h : s.RecLeaves l u) (k : Nat) (x : ReelCh) : s.RecLeaves l (u.setReelCh k x) := h.setReel _ rfl rfl
theorem Dev.RecLeaves.setReelTrg (h : s.RecLeaves l u) (i t : Nat) (x : ReelTrg) : s.RecLeaves l (u.setReelTrg i t x) := h.setReel _ rfl rfl

theorem Dev.RecLeaves.put (h : s.RecLeaves l u) {E : Fld} (hE : E ∈ l) (hb : E.blk = .reel) (x i j : Nat) : s.RecLeaves l (u.put E x i j) :=
  ⟨h.keeps.put (by rw [hb]; decide) _ _ _, ((congrArg Reel.store (Dev.reel_put E x i j) : _) : _).trans h.store,
    fun G b k m hG => (Dev.fb_putb_apart _ _ _ _ _ _ _ _ (hG E hE)).trans (h.fld G b k m hG)⟩

theorem Dev.RecLeaves.befall (h : s.RecLeaves l u) {E : Fld} (hE : E ∈ l) (hb : E.blk = .reel) (act : Nat → Nat) (i j : Nat) : s.RecLeaves l (u.befall E act i j) := by
  obtain ⟨h1, h2, h3⟩ := h.put hE hb (act (u.f E i j)) i j
  exact ⟨h.keeps.befall (by rw [hb]; decide) _ _ _, h2, h3⟩

theorem Dev.RecLeaves.inc (h : s.RecLeaves l u) {E : Fld} (hE : E ∈ l) (hb : E.blk = .reel) (n i j : Nat) : s.RecLeaves l (u.inc E n i j) :=
  h.befall hE hb (fun x => satAdd E.w x n) i j

/-! ### Missed triggers -/

def missFlds : List Fld := [F.REEL_INST_MISS_FIRST_NS, F.REEL_INST_MISS_MISSED]

/-- The counters of a missed trigger. -/
def Dev.countMiss (s : Dev) (i t : Nat) : Dev :=
  (s.iff (decide (s.f F.REEL_INST_MISS_MISSED i = 0)) fun s => s.put F.REEL_INST_MISS_FIRST_NS t i).inc F.REEL_INST_MISS_MISSED 1 i

/-- The record of a missed trigger. -/
def ReelInst.missed1 (x : ReelInst) (t : Nat) : ReelInst := { x with missed := satAdd 32 x.missed 1, missedAt := if x.missed = 0 then t else x.missedAt }

theorem Dev.missTrigger_eq (i n : Nat) : s.missTrigger i n = (s.countMiss i (n * 5 / 64 % 2 ^ 32)).setReelInst i (ReelInst.missed1 ((s.countMiss i (n * 5 / 64 % 2 ^ 32)).reelInst i) (n * 5 / 64 % 2 ^ 32)) := rfl

theorem Dev.RecLeaves.countMiss (h : s.RecLeaves l u) (hl : ∀ E ∈ missFlds, E ∈ l) (i t : Nat) : s.RecLeaves l (u.countMiss i t) :=
  (h.iff _ _ fun _ => h.put (hl _ (by decide)) rfl t i 0).inc (hl F.REEL_INST_MISS_MISSED (by decide)) rfl 1 i 0

theorem Dev.countMiss_inst (i t k : Nat) : (s.countMiss i t).reelInst k = s.reelInst k :=
  (Dev.reelInst_befall F.REEL_INST_MISS_MISSED (fun x => satAdd F.REEL_INST_MISS_MISSED.w x 1) i 0 k).trans (Dev.iff_keeps s (·.reelInst k) _ _ fun _ => Dev.reelInst_put ..)

theorem Dev.RecLeaves.missTrigger (h : s.RecLeaves l u) (hl : ∀ E ∈ missFlds, E ∈ l) (i n : Nat) : s.RecLeaves l (u.missTrigger i n) := by
  rw [Dev.missTrigger_eq]
  exact (h.countMiss hl ..).setReelInst ..

theorem Dev.missTrigger_inst (i n k : Nat) : ((s.missTrigger i n).reelInst k).noMiss = (s.reelInst k).noMiss := by
  rw [Dev.missTrigger_eq]
  rcases eq_or_ne k i with rfl | h
  · rw [Dev.reelInst_set_same, Dev.countMiss_inst]
    rfl
  · rw [Dev.reelInst_set_other h, Dev.countMiss_inst]

/-- Several missed triggers. -/
def Dev.missAll (s : Dev) (i : Nat) (k : List (Nat × Nat)) : Dev := s.each k.reverse fun s p => s.missTrigger i p.2

theorem Dev.missAll_leaves (i : Nat) (k : List (Nat × Nat)) : s.RecLeaves missFlds (s.missAll i k) :=
  (Dev.recLeaves_refl _ s).each _ _ fun _ _ _ hv => hv.missTrigger (fun _ h => h) ..

theorem Dev.missAll_inst (i : Nat) (k : List (Nat × Nat)) (m : Nat) : ((s.missAll i k).reelInst m).noMiss = (s.reelInst m).noMiss :=
  Dev.each_inv (fun v => (v.reelInst m).noMiss = (s.reelInst m).noMiss) _ _ (fun _ _ _ hv => (Dev.missTrigger_inst ..).trans hv) s rfl

/-! ### A frame -/

/-- The place of a frame in its ring (R378). -/
def Dev.framePlace (s : Dev) (a i : Nat) : Nat := s.slotBase a i (s.f F.REEL_INST_STAT_SLOT i) + 64 + s.frameLen a i * ((s.reelInst i).count % s.ringLen a i)

/-- The triggers due at the frame of instant `t`, and those of them that a frame of the slot holds (R374). -/
def ReelInst.due (x : ReelInst) (t : Nat) : List (Nat × Nat) := x.fired.filter fun p => trgBy p.2 t
def ReelInst.mine (x : ReelInst) (t per : Nat) : List (Nat × Nat) := (x.due t).filter fun p => decide (framesBack t per p.2 ≤ x.count)
def ReelInst.gone (x : ReelInst) (t per : Nat) : List (Nat × Nat) := (x.due t).filter fun p => !decide (framesBack t per p.2 ≤ x.count)
/-- Those that wait for a later frame. -/
def ReelInst.waiting (x : ReelInst) (t : Nat) : ReelInst := { x with fired := x.fired.filter fun p => !trgBy p.2 t }

/-- The channels after the frame, and the frame written. -/
def Dev.chansDone (s : Dev) (a i t : Nat) : Dev := s.each (s.instChans a i) fun s k => s.chDone k t
def Dev.frameKept (s : Dev) (a i t : Nat) : Dev := ((s.chansDone a i t).writeFrame a i (s.frameBytes a i t)).setReelInst i (((s.chansDone a i t).reelInst i).waiting t)

/-- What the triggers of the frame do in PRE and in POST, and the end of the frame. -/
def Dev.preTriggers (w : Dev) (a i t : Nat) (mine gone : List (Nat × Nat)) : Dev := if mine = [] then w.missAll i gone else (w.missAll i gone).triggerFrame a i t mine
def Dev.postFrame (w : Dev) (a i n : Nat) (due : List (Nat × Nat)) : Dev := (w.setReelInst i { w.reelInst i with post := n + 1 }).postTriggers a i due
def Dev.frameEnd (v : Dev) (i n t : Nat) : Dev := v.setReelInst i { v.reelInst i with count := n + 1, lastT := t }

/-- After the frame is written; `x` is the INST before it. -/
def Dev.frameRest (w : Dev) (a i t : Nat) (x : ReelInst) : Dev :=
  Dev.frameEnd (if w.reelState i = rPre then w.preTriggers a i t (x.mine t (w.framePeriod a i)) (x.gone t (w.framePeriod a i)) else w.postFrame a i x.post (x.due t)) i x.count t

theorem Dev.chansDone_eq (a i t : Nat) : ∃ c, s.chansDone a i t = { s with reel := { s.reel with ch := c } } :=
  Dev.each_inv (fun v => ∃ c, v = { s with reel := { s.reel with ch := c } }) _ _ (fun _ _ _ ⟨_, hc⟩ => hc ▸ ⟨_, rfl⟩) s ⟨s.reel.ch, rfl⟩

/-- Nothing is written without an enabled INST that writes and a frame that is due (R375). -/
theorem Dev.reelFrame_none {i : Nat} (h : s.f F.REEL_CTL_EN = 0 ∨ s.fs s.actSet F.REEL_INST_CFG_EN i = 0 ∨ s.ringLen s.actSet i = 0 ∨ s.nextFrame s.actSet i = none ∨
    ¬ (s.reelState i = rPre ∨ (s.reelState i = rPost ∧ (s.reelInst i).post < s.fs s.actSet F.REEL_INST_LEN_POST i))) : s.reelFrame i = s := by
  unfold Dev.reelFrame
  dsimp only
  split
  · rfl
  · rename_i hc
    simp only [not_or, not_and, not_le, Dev.reelWrites, Bool.or_eq_true, decide_eq_true_eq, not_not] at hc
    obtain ⟨hen, hcfg, hw, hring, hpost⟩ := hc
    have hnone : s.nextFrame s.actSet i = none := by
      rcases h with h | h | h | h | h
      · exact absurd h (of_decide_eq_true hen)
      · exact absurd h hcfg
      · exact absurd h hring
      · exact h
      · exact absurd (or_iff_not_imp_left.mpr fun hp => ⟨hw hp, hpost (hw hp)⟩) h
    rw [hnone]

theorem Dev.reelFrame_due {i t : Nat} (hen : s.f F.REEL_CTL_EN ≠ 0) (hcfg : s.fs s.actSet F.REEL_INST_CFG_EN i ≠ 0) (hring : s.ringLen s.actSet i ≠ 0) (hn : s.nextFrame s.actSet i = some t)
    (hw : s.reelState i = rPre ∨ (s.reelState i = rPost ∧ (s.reelInst i).post < s.fs s.actSet F.REEL_INST_LEN_POST i)) :
    let g := s.advanceTo (t + frameLag)
    s.reelFrame i = (g.frameKept s.actSet i t).frameRest s.actSet i t ((g.chansDone s.actSet i t).reelInst i) := by
  have hwr : s.reelWrites i = true := by
    rw [Dev.reelWrites, Bool.or_eq_true, decide_eq_true_eq, decide_eq_true_eq]
    exact hw.imp_right And.left
  have hgo : ¬ (¬ s.flag F.REEL_CTL_EN = true ∨ s.fs s.actSet F.REEL_INST_CFG_EN i = 0 ∨ ¬ s.reelWrites i = true ∨ s.ringLen s.actSet i = 0 ∨
      (s.reelState i = rPost ∧ s.fs s.actSet F.REEL_INST_LEN_POST i ≤ (s.reelInst i).post)) := by
    rintro (h | h | h | h | ⟨h1, h2⟩)
    · exact h (decide_eq_true hen)
    · exact hcfg h
    · exact h hwr
    · exact hring h
    · rcases hw with h | h
      · exact absurd (h.symm.trans h1) (by decide)
      · exact absurd h2 (Nat.not_le.mpr h.2)
  unfold Dev.reelFrame
  rw [if_neg hgo, hn]
  rfl

/-! ### What the frame leaves -/

theorem Dev.chansDone_inst (a i t k : Nat) : (s.chansDone a i t).reelInst k = s.reelInst k := by
  obtain ⟨c, hc⟩ := Dev.chansDone_eq (s := s) a i t
  rw [hc]
  rfl

theorem Dev.frameKept_spec (a i t : Nat) : let w := s.frameKept a i t
    w.reel.ram = Mem.writeList s.reel.ram (s.framePlace a i) (s.frameBytes a i t) ∧ w.reelInst i = (s.reelInst i).waiting t ∧
      (∀ G bank k j, w.fb G bank k j = s.fb G bank k j) ∧ s.Keeps [.reel] s.out w := by
  unfold Dev.frameKept
  rw [Dev.chansDone_inst]
  obtain ⟨c, hc⟩ := Dev.chansDone_eq (s := s) a i t
  rw [hc]
  exact ⟨rfl, Dev.reelInst_set_same .., fun G bank k j => Dev.fb_setReel (s := s) rfl G bank k j, (Dev.keeps_refl _ s).setReel (by decide) _⟩

section
variable {a i : Nat} (h : ∀ E ∈ [F.REEL_INST_CFG_TBASE, F.REEL_INST_CFG_DIV, F.REEL_INST_LEN_PRE, F.REEL_INST_LEN_POST], u.fs a E i = s.fs a E i)
include h
theorem Dev.ringLen_congr : u.ringLen a i = s.ringLen a i := by rw [Dev.ringLen, h _ (by decide), h _ (by decide)]; rfl
theorem Dev.framePeriod_congr (hp : u.f F.GLOBAL_CYCLE_CTL_PERIOD = s.f F.GLOBAL_CYCLE_CTL_PERIOD) : u.framePeriod a i = s.framePeriod a i := by
  rw [Dev.framePeriod, Dev.framePeriod, Dev.periodNs, Dev.periodNs, h _ (by decide), h _ (by decide), hp]
end

def frameFlds : List Fld := F.REEL_INST_STAT_STATE :: missFlds

theorem Dev.RecLeaves.pars (h : s.RecLeaves frameFlds u) (a i : Nat) :
    ∀ E ∈ [F.REEL_INST_CFG_TBASE, F.REEL_INST_CFG_DIV, F.REEL_INST_LEN_PRE, F.REEL_INST_LEN_POST], u.fs a E i = s.fs a E i := fun E hE =>
  h.fld E a i 0 ((show ∀ E ∈ [F.REEL_INST_CFG_TBASE, F.REEL_INST_CFG_DIV, F.REEL_INST_LEN_PRE, F.REEL_INST_LEN_POST], ∀ G ∈ frameFlds, E.apart G = true from by decide) E hE)

theorem Dev.missAll_fields (i : Nat) (k : List (Nat × Nat)) {α : Type} (p : ReelInst → α) (m : Nat) : p ((s.missAll i k).reelInst m).noMiss = p (s.reelInst m).noMiss :=
  congrArg p (Dev.missAll_inst i k m)

/-- The INST at its trigger frame (R374, R376). -/
def Dev.trigInst (s : Dev) (a i t : Nat) (k : List (Nat × Nat)) (x : ReelInst) : ReelInst :=
  let m := firedFirst k
  let n := framesBack t (s.framePeriod a i) m.2
  let t0 := t - n * s.framePeriod a i
  let own := k.filter fun p => trgBy p.2 t0
  { x with t0 := t0, src := firedBits own, first := m.1, trgT := m.2, post := 1 + n,
           pre := min (min (x.count - n) (s.fs a F.REEL_INST_LEN_PRE i)) (s.ringLen a i - 1 - n), postTrg := min 255 (k.length - own.length),
           flags := b2n (decide (x.count - n < s.fs a F.REEL_INST_LEN_PRE i)) + (1 - s.f F.TIME_STAT_TQ) * 16, cfgid := s.f F.PAIR_CFGID_OWN }

theorem Dev.triggerFrame_eq (a i t : Nat) (k : List (Nat × Nat)) :
    s.triggerFrame a i t k = (s.setReelInst i (s.trigInst a i t k (s.reelInst i))).put F.REEL_INST_STAT_STATE rPost i := rfl

/-- The INST after the triggers of POST (R374, R377). -/
def Dev.postInst (s : Dev) (a i : Nat) (k : List (Nat × Nat)) (x : ReelInst) : ReelInst :=
  let own := k.filter fun p => trgBy p.2 x.t0 && !trgBy p.2 (x.t0 - s.framePeriod a i)
  let m := firedFirst ((x.first, x.trgT) :: own)
  { x with src := Nat.lor x.src (firedBits own), first := m.1, trgT := m.2, postTrg := min 255 (x.postTrg + (k.filter fun p => !trgBy p.2 x.t0).length) }

theorem Dev.postTriggers_eq (a i : Nat) (k : List (Nat × Nat)) : s.postTriggers a i k = s.setReelInst i (s.postInst a i k (s.reelInst i)) := rfl

/-- The INST when the frame is done. -/
def ReelInst.ended (x : ReelInst) (n t : Nat) : ReelInst := { x with count := n + 1, lastT := t }
theorem Dev.frameEnd_inst (i n t : Nat) : (s.frameEnd i n t).reelInst i = (s.reelInst i).ended n t := Dev.reelInst_set_same ..
theorem Dev.RecLeaves.frameEnd (h : s.RecLeaves l u) (i n t : Nat) : s.RecLeaves l (u.frameEnd i n t) := h.setReelInst ..

variable {a i t : Nat} {x : ReelInst}

theorem Dev.frameRest_quiet (hst : w.reelState i = rPre) (hm : x.mine t (w.framePeriod a i) = []) : let u := w.frameRest a i t x
    w.RecLeaves frameFlds u ∧ u.reelState i = rPre ∧ (u.reelInst i).noMiss = ((w.reelInst i).ended x.count t).noMiss := by
  have he : w.frameRest a i t x = (w.missAll i (x.gone t (w.framePeriod a i))).frameEnd i x.count t := by
    rw [Dev.frameRest, if_pos hst, Dev.preTriggers, if_pos hm]
  rw [he]
  have hl := (Dev.missAll_leaves (s := w) i (x.gone t (w.framePeriod a i))).frameEnd i x.count t
  refine ⟨hl.mono (by decide), (hl.f (by decide) i 0).trans hst, ?_⟩
  rw [Dev.frameEnd_inst]
  exact Dev.missAll_fields i _ (fun y => (y.ended x.count t).noMiss) i

theorem Dev.frameRest_triggered (hst : w.reelState i = rPre) (hm : x.mine t (w.framePeriod a i) ≠ []) : let u := w.frameRest a i t x
    w.RecLeaves frameFlds u ∧ u.reelState i = rPost ∧ (u.reelInst i).noMiss = ((w.trigInst a i t (x.mine t (w.framePeriod a i)) (w.reelInst i)).ended x.count t).noMiss := by
  have he : w.frameRest a i t x = ((w.missAll i (x.gone t (w.framePeriod a i))).triggerFrame a i t (x.mine t (w.framePeriod a i))).frameEnd i x.count t := by
    rw [Dev.frameRest, if_pos hst, Dev.preTriggers, if_neg hm]
  rw [he]
  generalize x.mine t (w.framePeriod a i) = k
  have hl := Dev.missAll_leaves (s := w) i (x.gone t (w.framePeriod a i))
  have hi := Dev.missAll_fields (s := w) i (x.gone t (w.framePeriod a i)) (fun y => y) i
  generalize w.missAll i (x.gone t (w.framePeriod a i)) = v at hl hi
  have hl' := hl.mono (l' := frameFlds) (by decide)
  rw [Dev.triggerFrame_eq]
  refine ⟨((hl'.setReelInst i _).put (by decide) rfl _ _ _).frameEnd .., (Dev.fb_setReelInst ..).trans (Dev.f_put_same ..), ?_⟩
  rw [Dev.frameEnd_inst, Dev.reelInst_put, Dev.reelInst_set_same]
  have hpar : ∀ y, v.trigInst a i t k y = w.trigInst a i t k y := fun y => by
    simp only [Dev.trigInst, Dev.framePeriod_congr (hl'.pars a i) (hl.f (by decide) 0 0), Dev.ringLen_congr (hl'.pars a i), hl'.pars a i F.REEL_INST_LEN_PRE (by decide),
      hl.f (show ∀ E ∈ missFlds, F.TIME_STAT_TQ.apart E = true from by decide) 0 0, hl.f (show ∀ E ∈ missFlds, F.PAIR_CFGID_OWN.apart E = true from by decide) 0 0]
  rw [hpar]
  exact (congrArg (fun y => ((w.trigInst a i t k y).ended x.count t).noMiss) hi : _)

theorem Dev.frameRest_post (hst : w.reelState i = rPost) : let u := w.frameRest a i t x
    w.RecLeaves frameFlds u ∧ u.reelState i = rPost ∧ u.reelInst i = (w.postInst a i (x.due t) { w.reelInst i with post := x.post + 1 }).ended x.count t := by
  have he : w.frameRest a i t x = (w.postFrame a i x.post (x.due t)).frameEnd i x.count t := by
    rw [Dev.frameRest, if_neg (by rw [hst]; decide)]
  rw [he, Dev.postFrame, Dev.postTriggers_eq]
  have hl := ((((Dev.recLeaves_refl frameFlds w).setReelInst i { w.reelInst i with post := x.post + 1 }).setReelInst i
    (Dev.postInst (w.setReelInst i { w.reelInst i with post := x.post + 1 }) a i (x.due t) ((w.setReelInst i { w.reelInst i with post := x.post + 1 }).reelInst i)))).frameEnd i x.count t
  refine ⟨hl, hst, ?_⟩
  rw [Dev.frameEnd_inst, Dev.reelInst_set_same, Dev.reelInst_set_same]
  rfl

theorem Dev.trigInst_congr (h : ∀ G bank k j, u.fb G bank k j = s.fb G bank k j) (a i t : Nat) (k : List (Nat × Nat)) (y : ReelInst) : u.trigInst a i t k y = s.trigInst a i t k y := by
  have hp : ∀ E ∈ [F.REEL_INST_CFG_TBASE, F.REEL_INST_CFG_DIV, F.REEL_INST_LEN_PRE, F.REEL_INST_LEN_POST], u.fs a E i = s.fs a E i := fun E _ => h E a i 0
  have hf : ∀ G, u.f G = s.f G := fun G => h G 0 0 0
  simp only [Dev.trigInst, Dev.framePeriod_congr hp (hf _), Dev.ringLen_congr hp, hp F.REEL_INST_LEN_PRE (by decide), hf]

theorem Dev.postInst_congr (h : ∀ G bank k j, u.fb G bank k j = s.fb G bank k j) (a i : Nat) (k : List (Nat × Nat)) (y : ReelInst) : u.postInst a i k y = s.postInst a i k y := by
  have hp : ∀ E ∈ [F.REEL_INST_CFG_TBASE, F.REEL_INST_CFG_DIV, F.REEL_INST_LEN_PRE, F.REEL_INST_LEN_POST], u.fs a E i = s.fs a E i := fun E _ => h E a i 0
  simp only [Dev.postInst, Dev.framePeriod_congr hp (h F.GLOBAL_CYCLE_CTL_PERIOD 0 0 0)]

/-- The device after a frame, from the device at its assembly. -/
def Dev.frameDone (s : Dev) (a i t : Nat) : Dev := (s.frameKept a i t).frameRest a i t ((s.chansDone a i t).reelInst i)

theorem Dev.frameDone_mem (hw : s.reelState i = rPre ∨ s.reelState i = rPost) : let u := s.frameDone a i t
    u.reel.ram = Mem.writeList s.reel.ram (s.framePlace a i) (s.frameBytes a i t) ∧ (u.reelInst i).count = (s.reelInst i).count + 1 ∧ (u.reelInst i).lastT = t ∧
      (u.reelInst i).fired = ((s.reelInst i).waiting t).fired ∧ s.Keeps [.reel] s.out u := by
  obtain ⟨hram, hinst, hfb, hk⟩ := Dev.frameKept_spec (s := s) a i t
  unfold Dev.frameDone
  rw [Dev.chansDone_inst]
  generalize s.frameKept a i t = w at hram hinst hfb hk
  have hstep : ∀ u : Dev, w.RecLeaves frameFlds u → (u.reelInst i).count = (s.reelInst i).count + 1 ∧ (u.reelInst i).lastT = t ∧ (u.reelInst i).fired = (w.reelInst i).fired →
      u.reel.ram = Mem.writeList s.reel.ram (s.framePlace a i) (s.frameBytes a i t) ∧ (u.reelInst i).count = (s.reelInst i).count + 1 ∧ (u.reelInst i).lastT = t ∧
        (u.reelInst i).fired = ((s.reelInst i).waiting t).fired ∧ s.Keeps [.reel] s.out u := fun u hl ⟨h1, h2, h3⟩ =>
    ⟨hl.ram.trans hram, h1, h2, h3.trans (congrArg ReelInst.fired hinst), hk.next hl.keeps (by decide)⟩
  rcases hw with hst | hst
  · by_cases hm : (s.reelInst i).mine t (w.framePeriod a i) = []
    · obtain ⟨h1, -, h3⟩ := Dev.frameRest_quiet (w := w) ((hfb ..).trans hst) hm
      exact hstep _ h1 ⟨(congrArg ReelInst.count h3 : _), (congrArg ReelInst.lastT h3 : _), (congrArg ReelInst.fired h3 : _)⟩
    · obtain ⟨h1, -, h3⟩ := Dev.frameRest_triggered (w := w) ((hfb ..).trans hst) hm
      exact hstep _ h1 ⟨(congrArg ReelInst.count h3 : _), (congrArg ReelInst.lastT h3 : _), (congrArg ReelInst.fired h3 : _)⟩
  · obtain ⟨h1, -, h3⟩ := Dev.frameRest_post (w := w) (a := a) (t := t) (x := s.reelInst i) ((hfb ..).trans hst)
    exact hstep _ h1 ⟨(congrArg ReelInst.count h3 : _), (congrArg ReelInst.lastT h3 : _), (congrArg ReelInst.fired h3 : _)⟩

theorem Dev.frameDone_pre (hst : s.reelState i = rPre) : let u := s.frameDone a i t
    let mine := (s.reelInst i).mine t (s.framePeriod a i)
    (mine = [] → u.reelState i = rPre) ∧
    (mine ≠ [] → u.reelState i = rPost ∧ (u.reelInst i).noMiss = ((s.trigInst a i t mine ((s.reelInst i).waiting t)).ended (s.reelInst i).count t).noMiss) := by
  obtain ⟨-, hinst, hfb, -⟩ := Dev.frameKept_spec (s := s) a i t
  unfold Dev.frameDone
  rw [Dev.chansDone_inst]
  generalize s.frameKept a i t = w at hinst hfb
  have hper : w.framePeriod a i = s.framePeriod a i := Dev.framePeriod_congr (fun E _ => hfb E a i 0) (hfb ..)
  refine ⟨fun hm => (Dev.frameRest_quiet (w := w) ((hfb ..).trans hst) (by rw [hper]; exact hm)).2.1, fun hm => ?_⟩
  obtain ⟨-, h2, h3⟩ := Dev.frameRest_triggered (w := w) ((hfb ..).trans hst) (by rw [hper]; exact hm)
  rw [hper, hinst, Dev.trigInst_congr hfb] at h3
  exact ⟨h2, h3⟩

theorem Dev.frameDone_post (hst : s.reelState i = rPost) : let u := s.frameDone a i t
    u.reelState i = rPost ∧ u.reelInst i = (s.postInst a i ((s.reelInst i).due t) { (s.reelInst i).waiting t with post := (s.reelInst i).post + 1 }).ended (s.reelInst i).count t := by
  obtain ⟨-, hinst, hfb, -⟩ := Dev.frameKept_spec (s := s) a i t
  unfold Dev.frameDone
  rw [Dev.chansDone_inst]
  generalize s.frameKept a i t = w at hinst hfb
  obtain ⟨-, h2, h3⟩ := Dev.frameRest_post (w := w) (a := a) (t := t) (x := s.reelInst i) ((hfb ..).trans hst)
  rw [hinst, Dev.postInst_congr hfb] at h3
  exact ⟨h2, h3⟩

end

/-- Settles O40: the frame is written first; the triggers then change only the INST, its state and the counters of what is missed. -/
theorem reelFrameIsWritten : Obligations.ReelFrameIsWritten := by
  unfold Obligations.ReelFrameIsWritten
  intro s i t d a x writes
  refine ⟨fun h => s.runs_reelFrame.of_eq (Dev.reelFrame_none (s := s.dev.begin) h), fun hen hcfg hring hn hw => ?_⟩
  intro per due mine back base bytes
  have hrun := s.runs_reelFrame.of_eq (Dev.reelFrame_due (s := s.dev.begin) hen hcfg hring hn hw)
  obtain ⟨z, hz⟩ := s.dev.begin.advanceTo_withTime (t + frameLag)
  have hb : bytes = Dev.frameBytes { s.dev.begin with time := z } a i t := congrArg (·.frameBytes a i t) hz
  rw [hz] at hrun
  have hk : s.dev.Keeps [.reel, .time] [] { s.dev.begin with time := z } := (Dev.keeps_begin _ _).setTime (by decide) z
  have hst : Dev.reelState { s.dev.begin with time := z } i = rPre ∨ Dev.reelState { s.dev.begin with time := z } i = rPost := hw.imp_right And.left
  obtain ⟨h1, h2, h3, h4, h5⟩ := Dev.frameDone_mem (s := { s.dev.begin with time := z }) (a := a) (t := t) hst
  have hpre := fun h => Dev.frameDone_pre (s := { s.dev.begin with time := z }) (a := a) (i := i) (t := t) h
  have hpost := fun h => Dev.frameDone_post (s := { s.dev.begin with time := z }) (a := a) (i := i) (t := t) h
  change s.Runs _ (Dev.frameDone { s.dev.begin with time := z } a i t) at hrun
  generalize Dev.frameDone { s.dev.begin with time := z } a i t = u at hrun h1 h2 h3 h4 h5 hpre hpost
  refine hrun.does ⟨?_, fun p hp => ?_, h2, h3, h4, fun h hm => (hpre h).1 hm, fun h hm => ?_, fun h => ?_, hk.next h5 (by decide)⟩
  · rw [h1, hb]
    exact Mem.readList_writeList ..
  · rw [h1]
    rw [hb] at hp
    exact Mem.read_writeList_other _ _ _ hp
  · intro own
    obtain ⟨k1, k2⟩ := (hpre h).2 hm
    exact ⟨k1, (congrArg ReelInst.t0 k2 : _), (congrArg ReelInst.src k2 : _), (congrArg ReelInst.first k2 : _), (congrArg ReelInst.trgT k2 : _), (congrArg ReelInst.post k2 : _),
      (congrArg ReelInst.pre k2 : _), (congrArg ReelInst.postTrg k2 : _)⟩
  · obtain ⟨k1, k2⟩ := hpost h
    exact ⟨k1, (congrArg ReelInst.post k2 : _), (congrArg ReelInst.t0 k2 : _), (congrArg ReelInst.src k2 : _), (congrArg ReelInst.postTrg k2 : _)⟩

end Sys2Proof.Machine
end

section
/-! The end of a record, the slots and the commands of an INST (R372, R375 to R379), and O41. -/

namespace Sys2Proof.Machine

section
variable {s u v w g : Dev} {l : List Fld}

/-! ### Slots -/

/-- A register of REEL that lies below the slot map, for each of the four instances. -/
def Fld.belowMap (E : Fld) : Bool := decide (E.blk = .reel) && decide (E.off + 3 * E.s1 < 0x3000) && decide (E.lo < 64)

theorem Dev.f_map_put {E : Fld} (h : E.belowMap = true) (x : Nat) {i : Nat} (hi : i < 4) (k j : Nat) : (s.put E x i).f F.REEL_SLOT_MAP_USED k j = s.f F.REEL_SLOT_MAP_USED k j := by
  simp only [Fld.belowMap, Bool.and_eq_true, decide_eq_true_eq] at h
  obtain ⟨⟨-, hoff⟩, hlo⟩ := h
  refine Dev.f_put_other _ _ _ _ _ _ (.inr ?_)
  have hm : E.s1 * i ≤ 3 * E.s1 := by rw [Nat.mul_comm]; exact Nat.mul_le_mul_right _ (by omega)
  simp only [Fld.key, F.REEL_SLOT_MAP_USED, Nat.mul_zero, Nat.add_zero, Nat.zero_mul, Nat.zero_add]
  omega

/-- Only the named registers, channels, triggers and instances of the recorder have changed, and no slot. -/
structure Dev.RecKept (l : List Fld) (s u : Dev) : Prop where
  leaves : s.RecLeaves l u
  map    : ∀ k j, u.f F.REEL_SLOT_MAP_USED k j = s.f F.REEL_SLOT_MAP_USED k j

theorem Dev.recKept_refl (l : List Fld) (s : Dev) : Dev.RecKept l s s := ⟨Dev.recLeaves_refl l s, fun _ _ => rfl⟩
theorem Dev.RecKept.trans (h : s.RecKept l u) (k : u.RecKept l v) : s.RecKept l v := ⟨h.leaves.trans k.leaves, fun m j => (k.map m j).trans (h.map m j)⟩
theorem Dev.RecKept.mono {l' : List Fld} (h : s.RecKept l u) (hsub : ∀ E ∈ l, E ∈ l') : s.RecKept l' u := ⟨h.leaves.mono hsub, h.map⟩
theorem Dev.RecKept.iff (h : s.RecKept l u) (c : Bool) (act : Dev → Dev) (hg : c = true → s.RecKept l (act u)) : s.RecKept l (u.iff c act) := by
  cases c
  · exact h
  · exact hg rfl
theorem Dev.RecKept.each {α : Type} (h : s.RecKept l u) (k : List α) (act : Dev → α → Dev) (hg : ∀ v, ∀ a ∈ k, s.RecKept l v → s.RecKept l (act v a)) : s.RecKept l (u.each k act) :=
  Dev.each_inv _ k act hg u h
theorem Dev.RecKept.setReelInst (h : s.RecKept l u) (i : Nat) (x : ReelInst) : s.RecKept l (u.setReelInst i x) :=
  ⟨h.leaves.setReelInst i x, fun k j => (Dev.fb_setReelInst ..).trans (h.map k j)⟩
theorem Dev.RecKept.setReelCh (h : s.RecKept l u) (k : Nat) (x : ReelCh) : s.RecKept l (u.setReelCh k x) :=
  ⟨h.leaves.setReelCh k x, fun m j => (Dev.fb_setReel (s := u) rfl ..).trans (h.map m j)⟩

theorem Dev.RecKept.put (h : s.RecKept l u) {E : Fld} (hE : E ∈ l) (hb : E.belowMap = true) (x : Nat) {i : Nat} (hi : i < 4) : s.RecKept l (u.put E x i) := by
  have hblk : E.blk = .reel := by
    simp only [Fld.belowMap, Bool.and_eq_true, decide_eq_true_eq] at hb
    exact hb.1.1
  exact ⟨h.leaves.put hE hblk x i 0, fun k j => (Dev.f_map_put hb x hi k j).trans (h.map k j)⟩

theorem Dev.RecKept.inc (h : s.RecKept l u) {E : Fld} (hE : E ∈ l) (hb : E.belowMap = true) (n : Nat) {i : Nat} (hi : i < 4) : s.RecKept l (u.inc E n i) := by
  have hblk : E.blk = .reel := by
    simp only [Fld.belowMap, Bool.and_eq_true, decide_eq_true_eq] at hb
    exact hb.1.1
  exact ⟨h.leaves.inc hE hblk n i 0, fun k j => (Dev.befall_fb ..).trans ((Dev.f_map_put hb (satAdd E.w (u.f E i) n) hi k j).trans (h.map k j))⟩

theorem Dev.slotUsed_congr (h : ∀ k j, u.f F.REEL_SLOT_MAP_USED k j = s.f F.REEL_SLOT_MAP_USED k j) (i k : Nat) : u.slotUsed i k = s.slotUsed i k := by rw [Dev.slotUsed, h]; rfl
theorem Dev.RecKept.slotUsed (h : s.RecKept l u) (i k : Nat) : u.slotUsed i k = s.slotUsed i k := Dev.slotUsed_congr h.map i k

theorem Dev.setSlotUsed_same (i k : Nat) (b : Bool) : (s.setSlotUsed i k b).slotUsed i k = b := Dev.bit_setBit_same s F.REEL_SLOT_MAP_USED (k % 32) i (k / 32) b (Nat.mod_lt k (by decide))

theorem Dev.setSlotUsed_inst (i k : Nat) (b : Bool) (m : Nat) : (s.setSlotUsed i k b).reelInst m = s.reelInst m := Dev.reelInst_befall F.REEL_SLOT_MAP_USED (fun x => putBit x (k % 32) b) i (k / 32) m

theorem Dev.setSlotUsed_leaves (i k : Nat) (b : Bool) : s.RecLeaves [F.REEL_SLOT_MAP_USED] (s.setSlotUsed i k b) :=
  (Dev.recLeaves_refl _ s).befall (E := F.REEL_SLOT_MAP_USED) (by decide) rfl (fun x => putBit x (k % 32) b) i (k / 32)

/-! ### Triggers that fire -/

/-- An INST but for its triggers. -/
def ReelInst.noTrg (x : ReelInst) : ReelInst := { x with fired := [], missed := 0, missedAt := 0 }

theorem Dev.RecKept.missTrigger (h : s.RecKept l u) (hl : ∀ E ∈ missFlds, E ∈ l) {i : Nat} (hi : i < 4) (n : Nat) : s.RecKept l (u.missTrigger i n) := by
  rw [Dev.missTrigger_eq]
  exact ((h.iff _ _ fun _ => h.put (hl F.REEL_INST_MISS_FIRST_NS (by decide)) (by decide) _ hi).inc (hl F.REEL_INST_MISS_MISSED (by decide)) (by decide) 1 hi).setReelInst ..

theorem Dev.RecKept.fireUnit (h : s.RecKept l u) (hl : ∀ E ∈ missFlds, E ∈ l) {i : Nat} (hi : i < 4) (t n : Nat) : s.RecKept l (u.fireUnit i t n) := by
  unfold Dev.fireUnit
  dsimp only
  split
  · exact h
  · split
    · exact h.missTrigger hl hi n
    · exact h.setReelInst ..

theorem Dev.fireUnit_inst (i t n m : Nat) : ((s.fireUnit i t n).reelInst m).noTrg = (s.reelInst m).noTrg := by
  unfold Dev.fireUnit
  dsimp only
  split
  · rfl
  · split
    · exact (congrArg ReelInst.noTrg (Dev.missTrigger_inst i n m) : _)
    · rcases eq_or_ne m i with rfl | h
      · rw [Dev.reelInst_set_same]
        rfl
      · rw [Dev.reelInst_set_other h]

theorem Dev.fireUnit_mem {p : Nat × Nat} {m : Nat} (h : p ∈ (s.reelInst m).fired) (i t n : Nat) : p ∈ ((s.fireUnit i t n).reelInst m).fired := by
  unfold Dev.fireUnit
  dsimp only
  split
  · exact h
  · split
    · rw [show ((s.missTrigger i n).reelInst m).fired = (s.reelInst m).fired from (congrArg ReelInst.fired (Dev.missTrigger_inst i n m) : _)]
      exact h
    · rcases eq_or_ne m i with rfl | hm
      · rw [Dev.reelInst_set_same]
        exact List.mem_cons_of_mem _ h
      · rw [Dev.reelInst_set_other hm]
        exact h

/-- In PRE and in POST a trigger is held for its frame (R374). -/
theorem Dev.fireUnit_held {i : Nat} (hst : s.reelState i = rPre ∨ s.reelState i = rPost) {n : Nat} (hf : trgBy n (s.reelInst i).from_ = false) (t : Nat) :
    (t, n) ∈ ((s.fireUnit i t n).reelInst i).fired := by
  have h1 : ¬ (s.reelState i = rIdle ∨ trgBy n (s.reelInst i).from_ = true) := by
    rw [hf]
    rcases hst with h | h <;> rw [h] <;> decide
  have h2 : ¬ (s.reelState i = rFull ∨ (s.reelState i = rRearm ∧ trgBy n (s.rearmT s.actSet i) = true)) := by
    rintro (h | ⟨h, -⟩) <;> rcases hst with h' | h' <;> exact absurd (h'.symm.trans h) (by decide)
  have he : s.fireUnit i t n = s.setReelInst i { s.reelInst i with fired := (t, n) :: (s.reelInst i).fired } := (if_neg h1).trans (if_neg h2)
  rw [he, Dev.reelInst_set_same]
  exact List.mem_cons_self

/-! ### A slot is taken -/

theorem Dev.RecKept.reelShow (h : s.RecKept l u) (hl : F.REEL_INST_STAT_FREE ∈ l) {i : Nat} (hi : i < 4) : s.RecKept l (u.reelShow i) := h.put hl (by decide) _ hi
theorem Dev.reelShow_inst (i k : Nat) : (s.reelShow i).reelInst k = s.reelInst k := Dev.reelInst_put ..

/-- The INST in its new slot. -/
def ReelInst.inSlot (x : ReelInst) (ovwr : Bool) : ReelInst :=
  { x with count := 0, src := 0, first := 0, trgT := 0, pre := 0, post := 0, postTrg := 0, flags := 0, ovwr := ovwr }

def slotFlds : List Fld := [F.REEL_INST_STAT_STATE, F.REEL_INST_STAT_SLOT, F.REEL_INST_STAT_FREE]

theorem Dev.takeSlot_spec {i : Nat} (hi : i < 4) (k : Nat) (b : Bool) : let u := s.takeSlot i k b
    s.RecKept slotFlds u ∧ u.reelState i = rPre ∧ u.f F.REEL_INST_STAT_SLOT i = k % 256 ∧ u.reelInst i = (s.reelInst i).inSlot b := by
  have he : s.takeSlot i k b = (((s.setReelInst i ((s.reelInst i).inSlot b)).put F.REEL_INST_STAT_STATE rPre i).put F.REEL_INST_STAT_SLOT k i).reelShow i := rfl
  rw [he]
  refine ⟨((((Dev.recKept_refl _ s).setReelInst _ _).put (by decide) (by decide) _ hi).put (by decide) (by decide) _ hi).reelShow (by decide) hi, ?_, ?_, ?_⟩
  · exact (Dev.f_put_apart _ _ _ _ _ _ (by decide)).trans ((Dev.f_put_apart _ _ _ _ _ _ (by decide)).trans (Dev.f_put_same ..))
  · exact (Dev.f_put_apart _ _ _ _ _ _ (by decide)).trans (Dev.f_put_same ..)
  · rw [Dev.reelShow_inst, Dev.reelInst_put, Dev.reelInst_put, Dev.reelInst_set_same]

theorem Dev.takeFree_some {a i k : Nat} (h : s.freeSlot a i = some k) : s.takeFree a i = s.takeSlot i k false := by rw [Dev.takeFree, h]
theorem Dev.takeFree_none {a i : Nat} (h : s.freeSlot a i = none) : s.takeFree a i = (s.put F.REEL_INST_STAT_STATE rFull i).reelShow i := by rw [Dev.takeFree, h]

/-- A new state, shown with the slots that are free. -/
theorem Dev.putState_spec {i : Nat} (hi : i < 4) (st : Nat) (hst : st < 8) : let u := (s.put F.REEL_INST_STAT_STATE st i).reelShow i
    s.RecKept slotFlds u ∧ u.reelState i = st ∧ u.reelInst i = s.reelInst i := by
  refine ⟨((Dev.recKept_refl _ s).put (by decide) (by decide) _ hi).reelShow (by decide) hi, ?_, ?_⟩
  · exact (Dev.f_put_apart _ _ _ _ _ _ (by decide)).trans ((Dev.f_put_same ..).trans (Nat.mod_eq_of_lt hst))
  · rw [Dev.reelShow_inst, Dev.reelInst_put]

theorem Dev.reelStart_spec (a i : Nat) : let u := s.reelStart a i
    s.RecKept [] u ∧ u.reelInst i = { s.reelInst i with lastT := s.now, fired := [] } ∧ ∀ b k, u.freeSlot b k = s.freeSlot b k := by
  have hch : ∃ c, s.each (s.instChans a i) (fun s k => s.setReelCh k
      { last := if s.fs a F.REEL_CH_KIND k = kDig then s.reel.dig else Tab.get 0 s.reel.src (s.fs a F.REEL_CH_KIND k * 2 ^ 16 + s.fs a F.REEL_CH_SEL k), upd := [] }) =
      { s with reel := { s.reel with ch := c } } :=
    Dev.each_inv (fun v => ∃ c, v = { s with reel := { s.reel with ch := c } }) _ _ (fun _ _ _ ⟨_, hc⟩ => hc ▸ ⟨_, rfl⟩) s ⟨s.reel.ch, rfl⟩
  obtain ⟨c, hc⟩ := hch
  have he : s.reelStart a i = Dev.setReelInst { s with reel := { s.reel with ch := c } } i { s.reelInst i with lastT := s.now, fired := [] } := by
    unfold Dev.reelStart
    dsimp only
    rw [hc]
    rfl
  rw [he]
  refine ⟨?_, Dev.reelInst_set_same .., fun _ _ => rfl⟩
  have h : s.RecKept [] { s with reel := { s.reel with ch := c } } :=
    ⟨(Dev.recLeaves_refl _ s).setReel { s.reel with ch := c } rfl rfl, fun k j => Dev.fb_setReel (s := s) (x := { s.reel with ch := c }) rfl _ 0 k j⟩
  exact h.setReelInst ..

/-! ### A record closes -/

theorem Dev.grows_postNotice (r : Nat) (e : CqEntry) : s.Grows [.hostq] (s.postNotice r e) := by
  refine .ite _ (fun _ => Dev.grows_setCq _ (by decide) ..) fun _ => .ite _ (fun _ => ?_) fun _ => ?_
  · exact (Dev.grows_setCq s (by decide) ..).trans (Dev.grows_put (G := F.HOSTQ_CQ_STAT_HELD) _ (by decide) _ r)
  · exact ((Dev.grows_setCq s (by decide) ..).trans (Dev.grows_inc (G := F.HOSTQ_CQ_STAT_LOST_CNT) _ (by decide) 1 r)).trans (Dev.grows_hostEvt _ (by decide) F.HOSTQ_EVT_NOTICE_LOST (by decide))

/-- A header depends on the recorder and on the control period. -/
theorem Dev.reelHeader_congr (hr : u.role = s.role) (hg : u.glob = s.glob) (hx : u.reel = s.reel) (a i fl : Nat) : u.reelHeader a i fl = s.reelHeader a i fl := by
  have h : u.reelHeader a i fl = Dev.reelHeader { s with role := u.role, glob := u.glob, reel := u.reel } a i fl := rfl
  rw [h, hr, hg, hx]

theorem Dev.reelHeader_length (a i fl : Nat) : (s.reelHeader a i fl).length = 64 := by
  unfold Dev.reelHeader
  extract_lets x ns ring b
  have hb : b.length = 60 := by
    unfold b
    repeat rw [List.length_append]
    repeat rw [length_bytesOf]
  rw [List.length_append, hb, length_bytesOf]

/-- The record in the memory, with its number. -/
def Dev.writeRecord (s : Dev) (a i slot seq : Nat) (b : List Byte) : Dev :=
  { s with reel := { s.reel with ram := Mem.writeList s.reel.ram (s.slotBase a i slot) b, seqs := Tab.put s.reel.seqs (i * 256 + slot) seq } }

/-- The INST after a record. -/
def ReelInst.closed (x : ReelInst) : ReelInst := { x with missed := 0, missedAt := 0, seq := (x.seq + 1) % 2 ^ 32, from_ := x.lastT }

theorem Dev.closeRecord_eq (a i : Nat) (cut : Bool) : let x := s.reelInst i
    let slot := s.f F.REEL_INST_STAT_SLOT i
    let g := s.reelNotice a i cut .ok
    s.closeRecord a i cut = (((g.writeRecord a i slot x.seq (g.reelHeader a i (g.recordFlags i cut))).setSlotUsed i slot true).inc F.REEL_INST_CNT_RECORDS 1 i).setReelInst i x.closed := rfl

def closeFlds : List Fld := [F.REEL_SLOT_MAP_USED, F.REEL_INST_CNT_RECORDS]

theorem Dev.closeRecord_spec {i : Nat} (hi : i < 4) (a : Nat) (cut : Bool) : let u := s.closeRecord a i cut
    let slot := s.f F.REEL_INST_STAT_SLOT i
    u.reel.ram = Mem.writeList s.reel.ram (s.slotBase a i slot) (s.reelHeader a i (s.recordFlags i cut)) ∧ u.slotUsed i slot = true ∧ u.reelInst i = (s.reelInst i).closed ∧
      s.Keeps [.reel, .hostq] u.out u := by
  dsimp only
  have hn : s.Grows [.hostq] (s.reelNotice a i cut .ok) := Dev.grows_postNotice ..
  have he := Dev.closeRecord_eq (s := s) a i cut
  dsimp only at he
  generalize s.reelNotice a i cut .ok = g at hn he
  have hrole := hn.1.role_eq
  have hglob := hn.1.glob_eq (by decide)
  have hreel := hn.1.reel_eq (by decide)
  have hflags : g.recordFlags i cut = s.recordFlags i cut := by rw [Dev.recordFlags, Dev.reelInst, hreel]; rfl
  rw [Dev.reelHeader_congr hrole hglob hreel, hflags] at he
  have hbase : g.slotBase a i (s.f F.REEL_INST_STAT_SLOT i) = s.slotBase a i (s.f F.REEL_INST_STAT_SLOT i) := by
    have h : g.slotBase a i (s.f F.REEL_INST_STAT_SLOT i) = Dev.slotBase { s with role := g.role, reel := g.reel } a i (s.f F.REEL_INST_STAT_SLOT i) := rfl
    rw [h, hrole, hreel]
  generalize s.reelHeader a i (s.recordFlags i cut) = b at he
  generalize s.f F.REEL_INST_STAT_SLOT i = slot at he hbase
  have hw : (g.writeRecord a i slot (s.reelInst i).seq b).reel.ram = Mem.writeList s.reel.ram (s.slotBase a i slot) b := by rw [← hbase, ← hreel]; rfl
  have hk : s.Keeps [.reel, .hostq] g.out (g.writeRecord a i slot (s.reelInst i).seq b) := (hn.1.mono (by decide)).setReel (by decide) _
  generalize g.writeRecord a i slot (s.reelInst i).seq b = w at he hw hk
  have hu := Dev.setSlotUsed_leaves (s := w) i slot true
  have hu' := Dev.setSlotUsed_same (s := w) i slot true
  generalize w.setSlotUsed i slot true = v at he hu hu'
  have hl : v.RecKept [F.REEL_INST_CNT_RECORDS] (s.closeRecord a i cut) := he ▸ ((Dev.recKept_refl _ v).inc (by decide) (by decide) 1 hi).setReelInst ..
  refine ⟨hl.leaves.ram.trans (hu.ram.trans hw), (hl.slotUsed i slot).trans hu', by rw [he, Dev.reelInst_set_same], ?_⟩
  have hall := (hk.next hu.keeps (by decide)).next hl.leaves.keeps (by decide)
  exact hall.out_eq.symm ▸ hall

theorem Dev.readList_header {m : Mem} {at_ : Nat} {b : List Byte} (hm : u.reel.ram = Mem.writeList m at_ b) (hb : b.length = 64) :
    Mem.readList u.reel.ram at_ 64 = b ∧ ∀ p, p < at_ ∨ at_ + 64 ≤ p → Mem.read u.reel.ram p = Mem.read m p := by
  rw [hm, ← hb]
  exact ⟨Mem.readList_writeList .., fun p hp => Mem.read_writeList_other _ _ _ hp⟩

/-- The INST in REARM, and the triggers that came after its last frame (R375, R377). -/
def Dev.rearmed (v : Dev) (i : Nat) : Dev := (v.put F.REEL_INST_STAT_STATE rRearm i).setReelInst i { v.reelInst i with fired := [] }
def Dev.fireLate (v : Dev) (i : Nat) (k : List (Nat × Nat)) : Dev := v.each k.reverse fun s p => s.fireUnit i p.1 p.2

def recFlds : List Fld := slotFlds ++ missFlds

theorem Dev.recordClose_eq {i : Nat} (hst : s.reelState i = rPost) (hp : s.fs s.actSet F.REEL_INST_LEN_POST i ≤ (s.reelInst i).post) :
    s.recordClose i = (((s.closeRecord s.actSet i false).rearmed i).fireLate i (s.reelInst i).fired).reelShow i := by
  refine (if_pos ⟨hst, hp⟩).trans ?_
  unfold Dev.rearmed
  rw [← Dev.reelInst_put (s := s.closeRecord s.actSet i false) F.REEL_INST_STAT_STATE rRearm i 0 i]
  rfl

theorem Dev.recordClose_none {i : Nat} (h : s.reelState i ≠ rPost ∨ (s.reelInst i).post < s.fs s.actSet F.REEL_INST_LEN_POST i) : s.recordClose i = s :=
  if_neg fun ⟨h1, h2⟩ => h.elim (· h1) fun h => absurd h2 (Nat.not_le.mpr h)

theorem Dev.rearmed_spec {i : Nat} (hi : i < 4) (k : List (Nat × Nat)) : let u := ((v.rearmed i).fireLate i k).reelShow i
    v.RecKept recFlds u ∧ u.reelState i = rRearm ∧ (u.reelInst i).noTrg = (v.reelInst i).noTrg ∧ (k = [] → (u.reelInst i).fired = []) := by
  have h1 : v.RecKept recFlds (v.rearmed i) := ((Dev.recKept_refl _ v).put (by decide) (by decide) _ hi).setReelInst ..
  have h2 : (v.rearmed i).RecKept missFlds ((v.rearmed i).fireLate i k) := (Dev.recKept_refl _ _).each _ _ fun _ _ _ hw => hw.fireUnit (fun _ h => h) hi ..
  have h3 : (((v.rearmed i).fireLate i k).reelInst i).noTrg = ((v.rearmed i).reelInst i).noTrg :=
    Dev.each_inv (fun w => (w.reelInst i).noTrg = ((v.rearmed i).reelInst i).noTrg) _ _ (fun _ _ _ hw => (Dev.fireUnit_inst ..).trans hw) _ rfl
  have hst : (v.rearmed i).reelState i = rRearm := (Dev.fb_setReelInst ..).trans (Dev.f_put_same ..)
  refine ⟨(h1.trans (h2.mono (by decide))).reelShow (by decide) hi, ?_, ?_, fun hk => ?_⟩
  · exact (Dev.f_put_apart _ _ _ _ _ _ (by decide)).trans ((h2.leaves.f (by decide) i 0).trans hst)
  · rw [Dev.reelShow_inst, h3, Dev.rearmed, Dev.reelInst_set_same]
    rfl
  · rw [hk, Dev.reelShow_inst]
    exact congrArg ReelInst.fired (Dev.reelInst_set_same ..)

/-! ### The dead time ends -/

/-- The INST at the end of its dead time. -/
def Dev.deadOver (s : Dev) (a i t : Nat) : Dev := (s.chansDone a i t).setReelInst i { s.reelInst i with lastT := t }

theorem Dev.deadOver_spec (a i t : Nat) : let w := s.deadOver a i t
    s.RecKept [] w ∧ w.reelInst i = { s.reelInst i with lastT := t } ∧ w.freeSlot a i = s.freeSlot a i ∧ w.oldestSlot a i = s.oldestSlot a i ∧
      w.fs a F.REEL_INST_CFG_OVWR i = s.fs a F.REEL_INST_CFG_OVWR i := by
  unfold Dev.deadOver
  obtain ⟨c, hc⟩ := Dev.chansDone_eq (s := s) a i t
  rw [hc]
  have h : s.RecKept [] { s with reel := { s.reel with ch := c } } :=
    ⟨(Dev.recLeaves_refl _ s).setReel { s.reel with ch := c } rfl rfl, fun k j => Dev.fb_setReel (s := s) (x := { s.reel with ch := c }) rfl _ 0 k j⟩
  exact ⟨h.setReelInst .., Dev.reelInst_set_same .., rfl, rfl, rfl⟩

theorem Dev.rearmEnd_none {i : Nat} (h : s.reelState i ≠ rRearm ∨ s.rearmDue s.actSet i = false) : s.rearmEnd i = s :=
  if_pos (h.imp_right fun h => by rw [h]; decide)

/-- The slot that follows: the lowest free one, the oldest where records may be overwritten, or none (R375). -/
def Dev.takeNext (w : Dev) (a i : Nat) : Dev :=
  match w.freeSlot a i with
  | some k => w.takeSlot i k false
  | none =>
    if w.fs a F.REEL_INST_CFG_OVWR i = 1 then
      match w.oldestSlot a i with
      | some k => ((w.setSlotUsed i k false).takeSlot i k true).inc F.REEL_INST_CNT_OVWR_CNT 1 i
      | none => w.reelFull i
    else w.reelFull i

theorem Dev.rearmEnd_due {i : Nat} (hst : s.reelState i = rRearm) (hdue : s.rearmDue s.actSet i = true) :
    s.rearmEnd i = ((s.advanceTo (s.rearmT s.actSet i)).deadOver s.actSet i (s.rearmT s.actSet i)).takeNext s.actSet i :=
  if_neg (not_or.mpr ⟨not_not_intro hst, not_not_intro hdue⟩)

theorem Dev.takeNext_free {a i k : Nat} (hf : w.freeSlot a i = some k) : w.takeNext a i = w.takeSlot i k false := by rw [Dev.takeNext, hf]
theorem Dev.takeNext_full {a i : Nat} (hf : w.freeSlot a i = none) (ho : w.fs a F.REEL_INST_CFG_OVWR i = 0) : w.takeNext a i = w.reelFull i := by
  rw [Dev.takeNext, hf]
  exact if_neg (fun h => absurd (ho.symm.trans h) (by decide))
theorem Dev.takeNext_oldest {a i k : Nat} (hf : w.freeSlot a i = none) (ho : w.fs a F.REEL_INST_CFG_OVWR i = 1) (hk : w.oldestSlot a i = some k) :
    w.takeNext a i = ((w.setSlotUsed i k false).takeSlot i k true).inc F.REEL_INST_CNT_OVWR_CNT 1 i := by
  rw [Dev.takeNext, hf]
  refine (if_pos ho).trans ?_
  rw [hk]

theorem Dev.reelFull_spec {i : Nat} (hi : i < 4) : let u := s.reelFull i
    s.RecKept recFlds u ∧ u.reelState i = rFull := by
  have h1 : s.RecKept recFlds ((s.put F.REEL_INST_STAT_STATE rFull i).setReelInst i { s.reelInst i with fired := [] }) := ((Dev.recKept_refl _ s).put (by decide) (by decide) _ hi).setReelInst ..
  have hst : Dev.reelState ((s.put F.REEL_INST_STAT_STATE rFull i).setReelInst i { s.reelInst i with fired := [] }) i = rFull := (Dev.fb_setReelInst ..).trans (Dev.f_put_same ..)
  have he : s.reelFull i = (((s.put F.REEL_INST_STAT_STATE rFull i).setReelInst i { s.reelInst i with fired := [] }).missAll i (s.reelInst i).fired).reelShow i := by
    rw [← Dev.reelInst_put (s := s) F.REEL_INST_STAT_STATE rFull i 0 i]
    rfl
  rw [he]
  generalize (s.put F.REEL_INST_STAT_STATE rFull i).setReelInst i { s.reelInst i with fired := [] } = v at h1 hst
  have h2 : v.RecKept missFlds (v.missAll i (s.reelInst i).fired) := (Dev.recKept_refl _ v).each _ _ fun _ _ _ hw => hw.missTrigger (fun _ h => h) hi _
  exact ⟨(h1.trans (h2.mono (by decide))).reelShow (by decide) hi, (Dev.f_put_apart _ _ _ _ _ _ (by decide)).trans ((h2.leaves.f (by decide) i 0).trans hst)⟩

/-! ### The commands -/

theorem Dev.reelArm_off {i : Nat} (h : s.fs s.actSet F.REEL_INST_CFG_EN i = 0) : s.reelArm i = (.invalid, s) := if_pos h
theorem Dev.reelArm_armed {i : Nat} (h : s.fs s.actSet F.REEL_INST_CFG_EN i ≠ 0) (hst : s.reelState i ≠ rIdle) : s.reelArm i = (.ok, s) := (if_neg h).trans (if_pos hst)

/-- The INST starts: what fired before now falls in IDLE (R377). -/
def Dev.startNow (s : Dev) (a i : Nat) : Dev := (s.reelStart a i).setReelInst i { (s.reelStart a i).reelInst i with from_ := s.now }

theorem Dev.reelArm_idle {i : Nat} (h : s.fs s.actSet F.REEL_INST_CFG_EN i ≠ 0) (hst : s.reelState i = rIdle) : s.reelArm i = (.ok, (s.startNow s.actSet i).takeFree s.actSet i) :=
  (if_neg h).trans (if_neg (not_not_intro hst))

theorem Dev.startNow_spec (a i : Nat) : let w := s.startNow a i
    s.RecKept [] w ∧ (w.reelInst i).lastT = s.now ∧ (w.reelInst i).fired = [] ∧ w.freeSlot a i = s.freeSlot a i := by
  obtain ⟨h1, h2, h3⟩ := Dev.reelStart_spec (s := s) a i
  unfold Dev.startNow
  generalize s.reelStart a i = v at h1 h2 h3
  refine ⟨h1.setReelInst .., ?_, ?_, (h3 a i ▸ rfl : Dev.freeSlot (v.setReelInst i _) a i = _)⟩
  · rw [Dev.reelInst_set_same, h2]
  · rw [Dev.reelInst_set_same, h2]

theorem Dev.reelStop_writes {i : Nat} (h : s.reelState i = rPre ∨ s.reelState i = rFull) : s.reelStop i = (s.put F.REEL_INST_STAT_STATE rIdle i).reelShow i := if_pos h
theorem Dev.reelStop_post {i : Nat} (h : s.reelState i = rPost) : s.reelStop i = ((s.closeRecord s.actSet i true).put F.REEL_INST_STAT_STATE rIdle i).reelShow i :=
  (if_neg (by rw [h]; decide)).trans (if_pos h)
theorem Dev.reelStop_none {i : Nat} (h1 : s.reelState i ≠ rPre) (h2 : s.reelState i ≠ rPost) (h3 : s.reelState i ≠ rFull) : s.reelStop i = s :=
  (if_neg (not_or.mpr ⟨h1, h3⟩)).trans (if_neg h2)

theorem Dev.reelRelease_free {i k : Nat} (h : s.slotUsed i k = false) : s.reelRelease i k = (.invalid, s) := if_pos (by rw [h]; decide)

/-- A release of a slot below 256 leaves the number of slots. -/
theorem Dev.setSlotUsed_slots {i k : Nat} (hi : i < 4) (hk : k < 256) (b : Bool) (a : Nat) : (s.setSlotUsed i k b).slots a i = s.slots a i := by
  have hkey : F.REEL_INST_AREA_SLOTS.key a i 0 ≠ F.REEL_SLOT_MAP_USED.key 0 i (k / 32) := by
    have hk' : k / 32 < 8 := by omega
    generalize k / 32 = n at hk'
    simp only [Fld.key, F.REEL_SLOT_MAP_USED, F.REEL_INST_AREA_SLOTS]
    omega
  rw [Dev.slots, Dev.fs, Dev.setSlotUsed, show Dev.fb (s.setBit F.REEL_SLOT_MAP_USED (k % 32) b i (k / 32)) F.REEL_INST_AREA_SLOTS a i = _ from Dev.befall_fb ..,
    show Dev.fb (s.put F.REEL_SLOT_MAP_USED (putBit (s.f F.REEL_SLOT_MAP_USED i (k / 32)) (k % 32) b) i (k / 32)) F.REEL_INST_AREA_SLOTS a i = _ from Dev.fb_putb_other _ _ _ _ _ _ _ (.inr hkey)]
  rfl

theorem Dev.reelRelease_eq {i k : Nat} (h : s.slotUsed i k = true) : let v := s.setSlotUsed i k false
    s.reelRelease i k = (.ok, if v.reelState i = rFull ∧ (v.slots v.actSet i).contains k then (v.reelStart v.actSet i).takeSlot i k false else v.reelShow i) := if_neg (not_not_intro h)

theorem Dev.setSlotUsed_state (i k : Nat) (b : Bool) (m : Nat) : (s.setSlotUsed i k b).reelState m = s.reelState m := (Dev.setSlotUsed_leaves i k b).f (by decide) m 0
theorem Dev.setSlotUsed_actSet (i k : Nat) (b : Bool) : (s.setSlotUsed i k b).actSet = s.actSet := (Dev.setSlotUsed_leaves i k b).f (by decide) 0 0

theorem Dev.contains_slots {a i k : Nat} : (s.slots a i).contains k = decide (k < s.fs a F.REEL_INST_AREA_SLOTS i) := by
  rw [Dev.slots, List.contains_eq_mem]
  exact decide_eq_decide.mpr List.mem_range

theorem Dev.reelRelease_shows {i k : Nat} (hi : i < 4) (hk : k < 256) (h : s.slotUsed i k = true) (hs : s.reelState i ≠ rFull ∨ s.fs s.actSet F.REEL_INST_AREA_SLOTS i ≤ k) :
    s.reelRelease i k = (.ok, (s.setSlotUsed i k false).reelShow i) := by
  rw [Dev.reelRelease_eq h]
  rw [Dev.setSlotUsed_state, Dev.setSlotUsed_actSet, Dev.setSlotUsed_slots hi hk, Dev.contains_slots, if_neg fun ⟨h1, h2⟩ => hs.elim (· h1) fun h => absurd (of_decide_eq_true h2) (Nat.not_lt.mpr h)]

theorem Dev.reelRelease_takes {i k : Nat} (hi : i < 4) (hk : k < 256) (h : s.slotUsed i k = true) (hs : s.reelState i = rFull) (hn : k < s.fs s.actSet F.REEL_INST_AREA_SLOTS i) :
    s.reelRelease i k = (.ok, ((s.setSlotUsed i k false).reelStart s.actSet i).takeSlot i k false) := by
  rw [Dev.reelRelease_eq h]
  rw [Dev.setSlotUsed_state, Dev.setSlotUsed_actSet, Dev.setSlotUsed_slots hi hk, Dev.contains_slots, if_pos ⟨hs, decide_eq_true hn⟩]

/-! ### FORCE -/

theorem mem_trgUnits {p : Nat × Nat} : p ∈ trgUnits ↔ p.1 < 4 ∧ p.2 < 8 := by
  obtain ⟨i, t⟩ := p
  simp only [trgUnits, List.mem_flatMap, List.mem_map, List.mem_range, Prod.mk.injEq]
  exact ⟨fun ⟨_, h1, _, h2, e1, e2⟩ => ⟨e1 ▸ h1, e2 ▸ h2⟩, fun ⟨h1, h2⟩ => ⟨i, h1, t, h2, rfl, rfl⟩⟩

/-- Triggers have fired: records, states and the rest of an INST stand. -/
structure Dev.Fired (i : Nat) (s u : Dev) : Prop where
  kept : s.RecKept missFlds u
  inst : (u.reelInst i).noTrg = (s.reelInst i).noTrg
  mem  : ∀ p ∈ (s.reelInst i).fired, p ∈ (u.reelInst i).fired

theorem Dev.fired_refl (i : Nat) (s : Dev) : s.Fired i s := ⟨Dev.recKept_refl _ s, rfl, fun _ h => h⟩
theorem Dev.Fired.trans {i : Nat} (h : s.Fired i u) (k : u.Fired i v) : s.Fired i v := ⟨h.kept.trans k.kept, k.inst.trans h.inst, fun p hp => k.mem p (h.mem p hp)⟩
theorem Dev.fired_unit (i : Nat) {k : Nat} (hk : k < 4) (t n : Nat) : s.Fired i (s.fireUnit k t n) :=
  ⟨(Dev.recKept_refl _ s).fireUnit (fun _ h => h) hk t n, Dev.fireUnit_inst .., fun _ hp => Dev.fireUnit_mem hp ..⟩
theorem Dev.fired_all (i : Nat) {k : Nat} (hk : k < 4) (t n : Nat) : (s.fireUnit k t n).Fired i (s.fireAll k t n) ∧ s.Fired i (s.fireAll k t n) := by
  have h : (s.fireUnit k t n).Fired i (s.fireAll k t n) := by
    refine Dev.each_inv (fun v => (s.fireUnit k t n).Fired i v) _ _ (fun v p hp hv => ?_) _ (Dev.fired_refl i _)
    unfold Dev.iff
    split
    · exact hv.trans (Dev.fired_unit i (mem_trgUnits.mp hp).1 ..)
    · exact hv
  exact ⟨h, (Dev.fired_unit i hk t n).trans h⟩

/-- The units that a write of FORCE fires. -/
def Dev.forced (s : Dev) (mask : Nat) : List (Nat × Nat) := trgUnits.filter fun p => bitOf mask p.1 && s.trgIs s.actSet p.1 p.2 6

theorem Dev.reelForce_off (h : s.f F.REEL_CTL_EN = 0) (mask : Nat) : s.reelForce mask = s := if_pos (by rw [Dev.flag, decide_eq_false (not_not_intro h)]; decide)
theorem Dev.reelForce_on (h : s.f F.REEL_CTL_EN ≠ 0) (mask : Nat) : s.reelForce mask = s.each (s.forced mask) fun s p => s.fireAll p.1 p.2 (s.now * 64 / 5) :=
  if_neg (not_not_intro (decide_eq_true h))

theorem Dev.Fired.now {i : Nat} (h : s.Fired i u) : u.now = s.now := Dev.now_of_time h.kept.leaves.keeps.role_eq (h.kept.leaves.keeps.time_eq (by decide))

theorem Dev.reelForce_fires {i n mask : Nat} (hi : i < 4) (hn : n < 8) (hm : bitOf mask i = true) (ht : s.trgIs s.actSet i n 6 = true)
    (hst : s.reelState i = rPre ∨ s.reelState i = rPost) (hf : trgBy (s.now * 64 / 5) (s.reelInst i).from_ = false) :
    let u := s.each (s.forced mask) fun s p => s.fireAll p.1 p.2 (s.now * 64 / 5)
    s.Fired i u ∧ (n, s.now * 64 / 5) ∈ (u.reelInst i).fired := by
  have hlt : ∀ p ∈ s.forced mask, p.1 < 4 := fun p hp => (mem_trgUnits.mp (List.mem_filter.mp hp).1).1
  refine Dev.each_at (fun v => s.Fired i v) (fun v => s.Fired i v ∧ (n, s.now * 64 / 5) ∈ (v.reelInst i).fired) (s.forced mask) _ (c := (i, n))
    (List.mem_filter.mpr ⟨mem_trgUnits.mpr ⟨hi, hn⟩, by rw [hm, ht]; rfl⟩) (fun v p hp hv => hv.trans (Dev.fired_all i (hlt p hp) ..).2) (fun v hv => ?_)
    (fun v p hp hv => ⟨hv.1.trans (Dev.fired_all i (hlt p hp) ..).2, (Dev.fired_all i (hlt p hp) ..).2.mem _ hv.2⟩) s (Dev.fired_refl i s)
  obtain ⟨h1, h2⟩ := Dev.fired_all (s := v) i hi n (v.now * 64 / 5)
  refine ⟨hv.trans h2, ?_⟩
  have hstv : v.reelState i = s.reelState i := hv.kept.leaves.f (by decide) i 0
  have hfrom : (v.reelInst i).from_ = (s.reelInst i).from_ := (congrArg ReelInst.from_ hv.inst : _)
  have hmem := Dev.fireUnit_held (s := v) (i := i) (by rw [hstv]; exact hst) (by rw [hfrom]; exact hf) n
  rw [hv.now] at h1 ⊢
  exact h1.mem _ hmem

end

section
variable {s : Dev} {i : Nat} (hi : i < 4)
include hi

/-- How a record ends. -/
theorem Dev.recordClose_ends (hst : s.reelState i = rPost) (hcur : s.f F.REEL_INST_STAT_SLOT i < 256) (hp : s.fs s.actSet F.REEL_INST_LEN_POST i ≤ (s.reelInst i).post) : let u := s.recordClose i
    let cur := s.f F.REEL_INST_STAT_SLOT i
    u.reelState i = rRearm ∧ u.slotUsed i cur = true ∧ (u.reelInst i).seq = ((s.reelInst i).seq + 1) % 2 ^ 32 ∧ (u.reelInst i).from_ = (s.reelInst i).lastT ∧
      ((s.reelInst i).fired = [] → (u.reelInst i).fired = []) ∧
      Mem.readList u.reel.ram (s.slotBase s.actSet i cur) 64 = s.reelHeader s.actSet i (s.recordFlags i false) ∧
      (∀ p, p < s.slotBase s.actSet i cur ∨ s.slotBase s.actSet i cur + 64 ≤ p → Mem.read u.reel.ram p = Mem.read s.reel.ram p) ∧ s.Keeps [.reel, .hostq] u.out u := by
  dsimp only
  rw [Dev.recordClose_eq hst hp]
  obtain ⟨c1, c2, c3, c4⟩ := Dev.closeRecord_spec (s := s) hi s.actSet false
  generalize s.closeRecord s.actSet i false = v at c1 c2 c3 c4
  obtain ⟨k1, k2, k3, k4⟩ := Dev.rearmed_spec (v := v) hi (s.reelInst i).fired
  generalize ((v.rearmed i).fireLate i (s.reelInst i).fired).reelShow i = u at k1 k2 k3 k4
  obtain ⟨m1, m2⟩ := Dev.readList_header (k1.leaves.ram.trans c1) (Dev.reelHeader_length ..)
  rw [c3] at k3
  have hall := c4.next k1.leaves.keeps (by decide)
  exact ⟨k2, (k1.slotUsed ..).trans c2, (congrArg ReelInst.seq k3 : _), (congrArg ReelInst.from_ k3 : _), k4, m1, m2, hall.out_eq.symm ▸ hall⟩

theorem Dev.reelStop_ends (hst : s.reelState i = rPost) : let u := s.reelStop i
    let cur := s.f F.REEL_INST_STAT_SLOT i
    u.reelState i = rIdle ∧ u.slotUsed i cur = true ∧ Mem.readList u.reel.ram (s.slotBase s.actSet i cur) 64 = s.reelHeader s.actSet i (s.recordFlags i true) := by
  dsimp only
  rw [Dev.reelStop_post hst]
  obtain ⟨c1, c2, -, -⟩ := Dev.closeRecord_spec (s := s) hi s.actSet true
  generalize s.closeRecord s.actSet i true = v at c1 c2
  obtain ⟨k1, k2, -⟩ := Dev.putState_spec (s := v) hi rIdle (by decide)
  exact ⟨k2, (k1.slotUsed ..).trans c2, (Dev.readList_header (k1.leaves.ram.trans c1) (Dev.reelHeader_length ..)).1⟩

theorem Dev.takeNext_ends {a t : Nat} : let u := (s.deadOver a i t).takeNext a i
    (∀ k, s.freeSlot a i = some k → u.reelState i = rPre ∧ u.f F.REEL_INST_STAT_SLOT i = k % 256 ∧ (u.reelInst i).count = 0 ∧ (u.reelInst i).ovwr = false ∧
      (u.reelInst i).seq = (s.reelInst i).seq ∧ (u.reelInst i).lastT = t ∧ u.reel.ram = s.reel.ram ∧ s.Keeps [.reel] s.out u) ∧
    (s.freeSlot a i = none → s.fs a F.REEL_INST_CFG_OVWR i = 0 → u.reelState i = rFull ∧ u.reel.ram = s.reel.ram ∧ u.reel.seqs = s.reel.seqs) ∧
    (∀ k, s.freeSlot a i = none → s.fs a F.REEL_INST_CFG_OVWR i = 1 → s.oldestSlot a i = some k →
      u.reelState i = rPre ∧ u.f F.REEL_INST_STAT_SLOT i = k % 256 ∧ (u.reelInst i).ovwr = true ∧ u.slotUsed i k = false) := by
  obtain ⟨h1, h2, h3, h4, h5⟩ := Dev.deadOver_spec (s := s) a i t
  generalize s.deadOver a i t = w at h1 h2 h3 h4 h5
  refine ⟨fun k hf => ?_, fun hf ho => ?_, fun k hf ho hk => ?_⟩
  · rw [Dev.takeNext_free (h3.trans hf)]
    obtain ⟨k1, k2, k3, k4⟩ := Dev.takeSlot_spec (s := w) hi k false
    rw [h2] at k4
    exact ⟨k2, k3, (congrArg ReelInst.count k4 : _), (congrArg ReelInst.ovwr k4 : _), (congrArg ReelInst.seq k4 : _), (congrArg ReelInst.lastT k4 : _), k1.leaves.ram.trans h1.leaves.ram,
      h1.leaves.keeps.next k1.leaves.keeps (by decide)⟩
  · rw [Dev.takeNext_full (h3.trans hf) (h5.trans ho)]
    obtain ⟨k1, k2⟩ := Dev.reelFull_spec (s := w) hi
    exact ⟨k2, k1.leaves.ram.trans h1.leaves.ram, k1.leaves.seqs.trans h1.leaves.seqs⟩
  · rw [Dev.takeNext_oldest (h3.trans hf) (h5.trans ho) (h4.trans hk)]
    have hu := Dev.setSlotUsed_same (s := w) i k false
    generalize w.setSlotUsed i k false = v at hu
    obtain ⟨k1, k2, k3, k4⟩ := Dev.takeSlot_spec (s := v) hi k true
    have hl : (v.takeSlot i k true).RecKept [F.REEL_INST_CNT_OVWR_CNT] ((v.takeSlot i k true).inc F.REEL_INST_CNT_OVWR_CNT 1 i) := (Dev.recKept_refl _ _).inc (by decide) (by decide) 1 hi
    refine ⟨(hl.leaves.f (by decide) i 0).trans k2, (hl.leaves.f (by decide) i 0).trans k3, ?_, (hl.slotUsed ..).trans ((k1.slotUsed ..).trans hu)⟩
    rw [show ((v.takeSlot i k true).inc F.REEL_INST_CNT_OVWR_CNT 1 i).reelInst i = _ from Dev.reelInst_befall .., k4]
    rfl

theorem Dev.reelArm_ends {a : Nat} : let u := (s.startNow a i).takeFree a i
    (∀ k, s.freeSlot a i = some k → u.reelState i = rPre ∧ u.f F.REEL_INST_STAT_SLOT i = k % 256 ∧ (u.reelInst i).count = 0 ∧ (u.reelInst i).lastT = s.now ∧
      (u.reelInst i).fired = [] ∧ s.Keeps [.reel] s.out u) ∧
    (s.freeSlot a i = none → u.reelState i = rFull ∧ s.Keeps [.reel] s.out u) := by
  obtain ⟨h1, h2, h3, h4⟩ := Dev.startNow_spec (s := s) a i
  generalize s.startNow a i = w at h1 h2 h3 h4
  refine ⟨fun k hf => ?_, fun hf => ?_⟩
  · rw [Dev.takeFree_some (h4.trans hf)]
    obtain ⟨k1, k2, k3, k4⟩ := Dev.takeSlot_spec (s := w) hi k false
    exact ⟨k2, k3, (congrArg ReelInst.count k4 : _), (congrArg ReelInst.lastT k4).trans h2, (congrArg ReelInst.fired k4).trans h3, h1.leaves.keeps.next k1.leaves.keeps (by decide)⟩
  · rw [Dev.takeFree_none (h4.trans hf)]
    obtain ⟨k1, k2, -⟩ := Dev.putState_spec (s := w) hi rFull (by decide)
    exact ⟨k2, h1.leaves.keeps.next k1.leaves.keeps (by decide)⟩

theorem Dev.reelRelease_ends {k : Nat} (hk : k < 256) :
    (let u := (s.setSlotUsed i k false).reelShow i;
      u.slotUsed i k = false ∧ u.reelState i = s.reelState i ∧ u.reel.ram = s.reel.ram ∧ s.Keeps [.reel] s.out u) ∧
    (let u := ((s.setSlotUsed i k false).reelStart s.actSet i).takeSlot i k false;
      u.slotUsed i k = false ∧ u.reelState i = rPre ∧ u.f F.REEL_INST_STAT_SLOT i = k) := by
  have hu := Dev.setSlotUsed_same (s := s) i k false
  have hl := Dev.setSlotUsed_leaves (s := s) i k false
  have hst := Dev.setSlotUsed_state (s := s) i k false i
  generalize s.setSlotUsed i k false = v at hu hl hst
  refine ⟨?_, ?_⟩
  · have hs : v.RecKept [F.REEL_INST_STAT_FREE] (v.reelShow i) := (Dev.recKept_refl _ v).reelShow (by decide) hi
    exact ⟨(hs.slotUsed ..).trans hu, (hs.leaves.f (by decide) i 0).trans hst, hs.leaves.ram.trans hl.ram, hl.keeps.next hs.leaves.keeps (by decide)⟩
  · obtain ⟨h1, -, -⟩ := Dev.reelStart_spec (s := v) s.actSet i
    obtain ⟨k1, k2, k3, -⟩ := Dev.takeSlot_spec (s := v.reelStart s.actSet i) hi k false
    exact ⟨(k1.slotUsed ..).trans ((h1.slotUsed ..).trans hu), k2, k3.trans (Nat.mod_eq_of_lt hk)⟩
end

/-- Settles O41: a record closes in its slot, and what follows changes registers of the INST, not the memory; a slot's bit lies apart from them. -/
theorem reelRecordsAndSlots : Obligations.ReelRecordsAndSlots := by
  unfold Obligations.ReelRecordsAndSlots
  intro s i hi d a x cur
  refine ⟨fun hst hcur hp => ?_, fun h => s.runs_reelRecordClose.of_eq (Dev.recordClose_none (s := s.dev.begin) h), fun hst hdue => ?_,
    fun h => s.runs_rearmEnd.of_eq (Dev.rearmEnd_none (s := s.dev.begin) h), fun hok => ⟨fun h => s.runs_reelArm.of_eq (Dev.served_gives hok (Dev.reelArm_off (s := s.dev.begin) h)),
      fun h hst => s.runs_reelArm.of_eq (Dev.served_gives hok (Dev.reelArm_armed (s := s.dev.begin) h hst)), fun k h hst hf => ?_, fun h hst hf => ?_, fun h1 h2 h3 => ?_, fun h => ?_, fun hst hcur => ?_⟩,
    fun mask hok => ⟨fun h => ?_, fun hen hm hst hf n hn ht => ?_⟩, fun k hok hk => ⟨fun h => s.runs_reelRelease.of_eq (Dev.served_gives hok (Dev.reelRelease_free (s := s.dev.begin) h)),
      fun h hs => ?_, fun h hs hn => ?_⟩⟩
  · obtain ⟨h1, h2, h3, h4, h5, h6, h7, h8⟩ := Dev.recordClose_ends (s := s.dev.begin) hi hst hcur hp
    have hrun := s.runs_reelRecordClose (inst := i)
    generalize s.dev.begin.recordClose i = u at hrun h1 h2 h3 h4 h5 h6 h7 h8
    exact hrun.does ⟨h1, h2, h3, h4, h5, h6, h7, h8.of_begin⟩
  · have hrun := s.runs_rearmEnd.of_eq (Dev.rearmEnd_due (s := s.dev.begin) hst hdue)
    obtain ⟨z, hz⟩ := s.dev.begin.advanceTo_withTime (s.dev.begin.rearmT s.dev.begin.actSet i)
    rw [hz] at hrun
    have hk : s.dev.Keeps [.reel, .time] [] { s.dev.begin with time := z } := (Dev.keeps_begin _ _).setTime (by decide) z
    obtain ⟨h1, h2, h3⟩ := Dev.takeNext_ends (s := { s.dev.begin with time := z }) hi (a := s.dev.begin.actSet) (t := s.dev.begin.rearmT s.dev.begin.actSet i)
    generalize Dev.takeNext (Dev.deadOver { s.dev.begin with time := z } s.dev.begin.actSet i (s.dev.begin.rearmT s.dev.begin.actSet i)) s.dev.begin.actSet i = u at hrun h1 h2 h3
    refine ⟨fun k hf => ?_, fun hf ho => hrun.does (h2 hf ho), fun k hf ho hk => hrun.does (h3 k hf ho hk)⟩
    obtain ⟨k1, k2, k3, k4, k5, k6, k7, k8⟩ := h1 k hf
    exact hrun.does ⟨k1, k2, k3, k4, k5, k6, k7, hk.next k8 (by decide)⟩
  · have hrun := s.runs_reelArm.of_eq (Dev.served_gives hok (Dev.reelArm_idle (s := s.dev.begin) h hst))
    obtain ⟨h1, -⟩ := Dev.reelArm_ends (s := s.dev.begin) hi (a := s.dev.begin.actSet)
    generalize (s.dev.begin.startNow s.dev.begin.actSet i).takeFree s.dev.begin.actSet i = u at hrun h1
    obtain ⟨k1, k2, k3, k4, k5, k6⟩ := h1 k hf
    exact hrun.does ⟨rfl, k1, k2, k3, k4, k5, (k6.complete .ok).of_begin⟩
  · have hrun := s.runs_reelArm.of_eq (Dev.served_gives hok (Dev.reelArm_idle (s := s.dev.begin) h hst))
    obtain ⟨-, h2⟩ := Dev.reelArm_ends (s := s.dev.begin) hi (a := s.dev.begin.actSet)
    generalize (s.dev.begin.startNow s.dev.begin.actSet i).takeFree s.dev.begin.actSet i = u at hrun h2
    obtain ⟨k1, k2⟩ := h2 hf
    exact hrun.does ⟨rfl, k1, (k2.complete .ok).of_begin⟩
  · exact s.runs_reelStop.of_eq (Dev.served_gives hok (congrArg (Prod.mk _) (Dev.reelStop_none (s := s.dev.begin) h1 h2 h3)))
  · have hrun := s.runs_reelStop.of_eq (Dev.served_gives hok (congrArg (Prod.mk _) (Dev.reelStop_writes (s := s.dev.begin) h)))
    obtain ⟨h1, h2, -⟩ := Dev.putState_spec (s := s.dev.begin) hi rIdle (by decide)
    generalize (s.dev.begin.put F.REEL_INST_STAT_STATE rIdle i).reelShow i = u at hrun h1 h2
    exact hrun.does ⟨rfl, h2, h1.leaves.ram, fun k => h1.slotUsed i k, (h1.leaves.keeps.complete .ok).of_begin⟩
  · have hrun := s.runs_reelStop.of_eq (Dev.served_done (b := .reel) (o := 0x110 + 64 * i) hok fun d => d.reelStop i)
    obtain ⟨h1, h2, h3⟩ := Dev.reelStop_ends (s := s.dev.begin) hi hst
    generalize s.dev.begin.reelStop i = u at hrun h1 h2 h3
    exact hrun.does ⟨rfl, h1, h2, h3⟩
  · exact s.runs_reelForce.of_eq (Dev.served_gives hok (congrArg (Prod.mk _) (Dev.reelForce_off (s := s.dev.begin) h mask)))
  · have hrun := s.runs_reelForce.of_eq (Dev.served_gives hok (congrArg (Prod.mk _) (Dev.reelForce_on (s := s.dev.begin) hen mask)))
    obtain ⟨h1, h2⟩ := Dev.reelForce_fires (s := s.dev.begin) hi hn hm ht hst hf
    generalize Dev.each s.dev.begin (s.dev.begin.forced mask) (fun s p => s.fireAll p.1 p.2 (s.now * 64 / 5)) = u at hrun h1 h2
    exact hrun.does ⟨rfl, h2, h1.kept.leaves.ram, (h1.kept.leaves.keeps.complete .ok).of_begin⟩
  · have hrun := s.runs_reelRelease.of_eq (Dev.served_gives hok (Dev.reelRelease_shows (s := s.dev.begin) hi hk h hs))
    obtain ⟨⟨h1, h2, h3, h4⟩, -⟩ := Dev.reelRelease_ends (s := s.dev.begin) hi hk
    generalize (s.dev.begin.setSlotUsed i k false).reelShow i = u at hrun h1 h2 h3 h4
    exact hrun.does ⟨rfl, h1, h2, h3, (h4.complete .ok).of_begin⟩
  · have hrun := s.runs_reelRelease.of_eq (Dev.served_gives hok (Dev.reelRelease_takes (s := s.dev.begin) hi hk h hs hn))
    obtain ⟨-, h1, h2, h3⟩ := Dev.reelRelease_ends (s := s.dev.begin) hi hk
    generalize ((s.dev.begin.setSlotUsed i k false).reelStart s.dev.begin.actSet i).takeSlot i k false = u at hrun h1 h2 h3
    exact hrun.does ⟨rfl, h1, h2, h3⟩

end Sys2Proof.Machine
end

section
/-! Frames that arrive at an Ethernet port (R351, R352, R354, R358), and O42. -/

namespace Sys2Proof.Machine

section
variable {s u v g : Dev} {p : Nat} {l : List Byte} {ok : Bool}

/-- The fields that tell whom a frame is for. -/
def earFlds : List Fld := [F.ETH_SV_CFG_EN, F.ETH_SV_CFG_DMAC, F.ETH_SV_CFG2_APPID, F.ETH_MC_FILTER_EN, F.ETH_MC_FILTER_MAC, F.ETH_MAC_ADDR_MAC]
def Dev.SameEars (s u : Dev) : Prop := ∀ G ∈ earFlds, ∀ k, u.f G k = s.f G k

theorem Dev.SameEars.svStream (h : s.SameEars u) (l : List Byte) : u.svStream l = s.svStream l := by
  simp only [Dev.svStream, Dev.flag, h F.ETH_SV_CFG_EN (by decide), h F.ETH_SV_CFG_DMAC (by decide), h F.ETH_SV_CFG2_APPID (by decide)]

theorem Dev.SameEars.ethForHost (h : s.SameEars u) (l : List Byte) : u.ethForHost l = s.ethForHost l := by
  simp only [Dev.ethForHost, Dev.flag, h F.ETH_MC_FILTER_EN (by decide), h F.ETH_MC_FILTER_MAC (by decide), h F.ETH_MAC_ADDR_MAC (by decide)]

theorem Dev.sameEars_refl (s : Dev) : s.SameEars s := fun _ _ _ => rfl
theorem Dev.SameEars.trans (h : s.SameEars u) (k : u.SameEars v) : s.SameEars v := fun G hG i => (k G hG i).trans (h G hG i)

theorem Dev.f_setEth {x : Eth} (hr : x.regs = s.eth.regs) (G : Fld) (i j : Nat) : ({ s with eth := x } : Dev).f G i j = s.f G i j :=
  Dev.fb_of_regs (u := { s with eth := x }) (s := s) rfl (by cases G.blk <;> simp [Dev.regsOf, hr]) ..

/-- What comes in order is counted (R364). -/
def Dev.counted (s : Dev) (p : Nat) : Dev := s.inc F.ETH_PORT_CNT_RX_OK 1 p

theorem Dev.counted_f {G : Fld} (h : G.apart F.ETH_PORT_CNT_RX_OK = true) (i : Nat) : (s.counted p).f G i = s.f G i := Dev.f_inc_apart _ _ _ _ _ _ h

theorem Dev.sameEars_counted : s.SameEars (s.counted p) := fun G hG k =>
  Dev.counted_f ((show ∀ G ∈ earFlds, G.apart F.ETH_PORT_CNT_RX_OK = true from by decide) G hG) k

/-! ### What a frame is -/

theorem Dev.ethReceive_down (h : ¬ s.ethUp p = true) : s.ethReceive p l ok = (s, none) := if_pos h

/-- A frame at a port of a redundant pair (R352). -/
def Dev.ethRed (s : Dev) (hsr : Bool) (p : Nat) (l : List Byte) (t : Int) : Dev × Option Nat :=
  let tagged := if hsr then frHsr l else frPrp l
  let s := s.iff (!hsr && tagged && decide (frLan l = 0xB - p)) fun s => s.inc F.ETH_RED_STAT_WRONG_LAN 1
  if ¬ tagged then s.ethUse p l t
  else if hsr ∧ frSrc l = s.f F.ETH_MAC_ADDR_MAC then (s, none)
  else
    let r := s.dupCheck p (frSrc l) (frSeq hsr l)
    if r.2 then (r.1, none)
    else
      let fr : EthFrame := { bytes := l, launch := none, held := false, stamp := none, desc := none, ingress := some (p, t) }
      let s := r.1.iff (hsr && !decide (frDst l = r.1.f F.ETH_MAC_ADDR_MAC) && r.1.ethUp (1 - p)) fun s => s.ethPush (1 - p) 0 fr
      s.ethUse p (frBare hsr l) t

theorem Dev.ethRed_prp (htag : frPrp l = true) (hlan : frLan l ≠ 0xB - p) (t : Int) : s.ethRed false p l t =
    let r := s.dupCheck p (frSrc l) (frSeq false l)
    if r.2 then (r.1, none) else r.1.ethUse p (frBare false l) t := by
  have hs : (s.iff ((!false && if false = true then frHsr l else frPrp l) && decide (frLan l = 0xB - p)) fun s => s.inc F.ETH_RED_STAT_WRONG_LAN 1) = s := by
    rw [decide_eq_false hlan, Bool.and_false]
    rfl
  unfold Dev.ethRed
  refine (if_neg (not_not_intro htag)).trans ((if_neg fun h => absurd h.1 (by decide)).trans ?_)
  dsimp only
  rw [hs]
  rfl

section
variable (hup : s.ethUp p = true)
include hup

theorem Dev.ethReceive_bad : s.ethReceive p l false = (s.inc F.ETH_PORT_CNT_RX_ERR 1 p, none) := (if_neg (not_not_intro hup)).trans (if_pos (by decide))
theorem Dev.ethReceive_long (h : s.f F.ETH_PORT_CFG_MAXLEN p < l.length + 4) : s.ethReceive p l true = (s.inc F.ETH_PORT_CNT2_LONG_CNT 1 p, none) :=
  (if_neg (not_not_intro hup)).trans ((if_neg (by decide)).trans (if_pos h))

variable (hfit : l.length + 4 ≤ s.f F.ETH_PORT_CFG_MAXLEN p)
include hfit

theorem Dev.ethReceive_pause (h : be l 12 2 = 0x8808) : s.ethReceive p l true = (s.inc F.ETH_PORT_CNT2_PAUSE_CNT 1 p, none) :=
  (if_neg (not_not_intro hup)).trans ((if_neg (by decide)).trans ((if_neg (Nat.not_lt.mpr hfit)).trans (if_pos h)))

variable (hpause : be l 12 2 ≠ 0x8808)
include hpause

/-- At a port outside the redundant pair the frame is used as it is (R352). -/
theorem Dev.ethReceive_ordinary (hm : s.redMode ≠ 0) (hp : 2 ≤ p) : s.ethReceive p l true = (s.counted p).ethUse p l (s.rxTime p l) := by
  have hm' : (s.counted p).redMode ≠ 0 := by rw [Dev.redMode, Dev.counted_f (by decide)]; exact hm
  exact (if_neg (not_not_intro hup)).trans ((if_neg (by decide)).trans ((if_neg (Nat.not_lt.mpr hfit)).trans ((if_neg hpause).trans ((if_neg hm').trans (if_pos (.inl hp))))))

/-- At a port of a PRP pair the table of duplicates is asked (R352). -/
theorem Dev.ethReceive_prp (hm : s.redMode = 1) (hp : p < 2) (hty : frType l ≠ 0x88F7) (htag : frPrp l = true) (hlan : frLan l = 0xA + p) : s.ethReceive p l true =
    let r := (s.counted p).dupCheck p (frSrc l) (frSeq false l)
    if r.2 then (r.1, none) else r.1.ethUse p (frBare false l) (s.rxTime p l) := by
  have hm' : (s.counted p).redMode = 1 := by rw [Dev.redMode, Dev.counted_f (by decide)]; exact hm
  have hred : s.ethReceive p l true = (s.counted p).ethRed (decide ((s.counted p).redMode = 2)) p l (s.rxTime p l) :=
    (if_neg (not_not_intro hup)).trans ((if_neg (by decide)).trans ((if_neg (Nat.not_lt.mpr hfit)).trans ((if_neg hpause).trans
      ((if_neg (show (s.counted p).redMode ≠ 0 by rw [hm']; decide)).trans (if_neg fun h => h.elim (fun h => absurd h (Nat.not_le.mpr hp)) hty)))))
  rw [hred, hm']
  exact Dev.ethRed_prp htag (by omega) _
end
/-! ### Its use -/

theorem Dev.ethUse_free (h : s.svStream l = none) (t : Int) : s.ethUse p l t = (if s.ethForHost l then s.ethToHost p l t else s, none) := by rw [Dev.ethUse, h]

theorem Dev.ethUse_stream {k : Nat} (h : s.svStream l = some k) (t : Int) : s.ethUse p l t =
    if (s.svTake k l t).2 then ((if (s.svTake k l t).1.flag F.ETH_SV_CFG_COPY k then (s.svTake k l t).1.ethToHost p l t else (s.svTake k l t).1), some k) else ((s.svTake k l t).1, none) := by
  rw [Dev.ethUse, h]

theorem Dev.ethUse_format {k : Nat} (h : s.svStream l = some k) {t : Int} (hf : s.svTake k l t = (s.inc F.ETH_SV_CNT_FMT_ERR 1 k, false)) :
    s.ethUse p l t = (s.inc F.ETH_SV_CNT_FMT_ERR 1 k, none) := by
  rw [Dev.ethUse_stream h, hf]
  rfl

theorem Dev.svTake_unparsed {k : Nat} (h : svParse l (frTypeAt l + 2) = none) (t : Int) : s.svTake k l t = (s.inc F.ETH_SV_CNT_FMT_ERR 1 k, false) := by rw [Dev.svTake, h]

theorem Dev.svTake_short {k cnt synch at_ n : Nat} (h : svParse l (frTypeAt l + 2) = some (cnt, synch, at_, n)) (hn : n < 8 * s.f F.ETH_SV_CFG_NELEM k) (t : Int) :
    s.svTake k l t = (s.inc F.ETH_SV_CNT_FMT_ERR 1 k, false) := by
  rw [Dev.svTake, h]
  exact if_pos hn

/-- What arrives is delivered, and the elements of a stream go to the recorder. -/
theorem Dev.frameReceive_plain (h : s.ethReceive p l ok = (u, none)) : s.frameReceive p l ok = u := by rw [Dev.frameReceive, h]

theorem Dev.frameReceive_elements {k : Nat} (h : s.ethReceive p l ok = (u, some k)) :
    s.frameReceive p l ok = u.each (List.range (u.svOf k).elems.length) fun s e => s.reelUpdate kSv (256 * k + e) ((u.svOf k).elems.getD e (0, false)).1 := by rw [Dev.frameReceive, h]

/-- A frame for the host, or for none. -/
theorem Dev.ethUse_host (h : s.SameEars u) (hs : s.svStream l = none) (t : Int) : u.ethUse p l t = (if s.ethForHost l then u.ethToHost p l t else u, none) := by
  rw [Dev.ethUse_free ((h.svStream l).trans hs), h.ethForHost]

/-! ### Duplicates -/

theorem Dev.sameEars_only {E : Fld} (hE : E = F.ETH_RED_STAT_ONLY0 ∨ E = F.ETH_RED_STAT_ONLY1) (n : Nat) : s.SameEars (s.inc E n) := fun G hG k => by
  have hout : ∀ G ∈ earFlds, G.outside E = true := by
    rcases hE with rfl | rfl <;> decide
  exact (Dev.befall_fb ..).trans (Dev.f_put_outside (i := 0) s (satAdd E.w (s.f E) n) 0 k 0 (hout G hG) (by decide))

theorem Dev.sameEars_setEth {x : Eth} (hr : x.regs = s.eth.regs) : s.SameEars { s with eth := x } := fun G _ k => Dev.f_setEth hr G k 0

theorem Dev.sameEars_dupForget : s.SameEars s.dupForget := by
  unfold Dev.dupForget
  split
  · exact Dev.sameEars_refl s
  · rename_i d m _
    have h : s.SameEars { s with eth := { s.eth with dup := m } } := Dev.sameEars_setEth (x := { s.eth with dup := m }) rfl
    dsimp only
    split
    · exact h.trans (Dev.sameEars_only (.inl rfl) 1)
    · split
      · exact h.trans (Dev.sameEars_only (.inr rfl) 1)
      · exact h

theorem Dev.sameEars_dupOld (n : Nat) : s.SameEars (Dev.dupOld n s) := by
  induction n generalizing s with
  | zero => exact Dev.sameEars_refl s
  | succ n ih =>
    rw [Dev.dupOld]
    split
    · exact Dev.sameEars_refl s
    · split
      · exact Dev.sameEars_dupForget.trans ih
      · exact Dev.sameEars_refl s

/-- The entries that are not too old. -/
def Dev.dupHeld (s : Dev) : Dev := Dev.dupOld s.eth.dup.length s
def Dev.dupSeen (s : Dev) (src seq : Nat) : Bool := s.eth.dup.any fun d => decide (d.src = src) && decide (d.seq = seq)

theorem Dev.dupCheck_copy {src seq : Nat} (h : s.dupHeld.dupSeen src seq = true) : s.dupCheck p src seq =
    (({ s.dupHeld with eth := { s.dupHeld.eth with dup := s.dupHeld.eth.dup.map fun (d : DupEntry) => if d.src = src ∧ d.seq = seq then { d with ports := Nat.lor d.ports (2 ^ p) } else d } }).inc
      F.ETH_RED_STAT_DUP_CNT 1, true) := if_pos h

/-- Room for one entry. -/
def Dev.dupRoom (s : Dev) : Dev := if s.eth.dup.length < 1024 then s else s.dupForget
def Dev.dupEnter (s : Dev) (e : DupEntry) : Dev := { s with eth := { s.eth with dup := s.eth.dup ++ [e] } }

theorem Dev.dupCheck_first {src seq : Nat} (h : s.dupHeld.dupSeen src seq = false) :
    s.dupCheck p src seq = (s.dupHeld.dupRoom.dupEnter (DupEntry.mk src seq (2 ^ p) s.dupHeld.dupRoom.time.frc), false) := if_neg (Bool.eq_false_iff.mp h)

theorem Dev.sameEars_first (e : DupEntry) : s.SameEars (s.dupHeld.dupRoom.dupEnter e) := by
  have hroom : s.dupHeld.SameEars s.dupHeld.dupRoom := by
    unfold Dev.dupRoom
    split
    · exact Dev.sameEars_refl _
    · exact Dev.sameEars_dupForget
  exact ((Dev.sameEars_dupOld _).trans hroom).trans (Dev.sameEars_setEth (x := { s.dupHeld.dupRoom.eth with dup := s.dupHeld.dupRoom.eth.dup ++ [e] }) rfl)

/-! ### Elements -/

/-- What an accepted frame of stream `k` leaves (R358, R359). -/
def Dev.svKeep (s : Dev) (k cnt : Nat) (els : List (Nat × Bool)) (stamp : Int) : Dev :=
  let mod := if s.f F.ETH_SV_CFG2_SMP_WRAP k = 0 then 65536 else s.f F.ETH_SV_CFG2_SMP_WRAP k
  let gap := (s.svOf k).arr.isSome && decide (cnt ≠ (s.f F.ETH_SV_STAT_SMPCNT k + 1) % mod)
  let s := s.iff gap fun s => s.inc F.ETH_SV_CNT_GAP_CNT 1 k
  let s := s.iff (els.any fun e => !e.2) fun s => s.inc F.ETH_SV_CNT_BADQ_CNT 1 k
  let s := { s with eth := { s.eth with sv := Tab.put s.eth.sv k { elems := els, arr := some s.now } } }
  let s := (s.inc F.ETH_SV_CNT_FRAMES 1 k).put F.ETH_SV_STAT_T_ARR (((stamp / nsFix).toNat) % 2 ^ 32) k
  (s.put F.ETH_SV_STAT_SMPCNT cnt k).put F.ETH_SV_STAT_LOST 0 k

theorem Dev.svTake_kept {k cnt synch at_ n : Nat} (h : svParse l (frTypeAt l + 2) = some (cnt, synch, at_, n)) (hn : 8 * s.f F.ETH_SV_CFG_NELEM k ≤ n) (t : Int) :
    s.svTake k l t = (s.svKeep k cnt (s.svElems k l at_ synch) t, true) := by
  rw [Dev.svTake, h]
  exact if_neg (Nat.not_lt.mpr hn)

section
variable (k cnt : Nat) (els : List (Nat × Bool)) (t : Int)

theorem Dev.keeps_svGap (c c' : Bool) : s.Keeps [.eth] s.out ((s.iff c fun s => s.inc F.ETH_SV_CNT_GAP_CNT 1 k).iff c' fun s => s.inc F.ETH_SV_CNT_BADQ_CNT 1 k) := by
  have hk : s.Keeps [.eth] s.out s := Dev.keeps_refl ..
  have hgap := hk.iff c (fun s => s.inc F.ETH_SV_CNT_GAP_CNT 1 k) fun _ => hk.inc (by decide) 1 k
  exact hgap.iff c' _ fun _ => hgap.inc (by decide) 1 k

theorem Dev.keeps_svKeep : s.Keeps [.eth] s.out (s.svKeep k cnt els t) :=
  (((((s.keeps_svGap k _ _).setEth (by decide) _).inc (by decide) 1 k).put (by decide) _ k).put (by decide) _ k).put (by decide) 0 k

/-- The events of a frame change neither its subscription nor station time. -/
theorem Dev.svKeep_svOf : (s.svKeep k cnt els t).svOf k = { elems := els, arr := some s.now } := by
  have hev : ∀ v : Dev, s.Keeps [.eth] s.out v → v.now = s.now := fun v hv => Dev.now_of_time hv.role_eq (hv.time_eq (by decide))
  refine (Tab.get_put_same ..).trans ?_
  rw [hev _ (s.keeps_svGap k _ _)]

theorem Dev.svKeep_lost : (s.svKeep k cnt els t).f F.ETH_SV_STAT_LOST k = 0 := Dev.f_put_same ..
theorem Dev.svKeep_smpcnt : (s.svKeep k cnt els t).f F.ETH_SV_STAT_SMPCNT k = cnt % 2 ^ 16 := (Dev.f_put_apart _ _ _ _ _ _ (by decide)).trans (Dev.f_put_same ..)
theorem Dev.svKeep_arrival : (s.svKeep k cnt els t).f F.ETH_SV_STAT_T_ARR k = (t / nsFix).toNat % 2 ^ 32 :=
  (Dev.f_put_apart _ _ _ _ _ _ (by decide)).trans ((Dev.f_put_apart _ _ _ _ _ _ (by decide)).trans ((Dev.f_put_same ..).trans (Nat.mod_mod _ _)))
theorem Dev.svKeep_copy : (s.svKeep k cnt els t).f F.ETH_SV_CFG_COPY k = s.f F.ETH_SV_CFG_COPY k := by
  have hput : ∀ (v : Dev) (E : Fld) (x : Nat), F.ETH_SV_CFG_COPY.apart E = true → (v.put E x k).f F.ETH_SV_CFG_COPY k = v.f F.ETH_SV_CFG_COPY k := fun v E x h => Dev.f_put_apart _ _ _ _ _ _ h
  have hinc : ∀ (v : Dev) (E : Fld), F.ETH_SV_CFG_COPY.apart E = true → (v.inc E 1 k).f F.ETH_SV_CFG_COPY k = v.f F.ETH_SV_CFG_COPY k := fun v E h => Dev.f_inc_apart _ _ _ _ _ _ h
  refine (hput _ _ _ (by decide)).trans ((hput _ _ _ (by decide)).trans ((hput _ _ _ (by decide)).trans ((hinc _ _ (by decide)).trans ((Dev.f_setEth rfl ..).trans ?_))))
  exact (Dev.f_iff _ _ _ _ _ _ fun _ => hinc _ _ (by decide)).trans (Dev.f_iff _ _ _ _ _ _ fun _ => hinc _ _ (by decide))
end

/-- Without COPY the elements go to the recorder only (R358). -/
theorem Dev.ethUse_elements {k cnt synch at_ n : Nat} (hs : s.svStream l = some k) (h : svParse l (frTypeAt l + 2) = some (cnt, synch, at_, n)) (hn : 8 * s.f F.ETH_SV_CFG_NELEM k ≤ n)
    (hc : s.f F.ETH_SV_CFG_COPY k = 0) (t : Int) : s.ethUse p l t = (s.svKeep k cnt (s.svElems k l at_ synch) t, some k) := by
  have hcopy : (s.svKeep k cnt (s.svElems k l at_ synch) t).flag F.ETH_SV_CFG_COPY k = false := Dev.flag_off ((Dev.svKeep_copy ..).trans hc)
  rw [Dev.ethUse_stream hs, Dev.svTake_kept h hn]
  dsimp only
  rw [hcopy]
  rfl

end

/-- Settles O42: first what the port makes of the frame, then who it is for. -/
theorem ethFrameReceived : Obligations.EthFrameReceived := by
  intro s p l ok d up fits good at_ used
  have hrun : s.Runs (.frameReceive p l ok) (d.frameReceive p l ok) := State.runs_frameReceive
  have hgood : Dev.SameEars s.dev good := (Dev.sameEars_setEth (s := s.dev) (x := d.eth) rfl).trans Dev.sameEars_counted
  have hplain : ∀ {u : Dev} {b : Bool}, ok = b → d.ethReceive p l b = (u, none) → s.Runs (.frameReceive p l ok) u := fun hb h =>
    hrun.of_eq (Dev.frameReceive_plain (hb ▸ h))
  have hord := fun (hup : up) (hfit : fits) (hpause : be l 12 2 ≠ 0x8808) (hm : s.dev.redMode ≠ 0) (hp : 2 ≤ p) =>
    Dev.ethReceive_ordinary (s := d) hup hfit.2 hpause hm hp
  refine ⟨fun hup => hrun.of_eq (Dev.frameReceive_plain (Dev.ethReceive_down (s := d) hup)), fun hup hok => hplain hok (Dev.ethReceive_bad (s := d) hup),
    fun hup hok hlong => hplain hok (Dev.ethReceive_long (s := d) hup hlong), fun hup hfit hpause => hplain hfit.1 (Dev.ethReceive_pause (s := d) hup hfit.2 hpause),
    fun hup hfit hpause hm hp => ⟨fun hs => ?_, fun k hs hparse => ?_⟩, fun hup hfit hpause hm hp hty htag hlan => ?_,
    fun k cnt synch at8 n hup hfit hpause hm hp hs hparse hc => ⟨fun hn => ?_, fun hn => ?_⟩⟩
  · exact hplain hfit.1 ((hord hup hfit hpause hm hp).trans (Dev.ethUse_host hgood hs at_))
  · exact hplain hfit.1 ((hord hup hfit hpause hm hp).trans (Dev.ethUse_format ((hgood.svStream l).trans hs) (Dev.svTake_unparsed hparse at_)))
  · intro held copy mark
    have hprp := Dev.ethReceive_prp (s := d) hup hfit.2 hpause hm hp hty htag hlan
    refine ⟨fun hc => hplain hfit.1 (hprp.trans ?_), fun hc hs => hplain hfit.1 (hprp.trans ?_)⟩
    · dsimp only
      rw [Dev.dupCheck_copy (s := d.counted p) hc]
      rfl
    · dsimp only
      rw [Dev.dupCheck_first (s := d.counted p) hc]
      have hears : Dev.SameEars s.dev ((d.counted p).dupHeld.dupRoom.dupEnter (DupEntry.mk (frSrc l) (frSeq false l) (2 ^ p) (d.counted p).dupHeld.dupRoom.time.frc)) :=
        hgood.trans (Dev.sameEars_first _)
      exact (if_neg Bool.false_ne_true).trans (Dev.ethUse_host hears hs at_)
  · have hnelem : good.f F.ETH_SV_CFG_NELEM k = s.dev.f F.ETH_SV_CFG_NELEM k := Dev.counted_f (s := d) (by decide) k
    exact hplain hfit.1 ((hord hup hfit hpause hm hp).trans (Dev.ethUse_format ((hgood.svStream l).trans hs) (Dev.svTake_short hparse (hnelem ▸ hn) at_)))
  · have hcfg : ∀ G : Fld, G.apart F.ETH_PORT_CNT_RX_OK = true → good.f G k = s.dev.f G k := fun G hG => Dev.counted_f (s := d) hG k
    have hels : good.svElems k l at8 synch = s.dev.svElems k l at8 synch := by
      simp only [Dev.svElems, Dev.flag, hcfg _ (show F.ETH_SV_CFG_NELEM.apart F.ETH_PORT_CNT_RX_OK = true by decide), hcfg _ (show F.ETH_SV_CFG_TEST_OK.apart F.ETH_PORT_CNT_RX_OK = true by decide),
        hcfg _ (show F.ETH_SV_CFG_REQ_SYNC.apart F.ETH_PORT_CNT_RX_OK = true by decide)]
    have hrec := (hord hup hfit hpause hm hp).trans (Dev.ethUse_elements ((hgood.svStream l).trans hs) hparse (by rw [hcfg _ (by decide)]; exact hn) (by rw [hcfg _ (by decide)]; exact hc) at_)
    have hkg : s.dev.Keeps [.eth, .reel] [] good := (Dev.keeps_begin _ _).inc (by decide) 1 p
    have hnow : good.now = s.dev.now := Dev.now_of_time hkg.role_eq (hkg.time_eq (by decide))
    rw [← hels, ← hnow]
    have hof := good.svKeep_svOf k cnt (good.svElems k l at8 synch) at_
    have hcnt := good.svKeep_smpcnt k cnt (good.svElems k l at8 synch) at_
    have hlost := good.svKeep_lost k cnt (good.svElems k l at8 synch) at_
    have harr := good.svKeep_arrival k cnt (good.svElems k l at8 synch) at_
    have hk := hkg.next (good.keeps_svKeep k cnt (good.svElems k l at8 synch) at_) (by decide)
    rw [hfit.1] at hrun ⊢
    replace hrun := hrun.of_eq (Dev.frameReceive_elements hrec)
    generalize good.svKeep k cnt (good.svElems k l at8 synch) at_ = u at hrun hof hcnt hlost harr hk
    have hrec : u.Keeps [.reel] u.out (u.each (List.range (u.svOf k).elems.length) fun s e => s.reelUpdate kSv (256 * k + e) ((u.svOf k).elems.getD e (0, false)).1) :=
      (Dev.keeps_refl ..).each _ _ fun v e _ hv => hv.reelUpdate (by decide) _ _ _
    refine hrun.does ⟨?_, (hrec.f_eq (by decide) ..).trans hcnt, (hrec.f_eq (by decide) ..).trans hlost, (hrec.f_eq (by decide) ..).trans harr, hk.next hrec (by decide)⟩
    rw [Dev.svOf, hrec.eth_eq (by decide)]
    exact hof

end Sys2Proof.Machine
end

section
/-! The ports and queues of Ethernet (R352, R355, R359 to R361), and O43. -/

namespace Sys2Proof.Machine

/-! ### Bytes -/

theorem slice_zero_length {l : List Byte} {n : Nat} (h : l.length = n) : slice l 0 n = l := by
  rw [slice, List.drop_zero, List.take_of_length_le (Nat.le_of_eq h), h, Nat.sub_self, List.replicate_zero, List.append_nil]

theorem slice_at {a m t : List Byte} {k n : Nat} (ha : a.length = k) (hm : m.length = n) : slice (a ++ (m ++ t)) k n = m := by
  have h := slice_append_right a (m ++ t) 0 n
  rw [Nat.add_zero, ha] at h
  rw [h, slice_append_left _ _ _ _ (by omega), slice_zero_length hm]

theorem be_at {a t : List Byte} {k n v : Nat} (ha : a.length = k) : be (a ++ (beBytes n v ++ t)) k n = v % 256 ^ n := by
  rw [be, slice_at ha (beBytes_length n v), ofBytesBE, beBytes, List.reverse_reverse, ofBytes_bytesOf]

section
variable {s u : Dev} {p q : Nat} {l : List Byte} {fr : EthFrame}

/-! ### The tags of a redundant pair -/

theorem frLan_prpTrail {lan seq : Nat} (h : lan < 16) : frLan (prpTrail lan seq l) = lan := by
  have hv : lan * 0x1000 + (l.length + 6 - 14) % 0x1000 < 256 ^ 2 := by omega
  have hl : (prpTrail lan seq l).length - 4 = (l ++ beBytes 2 seq).length := by simp [prpTrail]
  rw [frLan, hl, prpTrail, List.append_assoc _ (beBytes 2 _) (beBytes 2 _), be_at rfl, Nat.mod_eq_of_lt hv]
  omega

theorem be_hsrTag {path seq : Nat} (h : 12 ≤ l.length) : be (hsrTag path seq l) 12 2 = 0x892F := by
  have ha : (l.take 12).length = 12 := by rw [List.length_take, Nat.min_eq_left h]
  rw [hsrTag, List.append_assoc, List.append_assoc, List.append_assoc, be_at ha]
  decide

/-- A tag leaves the addresses of a frame. -/
theorem slice_ethTagged (s : Dev) (p seq : Nat) {k n : Nat} (h : 12 ≤ l.length) (hk : k + n ≤ 12) : slice (s.ethTagged p seq l) k n = slice l k n := by
  unfold Dev.ethTagged
  split
  · rfl
  · split
    · rw [prpTrail, List.append_assoc, List.append_assoc, slice_append_left _ _ _ _ (by omega)]
    · have ha : (l.take 12).length = 12 := by rw [List.length_take, Nat.min_eq_left h]
      rw [hsrTag, List.append_assoc, List.append_assoc, List.append_assoc, slice_append_left _ _ _ _ (by omega),
        ← slice_append_left (l.take 12) (l.drop 12) k n (by omega), List.take_append_drop]

theorem ethTagged_mark (ht : frType l ≠ 0x88F7) (hl : 12 ≤ l.length) {seq : Nat} (hp : p < 2) :
    if s.redMode = 1 then frLan (s.ethTagged p seq l) = 0xA + p else be (s.ethTagged p seq l) 12 2 = 0x892F := by
  have htag : s.ethTagged p seq l = if s.redMode = 1 then prpTrail (0xA + p) seq l else hsrTag p seq l := if_neg ht
  rw [htag]
  split
  · exact frLan_prpTrail (by omega)
  · exact be_hsrTag hl

/-! ### Queues -/

theorem Dev.ethQ_setEthQ_same (l : List EthFrame) : (s.setEthQ p q l).ethQ p q = l := Tab.get_set_same ..
theorem Dev.ethQ_setEthQ_other (l : List EthFrame) {p' q' : Nat} (h : p' * 4 + q' ≠ p * 4 + q) : (s.setEthQ p q l).ethQ p' q' = s.ethQ p' q' := Tab.get_set_other _ _ _ _ h

/-- A frame without a launch time that enters an empty queue. -/
theorem Dev.ethPush_first (h : s.ethQ p q = []) (hl : fr.launch = none) : s.ethPush p q fr = s.setEthQ p q [fr] := by
  rw [Dev.ethPush, h, List.nil_append, Dev.ethHead, Dev.ethQ_setEthQ_same]
  dsimp only
  rw [hl]

/-- The only frame of a queue leaves it empty. -/
theorem Dev.ethPop_only (h : s.ethQ p q = [fr]) : s.ethPop p q = s.setEthQ p q [] := by
  rw [Dev.ethPop, h]
  change Dev.ethHead 1 (s.setEthQ p q []) p q = _
  rw [Dev.ethHead, Dev.ethQ_setEthQ_same]

/-- What leaves without an ingress, a stamp and a descriptor. -/
theorem Dev.ethLeave_plain (hi : fr.ingress = none) (hs : fr.stamp = none) (hd : fr.desc = none) :
    s.ethLeave p fr = (s.emit (.ethTx p fr.bytes)).inc F.ETH_PORT_CNT_TX_OK 1 p := by
  rw [Dev.ethLeave, hi, hs, Dev.ethDone, hd]
  rfl

theorem Dev.ethQ_leave : ((s.emit (.ethTx p l)).inc F.ETH_PORT_CNT_TX_OK 1 p).ethQ p q = s.ethQ p q := rfl

/-- The head of a queue that may start (R361). -/
def Dev.ethStarts (s : Dev) (p q : Nat) : Bool := match s.ethQ p q with | fr :: _ => !fr.held | [] => false

theorem Dev.ethStarts_empty (h : s.ethQ p q = []) : s.ethStarts p q = false := by rw [Dev.ethStarts, h]
theorem Dev.ethStarts_head {m : List EthFrame} (h : s.ethQ p q = fr :: m) (hh : fr.held = false) : s.ethStarts p q = true := by
  rw [Dev.ethStarts, h]
  dsimp only
  rw [hh]
  rfl

/-- The only queue with a frame that may start. -/
theorem Dev.find_ethStarts (hq : q < 4) (h : s.ethStarts p q = true) (ho : ∀ r, r < 4 → r ≠ q → s.ethStarts p r = false) : [3, 2, 1, 0].find? (s.ethStarts p) = some q := by
  obtain ⟨x, hx⟩ := Option.isSome_iff_exists.mp (List.find?_isSome.mpr ⟨q, (show ∀ q, q < 4 → q ∈ [3, 2, 1, 0] by decide) q hq, h⟩)
  have hx4 : x < 4 := (show ∀ x ∈ [3, 2, 1, 0], x < 4 by decide) x (List.mem_of_find?_eq_some hx)
  rw [hx]
  by_contra hne
  exact absurd ((List.find?_some hx).symm.trans (ho x hx4 fun he => hne (he ▸ rfl))) (by decide)

theorem Dev.ethClear_only (h : s.ethQ p q = [fr]) (ho : ∀ r, r < 4 → r ≠ q → s.ethQ p r = []) (hl : fr.launch = none) : s.ethClear p fr = true :=
  List.all_eq_true.mpr fun r hr => by
    have hr4 : r < 4 := (show ∀ r ∈ ethPorts, r < 4 by decide) r hr
    by_cases hrq : r = q
    · rw [hrq, h]
      dsimp only
      rw [hl]
    · rw [ho r hr4 hrq]

theorem Dev.ethSent_of (hup : s.ethUp p = true) (hf : [3, 2, 1, 0].find? (s.ethStarts p) = some q) (h : s.ethQ p q = [fr]) (hc : s.ethClear p fr = true) :
    s.ethSent p = (s.ethLeave p fr).ethPop p q := by
  rw [Dev.ethSent, if_neg (not_not_intro hup)]
  split
  · exact absurd (‹_ = none›.symm.trans hf) (by simp)
  · rename_i r hr
    obtain rfl := Option.some.inj (hr.symm.trans hf)
    rw [h]
    exact if_pos hc

theorem Dev.ethLaunch_held {l : List EthFrame} {t : Nat} (hup : s.ethUp p = true) (h : s.ethQ p q = fr :: l) (hl : fr.launch = some t) (hh : fr.held = true) :
    s.ethLaunch p q = ((s.advanceTo (s.now + (s.untilL p t + clampI (-8) 8 (Config.launchErr p t)).toNat)).ethLeave p fr).ethPop p q := by
  rw [Dev.ethLaunch, h]
  dsimp only
  rw [hl]
  exact if_pos ⟨hh, hup⟩

/-! ### Links -/

theorem Dev.linkDown_up (h : s.f F.ETH_PORT_STAT_LINK p ≠ 0) :
    s.linkDown p = (((s.put F.ETH_PORT_STAT_LINK 0 p).raise F.ETH_PORT_STAT_LINK_LOST p).ethRetire p).incW F.ETH_PORT_STAT_EPOCH 1 p :=
  if_neg (not_not_intro (show s.flag F.ETH_PORT_STAT_LINK p = true from decide_eq_true h))

theorem Dev.linkDown_down (h : s.f F.ETH_PORT_STAT_LINK p = 0) : s.linkDown p = s := if_pos (Bool.eq_false_iff.mp (Dev.flag_off h))

/-! ### Streams and duplicates -/

theorem Dev.svLost_off {k : Nat} (h : s.f F.ETH_SV_CFG_EN k = 0) : s.svLost k = s := if_neg (by rw [Dev.flag_off h]; decide)

theorem Dev.svLost_after {k t : Nat} (h : s.f F.ETH_SV_CFG_EN k ≠ 0) (ha : (s.svOf k).arr = some t) :
    s.svLost k = (s.advanceTo (t + s.f F.ETH_SV_CFG2_LOSS_TMO k * 1000)).raise F.ETH_SV_STAT_LOST k := by
  have hen : s.flag F.ETH_SV_CFG_EN k = true := decide_eq_true h
  rw [Dev.svLost, if_pos hen, ha]

theorem Dev.svLost_never {k : Nat} (h : s.f F.ETH_SV_CFG_EN k ≠ 0) (ha : (s.svOf k).arr = none) : s.svLost k = s.raise F.ETH_SV_STAT_LOST k := by
  have hen : s.flag F.ETH_SV_CFG_EN k = true := decide_eq_true h
  rw [Dev.svLost, if_pos hen, ha]

theorem Dev.dupAge_of {x : DupEntry} {m : List DupEntry} (h : s.eth.dup = x :: m) : s.dupAge =
    let g := s.frcTo (s.dupTill x + 1)
    let u : Dev := { g with eth := { g.eth with dup := m } }
    if x.ports = 1 then u.inc F.ETH_RED_STAT_ONLY0 1 else if x.ports = 2 then u.inc F.ETH_RED_STAT_ONLY1 1 else u := by
  obtain ⟨z, hz⟩ := s.frcTo_withTime (s.dupTill x + 1)
  rw [Dev.dupAge, h]
  dsimp only
  rw [Dev.dupForget, hz]
  dsimp only
  rw [h]

/-! ### Supervision frames -/

/-- The addresses, the type and 40 bytes more (log entry 26). -/
def supFrame (mode mac n : Nat) : List Byte :=
  slice (beBytes 6 0x01154E000100 ++ beBytes 6 mac ++ beBytes 2 0x88FB ++ beBytes 2 1 ++ beBytes 2 n ++ beBytes 2 (if mode = 1 then 0x1406 else 0x1706) ++ beBytes 6 mac ++ beBytes 2 0) 0 54

theorem supFrame_eq (mode mac n : Nat) : ∃ t, supFrame mode mac n = beBytes 6 0x01154E000100 ++ (beBytes 6 mac ++ (beBytes 2 0x88FB ++ t)) := by
  generalize hw : (if mode = 1 then 0x1406 else 0x1706) = w
  refine ⟨beBytes 2 1 ++ (beBytes 2 n ++ (beBytes 2 w ++ (beBytes 6 mac ++ (beBytes 2 0 ++ List.replicate 26 0)))), ?_⟩
  unfold supFrame
  rw [hw, slice, List.drop_zero, List.take_of_length_le (by simp only [List.length_append, beBytes_length]; omega)]
  simp only [List.length_append, beBytes_length, List.append_assoc]

theorem supFrame_length (mode mac n : Nat) : 12 ≤ (supFrame mode mac n).length := by
  obtain ⟨t, ht⟩ := supFrame_eq mode mac n
  rw [ht]
  simp only [List.length_append, beBytes_length]
  omega

theorem slice_supFrame_dst (mode mac n : Nat) : slice (supFrame mode mac n) 0 6 = beBytes 6 0x01154E000100 := by
  obtain ⟨t, ht⟩ := supFrame_eq mode mac n
  rw [ht]
  exact slice_at (a := []) rfl (beBytes_length ..)

theorem slice_supFrame_src (mode mac n : Nat) : slice (supFrame mode mac n) 6 6 = beBytes 6 mac := by
  obtain ⟨t, ht⟩ := supFrame_eq mode mac n
  rw [ht, slice_at (beBytes_length ..) (beBytes_length ..)]

theorem frType_supFrame (mode mac n : Nat) : frType (supFrame mode mac n) = 0x88FB := by
  obtain ⟨t, ht⟩ := supFrame_eq mode mac n
  have hty : be (supFrame mode mac n) 12 2 = 0x88FB := by
    rw [ht, ← List.append_assoc]
    exact be_at (by rw [List.length_append, beBytes_length, beBytes_length])
  have hat : frTypeAt (supFrame mode mac n) = 12 := by
    unfold frTypeAt
    rw [hty, if_neg (show 0x88FB ≠ 0x892F by decide)]
    dsimp only
    rw [hty, if_neg (show 0x88FB ≠ 0x8100 by decide)]
  rw [frType, hat, hty]

theorem Dev.ethTagged_congr (h : u.redMode = s.redMode) (p seq : Nat) (l : List Byte) : u.ethTagged p seq l = s.ethTagged p seq l := by simp only [Dev.ethTagged, h]

/-- The next sequence number of the redundant pair. -/
def Dev.ethCount (s : Dev) : Dev := { s with eth := { s.eth with seq := (s.eth.seq + 1) % 2 ^ 16 } }

theorem Dev.ethSend_red (hm : s.redMode ≠ 0) (hty : frType fr.bytes ≠ 0x88F7) : s.ethSend 0 0 fr =
    let v := s.ethCount.ethPush 0 0 { fr with bytes := s.ethCount.ethTagged 0 s.eth.seq fr.bytes }
    v.ethPush 1 0 { fr with bytes := v.ethTagged 1 s.eth.seq fr.bytes, desc := none } := if_pos ⟨hm, by decide, hty⟩

/-- A frame of the node on both ports of a redundant pair (R352). -/
theorem Dev.ethSend_both (hm : s.redMode ≠ 0) (hty : frType fr.bytes ≠ 0x88F7) (h0 : s.ethQ 0 0 = []) (h1 : s.ethQ 1 0 = []) (hl : fr.launch = none) :
    ∃ x y : EthFrame, x.bytes = s.ethTagged 0 s.eth.seq fr.bytes ∧ y.bytes = s.ethTagged 1 s.eth.seq fr.bytes ∧
      s.ethSend 0 0 fr = (s.ethCount.setEthQ 0 0 [x]).setEthQ 1 0 [y] := by
  obtain ⟨x, hx⟩ : ∃ x : EthFrame, x = { fr with bytes := s.ethCount.ethTagged 0 s.eth.seq fr.bytes } := ⟨_, rfl⟩
  obtain ⟨y, hy⟩ : ∃ y : EthFrame, y = { fr with bytes := (s.ethCount.setEthQ 0 0 [x]).ethTagged 1 s.eth.seq fr.bytes, desc := none } := ⟨_, rfl⟩
  have hxb : s.ethCount.ethTagged 0 s.eth.seq fr.bytes = s.ethTagged 0 s.eth.seq fr.bytes := Dev.ethTagged_congr (u := s.ethCount) rfl ..
  have hyb : (s.ethCount.setEthQ 0 0 [x]).ethTagged 1 s.eth.seq fr.bytes = s.ethTagged 1 s.eth.seq fr.bytes := Dev.ethTagged_congr (u := s.ethCount.setEthQ 0 0 [x]) rfl ..
  have hxl : x.launch = none := by rw [hx]; exact hl
  have hyl : y.launch = none := by rw [hy]; exact hl
  have h1' : (s.ethCount.setEthQ 0 0 [x]).ethQ 1 0 = [] := (Dev.ethQ_setEthQ_other _ (by decide)).trans h1
  refine ⟨x, y, by rw [hx, hxb], by rw [hy, hyb], ?_⟩
  rw [Dev.ethSend_red hm hty, ← hx]
  dsimp only
  rw [Dev.ethPush_first (s := s.ethCount) h0 hxl, ← hy, Dev.ethPush_first h1' hyl]

/-- Once a supervision frame is due. -/
def Dev.supSend (s : Dev) : Dev :=
  Dev.ethSend { s with eth := { s.eth with supSeq := (s.eth.supSeq + 1) % 2 ^ 16, supAt := s.time.frc } } 0 0
    { bytes := supFrame s.redMode (s.f F.ETH_MAC_ADDR_MAC) s.eth.supSeq, launch := none, held := false, stamp := none, desc := none, ingress := none }

theorem Dev.supervision_due (h : s.redMode ≠ 0) : s.supervision = (s.frcTo (s.eth.supAt + s.f F.ETH_RED_CFG_SUP_INT * (2 * 10 ^ 8))).supSend := if_neg h

/-- Two queues that each hold one frame. -/
theorem Dev.ethQ_pair (s : Dev) (x y : EthFrame) : ((s.setEthQ 0 0 [x]).setEthQ 1 0 [y]).ethQ 0 0 = [x] ∧ ((s.setEthQ 0 0 [x]).setEthQ 1 0 [y]).ethQ 1 0 = [y] :=
  ⟨(Dev.ethQ_setEthQ_other _ (by decide)).trans (Dev.ethQ_setEthQ_same _), Dev.ethQ_setEthQ_same _⟩

theorem Dev.keeps_setEthQ (l : List EthFrame) : s.Keeps [.eth] s.out (s.setEthQ p q l) := (Dev.keeps_refl ..).setEth (by decide) _

theorem Dev.supSend_spec (hm : s.redMode ≠ 0) (h0 : s.ethQ 0 0 = []) (h1 : s.ethQ 1 0 = []) : let u := s.supSend
    u.eth.supSeq = (s.eth.supSeq + 1) % 2 ^ 16 ∧ u.eth.seq = (s.eth.seq + 1) % 2 ^ 16 ∧
    (∀ o, o < 2 → ∃ fr, u.ethQ o 0 = [fr] ∧ slice fr.bytes 0 6 = beBytes 6 0x01154E000100 ∧ slice fr.bytes 6 6 = beBytes 6 (s.f F.ETH_MAC_ADDR_MAC) ∧
      (if s.redMode = 1 then frLan fr.bytes = 0xA + o else be fr.bytes 12 2 = 0x892F)) ∧ u.eth.supAt = u.time.frc ∧ s.Keeps [.eth] s.out u := by
  let s1 : Dev := { s with eth := { s.eth with supSeq := (s.eth.supSeq + 1) % 2 ^ 16, supAt := s.time.frc } }
  let l := supFrame s.redMode (s.f F.ETH_MAC_ADDR_MAC) s.eth.supSeq
  have hty : frType l ≠ 0x88F7 := by
    unfold l
    rw [frType_supFrame]
    decide
  obtain ⟨x, y, hx, hy, hsend⟩ := Dev.ethSend_both (s := s1) (fr := { bytes := l, launch := none, held := false, stamp := none, desc := none, ingress := none }) hm hty h0 h1 rfl
  have hbytes : ∀ o, o < 2 → slice (s1.ethTagged o s.eth.seq l) 0 6 = beBytes 6 0x01154E000100 ∧ slice (s1.ethTagged o s.eth.seq l) 6 6 = beBytes 6 (s.f F.ETH_MAC_ADDR_MAC) ∧
      (if s.redMode = 1 then frLan (s1.ethTagged o s.eth.seq l) = 0xA + o else be (s1.ethTagged o s.eth.seq l) 12 2 = 0x892F) := fun o ho =>
    ⟨(slice_ethTagged _ _ _ (supFrame_length ..) (by decide)).trans (slice_supFrame_dst ..), (slice_ethTagged _ _ _ (supFrame_length ..) (by decide)).trans (slice_supFrame_src ..),
      ethTagged_mark (s := s1) hty (supFrame_length ..) ho⟩
  replace hsend : s.supSend = _ := hsend
  have hkeep : s.Keeps [.eth] s.out s.supSend := by
    rw [hsend]
    exact (((Dev.keeps_refl ..).setEth (by decide) _).setEth (by decide) _).setEth (by decide) _
  intro u
  have hu : u = _ := hsend
  refine ⟨by rw [hu]; rfl, by rw [hu]; rfl, fun o ho => ?_, by rw [hu]; rfl, hkeep⟩
  rw [hu]
  rcases (show o = 0 ∨ o = 1 by omega) with rfl | rfl
  · exact ⟨x, (Dev.ethQ_pair ..).1, hx ▸ hbytes 0 (by decide)⟩
  · exact ⟨y, (Dev.ethQ_pair ..).2, hy ▸ hbytes 1 (by decide)⟩

end

/-- Settles O43. -/
theorem ethPortsAndQueues : Obligations.EthPortsAndQueues := by
  intro s p d
  refine ⟨fun q fr _ hq hup h ho hl hh hs hd hi => ?_, fun q fr t hup h hl hh hs hd hi => ?_, fun h => ?_, fun h => ?_, fun hen hr ho => ?_, fun h => ?_, fun k t hen ha => ?_,
    fun k hen ha => ?_, fun k hen => ?_, fun x m h => ?_, fun h => ?_, fun h => ?_, fun hm h0 h1 => ?_⟩
  · refine State.runs_frameSent.of_eq ?_
    have hf := Dev.find_ethStarts (s := s.dev.begin) (p := p) hq (Dev.ethStarts_head h hh) fun r hr hne => Dev.ethStarts_empty (ho r hr hne)
    rw [Dev.ethSent_of (s := s.dev.begin) hup hf h (Dev.ethClear_only (s := s.dev.begin) h ho hl), Dev.ethLeave_plain hi hs hd]
    exact Dev.ethPop_only (Dev.ethQ_leave.trans h)
  · obtain ⟨z, hz⟩ := Dev.advanceTo_withTime s.dev.begin (s.dev.now + (s.dev.untilL p t + clampI (-8) 8 (Config.launchErr p t)).toNat)
    refine State.runs_frameLaunch.of_eq ((Dev.ethLaunch_held (s := s.dev.begin) hup h hl hh).trans ?_)
    have hq : (d.advanceTo (s.dev.now + (s.dev.untilL p t + clampI (-8) 8 (Config.launchErr p t)).toNat)).ethQ p q = [fr] := by
      rw [hz]
      exact h
    rw [Dev.ethLeave_plain hi hs hd]
    exact Dev.ethPop_only (Dev.ethQ_leave.trans hq)
  · exact State.runs_linkDown.of_eq (Dev.linkDown_up (s := s.dev.begin) h)
  · exact State.runs_linkDown.of_eq (Dev.linkDown_down (s := s.dev.begin) h)
  · exact State.runs_linkUp.of_eq (if_pos ⟨decide_eq_true hen, by rw [show s.dev.begin.glob.ramp.contains (1 + p) = false from hr]; decide, ho⟩)
  · refine State.runs_linkUp.of_eq (if_neg fun ⟨hen, hr, ho⟩ => ?_)
    rcases h with h | h | h
    · exact absurd (hen.symm.trans (Dev.flag_off (s := s.dev.begin) h)) (by decide)
    · exact hr h
    · exact absurd (ho.symm.trans h) (by decide)
  · exact State.runs_svLost.of_eq (Dev.svLost_after (s := s.dev.begin) hen ha)
  · exact State.runs_svLost.of_eq (Dev.svLost_never (s := s.dev.begin) hen ha)
  · exact State.runs_svLost.of_eq (Dev.svLost_off (s := s.dev.begin) hen)
  · exact State.runs_ddEntryAge.of_eq (Dev.dupAge_of (s := s.dev.begin) h)
  · refine State.runs_ddEntryAge.of_eq ?_
    rw [Dev.dupAge, show s.dev.begin.eth.dup = [] from h]
  · exact State.runs_supervisionFrame.of_eq (if_pos h)
  · have hrun : s.Runs .supervisionFrame _ := State.runs_supervisionFrame.of_eq (Dev.supervision_due (s := s.dev.begin) hm)
    obtain ⟨z, hz⟩ := Dev.frcTo_withTime s.dev.begin (s.dev.eth.supAt + s.dev.f F.ETH_RED_CFG_SUP_INT * (2 * 10 ^ 8))
    have hk : s.dev.Keeps [.eth, .time] [] { s.dev.begin with time := z } := (Dev.keeps_begin _ _).setTime (by decide) z
    replace hz : s.dev.begin.frcTo (s.dev.begin.eth.supAt + s.dev.begin.f F.ETH_RED_CFG_SUP_INT * (2 * 10 ^ 8)) = _ := hz
    rw [hz] at hrun
    obtain ⟨hsup, hseq, hfr, hat, hkeep⟩ := Dev.supSend_spec (s := { s.dev.begin with time := z }) hm h0 h1
    exact hrun.does ⟨hsup, hseq, hfr, hat, hk.next hkeep (by decide)⟩

end Sys2Proof.Machine
end

section
/-! The rings of the host (R387, R388, R393 to R399), and O44. -/

namespace Sys2Proof.Machine

section
variable {s u : Dev} {r k : Nat}

/-! ### What a state of the rings leaves of the registers -/

theorem Dev.f_setHostq {x : Hostq} (hr : x.regs = s.hostq.regs) (G : Fld) (i j : Nat) : ({ s with hostq := x } : Dev).f G i j = s.f G i j :=
  Dev.fb_of_regs (u := { s with hostq := x }) (s := s) rfl (by cases G.blk <;> simp [Dev.regsOf, hr]) ..

theorem Dev.f_setSq (q : Sq) (G : Fld) (i j : Nat) : (s.setSq r q).f G i j = s.f G i j := Dev.f_setHostq rfl ..
theorem Dev.f_setCq (c : Cq) (G : Fld) (i j : Nat) : (s.setCq r c).f G i j = s.f G i j := Dev.f_setHostq rfl ..

theorem Dev.sqOf_setSq_same (q : Sq) : (s.setSq r q).sqOf r = q := Tab.get_set_same ..
theorem Dev.sqOf_setSq_other (q : Sq) (h : k ≠ r) : (s.setSq r q).sqOf k = s.sqOf k := Tab.get_set_other _ _ _ _ h
theorem Dev.cqOf_setCq_same (c : Cq) : (s.setCq r c).cqOf r = c := Tab.get_set_same ..

theorem Dev.f_msix (fn vec : Nat) (G : Fld) (i j : Nat) : (s.msix fn vec).f G i j = s.f G i j := by
  unfold Dev.msix
  dsimp only
  split
  · exact Dev.f_setHostq (x := { s.hostq with msiPend := _ }) rfl ..
  · rfl

theorem Dev.sqOf_msix (fn vec : Nat) : (s.msix fn vec).sqOf r = s.sqOf r := by
  unfold Dev.msix
  dsimp only
  split <;> rfl

theorem Dev.f_hostEvt {E G : Fld} (h : G.apart E = true) (i j : Nat) : (s.hostEvt E).f G i j = s.f G i j := by
  unfold Dev.hostEvt
  dsimp only
  exact (Dev.f_iff (s.raise E) G i j _ (fun s => s.msix 0 (s.f F.HOSTQ_EVT_VEC_VEC)) fun _ => Dev.f_msix ..).trans (Dev.f_raise_apart _ _ _ _ _ h)

theorem Dev.sqOf_hostEvt (E : Fld) (hb : (s.raise E).hostq.sq = s.hostq.sq) : (s.hostEvt E).sqOf r = s.sqOf r := by
  have hr : (s.raise E).sqOf r = s.sqOf r := congrArg (Tab.get Sq.empty · r) hb
  unfold Dev.hostEvt
  dsimp only
  unfold Dev.iff
  split
  · exact (Dev.sqOf_msix ..).trans hr
  · exact hr

theorem Dev.hostEvt_role (E : Fld) (hE : E.blk.home ∈ [Blk.hostq]) : (s.hostEvt E).role = s.role := (s.grows_hostEvt (own := [.hostq]) (by decide) E hE).role

/-! ### A refused access -/

theorem Dev.logDeny_role (m t off acc : Nat) (life : Bool) : (s.logDeny m t off acc life).role = s.role := by
  unfold Dev.logDeny
  split
  · rfl
  · dsimp only
    unfold Dev.iff
    split
    · exact Dev.hostEvt_role _ (by decide)
    · rfl

theorem Dev.tgCheck_role {m t acc off n : Nat} {life : Bool} (h : s.tgCheck m t acc off n life = some u) : u.role = s.role := by
  unfold Dev.tgCheck at h
  split at h
  · exact Option.some.inj h ▸ Dev.logDeny_role ..
  · split at h
    · exact absurd h (by simp)
    · exact Option.some.inj h ▸ Dev.logDeny_role ..

/-- An access that is refused answers another status than OK, in the same role. -/
theorem Dev.accessCheck_refuses {m t o n acc : Nat} {b : Blk} {stale : Bool} {a : Acted} (h : s.accessCheck m b t o n acc stale = some a) : a.1 ≠ .ok ∧ a.2.role = s.role := by
  unfold Dev.accessCheck at h
  dsimp only at h
  generalize s.blockStatus b (if t < 18 then o else 0) = st at h
  split at h
  · obtain rfl := Option.some.inj h
    exact ⟨Status.noConfusion, by simp⟩
  · split at h
    · rename_i hst
      obtain rfl := Option.some.inj h
      exact ⟨hst, rfl⟩
    · split at h
      · obtain rfl := Option.some.inj h
        exact ⟨Status.noConfusion, rfl⟩
      · split at h
        · rename_i hc
          obtain rfl := Option.some.inj h
          exact ⟨Status.noConfusion, Dev.tgCheck_role hc⟩
        · exact absurd h (by simp)

/-! ### Doorbells (R388) -/

/-- The offset of a doorbell. -/
def bellAt (cq : Bool) (r : Nat) : Nat := 0x8000 + 8 * r + if cq then 4 else 0

theorem Dev.doorbell_none {fn v : Nat} {cq : Bool} (h : s.role ≠ .manager) : s.doorbell cq fn r v = s.deny .invalid := if_pos (.inl h)

section
variable {fn v o : Nat} {cq : Bool} (hr : r < 64) (hm : s.role = .manager) (ho : bellAt cq r = o)
include hr hm ho

theorem Dev.doorbell_of : s.doorbell cq fn r v = Dev.direct fn 0 (0x20000 + o) true
    (s.writeRow fn .hostq o 4 fun s => if cq then s.cqDoorbell r v else s.sqDoorbell r v) :=
  ho ▸ if_neg fun h => h.elim (fun h => h hm) (Nat.not_le.mpr hr)

variable {a : Acted}

theorem Dev.doorbell_refused (h : s.accessCheck fn .hostq Blk.hostq.num o 4 (accOf (placeOf .hostq o) true) false = some a) (hf : fn ≤ 4) :
    (s.doorbell cq fn r v).dev = (a.2.mmioError a.1 fn 0 (0x20000 + o) true).complete a.1 := by
  obtain ⟨hok, hrole⟩ := Dev.accessCheck_refuses h
  rw [Dev.doorbell_of hr hm ho, Dev.writeRow, h]
  unfold Dev.direct Acted.dev Option.getD Dev.iff
  dsimp only
  rw [if_pos]
  rw [decide_eq_true hok, decide_eq_true hf, decide_eq_true (hrole.trans hm)]
  rfl

variable (h : s.accessCheck fn .hostq Blk.hostq.num o 4 (accOf (placeOf .hostq o) true) false = none)
include h

theorem Dev.doorbell_taken {st : Dev} (hg : (if cq then s.cqDoorbell r v else s.sqDoorbell r v) = (.ok, st)) : (s.doorbell cq fn r v).dev = st.complete .ok := by
  rw [Dev.doorbell_of hr hm ho, Dev.writeRow, h]
  dsimp only [Option.getD]
  rw [hg]
  rfl

theorem Dev.doorbell_denied (hg : (if cq then s.cqDoorbell r v else s.sqDoorbell r v) = s.deny .invalid) (hf : fn ≤ 4) :
    (s.doorbell cq fn r v).dev = (s.mmioError .invalid fn 0 (0x20000 + o) true).complete .invalid := by
  rw [Dev.doorbell_of hr hm ho, Dev.writeRow, h]
  dsimp only [Option.getD]
  rw [hg]
  unfold Dev.direct Acted.dev Dev.iff Dev.deny
  dsimp only
  rw [if_pos]
  rw [decide_eq_true hf, decide_eq_true hm]
  rfl
end

/-! ### Fetches and completion entries -/

theorem Dev.sqOn_of (h : s.f F.HOSTQ_CTL_EN ≠ 0 ∧ s.f F.HOSTQ_SQ_CFG_EN r ≠ 0 ∧ s.f F.HOSTQ_SQ_STAT_STATE r = 1) : s.sqOn r = true := by
  obtain ⟨h1, h2, h3⟩ := h
  unfold Dev.sqOn Dev.flag
  rw [decide_eq_true h1, decide_eq_true h2, decide_eq_true h3]
  rfl

theorem Dev.of_sqOn (h : s.sqOn r = true) : s.f F.HOSTQ_CTL_EN ≠ 0 ∧ s.f F.HOSTQ_SQ_CFG_EN r ≠ 0 ∧ s.f F.HOSTQ_SQ_STAT_STATE r = 1 := by
  simp only [Dev.sqOn, Dev.flag, Bool.and_eq_true, decide_eq_true_eq] at h
  exact ⟨h.1.1, h.1.2, h.2⟩

/-- A fetched descriptor. -/
def Dev.fetched (s : Dev) (r : Nat) (bytes : List Byte) : Desc := { idx := s.f F.HOSTQ_SQ_STAT_HEAD r, bytes := slice bytes 0 64, started := false, fin := none }

/-- It stands in the ring, and the head moves. -/
def Dev.fetchIn (s : Dev) (r : Nat) (x : Desc) : Dev :=
  (s.setSq r { s.sqOf r with act := (s.sqOf r).act ++ [x] }).put F.HOSTQ_SQ_STAT_HEAD ((s.f F.HOSTQ_SQ_STAT_HEAD r + 1) % s.sqSize r) r

theorem Dev.fetchIn_kind (x : Desc) : (s.fetchIn r x).f F.HOSTQ_SQ_CFG_KIND r = s.f F.HOSTQ_SQ_CFG_KIND r := (Dev.f_put_apart _ _ _ _ _ _ (by decide)).trans (Dev.f_setSq ..)

theorem Dev.fetch_of {bytes : List Byte} (hon : s.sqOn r = true) (ht : s.f F.HOSTQ_SQ_STAT_HEAD r ≠ (s.sqOf r).tail) (hf : s.cqFull (s.cqFor r) = false) : s.fetch r bytes =
    let x := s.fetched r bytes
    let u := s.fetchIn r x
    if 0x0B < x.op ∨ ¬ kindAccepts (s.f F.HOSTQ_SQ_CFG_KIND r) x.op ∨ ¬ x.headerOk then u.finish r x .invalid (u.descEpoch r x) [] else u := by
  have hgo : ¬ (¬ s.sqOn r = true ∨ s.f F.HOSTQ_SQ_STAT_HEAD r = (s.sqOf r).tail ∨ s.cqFull (s.cqFor r) = true) := by
    rw [hon, hf]
    simp [ht]
  dsimp only
  rw [← s.fetchIn_kind (r := r) (s.fetched r bytes)]
  exact if_neg hgo

theorem Dev.fetch_idle {bytes : List Byte} (h : ¬ s.sqOn r = true ∨ s.f F.HOSTQ_SQ_STAT_HEAD r = (s.sqOf r).tail ∨ s.cqFull (s.cqFor r) = true) : s.fetch r bytes = s := if_pos h

theorem Dev.fetchFail_of {st : Status} (hon : s.sqOn r = true) (ht : s.f F.HOSTQ_SQ_STAT_HEAD r ≠ (s.sqOf r).tail) :
    s.fetchFail r st = ((s.put F.HOSTQ_SQ_STAT_STATE 2 r).put F.HOSTQ_SQ_STAT_ERR st.code r).hostEvt F.HOSTQ_EVT_RING_ERR :=
  if_neg fun h => h.elim (fun h => h hon) ht

theorem Dev.cqWrite_off (h : s.f F.HOSTQ_CQ_CFG_EN r = 0 ∨ s.cqFull r = true) : s.cqWrite r = s :=
  if_pos (h.imp (fun h => by rw [Dev.flag_off h]; decide) id)

theorem Dev.cqWrite_none (h : (s.cqOf r).held = [] ∧ (s.cqOf r).wait = []) : s.cqWrite r = s := by
  unfold Dev.cqWrite
  dsimp only
  split
  · rfl
  · rw [h.1, h.2]

/-- The ring with one entry more. -/
def Dev.cqPlace (s : Dev) (r : Nat) (es : List CqEntry) : Dev :=
  let c := s.cqOf r
  let t := s.f F.HOSTQ_CQ_STAT_TAIL r
  let last := decide (t + 1 = s.cqSize r)
  let s := s.setCq r { c with held := [], wait := es, used := c.used + 1, phase := c.phase != last, ovf := false, since := c.since + 1, sinceAt := if c.since = 0 then s.now else c.sinceAt }
  (s.put F.HOSTQ_CQ_STAT_TAIL (if last then 0 else t + 1) r).put F.HOSTQ_CQ_STAT_HELD 0 r

theorem Dev.cqPlace_f {G : Fld} (es : List CqEntry) (ht : G.apart F.HOSTQ_CQ_STAT_TAIL = true) (hh : G.apart F.HOSTQ_CQ_STAT_HELD = true) : (s.cqPlace r es).f G r = s.f G r :=
  (Dev.f_put_apart _ _ _ _ _ _ hh).trans ((Dev.f_put_apart _ _ _ _ _ _ ht).trans (Dev.f_setCq ..))

theorem Dev.cqWrite_of {e : CqEntry} {es : List CqEntry} (hon : s.f F.HOSTQ_CQ_CFG_EN r ≠ 0) (hf : s.cqFull r = false) (hh : (s.cqOf r).held = []) (hw : (s.cqOf r).wait = e :: es)
    (hi : e.irq = false) (hn : e.notice = false) (hc : s.f F.HOSTQ_CQ_COAL_COUNT r = 0) : s.cqWrite r =
    (s.cqPlace r es).emit (.hostWrite (s.f F.HOSTQ_CQ_CFG_FUNC r) (s.f F.HOSTQ_CQ_BASE_ADDR r * 32 + s.f F.HOSTQ_CQ_STAT_TAIL r * 32) (e.bytes (s.cqOf r).phase (s.cqOf r).ovf)) := by
  have hgo : ¬ (¬ s.flag F.HOSTQ_CQ_CFG_EN r = true ∨ s.cqFull r = true) := by
    rw [hf, show s.flag F.HOSTQ_CQ_CFG_EN r = true from decide_eq_true hon]
    decide
  rw [← s.cqPlace_f (r := r) (G := F.HOSTQ_CQ_CFG_FUNC) es (by decide) (by decide), ← s.cqPlace_f (r := r) (G := F.HOSTQ_CQ_BASE_ADDR) es (by decide) (by decide)]
  rw [← s.cqPlace_f (r := r) es (by decide) (by decide)] at hc
  unfold Dev.cqWrite
  extract_lets c t last n first go
  have hgo' : go e { c with wait := es } = ((s.cqPlace r es).emit (.hostWrite ((s.cqPlace r es).f F.HOSTQ_CQ_CFG_FUNC r) ((s.cqPlace r es).f F.HOSTQ_CQ_BASE_ADDR r * 32 + t * 32) (e.bytes c.phase c.ovf))).iff
      (e.irq || e.notice || (decide ((s.cqPlace r es).f F.HOSTQ_CQ_COAL_COUNT r ≠ 0) && decide ((s.cqPlace r es).f F.HOSTQ_CQ_COAL_COUNT r ≤ n))) fun s => s.cqSignal r := by
    unfold go Dev.cqPlace
    dsimp only
    rw [show c.held = [] from hh]
    rfl
  rw [if_neg hgo, show c.held = [] from hh, show c.wait = e :: es from hw]
  refine Eq.trans ?_ (hgo'.trans ?_)
  · rw [show c = s.cqOf r from rfl, hh]
  · rw [hi, hn, hc]
    rfl

theorem Dev.coalesce_due (hi : s.f F.HOSTQ_CQ_CFG_IRQ_EN r ≠ 0) (ht : s.f F.HOSTQ_CQ_COAL_TIME r ≠ 0) (hs : (s.cqOf r).since ≠ 0) : s.coalesceTimeout r =
    ((s.advanceTo ((s.cqOf r).sinceAt + s.f F.HOSTQ_CQ_COAL_TIME r * 1000)).setCq r { s.cqOf r with since := 0 }).msix (s.f F.HOSTQ_CQ_CFG_FUNC r) (s.f F.HOSTQ_CQ_CFG_VEC r) := by
  have hi' : s.flag F.HOSTQ_CQ_CFG_IRQ_EN r = true := decide_eq_true hi
  have hf : ∀ (m : Nat) (G : Fld), G.apart F.TIME_INC_INC = true → (s.advanceTo m).f G r = s.f G r := fun m G hG => Dev.advanceTo_f _ _ _ _ hG
  have hq : ∀ m : Nat, (s.advanceTo m).cqOf r = s.cqOf r := fun m => by
    obtain ⟨z, hz⟩ := s.advanceTo_withTime m
    rw [hz]
    rfl
  refine (if_pos ⟨hi', ht, hs⟩).trans ?_
  generalize (s.cqOf r).sinceAt + s.f F.HOSTQ_CQ_COAL_TIME r * 1000 = m
  rw [← hf m F.HOSTQ_CQ_CFG_IRQ_EN (by decide)] at hi
  rw [← hf m F.HOSTQ_CQ_CFG_FUNC (by decide), ← hf m F.HOSTQ_CQ_CFG_VEC (by decide), ← hq m]
  unfold Dev.cqSignal Dev.iff
  exact if_pos (show (s.advanceTo m).flag F.HOSTQ_CQ_CFG_IRQ_EN r = true from decide_eq_true hi)

/-! ### A function-level reset (R399) -/

/-- A submission ring of the function, and a completion ring. -/
def Dev.flrSq (s : Dev) (r : Nat) : Dev :=
  let s := (s.setSq r { (s.sqOf r) with act := [], cons := (s.sqOf r).tail }).put F.HOSTQ_SQ_STAT_HEAD (s.sqOf r).tail r
  (s.put F.HOSTQ_SQ_CFG_EN 0 r).put F.HOSTQ_SQ_STAT_STATE 0 r
def Dev.flrCq (rs : List Nat) (s : Dev) (q : Nat) : Dev :=
  (s.put F.HOSTQ_CQ_CFG_EN 0 q).setCq q { s.cqOf q with wait := (s.cqOf q).wait.filter fun e => e.notice || !rs.contains e.sq }
def Dev.sqsOf (s : Dev) (fn : Nat) : List Nat := (List.range 64).filter fun r => decide (s.f F.HOSTQ_SQ_CFG_FUNC r = fn)
def Dev.cqsOf (s : Dev) (fn : Nat) : List Nat := (List.range 64).filter fun q => decide (s.f F.HOSTQ_CQ_CFG_FUNC q = fn)
def Dev.flrCount (s : Dev) (rs : List Nat) : Nat := rs.foldl (fun a r => a + (s.sqOpen r).length + s.sqPosted r) 0
def Dev.flrTold (s : Dev) (fn n : Nat) : Dev := (((s.retired .hostq n).inc F.HOSTQ_FLR_RET_COUNT n).put F.HOSTQ_FLR_RET_FUNC fn).hostEvt F.HOSTQ_EVT_FLR_RET

/-- The rings of the function are disabled. -/
def Dev.flrRings (s : Dev) (fn : Nat) : Dev := let u := s.each (s.sqsOf fn) Dev.flrSq; u.each (u.cqsOf fn) (Dev.flrCq (s.sqsOf fn))

theorem Dev.flrOne_eq (fn : Nat) : s.flrOne fn = (s.flrRings fn).flrTold fn (s.flrCount (s.sqsOf fn)) := rfl

/-- A ring that the reset has reached. -/
def Dev.SqReset (k : Nat) (s : Dev) : Prop := s.f F.HOSTQ_SQ_CFG_EN k = 0 ∧ s.f F.HOSTQ_SQ_STAT_STATE k = 0 ∧ (s.sqOf k).act = []

theorem Dev.SqReset.of_eq (h : s.SqReset k) (he : u.f F.HOSTQ_SQ_CFG_EN k = s.f F.HOSTQ_SQ_CFG_EN k) (hs : u.f F.HOSTQ_SQ_STAT_STATE k = s.f F.HOSTQ_SQ_STAT_STATE k) (hq : u.sqOf k = s.sqOf k) :
    u.SqReset k := ⟨he.trans h.1, hs.trans h.2.1, (congrArg Sq.act hq).trans h.2.2⟩

theorem Dev.flrSq_f {G : Fld} (hh : G.apart F.HOSTQ_SQ_STAT_HEAD = true) (he : G.apart F.HOSTQ_SQ_CFG_EN = true) (hs : G.apart F.HOSTQ_SQ_STAT_STATE = true) (i : Nat) :
    (s.flrSq r).f G i = s.f G i :=
  (Dev.f_put_apart _ _ _ _ _ _ hs).trans ((Dev.f_put_apart _ _ _ _ _ _ he).trans ((Dev.f_put_apart _ _ _ _ _ _ hh).trans (Dev.f_setSq ..)))

theorem Dev.flrSq_resets : (s.flrSq r).SqReset r :=
  ⟨(Dev.f_put_apart _ _ _ _ _ _ (by decide)).trans (Dev.f_put_same ..), Dev.f_put_same .., congrArg Sq.act (Dev.sqOf_setSq_same _)⟩

theorem Dev.flrSq_other (h : k ≠ r) (hs : s.SqReset k) : (s.flrSq r).SqReset k :=
  hs.of_eq ((Dev.f_put_apart _ _ _ _ _ _ (by decide)).trans ((Dev.f_put_index _ _ _ _ _ (by decide) h).trans ((Dev.f_put_apart _ _ _ _ _ _ (by decide)).trans (Dev.f_setSq ..))))
    ((Dev.f_put_index _ _ _ _ _ (by decide) h).trans ((Dev.f_put_apart _ _ _ _ _ _ (by decide)).trans ((Dev.f_put_apart _ _ _ _ _ _ (by decide)).trans (Dev.f_setSq ..))))
    (Dev.sqOf_setSq_other _ h)

theorem Dev.flrCq_sq (rs : List Nat) (q : Nat) (hs : s.SqReset k) : (s.flrCq rs q).SqReset k :=
  hs.of_eq ((Dev.f_setCq ..).trans (Dev.f_put_apart _ _ _ _ _ _ (by decide))) ((Dev.f_setCq ..).trans (Dev.f_put_apart _ _ _ _ _ _ (by decide))) rfl

theorem Dev.flrCq_resets (rs : List Nat) : (s.flrCq rs k).f F.HOSTQ_CQ_CFG_EN k = 0 := (Dev.f_setCq ..).trans (Dev.f_put_same ..)

theorem Dev.flrCq_off (rs : List Nat) (q : Nat) (hs : s.f F.HOSTQ_CQ_CFG_EN k = 0) : (s.flrCq rs q).f F.HOSTQ_CQ_CFG_EN k = 0 := by
  by_cases h : k = q
  · exact h ▸ Dev.flrCq_resets rs
  · exact (Dev.f_setCq ..).trans ((Dev.f_put_index _ _ _ _ _ (by decide) h).trans hs)

theorem Dev.flrTold_f {G : Fld} (hg : G.apart (retireFld .hostq) = true) (hc : G.apart F.HOSTQ_FLR_RET_COUNT = true) (hf : G.apart F.HOSTQ_FLR_RET_FUNC = true)
    (he : G.apart F.HOSTQ_EVT_FLR_RET = true) (fn n i : Nat) : (s.flrTold fn n).f G i = s.f G i :=
  (Dev.f_hostEvt he ..).trans ((Dev.f_put_apart _ _ _ _ _ _ hf).trans ((Dev.f_inc_apart _ _ _ _ _ _ hc).trans (Dev.f_inc_apart _ _ _ _ _ _ hg)))

theorem Dev.flrTold_fn {fn : Nat} (h : fn ≤ 4) (n : Nat) : (s.flrTold fn n).f F.HOSTQ_FLR_RET_FUNC = fn :=
  (Dev.f_hostEvt (by decide) ..).trans ((Dev.f_put_same ..).trans (Nat.mod_eq_of_lt (Nat.lt_of_le_of_lt h (by decide))))

theorem Dev.mem_sqsOf {fn : Nat} : k ∈ s.sqsOf fn ↔ k < 64 ∧ s.f F.HOSTQ_SQ_CFG_FUNC k = fn := by simp [Dev.sqsOf]
theorem Dev.mem_cqsOf {fn : Nat} : k ∈ s.cqsOf fn ↔ k < 64 ∧ s.f F.HOSTQ_CQ_CFG_FUNC k = fn := by simp [Dev.cqsOf]

/-- Every submission ring of the function is reset. -/
theorem Dev.flrRings_sq {fn : Nat} (hk : k < 64) (h : s.f F.HOSTQ_SQ_CFG_FUNC k = fn) : (s.flrRings fn).SqReset k :=
  Dev.each_inv (Dev.SqReset k) _ _ (fun _ q _ hv => Dev.flrCq_sq _ q hv) _
    (Dev.each_at (fun _ => True) (Dev.SqReset k) _ Dev.flrSq (Dev.mem_sqsOf.mpr ⟨hk, h⟩) (fun _ _ _ _ => trivial) (fun _ _ => Dev.flrSq_resets)
      (fun _ a _ hv => if hak : k = a then hak ▸ Dev.flrSq_resets else Dev.flrSq_other hak hv) s trivial)

/-- Every completion ring of the function is disabled. -/
theorem Dev.flrRings_cq {fn : Nat} (hk : k < 64) (h : s.f F.HOSTQ_CQ_CFG_FUNC k = fn) : (s.flrRings fn).f F.HOSTQ_CQ_CFG_EN k = 0 := by
  have hfn : (s.each (s.sqsOf fn) Dev.flrSq).f F.HOSTQ_CQ_CFG_FUNC k = fn :=
    Dev.each_inv (fun v => v.f F.HOSTQ_CQ_CFG_FUNC k = fn) _ _ (fun _ _ _ hv => (Dev.flrSq_f (by decide) (by decide) (by decide) k).trans hv) s h
  exact Dev.each_at (fun _ => True) (fun v => v.f F.HOSTQ_CQ_CFG_EN k = 0) _ _ (Dev.mem_cqsOf.mpr ⟨hk, hfn⟩) (fun _ _ _ _ => trivial)
    (fun _ _ => Dev.flrCq_resets _) (fun _ q _ hv => Dev.flrCq_off _ q hv) _ trivial

theorem Dev.flrRings_none {fn : Nat} (h : ∀ k, k < 64 → s.f F.HOSTQ_SQ_CFG_FUNC k ≠ fn ∧ s.f F.HOSTQ_CQ_CFG_FUNC k ≠ fn) : s.sqsOf fn = [] ∧ s.flrRings fn = s := by
  have hs : s.sqsOf fn = [] := List.eq_nil_iff_forall_not_mem.mpr fun k hk => (h k (Dev.mem_sqsOf.mp hk).1).1 (Dev.mem_sqsOf.mp hk).2
  have hc : s.cqsOf fn = [] := List.eq_nil_iff_forall_not_mem.mpr fun k hk => (h k (Dev.mem_cqsOf.mp hk).1).2 (Dev.mem_cqsOf.mp hk).2
  refine ⟨hs, ?_⟩
  unfold Dev.flrRings
  rw [hs]
  exact congrArg (fun l => s.each l (Dev.flrCq [])) hc

theorem Dev.flr_vf {fn : Nat} (h : 1 ≤ fn) : s.flr fn = s.flrOne fn := if_neg (by omega)

/-- HOSTQ stands in no island. -/
theorem Dev.whenOn_hostq (hm : s.role = .manager) (hd : s.gate.dormant = false) (g : Dev → Dev) : s.whenOn .hostq g = g s := by
  have hg : s.blkGated .hostq = false := by
    unfold Dev.blkGated
    rw [hm, show (islands .manager).filter (fun k => decide (islandBlk k = .hostq)) = [] by decide]
    rfl
  refine if_neg ?_
  rw [hm, hg, hd]
  decide

end

/-- Settles O44. -/
theorem hostRings : Obligations.HostRings := by
  intro s r d on q c head
  have hon : on → s.dev.begin.sqOn r = true := Dev.sqOn_of (s := s.dev.begin)
  refine ⟨fun fn v hr hm => ?_, fun fn v hr hm => ?_, fun fn v hm => ⟨?_, ?_⟩, fun bytes h ht hf => ?_, fun bytes h => ?_, fun bytes st h ht => ?_,
    fun timeout data h ht => ?_, fun e es hen hf hh hw hi hn hc => ?_, fun h => ?_, ?_, fun fn h1 h4 hm hd => ?_, fun fn h1 h4 hm hd hno => ?_⟩
  · intro o n check held
    have hrun : s.Runs (.sqDoorbell fn r v) (d.doorbell false fn r v).dev := State.runs_sqDoorbell
    have hden : n ≤ v ∨ n - 1 < held → d.sqDoorbell r v = d.deny .invalid := fun h => if_pos h
    have hok : ¬ (n ≤ v ∨ n - 1 < held) → d.sqDoorbell r v = (.ok, d.setSq r { q with tail := v }) := fun h => if_neg h
    exact ⟨fun hc hv hh => hrun.of_eq (Dev.doorbell_taken (s := d) hr hm rfl hc (hok (not_or.mpr ⟨Nat.not_le.mpr hv, Nat.not_lt.mpr hh⟩))),
      fun hc hf hbad => hrun.of_eq (Dev.doorbell_denied (s := d) hr hm rfl hc (hden hbad) hf), fun a ha hf => hrun.of_eq (Dev.doorbell_refused (s := d) hr hm rfl ha hf)⟩
  · intro o n check freed
    have ho : bellAt true r = o := by
      unfold bellAt o
      rw [if_pos rfl]
      omega
    have hrun : s.Runs (.cqDoorbell fn r v) (d.doorbell true fn r v).dev := State.runs_cqDoorbell
    have hden : n ≤ v ∨ c.used < freed → d.cqDoorbell r v = d.deny .invalid := fun h => if_pos h
    have hok : ¬ (n ≤ v ∨ c.used < freed) → d.cqDoorbell r v = (.ok, d.setCq r { c with used := c.used - freed }) := fun h => if_neg h
    exact ⟨fun hc hv hh => hrun.of_eq (Dev.doorbell_taken (s := d) hr hm ho hc (hok (not_or.mpr ⟨Nat.not_le.mpr hv, Nat.not_lt.mpr hh⟩))),
      fun hc hf hbad => hrun.of_eq (Dev.doorbell_denied (s := d) hr hm ho hc (hden hbad) hf), fun a ha hf => hrun.of_eq (Dev.doorbell_refused (s := d) hr hm ho ha hf)⟩
  · exact State.runs_sqDoorbell.of_eq (congrArg Acted.dev (Dev.doorbell_none (s := d) hm))
  · exact State.runs_cqDoorbell.of_eq (congrArg Acted.dev (Dev.doorbell_none (s := d) hm))
  · intro x u
    refine ⟨fun hop hk hh => ?_, fun hbad => ?_⟩
    · exact State.runs_descriptorFetch.of_eq ((Dev.fetch_of (s := d) (hon h) ht hf).trans (if_neg fun hx => hx.elim (Nat.not_lt.mpr hop) fun hx => hx.elim (fun hx => hx hk) fun hx => hx hh))
    · exact State.runs_descriptorFetch.of_eq ((Dev.fetch_of (s := d) (hon h) ht hf).trans
        (if_pos (hbad.imp_right fun hx => hx.imp (fun hx => Bool.eq_false_iff.mp hx) fun hx => Bool.eq_false_iff.mp hx)))
  · exact State.runs_descriptorFetch.of_eq (Dev.fetch_idle (s := d) (h.imp_left fun h hs => h (Dev.of_sqOn hs)))
  · exact State.runs_descriptorFetch.of_eq (Dev.fetchFail_of (s := d) (hon h) ht)
  · exact State.runs_hostReadTimeout.of_eq (Dev.fetchFail_of (s := d) (hon h) ht)
  · exact State.runs_cqEntryWrite.of_eq (Dev.cqWrite_of (s := d) hen hf hh hw hi hn hc)
  · rcases h with h | h | h
    · exact State.runs_cqEntryWrite.of_eq (Dev.cqWrite_off (s := d) (.inl h))
    · exact State.runs_cqEntryWrite.of_eq (Dev.cqWrite_off (s := d) (.inr h))
    · exact State.runs_cqEntryWrite.of_eq (Dev.cqWrite_none (s := d) h)
  · refine ⟨fun ⟨hi, ht, hs⟩ => State.runs_irqCoalesceTimeout.of_eq (Dev.coalesce_due (s := d) hi ht hs), fun h => State.runs_irqCoalesceTimeout.of_eq (if_neg fun ⟨hi, ht, hs⟩ => h ⟨of_decide_eq_true hi, ht, hs⟩)⟩
  · have hrun : s.Runs (.flr fn) (d.flrOne fn) := State.runs_flr.of_eq ((Dev.whenOn_hostq (s := d) hm hd _).trans (Dev.flr_vf h1))
    rw [Dev.flrOne_eq] at hrun
    have hsq : ∀ k, k < 64 → s.dev.f F.HOSTQ_SQ_CFG_FUNC k = fn → (d.flrRings fn).SqReset k := fun k hk hf => Dev.flrRings_sq (s := d) hk hf
    have hcq : ∀ k, k < 64 → s.dev.f F.HOSTQ_CQ_CFG_FUNC k = fn → (d.flrRings fn).f F.HOSTQ_CQ_CFG_EN k = 0 := fun k hk hf => Dev.flrRings_cq (s := d) hk hf
    generalize d.flrRings fn = u at hrun hsq hcq
    generalize d.flrCount (d.sqsOf fn) = n at hrun
    refine hrun.does ⟨fun k hk hf => ?_, fun k hk hf => (Dev.flrTold_f (by decide) (by decide) (by decide) (by decide) ..).trans (hcq k hk hf), Dev.flrTold_fn h4 n⟩
    exact (hsq k hk hf).of_eq (Dev.flrTold_f (by decide) (by decide) (by decide) (by decide) ..) (Dev.flrTold_f (by decide) (by decide) (by decide) (by decide) ..) (Dev.sqOf_hostEvt _ rfl)
  · have hrun : s.Runs (.flr fn) (d.flrOne fn) := State.runs_flr.of_eq ((Dev.whenOn_hostq (s := d) hm hd _).trans (Dev.flr_vf h1))
    obtain ⟨hs, hr⟩ := Dev.flrRings_none (s := d) hno
    rw [Dev.flrOne_eq, hr, hs] at hrun
    exact hrun

end Sys2Proof.Machine
end

section
/-! Descriptors at their turn (R387, R389, R390, R392, R402, R416, R424, R425), and O45. -/

namespace Sys2Proof.Machine

section
variable {s : Dev} {r : Nat} {x : Desc}

/-! ### What permits an access -/

theorem Dev.tgCheck_none {m t acc o n : Nat} {life : Bool} : s.tgCheck m t acc o n life = none ↔ life = false ∧ s.tgPermits s.tgBank t m acc o n = true := by
  unfold Dev.tgCheck
  cases life
  · by_cases h : s.tgPermits s.tgBank t m acc o n = true <;> simp [h]
  · simp

theorem Dev.accessCheck_none {m t o n acc : Nat} {b : Blk} {stale : Bool} : s.accessCheck m b t o n acc stale = none ↔
    s.blockStatus b (if t < 18 then o else 0) = .ok ∧ stale = false ∧ s.tgCheck m t acc o n (decide (m = mDebug) && decide (s.lc = lcSealed)) = none := by
  unfold Dev.accessCheck
  dsimp only
  generalize s.blockStatus b (if t < 18 then o else 0) = st
  by_cases hr : st = .retired
  · simp [hr]
  · by_cases hok : st = .ok
    · cases stale
      · simp only [hok, reduceCtorEq, if_false, ne_eq, not_true, Bool.false_eq_true, true_and]
        split <;> simp_all
      · simp [hok]
    · simp [hr, hok]

/-- What is permitted is permitted in the device that a command begins with. -/
theorem Dev.accessCheck_begin {m t o n acc : Nat} {b : Blk} {stale : Bool} (h : s.accessCheck m b t o n acc stale = none) : s.begin.accessCheck m b t o n acc stale = none := by
  rw [Dev.accessCheck_none] at h ⊢
  obtain ⟨hb, hst, ht⟩ := h
  rw [Dev.tgCheck_none] at ht
  exact ⟨hb, hst, Dev.tgCheck_none.mpr ht⟩

/-! ### The judgement of a descriptor -/

section
variable {form : Bool} {b : Blk} {t o n : Nat} {stale : Bool} (g : Dev → Dev)

theorem Dev.judge_bad (h : form = false) (accs : List Nat) : s.judge r x form b t o n accs stale g = s.endDesc r x .invalid [] := if_pos (by rw [h]; decide)

theorem Dev.judge_goes (h : form = true) {accs : List Nat} (hg : ∀ acc ∈ accs, s.accessCheck (s.sqMaster r) b t o n acc stale = none) :
    s.judge r x form b t o n accs stale g = g s := by
  have hnone : (accs.filterMap fun acc => s.accessCheck (s.sqMaster r) b t o n acc stale) = [] := List.filterMap_eq_nil_iff.mpr hg
  rw [Dev.judge, if_neg (not_not_intro h), hnone]
  rfl

theorem Dev.judge_one (h : form = true) {acc : Nat} (hg : s.accessCheck (s.sqMaster r) b t o n acc stale = none) : s.judge r x form b t o n [acc] stale g = g s :=
  Dev.judge_goes g h fun a ha => List.mem_singleton.mp ha ▸ hg
end

/-! ### Each operation -/

theorem Dev.descNop_of (h : s.turn r 0 = some x) : s.descNop r = s.endDesc r x (if x.zeroBut [] then .ok else .invalid) [] := by rw [Dev.descNop, h]

/-- The access of a descriptor. -/
def Desc.access (x : Desc) (m r : Nat) (wr : Bool) : Access :=
  { m := m, off := field x.bytes 8 4, n := field x.bytes 12 1, wr := if wr then some (field x.bytes 16 8) else none, ep := some x.epoch, desc := some (r, x.idx) }

def Desc.regForm (x : Desc) (wr : Bool) : Bool := x.zeroBut ([(8, 4), (12, 1)] ++ if wr then [(16, 8)] else [])

theorem Dev.descReg_none {wr : Bool} (h : s.turn r (if wr then 2 else 1) = none) : s.descReg r wr = s := by rw [Dev.descReg, h]

theorem Dev.descReg_bad {wr : Bool} (h : s.turn r (if wr then 2 else 1) = some x) (hf : x.regForm wr = false) : s.descReg r wr = s.endDesc r x .invalid [] := by
  rw [Dev.descReg, h]
  exact if_pos (Bool.eq_false_iff.mp hf)

/-- Without a request for cells the descriptor completes with its access. -/
theorem Dev.descReg_of {wr : Bool} (h : s.turn r (if wr then 2 else 1) = some x) (hf : x.regForm wr = true) :
    let a := (s.startDesc r x).access (x.access (s.sqMaster r) r wr)
    let t := a.2.2.iff (wr && decide (a.1 = .ok)) fun t => t.directLast (field x.bytes 8 4) (field x.bytes 12 1)
    a.1 ≠ .ok ∨ t.spin.reqs = [] → s.descReg r wr = t.finish r x a.1 (t.answerEpoch (field x.bytes 8 4) x.epoch) (if wr then [] else bytesOf 8 a.2.1) := by
  intro a t hend
  rw [Dev.descReg, h]
  refine (if_neg (not_not_intro hf)).trans (if_neg fun ⟨hok, hreq⟩ => ?_)
  rcases hend with hend | hend
  · exact hend hok
  · change t.spin.reqs.any _ = true at hreq
    rw [hend] at hreq
    exact absurd hreq (by simp)

theorem Dev.descCopyIn_bad (h : s.turn r 3 = some x) (data : List Byte) (hf : x.copyOk false = false ∨ s.copyShown x = false) : s.descCopyIn r data none = s.endDesc r x .invalid [] := by
  rw [Dev.descCopyIn, h]
  exact Dev.judge_bad _ (Bool.and_eq_false_iff.mpr hf) _

theorem Dev.descCopyIn_of (h : s.turn r 3 = some x) (data : List Byte) (hf : x.copyOk false = true) (hs : s.copyShown x = true)
    (hg : ∀ acc ∈ extentAcc (field x.bytes 20 1) (field x.bytes 16 4) (field x.bytes 24 4),
      s.accessCheck (s.sqMaster r) x.copyAt.1 x.copyAt.2.1 x.copyAt.2.2 (field x.bytes 24 4) acc (x.stale s x.copyAt.1) = none) :
    let a := s.copyInto (s.sqMaster r) (field x.bytes 20 1) (field x.bytes 16 4) (slice data 0 (field x.bytes 24 4))
    s.descCopyIn r data none = a.2.endDesc r x a.1 [] := by
  rw [Dev.descCopyIn, h]
  exact Dev.judge_goes _ (Bool.and_eq_true_iff.mpr ⟨hf, hs⟩) hg

theorem Dev.descCopyOut_bad (h : s.turn r 4 = some x) (hf : x.copyOk true = false) : s.descCopyOut r = s.endDesc r x .invalid [] := by
  rw [Dev.descCopyOut, h]
  exact Dev.judge_bad _ hf _

theorem Dev.descCopyOut_of (h : s.turn r 4 = some x) (hf : x.copyOk true = true)
    (hg : s.accessCheck (s.sqMaster r) x.copyAt.1 x.copyAt.2.1 x.copyAt.2.2 (field x.bytes 24 4) 1 (x.stale s x.copyAt.1) = none) :
    let a := s.copyFrom (s.sqMaster r) (field x.bytes 20 1) (field x.bytes 16 4) (field x.bytes 24 4)
    s.descCopyOut r = (a.2.2.emit (.hostWrite (s.sqMaster r) (field x.bytes 8 8) a.2.1)).endDesc r x a.1 [] := by
  rw [Dev.descCopyOut, h]
  exact Dev.judge_one _ hf hg

theorem Dev.descSwap_bad (h : s.turn r 6 = some x) (hf : x.zeroBut [(8, 8)] = false) : s.descSwap r = s.endDesc r x .invalid [] := by
  rw [Dev.descSwap, h]
  exact Dev.judge_bad _ hf _

theorem Dev.descSwap_of (h : s.turn r 6 = some x) (hf : x.zeroBut [(8, 8)] = true) (hg : s.accessCheck (s.sqMaster r) .global 0 0x120 8 3 (x.stale s .global) = none) :
    let a := (s.startDesc r x).swapRequest (field x.bytes 8 8) (some (r, x.idx))
    s.descSwap r = if a.1 = .ok then a.2 else a.2.endDesc r x a.1 [] := by
  rw [Dev.descSwap, h]
  exact Dev.judge_one _ hf hg

/-- The form of a remote request. -/
def Dev.remoteForm (s : Dev) (x : Desc) : Bool :=
  x.zeroBut [(8, 16)] && decide (1 ≤ field x.bytes 8 1) && decide (field x.bytes 8 1 ≤ 4) && decide (field x.bytes 9 1 ≤ 1) && decide (field x.bytes 10 1 ≤ 127) &&
    (decide (field x.bytes 11 1 = 63) || (decide (field x.bytes 11 1 < 48) && decide (s.laneMode (field x.bytes 11 1) = mPrimary)))

theorem Dev.remoteForm_bad (h : field x.bytes 8 1 = 0 ∨ 4 < field x.bytes 8 1) : s.remoteForm x = false := by
  unfold Dev.remoteForm
  rcases h with h | h
  · simp [h]
  · simp [Nat.not_le.mpr h]

theorem Dev.descRemote_bad (h : s.turn r 5 = some x) (hf : s.remoteForm x = false) : s.descRemote r = s.endDesc r x .invalid [] := by
  rw [Dev.descRemote, h]
  exact Dev.judge_bad _ hf _

theorem Dev.descRemote_of (h : s.turn r 5 = some x) (hf : s.remoteForm x = true) :
    let lane := field x.bytes 11 1
    let b := if lane = 63 then Blk.leaf else .trunk
    s.accessCheck (s.sqMaster r) b b.num (0x40 * (if lane = 63 then field x.bytes 10 1 else lane)) 0x40 3 false = none →
    s.descRemote r = (s.startDesc r x).rrSubmit
      { lane := lane, dest := field x.bytes 9 1, port := field x.bytes 10 1, op := field x.bytes 8 1, epoch := x.epoch,
        addr := field x.bytes 12 4, data := field x.bytes 16 8, desc := some (r, x.idx), cell := 0, sent := none } := by
  intro lane b hg
  rw [Dev.descRemote, h]
  exact Dev.judge_one _ hf hg

def Desc.ethForm (x : Desc) : Bool := x.zeroBut [(8, 16)] && decide (bits (field x.bytes 18 1) 2 2 = 0) && decide (bits (field x.bytes 18 1) 6 2 = 0) && decide (field x.bytes 19 1 < 4)

theorem Dev.descEthTx_bad (h : s.turn r 7 = some x) (data : List Byte) (hf : x.ethForm = false) : s.descEthTx r data none = s.endDesc r x .invalid [] := by
  rw [Dev.descEthTx, h]
  exact Dev.judge_bad _ hf _

theorem Dev.descEthTx_of (h : s.turn r 7 = some x) (data : List Byte) (hf : x.ethForm = true) : let p := field x.bytes 18 1 % 4
    s.accessCheck (s.sqMaster r) .eth 5 (0x40 * p) 0x40 3 (decide (x.epoch ≠ s.f F.ETH_PORT_STAT_EPOCH p)) = none →
    s.descEthTx r data none = (s.startDesc r x).ethSend p (bits (field x.bytes 18 1) 4 2)
      { bytes := slice data 0 (field x.bytes 16 2), launch := if bitOf (field x.bytes 19 1) 1 then some (field x.bytes 20 4) else none, held := false,
        stamp := if bitOf (field x.bytes 19 1) 0 then some x.tag else none, desc := some (r, x.idx), ingress := none } := by
  intro p hg
  rw [Dev.descEthTx, h]
  exact Dev.judge_one _ hf hg

def Desc.bufForm (x : Desc) : Bool := x.zeroBut [(8, 10)] && decide (64 ≤ field x.bytes 16 2) && decide (field x.bytes 16 2 ≤ 16384)

theorem Desc.bufForm_bad (h : field x.bytes 16 2 < 64 ∨ 16384 < field x.bytes 16 2) : x.bufForm = false := by
  unfold Desc.bufForm
  rcases h with h | h
  · simp [Nat.not_le.mpr h]
  · simp [Nat.not_le.mpr h]

theorem Dev.descRxBuf_bad (h : s.turn r 8 = some x) (hf : x.bufForm = false) : s.descRxBuf r = s.endDesc r x .invalid [] := by
  rw [Dev.descRxBuf, h]
  exact Dev.judge_bad _ hf _

theorem Dev.descRxBuf_eth (h : s.turn r 8 = some x) (hf : x.bufForm = true) (hk : s.f F.HOSTQ_SQ_CFG_KIND r < 5)
    (hg : s.accessCheck (s.sqMaster r) .eth Blk.eth.num (0x40 * (s.f F.HOSTQ_SQ_CFG_KIND r - 1)) 0x40 1 (decide (x.epoch ≠ s.f F.ETH_PORT_STAT_EPOCH (s.f F.HOSTQ_SQ_CFG_KIND r - 1))) = none) :
    s.descRxBuf r = s.startDesc r x := by
  rw [Dev.descRxBuf, h]
  dsimp only
  rw [if_pos hk, if_pos hk, if_pos hk]
  exact Dev.judge_one _ hf hg

def Desc.canForm (x : Desc) : Bool :=
  x.zeroBut [(8, 6), (16, 8)] && decide (field x.bytes 12 1 < 32) && decide (field x.bytes 13 1 < 2) && !(idRtr (field x.bytes 8 4) && idFdf (field x.bytes 8 4))

theorem Dev.descCanTx_bad (h : s.turn r 9 = some x) (data : List Byte) (hf : x.canForm = false) : s.descCanTx r data none = s.endDesc r x .invalid [] := by
  rw [Dev.descCanTx, h]
  exact Dev.judge_bad _ hf _

theorem Dev.descCanTx_of (h : s.turn r 9 = some x) (data : List Byte) (hf : x.canForm = true) : let c := field x.bytes 13 1
    let id := field x.bytes 8 4
    let dlc := field x.bytes 12 1 % 16
    s.accessCheck (s.sqMaster r) .can 14 (0x40 * c) 0x40 3 (x.stale s .can) = none →
    let a := (s.startDesc r x).canQueue c { frame := { id := id, dlc := dlc, brs := bitOf (field x.bytes 12 1) 4, data := slice data 0 (canLen id dlc) }, desc := some (r, x.idx, x.tag), last := false }
    s.descCanTx r data none = if a.1 = .ok then a.2 else a.2.endDesc r x a.1 [] := by
  intro c id dlc hg
  rw [Dev.descCanTx, h]
  exact Dev.judge_one _ hf hg

/-- What a CAN_CANCEL names. -/
def Desc.cancels (x : Desc) (y : CanTx) : Bool := match y.desc with | some (r', _, t) => decide (r' = field x.bytes 10 1) && decide (t = field x.bytes 8 2) | none => false
def Desc.cancelForm (x : Desc) : Bool := x.zeroBut [(8, 3), (13, 1)] && decide (field x.bytes 13 1 < 2) && decide (field x.bytes 10 1 < 64)

theorem Dev.descCanCancel_of (h : s.turn r 10 = some x) (late : Bool) (hf : x.cancelForm = true) : let c := field x.bytes 13 1
    s.accessCheck (s.sqMaster r) .can 14 (0x40 * c) 0x40 3 (x.stale s .can) = none →
    let a := s.canCancel c (x.cancels) late
    s.descCanCancel r late = a.2.endDesc r x a.1 [] := by
  intro c hg
  rw [Dev.descCanCancel, h]
  exact Dev.judge_one _ hf hg

/-! ### SECURE -/

theorem Dev.descSecure_none (h : s.turn r 11 = none) (k : Nat) (g : Dev → Desc → Nat → Dev) : s.descSecure r k g = s := by rw [Dev.descSecure, h]

theorem Dev.descSecure_of {k : Nat} (h : s.turn r 11 = some x) (hz : x.zeroBut [(8, 1), (16, 12), (32, 32)] = true) (hk : field x.bytes 8 1 = k) (h1 : 1 ≤ k) (h4 : k ≤ 4)
    (hg : s.accessCheck (s.sqMaster r) .secure 3 0x10 4 3 (x.stale s .secure) = none) (hid : s.f F.SECURE_STAT_ID_READY ≠ 0) (g : Dev → Desc → Nat → Dev) :
    s.descSecure r k g = g s x (field x.bytes 24 4) := by
  have hform : (x.zeroBut [(8, 1), (16, 12), (32, 32)] && decide (1 ≤ field x.bytes 8 1) && decide (field x.bytes 8 1 ≤ 4)) = true := by
    rw [hz, hk, decide_eq_true h1, decide_eq_true h4]
    rfl
  have hready : s.flag F.SECURE_STAT_ID_READY = true := decide_eq_true hid
  rw [Dev.descSecure, h]
  exact (if_neg fun hx => hx.2 hk).trans ((Dev.judge_one _ hform hg).trans (if_neg (not_not_intro hready)))

end

/-- Settles O45: each row is the judgement of its descriptor, and what it admits. -/
theorem hostDescriptors : Obligations.HostDescriptors := by
  intro s r x d fn grants go
  have hg : ∀ {b : Blk} {t o n acc : Nat} {stale : Bool}, grants b t o n acc stale → d.accessCheck fn b t o n acc stale = none := fun h => Dev.accessCheck_begin h
  refine ⟨fun op row hrow hno => ?_, fun h => State.runs_hostqNop.of_eq (Dev.descNop_of (s := d) h), fun h => ?_, fun h => ?_, fun h => ?_, fun h => ?_, fun h => ?_, fun h => ?_, fun h => ?_, fun h => ?_,
    fun h => ?_, fun h => ?_, fun h hz => ?_⟩
  · simp only [List.mem_cons, Prod.mk.injEq, List.not_mem_nil, or_false] at hrow
    rcases hrow with ⟨rfl, rfl⟩ | ⟨rfl, rfl⟩ | ⟨rfl, rfl⟩ | ⟨rfl, rfl⟩ | ⟨rfl, rfl⟩ | ⟨rfl, rfl⟩ | ⟨rfl, rfl⟩ | ⟨rfl, rfl⟩ | ⟨rfl, rfl⟩
    · exact State.runs_hostqNop.of_eq (by rw [Dev.descNop, show s.dev.begin.turn r 0 = none from hno])
    · exact State.runs_regRd.of_eq (Dev.descReg_none (s := d) (wr := false) hno)
    · exact State.runs_regWr.of_eq (Dev.descReg_none (s := d) (wr := true) hno)
    · exact State.runs_copyOut.of_eq (by rw [Dev.descCopyOut, show s.dev.begin.turn r 4 = none from hno])
    · exact State.runs_remote.of_eq (by rw [Dev.descRemote, show s.dev.begin.turn r 5 = none from hno])
    · exact State.runs_cfgSwap.of_eq (by rw [Dev.descSwap, show s.dev.begin.turn r 6 = none from hno])
    · exact State.runs_rxBuf.of_eq (by rw [Dev.descRxBuf, show s.dev.begin.turn r 8 = none from hno])
    · exact State.runs_quoteDesc.of_eq (Dev.descSecure_none (s := d) hno _ _)
    · exact State.runs_cert.of_eq (Dev.descSecure_none (s := d) hno _ _)
  · refine ⟨fun hf => State.runs_regRd.of_eq (Dev.descReg_bad (s := d) (wr := false) h hf), fun hf => ?_⟩
    intro a hend
    exact State.runs_regRd.of_eq (Dev.descReg_of (s := d) (wr := false) h hf hend)
  · refine ⟨fun hf => State.runs_regWr.of_eq (Dev.descReg_bad (s := d) (wr := true) h hf), fun hf => ?_⟩
    intro a t hend
    have ht : a.2.2.iff (true && decide (a.1 = .ok)) (fun t => t.directLast (field x.bytes 8 4) (field x.bytes 12 1)) = t := by
      unfold t Dev.iff
      by_cases hok : a.1 = .ok <;> simp [hok]
    have hof := Dev.descReg_of (s := d) (wr := true) h hf
    dsimp only at hof
    exact State.runs_regWr.of_eq ((hof (ht.symm ▸ hend)).trans (by rw [← ht]; rfl))
  · exact ⟨fun data hf => State.runs_copyIn.of_eq (Dev.descCopyIn_bad (s := d) h data hf),
      fun data hf hs hgr => State.runs_copyIn.of_eq (Dev.descCopyIn_of (s := d) h data hf hs fun acc ha => hg (hgr acc ha))⟩
  · exact ⟨fun hf => State.runs_copyOut.of_eq (Dev.descCopyOut_bad (s := d) h hf), fun hf hgr => State.runs_copyOut.of_eq (Dev.descCopyOut_of (s := d) h hf (hg hgr))⟩
  · exact ⟨fun hf => State.runs_cfgSwap.of_eq (Dev.descSwap_bad (s := d) h hf), fun hf hgr => State.runs_cfgSwap.of_eq (Dev.descSwap_of (s := d) h hf (hg hgr))⟩
  · refine ⟨fun hop => State.runs_remote.of_eq (Dev.descRemote_bad (s := d) h (Dev.remoteForm_bad hop)), fun hz h1 h4 hd hp hl hgr => State.runs_remote.of_eq (Dev.descRemote_of (s := d) h ?_ (hg hgr))⟩
    unfold Dev.remoteForm
    rw [hz, decide_eq_true h1, decide_eq_true h4, decide_eq_true hd, decide_eq_true hp, ← Bool.decide_and, ← Bool.decide_or]
    exact decide_eq_true hl
  · refine ⟨fun data hfl => State.runs_ethTx.of_eq (Dev.descEthTx_bad (s := d) h data ?_), fun data hz h2 h6 hfl hgr => State.runs_ethTx.of_eq (Dev.descEthTx_of (s := d) h data ?_ (hg hgr))⟩
    · unfold Desc.ethForm
      rw [decide_eq_false (Nat.not_lt.mpr hfl), Bool.and_false]
    · unfold Desc.ethForm
      rw [hz, decide_eq_true h2, decide_eq_true h6, decide_eq_true hfl]
      rfl
  · refine ⟨fun hl => State.runs_rxBuf.of_eq (Dev.descRxBuf_bad (s := d) h (Desc.bufForm_bad hl)), fun hz h64 hle hk hgr => State.runs_rxBuf.of_eq (Dev.descRxBuf_eth (s := d) h ?_ hk (hg hgr))⟩
    unfold Desc.bufForm
    rw [hz, decide_eq_true h64, decide_eq_true hle]
    rfl
  · refine ⟨fun data hrtr hfdf => State.runs_canTx.of_eq (Dev.descCanTx_bad (s := d) h data ?_), fun data hz hctl hc hid hgr => State.runs_canTx.of_eq (Dev.descCanTx_of (s := d) h data ?_ (hg hgr))⟩
    · unfold Desc.canForm
      rw [hrtr, hfdf]
      exact Bool.and_false _
    · unfold Desc.canForm
      rw [hz, decide_eq_true hctl, decide_eq_true hc, Bool.eq_false_iff.mpr fun hx => hid (Bool.and_eq_true_iff.mp hx)]
      rfl
  · intro c q late hz hc hq hgr
    refine State.runs_canCancel.of_eq (Dev.descCanCancel_of (s := d) h late ?_ (hg hgr))
    unfold Desc.cancelForm
    rw [hz, decide_eq_true hc, decide_eq_true hq]
    rfl
  · intro k len hgr hid
    have hsec : ∀ (sub : Nat) (g : Dev → Desc → Nat → Dev), k = sub → 1 ≤ sub → sub ≤ 4 → d.descSecure r sub g = g d x len := fun sub g hk h1 h4 =>
      Dev.descSecure_of (s := d) h hz hk h1 h4 (hg hgr) hid g
    refine ⟨fun hk hl => ?_, fun hk hl => ?_, fun hk hlc => ?_, fun hk hlc hl => ?_, fun data hk hl => ?_, fun data hk hr => ?_, fun data hk hr => ?_⟩
    · exact State.runs_quoteDesc.of_eq ((hsec 1 _ hk (by decide) (by decide)).trans (if_pos hl))
    · exact State.runs_quoteDesc.of_eq ((hsec 1 _ hk (by decide) (by decide)).trans (if_neg (Nat.not_lt.mpr hl)))
    · exact State.runs_cert.of_eq ((hsec 2 _ hk (by decide) (by decide)).trans (if_pos hlc))
    · exact State.runs_cert.of_eq ((hsec 2 _ hk (by decide) (by decide)).trans ((if_neg hlc).trans (if_neg (Nat.not_lt.mpr hl))))
    · exact State.runs_command.of_eq ((hsec 3 _ hk (by decide) (by decide)).trans (if_neg (Nat.not_lt.mpr hl)))
    · exact State.runs_fwLoad.of_eq ((hsec 4 _ hk (by decide) (by decide)).trans (if_pos (Bool.eq_false_iff.mp (Dev.flag_off (s := d) hr))))
    · exact State.runs_fwLoad.of_eq ((hsec 4 _ hk (by decide) (by decide)).trans (if_neg (not_not_intro (show d.flag F.SECURE_STAT_RECOVERY = true from decide_eq_true hr))))

end Sys2Proof.Machine
end

section
/-! A write of a register under its checks (R4, R7, R8, R57, R386, R400 to R402), and O46. -/

namespace Sys2Proof.Machine

/-! ### A write that is not taken leaves the role -/

/-- The write is taken, or the role is as it was. -/
def Dev.Stays (s : Dev) (a : Acted) : Prop := a.1 = .ok ∨ a.2.role = s.role

section
variable {s u : Dev}

theorem Dev.stays_ok {u : Dev} : s.Stays (.ok, u) := .inl rfl
theorem Dev.stays_deny {st : Status} : s.Stays (s.deny st) := .inr rfl
theorem Dev.Stays.ite {c : Prop} [Decidable c] {a b : Acted} (ha : s.Stays a) (hb : s.Stays b) : s.Stays (if c then a else b) := by
  split
  · exact ha
  · exact hb

theorem Dev.stays_plainIf (b : Bool) (p : RegAt) (v : Nat) : s.Stays (s.plainIf b p v) := .ite stays_ok stays_deny

theorem Dev.stays_pwrWrite (lane : Bool) (v : Nat) : s.Stays (s.pwrWrite lane v) := .ite stays_ok (.ite stays_deny stays_ok)
theorem Dev.stays_warmWrite (op : Nat) : s.Stays (s.warmWrite op) := .ite stays_deny stays_ok
theorem Dev.stays_blkRst (go : Bool) (num : Nat) : s.Stays (s.blkRst go num) := by
  refine .ite stays_ok ?_
  split
  · exact stays_deny
  · exact .ite stays_deny (.ite stays_deny (.ite stays_deny stays_ok))
theorem Dev.stays_cycleCtlWrite (run stamp : Bool) (per : Nat) : s.Stays (s.cycleCtlWrite run stamp per) := .ite stays_deny (.ite stays_deny (.ite stays_deny (.ite stays_deny stays_ok)))
theorem Dev.stays_cyclePhaseWrite (ph : Nat) : s.Stays (s.cyclePhaseWrite ph) := .ite stays_deny (.ite stays_deny (.ite stays_deny stays_ok))
theorem Dev.stays_swapRequest (t : Nat) (ring : Option (Nat × Nat)) : s.Stays (s.swapRequest t ring) :=
  .ite stays_deny (.ite stays_deny (.ite (.inr ((Dev.raise_role ..).trans (Dev.put_role ..))) stays_ok))
theorem Dev.stays_timeCtlWrite (a b c : Nat) : s.Stays (s.timeCtlWrite a b c) := .ite stays_deny stays_ok
theorem Dev.stays_timeIncWrite (v : Nat) : s.Stays (s.timeIncWrite v) := .ite stays_deny (.ite stays_deny (.ite stays_deny stays_ok))
theorem Dev.stays_timeStepWrite (v : Nat) : s.Stays (s.timeStepWrite v) := .ite stays_deny (.ite stays_deny (.ite stays_deny stays_ok))
theorem Dev.stays_sqDoorbell (r v : Nat) : s.Stays (s.sqDoorbell r v) := .ite stays_deny stays_ok
theorem Dev.stays_cqDoorbell (r v : Nat) : s.Stays (s.cqDoorbell r v) := .ite stays_deny stays_ok
theorem Dev.stays_quoteReq (desc : Option (Nat × Nat)) (l : List Byte) : s.Stays (s.quoteReq desc l) := .ite stays_deny (.ite stays_deny (.ite stays_deny stays_ok))
theorem Dev.stays_extendCmd (k : Nat) : s.Stays (s.extendCmd k) := .ite stays_deny (.ite stays_deny stays_ok)
theorem Dev.stays_laneCfgWrite (L w : Nat) (busy : Bool) : s.Stays (s.laneCfgWrite L w busy) := .ite stays_deny (.ite stays_deny (.ite stays_deny stays_ok))
theorem Dev.stays_slotRateWrite (a b c : Nat) : s.Stays (s.slotRateWrite a b c) := .ite stays_deny stays_ok
theorem Dev.stays_cellCmdHost (op g : Nat) : s.Stays (s.cellCmdHost op g) := .ite stays_deny stays_ok
theorem Dev.stays_recIdxWrite (wr : Bool) (g : Nat) : s.Stays (s.recIdxWrite wr g) := .ite stays_deny (.ite (.ite stays_deny stays_ok) stays_ok)
theorem Dev.stays_maintKey2 : s.Stays s.maintKey2 := by
  unfold Dev.maintKey2
  split
  · exact stays_deny
  · exact .ite (.inr rfl) (.ite (.inr rfl) stays_ok)
theorem Dev.stays_wmkHost (w v : Nat) : s.Stays (s.wmkHost w v) := .ite stays_deny stays_ok
theorem Dev.stays_reelRelease (i k : Nat) : s.Stays (s.reelRelease i k) := .ite stays_deny stays_ok
theorem Dev.stays_reelArm (i : Nat) : s.Stays (s.reelArm i) := .ite stays_deny (.ite stays_ok stays_ok)
theorem Dev.stays_canCfgWrite (c w : Nat) : s.Stays (s.canCfgWrite c w) := .ite stays_deny (.ite (.ite stays_deny stays_ok) (.ite (.ite stays_ok stays_deny) stays_ok))
theorem Dev.stays_canQueue (c : Nat) (x : CanTx) : s.Stays (s.canQueue c x) := .ite stays_deny stays_ok
theorem Dev.stays_mailTx (c : Nat) : s.Stays (s.mailTx c) := .ite stays_deny (.ite stays_deny (.ite stays_deny (.ite stays_ok (stays_canQueue ..))))
theorem Dev.stays_safetyConfig : s.Stays s.safetyConfig := .ite stays_deny stays_ok
theorem Dev.stays_safetyRun : s.Stays s.safetyRun := .ite stays_ok (.ite stays_ok stays_deny)
theorem Dev.stays_tripClr (m : Nat) : s.Stays (s.tripClr m) := .ite stays_deny stays_ok
theorem Dev.stays_btStart : s.Stays s.btStart := .ite stays_deny (.ite stays_deny (.ite stays_deny stays_ok))

theorem Dev.stays_canCancel (c : Nat) (named : CanTx → Bool) (late : Bool) : s.Stays (s.canCancel c named late) := by
  unfold Dev.canCancel
  dsimp only
  split
  · exact stays_deny
  · exact .ite (.inr ((Dev.raise_role ..).trans (Dev.put_role ..))) stays_ok

theorem Dev.stays_mailCancel (c : Nat) (late : Bool) : s.Stays (s.mailCancel c late) := by
  refine .ite stays_deny ?_
  rcases s.stays_canCancel c (fun x => x.desc.isNone) late with h | h
  · exact .inl h
  · refine .inr (Eq.trans ?_ h)
    dsimp only [Dev.iff]
    split
    · exact Dev.put_role ..
    · rfl

theorem Dev.stays_adcCalWrite (start clr : Bool) (mask : Nat) : s.Stays (s.adcCalWrite start clr mask) := by
  refine .ite stays_deny (.ite stays_deny (.ite ?_ stays_ok))
  have hrole : ((s.put F.ADC_CAL_MASK mask).iff clr fun s => s.writeW1c F.ADC_CAL_FAIL 0 1).role = s.role := by
    unfold Dev.iff
    split
    · exact (Dev.putb_role ..).trans (Dev.put_role ..)
    · exact Dev.put_role ..
  unfold Dev.adcCalStart
  split
  · exact .inr hrole
  · split
    · exact .inr hrole
    · exact stays_ok

/-- The request waits for its assembly, or the role is as it was. -/
def Dev.Waits (s : Dev) (a : Option Status × Dev) : Prop := a.1 = none ∨ a.2.role = s.role

theorem Dev.Waits.ite {c : Prop} [Decidable c] {a b : Option Status × Dev} (ha : s.Waits a) (hb : s.Waits b) : s.Waits (if c then a else b) := by
  split
  · exact ha
  · exact hb

theorem Dev.waits_cellCmdSend (op : Nat) (all : Bool) (g : Nat) (desc : Option (Nat × Nat)) (fn : Option Nat) : s.Waits (s.cellCmdSend op all g desc fn) :=
  .ite (.inr rfl) (.ite (.inr rfl) (.ite (.inr rfl) (.ite (.inr rfl) (.inl rfl))))

theorem Dev.setOrphan_role (b : Bool) : (s.setOrphan b).role = s.role := (Dev.safeRefresh_leaves ..).keeps.role_eq.trans (Dev.put_role ..)

theorem Dev.stays_pairCommand (op : Nat) : s.Stays (s.pairCommand op) := by
  unfold Dev.pairCommand
  dsimp only
  split
  · exact .ite stays_ok stays_deny
  · exact .ite stays_ok stays_deny
  · exact .ite stays_deny (.ite (.inr (Dev.setOrphan_role _)) stays_ok)
  · exact stays_ok
  · exact stays_ok
  · exact stays_ok
  · exact stays_deny

theorem Dev.stays_dbgHalt : s.Stays s.dbgHalt := by
  refine .ite stays_deny (.ite stays_deny (.ite stays_ok ?_))
  dsimp only
  split <;> exact stays_ok

theorem Dev.stays_dbgCmd (op key : Nat) : s.Stays (s.dbgCmd op key) := by
  have hput : ∀ a : Acted, s.Stays a → s.Stays (a.1, a.2.put F.DEBUG_STAT_LAST a.1.code) := fun a h => h.imp id fun h => (Dev.put_role ..).trans h
  exact hput _ (.ite stays_deny (.ite stays_dbgHalt (.ite (.ite stays_deny stays_ok) (.ite stays_ok stays_deny))))

section
variable (p : RegAt) (v : Nat)

theorem Dev.stays_writeSet : s.Stays (s.writeSet p v) := by
  refine .ite stays_deny (.ite stays_deny ?_)
  split
  · exact .ite stays_ok stays_deny
  · exact stays_ok

theorem Dev.stays_writeGlobal : s.Stays (s.writeGlobal p v) := by
  unfold Dev.writeGlobal
  split
  · exact stays_pwrWrite ..
  · exact stays_pwrWrite ..
  · exact stays_warmWrite ..
  · exact stays_blkRst ..
  · exact stays_cycleCtlWrite ..
  · exact stays_cyclePhaseWrite ..
  · exact stays_ok
  · exact stays_swapRequest ..
  · exact stays_ok

theorem Dev.stays_writeTime : s.Stays (s.writeTime p v) := by
  unfold Dev.writeTime
  split
  · exact stays_timeCtlWrite ..
  · exact stays_timeIncWrite ..
  · exact stays_timeStepWrite ..
  · exact stays_ok

theorem Dev.stays_writeHostq : s.Stays (s.writeHostq p v) := by
  unfold Dev.writeHostq
  dsimp only
  split
  · exact stays_plainIf ..
  · exact .ite stays_deny stays_ok
  · exact stays_plainIf ..
  · exact stays_sqDoorbell ..
  · exact stays_cqDoorbell ..
  · exact stays_ok

theorem Dev.stays_writeSecure : s.Stays (s.writeSecure p v) := by
  refine .ite stays_deny ?_
  split
  · exact .ite (stays_quoteReq ..) (.ite (stays_extendCmd ..) stays_deny)
  · exact .ite stays_deny stays_ok
  · exact stays_ok

theorem Dev.stays_writeEth : s.Stays (s.writeEth p v) := by
  unfold Dev.writeEth
  split
  · exact .ite stays_deny stays_ok
  · exact stays_plainIf ..
  · exact stays_plainIf ..
  · exact stays_ok

theorem Dev.stays_writeLane : s.Stays (s.writeLane p v) := by
  unfold Dev.writeLane
  dsimp only
  split
  · exact stays_laneCfgWrite ..
  · exact .ite stays_ok (.ite stays_ok (.ite stays_ok stays_deny))
  · exact stays_plainIf ..
  · exact stays_plainIf ..
  · exact stays_ok

theorem Dev.stays_writeLoom : s.Stays (s.writeLoom p v) := by
  unfold Dev.writeLoom
  split
  · exact stays_ok
  · exact stays_plainIf ..
  · exact stays_ok
  · exact stays_slotRateWrite ..
  · exact stays_ok

theorem Dev.stays_writeSpindle (w : Writer) : s.Stays (s.writeSpindle w p v) := by
  unfold Dev.writeSpindle
  split
  · refine .ite stays_deny (.ite (.ite stays_deny (stays_cellCmdHost ..)) ?_)
    exact (waits_cellCmdSend ..).imp_left fun h => congrArg (Option.getD · Status.ok) h
  · exact stays_recIdxWrite ..
  · exact stays_ok

theorem Dev.stays_writeGate : s.Stays (s.writeGate p v) := by
  unfold Dev.writeGate
  split
  · exact stays_ok
  · exact stays_plainIf ..
  · exact stays_plainIf ..
  · exact .ite stays_deny stays_ok
  · exact .ite stays_deny stays_ok
  · exact .ite stays_deny stays_ok
  · exact .ite stays_deny (.ite stays_deny stays_ok)
  · exact .ite stays_ok (.ite stays_ok (.ite stays_maintKey2 stays_deny))
  · exact stays_ok

theorem Dev.stays_writeAdc : s.Stays (s.writeAdc p v) := by
  unfold Dev.writeAdc
  split
  · exact stays_adcCalWrite ..
  · exact stays_plainIf ..
  · exact stays_ok

theorem Dev.stays_writeAngle : s.Stays (s.writeAngle p v) := by
  unfold Dev.writeAngle
  dsimp only
  split
  · exact .ite stays_deny stays_ok
  · exact stays_plainIf ..
  · exact stays_ok
  · exact stays_ok
  · exact stays_wmkHost ..
  · exact stays_ok

theorem Dev.stays_writeReel : s.Stays (s.writeReel p v) := by
  unfold Dev.writeReel
  split
  · exact stays_ok
  · exact stays_reelRelease ..
  · exact .ite (stays_reelArm ..) (.ite stays_ok stays_deny)
  · exact stays_ok

theorem Dev.stays_writeCan : s.Stays (s.writeCan p v) := by
  unfold Dev.writeCan
  dsimp only
  split
  · exact stays_canCfgWrite ..
  · exact .ite stays_deny stays_ok
  · exact .ite stays_deny stays_ok
  · exact .ite stays_ok (.ite stays_deny (.ite (stays_mailTx ..) (.ite (stays_mailCancel (s := { s with free := s.free + 1 }) ..) stays_deny)))
  · exact stays_ok

theorem Dev.stays_writeSafety : s.Stays (s.writeSafety p v) := by
  unfold Dev.writeSafety
  split
  · exact .ite stays_safetyRun stays_safetyConfig
  · exact stays_ok
  · exact stays_tripClr ..
  · exact .ite stays_btStart (.ite stays_ok stays_deny)
  · exact stays_ok

theorem Dev.stays_writePair : s.Stays (s.writePair p v) := by
  unfold Dev.writePair
  split
  · exact stays_plainIf ..
  · exact stays_plainIf ..
  · exact stays_plainIf ..
  · exact stays_plainIf ..
  · exact stays_pairCommand ..
  · exact stays_ok

theorem Dev.stays_writeDebug : s.Stays (s.writeDebug p v) := by
  unfold Dev.writeDebug
  split
  · exact stays_dbgCmd ..
  · exact stays_ok

theorem Dev.stays_writeWhole (w : Writer) : s.Stays (s.writeWhole w p v) := by
  unfold Dev.writeWhole
  split
  · exact stays_writeSet ..
  · exact .ite stays_deny stays_ok
  · split
    · exact stays_writeGlobal ..
    · exact stays_ok
    · exact stays_writeHostq ..
    · exact stays_writeSecure ..
    · exact stays_writeTime ..
    · exact stays_writeEth ..
    · exact stays_writeLane ..
    · exact stays_writeLane ..
    · exact stays_writeLoom ..
    · exact stays_writeSpindle ..
    · exact stays_writeGate ..
    · exact stays_writeAdc ..
    · exact stays_writeAngle ..
    · exact stays_writeReel ..
    · exact stays_writeCan ..
    · exact stays_writeSafety ..
    · exact stays_writePair ..
    · exact stays_writeDebug ..
end

/-- A write that is not taken leaves the role. -/
theorem Dev.stays_writeReg (w : Writer) (p : RegAt) (v : Nat) (whole : Bool) : s.Stays (s.writeReg w p v whole) :=
  .ite (stays_writeWhole ..) (.ite stays_deny (stays_writeWhole ..))

/-! ### REGISTER_WRITE -/

variable {m off o v : Nat} {b : Blk}

/-- How the access of a register write ends. -/
def Dev.writeEnds (s : Dev) (m off n v : Nat) (r : Status × Nat × Dev) : Acted := Dev.direct m 0 off true (r.1, r.2.2.iff (decide (r.1 = .ok)) fun s => s.noteDirect m off n v)

theorem Dev.registerWrite_eq (m off n v : Nat) : s.registerWrite m off n v = s.writeEnds m off n v (s.access { m := m, off := off, n := n, wr := some v, ep := none, desc := none }) := rfl

/-- A direct access that fails is captured where its master is a function of the MANAGER (R386). -/
def Dev.writeErr (u : Dev) (r : Role) (m off : Nat) (st : Status) : Dev := (if m ≤ 4 ∧ r = .manager then u.mmioError st m 0 off true else u).complete st

theorem Dev.writeEnds_err {st : Status} (n x : Nat) (hst : st ≠ .ok) (hr : u.role = s.role) : (s.writeEnds m off n v (st, x, u)).dev = u.writeErr s.role m off st := by
  unfold Dev.writeEnds Dev.direct Acted.dev Dev.writeErr Dev.iff
  dsimp only
  rw [decide_eq_false hst, ← hr]
  simp only [Bool.false_eq_true, if_false, decide_eq_true hst, Bool.true_and, Bool.and_eq_true, decide_eq_true_eq]

theorem Dev.writeEnds_ok (n x : Nat) : (s.writeEnds m off n v (.ok, x, u)).dev = (u.noteDirect m off n v).complete .ok := rfl

theorem Dev.access_bad (a : Access) (h : (a.n ≠ 4 ∧ a.n ≠ 8) ∨ a.off % a.n ≠ 0 ∨ 0x120000 ≤ a.off) : s.access a = (.invalid, 0, s) := if_pos h

/-- A word of a block. -/
theorem Dev.access_word (h4 : off % 4 = 0) (hoff : off < 0x120000) (hb : Blk.ofNum (off / 0x10000) = some b) (m v : Nat) :
    s.access { m := m, off := off, n := 4, wr := some v, ep := none, desc := none } =
      s.accessOne { m := m, off := off, n := 4, wr := some v, ep := none, desc := none } b (off % 0x10000) 4 (some (v % 2 ^ 32)) := by
  rw [Dev.access, if_neg (by simp only; omega), hb]
  exact if_pos (.inl rfl)

theorem Dev.accessOne_refused {a : Acted} (h : s.accessCheck m b b.num o 4 (accOf (placeOf b o) true) false = some a) :
    s.accessOne { m := m, off := off, n := 4, wr := some v, ep := none, desc := none } b o 4 (some (v % 2 ^ 32)) = (a.1, 0, a.2) := by
  unfold Dev.accessOne Access.stale
  dsimp only [Option.isSome]
  rw [h]

theorem Dev.accessOne_permitted (h : s.accessCheck m b b.num o 4 (accOf (placeOf b o) true) false = none) :
    s.accessOne { m := m, off := off, n := 4, wr := some v, ep := none, desc := none } b o 4 (some (v % 2 ^ 32)) = s.effect m none b o 4 (some (v % 2 ^ 32)) := by
  unfold Dev.accessOne Access.stale
  dsimp only [Option.isSome]
  rw [h]

theorem Blk.num_lt (b : Blk) : b.num < 18 := by cases b <;> decide

/-- The state of the block comes before the table. -/
theorem Dev.accessCheck_state {acc n : Nat} (h : s.blockStatus b o = .invalid ∨ s.blockStatus b o = .busy) : s.accessCheck m b b.num o n acc false = some (s.blockStatus b o, s) := by
  unfold Dev.accessCheck
  dsimp only
  rw [if_pos b.num_lt]
  generalize s.blockStatus b o = st at h ⊢
  rcases h with rfl | rfl
  · rfl
  · rfl

theorem Dev.accessCheck_retired {acc n : Nat} (h : s.blockStatus b o = .retired) : s.accessCheck m b b.num o n acc false = some (.retired, (s.inc (retireFld b) 1).inc F.GLOBAL_BLK_STAT_RETIRED 1) := by
  unfold Dev.accessCheck
  dsimp only
  rw [if_pos b.num_lt, h]
  rfl

theorem Dev.accessCheck_denied {acc n : Nat} (h : s.blockStatus b o = .ok) (hc : s.tgCheck m b.num acc o n (decide (m = mDebug) && decide (s.lc = lcSealed)) = some u) :
    s.accessCheck m b b.num o n acc false = some (.denied, u) := by
  unfold Dev.accessCheck
  dsimp only
  rw [if_pos b.num_lt, h, hc]
  rfl

theorem Dev.accessCheck_permits {acc n : Nat} (h : s.blockStatus b o = .ok) (hc : s.tgCheck m b.num acc o n (decide (m = mDebug) && decide (s.lc = lcSealed)) = none) :
    s.accessCheck m b b.num o n acc false = none := Dev.accessCheck_none.mpr ⟨by rw [if_pos b.num_lt]; exact h, rfl, hc⟩

theorem Dev.effect_reserved (h : (placeOf b o).filter s.shown = none) (w : Option Nat) : s.effect m none b o 4 w = (.ok, 0, s) := by
  unfold Dev.effect
  rw [h]

theorem Dev.effect_write {p : RegAt} (h : placeOf b o = some p) (hs : s.shown p = true) (w : Nat) :
    s.effect m none b o 4 (some w) = ((s.writeReg { m := m, desc := none } p w false).1, 0, (s.writeReg { m := m, desc := none } p w false).2) := by
  have hp : (placeOf b o).filter s.shown = some p := by rw [h, Option.filter_some, if_pos hs]
  unfold Dev.effect
  rw [hp]
  rfl

end

/-- Settles O46: form, state of the block, Tollgate, register, in this order. -/
theorem registerWriteIsChecked : Obligations.RegisterWriteIsChecked := by
  intro s m off v d o err
  have hruns : ∀ n, s.Runs (.registerWrite m off n v) (d.registerWrite m off n v).dev := fun n => State.runs_registerWrite
  refine ⟨fun n h => (hruns n).of_eq ?_, fun b h4 hoff hb => ?_⟩
  · rw [Dev.registerWrite_eq, Dev.access_bad _ h]
    exact Dev.writeEnds_err n 0 (by decide) rfl
  · intro acc check
    have hword : d.registerWrite m off 4 v = d.writeEnds m off 4 v (d.accessOne { m := m, off := off, n := 4, wr := some v, ep := none, desc := none } b o 4 (some (v % 2 ^ 32))) := by
      rw [Dev.registerWrite_eq, Dev.access_word h4 hoff hb]
    have hrun := (hruns 4).of_eq (congrArg Acted.dev hword)
    have hrefused : ∀ a : Acted, d.accessCheck m b b.num o 4 acc false = some a → s.Runs (.registerWrite m off 4 v) (err a.2 a.1) := fun a ha => by
      obtain ⟨hok, hrole⟩ := Dev.accessCheck_refuses ha
      rw [Dev.accessOne_refused (s := d) (b := b) (o := o) (v := v) (m := m) (off := off) ha] at hrun
      exact hrun.of_eq (Dev.writeEnds_err 4 0 hok hrole)
    have hst : s.dev.blockStatus b o = d.blockStatus b o := rfl
    rw [hst]
    refine ⟨fun h => ?_, fun h => ?_, fun u h hc => ?_, fun h hc hp => ?_, fun p h hc hp hs => ?_⟩
    · exact hrefused (d.blockStatus b o, d) (Dev.accessCheck_state h)
    · exact hrefused (.retired, (d.inc (retireFld b) 1).inc F.GLOBAL_BLK_STAT_RETIRED 1) (Dev.accessCheck_retired h)
    · exact hrefused (.denied, u) (Dev.accessCheck_denied h hc)
    · rw [Dev.accessOne_permitted (Dev.accessCheck_permits (s := d) h hc), Dev.effect_reserved (s := d) hp] at hrun
      exact hrun
    · intro w
      rw [Dev.accessOne_permitted (Dev.accessCheck_permits (s := d) h hc), Dev.effect_write (s := d) hp hs] at hrun
      by_cases hok : w.1 = .ok
      · rw [if_pos hok]
        change s.Runs _ (d.writeEnds m off 4 v (w.1, 0, w.2)).dev at hrun
        rw [hok] at hrun
        exact hrun
      · rw [if_neg hok]
        exact hrun.of_eq (Dev.writeEnds_err 4 0 hok ((Dev.stays_writeReg (s := d) ..).resolve_left hok))

end Sys2Proof.Machine
end

section
/-! Lifecycle commands, images, boot and attestation (R408 to R412, R415 to R420), and O47, O48, O49. -/

namespace Sys2Proof.Machine

section
variable {s u : Dev} {arg pub sig : List Byte} {code : Nat}

/-! ### Commands (R410) -/

/-- The identity is ready, the entropy source is well and the engine has room. -/
def Dev.SecReady (s : Dev) : Prop := s.f F.SECURE_STAT_ID_READY ≠ 0 ∧ s.f F.SECURE_STAT_RNG_FAIL = 0 ∧ s.engineFull = false

/-- The end of a command that was executed. -/
def Dev.lcEnd (u : Dev) (st : Status) : Acted := (st, (u.put F.SECURE_STAT_LC_STATUS st.code).newChal)

/-- The signature over CODE ‖ ARG ‖ CHAL. -/
def Dev.cmdSigned (s : Dev) (code : Nat) (arg pub sig : List Byte) : Bool := s.ownerSigned pub (sha256 (bytesOf 1 code ++ slice arg 0 32 ++ s.sec.chal)) sig

theorem Dev.secCommand_busy (h : ¬ s.SecReady) : s.secCommand code arg pub sig = s.deny .busy := by
  refine if_pos ?_
  by_contra hno
  obtain ⟨hid, hno⟩ := not_or.mp hno
  obtain ⟨hrng, hfull⟩ := not_or.mp hno
  exact h ⟨of_decide_eq_true (not_not.mp hid), not_not.mp fun hr => hrng (decide_eq_true hr), Bool.eq_false_iff.mpr hfull⟩

section
variable (h : s.SecReady)
include h

theorem Dev.secCommand_ready : s.secCommand code arg pub sig =
    let a : Acted := match cmdRule code s.lc with
      | none => s.deny .invalid
      | some signed => if signed ∧ ¬ s.cmdSigned code arg pub sig then s.deny .badsig else s.cmdEffect code (slice arg 0 32)
    a.2.lcEnd a.1 := by
  obtain ⟨hid, hrng, hfull⟩ := h
  have hgo : ¬ (¬ s.flag F.SECURE_STAT_ID_READY = true ∨ s.flag F.SECURE_STAT_RNG_FAIL = true ∨ s.engineFull = true) := by
    rw [hfull, Dev.flag_off hrng, show s.flag F.SECURE_STAT_ID_READY = true from decide_eq_true hid]
    decide
  refine (if_neg hgo).trans ?_
  dsimp only [Dev.lcEnd, Dev.cmdSigned]
  cases cmdRule code s.lc <;> rfl

theorem Dev.secCommand_refused (hr : cmdRule code s.lc = none) : s.secCommand code arg pub sig = s.lcEnd .invalid := by
  rw [Dev.secCommand_ready h, hr]
  rfl

theorem Dev.secCommand_unsigned (hr : cmdRule code s.lc = some true) (hs : s.cmdSigned code arg pub sig = false) : s.secCommand code arg pub sig = s.lcEnd .badsig := by
  rw [Dev.secCommand_ready h, hr]
  dsimp only
  rw [hs]
  rfl

theorem Dev.secCommand_acts {signed : Bool} (hr : cmdRule code s.lc = some signed) (hs : signed = false ∨ s.cmdSigned code arg pub sig = true) {a : Acted}
    (ha : s.cmdEffect code (slice arg 0 32) = a) : s.secCommand code arg pub sig = a.2.lcEnd a.1 := by
  rw [Dev.secCommand_ready h, hr, ← ha]
  dsimp only
  rw [if_neg fun hx => hs.elim (fun hf => absurd (hf.symm.trans hx.1) (by decide)) hx.2]
end

theorem Dev.setOwner_acts : s.cmdEffect 1 arg = (.ok, (s.programSlot 0 arg).put F.SECURE_LC_STATE lcDevelop) := rfl
theorem Dev.seal_acts : s.cmdEffect 2 arg = (.ok, s.put F.SECURE_LC_STATE lcSealed) := rfl
theorem Dev.return_acts : s.cmdEffect 5 arg = (.ok, (({ s with sec := { s.sec with noSeed := true } } : Dev).put F.SECURE_LC_SLOT_REV 15).put F.SECURE_LC_STATE lcReturned) := rfl

theorem Dev.revoke_acts (hk : field arg 0 1 ≤ 3) (hu : bitOf (s.f F.SECURE_LC_SLOT_USED) (field arg 0 1) = true) (hl : s.liveSlots ≠ [field arg 0 1]) :
    s.cmdEffect 4 arg = (.ok, s.setBit F.SECURE_LC_SLOT_REV (field arg 0 1) true) :=
  if_neg fun hx => hx.elim (Nat.not_lt.mpr hk) fun hx => hx.elim (fun hx => hx hu) hl

theorem Dev.revoke_bad (h : 3 < field arg 0 1 ∨ bitOf (s.f F.SECURE_LC_SLOT_USED) (field arg 0 1) = false ∨ s.liveSlots = [field arg 0 1]) : s.cmdEffect 4 arg = s.deny .invalid :=
  if_pos (h.imp_right fun hx => hx.imp_left fun hx => Bool.eq_false_iff.mp hx)

theorem Dev.commit_acts (h : s.sec.fw = true) : s.cmdEffect 6 arg = (.ok, s.put F.SECURE_LC_SVN (max (s.f F.SECURE_LC_SVN) s.sec.imgSvn)) := if_neg (not_not_intro h)
theorem Dev.commit_bad (h : s.sec.fw = false) : s.cmdEffect 6 arg = s.deny .invalid := if_pos (Bool.eq_false_iff.mp h)

theorem Dev.addKey_free {k : Nat} (h : ((List.range 4).find? fun k => !bitOf (s.f F.SECURE_LC_SLOT_USED) k) = some k) : s.cmdEffect 3 arg = (.ok, s.programSlot k arg) := by
  unfold Dev.cmdEffect
  dsimp only
  rw [h]
  rfl

theorem Dev.addKey_full (h : ((List.range 4).find? fun k => !bitOf (s.f F.SECURE_LC_SLOT_USED) k) = none) : s.cmdEffect 3 arg = s.deny .overflow := by
  unfold Dev.cmdEffect
  dsimp only
  rw [h]
  rfl

theorem cmdRule_keys {lc : Nat} (h : lc = lcDevelop ∨ lc = lcSealed) : cmdRule 3 lc = some true ∧ cmdRule 4 lc = some true ∧ cmdRule 5 lc = some true ∧ cmdRule 6 lc = some false := by
  rcases h with rfl | rfl <;> decide

end

/-- Settles O47. -/
theorem lifecycleCommands : Obligations.LifecycleCommands := by
  intro s arg pub sig d a ready fin signed rows
  have hrows : ∀ x ∈ rows, s.Runs x.2 (d.secCommand x.1 arg pub sig).dev := by
    intro x hx
    simp only [rows, List.mem_cons, List.not_mem_nil, or_false] at hx
    rcases hx with rfl | rfl | rfl | rfl | rfl | rfl
    · exact State.runs_setOwner
    · exact State.runs_seal
    · exact State.runs_addKey
    · exact State.runs_revoke
    · exact State.runs_returnCmd
    · exact State.runs_fwCommit
  refine ⟨fun x hx hr => (hrows x hx).of_eq (congrArg Acted.dev (Dev.secCommand_busy (s := d) hr)), fun hr => ?_⟩
  have hready : d.SecReady := hr
  have hacts : ∀ {code : Nat} {row : Instr} {sg : Bool} (_ : (code, row) ∈ rows) (_ : cmdRule code s.dev.lc = some sg) (_ : sg = false ∨ signed code = true) {b : Acted}
      (_ : d.cmdEffect code a = b) {u : Dev} (_ : (b.2.lcEnd b.1).dev = u), s.Runs row u := fun hx hrule hs _ hb _ hu =>
    (hrows _ hx).of_eq ((congrArg Acted.dev (Dev.secCommand_acts hready hrule hs hb)).trans hu)
  refine ⟨fun x hx hrule => (hrows x hx).of_eq (congrArg Acted.dev (Dev.secCommand_refused hready hrule)),
    fun x hx hrule hs => (hrows x hx).of_eq (congrArg Acted.dev (Dev.secCommand_unsigned hready hrule hs)), fun hlc => ?_, fun hlc hs => ?_, fun hlc => ?_, fun h => ?_⟩
  · exact hacts (code := 1) (by simp [rows]) (sg := false) (if_pos hlc) (.inl rfl) (Dev.setOwner_acts (s := d)) rfl
  · exact hacts (code := 2) (by simp [rows]) (sg := true) (if_pos hlc) (.inr hs) (Dev.seal_acts (s := d)) rfl
  · obtain ⟨h3, h4, -, h6⟩ := cmdRule_keys hlc
    refine ⟨fun k hs hk => ?_, fun hs hk => ?_, fun hs hk hu hl => ?_, fun hs hbad => ?_, fun hfw => ?_, fun hfw => ?_⟩
    · exact hacts (code := 3) (by simp [rows]) h3 (.inr hs) (Dev.addKey_free (s := d) hk) rfl
    · exact hacts (code := 3) (by simp [rows]) h3 (.inr hs) (Dev.addKey_full (s := d) hk) rfl
    · exact hacts (code := 4) (by simp [rows]) h4 (.inr hs) (Dev.revoke_acts (s := d) hk hu hl) rfl
    · exact hacts (code := 4) (by simp [rows]) h4 (.inr hs) (Dev.revoke_bad (s := d) hbad) rfl
    · exact hacts (code := 6) (by simp [rows]) h6 (.inl rfl) (Dev.commit_acts (s := d) hfw) rfl
    · exact hacts (code := 6) (by simp [rows]) h6 (.inl rfl) (Dev.commit_bad (s := d) hfw) rfl
  · rcases h with hlc | ⟨hlc, hs⟩
    · exact hacts (code := 5) (by simp [rows]) (sg := false) (if_pos hlc) (.inl rfl) (Dev.return_acts (s := d)) rfl
    · obtain ⟨-, -, h5, -⟩ := cmdRule_keys hlc
      exact hacts (code := 5) (by simp [rows]) h5 (.inr hs) (Dev.return_acts (s := d)) rfl

section
variable {s u : Dev} {l : List Byte}

/-! ### Images (R409, R411) -/

/-- What the vendor's part of the checks says of an image. -/
theorem imgVendorOk_says (h : imgVendorOk l = true) : slice l 0 4 = [0x4F, 0x46, 0x57, 0x31] ∧ slice l 32 32 = sha256 (imgBody l) ∧ sha256 (slice l 128 64) = slice Config.vendorHash 0 32 ∧
    Config.verify (slice l 128 64) (sha256 (slice l 0 64)) (slice l 64 64) = true := by
  simp only [imgVendorOk, Bool.and_eq_true, decide_eq_true_eq] at h
  obtain ⟨⟨⟨⟨⟨⟨⟨⟨hmagic, -⟩, -⟩, -⟩, -⟩, -⟩, hbody⟩, hkey⟩, hsig⟩ := h
  exact ⟨hmagic, hbody, hkey, hsig⟩

/-- What each lifecycle state asks of it. -/
theorem Dev.imgOk_says (h : s.imgOk l = true) : imgVendorOk l = true ∧ s.lc ≠ lcReturned ∧ (s.lc = lcDevelop ∨ s.lc = lcSealed → s.f F.SECURE_LC_SVN ≤ field l 12 1) ∧
    (s.lc = lcSealed → s.imgOwnerOk l = true) := by
  obtain ⟨hv, hlc⟩ := Bool.and_eq_true_iff.mp h
  refine ⟨hv, ?_⟩
  have hconst : lcBlank ≠ lcReturned ∧ lcDevelop ≠ lcReturned ∧ lcSealed ≠ lcReturned ∧ lcBlank ≠ lcDevelop ∧ lcBlank ≠ lcSealed ∧ lcDevelop ≠ lcSealed := by decide
  obtain ⟨h03, h13, h23, h01, h02, h12⟩ := hconst
  by_cases h0 : s.lc = lcBlank
  · exact ⟨by rw [h0]; exact h03, fun hx => hx.elim (fun hx => absurd (h0.symm.trans hx) h01) fun hx => absurd (h0.symm.trans hx) h02, fun hx => absurd (h0.symm.trans hx) h02⟩
  · rw [if_neg h0] at hlc
    by_cases h1 : s.lc = lcDevelop
    · rw [if_pos h1] at hlc
      exact ⟨by rw [h1]; exact h13, fun _ => of_decide_eq_true (Bool.and_eq_true_iff.mp hlc).2, fun hx => absurd (h1.symm.trans hx) h12⟩
    · rw [if_neg h1] at hlc
      by_cases h2 : s.lc = lcSealed
      · rw [if_pos h2] at hlc
        exact ⟨by rw [h2]; exact h23, fun _ => of_decide_eq_true (Bool.and_eq_true_iff.mp hlc).2, fun _ => (Bool.and_eq_true_iff.mp hlc).1⟩
      · rw [if_neg h2] at hlc
        exact absurd hlc (by decide)

/-! ### Boot and measurements -/

theorem Dev.bootCheck_returned (h : s.lc = lcReturned) : s.bootCheck l = s := if_pos (.inr (.inl h))

theorem Dev.bootCheck_of (hm : s.role = .manager) (hlc : s.lc ≠ lcReturned) (hr : s.f F.SECURE_STAT_ID_READY ≠ 0) (hb : s.sec.boot < 2) :
    s.bootCheck l = if s.imgOk l then s.startImage l s.sec.boot
      else Dev.iff { s with sec := { s.sec with boot := s.sec.boot + 1 } } (decide (s.sec.boot + 1 = 2)) fun s => s.raise F.SECURE_STAT_RECOVERY := by
  have hid : s.flag F.SECURE_STAT_ID_READY = true := decide_eq_true hr
  exact if_neg fun h => h.elim (fun h => h hm) fun h => h.elim hlc fun h => h.elim (fun h => h hid) (Nat.not_le.mpr hb)

theorem Dev.setMeas_inv (P : Dev → Prop) (hP : ∀ v x k w, P v → P (v.put F.SECURE_MEAS_V x k w)) (k : Nat) (h : P s) : P (s.setMeas k l) :=
  Dev.each_inv P _ _ (fun _ _ _ hv => hP _ _ _ _ hv) s h

theorem Dev.extend_role (k : Nat) : (s.extend k l).role = s.role := Dev.setMeas_inv (fun v => v.role = s.role) (fun _ _ _ _ hv => (Dev.put_role ..).trans hv) k rfl

theorem Dev.extend_f {G : Fld} (h : G.apart F.SECURE_MEAS_V = true) (k : Nat) : (s.extend k l).f G = s.f G :=
  Dev.setMeas_inv (fun v => v.f G = s.f G) (fun v x k w hv => by rw [Dev.f_put_apart v _ _ _ _ _ h]; exact hv) k rfl

theorem Dev.extend_live (k : Nat) : (s.extend k l).liveSlots = s.liveSlots := by
  unfold Dev.liveSlots
  rw [Dev.extend_f (by decide), Dev.extend_f (by decide)]

/-- M0 takes the ROM's digest and the lifecycle. -/
def Dev.bootMeasured (s : Dev) : Dev := (s.extend 0 (slice Config.romDigest 0 32)).extend 0 (bytesOf 1 s.lc)

theorem Dev.idReady_again (h : s.f F.SECURE_STAT_ID_READY ≠ 0) : s.idReady = s := if_pos (.inl (decide_eq_true h))

theorem Dev.idReady_of (h : s.f F.SECURE_STAT_ID_READY = 0) (hr : s.role ≠ .none) (hp : s.glob.por = false) :
    s.idReady = (if s.role = .manager then s.bootMeasured else s.bootMeasured.formM4 s.liveSlots.head?).raise F.SECURE_STAT_ID_READY := by
  have hid : ¬ (s.flag F.SECURE_STAT_ID_READY = true ∨ s.role = .none ∨ s.glob.por = true) := by
    rw [Dev.flag_off h, hp]
    simp [hr]
  have hlive : s.bootMeasured.liveSlots = s.liveSlots := (Dev.extend_live 0).trans (Dev.extend_live 0)
  have hrole : s.bootMeasured.role = s.role := (Dev.extend_role 0).trans (Dev.extend_role 0)
  rw [← hlive, ← hrole]
  exact if_neg hid

/-! ### Requests (R416, R417) -/

theorem Dev.secReg_off (hb : s.blockStatus .secure 0x10 = .ok) (h : s.f F.SECURE_STAT_ID_READY = 0) (g : Dev → Acted) : (s.begin.secReg g).dev = s.begin.complete .busy :=
  Dev.served_gives hb (if_neg (Bool.eq_false_iff.mp (Dev.flag_off (s := s.begin) h)))

theorem Dev.secReg_of (hb : s.blockStatus .secure 0x10 = .ok) (h : s.f F.SECURE_STAT_ID_READY ≠ 0) {g : Dev → Acted} {st : Status} (hg : g s.begin = (st, u)) :
    (s.begin.secReg g).dev = u.complete st := by
  have hid : s.begin.flag F.SECURE_STAT_ID_READY = true := decide_eq_true h
  exact Dev.served_gives hb ((if_pos hid).trans hg)

section
variable {desc : Option (Nat × Nat)} (h : s.f F.SECURE_STAT_ID_READY ≠ 0)
include h

theorem Dev.quoteReq_returned (hlc : s.lc = lcReturned) : s.quoteReq desc l = s.deny .denied :=
  (if_neg (not_not_intro (show s.flag F.SECURE_STAT_ID_READY = true from decide_eq_true h))).trans (if_pos hlc)

theorem Dev.quoteReq_full (hlc : s.lc ≠ lcReturned) (hq : 5 ≤ s.sec.reqs.length) : s.quoteReq desc l = s.deny .busy :=
  (if_neg (not_not_intro (show s.flag F.SECURE_STAT_ID_READY = true from decide_eq_true h))).trans ((if_neg hlc).trans (if_pos (decide_eq_true hq)))

/-- The first request goes to the engine at once. -/
theorem Dev.quoteReq_first (hlc : s.lc ≠ lcReturned) (hq : s.sec.reqs = []) : s.quoteReq desc l =
    let u := s.put F.SECURE_STAT_BUSY 1
    (.ok, { u with sec := { u.sec with reqs := [{ desc := desc, nonce := slice l 0 32, body := u.quoteBody (slice l 0 32), sec := secOf s.nowFix, ns := nsOf s.nowFix }] } }) := by
  have hroom : ¬ s.engineFull = true := by
    unfold Dev.engineFull
    rw [hq]
    decide
  refine (if_neg (not_not_intro (show s.flag F.SECURE_STAT_ID_READY = true from decide_eq_true h))).trans ((if_neg hlc).trans ((if_neg hroom).trans ?_))
  rw [hq]
  rfl

theorem Dev.extendCmd_of {k : Nat} (h5 : 5 ≤ k) (h7 : k ≤ 7) : s.extendCmd k = (.ok, s.extend k (s.bytesAt F.SECURE_EXTEND_V 8 0)) :=
  (if_neg (by omega)).trans (if_neg (not_not_intro (show s.flag F.SECURE_STAT_ID_READY = true from decide_eq_true h)))
end

theorem Dev.extendCmd_bad {k : Nat} (h : k < 5 ∨ 7 < k) : s.extendCmd k = s.deny .invalid := if_pos h

/-- Signature and time of a quote in the registers. -/
def Dev.quoteShown (s : Dev) (q : SecReq) : Dev :=
  ((((s.put F.SECURE_STAT_QSTATUS Status.ok.code).putBytesAt F.SECURE_SIG_V 16 (slice (Config.sign (sha256 q.body)) 0 64)).put F.SECURE_QNS_V q.ns).put F.SECURE_QSEC_V q.sec).raise F.SECURE_STAT_QDONE

theorem Dev.quoteEnd_shown {q : SecReq} (h : q.desc = none) : s.quoteEnd q .ok = (s.quoteShown q).emit (.done 0x30010 0 .ok) := by
  unfold Dev.quoteEnd
  rw [h]
  rfl

theorem Dev.setRegs_reqs (t : Tab Nat) (b : Blk) : (s.setRegs t b).sec.reqs = s.sec.reqs := by cases b <;> rfl
theorem Dev.put_reqs (E : Fld) (x i j : Nat) : (s.put E x i j).sec.reqs = s.sec.reqs := Dev.setRegs_reqs ..
theorem Dev.raise_reqs (E : Fld) (i j : Nat) : (s.raise E i j).sec.reqs = s.sec.reqs := Dev.setRegs_reqs ..
theorem Dev.emit_reqs (s : Dev) (o : Out) : (s.emit o).sec.reqs = s.sec.reqs := rfl
theorem Dev.putBytesAt_reqs (E : Fld) (n : Nat) (l : List Byte) : (s.putBytesAt E n l).sec.reqs = s.sec.reqs :=
  Dev.each_inv (fun v => v.sec.reqs = s.sec.reqs) _ _ (fun _ _ _ hv => (Dev.put_reqs ..).trans hv) s rfl

theorem Dev.quoteShown_reqs (s : Dev) (q : SecReq) : (s.quoteShown q).sec.reqs = s.sec.reqs := by
  unfold Dev.quoteShown
  rw [Dev.raise_reqs, Dev.put_reqs, Dev.put_reqs, Dev.putBytesAt_reqs, Dev.put_reqs]

theorem Dev.engine_idle (h : s.sec.reqs = []) : s.engine = s.put F.SECURE_STAT_BUSY 0 := by
  unfold Dev.engine
  dsimp only
  rw [if_pos h]
  change (match s.sec.reqs with | [] => _ | _ :: _ => _) = _
  rw [h]

theorem Dev.quoteDone_none (h : s.sec.reqs = []) : s.quoteDone = s := by rw [Dev.quoteDone, h]

theorem Dev.quoteDone_of {q : SecReq} (h : s.sec.reqs = [q]) (hd : q.desc = none) : let g := s.advanceTo (q.sec * 10 ^ 9 + q.ns + signTime s.role)
    s.quoteDone = ((Dev.quoteShown { g with sec := { g.sec with reqs := [] } } q).emit (.done 0x30010 0 .ok)).put F.SECURE_STAT_BUSY 0 := by
  rw [Dev.quoteDone, h]
  dsimp only
  rw [Dev.quoteEnd_shown hd]
  generalize s.advanceTo (q.sec * 10 ^ 9 + q.ns + signTime s.role) = g
  generalize hv : ({ g with sec := { g.sec with reqs := [] } } : Dev) = v
  have hq : v.sec.reqs = [] := by rw [← hv]
  have hs : ((v.quoteShown q).emit (.done 0x30010 0 .ok)).sec.reqs = [] := ((v.quoteShown q).emit_reqs _).trans ((v.quoteShown_reqs q).trans hq)
  exact Dev.engine_idle hs

end

/-- Settles O48. -/
theorem bootAndAttestation : Obligations.BootAndAttestation := by
  intro s d ready
  refine ⟨fun l hm hlc hr hb => ?_, fun l h => State.runs_bootImageCheck.of_eq (Dev.bootCheck_returned (s := d) h), fun h hm hp => ?_, fun h hr hp => ?_, fun h => ?_, fun hb => ?_, fun q h hd => ?_, fun h => ?_,
    fun hr hon hg hd => ?_⟩
  · have hrun : s.Runs (.bootImageCheck l) _ := State.runs_bootImageCheck.of_eq (Dev.bootCheck_of (s := d) (l := l) hm hlc hr hb)
    refine ⟨fun hi => hrun.of_eq (if_pos hi), fun hi => hrun.of_eq ((if_neg (Bool.eq_false_iff.mp hi)).trans ?_)⟩
    unfold Dev.iff
    by_cases h1 : s.dev.sec.boot = 1
    · exact (if_pos (decide_eq_true (by rw [show d.sec.boot = 1 from h1]))).trans (if_pos h1).symm
    · exact (if_neg fun hx => h1 (Nat.succ.inj (of_decide_eq_true hx))).trans (if_neg h1).symm
  · refine State.runs_idReady.of_eq ((Dev.idReady_of (s := d) h (by rw [show d.role = .manager from hm]; decide) hp).trans ?_)
    rw [if_pos (show d.role = .manager from hm)]
    rfl
  · have hm : d.role ≠ .none ∧ d.role ≠ .manager := by
      rcases hr with hr | hr <;> exact ⟨by rw [show d.role = _ from hr]; decide, by rw [show d.role = _ from hr]; decide⟩
    refine State.runs_idReady.of_eq ((Dev.idReady_of (s := d) h hm.1 hp).trans ?_)
    rw [if_neg hm.2]
    rfl
  · exact State.runs_idReady.of_eq (Dev.idReady_again (s := d) h)
  · refine ⟨fun hr => ?_, fun hr hlc => ?_, fun hr hlc hq => ?_, fun hr hlc hq => ?_, fun k hr h5 h7 => ?_, fun k hr hk => ?_⟩
    · have hoff : s.dev.f F.SECURE_STAT_ID_READY = 0 := not_not.mp hr
      exact ⟨State.runs_quote.of_eq (Dev.secReg_off hb hoff _), fun k => State.runs_extend.of_eq (Dev.secReg_off hb hoff _)⟩
    · exact State.runs_quote.of_eq (Dev.secReg_of hb hr (Dev.quoteReq_returned (s := d) hr hlc))
    · exact State.runs_quote.of_eq (Dev.secReg_of hb hr (Dev.quoteReq_full (s := d) hr hlc hq))
    · exact State.runs_quote.of_eq (Dev.secReg_of hb hr (Dev.quoteReq_first (s := d) hr hlc hq))
    · exact State.runs_extend.of_eq (Dev.secReg_of hb hr (Dev.extendCmd_of (s := d) hr h5 h7))
    · exact State.runs_extend.of_eq (Dev.secReg_of hb hr (Dev.extendCmd_bad (s := d) hk))
  · exact State.runs_quoteDone.of_eq (Dev.quoteDone_of (s := d) h hd)
  · exact State.runs_quoteDone.of_eq (Dev.quoteDone_none (s := d) h)
  · refine State.runs_rngFail.of_eq (if_neg fun hx => ?_)
    rcases hx with hx | hx | hx | hx
    · exact hr hx
    · exact hx hon
    · exact absurd (hx.symm.trans hg) (by decide)
    · exact absurd (hx.symm.trans hd) (by decide)

/-- Settles O49. -/
theorem imagesNeedVendorAndVersion : Obligations.ImagesNeedVendorAndVersion := by
  intro s l h
  obtain ⟨hv, hret, hsvn, hown⟩ := Dev.imgOk_says h
  obtain ⟨hmagic, hbody, hkey, hsig⟩ := imgVendorOk_says hv
  exact ⟨hmagic, hbody, hkey, hsig, hret, hsvn, fun hlc => (Bool.and_eq_true_iff.mp (hown hlc)).2⟩

end Sys2Proof.Machine
end

section
/-! CAN controllers (R421 to R430), and O50, O51. -/

namespace Sys2Proof.Machine

section
variable {s u : Dev} {c : Nat}

theorem Dev.nowFix_of_time (hr : u.role = s.role) (ht : u.time = s.time) : u.nowFix = s.nowFix := by
  have hinc : u.tickInc = s.tickInc := Dev.fb_of_regs (G := F.TIME_INC_INC) hr (congrArg Time.regs ht) ..
  unfold Dev.nowFix Dev.now5 Dev.fifths
  rw [hinc, ht]

theorem Dev.Keeps.nowFix {own : List Blk} {outs : List Out} (h : s.Keeps own outs u) (hb : Blk.time ∉ own) : u.nowFix = s.nowFix := Dev.nowFix_of_time h.role_eq (h.time_eq hb)

/-! ### The state of a controller -/

/-- On the bus and not bus-off. -/
theorem Dev.canOn_iff : s.canOn c = true ↔ s.f F.CAN_CFG_EN c ≠ 0 ∧ s.f F.CAN_STAT_STATE c ≠ canBusOff := by
  simp only [Dev.canOn, Dev.flag, Bool.and_eq_true, decide_eq_true_eq]

theorem Dev.f_setCan {G : Fld} (h : G.apart F.CAN_STAT_PEND = true) (x : CanCtl) (i j : Nat) : (s.setCan c x).f G i j = s.f G i j := by
  refine (Dev.f_put_apart _ _ _ _ _ _ h).trans ?_
  exact Dev.fb_of_regs (u := { s with can := { s.can with ctl := Tab.set CanCtl.idle s.can.ctl c x } }) (s := s) rfl (by cases G.blk <;> rfl) ..

theorem Dev.canCtl_setCan (x : CanCtl) : (s.setCan c x).canCtl c = x := Tab.get_set_same ..

theorem Dev.keeps_setCan (x : CanCtl) : s.Keeps [.can] s.out (s.setCan c x) := ((Dev.keeps_refl ..).setCan (by decide) _).put (by decide) _ c
theorem Dev.keeps_canHeard : s.Keeps [.can] s.out (s.canHeard c) := ((Dev.keeps_refl ..).put (by decide) 0 c).put (by decide) 0 c

theorem Dev.keeps_canState : s.Keeps [.can] s.out (s.canState c) :=
  .ite _ (fun _ => Dev.keeps_refl ..) fun _ => .ite _ (fun _ => (((Dev.keeps_refl ..).put (by decide) _ c).raise (by decide) c).trans (Dev.keeps_setCan _))
    fun _ => .ite _ (fun _ => ((Dev.keeps_refl ..).put (by decide) _ c).iff _ _ fun _ => ((Dev.keeps_refl ..).put (by decide) _ c).raise (by decide) c) fun _ => (Dev.keeps_refl ..).put (by decide) _ c

/-- The frames that are pending stay. -/
theorem Dev.canState_pend : ((s.canState c).canCtl c).pend = (s.canCtl c).pend := by
  unfold Dev.canState
  dsimp only
  split
  · rfl
  · split
    · rw [Dev.canCtl_setCan]
      rfl
    · split
      · unfold Dev.iff
        split <;> rfl
      · rfl

/-- The state follows the counters (R428). -/
theorem Dev.canState_follows (hb : s.f F.CAN_STAT_STATE c ≠ canBusOff) (ho : s.f F.CAN_STAT_STATE c ≠ canOff) : (s.canState c).f F.CAN_STAT_STATE c =
    if 255 < s.f F.CAN_ERR_TEC c then canBusOff else if 127 < s.f F.CAN_ERR_TEC c ∨ 127 < s.f F.CAN_ERR_REC c then canPassive else canActive := by
  refine (congrArg (fun v : Dev => v.f F.CAN_STAT_STATE c) (if_neg (not_or.mpr ⟨hb, ho⟩))).trans ?_
  by_cases ht : 255 < s.f F.CAN_ERR_TEC c
  · rw [if_pos ht, if_pos ht]
    exact (Dev.f_setCan (by decide) ..).trans ((Dev.f_raise_apart _ _ _ _ _ (by decide)).trans (Dev.f_put_same ..))
  · rw [if_neg ht, if_neg ht]
    by_cases hp : 127 < s.f F.CAN_ERR_TEC c ∨ 127 < s.f F.CAN_ERR_REC c
    · rw [if_pos hp, if_pos hp]
      exact (Dev.f_iff (s.put F.CAN_STAT_STATE canPassive c) F.CAN_STAT_STATE c 0 _ (fun s => s.raise F.CAN_EVT_PASSIVE c) fun _ => Dev.f_raise_apart _ _ _ _ _ (by decide)).trans (Dev.f_put_same ..)
    · rw [if_neg hp, if_neg hp]
      exact Dev.f_put_same ..

/-! ### Errors (R428) -/

theorem Dev.canError_off {lec more : Nat} {tx : Bool} (h : ¬ s.canOn c = true) : s.canError c lec tx more = s := if_pos h

/-- An error is shown and counted. -/
def Dev.canErrSeen (s : Dev) (c lec : Nat) : Dev := (s.put F.CAN_STAT_LEC lec c).inc F.CAN_CNT_ERR_FR 1 c

theorem Dev.canErrSeen_f {G : Fld} (hl : G.apart F.CAN_STAT_LEC = true) (hc : G.apart F.CAN_CNT_ERR_FR = true) (lec : Nat) : (s.canErrSeen c lec).f G c = s.f G c :=
  (Dev.f_inc_apart _ _ _ _ _ _ hc).trans (Dev.f_put_apart _ _ _ _ _ _ hl)

/-- The counters after an error, and the run of acknowledgement errors. -/
def Dev.canErrCount (s : Dev) (c lec : Nat) (tx : Bool) (more : Nat) : Dev :=
  let s :=
    if tx then
      let d := (if lec = 3 ∧ s.f F.CAN_STAT_STATE c = canPassive then 0 else 8) + 8 * more
      s.put F.CAN_ERR_TEC (min 511 (s.f F.CAN_ERR_TEC c + d)) c
    else s.put F.CAN_ERR_REC (min 255 (s.f F.CAN_ERR_REC c + 1 + 8 * more)) c
  if tx ∧ lec = 3 then
    let n := min 16 (s.f F.CAN_STAT_ACK_RUN c + 1)
    (s.put F.CAN_STAT_ACK_RUN n c).iff (decide (n = 16)) fun s => s.raise F.CAN_STAT_LONE_NODE c
  else if tx then s.canHeard c
  else s

theorem Dev.canError_of {lec more : Nat} {tx : Bool} (h : s.canOn c = true) : s.canError c lec tx more =
    let v := ((s.canErrSeen c lec).canErrCount c lec tx more).canState c
    match if tx then (v.canCtl c).pend.find? fun x => x.last else none with
    | some x => (v.canDrop c x).canDone c x .ok 2 0
    | none => v := if_neg (not_not_intro h)

/-- As receiver. -/
theorem Dev.canError_rx {lec more : Nat} (h : s.canOn c = true) : s.canError c lec false more =
    ((s.canErrSeen c lec).put F.CAN_ERR_REC (min 255 (s.f F.CAN_ERR_REC c + 1 + 8 * more)) c).canState c := by
  rw [Dev.canError_of h, ← Dev.canErrSeen_f (s := s) (c := c) (by decide) (by decide) lec]
  rfl

theorem Dev.canErrCount_other {lec more : Nat} (hl : lec ≠ 3) : s.canErrCount c lec true more = (s.put F.CAN_ERR_TEC (min 511 (s.f F.CAN_ERR_TEC c + (8 + 8 * more))) c).canHeard c := by
  unfold Dev.canErrCount
  simp only [if_true, hl, false_and, and_false, if_false]

theorem Dev.canErrCount_ack {more : Nat} : s.canErrCount c 3 true more =
    let n := min 16 (s.f F.CAN_STAT_ACK_RUN c + 1)
    ((s.put F.CAN_ERR_TEC (min 511 (s.f F.CAN_ERR_TEC c + ((if s.f F.CAN_STAT_STATE c = canPassive then 0 else 8) + 8 * more))) c).put F.CAN_STAT_ACK_RUN n c).iff (decide (n = 16)) fun s => s.raise F.CAN_STAT_LONE_NODE c := by
  have hack : ∀ x, (s.put F.CAN_ERR_TEC x c).f F.CAN_STAT_ACK_RUN c = s.f F.CAN_STAT_ACK_RUN c := fun x => Dev.f_put_apart _ _ _ _ _ _ (by decide)
  unfold Dev.canErrCount
  simp only [if_true, true_and, hack, and_self]

theorem Dev.setRegs_ctl (t : Tab Nat) (b : Blk) : (s.setRegs t b).can.ctl = s.can.ctl := by cases b <;> rfl
theorem Dev.canCtl_put (E : Fld) (x i j k : Nat) : (s.put E x i j).canCtl k = s.canCtl k := congrArg (Tab.get CanCtl.idle · k) (Dev.setRegs_ctl ..)
theorem Dev.canCtl_raise (E : Fld) (i j k : Nat) : (s.raise E i j).canCtl k = s.canCtl k := congrArg (Tab.get CanCtl.idle · k) (Dev.setRegs_ctl ..)

theorem Dev.canErrCount_ctl (lec more : Nat) : (s.canErrCount c lec true more).canCtl c = s.canCtl c := by
  by_cases h : lec = 3
  · rw [h, Dev.canErrCount_ack]
    dsimp only [Dev.iff]
    split
    · rw [Dev.canCtl_raise, Dev.canCtl_put, Dev.canCtl_put]
    · rw [Dev.canCtl_put, Dev.canCtl_put]
  · rw [Dev.canErrCount_other h, Dev.canHeard, Dev.canCtl_put, Dev.canCtl_put, Dev.canCtl_put]

/-- As transmitter of a frame that is not to be cancelled. -/
theorem Dev.canError_tx {lec more : Nat} (h : s.canOn c = true) (hp : (s.canCtl c).pend = []) : s.canError c lec true more = ((s.canErrSeen c lec).canErrCount c lec true more).canState c := by
  have hpend : ((((s.canErrSeen c lec).canErrCount c lec true more).canState c).canCtl c).pend = [] := by
    rw [Dev.canState_pend, Dev.canErrCount_ctl]
    exact hp
  rw [Dev.canError_of h]
  dsimp only
  rw [hpend]
  rfl

/-! ### Frames that are sent (R423, R424) -/

theorem Dev.canSent_none {ago delay : Nat} (h : ¬ s.canOn c = true ∨ (s.canCtl c).pend = []) : s.canSent c ago delay = s := by
  unfold Dev.canSent
  split
  · rfl
  · rw [h.resolve_left ‹_›]
    rfl

section
variable {x : CanTx} {ago delay : Nat} (h : s.canOn c = true) (hx : contender (s.canCtl c).pend = some x)
include h hx

theorem Dev.canSent_late (hl : s.canLateBit c delay x.frame = true) :
    s.canSent c ago delay = Dev.canError { s with free := s.free + 1 } c (if Config.canBit s.free then 4 else 5) true 0 := by
  rw [Dev.canSent, if_neg (not_not_intro h), hx]
  exact if_pos hl

/-- A frame that was sent leaves what is pending, and counts. -/
def Dev.canGone (s : Dev) (c : Nat) (x : CanTx) : Dev := (((s.canJoined c).canDrop c x).inc F.CAN_CNT_TX_OK 1 c).put F.CAN_ERR_TEC (s.f F.CAN_ERR_TEC c - 1) c

omit h hx in
theorem Dev.keeps_canGone (x : CanTx) : s.Keeps [.can] s.out (s.canGone c x) :=
  (((Dev.keeps_setCan _).trans (Dev.keeps_setCan _)).inc (by decide) 1 c).put (by decide) _ c

theorem Dev.canSent_ok (hl : s.canLateBit c delay x.frame = false) :
    s.canSent c ago delay = ((((s.canGone c x).canHeard c).put F.CAN_STAT_LEC 0 c).canState c).canDone c x .ok 1 (s.nowFix - (ago : Int) * nsFix) := by
  rw [Dev.canSent, if_neg (not_not_intro h), hx, ← (Dev.keeps_canGone (c := c) x).nowFix (by decide)]
  exact if_neg (Bool.eq_false_iff.mp hl)
end

/-! ### Frames that are received (R421, R426, R430) -/

section
variable {fr : CanFrame} {esi own : Bool} {ago : Nat} {edges : List (Bool × Int)}

/-- Another node's FD frame at a controller that takes classic frames only. -/
def Dev.CanForm (s : Dev) (c : Nat) (fr : CanFrame) (own : Bool) : Prop := own = false ∧ s.f F.CAN_CFG_MODE c ≠ 1 ∧ idFdf fr.id = true ∧ s.f F.CAN_CFG_FD c = 0

/-- The controller takes the frame in its mode. -/
def Dev.CanTakes (s : Dev) (c : Nat) (own : Bool) (edges : List (Bool × Int)) : Prop :=
  if own then s.f F.CAN_CFG_MODE c ≠ 0 ∨ s.f F.CAN_CFG_RX_OWN c ≠ 0 else s.f F.CAN_CFG_MODE c ≠ 1 ∧ s.canFollows c edges = true

/-- The frame as it is kept, and the counters after it. -/
def Dev.canTaken (s : Dev) (fr : CanFrame) (esi own : Bool) (ago : Nat) : CanRx :=
  { frame := { fr with data := slice fr.data 0 (canLen fr.id fr.dlc) }, time := s.nowFix - (ago : Int) * nsFix, esi := esi, own := own }
def Dev.canCounted (s : Dev) (c : Nat) (own : Bool) : Dev :=
  let g := (s.canJoined c).inc F.CAN_CNT_RX_OK 1 c
  if own then g else { (((g.put F.CAN_ERR_REC (recAfter (g.f F.CAN_ERR_REC c) g.free) c).canHeard c).canState c) with free := g.free + 1 }

theorem Dev.canReceived_form (h : s.CanForm c fr own) : s.canReceived c fr esi own ago edges = s.canError c 2 false 0 := by
  obtain ⟨hown, hmode, hfdf, hfd⟩ := h
  refine if_pos ⟨by rw [hown]; decide, hmode, hfdf, ?_⟩
  rw [Dev.flag_off hfd]
  decide

variable (hf : ¬ s.CanForm c fr own)
include hf

theorem Dev.canReceived_past : ¬ (¬ own = true ∧ s.f F.CAN_CFG_MODE c ≠ 1 ∧ idFdf fr.id = true ∧ ¬ s.flag F.CAN_CFG_FD c = true) := fun ⟨hown, hmode, hfdf, hfd⟩ =>
  hf ⟨Bool.eq_false_iff.mpr hown, hmode, hfdf, not_not.mp fun hx => hfd (decide_eq_true hx)⟩

theorem Dev.canReceived_idle (h : ¬ s.canOn c = true ∨ ¬ s.CanTakes c own edges) : s.canReceived c fr esi own ago edges = s := by
  refine (if_neg (Dev.canReceived_past hf)).trans (if_pos ?_)
  unfold Dev.CanTakes at h
  cases own
  · simp only [Bool.false_eq_true, if_false] at h
    simp only [Bool.false_eq_true, false_and, not_false_eq_true, true_and, false_or]
    rcases h with h | h
    · exact .inl h
    · exact .inr ((Decidable.not_and_iff_or_not.mp h).imp_left not_not.mp)
  · simp only [if_true, not_or, not_not] at h
    rcases h with h | ⟨h0, hrx⟩
    · exact .inl h
    · exact .inr (.inl ⟨rfl, h0, Bool.eq_false_iff.mp (Dev.flag_off hrx)⟩)

theorem Dev.canReceived_taken (hon : s.canOn c = true) (ht : s.CanTakes c own edges) : s.canReceived c fr esi own ago edges =
    let x := s.canTaken fr esi own ago
    let u := s.canCounted c own
    if u.role = .manager then
      u.rxDeliver (5 + c) (u.f F.CAN_STAT_EPOCH c) x.frame.data fun _ =>
        bytesOf 4 fr.id ++ bytesOf 4 (nsOf x.time) ++ bytesOf 6 (secOf x.time) ++ bytesOf 1 (subOf x.time) ++ bytesOf 1 x.byte23 ++ bytesOf 1 (canLen fr.id fr.dlc) ++ bytesOf 1 c
    else if 16 ≤ (u.canCtl c).fifo.length then (u.raise F.CAN_EVT_RX_LOST c).inc F.CAN_CNT_LOST_CNT 1 c
    else (u.setCan c { u.canCtl c with fifo := (u.canCtl c).fifo ++ [x] }).put F.CAN_RXF_CTL_HELD ((u.canCtl c).fifo.length + 1) c := by
  refine (if_neg (Dev.canReceived_past hf)).trans (if_neg ?_)
  unfold Dev.CanTakes at ht
  cases own
  · simp only [Bool.false_eq_true, if_false] at ht
    simp [hon, ht.1, ht.2]
  · rw [if_pos rfl] at ht
    have hrx : ¬ (s.f F.CAN_CFG_MODE c = 0 ∧ ¬ s.flag F.CAN_CFG_RX_OWN c = true) := fun hx => ht.elim (fun h => h hx.1) fun h => hx.2 (decide_eq_true h)
    simp only [hon, not_true, false_or, true_and, false_and, or_false, true_or]
    exact hrx
end

theorem Dev.canCounted_role (own : Bool) : (s.canCounted c own).role = s.role := by
  have hg : s.Keeps [.can] s.out ((s.canJoined c).inc F.CAN_CNT_RX_OK 1 c) := (Dev.keeps_setCan _).inc (by decide) 1 c
  cases own
  · exact ((hg.put (by decide) _ c).trans (Dev.keeps_canHeard.trans Dev.keeps_canState)).role_eq
  · exact hg.role_eq

/-- REC is that of the device before the frame. -/
theorem Dev.canCounted_other : s.canCounted c false =
    { (((((s.canJoined c).inc F.CAN_CNT_RX_OK 1 c).put F.CAN_ERR_REC (recAfter (s.f F.CAN_ERR_REC c) s.free) c).canHeard c).canState c) with free := s.free + 1 } := by
  have hrec : ((s.canJoined c).inc F.CAN_CNT_RX_OK 1 c).f F.CAN_ERR_REC c = s.f F.CAN_ERR_REC c := (Dev.f_inc_apart _ _ _ _ _ _ (by decide)).trans (Dev.f_setCan (by decide) ..)
  rw [← hrec]
  rfl

/-! ### The mailbox of a CONCENTRATOR (R430) -/

/-- The frame in the mailbox. -/
def Dev.mailFrame (s : Dev) (c : Nat) : CanTx :=
  let id := s.f F.CAN_TXB_ID_V c
  let data := (List.range 16).flatMap fun w => bytesOf 4 (s.f F.CAN_TXB_DATA_V c w)
  { frame := { id := id, dlc := s.f F.CAN_TXB_CTL_DLC c, brs := s.flag F.CAN_TXB_CTL_BRS c, data := slice data 0 (canLen id (s.f F.CAN_TXB_CTL_DLC c)) }, desc := none, last := false }

section
variable (hc : s.role = .concentrator)
include hc

theorem Dev.mailTx_pending (hp : s.f F.CAN_TXB_STAT_PENDING c ≠ 0) : s.mailTx c = s.deny .busy := (if_neg (not_not_intro hc)).trans (if_pos (decide_eq_true hp))

variable (hp : s.f F.CAN_TXB_STAT_PENDING c = 0)
include hp

theorem Dev.mailTx_form (h : idRtr (s.f F.CAN_TXB_ID_V c) = true ∧ idFdf (s.f F.CAN_TXB_ID_V c) = true) : s.mailTx c = s.deny .invalid :=
  (if_neg (not_not_intro hc)).trans ((if_neg (Bool.eq_false_iff.mp (Dev.flag_off hp))).trans (if_pos h))

variable (h : ¬ (idRtr (s.f F.CAN_TXB_ID_V c) = true ∧ idFdf (s.f F.CAN_TXB_ID_V c) = true))
include h

theorem Dev.mailTx_of : s.mailTx c = let a := s.canQueue c (s.mailFrame c)
    if a.1 = .ok then (.ok, a.2.raise F.CAN_TXB_STAT_PENDING c) else a :=
  (if_neg (not_not_intro hc)).trans ((if_neg (Bool.eq_false_iff.mp (Dev.flag_off hp))).trans (if_neg h))

theorem Dev.mailTx_full (hl : 8 ≤ (s.canCtl c).pend.length) : s.mailTx c = s.deny .busy := by
  rw [Dev.mailTx_of hc hp h, show s.canQueue c (s.mailFrame c) = s.deny .busy from if_pos hl]
  rfl

theorem Dev.mailTx_taken (hl : (s.canCtl c).pend.length < 8) :
    s.mailTx c = (.ok, (s.setCan c { s.canCtl c with pend := (s.canCtl c).pend ++ [s.mailFrame c] }).raise F.CAN_TXB_STAT_PENDING c) := by
  have hq : s.canQueue c (s.mailFrame c) = (.ok, s.setCan c { s.canCtl c with pend := (s.canCtl c).pend ++ [s.mailFrame c] }) := if_neg (Nat.not_le.mpr hl)
  rw [Dev.mailTx_of hc hp h, hq]
  rfl
end

section
variable (hc : s.role = .concentrator)
include hc

theorem Dev.mailCancel_of (late : Bool) : s.mailCancel c late = let a := s.canCancel c (fun x => x.desc.isNone) late
    (a.1, a.2.iff (decide (a.1 = .cancelLate)) fun s => s.put F.CAN_TXB_STAT_STATUS Status.cancelLate.code c) := if_neg (not_not_intro hc)

theorem Dev.mailCancel_none (late : Bool) (h : ((s.canCtl c).pend.find? fun x => x.desc.isNone) = none) : s.mailCancel c late = s.deny .invalid := by
  have ha : s.canCancel c (fun x => x.desc.isNone) late = s.deny .invalid := by
    unfold Dev.canCancel
    dsimp only
    rw [h]
  rw [Dev.mailCancel_of hc, ha]
  rfl

variable {y : CanTx} (h : ((s.canCtl c).pend.find? fun x => x.desc.isNone) = some y)
include h

theorem Dev.mailCancel_early : s.mailCancel c false = (.ok, (s.setCan c { s.canCtl c with pend := (s.canCtl c).pend.erase y }).canDone c y .ok 2 0) := by
  have ha : s.canCancel c (fun x => x.desc.isNone) false = (.ok, (s.canDrop c y).canDone c y .ok 2 0) := by
    unfold Dev.canCancel
    dsimp only
    rw [h]
    rfl
  rw [Dev.mailCancel_of hc, ha]
  rfl

theorem Dev.mailCancel_late : s.mailCancel c true =
    (.cancelLate, ((s.setCan c { s.canCtl c with pend := (s.canCtl c).pend.map fun z => if z = y then { z with last := true } else z }).raise F.CAN_EVT_CANCEL_LATE c).put
      F.CAN_TXB_STAT_STATUS Status.cancelLate.code c) := by
  have ha : s.canCancel c (fun x => x.desc.isNone) true =
      (.cancelLate, (s.setCan c { s.canCtl c with pend := (s.canCtl c).pend.map fun z => if z = y then { z with last := true } else z }).raise F.CAN_EVT_CANCEL_LATE c) := by
    unfold Dev.canCancel
    dsimp only
    rw [h]
    rfl
  rw [Dev.mailCancel_of hc, ha]
  rfl
end

/-! ### Protocol exceptions and recovery -/

theorem Dev.protocolException_off (h : ¬ s.canOn c = true) : s.protocolException c = s := if_pos h
theorem Dev.protocolException_fd (h : s.canOn c = true) (hf : s.f F.CAN_CFG_FD c ≠ 0) : s.protocolException c = (s.setCan c { s.canCtl c with integ := true }).raise F.CAN_EVT_PROT_EXC c :=
  (if_neg (not_not_intro h)).trans (if_pos (decide_eq_true hf))
theorem Dev.protocolException_classic (h : s.canOn c = true) (hf : s.f F.CAN_CFG_FD c = 0) : s.protocolException c = s.canError c 2 false 0 :=
  (if_neg (not_not_intro h)).trans (if_neg (Bool.eq_false_iff.mp (Dev.flag_off hf)))

end

/-- Settles O50. -/
theorem canFramesAndMailbox : Obligations.CanFramesAndMailbox := by
  intro s c d k on
  have hon : on → d.canOn c = true := (Dev.canOn_iff (s := d)).mpr
  have hoff : ¬ on → ¬ d.canOn c = true := fun h hx => h ((Dev.canOn_iff (s := d)).mp hx)
  refine ⟨fun x ago delay ho hx => ⟨fun hl => ?_, fun hl => ?_⟩, fun ago delay h => ?_, fun fr esi own ago edges => ?_, fun hb hc => ?_, fun ho hf => ?_, fun ho hf => ?_, fun ho => ?_⟩
  · exact State.runs_canFrameSent.of_eq (Dev.canSent_ok (s := d) (hon ho) hx hl)
  · exact State.runs_canFrameSent.of_eq (Dev.canSent_late (s := d) (hon ho) hx hl)
  · exact State.runs_canFrameSent.of_eq (Dev.canSent_none (s := d) (h.imp_left hoff))
  · intro bad takes t x g u
    have hrun : s.Runs (.canFrameReceived c fr esi own ⟨ago, edges⟩) (d.canReceived c fr esi own ago edges) := State.runs_canFrameReceived
    have hu : d.canCounted c own = u := by
      cases own
      · exact Dev.canCounted_other
      · rfl
    have htaken := fun (hb : ¬ bad) (ho : on) (ht : takes) => Dev.canReceived_taken (s := d) (esi := esi) (ago := ago) hb (hon ho) ht
    dsimp only at htaken
    rw [hu] at htaken
    have hrole : u.role = s.dev.role := hu ▸ Dev.canCounted_role (s := d) own
    refine ⟨fun hb => hrun.of_eq (Dev.canReceived_form (s := d) hb), fun hb h => hrun.of_eq (Dev.canReceived_idle (s := d) hb (h.imp_left hoff)), fun hb ho ht hr => ?_, fun hb ho ht hr => ?_⟩
    · have hm : u.role ≠ .manager := by
        rw [hrole, hr]
        decide
      exact ⟨fun hl => hrun.of_eq ((htaken hb ho ht).trans ((if_neg hm).trans (if_neg (Nat.not_le.mpr hl)))), fun hl => hrun.of_eq ((htaken hb ho ht).trans ((if_neg hm).trans (if_pos hl)))⟩
    · exact hrun.of_eq ((htaken hb ho ht).trans (if_pos (hrole.trans hr)))
  · intro id data n x
    have hx : d.mailFrame c = x := rfl
    have htx : ∀ {st : Status} {v : Dev}, d.mailTx c = (st, v) → s.Runs (.tx c) (v.complete st) := fun h => State.runs_tx.of_eq (Dev.served_gives hb h)
    have hcan : ∀ {st : Status} {v : Dev} {late : Bool}, d.mailCancel c late = (st, v) → s.Runs (.cancel c late) (v.complete st) := fun h => State.runs_cancel.of_eq (Dev.served_gives hb h)
    exact ⟨fun hp => htx (Dev.mailTx_pending (s := d) hc hp), fun hp hf => htx (Dev.mailTx_form (s := d) hc hp hf), fun hp hf hl => htx (Dev.mailTx_taken (s := d) hc hp hf hl),
      fun hp hf hl => htx (Dev.mailTx_full (s := d) hc hp hf hl), fun late h => hcan (Dev.mailCancel_none (s := d) hc late h), fun y h => hcan (Dev.mailCancel_early (s := d) hc h),
      fun y h => hcan (Dev.mailCancel_late (s := d) hc h)⟩
  · exact State.runs_protocolException.of_eq (Dev.protocolException_fd (s := d) (hon ho) hf)
  · exact State.runs_protocolException.of_eq (Dev.protocolException_classic (s := d) (hon ho) hf)
  · exact State.runs_protocolException.of_eq (Dev.protocolException_off (s := d) (hoff ho))

section
variable {s : Dev} {c : Nat}

/-! ### Enabling and recovery (R422, R428, R429) -/

/-- The word of a write of EN. -/
def Dev.canWord (s : Dev) (c : Nat) (on : Bool) : Nat := putBit (s.word F.regCanCfg 0 c 0) 31 on

theorem Dev.canEn_gives {on : Bool} {st : Status} {u : Dev} (hb : s.blockStatus .can (64 * c) = .ok) (h : s.begin.canCfgWrite c (s.begin.canWord c on) = (st, u)) :
    (s.begin.canEn c on).dev = u.complete st := Dev.served_gives hb h

theorem Dev.canCfgWrite_timing {w : Nat} (he : s.f F.CAN_CFG_EN c = 0) (hw : bitOf w 31 = true) (ht : s.canTimingOk c = false) : s.canCfgWrite c w = s.deny .invalid := by
  by_cases hm : bits w 29 2 = 3
  · exact if_pos hm
  · exact (if_neg hm).trans ((if_neg (Bool.eq_false_iff.mp (Dev.flag_off he))).trans ((if_pos hw).trans (if_neg (Bool.eq_false_iff.mp ht))))

section
variable {w : Nat} (hm : bits w 29 2 ≠ 3)
include hm

theorem Dev.canCfgWrite_on (he : s.f F.CAN_CFG_EN c = 0) (hw : bitOf w 31 = true) (ht : s.canTimingOk c = true) : s.canCfgWrite c w =
    let u := (s.putWord F.regCanCfg 0 c 0 w).put F.CAN_STAT_STATE canActive c
    (.ok, (u.setCan c { u.canCtl c with integ := true, recov := false }).canState c) :=
  (if_neg hm).trans ((if_neg (Bool.eq_false_iff.mp (Dev.flag_off he))).trans ((if_pos hw).trans (if_pos ht)))

theorem Dev.canCfgWrite_again (he : s.f F.CAN_CFG_EN c ≠ 0) (hw : bitOf w 31 = true) : s.canCfgWrite c w = s.deny .busy :=
  (if_neg hm).trans ((if_pos (decide_eq_true he)).trans (if_pos hw))

theorem Dev.canCfgWrite_off (he : s.f F.CAN_CFG_EN c ≠ 0) (hw : bitOf w 31 = false) :
    s.canCfgWrite c w = (.ok, ((s.putWord F.regCanCfg 0 c 0 w).canRetire c).put F.CAN_STAT_STATE canOff c) :=
  (if_neg hm).trans ((if_pos (decide_eq_true he)).trans (if_neg (Bool.eq_false_iff.mp hw)))
end

theorem Dev.canRecovered_of (h : s.f F.CAN_STAT_STATE c = canBusOff) (hr : (s.canCtl c).recov = true) : s.canRecovered c =
    ((((s.put F.CAN_ERR_TEC 0 c).put F.CAN_ERR_REC 0 c).put F.CAN_STAT_STATE canActive c).setCan c { s.canCtl c with recov := false }).raise F.CAN_EVT_RECOVERED c := if_pos ⟨h, hr⟩

theorem Dev.canRecovered_idle (h : s.f F.CAN_STAT_STATE c ≠ canBusOff ∨ (s.canCtl c).recov = false) : s.canRecovered c = s :=
  if_neg fun hx => h.elim (fun h => h hx.1) fun h => absurd (hx.2.symm.trans h) (by decide)

/-- The counts of an error as transmitter, in the device before it. -/
theorem Dev.canError_tx_other {lec more : Nat} (h : s.canOn c = true) (hl : lec ≠ 3) (hp : (s.canCtl c).pend = []) : s.canError c lec true more =
    (((s.canErrSeen c lec).put F.CAN_ERR_TEC (min 511 (s.f F.CAN_ERR_TEC c + (8 + 8 * more))) c).canHeard c).canState c := by
  rw [Dev.canError_tx h hp, Dev.canErrCount_other hl, Dev.canErrSeen_f (by decide) (by decide)]

theorem Dev.canError_tx_ack {more : Nat} (h : s.canOn c = true) (hp : (s.canCtl c).pend = []) : s.canError c 3 true more =
    let n := min 16 (s.f F.CAN_STAT_ACK_RUN c + 1)
    let v := ((s.canErrSeen c 3).put F.CAN_ERR_TEC (min 511 (s.f F.CAN_ERR_TEC c + ((if s.f F.CAN_STAT_STATE c = canPassive then 0 else 8) + 8 * more))) c).put F.CAN_STAT_ACK_RUN n c
    (if n = 16 then v.raise F.CAN_STAT_LONE_NODE c else v).canState c := by
  rw [Dev.canError_tx h hp, Dev.canErrCount_ack, Dev.canErrSeen_f (by decide) (by decide), Dev.canErrSeen_f (by decide) (by decide), Dev.canErrSeen_f (by decide) (by decide)]
  unfold Dev.iff
  simp only [decide_eq_true_eq]

end

/-- Settles O51. -/
theorem canControllerStates : Obligations.CanControllerStates := by
  intro s c d k on w
  have hon : on → d.canOn c = true := (Dev.canOn_iff (s := d)).mpr
  have hw : ∀ b, d.canWord c b = w b := fun _ => rfl
  have hbit : ∀ b, bitOf (d.canWord c b) 31 = b := fun b => bitOf_putBit_same ..
  refine ⟨fun hb => ⟨fun he hm ht => ?_, fun he ht => ?_, fun he hm => ?_, fun he hm => ?_⟩, fun lec more ho hl hp => ⟨?_, ?_⟩, fun more ho hp => ?_, fun lec tx more ho => ?_, fun h hr => ?_, fun h => ?_,
    fun hb h => ?_, fun hb h => ?_, fun hb ho => ?_⟩
  · exact State.runs_canEnable.of_eq (Dev.canEn_gives hb (Dev.canCfgWrite_on (s := d) hm he (hbit true) ht))
  · exact State.runs_canEnable.of_eq (Dev.canEn_gives hb (Dev.canCfgWrite_timing (s := d) he (hbit true) ht))
  · exact State.runs_canEnable.of_eq (Dev.canEn_gives hb (Dev.canCfgWrite_again (s := d) hm he (hbit true)))
  · exact State.runs_canDisable.of_eq (Dev.canEn_gives hb (Dev.canCfgWrite_off (s := d) hm he (hbit false)))
  · exact State.runs_canError.of_eq (Dev.canError_rx (s := d) (hon ho))
  · exact State.runs_canError.of_eq (Dev.canError_tx_other (s := d) (hon ho) hl hp)
  · exact State.runs_canError.of_eq (Dev.canError_tx_ack (s := d) (hon ho) hp)
  · exact State.runs_canError.of_eq (Dev.canError_off (s := d) fun hx => ho ((Dev.canOn_iff (s := d)).mp hx))
  · exact State.runs_recovered.of_eq (Dev.canRecovered_of (s := d) h hr)
  · exact State.runs_recovered.of_eq (Dev.canRecovered_idle (s := d) h)
  · exact State.runs_recover.of_eq ((Dev.served_done hb _).trans (congrArg (Dev.complete · .ok) (if_pos h)))
  · exact State.runs_recover.of_eq ((Dev.served_done hb _).trans (congrArg (Dev.complete · .ok) (if_neg h)))
  · exact Dev.canState_follows hb ho

end Sys2Proof.Machine
end

section
/-! Power-on, the role taken from the straps, dormancy and wake (01_roles_topology, 09_cell_role, 19_clocks_power_reset). -/

namespace Sys2Proof.Machine

/-! ### The device without its registers -/

/-- The device but for its register files and for the events of the cycle. -/
def Dev.bare (s : Dev) : Dev :=
  { s with
    glob := { s.glob with regs := [] }, sec := { s.sec with regs := [] }, time := { s.time with regs := [] }, toll := { s.toll with regs := [] }
    hostq := { s.hostq with regs := [] }, lanes := { s.lanes with trunk := [], leaf := [] }, loom := { s.loom with regs := [] }
    spin := { s.spin with regs := [] }, gate := { s.gate with regs := [] }, adc := { s.adc with regs := [] }, ang := { s.ang with regs := [] }
    safe := { s.safe with regs := [] }, reel := { s.reel with regs := [] }, eth := { s.eth with regs := [] }, can := { s.can with regs := [] }
    pair := { s.pair with regs := [] }, dbg := { s.dbg with regs := [] }, events := ⟨0, []⟩ }

section
variable {s u : Dev} {own : List Blk} {outs : List Out}

theorem Dev.bare_setRegs (s : Dev) (t : Tab Nat) (b : Blk) : (s.setRegs t b).bare = s.bare := by cases b <;> rfl
theorem Dev.bare_put (s : Dev) (G : Fld) (x i j : Nat) : (s.put G x i j).bare = s.bare := Dev.bare_setRegs ..
theorem Dev.bare_befall (s : Dev) (G : Fld) (g : Nat → Nat) (i j : Nat) : (s.befall G g i j).bare = s.bare := Dev.bare_put s G (g (s.f G i j)) i j
theorem Dev.bare_raise (s : Dev) (G : Fld) (i j : Nat) : (s.raise G i j).bare = s.bare := Dev.bare_befall ..
theorem Dev.bare_inc (s : Dev) (G : Fld) (n i j : Nat) : (s.inc G n i j).bare = s.bare := Dev.bare_befall ..

theorem Dev.bare_iff (s : Dev) (c : Bool) {g : Dev → Dev} (h : ∀ v, (g v).bare = v.bare) : (s.iff c g).bare = s.bare := by
  cases c
  · rfl
  · exact h s

theorem Dev.bare_each {α : Type} (s : Dev) (l : List α) {g : Dev → α → Dev} (h : ∀ v, ∀ a ∈ l, (g v a).bare = v.bare) : (s.each l g).bare = s.bare :=
  Dev.each_inv (fun v => v.bare = s.bare) l g (fun v a ha hv => (h v a ha).trans hv) s rfl

section
variable (h : u.bare = s.bare)
include h
theorem Dev.role_of_bare : u.role = s.role := congrArg (·.role) h
theorem Dev.frc_of_bare : u.time.frc = s.time.frc := congrArg (·.time.frc) h
theorem Dev.slots_of_bare : u.sec.slots = s.sec.slots := congrArg (·.sec.slots) h
theorem Dev.por_of_bare : u.glob.por = s.glob.por := congrArg (·.glob.por) h
theorem Dev.straps_of_bare : u.glob.straps = s.glob.straps := congrArg (·.glob.straps) h
theorem Dev.aonRole_of_bare : u.glob.aonRole = s.glob.aonRole := congrArg (·.glob.aonRole) h
theorem Dev.dormant_of_bare : u.gate.dormant = s.gate.dormant := congrArg (·.gate.dormant) h
theorem Dev.cpg_of_bare : u.gate.cpg = s.gate.cpg := congrArg (·.gate.cpg) h
theorem Dev.aonLow_of_bare : u.gate.aonLow = s.gate.aonLow := congrArg (·.gate.aonLow) h
end

/-! ### Without power -/

/-- What is left before the fields that AON and the OTP keep are written back. -/
def Dev.blank (s : Dev) : Dev :=
  { Dev.off with
    glob := { Glob.off with por := false, straps := s.glob.straps, aonRole := s.glob.aonRole }
    gate := { Gate.off with cpg := s.gate.cpg, aonLow := s.gate.aonLow, log := s.gate.log, fired := s.gate.fired, rtc0 := s.gate.rtc0 }
    sec := { Sec.off with slots := s.sec.slots, noSeed := s.sec.noSeed }
    out := s.out, cpl := s.cpl, free := s.free }

/-- The fields kept, with what they hold. -/
def Dev.keptFlds (s : Dev) : List (Fld × Nat) := (aonFlds.map fun x => (x, s.f x)) ++ F.regSecureLc.flds.map fun x => (x, s.f x)

theorem Dev.unpower_eq : s.unpower =
    (s.blank.each s.keptFlds fun o p => o.put p.1 p.2).each ((List.range 8).map fun k => (k, s.f F.GATE_LIFE_CNT k)) fun o p => o.put F.GATE_LIFE_CNT p.2 p.1 := rfl

theorem Dev.keptFlds_home {p : Fld × Nat} (h : p ∈ s.keptFlds) : p.1.blk.home ∈ [Blk.gate, .secure] := by
  have haon : ∀ x ∈ aonFlds, x.blk.home ∈ [Blk.gate, .secure] := by decide
  have hlc : ∀ x ∈ F.regSecureLc.flds, x.blk.home ∈ [Blk.gate, .secure] := by decide
  rcases List.mem_append.mp h with h | h
  · obtain ⟨x, hx, rfl⟩ := List.mem_map.mp h
    exact haon x hx
  · obtain ⟨x, hx, rfl⟩ := List.mem_map.mp h
    exact hlc x hx

theorem Dev.keeps_unpower : s.blank.Keeps [.gate, .secure] s.out s.unpower := by
  rw [Dev.unpower_eq]
  exact ((Dev.keeps_refl _ s.blank).each _ _ fun v p hp hv => hv.put (Dev.keptFlds_home hp) _ _ _).each _ _ fun v p _ hv =>
    hv.put (G := F.GATE_LIFE_CNT) (by decide) _ _ _

theorem Dev.bare_unpower : s.unpower.bare = s.blank.bare := by
  rw [Dev.unpower_eq]
  exact (Dev.bare_each _ _ fun _ _ _ => Dev.bare_put ..).trans (Dev.bare_each _ _ fun _ _ _ => Dev.bare_put ..)

theorem Dev.keeps_unpowerPor : s.blank.Keeps [.gate, .secure] s.out s.unpowerPor := Dev.keeps_unpower.setGate (by decide) _

theorem Dev.bare_unpowerPor : s.unpowerPor.bare = { s.blank.bare with gate := { s.blank.bare.gate with rtc0 := s.rtc } } :=
  congrArg (fun u : Dev => ({ u with gate := { u.gate with rtc0 := s.rtc } } : Dev)) (Dev.bare_unpower (s := s))

/-! ### What the start-up does beside its blocks -/

theorem Dev.adcCalStart_dev (mask : Nat) (h : s.Keeps own outs u) (hb : .adc ∈ own) : s.Keeps own outs (u.adcCalStart mask).2 := by
  unfold Dev.adcCalStart
  split
  · exact h
  · split
    · exact h
    · exact (h.setAdc hb _).raise (G := F.ADC_CAL_BUSY) hb

theorem Dev.Keeps.calAll (h : s.Keeps own outs u) (hb : .adc ∈ own) : s.Keeps own outs u.calAll := Dev.adcCalStart_dev _ h hb

theorem Dev.Keeps.putBytesAt (h : s.Keeps own outs u) {G : Fld} (hb : G.blk.home ∈ own) (n : Nat) (l : List Byte) : s.Keeps own outs (u.putBytesAt G n l) :=
  h.each _ _ fun _ _ _ hv => hv.put hb _ _ _

theorem Dev.Keeps.newChal (h : s.Keeps own outs u) (hb : .secure ∈ own) : s.Keeps own outs u.newChal := by
  have hset := (h.setSec hb { u.sec with chal := slice (Config.chal u.free) 0 32 }).setFree (u.free + 1)
  generalize hv : ({ u with sec := { u.sec with chal := slice (Config.chal u.free) 0 32 }, free := u.free + 1 } : Dev) = v at hset
  have hnew : u.newChal = if u.flag F.SECURE_STAT_RNG_FAIL then u else v.putBytesAt F.SECURE_CHAL_V 8 (slice (Config.chal u.free) 0 32) := by
    rw [← hv]
    rfl
  rw [hnew]
  exact .ite _ (fun _ => h) fun _ => hset.putBytesAt (G := F.SECURE_CHAL_V) hb _ _

theorem Dev.bare_putBytesAt (G : Fld) (n : Nat) (l : List Byte) : (s.putBytesAt G n l).bare = s.bare := Dev.bare_each _ _ fun _ _ _ => Dev.bare_put ..

theorem Dev.slots_newChal : s.newChal.sec.slots = s.sec.slots := by
  unfold Dev.newChal
  split
  · rfl
  · exact (Dev.slots_of_bare (Dev.bare_putBytesAt ..) :)

theorem Dev.Keeps.laneOn (h : s.Keeps own outs u) (hb : .trunk ∈ own) (L : Nat) : s.Keeps own outs (u.laneOn L) :=
  .ite _ (fun _ => h.next ((⟨Dev.keeps_refl _ u, rfl, fun _ _ => ⟨rfl, rfl⟩⟩ : u.OnLane L u.out u).toDetect false).keeps (by simpa using hb)) fun _ => h

theorem Dev.Keeps.clocksUp (h : s.Keeps own outs u) (hb : .global ∈ own) : s.Keeps own outs u.clocksUp :=
  Dev.Keeps.put ((h.put (G := F.GLOBAL_CLK_STAT_PLL_LOCK) hb _).iff _ _ fun _ => (h.put (G := F.GLOBAL_CLK_STAT_PLL_LOCK) hb _).put (G := F.GLOBAL_CLK_STAT_ON_OSC) hb _)
    (G := F.GLOBAL_PWR_STAT_READY) hb _

theorem Dev.bare_clocksUp : s.clocksUp.bare = s.bare :=
  (Dev.bare_put ..).trans ((Dev.bare_iff _ _ fun _ => Dev.bare_put ..).trans (Dev.bare_put ..))

/-- The fields that the start of the clocks shows. -/
def clockFlds : List Fld := [F.GLOBAL_CLK_STAT_PLL_LOCK, F.GLOBAL_CLK_STAT_ON_OSC, F.GLOBAL_PWR_STAT_READY]

theorem Dev.f_clocksUp {G : Fld} (hG : ∀ E ∈ clockFlds, G.apart E = true) (i j : Nat) : s.clocksUp.f G i j = s.f G i j := by
  have hput : ∀ (v : Dev) (x : Nat), ∀ E ∈ clockFlds, (v.put E x).f G i j = v.f G i j := fun v x E hE => Dev.f_put_apart _ _ _ _ _ _ (hG E hE)
  refine (hput _ _ F.GLOBAL_PWR_STAT_READY (by decide)).trans (Eq.trans ?_ (hput s 1 F.GLOBAL_CLK_STAT_PLL_LOCK (by decide)))
  exact Dev.iff_keeps _ (fun v => v.f G i j) _ _ fun _ => hput _ _ F.GLOBAL_CLK_STAT_ON_OSC (by decide)

theorem Dev.bare_showRole (x : Straps) (k : Nat) : (s.showRole x k).bare = s.bare := (Dev.bare_put ..).trans ((Dev.bare_put ..).trans (Dev.bare_put ..))

theorem Dev.showRole_fault (x : Straps) {k : Nat} (hk : k < 4) : (s.showRole x k).f F.GLOBAL_ROLE_FAULT = k :=
  (Dev.f_put_same ..).trans (Nat.mod_eq_of_lt (hk.trans (by decide)))
theorem Dev.showRole_strap (x : Straps) (k : Nat) : (s.showRole x k).f F.GLOBAL_ROLE_STRAP = x.code := by
  refine (Dev.f_put_apart _ _ _ _ _ _ (by decide)).trans ((Dev.f_put_same ..).trans (Nat.mod_eq_of_lt ?_))
  obtain ⟨a, b, _⟩ := x
  cases a
  · cases b
    · exact (by decide : 0 < 2 ^ 2)
    · exact (by decide : 1 < 2 ^ 2)
  · cases b
    · exact (by decide : 2 < 2 ^ 2)
    · exact (by decide : 3 < 2 ^ 2)
theorem Dev.showRole_role (x : Straps) (k : Nat) (h : s.role = .none) : (s.showRole x k).f F.GLOBAL_ROLE_ROLE = 0 := by
  refine (Dev.f_put_apart _ _ _ _ _ _ (by decide)).trans ((Dev.f_put_apart _ _ _ _ _ _ (by decide)).trans ((Dev.f_put_same ..).trans ?_))
  rw [h]
  rfl
theorem Dev.f_showRole {G : Fld} (x : Straps) (k : Nat) (hG : ∀ E ∈ [F.GLOBAL_ROLE_ROLE, F.GLOBAL_ROLE_STRAP, F.GLOBAL_ROLE_FAULT], G.apart E = true) (i j : Nat) :
    (s.showRole x k).f G i j = s.f G i j :=
  (Dev.f_put_apart _ _ _ _ _ _ (hG F.GLOBAL_ROLE_FAULT (by decide))).trans
    ((Dev.f_put_apart _ _ _ _ _ _ (hG F.GLOBAL_ROLE_STRAP (by decide))).trans (Dev.f_put_apart _ _ _ _ _ _ (hG F.GLOBAL_ROLE_ROLE (by decide))))

theorem Dev.noRole_spec (x : Straps) {k : Nat} (hk : k < 4) : let u := s.noRole x k
    u.role = .none ∧ u.f F.GLOBAL_ROLE_ROLE = 0 ∧ u.f F.GLOBAL_ROLE_STRAP = x.code ∧ u.f F.GLOBAL_ROLE_FAULT = k ∧ u.glob.por = s.glob.por ∧
      u.glob.straps = s.glob.straps ∧ u.gate.cpg = s.gate.cpg ∧ u.gate.aonLow = s.gate.aonLow := by
  have hb : (s.noRole x k).bare = _ := (Dev.bare_showRole x k).trans (Dev.bare_put ..)
  exact ⟨congrArg (·.role) hb, Dev.showRole_role x k (Dev.put_role ..), Dev.showRole_strap x k, Dev.showRole_fault x hk, congrArg (·.glob.por) hb,
    congrArg (·.glob.straps) hb, congrArg (·.gate.cpg) hb, congrArg (·.gate.aonLow) hb⟩

end

end Sys2Proof.Machine
end

section
/-! The role taken from the straps at the end of a power-on reset (R11 to R19, R436, R439). -/

namespace Sys2Proof.Machine

section
variable {s : Dev} (ok : Bool)

/-- The device at the sampling of the straps. -/
def Dev.strapped (s : Dev) (x : Straps) : Dev := { s with glob := { s.glob with straps := x } }

/-- The device with the role of its straps, and how that shows. -/
def Dev.latched (s : Dev) (x : Straps) : Dev := ({ s.strapped x with role := x.role } : Dev).showRole x (if x.role = Role.none then 1 else 0)

theorem Dev.bare_latched (x : Straps) : (s.latched x).bare = ({ s.strapped x with role := x.role } : Dev).bare := Dev.bare_showRole ..

theorem Dev.latched_fault (x : Straps) : (s.latched x).f F.GLOBAL_ROLE_FAULT = if x.role = Role.none then 1 else 0 := Dev.showRole_fault _ (by split <;> decide)

theorem Dev.latch_differ {a b c x : Straps} (h : ¬ (a = x ∧ b = x ∧ c = x)) : s.latch a b c x ok = (s.strapped x).noRole x 2 := if_pos h

/-- What four agreeing samples give. -/
def Dev.latchAs (s : Dev) (x : Straps) (ok : Bool) : Role → Dev
  | .none => s.latched x
  | .manager => ((s.latched x).put F.GLOBAL_ROLE_PLANE (if x.plane then 2 else 1)).clocksUp.calAll.newChal
  | .concentrator => (s.latched x).clocksUp.calAll.newChal.each (roleLanes .concentrator) fun s L => s.laneOn L
  | .cell =>
    let u := s.latched x
    let u := ({ u with glob := { u.glob with aonRole := .cell }, gate := { u.gate with dormant := true } } : Dev).put F.GLOBAL_ROLE_PLANE 3
    u.iff (u.gate.cpg && !u.gate.aonLow) fun u => u.wake x x x x ok

theorem Dev.latch_agree (x : Straps) : s.latch x x x x ok = s.latchAs x ok x.role := by
  refine (if_neg (not_not_intro ⟨rfl, rfl, rfl⟩)).trans ?_
  unfold Dev.latchAs Dev.latched
  cases x.role <;> rfl

section
variable {x : Straps}

/-- What the start-up of a MANAGER or of a CONCENTRATOR leaves of its blocks. -/
theorem Dev.bare_clocksUp_latched (r : Role) (h : x.role = r) : (s.latched x).clocksUp.bare = ({ s.strapped x with role := r } : Dev).bare := by
  rw [← h]
  exact Dev.bare_clocksUp.trans (Dev.bare_latched x)

theorem Dev.keeps_calNew (v : Dev) : v.Keeps [.adc, .secure] v.out v.calAll.newChal := ((Dev.keeps_refl _ v).calAll (by decide)).newChal (by decide)

theorem Dev.slots_calNew (v : Dev) : v.calAll.newChal.sec.slots = v.sec.slots :=
  Dev.slots_newChal.trans (congrArg Sec.slots (((Dev.keeps_refl [.adc] v).calAll (by decide)).sec_eq (by decide)))

theorem Dev.latch_manager (h : x.role = .manager) : let u := s.latchAs x ok .manager
    u.glob.por = s.glob.por ∧ u.glob.straps = x ∧ u.role = .manager ∧ u.f F.GLOBAL_ROLE_PLANE = (if x.plane then 2 else 1) ∧ u.f F.GLOBAL_ROLE_FAULT = 0 := by
  have hb : (((s.latched x).put F.GLOBAL_ROLE_PLANE (if x.plane then 2 else 1)).clocksUp).bare = _ := Dev.bare_clocksUp.trans ((Dev.bare_put ..).trans (Dev.bare_latched x))
  have hp : (((s.latched x).put F.GLOBAL_ROLE_PLANE (if x.plane then 2 else 1)).clocksUp).f F.GLOBAL_ROLE_PLANE = if x.plane then 2 else 1 := by
    refine (Dev.f_clocksUp (by decide) _ _).trans ((Dev.f_put_same ..).trans ?_)
    split <;> rfl
  have hf : (((s.latched x).put F.GLOBAL_ROLE_PLANE (if x.plane then 2 else 1)).clocksUp).f F.GLOBAL_ROLE_FAULT = 0 := by
    refine (Dev.f_clocksUp (by decide) _ _).trans ((Dev.f_put_apart _ _ _ _ _ _ (by decide)).trans ((Dev.latched_fault x).trans (if_neg ?_)))
    rw [h]
    decide
  have hu : s.latchAs x ok .manager = ((s.latched x).put F.GLOBAL_ROLE_PLANE (if x.plane then 2 else 1)).clocksUp.calAll.newChal := rfl
  rw [hu]
  generalize ((s.latched x).put F.GLOBAL_ROLE_PLANE (if x.plane then 2 else 1)).clocksUp = v at *
  have hk := Dev.keeps_calNew v
  have hg := hk.glob_eq (by decide)
  refine ⟨(congrArg Glob.por hg).trans (congrArg (·.glob.por) hb), (congrArg Glob.straps hg).trans (congrArg (·.glob.straps) hb),
    hk.role_eq.trans ((congrArg (·.role) hb).trans h), (hk.f_eq (by decide) _ _).trans hp, (hk.f_eq (by decide) _ _).trans hf⟩

theorem Dev.latch_concentrator (h : x.role = .concentrator) : let u := s.latchAs x ok .concentrator
    u.glob.por = s.glob.por ∧ u.glob.straps = x ∧ u.role = .concentrator ∧ u.f F.GLOBAL_ROLE_FAULT = 0 ∧ u.time = s.time ∧ u.sec.slots = s.sec.slots ∧
      ∀ G : Fld, G.blk = .global → (∀ E ∈ F.GLOBAL_ROLE_ROLE :: F.GLOBAL_ROLE_STRAP :: F.GLOBAL_ROLE_FAULT :: clockFlds, G.apart E = true) →
        s.role = .concentrator → u.f G = s.f G := by
  have hb := Dev.bare_clocksUp_latched (s := s) .concentrator h
  have hc := Dev.keeps_calNew (s.latched x).clocksUp
  have hk : (s.latched x).clocksUp.Keeps [.adc, .secure, .trunk] (s.latched x).clocksUp.out (s.latchAs x ok .concentrator) :=
    (hc.mono (by decide)).each _ _ fun v L _ hv => hv.laneOn (by decide) L
  have hg := hk.glob_eq (by decide)
  have hs : (s.latchAs x ok .concentrator).sec = (s.latched x).clocksUp.calAll.newChal.sec :=
    ((Dev.keeps_refl [.trunk] _).each _ _ fun v L _ hv => hv.laneOn (by decide) L).sec_eq (by decide)
  have ht : (s.latched x).Keeps [.global] (s.latched x).out (s.latched x).clocksUp := (Dev.keeps_refl _ _).clocksUp (by decide)
  have hl : (({ s.strapped x with role := x.role } : Dev)).Keeps [.global] s.out (s.latched x) :=
    (((Dev.keeps_refl _ _).put (G := F.GLOBAL_ROLE_ROLE) (by decide) _).put (G := F.GLOBAL_ROLE_STRAP) (by decide) _).put (G := F.GLOBAL_ROLE_FAULT) (by decide) _
  refine ⟨(congrArg Glob.por hg).trans (congrArg (·.glob.por) hb), (congrArg Glob.straps hg).trans (congrArg (·.glob.straps) hb),
    hk.role_eq.trans (congrArg (·.role) hb), (hk.f_eq (by decide) _ _).trans ((Dev.f_clocksUp (by decide) _ _).trans ((Dev.latched_fault x).trans (if_neg ?_))),
    (hk.time_eq (by decide)).trans ((ht.time_eq (by decide)).trans (hl.time_eq (by decide))),
    (congrArg Sec.slots hs).trans ((Dev.slots_calNew _).trans (congrArg (·.sec.slots) hb)), fun G hG hE hr => ?_⟩
  · rw [h]
    decide
  · refine (hk.f_eq (by rw [hG]; decide) _ _).trans ((Dev.f_clocksUp (fun E hx => hE E (by simp only [List.mem_cons]; exact .inr (.inr (.inr hx)))) _ _).trans
      ((Dev.f_showRole x _ (fun E hx => hE E ?_) _ _).trans (Dev.fb_of_regs (h.trans hr.symm) ?_ ..)))
    · simp only [List.mem_cons, List.not_mem_nil, or_false] at hx ⊢
      exact hx.imp_right fun hx => hx.imp_right fun hx => .inl hx
    · rw [hG]
      rfl

theorem Dev.latch_cell (h : x.role = .cell) (hc : s.gate.cpg = false ∨ s.gate.aonLow = true) : let u := s.latchAs x ok .cell
    u.glob.por = s.glob.por ∧ u.glob.straps = x ∧ u.role = .cell ∧ u.gate.dormant = true ∧ u.f F.GLOBAL_ROLE_PLANE = 3 ∧ u.f F.GLOBAL_ROLE_FAULT = 0 := by
  have hl : (s.latched x).bare = _ := Dev.bare_latched x
  generalize hv : (({ s.latched x with glob := { (s.latched x).glob with aonRole := .cell }, gate := { (s.latched x).gate with dormant := true } } : Dev)) = v
  have hvb : v.bare = ({ (s.latched x).bare with glob := { (s.latched x).bare.glob with aonRole := .cell }, gate := { (s.latched x).bare.gate with dormant := true } } : Dev) := by
    rw [← hv]
    rfl
  rw [hl] at hvb
  have hb : (v.put F.GLOBAL_ROLE_PLANE 3).bare = _ := (Dev.bare_put ..).trans hvb
  have hoff : ((v.put F.GLOBAL_ROLE_PLANE 3).gate.cpg && !(v.put F.GLOBAL_ROLE_PLANE 3).gate.aonLow) = false := by
    rw [show (v.put F.GLOBAL_ROLE_PLANE 3).gate.cpg = s.gate.cpg from congrArg (·.gate.cpg) hb, show (v.put F.GLOBAL_ROLE_PLANE 3).gate.aonLow = s.gate.aonLow from congrArg (·.gate.aonLow) hb]
    rcases hc with hc | hc <;> simp [hc]
  have hu : s.latchAs x ok .cell = v.put F.GLOBAL_ROLE_PLANE 3 := by
    rw [← hv] at hoff ⊢
    exact if_neg (Bool.eq_false_iff.mp hoff)
  rw [hu]
  have hf : (v.put F.GLOBAL_ROLE_PLANE 3).f F.GLOBAL_ROLE_FAULT = (s.latched x).f F.GLOBAL_ROLE_FAULT := by
    refine (Dev.f_put_apart _ _ _ _ _ _ (by decide)).trans ?_
    rw [← hv]
    rfl
  refine ⟨congrArg (·.glob.por) hb, congrArg (·.glob.straps) hb, (congrArg (·.role) hb).trans h, congrArg (·.gate.dormant) hb, Dev.f_put_same .., hf.trans ((Dev.latched_fault x).trans (if_neg ?_))⟩
  rw [h]
  decide
end

theorem Dev.latch_none {x : Straps} (h : x.role = .none) : let u := s.latchAs x ok .none
    u.glob.por = s.glob.por ∧ u.glob.straps = x ∧ u.role = .none ∧ u.f F.GLOBAL_ROLE_FAULT = 1 :=
  have hb := Dev.bare_latched (s := s) x
  ⟨congrArg (·.glob.por) hb, congrArg (·.glob.straps) hb, (congrArg (·.role) hb).trans h, (Dev.latched_fault x).trans (if_pos h)⟩

end

end Sys2Proof.Machine
end

section
/-! DORMANT and the wake of a CELL (R15, R256 to R262, R460). -/

namespace Sys2Proof.Machine

section
variable {s v : Dev}

/-! ### The wake -/

/-- The device at the sampling of a wake. -/
def Dev.wakeSampled (s : Dev) (x : Straps) : Dev := { s.strapped x with gate := { s.gate with aonLow := false } }

/-- The start of a CELL up to the record of its bypass. -/
def Dev.wakeOn (s : Dev) (x : Straps) : Dev :=
  let u := ({ s with gate := { s.gate with dormant := false } } : Dev).showRole x 0
  let u : Dev := { u with gate := { u.gate with yOn := true } }
  ((u.raise F.GLOBAL_RST_CAUSE_WAKE).clocksUp.newChal).life 4 1

/-- The lanes and the calibration of a CELL that wakes. -/
def Dev.wakeLanes (s : Dev) : Dev := (s.each [64, 65] fun s L => (s.putLn F.LANE_LANE_CFG_EN L 1).laneOn L).calAll

theorem Dev.wake_differ {a b c x : Straps} (ok : Bool) (h : ¬ (a = x ∧ b = x ∧ c = x)) : s.wake a b c x ok = (s.wakeSampled x).noRole x 2 := if_pos h

theorem Dev.wake_other {x : Straps} (ok : Bool) (h : x.role ≠ s.glob.aonRole) : s.wake x x x x ok = (s.wakeSampled x).noRole x 3 :=
  (if_neg (not_not_intro ⟨rfl, rfl, rfl⟩)).trans (if_pos h)

theorem Dev.wake_agree {x : Straps} (ok : Bool) (h : x.role = s.glob.aonRole) : s.wake x x x x ok =
    (((((s.wakeSampled x).iff (!ok) Dev.aonLost).wakeOn x).bypState).logEvent 1 0).wakeLanes :=
  (if_neg (not_not_intro ⟨rfl, rfl, rfl⟩)).trans (if_neg (not_not_intro h))

/-- The start, before the challenge and the count. -/
def Dev.wakeClocks (s : Dev) (x : Straps) : Dev :=
  let u := ({ s with gate := { s.gate with dormant := false } } : Dev).showRole x 0
  (({ u with gate := { u.gate with yOn := true } } : Dev).raise F.GLOBAL_RST_CAUSE_WAKE).clocksUp

theorem Dev.bare_wakeClocks (x : Straps) : (s.wakeClocks x).bare = { s.bare with gate := { s.bare.gate with dormant := false, yOn := true } } := by
  refine Dev.bare_clocksUp.trans ((Dev.bare_raise ..).trans ?_)
  exact congrArg (fun u : Dev => ({ u with gate := { u.gate with yOn := true } } : Dev)) (Dev.bare_showRole (s := { s with gate := { s.gate with dormant := false } }) x 0)

theorem Dev.f_wakeClocks {G : Fld} (x : Straps)
    (hG : ∀ E ∈ F.GLOBAL_RST_CAUSE_WAKE :: F.GLOBAL_ROLE_ROLE :: F.GLOBAL_ROLE_STRAP :: F.GLOBAL_ROLE_FAULT :: clockFlds, G.apart E = true) (i j : Nat) :
    (s.wakeClocks x).f G i j = s.f G i j := by
  have h1 : (s.wakeClocks x).f G i j = _ := Dev.f_clocksUp (fun E hE => hG E (by simp only [List.mem_cons]; exact .inr (.inr (.inr (.inr hE))))) i j
  refine h1.trans ((Dev.f_raise_apart _ _ _ _ _ (hG F.GLOBAL_RST_CAUSE_WAKE (by decide))).trans ((Dev.f_setGate rfl G i j).trans ((Dev.f_showRole x 0 (fun E hE => hG E ?_) i j).trans
    (Dev.f_setGate rfl G i j))))
  simp only [List.mem_cons, List.not_mem_nil, or_false] at hE ⊢
  exact .inr (hE.imp_right fun hE => hE.imp_right fun hE => .inl hE)

theorem Dev.wakeOn_spec (x : Straps) : let u := s.wakeOn x
    u.role = s.role ∧ u.glob.por = s.glob.por ∧ u.glob.straps = s.glob.straps ∧ u.gate.dormant = false ∧ u.gate.cpg = s.gate.cpg ∧ u.gate.aonLow = s.gate.aonLow ∧
      u.f F.GLOBAL_RST_CAUSE_WAKE = 1 ∧ u.f F.GATE_BYP_STAT_FIRED = s.f F.GATE_BYP_STAT_FIRED ∧ u.otpBypassed = s.otpBypassed := by
  have hb := Dev.bare_wakeClocks (s := s) x
  have hw : (s.wakeClocks x).f F.GLOBAL_RST_CAUSE_WAKE = 1 := (Dev.f_clocksUp (by decide) _ _).trans (Dev.f_raise_same ..)
  have hf : (s.wakeClocks x).f F.GATE_BYP_STAT_FIRED = s.f F.GATE_BYP_STAT_FIRED := Dev.f_wakeClocks x (by decide) _ _
  have ho : (s.wakeClocks x).f F.GATE_BYP_STAT_OTP_USED = s.f F.GATE_BYP_STAT_OTP_USED := Dev.f_wakeClocks x (by decide) _ _
  have hu : s.wakeOn x = (s.wakeClocks x).newChal.life 4 1 := rfl
  have hk : (s.wakeClocks x).Keeps [.secure] (s.wakeClocks x).out (s.wakeClocks x).newChal := (Dev.keeps_refl _ _).newChal (by decide)
  rw [hu]
  generalize s.wakeClocks x = w at *
  have hl : (w.newChal.life 4 1).bare = w.newChal.bare := Dev.bare_inc ..
  have hg := hk.glob_eq (by decide)
  have hgate := hk.gate_eq (by decide)
  have hlf : ∀ G : Fld, G.apart F.GATE_LIFE_CNT = true → G.blk.home ∉ [Blk.secure] → (w.newChal.life 4 1).f G = w.f G := fun G ha hG =>
    (Dev.f_inc_apart _ _ _ _ _ _ ha).trans (hk.f_eq hG _ _)
  refine ⟨(Dev.role_of_bare hl).trans (hk.role_eq.trans (congrArg (·.role) hb)), (Dev.por_of_bare hl).trans ((congrArg Glob.por hg).trans (congrArg (·.glob.por) hb)),
    (Dev.straps_of_bare hl).trans ((congrArg Glob.straps hg).trans (congrArg (·.glob.straps) hb)), (Dev.dormant_of_bare hl).trans ((congrArg Gate.dormant hgate).trans (congrArg (·.gate.dormant) hb)),
    (Dev.cpg_of_bare hl).trans ((congrArg Gate.cpg hgate).trans (congrArg (·.gate.cpg) hb)), (Dev.aonLow_of_bare hl).trans ((congrArg Gate.aonLow hgate).trans (congrArg (·.gate.aonLow) hb)),
    (hlf _ (by decide) (by decide)).trans hw, (hlf _ (by decide) (by decide)).trans hf, ?_⟩
  have hl4 : (w.newChal.life 4 1).f F.GATE_BYP_STAT_OTP_USED = w.newChal.f F.GATE_BYP_STAT_OTP_USED := Dev.f_inc_other _ _ _ _ _ _ (.inr (by decide))
  rw [Dev.otpBypassed, Dev.otpBypassed, hl4.trans ((hk.f_eq (by decide) _ _).trans ho)]

theorem Dev.keeps_wakeLanes : s.Keeps [.trunk, .adc] s.out s.wakeLanes :=
  Dev.Keeps.calAll ((Dev.keeps_refl _ s).each _ _ fun v L hL hv => Dev.Keeps.laneOn (hv.put (by
    simp only [List.mem_cons, List.not_mem_nil, or_false] at hL
    rcases hL with rfl | rfl <;> decide) _ _ _) (by decide) L) (by decide)

theorem Dev.bypState_waking (h : s.f F.GATE_BYP_STAT_FIRED = 0) (ho : s.otpBypassed = false) : s.bypState = s.put F.GATE_STAT_STATE gWaking :=
  if_neg fun hx => hx.elim (Bool.eq_false_iff.mp (Dev.flag_off h)) (Bool.eq_false_iff.mp ho)

theorem Dev.glob_bypOut (y : Bool) : (s.bypOut y).glob = s.glob := by
  unfold Dev.bypOut
  split
  · split <;> rfl
  · split <;> rfl

theorem Dev.glob_gatesDrive (on : Bool) : (s.gatesDrive on).glob = s.glob := rfl

/-- The device with both channels recorded as fired. -/
def Dev.bothFired (s : Dev) : Dev :=
  let u : Dev := { s.raise F.GATE_BYP_STAT_FIRED with gate := { (s.raise F.GATE_BYP_STAT_FIRED).gate with fired := 3 } }
  (u.put F.GATE_BYP_STAT_OTP_DONE (b2n u.otpBypassed)).put F.GATE_STAT_STATE gBypassed

theorem Dev.bypState_fired (h : s.flag F.GATE_BYP_STAT_FIRED = true ∨ s.otpBypassed = true) :
    s.bypState = ((s.bothFired.bypOut false).bypOut true).gatesDrive true := if_pos h

theorem Dev.keeps_bothFired : s.Keeps [.gate] s.out s.bothFired := by
  have h := ((Dev.keeps_refl [.gate] s).raise (G := F.GATE_BYP_STAT_FIRED) (by decide)).setGate (by decide) { (s.raise F.GATE_BYP_STAT_FIRED).gate with fired := 3 }
  exact (h.put (G := F.GATE_BYP_STAT_OTP_DONE) (by decide) _).put (G := F.GATE_STAT_STATE) (by decide) _

theorem Dev.glob_bypState : s.bypState.glob = s.glob := by
  by_cases h : s.flag F.GATE_BYP_STAT_FIRED = true ∨ s.otpBypassed = true
  · rw [Dev.bypState_fired h, Dev.glob_gatesDrive, Dev.glob_bypOut, Dev.glob_bypOut, Dev.keeps_bothFired.glob_eq (by decide)]
  · have hu : s.bypState = s.put F.GATE_STAT_STATE gWaking := if_neg h
    rw [hu, ((Dev.keeps_refl [.gate] s).put (G := F.GATE_STAT_STATE) (by decide) gWaking).glob_eq (by decide)]

theorem Dev.keeps_aonLost : s.Keeps [.gate] s.out s.aonLost := by
  have h := (Dev.keeps_refl [.gate] s).setGate (by decide) { s.gate with log := [], fired := 0, rtc0 := 2 ^ 48 - s.fifths * 32768 / 10 ^ 9 % 2 ^ 48 }
  refine Dev.Keeps.logEvent ((h.each _ _ fun v E hE hv => hv.put ?_ _ _ _).each _ _ fun v k _ hv => hv.put (G := F.GATE_LIFE_CNT) (by decide) _ _ _) (by decide) _ _
  have : ∀ E ∈ [F.GATE_LOG_CTL_RD, F.GATE_LOG_CTL_WR, F.GATE_LOG_CTL_OVWR_CNT, F.GATE_BYP_STAT_FIRED, F.GATE_BYP_STAT_FIRST_Y, F.GATE_BYP_STAT_X_CAUSE], E.blk.home ∈ [Blk.gate] := by decide
  exact this E hE

/-- A wake leaves power-on reset as it is and shows the straps. -/
theorem Dev.wake_shown (x : Straps) (ok : Bool) : (s.wake x x x x ok).glob.por = s.glob.por ∧ (s.wake x x x x ok).glob.straps = x := by
  by_cases h : x.role = s.glob.aonRole
  · rw [Dev.wake_agree ok h]
    have ha : ((s.wakeSampled x).iff (!ok) Dev.aonLost).glob = (s.wakeSampled x).glob := Dev.iff_keeps _ Dev.glob _ _ fun _ => Dev.keeps_aonLost.glob_eq (by decide)
    generalize (s.wakeSampled x).iff (!ok) Dev.aonLost = w at *
    obtain ⟨-, hp, hs, -⟩ := Dev.wakeOn_spec (s := w) x
    have hg : (((w.wakeOn x).bypState.logEvent 1 0).wakeLanes).glob = (w.wakeOn x).glob :=
      (Dev.keeps_wakeLanes.glob_eq (by decide)).trans ((((Dev.keeps_refl [.gate] _).logEvent (by decide) 1 0).glob_eq (by decide)).trans Dev.glob_bypState)
    have hap : w.glob.por = s.glob.por := by
      rw [ha]
      rfl
    have has : w.glob.straps = x := by
      rw [ha]
      rfl
    exact ⟨(congrArg Glob.por hg).trans (hp.trans hap), (congrArg Glob.straps hg).trans (hs.trans has)⟩
  · rw [Dev.wake_other ok h]
    obtain ⟨-, -, -, -, hp, hs, -⟩ := Dev.noRole_spec (s := s.wakeSampled x) x (k := 3) (by decide)
    exact ⟨hp, hs⟩

theorem Dev.wake_waking (x : Straps) (h : x.role = s.glob.aonRole) (hf : s.f F.GATE_BYP_STAT_FIRED = 0) (ho : s.otpBypassed = false) : let u := s.wake x x x x true
    u.role = s.role ∧ u.gate.dormant = false ∧ u.gate.cpg = s.gate.cpg ∧ u.gate.aonLow = false ∧ u.f F.GATE_STAT_STATE = gWaking ∧ u.f F.GLOBAL_RST_CAUSE_WAKE = 1 := by
  have hu : s.wake x x x x true = ((((s.wakeSampled x).wakeOn x).bypState).logEvent 1 0).wakeLanes := Dev.wake_agree true h
  have hf' : (s.wakeSampled x).f F.GATE_BYP_STAT_FIRED = 0 := hf
  have ho' : (s.wakeSampled x).otpBypassed = false := ho
  rw [hu]
  obtain ⟨hr, -, -, hd, hc, ha, hw, hff, hoo⟩ := Dev.wakeOn_spec (s := s.wakeSampled x) x
  rw [Dev.bypState_waking (hff.trans hf') (hoo.trans ho')]
  generalize (s.wakeSampled x).wakeOn x = w at *
  have hk : (w.put F.GATE_STAT_STATE gWaking).Keeps [.gate] _ ((w.put F.GATE_STAT_STATE gWaking).logEvent 1 0) := (Dev.keeps_refl _ _).logEvent (by decide) 1 0
  have hp : w.Keeps [.gate] w.out (w.put F.GATE_STAT_STATE gWaking) := (Dev.keeps_refl _ _).put (by decide) _
  have hl := Dev.keeps_wakeLanes (s := (w.put F.GATE_STAT_STATE gWaking).logEvent 1 0)
  have hcore : ((w.put F.GATE_STAT_STATE gWaking).logEvent 1 0).gcore = w.gcore := (Dev.gcore_logEvent ..).trans (Dev.gcore_put ..)
  have hg := hl.gate_eq (by decide)
  exact ⟨hl.role_eq.trans (hk.role_eq.trans (hp.role_eq.trans hr)), (congrArg Gate.dormant hg).trans ((congrArg (·.dormant) hcore).trans hd),
    (congrArg Gate.cpg hg).trans ((congrArg (·.cpg) hcore).trans hc), (congrArg Gate.aonLow hg).trans ((congrArg (·.aonLow) hcore).trans ha),
    (hl.f_eq (by decide) _ _).trans (((Dev.leaves_logEvent ..).fld _ _ _ (by decide)).trans (Dev.f_put_same ..)),
    (hl.f_eq (by decide) _ _).trans ((hk.f_eq (by decide) _ _).trans ((hp.f_eq (by decide) _ _).trans hw))⟩

section
variable {a b c x : Straps} {ok : Bool} (hr : s.role = .cell) (hd : s.gate.dormant = true)

section
include hr hd
theorem Dev.cpgRise_wake : s.cpgRise true a b c x ok = ({ s with gate := { s.gate with cpg := true, aonLow := false } } : Dev).wake a b c x ok := if_pos ⟨hr, hd, rfl⟩
theorem Dev.aonLevel_wake (hc : s.gate.cpg = true) (hl : s.gate.aonLow = true) : s.aonLevel a b c x ok = s.wake a b c x ok := if_pos ⟨hr, hd, hc, hl⟩
end
theorem Dev.aonLevel_off (hc : s.gate.cpg = false) : s.aonLevel a b c x ok = { s with gate := { s.gate with aonLow := false } } :=
  if_neg fun hx => absurd (hc.symm.trans hx.2.2.1) (by decide)
end

/-! ### The end of good power -/

/-- The device at the end of good power, with its gates off and the log written. -/
def Dev.powerGone (s : Dev) : Dev :=
  let u : Dev := { s with gate := { s.gate with cpg := false } }
  ((u.gatesOff.gatesDrive false).life 1 u.runSecs).logEvent 2 0

/-- What of it AON holds. -/
def Dev.asleep (v : Dev) : Dev :=
  let o := v.unpower
  { o with
    role := .cell, time := { o.time with frc := v.time.frc, fifth := v.time.fifth }
    gate := { o.gate with dormant := true, bypY := v.gate.bypY, yOn := v.gate.yOn } }

/-- The epochs, those of the lanes, and the causes of the resets. -/
def Dev.heldFlds (v : Dev) : List (Fld × Nat) :=
  ((allBlks.filter (blkOn .cell)).map fun b => (epochFld b, v.epoch b)) ++ F.regGlobalRstCause.flds.map fun x => (x, v.f x)

theorem Dev.cpgFall_awake (h : s.role = .cell) (hd : s.gate.dormant = false) : let v := s.powerGone
    s.cpgFall = (((((v.asleep.each ((allBlks.filter (blkOn .cell)).map fun b => (b, v.epoch b)) fun o p => o.put (epochFld p.1) p.2).each
      (F.regGlobalRstCause.flds.map fun x => (x, v.f x)) fun o p => o.put p.1 p.2).each ([64, 65].map fun L => (L, (v.leaveRun L).ln F.LANE_LANE_STAT_EPOCH L)) fun o p =>
        o.putLn F.LANE_LANE_STAT_EPOCH p.1 p.2).showRole v.glob.straps 0).put F.GLOBAL_ROLE_PLANE 3) :=
  if_neg fun hx => hx.elim (absurd h ·) fun hx => absurd (hd.symm.trans hx) (by decide)

theorem Dev.bare_asleep : v.asleep.bare = ({ v.blank.bare with
    role := .cell, time := { v.blank.bare.time with frc := v.time.frc, fifth := v.time.fifth }
    gate := { v.blank.bare.gate with dormant := true, bypY := v.gate.bypY, yOn := v.gate.yOn } } : Dev) :=
  congrArg (fun o : Dev => ({ o with
    role := .cell, time := { o.time with frc := v.time.frc, fifth := v.time.fifth }
    gate := { o.gate with dormant := true, bypY := v.gate.bypY, yOn := v.gate.yOn } } : Dev)) (Dev.bare_unpower (s := v))

theorem Dev.powerGone_spec : s.Keeps [.gate] s.out s.powerGone ∧ s.powerGone.gate.cpg = false := by
  have h := (Dev.keeps_refl [.gate] s).setGate (by decide) { s.gate with cpg := false }
  have hu : s.powerGone = (((({ s with gate := { s.gate with cpg := false } } : Dev).gatesOff.gatesDrive false).life 1
    ({ s with gate := { s.gate with cpg := false } } : Dev).runSecs).logEvent 2 0) := rfl
  have hw : ({ s with gate := { s.gate with cpg := false } } : Dev).gcore.cpg = false := rfl
  rw [hu]
  generalize ({ s with gate := { s.gate with cpg := false } } : Dev) = w at *
  refine ⟨Dev.Keeps.logEvent (Dev.Keeps.life ((h.gatesOff (by decide)).gatesDrive (by decide) _) (by decide) _ _) (by decide) _ _, ?_⟩
  have hc : (((w.gatesOff.gatesDrive false).life 1 w.runSecs).logEvent 2 0).gcore = (w.gatesOff.gatesDrive false).gcore := (Dev.gcore_logEvent ..).trans (Dev.gcore_inc ..)
  have ho : w.gatesOff.gcore.cpg = false := (congrArg Gate.cpg w.gcore_gatesOff).trans hw
  exact (congrArg Gate.cpg hc).trans ho

theorem Dev.cpgFall_spec (h : s.role = .cell) (hd : s.gate.dormant = false) : let u := s.cpgFall
    u.role = .cell ∧ u.gate.dormant = true ∧ u.gate.cpg = false ∧ u.time.frc = s.time.frc ∧ u.glob.straps = s.glob.straps ∧ u.sec.slots = s.sec.slots ∧
      u.gate.legA = Leg.off ∧ u.gate.legB = Leg.off ∧ u.f F.GLOBAL_ROLE_PLANE = 3 := by
  have hu := Dev.cpgFall_awake h hd
  obtain ⟨hv, hc⟩ := Dev.powerGone_spec (s := s)
  generalize s.powerGone = v at *
  have hb : s.cpgFall.bare = v.asleep.bare := by
    rw [hu]
    exact (Dev.bare_put ..).trans ((Dev.bare_showRole ..).trans ((Dev.bare_each _ _ fun _ _ _ => Dev.bare_put ..).trans ((Dev.bare_each _ _ fun _ _ _ => Dev.bare_put ..).trans
      (Dev.bare_each _ _ fun _ _ _ => Dev.bare_put ..))))
  have hb' := hb.trans Dev.bare_asleep
  refine ⟨congrArg (·.role) hb', congrArg (·.gate.dormant) hb', (congrArg (·.gate.cpg) hb').trans hc, (congrArg (·.time.frc) hb').trans (congrArg Time.frc (hv.time_eq (by decide))),
    (congrArg (·.glob.straps) hb').trans (congrArg Glob.straps (hv.glob_eq (by decide))), (congrArg (·.sec.slots) hb').trans (congrArg Sec.slots (hv.sec_eq (by decide))),
    congrArg (·.gate.legA) hb', congrArg (·.gate.legB) hb', ?_⟩
  rw [hu]
  exact Dev.f_put_same ..

theorem Dev.cpgFall_other (h : s.role ≠ .cell ∨ s.gate.dormant = true) : s.cpgFall = { s with gate := { s.gate with cpg := false } } := if_pos h
end

/-- Settles O55. -/
theorem cellDormancy : Obligations.CellDormancy := by
  intro s d
  refine ⟨fun h hd => State.runs_cpgFall.does (Dev.cpgFall_spec (s := d) h hd), fun h => State.runs_cpgFall.of_eq (Dev.cpgFall_other (s := d) h), fun a b c x ok hr hd => ?_, fun a b c x ok h => ?_⟩
  · have hgo : ∀ a b c ok, d.cpgRise true a b c x ok = ({ d with gate := { d.gate with cpg := true, aonLow := false } } : Dev).wake a b c x ok := fun a b c ok => Dev.cpgRise_wake hr hd
    generalize hw : ({ d with gate := { d.gate with cpg := true, aonLow := false } } : Dev) = w at hgo
    have hrun : ∀ a b c ok, s.Runs (.cpgRise true a b c x ok) (w.wake a b c x ok) := fun a b c ok => State.runs_cpgRise.of_eq (hgo a b c ok)
    have hwr : w.role = .cell := hw ▸ hr
    have haon : w.glob.aonRole = s.dev.glob.aonRole := hw ▸ rfl
    have hcpg : w.gate.cpg = true := hw ▸ rfl
    have hfw : w.f F.GATE_BYP_STAT_FIRED = s.dev.f F.GATE_BYP_STAT_FIRED := hw ▸ rfl
    have how : w.otpBypassed = s.dev.otpBypassed := hw ▸ rfl
    refine ⟨State.runs_cpgRise.of_eq (if_neg fun hx => absurd hx.2.2 (by decide)), fun hne => (hrun a b c ok).does ?_, fun ha hb hc hx => ?_, fun ha hb hc hx hf ho => ?_,
      fun hcp hal ha hb hc hx hf ho => ?_⟩
    · rw [Dev.wake_differ ok hne]
      obtain ⟨h1, h2, -, h4, -, -, h7, h8⟩ := Dev.noRole_spec (s := w.wakeSampled x) x (k := 2) (by decide)
      exact ⟨h1, h4, h2, h7.trans hcpg, h8⟩
    · rw [ha, hb, hc]
      refine (hrun x x x ok).does ?_
      rw [Dev.wake_other ok (haon ▸ hx)]
      obtain ⟨h1, -, -, h4, -⟩ := Dev.noRole_spec (s := w.wakeSampled x) x (k := 3) (by decide)
      exact ⟨h1, h4⟩
    · rw [ha, hb, hc]
      obtain ⟨h1, h2, h3, -, h5, h6⟩ := Dev.wake_waking (s := w) x (haon ▸ hx) (hfw.trans hf) (how.trans ho)
      exact (hrun x x x true).does ⟨h1.trans hwr, h2, h3.trans hcpg, h5, h6⟩
    · rw [ha, hb, hc]
      obtain ⟨h1, h2, h3, h4, h5, h6⟩ := Dev.wake_waking (s := d) x hx hf ho
      exact (State.runs_vddAonWakeLevel.of_eq (Dev.aonLevel_wake (s := d) hr hd hcp hal)).does ⟨h1.trans hr, h2, h4, h5, h6⟩
  · exact State.runs_vddAonWakeLevel.of_eq (Dev.aonLevel_off (s := d) h)

end Sys2Proof.Machine
end

section
/-! Power-on reset and the role taken from the straps (R11 to R19, R436, R439). -/

namespace Sys2Proof.Machine

section
variable {s : Dev} {x : Straps} (ok : Bool)

/-- A sampling leaves power-on reset as it is and shows the straps. -/
theorem Dev.latchAs_shown : (s.latchAs x ok x.role).glob.por = s.glob.por ∧ (s.latchAs x ok x.role).glob.straps = x := by
  cases h : x.role
  case none => exact ⟨(Dev.latch_none ok h).1, (Dev.latch_none ok h).2.1⟩
  case manager => exact ⟨(Dev.latch_manager ok h).1, (Dev.latch_manager ok h).2.1⟩
  case concentrator => exact ⟨(Dev.latch_concentrator ok h).1, (Dev.latch_concentrator ok h).2.1⟩
  case cell =>
    have hl : (s.latched x).bare = _ := Dev.bare_latched x
    generalize hv : ({ s.latched x with glob := { (s.latched x).glob with aonRole := .cell }, gate := { (s.latched x).gate with dormant := true } } : Dev).put F.GLOBAL_ROLE_PLANE 3 = v
    have hvb : v.glob.por = s.glob.por ∧ v.glob.straps = x := by
      rw [← hv]
      have hp := Dev.bare_put ({ s.latched x with glob := { (s.latched x).glob with aonRole := .cell }, gate := { (s.latched x).gate with dormant := true } } : Dev) F.GLOBAL_ROLE_PLANE 3 0 0
      exact ⟨(Dev.por_of_bare hp).trans (congrArg (·.glob.por) hl), (Dev.straps_of_bare hp).trans (congrArg (·.glob.straps) hl)⟩
    have hu : s.latchAs x ok .cell = v.iff (v.gate.cpg && !v.gate.aonLow) fun u => u.wake x x x x ok := hv ▸ rfl
    rw [hu]
    cases v.gate.cpg && !v.gate.aonLow
    · exact hvb
    · obtain ⟨hp, hs⟩ := Dev.wake_shown (s := v) x ok
      exact ⟨hp.trans hvb.1, hs⟩

theorem Dev.porstRise_idle {a b c : Straps} (h : s.glob.por = false) : s.porstRise a b c x ok = s := if_pos (Bool.eq_false_iff.mp h)

theorem Dev.porstRise_held {a b c : Straps} (h : s.glob.por = true) :
    s.porstRise a b c x ok = ({ s with glob := { s.glob with por := false } } : Dev).latch a b c x ok := if_neg (not_not_intro h)

theorem Dev.porstFall_spec : let u := s.porstFall
    u.role = .none ∧ u.glob.por = true ∧ u.glob.straps = s.glob.straps ∧ u.time = Time.off ∧ u.loom = Loom.off ∧ u.spin = Spin.off ∧ u.reel = Reel.off ∧
      u.eth = Eth.off ∧ u.pair = Pair.off ∧ u.safe = Safe.off ∧ u.lanes = { trunk := [], leaf := [], st := [] } ∧ u.sec.slots = s.sec.slots ∧
      u.gate.log = s.gate.log ∧ u.gate.fired = s.gate.fired := by
  have hk := Dev.keeps_unpowerPor (s := s)
  have hb := Dev.bare_unpowerPor (s := s)
  have hu : s.porstFall = { s.unpowerPor with glob := { s.unpowerPor.glob with por := true } } := rfl
  rw [hu]
  generalize s.unpowerPor = v at *
  exact ⟨congrArg (·.role) hb, rfl, congrArg (·.glob.straps) hb, hk.time_eq (by decide), hk.loom_eq (by decide), hk.spin_eq (by decide), hk.reel_eq (by decide),
    hk.eth_eq (by decide), hk.pair_eq (by decide), hk.safe_eq (by decide), (hk.lanes_eq (by decide)).1, congrArg (·.sec.slots) hb, congrArg (·.gate.log) hb,
    congrArg (·.gate.fired) hb⟩
end

theorem Straps.role_none {x : Straps} (h1 : x.s1 = false) (h0 : x.s0 = false) : x.role = .none := by rw [Straps.role, h1, h0]
theorem Straps.role_manager {x : Straps} (h1 : x.s1 = false) (h0 : x.s0 = true) : x.role = .manager := by rw [Straps.role, h1, h0]
theorem Straps.role_concentrator {x : Straps} (h1 : x.s1 = true) (h0 : x.s0 = false) : x.role = .concentrator := by rw [Straps.role, h1, h0]
theorem Straps.role_cell {x : Straps} (h1 : x.s1 = true) (h0 : x.s0 = true) : x.role = .cell := by rw [Straps.role, h1, h0]

/-- Settles O52. -/
theorem powerOnAndRole : Obligations.PowerOnAndRole := by
  intro s
  refine ⟨State.runs_porstNFall.does (Dev.porstFall_spec (s := s.dev.begin)), fun a b c x ok h => State.runs_porstNRise.of_eq (Dev.porstRise_idle (s := s.dev.begin) ok h),
    fun a b c x ok h => ?_⟩
  have hrun : s.Runs (.porstNRise a b c ⟨x, ok⟩) _ := State.runs_porstNRise.of_eq (Dev.porstRise_held (s := s.dev.begin) ok h)
  have hg : s.dev.begin.gate = s.dev.gate := rfl
  generalize s.dev.begin = d at hrun hg
  by_cases heq : a = x ∧ b = x ∧ c = x
  · obtain ⟨ha, hb, hc⟩ := heq
    rw [ha, hb, hc] at hrun ⊢
    rw [Dev.latch_agree] at hrun
    have hsh := Dev.latchAs_shown (s := { d with glob := { d.glob with por := false } }) (x := x) ok
    have hcell : s.dev.gate.cpg = false ∨ s.dev.gate.aonLow = true →
        ({ d with glob := { d.glob with por := false } } : Dev).gate.cpg = false ∨ ({ d with glob := { d.glob with por := false } } : Dev).gate.aonLow = true := fun hp => hg ▸ hp
    have hpor : ({ d with glob := { d.glob with por := false } } : Dev).glob.por = false := rfl
    generalize ({ d with glob := { d.glob with por := false } } : Dev) = v at *
    refine hrun.does ⟨hsh.1.trans hpor, hsh.2, fun hn => absurd ⟨rfl, rfl, rfl⟩ hn, fun _ _ _ => ⟨fun h1 h0 => ?_, fun h1 h0 => ?_, fun h1 h0 => ?_, fun h1 h0 hp => ?_⟩⟩
    · rw [Straps.role_none h1 h0]
      obtain ⟨-, -, hr, hf⟩ := Dev.latch_none (s := v) ok (Straps.role_none h1 h0)
      exact ⟨hr, hf⟩
    · rw [Straps.role_manager h1 h0]
      obtain ⟨-, -, hr, hp, hf⟩ := Dev.latch_manager (s := v) ok (Straps.role_manager h1 h0)
      exact ⟨hr, hp, hf⟩
    · rw [Straps.role_concentrator h1 h0]
      obtain ⟨-, -, hr, hf, -⟩ := Dev.latch_concentrator (s := v) ok (Straps.role_concentrator h1 h0)
      exact ⟨hr, hf⟩
    · rw [Straps.role_cell h1 h0]
      obtain ⟨-, -, hr, hd, hpl, hf⟩ := Dev.latch_cell (s := v) ok (Straps.role_cell h1 h0) (hcell hp)
      exact ⟨hr, hd, hpl, hf⟩
  · rw [Dev.latch_differ ok heq] at hrun
    obtain ⟨h1, h2, h3, h4, h5, h6, -, -⟩ := Dev.noRole_spec (s := ({ d with glob := { d.glob with por := false } } : Dev).strapped x) x (k := 2) (by decide)
    exact hrun.does ⟨h5, h6, fun _ => ⟨h1, h2, h3, h4⟩, fun ha hb hc => absurd ⟨ha, hb, hc⟩ heq⟩

end Sys2Proof.Machine
end

section
/-! Supply excursions: the notice of a record that the DRAM supply cuts off (R378, R435, R437). -/

namespace Sys2Proof.Machine

section
variable {s0 s : Dev} {w : List Fld}

theorem Dev.reads_xlinkSync (h1 : w.all (·.apart F.PAIR_STAT_XLINK_UP) = true) (h2 : w.all (·.apart F.PAIR_EVT_CROSSLINK_LOST) = true)
    (h3 : w.all (·.apart F.PAIR_CNT_XLINK_LOSS) = true) (h4 : w.all (·.apart F.PAIR_EVT_MAP_MISMATCH) = true) : (s.xlinkSync.reads w).2 = (s.reads w).2 := by
  unfold Dev.xlinkSync
  split
  · rfl
  · dsimp only
    split
    · rw [Dev.reads_inc _ _ _ _ h3, Dev.reads_raise _ _ _ h2, Dev.reads_put _ _ _ _ h1]
    · split
      · exact (Dev.mapSend_reads _ h4).1.trans (congrArg Prod.snd (Dev.reads_raise s 0 0 h1))
      · rfl

/-- Settling writes no register of HOSTQ where no lane has moved and no request is outstanding. -/
theorem Dev.f_settle_held (hm : s.role = .manager) (hr : s.role = s0.role) (hl : s.lanes = s0.lanes) (hp : s.proto.rr = []) (i : Nat) :
    (Dev.settle s0 s).f F.HOSTQ_CQ_STAT_HELD i = s.f F.HOSTQ_CQ_STAT_HELD i := by
  suffices h : ((Dev.aftermath s0 s).reads [F.HOSTQ_CQ_STAT_HELD]).2 = (s.reads [F.HOSTQ_CQ_STAT_HELD]).2 from
    congrFun (congrFun (congrFun (List.cons.inj h).1 0) i) 0
  have hrr : Dev.rrRetire s0 s = s := by
    unfold Dev.rrRetire
    rw [hp]
    rfl
  have hk : s.role ≠ .concentrator := by
    rw [hm]
    decide
  unfold Dev.aftermath
  rw [Dev.laneSync_same s0 s hr hl, hrr]
  dsimp only
  rw [if_neg hk]
  have hc : (Dev.rbSync s0 s.xlinkSync).pairSync.swapSettle.calm = s.calm := by
    rw [Dev.swapSettle_calm, Dev.pairSync_calm, Dev.rbSync_calm, Dev.xlinkSync_calm]
  have hdig : ((Dev.rbSync s0 s.xlinkSync).pairSync.swapSettle.reelDig).reads [F.HOSTQ_CQ_STAT_HELD] =
      (Dev.rbSync s0 s.xlinkSync).pairSync.swapSettle.reads [F.HOSTQ_CQ_STAT_HELD] :=
    congrArg Prod.fst (Dev.aside_reelDig _ (by decide) ((Dev.role_of_inert (Dev.calm_inert hc)).trans hm))
  have h : (Dev.trnSync s0 (Dev.rbSync s0 s.xlinkSync).pairSync.swapSettle.reelDig).reads [F.HOSTQ_CQ_STAT_HELD] = s.xlinkSync.reads [F.HOSTQ_CQ_STAT_HELD] := by
    rw [Dev.reads_trnSync, hdig, Dev.reads_swapSettle _ (by decide) (by decide) (by decide), Dev.reads_pairSync _ (by decide),
      Dev.reads_rbSync _ _ (by decide) (by decide) (by decide) (by decide) (by decide) (by decide)]
  have hx : (s.xlinkSync.reads [F.HOSTQ_CQ_STAT_HELD]).2 = _ := Dev.reads_xlinkSync (by decide) (by decide) (by decide) (by decide)
  split
  · exact (congrArg Prod.snd h).trans hx
  · exact (congrArg Prod.snd (Dev.reads_upGo _ (by decide))).trans ((congrArg Prod.snd h).trans hx)
end

/-- A MANAGER whose Reel INST 0 is in POST: the frames after a trigger are being recorded. -/
def recordingManager : State :=
  let dev := State.reset.dev
  { State.reset with dev := { dev with
      role := .manager
      glob := { dev.glob with por := false }
      reel := { dev.reel with regs := [(F.REEL_INST_STAT_STATE.key 0 0 0, rPost)] } } }

/-- The notice that the record is cut off is held at completion ring 0. -/
theorem excursion_held : (recordingManager.dev.begin.supplyExcursion 5 true).f F.HOSTQ_CQ_STAT_HELD = 1 := by decide

/-- The excursion of the DRAM supply moves no lane and begins no request. -/
theorem excursion_calm : let u := recordingManager.dev.begin.supplyExcursion 5 true
    u.role = .manager ∧ u.lanes = recordingManager.dev.lanes ∧ u.proto.rr = [] := by decide

/-- Refutes O54: an excursion of the DRAM supply posts the notice of the record that it cuts off, which HOSTQ holds; so more than GLOBAL and REEL changes. -/
theorem not_clocksSuppliesIslands : ¬ Obligations.ClocksSuppliesIslands := by
  unfold Obligations.ClocksSuppliesIslands
  intro h
  obtain ⟨hm, -⟩ := h recordingManager
  obtain ⟨-, -, -, -, -, hdram⟩ := hm rfl
  obtain ⟨u, hrun, -, -, hkeep⟩ := hdram true rfl rfl
  obtain ⟨hr, hl, hp⟩ := excursion_calm
  have hs := congrArg (·.f F.HOSTQ_CQ_STAT_HELD) (hrun.settle_eq State.runs_supplyExcursion)
  have hu : (Dev.settle recordingManager.dev u).f F.HOSTQ_CQ_STAT_HELD = 0 :=
    (Dev.f_settle_held hkeep.role_eq hkeep.role_eq (hkeep.lanes_eq (by decide)).1 (congrArg Proto.rr (hkeep.lanes_eq (by decide)).2) 0).trans
      ((hkeep.f_eq (by decide) 0 0).trans rfl)
  have hv : (Dev.settle recordingManager.dev (recordingManager.dev.begin.supplyExcursion 5 true)).f F.HOSTQ_CQ_STAT_HELD = 1 :=
    (Dev.f_settle_held hr hr hl hp 0).trans excursion_held
  exact absurd (hu.symm.trans (hs.trans hv)) (by decide)

end Sys2Proof.Machine
end

section
/-! What the resets of the blocks leave: the role, the time, the straps, the OTP and the resets in progress (R439 to R442). -/

namespace Sys2Proof.Machine

/-- The role, the time of the device, its straps, its OTP slots, the block resets in progress and the warm reset that waits. -/
def Dev.held (s : Dev) : Role × Nat × Int × Straps × Tab (List Byte) × List Nat × Option Nat :=
  (s.role, s.time.frc, s.time.bT, s.glob.straps, s.sec.slots, s.glob.blkRst, s.glob.warm)

section
variable {s u v : Dev} {own : List Blk} {outs : List Out}

theorem Dev.held_of_bare (h : u.bare = s.bare) : u.held = s.held := (congrArg Dev.held h :)

theorem Dev.Keeps.held (h : s.Keeps own outs u) (hg : Blk.global ∉ own) (ht : Blk.time ∉ own) (hs : Blk.secure ∉ own) : u.held = s.held := by
  rw [Dev.held, h.role_eq, h.time_eq ht, h.glob_eq hg, h.sec_eq hs]
  rfl

theorem Dev.Grows.held (h : s.Grows own u) (hg : Blk.global ∉ own) (ht : Blk.time ∉ own) (hs : Blk.secure ∉ own) : u.held = s.held := h.keeps.held hg ht hs

theorem Dev.held_put (G : Fld) (x i j : Nat) : (s.put G x i j).held = s.held := Dev.held_of_bare (Dev.bare_put ..)
theorem Dev.held_befall (G : Fld) (g : Nat → Nat) (i j : Nat) : (s.befall G g i j).held = s.held := Dev.held_of_bare (Dev.bare_befall ..)
theorem Dev.held_raise (G : Fld) (i j : Nat) : (s.raise G i j).held = s.held := Dev.held_befall ..
theorem Dev.held_inc (G : Fld) (n i j : Nat) : (s.inc G n i j).held = s.held := Dev.held_befall ..
theorem Dev.held_incW (G : Fld) (n i j : Nat) : (s.incW G n i j).held = s.held := Dev.held_put ..
theorem Dev.held_retired (b : Blk) (n : Nat) : (s.retired b n).held = s.held := Dev.held_inc ..
theorem Dev.held_wipe (b : Blk) (k : Nat → Bool) : (s.wipe b k).held = s.held := Dev.held_of_bare (Dev.bare_setRegs ..)

theorem Dev.held_ite (c : Prop) [Decidable c] (hu : u.held = s.held) (hv : v.held = s.held) : (if c then u else v).held = s.held := by split <;> assumption

theorem Dev.held_iff (s : Dev) (c : Bool) {g : Dev → Dev} (h : ∀ v, (g v).held = v.held) : (s.iff c g).held = s.held := Dev.iff_keeps s Dev.held c g fun _ => h s

theorem Dev.held_each {α : Type} (s : Dev) (l : List α) {g : Dev → α → Dev} (h : ∀ v a, (g v a).held = v.held) : (s.each l g).held = s.held :=
  Dev.each_inv (fun v => v.held = s.held) l g (fun v a _ hv => (h v a).trans hv) s rfl

theorem Dev.held_puts (s : Dev) (l : List Fld) (x : Fld → Nat) (i j : Nat) : (s.each l fun s g => s.put g (x g) i j).held = s.held :=
  Dev.held_each _ _ fun _ _ => Dev.held_put ..

theorem Dev.bare_resetFlds (s : Dev) (l : List Fld) (bank i j : Nat) : (s.resetFlds l bank i j).bare = s.bare := by
  induction l generalizing s with
  | nil => rfl
  | cons F l ih => exact (ih _).trans (Dev.bare_setRegs ..)

theorem Dev.held_resetFlds (l : List Fld) (bank i j : Nat) : (s.resetFlds l bank i j).held = s.held := Dev.held_of_bare (Dev.bare_resetFlds ..)

theorem Dev.held_resets (s : Dev) (l : List Reg) (i : Nat) : (s.each l fun s R => s.resetFlds R.flds 0 i 0).held = s.held :=
  Dev.held_each _ _ fun _ _ => Dev.held_resetFlds ..

/-! ### Requests that retire -/

theorem Dev.held_finish (r : Nat) (d : Desc) (st : Status) (ep : Nat) (l : List Byte) : (s.finish r d st ep l).held = s.held :=
  (s.grows_finish (own := [.hostq]) (by decide) r d st ep l).held (by decide) (by decide) (by decide)

theorem Dev.held_finishAt (r i : Nat) (st : Status) (ep : Nat) (l : List Byte) : (s.finishAt r i st ep l).held = s.held :=
  (s.grows_finishAt (own := [.hostq]) (by decide) r i st ep l).held (by decide) (by decide) (by decide)

theorem Dev.held_mmioError (st : Status) (fn bar off : Nat) (wr : Bool) : (s.mmioError st fn bar off wr).held = s.held :=
  (s.grows_mmioError (own := [.hostq]) (by decide) st fn bar off wr).held (by decide) (by decide) (by decide)

theorem Dev.held_retireSq (r : Nat) : (s.retireSq r).held = s.held :=
  (Dev.held_retired ..).trans (Dev.held_each s (s.sqOpen r) fun _ _ => Dev.held_finish ..)

theorem Dev.held_retirePosted (n : Nat) (s : Dev) (r : Nat) : (Dev.retirePosted n s r).held = s.held := by
  induction n generalizing s with
  | zero => rfl
  | succ n ih =>
    unfold Dev.retirePosted
    refine Dev.held_ite _ rfl ((ih _).trans ((Dev.held_retired ..).trans ?_))
    exact (Dev.held_put F.HOSTQ_SQ_STAT_HEAD ((s.f F.HOSTQ_SQ_STAT_HEAD r + 1) % s.sqSize r) r 0 :)

theorem Dev.held_retireRx (b : Blk) (kind ep : Nat) : (s.retireRx b kind ep).held = s.held := by
  unfold Dev.retireRx
  split
  · rfl
  · exact (Dev.held_retired ..).trans (Dev.held_each s (s.rxWait kind) fun _ _ => Dev.held_finish ..)

theorem Dev.held_rrComplete (q : RrReq) (st : Status) (ep x : Nat) : (s.rrComplete q st ep x).held = s.held := by
  unfold Dev.rrComplete
  split
  · split
    · exact Dev.held_finish ..
    · rfl
  · exact Dev.held_ite _ rfl rfl

theorem Dev.held_rrRetire (s0 : Dev) : (Dev.rrRetire s0 s).held = s.held :=
  Dev.held_each _ _ fun v q => (Dev.held_rrComplete ..).trans ((Dev.held_retired ..).trans (rfl : (v.rrDrop q).held = v.held))

theorem Dev.held_queueReply (L : Nat) (p : List Byte) (t : Nat) : (s.queueReply L p t).held = s.held := Dev.held_ite _ rfl rfl

theorem Dev.held_fwdRetire : s.fwdRetire.held = s.held :=
  Dev.held_each _ _ fun v x => (Dev.held_queueReply ..).trans (Dev.held_retired ..)

theorem Dev.held_swapDone (st : Status) : (s.swapDone st).held = s.held := by
  unfold Dev.swapDone
  split
  · rfl
  · dsimp only
    split
    · exact (Dev.held_finishAt ..).trans ((Dev.held_raise ..).trans ((Dev.held_put ..).trans (Dev.held_put ..)))
    · exact (Dev.held_raise ..).trans ((Dev.held_put ..).trans (Dev.held_put ..))

theorem Dev.held_swapRetire : s.swapRetire.held = s.held := (Dev.held_retired ..).trans (Dev.held_swapDone _)

/-! ### The blocks' own resets -/

theorem Dev.held_tollReset : s.tollReset.held = s.held := (Dev.held_wipe .tollgate fun k => keySet .tollgate k || keyEpoch k :)

theorem Dev.held_hostqReset : s.hostqReset.held = s.held := by
  refine (Dev.held_resets ..).trans ((Dev.held_each _ _ fun _ _ => Dev.held_put ..).trans (Dev.held_each _ _ fun v r => ?_))
  exact (Dev.held_iff _ _ fun _ => (Dev.held_put ..).trans (Dev.held_put ..)).trans ((Dev.held_retirePosted ..).trans (Dev.held_retireSq r))

theorem Dev.held_putBytesAt (G : Fld) (n : Nat) (l : List Byte) : (s.putBytesAt G n l).held = s.held := Dev.held_of_bare (Dev.bare_putBytesAt ..)

theorem Dev.held_quoteEnd (q : SecReq) (st : Status) : (s.quoteEnd q st).held = s.held := by
  unfold Dev.quoteEnd
  split
  · refine (Dev.held_iff (s.put F.SECURE_STAT_QSTATUS st.code) _ fun v => ?_).trans (Dev.held_put ..)
    exact (Dev.held_raise ..).trans ((Dev.held_put ..).trans ((Dev.held_put ..).trans (Dev.held_putBytesAt ..)))
  · split
    · rfl
    · exact Dev.held_ite _ (Dev.held_finish ..) (Dev.held_finish ..)

theorem Dev.held_engine : s.engine.held = s.held := by
  unfold Dev.engine
  extract_lets v
  have hv : v.held = s.held := Dev.held_put ..
  split
  · exact hv
  · exact Dev.held_ite _ hv hv

theorem Dev.held_newChal : s.newChal.held = s.held := by
  have h : s.Keeps [.secure] s.out s.newChal := (Dev.keeps_refl _ s).newChal (by decide)
  rw [Dev.held, h.role_eq, h.time_eq (by decide), h.glob_eq (by decide), Dev.slots_newChal]
  rfl

theorem Dev.held_secReset : s.secReset.held = s.held := by
  unfold Dev.secReset
  extract_lets l g s1 s2 s3 s4 s5
  have h2 : s2.held = s.held := (Dev.held_put ..).trans ((Dev.held_put ..).trans ((Dev.held_put ..).trans (rfl : s1.held = s.held)))
  have h3 : s3.held = s2.held := (Dev.held_putBytesAt ..).trans ((Dev.held_putBytesAt ..).trans (Dev.held_putBytesAt ..))
  have h4 : s4.held = s3.held := (Dev.held_put ..).trans ((Dev.held_put ..).trans (Dev.held_put ..))
  have h5 : s5.held = s4.held := (Dev.held_retired ..).trans (Dev.held_each _ _ fun _ _ => Dev.held_quoteEnd ..)
  rw [Dev.held_newChal, Dev.held_engine, h5, h4, h3, h2]

theorem Dev.held_timeReset : s.timeReset.held = s.held := by
  unfold Dev.timeReset
  simp only [Dev.held_put]

theorem Dev.held_ethDone (p : Nat) (fr : EthFrame) (st : Status) : (s.ethDone p fr st).held = s.held := by
  unfold Dev.ethDone
  split
  · rfl
  · split
    · rfl
    · exact (Dev.held_finish .. :)

theorem Dev.held_ethRetire (p : Nat) : (s.ethRetire p).held = s.held :=
  Dev.held_each _ _ fun v q => (Dev.held_retired ..).trans
    ((Dev.held_each (v.setEthQ p q []) (v.ethQ p q) fun _ _ => (Dev.held_ethDone ..).trans (Dev.held_inc ..)).trans (rfl : (v.setEthQ p q []).held = v.held))

theorem Dev.held_linkDown (p : Nat) : (s.linkDown p).held = s.held :=
  Dev.held_ite _ rfl ((Dev.held_incW ..).trans ((Dev.held_ethRetire _).trans ((Dev.held_raise ..).trans (Dev.held_put ..))))

theorem Dev.held_ethStop (p : Nat) : (s.ethStop p).held = s.held := (Dev.held_linkDown _).trans ((Dev.held_retireRx ..).trans (Dev.held_ethRetire _))

theorem Dev.held_ethReset : s.ethReset.held = s.held := by
  unfold Dev.ethReset
  extract_lets s1 s2 g s3 s4 s5 s6
  have h1 : s1.held = s.held := Dev.held_each _ _ fun _ _ => Dev.held_ethStop _
  have h2 : s2.held = s1.held := (Dev.held_put ..).trans (Dev.held_inc ..)
  clear_value s2
  have h3 : s3.held = s2.held := rfl
  have h4 : s4.held = s3.held := Dev.held_each _ _ fun v p => (Dev.held_puts ..).trans (Dev.held_put ..)
  have h5 : s5.held = s4.held := Dev.held_each _ _ fun v k => (Dev.held_puts ..).trans (Dev.held_puts ..)
  have h6 : s6.held = s5.held := Dev.held_puts ..
  rw [Dev.held_put, Dev.held_put, h6, h5, h4, h3, h2, h1]

theorem Dev.held_laneOff (L : Nat) : (s.laneOff L).held = s.held := by
  have h := ((⟨Dev.keeps_refl _ s, rfl, fun _ _ => ⟨rfl, rfl⟩⟩ : s.OnLane L s.out s).leaveRun.attempt lDisabled LaneSt.fresh).keeps.held (by decide) (by decide) (by decide)
  exact (Dev.held_put ..).trans h

theorem Dev.held_laneOn (L : Nat) : (s.laneOn L).held = s.held := ((Dev.keeps_refl [.trunk] s).laneOn (by decide) L).held (by decide) (by decide) (by decide)

theorem Dev.held_lanesReset (b : Blk) : (s.lanesReset b).held = s.held := by
  unfold Dev.lanesReset
  extract_lets s0 s1 s2 s3
  have h1 : s1.held = s.held := (Dev.held_rrRetire _).trans (Dev.held_each _ _ fun _ _ => Dev.held_laneOff _)
  have h2 : s2.held = s1.held := Dev.held_iff _ _ fun _ => Dev.held_fwdRetire
  have h3 : s3.held = s2.held := Dev.held_wipe ..
  exact (Dev.held_each _ _ fun _ _ => Dev.held_iff _ _ fun _ => Dev.held_laneOn _).trans (h3.trans (h2.trans h1))

theorem Dev.held_loomLoaded (set : Nat) : (s.loomLoaded set).held = s.held := by
  unfold Dev.loomLoaded
  extract_lets s1
  exact (Dev.held_put ..).trans (Dev.held_each _ _ fun _ _ => (Dev.held_put ..).trans (Dev.held_put ..))

theorem Dev.held_loomReset : s.loomReset.held = s.held := (Dev.held_loomLoaded _ :)

theorem Dev.held_latRecord : s.latRecord.held = s.held :=
  Dev.held_each _ _ fun v c => (Dev.held_befall ..).trans (Dev.held_put ..)

theorem Dev.held_abandonArm (n a : Nat) : (s.abandonArm n a).held = s.held :=
  Dev.held_latRecord.trans ((Dev.held_inc ..).trans (Dev.held_raise ..))

theorem Dev.held_spReqDone (q : SpReq) (st : Status) : (s.spReqDone q st).held = s.held := by
  unfold Dev.spReqDone
  extract_lets s1
  have h1 : s1.held = s.held := Dev.held_iff _ _ fun _ => Dev.held_retired ..
  split
  · exact (Dev.held_finishAt ..).trans h1
  · exact (Dev.held_iff _ _ fun _ => Dev.held_mmioError ..).trans h1
  · exact h1

theorem Dev.held_spReset : s.spReset.held = s.held := by
  unfold Dev.spReset
  extract_lets l s1 g s2 s3 s4
  have h1 : s1.held = s.held := Dev.held_each _ _ fun _ _ => Dev.held_each _ _ fun _ _ => Dev.held_abandonArm ..
  clear_value s1
  have h2 : s2.held = s1.held := rfl
  have h3 : s3.held = s2.held := Dev.held_each _ _ fun _ _ => Dev.held_spReqDone ..
  have h4 : s4.held = s3.held := Dev.held_resets ..
  exact (Dev.held_each _ _ fun v a => (Dev.held_put ..).trans ((Dev.held_put ..).trans (Dev.held_resets ..))).trans (h4.trans (h3.trans (h2.trans h1)))

theorem Dev.held_blockAction (c : Nat) : (s.blockAction c).held = s.held :=
  ((Dev.keeps_refl [.gate] s).blockAction (by decide) c).held (by decide) (by decide) (by decide)

theorem Dev.held_gateRegsReset : s.gateRegsReset.held = s.held :=
  (Dev.held_each _ _ fun _ _ => Dev.held_put ..).trans ((Dev.held_each _ _ fun _ _ => Dev.held_put ..).trans (Dev.held_of_bare (Dev.bare_setRegs ..)))

theorem Dev.held_clrCause (c : Nat) : (s.clrCause c).held = s.held := Dev.held_befall ..

theorem Dev.held_gateReset : s.gateReset.held = s.held := by
  unfold Dev.gateReset
  extract_lets s1 g s2 kept pair s3 s4
  have h1 : s1.held = s.held := Dev.held_blockAction _
  clear_value s1
  have h2 : s2.held = s1.held := rfl
  have h3 : s3.held = s2.held := (Dev.held_each _ _ fun _ _ => Dev.held_put ..).trans Dev.held_gateRegsReset
  have h4 : s4.held = s3.held := Dev.held_each _ _ fun _ _ => (Dev.held_of_bare (Dev.bare_setRegs ..)).trans (Dev.held_put ..)
  exact (Dev.held_iff _ _ fun _ => Dev.held_clrCause _).trans (h4.trans (h3.trans (h2.trans h1)))

theorem Dev.held_adcReset : s.adcReset.held = s.held := by
  unfold Dev.adcReset
  extract_lets m t s1 g s2 c s3
  have h1 : s1.held = s.held := Dev.held_each _ _ fun _ _ => Dev.held_put ..
  have h2 : s2.held = s1.held := Dev.held_put ..
  have h3 : s3.held = s2.held := Dev.held_each _ _ fun v c => (Dev.held_put ..).trans ((Dev.held_put ..).trans (Dev.held_put ..))
  rw [Dev.held_put, Dev.held_put, Dev.held_put, h3, h2, h1]

theorem Dev.held_wmkLook (x w : Nat) : (s.wmkLook x w).held = s.held := rfl

theorem Dev.held_angValidate (i : Nat) : (s.angValidate i).held = s.held :=
  (Dev.held_iff _ _ fun _ => Dev.held_each _ _ fun _ _ => Dev.held_wmkLook ..).trans (Dev.held_put ..)

theorem Dev.held_angRestart (i : Nat) : (s.angRestart i).held = s.held := by
  unfold Dev.angRestart
  extract_lets t a g s1
  have h1 : s1.held = s.held := (Dev.held_angValidate i).trans (Dev.held_put ..)
  exact (Dev.held_each _ _ fun _ _ => Dev.held_wmkLook ..).trans h1

theorem Dev.held_angReset : s.angReset.held = s.held := by
  unfold Dev.angReset
  extract_lets s1 s2
  have h1 : s1.held = s.held := Dev.held_each _ _ fun v w => (Dev.held_put ..).trans ((Dev.held_put ..).trans ((Dev.held_put ..).trans (Dev.held_put ..)))
  have h2 : s2.held = s1.held := Dev.held_each _ _ fun v p => (Dev.held_put ..).trans ((Dev.held_put ..).trans ((Dev.held_put ..).trans (Dev.held_put ..)))
  exact (Dev.held_each _ _ fun v i => (Dev.held_angRestart i).trans ((Dev.held_put ..).trans ((Dev.held_put ..).trans (Dev.held_puts ..)))).trans (h2.trans h1)

theorem Dev.held_reelNotice (set i : Nat) (cut : Bool) (st : Status) : (s.reelNotice set i cut st).held = s.held :=
  (Dev.grows_postNotice ..).held (by decide) (by decide) (by decide)

theorem Dev.held_reelReset : s.reelReset.held = s.held := by
  unfold Dev.reelReset
  extract_lets f s1 s2
  have h1 : s1.held = s.held := Dev.held_each _ _ fun v i => by
    extract_lets v1 v2 v3 v4
    have k1 : v1.held = v.held := Dev.held_iff _ _ fun _ => Dev.held_reelNotice ..
    have k2 : v2.held = v1.held := Dev.held_put ..
    have k4 : v4.held = v3.held := (Dev.held_puts ..).trans (Dev.held_puts ..)
    exact (Dev.held_put ..).trans (k4.trans (k2.trans k1))
  have h2 : s2.held = s1.held := Dev.held_puts ..
  clear_value s2
  exact Eq.trans (b := s2.held) rfl (h2.trans h1)

theorem Dev.held_canDone (c : Nat) (x : CanTx) (st : Status) (o : Nat) (t : Int) : (s.canDone c x st o t).held = s.held := by
  unfold Dev.canDone
  split
  · exact (Dev.held_put ..).trans ((Dev.held_put ..).trans (Dev.held_put ..))
  · split
    · rfl
    · exact (Dev.held_finish .. :)

theorem Dev.held_setCan (c : Nat) (x : CanCtl) : (s.setCan c x).held = s.held := Dev.held_put ..

theorem Dev.held_canRetire (c : Nat) : (s.canRetire c).held = s.held := by
  unfold Dev.canRetire
  extract_lets l g s1 s2
  have h1 : s1.held = s.held := (Dev.held_retired ..).trans ((Dev.held_each _ _ fun _ _ => Dev.held_canDone ..).trans (Dev.held_setCan ..))
  have h2 : s2.held = s1.held := Dev.held_iff _ _ fun _ => Dev.held_retireRx ..
  exact (Dev.held_incW ..).trans (h2.trans h1)

theorem Dev.held_canReset : s.canReset.held = s.held :=
  Dev.held_each _ _ fun v c => by
    extract_lets s1 g s2 s3 s4 s5 s6 s7
    have h1 : s1.held = v.held := Dev.held_canRetire c
    have h2 : s2.held = s1.held := Dev.held_setCan ..
    have h3 : s3.held = s2.held := (Dev.held_puts ..).trans (Dev.held_puts ..)
    have h4 : s4.held = s3.held := (Dev.held_put ..).trans (Dev.held_put ..)
    have h5 : s5.held = s4.held := (Dev.held_put ..).trans ((Dev.held_put ..).trans (Dev.held_put ..))
    have h6 : s6.held = s5.held := Dev.held_resets ..
    have h7 : s7.held = s6.held := Dev.held_each _ _ fun _ _ => (Dev.held_put ..).trans (Dev.held_put ..)
    rw [Dev.held_put, h7, h6, h5, h4, h3, h2, h1]

theorem Dev.held_safeRefresh (was : Dev) : (Dev.safeRefresh was s).held = s.held := (Dev.safeRefresh_leaves ..).keeps.held (by decide) (by decide) (by decide)

theorem Dev.held_setOrphan (on : Bool) : (s.setOrphan on).held = s.held := (Dev.held_safeRefresh _).trans (Dev.held_put ..)

theorem Dev.held_safetyReset : s.safetyReset.held = s.held := by
  unfold Dev.safetyReset
  extract_lets s1 s2 s3 s4 s5 s6 s7
  have h1 : s1.held = s.held := Dev.held_each _ _ fun v i => Dev.held_each _ _ fun w y => (by cases y <;> rfl)
  have h2 : s2.held = s1.held := (Dev.held_put ..).trans ((Dev.held_put ..).trans (Dev.held_put ..))
  have h3 : s3.held = s2.held := (Dev.held_put ..).trans ((Dev.held_put ..).trans (Dev.held_put ..))
  have h4 : s4.held = s3.held := Dev.held_puts ..
  have h5 : s5.held = s4.held := Dev.held_each _ _ fun v j => (Dev.held_put ..).trans ((Dev.held_put ..).trans (Dev.held_put ..))
  have h6 : s6.held = s5.held := Dev.held_put ..
  clear_value s6
  exact (Dev.held_safeRefresh _).trans (Eq.trans (b := s6.held) rfl (h6.trans (h5.trans (h4.trans (h3.trans (h2.trans h1))))))

theorem Dev.held_pairReset : s.pairReset.held = s.held := (Dev.held_setOrphan _).trans ((Dev.held_put ..).trans (Dev.held_put ..))

theorem Dev.held_dbgReset : s.dbgReset.held = s.held := (Dev.held_put ..).trans (Dev.held_put ..)

/-- The reset of a block leaves the role, the time, the straps, the OTP and the resets in progress. -/
theorem Dev.held_blkReset (b : Blk) : (s.blkReset b).held = s.held := by
  cases b
  case global => rfl
  case tollgate => exact Dev.held_tollReset
  case hostq => exact Dev.held_hostqReset
  case secure => exact Dev.held_secReset
  case time => exact Dev.held_timeReset
  case eth => exact Dev.held_ethReset
  case trunk => exact Dev.held_lanesReset _
  case leaf => exact Dev.held_lanesReset _
  case loom => exact Dev.held_loomReset
  case spindle => exact Dev.held_spReset
  case gate => exact Dev.held_gateReset
  case adc => exact Dev.held_adcReset
  case angle => exact Dev.held_angReset
  case reel => exact Dev.held_reelReset
  case can => exact Dev.held_canReset
  case safety => exact Dev.held_safetyReset
  case pair => exact Dev.held_pairReset
  case debug => exact Dev.held_dbgReset

end

end Sys2Proof.Machine
end

section
/-! The warm reset and the block resets (R56, R57, R362, R437, R439 to R442). -/

namespace Sys2Proof.Machine

section
variable {s u : Dev} {own : List Blk} {outs : List Out}

/-! ### The sources of a warm reset -/

theorem Dev.askWarm_first {k : Nat} (hp : s.glob.por = false) (hr : s.role ≠ .none) (hd : s.gate.dormant = false) (hw : s.glob.warm = none) :
    s.askWarm k = { s with glob := { s.glob with warm := some k } } := by
  refine if_neg fun hx => ?_
  rw [hp, hd, hw] at hx
  simp [hr] at hx

theorem Dev.wdogExpiry_halted (h : s.f F.DEBUG_STAT_HALTED ≠ 0) : s.wdogExpiry = s := if_pos (decide_eq_true h)

theorem Dev.wdogExpiry_runs (h : s.f F.DEBUG_STAT_HALTED = 0) (hp : s.glob.por = false) (hr : s.role ≠ .none) (hd : s.gate.dormant = false) (hw : s.glob.warm = none) :
    s.wdogExpiry = { s with
      glob := { s.glob with warm := some 8 }
      pair := if s.role = .manager then { s.pair with crit := putBit s.pair.crit 4 true } else s.pair } := by
  refine (if_neg (Bool.eq_false_iff.mp (Dev.flag_off h))).trans ?_
  by_cases hm : s.role = .manager
  · rw [Dev.iff, if_pos (decide_eq_true hm), if_pos hm]
    exact Dev.askWarm_first (s := s.raiseCrit 4) hp hr hd hw
  · rw [Dev.iff, if_neg (by simpa using hm), if_neg hm]
    exact Dev.askWarm_first hp hr hd hw

/-! ### The effect of a warm reset in a CONCENTRATOR -/

theorem Dev.held_globWarm : s.globWarm.held = (s.role, s.time.frc, s.time.bT, s.glob.straps, s.sec.slots, [], none) := by
  unfold Dev.globWarm
  extract_lets act off s1 g at_ c s2
  have h1 : s1.held = s.held := Dev.held_wipe ..
  clear_value s1
  have h2 : s2.held = (s1.role, s1.time.frc, s1.time.bT, s1.glob.straps, s1.sec.slots, [], none) := rfl
  have hu : ((s2.put F.GLOBAL_CFG_STAT_ACTIVE act).put F.GLOBAL_CYCLE_CNT_CYCLE (if s2.role = .manager then s2.now / 1000 else 0)).pwrReady.held = s2.held :=
    (Dev.held_put ..).trans ((Dev.held_put ..).trans (Dev.held_put ..))
  rw [hu, h2]
  simp only [Dev.held, Prod.mk.injEq] at h1
  obtain ⟨a, b, c, d, e, -⟩ := h1
  rw [a, b, c, d, e]

theorem Dev.held_blkWarm {b : Blk} (h : b ≠ .global) : (s.blkWarm b).held = s.held := by
  cases b
  case global => exact absurd rfl h
  case tollgate => exact Dev.held_ite _ rfl rfl
  case secure => exact Dev.held_wipe ..
  all_goals rfl

/-- What a warm reset does before its cause is noted. -/
def Dev.warmStages (s : Dev) : Dev :=
  let s := s.iff s.glob.swap.isSome Dev.swapRetire
  let l := allBlks.filter (blkOn s.role)
  let s := s.each (l.filter fun b => decide (b ≠ .gate)) Dev.blkReset
  let s := s.iff (decide (s.role = .cell)) Dev.cellWarm
  let s := (s.each l fun s b => ((s.put (retireFld b) 0).put (staleFld b) 0).epochStep b).each l Dev.blkWarm
  let s := s.iff (decide (s.role = .cell)) Dev.calAll
  s.newChal.put F.TIME_STAT_STEP_AVAIL 1

theorem Dev.warmNow_cause {k : Nat} {x : Fld} (h : (F.regGlobalRstCause.flds.find? fun x => decide (x.lo = k)) = some x) : s.warmNow k = s.warmStages.raise x := by
  unfold Dev.warmNow
  rw [h]
  rfl

/-- The blocks of a CONCENTRATOR beside GLOBAL. -/
def concentratorBlks : List Blk := [.tollgate, .secure, .time, .trunk, .leaf, .adc, .can, .debug]

theorem Dev.blkWarm_global : s.blkWarm .global = s.globWarm := rfl

theorem Dev.held_restWarm : (s.each concentratorBlks Dev.blkWarm).held = s.held :=
  have hne : ∀ b ∈ concentratorBlks, b ≠ .global := by decide
  Dev.each_inv (fun v => v.held = s.held) _ _ (fun _ b hb hv => (Dev.held_blkWarm (hne b hb)).trans hv) _ rfl

theorem Dev.each_cons {α : Type} (a : α) (l : List α) (g : Dev → α → Dev) : s.each (a :: l) g = (g s a).each l g := rfl

theorem Dev.held_blksWarm : (s.each (.global :: concentratorBlks) Dev.blkWarm).held = (s.role, s.time.frc, s.time.bT, s.glob.straps, s.sec.slots, [], none) := by
  rw [Dev.each_cons, Dev.held_restWarm, Dev.blkWarm_global, Dev.held_globWarm]

/-- The counts of what was refused, cleared, and the next epoch of each block. -/
def Dev.nextEpochs (s : Dev) (l : List Blk) : Dev := s.each l fun s b => ((s.put (retireFld b) 0).put (staleFld b) 0).epochStep b

theorem Dev.held_nextEpochs (l : List Blk) : (s.nextEpochs l).held = s.held :=
  Dev.held_each _ _ fun _ _ => (Dev.held_incW ..).trans ((Dev.held_put ..).trans (Dev.held_put ..))

/-- What of this a warm reset leaves. -/
def Dev.warmHeld (s : Dev) : Role × Nat × Int × Straps × Tab (List Byte) × List Nat × Option Nat := (s.role, s.time.frc, s.time.bT, s.glob.straps, s.sec.slots, [], none)

theorem Dev.warmHeld_of (h : u.held = s.held) : u.warmHeld = s.warmHeld := by
  simp only [Dev.held, Prod.mk.injEq] at h
  obtain ⟨a, b, c, d, e, -⟩ := h
  rw [Dev.warmHeld, a, b, c, d, e]
  rfl

theorem Dev.held_blks {l : List Blk} (hl : l = .global :: concentratorBlks) : ((s.nextEpochs l).each l Dev.blkWarm).held = s.warmHeld := by
  rw [hl]
  exact Dev.held_blksWarm.trans (Dev.warmHeld_of (Dev.held_nextEpochs _))

theorem Dev.iff_not (c : Bool) (g : Dev → Dev) (h : c = false) : (s.iff c g) = s := by
  rw [h]
  rfl

theorem Dev.held_warmStages (hr : s.role = .concentrator) : s.warmStages.held = s.warmHeld := by
  have hcell : ∀ (v : Dev) (g : Dev → Dev), v.role = .concentrator → (v.iff (decide (v.role = .cell)) g) = v := fun v g hv => Dev.iff_not _ _ (by rw [hv]; rfl)
  have h1 : (s.iff s.glob.swap.isSome Dev.swapRetire).held = s.held := Dev.held_iff _ _ fun _ => Dev.held_swapRetire
  unfold Dev.warmStages
  generalize s.iff s.glob.swap.isSome Dev.swapRetire = v1 at h1
  have hr1 : v1.role = .concentrator := (congrArg Prod.fst h1).trans hr
  have hl : allBlks.filter (blkOn v1.role) = .global :: concentratorBlks := by
    rw [hr1]
    rfl
  dsimp only
  generalize allBlks.filter (blkOn v1.role) = l at hl
  have h2 : (v1.each (l.filter fun b => decide (b ≠ .gate)) Dev.blkReset).held = v1.held := Dev.held_each _ _ fun _ _ => Dev.held_blkReset _
  generalize v1.each (l.filter fun b => decide (b ≠ .gate)) Dev.blkReset = v2 at h2
  have hr2 : v2.role = .concentrator := (congrArg Prod.fst h2).trans hr1
  rw [hcell v2 _ hr2]
  have h4 : ((v2.nextEpochs l).each l Dev.blkWarm).held = s.warmHeld := (Dev.held_blks hl).trans ((Dev.warmHeld_of h2).trans (Dev.warmHeld_of h1))
  unfold Dev.nextEpochs at h4
  generalize (v2.each l fun s b => ((s.put (retireFld b) 0).put (staleFld b) 0).epochStep b).each l Dev.blkWarm = v4 at h4
  rw [hcell v4 _ ((congrArg Prod.fst h4).trans hr), Dev.held_put, Dev.held_newChal, h4]

theorem Dev.warmReset_spec {k : Nat} (hr : s.role = .concentrator) (hw : s.glob.warm = some k) (hk : k = 6 ∨ k = 7 ∨ k = 8) : let u := s.warmReset
    u.role = .concentrator ∧ u.glob.warm = none ∧ u.glob.straps = s.glob.straps ∧ u.time.frc = s.time.frc ∧ u.sec.slots = s.sec.slots ∧
      (k = 6 → u.f F.GLOBAL_RST_CAUSE_WRST = 1) ∧ (k = 7 → u.f F.GLOBAL_RST_CAUSE_HOST = 1) ∧ (k = 8 → u.f F.GLOBAL_RST_CAUSE_WDOG = 1) := by
  have hu : s.warmReset = s.warmNow (k % 16) := by
    unfold Dev.warmReset
    rw [hw]
    dsimp only
    rw [hr]
    rfl
  have hs := Dev.held_warmStages hr
  rw [hu]
  have hcause : ∀ x, (F.regGlobalRstCause.flds.find? fun x => decide (x.lo = k % 16)) = some x → let u := s.warmNow (k % 16)
      u.role = .concentrator ∧ u.glob.warm = none ∧ u.glob.straps = s.glob.straps ∧ u.time.frc = s.time.frc ∧ u.sec.slots = s.sec.slots ∧ u.f x = 1 % 2 ^ x.w := fun x hx => by
    rw [Dev.warmNow_cause hx]
    have h := (Dev.held_raise (s := s.warmStages) x 0 0).trans hs
    simp only [Dev.held, Dev.warmHeld, Prod.mk.injEq] at h
    obtain ⟨a, b, c, d, e, f, g⟩ := h
    exact ⟨a.trans hr, g, d, b, e, Dev.f_raise_same ..⟩
  rcases hk with rfl | rfl | rfl
  · obtain ⟨a, b, c, d, e, f⟩ := hcause F.GLOBAL_RST_CAUSE_WRST rfl
    exact ⟨a, b, c, d, e, fun _ => f, fun h => absurd h (by decide), fun h => absurd h (by decide)⟩
  · obtain ⟨a, b, c, d, e, f⟩ := hcause F.GLOBAL_RST_CAUSE_HOST rfl
    exact ⟨a, b, c, d, e, fun h => absurd h (by decide), fun _ => f, fun h => absurd h (by decide)⟩
  · obtain ⟨a, b, c, d, e, f⟩ := hcause F.GLOBAL_RST_CAUSE_WDOG rfl
    exact ⟨a, b, c, d, e, fun h => absurd h (by decide), fun h => absurd h (by decide), fun _ => f⟩

/-! ### Block resets -/

theorem Dev.blkRst_idle (num : Nat) : s.blkRst false num = (.ok, s) := if_pos (by decide)

theorem Dev.blkRst_unknown {num : Nat} (h : Blk.ofNum num = none ∨ num = 0) : s.blkRst true num = s.deny .invalid := by
  refine (if_neg (by decide)).trans ?_
  rcases h with h | rfl
  · rw [h]
  · exact if_pos (.inl rfl)

theorem Dev.blkRst_starts {num : Nat} {b : Blk} (h : Blk.ofNum num = some b) (hb : b ≠ .global) (ho : blkOn s.role b = true) (hr : s.role ≠ .none) (hg : s.blkGated b = false)
    (hp : b = .pair → s.f F.PAIR_STAT_STATE ≠ 2) (hn : s.glob.blkRst.contains num = false) (hw : s.glob.swap = none) :
    s.blkRst true num = (.ok, ((({ s with glob := { s.glob with blkRst := s.glob.blkRst ++ [num], rstAt := Tab.put s.glob.rstAt num s.fifths } } : Dev).put
      F.GLOBAL_BLK_STAT_BUSY 1).put F.GLOBAL_BLK_STAT_BLOCK num).put F.GLOBAL_BLK_STAT_RETIRED 0) := by
  have hbad : ¬ (b = .global ∨ ¬ blkOn s.role b ∨ s.role = .none ∨ s.blkGated b) := by
    rw [ho, hg]
    simp [hb, hr]
  have hact : ¬ (b = .pair ∧ s.unitActive) := fun hx => hp hx.1 (of_decide_eq_true hx.2)
  have hswap : (s.iff (swapBlks.contains b && s.glob.swap.isSome) Dev.swapRetire) = s := Dev.iff_not _ _ (by rw [hw]; simp)
  unfold Dev.blkRst
  rw [if_neg (by decide), h]
  dsimp only
  rw [if_neg hbad, if_neg hact, if_neg (Bool.eq_false_iff.mp hn), hswap]

theorem Dev.coreTo_withTime (s : Dev) (n : Nat) : ∃ x, s.coreTo n = { s with time := x } := by
  unfold Dev.coreTo
  split
  · exact ⟨_, rfl⟩
  · obtain ⟨x, hx⟩ := s.toTick_withTime
    dsimp only
    rw [hx]
    split <;> exact ⟨_, rfl⟩

theorem Dev.blockResetDone_other {num : Nat} (h : s.glob.blkRst.contains num = false) : s.blockResetDone num = s := by
  unfold Dev.blockResetDone
  split
  · rfl
  · exact if_pos (Bool.eq_false_iff.mp h)

/-- A block after its reset, before that shows in `BLK_STAT`. -/
def Dev.afterReset (t : Dev) (b : Blk) (n num : Nat) : Dev :=
  let u := (t.inc F.GLOBAL_BLK_STAT_RETIRED n).blkReset b
  { u with glob := { u.glob with blkRst := u.glob.blkRst.filter fun k => decide (k ≠ num) } }

/-- How the end of a reset shows. -/
def Dev.showReset (u : Dev) (b : Blk) : Dev :=
  ((((u.epochStep b).raise F.GLOBAL_BLK_STAT_DONE).put F.GLOBAL_BLK_STAT_BUSY (b2n (decide (u.glob.blkRst ≠ [])))).iff (decide (b = .time)) fun s => s.put F.TIME_STAT_STEP_AVAIL 1)

theorem Dev.blockResetDone_eq {num : Nat} {b : Blk} (h : Blk.ofNum num = some b) (hn : num ∈ s.glob.blkRst) :
    s.blockResetDone num = ((s.coreTo (Tab.get 0 s.glob.rstAt num + s.resetTime (s.pendingAt b))).afterReset b (s.pendingAt b) num).showReset b := by
  unfold Dev.blockResetDone
  rw [h]
  exact if_neg (not_not_intro (List.contains_iff_mem.mpr hn))

theorem Dev.held_showReset (b : Blk) : (u.showReset b).held = u.held :=
  (Dev.held_iff _ _ fun _ => Dev.held_put ..).trans ((Dev.held_put ..).trans ((Dev.held_raise ..).trans (Dev.held_incW ..)))

theorem Dev.showReset_time : (u.showReset .time).f F.TIME_STAT_STEP_AVAIL = 1 := Dev.f_put_same ..

theorem Dev.f_showReset {G : Fld} (b : Blk) (h : ∀ E ∈ [F.GLOBAL_BLK_STAT_BUSY, F.TIME_STAT_STEP_AVAIL], G.apart E = true) (i j : Nat) :
    (u.showReset b).f G i j = ((u.epochStep b).raise F.GLOBAL_BLK_STAT_DONE).f G i j :=
  (Dev.iff_keeps _ (fun v => v.f G i j) _ _ fun _ => Dev.f_put_apart _ _ _ _ _ _ (h F.TIME_STAT_STEP_AVAIL (by decide))).trans
    (Dev.f_put_apart _ _ _ _ _ _ (h F.GLOBAL_BLK_STAT_BUSY (by decide)))

theorem Dev.afterReset_spec (t : Dev) (b : Blk) (n num : Nat) : let u := t.afterReset b n num
    u.role = t.role ∧ u.time.frc = t.time.frc ∧ u.time.bT = t.time.bT ∧ u.glob.blkRst = t.glob.blkRst.filter fun k => decide (k ≠ num) := by
  have h : ((t.inc F.GLOBAL_BLK_STAT_RETIRED n).blkReset b).held = t.held := (Dev.held_blkReset b).trans (Dev.held_inc ..)
  simp only [Dev.held, Prod.mk.injEq] at h
  obtain ⟨hr, hf, hb, -, -, hl, -⟩ := h
  exact ⟨hr, hf, hb, congrArg (List.filter fun k => decide (k ≠ num)) hl⟩

/-- The debug block after its reset. -/
theorem Dev.afterReset_debug (t : Dev) (n num : Nat) : let u := t.afterReset .debug n num
    u.epoch .debug = t.epoch .debug ∧ u.f F.DEBUG_STAT_HALTED = 0 := by
  have hg : ∀ G : Fld, (t.afterReset .debug n num).f G = ((t.inc F.GLOBAL_BLK_STAT_RETIRED n).dbgReset).f G := fun G =>
    Dev.fb_of_regs rfl (by cases G.blk <;> rfl) ..
  refine ⟨?_, ?_⟩
  · rw [Dev.epoch, hg]
    refine (Dev.f_put_apart _ _ _ _ _ _ (by decide)).trans ((Dev.f_put_apart _ _ _ _ _ _ (by decide)).trans ?_)
    exact (Dev.fb_of_regs (G := epochFld .debug) (s := t) rfl rfl 0 0 0)
  · rw [hg]
    exact (Dev.f_put_apart _ _ _ _ _ _ (by decide)).trans (Dev.f_put_same ..)

theorem Dev.blockResetDone_spec {num : Nat} {b : Blk} (h : Blk.ofNum num = some b) (hn : num ∈ s.glob.blkRst) :
    let t := s.coreTo (Tab.get 0 s.glob.rstAt num + s.resetTime (s.pendingAt b))
    let u := s.blockResetDone num
    u.glob.blkRst = s.glob.blkRst.filter (fun k => decide (k ≠ num)) ∧ u.f F.GLOBAL_BLK_STAT_DONE = 1 ∧ u.role = s.role ∧
      (b = .time → u.time.frc = t.time.frc ∧ u.time.bT = t.time.bT ∧ u.f F.TIME_STAT_STEP_AVAIL = 1) ∧
      (b = .debug → u.epoch .debug = (s.epoch .debug + 1) % 16 ∧ u.f F.DEBUG_STAT_HALTED = 0) := by
  intro t
  have hu : s.blockResetDone num = (t.afterReset b (s.pendingAt b) num).showReset b := Dev.blockResetDone_eq h hn
  rw [hu]
  obtain ⟨x, hx⟩ : ∃ x, t = { s with time := x } := Dev.coreTo_withTime ..
  obtain ⟨hr, hf, hb, hl⟩ := Dev.afterReset_spec t b (s.pendingAt b) num
  have hdbg := Dev.afterReset_debug t (s.pendingAt b) num
  have htr : t.role = s.role := hx ▸ rfl
  have htg : t.glob = s.glob := hx ▸ rfl
  have hte : t.epoch .debug = s.epoch .debug := by
    rw [hx]
    rfl
  generalize s.pendingAt b = n at *
  clear_value t
  have hs : ((t.afterReset b n num).showReset b).held = (t.afterReset b n num).held := Dev.held_showReset b
  simp only [Dev.held, Prod.mk.injEq] at hs
  obtain ⟨sr, sf, sb, -, -, sl, -⟩ := hs
  refine ⟨sl.trans (hl.trans (by rw [htg])), (Dev.f_showReset b (by decide) _ _).trans (Dev.f_raise_same ..), sr.trans (hr.trans htr),
    fun hbt => ⟨sf.trans hf, sb.trans hb, ?_⟩, fun hbd => ?_⟩
  · subst hbt
    exact Dev.showReset_time
  · subst hbd
    refine ⟨?_, ?_⟩
    · refine (Dev.f_showReset _ (by decide) _ _).trans ((Dev.f_raise_apart _ _ _ _ _ (by decide)).trans ((Dev.f_put_same ..).trans ?_))
      exact congrArg (fun e => (e + 1) % 16) (hdbg.1.trans hte)
    · exact (Dev.f_showReset _ (by decide) _ _).trans ((Dev.f_raise_apart _ _ _ _ _ (by decide)).trans ((Dev.f_put_apart _ _ _ _ _ _ (by decide)).trans hdbg.2))
end

/-- Settles O53. -/
theorem warmAndBlockReset : Obligations.WarmAndBlockReset := by
  intro s d up
  refine ⟨fun c k hc hu hw => ?_, fun hu hw hb => ?_, fun key hk hb => ?_, fun hu hw hh => ?_, fun hh => ?_, fun hw => ?_, fun k hw hr hk => ?_, fun hb hr => ⟨fun num => ?_, fun num hn => ?_,
    fun num b h hg ho hgt hp hn hsw => ?_⟩, fun num hn => ?_, fun num b h hn => ?_⟩
  · obtain ⟨rfl, rfl⟩ : c = .wrstN ∧ k = 6 := by simpa using hc
    exact State.runs_wrstN.of_eq (Dev.askWarm_first (s := d) hu.1 hu.2.1 hu.2.2 hw)
  · exact State.runs_warm.of_eq ((Dev.served_gives hb (if_neg (by decide))).trans (congrArg (Dev.complete · .ok) (Dev.askWarm_first (s := d) hu.1 hu.2.1 hu.2.2 hw)))
  · exact State.runs_warm.of_eq (Dev.served_gives hb (if_pos hk))
  · exact State.runs_wdogExpiry.of_eq (Dev.wdogExpiry_runs (s := d) hh hu.1 hu.2.1 hu.2.2 hw)
  · exact State.runs_wdogExpiry.of_eq (Dev.wdogExpiry_halted (s := d) hh)
  · refine State.runs_warmReset.of_eq ?_
    have hd : d.glob.warm = none := hw
    unfold Dev.warmReset
    rw [hd]
  · exact State.runs_warmReset.does (Dev.warmReset_spec (s := d) hr hw hk)
  · exact State.runs_blkRst.of_eq (Dev.served_gives hb (Dev.blkRst_idle (s := d) num))
  · exact State.runs_blkRst.of_eq (Dev.served_gives hb (Dev.blkRst_unknown (s := d) hn))
  · exact State.runs_blkRst.of_eq (Dev.served_gives hb (Dev.blkRst_starts (s := d) h hg ho hr hgt hp hn hsw))
  · exact State.runs_blockResetDone.of_eq (Dev.blockResetDone_other (s := d) hn)
  · exact State.runs_blockResetDone.does (Dev.blockResetDone_spec (s := d) h hn)

end Sys2Proof.Machine
end

section
/-! HALT, RESUME and RESET of the debug block, and the test access port (R443 to R445). -/

namespace Sys2Proof.Machine

section
variable {s : Dev}

/-! ### The debug block -/

/-- A command of the debug block that is taken shows its completion. -/
theorem Dev.dbgCmd_dev {op key : Nat} {st : Status} {u : Dev} (hb : s.blockStatus .debug 0 = .ok) (hr : s.role ≠ .none)
    (h : (if op = 1 then s.begin.dbgHalt else if op = 2 then s.begin.dbgResume else if op = 3 ∧ key = 0x5A17 then (.ok, s.begin.askWarm 9) else s.begin.deny .invalid) = (st, u)) :
    (Acted.dev (s.begin.served .debug 0 (·.dbgCmd op key))) = (u.put F.DEBUG_STAT_LAST st.code).complete st := by
  refine Dev.served_gives hb ?_
  have hcmd : (if s.begin.role = .none then s.begin.deny .invalid else if op = 1 then s.begin.dbgHalt else if op = 2 then s.begin.dbgResume
      else if op = 3 ∧ key = 0x5A17 then (.ok, s.begin.askWarm 9) else s.begin.deny .invalid) = (st, u) := (if_neg hr).trans h
  unfold Dev.dbgCmd
  rw [hcmd]

theorem Dev.dbgHalt_sealed (h : s.lc = lcSealed) : s.dbgHalt = s.deny .denied := if_pos h

section
variable (h : s.lc ≠ lcSealed)
include h

theorem Dev.dbgHalt_active (hm : s.role = .manager) (ha : s.f F.PAIR_STAT_STATE = 2) : s.dbgHalt = s.deny .busy :=
  (if_neg h).trans (if_pos ⟨hm, decide_eq_true ha⟩)

theorem Dev.dbgHalt_manager (hm : s.role = .manager) (ha : s.f F.PAIR_STAT_STATE ≠ 2) (hh : s.f F.DEBUG_STAT_HALTED = 0) :
    s.dbgHalt = (.ok, { s.raise F.DEBUG_STAT_HALTED with
      pair := { (s.raise F.DEBUG_STAT_HALTED).pair with halted := true, crit := putBit (s.raise F.DEBUG_STAT_HALTED).pair.crit 10 true } }) := by
  refine (if_neg h).trans ((if_neg fun hx => ha (of_decide_eq_true hx.2)).trans ((if_neg (Bool.eq_false_iff.mp (Dev.flag_off hh))).trans ?_))
  dsimp only
  rw [Dev.raise_role, hm]
  rfl

theorem Dev.dbgHalt_concentrator (hk : s.role = .concentrator) (hh : s.f F.DEBUG_STAT_HALTED = 0) : s.dbgHalt = (.ok, s.raise F.DEBUG_STAT_HALTED) := by
  refine (if_neg h).trans ((if_neg fun hx => absurd (hk.symm.trans hx.1) (by decide)).trans ((if_neg (Bool.eq_false_iff.mp (Dev.flag_off hh))).trans ?_))
  dsimp only
  rw [Dev.raise_role, hk]
end

theorem Dev.dbgResume_idle (hh : s.f F.DEBUG_STAT_HALTED = 0) : s.dbgResume = s.deny .invalid := if_pos (Bool.eq_false_iff.mp (Dev.flag_off hh))

theorem Dev.dbgResume_halted (hh : s.f F.DEBUG_STAT_HALTED ≠ 0) :
    s.dbgResume = (.ok, ({ s with pair := { s.pair with halted := false } } : Dev).put F.DEBUG_STAT_HALTED 0) := if_neg (not_not_intro (decide_eq_true hh))

/-! ### The test access port -/

theorem Dev.tapOn_of (hp : s.glob.por = false) (hd : s.gate.dormant = false) : s.tapOn = true := by
  rw [Dev.tapOn, hp, hd]
  rfl

section
variable (on : s.tapOn = true)
include on

theorem Dev.tapIdcode_on : s.tapIdcode = (s.tapIr 1).complete .ok idcode := if_neg (not_not_intro on)
theorem Dev.tapSample_on (bits : List Bool) : s.tapSample bits = { s.tapIr 2 with dbg := { (s.tapIr 2).dbg with bsr := bits } } := if_neg (not_not_intro on)
theorem Dev.tapBypass_on (code : Nat) : s.tapBypass code = { s.tapIr code with dbg := { (s.tapIr code).dbg with byp := false } } := if_pos on
theorem Dev.tapExtest_open (bits : List Bool) (h : s.lc ≠ lcSealed) : s.tapExtest bits = { s.tapIr 0 with dbg := { (s.tapIr 0).dbg with bsr := bits } } :=
  (if_neg (not_not_intro on)).trans (if_neg h)
theorem Dev.tapExtest_sealed (bits : List Bool) (h : s.lc = lcSealed) :
    s.tapExtest bits = ({ s.tapIr 0 with dbg := { (s.tapIr 0).dbg with byp := false } } : Dev).put F.DEBUG_STAT_EXTEST 0 :=
  (if_neg (not_not_intro on)).trans ((if_pos h).trans (congrArg (·.put F.DEBUG_STAT_EXTEST 0) (Dev.tapBypass_on on 0)))

section
variable (op ep addr data : Nat)

theorem Dev.dbgAccess_sealed (h : s.lc = lcSealed) : s.dbgAccess op ep addr data = { s.tapIr 0x20 with dbg := { (s.tapIr 0x20).dbg with byp := false } } :=
  (if_neg (not_not_intro on)).trans ((if_pos h).trans (Dev.tapBypass_on on 0x20))

theorem Dev.dbgAccess_open (h : s.lc ≠ lcSealed) (ho : 1 ≤ op) (ho' : op ≤ 4) :
    let r := (s.tapIr 0x20).access { m := mDebug, off := addr, n := if op ≤ 2 then 4 else 8, wr := if op % 2 = 0 then some data else none, ep := some ep, desc := none }
    s.dbgAccess op ep addr data = ({ r.2.2 with dbg := { r.2.2.dbg with acc := some (r.1, r.2.1) } } : Dev).complete r.1 r.2.1 := by
  refine (if_neg (not_not_intro on)).trans ((if_neg h).trans ?_)
  dsimp only
  rw [if_neg (by omega : ¬ (op = 0 ∨ 4 < op))]

theorem Dev.dbgAccess_unknown (h : s.lc ≠ lcSealed) (ho : op = 0 ∨ 4 < op) :
    s.dbgAccess op ep addr data = ({ s.tapIr 0x20 with dbg := { (s.tapIr 0x20).dbg with acc := some (.invalid, 0) } } : Dev).complete .invalid := by
  refine (if_neg (not_not_intro on)).trans ((if_neg h).trans ?_)
  dsimp only
  rw [if_pos ho]
end
end
end

/-- Settles O56. -/
theorem debugAndTestPort : Obligations.DebugAndTestPort := by
  intro s d last ir on
  have hon : on → d.tapOn = true := fun h => Dev.tapOn_of (s := d) h.1 h.2
  have hlc : d.lc = s.dev.lc := rfl
  refine ⟨fun hb hr => ⟨fun hl => ?_, fun hl hm ha => ?_, fun hl hm ha hh => ?_, fun hl hk hh => ?_, fun hh => ?_, fun hh => ?_, fun key hk => ?_, fun ho hw => ?_⟩,
    fun ho => ?_, fun bits ho => ?_, fun code ho => ?_, fun bits ho hl => ?_, fun bits ho hl => ?_, fun op ep addr data ho hl => ?_,
    fun op ep addr data ho hl h1 h4 => ?_, fun op ep addr data ho hl hop => ?_⟩
  · exact State.runs_halt.of_eq (Dev.dbgCmd_dev hb hr ((if_pos rfl).trans (Dev.dbgHalt_sealed (s := d) hl)))
  · exact State.runs_halt.of_eq (Dev.dbgCmd_dev hb hr ((if_pos rfl).trans (Dev.dbgHalt_active (s := d) hl hm ha)))
  · exact State.runs_halt.of_eq (Dev.dbgCmd_dev hb hr ((if_pos rfl).trans (Dev.dbgHalt_manager (s := d) hl hm ha hh)))
  · exact State.runs_halt.of_eq (Dev.dbgCmd_dev hb hr ((if_pos rfl).trans (Dev.dbgHalt_concentrator (s := d) hl hk hh)))
  · exact State.runs_resumeDebug.of_eq (Dev.dbgCmd_dev hb hr ((if_neg (by decide)).trans ((if_pos rfl).trans (Dev.dbgResume_idle (s := d) hh))))
  · exact State.runs_resumeDebug.of_eq (Dev.dbgCmd_dev hb hr ((if_neg (by decide)).trans ((if_pos rfl).trans (Dev.dbgResume_halted (s := d) hh))))
  · exact State.runs_reset.of_eq (Dev.dbgCmd_dev hb hr ((if_neg (by decide)).trans ((if_neg (by decide)).trans (if_neg fun hx => hk hx.2))))
  · exact State.runs_reset.of_eq (Dev.dbgCmd_dev hb hr ((if_neg (by decide)).trans ((if_neg (by decide)).trans ((if_pos ⟨rfl, rfl⟩).trans
      (congrArg (Prod.mk Status.ok) (Dev.askWarm_first (s := d) ho.1 hr ho.2 hw))))))
  · exact State.runs_idcode.of_eq (Dev.tapIdcode_on (s := d) (hon ho))
  · exact State.runs_samplePreload.of_eq (Dev.tapSample_on (s := d) (hon ho) bits)
  · exact State.runs_tapBypass.of_eq (Dev.tapBypass_on (s := d) (hon ho) code)
  · exact State.runs_extest.of_eq (Dev.tapExtest_open (s := d) (hon ho) bits hl)
  · exact State.runs_extest.of_eq (Dev.tapExtest_sealed (s := d) (hon ho) bits hl)
  · exact State.runs_dbgAccess.of_eq (Dev.dbgAccess_sealed (s := d) (hon ho) op ep addr data hl)
  · exact State.runs_dbgAccess.of_eq (Dev.dbgAccess_open (s := d) (hon ho) op ep addr data hl h1 h4)
  · exact State.runs_dbgAccess.of_eq (Dev.dbgAccess_unknown (s := d) (hon ho) op ep addr data hl hop)

end Sys2Proof.Machine
end

section
/-! The conditions of a pair, its host commands, and its state at a boundary (R290 to R313). -/

namespace Sys2Proof.Machine

section
variable {s : Dev}

/-- Of PAIR, what is no register. -/
theorem Dev.f_setPair {x : Pair} (h : x.regs = s.pair.regs) (G : Fld) (i j : Nat) : ({ s with pair := x } : Dev).f G i j = s.f G i j :=
  Dev.fb_of_regs (u := { s with pair := x }) (s := s) rfl (by cases G.blk <;> simp [Dev.regsOf, h]) ..

/-! ### Conditions -/

section
variable (hm : s.role = .manager)
include hm

theorem Dev.xlinkSync_down (hu : s.f F.PAIR_STAT_XLINK_UP ≠ 0) (hx : s.xlinkNow = false) :
    s.xlinkSync = ((s.put F.PAIR_STAT_XLINK_UP 0).raise F.PAIR_EVT_CROSSLINK_LOST).inc F.PAIR_CNT_XLINK_LOSS 1 := by
  refine (if_neg (not_not_intro hm)).trans (if_pos ⟨decide_eq_true hu, ?_⟩)
  rw [hx]
  decide

theorem Dev.crosslinkLost_spec {x : SofSeen} (hp : s.pair.psof = some x) (hu : s.f F.PAIR_STAT_XLINK_UP ≠ 0) : let u := s.advanceTo (x.tm + 2 * s.perNs + 1)
    u.xlinkNow = false → s.crosslinkLost = ((u.put F.PAIR_STAT_XLINK_UP 0).raise F.PAIR_EVT_CROSSLINK_LOST).inc F.PAIR_CNT_XLINK_LOSS 1 := by
  intro u hx
  obtain ⟨z, hz⟩ : ∃ z, u = { s with time := z } := Dev.advanceTo_withTime ..
  have hk : s.Keeps [.time] s.out u := by
    rw [hz]
    exact (Dev.keeps_refl _ s).setTime (by decide) z
  rw [Dev.crosslinkLost, hp]
  exact Dev.xlinkSync_down (s := u) (hk.role_eq.trans hm) (by rwa [hk.f_eq (by decide)]) hx

theorem Dev.hbEdge_manager : s.hbEdge = s.raise F.PAIR_STAT_HB_OK := if_pos hm
theorem Dev.hbLost_manager : s.hbLost = (s.put F.PAIR_STAT_HB_OK 0).raise F.PAIR_EVT_HB_LOST := if_pos hm

theorem Dev.coverageStall_manager {k : Nat} (hk : k < 4) :
    s.coverageStall k = ({ s with pair := { s.pair with stall := putBit s.pair.stall k true } } : Dev).raise F.PAIR_EVT_COVERAGE_STALL :=
  if_neg fun hx => hx.elim (absurd hm ·) (Nat.not_le.mpr hk)

/-- The counts of a vote as they show. -/
def Dev.showVote (s : Dev) (v : Vote) : Dev :=
  (((s.put F.PAIR_VOTE_STAT_R (min 0xFFFF v.r)).put F.PAIR_VOTE_STAT_S (min 0xFFFF v.s)).put F.PAIR_VOTE_STAT_L (min 0xFFFF v.l)).put F.PAIR_VOTE_STAT_F (min 0xFFFF v.f)

omit hm in
theorem Dev.bare_showVote (v : Vote) : (s.showVote v).bare = s.bare := (Dev.bare_put ..).trans ((Dev.bare_put ..).trans ((Dev.bare_put ..).trans (Dev.bare_put ..)))

omit hm in
theorem Dev.fb_showVote {G : Fld} (v : Vote) (hG : ∀ E ∈ [F.PAIR_VOTE_STAT_R, F.PAIR_VOTE_STAT_S, F.PAIR_VOTE_STAT_L, F.PAIR_VOTE_STAT_F], G.apart E = true)
    (bank i j : Nat) : (s.showVote v).fb G bank i j = s.fb G bank i j := by
  rw [Dev.showVote, Dev.fb_put_apart _ _ _ _ _ _ _ (hG F.PAIR_VOTE_STAT_F (by decide)), Dev.fb_put_apart _ _ _ _ _ _ _ (hG F.PAIR_VOTE_STAT_L (by decide)),
    Dev.fb_put_apart _ _ _ _ _ _ _ (hG F.PAIR_VOTE_STAT_S (by decide)), Dev.fb_put_apart _ _ _ _ _ _ _ (hG F.PAIR_VOTE_STAT_R (by decide))]

omit hm in
theorem Dev.quorum_showVote (v w : Vote) (c : Nat) : (s.showVote v).quorum w c = s.quorum w c := by
  rw [Dev.quorum, Dev.quorum, Dev.fi, Dev.fi, Dev.fb_showVote v (by decide), Dev.fb_showVote v (by decide)]
  rfl

theorem Dev.voteComplete_manager : let v := (s.pair.acc.headD (Vote.none 0)).complete (s.pair.pgen % 256) (s.f F.PAIR_STAT_GEN % 256)
    s.voteComplete = { s.showVote v with pair := { (s.showVote v).pair with
      acc := s.pair.acc.tail
      vote := some v
      conf := if s.quorum v v.s then s.pair.conf + 1 else 0
      depSeen := s.pair.depSeen || (s.unitActive && s.quorum v (if s.planeB then v.h + v.e else v.h))
      watch := if s.quorum v v.h then none else s.pair.watch } } := by
  intro v
  have hb := Dev.bare_showVote (s := s) v
  have hq : ∀ c, (s.showVote v).quorum v c = s.quorum v c := Dev.quorum_showVote v v
  have ha : (s.showVote v).unitActive = s.unitActive := congrArg (fun x => decide (x = 2)) (Dev.fb_showVote v (by decide) 0 0 0)
  have hpl : (s.showVote v).planeB = s.planeB := congrArg (fun x => decide (x = 2)) (Dev.fb_showVote v (by decide) 0 0 0)
  have hacc : (s.showVote v).pair.acc = s.pair.acc := congrArg (·.pair.acc) hb
  have hconf : (s.showVote v).pair.conf = s.pair.conf := congrArg (·.pair.conf) hb
  have hdep : (s.showVote v).pair.depSeen = s.pair.depSeen := congrArg (·.pair.depSeen) hb
  have hw : (s.showVote v).pair.watch = s.pair.watch := congrArg (·.pair.watch) hb
  have hv : s.voteComplete = { s.showVote v with pair := { (s.showVote v).pair with
      acc := (s.showVote v).pair.acc.tail
      vote := some v
      conf := if (s.showVote v).quorum v v.s then (s.showVote v).pair.conf + 1 else 0
      depSeen := (s.showVote v).pair.depSeen || ((s.showVote v).unitActive && (s.showVote v).quorum v (if (s.showVote v).planeB then v.h + v.e else v.h))
      watch := if (s.showVote v).quorum v v.h then none else (s.showVote v).pair.watch } } := if_neg (not_not_intro hm)
  rw [hv, hq, hq, hq, ha, hpl, hacc, hconf, hdep, hw]

theorem Dev.configCheck_manager : let bad := s.glob.swapOk && decide (s.cfgid s.actSet ≠ s.f F.PAIR_CFGID_OWN)
    s.configCheck = { s with pair := { s.pair with
      cfgChk := bad
      crit := if bad then putBit s.pair.crit 5 true else s.pair.crit
      cov := putBits s.pair.cov 16 8 (bits s.pair.cov 16 8 + 1) } } := by
  refine (if_neg (not_not_intro hm)).trans ?_
  generalize (s.glob.swapOk && decide (s.cfgid s.actSet ≠ s.f F.PAIR_CFGID_OWN)) = bad
  cases bad <;> rfl
end

theorem Dev.fitExpiry_due (h : s.f F.PAIR_STAT_STATE = 2) (h0 : 0 < s.pair.fit) (hf : s.fi F.PAIR_FIT_FIT_HOLD ≤ s.pair.fit) :
    s.fitExpiry = { s with pair := { s.pair with fitDue := true } } := if_pos ⟨decide_eq_true h, h0, hf⟩

theorem Dev.orphan_watched {w : Nat} (h : s.pair.watch = some w) : s.orphan =
    ((({ s.advanceTo (s.bnd w) with pair := { (s.advanceTo (s.bnd w)).pair with watch := none } } : Dev).raise F.PAIR_EVT_ORPHAN).setOrphan true) := by
  rw [Dev.orphan, h]
end

/-- Settles O58. -/
theorem pairConditions : Obligations.PairConditions := by
  intro s hm d
  have hmd : d.role = .manager := hm
  refine ⟨?_, ?_, ?_, fun k hk => ?_, ?_, fun h h0 hf => ?_, fun w hw => ?_, ?_⟩
  · intro x hx hu u hn
    exact State.runs_crosslinkLost.of_eq (Dev.crosslinkLost_spec (s := d) hmd hx hu hn)
  · exact State.runs_pairHbIEdge.of_eq (Dev.hbEdge_manager (s := d) hmd)
  · exact State.runs_hbLost.of_eq (Dev.hbLost_manager (s := d) hmd)
  · exact State.runs_coverageStall.of_eq (Dev.coverageStall_manager (s := d) hmd hk)
  · exact State.runs_voteComplete.of_eq (Dev.voteComplete_manager (s := d) hmd)
  · exact State.runs_fitHoldExpiry.of_eq (Dev.fitExpiry_due (s := d) h h0 hf)
  · exact State.runs_orphan.of_eq (Dev.orphan_watched (s := d) hw)
  · exact State.runs_configurationCheck.of_eq (Dev.configCheck_manager (s := d) hmd)

/-! ### Commands of the host -/

section
variable {s : Dev}

/-- The vote shows no live report of the partner. -/
def Dev.noReport (s : Dev) : Bool := match s.pair.vote with | some v => decide (v.l = 0) | none => false
/-- The partner has not been seen active. -/
def Dev.notActive (s : Dev) : Bool := match s.pair.psof with | some x => !x.active | none => true

theorem Dev.noReport_iff : s.noReport = true ↔ ∃ v, s.pair.vote = some v ∧ v.l = 0 := by
  unfold Dev.noReport
  cases s.pair.vote <;> simp

theorem Dev.notActive_iff : s.notActive = true ↔ ¬ ∃ x, s.pair.psof = some x ∧ x.active = true := by
  unfold Dev.notActive
  cases s.pair.psof <;> simp

/-- The conditions of a claim by the host. -/
def Dev.MayClaim (s : Dev) : Prop :=
  s.f F.PAIR_STAT_STATE = 1 ∧ ¬ s.crit ∧ s.run ∧ s.noReport ∧ (s.notActive ∨ ¬ s.flag F.PAIR_STAT_XLINK_UP)

theorem Dev.claim_may (h : s.MayClaim) : s.pairCommand 1 = (.ok, { s with pair := { s.pair with claim := true } }) := if_pos h
theorem Dev.claim_not (h : ¬ s.MayClaim) : s.pairCommand 1 = s.deny .denied := if_neg h

theorem Dev.mayClaim_iff : s.MayClaim ↔ s.f F.PAIR_STAT_STATE = 1 ∧ s.crit = false ∧ s.run = true ∧ (∃ v, s.pair.vote = some v ∧ v.l = 0) ∧
    ¬ (s.f F.PAIR_STAT_XLINK_UP ≠ 0 ∧ ∃ x, s.pair.psof = some x ∧ x.active = true) := by
  have hx : (¬ s.flag F.PAIR_STAT_XLINK_UP = true) ↔ ¬ s.f F.PAIR_STAT_XLINK_UP ≠ 0 := not_congr decide_eq_true_iff
  rw [Dev.MayClaim, Dev.noReport_iff, Dev.notActive_iff, hx, not_and_or, Bool.not_eq_true]
  exact and_congr_right fun _ => and_congr_right fun _ => and_congr_right fun _ => and_congr_right fun _ => or_comm

theorem Dev.relinquish_active (h : s.f F.PAIR_STAT_STATE = 2) : s.pairCommand 2 = (.ok, { s with pair := { s.pair with relq := true } }) := if_pos h
theorem Dev.relinquish_other (h : s.f F.PAIR_STAT_STATE ≠ 2) : s.pairCommand 2 = s.deny .invalid := if_neg h
theorem Dev.resume_crit (h : s.crit = true) : s.pairCommand 3 = s.deny .denied := if_pos h
theorem Dev.resume_out (h : s.crit = false) (h3 : s.f F.PAIR_STAT_STATE = 3) :
    s.pairCommand 3 = (.ok, ({ s with pair := { s.pair with resume := true } } : Dev).setOrphan false) :=
  (if_neg (Bool.eq_false_iff.mp h)).trans (if_neg (not_not_intro h3))
theorem Dev.resume_other (h : s.crit = false) (h3 : s.f F.PAIR_STAT_STATE ≠ 3) : s.pairCommand 3 = (.invalid, s.setOrphan false) :=
  (if_neg (Bool.eq_false_iff.mp h)).trans (if_pos h3)
end

/-- Settles O59. -/
theorem pairHostCommands : Obligations.PairHostCommands := by
  intro s hb d st
  have hmay : d.MayClaim ↔ _ := Dev.mayClaim_iff (s := d)
  refine ⟨⟨fun h => ?_, fun h => ?_⟩, fun h => ?_, fun h => ?_, fun h => ?_, fun h h3 => ?_, fun h h3 => ?_, ?_, ?_, ?_⟩
  · exact State.runs_claim.of_eq (Dev.served_gives hb (Dev.claim_may (s := d) (hmay.mpr h)))
  · exact State.runs_claim.of_eq (Dev.served_gives hb (Dev.claim_not (s := d) fun hx => h (hmay.mp hx)))
  · exact State.runs_relinquish.of_eq (Dev.served_gives hb (Dev.relinquish_active (s := d) h))
  · exact State.runs_relinquish.of_eq (Dev.served_gives hb (Dev.relinquish_other (s := d) h))
  · exact State.runs_resume.of_eq (Dev.served_gives hb (Dev.resume_crit (s := d) h))
  · exact State.runs_resume.of_eq (Dev.served_gives hb (Dev.resume_out (s := d) h h3))
  · exact State.runs_resume.of_eq (Dev.served_gives hb (Dev.resume_other (s := d) h h3))
  · exact State.runs_pairTripClr.of_eq (Dev.served_gives hb (rfl : d.pairCommand 4 = _))
  · exact State.runs_fault.of_eq (Dev.served_gives hb (rfl : d.pairCommand 5 = _))
  · exact State.runs_clear.of_eq (Dev.served_gives hb (rfl : d.pairCommand 6 = _))

/-! ### The state at a boundary -/

section
variable {s : Dev} (n : Nat)

/-- The unit before its state changes at a boundary. -/
def Dev.beforeBnd (s : Dev) : Dev := { s with pair := { s.pair with relinq := false } }

theorem Dev.f_beforeBnd (G : Fld) (i j : Nat) : s.beforeBnd.f G i j = s.f G i j := Dev.f_setPair rfl G i j
theorem Dev.crit_beforeBnd : s.beforeBnd.crit = s.crit := rfl
theorem Dev.claimOpen_beforeBnd : s.beforeBnd.claimOpen = s.claimOpen := rfl

theorem Dev.gen_putState (v : Dev) (x : Nat) : (v.put F.PAIR_STAT_STATE x).f F.PAIR_STAT_GEN = v.f F.PAIR_STAT_GEN := Dev.f_put_apart _ _ _ _ _ _ (by decide)

theorem Dev.pairState_idle {run : Bool} (h : run = false ∨ s.fi F.PAIR_CTL_EN = 0) :
    (s.pairState n run).f F.PAIR_STAT_STATE = 0 ∧ (s.pairState n run).f F.PAIR_STAT_GEN = s.f F.PAIR_STAT_GEN := by
  have hu : s.pairState n run = ({ s.beforeBnd with pair := { s.beforeBnd.pair with relinq := decide (s.f F.PAIR_STAT_STATE = 2), watch := none, conf := 0 } } : Dev).put F.PAIR_STAT_STATE 0 :=
    if_pos (h.imp_left fun h => Bool.eq_false_iff.mp h)
  rw [hu]
  exact ⟨Dev.f_put_same .., (Dev.gen_putState ..).trans ((Dev.f_setPair rfl ..).trans (Dev.f_beforeBnd ..))⟩

theorem Dev.relinquishTo_spec (v : Dev) {st : Nat} (h : st < 4) : (v.relinquishTo n st).f F.PAIR_STAT_STATE = st ∧ (v.relinquishTo n st).f F.PAIR_STAT_GEN = v.f F.PAIR_STAT_GEN := by
  have hf : ∀ G : Fld, (v.relinquishTo n st).f G = (((v.put F.PAIR_STAT_STATE st).raise F.PAIR_EVT_RELINQUISHED).inc F.PAIR_CNT_RELINQS 1).f G := fun G => Dev.f_setPair rfl G 0 0
  refine ⟨(hf _).trans ?_, (hf _).trans ?_⟩
  · rw [Dev.f_inc_apart _ _ _ _ _ _ (by decide), Dev.f_raise_apart _ _ _ _ _ (by decide), Dev.f_put_same]
    exact Nat.mod_eq_of_lt (h.trans_le (by decide))
  · rw [Dev.f_inc_apart _ _ _ _ _ _ (by decide), Dev.f_raise_apart _ _ _ _ _ (by decide), Dev.gen_putState]

theorem Dev.claimNow_spec (v : Dev) : v.claimNow.f F.PAIR_STAT_STATE = 2 ∧ v.claimNow.f F.PAIR_STAT_GEN =
    if genHigher 16 (v.f F.PAIR_STAT_GEN) v.pair.pgen then (v.f F.PAIR_STAT_GEN + 1) % 2 ^ 16 else (v.pair.pgen + 1) % 2 ^ 16 := by
  unfold Dev.claimNow
  extract_lets own g
  have hg : g % 2 ^ 16 % 2 ^ 16 = if genHigher 16 own v.pair.pgen then (own + 1) % 2 ^ 16 else (v.pair.pgen + 1) % 2 ^ 16 := by
    rw [Nat.mod_mod]
    exact apply_ite (· % 2 ^ 16) ..
  clear_value g
  refine ⟨?_, ?_⟩
  · rw [Dev.f_inc_apart _ _ _ _ _ _ (by decide), Dev.f_raise_apart _ _ _ _ _ (by decide), Dev.f_put_apart _ _ _ _ _ _ (by decide), Dev.f_put_same]
    rfl
  · rw [Dev.f_inc_apart _ _ _ _ _ _ (by decide), Dev.f_raise_apart _ _ _ _ _ (by decide), Dev.f_put_same]
    exact hg

/-- The state and the generation that the rules give at a boundary with a running cycle. -/
def Dev.bndNext (s : Dev) : Nat × Nat :=
  let st := s.f F.PAIR_STAT_STATE
  let own := s.f F.PAIR_STAT_GEN
  if st = 0 then (1, own)
  else if st = 1 then
    if s.crit = false ∧ s.claimOpen = true then
      (2, if genHigher 16 own s.pair.pgen then (own + 1) % 2 ^ 16 else (s.pair.pgen + 1) % 2 ^ 16)
    else (1, own)
  else if st = 2 then (if s.crit then 3 else if s.pair.depSeen ∨ s.pair.relq ∨ s.pair.fitDue then 1 else 2, own)
  else (if s.pair.resume = true ∧ s.crit = false then 1 else 3, own)

/-- The state after a boundary with a running cycle, by the state before it. -/
def Dev.bndFrom (s : Dev) (n : Nat) : Nat → Dev
  | 0 => s.put F.PAIR_STAT_STATE 1
  | 1 => if ¬ s.crit ∧ s.claimOpen then s.claimNow else s
  | 2 =>
    if s.crit then s.relinquishTo n 3
    else if s.pair.depSeen then (s.put F.PAIR_STAT_STATE 1).raise F.PAIR_EVT_DEPOSED
    else if s.pair.relq || s.pair.fitDue then s.relinquishTo n 1
    else s
  | _ => if s.pair.resume ∧ ¬ s.crit then s.put F.PAIR_STAT_STATE 1 else { s with pair := { s.pair with relinq := true } }

theorem Dev.pairState_runs (he : s.fi F.PAIR_CTL_EN ≠ 0) : s.pairState n true = s.beforeBnd.bndFrom n (s.f F.PAIR_STAT_STATE) := by
  unfold Dev.pairState
  dsimp only
  rw [if_neg]
  · generalize s.f F.PAIR_STAT_STATE = st
    match st with
    | 0 => rfl
    | 1 => rfl
    | 2 => rfl
    | _ + 3 => rfl
  · exact fun hx => hx.elim (absurd rfl ·) he

/-- State and generation as a pair. -/
def Dev.unitIs (v : Dev) (x : Nat × Nat) : Prop := (v.f F.PAIR_STAT_STATE, v.f F.PAIR_STAT_GEN) = x

theorem Dev.bndFrom_idle : (s.bndFrom n 0).unitIs (1, s.f F.PAIR_STAT_GEN) := Prod.ext (Dev.f_put_same ..) (Dev.gen_putState ..)

theorem Dev.bndFrom_standby (h : s.f F.PAIR_STAT_STATE = 1) : (s.bndFrom n 1).unitIs (if s.crit = false ∧ s.claimOpen = true then
    (2, if genHigher 16 (s.f F.PAIR_STAT_GEN) s.pair.pgen then (s.f F.PAIR_STAT_GEN + 1) % 2 ^ 16 else (s.pair.pgen + 1) % 2 ^ 16) else (1, s.f F.PAIR_STAT_GEN)) := by
  by_cases hc : s.crit = false ∧ s.claimOpen = true
  · have hb : s.bndFrom n 1 = s.claimNow := if_pos ⟨Bool.eq_false_iff.mp hc.1, hc.2⟩
    rw [hb, if_pos hc]
    exact Prod.ext s.claimNow_spec.1 s.claimNow_spec.2
  · have hb : s.bndFrom n 1 = s := if_neg fun hx => hc ⟨Bool.eq_false_iff.mpr hx.1, hx.2⟩
    rw [hb, if_neg hc]
    exact Prod.ext h rfl

theorem Dev.bndFrom_active (h : s.f F.PAIR_STAT_STATE = 2) :
    (s.bndFrom n 2).unitIs (if s.crit then 3 else if s.pair.depSeen ∨ s.pair.relq ∨ s.pair.fitDue then 1 else 2, s.f F.PAIR_STAT_GEN) := by
  have hto : ∀ {st}, st < 4 → (s.relinquishTo n st).unitIs (st, s.f F.PAIR_STAT_GEN) := fun hst =>
    Prod.ext (Dev.relinquishTo_spec n s hst).1 (Dev.relinquishTo_spec n s hst).2
  by_cases hc : s.crit = true
  · have hb : s.bndFrom n 2 = s.relinquishTo n 3 := if_pos hc
    rw [hb, if_pos hc]
    exact hto (by decide)
  · rw [if_neg hc]
    by_cases hd : s.pair.depSeen = true
    · have hb : s.bndFrom n 2 = (s.put F.PAIR_STAT_STATE 1).raise F.PAIR_EVT_DEPOSED := (if_neg hc).trans (if_pos hd)
      rw [hb, if_pos (.inl hd)]
      exact Prod.ext ((Dev.f_raise_apart _ _ _ _ _ (by decide)).trans (Dev.f_put_same ..)) ((Dev.f_raise_apart _ _ _ _ _ (by decide)).trans (Dev.gen_putState ..))
    · by_cases hr : (s.pair.relq || s.pair.fitDue) = true
      · have hb : s.bndFrom n 2 = s.relinquishTo n 1 := (if_neg hc).trans ((if_neg hd).trans (if_pos hr))
        rw [hb, if_pos (.inr (by simpa using hr))]
        exact hto (by decide)
      · have hb : s.bndFrom n 2 = s := (if_neg hc).trans ((if_neg hd).trans (if_neg hr))
        rw [hb, if_neg fun hx => hx.elim hd fun hx => hr (by simpa using hx)]
        exact Prod.ext h rfl

theorem Dev.bndFrom_out (h : s.f F.PAIR_STAT_STATE = 3) :
    (s.bndFrom n 3).unitIs (if s.pair.resume = true ∧ s.crit = false then 1 else 3, s.f F.PAIR_STAT_GEN) := by
  by_cases hr : s.pair.resume = true ∧ s.crit = false
  · have hb : s.bndFrom n 3 = s.put F.PAIR_STAT_STATE 1 := if_pos ⟨hr.1, Bool.eq_false_iff.mp hr.2⟩
    rw [hb, if_pos hr]
    exact Prod.ext (Dev.f_put_same ..) (Dev.gen_putState ..)
  · have hb : s.bndFrom n 3 = { s with pair := { s.pair with relinq := true } } := if_neg fun hx => hr ⟨hx.1, Bool.eq_false_iff.mpr hx.2⟩
    have hf : ∀ G : Fld, (s.bndFrom n 3).f G = s.f G := fun G => by
      rw [hb]
      exact Dev.f_setPair rfl G 0 0
    rw [if_neg hr]
    exact Prod.ext ((hf _).trans h) (hf _)

theorem Dev.bndFrom_spec (h : s.f F.PAIR_STAT_STATE ≤ 3) : (s.bndFrom n (s.f F.PAIR_STAT_STATE)).unitIs s.bndNext := by
  have hcases : s.f F.PAIR_STAT_STATE = 0 ∨ s.f F.PAIR_STAT_STATE = 1 ∨ s.f F.PAIR_STAT_STATE = 2 ∨ s.f F.PAIR_STAT_STATE = 3 := by omega
  rcases hcases with hst | hst | hst | hst
  · have hn : s.bndNext = (1, s.f F.PAIR_STAT_GEN) := if_pos hst
    rw [hst, hn]
    exact Dev.bndFrom_idle n
  · have hn : s.bndNext = _ := (if_neg (by rw [hst]; decide)).trans (if_pos hst)
    rw [hst, hn]
    exact Dev.bndFrom_standby n hst
  · have hn : s.bndNext = _ := (if_neg (by rw [hst]; decide)).trans ((if_neg (by rw [hst]; decide)).trans (if_pos hst))
    rw [hst, hn]
    exact Dev.bndFrom_active n hst
  · have hn : s.bndNext = _ := (if_neg (by rw [hst]; decide)).trans ((if_neg (by rw [hst]; decide)).trans (if_neg (by rw [hst]; decide)))
    rw [hst, hn]
    exact Dev.bndFrom_out n hst

theorem Dev.bndNext_beforeBnd : s.beforeBnd.bndNext = s.bndNext := by
  unfold Dev.bndNext
  rw [Dev.f_beforeBnd, Dev.f_beforeBnd, Dev.crit_beforeBnd, Dev.claimOpen_beforeBnd]
  rfl

theorem Dev.pairState_next (h : s.f F.PAIR_STAT_STATE ≤ 3) (he : s.fi F.PAIR_CTL_EN ≠ 0) :
    (s.pairState n true).f F.PAIR_STAT_STATE = s.bndNext.1 ∧ (s.pairState n true).f F.PAIR_STAT_GEN = s.bndNext.2 := by
  have hb := Dev.bndFrom_spec (s := s.beforeBnd) n ((Dev.f_beforeBnd ..).trans_le h)
  rw [Dev.f_beforeBnd F.PAIR_STAT_STATE 0 0, Dev.bndNext_beforeBnd] at hb
  rw [Dev.pairState_runs n he]
  exact ⟨congrArg Prod.fst hb, congrArg Prod.snd hb⟩
end

/-- Settles O60. -/
theorem pairStateAtBoundary : Obligations.PairStateAtBoundary := by
  intro s n run st nxt gen h
  have hidle : run = false ∨ s.fi F.PAIR_CTL_EN = 0 → nxt = 0 ∧ gen = s.f F.PAIR_STAT_GEN := fun hi => Dev.pairState_idle n hi
  have hnext : run = true → s.fi F.PAIR_CTL_EN ≠ 0 → nxt = s.bndNext.1 ∧ gen = s.bndNext.2 := fun hr he => by
    subst hr
    exact Dev.pairState_next n h he
  have hst : st = s.f F.PAIR_STAT_STATE := rfl
  clear_value nxt gen st
  refine ⟨fun hi => (hidle hi).1, fun hr he => ?_, ?_, ?_⟩
  · rw [(hnext hr he).1, hst]
    unfold Dev.bndNext
    refine ⟨fun h0 => ?_, fun h1 => ?_, fun h2 => ?_, fun h3 => ?_⟩
    · simp [h0]
    · dsimp only
      rw [h1, if_neg (by decide), if_pos rfl]
      split <;> rfl
    · simp [h2]
    · simp [h3]
  · intro hg
    by_cases hi : run = false ∨ s.fi F.PAIR_CTL_EN = 0
    · exact absurd (hidle hi).2 hg
    · have hr : run = true ∧ s.fi F.PAIR_CTL_EN ≠ 0 := by simpa using hi
      obtain ⟨h1, h2⟩ := hnext hr.1 hr.2
      rw [h2] at hg
      rw [h1, hst]
      revert hg
      unfold Dev.bndNext
      dsimp only
      split
      · exact fun hg => absurd rfl hg
      · split
        · split
          · exact fun _ => ⟨‹_›, rfl⟩
          · exact fun hg => absurd rfl hg
        · split <;> exact fun hg => absurd rfl hg
  · intro h1 h2
    by_cases hi : run = false ∨ s.fi F.PAIR_CTL_EN = 0
    · exact absurd ((hidle hi).1.symm.trans h2) (by decide)
    · have hr : run = true ∧ s.fi F.PAIR_CTL_EN ≠ 0 := by simpa using hi
      obtain ⟨hn, hg⟩ := hnext hr.1 hr.2
      rw [hn] at h2
      rw [hg]
      rw [hst] at h1
      revert h2
      unfold Dev.bndNext
      dsimp only
      rw [h1, if_neg (by decide), if_pos rfl]
      split
      · exact fun _ => rfl
      · exact fun h2 => Nat.noConfusion (Nat.succ.inj (h2 : 1 = 2))

end Sys2Proof.Machine
end

section
/-! The exchange blocks of a pair (R28, R83, R202, R292, R293). -/

namespace Sys2Proof.Machine

/-! ### The layout of a block -/

theorem fieldBE_at {a t : List Byte} {k n v : Nat} (ha : a.length = k) : fieldBE (a ++ (beBytes n v ++ t)) k n = v % 256 ^ n := be_at ha

/-- A block as it is laid out, without its CRC. -/
def pxBody (t cyc : Nat) (p : List Byte) : List Byte := bytesOf 1 t ++ (beBytes 2 p.length ++ (beBytes 4 cyc ++ p))

theorem pxBytes_eq (t cyc : Nat) (p : List Byte) : pxBytes t cyc p = withCrc (pxBody t cyc p) := by
  rw [pxBytes, pxBody, List.append_assoc, List.append_assoc]

theorem pxBody_type {t : Nat} (cyc : Nat) (p : List Byte) (ht : t < 2 ^ 8) : field (pxBody t cyc p) 0 1 = t := by
  have h : slice (pxBody t cyc p) 0 1 = bytesOf 1 t := slice_at (a := []) rfl (length_bytesOf ..)
  rw [field, h, ofBytes_bytesOf]
  exact Nat.mod_eq_of_lt ht

theorem pxBody_len (t cyc : Nat) {p : List Byte} (hp : p.length < 2 ^ 16) : fieldBE (pxBody t cyc p) 1 2 = p.length :=
  (fieldBE_at (a := bytesOf 1 t) (length_bytesOf ..)).trans (Nat.mod_eq_of_lt hp)

theorem pxBody_cycle (t : Nat) {cyc : Nat} (p : List Byte) (hc : cyc < 2 ^ 32) : fieldBE (pxBody t cyc p) 3 4 = cyc := by
  have h : pxBody t cyc p = (bytesOf 1 t ++ beBytes 2 p.length) ++ (beBytes 4 cyc ++ p) := by rw [pxBody, List.append_assoc]
  rw [h]
  exact (fieldBE_at (by simp)).trans (Nat.mod_eq_of_lt hc)

theorem pxBody_payload (t cyc : Nat) (p : List Byte) : (pxBody t cyc p).drop 7 = p := by
  have h : pxBody t cyc p = (bytesOf 1 t ++ beBytes 2 p.length ++ beBytes 4 cyc) ++ p := by simp [pxBody]
  rw [h]
  exact List.drop_left' (by simp)

theorem pxBody_length (t cyc : Nat) (p : List Byte) : (pxBody t cyc p).length = 7 + p.length := by simp [pxBody]; omega

theorem pxParts_pxBytes {t cyc : Nat} {p : List Byte} (ht : t < 2 ^ 8) (hc : cyc < 2 ^ 32) (hp : p.length < 2 ^ 16) :
    pxParts t (pxBytes t cyc p) = if pxLenOk t p then some (cyc, p) else none := by
  unfold pxParts
  dsimp only
  rw [pxBytes_eq, crcBody_withCrc, crcOk_withCrc, pxBody_type cyc p ht, pxBody_len t cyc hp, pxBody_cycle t p hc, pxBody_payload, pxBody_length]
  simp

theorem pxParts_bad {t : Nat} {data : List Byte} (h : crcOk data = false) : pxParts t data = none := by
  unfold pxParts
  rw [h]
  simp

/-! ### Blocks that are not taken -/

section
variable {s : Dev} {L t : Nat} {data : List Byte} {clean : Bool} (g : Dev → Nat → List Byte → Dev)

theorem Dev.pxTake_elsewhere (h : ¬ (s.isPair L = true ∧ s.inRun L = true)) : s.pxTake L t data clean g = s :=
  if_pos (by
    by_cases hp : s.isPair L = true
    · exact .inr fun hr => h ⟨hp, hr⟩
    · exact .inl hp)

section
variable (here : s.isPair L = true ∧ s.inRun L = true)
include here

theorem Dev.pxTake_bad (h : clean = false ∨ pxParts t data = none) : s.pxTake L t data clean g = s.incBlkLn F.LANE_SF_ERR_MS_CRC L 1 := by
  refine (if_neg fun hx => hx.elim (· here.1) (· here.2)).trans ?_
  cases hc : clean
  · cases pxParts t data <;> rfl
  · rw [h.resolve_left (by rw [hc]; decide)]

theorem Dev.pxTake_good {cyc : Nat} {p : List Byte} (h : pxParts t data = some (cyc, p)) : s.pxTake L t data true g = g s cyc p := by
  refine (if_neg fun hx => hx.elim (· here.1) (· here.2)).trans ?_
  rw [h]
end
end

/-! ### What the blocks do -/

section
variable {s : Dev}

theorem Dev.mapJudge_eq {p : List Byte} (h : s.pair.mapPar = some p) :
    s.mapJudge = if s.pair.mapOwn = none ∨ s.pair.mapOwn = some p then s else s.raise F.PAIR_EVT_MAP_MISMATCH := by
  unfold Dev.mapJudge
  rw [h]
  cases ho : s.pair.mapOwn with
  | none => exact (if_pos (.inl rfl)).symm
  | some a =>
    by_cases ha : a = p
    · rw [if_pos (.inr (congrArg some ha))]
      exact if_neg (by simpa using ha)
    · rw [if_neg (by simpa using ha)]
      exact if_pos (decide_eq_true ha)

theorem Dev.pxGraft_active (cyc : Nat) (p : List Byte) (h : s.f F.PAIR_STAT_STATE = 2) : s.pxGraft cyc p = s := if_pos (decide_eq_true h)
theorem Dev.pxMlist_active (cyc : Nat) (p : List Byte) (h : s.f F.PAIR_STAT_STATE = 2) : s.pxMlist cyc p = s := if_pos (.inl (decide_eq_true h))

theorem Dev.pxGraft_standby (cyc : Nat) (p : List Byte) (h : s.f F.PAIR_STAT_STATE ≠ 2) :
    let n := s.cycNear cyc
    let ng := fieldBE p 2 2
    let key := n * 64 + field p 0 1
    let due := s.loom.due.map fun (r : Run) => if s.graftKey r = key then { r with graft := true } else r
    let words := (List.range ng).map fun j => fieldBE p (4 + 4 * j) 4
    let vals := (List.range (field p 1 1)).map fun j => ({ cyc := n, o := fieldBE p (4 + 4 * ng + 6 * j) 2, v := fieldBE p (6 + 4 * ng + 6 * j) 4 } : CmpVal)
    s.pxGraft cyc p = Dev.cmpAdd { s with loom := { s.loom with graft := Tab.put s.loom.graft key words, due := due } } false vals := if_neg fun hx => h (of_decide_eq_true hx)

/-- The list of a block of the active unit. -/
def Dev.mlistOf (s : Dev) (cyc : Nat) (p : List Byte) : MList :=
  { cyc := s.cycNear cyc, gen := fieldBE p 3 2, exec := fieldBE p 5 4
    list := if fieldBE p 1 2 = 0xFFFF then none else some ((List.range (fieldBE p 1 2)).map fun i => fieldBE p (9 + 2 * i) 2) }

/-- The device with the list kept. -/
def Dev.withMlist (s : Dev) (cyc : Nat) (p : List Byte) : Dev :=
  { s with pair := { s.pair with mlist := Tab.put s.pair.mlist (mlistKey (field p 0 1) (s.cycNear cyc)) (s.mlistOf cyc p) } }

section
variable {cyc : Nat} {p : List Byte} (h : s.f F.PAIR_STAT_STATE ≠ 2) (ha : field p 0 1 < 12)
include h ha

theorem Dev.pxMlist_none (hk : fieldBE p 1 2 = 0xFFFF) : s.pxMlist cyc p = s.withMlist cyc p :=
  (if_neg fun hx => hx.elim (fun hx => h (of_decide_eq_true hx)) (Nat.not_le.mpr ha)).trans (if_pos hk)

theorem Dev.pxMlist_some (hk : fieldBE p 1 2 ≠ 0xFFFF) : (s.withMlist cyc p).Keeps [.spindle] s.out (s.pxMlist cyc p) := by
  have hrun : s.pxMlist cyc p = _ := (if_neg fun hx => hx.elim (fun hx => h (of_decide_eq_true hx)) (Nat.not_le.mpr ha)).trans (if_neg hk)
  rw [hrun]
  refine Dev.Keeps.each (Dev.keeps_refl [.spindle] (s.withMlist cyc p)) _ _ fun v e _ hv => ?_
  exact .ite _ (fun _ => hv) fun _ => .ite _ (fun _ => hv.setSpin (by decide) _) fun _ => .ite _ (fun _ => hv.setSpin (by decide) _) fun _ => hv
end

/-! ### The state of the partner -/

/-- The words of health of the partner. -/
def pxWords (p : List Byte) : List Nat := (List.range 8).map fun k => fieldBE p (4 * k) 4
/-- The state of the partner. -/
def pxUnit (p : List Byte) : Nat := bits ((pxWords p).getD 0 0) 28 4

/-- The registers that show the partner. -/
def Dev.showPartner (s : Dev) (p : List Byte) : Dev :=
  let u := s.each (List.range 8) fun u k => u.put F.PAIR_PHEALTH_WORD ((pxWords p).getD k 0) k
  (u.put F.PAIR_STAT_PSTATE (pxUnit p)).put F.PAIR_CFGID_PARTNER (fieldBE p 52 4)

/-- The coverage counters of the partner that have moved on. -/
def Dev.freshCov (s : Dev) (p : List Byte) : List Nat :=
  (List.range 4).filter fun k => decide (bits (s.f F.PAIR_PHEALTH_WORD 5) (8 * k) 8 ≠ bits ((pxWords p).getD 5 0) (8 * k) 8)

/-- What PAIR keeps of a STATE block, where `bad` tells that CFGID differs. -/
def Dev.notePartner (u : Dev) (p : List Byte) (fresh : List Nat) (bad : Bool) : Dev :=
  { u with pair := { u.pair with
    stall := fresh.foldl (fun a k => putBit a k false) u.pair.stall
    pcov := (pxWords p).getD 5 0
    cfgBad := bad
    relSeen := u.pair.relSeen || decide (pxUnit p = 3) } }

/-- The indices, the dwell and the modes of the active unit. -/
def pxAdopt (p : List Byte) : AdoptRec :=
  { k0 := field p 32 1, k1 := field p 33 1, dwell := fieldBE p 34 2
    modes := (List.range 64).map fun k => (k, bits (field p (36 + k / 4) 1) (2 * (k % 4)) 2) }

theorem Dev.bare_showPartner (p : List Byte) : (s.showPartner p).bare = s.bare :=
  (Dev.bare_put ..).trans ((Dev.bare_put ..).trans (Dev.bare_each _ _ fun _ _ _ => Dev.bare_put ..))

theorem Dev.f_phealth (p : List Byte) {G : Fld} (hG : G.apart F.PAIR_PHEALTH_WORD = true) (i j : Nat) :
    (s.each (List.range 8) fun u k => u.put F.PAIR_PHEALTH_WORD ((pxWords p).getD k 0) k).f G i j = s.f G i j :=
  Dev.each_inv (fun v => v.f G i j = s.f G i j) _ _ (fun _ _ _ hv => (Dev.f_put_apart _ _ _ _ _ _ hG).trans hv) s rfl

theorem Dev.f_showPartner (p : List Byte) {G : Fld} (hG : ∀ E ∈ [F.PAIR_PHEALTH_WORD, F.PAIR_STAT_PSTATE, F.PAIR_CFGID_PARTNER], G.apart E = true) (i j : Nat) :
    (s.showPartner p).f G i j = s.f G i j :=
  (Dev.f_put_apart _ _ _ _ _ _ (hG F.PAIR_CFGID_PARTNER (by decide))).trans ((Dev.f_put_apart _ _ _ _ _ _ (hG F.PAIR_STAT_PSTATE (by decide))).trans
    (Dev.f_phealth p (hG F.PAIR_PHEALTH_WORD (by decide)) i j))

theorem Dev.standby_showPartner (p : List Byte) : (s.showPartner p).standby = s.standby := by
  rw [Dev.standby, Dev.standby, Dev.f_showPartner p (by decide)]

theorem Dev.cfgidAt_showPartner (p : List Byte) (n : Nat) : (s.showPartner p).cfgidAt n = s.cfgidAt n := by
  have hb := Dev.bare_showPartner (s := s) p
  rw [Dev.cfgidAt, Dev.cfgidAt, Dev.f_showPartner p (by decide), show (s.showPartner p).pair.cfgAt = s.pair.cfgAt from congrArg (·.pair.cfgAt) hb,
    show (s.showPartner p).pair.cfgOld = s.pair.cfgOld from congrArg (·.pair.cfgOld) hb]

/-- What a standby unit does of a STATE block of the active one. -/
def Dev.comparePartner (v : Dev) (n : Nat) (p : List Byte) (bad : Bool) : Dev :=
  let v := v.iff bad fun s => (s.raise F.PAIR_EVT_CFG_MISMATCH).cmpVoided n
  v.iff (v.standby && decide (pxUnit p = 2)) fun s => s.adoptCheck n (pxAdopt p)

theorem Dev.comparePartner_idle {v : Dev} {n : Nat} {p : List Byte} (h : (v.standby && decide (pxUnit p = 2)) = false) : v.comparePartner n p false = v := by
  show v.iff (v.standby && decide (pxUnit p = 2)) (fun s => s.adoptCheck n (pxAdopt p)) = v
  rw [h]
  rfl

/-- Whether the CFGID of the active unit differs from the own one. -/
def Dev.cfgDiffers (s : Dev) (n : Nat) (p : List Byte) : Bool := s.standby && decide (pxUnit p = 2) && decide (fieldBE p 52 4 ≠ s.cfgidAt n)

theorem Dev.pxState_eq (cyc : Nat) (p : List Byte) : let bad := (s.showPartner p).cfgDiffers (s.cycNear cyc) p
    s.pxState cyc p = ((s.showPartner p).notePartner p (s.freshCov p) bad).comparePartner (s.cycNear cyc) p bad := by
  have hst : (s.each (List.range 8) fun u k => u.put F.PAIR_PHEALTH_WORD ((pxWords p).getD k 0) k).standby = (s.showPartner p).standby := by
    rw [Dev.standby_showPartner, Dev.standby, Dev.f_phealth p (by decide), Dev.standby]
  have hcfg : (s.each (List.range 8) fun u k => u.put F.PAIR_PHEALTH_WORD ((pxWords p).getD k 0) k).cfgidAt (s.cycNear cyc) = (s.showPartner p).cfgidAt (s.cycNear cyc) := by
    have hb := Dev.bare_each s (List.range 8) (g := fun u k => u.put F.PAIR_PHEALTH_WORD ((pxWords p).getD k 0) k) fun _ _ _ => Dev.bare_put ..
    rw [Dev.cfgidAt_showPartner, Dev.cfgidAt, Dev.cfgidAt, Dev.f_phealth p (by decide)]
    rw [show (s.each (List.range 8) fun u k => u.put F.PAIR_PHEALTH_WORD ((pxWords p).getD k 0) k).pair.cfgAt = s.pair.cfgAt from congrArg (·.pair.cfgAt) hb,
      show (s.each (List.range 8) fun u k => u.put F.PAIR_PHEALTH_WORD ((pxWords p).getD k 0) k).pair.cfgOld = s.pair.cfgOld from congrArg (·.pair.cfgOld) hb]
  intro bad
  have hbad : bad = ((s.each (List.range 8) fun u k => u.put F.PAIR_PHEALTH_WORD ((pxWords p).getD k 0) k).standby && decide (pxUnit p = 2) &&
      decide (fieldBE p 52 4 ≠ (s.each (List.range 8) fun u k => u.put F.PAIR_PHEALTH_WORD ((pxWords p).getD k 0) k).cfgidAt (s.cycNear cyc))) := by
    rw [hst, hcfg]
    rfl
  rw [hbad]
  rfl

theorem Dev.f_notePartner (p : List Byte) (fr : List Nat) (b : Bool) (G : Fld) (i j : Nat) : (s.notePartner p fr b).f G i j = s.f G i j := Dev.f_setPair rfl G i j

theorem Dev.standby_notePartner (p : List Byte) (fr : List Nat) (b : Bool) : (s.notePartner p fr b).standby = s.standby := by
  rw [Dev.standby, Dev.standby, Dev.f_notePartner]

theorem Dev.pxState_apart (cyc : Nat) (p : List Byte) (h : pxUnit p ≠ 2 ∨ (s.showPartner p).standby = false) :
    s.pxState cyc p = (s.showPartner p).notePartner p (s.freshCov p) false := by
  have hoff : ((s.showPartner p).standby && decide (pxUnit p = 2)) = false := by
    rcases h with h | h
    · rw [decide_eq_false h, Bool.and_false]
    · rw [h, Bool.false_and]
  have hbad : (s.showPartner p).cfgDiffers (s.cycNear cyc) p = false := by rw [Dev.cfgDiffers, hoff, Bool.false_and]
  rw [Dev.pxState_eq, hbad]
  generalize s.freshCov p = fr
  generalize s.cycNear cyc = n
  have hoff' : (((s.showPartner p).notePartner p fr false).standby && decide (pxUnit p = 2)) = false := by rw [Dev.standby_notePartner, hoff]
  exact Dev.comparePartner_idle hoff'

/-- What the comparison of indices and modes leaves. -/
theorem Dev.keeps_adoptCheck (n : Nat) (a : AdoptRec) : s.Keeps [.loom] s.out (s.adoptCheck n a) := by
  unfold Dev.adoptCheck
  split
  · exact Dev.keeps_refl _ s
  · refine .ite _ (fun _ => Dev.keeps_refl _ s) fun _ => ?_
    exact Dev.Keeps.setLoom (Dev.Keeps.setLoom (Dev.Keeps.each (Dev.Keeps.iff (Dev.keeps_refl [.loom] s) _ _ fun _ => (Dev.keeps_refl _ s).raise (by decide)) _ _
      fun v e _ hv => hv.raise (by decide) _ _) (by decide) _) (by decide) _

theorem Dev.cmpVoid_adoptCheck {n m : Nat} (a : AdoptRec) (h : m ∈ s.loom.cmpVoid) : m ∈ (s.adoptCheck n a).loom.cmpVoid := by
  unfold Dev.adoptCheck
  split
  · exact h
  · rename_i own _
    extract_lets idx diff
    split
    · exact h
    · have hb : ((s.iff idx fun s => s.raise F.LOOM_SCHED_STAT_ADOPT).each diff fun s e => s.raise F.LOOM_MODE_STAT_ADOPT e.1).bare = s.bare :=
        (Dev.bare_each _ _ fun _ _ _ => Dev.bare_raise ..).trans (Dev.bare_iff _ _ fun _ => Dev.bare_raise ..)
      have hv : ((s.iff idx fun s => s.raise F.LOOM_SCHED_STAT_ADOPT).each diff fun s e => s.raise F.LOOM_MODE_STAT_ADOPT e.1).loom.cmpVoid = s.loom.cmpVoid :=
        congrArg (·.loom.cmpVoid) hb
      refine List.mem_cons_of_mem n ?_
      rw [hv]
      exact h

theorem Dev.comparePartner_spec (n : Nat) (p : List Byte) (bad : Bool) : (s.comparePartner n p bad).pair.cfgBad = s.pair.cfgBad ∧
    (bad = true → (s.comparePartner n p bad).f F.PAIR_EVT_CFG_MISMATCH = 1 ∧ n ∈ (s.comparePartner n p bad).loom.cmpVoid) := by
  unfold Dev.comparePartner
  extract_lets v
  have hv : v.pair.cfgBad = s.pair.cfgBad := by
    cases bad
    · rfl
    · exact congrArg (·.pair.cfgBad) (Dev.bare_raise s F.PAIR_EVT_CFG_MISMATCH 0 0)
  have hvb : bad = true → v.f F.PAIR_EVT_CFG_MISMATCH = 1 ∧ n ∈ v.loom.cmpVoid := fun h => by
    subst h
    exact ⟨(Dev.fb_of_regs (G := F.PAIR_EVT_CFG_MISMATCH) (s := s.raise F.PAIR_EVT_CFG_MISMATCH) rfl rfl 0 0 0).trans (Dev.f_raise_same ..), List.mem_cons_self⟩
  clear_value v
  have hk := (v.keeps_adoptCheck n (pxAdopt p))
  cases v.standby && decide (pxUnit p = 2)
  · exact ⟨hv, hvb⟩
  · exact ⟨(congrArg Pair.cfgBad (hk.pair_eq (by decide))).trans hv, fun h => ⟨(hk.f_eq (by decide) _ _).trans (hvb h).1, Dev.cmpVoid_adoptCheck _ (hvb h).2⟩⟩

theorem Dev.pxState_compares (cyc : Nat) (p : List Byte) (h : pxUnit p = 2) (hs : (s.showPartner p).standby = true) :
    (s.pxState cyc p).pair.cfgBad = decide (fieldBE p 52 4 ≠ (s.showPartner p).cfgidAt (s.cycNear cyc)) ∧
    (fieldBE p 52 4 ≠ (s.showPartner p).cfgidAt (s.cycNear cyc) →
      (s.pxState cyc p).f F.PAIR_EVT_CFG_MISMATCH = 1 ∧ s.cycNear cyc ∈ (s.pxState cyc p).loom.cmpVoid) := by
  have hbad : (s.showPartner p).cfgDiffers (s.cycNear cyc) p = decide (fieldBE p 52 4 ≠ (s.showPartner p).cfgidAt (s.cycNear cyc)) := by
    rw [Dev.cfgDiffers, hs, decide_eq_true h]
    rfl
  rw [Dev.pxState_eq, hbad]
  obtain ⟨h1, h2⟩ := Dev.comparePartner_spec (s := (s.showPartner p).notePartner p (s.freshCov p)
    (decide (fieldBE p 52 4 ≠ (s.showPartner p).cfgidAt (s.cycNear cyc)))) (s.cycNear cyc) p (decide (fieldBE p 52 4 ≠ (s.showPartner p).cfgidAt (s.cycNear cyc)))
  exact ⟨h1, fun hq => h2 (decide_eq_true hq)⟩
end

/-- Settles O57. -/
theorem pairExchangeBlocks : Obligations.PairExchangeBlocks := by
  refine ⟨fun t cyc p ht hc hp => pxParts_pxBytes ht hc hp, fun t data h => pxParts_bad h, ?_⟩
  intro s L hd bd d data here
  have hhere : here → d.isPair L = true ∧ d.inRun L = true := id
  have hgraft : ∀ {cyc p}, here → pxParts 2 data = some (cyc, p) → s.Runs (.pxGraft L hd bd true) (d.pxGraft cyc p) := fun h hp =>
    State.runs_pxGraft.of_eq (Dev.pxTake_good (s := d) _ (hhere h) hp)
  have hmlist : ∀ {cyc p}, here → pxParts 3 data = some (cyc, p) → s.Runs (.pxMlist L hd bd true) (d.pxMlist cyc p) := fun h hp =>
    State.runs_pxMlist.of_eq (Dev.pxTake_good (s := d) _ (hhere h) hp)
  have hstate : ∀ {cyc p}, here → pxParts 1 data = some (cyc, p) → s.Runs (.pxState L hd bd true) (d.pxState cyc p) := fun h hp =>
    State.runs_pxState.of_eq (Dev.pxTake_good (s := d) _ (hhere h) hp)
  refine ⟨fun clean hn c hc => ?_, fun clean h x hx hb => ?_, ?_, fun h ha => ⟨fun hp => ?_, fun hp => ?_⟩, ?_, ?_, ?_⟩
  · simp only [List.mem_cons, List.not_mem_nil, or_false] at hc
    rcases hc with rfl | rfl | rfl | rfl
    · exact State.runs_pxState.of_eq (Dev.pxTake_elsewhere (s := d) _ hn)
    · exact State.runs_pxGraft.of_eq (Dev.pxTake_elsewhere (s := d) _ hn)
    · exact State.runs_pxMlist.of_eq (Dev.pxTake_elsewhere (s := d) _ hn)
    · exact State.runs_pxMapdig.of_eq (Dev.pxTake_elsewhere (s := d) _ hn)
  · simp only [List.mem_cons, List.not_mem_nil, or_false] at hx
    rcases hx with rfl | rfl | rfl | rfl
    · exact State.runs_pxState.of_eq (Dev.pxTake_bad (s := d) _ (hhere h) hb)
    · exact State.runs_pxGraft.of_eq (Dev.pxTake_bad (s := d) _ (hhere h) hb)
    · exact State.runs_pxMlist.of_eq (Dev.pxTake_bad (s := d) _ (hhere h) hb)
    · exact State.runs_pxMapdig.of_eq (Dev.pxTake_bad (s := d) _ (hhere h) hb)
  · intro cyc p h hp u
    exact State.runs_pxMapdig.of_eq ((Dev.pxTake_good (s := d) _ (hhere h) hp).trans (Dev.mapJudge_eq (s := u) rfl))
  · obtain ⟨⟨cyc, p⟩, hcp⟩ := Option.ne_none_iff_exists'.mp hp
    exact (hgraft h hcp).of_eq (Dev.pxGraft_active (s := d) cyc p ha)
  · obtain ⟨⟨cyc, p⟩, hcp⟩ := Option.ne_none_iff_exists'.mp hp
    exact (hmlist h hcp).of_eq (Dev.pxMlist_active (s := d) cyc p ha)
  · intro cyc p h ha hp n ng key due words vals
    exact (hgraft h hp).of_eq (Dev.pxGraft_standby (s := d) cyc p ha)
  · intro cyc p h ha hp hlt n k at_ m
    refine ⟨fun hk => ?_, fun hk => ?_⟩
    · refine ((hmlist h hp).of_eq (Dev.pxMlist_none (s := d) (cyc := cyc) ha hlt hk)).of_eq ?_
      rw [Dev.withMlist, Dev.mlistOf, if_pos hk]
      rfl
    · have hkeep := Dev.pxMlist_some (s := d) (cyc := cyc) ha hlt hk
      refine (hmlist h hp).does ⟨(hkeep.pair_eq (by decide)).trans ?_, hkeep.gate_eq (by decide), hkeep.loom_eq (by decide)⟩
      rw [Dev.withMlist, Dev.mlistOf, if_neg hk]
      rfl
  · intro cyc p h hp n words st fresh u0 u
    exact ⟨fun hst => (hstate h hp).of_eq (Dev.pxState_apart (s := d) cyc p hst), fun hst hs => (hstate h hp).does (Dev.pxState_compares (s := d) cyc p hst hs)⟩

end Sys2Proof.Machine
end

section
/-! The end of a run of a slot beyond the 64, and O10: the registers of slot 64 that the end of its run writes (R67) begin where those of the
dependency table (R64) stand. -/

namespace Sys2Proof.Machine

/-- A run of slot 64 that has executed its last instruction. -/
def beyondExec : Exec :=
  { run := { slot := 64, cyc := 0, set := 0, mode := 0, bank := 0, base := 0, len := 0, t0 := 0, arr := [], graft := false, late := false }
    pc := 0, p := false, acc := 0, start := 0, el := 0, wrote := [], noGraft := false }

/-- A run of slot 1 that is due, and waits. -/
def waitingRun : Run := { slot := 1, cyc := 0, set := 0, mode := 0, bank := 0, base := 0, len := 0, t0 := 0, arr := [], graft := false, late := false }

/-- A device where entry 2 of the dependency table of slot 1 names slot 64, whose run has reached its end on shuttle 0. -/
def beyondEnd : State :=
  let dev := State.reset.dev
  { State.reset with dev := { dev with loom := { dev.loom with
      regs := [(F.LOOM_SLOT_DEP_INDEX.key 0 1 2, 64), (F.LOOM_SLOT_DEP_KIND.key 0 1 2, 1)]
      sh := [(0, beyondExec)]
      due := [waitingRun] } } }

/-- START of slot 64 is kept where INDEX of entry 2 of slot 1 is. -/
theorem latStart_key_eq_depIndex : F.LOOM_SLOT_LAT_START.key 0 64 0 = F.LOOM_SLOT_DEP_INDEX.key 0 1 2 := by decide

/-- The run that waits is not told. -/
theorem beyondEnd_due : ∀ q ∈ (beyondEnd.dev.begin.runEnd 0).loom.due, q.arr = [] := by decide

/-- Refutes O10: the end of a run of slot 64 writes START of that slot over the entry of the dependency table that names it, so the run that waits for
slot 64 is not told. -/
theorem not_loomRunsAndMemories : ¬ Obligations.LoomRunsAndMemories := by
  unfold Obligations.LoomRunsAndMemories
  intro h
  obtain ⟨-, -, -, -, -, -, hend, -⟩ := h beyondEnd
  obtain ⟨u, hrun, -, -, -, -, -, -, hdue, -⟩ := hend 0 beyondExec rfl (Nat.le_refl _)
  obtain ⟨q, hq, -, -, harr⟩ := hdue waitingRun List.mem_cons_self rfl
  have hl := congrArg Dev.loom (hrun.settle_eq State.runs_runEnd)
  rw [Dev.settle_loom, Dev.settle_loom] at hl
  have hmem := harr 2 (by decide) (by decide)
  rw [beyondEnd_due q (hl ▸ hq)] at hmem
  exact absurd hmem List.not_mem_nil

end Sys2Proof.Machine
end

section
/-! The instructions of a slot beyond the 64, and O11: SAT of slot 592 (R99) stands where HOST_OUT word 8 does (R77). -/

namespace Sys2Proof.Machine

/-- A run of slot 592 at its first instruction. -/
def farExec : Exec :=
  { run := { slot := 592, cyc := 0, set := 0, mode := 0, bank := 0, base := 0, len := 1, t0 := 0, arr := [], graft := false, late := false }
    pc := 0, p := false, acc := 0, start := 0, el := 0, wrote := [], noGraft := false }

/-- NEG of word 0x1800 to egress word 0. -/
def farNeg : LoomOp := { opc := .negOp, pred := 0, rnd := false, satp := false, dst := 0x800, srca := 0x1800, srcb := 0, shf := 0 }

/-- A device where egress word 0 goes to HOST_OUT word 8, and a run of slot 592 negates the least word. -/
def farSlot : State :=
  let dev := State.reset.dev
  { State.reset with dev := { dev with loom := { dev.loom with
      regs := [(F.LOOM_OUT_MAP_EN.key 0 0 0, 1), (F.LOOM_OUT_MAP_DST.key 0 0 0, 5), (F.LOOM_OUT_MAP_SEL.key 0 0 0, 8)]
      ram := Mem.store [] (4 * 0x1800) 4 0x80000000
      prog0 := Mem.store [] 0 8 farNeg.encode
      sh := [(0, farExec)] } } }

/-- SAT of slot 592 is kept where HOST_OUT word 8 is. -/
theorem flagsSat_key_eq_hostOut : F.LOOM_SLOT_FLAGS_SAT.key 0 592 0 = F.LOOM_HOST_OUT_VALUE.key 0 8 0 := by decide

theorem farSlot_next : farSlot.dev.begin.nextOp farExec = some farNeg := by decide

theorem farSlot_sat : (Isa.neg (farSlot.dev.begin.operands farExec farNeg)).wr.any (fun w => outside32 w.2) = true := by decide

/-- The word that saturated has gone to HOST_OUT, and stands where the flag should. -/
theorem farSlot_flag : (farSlot.dev.begin.instr 0 .negOp Isa.neg).f F.LOOM_SLOT_FLAGS_SAT 592 = 0x7FFFFFFF := by decide

/-- Refutes O11: the saturated word of a run of slot 592 goes to HOST_OUT word 8, which is the place of SAT of that slot, so SAT does not read 1. -/
theorem not_loomInstructions : ¬ Obligations.LoomInstructions := by
  unfold Obligations.LoomInstructions
  intro h
  obtain ⟨-, -, hrun, -⟩ := h farSlot 0 .negOp (.neg 0) Isa.neg (by simp)
  obtain ⟨-, -, hexec, -⟩ := hrun farExec farNeg rfl farSlot_next
  obtain ⟨u, hu, -, -, -, -, hsat, -⟩ := hexec rfl rfl rfl rfl
  have hs := congrArg (·.f F.LOOM_SLOT_FLAGS_SAT 592) (hu.settle_eq State.runs_neg)
  have hf : ∀ v : Dev, (Dev.settle farSlot.dev v).f F.LOOM_SLOT_FLAGS_SAT 592 = v.f F.LOOM_SLOT_FLAGS_SAT 592 := fun v =>
    Dev.fb_of_regs (G := F.LOOM_SLOT_FLAGS_SAT) (Dev.settle_role _ v) (congrArg Loom.regs (Dev.settle_loom _ v)) 0 592 0
  have hone : u.f F.LOOM_SLOT_FLAGS_SAT 592 = 1 := hsat ((congrArg (false || ·) farSlot_sat).trans rfl)
  rw [hf, hf, hone, farSlot_flag] at hs
  exact absurd hs (by decide)

end Sys2Proof.Machine
end

section
/-! What a boundary reads and writes of the control cycle (R33 to R53): the grid, the swap that is pending, and the cycles in progress. -/

namespace Sys2Proof.Machine

/-! ## The grid, the swap and the cycles -/

/-- The fields of GLOBAL by which cycles run. -/
def gridFlds : List Fld :=
  [F.GLOBAL_CYCLE_CTL_RUN, F.GLOBAL_CYCLE_CTL_STAMP, F.GLOBAL_CYCLE_CTL_PERIOD, F.GLOBAL_CYCLE_PHASE_PHASE, F.GLOBAL_STAMP_ALLOW, F.GLOBAL_STAMP_FIXED,
   F.GLOBAL_CYCLE_CNT_CYCLE]

/-- The fields of GLOBAL that a swap changes. -/
def swapFlds : List Fld := [F.GLOBAL_CFG_STAT_ACTIVE, F.GLOBAL_CFG_STAT_PENDING, F.GLOBAL_CFG_STAT_STATUS, F.GLOBAL_CYCLE_STAT_SWAP_FAIL]

/-- GLOBAL but for its registers and the fingerprints of the cells. -/
def Glob.plain (g : Glob) : Glob := { g with regs := [], idfp := [], idPend := [], idEp := [] }

/-- GLOBAL but for that, the cycles and the swap. -/
def Glob.grid (g : Glob) : Glob := { g.plain with cycles := [], swap := none, swapOk := false }

/-- The values of some fields, in every copy and at every index. -/
def Dev.values (w : List Fld) (s : Dev) : List (Nat → Nat → Nat → Nat) := w.map fun G b i j => s.fb G b i j

/-- The carrier periods of the arms, in every copy. -/
def Dev.cpers (s : Dev) (b a : Nat) : Nat := if a < 12 then s.fb F.TRUNK_CARRIER_CPER b a else 0

/-- By what cycles run: the role, GLOBAL, the fields of the grid, the carrier periods. -/
def Dev.grid (s : Dev) : Role × Glob × List (Nat → Nat → Nat → Nat) × (Nat → Nat → Nat) := (s.role, s.glob.grid, s.values gridFlds, s.cpers)

/-- The swap that is pending, and what the registers show of it. -/
def Dev.swapSeen (s : Dev) : Option Swap × Bool × List (Nat → Nat → Nat → Nat) := (s.glob.swap, s.glob.swapOk, s.values swapFlds)

/-- All that a boundary must not change by the way. -/
def Dev.plan (s : Dev) := (s.grid, s.swapSeen, s.glob.cycles)

section
variable {s u v : Dev} {w : List Fld} {own : List Blk}

theorem Dev.fb_of_values (h : u.values w = s.values w) {G : Fld} (hG : G ∈ w) (b i j : Nat) : u.fb G b i j = s.fb G b i j :=
  congrFun (congrFun (congrFun (List.map_inj_left.1 h G hG) b) i) j

theorem Dev.fb_of_grid (h : u.grid = s.grid) {G : Fld} (hG : G ∈ gridFlds) (b i j : Nat) : u.fb G b i j = s.fb G b i j :=
  Dev.fb_of_values (congrArg (·.2.2.1) h) hG b i j
theorem Dev.fb_of_swapSeen (h : u.swapSeen = s.swapSeen) {G : Fld} (hG : G ∈ swapFlds) (b i j : Nat) : u.fb G b i j = s.fb G b i j :=
  Dev.fb_of_values (congrArg (·.2.2) h) hG b i j
theorem Dev.role_of_grid (h : u.grid = s.grid) : u.role = s.role := congrArg (·.1) h
theorem Dev.glob_of_grid (h : u.grid = s.grid) : u.glob.grid = s.glob.grid := congrArg (·.2.1) h
theorem Dev.nextCyc_of_grid (h : u.grid = s.grid) : u.glob.nextCyc = s.glob.nextCyc := congrArg (·.2.1.nextCyc) h
theorem Dev.cper_of_grid (h : u.grid = s.grid) {a : Nat} (ha : a < 12) (b : Nat) : u.fb F.TRUNK_CARRIER_CPER b a = s.fb F.TRUNK_CARRIER_CPER b a := by
  have := congrFun (congrFun (congrArg (·.2.2.2) h) b) a
  simpa only [Dev.grid, Dev.cpers, if_pos ha] using this
theorem Dev.swap_of_seen (h : u.swapSeen = s.swapSeen) : u.glob.swap = s.glob.swap := congrArg (·.1) h
theorem Dev.actSet_of_seen (h : u.swapSeen = s.swapSeen) : u.actSet = s.actSet := Dev.fb_of_swapSeen h (by decide) ..
theorem Dev.grid_of_plan (h : u.plan = s.plan) : u.grid = s.grid := congrArg (·.1) h
theorem Dev.seen_of_plan (h : u.plan = s.plan) : u.swapSeen = s.swapSeen := congrArg (·.2.1) h
theorem Dev.cycles_of_plan (h : u.plan = s.plan) : u.glob.cycles = s.glob.cycles := congrArg (·.2.2) h
theorem Dev.plan_of (hg : u.grid = s.grid) (hs : u.swapSeen = s.swapSeen) (hc : u.glob.cycles = s.glob.cycles) : u.plan = s.plan := by
  rw [Dev.plan, Dev.plan, hg, hs, hc]

/-! ### What leaves them alone -/

theorem Dev.values_of (h : ∀ G ∈ w, ∀ b i j, u.fb G b i j = s.fb G b i j) : u.values w = s.values w :=
  List.map_congr_left fun G hG => by funext b i j; exact h G hG b i j

theorem Dev.cpers_of (h : ∀ a, a < 12 → ∀ b, u.fb F.TRUNK_CARRIER_CPER b a = s.fb F.TRUNK_CARRIER_CPER b a) : u.cpers = s.cpers := by
  funext b a
  unfold Dev.cpers
  split
  · exact h a ‹_› b
  · rfl

theorem Dev.grid_of (hr : u.role = s.role) (hg : u.glob.grid = s.glob.grid) (hf : ∀ G ∈ gridFlds, ∀ b i j, u.fb G b i j = s.fb G b i j)
    (hc : ∀ a, a < 12 → ∀ b, u.fb F.TRUNK_CARRIER_CPER b a = s.fb F.TRUNK_CARRIER_CPER b a) : u.grid = s.grid := by
  rw [Dev.grid, Dev.grid, hr, hg, Dev.values_of hf, Dev.cpers_of hc]

theorem Dev.swapSeen_of (hw : u.glob.swap = s.glob.swap) (hk : u.glob.swapOk = s.glob.swapOk) (hf : ∀ G ∈ swapFlds, ∀ b i j, u.fb G b i j = s.fb G b i j) :
    u.swapSeen = s.swapSeen := by
  rw [Dev.swapSeen, Dev.swapSeen, hw, hk, Dev.values_of hf]

theorem Dev.plan_of_plain (hr : u.role = s.role) (hg : u.glob.plain = s.glob.plain) (hf : ∀ G ∈ gridFlds ++ swapFlds, ∀ b i j, u.fb G b i j = s.fb G b i j)
    (hc : ∀ a, a < 12 → ∀ b, u.fb F.TRUNK_CARRIER_CPER b a = s.fb F.TRUNK_CARRIER_CPER b a) : u.plan = s.plan :=
  Dev.plan_of (Dev.grid_of hr (congrArg (fun g : Glob => { g with cycles := [], swap := none, swapOk := false }) hg) (fun G hG => hf G (List.mem_append_left _ hG)) hc)
    (Dev.swapSeen_of (congrArg Glob.swap (a₁ := u.glob.plain) (a₂ := s.glob.plain) hg) (congrArg Glob.swapOk (a₁ := u.glob.plain) (a₂ := s.glob.plain) hg)
      fun G hG => hf G (List.mem_append_right _ hG))
    (congrArg Glob.cycles (a₁ := u.glob.plain) (a₂ := s.glob.plain) hg)

/-- Steps that leave GLOBAL and the lanes alone. -/
theorem Dev.Keeps.plan_eq {outs : List Out} (h : s.Keeps own outs u) (hg : .global ∉ own) (ht : .trunk ∉ own) : u.plan = s.plan :=
  Dev.plan_of_plain h.role_eq (by rw [h.glob_eq hg])
    (fun G hG => h.fb_eq (by rw [(by decide : ∀ G ∈ gridFlds ++ swapFlds, G.blk.home = .global) G hG]; exact hg)) fun a _ b => h.fb_eq (G := F.TRUNK_CARRIER_CPER) ht b a 0

theorem Dev.Grows.plan_eq (h : s.Grows own u) (hg : .global ∉ own) (ht : .trunk ∉ own) : u.plan = s.plan := h.keeps.plan_eq hg ht

/-- A field that is no part of the plan, wherever it is written: the lanes' registers end before the carrier periods. -/
def Fld.aside (E : Fld) (i j : Nat) : Bool :=
  (gridFlds ++ swapFlds).all (·.apart E) && (F.TRUNK_CARRIER_CPER.apart E || decide (E.lo < 64 ∧ E.off + E.s1 * i + E.s2 * j < 16192))

theorem Fld.cper_key_ne {E : Fld} {i j : Nat} (h : E.aside i j = true) {a b : Nat} : F.TRUNK_CARRIER_CPER.blk ≠ E.blk ∨ F.TRUNK_CARRIER_CPER.key b a 0 ≠ E.key 0 i j := by
  simp only [Fld.aside, Bool.and_eq_true, Bool.or_eq_true, decide_eq_true_eq] at h
  rcases h.2 with h | ⟨h1, h2⟩
  · exact Fld.key_ne_of_apart h ..
  · refine .inr fun e => ?_
    simp only [Fld.key] at e
    have ho : F.TRUNK_CARRIER_CPER.off = 16192 := rfl
    omega

theorem Dev.plan_put {E : Fld} {i j : Nat} (h : E.aside i j = true) (x : Nat) : (s.put E x i j).plan = s.plan := by
  have hw : (gridFlds ++ swapFlds).all (·.apart E) = true := (Bool.and_eq_true_iff.1 h).1
  refine Dev.plan_of_plain (Dev.put_role ..) ?_ (fun G hG b i' j' => Dev.fb_put_apart _ _ _ _ _ _ _ (List.all_eq_true.1 hw G hG))
    fun a _ b => Dev.fb_putb_other _ _ _ _ _ _ _ (Fld.cper_key_ne h)
  by_cases hb : E.blk = .global
  · unfold Dev.put Dev.putb
    rw [hb]
    rfl
  · exact congrArg Glob.plain (Dev.setRegs_glob _ _ _ hb)

theorem Dev.plan_befall {E : Fld} {i j : Nat} (h : E.aside i j = true) (g : Nat → Nat) : (s.befall E g i j).plan = s.plan :=
  (Dev.plan_of_plain (u := s.befall E g i j) (s := s.put E (g (s.f E i j)) i j) rfl rfl (fun _ _ _ _ _ => Dev.befall_fb ..) fun _ _ _ => Dev.befall_fb ..).trans (Dev.plan_put h _)

theorem Dev.plan_raise {E : Fld} {i j : Nat} (h : E.aside i j = true) : (s.raise E i j).plan = s.plan := Dev.plan_befall h _
theorem Dev.plan_inc {E : Fld} {i j : Nat} (h : E.aside i j = true) (n : Nat) : (s.inc E n i j).plan = s.plan := Dev.plan_befall h _
theorem Dev.plan_top {E : Fld} {i j : Nat} (h : E.aside i j = true) (n : Nat) : (s.top E n i j).plan = s.plan := Dev.plan_befall h _

theorem Dev.plan_iff (c : Bool) (g : Dev → Dev) (h : (g s).plan = s.plan) : (s.iff c g).plan = s.plan := by
  cases c
  · rfl
  · exact h

theorem Dev.plan_each {α : Type} (l : List α) (g : Dev → α → Dev) (h : ∀ v, ∀ a ∈ l, (g v a).plan = v.plan) : (s.each l g).plan = s.plan :=
  Dev.each_inv (fun v => v.plan = s.plan) l g (fun v a ha hv => (h v a ha).trans hv) s rfl

theorem Dev.plan_ite (c : Prop) [Decidable c] (hu : c → u.plan = s.plan) (hv : ¬ c → v.plan = s.plan) : (if c then u else v).plan = s.plan := by
  split
  · exact hu ‹_›
  · exact hv ‹_›

theorem Dev.plan_emit (o : Out) : (s.emit o).plan = s.plan := (Dev.grows_emit [] s o).plan_eq (by simp) (by simp)
theorem Dev.plan_send (L k : Nat) (d : List Byte) : (s.send L k d).plan = s.plan := Dev.plan_ite _ (fun _ => Dev.plan_emit _) fun _ => rfl
theorem Dev.plan_setProto (x : Proto) : ({ s with proto := x } : Dev).plan = s.plan := rfl
theorem Dev.plan_setLane (L : Nat) (x : LaneSt) : (s.setLane L x).plan = s.plan := rfl

end

end Sys2Proof.Machine
end

section
/-! The lanes, the requests and the superframes of a boundary leave the plan of the cycles alone (R181, R199, R205, R223 to R228). -/

namespace Sys2Proof.Machine

section
variable {s u : Dev}

/-! ### Lanes -/

/-- A lane's field that is no part of the plan, for each lane of the device. -/
def Fld.laneAside (E : Fld) : Bool := E.aside 63 0 && E.onLeaf.aside 63 0 && decide (E.blk = .trunk)

theorem Fld.aside_mono {E : Fld} {i i' : Nat} (h : E.aside i 0 = true) (hi : i' ≤ i) : E.aside i' 0 = true := by
  simp only [Fld.aside, Bool.and_eq_true, Bool.or_eq_true, decide_eq_true_eq] at *
  have := Nat.mul_le_mul_left E.s1 hi
  exact ⟨h.1, h.2.imp id fun ⟨h1, h2⟩ => ⟨h1, by omega⟩⟩

/-- A field of another block is no part of the plan, at any index. -/
theorem Fld.aside_block {E : Fld} (h : E.blk ≠ .global) (h' : E.blk ≠ .trunk) (i j : Nat) : E.aside i j = true := by
  have hg : ∀ G ∈ gridFlds ++ swapFlds, G.blk = .global := by decide
  simp only [Fld.aside, Bool.and_eq_true, Bool.or_eq_true, List.all_eq_true]
  exact ⟨fun G hG => by simp [Fld.apart, hg G hG, h.symm], .inl (by simp [Fld.apart, show F.TRUNK_CARRIER_CPER.blk = .trunk from rfl, h'.symm])⟩

theorem Fld.laneAside_at {E : Fld} (h : E.laneAside = true) (L : Nat) : (laneFld E L).aside (laneIdx L) 0 = true := by
  simp only [Fld.laneAside, Bool.and_eq_true] at h
  unfold laneFld laneIdx
  split
  · exact Fld.aside_mono h.1.1 (by omega)
  · exact Fld.aside_block (by simp [Fld.onLeaf]) (by simp [Fld.onLeaf]) _ _

theorem Dev.plan_putLn {E : Fld} (h : E.laneAside = true) (L x : Nat) : (s.putLn E L x).plan = s.plan := Dev.plan_put (Fld.laneAside_at h L) x
theorem Dev.plan_incLn {E : Fld} (h : E.laneAside = true) (L x : Nat) : (s.incLn E L x).plan = s.plan := Dev.plan_inc (Fld.laneAside_at h L) x

theorem Dev.plan_attempt (L st : Nat) (x : LaneSt) : (s.attempt L st x).plan = s.plan :=
  (Dev.plan_setLane ..).trans ((Dev.plan_putLn (by decide) _ _).trans (Dev.plan_putLn (by decide) _ _))

theorem Dev.plan_leaveRun (L : Nat) : (s.leaveRun L).plan = s.plan :=
  Dev.plan_ite _ (fun _ => rfl) fun _ => (Dev.plan_putLn (by decide) _ _).trans ((Dev.plan_putLn (by decide) _ _).trans ((Dev.plan_incLn (by decide) _ _).trans
    ((Dev.plan_putLn (by decide) _ _).trans (Dev.plan_putLn (by decide) _ _))))

theorem Dev.plan_toDetect (L : Nat) (idle : Bool) : (s.toDetect L idle).plan = s.plan :=
  (Dev.plan_putLn (by decide) _ _).trans ((Dev.plan_attempt ..).trans (Dev.plan_leaveRun L))

theorem Dev.plan_laneRetrain (L : Nat) : (s.laneRetrain L).plan = s.plan :=
  Dev.plan_ite _ (fun _ => (Dev.plan_toDetect ..).trans (Dev.plan_putLn (by decide) _ _)) fun _ => rfl

theorem Dev.plan_pwrEnter (L : Nat) : (s.pwrEnter L).plan = s.plan := by
  unfold Dev.pwrEnter
  split
  · rfl
  · exact Dev.plan_ite _ (fun _ => rfl) fun _ => (Dev.plan_iff _ _ (Dev.plan_putLn (by decide) _ _)).trans (Dev.plan_setLane ..)

theorem Dev.plan_pwrBoundary : s.pwrBoundary.plan = s.plan := Dev.plan_each _ _ fun v e _ => v.plan_pwrEnter e.1

theorem Dev.plan_rbEmit (l : List Nat) : (s.rbEmit l).plan = s.plan := by
  refine Dev.plan_ite _ (fun _ => rfl) fun _ => ?_
  refine (Dev.plan_iff _ _ ((Dev.plan_inc (by decide) _).trans (Dev.plan_raise (by decide)))).trans ?_
  refine (Dev.plan_iff _ _ ((Dev.plan_inc (by decide) _).trans (Dev.plan_raise (by decide)))).trans ?_
  exact (rfl : Dev.plan { (s.each l fun s L => s.emit (.lane L 0xFE [])) with reel := _ } = _).trans (Dev.plan_each _ _ fun _ _ _ => Dev.plan_emit _)

theorem Dev.plan_sofSent (L : Nat) : (s.sofSent L).plan = s.plan := Dev.plan_ite _ (fun _ => rfl) fun _ => rfl

theorem Dev.plan_managerSof (n : Nat) : (s.managerSof n).plan = s.plan := by
  unfold Dev.managerSof
  extract_lets act gen plane set t v
  have hv : v.plan = s.plan := Dev.plan_each _ _ fun v L _ => (Dev.plan_sofSent L).trans (Dev.plan_emit _)
  exact Dev.plan_ite _ (fun _ => (Dev.plan_rbEmit _).trans hv) fun _ => Dev.plan_ite _ (fun _ => (Dev.plan_rbEmit _).trans hv) fun _ => hv

theorem Dev.plan_msSpan : s.msSpan.plan = s.plan := (Dev.plan_put (by decide) _).trans (Dev.plan_put (by decide) _)

/-! ### Requests and fingerprints -/

theorem Dev.plan_rrComplete (q : RrReq) (st : Status) (ep x : Nat) : (s.rrComplete q st ep x).plan = s.plan := by
  unfold Dev.rrComplete
  split
  · split
    · exact (Dev.grows_finish s (own := [.hostq]) (by decide) ..).plan_eq (by decide) (by decide)
    · rfl
  · exact Dev.plan_ite _ (fun _ => rfl) fun _ => rfl

theorem Dev.plan_rrGone (q : RrReq) : (s.rrGone q).plan = s.plan := by
  refine (Dev.plan_rrComplete ..).trans ?_
  split
  · exact Dev.plan_inc (by decide) _
  · exact Dev.plan_inc (by decide) _

theorem Dev.plan_rrSubmit (q : RrReq) : (s.rrSubmit q).plan = s.plan := Dev.plan_ite _ (fun _ => rfl) fun _ => Dev.plan_rrGone q

theorem Dev.plan_idReads : s.idReads.plan = s.plan :=
  Dev.plan_ite _ (fun _ => rfl) fun _ => Dev.plan_each _ _ fun v _ _ => Dev.plan_ite _ (fun _ => rfl) fun _ => Dev.plan_ite _ (fun _ => rfl) fun _ => Dev.plan_rrSubmit _

theorem Dev.plan_idForget (g : Nat) : (s.idForget g).plan = s.plan := rfl

/-- One request is looked at: it leaves where it may. -/
def Dev.rrTry (acc : Dev × List (Nat × List Byte)) (q : RrReq) : Dev × List (Nat × List Byte) :=
  let s := acc.1
  match s.rrTag q with
  | some t =>
    if s.rrMay q (acc.2.map (·.1)) then
      let L := s.rrLane q
      let pkt := reqPacket q.op q.dest q.port q.epoch t q.addr q.data
      ({ s with proto := { s.proto with
           rr := s.proto.rr.map fun x => if x.is q && x.sent.isNone then { x with sent := some (t, s.now) } else x,
           tags := Tab.put s.proto.tags (rrKey L q.dest q.port t) (s.now + 1) } }, acc.2 ++ [(L, pkt)])
    else acc
  | none => acc

theorem Dev.plan_rrTry (acc : Dev × List (Nat × List Byte)) (q : RrReq) : (Dev.rrTry acc q).1.plan = acc.1.plan := by
  unfold Dev.rrTry
  dsimp only
  split
  · split <;> rfl
  · rfl

theorem Dev.plan_rrTries (l : List RrReq) (acc : Dev × List (Nat × List Byte)) : (l.foldl Dev.rrTry acc).1.plan = acc.1.plan := by
  induction l generalizing acc with
  | nil => rfl
  | cons q l ih => exact (ih _).trans (Dev.plan_rrTry acc q)

theorem Dev.plan_rrSend : s.rrSend.plan = s.plan := by
  have h := Dev.plan_rrTries (s.proto.rr.filter fun q => q.sent.isNone) (s, [])
  exact (Dev.plan_each _ _ fun v _ _ => Dev.plan_send ..).trans h

theorem Dev.plan_stateSend (n : Nat) : (s.stateSend n).plan = s.plan := by
  unfold Dev.stateSend
  split
  · rfl
  · exact Dev.plan_send ..

theorem Dev.plan_setPair (x : Pair) : ({ s with pair := x } : Dev).plan = s.plan := rfl

theorem Dev.plan_mapSend : s.mapSend.plan = s.plan := by
  have hj : ∀ v : Dev, v.mapJudge.plan = v.plan := fun v => by
    unfold Dev.mapJudge
    split
    · exact Dev.plan_iff _ _ (Dev.plan_raise (by decide))
    · rfl
  unfold Dev.mapSend
  extract_lets d pair v
  have hv : v.plan = s.plan := (hj _).trans (Dev.plan_setPair _)
  split
  · exact (Dev.plan_send ..).trans hv
  · exact hv

theorem Dev.plan_pairSwapped (n : Nat) : (s.pairSwapped n).plan = s.plan :=
  Dev.plan_mapSend.trans ((Dev.plan_setPair (s := s.put F.PAIR_CFGID_OWN (s.cfgid s.actSet)) _).trans (Dev.plan_put (by decide) _))

end

end Sys2Proof.Machine
end

section
/-! The frames of what a boundary does inside the blocks: Loom (R136), Spindle (R141, R160), Reel (R367, R381), PAIR (R296 to R313). -/

namespace Sys2Proof.Machine

section
variable {s u : Dev} {own : List Blk} {outs : List Out}

/-! ### Loom -/

/-- The fields of a register are of one block. -/
theorem Reg.flds_home {b : Blk} (R : Reg) (h : (R.flds.all fun G => decide (G.blk = b)) = true) (hb : b.home ∈ own) : ∀ G ∈ R.flds, G.blk.home ∈ own := fun G hG => by
  rw [of_decide_eq_true (List.all_eq_true.1 h G hG)]
  exact hb

theorem Dev.Keeps.hoStart (h : s.Keeps own outs u) (hb : .loom ∈ own) (slot n : Nat) (a b : Option Nat) : s.Keeps own outs (u.hoStart slot n a b) := by
  unfold Dev.hoStart
  split
  · exact (Dev.Keeps.setLoom h hb _).raise (G := F.LOOM_MODE_STAT_PENDING) hb _ _
  · exact (h.put (G := F.LOOM_MODE_STAT_PENDING) hb _ _ _).put (G := F.LOOM_MODE_STAT_SLEWING) hb _ _ _

theorem Dev.Keeps.setMode (h : s.Keeps own outs u) (hb : .loom ∈ own) (set slot m : Nat) : s.Keeps own outs (u.setMode set slot m) :=
  (h.put (G := F.LOOM_MODE_STAT_MODE) hb _ _ _).put (G := F.LOOM_MODE_STAT_TIME) hb _ _ _

theorem Dev.Keeps.modeSwap (h : s.Keeps own outs u) (hb : .loom ∈ own) (old new n slot : Nat) : s.Keeps own outs (u.modeSwap old new n slot) :=
  .ite _ (fun _ => ((h.setMode hb _ _ _).raise (G := F.LOOM_MODE_STAT_MODE_BAD) hb _ _).hoStart hb _ _ _ _) fun _ => .ite _ (fun _ => h.hoStart hb _ _ _ _) fun _ => h

theorem Dev.Keeps.loomLoaded (h : s.Keeps own outs u) (hb : .loom ∈ own) (set : Nat) : s.Keeps own outs (u.loomLoaded set) :=
  (h.each _ _ fun _ _ _ hv => (hv.put (G := F.LOOM_SLOT_TIME_TIME) hb _ _ _).put (G := F.LOOM_MODE_STAT_TIME) hb _ _ _).put (G := F.LOOM_GRAFT_STAT_WORDS) hb _ _ _

theorem Dev.Keeps.linkCopy (h : s.Keeps own outs u) (hb : .loom ∈ own) (t : Nat) : s.Keeps own outs (u.linkCopy t) :=
  Dev.Keeps.setLoom ((Dev.Keeps.setLoom h hb _).each _ _ fun _ _ _ hv => Dev.Keeps.setLoom hv hb _) hb _

theorem Dev.Keeps.adoptNow (h : s.Keeps own outs u) (hb : .loom ∈ own) (set : Nat) : s.Keeps own outs (u.adoptNow set) := by
  unfold Dev.adoptNow
  split
  · exact h
  · have hl := Dev.Keeps.setLoom h hb { u.loom with adopt := none }
    refine .ite _ (fun _ => hl) fun _ => ?_
    exact (((hl.put (G := F.LOOM_SCHED_STAT_K0) hb _ _ _).put (G := F.LOOM_SCHED_STAT_K1) hb _ _ _).put (G := F.LOOM_SCHED_CNT_DWELL_LEFT) hb _ _ _).each _ _ fun _ _ _ hv =>
      ((hv.setMode hb _ _ _).put (G := F.LOOM_MODE_STAT_PENDING) hb _ _ _).put (G := F.LOOM_MODE_STAT_SLEWING) hb _ _ _

theorem Dev.Keeps.regionEval (h : s.Keeps own outs u) (hb : .loom ∈ own) (set : Nat) (swapped : Bool) : s.Keeps own outs (u.regionEval set swapped) := by
  unfold Dev.regionEval
  have h1 : s.Keeps own outs (u.xferReg F.regLoomSchedForce) := h.xferReg _ (Reg.flds_home (b := .loom) _ (by decide) hb) _ _
  generalize u.xferReg F.regLoomSchedForce = a at h1
  dsimp only
  have h2 : s.Keeps own outs (a.iff (a.schedBad set 0 || a.schedBad set 1) fun s => s.raise F.LOOM_SCHED_STAT_HOLD) := h1.iff _ _ fun _ => h1.raise (G := F.LOOM_SCHED_STAT_HOLD) hb _ _
  generalize a.iff (a.schedBad set 0 || a.schedBad set 1) (fun s => s.raise F.LOOM_SCHED_STAT_HOLD) = b at h2
  refine Dev.Keeps.put (G := F.LOOM_SCHED_STAT_REGION) (Dev.Keeps.put (G := F.LOOM_SCHED_STAT_FORCED) ?_ hb _ _ _) hb _ _ _
  refine .ite _ (fun _ => h2.put (G := F.LOOM_SCHED_CNT_DWELL_LEFT) hb _ _ _) fun _ => .ite _ (fun _ => h2.put (G := F.LOOM_SCHED_CNT_DWELL_LEFT) hb _ _ _) fun _ => ?_
  exact (((h2.put (G := F.LOOM_SCHED_STAT_K0) hb _ _ _).put (G := F.LOOM_SCHED_STAT_K1) hb _ _ _).inc (G := F.LOOM_SCHED_CNT_CHANGES) hb _ _ _).put (G := F.LOOM_SCHED_CNT_DWELL_LEFT) hb _ _ _

theorem Dev.Keeps.modeStep (h : s.Keeps own outs u) (hb : .loom ∈ own) (set n slot : Nat) : s.Keeps own outs (u.modeStep set n slot) := by
  unfold Dev.modeStep
  have h1 : s.Keeps own outs (u.xferReg F.regLoomModeReq slot) := h.xferReg _ (Reg.flds_home (b := .loom) _ (by decide) hb) _ _
  generalize u.xferReg F.regLoomModeReq slot = a at h1
  dsimp only
  generalize a.modeAsked slot = want
  generalize (!u.slotEn set slot || u.runCycle slot n) = point
  generalize (if want ≠ Tab.get 0 a.loom.modeReq slot % 4 then decide (want ≠ a.f F.LOOM_MODE_STAT_MODE slot)
    else decide (4 ≤ Tab.get 0 a.loom.modeReq slot) && decide (want ≠ a.f F.LOOM_MODE_STAT_MODE slot)) = pend
  have h2 := Dev.Keeps.setLoom h1 hb { a.loom with modeReq := Tab.set 0 a.loom.modeReq slot (want + b2n (pend && !point) * 4) }
  generalize ({ a with loom := { a.loom with modeReq := Tab.set 0 a.loom.modeReq slot (want + b2n (pend && !point) * 4) } } : Dev) = b at h2
  have h3 := Dev.Keeps.ite (pend && point) (fun _ => Dev.Keeps.ite ((b.modeProg set slot want).2 = 0) (fun _ => h2.raise (G := F.LOOM_MODE_STAT_MODE_BAD) hb slot)
    fun _ => (h2.setMode hb set slot want).hoStart hb slot n (b.hoRec set slot (a.f F.LOOM_MODE_STAT_MODE slot)) (b.hoRec set slot want)) fun _ => h2
  exact h3.iff _ _ fun _ => h3.xferReg _ (Reg.flds_home (b := .loom) _ (by decide) hb) _ _

theorem Dev.Keeps.runDue (h : s.Keeps own outs u) (hb : .loom ∈ own) (set n slot : Nat) : s.Keeps own outs (u.runDue set n slot) := by
  unfold Dev.runDue
  extract_lets m p off r v w
  have hv : s.Keeps own outs v := .ite _ (fun _ => (h.raise (G := F.LOOM_SLOT_FLAGS_SKIP) hb _ _).inc (G := F.LOOM_SLOT_CNT_SKIP_CNT) hb _ _ _) fun _ => h
  exact Dev.Keeps.setLoom (hv.iff _ _ fun _ => hv.raise (G := F.LOOM_SLOT_FLAGS_HOLD) hb _ _) hb _

theorem Dev.Keeps.cmpMismatch (h : s.Keeps own outs u) (hb : .loom ∈ own) (low : Nat) : s.Keeps own outs (u.cmpMismatch low) := by
  have h1 := (h.inc (G := F.LOOM_CMP_CNT_MISMATCH) hb 1 0 0).inc (G := F.LOOM_CMP_STAT_CONSEC) hb 1 0 0
  have h2 := h1.iff (!((u.inc F.LOOM_CMP_CNT_MISMATCH 1).inc F.LOOM_CMP_STAT_CONSEC 1).flag F.LOOM_CMP_STAT_FIRST_VALID)
    (fun s => (s.put F.LOOM_CMP_STAT_FIRST_O low).raise F.LOOM_CMP_STAT_FIRST_VALID) fun _ => (h1.put (G := F.LOOM_CMP_STAT_FIRST_O) hb _ _ _).raise (G := F.LOOM_CMP_STAT_FIRST_VALID) hb _ _
  exact h2.iff _ _ fun _ => h2.raise (G := F.LOOM_CMP_STAT_DIVERGE) hb _ _

theorem Dev.Keeps.cmpJudge (h : s.Keeps own outs u) (hb : .loom ∈ own) (hp : .pair ∈ own) (n : Nat) : s.Keeps own outs (u.cmpJudge n) := by
  unfold Dev.cmpJudge
  extract_lets l bad v
  have hv : s.Keeps own outs v := Dev.Keeps.setLoom h hb _
  clear_value v bad
  refine .ite _ (fun _ => hv) fun _ => .ite _ (fun _ => hv.inc (G := F.LOOM_CMP_STAT_MISS_CNT) hb _ _ _) fun _ => ?_
  split
  · exact hv.cmpMismatch hb _
  · refine .ite _ (fun _ => hv.inc (G := F.LOOM_CMP_STAT_MISS_CNT) hb _ _ _) fun _ => .ite _ (fun _ => hv) fun _ => ?_
    have hz := hv.put (G := F.LOOM_CMP_STAT_CONSEC) hb 0 0 0
    exact hz.iff _ _ fun _ => hz.incW (G := F.PAIR_HEALTH_WORD) hp 1 6 0

theorem Dev.Keeps.loomStat (h : s.Keeps own outs u) (hb : .loom ∈ own) : s.Keeps own outs u.loomStat := by
  unfold Dev.loomStat
  extract_lets e top
  split
  · exact (h.put (G := F.LOOM_STAT_END) hb _ _ _).put (G := F.LOOM_STAT_LAST_SLOT) hb _ _ _
  · exact (h.put (G := F.LOOM_STAT_END) hb _ _ _).put (G := F.LOOM_STAT_LAST_SLOT) hb _ _ _

theorem Dev.Keeps.loomBoundary (h : s.Keeps own outs u) (hb : .loom ∈ own) (hp : .pair ∈ own) (old n : Nat) (run : Bool) : s.Keeps own outs (u.loomBoundary old n run) := by
  unfold Dev.loomBoundary
  extract_lets set swapped a b c d e on f g keep lm
  have ha : s.Keeps own outs a := h.iff _ _ fun _ => (h.each _ _ fun _ _ _ hv => hv.modeSwap hb _ _ _ _).loomLoaded hb _
  have hbb : s.Keeps own outs b := (ha.linkCopy hb _).adoptNow hb _
  have hc : s.Keeps own outs c := hbb.regionEval hb _ _
  have hd : s.Keeps own outs d := hc.each _ _ fun _ _ _ hv => hv.modeStep hb _ _ _
  have he : s.Keeps own outs e := hd.each _ _ fun _ _ _ hv => hv.xferReg _ (Reg.flds_home (b := .loom) _ (by decide) hb) _ _
  have hf : s.Keeps own outs f := he.iff _ _ fun _ => he.each _ _ fun _ _ _ hv => hv.runDue hb _ _ _
  have hg : s.Keeps own outs g := hf.iff _ _ fun _ => hf.cmpJudge hb hp _
  exact (Dev.Keeps.setLoom (Dev.Keeps.setLoom hg hb _) hb _).loomStat hb

/-! ### Spindle -/

theorem Dev.grows_spSwap (old new : Nat) : s.Grows [.spindle, .hostq] (s.spSwap old new) := by
  have hr : ∀ l, s.Grows [.spindle, .hostq] (s.spReplaced l) := fun l =>
    ((Dev.Keeps.setSpin (Dev.keeps_refl _ s) (by decide) _).grows).trans (Dev.grows_each _ _ _ fun v q _ => v.grows_spReqDone q .retired)
  refine ((hr _).trans (Dev.grows_each _ _ _ fun v g _ => ?_)).trans (Dev.grows_each _ _ _ fun v g _ => ?_)
  · exact ((Dev.keeps_refl _ v).setSpCell (by decide) _ _).grows
  · exact ((Dev.keeps_refl _ v).setSpCell (by decide) _ _).grows

theorem Dev.Keeps.spBoundary (h : s.Keeps own outs u) (hb : .spindle ∈ own) (set n : Nat) (prev : Option CycRec) : s.Keeps own outs (u.spBoundary set n prev) := by
  refine h.each _ _ fun v a _ hv => ?_
  extract_lets x ch held w was y
  refine .ite _ (fun _ => hv.setSpArm hb _ _) fun _ => ?_
  have hw : s.Keeps own outs w := hv.setSpArm hb _ _
  have hy : s.Keeps own outs y := .ite _ (fun _ => hw.each _ _ fun _ _ _ hv' => hv'.setSpCell hb _ _) fun _ => hw
  exact .ite _ (fun _ => hy.setSpArm hb _ _) fun _ => hy

/-! ### The recorder -/

theorem Dev.Keeps.reelBoundary (h : s.Keeps own outs u) (hb : .reel ∈ own) : s.Keeps own outs u.reelBoundary :=
  Dev.Keeps.reelUpdate (Dev.Keeps.reelUpdate (h.each _ _ fun _ _ _ hv => hv.each _ _ fun _ _ _ hv' => hv'.reelUpdate hb _ _ _) hb _ _ _) hb _ _ _

theorem Dev.Keeps.reelShow (h : s.Keeps own outs u) (hb : .reel ∈ own) (i : Nat) : s.Keeps own outs (u.reelShow i) := h.put (G := F.REEL_INST_STAT_FREE) hb _ _ _

theorem Dev.Keeps.takeSlot (h : s.Keeps own outs u) (hb : .reel ∈ own) (i k : Nat) (b : Bool) : s.Keeps own outs (u.takeSlot i k b) :=
  (((h.setReelInst hb _ _).put (G := F.REEL_INST_STAT_STATE) hb _ _ _).put (G := F.REEL_INST_STAT_SLOT) hb _ _ _).reelShow hb i

theorem Dev.Keeps.takeFree (h : s.Keeps own outs u) (hb : .reel ∈ own) (a i : Nat) : s.Keeps own outs (u.takeFree a i) := by
  unfold Dev.takeFree
  split
  · exact h.takeSlot hb _ _ _
  · exact (h.put (G := F.REEL_INST_STAT_STATE) hb _ _ _).reelShow hb _

theorem Dev.Keeps.reelStart (h : s.Keeps own outs u) (hb : .reel ∈ own) (a i : Nat) : s.Keeps own outs (u.reelStart a i) :=
  (h.each _ _ fun _ _ _ hv => hv.setReelCh hb _ _).setReelInst hb _ _

theorem Dev.grows_closeRecord (a i : Nat) (cut : Bool) : s.Grows [.reel, .hostq] (s.closeRecord a i cut) := by
  have hn : s.Grows [.reel, .hostq] (s.reelNotice a i cut .ok) := (Dev.grows_postNotice ..).mono (by decide)
  have he := Dev.closeRecord_eq (s := s) a i cut
  dsimp only at he
  rw [he]
  generalize s.reelNotice a i cut .ok = g at hn
  have hw : g.Keeps [.reel] g.out (g.writeRecord a i (s.f F.REEL_INST_STAT_SLOT i) (s.reelInst i).seq (g.reelHeader a i (g.recordFlags i cut))) :=
    Dev.Keeps.setReel (Dev.keeps_refl _ g) (by decide) _
  generalize g.writeRecord a i (s.f F.REEL_INST_STAT_SLOT i) (s.reelInst i).seq (g.reelHeader a i (g.recordFlags i cut)) = w at hw
  have hu := hw.next (Dev.setSlotUsed_leaves (s := w) i (s.f F.REEL_INST_STAT_SLOT i) true).keeps (by decide)
  exact hn.trans ((((hu.inc (G := F.REEL_INST_CNT_RECORDS) (by decide) 1 i 0).setReelInst (by decide) i _).mono (by decide)).grows)

theorem Dev.grows_reelSwap (old new : Nat) : s.Grows [.reel, .hostq] (s.reelSwap old new) := by
  have ht : s.Grows [.reel, .hostq] (s.each trgUnits fun s p => s.iff (!s.sameSource old new p.1 p.2) fun s => s.setReelTrg p.1 p.2 ReelTrg.fresh) :=
    Dev.grows_each _ _ _ fun v p _ => ((Dev.keeps_refl _ v).iff _ _ fun _ => (Dev.keeps_refl _ v).setReelTrg (by decide) _ _ _).grows
  refine ht.trans (Dev.grows_each _ _ _ fun v i _ => ?_)
  dsimp only
  refine .ite _ (fun _ => ((Dev.keeps_refl _ v).reelShow (by decide) i).grows) fun _ => ?_
  have hclose : v.Grows [.reel, .hostq] (v.iff (decide (v.reelState i = rPost)) fun s => s.closeRecord old i true) :=
    Dev.grows_iff _ _ _ fun _ => Dev.grows_closeRecord (s := v) old i true
  generalize v.iff (decide (v.reelState i = rPost)) (fun s => s.closeRecord old i true) = w at hclose
  have hk := (Dev.keeps_refl [.reel, .hostq] w).put (G := F.REEL_INST_STAT_STATE) (by decide) rIdle i 0
  refine hclose.trans (Dev.Grows.ite _ (fun _ => (hk.reelShow (by decide) i).grows) fun _ => ?_)
  exact (((hk.reelStart (by decide) new i).setReelInst (by decide) _ _).takeFree (by decide) _ _).grows

/-! ### PAIR -/

theorem Dev.keeps_setOrphan (b : Bool) : s.Keeps [.safety] s.out (s.setOrphan b) :=
  ((Dev.keeps_refl [.safety] s).put (G := F.SAFETY_TRIP_STAT_ORPHAN) (by decide) _ _ _).next (Dev.safeRefresh_leaves s _).keeps (by decide)

/-- The blocks that the boundary of a pair changes. -/
def pairBlks : List Blk := [.pair, .safety, .time]

theorem Dev.keeps_orphan (s : Dev) : s.Keeps pairBlks s.out s.orphan := by
  unfold Dev.orphan
  split
  · exact Dev.keeps_refl _ s
  · rename_i w _
    have h := (Dev.Keeps.setPair ((Dev.keeps_refl pairBlks s).advanceTo (by decide) (s.bnd w)) (by decide) { (s.advanceTo (s.bnd w)).pair with watch := none }).raise (G := F.PAIR_EVT_ORPHAN)
      (by decide) 0 0
    exact h.next (Dev.keeps_setOrphan true) (by decide)

theorem Dev.Keeps.relinquishTo (h : s.Keeps own outs u) (hb : .pair ∈ own) (n st : Nat) : s.Keeps own outs (u.relinquishTo n st) :=
  Dev.Keeps.setPair (((h.put (G := F.PAIR_STAT_STATE) hb _ _ _).raise (G := F.PAIR_EVT_RELINQUISHED) hb _ _).inc (G := F.PAIR_CNT_RELINQS) hb _ _ _) hb _

theorem Dev.Keeps.claimNow (h : s.Keeps own outs u) (hb : .pair ∈ own) : s.Keeps own outs u.claimNow :=
  (((h.put (G := F.PAIR_STAT_STATE) hb _ _ _).put (G := F.PAIR_STAT_GEN) hb _ _ _).raise (G := F.PAIR_EVT_CLAIMED) hb _ _).inc (G := F.PAIR_CNT_CLAIMS) hb _ _ _

theorem Dev.Keeps.pairState (h : s.Keeps own outs u) (hb : .pair ∈ own) (n : Nat) (run : Bool) : s.Keeps own outs (u.pairState n run) := by
  unfold Dev.pairState
  extract_lets st p v
  have hv : s.Keeps own outs v := Dev.Keeps.setPair h hb _
  clear_value v st
  refine .ite _ (fun _ => Dev.Keeps.put (G := F.PAIR_STAT_STATE) (Dev.Keeps.setPair hv hb _) hb _ _ _) fun _ => ?_
  split
  · exact hv.put (G := F.PAIR_STAT_STATE) hb _ _ _
  · exact .ite _ (fun _ => hv.claimNow hb) fun _ => hv
  · refine .ite _ (fun _ => hv.relinquishTo hb _ _) fun _ => .ite _ (fun _ => ?_) fun _ => .ite _ (fun _ => hv.relinquishTo hb _ _) fun _ => hv
    exact (hv.put (G := F.PAIR_STAT_STATE) hb _ _ _).raise (G := F.PAIR_EVT_DEPOSED) hb _ _
  · exact .ite _ (fun _ => hv.put (G := F.PAIR_STAT_STATE) hb _ _ _) fun _ => Dev.Keeps.setPair hv hb _

theorem Dev.Keeps.pairTripEnd (h : s.Keeps own outs u) (hb : .pair ∈ own) : s.Keeps own outs u.pairTripEnd := by
  unfold Dev.pairTripEnd
  split
  · exact .ite _ (fun _ => h.put (G := F.PAIR_STAT_PAIR_TRIP) hb _ _ _) fun _ => h
  · exact h

theorem Dev.keeps_pairBoundary (n : Nat) (run : Bool) : s.Keeps pairBlks s.out (s.pairBoundary n run) := by
  unfold Dev.pairBoundary
  extract_lets a p b c d p2 e f st g
  have ha : s.Keeps pairBlks s.out a := (Dev.keeps_refl _ s).each _ _ fun v R hR hv => hv.xferReg R (Reg.flds_home (b := .pair) R ((by decide :
    ∀ R ∈ [F.regPairCtl, F.regPairVote, F.regPairFit, F.regPairLim], (R.flds.all fun G => decide (G.blk = .pair)) = true) R hR) (by decide)) _ _
  have hbb : s.Keeps pairBlks s.out b := Dev.Keeps.setPair ha (by decide) _
  have hc : s.Keeps pairBlks s.out c := by
    unfold c
    split
    · exact .ite _ (fun _ => hbb.next (b.keeps_orphan) (by decide)) fun _ => hbb
    · exact hbb
  have hd : s.Keeps pairBlks s.out d := hc.pairState (by decide) n run
  have he : s.Keeps pairBlks s.out e := Dev.Keeps.setPair hd (by decide) _
  have hf : s.Keeps pairBlks s.out f := he.pairTripEnd (by decide)
  have hg : s.Keeps pairBlks s.out g := hf.iff _ _ fun _ => Dev.Keeps.setPair hf (by decide) _
  have hw : s.Keeps pairBlks s.out (g.wdogServed n) := hg.iff _ _ fun _ => Dev.Keeps.setPair hg (by decide) _
  exact Dev.Keeps.setPair (hw.each _ _ fun _ _ _ hv => hv.put (G := F.PAIR_HEALTH_WORD) (by decide) _ _ _) (by decide) _

end

end Sys2Proof.Machine
end

section
/-! The swap of the configuration sets (R50 to R54): its checks, its completion, and the exchange. -/

namespace Sys2Proof.Machine

section
variable {s u v : Dev}

/-! ### The checks -/

/-- The blocks whose `CHK_STAT` the checks write. -/
def checkBlks : List Blk := [.loom, .secure, .spindle, .trunk, .tollgate, .reel, .pair]

/-- What the checks of a set show. -/
def Dev.showChecks (s : Dev) (lo : Option LoomFail) (sg l0 pr : Nat) (sp sf : Nat × Nat) (tg rl : Nat × Nat × Nat) : Dev :=
  let s := (s.loomChkStat lo).put F.SECURE_CHK_STAT_CODE sg
  let s := (s.put F.SPINDLE_CHK_STAT_CODE sp.1).put F.SPINDLE_CHK_STAT_ARM sp.2
  let s := (s.put F.LANE_SF_CHK_CODE sf.1).put F.LANE_SF_CHK_LANE sf.2
  let s := ((s.put F.TOLLGATE_CHK_STAT_CODE tg.1).put F.TOLLGATE_CHK_STAT_TARGET tg.2.1).put F.TOLLGATE_CHK_STAT_ENTRY tg.2.2
  let s := ((s.put F.REEL_CHK_STAT_CODE rl.1).put F.REEL_CHK_STAT_INST rl.2.1).put F.REEL_CHK_STAT_INDEX rl.2.2
  (s.put F.PAIR_CHK_CODE pr).put F.PAIR_CHK_L0 l0

theorem Dev.swapChecks_shows (set : Nat) : ∃ lo sg l0 pr sp sf tg rl, (s.swapChecks set).2 = s.showChecks lo sg l0 pr sp sf tg rl :=
  ⟨_, _, _, _, _, _, _, _, rfl⟩

theorem Dev.keeps_loomChkStat (lo : Option LoomFail) : s.Keeps [.loom] s.out (s.loomChkStat lo) := by
  unfold Dev.loomChkStat
  exact (((Dev.keeps_refl [.loom] s).put (by decide) _ _ _).put (by decide) _ _ _).put (by decide) _ _ _

theorem Dev.plan_showChecks (lo : Option LoomFail) (sg l0 pr : Nat) (sp sf : Nat × Nat) (tg rl : Nat × Nat × Nat) :
    (s.showChecks lo sg l0 pr sp sf tg rl).plan = s.plan ∧ (s.showChecks lo sg l0 pr sp sf tg rl).out = s.out := by
  have h : s.Keeps checkBlks s.out (s.showChecks lo sg l0 pr sp sf tg rl) :=
    (((((((((((((s.keeps_loomChkStat lo).mono (by decide)).put (by decide) _ _ _).put (by decide) _ _ _).put (by decide) _ _ _).put (by decide) _ _ _).put (by decide) _ _ _).put
      (by decide) _ _ _).put (by decide) _ _ _).put (by decide) _ _ _).put (by decide) _ _ _).put (by decide) _ _ _).put (by decide) _ _ _).put (by decide) _ _ _ |>.put (by decide) _ _ _
  refine ⟨?_, h.out_eq⟩
  unfold Dev.showChecks
  repeat refine (Dev.plan_put (by decide) _).trans ?_
  exact (s.keeps_loomChkStat lo).plan_eq (by decide) (by decide)

theorem Dev.plan_swapChecks (set : Nat) : (s.swapChecks set).2.plan = s.plan ∧ (s.swapChecks set).2.out = s.out := by
  obtain ⟨lo, sg, l0, pr, sp, sf, tg, rl, h⟩ := Dev.swapChecks_shows (s := s) set
  rw [h]
  exact Dev.plan_showChecks ..

/-! ### A request completes -/

/-- A request that is over, before its completion goes out. -/
def Dev.swapEnded (s : Dev) (st : Status) : Dev :=
  ((({ s with glob := { s.glob with swap := none, swapOk := s.glob.swapOk || decide (st = Status.ok) } } : Dev).put F.GLOBAL_CFG_STAT_PENDING 0).put
    F.GLOBAL_CFG_STAT_STATUS st.code).raise (if st = Status.ok then F.GLOBAL_CYCLE_STAT_SWAP_DONE else F.GLOBAL_CYCLE_STAT_SWAP_FAIL)

theorem Dev.fb_setGlob {x : Glob} (hx : x.regs = s.glob.regs) (G : Fld) (b i j : Nat) : ({ s with glob := x } : Dev).fb G b i j = s.fb G b i j :=
  Dev.fb_of_regs (u := { s with glob := x }) (s := s) rfl (by cases G.blk <;> simp [Dev.regsOf, hx]) ..

/-- GLOBAL takes another state with the same grid and registers. -/
theorem Dev.grid_setGlob {x : Glob} (hx : x.regs = s.glob.regs) (hg : x.grid = s.glob.grid) : ({ s with glob := x } : Dev).grid = s.grid :=
  Dev.grid_of rfl hg (fun G _ => Dev.fb_setGlob hx G) fun a _ b => Dev.fb_setGlob hx F.TRUNK_CARRIER_CPER b a 0

/-- A field of GLOBAL that is no part of the grid. -/
def Fld.offGrid (E : Fld) : Bool := gridFlds.all (·.apart E) && decide (E.blk = .global)

theorem Dev.glob_put (E : Fld) (x i j : Nat) : (s.put E x i j).glob.plain = s.glob.plain := by
  unfold Dev.put Dev.putb
  cases E.blk <;> rfl

theorem Dev.grid_put {E : Fld} (h : E.offGrid = true) (x : Nat) : (s.put E x).grid = s.grid := by
  obtain ⟨h1, h2⟩ := Bool.and_eq_true_iff.1 h
  refine Dev.grid_of (Dev.put_role ..) (congrArg (fun g : Glob => { g with cycles := [], swap := none, swapOk := false }) (Dev.glob_put ..))
    (fun G hG b i j => Dev.fb_put_apart _ _ _ _ _ _ _ (List.all_eq_true.1 h1 G hG)) fun a _ b => Dev.fb_putb_other _ _ _ _ _ _ _ (.inl ?_)
  rw [of_decide_eq_true h2]
  decide

theorem Dev.grid_raise {E : Fld} (h : E.offGrid = true) : (s.raise E).grid = s.grid :=
  (Dev.grid_of (u := s.raise E) (s := s.put E 1) rfl rfl (fun _ _ _ _ _ => Dev.befall_fb ..) fun _ _ _ => Dev.befall_fb ..).trans (Dev.grid_put h _)

theorem Dev.glob_raise (E : Fld) (i j : Nat) : (s.raise E i j).glob.plain = s.glob.plain := Dev.glob_put E 1 i j

/-- The state of a swap, in GLOBAL. -/
theorem Dev.swap_of_plain {g g' : Glob} (h : g.plain = g'.plain) : g.swap = g'.swap ∧ g.swapOk = g'.swapOk ∧ g.cycles = g'.cycles :=
  ⟨congrArg Glob.swap (a₁ := g.plain) (a₂ := g'.plain) h, congrArg Glob.swapOk (a₁ := g.plain) (a₂ := g'.plain) h, congrArg Glob.cycles (a₁ := g.plain) (a₂ := g'.plain) h⟩

theorem Dev.swapEnded_grid (st : Status) : (s.swapEnded st).grid = s.grid := by
  refine (Dev.grid_raise ?_).trans ((Dev.grid_put (by decide) _).trans ((Dev.grid_put (by decide) _).trans (Dev.grid_setGlob rfl rfl)))
  split <;> decide

theorem Status.code_lt (st : Status) : st.code < 2 ^ 8 := by cases st <;> decide

theorem Dev.swapEnded_spec (st : Status) : let u := s.swapEnded st
    u.glob.swap = none ∧ u.glob.swapOk = (s.glob.swapOk || decide (st = Status.ok)) ∧ u.glob.cycles = s.glob.cycles ∧ u.actSet = s.actSet ∧
    u.f F.GLOBAL_CFG_STAT_PENDING = 0 ∧ u.f F.GLOBAL_CFG_STAT_STATUS = st.code ∧ (st ≠ .ok → u.f F.GLOBAL_CYCLE_STAT_SWAP_FAIL = 1) ∧ u.out = s.out := by
  have hr : ∀ G : Fld, G.apart F.GLOBAL_CYCLE_STAT_SWAP_DONE = true → G.apart F.GLOBAL_CYCLE_STAT_SWAP_FAIL = true →
      G.apart (if st = Status.ok then F.GLOBAL_CYCLE_STAT_SWAP_DONE else F.GLOBAL_CYCLE_STAT_SWAP_FAIL) = true := fun G h1 h2 => by split <;> assumption
  obtain ⟨h1, h2, h3⟩ := Dev.swap_of_plain ((Dev.glob_raise (s := (({ s with glob := { s.glob with swap := none, swapOk := s.glob.swapOk || decide (st = Status.ok) } } : Dev).put
    F.GLOBAL_CFG_STAT_PENDING 0).put F.GLOBAL_CFG_STAT_STATUS st.code) (if st = Status.ok then F.GLOBAL_CYCLE_STAT_SWAP_DONE else F.GLOBAL_CYCLE_STAT_SWAP_FAIL) 0 0).trans
    ((Dev.glob_put ..).trans (Dev.glob_put ..)))
  refine ⟨h1, h2, h3, ?_, ?_, ?_, fun h => ?_, ?_⟩
  · exact (Dev.f_raise_apart _ _ _ _ _ (hr _ (by decide) (by decide))).trans ((Dev.f_put_apart _ _ _ _ _ _ (by decide)).trans ((Dev.f_put_apart _ _ _ _ _ _ (by decide)).trans
      (Dev.fb_setGlob rfl ..)))
  · exact (Dev.f_raise_apart _ _ _ _ _ (hr _ (by decide) (by decide))).trans ((Dev.f_put_apart _ _ _ _ _ _ (by decide)).trans (Dev.f_put_same ..))
  · exact (Dev.f_raise_apart _ _ _ _ _ (hr _ (by decide) (by decide))).trans ((Dev.f_put_same ..).trans (Nat.mod_eq_of_lt st.code_lt))
  · rw [Dev.swapEnded, if_neg h]
    exact Dev.f_raise_same ..
  · exact (((Dev.Keeps.setGlob (Dev.keeps_refl [.global] s) (by decide) _).put (by decide) _ _ _).put (by decide) _ _ _ |>.raise (by split <;> decide) _ _).out_eq

theorem Dev.swapDone_plan {w : Swap} (hw : s.glob.swap = some w) (st : Status) : (s.swapDone st).plan = (s.swapEnded st).plan := by
  unfold Dev.swapDone
  rw [hw]
  dsimp only
  split
  · exact (Dev.grows_finishAt (own := [.hostq]) (s.swapEnded st) (by decide) ..).plan_eq (by decide) (by decide)
  · exact Dev.plan_emit _

theorem Dev.swapDone_host {w : Swap} (hw : s.glob.swap = some w) (hr : w.ring = none) (st : Status) : s.swapDone st = (s.swapEnded st).emit (.done 0x120 0 st) := by
  unfold Dev.swapDone
  rw [hw]
  dsimp only
  rw [hr]
  rfl

/-! ### The exchange -/

/-- The other set is active, and the request has its exchange. -/
def Dev.otherSet (s : Dev) : Dev :=
  ({ s with glob := { s.glob with swap := s.glob.swap.map fun (w : Swap) => { w with exchanged := true } } } : Dev).put F.GLOBAL_CFG_STAT_ACTIVE (1 - s.actSet)

theorem Dev.plan_measureSet : s.measureSet.plan = s.plan := by
  have h : ∀ k l, ∀ v : Dev, (v.setMeas k l).plan = v.plan := fun k l v =>
    Dev.plan_each _ _ fun v w _ => (Dev.Keeps.put (Dev.keeps_refl [.secure] v) (G := F.SECURE_MEAS_V) (by decide) (field l (4 * w) 4) k w).plan_eq (by decide) (by decide)
  exact (h ..).trans (h ..)

theorem Dev.exchange_plan (n : Nat) : (s.exchange n).plan = s.otherSet.plan := by
  unfold Dev.exchange
  extract_lets old new moved changed g v w x
  have hv : w.plan = s.otherSet.plan := Dev.plan_each _ _ fun v L _ => Dev.plan_laneRetrain L
  refine Dev.plan_idReads.trans ((Dev.plan_pairSwapped n).trans (Dev.plan_msSpan.trans (Dev.plan_measureSet.trans ?_)))
  refine ((Dev.grows_reelSwap old new).plan_eq (by decide) (by decide)).trans (((Dev.grows_spSwap old new).plan_eq (by decide) (by decide)).trans ?_)
  exact (Dev.plan_each _ _ fun v g _ => Dev.plan_idForget g).trans hv

theorem Dev.exchangeIdle_plan : s.exchangeIdle.plan = s.otherSet.plan := by
  unfold Dev.exchangeIdle
  extract_lets old n v w
  have hk : v.Keeps [.loom] v.out w := ((Dev.keeps_refl [.loom] v).each _ _ fun _ _ _ hv => hv.modeSwap (by decide) _ _ _ _).loomLoaded (by decide) _
  exact (Dev.Keeps.plan_eq (Dev.Keeps.setLoom hk (by decide) _) (by decide) (by decide)).trans (Dev.exchange_plan n)

theorem Dev.otherSet_grid : s.otherSet.grid = s.grid := (Dev.grid_put (by decide) _).trans (Dev.grid_setGlob rfl rfl)

theorem Dev.otherSet_spec : let u := s.otherSet
    u.glob.swap = s.glob.swap.map (fun w => { w with exchanged := true }) ∧ u.glob.cycles = s.glob.cycles ∧ u.actSet = 1 - s.actSet := by
  obtain ⟨h1, -, h3⟩ := Dev.swap_of_plain (Dev.glob_put (s := { s with glob := { s.glob with swap := s.glob.swap.map fun (w : Swap) => { w with exchanged := true } } })
    F.GLOBAL_CFG_STAT_ACTIVE (1 - s.actSet) 0 0)
  refine ⟨h1, h3, (Dev.f_put_same ..).trans (Nat.mod_eq_of_lt ?_)⟩
  show 1 - s.actSet < 2 ^ 1
  omega

end

end Sys2Proof.Machine
end

section
/-! The control of the cycle and the request of a swap (R33, R34, R37, R49, R52, R53). -/

namespace Sys2Proof.Machine

section
variable {s u : Dev}

/-! ### The registers that only the MANAGER has -/

theorem Dev.blockStatus_control (h : s.role ≠ .manager) {o : Nat} (h1 : 0x100 ≤ o) (h2 : o < 0x130) : s.blockStatus .global o = .invalid := by
  have hp : s.present .global o = false := by simp [Dev.present, h]; omega
  unfold Dev.blockStatus
  dsimp only
  rw [if_pos (by simp [hp])]

theorem Dev.served_control (h : s.role ≠ .manager) {o : Nat} (h1 : 0x100 ≤ o) (h2 : o < 0x130) (g : Dev → Acted) :
    Acted.dev (s.served .global o g) = s.complete .invalid := by
  rw [Dev.served, Dev.blockStatus_control h h1 h2]
  rfl

/-! ### CYCLE_CTL and CYCLE_PHASE -/

theorem Dev.run_put {E : Fld} (h : F.GLOBAL_CYCLE_CTL_RUN.apart E = true) (x : Nat) : (s.put E x).run = s.run := by
  unfold Dev.run Dev.flag
  rw [Dev.f_put_apart _ _ _ _ _ _ h]

theorem Dev.perNs_manager (h : s.role = .manager) : s.perNs = s.f F.GLOBAL_CYCLE_CTL_PERIOD * 50 := if_pos h
theorem Dev.phaseNs_manager (h : s.role = .manager) : s.phaseNs = s.f F.GLOBAL_CYCLE_PHASE_PHASE := if_pos h

theorem Dev.perNs_begin : s.begin.perNs = s.perNs := by
  unfold Dev.perNs
  rw [Dev.begin_f]
  rfl

theorem Dev.phaseNs_begin : s.begin.phaseNs = s.phaseNs := by
  unfold Dev.phaseNs
  rw [Dev.begin_f]
  rfl

theorem Dev.newGrid_f (G : Fld) (i j : Nat) : s.newGrid.f G i j = s.f G i j := Dev.fb_setGlob rfl ..

/-- The next boundary after now on a grid. -/
def Dev.nextOn (s : Dev) (per ph : Nat) : Nat := if s.now < ph then 0 else (s.now - ph) / per + 1

theorem Dev.newGrid_nextCyc (h : s.perNs ≠ 0) : s.newGrid.glob.nextCyc = s.nextOn s.perNs s.phaseNs := by
  simp [Dev.newGrid, Dev.nextOn, h]

/-- CYCLE_CTL with a legal period. -/
def Dev.cycleSet (s : Dev) (run stamp : Bool) (p : Nat) : Dev :=
  ((s.put F.GLOBAL_CYCLE_CTL_RUN (b2n run)).put F.GLOBAL_CYCLE_CTL_STAMP (b2n stamp)).put F.GLOBAL_CYCLE_CTL_PERIOD p

theorem Dev.cycleSet_values (hm : s.role = .manager) (run stamp : Bool) {p : Nat} (hp : p ≤ 2000) : let u := s.cycleSet run stamp p
    u.f F.GLOBAL_CYCLE_CTL_RUN = b2n run ∧ u.f F.GLOBAL_CYCLE_CTL_STAMP = b2n stamp ∧ u.perNs = p * 50 ∧ u.phaseNs = s.phaseNs ∧
    u.glob.nextCyc = s.glob.nextCyc ∧ u.glob.stampInForce = s.glob.stampInForce ∧ u.time = s.time := by
  have hb : ∀ b, b2n b < 2 ^ 1 := fun b => by cases b <;> decide
  have hr : (s.cycleSet run stamp p).role = .manager := hm
  refine ⟨?_, ?_, ?_, ?_, rfl, rfl, rfl⟩
  · exact (Dev.f_put_apart _ _ _ _ _ _ (by decide)).trans ((Dev.f_put_apart _ _ _ _ _ _ (by decide)).trans ((Dev.f_put_same ..).trans (Nat.mod_eq_of_lt (hb _))))
  · exact (Dev.f_put_apart _ _ _ _ _ _ (by decide)).trans ((Dev.f_put_same ..).trans (Nat.mod_eq_of_lt (hb _)))
  · rw [Dev.perNs_manager hr]
    exact congrArg (· * 50) ((Dev.f_put_same ..).trans (Nat.mod_eq_of_lt (by show p < 2 ^ 11; omega)))
  · rw [Dev.phaseNs_manager hr, Dev.phaseNs_manager hm]
    exact (Dev.f_put_apart _ _ _ _ _ _ (by decide)).trans ((Dev.f_put_apart _ _ _ _ _ _ (by decide)).trans (Dev.f_put_apart _ _ _ _ _ _ (by decide)))

theorem Dev.keeps_cycleSet (run stamp : Bool) (p : Nat) : s.Keeps [.global] s.out (s.cycleSet run stamp p) :=
  (((Dev.keeps_refl [.global] s).put (by decide) _ _ _).put (by decide) _ _ _).put (by decide) _ _ _

theorem Dev.Keeps.newGrid {own : List Blk} {outs : List Out} (h : s.Keeps own outs u) (hb : .global ∈ own) : s.Keeps own outs u.newGrid := h.setGlob hb _

/-- A period that CYCLE_CTL takes. -/
theorem periodOk_iff (p : Nat) : periodOk p = true ↔ 10 ≤ p ∧ p ≤ 2000 ∧ 10 ^ 9 % (p * 50) = 0 := by
  simp [periodOk, and_assoc]

theorem Dev.cycleCtlWrite_manager (h : s.role = .manager) (run stamp : Bool) (p : Nat) : s.cycleCtlWrite run stamp p =
    if ¬ periodOk p ∨ p * 50 ≤ s.phaseNs then s.deny .invalid
    else if s.run ∧ p ≠ s.f F.GLOBAL_CYCLE_CTL_PERIOD then s.deny .busy
    else if run ∧ ¬ s.glob.swapOk then s.deny .invalid
    else (.ok, (s.cycleSet run stamp p).iff (decide (p ≠ s.f F.GLOBAL_CYCLE_CTL_PERIOD)) Dev.newGrid) := by
  rw [Dev.cycleCtlWrite, if_neg (not_not.2 h)]
  rfl

/-- What an accepted write of CYCLE_CTL leaves. -/
theorem Dev.cycleCtl_taken (hm : s.role = .manager) (run stamp : Bool) {p : Nat} (h1 : 10 ≤ p) (h2 : p ≤ 2000) (c : Bool) :
    let u := (s.cycleSet run stamp p).iff c Dev.newGrid
    u.f F.GLOBAL_CYCLE_CTL_RUN = b2n run ∧ u.f F.GLOBAL_CYCLE_CTL_STAMP = b2n stamp ∧ u.perNs = p * 50 ∧
    (c = false → u.glob.nextCyc = s.glob.nextCyc) ∧ (c = true → u.glob.nextCyc = s.nextOn (p * 50) s.phaseNs) ∧
    u.glob.stampInForce = s.glob.stampInForce ∧ s.Keeps [.global] s.out u := by
  obtain ⟨hr, hst, hp, hph, hn, hi, ht⟩ := Dev.cycleSet_values hm run stamp h2
  have hk := s.keeps_cycleSet run stamp p
  generalize s.cycleSet run stamp p = v at *
  cases c
  · exact ⟨hr, hst, hp, fun _ => hn, (nomatch ·), hi, hk⟩
  · have hv : v.role = .manager := hk.role_eq.trans hm
    have hg : v.newGrid.perNs = v.perNs := by
      rw [Dev.perNs_manager hv, Dev.perNs_manager (s := v.newGrid) hv, Dev.newGrid_f]
    refine ⟨(Dev.newGrid_f ..).trans hr, (Dev.newGrid_f ..).trans hst, hg.trans hp, (nomatch ·), fun _ => ?_, hi, hk.newGrid (by decide)⟩
    refine (Dev.newGrid_nextCyc (by omega)).trans ?_
    rw [hp, hph, Dev.nextOn, Dev.nextOn, Dev.now_of_time hk.role_eq ht]

theorem Dev.cyclePhaseWrite_manager (h : s.role = .manager) (ph : Nat) : s.cyclePhaseWrite ph =
    if s.run then s.deny .busy
    else if ph % 5 ≠ 0 ∨ s.perNs ≤ ph then s.deny .invalid
    else (.ok, (s.put F.GLOBAL_CYCLE_PHASE_PHASE ph).iff (decide (ph ≠ s.phaseNs)) Dev.newGrid) := by
  rw [Dev.cyclePhaseWrite, if_neg (not_not.2 h)]

/-- What an accepted write of CYCLE_PHASE leaves. -/
theorem Dev.cyclePhase_taken (hm : s.role = .manager) {ph : Nat} (h1 : ph < s.perNs) (h2 : ph < 2 ^ 17) (c : Bool) :
    let u := (s.put F.GLOBAL_CYCLE_PHASE_PHASE ph).iff c Dev.newGrid
    u.phaseNs = ph ∧ (c = false → u.glob.nextCyc = s.glob.nextCyc) ∧ (c = true → u.glob.nextCyc = s.nextOn s.perNs ph) ∧ s.Keeps [.global] s.out u := by
  have hk : s.Keeps [.global] s.out (s.put F.GLOBAL_CYCLE_PHASE_PHASE ph) := (Dev.keeps_refl [.global] s).put (by decide) _ _ _
  have hv : (s.put F.GLOBAL_CYCLE_PHASE_PHASE ph).role = .manager := hm
  have hp : (s.put F.GLOBAL_CYCLE_PHASE_PHASE ph).phaseNs = ph := (Dev.phaseNs_manager hv).trans ((Dev.f_put_same ..).trans (Nat.mod_eq_of_lt h2))
  have hq : (s.put F.GLOBAL_CYCLE_PHASE_PHASE ph).perNs = s.perNs := by
    rw [Dev.perNs_manager hv, Dev.perNs_manager hm, Dev.f_put_apart _ _ _ _ _ _ (by decide)]
  have hn : (s.put F.GLOBAL_CYCLE_PHASE_PHASE ph).glob.nextCyc = s.glob.nextCyc := rfl
  have ht : (s.put F.GLOBAL_CYCLE_PHASE_PHASE ph).time = s.time := rfl
  generalize s.put F.GLOBAL_CYCLE_PHASE_PHASE ph = v at *
  cases c
  · exact ⟨hp, fun _ => hn, (nomatch ·), hk⟩
  · refine ⟨?_, (nomatch ·), fun _ => ?_, hk.newGrid (by decide)⟩
    · rw [← hp, Dev.phaseNs_manager hv]
      exact (Dev.phaseNs_manager (s := v.newGrid) hv).trans (Dev.newGrid_f ..)
    · refine (Dev.newGrid_nextCyc (by omega)).trans ?_
      rw [hp, hq, Dev.nextOn, Dev.nextOn, Dev.now_of_time hk.role_eq ht]

/-! ### A swap request, and the end of its checks -/

theorem Dev.swapRequest_manager (h : s.role = .manager) (t : Nat) (ring : Option (Nat × Nat)) : s.swapRequest t ring =
    if s.glob.swap.isSome then s.deny .busy
    else if s.run ∧ t ≠ 0 ∧ t + 1 ≤ s.nextBoundary then
      (.late, (s.put F.GLOBAL_CFG_STAT_STATUS Status.late.code).raise F.GLOBAL_CYCLE_STAT_SWAP_FAIL)
    else (.ok, ({ s with glob := { s.glob with swap := some { target := t, ring := ring, checked := none, exchanged := false, since := s.coreCycle } } }).raise
      F.GLOBAL_CFG_STAT_PENDING) := by
  rw [Dev.swapRequest, if_neg (not_not.2 h)]

theorem Dev.swapChecksDone_none (h : s.glob.swap = none) : s.swapChecksDone = s := by rw [Dev.swapChecksDone, h]

theorem Dev.swapChecksDone_checked {w : Swap} (h : s.glob.swap = some w) (hc : w.checked.isSome = true) : s.swapChecksDone = s := by
  rw [Dev.swapChecksDone, h]
  exact if_pos hc

theorem Dev.swapChecksDone_fail {w : Swap} (h : s.glob.swap = some w) (hc : w.checked = none) (hf : (s.swapChecks (1 - s.actSet)).1 ≠ .ok) :
    s.swapChecksDone = (s.swapChecks (1 - s.actSet)).2.swapDone (s.swapChecks (1 - s.actSet)).1 := by
  rw [Dev.swapChecksDone, h]
  dsimp only
  rw [if_neg (by simp [hc]), if_pos hf]

/-- A request is marked: its checks have passed. -/
def Dev.markPassed (s : Dev) (w : Swap) : Dev := { s with glob := { s.glob with swap := some { w with checked := some .ok } } }

theorem Dev.markPassed_spec (w : Swap) : (s.markPassed w).grid = s.grid ∧ (s.markPassed w).glob.swap = some { w with checked := some .ok } ∧
    (s.markPassed w).actSet = s.actSet ∧ (s.markPassed w).glob.cycles = s.glob.cycles ∧ (s.markPassed w).out = s.out :=
  ⟨Dev.grid_setGlob rfl rfl, rfl, Dev.fb_setGlob (x := { s.glob with swap := some { w with checked := some .ok } }) rfl F.GLOBAL_CFG_STAT_ACTIVE 0 0 0, rfl, rfl⟩

/-- The request whose checks have passed. -/
def Dev.passed (s : Dev) (w : Swap) : Dev := (s.swapChecks (1 - s.actSet)).2.markPassed w

theorem Dev.swapChecksDone_pass {w : Swap} (h : s.glob.swap = some w) (hc : w.checked = none) (hf : (s.swapChecks (1 - s.actSet)).1 = .ok) :
    s.swapChecksDone = (s.passed w).iff (s.passed w).cycleIdle Dev.exchangeIdle := by
  rw [Dev.swapChecksDone, h]
  dsimp only
  rw [if_neg (by simp [hc]), if_neg (not_not.2 hf)]
  rfl

theorem Dev.passed_spec (w : Swap) : (s.passed w).grid = s.grid ∧ (s.passed w).glob.swap = some { w with checked := some .ok } ∧
    (s.passed w).actSet = s.actSet ∧ (s.passed w).glob.cycles = s.glob.cycles ∧ (s.passed w).out = s.out := by
  obtain ⟨hp, ho⟩ := Dev.plan_swapChecks (s := s) (1 - s.actSet)
  obtain ⟨h1, h2, h3, h4, h5⟩ := Dev.markPassed_spec (s := (s.swapChecks (1 - s.actSet)).2) w
  exact ⟨h1.trans (Dev.grid_of_plan hp), h2, h3.trans (Dev.actSet_of_seen (Dev.seen_of_plan hp)), h4.trans (Dev.cycles_of_plan hp), h5.trans ho⟩

theorem Dev.run_of_grid (h : u.grid = s.grid) : u.run = s.run := by
  unfold Dev.run Dev.flag Dev.f
  rw [Dev.fb_of_grid h (by decide)]

theorem Dev.running_of_grid (h : u.grid = s.grid) : u.glob.running = s.glob.running := congrArg (·.2.1.running) h

theorem Dev.cycleIdle_of_grid (h : u.grid = s.grid) : u.cycleIdle = s.cycleIdle := by
  rw [Dev.cycleIdle, Dev.cycleIdle, Dev.run_of_grid h, Dev.running_of_grid h]

/-- An exchange makes the other set the active one, for the request as it stands. -/
theorem Dev.of_otherSet (h : u.plan = s.otherSet.plan) : u.grid = s.grid ∧ u.glob.swap = s.glob.swap.map (fun w => { w with exchanged := true }) ∧
    u.glob.cycles = s.glob.cycles ∧ u.actSet = 1 - s.actSet := by
  obtain ⟨h1, h2, h3⟩ := Dev.otherSet_spec (s := s)
  exact ⟨(Dev.grid_of_plan h).trans Dev.otherSet_grid, (Dev.swap_of_seen (Dev.seen_of_plan h)).trans h1, (Dev.cycles_of_plan h).trans h2,
    (Dev.actSet_of_seen (Dev.seen_of_plan h)).trans h3⟩

end

/-- Settles O8: each write and the end of the checks is the case of its function that the hypotheses name. -/
theorem cycleControlAndSwaps : Obligations.CycleControlAndSwaps := by
  unfold Obligations.CycleControlAndSwaps
  intro s d manager
  refine ⟨fun hm => ⟨fun run stamp p => ?_, fun ph => ?_, fun t => ?_⟩, fun run stamp p hb => ?_, fun ph hb => ?_, fun t hb => ?_, fun h => ?_,
    fun w h hc => ?_, fun w st h hc hst => ⟨fun hf hr => ?_, fun hok hi => ?_, fun hok hi => ?_⟩⟩
  · exact State.runs_cycleCtlWrite.of_eq (Dev.served_control (s := d) hm (by decide) (by decide) _)
  · exact State.runs_cyclePhaseWrite.of_eq (Dev.served_control (s := d) hm (by decide) (by decide) _)
  · exact State.runs_globalCfgSwapWrite.of_eq (Dev.served_control (s := d) hm (by decide) (by decide) _)
  · intro legal now
    have hm : d.role = .manager := by
      by_contra h
      rw [Dev.blockStatus_control (s := s.dev) h (by decide) (by decide)] at hb
      cases hb
    have hrun : s.Runs (.cycleCtlWrite run stamp p) (Acted.dev (d.cycleCtlWrite run stamp p)) := State.runs_cycleCtlWrite.of_eq (by rw [Dev.served_begin hb])
    have hlegal : legal ↔ ¬ (¬ periodOk p = true ∨ p * 50 ≤ d.phaseNs) := by
      have hp : d.phaseNs = s.dev.phaseNs := Dev.phaseNs_begin
      rw [periodOk_iff, hp]
      simp only [legal]
      omega
    rw [Dev.cycleCtlWrite_manager hm, Dev.begin_run, Dev.begin_f] at hrun
    refine ⟨fun hl => ?_, fun _ hl hr hp => ?_, fun _ hl hr hn hs => ?_, fun _ hl hr hn => ?_⟩
    · rwa [if_pos (by rw [hlegal] at hl; exact not_not.1 hl)] at hrun
    · rwa [if_neg (hlegal.1 hl), if_pos ⟨hr, hp⟩] at hrun
    · rwa [if_neg (hlegal.1 hl), if_neg (by rintro ⟨h1, h2⟩; rcases hr with hr | hr <;> simp_all [now]), if_pos ⟨hn, by simp [d, hs]⟩] at hrun
    · rw [if_neg (hlegal.1 hl), if_neg (by rintro ⟨h1, h2⟩; rcases hr with hr | hr <;> simp_all [now]),
        if_neg (by rintro ⟨h1, h2⟩; rcases hn with hn | hn <;> simp_all [d])] at hrun
      obtain ⟨h1, h2, h3, h4, h5, h6, h7⟩ := Dev.cycleCtl_taken hm run stamp hl.1 hl.2.1 (decide (p ≠ s.dev.f F.GLOBAL_CYCLE_CTL_PERIOD))
      refine hrun.does ⟨h1, h2, h3, rfl, fun hp => h4 (decide_eq_false (not_not.2 hp)), fun hp => ?_, h6, (h7.complete .ok).of_begin⟩
      refine (h5 (decide_eq_true hp)).trans ?_
      rw [Dev.nextOn, Dev.phaseNs_begin]
      rfl
  · have hrun : s.Runs (.cyclePhaseWrite ph) (Acted.dev (d.cyclePhaseWrite ph)) := State.runs_cyclePhaseWrite.of_eq (by rw [Dev.served_begin hb])
    have hper : d.perNs = s.dev.perNs := Dev.perNs_begin
    refine ⟨fun hm hr => ?_, fun hm hr hn => ?_, fun hm hr h5 hp h17 => ?_⟩ <;> rw [Dev.cyclePhaseWrite_manager (s := d) hm, Dev.begin_run] at hrun
    · rwa [if_pos hr] at hrun
    · rwa [if_neg (by simp [hr]), if_pos (by rwa [hper])] at hrun
    · rw [if_neg (by simp [hr]), if_neg (by rw [hper]; omega)] at hrun
      obtain ⟨h1, h2, h3, h4⟩ := Dev.cyclePhase_taken (s := d) hm (by rwa [hper]) h17 (decide (ph ≠ d.phaseNs))
      have hph : d.phaseNs = s.dev.phaseNs := Dev.phaseNs_begin
      refine hrun.does ⟨h1, rfl, fun h => h2 (decide_eq_false (by rw [hph]; exact not_not.2 h)), fun h => ?_, (h4.complete .ok).of_begin⟩
      refine (h3 (decide_eq_true (by rwa [hph]))).trans ?_
      rw [Dev.nextOn, hper]
      rfl
  · intro late
    have hrun : s.Runs (.globalCfgSwapWrite t) (Acted.dev (d.swapRequest t none)) := State.runs_globalCfgSwapWrite.of_eq (by rw [Dev.served_begin hb])
    refine ⟨fun hm hs => ?_, fun hm hs hl => ?_, fun hm hs hl => ?_⟩ <;> rw [Dev.swapRequest_manager (s := d) hm, Dev.begin_run] at hrun
    · rwa [if_pos (show d.glob.swap.isSome = true from hs)] at hrun
    · rwa [if_neg (by simp [d, hs]), if_pos (show s.dev.run = true ∧ t ≠ 0 ∧ t + 1 ≤ d.nextBoundary from hl)] at hrun
    · rwa [if_neg (by simp [d, hs]), if_neg (show ¬ (s.dev.run = true ∧ t ≠ 0 ∧ t + 1 ≤ d.nextBoundary) from hl)] at hrun
  · exact State.runs_swapChecksDone.of_eq (Dev.swapChecksDone_none (s := d) h)
  · exact State.runs_swapChecksDone.of_eq (Dev.swapChecksDone_checked (s := d) h hc)
  · have ha : 1 - s.dev.actSet = 1 - d.actSet := by rw [Dev.begin_actSet]
    rw [ha] at hst
    have hw : (d.swapChecks (1 - d.actSet)).2.glob.swap = some w := (Dev.swap_of_seen (Dev.seen_of_plan (Dev.plan_swapChecks _).1)).trans h
    obtain ⟨hp, ho⟩ := Dev.plan_swapChecks (s := d) (1 - d.actSet)
    refine (State.runs_swapChecksDone.of_eq (Dev.swapChecksDone_fail (s := d) h hc (hst ▸ hf))).does ?_
    rw [hst, Dev.swapDone_host hw hr]
    generalize (d.swapChecks (1 - d.actSet)).2 = v at *
    obtain ⟨h1, h2, -, h4, h5, h6, h7, h8⟩ := Dev.swapEnded_spec (s := v) st
    obtain ⟨hsw, hso⟩ : v.actSet = d.actSet ∧ v.glob.swapOk = d.glob.swapOk := ⟨Dev.actSet_of_seen (Dev.seen_of_plan hp), congrArg (·.2.1) (Dev.seen_of_plan hp)⟩
    have hem : ∀ G i j, ((v.swapEnded st).emit (.done 0x120 0 st)).f G i j = (v.swapEnded st).f G i j := fun G i j => Dev.fb_of_regs rfl (by cases G.blk <;> rfl) ..
    refine ⟨h1, ?_, ?_, (hem ..).trans h5, (hem ..).trans h6, (hem ..).trans (h7 hf), congrArg (_ :: ·) (h8.trans ho)⟩
    · exact h2.trans (by rw [hso, decide_eq_false hf, Bool.or_false]; rfl)
    · exact (hem ..).trans (h4.trans (hsw.trans (Dev.begin_actSet _)))
  · rw [show 1 - s.dev.actSet = 1 - d.actSet by rw [Dev.begin_actSet], hok] at hst
    obtain ⟨hg, h1, h2, -, h4⟩ := Dev.passed_spec (s := d) w
    have hu := Dev.swapChecksDone_pass (s := d) h hc hst
    rw [Dev.cycleIdle_of_grid hg, hi] at hu
    exact (State.runs_swapChecksDone.of_eq hu).does ⟨h1, h2.trans (Dev.begin_actSet _), h4⟩
  · rw [show 1 - s.dev.actSet = 1 - d.actSet by rw [Dev.begin_actSet], hok] at hst
    obtain ⟨hg, h1, h2, -, -⟩ := Dev.passed_spec (s := d) w
    have hu := Dev.swapChecksDone_pass (s := d) h hc hst
    rw [Dev.cycleIdle_of_grid hg, hi] at hu
    obtain ⟨-, h5, -, h6⟩ := Dev.of_otherSet (Dev.exchangeIdle_plan (s := d.passed w))
    refine (State.runs_swapChecksDone.of_eq hu).does ⟨⟨_, h5.trans (congrArg (Option.map _) h1), rfl⟩, h6.trans ?_⟩
    rw [h2, Dev.begin_actSet]

end Sys2Proof.Machine
end

section
/-! The boundary of a cycle in a CONCENTRATOR and in a CELL (R205, R217, R219, R223, R404). -/

namespace Sys2Proof.Machine

section
variable {s u v : Dev} {own : List Blk}

theorem Dev.grows_gather {α β : Type} (g : β × Dev → α → β × Dev) (h : ∀ (x : β × Dev) a, x.2.Grows own (g x a).2) (l : List α) (x : β × Dev) :
    x.2.Grows own (l.foldl g x).2 := by
  induction l generalizing x with
  | nil => exact Dev.grows_refl own x.2
  | cons a l ih => exact (h x a).trans (ih _)

/-! ### The lanes -/

theorem Dev.grows_send (L k : Nat) (d : List Byte) : s.Grows [.trunk] (s.send L k d) :=
  .ite _ (fun _ => Dev.grows_emit _ s _) fun _ => Dev.grows_refl _ s

theorem Dev.keeps_pwrEnter (L : Nat) : s.Keeps [.trunk] s.out (s.pwrEnter L) := by
  unfold Dev.pwrEnter
  split
  · exact Dev.keeps_refl _ s
  · refine .ite _ (fun _ => Dev.keeps_refl _ s) fun _ => ((Dev.keeps_refl [.trunk] s).setLanes (by decide) _).iff _ _ fun _ => ?_
    exact ((Dev.keeps_refl [.trunk] s).setLanes (by decide) _).put (by unfold laneFld; split <;> decide) _ _ _

theorem Dev.grows_pwrBoundary : s.Grows [.trunk] s.pwrBoundary := Dev.grows_each _ _ _ fun v e _ => (v.keeps_pwrEnter e.1).grows

theorem Dev.keeps_sofSent (L : Nat) : s.Keeps [.trunk] s.out (s.sofSent L) :=
  .ite _ (fun _ => (Dev.keeps_refl [.trunk] s).setLanes (by decide) _) fun _ => Dev.keeps_refl _ s

theorem Dev.grows_sendReplies (L t k : Nat) : s.Grows [.trunk] (s.sendReplies L t k) :=
  .ite _ (fun _ => Dev.grows_refl _ s) fun _ => ((Dev.keeps_refl [.trunk] s).setProto (by decide) _).grows.trans (Dev.grows_send ..)

theorem Dev.grows_tgTransfer : s.Grows [.tollgate] s.tgTransfer :=
  Dev.grows_each _ _ _ fun v p _ => by
    split
    · exact Dev.grows_refl _ v
    · exact ((Dev.keeps_refl [.tollgate] v).setToll (by decide) _).grows

/-! ### A CONCENTRATOR -/

theorem Dev.grows_upStart (f : UpFrame) : s.Grows [.trunk] (s.upStart f).2 := by
  unfold Dev.upStart
  extract_lets lanes info np sof r
  have hr : s.Grows [.trunk] r.2 := by
    refine Dev.grows_gather _ ?_ _ ([], s)
    exact fun x L => (((Dev.keeps_refl [.trunk] x.2).setFree _).setProto (by decide) _).grows
  exact hr.trans ((Dev.keeps_refl [.trunk] r.2).setProto (by decide) _).grows

theorem Dev.grows_upSend (t : Nat) (p : UpPart) : s.Grows [.trunk] (s.upSend t p) := by
  unfold Dev.upSend
  extract_lets r
  have hr : s.Grows [.trunk] r.2 := by
    refine Dev.grows_gather _ (fun x i => ?_) _ ([], s)
    split
    · exact Dev.grows_refl _ x.2
    · exact ((Dev.keeps_refl [.trunk] x.2).inc (by decide) _ _ _).grows
  exact hr.trans ((Dev.grows_send ..).trans (Dev.grows_sendReplies ..))

/-- What `upGo` does with one frame that waits. -/
def Dev.upFrameGo (s : Dev) (f : UpFrame) : Dev :=
  let r := match f.parts with
    | some l => (some l, s)
    | none => if f.t0 ≤ s.now then (some (s.upStart f).1, (s.upStart f).2) else (none, s)
  match r with
  | (none, s) => { s with proto := { s.proto with up := s.proto.up ++ [f] } }
  | (some l, s) =>
    let done := fun (p : UpPart) => decide (f.t0 * 10 + s.upEnd p ≤ s.now * 10)
    let t := s.each (l.filter done) fun s p => s.upSend f.t0 p
    let left := l.filter fun p => !done p
    if left = [] then t else { t with proto := { t.proto with up := t.proto.up ++ [{ f with parts := some left }] } }

theorem Dev.grows_upFrameGo (f : UpFrame) : s.Grows [.trunk] (s.upFrameGo f) := by
  unfold Dev.upFrameGo
  extract_lets r
  have hr : s.Grows [.trunk] r.2 := by
    simp only [r]
    split
    · exact Dev.grows_refl _ s
    · split
      · exact Dev.grows_upStart f
      · exact Dev.grows_refl _ s
  obtain ⟨_ | l, v⟩ := r
  · exact hr.trans ((Dev.keeps_refl [.trunk] v).setProto (by decide) _).grows
  · have ht := hr.trans (Dev.grows_each v (l.filter fun (p : UpPart) => decide (f.t0 * 10 + v.upEnd p ≤ v.now * 10)) _ fun v p _ => Dev.grows_upSend (s := v) f.t0 p)
    exact .ite _ (fun _ => ht) fun _ => ht.trans ((Dev.keeps_refl [.trunk] _).setProto (by decide) _).grows

theorem Dev.grows_upGo : s.Grows [.trunk] s.upGo :=
  .ite _ (fun _ => Dev.grows_refl _ s) fun _ => ((Dev.keeps_refl [.trunk] s).setProto (by decide) _).grows.trans (Dev.grows_each _ _ _ fun v f _ => Dev.grows_upFrameGo (s := v) f)

theorem Dev.grows_concLeafSof (n : Nat) : s.Grows [.trunk] (s.concLeafSof n) := by
  unfold Dev.concLeafSof
  split
  · exact Dev.grows_refl _ s
  · exact Dev.grows_each _ _ _ fun v L _ => (Dev.grows_send ..).trans (Dev.grows_iff _ _ _ fun _ => (Dev.keeps_sofSent L).grows)

theorem Dev.grows_fwdPump (p : Nat) : s.Grows [.trunk] (s.fwdPump p) := by
  unfold Dev.fwdPump
  refine .ite _ (fun _ => Dev.grows_refl _ s) fun _ => ?_
  split
  · exact Dev.grows_refl _ s
  · exact ((Dev.keeps_refl [.trunk] s).setProto (by decide) _).grows.trans (Dev.grows_send ..)

theorem Dev.grows_concBoundary (n : Nat) : s.Grows [.trunk, .tollgate] (s.concBoundary n) := by
  unfold Dev.concBoundary
  have h1 : s.Grows [.trunk, .tollgate] s.upGo.tgTransfer := (Dev.grows_upGo.mono (by decide)).trans (Dev.grows_tgTransfer.mono (by decide))
  have h2 := h1.trans ((Dev.grows_pwrBoundary (s := s.upGo.tgTransfer)).mono (by decide))
  have h3 := h2.trans ((Dev.grows_concLeafSof n).mono (by decide))
  refine h3.trans (Dev.Grows.mono ?_ (by decide : ∀ b ∈ [Blk.trunk], b ∈ [Blk.trunk, .tollgate]))
  exact (((Dev.keeps_refl [.trunk] _).setProto (by decide) _).grows.trans Dev.grows_upGo).trans (Dev.grows_each _ _ _ fun v p _ => Dev.grows_fwdPump p)

/-! ### A CELL -/

/-- The blocks of a CELL that a boundary moves. -/
def cellBlks : List Blk := [.trunk, .gate, .adc, .time, .tollgate]

theorem Dev.keeps_gateSample : s.Keeps cellBlks s.out s.gateSample := by
  unfold Dev.gateSample
  extract_lets v y temp s1 s2 s3 both apart s4 s5 l t hi lo
  have h3 : s.Keeps cellBlks s.out s3 := (((((Dev.keeps_refl cellBlks s).setFree _).put (by decide) _ _ _).put (by decide) _ _ _).put (by decide) _ _ _).put (by decide) _ _ _
  exact ((h3.iff _ _ fun _ => h3.setGate (by decide) _).iff _ _ fun _ => (h3.iff _ _ fun _ => h3.setGate (by decide) _).raise (by decide) _ _).put (by decide) _ _ _

theorem Dev.keeps_auxCompute : s.Keeps cellBlks s.out s.auxCompute :=
  .ite _ (fun _ => Dev.keeps_refl _ s) fun _ =>
    ((((Dev.keeps_refl cellBlks s).put (by decide) _ _ _).put (by decide) _ _ _).put (by decide) _ _ _).put (by decide) _ _ _

theorem Dev.grows_cellFrame (n : Nat) : s.Grows cellBlks (s.cellFrame n) := by
  unfold Dev.cellFrame
  extract_lets record lim t v
  have hv : s.Grows cellBlks v := Dev.grows_each _ _ _ fun v L _ => ((Dev.grows_send ..).trans (Dev.grows_sendReplies ..)).mono (by decide)
  exact hv.trans ((Dev.keeps_refl cellBlks v).setGate (by decide) _).grows

theorem Dev.keeps_tripHoldEnd : s.Keeps cellBlks s.out s.tripHoldEnd :=
  .ite _ (fun _ => ((Dev.keeps_refl cellBlks s).put (by decide) _ _ _).put (by decide) _ _ _) fun _ => Dev.keeps_refl _ s

theorem Dev.keeps_noSource : s.Keeps cellBlks s.out s.noSource :=
  .ite _ (fun _ => (Dev.keeps_refl cellBlks s).iff _ _ fun _ => (Dev.keeps_refl cellBlks s).put (by decide) _ _ _) fun _ =>
    ((Dev.keeps_refl cellBlks s).put (by decide) _ _ _).put (by decide) _ _ _

theorem Dev.keeps_timeLane : s.Keeps cellBlks s.out s.timeLane := by
  unfold Dev.timeLane
  extract_lets tv fl other pick v
  have h : s.Keeps cellBlks s.out v := ((Dev.keeps_refl cellBlks s).put (by decide) _ _ _).put (by decide) _ _ _
  exact h.iff _ _ fun _ => h.next Dev.keeps_noSource fun _ hb => hb

theorem Dev.keeps_follow : s.Keeps cellBlks s.out s.follow := by
  unfold Dev.follow
  dsimp only
  split
  · exact Dev.keeps_timeLane
  · exact ((Dev.keeps_refl cellBlks s).setGate (by decide) _).trans Dev.keeps_timeLane

theorem Dev.grows_cellBoundary (n : Nat) : s.Grows cellBlks (s.cellBoundary n) := by
  unfold Dev.cellBoundary
  refine .ite _ (fun _ => Dev.grows_refl _ s) fun _ => ?_
  extract_lets a s1 s2 s3 s4 s5 s6 cand g
  have h1 : s.Grows cellBlks s1 := ((Dev.keeps_refl cellBlks s).setAdc (by decide) _).grows
  have h4 : s.Grows cellBlks s4 := (((h1.trans Dev.keeps_gateSample.grows).trans Dev.keeps_auxCompute.grows).trans (Dev.grows_cellFrame n)).trans Dev.keeps_tripHoldEnd.grows
  have h5 : s.Grows cellBlks s5 := h4.trans (Dev.grows_each _ _ _ fun v L _ => .ite _ (fun _ => Dev.grows_refl _ v) fun _ => ((Dev.keeps_refl cellBlks v).setProto (by decide) _).grows)
  have h6 : s.Grows cellBlks s6 := h5.trans Dev.keeps_follow.grows
  exact h6.trans ((Dev.keeps_refl cellBlks s6).setGate (by decide) _).grows

/-! ### The two roles -/

/-- A device but for the blocks of the lanes, the gates, the converters, the time and the Tollgate keeps its cycle and its records. -/
theorem Dev.Grows.boundary (h : s.Grows cellBlks u) : u.glob.nextCyc = s.glob.nextCyc ∧ u.role = s.role ∧ u.loom = s.loom ∧ u.spin = s.spin :=
  ⟨by rw [h.keeps.glob_eq (by decide)], h.role, h.keeps.loom_eq (by decide), h.keeps.spin_eq (by decide)⟩

/-- The clock reads a step of the time that waits, before a boundary. -/
def Dev.atTick (s : Dev) : Dev := s.iff s.time.pendStep.isSome Dev.toTick

theorem Dev.atTick_withTime : ∃ x, s.atTick = { s with time := x } := by
  unfold Dev.atTick
  cases s.time.pendStep.isSome
  · exact ⟨s.time, rfl⟩
  · exact s.toTick_withTime

end

end Sys2Proof.Machine
end

section
/-! The boundary of a cycle in the MANAGER (R34 to R37, R40, R41, R46, R47, R49, R51, R53): the swap that is due, the shadow registers, the work that is
abandoned, and the cycle that starts. -/

namespace Sys2Proof.Machine

section
variable {s u v : Dev}

/-! ### The grid and the swap, whatever the cycles -/

/-- All that a boundary must not change by the way but the cycles in progress. -/
def Dev.frame (s : Dev) := (s.grid, s.swapSeen)

theorem Dev.frame_of_plan (h : u.plan = s.plan) : u.frame = s.frame := Prod.ext (Dev.grid_of_plan h) (Dev.seen_of_plan h)
theorem Dev.grid_of_frame (h : u.frame = s.frame) : u.grid = s.grid := congrArg (·.1) h
theorem Dev.seen_of_frame (h : u.frame = s.frame) : u.swapSeen = s.swapSeen := congrArg (·.2) h

theorem Dev.frame_setCycles (l : List CycRec) : ({ s with glob := { s.glob with cycles := l } } : Dev).frame = s.frame :=
  Prod.ext (Dev.grid_setGlob rfl rfl) (Dev.swapSeen_of rfl rfl fun G _ b i j => Dev.fb_setGlob (x := { s.glob with cycles := l }) rfl G b i j)

theorem Dev.frame_iff (c : Bool) (g : Dev → Dev) (h : (g s).frame = s.frame) : (s.iff c g).frame = s.frame := by
  cases c
  · rfl
  · exact h

theorem Dev.frame_each {α : Type} (l : List α) (g : Dev → α → Dev) (h : ∀ v a, (g v a).frame = v.frame) : (s.each l g).frame = s.frame :=
  Dev.each_inv (fun v => v.frame = s.frame) l g (fun v a _ hv => (h v a).trans hv) s rfl

theorem Dev.frame_latRecord : s.latRecord.frame = s.frame :=
  (Dev.frame_of_plan (Dev.plan_each _ _ fun v c _ => (Dev.plan_top (by decide) _).trans (Dev.plan_put (by decide) _))).trans (Dev.frame_setCycles _)

theorem Dev.frame_abandonArm (n a : Nat) : (s.abandonArm n a).frame = s.frame := by
  unfold Dev.abandonArm
  extract_lets v x w
  have hw : w.frame = s.frame := (Dev.frame_of_plan (Dev.Keeps.plan_eq (own := [.spindle]) ((Dev.keeps_refl _ v).setSpArm (by decide) _ _) (by decide) (by decide))).trans
    (Dev.frame_setCycles _)
  refine Dev.frame_latRecord.trans ((Dev.frame_of_plan ((Dev.plan_inc (by decide) _).trans ?_)).trans hw)
  exact (Dev.Keeps.plan_eq (own := [.reel]) ((Dev.keeps_refl _ _).setReel (by decide) _) (by decide) (by decide)).trans (Dev.plan_raise (by decide))

theorem Dev.frame_abandonDue (n : Nat) : (s.abandonDue n).frame = s.frame :=
  (Dev.frame_setCycles _).trans (Dev.frame_each _ _ fun _ _ => Dev.frame_abandonArm _ _)

theorem Dev.frame_dropWork : s.dropWork.frame = s.frame :=
  (Dev.frame_of_plan (Dev.Keeps.plan_eq (own := [.spindle]) (s := { s with glob := { s.glob with cycles := s.glob.cycles.map fun (c : CycRec) => { c with arms := [] } } })
    ((Dev.keeps_refl _ _).setSpin (by decide) _) (by decide) (by decide))).trans (Dev.frame_setCycles _)

/-! ### The shadow registers -/

theorem Dev.xfer_glob (E : Fld) (i j : Nat) : (s.xfer E i j).glob.plain = s.glob.plain := by
  unfold Dev.xfer Dev.putb
  cases E.blk <;> rfl

/-- A field of GLOBAL beside those that the transfer of `STAMP` writes. -/
def Fld.besideStamp (G : Fld) : Bool :=
  decide (G.blk = .global) && [F.GLOBAL_STAMP_FIXED, F.GLOBAL_STAMP_ALLOW, F.GLOBAL_CYCLE_STAT_ALLOW_SHORT].all (G.apart ·)

/-- What the shadow registers of GLOBAL and TRUNK leave: GLOBAL but for its registers, and its fields beside those of `STAMP`. -/
structure Dev.Transfers (s u : Dev) : Prop where
  role : u.role = s.role
  glob : u.glob.plain = { s.glob.plain with stampInForce := u.glob.stampInForce, stampWr := u.glob.stampWr }
  fld : ∀ G, G.besideStamp = true → ∀ b i j, u.fb G b i j = s.fb G b i j

/-- STAMP is transferred, and a short allowance is shown. -/
def Dev.stampTaken (s : Dev) : Dev := (s.xferReg F.regGlobalStamp).iff s.glob.stampWr Dev.allowCheck

theorem Dev.fb_xfer_apart {G E : Fld} (h : G.apart E = true) (i j b i' j' : Nat) : (s.xfer E i j).fb G b i' j' = s.fb G b i' j' := Dev.fb_putb_apart _ _ _ _ _ _ _ _ h
theorem Dev.fi_xfer (E : Fld) (i j : Nat) : (s.xfer E i j).fi E i j = s.f E i j % 2 ^ E.w := Dev.fb_putb_same ..

theorem Dev.xferReg_stamp_eq : s.xferReg F.regGlobalStamp = (s.xfer F.GLOBAL_STAMP_FIXED).xfer F.GLOBAL_STAMP_ALLOW := rfl
theorem Dev.xferReg_carrier_eq (a : Nat) : s.xferReg F.regTrunkCarrier a = (s.xfer F.TRUNK_CARRIER_CPHASE a).xfer F.TRUNK_CARRIER_CPER a := rfl

/-- The values of STAMP in force. -/
theorem Dev.xferReg_stamp : (s.xferReg F.regGlobalStamp).fi F.GLOBAL_STAMP_ALLOW = s.f F.GLOBAL_STAMP_ALLOW % 2 ^ 16 ∧
    (s.xferReg F.regGlobalStamp).fi F.GLOBAL_STAMP_FIXED = s.f F.GLOBAL_STAMP_FIXED % 2 ^ 16 := by
  rw [Dev.xferReg_stamp_eq]
  refine ⟨(Dev.fi_xfer ..).trans (congrArg (· % 2 ^ 16) (Dev.fb_xfer_apart (by decide) ..)), (Dev.fb_xfer_apart (by decide) ..).trans (Dev.fi_xfer ..)⟩

theorem Dev.transfers_stampTaken : s.Transfers s.stampTaken ∧ s.stampTaken.cpers = s.cpers ∧
    s.stampTaken.fi F.GLOBAL_STAMP_ALLOW = s.f F.GLOBAL_STAMP_ALLOW % 2 ^ 16 ∧ s.stampTaken.fi F.GLOBAL_STAMP_FIXED = s.f F.GLOBAL_STAMP_FIXED % 2 ^ 16 := by
  obtain ⟨ha, hf⟩ := Dev.xferReg_stamp (s := s)
  have hx : ∀ G : Fld, G.apart F.GLOBAL_STAMP_FIXED = true → G.apart F.GLOBAL_STAMP_ALLOW = true → ∀ b i j, (s.xferReg F.regGlobalStamp).fb G b i j = s.fb G b i j :=
    fun G h1 h2 b i j => (Dev.fb_xfer_apart h2 ..).trans (Dev.fb_xfer_apart h1 ..)
  have hi : ∀ G : Fld, G.apart F.GLOBAL_CYCLE_STAT_ALLOW_SHORT = true → ∀ b i j, s.stampTaken.fb G b i j = (s.xferReg F.regGlobalStamp).fb G b i j := fun G hG b i j =>
    Dev.iff_keeps _ (·.fb G b i j) _ _ fun _ => Dev.iff_keeps _ (·.fb G b i j) _ _ fun _ => (Dev.befall_fb ..).trans (Dev.fb_put_apart _ _ _ _ _ _ _ hG)
  have hal : ∀ v : Dev, v.allowCheck.glob.plain = v.glob.plain := fun v => Dev.iff_keeps (p := fun v => v.glob.plain) _ _ _ fun _ => Dev.glob_raise ..
  have hgl : s.stampTaken.glob.plain = s.glob.plain := Dev.iff_keeps (p := fun v => v.glob.plain) (s.xferReg F.regGlobalStamp) s.glob.stampWr Dev.allowCheck fun _ => hal _
  refine ⟨⟨?_, ?_, fun G hG b i j => ?_⟩, ?_, (hi _ (by decide) ..).trans ha, (hi _ (by decide) ..).trans hf⟩
  · exact Dev.iff_keeps _ Dev.role _ _ fun _ => Dev.iff_keeps _ Dev.role _ _ fun _ => rfl
  · rw [hgl, show s.stampTaken.glob.stampInForce = s.glob.stampInForce from congrArg Glob.stampInForce (a₁ := s.stampTaken.glob.plain) (a₂ := s.glob.plain) hgl,
      show s.stampTaken.glob.stampWr = s.glob.stampWr from congrArg Glob.stampWr (a₁ := s.stampTaken.glob.plain) (a₂ := s.glob.plain) hgl]
    rfl
  · simp only [Fld.besideStamp, Bool.and_eq_true, List.all_cons, List.all_nil] at hG
    obtain ⟨-, h1, h2, h3, -⟩ := hG
    exact (hi G h3 ..).trans (hx G h1 h2 ..)
  · exact Dev.cpers_of fun a _ b => (hi _ (by decide) ..).trans (hx _ (by decide) (by decide) ..)

/-- STAMP of `CYCLE_CTL` comes into force. -/
def Dev.stampForced (s : Dev) : Dev := { s with glob := { s.glob with stampInForce := s.flag F.GLOBAL_CYCLE_CTL_STAMP, stampWr := false } }

/-- CARRIER of every arm is transferred. -/
def Dev.carriersTaken (s : Dev) : Dev := s.each (List.range 12) fun s a => s.xferReg F.regTrunkCarrier a

theorem Dev.cycleShadows_eq : s.cycleShadows = s.stampTaken.stampForced.carriersTaken := rfl

theorem Dev.Transfers.carrier (h : s.Transfers u) (a : Nat) : s.Transfers (u.xferReg F.regTrunkCarrier a) := by
  refine ⟨h.role, h.glob, fun G hG b i j => (?_ : _ = u.fb G b i j).trans (h.fld G hG b i j)⟩
  have hG : G.blk = .global := of_decide_eq_true (Bool.and_eq_true_iff.1 hG).1
  have ht : G.apart F.TRUNK_CARRIER_CPHASE = true ∧ G.apart F.TRUNK_CARRIER_CPER = true := by simp [Fld.apart, hG, F.TRUNK_CARRIER_CPHASE, F.TRUNK_CARRIER_CPER]
  exact (Dev.fb_xfer_apart ht.2 ..).trans (Dev.fb_xfer_apart ht.1 ..)

/-- CPER of an arm after the transfer of an arm. -/
theorem Dev.fb_xferCarrier {a c : Nat} (ha : a < 12) (hc : c < 12) (b : Nat) (hb : b ≤ 2) : (s.xferReg F.regTrunkCarrier a).fb F.TRUNK_CARRIER_CPER b c =
    if b = 2 ∧ c = a then s.f F.TRUNK_CARRIER_CPER a % 2 ^ 32 else s.fb F.TRUNK_CARRIER_CPER b c := by
  have hp : ∀ c b, ((s.xfer F.TRUNK_CARRIER_CPHASE a).fb F.TRUNK_CARRIER_CPER b c) = s.fb F.TRUNK_CARRIER_CPER b c := fun c b => Dev.fb_xfer_apart (by decide) ..
  rw [Dev.xferReg_carrier_eq]
  split
  · rename_i h
    rw [h.1, h.2]
    exact (Dev.fi_xfer ..).trans (congrArg (· % 2 ^ 32) (hp ..))
  · rename_i h
    refine (Dev.fb_putb_other _ F.TRUNK_CARRIER_CPER F.TRUNK_CARRIER_CPER _ _ _ _ (.inr ?_)).trans (hp ..)
    simp only [Fld.key, F.TRUNK_CARRIER_CPER, inForce]
    omega

theorem Dev.Transfers.carriers (h : s.Transfers u) : s.Transfers u.carriersTaken := Dev.each_inv (fun v => s.Transfers v) _ _ (fun _ a _ hv => hv.carrier a) u h

theorem Dev.carriersTaken_glob : s.carriersTaken.glob.plain = s.glob.plain := by
  refine Dev.each_inv (fun v => v.glob.plain = s.glob.plain) _ _ (fun v a _ hv => ?_) s rfl
  rw [Dev.xferReg_carrier_eq, Dev.xfer_glob, Dev.xfer_glob, hv]

theorem Dev.carriersTaken_stampInForce : s.carriersTaken.glob.stampInForce = s.glob.stampInForce :=
  congrArg Glob.stampInForce (a₁ := s.carriersTaken.glob.plain) (a₂ := s.glob.plain) Dev.carriersTaken_glob

theorem Dev.carriersTaken_fi {G : Fld} (hG : G.blk = .global) : s.carriersTaken.fi G = s.fi G := by
  have h : G.apart F.TRUNK_CARRIER_CPHASE = true ∧ G.apart F.TRUNK_CARRIER_CPER = true := by simp [Fld.apart, hG, F.TRUNK_CARRIER_CPHASE, F.TRUNK_CARRIER_CPER]
  refine Dev.each_inv (fun v => v.fi G = s.fi G) _ _ (fun v a _ hv => ?_) s rfl
  exact ((Dev.fb_xfer_apart h.2 ..).trans (Dev.fb_xfer_apart h.1 ..)).trans hv

theorem Dev.carriersTaken_cper {c : Nat} (hc : c < 12) : s.carriersTaken.fi F.TRUNK_CARRIER_CPER c = s.f F.TRUNK_CARRIER_CPER c % 2 ^ 32 := by
  refine Dev.each_once (fun v => v.f F.TRUNK_CARRIER_CPER c = s.f F.TRUNK_CARRIER_CPER c) (fun v => v.fi F.TRUNK_CARRIER_CPER c = s.f F.TRUNK_CARRIER_CPER c % 2 ^ 32)
    _ _ (List.mem_range.2 hc) List.nodup_range (fun v a ha hne hv => ?_) (fun v hv => ?_) (fun v a ha hne hv => ?_) s rfl
  · exact ((Dev.fb_xferCarrier (List.mem_range.1 ha) hc 0 (by decide)).trans (if_neg (by omega))).trans hv
  · exact ((Dev.fb_xferCarrier hc hc 2 (by decide)).trans (if_pos ⟨rfl, rfl⟩)).trans (by rw [hv])
  · exact ((Dev.fb_xferCarrier (List.mem_range.1 ha) hc 2 (by decide)).trans (if_neg (by omega))).trans hv

theorem Dev.stampForced_fb (G : Fld) (b i j : Nat) : s.stampForced.fb G b i j = s.fb G b i j := Dev.fb_setGlob rfl ..

theorem Dev.Transfers.forced (h : s.Transfers u) : s.Transfers u.stampForced := by
  refine ⟨h.role, ?_, fun G hG b i j => (Dev.stampForced_fb ..).trans (h.fld G hG b i j)⟩
  have hp : u.stampForced.glob.plain = { u.glob.plain with stampInForce := u.stampForced.glob.stampInForce, stampWr := u.stampForced.glob.stampWr } := rfl
  rw [hp, h.glob]

/-- What the transfers of the shadow registers leave. -/
theorem Dev.cycleShadows_spec : let u := s.cycleShadows
    s.Transfers u ∧ u.glob.stampInForce = s.flag F.GLOBAL_CYCLE_CTL_STAMP ∧
    u.fi F.GLOBAL_STAMP_ALLOW = s.f F.GLOBAL_STAMP_ALLOW % 2 ^ 16 ∧ u.fi F.GLOBAL_STAMP_FIXED = s.f F.GLOBAL_STAMP_FIXED % 2 ^ 16 ∧
    ∀ a, a < 12 → u.fi F.TRUNK_CARRIER_CPER a = s.f F.TRUNK_CARRIER_CPER a % 2 ^ 32 := by
  obtain ⟨ht, hc, ha, hf⟩ := Dev.transfers_stampTaken (s := s)
  rw [Dev.cycleShadows_eq]
  generalize s.stampTaken = v at *
  have hfi : ∀ G : Fld, G.blk = .global → v.stampForced.carriersTaken.fi G = v.fi G := fun G hG =>
    (Dev.carriersTaken_fi hG).trans (Dev.stampForced_fb ..)
  refine ⟨ht.forced.carriers, Dev.carriersTaken_stampInForce.trans ?_, (hfi _ rfl).trans ha, (hfi _ rfl).trans hf, fun c h12 => ?_⟩
  · show decide (v.f F.GLOBAL_CYCLE_CTL_STAMP ≠ 0) = decide (s.f F.GLOBAL_CYCLE_CTL_STAMP ≠ 0)
    rw [show v.f F.GLOBAL_CYCLE_CTL_STAMP = s.f F.GLOBAL_CYCLE_CTL_STAMP from ht.fld _ (by decide) ..]
  · have hv := congrFun (congrFun hc 0) c
    simp only [Dev.cpers, if_pos h12] at hv
    exact (Dev.carriersTaken_cper h12).trans (congrArg (· % 2 ^ 32) ((Dev.stampForced_fb ..).trans hv))

/-- The transfers leave the swap. -/
theorem Dev.Transfers.seen (h : s.Transfers u) : u.swapSeen = s.swapSeen :=
  Dev.swapSeen_of (congrArg Glob.swap (a₁ := u.glob.plain) (a₂ := { s.glob.plain with stampInForce := u.glob.stampInForce, stampWr := u.glob.stampWr }) h.glob)
    (congrArg Glob.swapOk (a₁ := u.glob.plain) (a₂ := { s.glob.plain with stampInForce := u.glob.stampInForce, stampWr := u.glob.stampWr }) h.glob)
    fun G hG => h.fld G (List.all_eq_true.1 (by decide : swapFlds.all Fld.besideStamp = true) G hG)

end

end Sys2Proof.Machine
end

section
/-! The swap that is due at a boundary (R53): checks that have had their time end, the sets exchange at the target, and checks that still run there
end with BUSY. -/

namespace Sys2Proof.Machine

section
variable {s u v : Dev} {w : Swap}

/-! ### The grid and the cycles -/

/-- What a swap does not change: the grid and the cycles in progress. -/
def Dev.flow (s : Dev) := (s.grid, s.glob.cycles)

theorem Dev.flow_of (hg : u.grid = s.grid) (hc : u.glob.cycles = s.glob.cycles) : u.flow = s.flow := Prod.ext hg hc
theorem Dev.grid_of_flow (h : u.flow = s.flow) : u.grid = s.grid := congrArg (·.1) h
theorem Dev.cycles_of_flow (h : u.flow = s.flow) : u.glob.cycles = s.glob.cycles := congrArg (·.2) h
theorem Dev.flow_of_plan (h : u.plan = s.plan) : u.flow = s.flow := Dev.flow_of (Dev.grid_of_plan h) (Dev.cycles_of_plan h)

theorem Dev.flow_iff (c : Bool) (g : Dev → Dev) (h : (g s).flow = s.flow) : (s.iff c g).flow = s.flow := by
  cases c
  · rfl
  · exact h

theorem Dev.flow_swapDone (hw : s.glob.swap = some w) (st : Status) : (s.swapDone st).flow = s.flow := by
  have h := Dev.swapDone_plan hw st
  obtain ⟨-, -, hc, -⟩ := Dev.swapEnded_spec (s := s) st
  exact Dev.flow_of ((Dev.grid_of_plan h).trans (Dev.swapEnded_grid st)) ((Dev.cycles_of_plan h).trans hc)

theorem Dev.flow_of_otherSet (h : u.plan = s.otherSet.plan) : u.flow = s.flow := by
  obtain ⟨hg, -, hc, -⟩ := Dev.of_otherSet h
  exact Dev.flow_of hg hc

theorem Dev.flow_passed : (s.passed w).flow = s.flow := by
  obtain ⟨hg, -, -, hc, -⟩ := Dev.passed_spec (s := s) w
  exact Dev.flow_of hg hc

theorem Dev.swapChecked (hw : s.glob.swap = some w) (set : Nat) : (s.swapChecks set).2.glob.swap = some w :=
  (Dev.swap_of_seen (Dev.seen_of_plan (Dev.plan_swapChecks set).1)).trans hw

theorem Dev.flow_swapChecksDone : s.swapChecksDone.flow = s.flow := by
  rcases hw : s.glob.swap with _ | w
  · rw [Dev.swapChecksDone_none hw]
  · rcases hc : w.checked with _ | x
    · by_cases hf : (s.swapChecks (1 - s.actSet)).1 = .ok
      · rw [Dev.swapChecksDone_pass hw hc hf]
        exact (Dev.flow_iff _ _ (Dev.flow_of_otherSet Dev.exchangeIdle_plan)).trans Dev.flow_passed
      · rw [Dev.swapChecksDone_fail hw hc hf]
        exact (Dev.flow_swapDone (Dev.swapChecked hw _) _).trans (Dev.flow_of_plan (Dev.plan_swapChecks _).1)
    · rw [Dev.swapChecksDone_checked hw (by rw [hc]; rfl)]

/-- What is done at a boundary with a request, once checks that have had their time have ended. -/
def Dev.swapTurn (s : Dev) (n : Nat) (run : Bool) : Dev :=
  match s.glob.swap with
  | none => s
  | some w =>
    if w.exchanged then s
    else if w.checked.isSome then s.iff (!run || decide (w.target ≤ n)) fun s => s.exchange n
    else s.iff (run && decide (w.target ≠ 0) && decide (w.target ≤ n)) fun s => s.swapDone .busy

theorem Dev.swapBoundary_eq (n : Nat) (run : Bool) : s.swapBoundary n run = s.swapInTime.swapTurn n run := rfl

theorem Dev.flow_swapTurn (n : Nat) (run : Bool) : (s.swapTurn n run).flow = s.flow := by
  rcases hw : s.glob.swap with _ | w <;> rw [Dev.swapTurn, hw]
  dsimp only
  split
  · rfl
  · split
    · exact Dev.flow_iff _ _ (Dev.flow_of_otherSet (Dev.exchange_plan n))
    · exact Dev.flow_iff _ _ (Dev.flow_swapDone hw _)

theorem Dev.flow_swapBoundary (n : Nat) (run : Bool) : (s.swapBoundary n run).flow = s.flow :=
  (Dev.flow_swapTurn n run).trans (Dev.flow_iff _ _ Dev.flow_swapChecksDone)

/-! ### A request at a boundary -/

theorem Dev.swapTurn_none (h : s.glob.swap = none) (n : Nat) (run : Bool) : s.swapTurn n run = s := by rw [Dev.swapTurn, h]

theorem Dev.swapTurn_exchanged (h : s.glob.swap = some w) (he : w.exchanged = true) (n : Nat) (run : Bool) : s.swapTurn n run = s := by
  rw [Dev.swapTurn, h]
  exact if_pos he

theorem Dev.swapTurn_checked (h : s.glob.swap = some w) (he : w.exchanged = false) (hc : w.checked.isSome = true) (n : Nat) (run : Bool) :
    s.swapTurn n run = s.iff (!run || decide (w.target ≤ n)) fun s => s.exchange n := by
  rw [Dev.swapTurn, h]
  dsimp only
  rw [if_neg (by simp [he]), if_pos hc]

theorem Dev.swapTurn_running (h : s.glob.swap = some w) (he : w.exchanged = false) (hc : w.checked = none) (n : Nat) (run : Bool) :
    s.swapTurn n run = s.iff (run && decide (w.target ≠ 0) && decide (w.target ≤ n)) fun s => s.swapDone .busy := by
  rw [Dev.swapTurn, h]
  dsimp only
  rw [if_neg (by simp [he]), if_neg (by simp [hc])]

/-- A checked request: the sets exchange at its target, or where no cycle runs. -/
theorem Dev.actSet_swapTurn (h : s.glob.swap = some w) (he : w.exchanged = false) (hc : w.checked.isSome = true) (n : Nat) (run : Bool) :
    (run = false ∨ w.target ≤ n → (s.swapTurn n run).actSet = 1 - s.actSet) ∧ (run = true → n < w.target → (s.swapTurn n run).actSet = s.actSet) := by
  rw [Dev.swapTurn_checked h he hc]
  refine ⟨fun hn => ?_, fun hr hn => ?_⟩
  · rw [show (!run || decide (w.target ≤ n)) = true by rcases hn with hn | hn <;> simp [hn], Dev.iff_true]
    obtain ⟨-, -, -, h4⟩ := Dev.of_otherSet (Dev.exchange_plan (s := s) n)
    exact h4
  · rw [show (!run || decide (w.target ≤ n)) = false by simp [hr, hn], Dev.iff_false]

/-- A request that has ended with a failure. -/
theorem Dev.swapDone_failed (h : s.glob.swap = some w) {st : Status} (hf : st ≠ .ok) : let u := s.swapDone st
    u.glob.swap = none ∧ u.actSet = s.actSet ∧ u.f F.GLOBAL_CFG_STAT_STATUS = st.code ∧ u.f F.GLOBAL_CYCLE_STAT_SWAP_FAIL = 1 := by
  have hs := Dev.seen_of_plan (Dev.swapDone_plan h st)
  obtain ⟨h1, -, -, h4, -, h6, h7, -⟩ := Dev.swapEnded_spec (s := s) st
  exact ⟨(Dev.swap_of_seen hs).trans h1, (Dev.actSet_of_seen hs).trans h4, (Dev.fb_of_swapSeen hs (by decide) ..).trans h6,
    (Dev.fb_of_swapSeen hs (by decide) ..).trans (h7 hf)⟩

theorem Dev.swapInTime_other (h : s.glob.swap.any (fun w => w.checked.isNone && decide (w.since + s.checkBound ≤ s.coreCycle)) = false) : s.swapInTime = s := by
  rw [Dev.swapInTime, h]
  rfl

theorem Dev.swapInTime_up (h : s.glob.swap = some w) (hc : w.checked = none) (ht : w.since + s.checkBound ≤ s.coreCycle) : s.swapInTime = s.swapChecksDone := by
  rw [Dev.swapInTime, h]
  simp [hc, ht, Dev.iff]

/-- The device after a boundary's swap, for a request that has not exchanged the sets: `run` tells that cycles go on. -/
structure Dev.SwapDue (s : Dev) (w : Swap) (n : Nat) (run : Bool) (u : Dev) : Prop where
  exchanged : w.checked.isSome = true → run = false ∨ w.target ≤ n → u.actSet = 1 - s.actSet
  kept : run = true → n < w.target → u.actSet = s.actSet
  busy : w.checked = none → ¬ w.since + s.checkBound ≤ s.coreCycle → u.actSet = s.actSet ∧ (run = true → w.target ≠ 0 → w.target ≤ n → u.glob.swap = none ∧
    u.f F.GLOBAL_CFG_STAT_STATUS = Status.busy.code ∧ u.f F.GLOBAL_CYCLE_STAT_SWAP_FAIL = 1)
  failed : w.checked = none → w.since + s.checkBound ≤ s.coreCycle → (s.swapChecks (1 - s.actSet)).1 ≠ .ok → u.actSet = s.actSet ∧ u.glob.swap = none ∧
    u.f F.GLOBAL_CFG_STAT_STATUS = (s.swapChecks (1 - s.actSet)).1.code ∧ u.f F.GLOBAL_CYCLE_STAT_SWAP_FAIL = 1
  passed : w.checked = none → w.since + s.checkBound ≤ s.coreCycle → (s.swapChecks (1 - s.actSet)).1 = .ok → run = false ∨ w.target ≤ n → u.actSet = 1 - s.actSet

theorem Dev.swapDue_checked (h : s.glob.swap = some w) (he : w.exchanged = false) (hc : w.checked.isSome = true) (n : Nat) (run : Bool) :
    s.SwapDue w n run (s.swapBoundary n run) := by
  have hn : w.checked ≠ none := fun hn => by simp [hn] at hc
  rw [Dev.swapBoundary_eq, Dev.swapInTime_other (by rw [h]; simp [Option.any, hn])]
  obtain ⟨h1, h2⟩ := Dev.actSet_swapTurn h he hc n run
  exact ⟨fun _ => h1, h2, fun h' => absurd h' hn, fun h' => absurd h' hn, fun h' => absurd h' hn⟩

theorem Dev.swapDue_running (h : s.glob.swap = some w) (he : w.exchanged = false) (hc : w.checked = none) (ht : ¬ w.since + s.checkBound ≤ s.coreCycle) (n : Nat) (run : Bool) :
    s.SwapDue w n run (s.swapBoundary n run) := by
  have hn : ¬ w.checked.isSome = true := by simp [hc]
  rw [Dev.swapBoundary_eq, Dev.swapInTime_other (by rw [h]; simp [Option.any, ht]), Dev.swapTurn_running h he hc]
  obtain ⟨h1, h2, h3, h4⟩ := Dev.swapDone_failed h (st := .busy) (by decide)
  have hset : (s.iff (run && decide (w.target ≠ 0) && decide (w.target ≤ n)) fun s => s.swapDone .busy).actSet = s.actSet := Dev.iff_keeps s Dev.actSet _ _ fun _ => h2
  refine ⟨fun h' => absurd h' hn, fun _ _ => hset, fun _ _ => ⟨hset, fun hr h0 hl => ?_⟩, fun _ h' => absurd h' ht, fun _ h' => absurd h' ht⟩
  rw [show (run && decide (w.target ≠ 0) && decide (w.target ≤ n)) = true by simp [hr, h0, hl]]
  exact ⟨h1, h3, h4⟩

theorem Dev.swapDue_failed (h : s.glob.swap = some w) (hc : w.checked = none) (ht : w.since + s.checkBound ≤ s.coreCycle)
    (hf : (s.swapChecks (1 - s.actSet)).1 ≠ .ok) (n : Nat) (run : Bool) : s.SwapDue w n run (s.swapBoundary n run) := by
  have hn : ¬ w.checked.isSome = true := by simp [hc]
  obtain ⟨h1, h2, h3, h4⟩ := Dev.swapDone_failed (Dev.swapChecked h (1 - s.actSet)) hf
  have hset := h2.trans (Dev.actSet_of_seen (Dev.seen_of_plan (Dev.plan_swapChecks (s := s) (1 - s.actSet)).1))
  rw [Dev.swapBoundary_eq, Dev.swapInTime_up h hc ht, Dev.swapChecksDone_fail h hc hf, Dev.swapTurn_none h1]
  exact ⟨fun h' => absurd h' hn, fun _ _ => hset, fun _ h' => absurd ht h', fun _ _ _ => ⟨hset, h1, h3, h4⟩, fun _ _ h' => absurd h' hf⟩

theorem Dev.swapDue_passed (h : s.glob.swap = some w) (he : w.exchanged = false) (hc : w.checked = none) (ht : w.since + s.checkBound ≤ s.coreCycle)
    (hf : (s.swapChecks (1 - s.actSet)).1 = .ok) (n : Nat) {run : Bool} (hi : s.cycleIdle = !run) : s.SwapDue w n run (s.swapBoundary n run) := by
  have hn : ¬ w.checked.isSome = true := by simp [hc]
  obtain ⟨hg, h1, h2, -, -⟩ := Dev.passed_spec (s := s) w
  rw [Dev.swapBoundary_eq, Dev.swapInTime_up h hc ht, Dev.swapChecksDone_pass h hc hf, Dev.cycleIdle_of_grid hg, hi]
  cases run
  · obtain ⟨-, h5, -, h6⟩ := Dev.of_otherSet (Dev.exchangeIdle_plan (s := s.passed w))
    have hset : (s.passed w).exchangeIdle.actSet = 1 - s.actSet := h6.trans (by rw [h2])
    have hx : (s.passed w).exchangeIdle.glob.swap = some { w with checked := some .ok, exchanged := true } := h5.trans (by rw [h1]; rfl)
    have ht' : ((s.passed w).iff (!false) Dev.exchangeIdle).swapTurn n false = (s.passed w).exchangeIdle := Dev.swapTurn_exchanged hx rfl n false
    rw [ht']
    exact ⟨fun h' => absurd h' hn, (nomatch ·), fun _ h' => absurd ht h', fun _ _ h' => absurd hf h', fun _ _ _ _ => hset⟩
  · obtain ⟨h5, h6⟩ := Dev.actSet_swapTurn h1 he rfl n true
    rw [h2] at h5 h6
    exact ⟨fun h' => absurd h' hn, h6, fun _ h' => absurd ht h', fun _ _ h' => absurd hf h', fun _ _ _ => h5⟩

/-- A request that has not exchanged the sets, at a boundary. -/
theorem Dev.swapDue (h : s.glob.swap = some w) (he : w.exchanged = false) (n : Nat) {run : Bool} (hi : s.cycleIdle = !run) : s.SwapDue w n run (s.swapBoundary n run) := by
  rcases hc : w.checked with _ | x
  · by_cases ht : w.since + s.checkBound ≤ s.coreCycle
    · by_cases hf : (s.swapChecks (1 - s.actSet)).1 = .ok
      · exact Dev.swapDue_passed h he hc ht hf n hi
      · exact Dev.swapDue_failed h hc ht hf n run
    · exact Dev.swapDue_running h he hc ht n run
  · exact Dev.swapDue_checked h he (by rw [hc]; rfl) n run

end

end Sys2Proof.Machine
end

section
/-! The boundary of a cycle (R34 to R37, R40, R46, R47, R51, R53): what it leaves, in every role. -/

namespace Sys2Proof.Machine

section
variable {s u v : Dev}

theorem Dev.warm_of_grid (h : u.grid = s.grid) : u.glob.warm = s.glob.warm := congrArg (·.2.1.warm) h
theorem Dev.stampInForce_of_grid (h : u.grid = s.grid) : u.glob.stampInForce = s.glob.stampInForce := congrArg (·.2.1.stampInForce) h

/-! ### The parts of a boundary in the MANAGER -/

/-- The boundary is counted. -/
def Dev.opened (s : Dev) (n : Nat) (run : Bool) : Dev := { s with glob := { s.glob with nextCyc := n + 1, running := run } }

/-- The swap, the shadow registers, the work that is abandoned, the pair, the converters, and the work that a unit that leaves ACTIVE drops. -/
def Dev.taken (s : Dev) (n : Nat) (run was : Bool) : Dev :=
  let s := (((s.swapBoundary n run).cycleShadows).abandonDue n).pairBoundary n run
  let s := s.iff (run && decide (s.adc.last ≠ some (s.bnd n))) fun s => s.adcXferAt (s.bnd n)
  s.iff (was && !s.unitActive) Dev.dropWork

/-- What follows the start of a cycle, up to the superframe. -/
def Dev.followed (s : Dev) (old n : Nat) (run : Bool) (prev : Option CycRec) : Dev :=
  let s := s.loomBoundary old n run
  let s := s.iff run fun s => s.spBoundary s.actSet n prev
  (s.reelBoundary.pwrBoundary).managerSof n

/-- What is sent after it, and what a warm reset that waits leaves. -/
def Dev.sentOn (s : Dev) (n : Nat) : Dev :=
  match s.glob.warm with
  | some k => { s with glob := { s.glob with warm := some (k % 16 + 16) } }
  | none => ((s.stateSend n).idReads).rrSend

theorem Dev.managerBoundary_eq (n : Nat) (run : Bool) : s.managerBoundary n run =
    ((((s.opened n run).taken n run s.unitActive).iff run fun s => s.cycleStart n).followed s.actSet n run s.glob.cycles.head?).sentOn n := by
  unfold Dev.managerBoundary
  extract_lets old prev was g o v w x y st a sent src
  have ho : o = s.opened n run := rfl
  clear_value o
  subst ho
  have hx : x = (s.opened n run).taken n run s.unitActive := rfl
  have hy : y = ((s.opened n run).taken n run s.unitActive).iff run fun s => s.cycleStart n := by rw [← hx]
  have hsent : sent = y.followed old n run prev := rfl
  rw [← hy, ← hsent]
  clear_value sent
  rfl

theorem Dev.frame_taken (n : Nat) (run was : Bool) : (s.taken n run was).frame = (s.swapBoundary n run).cycleShadows.frame := by
  unfold Dev.taken
  extract_lets v w
  have hv : v.frame = (s.swapBoundary n run).cycleShadows.frame :=
    (Dev.frame_of_plan ((Dev.keeps_pairBoundary n run).plan_eq (by decide) (by decide))).trans (Dev.frame_abandonDue n)
  have hw : w.frame = v.frame := Dev.frame_iff _ _ (Dev.frame_of_plan (Dev.Keeps.plan_eq (((Dev.keeps_refl [.adc] v)).adcXferAt (by decide) _) (by decide) (by decide)))
  exact (Dev.frame_iff _ _ Dev.frame_dropWork).trans (hw.trans hv)

theorem Dev.plan_followed (old n : Nat) (run : Bool) (prev : Option CycRec) : (s.followed old n run prev).plan = s.plan := by
  unfold Dev.followed
  extract_lets v w
  have hv : v.plan = s.plan := Dev.Keeps.plan_eq ((Dev.keeps_refl [.loom, .pair] s).loomBoundary (by decide) (by decide) _ _ _) (by decide) (by decide)
  have hw : w.plan = v.plan := Dev.plan_iff _ _ (Dev.Keeps.plan_eq ((Dev.keeps_refl [.spindle] v).spBoundary (by decide) _ _ _) (by decide) (by decide))
  refine ((Dev.plan_managerSof n).trans (Dev.plan_pwrBoundary.trans ?_)).trans (hw.trans hv)
  exact Dev.Keeps.plan_eq ((Dev.keeps_refl [.reel] w).reelBoundary (by decide)) (by decide) (by decide)

theorem Dev.plan_sentOn (n : Nat) (hw : s.glob.warm = none) : (s.sentOn n).plan = s.plan := by
  rw [Dev.sentOn, hw]
  exact Dev.plan_rrSend.trans (Dev.plan_idReads.trans (Dev.plan_stateSend n))

/-- From the start of a cycle to the end of the boundary. -/
theorem Dev.plan_closed (old n : Nat) (run : Bool) (prev : Option CycRec) (hw : s.glob.warm = none) : ((s.followed old n run prev).sentOn n).plan = s.plan := by
  have h := Dev.plan_followed (s := s) old n run prev
  exact (Dev.plan_sentOn n ((Dev.warm_of_grid (Dev.grid_of_plan h)).trans hw)).trans h

/-- The start of a cycle. -/
theorem Dev.cycleStart_spec (n : Nat) : let u := s.cycleStart n
    u.role = s.role ∧ u.glob.grid = s.glob.grid ∧ u.swapSeen = s.swapSeen ∧ u.f F.GLOBAL_CYCLE_CNT_CYCLE = n % 2 ^ 64 ∧
    (∀ G : Fld, G.apart F.GLOBAL_CYCLE_CNT_CYCLE = true → ∀ b i j, u.fb G b i j = s.fb G b i j) ∧
    ∃ c, u.glob.cycles.head? = some c ∧ c.n = n ∧ c.set = s.actSet ∧ c.t0 = s.bnd n := by
  unfold Dev.cycleStart
  extract_lets set c
  have hfb : ∀ G : Fld, G.apart F.GLOBAL_CYCLE_CNT_CYCLE = true → ∀ b i j,
      (({ s with glob := { s.glob with cycles := c :: s.glob.cycles } } : Dev).put F.GLOBAL_CYCLE_CNT_CYCLE n).fb G b i j = s.fb G b i j := fun G hG b i j =>
    (Dev.fb_put_apart _ _ _ _ _ _ _ hG).trans (Dev.fb_setGlob rfl ..)
  refine ⟨rfl, rfl, Dev.swapSeen_of rfl rfl fun G hG => hfb G (List.all_eq_true.1 (by decide : swapFlds.all (·.apart F.GLOBAL_CYCLE_CNT_CYCLE) = true) G hG), Dev.f_put_same .., hfb,
    c, rfl, rfl, rfl, rfl⟩

/-! ### What a boundary in the MANAGER leaves -/

/-- The registers that a boundary takes, of the device before it. -/
structure Dev.Boundary (s : Dev) (n : Nat) (run : Bool) (u : Dev) : Prop where
  nextCyc : u.glob.nextCyc = n + 1
  running : u.glob.running = run
  stamp : u.glob.stampInForce = s.flag F.GLOBAL_CYCLE_CTL_STAMP
  allow : u.fi F.GLOBAL_STAMP_ALLOW = s.f F.GLOBAL_STAMP_ALLOW % 2 ^ 16
  fixed : u.fi F.GLOBAL_STAMP_FIXED = s.f F.GLOBAL_STAMP_FIXED % 2 ^ 16
  cper : ∀ a, a < 12 → u.fi F.TRUNK_CARRIER_CPER a = s.f F.TRUNK_CARRIER_CPER a % 2 ^ 32
  started : run = true → u.f F.GLOBAL_CYCLE_CNT_CYCLE = n % 2 ^ 64 ∧ ∃ c, u.glob.cycles.head? = some c ∧ c.n = n ∧ c.set = u.actSet ∧ c.t0 = s.bnd n
  idle : run = false → u.f F.GLOBAL_CYCLE_CNT_CYCLE = s.f F.GLOBAL_CYCLE_CNT_CYCLE

theorem Dev.opened_fb (n : Nat) (run : Bool) (G : Fld) (b i j : Nat) : (s.opened n run).fb G b i j = s.fb G b i j := Dev.fb_setGlob rfl ..

/-- The instants of boundaries follow period and phase. -/
theorem Dev.bnd_of (hm : s.role = .manager) (hr : u.role = s.role) (hp : u.f F.GLOBAL_CYCLE_CTL_PERIOD = s.f F.GLOBAL_CYCLE_CTL_PERIOD)
    (hq : u.f F.GLOBAL_CYCLE_PHASE_PHASE = s.f F.GLOBAL_CYCLE_PHASE_PHASE) (n : Nat) : u.bnd n = s.bnd n := by
  have hu := hr.trans hm
  rw [Dev.bnd, Dev.bnd, Dev.perNs_manager hu, Dev.perNs_manager hm, Dev.phaseNs_manager hu, Dev.phaseNs_manager hm, hp, hq]

/-- What the swap and the shadow registers leave before a cycle starts. -/
theorem Dev.taken_spec (n : Nat) (run was : Bool) : let u := (s.opened n run).taken n run was
    u.role = s.role ∧ u.glob.nextCyc = n + 1 ∧ u.glob.running = run ∧ u.glob.warm = s.glob.warm ∧ u.glob.stampInForce = s.flag F.GLOBAL_CYCLE_CTL_STAMP ∧
    u.fi F.GLOBAL_STAMP_ALLOW = s.f F.GLOBAL_STAMP_ALLOW % 2 ^ 16 ∧ u.fi F.GLOBAL_STAMP_FIXED = s.f F.GLOBAL_STAMP_FIXED % 2 ^ 16 ∧
    (∀ a, a < 12 → u.fi F.TRUNK_CARRIER_CPER a = s.f F.TRUNK_CARRIER_CPER a % 2 ^ 32) ∧
    (∀ G ∈ [F.GLOBAL_CYCLE_CTL_PERIOD, F.GLOBAL_CYCLE_PHASE_PHASE, F.GLOBAL_CYCLE_CNT_CYCLE], u.f G = s.f G) ∧
    u.swapSeen = ((s.opened n run).swapBoundary n run).swapSeen := by
  have hg := Dev.grid_of_flow (Dev.flow_swapBoundary (s := s.opened n run) n run)
  have ho : ∀ G b i j, (s.opened n run).fb G b i j = s.fb G b i j := fun G b i j => Dev.opened_fb ..
  have hn : (s.opened n run).glob.nextCyc = n + 1 ∧ (s.opened n run).glob.running = run ∧ (s.opened n run).glob.warm = s.glob.warm ∧ (s.opened n run).role = s.role :=
    ⟨rfl, rfl, rfl, rfl⟩
  have hf := Dev.frame_taken (s := s.opened n run) n run was
  generalize s.opened n run = o at *
  generalize o.swapBoundary n run = v at *
  obtain ⟨ht, hst, hal, hfx, hcp⟩ := Dev.cycleShadows_spec (s := v)
  generalize v.cycleShadows = w at *
  generalize o.taken n run was = u at *
  have hu := Dev.grid_of_frame hf
  have hv : ∀ G ∈ gridFlds, ∀ b i j, v.fb G b i j = s.fb G b i j := fun G hG b i j => (Dev.fb_of_grid hg hG ..).trans (ho ..)
  have hgl : u.glob.grid = w.glob.grid := Dev.glob_of_grid hu
  have hwv : ∀ {β : Type} (p : Glob → β), (∀ g : Glob, p g.plain = p g) → (∀ (g : Glob) a b, p { g with stampInForce := a, stampWr := b } = p g) → p w.glob = p v.glob :=
    fun p h1 h2 => by rw [← h1, ht.glob, h2, h1]
  refine ⟨?_, ?_, ?_, ?_, ?_, ?_, ?_, fun a ha => ?_, fun G hG => ?_, (Dev.seen_of_frame hf).trans ht.seen⟩
  · exact (Dev.role_of_grid hu).trans (ht.role.trans ((Dev.role_of_grid hg).trans hn.2.2.2))
  · exact (Dev.nextCyc_of_grid hu).trans ((hwv Glob.nextCyc (fun _ => rfl) fun _ _ _ => rfl).trans ((Dev.nextCyc_of_grid hg).trans hn.1))
  · exact (Dev.running_of_grid hu).trans ((hwv Glob.running (fun _ => rfl) fun _ _ _ => rfl).trans ((Dev.running_of_grid hg).trans hn.2.1))
  · exact (Dev.warm_of_grid hu).trans ((hwv Glob.warm (fun _ => rfl) fun _ _ _ => rfl).trans ((Dev.warm_of_grid hg).trans hn.2.2.1))
  · refine (Dev.stampInForce_of_grid hu).trans (hst.trans ?_)
    show decide (v.f F.GLOBAL_CYCLE_CTL_STAMP ≠ 0) = decide (s.f F.GLOBAL_CYCLE_CTL_STAMP ≠ 0)
    rw [show v.f F.GLOBAL_CYCLE_CTL_STAMP = s.f F.GLOBAL_CYCLE_CTL_STAMP from hv _ (by decide) ..]
  · exact (Dev.fb_of_grid hu (by decide) ..).trans (hal.trans (congrArg (· % 2 ^ 16) (hv _ (by decide) ..)))
  · exact (Dev.fb_of_grid hu (by decide) ..).trans (hfx.trans (congrArg (· % 2 ^ 16) (hv _ (by decide) ..)))
  · exact (Dev.cper_of_grid hu ha _).trans ((hcp a ha).trans (congrArg (· % 2 ^ 32) ((Dev.cper_of_grid hg ha _).trans (ho ..))))
  · have hl : ∀ G ∈ [F.GLOBAL_CYCLE_CTL_PERIOD, F.GLOBAL_CYCLE_PHASE_PHASE, F.GLOBAL_CYCLE_CNT_CYCLE], G ∈ gridFlds ∧ G.besideStamp = true := by decide
    obtain ⟨h1, h2⟩ := hl G hG
    exact (Dev.fb_of_grid hu h1 ..).trans ((ht.fld G h2 ..).trans (hv G h1 ..))

theorem Dev.managerBoundary_spec (hm : s.role = .manager) (hw : s.glob.warm = none) (n : Nat) (run : Bool) :
    s.Boundary n run (s.managerBoundary n run) ∧ (s.managerBoundary n run).swapSeen = ((s.opened n run).swapBoundary n run).swapSeen := by
  obtain ⟨hr, hn, hrun, hwm, hst, hal, hfx, hcp, hfl, hsw⟩ := Dev.taken_spec (s := s) n run s.unitActive
  rw [Dev.managerBoundary_eq]
  generalize (s.opened n run).taken n run s.unitActive = v at *
  cases run
  · have hp := Dev.plan_closed (s := v) s.actSet n false s.glob.cycles.head? (hwm.trans hw)
    have hg := Dev.grid_of_plan hp
    rw [Dev.iff_false]
    generalize (v.followed s.actSet n false s.glob.cycles.head?).sentOn n = u at *
    refine ⟨⟨(Dev.nextCyc_of_grid hg).trans hn, (Dev.running_of_grid hg).trans hrun, (Dev.stampInForce_of_grid hg).trans hst, (Dev.fb_of_grid hg (by decide) ..).trans hal,
      (Dev.fb_of_grid hg (by decide) ..).trans hfx, fun a ha => (Dev.cper_of_grid hg ha _).trans (hcp a ha), (nomatch ·), fun _ => ?_⟩, (Dev.seen_of_plan hp).trans hsw⟩
    exact (Dev.fb_of_grid hg (by decide) ..).trans (hfl _ (by decide))
  · rw [Dev.iff_true]
    obtain ⟨cr, cg, cs, ccnt, cf, c, hc, hcn, hcs, hct⟩ := Dev.cycleStart_spec (s := v) n
    generalize v.cycleStart n = x at *
    have hp := Dev.plan_closed (s := x) s.actSet n true s.glob.cycles.head? ((congrArg Glob.warm (a₁ := x.glob.grid) (a₂ := v.glob.grid) cg).trans (hwm.trans hw))
    have hg := Dev.grid_of_plan hp
    generalize (x.followed s.actSet n true s.glob.cycles.head?).sentOn n = u at *
    refine ⟨⟨?_, ?_, ?_, ?_, ?_, fun a ha => ?_, fun _ => ⟨(Dev.fb_of_grid hg (by decide) ..).trans ccnt, c, ?_, hcn, ?_, ?_⟩, (nomatch ·)⟩, (Dev.seen_of_plan hp).trans (cs.trans hsw)⟩
    · exact (Dev.nextCyc_of_grid hg).trans ((congrArg Glob.nextCyc (a₁ := x.glob.grid) (a₂ := v.glob.grid) cg).trans hn)
    · exact (Dev.running_of_grid hg).trans ((congrArg Glob.running (a₁ := x.glob.grid) (a₂ := v.glob.grid) cg).trans hrun)
    · exact (Dev.stampInForce_of_grid hg).trans ((congrArg Glob.stampInForce (a₁ := x.glob.grid) (a₂ := v.glob.grid) cg).trans hst)
    · exact (Dev.fb_of_grid hg (by decide) ..).trans ((cf _ (by decide) ..).trans hal)
    · exact (Dev.fb_of_grid hg (by decide) ..).trans ((cf _ (by decide) ..).trans hfx)
    · exact (Dev.cper_of_grid hg ha _).trans ((cf _ (by decide) ..).trans (hcp a ha))
    · rw [Dev.cycles_of_plan hp, hc]
    · exact hcs.trans ((Dev.actSet_of_seen (Dev.seen_of_plan hp)).trans (Dev.actSet_of_seen cs)).symm
    · exact hct.trans (Dev.bnd_of hm hr (hfl _ (by decide)) (hfl _ (by decide)) n)

end

end Sys2Proof.Machine
end

section
/-! CYCLE_BOUNDARY in each role (R34 to R37, R41, R51, R53). -/

namespace Sys2Proof.Machine

section
variable {s u v : Dev} {outs : List Out}

/-! ### Time passes -/

theorem Dev.Keeps.perNs_eq (h : s.Keeps [.time] outs u) : u.perNs = s.perNs := by
  unfold Dev.perNs
  rw [h.role_eq, h.f_eq (by decide), (h.lanes_eq (by decide)).2]

theorem Dev.Keeps.bnd_eq (h : s.Keeps [.time] outs u) (n : Nat) : u.bnd n = s.bnd n := by
  unfold Dev.bnd Dev.phaseNs
  rw [h.perNs_eq, h.role_eq, h.f_eq (by decide), (h.lanes_eq (by decide)).2]

theorem Dev.Keeps.flag_eq (h : s.Keeps [.time] outs u) {G : Fld} (hG : G.blk.home ∉ [Blk.time]) : u.flag G = s.flag G := by
  unfold Dev.flag
  rw [h.f_eq hG]

theorem Dev.Keeps.atTick (h : s.Keeps [.time] outs u) : s.Keeps [.time] outs u.atTick := h.iff _ _ fun _ => h.toTick (by decide)

/-! ### The boundary by role -/

theorem Dev.cycleBoundary_eq : s.cycleBoundary =
    if s.atTick.perNs = 0 ∨ s.atTick.role = .none ∨ s.atTick.glob.warm.any (fun k => decide (16 ≤ k)) then s.atTick
    else
      let n := s.atTick.nextBoundary
      let v := s.atTick.advanceTo (s.atTick.bnd n)
      match v.role with
      | .manager => v.managerBoundary n (v.run && v.glob.warm.isNone)
      | .concentrator => { v with glob := { v.glob with nextCyc := n + 1 } }.concBoundary n
      | .cell => { v with glob := { v.glob with nextCyc := n + 1 } }.tgTransfer.pwrBoundary.cellBoundary n
      | .none => v := by
  unfold Dev.cycleBoundary
  rfl

theorem Dev.cycleBoundary_idle (h : s.role = .none ∨ s.perNs = 0) : s.cycleBoundary = s.atTick := by
  have hk := (Dev.keeps_refl [.time] s).atTick
  rw [Dev.cycleBoundary_eq, if_pos]
  rw [hk.perNs_eq, hk.role_eq]
  tauto

/-- The device as it stands at the instant of a boundary. -/
def Dev.atBoundary (s : Dev) : Dev := s.atTick.advanceTo (s.bnd s.atTick.nextBoundary)

theorem Dev.keeps_atBoundary : s.Keeps [.time] s.out s.atBoundary := (Dev.keeps_refl [.time] s).atTick.advanceTo (by decide) _

/-- The boundary is counted, in a CONCENTRATOR and in a CELL. -/
def Dev.countedTo (s : Dev) (n : Nat) : Dev := { s with glob := { s.glob with nextCyc := n + 1 } }

theorem Dev.cycleBoundary_due (hr : s.role ≠ .none) (hp : s.perNs ≠ 0) (hw : s.glob.warm = none) : s.cycleBoundary =
    match s.role with
    | .manager => s.atBoundary.managerBoundary s.atTick.nextBoundary s.run
    | .concentrator => (s.atBoundary.countedTo s.atTick.nextBoundary).concBoundary s.atTick.nextBoundary
    | .cell => (s.atBoundary.countedTo s.atTick.nextBoundary).tgTransfer.pwrBoundary.cellBoundary s.atTick.nextBoundary
    | .none => s.atBoundary := by
  have hk := (Dev.keeps_refl [.time] s).atTick
  have hb := Dev.keeps_atBoundary (s := s)
  have hv : s.atTick.advanceTo (s.atTick.bnd s.atTick.nextBoundary) = s.atBoundary := by rw [Dev.atBoundary, hk.bnd_eq]
  have hrun : (s.atBoundary.run && s.atBoundary.glob.warm.isNone) = s.run := by
    rw [hb.glob_eq (by decide), hw]
    exact (Bool.and_true _).trans (hb.flag_eq (by decide))
  rw [Dev.cycleBoundary_eq, if_neg (by rw [hk.perNs_eq, hk.role_eq, hk.glob_eq (by decide), hw]; simp [hr, hp])]
  unfold Dev.countedTo
  dsimp only
  rw [hv, hrun, hb.role_eq]

theorem Dev.opened_idle (run : Bool) (h : s.run = run) (n : Nat) : (s.opened n run).cycleIdle = !run := by
  have hf : (s.opened n run).f F.GLOBAL_CYCLE_CTL_RUN = s.f F.GLOBAL_CYCLE_CTL_RUN := Dev.opened_fb ..
  have hrun : (s.opened n run).run = s.run := by
    unfold Dev.run Dev.flag
    rw [hf]
  rw [Dev.cycleIdle, hrun, h]
  exact Bool.and_self _

theorem Dev.cycleBoundary_concentrator (hr : s.role = .concentrator) (hp : s.perNs ≠ 0) (hw : s.glob.warm = none) :
    s.cycleBoundary = (s.atBoundary.countedTo s.atTick.nextBoundary).concBoundary s.atTick.nextBoundary := by
  rw [Dev.cycleBoundary_due (by rw [hr]; decide) hp hw, hr]

theorem Dev.cycleBoundary_cell (hr : s.role = .cell) (hp : s.perNs ≠ 0) (hw : s.glob.warm = none) :
    s.cycleBoundary = (s.atBoundary.countedTo s.atTick.nextBoundary).tgTransfer.pwrBoundary.cellBoundary s.atTick.nextBoundary := by
  rw [Dev.cycleBoundary_due (by rw [hr]; decide) hp hw, hr]

/-- A boundary in a CONCENTRATOR or a CELL stays within the blocks of the lanes and the gates. -/
theorem Dev.grows_cycleBoundary (hr : s.role = .concentrator ∨ s.role = .cell) (hp : s.perNs ≠ 0) (hw : s.glob.warm = none) :
    (s.atBoundary.countedTo s.atTick.nextBoundary).Grows cellBlks s.cycleBoundary := by
  rcases hr with hr | hr
  · rw [Dev.cycleBoundary_concentrator hr hp hw]
    exact (Dev.grows_concBoundary _).mono (by decide)
  · rw [Dev.cycleBoundary_cell hr hp hw]
    exact ((Dev.grows_tgTransfer.mono (by decide)).trans (Dev.grows_pwrBoundary.mono (by decide))).trans (Dev.grows_cellBoundary _)

theorem Dev.cycleBoundary_other (hr : s.role = .concentrator ∨ s.role = .cell) (hp : s.perNs ≠ 0) (hw : s.glob.warm = none) :
    s.cycleBoundary.glob.nextCyc = s.atTick.nextBoundary + 1 ∧ s.cycleBoundary.role = s.role ∧ s.cycleBoundary.loom = s.loom ∧ s.cycleBoundary.spin = s.spin := by
  have hb := Dev.keeps_atBoundary (s := s)
  obtain ⟨h1, h2, h3, h4⟩ := (Dev.grows_cycleBoundary hr hp hw).boundary
  generalize s.cycleBoundary = u at *
  generalize s.atBoundary = v at *
  exact ⟨h1, h2.trans hb.role_eq, h3.trans (hb.loom_eq (by decide)), h4.trans (hb.spin_eq (by decide))⟩

/-- A boundary in the MANAGER. -/
theorem Dev.cycleBoundary_manager (hm : s.role = .manager) (hp : s.perNs ≠ 0) (hw : s.glob.warm = none) : let n := s.atTick.nextBoundary
    s.Boundary n s.run s.cycleBoundary ∧ s.cycleBoundary.swapSeen = ((s.atBoundary.opened n s.run).swapBoundary n s.run).swapSeen := by
  have hb := Dev.keeps_atBoundary (s := s)
  have hu : s.cycleBoundary = s.atBoundary.managerBoundary s.atTick.nextBoundary s.run := by
    rw [Dev.cycleBoundary_due (by rw [hm]; decide) hp hw, hm]
  obtain ⟨h, hsw⟩ := Dev.managerBoundary_spec (s := s.atBoundary) (hb.role_eq.trans hm) (by rw [hb.glob_eq (by decide), hw]) s.atTick.nextBoundary s.run
  rw [← hu] at h hsw
  generalize s.atBoundary = v at *
  refine ⟨⟨h.nextCyc, h.running, h.stamp.trans (hb.flag_eq (by decide)), h.allow.trans ?_, h.fixed.trans ?_, fun a ha => (h.cper a ha).trans ?_, fun hr => ?_, fun hr => (h.idle hr).trans ?_⟩, hsw⟩
  · rw [hb.f_eq (by decide)]
  · rw [hb.f_eq (by decide)]
  · rw [hb.f_eq (by decide)]
  · obtain ⟨h1, c, h2, h3, h4, h5⟩ := h.started hr
    exact ⟨h1, c, h2, h3, h4, h5.trans (hb.bnd_eq _)⟩
  · exact hb.f_eq (by decide) ..

end

end Sys2Proof.Machine
end

section
/-! The work of the arms for the cycles (R40, R41, R48): what a change of it and the record of the latency leave, and an assembly that is abandoned. -/

namespace Sys2Proof.Machine

section
variable {s u v : Dev}

/-! ### The work of an arm -/

theorem Dev.armWork_of_cycles (h : u.glob.cycles = s.glob.cycles) (k a : Nat) : u.armWork k a = s.armWork k a := by rw [Dev.armWork, Dev.armWork, h]

/-- A change of the work of one arm, in a cycle record. -/
def CycRec.setArm (c : CycRec) (a : Nat) (g : ArmWork → ArmWork) : CycRec := { c with arms := c.arms.map fun (w : ArmWork) => if w.arm = a then g w else w }

theorem CycRec.find_setArm (c : CycRec) (a : Nat) {g : ArmWork → ArmWork} (hg : ∀ w : ArmWork, (g w).arm = w.arm) :
    (c.setArm a g).arms.find? (fun w => decide (w.arm = a)) = (c.arms.find? fun w => decide (w.arm = a)).map g := by
  rw [CycRec.setArm]
  induction c.arms with
  | nil => rfl
  | cons w l ih =>
    by_cases hw : w.arm = a
    · simp [hw, hg]
    · simpa [hw] using ih

theorem Dev.armWork_setWork (k a : Nat) {g : ArmWork → ArmWork} (hg : ∀ w : ArmWork, (g w).arm = w.arm) : (s.setWork k a g).armWork k a = (s.armWork k a).map g := by
  unfold Dev.armWork
  show (match (s.glob.cycles.map fun (c : CycRec) => if c.n = k then c.setArm a g else c).find? fun (c : CycRec) => decide (c.n = k) with
    | some c => c.arms.find? fun (w : ArmWork) => decide (w.arm = a)
    | none => none) = _
  induction s.glob.cycles with
  | nil => rfl
  | cons c l ih =>
    by_cases hc : c.n = k
    · have hn : (c.setArm a g).n = k := hc
      simpa [hc, hn] using c.find_setArm a hg
    · simpa [hc] using ih

/-- A cycle whose latency is known is marked. -/
def CycRec.marked (c : CycRec) : CycRec := if c.latency.isSome then { c with done := true } else c

theorem Dev.glob_top (E : Fld) (n : Nat) : (s.top E n).glob.plain = s.glob.plain := Dev.glob_put E _ 0 0

/-- The record of the latency marks cycles, and keeps their arms. -/
theorem Dev.armWork_latRecord (k a : Nat) : s.latRecord.armWork k a = s.armWork k a := by
  have hcyc : s.latRecord.glob.cycles = s.glob.cycles.map CycRec.marked := by
    refine Dev.each_inv (fun v => v.glob.cycles = s.glob.cycles.map CycRec.marked) _ _ (fun v c _ hv => ?_) { s with glob := { s.glob with cycles := s.glob.cycles.map CycRec.marked } } rfl
    obtain ⟨-, -, h⟩ := Dev.swap_of_plain ((Dev.glob_top (s := v.put F.GLOBAL_LAT_LAST (c.latency.getD 0)) F.GLOBAL_LAT_MAX (c.latency.getD 0)).trans (Dev.glob_put ..))
    exact h.trans hv
  unfold Dev.armWork
  rw [hcyc]
  induction s.glob.cycles with
  | nil => rfl
  | cons c l ih =>
    by_cases hl : c.latency.isSome <;> by_cases hc : c.n = k
    · simp [CycRec.marked, hl, hc]
    · simpa [CycRec.marked, hl, hc] using ih
    · simp [CycRec.marked, hl, hc]
    · simpa [CycRec.marked, hl, hc] using ih

theorem Dev.keeps_latRecord : s.Keeps [.global] s.out s.latRecord :=
  ((Dev.keeps_refl [.global] s).setGlob (by decide) _).each _ _ fun _ _ _ hv => (hv.put (by decide) _ _ _).top (by decide) _ _ _

theorem Dev.keeps_setWork (k a : Nat) (g : ArmWork → ArmWork) : s.Keeps [.global] s.out (s.setWork k a g) := (Dev.keeps_refl [.global] s).setGlob (by decide) _

theorem Dev.f_latRecord {G : Fld} (h1 : G.apart F.GLOBAL_LAT_LAST = true) (h2 : G.apart F.GLOBAL_LAT_MAX = true) : s.latRecord.f G = s.f G :=
  Dev.each_inv (fun v => v.f G = s.f G) _ _ (fun v c _ hv => ((Dev.befall_fb ..).trans ((Dev.fb_put_apart _ _ _ _ _ _ _ h2).trans (Dev.fb_put_apart _ _ _ _ _ _ _ h1))).trans hv) _
    (Dev.fb_setGlob rfl ..)

theorem Dev.f_setWork (k a : Nat) (g : ArmWork → ArmWork) (G : Fld) : (s.setWork k a g).f G = s.f G := Dev.fb_setGlob rfl ..

/-! ### An assembly that is abandoned -/

/-- The arm forgets the cycle. -/
def SpArm.forget (x : SpArm) (k now : Nat) : SpArm :=
  { x with wk := x.wk.filter fun w => decide (w.cyc ≠ k), asmFree := now, selEnd := if x.sel.isSome then x.selEnd else now,
           sel := match x.sel with | some (n, l) => if n = k then none else some (n, l) | none => none }

/-- An overrun is shown. -/
def Dev.overrun (s : Dev) : Dev := ((s.raise F.GLOBAL_CYCLE_STAT_OVERRUN).digEvent 24).inc F.GLOBAL_CYCLE_STAT_OVR_CNT 1

theorem Dev.abandonArm_eq (k a : Nat) : s.abandonArm k a =
    ((s.setWork k a fun w => { w with aband := true }).setSpArm a ((s.spArm a).forget k s.now)).overrun.latRecord := by
  unfold Dev.abandonArm
  rfl

theorem Dev.overrun_spec : let u := s.overrun
    u.f F.GLOBAL_CYCLE_STAT_OVERRUN = 1 ∧ u.f F.GLOBAL_CYCLE_STAT_OVR_CNT = satAdd 8 (s.f F.GLOBAL_CYCLE_STAT_OVR_CNT) 1 ∧ u.glob.cycles = s.glob.cycles ∧
    s.Keeps [.global, .reel] s.out u := by
  have hd : ∀ (v : Dev) (G : Fld), (v.digEvent 24).f G = v.f G := fun v G => Dev.fb_of_regs rfl (by cases G.blk <;> rfl) ..
  refine ⟨?_, ?_, ?_, ?_⟩
  · exact (Dev.f_inc_apart _ _ _ _ _ _ (by decide)).trans ((hd ..).trans (Dev.f_raise_same ..))
  · refine (Dev.f_inc_same ..).trans ?_
    rw [hd, Dev.f_raise_apart _ _ _ _ _ (by decide)]
    exact satAdd_mod _ _ _
  · exact (congrArg Glob.cycles (a₁ := s.overrun.glob.plain) (a₂ := (s.raise F.GLOBAL_CYCLE_STAT_OVERRUN).glob.plain) (Dev.glob_put ..)).trans
      (congrArg Glob.cycles (a₁ := (s.raise F.GLOBAL_CYCLE_STAT_OVERRUN).glob.plain) (a₂ := s.glob.plain) (Dev.glob_put ..))
  · exact (Dev.Keeps.setReel ((Dev.keeps_refl [.global, .reel] s).raise (by decide) _ _) (by decide) _).inc (by decide) _ _ _

theorem Dev.abandonArm_spec (k a : Nat) : let u := s.abandonArm k a
    u.f F.GLOBAL_CYCLE_STAT_OVERRUN = 1 ∧ u.f F.GLOBAL_CYCLE_STAT_OVR_CNT = satAdd 8 (s.f F.GLOBAL_CYCLE_STAT_OVR_CNT) 1 ∧
    u.armWork k a = (s.armWork k a).map (fun w => { w with aband := true }) ∧ u.spArm a = (s.spArm a).forget k s.now ∧ (∀ g, u.spCell g = s.spCell g) ∧
    s.Keeps [.global, .spindle, .reel] s.out u := by
  rw [Dev.abandonArm_eq]
  have hk : s.Keeps [.global, .spindle, .reel] s.out ((s.setWork k a fun w => { w with aband := true }).setSpArm a ((s.spArm a).forget k s.now)) :=
    (((Dev.keeps_setWork k a _).mono (by decide)).setSpArm (by decide) _ _)
  have hf : ∀ G : Fld, G.blk.home ≠ .spindle → ((s.setWork k a fun w => { w with aband := true }).setSpArm a ((s.spArm a).forget k s.now)).f G = s.f G := fun G hG =>
    ((Dev.Keeps.setSpArm (Dev.keeps_refl [.spindle] _) (by decide) _ _).f_eq (by simpa using hG) _ _).trans (Dev.f_setWork ..)
  have hw : ((s.setWork k a fun w => { w with aband := true }).setSpArm a ((s.spArm a).forget k s.now)).armWork k a = (s.armWork k a).map fun w => { w with aband := true } :=
    (Dev.armWork_of_cycles rfl k a).trans (Dev.armWork_setWork k a fun _ => rfl)
  have ha : ((s.setWork k a fun w => { w with aband := true }).setSpArm a ((s.spArm a).forget k s.now)).spArm a = (s.spArm a).forget k s.now := Dev.spArm_setSpArm_same ..
  have hc : ∀ g, ((s.setWork k a fun w => { w with aband := true }).setSpArm a ((s.spArm a).forget k s.now)).spCell g = s.spCell g := fun g => rfl
  generalize (s.setWork k a fun w => { w with aband := true }).setSpArm a ((s.spArm a).forget k s.now) = v at *
  obtain ⟨h1, h2, h3, h4⟩ := Dev.overrun_spec (s := v)
  generalize v.overrun = x at *
  have hl := Dev.keeps_latRecord (s := x)
  have hsp : x.latRecord.spin = v.spin := (hl.spin_eq (by decide)).trans (h4.spin_eq (by decide))
  refine ⟨(Dev.f_latRecord (by decide) (by decide)).trans h1, (Dev.f_latRecord (by decide) (by decide)).trans (h2.trans ?_), ?_, ?_, fun g => ?_, ?_⟩
  · rw [hf _ (by decide)]
  · exact (Dev.armWork_latRecord k a).trans ((Dev.armWork_of_cycles h3 k a).trans hw)
  · rw [← ha, Dev.spArm, Dev.spArm, hsp]
  · rw [← hc, Dev.spCell, Dev.spCell, hsp]
  · exact (hk.next h4 (by decide)).next hl (by decide)

end

end Sys2Proof.Machine
end

section
/-! The end of an arm's assembly (R39, R43, R44, R141, R160, R162): the commands that its cells take. -/

namespace Sys2Proof.Machine

section
variable {s u v : Dev}

/-! ### A cell's command -/

/-- The record of a cell after its slot in an assembly that starts at `t`. -/
def SpCell.placed (c : SpCell) (t exec : Nat) (sel : Option Nat) : SpCell :=
  if c.closeBy t then ({ c with closeReq := none } : SpCell).command 0 exec
  else match sel with
    | some code => c.command code exec
    | none => if (c.opBy t).isSome then { c with op := none } else c

theorem Dev.spPlaced_cell (g : Nat) : (s.spPlaced g).spin.cell = s.spin.cell := by
  unfold Dev.spPlaced
  extract_lets l x v
  refine (Dev.each_keeps (fun v : Dev => v.spin.cell) _ _ (fun v q _ => ?_) v).trans rfl
  obtain ⟨-, h⟩ := v.spReqDone_spin q .ok
  exact h

theorem Dev.grows_spPlaced (g : Nat) : s.Grows [.spindle, .hostq] (s.spPlaced g) :=
  ((Dev.keeps_refl [.spindle, .hostq] s).setSpin (by decide) _).grows.trans (Dev.grows_each _ _ _ fun v q _ => v.grows_spReqDone q .ok)

theorem Dev.spCell_spPlaced (g h : Nat) : (s.spPlaced g).spCell h = s.spCell h := by rw [Dev.spCell, Dev.spCell, Dev.spPlaced_cell]

theorem Dev.placeCommand_spec (g t exec : Nat) (sel : Option Nat) : let u := s.placeCommand g t exec sel
    u.spCell g = (s.spCell g).placed t exec sel ∧ (∀ h, h ≠ g → u.spCell h = s.spCell h) ∧ s.Grows [.spindle, .hostq] u := by
  have hset : ∀ c : SpCell, s.Grows [.spindle, .hostq] (s.setSpCell g c) := fun c => ((Dev.keeps_refl [.spindle, .hostq] s).setSpCell (by decide) _ _).grows
  unfold Dev.placeCommand SpCell.placed
  dsimp only
  split
  · exact ⟨Dev.spCell_setSpCell_same .., fun h hne => Dev.spCell_setSpCell_other _ _ _ _ hne, hset _⟩
  · split
    · exact ⟨Dev.spCell_setSpCell_same .., fun h hne => Dev.spCell_setSpCell_other _ _ _ _ hne, hset _⟩
    · split
      · exact ⟨(Dev.spCell_spPlaced ..).trans (Dev.spCell_setSpCell_same ..), fun h hne => (Dev.spCell_spPlaced ..).trans (Dev.spCell_setSpCell_other _ _ _ _ hne),
          (hset _).trans (Dev.grows_spPlaced g)⟩
      · exact ⟨rfl, fun _ _ => rfl, Dev.grows_refl _ s⟩

/-! ### The commands of an assembly -/

/-- The selection's code for a cell. -/
def codeFor (sel : List (Nat × Nat)) (g : Nat) : Option Nat := (sel.find? fun p => decide (p.1 = g)).map (·.2)

/-- Every cell of an arm takes its command. -/
def Dev.placeAll (s : Dev) (l : List Nat) (t exec : Nat) (sel : List (Nat × Nat)) : Dev := s.each l fun s g => s.placeCommand g t exec (codeFor sel g)

section
variable {l : List Nat} {t exec : Nat} {sel : List (Nat × Nat)} {g : Nat}

theorem Dev.grows_placeAll : s.Grows [.spindle, .hostq] (s.placeAll l t exec sel) := Dev.grows_each _ _ _ fun v g _ => by
  obtain ⟨-, -, h⟩ := Dev.placeCommand_spec (s := v) g t exec (codeFor sel g)
  exact h

theorem Dev.spCell_placeCommand_other {h : Nat} (hne : h ≠ g) (c : Option Nat) : (s.placeCommand g t exec c).spCell h = s.spCell h := by
  obtain ⟨-, k, -⟩ := Dev.placeCommand_spec (s := s) g t exec c
  exact k h hne

theorem Dev.spCell_placeCommand_same (c : Option Nat) : (s.placeCommand g t exec c).spCell g = (s.spCell g).placed t exec c := by
  obtain ⟨k, -, -⟩ := Dev.placeCommand_spec (s := s) g t exec c
  exact k

theorem Dev.spCell_placeAll_other (hg : g ∉ l) : (s.placeAll l t exec sel).spCell g = s.spCell g :=
  Dev.each_inv (fun v => v.spCell g = s.spCell g) l _ (fun _ a ha hv => (Dev.spCell_placeCommand_other (fun e => hg (by rw [e]; exact ha)) _).trans hv) s rfl

/-- In an arm that holds a cell once, the cell takes its command once. -/
theorem Dev.spCell_placeAll_once (hg : g ∈ l) (hn : l.Nodup) : (s.placeAll l t exec sel).spCell g = (s.spCell g).placed t exec (codeFor sel g) :=
  Dev.each_once (fun v => v.spCell g = s.spCell g) (fun v => v.spCell g = (s.spCell g).placed t exec (codeFor sel g)) l _ hg hn
    (fun _ _ _ hne hv => (Dev.spCell_placeCommand_other hne.symm _).trans hv) (fun _ hv => (Dev.spCell_placeCommand_same _).trans (by rw [hv]))
    (fun _ _ _ hne hv => (Dev.spCell_placeCommand_other hne.symm _).trans hv) s rfl

/-- A bypass-switch request goes out before all else. -/
theorem SpCell.placed_close {c : SpCell} (h : c.closeBy t = true) (k : Option Nat) : (c.placed t exec k).closeReq = none ∧ (c.placed t exec k).posCmd = 0 ∧ (c.placed t exec k).op = c.op := by
  unfold SpCell.placed
  rw [if_pos h]
  exact ⟨rfl, rfl, rfl⟩

/-- The record of a cell before and after a selection's command, which may come again. -/
def SpCell.On (o c : SpCell) : Prop := c.closeReq = o.closeReq ∧ c.op = o.op

theorem SpCell.closeBy_of {o c : SpCell} (h : c.closeReq = o.closeReq) : c.closeBy t = o.closeBy t := by rw [SpCell.closeBy, SpCell.closeBy, h]

theorem SpCell.placed_code {o c : SpCell} (ho : o.closeBy t = false) (h : o.On c) (k : Nat) : o.On (c.placed t exec (some k)) ∧ (c.placed t exec (some k)).posCmd = k := by
  unfold SpCell.placed
  rw [if_neg (by rw [SpCell.closeBy_of h.1, ho]; decide)]
  exact ⟨h, rfl⟩

/-- The op that waits in a record once the assembly that starts at `t` has taken it in. -/
def SpCell.opAfter (o : SpCell) (t : Nat) : Option (Nat × Nat × Nat) := if (o.opBy t).isSome then none else o.op

/-- The record of a cell that no selection commands, before and after its slot. -/
def SpCell.Off (o : SpCell) (t : Nat) (c : SpCell) : Prop := c.closeReq = o.closeReq ∧ c.posCmd = o.posCmd ∧ (c.op = o.op ∨ c.op = o.opAfter t)

theorem SpCell.placed_none {o c : SpCell} (ho : o.closeBy t = false) (h : o.Off t c) : o.Off t (c.placed t exec none) ∧ (c.placed t exec none).op = o.opAfter t := by
  obtain ⟨h1, h2, h3⟩ := h
  have hop : ∀ a b : SpCell, a.op = b.op → a.opBy t = b.opBy t := fun a b e => by rw [SpCell.opBy, SpCell.opBy, e]
  have hnone : (c.opBy t).isSome = true → o.opAfter t = none := fun hs => by
    rcases h3 with h3 | h3
    · rw [SpCell.opAfter, if_pos (by rwa [← hop c o h3])]
    · by_contra hne
      have he : o.opAfter t = o.op := if_neg fun hn => hne (if_pos hn)
      rw [hop c o (h3.trans he)] at hs
      exact hne (if_pos hs)
  have hkeep : (c.opBy t).isSome = false → c.op = o.opAfter t := fun hs => by
    rcases h3 with h3 | h3
    · rw [SpCell.opAfter, if_neg (by rw [← hop c o h3, hs]; decide), h3]
    · exact h3
  unfold SpCell.placed
  rw [if_neg (by rw [SpCell.closeBy_of h1, ho]; decide)]
  dsimp only
  split
  · exact ⟨⟨h1, h2, .inr (hnone ‹_›).symm⟩, (hnone ‹_›).symm⟩
  · rename_i hs
    have := hkeep (Bool.eq_false_iff.2 hs)
    exact ⟨⟨h1, h2, .inr this⟩, this⟩

/-- A cell that a selection commands. -/
theorem Dev.placeAll_code (hg : g ∈ l) (ho : (s.spCell g).closeBy t = false) {k : Nat} (hk : codeFor sel g = some k) : let x := (s.placeAll l t exec sel).spCell g
    (s.spCell g).On x ∧ x.posCmd = k := by
  have hstep : ∀ v : Dev, ∀ a, (s.spCell g).On (v.spCell g) → (s.spCell g).On ((v.placeCommand a t exec (codeFor sel a)).spCell g) := fun v a hv => by
    by_cases e : a = g
    · obtain ⟨h, -⟩ := SpCell.placed_code (exec := exec) ho hv k
      rw [e, Dev.spCell_placeCommand_same, hk]
      exact h
    · rwa [Dev.spCell_placeCommand_other (Ne.symm e)]
  refine Dev.each_at (fun v => (s.spCell g).On (v.spCell g)) (fun v => (s.spCell g).On (v.spCell g) ∧ (v.spCell g).posCmd = k) l _ hg (fun v a _ hv => hstep v a hv)
    (fun v hv => ?_) (fun v a _ hv => ?_) s ⟨rfl, rfl⟩
  · rw [Dev.spCell_placeCommand_same, hk]
    exact SpCell.placed_code ho hv k
  · by_cases e : a = g
    · rw [e, Dev.spCell_placeCommand_same, hk]
      exact SpCell.placed_code ho hv.1 k
    · rwa [Dev.spCell_placeCommand_other (Ne.symm e)]

/-- A cell that no selection commands. -/
theorem Dev.placeAll_none (hg : g ∈ l) (ho : (s.spCell g).closeBy t = false) (hk : codeFor sel g = none) : let x := (s.placeAll l t exec sel).spCell g
    (s.spCell g).Off t x ∧ x.op = (s.spCell g).opAfter t := by
  have hstep : ∀ v : Dev, ∀ a, (s.spCell g).Off t (v.spCell g) → (s.spCell g).Off t ((v.placeCommand a t exec (codeFor sel a)).spCell g) := fun v a hv => by
    by_cases e : a = g
    · obtain ⟨h, -⟩ := SpCell.placed_none (exec := exec) ho hv
      rw [e, Dev.spCell_placeCommand_same, hk]
      exact h
    · rwa [Dev.spCell_placeCommand_other (Ne.symm e)]
  refine Dev.each_at (fun v => (s.spCell g).Off t (v.spCell g)) (fun v => (s.spCell g).Off t (v.spCell g) ∧ (v.spCell g).op = (s.spCell g).opAfter t) l _ hg
    (fun v a _ hv => hstep v a hv) (fun v hv => ?_) (fun v a _ hv => ?_) s ⟨rfl, rfl, .inl rfl⟩
  · rw [Dev.spCell_placeCommand_same, hk]
    exact SpCell.placed_none ho hv
  · by_cases e : a = g
    · rw [e, Dev.spCell_placeCommand_same, hk]
      exact SpCell.placed_none ho hv.1
    · rwa [Dev.spCell_placeCommand_other (Ne.symm e)]

end

end

end Sys2Proof.Machine
end

section
/-! The control cycle's boundaries and assemblies (R34 to R36, R40, R41, R43, R44, R49, R51, R53, R162, R470). -/

namespace Sys2Proof.Machine

section
variable {s u v : Dev}

/-! ### What is sent of an assembly -/

theorem Dev.grows_msSend (set : Nat) (h : MsHead) (cmds : List (Nat × Nat × Nat)) : s.Grows [.trunk] (s.msSend set h cmds) := by
  unfold Dev.msSend
  extract_lets lead v direct
  have hv : s.Grows [.trunk] v := Dev.grows_each _ _ _ fun v L _ => by
    split
    · exact Dev.grows_refl _ v
    · exact Dev.grows_send ..
  exact hv.trans (Dev.grows_each _ _ _ fun v g _ => .ite _ (fun _ => Dev.grows_refl _ v) fun _ => Dev.grows_send ..)

/-- The blocks that a list for the standby unit changes. -/
theorem Dev.grows_mlistSend (a n exec : Nat) (l : List (Nat × Nat)) : s.Grows [.pair, .trunk] (s.mlistSend a n exec l) := by
  unfold Dev.mlistSend
  split
  · have hset : ∀ (v : Dev) (x : Pair), v.Grows [.pair, .trunk] { v with pair := x } := fun v x => ((Dev.keeps_refl [.pair, .trunk] v).setPair (by decide) x).grows
    have hsend : ∀ (v : Dev) (L k : Nat) (d : List Byte), v.Grows [.pair, .trunk] (v.send L k d) := fun v L k d => (Dev.grows_send ..).mono (by decide)
    refine .ite _ (fun _ => (hset _ _).trans (hsend ..)) fun _ => ?_
    exact ((((Dev.keeps_refl [.pair, .trunk] s).raise (by decide) _ _).inc (by decide) _ _ _).grows.trans (hset _ _)).trans (hsend ..)
  · exact Dev.grows_refl _ s

/-! ### The parts of the end of an assembly -/

/-- A slip of the fixed time is shown. -/
def Dev.slipShown (s : Dev) (b : Bool) : Dev := s.iff b fun s => (s.raise F.GLOBAL_CYCLE_STAT_STAMP_SLIP).inc F.GLOBAL_CYCLE_STAT_SLIP_CNT 1

/-- The arm and its work after the assembly. -/
def Dev.assembled (s : Dev) (k a : Nat) (x : SpArm) : Dev :=
  let s := s.setSpArm a x
  (s.setWork k a fun w => { w with fin := some s.now }).latRecord

/-- An assembly that ends: what is sent of it, the cells' commands, the arm's record, and the list for the standby unit. -/
theorem Dev.assemblyEnd_eq {a k t : Nat} {sel : List (Nat × Nat)} {c : CycRec} (ho : s.oldestWork a = some k) (hs : s.assemblyStart k a = some (t, sel))
    (hc : (s.glob.cycles.find? fun c => decide (c.n = k)) = some c) (hgo : ¬ (¬ s.unitActive ∨ ¬ s.run ∨ s.bnd (k + 2) < max s.now (t + 28))) :
    let v := (s.advanceTo (t + 28)).slipShown (c.exec (s.advanceTo (t + 28)).now).2
    ∃ (b : Bool) (head : MsHead) (cmds : List (Nat × Nat × Nat)) (x : SpArm) (exec : Nat) (l : List (Nat × Nat)), x.sel = none ∧
      s.assemblyEnd a = ((((v.iff b fun s => s.msSend c.set head cmds).placeAll (v.armCells c.set a) t (c.exec (s.advanceTo (t + 28)).now).1 sel).assembled k a x).mlistSend a k exec l) := by
  unfold Dev.assemblyEnd
  rw [ho]
  dsimp only
  rw [hs, hc]
  dsimp only
  rw [if_neg hgo]
  exact ⟨_, _, _, _, _, _, rfl, rfl⟩

theorem Dev.slipShown_spec (b : Bool) : let u := s.slipShown b
    (b = true → u.f F.GLOBAL_CYCLE_STAT_STAMP_SLIP = 1 ∧ u.f F.GLOBAL_CYCLE_STAT_SLIP_CNT = satAdd 8 (s.f F.GLOBAL_CYCLE_STAT_SLIP_CNT) 1) ∧
    u.glob.cycles = s.glob.cycles ∧ s.Keeps [.global] s.out u := by
  refine ⟨fun hb => ?_, ?_, (Dev.keeps_refl [.global] s).iff _ _ fun _ => ((Dev.keeps_refl [.global] s).raise (by decide) _ _).inc (by decide) _ _ _⟩
  · rw [hb]
    refine ⟨(Dev.f_inc_apart _ _ _ _ _ _ (by decide)).trans (Dev.f_raise_same ..), (Dev.f_inc_same ..).trans ?_⟩
    rw [Dev.f_raise_apart _ _ _ _ _ (by decide)]
    exact satAdd_mod _ _ _
  · refine Dev.iff_keeps s (fun v => v.glob.cycles) _ _ fun _ => ?_
    obtain ⟨-, -, h⟩ := Dev.swap_of_plain ((Dev.glob_put (s := s.raise F.GLOBAL_CYCLE_STAT_STAMP_SLIP) F.GLOBAL_CYCLE_STAT_SLIP_CNT
      (satAdd 8 ((s.raise F.GLOBAL_CYCLE_STAT_STAMP_SLIP).f F.GLOBAL_CYCLE_STAT_SLIP_CNT) 1) 0 0).trans (Dev.glob_raise ..))
    exact h

theorem Dev.assembled_spec (k a : Nat) (x : SpArm) : let u := s.assembled k a x
    u.armWork k a = (s.armWork k a).map (fun w => { w with fin := some s.now }) ∧ u.spArm a = x ∧ (∀ g, u.spCell g = s.spCell g) ∧
    (∀ G ∈ [F.GLOBAL_CYCLE_STAT_STAMP_SLIP, F.GLOBAL_CYCLE_STAT_SLIP_CNT], u.f G = s.f G) ∧ s.Keeps [.spindle, .global] s.out u := by
  unfold Dev.assembled
  extract_lets v
  have hv : s.Keeps [.spindle] s.out v := (Dev.keeps_refl [.spindle] s).setSpArm (by decide) _ _
  have hw : s.Keeps [.spindle, .global] s.out (v.setWork k a fun w => { w with fin := some v.now }) := (hv.mono (by decide)).next (Dev.keeps_setWork ..) (by decide)
  have hnow : v.now = s.now := rfl
  have ha : v.spArm a = x := Dev.spArm_setSpArm_same ..
  have hc : ∀ g, v.spCell g = s.spCell g := fun g => rfl
  have hk : s.Keeps [.spindle, .global] s.out (v.setWork k a fun w => { w with fin := some v.now }).latRecord := hw.next Dev.keeps_latRecord (by decide)
  have hsp : (v.setWork k a fun w => { w with fin := some v.now }).latRecord.spin = v.spin := (Dev.keeps_latRecord.spin_eq (by decide)).trans rfl
  refine ⟨?_, ?_, fun g => ?_, fun G hG => ?_, hk⟩
  · refine (Dev.armWork_latRecord k a).trans ((Dev.armWork_setWork (g := fun w => { w with fin := some v.now }) k a fun _ => rfl).trans ?_)
    rw [hnow, Dev.armWork_of_cycles (u := v) (s := s) rfl]
  · rw [← ha, Dev.spArm, Dev.spArm, hsp]
  · rw [← hc, Dev.spCell, Dev.spCell, hsp]
  · have hl : ∀ G ∈ [F.GLOBAL_CYCLE_STAT_STAMP_SLIP, F.GLOBAL_CYCLE_STAT_SLIP_CNT],
        G.apart F.GLOBAL_LAT_LAST = true ∧ G.apart F.GLOBAL_LAT_MAX = true ∧ G.blk.home ∉ [Blk.spindle] := by decide
    obtain ⟨h1, h2, h3⟩ := hl G hG
    exact (Dev.f_latRecord h1 h2).trans ((Dev.f_setWork ..).trans (hv.f_eq h3 _ _))

/-- The blocks that the end of an assembly changes. -/
def endBlks : List Blk := [.global, .time, .spindle, .pair, .trunk, .hostq]

/-- What the end of an assembly leaves. -/
theorem Dev.assemblyEnd_spec {a k t : Nat} {sel : List (Nat × Nat)} {c : CycRec} (ho : s.oldestWork a = some k) (hs : s.assemblyStart k a = some (t, sel))
    (hc : (s.glob.cycles.find? fun c => decide (c.n = k)) = some c) (hgo : ¬ (¬ s.unitActive ∨ ¬ s.run ∨ s.bnd (k + 2) < max s.now (t + 28))) :
    let u := s.assemblyEnd a
    let end_ := (s.advanceTo (t + 28)).now
    u.armWork k a = (s.armWork k a).map (fun w => { w with fin := some end_ }) ∧ (u.spArm a).sel = none ∧
    ((c.exec end_).2 = true → u.f F.GLOBAL_CYCLE_STAT_STAMP_SLIP = 1 ∧ u.f F.GLOBAL_CYCLE_STAT_SLIP_CNT = satAdd 8 (s.f F.GLOBAL_CYCLE_STAT_SLIP_CNT) 1) ∧
    (∃ w : Dev, (∀ g, w.spCell g = s.spCell g) ∧ ∀ g, u.spCell g = (w.placeAll (s.armCells c.set a) t (c.exec end_).1 sel).spCell g) ∧
    s.Keeps endBlks u.out u := by
  obtain ⟨b, head, cmds, x, exec, l, hx, hu⟩ := Dev.assemblyEnd_eq ho hs hc hgo
  intro u end_
  have hend : (s.advanceTo (t + 28)).now = end_ := rfl
  have hu : u = _ := hu
  rw [hend] at hu
  have hadv : s.Keeps [.time] s.out (s.advanceTo (t + 28)) := (Dev.keeps_refl [.time] s).advanceTo (by decide) _
  obtain ⟨hslip, hcyc, hkv⟩ := Dev.slipShown_spec (s := s.advanceTo (t + 28)) (c.exec end_).2
  have hv : s.Grows endBlks ((s.advanceTo (t + 28)).slipShown (c.exec end_).2) := (hadv.mono (by decide)).grows.trans ((hkv.mono (by decide)).grows)
  have hcells : ((s.advanceTo (t + 28)).slipShown (c.exec end_).2).armCells c.set a = s.armCells c.set a :=
    Dev.armCells_congr _ _ (hkv.role_eq.trans hadv.role_eq) (((hkv.lanes_eq (by decide)).1).trans ((hadv.lanes_eq (by decide)).1))
  have hnow : ((s.advanceTo (t + 28)).slipShown (c.exec end_).2).now = end_ := Dev.now_of_time hkv.role_eq (hkv.time_eq (by decide))
  have hcycv : ((s.advanceTo (t + 28)).slipShown (c.exec end_).2).glob.cycles = s.glob.cycles := hcyc.trans (by rw [hadv.glob_eq (by decide)])
  have hcellv : ∀ g, ((s.advanceTo (t + 28)).slipShown (c.exec end_).2).spCell g = s.spCell g := fun g => by
    rw [Dev.spCell, Dev.spCell, hkv.spin_eq (by decide), hadv.spin_eq (by decide)]
  rw [show (s.advanceTo (t + 28)).f F.GLOBAL_CYCLE_STAT_SLIP_CNT = s.f F.GLOBAL_CYCLE_STAT_SLIP_CNT from hadv.f_eq (by decide) ..] at hslip
  rw [hcells] at hu
  clear_value u end_
  generalize (s.advanceTo (t + 28)).slipShown (c.exec end_).2 = v at *
  have hw : v.Grows [.trunk] (v.iff b fun s => s.msSend c.set head cmds) := Dev.grows_iff _ _ _ fun _ => Dev.grows_msSend ..
  generalize v.iff b (fun s => s.msSend c.set head cmds) = w at *
  have hp := Dev.grows_placeAll (s := w) (l := s.armCells c.set a) (t := t) (exec := (c.exec end_).1) (sel := sel)
  have hvp : v.Grows [.trunk, .spindle, .hostq] (w.placeAll (s.armCells c.set a) t (c.exec end_).1 sel) := (hw.mono (by decide)).trans (hp.mono (by decide))
  obtain ⟨q1, q2, q3, q4, q5⟩ := Dev.assembled_spec (s := w.placeAll (s.armCells c.set a) t (c.exec end_).1 sel) k a x
  have hr := Dev.grows_mlistSend (s := (w.placeAll (s.armCells c.set a) t (c.exec end_).1 sel).assembled k a x) a k exec l
  rw [← hu] at hr
  have hpnow : (w.placeAll (s.armCells c.set a) t (c.exec end_).1 sel).now = end_ := (Dev.now_of_time hvp.role (hvp.keeps.time_eq (by decide))).trans hnow
  have hwc : ∀ g, w.spCell g = s.spCell g := fun g => by rw [← hcellv, Dev.spCell, Dev.spCell, hw.keeps.spin_eq (by decide)]
  refine ⟨?_, ?_, fun hx2 => ?_, ⟨w, hwc, fun g => ?_⟩, ?_⟩
  · refine (Dev.armWork_of_cycles (congrArg Glob.cycles (hr.keeps.glob_eq (by decide))) k a).trans (q1.trans ?_)
    rw [hpnow, Dev.armWork_of_cycles ((congrArg Glob.cycles (hvp.keeps.glob_eq (by decide))).trans hcycv)]
  · rw [Dev.spArm, hr.keeps.spin_eq (by decide), ← Dev.spArm, q2, hx]
  · obtain ⟨h1, h2⟩ := hslip hx2
    exact ⟨(hr.keeps.f_eq (by decide) ..).trans ((q4 _ (by decide)).trans ((hvp.keeps.f_eq (by decide) ..).trans h1)),
      (hr.keeps.f_eq (by decide) ..).trans ((q4 _ (by decide)).trans ((hvp.keeps.f_eq (by decide) ..).trans h2))⟩
  · rw [Dev.spCell, hr.keeps.spin_eq (by decide), ← Dev.spCell, q3]
  · exact (((hv.trans (hvp.mono (by decide))).trans ((q5.mono (by decide)).grows)).trans (hr.mono (by decide))).keeps

end

end Sys2Proof.Machine
end

section
/-! PROOFS. The boundary of a cycle, and the end of an assembly (O9). -/

namespace Sys2Proof.Machine

section
variable {s : Dev} {a k : Nat}

theorem Dev.assemblyAbandon_none (h : s.oldestWork a = none) : s.assemblyAbandon a = s := by rw [Dev.assemblyAbandon, h]

theorem Dev.assemblyAbandon_passive {w : ArmWork} (h : s.oldestWork a = some k) (hw : s.armWork k a = some w) (hp : w.kind = .passive) : s.assemblyAbandon a = s := by
  rw [Dev.assemblyAbandon, h]
  dsimp only
  rw [hw]
  exact if_pos hp

theorem Dev.assemblyAbandon_due {w : ArmWork} (h : s.oldestWork a = some k) (hw : s.armWork k a = some w) (hp : w.kind ≠ .passive) :
    s.assemblyAbandon a = (s.advanceTo (s.bnd (k + 2))).abandonArm k a := by
  rw [Dev.assemblyAbandon, h]
  dsimp only
  rw [hw]
  exact if_neg hp

theorem Dev.assemblyEnd_none (h : s.oldestWork a = none) : s.assemblyEnd a = s := by rw [Dev.assemblyEnd, h]

theorem Dev.assemblyEnd_waits (h : s.oldestWork a = some k) (hw : s.assemblyStart k a = none ∨ s.unitActive = false ∨ s.run = false) : s.assemblyEnd a = s := by
  rw [Dev.assemblyEnd, h]
  dsimp only
  split
  · rename_i hs _
    refine if_pos ?_
    rcases hw with hw | hw | hw
    · rw [hw] at hs
      cases hs
    · exact .inl (by rw [hw]; decide)
    · exact .inr (.inl (by rw [hw]; decide))
  · rfl

theorem Dev.assemblyEnd_late {t : Nat} {sel : List (Nat × Nat)} (h : s.oldestWork a = some k) (hs : s.assemblyStart k a = some (t, sel)) (hl : s.bnd (k + 2) < max s.now (t + 28)) :
    s.assemblyEnd a = s := by
  rw [Dev.assemblyEnd, h]
  dsimp only
  rw [hs]
  split
  · rename_i e _
    cases e
    exact if_pos (.inr (.inr hl))
  · rfl

end

theorem Dev.SwapDue.of_seen {s u v : Dev} {w : Swap} {n : Nat} {run : Bool} (h : s.SwapDue w n run v) (e : u.swapSeen = v.swapSeen) : s.SwapDue w n run u := by
  obtain ⟨h1, h2, h3, h4, h5⟩ := h
  have hf : ∀ G ∈ swapFlds, u.f G = v.f G := fun G hG => Dev.fb_of_swapSeen e hG ..
  rw [← Dev.actSet_of_seen e] at h1 h2 h3 h4 h5
  rw [← Dev.swap_of_seen e, ← hf _ (by decide), ← hf _ (by decide)] at h3 h4
  exact ⟨h1, h2, h3, h4, h5⟩

/-- What a boundary in the MANAGER makes of the active set and of a request. -/
theorem Dev.boundary_swap {s : Dev} (hm : s.role = .manager) (hp : s.perNs ≠ 0) (hw : s.glob.warm = none) :
    (s.glob.swap = none → s.cycleBoundary.actSet = s.actSet) ∧
    (∀ w, s.glob.swap = some w → w.exchanged = false → (s.atBoundary.opened s.atTick.nextBoundary s.run).SwapDue w s.atTick.nextBoundary s.run s.cycleBoundary) ∧
    (s.atBoundary.opened s.atTick.nextBoundary s.run).actSet = s.actSet := by
  have hb := Dev.keeps_atBoundary (s := s)
  obtain ⟨-, hsw⟩ := Dev.cycleBoundary_manager hm hp hw
  have hset : (s.atBoundary.opened s.atTick.nextBoundary s.run).actSet = s.actSet := (Dev.opened_fb ..).trans (hb.f_eq (by decide) ..)
  have hswap : (s.atBoundary.opened s.atTick.nextBoundary s.run).glob.swap = s.glob.swap := congrArg Glob.swap (a₁ := s.atBoundary.glob) (a₂ := s.glob) (hb.glob_eq (by decide))
  have hidle : (s.atBoundary.opened s.atTick.nextBoundary s.run).cycleIdle = !s.run := Dev.opened_idle s.run (hb.flag_eq (by decide)) _
  generalize s.atBoundary.opened s.atTick.nextBoundary s.run = b at *
  generalize s.cycleBoundary = u at *
  refine ⟨fun hn => ?_, fun w hs he => ?_, hset⟩
  · have hb0 : b.glob.swap = none := hswap.trans hn
    rw [Dev.swapBoundary_eq, Dev.swapInTime_other (by rw [hb0]; rfl), Dev.swapTurn_none hb0] at hsw
    exact (Dev.actSet_of_seen hsw).trans hset
  · exact (Dev.swapDue (hswap.trans hs) he s.atTick.nextBoundary hidle).of_seen hsw

/-- Settles O9: a boundary is the chain of its parts, each of which keeps the grid and the swap or changes them as it says; an assembly ends or is abandoned by the case of its
function. -/
theorem cycleBoundaryAndAssembly : Obligations.CycleBoundaryAndAssembly := by
  unfold Obligations.CycleBoundaryAndAssembly
  intro s d at_ n
  have hat : at_ = d.atTick := rfl
  have hk : s.dev.Keeps [.time] [] at_ := (Dev.keeps_begin [.time] s.dev).atTick
  have hd : s.dev.Keeps [.time] [] d := Dev.keeps_begin _ _
  have hper : d.perNs = s.dev.perNs := hd.perNs_eq
  refine ⟨fun h => ?_, fun hr hp hw => ?_, fun hm hp hw => ?_, fun a h => ?_, fun a k w ho hwk => ⟨fun hpas => ?_, fun hpas => ?_⟩, fun a k ho h => ?_,
    fun a k t sel ho hs hl => ?_, fun a k t sel c w ho hs hc hwk hact hrun hl => ?_⟩
  · exact State.runs_cycleBoundary.of_eq (Dev.cycleBoundary_idle (s := d) (by rwa [hper]))
  · exact State.runs_cycleBoundary.does (Dev.cycleBoundary_other (s := d) hr (by rwa [hper]) hw)
  · have hrun : d.run = s.dev.run := hd.flag_eq (by decide)
    obtain ⟨h, -⟩ := Dev.cycleBoundary_manager (s := d) hm (by rwa [hper]) hw
    obtain ⟨hnone, hdue, hset⟩ := Dev.boundary_swap (s := d) hm (by rwa [hper]) hw
    have hf : ∀ G : Fld, G.blk.home ∉ [Blk.time] → ∀ i, d.f G i = s.dev.f G i := fun G hG i => hd.f_eq hG ..
    have hact : d.actSet = s.dev.actSet := Dev.begin_actSet _
    have hopen : d.atBoundary.opened d.atTick.nextBoundary d.run =
        { at_.advanceTo (s.dev.bnd n) with glob := { (at_.advanceTo (s.dev.bnd n)).glob with nextCyc := n + 1, running := s.dev.run } } := by
      rw [Dev.opened, Dev.atBoundary, hrun, hd.bnd_eq]
      rfl
    rw [hopen, hact] at hset
    rw [hopen, hrun] at hdue
    rw [hrun] at h
    refine State.runs_cycleBoundary.does ⟨h.nextCyc, h.running, h.stamp.trans (hd.flag_eq (by decide)), h.allow.trans ?_, h.fixed.trans ?_, fun a ha => (h.cper a ha).trans ?_, fun hr => ?_,
      fun hr => (h.idle hr).trans (hf _ (by decide) 0), fun hn => (hnone hn).trans hact, fun w hs he => ?_⟩
    · rw [hf _ (by decide)]
    · rw [hf _ (by decide)]
    · rw [hf _ (by decide)]
    · obtain ⟨h1, c, h2, h3, h4, h5⟩ := h.started hr
      exact ⟨h1, c, h2, h3, h4, h5.trans (hd.bnd_eq _)⟩
    · obtain ⟨k1, k2, k3, k4, k5⟩ := hdue w hs he
      rw [hset] at k1 k2 k3 k4 k5
      exact ⟨fun ⟨h1, h2⟩ => ⟨k1 h1 h2, h.nextCyc⟩, k2, fun hc => ⟨k3 hc, k4 hc, k5 hc⟩⟩
  · exact ⟨State.runs_assemblyAbandon.of_eq (Dev.assemblyAbandon_none h), State.runs_milestoneAssemblyEnd.of_eq (Dev.assemblyEnd_none h)⟩
  · exact State.runs_assemblyAbandon.of_eq (Dev.assemblyAbandon_passive ho hwk hpas)
  · have hadv : d.Keeps [.time] d.out (d.advanceTo (d.bnd (k + 2))) := (Dev.keeps_refl [.time] d).advanceTo (by decide) _
    obtain ⟨h1, h2, h3, h4, h5, h6⟩ := Dev.abandonArm_spec (s := d.advanceTo (d.bnd (k + 2))) k a
    refine (State.runs_assemblyAbandon.of_eq (Dev.assemblyAbandon_due ho hwk hpas)).does ⟨h1, ?_, ?_, ?_, fun g => (h5 g).trans ?_, ?_⟩
    · rw [h2, hadv.f_eq (by decide), hd.f_eq (by decide)]
    · rw [h3, Dev.armWork_of_cycles (congrArg Glob.cycles (hadv.glob_eq (by decide))), hwk]
      rfl
    · rw [h4, Dev.spArm_advanceTo]
      rfl
    · rw [Dev.spCell_advanceTo]
      rfl
    · exact ((hadv.mono (by decide)).next h6 (by decide)).of_begin
  · exact State.runs_milestoneAssemblyEnd.of_eq (Dev.assemblyEnd_waits ho (by rwa [show s.dev.unitActive = d.unitActive from rfl, show s.dev.run = d.run from rfl] at h))
  · exact State.runs_milestoneAssemblyEnd.of_eq (Dev.assemblyEnd_late ho hs (by rwa [hd.bnd_eq]))
  · have hgo : ¬ (¬ d.unitActive = true ∨ ¬ d.run = true ∨ d.bnd (k + 2) < max d.now (t + 28)) := by
      rw [show d.unitActive = s.dev.unitActive from rfl, show d.run = s.dev.run from rfl, show d.now = s.dev.now from rfl, hd.bnd_eq, hact, hrun]
      simpa using hl
    obtain ⟨h1, h2, h3, ⟨v, hv, h4⟩, h5⟩ := Dev.assemblyEnd_spec (s := d) ho hs hc hgo
    refine State.runs_milestoneAssemblyEnd.does ?_
    intro end_
    refine ⟨h1.trans (by rw [hwk]; rfl), h2, fun hx => ?_, fun g hg => ?_, fun g hg => ?_, h5.of_begin⟩
    · obtain ⟨k1, k2⟩ := h3 hx
      exact ⟨k1, k2.trans (by rw [hd.f_eq (by decide)])⟩
    · intro o x
      have hvo : v.spCell g = o := hv g
      have hxo : x = (v.placeAll (d.armCells c.set a) t (c.exec end_).1 sel).spCell g := h4 g
      rw [← hvo, hxo]
      refine ⟨fun hcl hn => ?_, fun hcl => ⟨?_, fun p hpf => ?_, fun hpf => ?_⟩⟩
      · rw [Dev.spCell_placeAll_once hg hn]
        exact SpCell.placed_close hcl _
      · rcases hcode : codeFor sel g with _ | code
        · obtain ⟨⟨q, -, -⟩, -⟩ := Dev.placeAll_none (exec := (c.exec end_).1) hg hcl hcode
          exact q
        · obtain ⟨⟨q, -⟩, -⟩ := Dev.placeAll_code (exec := (c.exec end_).1) hg hcl hcode
          exact q
      · obtain ⟨⟨-, q1⟩, q2⟩ := Dev.placeAll_code (exec := (c.exec end_).1) hg hcl (k := p.2) (by rw [codeFor, hpf]; rfl)
        exact ⟨q2, q1⟩
      · obtain ⟨⟨-, q1, -⟩, q2⟩ := Dev.placeAll_none (exec := (c.exec end_).1) (sel := sel) hg hcl (by rw [codeFor, hpf]; rfl)
        exact ⟨q1, q2⟩
    · rw [h4, Dev.spCell_placeAll_other hg, hv]
      rfl

end Sys2Proof.Machine
end
